-- ==== Sys2Proof/Word.lean ====
section
/-! DEFINITION. The word of the device and its bytes. -/

namespace Sys2Proof

/-- A register or memory word: 32 bits (00_scope.md, "Conventions"). -/
abbrev Word := BitVec 32

/-- One byte. -/
abbrev Byte := BitVec 8

/-- TICK_NO: the 48-bit global tick count, wrapping (R26). -/
abbrev Tick := BitVec 48

end Sys2Proof
end

