-- ==== Sys2Proof/Machine/Regs.lean ====
section
/-! DEFINITION. The registers of the device: one constructor of `Reg` per register the chapters' tables name, its
bus address, how many copies stand behind which selection (R520), the access of its fields (R11, R12), its reset value,
and one `Field` per named field.  Names are the manual's own. -/

namespace Sys2Proof.Machine

/-- Which copies of a register exist and what selects among them. -/
inductive Scope where
  /-- one copy -/
  | single
  /-- one copy per master, two for masters 2 to 5 (R520) -/
  | copy
  /-- per train, behind TR_SEL (R85) -/
  | train
  /-- per berth port, behind BP_SEL (R85) -/
  | berth
  /-- per lane, behind LN_CHSEL (R147) -/
  | lane
  /-- per quay, behind QY_CHSEL (R181) -/
  | quay
  /-- per line engine, behind LE_SEL (R268) -/
  | engine
  /-- per upstream subcarrier of an engine, behind TD_SEL.SC (R338) -/
  | subcarrier
  /-- per leaf of an engine, behind TD_SEL.LEAF (R338) -/
  | leaf
  /-- per measured quantity of an engine, behind MS_QSEL (R401, R415) -/
  | quantity
  /-- per equalizer tap of an engine, behind LE_MIMO_SEL -/
  | mimoTap
  /-- per encryption context, behind SEC_KSEL (R305) -/
  | context
  /-- per engine and direction, behind SEC_KSEL (R305) -/
  | engineDir
  /-- per merge group, behind MG_SEL (R363) -/
  | group
  /-- per timing reference, behind TM_RSEL (R399) -/
  | ref
  /-- per time source, behind TM_TSEL (R399) -/
  | timeSource
  /-- per clock output, behind TM_CLKO_SEL (R399) -/
  | clockOut
  /-- per mooring port, behind HR_PSEL (R482) -/
  | mport
  /-- per member, behind HR_RSEL (R482) -/
  | route
  /-- per NO_BORROW range, behind MM_NB_SEL (R510) -/
  | nbRange
  /-- per memory class, behind MM_ECC_SEL (R510) -/
  | eccClass
  /-- per SRAM macro, behind MM_MACRO_SEL (R510) -/
  | sramMacro
  deriving DecidableEq, Repr

/-- The registers, under the names of the chapters' tables. -/
inductive Reg where
  /-- 01: low half of TICK_NO -/
  | SY_TICKNO_LO
  /-- 01: high half of TICK_NO as latched -/
  | SY_TICKNO_HI
  /-- 01: position within the current tick -/
  | SY_TICKPOS
  /-- 01: device-wide loop freezes -/
  | SY_LOOP_FREEZE
  /-- 01: loop freeze and override status -/
  | SY_LOOP_STAT
  /-- 02: train selected for the TR registers -/
  | TR_SEL
  /-- 02: consequent actions of the selected train -/
  | TR_CTRL
  /-- 02: live defects of the selected train -/
  | TR_STAT
  /-- 02: sticky events of the selected train -/
  | TR_STICKY
  /-- 02: BIP-8 error count, low half -/
  | TR_BIP_LO
  /-- 02: BIP-8 error count, high half as latched -/
  | TR_BIP_HI
  /-- 02: berth port selected for the BP registers -/
  | BP_SEL
  /-- 02: pointer state of the selected berth port -/
  | BP_PSTAT
  /-- 02: justification counts of the selected berth port -/
  | BP_JCNT
  /-- 02: error counts of the selected berth port -/
  | BP_ECNT
  /-- 02: sticky events of the selected berth port -/
  | BP_STICKY
  /-- 03: swap boundary, low half -/
  | GRID_SWAP_AT_LO
  /-- 03: swap boundary, high half -/
  | GRID_SWAP_AT_HI
  /-- 03: swap commands -/
  | GRID_SWAP_CMD
  /-- 03: swap state -/
  | GRID_SWAP_STAT
  /-- 03: cause of the last rejection -/
  | GRID_SWAP_INFO
  /-- 03: size of the last computation -/
  | GRID_SWAP_CNT
  /-- 03: boundary of the last swap, low half -/
  | GRID_SWAP_DONE_LO
  /-- 03: boundary of the last swap, high half as latched -/
  | GRID_SWAP_DONE_HI
  /-- 03: stowage commands -/
  | GRID_STOW_CMD
  /-- 03: stowage engine state -/
  | GRID_STOW_STAT
  /-- 03: multicast load -/
  | GRID_MC_STAT
  /-- 03: grid events -/
  | GRID_STICKY
  /-- 03: ECC counts -/
  | GRID_ECC
  /-- 03: last uncorrectable error -/
  | GRID_ECC_ADDR
  /-- 03: slots of the selected berth port -/
  | BP_PLAN
  /-- 04: lane selected for the LN registers -/
  | LN_CHSEL
  /-- 04: configuration from the structure image -/
  | LN_CFG
  /-- 04: lane controls -/
  | LN_CTRL
  /-- 04: lane status -/
  | LN_STAT
  /-- 04: lane events -/
  | LN_STICKY
  /-- 04: lane event masks -/
  | LN_MASK
  /-- 04: training control -/
  | LN_TRAIN_CTRL
  /-- 04: training status -/
  | LN_TRAIN_STAT
  /-- 04: equalizer loop control -/
  | LN_EQ_CTRL
  /-- 04: transmit FFE, first four taps -/
  | LN_TXFFE0
  /-- 04: transmit FFE, post-cursor taps -/
  | LN_TXFFE1
  /-- 04: CTLE, VGA and DFE -/
  | LN_RXEQ
  /-- 04: receive FFE taps, pre-cursor 3 to post-cursor 1 -/
  | LN_RXFFE0
  /-- 04: receive FFE taps, post-cursors 2 to 5 -/
  | LN_RXFFE1
  /-- 04: receive FFE taps, post-cursors 6 to 8 -/
  | LN_RXFFE2
  /-- 04: PAM4 slicer threshold offsets -/
  | LN_SLICER
  /-- 04: loopback -/
  | LN_LOOP
  /-- 04: pattern generator -/
  | LN_PAT_GEN
  /-- 04: pattern checker -/
  | LN_PAT_CHK
  /-- 04: user pattern, low half -/
  | LN_PAT_USER_LO
  /-- 04: user pattern, high half -/
  | LN_PAT_USER_HI
  /-- 04: error injection -/
  | LN_INJ
  /-- 04: checker error count, low half -/
  | LN_ERR_LO
  /-- 04: checker error count, high half as latched -/
  | LN_ERR_HI
  /-- 04: checker compared-bit count, low half -/
  | LN_BITS_LO
  /-- 04: checker compared-bit count, high half as latched -/
  | LN_BITS_HI
  /-- 05: quay selected for the QY registers -/
  | QY_CHSEL
  /-- 05: client slot and counter selected -/
  | QY_CSEL
  /-- 05: configuration from the structure image -/
  | QY_CFG
  /-- 05: consequent action controls -/
  | QY_CA
  /-- 05: mapping loop controls -/
  | QY_MAP
  /-- 05: live client status -/
  | QY_STAT
  /-- 05: quay events -/
  | QY_STICKY
  /-- 05: quay event masks -/
  | QY_MASK
  /-- 05: FIFO deviations of the selected client -/
  | QY_FIFO
  /-- 05: egress latency of the selected client -/
  | QY_DLY
  /-- 05: selected counter, low half -/
  | QY_CNT_LO
  /-- 05: selected counter, high half as latched -/
  | QY_CNT_HI
  /-- 05: received trace of the selected client -/
  | QY_TRACE
  /-- 05: timestamp unit control -/
  | QY_TS_CTRL
  /-- 05: board delay correction -/
  | QY_TS_ADJ
  /-- 05: packet buffer status -/
  | QY_XSTAT
  /-- 05: extraction read port -/
  | QY_XDATA
  /-- 05: insertion write port -/
  | QY_IDATA
  /-- 05: egress timestamp FIFO, entry header -/
  | QY_TSF0
  /-- 05: latched timestamp, seconds high -/
  | QY_TSF1
  /-- 05: latched timestamp, seconds low and nanoseconds high -/
  | QY_TSF2
  /-- 05: latched timestamp, nanoseconds low and fraction -/
  | QY_TSF3
  /-- 06: frame configuration from the structure image -/
  | LF_CFG
  /-- 06: alignment state -/
  | LF_ALIGN
  /-- 06: live defects -/
  | LF_STAT
  /-- 06: frame events -/
  | LF_STICKY
  /-- 06: frame event masks -/
  | LF_MASK
  /-- 06: consequent action controls -/
  | LF_CA
  /-- 06: berth-map identifiers -/
  | LF_MID_TX
  /-- 06: berth-map identifiers -/
  | LF_MID_NEXT
  /-- 06: berth-map identifiers -/
  | LF_MID_EXP
  /-- 06: berth-map identifiers -/
  | LF_MID_RX
  /-- 06: expected received FNO, low half -/
  | LF_FNO_LO
  /-- 06: expected received FNO, high half as latched -/
  | LF_FNO_HI
  /-- 06: PM counter selected -/
  | LF_PM_SEL
  /-- 06: selected PM counter, low half -/
  | LF_PM_LO
  /-- 06: selected PM counter, high half as latched -/
  | LF_PM_HI
  /-- 06: GCC buffer status -/
  | LF_GCC_STAT
  /-- 06: GCC receive read ports -/
  | LF_GCC_RXD0
  /-- 06: GCC receive read ports -/
  | LF_GCC_RXD1
  /-- 06: GCC transmit write ports -/
  | LF_GCC_TXD0
  /-- 06: GCC transmit write ports -/
  | LF_GCC_TXD1
  /-- 07: engine selected for the LE window -/
  | LE_SEL
  /-- 07: symbol format from the structure image -/
  | LE_CFG
  /-- 07: shaping composition -/
  | LE_SHAPE
  /-- 07: engine controls -/
  | LE_CTRL
  /-- 07: engine status -/
  | LE_STAT
  /-- 07: engine events -/
  | LE_STICKY
  /-- 07: engine event masks -/
  | LE_MASK
  /-- 07: ramp durations -/
  | LE_RAMP
  /-- 07: driver swing -/
  | LE_DRV
  /-- 07: channel skew -/
  | LE_TXSKEW
  /-- 07: channel skew -/
  | LE_RXSKEW
  /-- 07: RMP_OUT control -/
  | LE_RMP
  /-- 07: loss-of-signal thresholds -/
  | LE_LOS
  /-- 07: acquisition hint -/
  | LE_ACQ
  /-- 07: applied CD compensation -/
  | LE_CD
  /-- 07: carrier frequency offset -/
  | LE_FOFS
  /-- 07: loop state -/
  | LE_EQ_STAT
  /-- 07: MIMO tap selected -/
  | LE_MIMO_SEL
  /-- 07: selected MIMO tap -/
  | LE_MIMO_DATA
  /-- 07: carrier pair skew -/
  | LE_PAIR
  /-- 07: transmit optical frequency -/
  | LE_LASER
  /-- 07: optics SPI control -/
  | LE_SPI_CTRL
  /-- 07: optics SPI data -/
  | LE_SPI_D0
  /-- 07: optics SPI data -/
  | LE_SPI_D1
  /-- 08: pool control -/
  | FP_CTRL
  /-- 08: pool frequency loop limits -/
  | FP_FREQ
  /-- 08: pool power limit -/
  | FP_PLIM
  /-- 08: pool frequency and budget -/
  | FP_STAT
  /-- 08: load of the last tick -/
  | FP_LOAD
  /-- 08: iterations used in the last tick -/
  | FP_USED
  /-- 08: engine and counter selected -/
  | FP_SEL
  /-- 08: selected counter, low half -/
  | FP_CNT_LO
  /-- 08: selected counter, high half as latched -/
  | FP_CNT_HI
  /-- 08: pool events -/
  | FP_STICKY
  /-- 08: pool event masks -/
  | FP_MASK
  /-- 08: device key status -/
  | SEC_DK_STAT
  /-- 08: context selected -/
  | SEC_KSEL
  /-- 08: context definition -/
  | SEC_CTX_CFG
  /-- 08: context state -/
  | SEC_CTX_STAT
  /-- 08: context check counts -/
  | SEC_CTX_CNT
  /-- 08: last failed block -/
  | SEC_CTX_LAST
  /-- 08: wrapped key -/
  | SEC_KWRAP
  /-- 08: change boundary, low half -/
  | SEC_KAT_LO
  /-- 08: change boundary, high half -/
  | SEC_KAT_HI
  /-- 08: key commands -/
  | SEC_KCMD
  /-- 08: result of this master's last command -/
  | SEC_KRES
  /-- 08: receive check controls of the selected engine -/
  | SEC_ECTRL
  /-- 08: encryption events of the selected engine -/
  | SEC_ESTICKY
  /-- 08: encryption event masks -/
  | SEC_EMASK
  /-- 09: subcarrier and leaf selected -/
  | TD_SEL
  /-- 09: hub timing from the structure image -/
  | TD_CFG
  /-- 09: upstream format -/
  | TD_FMT
  /-- 09: upstream subcarrier types -/
  | TD_SCTYPE
  /-- 09: downstream subcarriers lit -/
  | TD_DS
  /-- 09: detection controls -/
  | TD_THR
  /-- 09: thresholds of the selected subcarrier -/
  | TD_THR_STAT
  /-- 09: schedule bank -/
  | TD_GS_CTRL
  /-- 09: schedule banks -/
  | TD_GS_BANK0
  /-- 09: schedule banks -/
  | TD_GS_BANK1
  /-- 09: selected leaf definition -/
  | TD_LEAF_CFG
  /-- 09: selected leaf status -/
  | TD_LEAF_STAT
  /-- 09: last misdirected burst -/
  | TD_SC_LAST
  /-- 09: events of the selected subcarrier -/
  | TD_SC_STICKY
  /-- 09: events of the selected leaf -/
  | TD_LEAF_STICKY
  /-- 09: Tide event masks -/
  | TD_MASK
  /-- 09: counter selected -/
  | TD_CSEL
  /-- 09: selected counter, low half -/
  | TD_CNT_LO
  /-- 09: selected counter, high half as latched -/
  | TD_CNT_HI
  /-- 10: group selected -/
  | MG_SEL
  /-- 10: group definition from the structure image -/
  | MG_CFG
  /-- 10: instance ranges -/
  | MG_INST
  /-- 10: size and range -/
  | MG_RANGE
  /-- 10: group controls -/
  | MG_CTRL
  /-- 10: group status -/
  | MG_STAT
  /-- 10: measured differential delay -/
  | MG_DELAY
  /-- 10: held differential delay -/
  | MG_DHELD
  /-- 10: APS words -/
  | MG_APS_TX
  /-- 10: APS words -/
  | MG_APS_RX
  /-- 10: group events -/
  | MG_STICKY
  /-- 10: group event masks -/
  | MG_MASK
  /-- 10: counter selected -/
  | MG_CSEL
  /-- 10: selected counter, low half -/
  | MG_CNT_LO
  /-- 10: selected counter, high half as latched -/
  | MG_CNT_HI
  /-- 11: local oscillator -/
  | TM_XO
  /-- 11: recovered-clock slots -/
  | TM_RCV
  /-- 11: reference selected -/
  | TM_RSEL
  /-- 11: nominal frequency of the selected reference -/
  | TM_REF_FREQ
  /-- 11: selected reference settings -/
  | TM_REF_CFG
  /-- 11: selected reference status -/
  | TM_REF_STAT
  /-- 11: grid and output DPLL control -/
  | TM_GD_CTRL
  /-- 11: grid and output DPLL control -/
  | TM_OD_CTRL
  /-- 11: grid and output DPLL status -/
  | TM_GD_STAT
  /-- 11: grid and output DPLL status -/
  | TM_OD_STAT
  /-- 11: time source selected -/
  | TM_TSEL
  /-- 11: time source settings -/
  | TM_TS_CFG
  /-- 11: fixed correction -/
  | TM_TS_ADJ
  /-- 11: time source status -/
  | TM_TS_STAT
  /-- 11: exchange results -/
  | TM_TS_OFS
  /-- 11: exchange results -/
  | TM_TS_DLY
  /-- 11: exchange results -/
  | TM_TS_ASYM
  /-- 11: time DPLL control -/
  | TM_TD_CTRL
  /-- 11: time DPLL status -/
  | TM_TD_STAT
  /-- 11: software source measurement -/
  | TM_SW_OFS
  /-- 11: time of a boundary -/
  | TM_TB0
  /-- 11: time of a boundary -/
  | TM_TB1
  /-- 11: time of a boundary -/
  | TM_TB2
  /-- 11: time of a boundary -/
  | TM_TB3
  /-- 11: time of a boundary -/
  | TM_TB4
  /-- 11: UTC information -/
  | TM_UTC
  /-- 11: Invar control -/
  | TM_INV_CTRL
  /-- 11: Invar status -/
  | TM_INV_STAT
  /-- 11: board temperature -/
  | TM_INV_TEMP
  /-- 11: 1PPS and ToD -/
  | TM_PPS_CFG
  /-- 11: 1PPS output delay -/
  | TM_PPS_ADJ
  /-- 11: clock output selected -/
  | TM_CLKO_SEL
  /-- 11: selected clock output -/
  | TM_CLKO_CFG
  /-- 11: selected clock output frequency -/
  | TM_CLKO_FREQ
  /-- 11: tick pins -/
  | TM_TICK
  /-- 11: timing events -/
  | TM_STICKY
  /-- 11: timing event masks -/
  | TM_MASK
  /-- 12: quantity selected -/
  | MS_QSEL
  /-- 12: selected quantity -/
  | MS_QVAL
  /-- 12: calibration -/
  | MS_CAL
  /-- 12: length coefficients -/
  | MS_LEN
  /-- 12: SOP transient detection -/
  | MS_SOP_CFG
  /-- 12: last SOP transient -/
  | MS_SOP_LAST
  /-- 12: start of the last SOP transient -/
  | MS_SOP_START
  /-- 12: SOP transients -/
  | MS_SOP_CNT
  /-- 12: measurement events -/
  | MS_STICKY
  /-- 12: measurement event masks -/
  | MS_MASK
  /-- 12: capture configuration -/
  | CAP_CFG
  /-- 12: capture triggers -/
  | CAP_TRIG
  /-- 12: capture commands -/
  | CAP_CTRL
  /-- 12: capture status -/
  | CAP_STAT
  /-- 12: SURVEY configuration from the structure image -/
  | SV_CFG
  /-- 12: SURVEY status -/
  | SV_STAT
  /-- 13: pair settings from the structure image -/
  | MT_CFG
  /-- 13: pair commands -/
  | MT_CTRL
  /-- 13: pair status -/
  | MT_STAT
  /-- 13: journal position -/
  | MT_JSEQ
  /-- 13: last complete epoch -/
  | MT_EPOCH
  /-- 13: last mismatch -/
  | MT_MISS_TICK
  /-- 13: ports of the last mismatch -/
  | MT_MISS_PORT
  /-- 13: counter selected -/
  | MT_CSEL
  /-- 13: selected counter, low half -/
  | MT_CNT_LO
  /-- 13: selected counter, high half as latched -/
  | MT_CNT_HI
  /-- 13: pair events -/
  | MT_STICKY
  /-- 13: pair event masks -/
  | MT_MASK
  /-- 14: role and domain settings -/
  | HR_CFG
  /-- 14: domain id -/
  | HR_DOMAIN
  /-- 14: member status -/
  | HR_STAT
  /-- 14: port selected -/
  | HR_PSEL
  /-- 14: port controls -/
  | HR_PORT_CFG
  /-- 14: port status -/
  | HR_PORT_STAT
  /-- 14: hop measurement -/
  | HR_DLY
  /-- 14: hop measurement -/
  | HR_OFS
  /-- 14: hop asymmetry correction -/
  | HR_ADJ
  /-- 14: port events -/
  | HR_STICKY
  /-- 14: port event masks -/
  | HR_MASK
  /-- 14: counter selected -/
  | HR_CSEL
  /-- 14: selected counter -/
  | HR_CNT_LO
  /-- 14: selected counter -/
  | HR_CNT_HI
  /-- 14: control channel user data -/
  | HR_CC_STAT
  /-- 14: control channel user data -/
  | HR_CC_TXD
  /-- 14: control channel user data -/
  | HR_CC_RXD
  /-- 14: commit boundary -/
  | HR_DC_AT_LO
  /-- 14: commit boundary -/
  | HR_DC_AT_HI
  /-- 14: domain commit command, manager only -/
  | HR_DC_CMD
  /-- 14: domain commit status -/
  | HR_DC_STAT
  /-- 14: replies of the last commit -/
  | HR_DC_ACK
  /-- 14: replies of the last commit -/
  | HR_DC_SKEW
  /-- 14: domain events -/
  | HR_DSTICKY
  /-- 14: domain event masks -/
  | HR_DMASK
  /-- 14: route table -/
  | HR_RSEL
  /-- 14: route table -/
  | HR_ROUTE
  /-- 15: aperture page of this master -/
  | MM_APERTURE
  /-- 15: PCIe BAR2 page -/
  | MM_BAR2
  /-- 15: Anchorage population -/
  | MM_ANC_STAT
  /-- 15: scratchpad BUSY counts -/
  | MM_BUSY
  /-- 15: memory class selected -/
  | MM_ECC_SEL
  /-- 15: ECC counts of the selected class -/
  | MM_ECC_CNT
  /-- 15: last uncorrectable error -/
  | MM_ECC_ADDR_LO
  /-- 15: last uncorrectable error -/
  | MM_ECC_ADDR_HI
  /-- 15: NO_BORROW ranges -/
  | MM_NB_SEL
  /-- 15: NO_BORROW ranges -/
  | MM_NB_BASE
  /-- 15: NO_BORROW ranges -/
  | MM_NB_SIZE
  /-- 15: background test settings -/
  | MM_BT_CFG
  /-- 15: background test status -/
  | MM_BT_STAT
  /-- 15: last march failure -/
  | MM_BT_FAIL
  /-- 15: macro information -/
  | MM_MACRO_SEL
  /-- 15: macro information -/
  | MM_MACRO
  /-- 15: field repair command -/
  | MM_REP_CTRL
  /-- 15: field repair status -/
  | MM_REP_STAT
  /-- 15: memory events -/
  | MM_STICKY
  /-- 15: memory event masks -/
  | MM_MASK
  /-- 16: device identity -/
  | SY_ID
  /-- 16: device state -/
  | SY_STATE
  /-- 16: service mode -/
  | SY_MODE
  /-- 16: straps sampled at PORSTn -/
  | SY_STRAP
  /-- 16: boot remap -/
  | SY_REMAP
  /-- 16: Pilot core run control -/
  | SY_PC_CTRL
  /-- 16: start addresses -/
  | SY_PC_VEC
  /-- 16: software interrupts -/
  | SY_PC_SWI
  /-- 16: timer compare of core c -/
  | SY_PC_TCMP_LO
  /-- 16: timer compare of core c -/
  | SY_PC_TCMP_HI
  /-- 16: applet slot states -/
  | SY_APPLET
  /-- 16: applet commands -/
  | SY_APPLET_CTRL
  /-- 16: last applet fault -/
  | SY_APPLET_FLT
  /-- 16: junction temperature -/
  | SY_THERM
  /-- 16: AVS loop state -/
  | SY_AVS_CORE
  /-- 16: AVS loop state -/
  | SY_AVS_LE
  /-- 16: flash command -/
  | SY_QSPI_CMD
  /-- 16: console UART -/
  | SY_UART
  /-- 16: I²C mailboxes -/
  | SY_MBX
  /-- 16: I²C mailboxes -/
  | SY_MBX_DATA
  /-- 16: system events -/
  | SY_STICKY
  /-- 16: matrix settings -/
  | BM_CFG
  /-- 16: last error response -/
  | BM_ERR
  /-- 16: outstanding transactions -/
  | BM_MSTAT
  /-- 16: matrix events -/
  | BM_STICKY
  /-- 17: last reset -/
  | SY_RST_CAUSE
  /-- 17: boot choice -/
  | SY_BOOT_STAT
  /-- 17: commit boundary -/
  | SY_IMG_AT_LO
  /-- 17: commit boundary -/
  | SY_IMG_AT_HI
  /-- 17: image commands -/
  | SY_IMG_CMD
  /-- 17: staging source -/
  | SY_IMG_SRC
  /-- 17: image state -/
  | SY_IMG_STAT
  /-- 17: rejection cause -/
  | SY_IMG_ERR
  /-- 17: rejection cause -/
  | SY_IMG_RULE
  /-- 17: image digests -/
  | SY_IMG_DIGEST
  /-- 17: image digests -/
  | SY_IMG_DIGEST_A
  /-- 17: image events -/
  | SY_IMG_STICKY
  /-- 17: image events -/
  | SY_IMG_MASK
  /-- 17: block reset -/
  | SY_BLKRST
  /-- 17: fuse state -/
  | SEC_SB_STAT
  /-- 17: debug unlock -/
  | SEC_DBG_CTRL
  /-- 17: fuse value -/
  | SEC_FUSE_DATA
  /-- 17: fuse command -/
  | SEC_FUSE_CMD
  /-- 17: fuse result -/
  | SEC_FUSE_STAT
  /-- 18: group status -/
  | EV_STAT
  /-- 18: group status -/
  | EV_STICKY
  /-- 18: group status -/
  | EV_PEND
  /-- 18: groups pending -/
  | EV_GPEND
  /-- 18: logger settings -/
  | EV_LOG_CFG
  /-- 18: ring indices -/
  | EV_LOG_WR
  /-- 18: ring indices -/
  | EV_LOG_RD
  /-- 18: ring indices -/
  | EV_ARCH_WR
  /-- 18: logger status -/
  | EV_LOG_STAT
  /-- 18: source configuration -/
  | EV_SRC_CFG
  /-- 18: source counts -/
  | EV_SRC_CNT
  /-- 18: source counts -/
  | EV_COAL_CNT
  /-- 18: overflow bits -/
  | PC_OVF_LO
  /-- 18: overflow bits -/
  | PC_OVF_HI
  /-- 18: counter events -/
  | PC_STICKY
  /-- 18: counter events -/
  | PC_MASK
  /-- 18: dump engine stop -/
  | PC_DUMP_CTRL
  /-- 18: PM history -/
  | PM_CFG
  /-- 18: PM history -/
  | PM_STAT
  /-- 18: event selection -/
  | PC_EVSEL
  /-- 18: counters -/
  | PC_CNT_LO
  /-- 18: counters -/
  | PC_CNT_HI
  /-- 19: BIST command -/
  | TS_BIST_CTRL
  /-- 19: BIST result -/
  | TS_BIST_STAT
  /-- 19: test events -/
  | TS_STICKY
  /-- 19: test events -/
  | TS_MASK
  /-- 16: flash address -/
  | SY_QSPI_ADDR
  /-- 16: flash buffer -/
  | SY_QSPI_BUF
  /-- 16: system event masks -/
  | SY_MASK
  /-- 16: address of the last error response -/
  | BM_ERR_ADDR
  /-- 16: matrix event masks -/
  | BM_MASK
  /-- 18: masks LOG_OVR -/
  | EV_LOG_MASK
  /-- 18: user-mode read permission -/
  | PC_ACCESS
  /-- 18: counter set id -/
  | PC_SETID
  /-- 18: dump ring register -/
  | PC_DUMP_CFG
  /-- 18: dump ring register -/
  | PC_DUMP_LIST
  /-- 18: dump ring register -/
  | PC_DUMP_BASE_LO
  /-- 18: dump ring register -/
  | PC_DUMP_BASE_HI
  /-- 18: dump ring register -/
  | PC_DUMP_SIZE
  /-- 18: dump ring register -/
  | PC_DUMP_WR
  /-- 18: dump ring register -/
  | PC_DUMP_RD
  /-- 18: dump ring register -/
  | PC_DUMP_STAT
  /-- 16: message address of a vector, low half -/
  | MSIX_ADDR_LO
  /-- 16: message address of a vector, high half -/
  | MSIX_ADDR_HI
  /-- 16: message data of a vector -/
  | MSIX_DATA
  /-- 16: vector control -/
  | MSIX_CTRL
  deriving DecidableEq, Repr

/-- What the tables say of one register: its bus address, the distance and number of an array of it, the selection it
stands behind, the bits software may write (RW), clear by 1 (W1C), set by 1 (W1S), the bits whose writing starts an
action (SC, WO), every bit that is not reserved (R11), and the value after PORSTn. -/
structure RegInfo where
  addr : Nat
  stride : Nat
  count : Nat
  scope : Scope
  rw : Nat
  w1c : Nat
  w1s : Nat
  act : Nat
  impl : Nat
  reset : Nat
  deriving DecidableEq, Repr

/-- The register tables of the chapters. -/
def Reg.info : Reg → RegInfo
  | .SY_TICKNO_LO => ⟨0x20000100, 4, 1, .single, 0, 0, 0, 0, 0xffffffff, 0⟩
  | .SY_TICKNO_HI => ⟨0x20000104, 4, 1, .copy, 0, 0, 0, 0, 0xffff, 0⟩
  | .SY_TICKPOS => ⟨0x20000108, 4, 1, .single, 0, 0, 0, 0, 0x3fff, 0⟩
  | .SY_LOOP_FREEZE => ⟨0x20000110, 4, 1, .single, 0xff, 0, 0, 0, 0xff, 0⟩
  | .SY_LOOP_STAT => ⟨0x20000114, 4, 1, .single, 0, 0, 0, 0, 0x7ff, 0⟩
  | .TR_SEL => ⟨0x21000400, 4, 1, .copy, 0xfff, 0, 0, 0, 0xfff, 0⟩
  | .TR_CTRL => ⟨0x21000404, 4, 1, .train, 0xfff0007, 0, 0, 0, 0xfff0007, 0⟩
  | .TR_STAT => ⟨0x21000408, 4, 1, .train, 0, 0, 0, 0, 0x3f, 1⟩
  | .TR_STICKY => ⟨0x2100040C, 4, 1, .train, 0, 0xff, 0, 0, 0xff, 0⟩
  | .TR_BIP_LO => ⟨0x21000410, 4, 1, .train, 0, 0, 0, 0, 0xffffffff, 0⟩
  | .TR_BIP_HI => ⟨0x21000414, 4, 1, .copy, 0, 0, 0, 0, 0xffff, 0⟩
  | .BP_SEL => ⟨0x21000500, 4, 1, .copy, 0x7fff, 0, 0, 0, 0x7fff, 0⟩
  | .BP_PSTAT => ⟨0x21000504, 4, 1, .berth, 0, 0, 0, 0, 0xffffffff, 0xc0000000⟩
  | .BP_JCNT => ⟨0x21000508, 4, 1, .berth, 0, 0, 0, 0, 0xffffffff, 0⟩
  | .BP_ECNT => ⟨0x2100050C, 4, 1, .berth, 0, 0, 0, 0, 0xffffffff, 0⟩
  | .BP_STICKY => ⟨0x21000510, 4, 1, .berth, 0, 0x1f, 0, 0, 0x1f, 0⟩
  | .GRID_SWAP_AT_LO => ⟨0x21000010, 4, 1, .single, 0xffffffff, 0, 0, 0, 0xffffffff, 0⟩
  | .GRID_SWAP_AT_HI => ⟨0x21000014, 4, 1, .single, 0xffff, 0, 0, 0, 0xffff, 0⟩
  | .GRID_SWAP_CMD => ⟨0x21000018, 4, 1, .single, 8, 0, 0, 7, 0xf, 8⟩
  | .GRID_SWAP_STAT => ⟨0x2100001C, 4, 1, .single, 0, 0, 0, 0, 0xffc00000, 0⟩
  | .GRID_SWAP_INFO => ⟨0x21000020, 4, 1, .single, 0, 0, 0, 0, 0xf0007fff, 0⟩
  | .GRID_SWAP_CNT => ⟨0x21000024, 4, 1, .single, 0, 0, 0, 0, 0x7fff7fff, 0⟩
  | .GRID_SWAP_DONE_LO => ⟨0x21000028, 4, 1, .single, 0, 0, 0, 0, 0xffffffff, 0⟩
  | .GRID_SWAP_DONE_HI => ⟨0x2100002C, 4, 1, .copy, 0, 0, 0, 0, 0xffff, 0⟩
  | .GRID_STOW_CMD => ⟨0x21000030, 4, 1, .single, 0, 0, 0, 1, 1, 0⟩
  | .GRID_STOW_STAT => ⟨0x21000034, 4, 1, .single, 0, 0, 0, 0, 0xc1ff7fff, 0⟩
  | .GRID_MC_STAT => ⟨0x21000038, 4, 1, .single, 0, 0, 0, 0, 0x7fff7fff, 0⟩
  | .GRID_STICKY => ⟨0x21000040, 4, 1, .single, 0, 0x7ff, 0, 0, 0x7ff, 0⟩
  | .GRID_ECC => ⟨0x21000044, 4, 1, .single, 0, 0, 0, 0, 0xffffffff, 0⟩
  | .GRID_ECC_ADDR => ⟨0x21000048, 4, 1, .single, 0, 0, 0, 0, 0xe0007fff, 0⟩
  | .BP_PLAN => ⟨0x21000514, 4, 1, .berth, 0, 0, 0, 0, 0x81fff1ff, 0⟩
  | .LN_CHSEL => ⟨0x23000000, 4, 1, .copy, 0x7f, 0, 0, 0, 0x7f, 0⟩
  | .LN_CFG => ⟨0x23000010, 4, 1, .lane, 0, 0, 0, 0, 0x3fdf, 0⟩
  | .LN_CTRL => ⟨0x23000014, 4, 1, .lane, 0x1f, 0, 0, 0, 0x1f, 1⟩
  | .LN_STAT => ⟨0x23000018, 4, 1, .lane, 0, 0, 0, 0, 0xff0003f7, 0⟩
  | .LN_STICKY => ⟨0x2300001C, 4, 1, .lane, 0, 0xfff, 0, 0, 0xfff, 0⟩
  | .LN_MASK => ⟨0x23000020, 4, 1, .lane, 0xfff, 0, 0, 0, 0xfff, 0x28a⟩
  | .LN_TRAIN_CTRL => ⟨0x23000030, 4, 1, .lane, 2, 0, 0, 1, 3, 0⟩
  | .LN_TRAIN_STAT => ⟨0x23000034, 4, 1, .lane, 0, 0, 0, 0, 0xff80f, 0⟩
  | .LN_EQ_CTRL => ⟨0x23000040, 4, 1, .lane, 0x1f07, 0, 0, 0, 0x1f07, 0xa00⟩
  | .LN_TXFFE0 => ⟨0x23000044, 4, 1, .lane, 0, 0, 0, 0, 0xffffffff, 0x80000000⟩
  | .LN_TXFFE1 => ⟨0x23000048, 4, 1, .lane, 0, 0, 0, 0, 0xffff, 0⟩
  | .LN_RXEQ => ⟨0x2300004C, 4, 1, .lane, 0, 0, 0, 0, 0xff1f3f, 0⟩
  | .LN_RXFFE0 => ⟨0x23000050, 4, 1, .lane, 0, 0, 0, 0, 0xffffffff, 0⟩
  | .LN_RXFFE1 => ⟨0x23000054, 4, 1, .lane, 0, 0, 0, 0, 0xffffffff, 0⟩
  | .LN_RXFFE2 => ⟨0x23000058, 4, 1, .lane, 0, 0, 0, 0, 0xffffff, 0⟩
  | .LN_SLICER => ⟨0x2300005C, 4, 1, .lane, 0, 0, 0, 0, 0xffffff, 0⟩
  | .LN_LOOP => ⟨0x23000060, 4, 1, .lane, 7, 0, 0, 0, 7, 0⟩
  | .LN_PAT_GEN => ⟨0x23000070, 4, 1, .lane, 0x1f1f, 0, 0, 0, 0x1f1f, 0xa⟩
  | .LN_PAT_CHK => ⟨0x23000074, 4, 1, .lane, 0x1f, 0, 0, 0x20, 0x3f, 0xa⟩
  | .LN_PAT_USER_LO => ⟨0x23000078, 4, 1, .lane, 0xffffffff, 0, 0, 0, 0xffffffff, 0⟩
  | .LN_PAT_USER_HI => ⟨0x2300007C, 4, 1, .lane, 0xffffffff, 0, 0, 0, 0xffffffff, 0⟩
  | .LN_INJ => ⟨0x23000080, 4, 1, .lane, 0xffff8004, 0, 0, 3, 0xffff8007, 0⟩
  | .LN_ERR_LO => ⟨0x23000084, 4, 1, .lane, 0, 0, 0, 0, 0xffffffff, 0⟩
  | .LN_ERR_HI => ⟨0x23000088, 4, 1, .copy, 0, 0, 0, 0, 0xffff, 0⟩
  | .LN_BITS_LO => ⟨0x2300008C, 4, 1, .lane, 0, 0, 0, 0, 0xffffffff, 0⟩
  | .LN_BITS_HI => ⟨0x23000090, 4, 1, .copy, 0, 0, 0, 0, 0xffff, 0⟩
  | .QY_CHSEL => ⟨0x22000000, 4, 1, .copy, 0x3f, 0, 0, 0, 0x3f, 0⟩
  | .QY_CSEL => ⟨0x22000004, 4, 1, .copy, 0xf01, 0, 0, 0, 0xf01, 0⟩
  | .QY_CFG => ⟨0x22000010, 4, 1, .quay, 0, 0, 0, 0, 0xff7cfefe, 0⟩
  | .QY_CA => ⟨0x22000014, 4, 1, .quay, 0xff1f, 0, 0, 0, 0xff1f, 0⟩
  | .QY_MAP => ⟨0x22000018, 4, 1, .quay, 0xffff, 0, 0, 0, 0xffff, 0x2828⟩
  | .QY_STAT => ⟨0x2200001C, 4, 1, .quay, 0, 0, 0, 0, 0xffff, 0⟩
  | .QY_STICKY => ⟨0x22000020, 4, 1, .quay, 0, 0x7ffff, 0, 0, 0x7ffff, 0⟩
  | .QY_MASK => ⟨0x22000024, 4, 1, .quay, 0x7ffff, 0, 0, 0, 0x7ffff, 0⟩
  | .QY_FIFO => ⟨0x22000028, 4, 1, .quay, 0, 0, 0, 0, 0xffffffff, 0⟩
  | .QY_DLY => ⟨0x2200002C, 4, 1, .quay, 0, 0, 0, 0, 0xfffff, 0⟩
  | .QY_CNT_LO => ⟨0x22000030, 4, 1, .quay, 0, 0, 0, 0, 0xffffffff, 0⟩
  | .QY_CNT_HI => ⟨0x22000034, 4, 1, .copy, 0, 0, 0, 0, 0xffff, 0⟩
  | .QY_TRACE => ⟨0x22000040, 4, 4, .quay, 0, 0, 0, 0, 0xffffffff, 0⟩
  | .QY_TS_CTRL => ⟨0x22000080, 4, 1, .quay, 0xff3f, 0, 0, 0, 0xff3f, 0x1c1c⟩
  | .QY_TS_ADJ => ⟨0x22000084, 4, 1, .quay, 0xffffffff, 0, 0, 0, 0xffffffff, 0⟩
  | .QY_XSTAT => ⟨0x22000090, 4, 1, .quay, 0, 0, 0, 0, 0xff7f3fff, 0x400000⟩
  | .QY_XDATA => ⟨0x22000094, 4, 1, .quay, 0, 0, 0, 0, 0xffffffff, 0⟩
  | .QY_IDATA => ⟨0x22000098, 4, 1, .quay, 0, 0, 0, 0xffffffff, 0xffffffff, 0⟩
  | .QY_TSF0 => ⟨0x220000A0, 4, 1, .quay, 0, 0, 0, 0, 0xfc00ffff, 0⟩
  | .QY_TSF1 => ⟨0x220000A4, 4, 1, .quay, 0, 0, 0, 0, 0xffffffff, 0⟩
  | .QY_TSF2 => ⟨0x220000A8, 4, 1, .quay, 0, 0, 0, 0, 0xffffffff, 0⟩
  | .QY_TSF3 => ⟨0x220000AC, 4, 1, .quay, 0, 0, 0, 0, 0xfffcffff, 0⟩
  | .LF_CFG => ⟨0x24000800, 4, 1, .engine, 0, 0, 0, 0, 0xff03ef, 0⟩
  | .LF_ALIGN => ⟨0x24000804, 4, 1, .engine, 0, 0, 0, 0, 0xfc0001ff, 0xe0000000⟩
  | .LF_STAT => ⟨0x24000808, 4, 1, .engine, 0, 0, 0, 0, 0xff, 0x8f⟩
  | .LF_STICKY => ⟨0x2400080C, 4, 1, .engine, 0, 0xfff, 0, 0, 0xfff, 0⟩
  | .LF_MASK => ⟨0x24000810, 4, 1, .engine, 0xfff, 0, 0, 0, 0xfff, 0x340⟩
  | .LF_CA => ⟨0x24000814, 4, 1, .engine, 0x3f, 0, 0, 0, 0x3f, 0⟩
  | .LF_MID_TX => ⟨0x24000818, 4, 1, .engine, 0xffffffff, 0, 0, 0, 0xffffffff, 0⟩
  | .LF_MID_NEXT => ⟨0x2400081C, 4, 1, .engine, 0xffffffff, 0, 0, 0, 0xffffffff, 0⟩
  | .LF_MID_EXP => ⟨0x24000820, 4, 1, .engine, 0xffffffff, 0, 0, 0, 0xffffffff, 0⟩
  | .LF_MID_RX => ⟨0x24000824, 4, 1, .engine, 0, 0, 0, 0, 0xffffffff, 0⟩
  | .LF_FNO_LO => ⟨0x24000828, 4, 1, .engine, 0, 0, 0, 0, 0xffffffff, 0⟩
  | .LF_FNO_HI => ⟨0x2400082C, 4, 1, .copy, 0, 0, 0, 0, 0xffff, 0⟩
  | .LF_PM_SEL => ⟨0x24000830, 4, 1, .copy, 0xf, 0, 0, 0, 0xf, 0⟩
  | .LF_PM_LO => ⟨0x24000834, 4, 1, .engine, 0, 0, 0, 0, 0xffffffff, 0⟩
  | .LF_PM_HI => ⟨0x24000838, 4, 1, .copy, 0, 0, 0, 0, 0xffff, 0⟩
  | .LF_GCC_STAT => ⟨0x24000840, 4, 1, .engine, 0, 0, 0, 0, 0xffffffff, 0x8080⟩
  | .LF_GCC_RXD0 => ⟨0x24000844, 4, 1, .engine, 0, 0, 0, 0, 0xffffffff, 0⟩
  | .LF_GCC_RXD1 => ⟨0x24000848, 4, 1, .engine, 0, 0, 0, 0, 0xffffffff, 0⟩
  | .LF_GCC_TXD0 => ⟨0x2400084C, 4, 1, .engine, 0, 0, 0, 0xffffffff, 0xffffffff, 0⟩
  | .LF_GCC_TXD1 => ⟨0x24000850, 4, 1, .engine, 0, 0, 0, 0xffffffff, 0xffffffff, 0⟩
  | .LE_SEL => ⟨0x24000000, 4, 1, .copy, 7, 0, 0, 0, 7, 0⟩
  | .LE_CFG => ⟨0x24000010, 4, 1, .engine, 0, 0, 0, 0, 0xfffff97f, 0⟩
  | .LE_SHAPE => ⟨0x24000014, 4, 1, .engine, 0, 0, 0, 0, 0xffffffff, 0⟩
  | .LE_CTRL => ⟨0x24000018, 4, 1, .engine, 0x2f03, 0, 0, 0x1000, 0x3f03, 0⟩
  | .LE_STAT => ⟨0x2400001C, 4, 1, .engine, 0, 0, 0, 0, 0xfff73707, 0⟩
  | .LE_STICKY => ⟨0x24000020, 4, 1, .engine, 0, 0xfff, 0, 0, 0xfff, 0⟩
  | .LE_MASK => ⟨0x24000024, 4, 1, .engine, 0xfff, 0, 0, 0, 0xfff, 0x466⟩
  | .LE_RAMP => ⟨0x24000028, 4, 1, .engine, 0xffffff, 0, 0, 0, 0xffffff, 0x643232⟩
  | .LE_DRV => ⟨0x2400002C, 4, 1, .engine, 0xff, 0, 0, 0, 0xff, 0x18⟩
  | .LE_TXSKEW => ⟨0x24000030, 4, 1, .engine, 0xffffffff, 0, 0, 0, 0xffffffff, 0⟩
  | .LE_RXSKEW => ⟨0x24000034, 4, 1, .engine, 0xffffffff, 0, 0, 0, 0xffffffff, 0⟩
  | .LE_RMP => ⟨0x24000038, 4, 1, .engine, 0x800003ff, 0, 0, 0, 0x800003ff, 0⟩
  | .LE_LOS => ⟨0x2400003C, 4, 1, .engine, 0xffff, 0, 0, 0, 0xffff, 0x5864⟩
  | .LE_ACQ => ⟨0x24000040, 4, 1, .engine, 0x80ffffff, 0, 0, 0, 0x80ffffff, 0x50000⟩
  | .LE_CD => ⟨0x24000044, 4, 1, .engine, 0, 0, 0, 0, 0xffffffff, 0⟩
  | .LE_FOFS => ⟨0x24000048, 4, 1, .engine, 0, 0, 0, 0, 0xffff, 0⟩
  | .LE_EQ_STAT => ⟨0x2400004C, 4, 1, .engine, 0, 0, 0, 0, 0xffff001f, 0⟩
  | .LE_MIMO_SEL => ⟨0x24000050, 4, 1, .copy, 0x37f, 0, 0, 0, 0x37f, 0⟩
  | .LE_MIMO_DATA => ⟨0x24000054, 4, 1, .mimoTap, 0, 0, 0, 0, 0xffffffff, 0⟩
  | .LE_PAIR => ⟨0x24000058, 4, 1, .engine, 0, 0, 0, 0, 0xffff, 0⟩
  | .LE_LASER => ⟨0x2400005C, 4, 1, .engine, 0xffffffff, 0, 0, 0, 0xffffffff, 0⟩
  | .LE_SPI_CTRL => ⟨0x24000060, 4, 1, .engine, 0xffff, 0, 0, 0x10000, 0x8001ffff, 0x620⟩
  | .LE_SPI_D0 => ⟨0x24000064, 4, 1, .engine, 0xffffffff, 0, 0, 0, 0xffffffff, 0⟩
  | .LE_SPI_D1 => ⟨0x24000068, 4, 1, .engine, 0xffffffff, 0, 0, 0, 0xffffffff, 0⟩
  | .FP_CTRL => ⟨0x25000000, 4, 1, .single, 0x1ff, 0, 0, 0, 0x1ff, 0xff⟩
  | .FP_FREQ => ⟨0x25000004, 4, 1, .single, 0xff3f3f, 0, 0, 0, 0xff3f3f, 0x6e2000⟩
  | .FP_PLIM => ⟨0x25000008, 4, 1, .single, 0xfff, 0, 0, 0, 0xfff, 0⟩
  | .FP_STAT => ⟨0x2500000C, 4, 1, .single, 0, 0, 0, 0, 0x3f0fff, 0x6f9⟩
  | .FP_LOAD => ⟨0x25000010, 4, 1, .single, 0, 0, 0, 0, 0x7ff07ff, 0⟩
  | .FP_USED => ⟨0x25000014, 4, 1, .single, 0, 0, 0, 0, 0xfff, 0⟩
  | .FP_SEL => ⟨0x25000020, 4, 1, .copy, 0x71f, 0, 0, 0, 0x71f, 0⟩
  | .FP_CNT_LO => ⟨0x25000024, 4, 1, .single, 0, 0, 0, 0, 0xffffffff, 0⟩
  | .FP_CNT_HI => ⟨0x25000028, 4, 1, .copy, 0, 0, 0, 0, 0xffff, 0⟩
  | .FP_STICKY => ⟨0x25000030, 4, 1, .single, 0, 0xf, 0, 0, 0xf, 0⟩
  | .FP_MASK => ⟨0x25000034, 4, 1, .single, 0xf, 0, 0, 0, 0xf, 1⟩
  | .SEC_DK_STAT => ⟨0x2E001000, 4, 1, .single, 0, 0, 0, 0, 1, 0⟩
  | .SEC_KSEL => ⟨0x2E001004, 4, 1, .copy, 0x7fff, 0, 0, 0, 0x7fff, 0⟩
  | .SEC_CTX_CFG => ⟨0x2E001008, 4, 1, .context, 0x40000000, 0, 0, 0, 0xc0ffffff, 0x40000000⟩
  | .SEC_CTX_STAT => ⟨0x2E00100C, 4, 1, .context, 0, 0, 0, 0, 0xffc00000, 0x400000⟩
  | .SEC_CTX_CNT => ⟨0x2E001010, 4, 1, .context, 0, 0, 0, 0, 0xffffffff, 0⟩
  | .SEC_CTX_LAST => ⟨0x2E001014, 4, 1, .context, 0, 0, 0, 0, 0xffffffff, 0⟩
  | .SEC_KWRAP => ⟨0x2E001020, 4, 10, .copy, 0, 0, 0, 0xffffffff, 0xffffffff, 0⟩
  | .SEC_KAT_LO => ⟨0x2E001048, 4, 1, .copy, 0xffffffff, 0, 0, 0, 0xffffffff, 0⟩
  | .SEC_KAT_HI => ⟨0x2E00104C, 4, 1, .copy, 0xffff, 0, 0, 0, 0xffff, 0⟩
  | .SEC_KCMD => ⟨0x2E001050, 4, 1, .single, 0x70, 0, 0, 7, 0x77, 0⟩
  | .SEC_KRES => ⟨0x2E001054, 4, 1, .copy, 0, 0, 0, 0, 0x8000000f, 0⟩
  | .SEC_ECTRL => ⟨0x2E001060, 4, 1, .engineDir, 3, 0, 0, 4, 7, 1⟩
  | .SEC_ESTICKY => ⟨0x2E001064, 4, 1, .engineDir, 0, 0x3f, 0, 0, 0x3f, 0⟩
  | .SEC_EMASK => ⟨0x2E001068, 4, 1, .engineDir, 0x3f, 0, 0, 0, 0x3f, 0⟩
  | .TD_SEL => ⟨0x24000900, 4, 1, .copy, 0xfff, 0, 0, 0, 0xfff, 0⟩
  | .TD_CFG => ⟨0x24000904, 4, 1, .engine, 0, 0, 0, 0, 0xffff3fff, 0⟩
  | .TD_FMT => ⟨0x24000908, 4, 1, .engine, 0, 0, 0, 0, 0xffff007f, 0⟩
  | .TD_SCTYPE => ⟨0x2400090C, 4, 1, .engine, 0, 0, 0, 0, 0xffffffff, 0⟩
  | .TD_DS => ⟨0x24000910, 4, 1, .engine, 0xffff, 0, 0, 0, 0xffff, 0⟩
  | .TD_THR => ⟨0x24000914, 4, 1, .engine, 0xbfff0f3f, 0, 0, 0, 0xbfff0f3f, 0x806060c⟩
  | .TD_THR_STAT => ⟨0x24000918, 4, 1, .subcarrier, 0, 0, 0, 0, 0xffff007f, 0x18000c⟩
  | .TD_GS_CTRL => ⟨0x24000920, 4, 1, .engine, 1, 0, 0, 0, 0x80000001, 0⟩
  | .TD_GS_BANK0 => ⟨0x24000924, 4, 1, .engine, 0xffffffff, 0, 0, 0, 0xffffffff, 0⟩
  | .TD_GS_BANK1 => ⟨0x24000928, 4, 1, .engine, 0xffffffff, 0, 0, 0, 0xffffffff, 0⟩
  | .TD_LEAF_CFG => ⟨0x24000930, 4, 1, .leaf, 0, 0, 0, 0, 0xffffefff, 0⟩
  | .TD_LEAF_STAT => ⟨0x24000934, 4, 1, .leaf, 0, 0, 0, 0, 0xffc0ffff, 0x80000000⟩
  | .TD_SC_LAST => ⟨0x24000938, 4, 1, .subcarrier, 0, 0, 0, 0, 0xff, 0⟩
  | .TD_SC_STICKY => ⟨0x24000940, 4, 1, .subcarrier, 0, 0x1ff, 0, 0, 0x1ff, 0⟩
  | .TD_LEAF_STICKY => ⟨0x24000944, 4, 1, .leaf, 0, 0x7f, 0, 0, 0x7f, 0⟩
  | .TD_MASK => ⟨0x24000948, 4, 1, .engine, 0x7f01ff, 0, 0, 0, 0x7f01ff, 0x62000f⟩
  | .TD_CSEL => ⟨0x24000950, 4, 1, .copy, 0x1f, 0, 0, 0, 0x1f, 0⟩
  | .TD_CNT_LO => ⟨0x24000954, 4, 1, .engine, 0, 0, 0, 0, 0xffffffff, 0⟩
  | .TD_CNT_HI => ⟨0x24000958, 4, 1, .copy, 0, 0, 0, 0, 0xffff, 0⟩
  | .MG_SEL => ⟨0x26000000, 4, 1, .copy, 0x7ff, 0, 0, 0, 0x7ff, 0⟩
  | .MG_CFG => ⟨0x26000010, 4, 1, .group, 0, 0, 0, 0, 0xfcfff03f, 0⟩
  | .MG_INST => ⟨0x26000014, 4, 1, .group, 0, 0, 0, 0, 0x7fff7fff, 0⟩
  | .MG_RANGE => ⟨0x26000018, 4, 1, .group, 0, 0, 0, 0, 0xfff7ffff, 0⟩
  | .MG_CTRL => ⟨0x2600001C, 4, 1, .group, 0xffffe07, 0, 0, 0x100, 0xfffff07, 0x50000⟩
  | .MG_STAT => ⟨0x26000020, 4, 1, .group, 0, 0, 0, 0, 0xfffff000, 0⟩
  | .MG_DELAY => ⟨0x26000024, 4, 1, .group, 0, 0, 0, 0, 0x801fffff, 0⟩
  | .MG_DHELD => ⟨0x26000028, 4, 1, .group, 0, 0, 0, 0, 0xc01fffff, 0⟩
  | .MG_APS_TX => ⟨0x2600002C, 4, 1, .group, 0, 0, 0, 0, 0xffffffff, 0⟩
  | .MG_APS_RX => ⟨0x26000030, 4, 1, .group, 0, 0, 0, 0, 0xffffffff, 0⟩
  | .MG_STICKY => ⟨0x26000040, 4, 1, .group, 0, 0x1ff, 0, 0, 0x1ff, 0⟩
  | .MG_MASK => ⟨0x26000044, 4, 1, .group, 0x1ff, 0, 0, 0, 0x1ff, 0x21⟩
  | .MG_CSEL => ⟨0x26000050, 4, 1, .copy, 0xf, 0, 0, 0, 0xf, 0⟩
  | .MG_CNT_LO => ⟨0x26000054, 4, 1, .group, 0, 0, 0, 0, 0xffffffff, 0⟩
  | .MG_CNT_HI => ⟨0x26000058, 4, 1, .copy, 0, 0, 0, 0, 0xffff, 0⟩
  | .TM_XO => ⟨0x27000000, 4, 1, .single, 0x80, 0, 0, 0, 0x87, 0⟩
  | .TM_RCV => ⟨0x27000004, 4, 1, .single, 0xffffffff, 0, 0, 0, 0xffffffff, 0xffffffff⟩
  | .TM_RSEL => ⟨0x27000010, 4, 1, .copy, 0xf, 0, 0, 0, 0xf, 0⟩
  | .TM_REF_FREQ => ⟨0x27000014, 4, 1, .ref, 0x3fffffff, 0, 0, 0, 0x3fffffff, 0⟩
  | .TM_REF_CFG => ⟨0x27000018, 4, 1, .ref, 0xfffffff3, 0, 0, 0, 0xfffffff3, 0xfff0a2e0⟩
  | .TM_REF_STAT => ⟨0x2700001C, 4, 1, .ref, 0, 0, 0, 0, 0xfc00ffff, 0xbc000000⟩
  | .TM_GD_CTRL => ⟨0x27000020, 4, 1, .single, 0xffffff00, 0, 0, 0, 0xffffff00, 0xb0106400⟩
  | .TM_OD_CTRL => ⟨0x27000028, 4, 1, .single, 0xffffff00, 0, 0, 0, 0xffffff00, 0xb0106400⟩
  | .TM_GD_STAT => ⟨0x27000024, 4, 1, .single, 0, 0, 0, 0, 0xffe0ffff, 0x1e00000⟩
  | .TM_OD_STAT => ⟨0x2700002C, 4, 1, .single, 0, 0, 0, 0, 0xffe0ffff, 0x1e00000⟩
  | .TM_TSEL => ⟨0x27000040, 4, 1, .copy, 0xf, 0, 0, 0, 0xf, 0⟩
  | .TM_TS_CFG => ⟨0x27000044, 4, 1, .timeSource, 0x8fffcff0, 0, 0, 0x2000, 0x8fffeff0, 0xf060050⟩
  | .TM_TS_ADJ => ⟨0x27000048, 4, 1, .timeSource, 0xffffffff, 0, 0, 0, 0xffffffff, 0⟩
  | .TM_TS_STAT => ⟨0x2700004C, 4, 1, .timeSource, 0, 0, 0, 0, 0xf0ffff00, 0xff0000⟩
  | .TM_TS_OFS => ⟨0x27000050, 4, 1, .timeSource, 0, 0, 0, 0, 0xffffffff, 0⟩
  | .TM_TS_DLY => ⟨0x27000054, 4, 1, .timeSource, 0, 0, 0, 0, 0xffffffff, 0⟩
  | .TM_TS_ASYM => ⟨0x27000058, 4, 1, .timeSource, 0, 0, 0, 0, 0xffffffff, 0⟩
  | .TM_TD_CTRL => ⟨0x27000060, 4, 1, .single, 0xffffffff, 0, 0, 0, 0xffffffff, 0x406403e8⟩
  | .TM_TD_STAT => ⟨0x27000064, 4, 1, .single, 0, 0, 0, 0, 0xffffff00, 0xf80000⟩
  | .TM_SW_OFS => ⟨0x27000068, 4, 1, .single, 0, 0, 0, 0xffffffff, 0xffffffff, 0⟩
  | .TM_TB0 => ⟨0x27000070, 4, 1, .single, 0, 0, 0, 0, 0xffffffff, 0⟩
  | .TM_TB1 => ⟨0x27000074, 4, 1, .copy, 0, 0, 0, 0, 0xffffffff, 0⟩
  | .TM_TB2 => ⟨0x27000078, 4, 1, .copy, 0, 0, 0, 0, 0xffffffff, 0⟩
  | .TM_TB3 => ⟨0x2700007C, 4, 1, .copy, 0, 0, 0, 0, 0xffffffff, 0⟩
  | .TM_TB4 => ⟨0x27000080, 4, 1, .copy, 0, 0, 0, 0, 0xffffffff, 0⟩
  | .TM_UTC => ⟨0x27000084, 4, 1, .single, 0x7ffff, 0, 0, 0, 0x7ffff, 0⟩
  | .TM_INV_CTRL => ⟨0x27000090, 4, 1, .single, 0x40fff000, 0, 0, 0x80000000, 0xc0fff000, 0x6e000⟩
  | .TM_INV_STAT => ⟨0x27000094, 4, 1, .single, 0, 0, 0, 0, 0xffffffff, 0⟩
  | .TM_INV_TEMP => ⟨0x27000098, 4, 1, .single, 0xffff, 0, 0, 0, 0xffff, 0⟩
  | .TM_PPS_CFG => ⟨0x270000A0, 4, 1, .single, 0xff0ffb, 0, 0, 0, 0xff0ffb, 0x640400⟩
  | .TM_PPS_ADJ => ⟨0x270000A4, 4, 1, .single, 0xffff0000, 0, 0, 0, 0xffff0000, 0⟩
  | .TM_CLKO_SEL => ⟨0x270000B0, 4, 1, .copy, 3, 0, 0, 0, 3, 0⟩
  | .TM_CLKO_CFG => ⟨0x270000B4, 4, 1, .clockOut, 0xff800000, 0, 0, 0, 0xff800000, 0x5800000⟩
  | .TM_CLKO_FREQ => ⟨0x270000B8, 4, 1, .clockOut, 0x3fffffff, 0, 0, 0, 0x3fffffff, 0⟩
  | .TM_TICK => ⟨0x270000C0, 4, 1, .single, 0xfc1fffff, 0, 0, 0, 0xfc1fffff, 0⟩
  | .TM_STICKY => ⟨0x270000D0, 4, 1, .single, 0, 0x3fff, 0, 0, 0x3fff, 0⟩
  | .TM_MASK => ⟨0x270000D4, 4, 1, .single, 0x3fff, 0, 0, 0, 0x3fff, 0x20⟩
  | .MS_QSEL => ⟨0x24000A00, 4, 1, .copy, 0xf, 0, 0, 0, 0xf, 0⟩
  | .MS_QVAL => ⟨0x24000A04, 4, 1, .quantity, 0, 0, 0, 0, 0xffffffff, 0x80000000⟩
  | .MS_CAL => ⟨0x24000A08, 4, 1, .engine, 0xffff, 0, 0, 0, 0xffff, 0x8000⟩
  | .MS_LEN => ⟨0x24000A0C, 4, 1, .engine, 0xffffffff, 0, 0, 0, 0xffffffff, 0x132400aa⟩
  | .MS_SOP_CFG => ⟨0x24000A10, 4, 1, .engine, 0xff00ffff, 0, 0, 0, 0xff00ffff, 0x100003e8⟩
  | .MS_SOP_LAST => ⟨0x24000A14, 4, 1, .engine, 0, 0, 0, 0, 0xffffffff, 0⟩
  | .MS_SOP_START => ⟨0x24000A18, 4, 1, .engine, 0, 0, 0, 0, 0xffffffff, 0⟩
  | .MS_SOP_CNT => ⟨0x24000A1C, 4, 1, .engine, 0, 0, 0, 0, 0xffffffff, 0⟩
  | .MS_STICKY => ⟨0x24000A20, 4, 1, .engine, 0, 0x7f, 0, 0, 0x7f, 0⟩
  | .MS_MASK => ⟨0x24000A24, 4, 1, .engine, 0x7f, 0, 0, 0, 0x7f, 0x61⟩
  | .CAP_CFG => ⟨0x24000A40, 4, 1, .engine, 0xffffffff, 0, 0, 0, 0xffffffff, 0x800c0⟩
  | .CAP_TRIG => ⟨0x24000A44, 4, 1, .engine, 0xff0001ff, 0, 0, 0, 0xff0001ff, 0⟩
  | .CAP_CTRL => ⟨0x24000A48, 4, 1, .engine, 0, 0, 0, 0xf, 0xf, 0⟩
  | .CAP_STAT => ⟨0x24000A4C, 4, 1, .engine, 0, 0, 0, 0, 0xfff8ffff, 0⟩
  | .SV_CFG => ⟨0x24000A60, 4, 1, .engine, 0, 0, 0, 0, 0xc0001f0f, 0⟩
  | .SV_STAT => ⟨0x24000A64, 4, 1, .engine, 0, 0, 0, 0, 0xf8ffffff, 0⟩
  | .MT_CFG => ⟨0x28000000, 4, 1, .single, 0, 0, 0, 0, 0x8fffffff, 0xd04100a⟩
  | .MT_CTRL => ⟨0x28000004, 4, 1, .single, 0x3f00, 0, 0, 7, 0x3f07, 0x1000⟩
  | .MT_STAT => ⟨0x28000008, 4, 1, .single, 0, 0, 0, 0, 0xfffc03ff, 0x380000⟩
  | .MT_JSEQ => ⟨0x2800000C, 4, 1, .single, 0, 0, 0, 0, 0xffffffff, 0⟩
  | .MT_EPOCH => ⟨0x28000010, 4, 1, .single, 0, 0, 0, 0, 0xffffffff, 0⟩
  | .MT_MISS_TICK => ⟨0x28000014, 4, 1, .single, 0, 0, 0, 0, 0xffffffff, 0⟩
  | .MT_MISS_PORT => ⟨0x28000018, 4, 1, .single, 0, 0, 0, 0, 0x7f7f, 0⟩
  | .MT_CSEL => ⟨0x28000020, 4, 1, .copy, 0xf, 0, 0, 0, 0xf, 0⟩
  | .MT_CNT_LO => ⟨0x28000024, 4, 1, .single, 0, 0, 0, 0, 0xffffffff, 0⟩
  | .MT_CNT_HI => ⟨0x28000028, 4, 1, .copy, 0, 0, 0, 0, 0xffff, 0⟩
  | .MT_STICKY => ⟨0x28000030, 4, 1, .single, 0, 0x3fff, 0, 0, 0x3fff, 0⟩
  | .MT_MASK => ⟨0x28000034, 4, 1, .single, 0x3fff, 0, 0, 0, 0x3fff, 0x500⟩
  | .HR_CFG => ⟨0x29000000, 4, 1, .single, 0, 0, 0, 0, 0xffc000ff, 0⟩
  | .HR_DOMAIN => ⟨0x29000004, 4, 1, .single, 0, 0, 0, 0, 0xffffffff, 0⟩
  | .HR_STAT => ⟨0x29000008, 4, 1, .single, 0, 0, 0, 0, 0xff800000, 0xf8000000⟩
  | .HR_PSEL => ⟨0x29000010, 4, 1, .copy, 3, 0, 0, 0, 3, 0⟩
  | .HR_PORT_CFG => ⟨0x29000014, 4, 1, .mport, 0x3ff, 0, 0, 0, 0x3ff, 0⟩
  | .HR_PORT_STAT => ⟨0x29000018, 4, 1, .mport, 0, 0, 0, 0, 0xffe3ffff, 0x83e3fe00⟩
  | .HR_DLY => ⟨0x2900001C, 4, 1, .mport, 0, 0, 0, 0, 0xffffffff, 0⟩
  | .HR_OFS => ⟨0x29000020, 4, 1, .mport, 0, 0, 0, 0, 0xffffffff, 0⟩
  | .HR_ADJ => ⟨0x29000024, 4, 1, .mport, 0xffff, 0, 0, 0, 0xffff, 0⟩
  | .HR_STICKY => ⟨0x29000028, 4, 1, .mport, 0, 0xff, 0, 0, 0xff, 0⟩
  | .HR_MASK => ⟨0x2900002C, 4, 1, .mport, 0xff, 0, 0, 0, 0xff, 0x88⟩
  | .HR_CSEL => ⟨0x29000030, 4, 1, .copy, 0xf, 0, 0, 0, 0xf, 0⟩
  | .HR_CNT_LO => ⟨0x29000034, 4, 1, .mport, 0, 0, 0, 0, 0xffffffff, 0⟩
  | .HR_CNT_HI => ⟨0x29000038, 4, 1, .copy, 0, 0, 0, 0, 0xffff, 0⟩
  | .HR_CC_STAT => ⟨0x29000040, 4, 1, .single, 0, 0, 0, 0, 0xff00ffff, 0⟩
  | .HR_CC_TXD => ⟨0x29000044, 4, 1, .single, 0, 0, 0, 0xffffffff, 0xffffffff, 0⟩
  | .HR_CC_RXD => ⟨0x29000048, 4, 1, .single, 0, 0, 0, 0, 0xffffffff, 0⟩
  | .HR_DC_AT_LO => ⟨0x29000050, 4, 1, .single, 0xffffffff, 0, 0, 0, 0xffffffff, 0⟩
  | .HR_DC_AT_HI => ⟨0x29000054, 4, 1, .single, 0xffff, 0, 0, 0, 0xffff, 0⟩
  | .HR_DC_CMD => ⟨0x29000058, 4, 1, .single, 0xfffffff8, 0, 0, 1, 0xfffffff9, 0⟩
  | .HR_DC_STAT => ⟨0x2900005C, 4, 1, .single, 0, 0, 0, 0, 0xfe000000, 0⟩
  | .HR_DC_ACK => ⟨0x29000060, 4, 1, .single, 0, 0, 0, 0, 0xffffffff, 0⟩
  | .HR_DC_SKEW => ⟨0x29000064, 4, 1, .single, 0, 0, 0, 0, 0xffffffff, 0⟩
  | .HR_DSTICKY => ⟨0x29000070, 4, 1, .single, 0, 0x3f, 0, 0, 0x3f, 0⟩
  | .HR_DMASK => ⟨0x29000074, 4, 1, .single, 0x3f, 0, 0, 0, 0x3f, 1⟩
  | .HR_RSEL => ⟨0x29000080, 4, 1, .copy, 0xf, 0, 0, 0, 0xf, 0⟩
  | .HR_ROUTE => ⟨0x29000084, 4, 1, .route, 0, 0, 0, 0, 0xbf0000ff, 0⟩
  | .MM_APERTURE => ⟨0x2A000000, 4, 1, .copy, 0xfff, 0, 0, 0, 0xfff, 0⟩
  | .MM_BAR2 => ⟨0x2A000004, 4, 1, .single, 0x3ff, 0, 0, 0, 0x3ff, 0⟩
  | .MM_ANC_STAT => ⟨0x2A000008, 4, 1, .single, 0, 0, 0, 0, 0xffffc000, 0⟩
  | .MM_BUSY => ⟨0x2A00000C, 4, 1, .single, 0, 0, 0, 0, 0xffffffff, 0⟩
  | .MM_ECC_SEL => ⟨0x2A000010, 4, 1, .copy, 7, 0, 0, 0, 7, 0⟩
  | .MM_ECC_CNT => ⟨0x2A000014, 4, 1, .eccClass, 0, 0, 0, 0, 0xffffffff, 0⟩
  | .MM_ECC_ADDR_LO => ⟨0x2A000018, 4, 1, .single, 0, 0, 0, 0, 0xffffffff, 0⟩
  | .MM_ECC_ADDR_HI => ⟨0x2A00001C, 4, 1, .copy, 0, 0, 0, 0, 0xe00003ff, 0⟩
  | .MM_NB_SEL => ⟨0x2A000020, 4, 1, .copy, 0xf, 0, 0, 0, 0xf, 0⟩
  | .MM_NB_BASE => ⟨0x2A000024, 4, 1, .nbRange, 0xfffff000, 0, 0, 0, 0xfffff000, 0⟩
  | .MM_NB_SIZE => ⟨0x2A000028, 4, 1, .nbRange, 0x1fff, 0, 0, 0, 0x1fff, 0⟩
  | .MM_BT_CFG => ⟨0x2A000030, 4, 1, .single, 0xc0ffffff, 0, 0, 0, 0xc0ffffff, 0x8018600a⟩
  | .MM_BT_STAT => ⟨0x2A000034, 4, 1, .single, 0, 0, 0, 0, 0x80ffffff, 0⟩
  | .MM_BT_FAIL => ⟨0x2A000038, 4, 1, .single, 0, 0, 0, 0, 0x8fff03ff, 0⟩
  | .MM_MACRO_SEL => ⟨0x2A000040, 4, 1, .copy, 0xfff, 0, 0, 0, 0xfff, 0⟩
  | .MM_MACRO => ⟨0x2A000044, 4, 1, .sramMacro, 0, 0, 0, 0, 0xffffffff, 0⟩
  | .MM_REP_CTRL => ⟨0x2A000050, 4, 1, .single, 0xfff03ff, 0, 0, 0x80000000, 0x8fff03ff, 0⟩
  | .MM_REP_STAT => ⟨0x2A000054, 4, 1, .single, 0, 0, 0, 0, 0xc000000f, 0⟩
  | .MM_STICKY => ⟨0x2A000060, 4, 1, .single, 0, 0x3ff, 0, 0, 0x3ff, 0⟩
  | .MM_MASK => ⟨0x2A000064, 4, 1, .single, 0x3ff, 0, 0, 0, 0x3ff, 0x45⟩
  | .SY_ID => ⟨0x20000000, 4, 1, .single, 0, 0, 0, 0, 0xffffff0f, 0⟩
  | .SY_STATE => ⟨0x20000004, 4, 1, .single, 0, 0, 0, 0, 7, 0⟩
  | .SY_MODE => ⟨0x20000008, 4, 1, .single, 0, 0, 0, 0, 0xf, 0⟩
  | .SY_STRAP => ⟨0x2000000C, 4, 1, .single, 0, 0, 0, 0, 0x7f, 0⟩
  | .SY_REMAP => ⟨0x20000010, 4, 1, .single, 0, 0, 1, 0, 1, 0⟩
  | .SY_PC_CTRL => ⟨0x20000020, 4, 1, .single, 0xf, 0, 0, 0, 0xf, 1⟩
  | .SY_PC_VEC => ⟨0x20000024, 4, 4, .single, 0xfffffffe, 0, 0, 0, 0xfffffffe, 0⟩
  | .SY_PC_SWI => ⟨0x20000034, 4, 1, .single, 0xf, 0, 0, 0, 0xf, 0⟩
  | .SY_PC_TCMP_LO => ⟨0x20000040, 8, 4, .single, 0xffffffff, 0, 0, 0, 0xffffffff, 0xffffffff⟩
  | .SY_PC_TCMP_HI => ⟨0x20000044, 8, 4, .single, 0xffff, 0, 0, 0, 0xffff, 0xffff⟩
  | .SY_APPLET => ⟨0x20000060, 4, 1, .single, 0, 0, 0, 0, 0xffffffff, 0⟩
  | .SY_APPLET_CTRL => ⟨0x20000064, 4, 1, .single, 0, 0, 0, 0xffff, 0xffff, 0⟩
  | .SY_APPLET_FLT => ⟨0x20000068, 4, 1, .single, 0, 0, 0, 0, 0xffffffff, 0⟩
  | .SY_THERM => ⟨0x20000070, 4, 1, .single, 0, 0, 0, 0, 0xf01ffff, 0⟩
  | .SY_AVS_CORE => ⟨0x20000074, 4, 1, .single, 0, 0, 0, 0, 0xffffffff, 0⟩
  | .SY_AVS_LE => ⟨0x20000078, 4, 1, .single, 0, 0, 0, 0, 0xffffffff, 0⟩
  | .SY_QSPI_CMD => ⟨0x20000080, 4, 1, .single, 0x3ffe00ff, 0, 0, 0x40000000, 0xfffe00ff, 0⟩
  | .SY_UART => ⟨0x20000090, 4, 1, .single, 0xff, 0, 0, 0, 0x7fffff, 0x8000⟩
  | .SY_MBX => ⟨0x200000A0, 4, 1, .single, 0xff003f, 0x80000000, 0, 0, 0xffff003f, 0⟩
  | .SY_MBX_DATA => ⟨0x200000A4, 4, 1, .single, 0, 0, 0, 0xff, 0xff, 0⟩
  | .SY_STICKY => ⟨0x200000C0, 4, 1, .single, 0, 0x3f, 0, 0, 0x3f, 0⟩
  | .BM_CFG => ⟨0x2D000000, 4, 1, .single, 0xffff, 0, 0, 0, 0xffff, 0x4000⟩
  | .BM_ERR => ⟨0x2D000004, 4, 1, .single, 0, 0, 0, 0, 0xfc3fffff, 0⟩
  | .BM_MSTAT => ⟨0x2D00000C, 4, 1, .single, 0, 0, 0, 0, 0x3ff, 0⟩
  | .BM_STICKY => ⟨0x2D000010, 4, 1, .single, 0, 0x1f, 0, 0, 0x1f, 0⟩
  | .SY_RST_CAUSE => ⟨0x20000200, 4, 1, .single, 0, 0, 0, 0, 0xff03, 0⟩
  | .SY_BOOT_STAT => ⟨0x20000204, 4, 1, .single, 0, 0, 0, 0, 0xffff00ff, 0⟩
  | .SY_IMG_AT_LO => ⟨0x20000210, 4, 1, .single, 0xffffffff, 0, 0, 0, 0xffffffff, 0⟩
  | .SY_IMG_AT_HI => ⟨0x20000214, 4, 1, .single, 0xffff, 0, 0, 0, 0xffff, 0⟩
  | .SY_IMG_CMD => ⟨0x20000218, 4, 1, .single, 0x70, 0, 0, 7, 0x77, 0⟩
  | .SY_IMG_SRC => ⟨0x2000021C, 4, 1, .single, 0xffffffff, 0, 0, 0, 0xffffffff, 0⟩
  | .SY_IMG_STAT => ⟨0x20000220, 4, 1, .single, 0, 0, 0, 0, 0xff800000, 0⟩
  | .SY_IMG_ERR => ⟨0x20000224, 4, 1, .single, 0, 0, 0, 0, 0xffffffff, 0⟩
  | .SY_IMG_RULE => ⟨0x20000228, 4, 1, .single, 0, 0, 0, 0, 0xffff, 0⟩
  | .SY_IMG_DIGEST => ⟨0x2000022C, 4, 1, .single, 0, 0, 0, 0, 0xffffffff, 0⟩
  | .SY_IMG_DIGEST_A => ⟨0x20000230, 4, 1, .single, 0, 0, 0, 0, 0xffffffff, 0⟩
  | .SY_IMG_STICKY => ⟨0x20000238, 4, 1, .single, 0, 0x1f, 0, 0, 0x1f, 0⟩
  | .SY_IMG_MASK => ⟨0x2000023C, 4, 1, .single, 0x1f, 0, 0, 0, 0x1f, 1⟩
  | .SY_BLKRST => ⟨0x20000240, 4, 1, .single, 0x707ff, 0, 0, 0x80000000, 0x800707ff, 0⟩
  | .SEC_SB_STAT => ⟨0x2E000000, 4, 1, .single, 0, 0, 0, 0, 0xff00003f, 0⟩
  | .SEC_DBG_CTRL => ⟨0x2E000004, 4, 1, .single, 0, 0, 1, 0, 3, 0⟩
  | .SEC_FUSE_DATA => ⟨0x2E000010, 4, 12, .single, 0, 0, 0, 0xffffffff, 0xffffffff, 0⟩
  | .SEC_FUSE_CMD => ⟨0x2E000040, 4, 1, .single, 0xf, 0, 0, 0x10, 0x1f, 0⟩
  | .SEC_FUSE_STAT => ⟨0x2E000044, 4, 1, .single, 0, 0, 0, 0, 0x8000000f, 0⟩
  | .EV_STAT => ⟨0x2B000000, 4, 16, .single, 0, 0, 0, 0, 0xffffffff, 0⟩
  | .EV_STICKY => ⟨0x2B000040, 4, 16, .single, 0, 0xffffffff, 0, 0, 0xffffffff, 0⟩
  | .EV_PEND => ⟨0x2B000080, 4, 16, .single, 0, 0, 0, 0, 0xffffffff, 0⟩
  | .EV_GPEND => ⟨0x2B0000C0, 4, 1, .single, 0, 0, 0, 0, 0xffff, 0⟩
  | .EV_LOG_CFG => ⟨0x2B0000D0, 4, 1, .single, 7, 0, 0, 0, 7, 1⟩
  | .EV_LOG_WR => ⟨0x2B0000D4, 4, 1, .single, 0, 0, 0, 0, 0x1fff, 0⟩
  | .EV_LOG_RD => ⟨0x2B0000D8, 4, 1, .single, 0x1fff, 0, 0, 0, 0x1fff, 0⟩
  | .EV_ARCH_WR => ⟨0x2B0000DC, 4, 1, .single, 0, 0, 0, 0, 0xffffffff, 0⟩
  | .EV_LOG_STAT => ⟨0x2B0000E0, 4, 1, .single, 0, 0x80000000, 0, 0, 0xbfffffff, 0⟩
  | .EV_SRC_CFG => ⟨0x2B001000, 4, 512, .single, 0xe000033f, 0, 0, 0, 0xe000033f, 0⟩
  | .EV_SRC_CNT => ⟨0x2B002000, 4, 512, .single, 0, 0, 0, 0, 0xffffffff, 0⟩
  | .EV_COAL_CNT => ⟨0x2B003000, 4, 512, .single, 0, 0, 0, 0, 0xffffffff, 0⟩
  | .PC_OVF_LO => ⟨0x2C000008, 4, 1, .single, 0, 0xffffffff, 0, 0, 0xffffffff, 0⟩
  | .PC_OVF_HI => ⟨0x2C00000C, 4, 1, .single, 0, 0xffffffff, 0, 0, 0xffffffff, 0⟩
  | .PC_STICKY => ⟨0x2C000010, 4, 1, .single, 0, 0x1f, 0, 0, 0x1f, 0⟩
  | .PC_MASK => ⟨0x2C000014, 4, 1, .single, 0x1f, 0, 0, 0, 0x1f, 2⟩
  | .PC_DUMP_CTRL => ⟨0x2C000018, 4, 1, .single, 0, 0, 0, 1, 1, 0⟩
  | .PM_CFG => ⟨0x2C000020, 4, 1, .single, 0x8001ffff, 0, 0, 0, 0x8001ffff, 0⟩
  | .PM_STAT => ⟨0x2C000024, 4, 1, .single, 0, 0, 0, 0, 0xffffffff, 0⟩
  | .PC_EVSEL => ⟨0x2C000100, 4, 64, .single, 0x8000ffff, 0, 0, 0, 0x8000ffff, 0⟩
  | .PC_CNT_LO => ⟨0x2C000200, 8, 65, .single, 0xffffffff, 0, 0, 0, 0xffffffff, 0⟩
  | .PC_CNT_HI => ⟨0x2C000204, 8, 65, .copy, 0xffff, 0, 0, 0, 0xffff, 0⟩
  | .TS_BIST_CTRL => ⟨0x2F000000, 4, 1, .single, 0, 0, 0, 3, 3, 0⟩
  | .TS_BIST_STAT => ⟨0x2F000004, 4, 1, .single, 0, 0, 0, 0, 0xefff03ff, 0⟩
  | .TS_STICKY => ⟨0x2F000008, 4, 1, .single, 0, 1, 0, 0, 1, 0⟩
  | .TS_MASK => ⟨0x2F00000C, 4, 1, .single, 1, 0, 0, 0, 1, 0⟩
  | .SY_QSPI_ADDR => ⟨0x20000084, 4, 1, .single, 0xffffffff, 0, 0, 0, 0xffffffff, 0⟩
  | .SY_QSPI_BUF => ⟨0x20000400, 4, 64, .single, 0xffffffff, 0, 0, 0, 0xffffffff, 0⟩
  | .SY_MASK => ⟨0x200000C4, 4, 1, .single, 0x3f, 0, 0, 0, 0x3f, 0⟩
  | .BM_ERR_ADDR => ⟨0x2D000008, 4, 1, .single, 0, 0, 0, 0, 0xffffffff, 0⟩
  | .BM_MASK => ⟨0x2D000014, 4, 1, .single, 0x1f, 0, 0, 0, 0x1f, 4⟩
  | .EV_LOG_MASK => ⟨0x2B0000E4, 4, 1, .single, 1, 0, 0, 0, 1, 0⟩
  | .PC_ACCESS => ⟨0x2C000000, 4, 1, .single, 1, 0, 0, 0, 1, 0⟩
  | .PC_SETID => ⟨0x2C000004, 4, 1, .single, 0xffffffff, 0, 0, 0, 0xffffffff, 0⟩
  | .PC_DUMP_CFG => ⟨0x2C000600, 32, 4, .single, 0xc01f07ff, 0, 0, 0, 0xc01f07ff, 0⟩
  | .PC_DUMP_LIST => ⟨0x2C000604, 32, 4, .single, 0xffffffff, 0, 0, 0, 0xffffffff, 0x12000000⟩
  | .PC_DUMP_BASE_LO => ⟨0x2C000608, 32, 4, .single, 0xffffffff, 0, 0, 0, 0xffffffff, 0⟩
  | .PC_DUMP_BASE_HI => ⟨0x2C00060C, 32, 4, .single, 0xffffffff, 0, 0, 0, 0xffffffff, 0⟩
  | .PC_DUMP_SIZE => ⟨0x2C000610, 32, 4, .single, 0xffffff, 0, 0, 0, 0xffffff, 1⟩
  | .PC_DUMP_WR => ⟨0x2C000614, 32, 4, .single, 0, 0, 0, 0, 0xffffffff, 0⟩
  | .PC_DUMP_RD => ⟨0x2C000618, 32, 4, .single, 0xffffffff, 0, 0, 0, 0xffffffff, 0⟩
  | .PC_DUMP_STAT => ⟨0x2C00061C, 32, 4, .single, 0, 0, 0, 0, 0xffffffff, 0⟩
  | .MSIX_ADDR_LO => ⟨0x2D010000, 16, 64, .single, 0xfffffffc, 0, 0, 0, 0xfffffffc, 0⟩
  | .MSIX_ADDR_HI => ⟨0x2D010004, 16, 64, .single, 0xffffffff, 0, 0, 0, 0xffffffff, 0⟩
  | .MSIX_DATA => ⟨0x2D010008, 16, 64, .single, 0xffffffff, 0, 0, 0, 0xffffffff, 0⟩
  | .MSIX_CTRL => ⟨0x2D01000C, 16, 64, .single, 1, 0, 0, 0, 1, 1⟩

/-- The SY registers. -/
def Reg.listSY : List Reg :=
  [.SY_TICKNO_LO, .SY_TICKNO_HI, .SY_TICKPOS, .SY_LOOP_FREEZE, .SY_LOOP_STAT, .SY_ID, .SY_STATE, .SY_MODE, .SY_STRAP, .SY_REMAP, .SY_PC_CTRL, .SY_PC_VEC, .SY_PC_SWI, .SY_PC_TCMP_LO, .SY_PC_TCMP_HI, .SY_APPLET, .SY_APPLET_CTRL, .SY_APPLET_FLT, .SY_THERM, .SY_AVS_CORE] ++
  [.SY_AVS_LE, .SY_QSPI_CMD, .SY_UART, .SY_MBX, .SY_MBX_DATA, .SY_STICKY, .SY_RST_CAUSE, .SY_BOOT_STAT, .SY_IMG_AT_LO, .SY_IMG_AT_HI, .SY_IMG_CMD, .SY_IMG_SRC, .SY_IMG_STAT, .SY_IMG_ERR, .SY_IMG_RULE, .SY_IMG_DIGEST, .SY_IMG_DIGEST_A, .SY_IMG_STICKY, .SY_IMG_MASK, .SY_BLKRST] ++
  [.SY_QSPI_ADDR, .SY_QSPI_BUF, .SY_MASK]

/-- The TR registers. -/
def Reg.listTR : List Reg :=
  [.TR_SEL, .TR_CTRL, .TR_STAT, .TR_STICKY, .TR_BIP_LO, .TR_BIP_HI]

/-- The BP registers. -/
def Reg.listBP : List Reg :=
  [.BP_SEL, .BP_PSTAT, .BP_JCNT, .BP_ECNT, .BP_STICKY, .BP_PLAN]

/-- The GRID registers. -/
def Reg.listGRID : List Reg :=
  [.GRID_SWAP_AT_LO, .GRID_SWAP_AT_HI, .GRID_SWAP_CMD, .GRID_SWAP_STAT, .GRID_SWAP_INFO, .GRID_SWAP_CNT, .GRID_SWAP_DONE_LO, .GRID_SWAP_DONE_HI, .GRID_STOW_CMD, .GRID_STOW_STAT, .GRID_MC_STAT, .GRID_STICKY, .GRID_ECC, .GRID_ECC_ADDR]

/-- The LN registers. -/
def Reg.listLN : List Reg :=
  [.LN_CHSEL, .LN_CFG, .LN_CTRL, .LN_STAT, .LN_STICKY, .LN_MASK, .LN_TRAIN_CTRL, .LN_TRAIN_STAT, .LN_EQ_CTRL, .LN_TXFFE0, .LN_TXFFE1, .LN_RXEQ, .LN_RXFFE0, .LN_RXFFE1, .LN_RXFFE2, .LN_SLICER, .LN_LOOP, .LN_PAT_GEN, .LN_PAT_CHK, .LN_PAT_USER_LO] ++
  [.LN_PAT_USER_HI, .LN_INJ, .LN_ERR_LO, .LN_ERR_HI, .LN_BITS_LO, .LN_BITS_HI]

/-- The QY registers. -/
def Reg.listQY : List Reg :=
  [.QY_CHSEL, .QY_CSEL, .QY_CFG, .QY_CA, .QY_MAP, .QY_STAT, .QY_STICKY, .QY_MASK, .QY_FIFO, .QY_DLY, .QY_CNT_LO, .QY_CNT_HI, .QY_TRACE, .QY_TS_CTRL, .QY_TS_ADJ, .QY_XSTAT, .QY_XDATA, .QY_IDATA, .QY_TSF0, .QY_TSF1] ++
  [.QY_TSF2, .QY_TSF3]

/-- The LF registers. -/
def Reg.listLF : List Reg :=
  [.LF_CFG, .LF_ALIGN, .LF_STAT, .LF_STICKY, .LF_MASK, .LF_CA, .LF_MID_TX, .LF_MID_NEXT, .LF_MID_EXP, .LF_MID_RX, .LF_FNO_LO, .LF_FNO_HI, .LF_PM_SEL, .LF_PM_LO, .LF_PM_HI, .LF_GCC_STAT, .LF_GCC_RXD0, .LF_GCC_RXD1, .LF_GCC_TXD0, .LF_GCC_TXD1]

/-- The LE registers. -/
def Reg.listLE : List Reg :=
  [.LE_SEL, .LE_CFG, .LE_SHAPE, .LE_CTRL, .LE_STAT, .LE_STICKY, .LE_MASK, .LE_RAMP, .LE_DRV, .LE_TXSKEW, .LE_RXSKEW, .LE_RMP, .LE_LOS, .LE_ACQ, .LE_CD, .LE_FOFS, .LE_EQ_STAT, .LE_MIMO_SEL, .LE_MIMO_DATA, .LE_PAIR] ++
  [.LE_LASER, .LE_SPI_CTRL, .LE_SPI_D0, .LE_SPI_D1]

/-- The FP registers. -/
def Reg.listFP : List Reg :=
  [.FP_CTRL, .FP_FREQ, .FP_PLIM, .FP_STAT, .FP_LOAD, .FP_USED, .FP_SEL, .FP_CNT_LO, .FP_CNT_HI, .FP_STICKY, .FP_MASK]

/-- The SEC registers. -/
def Reg.listSEC : List Reg :=
  [.SEC_DK_STAT, .SEC_KSEL, .SEC_CTX_CFG, .SEC_CTX_STAT, .SEC_CTX_CNT, .SEC_CTX_LAST, .SEC_KWRAP, .SEC_KAT_LO, .SEC_KAT_HI, .SEC_KCMD, .SEC_KRES, .SEC_ECTRL, .SEC_ESTICKY, .SEC_EMASK, .SEC_SB_STAT, .SEC_DBG_CTRL, .SEC_FUSE_DATA, .SEC_FUSE_CMD, .SEC_FUSE_STAT]

/-- The TD registers. -/
def Reg.listTD : List Reg :=
  [.TD_SEL, .TD_CFG, .TD_FMT, .TD_SCTYPE, .TD_DS, .TD_THR, .TD_THR_STAT, .TD_GS_CTRL, .TD_GS_BANK0, .TD_GS_BANK1, .TD_LEAF_CFG, .TD_LEAF_STAT, .TD_SC_LAST, .TD_SC_STICKY, .TD_LEAF_STICKY, .TD_MASK, .TD_CSEL, .TD_CNT_LO, .TD_CNT_HI]

/-- The MG registers. -/
def Reg.listMG : List Reg :=
  [.MG_SEL, .MG_CFG, .MG_INST, .MG_RANGE, .MG_CTRL, .MG_STAT, .MG_DELAY, .MG_DHELD, .MG_APS_TX, .MG_APS_RX, .MG_STICKY, .MG_MASK, .MG_CSEL, .MG_CNT_LO, .MG_CNT_HI]

/-- The TM registers. -/
def Reg.listTM : List Reg :=
  [.TM_XO, .TM_RCV, .TM_RSEL, .TM_REF_FREQ, .TM_REF_CFG, .TM_REF_STAT, .TM_GD_CTRL, .TM_OD_CTRL, .TM_GD_STAT, .TM_OD_STAT, .TM_TSEL, .TM_TS_CFG, .TM_TS_ADJ, .TM_TS_STAT, .TM_TS_OFS, .TM_TS_DLY, .TM_TS_ASYM, .TM_TD_CTRL, .TM_TD_STAT, .TM_SW_OFS] ++
  [.TM_TB0, .TM_TB1, .TM_TB2, .TM_TB3, .TM_TB4, .TM_UTC, .TM_INV_CTRL, .TM_INV_STAT, .TM_INV_TEMP, .TM_PPS_CFG, .TM_PPS_ADJ, .TM_CLKO_SEL, .TM_CLKO_CFG, .TM_CLKO_FREQ, .TM_TICK, .TM_STICKY, .TM_MASK]

/-- The MS registers. -/
def Reg.listMS : List Reg :=
  [.MS_QSEL, .MS_QVAL, .MS_CAL, .MS_LEN, .MS_SOP_CFG, .MS_SOP_LAST, .MS_SOP_START, .MS_SOP_CNT, .MS_STICKY, .MS_MASK]

/-- The CAP registers. -/
def Reg.listCAP : List Reg :=
  [.CAP_CFG, .CAP_TRIG, .CAP_CTRL, .CAP_STAT]

/-- The SV registers. -/
def Reg.listSV : List Reg :=
  [.SV_CFG, .SV_STAT]

/-- The MT registers. -/
def Reg.listMT : List Reg :=
  [.MT_CFG, .MT_CTRL, .MT_STAT, .MT_JSEQ, .MT_EPOCH, .MT_MISS_TICK, .MT_MISS_PORT, .MT_CSEL, .MT_CNT_LO, .MT_CNT_HI, .MT_STICKY, .MT_MASK]

/-- The HR registers. -/
def Reg.listHR : List Reg :=
  [.HR_CFG, .HR_DOMAIN, .HR_STAT, .HR_PSEL, .HR_PORT_CFG, .HR_PORT_STAT, .HR_DLY, .HR_OFS, .HR_ADJ, .HR_STICKY, .HR_MASK, .HR_CSEL, .HR_CNT_LO, .HR_CNT_HI, .HR_CC_STAT, .HR_CC_TXD, .HR_CC_RXD, .HR_DC_AT_LO, .HR_DC_AT_HI, .HR_DC_CMD] ++
  [.HR_DC_STAT, .HR_DC_ACK, .HR_DC_SKEW, .HR_DSTICKY, .HR_DMASK, .HR_RSEL, .HR_ROUTE]

/-- The MM registers. -/
def Reg.listMM : List Reg :=
  [.MM_APERTURE, .MM_BAR2, .MM_ANC_STAT, .MM_BUSY, .MM_ECC_SEL, .MM_ECC_CNT, .MM_ECC_ADDR_LO, .MM_ECC_ADDR_HI, .MM_NB_SEL, .MM_NB_BASE, .MM_NB_SIZE, .MM_BT_CFG, .MM_BT_STAT, .MM_BT_FAIL, .MM_MACRO_SEL, .MM_MACRO, .MM_REP_CTRL, .MM_REP_STAT, .MM_STICKY, .MM_MASK]

/-- The BM registers. -/
def Reg.listBM : List Reg :=
  [.BM_CFG, .BM_ERR, .BM_MSTAT, .BM_STICKY, .BM_ERR_ADDR, .BM_MASK]

/-- The EV registers. -/
def Reg.listEV : List Reg :=
  [.EV_STAT, .EV_STICKY, .EV_PEND, .EV_GPEND, .EV_LOG_CFG, .EV_LOG_WR, .EV_LOG_RD, .EV_ARCH_WR, .EV_LOG_STAT, .EV_SRC_CFG, .EV_SRC_CNT, .EV_COAL_CNT, .EV_LOG_MASK]

/-- The PC registers. -/
def Reg.listPC : List Reg :=
  [.PC_OVF_LO, .PC_OVF_HI, .PC_STICKY, .PC_MASK, .PC_DUMP_CTRL, .PC_EVSEL, .PC_CNT_LO, .PC_CNT_HI, .PC_ACCESS, .PC_SETID, .PC_DUMP_CFG, .PC_DUMP_LIST, .PC_DUMP_BASE_LO, .PC_DUMP_BASE_HI, .PC_DUMP_SIZE, .PC_DUMP_WR, .PC_DUMP_RD, .PC_DUMP_STAT]

/-- The PM registers. -/
def Reg.listPM : List Reg :=
  [.PM_CFG, .PM_STAT]

/-- The TS registers. -/
def Reg.listTS : List Reg :=
  [.TS_BIST_CTRL, .TS_BIST_STAT, .TS_STICKY, .TS_MASK]

/-- The MSIX registers. -/
def Reg.listMSIX : List Reg :=
  [.MSIX_ADDR_LO, .MSIX_ADDR_HI, .MSIX_DATA, .MSIX_CTRL]

/-- Every register. -/
def Reg.all : List Reg :=
  Reg.listSY ++ Reg.listTR ++ Reg.listBP ++ Reg.listGRID ++ Reg.listLN ++ Reg.listQY ++ Reg.listLF ++ Reg.listLE ++ Reg.listFP ++ Reg.listSEC ++ Reg.listTD ++ Reg.listMG ++ Reg.listTM ++ Reg.listMS ++ Reg.listCAP ++ Reg.listSV ++ Reg.listMT ++ Reg.listHR ++ Reg.listMM ++ Reg.listBM ++ Reg.listEV ++ Reg.listPC ++ Reg.listPM ++ Reg.listTS ++ Reg.listMSIX

/-- A named field: bits `hi` down to `lo` of a register. -/
structure Field where
  reg : Reg
  hi : Nat
  lo : Nat
  deriving DecidableEq, Repr

/-- The number of bits of a field. -/
def Field.width (f : Field) : Nat := f.hi - f.lo + 1

/-- The bits of a field within its register. -/
def Field.mask (f : Field) : Nat := (2 ^ f.width - 1) <<< f.lo

namespace F

def SY_TICKNO_LO_TICK_LO : Field := ⟨.SY_TICKNO_LO, 31, 0⟩
def SY_TICKNO_HI_TICK_HI : Field := ⟨.SY_TICKNO_HI, 15, 0⟩
def SY_TICKPOS_SPARE : Field := ⟨.SY_TICKPOS, 13, 13⟩
def SY_TICKPOS_CLK : Field := ⟨.SY_TICKPOS, 12, 0⟩
def SY_LOOP_FREEZE_STOWAGE : Field := ⟨.SY_LOOP_FREEZE, 7, 7⟩
def SY_LOOP_FREEZE_TIDE_THR : Field := ⟨.SY_LOOP_FREEZE, 6, 6⟩
def SY_LOOP_FREEZE_COH_EQ : Field := ⟨.SY_LOOP_FREEZE, 5, 5⟩
def SY_LOOP_FREEZE_LANE_SLICER : Field := ⟨.SY_LOOP_FREEZE, 4, 4⟩
def SY_LOOP_FREEZE_LANE_EQ : Field := ⟨.SY_LOOP_FREEZE, 3, 3⟩
def SY_LOOP_FREEZE_POOL_FREQ : Field := ⟨.SY_LOOP_FREEZE, 2, 2⟩
def SY_LOOP_FREEZE_AVS_LE : Field := ⟨.SY_LOOP_FREEZE, 1, 1⟩
def SY_LOOP_FREEZE_AVS_CORE : Field := ⟨.SY_LOOP_FREEZE, 0, 0⟩
def SY_LOOP_STAT_POOL_GUARD : Field := ⟨.SY_LOOP_STAT, 10, 10⟩
def SY_LOOP_STAT_AVS_LE_OVR : Field := ⟨.SY_LOOP_STAT, 9, 9⟩
def SY_LOOP_STAT_AVS_CORE_OVR : Field := ⟨.SY_LOOP_STAT, 8, 8⟩
def SY_LOOP_STAT_FROZEN : Field := ⟨.SY_LOOP_STAT, 7, 0⟩
def TR_SEL_TRAIN : Field := ⟨.TR_SEL, 11, 0⟩
def TR_CTRL_RTRAIN : Field := ⟨.TR_CTRL, 27, 16⟩
def TR_CTRL_RET_EN : Field := ⟨.TR_CTRL, 2, 2⟩
def TR_CTRL_RDI_DIS : Field := ⟨.TR_CTRL, 1, 1⟩
def TR_CTRL_AIS_DIS : Field := ⟨.TR_CTRL, 0, 0⟩
def TR_STAT_CSF : Field := ⟨.TR_STAT, 5, 5⟩
def TR_STAT_RDI : Field := ⟨.TR_STAT, 4, 4⟩
def TR_STAT_AIS : Field := ⟨.TR_STAT, 3, 3⟩
def TR_STAT_SKEW : Field := ⟨.TR_STAT, 2, 2⟩
def TR_STAT_MIS : Field := ⟨.TR_STAT, 1, 1⟩
def TR_STAT_SEQ_LOSS : Field := ⟨.TR_STAT, 0, 0⟩
def TR_STICKY_BIP : Field := ⟨.TR_STICKY, 7, 7⟩
def TR_STICKY_FC_ERR : Field := ⟨.TR_STICKY, 6, 6⟩
def TR_STICKY_DEF : Field := ⟨.TR_STICKY, 5, 0⟩
def TR_BIP_LO_CNT_LO : Field := ⟨.TR_BIP_LO, 31, 0⟩
def TR_BIP_HI_CNT_HI : Field := ⟨.TR_BIP_HI, 15, 0⟩
def BP_SEL_PORT : Field := ⟨.BP_SEL, 14, 0⟩
def BP_PSTAT_STATE : Field := ⟨.BP_PSTAT, 31, 30⟩
def BP_PSTAT_PIN : Field := ⟨.BP_PSTAT, 29, 20⟩
def BP_PSTAT_POUT : Field := ⟨.BP_PSTAT, 19, 10⟩
def BP_PSTAT_DEV : Field := ⟨.BP_PSTAT, 9, 0⟩
def BP_JCNT_IN_INC : Field := ⟨.BP_JCNT, 31, 24⟩
def BP_JCNT_IN_DEC : Field := ⟨.BP_JCNT, 23, 16⟩
def BP_JCNT_OUT_INC : Field := ⟨.BP_JCNT, 15, 8⟩
def BP_JCNT_OUT_DEC : Field := ⟨.BP_JCNT, 7, 0⟩
def BP_ECNT_BBIP : Field := ⟨.BP_ECNT, 31, 16⟩
def BP_ECNT_SLIP : Field := ⟨.BP_ECNT, 15, 8⟩
def BP_ECNT_NDF : Field := ⟨.BP_ECNT, 7, 0⟩
def BP_STICKY_BBIP : Field := ⟨.BP_STICKY, 4, 4⟩
def BP_STICKY_NDF : Field := ⟨.BP_STICKY, 3, 3⟩
def BP_STICKY_SLIP : Field := ⟨.BP_STICKY, 2, 2⟩
def BP_STICKY_AIS : Field := ⟨.BP_STICKY, 1, 1⟩
def BP_STICKY_LOP : Field := ⟨.BP_STICKY, 0, 0⟩
def GRID_SWAP_AT_LO_AT_LO : Field := ⟨.GRID_SWAP_AT_LO, 31, 0⟩
def GRID_SWAP_AT_HI_AT_HI : Field := ⟨.GRID_SWAP_AT_HI, 15, 0⟩
def GRID_SWAP_CMD_COPYBACK : Field := ⟨.GRID_SWAP_CMD, 3, 3⟩
def GRID_SWAP_CMD_CANCEL : Field := ⟨.GRID_SWAP_CMD, 2, 2⟩
def GRID_SWAP_CMD_ARM : Field := ⟨.GRID_SWAP_CMD, 1, 1⟩
def GRID_SWAP_CMD_PREPARE : Field := ⟨.GRID_SWAP_CMD, 0, 0⟩
def GRID_SWAP_STAT_STATE : Field := ⟨.GRID_SWAP_STAT, 31, 29⟩
def GRID_SWAP_STAT_ARMED : Field := ⟨.GRID_SWAP_STAT, 28, 28⟩
def GRID_SWAP_STAT_CLASS : Field := ⟨.GRID_SWAP_STAT, 27, 27⟩
def GRID_SWAP_STAT_LIVE_BANK : Field := ⟨.GRID_SWAP_STAT, 26, 26⟩
def GRID_SWAP_STAT_RESULT : Field := ⟨.GRID_SWAP_STAT, 25, 22⟩
def GRID_SWAP_INFO_CAUSE : Field := ⟨.GRID_SWAP_INFO, 31, 28⟩
def GRID_SWAP_INFO_INDEX : Field := ⟨.GRID_SWAP_INFO, 14, 0⟩
def GRID_SWAP_CNT_DIFF : Field := ⟨.GRID_SWAP_CNT, 30, 16⟩
def GRID_SWAP_CNT_FAIL : Field := ⟨.GRID_SWAP_CNT, 14, 0⟩
def GRID_SWAP_DONE_LO_DONE_LO : Field := ⟨.GRID_SWAP_DONE_LO, 31, 0⟩
def GRID_SWAP_DONE_HI_DONE_HI : Field := ⟨.GRID_SWAP_DONE_HI, 15, 0⟩
def GRID_STOW_CMD_REPACK : Field := ⟨.GRID_STOW_CMD, 0, 0⟩
def GRID_STOW_STAT_REPACK_BUSY : Field := ⟨.GRID_STOW_STAT, 31, 31⟩
def GRID_STOW_STAT_REPACK_REJ : Field := ⟨.GRID_STOW_STAT, 30, 30⟩
def GRID_STOW_STAT_LAST_TICKS : Field := ⟨.GRID_STOW_STAT, 24, 16⟩
def GRID_STOW_STAT_LAST_WRITES : Field := ⟨.GRID_STOW_STAT, 14, 0⟩
def GRID_MC_STAT_SHADOW_EXTRA : Field := ⟨.GRID_MC_STAT, 30, 16⟩
def GRID_MC_STAT_LIVE_EXTRA : Field := ⟨.GRID_MC_STAT, 14, 0⟩
def GRID_STICKY_REPACK_DONE : Field := ⟨.GRID_STICKY, 10, 10⟩
def GRID_STICKY_REPACK_ABORT : Field := ⟨.GRID_STICKY, 9, 9⟩
def GRID_STICKY_MAN_ECC : Field := ⟨.GRID_STICKY, 8, 8⟩
def GRID_STICKY_CTL_UNCORR : Field := ⟨.GRID_STICKY, 7, 7⟩
def GRID_STICKY_CTL_CORR : Field := ⟨.GRID_STICKY, 6, 6⟩
def GRID_STICKY_LOCKED_WR : Field := ⟨.GRID_STICKY, 5, 5⟩
def GRID_STICKY_TICK_LATE : Field := ⟨.GRID_STICKY, 4, 4⟩
def GRID_STICKY_MAN_INVALID : Field := ⟨.GRID_STICKY, 3, 3⟩
def GRID_STICKY_PLACE_FAIL : Field := ⟨.GRID_STICKY, 2, 2⟩
def GRID_STICKY_SWAP_MISSED : Field := ⟨.GRID_STICKY, 1, 1⟩
def GRID_STICKY_SWAP_DONE : Field := ⟨.GRID_STICKY, 0, 0⟩
def GRID_ECC_CORR : Field := ⟨.GRID_ECC, 31, 16⟩
def GRID_ECC_UNCORR : Field := ⟨.GRID_ECC, 15, 0⟩
def GRID_ECC_ADDR_SRC_MEM : Field := ⟨.GRID_ECC_ADDR, 31, 31⟩
def GRID_ECC_ADDR_STAGE : Field := ⟨.GRID_ECC_ADDR, 30, 29⟩
def GRID_ECC_ADDR_PORT : Field := ⟨.GRID_ECC_ADDR, 14, 0⟩
def BP_PLAN_EG_VALID : Field := ⟨.BP_PLAN, 31, 31⟩
def BP_PLAN_EG_SLOT : Field := ⟨.BP_PLAN, 24, 16⟩
def BP_PLAN_IN_VALID : Field := ⟨.BP_PLAN, 15, 15⟩
def BP_PLAN_IN_READS : Field := ⟨.BP_PLAN, 14, 12⟩
def BP_PLAN_IN_SLOT : Field := ⟨.BP_PLAN, 8, 0⟩
def LN_CHSEL_LANE : Field := ⟨.LN_CHSEL, 6, 0⟩
def LN_CFG_QUAY : Field := ⟨.LN_CFG, 13, 8⟩
def LN_CFG_TRAIN_EN : Field := ⟨.LN_CFG, 7, 7⟩
def LN_CFG_ENC : Field := ⟨.LN_CFG, 6, 6⟩
def LN_CFG_RATE : Field := ⟨.LN_CFG, 4, 0⟩
def LN_CTRL_RX_PRECODE : Field := ⟨.LN_CTRL, 4, 4⟩
def LN_CTRL_TX_PRECODE : Field := ⟨.LN_CTRL, 3, 3⟩
def LN_CTRL_RX_INV : Field := ⟨.LN_CTRL, 2, 2⟩
def LN_CTRL_TX_INV : Field := ⟨.LN_CTRL, 1, 1⟩
def LN_CTRL_TX_EN : Field := ⟨.LN_CTRL, 0, 0⟩
def LN_STAT_EQ_RESETS : Field := ⟨.LN_STAT, 31, 24⟩
def LN_STAT_PAT_BAD : Field := ⟨.LN_STAT, 9, 9⟩
def LN_STAT_PAT_INV : Field := ⟨.LN_STAT, 8, 8⟩
def LN_STAT_PAT_LOCK : Field := ⟨.LN_STAT, 7, 7⟩
def LN_STAT_CDR_LOCK : Field := ⟨.LN_STAT, 6, 6⟩
def LN_STAT_SIGNAL : Field := ⟨.LN_STAT, 5, 5⟩
def LN_STAT_LOOP_ON : Field := ⟨.LN_STAT, 4, 4⟩
def LN_STAT_STATE : Field := ⟨.LN_STAT, 2, 0⟩
def LN_STICKY_TX_FAULT : Field := ⟨.LN_STICKY, 11, 11⟩
def LN_STICKY_LOOP_LOST : Field := ⟨.LN_STICKY, 10, 10⟩
def LN_STICKY_PAT_ERR : Field := ⟨.LN_STICKY, 9, 9⟩
def LN_STICKY_PAT_SYNC_LOSS : Field := ⟨.LN_STICKY, 8, 8⟩
def LN_STICKY_PAT_SYNC : Field := ⟨.LN_STICKY, 7, 7⟩
def LN_STICKY_SLICER_LIMIT : Field := ⟨.LN_STICKY, 6, 6⟩
def LN_STICKY_LANE_EQ_RESET : Field := ⟨.LN_STICKY, 5, 5⟩
def LN_STICKY_TRAIN_FAIL : Field := ⟨.LN_STICKY, 4, 4⟩
def LN_STICKY_TRAIN_DONE : Field := ⟨.LN_STICKY, 3, 3⟩
def LN_STICKY_LOL : Field := ⟨.LN_STICKY, 2, 2⟩
def LN_STICKY_SIG_OK : Field := ⟨.LN_STICKY, 1, 1⟩
def LN_STICKY_LOS : Field := ⟨.LN_STICKY, 0, 0⟩
def LN_MASK_MASK : Field := ⟨.LN_MASK, 11, 0⟩
def LN_TRAIN_CTRL_BACKOFF_DIS : Field := ⟨.LN_TRAIN_CTRL, 1, 1⟩
def LN_TRAIN_CTRL_RESTART : Field := ⟨.LN_TRAIN_CTRL, 0, 0⟩
def LN_TRAIN_STAT_LAST : Field := ⟨.LN_TRAIN_STAT, 19, 18⟩
def LN_TRAIN_STAT_BACKOFF : Field := ⟨.LN_TRAIN_STAT, 17, 17⟩
def LN_TRAIN_STAT_W_S : Field := ⟨.LN_TRAIN_STAT, 16, 12⟩
def LN_TRAIN_STAT_PARTNER : Field := ⟨.LN_TRAIN_STAT, 11, 11⟩
def LN_TRAIN_STAT_ATTEMPTS : Field := ⟨.LN_TRAIN_STAT, 3, 0⟩
def LN_EQ_CTRL_DIV : Field := ⟨.LN_EQ_CTRL, 12, 8⟩
def LN_EQ_CTRL_PRESET : Field := ⟨.LN_EQ_CTRL, 2, 2⟩
def LN_EQ_CTRL_SLC_FRZ : Field := ⟨.LN_EQ_CTRL, 1, 1⟩
def LN_EQ_CTRL_EQ_FRZ : Field := ⟨.LN_EQ_CTRL, 0, 0⟩
def LN_TXFFE0_C0 : Field := ⟨.LN_TXFFE0, 31, 24⟩
def LN_TXFFE0_CM1 : Field := ⟨.LN_TXFFE0, 23, 16⟩
def LN_TXFFE0_CM2 : Field := ⟨.LN_TXFFE0, 15, 8⟩
def LN_TXFFE0_CM3 : Field := ⟨.LN_TXFFE0, 7, 0⟩
def LN_TXFFE1_CP2 : Field := ⟨.LN_TXFFE1, 15, 8⟩
def LN_TXFFE1_CP1 : Field := ⟨.LN_TXFFE1, 7, 0⟩
def LN_RXEQ_H1 : Field := ⟨.LN_RXEQ, 23, 16⟩
def LN_RXEQ_VGA : Field := ⟨.LN_RXEQ, 12, 8⟩
def LN_RXEQ_CTLE : Field := ⟨.LN_RXEQ, 5, 0⟩
def LN_RXFFE0_POST1 : Field := ⟨.LN_RXFFE0, 31, 24⟩
def LN_RXFFE0_PRE1 : Field := ⟨.LN_RXFFE0, 23, 16⟩
def LN_RXFFE0_PRE2 : Field := ⟨.LN_RXFFE0, 15, 8⟩
def LN_RXFFE0_PRE3 : Field := ⟨.LN_RXFFE0, 7, 0⟩
def LN_RXFFE1_POST5 : Field := ⟨.LN_RXFFE1, 31, 24⟩
def LN_RXFFE1_POST4 : Field := ⟨.LN_RXFFE1, 23, 16⟩
def LN_RXFFE1_POST3 : Field := ⟨.LN_RXFFE1, 15, 8⟩
def LN_RXFFE1_POST2 : Field := ⟨.LN_RXFFE1, 7, 0⟩
def LN_RXFFE2_POST8 : Field := ⟨.LN_RXFFE2, 23, 16⟩
def LN_RXFFE2_POST7 : Field := ⟨.LN_RXFFE2, 15, 8⟩
def LN_RXFFE2_POST6 : Field := ⟨.LN_RXFFE2, 7, 0⟩
def LN_SLICER_UPPER : Field := ⟨.LN_SLICER, 23, 16⟩
def LN_SLICER_MIDDLE : Field := ⟨.LN_SLICER, 15, 8⟩
def LN_SLICER_LOWER : Field := ⟨.LN_SLICER, 7, 0⟩
def LN_LOOP_TX_SQ : Field := ⟨.LN_LOOP, 2, 2⟩
def LN_LOOP_MODE : Field := ⟨.LN_LOOP, 1, 0⟩
def LN_PAT_GEN_SQ_N : Field := ⟨.LN_PAT_GEN, 12, 8⟩
def LN_PAT_GEN_PAT : Field := ⟨.LN_PAT_GEN, 4, 1⟩
def LN_PAT_GEN_EN : Field := ⟨.LN_PAT_GEN, 0, 0⟩
def LN_PAT_CHK_CLR : Field := ⟨.LN_PAT_CHK, 5, 5⟩
def LN_PAT_CHK_PAT : Field := ⟨.LN_PAT_CHK, 4, 1⟩
def LN_PAT_CHK_EN : Field := ⟨.LN_PAT_CHK, 0, 0⟩
def LN_PAT_USER_LO_USER_LO : Field := ⟨.LN_PAT_USER_LO, 31, 0⟩
def LN_PAT_USER_HI_USER_HI : Field := ⟨.LN_PAT_USER_HI, 31, 0⟩
def LN_INJ_BLEN : Field := ⟨.LN_INJ, 31, 24⟩
def LN_INJ_M : Field := ⟨.LN_INJ, 23, 20⟩
def LN_INJ_E : Field := ⟨.LN_INJ, 19, 15⟩
def LN_INJ_RATE_EN : Field := ⟨.LN_INJ, 2, 2⟩
def LN_INJ_BURST : Field := ⟨.LN_INJ, 1, 1⟩
def LN_INJ_SINGLE : Field := ⟨.LN_INJ, 0, 0⟩
def LN_ERR_LO_ERR_LO : Field := ⟨.LN_ERR_LO, 31, 0⟩
def LN_ERR_HI_ERR_HI : Field := ⟨.LN_ERR_HI, 15, 0⟩
def LN_BITS_LO_BITS_LO : Field := ⟨.LN_BITS_LO, 31, 0⟩
def LN_BITS_HI_BITS_HI : Field := ⟨.LN_BITS_HI, 15, 0⟩
def QY_CHSEL_QUAY : Field := ⟨.QY_CHSEL, 5, 0⟩
def QY_CSEL_CNT : Field := ⟨.QY_CSEL, 11, 8⟩
def QY_CSEL_C : Field := ⟨.QY_CSEL, 0, 0⟩
def QY_CFG_GANG : Field := ⟨.QY_CFG, 31, 30⟩
def QY_CFG_LEAD : Field := ⟨.QY_CFG, 29, 24⟩
def QY_CFG_OTUC_N : Field := ⟨.QY_CFG, 22, 18⟩
def QY_CFG_C1_TYPE : Field := ⟨.QY_CFG, 15, 11⟩
def QY_CFG_C1_MAP : Field := ⟨.QY_CFG, 10, 9⟩
def QY_CFG_C0_TYPE : Field := ⟨.QY_CFG, 7, 3⟩
def QY_CFG_C0_MAP : Field := ⟨.QY_CFG, 2, 1⟩
def QY_CA_C1 : Field := ⟨.QY_CA, 15, 8⟩
def QY_CA_SQ : Field := ⟨.QY_CA, 4, 4⟩
def QY_CA_BDI_DIS : Field := ⟨.QY_CA, 3, 3⟩
def QY_CA_RF_DIS : Field := ⟨.QY_CA, 2, 2⟩
def QY_CA_EG_DIS : Field := ⟨.QY_CA, 1, 1⟩
def QY_CA_CSF_DIS : Field := ⟨.QY_CA, 0, 0⟩
def QY_MAP_C1 : Field := ⟨.QY_MAP, 15, 8⟩
def QY_MAP_SYNCE : Field := ⟨.QY_MAP, 7, 7⟩
def QY_MAP_DBW : Field := ⟨.QY_MAP, 6, 4⟩
def QY_MAP_IBW : Field := ⟨.QY_MAP, 3, 0⟩
def QY_STAT_C1 : Field := ⟨.QY_STAT, 15, 8⟩
def QY_STAT_RX_RF : Field := ⟨.QY_STAT, 7, 7⟩
def QY_STAT_RX_LF_BDI : Field := ⟨.QY_STAT, 6, 6⟩
def QY_STAT_RF_TX : Field := ⟨.QY_STAT, 5, 5⟩
def QY_STAT_EG_ACT : Field := ⟨.QY_STAT, 4, 4⟩
def QY_STAT_CSF_TX : Field := ⟨.QY_STAT, 3, 3⟩
def QY_STAT_DEG : Field := ⟨.QY_STAT, 2, 2⟩
def QY_STAT_LOF : Field := ⟨.QY_STAT, 1, 1⟩
def QY_STAT_LOS : Field := ⟨.QY_STAT, 0, 0⟩
def QY_STICKY_ODU_ALM : Field := ⟨.QY_STICKY, 18, 18⟩
def QY_STICKY_PKT_OVF : Field := ⟨.QY_STICKY, 17, 17⟩
def QY_STICKY_DESKEW : Field := ⟨.QY_STICKY, 16, 16⟩
def QY_STICKY_C1 : Field := ⟨.QY_STICKY, 15, 8⟩
def QY_STICKY_DROP : Field := ⟨.QY_STICKY, 7, 7⟩
def QY_STICKY_DESYNC_SLIP : Field := ⟨.QY_STICKY, 6, 6⟩
def QY_STICKY_FILL_LIMIT : Field := ⟨.QY_STICKY, 5, 5⟩
def QY_STICKY_EG_ACT : Field := ⟨.QY_STICKY, 4, 4⟩
def QY_STICKY_CSF : Field := ⟨.QY_STICKY, 3, 3⟩
def QY_STICKY_DEG : Field := ⟨.QY_STICKY, 2, 2⟩
def QY_STICKY_LOF : Field := ⟨.QY_STICKY, 1, 1⟩
def QY_STICKY_LOS : Field := ⟨.QY_STICKY, 0, 0⟩
def QY_MASK_MASK : Field := ⟨.QY_MASK, 18, 0⟩
def QY_FIFO_IN_DEV : Field := ⟨.QY_FIFO, 31, 16⟩
def QY_FIFO_EG_DEV : Field := ⟨.QY_FIFO, 15, 0⟩
def QY_DLY_EG_NS : Field := ⟨.QY_DLY, 19, 0⟩
def QY_CNT_LO_CNT_LO : Field := ⟨.QY_CNT_LO, 31, 0⟩
def QY_CNT_HI_CNT_HI : Field := ⟨.QY_CNT_HI, 15, 0⟩
def QY_TRACE_TRACE : Field := ⟨.QY_TRACE, 31, 0⟩
def QY_TS_CTRL_C1 : Field := ⟨.QY_TS_CTRL, 15, 8⟩
def QY_TS_CTRL_ESMC : Field := ⟨.QY_TS_CTRL, 5, 5⟩
def QY_TS_CTRL_IPV6 : Field := ⟨.QY_TS_CTRL, 4, 4⟩
def QY_TS_CTRL_IPV4 : Field := ⟨.QY_TS_CTRL, 3, 3⟩
def QY_TS_CTRL_L2 : Field := ⟨.QY_TS_CTRL, 2, 2⟩
def QY_TS_CTRL_MODE : Field := ⟨.QY_TS_CTRL, 1, 0⟩
def QY_TS_ADJ_RX_ADJ : Field := ⟨.QY_TS_ADJ, 31, 16⟩
def QY_TS_ADJ_TX_ADJ : Field := ⟨.QY_TS_ADJ, 15, 0⟩
def QY_XSTAT_XFRAMES : Field := ⟨.QY_XSTAT, 31, 24⟩
def QY_XSTAT_IFREE : Field := ⟨.QY_XSTAT, 22, 16⟩
def QY_XSTAT_XNEXT : Field := ⟨.QY_XSTAT, 13, 0⟩
def QY_XDATA_DATA : Field := ⟨.QY_XDATA, 31, 0⟩
def QY_IDATA_DATA : Field := ⟨.QY_IDATA, 31, 0⟩
def QY_TSF0_VALID : Field := ⟨.QY_TSF0, 31, 31⟩
def QY_TSF0_C : Field := ⟨.QY_TSF0, 30, 30⟩
def QY_TSF0_MSGTYPE : Field := ⟨.QY_TSF0, 29, 26⟩
def QY_TSF0_SEQID : Field := ⟨.QY_TSF0, 15, 0⟩
def QY_TSF1_SEC_HI : Field := ⟨.QY_TSF1, 31, 0⟩
def QY_TSF2_SEC_LO : Field := ⟨.QY_TSF2, 31, 16⟩
def QY_TSF2_NS_HI : Field := ⟨.QY_TSF2, 15, 0⟩
def QY_TSF3_NS_LO : Field := ⟨.QY_TSF3, 31, 18⟩
def QY_TSF3_FRAC : Field := ⟨.QY_TSF3, 15, 0⟩
def LF_CFG_NCW : Field := ⟨.LF_CFG, 23, 16⟩
def LF_CFG_FMT : Field := ⟨.LF_CFG, 9, 8⟩
def LF_CFG_HUB : Field := ⟨.LF_CFG, 7, 7⟩
def LF_CFG_PAIR : Field := ⟨.LF_CFG, 6, 6⟩
def LF_CFG_SUB : Field := ⟨.LF_CFG, 5, 5⟩
def LF_CFG_RSTEP : Field := ⟨.LF_CFG, 3, 0⟩
def LF_ALIGN_LOF : Field := ⟨.LF_ALIGN, 31, 31⟩
def LF_ALIGN_OOF : Field := ⟨.LF_ALIGN, 30, 30⟩
def LF_ALIGN_LOM : Field := ⟨.LF_ALIGN, 29, 29⟩
def LF_ALIGN_CAND : Field := ⟨.LF_ALIGN, 28, 26⟩
def LF_ALIGN_FASERR : Field := ⟨.LF_ALIGN, 8, 0⟩
def LF_STAT_SSF : Field := ⟨.LF_STAT, 7, 7⟩
def LF_STAT_FMT_MIS : Field := ⟨.LF_STAT, 6, 6⟩
def LF_STAT_MID_MIS : Field := ⟨.LF_STAT, 5, 5⟩
def LF_STAT_BDI_RX : Field := ⟨.LF_STAT, 4, 4⟩
def LF_STAT_LOM : Field := ⟨.LF_STAT, 3, 3⟩
def LF_STAT_LOF : Field := ⟨.LF_STAT, 2, 2⟩
def LF_STAT_OOF : Field := ⟨.LF_STAT, 1, 1⟩
def LF_STAT_LOS : Field := ⟨.LF_STAT, 0, 0⟩
def LF_STICKY_GCC_DROP : Field := ⟨.LF_STICKY, 11, 11⟩
def LF_STICKY_TT_CRC : Field := ⟨.LF_STICKY, 10, 10⟩
def LF_STICKY_SBIP : Field := ⟨.LF_STICKY, 9, 9⟩
def LF_STICKY_UCW : Field := ⟨.LF_STICKY, 8, 8⟩
def LF_STICKY_REALIGN : Field := ⟨.LF_STICKY, 7, 7⟩
def LF_STICKY_FNO_JUMP : Field := ⟨.LF_STICKY, 6, 6⟩
def LF_STICKY_FMT_MIS : Field := ⟨.LF_STICKY, 5, 5⟩
def LF_STICKY_MID_MIS : Field := ⟨.LF_STICKY, 4, 4⟩
def LF_STICKY_BDI_RX : Field := ⟨.LF_STICKY, 3, 3⟩
def LF_STICKY_LOM : Field := ⟨.LF_STICKY, 2, 2⟩
def LF_STICKY_LOF : Field := ⟨.LF_STICKY, 1, 1⟩
def LF_STICKY_OOF : Field := ⟨.LF_STICKY, 0, 0⟩
def LF_MASK_MASK : Field := ⟨.LF_MASK, 11, 0⟩
def LF_CA_MID_ON_SWAP : Field := ⟨.LF_CA, 5, 5⟩
def LF_CA_UCW_AIS : Field := ⟨.LF_CA, 4, 4⟩
def LF_CA_MID_AIS : Field := ⟨.LF_CA, 3, 3⟩
def LF_CA_BEI_DIS : Field := ⟨.LF_CA, 2, 2⟩
def LF_CA_BDI_DIS : Field := ⟨.LF_CA, 1, 1⟩
def LF_CA_AIS_DIS : Field := ⟨.LF_CA, 0, 0⟩
def LF_MID_TX_MID : Field := ⟨.LF_MID_TX, 31, 0⟩
def LF_MID_NEXT_MID : Field := ⟨.LF_MID_NEXT, 31, 0⟩
def LF_MID_EXP_MID : Field := ⟨.LF_MID_EXP, 31, 0⟩
def LF_MID_RX_MID : Field := ⟨.LF_MID_RX, 31, 0⟩
def LF_FNO_LO_FNO_LO : Field := ⟨.LF_FNO_LO, 31, 0⟩
def LF_FNO_HI_FNO_HI : Field := ⟨.LF_FNO_HI, 15, 0⟩
def LF_PM_SEL_CNT : Field := ⟨.LF_PM_SEL, 3, 0⟩
def LF_PM_LO_CNT_LO : Field := ⟨.LF_PM_LO, 31, 0⟩
def LF_PM_HI_CNT_HI : Field := ⟨.LF_PM_HI, 15, 0⟩
def LF_GCC_STAT_RX0 : Field := ⟨.LF_GCC_STAT, 31, 24⟩
def LF_GCC_STAT_RX1 : Field := ⟨.LF_GCC_STAT, 23, 16⟩
def LF_GCC_STAT_TX0 : Field := ⟨.LF_GCC_STAT, 15, 8⟩
def LF_GCC_STAT_TX1 : Field := ⟨.LF_GCC_STAT, 7, 0⟩
def LF_GCC_RXD0_DATA : Field := ⟨.LF_GCC_RXD0, 31, 0⟩
def LF_GCC_RXD1_DATA : Field := ⟨.LF_GCC_RXD1, 31, 0⟩
def LF_GCC_TXD0_DATA : Field := ⟨.LF_GCC_TXD0, 31, 0⟩
def LF_GCC_TXD1_DATA : Field := ⟨.LF_GCC_TXD1, 31, 0⟩
def LE_SEL_ENGINE : Field := ⟨.LE_SEL, 2, 0⟩
def LE_CFG_G : Field := ⟨.LE_CFG, 31, 16⟩
def LE_CFG_F : Field := ⟨.LE_CFG, 15, 11⟩
def LE_CFG_CONST : Field := ⟨.LE_CFG, 8, 8⟩
def LE_CFG_K : Field := ⟨.LE_CFG, 6, 0⟩
def LE_SHAPE_C7 : Field := ⟨.LE_SHAPE, 31, 24⟩
def LE_SHAPE_C5 : Field := ⟨.LE_SHAPE, 23, 16⟩
def LE_SHAPE_C3 : Field := ⟨.LE_SHAPE, 15, 8⟩
def LE_SHAPE_C1 : Field := ⟨.LE_SHAPE, 7, 0⟩
def LE_CTRL_DRV_BYP : Field := ⟨.LE_CTRL, 13, 13⟩
def LE_CTRL_ACQ_RESTART : Field := ⟨.LE_CTRL, 12, 12⟩
def LE_CTRL_FAST_DIS : Field := ⟨.LE_CTRL, 11, 11⟩
def LE_CTRL_EQ_FRZ : Field := ⟨.LE_CTRL, 10, 10⟩
def LE_CTRL_LASER_EN : Field := ⟨.LE_CTRL, 9, 9⟩
def LE_CTRL_TX_EN : Field := ⟨.LE_CTRL, 8, 8⟩
def LE_CTRL_PSTATE : Field := ⟨.LE_CTRL, 1, 0⟩
def LE_STAT_LEVEL : Field := ⟨.LE_STAT, 31, 20⟩
def LE_STAT_DESKEW_OK : Field := ⟨.LE_STAT, 18, 18⟩
def LE_STAT_FAULT_HOLD : Field := ⟨.LE_STAT, 17, 17⟩
def LE_STAT_MATE_HOLD : Field := ⟨.LE_STAT, 16, 16⟩
def LE_STAT_PSTATE : Field := ⟨.LE_STAT, 13, 12⟩
def LE_STAT_RX_STATE : Field := ⟨.LE_STAT, 10, 8⟩
def LE_STAT_TX_STATE : Field := ⟨.LE_STAT, 2, 0⟩
def LE_STICKY_SPI_ERR : Field := ⟨.LE_STICKY, 11, 11⟩
def LE_STICKY_SPI_DONE : Field := ⟨.LE_STICKY, 10, 10⟩
def LE_STICKY_DESKEW_LOSS : Field := ⟨.LE_STICKY, 9, 9⟩
def LE_STICKY_CONV_FAULT : Field := ⟨.LE_STICKY, 8, 8⟩
def LE_STICKY_DRV_FAULT : Field := ⟨.LE_STICKY, 7, 7⟩
def LE_STICKY_RAMP_REV : Field := ⟨.LE_STICKY, 6, 6⟩
def LE_STICKY_RAMP_DONE : Field := ⟨.LE_STICKY, 5, 5⟩
def LE_STICKY_ACQ_FAIL : Field := ⟨.LE_STICKY, 4, 4⟩
def LE_STICKY_LOL : Field := ⟨.LE_STICKY, 3, 3⟩
def LE_STICKY_LOCK : Field := ⟨.LE_STICKY, 2, 2⟩
def LE_STICKY_SIG_OK : Field := ⟨.LE_STICKY, 1, 1⟩
def LE_STICKY_LOS : Field := ⟨.LE_STICKY, 0, 0⟩
def LE_MASK_MASK : Field := ⟨.LE_MASK, 11, 0⟩
def LE_RAMP_T_LASER : Field := ⟨.LE_RAMP, 23, 16⟩
def LE_RAMP_T_DARK : Field := ⟨.LE_RAMP, 15, 8⟩
def LE_RAMP_T_LIGHT : Field := ⟨.LE_RAMP, 7, 0⟩
def LE_DRV_ATTEN : Field := ⟨.LE_DRV, 7, 0⟩
def LE_TXSKEW_CH3 : Field := ⟨.LE_TXSKEW, 31, 24⟩
def LE_TXSKEW_CH2 : Field := ⟨.LE_TXSKEW, 23, 16⟩
def LE_TXSKEW_CH1 : Field := ⟨.LE_TXSKEW, 15, 8⟩
def LE_TXSKEW_CH0 : Field := ⟨.LE_TXSKEW, 7, 0⟩
def LE_RXSKEW_CH3 : Field := ⟨.LE_RXSKEW, 31, 24⟩
def LE_RXSKEW_CH2 : Field := ⟨.LE_RXSKEW, 23, 16⟩
def LE_RXSKEW_CH1 : Field := ⟨.LE_RXSKEW, 15, 8⟩
def LE_RXSKEW_CH0 : Field := ⟨.LE_RXSKEW, 7, 0⟩
def LE_RMP_SRC : Field := ⟨.LE_RMP, 31, 31⟩
def LE_RMP_LEVEL : Field := ⟨.LE_RMP, 9, 0⟩
def LE_LOS_DEASSERT : Field := ⟨.LE_LOS, 15, 8⟩
def LE_LOS_ASSERT : Field := ⟨.LE_LOS, 7, 0⟩
def LE_ACQ_HINT_EN : Field := ⟨.LE_ACQ, 31, 31⟩
def LE_ACQ_WIN : Field := ⟨.LE_ACQ, 23, 16⟩
def LE_ACQ_HINT : Field := ⟨.LE_ACQ, 15, 0⟩
def LE_CD_CD : Field := ⟨.LE_CD, 31, 0⟩
def LE_FOFS_FOFS : Field := ⟨.LE_FOFS, 15, 0⟩
def LE_EQ_STAT_LOL_CNT : Field := ⟨.LE_EQ_STAT, 31, 24⟩
def LE_EQ_STAT_ACQ_CNT : Field := ⟨.LE_EQ_STAT, 23, 16⟩
def LE_EQ_STAT_FROZEN : Field := ⟨.LE_EQ_STAT, 4, 4⟩
def LE_EQ_STAT_FAST : Field := ⟨.LE_EQ_STAT, 3, 3⟩
def LE_EQ_STAT_CR_LOCK : Field := ⟨.LE_EQ_STAT, 2, 2⟩
def LE_EQ_STAT_MIMO_LOCK : Field := ⟨.LE_EQ_STAT, 1, 1⟩
def LE_EQ_STAT_CLK_LOCK : Field := ⟨.LE_EQ_STAT, 0, 0⟩
def LE_MIMO_SEL_FILT : Field := ⟨.LE_MIMO_SEL, 9, 8⟩
def LE_MIMO_SEL_TAP : Field := ⟨.LE_MIMO_SEL, 6, 0⟩
def LE_MIMO_DATA_RE : Field := ⟨.LE_MIMO_DATA, 31, 16⟩
def LE_MIMO_DATA_IM : Field := ⟨.LE_MIMO_DATA, 15, 0⟩
def LE_PAIR_SKEW : Field := ⟨.LE_PAIR, 15, 0⟩
def LE_LASER_FREQ : Field := ⟨.LE_LASER, 31, 0⟩
def LE_SPI_CTRL_BUSY : Field := ⟨.LE_SPI_CTRL, 31, 31⟩
def LE_SPI_CTRL_GO : Field := ⟨.LE_SPI_CTRL, 16, 16⟩
def LE_SPI_CTRL_DIV : Field := ⟨.LE_SPI_CTRL, 15, 9⟩
def LE_SPI_CTRL_CPOL : Field := ⟨.LE_SPI_CTRL, 8, 8⟩
def LE_SPI_CTRL_CS : Field := ⟨.LE_SPI_CTRL, 7, 7⟩
def LE_SPI_CTRL_LEN : Field := ⟨.LE_SPI_CTRL, 6, 0⟩
def LE_SPI_D0_DATA : Field := ⟨.LE_SPI_D0, 31, 0⟩
def LE_SPI_D1_DATA : Field := ⟨.LE_SPI_D1, 31, 0⟩
def FP_CTRL_ORDER : Field := ⟨.FP_CTRL, 8, 8⟩
def FP_CTRL_ENG_EN : Field := ⟨.FP_CTRL, 7, 0⟩
def FP_FREQ_T_HI : Field := ⟨.FP_FREQ, 23, 16⟩
def FP_FREQ_FMAX : Field := ⟨.FP_FREQ, 13, 8⟩
def FP_FREQ_FMIN : Field := ⟨.FP_FREQ, 5, 0⟩
def FP_PLIM_P_LIM : Field := ⟨.FP_PLIM, 11, 0⟩
def FP_STAT_FCODE : Field := ⟨.FP_STAT, 21, 16⟩
def FP_STAT_BUDGET : Field := ⟨.FP_STAT, 11, 0⟩
def FP_LOAD_CAND : Field := ⟨.FP_LOAD, 26, 16⟩
def FP_LOAD_UNSERVED : Field := ⟨.FP_LOAD, 10, 0⟩
def FP_USED_USED : Field := ⟨.FP_USED, 11, 0⟩
def FP_SEL_ENGINE : Field := ⟨.FP_SEL, 10, 8⟩
def FP_SEL_CNT : Field := ⟨.FP_SEL, 4, 0⟩
def FP_CNT_LO_CNT_LO : Field := ⟨.FP_CNT_LO, 31, 0⟩
def FP_CNT_HI_CNT_HI : Field := ⟨.FP_CNT_HI, 15, 0⟩
def FP_STICKY_D2D_LOST : Field := ⟨.FP_STICKY, 3, 3⟩
def FP_STICKY_FREQ_FAIL : Field := ⟨.FP_STICKY, 2, 2⟩
def FP_STICKY_GUARD : Field := ⟨.FP_STICKY, 1, 1⟩
def FP_STICKY_STARVED : Field := ⟨.FP_STICKY, 0, 0⟩
def FP_MASK_MASK : Field := ⟨.FP_MASK, 3, 0⟩
def SEC_DK_STAT_DK_VALID : Field := ⟨.SEC_DK_STAT, 0, 0⟩
def SEC_KSEL_ENGINE : Field := ⟨.SEC_KSEL, 14, 12⟩
def SEC_KSEL_DIR : Field := ⟨.SEC_KSEL, 11, 11⟩
def SEC_KSEL_CTX : Field := ⟨.SEC_KSEL, 10, 0⟩
def SEC_CTX_CFG_VALID : Field := ⟨.SEC_CTX_CFG, 31, 31⟩
def SEC_CTX_CFG_REQUIRE : Field := ⟨.SEC_CTX_CFG, 30, 30⟩
def SEC_CTX_CFG_S0 : Field := ⟨.SEC_CTX_CFG, 23, 12⟩
def SEC_CTX_CFG_TRAIN : Field := ⟨.SEC_CTX_CFG, 11, 0⟩
def SEC_CTX_STAT_STATE : Field := ⟨.SEC_CTX_STAT, 31, 30⟩
def SEC_CTX_STAT_NEXT : Field := ⟨.SEC_CTX_STAT, 29, 28⟩
def SEC_CTX_STAT_KEY1 : Field := ⟨.SEC_CTX_STAT, 27, 27⟩
def SEC_CTX_STAT_KEY0 : Field := ⟨.SEC_CTX_STAT, 26, 26⟩
def SEC_CTX_STAT_PENDING : Field := ⟨.SEC_CTX_STAT, 25, 25⟩
def SEC_CTX_STAT_LATCHED : Field := ⟨.SEC_CTX_STAT, 24, 24⟩
def SEC_CTX_STAT_AIS : Field := ⟨.SEC_CTX_STAT, 23, 23⟩
def SEC_CTX_STAT_UNKNOWN : Field := ⟨.SEC_CTX_STAT, 22, 22⟩
def SEC_CTX_CNT_AUTH_FAIL : Field := ⟨.SEC_CTX_CNT, 31, 16⟩
def SEC_CTX_CNT_TAG_LOST : Field := ⟨.SEC_CTX_CNT, 15, 8⟩
def SEC_CTX_CNT_UCW_FAIL : Field := ⟨.SEC_CTX_CNT, 7, 0⟩
def SEC_CTX_LAST_FNO : Field := ⟨.SEC_CTX_LAST, 31, 0⟩
def SEC_KWRAP_WRAP : Field := ⟨.SEC_KWRAP, 31, 0⟩
def SEC_KAT_LO_AT_LO : Field := ⟨.SEC_KAT_LO, 31, 0⟩
def SEC_KAT_HI_AT_HI : Field := ⟨.SEC_KAT_HI, 15, 0⟩
def SEC_KCMD_TARGET : Field := ⟨.SEC_KCMD, 6, 5⟩
def SEC_KCMD_PHASE : Field := ⟨.SEC_KCMD, 4, 4⟩
def SEC_KCMD_CMD : Field := ⟨.SEC_KCMD, 2, 0⟩
def SEC_KRES_BUSY : Field := ⟨.SEC_KRES, 31, 31⟩
def SEC_KRES_RESULT : Field := ⟨.SEC_KRES, 3, 0⟩
def SEC_ECTRL_CLR_LATCH : Field := ⟨.SEC_ECTRL, 2, 2⟩
def SEC_ECTRL_LATCH : Field := ⟨.SEC_ECTRL, 1, 1⟩
def SEC_ECTRL_LOST_AIS : Field := ⟨.SEC_ECTRL, 0, 0⟩
def SEC_ESTICKY_UNWRAP_FAIL : Field := ⟨.SEC_ESTICKY, 5, 5⟩
def SEC_ESTICKY_ANN_LOSS : Field := ⟨.SEC_ESTICKY, 4, 4⟩
def SEC_ESTICKY_DOWNGRADE : Field := ⟨.SEC_ESTICKY, 3, 3⟩
def SEC_ESTICKY_KEY_MISSING : Field := ⟨.SEC_ESTICKY, 2, 2⟩
def SEC_ESTICKY_TAG_LOST : Field := ⟨.SEC_ESTICKY, 1, 1⟩
def SEC_ESTICKY_AUTH_FAIL : Field := ⟨.SEC_ESTICKY, 0, 0⟩
def SEC_EMASK_MASK : Field := ⟨.SEC_EMASK, 5, 0⟩
def TD_SEL_SC : Field := ⟨.TD_SEL, 11, 8⟩
def TD_SEL_LEAF : Field := ⟨.TD_SEL, 7, 0⟩
def TD_CFG_LEAD : Field := ⟨.TD_CFG, 31, 24⟩
def TD_CFG_EQD : Field := ⟨.TD_CFG, 23, 16⟩
def TD_CFG_GCC_SC : Field := ⟨.TD_CFG, 13, 10⟩
def TD_CFG_DT : Field := ⟨.TD_CFG, 9, 0⟩
def TD_FMT_GUP : Field := ⟨.TD_FMT, 31, 16⟩
def TD_FMT_KUP : Field := ⟨.TD_FMT, 6, 0⟩
def TD_SCTYPE_TYPE : Field := ⟨.TD_SCTYPE, 31, 0⟩
def TD_DS_LIT : Field := ⟨.TD_DS, 15, 0⟩
def TD_THR_FRZ : Field := ⟨.TD_THR, 31, 31⟩
def TD_THR_TOL : Field := ⟨.TD_THR, 29, 20⟩
def TD_THR_PMARGIN : Field := ⟨.TD_THR, 19, 16⟩
def TD_THR_CAP : Field := ⟨.TD_THR, 11, 8⟩
def TD_THR_SYNC_TOL : Field := ⟨.TD_THR, 5, 0⟩
def TD_THR_STAT_FLOOR : Field := ⟨.TD_THR_STAT, 31, 24⟩
def TD_THR_STAT_PTHR : Field := ⟨.TD_THR_STAT, 23, 16⟩
def TD_THR_STAT_AT_LIMIT : Field := ⟨.TD_THR_STAT, 6, 6⟩
def TD_THR_STAT_E : Field := ⟨.TD_THR_STAT, 5, 0⟩
def TD_GS_CTRL_ACTIVE : Field := ⟨.TD_GS_CTRL, 31, 31⟩
def TD_GS_CTRL_BANK : Field := ⟨.TD_GS_CTRL, 0, 0⟩
def TD_GS_BANK0_CYC : Field := ⟨.TD_GS_BANK0, 31, 28⟩
def TD_GS_BANK0_LEN : Field := ⟨.TD_GS_BANK0, 27, 18⟩
def TD_GS_BANK0_ADDR : Field := ⟨.TD_GS_BANK0, 17, 0⟩
def TD_GS_BANK1_CYC : Field := ⟨.TD_GS_BANK1, 31, 28⟩
def TD_GS_BANK1_LEN : Field := ⟨.TD_GS_BANK1, 27, 18⟩
def TD_GS_BANK1_ADDR : Field := ⟨.TD_GS_BANK1, 17, 0⟩
def TD_LEAF_CFG_VALID : Field := ⟨.TD_LEAF_CFG, 31, 31⟩
def TD_LEAF_CFG_SC : Field := ⟨.TD_LEAF_CFG, 30, 27⟩
def TD_LEAF_CFG_SLOT : Field := ⟨.TD_LEAF_CFG, 26, 20⟩
def TD_LEAF_CFG_K : Field := ⟨.TD_LEAF_CFG, 19, 13⟩
def TD_LEAF_CFG_TRAIN : Field := ⟨.TD_LEAF_CFG, 11, 0⟩
def TD_LEAF_STAT_LOST : Field := ⟨.TD_LEAF_STAT, 31, 31⟩
def TD_LEAF_STAT_LDI : Field := ⟨.TD_LEAF_STAT, 30, 30⟩
def TD_LEAF_STAT_PWR : Field := ⟨.TD_LEAF_STAT, 29, 22⟩
def TD_LEAF_STAT_TOFS : Field := ⟨.TD_LEAF_STAT, 15, 0⟩
def TD_SC_LAST_LEAF : Field := ⟨.TD_SC_LAST, 7, 0⟩
def TD_SC_STICKY_THR_LIMIT : Field := ⟨.TD_SC_STICKY, 8, 8⟩
def TD_SC_STICKY_HDR_MIS : Field := ⟨.TD_SC_STICKY, 7, 7⟩
def TD_SC_STICKY_GS_ERR : Field := ⟨.TD_SC_STICKY, 6, 6⟩
def TD_SC_STICKY_MISPLACED : Field := ⟨.TD_SC_STICKY, 5, 5⟩
def TD_SC_STICKY_MISDIR : Field := ⟨.TD_SC_STICKY, 4, 4⟩
def TD_SC_STICKY_CAPTURE : Field := ⟨.TD_SC_STICKY, 3, 3⟩
def TD_SC_STICKY_COLLISION : Field := ⟨.TD_SC_STICKY, 2, 2⟩
def TD_SC_STICKY_SYNC_MISS : Field := ⟨.TD_SC_STICKY, 1, 1⟩
def TD_SC_STICKY_FALSE_SYNC : Field := ⟨.TD_SC_STICKY, 0, 0⟩
def TD_LEAF_STICKY_UCW : Field := ⟨.TD_LEAF_STICKY, 6, 6⟩
def TD_LEAF_STICKY_DUP : Field := ⟨.TD_LEAF_STICKY, 5, 5⟩
def TD_LEAF_STICKY_LDI : Field := ⟨.TD_LEAF_STICKY, 4, 4⟩
def TD_LEAF_STICKY_TRUNC : Field := ⟨.TD_LEAF_STICKY, 3, 3⟩
def TD_LEAF_STICKY_LATE : Field := ⟨.TD_LEAF_STICKY, 2, 2⟩
def TD_LEAF_STICKY_MISSING : Field := ⟨.TD_LEAF_STICKY, 1, 1⟩
def TD_LEAF_STICKY_LOST : Field := ⟨.TD_LEAF_STICKY, 0, 0⟩
def TD_MASK_LEAF : Field := ⟨.TD_MASK, 22, 16⟩
def TD_MASK_SC : Field := ⟨.TD_MASK, 8, 0⟩
def TD_CSEL_CNT : Field := ⟨.TD_CSEL, 4, 0⟩
def TD_CNT_LO_CNT_LO : Field := ⟨.TD_CNT_LO, 31, 0⟩
def TD_CNT_HI_CNT_HI : Field := ⟨.TD_CNT_HI, 15, 0⟩
def MG_SEL_GROUP : Field := ⟨.MG_SEL, 10, 0⟩
def MG_CFG_VALID : Field := ⟨.MG_CFG, 31, 31⟩
def MG_CFG_KIND : Field := ⟨.MG_CFG, 30, 29⟩
def MG_CFG_MODE : Field := ⟨.MG_CFG, 28, 28⟩
def MG_CFG_HOLD : Field := ⟨.MG_CFG, 27, 27⟩
def MG_CFG_APS : Field := ⟨.MG_CFG, 26, 26⟩
def MG_CFG_TRAIN : Field := ⟨.MG_CFG, 23, 12⟩
def MG_CFG_ENG_B : Field := ⟨.MG_CFG, 5, 3⟩
def MG_CFG_ENG_A : Field := ⟨.MG_CFG, 2, 0⟩
def MG_INST_B0 : Field := ⟨.MG_INST, 30, 16⟩
def MG_INST_A0 : Field := ⟨.MG_INST, 14, 0⟩
def MG_RANGE_KSZ : Field := ⟨.MG_RANGE, 31, 20⟩
def MG_RANGE_R : Field := ⟨.MG_RANGE, 18, 0⟩
def MG_CTRL_HOLDOFF : Field := ⟨.MG_CTRL, 27, 20⟩
def MG_CTRL_WTR : Field := ⟨.MG_CTRL, 19, 16⟩
def MG_CTRL_SD_THR : Field := ⟨.MG_CTRL, 15, 11⟩
def MG_CTRL_REVERT : Field := ⟨.MG_CTRL, 10, 10⟩
def MG_CTRL_AUTO : Field := ⟨.MG_CTRL, 9, 9⟩
def MG_CTRL_REALIGN : Field := ⟨.MG_CTRL, 8, 8⟩
def MG_CTRL_CMD : Field := ⟨.MG_CTRL, 2, 0⟩
def MG_STAT_STATE : Field := ⟨.MG_STAT, 31, 29⟩
def MG_STAT_SEL : Field := ⟨.MG_STAT, 28, 28⟩
def MG_STAT_A_OK : Field := ⟨.MG_STAT, 27, 27⟩
def MG_STAT_B_OK : Field := ⟨.MG_STAT, 26, 26⟩
def MG_STAT_A_LATE : Field := ⟨.MG_STAT, 25, 25⟩
def MG_STAT_B_LATE : Field := ⟨.MG_STAT, 24, 24⟩
def MG_STAT_A_EARLY : Field := ⟨.MG_STAT, 23, 23⟩
def MG_STAT_B_EARLY : Field := ⟨.MG_STAT, 22, 22⟩
def MG_STAT_REQ : Field := ⟨.MG_STAT, 21, 18⟩
def MG_STAT_FREQ : Field := ⟨.MG_STAT, 17, 14⟩
def MG_STAT_WTR_RUN : Field := ⟨.MG_STAT, 13, 13⟩
def MG_STAT_HOLD_RUN : Field := ⟨.MG_STAT, 12, 12⟩
def MG_DELAY_VALID : Field := ⟨.MG_DELAY, 31, 31⟩
def MG_DELAY_D : Field := ⟨.MG_DELAY, 20, 0⟩
def MG_DHELD_VALID : Field := ⟨.MG_DHELD, 31, 31⟩
def MG_DHELD_TIMING : Field := ⟨.MG_DHELD, 30, 30⟩
def MG_DHELD_DH : Field := ⟨.MG_DHELD, 20, 0⟩
def MG_APS_TX_WORD : Field := ⟨.MG_APS_TX, 31, 0⟩
def MG_APS_RX_WORD : Field := ⟨.MG_APS_RX, 31, 0⟩
def MG_STICKY_DOWN : Field := ⟨.MG_STICKY, 8, 8⟩
def MG_STICKY_APS_MIS : Field := ⟨.MG_STICKY, 7, 7⟩
def MG_STICKY_ROLE_ERR : Field := ⟨.MG_STICKY, 6, 6⟩
def MG_STICKY_BOTH_FAIL : Field := ⟨.MG_STICKY, 5, 5⟩
def MG_STICKY_SWITCH : Field := ⟨.MG_STICKY, 4, 4⟩
def MG_STICKY_EARLY : Field := ⟨.MG_STICKY, 3, 3⟩
def MG_STICKY_LATE : Field := ⟨.MG_STICKY, 2, 2⟩
def MG_STICKY_REALIGN : Field := ⟨.MG_STICKY, 1, 1⟩
def MG_STICKY_ALIGNED : Field := ⟨.MG_STICKY, 0, 0⟩
def MG_MASK_MASK : Field := ⟨.MG_MASK, 8, 0⟩
def MG_CSEL_CNT : Field := ⟨.MG_CSEL, 3, 0⟩
def MG_CNT_LO_CNT_LO : Field := ⟨.MG_CNT_LO, 31, 0⟩
def MG_CNT_HI_CNT_HI : Field := ⟨.MG_CNT_HI, 15, 0⟩
def TM_XO_OCXO : Field := ⟨.TM_XO, 7, 7⟩
def TM_XO_FREQ : Field := ⟨.TM_XO, 2, 0⟩
def TM_RCV_RCV3 : Field := ⟨.TM_RCV, 31, 24⟩
def TM_RCV_RCV2 : Field := ⟨.TM_RCV, 23, 16⟩
def TM_RCV_RCV1 : Field := ⟨.TM_RCV, 15, 8⟩
def TM_RCV_RCV0 : Field := ⟨.TM_RCV, 7, 0⟩
def TM_RSEL_REF : Field := ⟨.TM_RSEL, 3, 0⟩
def TM_REF_FREQ_FREQ : Field := ⟨.TM_REF_FREQ, 29, 0⟩
def TM_REF_CFG_QL : Field := ⟨.TM_REF_CFG, 31, 28⟩
def TM_REF_CFG_GPRIO : Field := ⟨.TM_REF_CFG, 27, 24⟩
def TM_REF_CFG_OPRIO : Field := ⟨.TM_REF_CFG, 23, 20⟩
def TM_REF_CFG_WTR : Field := ⟨.TM_REF_CFG, 19, 12⟩
def TM_REF_CFG_FMAX : Field := ⟨.TM_REF_CFG, 11, 4⟩
def TM_REF_CFG_OEN : Field := ⟨.TM_REF_CFG, 1, 1⟩
def TM_REF_CFG_GEN : Field := ⟨.TM_REF_CFG, 0, 0⟩
def TM_REF_STAT_LOS : Field := ⟨.TM_REF_STAT, 31, 31⟩
def TM_REF_STAT_QUAL : Field := ⟨.TM_REF_STAT, 30, 30⟩
def TM_REF_STAT_QL_IN : Field := ⟨.TM_REF_STAT, 29, 26⟩
def TM_REF_STAT_FOFS : Field := ⟨.TM_REF_STAT, 15, 0⟩
def TM_GD_CTRL_QLH : Field := ⟨.TM_GD_CTRL, 31, 28⟩
def TM_GD_CTRL_FREF : Field := ⟨.TM_GD_CTRL, 27, 24⟩
def TM_GD_CTRL_MODE : Field := ⟨.TM_GD_CTRL, 23, 22⟩
def TM_GD_CTRL_BW : Field := ⟨.TM_GD_CTRL, 21, 20⟩
def TM_GD_CTRL_OPT : Field := ⟨.TM_GD_CTRL, 19, 19⟩
def TM_GD_CTRL_REVERT : Field := ⟨.TM_GD_CTRL, 18, 18⟩
def TM_GD_CTRL_HAVG : Field := ⟨.TM_GD_CTRL, 17, 8⟩
def TM_OD_CTRL_QLH : Field := ⟨.TM_OD_CTRL, 31, 28⟩
def TM_OD_CTRL_FREF : Field := ⟨.TM_OD_CTRL, 27, 24⟩
def TM_OD_CTRL_MODE : Field := ⟨.TM_OD_CTRL, 23, 22⟩
def TM_OD_CTRL_BW : Field := ⟨.TM_OD_CTRL, 21, 20⟩
def TM_OD_CTRL_OPT : Field := ⟨.TM_OD_CTRL, 19, 19⟩
def TM_OD_CTRL_REVERT : Field := ⟨.TM_OD_CTRL, 18, 18⟩
def TM_OD_CTRL_HAVG : Field := ⟨.TM_OD_CTRL, 17, 8⟩
def TM_GD_STAT_STATE : Field := ⟨.TM_GD_STAT, 31, 29⟩
def TM_GD_STAT_SEL : Field := ⟨.TM_GD_STAT, 28, 25⟩
def TM_GD_STAT_QL : Field := ⟨.TM_GD_STAT, 24, 21⟩
def TM_GD_STAT_FOFS : Field := ⟨.TM_GD_STAT, 15, 0⟩
def TM_OD_STAT_STATE : Field := ⟨.TM_OD_STAT, 31, 29⟩
def TM_OD_STAT_SEL : Field := ⟨.TM_OD_STAT, 28, 25⟩
def TM_OD_STAT_QL : Field := ⟨.TM_OD_STAT, 24, 21⟩
def TM_OD_STAT_FOFS : Field := ⟨.TM_OD_STAT, 15, 0⟩
def TM_TSEL_SRC : Field := ⟨.TM_TSEL, 3, 0⟩
def TM_TS_CFG_EN : Field := ⟨.TM_TS_CFG, 31, 31⟩
def TM_TS_CFG_PRIO : Field := ⟨.TM_TS_CFG, 27, 24⟩
def TM_TS_CFG_CLASS : Field := ⟨.TM_TS_CFG, 23, 16⟩
def TM_TS_CFG_ASYM : Field := ⟨.TM_TS_CFG, 15, 14⟩
def TM_TS_CFG_LEARN : Field := ⟨.TM_TS_CFG, 13, 13⟩
def TM_TS_CFG_LIMIT : Field := ⟨.TM_TS_CFG, 11, 4⟩
def TM_TS_ADJ_ADJ : Field := ⟨.TM_TS_ADJ, 31, 0⟩
def TM_TS_STAT_QUAL : Field := ⟨.TM_TS_STAT, 31, 31⟩
def TM_TS_STAT_LEARNED : Field := ⟨.TM_TS_STAT, 30, 30⟩
def TM_TS_STAT_STALE : Field := ⟨.TM_TS_STAT, 29, 29⟩
def TM_TS_STAT_SEL : Field := ⟨.TM_TS_STAT, 28, 28⟩
def TM_TS_STAT_CLASS : Field := ⟨.TM_TS_STAT, 23, 16⟩
def TM_TS_STAT_STEPS : Field := ⟨.TM_TS_STAT, 15, 8⟩
def TM_TS_OFS_VAL : Field := ⟨.TM_TS_OFS, 31, 0⟩
def TM_TS_DLY_VAL : Field := ⟨.TM_TS_DLY, 31, 0⟩
def TM_TS_ASYM_VAL : Field := ⟨.TM_TS_ASYM, 31, 0⟩
def TM_TD_CTRL_STEP_EN : Field := ⟨.TM_TD_CTRL, 31, 31⟩
def TM_TD_CTRL_BW : Field := ⟨.TM_TD_CTRL, 30, 29⟩
def TM_TD_CTRL_FORCE : Field := ⟨.TM_TD_CTRL, 28, 28⟩
def TM_TD_CTRL_FSRC : Field := ⟨.TM_TD_CTRL, 27, 24⟩
def TM_TD_CTRL_SLEW : Field := ⟨.TM_TD_CTRL, 23, 16⟩
def TM_TD_CTRL_STEP_THR : Field := ⟨.TM_TD_CTRL, 15, 0⟩
def TM_TD_STAT_STATE : Field := ⟨.TM_TD_STAT, 31, 29⟩
def TM_TD_STAT_TIME_VALID : Field := ⟨.TM_TD_STAT, 28, 28⟩
def TM_TD_STAT_SRC : Field := ⟨.TM_TD_STAT, 27, 24⟩
def TM_TD_STAT_CLASS : Field := ⟨.TM_TD_STAT, 23, 16⟩
def TM_TD_STAT_STEPS : Field := ⟨.TM_TD_STAT, 15, 8⟩
def TM_SW_OFS_OFS : Field := ⟨.TM_SW_OFS, 31, 0⟩
def TM_TB0_TB : Field := ⟨.TM_TB0, 31, 0⟩
def TM_TB1_TB : Field := ⟨.TM_TB1, 31, 0⟩
def TM_TB2_TB : Field := ⟨.TM_TB2, 31, 0⟩
def TM_TB3_TB : Field := ⟨.TM_TB3, 31, 0⟩
def TM_TB4_TB : Field := ⟨.TM_TB4, 31, 0⟩
def TM_UTC_VALID : Field := ⟨.TM_UTC, 18, 18⟩
def TM_UTC_LEAP61 : Field := ⟨.TM_UTC, 17, 17⟩
def TM_UTC_LEAP59 : Field := ⟨.TM_UTC, 16, 16⟩
def TM_UTC_UTC_OFS : Field := ⟨.TM_UTC, 15, 0⟩
def TM_INV_CTRL_RESET_MODEL : Field := ⟨.TM_INV_CTRL, 31, 31⟩
def TM_INV_CTRL_TSW : Field := ⟨.TM_INV_CTRL, 30, 30⟩
def TM_INV_CTRL_SPEC : Field := ⟨.TM_INV_CTRL, 23, 12⟩
def TM_INV_STAT_LSTATE : Field := ⟨.TM_INV_STAT, 31, 30⟩
def TM_INV_STAT_HOURS : Field := ⟨.TM_INV_STAT, 29, 16⟩
def TM_INV_STAT_BOUND : Field := ⟨.TM_INV_STAT, 15, 0⟩
def TM_INV_TEMP_TEMP : Field := ⟨.TM_INV_TEMP, 15, 0⟩
def TM_PPS_CFG_WIDTH : Field := ⟨.TM_PPS_CFG, 23, 16⟩
def TM_PPS_CFG_TOD_SRC : Field := ⟨.TM_PPS_CFG, 11, 11⟩
def TM_PPS_CFG_SQ : Field := ⟨.TM_PPS_CFG, 10, 10⟩
def TM_PPS_CFG_TOD_BAUD : Field := ⟨.TM_PPS_CFG, 9, 9⟩
def TM_PPS_CFG_TODI_EN : Field := ⟨.TM_PPS_CFG, 8, 8⟩
def TM_PPS_CFG_TODO_EN : Field := ⟨.TM_PPS_CFG, 7, 7⟩
def TM_PPS_CFG_POL_O1 : Field := ⟨.TM_PPS_CFG, 6, 6⟩
def TM_PPS_CFG_POL_O0 : Field := ⟨.TM_PPS_CFG, 5, 5⟩
def TM_PPS_CFG_POL_I1 : Field := ⟨.TM_PPS_CFG, 4, 4⟩
def TM_PPS_CFG_POL_I0 : Field := ⟨.TM_PPS_CFG, 3, 3⟩
def TM_PPS_CFG_EN_O1 : Field := ⟨.TM_PPS_CFG, 1, 1⟩
def TM_PPS_CFG_EN_O0 : Field := ⟨.TM_PPS_CFG, 0, 0⟩
def TM_PPS_ADJ_OUT_ADJ : Field := ⟨.TM_PPS_ADJ, 31, 16⟩
def TM_CLKO_SEL_OUT : Field := ⟨.TM_CLKO_SEL, 1, 0⟩
def TM_CLKO_CFG_EN : Field := ⟨.TM_CLKO_CFG, 31, 31⟩
def TM_CLKO_CFG_SRC : Field := ⟨.TM_CLKO_CFG, 30, 28⟩
def TM_CLKO_CFG_SQ : Field := ⟨.TM_CLKO_CFG, 27, 27⟩
def TM_CLKO_CFG_SQ_QL : Field := ⟨.TM_CLKO_CFG, 26, 23⟩
def TM_CLKO_FREQ_FREQ : Field := ⟨.TM_CLKO_FREQ, 29, 0⟩
def TM_TICK_TO_EN : Field := ⟨.TM_TICK, 31, 31⟩
def TM_TICK_TO_DIV : Field := ⟨.TM_TICK, 30, 26⟩
def TM_TICK_TI_DIV : Field := ⟨.TM_TICK, 20, 16⟩
def TM_TICK_TI_ADJ : Field := ⟨.TM_TICK, 15, 0⟩
def TM_STICKY_TICK_MISMATCH : Field := ⟨.TM_STICKY, 13, 13⟩
def TM_STICKY_INV_TEMP_STALE : Field := ⟨.TM_STICKY, 12, 12⟩
def TM_STICKY_PPS_MISS : Field := ⟨.TM_STICKY, 11, 11⟩
def TM_STICKY_TOD_ERR : Field := ⟨.TM_STICKY, 10, 10⟩
def TM_STICKY_ASYM_STALE : Field := ⟨.TM_STICKY, 9, 9⟩
def TM_STICKY_HOLDOVER_OUT : Field := ⟨.TM_STICKY, 8, 8⟩
def TM_STICKY_TIME_HOLDOVER : Field := ⟨.TM_STICKY, 7, 7⟩
def TM_STICKY_TIME_STEP : Field := ⟨.TM_STICKY, 6, 6⟩
def TM_STICKY_TIME_SRC_SWITCH : Field := ⟨.TM_STICKY, 5, 5⟩
def TM_STICKY_OD_HOLDOVER : Field := ⟨.TM_STICKY, 4, 4⟩
def TM_STICKY_GD_HOLDOVER : Field := ⟨.TM_STICKY, 3, 3⟩
def TM_STICKY_GD_SWITCH : Field := ⟨.TM_STICKY, 2, 2⟩
def TM_STICKY_REF_DISQ : Field := ⟨.TM_STICKY, 1, 1⟩
def TM_STICKY_REF_LOS : Field := ⟨.TM_STICKY, 0, 0⟩
def TM_MASK_MASK : Field := ⟨.TM_MASK, 13, 0⟩
def MS_QSEL_Q : Field := ⟨.MS_QSEL, 3, 0⟩
def MS_QVAL_VAL : Field := ⟨.MS_QVAL, 31, 0⟩
def MS_CAL_B2B : Field := ⟨.MS_CAL, 15, 8⟩
def MS_CAL_PWR_CAL : Field := ⟨.MS_CAL, 7, 0⟩
def MS_LEN_GDLY : Field := ⟨.MS_LEN, 31, 16⟩
def MS_LEN_DCOEF : Field := ⟨.MS_LEN, 15, 0⟩
def MS_SOP_CFG_HOLD : Field := ⟨.MS_SOP_CFG, 31, 24⟩
def MS_SOP_CFG_THR : Field := ⟨.MS_SOP_CFG, 15, 0⟩
def MS_SOP_LAST_LOL : Field := ⟨.MS_SOP_LAST, 31, 31⟩
def MS_SOP_LAST_DUR : Field := ⟨.MS_SOP_LAST, 30, 18⟩
def MS_SOP_LAST_PEAK : Field := ⟨.MS_SOP_LAST, 17, 0⟩
def MS_SOP_START_TICK : Field := ⟨.MS_SOP_START, 31, 0⟩
def MS_SOP_CNT_CNT : Field := ⟨.MS_SOP_CNT, 31, 0⟩
def MS_STICKY_SV_CYCLE : Field := ⟨.MS_STICKY, 6, 6⟩
def MS_STICKY_SV_STEP : Field := ⟨.MS_STICKY, 5, 5⟩
def MS_STICKY_CAP_CUT : Field := ⟨.MS_STICKY, 4, 4⟩
def MS_STICKY_CAP_MISSED : Field := ⟨.MS_STICKY, 3, 3⟩
def MS_STICKY_CAP_DONE : Field := ⟨.MS_STICKY, 2, 2⟩
def MS_STICKY_SOP_TRANSIENT : Field := ⟨.MS_STICKY, 1, 1⟩
def MS_STICKY_SOP_START : Field := ⟨.MS_STICKY, 0, 0⟩
def MS_MASK_MASK : Field := ⟨.MS_MASK, 6, 0⟩
def CAP_CFG_FMT : Field := ⟨.CAP_CFG, 31, 31⟩
def CAP_CFG_OVERWRITE : Field := ⟨.CAP_CFG, 30, 30⟩
def CAP_CFG_NSLOT : Field := ⟨.CAP_CFG, 29, 26⟩
def CAP_CFG_PRE : Field := ⟨.CAP_CFG, 25, 13⟩
def CAP_CFG_POST : Field := ⟨.CAP_CFG, 12, 0⟩
def CAP_TRIG_EV_EN : Field := ⟨.CAP_TRIG, 31, 31⟩
def CAP_TRIG_SOP_EN : Field := ⟨.CAP_TRIG, 30, 30⟩
def CAP_TRIG_SCH_EN : Field := ⟨.CAP_TRIG, 29, 29⟩
def CAP_TRIG_SK : Field := ⟨.CAP_TRIG, 28, 24⟩
def CAP_TRIG_SRC : Field := ⟨.CAP_TRIG, 8, 0⟩
def CAP_CTRL_RELEASE : Field := ⟨.CAP_CTRL, 3, 3⟩
def CAP_CTRL_DISARM : Field := ⟨.CAP_CTRL, 2, 2⟩
def CAP_CTRL_TRIG : Field := ⟨.CAP_CTRL, 1, 1⟩
def CAP_CTRL_ARM : Field := ⟨.CAP_CTRL, 0, 0⟩
def CAP_STAT_ARMED : Field := ⟨.CAP_STAT, 31, 31⟩
def CAP_STAT_POSTING : Field := ⟨.CAP_STAT, 30, 30⟩
def CAP_STAT_RESULT : Field := ⟨.CAP_STAT, 29, 28⟩
def CAP_STAT_NEXT : Field := ⟨.CAP_STAT, 27, 24⟩
def CAP_STAT_DONE : Field := ⟨.CAP_STAT, 23, 19⟩
def CAP_STAT_SKIPPED : Field := ⟨.CAP_STAT, 15, 8⟩
def CAP_STAT_MISSED : Field := ⟨.CAP_STAT, 7, 0⟩
def SV_CFG_ROLE : Field := ⟨.SV_CFG, 31, 30⟩
def SV_CFG_D : Field := ⟨.SV_CFG, 12, 8⟩
def SV_CFG_NSTEP : Field := ⟨.SV_CFG, 3, 0⟩
def SV_STAT_STEP : Field := ⟨.SV_STAT, 31, 28⟩
def SV_STAT_FOLLOW : Field := ⟨.SV_STAT, 27, 27⟩
def SV_STAT_REC : Field := ⟨.SV_STAT, 23, 0⟩
def MT_CFG_ARB : Field := ⟨.MT_CFG, 31, 31⟩
def MT_CFG_ELEN : Field := ⟨.MT_CFG, 27, 24⟩
def MT_CFG_JLEAD : Field := ⟨.MT_CFG, 23, 16⟩
def MT_CFG_DIV_N : Field := ⟨.MT_CFG, 15, 8⟩
def MT_CFG_GRACE : Field := ⟨.MT_CFG, 7, 0⟩
def MT_CTRL_TAKE_T : Field := ⟨.MT_CTRL, 13, 8⟩
def MT_CTRL_SW_GRANT : Field := ⟨.MT_CTRL, 2, 2⟩
def MT_CTRL_RESYNC : Field := ⟨.MT_CTRL, 1, 1⟩
def MT_CTRL_SWITCHOVER : Field := ⟨.MT_CTRL, 0, 0⟩
def MT_STAT_STATE : Field := ⟨.MT_STAT, 31, 29⟩
def MT_STAT_IN_STEP : Field := ⟨.MT_STAT, 28, 28⟩
def MT_STAT_PHASE : Field := ⟨.MT_STAT, 27, 26⟩
def MT_STAT_LINK : Field := ⟨.MT_STAT, 25, 25⟩
def MT_STAT_BOL : Field := ⟨.MT_STAT, 24, 24⟩
def MT_STAT_PRES : Field := ⟨.MT_STAT, 23, 23⟩
def MT_STAT_GRANT : Field := ⟨.MT_STAT, 22, 22⟩
def MT_STAT_MSTATE : Field := ⟨.MT_STAT, 21, 19⟩
def MT_STAT_M_IN_STEP : Field := ⟨.MT_STAT, 18, 18⟩
def MT_STAT_RUN : Field := ⟨.MT_STAT, 9, 0⟩
def MT_JSEQ_JSEQ : Field := ⟨.MT_JSEQ, 31, 0⟩
def MT_EPOCH_EPOCH : Field := ⟨.MT_EPOCH, 31, 0⟩
def MT_MISS_TICK_TICK : Field := ⟨.MT_MISS_TICK, 31, 0⟩
def MT_MISS_PORT_NPORTS : Field := ⟨.MT_MISS_PORT, 14, 8⟩
def MT_MISS_PORT_PORT : Field := ⟨.MT_MISS_PORT, 6, 0⟩
def MT_CSEL_CNT : Field := ⟨.MT_CSEL, 3, 0⟩
def MT_CNT_LO_CNT_LO : Field := ⟨.MT_CNT_LO, 31, 0⟩
def MT_CNT_HI_CNT_HI : Field := ⟨.MT_CNT_HI, 15, 0⟩
def MT_STICKY_GRANT_CONFLICT : Field := ⟨.MT_STICKY, 13, 13⟩
def MT_STICKY_LOCAL_WR : Field := ⟨.MT_STICKY, 12, 12⟩
def MT_STICKY_DUAL_ACTIVE : Field := ⟨.MT_STICKY, 11, 11⟩
def MT_STICKY_EPOCH_DISCARD : Field := ⟨.MT_STICKY, 10, 10⟩
def MT_STICKY_JOURNAL_LATE : Field := ⟨.MT_STICKY, 9, 9⟩
def MT_STICKY_IN_STEP : Field := ⟨.MT_STICKY, 8, 8⟩
def MT_STICKY_DIVERGE : Field := ⟨.MT_STICKY, 7, 7⟩
def MT_STICKY_NOT_READY : Field := ⟨.MT_STICKY, 6, 6⟩
def MT_STICKY_ISOLATED : Field := ⟨.MT_STICKY, 5, 5⟩
def MT_STICKY_TAKEOVER_HIT : Field := ⟨.MT_STICKY, 4, 4⟩
def MT_STICKY_TAKEOVER : Field := ⟨.MT_STICKY, 3, 3⟩
def MT_STICKY_MATE_LOST : Field := ⟨.MT_STICKY, 2, 2⟩
def MT_STICKY_PATH_DEGRADED : Field := ⟨.MT_STICKY, 1, 1⟩
def MT_STICKY_STATE_CHG : Field := ⟨.MT_STICKY, 0, 0⟩
def MT_MASK_MASK : Field := ⟨.MT_MASK, 13, 0⟩
def HR_CFG_ROLE : Field := ⟨.HR_CFG, 31, 30⟩
def HR_CFG_ID : Field := ⟨.HR_CFG, 29, 26⟩
def HR_CFG_PORT_EN : Field := ⟨.HR_CFG, 25, 22⟩
def HR_CFG_XLEAD : Field := ⟨.HR_CFG, 7, 0⟩
def HR_DOMAIN_DOMAIN : Field := ⟨.HR_DOMAIN, 31, 0⟩
def HR_STAT_HOPS : Field := ⟨.HR_STAT, 31, 27⟩
def HR_STAT_TVALID : Field := ⟨.HR_STAT, 26, 26⟩
def HR_STAT_TPORT : Field := ⟨.HR_STAT, 25, 24⟩
def HR_STAT_MISMATCH : Field := ⟨.HR_STAT, 23, 23⟩
def HR_PSEL_PORT : Field := ⟨.HR_PSEL, 1, 0⟩
def HR_PORT_CFG_AIS_DIS : Field := ⟨.HR_PORT_CFG, 9, 9⟩
def HR_PORT_CFG_RETIRE : Field := ⟨.HR_PORT_CFG, 8, 0⟩
def HR_PORT_STAT_SSF : Field := ⟨.HR_PORT_STAT, 31, 31⟩
def HR_PORT_STAT_FOREIGN : Field := ⟨.HR_PORT_STAT, 30, 30⟩
def HR_PORT_STAT_NBR_ID : Field := ⟨.HR_PORT_STAT, 29, 26⟩
def HR_PORT_STAT_NBR_HOPS : Field := ⟨.HR_PORT_STAT, 25, 21⟩
def HR_PORT_STAT_LOST : Field := ⟨.HR_PORT_STAT, 17, 9⟩
def HR_PORT_STAT_FAR_RETIRE : Field := ⟨.HR_PORT_STAT, 8, 0⟩
def HR_DLY_VAL : Field := ⟨.HR_DLY, 31, 0⟩
def HR_OFS_VAL : Field := ⟨.HR_OFS, 31, 0⟩
def HR_ADJ_ADJ : Field := ⟨.HR_ADJ, 15, 0⟩
def HR_STICKY_CC_DROP : Field := ⟨.HR_STICKY, 7, 7⟩
def HR_STICKY_RETIRE_REJ : Field := ⟨.HR_STICKY, 6, 6⟩
def HR_STICKY_DOMAIN_MIS : Field := ⟨.HR_STICKY, 5, 5⟩
def HR_STICKY_PARITY_LOST : Field := ⟨.HR_STICKY, 4, 4⟩
def HR_STICKY_LANE_RESTORED : Field := ⟨.HR_STICKY, 3, 3⟩
def HR_STICKY_LANE_REBUILT : Field := ⟨.HR_STICKY, 2, 2⟩
def HR_STICKY_PORT_FAIL : Field := ⟨.HR_STICKY, 1, 1⟩
def HR_STICKY_BDI_RX : Field := ⟨.HR_STICKY, 0, 0⟩
def HR_MASK_MASK : Field := ⟨.HR_MASK, 7, 0⟩
def HR_CSEL_CNT : Field := ⟨.HR_CSEL, 3, 0⟩
def HR_CNT_LO_CNT_LO : Field := ⟨.HR_CNT_LO, 31, 0⟩
def HR_CNT_HI_CNT_HI : Field := ⟨.HR_CNT_HI, 15, 0⟩
def HR_CC_STAT_WAITING : Field := ⟨.HR_CC_STAT, 31, 24⟩
def HR_CC_STAT_FREE : Field := ⟨.HR_CC_STAT, 15, 0⟩
def HR_CC_TXD_DATA : Field := ⟨.HR_CC_TXD, 31, 0⟩
def HR_CC_RXD_DATA : Field := ⟨.HR_CC_RXD, 31, 0⟩
def HR_DC_AT_LO_AT : Field := ⟨.HR_DC_AT_LO, 31, 0⟩
def HR_DC_AT_HI_AT : Field := ⟨.HR_DC_AT_HI, 15, 0⟩
def HR_DC_CMD_MEMBERS : Field := ⟨.HR_DC_CMD, 31, 16⟩
def HR_DC_CMD_CHANGE : Field := ⟨.HR_DC_CMD, 15, 4⟩
def HR_DC_CMD_ACTION : Field := ⟨.HR_DC_CMD, 3, 3⟩
def HR_DC_CMD_START : Field := ⟨.HR_DC_CMD, 0, 0⟩
def HR_DC_STAT_STATE : Field := ⟨.HR_DC_STAT, 31, 29⟩
def HR_DC_STAT_RESULT : Field := ⟨.HR_DC_STAT, 28, 25⟩
def HR_DC_ACK_MASK : Field := ⟨.HR_DC_ACK, 31, 0⟩
def HR_DC_SKEW_MASK : Field := ⟨.HR_DC_SKEW, 31, 0⟩
def HR_DSTICKY_HROLE_BAD : Field := ⟨.HR_DSTICKY, 5, 5⟩
def HR_DSTICKY_ID_CONFLICT : Field := ⟨.HR_DSTICKY, 4, 4⟩
def HR_DSTICKY_MANAGER_LOST : Field := ⟨.HR_DSTICKY, 3, 3⟩
def HR_DSTICKY_TIMING_SWITCH : Field := ⟨.HR_DSTICKY, 2, 2⟩
def HR_DSTICKY_MODE_SKEW : Field := ⟨.HR_DSTICKY, 1, 1⟩
def HR_DSTICKY_DC_DONE : Field := ⟨.HR_DSTICKY, 0, 0⟩
def HR_DMASK_MASK : Field := ⟨.HR_DMASK, 5, 0⟩
def HR_RSEL_MEMBER : Field := ⟨.HR_RSEL, 3, 0⟩
def HR_ROUTE_VALID : Field := ⟨.HR_ROUTE, 31, 31⟩
def HR_ROUTE_PORT : Field := ⟨.HR_ROUTE, 29, 28⟩
def HR_ROUTE_HOPS : Field := ⟨.HR_ROUTE, 27, 24⟩
def HR_ROUTE_SERIAL : Field := ⟨.HR_ROUTE, 7, 0⟩
def MM_APERTURE_PAGE : Field := ⟨.MM_APERTURE, 11, 0⟩
def MM_BAR2_PAGE : Field := ⟨.MM_BAR2, 9, 0⟩
def MM_ANC_STAT_HBM_OK : Field := ⟨.MM_ANC_STAT, 31, 31⟩
def MM_ANC_STAT_DDR_OK : Field := ⟨.MM_ANC_STAT, 30, 30⟩
def MM_ANC_STAT_DDR_CH : Field := ⟨.MM_ANC_STAT, 29, 26⟩
def MM_ANC_STAT_DIMM : Field := ⟨.MM_ANC_STAT, 25, 23⟩
def MM_ANC_STAT_NEAR_GB : Field := ⟨.MM_ANC_STAT, 22, 14⟩
def MM_BUSY_A : Field := ⟨.MM_BUSY, 31, 16⟩
def MM_BUSY_B : Field := ⟨.MM_BUSY, 15, 0⟩
def MM_ECC_SEL_CLASS : Field := ⟨.MM_ECC_SEL, 2, 0⟩
def MM_ECC_CNT_CORR : Field := ⟨.MM_ECC_CNT, 31, 16⟩
def MM_ECC_CNT_UNCORR : Field := ⟨.MM_ECC_CNT, 15, 0⟩
def MM_ECC_ADDR_LO_ADDR_LO : Field := ⟨.MM_ECC_ADDR_LO, 31, 0⟩
def MM_ECC_ADDR_HI_CLASS : Field := ⟨.MM_ECC_ADDR_HI, 31, 29⟩
def MM_ECC_ADDR_HI_ADDR_HI : Field := ⟨.MM_ECC_ADDR_HI, 9, 0⟩
def MM_NB_SEL_RANGE : Field := ⟨.MM_NB_SEL, 3, 0⟩
def MM_NB_BASE_BASE : Field := ⟨.MM_NB_BASE, 31, 12⟩
def MM_NB_SIZE_PAGES : Field := ⟨.MM_NB_SIZE, 12, 0⟩
def MM_BT_CFG_SCRUB_EN : Field := ⟨.MM_BT_CFG, 31, 31⟩
def MM_BT_CFG_MARCH_EN : Field := ⟨.MM_BT_CFG, 30, 30⟩
def MM_BT_CFG_MARCH_P : Field := ⟨.MM_BT_CFG, 23, 16⟩
def MM_BT_CFG_ANC_P : Field := ⟨.MM_BT_CFG, 15, 11⟩
def MM_BT_CFG_SCRUB_P : Field := ⟨.MM_BT_CFG, 10, 0⟩
def MM_BT_STAT_BORROWED : Field := ⟨.MM_BT_STAT, 31, 31⟩
def MM_BT_STAT_YIELDS : Field := ⟨.MM_BT_STAT, 23, 16⟩
def MM_BT_STAT_SKIPS : Field := ⟨.MM_BT_STAT, 15, 8⟩
def MM_BT_STAT_PASSES : Field := ⟨.MM_BT_STAT, 7, 0⟩
def MM_BT_FAIL_VALID : Field := ⟨.MM_BT_FAIL, 31, 31⟩
def MM_BT_FAIL_MACRO : Field := ⟨.MM_BT_FAIL, 27, 16⟩
def MM_BT_FAIL_COL : Field := ⟨.MM_BT_FAIL, 9, 0⟩
def MM_MACRO_SEL_ID : Field := ⟨.MM_MACRO_SEL, 11, 0⟩
def MM_MACRO_INFO : Field := ⟨.MM_MACRO, 31, 0⟩
def MM_REP_CTRL_PROGRAM : Field := ⟨.MM_REP_CTRL, 31, 31⟩
def MM_REP_CTRL_MACRO : Field := ⟨.MM_REP_CTRL, 27, 16⟩
def MM_REP_CTRL_COL : Field := ⟨.MM_REP_CTRL, 9, 0⟩
def MM_REP_STAT_BUSY : Field := ⟨.MM_REP_STAT, 31, 31⟩
def MM_REP_STAT_VFUSE_OK : Field := ⟨.MM_REP_STAT, 30, 30⟩
def MM_REP_STAT_RESULT : Field := ⟨.MM_REP_STAT, 3, 0⟩
def MM_STICKY_DDR_FAIL : Field := ⟨.MM_STICKY, 9, 9⟩
def MM_STICKY_HBM_FAIL : Field := ⟨.MM_STICKY, 8, 8⟩
def MM_STICKY_REPAIR_DONE : Field := ⟨.MM_STICKY, 7, 7⟩
def MM_STICKY_BT_SKIP : Field := ⟨.MM_STICKY, 6, 6⟩
def MM_STICKY_BT_FAIL : Field := ⟨.MM_STICKY, 5, 5⟩
def MM_STICKY_PROT_WR : Field := ⟨.MM_STICKY, 4, 4⟩
def MM_STICKY_ANC_UNCORR : Field := ⟨.MM_STICKY, 3, 3⟩
def MM_STICKY_ANC_CORR : Field := ⟨.MM_STICKY, 2, 2⟩
def MM_STICKY_SRAM_UNCORR : Field := ⟨.MM_STICKY, 1, 1⟩
def MM_STICKY_SRAM_CORR : Field := ⟨.MM_STICKY, 0, 0⟩
def MM_MASK_MASK : Field := ⟨.MM_MASK, 9, 0⟩
def SY_ID_DEVID : Field := ⟨.SY_ID, 31, 16⟩
def SY_ID_REV : Field := ⟨.SY_ID, 15, 8⟩
def SY_ID_VARIANT : Field := ⟨.SY_ID, 3, 0⟩
def SY_STATE_STATE : Field := ⟨.SY_STATE, 2, 0⟩
def SY_MODE_MODE : Field := ⟨.SY_MODE, 3, 0⟩
def SY_STRAP_TEST_EN : Field := ⟨.SY_STRAP, 6, 6⟩
def SY_STRAP_DEF_HALT : Field := ⟨.SY_STRAP, 5, 5⟩
def SY_STRAP_MATE_EN : Field := ⟨.SY_STRAP, 4, 4⟩
def SY_STRAP_HROLE : Field := ⟨.SY_STRAP, 3, 2⟩
def SY_STRAP_BOOT_SRC : Field := ⟨.SY_STRAP, 1, 0⟩
def SY_REMAP_BOOTSWAP : Field := ⟨.SY_REMAP, 0, 0⟩
def SY_PC_CTRL_RUN : Field := ⟨.SY_PC_CTRL, 3, 0⟩
def SY_PC_VEC_VEC : Field := ⟨.SY_PC_VEC, 31, 1⟩
def SY_PC_SWI_SWI : Field := ⟨.SY_PC_SWI, 3, 0⟩
def SY_PC_TCMP_LO_TCMP_LO : Field := ⟨.SY_PC_TCMP_LO, 31, 0⟩
def SY_PC_TCMP_HI_TCMP_HI : Field := ⟨.SY_PC_TCMP_HI, 15, 0⟩
def SY_APPLET_STATE : Field := ⟨.SY_APPLET, 31, 0⟩
def SY_APPLET_CTRL_STOP : Field := ⟨.SY_APPLET_CTRL, 15, 8⟩
def SY_APPLET_CTRL_START : Field := ⟨.SY_APPLET_CTRL, 7, 0⟩
def SY_APPLET_FLT_SLOT : Field := ⟨.SY_APPLET_FLT, 31, 29⟩
def SY_APPLET_FLT_MCAUSE : Field := ⟨.SY_APPLET_FLT, 28, 24⟩
def SY_APPLET_FLT_MEPC : Field := ⟨.SY_APPLET_FLT, 23, 0⟩
def SY_THERM_HOT_DIE : Field := ⟨.SY_THERM, 27, 24⟩
def SY_THERM_ALARM : Field := ⟨.SY_THERM, 16, 16⟩
def SY_THERM_TJ : Field := ⟨.SY_THERM, 15, 0⟩
def SY_AVS_CORE_STATUS : Field := ⟨.SY_AVS_CORE, 31, 24⟩
def SY_AVS_CORE_MARGIN : Field := ⟨.SY_AVS_CORE, 23, 16⟩
def SY_AVS_CORE_SETPT : Field := ⟨.SY_AVS_CORE, 15, 0⟩
def SY_AVS_LE_STATUS : Field := ⟨.SY_AVS_LE, 31, 24⟩
def SY_AVS_LE_MARGIN : Field := ⟨.SY_AVS_LE, 23, 16⟩
def SY_AVS_LE_SETPT : Field := ⟨.SY_AVS_LE, 15, 0⟩
def SY_QSPI_CMD_BUSY : Field := ⟨.SY_QSPI_CMD, 31, 31⟩
def SY_QSPI_CMD_GO : Field := ⟨.SY_QSPI_CMD, 30, 30⟩
def SY_QSPI_CMD_WR : Field := ⟨.SY_QSPI_CMD, 29, 29⟩
def SY_QSPI_CMD_QUAD : Field := ⟨.SY_QSPI_CMD, 28, 28⟩
def SY_QSPI_CMD_ADDR_B : Field := ⟨.SY_QSPI_CMD, 27, 26⟩
def SY_QSPI_CMD_LEN : Field := ⟨.SY_QSPI_CMD, 25, 17⟩
def SY_QSPI_CMD_OP : Field := ⟨.SY_QSPI_CMD, 7, 0⟩
def SY_UART_RX_CNT : Field := ⟨.SY_UART, 22, 16⟩
def SY_UART_TX_FREE : Field := ⟨.SY_UART, 15, 9⟩
def SY_UART_VALID : Field := ⟨.SY_UART, 8, 8⟩
def SY_UART_DATA : Field := ⟨.SY_UART, 7, 0⟩
def SY_MBX_IN_FULL : Field := ⟨.SY_MBX, 31, 31⟩
def SY_MBX_IN_LEN : Field := ⟨.SY_MBX, 30, 24⟩
def SY_MBX_OUT_FULL : Field := ⟨.SY_MBX, 23, 23⟩
def SY_MBX_OUT_LEN : Field := ⟨.SY_MBX, 22, 16⟩
def SY_MBX_PTR : Field := ⟨.SY_MBX, 5, 0⟩
def SY_MBX_DATA_DATA : Field := ⟨.SY_MBX_DATA, 7, 0⟩
def SY_STICKY_QSPI_ERR : Field := ⟨.SY_STICKY, 5, 5⟩
def SY_STICKY_THERM_ALARM : Field := ⟨.SY_STICKY, 4, 4⟩
def SY_STICKY_AVS_OVERRIDE : Field := ⟨.SY_STICKY, 3, 3⟩
def SY_STICKY_AVS_FAIL : Field := ⟨.SY_STICKY, 2, 2⟩
def SY_STICKY_D2D_DOWN : Field := ⟨.SY_STICKY, 1, 1⟩
def SY_STICKY_D2D_UNCORR : Field := ⟨.SY_STICKY, 0, 0⟩
def BM_CFG_TIMEOUT : Field := ⟨.BM_CFG, 15, 0⟩
def BM_ERR_MASTER : Field := ⟨.BM_ERR, 31, 28⟩
def BM_ERR_USER : Field := ⟨.BM_ERR, 27, 27⟩
def BM_ERR_WRITE : Field := ⟨.BM_ERR, 26, 26⟩
def BM_ERR_CAUSE : Field := ⟨.BM_ERR, 21, 19⟩
def BM_ERR_COUNT : Field := ⟨.BM_ERR, 18, 0⟩
def BM_MSTAT_OUT : Field := ⟨.BM_MSTAT, 9, 0⟩
def BM_STICKY_APPLET_FAULT : Field := ⟨.BM_STICKY, 4, 4⟩
def BM_STICKY_MBX_IN : Field := ⟨.BM_STICKY, 3, 3⟩
def BM_STICKY_MRESET : Field := ⟨.BM_STICKY, 2, 2⟩
def BM_STICKY_TIMEOUT : Field := ⟨.BM_STICKY, 1, 1⟩
def BM_STICKY_BUS_ERR : Field := ⟨.BM_STICKY, 0, 0⟩
def SY_RST_CAUSE_SRST_CNT : Field := ⟨.SY_RST_CAUSE, 15, 8⟩
def SY_RST_CAUSE_LAST : Field := ⟨.SY_RST_CAUSE, 1, 0⟩
def SY_BOOT_STAT_SRC : Field := ⟨.SY_BOOT_STAT, 31, 29⟩
def SY_BOOT_STAT_SLOT : Field := ⟨.SY_BOOT_STAT, 28, 28⟩
def SY_BOOT_STAT_FALLBACK : Field := ⟨.SY_BOOT_STAT, 27, 27⟩
def SY_BOOT_STAT_SB : Field := ⟨.SY_BOOT_STAT, 26, 26⟩
def SY_BOOT_STAT_KEY : Field := ⟨.SY_BOOT_STAT, 25, 24⟩
def SY_BOOT_STAT_REASON_A : Field := ⟨.SY_BOOT_STAT, 23, 20⟩
def SY_BOOT_STAT_REASON_B : Field := ⟨.SY_BOOT_STAT, 19, 16⟩
def SY_BOOT_STAT_SEQ : Field := ⟨.SY_BOOT_STAT, 7, 0⟩
def SY_IMG_AT_LO_AT : Field := ⟨.SY_IMG_AT_LO, 31, 0⟩
def SY_IMG_AT_HI_AT : Field := ⟨.SY_IMG_AT_HI, 15, 0⟩
def SY_IMG_CMD_PERSIST_C : Field := ⟨.SY_IMG_CMD, 6, 6⟩
def SY_IMG_CMD_SRC : Field := ⟨.SY_IMG_CMD, 5, 4⟩
def SY_IMG_CMD_CMD : Field := ⟨.SY_IMG_CMD, 2, 0⟩
def SY_IMG_SRC_OFS : Field := ⟨.SY_IMG_SRC, 31, 0⟩
def SY_IMG_STAT_STATE : Field := ⟨.SY_IMG_STAT, 31, 28⟩
def SY_IMG_STAT_RESULT : Field := ⟨.SY_IMG_STAT, 27, 24⟩
def SY_IMG_STAT_CLASS_X : Field := ⟨.SY_IMG_STAT, 23, 23⟩
def SY_IMG_ERR_TYPE : Field := ⟨.SY_IMG_ERR, 31, 16⟩
def SY_IMG_ERR_RECORD : Field := ⟨.SY_IMG_ERR, 15, 0⟩
def SY_IMG_RULE_RULE : Field := ⟨.SY_IMG_RULE, 15, 0⟩
def SY_IMG_DIGEST_D : Field := ⟨.SY_IMG_DIGEST, 31, 0⟩
def SY_IMG_DIGEST_A_D : Field := ⟨.SY_IMG_DIGEST_A, 31, 0⟩
def SY_IMG_STICKY_EVT : Field := ⟨.SY_IMG_STICKY, 4, 0⟩
def SY_IMG_MASK_MASK : Field := ⟨.SY_IMG_MASK, 4, 0⟩
def SY_BLKRST_GO : Field := ⟨.SY_BLKRST, 31, 31⟩
def SY_BLKRST_BLOCK : Field := ⟨.SY_BLKRST, 18, 16⟩
def SY_BLKRST_INDEX : Field := ⟨.SY_BLKRST, 10, 0⟩
def SEC_SB_STAT_SB_EN : Field := ⟨.SEC_SB_STAT, 31, 31⟩
def SEC_SB_STAT_PKH0 : Field := ⟨.SEC_SB_STAT, 30, 30⟩
def SEC_SB_STAT_PKH1 : Field := ⟨.SEC_SB_STAT, 29, 29⟩
def SEC_SB_STAT_REVOKE0 : Field := ⟨.SEC_SB_STAT, 28, 28⟩
def SEC_SB_STAT_REVOKE1 : Field := ⟨.SEC_SB_STAT, 27, 27⟩
def SEC_SB_STAT_DBG_LOCK : Field := ⟨.SEC_SB_STAT, 26, 26⟩
def SEC_SB_STAT_DBG_SEAL : Field := ⟨.SEC_SB_STAT, 25, 25⟩
def SEC_SB_STAT_TORN : Field := ⟨.SEC_SB_STAT, 24, 24⟩
def SEC_SB_STAT_SVN_MIN : Field := ⟨.SEC_SB_STAT, 5, 0⟩
def SEC_DBG_CTRL_UNLOCKED : Field := ⟨.SEC_DBG_CTRL, 1, 1⟩
def SEC_DBG_CTRL_UNLOCK : Field := ⟨.SEC_DBG_CTRL, 0, 0⟩
def SEC_FUSE_DATA_DATA : Field := ⟨.SEC_FUSE_DATA, 31, 0⟩
def SEC_FUSE_CMD_GO : Field := ⟨.SEC_FUSE_CMD, 4, 4⟩
def SEC_FUSE_CMD_TARGET : Field := ⟨.SEC_FUSE_CMD, 3, 0⟩
def SEC_FUSE_STAT_BUSY : Field := ⟨.SEC_FUSE_STAT, 31, 31⟩
def SEC_FUSE_STAT_RESULT : Field := ⟨.SEC_FUSE_STAT, 3, 0⟩
def EV_STAT_SRC : Field := ⟨.EV_STAT, 31, 0⟩
def EV_STICKY_SRC : Field := ⟨.EV_STICKY, 31, 0⟩
def EV_PEND_SRC : Field := ⟨.EV_PEND, 31, 0⟩
def EV_GPEND_GRP : Field := ⟨.EV_GPEND, 15, 0⟩
def EV_LOG_CFG_ARCH_EN : Field := ⟨.EV_LOG_CFG, 2, 2⟩
def EV_LOG_CFG_WRAP : Field := ⟨.EV_LOG_CFG, 1, 1⟩
def EV_LOG_CFG_EN : Field := ⟨.EV_LOG_CFG, 0, 0⟩
def EV_LOG_WR_IDX : Field := ⟨.EV_LOG_WR, 12, 0⟩
def EV_LOG_RD_IDX : Field := ⟨.EV_LOG_RD, 12, 0⟩
def EV_ARCH_WR_IDX : Field := ⟨.EV_ARCH_WR, 31, 0⟩
def EV_LOG_STAT_LOG_OVR : Field := ⟨.EV_LOG_STAT, 31, 31⟩
def EV_LOG_STAT_OVERWRITTEN : Field := ⟨.EV_LOG_STAT, 29, 16⟩
def EV_LOG_STAT_DROP : Field := ⟨.EV_LOG_STAT, 15, 0⟩
def EV_SRC_CFG_MASK : Field := ⟨.EV_SRC_CFG, 31, 31⟩
def EV_SRC_CFG_ALARM : Field := ⟨.EV_SRC_CFG, 30, 30⟩
def EV_SRC_CFG_LOG_DIS : Field := ⟨.EV_SRC_CFG, 29, 29⟩
def EV_SRC_CFG_DEST : Field := ⟨.EV_SRC_CFG, 9, 8⟩
def EV_SRC_CFG_IDX : Field := ⟨.EV_SRC_CFG, 5, 0⟩
def EV_SRC_CNT_CNT : Field := ⟨.EV_SRC_CNT, 31, 0⟩
def EV_COAL_CNT_CNT : Field := ⟨.EV_COAL_CNT, 31, 0⟩
def PC_OVF_LO_OVF : Field := ⟨.PC_OVF_LO, 31, 0⟩
def PC_OVF_HI_OVF : Field := ⟨.PC_OVF_HI, 31, 0⟩
def PC_STICKY_EVT : Field := ⟨.PC_STICKY, 4, 0⟩
def PC_MASK_MASK : Field := ⟨.PC_MASK, 4, 0⟩
def PC_DUMP_CTRL_STOP : Field := ⟨.PC_DUMP_CTRL, 0, 0⟩
def PM_CFG_EN : Field := ⟨.PM_CFG, 31, 31⟩
def PM_CFG_OFS : Field := ⟨.PM_CFG, 16, 0⟩
def PM_STAT_DEFINED : Field := ⟨.PM_STAT, 31, 16⟩
def PM_STAT_KEPT : Field := ⟨.PM_STAT, 15, 0⟩
def PC_EVSEL_OVF_IE : Field := ⟨.PC_EVSEL, 31, 31⟩
def PC_EVSEL_INDEX : Field := ⟨.PC_EVSEL, 15, 8⟩
def PC_EVSEL_EVENT : Field := ⟨.PC_EVSEL, 7, 0⟩
def PC_CNT_LO_CNT_LO : Field := ⟨.PC_CNT_LO, 31, 0⟩
def PC_CNT_HI_CNT_HI : Field := ⟨.PC_CNT_HI, 15, 0⟩
def TS_BIST_CTRL_ABORT : Field := ⟨.TS_BIST_CTRL, 1, 1⟩
def TS_BIST_CTRL_GO : Field := ⟨.TS_BIST_CTRL, 0, 0⟩
def TS_BIST_STAT_BUSY : Field := ⟨.TS_BIST_STAT, 31, 31⟩
def TS_BIST_STAT_DONE : Field := ⟨.TS_BIST_STAT, 30, 30⟩
def TS_BIST_STAT_FAIL : Field := ⟨.TS_BIST_STAT, 29, 29⟩
def TS_BIST_STAT_MACRO : Field := ⟨.TS_BIST_STAT, 27, 16⟩
def TS_BIST_STAT_COL : Field := ⟨.TS_BIST_STAT, 9, 0⟩
def TS_STICKY_BIST_DONE : Field := ⟨.TS_STICKY, 0, 0⟩
def TS_MASK_MASK : Field := ⟨.TS_MASK, 0, 0⟩
def SY_QSPI_ADDR_ADDR : Field := ⟨.SY_QSPI_ADDR, 31, 0⟩
def SY_QSPI_BUF_DATA : Field := ⟨.SY_QSPI_BUF, 31, 0⟩
def SY_MASK_MASK : Field := ⟨.SY_MASK, 5, 0⟩
def BM_ERR_ADDR_ADDR : Field := ⟨.BM_ERR_ADDR, 31, 0⟩
def BM_MASK_MASK : Field := ⟨.BM_MASK, 4, 0⟩
def EV_LOG_MASK_MASK : Field := ⟨.EV_LOG_MASK, 0, 0⟩
def PC_ACCESS_USER_RD : Field := ⟨.PC_ACCESS, 0, 0⟩
def PC_SETID_SETID : Field := ⟨.PC_SETID, 31, 0⟩
def PC_DUMP_CFG_EN : Field := ⟨.PC_DUMP_CFG, 31, 31⟩
def PC_DUMP_CFG_DEST : Field := ⟨.PC_DUMP_CFG, 30, 30⟩
def PC_DUMP_CFG_K : Field := ⟨.PC_DUMP_CFG, 20, 16⟩
def PC_DUMP_CFG_L : Field := ⟨.PC_DUMP_CFG, 10, 0⟩
def PC_DUMP_LIST_ADDR : Field := ⟨.PC_DUMP_LIST, 31, 0⟩
def PC_DUMP_BASE_LO_BASE : Field := ⟨.PC_DUMP_BASE_LO, 31, 0⟩
def PC_DUMP_BASE_HI_BASE : Field := ⟨.PC_DUMP_BASE_HI, 31, 0⟩
def PC_DUMP_SIZE_SIZE : Field := ⟨.PC_DUMP_SIZE, 23, 0⟩
def PC_DUMP_WR_IDX : Field := ⟨.PC_DUMP_WR, 31, 0⟩
def PC_DUMP_RD_IDX : Field := ⟨.PC_DUMP_RD, 31, 0⟩
def PC_DUMP_STAT_SEQ : Field := ⟨.PC_DUMP_STAT, 31, 16⟩
def PC_DUMP_STAT_SKIPPED : Field := ⟨.PC_DUMP_STAT, 15, 0⟩
def MSIX_ADDR_LO_ADDR : Field := ⟨.MSIX_ADDR_LO, 31, 2⟩
def MSIX_ADDR_HI_ADDR : Field := ⟨.MSIX_ADDR_HI, 31, 0⟩
def MSIX_DATA_DATA : Field := ⟨.MSIX_DATA, 31, 0⟩
def MSIX_CTRL_MASK : Field := ⟨.MSIX_CTRL, 0, 0⟩

end F

end Sys2Proof.Machine
end

