-- ==== Sys2Proof/Machine/Table.lean ====
section
/-! DEFINITION. Sparse tables: what a numbered resource holds, as a list of key and value pairs in one canonical form
(keys strictly rising, no entry equal to the default).  A resource with no entry holds the default. -/

namespace Sys2Proof.Machine

/-- A key: two numbers, such as a register and its copy.  A table over one number uses 0 as the second. -/
abbrev Key := Nat × Nat

/-- Keys in rising order. -/
def Key.before (a b : Key) : Bool := Nat.blt a.1 b.1 || (Nat.beq a.1 b.1 && Nat.blt a.2 b.2)

/-- The same key. -/
def Key.same (a b : Key) : Bool := Nat.beq a.1 b.1 && Nat.beq a.2 b.2

/-- A sparse table. -/
abbrev Table (α : Type) := List (Key × α)

namespace Tab

variable {α : Type}

/-- The entry of a key, if listed. -/
def find : Table α → Key → Option α
  | [], _ => none
  | (k', v) :: t, k => if Key.same k' k then some v else find t k

/-- The table without a key. -/
def drop : Table α → Key → Table α
  | [], _ => []
  | (k', v) :: t, k => if Key.same k' k then drop t k else (k', v) :: drop t k

/-- The table with one more entry, in its place. -/
def place : Table α → Key → α → Table α
  | [], k, v => [(k, v)]
  | (k', v') :: t, k, v => if Key.before k k' then (k, v) :: (k', v') :: t else (k', v') :: place t k v

/-- What a key holds: its entry, or the default `d`. -/
def get (d : α) (t : Table α) (k : Key) : α := (find t k).getD d

/-- The table after `k` takes the value `v`; a default value leaves no entry. -/
def put [DecidableEq α] (d : α) (t : Table α) (k : Key) (v : α) : Table α :=
  if v = d then drop t k else place (drop t k) k v

/-- Every listed key satisfies `p` (used with `Key.before` to say the keys rise). -/
def keysFrom (k : Key) : Table α → Bool
  | [] => true
  | (k', _) :: t => Key.before k k' && keysFrom k' t

/-- Strictly rising keys. -/
def rising : Table α → Bool
  | [] => true
  | (k, _) :: t => keysFrom k t

/-- No listed value equals the default of its key. -/
def lean [DecidableEq α] (d : Key → α) : Table α → Bool
  | [] => true
  | (k, v) :: t => !decide (v = d k) && lean d t

/-- The canonical form: strictly rising keys and no default value listed. -/
def wf [DecidableEq α] (d : Key → α) (t : Table α) : Bool := rising t && lean d t

/-- The values listed, with their keys, changed one by one by `f` (keys stay, results equal to the default go). -/
def mapValues [DecidableEq α] (d : α) (f : Key → α → α) : Table α → Table α
  | [] => []
  | (k, v) :: t => if f k v = d then mapValues d f t else (k, f k v) :: mapValues d f t

end Tab

end Sys2Proof.Machine
end

