-- ==== Sys2Proof/Machine/Kinds.lean ====
section
/-! DEFINITION. The names the commands' operands and the state are written in: bus masters, berths and crates, states of
the device's own sequencers.  Chapter by chapter, in the order of the specification. -/

namespace Sys2Proof.Machine

/-! ### Bus (16_control_plane.md) -/

/-- Who issues a bus transaction: one of masters 0 to 9, and for a Pilot core (masters 2 to 5) whether it runs in user mode
(R515, R520). -/
structure Initiator where
  num : Fin 10
  user : Bool
  deriving DecidableEq, Repr

/-- Cause codes of BM_ERR (R513 and the BM_ERR table). -/
inductive BusCause where
  | default | size | span | timeout | priv | target | busy
  deriving DecidableEq, Repr

/-- The code of a cause in BM_ERR.CAUSE. -/
def BusCause.code : BusCause → Nat
  | .default => 0 | .size => 1 | .span => 2 | .timeout => 3 | .priv => 4 | .target => 5 | .busy => 6

/-- How one beat of a burst ends (R513, R486). -/
inductive BeatEnd where
  /-- performed, with the data of a read -/
  | ok (data : BitVec 128)
  /-- the error response -/
  | error (cause : BusCause)
  /-- BUSY: not performed -/
  | busy
  deriving DecidableEq, Repr

/-- What the bus answers a master's access with (R513, R486). -/
inductive Answer where
  /-- no access answered yet -/
  | none
  /-- performed, with the data of a read -/
  | ok (data : Word)
  /-- the error response -/
  | error (cause : BusCause)
  /-- BUSY: not performed, repeat it (R486, R487) -/
  | busy
  /-- a burst to a memory, beat by beat -/
  | beats (ends : List BeatEnd)
  deriving DecidableEq, Repr

/-! ### Device (00_scope.md, 17_structure_image_boot_reset.md) -/

/-- Device states of R6, in the order of the SY_STATE codes. -/
inductive DevState where
  | boot | startUp | normal | test | recovery
  deriving DecidableEq, Repr

/-- SY_STATE.STATE code of a device state (R6). -/
def DevState.code : DevState → Nat
  | .boot => 0 | .startUp => 1 | .normal => 2 | .test => 3 | .recovery => 4

/-- The device state of a SY_STATE.STATE code. -/
def DevState.ofCode : Nat → DevState
  | 0 => .boot | 1 => .startUp | 2 => .normal | 3 => .test | _ => .recovery

/-- Straps sampled at the release of PORSTn (R558). -/
structure Straps where
  bootSrc : Fin 4
  hrole : Fin 4
  mateEn : Bool
  defHalt : Bool
  testEn : Bool
  deriving DecidableEq, Repr

/-- How much a committed change disturbs traffic (R32). -/
inductive ChangeClass where
  | hitless | tick | restart
  deriving DecidableEq, Repr

/-! ### Die-to-die links (01_architecture_and_tick.md) -/

/-- How a die-to-die transfer of a tick ended (R13, R14). -/
inductive TransferEnd where
  /-- arrived correctly at once -/
  | correct
  /-- arrived correctly within its tick after `repeats` repeats -/
  | repeated (repeats : Nat)
  /-- could not be delivered within its tick: the berth ports it carried, and the codewords lent to the pool -/
  | lost (ports : List (Fin 23040)) (codewords : List Nat)
  deriving DecidableEq, Repr

/-- One die-to-die link (R13 to R15). -/
structure Link where
  /-- transfers corrected by repeats (R13) -/
  corrected : Nat := 0
  /-- transfers not delivered (R14) -/
  uncorrected : Nat := 0
  /-- what the current tick has shown: nothing yet, a correct transfer, only lost ones -/
  seen : Option Bool := none
  /-- consecutive ticks without a correct transfer -/
  badTicks : Nat := 0
  /-- consecutive ticks of correct transfers -/
  goodTicks : Nat := 0
  /-- D2D_DOWN declared and not yet restored (R15) -/
  down : Bool := false
  /-- elapsed-boundary count of the last retraining -/
  retrainedAt : Nat := 0
  /-- retrainings made -/
  retrains : Nat := 0
  deriving DecidableEq, Repr

/-- A rail of the adaptive voltage scaling loops (R38). -/
inductive Rail where
  | core | le
  deriving DecidableEq, Repr

/-- What the path monitors and the PMBus show at an AVS update (R38, R41, R535). -/
structure AvsReading where
  /-- every path monitor of the rail answers -/
  monitorOk : Bool
  /-- smallest path-monitor margin in the update period, ps -/
  margin : Nat
  /-- the margin is below its limit -/
  belowLimit : Bool
  /-- the margin allows one step down -/
  slack : Bool
  /-- READ_VOUT after the command in mV; none for a NAK or a PEC error -/
  readback : Option Nat
  deriving DecidableEq, Repr

/-- One AVS loop. -/
structure AvsLoop where
  /-- setpoint in mV -/
  setpoint : Nat
  /-- elapsed-boundary count of the last update -/
  updatedAt : Nat
  /-- consecutive PMBus failures (R535) -/
  failures : Nat
  deriving DecidableEq, Repr

/-! ### Berths, crates and trains (02_berths_crates_trains.md) -/

/-- The content of a berth in one tick: its pointer word's new-data flag and effective crate start, its label, and the
crate that starts in it (R46, R49, R53).  The default is the idle content of R52. -/
structure Berth where
  /-- NDF 0b1001 -/
  ndf : Bool := false
  /-- effective crate start, P[9:0] -/
  ptr : Nat := 0
  /-- BSL: 0 unequipped, 1 train crate, 2 test crate -/
  bsl : Nat := 0
  /-- the crate's AIS bit -/
  ais : Bool := false
  /-- the crate's RDI bit -/
  rdi : Bool := false
  /-- SEQ[19:0] of the crate -/
  seq : Nat := 0
  /-- CI, TID and K carried by ROT -/
  ci : Nat := 0
  tid : Nat := 0
  k : Nat := 0
  /-- CSF bit of ROT phase 13 -/
  csf : Bool := false
  /-- fill count FC -/
  fc : Nat := 0
  /-- FCRC passes -/
  fcrcOk : Bool := true
  /-- the client nibbles of the payload, in order -/
  payload : List Nat := []
  deriving DecidableEq, Repr

/-- States of the pointer interpreter (R63). -/
inductive PtrState where
  | norm | ais | lop
  deriving DecidableEq, Repr

/-- BP_PSTAT.STATE code of an interpreter state. -/
def PtrState.code : PtrState → Nat
  | .norm => 0 | .ais => 1 | .lop => 2

/-- Events a received pointer word is classified as (R62). -/
inductive PtrEvent where
  | aisInd
  | ndfEnable (p : Nat)
  | incInd
  | decInd
  | normPoint
  | newPoint (p : Nat)
  | invPoint
  deriving DecidableEq, Repr

/-- Pointer adjustment of a generator (R58). -/
inductive Adjust where
  | none | increment | decrement
  deriving DecidableEq, Repr

/-- The interpreter, store and generator of one berth port that an elastic store serves (R62 to R71). -/
structure Store where
  /-- the port is in use by the committed image -/
  inUse : Bool := false
  st : PtrState := .lop
  /-- active input pointer A -/
  active : Nat := 0
  /-- consecutive norm_point events, counted up to 3 -/
  normRun : Nat := 0
  /-- value and length of the run of equal new_point events -/
  newVal : Nat := 0
  newRun : Nat := 0
  aisRun : Nat := 0
  invRun : Nat := 0
  ndfRun : Nat := 0
  /-- output pointer of the generator -/
  out : Nat := 0
  /-- fill deviation D -/
  dev : Int := 0
  /-- ticks since the generator last adjusted or sent NDF, counted up to 3 (R60) -/
  sinceAdj : Nat := 3
  /-- the adjustment chosen for the current tick -/
  adj : Adjust := .none
  /-- the generator starts its next crate under NDF 0b1001 -/
  ndfDue : Bool := false
  /-- the output pointer that goes out with that NDF (R66, R67) -/
  ndfPtr : Nat := 0
  /-- the crate of this tick is an AIS crate (R66) -/
  aisCrate : Bool := false
  /-- a berth has reached the store in the present tick (R62) -/
  reached : Bool := false
  /-- BSL 0x0 received: crate and train checks suppressed (R52) -/
  unequipped : Bool := false
  /-- mate pair: decisions for the next two ticks, nearest first: 0 none, 1 increment, 2 decrement, 3 slip (R433) -/
  plan : List Nat := []
  deriving DecidableEq, Repr

/-- What a train monitor's sequence check has seen (R82, SEQ_LOSS). -/
inductive SeqSight where
  /-- consecutive ticks with SEQL unequal to the expected SEQ[3:0] -/
  | seqlWrong (ticks : Nat)
  /-- consecutive ROT blocks failing CRC-8 -/
  | crcFailed (blocks : Nat)
  /-- consecutive CRC-valid blocks with SEQ[19:4] unequal to the expected -/
  | seqWrong (blocks : Nat)
  /-- one CRC-valid ROT block whose 16 ticks carry SEQL incrementing by 1, and the SEQ it carries -/
  | goodBlock (seq : Nat)
  deriving DecidableEq, Repr

/-- Monitor and mapper of one train (R72 to R83). -/
structure Train where
  /-- expected SEQ, loaded from the last good block (R82) -/
  expSeq : Nat := 0
  /-- elapsed-boundary count until which RDI is held in the return train (R83) -/
  rdiUntil : Nat := 0
  /-- the monitor's replacement verdict of the last two ticks, newest first (R81) -/
  verdict1 : Bool := false
  verdict2 : Bool := false
  /-- the monitor's CSF defect of the last two ticks, newest first (R81) -/
  csf1 : Bool := false
  csf2 : Bool := false
  /-- an ODU of an interop engine with an MSI mismatch, ODU-AIS, OCI or LCK (R227) -/
  oduBad : Bool := false
  /-- sigma-delta accumulator of R74, in units of 2⁻³² nibble -/
  acc : Int := 0
  /-- Cn of the last tick -/
  cn : Nat := 0
  /-- Cn has run for one tick: the clamp of R74 applies -/
  running : Bool := false
  /-- fill counts inferred for each crate last tick, by CI (R77) -/
  fcLast : List Nat := []
  /-- mate pair: Cn computed for the next two ticks, nearest first (R433) -/
  ahead : List Nat := []
  /-- payload replaced since FILL_LIMIT, and the boundary count from which it holds (R76) -/
  replacing : Option Nat := none
  deriving DecidableEq, Repr

/-! ### Manifest and fabric (03_manifest_and_fabric.md) -/

/-- ACT of a manifest entry (R94). -/
inductive ManAct where
  | connect | idle | ais | reserved
  deriving DecidableEq, Repr

/-- GRID_SWAP_STAT.STATE codes. -/
inductive SwapState where
  | idle | check | place | ready | copy
  deriving DecidableEq, Repr

/-- GRID_SWAP_STAT.STATE code of a swap state. -/
def SwapState.code : SwapState → Nat
  | .idle => 0 | .check => 1 | .place => 2 | .ready => 3 | .copy => 4

/-- The swap state of a GRID_SWAP_STAT.STATE code. -/
def SwapState.ofCode : Nat → SwapState
  | 1 => .check | 2 => .place | 3 => .ready | 4 => .copy | _ => .idle

/-- Who holds the swap registers against other masters' commands (R118, R478). -/
inductive SwapHolder where
  | nobody | image | domain
  deriving DecidableEq, Repr

/-- One connection of a stowage plan: the egress berth port, the ingress berth port it carries, and its middle slot (R90). -/
structure Conn where
  egress : Nat
  ingress : Nat
  slot : Nat
  deriving DecidableEq, Repr

/-- What the stowage engine delivers when a computation ends (R100, R113, R115, R116). -/
structure StowResult where
  /-- entries it could not place (R115) -/
  unplaced : List Nat
  /-- the incremental attempt found no placement within its budget and a full recompute ran (R100) -/
  fellBack : Bool
  /-- the plan moves an existing connection to another slot (R116) -/
  moves : Bool
  /-- connection writes made -/
  writes : Nat
  /-- the plan computed -/
  plan : List Conn
  deriving DecidableEq, Repr

/-- The grid's swap machinery beside its registers. -/
structure Swap where
  /-- the shadow bank is locked (R99) -/
  locked : Bool := false
  holder : SwapHolder := .nobody
  /-- the boundary an armed swap is due at -/
  due : Tick := 0
  /-- elapsed-boundary count at which the computation starts -/
  startedAt : Nat := 0
  /-- the pending copy is complete, with the plan it holds -/
  pending : Option StowResult := none
  /-- a repack is in progress: not complete, or complete with its plan -/
  repacking : Bool := false
  repackDone : Option StowResult := none
  /-- elapsed-boundary count of the last switch (R102) -/
  switchedAt : Option Nat := none
  /-- COPYBACK was 1 at the switch (R113) -/
  copyBack : Bool := false
  /-- physical bank that the berths now entering are placed under, and the one of those that entered a tick ago -/
  routeBank : Nat := 0
  stagedBank : Nat := 0
  /-- live entries treated as ACT = AIS, with their TRAIN (R109) -/
  eccEntries : List (Nat × Nat) := []
  /-- shadow entries with an uncorrectable error (R109) -/
  shadowBad : List Nat := []
  /-- egress ports steered by a control entry that failed this tick (R108) -/
  ctlBad : List Nat := []
  /-- live stowage plan -/
  plan : List Conn := []
  /-- boundary count at which an accepted PREPARE or ARM locks and checks the shadow bank after a repack switch (R106) -/
  checkAt : Option Nat := none
  /-- a switch has been made and its staging is not over (R113) -/
  staging : Bool := false
  /-- N[47:32] of the last completed swap -/
  doneHi : Nat := 0
  deriving DecidableEq, Repr

/-! ### Events and counters (18_events_and_counters.md) -/

/-- A bank of counters behind a select register: 48 bits each, wrapping. -/
inductive CtrBank where
  | trBip | lnErr | lnBits | quay | lf | fp | td | mg | mt | hr | pc | coalesced
  deriving DecidableEq, Repr

/-- One counter: its bank, its number within the bank, and the unit it counts for. -/
structure Ctr where
  bank : CtrBank
  num : Nat
  unit : Nat
  deriving DecidableEq, Repr

/-- The place of a counter bank among the banks. -/
def CtrBank.code : CtrBank → Nat
  | .trBip => 0 | .lnErr => 1 | .lnBits => 2 | .quay => 3 | .lf => 4 | .fp => 5 | .td => 6 | .mg => 7 | .mt => 8
  | .hr => 9 | .pc => 10 | .coalesced => 11

/-- The key of a counter in the table of counters. -/
def Ctr.key (c : Ctr) : Key := (c.bank.code * 256 + c.num % 256, c.unit)

/-- A report from a leaf event to its top-level source (R575, R579). -/
structure Report where
  source : Nat
  leaf : Nat
  chan : Nat
  tick : Tick
  detail : Nat
  deriving DecidableEq, Repr

/-- A record of the event ring (R579). -/
structure LogRecord where
  source : Nat
  leaf : Nat
  coalesced : Bool
  chan : Nat
  tick : Tick
  seq : Nat
  detail : Nat
  deriving DecidableEq, Repr

/-- The coalescing slot of a source (R582). -/
structure CoalSlot where
  leaf : Nat := 0
  chan : Nat := 0
  first : Tick := 0
  count : Nat := 0
  last : Tick := 0
  deriving DecidableEq, Repr

/-! ### The structure image (17_structure_image_boot_reset.md, R540 to R549) -/

/-- A record of the TRAINS section (R544). -/
structure TrainRec where
  id : Nat
  k : Nat
  first : Nat
  expTid : Nat
  ctrl : Word
  deriving DecidableEq, Repr

/-- A record of the ENGINES section: LF_CFG, K, LE_CTRL, LE_RAMP, LE_DRV, LE_RMP, LE_LOS, LF_CA (R544). -/
structure EngineRec where
  lfCfg : Word
  k : Nat
  ctrl : Word
  ramp : Word
  drv : Word
  rmp : Word
  los : Word
  ca : Word
  deriving DecidableEq, Repr

/-- A record of the QUAYS section (R544). -/
structure QuayRec where
  cfg : Word
  ca : Word
  map : Word
  tsCtrl : Word
  tsAdj : Word
  deriving DecidableEq, Repr

/-- A record of the MERGE section (R544). -/
structure MergeRec where
  group : Nat
  cfg : Word
  inst : Word
  range : Word
  ctrl : Word
  /-- ANCHORAGE record index of the group's region, 0xFFFF for none -/
  region : Nat
  deriving DecidableEq, Repr

/-- A wrapped key and what its unwrapping shows: the integrity value matches (R291). -/
structure KeyBlob where
  words : List Word
  intact : Bool
  deriving DecidableEq, Repr

/-- A record of the KEYS section (R544). -/
structure KeyRec where
  engine : Nat
  dir : Nat
  ctx : Nat
  phase : Nat
  blob : KeyBlob
  deriving DecidableEq, Repr

/-- A record of the CONTEXTS section (R544). -/
structure ContextRec where
  engine : Nat
  dir : Nat
  ctx : Nat
  cfg : Word
  deriving DecidableEq, Repr

/-- A leaf record of the TIDE section (R544). -/
structure LeafRec where
  id : Nat
  cfg : Word
  deriving DecidableEq, Repr

/-- A record of the TIDE section (R544). -/
structure TideRec where
  engine : Nat
  cfg : Word
  fmt : Word
  sctype : Word
  ds : Word
  thr : Word
  bank0 : Word
  bank1 : Word
  leaves : List LeafRec
  deriving DecidableEq, Repr

/-- A record of the ANCHORAGE section (R502, R544). -/
structure RegionRec where
  kind : Nat
  deep : Bool
  owner : Nat
  base : Nat
  size : Nat
  deriving DecidableEq, Repr

/-- The HIERARCHY section (R544). -/
structure HierRec where
  domain : Word
  id : Nat
  xlead : Nat
  ports : Nat
  /-- initial RETIRE of ports 0 to 3 -/
  retire : List Nat
  deriving DecidableEq, Repr

/-- A record of the SURVEY section (R544). -/
structure SurveyRec where
  engine : Nat
  role : Nat
  d : Nat
  nstep : Nat
  steps : List (Nat × Nat)
  deriving DecidableEq, Repr

/-- A record of the APPLETS section (R525, R544). -/
structure AppletRec where
  slot : Nat
  core : Nat
  autoStart : Bool
  codeBase : Nat
  codeLen : Nat
  dataBase : Nat
  dataLen : Nat
  windows : List (Nat × Nat)
  deriving DecidableEq, Repr

/-- A record of the TRAINMAP section (R546). -/
structure TrainMapRec where
  train : Nat
  kind : Nat
  unit : Nat
  slot : Nat
  oduType : Nat
  parent : Nat
  flexRate : Nat
  tpn : Nat
  egress : Nat
  slots : List Nat
  deriving DecidableEq, Repr

/-- A structure image in its records (R541, R544).  `headerOk` says that MAGIC, FVER, LENGTH and HCRC pass, `sectionsOk` that every
SCRC and the rules of R543 do, `signer` is the SHA-384 of the public key of its SIGNATURE where the ECDSA check of R547 passes with
that key. -/
structure Image where
  headerOk : Bool := true
  sectionsOk : Bool := true
  signer : Option Nat := none
  target : Nat := 1
  svn : Nat := 0
  /-- LENGTH of the header, in bytes -/
  length : Nat := 128
  /-- the digest D (R547) -/
  digest : Nat := 0
  mode : Nat := 0
  i2cAddr : Nat := 0
  pmbusCore : Nat := 0
  pmbusLe : Nat := 0
  pins : Word := 0
  /-- LANES records of the lanes in use or set: lane, LN_CFG, LN_CTRL; the others are all 0 -/
  lanes : List (Nat × Word × Word) := []
  quays : List (Nat × QuayRec) := []
  engines : List (Nat × EngineRec) := []
  trains : List TrainRec := []
  /-- the MANIFEST entries other than 0x8800_0000 -/
  manifest : List (Nat × Word) := []
  merge : List MergeRec := []
  contexts : List ContextRec := []
  keys : List KeyRec := []
  tide : List TideRec := []
  anchorage : List RegionRec := []
  hierarchy : Option HierRec := none
  mate : Option (Word × Word) := none
  survey : List SurveyRec := []
  applets : List AppletRec := []
  regInit : List (Nat × Word) := []
  trainMap : List TrainMapRec := []
  /-- TRACE records: lead quay or 0x80 + engine, client slot, TIM mode -/
  trace : List (Nat × Nat × Nat) := []
  /-- TESTRATE records: lane, PAM4, kb/s -/
  testRate : List (Nat × Bool × Nat) := []
  deriving DecidableEq, Repr

/-! ### Client lanes (04_client_lanes.md) -/

/-- Lane states of R126. -/
inductive LaneState where
  | off | los | acquire | train | data | preset
  deriving DecidableEq, Repr

/-- LN_STAT.STATE code of a lane state. -/
def LaneState.code : LaneState → Nat
  | .off => 0 | .los => 1 | .acquire => 2 | .train => 3 | .data => 4 | .preset => 5

/-- The lane state of a LN_STAT.STATE code. -/
def LaneState.ofCode : Nat → LaneState
  | 1 => .los | 2 => .acquire | 3 => .train | 4 => .data | 5 => .preset | _ => .off

/-- Receive coefficients of a lane, in the layout of the registers that publish them (R128, R132): LN_RXEQ, LN_RXFFE0 to
LN_RXFFE2 and LN_SLICER. -/
structure RxCoef where
  eq : Word := 0
  ffe0 : Word := 0
  ffe1 : Word := 0
  ffe2 : Word := 0
  slicer : Word := 0
  deriving DecidableEq, Repr

/-- What a lane holds beside its registers. -/
structure Lane where
  /-- started in LOS by a commit and not yet declared in LOS (R122) -/
  fresh : Bool := false
  /-- elapsed-boundary count at which the present state was entered -/
  since : Nat := 0
  /-- elapsed-boundary count at which the training attempt started (R134) -/
  attemptAt : Nat := 0
  /-- ACQUIRE leads back to PRESET (R126) -/
  toPreset : Bool := false
  /-- the attempt in progress is a back-off retry (R135) -/
  retry : Bool := false
  /-- a counted attempt timed out (R135) -/
  timedOut : Bool := false
  /-- elapsed-boundary count from which the wait W runs (R135) -/
  waitFrom : Nat := 0
  /-- loopback in effect: LN_LOOP.MODE code, 0 none (R144) -/
  loop : Nat := 0
  /-- loopback enabled by LN_LOOP.MODE as of the last boundary, in effect or waiting for its signal (R138, R145) -/
  enabled : Nat := 0
  /-- transmitter held at electrical idle after TX_FAULT (R146) -/
  faultHold : Bool := false
  /-- transmit coefficients, LN_TXFFE0 and LN_TXFFE1 -/
  tx0 : Word := 0x80000000
  tx1 : Word := 0
  /-- the last transmit coefficients set by a completed training since PORSTn (R137) -/
  trained : Option (Word × Word) := none
  /-- receive coefficients now, and as held at the last entry to DATA or PRESET (R131) -/
  rx : RxCoef := {}
  held : RxCoef := {}
  /-- bits that injection inverts in the present tick, and injections waiting, in order (R142, R143) -/
  inverting : Nat := 0
  injections : List Nat := []
  deriving DecidableEq, Repr

/-! ### Quays and clients (05_quays_and_clients.md) -/

/-- A timestamp of R171. -/
structure Stamp where
  sec : Nat := 0
  ns : Nat := 0
  /-- 2⁻¹⁶ ns -/
  frac : Nat := 0
  deriving DecidableEq, Repr

/-- A condition of R176, and of R168 for one ODU. -/
inductive ClientCond where
  /-- a lane of the client outside DATA and PRESET -/
  | laneDown
  /-- lane skew above 180 ns -/
  | deskew
  /-- loss of block lock, alignment, frame or hyperframe; for OTU, after this many ticks of OOF -/
  | lof (oofTicks : Nat)
  /-- loss of a FlexO group member -/
  | memberLost
  /-- HI_BER -/
  | hiBer
  /-- MSI or payload type mismatch, ODU-AIS, OCI or LCK of the ODU carried in a train -/
  | odu (t : Fin 4096)
  deriving DecidableEq, Repr

/-- What a client's egress sends (R177 to R179). -/
inductive EgressSignal where
  | data | localFault | remoteFault | idle | oduAis | msAis
  deriving DecidableEq, Repr

/-- Ingress and egress of one client. -/
structure Client where
  /-- in client signal fail (R176) -/
  fail : Bool := false
  /-- LOF, LOM or SM TIM of the ingress (R178) -/
  bdiCause : Bool := false
  /-- ingress FIFO fill: nibbles for BIT and BLOCK, non-idle blocks for IDLE (R153, R158) -/
  fill : Nat := 0
  /-- w_avg of R153, in units of 2⁻³² nibble -/
  wAvg : Int := 0
  /-- the train has started (R153) -/
  started : Bool := false
  /-- deviation of the egress buffer from its centre, in nibbles (R156) -/
  egDev : Int := 0
  /-- what the egress sends -/
  sends : EgressSignal := .data
  /-- trains of ODUs in signal fail (R168) -/
  oduFail : List Nat := []
  /-- accepted trace, four words (QY_TRACE) -/
  trace : List Word := []
  /-- current latency of the egress stage in ns (R164) -/
  latency : Nat := 0
  deriving DecidableEq, Repr

/-- A frame in the insertion buffer: its descriptor and its words (R174). -/
structure InsFrame where
  slot : Nat
  oneStep : Bool
  tsReq : Bool
  len : Nat
  words : List Word
  deriving DecidableEq, Repr

/-- An entry of the egress timestamp FIFO (R175). -/
structure TsEntry where
  slot : Nat
  msgType : Nat
  seqId : Nat
  stamp : Stamp
  deriving DecidableEq, Repr

/-- Packet interface of one quay (R174, R175). -/
structure Packets where
  /-- frames of the extraction buffer, each its descriptor and words not yet read -/
  extracted : List (List Word) := []
  /-- the insertion in progress: its frame so far, and whether it is discarded -/
  writing : Option (InsFrame × Bool) := none
  /-- frames waiting for insertion, oldest first -/
  waiting : List InsFrame := []
  /-- timestamp FIFO, oldest first, 64 entries -/
  stamps : List TsEntry := []
  deriving DecidableEq, Repr

/-! ### Native line frame (06_line_frame.md) -/

/-- A unit that receives native or interop frames: engine e is unit e, and the DEDICATED upstream subcarrier i of an engine in HUB
mode is unit 16 + 16e + i, a native receive side of its own (R310).  Units 8 to 15 do not exist. -/
abbrev RxUnit := Fin 144

/-- Time-transfer content (R204). -/
structure TtContent where
  /-- FNO[23:8] of the multiframe start that `dep` stamps -/
  seq : Nat := 0
  dep : Stamp := {}
  /-- FNO[23:8] of the far end's multiframe start that `arr` stamps -/
  arrSeq : Nat := 0
  arr : Stamp := {}
  /-- chromatic dispersion, ps/nm, 32 bits two's complement -/
  cd : Nat := 0
  /-- transmit optical frequency, MHz -/
  freq : Nat := 0
  cls : Nat := 0
  steps : Nat := 0
  flags : Nat := 0
  deriving DecidableEq, Repr

/-- The overhead fields of a frame, but FAS, ENC, TIDE and GCC (R191). -/
structure Overhead where
  fno : Tick := 0
  fnoCrc : Nat := 0
  bei : Nat := 0
  bdi : Bool := false
  rstep : Nat := 0
  pair : Bool := false
  sub : Bool := false
  hub : Bool := false
  mid : Word := 0
  laps : Word := 0
  taps : List Word := []
  tt : TtContent := {}
  ttCrcOk : Bool := true
  deriving DecidableEq, Repr

/-- A value and how many consecutive times it has come (R199, R203). -/
structure Run where
  value : Nat := 0
  count : Nat := 0
  deriving DecidableEq, Repr

/-- A frame on its way through the insertion side of a GCC: its length and words so far (R209). -/
structure GccWriting where
  len : Nat
  words : List Word
  bad : Bool
  deriving DecidableEq, Repr

/-- One general communication channel of an engine (R208, R209). -/
structure Gcc where
  /-- frames of the receive buffer, each its descriptor and words not yet read -/
  rx : List (List Word) := []
  writing : Option GccWriting := none
  /-- frames waiting to be sent, oldest first, in octets -/
  tx : List (List Byte) := []
  /-- octets of the oldest frame already sent, flags and stuffing included -/
  sent : Nat := 0
  deriving DecidableEq, Repr

/-- Framing of one engine beside its registers (R196 to R224). -/
structure LineFrame where
  /-- frame position in symbols, and whether the receiver has been in frame at it since it was dropped (R212, R214) -/
  pos : Nat := 0
  held : Bool := false
  inFrame : Bool := false
  /-- candidates opened in the last frame, and positions confirmed in this one (R210) -/
  cands : List Nat := []
  confirmed : List Nat := []
  /-- consecutive errored FAS in IF, consecutive matches at the old position in OOF -/
  fasBad : Nat := 0
  oldGood : Nat := 0
  /-- consecutive ticks out of frame and in frame (R213) -/
  oofTicks : Nat := 0
  ifTicks : Nat := 0
  /-- E of R215, and the block boundary last passed by the receive contexts (R296) -/
  expect : Tick := 0
  encBlock : Option Tick := none
  /-- FNO of the last delivered frame if it was valid, and whether it differed from E -/
  last : Option (Tick × Bool) := none
  /-- the last two delivered frames were valid with FNO incrementing by 1, both different from E or not -/
  pairOk : Bool := false
  pairOff : Bool := false
  /-- consecutive delivered frames not in order -/
  badRun : Nat := 0
  bdi : Run := {}
  laps : Run := {}
  fmtBad : Nat := 0
  fmtGood : Nat := 0
  midBad : Nat := 0
  midGood : Nat := 0
  /-- consecutive frames whose TTCRC passes, and the content last received and accepted -/
  ttRun : Nat := 0
  ttRx : TtContent := {}
  ttAcc : TtContent := {}
  /-- content sent (R206) -/
  ttTx : TtContent := {}
  /-- accepted LAPS -/
  lapsAcc : Nat := 0
  /-- codewords counted uncorrectable in the present tick and an SBIP violation seen in it, kept for a carrier pair at engine 2d (R217,
  R221); BDI and BEI of the present transmit frame (R198) -/
  ucw : Nat := 0
  viol : Bool := false
  txBdi : Bool := false
  txBei : Nat := 0
  /-- FEB of the present tick, kept as `ucw` is, and whether BEI was 0xFF in it (R199, R221) -/
  feb : Nat := 0
  fdNow : Bool := false
  deriving DecidableEq, Repr

/-- What one second has shown of a section (R221, R222). -/
structure SecondCount where
  /-- blocks of the second (B of R222) -/
  blocks : Nat := 0
  eb : Nat := 0
  d : Nat := 0
  feb : Nat := 0
  fd : Nat := 0
  ticks : Nat := 0
  deriving DecidableEq, Repr

/-- Performance monitoring of one section: the second in progress, the last ten seconds, oldest first, and the availability of
the two directions as committed (R222 to R224). -/
structure Section where
  now : SecondCount := {}
  waiting : List SecondCount := []
  nearDown : Bool := false
  farDown : Bool := false
  deriving DecidableEq, Repr

/-- How a frame of a communication channel ends (R209). -/
inductive GccEnd where
  | good | badFcs | aborted
  deriving DecidableEq, Repr

/-! ### Coherent line engines (07_coherent_line_engine.md) -/

/-- A ramp in progress (R248): its levels in units of 1/4,095, its duration in µs, the boundary count at its start. -/
structure Ramp where
  l0 : Nat
  l1 : Nat
  us : Nat
  since : Nat
  deriving DecidableEq, Repr

/-- A line engine beside its registers. -/
structure Engine where
  /-- driver ramp, laser ramp and swing ramp (R248, R250, R252) -/
  ramp : Option Ramp := none
  laserRamp : Option Ramp := none
  swingRamp : Option Ramp := none
  /-- L_R of R252 with SRC = 1, in units of 1/4,095 -/
  laser : Nat := 0
  /-- attenuation the drivers have -/
  swing : Nat := 24
  /-- fault holds of R247: driver fault and whether TX_EN has since been 0, die-to-die link, class T change, service mode, thermal -/
  driverFault : Bool := false
  driverAck : Bool := false
  d2dFault : Bool := false
  classT : Bool := false
  modeHold : Bool := false
  thermal : Bool := false
  /-- a mate hold has just been released: the next lighting takes the takeover time (R248) -/
  takeover : Bool := false
  /-- the mate hold darkens with the takeover time (R445, R448) -/
  darkTake : Bool := false
  /-- started in LOS and not yet declared in LOS (R259) -/
  fresh : Bool := false
  /-- fast re-acquisition in progress, or wanted when the signal returns (R258) -/
  fast : Bool := false
  /-- LOCKED, or in the EQ step of a fast re-acquisition, when LOS was entered (R258) -/
  wasLocked : Bool := false
  /-- elapsed-boundary counts: entry to the present receive state, to the acquisition, to LOS -/
  since : Nat := 0
  acqSince : Nat := 0
  losAt : Nat := 0
  /-- the CD step searches the full range, or the hint window (R256, R257) -/
  fullCd : Bool := false
  hint : Bool := false
  /-- converter faults (R245) -/
  rxFault : Bool := false
  deriving DecidableEq, Repr

/-! ### Decoding and encryption (08_decoder_pool_and_encryption.md) -/

/-- A codeword after its base decoding (R272, R273, R276). -/
structure Codeword where
  engine : Nat
  index : Nat
  /-- iterations after which the base decoders converged, at most 8; none: unconverged -/
  base : Option Nat
  /-- syndrome weight after the eighth base iteration -/
  weight : Nat
  /-- further iterations after which it would converge; none: not within 16 -/
  need : Option Nat
  /-- bits whose delivered value differs from the sign of their input, if it converges -/
  flips : Nat
  /-- its transfer over the die-to-die link was lost (R277) -/
  lost : Bool := false
  deriving DecidableEq, Repr

/-- The result of a codeword (R276, R277). -/
structure Decoded where
  engine : Nat
  index : Nat
  /-- total iterations after which it converged; none: uncorrectable (R281) -/
  ok : Option Nat
  served : Bool
  unserved : Bool
  lost : Bool
  flips : Nat
  /-- pool iterations it ran -/
  ran : Nat := 0
  deriving DecidableEq, Repr

/-- The codewords in decoding, by the tick they are in (R272), and the frequency loop's view of the last 16 ticks (R279). -/
structure Pool where
  based : List Codeword := []
  atPool : List Codeword := []
  decoded : List Decoded := []
  deliver : List Decoded := []
  starved : Bool := false
  /-- some tick of the 16 used at least half of P(f) -/
  busy : Bool := false
  /-- load of the present tick, published at its end (FP_LOAD, FP_USED) -/
  cand : Nat := 0
  unserved : Nat := 0
  used : Nat := 0
  /-- the thermal guard holds the frequency (R627) -/
  guarded : Bool := false
  deriving DecidableEq, Repr

/-- What the frequency loop's sensors read at a decision; none: the sensor fails (R279, R280). -/
structure PoolReading where
  /-- highest harbour-die temperature, °C -/
  temp : Option Int
  /-- estimated pool power, 0.1 W -/
  power : Option Nat
  deriving DecidableEq, Repr

/-- The ENC area of a received frame (R288): whether ECRC passes, the KST values it shows, and for the tags it carries whether they
match the receiver's own. -/
structure EncArea where
  ecrcOk : Bool := true
  kst : List (Nat × Nat) := []
  /-- context, and whether its tag matches -/
  tags : List (Nat × Bool) := []
  deriving DecidableEq, Repr

/-- An encryption context beside its registers (R283, R289, R293 to R299). -/
structure EncCtx where
  /-- the two key phases, each a key as it was wrapped -/
  key0 : Option (List Word) := none
  key1 : Option (List Word) := none
  /-- pending change: target and block boundary -/
  change : Option (Nat × Tick) := none
  /-- transmit: AIS crates until the first change of a commit (R295) -/
  hold : Bool := false
  /-- valid appearances of the four KST values in the present block -/
  seen : List Nat := [0, 0, 0, 0]
  /-- state a transmit context uses in the present block; state of the last block, and what happened in the present and the last one -/
  nowState : Nat := 0
  lastState : Nat := 0
  started : Bool := false
  startedLast : Bool := false
  ssf : Bool := false
  ssfLast : Bool := false
  ucw : Bool := false
  ucwLast : Bool := false
  /-- AIS window: FNO of its last frame (R299); a latched one has no end -/
  window : Option Tick := none
  latched : Bool := false
  /-- whole-block replacement of R296 -/
  blockAis : Bool := false
  deriving DecidableEq, Repr

/-- A LOAD in progress (R291). -/
structure KeyJob where
  ctx : Nat
  phase : Nat
  blob : List Word
  deriving DecidableEq, Repr

/-! ### Tide hub mode (09_tide_hub_mode.md) -/

/-- A granted window (R314, R316): upstream subcarrier, leaf, first leaf tick, length in ticks, ranging, and whether a burst has been
accepted in it. -/
structure Window where
  sc : Nat
  leaf : Nat
  start : Tick
  len : Nat
  ranging : Bool
  got : Bool := false
  deriving DecidableEq, Repr

/-- A schedule entry (R316). -/
structure Grant where
  sc : Nat
  leaf : Nat
  start : Nat
  len : Nat
  ranging : Bool
  deriving DecidableEq, Repr

/-- The hub side of an engine in HUB mode. -/
structure TideHub where
  /-- windows announced and not yet over -/
  windows : List Window := []
  /-- a requested bank, and the first window start it is used for (R318) -/
  bankAt : Option (Nat × Tick) := none
  deriving DecidableEq, Repr

/-- What a burst receiver is doing (R325 to R329). -/
inductive BurstRx where
  | idle
  /-- power present, sync word sought -/
  | power
  /-- sync word accepted at a symbol of a tick -/
  | header (tick : Tick) (sym : Nat)
  /-- payload of a leaf's burst, until a count of boundaries -/
  | payload (leaf last : Nat)
  /-- the rest of a dropped burst, until a count of boundaries -/
  | skip (last : Nat)
  deriving DecidableEq, Repr

/-- The burst receiver of an upstream subcarrier (R325 to R330). -/
structure TideSc where
  rx : BurstRx := .idle
  /-- FALSE_SYNC and SYNC_MISS of the present 256 ticks -/
  falseSync : Nat := 0
  syncMiss : Nat := 0
  /-- E is held at a limit; consecutive expected windows with P_T clamped -/
  eLimit : Bool := false
  clampRun : Nat := 0
  deriving DecidableEq, Repr

/-- A burst header whose HCRC passes (R322). -/
structure BurstHeader where
  leaf : Nat
  nc : Nat
  nt : Nat
  first : Nat
  win : Nat
  ldi : Bool
  deriving DecidableEq, Repr

/-- A decoded crate-tick (R323, R331): its leaf tick [15:0], whether the leaf's numbering has jumped, and for each crate its content and
whether it has a nibble in an uncorrectable codeword. -/
structure CrateTick where
  low : BitVec 16
  jump : Bool := false
  crates : List (Berth × Bool)
  deriving DecidableEq, Repr

/-- Reassembly of a leaf's train (R331 to R333). -/
structure TideLeaf where
  /-- crate-ticks held, each with its leaf tick -/
  held : List (Tick × CrateTick) := []
  /-- consecutive granted windows with no accepted burst -/
  missRun : Nat := 0
  /-- a burst has been accepted: the leaf's power is learned -/
  learned : Bool := false
  /-- the stores have started: the next playout sends no NDF -/
  played : Bool := false
  /-- crates that the last playout wrote into the leaf's stores, to be read out in this tick (R332) -/
  out : List Berth := []
  deriving DecidableEq, Repr

/-- Amplitude of a downstream subcarrier (R312): lit or dark, and its ramp. -/
structure Subcarrier where
  lit : Bool := false
  ramp : Option Ramp := none
  deriving DecidableEq, Repr

/-! ### Breakwater merge (10_breakwater_merge.md) -/

/-- States of a merge group (R345), in the order of the MG_STAT codes; SELECT mode has none of its own. -/
inductive MergeState where
  | down | wait | single | aligned
  deriving DecidableEq, Repr

/-- MG_STAT.STATE code of a group state. -/
def MergeState.code : MergeState → Nat
  | .down => 0 | .wait => 1 | .single => 2 | .aligned => 3

/-- A key that an instance has delivered (R341): its boundary count, whether the instance was valid for it, and what it brought: for a
line pair the frame, for a train its crates. -/
structure Delivery where
  key : Nat
  del : Nat
  valid : Bool
  /-- line pair: FNO, overhead, uncorrectable codewords and ENC area of the frame -/
  fno : Tick := 0
  oh : Overhead := {}
  ucw : List Nat := []
  area : EncArea := {}
  /-- train: the crates, and for each the errored BIP-8 bits and whether it has FC_ERR -/
  crates : List Berth := []
  bad : List (Nat × Bool) := []
  /-- train: the monitor held SEQ_LOSS, MIS, SKEW or AIS -/
  defect : Bool := false
  deriving DecidableEq, Repr

/-- One instance of a merge group. -/
structure MergeInst where
  /-- keys delivered, oldest first -/
  keys : List Delivery := []
  /-- boundary count of the last valid delivery -/
  validAt : Option Nat := none
  /-- since the last key that was output: something not valid delivered, or a jump of its keys (R342, R347) -/
  broken : Bool := false
  jumped : Bool := false
  /-- consecutive keys late, early, usable (R344) -/
  lateRun : Nat := 0
  earlyRun : Nat := 0
  usableRun : Nat := 0
  late : Bool := false
  early : Bool := false
  /-- usable for the last key -/
  usable : Bool := false
  /-- SF and SD conditions, each with the boundary count since which it holds, and whether it is a local request (R356) -/
  sfSince : Option Nat := none
  sdSince : Option Nat := none
  sf : Bool := false
  sd : Bool := false
  /-- crates with a BIP-8 error in the present second (R356) -/
  bipCrates : Nat := 0
  deriving DecidableEq, Repr

/-- What follows a request that selected B (R358). -/
inductive MergeAfter where
  | none
  /-- wait to restore, since a boundary count -/
  | wtr (since : Nat)
  /-- do not revert -/
  | dnr
  deriving DecidableEq, Repr

/-- A merge group beside its registers. -/
structure MergeGroup where
  st : MergeState := .down
  a : MergeInst := {}
  b : MergeInst := {}
  /-- the timing instance is B (R342) -/
  timingB : Bool := false
  /-- the last key output, with the boundary count of its output (T of R342) -/
  last : Option (Nat × Nat) := none
  /-- the first key to be output after WAIT, with its boundary count (R345, R634) -/
  first : Option (Nat × Nat) := none
  dHeld : Int := 0
  /-- another D, and for how many keys it has held (R343) -/
  dOther : Int := 0
  dRun : Nat := 0
  waitAt : Nat := 0
  /-- consecutive ticks without a valid instance, without a usable one, and with one LATE or EARLY (R345, R346) -/
  noValid : Nat := 0
  noUsable : Nat := 0
  autoRun : Nat := 0
  /-- the instance in use is B (R349, R353) -/
  useB : Bool := false
  /-- the key output in the present tick; for each crate whether it is taken from B, and whether the monitor of the copy taken holds a
  defect of R83: that verdict for the crates of this tick and of the one before (R353) -/
  shown : Option Nat := none
  takesB : List Bool := []
  takenBad : List Bool := []
  heldBad : List Bool := []
  /-- pointer generator of the readout store; crate start of the timing instance at the last key, and which instance that was; the next
  key restarts the store (R346, R353) -/
  gen : Store := {}
  lead : Nat := 0
  leadB : Bool := false
  restart : Bool := true
  /-- the last frame was merged SSF (R350) -/
  ssf : Bool := true
  /-- selected instance of SELECT mode is B; code of the last request that selected B; what follows it (R357, R358) -/
  selB : Bool := false
  cause : Nat := 0
  after : MergeAfter := .none
  /-- the selector has decided for B; the change of the selected instance waits for its boundary -/
  wantB : Bool := false
  switching : Bool := false
  /-- at the last realignment the keys of both instances had jumped (R347) -/
  jumpStart : Bool := false
  /-- performance monitoring of the merged section (R351) -/
  pm : Section := {}
  deriving DecidableEq, Repr

/-! ### Timing (11_timing.md) -/

/-- A timing reference beside its registers (R367): the boundary count since which it has been without LOS and offset. -/
structure TimeRef where
  goodSince : Option Nat := none
  deriving DecidableEq, Repr

/-- A frequency DPLL beside its registers (R372). -/
structure FreqPll where
  /-- a reference has been locked since PORSTn -/
  everLocked : Bool := false
  /-- ticks of the present or last locked history -/
  lockedTicks : Nat := 0
  /-- a reference is selected -/
  selected : Bool := false
  deriving DecidableEq, Repr

/-- A source of the time DPLL beside its registers (R379 to R388).  Times are in units of 2⁻¹⁶ ns. -/
structure TimeSource where
  /-- last offset measured, units of 2⁻¹⁶ ns -/
  theta : Int := 0
  /-- 1PPS: stamp and boundary count of the last edge, consecutive edges 1 s ± 1 µs apart, and PPS_MISS reported -/
  edge : Option (Int × Nat) := none
  goodEdges : Nat := 0
  missed : Bool := false
  /-- engines: departures and arrivals of the last 16 multiframe starts, newest first: SEQ, stamp, steps of the own time before it -/
  departures : List (Nat × Int × Nat) := []
  arrivals : List (Nat × Int × Nat) := []
  /-- engines: boundary count of the last accepted TT that named one of those departures, and its FLAGS -/
  heardAt : Option Nat := none
  flags : Nat := 0
  /-- engines: learned α and d_mean, times 2²⁰, and the ticks of learning -/
  alphaAcc : Option (Int × Int) := none
  learnTicks : Nat := 0
  /-- software source: boundary count of the last write -/
  writtenAt : Option Nat := none
  deriving DecidableEq, Repr

/-- The time DPLL beside its registers (R377 to R393).  Times are in units of 2⁻³² ns. -/
structure TimePll where
  /-- TB of the last boundary -/
  tb : Nat := 0
  /-- rate correction: 3,200 ns × y, per tick -/
  rate : Int := 0
  /-- a step waiting for the next boundary -/
  step : Option Int := none
  /-- what is still to be slewed away -/
  slew : Int := 0
  /-- a source is selected -/
  selected : Bool := false
  /-- boundary count since which the filtered offset has stayed within ±50 ns -/
  goodSince : Option Nat := none
  /-- the offset of the selected source is being removed -/
  removing : Bool := false
  /-- boundary count from which Invar learns while LOCKED, and HOLDOVER since the last LOCKED (R393) -/
  lockedAt : Nat := 0
  held : Bool := false
  /-- LOCKED ticks Invar has learned from -/
  learned : Nat := 0
  /-- TT loads that still carry STEP -/
  stepLoads : Nat := 0
  /-- steps made, boundary count and TB of the last one (R384) -/
  steps : Nat := 0
  steppedAt : Nat := 0
  stepTb : Nat := 0
  /-- second of the last 1PPS_OUT edge, and boundary count of that edge while its TOD_TX message waits -/
  second : Nat := 0
  todDue : Option Nat := none
  /-- last accepted ToD message of each input: seconds of the next edge, class -/
  tod0 : Option (Nat × Nat) := none
  tod1 : Option (Nat × Nat) := none
  /-- boundary count of the last write of TM_INV_TEMP -/
  tempAt : Nat := 0
  tempStale : Bool := false
  /-- phase difference to TICK_IN as its last edge showed it, in units of 1/16 ns -/
  tickPhase : Int := 0
  deriving DecidableEq, Repr

/-! ### Line measurement and capture (12_line_measurement.md) -/

/-- Sources that trigger a capture, in the order of R409. -/
inductive CapSource where
  | event (src : Nat)
  | sop
  | schedule
  | software
  deriving DecidableEq, Repr

/-- A capture in its POST ticks (R408). -/
structure CapPost where
  /-- t_T, and the boundary count at which it began -/
  trig : Tick
  at_ : Nat
  src : CapSource
  /-- POST as it was at the trigger -/
  post : Nat
  /-- ticks of history kept -/
  pre : Nat
  short : Bool
  cd : Nat
  fofs : Nat
  /-- LOS seen since, and LOL_CNT at the trigger -/
  los : Bool := false
  lolAt : Nat
  deriving DecidableEq, Repr

/-- Capture of one engine beside its registers (R405 to R410). -/
structure Capture where
  armed : Bool := false
  /-- slots as of the last arming -/
  slots : Nat := 1
  /-- slots DONE, oldest first -/
  done : List Nat := []
  /-- the slot now written; none while none is free -/
  next : Option Nat := none
  /-- boundary count from which history is written in that slot -/
  since : Nat := 0
  post : Option CapPost := none
  /-- TRIG waits for the next boundary -/
  soft : Bool := false
  /-- the engine was ON at the last boundary -/
  wasOn : Bool := false
  deriving DecidableEq, Repr

/-- A SOP transient in progress (R403). -/
structure SopRun where
  start : Tick
  at_ : Nat
  /-- boundary count of the last tick at or above THR -/
  last : Nat
  peak : Nat
  deriving DecidableEq, Repr

/-- What an engine's line measurement holds beside its registers (R401 to R404). -/
structure Measure where
  sop : Option SopRun := none
  /-- LOCKED, and decoded frames, since the second began -/
  lockedAll : Bool := false
  decodedAll : Bool := false
  /-- peak SOP rate of the present second -/
  sopPeak : Nat := 0
  /-- CORR_BITS, CW and the codewords of bins 25 and 26 when the second began -/
  corr : Nat := 0
  cw : Nat := 0
  bad : Nat := 0
  deriving DecidableEq, Repr

/-- What a sweeping engine found in one step (R414): flags, FNO0, TLOCK, the quantities Q0 to Q10, UCW and the spectrum. -/
structure SurveyResult where
  lockedSeen : Bool
  losThroughout : Bool
  fmtMis : Bool
  fno0 : Tick
  tlock : Nat
  quantities : List Word
  ucw : Nat
  spec : List Byte
  deriving DecidableEq, Repr

/-! ### Mate pairs (13_mate_pairs.md) -/

/-- The two paths between the devices of a pair (R416). -/
inductive MatePath where
  | link | bollard
  deriving DecidableEq, Repr

/-- The fields of a beat (R422). -/
structure MateBeat where
  /-- mate state as MT_STAT.STATE, 6 in BOOT -/
  state : Nat := 0
  inStep : Bool := false
  release : Bool := false
  grant : Bool := false
  linkUp : Bool := false
  bolUp : Bool := false
  tick : Tick := 0
  serial : Nat := 0
  jseq : Nat := 0
  epoch : Nat := 0
  deriving DecidableEq, Repr

/-- A decision of the active for a store or a train: the boundary count it is for, the unit, and the code or Cn (R433). -/
structure Decision where
  due : Nat
  unit : Nat
  value : Nat
  deriving DecidableEq, Repr

/-- One path as the device hears it. -/
structure PathSight where
  /-- the boundary that the last good beat stamps -/
  heard : Option Tick := none
  /-- consecutive beats missed, and the boundary the last one declared missed was due at -/
  missed : Nat := 0
  missedAt : Option Tick := none
  /-- consecutive intact beats -/
  intact : Nat := 0
  deriving DecidableEq, Repr

/-- Who takes part in the boot decision of R426: what was heard in the window. -/
structure Heard where
  active : Bool := false
  notReady : Bool := false
  /-- SERIAL of a beat that carried state BOOT -/
  boot : Option Nat := none
  deriving DecidableEq, Repr

/-- What the mate agent holds beside its registers. -/
structure Mate where
  /-- BOOT after PORSTn listens since a boundary count; what it has heard; the state is decided (R426) -/
  listenAt : Option Nat := none
  heard : Heard := {}
  decided : Bool := false
  /-- own receivers of the mate link and the bollard line, and the runs behind them (R419, R421) -/
  linkUp : Bool := false
  bolUp : Bool := false
  linkGood : Nat := 0
  linkBad : Nat := 0
  /-- a valid marker has come in the present tick -/
  marked : Bool := false
  link : PathSight := {}
  bollard : PathSight := {}
  /-- the mate's receivers, from its last good beat -/
  farLink : Bool := false
  farBol : Bool := false
  /-- boundary counts since which the mate link, and both paths, have been down (R436) -/
  linkDownAt : Option Nat := none
  pathsDownAt : Option Nat := none
  /-- boundary count of the last edge on MATE_PRES (R424) -/
  presAt : Option Nat := none
  /-- ACT_GRANT, and consecutive boundaries at which it was high and low (R427, R445) -/
  grant : Bool := false
  grantHigh : Nat := 0
  grantLow : Nat := 0
  /-- ACT_STATE, and the boundary count of the last beat sent (R423, R424) -/
  actState : Bool := false
  sentAt : Option Nat := none
  /-- RELEASE is set in the beats sent (R449) -/
  release : Bool := false
  /-- boundary count at which the device takes over, and whether TAKEOVER is raised then (R440, R448, R449) -/
  takeAt : Option Nat := none
  quiet : Bool := false
  /-- the state before ISOLATED was JOINING (R427) -/
  wasJoining : Bool := false
  /-- TICK_NO of the last valid marker, with the boundary count at which it came -/
  marker : Option (Tick × Nat) := none
  /-- the device waits for a marker to take its TICK_NO from (R27) -/
  markWait : Bool := false
  /-- ticks whose checksums have arrived intact and are not yet compared (R435) -/
  sums : List Tick := []
  /-- comparisons are suspended after a class X change (R450) -/
  suspended : Bool := false
  /-- the last 1,024 comparisons, newest first: MISMATCH or not (R436) -/
  compared : List Bool := []
  /-- decisions of the active not yet used (R433) -/
  stores : List Decision := []
  cns : List Decision := []
  /-- sequence number of the last journal entry received (R420) -/
  received : Nat := 0
  /-- sequence numbers that must have been applied by a boundary count (R432) -/
  claims : List (Nat × Nat) := []
  /-- the capture of R439 has been applied since REPLAY began -/
  captured : Bool := false
  /-- boundary count at which the present phase began (R439) -/
  phaseAt : Nat := 0
  /-- the image of an APPLY has reached the mate's staging region (R430) -/
  imageSent : Bool := false
  deriving DecidableEq, Repr

/-! ### Hierarchy and mooring links (14_hierarchy_and_mooring.md) -/

/-- A frame of a mooring port as its receiver decodes it (R456 to R461, R468): the lanes that are good, the data lanes whose retry
decoded a codeword of the tick, the codewords left uncorrectable and those that decoded only with a rebuilt lane, the SBIP violations,
the overhead, and the frame's own arrival at this device in 1/16 ns (R468). -/
structure MooringFrame where
  good : BitVec 9 := 0x1FF
  retried : BitVec 8 := 0
  uncorrectable : Nat := 0
  rebuilt : Nat := 0
  sbip : Nat := 0
  sender : Nat := 0
  /-- 0 STANDALONE, 1 MANAGER, 2 WORKER -/
  role : Nat := 1
  exp : Bool := false
  hops : Nat := 31
  domain : Word := 0
  tno : Tick := 0
  bei : Nat := 0
  bdi : Bool := false
  rmap : BitVec 9 := 0
  arr : Int := 0
  arrTno : BitVec 16 := 0
  tb : Stamp := {}
  cls : Nat := 0
  steps : Nat := 0
  flags : Nat := 0
  tcrcOk : Bool := true
  arrival : Int := 0
  deriving DecidableEq, Repr

/-- A packet of the control channel (R472). -/
structure CcPacket where
  dst : Nat
  src : Nat
  ttl : Nat
  type : Nat
  seq : Nat
  payload : List Byte
  deriving DecidableEq, Repr

/-- The payload of a HELLO (R473). -/
structure Hello where
  src : Nat
  serial : Nat
  role : Nat
  hops : Nat
  mismatch : Bool
  /-- hop counts to members 0 to 15, 255 for no route -/
  routes : List Nat
  deriving DecidableEq, Repr

/-- What a member answers the manager (R476). -/
inductive DomainReply where
  | armed
  | refused (reason : Nat)
  | applied
  | failed (reason : Nat)
  deriving DecidableEq, Repr

/-- What the hierarchy agent writes to its member's own registers (R118, R477, R569). -/
inductive AgentAct where
  /-- hold the swap registers and ARM for boundary n -/
  | arm (n : Tick)
  /-- CANCEL, and hold no longer -/
  | cancel
  /-- COMMIT for boundary n -/
  | commit (n : Tick)
  /-- REVERT -/
  | revert
  /-- hold no longer -/
  | release
  deriving DecidableEq, Repr

/-- One mooring port beside its registers. -/
structure Moor where
  /-- a frame has come in the present tick; EXP of the last one -/
  seen : Bool := false
  exp : Bool := false
  /-- the nine lanes: good in the last frame, and consecutive frames good with no retry -/
  good : BitVec 9 := 0
  goodRuns : List Nat := []
  /-- consecutive ticks in which a retry was taken, per data lane (R462) -/
  retryRuns : List Nat := []
  /-- consecutive frames of another domain and of the own one, and the sender's role (R466) -/
  foreignRun : Nat := 0
  matchRun : Nat := 0
  role : Nat := 0
  /-- boundary count since which the port has offered strictly fewer hops than the timing port (R467) -/
  offersSince : Option Nat := none
  /-- RMAP as it comes, and lanes whose transmitters idle (R465) -/
  rmap : Run := {}
  txIdle : BitVec 9 := 0
  /-- own arrivals of the last frames, by TNO[15:0], newest first (R469) -/
  arrivals : List (BitVec 16 × Int) := []
  /-- TNO of the last frame and the boundary count at which it came; consecutive frames that disagree with TICK_NO (R470) -/
  tno : Tick := 0
  tnoAt : Option Nat := none
  tickRun : Nat := 0
  bdi : Run := {}
  /-- BDI and BEI of the present transmit frame; codewords uncorrectable in the present tick (R464) -/
  txBdi : Bool := false
  txBei : Nat := 0
  bad : Nat := 0
  /-- hop counts of the last HELLO, and the boundary count at which it came (R473) -/
  routes : List Nat := []
  helloAt : Option Nat := none
  /-- packets waiting: commit and HELLO ahead of user data; the one being sent with the octets still to go (R474) -/
  urgent : List CcPacket := []
  queued : List CcPacket := []
  sending : Option (CcPacket × Nat) := none
  deriving DecidableEq, Repr

/-- User data of the control channel (R474). -/
structure CcUser where
  /-- packets received, each its descriptor and words not yet read -/
  rx : List (List Word) := []
  /-- destination and frame of the packet being written -/
  writing : Option (Nat × GccWriting) := none
  /-- source sequence number of the next packet -/
  seq : Nat := 0
  /-- broadcasts seen: source, SEQ, boundary count -/
  seen : List (Nat × Nat × Nat) := []
  deriving DecidableEq, Repr

/-- An open domain commit (R475 to R479). -/
structure DomainCommit where
  manager : Bool
  change : Nat
  /-- COMMIT, else SWAP -/
  commit : Bool
  n : Tick
  /-- members of the mask; on a worker none -/
  members : Nat := 0
  /-- this member takes part -/
  own : Bool := true
  /-- boundary count at which the local ARM has been tried and is answered -/
  replyAt : Option Nat := none
  go : Bool := false
  decided : Bool := false
  /-- this member has applied; none: not yet reported -/
  applied : Option Bool := none
  closed : Bool := false
  /-- N2 of a rollback that this member takes part in -/
  rollback : Option Tick := none
  /-- the re-commit of the previous image is armed -/
  recommit : Bool := false
  deriving DecidableEq, Repr

/-! ### Memories (15_memories.md) -/

/-- What ECC shows of a word that an access reads (R488, R489). -/
inductive Ecc where
  | clean | single | double
  deriving DecidableEq, Repr

/-- An access of a datapath engine over port B to the same scratchpad word, in an overlapping window (R486). -/
structure PortB where
  write : Bool
  /-- what it writes -/
  data : BitVec 128 := 0
  /-- it is the earlier of the two -/
  earlier : Bool
  deriving DecidableEq, Repr

/-- One beat of a burst: byte strobes and data of a write; what ECC shows of the word, and the colliding access it meets. -/
structure Beat where
  strobes : BitVec 16 := 0xFFFF
  data : BitVec 128 := 0
  ecc : Ecc := .clean
  portB : Option PortB := none
  deriving DecidableEq, Repr

/-- A bus transaction: 1 to 16 beats at ascending words (R516).  `fetch` says that a Pilot core fetches instructions (R523). -/
structure Burst where
  write : Bool
  addr : Nat
  beats : List Beat
  fetch : Bool := false
  deriving DecidableEq, Repr

/-- A word that the scrub reads (R493). -/
inductive ScrubWord where
  /-- a word of the boot ROM, the working SRAM or the scratchpad, by bus address -/
  | word (addr : Nat)
  /-- a word of a datapath SRAM, by macro -/
  | datapath (macroId : Fin 4096)
  /-- a line of the Anchorage -/
  | line (addr : Nat)
  deriving DecidableEq, Repr

/-- How a march test of a region goes on (R494). -/
inductive MarchEvent where
  /-- the engine borrows the region -/
  | borrow
  /-- the test ends, with the macro and column of the last word that failed -/
  | finish (fail : Option (Fin 4096 × Fin 1024))
  deriving DecidableEq, Repr

/-- The march test of the test engine beside its registers (R494 to R497). -/
structure March where
  /-- the borrowed region, in pages of 4 KiB: the working SRAM as 0 to 511, the scratchpad from 512 -/
  borrowed : Option Nat := none
  /-- next region of the pass -/
  next : Nat := 0
  /-- regions that yielded in this pass: how often, and the boundary count of the last yield -/
  yielded : List (Nat × Nat × Nat) := []
  deriving DecidableEq, Repr

/-- The first 4 KiB page of a memory that the march test covers, if an address lies in one. -/
def marchPage (addr : Nat) : Option Nat :=
  if 0x11000000 ≤ addr ∧ addr < 0x11200000 then some ((addr - 0x11000000) / 4096)
  else if 0x12000000 ≤ addr ∧ addr < 0x12800000 then some (512 + (addr - 0x12000000) / 4096)
  else none

/-- The bus address of a page of the march test. -/
def pageAddr (page : Nat) : Nat :=
  if page < 512 then 0x11000000 + 4096 * page else 0x12000000 + 4096 * (page - 512)

/-! ### Control plane (16_control_plane.md) -/

/-- A Pilot core as the device sees it (R521 to R524): what it executes is the software's. -/
structure Core where
  /-- out of reset, started at an address -/
  running : Bool := false
  start : Nat := 0
  /-- SY_PC_VEC of the core has been written since its reset -/
  vectored : Bool := false
  /-- the last access fault it took: exception code and mtval (R523) -/
  fault : Option (Nat × Nat) := none
  /-- MTIP (R524) -/
  mtip : Bool := false
  /-- halted by the debug module (R537, R554) -/
  halted : Bool := false
  deriving DecidableEq, Repr

/-- The PCIe endpoint beside its link and Bus Master Enable (R527 to R529): Memory Space Enable, BAR0, BAR2 and BAR3 as written, MSI-X
Enable and Function Mask, and the power state D3hot. -/
structure Pcie where
  memory : Bool := false
  bar0 : Word := 0
  bar2 : Word := 0
  bar3 : Word := 0
  msixEnable : Bool := false
  msixMask : Bool := false
  d3hot : Bool := false
  deriving DecidableEq, Repr

/-- What ends the endpoint's transactions (R529, and PE_PERSTn under R609). -/
inductive PcieReset where
  | flr | hotReset | linkDown | perst
  deriving DecidableEq, Repr

/-- A configuration, I/O or locked request (R527, R528). -/
inductive ConfigRequest where
  /-- a read of a doubleword of the configuration space -/
  | read (dword : Fin 1024)
  /-- a write of bytes of a doubleword of the configuration space -/
  | write (dword : Fin 1024) (enables : BitVec 4) (v : Word)
  /-- a write of the MSI-X capability's control word -/
  | msixControl (enable mask : Bool)
  /-- a write of the power management capability's state: D3hot, or D0 -/
  | powerState (d3hot : Bool)
  /-- a request to an absent function, an I/O request or a locked read -/
  | unsupported
  deriving DecidableEq, Repr

/-- Completion status of a request: Successful Completion, Unsupported Request, Completer Abort. -/
inductive Completion where
  | success | unsupported | abort
  deriving DecidableEq, Repr

/-- An operation of the JTAG port (R537). -/
inductive JtagOp where
  | idcode
  | boundaryScan
  /-- the debug module halts a core, lets it run on, or makes it access the bus -/
  | halt (c : Fin 4)
  | resume (c : Fin 4)
  | bus (c : Fin 4) (b : Burst)
  deriving DecidableEq, Repr

/-- The console UART (R536): its FIFOs, and the boundary count at which the byte being sent has left. -/
structure Uart where
  rx : List Byte := []
  tx : List Byte := []
  sentAt : Option Nat := none
  deriving DecidableEq, Repr

/-- The I²C mailboxes (R532): 64 bytes each. -/
structure Mailbox where
  inbound : List Byte := List.replicate 64 0
  outbound : List Byte := List.replicate 64 0
  deriving DecidableEq, Repr

/-! ### Thermal shutdown (19_package_pins_power.md) -/

/-- The thermal guard (R626 to R628): the highest reading in 1/4 °C, consecutive ticks at or above 130 °C, the boundary count at which the
shutdown resets the device, and the boundary count since which every sensor has read below 110 °C during that reset. -/
structure Thermal where
  tj : Option Int := none
  die : Nat := 0
  hot : Nat := 0
  resetAt : Option Nat := none
  coolSince : Option Nat := none
  deriving DecidableEq, Repr

/-! ### Image, boot and resets (17_structure_image_boot_reset.md) -/

/-- A multi-bit fuse (R553): blank, torn (its commit cell is not programmed), or committed with a value. -/
inductive FuseValue where
  | blank | torn
  | value (v : Nat)
  deriving DecidableEq, Repr

/-- A multi-bit fuse is committed. -/
def FuseValue.set : FuseValue → Bool
  | .value _ => true
  | _ => false

/-- The fuses (R2, R422, R550). -/
structure Fuses where
  variant : Nat := 1
  /-- silicon revision -/
  rev : Nat := 0
  serial : Nat := 0
  pkh0 : FuseValue := .blank
  pkh1 : FuseValue := .blank
  revoke0 : Bool := false
  revoke1 : Bool := false
  sbEn : Bool := false
  /-- bits set of SVN_MIN -/
  svn : Nat := 0
  dbgLock : Bool := false
  dbgSeal : Bool := false
  key0 : FuseValue := .blank
  key1 : FuseValue := .blank
  deriving DecidableEq, Repr

/-- A valid commit record of the boot flash (R556). -/
structure CommitRecord where
  seq : Word
  slot : Nat
  length : Nat
  digest : Nat
  deriving DecidableEq, Repr

/-- The boot flash as the device reads it (R555): the two copies of the commit record, none where MAGIC or RCRC fails, and the images
of slots A and B. -/
structure BootFlash where
  copy0 : Option CommitRecord := none
  copy1 : Option CommitRecord := none
  slotA : Image := {}
  slotB : Image := {}
  deriving DecidableEq, Repr

/-- The RDIMMs that the SPDs of channels 0 to 7 show, in GB, 0 for none, and whether they are identical (R500). -/
structure Dimms where
  sizes : List Nat := []
  identical : Bool := true
  deriving DecidableEq, Repr

/-- A start that image selection found (R559): the image, SY_BOOT_STAT.SRC, the slot and SEQ of its record. -/
structure Start where
  image : Image
  src : Nat
  slot : Nat := 0
  seq : Nat := 0
  deriving DecidableEq, Repr

/-- What the boot and reset sequencer holds beside its registers. -/
structure Boot where
  /-- PORSTn, SRSTn are low -/
  porst : Bool := true
  srst : Bool := false
  /-- device state in which SRSTn was asserted (R571) -/
  before : DevState := .boot
  /-- the fuses have been loaded since PORSTn -/
  loaded : Bool := false
  /-- XO_IN has failed its check (R366) -/
  xoBad : Bool := false
  /-- BOOT waits for HOST_GO (R560) -/
  hostWait : Bool := false
  /-- the start chosen while the mate state is still to be decided (R426), or in progress (R562) -/
  chosen : Option Start := none
  /-- the starts that remain behind it (R562) -/
  spare : List Start := []
  /-- the Anchorage has trained since START-UP began (R500) -/
  trained : Bool := false
  /-- the registers before the present START-UP wrote the image (R562) -/
  bare : Table Word := []
  /-- TICK_NO takes this value at the next boundary (R27) -/
  tickAt : Option Tick := none
  /-- a worker waits for its timing port (R470) -/
  tickWait : Bool := false
  /-- the brief hard shutdown has asserted the reset (R570) -/
  thermal : Bool := false
  /-- the nominal frequency that BOOT has measured at REF_IN0, in 1/1,024 kHz (R563) -/
  refIn0 : Option Nat := none
  /-- BOOT follows SRSTn: source SRST is raised when it ends (R571, R574) -/
  again : Bool := false
  /-- engines whose SPI transfer a reset has ended: SPI_ERR once BOOT ends (R267) -/
  spiCut : List Nat := []
  deriving DecidableEq, Repr

/-- What an apply, a commit or a record write holds beside its registers (R565 to R568). -/
structure ImageJob where
  /-- SRC of the image applied -/
  src : Nat := 0
  /-- section, record and rule that the check found broken (R548) -/
  fault : Option (Nat × Nat × Nat) := none
  persist : Bool := false
  due : Tick := 0
  /-- the commit was armed by the hierarchy agent for an open domain commit (R568) -/
  domain : Bool := false
  /-- the boundary of the last commit (R566) -/
  doneAt : Option Tick := none
  /-- the record being written: slot, LENGTH, digest -/
  record : Nat × Nat × Nat := (0, 0, 0)
  deriving DecidableEq, Repr

/-- What a fuse programming is cut off with (R553). -/
inductive FuseCut where
  /-- the value's cells are partly programmed, its commit cell is not -/
  | torn
  /-- nothing is programmed -/
  | blank
  /-- the commit cell, or one of a single-bit fuse's two cells, is programmed -/
  | done
  deriving DecidableEq, Repr

/-- How a fuse programming ends (R552). -/
inductive FuseEnd where
  | done | noVfuse | verifyFail
  deriving DecidableEq, Repr

/-- The resources that a block reset names (R572). -/
inductive Resource where
  | lane (l : Nat) | quay (q : Nat) | engine (e : Nat) | group (g : Nat) | port (m : Nat)
  deriving DecidableEq, Repr

/-! ### Dumps and PM history (18_events_and_counters.md) -/

/-- An entry of a dump ring that is being written (R590, R591). -/
structure DumpJob where
  ring : Nat
  bytes : List Byte
  deriving DecidableEq, Repr

/-- An open bin of the PM history (R596): its first second, the seconds counted and the eight counts, in the order of R596. -/
structure PmBin where
  first : Nat := 0
  secs : Nat := 0
  counts : List Nat := [0, 0, 0, 0, 0, 0, 0, 0]
  deriving DecidableEq, Repr

/-- An entity of the PM history (R594). -/
inductive PmEntity where
  | line (e : Nat)
  | merged (g : Nat)
  | port (m : Nat)
  | client (n : Nat)
  | path (t : Nat)
  deriving DecidableEq, Repr

/-- What a register write meets beside the state of the device: the image that a SY_IMG_CMD written here names, and
which cores, and whether the dump engine, are in the middle of a burst that the write ends. -/
structure Aside where
  image : Image := {}
  cores : BitVec 4 := 0
  dump : Bool := false
  deriving DecidableEq, Repr

/-! ### Work keyed to a boundary (R22), what leaves the device, what a tick shows it -/

/-- An action the device takes at the next boundary (R22, R519). -/
inductive Keyed where
  /-- PREPARE (R110) -/
  | gridPrepare
  /-- ARM for the boundary n, written in a tick (R111) -/
  | gridArm (n written : Tick)
  /-- CANCEL, written in a tick (R110) -/
  | gridCancel (written : Tick)
  /-- the boundary n of a switch made in its swap window (R113) -/
  | swapDone (n : Tick)
  /-- a completed training attempt puts the lane in DATA (R134) -/
  | laneData (l : Nat)
  /-- a training attempt starts (R135, R136) -/
  | laneTrain (l : Nat)
  /-- a loopback takes effect (R144) -/
  | loopOn (l mode : Nat)
  /-- a loopback ends because MODE returned to 0 (R144) -/
  | loopOff (l : Nat)
  /-- a far-end loopback ends for want of a signal (R145) -/
  | loopLost (l : Nat)
  /-- the checker counts are cleared (R141) -/
  | patClear (l : Nat)
  /-- injection inverts bits of the transmit stream (R142) -/
  | inject (l bits : Nat)
  /-- LE_CTRL.ACQ_RESTART (R257) -/
  | acqRestart (e : Nat)
  /-- SEC_ECTRL.CLR_LATCH (R299) -/
  | clrLatch (e : Nat)
  /-- MG_CTRL.REALIGN (R346) -/
  | mgRealign (g : Nat)
  /-- the selected instance of a group changes (R354, R358) -/
  | mgSelect (g : Nat)
  /-- MS names the instance in use of a group in MERGE mode (R353) -/
  | mgUse (g : Nat) (b : Bool)
  /-- a measurement of the software time source (TM_SW_OFS) -/
  | swOfs (v : Word)
  /-- CAP_CTRL.DISARM (R409) -/
  | capDisarm (e : Nat)
  /-- the far RMAP accepted takes effect on the transmit lanes (R465) -/
  | rmapIdle (m : Nat) (lanes : BitVec 9)
  /-- SY_PC_CTRL.RUN written 1 (R522) -/
  | coreStart (c : Fin 4)
  /-- TD_THR.SYNC_TOL takes effect (R330) -/
  | tolStart (e : Nat)
  /-- SY_BLKRST.GO (R572) -/
  | blockReset (r : Resource)
  deriving DecidableEq, Repr

/-- What a tick shows the device: content that arrives, errors its checkers find, values its sensors and detectors read. -/
inductive TickObs where
  /-- the berth that enters the grid at a port, from its quay, store or reassembly -/
  | crate (p : Fin 23040) (content : Berth)
  /-- errored crates of a train at its monitor: BIP-8 bits, FC_ERR, and how many crates have either (R77, R82, R595) -/
  | crateError (t : Fin 4096) (bip fcErrors crates : Nat)
  /-- the FC of each crate of a train in a tick, by CI; none where the FCRC fails (R77) -/
  | fills (t : Fin 4096) (fcs : List (Option Nat))
  /-- filtered client nibbles per tick of a train, in units of 2⁻³² nibble, and whether the ingress FIFO is past its limit (R74, R76) -/
  | clientRate (t : Fin 4096) (cHat : Nat) (overLimit : Bool)
  /-- a single-bit error of a control memory or manifest bank, corrected (R107) -/
  | ctlCorr
  /-- an uncorrectable control memory entry (R108) -/
  | ctlUncorr (stage : Fin 3) (port : Fin 23040)
  /-- an uncorrectable live manifest entry, with the train of the stowage engine's record (R109) -/
  | manUncorr (p : Fin 23040) (train : Fin 4096)
  /-- an uncorrectable shadow manifest entry (R109) -/
  | shadowUncorr (p : Fin 23040)
  /-- bits the pattern checker compared, and those in error (R141) -/
  | laneBits (l : Fin 128) (compared errors : Nat)
  /-- nibbles a BIT or BLOCK client's lanes deliver to its ingress FIFO in the tick (R153) -/
  | clientNibbles (q : Fin 64) (c : Fin 2) (w : Nat)
  /-- change of a client's egress buffer in the tick, in nibbles, and its latency (R156, R164) -/
  | egress (q : Fin 64) (c : Fin 2) (change : Int) (latencyNs : Nat)
  /-- errors a client's monitors count (R162, R184) -/
  | clientErrors (q : Fin 64) (c : Fin 2) (cv cv2 fecCorr fecUnc : Nat)
  /-- Remote Fault, Local Fault or SM BDI received from the client, and LOF, LOM or SM TIM of an OTN client (QY_STAT, R178) -/
  | clientSees (q : Fin 64) (c : Fin 2) (remoteFault localFaultOrBdi smFault : Bool)
  /-- an accepted 16-byte J0 trace or SM TTI SAPI (R169, QY_TRACE) -/
  | clientTrace (q : Fin 64) (c : Fin 2) (words : List Word)
  /-- FAS bits that differ at the expected position, and the other positions at which the FAS is found, in symbol order (R210 to R212) -/
  | fas (u : RxUnit) (differ : Nat) (found : List Nat)
  /-- OTUC frames of an interop engine in the tick: how many, with an SM BIP-8 violation, their SM BEI in all, and whether SM BDI was
  received (R229) -/
  | otuc (e : Fin 8) (frames violated bei : Nat) (bdi : Bool)
  /-- an ODU train of an interop engine has, or no longer has, an MSI mismatch, ODU-AIS, OCI or LCK (R227) -/
  | oduAlarm (t : Fin 4096) (bad : Bool)
  /-- dispersion and frequency offset that the adapting loops of an engine arrive at (R260, R261) -/
  | coherent (e : Fin 8) (cd : Int) (fofs : Int)
  /-- a MIMO tap that the adapting equalizer arrives at (R261) -/
  | mimoTap (e : Fin 8) (tap : Fin 1024) (v : Word)
  /-- mean power in the tails over 256 ticks, units of −0.25 dBFS (R325) -/
  | tideFloor (e : Fin 8) (sc : Fin 16) (floor : Fin 256)
  /-- the crates of an instance of a train group leave their stores: key, monitor verdicts, errored bits and FC_ERR per crate
  (R341, R347, R353, R356) -/
  | instanceKey (g : Fin 2048) (b : Bool) (key : Option (Fin 1048576)) (valid defect jump : Bool) (bad : List (Nat × Bool))
  /-- the bound Invar predicts, in 10 ns, and the rate its model gives (R391, R392) -/
  | invar (bound : Nat) (rate : Int)
  /-- frequency offset of the grid or output DPLL against XO_IN, 0.01 ppm (TM_GD_STAT, TM_OD_STAT) -/
  | phase (d : Bool) (fofs : Int)
  /-- a quantity of R401 as the engine measures it in the tick -/
  | quantity (e : Fin 8) (index : Fin 16) (value : Int)
  /-- the active's image transfer to the standby is complete (R430) -/
  | imageSent
  /-- what the cores and the matrix counted in control cycles: codes 1 to 7 of R584 -/
  | coreCount (code : Nat) (index : Nat) (n : Nat)
  /-- the highest reading of the temperature sensors that answer, in 1/4 °C, and its die (R626) -/
  | temperature (tj : Int) (die : Fin 5)
  /-- VFUSE lies, or does not lie, within its limits (R623) -/
  | vfuse (ok : Bool)
  deriving DecidableEq, Repr

/-- A write to a journaled register, with the unit it addresses resolved from the writing master's own selections (R429). -/
inductive Write where
  /-- LN_TRAIN_CTRL.RESTART -/
  | trainRestart (l : Nat)
  /-- LN_TRAIN_CTRL.BACKOFF_DIS -/
  | backoffDis (l : Nat) (on : Bool)
  /-- LN_LOOP with a MODE of 1 to 3 -/
  | loopSet (l mode : Nat) (squelch : Bool)
  /-- LN_LOOP with MODE 0 -/
  | loopRelease (l : Nat)
  /-- LN_PAT_CHK.CLR -/
  | patClr (l : Nat)
  /-- LN_INJ.SINGLE -/
  | injectSingle (l : Nat)
  /-- LN_INJ.BURST -/
  | injectBurst (l blen : Nat)
  /-- the shadow manifest window -/
  | manifest (p : Nat) (v : Word)
  /-- GRID_SWAP_CMD.PREPARE -/
  | prepare
  /-- GRID_SWAP_CMD.ARM -/
  | arm
  /-- GRID_SWAP_CMD.CANCEL -/
  | cancel
  /-- GRID_STOW_CMD.REPACK -/
  | repack
  /-- QY_IDATA -/
  | idata (q : Nat) (v : Word)
  /-- a read of QY_XDATA, repeated by the standby (R431) -/
  | xdataRead (q : Nat)
  /-- LF_GCC_TXD0 and LF_GCC_TXD1 -/
  | gccTx (e ch : Nat) (v : Word)
  /-- a read of LF_GCC_RXD0 or LF_GCC_RXD1, repeated by the standby (R431) -/
  | gccRead (e ch : Nat)
  /-- LE_CTRL.TX_EN -/
  | txEn (e : Nat) (on : Bool)
  /-- LE_CTRL.LASER_EN -/
  | laserEn (e : Nat) (on : Bool)
  /-- LE_CTRL.PSTATE -/
  | pstate (e p : Nat)
  /-- LE_DRV -/
  | atten (e : Nat) (v : Word)
  /-- LE_CTRL.ACQ_RESTART -/
  | acqRestart (e : Nat)
  /-- LE_SPI_CTRL with GO -/
  | spiGo (e : Nat) (v : Word)
  /-- SEC_KCMD LOAD, with the master's blob -/
  | keyLoad (copy : Nat) (ctx phase : Nat) (blob : List Word)
  /-- SEC_KCMD CHANGE, with the master's SEC_KAT -/
  | keyChange (copy : Nat) (ctx target : Nat) (at_ : Tick)
  /-- SEC_KCMD ZEROIZE -/
  | zeroize (copy : Nat) (ctx phase : Nat)
  /-- SEC_KCMD ZEROIZE_ALL -/
  | zeroizeAll (copy : Nat) (e dir : Nat)
  /-- SEC_ECTRL.CLR_LATCH -/
  | clrLatch (e : Nat)
  /-- TD_DS.LIT -/
  | tdDs (e : Nat) (lit : Nat)
  /-- TD_GS_CTRL.BANK -/
  | gsBank (e bank : Nat)
  /-- MG_CTRL.REALIGN -/
  | mgRealign (g : Nat)
  /-- MG_CTRL.CMD -/
  | mgCmd (g cmd : Nat)
  /-- TM_TS_CFG.LEARN -/
  | tsLearn (src : Nat)
  /-- TM_SW_OFS -/
  | swOfs (v : Word)
  /-- TM_INV_CTRL.RESET_MODEL -/
  | resetModel
  /-- a write to a register without a row of its own -/
  | reg (r : Reg) (i : Nat) (v : Word)
  /-- MT_CTRL.SWITCHOVER (R448) -/
  | switchover
  /-- HR_PORT_CFG, with RETIRE (R465) -/
  | retire (m : Nat) (v : Word)
  /-- HR_CC_TXD -/
  | ccTx (v : Word)
  /-- HR_DC_CMD with START (R478) -/
  | dcStart (v : Word)
  /-- the hierarchy agent's own writes (R429, R477) -/
  | agent (a : AgentAct)
  /-- SY_IMG_CMD APPLY; the image reaches the standby first (R430, R569) -/
  | imgApply (src : Nat) (image : Image)
  /-- SY_IMG_CMD COMMIT, with SY_IMG_AT (R430, R569) -/
  | imgCommit (n : Tick) (persist : Bool)
  /-- SY_IMG_CMD ABORT (R569) -/
  | imgAbort
  /-- SY_IMG_CMD REVERT (R569) -/
  | imgRevert
  deriving DecidableEq, Repr

/-- A journal entry: its sequence number, the boundary it applies at, the elapsed-boundary count of that boundary, and the write
(R430, R432). -/
structure JEntry where
  seq : Nat
  apply : Tick
  due : Nat
  write : Write
  deriving DecidableEq, Repr

/-- A frame of the mate link as it arrives (R420): TICK_NO of a valid marker, whether the checksums of the previous tick are intact, the
decisions for the second tick ahead (R433), and the journal entries that are intact (their `due` is not used). -/
structure MateFrame where
  marker : Option Tick
  sumsIntact : Bool := true
  stores : List (Nat × Nat) := []
  cns : List (Nat × Nat) := []
  entries : List JEntry := []
  deriving DecidableEq, Repr

/-- The key phases of a context and its state, as the capture carries them (R439). -/
structure KeyState where
  ctx : Nat
  key0 : Option (List Word)
  key1 : Option (List Word)
  state : Nat
  change : Option (Nat × Tick)
  deriving DecidableEq, Repr

/-- The capture that REPLAY starts from (R439): the active's committed image where it differs, journaled registers, the JSEQ of the last
entry in it, and the key phases of the contexts. -/
structure MateCapture where
  image : Option Image := none
  regs : List (Reg × Nat × Word) := []
  jseq : Nat := 0
  keys : List KeyState := []
  deriving DecidableEq, Repr

/-- An item of epoch data (R438).  Where an item holds boundary counts, they are in the receiver's own count, so that every timer has
run on from E to A. -/
inductive EpochItem where
  /-- a 48-bit counter at E -/
  | counter (c : Ctr) (atE : Nat)
  /-- a count held in a field of a BP or TR register at E -/
  | countField (f : Field) (i atE : Nat)
  /-- PM accumulators of the present second at E: of a line or mooring section, a client or a train path -/
  | line (i : Nat) (atE : SecondCount)
  | client (i : Nat) (atE : SecondCount)
  | path (i : Nat) (atE : SecondCount)
  /-- an open bin of the PM history at E -/
  | bin (i j : Nat) (atE : PmBin)
  /-- fill deviation and output pointer of a store at E -/
  | store (p : Nat) (dev : Int) (out : Nat)
  /-- fill deviation of a client's egress buffer at E -/
  | desync (client : Nat) (dev : Int)
  /-- a merge group -/
  | group (g : Nat) (v : MergeGroup)
  /-- an encryption context and its SEC_CTX_STAT -/
  | context (i : Nat) (v : EncCtx) (stat : Word)
  /-- a leaf's learned power, PWR of TD_LEAF_STAT -/
  | leafPower (i v : Nat)
  /-- noise floor and sync tolerance of an upstream subcarrier -/
  | floor (i v : Nat)
  | syncTol (i e : Nat)
  /-- a timing reference's qualification timer, and whether it is qualified -/
  | reference (r : Nat) (v : TimeRef) (qual : Bool)
  /-- a DPLL's holdover average -/
  | holdover (output : Bool) (v : FreqPll)
  /-- the time DPLL's selected source and a source's filtered offset -/
  | timeSource (sel : Nat) (i : Nat) (offset : Word)
  deriving DecidableEq, Repr

/-- The device's own state at E, for the items applied as a delta (R437, R438). -/
structure Snapshot where
  /-- boundary count and TICK_NO of E -/
  at_ : Nat
  tick : Tick
  ctrs : Table Nat
  regs : Table Word
  lines : Table Section
  clients : Table Section
  paths : Table Section
  bins : Table PmBin
  stores : Table Store
  egress : Table Client
  deriving DecidableEq, Repr

/-- Something the device sends out: to a host, the mate, a neighbour, a module or a peripheral. -/
inductive Out where
  /-- the MSI-X message of a vector, as its table entry says (R527, R577) -/
  | msix (vector address data : Nat)
  /-- a write of the dump engine to host memory (R593) -/
  | busWrite (address : Nat) (data : List Nat)
  /-- a frame a timestamp unit has changed or inserted, FCS included: into the train, or out of the client's lanes (R173, R174) -/
  | frame (unit : Nat) (egress : Bool) (bytes : List Byte)
  /-- a GCC frame sent (R209) -/
  | gccFrame (engine channel : Nat) (octets : List Byte)
  /-- an optics SPI transfer started: the upper `len` bits (R267) -/
  | optics (e cs len : Nat) (bits : BitVec 64)
  /-- 1PPS_OUT marks a second: shift of the edge in 1/16 ns, pulse width in ms, polarity inverted (R394) -/
  | pps (i : Nat) (second : Nat) (shift : Int) (width : Nat) (inverted : Bool)
  /-- a ToD message is sent (R382, R394) -/
  | tod (bytes : List Byte)
  /-- TICK_OUT pulses (R375) -/
  | tickOut (tick : Tick)
  /-- a beat, on the mate link and the bollard line (R422, R423) -/
  | beat (bytes : List Byte)
  /-- the mate-link frame of a tick: journal entries and decisions (R420, R433) -/
  | mateFrame (tick : Tick) (entries : List JEntry) (stores cns : List (Nat × Nat))
  /-- a packet sent on a mooring port's control channel (R474) -/
  | ccPacket (port : Nat) (p : CcPacket)
  /-- a completion of the PCIe endpoint (R528) -/
  | completion (status : Completion) (data : List (BitVec 128))
  /-- cycle k of a local-bus access: LB_BUSYn or LB_ERRn low, and LB_D (R531) -/
  | localBus (busy error : Bool) (data : Word)
  /-- a block read on I²C (R532) -/
  | i2c (bytes : List Byte)
  /-- a block write on I²C is not acknowledged (R532) -/
  | i2cNak
  /-- a flash command started (R534) -/
  | flash (op : Byte) (quad : Bool) (address : List Byte) (read : Nat) (data : List Byte)
  /-- a byte on UART_TX (R536) -/
  | uart (b : Byte)
  /-- IDCODE on TDO (R537) -/
  | jtag (v : Word)
  /-- a commit record is written into a copy in the boot flash (R557) -/
  | record (copy : Nat) (r : CommitRecord)
  deriving DecidableEq, Repr

end Sys2Proof.Machine
end

