-- ==== Sys2Proof/Syntax.lean ====
section
/-! DEFINITION. The commands of the device: one constructor per row of the operation table, with what each command carries:
the bus master and data of an access, the resource a step is about, and what the board, the line, a neighbouring device or one of
the device's own engines presents in that step. -/

namespace Sys2Proof

open Sys2Proof.Machine

/-- The commands, in the order of the operation table. -/
inductive Instr where
  /-- PORSTN_ASSERT (R622): Assertion of PORSTn sets drivers and RMP_OUT to the off level within 1 µs without a ramp and resets every master. -/
  | porstnAssert (fuse : FuseCut) (repair : FuseCut)
  /-- PORSTN_RELEASE (R558): Release of PORSTn enters BOOT, samples the straps and starts fuse load and SRAM initialisation. -/
  | porstnRelease (straps : Straps) (xo : Option (Fin 5))
  /-- FUSE_LOAD_DONE (R559): Completion of fuse load makes the device choose its start (TEST, RECOVERY, host, flash image or default image). -/
  | fuseLoadDone (flash : BootFlash) (dimms : Dimms) (refIn0 : Option (Fin 7))
  /-- HOST_GO (R560): HOST_GO checks a host-written scratchpad image within 5 ms and starts from it or falls back. -/
  | hostGo (m : Initiator) (v : Word) (image : Image)
  /-- ANCHORAGE_TRAINING_DONE (R500): Completion of HBM and DDR5 training in START-UP sets HBM_OK and DDR_OK. -/
  | anchorageTrainingDone (hbm ddr : Bool)
  /-- TRAFFIC_READY (R561): Once clients are traffic-ready the device moves from START-UP to NORMAL. -/
  | trafficReady
  /-- SRSTN_ASSERT (R570): Assertion of SRSTn ends host and core transactions and cancels pending swaps and applies outside open domain commits. -/
  | srstnAssert (midBurst : List (Fin 10))
  /-- SRSTN_RELEASE (R571): Release of SRSTn runs BOOT without image selection and returns within 2 ms to the state held before. -/
  | srstnRelease (flash : BootFlash)
  /-- TICK_BOUNDARY (R22): At every boundary TICK_NO increments, keyed changes apply, the fabric moves berths and per-tick datapath work runs. -/
  | tickBoundary (obs : List TickObs)
  /-- FILL_LIMIT_END (R76): At the end of the first whole ROT block in replacement, the quay resumes mapping. -/
  | fillLimitEnd (t : Fin 4096)
  /-- D2D_TRANSFER (R13): A die-to-die transfer arrives, is CRC-checked and repeated as needed within its tick. -/
  | d2dTransfer (d : Fin 4) (how : TransferEnd)
  /-- D2D_DOWN (R15): After 16 ticks without a correct transfer the line die's engines are treated as failed. -/
  | d2dDown (d : Fin 4)
  /-- D2D_RETRAIN (R15): A down die-to-die link is retrained every 1,024 ticks. -/
  | d2dRetrain (d : Fin 4)
  /-- D2D_RESTORE (R15): After 312,500 good ticks the engines of the line die start acquisition again. -/
  | d2dRestore (d : Fin 4)
  /-- LOOP_FREEZE_WRITE (R39): A write to SY_LOOP_FREEZE freezes or releases loops at the next boundary. -/
  | loopFreezeWrite (m : Initiator) (v : Word)
  /-- AVS_UPDATE (R38): An AVS loop update every 1,024 ticks moves a rail by at most one step over PMBus. -/
  | avsUpdate (rail : Rail) (r : AvsReading)
  /-- POOL_FREQ_DECISION (R279): Every 16 ticks the pool frequency loop raises, lowers or keeps f from temperature, power and load. -/
  | poolFreqDecision (r : PoolReading)
  /-- LANE_ADAPT (R130): Each tick the lane receive equalizers and PAM4 slicers adapt. -/
  | laneAdapt (l : Fin 128) (eq : RxCoef)
  /-- LANE_EQ_RESET (R131): A lane whose error estimate exceeds the divergence threshold for 64 ticks reloads its coefficients. -/
  | laneEqReset (l : Fin 128) (ticks : Nat)
  /-- BERTH_POINTER_WORD (R63): An interpreter classifies a received berth's pointer word and updates its NORM, AIS or LOP state. -/
  | berthPointerWord (p : Fin 23040) (word : BitVec 16) (label : Fin 16) (bbip : Nat) (drift : Int) (centre : Fin 1008)
  /-- TRAIN_SEQ_LOSS (R82): The train monitor raises or clears SEQ_LOSS after its counts of SEQL or ROT block checks. -/
  | trainSeqLoss (t : Fin 4096) (seen : SeqSight)
  /-- TRAIN_MIS (R82): The train monitor raises or clears MIS after 2 ROT blocks with wrong or matching TID, K or CI. -/
  | trainMis (t : Fin 4096) (matching : Bool) (blocks : Nat)
  /-- TRAIN_SKEW (R82): The train monitor raises or clears SKEW after 3 ticks of spread beyond or within 504 nibbles. -/
  | trainSkew (t : Fin 4096) (spread ticks : Nat)
  /-- TRAIN_AIS (R82): The train monitor raises or clears the AIS defect after 2 ticks, triggering sink replacement. -/
  | trainAis (t : Fin 4096) (present : Bool) (ticks : Nat)
  /-- TRAIN_RDI (R82): The train monitor raises or clears RDI after 3 consecutive ticks. -/
  | trainRdi (t : Fin 4096) (present : Bool) (ticks : Nat)
  /-- TRAIN_CSF (R82): The train monitor raises CSF from a ROT block or clears it after a clean 16-tick period. -/
  | trainCsf (t : Fin 4096) (present : Bool) (validBlocks ticks : Nat)
  /-- MANIFEST_SHADOW_WRITE (R99): A write to the shadow manifest window is performed, or refused with an error while the bank is locked. -/
  | manifestShadowWrite (m : Initiator) (p : Fin 23040) (v : Word)
  /-- PREPARE (R110): PREPARE locks, validates and places the shadow bank without a switch. -/
  | prepare (m : Initiator)
  /-- ARM (R111): ARM checks the lead, prepares if needed and arms a swap at GRID_SWAP_AT. -/
  | arm (m : Initiator)
  /-- CANCEL (R110): CANCEL discards an armed or prepared computation and unlocks the shadow bank. -/
  | cancel (m : Initiator)
  /-- STOWAGE_COMPLETE (R113): The stowage computation completes the pending copy and the swap state becomes READY. -/
  | stowageComplete (r : StowResult)
  /-- SWAP_SWITCH (R113): At clock 5,136 of tick N−1 the check runs and at 5,167 the live bank and control memories switch. -/
  | swapSwitch
  /-- SWAP_STAGING_END (R102): Two ticks after the switch the swap state returns to IDLE and the shadow bank unlocks. -/
  | swapStagingEnd
  /-- REPACK (R105): REPACK starts a full recompute of the live bank, or is rejected while a swap is pending or stowage is frozen. -/
  | repack (m : Initiator)
  /-- REPACK_SWITCH (R105): A completed repack switches at the next possible boundary and sets REPACK_DONE. -/
  | repackSwitch
  /-- LANE_LOS (R126): A lane whose input stays below the LOS level for 32 ticks enters LOS. -/
  | laneLos (l : Fin 128) (ticks : Nat)
  /-- LANE_SIG_OK (R126): A lane whose input stays above the deassert level for 3,125 ticks leaves LOS to TRAIN or ACQUIRE. -/
  | laneSigOk (l : Fin 128) (ticks : Nat)
  /-- LANE_ACQUIRED (R126): A lane with CDR lock and low error for 64 ticks moves from ACQUIRE to DATA or PRESET. -/
  | laneAcquired (l : Fin 128) (ticks : Nat)
  /-- LANE_ACQUIRE_TIMEOUT (R127): ACQUIRE without DATA within 100 ms raises LOL and restarts acquisition. -/
  | laneAcquireTimeout (l : Fin 128)
  /-- LANE_CDR_LOSS (R127): Loss of CDR lock in DATA or PRESET raises LOL and returns the lane to ACQUIRE. -/
  | laneCdrLoss (l : Fin 128)
  /-- TRAIN_DONE (R134): A training attempt completes and the lane enters DATA at the next boundary. -/
  | trainDone (l : Fin 128) (ffe0 ffe1 : Word) (txPrecode : Bool)
  /-- TRAIN_ATTEMPT_END (R135): A training attempt times out or ends silent after 500 ms and the next attempt starts. -/
  | trainAttemptEnd (l : Fin 128) (frames : Bool)
  /-- BACKOFF_RETRY (R135): The back-off wait W expires and one more training attempt starts. -/
  | backoffRetry (l : Fin 128)
  /-- TRAINING_RESTART (R136): A write of LN_TRAIN_CTRL.RESTART ends training state, clears ATTEMPTS and W and starts a new attempt. -/
  | trainingRestart (m : Initiator)
  /-- BACKOFF_DIS_WRITE (R135): Setting BACKOFF_DIS stops back-off retries; clearing it resumes them. -/
  | backoffDisWrite (m : Initiator) (on : Bool)
  /-- LOOPBACK_SET (R144): A write of LN_LOOP.MODE 1 to 3 enables a loopback at the next boundary, ending any training attempt. -/
  | loopbackSet (m : Initiator) (mode : Fin 4) (squelch : Bool)
  /-- LOOPBACK_RELEASE (R138): A write of MODE 0 releases the loopback and starts a new training attempt. -/
  | loopbackRelease (m : Initiator)
  /-- PAT_SYNC (R141): The pattern checker declares sync after 256 error-free bits. -/
  | patSync (l : Fin 128) (bits : Nat) (inverted : Bool)
  /-- PAT_SYNC_LOSS (R141): The checker loses sync at 32 errors in 256 bits and searches again. -/
  | patSyncLoss (l : Fin 128) (errors : Nat)
  /-- PAT_CHK_CLR (R141): LN_PAT_CHK.CLR clears LN_ERR and LN_BITS at the next boundary. -/
  | patChkClr (m : Initiator)
  /-- INJECT_SINGLE (R142): A write of LN_INJ.SINGLE inverts one transmitted bit in the tick after the next boundary. -/
  | injectSingle (m : Initiator)
  /-- INJECT_BURST (R142): A write of LN_INJ.BURST inverts BLEN + 1 consecutive bits. -/
  | injectBurst (m : Initiator) (blen : Fin 256)
  /-- TX_FAULT (R146): The transmitter monitor reports a shorted or open output and the lane holds electrical idle. -/
  | txFault (l : Fin 128)
  /-- CLIENT_SIGNAL_FAIL (R176): A client's ingress enters client signal fail when any of its conditions holds. -/
  | clientSignalFail (q : Fin 64) (slot : Fin 2) (cond : ClientCond)
  /-- CLIENT_SIGNAL_FAIL_CLEAR (R176): After 3,125 ticks free of every condition the client leaves signal fail and mapping resumes. -/
  | clientSignalFailClear (q : Fin 64) (slot : Fin 2) (odu : Option (Fin 4096)) (ticks : Nat)
  /-- CLIENT_FRAME_INGRESS (R158): An Ethernet frame in IDLE mapping is transcoded into the ingress FIFO. -/
  | clientFrameIngress (q : Fin 64) (slot : Fin 2) (blocks : Nat)
  /-- PTP_EVENT_MESSAGE (R173): A recognized PTP message is timestamped, corrected or extracted per its mode. -/
  | ptpEventMessage (q : Fin 64) (slot : Fin 2) (egress : Bool) (frame : List Byte) (crossing : Stamp)
  /-- QY_IDATA_WRITE (R174): A write to the insertion port queues a frame once its last word arrives, or discards a bad one. -/
  | qyIdataWrite (m : Initiator) (v : Word)
  /-- PTP_FRAME_INSERT (R174): A queued frame is inserted at the first gap between client frames and its timestamp pushed to the FIFO. -/
  | ptpFrameInsert (q : Fin 64) (crossing : Stamp)
  /-- QY_XDATA_READ (R174): A read of QY_XDATA returns and removes the next extraction word. -/
  | qyXdataRead (m : Initiator)
  /-- QY_TSF0_READ (R175): A read of QY_TSF0 pops the oldest timestamp entry and latches it into QY_TSF1 to QY_TSF3. -/
  | qyTsf0Read (m : Initiator)
  /-- FRAME_DELIVERED (R193): A decoded native frame is delivered and its overhead fields are acted on. -/
  | frameDelivered (u : RxUnit) (oh : Overhead) (sbip : Fin 17) (ucw : List Nat) (enc : EncArea)
  /-- IN_FRAME (R210): A confirmed FAS candidate declares in-frame at its next frame position. -/
  | inFrame (u : RxUnit) (pos : Nat)
  /-- OOF (R211): The fifth consecutive errored FAS declares out-of-frame. -/
  | oof (u : RxUnit)
  /-- LOF (R213): OOF for 938 ticks declares LOF, and IF for 938 ticks clears it. -/
  | lof (u : RxUnit)
  /-- LOM (R215): Five out-of-order frames raise LOM, two valid incrementing FNOs clear it. -/
  | lom (u : RxUnit)
  /-- FNO_JUMP (R215): Two valid incrementing FNOs different from the expected value reload E and raise FNO_JUMP. -/
  | fnoJump (u : RxUnit)
  /-- BDI_RX (R199): A new BDI value carried in 3 consecutive frames is accepted. -/
  | bdiRx (u : RxUnit)
  /-- FMT_MIS (R200): RSTEP or CPAIR mismatch in 3 frames raises FMT_MIS, 3 matching frames clear it. -/
  | fmtMis (u : RxUnit)
  /-- MID_MIS (R202): 16 frames with a different MID raise MID_MIS, 3 matching frames clear it. -/
  | midMis (u : RxUnit)
  /-- LAPS_ACCEPT (R203): A LAPS value carried in 3 consecutive frames is accepted and handed to the PM block. -/
  | lapsAccept (u : RxUnit)
  /-- TAPS_ACCEPT (R203): A TAPS channel value carried in 3 consecutive appearances is accepted. -/
  | tapsAccept (u : RxUnit) (ch : Fin 2048)
  /-- TT_LOAD (R206): At TICK_NO[7:0] = 128 the engine loads new time-transfer content for 256 frames. -/
  | ttLoad (u : RxUnit) (dep : Stamp) (arrival : Option (Nat × Stamp))
  /-- TT_ACCEPT (R206): TT content passing TTCRC in 3 frames is accepted and a time exchange computed. -/
  | ttAccept (u : RxUnit)
  /-- GCC_FRAME_RECEIVE (R209): A complete GCC frame with valid FCS is stored in the receive buffer. -/
  | gccFrameReceive (e : Fin 8) (ch : Fin 2) (octets : List Byte) (how : GccEnd)
  /-- LF_GCC_TXD_WRITE (R209): A write to a GCC transmit port queues a frame once its last word is written. -/
  | lfGccTxdWrite (m : Initiator) (ch : Fin 2) (v : Word)
  /-- LF_GCC_RXD_READ (R209): A read of a GCC receive port returns and removes the next word. -/
  | lfGccRxdRead (m : Initiator) (ch : Fin 2)
  /-- SECOND_END (R222): At the end of each second the PM classification of every section is computed. -/
  | secondEnd
  /-- LE_PSTATE_WRITE (R245): A write to LE_CTRL.PSTATE requests a power state, darkening first if needed. -/
  | lePstateWrite (m : Initiator) (p : Fin 4)
  /-- POWER_STATE_REACHED (R245): An engine completes its transition to IDLE or ON. -/
  | powerStateReached (e : Fin 8)
  /-- CONV_FAULT (R245): Converter calibration fails; a receive fault acts as LOS, a transmit fault as a driver fault. -/
  | convFault (e : Fin 8) (receive : Bool)
  /-- TX_EN_WRITE (R247): A write to LE_CTRL.TX_EN changes the transmit request and starts a ramp. -/
  | txEnWrite (m : Initiator) (on : Bool)
  /-- LASER_EN_WRITE (R252): A write to LASER_EN ramps RMP_OUT's laser level with T_LASER. -/
  | laserEnWrite (m : Initiator) (on : Bool)
  /-- LE_DRV_WRITE (R250): A change of LE_DRV.ATTEN ramps the swing to the new value once LIT. -/
  | leDrvWrite (m : Initiator) (v : Word)
  /-- RAMP_DONE (R248): A driver or laser ramp ends and the transmitter moves to LIT or READY. -/
  | rampDone (e : Fin 8)
  /-- DRV_FAULT (R251): A driver fault sets all drivers and RMP_OUT off within 100 ns and holds them. -/
  | drvFault (e : Fin 8)
  /-- ENGINE_LOS (R255): Received power below ASSERT for 8 ticks puts the receive side in LOS. -/
  | engineLos (e : Fin 8) (ticks : Nat)
  /-- ENGINE_SIG_OK (R255): Power at or above DEASSERT for 32 ticks leaves LOS to FREQ or EQ. -/
  | engineSigOk (e : Fin 8) (ticks : Nat)
  /-- FREQ_LOCK (R255): Coarse frequency offset lock moves acquisition to CD. -/
  | freqLock (e : Fin 8) (fofs : Int)
  /-- CD_LOCK (R256): Dispersion lock moves acquisition to EQ. -/
  | cdLock (e : Fin 8) (cd : Int)
  /-- CD_HINT_MISS (R256): A hint-window CD search ends without lock and the full range is searched. -/
  | cdHintMiss (e : Fin 8)
  /-- LOCK (R255): Clock, MIMO and carrier lock bring the receive side to LOCKED. -/
  | lock (e : Fin 8)
  /-- ACQ_FAIL (R257): 250 ms without LOCKED raises ACQ_FAIL and restarts at FREQ. -/
  | acqFail (e : Fin 8)
  /-- ACQ_RESTART (R257): LE_CTRL.ACQ_RESTART restarts acquisition at FREQ at the next boundary. -/
  | acqRestart (m : Initiator)
  /-- ENGINE_LOL (R258): Pilot error or MIMO divergence for 3 ticks raises LOL and starts fast re-acquisition. -/
  | engineLol (e : Fin 8) (ticks : Nat)
  /-- FAST_REACQ_TIMEOUT (R258): EQ without lock within 5 ms of fast re-acquisition goes to FREQ with the full CD range. -/
  | fastReacqTimeout (e : Fin 8)
  /-- DESKEW_LOSS (R264): Pair skew over 2 µs in 3 frames loses deskew and puts the pair in SSF. -/
  | deskewLoss (d : Fin 4) (skew : Int) (frames : Nat)
  /-- DESKEW_REGAINED (R264): Pair skew within 1.9 µs in 3 frames regains deskew. -/
  | deskewRegained (d : Fin 4) (skew : Int) (frames : Nat)
  /-- SPI_GO (R267): LE_SPI_CTRL.GO starts an optics SPI transfer, or raises SPI_ERR while busy. -/
  | spiGo (m : Initiator) (v : Word)
  /-- SPI_DONE (R267): An SPI transfer completes, captures the received bits and clears BUSY. -/
  | spiDone (e : Fin 8) (received : BitVec 64)
  /-- BASE_DECODE (R273): In tick a+1 the base decoders run up to 8 iterations on every codeword. -/
  | baseDecode (cws : List Codeword)
  /-- POOL_DECODE (R276): In tick a+2 the pool ranks unconverged candidates and serves them within its budget. -/
  | poolDecode
  /-- CODEWORD_DELIVERY (R272): At the boundary of tick a+3 each codeword's result is delivered to merge, readers, stores and counters. -/
  | codewordDelivery
  /-- KEY_LOAD (R291): SEC_KCMD LOAD starts unwrapping the master's blob into the selected key phase. -/
  | keyLoad (m : Initiator) (phase : Fin 2)
  /-- KEY_UNWRAP_DONE (R291): The unwrap completes within 2 µs and reports DONE, UNWRAP_FAIL, NO_DK or IN_USE. -/
  | keyUnwrapDone (m : Initiator) (intact : Bool)
  /-- KEY_CHANGE (R293): SEC_KCMD CHANGE requests a transmit context state change at block boundary B. -/
  | keyChange (m : Initiator) (target : Fin 4)
  /-- ZEROIZE (R292): ZEROIZE empties one key phase of the selected context unless in use. -/
  | zeroize (m : Initiator) (phase : Fin 2)
  /-- ZEROIZE_ALL (R292): ZEROIZE_ALL empties every key of the engine and direction and sets every context CLEAR at once. -/
  | zeroizeAll (m : Initiator)
  /-- ENC_BLOCK_BOUNDARY (R294): At each 64-frame block boundary contexts apply their new state and receive contexts their accepted state. -/
  | encBlockBoundary (e : Fin 8) (receive : Bool)
  /-- AIS_WINDOW_END (R299): An AIS window ends after 64 frames unless latched. -/
  | aisWindowEnd (e : Fin 8) (ctx : Fin 1280)
  /-- CLR_LATCH (R299): SEC_ECTRL.CLR_LATCH ends every latched window of the engine at the next boundary. -/
  | clrLatch (m : Initiator)
  /-- TD_DS_WRITE (R312): A write to TD_DS.LIT ramps a downstream subcarrier up or down. -/
  | tdDsWrite (m : Initiator) (lit : Fin 65536)
  /-- TD_GS_BANK_WRITE (R318): A write of TD_GS_CTRL.BANK requests a schedule bank change. -/
  | tdGsBankWrite (m : Initiator) (bank : Fin 2)
  /-- GRANT_BANK_SWITCH (R318): The requested bank takes effect at the first cycle start after T + LEAD + 8. -/
  | grantBankSwitch (e : Fin 8)
  /-- BURST_POWER_DETECT (R325): A burst receiver declares power present above P_T for 64 symbols. -/
  | burstPowerDetect (e : Fin 8) (sc : Fin 16) (power symbols : Nat)
  /-- SYNC_ACCEPT (R326): The receiver accepts the first position whose sync word is within tolerance E. -/
  | syncAccept (e : Fin 8) (sc : Fin 16) (sym errors : Nat)
  /-- BURST_HEADER (R327): At the end of the header the burst is judged and accepted or dropped. -/
  | burstHeader (e : Fin 8) (sc : Fin 16) (header : Option BurstHeader) (power : Nat)
  /-- SYNC_MISS (R328): No sync accepted by 2,368 + TOL symbols after the power rise declares SYNC_MISS. -/
  | syncMiss (e : Fin 8) (sc : Fin 16) (symbols : Nat)
  /-- BURST_POWER_RISE (R329): A 3 dB power rise during a burst is judged as capture or collision. -/
  | burstPowerRise (e : Fin 8) (sc : Fin 16) (rise span : Nat) (margin : Int)
  /-- CRATE_TICK_ARRIVAL (R331): A decoded crate-tick enters the reassembly buffer, or is discarded as LATE or DUP. -/
  | crateTickArrival (e : Fin 8) (leaf : Fin 256) (ct : CrateTick)
  /-- LEAF_LOST (R333): A leaf is LOST after 8 granted windows without an accepted burst. -/
  | leafLost (e : Fin 8) (leaf : Fin 256)
  /-- TIDE_THR_UPDATE (R330): Every 256 ticks the sync tolerance E is lowered or raised from FALSE_SYNC and SYNC_MISS counts. -/
  | tideThrUpdate (e : Fin 8)
  /-- MERGE_KEY_DECISION (R342): A merge group chooses the timing instance and output boundary of the next key. -/
  | mergeKeyDecision (g : Fin 2048)
  /-- MERGE_DHELD_LOAD (R343): After 16 keys with one other D, the group loads it into D_H. -/
  | mergeDheldLoad (g : Fin 2048)
  /-- MERGE_LATE_EARLY (R344): An instance unusable for 3 keys becomes LATE or EARLY, and clears after 3 usable keys. -/
  | mergeLateEarly (g : Fin 2048)
  /-- MERGE_DOWN (R345): No instance valid for 64 ticks puts the group in DOWN. -/
  | mergeDown (g : Fin 2048)
  /-- MERGE_WAIT_EXPIRY (R345): R ticks in WAIT with one valid instance moves the group to SINGLE. -/
  | mergeWaitExpiry (g : Fin 2048)
  /-- MERGE_ALIGNED (R345): Both instances delivering within R, or 3 usable keys in SINGLE, bring the group to ALIGNED. -/
  | mergeAligned (g : Fin 2048)
  /-- MG_REALIGN (R346): MG_CTRL.REALIGN makes a group outside DOWN realign through WAIT. -/
  | mgRealign (m : Initiator)
  /-- REALIGN_NO_USABLE (R346): No usable instance for 16 ticks while one is LATE or EARLY forces realignment. -/
  | realignNoUsable (g : Fin 2048)
  /-- REALIGN_AUTO (R346): With AUTO, one instance LATE or EARLY for 1 s forces realignment. -/
  | realignAuto (g : Fin 2048)
  /-- HOLDOFF_EXPIRY (R356): SF or SD held for the hold-off time becomes a local request. -/
  | holdoffExpiry (g : Fin 2048)
  /-- WTR_EXPIRY (R358): The wait-to-restore timer expires and the selector returns to A. -/
  | wtrExpiry (g : Fin 2048)
  /-- MG_CMD_LO (R357): MG_CTRL.CMD = 1 requests lockout of protection. -/
  | mgCmdLo (m : Initiator)
  /-- MG_CMD_FS (R357): MG_CTRL.CMD = 2 requests a forced switch to B. -/
  | mgCmdFs (m : Initiator)
  /-- MG_CMD_MS_A (R357): MG_CTRL.CMD = 3 requests a manual switch to A. -/
  | mgCmdMsA (m : Initiator)
  /-- MG_CMD_MS_B (R357): MG_CTRL.CMD = 4 requests a manual switch to B. -/
  | mgCmdMsB (m : Initiator)
  /-- MG_CMD_CLEAR (R358): MG_CTRL.CMD = 0 ends the command request. -/
  | mgCmdClear (m : Initiator)
  /-- REF_LOS (R367): A timing reference without edges for 4 periods enters LOS and is disqualified. -/
  | refLos (r : Fin 9)
  /-- REF_FREQ_WINDOW (R367): Each 1 s window measures a reference's offset and disqualifies it beyond FMAX. -/
  | refFreqWindow (r : Fin 9) (offset : Int)
  /-- REF_QUALIFY (R367): A reference is qualified again after WTR seconds without LOS or offset. -/
  | refQualify (r : Fin 9)
  /-- DPLL_LOCKED (R372): Phase error below 100 ns for 10 s makes a frequency DPLL LOCKED. -/
  | dpllLocked (output : Bool) (ticks : Nat)
  /-- TIME_DECISION (R379): Every 256 ticks the time DPLL selects its source and removes its offset. -/
  | timeDecision (offsets : List (Fin 13 × Int)) (rate : Int)
  /-- TIME_LOCKED (R378): Filtered offset within ±50 ns for 10 s makes the time DPLL LOCKED. -/
  | timeLocked
  /-- TICK_IN_EDGE (R376): A TICK_IN rising edge steers boundary phase by slewing. -/
  | tickInEdge (phase : Int)
  /-- PPS_EDGE (R381): A 1PPS_IN edge is stamped and gives the input's offset. -/
  | ppsEdge (i : Fin 2) (stamp : Stamp)
  /-- PPS_MISS (R381): Two seconds without an edge disqualify the 1PPS input. -/
  | ppsMiss (i : Fin 2)
  /-- TOD_MESSAGE (R382): A TOD_RX message is accepted if its CRC and timing pass. -/
  | todMessage (bytes : List Byte)
  /-- TOD_TX_SEND (R394): 100 ms after each edge the TOD_TX message for the next edge starts. -/
  | todTxSend
  /-- PPS_OUT_EDGE (R394): 1PPS_OUT rises at each whole second of the time counter. -/
  | ppsOutEdge
  /-- ASYM_LEARNED (R388): After 1,000 s of learning the asymmetry becomes LEARNED. -/
  | asymLearned (e : Fin 8)
  /-- TS_LEARN (R388): TM_TS_CFG.LEARN discards the learned asymmetry and restarts learning. -/
  | tsLearn (m : Initiator)
  /-- SW_OFS_WRITE (R380): A write of TM_SW_OFS is one measurement of the software time source. -/
  | swOfsWrite (m : Initiator) (v : Word)
  /-- SW_SOURCE_TIMEOUT (R379): The software source is disqualified after 4 s without a write. -/
  | swSourceTimeout
  /-- INVAR_LEARNED (R391): After 24 h of LOCKED time the Invar model becomes LEARNED. -/
  | invarLearned
  /-- INVAR_RESET_MODEL (R391): TM_INV_CTRL.RESET_MODEL discards the Invar model. -/
  | invarResetModel (m : Initiator)
  /-- INV_TEMP_STALE (R391): A software temperature older than 2 s is replaced by the die sensors. -/
  | invTempStale
  /-- SOP_TRANSIENT (R403): After HOLD ticks below THR, or on LOL or LOS, the transient ends and is recorded. -/
  | sopTransient (e : Fin 8)
  /-- CAP_ARM (R406): CAP_CTRL.ARM arms capture if the slot size and bandwidth fit. -/
  | capArm (m : Initiator)
  /-- CAP_DISARM (R409): CAP_CTRL.DISARM closes the open slot with CUT and disarms. -/
  | capDisarm (m : Initiator)
  /-- CAP_TRIG (R407): CAP_CTRL.TRIG triggers a capture at the next boundary. -/
  | capTrig (m : Initiator)
  /-- CAP_RELEASE (R405): CAP_CTRL.RELEASE frees the oldest DONE slot. -/
  | capRelease (m : Initiator)
  /-- CAP_SCHEDULE_TRIGGER (R407): A boundary on the schedule exponent triggers a capture. -/
  | capScheduleTrigger (e : Fin 8)
  /-- CAPTURE_CLOSE (R408): At t_T + POST the slot closes, CAP_DONE is set and history restarts in the next slot. -/
  | captureClose (e : Fin 8) (samples first : Nat)
  /-- SURVEY_STEP_END (R414): At the end of each survey step a 128-byte record is appended. -/
  | surveyStepEnd (e : Fin 8) (r : SurveyResult)
  /-- MATE_FRAME_RECEIVE (R420): A mate-link tick frame is received with marker, checksums, decisions and journal. -/
  | mateFrameReceive (f : MateFrame)
  /-- MATE_LINK_UP (R419): 64 ticks with a valid marker declare the mate link up. -/
  | mateLinkUp
  /-- MATE_LINK_DOWN (R419): 4 ticks with an invalid marker declare the mate link down. -/
  | mateLinkDown
  /-- BOLLARD_LINE_CHANGE (R421): 4 intact or missed beats declare the bollard line up or down. -/
  | bollardLineChange
  /-- BEAT_SEND (R423): Every 8 ticks the device sends a beat on both paths and toggles ACT_STATE when ACTIVE. -/
  | beatSend
  /-- BEAT_RECEIVE (R423): A good beat from the mate is received and acted on. -/
  | beatReceive (path : MatePath) (beat : MateBeat) (intact : Bool)
  /-- BEAT_MISS (R423): A beat not arrived by X + 2 is declared missed on its path. -/
  | beatMiss (path : MatePath)
  /-- MATE_PRES_EDGE (R424): An edge arrives on MATE_PRES and it counts as alive. -/
  | matePresEdge
  /-- MATE_PRES_TIMEOUT (R424): No MATE_PRES edge for 24 ticks makes it not alive. -/
  | matePresTimeout
  /-- MATE_BOOT_DECISION (R426): After the 20 ms boot listen the device decides its mate state. -/
  | mateBootDecision
  /-- TAKEOVER (R441): At D + 1 the new active enters ACTIVE, releases the mate hold and ramps its engines. -/
  | takeover
  /-- ACT_GRANT_CHANGE (R445): A change of ACT_GRANT is sampled and acted on by mate state. -/
  | actGrantChange (high : Bool)
  /-- EFFECTIVE_GRANT (R427): ACT_GRANT high at 2 boundaries takes an ISOLATED or NOT_READY device to ACTIVE. -/
  | effectiveGrant
  /-- SW_GRANT (R427): MT_CTRL.SW_GRANT grants ACTIVE in NOT_READY with ARB = 0. -/
  | swGrant (m : Initiator) (v : Word)
  /-- RESYNC (R436): MT_CTRL.RESYNC clears IN_STEP and starts COPY on the standby. -/
  | resync (m : Initiator) (v : Word)
  /-- SWITCHOVER (R448): MT_CTRL.SWITCHOVER hands the active role to an in-step standby. -/
  | switchover (m : Initiator) (v : Word)
  /-- JOURNAL_APPLY (R432): The standby applies journal entries in order at their APPLY boundaries. -/
  | journalApply (capture : Option MateCapture)
  /-- MATE_COMPARE (R435): At t + 3 the device compares the checksums of tick t as MATCH, EXCUSED or MISMATCH. -/
  | mateCompare (differ : List (Fin 72 × Bool)) (mateNormal : Bool)
  /-- GRACE_EXPIRY (R436): Mate link or both paths down beyond GRACE seconds loses IN_STEP. -/
  | graceExpiry
  /-- EPOCH_APPLY (R437): At the end of an epoch the standby applies it if complete. -/
  | epochApply (complete : Bool) (items : List (EpochItem × Bool))
  /-- MOORING_FRAME_RECEIVE (R461): A mooring port's tick frame is decoded with lane rebuild and its overhead read. -/
  | mooringFrameReceive (port : Fin 4) (f : MooringFrame)
  /-- LANE_RESTORED (R462): A lost lane good for 3,125 ticks is restored. -/
  | laneRestored (port : Fin 4) (lane : Fin 9)
  /-- HR_RETIRE_WRITE (R465): A write of HR_PORT_CFG.RETIRE retires one receive lane, or is refused. -/
  | hrRetireWrite (m : Initiator) (v : Word)
  /-- RMAP_ACCEPT (R465): A far RMAP carried in 3 frames is accepted and that transmit lane idled or restored. -/
  | rmapAccept (port : Fin 4)
  /-- DOMAIN_MIS (R466): 16 frames of another domain make the port foreign; 16 matching frames end it. -/
  | domainMis (port : Fin 4)
  /-- TIMING_PORT_SWITCH (R467): A worker changes its timing port on SSF or a better hop count held for 1 s. -/
  | timingPortSwitch
  /-- WORKER_TICK_SET (R470): A worker in START-UP sets TICK_NO once a timing port exists. -/
  | workerTickSet
  /-- WORKER_TICK_MISMATCH (R470): A worker's TICK_NO differing from TNO in 16 frames raises TICK_MISMATCH. -/
  | workerTickMismatch
  /-- HELLO_SEND (R473): Every 256 ticks each member sends a HELLO on every enabled port. -/
  | helloSend
  /-- HELLO_RECEIVE (R473): A received HELLO updates the route table. -/
  | helloReceive (port : Fin 4) (hello : Hello)
  /-- ROUTE_EXPIRY (R473): A route expires after 4 HELLO periods without a HELLO. -/
  | routeExpiry (port : Fin 4)
  /-- CC_PACKET_RECEIVE (R474): A control-channel packet is delivered, forwarded, flooded or discarded. -/
  | ccPacketReceive (port : Fin 4) (packet : CcPacket) (fcsOk : Bool)
  /-- HR_CC_TXD_WRITE (R474): A write to HR_CC_TXD queues a user-data packet. -/
  | hrCcTxdWrite (m : Initiator) (v : Word)
  /-- HR_CC_RXD_READ (R474): A read of HR_CC_RXD returns and removes the next received word. -/
  | hrCcRxdRead (m : Initiator)
  /-- DC_START (R478): HR_DC_CMD.START begins a domain commit, or is refused BUSY, NOT_MGR or LATE. -/
  | dcStart (m : Initiator) (v : Word)
  /-- DC_ARM_RECEIVE (R477): A worker receiving ARM arms its part and replies ARMED or REFUSED. -/
  | dcArmReceive (change : Fin 4096) (commit : Bool) (n : Tick)
  /-- DC_REPLY_RECEIVE (R477): The manager records a member's ARMED, REFUSED, APPLIED or FAILED reply. -/
  | dcReplyReceive (member : Fin 16) (change : Fin 4096) (n : Tick) (reply : DomainReply)
  /-- DC_DECIDE (R477): At N − 16 − X the manager sends GO or ABORT. -/
  | dcDecide
  /-- DC_GO_RECEIVE (R477): A worker receives GO and will apply at N. -/
  | dcGoReceive (change : Fin 4096) (n : Tick)
  /-- DC_ABORT_RECEIVE (R477): A worker receiving ABORT cancels its armed part at once. -/
  | dcAbortReceive (change : Fin 4096) (n : Tick)
  /-- DC_HOLD (R477): A worker without GO at N − 8 cancels and does not apply. -/
  | dcHold
  /-- DC_CLOSE (R477): At D the manager closes the commit as DONE or sends ROLLBACK. -/
  | dcClose
  /-- DC_ROLLBACK_RECEIVE (R477): A member that applied schedules a return to its previous bank or image at N2. -/
  | dcRollbackReceive (change : Fin 4096) (n2 : Tick)
  /-- DC_ROLLBACK_APPLY (R477): At N2 the member returns to its previous bank or re-commits its previous image. -/
  | dcRollbackApply
  /-- SCRATCHPAD_ACCESS (R486): A scratchpad access is performed, with ECC, or collides with the other port. -/
  | scratchpadAccess (m : Initiator) (b : Burst)
  /-- ANCHORAGE_ACCESS (R499): A bus access to the Anchorage through the aperture or BAR2 is performed or refused. -/
  | anchorageAccess (m : Initiator) (bar2 : Bool) (b : Burst)
  /-- REPAIR_PROGRAM (R492): MM_REP_CTRL.PROGRAM starts a field column repair. -/
  | repairProgram (m : Initiator) (v : Word)
  /-- REPAIR_DONE (R492): Repair programming ends within 5 ms and reports its result. -/
  | repairDone (vfuse verified : Bool)
  /-- SCRUB_READ (R493): The scrub reads a word or block and corrects single-bit errors. -/
  | scrubRead (w : ScrubWord) (ecc : Ecc) (overwritten : Bool)
  /-- MARCH_REGION (R494): The test engine borrows a region, runs March C− and restores it. -/
  | marchRegion (page : Fin 2560) (ev : MarchEvent)
  /-- BORROW_TOUCH (R495): An access to a borrowed region stalls until the region is restored. -/
  | borrowTouch (user : Option Initiator) (b : Burst)
  /-- MARCH_RETRY (R495): A yielded region is retried 65,536 cycles later. -/
  | marchRetry (page : Fin 2560)
  /-- MM_NB_WRITE (R496): A NO_BORROW range write takes effect once any borrowed region inside is restored. -/
  | mmNbWrite (m : Initiator) (size : Bool) (v : Word)
  /-- DEFAULT_TARGET_ACCESS (R513): An access to no target, or a bad register access, receives the error response. -/
  | defaultTargetAccess (m : Initiator) (b : Burst)
  /-- BUS_TIMEOUT (R516): A beat not completed within BM_CFG.TIMEOUT ends with the error response. -/
  | busTimeout (m : Initiator) (write : Bool) (addr : Word)
  /-- BOOTSWAP (R518): SY_REMAP.BOOTSWAP maps working SRAM into the remappable slot. -/
  | bootswap (m : Initiator) (v : Word)
  /-- CORE_RUN_WRITE (R522): A write of SY_PC_CTRL.RUN starts a core at its vector next boundary or resets it. -/
  | coreRunWrite (m : Initiator) (v : Word) (midBurst : BitVec 4)
  /-- CORE_TIMER_COMPARE (R524): TICK_NO reaching SY_PC_TCMP makes MTIP pending. -/
  | coreTimerCompare (c : Fin 4)
  /-- APPLET_START (R526): SY_APPLET_CTRL.START runs an applet slot. -/
  | appletStart (m : Initiator) (v : Word)
  /-- APPLET_STOP (R526): SY_APPLET_CTRL.STOP returns an applet slot to LOADED. -/
  | appletStop (m : Initiator) (v : Word)
  /-- APPLET_FAULT (R526): An applet exception puts the slot in FAULT and raises APPLET_FAULT. -/
  | appletFault (slot : Fin 8) (mcause : Fin 32) (mepc : Word)
  /-- PCIE_REQUEST (R528): A memory request TLP is turned into bus transactions as master 0. -/
  | pcieRequest (write : Bool) (address : BitVec 64) (beats : List Beat) (x : Aside)
  /-- PCIE_RESET (R529): FLR, hot reset, link down or PE_PERSTn end master 0's transaction and clear the endpoint. -/
  | pcieReset (how : PcieReset) (midBurst : Bool)
  /-- LOCAL_BUS_ACCESS (R531): A local-bus access is performed as master 1 with WAIT, BUSY and ERR handshakes. -/
  | localBusAccess (write : Bool) (a : BitVec 24) (enables : BitVec 4) (data : Word) (ecc : Ecc) (portB : Option PortB) (x : Aside)
  /-- LB_PAGE_WRITE (R530): A write to word address 0xFF_FFFF sets LB_PAGE. -/
  | lbPageWrite (v : Word)
  /-- LOCAL_BUS_TIMEOUT (R531): An access unanswered by cycle 8,192 ends with LB_ERRn low. -/
  | localBusTimeout (write : Bool) (a : BitVec 24)
  /-- I2C_READ_ID (R532): I²C command 0x00 returns SY_ID and SY_STATE. -/
  | i2cReadId
  /-- I2C_READ_MODE (R532): I²C command 0x01 returns mode, mate state, role and ALARM_n. -/
  | i2cReadMode
  /-- I2C_READ_THERM (R532): I²C command 0x02 returns SY_THERM. -/
  | i2cReadTherm
  /-- I2C_READ_GROUPS (R532): I²C command 0x03 returns the pending event groups. -/
  | i2cReadGroups
  /-- I2C_MBX_WRITE (R532): I²C command 0x10 writes the inbound mailbox and raises MBX_IN, or is NAKed when full. -/
  | i2cMbxWrite (bytes : List Byte) (pecOk : Bool)
  /-- I2C_MBX_READ (R532): I²C command 0x11 reads the outbound mailbox and clears OUT_FULL. -/
  | i2cMbxRead
  /-- SY_MBX_DATA_READ (R532): A read of SY_MBX_DATA returns an inbound byte and advances PTR. -/
  | syMbxDataRead (m : Initiator)
  /-- SY_MBX_DATA_WRITE (R532): A write of SY_MBX_DATA stores an outbound byte and advances PTR. -/
  | syMbxDataWrite (m : Initiator) (v : Word)
  /-- QSPI_GO (R534): SY_QSPI_CMD.GO starts a flash command, or sets QSPI_ERR while busy. -/
  | qspiGo (m : Initiator) (v : Word)
  /-- QSPI_DONE (R534): A flash command completes and BUSY clears. -/
  | qspiDone (data : List Byte)
  /-- PMBUS_ALERT (R535): PMB_ALERTn low makes the master read and record both STATUS_WORDs. -/
  | pmbusAlert (core le : Byte)
  /-- UART_TX_WRITE (R536): A write to SY_UART queues a byte for transmission. -/
  | uartTxWrite (m : Initiator) (v : Word)
  /-- UART_RX_READ (R536): A read of SY_UART pops one received byte. -/
  | uartRxRead (m : Initiator)
  /-- UART_RX_BYTE (R536): A byte arriving on UART_RX enters the receive FIFO. -/
  | uartRxByte (b : Byte)
  /-- DEBUG_UNLOCK (R554): SEC_DBG_CTRL.UNLOCK from machine mode opens the debug module. -/
  | debugUnlock (m : Initiator) (v : Word)
  /-- IMG_APPLY (R565): SY_IMG_CMD APPLY copies, checks and prepares an image. -/
  | imgApply (m : Initiator) (v : Word) (image : Image)
  /-- APPLY_DONE (R565): An apply ends in APPLIED, or fails INVALID, SIG_FAIL or PLACE. -/
  | applyDone
  /-- IMG_COMMIT (R566): SY_IMG_CMD COMMIT arms the applied image at SY_IMG_AT. -/
  | imgCommit (m : Initiator) (v : Word)
  /-- IMAGE_COMMIT_BOUNDARY (R566): At N the image takes effect with its swap, REGINIT, keys and change classes. -/
  | imageCommitBoundary
  /-- IMG_ABORT (R565): SY_IMG_CMD ABORT discards the applied image and prepared bank. -/
  | imgAbort (m : Initiator) (v : Word)
  /-- IMG_PERSIST (R565): SY_IMG_CMD PERSIST writes a commit record naming a checked slot. -/
  | imgPersist (m : Initiator) (v : Word) (image : Image)
  /-- IMG_REVERT (R565): SY_IMG_CMD REVERT applies the PREVIOUS image. -/
  | imgRevert (m : Initiator) (v : Word)
  /-- RECORD_WRITE_DONE (R567): The commit record write completes or fails REC_FAIL. -/
  | recordWriteDone (copy0 copy1 : Option CommitRecord) (verified : Bool)
  /-- FUSE_PROGRAM (R552): SEC_FUSE_CMD.GO programs a fuse, or is refused. -/
  | fuseProgram (m : Initiator) (v : Word)
  /-- FUSE_DONE (R552): Fuse programming ends within 10 ms, reports its result and raises FUSE. -/
  | fuseDone (how : FuseEnd)
  /-- BLOCK_RESET (R572): SY_BLKRST.GO resets one resource at the next boundary. -/
  | blockReset (m : Initiator) (v : Word)
  /-- BLOCK_RESET_RELEASE (R572): The resource is released at the following boundary as after a class T change. -/
  | blockResetRelease
  /-- SENSOR_FAIL (R626): A temperature sensor stops answering and THERM_ALARM is raised. -/
  | sensorFail
  /-- THERMAL_SHUTDOWN (R628): 130 °C for 16 ticks or 135 °C darkens the engines and enters an internal reset. -/
  | thermalShutdown
  /-- THERMAL_RESET_RELEASE (R628): With every sensor below 110 °C for 1 s the reset releases and the device boots. -/
  | thermalResetRelease (straps : Straps) (xo : Option (Fin 5))
  /-- BIST_GO (R629): TS_BIST_CTRL.GO runs the destructive SRAM test in TEST state. -/
  | bistGo (m : Initiator) (v : Word)
  /-- BIST_ABORT (R629): TS_BIST_CTRL.ABORT stops the test and zeroes the memories. -/
  | bistAbort (m : Initiator) (v : Word)
  /-- BIST_DONE (R629): The test ends, memories are zeroed and BIST_DONE set. -/
  | bistDone (fail : Option (Fin 4096 × Fin 1024))
  /-- LOG_RECORD_WRITE (R580): The logger writes the next queued record into the ring. -/
  | logRecordWrite
  /-- LOG_SUMMARY_WRITE (R582): With the queue empty and room free, a summary record empties one coalescing slot. -/
  | logSummaryWrite
  /-- EV_LOG_RD_WRITE (R581): A write of EV_LOG_RD frees ring entries. -/
  | evLogRdWrite (m : Initiator) (v : Word)
  /-- PC_EVSEL_WRITE (R585): A write of PC_EVSEL changes a counter's event from the next cycle. -/
  | pcEvselWrite (m : Initiator) (i : Fin 64) (v : Word)
  /-- PC_OVERFLOW (R586): A counter wraps and sets its OVF bit and optionally PC_STICKY.OVF. -/
  | pcOverflow (i : Fin 64) (n : Nat)
  /-- DUMP_RING_DUE (R589): A boundary on a ring's divider captures a snapshot for the dump engine. -/
  | dumpRingDue
  /-- DUMP_ENTRY_WRITTEN (R593): The dump engine finishes writing an entry, advances WR and sets DUMP_DONE. -/
  | dumpEntryWritten (r : Fin 4)
  /-- DUMP_STOP (R593): PC_DUMP_CTRL.STOP stops the engine and clears every ring's EN. -/
  | dumpStop (m : Initiator) (midBurst : Bool)
  /-- DUMP_RING_ENABLE (R593): Setting PC_DUMP_CFG.EN restarts SEQ, WR and RD at 0. -/
  | dumpRingEnable (m : Initiator) (r : Fin 4) (v : Word)
  /-- PM_OFS_WRITE (R596): A write of PM_CFG.OFS closes the bin in progress as PARTIAL. -/
  | pmOfsWrite (m : Initiator) (v : Word)
  /-- SY_TICKNO_LO_READ (R31): A read of SY_TICKNO_LO latches TICK_NO[47:32] for the master. -/
  | syTicknoLoRead (m : Initiator)
  /-- TR_BIP_LO_READ (R85): A read of TR_BIP_LO latches the high half into TR_BIP_HI. -/
  | trBipLoRead (m : Initiator)
  /-- LN_ERR_LO_READ (R141): A read of LN_ERR_LO latches its high half. -/
  | lnErrLoRead (m : Initiator)
  /-- LN_BITS_LO_READ (R141): A read of LN_BITS_LO latches its high half. -/
  | lnBitsLoRead (m : Initiator)
  /-- QY_CNT_LO_READ (R181): A read of QY_CNT_LO latches the selected counter's high half. -/
  | qyCntLoRead (m : Initiator)
  /-- LF_FNO_LO_READ (R230): A read of LF_FNO_LO latches E[47:32]. -/
  | lfFnoLoRead (m : Initiator)
  /-- LF_PM_LO_READ (R230): A read of LF_PM_LO latches the selected PM counter's high half. -/
  | lfPmLoRead (m : Initiator)
  /-- FP_CNT_LO_READ (R304): A read of FP_CNT_LO latches the selected decoder counter's high half. -/
  | fpCntLoRead (m : Initiator)
  /-- TD_CNT_LO_READ (R338): A read of TD_CNT_LO latches the selected Tide counter's high half. -/
  | tdCntLoRead (m : Initiator)
  /-- MG_CNT_LO_READ (R363): A read of MG_CNT_LO latches the selected merge counter's high half. -/
  | mgCntLoRead (m : Initiator)
  /-- MT_CNT_LO_READ (R451): A read of MT_CNT_LO latches the selected mate counter's high half. -/
  | mtCntLoRead (m : Initiator)
  /-- HR_CNT_LO_READ (R482): A read of HR_CNT_LO latches the selected port counter's high half. -/
  | hrCntLoRead (m : Initiator)
  /-- GRID_SWAP_DONE_LO_READ (R119): A read of GRID_SWAP_DONE_LO latches DONE_HI for the master. -/
  | gridSwapDoneLoRead (m : Initiator)
  /-- MM_ECC_ADDR_LO_READ (R510): A read of MM_ECC_ADDR_LO latches MM_ECC_ADDR_HI. -/
  | mmEccAddrLoRead (m : Initiator)
  /-- TM_TB0_READ (R399): A read of TM_TB0 latches the boundary's TICK_NO high half and TB into TM_TB1 to TM_TB4. -/
  | tmTb0Read (m : Initiator)
  /-- PC_CNT_LO_READ (R587): A read of PC_CNT_LO latches the counter's high half. -/
  | pcCntLoRead (m : Initiator) (i : Fin 65)
  /-- REGISTER_WRITE (R519): A write to a register without its own row is performed and acted on at the next boundary where stated. -/
  | registerWrite (m : Initiator) (addr : Word) (v : Word) (x : Aside)
  /-- UNRECOVERABLE_IMAGE_FAULT (R6): An unrecoverable image fault in NORMAL takes the device to RECOVERY, with the datapath off and the flash update path open. -/
  | unrecoverableImageFault
  /-- PCIE_LINK_UP (R529): The PCIe endpoint trains and the link comes up, after which the dump engine's host writes and MSI-X messages may proceed again. -/
  | pcieLinkUp
  /-- PCIE_CONFIGURATION_REQUEST (R528): A configuration, I/O or locked request TLP is taken whole and answered from the configuration space or as an unsupported request, including the Bus Master Enable setting that gates the device's own writes. -/
  | pcieConfigurationRequest (r : ConfigRequest)
  /-- JTAG_ACCESS (R537): A JTAG operation on TCK, TMS, TDI and TRSTn runs boundary scan (accepted only in TEST), returns IDCODE, or drives the RISC-V debug module as the debug lock permits. -/
  | jtagAccess (op : JtagOp) (x : Aside)
  /-- WORKING_SRAM_ACCESS (R488): A bus access or instruction fetch to the working SRAM or boot ROM is performed with ECC correction and write-back, answered with an error on an uncorrectable word, or refused as a boot ROM write. -/
  | workingSramAccess (m : Initiator) (b : Burst)
  deriving DecidableEq, Repr

end Sys2Proof
end

