-- ==== Sys2Proof/Decode.lean ====
section
/-! DEFINITION. The commands of this block are not read from instruction words: no row of the operation table gives bits. -/

namespace Sys2Proof

/-- The command that a word spells by the bits of the operation table: none, since no row gives bits. -/
def decodeTableWord (_nbits _w : Nat) : Option Instr := none

end Sys2Proof
end

