-- ==== Sys2Proof/Config.lean ====
section
/-! DEFINITION. What an implementation fixes and the specification leaves open: constants without a body, so that a
statement about them holds for every value.  Each has an entry in the assumption log. -/

namespace Sys2Proof.Config

/-- A value the specification leaves open, the n-th one drawn in a run. -/
opaque freeValue : Nat → Nat

/-- The content of the boot ROM, by word of 128 bits (R483: fixed at manufacture). -/
opaque bootRom : Nat → BitVec 128

/-- ADC samples per channel and tick of an interop format, 1 or 2 of LF_CFG.FMT: 1.125 × Rs × 3.2 µs (R266, R406), whose symbol rate
the specification leaves to ITU-T G.709.3. -/
opaque interopSamples : Nat → Nat

/-- What the device fills into TM_REF_FREQ (R367) for a clock whose value in that unit the specification does not give: slot clocks 0 to
135 as TM_RCV codes them, and TICK_IN at 200 + k. -/
opaque filledFreq : Nat → Nat

/-- Highest column number of an SRAM macro (MM_MACRO). -/
opaque macroTop : Nat → Nat

/-- Memory class of a datapath SRAM macro, ids 80 to 4,095, where the macro exists (R491). -/
opaque datapathClass : Nat → Option Nat

end Sys2Proof.Config
end

