-- ==== Sys2Proof/Machine/State.lean ====
section
/-! DEFINITION. The state of the device as plain data, and the state after power-up reset. -/

namespace Sys2Proof.Machine

/-- Reasons a step stops with a fault: none.  Whatever a command meets, the specification says how the device goes on
(an error response, an event, a result code, nothing). -/
inductive Fault where
  deriving DecidableEq, Repr

/-- Reasons a command has no meaning in this model. -/
inductive Refusal where
  /-- raised by an arm of `exec` whose command has no meaning yet; safe: the run stops -/
  | notModelled (mnemonic : String)
  deriving DecidableEq, Repr

/-- Everything the specification gives the device, the commands that wait, and the few fields of the model's own that their
docstrings name as such. -/
structure State where
  /-- the commands that wait, first in, first out -/
  pending : List Instr
  /-- the registers, by register and copy, as last written (R519); a register with no entry holds its reset value -/
  regs : Table Word
  /-- the registers as they stood at the last boundary: what the datapath acts on (R519) -/
  act : Table Word
  /-- the 48-bit counters behind select registers, and their like -/
  ctrs : Table Nat
  /-- TICK_NO (R26) -/
  tick : Tick
  /-- boundaries elapsed since power-up: the measure of every duration in ticks (the model's own; TICK_NO may be set) -/
  now : Nat
  /-- open values drawn so far (the model's own) -/
  free : Nat
  /-- actions that take effect at the next boundary, oldest first (R22) -/
  atBoundary : List Keyed
  /-- what the bus answered each master's last access -/
  answers : Table Answer
  /-- what the device has sent, oldest first (the model's own: nothing takes it away) -/
  outbox : List Out
  /-- reports of the present tick, queued for the logger at the boundary that ends it (R580) -/
  reports : List Report
  /-- the logger's queue of 64 entries, oldest first (R580) -/
  logQueue : List LogRecord
  /-- the coalescing slot of each source (R582) -/
  slots : Table CoalSlot
  /-- sequence number of the next event record (R579) -/
  logSeq : Nat
  /-- the die-to-die links (R13 to R15) -/
  links : Table Link
  /-- the VDD_CORE voltage loop (R38) -/
  avsCore : AvsLoop
  /-- the VDD_LE voltage loop (R38) -/
  avsLe : AvsLoop
  /-- pointer interpreter, elastic store and generator of each berth port (R62 to R71) -/
  stores : Table Store
  /-- monitor and mapper of each train (R72 to R83) -/
  trains : Table Train
  /-- berths entering the grid in the present tick (R91) -/
  ingress : Table Berth
  /-- egress content carried by the fabric, one tick on (R91) -/
  staged : Table Berth
  /-- egress berths of the present tick (R91) -/
  egress : Table Berth
  /-- the ingress berth port, plus one, that last fed each egress berth port; 0 for none (R70) -/
  sources : Table Nat
  /-- the two manifest banks, by bank and berth port (R94, R95) -/
  banks : Table Word
  /-- the bank swap beside its registers (R99 to R118) -/
  swap : Swap
  /-- codewords of the present tick whose pool transfer was lost (R14, R277) -/
  lostTransfers : List Nat
  /-- what each client lane holds beside its registers (R122 to R146) -/
  lanes : Table Lane
  /-- ingress and egress of each client: quay times 2 plus slot (R148 to R180) -/
  clients : Table Client
  /-- packet interface of each quay (R174, R175) -/
  packets : Table Packets
  /-- framing of each engine beside its registers (R196 to R224) -/
  frames : Table LineFrame
  /-- value of each TAPS channel of each engine last received, and its run: engine times 2,048 plus channel (R203) -/
  taps : Table Run
  /-- accepted TAPS values, by engine times 2,048 plus channel (R203) -/
  tapsAccepted : Table Nat
  /-- general communication channels: engine times 2 plus channel (R208, R209) -/
  gccs : Table Gcc
  /-- performance monitoring of the sections: engines 0 to 7, mooring ports as 8 to 11 (R221 to R224, R464) -/
  sections : Table Section
  /-- line engines beside their registers (R245 to R267) -/
  engines : Table Engine
  /-- codewords in decoding, and the pool frequency loop (R272 to R279) -/
  pool : Pool
  /-- encryption contexts: 2,048 × (2 × engine + direction) + context (R283) -/
  enc : Table EncCtx
  /-- the LOAD in progress of each master's copy (R291) -/
  keyJobs : Table ((Option KeyJob))
  /-- grants of each engine in HUB mode (R316 to R320) -/
  hubs : Table TideHub
  /-- burst receivers: 16 × engine + upstream subcarrier (R325 to R330) -/
  tideScs : Table TideSc
  /-- reassembly: 256 × engine + leaf (R331 to R333) -/
  tideLeaves : Table TideLeaf
  /-- downstream subcarriers: 16 × engine + subcarrier (R312) -/
  downstream : Table Subcarrier
  /-- merge groups beside their registers (R339 to R361) -/
  merges : Table MergeGroup
  /-- timing references 0 to 8 of R370 (R367) -/
  refs : Table TimeRef
  /-- grid DPLL (R370 to R374) -/
  gridPll : FreqPll
  /-- output DPLL (R370 to R374) -/
  outPll : FreqPll
  /-- sources 0 to 12 of the time DPLL (R379) -/
  timeSources : Table TimeSource
  /-- time DPLL, Invar and the time outputs (R377 to R394) -/
  timePll : TimePll
  /-- capture of each engine (R405 to R410) -/
  captures : Table Capture
  /-- line measurement of each engine (R401 to R404) -/
  measures : Table Measure
  /-- writes journaled and not yet applied, by their sequence numbers (R430, R432) -/
  journal : List JEntry
  /-- mate agent (R416 to R450) -/
  mate : Mate
  /-- own state at the last epoch boundary (R437) -/
  snapshot : Option Snapshot
  /-- own state at the epoch boundary before it, while the epoch that ends now is not applied -/
  snapshotBefore : Option Snapshot
  /-- mooring ports (R455 to R474) -/
  moors : Table Moor
  /-- user data of the control channel (R474) -/
  ccUser : CcUser
  /-- the open domain commit (R475 to R479) -/
  domain : Option DomainCommit
  /-- working SRAM and scratchpad by bus address (R483) -/
  mem : List Host.Cell
  /-- SRAM words with an uncorrectable error, by bus address / 16 (R489, R490) -/
  badWords : List Nat
  /-- bytes of the Anchorage written since PORSTn whose content the model knows, by Anchorage address (R498, R508) -/
  anc : List Host.Cell
  /-- Anchorage blocks of 1 MiB whose written bit is set (R508) -/
  written : List Nat
  /-- Anchorage lines with an uncorrectable error, by address / 64 (R507) -/
  ancBad : List Nat
  /-- march test (R494 to R497) -/
  march : March
  /-- class and address bits [41:32] of the last uncorrectable error, as MM_ECC_ADDR_HI lays them out -/
  eccHigh : Nat
  /-- macro and column of the repair in progress (R492) -/
  repairColumn : Option (Nat × Nat)
  /-- field repairs programmed or torn, by macro and repair: the column plus one (R492, R553) -/
  repaired : Table Nat
  /-- Pilot cores (R521 to R524) -/
  cores : Table Core
  /-- the PCIe endpoint (R527 to R529) -/
  pcie : Pcie
  /-- LB_PAGE of the local-bus interface (R530) -/
  lbPage : Nat
  /-- the console UART (R536) -/
  uart : Uart
  /-- the I²C mailboxes (R532) -/
  mailbox : Mailbox
  /-- a boundary-scan instruction has stopped the datapath (R537) -/
  scanning : Bool
  /-- the COMMITTED image (R564); before any commit an empty one -/
  image : Image
  /-- an image has been committed since PORSTn (R122) -/
  committed : Bool
  /-- the APPLIED image (R564, R565) -/
  applied : Option Image
  /-- the PREVIOUS image (R564) -/
  previous : Option Image
  /-- the fuses as loaded at the last PORSTn (R550) -/
  fuses : Fuses
  /-- the fuse cells as programmed, in force from the next PORSTn (R552) -/
  fuseCells : Fuses
  /-- target of the fuse programming in progress (R552) -/
  fuseTarget : Option Nat
  /-- boot and reset sequencer (R558 to R571) -/
  boot : Boot
  /-- apply, commit or record write in progress (R565 to R568) -/
  imageJob : ImageJob
  /-- resources held in reset, each with the boundary count at which it was reset (R572) -/
  blockResets : List (Resource × Nat)
  /-- what the datapath has counted in the present tick, by event code and index of R584; codes from 40 on count for R595 -/
  tallies : Table Nat
  /-- vectors whose message waits for the link or for Bus Master Enable (R529, R577) -/
  msixWaiting : Table Bool
  /-- the PCIe link is up (R527, R529) -/
  linkUp : Bool
  /-- Bus Master Enable of the endpoint's command register (R529) -/
  busMaster : Bool
  /-- dump entries being written (R590) -/
  dumpJobs : List DumpJob
  /-- due boundaries since each dump ring was enabled (R591) -/
  dumpSeqs : Table Nat
  /-- boundary count of the last boundary served for the dump rings -/
  dumpAt : Option Nat
  /-- PM of the clients, quay times 2 plus slot (R595) -/
  clientSections : Table Section
  /-- PM of the train paths (R595) -/
  pathSections : Table Section
  /-- open bins of the PM history: entity, and 0 for 15 minutes or 1 for a day (R596) -/
  bins : Table PmBin
  /-- boundary count at which the last second was closed -/
  secondAt : Option Nat
  /-- the thermal guard (R626 to R628) -/
  thermal : Thermal
  deriving DecidableEq, Repr

/-- The device when PORSTn has reset it and is not yet released: every register at the value of its table, every table empty. -/
def State.reset : State where
  pending := []
  regs := []
  act := []
  ctrs := []
  tick := 0
  now := 0
  free := 0
  atBoundary := []
  answers := []
  outbox := []
  reports := []
  logQueue := []
  slots := []
  logSeq := 0
  links := []
  avsCore := ⟨800, 0, 0⟩
  avsLe := ⟨780, 0, 0⟩
  stores := []
  trains := []
  ingress := []
  staged := []
  egress := []
  sources := []
  banks := []
  swap := {}
  lostTransfers := []
  lanes := []
  clients := []
  packets := []
  frames := []
  taps := []
  tapsAccepted := []
  gccs := []
  sections := []
  engines := []
  pool := {}
  enc := []
  keyJobs := []
  hubs := []
  tideScs := []
  tideLeaves := []
  downstream := []
  merges := []
  refs := []
  gridPll := {}
  outPll := {}
  timeSources := []
  timePll := {}
  captures := []
  measures := []
  journal := []
  mate := {}
  snapshot := none
  snapshotBefore := none
  moors := []
  ccUser := {}
  domain := none
  mem := []
  badWords := []
  anc := []
  written := []
  ancBad := []
  march := {}
  eccHigh := 0
  repairColumn := none
  repaired := []
  cores := []
  pcie := {}
  lbPage := 0
  uart := {}
  mailbox := {}
  scanning := false
  image := {}
  committed := false
  applied := none
  previous := none
  fuses := {}
  fuseCells := {}
  fuseTarget := none
  boot := {}
  imageJob := {}
  blockResets := []
  tallies := []
  msixWaiting := []
  linkUp := false
  busMaster := false
  dumpJobs := []
  dumpSeqs := []
  dumpAt := none
  clientSections := []
  pathSections := []
  bins := []
  secondAt := none
  thermal := {}

end Sys2Proof.Machine
end

