-- ==== Sys2Proof/Machine/Access.lean ====
section
/-! DEFINITION. Reading and replacing one entry of each table of the state. -/

namespace Sys2Proof.Machine

/-- what the bus answered each master's last access: one entry. -/
def State.answer (s : State) (i : Nat) : Answer := Tab.get Answer.none s.answers (i, 0)

/-- The state with one entry of `answers` replaced. -/
def State.setAnswer (s : State) (i : Nat) (v : Answer) : State := { s with answers := Tab.put Answer.none s.answers (i, 0) v }

/-- the coalescing slot of each source (R582): one entry. -/
def State.slot (s : State) (i : Nat) : CoalSlot := Tab.get {} s.slots (i, 0)

/-- The state with one entry of `slots` replaced. -/
def State.setSlot (s : State) (i : Nat) (v : CoalSlot) : State := { s with slots := Tab.put {} s.slots (i, 0) v }

/-- the die-to-die links (R13 to R15): one entry. -/
def State.link (s : State) (i : Nat) : Link := Tab.get {} s.links (i, 0)

/-- The state with one entry of `links` replaced. -/
def State.setLink (s : State) (i : Nat) (v : Link) : State := { s with links := Tab.put {} s.links (i, 0) v }

/-- pointer interpreter, elastic store and generator of each berth port (R62 to R71): one entry. -/
def State.store (s : State) (i : Nat) : Store := Tab.get {} s.stores (i, 0)

/-- The state with one entry of `stores` replaced. -/
def State.setStore (s : State) (i : Nat) (v : Store) : State := { s with stores := Tab.put {} s.stores (i, 0) v }

/-- monitor and mapper of each train (R72 to R83): one entry. -/
def State.train (s : State) (i : Nat) : Train := Tab.get {} s.trains (i, 0)

/-- The state with one entry of `trains` replaced. -/
def State.setTrain (s : State) (i : Nat) (v : Train) : State := { s with trains := Tab.put {} s.trains (i, 0) v }

/-- berths entering the grid in the present tick (R91): one entry. -/
def State.ingressBerth (s : State) (i : Nat) : Berth := Tab.get {} s.ingress (i, 0)

/-- The state with one entry of `ingress` replaced. -/
def State.setIngressBerth (s : State) (i : Nat) (v : Berth) : State := { s with ingress := Tab.put {} s.ingress (i, 0) v }

/-- egress content carried by the fabric, one tick on (R91): one entry. -/
def State.stagedBerth (s : State) (i : Nat) : Berth := Tab.get {} s.staged (i, 0)

/-- The state with one entry of `staged` replaced. -/
def State.setStagedBerth (s : State) (i : Nat) (v : Berth) : State := { s with staged := Tab.put {} s.staged (i, 0) v }

/-- egress berths of the present tick (R91): one entry. -/
def State.egressBerth (s : State) (i : Nat) : Berth := Tab.get {} s.egress (i, 0)

/-- The state with one entry of `egress` replaced. -/
def State.setEgressBerth (s : State) (i : Nat) (v : Berth) : State := { s with egress := Tab.put {} s.egress (i, 0) v }

/-- the ingress berth port, plus one, that last fed each egress berth port; 0 for none (R70): one entry. -/
def State.sourceOf (s : State) (i : Nat) : Nat := Tab.get 0 s.sources (i, 0)

/-- The state with one entry of `sources` replaced. -/
def State.setSourceOf (s : State) (i : Nat) (v : Nat) : State := { s with sources := Tab.put 0 s.sources (i, 0) v }

/-- the two manifest banks, by bank and berth port (R94, R95): one entry. -/
def State.manifest (s : State) (i j : Nat) : Word := Tab.get 0x88000000#32 s.banks (i, j)

/-- The state with one entry of `banks` replaced. -/
def State.setManifest (s : State) (i j : Nat) (v : Word) : State := { s with banks := Tab.put 0x88000000#32 s.banks (i, j) v }

/-- what each client lane holds beside its registers (R122 to R146): one entry. -/
def State.lane (s : State) (i : Nat) : Lane := Tab.get {} s.lanes (i, 0)

/-- The state with one entry of `lanes` replaced. -/
def State.setLane (s : State) (i : Nat) (v : Lane) : State := { s with lanes := Tab.put {} s.lanes (i, 0) v }

/-- ingress and egress of each client: quay times 2 plus slot (R148 to R180): one entry. -/
def State.client (s : State) (i : Nat) : Client := Tab.get {} s.clients (i, 0)

/-- The state with one entry of `clients` replaced. -/
def State.setClient (s : State) (i : Nat) (v : Client) : State := { s with clients := Tab.put {} s.clients (i, 0) v }

/-- packet interface of each quay (R174, R175): one entry. -/
def State.packetsOf (s : State) (i : Nat) : Packets := Tab.get {} s.packets (i, 0)

/-- The state with one entry of `packets` replaced. -/
def State.setPacketsOf (s : State) (i : Nat) (v : Packets) : State := { s with packets := Tab.put {} s.packets (i, 0) v }

/-- framing of each engine beside its registers (R196 to R224): one entry. -/
def State.lineFrame (s : State) (i : Nat) : LineFrame := Tab.get {} s.frames (i, 0)

/-- The state with one entry of `frames` replaced. -/
def State.setLineFrame (s : State) (i : Nat) (v : LineFrame) : State := { s with frames := Tab.put {} s.frames (i, 0) v }

/-- value of each TAPS channel of each engine last received, and its run: engine times 2,048 plus channel (R203): one entry. -/
def State.tapsRun (s : State) (i : Nat) : Run := Tab.get {} s.taps (i, 0)

/-- The state with one entry of `taps` replaced. -/
def State.setTapsRun (s : State) (i : Nat) (v : Run) : State := { s with taps := Tab.put {} s.taps (i, 0) v }

/-- accepted TAPS values, by engine times 2,048 plus channel (R203): one entry. -/
def State.tapsAcc (s : State) (i : Nat) : Nat := Tab.get 0 s.tapsAccepted (i, 0)

/-- The state with one entry of `tapsAccepted` replaced. -/
def State.setTapsAcc (s : State) (i : Nat) (v : Nat) : State := { s with tapsAccepted := Tab.put 0 s.tapsAccepted (i, 0) v }

/-- general communication channels: engine times 2 plus channel (R208, R209): one entry. -/
def State.gcc (s : State) (i : Nat) : Gcc := Tab.get {} s.gccs (i, 0)

/-- The state with one entry of `gccs` replaced. -/
def State.setGcc (s : State) (i : Nat) (v : Gcc) : State := { s with gccs := Tab.put {} s.gccs (i, 0) v }

/-- performance monitoring of the sections: engines 0 to 7, mooring ports as 8 to 11 (R221 to R224, R464): one entry. -/
def State.pmSection (s : State) (i : Nat) : Section := Tab.get {} s.sections (i, 0)

/-- The state with one entry of `sections` replaced. -/
def State.setPmSection (s : State) (i : Nat) (v : Section) : State := { s with sections := Tab.put {} s.sections (i, 0) v }

/-- line engines beside their registers (R245 to R267): one entry. -/
def State.engine (s : State) (i : Nat) : Engine := Tab.get {} s.engines (i, 0)

/-- The state with one entry of `engines` replaced. -/
def State.setEngine (s : State) (i : Nat) (v : Engine) : State := { s with engines := Tab.put {} s.engines (i, 0) v }

/-- encryption contexts: 2,048 × (2 × engine + direction) + context (R283): one entry. -/
def State.encCtx (s : State) (i : Nat) : EncCtx := Tab.get {} s.enc (i, 0)

/-- The state with one entry of `enc` replaced. -/
def State.setEncCtx (s : State) (i : Nat) (v : EncCtx) : State := { s with enc := Tab.put {} s.enc (i, 0) v }

/-- the LOAD in progress of each master's copy (R291): one entry. -/
def State.keyJob (s : State) (i : Nat) : (Option KeyJob) := Tab.get none s.keyJobs (i, 0)

/-- The state with one entry of `keyJobs` replaced. -/
def State.setKeyJob (s : State) (i : Nat) (v : (Option KeyJob)) : State := { s with keyJobs := Tab.put none s.keyJobs (i, 0) v }

/-- grants of each engine in HUB mode (R316 to R320): one entry. -/
def State.hub (s : State) (i : Nat) : TideHub := Tab.get {} s.hubs (i, 0)

/-- The state with one entry of `hubs` replaced. -/
def State.setHub (s : State) (i : Nat) (v : TideHub) : State := { s with hubs := Tab.put {} s.hubs (i, 0) v }

/-- burst receivers: 16 × engine + upstream subcarrier (R325 to R330): one entry. -/
def State.tideSc (s : State) (i : Nat) : TideSc := Tab.get {} s.tideScs (i, 0)

/-- The state with one entry of `tideScs` replaced. -/
def State.setTideSc (s : State) (i : Nat) (v : TideSc) : State := { s with tideScs := Tab.put {} s.tideScs (i, 0) v }

/-- reassembly: 256 × engine + leaf (R331 to R333): one entry. -/
def State.tideLeaf (s : State) (i : Nat) : TideLeaf := Tab.get {} s.tideLeaves (i, 0)

/-- The state with one entry of `tideLeaves` replaced. -/
def State.setTideLeaf (s : State) (i : Nat) (v : TideLeaf) : State := { s with tideLeaves := Tab.put {} s.tideLeaves (i, 0) v }

/-- downstream subcarriers: 16 × engine + subcarrier (R312): one entry. -/
def State.dsCarrier (s : State) (i : Nat) : Subcarrier := Tab.get {} s.downstream (i, 0)

/-- The state with one entry of `downstream` replaced. -/
def State.setDsCarrier (s : State) (i : Nat) (v : Subcarrier) : State := { s with downstream := Tab.put {} s.downstream (i, 0) v }

/-- merge groups beside their registers (R339 to R361): one entry. -/
def State.merge (s : State) (i : Nat) : MergeGroup := Tab.get {} s.merges (i, 0)

/-- The state with one entry of `merges` replaced. -/
def State.setMerge (s : State) (i : Nat) (v : MergeGroup) : State := { s with merges := Tab.put {} s.merges (i, 0) v }

/-- timing references 0 to 8 of R370 (R367): one entry. -/
def State.timeRef (s : State) (i : Nat) : TimeRef := Tab.get {} s.refs (i, 0)

/-- The state with one entry of `refs` replaced. -/
def State.setTimeRef (s : State) (i : Nat) (v : TimeRef) : State := { s with refs := Tab.put {} s.refs (i, 0) v }

/-- sources 0 to 12 of the time DPLL (R379): one entry. -/
def State.timeSource (s : State) (i : Nat) : TimeSource := Tab.get {} s.timeSources (i, 0)

/-- The state with one entry of `timeSources` replaced. -/
def State.setTimeSource (s : State) (i : Nat) (v : TimeSource) : State := { s with timeSources := Tab.put {} s.timeSources (i, 0) v }

/-- capture of each engine (R405 to R410): one entry. -/
def State.capture (s : State) (i : Nat) : Capture := Tab.get {} s.captures (i, 0)

/-- The state with one entry of `captures` replaced. -/
def State.setCapture (s : State) (i : Nat) (v : Capture) : State := { s with captures := Tab.put {} s.captures (i, 0) v }

/-- line measurement of each engine (R401 to R404): one entry. -/
def State.measure (s : State) (i : Nat) : Measure := Tab.get {} s.measures (i, 0)

/-- The state with one entry of `measures` replaced. -/
def State.setMeasure (s : State) (i : Nat) (v : Measure) : State := { s with measures := Tab.put {} s.measures (i, 0) v }

/-- mooring ports (R455 to R474): one entry. -/
def State.moor (s : State) (i : Nat) : Moor := Tab.get {} s.moors (i, 0)

/-- The state with one entry of `moors` replaced. -/
def State.setMoor (s : State) (i : Nat) (v : Moor) : State := { s with moors := Tab.put {} s.moors (i, 0) v }

/-- field repairs programmed or torn, by macro and repair: the column plus one (R492, R553): one entry. -/
def State.repairOf (s : State) (i j : Nat) : Nat := Tab.get 0 s.repaired (i, j)

/-- The state with one entry of `repaired` replaced. -/
def State.setRepairOf (s : State) (i j : Nat) (v : Nat) : State := { s with repaired := Tab.put 0 s.repaired (i, j) v }

/-- Pilot cores (R521 to R524): one entry. -/
def State.core (s : State) (i : Nat) : Core := Tab.get {} s.cores (i, 0)

/-- The state with one entry of `cores` replaced. -/
def State.setCore (s : State) (i : Nat) (v : Core) : State := { s with cores := Tab.put {} s.cores (i, 0) v }

/-- what the datapath has counted in the present tick, by event code and index of R584; codes from 40 on count for R595: one entry. -/
def State.tally (s : State) (i j : Nat) : Nat := Tab.get 0 s.tallies (i, j)

/-- The state with one entry of `tallies` replaced. -/
def State.setTally (s : State) (i j : Nat) (v : Nat) : State := { s with tallies := Tab.put 0 s.tallies (i, j) v }

/-- vectors whose message waits for the link or for Bus Master Enable (R529, R577): one entry. -/
def State.msixWaits (s : State) (i : Nat) : Bool := Tab.get false s.msixWaiting (i, 0)

/-- The state with one entry of `msixWaiting` replaced. -/
def State.setMsixWaits (s : State) (i : Nat) (v : Bool) : State := { s with msixWaiting := Tab.put false s.msixWaiting (i, 0) v }

/-- due boundaries since each dump ring was enabled (R591): one entry. -/
def State.dumpSeq (s : State) (i : Nat) : Nat := Tab.get 0 s.dumpSeqs (i, 0)

/-- The state with one entry of `dumpSeqs` replaced. -/
def State.setDumpSeq (s : State) (i : Nat) (v : Nat) : State := { s with dumpSeqs := Tab.put 0 s.dumpSeqs (i, 0) v }

/-- PM of the clients, quay times 2 plus slot (R595): one entry. -/
def State.clientPm (s : State) (i : Nat) : Section := Tab.get {} s.clientSections (i, 0)

/-- The state with one entry of `clientSections` replaced. -/
def State.setClientPm (s : State) (i : Nat) (v : Section) : State := { s with clientSections := Tab.put {} s.clientSections (i, 0) v }

/-- PM of the train paths (R595): one entry. -/
def State.pathPm (s : State) (i : Nat) : Section := Tab.get {} s.pathSections (i, 0)

/-- The state with one entry of `pathSections` replaced. -/
def State.setPathPm (s : State) (i : Nat) (v : Section) : State := { s with pathSections := Tab.put {} s.pathSections (i, 0) v }

/-- open bins of the PM history: entity, and 0 for 15 minutes or 1 for a day (R596): one entry. -/
def State.bin (s : State) (i j : Nat) : PmBin := Tab.get {} s.bins (i, j)

/-- The state with one entry of `bins` replaced. -/
def State.setBin (s : State) (i j : Nat) (v : PmBin) : State := { s with bins := Tab.put {} s.bins (i, j) v }

end Sys2Proof.Machine
end

