-- ==== Sys2Proof/Machine/Memory.lean ====
section
/-! DEFINITION. Byte-addressed memory: a list of addresses and bytes in one canonical form (addresses strictly rising, no entry of
value 0).  A byte with no entry reads 0. -/

namespace Sys2Proof.Machine

/-- Memory: the bytes that are not 0, by bus address. -/
abbrev Mem := List Host.Cell

namespace Mem

/-- What an address with no entry reads as: R484 writes 0 to every word in BOOT. -/
def blank : Byte := 0

/-- The entry of an address. -/
def find : Mem → Nat → Option Byte
  | [], _ => none
  | (a', v) :: t, a => if Nat.beq a' a then some v else find t a

/-- The memory without an entry for an address. -/
def drop : Mem → Nat → Mem
  | [], _ => []
  | (a', v) :: t, a => if Nat.beq a' a then drop t a else (a', v) :: drop t a

/-- The memory with one more entry, in its place. -/
def place : Mem → Nat → Byte → Mem
  | [], a, v => [(a, v)]
  | (a', v') :: t, a, v => if Nat.blt a a' then (a, v) :: (a', v') :: t else (a', v') :: place t a v

/-- The byte at an address. -/
def read (m : Mem) (a : Nat) : Byte := (find m a).getD blank

/-- The memory after a byte is written. -/
def write (m : Mem) (a : Nat) (v : Byte) : Mem := if v = blank then drop m a else place (drop m a) a v

/-- Every address exceeds `a`, and they rise. -/
def risesFrom (a : Nat) : Mem → Bool
  | [] => true
  | (a', _) :: t => Nat.blt a a' && risesFrom a' t

/-- The addresses rise strictly. -/
def rising : Mem → Bool
  | [] => true
  | (a, _) :: t => risesFrom a t

/-- The canonical form. -/
def wf : Mem → Bool
  | [] => true
  | (a, v) :: t => risesFrom a t && !decide (v = blank) && t.all fun c => !decide (c.2 = blank)

/-- The `n` bytes from an address on. -/
def readBytes (m : Mem) (a : Nat) : Nat → List Byte
  | 0 => []
  | n + 1 => read m a :: readBytes m (a + 1) n

/-- The memory after bytes are written from an address on. -/
def writeBytes (m : Mem) (a : Nat) : List Byte → Mem
  | [] => m
  | b :: t => writeBytes (write m a b) (a + 1) t

/-- A number of bytes in little-endian order. -/
def toNatLE : List Byte → Nat
  | [] => 0
  | b :: t => b.toNat + 256 * toNatLE t

/-- The `n` bytes of a number in little-endian order. -/
def ofNatLE : Nat → Nat → List Byte
  | 0, _ => []
  | n + 1, v => BitVec.ofNat 8 v :: ofNatLE n (v / 256)

/-- The word at an address: the byte at the lowest address is bits [7:0]. -/
def readWord (m : Mem) (a : Nat) : Word := BitVec.ofNat 32 (toNatLE (readBytes m a 4))

/-- The memory after a word is written. -/
def writeWord (m : Mem) (a : Nat) (w : Word) : Mem := writeBytes m a (ofNatLE 4 w.toNat)

end Mem

end Sys2Proof.Machine
end

