-- ==== Sys2Proof/Machine/Ops.lean ====
section
/-! DEFINITION. The named operations over the state that the meanings are written with: reading and writing registers and
fields, counters, answers to masters, work keyed to a boundary, and TICK_NO arithmetic. -/

namespace Sys2Proof.Machine

/-! ### Registers -/

/-- The reset value of one copy of a register: its table's, but EV_SRC_CFG.ALARM, which PORSTn sets for the sources of R578. -/
def Reg.resetValue (r : Reg) (i : Nat) : Word :=
  match r with
  | .EV_SRC_CFG =>
    if [1, 2, 4, 392, 393, 385, 387, 10 * 32 + 4, 10 * 32 + 11, 11 * 32 + 11, 11 * 32 + 9].contains i
    then 0x40000000#32 else 0#32
  | _ => BitVec.ofNat 32 r.info.reset

/-- Where a copy of a register stands in the table of registers. -/
def Reg.key (r : Reg) (i : Nat) : Key := (r.ctorIdx, i)

/-- The value of one copy of a register in a table of registers. -/
def regGet (t : Table Word) (r : Reg) (i : Nat) : Word := Tab.get (r.resetValue i) t (r.key i)

/-- The table of registers after one copy takes a value; reserved bits stay 0 (R11). -/
def regPut (t : Table Word) (r : Reg) (i : Nat) (v : Word) : Table Word :=
  Tab.put (r.resetValue i) t (r.key i) (v &&& BitVec.ofNat 32 r.info.impl)

/-- The bits of a field in a word. -/
def Field.get (f : Field) (w : Word) : Nat := (w.toNat >>> f.lo) % 2 ^ f.width

/-- The word with a field replaced. -/
def Field.set (f : Field) (w : Word) (v : Nat) : Word :=
  (w &&& ~~~ BitVec.ofNat 32 f.mask) ||| (BitVec.ofNat 32 ((v % 2 ^ f.width) <<< f.lo) &&& BitVec.ofNat 32 f.mask)

/-- One copy of a register as last written (R519). -/
def State.reg (s : State) (r : Reg) (i : Nat) : Word := regGet s.regs r i

/-- The state with one copy of a register replaced. -/
def State.setReg (s : State) (r : Reg) (i : Nat) (v : Word) : State := { s with regs := regPut s.regs r i v }

/-- The registers that fail a test return to their reset values. -/
def State.keepRegs (s : State) (p : Key × Word → Bool) : State := { s with regs := s.regs.filter p }

/-- A field of one copy of a register as last written. -/
def State.rd (s : State) (f : Field) (i : Nat) : Nat := f.get (s.reg f.reg i)

/-- The state with a field of one copy of a register replaced. -/
def State.wr (s : State) (f : Field) (i : Nat) (v : Nat) : State := s.setReg f.reg i (f.set (s.reg f.reg i) v)

/-- A field as it stood at the last boundary: the value the datapath acts on (R519). -/
def State.cfg (s : State) (f : Field) (i : Nat) : Nat := f.get (regGet s.act f.reg i)

/-- A one-bit field, as last written. -/
def State.on (s : State) (f : Field) (i : Nat) : Bool := s.rd f i == 1

/-- A one-bit field, as the datapath acts on it. -/
def State.cfgOn (s : State) (f : Field) (i : Nat) : Bool := s.cfg f i == 1

/-- A field counted up by `n`, wrapping in its width. -/
def State.incWrap (s : State) (f : Field) (i n : Nat) : State := s.wr f i (s.rd f i + n)

/-- A field counted up by `n`, saturating at the most its width holds. -/
def State.incSat (s : State) (f : Field) (i n : Nat) : State := s.wr f i (min (s.rd f i + n) (2 ^ f.width - 1))

/-- A field that becomes 0 or 1. -/
def State.wrBool (s : State) (f : Field) (i : Nat) (b : Bool) : State := s.wr f i b.toNat

/-- The two's-complement value of a field of `w` bits. -/
def signed (w n : Nat) : Int := if n < 2 ^ (w - 1) then n else (n : Int) - 2 ^ w

/-- The code of an integer in a field of `w` bits, two's complement. -/
def unsigned (w : Nat) (z : Int) : Nat := (z % (2 ^ w : Nat)).toNat

/-- An integer kept within limits. -/
def clampInt (lo hi z : Int) : Int := max lo (min hi z)

/-- A number kept within limits. -/
def clampNat (lo hi n : Nat) : Nat := max lo (min hi n)

/-! ### Masters (R520) -/

/-- The copy of a per-master register that a transaction reads and writes: one per master, for masters 2 to 5 a second one for
user mode. -/
def Initiator.copy (m : Initiator) : Nat :=
  m.num.val * 2 + (if m.user && decide (2 ≤ m.num.val) && decide (m.num.val ≤ 5) then 1 else 0)

/-- The copies of a register that is held per master (R520). -/
def copies : List Nat := (List.range 10).map (· * 2) ++ [5, 7, 9, 11]

/-- The transaction may write what R522 and its like reserve: masters 0 and 1 and machine mode. -/
def Initiator.trusted (m : Initiator) : Bool := m.num.val ≤ 1 || (!m.user && 2 ≤ m.num.val && m.num.val ≤ 5)

/-- A transaction of a Pilot core in user mode. -/
def Initiator.isUser (m : Initiator) : Bool := m.user && decide (2 ≤ m.num.val) && decide (m.num.val ≤ 5)

/-- The bus answers a master. -/
def State.reply (s : State) (m : Initiator) (a : Answer) : State := s.setAnswer m.copy a

/-- A read answered with a word. -/
def State.replyWord (s : State) (m : Initiator) (v : Nat) : State := s.reply m (.ok (BitVec.ofNat 32 v))

/-- A read of a counter's low half: it answers bits [31:0] and latches bits [47:32] into the master's own copy of the high
half (R31, R85, R141 and the like). -/
def State.readLatched (s : State) (m : Initiator) (hi : Field) (value : Nat) : State :=
  (s.wr hi m.copy (value >>> 32)).replyWord m value

/-! ### Counters -/

/-- The value of a counter. -/
def State.ctr (s : State) (c : Ctr) : Nat := Tab.get 0 s.ctrs c.key

/-- The state with a counter set. -/
def State.setCtr (s : State) (c : Ctr) (n : Nat) : State := { s with ctrs := Tab.put 0 s.ctrs c.key (n % 2 ^ 48) }

/-- A counter counts `n`, wrapping at 48 bits. -/
def State.count (s : State) (c : Ctr) (n : Nat) : State := s.setCtr c (s.ctr c + n)

/-- The datapath counts `n` events of a code of R584 for an index in the present tick. -/
def State.addTally (s : State) (code index n : Nat) : State := s.setTally code index (s.tally code index + n)

/-! ### The tick -/

/-- (N − T) mod 2^48: how far the boundary `n` lies ahead of tick `t`. -/
def ahead (n t : Tick) : Nat := (n - t).toNat

/-- A request keyed to boundary `n` and written now has the lead of R30, raised to `lead` where a chapter asks for more. -/
def State.leadMet (s : State) (n : Tick) (lead : Nat) : Bool :=
  let a := ahead n s.tick
  decide (lead ≤ a) && decide (a ≤ 2 ^ 47)

/-- The 48-bit boundary held by a pair of registers. -/
def tickOf (lo hi : Nat) : Tick := BitVec.ofNat 48 (hi * 2 ^ 32 + lo)

/-- At least `n` boundaries have passed since the boundary count `since`. -/
def State.elapsed (s : State) (since n : Nat) : Bool := decide (since + n ≤ s.now)

/-- Ticks in a second (01_architecture_and_tick.md, "The tick"). -/
def ticksPerSecond : Nat := 312500

/-- Ticks in a millisecond, times two (312.5 ticks per ms). -/
def halfTicksPerMs : Nat := 625

/-- An action put off to the next boundary (R22). -/
def State.later (s : State) (k : Keyed) : State := { s with atBoundary := s.atBoundary ++ [k] }

/-- The 16 bytes of an SRAM word are written, which makes the word good again (R489). -/
def State.sramWord (s : State) (a : Nat) (bytes : List Byte) : State :=
  { s with mem := Mem.writeBytes s.mem a bytes, badWords := s.badWords.filter (· != a / 16) }

/-- Something leaves the device. -/
def State.send (s : State) (o : Out) : State := { s with outbox := s.outbox ++ [o] }

/-- An open value is drawn: the value, and the state that has drawn it. -/
def State.drawn (s : State) : Nat := Config.freeValue s.free

/-- The state after an open value is drawn. -/
def State.draw (s : State) : State := { s with free := s.free + 1 }

/-! ### The device -/

/-- The device state of R6. -/
def State.devState (s : State) : DevState := DevState.ofCode (s.rd F.SY_STATE_STATE 0)

/-- The state with another device state. -/
def State.setDevState (s : State) (d : DevState) : State := s.wr F.SY_STATE_STATE 0 d.code

/-- The service mode code (R9). -/
def State.mode (s : State) : Nat := s.rd F.SY_MODE_MODE 0

/-- The device is an EKV-06400-FA, which lacks engines 4 to 7 (R3). -/
def State.halfDevice (s : State) : Bool := s.rd F.SY_ID_VARIANT 0 == 3

/-- Line engine `e` exists in this ordering code (R2, R3). -/
def State.engineExists (s : State) (e : Nat) : Bool := decide (e < 4) || (decide (e < 8) && !s.halfDevice)

/-- Fold a change over a list of things. -/
def State.each {α : Type} (s : State) (xs : List α) (f : State → α → State) : State := xs.foldl f s

end Sys2Proof.Machine
end

