-- ==== Sys2Proof/Machine/Flags.lean ====
section
/-! DEFINITION. Events: leaf sticky bits, their masks, the top-level sources they feed, and the one operation that raises a
leaf event (R574 to R577). -/

namespace Sys2Proof.Machine

/-- The leaf bit `b` of copy `i` of a sticky register is masked by its block's mask register (the register tables). -/
def State.leafMasked (s : State) (r : Reg) (b i : Nat) : Bool :=
  match r with
  | .SY_STICKY => (s.rd F.SY_MASK_MASK 0).testBit b
  | .SY_IMG_STICKY => (s.rd F.SY_IMG_MASK_MASK 0).testBit b
  | .QY_STICKY => (s.cfg F.QY_MASK_MASK i).testBit b
  | .LN_STICKY => (s.cfg F.LN_MASK_MASK i).testBit b
  | .LE_STICKY => (s.cfg F.LE_MASK_MASK i).testBit b
  | .LF_STICKY => (s.cfg F.LF_MASK_MASK i).testBit b
  | .FP_STICKY => (s.cfg F.FP_MASK_MASK 0).testBit b
  | .SEC_ESTICKY => (s.cfg F.SEC_EMASK_MASK i).testBit b
  | .MG_STICKY => (s.cfg F.MG_MASK_MASK i).testBit b
  | .TM_STICKY => (s.cfg F.TM_MASK_MASK 0).testBit b
  | .MT_STICKY => (s.cfg F.MT_MASK_MASK 0).testBit b
  | .HR_STICKY => (s.cfg F.HR_MASK_MASK i).testBit b
  | .HR_DSTICKY => (s.cfg F.HR_DMASK_MASK 0).testBit b
  | .MM_STICKY => (s.rd F.MM_MASK_MASK 0).testBit b
  | .BM_STICKY => (s.rd F.BM_MASK_MASK 0).testBit b
  | .PC_STICKY => (s.rd F.PC_MASK_MASK 0).testBit b
  | .TS_STICKY => (s.rd F.TS_MASK_MASK 0).testBit b
  | .TD_SC_STICKY => (s.cfg F.TD_MASK_SC (i / 16)).testBit b
  | .TD_LEAF_STICKY => (s.cfg F.TD_MASK_LEAF (i / 256)).testBit b
  | .MS_STICKY => (s.cfg F.MS_MASK_MASK i).testBit b
  | .EV_LOG_STAT => (s.rd F.EV_LOG_MASK_MASK 0).testBit 0
  | _ => false

/-- Berth port `p` of an engine is fed by Tide reassembly: the engine runs HUB and the port's subcarrier is TIDE. -/
def State.tidePort (s : State) (p : Nat) : Bool :=
  let e := (p - 10240) / 1280
  decide (10240 ≤ p) && decide (p < 20480) && s.on F.LF_CFG_HUB e &&
    (s.rd F.TD_SCTYPE_TYPE e >>> (2 * ((p - 10240) % 1280 / 80))) % 4 == 2

/-- The top-level source that leaf bit `b` of copy `i` of a sticky register feeds (the table of R574). -/
def State.sourceOfLeaf (s : State) (r : Reg) (b i : Nat) : Option Nat :=
  match r with
  | .SY_STICKY => some b
  | .SY_IMG_STICKY => some 6
  | .QY_STICKY => some (32 + i)
  | .LN_STICKY => some (96 + i / 4)
  | .GRID_STICKY => some (128 + b)
  | .TR_STICKY => some 139
  | .LE_STICKY => some (160 + 8 * i)
  | .LF_STICKY => some (161 + 8 * i)
  | .BP_STICKY =>
    if i < 10240 then none
    else if 20480 ≤ i then some (352 + 4 + (i - 20480) / 640)
    else if s.tidePort i then some 496
    else some (162 + 8 * ((i - 10240) / 1280))
  | .FP_STICKY => if b = 2 then some 225 else some 224
  | .SEC_ESTICKY => some (232 + i / 2)
  | .MG_STICKY => some (256 + i / 64)
  | .TM_STICKY => some (288 + b)
  | .MT_STICKY => some (320 + b)
  | .HR_STICKY => some (352 + i)
  | .HR_DSTICKY => some (360 + b)
  | .MM_STICKY => some (384 + b)
  | .BM_STICKY => some (416 + b)
  | .EV_LOG_STAT => some 448
  | .PC_STICKY => some 449
  | .TD_SC_STICKY => some (480 + i / 16)
  | .TD_LEAF_STICKY => some (480 + i / 256)
  | .MS_STICKY => some (488 + i)
  | .TS_STICKY => some 498
  | _ => none

/-- The channel number a record carries for a leaf (CHAN of R579). -/
def chanOfLeaf (r : Reg) (b i : Nat) : Nat :=
  match r with
  | .QY_STICKY => 2 * i + (if 8 ≤ b && b ≤ 15 then 1 else 0)
  | .LN_STICKY | .TR_STICKY | .LE_STICKY | .LF_STICKY | .BP_STICKY | .MG_STICKY | .HR_STICKY | .MS_STICKY => i
  | .SEC_ESTICKY => i / 2
  | .TD_SC_STICKY => i % 16
  | .TD_LEAF_STICKY => 256 + i % 256
  | _ => 0

/-- DETAIL of a record (the second table of R579), read when the report is made. -/
def State.detailOf (s : State) (r : Reg) (b i : Nat) : Nat :=
  match r, b with
  | .GRID_STICKY, 0 => s.rd F.GRID_SWAP_DONE_LO_DONE_LO 0
  | .GRID_STICKY, 2 | .GRID_STICKY, 3 => (s.reg .GRID_SWAP_INFO 0).toNat
  | .MS_STICKY, 1 => (s.reg .MS_SOP_LAST i).toNat
  | .MT_STICKY, 7 => s.rd F.MT_MISS_TICK_TICK 0
  | .MT_STICKY, 3 | .MT_STICKY, 4 => s.rd F.MT_JSEQ_JSEQ 0
  | .MM_STICKY, 1 | .MM_STICKY, 3 => s.rd F.MM_ECC_ADDR_LO_ADDR_LO 0
  | .BM_STICKY, 0 | .BM_STICKY, 1 => s.rd F.BM_ERR_ADDR_ADDR 0
  | _, _ => 0

/-- EV_STICKY of a source. -/
def State.sourceSticky (s : State) (src : Nat) : Bool := (s.rd F.EV_STICKY_SRC (src / 32)).testBit (src % 32)

/-- A source is pending: sticky and not masked (R576). -/
def State.sourcePending (s : State) (src : Nat) : Bool := s.sourceSticky src && !s.on F.EV_SRC_CFG_MASK src

/-- The sources of group `g` whose sticky bit is set. -/
def State.stickySources (s : State) (g : Nat) : List Nat :=
  let w := s.rd F.EV_STICKY_SRC g
  if w == 0 then [] else ((List.range 32).filter w.testBit).map (32 * g + ·)

/-- Every pending source, in rising order. -/
def State.pendingSources (s : State) : List Nat :=
  ((List.range 16).flatMap s.stickySources).filter s.sourcePending

/-- EV_GPEND: bit g is 1 while any source of group g is pending. -/
def State.groupsPending (s : State) : Nat :=
  (List.range 16).foldl (fun acc g => acc + (if (s.stickySources g).any s.sourcePending then 2 ^ g else 0)) 0

/-- A pending source is routed to destination kind `dest`, number `idx` (R577). -/
def State.routed (s : State) (dest idx : Nat) : Bool :=
  s.pendingSources.any fun src => s.rd F.EV_SRC_CFG_DEST src == dest && s.rd F.EV_SRC_CFG_IDX src == idx

/-- INT_n[k] is driven low (R577). -/
def State.intLow (s : State) (k : Nat) : Bool := s.routed 1 k

/-- MEIP of core c (R524, R577). -/
def State.meip (s : State) (c : Nat) : Bool := s.routed 3 c

/-- ALARM_n is driven low (R578), as also during the reset of a thermal shutdown (R628); `xoBad` is the failed check of XO_IN in BOOT (R366). -/
def State.alarmLow (s : State) (xoBad : Bool) : Bool :=
  xoBad || s.boot.thermal || s.devState == .recovery || s.pendingSources.any (s.on F.EV_SRC_CFG_ALARM ·)

/-- The message of a vector can leave: the link is up, Bus Master Enable is 1 (R529), and neither MSI-X Enable, the function mask nor
the vector's own mask keeps it back (R527, R577). -/
def State.msixSendable (s : State) (v : Nat) : Bool :=
  s.linkUp && s.busMaster && s.pcie.msixEnable && !s.pcie.msixMask && !s.pcie.d3hot && !s.on F.MSIX_CTRL_MASK v

/-- The message of a vector leaves. -/
def State.msixLeaves (s : State) (v : Nat) : State :=
  s.send (.msix v (s.rd F.MSIX_ADDR_HI_ADDR v * 2 ^ 32 + (s.reg .MSIX_ADDR_LO v).toNat) (s.rd F.MSIX_DATA_DATA v))

/-- The message of a vector leaves, or its pending bit is set while it cannot (R529, R577). -/
def State.sendMsix (s : State) (v : Nat) : State := if s.msixSendable v then s.msixLeaves v else s.setMsixWaits v true

/-- Messages that wait leave once they can. -/
def State.flushMsix (s : State) : State :=
  s.each (s.msixWaiting.map (·.1.1)) fun s v => if s.msixSendable v then (s.setMsixWaits v false).msixLeaves v else s

/-- A report reaches top-level source `src` (R575 to R577, R580): it is counted, sets the sticky bit, sends the MSI-X message if
it makes its vector's condition true, and waits for the logger until the boundary that ends the tick. -/
def State.report (s : State) (src leaf chan detail : Nat) : State :=
  let vector := s.rd F.EV_SRC_CFG_IDX src
  let rises := s.rd F.EV_SRC_CFG_DEST src == 2 && !s.on F.EV_SRC_CFG_MASK src && !s.sourceSticky src && !s.routed 2 vector
  let s := (s.incWrap F.EV_SRC_CNT_CNT src 1).wr F.EV_STICKY_SRC (src / 32)
    (s.rd F.EV_STICKY_SRC (src / 32) ||| 2 ^ (src % 32))
  let s := s.addTally 29 (src / 32) 1
  let s := { s with reports := s.reports ++ [⟨src, leaf, chan, s.tick, detail⟩] }
  if rises then s.sendMsix vector else s

/-- A leaf event occurs: leaf bit `f` of copy `i` becomes 1, and if it was 0 and is not masked its source gets a report
(R575).  TIDE_THR_LIMIT reports beside the TIDE source (R338, R574). -/
def State.raise (s : State) (f : Field) (i : Nat) : State :=
  if s.on f i then s
  else
    let t := s.wr f i 1
    if t.leafMasked f.reg f.lo i then t
    else
      let t := match t.sourceOfLeaf f.reg f.lo i with
        | some src => t.report src f.lo (chanOfLeaf f.reg f.lo i) (t.detailOf f.reg f.lo i)
        | none => t
      if f.reg == .TD_SC_STICKY && f.lo == 8 then t.report 497 8 (i % 16) 0 else t

/-- A leaf event occurs if a condition holds. -/
def State.raiseIf (s : State) (c : Bool) (f : Field) (i : Nat) : State := if c then s.raise f i else s

/-- Bit `b` of SY_IMG_STICKY, PC_STICKY or the DEF field of TR_STICKY, as a leaf. -/
def leafBit (r : Reg) (b : Nat) : Field := ⟨r, b, b⟩

/-- A source without a leaf register makes a report (R575). -/
def State.raiseSource (s : State) (src : Nat) : State := s.report src 0 0 0

/-- The live status of a source (EV_STAT of R576): some unmasked leaf bit behind it is 1. -/
def State.sourceLive (s : State) (src : Nat) : Bool :=
  s.regs.any fun ((code, i), w) =>
    match Reg.all.find? (fun r => r.ctorIdx == code) with
    | some r =>
      (List.range 32).any fun b =>
        w.toNat.testBit b && r.info.w1c.testBit b && !s.leafMasked r b i && s.sourceOfLeaf r b i == some src
    | none => false

/-! ### The bus (R513) -/

/-- A Pilot core takes an access fault on its transaction (R523): 1 for a fetch, 5 for a load, 7 for a store, with the address in mtval. -/
def State.accessFault (s : State) (m : Initiator) (cause addr : Nat) : State :=
  if 2 ≤ m.num.val && m.num.val ≤ 5 then
    s.setCore (m.num.val - 2) { s.core (m.num.val - 2) with fault := some (cause, addr) }
  else s

/-- An access receives the error response: BM_STICKY.BUS_ERR, and the master, address and cause in BM_ERR (R513). -/
def State.busError (s : State) (m : Initiator) (write : Bool) (addr : Nat) (c : BusCause) : State :=
  let s := s.wr F.BM_ERR_MASTER 0 m.num.val
  let s := s.wrBool F.BM_ERR_USER 0 m.isUser
  let s := s.wrBool F.BM_ERR_WRITE 0 write
  let s := s.wr F.BM_ERR_CAUSE 0 c.code
  let s := s.incSat F.BM_ERR_COUNT 0 1
  let s := s.wr F.BM_ERR_ADDR_ADDR 0 addr
  let s := (s.raise F.BM_STICKY_BUS_ERR 0).accessFault m (if write then 7 else 5) addr
  s.reply m (.error c)

/-- An access receives BUSY: recorded in BM_ERR with cause BUSY, not counted, no event (R513). -/
def State.busBusy (s : State) (m : Initiator) (write : Bool) (addr : Nat) : State :=
  let s := s.wr F.BM_ERR_MASTER 0 m.num.val
  let s := s.wrBool F.BM_ERR_USER 0 m.isUser
  let s := s.wrBool F.BM_ERR_WRITE 0 write
  let s := s.wr F.BM_ERR_CAUSE 0 BusCause.busy.code
  let s := (s.wr F.BM_ERR_ADDR_ADDR 0 addr).accessFault m (if write then 7 else 5) addr
  s.reply m .busy

/-- A register access in user mode that R525 keeps from applets: a write of the SY, BM, SEC or MM block or a read of SEC. -/
def userRefused (r : Reg) (write : Bool) : Bool :=
  let blk := r.info.addr / 2 ^ 24
  if write then blk == 0x20 || blk == 0x2D || blk == 0x2E || blk == 0x2A else blk == 0x2E

end Sys2Proof.Machine
end

