-- ==== Sys2Proof/Machine/Operands.lean ====
section
/-! DEFINITION. What an access addresses: the unit that the requesting master's own selections name (R520), the copy of a
register behind an address (R512, R514), and the write that is performed at once, journaled, or refused on a standby
(R429 to R431). -/

namespace Sys2Proof.Machine

/-! ### Selections (R520) -/

/-- The lane that a master's LN_CHSEL selects (R147). -/
def State.laneSel (s : State) (m : Initiator) : Nat := s.rd F.LN_CHSEL_LANE m.copy
/-- The train that a master's TR_SEL selects (R85). -/
def State.trainSel (s : State) (m : Initiator) : Nat := s.rd F.TR_SEL_TRAIN m.copy
/-- The berth port that a master's BP_SEL selects (R85); 23,040 and above select none. -/
def State.portSel (s : State) (m : Initiator) : Nat := s.rd F.BP_SEL_PORT m.copy
/-- The quay that a master's QY_CHSEL selects (R181). -/
def State.quaySel (s : State) (m : Initiator) : Nat := s.rd F.QY_CHSEL_QUAY m.copy
/-- The client slot that a master's QY_CSEL selects (R181). -/
def State.slotSel (s : State) (m : Initiator) : Nat := s.rd F.QY_CSEL_C m.copy
/-- The engine that a master's LE_SEL selects (R268). -/
def State.engineSel (s : State) (m : Initiator) : Nat := s.rd F.LE_SEL_ENGINE m.copy
/-- The upstream subcarrier that a master's TD_SEL selects, with its engine (R338). -/
def State.subcarrierSel (s : State) (m : Initiator) : Nat := 16 * s.engineSel m + s.rd F.TD_SEL_SC m.copy
/-- The leaf that a master's TD_SEL selects, with its engine (R338). -/
def State.leafSel (s : State) (m : Initiator) : Nat := 256 * s.engineSel m + s.rd F.TD_SEL_LEAF m.copy
/-- The engine and direction that a master's SEC_KSEL selects (R305). -/
def State.keyDirSel (s : State) (m : Initiator) : Nat :=
  2 * s.rd F.SEC_KSEL_ENGINE m.copy + s.rd F.SEC_KSEL_DIR m.copy
/-- The context that a master's SEC_KSEL selects (R305). -/
def State.contextSel (s : State) (m : Initiator) : Nat := 2048 * s.keyDirSel m + s.rd F.SEC_KSEL_CTX m.copy
/-- The merge group that a master's MG_SEL selects (R363). -/
def State.groupSel (s : State) (m : Initiator) : Nat := s.rd F.MG_SEL_GROUP m.copy
/-- The mooring port that a master's HR_PSEL selects (R482). -/
def State.mportSel (s : State) (m : Initiator) : Nat := s.rd F.HR_PSEL_PORT m.copy

/-- SEC_KSEL names a context that exists (R3, R305). -/
def State.contextExists (s : State) (m : Initiator) : Bool :=
  s.engineExists (s.rd F.SEC_KSEL_ENGINE m.copy) && decide (s.rd F.SEC_KSEL_CTX m.copy < 1280)

/-- The copy of array element `k` of register `r` that master `m` addresses; none where its selection names nothing. -/
def State.resolve (s : State) (m : Initiator) (r : Reg) (k : Nat) : Option Nat :=
  let unit : Option Nat :=
    match r.info.scope with
    | .single => some 0
    | .copy => some m.copy
    | .train => some (s.trainSel m)
    | .berth => if s.portSel m < 23040 then some (s.portSel m) else none
    | .lane => some (s.laneSel m)
    | .quay => some (s.quaySel m)
    | .engine => if s.engineExists (s.engineSel m) then some (s.engineSel m) else none
    | .subcarrier => if s.engineExists (s.engineSel m) then some (s.subcarrierSel m) else none
    | .leaf => if s.engineExists (s.engineSel m) then some (s.leafSel m) else none
    | .quantity =>
      if s.engineExists (s.engineSel m) then some (16 * s.engineSel m + s.rd F.MS_QSEL_Q m.copy) else none
    | .mimoTap =>
      if s.engineExists (s.engineSel m) then some (1024 * s.engineSel m + (s.reg .LE_MIMO_SEL m.copy).toNat) else none
    | .context => if s.contextExists m then some (s.contextSel m) else none
    | .engineDir =>
      let e := s.rd F.SEC_KSEL_ENGINE m.copy
      if s.engineExists e then some (2 * e) else none
    | .group => some (s.groupSel m)
    | .ref => some (s.rd F.TM_RSEL_REF m.copy)
    | .timeSource => some (s.rd F.TM_TSEL_SRC m.copy)
    | .clockOut => some (s.rd F.TM_CLKO_SEL_OUT m.copy)
    | .mport => some (s.mportSel m)
    | .route => some (s.rd F.HR_RSEL_MEMBER m.copy)
    | .nbRange => some (s.rd F.MM_NB_SEL_RANGE m.copy)
    | .eccClass => some (s.rd F.MM_ECC_SEL_CLASS m.copy)
    | .sramMacro => some (s.rd F.MM_MACRO_SEL_ID m.copy)
  unit.map fun u => if r.info.count == 1 then u else u * r.info.count + k

/-- The register and array element at a bus address (R512). -/
def regAt (addr : Nat) : Option (Reg × Nat) :=
  (Reg.all.find? fun r =>
      decide (r.info.addr ≤ addr) && (addr - r.info.addr) % r.info.stride == 0 &&
        decide ((addr - r.info.addr) / r.info.stride < r.info.count)).map
    fun r => (r, (addr - r.info.addr) / r.info.stride)

/-! ### Journaled writes (R429 to R431) -/

/-- The master's writes are journaled: masters 0 to 5 and the hierarchy agent (R429). -/
def Initiator.journals (m : Initiator) : Bool := m.num.val ≤ 5 || m.num.val == 8

/-- The writes to a register are journaled (R429): GRID, QY, LN, FP, PM, TM, HR and SEC blocks, and the LE window outside the
measurement registers, but no per-master select register. -/
def Reg.journaled (r : Reg) : Bool :=
  let a := r.info.addr
  let blk := a / 2 ^ 24
  (r.info.scope != .copy) &&
    (blk == 0x21 || blk == 0x22 || blk == 0x23 || blk == 0x25 || blk == 0x26 || blk == 0x27 || blk == 0x29 || blk == 0x2E ||
      (blk == 0x24 && !(decide (0xA00 ≤ a % 2 ^ 24) && decide (a % 2 ^ 24 ≤ 0xAFF))))

/-- The device stands by in a mate pair, STANDBY or JOINING: it performs no journaled write of its own (R431). -/
def State.standby (s : State) : Bool := s.rd F.MT_STAT_STATE 0 == 2 || s.rd F.MT_STAT_STATE 0 == 3

/-- The device is the active one of a mate pair, and journals (R429). -/
def State.active (s : State) : Bool := s.rd F.MT_STAT_STATE 0 == 1

/-- A journaled-kind write on the standby: not performed, the error response of the default target, LOCAL_WR (R431). -/
def State.refuseLocal (s : State) (m : Initiator) (addr : Nat) : State :=
  (s.busError m true addr .target).raise F.MT_STICKY_LOCAL_WR 0

/-- A write enters the journal, to take effect on both devices at boundary T + JLEAD (R430). -/
def State.journalEntry (s : State) (w : Write) : State :=
  let seq := (s.rd F.MT_JSEQ_JSEQ 0 + 1) % 2 ^ 32
  let lead := s.rd F.MT_CFG_JLEAD 0
  { (s.wr F.MT_JSEQ_JSEQ 0 seq).count ⟨.mt, 5, 0⟩ 1 with
    journal := s.journal ++ [⟨seq, s.tick + BitVec.ofNat 48 lead, s.now + lead, w⟩] }

/-- A write of a journaled kind: refused on a standby, journaled on the active device of a pair, performed at once otherwise. -/
def State.write (s : State) (m : Initiator) (addr : Nat) (w : Write) (eff : State → State) : State :=
  if m.journals && s.standby then s.refuseLocal m addr
  else if m.journals && s.active then (s.journalEntry w).reply m (.ok 0)
  else (eff s).reply m (.ok 0)

end Sys2Proof.Machine
end

