-- ==== Sys2Proof/Machine/Berths.lean ====
section
/-! DEFINITION. Berths, crates and trains (02_berths_crates_trains.md): pointer interpreter, elastic stores and generators, fill
mapping, train monitors. -/

namespace Sys2Proof.Machine

/-! ### Codes of the crate overhead (R50, R54 to R56) -/

/-- One step of a CRC register of `w` bits with generator `g`, most significant bit first. -/
def crcStep (w g acc : Nat) (bit : Bool) : Nat :=
  let top := acc.testBit (w - 1) != bit
  let shifted := acc * 2 % 2 ^ w
  if top then shifted ^^^ g else shifted

/-- The CRC of a bit string, initial value 0. -/
def crc (w g : Nat) (bits : List Bool) : Nat := bits.foldl (crcStep w g) 0

/-- The low `n` bits of a number, most significant first. -/
def bitsOf : Nat → Nat → List Bool
  | 0, _ => []
  | n + 1, v => v.testBit n :: bitsOf n v

/-- FCRC over SEQL and crate nibbles 2, 3 and 4: CRC-4 with x⁴ + x + 1 (R54). -/
def fcrc (seql n2 n3 n4 : Nat) : Nat := crc 4 3 (bitsOf 4 seql ++ bitsOf 4 n2 ++ bitsOf 4 n3 ++ bitsOf 4 n4)

/-- Crate nibbles 2 to 4: AIS, RDI and FC (R53). -/
def cohWord (b : Berth) : Nat := b.ais.toNat * 2048 + b.rdi.toNat * 1024 + b.fc % 1024

/-- The FCRC a crate carries (R53, R54). -/
def crateFcrc (b : Berth) : Nat :=
  let w := cohWord b
  fcrc (b.seq % 16) (w / 256) (w / 16 % 16) (w % 16)

/-- ROT of phases 0 to 13: SEQ[19:4], CI, TID, K and CSF (R56). -/
def rotBody (b : Berth) : List Nat :=
  [b.seq / 65536 % 16, b.seq / 4096 % 16, b.seq / 256 % 16, b.seq / 16 % 16,
   b.ci / 256 % 16, b.ci / 16 % 16, b.ci % 16, b.tid / 256 % 16, b.tid / 16 % 16, b.tid % 16,
   b.k / 256 % 16, b.k / 16 % 16, b.k % 16, b.csf.toNat * 8]

/-- CRC-8 over phases 0 to 13 with x⁸ + x² + x + 1 (R56). -/
def rotCrc (body : List Nat) : Nat := crc 8 7 (body.flatMap (bitsOf 4))

/-- The ROT nibble of a phase: the body, then the CRC-8, high nibble first (R56). -/
def rotNibble (b : Berth) (phase : Nat) : Nat :=
  if phase < 14 then ((rotBody b)[phase]?).getD 0
  else if phase == 14 then rotCrc (rotBody b) / 16
  else rotCrc (rotBody b) % 16

/-- BIP-8 over a byte string: even parity bit by bit (R50, R55). -/
def bip8 (bytes : List Nat) : Nat := bytes.foldl (· ^^^ ·) 0

/-! ### Payload (R57, R72, R73) -/

/-- Fill count of crate `i` when a train of `k` berths carries `cn` nibbles in a tick (R72). -/
def fillCount (cn k i : Nat) : Nat := if i < cn % k then cn / k + 1 else cn / k

/-- Payload position `j` of a crate carries a client nibble (R73). -/
def carriesClient (fc j : Nat) : Bool := decide ((j + 1) * fc % 1000 < fc)

/-- The AIS crate of R57: the inserting device's TICK_NO[19:0], with CI, TID and K of the train replaced, under the pointer its
generator holds. -/
def aisCrate (tick : Tick) (ptr ci tid k : Nat) : Berth :=
  { bsl := 1, ptr := ptr, ais := true, seq := tick.toNat % 2 ^ 20, ci := ci, tid := tid, k := k }

/-- The idle content of R52. -/
def idleBerth : Berth := {}

/-- What a sink takes as the fill counts of a train's crates of one tick when some are invalid (none): the value R72 implies from
the others if exactly one is implied, otherwise that of the last tick (R77). -/
def inferFill (k : Nat) (fcs : List (Option Nat)) (last : List Nat) : List Nat :=
  let valid := fcs.filterMap id
  -- Cn is pinned down by every valid crate i: FC = fillCount cn k i
  let fits (cn : Nat) : Bool :=
    (fcs.zipIdx).all fun (f, i) => match f with | some v => fillCount cn k i == v | none => true
  (fcs.zipIdx).map fun (f, i) =>
    match f with
    | some v => v
    | none =>
      match valid with
      | [] => last.getD i 0
      | v :: _ =>
        let cands := (((List.range (2 * k)).map (fun d => k * (v - 1) + d)).filter fits).map (fillCount · k i)
        match cands.eraseDups with
        | [x] => x
        | _ => last.getD i 0

/-! ### Pointer interpreter (R58 to R64) -/

/-- How many of the low four bits of two numbers agree. -/
def agree4 (a b : Nat) : Nat := ((List.range 4).filter fun i => a.testBit i == b.testBit i).length

/-- The I bits P[9], P[7], P[5], P[3], P[1] in which two pointers differ (R49). -/
def iDiffer (p a : Nat) : Nat := ([9, 7, 5, 3, 1].filter fun i => p.testBit i != a.testBit i).length

/-- The D bits P[8], P[6], P[4], P[2], P[0] in which two pointers differ (R49). -/
def dDiffer (p a : Nat) : Nat := ([8, 6, 4, 2, 0].filter fun i => p.testBit i != a.testBit i).length

/-- The event a pointer word is, against a store's state and active value (R62): NDF in [15:12], SS in [11:10], P in [9:0]. -/
def classifyWord (x : Store) (word : BitVec 16) : PtrEvent :=
  let w := word.toNat
  let ndf := w / 4096
  let p := w % 1024
  let ssOk := w / 1024 % 4 == 2
  if w == 0xFFFF then .aisInd
  else if decide (3 ≤ agree4 ndf 9) && ssOk && decide (p < 1008) then .ndfEnable p
  else if !(decide (3 ≤ agree4 ndf 6) && ssOk) then .invPoint
  else if x.st == .norm then
    if decide (3 ≤ iDiffer p x.active) && decide (dDiffer p x.active ≤ 2) then
      if x.normRun == 3 then .incInd else .invPoint
    else if decide (3 ≤ dDiffer p x.active) && decide (iDiffer p x.active ≤ 2) then
      if x.normRun == 3 then .decInd else .invPoint
    else if p == x.active then .normPoint
    else if p < 1008 then .newPoint p
    else .invPoint
  else if p < 1008 then .newPoint p
  else .invPoint

/-- Runs of consecutive equal events: each event extends its own run and ends the others (R63). -/
def countEvent (x : Store) (e : PtrEvent) : Store :=
  let z := { x with normRun := 0, newRun := 0, aisRun := 0, invRun := 0, ndfRun := 0 }
  match e with
  | .normPoint => { z with normRun := min (x.normRun + 1) 3 }
  | .newPoint p => { z with newVal := p, newRun := if x.newVal == p then x.newRun + 1 else 1 }
  | .aisInd => { z with aisRun := x.aisRun + 1 }
  | .invPoint => { z with invRun := x.invRun + 1 }
  | .ndfEnable _ => { z with ndfRun := x.ndfRun + 1 }
  | .incInd | .decInd => z

/-- A store enters a state with an active pointer; every run starts again. -/
def enterPtr (y : Store) (st : PtrState) (a : Nat) : Store :=
  { y with st := st, active := a, normRun := 0, newRun := 0, aisRun := 0, invRun := 0, ndfRun := 0 }

/-- The interpreter's next state and active value (R63), with the runs counted in. -/
def interpret (x : Store) (e : PtrEvent) : Store :=
  let y := countEvent x e
  match x.st, e with
  | .norm, .incInd => { y with active := (x.active + 1) % 1008 }
  | .norm, .decInd => { y with active := (x.active + 1007) % 1008 }
  | .norm, .ndfEnable p => if 8 ≤ y.ndfRun then enterPtr y PtrState.lop x.active else { y with active := p }
  | .norm, .newPoint p => if y.newRun ≥ 3 then { y with active := p, newRun := 0 } else y
  | .norm, .aisInd => if y.aisRun ≥ 3 then enterPtr y PtrState.ais x.active else y
  | .norm, .invPoint => if y.invRun ≥ 8 then enterPtr y PtrState.lop x.active else y
  | .norm, .normPoint => y
  | .ais, .ndfEnable p => { enterPtr y PtrState.norm p with ndfRun := y.ndfRun }
  | .ais, .newPoint p => if y.newRun ≥ 3 then enterPtr y PtrState.norm p else y
  | .ais, .invPoint => if y.invRun ≥ 8 then enterPtr y PtrState.lop x.active else y
  | .ais, _ => y
  | .lop, .newPoint p => if y.newRun ≥ 3 then enterPtr y PtrState.norm p else y
  | .lop, .aisInd => if y.aisRun ≥ 3 then enterPtr y PtrState.ais x.active else y
  | .lop, .ndfEnable _ => { y with newRun := 0, aisRun := 0 }
  | .lop, _ => y

/-- The step of an input pointer from `a` to `p`, the shorter way round 1,008 positions. -/
def ptrStep (p a : Nat) : Int :=
  let d := (p + 1008 - a % 1008) % 1008
  if d ≤ 504 then d else (d : Int) - 1008

/-- What an accepted event changes in the fill (R67): an increment writes one nibble less, a decrement one more, a step of the
input pointer is absorbed. -/
def fillChange (x y : Store) (e : PtrEvent) : Int :=
  match e with
  | .incInd => -1
  | .decInd => 1
  | _ => if x.active == y.active then 0 else - ptrStep y.active x.active

/-- The effective crate start of a store's generator in the present tick (R58). -/
def Store.start (x : Store) : Nat :=
  match x.adj with
  | .none => x.out
  | .increment => (x.out + 1) % 1008
  | .decrement => (x.out + 1007) % 1008

/-- A pointer moved by a number of nibbles, round 1,008 positions. -/
def movePtr (p : Nat) (d : Int) : Nat := (((p : Int) + d) % 1008).toNat

/-- The store slips: D recentred by discarding D nibbles, or repeating them, so that the crate start moves back by D; the spanning crate
is an AIS crate under the old pointer, the next starts under NDF with the new one (R66). -/
def slip (x : Store) : Store :=
  { x with dev := 0, aisCrate := true, ndfDue := true, ndfPtr := movePtr (if x.ndfDue then x.ndfPtr else x.start) (- x.dev) }

/-- A berth reaches a store: interpretation, then the write into the store, centring on entry to NORM (R67) and the slip of
R66.  `drift` is the remote clock's share in what was written, `centre` the output pointer that puts the first crate 1,008
crate nibbles behind its writing.  In a mate pair the slip is decided at the boundary (R433). -/
def storeReceive (x : Store) (e : PtrEvent) (drift : Int) (centre : Nat) (pair : Bool) : Store :=
  let y := interpret x e
  if y.st != .norm then y
  else if x.st != .norm then { y with dev := 0, ndfPtr := centre, ndfDue := true, aisCrate := true }
  else
    let y := { y with dev := x.dev + fillChange x y e + drift }
    if !pair && decide (496 < y.dev.natAbs) then slip y else y

/-- The store slipped on this berth (R66). -/
def slipped (x : Store) (e : PtrEvent) (drift : Int) : Bool :=
  let y := interpret x e
  y.st == .norm && x.st == .norm && decide (496 < (x.dev + fillChange x y e + drift).natAbs)

/-- The device is in a mate pair: MATE_EN was sampled 1 and a mate state is decided (R416, R425). -/
def State.inPair (s : State) : Bool := s.rd F.MT_STAT_STATE 0 != 0

/-- A STANDBY or JOINING device with its mate link up: it takes the active's decisions (R433). -/
def State.takesDecisions (s : State) : Bool := s.standby && s.mate.linkUp

/-- Fabric side of a berth port: 0 line, 1 mooring, 2 Tide (INDEX of JUST_INC in R584). -/
def State.portKind (s : State) (p : Nat) : Nat := if 20480 ≤ p then 1 else if s.tidePort p then 2 else 0

/-- The group in MERGE mode that joins the instances of a train (R339). -/
def State.mergeOf (s : State) (t : Nat) : Option Nat :=
  (s.image.merge.find? fun r =>
    F.MG_CFG_KIND.get r.cfg == 2 && F.MG_CFG_TRAIN.get r.cfg == t && F.MG_CFG_MODE.get r.cfg == 0).map (·.group)

/-- The engine is the secondary of a line pair (R339, R350). -/
def State.secondary (s : State) (e : Nat) : Bool :=
  s.image.merge.any fun r => F.MG_CFG_KIND.get r.cfg == 1 && F.MG_CFG_ENG_B.get r.cfg == e

/-- The line pair of which an engine is the primary (R339, R350). -/
def State.primaryPair (s : State) (e : Nat) : Option MergeRec :=
  s.image.merge.find? fun r => F.MG_CFG_KIND.get r.cfg == 1 && F.MG_CFG_ENG_A.get r.cfg == e

/-- Berth slots received at a port are marked as failed: SSF of the engine, carrier pair, DEDICATED subcarrier, merged line section
or mooring port behind it, or MID_MIS with MID_AIS (R219, R310, R351, R464). -/
def State.portFailed (s : State) (p : Nat) : Bool :=
  if p < 10240 then false
  else if p < 20480 then
    let e := (p - 10240) / 1280
    let u := if s.on F.LF_CFG_HUB e then 16 + 16 * e + (p - 10240) % 1280 / 80 else e
    let ssf := match s.primaryPair e with | some r => (s.merge r.group).ssf | none => s.on F.LF_STAT_SSF u
    !s.tidePort p && !s.cfgOn F.LF_CA_AIS_DIS e && (ssf || (s.on F.LF_STAT_MID_MIS u && s.cfgOn F.LF_CA_MID_AIS e))
  else
    let q := (p - 20480) / 640
    (s.on F.HR_PORT_STAT_SSF q || !(s.moor q).exp) && !s.cfgOn F.HR_PORT_CFG_AIS_DIS q

/-- BERTH_POINTER_WORD: a berth received at a port with an elastic store (R62 to R67), its BBIP errors counted (R50, R89). -/
def State.berthPointerWord (s : State) (p : Nat) (word : BitVec 16) (label bbip : Nat) (drift : Int) (centre : Nat) : State :=
  let x := s.store p
  if !x.inUse || p < 10240 then s
  else
    let failed := s.portFailed p
    let e := classifyWord x (if failed then 0xFFFF else word)
    let y := storeReceive x e drift centre s.inPair
    let y := { y with reached := true, unequipped := label == 0 && !failed, aisCrate := y.aisCrate || failed }
    let s := s.setStore p y
    let s := (s.incWrap F.BP_ECNT_BBIP p bbip).raiseIf (decide (0 < bbip)) F.BP_STICKY_BBIP p
    let s := match e with
      | .incInd => s.incWrap F.BP_JCNT_IN_INC p 1
      | .decInd => s.incWrap F.BP_JCNT_IN_DEC p 1
      | .ndfEnable _ => if y.st == PtrState.norm then (s.incWrap F.BP_ECNT_NDF p 1).raise F.BP_STICKY_NDF p else s
      | _ => s
    let s := s.raiseIf (y.st == PtrState.ais && x.st != PtrState.ais) F.BP_STICKY_AIS p
    let s := s.raiseIf (y.st == PtrState.lop && x.st != PtrState.lop) F.BP_STICKY_LOP p
    if !s.inPair && slipped x e drift then
      let s := (s.incWrap F.BP_ECNT_SLIP p 1).raise F.BP_STICKY_SLIP p
      s.setTally 19 (s.portKind p) (s.tally 19 (s.portKind p) + 1)
    else s

/-- A tick in which no berth has reached a store: no event, but an AIS_ind where R219 marks the berth as failed (R62). -/
def State.missedBerth (s : State) (p : Nat) : State :=
  let x := s.store p
  if x.reached || !s.portFailed p then s.setStore p { x with reached := false }
  else
    let y := interpret x PtrEvent.aisInd
    (s.setStore p { y with reached := false }).raiseIf (y.st == PtrState.ais && x.st != PtrState.ais) F.BP_STICKY_AIS p

/-! ### Generators (R58 to R61, R65, R71) -/

/-- The generator of a store chooses for the next tick: the adjustment signalled in the ending tick moves the pointer, then NDF if
due, then an adjustment if D asks for one and three ticks have passed since the last signal (R58, R60, R65, R71). -/
def generate (x : Store) : Store :=
  let out := x.start
  if x.st != .norm then { x with out := out, adj := .none, sinceAdj := min (x.sinceAdj + 1) 3 }
  else if x.ndfDue then { x with out := x.ndfPtr, adj := .none, sinceAdj := 0, ndfDue := false, aisCrate := false }
  else if x.sinceAdj < 3 then { x with out := out, adj := .none, sinceAdj := x.sinceAdj + 1, aisCrate := false }
  else if 2 ≤ x.dev then { x with out := out, adj := .decrement, sinceAdj := 0, dev := x.dev - 1, aisCrate := false }
  else if x.dev ≤ -2 then { x with out := out, adj := .increment, sinceAdj := 0, dev := x.dev + 1, aisCrate := false }
  else { x with out := out, adj := .none, aisCrate := false }

/-- The generator sends NDF 0b1001 in the present tick (R61, R65). -/
def Store.sendsNdf (x : Store) : Bool := x.adj == Adjust.none && x.sinceAdj == 0

/-- The decision of a store for the second tick ahead (R65, R66, R433): 0 none, 1 increment, 2 decrement, 3 slip. -/
def Store.choice (x : Store) : Nat :=
  if x.st != PtrState.norm then 0
  else if 496 < x.dev.natAbs then 3
  else if x.plan.any (· != 0) || x.ndfDue || decide (x.sinceAdj = 0) then 0
  else if 2 ≤ x.dev then 2
  else if x.dev ≤ -2 then 1
  else 0

/-- The generator of a store carries out a decision for the next tick (R58, R60, R65, R66, R433). -/
def generateAs (x : Store) (code : Nat) : Store :=
  let y := { x with out := x.start, adj := Adjust.none, sinceAdj := min (x.sinceAdj + 1) 3, aisCrate := false }
  if x.st != PtrState.norm then { y with aisCrate := x.aisCrate }
  else if code == 3 then slip y
  else if x.ndfDue then { y with out := x.ndfPtr, sinceAdj := 0, ndfDue := false }
  else if code == 2 then { y with adj := .decrement, sinceAdj := 0, dev := x.dev - 1 }
  else if code == 1 then { y with adj := .increment, sinceAdj := 0, dev := x.dev + 1 }
  else y

/-- One store at a boundary of a mate pair: it carries out the decision made two boundaries ago, the active's where this device takes
those, and decides for the second tick ahead (R433). -/
def State.generatePair (s : State) (p : Nat) : Store :=
  let x := s.store p
  let code := if s.takesDecisions then
      ((s.mate.stores.find? fun d => d.due == s.now && d.unit == p).map (·.value)).getD 0
    else x.plan.getD 0 0
  let y := generateAs { x with plan := x.plan.drop 1 } code
  { y with plan := [y.plan.getD 0 0, y.choice] }

/-- What a store and its generator publish at a boundary (R88). -/
def State.publishStore (s : State) (p : Nat) : State :=
  let x := s.store p
  let s := s.wr F.BP_PSTAT_STATE p (if x.inUse then x.st.code else 3)
  let s := (s.wr F.BP_PSTAT_PIN p x.active).wr F.BP_PSTAT_POUT p x.out
  s.wr F.BP_PSTAT_DEV p (unsigned 10 x.dev)

/-- One port's generator at a boundary, with the justification counts (R65). -/
def State.tickStore (s : State) (p : Nat) : State :=
  let x := s.store p
  let y := if s.inPair then s.generatePair p else generate x
  let s := s.setStore p y
  let kind := s.portKind p
  let s := if s.inPair && y.ndfDue && !x.ndfDue then
      ((s.incWrap F.BP_ECNT_SLIP p 1).raise F.BP_STICKY_SLIP p).addTally 19 kind 1
    else s
  let s := match y.adj with
    | .increment => (s.incWrap F.BP_JCNT_OUT_INC p 1).setTally 17 kind (s.tally 17 kind + 1)
    | .decrement => (s.incWrap F.BP_JCNT_OUT_DEC p 1).setTally 18 kind (s.tally 18 kind + 1)
    | .none => s
  s.publishStore p

/-! ### Trains of the committed image (R78) -/

/-- The definition of a train in an image. -/
def Image.train (im : Image) (t : Nat) : Option TrainRec := im.trains.find? (·.id == t)

/-- The size of a train, 0 if the committed image does not define it. -/
def State.trainSize (s : State) (t : Nat) : Nat := ((s.image.train t).map (·.k)).getD 0

/-- The train is created by a quay of this device: its source ports are quay ports (R47, R83). -/
def State.quayTrain (s : State) (t : Nat) : Bool := ((s.image.train t).map fun r => decide (r.first < 10240)).getD false

/-! ### Fill mapping (R74, R76) -/

/-- Cn of one tick (R74): the accumulator in units of 2⁻³² nibble, the clamp to ±1 once running, and to 1,000 per berth. -/
def computeCn (x : Train) (cHat k : Nat) : Train :=
  let acc := x.acc + cHat
  let cn : Int := acc / 2 ^ 32
  let cn := if x.running then clampInt (x.cn - 1) (x.cn + 1) cn else cn
  let cn := clampInt 0 (1000 * k) cn
  { x with acc := acc - cn * 2 ^ 32, cn := cn.toNat, running := true }

/-- The Cn a train uses in the present tick, and the train with it taken: outside a mate pair the one just computed, in a pair the one
computed two boundaries ago, or the active's (R433). -/
def State.useCn (s : State) (t : Nat) (y : Train) : Nat × Train :=
  if !s.inPair then (y.cn, y)
  else
    let own := y.ahead.getD 0 y.cn
    let used := if s.takesDecisions then
        ((s.mate.cns.find? fun d => d.due == s.now && d.unit == t).map (·.value)).getD own
      else own
    (used, { y with ahead := [y.ahead.getD 1 y.cn, y.cn] })

/-- Cn of an ODU's train in a tick, a whole client's being computed with its FIFO: while its payload is replaced Cn stays at 1,000 × k
(R74, R76, R167). -/
def State.clientRate (s : State) (t cHat : Nat) (overLimit : Bool) : State :=
  let x := s.train t
  let k := s.trainSize t
  if k == 0 || s.image.trainMap.any (fun r => r.kind == 0 && r.train == t) then s
  else if x.replacing.isSome then s.setTrain t { x with cn := 1000 * k }
  else
    let y := (s.useCn t (computeCn x cHat k)).2
    let s := s.setTrain t y
    if overLimit && y.cn == 1000 * k then
      let (q, c) := match s.image.trainMap.find? fun r => decide (r.kind ≤ 1) && r.train == t with
        | some r => (r.unit, r.slot)
        | none => ((((s.image.train t).map (·.first)).getD 0) / 160, 0)
      let f := F.QY_STICKY_FILL_LIMIT
      (s.setTrain t { y with replacing := some s.now }).raise ⟨f.reg, f.hi + 8 * c, f.lo + 8 * c⟩ q
    else s

/-- FILL_LIMIT_END: at the end of the first ROT block whose 16 ticks all lie in the replacement, 16 to 31 ticks after it began, the
quay resumes mapping (R76). -/
def State.fillLimitEnd (s : State) (t : Nat) : State :=
  match (s.train t).replacing with
  | some since =>
    if s.elapsed since 16 && s.tick.toNat % 16 == 0 then s.setTrain t { s.train t with replacing := none } else s
  | none => s

/-! ### Train monitor (R81 to R84) -/

/-- A train defect holds (TR_STAT). -/
def State.trainDefect (s : State) (f : Field) (t : Nat) : Bool := s.on f t

/-- A defect of SEQ_LOSS, MIS, SKEW or AIS holds (the first row of R83). -/
def State.trainFailed (s : State) (t : Nat) : Bool :=
  s.on F.TR_STAT_SEQ_LOSS t || s.on F.TR_STAT_MIS t || s.on F.TR_STAT_SKEW t || s.on F.TR_STAT_AIS t

/-- The train's sinks replace its crates: a defect holds and AIS_DIS is 0 (R83). -/
def State.trainReplaced (s : State) (t : Nat) : Bool :=
  (match s.mergeOf t with | some g => (s.merge g).takenBad.any id | none => s.trainFailed t) && !s.cfgOn F.TR_CTRL_AIS_DIS t

/-- A train defect is raised or cleared: TR_STAT, the DEF bit of TR_STICKY, and RDI held in the return train for at least 3 ticks
(R82, R83, R87). -/
def State.setDefect (s : State) (f : Field) (t : Nat) (present : Bool) : State :=
  if present then
    if s.on f t then s
    else
      let s := (s.wr f t 1).raise (leafBit .TR_STICKY f.lo) t
      if f.lo < 4 then s.setTrain t { s.train t with rdiUntil := s.now + 3 } else s
  else s.wr f t 0

/-- Train `t` carries RDI because of the monitored train `u`, which names it as its return train (R83). -/
def State.sendsRdi (s : State) (u t : Nat) : Bool :=
  s.cfgOn F.TR_CTRL_RET_EN u && s.cfg F.TR_CTRL_RTRAIN u == t && !s.cfgOn F.TR_CTRL_RDI_DIS u && s.quayTrain t &&
    (s.trainFailed u || decide (s.now < (s.train u).rdiUntil))

/-- Train `t` carries RDI in all its crates. -/
def State.rdiOut (s : State) (t : Nat) : Bool := s.image.trains.any fun r => s.sendsRdi r.id t

/-- A member berth of the train stands in PTR_AIS or PTR_LOP (R64, R82). -/
def State.memberLost (s : State) (t : Nat) : Bool :=
  match s.image.train t with
  | none => false
  | some r =>
    s.stores.any fun ((p, _), x) => decide (r.first ≤ p) && decide (p < r.first + r.k) && x.inUse && x.st != .norm

/-- TRAIN_SEQ_LOSS (R82): raised by 3 ticks of wrong SEQL, 4 blocks failing CRC-8 or 2 valid blocks with wrong SEQ[19:4]; cleared by a
good block, from which the expected SEQ is loaded.  Not evaluated while AIS holds. -/
def State.trainSeqLoss (s : State) (t : Nat) (seen : SeqSight) : State :=
  if s.on F.TR_STAT_AIS t then s
  else
    match seen with
    | .seqlWrong n => if 3 ≤ n then s.setDefect F.TR_STAT_SEQ_LOSS t true else s
    | .crcFailed n => if 4 ≤ n then s.setDefect F.TR_STAT_SEQ_LOSS t true else s
    | .seqWrong n => if 2 ≤ n then s.setDefect F.TR_STAT_SEQ_LOSS t true else s
    | .goodBlock seq =>
      (s.setTrain t { s.train t with expSeq := seq % 2 ^ 20 }).setDefect F.TR_STAT_SEQ_LOSS t false

/-- TRAIN_MIS (R82): 2 consecutive CRC-valid blocks that do not match, or that match on every crate. -/
def State.trainMis (s : State) (t : Nat) (matching : Bool) (blocks : Nat) : State :=
  if s.on F.TR_STAT_AIS t || blocks < 2 then s else s.setDefect F.TR_STAT_MIS t (!matching)

/-- TRAIN_SKEW (R80, R82): 3 consecutive ticks with crate starts spread over more than 504 nibbles, or within. -/
def State.trainSkew (s : State) (t spread ticks : Nat) : State :=
  if s.on F.TR_STAT_AIS t || ticks < 3 then s else s.setDefect F.TR_STAT_SKEW t (decide (504 < spread))

/-- TRAIN_AIS (R82): AIS = 1 in some crate in 2 consecutive ticks, or a member berth in PTR_AIS or PTR_LOP; cleared by 2 ticks with
neither. -/
def State.trainAis (s : State) (t : Nat) (present : Bool) (ticks : Nat) : State :=
  if s.memberLost t then s.setDefect F.TR_STAT_AIS t true
  else if ticks < 2 then s
  else s.setDefect F.TR_STAT_AIS t present

/-- TRAIN_RDI (R82): 3 consecutive ticks. -/
def State.trainRdi (s : State) (t : Nat) (present : Bool) (ticks : Nat) : State :=
  if ticks < 3 then s else s.setDefect F.TR_STAT_RDI t present

/-- TRAIN_CSF (R82): CSF in one CRC-valid block; cleared after a block period of 16 ticks with at least one valid block and none
carrying CSF. -/
def State.trainCsf (s : State) (t : Nat) (present : Bool) (validBlocks ticks : Nat) : State :=
  if validBlocks == 0 then s
  else if present then s.setDefect F.TR_STAT_CSF t true
  else if ticks < 16 then s
  else s.setDefect F.TR_STAT_CSF t false

/-- Errored crates at a monitor: BIP-8 errors are counted only while none of SEQ_LOSS, MIS, SKEW and AIS holds (R77, R82). -/
def State.crateErrors (s : State) (t bip fcErrors : Nat) : State :=
  let s := (s.raiseIf (decide (0 < fcErrors)) F.TR_STICKY_FC_ERR t).raiseIf (decide (0 < bip)) F.TR_STICKY_BIP t
  if s.trainFailed t then s else s.count ⟨.trBip, 0, t⟩ bip

/-- The fill counts of a train's crates in a tick, as its sinks take them (R77). -/
def State.crateFills (s : State) (t : Nat) (fcs : List (Option Nat)) : State :=
  let k := s.trainSize t
  let fcs := (List.range k).map fun i => (fcs.getD i none).filter (· ≤ 1000)
  let s := s.raiseIf (fcs.any Option.isNone) F.TR_STICKY_FC_ERR t
  s.setTrain t { s.train t with fcLast := inferFill k fcs (s.train t).fcLast }

/-- The monitor's verdict moves on: the sinks act on it two ticks later (R81). -/
def State.tickTrain (s : State) (t : Nat) : State :=
  let x := s.train t
  s.setTrain t { x with verdict2 := x.verdict1, verdict1 := s.trainReplaced t, csf2 := x.csf1, csf1 := s.on F.TR_STAT_CSF t }

/-! ### The commands -/

/-- Meaning of BERTH_POINTER_WORD; a Tide store takes its berths from the reassembly buffer of this device (R332). -/
def execBerthPointerWord (p : Fin 23040) (word : BitVec 16) (label : Fin 16) (bbip : Nat) (drift : Int) (centre : Fin 1008)
    (s : State) : Host.Outcome State Fault Refusal :=
  .next (if s.tidePort p.val then s else s.berthPointerWord p.val word label.val bbip drift centre.val)

/-- Meaning of FILL_LIMIT_END. -/
def execFillLimitEnd (t : Fin 4096) (s : State) : Host.Outcome State Fault Refusal := .next (s.fillLimitEnd t.val)

/-- Meaning of TRAIN_SEQ_LOSS. -/
def execTrainSeqLoss (t : Fin 4096) (seen : SeqSight) (s : State) : Host.Outcome State Fault Refusal :=
  .next (s.trainSeqLoss t.val seen)

/-- Meaning of TRAIN_MIS. -/
def execTrainMis (t : Fin 4096) (matching : Bool) (blocks : Nat) (s : State) : Host.Outcome State Fault Refusal :=
  .next (s.trainMis t.val matching blocks)

/-- Meaning of TRAIN_SKEW. -/
def execTrainSkew (t : Fin 4096) (spread ticks : Nat) (s : State) : Host.Outcome State Fault Refusal :=
  .next (s.trainSkew t.val spread ticks)

/-- Meaning of TRAIN_AIS. -/
def execTrainAis (t : Fin 4096) (present : Bool) (ticks : Nat) (s : State) : Host.Outcome State Fault Refusal :=
  .next (s.trainAis t.val present ticks)

/-- Meaning of TRAIN_RDI. -/
def execTrainRdi (t : Fin 4096) (present : Bool) (ticks : Nat) (s : State) : Host.Outcome State Fault Refusal :=
  .next (s.trainRdi t.val present ticks)

/-- Meaning of TRAIN_CSF. -/
def execTrainCsf (t : Fin 4096) (present : Bool) (validBlocks ticks : Nat) (s : State) : Host.Outcome State Fault Refusal :=
  .next (s.trainCsf t.val present validBlocks ticks)

/-- Meaning of TR_BIP_LO_READ. -/
def execTrBipLoRead (m : Initiator) (s : State) : Host.Outcome State Fault Refusal :=
  .next (s.readLatched m F.TR_BIP_HI_CNT_HI (s.ctr ⟨.trBip, 0, s.trainSel m⟩))

end Sys2Proof.Machine
end

