-- ==== Sys2Proof/Machine/Fabric.lean ====
section
/-! DEFINITION. Manifest, stowage and the bank swap (03_manifest_and_fabric.md), and how the fabric moves the berths of a tick. -/

namespace Sys2Proof.Machine

/-! ### Manifest entries (R94) -/

/-- The word holds an even number of 1 bits. -/
def evenOnes (w : Word) : Bool := ((List.range 32).filter w.toNat.testBit).length % 2 == 0

/-- MROLE of an entry. -/
def entryRole (w : Word) : Nat := w.toNat / 2 ^ 29 % 4

/-- ACT of an entry. -/
def entryAct (w : Word) : ManAct :=
  match w.toNat / 2 ^ 27 % 4 with
  | 0 => .connect | 1 => .idle | 2 => .ais | _ => .reserved

/-- TRAIN of an entry. -/
def entryTrain (w : Word) : Nat := w.toNat / 2 ^ 15 % 4096

/-- SRC of an entry. -/
def entrySrc (w : Word) : Nat := w.toNat % 2 ^ 15

/-- The physical bank now live. -/
def State.liveBank (s : State) : Nat := s.rd F.GRID_SWAP_STAT_LIVE_BANK 0

/-- The entries of a bank that are not 0x8800_0000, with their egress ports, in rising order. -/
def State.bankEntries (s : State) (b : Nat) : List (Nat × Word) :=
  s.banks.filterMap fun ((b', p), w) => if b' == b then some (p, w) else none

/-- A live manifest entry as the grid acts on it: an uncorrectable one is ACT = AIS with the stowage engine's TRAIN (R109). -/
def State.entryIn (s : State) (b p : Nat) : Word :=
  match s.swap.eccEntries.find? (·.1 == p) with
  | some (_, train) => if b == s.liveBank then BitVec.ofNat 32 (2 * 2 ^ 27 + train * 2 ^ 15) else s.manifest b p
  | none => s.manifest b p

/-- A manifest entry of the live bank. -/
def State.liveEntry (s : State) (p : Nat) : Word := s.entryIn s.liveBank p

/-! ### Validation (R48, R93, R96) -/

/-- Berth slots of an engine in an image: 80 per rate step, 240 or 400 in interop mode, none for an unused engine (R48, R227). -/
def Image.berthSlots (im : Image) (e : Nat) : Nat :=
  match im.engines.find? (·.1 == e) with
  | none => 0
  | some (_, r) =>
    match F.LF_CFG_FMT.get r.lfCfg with
    | 0 => 80 * (F.LF_CFG_RSTEP.get r.lfCfg + 1)
    | 1 => 240
    | 2 => 400
    | _ => 0

/-- A berth port that an image leaves unused (cause 3 of R96). -/
def State.portUnused (s : State) (im : Image) (p : Nat) : Bool :=
  if p < 10240 then false
  else if p < 20480 then
    let e := (p - 10240) / 1280
    !s.engineExists e || decide (im.berthSlots e ≤ (p - 10240) % 1280)
  else im.mode != 8

/-- The TRAIN merge group of an image that joins the instances of a train (R339). -/
def Image.mergeGroup (im : Image) (t : Nat) : Option MergeRec :=
  im.merge.find? fun r => F.MG_CFG_KIND.get r.cfg == 2 && F.MG_CFG_TRAIN.get r.cfg == t

/-- The SRC of an entry lies in the instance range its MROLE names; then its companion in the other range (R352). -/
def Image.companion (im : Image) (w : Word) : Option Nat :=
  match im.mergeGroup (entryTrain w), im.train (entryTrain w) with
  | some g, some t =>
    let a := F.MG_INST_A0.get g.inst
    let b := F.MG_INST_B0.get g.inst
    let src := entrySrc w
    if entryRole w == 1 && decide (a ≤ src) && decide (src < a + t.k) then some (b + (src - a))
    else if entryRole w == 2 && decide (b ≤ src) && decide (src < b + t.k) then some (a + (src - b))
    else none
  | _, _ => none

/-- The berths that the entries of a bank connect, each with its egress port; companions count (R93, R352). -/
def connections (im : Image) (es : List (Nat × Word)) : List (Nat × Nat) :=
  (es.filter fun e => entryAct e.2 == .connect).flatMap fun e =>
    (entrySrc e.2, e.1) :: (match im.companion e.2 with | some c => [(c, e.1)] | none => [])

/-- The fan-out of an ingress berth among connections (R93). -/
def fanOut (cs : List (Nat × Nat)) (src : Nat) : Nat := (cs.filter (·.1 == src)).length

/-- The extra branches of a bank: connections beyond the first of each ingress berth (R93). -/
def extraBranches (cs : List (Nat × Nat)) : Nat := cs.length - (cs.map (·.1)).eraseDups.length

/-- Placement is certain: each fan-out at most 4 and at most 2,304 extra branches (R92, R93). -/
def placesSurely (cs : List (Nat × Nat)) : Bool :=
  cs.all (fun c => decide (fanOut cs c.1 ≤ 4)) && decide (extraBranches cs ≤ 2304)

/-- An entry meets a cause of R96 (the codes of its table). -/
def State.entryFails (s : State) (im : Image) (es : List (Nat × Word)) (cause : Nat) (e : Nat × Word) : Bool :=
  let (p, w) := e
  let act := entryAct w
  match cause with
  | 1 => !evenOnes w || s.swap.shadowBad.contains p
  | 2 => act == .connect && decide (23039 < entrySrc w)
  | 3 => act != .idle && (s.portUnused im p || (act == .connect && s.portUnused im (entrySrc w)))
  | 4 => act == .reserved
  | 5 => act == .connect &&
      decide (16 < (es.filter fun x => entryAct x.2 == .connect && entrySrc x.2 == entrySrc w).length)
  | 6 => act != .idle && (im.train (entryTrain w)).isNone
  | 7 => entryRole w == 3 || (entryRole w != 0 && (im.mergeGroup (entryTrain w)).isNone)
  | _ => false

/-- The first cause of R96 that a bank's entries meet, with the first egress port that meets it. -/
def State.bankInvalid (s : State) (im : Image) (es : List (Nat × Word)) : Option (Nat × Nat) :=
  -- an unlisted entry is 0x8800_0000, which meets no cause but an ECC error of its own
  let es' := es ++ (s.swap.shadowBad.filter fun p => !(es.any (·.1 == p))).map (·, 0x88000000#32)
  [1, 2, 3, 4, 5, 6, 7].findSome? fun cause => (es'.find? (s.entryFails im es' cause)).map fun e => (cause, e.1)

/-- Entries that differ between the two banks. -/
def State.bankDiff (s : State) : List Nat :=
  let sh := s.bankEntries (1 - s.liveBank)
  let lv := s.bankEntries s.liveBank
  (sh.filter fun e => s.manifest s.liveBank e.1 != e.2).map (·.1) ++
    (lv.filter fun e => !(sh.any (·.1 == e.1))).map (·.1)

/-- Every difference removes a connection (R116). -/
def State.onlyRemoves (s : State) : Bool :=
  s.bankDiff.all fun p => entryAct (s.manifest (1 - s.liveBank) p) != .connect

/-! ### Swap state (R99, R110 to R118) -/

/-- GRID_SWAP_STAT.STATE. -/
def State.swapState (s : State) : SwapState := SwapState.ofCode (s.rd F.GRID_SWAP_STAT_STATE 0)

/-- The swap machinery after a change. -/
def State.modSwap (s : State) (f : Swap → Swap) : State := { s with swap := f s.swap }

/-- GRID_SWAP_STAT.STATE and RESULT take values. -/
def State.setSwapState (s : State) (x : SwapState) : State := s.wr F.GRID_SWAP_STAT_STATE 0 x.code

/-- RESULT, the outcome of the last command: 1 DONE, 2 TICK_LATE, 3 MAN_INVALID, 4 PLACE_FAIL, 5 SWAP_MISSED, 6 CANCELLED, 7 BUSY, 8 RESET. -/
def State.swapResult (s : State) (r : Nat) : State := s.wr F.GRID_SWAP_STAT_RESULT 0 r

/-- A swap is prepared or armed. -/
def State.swapPending (s : State) : Bool :=
  s.on F.GRID_SWAP_STAT_ARMED 0 || s.swapState == .check || s.swapState == .place || s.swapState == .ready ||
    s.swap.checkAt.isSome

/-- The image of a validation: the applied one while an apply or its commit holds the registers, else the committed one (R96). -/
def State.swapImage (s : State) : Image :=
  if s.swap.holder == .image then s.applied.getD s.image else s.image

/-- The swap ends without a switch: computation discarded, shadow bank unlocked, not armed, IDLE. -/
def State.endSwap (s : State) : State :=
  let s := (s.setSwapState .idle).wr F.GRID_SWAP_STAT_ARMED 0 0
  s.modSwap fun x => { x with locked := false, pending := none, checkAt := none }

/-- CAUSE and INDEX of GRID_SWAP_INFO. -/
def State.swapInfo (s : State) (cause index : Nat) : State :=
  (s.wr F.GRID_SWAP_INFO_CAUSE 0 cause).wr F.GRID_SWAP_INFO_INDEX 0 index

/-- The grid locks the shadow bank, validates it and starts its computation, or ends with MAN_INVALID (R96, R113). -/
def State.swapCheck (s : State) : State :=
  let s := s.modSwap fun x => { x with locked := true, checkAt := none, pending := none, startedAt := s.now }
  let es := s.bankEntries (1 - s.liveBank)
  let diff := s.bankDiff.length
  let s := s.wr F.GRID_SWAP_CNT_DIFF 0 diff
  let s := s.wr F.GRID_MC_STAT_SHADOW_EXTRA 0 (extraBranches (connections s.swapImage es))
  match s.bankInvalid s.swapImage es with
  | some (cause, index) => ((s.swapInfo cause index).swapResult 3).endSwap.raise F.GRID_STICKY_MAN_INVALID 0
  | none => (s.wrBool F.GRID_SWAP_STAT_CLASS 0 (decide (2304 < diff))).setSwapState .place

/-- A repack is abandoned (R105, R106). -/
def State.abandonRepack (s : State) : State :=
  ((s.wr F.GRID_STOW_STAT_REPACK_BUSY 0 0).modSwap fun x => { x with repacking := false, repackDone := none }).raise
    F.GRID_STICKY_REPACK_ABORT 0

/-- A completed repack switches: the plan alone changes (R105). -/
def State.switchRepack (s : State) (r : StowResult) : State :=
  let s := s.modSwap fun x =>
    { x with plan := r.plan, repacking := false, repackDone := none, switchedAt := some s.now }
  (s.wr F.GRID_STOW_STAT_REPACK_BUSY 0 0).raise F.GRID_STICKY_REPACK_DONE 0

/-- An accepted PREPARE or ARM starts: a repack in progress first switches, and the check waits two more boundaries, or is
abandoned (R106). -/
def State.swapStart (s : State) : State :=
  if s.swap.repacking then
    match s.swap.repackDone with
    | some r => (s.switchRepack r).modSwap fun x => { x with checkAt := some (s.now + 2) }
    | none => s.abandonRepack.swapCheck
  else s.swapCheck

/-- PREPARE at its boundary (R110). -/
def State.gridPrepare (s : State) : State :=
  if s.swapState != .idle || s.on F.GRID_SWAP_STAT_ARMED 0 || s.swap.checkAt.isSome then s.swapResult 7
  else s.swapStart

/-- A lead of R111 or of R30: 8 to 2^47 ticks from the tick of writing. -/
def leadFrom (written n : Tick) (lead : Nat) : Bool :=
  decide (lead ≤ ahead n written) && decide (ahead n written ≤ 2 ^ 47)

/-- A request keyed to a boundary is late: GRID_STICKY.TICK_LATE (R30). -/
def State.tickLate (s : State) : State := s.raise F.GRID_STICKY_TICK_LATE 0

/-- ARM at its boundary (R110, R111). -/
def State.gridArm (s : State) (n written : Tick) : State :=
  if s.on F.GRID_SWAP_STAT_ARMED 0 || (s.swapState != .idle && s.swapState != .ready) then s.swapResult 7
  else if !leadFrom written n 8 then (s.swapResult 2).tickLate
  else
    let s := (s.wr F.GRID_SWAP_STAT_ARMED 0 1).modSwap fun x => { x with due := n }
    if s.swapState == .ready || s.swap.checkAt.isSome then s else s.swapStart

/-- CANCEL at its boundary: written in tick N−2 or earlier (R110); in tick N−1 or later it is ignored. -/
def State.gridCancel (s : State) (written : Tick) : State :=
  if !s.swapPending then s.swapResult 7
  else if s.on F.GRID_SWAP_STAT_ARMED 0 && !leadFrom written s.swap.due 2 then s
  else s.endSwap.swapResult 6

/-- A command while an apply, a commit or an open domain commit holds the swap registers: BUSY (R118). -/
def State.gridCommand (s : State) (k : Keyed) : State :=
  if s.swap.holder == .nobody then s.later k else s.swapResult 7

/-- REPACK (R105). -/
def State.gridRepack (s : State) : State :=
  if s.swapPending || (s.rd F.SY_LOOP_STAT_FROZEN 0).testBit 7 then s.wr F.GRID_STOW_STAT_REPACK_REJ 0 1
  else
    let s := (s.wr F.GRID_STOW_STAT_REPACK_REJ 0 0).wr F.GRID_STOW_STAT_REPACK_BUSY 0 1
    if s.swap.repacking then s
    else s.modSwap fun x => { x with repacking := true, repackDone := none, startedAt := s.now }

/-- LAST_TICKS and LAST_WRITES of a computation that ends now. -/
def State.stowDone (s : State) (r : StowResult) : State :=
  (s.wr F.GRID_STOW_STAT_LAST_TICKS 0 (clampNat 1 256 (s.now - s.swap.startedAt))).wr F.GRID_STOW_STAT_LAST_WRITES 0 r.writes

/-- The grid cannot place the bank (R115, R116): cause 8 MULTICAST or 9 FROZEN. -/
def State.placeFail (s : State) (cause : Nat) (unplaced : List Nat) : State :=
  let low := (unplaced.min?).getD 0
  let s := ((s.swapInfo cause low).wr F.GRID_SWAP_CNT_FAIL 0 unplaced.length).swapResult 4
  s.endSwap.raise F.GRID_STICKY_PLACE_FAIL 0

/-- STOWAGE_COMPLETE: the computation in progress ends, with the stowage engine's plan or the entries it left unplaced (R92, R93,
R100, R101, R113, R115, R116). -/
def State.stowageComplete (s : State) (r : StowResult) : State :=
  if s.swapState == .place then
    let es := s.bankEntries (1 - s.liveBank)
    let left := r.unplaced.filter fun p => es.any fun e => e.1 == p && entryAct e.2 == .connect
    let frozen := (s.rd F.SY_LOOP_STAT_FROZEN 0).testBit 7
    let s := s.stowDone r
    let s := if r.fellBack then s.wr F.GRID_SWAP_STAT_CLASS 0 1 else s
    let ready := (s.setSwapState .ready).modSwap fun x => { x with pending := some { r with moves := r.moves && !frozen } }
    if frozen then
      if s.onlyRemoves || (left.isEmpty && !r.moves) then ready else s.placeFail 9 left
    else if left.isEmpty || placesSurely (connections s.swapImage es) then ready
    else s.placeFail 8 left
  else if s.swap.repacking && s.swap.repackDone.isNone then
    (s.stowDone r).modSwap fun x => { x with repackDone := some r }
  else s

/-- SWAP_SWITCH: clocks 5,136 and 5,167 of tick N−1 of an armed swap (R113, R114, R116). -/
def State.swapSwitch (s : State) : State :=
  if !s.on F.GRID_SWAP_STAT_ARMED 0 || s.swap.due != s.tick + 1 || s.swap.staging then s
  else
    match s.swap.pending with
    | none => (s.endSwap.swapResult 5).raise F.GRID_STICKY_SWAP_MISSED 0
    | some r =>
      if (s.rd F.SY_LOOP_STAT_FROZEN 0).testBit 7 && r.moves then s.placeFail 9 []
      else
        let live := connections s.swapImage (s.bankEntries (1 - s.liveBank))
        let s := s.modSwap fun x =>
          { x with plan := r.plan, pending := none, staging := true, switchedAt := some (s.now + 1), eccEntries := [],
                   shadowBad := x.eccEntries.map (·.1),
                   copyBack := s.on F.GRID_SWAP_CMD_COPYBACK 0 && x.holder != .domain && !s.imageJob.domain }
        let s := s.wr F.GRID_MC_STAT_LIVE_EXTRA 0 (extraBranches live)
        (s.wr F.GRID_SWAP_STAT_LIVE_BANK 0 (1 - s.liveBank)).later (.swapDone s.swap.due)

/-- MID_ON_SWAP: engines copy LF_MID_NEXT into LF_MID_TX at the boundary of a swap (R201). -/
def State.midOnSwap (s : State) : State :=
  s.each (List.range 8) fun s e =>
    if s.engineExists e && s.cfgOn F.LF_CA_MID_ON_SWAP e then s.setReg .LF_MID_TX e (s.reg .LF_MID_NEXT e) else s

/-- An entry that names an instance outside its group's range carries SRC, and the group's ROLE_ERR is set (R352). -/
def State.roleErrors (s : State) : State :=
  s.each (s.bankEntries s.liveBank) fun s e =>
    if entryRole e.2 != 0 && entryAct e.2 == .connect && (s.image.companion e.2).isNone then
      match s.image.mergeGroup (entryTrain e.2) with
      | some g => s.raise F.MG_STICKY_ROLE_ERR g.group
      | none => s
    else s

/-- The boundary N of a switch (R113): berths entering from now use the new bank; DONE.  The roles of an image commit are checked with its
image (R352). -/
def State.swapDone (s : State) (n : Tick) : State :=
  let s := (s.wr F.GRID_SWAP_DONE_LO_DONE_LO 0 n.toNat).modSwap fun x => { x with doneHi := n.toNat / 2 ^ 32 }
  let s := ((s.setSwapState .copy).wr F.GRID_SWAP_STAT_ARMED 0 0).swapResult 1
  let s := if s.swap.holder == .image then s.midOnSwap else s.midOnSwap.roleErrors
  s.raise F.GRID_STICKY_SWAP_DONE 0

/-- A bank takes the content of another. -/
def copyBank (t : Table Word) (src dst : Nat) : Table Word :=
  let kept := t.filter fun ((b, _), _) => b != dst
  let made := (t.filter fun ((b, _), _) => b == src).map fun ((_, p), w) => ((dst, p), w)
  if dst < src then made ++ kept else kept ++ made

/-- SWAP_STAGING_END: tick N+2 of a swap (R102, R113): COPYBACK done, IDLE, shadow bank unlocked unless a domain commit is open
(R478). -/
def State.swapStagingEnd (s : State) : State :=
  match s.swap.switchedAt with
  | some n =>
    if s.swapState == .copy && s.elapsed n 2 then
      let s := if s.swap.copyBack then { s with banks := copyBank s.banks s.liveBank (1 - s.liveBank) } else s
      (s.setSwapState .idle).modSwap fun x =>
        { x with locked := x.holder == .domain, staging := false,
                 shadowBad := if x.copyBack then [] else x.shadowBad }
    else s
  | none => s

/-- REPACK_SWITCH: the swap window of a tick finds a completed repack (R105); no switch within three boundaries of another
(R102). -/
def State.repackSwitch (s : State) : State :=
  match s.swap.repackDone with
  | some r =>
    let clear := match s.swap.switchedAt with | some n => decide (n + 3 ≤ s.now + 1) | none => true
    if s.swap.repacking && clear && !s.swapPending then
      (s.switchRepack r).modSwap fun x => { x with switchedAt := some (s.now + 1) }
    else s
  | none => s

/-- SRSTn: every prepared or armed swap and every repack in progress is cancelled, but the one an open domain commit holds; a
switch that has happened completes its staging (R117). -/
def State.swapSrst (s : State) : State :=
  let s := if s.swap.repacking then
      (s.wr F.GRID_STOW_STAT_REPACK_BUSY 0 0).modSwap fun x => { x with repacking := false, repackDone := none }
    else s
  if s.swap.holder == .domain || s.swap.staging || !s.swapPending then s
  else (s.endSwap.swapResult 8).modSwap fun x => { x with holder := .nobody }

/-- A write to the shadow manifest window (R98, R99): refused with the error response while the bank is locked. -/
def State.manifestWrite (s : State) (m : Initiator) (p : Nat) (v : Word) : State :=
  if s.swap.locked then (s.busError m true (0x21100000 + 4 * p) .target).raise F.GRID_STICKY_LOCKED_WR 0
  else (s.setManifest (1 - s.liveBank) p v).modSwap fun x => { x with shadowBad := x.shadowBad.filter (· != p) }

/-! ### The fabric (R90, R91, R97, R107 to R109) -/

/-- The egress unit of a berth port: quay gang, engine or carrier pair, mooring port, as a half-open range of ports (R97). -/
def Image.egressUnit (im : Image) (p : Nat) : Nat × Nat :=
  if p < 10240 then
    match im.quays.find? (·.1 == p / 160) with
    | some (_, q) => (F.QY_CFG_LEAD.get q.cfg * 160, F.QY_CFG_LEAD.get q.cfg * 160 + 160 * 2 ^ F.QY_CFG_GANG.get q.cfg)
    | none => (p / 160 * 160, p / 160 * 160 + 160)
  else if p < 20480 then
    let e := (p - 10240) / 1280
    match im.engines.find? (·.1 == e) with
    | some (_, r) =>
      if F.LF_CFG_PAIR.get r.lfCfg == 1 then (10240 + 2560 * (e / 2), 12800 + 2560 * (e / 2))
      else (10240 + 1280 * e, 11520 + 1280 * e)
    | none => (10240 + 1280 * e, 11520 + 1280 * e)
  else (20480 + 640 * ((p - 20480) / 640), 21120 + 640 * ((p - 20480) / 640))

/-- CI of the AIS crate of an egress port: its rank among the ports of its egress unit that name TRAIN, modulo k (R97). -/
def State.aisRank (s : State) (b p train : Nat) : Nat :=
  let (lo, hi) := s.image.egressUnit p
  let k := s.trainSize train
  let ports := (s.bankEntries b).filter fun e =>
    decide (lo ≤ e.1) && decide (e.1 < p) && decide (e.1 < hi) && entryAct e.2 != .idle && entryTrain e.2 == train
  if k == 0 then 0 else ports.length % k

/-- TID that the crates of a train carry. -/
def State.tidOf (s : State) (t : Nat) : Nat := ((s.image.train t).map (·.expTid)).getD t

/-- An egress berth port of a line die whose link is down carries AIS crates (R15). -/
def State.dieDown (s : State) (p : Nat) : Bool :=
  decide (10240 ≤ p) && decide (p < 20480) && (s.link ((p - 10240) / 2560)).down

/-- The ingress port an entry carries, and the source that R70 follows: for an entry of a train group the port of the selected
instance (R352 to R354); in MERGE mode selection is no change of source. -/
def State.selectedSource (s : State) (w : Word) : Nat × Nat :=
  let src := entrySrc w
  match s.image.companion w, s.image.mergeGroup (entryTrain w) with
  | some other, some g =>
    let x := s.merge g.group
    let first := if entryRole w == 1 then F.MG_INST_A0.get g.inst else F.MG_INST_B0.get g.inst
    if F.MG_CFG_MODE.get g.cfg == 1 then
      let src' := if x.selB == (entryRole w == 2) then src else other
      (src', src')
    else (if x.takesB.getD (src - first) false == (entryRole w == 2) then src else other, src)
  | _, _ => (src, src)

/-- What the fabric brings to egress port `p` under bank `b`, before the NDF of a changed source (R91, R97, R108). -/
def State.route (s : State) (b p : Nat) : Berth × Nat :=
  let w := s.entryIn b p
  let t := entryTrain w
  let ais := aisCrate s.tick 0 (s.aisRank b p t) (s.tidOf t) (s.trainSize t)
  match entryAct w with
  | .idle | .reserved => (idleBerth, 0)
  | .connect =>
    let (port, source) := s.selectedSource w
    (if s.swap.ctlBad.contains p || s.dieDown p then ais else s.ingressBerth port, source + 1)
  | .ais => (ais, 32768)

/-- An egress berth as its sink takes it: while the monitor's verdict of two ticks ago stands, an AIS crate of its train replaces the
crate under the pointer it has; the verdict on a merged train travels with each crate (R57, R81, R83, R353). -/
def State.sinkBerth (s : State) (b p : Nat) (c : Berth) : Berth :=
  let w := s.entryIn b p
  let t := entryTrain w
  let (i, replaced) : Nat × Bool := match s.image.companion w, s.image.mergeGroup t with
    | some _, some g =>
      let i := entrySrc w - (if entryRole w == 1 then F.MG_INST_A0.get g.inst else F.MG_INST_B0.get g.inst)
      (i, if F.MG_CFG_MODE.get g.cfg == 0 then (s.merge g.group).heldBad.getD i false && !s.cfgOn F.TR_CTRL_AIS_DIS t
          else (s.train t).verdict1)
    | _, _ => (entrySrc w - ((s.image.train t).map (·.first)).getD 0, (s.train t).verdict1)
  if entryAct w == .connect && replaced then
    { aisCrate s.tick c.ptr i (s.tidOf t) (s.trainSize t) with ndf := c.ndf }
  else c

/-- The fabric moves one tick on (R91): what was staged leaves, and the berths that entered are staged by the bank they entered
under, with NDF where the source of the egress berth changed (R70). -/
def State.moveFabric (s : State) : State :=
  let b := s.swap.routeBank
  let ports := ((s.bankEntries b).map (fun e => e.1) ++ s.sources.map (fun x => x.1.1)).eraseDups
  let old := s.swap.stagedBank
  let s := (({ s with egress := [], staged := [] }).each s.staged fun t x => t.setEgressBerth x.1.1 (s.sinkBerth old x.1.1 x.2))
  let s := s.each ports fun s p =>
    let (c, src) := s.route b p
    let c := if src != s.sourceOf p && src != 0 then { c with ndf := true } else c
    (s.setStagedBerth p c).setSourceOf p src
  { s with ingress := [], swap := { s.swap with stagedBank := b, routeBank := s.liveBank, ctlBad := [] } }

/-- A single-bit error corrected (R107). -/
def State.ctlCorrected (s : State) : State := (s.incWrap F.GRID_ECC_CORR 0 1).raise F.GRID_STICKY_CTL_CORR 0

/-- An uncorrectable control memory entry (R108). -/
def State.ctlUncorrectable (s : State) (stage port : Nat) : State :=
  let s := (s.incWrap F.GRID_ECC_UNCORR 0 1).setReg .GRID_ECC_ADDR 0 (BitVec.ofNat 32 (stage * 2 ^ 29 + port))
  (s.modSwap fun x => { x with ctlBad := port :: x.ctlBad }).raise F.GRID_STICKY_CTL_UNCORR 0

/-- An uncorrectable live manifest entry (R109). -/
def State.manifestUncorrectable (s : State) (p train : Nat) : State :=
  let s := (s.incWrap F.GRID_ECC_UNCORR 0 1).setReg .GRID_ECC_ADDR 0 (BitVec.ofNat 32 (2 ^ 31 + p))
  (s.modSwap fun x => { x with eccEntries := (p, train) :: x.eccEntries.filter (·.1 != p) }).raise F.GRID_STICKY_MAN_ECC 0

/-- An uncorrectable shadow entry: it fails the next validation as PARITY (R109). -/
def State.shadowUncorrectable (s : State) (p : Nat) : State :=
  s.modSwap fun x => { x with shadowBad := p :: x.shadowBad.filter (· != p) }

/-! ### The commands -/

/-- Meaning of MANIFEST_SHADOW_WRITE. -/
def execManifestShadowWrite (m : Initiator) (p : Fin 23040) (v : Word) (s : State) : Host.Outcome State Fault Refusal :=
  .next (if s.swap.locked then s.manifestWrite m p.val v
    else s.write m (0x21100000 + 4 * p.val) (.manifest p.val v) fun s => s.manifestWrite m p.val v)

/-- Meaning of PREPARE. -/
def execPrepare (m : Initiator) (s : State) : Host.Outcome State Fault Refusal :=
  .next (s.write m 0x21000018 .prepare fun s => s.gridCommand .gridPrepare)

/-- GRID_SWAP_AT. -/
def State.swapAt (s : State) : Tick := tickOf (s.rd F.GRID_SWAP_AT_LO_AT_LO 0) (s.rd F.GRID_SWAP_AT_HI_AT_HI 0)

/-- Meaning of ARM. -/
def execArm (m : Initiator) (s : State) : Host.Outcome State Fault Refusal :=
  .next (s.write m 0x21000018 .arm fun s => s.gridCommand (.gridArm s.swapAt s.tick))

/-- Meaning of CANCEL. -/
def execCancel (m : Initiator) (s : State) : Host.Outcome State Fault Refusal :=
  .next (s.write m 0x21000018 .cancel fun s => s.gridCommand (.gridCancel s.tick))

/-- Meaning of STOWAGE_COMPLETE. -/
def execStowageComplete (r : StowResult) (s : State) : Host.Outcome State Fault Refusal := .next (s.stowageComplete r)

/-- Meaning of SWAP_SWITCH. -/
def execSwapSwitch (s : State) : Host.Outcome State Fault Refusal := .next s.swapSwitch

/-- Meaning of SWAP_STAGING_END. -/
def execSwapStagingEnd (s : State) : Host.Outcome State Fault Refusal := .next s.swapStagingEnd

/-- Meaning of REPACK. -/
def execRepack (m : Initiator) (s : State) : Host.Outcome State Fault Refusal :=
  .next (s.write m 0x21000030 .repack State.gridRepack)

/-- Meaning of REPACK_SWITCH. -/
def execRepackSwitch (s : State) : Host.Outcome State Fault Refusal := .next s.repackSwitch

/-- Meaning of GRID_SWAP_DONE_LO_READ. -/
def execGridSwapDoneLoRead (m : Initiator) (s : State) : Host.Outcome State Fault Refusal :=
  .next ((s.wr F.GRID_SWAP_DONE_HI_DONE_HI m.copy s.swap.doneHi).replyWord m (s.rd F.GRID_SWAP_DONE_LO_DONE_LO 0))

end Sys2Proof.Machine
end

