-- ==== Sys2Proof/Machine/Quays.lean ====
section
/-! DEFINITION. Quays and client mapping (05_quays_and_clients.md): client signal fail, mapping, egress replacement, idle mapping
FIFOs, timestamp units and the packet interface. -/

namespace Sys2Proof.Machine

/-! ### Clients of a quay (R148 to R151) -/

/-- The number of a client: its lead quay times 2 plus its slot. -/
def clientNo (q c : Nat) : Nat := 2 * q + c

/-- Slot 1 controls and status are laid out as those of slot 0, eight bits higher. -/
def slotField (f : Field) (c : Nat) : Field := ⟨f.reg, f.hi + 8 * c, f.lo + 8 * c⟩

/-- Client type of a slot (QY_CFG.C0_TYPE, C1_TYPE). -/
def State.clientType (s : State) (q c : Nat) : Nat := s.rd (slotField F.QY_CFG_C0_TYPE c) q

/-- Mapping of a slot: 0 BIT, 1 BLOCK, 2 IDLE, 3 TERM. -/
def State.clientMap (s : State) (q c : Nat) : Nat := s.rd (slotField F.QY_CFG_C0_MAP c) q

/-- The quay leads its gang. -/
def State.leads (s : State) (q : Nat) : Bool := s.rd F.QY_CFG_LEAD q == q

/-- A client exists in a slot of a lead quay. -/
def State.clientExists (s : State) (q c : Nat) : Bool := s.leads q && s.clientType q c != 0

/-- Quays of a gang. -/
def State.gangSize (s : State) (q : Nat) : Nat := 2 ^ s.rd F.QY_CFG_GANG q

/-- An Ethernet client. -/
def isEthernet (ty : Nat) : Bool := decide (1 ≤ ty) && decide (ty ≤ 8)

/-- An OTN client. -/
def isOtn (ty : Nat) : Bool := decide (10 ≤ ty) && decide (ty ≤ 13)

/-- Lanes of a client (R123, R151). -/
def State.laneCount (s : State) (q c : Nat) : Nat :=
  match s.clientType q c with
  | 0 => 0
  | 5 => 2
  | 6 | 12 => 4
  | 7 => 8
  | 8 => 16
  | 13 => s.rd F.QY_CFG_OTUC_N q
  | _ => 1

/-- The lanes of a client: the lowest of its gang (R121); slot 1 has the quay's upper lane (R149). -/
def State.clientLanes (s : State) (q c : Nat) : List Nat :=
  if c == 1 then [2 * q + 1] else (List.range (s.laneCount q c)).map (2 * q + ·)

/-- Some lane of the client is outside DATA and PRESET (R176). -/
def State.clientLaneDown (s : State) (q c : Nat) : Bool :=
  (s.clientLanes q c).any fun l => s.rd F.LN_STAT_STATE l != 4 && s.rd F.LN_STAT_STATE l != 5

/-- The TRAINMAP records of a client's trains (R546). -/
def State.clientTrains (s : State) (q c : Nat) : List TrainMapRec :=
  s.image.trainMap.filter fun r => decide (r.kind ≤ 1) && r.unit == q && r.slot == c

/-- The train that carries a whole client (kind 0). -/
def State.clientTrain (s : State) (q c : Nat) : Option Nat := ((s.clientTrains q c).find? (·.kind == 0)).map (·.train)

/-- A client's egress train as its TRAINMAP record gives it (R632). -/
def State.clientEgress (s : State) (q c : Nat) : Option Nat := ((s.clientTrains q c).find? (·.kind == 0)).map (·.egress)

/-- The trains whose live entries feed a client's egress: the EGRESS train, or every train that feeds the gang (R632). -/
def State.feedingTrains (s : State) (q c : Nat) : List Nat :=
  match s.clientEgress q c with
  | some 0xFFFF =>
    (((s.bankEntries s.liveBank).filter fun e =>
      decide (160 * q ≤ e.1) && decide (e.1 < 160 * (q + s.gangSize q)) && entryAct e.2 != .idle).map
        fun e => entryTrain e.2).eraseDups
  | some 0xFFFE => []
  | some t => [t]
  | none => []

/-- A client holds something else. -/
def State.modClient (s : State) (q c : Nat) (f : Client → Client) : State :=
  s.setClient (clientNo q c) (f (s.client (clientNo q c)))

/-- A counter of a client counts (codes of QY_CSEL.CNT). -/
def State.countClient (s : State) (q c num n : Nat) : State := s.count ⟨.quay, num, clientNo q c⟩ n

/-- QY_CA control of a client's slot, as the datapath acts on it. -/
def State.clientCa (s : State) (f : Field) (q c : Nat) : Bool := s.cfgOn (slotField f c) q

/-! ### Client signal fail (R154, R168, R176, R178, R180) -/

/-- The condition holds for this client's type (R168, R176). -/
def State.condHolds (s : State) (q c : Nat) (cond : ClientCond) : Bool :=
  let ty := s.clientType q c
  match cond with
  | .laneDown => s.clientLaneDown q c
  | .deskew => decide (1 < s.laneCount q c)
  | .lof n => if isOtn ty then decide (938 ≤ n) else true
  | .memberLost => ty == 13
  | .hiBer => isEthernet ty
  | .odu t => s.clientMap q c == 3 && (s.clientTrains q c).any fun r => r.kind == 1 && r.train == t.val

/-- QY_STAT and QY_STICKY of a condition. -/
def State.showCond (s : State) (q c : Nat) (cond : ClientCond) : State :=
  match cond with
  | .laneDown => (s.wr (slotField F.QY_STAT_LOS c) q 1).raise (slotField F.QY_STICKY_LOS c) q
  | .deskew => s.raise F.QY_STICKY_DESKEW q
  | .lof _ | .memberLost => (s.wr (slotField F.QY_STAT_LOF c) q 1).raise (slotField F.QY_STICKY_LOF c) q
  | .hiBer => (s.wr (slotField F.QY_STAT_DEG c) q 1).raise (slotField F.QY_STICKY_DEG c) q
  | .odu _ => s

/-- CLIENT_SIGNAL_FAIL: a condition of R176 holds, or one of R168 for a single ODU. -/
def State.clientSignalFail (s : State) (q c : Nat) (cond : ClientCond) : State :=
  if !s.clientExists q c || !s.condHolds q c cond then s
  else
    match cond with
    | .odu t =>
      if (s.client (clientNo q c)).oduFail.contains t.val then s
      else (s.modClient q c fun x => { x with oduFail := t.val :: x.oduFail }).raise F.QY_STICKY_ODU_ALM q
    | _ =>
      let s := s.showCond q c cond
      if (s.client (clientNo q c)).fail then s
      else
        let s := s.modClient q c fun x => { x with fail := true }
        (s.wr (slotField F.QY_STAT_CSF_TX c) q 1).raise (slotField F.QY_STICKY_CSF c) q

/-- The client's ingress sets CSF in its trains and replaces their payload (R154, R176). -/
def State.clientReplaces (s : State) (q c : Nat) : Bool :=
  (s.client (clientNo q c)).fail && !s.clientCa F.QY_CA_CSF_DIS q c

/-- Crates of train `t` carry CSF: the fail of its client, of its ODU, or its replacement after FILL_LIMIT (R76, R154, R168, R227). -/
def State.csfOut (s : State) (t : Nat) : Bool :=
  (s.train t).replacing.isSome ||
    s.image.trainMap.any fun r =>
      r.train == t &&
        (if 1 < r.kind then (s.train t).oduBad
         else s.clientReplaces r.unit r.slot ||
          ((s.client (clientNo r.unit r.slot)).oduFail.contains t && !s.clientCa F.QY_CA_CSF_DIS r.unit r.slot))

/-- CLIENT_SIGNAL_FAIL_CLEAR: 3,125 consecutive ticks free of every condition; the FIFO is refilled to 1,000k, mapping resumes and
CSF clears (R154, R176). -/
def State.clientSignalFailClear (s : State) (q c : Nat) (odu : Option (Fin 4096)) (ticks : Nat) : State :=
  if !s.clientExists q c then s
  else
    match odu with
    | some t => if ticks < 3125 then s else s.modClient q c fun x => { x with oduFail := x.oduFail.filter (· != t.val) }
    | none =>
      let x := s.client (clientNo q c)
      if ticks < 3125 || !x.fail || s.clientLaneDown q c then s
      else
        let k := ((s.clientTrain q c).map s.trainSize).getD 0
        let refill := s.clientMap q c ≤ 1 && !s.clientCa F.QY_CA_CSF_DIS q c
        let s := s.modClient q c fun x => { x with fail := false, fill := if refill then 1000 * k else x.fill }
        let s := (s.wr (slotField F.QY_STAT_CSF_TX c) q 0).wr (slotField F.QY_STAT_LOS c) q 0
        (s.wr (slotField F.QY_STAT_LOF c) q 0).wr (slotField F.QY_STAT_DEG c) q 0

/-! ### Ingress mapping (R74, R76, R153, R157 to R159) -/

/-- Nominal rate of a rate code in b/s as R151 carries it: BLOCK carries the rate after FEC. -/
def carriedRate : Nat → Nat
  | 1 => 2488320000 | 2 => 2457600000 | 3 => 3072000000 | 4 => 4915200000 | 5 => 6144000000
  | 6 => 8110080000 | 7 => 9830400000 | 8 => 9953280000 | 9 => 10137600000 | 10 => 10312500000
  | 11 => 10709225000 | 12 => 11095727000 | 13 => 12165120000 | 14 => 24330240000 | 15 => 25781250000
  | 16 => 111809973568 | 17 => 51562500000 | 18 => 103125000000 | _ => 0

/-- Nominal nibbles per tick of a rate in b/s, in units of 2⁻³² nibble (rate × 3.2 µs / 4). -/
def nominalNibbles (rate : Nat) : Nat := rate * 8 * 2 ^ 32 / 10 ^ 7

/-- One tick of a BIT or BLOCK client's ingress, `w` nibbles delivered (R74, R76, R153, R154). -/
def State.mapClient (s : State) (q c w : Nat) : State :=
  match s.clientTrain q c with
  | none => s
  | some t =>
    let x := s.client (clientNo q c)
    let k := s.trainSize t
    let tr := s.train t
    let ibw := clampNat 4 12 (s.cfg (slotField F.QY_MAP_IBW c) q)
    -- while a lane delivers nothing under CSF_DIS, 0xF nibbles come at the rate w_avg held (R176)
    let stalled := x.fail && s.clientLaneDown q c
    let w := if stalled then (x.wAvg / 2 ^ 32).toNat else w
    if s.clientReplaces q c && !x.started then s
    else if s.clientReplaces q c then
      -- frozen w_avg and fill: Cn keeps the client's last rate
      s.setTrain t (s.useCn t (computeCn tr (x.wAvg + ((x.fill : Int) - 1000 * k) * 2 ^ 16).toNat k)).2
    else if tr.replacing.isSome then s.setTrain t { tr with cn := 1000 * k }
    else if !x.started then
      let fill := min (x.fill + w) (2000 * k)
      if 1000 * k ≤ fill then
        s.modClient q c fun x =>
          { x with started := true, fill := fill, wAvg := nominalNibbles (carriedRate (s.rd F.LN_CFG_RATE (2 * q + c))) }
      else s.modClient q c fun x => { x with fill := fill }
    else
      let wAvg := if stalled then x.wAvg else x.wAvg + ((w : Int) * 2 ^ 32 - x.wAvg) / 2 ^ ibw
      let (used, y) := s.useCn t (computeCn tr (wAvg + ((x.fill : Int) - 1000 * k) * 2 ^ 16).toNat k)
      let fill := min (x.fill + w - used) (2000 * k)
      let s := (s.setTrain t y).modClient q c fun x => { x with wAvg := wAvg, fill := fill }
      if 1900 * k < fill && y.cn == 1000 * k then
        let s := s.setTrain t { y with replacing := some s.now }
        (s.modClient q c fun x => { x with fill := 1000 * k }).raise (slotField F.QY_STICKY_FILL_LIMIT c) q
      else s

/-- Groups per tick of an IDLE client (R151). -/
def idleGroups : Nat → Nat
  | 4 => 311 | 5 => 622 | 6 => 1245 | 7 => 2490 | 8 => 4980 | _ => 0

/-- CLIENT_FRAME_INGRESS: a frame of so many non-idle blocks reaches an IDLE client's FIFO (R158, R159). -/
def State.clientFrameIngress (s : State) (q c blocks : Nat) : State :=
  if !s.clientExists q c || s.clientMap q c != 2 || s.clientReplaces q c then s
  else
    let x := s.client (clientNo q c)
    let g := s.gangSize q
    if 6144 * g < x.fill then (s.countClient q c 4 1).raise (slotField F.QY_STICKY_DROP c) q
    else if 8192 * g < x.fill + blocks then
      ((s.modClient q c fun x => { x with fill := 8192 * g }).countClient q c 5 1).raise (slotField F.QY_STICKY_DROP c) q
    else s.modClient q c fun x => { x with fill := x.fill + blocks }

/-- One tick of an IDLE client: its G groups take 16G blocks from the FIFO (R157, R158). -/
def State.drainIdle (s : State) (q c : Nat) : State :=
  let s := match s.clientTrain q c with
    | some t => s.setTrain t { s.train t with cn := 257 * idleGroups (s.clientType q c), running := true }
    | none => s
  s.modClient q c fun x => { x with fill := x.fill - 16 * idleGroups (s.clientType q c) }

/-! ### Egress (R155, R156, R177 to R179) -/

/-- The egress buffer moves off its centre by `change` nibbles: beyond 250k it is recentred (R156). -/
def State.egressBuffer (s : State) (q c : Nat) (change : Int) (latency : Nat) : State :=
  let k := (((s.feedingTrains q c).head?).map s.trainSize).getD 0
  let dev := (s.client (clientNo q c)).egDev + change
  let s := s.modClient q c fun x => { x with latency := latency }
  if s.clientMap q c ≤ 1 && decide (250 * k < dev.natAbs) && decide (0 < k) then
    ((s.modClient q c fun x => { x with egDev := 0 }).countClient q c 6 1).raise (slotField F.QY_STICKY_DESYNC_SLIP c) q
  else s.modClient q c fun x => { x with egDev := dev }

/-- A client's egress is due to replace its signal: it acts on the monitors' verdict of two ticks ago (R81, R177, R632). -/
def State.egressReplaced (s : State) (q c : Nat) : Bool :=
  !s.clientCa F.QY_CA_EG_DIS q c && s.clientMap q c != 3 &&
    (s.clientEgress q c == some 0xFFFE ||
      (s.feedingTrains q c).any fun t => (s.train t).csf2 || (s.train t).verdict2)

/-- An ODU of a TERM client is replaced by ODUk-AIS in its tributary slots (R177, R632). -/
def State.oduReplaced (s : State) (q c : Nat) : Bool :=
  !s.clientCa F.QY_CA_EG_DIS q c && s.clientMap q c == 3 &&
    (s.clientTrains q c).any fun r => r.kind == 1 &&
      (r.egress == 0xFFFE || (s.train r.egress).csf2 || (s.train r.egress).verdict2)

/-- What a client's egress sends (R177 to R179); a TERM client's ODUs are replaced one by one within it. -/
def State.egressSignal (s : State) (q c : Nat) : EgressSignal :=
  let ty := s.clientType q c
  if s.egressReplaced q c then
    if s.clientCa F.QY_CA_SQ q c then .idle
    else if isEthernet ty then .localFault
    else if ty == 9 then .idle
    else if isOtn ty then .oduAis
    else .msAis
  else if isEthernet ty && (s.client (clientNo q c)).fail && !s.clientCa F.QY_CA_RF_DIS q c then .remoteFault
  else .data

/-- Remote Fault, or SM BDI, being sent (QY_STAT.RF_TX, R178). -/
def State.sendsBackward (s : State) (q c : Nat) : Bool :=
  s.egressSignal q c == EgressSignal.remoteFault ||
    (isOtn (s.clientType q c) && s.clientMap q c == 3 && (s.client (clientNo q c)).bdiCause &&
      !s.clientCa F.QY_CA_BDI_DIS q c)

/-- A client's egress in a tick: replacement, upstream actions and their status. -/
def State.tickEgress (s : State) (q c : Nat) : State :=
  let was := s.on (slotField F.QY_STAT_EG_ACT c) q
  let is := s.egressReplaced q c || s.oduReplaced q c
  let sig := s.egressSignal q c
  let back := s.sendsBackward q c
  let down := s.clientLaneDown q c
  let s := s.modClient q c fun x => { x with sends := sig }
  let s := (s.wrBool (slotField F.QY_STAT_EG_ACT c) q is).wrBool (slotField F.QY_STAT_RF_TX c) q back
  let s := s.wrBool (slotField F.QY_STAT_LOS c) q down
  s.raiseIf (is && !was) (slotField F.QY_STICKY_EG_ACT c) q

/-- Every client of the quays that lead a gang, in rising order. -/
def State.allClients (s : State) : List (Nat × Nat) :=
  (s.image.quays.flatMap fun (q, _) => [(q, 0), (q, 1)]).filter fun (q, c) => s.clientExists q c

/-- All clients in a tick; `w` gives the nibbles each one's lanes delivered. -/
def State.tickClients (s : State) (w : Nat → Nat → Nat) : State :=
  s.each s.allClients fun s (q, c) =>
    let s := match s.clientMap q c with
      | 0 | 1 => s.mapClient q c (w q c)
      | 2 => s.drainIdle q c
      | _ => s
    s.tickEgress q c

/-- Received Remote Fault, Local Fault or SM BDI, and the causes of SM BDI (QY_STAT, R178). -/
def State.clientSees (s : State) (q c : Nat) (rf lf sm : Bool) : State :=
  let ty := s.clientType q c
  let s := (s.wrBool (slotField F.QY_STAT_RX_RF c) q (rf && isEthernet ty)).wrBool (slotField F.QY_STAT_RX_LF_BDI c) q
    (lf && (isEthernet ty || isOtn ty))
  s.modClient q c fun x => { x with bdiCause := sm }

/-- Errors a client's monitors count (R162, R184): CV2 only for OTN and SDH/SONET, FEC only for Ethernet. -/
def State.clientErrors (s : State) (q c cv cv2 corr unc : Nat) : State :=
  let ty := s.clientType q c
  let s := (s.countClient q c 0 cv).countClient q c 1 (if isOtn ty || 14 ≤ ty then cv2 else 0)
  if isEthernet ty then (s.countClient q c 2 corr).countClient q c 3 unc else s

/-! ### Frames (R170 to R173) -/

/-- The CRC-32 of IEEE 802.3 over a byte string. -/
def crc32 (bytes : List Byte) : BitVec 32 :=
  let step (r : BitVec 32) (b : Byte) : BitVec 32 :=
    (List.range 8).foldl (fun r _ => if r.getLsbD 0 then (r >>> 1) ^^^ 0xEDB88320#32 else r >>> 1)
      (r ^^^ (b.setWidth 32))
  ~~~ (bytes.foldl step 0xFFFFFFFF#32)

/-- A frame with its frame check sequence recomputed, least significant byte first. -/
def withFcs (body : List Byte) : List Byte :=
  let f := crc32 body
  body ++ [f.setWidth 8, (f >>> 8).setWidth 8, (f >>> 16).setWidth 8, (f >>> 24).setWidth 8]

/-- A byte of a frame, 0 beyond its end. -/
def byteAt (f : List Byte) (i : Nat) : Nat := (f.getD i 0).toNat

/-- A big-endian number of `n` bytes in a frame. -/
def numberAt (f : List Byte) (i n : Nat) : Nat := (List.range n).foldl (fun a j => a * 256 + byteAt f (i + j)) 0

/-- The frame with `n` bytes from `i` replaced by a number, most significant byte first. -/
def putNumber (f : List Byte) (i n v : Nat) : List Byte :=
  f.take i ++ (List.range n).map (fun j => BitVec.ofNat 8 (v / 256 ^ (n - 1 - j))) ++ f.drop (i + n)

/-- Where the type field lies after up to two VLAN tags (R172). -/
def typeOffset (f : List Byte) : Nat :=
  let tag (i : Nat) := numberAt f i 2 == 0x8100 || numberAt f i 2 == 0x88A8
  if tag 12 then (if tag 16 then 20 else 16) else 12

/-- A message of the timestamp unit: where its PTP header starts, and where its UDP checksum lies and for which IP version. -/
structure PtpPlace where
  header : Nat
  udp : Option (Nat × Nat)
  esmc : Bool
  deriving DecidableEq, Repr

/-- The PTP or ESMC message in a frame, in the encapsulations that a client's controls enable (R172). -/
def ptpPlace (l2 v4 v6 esmc : Bool) (f : List Byte) : Option PtpPlace :=
  let o := typeOffset f
  let ty := numberAt f o 2
  let port (i : Nat) := numberAt f i 2 == 319 || numberAt f i 2 == 320
  if ty == 0x88F7 then (if l2 then some ⟨o + 2, none, false⟩ else none)
  else if ty == 0x0800 then
    let ip := o + 2
    let u := ip + 4 * (byteAt f ip % 16)
    if v4 && byteAt f (ip + 9) == 17 && port (u + 2) then some ⟨u + 8, some (u + 6, 4), false⟩ else none
  else if ty == 0x86DD then
    let u := o + 2 + 40
    if v6 && byteAt f (o + 2 + 6) == 17 && port (u + 2) then some ⟨u + 8, some (u + 6, 6), false⟩ else none
  else if ty == 0x8809 && byteAt f (o + 2) == 0x0A && esmc then some ⟨o + 2, none, true⟩
  else none

/-- An event message: Sync, Delay_Req, Pdelay_Req or Pdelay_Resp (R172). -/
def isEvent (f : List Byte) (p : PtpPlace) : Bool := !p.esmc && decide (byteAt f p.header % 16 ≤ 3)

/-- The one's complement sum of 16-bit words, folded. -/
def onesFold (n : Nat) : Nat := let m := n % 65536 + n / 65536; m % 65536 + m / 65536

/-- The UDP checksum after a change: 0 for IPv4; for IPv6 incremental per RFC 1624, over the 16-bit words that the change touches
(R173). -/
def fixChecksum (p : PtpPlace) (old new : List Byte) : List Byte :=
  match p.udp with
  | none => new
  | some (at', 4) => putNumber new at' 2 0
  | some (at', _) =>
    let ws := (List.range 24).map fun i => p.header + 2 * i
    let sum := ws.foldl (fun a i => a + (65535 - numberAt old i 2) + numberAt new i 2) (65535 - numberAt old at' 2)
    putNumber new at' 2 (65535 - onesFold (onesFold sum))

/-- A timestamp in 2⁻¹⁶ ns. -/
def Stamp.total (t : Stamp) : Nat := (t.sec * 10 ^ 9 + t.ns) * 2 ^ 16 + t.frac

/-- The timestamp of a number of 2⁻¹⁶ ns. -/
def Stamp.ofTotal (n : Nat) : Stamp :=
  ⟨n / 2 ^ 16 / 10 ^ 9 % 2 ^ 48, n / 2 ^ 16 % 10 ^ 9, n % 2 ^ 16⟩

/-- A crossing corrected by the board delay of QY_TS_ADJ, in 1/16 ns (R170). -/
def Stamp.adjusted (t : Stamp) (adj : Nat) : Stamp := Stamp.ofTotal ((t.total : Int) + signed 16 adj * 4096).toNat

/-- The frame with a number added to its correctionField, modulo 2^64 (R173). -/
def addCorrection (f : List Byte) (p : PtpPlace) (d : Int) : List Byte :=
  putNumber f (p.header + 8) 8 ((((numberAt f (p.header + 8) 8 : Int) + d) % 2 ^ 64).toNat)

/-- The message of a frame that a client's unit recognizes. -/
def State.recognize (s : State) (q c : Nat) (f : List Byte) : Option PtpPlace :=
  let on (x : Field) := s.cfgOn (slotField x c) q
  ptpPlace (on F.QY_TS_CTRL_L2) (on F.QY_TS_CTRL_IPV4) (on F.QY_TS_CTRL_IPV6) (on F.QY_TS_CTRL_ESMC) f

/-- The four words that a word list makes of bytes, first byte in bits [31:24] (R174). -/
def packWords : List Byte → List Word
  | [] => []
  | [a] => [a.setWidth 32 <<< 24]
  | [a, b] => [(a.setWidth 32 <<< 24) ||| (b.setWidth 32 <<< 16)]
  | [a, b, c] => [(a.setWidth 32 <<< 24) ||| (b.setWidth 32 <<< 16) ||| (c.setWidth 32 <<< 8)]
  | a :: b :: c :: d :: t =>
    ((a.setWidth 32 <<< 24) ||| (b.setWidth 32 <<< 16) ||| (c.setWidth 32 <<< 8) ||| d.setWidth 32) :: packWords t

/-- The bytes of words, most significant first. -/
def unpackWords (ws : List Word) : List Byte :=
  ws.flatMap fun (w : Word) => [(w >>> 24).setWidth 8, (w >>> 16).setWidth 8, (w >>> 8).setWidth 8, w.setWidth 8]

/-- A timestamp as QY_TSF1 to QY_TSF3 lay it out. -/
def Stamp.words (t : Stamp) : List Word :=
  [BitVec.ofNat 32 (t.sec / 2 ^ 16), BitVec.ofNat 32 (t.sec % 2 ^ 16 * 2 ^ 16 + t.ns / 2 ^ 14),
   BitVec.ofNat 32 (t.ns % 2 ^ 14 * 2 ^ 18 + t.frac)]

/-- A quay's packet interface after a change. -/
def State.modPackets (s : State) (q : Nat) (f : Packets → Packets) : State := s.setPacketsOf q (f (s.packetsOf q))

/-- A frame enters the extraction buffer of 4 KiB, or is dropped (R174, R185). -/
def State.extract (s : State) (q c : Nat) (f : List Byte) (msgType : Nat) (t : Stamp) (stamped : Bool) : State :=
  let desc := BitVec.ofNat 32 (c * 2 ^ 31 + stamped.toNat * 2 ^ 30 + msgType % 16 * 2 ^ 26 + f.length % 2 ^ 14)
  let entry := desc :: t.words ++ packWords f
  let used := ((s.packetsOf q).extracted.map List.length).sum
  if used + entry.length ≤ 1024 then
    (s.modPackets q fun x => { x with extracted := x.extracted ++ [entry] }).countClient q c 7 1
  else (s.countClient q c 8 1).raise F.QY_STICKY_PKT_OVF q

/-- PTP_EVENT_MESSAGE: a message passes a client's timestamp unit, its crossing of the device balls at `t` (R170 to R174). -/
def State.ptpMessage (s : State) (q c : Nat) (egress : Bool) (f : List Byte) (t : Stamp) : State :=
  if !s.clientExists q c || !isEthernet (s.clientType q c) then s
  else
    match s.recognize q c f with
    | none => s
    | some p =>
      let body := f.take (f.length - 4)
      match s.cfg (slotField F.QY_TS_CTRL_MODE c) q, egress with
      | 1, false =>
        if isEvent f p then
          let ts := t.adjusted (s.cfg F.QY_TS_ADJ_RX_ADJ q)
          s.send (.frame (clientNo q c) false (withFcs (fixChecksum p body (addCorrection body p (- (ts.total : Int))))))
        else s
      | 1, true =>
        if isEvent f p then
          let ts := t.adjusted (s.cfg F.QY_TS_ADJ_TX_ADJ q)
          s.send (.frame (clientNo q c) true (withFcs (fixChecksum p body (addCorrection body p (ts.total : Int)))))
        else s
      | 2, false | 3, false =>
        s.extract q c f (if p.esmc then 0 else byteAt f p.header % 16) (t.adjusted (s.cfg F.QY_TS_ADJ_RX_ADJ q)) true
      | _, _ => s

/-! ### Packet interface (R174, R175, R185) -/

/-- Words of a frame of so many bytes. -/
def wordsOf (len : Nat) : Nat := (len + 3) / 4

/-- Bytes of the insertion buffer in use. -/
def insUsed (x : Packets) : Nat :=
  (x.waiting.map fun f => 4 + 4 * wordsOf f.len).sum +
    (match x.writing with | some (f, false) => 4 + 4 * wordsOf f.len | _ => 0)

/-- QY_IDATA_WRITE: the next word of the insertion stream (R174). -/
def State.idataWrite (s : State) (q : Nat) (v : Word) : State :=
  let x := s.packetsOf q
  match x.writing with
  | none =>
    let len := v.toNat % 2 ^ 14
    let bad := decide (len < 60) || decide (2044 < len) || decide (4096 < insUsed x + 4 + 4 * wordsOf len)
    let f : InsFrame := ⟨v.toNat / 2 ^ 31, v.getLsbD 30, v.getLsbD 29, len, []⟩
    let s := if wordsOf len == 0 then s else s.modPackets q fun x => { x with writing := some (f, bad) }
    s.raiseIf bad F.QY_STICKY_PKT_OVF q
  | some (f, bad) =>
    let f := { f with words := f.words ++ [v] }
    if wordsOf f.len ≤ f.words.length then
      s.modPackets q fun x => { x with writing := none, waiting := if bad then x.waiting else x.waiting ++ [f] }
    else s.modPackets q fun x => { x with writing := some (f, bad) }

/-- PTP_FRAME_INSERT: the oldest queued frame leaves at a gap between client frames (R173 to R175). -/
def State.frameInsert (s : State) (q : Nat) (t : Stamp) : State :=
  match (s.packetsOf q).waiting with
  | [] => s
  | f :: rest =>
    if !s.clientExists q f.slot || !isEthernet (s.clientType q f.slot) || s.cfg (slotField F.QY_TS_CTRL_MODE f.slot) q < 2
    then s
    else
      let ts := t.adjusted (s.cfg F.QY_TS_ADJ_TX_ADJ q)
      let body := (unpackWords f.words).take f.len
      let place := (ptpPlace true true true true body)
      let body := match place with
        | some p =>
          if f.oneStep && !p.esmc && byteAt body p.header % 16 == 0 then
            let b1 := putNumber (putNumber body (p.header + 34) 6 ts.sec) (p.header + 40) 4 ts.ns
            fixChecksum p body (addCorrection b1 p ts.frac)
          else body
        | none => body
      let s := (s.modPackets q fun x => { x with waiting := rest }).send (.frame (clientNo q f.slot) true (withFcs body))
      let s := s.countClient q f.slot 9 1
      if f.tsReq then
        let e : TsEntry := match place with
          | some p => ⟨f.slot, byteAt body p.header % 16, numberAt body (p.header + 30) 2, ts⟩
          | none => ⟨f.slot, 0, 0, ts⟩
        if (s.packetsOf q).stamps.length < 64 then s.modPackets q fun x => { x with stamps := x.stamps ++ [e] }
        else s.raise F.QY_STICKY_PKT_OVF q
      else s

/-- The next word of the extraction stream; none while it is empty. -/
def Packets.next (x : Packets) : Option Word := match x.extracted with | (w :: _) :: _ => some w | _ => none

/-- The extraction stream without its next word. -/
def Packets.popWord (x : Packets) : Packets :=
  match x.extracted with
  | [] => x
  | f :: rest => if f.length ≤ 1 then { x with extracted := rest } else { x with extracted := f.drop 1 :: rest }

/-- QY_XSTAT (R174). -/
def State.xstat (s : State) (q : Nat) : Nat :=
  let x := s.packetsOf q
  let next := match x.extracted with | (w :: _) :: _ => w.toNat % 2 ^ 14 | _ => 0
  x.extracted.length % 256 * 2 ^ 24 + (4096 - insUsed x) / 64 * 2 ^ 16 + next

/-- A read of an RC register is journaled by the active device; the standby repeats it (R431). -/
def State.journalRead (s : State) (m : Initiator) (w : Write) : State :=
  if m.journals && s.active then s.journalEntry w else s

/-- The stamp FIFO loses its oldest entry. -/
def Packets.popStamp (x : Packets) : Packets := { x with stamps := x.stamps.drop 1 }

/-- QY_TSF0_READ: pops the oldest timestamp and latches it for the master (R175). -/
def State.tsf0Read (s : State) (m : Initiator) : State :=
  let q := s.quaySel m
  match (s.packetsOf q).stamps with
  | [] => s.replyWord m 0
  | e :: _ =>
    let s := s.modPackets q Packets.popStamp
    let s := s.setReg .QY_TSF1 m.copy (e.stamp.words.getD 0 0)
    let s := s.setReg .QY_TSF2 m.copy (e.stamp.words.getD 1 0)
    let s := s.setReg .QY_TSF3 m.copy (e.stamp.words.getD 2 0)
    s.replyWord m (2 ^ 31 + e.slot * 2 ^ 30 + e.msgType * 2 ^ 26 + e.seqId)

/-! ### The commands -/

/-- Meaning of CLIENT_SIGNAL_FAIL. -/
def execClientSignalFail (q : Fin 64) (slot : Fin 2) (cond : ClientCond) (s : State) : Host.Outcome State Fault Refusal :=
  .next (s.clientSignalFail q.val slot.val cond)

/-- Meaning of CLIENT_SIGNAL_FAIL_CLEAR. -/
def execClientSignalFailClear (q : Fin 64) (slot : Fin 2) (odu : Option (Fin 4096)) (ticks : Nat) (s : State) :
    Host.Outcome State Fault Refusal :=
  .next (s.clientSignalFailClear q.val slot.val odu ticks)

/-- Meaning of CLIENT_FRAME_INGRESS. -/
def execClientFrameIngress (q : Fin 64) (slot : Fin 2) (blocks : Nat) (s : State) : Host.Outcome State Fault Refusal :=
  .next (s.clientFrameIngress q.val slot.val blocks)

/-- Meaning of PTP_EVENT_MESSAGE. -/
def execPtpEventMessage (q : Fin 64) (slot : Fin 2) (egress : Bool) (frame : List Byte) (crossing : Stamp) (s : State) :
    Host.Outcome State Fault Refusal :=
  .next (s.ptpMessage q.val slot.val egress frame crossing)

/-- Meaning of QY_IDATA_WRITE. -/
def execQyIdataWrite (m : Initiator) (v : Word) (s : State) : Host.Outcome State Fault Refusal :=
  .next (s.write m 0x22000098 (.idata (s.quaySel m) v) fun t => t.idataWrite (s.quaySel m) v)

/-- Meaning of PTP_FRAME_INSERT. -/
def execPtpFrameInsert (q : Fin 64) (crossing : Stamp) (s : State) : Host.Outcome State Fault Refusal :=
  .next (s.frameInsert q.val crossing)

/-- Meaning of QY_XDATA_READ. -/
def execQyXdataRead (m : Initiator) (s : State) : Host.Outcome State Fault Refusal :=
  let q := s.quaySel m
  .next (((s.modPackets q Packets.popWord).journalRead m (.xdataRead q)).reply m (.ok ((s.packetsOf q).next.getD 0)))

/-- Meaning of QY_TSF0_READ. -/
def execQyTsf0Read (m : Initiator) (s : State) : Host.Outcome State Fault Refusal := .next (s.tsf0Read m)

/-- Meaning of QY_CNT_LO_READ. -/
def execQyCntLoRead (m : Initiator) (s : State) : Host.Outcome State Fault Refusal :=
  let q := s.quaySel m
  let n := if s.leads q && s.rd F.QY_CSEL_CNT m.copy < 10 then
      s.ctr ⟨.quay, s.rd F.QY_CSEL_CNT m.copy, clientNo q (s.slotSel m)⟩
    else 0
  .next (s.readLatched m F.QY_CNT_HI_CNT_HI n)

end Sys2Proof.Machine
end

