-- ==== Sys2Proof/Machine/Frames.lean ====
section
/-! DEFINITION. Native line frame and overhead (06_line_frame.md): formats, alignment, FNO tracking, section defects, performance
monitoring of a second, and the general communication channels. -/

namespace Sys2Proof.Machine

/-! ### Frame layout (R186 to R188, R196, R204) -/

/-- C(n): the smallest number of codewords that holds 10,624 + 81,920n nibbles (R188). -/
def codewords (n : Nat) : Nat := (10624 + 81920 * n + 7103) / 7104

/-- T(n): nibbles of a frame (R186). -/
def frameNibbles (n : Nat) : Nat := 7104 * codewords n

/-- P(n): pad nibbles (R186). -/
def padNibbles (n : Nat) : Nat := frameNibbles n - (10624 + 81920 * n)

/-- Berth slot `sl` of a frame has a nibble in codeword `c` (R186, R188). -/
def slotTouches (sl c : Nat) : Bool :=
  decide (10624 + 1024 * sl ≤ 7104 * c + 7103) && decide (7104 * c ≤ 10624 + 1024 * sl + 1023)

/-- FNOCRC over the 48 FNO bits (R196). -/
def fnoCrc (fno : Tick) : Nat := crc 8 7 (bitsOf 48 fno.toNat)

/-- The numbers that two of four fields hold, as bits: a timestamp as TT carries it (R204). -/
def stampBits (t : Stamp) : List Bool := bitsOf 48 t.sec ++ bitsOf 32 t.ns ++ bitsOf 16 t.frac

/-- The bits of TT ahead of TTCRC, reserved ones 0 (R204). -/
def ttBits (t : TtContent) : List Bool :=
  bitsOf 16 t.seq ++ stampBits t.dep ++ bitsOf 16 t.arrSeq ++ stampBits t.arr ++ bitsOf 32 t.cd ++ bitsOf 32 t.freq ++
    bitsOf 8 t.cls ++ bitsOf 8 t.steps ++ bitsOf 8 t.flags ++ List.replicate 184 false

/-- TTCRC: CRC-16 with x¹⁶ + x¹² + x⁵ + 1, initial value 0xFFFF (R204). -/
def ttCrc (t : TtContent) : Nat := (ttBits t).foldl (crcStep 16 0x1021) 0xFFFF

/-! ### Engines and their frames -/

/-- The engine of a receive unit: engine e itself is unit e, its DEDICATED upstream subcarrier i is unit 16 + 16e + i (R310). -/
def unitEngine (u : Nat) : Nat := if u < 16 then u else (u - 16) / 16

/-- Upstream subcarrier `i` of an engine is DEDICATED (R310). -/
def State.dedicated (s : State) (e i : Nat) : Bool :=
  s.on F.LF_CFG_HUB e && (s.rd F.TD_SCTYPE_TYPE e >>> (2 * i)) % 4 == 1

/-- The receive unit exists: an engine that is not in HUB mode, or a DEDICATED upstream subcarrier (R310). -/
def State.unitExists (s : State) (u : Nat) : Bool :=
  if u < 16 then s.engineExists u && !s.on F.LF_CFG_HUB u
  else s.engineExists (unitEngine u) && s.dedicated (unitEngine u) ((u - 16) % 16)

/-- The receive units of an engine (R310). -/
def State.unitsOf (s : State) (e : Nat) : List Nat :=
  if s.on F.LF_CFG_HUB e then ((List.range 16).filter (s.dedicated e)).map (16 + 16 * e + ·) else [e]

/-- The engine is in power state ON (R245). -/
def State.engineOn (s : State) (e : Nat) : Bool := s.rd F.LE_STAT_PSTATE (unitEngine e) == 2

/-- The engine runs native frames: used by the committed image in native format (LF_CFG). -/
def State.native (s : State) (e : Nat) : Bool := s.rd F.LF_CFG_FMT (unitEngine e) == 0 && s.rd F.LF_CFG_NCW (unitEngine e) != 0

/-- The engine runs interop frames (LF_CFG). -/
def State.interop (s : State) (e : Nat) : Bool := s.rd F.LF_CFG_FMT (unitEngine e) == 1 || s.rd F.LF_CFG_FMT (unitEngine e) == 2

/-- The engine belongs to a carrier pair. -/
def State.paired (s : State) (e : Nat) : Bool := s.on F.LF_CFG_PAIR (unitEngine e)

/-- The engine whose registers and counts govern: 2d for a carrier pair (R217, R263). -/
def State.governor (s : State) (e : Nat) : Nat := if s.paired e then 2 * (e / 2) else e

/-- The engines that act together with one: both of a carrier pair. -/
def State.partners (s : State) (e : Nat) : List Nat := if s.paired e then [2 * (e / 2), 2 * (e / 2) + 1] else [e]

/-- Framing of an engine after a change. -/
def State.modFrame (s : State) (e : Nat) (f : LineFrame → LineFrame) : State := s.setLineFrame e (f (s.lineFrame e))

/-- A live frame defect holds (LF_STAT). -/
def State.lineDefect (s : State) (e : Nat) : Bool :=
  s.on F.LF_STAT_LOS e || s.on F.LF_STAT_OOF e || s.on F.LF_STAT_LOF e || s.on F.LF_STAT_LOM e || s.on F.LF_STAT_FMT_MIS e

/-- SSF of an engine or carrier pair (R217, R218). -/
def State.ssfOf (s : State) (e : Nat) : Bool :=
  (s.partners e).any s.lineDefect || (s.paired e && !s.on F.LE_STAT_DESKEW_OK (s.governor e))

/-- SSF is in force (LF_STAT.SSF). -/
def State.ssf (s : State) (e : Nat) : Bool := s.on F.LF_STAT_SSF e

/-- The section that feeds an engine's berths and contexts is in SSF: merged SSF for the primary of a line pair (R351). -/
def State.sectionSsf (s : State) (e : Nat) : Bool :=
  match s.primaryPair e with | some r => (s.merge r.group).ssf | none => s.ssf e

/-- LF_STAT.SSF follows the defects. -/
def State.showSsf (s : State) (e : Nat) : State :=
  s.each (s.partners e) fun s i => s.wrBool F.LF_STAT_SSF i (s.ssfOf i)

/-- The engine is out of frame or in frame (LF_ALIGN, LF_STAT). -/
def State.setOof (s : State) (e : Nat) (b : Bool) : State :=
  ((s.wrBool F.LF_ALIGN_OOF e b).wrBool F.LF_STAT_OOF e b).showSsf e

/-- LOF as reported. -/
def State.setLof (s : State) (e : Nat) (b : Bool) : State :=
  ((s.wrBool F.LF_ALIGN_LOF e b).wrBool F.LF_STAT_LOF e b).showSsf e

/-- LOM as reported. -/
def State.setLom (s : State) (e : Nat) (b : Bool) : State :=
  ((s.wrBool F.LF_ALIGN_LOM e b).wrBool F.LF_STAT_LOM e b).showSsf e

/-- A live defect of LF_STAT takes a value; its event is raised when it appears. -/
def State.setLine (s : State) (stat sticky : Field) (e : Nat) (b : Bool) : State :=
  let t := (s.wrBool stat e b).showSsf e
  t.raiseIf (b && !s.on stat e) sticky (unitEngine e)

/-! ### Alignment (R210 to R214) -/

/-- The receiver searches: in carrier lock and out of frame (R210, R212, R214). -/
def State.searches (s : State) (e : Nat) : Bool := s.rd F.LE_STAT_RX_STATE (unitEngine e) == 5 && s.native e && !(s.lineFrame e).inFrame

/-- The frame position of a unit is dropped, and its receiver is out of frame (R214). -/
def State.dropUnit (s : State) (e : Nat) : State :=
  (s.modFrame e fun x =>
    { x with held := false, inFrame := false, cands := [], confirmed := [], fasBad := 0, oldGood := 0, ifTicks := 0 }).setOof e
    true

/-- Every unit of an engine is out of frame (R214). -/
def State.dropFrame (s : State) (e : Nat) : State := s.each (s.unitsOf e) State.dropUnit

/-- The engine's LOS reaches its units, and SSF follows (R218, R255). -/
def State.showLos (s : State) (e : Nat) (los : Bool) : State :=
  s.each (s.unitsOf e) fun s u => (s.wrBool F.LF_STAT_LOS u los).showSsf u

/-- The candidates that a frame's matching positions open, in symbol order: `old` candidates hold their slots until the receiver has passed
them, and a match while no slot is free is ignored (R210). -/
def openCands (slots : Nat) (old found : List Nat) : List Nat :=
  found.foldl (fun acc p => if (old.filter (p < ·)).length + acc.length < slots then acc ++ [p] else acc) []

/-- What the FAS comparison shows in a frame: errored FAS in IF, candidates and their confirmation while searching (R210 to
R212). -/
def State.fasFrame (s : State) (e differ : Nat) (found : List Nat) : State :=
  let x := s.lineFrame e
  if s.rd F.LE_STAT_RX_STATE (unitEngine e) != 5 || !s.native e then s
  else
    let s := if x.inFrame || x.held then s.wr F.LF_ALIGN_FASERR e (min differ 256) else s
    if x.inFrame then
      if 8 < differ then
        (s.modFrame e fun x => { x with fasBad := x.fasBad + 1 }).count ⟨.lf, 8, s.governor e⟩ 1
      else s.modFrame e fun x => { x with fasBad := 0 }
    else
      let slots := if x.held then 3 else 4
      let again := found.filter x.cands.contains
      let fresh := openCands slots x.cands (found.filter fun p => !x.cands.contains p && !(x.held && p == x.pos))
      let s := s.modFrame e fun x =>
        { x with confirmed := again, cands := fresh,
                 oldGood := if x.held && differ ≤ 8 then x.oldGood + 1 else 0 }
      s.wr F.LF_ALIGN_CAND e (min fresh.length 4)

/-- IN_FRAME: a confirmed candidate, or two matches at the old position, declares in-frame (R210, R212, R215). -/
def State.inFrame (s : State) (e pos : Nat) : State :=
  let x := s.lineFrame e
  let enter (s : State) : State :=
    let s := s.modFrame e fun x =>
      { x with pos := pos, held := true, inFrame := true, cands := [], confirmed := [], fasBad := 0, oldGood := 0,
               oofTicks := 0, badRun := 0, last := none, pairOk := false, pairOff := false }
    ((s.wr F.LF_ALIGN_CAND e 0).setOof e false)
  if s.interop e then
    if s.rd F.LE_STAT_RX_STATE (unitEngine e) == 5 && !x.inFrame then (enter s).setLom e false else s
  else if !s.searches e then s
  else if x.held && pos == x.pos && 2 ≤ x.oldGood then (enter s).setLom e true
  else if x.confirmed.contains pos then
    let s := if x.held then (s.count ⟨.lf, 12, s.governor e⟩ 1).raise F.LF_STICKY_REALIGN (unitEngine e) else s
    (enter s).setLom e true
  else s

/-- OOF: the fifth consecutive errored FAS (R211). -/
def State.outOfFrame (s : State) (e : Nat) : State :=
  let x := s.lineFrame e
  if !x.inFrame || (s.native e && x.fasBad < 5) || !(s.native e || s.interop e) then s
  else
    let s := s.modFrame e fun x => { x with inFrame := false, cands := [], confirmed := [], oldGood := 0, ifTicks := 0 }
    (s.setOof e true).raise F.LF_STICKY_OOF (unitEngine e)

/-- LOF: 938 ticks out of frame raise it, 938 ticks in frame clear it (R213, R225). -/
def State.lossOfFrame (s : State) (e : Nat) : State :=
  let x := s.lineFrame e
  if !s.on F.LF_STAT_LOF e && 938 ≤ x.oofTicks then (s.setLof e true).raise F.LF_STICKY_LOF (unitEngine e)
  else if s.on F.LF_STAT_LOF e && 938 ≤ x.ifTicks then s.setLof e false
  else s

/-- LOM: two valid incrementing FNOs clear it, five frames out of order raise it (R215). -/
def State.lossOfMultiframe (s : State) (e : Nat) : State :=
  let x := s.lineFrame e
  if s.on F.LF_STAT_LOM e then
    if x.pairOk then
      (s.modFrame e fun x =>
        { x with expect := (x.last.map (·.1 + 1)).getD x.expect, badRun := 0, pairOk := false, pairOff := false }).setLom e false
    else s
  else if 5 ≤ x.badRun && !x.pairOff then (s.setLom e true).raise F.LF_STICKY_LOM (unitEngine e)
  else s

/-- LOM of an interop engine: FlexO multiframe alignment is lost, or found again (R229). -/
def State.flexoMultiframe (s : State) (e : Nat) : State :=
  if s.on F.LF_STAT_LOM e then s.setLom e false
  else if (s.lineFrame e).inFrame then (s.setLom e true).raise F.LF_STICKY_LOM (unitEngine e)
  else s

/-- FNO_JUMP: two valid incrementing FNOs, both different from E, while LOM does not hold (R215). -/
def State.fnoJump (s : State) (e : Nat) : State :=
  let x := s.lineFrame e
  if !s.on F.LF_STAT_LOM e && x.pairOff then
    (s.modFrame e fun x =>
      { x with expect := (x.last.map (·.1 + 1)).getD x.expect, badRun := 0, pairOk := false, pairOff := false }).raise
      F.LF_STICKY_FNO_JUMP (unitEngine e)
  else s

/-! ### Delivered frames (R193, R197, R199, R200, R202, R203, R206, R215, R219, R221, R633) -/

/-- A run of equal values: one longer, or begun anew. -/
def Run.next (r : Run) (v : Nat) : Run := if r.value == v && r.count != 0 then ⟨v, r.count + 1⟩ else ⟨v, 1⟩

/-- FNO tracking of one delivered frame (R215). -/
def trackFno (x : LineFrame) (fno : Tick) (valid : Bool) : LineFrame :=
  let inOrder := valid && fno == x.expect
  let steps := match x.last with | some (p, _) => valid && fno == p + 1 | none => false
  let wasOff := match x.last with | some (_, off) => off | none => false
  { x with
    last := if valid then some (fno, !inOrder) else none
    pairOk := steps
    pairOff := steps && wasOff && !inOrder
    badRun := if inOrder then 0 else x.badRun + 1
    expect := x.expect + 1 }

/-- The overhead of a frame equals the receiver's own format (R200). -/
def State.formatMatches (s : State) (e : Nat) (oh : Overhead) : Bool :=
  oh.rstep == s.rd F.LF_CFG_RSTEP (unitEngine e) && oh.pair == s.on F.LF_CFG_PAIR (unitEngine e) && oh.sub == s.on F.LF_CFG_SUB (unitEngine e) &&
    oh.hub == s.on F.LF_CFG_HUB (unitEngine e)

/-- A PM section counts in its present second. -/
def State.modSection (s : State) (n : Nat) (f : SecondCount → SecondCount) : State :=
  s.setPmSection n { s.pmSection n with now := f (s.pmSection n).now }

/-- Rows of TAPS that a frame carries: channel 8m + i in slot i (R203). -/
def State.noteTaps (s : State) (e m : Nat) (taps : List Word) : State :=
  s.each ((List.range 8).zip taps) fun s (i, w) =>
    let n := 2048 * e + 8 * m + i
    s.setTapsRun n ((s.tapsRun n).next w.toNat)

/-- First berth port and number of berth slots of a receive unit (R47, R310). -/
def State.unitPorts (u : Nat) : Nat × Nat :=
  if u < 16 then (10240 + 1280 * u, 1280) else (10240 + 1280 * unitEngine u + 80 * ((u - 16) % 16), 80)

/-- Berth slots with a nibble in an uncorrectable codeword carry AIS crates for the frame (R219). -/
def State.aisSlots (s : State) (u : Nat) (ucw : List Nat) : State :=
  let (base, n) := State.unitPorts u
  { s with stores := Tab.mapValues {} (fun k x =>
      if x.inUse && decide (base ≤ k.1) && decide (k.1 < base + n) && ucw.any (slotTouches (k.1 - base)) then
        { x with aisCrate := true }
      else x) s.stores }

/-- MID, LAPS and TAPS of a frame whose codeword 0 is good (R202, R203). -/
def State.readShared (s : State) (e : Nat) (oh : Overhead) (phase : Nat) : State :=
  let s := s.setReg .LF_MID_RX e oh.mid
  let exp := s.cfg F.LF_MID_EXP_MID (unitEngine e)
  let hit := oh.mid.toNat == exp
  let s := s.modFrame e fun x =>
    { x with laps := x.laps.next oh.laps.toNat
             midBad := if s.sectionSsf e || exp == 0 || hit then 0 else x.midBad + 1
             midGood := if s.sectionSsf e || exp == 0 || !hit then 0 else x.midGood + 1 }
  s.noteTaps e phase oh.taps

/-- EB of a tick: the codewords counted uncorrectable, or 1 where there are none and SBIP shows a violation (R221). -/
def LineFrame.eb (x : LineFrame) : Nat := if x.ucw == 0 then x.viol.toNat else x.ucw

/-- Errored blocks of a tick are counted in the section of `sec`: uncorrectable codewords, an SBIP violation, and FEB, which both carriers
of a pair report for the pair (R217, R221). -/
def State.countBlocks (s : State) (sec ucw : Nat) (viol : Bool) (feb : Nat) : State :=
  let x := s.lineFrame sec
  let s := s.modFrame sec fun x => { x with ucw := x.ucw + ucw, viol := x.viol || viol, feb := max x.feb feb }
  let y := s.lineFrame sec
  ((s.count ⟨.lf, 10, sec⟩ (y.eb - x.eb)).count ⟨.lf, 11, sec⟩ (y.feb - x.feb)).modSection sec fun c =>
    { c with eb := c.eb + (y.eb - x.eb), feb := c.feb + (y.feb - x.feb) }

/-- OTUC frames of an interop engine in the tick: blocks, errored blocks, FEB and FD (R229). -/
def State.otucFrames (s : State) (e frames violated bei : Nat) (bdi : Bool) : State :=
  if !s.engineOn e || !s.interop e || s.rd F.LE_STAT_RX_STATE e != 5 then s
  else
    let s := (s.modFrame e fun x => { x with fdNow := x.fdNow || bdi }).modSection e fun c => { c with blocks := c.blocks + frames }
    (s.count ⟨.lf, 10, e⟩ violated).count ⟨.lf, 11, e⟩ bei |>.modFrame e (fun x => { x with ucw := x.ucw + violated }) |>.modSection e
      fun c => { c with eb := c.eb + violated, feb := c.feb + bei }

/-- A decoded native frame of unit `e` is delivered: its overhead, SBIP violations and uncorrectable codewords.  Engines of a line
pair (`alone` false) leave MID, LAPS, TAPS and the berth slots to the merged frame (R350, R351). -/
def State.deliverFrame (s : State) (e : Nat) (oh : Overhead) (sbip : Nat) (ucw : List Nat) (alone : Bool) : State :=
  let x := s.lineFrame e
  if !s.engineOn e || !s.native e || s.rd F.LE_STAT_RX_STATE (unitEngine e) != 5 || !x.held then s
  else
    let lost := ucw.contains 0
    let first := !s.on F.LF_CFG_SUB (unitEngine e)
    let sec := s.governor e
    let viol := if lost then 0 else sbip
    let fd := !lost && oh.bei == 255
    let feb := if lost || oh.bei == 255 || codewords (s.rd F.LF_CFG_RSTEP (unitEngine e) + 1) < oh.bei then 0 else oh.bei
    let phase := (if oh.fnoCrc == fnoCrc oh.fno && !lost then oh.fno else x.expect).toNat % 256
    let s := s.modFrame e fun x => trackFno x oh.fno (oh.fnoCrc == fnoCrc oh.fno && !lost)
    let same := s.formatMatches e oh
    let s := if lost then s else
      s.modFrame e fun x => { x with bdi := x.bdi.next oh.bdi.toNat,
                                     fmtBad := if same then 0 else x.fmtBad + 1, fmtGood := if same then x.fmtGood + 1 else 0 }
    let s := if lost || !first || !alone then s else s.readShared e oh phase
    let ttOk := oh.ttCrcOk && !lost
    let s := if !first then s else
      let s := s.modFrame e fun x =>
        { x with ttRun := if !ttOk then 0 else if oh.tt == x.ttRx then x.ttRun + 1 else 1,
                 ttRx := if ttOk then oh.tt else x.ttRx }
      s.raiseIf (!ttOk) F.LF_STICKY_TT_CRC (unitEngine e)
    let s := s.modFrame e fun x => { x with fdNow := x.fdNow || fd }
    let s := (s.count ⟨.lf, 9, sec⟩ viol).countBlocks sec ucw.length (decide (0 < viol)) feb
    let s := (s.raiseIf (!ucw.isEmpty) F.LF_STICKY_UCW (unitEngine e)).raiseIf (decide (0 < viol)) F.LF_STICKY_SBIP (unitEngine e)
    if alone && s.cfgOn F.LF_CA_UCW_AIS (unitEngine e) && !ucw.isEmpty then s.aisSlots e ucw else s

/-- BDI_RX: a BDI value carried in 3 consecutive frames is accepted (R199). -/
def State.acceptBdi (s : State) (e : Nat) : State :=
  let r := (s.lineFrame e).bdi
  if 3 ≤ r.count then s.setLine F.LF_STAT_BDI_RX F.LF_STICKY_BDI_RX e (r.value == 1) else s

/-- FMT_MIS: 3 consecutive frames of another format raise it, 3 that match clear it (R200). -/
def State.formatMismatch (s : State) (e : Nat) : State :=
  let x := s.lineFrame e
  if 3 ≤ x.fmtBad then s.setLine F.LF_STAT_FMT_MIS F.LF_STICKY_FMT_MIS e true
  else if 3 ≤ x.fmtGood then s.setLine F.LF_STAT_FMT_MIS F.LF_STICKY_FMT_MIS e false
  else s

/-- MID_MIS: 16 consecutive frames with another MID raise it, 3 that match clear it; not evaluated in SSF or with LF_MID_EXP = 0
(R202). -/
def State.midMismatch (s : State) (e : Nat) : State :=
  let x := s.lineFrame e
  if s.cfg F.LF_MID_EXP_MID (unitEngine e) == 0 || s.sectionSsf e then s
  else if 16 ≤ x.midBad then s.setLine F.LF_STAT_MID_MIS F.LF_STICKY_MID_MIS e true
  else if 3 ≤ x.midGood then s.setLine F.LF_STAT_MID_MIS F.LF_STICKY_MID_MIS e false
  else s

/-! ### The second (R221 to R224) -/

/-- The second is severely errored, near end (R222). -/
def nearSes (c : SecondCount) : Bool := decide (15 * c.blocks ≤ 100 * c.eb) && decide (0 < c.blocks) || decide (0 < c.d)

/-- The second is severely errored, far end (R222). -/
def farSes (c : SecondCount) : Bool := decide (15 * c.blocks ≤ 100 * c.feb) && decide (0 < c.blocks) || decide (0 < c.fd)

/-- The second is errored, near end and far end (R222). -/
def nearEs (c : SecondCount) : Bool := decide (0 < c.eb) || decide (0 < c.d)
/-- The second is errored, far end (R222). -/
def farEs (c : SecondCount) : Bool := decide (0 < c.feb) || decide (0 < c.fd)

/-- The classification of one second that a commit counts: near and far ES, SES, BBE and UAS (R222, R223). -/
structure Commit where
  nearEs : Nat := 0
  nearSes : Nat := 0
  nearBbe : Nat := 0
  nearUas : Nat := 0
  farEs : Nat := 0
  farSes : Nat := 0
  farBbe : Nat := 0
  farUas : Nat := 0
  deriving DecidableEq, Repr

/-- Availability of a direction at the second that heads ten known ones (R223). -/
def availDown (down : Bool) (ses : List Bool) : Bool := if down then ses.any id else ses.all id

/-- The second in progress ends: it waits, and the second ten before it is committed (R223, R224). -/
def Section.close (x : Section) : Section × Option Commit :=
  let all := x.waiting ++ [x.now]
  match all with
  | c :: rest =>
    if all.length ≤ 10 then ({ x with now := {}, waiting := all }, none)
    else
      let near := availDown x.nearDown ((all.take 10).map nearSes)
      let far := availDown x.farDown ((all.take 10).map farSes)
      let y := { x with now := {}, waiting := rest, nearDown := near, farDown := far }
      if near || far then (y, some { nearUas := near.toNat, farUas := far.toNat })
      else
        (y, some { nearEs := (nearEs c).toNat, nearSes := (nearSes c).toNat, nearBbe := if nearSes c then 0 else c.eb,
                   farEs := (farEs c).toNat, farSes := (farSes c).toNat, farBbe := if farSes c then 0 else c.feb })
  | [] => ({ x with now := {} }, none)

/-! ### Per tick -/

/-- BDI and BEI of the next frame: the SSF and the EB of the engine or carrier pair; an EB that the field cannot tell from the far-end
defect 0xFF is open (R198, R217). -/
def State.backward (s : State) (e : Nat) : State :=
  if !(s.native e || s.interop e) then s
  else
    let ssf := s.ssf e
    let eb := (s.lineFrame (s.governor e)).eb
    let off := s.cfgOn F.LF_CA_BEI_DIS (unitEngine e)
    let t := s.modFrame e fun x =>
      { x with txBdi := ssf && !s.cfgOn F.LF_CA_BDI_DIS (unitEngine e)
               txBei := if off then 0 else if ssf then 255 else if eb < 255 then eb else s.drawn % 256 }
    if !off && !ssf && decide (255 ≤ eb) then t.draw else t

/-- One engine's framing at a boundary: LOF counts, near-end defects (R213, R221); MID_MIS clears with LF_MID_EXP = 0, and its runs start
afresh after SSF (R202). -/
def State.tickFrame (s : State) (e : Nat) : State :=
  if !(s.native e || s.interop e) then s
  else
    let x := s.lineFrame e
    let oof := s.on F.LF_STAT_OOF e
    let ssf := s.ssf e
    let merged := s.sectionSsf e
    let sec := s.governor e
    let s := s.modFrame e fun x =>
      { x with oofTicks := if oof then x.oofTicks + 1 else 0
               ifTicks := if x.inFrame then x.ifTicks + 1 else 0
               midBad := if merged then 0 else x.midBad, midGood := if merged then 0 else x.midGood
               ucw := 0, viol := false, feb := 0, fdNow := false }
    let blocks := if s.native e then codewords (s.rd F.LF_CFG_RSTEP (unitEngine e) + 1) else 0
    let s := s.modSection sec fun c =>
      { c with ticks := c.ticks + (if sec == e then 1 else 0), blocks := c.blocks + blocks,
               d := c.d + (ssf && sec == e).toNat, fd := c.fd + (s.on F.LF_STAT_BDI_RX e || x.fdNow).toNat }
    if s.cfg F.LF_MID_EXP_MID (unitEngine e) == 0 then s.wr F.LF_STAT_MID_MIS e 0 else s

/-- The overhead that engine `e` transmits in the present tick, but for its APS channels (R191, R196 to R201). -/
def State.txOverhead (s : State) (e : Nat) : Overhead :=
  let x := s.lineFrame e
  let first := !s.on F.LF_CFG_SUB (unitEngine e)
  { fno := s.tick, fnoCrc := fnoCrc s.tick, bei := x.txBei, bdi := x.txBdi, rstep := s.rd F.LF_CFG_RSTEP (unitEngine e),
    pair := s.on F.LF_CFG_PAIR (unitEngine e), sub := s.on F.LF_CFG_SUB (unitEngine e), hub := s.on F.LF_CFG_HUB (unitEngine e),
    mid := if first then BitVec.ofNat 32 (s.cfg F.LF_MID_TX_MID (unitEngine e)) else 0, tt := if first then x.ttTx else {} }

/-! ### General communication channels (R208, R209) -/

/-- Octet stuffing of RFC 1662 as R208 states it: 0x7E and 0x7D escaped. -/
def stuff (octets : List Byte) : List Byte :=
  octets.flatMap fun b => if b == 0x7E || b == 0x7D then [0x7D, b ^^^ 0x20] else [b]

/-- A frame as the channel carries it: flags, octets and FCS stuffed. -/
def gccEncode (octets : List Byte) : List Byte := [0x7E] ++ stuff (withFcs octets) ++ [0x7E]

/-- A channel of an engine after a change. -/
def State.modGcc (s : State) (e ch : Nat) (f : Gcc → Gcc) : State := s.setGcc (2 * e + ch) (f (s.gcc (2 * e + ch)))

/-- Bytes of a receive buffer in use. -/
def gccRxUsed (g : Gcc) : Nat := (g.rx.map (4 * List.length ·)).sum

/-- Bytes of a transmit buffer in use. -/
def gccTxUsed (g : Gcc) : Nat :=
  (g.tx.map fun f => 4 * wordsOf f.length).sum + (match g.writing with | some w => if w.bad then 0 else 4 * wordsOf w.len | none => 0)

/-- The engine has the channel: GCC0 always, GCC1 not in interop mode; a carrier pair's travel in subframe 0, a line pair's are the
primary's (R216, R228, R348, R350). -/
def State.gccExists (s : State) (e ch : Nat) : Bool := !s.secondary e && ((s.native e && !s.on F.LF_CFG_SUB (unitEngine e)) || (s.interop e && ch == 0))

/-- The unit that feeds GCC receive: in HUB mode the DEDICATED subcarrier of TD_CFG.GCC_SC (R313). -/
def State.gccUnit (s : State) (e : Nat) : Nat :=
  if s.on F.LF_CFG_HUB e then 16 + 16 * e + s.rd F.TD_CFG_GCC_SC e else e

/-- GCC_FRAME_RECEIVE: a complete frame is stored, or dropped (R209). -/
def State.gccReceive (s : State) (e ch : Nat) (octets : List Byte) (how : GccEnd) : State :=
  if s.sectionSsf (s.gccUnit e) || !s.unitExists (s.gccUnit e) || !s.gccExists e ch then s
  else
    let entry := BitVec.ofNat 32 octets.length :: packWords octets
    if how != .good || 2048 < octets.length || 16384 < gccRxUsed (s.gcc (2 * e + ch)) + 4 * entry.length then
      s.raise F.LF_STICKY_GCC_DROP (unitEngine e)
    else s.modGcc e ch fun g => { g with rx := g.rx ++ [entry] }

/-- A word written to a GCC transmit port (R209). -/
def State.gccWrite (s : State) (e ch : Nat) (v : Word) : State :=
  let g := s.gcc (2 * e + ch)
  match g.writing with
  | none =>
    let len := v.toNat % 65536
    let bad := decide (len < 4) || decide (2048 < len) || decide (16384 < gccTxUsed g + 4 * wordsOf len)
    let s := if len == 0 then s else s.modGcc e ch fun g => { g with writing := some ⟨len, [], bad⟩ }
    s.raiseIf bad F.LF_STICKY_GCC_DROP (unitEngine e)
  | some w =>
    let w := { w with words := w.words ++ [v] }
    if wordsOf w.len ≤ w.words.length then
      s.modGcc e ch fun g =>
        { g with writing := none, tx := if w.bad then g.tx else g.tx ++ [(unpackWords w.words).take w.len] }
    else s.modGcc e ch fun g => { g with writing := some w }

/-- A tick of a channel's transmitter: 512 octets on GCC0, 128 on GCC1 (R208). -/
def State.gccSend (s : State) (e ch : Nat) : State :=
  let g := s.gcc (2 * e + ch)
  match g.tx with
  | [] => s
  | f :: rest =>
    if !s.engineOn e || !s.gccExists e ch then s
    else if (gccEncode f).length ≤ g.sent + (if ch == 0 then 512 else 128) then
      (s.modGcc e ch fun g => { g with tx := rest, sent := 0 }).send (.gccFrame e ch f)
    else s.modGcc e ch fun g => { g with sent := g.sent + (if ch == 0 then 512 else 128) }

/-- The next word of a receive stream; none while it is empty. -/
def Gcc.next (g : Gcc) : Option Word := match g.rx with | (w :: _) :: _ => some w | _ => none

/-- The receive stream without its next word. -/
def Gcc.popWord (g : Gcc) : Gcc :=
  match g.rx with
  | [] => g
  | f :: rest => if f.length ≤ 1 then { g with rx := rest } else { g with rx := f.drop 1 :: rest }

/-- LF_GCC_STAT. -/
def State.gccStat (s : State) (e : Nat) : Nat :=
  let a := s.gcc (2 * e)
  let b := s.gcc (2 * e + 1)
  min a.rx.length 255 * 2 ^ 24 + min b.rx.length 255 * 2 ^ 16 + (16384 - gccTxUsed a) / 128 * 2 ^ 8 +
    (16384 - gccTxUsed b) / 128

/-! ### The commands -/

/-- Meaning of IN_FRAME, but for encryption contexts (R296). -/
def State.inFrameAt (s : State) (e pos : Nat) : State := if s.unitExists e && s.engineOn e then s.inFrame e pos else s

/-- An event of a receive unit that does not exist has no effect. -/
def State.atUnit (s : State) (u : Nat) (f : State → State) : State := if s.unitExists u then f s else s

/-- Meaning of OOF. -/
def execOof (u : RxUnit) (s : State) : Host.Outcome State Fault Refusal := .next (s.atUnit u.val (State.outOfFrame · u.val))

/-- Meaning of LOF. -/
def execLof (u : RxUnit) (s : State) : Host.Outcome State Fault Refusal := .next (s.atUnit u.val (State.lossOfFrame · u.val))

/-- Meaning of LOM. -/
def execLom (u : RxUnit) (s : State) : Host.Outcome State Fault Refusal :=
  .next (s.atUnit u.val fun s => if s.interop u.val then s.flexoMultiframe u.val else s.lossOfMultiframe u.val)

/-- Meaning of BDI_RX. -/
def execBdiRx (u : RxUnit) (s : State) : Host.Outcome State Fault Refusal := .next (s.atUnit u.val (State.acceptBdi · u.val))

/-- Meaning of FMT_MIS. -/
def execFmtMis (u : RxUnit) (s : State) : Host.Outcome State Fault Refusal := .next (s.atUnit u.val (State.formatMismatch · u.val))

/-- Meaning of MID_MIS. -/
def execMidMis (u : RxUnit) (s : State) : Host.Outcome State Fault Refusal := .next (s.atUnit u.val (State.midMismatch · u.val))

/-- Meaning of GCC_FRAME_RECEIVE. -/
def execGccFrameReceive (e : Fin 8) (ch : Fin 2) (octets : List Byte) (how : GccEnd) (s : State) :
    Host.Outcome State Fault Refusal :=
  .next (s.gccReceive e.val ch.val octets how)

/-- A master's LE_SEL names an engine that exists; otherwise the window is the default target (R3, R268). -/
def State.atEngine (s : State) (m : Initiator) (write : Bool) (addr : Nat) (f : Nat → State) : State :=
  if s.engineExists (s.engineSel m) then f (s.engineSel m) else s.busError m write addr .default

/-- Meaning of LF_GCC_TXD_WRITE. -/
def execLfGccTxdWrite (m : Initiator) (ch : Fin 2) (v : Word) (s : State) : Host.Outcome State Fault Refusal :=
  .next (s.atEngine m true (0x2400084C + 4 * ch.val) fun e =>
    s.write m (0x2400084C + 4 * ch.val) (.gccTx e ch.val v) fun t => t.gccWrite e ch.val v)

/-- Meaning of LF_GCC_RXD_READ. -/
def execLfGccRxdRead (m : Initiator) (ch : Fin 2) (s : State) : Host.Outcome State Fault Refusal :=
  .next (s.atEngine m false (0x24000844 + 4 * ch.val) fun e =>
    ((s.modGcc e ch.val Gcc.popWord).journalRead m (.gccRead e ch.val)).reply m
      (.ok ((s.gcc (2 * e + ch.val)).next.getD 0)))

/-- The unit whose LF status a master reads: in HUB mode the upstream subcarrier its own TD_SEL.SC selects (R313). -/
def State.lfUnit (s : State) (m : Initiator) (e : Nat) : Nat :=
  if s.on F.LF_CFG_HUB e then 16 + 16 * e + s.rd F.TD_SEL_SC m.copy else e

/-- Meaning of LF_FNO_LO_READ. -/
def execLfFnoLoRead (m : Initiator) (s : State) : Host.Outcome State Fault Refusal :=
  .next (s.atEngine m false 0x24000828 fun e => s.readLatched m F.LF_FNO_HI_FNO_HI (s.lineFrame (s.lfUnit m e)).expect.toNat)

/-- Meaning of LF_PM_LO_READ: the LF_PM counts of engine 2d + 1 of a pair read 0 (R217). -/
def execLfPmLoRead (m : Initiator) (s : State) : Host.Outcome State Fault Refusal :=
  .next (s.atEngine m false 0x24000834 fun e =>
    let n := s.rd F.LF_PM_SEL_CNT m.copy
    s.readLatched m F.LF_PM_HI_CNT_HI (if n ≤ 12 then s.ctr ⟨.lf, n, s.lfUnit m e⟩ else 0))

end Sys2Proof.Machine
end

