-- ==== Sys2Proof/Machine/Engines.lean ====
section
/-! DEFINITION. Coherent line engines (07_coherent_line_engine.md): formats, power states, ramps and holds, acquisition and lock,
carrier pairs, the optics interface. -/

namespace Sys2Proof.Machine

/-! ### Formats (R237 to R242) -/

/-- M shaping blocks of a frame at rate step `n` and entropy code `k` (R238). -/
def shapingBlocks (n k : Nat) : Nat := (32768 * codewords n - 256 + 2 * k - 1) / (2 * k)

/-- G pilot groups (R238). -/
def pilotGroups (n k : Nat) : Nat := (16 * shapingBlocks n k + 64 + 30) / 31

/-- F fill symbols (R237). -/
def fillSymbols (n k : Nat) : Nat := 31 * pilotGroups n k - 64 - 16 * shapingBlocks n k

/-- S symbols per frame (R236). -/
def frameSymbols (n k : Nat) : Nat := 32 * pilotGroups n k

/-- A factorial. -/
def factorial : Nat → Nat
  | 0 => 1
  | n + 1 => (n + 1) * factorial n

/-- The counts (c1, c3, c5, c7) of amplitudes that sum to 64 (R242); c5 = c7 = 0 for 16QAM. -/
def countSets (k : Nat) : List (Nat × Nat × Nat × Nat) :=
  if k ≤ 56 then (List.range 65).map fun c3 => (64 - c3, c3, 0, 0)
  else
    (List.range 65).flatMap fun c7 => (List.range (65 - c7)).flatMap fun c5 =>
      (List.range (65 - c7 - c5)).map fun c3 => (64 - c7 - c5 - c3, c3, c5, c7)

/-- Energy of a count set (R242). -/
def countEnergy : Nat × Nat × Nat × Nat → Nat
  | (c1, c3, c5, c7) => c1 + 9 * c3 + 25 * c5 + 49 * c7

/-- A count set precedes another: less energy, then lexicographically larger (R242). -/
def countBefore (a b : Nat × Nat × Nat × Nat) : Bool :=
  let ea := countEnergy a
  let eb := countEnergy b
  decide (ea < eb) || (ea == eb &&
    (decide (b.1 < a.1) || (a.1 == b.1 && (decide (b.2.1 < a.2.1) || (a.2.1 == b.2.1 && decide (b.2.2.1 < a.2.2.1))))))

/-- The composition for an entropy code (R242). -/
def composition (k : Nat) : Nat × Nat × Nat × Nat :=
  let full := factorial 64
  let enough (c : Nat × Nat × Nat × Nat) : Bool :=
    decide (2 ^ (2 * k - 64) * (factorial c.1 * factorial c.2.1 * factorial c.2.2.1 * factorial c.2.2.2) ≤ full)
  (((countSets k).filter enough).foldl
    (fun best c => match best with
      | none => some c
      | some b => if countBefore c b then some c else some b) none).getD (64, 0, 0, 0)

/-! ### Ramps (R248) -/

/-- sin²(π/2 · t/T) in units of 2⁻⁴⁰, by the series of the sine: the raised cosine (1 − cos(π t / T)) / 2 of R248. -/
def raisedCosine (t total : Nat) : Int :=
  let one : Int := 2 ^ 40
  let y : Int := 1727108826179 * min t total / max total 1
  let sq : Int := y * y / one
  let step (acc : Int × Int) (k : Nat) : Int × Int :=
    let term := - (acc.2 * sq / one) / ((2 * k) * (2 * k + 1))
    (acc.1 + term, term)
  let sine := (([1, 2, 3, 4, 5, 6, 7] : List Nat).foldl step (y, y)).1
  sine * sine / one

/-- The level of a ramp after so many updates of 10 ns, in units of 1/4,095 (R248). -/
def rampLevel (r : Ramp) (updates : Nat) : Nat :=
  ((r.l0 : Int) + (((r.l1 : Int) - r.l0) * raisedCosine updates (100 * r.us) + 2 ^ 39) / 2 ^ 40).toNat

/-- A ramp ends within the present tick (R248). -/
def State.rampDue (s : State) (r : Ramp) : Bool := decide (100 * r.us ≤ 320 * (s.now - r.since + 1))

/-- A duration in µs as a register holds it: 0 is treated as 1 (R248). -/
def rampTime (v : Nat) : Nat := max v 1

/-! ### Holds and the transmit request (R246, R247, R263) -/

/-- An engine holds something else. -/
def State.modEngine (s : State) (e : Nat) (f : Engine → Engine) : State := s.setEngine e (f (s.engine e))

/-- Transmitter state: 0 OFF, 1 READY, 2 RAMP_UP, 3 LIT, 4 RAMP_DOWN. -/
def State.txState (s : State) (e : Nat) : Nat := s.rd F.LE_STAT_TX_STATE e

/-- Receive state: 0 OFF, 1 LOS, 2 FREQ, 3 CD, 4 EQ, 5 LOCKED. -/
def State.rxState (s : State) (e : Nat) : Nat := s.rd F.LE_STAT_RX_STATE e

/-- The mate agent holds every engine: mate state STANDBY, JOINING, ISOLATED or NOT_READY (R247). -/
def State.mateHold (s : State) : Bool := decide (2 ≤ s.rd F.MT_STAT_STATE 0)

/-- A fault hold applies to the engine itself (R247). -/
def Engine.held (x : Engine) : Bool := x.driverFault || x.d2dFault || x.classT || x.modeHold || x.thermal

/-- The power state an engine is asked for (R245). -/
def State.powerWanted (s : State) (e : Nat) : Nat :=
  if s.rd F.LF_CFG_FMT e == 3 || (s.rd F.LF_CFG_NCW e == 0 && s.rd F.LF_CFG_FMT e == 0) then 0
  else min (s.cfg F.LE_CTRL_PSTATE e) 2

/-- The transmit request of an engine (R245, R247, R252, R263). -/
def State.txRequest (s : State) (e : Nat) : Bool :=
  let g := s.governor e
  s.cfgOn F.LE_CTRL_TX_EN g && !s.mateHold && (s.partners e).all (fun i => !(s.engine i).held) && s.powerWanted e == 2 &&
    (!s.cfgOn F.LE_RMP_SRC g || (s.cfgOn F.LE_CTRL_LASER_EN g && (s.engine e).laser == 4095))

/-- The driver level now (R248). -/
def State.levelNow (s : State) (e : Nat) : Nat :=
  match (s.engine e).ramp with
  | some r => rampLevel r (320 * (s.now - r.since))
  | none => if s.txState e == 3 then 4095 else 0

/-- The level of the laser ramp now (R252). -/
def State.laserNow (s : State) (e : Nat) : Nat :=
  match (s.engine e).laserRamp with
  | some r => rampLevel r (320 * (s.now - r.since))
  | none => (s.engine e).laser

/-- The takeover ramp time, 4 to 64 µs (MT_CTRL.TAKE_T). -/
def State.takeTime (s : State) : Nat := clampNat 4 64 (s.rd F.MT_CTRL_TAKE_T 0)

/-- The drivers start to light, from the level they have (R248, R250). -/
def State.light (s : State) (e : Nat) : State :=
  let us := if (s.engine e).takeover then s.takeTime else rampTime (s.cfg F.LE_RAMP_T_LIGHT (s.governor e))
  let l0 := s.levelNow e
  (s.modEngine e fun x => { x with ramp := some ⟨l0, 4095, us, s.now⟩, takeover := false }).wr F.LE_STAT_TX_STATE e 2

/-- The drivers start to darken, from the level they have (R248, R250). -/
def State.darken (s : State) (e : Nat) : State :=
  let us := if (s.engine e).darkTake then s.takeTime else rampTime (s.cfg F.LE_RAMP_T_DARK (s.governor e))
  let l0 := s.levelNow e
  (s.modEngine e fun x => { x with ramp := some ⟨l0, 0, us, s.now⟩, darkTake := false }).wr F.LE_STAT_TX_STATE e 4

/-- The transmitter follows its request (R246, R250): at a boundary for register writes, at once for a fault hold. -/
def State.followRequest (s : State) (e : Nat) : State :=
  if !s.engineOn e then s
  else
    match s.txState e, s.txRequest e with
    | 1, true => s.light e
    | 2, false => (s.darken e).raise F.LE_STICKY_RAMP_REV e
    | 3, false => s.darken e
    | 4, true => (s.light e).raise F.LE_STICKY_RAMP_REV e
    | _, _ => s

/-- Fault and mate holds as LE_STAT shows them. -/
def State.showHolds (s : State) (e : Nat) : State :=
  (s.wrBool F.LE_STAT_FAULT_HOLD e ((s.partners e).any fun i => (s.engine i).held)).wrBool F.LE_STAT_MATE_HOLD e s.mateHold

/-- A hold of an engine changes: both engines of a pair follow at once (R249, R263). -/
def State.holdChanged (s : State) (e : Nat) (f : Engine → Engine) : State :=
  (s.modEngine e f).each (s.partners e) fun s i => (s.followRequest i).showHolds i

/-- RMP_OUT's laser follows LASER_EN (R252): up when enabled; down once the drivers are off. -/
def State.followLaser (s : State) (e : Nat) : State :=
  let g := s.governor e
  let x := s.engine e
  if !s.cfgOn F.LE_RMP_SRC g || !s.engineOn e then s
  else
    let goal := (x.laserRamp.map (·.l1)).getD x.laser
    let us := rampTime (s.cfg F.LE_RAMP_T_LASER g)
    let l0 := s.laserNow e
    if s.cfgOn F.LE_CTRL_LASER_EN g && !x.driverFault then
      if goal != 4095 then s.modEngine e fun x => { x with laserRamp := some ⟨l0, 4095, us, s.now⟩ } else s
    else if goal != 0 && s.txState e ≤ 1 then s.modEngine e fun x => { x with laserRamp := some ⟨l0, 0, us, s.now⟩ }
    else s

/-- A changed attenuation ramps the swing once LIT (R248, R250). -/
def State.followSwing (s : State) (e : Nat) : State :=
  let want := min (s.cfg F.LE_DRV_ATTEN e) 192
  let x := s.engine e
  if s.txState e == 3 && x.swing != want && x.swingRamp.isNone then
    s.modEngine e fun x => { x with swingRamp := some ⟨x.swing, want, rampTime (s.cfg F.LE_RAMP_T_LIGHT (s.governor e)), s.now⟩ }
  else if s.txState e != 3 && s.txState e != 2 && s.txState e != 4 then s.modEngine e fun x => { x with swing := want, swingRamp := none }
  else s

/-- The voltage of RMP_OUT as a code of its 10-bit converter (R252). -/
def State.rmpOut (s : State) (e : Nat) : Nat :=
  let g := s.governor e
  if !s.engineOn e || (s.engine e).driverFault then 0
  else (if s.cfgOn F.LE_RMP_SRC g then s.laserNow e else s.levelNow e) * s.cfg F.LE_RMP_LEVEL g / 4095

/-! ### Power states (R245, R259) -/

/-- Receive status of an engine that starts in LOS, or is off. -/
def State.clearLocks (s : State) (e : Nat) : State :=
  ((s.wr F.LE_EQ_STAT_CR_LOCK e 0).wr F.LE_EQ_STAT_MIMO_LOCK e 0).wr F.LE_EQ_STAT_CLK_LOCK e 0

/-- The receive side takes a state. -/
def State.enterRx (s : State) (e st : Nat) : State :=
  ((s.wr F.LE_STAT_RX_STATE e st).showLos e (decide (st ≤ 1))).modEngine e fun x => { x with since := s.now }

/-- The receive side starts in LOS, without an event (R259). -/
def State.startInLos (s : State) (e : Nat) : State :=
  let s := ((s.enterRx e 1).clearLocks e).modEngine e fun x =>
    { x with fresh := true, fast := false, wasLocked := false, fullCd := false, losAt := s.now, rxFault := false }
  s.dropFrame e

/-- The engine takes a power state (R245): ON starts the receive side in LOS and the transmitter in READY, below it both are OFF. -/
def State.setPower (s : State) (e p : Nat) : State :=
  let s := s.wr F.LE_STAT_PSTATE e p
  if p == 2 then (s.wr F.LE_STAT_TX_STATE e 1).startInLos e
  else
    let s := ((s.wr F.LE_STAT_TX_STATE e 0).wr F.LE_STAT_LEVEL e 0).modEngine e fun x =>
      { x with ramp := none, laserRamp := none, swingRamp := none, laser := 0, fresh := false }
    ((s.enterRx e 0).clearLocks e).dropFrame e

/-- A request to leave a power state: at once when dark; a lit transmitter darkens first (R245). -/
def State.followPower (s : State) (e : Nat) : State :=
  let want := s.powerWanted e
  let cur := s.rd F.LE_STAT_PSTATE e
  if want < cur && (cur != 2 || s.txState e ≤ 1) then s.setPower e want else s

/-- POWER_STATE_REACHED: the transition to IDLE or ON ends (R245). -/
def State.powerReached (s : State) (e : Nat) : State :=
  let want := s.powerWanted e
  if s.engineExists e && s.rd F.LE_STAT_PSTATE e < want then s.setPower e want else s

/-! ### Faults (R245, R251) -/

/-- DRV_FAULT: drivers and RMP_OUT off at once, held until TX_EN is written 0 and then 1 (R251). -/
def State.driverFault (s : State) (e : Nat) : State :=
  if !s.engineOn e then s
  else
    let s := s.modEngine e fun x =>
      { x with driverFault := true, driverAck := false, ramp := none, laserRamp := none, swingRamp := none, laser := 0 }
    let s := (s.wr F.LE_STAT_TX_STATE e 1).wr F.LE_STAT_LEVEL e 0
    let s := s.each (s.partners e) fun s i => (s.followRequest i).showHolds i
    s.raise F.LE_STICKY_DRV_FAULT e

/-- The receive side enters LOS from another state (R255): what fast re-acquisition will need is kept (R258). -/
def State.enterLos (s : State) (e : Nat) : State :=
  let locked := s.rxState e == 5 || (s.rxState e == 4 && (s.engine e).fast)
  let s := ((s.enterRx e 1).clearLocks e).modEngine e fun x =>
    { x with wasLocked := locked, losAt := s.now, fresh := false, fast := false }
  (s.dropFrame e).raise F.LE_STICKY_LOS e

/-- CONV_FAULT: a receive fault is LOS, a transmit fault a driver fault (R245). -/
def State.convFault (s : State) (e : Nat) (receive : Bool) : State :=
  if s.rd F.LE_STAT_PSTATE e == 0 then s
  else
    let s := s.raise F.LE_STICKY_CONV_FAULT e
    if receive then if 2 ≤ s.rxState e then s.enterLos e else s
    else s.driverFault e

/-- RAMP_DONE: every ramp of the engine that ends within the tick (R246, R248, R252). -/
def State.rampDone (s : State) (e : Nat) : State :=
  let x := s.engine e
  let s := match x.ramp with
    | some r =>
      if s.rampDue r then
        let lit := r.l1 == 4095
        (((s.modEngine e fun x => { x with ramp := none }).wr F.LE_STAT_TX_STATE e (if lit then 3 else 1)).wr
          F.LE_STAT_LEVEL e r.l1).raise F.LE_STICKY_RAMP_DONE e
      else s
    | none => s
  let s := match x.laserRamp with
    | some r =>
      if s.rampDue r then
        (s.modEngine e fun x => { x with laserRamp := none, laser := r.l1 }).raise F.LE_STICKY_RAMP_DONE e
      else s
    | none => s
  match x.swingRamp with
  | some r =>
    if s.rampDue r then
      (s.modEngine e fun x => { x with swingRamp := none, swing := r.l1 }).raise F.LE_STICKY_RAMP_DONE e
    else s
  | none => s

/-! ### Acquisition and lock (R255 to R258) -/

/-- Acquisition starts again at FREQ, over the full CD range or as LE_ACQ has it; the 250 ms of R257 run on through FREQ, CD and EQ (R257,
R258). -/
def State.restartFreq (s : State) (e : Nat) (full : Bool) : State :=
  let on := decide (2 ≤ s.rxState e) && decide (s.rxState e ≤ 4)
  ((s.enterRx e 2).clearLocks e).modEngine e fun x =>
    { x with fast := false, fullCd := full, acqSince := if on then x.acqSince else s.now, hint := false }

/-- ENGINE_LOS: power below ASSERT for 8 ticks (R255); a start in LOS raises LOS only now (R259). -/
def State.engineLos (s : State) (e ticks : Nat) : State :=
  if ticks < 8 || s.rxState e == 0 then s
  else if s.rxState e == 1 then
    if (s.engine e).fresh then (s.modEngine e fun x => { x with fresh := false }).raise F.LE_STICKY_LOS e else s
  else s.enterLos e

/-- ENGINE_SIG_OK: power at or above DEASSERT for 32 ticks: to FREQ, or to EQ for fast re-acquisition after less than 1 s
(R255, R258, R259). -/
def State.engineSigOk (s : State) (e ticks : Nat) : State :=
  if ticks < 32 || s.rxState e != 1 then s
  else
    let x := s.engine e
    let fast := x.wasLocked && !s.elapsed x.losAt 312500 && !s.cfgOn F.LE_CTRL_FAST_DIS e
    let s := if fast then (s.enterRx e 4).modEngine e fun x => { x with fast := true, fresh := false, acqSince := s.now }
      else (s.enterRx e 2).modEngine e fun x =>
        { x with fast := false, fresh := false, fullCd := s.cfgOn F.LE_CTRL_FAST_DIS e, acqSince := s.now }
    s.raise F.LE_STICKY_SIG_OK e

/-- FREQ_LOCK: to the dispersion search, over the hint window first where a hint is enabled (R255, R256). -/
def State.freqLock (s : State) (e : Nat) (fofs : Int) : State :=
  if s.rxState e != 2 then s
  else
    let s := (s.enterRx e 3).wr F.LE_FOFS_FOFS e (unsigned 16 fofs)
    s.modEngine e fun x => { x with hint := s.cfgOn F.LE_ACQ_HINT_EN e && !x.fullCd }

/-- CD_LOCK (R255, R256). -/
def State.cdLock (s : State) (e : Nat) (cd : Int) : State :=
  if s.rxState e != 3 then s else (s.enterRx e 4).wr F.LE_CD_CD e (unsigned 32 (clampInt (-160000) 160000 cd))

/-- CD_HINT_MISS: the hint window ends without lock; the full range is searched at once (R256). -/
def State.cdHintMiss (s : State) (e : Nat) : State :=
  if s.rxState e == 3 && (s.engine e).hint then s.modEngine e fun x => { x with hint := false } else s

/-- LOCK: EQ ends in LOCKED (R255). -/
def State.engineLock (s : State) (e : Nat) : State :=
  if s.rxState e != 4 then s
  else
    let s := (s.wrBool F.LE_EQ_STAT_FAST e (s.engine e).fast).incWrap F.LE_EQ_STAT_ACQ_CNT e 1
    let s := ((s.wr F.LE_EQ_STAT_CR_LOCK e 1).wr F.LE_EQ_STAT_MIMO_LOCK e 1).wr F.LE_EQ_STAT_CLK_LOCK e 1
    let s := (s.enterRx e 5).modEngine e fun x => { x with fast := false, fullCd := false }
    s.raise F.LE_STICKY_LOCK e

/-- ACQ_FAIL: 78,125 ticks of acquisition without LOCKED (R257). -/
def State.acqFail (s : State) (e : Nat) : State :=
  if 2 ≤ s.rxState e && s.rxState e ≤ 4 && s.elapsed (s.engine e).acqSince 78125 then
    ((s.restartFreq e true).modEngine e fun x => { x with acqSince := s.now }).raise F.LE_STICKY_ACQ_FAIL e
  else s

/-- ACQ_RESTART at its boundary (R257): an engine that is off or in LOS has no acquisition to restart. -/
def State.acqRestart (s : State) (e : Nat) : State :=
  if s.rxState e ≤ 1 then s else (s.restartFreq e (s.cfgOn F.LE_CTRL_FAST_DIS e)).dropFrame e

/-- ENGINE_LOL: loss of lock for 3 ticks: fast re-acquisition from EQ, or FREQ with FAST_DIS (R258). -/
def State.engineLol (s : State) (e ticks : Nat) : State :=
  if ticks < 3 || s.rxState e != 5 then s
  else
    let s := s.incWrap F.LE_EQ_STAT_LOL_CNT e 1
    let s := if s.cfgOn F.LE_CTRL_FAST_DIS e then s.restartFreq e true
      else ((s.enterRx e 4).clearLocks e).modEngine e fun x => { x with fast := true, acqSince := s.now }
    (s.dropFrame e).raise F.LE_STICKY_LOL e

/-- FAST_REACQ_TIMEOUT: EQ of a fast re-acquisition has not locked within 5 ms (R258). -/
def State.fastTimeout (s : State) (e : Nat) : State :=
  if s.rxState e == 4 && (s.engine e).fast && s.elapsed (s.engine e).since 1562 then s.restartFreq e true else s

/-- The COH_EQ freeze is in effect on the engine: frozen, and in LOCKED (R39, R41, R260). -/
def State.cohFrozen (s : State) (e : Nat) : Bool :=
  (s.cfgOn F.LE_CTRL_EQ_FRZ e || (s.rd F.SY_LOOP_STAT_FROZEN 0).testBit 5) && s.rxState e == 5

/-- Dispersion and frequency offset as the loops publish them; frozen loops hold theirs (R39, R260, R261). -/
def State.cohPublish (s : State) (e : Nat) (cd fofs : Int) : State :=
  if s.cohFrozen e || s.rxState e != 5 then s
  else (s.wr F.LE_CD_CD e (unsigned 32 (clampInt (-160000) 160000 cd))).wr F.LE_FOFS_FOFS e (unsigned 16 fofs)

/-! ### Carrier pairs (R217, R264) -/

/-- The pair skew in LE_PAIR of engine 2d. -/
def State.showSkew (s : State) (d : Nat) (skew : Int) : State := s.wr F.LE_PAIR_SKEW (2 * d) (unsigned 16 skew)

/-- DESKEW_LOSS: |skew| over 2 µs in 3 frames, or a subframe out of frame (R264); skew in units of 0.1 ns. -/
def State.deskewLoss (s : State) (d : Nat) (skew : Int) (frames : Nat) : State :=
  if !s.paired (2 * d) then s
  else
    let out := s.on F.LF_STAT_OOF (2 * d) || s.on F.LF_STAT_OOF (2 * d + 1)
    if out || (3 ≤ frames && decide (20000 < skew.natAbs)) then
      let s := (s.showSkew d skew).wr F.LE_STAT_DESKEW_OK (2 * d) 0
      (s.showSsf (2 * d)).raise F.LE_STICKY_DESKEW_LOSS (2 * d)
    else s

/-- DESKEW_REGAINED: |skew| at most 1.9 µs in 3 frames (R264). -/
def State.deskewRegained (s : State) (d : Nat) (skew : Int) (frames : Nat) : State :=
  if !s.paired (2 * d) || s.on F.LF_STAT_OOF (2 * d) || s.on F.LF_STAT_OOF (2 * d + 1) || frames < 3 || 19000 < skew.natAbs then s
  else (((s.showSkew d skew).wr F.LE_STAT_DESKEW_OK (2 * d) 1)).showSsf (2 * d)

/-! ### Optics interface (R267) -/

/-- LEN as the master uses it: 8 to 64 bits, rounded up to a multiple of 8. -/
def spiLen (v : Nat) : Nat := clampNat 8 64 ((v + 7) / 8 * 8)

/-- The 64-bit shift register. -/
def State.spiData (s : State) (e : Nat) : BitVec 64 :=
  BitVec.ofNat 64 ((s.reg .LE_SPI_D1 e).toNat * 2 ^ 32 + (s.reg .LE_SPI_D0 e).toNat)

/-- A write of LE_SPI_CTRL with GO = 1 (R267). -/
def State.spiGo (s : State) (e : Nat) (v : Word) : State :=
  if s.on F.LE_SPI_CTRL_BUSY e then s.raise F.LE_STICKY_SPI_ERR e
  else
    let s := s.setReg .LE_SPI_CTRL e (v &&& 0x0000FFFF#32)
    let s := s.wr F.LE_SPI_CTRL_BUSY e 1
    s.send (.optics e (s.rd F.LE_SPI_CTRL_CS e) (spiLen (s.rd F.LE_SPI_CTRL_LEN e)) (s.spiData e))

/-- SPI_DONE: the upper LEN bits are replaced by those received (R267). -/
def State.spiDone (s : State) (e : Nat) (received : BitVec 64) : State :=
  if !s.on F.LE_SPI_CTRL_BUSY e then s
  else
    let low := 64 - spiLen (s.rd F.LE_SPI_CTRL_LEN e)
    let v := received.toNat / 2 ^ low * 2 ^ low + (s.spiData e).toNat % 2 ^ low
    let s := (s.setReg .LE_SPI_D1 e (BitVec.ofNat 32 (v / 2 ^ 32))).setReg .LE_SPI_D0 e (BitVec.ofNat 32 v)
    (s.wr F.LE_SPI_CTRL_BUSY e 0).raise F.LE_STICKY_SPI_DONE e

/-! ### Per tick -/

/-- One engine at a boundary: registers written take effect, ramps publish their level, a class T hold ends in READY (R245 to
R250, R260). -/
def State.tickEngine (s : State) (e : Nat) : State :=
  if !s.engineExists e then s
  else
    let s := s.modEngine e fun x => if x.classT && s.txState e == 1 then { x with classT := false } else x
    let s := (s.followSwing e).followRequest e
    let s := ((s.followLaser e).followPower e).showHolds e
    let s := if s.engineOn e then s.wr F.LE_STAT_LEVEL e (s.levelNow e) else s
    s.wrBool F.LE_EQ_STAT_FROZEN e (s.cohFrozen e)

/-- A class T change of an engine (R214, R247, R259): fault hold until READY, acquisition from LOS. -/
def State.engineClassT (s : State) (e : Nat) : State :=
  if !s.engineOn e then s
  else (s.holdChanged e fun x => { x with classT := true }).startInLos e

/-! ### The commands -/

/-- Meaning of LE_PSTATE_WRITE. -/
def execLePstateWrite (m : Initiator) (p : Fin 4) (s : State) : Host.Outcome State Fault Refusal :=
  .next (s.atEngine m true 0x24000018 fun e =>
    s.write m 0x24000018 (.pstate e p.val) fun t => t.wr F.LE_CTRL_PSTATE e p.val)

/-- Meaning of POWER_STATE_REACHED. -/
def execPowerStateReached (e : Fin 8) (s : State) : Host.Outcome State Fault Refusal := .next (s.powerReached e.val)

/-- Meaning of CONV_FAULT. -/
def execConvFault (e : Fin 8) (receive : Bool) (s : State) : Host.Outcome State Fault Refusal :=
  .next (s.convFault e.val receive)

/-- TX_EN takes a value; a driver fault ends when it is written 0 and then 1 (R247, R251). -/
def State.writeTxEn (s : State) (e : Nat) (on : Bool) : State :=
  (s.wrBool F.LE_CTRL_TX_EN e on).modEngine e fun x =>
    if !x.driverFault then x
    else if !on then { x with driverAck := true }
    else if x.driverAck then { x with driverFault := false, driverAck := false }
    else x

/-- Meaning of TX_EN_WRITE. -/
def execTxEnWrite (m : Initiator) (on : Bool) (s : State) : Host.Outcome State Fault Refusal :=
  .next (s.atEngine m true 0x24000018 fun e => s.write m 0x24000018 (.txEn e on) fun t => t.writeTxEn e on)

/-- Meaning of LASER_EN_WRITE. -/
def execLaserEnWrite (m : Initiator) (on : Bool) (s : State) : Host.Outcome State Fault Refusal :=
  .next (s.atEngine m true 0x24000018 fun e =>
    s.write m 0x24000018 (.laserEn e on) fun t => t.wrBool F.LE_CTRL_LASER_EN e on)

/-- Meaning of LE_DRV_WRITE. -/
def execLeDrvWrite (m : Initiator) (v : Word) (s : State) : Host.Outcome State Fault Refusal :=
  .next (s.atEngine m true 0x2400002C fun e => s.write m 0x2400002C (.atten e v) fun t => t.setReg .LE_DRV e v)

/-- Meaning of RAMP_DONE. -/
def execRampDone (e : Fin 8) (s : State) : Host.Outcome State Fault Refusal := .next (s.rampDone e.val)

/-- Meaning of DRV_FAULT. -/
def execDrvFault (e : Fin 8) (s : State) : Host.Outcome State Fault Refusal := .next (s.driverFault e.val)

/-- Meaning of ENGINE_LOS. -/
def execEngineLos (e : Fin 8) (ticks : Nat) (s : State) : Host.Outcome State Fault Refusal := .next (s.engineLos e.val ticks)

/-- Meaning of ENGINE_SIG_OK. -/
def execEngineSigOk (e : Fin 8) (ticks : Nat) (s : State) : Host.Outcome State Fault Refusal :=
  .next (s.engineSigOk e.val ticks)

/-- Meaning of FREQ_LOCK. -/
def execFreqLock (e : Fin 8) (fofs : Int) (s : State) : Host.Outcome State Fault Refusal := .next (s.freqLock e.val fofs)

/-- Meaning of CD_LOCK. -/
def execCdLock (e : Fin 8) (cd : Int) (s : State) : Host.Outcome State Fault Refusal := .next (s.cdLock e.val cd)

/-- Meaning of CD_HINT_MISS. -/
def execCdHintMiss (e : Fin 8) (s : State) : Host.Outcome State Fault Refusal := .next (s.cdHintMiss e.val)

/-- Meaning of LOCK. -/
def execLock (e : Fin 8) (s : State) : Host.Outcome State Fault Refusal := .next (s.engineLock e.val)

/-- Meaning of ACQ_FAIL. -/
def execAcqFail (e : Fin 8) (s : State) : Host.Outcome State Fault Refusal := .next (s.acqFail e.val)

/-- Meaning of ACQ_RESTART. -/
def execAcqRestart (m : Initiator) (s : State) : Host.Outcome State Fault Refusal :=
  .next (s.atEngine m true 0x24000018 fun e =>
    s.write m 0x24000018 (.acqRestart e) fun t => t.later (.acqRestart e))

/-- Meaning of ENGINE_LOL. -/
def execEngineLol (e : Fin 8) (ticks : Nat) (s : State) : Host.Outcome State Fault Refusal := .next (s.engineLol e.val ticks)

/-- Meaning of FAST_REACQ_TIMEOUT. -/
def execFastReacqTimeout (e : Fin 8) (s : State) : Host.Outcome State Fault Refusal := .next (s.fastTimeout e.val)

/-- Meaning of DESKEW_LOSS. -/
def execDeskewLoss (d : Fin 4) (skew : Int) (frames : Nat) (s : State) : Host.Outcome State Fault Refusal :=
  .next (s.deskewLoss d.val skew frames)

/-- Meaning of DESKEW_REGAINED. -/
def execDeskewRegained (d : Fin 4) (skew : Int) (frames : Nat) (s : State) : Host.Outcome State Fault Refusal :=
  .next (s.deskewRegained d.val skew frames)

/-- Meaning of SPI_GO. -/
def execSpiGo (m : Initiator) (v : Word) (s : State) : Host.Outcome State Fault Refusal :=
  .next (s.atEngine m true 0x24000060 fun e => s.write m 0x24000060 (.spiGo e v) fun t => t.spiGo e v)

/-- Meaning of SPI_DONE. -/
def execSpiDone (e : Fin 8) (received : BitVec 64) (s : State) : Host.Outcome State Fault Refusal :=
  .next (s.spiDone e.val received)

end Sys2Proof.Machine
end

