-- ==== Sys2Proof/Machine/Architecture.lean ====
section
/-! DEFINITION. Die-to-die links, adaptive voltage loops, loop freezes and TICK_NO reads (01_architecture_and_tick.md). -/

namespace Sys2Proof.Machine

/-! ### Die-to-die links (R13 to R15) -/

/-- A link after a change. -/
def State.modLink (s : State) (d : Nat) (f : Link → Link) : State := s.setLink d (f (s.link d))

/-- The line die of a link exists (R3). -/
def State.linkExists (s : State) (d : Nat) : Bool := s.engineExists (2 * d)

/-- D2D_TRANSFER: one transfer of a tick ends (R13, R14). -/
def State.transfer (s : State) (d : Nat) (how : TransferEnd) : State :=
  if !s.linkExists d then s
  else
    match how with
    | .correct => s.modLink d fun x => { x with seen := some true }
    | .repeated n => s.modLink d fun x => { x with seen := some true, corrected := x.corrected + (if n == 0 then 0 else 1) }
    | .lost ports cws =>
      let s := s.modLink d fun x => { x with uncorrected := x.uncorrected + 1, seen := some (x.seen == some true) }
      let s := s.each (ports.map (·.val)) fun s p => s.setStore p { s.store p with aisCrate := true }
      let s := { s with lostTransfers := s.lostTransfers ++ cws }
      s.raise F.SY_STICKY_D2D_UNCORR 0

/-- A link at the boundary that ends a tick: its runs of ticks with and without a correct transfer (R15). -/
def State.tickLink (s : State) (d : Nat) : State :=
  s.modLink d fun x =>
    match x.seen with
    | some true => { x with seen := none, badTicks := 0, goodTicks := x.goodTicks + 1 }
    | some false => { x with seen := none, badTicks := x.badTicks + 1, goodTicks := 0 }
    | none => x

/-- D2D_DOWN: 16 ticks without a correct transfer; the engines of the die are treated as failed (R15, R247). -/
def State.d2dDown (s : State) (d : Nat) : State :=
  let x := s.link d
  if x.down || x.badTicks < 16 || !s.linkExists d then s
  else
    let s := s.modLink d fun x => { x with down := true, retrainedAt := s.now, goodTicks := 0 }
    let s := s.each [2 * d, 2 * d + 1] fun s e => s.holdChanged e fun x => { x with d2dFault := true }
    s.raise F.SY_STICKY_D2D_DOWN 0

/-- D2D_RETRAIN: every 1,024 ticks while down (R15). -/
def State.d2dRetrain (s : State) (d : Nat) : State :=
  let x := s.link d
  if x.down && s.elapsed x.retrainedAt 1024 then
    s.modLink d fun x => { x with retrainedAt := s.now, retrains := x.retrains + 1 }
  else s

/-- D2D_RESTORE: 312,500 ticks of correct transfers; the engines acquire as at start-up (R15, R247). -/
def State.d2dRestore (s : State) (d : Nat) : State :=
  let x := s.link d
  if x.down && 312500 ≤ x.goodTicks then
    let s := s.modLink d fun x => { x with down := false }
    s.each [2 * d, 2 * d + 1] fun s e =>
      let s := s.holdChanged e fun x => { x with d2dFault := false }
      if s.engineOn e then s.startInLos e else s
  else s

/-! ### Voltage loops (R38, R41, R535) -/

/-- Range of a rail in mV. -/
def Rail.range : Rail → Nat × Nat
  | .core => (700, 800)
  | .le => (650, 780)

/-- The loop of a rail. -/
def State.avs (s : State) : Rail → AvsLoop
  | .core => s.avsCore
  | .le => s.avsLe

/-- The state with the loop of a rail replaced, and its margin published. -/
def State.setAvs (s : State) (r : Rail) (x : AvsLoop) (margin : Nat) : State :=
  match r with
  | .core => { s with avsCore := x }.wr F.SY_AVS_CORE_MARGIN 0 (min margin 255)
  | .le => { s with avsLe := x }.wr F.SY_AVS_LE_MARGIN 0 (min margin 255)

/-- The rail's loop is frozen (R39). -/
def State.avsFrozen (s : State) (r : Rail) : Bool :=
  (s.rd F.SY_LOOP_STAT_FROZEN 0).testBit (match r with | .core => 0 | .le => 1)

/-- AVS_UPDATE: at most one step of 5 mV per 1,024 ticks, over PMBus (R38, R41, R535). -/
def State.avsUpdate (s : State) (r : Rail) (v : AvsReading) : State :=
  let x := s.avs r
  if !s.elapsed x.updatedAt 1024 then s
  else
    let (lo, hi) := r.range
    let failed := { x with setpoint := hi, updatedAt := s.now, failures := 0 }
    if !v.monitorOk then (s.setAvs r failed v.margin).raise F.SY_STICKY_AVS_FAIL 0
    else
      let frozen := s.avsFrozen r
      let goal :=
        if v.belowLimit then min (x.setpoint + 5) hi
        else if v.slack && !frozen then max (x.setpoint - 5) lo
        else x.setpoint
      let ovr := match r with | .core => F.SY_LOOP_STAT_AVS_CORE_OVR | .le => F.SY_LOOP_STAT_AVS_LE_OVR
      let s := (s.wrBool ovr 0 (frozen && v.belowLimit)).raiseIf (frozen && v.belowLimit) F.SY_STICKY_AVS_OVERRIDE 0
      if goal == x.setpoint then s.setAvs r { x with updatedAt := s.now } v.margin
      else
        let good := match v.readback with
          | some mv => decide (mv ≤ goal + 10) && decide (goal ≤ mv + 10)
          | none => false
        if good then s.setAvs r { x with setpoint := goal, updatedAt := s.now, failures := 0 } v.margin
        else if 3 ≤ x.failures + 1 then (s.setAvs r failed v.margin).raise F.SY_STICKY_AVS_FAIL 0
        else s.setAvs r { x with setpoint := goal, updatedAt := s.now, failures := x.failures + 1 } v.margin

/-! ### Freezes (R39, R105) -/

/-- The freezes that software has set take effect at a boundary; STOWAGE abandons a repack in progress (R39, R105). -/
def State.tickFreeze (s : State) : State :=
  let f := (s.reg .SY_LOOP_FREEZE 0).toNat % 256
  let s := s.wr F.SY_LOOP_STAT_FROZEN 0 f
  let s := if f.testBit 0 then s else s.wr F.SY_LOOP_STAT_AVS_CORE_OVR 0 0
  let s := if f.testBit 1 then s else s.wr F.SY_LOOP_STAT_AVS_LE_OVR 0 0
  let s := (s.wr F.SY_AVS_CORE_SETPT 0 s.avsCore.setpoint).wr F.SY_AVS_LE_SETPT 0 s.avsLe.setpoint
  if f.testBit 7 && s.swap.repacking then s.abandonRepack else s

/-! ### The commands -/

/-- Meaning of D2D_TRANSFER. -/
def execD2dTransfer (d : Fin 4) (how : TransferEnd) (s : State) : Host.Outcome State Fault Refusal :=
  .next (s.transfer d.val how)

/-- Meaning of D2D_DOWN. -/
def execD2dDown (d : Fin 4) (s : State) : Host.Outcome State Fault Refusal := .next (s.d2dDown d.val)

/-- Meaning of D2D_RETRAIN. -/
def execD2dRetrain (d : Fin 4) (s : State) : Host.Outcome State Fault Refusal := .next (s.d2dRetrain d.val)

/-- Meaning of D2D_RESTORE. -/
def execD2dRestore (d : Fin 4) (s : State) : Host.Outcome State Fault Refusal := .next (s.d2dRestore d.val)

/-- Meaning of LOOP_FREEZE_WRITE; writes of the SY block from user mode are refused (R525). -/
def execLoopFreezeWrite (m : Initiator) (v : Word) (s : State) : Host.Outcome State Fault Refusal :=
  .next (if m.isUser then s.busError m true 0x20000110 .priv
    else (s.setReg .SY_LOOP_FREEZE 0 v).reply m (.ok 0))

/-- Meaning of AVS_UPDATE. -/
def execAvsUpdate (rail : Rail) (r : AvsReading) (s : State) : Host.Outcome State Fault Refusal :=
  .next (s.avsUpdate rail r)

/-- Meaning of SY_TICKNO_LO_READ. -/
def execSyTicknoLoRead (m : Initiator) (s : State) : Host.Outcome State Fault Refusal :=
  .next (s.readLatched m F.SY_TICKNO_HI_TICK_HI s.tick.toNat)

end Sys2Proof.Machine
end

