-- ==== Sys2Proof/Machine/Decoding.lean ====
section
/-! DEFINITION. Decoding of native codewords: base decoders, the shared pool and its frequency loop, the results and their counters
(08_decoder_pool_and_encryption.md, R270 to R282). -/

namespace Sys2Proof.Machine

/-- P(f) of R275, for a frequency code of FP_STAT. -/
def poolBudget (fcode : Nat) : Nat := 1488 * (1200 + 25 * fcode) / 1000

/-- A codeword is ranked before another (R276). -/
def Codeword.before (ascending : Bool) (a b : Codeword) : Bool :=
  let heavier := if ascending then decide (a.weight < b.weight) else decide (b.weight < a.weight)
  heavier || (a.weight == b.weight && (decide (a.engine < b.engine) || (a.engine == b.engine && decide (a.index ≤ b.index))))

/-- A codeword put in its rank. -/
def rankInto (ascending : Bool) (c : Codeword) : List Codeword → List Codeword
  | [] => [c]
  | d :: t => if c.before ascending d then c :: d :: t else d :: rankInto ascending c t

/-- Candidates in rank order (R276). -/
def rank (ascending : Bool) (cs : List Codeword) : List Codeword := cs.foldr (rankInto ascending) []

/-- What a codeword keeps when the pool does not serve it (R277). -/
def Codeword.kept (c : Codeword) (unserved : Bool) : Decoded :=
  ⟨c.engine, c.index, c.base, false, unserved, c.lost, c.flips, 0⟩

/-- Pool iterations that a codeword runs out of a grant (R276). -/
def Codeword.runs (c : Codeword) (grant : Nat) : Nat := match c.need with | some n => min n grant | none => grant

/-- The result of a served codeword (R276). -/
def Codeword.served (c : Codeword) (grant : Nat) : Decoded :=
  let ok := match c.need with | some n => if n ≤ grant then some (8 + n) else none | none => none
  ⟨c.engine, c.index, ok, true, false, false, c.flips, c.runs grant⟩

/-- Serving the ranked candidates out of a budget (R276): the results, and the budget left. -/
def serve (budget : Nat) : List Codeword → List Decoded × Nat
  | [] => ([], budget)
  | c :: t =>
    if budget == 0 then
      let r := serve 0 t
      (c.kept true :: r.1, r.2)
    else
      let grant := min 16 budget
      let r := serve (budget - c.runs grant) t
      (c.served grant :: r.1, r.2)

/-- The pool and its loop after a change. -/
def State.modPool (s : State) (f : Pool → Pool) : State := { s with pool := f s.pool }

/-- BASE_DECODE: the codewords of the tick after their base decoding (R273); interop engines decode without the pool (R274). -/
def State.baseDecode (s : State) (cws : List Codeword) : State :=
  let cws := cws.filter fun c => s.engineExists c.engine && (s.native c.engine || s.interop c.engine)
  s.modPool fun p => { p with based := p.based ++ cws }

/-- A codeword that the pool ranks (R276, R278). -/
def State.isCandidate (s : State) (c : Codeword) : Bool :=
  c.base.isNone && !c.lost && s.native c.engine && (s.cfg F.FP_CTRL_ENG_EN 0).testBit c.engine

/-- POOL_DECODE: ranking and serving the candidates of the tick (R275 to R278). -/
def State.poolDecode (s : State) : State :=
  let cands := rank (s.cfgOn F.FP_CTRL_ORDER 0) (s.pool.atPool.filter s.isCandidate)
  let rest := (s.pool.atPool.filter fun c => !s.isCandidate c).map (Codeword.kept · false)
  let budget := poolBudget (s.rd F.FP_STAT_FCODE 0)
  let (served, left) := serve budget cands
  let unserved := (served.filter (·.unserved)).length
  let used := budget - left
  let lost := s.pool.atPool.any fun c => c.base.isNone && c.lost
  let s := s.modPool fun p =>
    { p with atPool := [], decoded := p.decoded ++ served ++ rest, cand := p.cand + cands.length,
             unserved := p.unserved + unserved, used := p.used + used, starved := p.starved || decide (0 < unserved),
             busy := p.busy || decide (budget ≤ 2 * used) }
  let s := s.each served fun s d => s.addTally 22 d.engine d.ran
  (s.raiseIf (decide (0 < unserved)) F.FP_STICKY_STARVED 0).raiseIf lost F.FP_STICKY_D2D_LOST 0

/-- The codewords move on by one tick (R272); those whose transfer was lost keep their base result (R14, R277).  The load of the
tick is published (FP_LOAD, FP_USED, FP_STAT). -/
def State.tickPool (s : State) : State :=
  let mark (c : Codeword) : Codeword :=
    if s.lostTransfers.contains (256 * c.engine + c.index) then { c with lost := c.base.isNone } else c
  let p := s.pool
  let s := { s with lostTransfers := [],
                    pool := { p with based := [], atPool := p.based.map mark, decoded := [],
                                     deliver := p.decoded ++ p.atPool.map (Codeword.kept · false), cand := 0, unserved := 0, used := 0 } }
  let s := (s.wr F.FP_LOAD_CAND 0 (min p.cand 1488)).wr F.FP_LOAD_UNSERVED 0 p.unserved
  (s.wr F.FP_USED_USED 0 p.used).wr F.FP_STAT_BUDGET 0 (poolBudget (s.rd F.FP_STAT_FCODE 0))

/-- Histogram bin of a result (R282, R274). -/
def State.histBin (s : State) (d : Decoded) : Nat :=
  match d.ok with
  | some h => if s.interop d.engine then 0 else min h 24
  | none => if d.served then 25 else 26

/-- CODEWORD_DELIVERY: the results due at this boundary reach the counters (R272, R281, R282). -/
def State.deliverCodewords (s : State) : State :=
  let ds := s.pool.deliver
  let s := s.modPool fun p => { p with deliver := [] }
  s.each ds fun s d =>
    let up (s : State) (n k : Nat) : State := s.count ⟨.fp, n, d.engine⟩ k
    let s := up (up s (s.histBin d) 1) 27 1
    let s := up s 28 (if d.ok.isSome then d.flips else 0)
    let s := up (up (up s 29 d.served.toNat) 30 d.unserved.toNat) 31 d.lost.toNat
    let s := (s.addTally 20 d.engine 1).addTally 21 d.engine d.ok.isNone.toNat
    s.addTally 23 d.engine d.unserved.toNat

/-- POOL_FREQ_DECISION: one step of 25 MHz at most, every 16 ticks (R279, R280); the freeze of R39 holds the frequency. -/
def State.poolFreq (s : State) (r : PoolReading) : State :=
  if s.tick.toNat % 16 != 0 then s
  else
    let p := s.pool
    let t := s.modPool fun p => { p with starved := false, busy := false }
    let frozen := (s.rd F.SY_LOOP_STAT_FROZEN 0).testBit 2
    let cur := s.rd F.FP_STAT_FCODE 0
    let lo := min (s.cfg F.FP_FREQ_FMIN 0) 32
    let hi := max lo (min (s.cfg F.FP_FREQ_FMAX 0) 32)
    let limit : Int := s.cfg F.FP_FREQ_T_HI 0
    let plim := s.cfg F.FP_PLIM_P_LIM 0
    match r.temp, r.power with
    | some temp, some power =>
      let goal :=
        if temp ≥ limit || (plim != 0 && plim ≤ power) then cur - 1
        else if p.starved && decide (temp < limit - 3) && (plim == 0 || decide (power + 20 < plim)) then cur + 1
        else if !p.busy then cur - 1
        else cur
      if frozen || p.guarded then t else t.wr F.FP_STAT_FCODE 0 (clampNat (min lo (cur + 1)) (max hi (cur - 1)) goal)
    | _, _ => (if frozen then t else t.wr F.FP_STAT_FCODE 0 0).raise F.FP_STICKY_FREQ_FAIL 0

/-! ### The commands -/

/-- Meaning of POOL_FREQ_DECISION. -/
def execPoolFreqDecision (r : PoolReading) (s : State) : Host.Outcome State Fault Refusal := .next (s.poolFreq r)

/-- Meaning of BASE_DECODE. -/
def execBaseDecode (cws : List Codeword) (s : State) : Host.Outcome State Fault Refusal := .next (s.baseDecode cws)

/-- Meaning of POOL_DECODE. -/
def execPoolDecode (s : State) : Host.Outcome State Fault Refusal := .next s.poolDecode

/-- Meaning of CODEWORD_DELIVERY. -/
def execCodewordDelivery (s : State) : Host.Outcome State Fault Refusal := .next s.deliverCodewords

/-- Meaning of FP_CNT_LO_READ: the counters of an engine that is absent read 0 (R3). -/
def execFpCntLoRead (m : Initiator) (s : State) : Host.Outcome State Fault Refusal :=
  let e := s.rd F.FP_SEL_ENGINE m.copy
  .next (s.readLatched m F.FP_CNT_HI_CNT_HI (if s.engineExists e then s.ctr ⟨.fp, s.rd F.FP_SEL_CNT m.copy, e⟩ else 0))

end Sys2Proof.Machine
end

