-- ==== Sys2Proof/Machine/Encryption.lean ====
section
/-! DEFINITION. Encryption contexts: key loading, state changes, blocks, verification and the AIS window
(08_decoder_pool_and_encryption.md, R283 to R305). -/

namespace Sys2Proof.Machine

/-! ### Contexts (R283) -/

/-- Place of a context among all contexts. -/
def ctxIndex (e : Nat) (receive : Bool) (x : Nat) : Nat := 2048 * (2 * e + receive.toNat) + x

/-- Engine of a context's place. -/
def ctxEngine (i : Nat) : Nat := i / 4096

/-- The context of a place receives. -/
def ctxReceives (i : Nat) : Bool := i / 2048 % 2 == 1

/-- Copy of the SEC_E registers of an engine. -/
def encCopy (e : Nat) : Nat := 2 * e

/-- Contexts that the committed image defines for an engine and direction. -/
def State.contextsOf (s : State) (e : Nat) (receive : Bool) : List Nat :=
  ((s.image.contexts.filter fun r => r.engine == e && r.dir == receive.toNat).map (·.ctx)).map (ctxIndex e receive)

/-- A context after a change. -/
def State.modCtx (s : State) (i : Nat) (f : EncCtx → EncCtx) : State := s.setEncCtx i (f (s.encCtx i))

/-- The key of a phase. -/
def EncCtx.key (x : EncCtx) (phase : Nat) : Option (List Word) := if phase == 0 then x.key0 else x.key1

/-- The phase a state names: 0b10 and 0b11 (R288). -/
def phaseOf (st : Nat) : Option Nat := if 2 ≤ st then some (st - 2) else none

/-- A state names a key phase. -/
def names (st phase : Nat) : Bool := st == 2 + phase

/-- A key phase is in use: named by the current state or by a pending or announced change (R291). -/
def State.phaseInUse (s : State) (i phase : Nat) : Bool :=
  names (s.rd F.SEC_CTX_STAT_STATE i) phase || names (s.rd F.SEC_CTX_STAT_NEXT i) phase ||
    (match (s.encCtx i).change with | some (target, _) => names target phase | none => false)

/-- A key phase takes a key or is emptied; SEC_CTX_STAT shows it. -/
def State.setKey (s : State) (i phase : Nat) (k : Option (List Word)) : State :=
  if phase == 0 then (s.modCtx i fun x => { x with key0 := k }).wrBool F.SEC_CTX_STAT_KEY0 i k.isSome
  else (s.modCtx i fun x => { x with key1 := k }).wrBool F.SEC_CTX_STAT_KEY1 i k.isSome

/-- A pending change, or none; SEC_CTX_STAT shows it. -/
def State.setChange (s : State) (i : Nat) (c : Option (Nat × Tick)) : State :=
  (s.modCtx i fun x => { x with change := c }).wrBool F.SEC_CTX_STAT_PENDING i c.isSome

/-- SEC_CTX_STAT shows the window and the whole-block replacement (R296, R299). -/
def State.showAis (s : State) (i : Nat) : State :=
  let x := s.encCtx i
  (s.wrBool F.SEC_CTX_STAT_AIS i (x.window.isSome || x.latched || x.blockAis)).wrBool F.SEC_CTX_STAT_LATCHED i x.latched

/-- The action of a receive context on its present block (R296). -/
def State.applyBlock (s : State) (i : Nat) (report : Bool) : State :=
  let st := s.rd F.SEC_CTX_STAT_STATE i
  let require := s.cfgOn F.SEC_CTX_CFG_REQUIRE i
  let x := s.encCtx i
  let noKey := match phaseOf st with | some p => (x.key p).isNone | none => false
  let unknown := s.on F.SEC_CTX_STAT_UNKNOWN i
  let clear := !unknown && (phaseOf st).isNone
  let s := s.modCtx i fun x => { x with blockAis := if unknown then require else noKey || (clear && require) }
  let s := s.raiseIf (report && !unknown && noKey) F.SEC_ESTICKY_KEY_MISSING (encCopy (ctxEngine i))
  (s.raiseIf (report && clear && require) F.SEC_ESTICKY_DOWNGRADE (encCopy (ctxEngine i))).showAis i

/-- A receive context starts (R296): nothing is accepted until the first block received after the start. -/
def State.startCtx (s : State) (i : Nat) : State :=
  let s := s.modCtx i fun x => { x with seen := [0, 0, 0, 0], started := true, lastState := 0 }
  ((((s.wr F.SEC_CTX_STAT_STATE i 0).wr F.SEC_CTX_STAT_NEXT i 0).wr F.SEC_CTX_STAT_UNKNOWN i 1)).applyBlock i false

/-- Every receive context of an engine starts (R296, R303). -/
def State.startReceive (s : State) (e : Nat) : State := s.each (s.contextsOf e true) State.startCtx

/-- A class T change of an engine: receive contexts start again, pending transmit changes end unperformed (R303). -/
def State.restartContexts (s : State) (e : Nat) : State :=
  (s.startReceive e).each (s.contextsOf e false) fun s i => (s.setChange i none).modCtx i fun x => { x with hold := false }

/-- Every key phase emptied and every context CLEAR with no pending change (R303). -/
def State.emptyKeys (s : State) : State :=
  let s := s.each (s.image.contexts.map fun r => ctxIndex r.engine (r.dir == 1) r.ctx) fun s i =>
    ((((s.setKey i 0 none).setKey i 1 none).setChange i none).wr F.SEC_CTX_STAT_STATE i 0).wr F.SEC_CTX_STAT_NEXT i 0
  { s with enc := Tab.mapValues {} (fun _ x => { x with key0 := none, key1 := none, change := none, hold := false }) s.enc,
           keyJobs := [] }

/-! ### Key loading (R290 to R292) -/

/-- The result of a master's key command (SEC_KRES). -/
def State.keyResult (s : State) (copy code : Nat) : State := s.wr F.SEC_KRES_RESULT copy code

/-- The context exists and the committed image defines it. -/
def State.ctxDefined (s : State) (i : Nat) : Bool :=
  s.engineExists (ctxEngine i) && decide (i % 2048 < 1280) && s.on F.SEC_CTX_CFG_VALID i

/-- The master's blob, and its copies cleared (R291). -/
def State.blobOf (s : State) (copy : Nat) : List Word := (List.range 10).map fun k => s.reg .SEC_KWRAP (copy * 10 + k)

/-- The master's SEC_KWRAP copies cleared (R291). -/
def State.clearBlob (s : State) (copy : Nat) : State :=
  s.each (List.range 10) fun s k => s.setReg .SEC_KWRAP (copy * 10 + k) 0

/-- SEC_KCMD LOAD (R291): the unwrapping starts. -/
def State.keyLoad (s : State) (copy i phase : Nat) (blob : List Word) : State :=
  let t := s.clearBlob copy
  if !s.ctxDefined i then t.keyResult copy 8
  else if (s.keyJob copy).isSome then t.keyResult copy 2
  else ((t.setKeyJob copy (some ⟨i, phase, blob⟩)).wr F.SEC_KRES_BUSY copy 1).keyResult copy 0

/-- The unwrapping ends (R291). -/
def State.unwrapDone (s : State) (copy : Nat) (intact : Bool) : State :=
  match s.keyJob copy with
  | none => s
  | some j =>
    let s := (s.setKeyJob copy none).wr F.SEC_KRES_BUSY copy 0
    if !s.on F.SEC_DK_STAT_DK_VALID 0 then s.keyResult copy 4
    else if !intact then (s.keyResult copy 3).raise F.SEC_ESTICKY_UNWRAP_FAIL (encCopy (ctxEngine j.ctx))
    else if s.phaseInUse j.ctx j.phase then s.keyResult copy 5
    else (s.setKey j.ctx j.phase (some j.blob)).keyResult copy 1

/-- SEC_KCMD ZEROIZE (R292). -/
def State.zeroize (s : State) (copy i phase : Nat) : State :=
  if !s.ctxDefined i then s.keyResult copy 8
  else if s.phaseInUse i phase then s.keyResult copy 5
  else (s.setKey i phase none).keyResult copy 1

/-- SEC_KCMD ZEROIZE_ALL (R292): at once. -/
def State.zeroizeAll (s : State) (copy e dir : Nat) : State :=
  if !s.engineExists e then s.keyResult copy 8
  else
    let s := s.each (s.contextsOf e (dir == 1)) fun s i =>
      let s := ((s.setKey i 0 none).setKey i 1 none).setChange i none
      let s := ((s.wr F.SEC_CTX_STAT_STATE i 0).wr F.SEC_CTX_STAT_NEXT i 0).modCtx i fun x => { x with hold := false }
      if dir == 1 then s.startCtx i else s
    s.keyResult copy 1

/-! ### State changes of transmit contexts (R293 to R295) -/

/-- SEC_KCMD CHANGE to a target at block boundary `b` (R293). -/
def State.keyChange (s : State) (copy i target : Nat) (b : Tick) : State :=
  if !s.ctxDefined i || ctxReceives i then s.keyResult copy 8
  else if target == 1 then s.keyResult copy 2
  else if b.toNat % 64 != 0 then s.keyResult copy 6
  else if !s.leadMet b 66 then (s.keyResult copy 6).tickLate
  else
    let x := s.encCtx i
    if x.change.isSome then s.keyResult copy 2
    else if (match phaseOf target with | some p => (x.key p).isNone | none => false) then s.keyResult copy 7
    else if target == s.rd F.SEC_CTX_STAT_STATE i then s.keyResult copy 1
    else (s.setChange i (some (target, b))).keyResult copy 1

/-- A transmit context at a block boundary (R294, R295): a change due now applies, a change due at the next boundary is announced;
a phase that is empty sends AIS crates and announces CLEAR. -/
def State.txBlock (s : State) (i : Nat) : State :=
  let due (b : Tick) : Option Nat := match (s.encCtx i).change with
    | some (target, at_) => if at_ == b then some target else none
    | none => none
  let s := match due s.tick with
    | some target =>
      ((s.setChange i none).wr F.SEC_CTX_STAT_STATE i target).modCtx i fun x => { x with hold := false }
    | none => s
  let st := s.rd F.SEC_CTX_STAT_STATE i
  let x := s.encCtx i
  let next := match x.change with
    | some (target, at_) => if at_ == s.tick + 64 then target else st
    | none => st
  let noKey := match phaseOf st with | some p => (x.key p).isNone | none => false
  let s := s.modCtx i fun x => { x with lastState := x.nowState, nowState := if noKey then 0 else st, blockAis := noKey }
  if noKey then (s.wr F.SEC_CTX_STAT_NEXT i 0).raise F.SEC_ESTICKY_KEY_MISSING (encCopy (ctxEngine i))
  else s.wr F.SEC_CTX_STAT_NEXT i next

/-- EHDR of the frame of the present tick (R288). -/
def State.encHeader (s : State) (e : Nat) : Nat :=
  let act := (s.contextsOf e false).any fun i => (phaseOf (s.encCtx i).nowState).isSome || (phaseOf (s.encCtx i).lastState).isSome
  act.toNat * 2 ^ 15 + 1 * 2 ^ 11 + 20 * (s.tick.toNat % 64)

/-- KST of the frame of the present tick: contexts 640 × FNO[0] and following, the lowest first (R288). -/
def State.encStates (s : State) (e : Nat) : List Nat :=
  (List.range 640).map fun k => s.rd F.SEC_CTX_STAT_NEXT (ctxIndex e false (640 * (s.tick.toNat % 2) + k))

/-- A transmit context sends AIS crates in its slots: its phase is empty, or its content would go in clear while a change to an ENCRYPTED
state is pending (R295). -/
def State.txReplaced (s : State) (i : Nat) : Bool :=
  let x := s.encCtx i
  x.hold || x.blockAis || ((phaseOf x.nowState).isNone && (match x.change with | some (target, _) => (phaseOf target).isSome | none => false))

/-- The transmit context as the frame of tick `n` finds it (R294, R295). -/
def State.txAtTick (s : State) (i : Nat) (n : Tick) : Bool :=
  let t := { s with tick := n }
  (if n.toNat % 64 == 0 && t.native (ctxEngine i) then t.txBlock i else t).txReplaced i

/-! ### Receiving (R289, R296 to R299) -/

/-- The state accepted from a block's appearances: at least 3, and more than any other value (R289). -/
def acceptState (seen : List Nat) : Option Nat :=
  let best := (List.range 4).find? fun v =>
    decide (3 ≤ seen.getD v 0) && (List.range 4).all fun w => w == v || decide (seen.getD w 0 < seen.getD v 0)
  match best with
  | some 1 => none
  | b => b

/-- A receive context at a block boundary: it takes the accepted state, and acts on the new block (R289, R296). -/
def State.rxBlock (s : State) (i : Nat) : State :=
  let x := s.encCtx i
  let got := if x.started then none else acceptState x.seen
  let s := s.raiseIf (!x.started && got.isNone) F.SEC_ESTICKY_ANN_LOSS (encCopy (ctxEngine i))
  let st := s.rd F.SEC_CTX_STAT_STATE i
  let decrypts := match phaseOf st with | some p => !s.on F.SEC_CTX_STAT_UNKNOWN i && (x.key p).isSome | none => false
  let s := s.modCtx i fun x =>
    { x with lastState := if decrypts then st else 0, startedLast := x.started, started := false, ssfLast := x.ssf, ssf := false,
             ucwLast := x.ucw, ucw := false, seen := [0, 0, 0, 0] }
  let s := match got with
    | some v => (s.wr F.SEC_CTX_STAT_STATE i v).wr F.SEC_CTX_STAT_UNKNOWN i 0
    | none => s
  (s.wr F.SEC_CTX_STAT_NEXT i (s.rd F.SEC_CTX_STAT_STATE i)).applyBlock i true

/-- ENC_BLOCK_BOUNDARY: transmit contexts at a tick that is a multiple of 64; receive contexts before the frame of a multiple of 64
is delivered (R287, R294, R296). -/
def State.blockBoundary (s : State) (e : Nat) (receive : Bool) : State :=
  if !s.engineExists e || !s.native e then s
  else if receive then
    let x := s.lineFrame e
    if x.expect.toNat % 64 != 0 || x.encBlock == some x.expect then s
    else (s.modFrame e fun x => { x with encBlock := some x.expect }).each (s.contextsOf e true) State.rxBlock
  else if s.tick.toNat % 64 != 0 then s
  else s.each (s.contextsOf e false) State.txBlock

/-- First berth port behind a context: slots count across both subframes of a carrier pair (R283). -/
def State.ctxBase (s : State) (i : Nat) : Nat := 10240 + 1280 * s.governor (ctxEngine i) + s.rd F.SEC_CTX_CFG_S0 i

/-- Size of the context's train. -/
def State.ctxSize (s : State) (i : Nat) : Nat := s.trainSize (s.rd F.SEC_CTX_CFG_TRAIN i)

/-- A codeword of a frame of engine `e` holds a nibble of the context's slots; those from 1,280 on travel in subframe 1 (R283, R298). -/
def State.ctxTouched (s : State) (e i : Nat) (ucw : List Nat) : Bool :=
  !ucw.isEmpty && (List.range (s.ctxSize i)).any fun k =>
    let sl := s.rd F.SEC_CTX_CFG_S0 i + k
    sl / 1280 == e - s.governor e && ucw.any (slotTouches (sl % 1280))

/-- AIS crates replace the content of the slots of transmit contexts that must not send it (R295). -/
def State.hideClear (s : State) (n : Tick) (e : Nat) : State :=
  s.each (s.contextsOf e false) fun s i =>
    if !s.txAtTick i n then s
    else
      let t := s.rd F.SEC_CTX_CFG_TRAIN i
      s.each (List.range (s.ctxSize i)) fun s k =>
        let b := s.egressBerth (s.ctxBase i + k)
        s.setEgressBerth (s.ctxBase i + k) { aisCrate s.tick b.ptr k (s.tidOf t) (s.trainSize t) with ndf := b.ndf }

/-- The stores of the context's slots read out AIS crates (R297). -/
def State.aisContext (s : State) (i : Nat) : State :=
  let base := s.ctxBase i
  let k := s.ctxSize i
  { s with stores := Tab.mapValues {} (fun key x =>
      if x.inUse && decide (base ≤ key.1) && decide (key.1 < base + k) then { x with aisCrate := true } else x) s.stores }

/-- The context replaces the frame with FNO `f`: its block, its window, or a latched window (R296, R299). -/
def EncCtx.covers (x : EncCtx) (f : Tick) : Bool :=
  x.blockAis || x.latched || (match x.window with | some w => decide (ahead w f ≤ 2 ^ 47) | none => false)

/-- The window of a check made at the frame with FNO `f` (R299). -/
def State.openWindow (s : State) (i : Nat) (f : Tick) (latch : Bool) : State :=
  (s.modCtx i fun x =>
    let last := match x.window with
      | some w => if ahead (f + 64) w ≤ 2 ^ 47 then f + 64 else w
      | none => f + 64
    { x with window := some last, latched := x.latched || latch }).showAis i

/-- The tag check of context `i` in the frame with FNO `f` (R298). -/
def State.checkTag (s : State) (i : Nat) (f : Tick) (valid held : Bool) (tag : Option Bool) : State :=
  let x := s.encCtx i
  let e := ctxEngine i
  let c := encCopy e
  if (phaseOf x.lastState).isNone then s
  else if held || x.ssfLast || x.startedLast then s
  else if !valid then
    let s := (s.incWrap F.SEC_CTX_CNT_TAG_LOST i 1).raise F.SEC_ESTICKY_TAG_LOST c
    if s.cfgOn F.SEC_ECTRL_LOST_AIS c then s.openWindow i f false else s
  else if tag != some false then s
  else if x.ucwLast then s.incWrap F.SEC_CTX_CNT_UCW_FAIL i 1
  else
    let first : Tick := BitVec.ofNat 48 (f.toNat / 64 * 64) - 64
    let s := (s.incWrap F.SEC_CTX_CNT_AUTH_FAIL i 1).wr F.SEC_CTX_LAST_FNO i first.toNat
    (s.openWindow i f (s.cfgOn F.SEC_ECTRL_LATCH c)).raise F.SEC_ESTICKY_AUTH_FAIL c

/-- The line pair of an engine in the committed image (R339). -/
def State.linePair (s : State) (e : Nat) : Option MergeRec :=
  s.image.merge.find? fun r => F.MG_CFG_KIND.get r.cfg == 1 && (F.MG_CFG_ENG_A.get r.cfg == e || F.MG_CFG_ENG_B.get r.cfg == e)

/-- The receive contexts that read the frames of an engine: those of the lower engine of a line pair (R300). -/
def State.readsEnc (s : State) (e : Nat) : Bool :=
  match s.linePair e with | some r => F.MG_CFG_ENG_A.get r.cfg == e | none => true

/-- Merged SSF: a frame of every receive context of the primary is missing (R298, R351). -/
def State.missContexts (s : State) (e : Nat) : State :=
  s.each (s.contextsOf e true) fun s i => s.modCtx i fun x => { x with ssf := true }

/-- The ENC area of a delivered frame (R288, R289, R296 to R299). -/
def State.readEnc (s : State) (e : Nat) (f : Tick) (ucw : List Nat) (area : EncArea) : State :=
  if 16 ≤ e || !s.readsEnc e then s
  else
    let held := s.sectionSsf e
    let valid := area.ecrcOk && !ucw.contains 0
    let ctxs := s.contextsOf e true
    let s := s.each ((s.partners e).flatMap fun p => s.contextsOf p true) fun s i =>
      let hit := s.ctxTouched e i ucw
      if held || hit then s.modCtx i fun x => { x with ssf := x.ssf || held, ucw := x.ucw || hit } else s
    let s := if !valid then s else
      s.each area.kst fun s (x, v) =>
        let i := ctxIndex e true x
        if x / 640 != f.toNat % 2 || !ctxs.contains i || 4 ≤ v then s
        else
          let s := s.modCtx i fun y => { y with seen := y.seen.set v (y.seen.getD v 0 + 1) }
          let y := s.encCtx i
          match if y.started then none else acceptState y.seen with
          | some n => s.wr F.SEC_CTX_STAT_NEXT i n
          | none => s
    let s := s.each ctxs fun s i => if (s.encCtx i).covers f then s.aisContext i else s
    s.each (List.range 20) fun s k =>
      let x := 20 * (f.toNat % 64) + k
      let i := ctxIndex e true x
      if ctxs.contains i then s.checkTag i f valid held ((area.tags.find? (·.1 == x)).map (·.2)) else s

/-- AIS_WINDOW_END: the frame after the window is the next to be delivered (R299). -/
def State.windowEnd (s : State) (e ctx : Nat) : State :=
  let i := ctxIndex e true ctx
  let x := s.encCtx i
  match x.window with
  | some w =>
    let past := ahead (s.lineFrame e).expect w
    if !x.latched && decide (0 < past) && decide (past ≤ 2 ^ 47) then (s.modCtx i fun x => { x with window := none }).showAis i else s
  | none => s

/-- CLR_LATCH at its boundary: every latched window of the engine ends (R299). -/
def State.clearLatches (s : State) (e : Nat) : State :=
  s.each (s.contextsOf e true) fun s i =>
    if (s.encCtx i).latched then (s.modCtx i fun x => { x with latched := false, window := none }).showAis i else s

/-! ### The commands -/

/-- A key command of a master: refused in user mode (R525), otherwise written; BAD_CTX where SEC_KSEL names no context (R3, R305). -/
def State.keyCommand (s : State) (m : Initiator) (w : Nat → Write) (eff : State → Nat → State) : State :=
  if m.isUser then s.busError m true 0x2E001050 .priv
  else s.write m 0x2E001050 (w (s.contextSel m)) fun t => eff t (s.contextSel m)

/-- Meaning of KEY_LOAD. -/
def execKeyLoad (m : Initiator) (phase : Fin 2) (s : State) : Host.Outcome State Fault Refusal :=
  .next (s.keyCommand m (fun i => .keyLoad m.copy i phase.val (s.blobOf m.copy)) fun t i =>
    t.keyLoad m.copy i phase.val (s.blobOf m.copy))

/-- Meaning of KEY_UNWRAP_DONE. -/
def execKeyUnwrapDone (m : Initiator) (intact : Bool) (s : State) : Host.Outcome State Fault Refusal :=
  .next (s.unwrapDone m.copy intact)

/-- Meaning of KEY_CHANGE. -/
def execKeyChange (m : Initiator) (target : Fin 4) (s : State) : Host.Outcome State Fault Refusal :=
  let b := tickOf (s.rd F.SEC_KAT_LO_AT_LO m.copy) (s.rd F.SEC_KAT_HI_AT_HI m.copy)
  .next (s.keyCommand m (fun i => .keyChange m.copy i target.val b) fun t i => t.keyChange m.copy i target.val b)

/-- Meaning of ZEROIZE. -/
def execZeroize (m : Initiator) (phase : Fin 2) (s : State) : Host.Outcome State Fault Refusal :=
  .next (s.keyCommand m (fun i => .zeroize m.copy i phase.val) fun t i => t.zeroize m.copy i phase.val)

/-- Meaning of ZEROIZE_ALL. -/
def execZeroizeAll (m : Initiator) (s : State) : Host.Outcome State Fault Refusal :=
  let e := s.rd F.SEC_KSEL_ENGINE m.copy
  let d := s.rd F.SEC_KSEL_DIR m.copy
  .next (if m.isUser then s.busError m true 0x2E001050 .priv
    else s.write m 0x2E001050 (.zeroizeAll m.copy e d) fun t => t.zeroizeAll m.copy e d)

/-- Meaning of ENC_BLOCK_BOUNDARY. -/
def execEncBlockBoundary (e : Fin 8) (receive : Bool) (s : State) : Host.Outcome State Fault Refusal :=
  .next (s.blockBoundary e.val receive)

/-- Meaning of AIS_WINDOW_END. -/
def execAisWindowEnd (e : Fin 8) (ctx : Fin 1280) (s : State) : Host.Outcome State Fault Refusal :=
  .next (s.windowEnd e.val ctx.val)

/-- Meaning of CLR_LATCH; on an absent engine the write is not performed (R3). -/
def execClrLatch (m : Initiator) (s : State) : Host.Outcome State Fault Refusal :=
  let e := s.rd F.SEC_KSEL_ENGINE m.copy
  .next (if m.isUser then s.busError m true 0x2E001060 .priv
    else if !s.engineExists e then s.reply m (.ok 0)
    else s.write m 0x2E001060 (.clrLatch e) fun t => t.later (.clrLatch e))

/-- Meaning of IN_FRAME: the first in-frame after OOF starts the receive contexts (R210, R212, R296). -/
def execInFrame (u : RxUnit) (pos : Nat) (s : State) : Host.Outcome State Fault Refusal :=
  let t := s.inFrameAt u.val pos
  .next (if (t.lineFrame u.val).inFrame && !(s.lineFrame u.val).inFrame && u.val < 16 then t.startReceive u.val else t)

end Sys2Proof.Machine
end

