-- ==== Sys2Proof/Machine/Tide.lean ====
section
/-! DEFINITION. Tide hub mode (09_tide_hub_mode.md): subcarrier lighting, grants, burst reception, thresholds, reassembly. -/

namespace Sys2Proof.Machine

/-! ### Subcarriers (R306 to R313) -/

/-- The engine is in HUB mode. -/
def State.inHub (s : State) (e : Nat) : Bool := s.engineExists e && s.on F.LF_CFG_HUB e

/-- Type of an upstream subcarrier: 0 DARK, 1 DEDICATED, 2 TIDE (R310). -/
def State.scType (s : State) (e i : Nat) : Nat := (s.rd F.TD_SCTYPE_TYPE e >>> (2 * i)) % 4

/-- TIDE subcarriers of an engine. -/
def State.tideScsOf (s : State) (e : Nat) : List Nat :=
  if s.inHub e then (List.range 16).filter (s.scType e · == 2) else []

/-- Leaves that the committed image defines for an engine (TD_LEAF_CFG). -/
def State.leavesOf (s : State) (e : Nat) : List Nat :=
  s.image.tide.flatMap fun r => if r.engine == e then r.leaves.map (·.id) else []

/-- S_up: symbols per tick of an upstream subcarrier (R310, TD_FMT). -/
def State.symbolsUp (s : State) (e : Nat) : Nat := 32 * s.rd F.TD_FMT_GUP e

/-- A downstream subcarrier follows its LIT bit by a ramp of its amplitude (R265, R312). -/
def State.followLit (s : State) (e i : Nat) : State :=
  let n := 16 * e + i
  let x := s.dsCarrier n
  let want := (s.cfg F.TD_DS_LIT e).testBit i
  let now := match x.ramp with
    | some r => rampLevel r (320 * (s.now - r.since))
    | none => if x.lit then 4095 else 0
  let goal := match x.ramp with | some r => r.l1 == 4095 | none => x.lit
  if want != goal then
    let us := rampTime (if want then s.cfg F.LE_RAMP_T_LIGHT e else s.cfg F.LE_RAMP_T_DARK e)
    s.setDsCarrier n { x with ramp := some ⟨now, if want then 4095 else 0, us, s.now⟩ }
  else
    match x.ramp with
    | some r => if s.rampDue r then s.setDsCarrier n ⟨r.l1 == 4095, none⟩ else s
    | none => s

/-! ### Schedule and grants (R314 to R320) -/

/-- CYC, LEN and ADDR of a schedule bank. -/
def State.bankOf (s : State) (e bank : Nat) : Nat × Nat × Nat :=
  if bank == 0 then (min (s.cfg F.TD_GS_BANK0_CYC e) 8, min (s.cfg F.TD_GS_BANK0_LEN e) 512, s.cfg F.TD_GS_BANK0_ADDR e)
  else (min (s.cfg F.TD_GS_BANK1_CYC e) 8, min (s.cfg F.TD_GS_BANK1_LEN e) 512, s.cfg F.TD_GS_BANK1_ADDR e)

/-- A schedule word (R316); none where VALID is 0. -/
def grantOf (w : Nat) : Option Grant :=
  if w % 2 == 0 then none
  else some ⟨w / 2 ^ 28, w / 2 ^ 20 % 256, w / 2 ^ 12 % 256, w / 64 % 64 + 1, w / 32 % 2 == 1⟩

/-- The valid entries of a bank, in order; a word with an uncorrectable error counts as VALID = 0 (R316, R490). -/
def State.entriesOf (s : State) (e bank : Nat) : List Grant :=
  let (_, len, addr) := s.bankOf e bank
  (List.range len).filterMap fun j =>
    let a := 0x12000000 + 32 * addr + 4 * j
    if s.badWords.contains (a / 16) then none else grantOf (Mem.readWord s.mem a).toNat

/-- Two windows of a cycle of `c` ticks overlap (R317). -/
def overlapIn (c : Nat) (a b : Grant) : Bool :=
  decide ((b.start + c - a.start % c) % c < a.len) || decide ((a.start + c - b.start % c) % c < b.len)

/-- The builder takes an entry (R317). -/
def State.entryTaken (s : State) (e c : Nat) (before : List Grant) (g : Grant) : Bool :=
  s.scType e g.sc == 2 && s.on F.TD_LEAF_CFG_VALID (256 * e + g.leaf) && s.rd F.TD_LEAF_CFG_SC (256 * e + g.leaf) == g.sc &&
    decide (g.start < c) && !before.any fun b => b.sc == g.sc && overlapIn c b g

/-- The entries of a bank that the builder takes and those it skips (R317). -/
def State.schedule (s : State) (e bank : Nat) : List Grant × List Grant :=
  let c := 2 ^ (s.bankOf e bank).1
  (s.entriesOf e bank).foldl
    (fun acc g => if s.entryTaken e c acc.1 g then (acc.1 ++ [g], acc.2) else (acc.1, acc.2 ++ [g])) ([], [])

/-- The bank that grants the windows of tick `w` (R318). -/
def State.bankFor (s : State) (e : Nat) (w : Tick) : Nat :=
  match (s.hub e).bankAt with
  | some (b, first) => if ahead w first ≤ 2 ^ 47 then b else s.rd F.TD_GS_CTRL_ACTIVE e
  | none => s.rd F.TD_GS_CTRL_ACTIVE e

/-- Counters of a subcarrier or a leaf (TD_CSEL). -/
def State.countTide (s : State) (num unit n : Nat) : State := s.count ⟨.td, num, unit⟩ n

/-- The windows that first appear in the grant map of the present tick, seven ticks past LEAD (R317, R320); the builder counts the
entries it skips once per cycle. -/
def State.announce (s : State) (e : Nat) : State :=
  let w := s.tick + BitVec.ofNat 48 (s.rd F.TD_CFG_LEAD e + 7)
  let b := s.bankFor e w
  let c := 2 ^ (s.bankOf e b).1
  let (taken, skipped) := s.schedule e b
  let new := (taken.filter fun g => g.start == w.toNat % c).map fun g => (⟨g.sc, g.leaf, w, g.len, g.ranging, false⟩ : Window)
  let s := s.setHub e { s.hub e with windows := (s.hub e).windows ++ new }
  let s := s.each new fun s g => s.countTide 0 (16 * e + g.sc) 1
  if w.toNat % c == 0 then
    s.each skipped fun s g => (s.countTide 9 (16 * e + g.sc) 1).raise F.TD_SC_STICKY_GS_ERR (16 * e + g.sc)
  else s

/-- Entries of the grant map of the present frame, in ascending OFS, then SC (R319, R320). -/
def State.grantMap (s : State) (e : Nat) : List Nat :=
  let lead := s.rd F.TD_CFG_LEAD e
  (List.range 8).flatMap fun ofs => (List.range 16).flatMap fun sc =>
    ((s.hub e).windows.filter fun w => w.sc == sc && w.start == s.tick + BitVec.ofNat 48 (lead + ofs)).map fun w =>
      w.sc * 2 ^ 28 + w.leaf * 2 ^ 20 + ofs * 2 ^ 17 + (w.len - 1) * 2 ^ 11 + w.ranging.toNat * 2 ^ 10

/-- TGHDR of the present frame (R319). -/
def State.grantHeader (s : State) (e : Nat) : Nat := 2 ^ 12 + (s.grantMap e).length

/-- A write of TD_GS_CTRL.BANK: used for windows from the first cycle start at or after T + LEAD + 8 (R318). -/
def State.requestBank (s : State) (e bank : Nat) : State :=
  let s := s.wr F.TD_GS_CTRL_BANK e bank
  let c := 2 ^ (s.bankOf e bank).1
  let first := s.tick.toNat + s.rd F.TD_CFG_LEAD e + 8
  let first := (first + c - 1) / c * c
  s.setHub e { s.hub e with bankAt := some (bank, BitVec.ofNat 48 first) }

/-- GRANT_BANK_SWITCH: the first announcement from the requested bank (R318). -/
def State.switchBank (s : State) (e : Nat) : State :=
  match (s.hub e).bankAt with
  | some (b, first) =>
    if ahead (s.tick + BitVec.ofNat 48 (s.rd F.TD_CFG_LEAD e + 7)) first ≤ 2 ^ 47 then
      (s.setHub e { s.hub e with bankAt := none }).wr F.TD_GS_CTRL_ACTIVE e b
    else s
  | none => s

/-! ### Burst reception (R321 to R329) -/

/-- Symbols of a burst of `nc` codewords (R323). -/
def burstSymbols (nc k : Nat) : Nat :=
  let m := (32768 * nc + 2 * k - 1) / (2 * k)
  2752 + 32 * ((16 * m + 30) / 31)

/-- Signed distance in ticks from `b` to `a`. -/
def tickDiff (a b : Tick) : Int := (a - b).toInt

/-- Offset in symbols of a sync position from the expected one of a window (R314). -/
def State.syncOffset (s : State) (e : Nat) (w : Window) (tick : Tick) (sym : Nat) : Int :=
  tickDiff tick (w.start + BitVec.ofNat 48 (s.rd F.TD_CFG_EQD e)) * s.symbolsUp e + sym - 2304

/-- The ranging span of a window covers a tick (R334). -/
def State.inSpan (s : State) (e : Nat) (w : Window) (tick : Tick) : Bool :=
  w.ranging && decide ((tick - w.start).toNat < s.rd F.TD_CFG_EQD e + w.len)

/-- The window a sync position is judged against (R327): the nearest within the tolerance, else one whose ranging span covers it. -/
def State.judgedWindow (s : State) (e sc : Nat) (tick : Tick) (sym : Nat) : Option Window :=
  let ws := (s.hub e).windows.filter (·.sc == sc)
  let tol := s.cfg F.TD_THR_TOL e
  let near := (ws.filter fun w => decide ((s.syncOffset e w tick sym).natAbs ≤ tol)).foldl
    (fun best w => match best with
      | some b => if (s.syncOffset e w tick sym).natAbs < (s.syncOffset e b tick sym).natAbs then some w else some b
      | none => some w) none
  match near with
  | some w => some w
  | none => ws.find? fun w => s.inSpan e w tick

/-- A burst receiver after a change. -/
def State.modSc (s : State) (n : Nat) (f : TideSc → TideSc) : State := s.setTideSc n (f (s.tideSc n))

/-- A leaf's reassembly after a change. -/
def State.modLeaf (s : State) (n : Nat) (f : TideLeaf → TideLeaf) : State := s.setTideLeaf n (f (s.tideLeaf n))

/-- BURST_POWER_DETECT: power above P_T for 64 symbols (R325); powers in units of −0.25 dBFS. -/
def State.powerDetect (s : State) (e sc power symbols : Nat) : State :=
  let n := 16 * e + sc
  if s.inHub e && s.scType e sc == 2 && (s.tideSc n).rx == .idle && 64 ≤ symbols &&
      power + s.rd F.TD_THR_STAT_PTHR n < s.rd F.TD_THR_STAT_FLOOR n then
    s.modSc n fun x => { x with rx := .power }
  else s

/-- SYNC_ACCEPT: the first position with at most E bit errors (R326). -/
def State.syncAccept (s : State) (e sc sym errors : Nat) : State :=
  let n := 16 * e + sc
  if (s.tideSc n).rx == .power && errors ≤ s.rd F.TD_THR_STAT_E n then
    s.modSc n fun x => { x with rx := .header s.tick sym }
  else s

/-- Boundary count at which a burst whose sync word was accepted at a position ends (R327). -/
def State.burstEnd (s : State) (e : Nat) (tick : Tick) (sym nc : Nat) : Nat :=
  let symbols := sym + burstSymbols nc (s.rd F.TD_FMT_KUP e) - 2304
  s.now + symbols / max (s.symbolsUp e) 1 + 1 - min (s.tick - tick).toNat (symbols / max (s.symbolsUp e) 1)

/-- A burst is dropped: counted, and not searched again before its end (R327). -/
def State.dropBurst (s : State) (e sc num : Nat) (sticky : Field) (last : Nat) : State :=
  let n := 16 * e + sc
  ((s.modSc n fun x => { x with rx := .skip last }).countTide num n 1).raise sticky n

/-- BURST_HEADER: the burst is judged (R327, R333, R334); none for a header whose HCRC fails; power in units of −0.25 dBFS. -/
def State.burstHeader (s : State) (e sc : Nat) (header : Option BurstHeader) (power : Nat) : State :=
  let n := 16 * e + sc
  match (s.tideSc n).rx, header with
  | .header _ _, none =>
    ((s.modSc n fun x => { x with rx := .power, falseSync := x.falseSync + 1 }).countTide 2 n 1).raise F.TD_SC_STICKY_FALSE_SYNC n
  | .header tick sym, some h =>
    let last := s.burstEnd e tick sym h.nc
    match s.judgedWindow e sc tick sym with
    | none => s.dropBurst e sc 7 F.TD_SC_STICKY_MISPLACED last
    | some w =>
      let up := s.symbolsUp e
      if h.leaf != w.leaf then (s.dropBurst e sc 6 F.TD_SC_STICKY_MISDIR last).wr F.TD_SC_LAST_LEAF n h.leaf
      else if h.win != w.start.toNat % 65536 ||
          decide (w.len * up < burstSymbols h.nc (s.rd F.TD_FMT_KUP e) + (3 * up + 15) / 16) then
        s.dropBurst e sc 8 F.TD_SC_STICKY_HDR_MIS last
      else
        let l := 256 * e + h.leaf
        let s := s.modSc n fun x => { x with rx := .payload h.leaf last }
        let s := s.setHub e { s.hub e with windows := (s.hub e).windows.map fun x => if x == w then { x with got := true } else x }
        let s := ((s.countTide 1 n 1).countTide 16 l 1).addTally 24 (n / 16) 1
        let s := (s.wr F.TD_LEAF_STAT_TOFS l (unsigned 16 (s.syncOffset e w tick sym))).wr F.TD_LEAF_STAT_PWR l (min power 255)
        let s := (s.wr F.TD_LEAF_STAT_LOST l 0).wrBool F.TD_LEAF_STAT_LDI l h.ldi
        let s := s.modLeaf l fun x => { x with missRun := 0, learned := true }
        s.raiseIf h.ldi F.TD_LEAF_STICKY_LDI l
  | _, _ => s

/-- SYNC_MISS (R328). -/
def State.syncMiss (s : State) (e sc symbols : Nat) : State :=
  let n := 16 * e + sc
  if (s.tideSc n).rx == .power && 2368 + s.cfg F.TD_THR_TOL e ≤ symbols then
    ((s.modSc n fun x => { x with rx := .idle, syncMiss := x.syncMiss + 1 }).countTide 3 n 1).raise F.TD_SC_STICKY_SYNC_MISS n
  else s

/-- BURST_POWER_RISE: a rise of 3 dB over 64 symbols during a burst (R329); rise and margin in units of 0.25 dB. -/
def State.powerRise (s : State) (e sc rise span : Nat) (margin : Int) : State :=
  let n := 16 * e + sc
  let capture := decide (4 * (clampNat 3 12 (s.cfg F.TD_THR_CAP e) : Int) ≤ margin)
  let taken (s : State) : State :=
    ((s.modSc n fun x => { x with rx := .power }).countTide 5 n 1).raise F.TD_SC_STICKY_CAPTURE n
  let collided : State := (s.countTide 4 n 1).raise F.TD_SC_STICKY_COLLISION n
  if rise < 12 || span < 64 then s
  else
    match (s.tideSc n).rx with
    | .header _ _ => if capture then taken s else collided
    | .payload leaf _ =>
      if capture then taken ((s.countTide 21 (256 * e + leaf) 1).raise F.TD_LEAF_STICKY_TRUNC (256 * e + leaf)) else collided
    | _ => s

/-! ### Reassembly (R331 to R333) -/

/-- The 48-bit leaf tick with the given low 16 bits nearest to a tick (R331). -/
def nearestTick (low : BitVec 16) (ref : Tick) : Tick := ref + ((low - ref.setWidth 16).signExtend 48)

/-- CRATE_TICK_ARRIVAL: held until its playout, or discarded as late or double (R331). -/
def State.crateTick (s : State) (e leaf : Nat) (c : CrateTick) : State :=
  let l := 256 * e + leaf
  if !s.inHub e || !s.on F.TD_LEAF_CFG_VALID l then s
  else
    let t := nearestTick c.low (s.tick - BitVec.ofNat 48 (s.rd F.TD_CFG_EQD e))
    let play := t + BitVec.ofNat 48 (s.rd F.TD_CFG_DT e)
    if 0 < tickDiff s.tick play then (s.countTide 19 l 1).raise F.TD_LEAF_STICKY_LATE l
    else if (s.tideLeaf l).held.any (·.1 == t) then (s.countTide 20 l 1).raise F.TD_LEAF_STICKY_DUP l
    else (s.modLeaf l fun x => { x with held := x.held ++ [(t, c)] }).countTide 17 l 1

/-- The playout of a leaf's train in the present tick (R331, R332): its crates reach the stores as berths with pointer 0, and what the last
playout wrote is read out. -/
def State.playout (s : State) (e leaf : Nat) : State :=
  let l := 256 * e + leaf
  let t := s.tick - BitVec.ofNat 48 (s.rd F.TD_CFG_DT e)
  let x := s.tideLeaf l
  let k := s.rd F.TD_LEAF_CFG_K l
  let train := s.rd F.TD_LEAF_CFG_TRAIN l
  let base := 10240 + 1280 * e + 80 * s.rd F.TD_LEAF_CFG_SC l + s.rd F.TD_LEAF_CFG_SLOT l
  let got := x.held.find? (·.1 == t)
  let ndf := !x.played || (match got with | some (_, c) => c.jump | none => false)
  let crate (i : Nat) : Option (Berth × Bool) := match got with | some (_, c) => c.crates[i]? | none => none
  let shown (i : Nat) : Berth :=
    match crate i with
    | some (b, bad) => if bad && s.cfgOn F.LF_CA_UCW_AIS e then aisCrate s.tick 0 i (s.tidOf train) k else { b with ptr := 0, bsl := 1 }
    | none => aisCrate s.tick 0 i (s.tidOf train) k
  let errored := ((List.range k).filter fun i => match crate i with | some (_, bad) => bad | none => false).length
  let s := s.modLeaf l fun x =>
    { x with played := true, held := x.held.filter fun h => decide (0 < tickDiff h.1 t), out := (List.range k).map shown }
  let s := s.each (List.range k) fun s i =>
    (s.setIngressBerth (base + i) (x.out.getD i idleBerth)).berthPointerWord (base + i) (if ndf then 0x9800 else 0x6800) 1 0 0 0
  let s := if 0 < errored then (s.countTide 22 l errored).raise F.TD_LEAF_STICKY_UCW l else s
  if got.isNone then (s.countTide 18 l k).raise F.TD_LEAF_STICKY_MISSING l else s

/-- LEAF_LOST: 8 consecutive granted windows with no accepted burst (R333). -/
def State.leafLost (s : State) (e leaf : Nat) : State :=
  let l := 256 * e + leaf
  if s.inHub e && s.on F.TD_LEAF_CFG_VALID l && !s.on F.TD_LEAF_STAT_LOST l && 8 ≤ (s.tideLeaf l).missRun then
    (s.wr F.TD_LEAF_STAT_LOST l 1).raise F.TD_LEAF_STICKY_LOST l
  else s

/-! ### Thresholds (R325, R330) -/

/-- The thresholds loop of an engine is frozen (R39, R330). -/
def State.thrFrozen (s : State) (e : Nat) : Bool := s.cfgOn F.TD_THR_FRZ e || (s.rd F.SY_LOOP_STAT_FROZEN 0).testBit 6

/-- AT_LIMIT of a subcarrier. -/
def State.showLimit (s : State) (n : Nat) : State :=
  s.wrBool F.TD_THR_STAT_AT_LIMIT n ((s.tideSc n).eLimit || decide (16 ≤ (s.tideSc n).clampRun))

/-- E starts at SYNC_TOL (R330). -/
def State.startTol (s : State) (e : Nat) : State :=
  s.each (s.tideScsOf e) fun s i =>
    let n := 16 * e + i
    ((s.wr F.TD_THR_STAT_E n (min (s.rd F.TD_THR_SYNC_TOL e) 48)).modSc n fun x => { x with eLimit := false }).showLimit n

/-- TIDE_THR_UPDATE: E of each TIDE subcarrier, every 256 ticks (R330). -/
def State.thrUpdate (s : State) (e : Nat) : State :=
  if s.tick.toNat % 256 != 0 then s
  else
    s.each (s.tideScsOf e) fun s i =>
      let n := 16 * e + i
      let x := s.tideSc n
      let cur := s.rd F.TD_THR_STAT_E n
      let s := s.modSc n fun x => { x with falseSync := 0, syncMiss := 0 }
      if s.thrFrozen e then s
      else
        let hold (s : State) : State :=
          ((s.modSc n fun x => { x with eLimit := true }).showLimit n).raise F.TD_SC_STICKY_THR_LIMIT n
        let move (s : State) (v : Nat) : State :=
          ((s.wr F.TD_THR_STAT_E n v).modSc n fun x => { x with eLimit := false }).showLimit n
        if 2 ≤ x.falseSync then if cur == 0 then hold s else move s (cur - 1)
        else if 2 ≤ x.syncMiss then if 48 ≤ cur then hold s else move s (cur + 1)
        else s

/-- The noise floor estimate; a frozen loop keeps its last (R325, R330). -/
def State.tideFloor (s : State) (e sc floor : Nat) : State :=
  if s.thrFrozen e || !(s.tideScsOf e).contains sc then s else s.wr F.TD_THR_STAT_FLOOR (16 * e + sc) floor

/-- P_T of a subcarrier in the present tick (R325, R330). -/
def State.setThreshold (s : State) (e sc : Nat) : State :=
  let n := 16 * e + sc
  let eqd := BitVec.ofNat 48 (s.rd F.TD_CFG_EQD e)
  let expected := (s.hub e).windows.find? fun w =>
    w.sc == sc && !w.ranging && decide ((s.tick - (w.start + eqd)).toNat < w.len) && (s.tideLeaf (256 * e + w.leaf)).learned
  match expected with
  | none => s.wr F.TD_THR_STAT_PTHR n 24
  | some w =>
    let want : Int := (s.rd F.TD_THR_STAT_FLOOR n : Int) - s.rd F.TD_LEAF_STAT_PWR (256 * e + w.leaf) - 4 * s.cfg F.TD_THR_PMARGIN e
    let got := (clampInt 24 96 want).toNat
    let s := s.wr F.TD_THR_STAT_PTHR n got
    if s.tick != w.start + eqd then s
    else
      let run := if (got : Int) == want then 0 else (s.tideSc n).clampRun + 1
      let s := (s.modSc n fun x => { x with clampRun := run }).showLimit n
      s.raiseIf (run == 16) F.TD_SC_STICKY_THR_LIMIT n

/-! ### Per tick -/

/-- Windows that end at this boundary; one without an accepted burst extends the leaf's run (R328, R333). -/
def State.endWindows (s : State) (e : Nat) : State :=
  let eqd := s.rd F.TD_CFG_EQD e
  let ended (w : Window) : Bool := decide (eqd + w.len ≤ (s.tick - w.start).toNat) && decide ((s.tick - w.start).toNat < 2 ^ 47)
  let ws := (s.hub e).windows
  let s := s.setHub e { s.hub e with windows := ws.filter fun w => !ended w }
  s.each (ws.filter fun w => ended w && !w.got) fun s w =>
    s.modLeaf (256 * e + w.leaf) fun x => { x with missRun := x.missRun + 1 }

/-- The playouts of the ending tick (R331). -/
def State.playouts (s : State) (e : Nat) : State := if s.inHub e then s.each (s.leavesOf e) fun s l => s.playout e l else s

/-- An engine in HUB mode at a boundary. -/
def State.tickTide (s : State) (e : Nat) : State :=
  if !s.inHub e then s
  else
    let s := s.each (List.range 16) fun s i => s.followLit e i
    let s := (s.announce e).endWindows e
    s.each (s.tideScsOf e) fun s i =>
      let s := s.modSc (16 * e + i) fun x =>
        match x.rx with
        | .payload _ last => if last ≤ s.now then { x with rx := .idle } else x
        | .skip last => if last ≤ s.now then { x with rx := .idle } else x
        | _ => x
      s.setThreshold e i

/-! ### The commands -/

/-- Meaning of TD_DS_WRITE. -/
def execTdDsWrite (m : Initiator) (lit : Fin 65536) (s : State) : Host.Outcome State Fault Refusal :=
  .next (s.atEngine m true 0x24000910 fun e => s.write m 0x24000910 (.tdDs e lit.val) fun t => t.wr F.TD_DS_LIT e lit.val)

/-- Meaning of TD_GS_BANK_WRITE. -/
def execTdGsBankWrite (m : Initiator) (bank : Fin 2) (s : State) : Host.Outcome State Fault Refusal :=
  .next (s.atEngine m true 0x24000920 fun e => s.write m 0x24000920 (.gsBank e bank.val) fun t => t.requestBank e bank.val)

/-- Meaning of GRANT_BANK_SWITCH. -/
def execGrantBankSwitch (e : Fin 8) (s : State) : Host.Outcome State Fault Refusal := .next (s.switchBank e.val)

/-- Meaning of BURST_POWER_DETECT. -/
def execBurstPowerDetect (e : Fin 8) (sc : Fin 16) (power symbols : Nat) (s : State) : Host.Outcome State Fault Refusal :=
  .next (s.powerDetect e.val sc.val power symbols)

/-- Meaning of SYNC_ACCEPT. -/
def execSyncAccept (e : Fin 8) (sc : Fin 16) (sym errors : Nat) (s : State) : Host.Outcome State Fault Refusal :=
  .next (s.syncAccept e.val sc.val sym errors)

/-- Meaning of BURST_HEADER. -/
def execBurstHeader (e : Fin 8) (sc : Fin 16) (header : Option BurstHeader) (power : Nat) (s : State) :
    Host.Outcome State Fault Refusal :=
  .next (s.burstHeader e.val sc.val header power)

/-- Meaning of SYNC_MISS. -/
def execSyncMiss (e : Fin 8) (sc : Fin 16) (symbols : Nat) (s : State) : Host.Outcome State Fault Refusal :=
  .next (s.syncMiss e.val sc.val symbols)

/-- Meaning of BURST_POWER_RISE. -/
def execBurstPowerRise (e : Fin 8) (sc : Fin 16) (rise span : Nat) (margin : Int) (s : State) :
    Host.Outcome State Fault Refusal :=
  .next (s.powerRise e.val sc.val rise span margin)

/-- Meaning of CRATE_TICK_ARRIVAL. -/
def execCrateTickArrival (e : Fin 8) (leaf : Fin 256) (ct : CrateTick) (s : State) : Host.Outcome State Fault Refusal :=
  .next (s.crateTick e.val leaf.val ct)

/-- Meaning of LEAF_LOST. -/
def execLeafLost (e : Fin 8) (leaf : Fin 256) (s : State) : Host.Outcome State Fault Refusal := .next (s.leafLost e.val leaf.val)

/-- Meaning of TIDE_THR_UPDATE. -/
def execTideThrUpdate (e : Fin 8) (s : State) : Host.Outcome State Fault Refusal := .next (s.thrUpdate e.val)

/-- Meaning of TD_CNT_LO_READ: counters 0 to 9 of the selected subcarrier, 16 to 22 of the selected leaf. -/
def execTdCntLoRead (m : Initiator) (s : State) : Host.Outcome State Fault Refusal :=
  .next (s.atEngine m false 0x24000954 fun _ =>
    let n := s.rd F.TD_CSEL_CNT m.copy
    let v := if n ≤ 9 then s.ctr ⟨.td, n, s.subcarrierSel m⟩
      else if 16 ≤ n && n ≤ 22 then s.ctr ⟨.td, n, s.leafSel m⟩
      else 0
    s.readLatched m F.TD_CNT_HI_CNT_HI v)

end Sys2Proof.Machine
end

