-- ==== Sys2Proof/Machine/Merge.lean ====
section
/-! DEFINITION. Breakwater merge and protection (10_breakwater_merge.md): alignment of two deliveries of one signal, merged frames and
trains, selection, APS. -/

namespace Sys2Proof.Machine

/-! ### Groups (R339 to R341) -/

/-- A group after a change. -/
def State.modMerge (s : State) (g : Nat) (f : MergeGroup → MergeGroup) : State := s.setMerge g (f (s.merge g))

/-- An instance of a group. -/
def MergeGroup.inst (x : MergeGroup) (b : Bool) : MergeInst := if b then x.b else x.a

/-- An instance of a group after a change. -/
def MergeGroup.modInst (x : MergeGroup) (b : Bool) (f : MergeInst → MergeInst) : MergeGroup :=
  if b then { x with b := f x.b } else { x with a := f x.a }

/-- The group is defined, joins two engines, or works in MERGE mode (MG_CFG). -/
def State.groupDefined (s : State) (g : Nat) : Bool := s.on F.MG_CFG_VALID g
/-- The group is a line pair. -/
def State.groupLine (s : State) (g : Nat) : Bool := s.rd F.MG_CFG_KIND g == 1
/-- The group works in MERGE mode. -/
def State.groupMerges (s : State) (g : Nat) : Bool := s.on F.MG_CFG_VALID g && !s.on F.MG_CFG_MODE g
/-- R of the group. -/
def State.groupRange (s : State) (g : Nat) : Nat := s.rd F.MG_RANGE_R g

/-- CMD as the selector takes it: other values are 0 (MG_CTRL). -/
def State.groupCmd (s : State) (g : Nat) : Nat := let c := s.cfg F.MG_CTRL_CMD g; if c ≤ 4 then c else 0

/-- The difference of two keys: modulo 2^48 for FNO, 2^20 for SEQ, as its smallest representative (R341). -/
def keyDiff (line : Bool) (a b : Nat) : Int :=
  if line then (BitVec.ofNat 48 a - BitVec.ofNat 48 b).toInt else (BitVec.ofNat 20 a - BitVec.ofNat 20 b).toInt

/-- The key after another (R341). -/
def keyNext (line : Bool) (k : Nat) : Nat := if line then (k + 1) % 2 ^ 48 else (k + 1) % 2 ^ 20

/-- The delivery of a key by an instance, if it was valid and made before boundary `n`. -/
def MergeInst.has (z : MergeInst) (k n : Nat) : Option Delivery := z.keys.find? fun d => d.key == k && decide (d.del < n)

/-- An instance is valid now: its last delivery, in this tick or one of the two before, was valid. -/
def MergeInst.validNow (z : MergeInst) (now : Nat) : Bool :=
  match z.validAt with | some t => decide (now ≤ t + 2) && !z.broken | none => false

/-- MG_STAT, MG_DHELD and MG_APS_TX show the group. -/
def State.showGroup (s : State) (g : Nat) : State :=
  let x := s.merge g
  let select := !s.groupMerges g
  let ok (z : MergeInst) : Bool := if select then z.sfSince.isNone else z.usable
  let s := (s.wr F.MG_STAT_STATE g (if select then 4 else x.st.code)).wrBool F.MG_STAT_SEL g (if select then x.selB else x.useB)
  let s := (s.wrBool F.MG_STAT_A_OK g (ok x.a)).wrBool F.MG_STAT_B_OK g (ok x.b)
  let s := (s.wrBool F.MG_STAT_A_LATE g x.a.late).wrBool F.MG_STAT_B_LATE g x.b.late
  let s := (s.wrBool F.MG_STAT_A_EARLY g x.a.early).wrBool F.MG_STAT_B_EARLY g x.b.early
  let s := s.wrBool F.MG_STAT_WTR_RUN g (match x.after with | .wtr _ => true | _ => false)
  let waits (since : Option Nat) (held : Bool) : Bool := since.isSome && !held
  let s := s.wrBool F.MG_STAT_HOLD_RUN g
    (waits x.a.sfSince x.a.sf || waits x.b.sfSince x.b.sf || waits x.a.sdSince x.a.sd || waits x.b.sdSince x.b.sd)
  let s := (s.wrBool F.MG_DHELD_VALID g (x.st == .aligned)).wrBool F.MG_DHELD_TIMING g x.timingB
  s.wr F.MG_DHELD_DH g (unsigned 21 x.dHeld)

/-! ### Group states (R345, R346, R634) -/

/-- The group takes a state. -/
def State.enterMerge (s : State) (g : Nat) (st : MergeState) : State :=
  let s := s.modMerge g fun x => { x with st := st, waitAt := if st == .wait then s.now else x.waitAt }
  let s := s.raiseIf (st == .aligned) F.MG_STICKY_ALIGNED g
  (s.raiseIf (st == .down) F.MG_STICKY_DOWN g).showGroup g

/-- An instance before its first key under new offsets (R346). -/
def MergeInst.fresh (z : MergeInst) : MergeInst :=
  { z with lateRun := 0, earlyRun := 0, usableRun := 0, late := false, early := false, usable := false, jumped := false }

/-- A key comes after the last one output (R346, R634). -/
def MergeGroup.notYet (x : MergeGroup) (line : Bool) (k : Nat) : Bool :=
  match x.last with | some (k0, _) => decide (0 < keyDiff line k k0) | none => true

/-- The group goes DOWN (R345): what it has output counts no longer, and none of those keys is output again (R342, R634). -/
def State.groupDown (s : State) (g : Nat) : State :=
  let line := s.groupLine g
  let s := s.modMerge g fun x =>
    let keep (z : MergeInst) : MergeInst := { z.fresh with keys := z.keys.filter fun d => x.notYet line d.key }
    { x with a := keep x.a, b := keep x.b, first := none, last := none, ssf := true, jumpStart := false, restart := true }
  s.enterMerge g .down

/-- Realignment (R346, R347): offsets anew, through WAIT; a group in DOWN does not realign. -/
def State.realign (s : State) (g : Nat) : State :=
  let x := s.merge g
  if !s.groupMerges g || x.st == .down then s
  else
    let both := x.a.jumped && x.b.jumped
    let s := s.modMerge g fun x =>
      { x with first := none, last := if both then none else x.last, a := x.a.fresh, b := x.b.fresh, dRun := 0, noUsable := 0,
               autoRun := 0, ssf := true, jumpStart := both, restart := true }
    ((s.enterMerge g .wait).count ⟨.mg, 4, g⟩ 1).raise F.MG_STICKY_REALIGN g

/-- A key reaches the merge unit (R341, R345): kept for as long as the range lasts; D of a key that both delivered is published; a group in DOWN with a
valid instance goes to WAIT. -/
def State.deliverKey (s : State) (g : Nat) (b : Bool) (d : Delivery) : State :=
  if !s.groupMerges g then s
  else
    let r := s.groupRange g
    let s := s.modMerge g fun x => x.modInst b fun z =>
      { z with keys := (z.keys.filter fun k => decide (s.now ≤ k.del + r + 4)) ++ (if d.valid then [d] else []),
               validAt := if d.valid then some s.now else z.validAt, broken := !d.valid }
    let x := s.merge g
    let s := match d.valid, (x.inst !b).keys.find? (·.key == d.key) with
      | true, some o => s.wr F.MG_DELAY_D g (unsigned 21 (if b then (d.del : Int) - o.del else (o.del : Int) - d.del))
      | _, _ => s
    if d.valid && x.st == .down then s.enterMerge g .wait else s

/-- The keys of an instance jump: it is out of use until it is usable again (R347). -/
def State.jumpInst (s : State) (g : Nat) (b : Bool) : State :=
  if !s.groupMerges g then s
  else s.modMerge g fun x => x.modInst b fun z => { z with keys := [], broken := true, jumped := true, usable := false, usableRun := 0 }

/-- The lowest of some deliveries. -/
def lowestKey (line : Bool) (ds : List Delivery) : Option Delivery :=
  ds.foldl (fun best d => match best with
    | some e => if keyDiff line d.key e.key < 0 then some d else some e
    | none => some d) none

/-- MERGE_ALIGNED: both instances have delivered one key within R ticks of each other, or the other instance of a group in SINGLE has
been usable for 3 keys; the later instance times (R342, R345). -/
def State.mergeAligned (s : State) (g : Nat) : State :=
  let x := s.merge g
  let line := s.groupLine g
  if !s.groupMerges g then s
  else
    match x.st with
    | .wait =>
      let pairs := x.a.keys.filter fun d =>
        x.notYet line d.key && x.b.keys.any fun e =>
          e.key == d.key && decide (((e.del : Int) - d.del).natAbs ≤ s.groupRange g)
      match lowestKey line pairs with
      | some d =>
        let e := (x.b.keys.find? (·.key == d.key)).getD d
        let diff : Int := (e.del : Int) - d.del
        let s := s.modMerge g fun x =>
          { x with timingB := decide (0 < diff), dHeld := diff, first := some (d.key, max (max d.del e.del + 1) s.now),
                   a := { x.a with jumped := false }, b := { x.b with jumped := false } }
        s.enterMerge g .aligned
      | none => s
    | .single =>
      let other := x.inst !x.timingB
      if other.usableRun < 3 then s
      else
        match x.last.bind fun l => x.a.keys.find? (·.key == l.1), x.last.bind fun l => x.b.keys.find? (·.key == l.1) with
        | some d, some e =>
          let diff : Int := (e.del : Int) - d.del
          (s.modMerge g fun x => { x with dHeld := diff, timingB := decide (0 < diff) }).enterMerge g .aligned
        | _, _ => s
    | _ => s

/-- MERGE_WAIT_EXPIRY: R ticks in WAIT with one valid instance: SINGLE (R345, R634); with none: DOWN. -/
def State.waitExpiry (s : State) (g : Nat) : State :=
  let x := s.merge g
  let line := s.groupLine g
  if !s.groupMerges g || x.st != .wait || !s.elapsed x.waitAt (s.groupRange g) then s
  else
    let va := x.a.validNow s.now
    let vb := x.b.validNow s.now
    if va && vb then s
    else if !va && !vb then s.groupDown g
    else
      let z := x.inst vb
      let held := if x.last.isSome || x.jumpStart then lowestKey line (z.keys.filter fun d => x.notYet line d.key) else none
      let first := match held with
        | some d => some (d.key, s.now)
        | none => z.keys.getLast?.map fun d => (d.key, max (d.del + 1) s.now)
      (s.modMerge g fun x => { x with timingB := vb, first := first }).enterMerge g .single

/-- MERGE_DOWN: no instance valid for 64 consecutive ticks (R345). -/
def State.mergeDown (s : State) (g : Nat) : State :=
  let x := s.merge g
  if s.groupMerges g && x.st != .down && 64 ≤ x.noValid then
    s.groupDown g
  else s

/-- REALIGN_NO_USABLE: 16 ticks without a usable instance while a valid one is LATE or EARLY (R346). -/
def State.realignNoUsable (s : State) (g : Nat) : State :=
  let x := s.merge g
  let bad (z : MergeInst) : Bool := z.validNow s.now && (z.late || z.early)
  if 16 ≤ x.noUsable && (bad x.a || bad x.b) then s.realign g else s

/-- REALIGN_AUTO: AUTO, and one instance LATE or EARLY for 1 s while the other is usable (R346). -/
def State.realignAuto (s : State) (g : Nat) : State :=
  if s.cfgOn F.MG_CTRL_AUTO g && 312500 ≤ (s.merge g).autoRun then s.realign g else s

/-! ### Output (R342 to R344, R349 to R353) -/

/-- An instance's runs after key `k` is output at `t` (R344), and whether it is usable for the key; a key no longer held was delivered too
early, a key not yet delivered is late; three usable keys end a jump (R347). -/
def MergeInst.judge (z : MergeInst) (line : Bool) (k t r now : Nat) : MergeInst :=
  let isLate : MergeInst := { z with usable := false, usableRun := 0, lateRun := z.lateRun + 1, earlyRun := 0 }
  let isEarly : MergeInst := { z with usable := false, usableRun := 0, earlyRun := z.earlyRun + 1, lateRun := 0 }
  match z.keys.find? (·.key == k) with
  | some d =>
    if t ≤ d.del then isLate
    else if t - d.del ≤ r then
      { z with usable := true, usableRun := z.usableRun + 1, lateRun := 0, earlyRun := 0, jumped := z.jumped && decide (z.usableRun < 2) }
    else isEarly
  | none =>
    if !z.validNow now then { z with usable := false, usableRun := 0, lateRun := 0, earlyRun := 0 }
    else if !z.jumped && (match z.keys.getLast? with | some d => decide (0 ≤ keyDiff line d.key k) | none => false) then isEarly
    else isLate

/-- An instance contributes to the output: usable, and neither LATE nor EARLY (R344). -/
def MergeInst.contributes (z : MergeInst) : Bool := z.usable && !z.late && !z.early

/-- Crate `i` of a delivery meets the first condition of R353. -/
def Delivery.clean (d : Delivery) (i : Nat) : Bool := !d.defect && d.bad.getD i (0, false) == (0, false)

/-- The choice for one crate (R353), with the instance in use: whether it is B's, and whether neither met the first condition. -/
def chooseCrate (a b : Option Delivery) (useB : Bool) (i : Nat) : Bool × Bool :=
  match a, b with
  | some x, some y =>
    if x.clean i && (!useB || !y.clean i) then (false, false)
    else if y.clean i then (true, false)
    else if x.defect != y.defect then (x.defect, true)
    else if (x.bad.getD i (0, false)).1 != (y.bad.getD i (0, false)).1 then
      (decide ((y.bad.getD i (0, false)).1 < (x.bad.getD i (0, false)).1), true)
    else (useB, true)
  | some x, none => (false, !x.clean i)
  | none, some y => (true, !y.clean i)
  | none, none => (useB, true)

/-- The choice for codeword `c` of a frame (R349): whether it is B's, and whether both copies are uncorrectable. -/
def chooseCodeword (a b : Option Delivery) (useB : Bool) (c : Nat) : Bool × Bool :=
  match a, b with
  | some x, some y =>
    if x.ucw.contains c && y.ucw.contains c then (useB, true)
    else if x.ucw.contains c then (true, false)
    else if y.ucw.contains c then (false, false)
    else (useB, false)
  | none, some _ => (true, false)
  | _, _ => (false, false)

/-- Choices made one after another, each with the instance the one before left in use, and the instance then in use: a copy that meets the
condition puts its instance in use, and a choice between copies that do not leaves it (R353). -/
def chooseAll (choose : Bool → Nat → Bool × Bool) : List Nat → Bool → List (Bool × Bool) × Bool
  | [], useB => ([], useB)
  | i :: t, useB =>
    let r := choose useB i
    let rest := chooseAll choose t (if r.2 then useB else r.1)
    (r :: rest.1, rest.2)

/-- The copies that may be taken for a key: those of contributing instances, in SINGLE the timing instance's, limited by LO and FS (R345,
R349, R353). -/
def State.copiesOf (s : State) (g k t : Nat) : Option Delivery × Option Delivery :=
  let x := s.merge g
  let cmd := s.groupCmd g
  let take (b allowed : Bool) : Option Delivery :=
    if allowed && (x.inst b).contributes && (x.st != .single || x.timingB == b) then (x.inst b).has k t else none
  (take false (cmd != 2), take true (cmd != 1))

/-- A tick of a line pair without a merged frame: merged SSF (R342, R345, R349, R351). -/
def State.mergedSsf (s : State) (g : Nat) : State :=
  let primary := s.rd F.MG_CFG_ENG_A g
  let n := codewords (s.rd F.LF_CFG_RSTEP primary + 1)
  (s.modMerge g fun x =>
    { x with ssf := true, pm := { x.pm with now := { x.pm.now with blocks := x.pm.now.blocks + n, d := x.pm.now.d + 1 } } }).missContexts
    primary

/-- The tick that ends carried no key of a line pair. -/
def State.missedFrame (s : State) (g : Nat) : State :=
  let done := match (s.merge g).last with | some (_, t) => t == s.now | none => false
  if s.groupMerges g && s.groupLine g && !done then s.mergedSsf g else s

/-- The frame of a line pair that is output reaches what shares the primary engine's receive side: overhead, encryption. -/
def State.outputFrame (s : State) (primary : Nat) (ucw : List Nat) (head : Option Delivery) : State :=
  match head with
  | some d =>
    let s := if ucw.contains 0 then s else s.readShared primary d.oh (d.fno.toNat % 256)
    let s := if s.cfgOn F.LF_CA_UCW_AIS primary && !ucw.isEmpty then s.aisSlots primary ucw else s
    s.readEnc primary d.fno ucw d.area
  | none => s

/-- What an output took, of a line group (kind 0) or a train group (1): units from A, units from B, units that neither carried well
(MG_CSEL counters 0 to 2, MG_STICKY.BOTH_FAIL; R350, R353). -/
def State.countTaken (s : State) (g kind fromA fromB both : Nat) : State :=
  let s := ((s.count ⟨.mg, 0, g⟩ fromA).count ⟨.mg, 1, g⟩ fromB).count ⟨.mg, 2, g⟩ both
  let s := ((s.addTally 25 kind fromA).addTally 26 kind fromB).addTally 27 kind both
  s.raiseIf (decide (0 < both)) F.MG_STICKY_BOTH_FAIL g

/-- A frame of a line pair is output (R349 to R351). -/
def State.outputLine (s : State) (g k t : Nat) : State :=
  let (a, b) := s.copiesOf g k t
  let primary := s.rd F.MG_CFG_ENG_A g
  let n := codewords (s.rd F.LF_CFG_RSTEP primary + 1)
  if a.isNone && b.isNone then s.mergedSsf g
  else
    let (choices, useB) := chooseAll (chooseCodeword a b) (List.range n) (s.merge g).useB
    let indexed := (List.range n).zip choices
    let marked (c : Nat × Bool × Bool) : Bool :=
      ((if c.2.1 then b else a).map fun d => d.ucw.contains c.1).getD false
    let ucw := (indexed.filter marked).map (·.1)
    let both := (indexed.filter fun c => c.2.2).length
    let fromB := (choices.filter (·.1)).length
    let s := s.modMerge g fun x =>
      { x with ssf := false, useB := useB
               pm := { x.pm with now := { x.pm.now with blocks := x.pm.now.blocks + n, eb := x.pm.now.eb + ucw.length } } }
    (s.countTaken g 0 (n - fromB) fromB both).outputFrame primary ucw (if (choices.head?.map (·.1)).getD false then b else a)

/-- The crates of a train group are output: each taken from the instance that qualifies (R353). -/
def State.outputTrain (s : State) (g k t : Nat) : State :=
  let (a, b) := s.copiesOf g k t
  let n := s.rd F.MG_RANGE_KSZ g
  let (choices, useB) := chooseAll (chooseCrate a b) (List.range n) (s.merge g).useB
  let badOf (c : Bool × Bool) : Bool := match if c.1 then b else a with | some d => d.defect | none => true
  let fromB := (choices.filter (·.1)).length
  let neither := (choices.filter (·.2)).length
  let s := s.modMerge g fun x =>
    { x with shown := some k, takesB := choices.map (·.1), takenBad := choices.map badOf, useB := useB }
  s.countTaken g 1 (n - fromB) fromB neither

/-- Key `k` is output at boundary count `t` (R342, R343). -/
def State.outputKey (s : State) (g k t : Nat) : State :=
  let r := s.groupRange g
  let line := s.groupLine g
  let known := ((s.merge g).a.has k t).isSome && ((s.merge g).b.has k t).isSome
  let s := (s.wrBool F.MG_DELAY_VALID g known).modMerge g fun x =>
    let a := x.a.judge line k t r s.now
    let b := x.b.judge line k t r s.now
    let diff : Option Int := match a.has k t, b.has k t with | some d, some e => some ((e.del : Int) - d.del) | _, _ => none
    let other := match diff with | some d => a.usable && b.usable && d != x.dHeld | none => false
    let d := diff.getD 0
    { x with a := { a with broken := false }, b := { b with broken := false }, last := some (k, t), first := none, jumpStart := false
             dOther := if other then d else x.dOther
             dRun := if !other then 0 else if d == x.dOther then x.dRun + 1 else 1 }
  (if s.groupLine g then s.outputLine g k t else s.outputTrain g k t).showGroup g

/-- MERGE_KEY_DECISION: the boundary of the next key, by the steps of R342; the first key after WAIT has its own (R345, R634). -/
def State.keyDecision (s : State) (g : Nat) : State :=
  let x := s.merge g
  let n := s.now
  if !s.groupMerges g || (x.st != .single && x.st != .aligned) then s
  else
    match x.first, x.last with
    | some (k, t), _ => if n < t then s else s.outputKey g k n
    | none, some (k0, t0) =>
      if n ≤ t0 then s
      else
        let k := keyNext (s.groupLine g) k0
        let z := x.inst x.timingB
        let y := x.inst !x.timingB
        let can (z : MergeInst) : Bool := match z.has k n with | some d => decide (d.del ≤ t0 + 1) | none => false
        if can z then s.outputKey g k n
        else if n == t0 + 1 && !z.broken then s
        else if can y then (s.modMerge g fun x => { x with timingB := !x.timingB }).outputKey g k n
        else s.outputKey g k n
    | none, none => s

/-- MERGE_DHELD_LOAD: D has held one other value for 16 keys, and the timing instance is the later one (R343). -/
def State.dHeldLoad (s : State) (g : Nat) : State :=
  let x := s.merge g
  if 16 ≤ x.dRun && x.st == .aligned && (if x.timingB then decide (0 ≤ x.dOther) else decide (x.dOther ≤ 0)) then
    (s.modMerge g fun x => { x with dHeld := x.dOther, dRun := 0 }).showGroup g
  else s

/-- MERGE_LATE_EARLY: 3 keys raise LATE or EARLY of an instance, 3 usable keys clear them (R344). -/
def State.lateEarly (s : State) (g : Nat) : State :=
  let x := s.merge g
  let step (z : MergeInst) : MergeInst :=
    if 3 ≤ z.usableRun then { z with late := false, early := false }
    else { z with late := z.late || decide (3 ≤ z.lateRun), early := z.early || decide (3 ≤ z.earlyRun) }
  let a := step x.a
  let b := step x.b
  let s := (s.modMerge g fun x => { x with a := a, b := b }).showGroup g
  let s := s.raiseIf ((a.late && !x.a.late) || (b.late && !x.b.late)) F.MG_STICKY_LATE g
  s.raiseIf ((a.early && !x.a.early) || (b.early && !x.b.early)) F.MG_STICKY_EARLY g

/-! ### Selection and APS (R356 to R361) -/

/-- The instance a request code selects: B or A; MS as named (R357). -/
def codeSelects (code : Nat) (ms : Bool) : Bool := if code == 7 then ms else [13, 11, 9, 5, 1].contains code

/-- The highest explicit request of a group, 0 for none (R357). -/
def State.explicitRequest (s : State) (g : Nat) : Nat :=
  let x := s.merge g
  let cmd := s.groupCmd g
  if cmd == 1 then 15
  else if x.b.sf then 14
  else if cmd == 2 then 13
  else if x.a.sf then 11
  else if x.a.sd then 9
  else if x.b.sd then 8
  else if cmd == 3 || cmd == 4 then 7
  else 0

/-- What follows when the request present is `hi` (R358). -/
def State.nextAfter (s : State) (g hi : Nat) : MergeAfter × Nat :=
  let x := s.merge g
  let selects := codeSelects hi (s.groupCmd g == 4)
  if s.groupMerges g then (.none, 0)
  else if hi != 0 then (.none, if selects then hi else 0)
  else if x.cause == 0 then (x.after, 0)
  else if !s.cfgOn F.MG_CTRL_REVERT g then (.dnr, 0)
  else if x.cause == 11 || x.cause == 9 then (.wtr s.now, 0)
  else (.none, 0)

/-- The APS word a group sends (R359). -/
def State.apsWord (s : State) (g req : Nat) : Nat :=
  let x := s.merge g
  let merge := s.groupMerges g
  let sel := if req == 7 then s.groupCmd g == 4 else if merge then x.useB else x.selB
  let body := req * 2 ^ 20 + s.rd F.MG_CFG_APS g * 2 ^ 19 + s.cfg F.MG_CTRL_REVERT g * 2 ^ 18 + merge.toNat * 2 ^ 17 + g * 2 ^ 5 +
    sel.toNat * 2 ^ 4 + x.a.sfSince.isSome.toNat * 8 + x.b.sfSince.isSome.toNat * 4
  body * 256 + crc 8 7 (bitsOf 24 body)

/-- The selector decides (R357, R358, R361): the local and far requests, the instance, and the APS word; a change waits for the next
boundary. -/
def State.selectorDecides (s : State) (g : Nat) : State :=
  if !s.groupDefined g then s
  else
    let hi := s.explicitRequest g
    let (after, cause) := s.nextAfter g hi
    let code := if hi != 0 then hi else match after with | .wtr _ => 5 | .dnr => 1 | .none => 0
    let s := s.modMerge g fun x => { x with after := after, cause := cause }
    let far := s.rd F.MG_STAT_FREQ g
    let farWins := s.on F.MG_CFG_APS g && decide (code < far)
    let selB := if farWins then codeSelects far (((s.reg .MG_APS_RX g).toNat).testBit 12)
      else codeSelects code (s.groupCmd g == 4)
    let s := s.wr F.MG_STAT_REQ g code
    let s := (s.setReg .MG_APS_TX g (BitVec.ofNat 32 (s.apsWord g code))).showGroup g
    let x := s.merge g
    let s := s.modMerge g fun x => { x with wantB := selB }
    if !s.groupMerges g && selB != x.selB && !x.switching then
      (s.modMerge g fun x => { x with switching := true }).later (.mgSelect g)
    else s

/-- The selected instance changes to the one decided for (R354, R358). -/
def State.mgSelect (s : State) (g : Nat) : State :=
  let x := s.merge g
  let s := s.modMerge g fun x => { x with switching := false, selB := x.wantB }
  if x.wantB == x.selB then s
  else ((s.count ⟨.mg, 3, g⟩ 1).raise F.MG_STICKY_SWITCH g).showGroup g

/-- A condition held for the hold-off time: HOLDOFF in steps of 100 ms, at most 100 of them (R356). -/
def State.heldOff (s : State) (g : Nat) (since : Option Nat) : Bool :=
  match since with | some t => s.elapsed t (31250 * min (s.cfg F.MG_CTRL_HOLDOFF g) 100) | none => false

/-- Conditions that have held for the hold-off time become requests, ended ones no longer are (R356). -/
def State.applyHoldOff (s : State) (g : Nat) : State :=
  let step (z : MergeInst) : MergeInst := { z with sf := s.heldOff g z.sfSince, sd := s.heldOff g z.sdSince }
  (s.modMerge g fun x => { x with a := step x.a, b := step x.b }).selectorDecides g

/-- SF and SD as requests of the tick in which they hold (R356): with a hold-off of 0 at once, and none that has ended. -/
def State.instantRequests (s : State) (g : Nat) : State :=
  if !s.groupDefined g then s
  else
    let step (z : MergeInst) : MergeInst :=
      let now := s.cfg F.MG_CTRL_HOLDOFF g == 0
      { z with sf := z.sfSince.isSome && (z.sf || now), sd := z.sdSince.isSome && (z.sd || now) }
    (s.modMerge g fun x => { x with a := step x.a, b := step x.b }).selectorDecides g

/-- MS names the instance in use of a group in MERGE mode, at the boundary after its write (R353, R363). -/
def State.mgUse (s : State) (g : Nat) (b : Bool) : State := (s.modMerge g fun x => { x with useB := b }).showGroup g

/-- HOLDOFF_EXPIRY (R356). -/
def State.holdOffExpiry (s : State) (g : Nat) : State := if s.groupDefined g then s.applyHoldOff g else s

/-- WTR_EXPIRY: the wait-to-restore time is over (R358). -/
def State.wtrExpiry (s : State) (g : Nat) : State :=
  match (s.merge g).after with
  | .wtr since =>
    if s.elapsed since (60 * 312500 * clampNat 1 12 (s.cfg F.MG_CTRL_WTR g)) then
      (s.modMerge g fun x => { x with after := .none }).selectorDecides g
    else s
  | _ => s

/-- An instance of a train group as a tick shows it (R341, R347, R353, R356): its condition SF, its errored crates, its key. -/
def State.instanceTick (s : State) (g : Nat) (b : Bool) (key : Option Nat) (valid defect jump : Bool) (bad : List (Nat × Bool)) :
    State :=
  if !s.groupDefined g || s.groupLine g then s
  else
    let s := s.modMerge g fun x => x.modInst b fun z =>
      { z with sfSince := if defect then (match z.sfSince with | some t => some t | none => some s.now) else none
               bipCrates := z.bipCrates + (bad.filter fun c => 0 < c.1).length }
    let s := if jump then s.jumpInst g b else s
    match key with
    | none => s
    | some k =>
      let base := if b then s.rd F.MG_INST_B0 g else s.rd F.MG_INST_A0 g
      let crates := (List.range (s.rd F.MG_RANGE_KSZ g)).map fun i => s.ingressBerth (base + i)
      s.deliverKey g b { key := k, del := s.now, valid := valid, crates := crates, bad := bad, defect := defect }

/-- Both instances of a group in MERGE mode are presented on their own ingress ports (R353): the crates of the key of this tick under
the pointer of the group's readout store, or AIS crates. -/
def State.presentTrain (s : State) (g : Nat) : State :=
  let x := s.merge g
  if !s.groupMerges g || s.groupLine g then s
  else
    let k := s.rd F.MG_RANGE_KSZ g
    let t := s.rd F.MG_CFG_TRAIN g
    let crateOf (z : MergeInst) (i : Nat) : Option Berth :=
      match x.shown with | some key => (z.keys.find? (·.key == key)).bind fun d => d.crates[i]? | none => none
    let own := crateOf (x.inst x.timingB) 0
    let lead := match own with | some c => some c | none => crateOf (x.inst !x.timingB) 0
    let leadB := x.timingB != own.isNone
    let gen := match lead with
      | some c => generate (
          if x.restart then { st := PtrState.norm, ndfDue := true, ndfPtr := c.ptr }
          else
            let moved := { x.gen with dev := if leadB == x.leadB then x.gen.dev - ptrStep c.ptr x.lead else x.gen.dev }
            if 496 < moved.dev.natAbs then slip moved else moved)
      | none => { x.gen with out := x.gen.start, adj := Adjust.none, sinceAdj := min (x.gen.sinceAdj + 1) 3 }
    let ndf := lead.isSome && gen.sendsNdf
    let s := s.each (List.range k) fun s i =>
      let berth (z : MergeInst) : Berth :=
        match crateOf z i with
        | some c => { c with ptr := gen.start, ndf := ndf }
        | none => { aisCrate s.tick gen.start i (s.tidOf t) k with ndf := ndf }
      (s.setIngressBerth (s.rd F.MG_INST_A0 g + i) (berth x.a)).setIngressBerth (s.rd F.MG_INST_B0 g + i) (berth x.b)
    s.modMerge g fun x =>
      { x with shown := none, gen := gen, lead := (lead.map (·.ptr)).getD x.lead, leadB := if lead.isSome then leadB else x.leadB
               restart := x.restart && lead.isNone, takenBad := if x.shown.isSome then x.takenBad else List.replicate k true }

/-- A group at a boundary (R345, R346, R356): its runs, and the selector. -/
def State.tickMerge (s : State) (g : Nat) : State :=
  if !s.groupDefined g then s
  else
    let s := s.modMerge g fun x =>
      let va := x.a.validNow s.now
      let vb := x.b.validNow s.now
      let running := x.st == .single || x.st == .aligned
      let bad (z : MergeInst) : Bool := z.late || z.early
      { x with noValid := if va || vb then 0 else x.noValid + 1
               heldBad := x.takenBad
               noUsable := if running && !(x.a.contributes || x.b.contributes) && ((va && bad x.a) || (vb && bad x.b)) then x.noUsable + 1
                 else 0
               autoRun := if (bad x.a && x.b.contributes) || (bad x.b && x.a.contributes) then x.autoRun + 1 else 0 }
    s.instantRequests g

/-- A second of a train group's instances ends: SD of each (R356). -/
def State.mergeSecond (s : State) (g : Nat) : State :=
  let n := min (s.cfg F.MG_CTRL_SD_THR g) 20
  let step (z : MergeInst) : MergeInst :=
    let sd := n != 0 && decide (2 ^ n ≤ z.bipCrates)
    { z with bipCrates := 0, sdSince := if sd then (match z.sdSince with | some t => some t | none => some s.now) else none }
  s.modMerge g fun x => { x with a := step x.a, b := step x.b }

/-! ### Line pairs: frames and APS (R348, R350, R359, R360) -/

/-- The group of an engine's line pair, and whether the engine is instance B. -/
def State.lineGroup (s : State) (e : Nat) : Option (Nat × Bool) :=
  (s.linePair e).map fun r => (r.group, F.MG_CFG_ENG_A.get r.cfg != e)

/-- A native frame is delivered: framing and overhead, then its encryption area; of a line pair, both go to the merge unit (R193, R289,
R350). -/
def State.frameDelivered (s : State) (u : Nat) (oh : Overhead) (sbip : Nat) (ucw : List Nat) (area : EncArea) : State :=
  let x := s.lineFrame u
  if !s.engineOn u || !s.native u || s.rd F.LE_STAT_RX_STATE (unitEngine u) != 5 || !x.held then s
  else
    let f := if oh.fnoCrc == fnoCrc oh.fno && !ucw.contains 0 then oh.fno else x.expect
    match s.lineGroup u with
    | some (g, b) =>
      let s := s.deliverFrame u oh sbip ucw false
      s.deliverKey g b { key := f.toNat, del := s.now, valid := !s.ssf u, fno := f, oh := oh, ucw := ucw, area := area }
    | none => (s.deliverFrame u oh sbip ucw true).readEnc u f ucw area

/-- The engine whose TAPS a train group reads: that of instance B, else that of A; the other while it is in SSF (R360). -/
def State.apsEngine (s : State) (g : Nat) : Option Nat :=
  let engineOf (p : Nat) : Option Nat :=
    if 10240 ≤ p && p < 20480 && s.native ((p - 10240) / 1280) then some ((p - 10240) / 1280) else none
  match engineOf (s.rd F.MG_INST_B0 g), engineOf (s.rd F.MG_INST_A0 g) with
  | some b, some a => if s.ssf b then some a else some b
  | some b, none => some b
  | none, a => a

/-- A word accepted under R203 for a group (R360): taken if its CRC passes and it names the group, unless it is 0 while BIDIR is set. -/
def State.apsAccept (s : State) (g v : Nat) : State :=
  let good := crc 8 7 (bitsOf 24 (v / 256)) == v % 256 && v / 2 ^ 13 % 2048 == g && !(v == 0 && s.on F.MG_CFG_APS g)
  if !good then s.raise F.MG_STICKY_APS_MIS g
  else ((s.setReg .MG_APS_RX g (BitVec.ofNat 32 v)).wr F.MG_STAT_FREQ g (v / 2 ^ 28)).selectorDecides g

/-- TAPS_ACCEPT: a channel's value carried 3 times in a row is accepted (R203). -/
def State.acceptTaps (s : State) (u ch : Nat) : State :=
  let r := s.tapsRun (2048 * u + ch)
  if r.count < 3 then s
  else
    let s := s.setTapsAcc (2048 * u + ch) r.value
    if s.groupDefined ch && !s.groupLine ch && s.apsEngine ch == some u then s.apsAccept ch r.value else s

/-- LAPS_ACCEPT: a LAPS value carried in 3 consecutive frames is accepted (R203). -/
def State.acceptLaps (s : State) (u : Nat) : State :=
  let r := (s.lineFrame u).laps
  if r.count < 3 then s
  else
    let s := s.modFrame u fun x => { x with lapsAcc := r.value }
    match s.lineGroup u with
    | some (g, false) => s.apsAccept g r.value
    | _ => s

/-- The overhead an engine transmits in the present tick, its APS channels included; the secondary of a line pair copies MID (R191,
R348, R359). -/
def State.sentOverhead (s : State) (e : Nat) : Overhead :=
  let oh := s.txOverhead e
  let m := s.tick.toNat % 256
  let word (g : Nat) : Word := if s.groupDefined g && !s.groupLine g then s.reg .MG_APS_TX g else 0
  let first := !s.on F.LF_CFG_SUB e
  let oh := { oh with taps := if first then (List.range 8).map fun i => word (8 * m + i) else [] }
  match s.lineGroup e with
  | some (g, b) =>
    let primary := s.rd F.MG_CFG_ENG_A g
    { oh with laps := s.reg .MG_APS_TX g, mid := if b then BitVec.ofNat 32 (s.cfg F.LF_MID_TX_MID primary) else oh.mid }
  | none => oh

/-! ### The commands -/

/-- Meaning of FRAME_DELIVERED. -/
def execFrameDelivered (u : RxUnit) (oh : Overhead) (sbip : Fin 17) (ucw : List Nat) (enc : EncArea) (s : State) :
    Host.Outcome State Fault Refusal :=
  .next (s.atUnit u.val (State.frameDelivered · u.val oh sbip.val ucw enc))

/-- Meaning of FNO_JUMP: an instance of a line pair is removed from use (R215, R347). -/
def execFnoJump (u : RxUnit) (s : State) : Host.Outcome State Fault Refusal :=
  let jumps := !s.on F.LF_STAT_LOM u.val && (s.lineFrame u.val).pairOff
  .next (s.atUnit u.val fun s =>
    let s := s.fnoJump u.val
    match jumps, s.lineGroup u.val with
    | true, some (g, b) => s.jumpInst g b
    | _, _ => s)

/-- Meaning of TAPS_ACCEPT. -/
def execTapsAccept (u : RxUnit) (ch : Fin 2048) (s : State) : Host.Outcome State Fault Refusal :=
  .next (s.atUnit u.val (State.acceptTaps · u.val ch.val))

/-- Meaning of LAPS_ACCEPT. -/
def execLapsAccept (u : RxUnit) (s : State) : Host.Outcome State Fault Refusal :=
  .next (s.atUnit u.val (State.acceptLaps · u.val))

/-- Meaning of MERGE_KEY_DECISION. -/
def execMergeKeyDecision (g : Fin 2048) (s : State) : Host.Outcome State Fault Refusal := .next (s.keyDecision g.val)

/-- Meaning of MERGE_DHELD_LOAD. -/
def execMergeDheldLoad (g : Fin 2048) (s : State) : Host.Outcome State Fault Refusal := .next (s.dHeldLoad g.val)

/-- Meaning of MERGE_LATE_EARLY. -/
def execMergeLateEarly (g : Fin 2048) (s : State) : Host.Outcome State Fault Refusal := .next (s.lateEarly g.val)

/-- Meaning of MERGE_DOWN. -/
def execMergeDown (g : Fin 2048) (s : State) : Host.Outcome State Fault Refusal := .next (s.mergeDown g.val)

/-- Meaning of MERGE_WAIT_EXPIRY. -/
def execMergeWaitExpiry (g : Fin 2048) (s : State) : Host.Outcome State Fault Refusal := .next (s.waitExpiry g.val)

/-- Meaning of MERGE_ALIGNED. -/
def execMergeAligned (g : Fin 2048) (s : State) : Host.Outcome State Fault Refusal := .next (s.mergeAligned g.val)

/-- Meaning of REALIGN_NO_USABLE. -/
def execRealignNoUsable (g : Fin 2048) (s : State) : Host.Outcome State Fault Refusal := .next (s.realignNoUsable g.val)

/-- Meaning of REALIGN_AUTO. -/
def execRealignAuto (g : Fin 2048) (s : State) : Host.Outcome State Fault Refusal := .next (s.realignAuto g.val)

/-- Meaning of HOLDOFF_EXPIRY. -/
def execHoldoffExpiry (g : Fin 2048) (s : State) : Host.Outcome State Fault Refusal := .next (s.holdOffExpiry g.val)

/-- Meaning of WTR_EXPIRY. -/
def execWtrExpiry (g : Fin 2048) (s : State) : Host.Outcome State Fault Refusal := .next (s.wtrExpiry g.val)

/-- Meaning of MG_REALIGN: at the next boundary. -/
def execMgRealign (m : Initiator) (s : State) : Host.Outcome State Fault Refusal :=
  let g := s.groupSel m
  .next (s.write m 0x2600001C (.mgRealign g) fun t => t.later (.mgRealign g))

/-- MG_CTRL.CMD takes a value; in MERGE mode MS names the instance in use at the next boundary (R353, R363). -/
def State.mgCmd (s : State) (g cmd : Nat) : State :=
  let s := s.wr F.MG_CTRL_CMD g cmd
  if s.groupMerges g && (cmd == 3 || cmd == 4) then s.later (.mgUse g (cmd == 4)) else s

/-- A write of MG_CTRL.CMD (R363). -/
def State.writeCmd (s : State) (m : Initiator) (cmd : Nat) : State :=
  let g := s.groupSel m
  s.write m 0x2600001C (.mgCmd g cmd) fun t => t.mgCmd g cmd

/-- Meaning of MG_CMD_LO. -/
def execMgCmdLo (m : Initiator) (s : State) : Host.Outcome State Fault Refusal := .next (s.writeCmd m 1)

/-- Meaning of MG_CMD_FS. -/
def execMgCmdFs (m : Initiator) (s : State) : Host.Outcome State Fault Refusal := .next (s.writeCmd m 2)

/-- Meaning of MG_CMD_MS_A. -/
def execMgCmdMsA (m : Initiator) (s : State) : Host.Outcome State Fault Refusal := .next (s.writeCmd m 3)

/-- Meaning of MG_CMD_MS_B. -/
def execMgCmdMsB (m : Initiator) (s : State) : Host.Outcome State Fault Refusal := .next (s.writeCmd m 4)

/-- Meaning of MG_CMD_CLEAR. -/
def execMgCmdClear (m : Initiator) (s : State) : Host.Outcome State Fault Refusal := .next (s.writeCmd m 0)

/-- Meaning of MG_CNT_LO_READ. -/
def execMgCntLoRead (m : Initiator) (s : State) : Host.Outcome State Fault Refusal :=
  let n := s.rd F.MG_CSEL_CNT m.copy
  .next (s.readLatched m F.MG_CNT_HI_CNT_HI (if n ≤ 8 then s.ctr ⟨.mg, n, s.groupSel m⟩ else 0))

end Sys2Proof.Machine
end

