-- ==== Sys2Proof/Machine/Timing.lean ====
section
/-! DEFINITION. Timing, time transfer and holdover (11_timing.md): references and frequency DPLLs, the time counter and its sources,
line time transfer, Invar, time outputs. -/

namespace Sys2Proof.Machine

/-! ### References (R367, R368) -/

/-- The RCV slot of a reference: 0–127 a lane, 128–135 an engine (TM_RCV). -/
def State.slotSource (s : State) (r : Nat) : Nat := (s.rd F.TM_RCV_RCV0 0 + 256 * s.rd F.TM_RCV_RCV1 0 +
  65536 * s.rd F.TM_RCV_RCV2 0 + 16777216 * s.rd F.TM_RCV_RCV3 0) / 256 ^ (r - 4) % 256

/-- The engine whose recovered clock feeds a reference, if any (R3, TM_RCV). -/
def State.refEngine (s : State) (r : Nat) : Option Nat :=
  if 4 ≤ r && r ≤ 7 && 128 ≤ s.slotSource r && s.engineExists (s.slotSource r - 128) then some (s.slotSource r - 128) else none

/-- The clock behind a recovered-clock slot exists: a lane, or an engine of the device (TM_RCV). -/
def State.slotNamed (s : State) (r : Nat) : Bool :=
  decide (s.slotSource r < 128) || (decide (s.slotSource r < 136) && s.engineExists (s.slotSource r - 128))

/-- A reference's monitor runs (R367): TM_REF_FREQ is not 0, which the device fills itself for slots and TICK_IN. -/
def State.refRuns (s : State) (r : Nat) : Bool :=
  if r < 4 then s.cfg F.TM_REF_FREQ_FREQ r != 0 else if r < 8 then s.slotNamed r else true

/-- TM_REF_FREQ of a recovered-clock slot or of TICK_IN, 312.5 kHz / 2^k in units of 1/1,024 kHz (R365, TM_REF_FREQ). -/
def State.fillFreq (s : State) (r : Nat) : State :=
  let k := s.cfg F.TM_TICK_TI_DIV 0
  s.wr F.TM_REF_FREQ_FREQ r (
    if r < 8 then (if s.slotNamed r then Config.filledFreq (s.slotSource r) else 0)
    else if k ≤ 9 then 320000 / 2 ^ k else Config.filledFreq (200 + k))

/-- A reference is disqualified (R367). -/
def State.disqualify (s : State) (r : Nat) : State :=
  let was := s.on F.TM_REF_STAT_QUAL r
  ((s.wr F.TM_REF_STAT_QUAL r 0).setTimeRef r { goodSince := none }).raiseIf was F.TM_STICKY_REF_DISQ 0

/-- REF_LOS: no edge for 4 nominal periods (R367). -/
def State.refLos (s : State) (r : Nat) : State :=
  if !s.refRuns r || s.on F.TM_REF_STAT_LOS r then s
  else ((s.wr F.TM_REF_STAT_LOS r 1).disqualify r).raise F.TM_STICKY_REF_LOS 0

/-- REF_FREQ_WINDOW: the offset of a 1 s window, in 0.01 ppm, against FMAX in 0.2 ppm (R367). -/
def State.refWindow (s : State) (r : Nat) (offset : Int) : State :=
  if !s.refRuns r then s
  else
    let s := (s.wr F.TM_REF_STAT_FOFS r (unsigned 16 (clampInt (-32768) 32767 offset))).wr F.TM_REF_STAT_LOS r 0
    if 20 * s.cfg F.TM_REF_CFG_FMAX r < offset.natAbs then s.disqualify r
    else if (s.timeRef r).goodSince.isNone then s.setTimeRef r { goodSince := some s.now }
    else s

/-- REF_QUALIFY: WTR seconds without either condition (R367). -/
def State.refQualify (s : State) (r : Nat) : State :=
  match (s.timeRef r).goodSince with
  | some t =>
    if s.refRuns r && !s.on F.TM_REF_STAT_LOS r && s.elapsed t (312500 * s.cfg F.TM_REF_CFG_WTR r) then
      s.wr F.TM_REF_STAT_QUAL r 1
    else s
  | none => s

/-- The QL in use of a reference (R368). -/
def State.refreshQl (s : State) (r : Nat) : State :=
  s.wr F.TM_REF_STAT_QL_IN r (match s.refEngine r with
    | some e => (s.lineFrame e).ttAcc.flags / 16
    | none => s.cfg F.TM_REF_CFG_QL r)

/-! ### Frequency DPLLs (R369 to R374) -/

/-- The device takes its timing from a mooring port (R374, R453). -/
def State.worker (s : State) : Bool := s.rd F.SY_STRAP_HROLE 0 == 2

/-- The device takes its timing from the mate link (R374): STANDBY or JOINING. -/
def State.followsMate (s : State) : Bool := s.rd F.MT_STAT_STATE 0 == 2 || s.rd F.MT_STAT_STATE 0 == 3

/-- Rank of a QL, lower is better: the SSM codes of the option in their order of quality (R369; PRESUMED from ITU-T G.781). -/
def qlRank (option2 : Bool) (ql : Nat) : Nat :=
  let order := if option2 then [1, 0, 7, 4, 13, 10, 12, 14] else [2, 4, 8, 11]
  order.findIdx (· == ql)

/-- The time DPLL's rate may serve as a reference (R370). -/
def State.timeCandidate (s : State) : Bool :=
  let st := s.rd F.TM_TD_STAT_STATE 0
  st == 2 || st == 3

/-- A candidate of a DPLL is qualified (R367, R370, R374). -/
def State.candidateOk (s : State) (output : Bool) (c : Nat) : Bool :=
  if c ≤ 8 then s.on F.TM_REF_STAT_QUAL c && s.rd F.TM_REF_STAT_QL_IN c != 15
  else if c == 9 then s.timeCandidate
  else if c == 10 then !output && s.on F.HR_STAT_TVALID 0
  else if c == 11 then !output && s.on F.MT_STAT_LINK 0
  else c == 12 && output && s.rd F.TM_GD_STAT_STATE 0 == 2

/-- A candidate that the DPLL's enable bits admit to the automatic selection (R369). -/
def State.admitted (s : State) (output : Bool) (c : Nat) : Bool :=
  s.cfgOn (if output then F.TM_REF_CFG_OEN else F.TM_REF_CFG_GEN) c && s.candidateOk output c

/-- Rank of a candidate: QL, priority, code (R369). -/
def State.candidateRank (s : State) (output : Bool) (c : Nat) : Nat × Nat × Nat :=
  let opt := s.cfgOn (if output then F.TM_OD_CTRL_OPT else F.TM_GD_CTRL_OPT) 0
  (qlRank opt (s.rd F.TM_REF_STAT_QL_IN c), s.cfg (if output then F.TM_REF_CFG_OPRIO else F.TM_REF_CFG_GPRIO) c, c)

/-- A rank is better than another. -/
def rankBefore (a b : Nat × Nat × Nat) : Bool :=
  decide (a.1 < b.1) || (a.1 == b.1 && (decide (a.2.1 < b.2.1) || (a.2.1 == b.2.1 && decide (a.2.2 < b.2.2))))

/-- The candidate the automatic selection takes, given the selected one (R369). -/
def State.autoSelect (s : State) (output : Bool) (cur : Option Nat) : Option Nat :=
  let best := ((List.range 9).filter (s.admitted output)).foldl
    (fun b c => match b with
      | none => some c
      | some x => if rankBefore (s.candidateRank output c) (s.candidateRank output x) then some c else some x) none
  match cur, best with
  | some c, some b =>
    if !s.admitted output c then best
    else
      let rc := s.candidateRank output c
      let rb := s.candidateRank output b
      let revert := s.cfgOn (if output then F.TM_OD_CTRL_REVERT else F.TM_GD_CTRL_REVERT) 0
      if rb.1 < rc.1 || (revert && rb.1 == rc.1 && rb.2.1 < rc.2.1) then best else cur
  | _, _ => best

/-- The candidate a DPLL uses at this boundary (R369, R374). -/
def State.wantedRef (s : State) (output : Bool) (cur : Option Nat) : Option Nat :=
  let only (c : Nat) : Option Nat := if s.candidateOk output c then some c else none
  if !output && s.worker then only 10
  else if !output && s.followsMate then only 11
  else
    match s.cfg (if output then F.TM_OD_CTRL_MODE else F.TM_GD_CTRL_MODE) 0 with
    | 0 => s.autoSelect output cur
    | 1 => only (s.cfg (if output then F.TM_OD_CTRL_FREF else F.TM_GD_CTRL_FREF) 0)
    | _ => none

/-- DPLL_SELECT: a frequency DPLL selects, or holds over, at a boundary (R369, R372). -/
def State.dpllSelect (s : State) (output : Bool) : State :=
  let (fState, fSel, fQl) := if output then (F.TM_OD_STAT_STATE, F.TM_OD_STAT_SEL, F.TM_OD_STAT_QL)
    else (F.TM_GD_STAT_STATE, F.TM_GD_STAT_SEL, F.TM_GD_STAT_QL)
  let x := if output then s.outPll else s.gridPll
  let put (s : State) (x : FreqPll) : State := if output then { s with outPll := x } else { s with gridPll := x }
  let st := s.rd fState 0
  let free := s.cfg (if output then F.TM_OD_CTRL_MODE else F.TM_GD_CTRL_MODE) 0 == 2 && !(!output && (s.worker || s.followsMate))
  let cur := if x.selected then some (s.rd fSel 0) else none
  let hold (s : State) : State := if output then s else s.wr fQl 0 (s.cfg F.TM_GD_CTRL_QLH 0)
  if free then hold ((put s { x with selected := false, lockedTicks := 0 }).wr fState 0 0)
  else
    match s.wantedRef output cur with
    | some c =>
      if cur == some c then
        let s := if st == 2 then put s { x with lockedTicks := x.lockedTicks + 1 } else s
        if c ≤ 8 then s.wr fQl 0 (s.rd F.TM_REF_STAT_QL_IN c) else s
      else
        let s := ((put s { x with selected := true }).wr fSel 0 c).wr fState 0 1
        let s := if c ≤ 8 then s.wr fQl 0 (s.rd F.TM_REF_STAT_QL_IN c) else (s.wr fQl 0 s.drawn).draw
        s.raiseIf (!output) F.TM_STICKY_GD_SWITCH 0
    | none =>
      let s := hold (put s { x with selected := false })
      if st == 0 || st == 3 then s
      else if x.lockedTicks < 3125000 then (put s { x with selected := false, lockedTicks := 0 }).wr fState 0 0
      else (s.wr fState 0 3).raise (if output then F.TM_STICKY_OD_HOLDOVER else F.TM_STICKY_GD_HOLDOVER) 0

/-- DPLL_LOCKED: the phase error has stayed below 100 ns for 10 s (R372). -/
def State.dpllLocked (s : State) (output : Bool) (ticks : Nat) : State :=
  let fState := if output then F.TM_OD_STAT_STATE else F.TM_GD_STAT_STATE
  if s.rd fState 0 != 1 || ticks < 3125000 then s
  else
    let s := s.wr fState 0 2
    if output then { s with outPll := { s.outPll with everLocked := true } }
    else { s with gridPll := { s.gridPll with everLocked := true } }

/-- The QL an engine sends in FLAGS[7:4] (R373). -/
def State.qlSent (s : State) (e : Nat) : Nat :=
  let st := s.rd F.TM_GD_STAT_STATE 0
  if st == 0 || st == 3 then s.cfg F.TM_GD_CTRL_QLH 0
  else if s.refEngine (s.rd F.TM_GD_STAT_SEL 0) == some e then 15
  else s.rd F.TM_GD_STAT_QL 0

/-! ### The time counter (R377, R378) -/

/-- One second in units of 2⁻³² ns. -/
def secondUnits : Nat := 1000000000 * 2 ^ 32

/-- TB of the last boundary as a stamp. -/
def State.tbStamp (s : State) : Stamp :=
  let t := s.timePll.tb
  ⟨t / secondUnits, t % secondUnits / 2 ^ 32, t % 2 ^ 32 / 2 ^ 16⟩

/-- A stamp in units of 2⁻¹⁶ ns. -/
def Stamp.units (x : Stamp) : Int := ((x.sec * 1000000000 + x.ns) * 65536 + x.frac : Nat)

/-- The time DPLL after a change. -/
def State.modTime (s : State) (f : TimePll → TimePll) : State := { s with timePll := f s.timePll }

/-- A source after a change. -/
def State.modSource (s : State) (i : Nat) (f : TimeSource → TimeSource) : State := s.setTimeSource i (f (s.timeSource i))

/-- TIME_VALID. -/
def State.timeValid (s : State) : Bool := s.on F.TM_TD_STAT_TIME_VALID 0

/-- The most that is slewed per tick, in units of 2⁻³² ns: SLEW in 10 ns/s (R380). -/
def State.slewLimit (s : State) : Int := (10 * s.cfg F.TM_TD_CTRL_SLEW 0 * 2 ^ 32 / 312500 : Nat)

/-- The class and STEPS the device announces (R378). -/
def State.announceClass (s : State) : State :=
  let st := s.rd F.TM_TD_STAT_STATE 0
  let src := s.rd F.TM_TD_STAT_SRC 0
  let own := src ≤ 1 || src == 10
  let (cls, steps) :=
    if st == 3 then (135, 0)
    else if st == 4 then (165, 0)
    else if st == 0 || !s.timeValid then (248, 0)
    else (s.rd F.TM_TS_STAT_CLASS src, if own then 0 else min (s.rd F.TM_TS_STAT_STEPS src + 1) 255)
  (s.wr F.TM_TD_STAT_CLASS 0 cls).wr F.TM_TD_STAT_STEPS 0 steps

/-- TB at a boundary: 3,200 ns (1 + y) + c (R377, R380); a step or a slew that ends makes TIME_VALID 1 (R378).  After a step the next
two TT loads, at TICK_NO[7:0] = 128, carry STEP (R380). -/
def State.tickTime (s : State) : State :=
  let x := s.timePll
  let c := match x.step with | some v => v | none => clampInt (-s.slewLimit) s.slewLimit x.slew
  let ends := x.step.isSome || (x.removing && x.slew == c)
  let tb := ((x.tb : Int) + 3200 * 2 ^ 32 + x.rate + c).toNat
  let s := s.modTime fun x =>
    { x with tb := tb, step := none, slew := if x.step.isSome then 0 else x.slew - c
             removing := x.removing && !ends
             stepLoads := if x.step.isSome then 2 else if s.tick.toNat % 256 == 129 then x.stepLoads - 1 else x.stepLoads
             steps := if x.step.isSome then x.steps + 1 else x.steps
             steppedAt := if x.step.isSome then s.now else x.steppedAt
             stepTb := if x.step.isSome then tb else x.stepTb
             learned := if s.rd F.TM_TD_STAT_STATE 0 == 2 && decide (x.lockedAt ≤ s.now) then x.learned + 1 else x.learned }
  let s := if s.rd F.TM_TD_STAT_STATE 0 == 1 && ends then s.wr F.TM_TD_STAT_TIME_VALID 0 1 else s
  let s := s.wr F.TM_INV_STAT_HOURS 0 (min (s.timePll.learned / 1125000000) 16383)
  let s := if s.rd F.TM_INV_STAT_LSTATE 0 == 0 && 0 < s.timePll.learned then s.wr F.TM_INV_STAT_LSTATE 0 1 else s
  s.announceClass

/-- The bound and rate of Invar at a boundary (R391 to R393): in holdover the rate is the model's, and HOLDOVER_OUT follows a bound above
SPEC. -/
def State.invarTick (s : State) (bound : Nat) (rate : Int) : State :=
  let st := s.rd F.TM_TD_STAT_STATE 0
  if st != 3 && st != 4 then s
  else
    let s := (s.wr F.TM_INV_STAT_BOUND 0 (min bound 65535)).modTime fun x => { x with rate := rate }
    if st == 3 && s.cfg F.TM_INV_CTRL_SPEC 0 < bound then
      ((s.wr F.TM_TD_STAT_STATE 0 4).announceClass).raise F.TM_STICKY_HOLDOVER_OUT 0
    else s

/-- TICK_OUT pulses at boundaries on its divider (R375). -/
def State.tickOutPulse (s : State) : State :=
  if s.cfgOn F.TM_TICK_TO_EN 0 && s.tick.toNat % 2 ^ min (s.cfg F.TM_TICK_TO_DIV 0) 20 == 0 then s.send (.tickOut s.tick) else s

/-! ### Sources (R379 to R381, R385) -/

/-- An engine is a qualified time source (R385). -/
def State.engineTime (s : State) (e : Nat) : Bool :=
  let i := e + 2
  let x := s.timeSource i
  let recent := match x.heardAt with | some t => decide (s.now ≤ t + 1024) | none => false
  let cls := (s.lineFrame e).ttAcc.cls
  s.engineExists e && s.native e && !s.on F.LF_CFG_HUB e && !s.on F.LF_CFG_SUB e && !s.ssf e && recent && x.flags.testBit 3 &&
    cls != 248 && cls != 255 &&
    (s.cfg F.TM_TS_CFG_ASYM i != 2 || (s.on F.TM_TS_STAT_LEARNED i && !s.on F.TM_TS_STAT_STALE i))

/-- Class and STEPS that a source carries, and whether an engine qualifies, as they stand at a decision (R378, R385). -/
def State.refreshSource (s : State) (i : Nat) : State :=
  let tod := if i == 0 then s.timePll.tod0 else s.timePll.tod1
  let cls := s.cfg F.TM_TS_CFG_CLASS i
  if i ≤ 1 then
    s.wr F.TM_TS_STAT_CLASS i (if cls == 0 then (match tod with | some (_, c) => c | none => 255) else cls)
  else if i == 10 then s.wr F.TM_TS_STAT_CLASS i cls
  else if i ≤ 9 then
    let t := (s.lineFrame (i - 2)).ttAcc
    ((s.wr F.TM_TS_STAT_CLASS i t.cls).wr F.TM_TS_STAT_STEPS i t.steps).wrBool F.TM_TS_STAT_QUAL i (s.engineTime (i - 2))
  else s

/-- Rank of a time source (R379): class, STEPS, priority, number. -/
def State.sourceRank (s : State) (i : Nat) : Nat :=
  ((s.rd F.TM_TS_STAT_CLASS i * 256 + s.rd F.TM_TS_STAT_STEPS i) * 16 + s.cfg F.TM_TS_CFG_PRIO i) * 16 + i

/-- The source that the time DPLL takes (R374, R379). -/
def State.wantedSource (s : State) : Option Nat :=
  let ok (i : Nat) : Bool := s.on F.TM_TS_STAT_QUAL i
  let only (i : Nat) : Option Nat := if ok i then some i else none
  if s.worker then only 11
  else if s.followsMate then only 12
  else if s.cfgOn F.TM_TD_CTRL_FORCE 0 then only (s.cfg F.TM_TD_CTRL_FSRC 0)
  else
    ((List.range 13).filter fun i => s.cfgOn F.TM_TS_CFG_EN i && ok i).foldl
      (fun b i => match b with
        | none => some i
        | some j => if s.sourceRank i < s.sourceRank j then some i else some j) none

/-- The offset of the selected source is removed by a step or a slew (R380); in units of 2⁻³² ns. -/
def State.removeOffset (s : State) (theta : Int) : State :=
  let big := decide (s.cfg F.TM_TD_CTRL_STEP_THR 0 * 2 ^ 32 < theta.natAbs)
  let s :=
    if big && (!s.timeValid || s.cfgOn F.TM_TD_CTRL_STEP_EN 0) then
      s.modTime fun x => { x with step := some (-theta), slew := 0, removing := true }
    else s.modTime fun x => { x with slew := -theta, removing := true }
  s.raiseIf big F.TM_STICKY_TIME_STEP 0

/-- TIME_DECISION: every 256 ticks the time DPLL selects its source and removes its offset (R378 to R380); `offsets` are filtered
offsets of sources in 1/256 ns, `rate` the correction y of R377. -/
def State.timeDecision (s : State) (offsets : List (Nat × Int)) (rate : Int) : State :=
  if s.tick.toNat % 256 != 0 then s
  else
    let s := s.each (List.range 13) State.refreshSource
    let s := s.each offsets fun s o => s.wr F.TM_TS_OFS_VAL o.1 (unsigned 32 o.2)
    let st := s.rd F.TM_TD_STAT_STATE 0
    let old := if s.timePll.selected then some (s.rd F.TM_TD_STAT_SRC 0) else none
    let want := s.wantedSource
    let s := s.each (List.range 13) fun s i => s.wrBool F.TM_TS_STAT_SEL i (want == some i)
    match want with
    | none =>
      let s := s.modTime fun x =>
        { x with selected := false, slew := 0, removing := false, goodSince := none, held := x.held || s.timeValid }
      if !s.timeValid then (s.wr F.TM_TD_STAT_STATE 0 0).announceClass
      else if st == 3 || st == 4 then s
      else ((s.wr F.TM_TD_STAT_STATE 0 3).announceClass).raise F.TM_STICKY_TIME_HOLDOVER 0
    | some i =>
      let s := s.modTime fun x => { x with selected := true, rate := rate }
      let s := if old == some i && st != 0 && st != 3 && st != 4 then s
        else (((s.wr F.TM_TD_STAT_SRC 0 i).wr F.TM_TD_STAT_STATE 0 1).wr F.TM_INV_STAT_BOUND 0 0).modTime fun x =>
          { x with goodSince := none, slew := 0, removing := false }
      let s := s.raiseIf (old.isSome && old != some i) F.TM_STICKY_TIME_SRC_SWITCH 0
      match offsets.find? (·.1 == i) with
      | some (_, v) =>
        let s := s.modTime fun x =>
          { x with goodSince := if v.natAbs ≤ 50 * 256 then (match x.goodSince with | some t => some t | none => some s.now) else none }
        (s.removeOffset (v * 2 ^ 24)).announceClass
      | none => s.announceClass

/-- TIME_LOCKED: the filtered offset has stayed within ±50 ns for 10 s (R378); after a holdover Invar resumes 60 s later (R393). -/
def State.timeLocked (s : State) : State :=
  match s.timePll.goodSince with
  | some t =>
    if s.rd F.TM_TD_STAT_STATE 0 == 1 && s.elapsed t 3125000 then
      ((s.wr F.TM_TD_STAT_STATE 0 2).modTime fun x =>
        { x with lockedAt := if x.held then s.now + 18750000 else s.now, held := false }).announceClass
    else s
  | none => s

/-- The correction of a source in units of 2⁻¹⁶ ns: TM_TS_ADJ in 1/16 ns. -/
def State.adjUnits (s : State) (i : Nat) : Int := signed 32 (s.cfg F.TM_TS_ADJ_ADJ i) * 4096

/-- PPS_EDGE: a 1PPS_IN edge is stamped (R381). -/
def State.ppsEdge (s : State) (i : Nat) (stamp : Stamp) : State :=
  let t := stamp.units
  let x := s.timeSource i
  let second : Int := 1000000000 * 65536
  let good := match x.edge with | some (t0, _) => decide ((t - t0 - second).natAbs ≤ 1000 * 65536) | none => false
  let n := if good then x.goodEdges + 1 else 1
  let at_ := t - s.adjUnits i
  let tod := if i == 0 then s.timePll.tod0 else s.timePll.tod1
  let whole : Option Int :=
    if s.timeValid then some ((at_ + second / 2) / second * second)
    else match tod with | some (sec, _) => some (sec * second) | none => none
  let s := s.modSource i fun x =>
    { x with edge := some (t, s.now), goodEdges := n, missed := false, theta := match whole with | some w => at_ - w | none => x.theta }
  let s := if i == 0 then s.modTime fun x => { x with tod0 := x.tod0.map fun p => (p.1 + 1, p.2) }
    else s.modTime fun x => { x with tod1 := x.tod1.map fun p => (p.1 + 1, p.2) }
  if 3 ≤ n then s.wr F.TM_TS_STAT_QUAL i 1 else s

/-- PPS_MISS: 2 seconds without an edge (R381). -/
def State.ppsMiss (s : State) (i : Nat) : State :=
  let x := s.timeSource i
  let since := match x.edge with | some (_, n) => n | none => 0
  if x.missed || !s.cfgOn F.TM_TS_CFG_EN i || !s.elapsed since 625000 then s
  else ((s.modSource i fun x => { x with missed := true, goodEdges := 0 }).wr F.TM_TS_STAT_QUAL i 0).raise F.TM_STICKY_PPS_MISS 0

/-- CRC-16 with x¹⁶ + x¹² + x⁵ + 1 and initial value 0xFFFF over bytes. -/
def crc16 (bytes : List Byte) : Nat := (bytes.flatMap fun b => bitsOf 8 b.toNat).foldl (crcStep 16 0x1021) 0xFFFF

/-- A number of bytes, the most significant first. -/
def bigEndian (bytes : List Byte) : Nat := bytes.foldl (fun n b => n * 256 + b.toNat) 0

/-- TOD_MESSAGE: accepted if its CRC passes and its last byte arrives 50 to 950 ms after an edge of the input it describes (R382). -/
def State.todMessage (s : State) (bytes : List Byte) : State :=
  if !s.cfgOn F.TM_PPS_CFG_TODI_EN 0 then s
  else
    let i := s.cfg F.TM_PPS_CFG_TOD_SRC 0
    let timed := match (s.timeSource i).edge with
      | some (_, n) => decide (n + 15625 ≤ s.now) && decide (s.now ≤ n + 296875)
      | none => false
    let form := bytes.length == 18 && bytes.take 4 == [0xC5, 0x3A, 0x01, 12]
    let good := form && timed && crc16 ((bytes.drop 2).take 14) == bigEndian (bytes.drop 16)
    if !good then s.raise F.TM_STICKY_TOD_ERR 0
    else
      let v := some (bigEndian ((bytes.drop 4).take 6), ((bytes[12]?).getD 0).toNat)
      if i == 0 then s.modTime fun x => { x with tod0 := v } else s.modTime fun x => { x with tod1 := v }

/-- The bytes of a number, the most significant first. -/
def toBytes : Nat → Nat → List Byte
  | 0, _ => []
  | n + 1, v => BitVec.ofNat 8 (v / 256 ^ n) :: toBytes n v

/-- The ToD message for a second (R382, R394). -/
def State.todBytes (s : State) (second : Nat) : List Byte :=
  let flags := s.cfg F.TM_UTC_LEAP61 0 * 128 + s.cfg F.TM_UTC_LEAP59 0 * 64 + s.cfg F.TM_UTC_VALID 0 * 32 +
    (s.rd F.TM_TD_STAT_STATE 0 == 2).toNat * 16 + (s.rd F.TM_GD_STAT_STATE 0 == 2).toNat * 8
  let body : List Byte := [0x01, 12] ++ toBytes 6 second ++ toBytes 2 (s.cfg F.TM_UTC_UTC_OFS 0) ++
    [BitVec.ofNat 8 (s.rd F.TM_TD_STAT_CLASS 0), BitVec.ofNat 8 flags, 0, 0]
  [0xC5, 0x3A] ++ body ++ toBytes 2 (crc16 body)

/-- PPS_OUT_EDGE: the time counter has reached a whole second (R394). -/
def State.ppsOutEdge (s : State) : State :=
  let sec := s.timePll.tb / secondUnits
  if sec ≤ s.timePll.second then s
  else
    let s := s.modTime fun x => { x with second := sec, todDue := some s.now }
    let quiet := s.cfgOn F.TM_PPS_CFG_SQ 0 && !s.timeValid
    let mark (i : Nat) (inverted : Bool) : Out :=
      .pps i sec (signed 16 (s.cfg F.TM_PPS_ADJ_OUT_ADJ 0)) (s.cfg F.TM_PPS_CFG_WIDTH 0) inverted
    let s := if s.cfgOn F.TM_PPS_CFG_EN_O0 0 && !quiet then s.send (mark 0 (s.cfgOn F.TM_PPS_CFG_POL_O0 0)) else s
    if s.cfgOn F.TM_PPS_CFG_EN_O1 0 && !quiet then s.send (mark 1 (s.cfgOn F.TM_PPS_CFG_POL_O1 0)) else s

/-- TOD_TX_SEND: 100 ms after each edge the message for the next edge starts (R394). -/
def State.todSend (s : State) : State :=
  match s.timePll.todDue with
  | some t =>
    if s.cfgOn F.TM_PPS_CFG_TODO_EN 0 && s.elapsed t 31250 then
      (s.modTime fun x => { x with todDue := none }).send (.tod (s.todBytes (s.timePll.second + 1)))
    else s
  | none => s

/-- The frequency that CLK_OUT[j] gives, in units of 1/1,024 kHz: none while it is off or squelched (R395). -/
def State.clockOut (s : State) (j : Nat) : Option Nat :=
  let freq := s.cfg F.TM_CLKO_FREQ_FREQ j
  let below (opt : Field) (ql : Nat) : Bool :=
    decide (qlRank (s.cfgOn opt 0) (s.cfg F.TM_CLKO_CFG_SQ_QL j) < qlRank (s.cfgOn opt 0) ql)
  let quiet := match s.cfg F.TM_CLKO_CFG_SRC j with
    | 1 => s.rd F.TM_OD_STAT_STATE 0 != 2 || below F.TM_OD_CTRL_OPT (s.rd F.TM_OD_STAT_QL 0)
    | 2 => s.rd F.TM_TD_STAT_STATE 0 != 2
    | 3 => false
    | _ => s.rd F.TM_GD_STAT_STATE 0 != 2 || below F.TM_GD_CTRL_OPT (s.rd F.TM_GD_STAT_QL 0)
  if s.cfgOn F.TM_CLKO_CFG_EN j && decide (1024 ≤ freq) && decide (freq ≤ 819200000) && !(s.cfgOn F.TM_CLKO_CFG_SQ j && quiet) then some freq
  else none

/-- TICK_IN_EDGE: while TICK_IN is selected its edges steer the boundary's phase, by slewing only (R376). -/
def State.tickInEdge (s : State) (phase : Int) : State :=
  if s.gridPll.selected && s.rd F.TM_GD_STAT_SEL 0 == 8 then s.modTime fun x => { x with tickPhase := phase } else s

/-- A measurement of the software source at its boundary (TM_SW_OFS); one that meets a step is discarded (R397). -/
def State.swMeasure (s : State) (v : Word) : State :=
  if s.timePll.step.isSome then s
  else
    ((s.modSource 10 fun x => { x with theta := v.toInt * 256, writtenAt := some s.now }).wr F.TM_TS_OFS_VAL 10 v.toNat).wr
      F.TM_TS_STAT_QUAL 10 1

/-- SW_SOURCE_TIMEOUT: 4 s without a write (R379, TM_SW_OFS). -/
def State.swTimeout (s : State) : State :=
  match (s.timeSource 10).writtenAt with
  | some t =>
    if s.elapsed t 1250000 then (s.modSource 10 fun x => { x with writtenAt := none }).wr F.TM_TS_STAT_QUAL 10 0 else s
  | none => s

/-! ### Line time transfer (R205, R206, R383 to R388) -/

/-- The device's time is trusted apart from an engine: LOCKED to another source (R383). -/
def State.trustedTime (s : State) (e : Nat) : Bool :=
  s.rd F.TM_TD_STAT_STATE 0 == 2 && s.timePll.selected && s.rd F.TM_TD_STAT_SRC 0 != e + 2

/-- FLAGS of a TT load (R383). -/
def State.ttFlags (s : State) (e : Nat) : Nat :=
  s.qlSent e * 16 + s.timeValid.toNat * 8 + (decide (0 < s.timePll.stepLoads)).toNat * 4 +
    (s.cfg F.TM_TS_CFG_ASYM (e + 2) == 1).toNat * 2 + (s.trustedTime e).toNat

/-- TT_LOAD at a boundary with TICK_NO[7:0] = 128 (R206): the departure stamp, and the arrival stamp of a far multiframe start if one
has arrived since the last load. -/
def State.ttLoad (s : State) (u : Nat) (dep : Stamp) (arrival : Option (Nat × Stamp)) : State :=
  let e := unitEngine u
  let p := s.timePll
  let before (b : Bool) : Nat := if b then p.steps - 1 else p.steps
  if s.tick.toNat % 256 != 128 || !s.engineOn u || !s.native u then s
  else
    let seq := (s.tick - 128).toNat / 256 % 65536
    let old := (s.lineFrame u).ttTx
    let (aSeq, aStamp) := match arrival with | some (q, t) => (q, t) | none => (old.arrSeq, old.arr)
    let s := s.modFrame u fun x =>
      { x with ttTx := { seq := seq, dep := dep, arrSeq := aSeq, arr := aStamp, cd := s.rd F.LE_CD_CD e
                         freq := s.rd F.LE_LASER_FREQ e, cls := s.rd F.TM_TD_STAT_CLASS 0, steps := s.rd F.TM_TD_STAT_STEPS 0
                         flags := s.ttFlags e } }
    if 16 ≤ u then s
    else
      s.modSource (e + 2) fun x =>
        { x with departures := ((seq, dep.units, before (decide (s.now < p.steppedAt + 128))) :: x.departures).take 16
                 arrivals := match arrival with
                   | some (q, t) => ((q, t.units, before (decide (t.units * 65536 < p.stepTb))) :: x.arrivals).take 16
                   | none => x.arrivals }

/-- The asymmetry of SINGLE in units of 2⁻¹⁶ ns: CD_avg × (λ_in − λ_out), λ = 299,792,458,000 / f nm (R386). -/
def singleAlpha (cdAvg2 fIn fOut : Int) : Int := cdAvg2 * 299792458000 * (fOut - fIn) * 65536 / (2000 * (fIn * fOut))

/-- The asymmetry an engine uses, TM_TS_ADJ included, in units of 2⁻¹⁶ ns (R386). -/
def State.alphaOf (s : State) (e : Nat) (tt : TtContent) : Int :=
  let base : Int := match s.cfg F.TM_TS_CFG_ASYM (e + 2) with
    | 1 =>
      if tt.freq == 0 || s.rd F.LE_LASER_FREQ e == 0 then 0
      else singleAlpha (signed 32 (s.rd F.LE_CD_CD e) + signed 32 tt.cd) tt.freq (s.rd F.LE_LASER_FREQ e)
    | 2 => match (s.timeSource (e + 2)).alphaAcc with | some (a, _) => a / 2 ^ 20 | none => 0
    | _ => 0
  base + s.adjUnits (e + 2)

/-- One exchange averaged in with a time constant of 1,000 s, 1,220,703 exchanges (R388). -/
def average (acc : Option (Int × Int)) (alpha d : Int) : Option (Int × Int) :=
  match acc with
  | none => some (alpha * 2 ^ 20, d * 2 ^ 20)
  | some (a, m) => some (a + (alpha * 2 ^ 20 - a) / 1220703, m + (d * 2 ^ 20 - m) / 1220703)

/-- The length from the round trip, in 0.01 km: d_mean, in units of 2⁻¹⁶ ns, by MS_LEN.GDLY, rounded to the nearest (R401, R402);
GDLY = 0 leaves it open. -/
def State.publishLength (s : State) (e : Nat) (dMean : Int) : State :=
  let g : Int := s.cfg F.MS_LEN_GDLY e
  if g == 0 then (s.wr F.MS_QVAL_VAL (16 * e + 14) s.drawn).draw
  else
    let v := clampInt 0 1000000 ((dMean * 100 + g * 32768) / (g * 65536))
    s.wr F.MS_QVAL_VAL (16 * e + 14) (unsigned 32 v)

/-- The exchange that accepted TT content completes (R384 to R388). -/
def State.exchange (s : State) (e : Nat) (tt : TtContent) : State :=
  let i := e + 2
  let x := s.timeSource i
  match x.arrivals.find? (·.1 == tt.seq), x.departures.find? (·.1 == tt.arrSeq) with
  | some (_, t2, n2), some (_, t3, n3) =>
    let s := s.modSource i fun x => { x with heardAt := some s.now, flags := tt.flags }
    if tt.flags.testBit 2 || n2 != s.timePll.steps || n3 != s.timePll.steps then s
    else
      let raw := (t2 - tt.dep.units) - (tt.arr.units - t3)
      let dMean := ((t2 - tt.dep.units) + (tt.arr.units - t3)) / 2
      let learns := s.cfg F.TM_TS_CFG_ASYM i == 2 && s.trustedTime e && tt.flags.testBit 0
      let s := if learns then
          s.modSource i fun x => { x with alphaAcc := average x.alphaAcc raw dMean, learnTicks := x.learnTicks + 256 } else s
      let alpha := s.alphaOf e tt
      let s := s.modSource i fun x => { x with theta := (raw - alpha) / 2 }
      let s := (s.wr F.TM_TS_DLY_VAL i (unsigned 32 (dMean / 4096))).wr F.TM_TS_ASYM_VAL i (unsigned 32 (alpha / 256))
      let s := s.publishLength e dMean
      match (s.timeSource i).alphaAcc with
      | some (_, m) =>
        let stale := s.cfg F.TM_TS_CFG_ASYM i == 2 && decide (s.cfg F.TM_TS_CFG_LIMIT i * 10 * 65536 < (dMean - m / 2 ^ 20).natAbs)
        let was := s.on F.TM_TS_STAT_STALE i
        let s := s.wrBool F.TM_TS_STAT_STALE i stale
        (if stale then s.wr F.TM_TS_STAT_QUAL i 0 else s).raiseIf (stale && !was) F.TM_STICKY_ASYM_STALE 0
      | none => s
  | _, _ => s

/-- TT_ACCEPT: TT content whose TTCRC passes in 3 consecutive frames (R206). -/
def State.ttAccept (s : State) (u : Nat) : State :=
  let x := s.lineFrame u
  if x.ttRun < 3 || x.ttRx == x.ttAcc then s
  else
    let s := s.modFrame u fun x => { x with ttAcc := x.ttRx }
    if u < 16 then s.exchange u x.ttRx else s

/-- ASYM_LEARNED: 1,000 s of learning (R388). -/
def State.asymLearned (s : State) (e : Nat) : State :=
  if 312500000 ≤ (s.timeSource (e + 2)).learnTicks then s.wr F.TM_TS_STAT_LEARNED (e + 2) 1 else s

/-- TM_TS_CFG.LEARN: what was learned is discarded (R388). -/
def State.learnAgain (s : State) (i : Nat) : State :=
  ((s.modSource i fun x => { x with alphaAcc := none, learnTicks := 0 }).wr F.TM_TS_STAT_LEARNED i 0).wr F.TM_TS_STAT_STALE i 0

/-! ### Invar (R391) -/

/-- INVAR_LEARNED: 24 h of LOCKED time since the last reset of the model (R391). -/
def State.invarLearned (s : State) : State :=
  if 27000000000 ≤ s.timePll.learned then s.wr F.TM_INV_STAT_LSTATE 0 2 else s

/-- The model is discarded (R391). -/
def State.resetModel (s : State) : State :=
  ((s.modTime fun x => { x with learned := 0 }).wr F.TM_INV_STAT_LSTATE 0 0).wr F.TM_INV_STAT_HOURS 0 0

/-- INV_TEMP_STALE: a software temperature older than 2 s (R391). -/
def State.tempStale (s : State) : State :=
  if s.cfgOn F.TM_INV_CTRL_TSW 0 && !s.timePll.tempStale && s.elapsed s.timePll.tempAt 625001 then
    (s.modTime fun x => { x with tempStale := true }).raise F.TM_STICKY_INV_TEMP_STALE 0
  else s

/-! ### The commands -/

/-- Meaning of REF_LOS. -/
def execRefLos (r : Fin 9) (s : State) : Host.Outcome State Fault Refusal := .next (s.refLos r.val)

/-- Meaning of REF_FREQ_WINDOW. -/
def execRefFreqWindow (r : Fin 9) (offset : Int) (s : State) : Host.Outcome State Fault Refusal := .next (s.refWindow r.val offset)

/-- Meaning of REF_QUALIFY. -/
def execRefQualify (r : Fin 9) (s : State) : Host.Outcome State Fault Refusal := .next (s.refQualify r.val)

/-- Meaning of DPLL_LOCKED. -/
def execDpllLocked (output : Bool) (ticks : Nat) (s : State) : Host.Outcome State Fault Refusal := .next (s.dpllLocked output ticks)

/-- Meaning of TIME_DECISION. -/
def execTimeDecision (offsets : List (Fin 13 × Int)) (rate : Int) (s : State) : Host.Outcome State Fault Refusal :=
  .next (s.timeDecision (offsets.map fun o => (o.1.val, o.2)) rate)

/-- Meaning of TIME_LOCKED. -/
def execTimeLocked (s : State) : Host.Outcome State Fault Refusal := .next s.timeLocked

/-- Meaning of TICK_IN_EDGE. -/
def execTickInEdge (phase : Int) (s : State) : Host.Outcome State Fault Refusal := .next (s.tickInEdge phase)

/-- Meaning of PPS_EDGE. -/
def execPpsEdge (i : Fin 2) (stamp : Stamp) (s : State) : Host.Outcome State Fault Refusal := .next (s.ppsEdge i.val stamp)

/-- Meaning of PPS_MISS. -/
def execPpsMiss (i : Fin 2) (s : State) : Host.Outcome State Fault Refusal := .next (s.ppsMiss i.val)

/-- Meaning of TOD_MESSAGE. -/
def execTodMessage (bytes : List Byte) (s : State) : Host.Outcome State Fault Refusal := .next (s.todMessage bytes)

/-- Meaning of TOD_TX_SEND. -/
def execTodTxSend (s : State) : Host.Outcome State Fault Refusal := .next s.todSend

/-- Meaning of PPS_OUT_EDGE. -/
def execPpsOutEdge (s : State) : Host.Outcome State Fault Refusal := .next s.ppsOutEdge

/-- Meaning of ASYM_LEARNED. -/
def execAsymLearned (e : Fin 8) (s : State) : Host.Outcome State Fault Refusal := .next (s.asymLearned e.val)

/-- Meaning of TS_LEARN. -/
def execTsLearn (m : Initiator) (s : State) : Host.Outcome State Fault Refusal :=
  let i := s.rd F.TM_TSEL_SRC m.copy
  .next (s.write m 0x27000044 (.tsLearn i) fun t => t.learnAgain i)

/-- Meaning of SW_OFS_WRITE: one measurement at the next boundary. -/
def execSwOfsWrite (m : Initiator) (v : Word) (s : State) : Host.Outcome State Fault Refusal :=
  .next (s.write m 0x27000068 (.swOfs v) fun t => t.later (.swOfs v))

/-- Meaning of SW_SOURCE_TIMEOUT. -/
def execSwSourceTimeout (s : State) : Host.Outcome State Fault Refusal := .next s.swTimeout

/-- Meaning of INVAR_LEARNED. -/
def execInvarLearned (s : State) : Host.Outcome State Fault Refusal := .next s.invarLearned

/-- Meaning of INVAR_RESET_MODEL. -/
def execInvarResetModel (m : Initiator) (s : State) : Host.Outcome State Fault Refusal :=
  .next (s.write m 0x27000090 .resetModel fun t => t.resetModel)

/-- Meaning of INV_TEMP_STALE. -/
def execInvTempStale (s : State) : Host.Outcome State Fault Refusal := .next s.tempStale

/-- Meaning of TT_LOAD. -/
def execTtLoad (u : RxUnit) (dep : Stamp) (arrival : Option (Nat × Stamp)) (s : State) : Host.Outcome State Fault Refusal :=
  .next (s.atUnit u.val (State.ttLoad · u.val dep arrival))

/-- Meaning of TT_ACCEPT. -/
def execTtAccept (u : RxUnit) (s : State) : Host.Outcome State Fault Refusal := .next (s.atUnit u.val (State.ttAccept · u.val))

/-- Meaning of TM_TB0_READ (R399). -/
def execTmTb0Read (m : Initiator) (s : State) : Host.Outcome State Fault Refusal :=
  let t := s.tbStamp
  let n := s.tick.toNat
  let s := (s.wr F.TM_TB1_TB m.copy (n / 2 ^ 32 * 65536 + t.sec / 2 ^ 32 % 65536)).wr F.TM_TB2_TB m.copy t.sec
  .next (((s.wr F.TM_TB3_TB m.copy t.ns).wr F.TM_TB4_TB m.copy t.frac).replyWord m n)

end Sys2Proof.Machine
end

