-- ==== Sys2Proof/Machine/Memories.lean ====
section
/-! DEFINITION. On-chip memories and the Anchorage (15_memories.md): accesses with ECC and port collisions, repair, scrub and march
test, regions and their protection. -/

namespace Sys2Proof.Machine

/-! ### Words and ECC (R483, R488, R489) -/

/-- The word of 128 bits at an address. -/
def Mem.readWide (m : Mem) (a : Nat) : BitVec 128 := BitVec.ofNat 128 (Mem.toNatLE (Mem.readBytes m a 16))

/-- A word with the bytes whose strobes are set replaced. -/
def mergeStrobes (strobes : BitVec 16) (old new : BitVec 128) : BitVec 128 :=
  let mask : BitVec 128 := (List.range 16).foldl
    (fun acc i => if strobes.getLsbD i then acc ||| (BitVec.ofNat 128 255 <<< (8 * i)) else acc) 0
  (old &&& ~~~ mask) ||| (new &&& mask)

/-- The word an address lies in. -/
def wordAddr (a : Nat) : Nat := a / 16 * 16

/-- Class of MM_ECC_SEL for a bus address: boot ROM, working SRAM, scratchpad. -/
def eccClass (addr : Nat) : Nat := if addr < 0x11000000 then 0 else if addr < 0x12000000 then 1 else 2

/-- A corrected error is counted (R488, R507). -/
def State.eccCorr (s : State) (cls : Nat) : State :=
  let s := s.incWrap F.MM_ECC_CNT_CORR cls 1
  if cls ≤ 3 then s.raise F.MM_STICKY_SRAM_CORR 0 else s.raise F.MM_STICKY_ANC_CORR 0

/-- An uncorrectable error is counted and its address recorded (R489, R490, R507); in an unwritten block it is counted only
(R508). -/
def State.eccUncorr (s : State) (cls addr : Nat) : State :=
  let s := s.incWrap F.MM_ECC_CNT_UNCORR cls 1
  if 6 ≤ cls then s
  else
    let s := { s.wr F.MM_ECC_ADDR_LO_ADDR_LO 0 addr with eccHigh := cls * 2 ^ 29 + addr / 2 ^ 32 % 1024 }
    if cls ≤ 3 then s.raise F.MM_STICKY_SRAM_UNCORR 0 else s.raise F.MM_STICKY_ANC_UNCORR 0

/-- The state once a value of `n` bits has been drawn. -/
def State.drawBits (s : State) (n : Nat) : Nat × State := (s.drawn % 2 ^ n, s.draw)

/-! ### March test (R494 to R497) -/

/-- Two ranges of addresses overlap. -/
def overlaps (a n b m : Nat) : Bool := decide (0 < n) && decide (0 < m) && decide (a < b + m) && decide (b < a + n)

/-- The engine may borrow a region (R496): no NO_BORROW range, no record ring, no dump list, no live or requested schedule bank. -/
def State.borrowable (s : State) (page : Nat) : Bool :=
  let a := pageAddr page
  (List.range 16).all (fun r => !overlaps a 4096 (s.rd F.MM_NB_BASE_BASE r * 4096) (min (s.rd F.MM_NB_SIZE_PAGES r) 2560 * 4096)) &&
    !overlaps a 4096 0x12780000 0x10000 &&
    (List.range 4).all (fun r => !overlaps a 4096 (s.rd F.PC_DUMP_LIST_ADDR r) (4 * min (s.rd F.PC_DUMP_CFG_L r) 1024)) &&
    (List.range 8).all fun e => !s.inHub e || [0, 1].all fun bank =>
      let (_, len, addr) := s.bankOf e bank
      !((s.rd F.TD_GS_CTRL_ACTIVE e == bank || s.rd F.TD_GS_CTRL_BANK e == bank) &&
        overlaps a 4096 (0x12000000 + 32 * addr) (4 * len))

/-- The march test holds something else. -/
def State.modMarch (s : State) (f : March → March) : State := { s with march := f s.march }

/-- A region is restored from the shadow and released. -/
def State.release (s : State) : State := (s.modMarch fun x => { x with borrowed := none }).wr F.MM_BT_STAT_BORROWED 0 0

/-- A pass ends once every region is tested or skipped. -/
def State.passEnds (s : State) : State :=
  if 2560 ≤ s.march.next && s.march.yielded.isEmpty && s.march.borrowed.isNone then
    (s.modMarch fun _ => {}).incWrap F.MM_BT_STAT_PASSES 0 1
  else s

/-- Background tests run: not in BOOT (R497), and in TEST only as the TS block directs. -/
def State.backgroundRuns (s : State) : Bool := s.devState != .boot && s.devState != .test

/-- A region is borrowed. -/
def State.borrow (s : State) (page : Nat) : State :=
  (s.modMarch fun x => { x with borrowed := some page }).wr F.MM_BT_STAT_BORROWED 0 1

/-- MARCH_REGION (R494): the next region is borrowed, or the test of the borrowed one ends. -/
def State.marchRegion (s : State) (page : Nat) (ev : MarchEvent) : State :=
  match ev with
  | .borrow =>
    if !s.on F.MM_BT_CFG_MARCH_EN 0 || !s.backgroundRuns || s.march.borrowed.isSome || s.march.next != page then s
    else
      let s := s.modMarch fun x => { x with next := page + 1 }
      if s.borrowable page then s.borrow page else s.passEnds
  | .finish fail =>
    if s.march.borrowed != some page then s
    else
      let s := (s.release).modMarch fun x => { x with yielded := x.yielded.filter (·.1 != page) }
      let s := match fail with
        | some (mac, col) =>
          (((s.wr F.MM_BT_FAIL_VALID 0 1).wr F.MM_BT_FAIL_MACRO 0 mac.val).wr F.MM_BT_FAIL_COL 0 col.val).raise
            F.MM_STICKY_BT_FAIL 0
        | none => s
      s.passEnds

/-- An access touches a page: a borrowed region is restored and yields; after its fourth yield the pass skips it (R495). -/
def State.touch (s : State) (addr : Nat) : State :=
  match s.march.borrowed, marchPage addr with
  | some b, some page =>
    if b != page then s
    else
      let n := ((s.march.yielded.find? (·.1 == page)).map (·.2.1)).getD 0 + 1
      let s := (s.release).incWrap F.MM_BT_STAT_YIELDS 0 1
      let s := s.modMarch fun x => { x with yielded := x.yielded.filter (·.1 != page) }
      if 4 ≤ n then ((s.incWrap F.MM_BT_STAT_SKIPS 0 1).raise F.MM_STICKY_BT_SKIP 0).passEnds
      else s.modMarch fun x => { x with yielded := x.yielded ++ [(page, n, s.now)] }
  | _, _ => s

/-- MARCH_RETRY: a region that yielded is tried again, no sooner than 65,536 bus cycles later: 21 boundaries (R495). -/
def State.marchRetry (s : State) (page : Nat) : State :=
  match s.march.yielded.find? (·.1 == page) with
  | some (_, _, since) =>
    if !s.on F.MM_BT_CFG_MARCH_EN 0 || !s.backgroundRuns || s.march.borrowed.isSome || !s.elapsed since 21 then s
    else if s.borrowable page then s.borrow page
    else (s.modMarch fun x => { x with yielded := x.yielded.filter (·.1 != page) }).passEnds
  | none => s

/-- SRSTn stops the engine: a borrowed region is restored and will be tried again (R497). -/
def State.marchStop (s : State) : State :=
  match s.march.borrowed with
  | some page =>
    let n := ((s.march.yielded.find? (·.1 == page)).map (·.2.1)).getD 0
    (s.release).modMarch fun x => { x with yielded := x.yielded.filter (·.1 != page) ++ [(page, n, s.now)] }
  | none => s

/-! ### Accesses to the SRAMs (R483 to R489) -/

/-- How two accesses of one word in overlapping windows end (the table of R486): whether port A's access is performed, the word
afterwards, and whether port B repeats its access. -/
def collide (writeA : Bool) (old new : BitVec 128) (b : PortB) : Bool × BitVec 128 × Bool :=
  match writeA, b.write with
  | false, false => (true, old, false)
  | true, true => (decide (new = b.data), b.data, false)
  | false, true => (false, b.data, !b.earlier)
  | true, false => if b.earlier then (false, old, true) else (true, new, true)

/-- What an access of a word leaves before it reads or writes: the sweep's mark, an error of the array, a corrected error counted. -/
def State.sramSeen (s : State) (reads : Bool) (addr : Nat) (ecc : Ecc) : State :=
  let w := wordAddr addr
  let s := s.touch addr
  let s := if ecc == .double && !s.badWords.contains (w / 16) then { s with badWords := s.badWords ++ [w / 16] } else s
  if ecc == .single && reads && !s.badWords.contains (w / 16) then s.eccCorr (eccClass addr) else s

/-- The word as it stands: of one that is lost, an open value. -/
def State.sramOld (s : State) (lost : Bool) (w : Nat) : BitVec 128 × State :=
  if lost then (BitVec.ofNat 128 (s.drawBits 128).1, (s.drawBits 128).2) else (Mem.readWide s.mem w, s)

/-- How a beat fares beside port B: done or not, the word after it, and port B busy. -/
def portOutcome (write : Bool) (cls : Nat) (b : Beat) (old : BitVec 128) : Bool × BitVec 128 × Bool :=
  let new := mergeStrobes b.strobes old b.data
  match b.portB with
  | some p => if cls == 2 then collide write old new p else (true, if write then new else old, false)
  | none => (true, if write then new else old, false)

/-- Port B writes the word of this beat. -/
def Beat.portWrites (b : Beat) (cls : Nat) : Bool := match b.portB with | some p => p.write && cls == 2 | none => false

/-- The word after the beat, with the count of a busy port B. -/
def State.sramPut (s : State) (written busyB : Bool) (w : Nat) (word : BitVec 128) : State :=
  let s := if busyB then s.incWrap F.MM_BUSY_B 0 1 else s
  if written then s.sramWord w (Mem.ofNatLE 16 word.toNat) else s

/-- The beat ends. -/
def State.sramEnd (s : State) (write bad : Bool) (cls w : Nat) (b : Beat) (old : BitVec 128) : BeatEnd × State :=
  let c := portOutcome write cls b old
  let s := s.sramPut ((write && c.1) || b.portWrites cls) c.2.2 w c.2.1
  if !c.1 then (.busy, s.incWrap F.MM_BUSY_A 0 1)
  else if !write && bad then (.error .target, s.eccUncorr cls w)
  else (.ok (if write then 0 else old), s)

/-- One beat at a word of an SRAM or the boot ROM. -/
def State.sramBeat (s : State) (write : Bool) (addr : Nat) (b : Beat) : BeatEnd × State :=
  let w := wordAddr addr
  let cls := eccClass addr
  let partialWrite := write && b.strobes != 0xFFFF
  let s := s.sramSeen (!write || partialWrite) addr b.ecc
  let bad := s.badWords.contains (w / 16)
  if cls == 0 then
    if write then (.error .target, s)
    else if bad then (.error .target, s.eccUncorr cls w)
    else (.ok (Config.bootRom (w % 0x40000 / 16)), s)
  else
    let r := s.sramOld (bad && partialWrite) w
    r.2.sramEnd write bad cls w b r.1

/-- A beat's end is reported to its master as R513 and R523 say. -/
def State.beatEnds (s : State) (m : Initiator) (b : Burst) (addr : Nat) (e : BeatEnd) : State :=
  let s := match e with
    | .ok _ => s
    | .error c => s.busError m b.write addr c
    | .busy => s.busBusy m b.write addr
  if b.fetch && (match e with | .ok _ => false | _ => true) then s.accessFault m 1 addr else s

/-- The address of each beat of a burst: the first where the burst starts, each further one at the next word (R516). -/
def beatAddr (addr i : Nat) : Nat := if i == 0 then addr else wordAddr addr + 16 * i

/-- A burst runs beat by beat through `one`, and its master is answered. -/
def State.burst (s : State) (m : Initiator) (b : Burst) (one : State → Nat → Beat → BeatEnd × State) : State :=
  let run := ((b.beats.take 16).zipIdx).foldl
    (fun (acc : List BeatEnd × State) (bi : Beat × Nat) =>
      let addr := beatAddr b.addr bi.2
      let (e, s) := one acc.2 addr bi.1
      (acc.1 ++ [e], s.beatEnds m b addr e)) ([], s)
  run.2.reply m (.beats run.1)

/-- The memory target of a bus address: 0 boot ROM, 1 working SRAM, 2 scratchpad (R483). -/
def memTarget (addr : Nat) : Option Nat :=
  if 0x10000000 ≤ addr && addr < 0x10040000 then some 0
  else if 0x11000000 ≤ addr && addr < 0x11200000 then some 1
  else if 0x12000000 ≤ addr && addr < 0x12800000 then some 2
  else none

/-- What the remappable slot maps an address to (R518). -/
def State.remap (s : State) (addr : Nat) : Nat :=
  if addr < 0x40000 then (if s.on F.SY_REMAP_BOOTSWAP 0 then 0x11000000 else 0x10000000) + addr else addr

/-- One beat at the memories: a beat outside the target of the burst's first beat receives SPAN (R516). -/
def State.memBeat (s : State) (b : Burst) (addr : Nat) (x : Beat) : BeatEnd × State :=
  let a := s.remap addr
  match memTarget a, memTarget (s.remap b.addr) with
  | none, none => (.error .default, s)
  | t, t0 => if t != t0 then (.error .span, s) else s.sramBeat b.write a x

/-- SCRATCHPAD_ACCESS and WORKING_SRAM_ACCESS: a burst to the on-chip memories. -/
def State.memAccess (s : State) (m : Initiator) (b : Burst) : State := s.burst m b fun s a x => s.memBeat b a x

/-! ### The Anchorage (R498 to R509) -/

/-- Capacity of the deep hold (R498, R500). -/
def State.deepSize (s : State) : Nat :=
  if s.on F.MM_ANC_STAT_DDR_OK 0 then
    s.rd F.MM_ANC_STAT_DDR_CH 0 * (match s.rd F.MM_ANC_STAT_DIMM 0 with | 1 => 32 | 2 => 64 | 3 => 128 | 4 => 256 | _ => 0) * 2 ^ 30
  else 0

/-- Capacity of the near hold (R498). -/
def State.nearSize (s : State) : Nat := if s.on F.MM_ANC_STAT_HBM_OK 0 then s.rd F.MM_ANC_STAT_NEAR_GB 0 * 2 ^ 30 else 0

/-- Where the deep hold starts (R498). -/
def deepBase : Nat := 0x20000000000

/-- An Anchorage address lies in an installed hold. -/
def State.ancExists (s : State) (a : Nat) : Bool :=
  decide (a < s.nearSize) || (decide (deepBase ≤ a) && decide (a < deepBase + s.deepSize))

/-- The region an Anchorage address lies in (R502). -/
def State.regionAt (s : State) (a : Nat) : Option RegionRec :=
  s.image.anchorage.find? fun r => decide (r.base ≤ a) && decide (a < r.base + r.size)

/-- The region of a kind that an owner has (R502). -/
def State.regionOf (s : State) (kind owner : Nat) : Option RegionRec :=
  s.image.anchorage.find? fun r => r.kind == kind && r.owner == owner

/-- The size of a slot of a capture region: the region by the number of slots, rounded down to 4 KiB (R405). -/
def slotSize (size slots : Nat) : Nat := size / slots / 4096 * 4096

/-- A bus write to an Anchorage address is refused (R503, R564). -/
def State.ancProtected (s : State) (a : Nat) : Bool :=
  match s.regionAt a with
  | some r =>
    if r.kind == 1 || r.kind == 2 then true
    else if r.kind == 3 then
      let x := s.capture r.owner
      let i := (a - r.base) / max 1 (slotSize r.size x.slots)
      !x.done.contains i
    else if r.kind == 4 then s.rd F.SV_CFG_ROLE r.owner == 2
    else if r.kind == 8 then decide (a < r.base + 2 ^ 23)
    else false
  | none => false

/-- The bytes of the Anchorage, with those from an address on replaced. -/
def Mem.keep (m : Mem) (a : Nat) : List Byte → Mem
  | [] => m
  | b :: t => Mem.keep (Mem.place (Mem.drop m a) a b) (a + 1) t

/-- Bytes are written to the Anchorage: the written bits of their blocks are set (R508). -/
def State.ancWrite (s : State) (a : Nat) (bytes : List Byte) : State :=
  let blocks := [a / 2 ^ 20, (a + bytes.length - 1) / 2 ^ 20].filter fun k => !s.written.contains k
  { s with anc := Mem.keep s.anc a bytes, written := s.written ++ blocks.eraseDups,
           ancBad := s.ancBad.filter fun l => !(decide (a ≤ 64 * l) && decide (64 * l + 64 ≤ a + bytes.length)) }

/-- What a byte of the Anchorage reads as: undefined until it is written (R508). -/
def State.ancByte (s : State) (a : Nat) : Byte × State :=
  match Mem.find s.anc a with
  | some v => (v, s)
  | none =>
    let (v, s) := s.drawBits 8
    (BitVec.ofNat 8 v, s)

/-- Bytes read from the Anchorage. -/
def State.ancRead (s : State) (a : Nat) : Nat → List Byte × State
  | 0 => ([], s)
  | n + 1 =>
    let (b, s) := s.ancByte a
    let (t, s) := State.ancRead s (a + 1) n
    (b :: t, s)

/-- Bytes of a range of the Anchorage are overwritten with content the model does not follow: samples, stores, tables. -/
def State.ancForget (s : State) (a n : Nat) : State :=
  { s with anc := s.anc.filter fun c => !(decide (a ≤ c.1) && decide (c.1 < a + n)) }

/-- A datapath user has written whole lines of a range: the written bits of its blocks are set (R508). -/
def State.ancTouch (s : State) (a n : Nat) : State :=
  let blocks := ((List.range ((a + n) / 2 ^ 20 - a / 2 ^ 20 + 1)).map (a / 2 ^ 20 + ·)).filter fun k => !s.written.contains k
  { s with written := s.written ++ blocks, ancBad := s.ancBad.filter fun l => !(decide (a ≤ 64 * l) && decide (64 * l < a + n)) }

/-- The ECC class of an Anchorage access: Near or Deep Hold, written or not (R507, R508). -/
def State.ancClass (s : State) (w a : Nat) : Nat := (if s.written.contains (w / 2 ^ 20) then 4 else 6) + (if a < deepBase then 0 else 1)

/-- What an access of the Anchorage leaves before it reads or writes: an error of the line, a corrected error counted. -/
def State.ancSeen (s : State) (reads : Bool) (w cls : Nat) (ecc : Ecc) : State :=
  let s := if ecc == .double && reads && !s.ancBad.contains (w / 64) then { s with ancBad := s.ancBad ++ [w / 64] } else s
  if ecc == .single && reads && s.written.contains (w / 2 ^ 20) then s.eccCorr cls else s

/-- The old bytes of an Anchorage word, where a write replaces only some of them. -/
def State.ancOld (s : State) (whole : Bool) (w : Nat) : List Byte × State := if whole then ([], s) else s.ancRead w 16

/-- An Anchorage beat ends: the line is written, lost or read. -/
def State.ancEnd (s : State) (write : Bool) (cls w : Nat) (b : Beat) : BeatEnd × State :=
  if write then
    let r := s.ancOld (b.strobes == 0xFFFF) w
    (.ok 0, r.2.ancWrite w (Mem.ofNatLE 16 (mergeStrobes b.strobes (BitVec.ofNat 128 (Mem.toNatLE r.1)) b.data).toNat))
  else if s.ancBad.contains (w / 64) then (.error .target, s.eccUncorr cls w)
  else (.ok (BitVec.ofNat 128 (Mem.toNatLE (s.ancRead w 16).1)), (s.ancRead w 16).2)

/-- One beat at the Anchorage (R499, R503, R507, R508). -/
def State.ancBeat (s : State) (write : Bool) (a : Nat) (b : Beat) : BeatEnd × State :=
  let w := wordAddr a
  if !s.ancExists a then (.error .default, s)
  else if write && s.ancProtected w then (.error .target, s.raise F.MM_STICKY_PROT_WR 0)
  else (s.ancSeen (!write || b.strobes != 0xFFFF) w (s.ancClass w a) b.ecc).ancEnd write (s.ancClass w a) w b

/-- The Anchorage address behind a bus address of the aperture, for a master (R499). -/
def State.apertureAddr (s : State) (m : Initiator) (a : Nat) : Nat :=
  s.rd F.MM_APERTURE_PAGE m.copy * 2 ^ 30 + (a - 0x40000000)

/-- A burst through the aperture or BAR2 (R499): in the aperture the beat's bus address must stay in the window (R516). -/
def State.ancAccess (s : State) (m : Initiator) (bar2 : Bool) (b : Burst) : State :=
  s.burst m b fun s a x =>
    if bar2 then s.ancBeat b.write (s.rd F.MM_BAR2_PAGE 0 * 2 ^ 32 + a % 2 ^ 32) x
    else if a < 0x40000000 || 0x80000000 ≤ a then (.error (if 0x40000000 ≤ b.addr && b.addr < 0x80000000 then .span else .default), s)
    else s.ancBeat b.write (s.apertureAddr m a) x

/-! ### Scrub (R493) -/

/-- SCRUB_READ: a single-bit error is corrected, an uncorrectable one counted; a word that another user has just written is left
alone; unwritten blocks are skipped (R488, R493, R508). -/
def State.scrubRead (s : State) (w : ScrubWord) (ecc : Ecc) (overwritten : Bool) : State :=
  if !s.on F.MM_BT_CFG_SCRUB_EN 0 || !s.backgroundRuns then s
  else
    match w with
    | .word addr =>
      match memTarget addr with
      | none => s
      | some cls =>
        let word := wordAddr addr / 16
        let bad := (ecc == .double || s.badWords.contains word) && !overwritten
        if bad then
          let s := if s.badWords.contains word then s else { s with badWords := s.badWords ++ [word] }
          s.eccUncorr cls (16 * word)
        else if ecc == .single then s.eccCorr cls else s
    | .datapath mac =>
      match ecc with
      | .clean => s
      | .single => s.eccCorr 3
      | .double => s.eccUncorr 3 mac.val
    | .line addr =>
      if !s.ancExists addr || !s.written.contains (addr / 2 ^ 20) then s
      else
        let cls := if addr < deepBase then 4 else 5
        match ecc with
        | .clean => s
        | .single => s.eccCorr cls
        | .double =>
          let line := addr / 64
          let s := if overwritten || s.ancBad.contains line then s else { s with ancBad := s.ancBad ++ [line] }
          s.eccUncorr cls (64 * line)

/-! ### Repair (R491, R492) -/

/-- Memory class of a macro that exists (R491): 1 working SRAM, 2 scratchpad, others as silicon has them. -/
def macroClass (mac : Nat) : Option Nat := if mac < 16 then some 1 else if mac < 80 then some 2 else Config.datapathClass mac

/-- Field columns of a macro that remain (R491, R492): each repair programmed, or torn, uses one. -/
def State.macroLeft (s : State) (mac : Nat) : Nat := 2 - ([0, 1].filter fun k => s.repairOf mac k != 0).length

/-- MM_MACRO of a macro; 0 where it does not exist. -/
def State.macroInfo (s : State) (mac : Nat) : Nat :=
  match macroClass mac with
  | some c => 2 ^ 31 + c % 8 * 2 ^ 28 + s.macroLeft mac * 2 ^ 26 + Config.macroTop mac % 1024
  | none => 0

/-- MM_REP_CTRL with PROGRAM = 1 (R492). -/
def State.repairProgram (s : State) (v : Word) : State :=
  let mac := F.MM_REP_CTRL_MACRO.get v
  let col := F.MM_REP_CTRL_COL.get v
  let result (n : Nat) : State := s.wr F.MM_REP_STAT_RESULT 0 n
  let fails (n : Nat) : State := (result n).raise F.MM_STICKY_REPAIR_DONE 0
  if s.on F.MM_REP_STAT_BUSY 0 then fails 6
  else if !s.on F.MM_REP_STAT_VFUSE_OK 0 then fails 2
  else if (macroClass mac).isNone then fails 4
  else if Config.macroTop mac % 1024 < col then fails 5
  else if s.macroLeft mac == 0 then fails 3
  else { (s.wr F.MM_REP_STAT_RESULT 0 0).wr F.MM_REP_STAT_BUSY 0 1 with repairColumn := some (mac, col) }

/-- REPAIR_DONE: the programming ends with its result; VFUSE must have stayed within limits (R492, R623). -/
def State.repairDone (s : State) (vfuse verified : Bool) : State :=
  match s.repairColumn with
  | none => s
  | some (mac, col) =>
    let s := { s.wr F.MM_REP_STAT_BUSY 0 0 with repairColumn := none }
    let s := s.wr F.MM_REP_STAT_RESULT 0 (if !vfuse then 2 else if verified then 1 else 7)
    let s := if vfuse && verified then
        s.setRepairOf mac (2 - s.macroLeft mac) (col + 1)
      else s
    s.raise F.MM_STICKY_REPAIR_DONE 0

/-! ### The commands -/

/-- Meaning of SCRATCHPAD_ACCESS. -/
def execScratchpadAccess (m : Initiator) (b : Burst) (s : State) : Host.Outcome State Fault Refusal := .next (s.memAccess m b)

/-- Meaning of WORKING_SRAM_ACCESS. -/
def execWorkingSramAccess (m : Initiator) (b : Burst) (s : State) : Host.Outcome State Fault Refusal := .next (s.memAccess m b)

/-- Meaning of ANCHORAGE_ACCESS. -/
def execAnchorageAccess (m : Initiator) (bar2 : Bool) (b : Burst) (s : State) : Host.Outcome State Fault Refusal :=
  .next (s.ancAccess m bar2 b)

/-- Meaning of REPAIR_PROGRAM: masters 0 and 1 and machine mode only (R492). -/
def execRepairProgram (m : Initiator) (v : Word) (s : State) : Host.Outcome State Fault Refusal :=
  .next (if m.trusted then ((s.setReg .MM_REP_CTRL 0 (v &&& 0x0FFF03FF#32)).repairProgram v).reply m (.ok 0)
    else s.busError m true 0x2A000050 .priv)

/-- Meaning of REPAIR_DONE. -/
def execRepairDone (vfuse verified : Bool) (s : State) : Host.Outcome State Fault Refusal := .next (s.repairDone vfuse verified)

/-- Meaning of SCRUB_READ. -/
def execScrubRead (w : ScrubWord) (ecc : Ecc) (overwritten : Bool) (s : State) : Host.Outcome State Fault Refusal :=
  .next (s.scrubRead w ecc overwritten)

/-- Meaning of MARCH_REGION. -/
def execMarchRegion (page : Fin 2560) (ev : MarchEvent) (s : State) : Host.Outcome State Fault Refusal :=
  .next (s.marchRegion page.val ev)

/-- Meaning of BORROW_TOUCH: the region is restored, and a master's stalled access is then performed (R495). -/
def execBorrowTouch (user : Option Initiator) (b : Burst) (s : State) : Host.Outcome State Fault Refusal :=
  .next (match user with | some m => s.memAccess m b | none => s.touch (s.remap b.addr))

/-- Meaning of MARCH_RETRY. -/
def execMarchRetry (page : Fin 2560) (s : State) : Host.Outcome State Fault Refusal := .next (s.marchRetry page.val)

/-- Meaning of MM_NB_WRITE: a region borrowed now stays borrowed until it is restored (R496); user mode may not write (R525). -/
def execMmNbWrite (m : Initiator) (size : Bool) (v : Word) (s : State) : Host.Outcome State Fault Refusal :=
  let r := s.rd F.MM_NB_SEL_RANGE m.copy
  .next (if m.isUser then s.busError m true (if size then 0x2A000028 else 0x2A000024) .priv
    else (s.setReg (if size then .MM_NB_SIZE else .MM_NB_BASE) r v).reply m (.ok 0))

/-- Meaning of MM_ECC_ADDR_LO_READ: the high half is latched for the master (R510). -/
def execMmEccAddrLoRead (m : Initiator) (s : State) : Host.Outcome State Fault Refusal :=
  .next ((s.setReg .MM_ECC_ADDR_HI m.copy (BitVec.ofNat 32 s.eccHigh)).replyWord m (s.rd F.MM_ECC_ADDR_LO_ADDR_LO 0))

end Sys2Proof.Machine
end

