-- ==== Sys2Proof/Machine/Measure.lean ====
section
/-! DEFINITION. Line measurement and capture (12_line_measurement.md): published quantities, SOP transients, capture of samples, SURVEY
mode. -/

namespace Sys2Proof.Machine

/-! ### Reported quantities (R401, R402) -/

/-- What MS_QVAL reads while a quantity's condition does not hold (R401). -/
def noValue : Nat := 0x80000000

/-- Measurement of an engine holds something else. -/
def State.modMeasure (s : State) (e : Nat) (f : Measure → Measure) : State := s.setMeasure e (f (s.measure e))

/-- The condition of a quantity (R401). -/
def State.quantityHolds (s : State) (e q : Nat) : Bool :=
  let locked := s.rxState e == 5
  match q with
  | 0 | 1 | 3 | 4 | 6 | 7 | 8 | 11 => locked
  | 13 => locked && s.cfg F.MS_LEN_DCOEF e != 0
  | 2 | 5 => locked && (s.measure e).lockedAll
  | 9 | 10 => (s.measure e).decodedAll
  | 12 => s.rxState e != 0
  | 14 => match (s.timeSource (e + 2)).heardAt with | some t => decide (s.now ≤ t + 1024) | none => false
  | _ => false

/-- Boundaries at which a quantity is published, as a period in ticks (R401). -/
def quantityPeriod (q : Nat) : Nat :=
  match q with
  | 4 | 11 => 1
  | 2 | 5 | 9 | 10 => ticksPerSecond
  | _ => 256

/-- The range of a quantity (R401). -/
def quantityRange (q : Nat) : Int × Int :=
  match q with
  | 0 => (-160000, 160000)
  | 1 | 2 => (0, 3500)
  | 3 => (0, 60)
  | 4 | 5 => (0, 20000)
  | 6 | 7 => (0, 4000)
  | 8 => (0, 6000)
  | 9 => (0, 429496729)
  | 10 => (0, 2000)
  | 11 => (-5500, 5500)
  | 12 => (-6000, 1000)
  | _ => (0, 1000000)

/-- A quantity takes a value, kept in its range. -/
def State.setQuantity (s : State) (e q : Nat) (v : Int) : State :=
  let (lo, hi) := quantityRange q
  s.wr F.MS_QVAL_VAL (16 * e + q) (unsigned 32 (clampInt lo hi v))

/-- A quantity as the engine measures it, published at its boundaries; those the device computes are left to it (R401, R402).  GSNR
reads 40 dB where the SNR reaches SNR_B2B. -/
def State.takeQuantity (s : State) (e q : Nat) (v : Int) : State :=
  if (s.tick.toNat + 1) % quantityPeriod q != 0 || !s.quantityHolds e q || [0, 5, 9, 11, 13, 14].contains q then s
  else
    let snr := signed 32 (s.rd F.MS_QVAL_VAL (16 * e + 6))
    let v := if q == 7 && decide ((s.cfg F.MS_CAL_B2B e * 25 : Int) ≤ snr) then 4000 else v
    s.setQuantity e q v

/-- The quantities of an engine that the device derives from what it holds, and those whose condition has gone: at the boundary that
begins tick TICK_NO. -/
def State.publishQuantities (s : State) (e : Nat) : State :=
  let t := s.tick.toNat
  let due (q : Nat) : Bool := t % quantityPeriod q == 0 && s.quantityHolds e q
  let cd := signed 32 (s.rd F.LE_CD_CD e)
  let s := if due 0 then s.setQuantity e 0 cd else s
  let s := if due 11 then s.setQuantity e 11 (signed 16 (s.rd F.LE_FOFS_FOFS e)) else s
  let s := if due 13 then
      let d : Int := s.cfg F.MS_LEN_DCOEF e
      s.setQuantity e 13 ((2000 * cd.natAbs + d) / (2 * d))
    else s
  let s := if due 5 then s.setQuantity e 5 (s.measure e).sopPeak else s
  let s := if due 9 then
      let x := s.measure e
      let since (n was : Nat) : Nat := (s.ctr ⟨.fp, n, e⟩ + 2 ^ 48 - was) % 2 ^ 48
      let bad := (s.ctr ⟨.fp, 25, e⟩ + s.ctr ⟨.fp, 26, e⟩ + 2 ^ 49 - x.bad) % 2 ^ 48
      let converged := since 27 x.cw - bad
      s.setQuantity e 9 (if converged == 0 then 0 else (since 28 x.corr * 2 ^ 17 / converged : Nat))
    else s
  s.each (List.range 15) fun s q => if s.quantityHolds e q then s else s.wr F.MS_QVAL_VAL (16 * e + q) noValue

/-- What the second has shown of an engine: at every boundary, and anew at the first of a second. -/
def State.followSecond (s : State) (e : Nat) : State :=
  let locked := s.rxState e == 5
  let decoded := !s.ssf e && locked && s.native e
  if s.tick.toNat % ticksPerSecond == 0 then
    s.modMeasure e fun x => { x with lockedAll := locked, decodedAll := decoded, sopPeak := 0, corr := s.ctr ⟨.fp, 28, e⟩,
                                     cw := s.ctr ⟨.fp, 27, e⟩,
                                     bad := (s.ctr ⟨.fp, 25, e⟩ + s.ctr ⟨.fp, 26, e⟩) % 2 ^ 48 }
  else s.modMeasure e fun x => { x with lockedAll := x.lockedAll && locked, decodedAll := x.decodedAll && decoded }

/-! ### Capture (R405 to R411) -/

/-- Capture of an engine holds something else. -/
def State.modCapture (s : State) (e : Nat) (f : Capture → Capture) : State := s.setCapture e (f (s.capture e))

/-- spt of R406. -/
def State.samplesPerTick (s : State) (e : Nat) : Nat :=
  if s.interop e then Config.interopSamples (s.rd F.LF_CFG_FMT e) else 36 * s.rd F.LE_CFG_G e

/-- Bytes per tick of a capture, times 16: 4 per sample time RAW, 2.0625 COMPRESSED (R406). -/
def State.captureRate (s : State) (e : Nat) : Nat :=
  (if s.rd F.CAP_CFG_FMT e == 1 then 33 else 64) * s.samplesPerTick e

/-- Bytes a capture needs: header, and samples with the margin of 0.1 % (R406). -/
def captureNeed (ticks rate16 : Nat) : Nat := 64 + (1001 * ticks * rate16 + 15999) / 16000

/-- POST in ticks: 0 is treated as 1. -/
def State.postTicks (s : State) (e : Nat) : Nat := max 1 (s.rd F.CAP_CFG_POST e)

/-- The capture region of an engine. -/
def State.captureRegion (s : State) (e : Nat) : Option RegionRec := s.regionOf 3 e

/-- CAP_STAT shows the capture. -/
def State.showCapture (s : State) (e : Nat) : State :=
  let x := s.capture e
  let s := (s.wrBool F.CAP_STAT_ARMED e x.armed).wrBool F.CAP_STAT_POSTING e x.post.isSome
  let s := s.wr F.CAP_STAT_DONE e x.done.length
  match x.next with | some i => s.wr F.CAP_STAT_NEXT e i | none => s

/-- The first free slot in ring order from slot `i` on. -/
def freeSlot (slots : Nat) (done : List Nat) (i : Nat) : Option Nat :=
  ((List.range slots).map fun j => (i + j) % slots).find? fun j => !done.contains j

/-- The engine moves to the next free slot, from slot `i` on, where history starts again; with OVERWRITE the oldest DONE slot is
freed when none is free (R408, R409).  While it is armed it overwrites that slot with samples (R407). -/
def State.nextSlot (s : State) (e i : Nat) : State :=
  let x := s.capture e
  let (slot, done) := match freeSlot x.slots x.done i with
    | some j => (some j, x.done)
    | none => if x.armed && s.rd F.CAP_CFG_OVERWRITE e == 1 then (x.done.head?, x.done.drop 1) else (none, x.done)
  let t := (s.modCapture e fun x => { x with next := slot, done := done, since := s.now, post := none }).showCapture e
  match slot, s.captureRegion e with
  | some j, some r =>
    let size := slotSize r.size x.slots
    if x.armed then t.ancForget (r.base + j * size) size else t
  | _, _ => t

/-- The rank of a capture source in the order of R409, and its code in TSRC (R410). -/
def CapSource.rank : CapSource → Nat
  | .event _ => 0 | .sop => 1 | .schedule => 2 | .software => 3

/-- TSRC of a capture source (R410). -/
def CapSource.code : CapSource → Nat
  | .event n => n | .sop => 0xFFFC | .software => 0xFFFD | .schedule => 0xFFFE

/-- A trigger occurs in the present tick (R407 to R409). -/
def State.capTrigger (s : State) (e : Nat) (src : CapSource) : State :=
  let x := s.capture e
  if !x.armed then s
  else
    match x.post with
    | some p =>
      if p.at_ == s.now then
        if src.rank < p.src.rank then s.modCapture e fun x => { x with post := some { p with src := src } } else s
      else s.incWrap F.CAP_STAT_SKIPPED e 1
    | none =>
      let s := if x.next.isNone && s.rd F.CAP_CFG_OVERWRITE e == 1 then s.nextSlot e 0 else s
      let x := s.capture e
      if x.next.isNone then (s.incWrap F.CAP_STAT_MISSED e 1).raise F.MS_STICKY_CAP_MISSED e
      else
        let want := s.rd F.CAP_CFG_PRE e
        let have_ := s.now - x.since
        let cd := if s.quantityHolds e 0 then s.rd F.MS_QVAL_VAL (16 * e) else noValue
        let fofs := if s.quantityHolds e 11 then s.rd F.MS_QVAL_VAL (16 * e + 11) else noValue
        let p : CapPost :=
          { trig := s.tick, at_ := s.now, src := src, post := s.postTicks e, pre := min want have_, short := decide (have_ < want),
            cd := cd, fofs := fofs, los := s.rxState e == 1, lolAt := s.rd F.LE_EQ_STAT_LOL_CNT e }
        (s.modCapture e fun x => { x with post := some p }).showCapture e

/-- The 64 bytes of a slot header (R410). -/
def capHeader (e fmt flags spt : Nat) (trig : Tick) (tsrc pre post : Nat) (first : Tick) (ns strig cd fofs : Nat) : List Byte :=
  let body := toBytes 4 0x43415031 ++ [0x01, BitVec.ofNat 8 e, BitVec.ofNat 8 fmt, BitVec.ofNat 8 flags] ++ toBytes 4 spt ++
    toBytes 6 trig.toNat ++ toBytes 2 tsrc ++ toBytes 2 pre ++ toBytes 2 post ++ toBytes 6 first.toNat ++ toBytes 2 0 ++
    toBytes 8 ns ++ toBytes 8 strig ++ toBytes 4 cd ++ toBytes 4 fofs ++ toBytes 4 0
  body ++ toBytes 4 (crc32 body).toNat

/-- The open slot closes with so many samples stored, the trigger tick's first at an index (R408, R410). -/
def State.closeSlot (s : State) (e : Nat) (cut : Bool) (ns strig : Nat) : State :=
  let x := s.capture e
  match x.next with
  | none => s
  | some slot =>
    let kept := min (s.rd F.CAP_CFG_PRE e) (s.now - x.since)
    -- a cut slot that never triggered: its trigger is open
    let (p, s) := match x.post with
      | some p => (p, s)
      | none =>
        let p : CapPost := ⟨BitVec.ofNat 48 s.drawn, s.now, .event (Config.freeValue (s.free + 1) % 65536), 0, kept,
          decide (kept < s.rd F.CAP_CFG_PRE e), noValue, noValue, false, s.rd F.LE_EQ_STAT_LOL_CNT e⟩
        (p, s.draw.draw)
    let los := p.los || s.rd F.LE_EQ_STAT_LOL_CNT e != p.lolAt
    let flags := p.short.toNat + cut.toNat * 2 + los.toNat * 4
    let post := s.now - p.at_
    let first := s.tick - BitVec.ofNat 48 (post + p.pre)
    let header := capHeader e (s.rd F.CAP_CFG_FMT e) flags (s.samplesPerTick e) p.trig p.src.code p.pre post first ns strig p.cd p.fofs
    let s := match s.captureRegion e with
      | some r =>
        let size := slotSize r.size x.slots
        let base := r.base + slot * size
        let bytes := if s.rd F.CAP_CFG_FMT e == 1 then 132 * ((ns + 63) / 64) else 4 * ns
        ((s.ancForget base size).ancTouch base (min bytes (size - 64))).ancWrite base header
      | none => s
    let s := s.modCapture e fun x => { x with done := x.done ++ [slot], next := none, post := none }
    let s := s.nextSlot e ((slot + 1) % max 1 x.slots)
    s.raise (if cut then F.MS_STICKY_CAP_CUT else F.MS_STICKY_CAP_DONE) e

/-- The open slot closes with CUT; what it holds is counted in samples that the specification leaves to the received rate (R409). -/
def State.cutCapture (s : State) (e : Nat) (armed : Bool) : State :=
  let x := s.capture e
  if !x.armed then s
  else
    let t := s.draw.draw
    let t := t.modCapture e fun x => { x with armed := armed }
    (t.closeSlot e true s.drawn (Config.freeValue (s.free + 1))).showCapture e

/-- CAPTURE_CLOSE: boundary t_T + POST (R408). -/
def State.captureClose (s : State) (e ns strig : Nat) : State :=
  match (s.capture e).post with
  | some p => if s.elapsed p.at_ p.post then s.closeSlot e false ns strig else s
  | none => s

/-- Bytes per second, times 16, of the armed engines that write into a hold. -/
def State.captureLoad (s : State) (deep : Bool) (extra : Nat) : Nat :=
  (List.range 8).foldl (fun acc i =>
    if ((s.capture i).armed || i == extra) && (match s.captureRegion i with | some r => r.deep == deep | none => false) then
      acc + s.captureRate i * 312500 else acc) 0

/-- CAP_CTRL.ARM (R406): an armed engine is left as it is. -/
def State.capArm (s : State) (e : Nat) : State :=
  let x := s.capture e
  if x.armed then s
  else
    let slots := s.rd F.CAP_CFG_NSLOT e + 1
    match s.captureRegion e with
    | none => s.wr F.CAP_STAT_RESULT e 2
    | some r =>
      if slotSize r.size slots < captureNeed (s.rd F.CAP_CFG_PRE e + s.postTicks e) (s.captureRate e) then s.wr F.CAP_STAT_RESULT e 2
      else if 16 * (if r.deep then 102400000000 else 2048000000000) < s.captureLoad r.deep e then s.wr F.CAP_STAT_RESULT e 3
      else
        let s := s.modCapture e fun x =>
          { x with armed := true, slots := slots, done := x.done.filter (· < slots), soft := false, post := none,
                   wasOn := s.rd F.LE_STAT_PSTATE e == 2 }
        (s.nextSlot e (s.rd F.CAP_STAT_NEXT e % slots)).wr F.CAP_STAT_RESULT e 1

/-- CAP_CTRL.RELEASE: the oldest DONE slot is freed (R405); an engine without a slot goes on in it. -/
def State.capRelease (s : State) (e : Nat) : State :=
  let x := s.capture e
  match x.done with
  | [] => s
  | i :: rest =>
    let s := s.modCapture e fun x => { x with done := rest }
    if x.armed && x.next.isNone then s.nextSlot e i else s.showCapture e

/-- A schedule boundary (R407). -/
def State.capSchedule (s : State) (e : Nat) : State :=
  if s.cfg F.CAP_TRIG_SCH_EN e == 1 && s.tick.toNat % 2 ^ min 30 (s.cfg F.CAP_TRIG_SK e) == 0 then s.capTrigger e .schedule else s

/-- The reports of the tick that ends trigger the engines that capture on their source, but not those this capture caused (R407). -/
def State.capEvents (s : State) (e : Nat) : State :=
  if !(s.capture e).armed || s.cfg F.CAP_TRIG_EV_EN e == 0 then s
  else
    let src := s.cfg F.CAP_TRIG_SRC e
    let own (r : Report) : Bool := r.source == 488 + e && 2 ≤ r.leaf && r.leaf ≤ 4
    s.each (s.reports.filter fun r => r.source == src && !own r) fun s _ => s.capTrigger e (.event src)

/-! ### SOP transients (R403, R404) -/

/-- The SOP rate of the tick that ends (R403, R404): published, and the start or the course of a transient. -/
def State.sopRate (s : State) (e rate : Nat) : State :=
  if s.rxState e != 5 then s
  else
    let s := s.modMeasure e fun x => { x with sopPeak := max x.sopPeak rate }
    let thr := s.cfg F.MS_SOP_CFG_THR e
    if thr == 0 || rate < thr then s
    else
      match (s.measure e).sop with
      | some r => s.modMeasure e fun x => { x with sop := some { r with last := s.now, peak := max r.peak rate } }
      | none =>
        let s := s.modMeasure e fun x => { x with sop := some ⟨s.tick, s.now, s.now, rate⟩ }
        let s := s.raise F.MS_STICKY_SOP_START e
        if s.cfg F.CAP_TRIG_SOP_EN e == 1 then s.capTrigger e .sop else s

/-- SOP_TRANSIENT: HOLD ticks below THR, loss of lock or LOS ends the transient (R403, R404). -/
def State.sopEnds (s : State) (e : Nat) : State :=
  match (s.measure e).sop with
  | none => s
  | some r =>
    let lost := s.rxState e != 5
    if !lost && !s.elapsed (r.last + 1) (max 1 (s.cfg F.MS_SOP_CFG_HOLD e)) then s
    else
      let s := s.modMeasure e fun x => { x with sop := none }
      let s := s.wrBool F.MS_SOP_LAST_LOL e lost
      let s := (s.wr F.MS_SOP_LAST_DUR e (min 8191 (r.last - r.at_ + 1))).wr F.MS_SOP_LAST_PEAK e (min r.peak 262143)
      let s := (s.wr F.MS_SOP_START_TICK e (r.start.toNat % 2 ^ 32)).incWrap F.MS_SOP_CNT_CNT e 1
      s.raise F.MS_STICKY_SOP_TRANSIENT e

/-! ### SURVEY mode (R412 to R414) -/

/-- The registers that report an engine's format (LF_CFG, LE_CFG, LE_SHAPE), for rate step `n` and entropy code `k`. -/
def State.setFormat (s : State) (e n k : Nat) : State :=
  let c := composition k
  let s := (s.wr F.LF_CFG_NCW e (codewords n)).wr F.LF_CFG_RSTEP e (n - 1)
  let s := (s.wr F.LE_CFG_G e (pilotGroups n k)).wr F.LE_CFG_F e (fillSymbols n k)
  let s := (s.wrBool F.LE_CFG_CONST e (decide (56 < k))).wr F.LE_CFG_K e k
  ((s.wr F.LE_SHAPE_C1 e c.1).wr F.LE_SHAPE_C3 e c.2.1).wr F.LE_SHAPE_C5 e c.2.2.1 |>.wr F.LE_SHAPE_C7 e c.2.2.2

/-- The survey record of an engine in the committed image. -/
def State.surveyOf (s : State) (e : Nat) : Option SurveyRec :=
  if s.mode == 11 then s.image.survey.find? (·.engine == e) else none

/-- The engine takes a step of its list. -/
def State.surveyStep (s : State) (e step : Nat) (r : SurveyRec) : State :=
  let (n, k) := r.steps.getD step (16, 72)
  (s.wr F.SV_STAT_STEP e step).setFormat e n k

/-- The step that the tick count names (R412). -/
def SurveyRec.stepAt (r : SurveyRec) (t : Tick) : Nat := (t.toNat >>> r.d) % (r.nstep + 1)

/-- SURVEY at a boundary: a beacon follows TICK_NO; a sweeping receiver that holds decoded frames follows FNO from then on (R412, R413). -/
def State.tickSurvey (s : State) (e : Nat) : State :=
  match s.surveyOf e with
  | none => s
  | some r =>
    if r.role == 1 then
      let step := r.stepAt s.tick
      if s.rd F.SV_STAT_STEP e == step then s else s.surveyStep e step r
    else if r.role == 2 && s.rd F.SV_STAT_FOLLOW e == 0 && !s.ssf e then
      let step := r.stepAt (s.lineFrame e).expect
      let s := s.wr F.SV_STAT_FOLLOW e 1
      if s.rd F.SV_STAT_STEP e == step then s else s.surveyStep e step r
    else s

/-- The 128 bytes of a survey record (R414). -/
def surveyBytes (step n k : Nat) (x : SurveyResult) : List Byte :=
  let flags := x.lockedSeen.toNat + x.losThroughout.toNat * 2 + x.fmtMis.toNat * 4
  [BitVec.ofNat 8 step, BitVec.ofNat 8 n, BitVec.ofNat 8 k, BitVec.ofNat 8 flags] ++ toBytes 6 x.fno0.toNat ++ toBytes 2 0 ++
    toBytes 4 x.tlock ++ ((List.range 11).flatMap fun i => toBytes 4 ((x.quantities.getD i 0x80000000).toNat)) ++ toBytes 4 x.ucw ++
    ((List.range 64).map fun i => x.spec.getD i 0)

/-- SURVEY_STEP_END (R413, R414): the record is appended and the engine takes its next step, or step 0 where LOM or LOS holds. -/
def State.surveyEnd (s : State) (e : Nat) (x : SurveyResult) : State :=
  match s.surveyOf e with
  | none => s
  | some r =>
    if r.role != 2 then s
    else
      let step := s.rd F.SV_STAT_STEP e
      let (n, k) := r.steps.getD step (16, 72)
      let s := match s.regionOf 4 e with
        | some g =>
          let cap := max 1 (g.size / 128)
          s.ancWrite (g.base + 128 * (s.rd F.SV_STAT_REC e % cap)) (surveyBytes step n k x)
        | none => s
      let s := (s.incWrap F.SV_STAT_REC e 1).raise F.MS_STICKY_SV_STEP e
      let s := s.raiseIf (step == r.nstep) F.MS_STICKY_SV_CYCLE e
      if s.rxState e ≤ 1 || s.on F.LF_STAT_LOM e then (s.surveyStep e 0 r).wr F.SV_STAT_FOLLOW e 0
      else
        let s := s.surveyStep e (if step == r.nstep then 0 else step + 1) r
        if s.rxState e == 5 then
          (((s.enterRx e 4).clearLocks e).modEngine e fun y => { y with fast := true, acqSince := s.now }).dropFrame e
        else s

/-! ### Per tick -/

/-- Measurement, capture and survey of an engine at a boundary. -/
def State.tickMeasure (s : State) (e : Nat) : State :=
  if !s.engineExists e then s
  else
    let s := (s.publishQuantities e).followSecond e
    let s := s.tickSurvey e
    let x := s.capture e
    let on := s.rd F.LE_STAT_PSTATE e == 2
    let s := if x.armed && x.wasOn && !on then s.cutCapture e false else s
    let s := if (s.capture e).soft then (s.modCapture e fun x => { x with soft := false }).capTrigger e .software else s
    let los := s.rxState e == 1
    s.modCapture e fun x =>
      { x with wasOn := on, post := x.post.map fun p => { p with los := p.los || los } }

/-! ### The commands -/

/-- The engine that a master's LE_SEL selects does something at an offset of the measurement registers; none exists beyond R3. -/
def State.atMeasured (s : State) (m : Initiator) (addr : Nat) (f : State → Nat → State) : State :=
  s.atEngine m true addr fun e => (f s e).reply m (.ok 0)

/-- Meaning of SOP_TRANSIENT. -/
def execSopTransient (e : Fin 8) (s : State) : Host.Outcome State Fault Refusal := .next (s.sopEnds e.val)

/-- Meaning of CAP_ARM. -/
def execCapArm (m : Initiator) (s : State) : Host.Outcome State Fault Refusal := .next (s.atMeasured m 0x24000A48 State.capArm)

/-- Meaning of CAP_DISARM. -/
def execCapDisarm (m : Initiator) (s : State) : Host.Outcome State Fault Refusal :=
  .next (s.atMeasured m 0x24000A48 fun s e => s.later (.capDisarm e))

/-- Meaning of CAP_TRIG. -/
def execCapTrig (m : Initiator) (s : State) : Host.Outcome State Fault Refusal :=
  .next (s.atMeasured m 0x24000A48 fun s e => s.modCapture e fun x => { x with soft := x.armed })

/-- Meaning of CAP_RELEASE. -/
def execCapRelease (m : Initiator) (s : State) : Host.Outcome State Fault Refusal :=
  .next (s.atMeasured m 0x24000A48 State.capRelease)

/-- Meaning of CAP_SCHEDULE_TRIGGER. -/
def execCapScheduleTrigger (e : Fin 8) (s : State) : Host.Outcome State Fault Refusal := .next (s.capSchedule e.val)

/-- Meaning of CAPTURE_CLOSE. -/
def execCaptureClose (e : Fin 8) (samples first : Nat) (s : State) : Host.Outcome State Fault Refusal :=
  .next (s.captureClose e.val samples first)

/-- Meaning of SURVEY_STEP_END. -/
def execSurveyStepEnd (e : Fin 8) (r : SurveyResult) (s : State) : Host.Outcome State Fault Refusal := .next (s.surveyEnd e.val r)

end Sys2Proof.Machine
end

