-- ==== Sys2Proof/Machine/Events.lean ====
section
/-! DEFINITION. Event logger, performance counters, dump engine and PM history (18_events_and_counters.md). -/

namespace Sys2Proof.Machine

/-! ### The logger (R579 to R583) -/

/-- Words of a record (R579). -/
def LogRecord.words (r : LogRecord) : List Nat :=
  [r.source * 2 ^ 23 + r.leaf % 64 * 2 ^ 17 + r.coalesced.toNat * 2 ^ 16 + r.chan % 2 ^ 15, r.tick.toNat % 2 ^ 32,
   r.tick.toNat / 2 ^ 32 * 2 ^ 16 + r.seq % 2 ^ 16, r.detail % 2 ^ 32]

/-- A record in bytes, word 0 at the lowest address. -/
def LogRecord.bytes (r : LogRecord) : List Byte := r.words.flatMap (Mem.ofNatLE 4)

/-- Records in the ring that software has not yet read (R581). -/
def State.ringUsed (s : State) : Nat := (s.rd F.EV_LOG_WR_IDX 0 + 8192 - s.rd F.EV_LOG_RD_IDX 0) % 8192

/-- A report is coalesced into the slot of its source (R582). -/
def State.coalesce (s : State) (r : Report) : State :=
  let x := s.slot r.source
  let x := if x.count == 0 then ⟨r.leaf, r.chan, r.tick, 1, r.tick⟩ else { x with count := x.count + 1, last := r.tick }
  let s := (s.setSlot r.source x).wr F.EV_COAL_CNT_CNT r.source x.count
  (s.incWrap F.EV_LOG_STAT_DROP 0 1).raise F.EV_LOG_STAT_LOG_OVR 0

/-- A report enters the queue, or is coalesced, or leaves no record (R580, R581). -/
def State.queueReport (s : State) (r : Report) : State :=
  if s.on F.EV_SRC_CFG_LOG_DIS r.source then s
  else
    let full := decide (64 ≤ s.logQueue.length)
    let wrap := s.on F.EV_LOG_CFG_WRAP 0
    let noRoom := !wrap && (decide (4096 ≤ s.ringUsed + s.logQueue.length) || decide (0 < (s.slot r.source).count))
    if !s.on F.EV_LOG_CFG_EN 0 || full || noRoom then s.coalesce r
    else { s with logQueue := s.logQueue ++ [⟨r.source, r.leaf, false, r.chan, r.tick, 0, r.detail⟩] }

/-- A report precedes another: source, then channel, then leaf bit (R580). -/
def Report.before (a b : Report) : Bool :=
  decide (a.source < b.source) || (a.source == b.source &&
    (decide (a.chan < b.chan) || (a.chan == b.chan && decide (a.leaf ≤ b.leaf))))

/-- A report put in its place. -/
def placeReport (r : Report) : List Report → List Report
  | [] => [r]
  | x :: t => if x.before r then x :: placeReport r t else r :: x :: t

/-- The reports of the tick that ends go to the logger (R580). -/
def State.queueReports (s : State) : State :=
  let rs := s.reports.foldl (fun acc r => placeReport r acc) []
  ({ s with reports := [] }).each rs fun s r => s.queueReport r

/-- A record is written to the ring and, with ARCH_EN, to the archive (R579, R581, R583). -/
def State.writeRecord (s : State) (r : LogRecord) : State :=
  let r := { r with seq := s.logSeq }
  let i := s.rd F.EV_LOG_WR_IDX 0
  let s := if 4096 ≤ s.ringUsed then (s.incWrap F.EV_LOG_RD_IDX 0 1).incWrap F.EV_LOG_STAT_OVERWRITTEN 0 1 else s
  let a := 0x12780000 + 16 * (i % 4096)
  let s := { s.touch a with logSeq := (s.logSeq + 1) % 2 ^ 16 }
  let s := ((s.sramWord a r.bytes).incWrap F.EV_LOG_WR_IDX 0 1).addTally 28 0 1
  match s.regionOf 6 0 with
  | some g =>
    if s.on F.EV_LOG_CFG_ARCH_EN 0 then
      (s.ancWrite (g.base + 16 * (s.rd F.EV_ARCH_WR_IDX 0 % max 1 (g.size / 16))) r.bytes).incWrap F.EV_ARCH_WR_IDX 0 1
    else s
  | none => s

/-- The ring takes a record. -/
def State.ringFree (s : State) : Bool := s.on F.EV_LOG_CFG_EN 0 && (s.on F.EV_LOG_CFG_WRAP 0 || decide (s.ringUsed < 4096))

/-- LOG_RECORD_WRITE: the oldest queued record (R580). -/
def State.logRecord (s : State) : State :=
  match s.logQueue with
  | r :: rest => if s.ringFree then ({ s with logQueue := rest }).writeRecord r else s
  | [] => s

/-- The open slots, in rising order of source. -/
def State.openSlots (s : State) : List Nat := (s.slots.filter fun x => x.2.count != 0).map (·.1.1)

/-- LOG_SUMMARY_WRITE: the lowest-numbered open slot, once the queue is empty (R582). -/
def State.logSummary (s : State) : State :=
  match s.openSlots with
  | src :: _ =>
    if !s.logQueue.isEmpty || !s.ringFree then s
    else
      let x := s.slot src
      let span := min ((x.last - x.first).toNat) 65535
      let s := (s.setSlot src {}).wr F.EV_COAL_CNT_CNT src 0
      s.writeRecord ⟨src, x.leaf, true, x.chan, x.first, 0, min x.count 65535 * 65536 + span⟩
  | [] => s

/-- EV_LOG_RD takes a value: one past WR is treated as WR (EV_LOG_RD). -/
def State.writeLogRd (s : State) (v : Nat) : State :=
  let wr := s.rd F.EV_LOG_WR_IDX 0
  s.wr F.EV_LOG_RD_IDX 0 (if (wr + 8192 - v) % 8192 ≤ 4096 then v else wr)

/-! ### Performance counters (R584 to R588) -/

/-- INDEX names a resource of the event (R584). -/
def indexOk (code index : Nat) : Bool :=
  match code with
  | 1 | 2 | 3 | 4 | 6 | 7 => decide (index < 4)
  | 5 => decide (index < 10)
  | 16 => decide (index < 72) || index == 255
  | 17 | 18 | 19 => decide (index < 3) || index == 255
  | 20 | 21 | 22 | 23 | 24 => decide (index < 8) || index == 255
  | 25 | 26 | 27 => decide (index < 2) || index == 255
  | 28 => true
  | 29 => decide (index < 16) || index == 255
  | _ => false

/-- Counter `i` counts `n` events; a wrap sets its OVF bit, and with OVF_IE the event OVF (R586). -/
def State.pcAdd (s : State) (i n : Nat) : State :=
  let v := s.ctr ⟨.pc, i, 0⟩ + n
  let s := s.setCtr ⟨.pc, i, 0⟩ v
  if v < 2 ^ 48 then s
  else
    let f := if i < 32 then F.PC_OVF_LO_OVF else F.PC_OVF_HI_OVF
    let s := s.wr f 0 (s.rd f 0 ||| 2 ^ (i % 32))
    if s.on F.PC_EVSEL_OVF_IE i then s.raise (leafBit .PC_STICKY 0) 0 else s

/-- Connections that the space stage carries to a fabric port, or to all: entries of the live bank with ACT = CONNECT (R584). -/
def State.berthsCarried (s : State) (port : Nat) : Nat :=
  ((s.bankEntries s.liveBank).filter fun e => (port == 255 || e.1 / 320 == port) && entryAct e.2 == .connect).length

/-- What the tick that ends has counted of an event, for an INDEX (R584). -/
def State.tickCount (s : State) (code index : Nat) : Nat :=
  if !indexOk code index then 0
  else if code == 16 then s.berthsCarried index
  else if code == 28 then s.tally 28 0
  else if index == 255 then (s.tallies.filter fun x => x.1.1 == code).foldl (fun acc x => acc + x.2) 0
  else s.tally code index

/-- Every counter adds the count of the tick that ends, and the tick's counts start anew (R585). -/
def State.tickCounters (s : State) : State :=
  let s := s.each (List.range 64) fun s i =>
    let code := s.rd F.PC_EVSEL_EVENT i
    if code == 0 then s
    else
      let n := s.tickCount code (s.rd F.PC_EVSEL_INDEX i)
      if n == 0 then s else s.pcAdd i n
  { s with tallies := [] }

/-- A read of the PC block in user mode is refused (R588). -/
def State.pcReadRefused (s : State) (m : Initiator) : Bool :=
  m.isUser && !(s.on F.PC_ACCESS_USER_RD 0 && s.devState == .normal)

/-- A write to the PC block: never performed in user mode (R588). -/
def State.pcWrite (s : State) (m : Initiator) (addr : Nat) (f : State → State) : State :=
  if m.isUser then s.busError m true addr .priv else (f s).reply m (.ok 0)

/-- The value of a counter; counter 64 is TICK_NO (R584). -/
def State.pcValue (s : State) (i : Nat) : Nat := if i == 64 then s.tick.toNat else s.ctr ⟨.pc, i, 0⟩

/-- A read of PC_CNT_LO[i] (R587). -/
def State.readPc (s : State) (m : Initiator) (i : Nat) : State :=
  if s.pcReadRefused m then s.busError m false (0x2C000200 + 8 * i) .priv
  else (s.wr F.PC_CNT_HI_CNT_HI (m.copy * 65 + i) (s.pcValue i / 2 ^ 32)).replyWord m (s.pcValue i)

/-! ### Dump engine (R589 to R593) -/

/-- List length of a ring. -/
def State.dumpLen (s : State) (r : Nat) : Nat := min 1024 (s.rd F.PC_DUMP_CFG_L r)

/-- Q_r of R591. -/
def State.dumpStride (s : State) (r : Nat) : Nat := 64 * ((576 + 8 * s.dumpLen r + 63) / 64)

/-- Entries of a ring's destination. -/
def State.dumpSize (s : State) (r : Nat) : Nat := max 1 (s.rd F.PC_DUMP_SIZE_SIZE r)

/-- The counter that a list word names, if it names one (R592). -/
def State.listedCounter (s : State) (w : Nat) : Option Nat :=
  let blk := w / 2 ^ 28
  let index := w / 2 ^ 12 % 65536
  let cnt := w % 32
  match blk with
  | 1 => if index < 8 && cnt ≤ 12 then some (s.ctr ⟨.lf, cnt, index⟩) else none
  | 2 => if index < 4 && cnt ≤ 11 then some (s.ctr ⟨.hr, cnt, index⟩) else none
  | 3 => if index < 2048 && cnt ≤ 8 then some (s.ctr ⟨.mg, cnt, index⟩) else none
  | 4 => if index < 8 then some (s.ctr ⟨.fp, cnt, index⟩) else none
  | 5 => if index < 128 && cnt ≤ 9 then some (s.ctr ⟨.quay, cnt, index⟩) else none
  | 6 => if index < 4096 then some (s.ctr ⟨.trBip, 0, index⟩) else none
  | 7 =>
    if index < 2048 && cnt ≤ 9 && index % 256 < 16 then some (s.ctr ⟨.td, cnt, index / 256 * 16 + index % 256⟩)
    else if index < 2048 && 16 ≤ cnt && cnt ≤ 22 then some (s.ctr ⟨.td, cnt, index⟩)
    else none
  | _ => none

/-- The entry of a ring for the snapshot at the present boundary (R591, R592). -/
def State.dumpEntry (s : State) (r seq : Nat) : List Byte :=
  let len := s.dumpLen r
  let tb := s.tbStamp
  let head := toBytes 4 0x534E4150 ++ [0x01, BitVec.ofNat 8 r] ++ toBytes 2 len ++ toBytes 6 s.tick.toNat ++ toBytes 2 0 ++
    toBytes 4 seq ++ toBytes 4 (s.rd F.PC_SETID_SETID 0) ++ toBytes 4 (s.rd F.PC_OVF_HI_OVF 0) ++ toBytes 4 (s.rd F.PC_OVF_LO_OVF 0) ++
    toBytes 6 tb.sec ++ toBytes 4 tb.ns ++ toBytes 2 tb.frac ++ List.replicate 16 0
  let counters := (List.range 64).flatMap fun i => toBytes 2 (s.rd F.PC_EVSEL_EVENT i) ++ toBytes 6 (s.pcValue i)
  let base := s.rd F.PC_DUMP_LIST_ADDR r / 4 * 4
  let listed := (List.range len).flatMap fun j =>
    match s.listedCounter (Mem.readWord s.mem (base + 4 * j)).toNat with
    | some v => [0x00, 0x00] ++ toBytes 6 v
    | none => [0x01, 0x00] ++ toBytes 6 0
  let body := head ++ toBytes 4 (crc32 head).toNat ++ counters ++ listed
  body ++ List.replicate (s.dumpStride r - body.length) 0

/-- Where entry `i` of a ring goes, and whether it can be written now (R593, R529). -/
def State.dumpPlace (s : State) (r i : Nat) : Option Nat :=
  let ofs := s.dumpStride r * (i % s.dumpSize r)
  if s.on F.PC_DUMP_CFG_DEST r then
    if s.linkUp && s.busMaster then
      some ((s.rd F.PC_DUMP_BASE_HI_BASE r * 2 ^ 32 + s.rd F.PC_DUMP_BASE_LO_BASE r) / 64 * 64 + ofs)
    else none
  else
    match s.regionOf 7 r with
    | some g => if ofs + s.dumpStride r ≤ g.size then some (g.base + ofs) else none
    | none => none

/-- The destination holds as many unread entries as it can (R593). -/
def State.dumpFull (s : State) (r : Nat) : Bool :=
  (s.rd F.PC_DUMP_WR_IDX r + 2 ^ 32 - s.rd F.PC_DUMP_RD_IDX r) % 2 ^ 32 == s.dumpSize r

/-- DUMP_RING_DUE: the rings due at this boundary take the snapshot or count a skip (R589, R590, R593). -/
def State.dumpDue (s : State) : State :=
  if s.dumpAt == some s.now then s
  else
    let due := (List.range 4).filter fun r =>
      s.on F.PC_DUMP_CFG_EN r && s.tick.toNat % 2 ^ min 20 (s.rd F.PC_DUMP_CFG_K r) == 0
    let busy := !s.dumpJobs.isEmpty
    let s := { s with dumpAt := some s.now }
    s.each due fun s r =>
      let seq := (s.dumpSeq r + 1) % 2 ^ 32
      let s := (s.setDumpSeq r seq).wr F.PC_DUMP_STAT_SEQ r seq
      let full := s.dumpFull r || (s.dumpPlace r (s.rd F.PC_DUMP_WR_IDX r)).isNone
      if busy || full then
        let s := (s.incWrap F.PC_DUMP_STAT_SKIPPED r 1).raise (leafBit .PC_STICKY 2) 0
        s.raiseIf full (leafBit .PC_STICKY 3) 0
      else { s with dumpJobs := s.dumpJobs ++ [⟨r, s.dumpEntry r seq⟩] }

/-- DUMP_ENTRY_WRITTEN: a whole entry has been written (R593); it waits while its destination cannot be written (R529). -/
def State.dumpWritten (s : State) (r : Nat) : State :=
  match s.dumpJobs.find? (·.ring == r) with
  | none => s
  | some j =>
    match s.dumpPlace r (s.rd F.PC_DUMP_WR_IDX r) with
    | none => s
    | some a =>
      let s := if s.on F.PC_DUMP_CFG_DEST r then s.send (.busWrite a (j.bytes.map (·.toNat))) else s.ancWrite a j.bytes
      let s := { s with dumpJobs := s.dumpJobs.filter (·.ring != r) }
      (s.incWrap F.PC_DUMP_WR_IDX r 1).raise (leafBit .PC_STICKY 1) 0

/-- PC_DUMP_CTRL.STOP: the engine stops at once, every ring is disabled; a burst cut short is MRESET (R517, R593). -/
def State.dumpStop (s : State) (midBurst : Bool) : State :=
  let s := { s with dumpJobs := [] }
  (s.each (List.range 4) fun s r => s.wr F.PC_DUMP_CFG_EN r 0).raiseIf midBurst F.BM_STICKY_MRESET 0

/-- PC_DUMP_CFG_r takes a value; setting EN restarts SEQ, WR and RD at 0. -/
def State.writeDumpCfg (s : State) (r : Nat) (v : Word) : State :=
  let starts := F.PC_DUMP_CFG_EN.get v == 1
  let s := s.setReg .PC_DUMP_CFG r (v &&& 0xC01F07FF#32)
  if starts then
    (((s.setDumpSeq r 0).wr F.PC_DUMP_STAT_SEQ r 0).wr F.PC_DUMP_WR_IDX r 0).wr F.PC_DUMP_RD_IDX r 0
  else s

/-! ### PM history (R594 to R596) -/

/-- The entities that the image defines, in order (R594). -/
def State.pmEntities (s : State) : List PmEntity :=
  ((List.range 8).filter fun e => s.engineExists e && (s.native e || s.interop e) && s.governor e == e).map .line ++
    ((s.image.merge.filter fun r => F.MG_CFG_KIND.get r.cfg == 1).map fun r => .merged r.group) ++
    ((List.range 4).filter fun m => (match s.image.hierarchy with | some h => h.ports.testBit m | none => false)).map .port ++
    (s.allClients.map fun (q, c) => .client (2 * q + c)) ++ (s.image.trains.map fun t => .path t.id)

/-- The PM_HISTORY region. -/
def State.pmRegion (s : State) : Option RegionRec := s.regionOf 5 0

/-- E of R594. -/
def State.pmKept (s : State) : Nat := match s.pmRegion with | some r => r.size / 6592 | none => 0

/-- The history is kept. -/
def State.pmOn (s : State) : Bool := s.on F.PM_CFG_EN 0 && s.pmRegion.isSome

/-- OFS as the device uses it. -/
def State.pmOfs (s : State) : Nat := min 86399 (s.rd F.PM_CFG_OFS 0)

/-- TYPE and INDEX of an entity in its bins (R596). -/
def PmEntity.code : PmEntity → Nat × Nat
  | .line e => (1, e) | .merged g => (2, g) | .port m => (3, m) | .client n => (4, n) | .path t => (5, t)

/-- The eight counts of a commit, in the order of R596. -/
def Commit.counts (c : Commit) : List Nat :=
  [c.nearEs, c.nearSes, c.nearBbe, c.nearUas, c.farEs, c.farSes, c.farBbe, c.farUas]

/-- The 64 bytes of a bin (R596). -/
def pmBytes (y : PmEntity) (b : PmBin) (full : Nat) : List Byte :=
  let partialBin := decide (b.secs < full)
  let body := toBytes 6 (b.first * ticksPerSecond) ++ [BitVec.ofNat 8 y.code.1, BitVec.ofNat 8 (1 + 2 * partialBin.toNat)] ++
    toBytes 2 y.code.2 ++ toBytes 2 0 ++ toBytes 4 b.secs ++ (b.counts.flatMap (toBytes 4)) ++ List.replicate 12 0
  body ++ toBytes 4 (crc32 body).toNat

/-- Length of a bin of a kind in seconds: 15 minutes or a day. -/
def binLength (kind : Nat) : Nat := if kind == 0 then 900 else 86400

/-- The open bin of entity `x` closes: it is written if it holds a second (R596). -/
def State.closeBin (s : State) (x kind : Nat) (y : PmEntity) : State :=
  let b := s.bin x kind
  let s := s.setBin x kind {}
  if b.secs == 0 then s
  else
    match s.pmRegion with
    | some r =>
      let n := (b.first + s.pmOfs) / binLength kind
      let j := if kind == 0 then n % 96 else 96 + n % 7
      s.ancWrite (r.base + 64 * (103 * x + j)) (pmBytes y b (binLength kind))
    | none => s

/-- A committed second enters the open bins of entity `x`; its last second closes a bin (R596). -/
def State.binSecond (s : State) (x : Nat) (y : PmEntity) (sec : Nat) (c : Commit) : State :=
  if !s.pmOn || s.pmKept ≤ x then s
  else
    s.each [0, 1] fun s kind =>
      let b := s.bin x kind
      let b := { b with first := if b.secs == 0 then sec else b.first, secs := b.secs + 1,
                        counts := b.counts.zipWith (· + ·) c.counts }
      let s := s.setBin x kind b
      if (sec + s.pmOfs + 1) % binLength kind == 0 then s.closeBin x kind y else s

/-- Every open bin closes as PARTIAL: a new OFS, a class X commit (R596). -/
def State.closeBins (s : State) : State :=
  s.each s.pmEntities.zipIdx fun s (y, x) => s.each [0, 1] fun s kind => s.closeBin x kind y

/-- PM_STAT, and the event where entities are lost (R594). -/
def State.showPm (s : State) : State :=
  let n := s.pmEntities.length
  let s := (s.wr F.PM_STAT_DEFINED 0 (min n 65535)).wr F.PM_STAT_KEPT 0 (min s.pmKept 65535)
  s.raiseIf (s.pmOn && decide (s.pmKept < n)) (leafBit .PC_STICKY 4) 0

/-- The section of an entity. -/
def State.pmSectionOf (s : State) : PmEntity → Section
  | .line e => s.pmSection e
  | .merged g => (s.merge g).pm
  | .port m => s.pmSection (8 + m)
  | .client n => s.clientPm n
  | .path t => s.pathPm t

/-- The section of an entity replaced. -/
def State.setPmSectionOf (s : State) (y : PmEntity) (x : Section) : State :=
  match y with
  | .line e => s.setPmSection e x
  | .merged g => s.setMerge g { s.merge g with pm := x }
  | .port m => s.setPmSection (8 + m) x
  | .client n => s.setClientPm n x
  | .path t => s.setPathPm t x

/-- The PM counters that an entity's commit counts (LF_PM, MG_CNT, HR_CNT). -/
def State.countCommit (s : State) (y : PmEntity) (c : Commit) : State :=
  match y with
  | .line e => s.each c.counts.zipIdx fun s (n, i) => s.count ⟨.lf, i, e⟩ n
  | .merged g => s.each (c.counts.take 4).zipIdx fun s (n, i) => s.count ⟨.mg, 5 + i, g⟩ n
  | .port m => s.each c.counts.zipIdx fun s (n, i) => s.count ⟨.hr, i, m⟩ n
  | _ => s

/-- Clients and train paths in a tick (R595). -/
def State.tickPm (s : State) : State :=
  let s := s.each s.allClients fun s (q, c) =>
    let n := 2 * q + c
    let bad := s.tally 40 n != 0
    let bei := s.tally 41 n != 0
    let far := s.on (slotField F.QY_STAT_RX_RF c) q ||
      (s.on (slotField F.QY_STAT_RX_LF_BDI c) q && isOtn (s.clientType q c))
    let x := s.clientPm n
    s.setClientPm n { x with now := { x.now with
      blocks := x.now.blocks + 1, eb := x.now.eb + bad.toNat, d := x.now.d + (s.client n).fail.toNat,
      feb := x.now.feb + (bei && s.clientMap q c == 3).toNat, fd := x.now.fd + far.toNat } }
  s.each s.image.trains fun s t =>
    let x := s.pathPm t.id
    let down := s.on F.TR_STAT_SEQ_LOSS t.id || s.on F.TR_STAT_MIS t.id || s.on F.TR_STAT_SKEW t.id || s.on F.TR_STAT_AIS t.id
    s.setPathPm t.id { x with now := { x.now with
      blocks := x.now.blocks + t.k, eb := x.now.eb + s.tally 42 t.id, d := x.now.d + down.toNat,
      fd := x.now.fd + (s.on F.TR_STAT_RDI t.id).toNat } }

/-- SECOND_END: every section's second ends; the second ten before it is committed, counted and kept in the history; the SD conditions
of train groups are evaluated (R222 to R224, R356, R596). -/
def State.secondEnd (s : State) : State :=
  if s.tick.toNat % ticksPerSecond != 0 || s.secondAt == some s.now then s
  else
    let ended := if s.tick == 0 then (2 ^ 48 - 1) / ticksPerSecond else s.tick.toNat / ticksPerSecond - 1
    let s := { s with secondAt := some s.now }
    let s := s.each s.pmEntities.zipIdx fun s (y, x) =>
      let (z, c) := (s.pmSectionOf y).close
      let s := s.setPmSectionOf y z
      match c with
      | some c => (s.countCommit y c).binSecond x y (ended - 10) c
      | none => s
    s.each s.image.merge fun s r => s.mergeSecond r.group

/-! ### The commands -/

/-- Meaning of LOG_RECORD_WRITE. -/
def execLogRecordWrite (s : State) : Host.Outcome State Fault Refusal := .next s.logRecord

/-- Meaning of LOG_SUMMARY_WRITE. -/
def execLogSummaryWrite (s : State) : Host.Outcome State Fault Refusal := .next s.logSummary

/-- Meaning of EV_LOG_RD_WRITE. -/
def execEvLogRdWrite (m : Initiator) (v : Word) (s : State) : Host.Outcome State Fault Refusal :=
  .next ((s.writeLogRd (v.toNat % 8192)).reply m (.ok 0))

/-- Meaning of PC_EVSEL_WRITE. -/
def execPcEvselWrite (m : Initiator) (i : Fin 64) (v : Word) (s : State) : Host.Outcome State Fault Refusal :=
  .next (s.pcWrite m (0x2C000100 + 4 * i.val) fun t => t.setReg .PC_EVSEL i.val v)

/-- Meaning of PC_OVERFLOW: counter `i`, which selects an event of codes 1 to 7, counts `n` control cycles at once; where it wraps, it
sets its OVF bit. -/
def execPcOverflow (i : Fin 64) (n : Nat) (s : State) : Host.Outcome State Fault Refusal :=
  let code := s.rd F.PC_EVSEL_EVENT i.val
  .next (if 1 ≤ code && code ≤ 7 && indexOk code (s.rd F.PC_EVSEL_INDEX i.val) then s.pcAdd i.val n else s)

/-- Meaning of DUMP_RING_DUE. -/
def execDumpRingDue (s : State) : Host.Outcome State Fault Refusal := .next s.dumpDue

/-- Meaning of DUMP_ENTRY_WRITTEN. -/
def execDumpEntryWritten (r : Fin 4) (s : State) : Host.Outcome State Fault Refusal := .next (s.dumpWritten r.val)

/-- Meaning of DUMP_STOP. -/
def execDumpStop (m : Initiator) (midBurst : Bool) (s : State) : Host.Outcome State Fault Refusal :=
  .next (s.pcWrite m 0x2C000018 fun t => t.dumpStop midBurst)

/-- Meaning of DUMP_RING_ENABLE. -/
def execDumpRingEnable (m : Initiator) (r : Fin 4) (v : Word) (s : State) : Host.Outcome State Fault Refusal :=
  .next (s.pcWrite m (0x2C000600 + 32 * r.val) fun t => t.writeDumpCfg r.val v)

/-- PM_CFG takes a value: a new OFS closes the bins in progress (R596). -/
def State.writePmCfg (s : State) (v : Word) : State :=
  let s := if F.PM_CFG_OFS.get v != s.rd F.PM_CFG_OFS 0 then s.closeBins else s
  (s.setReg .PM_CFG 0 v).showPm

/-- Meaning of PM_OFS_WRITE. -/
def execPmOfsWrite (m : Initiator) (v : Word) (s : State) : Host.Outcome State Fault Refusal :=
  .next (s.pcWrite m 0x2C000020 fun t => t.writePmCfg v)

/-- Meaning of PC_CNT_LO_READ. -/
def execPcCntLoRead (m : Initiator) (i : Fin 65) (s : State) : Host.Outcome State Fault Refusal := .next (s.readPc m i.val)

/-- Meaning of SECOND_END. -/
def execSecondEnd (s : State) : Host.Outcome State Fault Refusal := .next s.secondEnd

end Sys2Proof.Machine
end

