-- ==== Sys2Proof/Machine/Image.lean ====
section
/-! DEFINITION. The structure image: what makes one invalid (R548 and the rules it names), and the built-in default image (R5, R563). -/

namespace Sys2Proof.Machine

/-- A rule that an image breaks: section TYPE, record index, rule number (R548). -/
abbrev Broken := Nat × Nat × Nat

/-- The records of a list that meet a condition, as broken rules. -/
def brokenWhere {α : Type} (sec rule : Nat) (xs : List α) (bad : α → Bool) : List Broken :=
  ((xs.zip (List.range xs.length)).filter fun x => bad x.1).map fun x => (sec, x.2, rule)

/-- Records that have an index of their own (lanes, quays, engines, manifest entries) and meet a condition. -/
def brokenAt {α : Type} (sec rule : Nat) (xs : List (Nat × α)) (bad : Nat → α → Bool) : List Broken :=
  (xs.filter fun x => bad x.1 x.2).map fun x => (sec, x.1, rule)

/-- One broken rule if a condition holds. -/
def brokenIf (sec rule : Nat) (c : Bool) : List Broken := if c then [(sec, 0, rule)] else []

/-! ### What an image says of a resource -/

/-- Record of an engine. -/
def Image.engine (im : Image) (e : Nat) : Option EngineRec := (im.engines.find? (·.1 == e)).map (·.2)

/-- FMT of an engine: 3 dark, also where it has no record. -/
def Image.format (im : Image) (e : Nat) : Nat := ((im.engine e).map fun r => F.LF_CFG_FMT.get r.lfCfg).getD 3

/-- Rate step n of an engine. -/
def Image.rateStep (im : Image) (e : Nat) : Nat := ((im.engine e).map fun r => F.LF_CFG_RSTEP.get r.lfCfg + 1).getD 0

/-- An engine is in HUB mode. -/
def Image.hub (im : Image) (e : Nat) : Bool := ((im.engine e).map fun r => F.LF_CFG_HUB.get r.lfCfg == 1).getD false

/-- An engine is in a carrier pair. -/
def Image.pair (im : Image) (e : Nat) : Bool := ((im.engine e).map fun r => F.LF_CFG_PAIR.get r.lfCfg == 1).getD false

/-- An engine runs in interop mode. -/
def Image.interopAt (im : Image) (e : Nat) : Bool := im.format e == 1 || im.format e == 2

/-- TIDE record of an engine. -/
def Image.tideOf (im : Image) (e : Nat) : Option TideRec := im.tide.find? (·.engine == e)

/-- Upstream subcarrier type of a HUB engine (R310). -/
def Image.upType (im : Image) (e i : Nat) : Nat := ((im.tideOf e).map fun r => r.sctype.toNat >>> (2 * i) % 4).getD 0

/-- The line engine of a berth port. -/
def lineEngine (p : Nat) : Option Nat := if 10240 ≤ p && p < 20480 then some ((p - 10240) / 1280) else none

/-- Rate code of a lane. -/
def Image.rate (im : Image) (l : Nat) : Nat := ((im.lanes.find? (·.1 == l)).map fun x => F.LN_CFG_RATE.get x.2.1).getD 0

/-- Record of a quay. -/
def Image.quay (im : Image) (q : Nat) : Option QuayRec := (im.quays.find? (·.1 == q)).map (·.2)

/-- Client type and mapping of a slot of a quay. -/
def Image.clientOf (im : Image) (q c : Nat) : Nat × Nat :=
  match im.quay q with
  | some r => ((slotField F.QY_CFG_C0_TYPE c).get r.cfg, (slotField F.QY_CFG_C0_MAP c).get r.cfg)
  | none => (0, 0)

/-- Quays of the gang that a quay leads. -/
def Image.gang (im : Image) (q : Nat) : Nat := ((im.quay q).map fun r => 2 ^ F.QY_CFG_GANG.get r.cfg).getD 1

/-- A train is created by a quay client or an interop engine (R546). -/
def Image.created (im : Image) (t : TrainRec) : Bool :=
  decide (t.first < 10240) || (match lineEngine t.first with | some e => im.interopAt e | none => false)

/-! ### Train sizes (R75, R151, R166, R167) -/

/-- The smallest train of a client in BIT, BLOCK or IDLE mapping (R151). -/
def clientSize (ty mapping rate : Nat) : Nat :=
  match ty with
  | 1 => 9 | 2 => 21 | 3 => 42 | 4 => if mapping == 2 then 80 else 83
  | 5 => 160 | 6 => 320 | 7 => 640 | 8 => 1280
  | 9 => (match rate with | 2 => 2 | 3 => 3 | 4 => 4 | 5 => 5 | 6 => 7 | 7 => 8 | 9 => 9 | 13 => 10 | 14 => 20 | _ => 1)
  | 10 | 11 => 9 | 12 => 90 | 14 => 2 | 15 => 8
  | _ => 1

/-- The size of an ODU train; an ODUflex of a rate in kb/s takes the smallest that R75 allows at ±100 ppm (R167). -/
def oduSize (ty flexRate : Nat) : Nat :=
  match ty with
  | 0 => 1 | 1 => 2 | 2 => 9 | 3 => 9 | 4 => 33 | 5 => 84
  | _ => (flexRate * 1000100 + 1250000 * 999750 - 1) / (1250000 * 999750)

/-- What a lower-order ODU is multiplexed into (R166): ODU2, ODU4, an ODUCn of n, or nothing. -/
inductive HighOrder where
  | odu2 | odu2e | odu4
  | oducn (n : Nat)
  deriving DecidableEq, Repr

/-- The slot counts that R166 allows an ODU of a type: from, to. -/
def oduSlots : HighOrder → Nat → Option (Nat × Nat)
  | .odu2, 0 => some (1, 1) | .odu2, 1 => some (2, 2) | .odu2, 6 => some (1, 8)
  | .odu2e, 3 => some (0, 0)
  | .odu4, 0 => some (1, 1) | .odu4, 1 => some (2, 2) | .odu4, 2 => some (8, 8) | .odu4, 3 => some (8, 8)
  | .odu4, 4 => some (31, 31) | .odu4, 6 => some (1, 80)
  | .oducn _, 0 => some (1, 1) | .oducn _, 1 => some (1, 1) | .oducn _, 2 => some (2, 2) | .oducn _, 3 => some (2, 2)
  | .oducn _, 4 => some (8, 8) | .oducn _, 5 => some (20, 20) | .oducn n, 6 => some (1, 20 * n)
  | _, _ => none

/-- The high-order ODU of a TRAINMAP record of kind 1 or 2 (R166, R227, R546). -/
def Image.highOrder (im : Image) (r : TrainMapRec) : Option HighOrder :=
  let top : Option HighOrder :=
    if r.kind == 2 then
      match im.format r.unit with | 1 => some (.oducn 2) | 2 => some (.oducn 4) | _ => none
    else
      match im.clientOf r.unit r.slot with
      | (10, 3) => some .odu2
      | (11, 3) => some .odu2e
      | (12, 3) => some .odu4
      | (13, 3) => (im.quay r.unit).map fun q => .oducn (F.QY_CFG_OTUC_N.get q.cfg)
      | _ => none
  if r.parent == 0xFFFF then top
  else match top with | some (.oducn _) => some .odu4 | _ => none

/-- Tributary slots of a high-order ODU. -/
def HighOrder.slots : HighOrder → Nat
  | .odu2 => 8 | .odu2e => 0 | .odu4 => 80 | .oducn n => 20 * n

/-- TRAINMAP records multiplexed into one high-order ODU beside a record. -/
def Image.siblings (im : Image) (r : TrainMapRec) : List TrainMapRec :=
  im.trainMap.filter fun x => x.kind == r.kind && x.unit == r.unit && x.slot == r.slot && x.parent == r.parent

/-- A TRAINMAP record breaks R166 or R227. -/
def Image.oduBroken (im : Image) (r : TrainMapRec) : Bool :=
  if r.kind == 0 then !r.slots.isEmpty
  else
    match im.highOrder r with
    | none => true
    | some h =>
      match oduSlots h r.oduType with
      | none => true
      | some (lo, hi) =>
        let others := (im.siblings r).filter fun x => x.train != r.train
        r.slots.length < lo || hi < r.slots.length || r.slots.any (fun k => k == 0 || h.slots < k) ||
          r.slots.eraseDups.length != r.slots.length || others.any fun x => x.slots.any r.slots.contains

/-! ### The sections in ascending TYPE -/

/-- DEVICE: the mode, and EXPANSION without a role (R35, R548). -/
def State.deviceBroken (s : State) (im : Image) : List Broken :=
  brokenIf 1 548 (im.mode == 1 || decide (11 < im.mode)) ++
    brokenIf 1 35 (im.mode == 8 && s.rd F.HR_CFG_ROLE 0 == 0)

/-- LANES (R123, R133, R417). -/
def State.lanesBroken (s : State) (im : Image) : List Broken :=
  let rate (c : Word) := F.LN_CFG_RATE.get c
  brokenAt 2 123 im.lanes (fun _ x => decide (20 ≤ rate x.1) && (rate x.1 != 31 || im.mode != 10)) ++
    brokenAt 2 133 im.lanes (fun _ x => F.LN_CFG_TRAIN_EN.get x.1 == 1 && !([15, 17, 18].contains (rate x.1))) ++
    brokenAt 2 417 im.lanes (fun _ x => F.LN_CFG_TRAIN_EN.get x.1 == 1 && s.on F.SY_STRAP_MATE_EN 0)

/-- ENGINES (R3, R238, R311). -/
def State.enginesBroken (s : State) (im : Image) : List Broken :=
  brokenAt 4 3 im.engines (fun e _ => im.format e != 3 && !s.engineExists e) ++
    brokenAt 4 311 im.engines (fun e r => im.hub e && (decide (r.k < 75) || decide (89 < r.k))) ++
    brokenAt 4 238 im.engines (fun e r => im.format e == 0 && !im.hub e &&
      (decide (r.k < 32) || decide (89 < r.k) || decide (819200 < frameSymbols (im.rateStep e) r.k)))

/-- The ports of a train at its source. -/
def TrainRec.ports (t : TrainRec) : List Nat := (List.range t.k).map (t.first + ·)

/-- A port that an image may not name in a train: of an absent engine (R3), or beyond a rate step (R48). -/
def State.portAbsent (s : State) (p : Nat) : Bool := match lineEngine p with | some e => !s.engineExists e | none => false

/-- A port beyond its engine's rate step (R48). -/
def Image.beyond (im : Image) (p : Nat) : Bool :=
  match lineEngine p with | some e => decide (im.berthSlots e ≤ (p - 10240) % 1280) | none => false

/-- Ports of a HUB engine among ports fall into more than one subcarrier, or into one that a test rejects (R307). -/
def Image.subcarriersBroken (im : Image) (ports : List Nat) (bad : Nat → Nat → Bool) : Bool :=
  (List.range 8).any fun e =>
    im.hub e &&
      (let subs := ((ports.filter fun p => lineEngine p == some e).map fun p => (p - 10240) % 1280 / 80).eraseDups
       decide (1 < subs.length) || subs.any (bad e))

/-- TRAINS (R3, R48, R75, R78, R307); R75 for the clients and ODUs that TRAINMAP places in them. -/
def State.trainsBroken (s : State) (im : Image) : List Broken :=
  let carriers (t : TrainRec) : List Nat :=
    (if t.first < 10240 then [] else t.ports) ++ ((im.manifest.filter fun x => entryAct x.2 != .idle && entryTrain x.2 == t.id).map (·.1))
  let tooSmall (t : TrainRec) : Bool :=
    im.trainMap.any fun r => r.train == t.id &&
      (if r.kind == 0 then
        let (ty, mp) := im.clientOf r.unit r.slot
        decide (t.k < clientSize ty mp (im.rate (2 * r.unit + r.slot)))
      else decide (t.k < oduSize r.oduType r.flexRate))
  brokenWhere 5 3 im.trains (fun t => t.ports.any s.portAbsent) ++
    brokenWhere 5 48 im.trains (fun t => t.ports.any im.beyond) ++
    brokenWhere 5 75 im.trains tooSmall ++
    brokenWhere 5 78 im.trains (fun t => t.k == 0 || decide (2560 < t.k) ||
      (decide (1280 < t.k) && (carriers t).any fun p => match lineEngine p with | some e => !im.pair e | none => false)) ++
    brokenWhere 5 307 im.trains (fun t => im.subcarriersBroken (if t.first < 10240 then [] else t.ports) fun e i => im.upType e i == 0)

/-- MANIFEST (R3, R48, R96, R307). -/
def State.manifestBroken (s : State) (im : Image) : List Broken :=
  let names (p : Nat) (w : Word) (bad : Nat → Bool) : Bool :=
    entryAct w != .idle && (bad p || (entryAct w == .connect && bad (entrySrc w)))
  let lit (e i : Nat) : Bool := ((im.tideOf e).map fun r => r.ds.toNat.testBit i).getD false
  let dark (p : Nat) : Bool := match lineEngine p with | some e => im.hub e && !lit e ((p - 10240) % 1280 / 80) | none => false
  let upDark (p : Nat) : Bool :=
    match lineEngine p with | some e => im.hub e && im.upType e ((p - 10240) % 1280 / 80) == 0 | none => false
  let split (w : Word) : Bool :=
    im.subcarriersBroken ((im.manifest.filter fun x => entryAct x.2 != .idle && entryTrain x.2 == entryTrain w).map (·.1)) fun _ _ => false
  let t := { s with swap := {} }
  brokenAt 6 3 im.manifest (fun p w => names p w s.portAbsent) ++
    brokenAt 6 48 im.manifest (fun p w => names p w im.beyond) ++
    brokenAt 6 96 im.manifest (fun p w => [1, 2, 3, 4, 5, 6, 7].any fun cause => t.entryFails im im.manifest cause (p, w)) ++
    brokenAt 6 307 im.manifest (fun p w =>
      entryAct w != .idle && (dark p || (entryAct w == .connect && upDark (entrySrc w)) || split w))

/-! ### Merge groups (R340, R355, R360, R544) -/

/-- A merge record's berth count. -/
def MergeRec.berths (r : MergeRec) : Nat := F.MG_RANGE_KSZ.get r.range
/-- A merge record is a line pair. -/
def MergeRec.line (r : MergeRec) : Bool := F.MG_CFG_KIND.get r.cfg == 1
/-- A merge record in MERGE mode. -/
def MergeRec.merges (r : MergeRec) : Bool := F.MG_CFG_MODE.get r.cfg == 0
/-- A merge record in the deep hold. -/
def MergeRec.deep (r : MergeRec) : Bool := F.MG_CFG_HOLD.get r.cfg == 1
/-- Range R of a merge record, in ticks. -/
def MergeRec.range' (r : MergeRec) : Nat := F.MG_RANGE_R.get r.range
/-- Bytes per tick b of a merge record (R355). -/
def MergeRec.bytes (r : MergeRec) : Nat := if r.line then 3584 * codewords (r.berths / 80) else 512 * r.berths
/-- Engines of a line pair. -/
def MergeRec.engines (r : MergeRec) : List Nat := [F.MG_CFG_ENG_A.get r.cfg, F.MG_CFG_ENG_B.get r.cfg]
/-- First ports of the instance ranges of a train group. -/
def MergeRec.firsts (r : MergeRec) : List Nat := [F.MG_INST_A0.get r.inst, F.MG_INST_B0.get r.inst]

/-- Two half-open ranges of one length each overlap. -/
def rangesMeet (a n b m : Nat) : Bool := decide (a < b + m) && decide (b < a + n)

/-- MERGE section. -/
def State.mergeBroken (s : State) (im : Image) : List Broken :=
  let limits (deep : Bool) : Bool :=
    let rs := im.merge.filter fun r => r.merges && r.deep == deep
    let sum := (rs.map fun r => if r.line then 80 * im.rateStep (F.MG_CFG_ENG_A.get r.cfg) else r.berths).sum
    decide ((if deep then (960 : Nat) else 5120) < sum) || (!deep && decide (4 < (rs.filter (·.line)).length))
  let native (e : Nat) : Bool := im.format e == 0
  brokenWhere 7 544 im.merge (fun r =>
      decide (1 < (im.merge.filter (·.group == r.group)).length) ||
        (if r.merges then
          match im.anchorage[r.region]? with | some a => a.kind != 1 || a.owner != r.group || a.deep != r.deep | none => true
        else r.region != 0xFFFF)) ++
    brokenWhere 7 3 im.merge (fun r => !r.line && r.firsts.any fun f => (List.range r.berths).any fun i => s.portAbsent (f + i)) ++
    brokenWhere 7 340 im.merge (fun r =>
      if r.line then
        im.mode != 7 || r.engines.any (fun e => !native e || im.hub e || im.pair e ||
            decide (1 < (im.merge.filter fun x => x.line && x.engines.contains e).length)) ||
          (match r.engines with | [a, b] => im.rateStep a != im.rateStep b || decide (b ≤ a) | _ => true)
      else
        let t := F.MG_CFG_TRAIN.get r.cfg
        let k := r.berths
        r.firsts.any (fun f => decide (f < 10240) || decide (23040 < f + k)) ||
          (match r.firsts with | [a, b] => rangesMeet a k b k | _ => true) ||
          im.merge.any (fun x => x.group != r.group && !x.line &&
            (F.MG_CFG_TRAIN.get x.cfg == t || r.firsts.any fun f => x.firsts.any fun g => rangesMeet f k g x.berths)) ||
          (match im.train t with | some y => y.k != k | none => true)) ++
    brokenWhere 7 355 im.merge (fun r => r.merges &&
      (decide (r.range' < 16) || decide ((if r.deep then (312500 : Nat) else 15625) < r.range') || limits r.deep ||
        (r.line && r.deep && decide (12 < im.rateStep (F.MG_CFG_ENG_A.get r.cfg))))) ++
    brokenWhere 7 360 im.merge (fun r => F.MG_CFG_APS.get r.cfg == 1 &&
      (r.merges || (if r.line then r.engines.all fun e => !native e
        else r.firsts.all fun f => match lineEngine f with | some e => !native e | none => true)))

/-! ### Contexts, Tide, Anchorage (R284, R307, R311, R501, R502, R505) -/

/-- The secondary of a line pair has other transmit contexts than its primary (R300, R348). -/
def Image.pairContexts (im : Image) (r : MergeRec) : Bool :=
  let sent (e : Nat) := (im.contexts.filter fun x => x.engine == e && x.dir == 0).map fun x => (x.ctx, x.cfg)
  match r.engines with
  | [a, b] => (sent a).any (fun x => !(sent b).contains x) || (sent b).any fun x => !(sent a).contains x
  | _ => false

/-- CONTEXTS section (R284, R348). -/
def Image.contextsBroken (im : Image) : List Broken :=
  let first (r : ContextRec) := F.SEC_CTX_CFG_S0.get r.cfg
  let size (r : ContextRec) := ((im.train (F.SEC_CTX_CFG_TRAIN.get r.cfg)).map (·.k)).getD 0
  let beside (r : ContextRec) := im.contexts.filter fun x => x.engine == r.engine && x.dir == r.dir && x.ctx != r.ctx
  brokenIf 8 348 ((im.merge.filter (·.line)).any im.pairContexts) ++ brokenWhere 8 284 im.contexts fun r =>
    im.interopAt r.engine ||
      (r.dir == 1 && im.hub r.engine && im.upType r.engine (first r / 80) == 2) ||
      (beside r).any (fun x => F.SEC_CTX_CFG_TRAIN.get x.cfg == F.SEC_CTX_CFG_TRAIN.get r.cfg ||
        rangesMeet (first r) (size r) (first x) (size x)) ||
      decide (im.berthSlots r.engine * (if im.pair r.engine then 2 else 1) < first r + size r)

/-- TIDE section: K_up, and leaves in a DARK subcarrier or across two (R307, R311). -/
def Image.tideBroken (im : Image) : List Broken :=
  let kup (r : TideRec) := F.TD_FMT_KUP.get r.fmt
  brokenWhere 10 311 (im.tide.filter fun r => im.hub r.engine) (fun r => decide (kup r < 75) || decide (89 < kup r)) ++
    brokenWhere 10 307 im.tide (fun r => r.leaves.any fun x =>
      im.upType r.engine (F.TD_LEAF_CFG_SC.get x.cfg) == 0 || decide (80 < F.TD_LEAF_CFG_SLOT.get x.cfg + F.TD_LEAF_CFG_K.get x.cfg))

/-- Entities of the PM history of an image (R594). -/
def Image.entities (im : Image) : Nat :=
  ((List.range 8).filter fun e => im.format e != 3 && !(im.pair e && e % 2 == 1)).length + (im.merge.filter (·.line)).length +
    (match im.hierarchy with | some h => ((List.range 4).filter h.ports.testBit).length | none => 0) +
    (im.quays.map fun (q, r) => if F.QY_CFG_LEAD.get r.cfg == q then
        (if F.QY_CFG_C0_TYPE.get r.cfg != 0 then 1 else 0) + (if F.QY_CFG_C1_TYPE.get r.cfg != 0 then 1 else 0) else 0).sum +
    im.trains.length

/-- A region breaks the form or the size of R502. -/
def Image.regionBroken (im : Image) (r : RegionRec) : Bool :=
  let group := im.merge.find? (·.group == r.owner)
  r.size == 0 || r.base % 2 ^ 20 != 0 || r.size % 2 ^ 20 != 0 || r.kind == 0 || decide (8 < r.kind) ||
    r.deep != decide (deepBase ≤ r.base) || (!r.deep && decide (deepBase < r.base + r.size)) ||
    (match r.kind with
     | 1 => (match group with | some g => decide (r.size < (g.range' + 4) * g.bytes) || !g.merges | none => true)
     | 2 => r.deep || decide (r.size < (((im.tideOf (r.owner / 16)).map fun t => F.TD_CFG_DT.get t.cfg).getD 0 + 72) * 40960)
     | 4 => decide (r.size < 2048)
     | 5 => decide (r.size < im.entities * 103 * 64)
     | 8 => decide (r.size < 2 ^ 29)
     | _ => false)

/-- Bandwidth that a region of a kind other than CAPTURE reserves, in bytes per second (R502, R593). -/
def State.reserves (s : State) (im : Image) (r : RegionRec) : Nat :=
  match r.kind with
  | 1 => (match im.merge.find? (·.group == r.owner) with | some g => 2 * g.bytes * 312500 | none => 0)
  | 2 => 25600000000
  | 3 => 0
  | 7 => s.dumpStride r.owner * 312500 / 2 ^ s.rd F.PC_DUMP_CFG_K r.owner
  | 8 => 1000000000
  | _ => 100000000

/-- Capacities of the holds that an image may use: near, deep, in bytes, and the channels of the deep hold. -/
structure Holds where
  near : Nat
  deep : Nat
  channels : Nat

/-- A hold's reserved bandwidth exceeds the usable figure (R498, R505, R506). -/
def State.holdOver (s : State) (im : Image) (h : Holds) (deep : Bool) : Bool :=
  let rs := im.anchorage.filter fun r => r.deep == deep
  let capture := if rs.any (·.kind == 3) then (if deep then 102400000000 else 2048000000000) else 0
  decide ((if deep then h.channels * 46080000000 else 5760000000000) < (rs.map (s.reserves im)).sum + capture)

/-- ANCHORAGE section (R501, R502, R505). -/
def State.anchorageBroken (s : State) (im : Image) (h : Holds) : List Broken :=
  brokenWhere 11 501 im.anchorage (fun r =>
      if r.deep then decide (deepBase + h.deep < r.base + r.size) else decide (h.near < r.base + r.size)) ++
    brokenWhere 11 502 im.anchorage (fun r => im.regionBroken r || decide (512 < im.anchorage.length) ||
      decide (1 < (im.anchorage.filter fun x => rangesMeet r.base r.size x.base x.size).length)) ++
    brokenIf 11 505 (s.holdOver im h false || s.holdOver im h true)

/-! ### Hierarchy, REGINIT, TRAINMAP (R454, R545, R546) -/

/-- HIERARCHY section (R454). -/
def State.hierarchyBroken (s : State) (im : Image) : List Broken :=
  match im.hierarchy with
  | none => []
  | some h =>
    let role := s.rd F.HR_CFG_ROLE 0
    brokenIf 12 454 ((role == 1 && h.id != 0) || (role == 2 && (h.id == 0 || decide (15 < h.id))) || (role != 0 && h.domain == 0))

/-- Registers that another section of R544 sets. -/
def sectionRegs : List Reg :=
  [.LN_CFG, .LN_CTRL, .QY_CFG, .QY_CA, .QY_MAP, .QY_TS_CTRL, .QY_TS_ADJ, .LF_CFG, .LE_CTRL, .LE_RAMP, .LE_DRV, .LE_RMP, .LE_LOS, .LF_CA,
   .TR_CTRL, .MG_CFG, .MG_INST, .MG_RANGE, .MG_CTRL, .SEC_CTX_CFG, .TD_CFG, .TD_FMT, .TD_SCTYPE, .TD_DS, .TD_THR, .TD_GS_BANK0,
   .TD_GS_BANK1, .TD_LEAF_CFG, .HR_CFG, .HR_DOMAIN, .HR_PORT_CFG, .MT_CFG, .MT_CTRL, .SV_CFG]

/-- REGINIT section (R545). -/
def Image.regInitBroken (im : Image) : List Broken :=
  brokenWhere 16 545 im.regInit fun (a, v) =>
    decide (a < 0x20000000) || decide (0x2FFFFFFF < a) ||
      (decide (0x21000000 ≤ a) && decide (a < 0x21200000) && decide (0x21100000 ≤ a)) ||
      (match regAt a with
       | some (r, _) =>
         let i := r.info
         let writable := i.rw ||| i.w1c ||| i.w1s ||| i.act
         writable == 0 || sectionRegs.contains r || v.toNat &&& i.impl != v.toNat &&& i.impl &&& writable
       | none => false)

/-- EGRESS of a TRAINMAP record breaks R546. -/
def Image.egressBroken (im : Image) (r : TrainMapRec) : Bool :=
  let here (x : TrainMapRec) : Bool := (x.kind == 2) == (r.kind == 2) && x.unit == r.unit
  let clients := ((im.trainMap.filter here).map (·.slot)).eraseDups
  if r.egress == 0xFFFE then false
  else if r.egress == 0xFFFF then r.kind != 0 || decide (1 < clients.length)
  else (im.train r.egress).isNone || im.trainMap.any fun x => here x && x.train != r.train && x.egress == r.egress

/-- A TRAINMAP record breaks R150: ports outside the gang, or more than 160g ports or 80g trains in it. -/
def Image.gangBroken (im : Image) (r : TrainMapRec) : Bool :=
  if r.kind == 2 then false
  else
    let g := im.gang r.unit
    let ts := (im.trainMap.filter fun x => x.kind ≤ 1 && x.unit == r.unit).filterMap fun x => im.train x.train
    ts.any (fun t => decide (t.first < 160 * r.unit) || decide (160 * (r.unit + g) < t.first + t.k)) ||
      decide (160 * g < (ts.map (·.k)).sum) || decide (80 * g < ts.length)

/-- TRAINMAP, TRACE and TESTRATE sections (R150, R166, R167, R227, R546). -/
def Image.mapBroken (im : Image) : List Broken :=
  let otu := (im.quays.flatMap fun (q, r) => if F.QY_CFG_LEAD.get r.cfg == q then [(q, 0), (q, 1)] else []).filter fun (q, c) =>
    isOtn (im.clientOf q c).1 && (im.clientOf q c).2 == 3
  let traced (u c : Nat) : Bool := im.trace.any fun t => t.1 == u && t.2.1 == c
  brokenIf 17 546 (im.trains.any fun t => im.created t && !im.trainMap.any (·.train == t.id)) ++
    brokenWhere 17 150 im.trainMap im.gangBroken ++
    brokenWhere 17 166 im.trainMap (fun r => r.kind != 2 && im.oduBroken r) ++
    brokenWhere 17 227 im.trainMap (fun r => r.kind == 2 && im.oduBroken r) ++
    brokenWhere 17 167 im.trainMap (fun r => r.kind != 0 &&
      (match im.train r.train with | some t => t.k != oduSize r.oduType r.flexRate | none => true)) ++
    brokenWhere 17 546 im.trainMap im.egressBroken ++
    brokenIf 18 546 (otu.any (fun (q, c) => !traced q c) ||
      (List.range 8).any fun e => im.interopAt e && !im.trace.any fun t => t.1 == 0x80 + e) ++
    brokenIf 19 546 (im.lanes.any fun (l, c, _) => F.LN_CFG_RATE.get c == 31 && !im.testRate.any (·.1 == l)) ++
    brokenWhere 19 546 im.testRate (fun (_, pam4, kbps) =>
      decide (kbps < if pam4 then 26560000 else 1250000) || decide ((if pam4 then 112500000 else 28200000) < kbps))

/-- Every rule the image breaks that R548 leaves to its content, in ascending section TYPE. -/
def State.contentBroken (s : State) (im : Image) (h : Holds) : List Broken :=
  s.deviceBroken im ++ s.lanesBroken im ++ s.enginesBroken im ++ s.trainsBroken im ++ s.manifestBroken im ++ s.mergeBroken im ++
    im.contextsBroken ++ im.tideBroken ++ s.anchorageBroken im h ++ s.hierarchyBroken im ++ im.regInitBroken ++ im.mapBroken

/-! ### The check of R548 -/

/-- Which public-key hash the signature verifies under (R551): 1 PKH0, 2 PKH1, 0 none. -/
def State.signedBy (s : State) (im : Image) : Nat :=
  match im.signer with
  | none => 0
  | some h =>
    if s.fuses.pkh0 == .value h && !s.fuses.revoke0 then 1
    else if s.fuses.pkh1 == .value h && !s.fuses.revoke1 then 2
    else 0

/-- Why an image is rejected, as the codes of SY_BOOT_STAT: 0 accepted, 2 header, 3 section, 4 target, 5 signature, 6 SVN, 8 rule
(R548); `digestOk` is the comparison of R559, code 7. -/
def State.imageReason (s : State) (im : Image) (h : Holds) (digestOk : Bool) : Nat :=
  if !im.headerOk then 2
  else if !im.sectionsOk then 3
  else if im.target != s.fuses.variant then 4
  else if im.svn < s.fuses.svn then 6
  else if s.fuses.sbEn && s.signedBy im == 0 then 5
  else if !digestOk then 7
  else if !(s.contentBroken im h).isEmpty then 8
  else 0

/-- The first fault found: the lowest section TYPE, then the lowest record index (R548). -/
def firstBroken : List Broken → Option Broken
  | [] => none
  | x :: t =>
    match firstBroken t with
    | some y => some (if y.1 < x.1 || (y.1 == x.1 && y.2.1 < x.2.1) then y else x)
    | none => some x

/-- Section, record and rule that SY_IMG_ERR and SY_IMG_RULE report (R548). -/
def State.imageFault (s : State) (im : Image) (h : Holds) : Option Broken :=
  match s.imageReason im h true with
  | 0 => none
  | 2 => some (0, 0, 541)
  | 3 => some (0, 0, 543)
  | 4 => some (0, 0, 4)
  | 6 => some (0, 0, 548)
  | 5 => some (0xFFFF, 0, 551)
  | _ => firstBroken (s.contentBroken im h)

/-- An image passes every check of R548 but its signature or SVN (R559). -/
def State.onlyUnsigned (s : State) (im : Image) (h : Holds) : Bool :=
  im.headerOk && im.sectionsOk && im.target == s.fuses.variant && (s.contentBroken im h).isEmpty &&
    (decide (im.svn < s.fuses.svn) || (s.fuses.sbEn && s.signedBy im == 0))

/-- The holds as they are installed and trained now. -/
def State.holds (s : State) : Holds := ⟨s.nearSize, s.deepSize, s.rd F.MM_ANC_STAT_DDR_CH 0⟩

/-! ### The built-in default image (R5, R563) -/

/-- A manifest entry: ACT = CONNECT, with the PAR bit that makes its ones even (R94). -/
def connectEntry (src train : Nat) : Word :=
  let w := BitVec.ofNat 32 (train * 2 ^ 15 + src)
  if evenOnes w then w else w ||| 0x80000000#32

/-- The default image for so many engines, each with its eight quays; the STAGING region lies in the near hold if there is one, else
in the deep hold. -/
def defaultImage (engines : Nat) (variant : Nat) (near deep : Bool) : Image :=
  let quays := 8 * engines
  { target := variant
    mode := 1
    pins := 0x5FF0
    lanes := (List.range (2 * quays)).map fun l => (l, F.LN_CFG_ENC.set (F.LN_CFG_RATE.set 0 18) 1, F.LN_CTRL_TX_EN.set 0 1)
    quays := (List.range quays).map fun q =>
      (q, ⟨F.QY_CFG_LEAD.set (F.QY_CFG_C0_TYPE.set (F.QY_CFG_C0_MAP.set 0 2) 5) q, regGet [] .QY_CA q, regGet [] .QY_MAP q,
        regGet [] .QY_TS_CTRL q, regGet [] .QY_TS_ADJ q⟩)
    engines := (List.range engines).map fun e =>
      (e, ⟨F.LF_CFG_RSTEP.set 0 15, 72, F.LE_CTRL_TX_EN.set (F.LE_CTRL_PSTATE.set (regGet [] .LE_CTRL e) 2) 1, regGet [] .LE_RAMP e,
        regGet [] .LE_DRV e, 0, regGet [] .LE_LOS e, regGet [] .LF_CA e⟩)
    trains := ((List.range quays).map fun q => ⟨q, 160, 160 * q, q, 0⟩) ++
      (List.range quays).map fun q =>
        ⟨64 + q, 160, 10240 + 160 * q, q, F.TR_CTRL_RET_EN.set (F.TR_CTRL_RTRAIN.set 0 q) 1⟩
    manifest := ((List.range quays).flatMap fun q => (List.range 160).map fun i =>
        (160 * q + i, connectEntry (10240 + 160 * q + i) (64 + q))) ++
      (List.range quays).flatMap fun q => (List.range 160).map fun i => (10240 + 160 * q + i, connectEntry (160 * q + i) q)
    trainMap := (List.range quays).map fun q => ⟨q, 0, q, 0, 0, 0xFFFF, 0, 0, 64 + q, []⟩
    anchorage := if near then [⟨8, false, 0, 0, 2 ^ 29⟩] else if deep then [⟨8, true, 0, deepBase, 2 ^ 29⟩] else [] }

end Sys2Proof.Machine
end

