-- ==== Sys2Proof/Machine/Lanes.lean ====
section
/-! DEFINITION. Client lanes (04_client_lanes.md): lane states, equalizers, link training, patterns, injection, loopbacks. -/

namespace Sys2Proof.Machine

/-! ### Lane states (R122, R126) -/

/-- The state of a lane (LN_STAT.STATE). -/
def State.laneState (s : State) (l : Nat) : LaneState := LaneState.ofCode (s.rd F.LN_STAT_STATE l)

/-- The quay uses the lane's receive data (R126). -/
def State.laneReceives (s : State) (l : Nat) : Bool := s.laneState l == .data || s.laneState l == .preset

/-- A lane holds something else beside its registers. -/
def State.modLane (s : State) (l : Nat) (f : Lane → Lane) : State := s.setLane l (f (s.lane l))

/-- Injection stops at once, and what waits is discarded (R143). -/
def State.stopInjection (s : State) (l : Nat) : State := s.modLane l fun x => { x with inverting := 0, injections := [] }

/-- The lane enters a state: the receive coefficients are held at the entry to DATA or PRESET (R131), and injection stops when it
leaves DATA and PRESET with no loopback in effect (R143). -/
def State.enterLane (s : State) (l : Nat) (st : LaneState) : State :=
  let s := (s.wr F.LN_STAT_STATE l st.code).modLane l fun x => { x with since := s.now }
  if st == .data || st == .preset then s.modLane l fun x => { x with held := x.rx }
  else if (s.lane l).loop == 0 then s.stopInjection l
  else s

/-- The lane trains: enabled by the image, at a rate that trains (R133), with no loopback enabled (R138). -/
def State.laneTrains (s : State) (l : Nat) : Bool :=
  let rate := s.rd F.LN_CFG_RATE l
  s.on F.LN_CFG_TRAIN_EN l && (rate == 15 || rate == 17 || rate == 18)

/-- ATTEMPTS and PARTNER clear, W returns to 1 s, back-off ends (R136). -/
def State.clearTraining (s : State) (l : Nat) : State :=
  let s := (((s.wr F.LN_TRAIN_STAT_ATTEMPTS l 0).wr F.LN_TRAIN_STAT_W_S l 1).wr F.LN_TRAIN_STAT_BACKOFF l 0).wr
    F.LN_TRAIN_STAT_PARTNER l 0
  s.modLane l fun x => { x with timedOut := false, retry := false }

/-- A training attempt starts now (R134). -/
def State.startAttempt (s : State) (l : Nat) : State :=
  (s.enterLane l .train).modLane l fun x => { x with attemptAt := s.now, toPreset := false }

/-- The preset transmit coefficients (R137): c(0) = 1, or those of the last completed training. -/
def State.presetTx (s : State) (l : Nat) : Word × Word :=
  if s.cfgOn F.LN_EQ_CTRL_PRESET l then ((s.lane l).trained).getD (0x80000000#32, 0#32) else (0x80000000#32, 0#32)

/-- The lane enters PRESET, with the preset coefficients (R126, R137). -/
def State.enterPreset (s : State) (l : Nat) : State :=
  (s.enterLane l .preset).modLane l fun x => { x with tx0 := (s.presetTx l).1, tx1 := (s.presetTx l).2, retry := false }

/-- A far-end loopback loses its signal: it ends at the next boundary (R145). -/
def State.loopSignalLost (s : State) (l : Nat) : State := if (s.lane l).loop == 2 then s.later (.loopLost l) else s

/-- The lane is in LOS or back in DATA or PRESET: a far-end loopback that MODE still selects resumes (R145). -/
def State.resumeLoop (s : State) (l : Nat) : State :=
  if s.cfg F.LN_LOOP_MODE l == 2 && (s.lane l).loop == 0 then
    (s.wr F.LN_STAT_LOOP_ON l 1).modLane l fun x => { x with loop := 2 }
  else s

/-- The lane ignores LOS: loopback mode 1 or 3 is active (R145). -/
def State.ignoresLos (s : State) (l : Nat) : Bool := (s.lane l).loop == 1 || (s.lane l).loop == 3

/-- LANE_LOS: input below the LOS assert level, SIGNAL 0; for 32 consecutive ticks, LOS (R126); the start in LOS of R122 raises LOS only now; an
attempt ends by LOS, uncounted (R134, R135); far-end loopback and injection end (R143, R145). -/
def State.laneLos (s : State) (l ticks : Nat) : State :=
  let s := if ticks == 0 || s.laneState l == .off then s else s.wr F.LN_STAT_SIGNAL l 0
  if ticks < 32 || s.laneState l == .off || s.ignoresLos l then s
  else if s.laneState l == .los then
    if (s.lane l).fresh then (s.raise F.LN_STICKY_LOS l).modLane l fun x => { x with fresh := false } else s
  else
    let s := if s.laneState l == .train then s.wr F.LN_TRAIN_STAT_LAST l 3 else s
    let s := s.loopSignalLost l
    let s := (s.enterLane l .los).wr F.LN_STAT_CDR_LOCK l 0
    let s := s.stopInjection l
    let s := s.modLane l fun x => { x with fresh := false, toPreset := false }
    s.raise F.LN_STICKY_LOS l

/-- LANE_SIG_OK: input above the deassert level, SIGNAL 1; for 3,125 consecutive ticks: the lane leaves LOS, to TRAIN on a trained lane
and to ACQUIRE otherwise, with its training cleared (R126, R136). -/
def State.laneSigOk (s : State) (l ticks : Nat) : State :=
  let s := if ticks == 0 || s.laneState l == .off then s else s.wr F.LN_STAT_SIGNAL l 1
  if ticks < 3125 || s.laneState l != .los then s
  else
    let s := s.modLane l fun x => { x with fresh := false }
    let s := s.clearTraining l
    let s := if s.laneTrains l && s.cfg F.LN_LOOP_MODE l == 0 then s.startAttempt l
      else (s.enterLane l .acquire).modLane l fun x => { x with toPreset := false }
    s.raise F.LN_STICKY_SIG_OK l

/-- LANE_ACQUIRED: CDR locked and the error estimate low for 64 consecutive ticks: ACQUIRE ends in DATA, or in PRESET on a
trained lane that came from PRESET or from an attempt a loopback ended, except under loopback mode 1 or 3 (R126, R145). -/
def State.laneAcquired (s : State) (l ticks : Nat) : State :=
  if ticks < 64 || s.laneState l != .acquire then s
  else
    let s := s.wr F.LN_STAT_CDR_LOCK l 1
    let s := if (s.lane l).toPreset && s.laneTrains l && !s.ignoresLos l then s.enterPreset l else s.enterLane l .data
    (s.modLane l fun x => { x with toPreset := false }).resumeLoop l

/-- LANE_ACQUIRE_TIMEOUT: ACQUIRE has not reached DATA within 31,250 ticks: LOL, start values, ACQUIRE again (R127). -/
def State.laneAcquireTimeout (s : State) (l : Nat) : State :=
  if s.laneState l != .acquire || !s.elapsed (s.lane l).since 31250 then s
  else (s.raise F.LN_STICKY_LOL l).modLane l fun x => { x with rx := {}, since := s.now }

/-- LANE_CDR_LOSS: loss of CDR lock in DATA or PRESET raises LOL and leads to ACQUIRE, from PRESET back to PRESET (R126, R127);
in TRAIN the attempt goes on without LOL (R134); mode 3 involves no CDR (R145). -/
def State.laneCdrLoss (s : State) (l : Nat) : State :=
  if (s.lane l).loop == 3 then s
  else if s.laneReceives l then
    let toPreset := s.laneState l == .preset
    let s := s.loopSignalLost l
    let s := ((s.enterLane l .acquire).wr F.LN_STAT_CDR_LOCK l 0).stopInjection l
    (s.modLane l fun x => { x with toPreset := toPreset }).raise F.LN_STICKY_LOL l
  else if s.laneState l == .train then s.wr F.LN_STAT_CDR_LOCK l 0
  else s

/-! ### Equalizers (R128 to R132) -/

/-- A field of a word kept within limits as a two's-complement number. -/
def clampField (hi lo : Nat) (mn mx : Int) (w : Word) : Word :=
  let f : Field := ⟨.LN_RXEQ, hi, lo⟩
  f.set w (unsigned f.width (clampInt mn mx (signed f.width (f.get w))))

/-- Feed-forward taps kept within ±64/128 (R128). -/
def clampTaps (w : Word) : Word :=
  clampField 31 24 (-64) 64 (clampField 23 16 (-64) 64 (clampField 15 8 (-64) 64 (clampField 7 0 (-64) 64 w)))

/-- Slicer offsets kept within ±25 % (R128, R131). -/
def clampSlicer (w : Word) : Word :=
  clampField 23 16 (-50) 50 (clampField 15 8 (-50) 50 (clampField 7 0 (-50) 50 (w &&& 0xFFFFFF#32)))

/-- CTLE, VGA and DFE kept within their ranges (R128). -/
def clampEq (w : Word) : Word :=
  let h1 := min ((w.toNat >>> 16) % 256) 77
  let vga := min ((w.toNat >>> 8) % 32) 24
  let ctle := min (w.toNat % 64) 40
  BitVec.ofNat 32 (h1 <<< 16 ||| vga <<< 8 ||| ctle)

/-- Receive coefficients kept within the ranges of R128; an NRZ lane has no slicer offsets (R130). -/
def clampRx (pam4 : Bool) (x : RxCoef) : RxCoef :=
  { eq := clampEq x.eq, ffe0 := clampTaps x.ffe0, ffe1 := clampTaps x.ffe1,
    ffe2 := clampTaps (x.ffe2 &&& 0xFFFFFF#32), slicer := if pam4 then clampSlicer x.slicer else 0#32 }

/-- A slicer threshold stands at ±25 % (R131). -/
def slicerAtLimit (w : Word) : Bool :=
  [16, 8, 0].any fun lo => let n := (w.toNat >>> lo) % 256; n == 50 || n == 206

/-- A pattern code is valid on the lane: 0 to 9, with 6 and 7 on PAM4 lanes only (R139). -/
def State.patternValid (s : State) (l code : Nat) : Bool := decide (code ≤ 9) && (s.on F.LN_CFG_ENC l || !(code == 6 || code == 7))

/-- The equalizer loop of a lane is frozen: device-wide or by its own bit, but never in training (R39, R41, R132). -/
def State.eqFrozen (s : State) (l : Nat) : Bool :=
  ((s.rd F.SY_LOOP_STAT_FROZEN 0).testBit 3 || s.cfgOn F.LN_EQ_CTRL_EQ_FRZ l) && s.laneState l != .train

/-- The slicer loop of a lane is frozen (R39, R41, R132). -/
def State.slicerFrozen (s : State) (l : Nat) : Bool :=
  ((s.rd F.SY_LOOP_STAT_FROZEN 0).testBit 4 || s.cfgOn F.LN_EQ_CTRL_SLC_FRZ l) && s.laneState l != .train

/-- The lane's receive loops run (R130); under mode 3 no analog circuit is involved (R144). -/
def State.laneAdapts (s : State) (l : Nat) : Bool :=
  (s.laneState l == .acquire || s.laneState l == .train || s.laneReceives l) && (s.lane l).loop != 3

/-- LANE_ADAPT: the loops of a lane reach new coefficients in a tick, within their ranges, unless frozen (R130 to R132). -/
def State.laneAdapt (s : State) (l : Nat) (x : RxCoef) : State :=
  if !s.laneAdapts l then s
  else
    let old := (s.lane l).rx
    let new := clampRx (s.on F.LN_CFG_ENC l) x
    let new := if s.eqFrozen l then { old with slicer := new.slicer } else new
    let new := if s.slicerFrozen l then { new with slicer := old.slicer } else new
    (s.modLane l fun y => { y with rx := new }).raiseIf (slicerAtLimit new.slicer && new.slicer != old.slicer)
      F.LN_STICKY_SLICER_LIMIT l

/-- LANE_EQ_RESET: the error estimate above the divergence threshold over 64 ticks in DATA or PRESET reloads the coefficients
held at the last entry, frozen or not (R131). -/
def State.laneEqReset (s : State) (l ticks : Nat) : State :=
  if ticks < 64 || !s.laneReceives l then s
  else
    let s := s.modLane l fun x => { x with rx := x.held }
    (s.incWrap F.LN_STAT_EQ_RESETS l 1).raise F.LN_STICKY_LANE_EQ_RESET l

/-- The checker runs (R139, R141). -/
def State.checking (s : State) (l : Nat) : Bool := s.cfgOn F.LN_PAT_CHK_EN l && s.patternValid l (s.cfg F.LN_PAT_CHK_PAT l)

/-- What the lane publishes at a boundary (R40, R132): in PRESET its transmitter uses the coefficients selected now (R137); a checker that
does not run is not in sync (R141). -/
def State.publishLane (s : State) (l : Nat) : State :=
  let s := if s.laneState l == .preset then s.modLane l fun x => { x with tx0 := (s.presetTx l).1, tx1 := (s.presetTx l).2 } else s
  let s := if s.checking l then s else (s.wr F.LN_STAT_PAT_LOCK l 0).wr F.LN_STAT_PAT_INV l 0
  let x := s.lane l
  let s := (s.setReg .LN_TXFFE0 l x.tx0).setReg .LN_TXFFE1 l x.tx1
  let s := (s.setReg .LN_RXEQ l x.rx.eq).setReg .LN_RXFFE0 l x.rx.ffe0
  ((s.setReg .LN_RXFFE1 l x.rx.ffe1).setReg .LN_RXFFE2 l x.rx.ffe2).setReg .LN_SLICER l x.rx.slicer

/-! ### Link training (R133 to R138) -/

/-- Transmit coefficients training controls: c(−1) to c(1) at NRZ, c(−3) to c(1) at PAM4; the other taps are 0 (R129). -/
def trainedTaps (pam4 : Bool) (t0 t1 : Word) : Word × Word :=
  (if pam4 then t0 else t0 &&& 0xFFFF0000#32, t1 &&& 0xFF#32)

/-- TRAIN_DONE: both ends report receiver ready: DATA at the next boundary, TRAIN_DONE, and any back-off ends; a PAM4 lane takes the
precoding that the partner's receiver requests (R124, R134). -/
def State.trainDone (s : State) (l : Nat) (t0 t1 : Word) (txPrecode : Bool) : State :=
  if s.laneState l != .train then s
  else
    let taps := trainedTaps (s.on F.LN_CFG_ENC l) t0 t1
    let s := (s.wr F.LN_TRAIN_STAT_LAST l 0).wr F.LN_TRAIN_STAT_BACKOFF l 0
    let s := s.wr F.LN_TRAIN_STAT_PARTNER l 1
    let s := if s.on F.LN_CFG_ENC l then s.wrBool F.LN_CTRL_TX_PRECODE l txPrecode else s
    let s := s.modLane l fun x => { x with tx0 := taps.1, tx1 := taps.2, trained := some taps, retry := false }
    (s.raise F.LN_STICKY_TRAIN_DONE l).later (.laneData l)

/-- At the boundary after training completed the lane enters DATA (R134). -/
def State.laneDataAt (s : State) (l : Nat) : State :=
  if s.laneState l == .train then ((s.enterLane l .data).wr F.LN_STAT_CDR_LOCK l 1).resumeLoop l else s

/-- TRAIN_ATTEMPT_END: an attempt has run its 156,250 ticks: timed out if valid training frames came, silent otherwise; counted,
and after the eighth TRAIN_FAIL and PRESET, with back-off if all were silent; a silent retry doubles W (R134, R135). -/
def State.trainAttemptEnd (s : State) (l : Nat) (frames : Bool) : State :=
  if s.laneState l != .train || !s.elapsed (s.lane l).attemptAt 156250 then s
  else
    let x := s.lane l
    let s := s.wr F.LN_TRAIN_STAT_LAST l (if frames then 1 else 2)
    let s := if frames then s.wr F.LN_TRAIN_STAT_PARTNER l 1 else s
    if x.retry then
      if frames then (s.wr F.LN_TRAIN_STAT_BACKOFF l 0).enterPreset l
      else
        let s := s.wr F.LN_TRAIN_STAT_W_S l (min (2 * s.rd F.LN_TRAIN_STAT_W_S l) 16)
        (s.enterPreset l).modLane l fun y => { y with waitFrom := s.now }
    else
      let n := s.rd F.LN_TRAIN_STAT_ATTEMPTS l + 1
      let timedOut := x.timedOut || frames
      let s := (s.wr F.LN_TRAIN_STAT_ATTEMPTS l n).modLane l fun y => { y with timedOut := timedOut }
      if n < 8 then s.startAttempt l
      else
        let s := (s.raise F.LN_STICKY_TRAIN_FAIL l).enterPreset l
        if timedOut then s
        else
          ((s.wr F.LN_TRAIN_STAT_BACKOFF l 1).wr F.LN_TRAIN_STAT_W_S l 1).modLane l fun y => { y with waitFrom := s.now }

/-- The wait W of the back-off has elapsed in PRESET, or in the ACQUIRE a lane in PRESET passes through (R135). -/
def State.retryDue (s : State) (l : Nat) : Bool :=
  s.on F.LN_TRAIN_STAT_BACKOFF l && !s.cfgOn F.LN_TRAIN_CTRL_BACKOFF_DIS l &&
    (s.laneState l == .preset || (s.laneState l == .acquire && (s.lane l).toPreset)) &&
    s.cfg F.LN_LOOP_MODE l == 0 &&
    s.elapsed (s.lane l).waitFrom (s.rd F.LN_TRAIN_STAT_W_S l * ticksPerSecond)

/-- BACKOFF_RETRY: W has elapsed and one more attempt starts (R126, R135). -/
def State.backoffRetry (s : State) (l : Nat) : State :=
  if s.retryDue l then (s.startAttempt l).modLane l fun x => { x with retry := true } else s

/-- Effect of LN_TRAIN_CTRL.RESTART: training ends and is cleared; a new attempt at the next boundary, but none in LOS (R136). -/
def State.restartTraining (s : State) (l : Nat) : State :=
  if !s.on F.LN_CFG_TRAIN_EN l || s.laneState l == .off then s
  else
    let s := s.clearTraining l
    if s.laneState l == .los then s else s.later (.laneTrain l)

/-- At the boundary the new attempt starts, unless a loopback is enabled or the lane has met LOS (R136, R138). -/
def State.laneTrainAt (s : State) (l : Nat) : State :=
  if s.laneTrains l && s.cfg F.LN_LOOP_MODE l == 0 && s.laneState l != .los && s.laneState l != .off then s.startAttempt l
  else s

/-- Effect of a write of BACKOFF_DIS: while 1 no retries; clearing it lets W run again from the boundary at which the clear takes
effect (R135). -/
def State.setBackoffDis (s : State) (l : Nat) (on : Bool) : State :=
  let s := s.wrBool F.LN_TRAIN_CTRL_BACKOFF_DIS l on
  if !on && s.cfgOn F.LN_TRAIN_CTRL_BACKOFF_DIS l then s.modLane l fun x => { x with waitFrom := s.now + 1 } else s

/-! ### Loopbacks (R138, R144, R145) -/

/-- Effect of LN_LOOP with a mode of 1 to 3: it takes effect at the next boundary. -/
def State.setLoop (s : State) (l mode : Nat) (squelch : Bool) : State :=
  ((s.wr F.LN_LOOP_MODE l mode).wrBool F.LN_LOOP_TX_SQ l squelch).later (.loopOn l mode)

/-- Effect of LN_LOOP with MODE 0. -/
def State.releaseLoop (s : State) (l : Nat) : State := (s.wr F.LN_LOOP_MODE l 0).later (.loopOff l)

/-- A loopback that was enabled is released: a trained lane starts a new attempt, with its training cleared, if a signal is present;
otherwise the lane acquires its own input again after mode 1 or 3 (R126, R136, R138, R146). -/
def State.loopOffAt (s : State) (l : Nat) : State :=
  let was := (s.lane l).enabled
  if s.laneState l == .off || s.rd F.LN_LOOP_MODE l != 0 || was == 0 then s
  else
    let s := (s.wr F.LN_STAT_LOOP_ON l 0).modLane l fun x => { x with loop := 0, enabled := 0 }
    let s := if s.laneTrains l then s.clearTraining l else s
    if s.laneTrains l && s.on F.LN_STAT_SIGNAL l then (s.raiseIf (s.laneState l == .los) F.LN_STICKY_SIG_OK l).startAttempt l
    else if (was == 1 || was == 3) && s.laneState l != .los then
      (s.enterLane l .acquire).modLane l fun x => { x with toPreset := false }
    else s

/-- A loopback takes effect, if MODE still selects it and did not before: an attempt in progress ends uncounted in ACQUIRE (R138); mode 1
acquires the looped path; mode 3 is in DATA at once; either leaves LOS; mode 2 runs only in DATA or PRESET, and after mode 1 or 3 the
lane acquires its own input first (R144 to R146). -/
def State.loopOnAt (s : State) (l mode : Nat) : State :=
  let was := (s.lane l).enabled
  if mode == 0 then s.loopOffAt l
  else if s.laneState l == .off || s.rd F.LN_LOOP_MODE l != mode || was == mode then s
  else
    let s := s.modLane l fun x => { x with enabled := mode }
    let s := if s.laneState l == .train then
        (s.enterLane l .acquire).modLane l fun x => { x with toPreset := true }
      else s
    let s := if was != 0 && s.laneTrains l then s.clearTraining l else s
    let s := s.raiseIf (s.laneState l == .los && mode != 2) F.LN_STICKY_SIG_OK l
    match mode with
    | 1 => ((s.modLane l fun x => { x with loop := 1 }).enterLane l .acquire).wr F.LN_STAT_LOOP_ON l 1
    | 3 => ((s.modLane l fun x => { x with loop := 3 }).enterLane l .data).wr F.LN_STAT_LOOP_ON l 1
    | 2 =>
      let s := s.modLane l fun x => { x with loop := 0 }
      let s := if was == 1 || was == 3 then (s.enterLane l .acquire).modLane l fun x => { x with toPreset := false } else s
      if s.laneReceives l then (s.modLane l fun x => { x with loop := 2 }).wr F.LN_STAT_LOOP_ON l 1
      else s.wr F.LN_STAT_LOOP_ON l 0
    | _ => s

/-- A far-end loopback ends for want of a signal; MODE still reads 2 (R145). -/
def State.loopLostAt (s : State) (l : Nat) : State :=
  if (s.lane l).loop == 2 then
    ((s.wr F.LN_STAT_LOOP_ON l 0).modLane l fun x => { x with loop := 0 }).raise F.LN_STICKY_LOOP_LOST l
  else s

/-! ### Patterns and injection (R139 to R143) -/

/-- LN_STAT.PAT_BAD: generator or checker code not valid, enabled or not (R139). -/
def State.patBad (s : State) (l : Nat) : Bool :=
  !s.patternValid l (s.rd F.LN_PAT_GEN_PAT l) || !s.patternValid l (s.rd F.LN_PAT_CHK_PAT l)

/-- PAT_SYNC: 256 consecutive error-free bits of the pattern or its complement (R141). -/
def State.patSync (s : State) (l bits : Nat) (inverted : Bool) : State :=
  if bits < 256 || !s.checking l || s.on F.LN_STAT_PAT_LOCK l then s
  else ((s.wr F.LN_STAT_PAT_LOCK l 1).wrBool F.LN_STAT_PAT_INV l inverted).raise F.LN_STICKY_PAT_SYNC l

/-- PAT_SYNC_LOSS: 32 or more errors in 256 compared bits (R141). -/
def State.patSyncLoss (s : State) (l errors : Nat) : State :=
  if errors < 32 || !s.on F.LN_STAT_PAT_LOCK l then s
  else (s.wr F.LN_STAT_PAT_LOCK l 0).raise F.LN_STICKY_PAT_SYNC_LOSS l

/-- Bits compared in a tick, counted only while in sync; an error raises PAT_ERR (R141, R146). -/
def State.patCount (s : State) (l compared errors : Nat) : State :=
  if !s.on F.LN_STAT_PAT_LOCK l || !s.checking l then s
  else
    let s := (s.count ⟨.lnBits, 0, l⟩ compared).count ⟨.lnErr, 0, l⟩ errors
    s.raiseIf (decide (0 < errors)) F.LN_STICKY_PAT_ERR l

/-- Both checker counts clear together (R141). -/
def State.patClearAt (s : State) (l : Nat) : State := (s.setCtr ⟨.lnBits, 0, l⟩ 0).setCtr ⟨.lnErr, 0, l⟩ 0

/-- Interval of rate injection in bits: (M + 1) × 2^E, at least 64 (R142). -/
def injectInterval (m e : Nat) : Nat := max ((m + 1) * 2 ^ e) 64

/-- Injection may act: the lane is in DATA, PRESET or a loopback (R143). -/
def State.injects (s : State) (l : Nat) : Bool := s.laneReceives l || (s.lane l).loop != 0

/-- A single or burst injection starts in this tick, or waits for the burst in progress (R142, R143). -/
def State.injectAt (s : State) (l bits : Nat) : State :=
  if !s.injects l then s
  else s.modLane l fun x =>
    if x.inverting == 0 then { x with inverting := bits } else { x with injections := x.injections ++ [bits] }

/-- The injection of the ending tick is done; the next one waiting starts (R143). -/
def nextInjection (x : Lane) : Lane :=
  match x.injections with
  | [] => { x with inverting := 0 }
  | n :: rest => { x with inverting := n, injections := rest }

/-! ### The commands -/

/-- Meaning of LANE_ADAPT. -/
def execLaneAdapt (l : Fin 128) (eq : RxCoef) (s : State) : Host.Outcome State Fault Refusal := .next (s.laneAdapt l.val eq)

/-- Meaning of LANE_EQ_RESET. -/
def execLaneEqReset (l : Fin 128) (ticks : Nat) (s : State) : Host.Outcome State Fault Refusal :=
  .next (s.laneEqReset l.val ticks)

/-- Meaning of LANE_LOS. -/
def execLaneLos (l : Fin 128) (ticks : Nat) (s : State) : Host.Outcome State Fault Refusal := .next (s.laneLos l.val ticks)

/-- Meaning of LANE_SIG_OK. -/
def execLaneSigOk (l : Fin 128) (ticks : Nat) (s : State) : Host.Outcome State Fault Refusal :=
  .next (s.laneSigOk l.val ticks)

/-- Meaning of LANE_ACQUIRED. -/
def execLaneAcquired (l : Fin 128) (ticks : Nat) (s : State) : Host.Outcome State Fault Refusal :=
  .next (s.laneAcquired l.val ticks)

/-- Meaning of LANE_ACQUIRE_TIMEOUT. -/
def execLaneAcquireTimeout (l : Fin 128) (s : State) : Host.Outcome State Fault Refusal := .next (s.laneAcquireTimeout l.val)

/-- Meaning of LANE_CDR_LOSS. -/
def execLaneCdrLoss (l : Fin 128) (s : State) : Host.Outcome State Fault Refusal := .next (s.laneCdrLoss l.val)

/-- Meaning of TRAIN_DONE. -/
def execTrainDone (l : Fin 128) (ffe0 ffe1 : Word) (txPrecode : Bool) (s : State) : Host.Outcome State Fault Refusal :=
  .next (s.trainDone l.val ffe0 ffe1 txPrecode)

/-- Meaning of TRAIN_ATTEMPT_END. -/
def execTrainAttemptEnd (l : Fin 128) (frames : Bool) (s : State) : Host.Outcome State Fault Refusal :=
  .next (s.trainAttemptEnd l.val frames)

/-- Meaning of BACKOFF_RETRY. -/
def execBackoffRetry (l : Fin 128) (s : State) : Host.Outcome State Fault Refusal := .next (s.backoffRetry l.val)

/-- Meaning of TRAINING_RESTART: the lane of the writing master's LN_CHSEL. -/
def execTrainingRestart (m : Initiator) (s : State) : Host.Outcome State Fault Refusal :=
  .next (s.write m 0x23000030 (.trainRestart (s.laneSel m)) fun t => t.restartTraining (s.laneSel m))

/-- Meaning of BACKOFF_DIS_WRITE. -/
def execBackoffDisWrite (m : Initiator) (on : Bool) (s : State) : Host.Outcome State Fault Refusal :=
  .next (s.write m 0x23000030 (.backoffDis (s.laneSel m) on) fun t => t.setBackoffDis (s.laneSel m) on)

/-- Meaning of LOOPBACK_SET. -/
def execLoopbackSet (m : Initiator) (mode : Fin 4) (squelch : Bool) (s : State) : Host.Outcome State Fault Refusal :=
  .next (s.write m 0x23000060 (.loopSet (s.laneSel m) mode.val squelch) fun t => t.setLoop (s.laneSel m) mode.val squelch)

/-- Meaning of LOOPBACK_RELEASE. -/
def execLoopbackRelease (m : Initiator) (s : State) : Host.Outcome State Fault Refusal :=
  .next (s.write m 0x23000060 (.loopRelease (s.laneSel m)) fun t => t.releaseLoop (s.laneSel m))

/-- Meaning of PAT_SYNC. -/
def execPatSync (l : Fin 128) (bits : Nat) (inverted : Bool) (s : State) : Host.Outcome State Fault Refusal :=
  .next (s.patSync l.val bits inverted)

/-- Meaning of PAT_SYNC_LOSS. -/
def execPatSyncLoss (l : Fin 128) (errors : Nat) (s : State) : Host.Outcome State Fault Refusal :=
  .next (s.patSyncLoss l.val errors)

/-- Meaning of PAT_CHK_CLR: both counts clear at the next boundary (R141). -/
def execPatChkClr (m : Initiator) (s : State) : Host.Outcome State Fault Refusal :=
  .next (s.write m 0x23000074 (.patClr (s.laneSel m)) fun t => t.later (.patClear (s.laneSel m)))

/-- Meaning of INJECT_SINGLE: one bit in the tick after the next boundary (R142). -/
def execInjectSingle (m : Initiator) (s : State) : Host.Outcome State Fault Refusal :=
  .next (s.write m 0x23000080 (.injectSingle (s.laneSel m)) fun t => t.later (.inject (s.laneSel m) 1))

/-- Effect of LN_INJ.BURST with a BLEN: BLEN + 1 bits in the tick after the next boundary (R142). -/
def State.injectBurst (s : State) (l blen : Nat) : State := (s.wr F.LN_INJ_BLEN l blen).later (.inject l (blen + 1))

/-- Meaning of INJECT_BURST. -/
def execInjectBurst (m : Initiator) (blen : Fin 256) (s : State) : Host.Outcome State Fault Refusal :=
  .next (s.write m 0x23000080 (.injectBurst (s.laneSel m) blen.val) fun t => t.injectBurst (s.laneSel m) blen.val)

/-- Effect of TX_FAULT: the transmitter holds electrical idle until TX_EN is written 0 and then 1 (R146). -/
def State.txFault (s : State) (l : Nat) : State :=
  if s.laneState l == .off then s
  else (s.modLane l fun x => { x with faultHold := true }).raise F.LN_STICKY_TX_FAULT l

/-- Meaning of TX_FAULT. -/
def execTxFault (l : Fin 128) (s : State) : Host.Outcome State Fault Refusal := .next (s.txFault l.val)

/-- Meaning of LN_ERR_LO_READ. -/
def execLnErrLoRead (m : Initiator) (s : State) : Host.Outcome State Fault Refusal :=
  .next (s.readLatched m F.LN_ERR_HI_ERR_HI (s.ctr ⟨.lnErr, 0, s.laneSel m⟩))

/-- Meaning of LN_BITS_LO_READ. -/
def execLnBitsLoRead (m : Initiator) (s : State) : Host.Outcome State Fault Refusal :=
  .next (s.readLatched m F.LN_BITS_HI_BITS_HI (s.ctr ⟨.lnBits, 0, s.laneSel m⟩))

end Sys2Proof.Machine
end

