-- ==== Sys2Proof/Machine/Resources.lean ====
section
/-! DEFINITION. What a commit, a block reset or a takeover does to a resource: the class of a change (R32 to R34), the registers an image
sets (R544), and the restart of a lane, a quay, an engine, a merge group or a mooring port. -/

namespace Sys2Proof.Machine

/-! ### Classes of change (R32 to R34) -/

/-- The change between two images is class X (R33, R34). -/
def Image.restartsFrom (im old : Image) : Bool :=
  (old.mode != im.mode && (old.mode == 0 || im.mode == 1)) || old.anchorage != im.anchorage || old.pins != im.pins

/-- The mode change itself affects every engine: into or out of TIMING-ONLY, LINE-TEST and SURVEY (R33). -/
def Image.modeTurnsEngines (im old : Image) : Bool :=
  old.mode != im.mode && ([9, 10, 11].contains old.mode || [9, 10, 11].contains im.mode)

/-- Resources whose function changes between two images, or all of them (R32 to R34). -/
def Image.laneChanged (im old : Image) (l : Nat) : Bool :=
  im.lanes.find? (·.1 == l) != old.lanes.find? (·.1 == l) ||
    (old.mode != im.mode && (old.mode == 10 || im.mode == 10))

/-- A quay changes: its own record, or that of the gang it is in or was in, or its trains' mapping. -/
def Image.quayChanged (im old : Image) (q : Nat) : Bool :=
  let lead (i : Image) := ((i.quay q).map fun r => F.QY_CFG_LEAD.get r.cfg).getD q
  let part (i : Image) := (i.quay q, i.quay (lead im), i.quay (lead old), i.trainMap.filter fun r => r.kind != 2 && r.unit == q)
  part im != part old || im.laneChanged old (2 * q) || im.laneChanged old (2 * q + 1)

/-- An engine changes: its record, its Tide plan, its SURVEY role, its part in a line pair, or the mode turns it. -/
def Image.engineChanged (im old : Image) (e : Nat) : Bool :=
  let part (i : Image) := (i.engine e, i.tideOf e, i.survey.find? (·.engine == e), i.trainMap.filter fun r => r.kind == 2 && r.unit == e,
    (i.merge.filter fun r => r.line && r.engines.contains e).map (·.group))
  part im != part old || im.modeTurnsEngines old

/-- A merge group changes: added, removed or defined otherwise. -/
def Image.groupChanged (im old : Image) (g : Nat) : Bool :=
  let part (i : Image) := (i.merge.find? (·.group == g)).map fun r => (r.cfg, r.inst, r.range, i.anchorage[r.region]?)
  part im != part old

/-- Ports enabled by an image. -/
def Image.portEnabled (im : Image) (m : Nat) : Bool := match im.hierarchy with | some h => h.ports.testBit m | none => false

/-- A mooring port changes: enabled or disabled, or it starts or stops carrying berths. -/
def Image.mooringChanged (im old : Image) (m : Nat) : Bool :=
  im.portEnabled m != old.portEnabled m || (im.portEnabled m && (im.mode == 8) != (old.mode == 8))

/-! ### Restarts -/

/-- A berth port above the quays is in use under the committed image (R48, R64). -/
def State.portUsed (s : State) (p : Nat) : Bool :=
  decide (10240 ≤ p) && s.image.mode != 0 && !s.portUnused s.image p &&
    (decide (p < 20480) || s.image.portEnabled ((p - 20480) / 640))

/-- The stores of a range of ports start anew: LOP with A = 0 where a port comes into use (R64). -/
def State.startStores (s : State) (base n : Nat) : State :=
  s.each ((List.range n).map (base + ·)) fun s p =>
    (s.setStore p (if s.portUsed p then { inUse := true } else {})).publishStore p

/-- A lane starts: in LOS without an event where the image uses it, else OFF (R122); loopbacks and injections end. -/
def State.restartLane (s : State) (l : Nat) : State :=
  let used := s.rd F.LN_CFG_RATE l != 0 && s.image.mode != 0
  let s := (s.setLane l { trained := (s.lane l).trained }).setReg .LN_TRAIN_STAT l 0
  let s := s.setReg .LN_STAT l (BitVec.ofNat 32 (s.rd F.LN_STAT_EQ_RESETS l * 2 ^ 24 + (if used then s.rd F.LN_STAT_SIGNAL l * 2 ^ 5 else 0)))
  let s := (s.enterLane l (if used then .los else .off)).modLane l fun x => { x with fresh := used }
  if used && s.rd F.LN_LOOP_MODE l != 0 then s.later (.loopOn l (s.rd F.LN_LOOP_MODE l)) else s

/-- The trains that a quay creates or that enter at an engine or a mooring port: by the range of their source ports. -/
def State.trainsFrom (s : State) (base n : Nat) : List Nat :=
  (s.image.trains.filter fun t => decide (base ≤ t.first) && decide (t.first < base + n)).map (·.id)

/-- Monitors and mappers of trains start anew. -/
def State.restartTrains (s : State) (ts : List Nat) : State :=
  s.each ts fun s t => (s.setTrain t {}).setReg .TR_STAT t (Reg.resetValue .TR_STAT t)

/-- A quay's clients start anew. -/
def State.restartQuay (s : State) (q : Nat) : State :=
  let s := (s.setClient (2 * q) {}).setClient (2 * q + 1) {}
  (s.setReg .QY_STAT q (Reg.resetValue .QY_STAT q)).restartTrains (s.trainsFrom (160 * q) 160)

/-- An engine stops its old function, darkens and starts acquisition again; its stores, contexts, bursts and capture with it
(R32, R214, R247, R259, R303, R409). -/
def State.restartEngine (s : State) (e : Nat) : State :=
  if !s.engineExists e then s else
  let s := s.engineClassT e
  let s := s.each (s.unitsOf e) fun s u => s.modFrame u fun x => { x with oofTicks := 0, ifTicks := 0 }
  let s := s.each (List.range 16) fun s i => s.setTideSc (16 * e + i) {}
  let s := (s.each (s.leavesOf e) fun s l => s.setTideLeaf (256 * e + l) {}).setHub e {}
  let s := ((s.startTol e).restartContexts e).cutCapture e true
  (s.startStores (10240 + 1280 * e) 1280).restartTrains (s.trainsFrom (10240 + 1280 * e) 1280)

/-- A merge group starts in DOWN (R345). -/
def State.restartGroup (s : State) (g : Nat) : State :=
  let s := s.setMerge g {}
  if s.groupDefined g then s.enterMerge g .down else s.setReg .MG_STAT g (Reg.resetValue .MG_STAT g)

/-- A mooring port's berths start anew. -/
def State.restartPort (s : State) (m : Nat) : State :=
  (s.startStores (20480 + 640 * m) 640).restartTrains (s.trainsFrom (20480 + 640 * m) 640)

/-- A resource as after a class T change of it (R32, R572). -/
def State.restartResource (s : State) : Resource → State
  | .lane l => s.restartLane l
  | .quay q => s.restartQuay q
  | .engine e => s.restartEngine e
  | .group g => s.restartGroup g
  | .port m => s.restartPort m

/-- Every resource of the committed image. -/
def State.allResources (s : State) : List Resource :=
  ((List.range 128).filter fun l => s.image.rate l != 0).map .lane ++
    (s.image.quays.map fun x => .quay x.1) ++
    ((List.range 8).filter fun e => s.engineExists e && s.image.format e != 3).map .engine ++
    (s.image.merge.map fun r => .group r.group) ++
    ((List.range 4).filter s.image.portEnabled).map .port

/-- Every resource under a class T change (R442). -/
def State.restartAll (s : State) : State := s.each s.allResources State.restartResource

/-- The resources whose function changes from one image to another, or all of both (R32 to R34). -/
def changedResources (old im : Image) (all : Bool) : List Resource :=
  ((List.range 128).filter fun l => all || im.laneChanged old l).map .lane ++
    ((List.range 64).filter fun q => all || im.quayChanged old q).map .quay ++
    ((List.range 8).filter fun e => all || im.engineChanged old e).map .engine ++
    (((im.merge ++ old.merge).map (·.group)).eraseDups.filter fun g => all || im.groupChanged old g).map .group ++
    ((List.range 4).filter fun m => all || im.mooringChanged old m).map .port

/-! ### The registers an image sets (R544) -/

/-- Registers of one resource, from its records; a resource without a record takes zeros, or the reset values where the image has no
section for it. -/
def State.setResource (s : State) (im : Image) : Resource → State
  | .lane l =>
    let x := ((im.lanes.find? (·.1 == l)).map (·.2)).getD (0, 0)
    (s.setReg .LN_CFG l (F.LN_CFG_QUAY.set x.1 (l / 2))).setReg .LN_CTRL l x.2
  | .quay q =>
    let r := (im.quay q).getD ⟨0, 0, 0, 0, 0⟩
    ((((s.setReg .QY_CFG q r.cfg).setReg .QY_CA q r.ca).setReg .QY_MAP q r.map).setReg .QY_TS_CTRL q r.tsCtrl).setReg .QY_TS_ADJ q r.tsAdj
  | .engine e =>
    if !s.engineExists e then s
    else
      let r := (im.engine e).getD ⟨F.LF_CFG_FMT.set 0 3, 0, 0, 0, 0, 0, 0, 0⟩
      let s := ((((s.setReg .LF_CFG e r.lfCfg).setReg .LE_CTRL e r.ctrl).setReg .LE_RAMP e r.ramp).setReg .LE_DRV e r.drv)
      let s := ((s.setReg .LE_RMP e r.rmp).setReg .LE_LOS e r.los).setReg .LF_CA e r.ca
      let s := if im.format e == 0 then s.setFormat e (im.rateStep e) r.k else s.wr F.LF_CFG_NCW e 0
      let t := im.tideOf e
      let s := (s.setReg .TD_CFG e ((t.map (·.cfg)).getD 0)).setReg .TD_FMT e ((t.map (·.fmt)).getD 0)
      let s := (s.setReg .TD_SCTYPE e ((t.map (·.sctype)).getD 0)).setReg .TD_DS e ((t.map (·.ds)).getD 0)
      let s := s.setReg .TD_THR e ((t.map (·.thr)).getD (Reg.resetValue .TD_THR e))
      let s := (s.setReg .TD_GS_BANK0 e ((t.map (·.bank0)).getD 0)).setReg .TD_GS_BANK1 e ((t.map (·.bank1)).getD 0)
      let leaves := (t.map (·.leaves)).getD []
      let s := s.each ((s.leavesOf e).filter fun l => !leaves.any (·.id == l)) fun s l => s.setReg .TD_LEAF_CFG (256 * e + l) 0
      let s := s.each leaves fun s x => s.setReg .TD_LEAF_CFG (256 * e + x.id) x.cfg
      match im.survey.find? (·.engine == e) with
      | some v =>
        let (n, k) := v.steps.getD 0 (16, 72)
        let s := ((s.wr F.SV_CFG_ROLE e v.role).wr F.SV_CFG_D e v.d).wr F.SV_CFG_NSTEP e v.nstep
        if im.mode == 11 then (s.setReg .SV_STAT e 0).setFormat e n k else s
      | none => s.setReg .SV_CFG e 0
  | .group g =>
    match im.merge.find? (·.group == g) with
    | some r => (((s.setReg .MG_CFG g r.cfg).setReg .MG_INST g r.inst).setReg .MG_RANGE g r.range).setReg .MG_CTRL g r.ctrl
    | none =>
      s.each ([.MG_CFG, .MG_INST, .MG_RANGE, .MG_CTRL] : List Reg) fun s r => s.setReg r g (Reg.resetValue r g)
  | .port _ => s

/-- The registers that belong to no resource: mode, trains, hierarchy, mate; the initial RETIRE of a port loads at PORSTn alone
(R465). -/
def State.setShared (s : State) (old im : Image) (first : Bool) : State :=
  let s := s.wr F.SY_MODE_MODE 0 im.mode
  let s := s.each (old.trains.filter fun t => !im.trains.any (·.id == t.id)) fun s t =>
    (s.setReg .TR_CTRL t.id (Reg.resetValue .TR_CTRL t.id)).restartTrains [t.id]
  let s := s.each im.trains fun s t => s.setReg .TR_CTRL t.id t.ctrl
  let s := match im.hierarchy with
    | some h =>
      let s := ((s.wr F.HR_CFG_ID 0 h.id).wr F.HR_CFG_PORT_EN 0 h.ports).wr F.HR_CFG_XLEAD 0 h.xlead
      let s := s.setReg .HR_DOMAIN 0 h.domain
      if first then s.each (List.range 4) fun s m => s.wr F.HR_PORT_CFG_RETIRE m (h.retire.getD m 0) else s
    | none => (((s.wr F.HR_CFG_ID 0 0).wr F.HR_CFG_PORT_EN 0 0).wr F.HR_CFG_XLEAD 0 0).setReg .HR_DOMAIN 0 0
  match im.mate with
  | some (cfg, ctrl) => (s.setReg .MT_CFG 0 cfg).wr F.MT_CTRL_TAKE_T 0 (F.MT_CTRL_TAKE_T.get ctrl)
  | none => (s.setReg .MT_CFG 0 (Reg.resetValue .MT_CFG 0)).setReg .MT_CTRL 0 (Reg.resetValue .MT_CTRL 0)

/-! ### Contexts and keys (R291, R295, R566) -/

/-- The first block boundary at least 66 ticks after a boundary (R295). -/
def blockAfter (n : Tick) : Tick := BitVec.ofNat 48 ((n.toNat + 66 + 63) / 64 * 64)

/-- The contexts of an image (R283, R295): a context that the image defines anew starts; one whose ENCRYPTED state it requests and
does not yet have holds its slots under AIS until the first block boundary with the lead of R293. -/
def State.setContexts (s : State) (old im : Image) : State :=
  let place (r : ContextRec) := ctxIndex r.engine (r.dir == 1) r.ctx
  let s := s.each (old.contexts.filter fun r => !im.contexts.any fun x => place x == place r) fun s r =>
    let i := place r
    let s := ((s.setKey i 0 none).setKey i 1 none).setChange i none
    ((s.setEncCtx i {}).setReg .SEC_CTX_CFG i (Reg.resetValue .SEC_CTX_CFG i)).setReg .SEC_CTX_STAT i (Reg.resetValue .SEC_CTX_STAT i)
  s.each im.contexts fun s r =>
    let i := place r
    let fresh := !old.contexts.any fun x => place x == i && x.cfg == r.cfg
    let s := s.setReg .SEC_CTX_CFG i ((r.cfg &&& 0x40FFFFFF#32) ||| 0x80000000#32)
    let state := r.cfg.toNat >>> 28 % 4
    if r.dir == 1 then (if fresh then s.startCtx i else s)
    else
      let s := if fresh then s.wr F.SEC_CTX_STAT_UNKNOWN i 0 else s
      if 2 ≤ state && s.rd F.SEC_CTX_STAT_STATE i != state then
        (s.setChange i (some (state, blockAfter s.tick))).modCtx i fun x => { x with hold := true }
      else s

/-- The KEYS records of an image load as LOAD does; a phase in use is skipped (R291, R566). -/
def State.loadKeys (s : State) (im : Image) : State :=
  s.each im.keys fun s r =>
    let i := ctxIndex r.engine (r.dir == 1) r.ctx
    if !s.on F.SEC_DK_STAT_DK_VALID 0 || !s.ctxDefined i then s
    else if !r.blob.intact then s.raise F.SEC_ESTICKY_UNWRAP_FAIL (encCopy r.engine)
    else if s.phaseInUse i r.phase then s.raise (leafBit .SY_IMG_STICKY 2) 0
    else s.setKey i r.phase (some r.blob.words)

/-- The applet slots of an image (R34, R526): a slot it does not define is EMPTY, a new or changed one is LOADED, and runs at once
with its auto-start flag. -/
def State.setApplets (s : State) (old im : Image) (all : Bool) : State :=
  s.each (List.range 8) fun s k =>
    let f : Field := ⟨.SY_APPLET, 4 * k + 3, 4 * k⟩
    match im.applets.find? (·.slot == k) with
    | none => s.wr f 0 0
    | some a => if all || old.applets.find? (·.slot == k) != some a then s.wr f 0 (if a.autoStart then 2 else 1) else s

/-- The live manifest bank holds an image's entries (R563, at START-UP). -/
def State.loadBank (s : State) (b : Nat) (im : Image) : State :=
  { s with banks := s.banks.filter fun x => x.1.1 != b }.each im.manifest fun s x => s.setManifest b x.1 x.2

end Sys2Proof.Machine
end

