-- ==== Sys2Proof/Machine/Apply.lean ====
section
/-! DEFINITION. Image commands, commit records, fuses and the debug lock (17_structure_image_boot_reset.md, R550 to R557, R564 to R569). -/

namespace Sys2Proof.Machine

/-! ### SY_IMG_STAT -/

/-- STATE: 0 IDLE, 1 LOADING, 2 CHECKING, 3 PREPARING, 4 APPLIED, 5 ARMED, 6 RECORDING. -/
def State.imgState (s : State) : Nat := s.rd F.SY_IMG_STAT_STATE 0

/-- STATE takes a value. -/
def State.setImgState (s : State) (n : Nat) : State := s.wr F.SY_IMG_STAT_STATE 0 n

/-- RESULT: 0 NONE, 1 DONE, 2 BUSY, 3 LATE, 4 INVALID, 5 SIG_FAIL, 6 NO_STAGING, 7 PLACE, 8 RESET, 9 REC_FAIL, 10 ABORTED, 11 BAD_SRC. -/
def State.imgResult (s : State) (n : Nat) : State := s.wr F.SY_IMG_STAT_RESULT 0 n

/-- An event of SY_IMG_STICKY: 0 COMMITTED, 1 APPLY_FAIL, 2 KEY_SKIP, 3 REC_FAIL, 4 IMG_FALLBACK. -/
def State.imgEvent (s : State) (b : Nat) : State := s.raise (leafBit .SY_IMG_STICKY b) 0

/-- Bytes 0 to 3 of a digest. -/
def digestWord (d : Nat) : Nat := d / 2 ^ 352

/-- SY_IMG_ERR and SY_IMG_RULE report a broken rule (R548). -/
def State.showBroken (s : State) (b : Broken) : State :=
  ((s.wr F.SY_IMG_ERR_TYPE 0 b.1).wr F.SY_IMG_ERR_RECORD 0 b.2.1).wr F.SY_IMG_RULE_RULE 0 b.2.2

/-- The swap registers are held for an apply no longer, and its image is discarded. -/
def State.dropApply (s : State) : State :=
  { (s.modSwap fun x => if x.holder == .image then { x with holder := .nobody } else x).setImgState 0 with applied := none }

/-- RESULT of a broken rule: SIG_FAIL for the signature, INVALID otherwise (R565). -/
def brokenResult (b : Broken) : Nat := if b.2.2 == 551 then 5 else 4

/-! ### APPLY, REVERT and their end (R565) -/

/-- A swap is prepared or armed, or another agent holds the swap registers (R565). -/
def State.swapTaken (s : State) : Bool :=
  s.swapState != .idle || s.on F.GRID_SWAP_STAT_ARMED 0 || s.swapPending || s.swap.holder != .nobody

/-- An image is loaded and checked; if it passes, its manifest goes into the shadow bank and PREPARE is issued (R565). -/
def State.loadImage (s : State) (src : Nat) (im : Image) : State :=
  let s := { s with applied := some im, imageJob := { src := src }, mate := { s.mate with imageSent := false } }
  let s := ((s.modSwap fun x => { x with holder := .image }).imgResult 0).wr F.SY_IMG_DIGEST_A_D 0 (digestWord im.digest)
  match s.imageFault im s.holds with
  | some b => { s.setImgState 2 with imageJob := { s.imageJob with fault := some b } }
  | none =>
    let s := (s.loadBank (1 - s.liveBank) im).modSwap fun x => { x with shadowBad := [] }
    (s.setImgState 3).later .gridPrepare

/-- APPLY. -/
def State.imageApply (s : State) (src : Nat) (im : Image) : State :=
  if s.imgState != 0 || s.devState == .recovery then s.imgResult 2
  else if !s.image.anchorage.any (·.kind == 8) then s.imgResult 6
  else if s.swapTaken then s.imgResult 2
  else s.loadImage src im

/-- REVERT: the PREVIOUS image is applied. -/
def State.imageRevert (s : State) : State :=
  match s.previous with
  | some im => if s.imgState != 0 || s.swapTaken then s.imgResult 2 else s.loadImage 2 im
  | none => s.imgResult 2

/-- APPLY_DONE: a check that failed ends INVALID or SIG_FAIL; a prepared bank makes the image APPLIED; a bank that was found invalid or
could not be placed ends INVALID or PLACE (R565). -/
def State.applyDone (s : State) : State :=
  let fails (s : State) (n : Nat) : State := (s.dropApply.imgResult n).imgEvent 1
  match s.imgState, s.imageJob.fault, s.applied with
  | 2, some b, _ => fails (s.showBroken b) (brokenResult b)
  | 3, _, some im =>
    if s.swapState == .ready then
      (s.setImgState 4).wrBool F.SY_IMG_STAT_CLASS_X 0 (s.committed && im.restartsFrom s.image)
    else if s.swapPending || s.atBoundary.contains .gridPrepare then s
    else if s.rd F.GRID_SWAP_STAT_RESULT 0 == 3 then
      fails (s.showBroken (6, s.rd F.GRID_SWAP_INFO_INDEX 0, 96)) 4
    else fails s 7
  | _, _, _ => s

/-! ### COMMIT and ABORT (R30, R565, R566) -/

/-- COMMIT for boundary `n`, as though written in tick `written`: STATE APPLIED and the lead of R566; the swap is armed with it.  While a
domain commit is open its agent alone commits (R478). -/
def State.imageCommitAt (s : State) (n written : Tick) (persist domain : Bool) : State :=
  if s.imgState != 4 || s.devState == .recovery || (s.domain.isSome && !domain) then s.imgResult 2
  else if !leadFrom written n 8 then (s.imgResult 3).tickLate
  else
    let s := { s with imageJob := { s.imageJob with persist := persist, due := n, domain := domain } }
    ((s.setImgState 5).imgResult 0).gridArm n written

/-- ABORT, as though written in tick `written`: discards the applied image and the prepared bank (R565). -/
def State.imageAbort (s : State) (written : Tick) : State :=
  if s.imgState == 0 || s.imgState == 6 || s.devState == .recovery then s.imgResult 2
  else if s.imgState == 5 && !leadFrom written s.imageJob.due 2 then s.imgResult 2
  else
    let s := { s with atBoundary := s.atBoundary.filter (· != Keyed.gridPrepare) }
    let s := if s.swapPending then s.endSwap.swapResult 6 else s
    s.dropApply.imgResult 10

/-! ### Commit records (R556, R557, R565, R567) -/

/-- Serial order of sequence numbers (R557). -/
def newerSeq (x y : Word) : Bool := let d := (x - y).toNat; decide (1 ≤ d) && decide (d < 2 ^ 31)

/-- The copy that holds the newest valid record, and that record (R557): copy 0 where neither is newer. -/
def newestRecord : Option CommitRecord → Option CommitRecord → Option (Nat × CommitRecord)
  | some a, some b => if newerSeq b.seq a.seq then some (1, b) else some (0, a)
  | some a, none => some (0, a)
  | none, some b => some (1, b)
  | none, none => none

/-- The copy and SEQ of the record written next (R557). -/
def nextRecord (copy0 copy1 : Option CommitRecord) : Nat × Word :=
  match newestRecord copy0 copy1 with
  | some (c, r) => (1 - c, r.seq + 1)
  | none => (0, 1)

/-- A record naming a slot starts to be written. -/
def State.startRecord (s : State) (slot : Nat) (im : Image) : State :=
  { s.setImgState 6 with imageJob := { s.imageJob with record := (slot, im.length, im.digest) } }

/-- PERSIST: the image of the slot is checked first (R565). -/
def State.imagePersist (s : State) (src : Nat) (im : Image) : State :=
  if s.imgState != 0 then s.imgResult 2
  else if 2 ≤ src then s.imgResult 11
  else
    match s.imageFault im s.holds with
    | some b => (s.showBroken b).imgResult (brokenResult b)
    | none => (s.startRecord src im).imgResult 0

/-- RECORD_WRITE_DONE: the record written beside the two copies that the flash held, and whether it verified (R557, R567). -/
def State.recordDone (s : State) (copy0 copy1 : Option CommitRecord) (verified : Bool) : State :=
  if s.imgState != 6 then s
  else if verified then
    let (copy, seq) := nextRecord copy0 copy1
    let (slot, length, digest) := s.imageJob.record
    let s := s.send (.record copy ⟨seq, slot, length, digest⟩)
    (s.setImgState 0).imgResult 1
  else ((s.setImgState 0).imgResult 9).imgEvent 3

/-! ### Fuses (R550 to R553) -/

/-- SEC_SB_STAT and SEC_DK_STAT show the loaded fuses. -/
def State.showFuses (s : State) : State :=
  let f := s.fuses
  let s := (((s.wrBool F.SEC_SB_STAT_SB_EN 0 f.sbEn).wrBool F.SEC_SB_STAT_PKH0 0 f.pkh0.set).wrBool F.SEC_SB_STAT_PKH1 0 f.pkh1.set)
  let s := (s.wrBool F.SEC_SB_STAT_REVOKE0 0 f.revoke0).wrBool F.SEC_SB_STAT_REVOKE1 0 f.revoke1
  let s := (s.wrBool F.SEC_SB_STAT_DBG_LOCK 0 f.dbgLock).wrBool F.SEC_SB_STAT_DBG_SEAL 0 f.dbgSeal
  let s := (s.wrBool F.SEC_SB_STAT_TORN 0 ([f.pkh0, f.pkh1, f.key0, f.key1].contains .torn)).wr F.SEC_SB_STAT_SVN_MIN 0 f.svn
  s.wrBool F.SEC_DK_STAT_DK_VALID 0 (f.key0.set || f.key1.set)

/-- The value of SEC_FUSE_DATA: byte 4i in [31:24] of word i, so many words. -/
def State.fuseData (s : State) (words : Nat) : Nat :=
  (List.range words).foldl (fun a i => a * 2 ^ 32 + (s.reg .SEC_FUSE_DATA i).toNat) 0

/-- SEC_FUSE_DATA cleared (R552). -/
def State.clearFuseData (s : State) : State := s.each (List.range 12) fun s i => s.setReg .SEC_FUSE_DATA i 0

/-- A target is refused (R552, R553). -/
def Fuses.refuses (f : Fuses) (dkValid : Bool) : Nat → Bool
  | 1 => f.pkh0 != .blank
  | 2 => f.pkh1 != .blank
  | 3 => f.revoke0 || (f.sbEn && f.pkh0.set && (!f.pkh1.set || f.revoke1))
  | 4 => f.revoke1 || (f.sbEn && f.pkh1.set && (!f.pkh0.set || f.revoke0))
  | 5 => f.sbEn || !((f.pkh0.set && !f.revoke0) || (f.pkh1.set && !f.revoke1))
  | 6 => decide (32 ≤ f.svn)
  | 7 => f.dbgLock
  | 8 => f.dbgSeal
  | 9 => dkValid || f.key0.set || f.key1.set || (f.key0 == .torn && f.key1 == .torn)
  | _ => true

/-- A target takes its value, or a torn one. -/
def Fuses.take (f : Fuses) (target : Nat) (v : FuseValue) : Fuses :=
  match target with
  | 1 => { f with pkh0 := v }
  | 2 => { f with pkh1 := v }
  | 3 => { f with revoke0 := true }
  | 4 => { f with revoke1 := true }
  | 5 => { f with sbEn := true }
  | 6 => { f with svn := f.svn + 1 }
  | 7 => { f with dbgLock := true }
  | 8 => { f with dbgSeal := true }
  | _ => if f.key0 == .blank then { f with key0 := v } else { f with key1 := v }

/-- RESULT of SEC_FUSE_STAT: 1 DONE, 2 NO_VFUSE, 3 REFUSED, 4 VERIFY_FAIL, 5 BUSY. -/
def State.fuseResult (s : State) (n : Nat) : State := s.wr F.SEC_FUSE_STAT_RESULT 0 n

/-- SEC_FUSE_CMD with GO (R552). -/
def State.fuseProgram (s : State) (v : Word) : State :=
  let target := F.SEC_FUSE_CMD_TARGET.get v
  let s := s.wr F.SEC_FUSE_CMD_TARGET 0 target
  if s.on F.SEC_FUSE_STAT_BUSY 0 then s.fuseResult 5
  else if !s.on F.MM_REP_STAT_VFUSE_OK 0 then s.fuseResult 2
  else if s.fuseCells.refuses (s.on F.SEC_DK_STAT_DK_VALID 0) target then s.fuseResult 3
  else { (s.fuseResult 0).wr F.SEC_FUSE_STAT_BUSY 0 1 with fuseTarget := some target }

/-- The value programmed into a multi-bit target: 48 bytes of a PKH, 32 of DEVICE_KEY. -/
def State.fuseValue (s : State) (target : Nat) : FuseValue := .value (s.fuseData (if target == 9 then 8 else 12))

/-- A fuse programming ends (R552, R553, R623): a verify failure leaves a multi-bit fuse torn. -/
def State.fuseDone (s : State) (how : FuseEnd) : State :=
  match s.fuseTarget with
  | none => s
  | some t =>
    let multi := [1, 2, 9].contains t
    let cells := match how with
      | .done => s.fuseCells.take t (s.fuseValue t)
      | _ => if multi then s.fuseCells.take t .torn else s.fuseCells
    let s := { s.clearFuseData.wr F.SEC_FUSE_STAT_BUSY 0 0 with fuseTarget := none, fuseCells := cells }
    (s.fuseResult (match how with | .done => 1 | .noVfuse => 2 | .verifyFail => 4)).raiseSource 422

/-- The cells after PORSTn has cut a programming off (R553). -/
def State.fuseCut (s : State) (how : FuseCut) : Fuses :=
  match s.fuseTarget, how with
  | some t, .done => s.fuseCells.take t (s.fuseValue t)
  | some t, .torn => if [1, 2, 9].contains t then s.fuseCells.take t .torn else s.fuseCells
  | _, _ => s.fuseCells

/-- UNLOCK from machine mode opens the debug module (R554). -/
def State.debugUnlock (s : State) : State :=
  if s.fuses.dbgLock && !s.fuses.dbgSeal then ((s.wr F.SEC_DBG_CTRL_UNLOCK 0 1).wr F.SEC_DBG_CTRL_UNLOCKED 0 1).raiseSource 421 else s

/-! ### The commands -/

/-- SY_IMG_CMD keeps SRC and PERSIST_C. -/
def State.keepImgCmd (s : State) (v : Word) : State :=
  (s.wr F.SY_IMG_CMD_SRC 0 (F.SY_IMG_CMD_SRC.get v)).wr F.SY_IMG_CMD_PERSIST_C 0 (F.SY_IMG_CMD_PERSIST_C.get v)

/-- A command of SY_IMG_CMD, refused in user mode (R525), journaled in a pair (R569). -/
def State.imgCommand (s : State) (m : Initiator) (v : Word) (w : Write) (eff : State → State) : State :=
  if m.isUser then s.busError m true 0x20000218 .priv else (s.keepImgCmd v).write m 0x20000218 w eff

/-- SY_IMG_AT. -/
def State.imgAt (s : State) : Tick := tickOf (s.rd F.SY_IMG_AT_LO_AT 0) (s.rd F.SY_IMG_AT_HI_AT 0)

/-- Meaning of IMG_APPLY: `image` is what the source named holds. -/
def execImgApply (m : Initiator) (v : Word) (image : Image) (s : State) : Host.Outcome State Fault Refusal :=
  .next (s.imgCommand m v (.imgApply (F.SY_IMG_CMD_SRC.get v) image) fun t => t.imageApply (F.SY_IMG_CMD_SRC.get v) image)

/-- Meaning of APPLY_DONE. -/
def execApplyDone (s : State) : Host.Outcome State Fault Refusal := .next s.applyDone

/-- Meaning of IMG_COMMIT: the active of a pair does not accept it before the image has reached its mate (R430). -/
def execImgCommit (m : Initiator) (v : Word) (s : State) : Host.Outcome State Fault Refusal :=
  .next (if s.active && !s.mate.imageSent && !m.isUser then ((s.keepImgCmd v).imgResult 2).reply m (.ok 0)
  else s.imgCommand m v (.imgCommit s.imgAt (F.SY_IMG_CMD_PERSIST_C.get v == 1)) fun t =>
    t.imageCommitAt t.imgAt t.tick (F.SY_IMG_CMD_PERSIST_C.get v == 1) false)

/-- Meaning of IMG_ABORT. -/
def execImgAbort (m : Initiator) (v : Word) (s : State) : Host.Outcome State Fault Refusal :=
  .next (s.imgCommand m v .imgAbort fun t => t.imageAbort t.tick)

/-- Meaning of IMG_PERSIST: each device of a pair writes its own flash (R569). -/
def execImgPersist (m : Initiator) (v : Word) (image : Image) (s : State) : Host.Outcome State Fault Refusal :=
  .next (if m.isUser then s.busError m true 0x20000218 .priv
    else ((s.keepImgCmd v).imagePersist (F.SY_IMG_CMD_SRC.get v) image).reply m (.ok 0))

/-- Meaning of IMG_REVERT. -/
def execImgRevert (m : Initiator) (v : Word) (s : State) : Host.Outcome State Fault Refusal :=
  .next (s.imgCommand m v .imgRevert State.imageRevert)

/-- Meaning of RECORD_WRITE_DONE. -/
def execRecordWriteDone (copy0 copy1 : Option CommitRecord) (verified : Bool) (s : State) : Host.Outcome State Fault Refusal :=
  .next (s.recordDone copy0 copy1 verified)

/-- Meaning of FUSE_PROGRAM: masters 0 and 1 and machine mode only (R552). -/
def execFuseProgram (m : Initiator) (v : Word) (s : State) : Host.Outcome State Fault Refusal :=
  .next (if m.trusted then (s.fuseProgram v).reply m (.ok 0) else s.busError m true 0x2E000040 .priv)

/-- Meaning of FUSE_DONE. -/
def execFuseDone (how : FuseEnd) (s : State) : Host.Outcome State Fault Refusal := .next (s.fuseDone how)

/-- Meaning of DEBUG_UNLOCK: from machine mode only (SEC_DBG_CTRL). -/
def execDebugUnlock (m : Initiator) (v : Word) (s : State) : Host.Outcome State Fault Refusal :=
  .next (if 2 ≤ m.num.val && m.num.val ≤ 5 && !m.user then
      (if v.toNat.testBit 0 then s.debugUnlock else s).reply m (.ok 0)
    else s.busError m true 0x2E000004 .priv)

end Sys2Proof.Machine
end

