-- ==== Sys2Proof/Machine/Mate.lean ====
section
/-! DEFINITION. Mate pairs (13_mate_pairs.md): paths, beats, presence, mate states, takeover, comparison and epochs. -/

namespace Sys2Proof.Machine

/-! ### State and paths (R416 to R425) -/

/-- The mate agent holds something else. -/
def State.modMate (s : State) (f : Mate → Mate) : State := { s with mate := f s.mate }

/-- Mate state: 0 NONE, 1 ACTIVE, 2 STANDBY, 3 JOINING, 4 ISOLATED, 5 NOT_READY. -/
def State.mateState (s : State) : Nat := s.rd F.MT_STAT_STATE 0

/-- MATE_EN was sampled 1 (R416). -/
def State.mateEnabled (s : State) : Bool := s.on F.SY_STRAP_MATE_EN 0 && !s.boot.porst

/-- The device is in BOOT after PORSTn: its beats carry state BOOT (R422, R426).  BOOT after SRSTn leaves the beats as they are (R450). -/
def State.mateBoot (s : State) : Bool := s.devState == .boot && !(s.boot.srst && s.boot.before != .boot)

/-- What the device has heard on a path. -/
def Mate.sight (x : Mate) : MatePath → PathSight
  | .link => x.link
  | .bollard => x.bollard

/-- The same with one path's sight replaced. -/
def Mate.setSight (x : Mate) (p : MatePath) (v : PathSight) : Mate :=
  match p with
  | .link => { x with link := v }
  | .bollard => { x with bollard := v }

/-- The path's receiver is up and fewer than four beats in a row have been missed on it. -/
def Mate.pathUp (x : Mate) (p : MatePath) : Bool :=
  (match p with | .link => x.linkUp | .bollard => x.bolUp) && decide ((x.sight p).missed < 4)

/-- Four consecutive beats have been missed on both paths. -/
def Mate.bothMissed (x : Mate) : Bool := decide (4 ≤ x.link.missed) && decide (4 ≤ x.bollard.missed)

/-- MATE_PRES counts as alive: an edge within the last 24 ticks (R424). -/
def State.presAlive (s : State) : Bool := match s.mate.presAt with | some a => decide (s.now ≤ a + 24) | none => false

/-- The effective grant (R427). -/
def State.granted (s : State) : Bool := s.on F.MT_CFG_ARB 0 && decide (2 ≤ s.mate.grantHigh)

/-- MT_STAT shows paths, presence and grant; how long the link, and both paths, have been down (R436). -/
def State.showMate (s : State) : State :=
  let x := s.mate
  let s := (s.wrBool F.MT_STAT_LINK 0 (x.linkUp && x.farLink)).wrBool F.MT_STAT_BOL 0 (x.bolUp && x.farBol)
  let s := (s.wrBool F.MT_STAT_PRES 0 s.presAlive).wrBool F.MT_STAT_GRANT 0 s.granted
  let since (down : Bool) (was : Option Nat) : Option Nat := if down then some (was.getD s.now) else none
  s.modMate fun x =>
    { x with linkDownAt := since (!x.linkUp) x.linkDownAt,
             pathsDownAt := since (!x.pathUp .link && !x.pathUp .bollard) x.pathsDownAt }

/-- PATH_DEGRADED while one path is down and the other delivers good beats (R443). -/
def State.degraded (s : State) : State :=
  s.raiseIf (s.mateState != 0 && s.mate.pathUp .link != s.mate.pathUp .bollard) F.MT_STICKY_PATH_DEGRADED 0

/-- Every engine follows a mate hold that has come or gone, with the takeover time where `take` says so (R248 to R250, R445). -/
def State.mateHoldChanged (s : State) (take : Bool) : State :=
  s.each ((List.range 8).filter s.engineExists) fun s e =>
    let s := s.modEngine e fun x => { x with darkTake := take, takeover := take && s.cfgOn F.LE_CTRL_TX_EN (s.governor e) }
    ((s.followRequest e).showHolds e).modEngine e fun x => { x with darkTake := false, takeover := false }

/-- The device takes a mate state (R427): STATE_CHG; ACT_STATE high on entry to ACTIVE and low in every other state (R424). -/
def State.setMateState (s : State) (n : Nat) : State :=
  if s.mateState == n then s
  else ((s.wr F.MT_STAT_STATE 0 n).modMate fun x => { x with actState := n == 1 }).raise F.MT_STICKY_STATE_CHG 0

/-- A phase of R439 begins. -/
def State.enterPhase (s : State) (n : Nat) : State :=
  (s.wr F.MT_STAT_PHASE 0 n).modMate fun x => { x with phaseAt := s.now, captured := if n == 1 then false else x.captured }

/-! ### Takeover (R440 to R442, R448, R449) -/

/-- The device enters ACTIVE (R441, R442): with IN_STEP 0 every resource is treated as under a class T change and TAKEOVER_HIT is raised;
`quiet` is the switchover's entry, which raises no TAKEOVER.  Its agent holds the swap registers for no commit of the old active's. -/
def State.becomeActive (s : State) (quiet : Bool) : State :=
  let hit := !s.on F.MT_STAT_IN_STEP 0
  let s := (s.setMateState 1).modMate fun x => { x with takeAt := none, quiet := false, release := false, claims := [], compared := [] }
  let s := match s.journal.getLast? with
    | some e => s.wr F.MT_JSEQ_JSEQ 0 e.seq
    | none => s
  let s := { s.wr F.MT_STAT_PHASE 0 0 with snapshotBefore := none }
  let s := s.modSwap fun x => if x.holder == .domain then { x with holder := .nobody } else x
  let s := if hit then s.restartAll.raise F.MT_STICKY_TAKEOVER_HIT 0
    else if quiet then s
    else (s.count ⟨.mt, 9, 0⟩ 1).raise F.MT_STICKY_TAKEOVER 0
  s.mateHoldChanged true

/-- The device finds the active failed (R427, R440): it takes over at the next boundary if it is in step, else it is NOT_READY. -/
def State.activeFailed (s : State) : State :=
  if s.on F.MT_STAT_IN_STEP 0 then s.modMate fun x => { x with takeAt := some (s.now + 1), quiet := false }
  else (s.setMateState 5).raise F.MT_STICKY_NOT_READY 0

/-- TAKEOVER at its boundary (R441). -/
def State.takeOver (s : State) : State :=
  match s.mate.takeAt with
  | some t => if t ≤ s.now && [2, 3, 4].contains s.mateState then s.becomeActive s.mate.quiet else s
  | none => s

/-- An ACTIVE device whose grant is gone while both paths are down isolates itself, its drivers ramping down with TAKE_T (R445). -/
def State.grantLost (s : State) : State :=
  if s.mateState == 1 && s.on F.MT_CFG_ARB 0 && s.mate.bothMissed && 2 ≤ s.mate.grantLow then
    ((s.setMateState 4).modMate fun x => { x with wasJoining := false }).mateHoldChanged true
  else s

/-- A follower cut off on both paths while the mate is alive (R444). -/
def State.isolate (s : State) : State :=
  let was := s.mateState == 3
  ((s.setMateState 4).modMate fun x => { x with wasJoining := was }).raise F.MT_STICKY_ISOLATED 0

/-- An ISOLATED device that has a path again, and an ACTIVE mate, follows it again (R427). -/
def State.isolatedReturn (s : State) : State :=
  if s.mateState == 4 && (s.mate.pathUp .link || s.mate.pathUp .bollard) && s.rd F.MT_STAT_MSTATE 0 == 1 then
    (s.setMateState (if s.mate.wasJoining then 3 else 2)).modMate fun x => { x with takeAt := none }
  else s

/-- TICK_NO is taken from the mate link, from the next boundary on (R27); without a marker the device waits for one. -/
def State.takeMateTick (s : State) : State :=
  match s.mate.marker with
  | some (t, at_) =>
    { s with boot := { s.boot with tickAt := some (t + BitVec.ofNat 48 (s.now - at_ + 1)) } }.modMate fun x => { x with markWait := false }
  | none => s.modMate fun x => { x with markWait := true }

/-- Entry to JOINING (R27, R439): keys emptied, contexts CLEAR, TICK_NO from the mate link, PHASE REPLAY. -/
def State.startJoining (s : State) : State :=
  let s := ((s.setMateState 3).wr F.MT_STAT_IN_STEP 0 0).wr F.MT_STAT_RUN 0 0
  let s := (s.enterPhase 1).emptyKeys
  { s with journal := [], snapshotBefore := none }.modMate (fun x => { x with claims := [], takeAt := none, stores := [], cns := [] })
    |>.takeMateTick

/-- JOINING through START-UP: the datapath starts again behind held drivers (R427). -/
def State.joinAgain (s : State) : State :=
  (s.startJoining.setDevState .startUp).restartAll.mateHoldChanged false

/-- An entry of the journal was late (R432): JOURNAL_LATE, IN_STEP 0, PHASE REPLAY. -/
def State.journalLate (s : State) : State :=
  (((s.raise F.MT_STICKY_JOURNAL_LATE 0).wr F.MT_STAT_IN_STEP 0 0).enterPhase 1).modMate fun x => { x with claims := [] }

/-- `a` comes after `b` among sequence numbers of 32 bits. -/
def seqAfter (a b : Nat) : Bool := let d := (a + 2 ^ 32 - b % 2 ^ 32) % 2 ^ 32; decide (1 ≤ d) && decide (d < 2 ^ 31)

/-- An entry that a beat or a frame has shown is overdue: its APPLY boundary has passed and it has not been applied (R432). -/
def State.checkClaims (s : State) : State :=
  if !s.standby then s.modMate fun x => { x with claims := [] }
  else
    let overdue := s.mate.claims.any fun c => decide (c.2 < s.now) && seqAfter c.1 (s.rd F.MT_JSEQ_JSEQ 0)
    if overdue && s.rd F.MT_STAT_PHASE 0 != 1 then s.journalLate
    else s.modMate fun x => { x with claims := x.claims.filter fun c => decide (s.now ≤ c.2) }

/-! ### The mate link and the bollard line (R419, R421) -/

/-- MATE_LINK_UP. -/
def State.mateLinkUp (s : State) : State :=
  if s.mateEnabled && !s.mate.linkUp && 64 ≤ s.mate.linkGood then
    ((s.modMate fun x => { x with linkUp := true }).isolatedReturn).showMate
  else s

/-- MATE_LINK_DOWN. -/
def State.mateLinkDown (s : State) : State :=
  if s.mate.linkUp && 4 ≤ s.mate.linkBad then (s.modMate fun x => { x with linkUp := false, sums := [] }).degraded.showMate else s

/-- BOLLARD_LINE_CHANGE. -/
def State.bollardChange (s : State) : State :=
  if !s.mateEnabled then s
  else if s.mate.bolUp then
    if 4 ≤ s.mate.bollard.missed then (s.modMate fun x => { x with bolUp := false }).degraded.showMate else s
  else if 4 ≤ s.mate.bollard.intact then ((s.modMate fun x => { x with bolUp := true }).isolatedReturn).showMate
  else s

/-! ### Beats and presence (R422 to R424) -/

/-- The beat a device sends now (R422). -/
def State.ownBeat (s : State) : MateBeat :=
  let boot := s.mateBoot
  { state := if boot then 6 else s.mateState, inStep := s.on F.MT_STAT_IN_STEP 0, release := s.mate.release, grant := s.mate.grant,
    linkUp := s.mate.linkUp, bolUp := s.mate.bolUp, tick := if boot then 0 else s.tick, serial := s.fuses.serial,
    jseq := s.rd F.MT_JSEQ_JSEQ 0, epoch := s.rd F.MT_EPOCH_EPOCH 0 }

/-- The bytes of a beat, BCRC included (R422). -/
def MateBeat.bytes (b : MateBeat) : List Byte :=
  let stat := b.state % 8 * 32 + b.inStep.toNat * 16 + b.release.toNat * 8 + b.grant.toNat * 4 + b.linkUp.toNat * 2 + b.bolUp.toNat
  let body := [0x4D, 0x42, 0x01, BitVec.ofNat 8 stat] ++ toBytes 6 b.tick.toNat ++ toBytes 8 b.serial ++ toBytes 4 b.jseq ++
    toBytes 4 b.epoch ++ [0, 0]
  body ++ toBytes 4 (crc32 body).toNat

/-- BEAT_SEND: at a boundary with TICK_NO mod 8 = 0, unless in state NONE; an ACTIVE device inverts ACT_STATE (R423, R424). -/
def State.beatSend (s : State) : State :=
  if !s.mateEnabled || (s.mateState == 0 && !s.mateBoot) || s.tick.toNat % 8 != 0 || s.mate.sentAt == some s.now then s
  else
    (s.send (.beat s.ownBeat.bytes)).modMate fun x =>
      { x with sentAt := some s.now, actState := if s.mateState == 1 && !s.mateBoot then !x.actState else x.actState }

/-- A beat is good: it is intact, stamps the receiver's own last beat boundary and comes no later than 2 ticks after it; in BOOT only the
first counts (R423). -/
def State.beatGood (s : State) (b : MateBeat) (intact : Bool) : Bool :=
  intact && (s.mateBoot || (b.tick.toNat % 8 == 0 && decide (ahead s.tick b.tick ≤ 2)))

/-- BEAT_MISS: the beat due at the last boundary X with TICK_NO mod 8 = 0 has not come by X + 2 (R423, R440, R444, R445). -/
def State.beatMiss (s : State) (p : MatePath) : State :=
  let due := s.tick - BitVec.ofNat 48 (s.tick.toNat % 8)
  let x := s.mate.sight p
  if s.mateState == 0 || s.mateBoot || s.tick.toNat % 8 < 2 || x.heard == some due || x.missedAt == some due then s
  else
    let both := s.mate.bothMissed
    let s := (s.modMate fun m => m.setSight p { x with missed := x.missed + 1, missedAt := some due, intact := 0 }).count
      ⟨.mt, if p == .link then 3 else 4, 0⟩ 1
    let s := if x.missed + 1 == 4 then s.degraded else s
    let s := if s.mate.bothMissed && !both then
        if s.mateState == 1 then (s.raise F.MT_STICKY_MATE_LOST 0).grantLost
        else if s.standby then (if s.presAlive then s.isolate else s.activeFailed)
        else s
      else s
    s.showMate

/-- MATE_PRES_EDGE (R424). -/
def State.presEdge (s : State) : State := (s.modMate fun x => { x with presAt := some s.now }).showMate

/-- MATE_PRES_TIMEOUT: no edge for 24 ticks (R424, R427, R440). -/
def State.presTimeout (s : State) : State :=
  if s.presAlive || !s.on F.MT_STAT_PRES 0 then s
  else
    let s := s.showMate
    if s.mateState == 4 || (s.standby && s.mate.bothMissed) then s.activeFailed else s

/-! ### Grants, commands, switchover (R427, R436, R445, R448) -/

/-- ACT_GRANT_CHANGE: a fall on an ACTIVE device while a path is up is a conflict (R445). -/
def State.grantChange (s : State) (high : Bool) : State :=
  let fell := s.mate.grant && !high
  let s := s.modMate fun x => { x with grant := high, grantHigh := if high then x.grantHigh else 0, grantLow := if high then 0 else x.grantLow }
  s.raiseIf (fell && s.mateState == 1 && s.on F.MT_CFG_ARB 0 && (s.mate.pathUp .link || s.mate.pathUp .bollard)) F.MT_STICKY_GRANT_CONFLICT 0

/-- EFFECTIVE_GRANT (R427, R442). -/
def State.effectiveGrant (s : State) : State :=
  if s.granted && (s.mateState == 4 || s.mateState == 5) then s.becomeActive false else s

/-- A write of MT_CTRL keeps TAKE_T. -/
def State.keepMateCtrl (s : State) (v : Word) : State := s.wr F.MT_CTRL_TAKE_T 0 (F.MT_CTRL_TAKE_T.get v)

/-- SW_GRANT in NOT_READY with ARB = 0 (R427). -/
def State.swGrant (s : State) : State :=
  if s.mateState == 5 && !s.on F.MT_CFG_ARB 0 then s.becomeActive false else s

/-- RESYNC on the standby (R436). -/
def State.resync (s : State) : State := if s.mateState == 2 then (s.wr F.MT_STAT_IN_STEP 0 0).enterPhase 2 else s

/-- SWITCHOVER is performed only on the ACTIVE device, with both paths up and an in-step STANDBY mate (R448). -/
def State.switchover (s : State) : State :=
  if s.mateState == 1 && s.mate.pathUp .link && s.mate.pathUp .bollard && s.rd F.MT_STAT_MSTATE 0 == 2 && s.on F.MT_STAT_M_IN_STEP 0 then
    s.journalEntry .switchover
  else s

/-- The switchover's entry applies (R448): the active darkens with TAKE_T and is STANDBY, in step; the standby takes over r ticks later. -/
def State.applySwitchover (s : State) : State :=
  if s.mateState == 1 then ((s.setMateState 2).wr F.MT_STAT_IN_STEP 0 1).mateHoldChanged true
  else if s.mateState == 2 then
    s.modMate fun x => { x with takeAt := some (s.now + (10 * s.takeTime + 31) / 32 + 2), quiet := true }
  else s

/-- GRACE_EXPIRY: the mate link, or both paths, down for longer than GRACE seconds (R436). -/
def State.graceExpiry (s : State) : State :=
  let long (since : Option Nat) : Bool := match since with
    | some t => decide (t + s.rd F.MT_CFG_GRACE 0 * ticksPerSecond < s.now)
    | none => false
  if s.on F.MT_STAT_IN_STEP 0 && 2 ≤ s.mateState && (long s.mate.linkDownAt || long s.mate.pathsDownAt) then
    (s.wr F.MT_STAT_IN_STEP 0 0).enterPhase 2
  else s

/-! ### Comparison (R434 to R436) -/

/-- The last comparisons show a divergence: MISMATCH in 4 in a row, or in DIV_N of the last 1,024 (R436). -/
def Mate.diverges (x : Mate) (divN : Nat) : Bool :=
  x.compared.head? == some true &&
    (x.compared.take 4 == [true, true, true, true] || decide (divN ≤ (x.compared.filter id).length))

/-- MATE_COMPARE of tick t at boundary t + 3: the differing ports, each with its taint on either side (R435, R436). -/
def State.compare (s : State) (differ : List (Nat × Bool)) (mateNormal : Bool) : State :=
  let t := s.tick - 3
  let s := s.modMate fun x => { x with suspended := x.suspended && !(mateNormal && s.devState == .normal) }
  if s.mateState == 0 || !s.mate.linkUp || s.mate.suspended || !s.mate.sums.contains t then s
  else
    let s := s.modMate fun x => { x with sums := x.sums.filter (· != t) }
    let bare := (differ.filter fun d => !d.2).map (·.1)
    let mismatch := !bare.isEmpty
    let s := s.modMate fun x => { x with compared := (mismatch :: x.compared).take 1024 }
    let s := if mismatch then
        let s := (s.count ⟨.mt, 2, 0⟩ 1).wr F.MT_MISS_TICK_TICK 0 t.toNat
        ((s.wr F.MT_MISS_PORT_NPORTS 0 bare.length).wr F.MT_MISS_PORT_PORT 0 (bare.foldl min 71)).wr F.MT_STAT_RUN 0 0
      else (s.count ⟨.mt, if differ.isEmpty then 0 else 1, 0⟩ 1).wr F.MT_STAT_RUN 0 (min (s.rd F.MT_STAT_RUN 0 + 1) 1000)
    let follows := s.standby && (s.on F.MT_STAT_IN_STEP 0 || s.rd F.MT_STAT_PHASE 0 == 3)
    let s := if s.mate.diverges (s.rd F.MT_CFG_DIV_N 0) && (follows || s.mateState == 1) then
        let s := ((s.count ⟨.mt, 8, 0⟩ 1).raise F.MT_STICKY_DIVERGE 0).modMate fun x => { x with compared := [] }
        if follows then (s.wr F.MT_STAT_IN_STEP 0 0).enterPhase 2 else s
      else s
    if s.standby && s.rd F.MT_STAT_PHASE 0 == 3 && s.rd F.MT_STAT_RUN 0 == 1000 then
      ((s.wr F.MT_STAT_IN_STEP 0 1).enterPhase 0).raise F.MT_STICKY_IN_STEP 0 |>.setMateState 2
    else s

/-! ### Epochs (R437 to R439) -/

/-- 2^ELEN ticks, ELEN 10 to 16. -/
def State.epochTicks (s : State) : Nat := 2 ^ clampNat 10 16 (s.rd F.MT_CFG_ELEN 0)

/-- The registers whose counts an epoch carries. -/
def epochCounts : List Reg := [.BP_JCNT, .BP_ECNT, .SEC_CTX_CNT]

/-- Own state as the snapshot window captures it (R437). -/
def State.takeSnapshot (s : State) : Snapshot where
  at_ := s.now
  tick := s.tick
  ctrs := s.ctrs
  regs := s.regs.filter fun x => epochCounts.any fun r => r.ctorIdx == x.1.1
  lines := s.sections
  clients := s.clientSections
  paths := s.pathSections
  bins := s.bins
  stores := s.stores
  egress := s.clients

/-- own(A) + active(E) − own(E), never below 0. -/
def deltaNat (own active atE : Nat) : Nat := own + active - atE

/-- The same for a second's counts. -/
def SecondCount.delta (own active atE : SecondCount) : SecondCount where
  blocks := deltaNat own.blocks active.blocks atE.blocks
  eb := deltaNat own.eb active.eb atE.eb
  d := deltaNat own.d active.d atE.d
  feb := deltaNat own.feb active.feb atE.feb
  fd := deltaNat own.fd active.fd atE.fd
  ticks := deltaNat own.ticks active.ticks atE.ticks

/-- The same for a bin of the PM history. -/
def PmBin.delta (own active atE : PmBin) : PmBin where
  first := active.first
  secs := deltaNat own.secs active.secs atE.secs
  counts := (List.range 8).map fun i => deltaNat (own.counts.getD i 0) (active.counts.getD i 0) (atE.counts.getD i 0)

/-- An item of epoch data is applied (R438); a dirty one only where it is applied as a delta. -/
def State.applyItem (s : State) (o : Snapshot) (dirty : Bool) : EpochItem → State
  | .counter c a =>
    if [CtrBank.trBip, .quay, .lf, .fp, .td, .mg].contains c.bank then s.setCtr c (s.ctr c + a + 2 ^ 48 - Tab.get 0 o.ctrs c.key) else s
  | .countField f i a =>
    if epochCounts.contains f.reg then s.wr f i (s.rd f i + a + 2 ^ f.width - f.get (regGet o.regs f.reg i)) else s
  | .line i a => let x := s.pmSection i; s.setPmSection i { x with now := x.now.delta a (Tab.get {} o.lines (i, 0)).now }
  | .client i a => let x := s.clientPm i; s.setClientPm i { x with now := x.now.delta a (Tab.get {} o.clients (i, 0)).now }
  | .path i a => let x := s.pathPm i; s.setPathPm i { x with now := x.now.delta a (Tab.get {} o.paths (i, 0)).now }
  | .bin i j a => s.setBin i j ((s.bin i j).delta a (Tab.get {} o.bins (i, j)))
  | .store p dev out =>
    let x := s.store p
    let y := Tab.get {} o.stores (p, 0)
    s.setStore p { x with dev := x.dev + dev - y.dev, out := (x.out + out + 2016 - y.out) % 1008 }
  | .desync c dev =>
    let x := s.client c
    s.setClient c { x with egDev := x.egDev + dev - (Tab.get {} o.egress (c, 0)).egDev }
  | .group g v => if dirty then s else (s.setMerge g v).showGroup g
  | .context i v stat => if dirty then s else (s.setEncCtx i v).setReg .SEC_CTX_STAT i stat
  | .leafPower i v => if dirty then s else (s.wr F.TD_LEAF_STAT_PWR i v).setTideLeaf i { s.tideLeaf i with learned := true }
  | .floor i v => if dirty then s else s.wr F.TD_THR_STAT_FLOOR i v
  | .syncTol i e => if dirty then s else s.wr F.TD_THR_STAT_E i e
  | .reference r v qual => if dirty then s else (s.setTimeRef r v).wrBool F.TM_REF_STAT_QUAL r qual
  | .holdover output v => if dirty then s else if output then { s with outPll := v } else { s with gridPll := v }
  | .timeSource sel i offset => if dirty then s else (s.wr F.TM_TD_STAT_SRC 0 sel).setReg .TM_TS_OFS i offset

/-- EPOCH_APPLY at boundary A (R437, R439): the active closes the epoch; a follower applies a complete one and counts an incomplete one. -/
def State.epochApply (s : State) (complete : Bool) (items : List (EpochItem × Bool)) : State :=
  let len := s.epochTicks
  let k := (s.tick.toNat / len + 2 ^ 32 - 1) % 2 ^ 32
  if s.tick.toNat % len != 0 then s
  else if s.mateState == 1 then (s.wr F.MT_EPOCH_EPOCH 0 k).count ⟨.mt, 6, 0⟩ 1
  else if !s.standby then s
  else if !complete then (s.count ⟨.mt, 7, 0⟩ 1).raise F.MT_STICKY_EPOCH_DISCARD 0
  else
    match s.snapshotBefore with
    | none => s
    | some o =>
      if o.tick + BitVec.ofNat 48 len != s.tick then s
      else
        let s := s.each items fun s x => s.applyItem o x.2 x.1
        let s := (s.wr F.MT_EPOCH_EPOCH 0 k).count ⟨.mt, 6, 0⟩ 1
        let s := { s with snapshot := some s.takeSnapshot, snapshotBefore := none }
        if s.rd F.MT_STAT_PHASE 0 == 2 && s.mate.phaseAt < o.at_ then s.enterPhase 3 else s

/-- The mate agent at a boundary: runs of markers and grants, decisions no longer wanted, the snapshot of an epoch boundary, overdue
entries (R419, R427, R432, R433, R437). -/
def State.tickMate (s : State) : State :=
  if !s.mateEnabled then s
  else
    let s := s.modMate fun x =>
      { x with linkGood := if x.marked then x.linkGood + 1 else 0, linkBad := if x.marked then 0 else x.linkBad + 1, marked := false,
               grantHigh := if x.grant then x.grantHigh + 1 else 0, grantLow := if x.grant then 0 else x.grantLow + 1,
               stores := x.stores.filter fun d => decide (s.now ≤ d.due), cns := x.cns.filter fun d => decide (s.now ≤ d.due),
               sums := x.sums.filter fun t => decide (ahead s.tick t ≤ 3) }
    let s := if s.standby && s.tick.toNat % s.epochTicks == 0 then
        { s with snapshotBefore := s.snapshot, snapshot := some s.takeSnapshot }
      else s
    (s.checkClaims.grantLost.showMate).wrBool F.TM_TS_STAT_QUAL 12 (s.standby && s.mate.linkUp)

/-- The mate-link frame the active has sent in a tick: entries issued in it or in the one before, and the decisions for the second tick
ahead (R420, R433). -/
def State.mateFrameOut (s : State) : State :=
  if s.mateState != 1 || s.mateBoot then s
  else
    let lead := s.rd F.MT_CFG_JLEAD 0
    let fresh := s.journal.filter fun e => decide (s.now + lead ≤ e.due + 1)
    let stores := s.stores.filterMap fun x => let c := x.2.plan.getD 1 0; if c == 0 then none else some (x.1.1, c)
    let cns := (s.trains.filter fun x => s.quayTrain x.1.1).map fun x => (x.1.1, x.2.ahead.getD 1 x.2.cn)
    s.send (.mateFrame s.tick fresh stores cns)

/-! ### The commands -/

/-- Meaning of MATE_LINK_UP. -/
def execMateLinkUp (s : State) : Host.Outcome State Fault Refusal := .next s.mateLinkUp

/-- Meaning of MATE_LINK_DOWN. -/
def execMateLinkDown (s : State) : Host.Outcome State Fault Refusal := .next s.mateLinkDown

/-- Meaning of BOLLARD_LINE_CHANGE. -/
def execBollardLineChange (s : State) : Host.Outcome State Fault Refusal := .next s.bollardChange

/-- Meaning of BEAT_SEND. -/
def execBeatSend (s : State) : Host.Outcome State Fault Refusal := .next s.beatSend

/-- Meaning of BEAT_MISS. -/
def execBeatMiss (path : MatePath) (s : State) : Host.Outcome State Fault Refusal := .next (s.beatMiss path)

/-- Meaning of MATE_PRES_EDGE. -/
def execMatePresEdge (s : State) : Host.Outcome State Fault Refusal := .next s.presEdge

/-- Meaning of MATE_PRES_TIMEOUT. -/
def execMatePresTimeout (s : State) : Host.Outcome State Fault Refusal := .next s.presTimeout

/-- Meaning of TAKEOVER. -/
def execTakeover (s : State) : Host.Outcome State Fault Refusal := .next s.takeOver

/-- Meaning of ACT_GRANT_CHANGE. -/
def execActGrantChange (high : Bool) (s : State) : Host.Outcome State Fault Refusal := .next (s.grantChange high)

/-- Meaning of EFFECTIVE_GRANT. -/
def execEffectiveGrant (s : State) : Host.Outcome State Fault Refusal := .next s.effectiveGrant

/-- Meaning of SW_GRANT: MT_CTRL written with bit 2. -/
def execSwGrant (m : Initiator) (v : Word) (s : State) : Host.Outcome State Fault Refusal :=
  .next ((if F.MT_CTRL_SW_GRANT.get v == 1 then (s.keepMateCtrl v).swGrant else s.keepMateCtrl v).reply m (.ok 0))

/-- Meaning of RESYNC: MT_CTRL written with bit 1. -/
def execResync (m : Initiator) (v : Word) (s : State) : Host.Outcome State Fault Refusal :=
  .next ((if F.MT_CTRL_RESYNC.get v == 1 then (s.keepMateCtrl v).resync else s.keepMateCtrl v).reply m (.ok 0))

/-- Meaning of SWITCHOVER: MT_CTRL written with bit 0. -/
def execSwitchover (m : Initiator) (v : Word) (s : State) : Host.Outcome State Fault Refusal :=
  .next ((if F.MT_CTRL_SWITCHOVER.get v == 1 then (s.keepMateCtrl v).switchover else s.keepMateCtrl v).reply m (.ok 0))

/-- Meaning of MATE_COMPARE. -/
def execMateCompare (differ : List (Fin 72 × Bool)) (mateNormal : Bool) (s : State) : Host.Outcome State Fault Refusal :=
  .next (s.compare (differ.map fun d => (d.1.val, d.2)) mateNormal)

/-- Meaning of GRACE_EXPIRY. -/
def execGraceExpiry (s : State) : Host.Outcome State Fault Refusal := .next s.graceExpiry

/-- Meaning of EPOCH_APPLY. -/
def execEpochApply (complete : Bool) (items : List (EpochItem × Bool)) (s : State) : Host.Outcome State Fault Refusal :=
  .next (s.epochApply complete items)

/-- Meaning of MT_CNT_LO_READ (R451). -/
def execMtCntLoRead (m : Initiator) (s : State) : Host.Outcome State Fault Refusal :=
  let n := s.rd F.MT_CSEL_CNT m.copy
  .next (s.readLatched m F.MT_CNT_HI_CNT_HI (if n ≤ 9 then s.ctr ⟨.mt, n, 0⟩ else 0))

end Sys2Proof.Machine
end

