-- ==== Sys2Proof/Machine/Hierarchy.lean ====
section
/-! DEFINITION. Hierarchy and mooring links (14_hierarchy_and_mooring.md): lanes, hops, tick and time, control channel, domain commit. -/

namespace Sys2Proof.Machine

/-! ### Roles and ports (R453, R454) -/

/-- The device is the MANAGER, a WORKER. -/
def State.isManager (s : State) : Bool := s.rd F.HR_CFG_ROLE 0 == 1
/-- The device is a WORKER. -/
def State.isWorker (s : State) : Bool := s.rd F.HR_CFG_ROLE 0 == 2

/-- A mooring port is on: a MANAGER or WORKER, and the structure image enables it (R453, R454). -/
def State.portOn (s : State) (m : Nat) : Bool :=
  (s.isManager || s.isWorker) && (s.rd F.HR_CFG_PORT_EN 0).testBit m

/-- Ports that are on. -/
def State.portsOn (s : State) : List Nat := (List.range 4).filter s.portOn

/-- A port after a change. -/
def State.modMoor (s : State) (m : Nat) (f : Moor → Moor) : State := s.setMoor m (f (s.moor m))

/-- A port serves timing and routes: neither in SSF nor foreign. -/
def State.portLinks (s : State) (m : Nat) : Bool := s.portOn m && !s.on F.HR_PORT_STAT_SSF m && !s.on F.HR_PORT_STAT_FOREIGN m

/-! ### Lanes (R460 to R465) -/

/-- The lanes as a frame shows them: runs of good frames and of retries, and lanes newly lost (R461, R462, R463). -/
def State.moorLanes (s : State) (m : Nat) (good : BitVec 9) (retried : BitVec 8) : State :=
  let x := s.moor m
  let goodRuns := (List.range 9).map fun j => if good.getLsbD j && !retried.getLsbD j then x.goodRuns.getD j 0 + 1 else 0
  let retryRuns := (List.range 8).map fun j => if retried.getLsbD j then x.retryRuns.getD j 0 + 1 else 0
  let lost := s.rd F.HR_PORT_STAT_LOST m
  let newly := (List.range 9).filter fun j => !lost.testBit j && (!good.getLsbD j || 3 ≤ retryRuns.getD j 0)
  let s := s.modMoor m fun x => { x with good := good, goodRuns := goodRuns, retryRuns := retryRuns }
  let s := s.wr F.HR_PORT_STAT_LOST m (newly.foldl (fun w j => w ||| 2 ^ j) lost)
  (s.raiseIf (newly.any (· < 8)) F.HR_STICKY_LANE_REBUILT m).raiseIf (newly.contains 8) F.HR_STICKY_PARITY_LOST m

/-- Too few lanes: two data lanes lost or retired, or one of them with the parity lane not good (R463). -/
def State.lanesFail (s : State) (m : Nat) : Bool :=
  let lost := s.rd F.HR_PORT_STAT_LOST m
  let retired := s.cfg F.HR_PORT_CFG_RETIRE m
  let down := ((List.range 8).filter fun j => lost.testBit j || retired.testBit j).length
  decide (2 ≤ down) || (down == 1 && !(s.moor m).good.getLsbD 8)

/-- SSF of a port, with PORT_FAIL on entry (R463). -/
def State.setPortSsf (s : State) (m : Nat) (ssf : Bool) : State :=
  (s.wrBool F.HR_PORT_STAT_SSF m ssf).raiseIf (ssf && !s.on F.HR_PORT_STAT_SSF m) F.HR_STICKY_PORT_FAIL m

/-- LANE_RESTORED: a lost lane, not retired, good for 3,125 ticks with no retry (R462). -/
def State.laneRestored (s : State) (m j : Nat) : State :=
  let lost := s.rd F.HR_PORT_STAT_LOST m
  if s.portOn m && lost.testBit j && !(s.cfg F.HR_PORT_CFG_RETIRE m).testBit j && 3125 ≤ (s.moor m).goodRuns.getD j 0 then
    (s.wr F.HR_PORT_STAT_LOST m (lost - 2 ^ j)).raise F.HR_STICKY_LANE_RESTORED m
  else s

/-- At most one bit of nine is set. -/
def oneBit (n : Nat) : Bool := decide (((List.range 9).filter n.testBit).length ≤ 1)

/-- HR_PORT_CFG written: refused with more than one bit of RETIRE (R465). -/
def State.retireWrite (s : State) (m : Nat) (v : Word) : State :=
  if oneBit (F.HR_PORT_CFG_RETIRE.get v) then s.setReg .HR_PORT_CFG m v else s.raise F.HR_STICKY_RETIRE_REJ m

/-- RMAP_ACCEPT: an RMAP value carried in 3 consecutive frames (R465). -/
def State.rmapAccept (s : State) (m : Nat) : State :=
  let r := (s.moor m).rmap
  if s.portOn m && 3 ≤ r.count && r.value != s.rd F.HR_PORT_STAT_FAR_RETIRE m then
    (s.wr F.HR_PORT_STAT_FAR_RETIRE m r.value).later (.rmapIdle m (BitVec.ofNat 9 r.value))
  else s

/-! ### Hops and the timing port (R466, R467) -/

/-- DOMAIN_MIS: a port becomes foreign after 16 frames of another domain or with a STANDALONE neighbour, and stops after 16 that match
(R466). -/
def State.domainMis (s : State) (m : Nat) : State :=
  let x := s.moor m
  if !s.portOn m then s
  else if s.on F.HR_PORT_STAT_FOREIGN m then
    if 16 ≤ x.matchRun then s.wr F.HR_PORT_STAT_FOREIGN m 0 else s
  else if 16 ≤ x.foreignRun || (x.tnoAt.isSome && x.role == 0) then
    ((s.wr F.HR_PORT_STAT_FOREIGN m 1).setPortSsf m true).raise F.HR_STICKY_DOMAIN_MIS m
  else s

/-- The hop count H and the port that gives it (R467). -/
def State.hopCount (s : State) : Nat × Option Nat :=
  if s.isManager then (0, none)
  else
    let best := ((List.range 4).filter s.portLinks).foldl (fun b m =>
      let h := s.rd F.HR_PORT_STAT_NBR_HOPS m
      match b with
      | some (x, _) => if h < x then some (h, m) else b
      | none => some (h, m)) (none : Option (Nat × Nat))
    match best with
    | some (h, m) => if h + 1 ≤ 15 then (h + 1, some m) else (31, none)
    | none => (31, none)

/-- HR_STAT.HOPS and the first timing port; a worker without a hop count has lost the manager and holds over (R467). -/
def State.updateHops (s : State) : State :=
  let was := s.rd F.HR_STAT_HOPS 0
  let (h, port) := s.hopCount
  let s := s.wr F.HR_STAT_HOPS 0 h
  if !s.isWorker then s
  else
    match port with
    | some p => if s.on F.HR_STAT_TVALID 0 then s else (s.wr F.HR_STAT_TPORT 0 p).wr F.HR_STAT_TVALID 0 1
    | none =>
      ((s.wr F.HR_STAT_TVALID 0 0).wr F.TM_TS_STAT_QUAL 11 0).raiseIf (was != 31) F.HR_DSTICKY_MANAGER_LOST 0

/-- Since when each port has offered strictly fewer hops than the timing port (R467). -/
def State.trackOffers (s : State) : State :=
  let cur := s.rd F.HR_PORT_STAT_NBR_HOPS (s.rd F.HR_STAT_TPORT 0)
  s.each (List.range 4) fun s m =>
    let better := s.portLinks m && s.on F.HR_STAT_TVALID 0 && m != s.rd F.HR_STAT_TPORT 0 && decide (s.rd F.HR_PORT_STAT_NBR_HOPS m < cur)
    s.modMoor m fun x => { x with offersSince := if better then some (x.offersSince.getD s.now) else none }

/-- TIMING_PORT_SWITCH (R467). -/
def State.timingSwitch (s : State) : State :=
  if !s.isWorker || !s.on F.HR_STAT_TVALID 0 then s
  else
    let cur := s.rd F.HR_STAT_TPORT 0
    let long := (List.range 4).any fun m => match (s.moor m).offersSince with | some t => s.elapsed t ticksPerSecond | none => false
    match s.hopCount.2 with
    | some p =>
      if p != cur && (!s.portLinks cur || long) then
        (s.wr F.HR_STAT_TPORT 0 p).raise F.HR_DSTICKY_TIMING_SWITCH 0
      else s
    | none => s

/-! ### Tick and time over a hop (R468 to R471) -/

/-- Units of 1/16 ns in a tick. -/
def hopTick : Int := 51200

/-- A hop delay in whole ticks, rounded. -/
def roundTicks (z : Int) : Tick := BitVec.ofInt 48 ((2 * z + hopTick) / (2 * hopTick))

/-- d and θ_t of a port, from its own arrival and the neighbour's for the same frame (R469). -/
def State.measureHop (s : State) (m : Nat) (f : MooringFrame) : State :=
  match (s.moor m).arrivals.find? (·.1 == f.arrTno) with
  | some (_, ew) =>
    let theta := (ew - f.arr) / 2 - signed 16 (s.cfg F.HR_ADJ_ADJ m)
    (s.wr F.HR_DLY_VAL m (unsigned 32 ((ew + f.arr) / 2))).wr F.HR_OFS_VAL m (unsigned 32 theta)
  | none => s

/-- d of a port. -/
def State.hopDelay (s : State) (m : Nat) : Int := signed 32 (s.rd F.HR_DLY_VAL m)
/-- θ_t of a port. -/
def State.hopOffset (s : State) (m : Nat) : Int := signed 32 (s.rd F.HR_OFS_VAL m)

/-- A worker's count against its timing neighbour's (R470). -/
def State.compareTick (s : State) (m : Nat) (tno : Tick) : State :=
  if tno + roundTicks (s.hopDelay m) == s.tick then (s.modMoor m fun x => { x with tickRun := 0 }).wr F.HR_STAT_MISMATCH 0 0
  else s.modMoor m fun x => { x with tickRun := x.tickRun + 1 }

/-- Time of the timing port as source 11 (R471): own TB at the boundary of the neighbour's frame, less the TB it carries. -/
def State.moorTime (s : State) (f : MooringFrame) : State :=
  if !f.tcrcOk then s
  else
    let back : Int := signed 48 (s.tick - f.tno).toNat
    let own : Int := (s.timePll.tb : Int) - back * 3200 * 2 ^ 32
    let far : Int := ((f.tb.sec * 1000000000 + f.tb.ns) * 2 ^ 32 + f.tb.frac * 2 ^ 16 : Nat)
    let s := s.modSource 11 fun x => { x with theta := (own - far) / 2 ^ 16, flags := f.flags }
    ((s.wr F.TM_TS_STAT_CLASS 11 f.cls).wr F.TM_TS_STAT_STEPS 11 f.steps).wr F.TM_TS_STAT_QUAL 11 1

/-- WORKER_TICK_SET: a worker in START-UP takes TICK_NO from its timing port (R27, R470), from the next boundary on. -/
def State.workerTickSet (s : State) : State :=
  let m := s.rd F.HR_STAT_TPORT 0
  match (s.moor m).tnoAt with
  | some t =>
    if s.isWorker && s.devState == .startUp && s.boot.tickWait && s.on F.HR_STAT_TVALID 0 then
      let n := (s.moor m).tno + roundTicks (s.hopDelay m + s.hopOffset m) + BitVec.ofNat 48 (s.now - t + 1)
      { s with boot := { s.boot with tickAt := some n, tickWait := false } }
    else s
  | none => s

/-- WORKER_TICK_MISMATCH: 16 consecutive frames disagree (R29, R470). -/
def State.workerMismatch (s : State) : State :=
  if s.isWorker && s.on F.HR_STAT_TVALID 0 && 16 ≤ (s.moor (s.rd F.HR_STAT_TPORT 0)).tickRun then
    (s.wr F.HR_STAT_MISMATCH 0 1).raise F.TM_STICKY_TICK_MISMATCH 0
  else s

/-- MOORING_FRAME_RECEIVE (R459 to R471). -/
def State.mooringFrame (s : State) (m : Nat) (f : MooringFrame) : State :=
  if !s.portOn m then s
  else
    let s := (s.moorLanes m f.good f.retried).modMoor m fun x => { x with seen := true, bad := x.bad + f.uncorrectable }
    let eb := if 0 < f.uncorrectable then f.uncorrectable else if 0 < f.sbip then 1 else 0
    let s := ((s.count ⟨.hr, 8, m⟩ f.uncorrectable).count ⟨.hr, 9, m⟩ f.rebuilt).count ⟨.hr, 10, m⟩ f.sbip
    let s := s.modSection (8 + m) fun c => { c with eb := c.eb + eb }
    if s.lanesFail m || 264 < f.uncorrectable then s.setPortSsf m true
    else
      let other := f.domain != s.reg .HR_DOMAIN 0 || f.role == 0
      let s := s.modMoor m fun x =>
        { x with foreignRun := if other then x.foreignRun + 1 else 0, matchRun := if other then 0 else x.matchRun + 1, role := f.role,
                 exp := f.exp, rmap := x.rmap.next f.rmap.toNat, bdi := x.bdi.next f.bdi.toNat,
                 arrivals := ((f.tno.setWidth 16, f.arrival) :: x.arrivals).take 16, tno := f.tno, tnoAt := some s.now }
      let s := (s.wr F.HR_PORT_STAT_NBR_ID m f.sender).wr F.HR_PORT_STAT_NBR_HOPS m f.hops
      let s := s.setPortSsf m (s.on F.HR_PORT_STAT_FOREIGN m || f.role == 0)
      let s := s.raiseIf ((s.moor m).bdi == ⟨1, 3⟩) F.HR_STICKY_BDI_RX m
      let s := s.modSection (8 + m) fun c =>
        { c with feb := c.feb + (if f.bei ≤ 528 then f.bei else 0), fd := c.fd + (f.bei == 0xFFF).toNat }
      let s := s.measureHop m f
      let s := if s.isWorker && s.portLinks m && s.on F.HR_STAT_TVALID 0 && s.rd F.HR_STAT_TPORT 0 == m && s.devState != .startUp then
          (s.compareTick m f.tno).moorTime f
        else s
      s.updateHops

/-- The latest frame of the peer that arrived at least 2 ticks before the present boundary: its TNO[15:0] and its arrival (R468). -/
def State.reportedArrival (s : State) (m : Nat) : Option (BitVec 16 × Int) :=
  (s.moor m).arrivals.find? fun a => decide (a.2 + 2 * hopTick ≤ hopTick * (s.tick.setWidth 16 - a.1).toNat)

/-- The frame that a mooring port sends at the present boundary: lanes that do not idle, and overhead (R459, R464, R465, R468, R480). -/
def State.mooringOut (s : State) (m : Nat) : MooringFrame :=
  let x := s.moor m
  let st := s.rd F.TM_GD_STAT_STATE 0
  let ql := if st == 0 || st == 3 then s.cfg F.TM_GD_CTRL_QLH 0 else s.rd F.TM_GD_STAT_QL 0
  let base : MooringFrame :=
    { good := ~~~ x.txIdle, sender := s.rd F.HR_CFG_ID 0, role := s.rd F.HR_CFG_ROLE 0, exp := s.devState == .normal,
      hops := s.rd F.HR_STAT_HOPS 0, domain := s.reg .HR_DOMAIN 0, tno := s.tick, bei := x.txBei, bdi := x.txBdi,
      rmap := BitVec.ofNat 9 (s.cfg F.HR_PORT_CFG_RETIRE m), tb := s.tbStamp, cls := s.rd F.TM_TD_STAT_CLASS 0,
      steps := s.rd F.TM_TD_STAT_STEPS 0,
      flags := ql * 16 + s.timeValid.toNat * 8 + (decide (0 < s.timePll.stepLoads)).toNat * 4 +
        (s.rd F.TM_TD_STAT_STATE 0 == 2 && s.timePll.selected && s.rd F.TM_TD_STAT_SRC 0 != 11).toNat }
  match s.reportedArrival m with
  | some (t, a) => { base with arrTno := t, arr := a }
  | none => base

/-! ### Control channel (R472 to R474) -/

/-- The bytes of a packet (R472). -/
def CcPacket.bytes (p : CcPacket) : List Byte :=
  [BitVec.ofNat 8 p.dst, BitVec.ofNat 8 p.src, BitVec.ofNat 8 p.ttl, BitVec.ofNat 8 p.type] ++ toBytes 2 p.seq ++ p.payload

/-- A packet waits on a port: commit and HELLO ahead of user data (R474). -/
def State.queuePacket (s : State) (m : Nat) (p : CcPacket) : State :=
  s.modMoor m fun x => if p.type == 0 then { x with queued := x.queued ++ [p] } else { x with urgent := x.urgent ++ [p] }

/-- The route to a member. -/
def State.routeTo (s : State) (dst : Nat) : Option Nat :=
  if s.on F.HR_ROUTE_VALID dst then some (s.rd F.HR_ROUTE_PORT dst) else none

/-- A packet goes on its way: on its route, or on every port but `except` for a broadcast (R474). -/
def State.shipPacket (s : State) (p : CcPacket) (except : Option Nat) : State :=
  if p.dst == 0xFF then s.each (s.portsOn.filter fun m => some m != except) fun s m => s.queuePacket m p
  else
    match s.routeTo p.dst with
    | some m => s.queuePacket m p
    | none => s

/-- A packet of this member's own: TTL 15 and the next SEQ (R472). -/
def State.ownPacket (s : State) (dst type : Nat) (payload : List Byte) : CcPacket where
  dst := dst
  src := s.rd F.HR_CFG_ID 0
  ttl := 15
  type := type
  seq := s.ccUser.seq
  payload := payload

/-- The next SEQ. -/
def State.nextCcSeq (s : State) : State := { s with ccUser := { s.ccUser with seq := (s.ccUser.seq + 1) % 65536 } }

/-- A broadcast has been seen: another with its SRC and SEQ is discarded for 1,024 ticks (R474). -/
def State.noteSeen (s : State) (src seq : Nat) : State :=
  { s with ccUser := { s.ccUser with
      seen := (src, seq, s.now) :: s.ccUser.seen.filter fun x => decide (s.now < x.2.2 + 1024) } }

/-- This member sends a packet. -/
def State.sendOwn (s : State) (dst type : Nat) (payload : List Byte) : State :=
  let p := s.ownPacket dst type payload
  let t := (s.shipPacket p none).nextCcSeq
  if dst == 0xFF then t.noteSeen p.src p.seq else t

/-- A port's transmitter for one tick: packets go out while octets remain. -/
def Moor.transmit : Nat → Nat → Moor → Moor × List CcPacket
  | 0, _, x => (x, [])
  | fuel + 1, budget, x =>
    match x.sending with
    | some (p, left) =>
      if left ≤ budget then
        let (y, ps) := Moor.transmit fuel (budget - left) { x with sending := none }
        (y, p :: ps)
      else ({ x with sending := some (p, left - budget) }, [])
    | none =>
      if budget == 0 then (x, [])
      else
        match x.urgent, x.queued with
        | p :: rest, _ => Moor.transmit fuel budget { x with urgent := rest, sending := some (p, (gccEncode p.bytes).length) }
        | [], p :: rest => Moor.transmit fuel budget { x with queued := rest, sending := some (p, (gccEncode p.bytes).length) }
        | [], [] => (x, [])

/-- One tick of a port's control channel: 400 octets (R459, R474). -/
def State.moorSend (s : State) (m : Nat) : State :=
  let (x, ps) := (s.moor m).transmit 100 400
  (s.setMoor m x).each ps fun s p => s.send (.ccPacket m p)

/-- The hop count to a member over a port: one more than its neighbour's (R473). -/
def State.offered (s : State) (m i : Nat) : Option Nat :=
  match (s.moor m).helloAt with
  | some _ =>
    let h := (s.moor m).routes.getD i 255 + 1
    if s.portLinks m && h ≤ 15 then some h else none
  | none => none

/-- The route table: the port that offers the fewest hops, among equal ones the lowest-numbered (R473). -/
def State.updateRoutes (s : State) : State :=
  s.each (List.range 16) fun s i =>
    let best := (List.range 4).foldl (fun b m =>
      match b, s.offered m i with
      | some (h, _), some x => if x < h then some (x, m) else b
      | none, some x => some (x, m)
      | _, none => b) (none : Option (Nat × Nat))
    match best with
    | some (h, m) =>
      if i == s.rd F.HR_CFG_ID 0 then s.wr F.HR_ROUTE_VALID i 0
      else ((s.wr F.HR_ROUTE_VALID i 1).wr F.HR_ROUTE_PORT i m).wr F.HR_ROUTE_HOPS i h
    | none => ((s.wr F.HR_ROUTE_VALID i 0).wr F.HR_ROUTE_PORT i 0).wr F.HR_ROUTE_HOPS i 0

/-- Hop counts to members 0 to 15 as a HELLO carries them. -/
def State.helloRoutes (s : State) : List Nat :=
  (List.range 16).map fun i =>
    if i == s.rd F.HR_CFG_ID 0 then 0 else if s.on F.HR_ROUTE_VALID i then s.rd F.HR_ROUTE_HOPS i else 255

/-- The payload of a HELLO (R473). -/
def State.helloBytes (s : State) : List Byte :=
  toBytes 8 s.fuses.serial ++ [BitVec.ofNat 8 (s.rd F.HR_CFG_ROLE 0), BitVec.ofNat 8 (s.rd F.HR_STAT_HOPS 0),
    BitVec.ofNat 8 (s.rd F.HR_STAT_MISMATCH 0)] ++ s.helloRoutes.map (BitVec.ofNat 8 ·)

/-- HELLO_SEND: at a boundary with TICK_NO mod 256 = 0, on every enabled port (R473). -/
def State.helloSend (s : State) : State :=
  if s.tick.toNat % 256 != 0 then s
  else
    let p := s.ownPacket 0xFF 2 s.helloBytes
    (s.each s.portsOn fun s m => s.queuePacket m p).nextCcSeq

/-- HELLO_RECEIVE (R473). -/
def State.helloReceive (s : State) (m : Nat) (h : Hello) : State :=
  if !s.portLinks m then s
  else if h.src == s.rd F.HR_CFG_ID 0 then s.raiseIf (h.serial != s.fuses.serial) F.HR_DSTICKY_ID_CONFLICT 0
  else
    let s := (s.modMoor m fun x => { x with routes := h.routes, helloAt := some s.now }).wr F.HR_ROUTE_SERIAL h.src (h.serial % 256)
    s.updateRoutes

/-- ROUTE_EXPIRY: the port is in SSF or foreign, or 1,024 ticks have passed without a HELLO (R473). -/
def State.routeExpiry (s : State) (m : Nat) : State :=
  match (s.moor m).helloAt with
  | some t =>
    if !s.portLinks m || s.elapsed t 1024 then (s.modMoor m fun x => { x with routes := [], helloAt := none }).updateRoutes else s
  | none => s

/-- Octets of a member's receive buffer in use. -/
def ccRxUsed (u : CcUser) : Nat := (u.rx.map (4 * List.length ·)).sum

/-- User data reaches the receive buffer of 16 KiB; a packet that does not fit is discarded (R474). -/
def State.deliverUser (s : State) (p : CcPacket) : State :=
  let entry := BitVec.ofNat 32 (p.src * 65536 + p.payload.length) :: packWords p.payload
  if 16384 < ccRxUsed s.ccUser + 4 * entry.length then s
  else { s with ccUser := { s.ccUser with rx := s.ccUser.rx ++ [entry] } }

/-- CC_PACKET_RECEIVE (R466, R472, R474).  HELLO and commit packets for this member are commands of their own. -/
def State.ccReceive (s : State) (m : Nat) (p : CcPacket) (fcsOk : Bool) : State :=
  if !s.portLinks m then s
  else if !fcsOk then (s.count ⟨.hr, 11, m⟩ 1).raise F.HR_STICKY_CC_DROP m
  else if 2 ≤ p.type || (if p.type == 0 then 250 else 58) < p.payload.length then s
  else
    let onward := { p with ttl := p.ttl - 1 }
    if p.dst == 0xFF then
      if s.ccUser.seen.any fun x => x.1 == p.src && x.2.1 == p.seq && decide (s.now < x.2.2 + 1024) then s
      else
        let s := s.noteSeen p.src p.seq
        let s := if p.type == 0 then s.deliverUser p else s
        if 2 ≤ p.ttl then s.shipPacket onward (some m) else s
    else if p.dst == s.rd F.HR_CFG_ID 0 then (if p.type == 0 then s.deliverUser p else s)
    else if 2 ≤ p.ttl then s.shipPacket onward none
    else s

/-- Octets of the transmit buffer in use: this member's user packets that wait, and the one being written. -/
def State.ccTxUsed (s : State) : Nat :=
  let own (p : CcPacket) : Nat := if p.src == s.rd F.HR_CFG_ID 0 then 6 + p.payload.length else 0
  ((List.range 4).map fun m => (((s.moor m).queued).map own).sum).sum +
    (match s.ccUser.writing with | some (_, w) => if w.bad then 0 else 6 + w.len | none => 0)

/-- HR_CC_STAT. -/
def State.ccStat (s : State) : Nat := min s.ccUser.rx.length 255 * 2 ^ 24 + (16384 - s.ccTxUsed)

/-- A word written to HR_CC_TXD: a descriptor, then the data (R474). -/
def State.ccWrite (s : State) (v : Word) : State :=
  match s.ccUser.writing with
  | none =>
    let len := v.toNat % 65536
    if len == 0 then s
    else
      let bad := decide (250 < len) || decide (16384 < s.ccTxUsed + 6 + len)
      { s with ccUser := { s.ccUser with writing := some (v.toNat / 65536 % 256, ⟨len, [], bad⟩) } }
  | some (dst, w) =>
    let w := { w with words := w.words ++ [v] }
    if wordsOf w.len ≤ w.words.length then
      let s := { s with ccUser := { s.ccUser with writing := none } }
      if w.bad then s else s.sendOwn dst 0 ((unpackWords w.words).take w.len)
    else { s with ccUser := { s.ccUser with writing := some (dst, w) } }

/-- The next word of HR_CC_RXD, 0 when empty. -/
def CcUser.next (u : CcUser) : Word := match u.rx with | (w :: _) :: _ => w | _ => 0

/-- The receive stream without its next word. -/
def CcUser.pop (u : CcUser) : CcUser :=
  match u.rx with
  | [] => u
  | f :: rest => if f.length ≤ 1 then { u with rx := rest } else { u with rx := f.drop 1 :: rest }

/-- One port at a boundary: a frame that did not come, BDI and BEI, PM, the control channel (R463, R464, R474). -/
def State.tickPort (s : State) (m : Nat) : State :=
  if !s.portOn m then s
  else
    let s := if (s.moor m).seen then s else (s.moorLanes m 0 0).setPortSsf m true
    let ssf := s.on F.HR_PORT_STAT_SSF m
    let s := s.modSection (8 + m) fun c =>
      { c with blocks := c.blocks + 528, ticks := c.ticks + 1, d := c.d + ssf.toNat, fd := c.fd + ((s.moor m).bdi.value == 1).toNat }
    let s := s.modMoor m fun x => { x with seen := false, txBdi := ssf, txBei := if ssf then 0xFFF else min x.bad 528, bad := 0 }
    s.moorSend m

/-! ### Domain commit (R475 to R481) -/

/-- The payload of a commit packet (R476). -/
def commitBytes (msg : Nat) (commit : Bool) (change : Nat) (n : Tick) (reason : Nat) : List Byte :=
  [BitVec.ofNat 8 msg, BitVec.ofNat 8 commit.toNat] ++ toBytes 2 change ++ toBytes 6 n.toNat ++ [BitVec.ofNat 8 reason]

/-- A commit packet for each member of a mask but the manager. -/
def State.tellMembers (s : State) (d : DomainCommit) (msg : Nat) (n : Tick) : State :=
  s.each ((List.range 16).filter fun i => i != 0 && d.members.testBit i) fun s i =>
    s.sendOwn i 1 (commitBytes msg d.commit d.change n 0)

/-- The agent's own write takes effect, as though written in tick `written`; journaled ones act at their boundary (R430, R477). -/
def State.applyAgent (s : State) (a : AgentAct) (written : Tick) (journaled : Bool) : State :=
  match a with
  | .arm n =>
    let s := s.modSwap fun x => { x with holder := .domain }
    if journaled then s.gridArm n written else s.later (.gridArm n written)
  | .cancel =>
    let s := s.modSwap fun x => if x.holder == .domain then { x with holder := .nobody } else x
    if journaled then s.gridCancel written else s.later (.gridCancel written)
  | .commit n => s.imageCommitAt n written false true
  | .revert => match s.previous with | some im => s.loadImage 2 im | none => s
  | .release =>
    let idle := s.swapState == .idle && !s.swapPending
    s.modSwap fun x => if x.holder == .domain then { x with holder := .nobody, locked := x.locked && !idle } else x

/-- The agent writes: journaled on the active device of a pair (R429). -/
def State.agent (s : State) (a : AgentAct) : State :=
  if s.active then s.journalEntry (.agent a) else s.applyAgent a s.tick false

/-- Boundaries until an agent's write has acted. -/
def State.agentLag (s : State) : Nat := if s.active then s.rd F.MT_CFG_JLEAD 0 else 1

/-- HR_DC_STAT takes a state and a result. -/
def State.dcStat (s : State) (state result : Nat) : State := (s.wr F.HR_DC_STAT_STATE 0 state).wr F.HR_DC_STAT_RESULT 0 result

/-- X of R477. -/
def State.xlead (s : State) : Nat := s.rd F.HR_CFG_XLEAD 0

/-- HR_DC_AT. -/
def State.dcAt (s : State) : Tick := tickOf (s.rd F.HR_DC_AT_LO_AT 0) (s.rd F.HR_DC_AT_HI_AT 0)

/-- This member tries its own part: the local ARM, or an image that is applied; none where it cannot, with the reason (R476, R477). -/
def State.tryOwn (s : State) (commit : Bool) (n : Tick) : State × Option Nat :=
  if commit then (s, if s.imgState == 4 && (!s.active || s.mate.imageSent) then none else some 0xF0)
  else if s.swap.holder != .nobody then (s.swapResult 7, some 7)
  else (s.agent (.arm n), none)

/-- START of a domain commit (R477, R478). -/
def State.dcStart (s : State) (written : Tick) : State :=
  let n := s.dcAt
  if s.domain.isSome then s.wr F.HR_DC_STAT_RESULT 0 2
  else if !s.isManager then s.wr F.HR_DC_STAT_RESULT 0 3
  else if !leadFrom written n (65 + 3 * s.xlead) then (s.wr F.HR_DC_STAT_RESULT 0 4).tickLate
  else
    let members := s.rd F.HR_DC_CMD_MEMBERS 0
    let commit := s.on F.HR_DC_CMD_ACTION 0
    let own := members.testBit 0
    let s := ((s.dcStat 1 0).setReg .HR_DC_ACK 0 0).setReg .HR_DC_SKEW 0 0
    let d : DomainCommit := { manager := true, change := s.rd F.HR_DC_CMD_CHANGE 0, commit := commit, n := n, members := members, own := own }
    let s := s.tellMembers d 1 n
    let (s, bad) := if own then s.tryOwn commit n else (s, none)
    { s with domain := some { d with replyAt := if own && bad.isNone then some (s.now + s.agentLag) else none } }

/-- HR_DC_CMD is kept; START begins the commit, unless this is a standby, whose agent does nothing. -/
def State.dcCommand (s : State) (v : Word) (written : Tick) : State :=
  let s := s.setReg .HR_DC_CMD 0 (v &&& 0xFFFFFFF8#32)
  if F.HR_DC_CMD_START.get v == 1 && !s.standby then s.dcStart written else s

/-- A worker answers the manager. -/
def State.replyManager (s : State) (d : DomainCommit) (msg reason : Nat) : State :=
  s.sendOwn 0 1 (commitBytes msg d.commit d.change d.n reason)

/-- DC_ARM_RECEIVE (R477, R478). -/
def State.dcArm (s : State) (change : Nat) (commit : Bool) (n : Tick) : State :=
  if !s.isWorker || s.standby then s
  else
    let d : DomainCommit := { manager := false, change := change, commit := commit, n := n }
    if s.domain.isSome then s.replyManager d 3 0xF1
    else if s.on F.HR_STAT_MISMATCH 0 then s.replyManager d 3 0xF2
    else
      match s.tryOwn commit n with
      | (s, some reason) => s.replyManager d 3 reason
      | (s, none) =>
        if commit then { s.replyManager d 2 0 with domain := some d }
        else { s with domain := some { d with replyAt := some (s.now + s.agentLag) } }

/-- An open commit of this worker that a packet names. -/
def State.workerCommit (s : State) (change : Nat) (n : Tick) : Option DomainCommit :=
  match s.domain with
  | some d => if s.isWorker && !s.standby && !d.manager && d.change == change && d.n == n then some d else none
  | none => none

/-- A bit of a mask set. -/
def setBit (w i : Nat) : Nat := w ||| 2 ^ i

/-- DC_REPLY_RECEIVE (R477). -/
def State.dcReply (s : State) (member change : Nat) (n : Tick) (r : DomainReply) : State :=
  match s.domain with
  | some d =>
    if d.manager && d.change == change && d.n == n && d.members.testBit member then
      match r with
      | .armed => s.wr F.HR_DC_ACK_MASK 0 (setBit (s.rd F.HR_DC_ACK_MASK 0) (16 + member))
      | .applied => s.wr F.HR_DC_ACK_MASK 0 (setBit (s.rd F.HR_DC_ACK_MASK 0) member)
      | .refused _ | .failed _ => s
    else s
  | none => s

/-- The open commit is at or past a boundary `k` ticks before N. -/
def State.within (s : State) (n : Tick) (k : Nat) : Bool := decide (ahead n s.tick ≤ k) || decide (2 ^ 47 < ahead n s.tick)

/-- The open commit is at or past the boundary `k` ticks after N. -/
def State.past (s : State) (n : Tick) (k : Nat) : Bool := decide (k ≤ ahead s.tick n) && decide (ahead s.tick n < 2 ^ 47)

/-- DC_DECIDE at N − 16 − X: GO if every member replied ARMED, else ABORT (R477). -/
def State.dcDecide (s : State) : State :=
  match s.domain with
  | some d =>
    if !d.manager || d.decided || !s.within d.n (16 + s.xlead) then s
    else if s.rd F.HR_DC_ACK_MASK 0 / 65536 == d.members then
      let s := (s.tellMembers d 4 d.n).wr F.HR_DC_STAT_STATE 0 2
      let s := if d.own && d.commit then s.agent (.commit d.n) else s
      { s with domain := some { d with decided := true, go := true } }
    else
      let s := (s.tellMembers d 5 d.n).dcStat 3 5
      let s := if d.own && !d.commit && s.swap.holder == .domain then s.agent .cancel else s
      { s with domain := none }.raise F.HR_DSTICKY_DC_DONE 0
  | none => s

/-- DC_GO_RECEIVE: the worker will apply at N; for a COMMIT its agent issues it (R477, R569). -/
def State.dcGo (s : State) (change : Nat) (n : Tick) : State :=
  match s.workerCommit change n with
  | some d =>
    if d.go || d.decided then s
    else
      let s := { s with domain := some { d with go := true } }
      if d.commit then s.agent (.commit n) else s
  | none => s

/-- DC_ABORT_RECEIVE (R477). -/
def State.dcAbort (s : State) (change : Nat) (n : Tick) : State :=
  match s.workerCommit change n with
  | some d => let s := { s with domain := none }; if d.commit then s else s.agent .cancel
  | none => s

/-- DC_HOLD: without GO by tick N − 8 the worker cancels and does not apply (R477). -/
def State.dcHold (s : State) : State :=
  match s.domain with
  | some d =>
    if d.manager || d.go || d.decided || !s.within d.n 8 then s
    else
      let s := { s with domain := some { d with decided := true } }
      if d.commit then s else s.agent .cancel
  | none => s

/-- This member's swap or commit for N took place. -/
def State.tookPlace (s : State) (d : DomainCommit) : Bool :=
  if d.commit then s.imageJob.doneAt == some d.n
  else s.rd F.GRID_SWAP_STAT_RESULT 0 == 1 && tickOf (s.rd F.GRID_SWAP_DONE_LO_DONE_LO 0) s.swap.doneHi == d.n

/-- This member starts its return to the previous bank or image at N2 (R477). -/
def State.startRollback (s : State) (d : DomainCommit) (n2 : Tick) : State :=
  let s := { s with domain := some { d with rollback := some n2, closed := true } }
  s.agent (if d.commit then .revert else .arm n2)

/-- DC_CLOSE at D = N + 16 + X (R477, R479). -/
def State.dcClose (s : State) : State :=
  match s.domain with
  | some d =>
    if !d.manager || !d.decided || d.closed || !s.past d.n (16 + s.xlead) then s
    else
      let applied := s.rd F.HR_DC_ACK_MASK 0 % 65536
      let skew := ((List.range 16).filter fun i => d.members.testBit i && !applied.testBit i).foldl setBit 0
      if skew == 0 then
        ({ s.agent .release with domain := none }.dcStat 4 1).raise F.HR_DSTICKY_DC_DONE 0
      else
        let n2 := d.n + BitVec.ofNat 48 (16 + s.xlead + 340 + s.xlead)
        let s := (s.wr F.HR_DC_SKEW_MASK 0 skew).raise F.HR_DSTICKY_MODE_SKEW 0
        let s := (s.tellMembers d 8 n2).wr F.HR_DC_STAT_STATE 0 5
        if d.own && applied.testBit 0 then s.startRollback d n2
        else { s with domain := some { d with rollback := some n2, closed := true } }
  | none => s

/-- DC_ROLLBACK_RECEIVE: a member that applied returns at N2; another ignores it (R477, R479). -/
def State.dcRollback (s : State) (change : Nat) (n2 : Tick) : State :=
  match s.domain with
  | some d =>
    if s.isWorker && !s.standby && !d.manager && d.change == change && d.applied == some true && d.rollback.isNone then
      s.startRollback d n2
    else s
  | none => s

/-- DC_ROLLBACK_APPLY at N2: the commit is over (R477 to R479). -/
def State.dcRollbackApply (s : State) : State :=
  match s.domain with
  | some d =>
    match d.rollback with
    | some n2 =>
      if !s.past n2 0 then s
      else
        let s := { s.agent .release with domain := none }
        if d.manager then (s.dcStat 6 6).raise F.HR_DSTICKY_DC_DONE 0 else s
    | none => s
  | none => s

/-- The agent's answer to its own arming is due (R476): the manager notes it, a worker reports it. -/
def State.domainReady (s : State) (d : DomainCommit) (t : Nat) : State :=
  let armed := s.on F.GRID_SWAP_STAT_ARMED 0 && s.swap.due == d.n
  if s.now < t then s
  else if d.commit || armed then
    let s := { s with domain := some { d with replyAt := none } }
    if d.manager then s.wr F.HR_DC_ACK_MASK 0 (setBit (s.rd F.HR_DC_ACK_MASK 0) 16) else s.replyManager d 2 0
  else
    let s := s.agent .release
    if d.manager then { s with domain := some { d with replyAt := none, own := false } }
    else { s.replyManager d 3 (s.rd F.GRID_SWAP_STAT_RESULT 0) with domain := none }

/-- The boundary of the change lies behind: whether the change took place here is noted or reported (R476, R477). -/
def State.domainTook (s : State) (d : DomainCommit) : State :=
  if d.applied.isNone && d.own && s.past d.n 1 then
    let ok := s.tookPlace d
    let s := { s with domain := some { d with applied := some ok } }
    if d.manager then
      if ok then s.wr F.HR_DC_ACK_MASK 0 (setBit (s.rd F.HR_DC_ACK_MASK 0) 0) else s
    else if ok then s.replyManager d 6 0
    else s.replyManager d 7 (s.rd F.GRID_SWAP_STAT_RESULT 0)
  else s

/-- A rollback commits again once the image is back; a worker closes its part (R477). -/
def State.domainEnds (s : State) (d : DomainCommit) : State :=
  match d.rollback with
  | some n2 =>
    if d.commit && !d.recommit && s.imgState == 4 then
      { s.agent (.commit n2) with domain := some { d with recommit := true } }
    else s
  | none =>
    if !d.manager && s.past d.n (25 + 2 * s.xlead) then { s.agent .release with domain := none } else s

/-- A stage of the open domain commit, if one is open. -/
def State.inDomain (s : State) (f : State → DomainCommit → State) : State :=
  match s.domain with
  | some d => f s d
  | none => s

/-- The agent at a boundary: it answers an ARM, reports after N, re-commits in a rollback, and a worker takes the commit as DONE once a
ROLLBACK can no longer reach it (R474, R477). -/
def State.tickDomain (s : State) : State :=
  let s := s.inDomain fun s d => match d.replyAt with
    | some t => s.domainReady d t
    | none => s
  (s.inDomain State.domainTook).inDomain State.domainEnds

/-- The mooring ports and the agent at a boundary. -/
def State.tickHierarchy (s : State) : State :=
  ((s.each (List.range 4) State.tickPort).updateHops.trackOffers).tickDomain

/-! ### The commands -/

/-- Meaning of MOORING_FRAME_RECEIVE. -/
def execMooringFrameReceive (port : Fin 4) (f : MooringFrame) (s : State) : Host.Outcome State Fault Refusal :=
  .next (s.mooringFrame port.val f)

/-- Meaning of LANE_RESTORED. -/
def execLaneRestored (port : Fin 4) (lane : Fin 9) (s : State) : Host.Outcome State Fault Refusal := .next (s.laneRestored port.val lane.val)

/-- Meaning of HR_RETIRE_WRITE: HR_PORT_CFG of the port that the master selects. -/
def execHrRetireWrite (m : Initiator) (v : Word) (s : State) : Host.Outcome State Fault Refusal :=
  let p := s.mportSel m
  .next (s.write m 0x29000014 (.retire p v) fun t => t.retireWrite p v)

/-- Meaning of RMAP_ACCEPT. -/
def execRmapAccept (port : Fin 4) (s : State) : Host.Outcome State Fault Refusal := .next (s.rmapAccept port.val)

/-- Meaning of DOMAIN_MIS. -/
def execDomainMis (port : Fin 4) (s : State) : Host.Outcome State Fault Refusal := .next (s.domainMis port.val)

/-- Meaning of TIMING_PORT_SWITCH. -/
def execTimingPortSwitch (s : State) : Host.Outcome State Fault Refusal := .next s.timingSwitch

/-- Meaning of WORKER_TICK_SET. -/
def execWorkerTickSet (s : State) : Host.Outcome State Fault Refusal := .next s.workerTickSet

/-- Meaning of WORKER_TICK_MISMATCH. -/
def execWorkerTickMismatch (s : State) : Host.Outcome State Fault Refusal := .next s.workerMismatch

/-- Meaning of HELLO_SEND. -/
def execHelloSend (s : State) : Host.Outcome State Fault Refusal := .next s.helloSend

/-- Meaning of HELLO_RECEIVE. -/
def execHelloReceive (port : Fin 4) (hello : Hello) (s : State) : Host.Outcome State Fault Refusal := .next (s.helloReceive port.val hello)

/-- Meaning of ROUTE_EXPIRY. -/
def execRouteExpiry (port : Fin 4) (s : State) : Host.Outcome State Fault Refusal := .next (s.routeExpiry port.val)

/-- Meaning of CC_PACKET_RECEIVE. -/
def execCcPacketReceive (port : Fin 4) (packet : CcPacket) (fcsOk : Bool) (s : State) : Host.Outcome State Fault Refusal :=
  .next (s.ccReceive port.val packet fcsOk)

/-- Meaning of HR_CC_TXD_WRITE. -/
def execHrCcTxdWrite (m : Initiator) (v : Word) (s : State) : Host.Outcome State Fault Refusal :=
  .next (s.write m 0x29000044 (.ccTx v) fun t => t.ccWrite v)

/-- Meaning of HR_CC_RXD_READ. -/
def execHrCcRxdRead (m : Initiator) (s : State) : Host.Outcome State Fault Refusal :=
  .next ({ s with ccUser := s.ccUser.pop }.reply m (.ok s.ccUser.next))

/-- Meaning of DC_START: HR_DC_CMD written with START. -/
def execDcStart (m : Initiator) (v : Word) (s : State) : Host.Outcome State Fault Refusal :=
  .next (s.write m 0x29000058 (.dcStart v) fun t => t.dcCommand v t.tick)

/-- Meaning of DC_ARM_RECEIVE. -/
def execDcArmReceive (change : Fin 4096) (commit : Bool) (n : Tick) (s : State) : Host.Outcome State Fault Refusal :=
  .next (s.dcArm change.val commit n)

/-- Meaning of DC_REPLY_RECEIVE. -/
def execDcReplyReceive (member : Fin 16) (change : Fin 4096) (n : Tick) (reply : DomainReply) (s : State) :
    Host.Outcome State Fault Refusal := .next (s.dcReply member.val change.val n reply)

/-- Meaning of DC_DECIDE. -/
def execDcDecide (s : State) : Host.Outcome State Fault Refusal := .next s.dcDecide

/-- Meaning of DC_GO_RECEIVE. -/
def execDcGoReceive (change : Fin 4096) (n : Tick) (s : State) : Host.Outcome State Fault Refusal := .next (s.dcGo change.val n)

/-- Meaning of DC_ABORT_RECEIVE. -/
def execDcAbortReceive (change : Fin 4096) (n : Tick) (s : State) : Host.Outcome State Fault Refusal := .next (s.dcAbort change.val n)

/-- Meaning of DC_HOLD. -/
def execDcHold (s : State) : Host.Outcome State Fault Refusal := .next s.dcHold

/-- Meaning of DC_CLOSE. -/
def execDcClose (s : State) : Host.Outcome State Fault Refusal := .next s.dcClose

/-- Meaning of DC_ROLLBACK_RECEIVE. -/
def execDcRollbackReceive (change : Fin 4096) (n2 : Tick) (s : State) : Host.Outcome State Fault Refusal :=
  .next (s.dcRollback change.val n2)

/-- Meaning of DC_ROLLBACK_APPLY. -/
def execDcRollbackApply (s : State) : Host.Outcome State Fault Refusal := .next s.dcRollbackApply

/-- Meaning of HR_CNT_LO_READ (R482). -/
def execHrCntLoRead (m : Initiator) (s : State) : Host.Outcome State Fault Refusal :=
  let n := s.rd F.HR_CSEL_CNT m.copy
  .next (s.readLatched m F.HR_CNT_HI_CNT_HI (if n ≤ 11 then s.ctr ⟨.hr, n, s.mportSel m⟩ else 0))

end Sys2Proof.Machine
end

