-- ==== Sys2Proof/Machine/Control.lean ====
section
/-! DEFINITION. The control plane beside its bus accesses (16_control_plane.md): Pilot cores and applets, I²C, flash, PMBus and UART,
and what a reset ends. -/

namespace Sys2Proof.Machine

/-- Meaning of a register access that user mode is kept from (R525): the error response with cause PRIV, or else an effect. -/
def State.kept (s : State) (m : Initiator) (addr : Nat) (eff : State → State) : State :=
  if m.isUser then s.busError m true addr .priv else (eff s).reply m (.ok 0)

/-- A register that R522 and its like keep for masters 0 and 1 and machine mode. -/
def State.reserved (s : State) (m : Initiator) (addr : Nat) (eff : State → State) : State :=
  if m.trusted then (eff s).reply m (.ok 0) else s.busError m true addr .priv

/-! ### What a reset of a master ends (R517) -/

/-- Masters are reset; MRESET if one of them was in the middle of a burst (R517). -/
def State.mastersReset (s : State) (midBurst : Bool) : State := s.raiseIf midBurst F.BM_STICKY_MRESET 0

/-- SRSTn and PORSTn set every per-master select register and latch to its reset value (R520, R570). -/
def State.clearCopies (s : State) : State :=
  s.keepRegs fun x => !Reg.all.any fun r => r.ctorIdx == x.1.1 && r.info.scope == .copy

/-! ### Pilot cores (R518, R521 to R526) -/

/-- BOOTSWAP maps the working SRAM into the slot; it cannot be cleared by a write (R518). -/
def State.bootswap (s : State) (v : Word) : State := if F.SY_REMAP_BOOTSWAP.get v == 1 then s.wr F.SY_REMAP_BOOTSWAP 0 1 else s

/-- Start address of a core (SY_PC_VEC0 to SY_PC_VEC3). -/
def State.coreVector (s : State) (c : Nat) : Nat := (s.reg .SY_PC_VEC c).toNat

/-- SY_PC_VEC of a core is written (R522). -/
def State.writeVector (s : State) (c : Nat) (v : Word) : State :=
  (s.setReg .SY_PC_VEC c v).setCore c { s.core c with vectored := true }

/-- RUN of one core takes a value: 1 starts a core whose vector has been written at the next boundary, 0 resets it at once (R522). -/
def State.runCore (s : State) (c : Fin 4) (run midBurst : Bool) : State :=
  let x := s.core c.val
  if run then (if x.vectored && !x.running then s.later (.coreStart c) else s)
  else if x.running then (s.setCore c.val { vectored := x.vectored }).mastersReset midBurst
  else s

/-- SY_PC_CTRL takes a value (R522). -/
def State.runCores (s : State) (v : Word) (midBurst : BitVec 4) : State :=
  (s.wr F.SY_PC_CTRL_RUN 0 (F.SY_PC_CTRL_RUN.get v)).each (List.finRange 4) fun s c =>
    s.runCore c (v.toNat.testBit c.val) (midBurst.getLsbD c.val)

/-- At the boundary the core starts in machine mode at its vector, unless RUN has been written 0 since (R522). -/
def State.coreStarts (s : State) (c : Fin 4) : State :=
  if (s.rd F.SY_PC_CTRL_RUN 0).testBit c.val && !(s.core c.val).running then
    s.setCore c.val { s.core c.val with running := true, start := s.coreVector c.val }
  else s

/-- SY_PC_TCMP of a core. -/
def State.timerCompare (s : State) (c : Nat) : Tick := tickOf (s.rd F.SY_PC_TCMP_LO_TCMP_LO c) (s.rd F.SY_PC_TCMP_HI_TCMP_HI c)

/-- MTIP is pending while TICK_NO ≥ SY_PC_TCMP (R524). -/
def State.compareTimer (s : State) (c : Nat) : State :=
  s.setCore c { s.core c with mtip := decide (s.timerCompare c ≤ s.tick) }

/-- State of an applet slot (R526): 0 EMPTY, 1 LOADED, 2 RUNNING, 3 FAULT. -/
def appletField (k : Nat) : Field := ⟨.SY_APPLET, 4 * k + 3, 4 * k⟩

/-- STOP and START of one slot (R526): STOP acts on a running applet, START on one that is loaded or at fault. -/
def State.appletCommand (s : State) (stop start : Nat) (k : Nat) : State :=
  let s := if stop.testBit k && s.rd (appletField k) 0 == 2 then s.wr (appletField k) 0 1 else s
  if start.testBit k && (s.rd (appletField k) 0 == 1 || s.rd (appletField k) 0 == 3) then s.wr (appletField k) 0 2 else s

/-- SY_APPLET_CTRL (R526). -/
def State.appletCtrl (s : State) (v : Word) : State :=
  s.each (List.range 8) (State.appletCommand · (F.SY_APPLET_CTRL_STOP.get v) (F.SY_APPLET_CTRL_START.get v) ·)

/-- APPLET_FAULT: an exception other than ECALL (codes 8 and 11) stops a running applet (R526). -/
def State.appletFault (s : State) (k mcause mepc : Nat) : State :=
  if s.rd (appletField k) 0 != 2 || mcause == 8 || mcause == 11 then s
  else
    let s := s.wr (appletField k) 0 3
    let s := (s.wr F.SY_APPLET_FLT_SLOT 0 k).wr F.SY_APPLET_FLT_MCAUSE 0 mcause
    (s.wr F.SY_APPLET_FLT_MEPC 0 (mepc / 4)).raise F.BM_STICKY_APPLET_FAULT 0

/-! ### I²C (R532) -/

/-- A word, most significant byte first. -/
def wordBytes (w : Nat) : List Byte := [BitVec.ofNat 8 (w / 2 ^ 24), BitVec.ofNat 8 (w / 2 ^ 16), BitVec.ofNat 8 (w / 2 ^ 8), BitVec.ofNat 8 w]

/-- A block read is answered, in every device state; not while PORSTn is low. -/
def State.i2cAnswer (s : State) (bytes : List Byte) : State := if s.boot.porst then s else s.send (.i2c bytes)

/-- I²C command 0x01: service mode, mate state, hierarchy role, level of ALARM_n. -/
def State.i2cMode (s : State) : List Byte :=
  [BitVec.ofNat 8 s.mode, BitVec.ofNat 8 (s.rd F.MT_STAT_STATE 0), BitVec.ofNat 8 (s.rd F.HR_CFG_ROLE 0),
    BitVec.ofNat 8 (!s.alarmLow s.boot.xoBad).toNat]

/-- I²C command 0x10: into the inbound mailbox, or not acknowledged while it is full, where the PEC fails, or with a length out of
range (R532). -/
def State.mailIn (s : State) (bytes : List Byte) (pecOk : Bool) : State :=
  if s.boot.porst then s
  else if s.on F.SY_MBX_IN_FULL 0 || !pecOk || bytes.isEmpty || decide (64 < bytes.length) then s.send .i2cNak
  else
    let s := { s with mailbox := { s.mailbox with inbound := bytes ++ s.mailbox.inbound.drop bytes.length } }
    ((s.wr F.SY_MBX_IN_FULL 0 1).wr F.SY_MBX_IN_LEN 0 bytes.length).raise F.BM_STICKY_MBX_IN 0

/-- I²C command 0x11: OUT_LEN bytes of the outbound mailbox; clears OUT_FULL (R532). -/
def State.mailOut (s : State) : State :=
  if s.boot.porst then s
  else (s.wr F.SY_MBX_OUT_FULL 0 0).send (.i2c (s.mailbox.outbound.take (s.rd F.SY_MBX_OUT_LEN 0)))

/-- A read of SY_MBX_DATA: byte PTR of the inbound mailbox; PTR advances. -/
def State.readMail (s : State) (m : Initiator) : State :=
  let b := s.mailbox.inbound.getD (s.rd F.SY_MBX_PTR 0) 0
  (s.incWrap F.SY_MBX_PTR 0 1).replyWord m b.toNat

/-- A write of SY_MBX_DATA: byte PTR of the outbound mailbox; PTR advances. -/
def State.writeMail (s : State) (v : Word) : State :=
  let box := { s.mailbox with outbound := s.mailbox.outbound.set (s.rd F.SY_MBX_PTR 0) (v.setWidth 8) }
  { s.incWrap F.SY_MBX_PTR 0 1 with mailbox := box }

/-! ### QSPI flash (R534) -/

/-- The bytes of SY_QSPI_BUF: byte 4i in bits [31:24] of word i. -/
def State.flashBuffer (s : State) : List Byte := (List.range 64).flatMap fun i => wordBytes (s.reg .SY_QSPI_BUF i).toNat

/-- Word `i` of the buffer, from the bytes of the whole. -/
def bufferWord (bytes : List Byte) (i : Nat) : Word :=
  (((bytes.drop (4 * i)).take 4).foldl (fun (a : Nat) b => a * 256 + b.toNat) 0 : Nat)

/-- SY_QSPI_CMD with GO (R534): not performed while a command runs. -/
def State.qspiGo (s : State) (v : Word) : State :=
  if s.on F.SY_QSPI_CMD_BUSY 0 then s.raise F.SY_STICKY_QSPI_ERR 0
  else
    let n := min (F.SY_QSPI_CMD_LEN.get v) 256
    let w := F.SY_QSPI_CMD_WR.get v == 1
    let a := match F.SY_QSPI_CMD_ADDR_B.get v with | 1 => 3 | 2 => 4 | _ => 0
    let s := s.setReg .SY_QSPI_CMD 0 ((v &&& 0x3FFE00FF#32) ||| 0x80000000#32)
    s.send (.flash (v.setWidth 8) (F.SY_QSPI_CMD_QUAD.get v == 1) ((wordBytes (s.reg .SY_QSPI_ADDR 0).toNat).drop (4 - a))
      (if w then 0 else n) (if w then s.flashBuffer.take n else []))

/-- QSPI_DONE: BUSY clears; bytes read go into the buffer. -/
def State.qspiDone (s : State) (data : List Byte) : State :=
  if !s.on F.SY_QSPI_CMD_BUSY 0 then s
  else
    let s := s.wr F.SY_QSPI_CMD_BUSY 0 0
    if s.on F.SY_QSPI_CMD_WR 0 then s
    else
      let n := min (s.rd F.SY_QSPI_CMD_LEN 0) 256
      let got := (data ++ List.replicate n 0).take n
      let bytes := got ++ s.flashBuffer.drop n
      s.each (List.range 64) fun s i => s.setReg .SY_QSPI_BUF i (bufferWord bytes i)

/-! ### PMBus and UART (R535, R536) -/

/-- PMBUS_ALERT: the low byte of each regulator's STATUS_WORD is recorded (R535). -/
def State.pmbusAlert (s : State) (core le : Byte) : State :=
  (s.wr F.SY_AVS_CORE_STATUS 0 core.toNat).wr F.SY_AVS_LE_STATUS 0 le.toNat

/-- Boundaries that a byte of 10 bits at 115,200 baud takes, rounded up. -/
def uartTicks : Nat := 28

/-- A byte is queued for UART_TX; ignored when the FIFO is full. -/
def State.uartWrite (s : State) (v : Word) : State :=
  if 64 ≤ s.uart.tx.length then s
  else
    { s with uart := { s.uart with tx := s.uart.tx ++ [v.setWidth 8],
                                   sentAt := if s.uart.tx.isEmpty then some (s.now + uartTicks) else s.uart.sentAt } }

/-- A read of SY_UART: pops one byte; VALID tells whether there was one, RX_CNT how many remain. -/
def State.uartRead (s : State) (m : Initiator) : State :=
  let free := (64 - s.uart.tx.length) * 2 ^ 9
  match s.uart.rx with
  | [] => s.replyWord m free
  | b :: rest => { s with uart := { s.uart with rx := rest } }.replyWord m (rest.length * 2 ^ 16 + free + 2 ^ 8 + b.toNat)

/-- A byte arrives on UART_RX; a full FIFO takes no more. -/
def State.uartByte (s : State) (b : Byte) : State :=
  if s.boot.porst || 64 ≤ s.uart.rx.length then s else { s with uart := { s.uart with rx := s.uart.rx ++ [b] } }

/-- The byte being sent has left at its boundary. -/
def State.tickUart (s : State) : State :=
  match s.uart.tx, s.uart.sentAt with
  | b :: rest, some t =>
    if s.now < t then s
    else { s with uart := { s.uart with tx := rest, sentAt := if rest.isEmpty then none else some (s.now + uartTicks) } }.send (.uart b)
  | _, _ => s

/-! ### The commands -/

/-- Meaning of BOOTSWAP. -/
def execBootswap (m : Initiator) (v : Word) (s : State) : Host.Outcome State Fault Refusal :=
  .next (s.kept m 0x20000010 fun t => t.bootswap v)

/-- Meaning of CORE_RUN_WRITE: `midBurst` tells which cores are in the middle of a burst. -/
def execCoreRunWrite (m : Initiator) (v : Word) (midBurst : BitVec 4) (s : State) : Host.Outcome State Fault Refusal :=
  .next (s.reserved m 0x20000020 fun t => t.runCores v midBurst)

/-- Meaning of CORE_TIMER_COMPARE. -/
def execCoreTimerCompare (c : Fin 4) (s : State) : Host.Outcome State Fault Refusal := .next (s.compareTimer c.val)

/-- Meaning of APPLET_START. -/
def execAppletStart (m : Initiator) (v : Word) (s : State) : Host.Outcome State Fault Refusal :=
  .next (s.kept m 0x20000064 fun t => t.appletCtrl v)

/-- Meaning of APPLET_STOP. -/
def execAppletStop (m : Initiator) (v : Word) (s : State) : Host.Outcome State Fault Refusal :=
  .next (s.kept m 0x20000064 fun t => t.appletCtrl v)

/-- Meaning of APPLET_FAULT. -/
def execAppletFault (slot : Fin 8) (mcause : Fin 32) (mepc : Word) (s : State) : Host.Outcome State Fault Refusal :=
  .next (s.appletFault slot.val mcause.val mepc.toNat)

/-- Meaning of I2C_READ_ID. -/
def execI2cReadId (s : State) : Host.Outcome State Fault Refusal :=
  .next (s.i2cAnswer (wordBytes (s.reg .SY_ID 0).toNat ++ wordBytes (s.reg .SY_STATE 0).toNat))

/-- Meaning of I2C_READ_MODE. -/
def execI2cReadMode (s : State) : Host.Outcome State Fault Refusal := .next (s.i2cAnswer s.i2cMode)

/-- Meaning of I2C_READ_THERM. -/
def execI2cReadTherm (s : State) : Host.Outcome State Fault Refusal := .next (s.i2cAnswer (wordBytes (s.reg .SY_THERM 0).toNat))

/-- Meaning of I2C_READ_GROUPS. -/
def execI2cReadGroups (s : State) : Host.Outcome State Fault Refusal := .next (s.i2cAnswer (wordBytes s.groupsPending))

/-- Meaning of I2C_MBX_WRITE. -/
def execI2cMbxWrite (bytes : List Byte) (pecOk : Bool) (s : State) : Host.Outcome State Fault Refusal := .next (s.mailIn bytes pecOk)

/-- Meaning of I2C_MBX_READ. -/
def execI2cMbxRead (s : State) : Host.Outcome State Fault Refusal := .next s.mailOut

/-- Meaning of SY_MBX_DATA_READ. -/
def execSyMbxDataRead (m : Initiator) (s : State) : Host.Outcome State Fault Refusal := .next (s.readMail m)

/-- Meaning of SY_MBX_DATA_WRITE. -/
def execSyMbxDataWrite (m : Initiator) (v : Word) (s : State) : Host.Outcome State Fault Refusal :=
  .next (s.kept m 0x200000A4 fun t => t.writeMail v)

/-- Meaning of QSPI_GO: masters 0 and 1 and machine mode only (R534). -/
def execQspiGo (m : Initiator) (v : Word) (s : State) : Host.Outcome State Fault Refusal :=
  .next (s.reserved m 0x20000080 fun t => t.qspiGo v)

/-- Meaning of QSPI_DONE. -/
def execQspiDone (data : List Byte) (s : State) : Host.Outcome State Fault Refusal := .next (s.qspiDone data)

/-- Meaning of PMBUS_ALERT. -/
def execPmbusAlert (core le : Byte) (s : State) : Host.Outcome State Fault Refusal := .next (s.pmbusAlert core le)

/-- Meaning of UART_TX_WRITE. -/
def execUartTxWrite (m : Initiator) (v : Word) (s : State) : Host.Outcome State Fault Refusal :=
  .next (s.kept m 0x20000090 fun t => t.uartWrite v)

/-- Meaning of UART_RX_READ. -/
def execUartRxRead (m : Initiator) (s : State) : Host.Outcome State Fault Refusal := .next (s.uartRead m)

/-- Meaning of UART_RX_BYTE. -/
def execUartRxByte (b : Byte) (s : State) : Host.Outcome State Fault Refusal := .next (s.uartByte b)

end Sys2Proof.Machine
end

