-- ==== Sys2Proof/Machine/Test.lean ====
section
/-! DEFINITION. Temperature sensors, the thermal guard, the way into a thermal shutdown, and BIST (19_package_pins_power.md). -/

namespace Sys2Proof.Machine

/-! ### Temperature (R626 to R628) -/

/-- SENSOR_FAIL: a sensor stops answering and is left out of the highest reading (R626). -/
def State.sensorFail (s : State) : State := s.raise F.SY_STICKY_THERM_ALARM 0

/-- The sensors are read: consecutive ticks at or above 130 °C are counted, and the time below 110 °C during the reset of a shutdown
(R627, R628). -/
def State.sense (s : State) (tj : Int) (die : Nat) : State :=
  { s with thermal := { s.thermal with
      tj := some tj, die := die, hot := if 520 ≤ tj then s.thermal.hot + 1 else 0,
      coolSince := if tj < 440 then some (s.thermal.coolSince.getD s.now) else none } }

/-- SY_THERM is published at the boundary; ALARM is set from 125 °C and clears below 122 °C (R626, R627). -/
def State.publishTherm (s : State) (tj : Int) : State :=
  let s := (s.wr F.SY_THERM_TJ 0 (unsigned 16 tj)).wr F.SY_THERM_HOT_DIE 0 s.thermal.die
  if 500 ≤ tj then (s.wr F.SY_THERM_ALARM 0 1).raiseIf (!s.on F.SY_THERM_ALARM 0) F.SY_STICKY_THERM_ALARM 0
  else if tj < 488 then s.wr F.SY_THERM_ALARM 0 0
  else s

/-- The thermal guard: from 121 °C it lowers the pool frequency by 25 MHz at each boundary, frozen or not; below 119 °C it releases it
(R41, R627). -/
def State.guardPool (s : State) (tj : Int) : State :=
  if 484 ≤ tj then
    let s := (s.modPool fun p => { p with guarded := true }).wr F.FP_STAT_FCODE 0 (s.rd F.FP_STAT_FCODE 0 - 1)
    (s.wr F.SY_LOOP_STAT_POOL_GUARD 0 1).raise F.FP_STICKY_GUARD 0
  else if tj < 476 then (s.modPool fun p => { p with guarded := false }).wr F.SY_LOOP_STAT_POOL_GUARD 0 0
  else s

/-- What the highest reading does at a boundary. -/
def State.tickThermal (s : State) : State :=
  match s.thermal.tj with
  | some tj => (s.publishTherm tj).guardPool tj
  | none => s

/-- The longest T_DARK, in µs, of the engines that are not at the off level (R628). -/
def State.longestDark (s : State) : Nat :=
  ((List.range 8).filter fun e => s.engineExists e && 2 ≤ s.txState e).foldl
    (fun t e => max t (rampTime (s.cfg F.LE_RAMP_T_DARK (s.governor e)))) 0

/-- THERMAL_SHUTDOWN: 16 ticks from 130 °C, or a tick from 135 °C (R627, R628). Each lit engine ramps down with its own T_DARK, an ACTIVE
device sets RELEASE in its beats (R449), and the reset comes at the first boundary after the longest ramp; from 135 °C there is no ramp. -/
def State.thermalShutdown (s : State) : State :=
  let fierce := match s.thermal.tj with | some t => decide (540 ≤ t) | none => false
  if s.boot.porst || s.thermal.resetAt.isSome || !(fierce || decide (16 ≤ s.thermal.hot)) then s
  else
    let dark := if fierce then 0 else s.longestDark
    let s := { s with thermal := { s.thermal with resetAt := some (s.now + 10 * dark / 32 + 1) } }
    let s := s.each ((List.range 8).filter s.engineExists) fun s e =>
      let s := s.modEngine e fun x => { x with thermal := true }
      if fierce then (s.modEngine e fun x => { x with ramp := none }).wr F.LE_STAT_TX_STATE e (min 1 (s.txState e))
      else s.followRequest e
    if s.rd F.MT_STAT_STATE 0 == 1 then s.modMate fun x => { x with release := true } else s

/-! ### BIST (R629) -/

/-- Every word of the SRAMs is written to 0 with valid ECC. -/
def State.blankMemories (s : State) : State := { s with mem := [], badWords := [] }

/-- ABORT stops a test; the memories are then written to 0, and the test has ended. -/
def State.bistAbort (s : State) : State :=
  if s.on F.TS_BIST_STAT_BUSY 0 then
    ((s.blankMemories.wr F.TS_BIST_STAT_BUSY 0 0).wr F.TS_BIST_STAT_DONE 0 1).raise F.TS_STICKY_BIST_DONE 0
  else s

/-- GO starts a test while none runs. -/
def State.bistGo (s : State) : State :=
  if s.on F.TS_BIST_STAT_BUSY 0 then s else s.setReg .TS_BIST_STAT 0 0x80000000#32

/-- TS_BIST_CTRL (R629): GO outside TEST is not performed and receives the error response. -/
def State.bistCtrl (s : State) (m : Initiator) (v : Word) : State :=
  if F.TS_BIST_CTRL_GO.get v == 1 && s.devState != .test then s.busError m true 0x2F000000 .target
  else
    let s := if F.TS_BIST_CTRL_ABORT.get v == 1 then s.bistAbort else s
    (if F.TS_BIST_CTRL_GO.get v == 1 then s.bistGo else s).reply m (.ok 0)

/-- BIST_DONE: the first failing macro and column, if any (R629). -/
def State.bistDone (s : State) (fail : Option (Nat × Nat)) : State :=
  if !s.on F.TS_BIST_STAT_BUSY 0 then s
  else
    let s := (s.blankMemories.wr F.TS_BIST_STAT_BUSY 0 0).wr F.TS_BIST_STAT_DONE 0 1
    let s := match fail with
      | some (mac, col) =>
        ((s.wr F.TS_BIST_STAT_FAIL 0 1).wr F.TS_BIST_STAT_MACRO 0 mac).wr F.TS_BIST_STAT_COL 0 col
      | none => s
    s.raise F.TS_STICKY_BIST_DONE 0

/-! ### The commands -/

/-- Meaning of SENSOR_FAIL. -/
def execSensorFail (s : State) : Host.Outcome State Fault Refusal := .next s.sensorFail

/-- Meaning of THERMAL_SHUTDOWN. -/
def execThermalShutdown (s : State) : Host.Outcome State Fault Refusal := .next s.thermalShutdown

/-- Meaning of BIST_GO. -/
def execBistGo (m : Initiator) (v : Word) (s : State) : Host.Outcome State Fault Refusal := .next (s.bistCtrl m v)

/-- Meaning of BIST_ABORT. -/
def execBistAbort (m : Initiator) (v : Word) (s : State) : Host.Outcome State Fault Refusal := .next (s.bistCtrl m v)

/-- Meaning of BIST_DONE. -/
def execBistDone (fail : Option (Fin 4096 × Fin 1024)) (s : State) : Host.Outcome State Fault Refusal :=
  .next (s.bistDone (fail.map fun f => (f.1.val, f.2.val)))

end Sys2Proof.Machine
end

