-- ==== Sys2Proof/Machine/Registers.lean ====
section
/-! DEFINITION. Register accesses (R12, R98, R512, R514, R519, R525): what a read answers, what a write performs, and how a journaled
write acts when its boundary comes (R429, R430). -/

namespace Sys2Proof.Machine

/-- The state that the meaning of a command leaves. -/
def State.settle (s : State) (o : Host.Outcome State Fault Refusal) : State := match o with | .next t => t | _ => s

/-- The same, with the outcome computed from the state. -/
def State.via (s : State) (f : State → Host.Outcome State Fault Refusal) : State := s.settle (f s)

/-! ### Write values (R11, R12) -/

/-- The value of a register after a write: RW bits replaced, W1S bits set by 1; W1C bits are cleared apart. -/
def Reg.written (r : Reg) (old v : Word) : Word :=
  let rw := BitVec.ofNat 32 r.info.rw
  (old &&& ~~~ rw) ||| (v &&& rw) ||| (v &&& BitVec.ofNat 32 r.info.w1s)

/-- The value of a register after its W1C bits that were written 1 are cleared. -/
def Reg.cleared (r : Reg) (old v : Word) : Word := old &&& ~~~ (v &&& BitVec.ofNat 32 r.info.w1c)

/-- Registers whose written word is kept although reads return 0 (WO). -/
def Reg.writeOnly : Reg → Bool
  | .SEC_KWRAP | .SEC_FUSE_DATA => true
  | _ => false

/-! ### Reports that a write makes (R575, R577) -/

/-- Leaf bits that are 1 and that a change of masks has uncovered make a report (R575). -/
def State.reportUncovered (s before : State) : State :=
  s.each s.regs fun s x =>
    match Reg.all.find? (fun r => r.ctorIdx == x.1.1) with
    | some r =>
      if r.info.w1c == 0 then s
      else
        s.each (List.range 32) fun s b =>
          if x.2.toNat.testBit b && before.leafMasked r b x.1.2 && !s.leafMasked r b x.1.2 then
            match s.sourceOfLeaf r b x.1.2 with
            | some src => s.report src b (chanOfLeaf r b x.1.2) (s.detailOf r b x.1.2)
            | none => s
          else s
    | none => s

/-- EV_SRC_CFG of a source takes a value: a vector whose condition becomes true sends its message (R577). -/
def State.writeSource (s : State) (src : Nat) (v : Word) : State :=
  let t := s.setReg .EV_SRC_CFG src v
  let vector := t.rd F.EV_SRC_CFG_IDX src
  if t.rd F.EV_SRC_CFG_DEST src == 2 && t.routed 2 vector && !s.routed 2 vector then t.sendMsix vector else t

/-! ### One register takes a value -/

/-- A register takes a written value: RW and W1S bits, and what the chapters state beside them.  TX_PRECODE and RX_PRECODE are not
written during a training attempt (R124), and TX_EN = 0 ends a transmitter's fault hold (R146);
SWAP_AT not while ARMED (R111), nor SY_IMG_AT; ENG_EN of absent engines stays 0 (R3). -/
def State.putReg (s : State) (r : Reg) (i : Nat) (v : Word) : State :=
  let new := r.written (s.reg r i) v
  match r with
  | .LN_CTRL =>
    let t := s.setReg r i new
    let t := if F.LN_CTRL_TX_EN.get new == 0 then t.modLane i fun x => { x with faultHold := false } else t
    if s.laneState i == .train then
      (t.wr F.LN_CTRL_TX_PRECODE i (s.rd F.LN_CTRL_TX_PRECODE i)).wr F.LN_CTRL_RX_PRECODE i (s.rd F.LN_CTRL_RX_PRECODE i)
    else t
  | .GRID_SWAP_AT_LO | .GRID_SWAP_AT_HI =>
    if s.on F.GRID_SWAP_STAT_ARMED 0 then s.raise F.GRID_STICKY_LOCKED_WR 0 else s.setReg r i new
  | .GRID_SWAP_CMD =>
    let t := s.setReg r i new
    if 2 ≤ ([0, 1, 2].filter v.toNat.testBit).length then t.swapResult 7 else t
  | .TD_THR => (s.setReg r i new).later (.tolStart i)
  | .FP_CTRL =>
    let t := s.setReg r i new
    if s.halfDevice then t.wr F.FP_CTRL_ENG_EN 0 (t.rd F.FP_CTRL_ENG_EN 0 % 16) else t
  | .TM_INV_TEMP => { s.setReg r i new with timePll := { s.timePll with tempAt := s.now, tempStale := false } }
  | .SY_IMG_AT_LO | .SY_IMG_AT_HI => if s.imgState == 5 then s else s.setReg r i new
  | .SY_PC_VEC => s.writeVector i new
  | .SY_PC_TCMP_LO | .SY_PC_TCMP_HI => (s.setReg r i new).compareTimer i
  | .PC_CNT_LO =>
    if i == 64 then s else s.setCtr ⟨.pc, i, 0⟩ (s.pcValue i / 2 ^ 32 * 2 ^ 32 + v.toNat)
  | .PC_CNT_HI =>
    let k := i % 65
    if k == 64 then s else s.setCtr ⟨.pc, k, 0⟩ (v.toNat % 2 ^ 16 * 2 ^ 32 + s.pcValue k % 2 ^ 32)
  | .EV_SRC_CFG => s.writeSource i new
  | .EV_LOG_RD => s.writeLogRd (v.toNat % 8192)
  | .PC_DUMP_CFG => s.writeDumpCfg i v
  | .PM_CFG => s.writePmCfg v
  | .MSIX_ADDR_LO | .MSIX_ADDR_HI | .MSIX_DATA | .MSIX_CTRL => (s.setReg r i new).flushMsix
  | .SY_MASK | .SY_IMG_MASK | .MM_MASK | .BM_MASK | .PC_MASK | .TS_MASK | .EV_LOG_MASK => (s.setReg r i new).reportUncovered s
  | _ => s.setReg r i (if r.writeOnly then v else new)

/-- W1C bits of a register are cleared. -/
def State.clearReg (s : State) (r : Reg) (i : Nat) (v : Word) : State :=
  if r.info.w1c == 0 then s else s.setReg r i (r.cleared (s.reg r i) v)

/-! ### Journaled writes (R429, R430) -/

/-- The effect of a write to a journaled register, as made in the present tick. -/
def State.applyWrite (s : State) : Write → State
  | .trainRestart l => s.restartTraining l
  | .backoffDis l on => s.setBackoffDis l on
  | .loopSet l mode squelch => s.setLoop l mode squelch
  | .loopRelease l => s.releaseLoop l
  | .patClr l => s.later (.patClear l)
  | .injectSingle l => s.later (.inject l 1)
  | .injectBurst l blen => s.injectBurst l blen
  | .manifest p v =>
    if s.swap.locked then s.raise F.GRID_STICKY_LOCKED_WR 0
    else (s.setManifest (1 - s.liveBank) p v).modSwap fun x => { x with shadowBad := x.shadowBad.filter (· != p) }
  | .prepare => s.gridCommand .gridPrepare
  | .arm => s.gridCommand (.gridArm s.swapAt s.tick)
  | .cancel => s.gridCommand (.gridCancel s.tick)
  | .repack => s.gridRepack
  | .idata q v => s.idataWrite q v
  | .xdataRead q => s.modPackets q Packets.popWord
  | .gccTx e ch v => s.gccWrite e ch v
  | .gccRead e ch => s.modGcc e ch Gcc.popWord
  | .txEn e on => s.writeTxEn e on
  | .laserEn e on => s.wrBool F.LE_CTRL_LASER_EN e on
  | .pstate e p => s.wr F.LE_CTRL_PSTATE e p
  | .atten e v => s.setReg .LE_DRV e v
  | .acqRestart e => s.later (.acqRestart e)
  | .spiGo e v => s.spiGo e v
  | .keyLoad copy ctx phase blob => s.keyLoad copy ctx phase blob
  | .keyChange copy ctx target b => s.keyChange copy ctx target b
  | .zeroize copy ctx phase => s.zeroize copy ctx phase
  | .zeroizeAll copy e dir => s.zeroizeAll copy e dir
  | .clrLatch e => s.later (.clrLatch e)
  | .tdDs e lit => s.wr F.TD_DS_LIT e lit
  | .gsBank e bank => s.requestBank e bank
  | .mgRealign g => s.later (.mgRealign g)
  | .mgCmd g cmd => s.mgCmd g cmd
  | .tsLearn src => s.learnAgain src
  | .swOfs v => s.later (.swOfs v)
  | .resetModel => s.resetModel
  | .reg r i v => s.putReg r i v
  | .switchover => s.applySwitchover
  | .retire m v => s.retireWrite m v
  | .ccTx v => s.ccWrite v
  | .dcStart v => s.dcCommand v s.tick
  | .agent a => s.applyAgent a s.tick true
  | .imgApply src im => s.imageApply src im
  | .imgCommit n persist => s.imageCommitAt n s.tick persist false
  | .imgAbort => s.imageAbort s.tick
  | .imgRevert => s.imageRevert

/-- The writes that a word written to a journaled register stands for, in the order in which they act. -/
def writesOf (r : Reg) (i : Nat) (v : Word) : List Write :=
  let bit (f : Field) : Bool := f.get v == 1
  let onlyIf (c : Bool) (w : Write) : List Write := if c then [w] else []
  match r with
  | .LN_TRAIN_CTRL => [.backoffDis i (bit F.LN_TRAIN_CTRL_BACKOFF_DIS)] ++ onlyIf (bit F.LN_TRAIN_CTRL_RESTART) (.trainRestart i)
  | .LN_LOOP =>
    let mode := F.LN_LOOP_MODE.get v
    if mode == 0 then [.reg r i v, .loopRelease i] else [.loopSet i mode (bit F.LN_LOOP_TX_SQ)]
  | .LN_PAT_CHK => [.reg r i v] ++ onlyIf (bit F.LN_PAT_CHK_CLR) (.patClr i)
  | .LN_INJ =>
    [.reg r i v] ++ onlyIf (bit F.LN_INJ_BURST) (.injectBurst i (F.LN_INJ_BLEN.get v)) ++
      onlyIf (bit F.LN_INJ_SINGLE && !bit F.LN_INJ_BURST) (.injectSingle i)
  | .GRID_SWAP_CMD =>
    let one := decide (([0, 1, 2].filter v.toNat.testBit).length = 1)
    [.reg r i v] ++ onlyIf (one && bit F.GRID_SWAP_CMD_PREPARE) .prepare ++ onlyIf (one && bit F.GRID_SWAP_CMD_ARM) .arm ++
      onlyIf (one && bit F.GRID_SWAP_CMD_CANCEL) .cancel
  | .GRID_STOW_CMD => onlyIf (bit F.GRID_STOW_CMD_REPACK) .repack
  | .QY_IDATA => [.idata i v]
  | .LF_GCC_TXD0 => [.gccTx i 0 v]
  | .LF_GCC_TXD1 => [.gccTx i 1 v]
  | .LE_CTRL =>
    [.txEn i (bit F.LE_CTRL_TX_EN), .laserEn i (bit F.LE_CTRL_LASER_EN), .pstate i (F.LE_CTRL_PSTATE.get v), .reg r i v] ++
      onlyIf (bit F.LE_CTRL_ACQ_RESTART) (.acqRestart i)
  | .LE_DRV => [.atten i v]
  | .LE_SPI_CTRL => if bit F.LE_SPI_CTRL_GO then [.spiGo i v] else [.reg r i v]
  | .SEC_ECTRL => [.reg r i v] ++ onlyIf (bit F.SEC_ECTRL_CLR_LATCH) (.clrLatch (i / 2))
  | .TD_DS => [.tdDs i (F.TD_DS_LIT.get v)]
  | .TD_GS_CTRL => [.gsBank i (F.TD_GS_CTRL_BANK.get v)]
  | .MG_CTRL =>
    [.mgCmd i (F.MG_CTRL_CMD.get v), .reg r i v] ++ onlyIf (bit F.MG_CTRL_REALIGN) (.mgRealign i)
  | .TM_TS_CFG => [.reg r i v] ++ onlyIf (bit F.TM_TS_CFG_LEARN) (.tsLearn i)
  | .TM_SW_OFS => [.swOfs v]
  | .TM_INV_CTRL => [.reg r i v] ++ onlyIf (bit F.TM_INV_CTRL_RESET_MODEL) .resetModel
  | .HR_PORT_CFG => [.retire i v]
  | .HR_CC_TXD => [.ccTx v]
  | .HR_DC_CMD => [.dcStart v]
  | _ => if (r.info.rw ||| r.info.w1s) == 0 then [] else [.reg r i v]

/-- Several writes of one access, as `State.write` performs one. -/
def State.writeAll (s : State) (m : Initiator) (addr : Nat) (ws : List Write) : State :=
  if m.journals && s.standby then s.refuseLocal m addr
  else if m.journals && s.active then (s.each ws State.journalEntry).reply m (.ok 0)
  else (s.each ws State.applyWrite).reply m (.ok 0)

/-! ### What a master may reach (R3, R181, R268, R522, R525, R588) -/

/-- The master's LE_SEL names an absent engine: every access to the LE window but one to LE_SEL goes to the default target (R3). -/
def State.windowGone (s : State) (m : Initiator) (r : Reg) : Bool :=
  r.info.addr / 2 ^ 24 == 0x24 && r != .LE_SEL && !s.engineExists (s.engineSel m)

/-- A quay that another one leads: its client-level registers read 0 and writes to them are not performed (R181). -/
def State.follower (s : State) (q : Nat) : Bool :=
  let lead := s.rd F.QY_CFG_LEAD q
  lead != q && s.leads lead && decide (lead ≤ q) && decide (q < lead + s.gangSize lead)

/-- The register is a client-level one of a quay that another leads. -/
def State.silent (s : State) (m : Initiator) (r : Reg) : Bool :=
  r.info.scope == .quay && r != .QY_CFG && s.follower (s.quaySel m)

/-- Registers that only masters 0 and 1 and machine mode may write (R492, R522, R534, R552). -/
def Reg.reserved : Reg → Bool
  | .SY_PC_CTRL | .SY_PC_VEC | .SY_QSPI_CMD | .SEC_FUSE_CMD | .MM_REP_CTRL => true
  | _ => false

/-- A write of this master and mode receives the error response with cause PRIV. -/
def writeRefused (m : Initiator) (r : Reg) : Bool :=
  (m.isUser && (userRefused r true || r.info.addr / 2 ^ 24 == 0x2C)) || (r.reserved && !m.trusted)

/-- A read of this master and mode receives the error response with cause PRIV. -/
def State.readRefused (s : State) (m : Initiator) (r : Reg) : Bool :=
  (m.isUser && userRefused r false) || (r.info.addr / 2 ^ 24 == 0x2C && s.pcReadRefused m)

/-! ### Writes -/

/-- The key command of SEC_KCMD (R291 to R295). -/
def State.writeKeyCmd (s : State) (m : Initiator) (v : Word) : State :=
  let s := if s.standby && m.journals then s else s.putReg .SEC_KCMD 0 v
  let phase : Fin 2 := Fin.ofNat 2 (F.SEC_KCMD_PHASE.get v)
  match F.SEC_KCMD_CMD.get v with
  | 1 => s.via (execKeyLoad m phase)
  | 2 => s.via (execKeyChange m (Fin.ofNat 4 (F.SEC_KCMD_TARGET.get v)))
  | 3 => s.via (execZeroize m phase)
  | 4 => s.via (execZeroizeAll m)
  | _ => s.reply m (.ok 0)

/-- A command of SY_IMG_CMD, but for HOST_GO. -/
def State.writeImgCmd (s : State) (m : Initiator) (v : Word) (x : Aside) : State :=
  match F.SY_IMG_CMD_CMD.get v with
  | 1 => s.via (execImgApply m v x.image)
  | 2 => s.via (execImgCommit m v)
  | 3 => s.via (execImgAbort m v)
  | 4 => s.via (execImgPersist m v x.image)
  | 5 => s.via (execImgRevert m v)
  | _ => (s.keepImgCmd v).reply m (.ok 0)

/-- The resource that SY_BLKRST names; none for a BLOCK or an INDEX that names nothing (R572). -/
def State.resourceOf (s : State) (v : Word) : Option Resource :=
  let i := F.SY_BLKRST_INDEX.get v
  match F.SY_BLKRST_BLOCK.get v with
  | 1 => if i < 128 then some (.lane i) else none
  | 2 => if i < 64 then some (.quay i) else none
  | 3 => if s.engineExists i then some (.engine i) else none
  | 4 => some (.group i)
  | 5 => if i < 4 then some (.port i) else none
  | _ => none

/-- SY_BLKRST: BLOCK and INDEX are kept; GO resets the resource at the next boundary (R572). -/
def State.writeBlkRst (s : State) (v : Word) : State :=
  let s := s.putReg .SY_BLKRST 0 v
  if F.SY_BLKRST_GO.get v == 1 then (match s.resourceOf v with | some r => s.later (.blockReset r) | none => s) else s

/-- The bits of CAP_CTRL, in the order of their positions. -/
def State.writeCapCtrl (s : State) (m : Initiator) (v : Word) : State :=
  let bit (f : Field) : Bool := f.get v == 1
  let s := if bit F.CAP_CTRL_ARM then s.via (execCapArm m) else s
  let s := if bit F.CAP_CTRL_TRIG then s.via (execCapTrig m) else s
  let s := if bit F.CAP_CTRL_DISARM then s.via (execCapDisarm m) else s
  (if bit F.CAP_CTRL_RELEASE then s.via (execCapRelease m) else s).reply m (.ok 0)

/-- The bits of MT_CTRL. -/
def State.writeMateCtrl (s : State) (m : Initiator) (v : Word) : State :=
  ((s.via (execSwGrant m v)).via (execResync m v)).via (execSwitchover m v)

/-- A write to a register of its own row that is not journaled; none for the other registers. -/
def State.writeRow (s : State) (m : Initiator) (r : Reg) (i : Nat) (v : Word) (x : Aside) : Option State :=
  match r with
  | .SY_LOOP_FREEZE => some (s.via (execLoopFreezeWrite m v))
  | .SY_REMAP => some (s.via (execBootswap m v))
  | .SY_PC_CTRL => some (s.via (execCoreRunWrite m v x.cores))
  | .SY_APPLET_CTRL => some (s.via (execAppletStart m v))
  | .SY_QSPI_CMD => if F.SY_QSPI_CMD_GO.get v == 1 then some (s.via (execQspiGo m v)) else none
  | .SY_UART => some (s.via (execUartTxWrite m v))
  | .SY_MBX_DATA => some (s.via (execSyMbxDataWrite m v))
  | .SY_IMG_CMD => some (s.writeImgCmd m v x)
  | .SY_BLKRST => some ((s.writeBlkRst v).reply m (.ok 0))
  | .SEC_DBG_CTRL => some (s.via (execDebugUnlock m v))
  | .SEC_FUSE_CMD => if F.SEC_FUSE_CMD_GO.get v == 1 then some (s.via (execFuseProgram m v)) else none
  | .SEC_KCMD => some (s.writeKeyCmd m v)
  | .MM_REP_CTRL => if F.MM_REP_CTRL_PROGRAM.get v == 1 then some (s.via (execRepairProgram m v)) else none
  | .MT_CTRL => some (s.writeMateCtrl m v)
  | .CAP_CTRL => some (s.writeCapCtrl m v)
  | .PC_DUMP_CTRL => if F.PC_DUMP_CTRL_STOP.get v == 1 then some (s.via (execDumpStop m x.dump)) else none
  | .TS_BIST_CTRL => some (s.bistCtrl m v)
  | .GRID_SWAP_AT_LO | .GRID_SWAP_AT_HI =>
    if s.on F.GRID_SWAP_STAT_ARMED 0 then some ((s.busError m true (r.info.addr) .target).raise F.GRID_STICKY_LOCKED_WR 0) else none
  | _ => if r.info.scope == .copy then some ((s.putReg r i v).reply m (.ok 0)) else none

/-- A write that reaches one copy of a register: W1C bits act at once on this device alone (R429), the rest is journaled where R429 says
so. -/
def State.writeCopy (s : State) (m : Initiator) (r : Reg) (i addr : Nat) (v : Word) (x : Aside) : State :=
  match s.writeRow m r i v x with
  | some t => t
  | none =>
    let s := s.clearReg r i v
    let ws := writesOf r i v
    if ws.isEmpty then s.reply m (.ok 0)
    else if r.journaled then s.writeAll m addr ws
    else (s.each ws State.applyWrite).reply m (.ok 0)

/-- Entry of a manifest window behind an offset (R98). -/
def windowEntry (base addr : Nat) : Option Nat :=
  if base ≤ addr && addr < base + 92160 && (addr - base) % 4 == 0 then some ((addr - base) / 4) else none

/-- A 32-bit write to a register address. -/
def State.writeReg (s : State) (m : Initiator) (addr : Nat) (v : Word) (x : Aside) : State :=
  match windowEntry 0x21100000 addr, windowEntry 0x21200000 addr with
  | some p, _ => s.via (execManifestShadowWrite m (Fin.ofNat 23040 p) v)
  | _, some _ => s.reply m (.ok 0)
  | none, none =>
    match regAt addr with
    | none => s.busError m true addr .default
    | some (r, k) =>
      if writeRefused m r then s.busError m true addr .priv
      else if s.windowGone m r then s.busError m true addr .default
      else if s.silent m r then s.reply m (.ok 0)
      else
        match s.resolve m r k with
        | some i => s.writeCopy m r i addr v x
        | none => s.reply m (.ok 0)

/-! ### Reads -/

/-- A read whose row is a command of its own; none for the other registers. -/
def State.readRow (s : State) (m : Initiator) (r : Reg) (k : Nat) : Option State :=
  match r with
  | .SY_TICKNO_LO => some (s.via (execSyTicknoLoRead m))
  | .SY_UART => some (s.via (execUartRxRead m))
  | .SY_MBX_DATA => some (s.via (execSyMbxDataRead m))
  | .TR_BIP_LO => some (s.via (execTrBipLoRead m))
  | .GRID_SWAP_DONE_LO => some (s.via (execGridSwapDoneLoRead m))
  | .LN_ERR_LO => some (s.via (execLnErrLoRead m))
  | .LN_BITS_LO => some (s.via (execLnBitsLoRead m))
  | .QY_CNT_LO => some (s.via (execQyCntLoRead m))
  | .QY_XDATA => some (s.via (execQyXdataRead m))
  | .QY_TSF0 => some (s.via (execQyTsf0Read m))
  | .LF_FNO_LO => some (s.via (execLfFnoLoRead m))
  | .LF_PM_LO => some (s.via (execLfPmLoRead m))
  | .LF_GCC_RXD0 => some (s.via (execLfGccRxdRead m 0))
  | .LF_GCC_RXD1 => some (s.via (execLfGccRxdRead m 1))
  | .FP_CNT_LO => some (s.via (execFpCntLoRead m))
  | .TD_CNT_LO => some (s.via (execTdCntLoRead m))
  | .MG_CNT_LO => some (s.via (execMgCntLoRead m))
  | .TM_TB0 => some (s.via (execTmTb0Read m))
  | .MT_CNT_LO => some (s.via (execMtCntLoRead m))
  | .HR_CNT_LO => some (s.via (execHrCntLoRead m))
  | .HR_CC_RXD => some (s.via (execHrCcRxdRead m))
  | .MM_ECC_ADDR_LO => some (s.via (execMmEccAddrLoRead m))
  | .PC_CNT_LO => some (s.via (execPcCntLoRead m (Fin.ofNat 65 k)))
  | _ => none

/-- IN_DEV and EG_DEV of a client (QY_FIFO). -/
def State.fifoView (s : State) (q c : Nat) : Nat :=
  let x := s.client (clientNo q c)
  let size := ((s.image.trainMap.find? fun r => r.kind == 0 && r.unit == q && r.slot == c).bind fun r => s.image.train r.train).map (·.k)
  let idle := (s.image.clientOf q c).2 == 2
  let dev : Int := if idle then x.fill else ((x.fill : Int) - 1000 * (size.getD 0 : Nat)) / 64
  unsigned 16 dev * 2 ^ 16 + unsigned 16 (x.egDev / 64)

/-- LF status of the unit that a master reads; a subcarrier that is not DEDICATED reads as in LOS (R313). -/
def State.lfView (s : State) (m : Initiator) (r : Reg) (e : Nat) : Word :=
  let sc := s.rd F.TD_SEL_SC m.copy
  if s.on F.LF_CFG_HUB e && s.rd F.TD_SCTYPE_TYPE e / 4 ^ sc % 4 != 1 then r.resetValue 0 else s.reg r (s.lfUnit m e)

/-- The value of a register that is put together when it is read; none for the other registers. -/
def State.viewOf (s : State) (m : Initiator) (r : Reg) (i k : Nat) : Option Word :=
  let q := s.quaySel m
  match r with
  | .LN_TRAIN_STAT =>
    some (if s.cfgOn F.LN_TRAIN_CTRL_BACKOFF_DIS i then F.LN_TRAIN_STAT_BACKOFF.set (s.reg r i) 0 else s.reg r i)
  | .LN_STAT => some (F.LN_STAT_PAT_BAD.set (s.reg r i) (s.patBad i).toNat)
  | .QY_FIFO => some (BitVec.ofNat 32 (s.fifoView q (s.slotSel m)))
  | .QY_DLY => some (BitVec.ofNat 32 ((s.client (clientNo q (s.slotSel m))).latency % 2 ^ 20))
  | .QY_TRACE => some ((s.client (clientNo q (s.slotSel m))).trace.getD k 0)
  | .QY_XSTAT => some (BitVec.ofNat 32 (s.xstat q))
  | .LF_ALIGN | .LF_STAT | .LF_MID_RX => some (s.lfView m r (s.engineSel m))
  | .LF_GCC_STAT => some (BitVec.ofNat 32 (s.gccStat i))
  | .HR_CC_STAT => some (BitVec.ofNat 32 s.ccStat)
  | .MM_MACRO => some (BitVec.ofNat 32 (s.macroInfo i))
  | .BM_MSTAT => some (BitVec.ofNat 32 (2 ^ m.num.val))
  | .EV_STAT => some (BitVec.ofNat 32 (((List.range 32).filter fun b => s.sourceLive (32 * k + b)).foldl (fun a b => a + 2 ^ b) 0))
  | .EV_PEND =>
    some (BitVec.ofNat 32 (((s.stickySources k).filter s.sourcePending).foldl (fun a src => a + 2 ^ (src % 32)) 0))
  | .EV_GPEND => some (BitVec.ofNat 32 s.groupsPending)
  | .SEC_KWRAP | .SEC_FUSE_DATA => some 0
  | _ => none

/-- SY_TICKPOS at a clock of the tick, which the model leaves open: CLK is at most 5,599, SPARE is 1 from clock 5,120. -/
def tickPosition (clock : Nat) : Word :=
  let c := clock % 5600
  BitVec.ofNat 32 (c + (if 5120 ≤ c then 2 ^ 13 else 0))

/-- BP_PLAN of a berth port: slots of the live plan; for a connection of which the stowage engine has told none, an open slot below 320
(R90). -/
def State.planOf (s : State) (p slots : Nat) : Word :=
  let cs := connections s.image (s.bankEntries s.liveBank)
  let egSlot := ((s.swap.plan.find? fun c => c.egress == p).map (·.slot)).getD (slots % 320)
  let eg := if cs.any (·.2 == p) then 2 ^ 15 + egSlot % 512 else 0
  let read := ((s.swap.plan.filter fun c => c.ingress == p).map (·.slot)).eraseDups
  let reads := if read.isEmpty then min (fanOut cs p) (1 + slots / 320 % 4) else min 4 read.length
  let low := (read.min?).getD (slots / 1280 % 320)
  let ins := if cs.any (·.1 == p) then 2 ^ 15 + reads * 2 ^ 12 + low % 512 else 0
  BitVec.ofNat 32 (eg * 2 ^ 16 + ins)

/-- A 32-bit read of a register address: the master is answered. -/
def State.readReg (s : State) (m : Initiator) (addr : Nat) : State :=
  match windowEntry 0x21100000 addr, windowEntry 0x21200000 addr with
  | some p, _ => s.reply m (.ok (s.manifest (1 - s.liveBank) p))
  | _, some p => s.reply m (.ok (s.manifest s.liveBank p))
  | none, none =>
    match regAt addr with
    | none => s.busError m false addr .default
    | some (r, k) =>
      if s.readRefused m r then s.busError m false addr .priv
      else if s.windowGone m r then s.busError m false addr .default
      else if s.silent m r then s.reply m (.ok 0)
      else
        match s.resolve m r k with
        | none => s.reply m (.ok 0)
        | some i =>
          match s.readRow m r k, s.viewOf m r i k with
          | some t, _ => t
          | none, some w => s.reply m (.ok w)
          | none, none =>
            if r == .SY_TICKPOS then s.draw.reply m (.ok (tickPosition s.drawn))
            else if r == .BP_PLAN then s.draw.reply m (.ok (s.planOf i s.drawn))
            else s.reply m (.ok (s.reg r i))

/-- The pending-bit array of MSI-X: bit v of the array at 0x2D010800 (R527). -/
def State.pendingBits (s : State) (word : Nat) : Word :=
  BitVec.ofNat 32 (((List.range 32).filter fun b => s.msixWaits (32 * word + b)).foldl (fun a b => a + 2 ^ b) 0)

/-- Meaning of a register access as the matrix performs it; the pending-bit array is read only. -/
def State.registerRead (s : State) (m : Initiator) (addr : Nat) : State :=
  if addr == 0x2D010800 || addr == 0x2D010804 then s.reply m (.ok (s.pendingBits ((addr - 0x2D010800) / 4))) else s.readReg m addr

/-- A write reaches a register, or the pending-bit array, which ignores it. -/
def State.registerWrite (s : State) (m : Initiator) (addr : Nat) (v : Word) (x : Aside) : State :=
  if addr == 0x2D010800 || addr == 0x2D010804 then
    (if m.isUser then s.busError m true addr .priv else s.reply m (.ok 0))
  else s.writeReg m addr v x

end Sys2Proof.Machine
end

