-- ==== Sys2Proof/Machine/Commit.lean ====
section
/-! DEFINITION. An image takes effect (R566): registers, restarts by class of change (R32 to R34), REGINIT (R545), keys and applets; and
block resets (R572). -/

namespace Sys2Proof.Machine

/-! ### REGINIT (R545) -/

/-- The loader of REGINIT: a set of per-master selects of its own stands where a master's copies stand while it runs. -/
def loader : Initiator := ⟨9, false⟩

/-- Per-master registers, and how many words each copy has. -/
def copyRegs : List Reg := Reg.all.filter fun r => r.info.scope == .copy

/-- The loader's copies take the values they have in another table of registers; with an empty table, their reset values. -/
def State.loaderCopies (s : State) (t : Table Word) : State :=
  s.each copyRegs fun s r =>
    s.each (List.range r.info.count) fun s k =>
      let i := loader.copy * r.info.count + k
      s.setReg r i (regGet t r i)

/-- One REGINIT record, if it reaches a register that is wanted: a 32-bit register write, journaled by no one. -/
def State.initReg (s : State) (wanted : Reg → Nat → Bool) (addr : Nat) (v : Word) : State :=
  match regAt addr with
  | none => s
  | some (r, k) =>
    match s.resolve loader r k with
    | none => s
    | some i =>
      if r.info.scope != .copy && !wanted r i then s
      else
        match s.writeRow (if r.reserved then ⟨0, false⟩ else loader) r i v {} with
        | some t => t
        | none => (s.clearReg r i v).each (writesOf r i v) State.applyWrite

/-- The REGINIT records of an image, in order (R545, R566). -/
def State.regInits (s : State) (im : Image) (wanted : Reg → Nat → Bool) : State :=
  if im.regInit.isEmpty then s
  else
    let regs := s.regs
    let answers := s.answers
    let s := (s.loaderCopies []).each im.regInit fun s x => s.initReg wanted x.1 x.2
    { s.loaderCopies regs with answers := answers }

/-! ### Putting an image into force (R566) -/

/-- Fault holds of the service mode: SAFE, and SURVEY on an engine that sweeps (R247). -/
def State.setModeHolds (s : State) (im : Image) : State :=
  s.each ((List.range 8).filter s.engineExists) fun s e =>
    let sweeps := im.mode == 11 && im.survey.any fun v => v.engine == e && v.role == 2
    let hold := im.mode == 0 || sweeps
    if (s.engine e).modeHold == hold then s else s.holdChanged e fun x => { x with modeHold := hold }

/-- What a class X change loses: captures, contents of the Anchorage's regions; comparisons of a pair are suspended; the datapath passes
through START-UP (R32, R409, R450, R504). -/
def State.classX (s : State) (old im : Image) : State :=
  let s := { s with captures := [], anc := if old.anchorage == im.anchorage then s.anc else [] }
  (s.modMate fun x => { x with suspended := true }).setDevState .startUp

/-- An image is in force at the present boundary: `restart` tells whether every resource restarts whatever changed. -/
def State.enforce (s : State) (im : Image) (restart : Bool) : State :=
  let old := s.image
  let first := !s.committed
  let crossing := !first && im.restartsFrom old
  let every := first || crossing || restart || (im.mode == 0 && old.mode != 0)
  let s := if crossing then s.closeBins else s
  let s := { s with image := im, previous := if first then none else some old, applied := none, committed := true }
  let s := s.each (changedResources old im true) fun s r => s.setResource im r
  let s := (s.setShared old im first).setModeHolds im
  let s := if crossing then s.classX old im else s
  let s := s.regInits im fun _ _ => true
  let s := s.each (changedResources old im every) State.restartResource
  let s := ((s.setContexts old im).loadKeys im).setApplets old im every
  let s := (s.roleErrors.showPm).wr F.SY_IMG_DIGEST_D 0 (digestWord im.digest)
  { s with act := s.regs }

/-- What the commit does beside the image itself (R565 to R568): COMMITTED, the swap registers released or kept by an open domain commit,
and the commit record where PERSIST_C asks for one and the image came from a slot. -/
def State.commitEnds (s : State) (im : Image) : State :=
  let keep := s.imageJob.domain && s.domain.isSome
  let s := s.modSwap fun x => { x with holder := if keep then .domain else .nobody, locked := x.locked && keep }
  let s := { s with imageJob := { s.imageJob with doneAt := some s.tick } }.imgEvent 0
  if s.imageJob.persist && s.imageJob.src ≤ 1 then (s.startRecord s.imageJob.src im).imgResult 0 else (s.setImgState 0).imgResult 1

/-- IMAGE_COMMIT_BOUNDARY: at N the image takes effect with the swap that was armed with it; if the swap was missed, nothing of it does
(R566). -/
def State.imageCommit (s : State) : State :=
  if s.imgState != 5 || s.tick != s.imageJob.due || s.on F.GRID_SWAP_STAT_ARMED 0 then s
  else
    match s.applied with
    | none => s
    | some im =>
      if s.swap.switchedAt == some s.now then (s.enforce im false).commitEnds im
      else s.dropApply.imgResult 7

/-! ### Block resets (R572) -/

/-- The copy of a register belongs to a resource. -/
def Resource.owns (x : Resource) (r : Reg) (i : Nat) : Bool :=
  let u := i / r.info.count
  match x, r.info.scope with
  | .lane l, .lane => u == l
  | .quay q, .quay => u == q
  | .engine e, .engine => u == e
  | .engine e, .subcarrier => u / 16 == e
  | .engine e, .quantity => u / 16 == e
  | .engine e, .leaf => u / 256 == e
  | .engine e, .mimoTap => u / 1024 == e
  | .group g, .group => u == g
  | .port m, .mport => u == m
  | _, _ => false

/-- The register with a constructor index. -/
def regOfIdx (n : Nat) : Option Reg := Reg.all.find? fun r => r.ctorIdx == n

/-- The registers of a resource return to their reset values, then to those of the committed image. -/
def State.resetRegs (s : State) (x : Resource) : State :=
  let s := s.keepRegs fun y => !(match regOfIdx y.1.1 with | some r => x.owns r y.1.2 | none => false)
  (s.setResource s.image x).regInits s.image x.owns

/-- The reset acts at the boundary after the write: the resource stops as by a class T change, and is held until the next boundary. -/
def State.blockReset (s : State) (x : Resource) : State :=
  let s := (s.resetRegs x).restartResource x
  { s with blockResets := s.blockResets ++ [(x, s.now)] }

/-- BLOCK_RESET_RELEASE: a resource reset at an earlier boundary is released, as after a class T change of it. -/
def State.blockRelease (s : State) : State :=
  let out := s.blockResets.filter fun x => decide (x.2 < s.now)
  { s with blockResets := s.blockResets.filter fun x => !decide (x.2 < s.now) }.each out fun s x => s.restartResource x.1

/-! ### The commands -/

/-- Meaning of IMAGE_COMMIT_BOUNDARY. -/
def execImageCommitBoundary (s : State) : Host.Outcome State Fault Refusal := .next s.imageCommit

/-- Meaning of BLOCK_RESET: SY_BLKRST is written; user mode may not (R525). -/
def execBlockReset (m : Initiator) (v : Word) (s : State) : Host.Outcome State Fault Refusal :=
  .next (s.kept m 0x20000240 fun t => t.writeBlkRst v)

/-- Meaning of BLOCK_RESET_RELEASE. -/
def execBlockResetRelease (s : State) : Host.Outcome State Fault Refusal := .next s.blockRelease

end Sys2Proof.Machine
end

