-- ==== Sys2Proof/Machine/Boot.lean ====
section
/-! DEFINITION. Resets, fuse load, image selection and START-UP (R6, R366, R500, R501, R558 to R563, R568 to R571, R628). -/

namespace Sys2Proof.Machine

/-- The boot sequencer holds something else. -/
def State.modBoot (s : State) (f : Boot → Boot) : State := { s with boot := f s.boot }

/-! ### PORSTn and the thermal reset (R570, R622, R628) -/

/-- The field repairs after PORSTn has cut a programming off: a torn one counts as used (R553). -/
def State.repairCut (s : State) (how : FuseCut) : Table Nat :=
  match s.repairColumn, how with
  | some (mac, col), .done | some (mac, col), .torn => (s.setRepairOf mac (2 - s.macroLeft mac) (col + 1)).repaired
  | _, _ => s.repaired

/-- The engines whose SPI transfer a reset ends now, or has ended since the last BOOT (R267). -/
def State.spiEnded (s : State) : List Nat := s.boot.spiCut ++ (List.range 8).filter fun e => s.on F.LE_SPI_CTRL_BUSY e

/-- Everything at its PORSTn value but the fuse cells, the field repairs, the SPI errors to be raised (R267) and what the model holds
for itself. -/
def State.powerReset (s : State) (fuse repair : FuseCut) : State :=
  { State.reset with
    pending := s.pending, now := s.now, free := s.free, outbox := s.outbox,
    fuseCells := s.fuseCut fuse, repaired := s.repairCut repair, boot := { spiCut := s.spiEnded } }

/-- The internal reset of a thermal shutdown, which waits for a fuse programming in progress (R628). -/
def State.thermalReset (s : State) : State :=
  let due := match s.thermal.resetAt with | some t => decide (t ≤ s.now) | none => false
  if !due || s.on F.SEC_FUSE_STAT_BUSY 0 || s.on F.MM_REP_STAT_BUSY 0 then s
  else
    let t := s.powerReset .blank .blank
    { t with boot := { t.boot with thermal := true }, thermal := { s.thermal with resetAt := none, hot := 0, coolSince := none } }

/-- Every sensor has read below 110 °C for a second during the reset of a thermal shutdown (R628). -/
def State.thermalCool (s : State) : Bool :=
  s.boot.thermal && (match s.thermal.coolSince with | some t => s.elapsed t ticksPerSecond | none => false)

/-- The role of HROLE: 0b11 is treated as STANDALONE, with HROLE_BAD (R453). -/
def State.takeRole (s : State) (hrole : Nat) : State :=
  (s.wr F.HR_CFG_ROLE 0 (if hrole == 3 then 0 else hrole)).raiseIf (hrole == 3) F.HR_DSTICKY_HROLE_BAD 0

/-- SY_STRAP (R558). -/
def State.takeStraps (s : State) (x : Straps) : State :=
  let s := ((s.wrBool F.SY_STRAP_TEST_EN 0 x.testEn).wrBool F.SY_STRAP_DEF_HALT 0 x.defHalt).wrBool F.SY_STRAP_MATE_EN 0 x.mateEn
  (s.wr F.SY_STRAP_HROLE 0 x.hrole.val).wr F.SY_STRAP_BOOT_SRC 0 x.bootSrc.val

/-- Core 0 starts in machine mode at address 0 (R522). -/
def State.startCore0 (s : State) : State := s.setCore 0 { running := true, start := 0 }

/-- The reset is released (R366, R522, R558): BOOT, with the straps sampled and XO_IN measured. -/
def State.leaveReset (s : State) (straps : Straps) (xo : Option (Fin 5)) (cause : Nat) : State :=
  let s := (s.modBoot fun b => { b with porst := false, thermal := false, xoBad := xo.isNone }).setDevState .boot
  let s := match xo with | some f => s.wr F.TM_XO_FREQ 0 f.val | none => s
  (((s.takeStraps straps).takeRole straps.hrole.val).wr F.SY_RST_CAUSE_LAST 0 cause).startCore0

/-! ### Fuses and holds (R2, R3, R500, R501) -/

/-- Device identification by ordering code: DEVID of SY_ID. -/
def deviceId (variant : Nat) : Nat := match variant with | 1 => 0x12A1 | 2 => 0x12A2 | _ => 0x06A3

/-- The loaded fuses show in SY_ID, SEC and FP_CTRL (R2, R3, R550). -/
def State.loadFuses (s : State) : State :=
  let s := { s with fuses := s.fuseCells }.modBoot fun b => { b with loaded := true }
  let v := s.fuses.variant
  let s := ((s.wr F.SY_ID_VARIANT 0 v).wr F.SY_ID_REV 0 s.fuses.rev).wr F.SY_ID_DEVID 0 (deviceId v)
  let s := if s.halfDevice then s.wr F.FP_CTRL_ENG_EN 0 0x0F else s
  (s.wr F.MM_ANC_STAT_NEAR_GB 0 (if v == 2 then 128 else 256)).showFuses

/-- DIMM code of an RDIMM's capacity. -/
def dimmCode (gb : Nat) : Nat := match gb with | 32 => 1 | 64 => 2 | 128 => 3 | 256 => 4 | _ => 0

/-- The population meets R500: none, channels 0–1, 0–3 or 0–7, with identical RDIMMs of a listed size. -/
def Dimms.legal (d : Dimms) : Bool :=
  let xs := (d.sizes ++ List.replicate 8 0).take 8
  let n := (xs.filter (· != 0)).length
  n == 0 || ([2, 4, 8].contains n && d.identical && (xs.take n).all fun g => dimmCode g != 0 && some g == xs.head?)

/-- MM_ANC_STAT shows the population that the SPDs give; one that breaks R500 raises DDR_FAIL and leaves the deep hold absent. -/
def State.readDimms (s : State) (d : Dimms) : State :=
  if !d.legal then s.raise F.MM_STICKY_DDR_FAIL 0
  else
    let n := (d.sizes.filter (· != 0)).length
    (s.wr F.MM_ANC_STAT_DDR_CH 0 n).wr F.MM_ANC_STAT_DIMM 0 (if n == 0 then 0 else dimmCode (d.sizes.headD 0))

/-- The installed capacity, before training (R501). -/
def State.installed (s : State) : Holds :=
  ⟨s.rd F.MM_ANC_STAT_NEAR_GB 0 * 2 ^ 30, (s.wr F.MM_ANC_STAT_DDR_OK 0 1).deepSize, s.rd F.MM_ANC_STAT_DDR_CH 0⟩

/-! ### START-UP (R27, R561, R563) -/

/-- BOOT ends in a device state; after SRSTn source SRST is raised (R571, R574), and SPI_ERR of each engine whose transfer the reset has
ended (R267). -/
def State.endBoot (s : State) (d : DevState) : State :=
  let again := s.boot.again
  let cut := s.boot.spiCut
  let s := (s.setDevState d).modBoot fun b => { b with again := false, hostWait := false, spiCut := [] }
  let s := s.each cut fun s e => s.raise F.LE_STICKY_SPI_ERR e
  if again then s.raiseSource 7 else s

/-- What the default image sets beside the sections of an image (R563): the grid DPLL's candidate, and every source to INT_n0. -/
def State.defaultSettings (s : State) : State :=
  let s := match s.boot.refIn0 with
    | some f => ((s.wr F.TM_REF_FREQ_FREQ 0 f).wr F.TM_REF_CFG_QL 0 0xB).wr F.TM_REF_CFG_GEN 0 1
    | none => s
  s.each (List.range 512) fun s i => (s.wr F.EV_SRC_CFG_DEST i 1).wr F.EV_SRC_CFG_IDX i 0

/-- The default image, for the holds that are there. -/
def State.defaultStart (s : State) (near deep : Bool) : Start :=
  ⟨defaultImage (if s.halfDevice then 4 else 8) s.fuses.variant near deep, 2, 0, 0⟩

/-- SY_BOOT_STAT shows a start. -/
def State.showStart (s : State) (st : Start) : State :=
  let key := if s.fuses.sbEn && st.src ≤ 1 then s.signedBy st.image else 0
  let s := ((s.wr F.SY_BOOT_STAT_SRC 0 st.src).wr F.SY_BOOT_STAT_SLOT 0 st.slot).wrBool F.SY_BOOT_STAT_SB 0 (key != 0)
  (s.wr F.SY_BOOT_STAT_KEY 0 key).wr F.SY_BOOT_STAT_SEQ 0 (st.seq % 256)

/-- The image of a start is put into force. -/
def State.putStart (s : State) (st : Start) : State :=
  let s := ((s.loadBank s.liveBank st.image).enforce st.image true).showStart st
  let s := if st.src == 2 then s.defaultSettings else s
  { s with act := s.regs }

/-- START-UP is entered from BOOT after PORSTn (R27): TICK_NO is 0 at the first boundary, but a worker waits for its timing port (R470). -/
def State.startUp (s : State) (st : Start) : State :=
  let worker := s.worker
  let s := s.modBoot fun b =>
    { b with chosen := some st, bare := s.regs, trained := false, tickWait := worker, tickAt := if worker then none else some 0 }
  (s.putStart st).endBoot .startUp

/-- A start has been chosen: with MATE_EN the mate state is decided first (R426). -/
def State.launch (s : State) (st : Start) (spare : List Start) : State :=
  let s := s.modBoot fun b => { b with chosen := some st, spare := spare, hostWait := false }
  if s.on F.SY_STRAP_MATE_EN 0 then s else s.startUp st

/-- RECOVERY or TEST: no image runs. -/
def State.noImage (s : State) (d : DevState) : State := (s.wr F.SY_BOOT_STAT_SRC 0 3).endBoot d

/-! ### Image selection (R559, R560) -/

/-- The image of a slot. -/
def BootFlash.slot (f : BootFlash) (n : Nat) : Image := if n == 0 then f.slotA else f.slotB

/-- The reason why the candidate in slot A, or in slot B or from a host, failed. -/
def State.showReason (s : State) (b : Bool) (reason : Nat) : State :=
  s.wr (if b then F.SY_BOOT_STAT_REASON_B else F.SY_BOOT_STAT_REASON_A) 0 reason

/-- A candidate was rejected: its reason, and the rule it breaks (R548). -/
def State.rejected (s : State) (im : Image) (b : Bool) (reason : Nat) : State :=
  let s := s.showReason b reason
  match s.imageFault im s.installed with | some x => s.showBroken x | none => s

/-- The last rows of R559: the default image, unless DEF_HALT forbids it or a candidate failed only its signature or SVN. -/
def State.lastResort (s : State) (tried : List Image) : List Start :=
  if s.fuses.sbEn && tried.any (s.onlyUnsigned · s.installed) then []
  else if s.on F.SY_STRAP_DEF_HALT 0 then []
  else [s.defaultStart true (s.rd F.MM_ANC_STAT_DDR_CH 0 != 0)]

/-- No candidate was accepted. -/
def State.lastRow (s : State) (tried : List Image) : State :=
  match s.lastResort tried with
  | d :: _ => s.launch d [d]
  | [] => s.noImage .recovery

/-- The candidate that a record names, with the reason why it fails, 0 for none (R559). -/
def State.candidate (s : State) (f : BootFlash) (r : CommitRecord) : Start × Nat :=
  let im := f.slot r.slot
  (⟨im, 0, r.slot, r.seq.toNat⟩, s.imageReason im s.installed (im.digest == r.digest))

/-- BOOT_SRC = FLASH: the newest record, then the other one, which must name the other slot (R559). -/
def State.selectFlash (s : State) (f : BootFlash) : State :=
  match newestRecord f.copy0 f.copy1 with
  | none => ((s.showReason false 1).showReason true 1).lastRow []
  | some (c, r) =>
    let (first, why) := s.candidate f r
    match (if c == 0 then f.copy1 else f.copy0).filter (·.slot != r.slot) with
    | none =>
      if why == 0 then s.launch first (s.lastResort [])
      else ((s.rejected first.image (r.slot == 1) why).showReason (r.slot == 0) 1).lastRow [first.image]
    | some o =>
      let (second, whyNot) := s.candidate f o
      if why == 0 then
        s.launch first (if whyNot == 0 then second :: s.lastResort [] else s.lastResort [second.image])
      else
        let s := s.rejected first.image (r.slot == 1) why
        if whyNot == 0 then
          ((s.wr F.SY_BOOT_STAT_FALLBACK 0 1).imgEvent 4).launch second (s.lastResort [first.image])
        else (s.rejected second.image (o.slot == 1) whyNot).lastRow [first.image, second.image]

/-- The device chooses its start by the table of R559. -/
def State.select (s : State) (f : BootFlash) : State :=
  if s.on F.SY_STRAP_TEST_EN 0 then s.noImage .test
  else
    match s.rd F.SY_STRAP_BOOT_SRC 0 with
    | 3 => s.noImage .recovery
    | 2 => let d := s.defaultStart true (s.rd F.MM_ANC_STAT_DDR_CH 0 != 0); s.launch d [d]
    | 1 => s.modBoot fun b => { b with hostWait := true }
    | _ => s.selectFlash f

/-- Frequencies that the default image recognises at REF_IN0, in 1/1,024 kHz (R563). -/
def refIn0Units (k : Fin 7) : Nat := [8, 1544, 2048, 10000, 19440, 25000, 156250].getD k.val 0 * 1024

/-- FUSE_LOAD_DONE: the start is chosen, unless XO_IN has failed its check (R366) or SRSTn is low. -/
def State.fuseLoadDone (s : State) (f : BootFlash) (d : Dimms) (refIn0 : Option (Fin 7)) : State :=
  if s.boot.porst || s.boot.loaded then s
  else
    let s := (s.loadFuses.readDimms d).modBoot fun b => { b with refIn0 := refIn0.map refIn0Units }
    let s := if s.on F.SY_STRAP_MATE_EN 0 then { s with mate := { s.mate with listenAt := some s.now } } else s
    if s.boot.xoBad || s.boot.srst then s else s.select f

/-- HOST_GO: the image in the scratchpad is checked; a rejected one continues from the row "SB_EN = 1 …" of R559 (R560). -/
def State.hostGo (s : State) (im : Image) : State :=
  if !s.boot.hostWait || s.devState != .boot then s.imgResult 2
  else
    let why := s.imageReason im s.installed true
    if why == 0 then s.launch ⟨im, 1, 0, 0⟩ (s.lastResort [])
    else (s.rejected im true why).lastRow [im]

/-! ### Training and traffic (R500, R501, R561, R562) -/

/-- Copies of registers that software or an image may have set since a table was taken return to it in their RW bits (R562). -/
def State.returnTo (s : State) (bare : Table Word) : State :=
  s.each ((s.regs ++ bare).map (·.1)) fun s k =>
    match regOfIdx k.1 with
    | some r =>
      let rw := BitVec.ofNat 32 r.info.rw
      s.setReg r k.2 ((s.reg r k.2 &&& ~~~ rw) ||| (regGet bare r k.2 &&& rw))
    | none => s

/-- An image allocates a region in a hold that has failed training. -/
def Image.inFailed (im : Image) (near deep : Bool) : Bool := im.anchorage.any fun r => if r.deep then deep else near

/-- START-UP restarts with the next candidate that allocates nothing in a failed hold, or ends in RECOVERY (R559, R562). -/
def State.restartUp (s : State) (near deep : Bool) : State :=
  let s := match s.boot.chosen with
    | some st => if st.src ≤ 1 then s.showReason (st.src == 1 || st.slot == 1) 9 else s
    | none => s
  let fit := s.boot.spare.map fun st => if st.src == 2 then s.defaultStart (!near) (!deep && s.rd F.MM_ANC_STAT_DDR_CH 0 != 0) else st
  let s := { s.returnTo s.boot.bare with committed := false }
  match fit.filter fun st => !st.image.inFailed near deep with
  | st :: rest =>
    let s := (s.modBoot fun b => { b with chosen := some st, spare := rest }).putStart st
    ((s.wr F.SY_BOOT_STAT_FALLBACK 0 1).imgEvent 4).setDevState .startUp
  | [] => ({ s with image := {} }.restartAll).noImage .recovery

/-- ANCHORAGE_TRAINING_DONE: HBM_OK and DDR_OK, or the events of a hold that failed. -/
def State.ancTrained (s : State) (hbm ddr : Bool) : State :=
  if s.devState != .startUp || s.boot.trained then s
  else
    let there := s.rd F.MM_ANC_STAT_DDR_CH 0 != 0
    let s := (s.wrBool F.MM_ANC_STAT_HBM_OK 0 hbm).wrBool F.MM_ANC_STAT_DDR_OK 0 (ddr && there)
    let s := (s.raiseIf (!hbm) F.MM_STICKY_HBM_FAIL 0).raiseIf (!ddr && there) F.MM_STICKY_DDR_FAIL 0
    let s := s.modBoot fun b => { b with trained := true }
    if s.image.inFailed (!hbm) (!ddr || !there) then s.restartUp (!hbm) (!ddr || !there) else s

/-- Every lane in use has left OFF, the image is in force and a worker has its TICK_NO (R470, R561). -/
def State.trafficCan (s : State) : Bool :=
  s.devState == .startUp && s.committed && s.boot.trained && !s.boot.tickWait &&
    s.image.lanes.all fun x => s.rd F.LN_CFG_RATE x.1 == 0 || s.image.mode == 0 || s.rd F.LN_STAT_STATE x.1 != 0

/-- TRAFFIC_READY: NORMAL. -/
def State.trafficReady (s : State) : State := if s.trafficCan then s.setDevState .normal else s

/-- The datapath is off, the image kept: as in SAFE. -/
def State.datapathOff (s : State) : State :=
  let im := { s.image with mode := 0 }
  let s := ({ s with image := im }.wr F.SY_MODE_MODE 0 0).setModeHolds im
  s.restartAll

/-- UNRECOVERABLE_IMAGE_FAULT in NORMAL (R6, R8). -/
def State.imageLost (s : State) : State := if s.devState == .normal then s.datapathOff.setDevState .recovery else s

/-! ### SRSTn (R517, R568, R570, R571) -/

/-- An apply is discarded, but for a commit that the hierarchy agent has armed for an open domain commit (R568). -/
def State.applySrst (s : State) : State :=
  if s.imgState == 0 || s.imgState == 6 || (s.imgState == 5 && s.imageJob.domain && s.domain.isSome) then s
  else s.dropApply.imgResult 8

/-- The hierarchy agent holds a swap or an image commit for an open domain commit (R117, R568). -/
def State.domainHolds (s : State) : Bool :=
  s.swap.holder == .domain || (s.imgState == 5 && s.imageJob.domain && s.domain.isSome)

/-- Swaps are cancelled, those with them whose command waits for the boundary, and the starts of cores (R117, R522). -/
def State.swapsEnd (s : State) : State :=
  let s := { s with atBoundary := s.atBoundary.filter fun k => match k with | .coreStart _ => false | _ => true }
  if s.domainHolds then s
  else
    { s with atBoundary := s.atBoundary.filter fun k => match k with
      | .gridPrepare | .gridArm _ _ | .gridCancel _ => false
      | _ => true }.swapSrst

/-- Registers that SRSTn resets (R538). -/
def State.srstRegs (s : State) : State :=
  (s.each ([.SY_REMAP, .SY_PC_CTRL, .SY_PC_SWI, .SY_MBX] : List Reg) fun s r => s.setReg r 0 (Reg.resetValue r 0)).clearCopies

/-- The SPI transfers in progress end (R267). -/
def State.spiStop (s : State) : State :=
  (s.each (List.range 8) fun s e => s.wr F.LE_SPI_CTRL_BUSY e 0).modBoot fun b => { b with spiCut := s.spiEnded }

/-- SRSTN_ASSERT: `midBurst` tells which masters are in the middle of a burst; masters 6 to 9 run on.  SRSTn is ignored while PORSTn is
low (R621). -/
def State.srstAssert (s : State) (midBurst : List (Fin 10)) : State :=
  if s.boot.porst || s.boot.srst then s
  else
    let s := s.swapsEnd.applySrst.marchStop.srstRegs.spiStop
    let s := { s with cores := [] }.wr F.SY_QSPI_CMD_BUSY 0 0
    let s := s.mastersReset (midBurst.any fun m => decide (m.val ≤ 5))
    (s.modBoot fun b => { b with srst := true, before := s.devState }).setDevState .boot

/-- Every applet slot returns to LOADED, and auto-start applies (R526). -/
def State.appletsAgain (s : State) : State := s.setApplets {} s.image true

/-- SRSTN_RELEASE: core 0 starts again, BOOT makes no image selection and ends in the state held before; after BOOT that followed PORSTn
the selection is made again (R571). -/
def State.srstRelease (s : State) (f : BootFlash) : State :=
  if !s.boot.srst then s
  else
    let s := ((s.modBoot fun b => { b with srst := false, again := true }).incWrap F.SY_RST_CAUSE_SRST_CNT 0 1).wr F.SY_RST_CAUSE_LAST 0 1
    let s := s.startCore0.appletsAgain
    if s.devState != .boot then s.endBoot s.devState
    else if s.boot.before != .boot then s.endBoot s.boot.before
    else if s.boot.loaded && !s.boot.xoBad then
      (s.modBoot fun b => { b with chosen := none, spare := [], hostWait := false }).setReg .SY_BOOT_STAT 0 0 |>.select f
    else s

/-! ### The commands -/

/-- Meaning of PORSTN_ASSERT: `fuse` and `repair` tell how a programming in progress is cut off. -/
def execPorstnAssert (fuse repair : FuseCut) (s : State) : Host.Outcome State Fault Refusal := .next (s.powerReset fuse repair)

/-- Meaning of PORSTN_RELEASE: `xo` is the frequency that XO_IN lies near, none where the check fails. -/
def execPorstnRelease (straps : Straps) (xo : Option (Fin 5)) (s : State) : Host.Outcome State Fault Refusal :=
  .next (if s.boot.porst && !s.boot.thermal then s.leaveReset straps xo 0 else s)

/-- Meaning of THERMAL_RESET_RELEASE. -/
def execThermalResetRelease (straps : Straps) (xo : Option (Fin 5)) (s : State) : Host.Outcome State Fault Refusal :=
  .next (if s.boot.porst && s.thermalCool then s.leaveReset straps xo 2 else s)

/-- Meaning of FUSE_LOAD_DONE. -/
def execFuseLoadDone (flash : BootFlash) (dimms : Dimms) (refIn0 : Option (Fin 7)) (s : State) : Host.Outcome State Fault Refusal :=
  .next (s.fuseLoadDone flash dimms refIn0)

/-- Meaning of HOST_GO: user mode may not (R525). -/
def execHostGo (m : Initiator) (v : Word) (image : Image) (s : State) : Host.Outcome State Fault Refusal :=
  .next (s.kept m 0x20000218 fun t => (t.keepImgCmd v).hostGo image)

/-- Meaning of ANCHORAGE_TRAINING_DONE. -/
def execAnchorageTrainingDone (hbm ddr : Bool) (s : State) : Host.Outcome State Fault Refusal := .next (s.ancTrained hbm ddr)

/-- Meaning of TRAFFIC_READY. -/
def execTrafficReady (s : State) : Host.Outcome State Fault Refusal := .next s.trafficReady

/-- Meaning of SRSTN_ASSERT. -/
def execSrstnAssert (midBurst : List (Fin 10)) (s : State) : Host.Outcome State Fault Refusal := .next (s.srstAssert midBurst)

/-- Meaning of SRSTN_RELEASE. -/
def execSrstnRelease (flash : BootFlash) (s : State) : Host.Outcome State Fault Refusal := .next (s.srstRelease flash)

/-- Meaning of UNRECOVERABLE_IMAGE_FAULT. -/
def execUnrecoverableImageFault (s : State) : Host.Outcome State Fault Refusal := .next s.imageLost

end Sys2Proof.Machine
end

