-- ==== Sys2Proof/Machine/Bus.lean ====
section
/-! DEFINITION. The bus as its masters reach it: the decode of R512, register accesses (R514), the PCIe endpoint (R527 to R529), the local
bus (R530, R531) and JTAG (R537, R554). -/

namespace Sys2Proof.Machine

/-! ### The matrix (R512 to R516) -/

/-- A register access is a single beat, aligned, with exactly the four strobes of its word (R514). -/
def registerShape (b : Burst) (a : Nat) (x : Beat) : Bool :=
  b.beats.length == 1 && a % 4 == 0 && x.strobes == (0xF#16 <<< (a % 16))

/-- A 32-bit word in its place in a beat. -/
def placeWord (a : Nat) (w : Word) : BitVec 128 := w.setWidth 128 <<< (8 * (a % 16 / 4 * 4))

/-- The 32-bit word of a beat at an address. -/
def wordIn (a : Nat) (v : BitVec 128) : Word := (v >>> (8 * (a % 16 / 4 * 4))).setWidth 32

/-- A write to the register blocks: SY_IMG_CMD with HOST_GO has its own meaning. -/
def State.regWrite (s : State) (m : Initiator) (a : Nat) (v : Word) (x : Aside) : State :=
  if a == 0x20000218 && F.SY_IMG_CMD_CMD.get v == 6 then s.via (execHostGo m v x.image) else s.registerWrite m a v x

/-- An answer as the end of a beat at an address. -/
def Answer.ends (a : Nat) : Answer → BeatEnd
  | .ok w => .ok (placeWord a w)
  | .error c => .error c
  | .busy => .busy
  | _ => .ok 0

/-- A beat's end with what the matrix records of it. -/
def State.record (m : Initiator) (b : Burst) (a : Nat) (r : BeatEnd × State) : BeatEnd × State := (r.1, r.2.beatEnds m b a r.1)

/-- A beat at the register blocks (R514). -/
def State.registerBeat (s : State) (m : Initiator) (b : Burst) (x : Aside) (a : Nat) (beat : Beat) : BeatEnd × State :=
  if !registerShape b a beat then State.record m b a (.error .size, s)
  else
    let t := if b.write then s.regWrite m a (wordIn a beat.data) x else s.registerRead m a
    let e := (t.answer m.copy).ends a
    (e, if b.fetch && e != .ok 0 && (match e with | .ok _ => false | _ => true) then t.accessFault m 1 a else t)

/-- A beat of a burst: by the target of the burst's first beat (R512), or through BAR2. -/
def State.oneBeat (s : State) (m : Initiator) (bar2 : Bool) (b : Burst) (x : Aside) (a : Nat) (beat : Beat) : BeatEnd × State :=
  if bar2 then State.record m b a (s.ancBeat b.write (s.rd F.MM_BAR2_PAGE 0 * 2 ^ 32 + a % 2 ^ 32) beat)
  else if 0x20000000 ≤ b.addr && b.addr < 0x30000000 then s.registerBeat m b x a beat
  else if 0x40000000 ≤ b.addr && b.addr < 0x80000000 then
    State.record m b a (if a < 0x80000000 then s.ancBeat b.write (s.apertureAddr m a) beat else (.error .span, s))
  else State.record m b a (s.memBeat b a beat)

/-- A beat was performed. -/
def BeatEnd.performed : BeatEnd → Bool
  | .ok _ => true
  | _ => false

/-- Beats one after the other; with `stop`, none after one that was not performed. -/
def State.runBeats (m : Initiator) (bar2 : Bool) (b : Burst) (x : Aside) (stop : Bool) : List (Nat × Beat) → State → List BeatEnd × State
  | [], s => ([], s)
  | (a, beat) :: rest, s =>
    let (e, s) := s.oneBeat m bar2 b x a beat
    if stop && !e.performed then ([e], s)
    else
      let (es, s) := State.runBeats m bar2 b x stop rest s
      (e :: es, s)

/-- The beats of a burst with their addresses. -/
def Burst.placed (b : Burst) : List (Nat × Beat) := (b.beats.take 16).zipIdx.map fun x => (beatAddr b.addr x.2, x.1)

/-- What the matrix does with a burst, whatever it reaches: the master is answered beat by beat. -/
def State.busAccess (s : State) (m : Initiator) (b : Burst) (x : Aside) : State :=
  let r := State.runBeats m false b x false b.placed s
  r.2.reply m (.beats r.1)

/-- BUS_TIMEOUT: the transaction ends with the error response, cause TIMEOUT (R516). -/
def State.busTimeout (s : State) (m : Initiator) (write : Bool) (addr : Nat) : State :=
  (s.busError m write addr .timeout).raise F.BM_STICKY_TIMEOUT 0

/-- A write to a register, as a 32-bit access of the matrix. -/
def State.registerAccess (s : State) (m : Initiator) (a : Nat) (v : Word) (x : Aside) : State :=
  if 0x20000000 ≤ a && a < 0x30000000 && a % 4 == 0 then s.regWrite m a v x
  else s.busAccess m ⟨true, a, [{ strobes := 0xF#16 <<< (a % 16), data := placeWord a v }], false⟩ x

/-! ### PCIe (R527 to R529, R611) -/

/-- The pin function word in force (R611). -/
def State.pinWord (s : State) : Word := if s.committed && s.devState != .recovery then s.image.pins else 0x5FF0

/-- The host, as master 0. -/
def host : Initiator := ⟨0, false⟩

/-- The endpoint is on. -/
def State.pcieOn (s : State) : Bool := !s.boot.porst && s.pinWord.getLsbD 14

/-- Beats grouped into bursts that do not cross 256-byte boundaries (R528). -/
def spans (addr : Nat) : List Beat → List (Nat × List Beat)
  | [] => []
  | b :: rest =>
    match spans (wordAddr addr + 16) rest with
    | (a, bs) :: more => if a / 256 == addr / 256 then (addr, b :: bs) :: more else (addr, [b]) :: (a, bs) :: more
    | [] => [(addr, [b])]

/-- The bursts of a posted write, until one beat is not performed (R528). -/
def State.postedWrite (bar2 : Bool) (x : Aside) : List (Nat × List Beat) → State → State
  | [], s => s
  | (a, bs) :: rest, s =>
    let b : Burst := ⟨true, a, bs, false⟩
    let (es, s) := State.runBeats host bar2 b x true b.placed s
    if es.all BeatEnd.performed then State.postedWrite bar2 x rest s else s

/-- The bursts of a read, with the ends of all beats. -/
def State.readBursts (bar2 : Bool) (x : Aside) : List (Nat × List Beat) → State → List BeatEnd × State
  | [], s => ([], s)
  | (a, bs) :: rest, s =>
    let b : Burst := ⟨false, a, bs, false⟩
    let (es, s) := State.runBeats host bar2 b x false b.placed s
    let (fs, s) := State.readBursts bar2 x rest s
    (es ++ fs, s)

/-- The window that a request hits: BAR0, or BAR2 with its offset. -/
def State.barHit (s : State) (address : Nat) : Option (Bool × Nat) :=
  if !s.pcie.memory || s.pcie.d3hot then none
  else if address < 2 ^ 32 && address / 2 ^ 30 == s.pcie.bar0.toNat / 2 ^ 30 then some (false, address % 2 ^ 30)
  else if address / 2 ^ 32 == s.pcie.bar3.toNat then some (true, address % 2 ^ 32)
  else none

/-- PCIE_REQUEST: a memory request is performed; a read is completed (R528). -/
def State.pcieRequest (s : State) (write : Bool) (address : Nat) (beats : List Beat) (x : Aside) : State :=
  if !s.pcieOn || !s.linkUp then s
  else
    match s.barHit address, write with
    | none, true => s
    | none, false => s.send (.completion .unsupported [])
    | some (bar2, a), true => State.postedWrite bar2 x (spans a beats) s
    | some (bar2, a), false =>
      let (es, s) := State.readBursts bar2 x (spans a beats) s
      s.send (if es.all BeatEnd.performed then .completion .success (es.map fun e => match e with | .ok d => d | _ => 0)
        else .completion .abort [])

/-- The MSI-X table and the configuration space return to their reset values (R529). -/
def State.clearEndpoint (s : State) : State :=
  let s := s.each ([.MSIX_ADDR_LO, .MSIX_ADDR_HI, .MSIX_DATA, .MSIX_CTRL] : List Reg) fun s r =>
    s.each (List.range 64) fun s i => s.setReg r i (r.resetValue i)
  { s with pcie := {}, busMaster := false }

/-- PCIE_RESET (R529, R609). -/
def State.pcieReset (s : State) (how : PcieReset) (midBurst : Bool) : State :=
  if s.boot.porst then s
  else
    let s := (s.mastersReset midBurst).clearEndpoint
    if how == .flr then s else { s with linkUp := false }

/-- PCIE_LINK_UP: what waited for the link goes on. -/
def State.pcieUp (s : State) : State := if s.pcieOn && !s.linkUp then { s with linkUp := true }.flushMsix else s

/-- A word with the bytes of some enables replaced. -/
def mergeWord (enables : BitVec 4) (old new : Word) : Word :=
  (mergeStrobes (enables.setWidth 16) (old.setWidth 128) (new.setWidth 128)).setWidth 32

/-- A doubleword of the configuration space: what R527 gives of it, the rest open. -/
def State.configRead (s : State) (dword : Nat) : Word × State :=
  let open' : Word := BitVec.ofNat 32 s.drawn
  match dword with
  | 0 => (BitVec.ofNat 32 (deviceId s.fuses.variant * 2 ^ 16 + 0x1F6E), s)
  | 1 => ((open' &&& 0xFFFFFFF9) ||| BitVec.ofNat 32 (s.pcie.memory.toNat * 2 + s.busMaster.toNat * 4), s.draw)
  | 2 => ((open' &&& 0xFF) ||| 0x02800000, s.draw)
  | 4 => (s.pcie.bar0, s)
  | 6 => (s.pcie.bar2 ||| 0xC, s)
  | 7 => (s.pcie.bar3, s)
  | _ => (open', s.draw)

/-- A write of the configuration space: Memory Space Enable, Bus Master Enable and the BARs; the rest has no effect that the
specification states. -/
def State.configWrite (s : State) (dword : Nat) (enables : BitVec 4) (v : Word) : State :=
  match dword with
  | 1 =>
    if enables.getLsbD 0 then { s with pcie := { s.pcie with memory := v.getLsbD 1 }, busMaster := v.getLsbD 2 }.flushMsix else s
  | 4 => { s with pcie := { s.pcie with bar0 := mergeWord enables s.pcie.bar0 v &&& 0xC0000000 } }
  | 7 => { s with pcie := { s.pcie with bar3 := mergeWord enables s.pcie.bar3 v } }
  | _ => s

/-- PCIE_CONFIGURATION_REQUEST. -/
def State.pcieConfig (s : State) (r : ConfigRequest) : State :=
  if !s.pcieOn || !s.linkUp then s
  else
    match r with
    | .read d =>
      let (w, s) := s.configRead d.val
      s.send (.completion .success [w.setWidth 128])
    | .write d en v => (s.configWrite d.val en v).send (.completion .success [])
    | .msixControl en mask =>
      ({ s with pcie := { s.pcie with msixEnable := en, msixMask := mask } }.flushMsix).send (.completion .success [])
    | .powerState d3 => ({ s with pcie := { s.pcie with d3hot := d3 } }.flushMsix).send (.completion .success [])
    | .unsupported => s.send (.completion .unsupported [])

/-! ### Local bus (R530, R531) -/

/-- The local-bus host, as master 1. -/
def localHost : Initiator := ⟨1, false⟩

/-- The local bus is on. -/
def State.localOn (s : State) : Bool := !s.boot.porst && s.pinWord.getLsbD 12

/-- The bus address of a word address. -/
def State.localAddr (s : State) (a : Nat) : Nat := 2 ^ 26 * s.lbPage + 4 * a

/-- LB_PAGE takes a value. -/
def State.localPage (s : State) (v : Word) : State :=
  if s.localOn then { s with lbPage := v.toNat % 64 }.send (.localBus false false 0) else s

/-- The word address that reaches LB_PAGE itself (R530). -/
def pageWord : Nat := 0xFFFFFF

/-- How the local bus ends an access: the word, LB_BUSYn or LB_ERRn (R530). -/
def State.localAnswer (s : State) (write : Bool) (addr : Nat) (es : List BeatEnd) : State :=
  match es.head? with
  | some (.ok d) => s.send (.localBus false false (if write then 0 else wordIn addr d))
  | some .busy => s.send (.localBus true false 0)
  | _ => s.send (.localBus false true 0)

/-- LOCAL_BUS_ACCESS. -/
def State.localAccess (s : State) (write : Bool) (a : Nat) (enables : BitVec 4) (beat : Beat) (v : Word) (x : Aside) : State :=
  if !s.localOn then s
  else if a == pageWord then
    if write then (if enables.getLsbD 0 then s.localPage v else s.send (.localBus false false 0))
    else s.send (.localBus false false (BitVec.ofNat 32 s.lbPage))
  else
    let addr := s.localAddr a
    let b : Burst := ⟨write, addr, [{ beat with strobes := enables.setWidth 16 <<< (addr % 16), data := placeWord addr v }], false⟩
    let r := State.runBeats localHost false b x false b.placed s
    (r.2.reply localHost (.beats r.1)).localAnswer write addr r.1

/-- LOCAL_BUS_TIMEOUT: no answer by cycle 8,192. -/
def State.localTimeout (s : State) (write : Bool) (a : Nat) : State :=
  if s.localOn then (s.busTimeout localHost write (s.localAddr a)).send (.localBus false true 0) else s

/-! ### JTAG (R537, R554) -/

/-- IDCODE. -/
def State.idcode (s : State) : Word :=
  BitVec.ofNat 32 (s.fuseCells.rev % 16 * 2 ^ 28 + deviceId s.fuseCells.variant * 2 ^ 12 + 0x3B7 * 2 + 1)

/-- The debug module is open (R554). -/
def State.debugOpen (s : State) : Bool :=
  !s.boot.porst && s.boot.loaded && !s.fuses.dbgSeal && (!s.fuses.dbgLock || s.on F.SEC_DBG_CTRL_UNLOCKED 0)

/-- JTAG_ACCESS. -/
def State.jtag (s : State) (op : JtagOp) (x : Aside) : State :=
  match op with
  | .idcode => s.send (.jtag s.idcode)
  | .boundaryScan => if s.devState == .test && !s.boot.porst then { s with scanning := true } else s
  | .halt c => if s.debugOpen then s.setCore c.val { s.core c.val with halted := true } else s
  | .resume c => if s.debugOpen then s.setCore c.val { s.core c.val with halted := false } else s
  | .bus c b => if s.debugOpen then s.busAccess ⟨⟨2 + c.val, by omega⟩, false⟩ b x else s

/-! ### The commands -/

/-- Meaning of DEFAULT_TARGET_ACCESS. -/
def execDefaultTargetAccess (m : Initiator) (b : Burst) (s : State) : Host.Outcome State Fault Refusal := .next (s.busAccess m b {})

/-- Meaning of BUS_TIMEOUT. -/
def execBusTimeout (m : Initiator) (write : Bool) (addr : Word) (s : State) : Host.Outcome State Fault Refusal :=
  .next (s.busTimeout m write addr.toNat)

/-- Meaning of PCIE_REQUEST: the beats of a memory request. -/
def execPcieRequest (write : Bool) (address : BitVec 64) (beats : List Beat) (x : Aside) (s : State) : Host.Outcome State Fault Refusal :=
  .next (s.pcieRequest write address.toNat beats x)

/-- Meaning of PCIE_RESET. -/
def execPcieReset (how : PcieReset) (midBurst : Bool) (s : State) : Host.Outcome State Fault Refusal := .next (s.pcieReset how midBurst)

/-- Meaning of PCIE_LINK_UP. -/
def execPcieLinkUp (s : State) : Host.Outcome State Fault Refusal := .next s.pcieUp

/-- Meaning of PCIE_CONFIGURATION_REQUEST. -/
def execPcieConfigurationRequest (r : ConfigRequest) (s : State) : Host.Outcome State Fault Refusal := .next (s.pcieConfig r)

/-- Meaning of LOCAL_BUS_ACCESS. -/
def execLocalBusAccess (write : Bool) (a : BitVec 24) (enables : BitVec 4) (data : Word) (ecc : Ecc) (portB : Option PortB) (x : Aside)
    (s : State) : Host.Outcome State Fault Refusal :=
  .next (s.localAccess write a.toNat enables { ecc := ecc, portB := portB } data x)

/-- Meaning of LB_PAGE_WRITE. -/
def execLbPageWrite (v : Word) (s : State) : Host.Outcome State Fault Refusal := .next (s.localPage v)

/-- Meaning of LOCAL_BUS_TIMEOUT. -/
def execLocalBusTimeout (write : Bool) (a : BitVec 24) (s : State) : Host.Outcome State Fault Refusal :=
  .next (s.localTimeout write a.toNat)

/-- Meaning of JTAG_ACCESS. -/
def execJtagAccess (op : JtagOp) (x : Aside) (s : State) : Host.Outcome State Fault Refusal := .next (s.jtag op x)

/-- Meaning of REGISTER_WRITE. -/
def execRegisterWrite (m : Initiator) (addr v : Word) (x : Aside) (s : State) : Host.Outcome State Fault Refusal :=
  .next (s.registerAccess m addr.toNat v x)

end Sys2Proof.Machine
end

