-- ==== Sys2Proof/Machine/MateBoot.lean ====
section
/-! DEFINITION. What a device hears from its mate: frames of the mate link, beats, the decision of BOOT, and the journal (R420 to R433,
R439, R446, R449). -/

namespace Sys2Proof.Machine

/-! ### The journal (R430 to R432, R439) -/

/-- An entry takes effect; a follower's JSEQ is that of the last entry applied (R422). -/
def State.applyEntry (s : State) (e : JEntry) : State :=
  let s := s.applyWrite e.write
  if s.standby then (s.wr F.MT_JSEQ_JSEQ 0 e.seq).count ⟨.mt, 5, 0⟩ 1 else s

/-- A follower in REPLAY holds its entries until the capture has come (R439). -/
def State.journalHeld (s : State) : Bool := s.standby && s.rd F.MT_STAT_PHASE 0 == 1 && !s.mate.captured

/-- The entries that follow one another without a gap from sequence number `n` on. -/
def unbroken : Nat → List JEntry → List JEntry
  | _, [] => []
  | n, e :: t => if e.seq == n % 2 ^ 32 then e :: unbroken (n + 1) t else []

/-- The entries whose APPLY boundary the present tick ends, or has passed, are applied in order (R430, R432).  A follower applies them in
JSEQ order: one whose predecessor has not arrived shows that the predecessor's boundary has passed. -/
def State.applyJournal (s : State) : State :=
  if s.journalHeld then s
  else
    let due := s.journal.filter fun e => decide (e.due ≤ s.now + 1)
    let rest := s.journal.filter fun e => !decide (e.due ≤ s.now + 1)
    let ready := if s.standby then unbroken (s.rd F.MT_JSEQ_JSEQ 0 + 1) due else due
    let t := { s with journal := due.drop ready.length ++ rest }.each ready State.applyEntry
    if ready.length < due.length then t.journalLate else t

/-- An entry arrives intact; a copy of one already received is passed over.  One whose APPLY boundary has passed is applied at once, and
reported (R420, R432). -/
def State.takeEntry (s : State) (e : JEntry) : State :=
  if !seqAfter e.seq s.mate.received then s
  else
    let s := s.modMate fun x => { x with received := e.seq }
    let lead := signed 48 (e.apply - s.tick).toNat
    let e := { e with due := s.now + lead.toNat }
    if decide (lead ≤ 0) && !s.journalHeld then (s.applyEntry e).journalLate else { s with journal := s.journal ++ [e] }

/-- A context's keys, state and pending change, as the capture carries them: loaded as LOAD and CHANGE would (R302, R439). -/
def State.takeKeys (s : State) (k : KeyState) : State :=
  let s := ((s.setKey k.ctx 0 k.key0).setKey k.ctx 1 k.key1).wr F.SEC_CTX_STAT_STATE k.ctx k.state
  s.setChange k.ctx k.change

/-- The capture of boundary C (R439): the active's image, its journaled registers and its keys; entries up to C are in it. -/
def State.takeCapture (s : State) (c : MateCapture) : State :=
  let s := match c.image with
    | some im => if im == s.image then s else (s.loadBank s.liveBank im).enforce im false
    | none => s
  let s := s.each c.regs fun s x => s.setReg x.1 x.2.1 x.2.2
  let s := (s.each c.keys State.takeKeys).wr F.MT_JSEQ_JSEQ 0 c.jseq
  { s with journal := s.journal.filter fun e => seqAfter e.seq c.jseq }.modMate fun x => { x with captured := true }

/-- REPLAY ends once the capture is applied and no entry is overdue (R439). -/
def State.replayEnds (s : State) : State :=
  if s.standby && s.rd F.MT_STAT_PHASE 0 == 1 && s.mate.captured && s.journal.all fun e => decide (s.now < e.due) then s.enterPhase 2
  else s

/-- JOURNAL_APPLY on a follower. -/
def State.journalApply (s : State) (c : Option MateCapture) : State :=
  if !s.standby then s
  else
    let s := match c with
      | some x => if s.journalHeld then s.takeCapture x else s
      | none => s
    s.applyJournal.replayEnds

/-! ### Frames of the mate link (R419, R420, R428, R433) -/

/-- A valid marker: the link's run, the mate's TICK_NO, and TICK_MISMATCH on a follower whose count differs from the active's
(R29, R428). -/
def State.takeMarker (s : State) (t : Tick) : State :=
  let s := s.modMate fun x => { x with marked := true, marker := some (t, s.now) }
  if s.mate.markWait then s.takeMateTick
  else if s.standby && !s.mateBoot && s.rd F.MT_STAT_MSTATE 0 == 1 && s.boot.tickAt.isNone && t != s.tick then
    (s.raise F.TM_STICKY_TICK_MISMATCH 0).joinAgain
  else s

/-- MATE_FRAME_RECEIVE. -/
def State.mateFrame (s : State) (f : MateFrame) : State :=
  if !s.mateEnabled then s
  else
    let s := match f.marker with
      | some t =>
        let s := s.takeMarker t
        if f.sumsIntact then s.modMate fun x => { x with sums := x.sums ++ [t - 1] } else s
      | none => s
    if !s.standby then s
    else
      let keep (d : Nat × Nat) : Decision := ⟨s.now + 2, d.1, d.2⟩
      let s := s.modMate fun x => { x with stores := x.stores ++ f.stores.map keep, cns := x.cns ++ f.cns.map keep }
      s.each f.entries State.takeEntry

/-! ### Beats (R423, R426, R427, R432, R446, R449) -/

/-- What is heard in the window of R426. -/
def State.hear (s : State) (b : MateBeat) : State :=
  s.modMate fun x => { x with heard :=
    { active := x.heard.active || b.state == 1, notReady := x.heard.notReady || b.state == 5,
      boot := if b.state == 6 then some b.serial else x.heard.boot } }

/-- A device that has decided JOINING leaves BOOT on a good beat of an ACTIVE mate (R426). -/
def State.joinBoot (s : State) : State :=
  match s.boot.chosen with
  | some st => ((s.startUp st).modBoot fun b => { b with tickAt := none, tickWait := false }).startJoining
  | none => s

/-- Which of two ACTIVE devices yields (R446): with ARB = 1 the one whose grant alone is low, else the one with the higher SERIAL. -/
def State.yields (s : State) (b : MateBeat) : Bool :=
  if s.on F.MT_CFG_ARB 0 && s.mate.grant != b.grant then !s.mate.grant else decide (b.serial < s.fuses.serial)

/-- The longest T_DARK of the engines that are to be lit, in µs. -/
def State.darkTime (s : State) : Nat :=
  ((List.range 8).filter fun e => s.engineExists e && s.cfgOn F.LE_CTRL_TX_EN e).foldl
    (fun t e => max t (rampTime (s.cfg F.LE_RAMP_T_DARK e))) 0

/-- RELEASE in a beat stamping X: a mate in step takes over at the first boundary at least T_DARK after X (R449). -/
def State.released (s : State) (back : Nat) : State :=
  if s.standby && s.on F.MT_STAT_IN_STEP 0 && s.mate.takeAt.isNone then
    s.modMate fun x => { x with takeAt := some (s.now - back + (10 * s.darkTime + 31) / 32), quiet := false }
  else s

/-- What a good beat does beyond BOOT; `back` boundaries have passed since the one it stamps. -/
def State.actOnBeat (s : State) (b : MateBeat) (back : Nat) : State :=
  let s := if b.state == 1 && s.standby then
      s.modMate fun x => { x with claims := x.claims ++ [(b.jseq, s.now - back + s.rd F.MT_CFG_JLEAD 0)] }
    else s
  let s := if b.release then s.released back else s
  if b.state == 1 && s.mateState == 1 then
    let s := s.raise F.MT_STICKY_DUAL_ACTIVE 0
    if s.yields b then s.joinAgain else s
  else if b.state == 1 && s.mateState == 5 then s.joinAgain
  else s.isolatedReturn

/-- BEAT_RECEIVE on a path. -/
def State.beatReceive (s : State) (p : MatePath) (b : MateBeat) (intact : Bool) : State :=
  if !s.mateEnabled || (s.mateState == 0 && !s.mateBoot) then s
  else
    let x := s.mate.sight p
    if !s.beatGood b intact then s.modMate fun m => m.setSight p { x with intact := if intact then x.intact + 1 else 0 }
    else
      let s := s.modMate fun m => (m.setSight p { heard := some b.tick, intact := x.intact + 1 })
      let s := s.modMate fun m => { m with farLink := b.linkUp, farBol := b.bolUp }
      let s := ((s.wr F.MT_STAT_MSTATE 0 b.state).wrBool F.MT_STAT_M_IN_STEP 0 b.inStep).showMate
      if s.mateBoot then
        if !s.mate.decided then s.hear b
        else if s.mateState == 3 && b.state == 1 then s.joinBoot
        else s
      else s.actOnBeat b (ahead s.tick b.tick)

/-! ### The decision of BOOT (R426) -/

/-- Ticks of the 20 ms listen. -/
def listenTicks : Nat := 6250

/-- The mate state that the table of R426 decides, under a candidate's MT_CFG. -/
def State.mateDecision (s : State) (cfg : Word) : Nat :=
  let h := s.mate.heard
  if h.active then 3
  else if h.notReady then 1
  else
    match h.boot with
    | some serial => if s.fuses.serial < serial then 1 else 3
    | none =>
      if F.MT_CFG_ARB.get cfg == 1 then (if s.mate.grant then 1 else 5)
      else if s.presAlive then 4 else 1

/-- TICK_NO of a device that starts up ISOLATED or NOT_READY: R27 gives none. -/
def State.openTick (s : State) : State :=
  if s.boot.tickWait then s else (s.modBoot fun b => { b with tickAt := some (BitVec.ofNat 48 s.drawn) }).draw

/-- MATE_BOOT_DECISION: once a start is chosen and the listen is over.  JOINING waits in BOOT for a beat. -/
def State.mateDecide (s : State) : State :=
  match s.boot.chosen, s.mate.listenAt with
  | some st, some t =>
    if !s.mateBoot || s.mate.decided || !s.elapsed t listenTicks then s
    else
      let n := s.mateDecision ((st.image.mate.map (·.1)).getD (Reg.resetValue .MT_CFG 0))
      let s := (s.modMate fun x => { x with decided := true }).setMateState n
      match n with
      | 3 => s
      | 1 => s.startUp st
      | _ => (s.raiseIf (n == 5) F.MT_STICKY_NOT_READY 0).startUp st |>.openTick
  | _, _ => s

/-! ### The commands -/

/-- Meaning of MATE_FRAME_RECEIVE. -/
def execMateFrameReceive (f : MateFrame) (s : State) : Host.Outcome State Fault Refusal := .next (s.mateFrame f)

/-- Meaning of BEAT_RECEIVE. -/
def execBeatReceive (path : MatePath) (beat : MateBeat) (intact : Bool) (s : State) : Host.Outcome State Fault Refusal :=
  .next (s.beatReceive path beat intact)

/-- Meaning of MATE_BOOT_DECISION. -/
def execMateBootDecision (s : State) : Host.Outcome State Fault Refusal := .next s.mateDecide

/-- Meaning of JOURNAL_APPLY: `capture` is the active's capture where it has come. -/
def execJournalApply (capture : Option MateCapture) (s : State) : Host.Outcome State Fault Refusal := .next (s.journalApply capture)

end Sys2Proof.Machine
end

