-- ==== Sys2Proof/Machine/Tick.lean ====
section
/-! DEFINITION. TICK_BOUNDARY (R22): what the tick that ends has shown, the fabric, TICK_NO, the work keyed to the boundary, and the
per-tick work of every unit. -/

namespace Sys2Proof.Machine

/-! ### Berths that enter the grid (R57, R64 to R66, R69, R350) -/

/-- The train of the committed image whose crates enter at a port, and the crate's place in it. -/
def State.trainAt (s : State) (p : Nat) : Option (TrainRec × Nat) :=
  (s.image.trains.find? fun r => decide (r.first ≤ p) && decide (p < r.first + r.k)).map fun r => (r, p - r.first)

/-- The AIS crate that a store sends in place of a berth's crate (R57). -/
def State.portAis (s : State) (p ptr : Nat) : Berth :=
  match s.trainAt p with
  | some (r, i) => aisCrate s.tick ptr i r.expTid r.k
  | none => aisCrate s.tick ptr 0 0 0

/-- A crate as its quay or interop engine creates it once the train has started: SEQ, CI, TID, K, FC, RDI and CSF are the mapper's; the payload is the client's (R53, R56, R69, R72,
R83, R154). -/
def State.quayCrate (s : State) (p : Nat) (b : Berth) : Berth :=
  match s.trainAt p with
  | some (r, i) =>
    if !(s.train r.id).running then idleBerth else
    { bsl := 1, rdi := s.rdiOut r.id, seq := s.tick.toNat % 2 ^ 20, ci := i, tid := r.id, k := r.k, csf := s.csfOut r.id,
      fc := fillCount (s.train r.id).cn r.k i, payload := b.payload }
  | none => idleBerth

/-- Crates at the port are created here: by a quay, or by an interop engine from its ODUs (R47, R227). -/
def State.createsAt (s : State) (p : Nat) : Bool :=
  decide (p < 10240) || (decide (p < 20480) && s.interop ((p - 10240) / 1280))

/-- What a store reads out in a tick (R64 to R66, R219): the crate under the generator's pointer, or an AIS crate. -/
def State.storeCrate (s : State) (p : Nat) (b : Berth) : Berth :=
  let x := s.store p
  if x.st != PtrState.norm || x.aisCrate || s.portFailed p then { s.portAis p x.start with ndf := x.sendsNdf }
  else if x.unequipped then { idleBerth with ptr := x.start, ndf := x.sendsNdf }
  else { b with ptr := x.start, ndf := x.sendsNdf }

/-- The port belongs to the secondary engine of a line pair: its ingress carries idle content (R350). -/
def State.secondaryPort (s : State) (p : Nat) : Bool :=
  decide (10240 ≤ p) && decide (p < 20480) && s.secondary ((p - 10240) / 1280)

/-- The stores of the ports in use read out their crates of the tick. -/
def State.presentStores (s : State) : State :=
  s.each (s.stores.filter fun x => x.2.inUse) fun s x =>
    let p := x.1.1
    let s := s.missedBerth p
    s.setIngressBerth p (if s.secondaryPort p then idleBerth else s.storeCrate p (s.ingressBerth p))

/-! ### What the tick has shown -/

/-- An observation at an engine that exists. -/
def State.seenAt (s : State) (e : Nat) (f : State → State) : State := if s.engineExists e then f s else s

/-- One observation of the tick that ends. -/
def State.observe (s : State) : TickObs → State
  | .crate p b => s.setIngressBerth p.val (if s.createsAt p.val then s.quayCrate p.val b else b)
  | .crateError t bip fc crates => (s.crateErrors t.val bip fc).addTally 42 t.val crates
  | .fills t fcs => s.crateFills t.val fcs
  | .clientRate t cHat extra => s.clientRate t.val cHat extra
  | .ctlCorr => s.ctlCorrected
  | .ctlUncorr stage port => s.ctlUncorrectable stage.val port.val
  | .manUncorr p train => s.manifestUncorrectable p.val train.val
  | .shadowUncorr p => s.shadowUncorrectable p.val
  | .laneBits l compared errors => s.patCount l.val compared errors
  | .clientNibbles _ _ _ => s
  | .egress q c change latency => s.egressBuffer q.val c.val change latency
  | .clientErrors q c cv cv2 corr unc =>
    let n := clientNo q.val c.val
    let bad := if isEthernet (s.clientType q.val c.val) then cv + unc else cv
    ((s.clientErrors q.val c.val cv cv2 corr unc).addTally 40 n bad).addTally 41 n cv2
  | .clientSees q c rf lf sm => s.clientSees q.val c.val rf lf sm
  | .clientTrace q c ws => s.modClient q.val c.val fun x => { x with trace := ws }
  | .fas u differ found => s.atUnit u.val fun s => s.fasFrame u.val differ found
  | .otuc e frames violated bei bdi => s.seenAt e.val fun s => s.otucFrames e.val frames violated bei bdi
  | .oduAlarm t bad => s.setTrain t.val { s.train t.val with oduBad := bad }
  | .coherent e cd fofs => s.seenAt e.val fun s => s.cohPublish e.val cd fofs
  | .mimoTap e tap v =>
    if s.engineExists e.val && s.rxState e.val == 5 && !s.cohFrozen e.val then s.setReg .LE_MIMO_DATA (1024 * e.val + tap.val) v else s
  | .tideFloor e sc floor => if s.inHub e.val then s.tideFloor e.val sc.val floor.val else s
  | .instanceKey g b key valid defect jump bad => s.instanceTick g.val b (key.map (·.val)) valid defect jump bad
  | .invar bound rate => s.invarTick bound rate
  | .phase d fofs =>
    if d then s.wr F.TM_OD_STAT_FOFS 0 (unsigned 16 fofs) else s.wr F.TM_GD_STAT_FOFS 0 (unsigned 16 fofs)
  | .quantity e q v =>
    s.seenAt e.val fun s => if q.val == 4 then (s.takeQuantity e.val 4 v).sopRate e.val v.toNat else s.takeQuantity e.val q.val v
  | .imageSent => s.modMate fun x => { x with imageSent := true }
  | .coreCount code index n => if 1 ≤ code && code ≤ 7 then s.addTally code index n else s
  | .temperature tj die => s.sense tj die.val
  | .vfuse ok => s.wrBool F.MM_REP_STAT_VFUSE_OK 0 ok

/-- Nibbles that a client's lanes have delivered in the tick (R153). -/
def nibblesSeen (obs : List TickObs) (q c : Nat) : Nat :=
  obs.foldl (fun acc o => match o with | .clientNibbles q' c' w => if q'.val == q && c'.val == c then acc + w else acc | _ => acc) 0

/-- The groups of trains that the committed image defines, and its line pairs. -/
def State.groups (s : State) : List Nat := s.image.merge.map (·.group)

/-- Engines of the device. -/
def State.allEngines (s : State) : List Nat := (List.range 8).filter s.engineExists

/-- Receive units that exist. -/
def State.allUnits (s : State) : List Nat := s.allEngines.flatMap s.unitsOf

/-! ### The end of a tick -/

/-- Reports and counts of the tick that ends (R407, R580, R585, R595). -/
def State.closeTick (s : State) : State :=
  ((s.each s.allEngines State.capEvents).tickPm.tickCounters).queueReports

/-- The berths that have entered, the fabric, and what encryption lets leave (R91, R295, R331, R353). -/
def State.moveBerths (s : State) : State :=
  let s := ((s.each s.groups State.missedFrame).each s.allEngines State.playouts).presentStores
  let s := (s.each s.groups State.presentTrain).moveFabric
  s.each s.allEngines fun s e => s.hideClear (s.boot.tickAt.getD (s.tick + 1)) e

/-! ### The boundary -/

/-- TICK_NO increments, or takes the value it is set to (R26, R27); every duration is measured in boundaries. -/
def State.countTick (s : State) : State :=
  { s with tick := s.boot.tickAt.getD (s.tick + 1), now := s.now + 1, boot := { s.boot with tickAt := none } }

/-- One action keyed to this boundary (R22). -/
def State.keyed (s : State) : Keyed → State
  | .gridPrepare => s.gridPrepare
  | .gridArm n w => s.gridArm n w
  | .gridCancel w => s.gridCancel w
  | .swapDone n => s.swapDone n
  | .laneData l => s.laneDataAt l
  | .laneTrain l => s.laneTrainAt l
  | .loopOn l mode => s.loopOnAt l mode
  | .loopOff l => s.loopOffAt l
  | .loopLost l => s.loopLostAt l
  | .patClear l => s.patClearAt l
  | .inject l bits => s.injectAt l bits
  | .acqRestart e => s.acqRestart e
  | .clrLatch e => s.clearLatches e
  | .mgRealign g => s.realign g
  | .mgSelect g => s.mgSelect g
  | .mgUse g b => s.mgUse g b
  | .swOfs v => s.swMeasure v
  | .capDisarm e => s.cutCapture e false
  | .rmapIdle m lanes => s.modMoor m fun x => { x with txIdle := lanes }
  | .coreStart c => s.coreStarts c
  | .tolStart e => s.startTol e
  | .blockReset r => s.blockReset r

/-- Injections of the tick that ends are done (R143), and what waits for the boundary takes place, oldest first; a check put off by R106
starts. -/
def State.keyedWork (s : State) : State :=
  let s := s.each (s.lanes.map (·.1.1)) fun s l => s.modLane l nextInjection
  let s := ({ s with atBoundary := [] }).each s.atBoundary State.keyed
  match s.swap.checkAt with
  | some t => if t ≤ s.now then s.swapCheck else s
  | none => s

/-- The datapath acts on the registers as they stand now (R519), before keyed work and once more after it (R23); masks that a write has cleared uncover their leaf bits (R575). -/
def State.takeRegisters (s : State) : State := { s with act := s.regs }.reportUncovered s

/-! ### Per-tick work -/

/-- Time and frequency at a boundary (R368, R369, R375, R377). -/
def State.tickClocks (s : State) : State :=
  (((((s.tickTime.each [4, 5, 6, 7, 8] State.fillFreq).each (List.range 9) State.refreshQl).dpllSelect false).dpllSelect true)).tickOutPulse

/-- Berths, trains and clients at a boundary (R65, R74, R81, R155). -/
def State.tickBerths (s : State) (w : Nat → Nat → Nat) : State :=
  let s := s.each ((s.stores.filter fun x => x.2.inUse).map (·.1.1)) State.tickStore
  let s := s.each (s.image.trains.map (·.id)) State.tickTrain
  s.tickClients w

/-- Line engines, their frames and channels, the links and the pool at a boundary. -/
def State.tickLines (s : State) : State :=
  let s := (s.each s.allUnits State.backward).each s.allUnits State.tickFrame
  let s := s.each s.allEngines fun s e => (s.gccSend e 0).gccSend e 1
  let s := (s.each s.allEngines State.tickEngine).each (List.range 4) State.tickLink
  (s.tickPool.each s.allEngines State.tickTide).each s.allEngines State.tickMeasure

/-- The datapath at a boundary; `w` gives the nibbles that each client's lanes delivered. -/
def State.tickDatapath (s : State) (w : Nat → Nat → Nat) : State :=
  let s := s.each (s.image.lanes.map (·.1)) State.publishLane
  (((s.tickBerths w).tickLines).each s.groups State.tickMerge).tickHierarchy

/-- The control plane at a boundary: mate agent, thermal guard, core timers, UART, and the reset of a thermal shutdown. -/
def State.tickControl (s : State) : State :=
  ((s.tickMate.tickThermal.each (List.range 4) State.compareTimer).tickUart).thermalReset

/-- A temperature reading, the one observation that reaches a device in reset (R628). -/
def State.observeReset (s : State) : TickObs → State
  | .temperature tj die => s.sense tj die.val
  | _ => s

/-- TICK_BOUNDARY.  In PORSTn time alone passes.  A boundary-scan instruction has stopped the datapath (R537). -/
def State.boundary (s : State) (obs : List TickObs) : State :=
  if s.boot.porst then
    let s := s.each obs State.observeReset
    { s with now := s.now + 1 }
  else
    let s := ((s.each obs State.observe).each s.groups State.instantRequests).closeTick
    let s := if s.scanning then s else s.moveBerths
    let s := (s.mateFrameOut.applyJournal.countTick.takeRegisters.keyedWork.takeRegisters.tickFreeze).tickClocks
    let s := if s.scanning then s else s.tickDatapath (nibblesSeen obs)
    s.tickControl

/-- Meaning of TICK_BOUNDARY. -/
def execTickBoundary (obs : List TickObs) (s : State) : Host.Outcome State Fault Refusal := .next (s.boundary obs)

end Sys2Proof.Machine
end

