-- ==== Sys2Proof/Machine/Dispatch.lean ====
section
/-! DEFINITION. One arm per command: the meaning it calls. -/

namespace Sys2Proof.Machine

/-- The effect of a command on everything but the queue of waiting commands. -/
def exec (i : Instr) (s : State) : Host.Outcome State Fault Refusal :=
  match i with
  | .porstnAssert fuse repair => Sys2Proof.Machine.execPorstnAssert fuse repair s
  | .porstnRelease straps xo => Sys2Proof.Machine.execPorstnRelease straps xo s
  | .fuseLoadDone flash dimms refIn0 => Sys2Proof.Machine.execFuseLoadDone flash dimms refIn0 s
  | .hostGo m v image => Sys2Proof.Machine.execHostGo m v image s
  | .anchorageTrainingDone hbm ddr => Sys2Proof.Machine.execAnchorageTrainingDone hbm ddr s
  | .trafficReady => Sys2Proof.Machine.execTrafficReady s
  | .srstnAssert midBurst => Sys2Proof.Machine.execSrstnAssert midBurst s
  | .srstnRelease flash => Sys2Proof.Machine.execSrstnRelease flash s
  | .tickBoundary obs => Sys2Proof.Machine.execTickBoundary obs s
  | .fillLimitEnd t => Sys2Proof.Machine.execFillLimitEnd t s
  | .d2dTransfer d how => Sys2Proof.Machine.execD2dTransfer d how s
  | .d2dDown d => Sys2Proof.Machine.execD2dDown d s
  | .d2dRetrain d => Sys2Proof.Machine.execD2dRetrain d s
  | .d2dRestore d => Sys2Proof.Machine.execD2dRestore d s
  | .loopFreezeWrite m v => Sys2Proof.Machine.execLoopFreezeWrite m v s
  | .avsUpdate rail r => Sys2Proof.Machine.execAvsUpdate rail r s
  | .poolFreqDecision r => Sys2Proof.Machine.execPoolFreqDecision r s
  | .laneAdapt l eq => Sys2Proof.Machine.execLaneAdapt l eq s
  | .laneEqReset l ticks => Sys2Proof.Machine.execLaneEqReset l ticks s
  | .berthPointerWord p word label bbip drift centre => Sys2Proof.Machine.execBerthPointerWord p word label bbip drift centre s
  | .trainSeqLoss t seen => Sys2Proof.Machine.execTrainSeqLoss t seen s
  | .trainMis t matching blocks => Sys2Proof.Machine.execTrainMis t matching blocks s
  | .trainSkew t spread ticks => Sys2Proof.Machine.execTrainSkew t spread ticks s
  | .trainAis t present ticks => Sys2Proof.Machine.execTrainAis t present ticks s
  | .trainRdi t present ticks => Sys2Proof.Machine.execTrainRdi t present ticks s
  | .trainCsf t present validBlocks ticks => Sys2Proof.Machine.execTrainCsf t present validBlocks ticks s
  | .manifestShadowWrite m p v => Sys2Proof.Machine.execManifestShadowWrite m p v s
  | .prepare m => Sys2Proof.Machine.execPrepare m s
  | .arm m => Sys2Proof.Machine.execArm m s
  | .cancel m => Sys2Proof.Machine.execCancel m s
  | .stowageComplete r => Sys2Proof.Machine.execStowageComplete r s
  | .swapSwitch => Sys2Proof.Machine.execSwapSwitch s
  | .swapStagingEnd => Sys2Proof.Machine.execSwapStagingEnd s
  | .repack m => Sys2Proof.Machine.execRepack m s
  | .repackSwitch => Sys2Proof.Machine.execRepackSwitch s
  | .laneLos l ticks => Sys2Proof.Machine.execLaneLos l ticks s
  | .laneSigOk l ticks => Sys2Proof.Machine.execLaneSigOk l ticks s
  | .laneAcquired l ticks => Sys2Proof.Machine.execLaneAcquired l ticks s
  | .laneAcquireTimeout l => Sys2Proof.Machine.execLaneAcquireTimeout l s
  | .laneCdrLoss l => Sys2Proof.Machine.execLaneCdrLoss l s
  | .trainDone l ffe0 ffe1 txPrecode => Sys2Proof.Machine.execTrainDone l ffe0 ffe1 txPrecode s
  | .trainAttemptEnd l frames => Sys2Proof.Machine.execTrainAttemptEnd l frames s
  | .backoffRetry l => Sys2Proof.Machine.execBackoffRetry l s
  | .trainingRestart m => Sys2Proof.Machine.execTrainingRestart m s
  | .backoffDisWrite m on => Sys2Proof.Machine.execBackoffDisWrite m on s
  | .loopbackSet m mode squelch => Sys2Proof.Machine.execLoopbackSet m mode squelch s
  | .loopbackRelease m => Sys2Proof.Machine.execLoopbackRelease m s
  | .patSync l bits inverted => Sys2Proof.Machine.execPatSync l bits inverted s
  | .patSyncLoss l errors => Sys2Proof.Machine.execPatSyncLoss l errors s
  | .patChkClr m => Sys2Proof.Machine.execPatChkClr m s
  | .injectSingle m => Sys2Proof.Machine.execInjectSingle m s
  | .injectBurst m blen => Sys2Proof.Machine.execInjectBurst m blen s
  | .txFault l => Sys2Proof.Machine.execTxFault l s
  | .clientSignalFail q slot cond => Sys2Proof.Machine.execClientSignalFail q slot cond s
  | .clientSignalFailClear q slot odu ticks => Sys2Proof.Machine.execClientSignalFailClear q slot odu ticks s
  | .clientFrameIngress q slot blocks => Sys2Proof.Machine.execClientFrameIngress q slot blocks s
  | .ptpEventMessage q slot egress frame crossing => Sys2Proof.Machine.execPtpEventMessage q slot egress frame crossing s
  | .qyIdataWrite m v => Sys2Proof.Machine.execQyIdataWrite m v s
  | .ptpFrameInsert q crossing => Sys2Proof.Machine.execPtpFrameInsert q crossing s
  | .qyXdataRead m => Sys2Proof.Machine.execQyXdataRead m s
  | .qyTsf0Read m => Sys2Proof.Machine.execQyTsf0Read m s
  | .frameDelivered u oh sbip ucw enc => Sys2Proof.Machine.execFrameDelivered u oh sbip ucw enc s
  | .inFrame u pos => Sys2Proof.Machine.execInFrame u pos s
  | .oof u => Sys2Proof.Machine.execOof u s
  | .lof u => Sys2Proof.Machine.execLof u s
  | .lom u => Sys2Proof.Machine.execLom u s
  | .fnoJump u => Sys2Proof.Machine.execFnoJump u s
  | .bdiRx u => Sys2Proof.Machine.execBdiRx u s
  | .fmtMis u => Sys2Proof.Machine.execFmtMis u s
  | .midMis u => Sys2Proof.Machine.execMidMis u s
  | .lapsAccept u => Sys2Proof.Machine.execLapsAccept u s
  | .tapsAccept u ch => Sys2Proof.Machine.execTapsAccept u ch s
  | .ttLoad u dep arrival => Sys2Proof.Machine.execTtLoad u dep arrival s
  | .ttAccept u => Sys2Proof.Machine.execTtAccept u s
  | .gccFrameReceive e ch octets how => Sys2Proof.Machine.execGccFrameReceive e ch octets how s
  | .lfGccTxdWrite m ch v => Sys2Proof.Machine.execLfGccTxdWrite m ch v s
  | .lfGccRxdRead m ch => Sys2Proof.Machine.execLfGccRxdRead m ch s
  | .secondEnd => Sys2Proof.Machine.execSecondEnd s
  | .lePstateWrite m p => Sys2Proof.Machine.execLePstateWrite m p s
  | .powerStateReached e => Sys2Proof.Machine.execPowerStateReached e s
  | .convFault e receive => Sys2Proof.Machine.execConvFault e receive s
  | .txEnWrite m on => Sys2Proof.Machine.execTxEnWrite m on s
  | .laserEnWrite m on => Sys2Proof.Machine.execLaserEnWrite m on s
  | .leDrvWrite m v => Sys2Proof.Machine.execLeDrvWrite m v s
  | .rampDone e => Sys2Proof.Machine.execRampDone e s
  | .drvFault e => Sys2Proof.Machine.execDrvFault e s
  | .engineLos e ticks => Sys2Proof.Machine.execEngineLos e ticks s
  | .engineSigOk e ticks => Sys2Proof.Machine.execEngineSigOk e ticks s
  | .freqLock e fofs => Sys2Proof.Machine.execFreqLock e fofs s
  | .cdLock e cd => Sys2Proof.Machine.execCdLock e cd s
  | .cdHintMiss e => Sys2Proof.Machine.execCdHintMiss e s
  | .lock e => Sys2Proof.Machine.execLock e s
  | .acqFail e => Sys2Proof.Machine.execAcqFail e s
  | .acqRestart m => Sys2Proof.Machine.execAcqRestart m s
  | .engineLol e ticks => Sys2Proof.Machine.execEngineLol e ticks s
  | .fastReacqTimeout e => Sys2Proof.Machine.execFastReacqTimeout e s
  | .deskewLoss d skew frames => Sys2Proof.Machine.execDeskewLoss d skew frames s
  | .deskewRegained d skew frames => Sys2Proof.Machine.execDeskewRegained d skew frames s
  | .spiGo m v => Sys2Proof.Machine.execSpiGo m v s
  | .spiDone e received => Sys2Proof.Machine.execSpiDone e received s
  | .baseDecode cws => Sys2Proof.Machine.execBaseDecode cws s
  | .poolDecode => Sys2Proof.Machine.execPoolDecode s
  | .codewordDelivery => Sys2Proof.Machine.execCodewordDelivery s
  | .keyLoad m phase => Sys2Proof.Machine.execKeyLoad m phase s
  | .keyUnwrapDone m intact => Sys2Proof.Machine.execKeyUnwrapDone m intact s
  | .keyChange m target => Sys2Proof.Machine.execKeyChange m target s
  | .zeroize m phase => Sys2Proof.Machine.execZeroize m phase s
  | .zeroizeAll m => Sys2Proof.Machine.execZeroizeAll m s
  | .encBlockBoundary e receive => Sys2Proof.Machine.execEncBlockBoundary e receive s
  | .aisWindowEnd e ctx => Sys2Proof.Machine.execAisWindowEnd e ctx s
  | .clrLatch m => Sys2Proof.Machine.execClrLatch m s
  | .tdDsWrite m lit => Sys2Proof.Machine.execTdDsWrite m lit s
  | .tdGsBankWrite m bank => Sys2Proof.Machine.execTdGsBankWrite m bank s
  | .grantBankSwitch e => Sys2Proof.Machine.execGrantBankSwitch e s
  | .burstPowerDetect e sc power symbols => Sys2Proof.Machine.execBurstPowerDetect e sc power symbols s
  | .syncAccept e sc sym errors => Sys2Proof.Machine.execSyncAccept e sc sym errors s
  | .burstHeader e sc header power => Sys2Proof.Machine.execBurstHeader e sc header power s
  | .syncMiss e sc symbols => Sys2Proof.Machine.execSyncMiss e sc symbols s
  | .burstPowerRise e sc rise span margin => Sys2Proof.Machine.execBurstPowerRise e sc rise span margin s
  | .crateTickArrival e leaf ct => Sys2Proof.Machine.execCrateTickArrival e leaf ct s
  | .leafLost e leaf => Sys2Proof.Machine.execLeafLost e leaf s
  | .tideThrUpdate e => Sys2Proof.Machine.execTideThrUpdate e s
  | .mergeKeyDecision g => Sys2Proof.Machine.execMergeKeyDecision g s
  | .mergeDheldLoad g => Sys2Proof.Machine.execMergeDheldLoad g s
  | .mergeLateEarly g => Sys2Proof.Machine.execMergeLateEarly g s
  | .mergeDown g => Sys2Proof.Machine.execMergeDown g s
  | .mergeWaitExpiry g => Sys2Proof.Machine.execMergeWaitExpiry g s
  | .mergeAligned g => Sys2Proof.Machine.execMergeAligned g s
  | .mgRealign m => Sys2Proof.Machine.execMgRealign m s
  | .realignNoUsable g => Sys2Proof.Machine.execRealignNoUsable g s
  | .realignAuto g => Sys2Proof.Machine.execRealignAuto g s
  | .holdoffExpiry g => Sys2Proof.Machine.execHoldoffExpiry g s
  | .wtrExpiry g => Sys2Proof.Machine.execWtrExpiry g s
  | .mgCmdLo m => Sys2Proof.Machine.execMgCmdLo m s
  | .mgCmdFs m => Sys2Proof.Machine.execMgCmdFs m s
  | .mgCmdMsA m => Sys2Proof.Machine.execMgCmdMsA m s
  | .mgCmdMsB m => Sys2Proof.Machine.execMgCmdMsB m s
  | .mgCmdClear m => Sys2Proof.Machine.execMgCmdClear m s
  | .refLos r => Sys2Proof.Machine.execRefLos r s
  | .refFreqWindow r offset => Sys2Proof.Machine.execRefFreqWindow r offset s
  | .refQualify r => Sys2Proof.Machine.execRefQualify r s
  | .dpllLocked output ticks => Sys2Proof.Machine.execDpllLocked output ticks s
  | .timeDecision offsets rate => Sys2Proof.Machine.execTimeDecision offsets rate s
  | .timeLocked => Sys2Proof.Machine.execTimeLocked s
  | .tickInEdge phase => Sys2Proof.Machine.execTickInEdge phase s
  | .ppsEdge k stamp => Sys2Proof.Machine.execPpsEdge k stamp s
  | .ppsMiss k => Sys2Proof.Machine.execPpsMiss k s
  | .todMessage bytes => Sys2Proof.Machine.execTodMessage bytes s
  | .todTxSend => Sys2Proof.Machine.execTodTxSend s
  | .ppsOutEdge => Sys2Proof.Machine.execPpsOutEdge s
  | .asymLearned e => Sys2Proof.Machine.execAsymLearned e s
  | .tsLearn m => Sys2Proof.Machine.execTsLearn m s
  | .swOfsWrite m v => Sys2Proof.Machine.execSwOfsWrite m v s
  | .swSourceTimeout => Sys2Proof.Machine.execSwSourceTimeout s
  | .invarLearned => Sys2Proof.Machine.execInvarLearned s
  | .invarResetModel m => Sys2Proof.Machine.execInvarResetModel m s
  | .invTempStale => Sys2Proof.Machine.execInvTempStale s
  | .sopTransient e => Sys2Proof.Machine.execSopTransient e s
  | .capArm m => Sys2Proof.Machine.execCapArm m s
  | .capDisarm m => Sys2Proof.Machine.execCapDisarm m s
  | .capTrig m => Sys2Proof.Machine.execCapTrig m s
  | .capRelease m => Sys2Proof.Machine.execCapRelease m s
  | .capScheduleTrigger e => Sys2Proof.Machine.execCapScheduleTrigger e s
  | .captureClose e samples first => Sys2Proof.Machine.execCaptureClose e samples first s
  | .surveyStepEnd e r => Sys2Proof.Machine.execSurveyStepEnd e r s
  | .mateFrameReceive f => Sys2Proof.Machine.execMateFrameReceive f s
  | .mateLinkUp => Sys2Proof.Machine.execMateLinkUp s
  | .mateLinkDown => Sys2Proof.Machine.execMateLinkDown s
  | .bollardLineChange => Sys2Proof.Machine.execBollardLineChange s
  | .beatSend => Sys2Proof.Machine.execBeatSend s
  | .beatReceive path beat intact => Sys2Proof.Machine.execBeatReceive path beat intact s
  | .beatMiss path => Sys2Proof.Machine.execBeatMiss path s
  | .matePresEdge => Sys2Proof.Machine.execMatePresEdge s
  | .matePresTimeout => Sys2Proof.Machine.execMatePresTimeout s
  | .mateBootDecision => Sys2Proof.Machine.execMateBootDecision s
  | .takeover => Sys2Proof.Machine.execTakeover s
  | .actGrantChange high => Sys2Proof.Machine.execActGrantChange high s
  | .effectiveGrant => Sys2Proof.Machine.execEffectiveGrant s
  | .swGrant m v => Sys2Proof.Machine.execSwGrant m v s
  | .resync m v => Sys2Proof.Machine.execResync m v s
  | .switchover m v => Sys2Proof.Machine.execSwitchover m v s
  | .journalApply capture => Sys2Proof.Machine.execJournalApply capture s
  | .mateCompare differ mateNormal => Sys2Proof.Machine.execMateCompare differ mateNormal s
  | .graceExpiry => Sys2Proof.Machine.execGraceExpiry s
  | .epochApply complete items => Sys2Proof.Machine.execEpochApply complete items s
  | .mooringFrameReceive port f => Sys2Proof.Machine.execMooringFrameReceive port f s
  | .laneRestored port lane => Sys2Proof.Machine.execLaneRestored port lane s
  | .hrRetireWrite m v => Sys2Proof.Machine.execHrRetireWrite m v s
  | .rmapAccept port => Sys2Proof.Machine.execRmapAccept port s
  | .domainMis port => Sys2Proof.Machine.execDomainMis port s
  | .timingPortSwitch => Sys2Proof.Machine.execTimingPortSwitch s
  | .workerTickSet => Sys2Proof.Machine.execWorkerTickSet s
  | .workerTickMismatch => Sys2Proof.Machine.execWorkerTickMismatch s
  | .helloSend => Sys2Proof.Machine.execHelloSend s
  | .helloReceive port hello => Sys2Proof.Machine.execHelloReceive port hello s
  | .routeExpiry port => Sys2Proof.Machine.execRouteExpiry port s
  | .ccPacketReceive port packet fcsOk => Sys2Proof.Machine.execCcPacketReceive port packet fcsOk s
  | .hrCcTxdWrite m v => Sys2Proof.Machine.execHrCcTxdWrite m v s
  | .hrCcRxdRead m => Sys2Proof.Machine.execHrCcRxdRead m s
  | .dcStart m v => Sys2Proof.Machine.execDcStart m v s
  | .dcArmReceive change commit n => Sys2Proof.Machine.execDcArmReceive change commit n s
  | .dcReplyReceive member change n reply => Sys2Proof.Machine.execDcReplyReceive member change n reply s
  | .dcDecide => Sys2Proof.Machine.execDcDecide s
  | .dcGoReceive change n => Sys2Proof.Machine.execDcGoReceive change n s
  | .dcAbortReceive change n => Sys2Proof.Machine.execDcAbortReceive change n s
  | .dcHold => Sys2Proof.Machine.execDcHold s
  | .dcClose => Sys2Proof.Machine.execDcClose s
  | .dcRollbackReceive change n2 => Sys2Proof.Machine.execDcRollbackReceive change n2 s
  | .dcRollbackApply => Sys2Proof.Machine.execDcRollbackApply s
  | .scratchpadAccess m b => Sys2Proof.Machine.execScratchpadAccess m b s
  | .anchorageAccess m bar2 b => Sys2Proof.Machine.execAnchorageAccess m bar2 b s
  | .repairProgram m v => Sys2Proof.Machine.execRepairProgram m v s
  | .repairDone vfuse verified => Sys2Proof.Machine.execRepairDone vfuse verified s
  | .scrubRead w ecc overwritten => Sys2Proof.Machine.execScrubRead w ecc overwritten s
  | .marchRegion page ev => Sys2Proof.Machine.execMarchRegion page ev s
  | .borrowTouch user b => Sys2Proof.Machine.execBorrowTouch user b s
  | .marchRetry page => Sys2Proof.Machine.execMarchRetry page s
  | .mmNbWrite m size v => Sys2Proof.Machine.execMmNbWrite m size v s
  | .defaultTargetAccess m b => Sys2Proof.Machine.execDefaultTargetAccess m b s
  | .busTimeout m write addr => Sys2Proof.Machine.execBusTimeout m write addr s
  | .bootswap m v => Sys2Proof.Machine.execBootswap m v s
  | .coreRunWrite m v midBurst => Sys2Proof.Machine.execCoreRunWrite m v midBurst s
  | .coreTimerCompare c => Sys2Proof.Machine.execCoreTimerCompare c s
  | .appletStart m v => Sys2Proof.Machine.execAppletStart m v s
  | .appletStop m v => Sys2Proof.Machine.execAppletStop m v s
  | .appletFault slot mcause mepc => Sys2Proof.Machine.execAppletFault slot mcause mepc s
  | .pcieRequest write address beats x => Sys2Proof.Machine.execPcieRequest write address beats x s
  | .pcieReset how midBurst => Sys2Proof.Machine.execPcieReset how midBurst s
  | .localBusAccess write a enables data ecc portB x => Sys2Proof.Machine.execLocalBusAccess write a enables data ecc portB x s
  | .lbPageWrite v => Sys2Proof.Machine.execLbPageWrite v s
  | .localBusTimeout write a => Sys2Proof.Machine.execLocalBusTimeout write a s
  | .i2cReadId => Sys2Proof.Machine.execI2cReadId s
  | .i2cReadMode => Sys2Proof.Machine.execI2cReadMode s
  | .i2cReadTherm => Sys2Proof.Machine.execI2cReadTherm s
  | .i2cReadGroups => Sys2Proof.Machine.execI2cReadGroups s
  | .i2cMbxWrite bytes pecOk => Sys2Proof.Machine.execI2cMbxWrite bytes pecOk s
  | .i2cMbxRead => Sys2Proof.Machine.execI2cMbxRead s
  | .syMbxDataRead m => Sys2Proof.Machine.execSyMbxDataRead m s
  | .syMbxDataWrite m v => Sys2Proof.Machine.execSyMbxDataWrite m v s
  | .qspiGo m v => Sys2Proof.Machine.execQspiGo m v s
  | .qspiDone data => Sys2Proof.Machine.execQspiDone data s
  | .pmbusAlert core le => Sys2Proof.Machine.execPmbusAlert core le s
  | .uartTxWrite m v => Sys2Proof.Machine.execUartTxWrite m v s
  | .uartRxRead m => Sys2Proof.Machine.execUartRxRead m s
  | .uartRxByte b => Sys2Proof.Machine.execUartRxByte b s
  | .debugUnlock m v => Sys2Proof.Machine.execDebugUnlock m v s
  | .imgApply m v image => Sys2Proof.Machine.execImgApply m v image s
  | .applyDone => Sys2Proof.Machine.execApplyDone s
  | .imgCommit m v => Sys2Proof.Machine.execImgCommit m v s
  | .imageCommitBoundary => Sys2Proof.Machine.execImageCommitBoundary s
  | .imgAbort m v => Sys2Proof.Machine.execImgAbort m v s
  | .imgPersist m v image => Sys2Proof.Machine.execImgPersist m v image s
  | .imgRevert m v => Sys2Proof.Machine.execImgRevert m v s
  | .recordWriteDone copy0 copy1 verified => Sys2Proof.Machine.execRecordWriteDone copy0 copy1 verified s
  | .fuseProgram m v => Sys2Proof.Machine.execFuseProgram m v s
  | .fuseDone how => Sys2Proof.Machine.execFuseDone how s
  | .blockReset m v => Sys2Proof.Machine.execBlockReset m v s
  | .blockResetRelease => Sys2Proof.Machine.execBlockResetRelease s
  | .sensorFail => Sys2Proof.Machine.execSensorFail s
  | .thermalShutdown => Sys2Proof.Machine.execThermalShutdown s
  | .thermalResetRelease straps xo => Sys2Proof.Machine.execThermalResetRelease straps xo s
  | .bistGo m v => Sys2Proof.Machine.execBistGo m v s
  | .bistAbort m v => Sys2Proof.Machine.execBistAbort m v s
  | .bistDone fail => Sys2Proof.Machine.execBistDone fail s
  | .logRecordWrite => Sys2Proof.Machine.execLogRecordWrite s
  | .logSummaryWrite => Sys2Proof.Machine.execLogSummaryWrite s
  | .evLogRdWrite m v => Sys2Proof.Machine.execEvLogRdWrite m v s
  | .pcEvselWrite m k v => Sys2Proof.Machine.execPcEvselWrite m k v s
  | .pcOverflow k n => Sys2Proof.Machine.execPcOverflow k n s
  | .dumpRingDue => Sys2Proof.Machine.execDumpRingDue s
  | .dumpEntryWritten r => Sys2Proof.Machine.execDumpEntryWritten r s
  | .dumpStop m midBurst => Sys2Proof.Machine.execDumpStop m midBurst s
  | .dumpRingEnable m r v => Sys2Proof.Machine.execDumpRingEnable m r v s
  | .pmOfsWrite m v => Sys2Proof.Machine.execPmOfsWrite m v s
  | .syTicknoLoRead m => Sys2Proof.Machine.execSyTicknoLoRead m s
  | .trBipLoRead m => Sys2Proof.Machine.execTrBipLoRead m s
  | .lnErrLoRead m => Sys2Proof.Machine.execLnErrLoRead m s
  | .lnBitsLoRead m => Sys2Proof.Machine.execLnBitsLoRead m s
  | .qyCntLoRead m => Sys2Proof.Machine.execQyCntLoRead m s
  | .lfFnoLoRead m => Sys2Proof.Machine.execLfFnoLoRead m s
  | .lfPmLoRead m => Sys2Proof.Machine.execLfPmLoRead m s
  | .fpCntLoRead m => Sys2Proof.Machine.execFpCntLoRead m s
  | .tdCntLoRead m => Sys2Proof.Machine.execTdCntLoRead m s
  | .mgCntLoRead m => Sys2Proof.Machine.execMgCntLoRead m s
  | .mtCntLoRead m => Sys2Proof.Machine.execMtCntLoRead m s
  | .hrCntLoRead m => Sys2Proof.Machine.execHrCntLoRead m s
  | .gridSwapDoneLoRead m => Sys2Proof.Machine.execGridSwapDoneLoRead m s
  | .mmEccAddrLoRead m => Sys2Proof.Machine.execMmEccAddrLoRead m s
  | .tmTb0Read m => Sys2Proof.Machine.execTmTb0Read m s
  | .pcCntLoRead m k => Sys2Proof.Machine.execPcCntLoRead m k s
  | .registerWrite m addr v x => Sys2Proof.Machine.execRegisterWrite m addr v x s
  | .unrecoverableImageFault => Sys2Proof.Machine.execUnrecoverableImageFault s
  | .pcieLinkUp => Sys2Proof.Machine.execPcieLinkUp s
  | .pcieConfigurationRequest r => Sys2Proof.Machine.execPcieConfigurationRequest r s
  | .jtagAccess op x => Sys2Proof.Machine.execJtagAccess op x s
  | .workingSramAccess m b => Sys2Proof.Machine.execWorkingSramAccess m b s

end Sys2Proof.Machine
end

