-- ==== Sys2Proof/Safety.lean ====
section
/-! DEFINITION. What holds in every state of a sound run, whatever the commands: reserved bits of registers stay 0, the addressed
memories keep their canonical form, and the first-in first-out queues of fixed depth hold no more than they can. -/

namespace Sys2Proof.Machine

/-- No register of a table of registers holds a 1 in a reserved bit (R11). -/
def reservedClear (t : Table Word) : Prop :=
  ∀ x ∈ t, ∀ r : Reg, r.ctorIdx = x.1.1 → x.2 &&& ~~~ BitVec.ofNat 32 r.info.impl = 0

/-- Reserved bits are 0 (R11); the on-chip memories are in canonical form (R483); the addresses rise in the Anchorage, whose bytes
are listed once written (R508); the logger's queue holds at most 64 records (R580); and each direction of the console UART at most
64 bytes (R536). -/
def State.Inv (s : State) : Prop :=
  (reservedClear s.regs ∧ Mem.wf s.mem = true) ∧ Mem.rising s.anc = true ∧ s.logQueue.length ≤ 64 ∧ s.uart.tx.length ≤ 64 ∧
    s.uart.rx.length ≤ 64

/-- The addressed memories (on-chip, Anchorage) read the same. -/
def State.SameMemory (s t : State) : Prop := t.mem = s.mem ∧ t.anc = s.anc ∧ t.badWords = s.badWords ∧ t.ancBad = s.ancBad

/-- No copy of a register outside a list differs, reports to the event unit (EV_STICKY, EV_SRC_CNT) apart. -/
def State.OnlyRegs (s t : State) (rs : List Reg) : Prop :=
  ∀ r i, r ∉ rs → r ≠ .EV_STICKY → r ≠ .EV_SRC_CNT → t.reg r i = s.reg r i

/-- Of the registers, only copy `i` of those listed may differ, reports to the event unit (EV_STICKY, EV_SRC_CNT) apart. -/
def State.OnlyAt (s t : State) (i : Nat) (rs : List Reg) : Prop :=
  ∀ r j, (r ∉ rs ∨ j ≠ i) → r ≠ .EV_STICKY → r ≠ .EV_SRC_CNT → t.reg r j = s.reg r j

/-- The device performs its own writes at once: it is in no mate pair, or its role journals nothing. -/
def State.Alone (s : State) : Prop := s.standby = false ∧ s.active = false

/-- No run stops: every command that waits has an effect (the specification gives the block no stop). -/
def State.Goes (s : State) : Prop := ∃ t, step s = .next t

end Sys2Proof.Machine
end

