-- ==== Sys2Proof/Certificates/Slice0/Obligations.lean ====
section
/-! DEFINITION. The statements for the provers: what the specification's rules say of the commands and of the machine. -/

open Sys2Proof Sys2Proof.Machine

/-- R62 to R64, R219: at an elastic store in use the pointer word is classified against the store's own state (a slot marked as failed
counts as all ones), the interpreter moves, BBIP errors are counted; no other store and no memory changes.  At a quay port, which has no
store, at a port not in use and at a Tide port, whose store the reassembly buffer writes (R332), nothing changes. R63, on whole runs of events from a store whose runs stand at 0: fewer than 8 invalid pointers leave NORM, 8 reach LOP; 3 AIS
indications reach AIS from NORM and from LOP; 3 equal new pointers are accepted in every state, and fewer are not; an NDF is accepted at
once in NORM and in AIS but not in LOP; an adjustment moves the active value by one position round 1,008. -/
def Obligations.PointerWordIsInterpreted : Prop :=
  ((∀ (p : Fin 23040) (word : BitVec 16) (label : Fin 16) (bbip : Nat) (drift : Int) (centre : Fin 1008) (s : State),
    (s.store p.val).inUse = true → 10240 ≤ p.val → s.tidePort p.val = false →
    ∃ t, exec (.berthPointerWord p word label bbip drift centre) s = .next t ∧
      (t.store p.val).st =
        (interpret (s.store p.val) (classifyWord (s.store p.val) (if s.portFailed p.val then 0xFFFF else word))).st ∧
      (t.store p.val).active =
        (interpret (s.store p.val) (classifyWord (s.store p.val) (if s.portFailed p.val then 0xFFFF else word))).active ∧
      t.rd F.BP_ECNT_BBIP p.val = (s.rd F.BP_ECNT_BBIP p.val + bbip) % 65536 ∧
      (∀ q, q ≠ p.val → t.store q = s.store q) ∧
      s.OnlyAt t p.val [.BP_ECNT, .BP_JCNT, .BP_STICKY] ∧ s.SameMemory t) ∧
  (∀ (p : Fin 23040) (word : BitVec 16) (label : Fin 16) (bbip : Nat) (drift : Int) (centre : Fin 1008) (s : State),
    (s.store p.val).inUse = false ∨ p.val < 10240 ∨ s.tidePort p.val = true → exec (.berthPointerWord p word label bbip drift centre) s = .next s)) ∧
  (∀ (x : Store) (p : Nat), p < 1008 → x.active < 1008 →
    x.normRun = 0 → x.newRun = 0 → x.aisRun = 0 → x.invRun = 0 → x.ndfRun = 0 →
    (x.st = .norm → ∀ n, n < 8 → ((List.replicate n PtrEvent.invPoint).foldl interpret x).st = .norm) ∧
    (x.st ≠ .lop → ((List.replicate 8 PtrEvent.invPoint).foldl interpret x).st = .lop) ∧
    (x.st = .norm → ((List.replicate 8 (PtrEvent.ndfEnable p)).foldl interpret x).st = .lop) ∧
    (x.st ≠ .ais → ∀ n, n < 3 → ((List.replicate n PtrEvent.aisInd).foldl interpret x).st = x.st) ∧
    ((List.replicate 3 PtrEvent.aisInd).foldl interpret x).st = .ais ∧
    (∀ n, n < 3 → ((List.replicate n (PtrEvent.newPoint p)).foldl interpret x).st = x.st ∧
      ((List.replicate n (PtrEvent.newPoint p)).foldl interpret x).active = x.active) ∧
    ((List.replicate 3 (PtrEvent.newPoint p)).foldl interpret x).st = .norm ∧
    ((List.replicate 3 (PtrEvent.newPoint p)).foldl interpret x).active = p ∧
    (x.st ≠ .lop → (interpret x (.ndfEnable p)).st = .norm ∧ (interpret x (.ndfEnable p)).active = p) ∧
    (x.st = .lop → (interpret x (.ndfEnable p)).st = .lop) ∧
    (x.st = .norm → (interpret x .incInd).active = (x.active + 1) % 1008 ∧ (interpret x .decInd).active = (x.active + 1007) % 1008))

/-- R72: a train of k berths that carries Cn nibbles in a tick gives crate i the fill count q + 1 for i < r and q from r on, with
q = floor(Cn / k) and r = Cn mod k. -/
def Obligations.FillCountsFollowTheClientRate : Prop :=
  ∀ cn k i : Nat, 0 < k → i < k → fillCount cn k i = if i < cn % k then cn / k + 1 else cn / k

/-- R72: the fill counts of a train's crates carry the client's Cn nibbles, no more and no fewer. R73: exactly FC payload positions of a crate carry a client nibble, for every FC up to 1,000. -/
def Obligations.CratesCarryTheirFill : Prop :=
  (∀ cn k : Nat, 0 < k → ((List.range k).map (fillCount cn k)).sum = cn) ∧
  (∀ fc : Nat, fc ≤ 1000 → ((List.range 1000).filter (carriesClient fc)).length = fc)

/-- R82: each train defect is raised and cleared by the runs of the table, SEQ_LOSS, MIS and SKEW only while AIS does not hold; no other
train's status and no memory changes. R76: a replacement of the payload that began at least 16 boundaries ago ends at the end of a ROT block, and not before. -/
def Obligations.TrainDefectsFollowTheirRuns : Prop :=
  (∀ (u : Fin 4096) (s : State),
    (s.on F.TR_STAT_AIS u.val = false →
      (∃ t, exec (.trainSeqLoss u (.seqlWrong 3)) s = .next t ∧ t.on F.TR_STAT_SEQ_LOSS u.val = true ∧ s.SameMemory t ∧
        s.OnlyAt t u.val [.TR_STAT, .TR_STICKY]) ∧
      (∀ seq, ∃ t, exec (.trainSeqLoss u (.goodBlock seq)) s = .next t ∧ t.on F.TR_STAT_SEQ_LOSS u.val = false ∧
        (t.train u.val).expSeq = seq % 2 ^ 20 ∧ s.SameMemory t) ∧
      (∃ t, exec (.trainMis u false 2) s = .next t ∧ t.on F.TR_STAT_MIS u.val = true ∧ s.SameMemory t ∧
        s.OnlyAt t u.val [.TR_STAT, .TR_STICKY]) ∧
      (∃ t, exec (.trainMis u true 2) s = .next t ∧ t.on F.TR_STAT_MIS u.val = false ∧ s.SameMemory t) ∧
      (∀ spread ticks, 3 ≤ ticks → ∃ t, exec (.trainSkew u spread ticks) s = .next t ∧
        t.on F.TR_STAT_SKEW u.val = decide (504 < spread) ∧ s.SameMemory t ∧ s.OnlyAt t u.val [.TR_STAT, .TR_STICKY])) ∧
    (∀ present ticks, 2 ≤ ticks → s.memberLost u.val = false → ∃ t, exec (.trainAis u present ticks) s = .next t ∧
      t.on F.TR_STAT_AIS u.val = present ∧ s.SameMemory t ∧ s.OnlyAt t u.val [.TR_STAT, .TR_STICKY]) ∧
    (∀ present ticks, 3 ≤ ticks → ∃ t, exec (.trainRdi u present ticks) s = .next t ∧ t.on F.TR_STAT_RDI u.val = present ∧
      s.SameMemory t ∧ s.OnlyAt t u.val [.TR_STAT, .TR_STICKY]) ∧
    (∀ blocks ticks, 1 ≤ blocks → ∃ t, exec (.trainCsf u true blocks ticks) s = .next t ∧ t.on F.TR_STAT_CSF u.val = true ∧
      s.SameMemory t) ∧
    (∀ blocks ticks, 1 ≤ blocks → 16 ≤ ticks → ∃ t, exec (.trainCsf u false blocks ticks) s = .next t ∧
      t.on F.TR_STAT_CSF u.val = false ∧ s.SameMemory t) ∧
    (s.on F.TR_STAT_AIS u.val = true → ∀ seen spread ticks matching blocks,
      exec (.trainSeqLoss u seen) s = .next s ∧ exec (.trainMis u matching blocks) s = .next s ∧
        exec (.trainSkew u spread ticks) s = .next s)) ∧
  (∀ (u : Fin 4096) (s : State) (since : Nat), (s.train u.val).replacing = some since →
    (since + 16 ≤ s.now → s.tick.toNat % 16 = 0 →
      ∃ t, exec (.fillLimitEnd u) s = .next t ∧ (t.train u.val).replacing = none ∧ (t.train u.val).cn = (s.train u.val).cn ∧
        (∀ v, v ≠ u.val → t.train v = s.train v) ∧ t.regs = s.regs ∧ s.SameMemory t) ∧
    (s.now < since + 16 ∨ s.tick.toNat % 16 ≠ 0 → exec (.fillLimitEnd u) s = .next s))

/-- R98, R99, R118, R110: outside a mate pair a write to an unlocked shadow bank changes that entry of the bank that is not live, and no
live entry; PREPARE, ARM and CANCEL wait for the next boundary unless an apply, a commit or a domain commit holds the swap registers, which
answers BUSY; REPACK starts a repack, or is rejected while a swap is prepared or armed or the stowage loop is frozen (R105). R99: a write to a locked shadow bank is not performed: the master gets the error response, and GRID_STICKY.LOCKED_WR is set. -/
def Obligations.GridCommandsAreTaken : Prop :=
  (∀ (m : Initiator) (s : State), s.Alone →
    (∀ (p : Fin 23040) (v : Word), s.swap.locked = false → s.liveBank ≤ 1 →
      ∃ t, exec (.manifestShadowWrite m p v) s = .next t ∧ t.manifest (1 - s.liveBank) p.val = v ∧
        (∀ q, t.manifest s.liveBank q = s.manifest s.liveBank q) ∧ t.answer m.copy = .ok 0 ∧ t.regs = s.regs ∧ s.SameMemory t) ∧
    (s.swap.holder = .nobody →
      (∃ t, exec (.prepare m) s = .next t ∧ t.atBoundary = s.atBoundary ++ [.gridPrepare] ∧ t.regs = s.regs ∧ s.SameMemory t) ∧
      (∃ t, exec (.arm m) s = .next t ∧ t.atBoundary = s.atBoundary ++ [.gridArm s.swapAt s.tick] ∧ t.regs = s.regs ∧ s.SameMemory t) ∧
      (∃ t, exec (.cancel m) s = .next t ∧ t.atBoundary = s.atBoundary ++ [.gridCancel s.tick] ∧ t.regs = s.regs ∧ s.SameMemory t)) ∧
    (s.swap.holder ≠ .nobody →
      (∃ t, exec (.prepare m) s = .next t ∧ t.rd F.GRID_SWAP_STAT_RESULT 0 = 7 ∧ t.atBoundary = s.atBoundary) ∧
      (∃ t, exec (.arm m) s = .next t ∧ t.rd F.GRID_SWAP_STAT_RESULT 0 = 7 ∧ t.atBoundary = s.atBoundary) ∧
      (∃ t, exec (.cancel m) s = .next t ∧ t.rd F.GRID_SWAP_STAT_RESULT 0 = 7 ∧ t.atBoundary = s.atBoundary)) ∧
    (s.swapPending = false → (s.rd F.SY_LOOP_STAT_FROZEN 0).testBit 7 = false →
      ∃ t, exec (.repack m) s = .next t ∧ t.rd F.GRID_STOW_STAT_REPACK_REJ 0 = 0 ∧ t.rd F.GRID_STOW_STAT_REPACK_BUSY 0 = 1 ∧
        t.swap.repacking = true ∧ s.OnlyRegs t [.GRID_STOW_STAT] ∧ s.SameMemory t) ∧
    (s.swapPending = true → ∃ t, exec (.repack m) s = .next t ∧ t.rd F.GRID_STOW_STAT_REPACK_REJ 0 = 1 ∧ t.swap = s.swap)) ∧
  (∀ (m : Initiator) (p : Fin 23040) (v : Word) (s : State), s.swap.locked = true →
    ∃ t, exec (.manifestShadowWrite m p v) s = .next t ∧ t.banks = s.banks ∧ t.answer m.copy = .error .target ∧
      t.on F.GRID_STICKY_LOCKED_WR 0 = true ∧ t.swap = s.swap ∧ s.SameMemory t)

/-- R113 to R116: a computation that leaves nothing unplaced makes the swap READY; an armed and ready swap due at the next boundary changes
the live bank, and not ready it is missed; two boundaries after the switch the staging ends, the bank unlocks and the state is IDLE; a
completed repack switches with no swap pending. -/
def Obligations.SwapRunsToItsEnd : Prop :=
  (∀ (r : StowResult) (s : State), s.swapState = .place → (s.rd F.SY_LOOP_STAT_FROZEN 0).testBit 7 = false → r.unplaced = [] →
    ∃ t, exec (.stowageComplete r) s = .next t ∧ t.swapState = .ready ∧ t.swap.pending = some r ∧
      t.rd F.GRID_STOW_STAT_LAST_WRITES 0 = r.writes % 2 ^ F.GRID_STOW_STAT_LAST_WRITES.width ∧
      s.OnlyRegs t [.GRID_SWAP_STAT, .GRID_STOW_STAT] ∧ s.SameMemory t) ∧
  (∀ (r : StowResult) (s : State), s.on F.GRID_SWAP_STAT_ARMED 0 = true → s.swap.due = s.tick + 1 → s.swap.staging = false →
    s.swap.pending = some r → (s.rd F.SY_LOOP_STAT_FROZEN 0).testBit 7 = false → s.liveBank ≤ 1 →
    ∃ t, exec .swapSwitch s = .next t ∧ t.liveBank = 1 - s.liveBank ∧ t.swap.plan = r.plan ∧ t.swap.staging = true ∧
      t.banks = s.banks ∧ t.atBoundary = s.atBoundary ++ [.swapDone s.swap.due] ∧
      s.OnlyRegs t [.GRID_SWAP_STAT, .GRID_MC_STAT] ∧ s.SameMemory t) ∧
  (∀ s : State, s.on F.GRID_SWAP_STAT_ARMED 0 = true → s.swap.due = s.tick + 1 → s.swap.staging = false → s.swap.pending = none →
    ∃ t, exec .swapSwitch s = .next t ∧ t.liveBank = s.liveBank ∧ t.rd F.GRID_SWAP_STAT_RESULT 0 = 5 ∧ t.swapState = .idle ∧
      t.on F.GRID_SWAP_STAT_ARMED 0 = false ∧ t.swap.locked = false ∧ t.on F.GRID_STICKY_SWAP_MISSED 0 = true ∧ s.SameMemory t) ∧
  (∀ (s : State) (n : Nat), s.swap.switchedAt = some n → s.swapState = .copy → n + 2 ≤ s.now →
    ∃ t, exec .swapStagingEnd s = .next t ∧ t.swapState = .idle ∧ t.swap.staging = false ∧
      t.swap.locked = (s.swap.holder == .domain) ∧ t.liveBank = s.liveBank ∧
      (s.swap.copyBack = false → t.banks = s.banks) ∧ s.OnlyRegs t [.GRID_SWAP_STAT] ∧ s.SameMemory t) ∧
  (∀ (s : State) (r : StowResult), s.swap.repackDone = some r → s.swap.repacking = true → s.swapPending = false →
    s.swap.switchedAt = none →
    ∃ t, exec .repackSwitch s = .next t ∧ t.swap.plan = r.plan ∧ t.swap.repacking = false ∧ t.liveBank = s.liveBank ∧
      t.on F.GRID_STICKY_REPACK_DONE 0 = true ∧ t.rd F.GRID_STOW_STAT_REPACK_BUSY 0 = 0 ∧
      s.OnlyRegs t [.GRID_STOW_STAT, .GRID_STICKY] ∧ s.SameMemory t)

/-- R126, R127, R134 to R136, R145: LOS, return of signal, acquisition, its time-out and loss of CDR lock move the lane between its states,
with the status bits and leaf events of each; no other lane and no memory changes. -/
def Obligations.SignalEventsMoveTheLane : Prop :=
  ∀ (l : Fin 128) (ticks : Nat) (s : State),
    (32 ≤ ticks → s.laneState l.val ≠ .off → s.laneState l.val ≠ .los → s.ignoresLos l.val = false →
      ∃ t, exec (.laneLos l ticks) s = .next t ∧ t.laneState l.val = .los ∧ t.on F.LN_STAT_SIGNAL l.val = false ∧
        t.on F.LN_STAT_CDR_LOCK l.val = false ∧ t.on F.LN_STICKY_LOS l.val = true ∧ (∀ k, k ≠ l.val → t.lane k = s.lane k) ∧
        s.OnlyAt t l.val [.LN_STAT, .LN_TRAIN_STAT, .LN_STICKY] ∧ s.SameMemory t) ∧
    (3125 ≤ ticks → s.laneState l.val = .los →
      ∃ t, exec (.laneSigOk l ticks) s = .next t ∧
        t.laneState l.val = (if s.laneTrains l.val && s.cfg F.LN_LOOP_MODE l.val == 0 then .train else .acquire) ∧
        t.on F.LN_STAT_SIGNAL l.val = true ∧ t.rd F.LN_TRAIN_STAT_ATTEMPTS l.val = 0 ∧ t.on F.LN_STICKY_SIG_OK l.val = true ∧
        (∀ k, k ≠ l.val → t.lane k = s.lane k) ∧ s.OnlyAt t l.val [.LN_STAT, .LN_TRAIN_STAT, .LN_STICKY] ∧ s.SameMemory t) ∧
    (64 ≤ ticks → s.laneState l.val = .acquire →
      ∃ t, exec (.laneAcquired l ticks) s = .next t ∧
        t.laneState l.val =
          (if (s.lane l.val).toPreset && s.laneTrains l.val && !s.ignoresLos l.val then .preset else .data) ∧
        t.on F.LN_STAT_CDR_LOCK l.val = true ∧ (∀ k, k ≠ l.val → t.lane k = s.lane k) ∧ s.OnlyAt t l.val [.LN_STAT] ∧
        s.SameMemory t) ∧
    (s.laneState l.val = .acquire → s.elapsed (s.lane l.val).since 31250 = true →
      ∃ t, exec (.laneAcquireTimeout l) s = .next t ∧ t.laneState l.val = .acquire ∧ (t.lane l.val).rx = {} ∧
        (t.lane l.val).since = s.now ∧ t.on F.LN_STICKY_LOL l.val = true ∧ s.OnlyAt t l.val [.LN_STICKY] ∧ s.SameMemory t) ∧
    (s.laneReceives l.val = true → (s.lane l.val).loop ≠ 3 →
      ∃ t, exec (.laneCdrLoss l) s = .next t ∧ t.laneState l.val = .acquire ∧ t.on F.LN_STAT_CDR_LOCK l.val = false ∧
        t.on F.LN_STICKY_LOL l.val = true ∧ (∀ k, k ≠ l.val → t.lane k = s.lane k) ∧
        s.OnlyAt t l.val [.LN_STAT, .LN_STICKY] ∧ s.SameMemory t)

/-- R128 to R132: an adaptation ends within the ranges of the coefficients, a frozen loop keeps its own, and a diverging lane returns to
the coefficients held at its last entry to DATA or PRESET, counted. -/
def Obligations.EqualizersStayInRange : Prop :=
  ∀ (l : Fin 128) (s : State),
    (∀ x : RxCoef, s.laneAdapts l.val = true → s.eqFrozen l.val = false → s.slicerFrozen l.val = false →
      ∃ t, exec (.laneAdapt l x) s = .next t ∧ (t.lane l.val).rx.eq.toNat % 64 ≤ 40 ∧
        (t.lane l.val).rx.eq.toNat / 256 % 32 ≤ 24 ∧ (t.lane l.val).rx.eq.toNat / 65536 % 256 ≤ 77 ∧
        (s.on F.LN_CFG_ENC l.val = false → (t.lane l.val).rx.slicer = 0) ∧ (t.lane l.val).tx0 = (s.lane l.val).tx0 ∧
        (∀ k, k ≠ l.val → t.lane k = s.lane k) ∧ s.OnlyAt t l.val [.LN_STICKY] ∧ s.SameMemory t) ∧
    (∀ x : RxCoef, s.laneAdapts l.val = true → s.eqFrozen l.val = true → s.slicerFrozen l.val = true →
      ∃ t, exec (.laneAdapt l x) s = .next t ∧ (t.lane l.val).rx = (s.lane l.val).rx ∧ t.regs = s.regs ∧ s.SameMemory t) ∧
    (∀ ticks, 64 ≤ ticks → s.laneReceives l.val = true →
      ∃ t, exec (.laneEqReset l ticks) s = .next t ∧ (t.lane l.val).rx = (s.lane l.val).held ∧
        t.rd F.LN_STAT_EQ_RESETS l.val = (s.rd F.LN_STAT_EQ_RESETS l.val + 1) % 2 ^ F.LN_STAT_EQ_RESETS.width ∧
        t.on F.LN_STICKY_LANE_EQ_RESET l.val = true ∧ t.laneState l.val = s.laneState l.val ∧
        s.OnlyAt t l.val [.LN_STAT, .LN_STICKY] ∧ s.SameMemory t)

/-- R134, R135, R146: training done waits for the boundary that enters DATA; an attempt that has run its time is counted and followed by
another, the eighth by PRESET with TRAIN_FAIL and, all silent, by back-off; W elapsed, one more attempt starts; a transmitter fault holds
electrical idle. -/
def Obligations.TrainingRunsItsAttempts : Prop :=
  ∀ (l : Fin 128) (s : State),
    (∀ (a b : Word) (pre : Bool), s.laneState l.val = .train →
      ∃ t, exec (.trainDone l a b pre) s = .next t ∧ t.atBoundary = s.atBoundary ++ [.laneData l.val] ∧
        t.laneState l.val = .train ∧ t.rd F.LN_TRAIN_STAT_LAST l.val = 0 ∧ t.on F.LN_TRAIN_STAT_PARTNER l.val = true ∧
        t.on F.LN_TRAIN_STAT_BACKOFF l.val = false ∧ t.on F.LN_CTRL_TX_PRECODE l.val = (if s.on F.LN_CFG_ENC l.val then pre else s.on F.LN_CTRL_TX_PRECODE l.val) ∧
        (t.lane l.val).trained = some (trainedTaps (s.on F.LN_CFG_ENC l.val) a b) ∧ t.on F.LN_STICKY_TRAIN_DONE l.val = true ∧
        s.OnlyAt t l.val [.LN_TRAIN_STAT, .LN_CTRL, .LN_STICKY] ∧ s.SameMemory t) ∧
    (∀ frames, s.laneState l.val = .train → s.elapsed (s.lane l.val).attemptAt 156250 = true → (s.lane l.val).retry = false →
      s.rd F.LN_TRAIN_STAT_ATTEMPTS l.val < 7 →
      ∃ t, exec (.trainAttemptEnd l frames) s = .next t ∧
        t.rd F.LN_TRAIN_STAT_ATTEMPTS l.val = s.rd F.LN_TRAIN_STAT_ATTEMPTS l.val + 1 ∧ t.laneState l.val = .train ∧
        t.rd F.LN_TRAIN_STAT_LAST l.val = (if frames then 1 else 2) ∧ (t.lane l.val).attemptAt = s.now ∧
        s.OnlyAt t l.val [.LN_STAT, .LN_TRAIN_STAT] ∧ s.SameMemory t) ∧
    (∀ frames, s.laneState l.val = .train → s.elapsed (s.lane l.val).attemptAt 156250 = true → (s.lane l.val).retry = false →
      s.rd F.LN_TRAIN_STAT_ATTEMPTS l.val = 7 →
      ∃ t, exec (.trainAttemptEnd l frames) s = .next t ∧ t.laneState l.val = .preset ∧
        t.on F.LN_STICKY_TRAIN_FAIL l.val = true ∧
        (((s.lane l.val).timedOut || frames) = false → t.on F.LN_TRAIN_STAT_BACKOFF l.val = true ∧ t.rd F.LN_TRAIN_STAT_W_S l.val = 1) ∧
        s.OnlyAt t l.val [.LN_STAT, .LN_TRAIN_STAT, .LN_STICKY] ∧ s.SameMemory t) ∧
    (s.retryDue l.val = true →
      ∃ t, exec (.backoffRetry l) s = .next t ∧ t.laneState l.val = .train ∧ (t.lane l.val).retry = true ∧
        (t.lane l.val).attemptAt = s.now ∧ s.OnlyAt t l.val [.LN_STAT] ∧ s.SameMemory t) ∧
    (s.laneState l.val ≠ .off →
      ∃ t, exec (.txFault l) s = .next t ∧ (t.lane l.val).faultHold = true ∧ t.on F.LN_STICKY_TX_FAULT l.val = true ∧
        t.laneState l.val = s.laneState l.val ∧ s.OnlyAt t l.val [.LN_STICKY] ∧ s.SameMemory t)

/-- R135, R136, R138, R141 to R145, R147: the lane controls act on the lane that the writing master's own LN_CHSEL selects, and the master is
answered; what waits for the next boundary waits behind what was asked before. R141: a checker that runs finds sync after 256 error-free bits, with the polarity seen, and loses it at 32 errors in 256 bits. -/
def Obligations.LaneControlsAreTaken : Prop :=
  (∀ (m : Initiator) (s : State), s.Alone →
    (s.on F.LN_CFG_TRAIN_EN (s.laneSel m) = true → s.laneState (s.laneSel m) ≠ .off → s.laneState (s.laneSel m) ≠ .los →
      ∃ t, exec (.trainingRestart m) s = .next t ∧ t.atBoundary = s.atBoundary ++ [.laneTrain (s.laneSel m)] ∧
        t.rd F.LN_TRAIN_STAT_ATTEMPTS (s.laneSel m) = 0 ∧ t.rd F.LN_TRAIN_STAT_W_S (s.laneSel m) = 1 ∧
        t.on F.LN_TRAIN_STAT_BACKOFF (s.laneSel m) = false ∧ t.answer m.copy = .ok 0 ∧
        s.OnlyAt t (s.laneSel m) [.LN_TRAIN_STAT] ∧ s.SameMemory t) ∧
    (∀ on : Bool, ∃ t, exec (.backoffDisWrite m on) s = .next t ∧ t.on F.LN_TRAIN_CTRL_BACKOFF_DIS (s.laneSel m) = on ∧
      (t.lane (s.laneSel m)).waitFrom =
        (if !on && s.cfgOn F.LN_TRAIN_CTRL_BACKOFF_DIS (s.laneSel m) then s.now + 1 else (s.lane (s.laneSel m)).waitFrom) ∧ t.answer m.copy = .ok 0 ∧
      s.OnlyAt t (s.laneSel m) [.LN_TRAIN_CTRL] ∧ s.SameMemory t) ∧
    (∀ (mode : Fin 4) (sq : Bool), ∃ t, exec (.loopbackSet m mode sq) s = .next t ∧
      t.rd F.LN_LOOP_MODE (s.laneSel m) = mode.val ∧ t.on F.LN_LOOP_TX_SQ (s.laneSel m) = sq ∧
      t.atBoundary = s.atBoundary ++ [.loopOn (s.laneSel m) mode.val] ∧ t.answer m.copy = .ok 0 ∧
      s.OnlyAt t (s.laneSel m) [.LN_LOOP] ∧ s.SameMemory t) ∧
    (∃ t, exec (.loopbackRelease m) s = .next t ∧ t.rd F.LN_LOOP_MODE (s.laneSel m) = 0 ∧
      t.atBoundary = s.atBoundary ++ [.loopOff (s.laneSel m)] ∧ t.answer m.copy = .ok 0 ∧
      s.OnlyAt t (s.laneSel m) [.LN_LOOP] ∧ s.SameMemory t) ∧
    (∃ t, exec (.patChkClr m) s = .next t ∧ t.atBoundary = s.atBoundary ++ [.patClear (s.laneSel m)] ∧ t.answer m.copy = .ok 0 ∧
      t.regs = s.regs ∧ s.SameMemory t) ∧
    (∃ t, exec (.injectSingle m) s = .next t ∧ t.atBoundary = s.atBoundary ++ [.inject (s.laneSel m) 1] ∧ t.answer m.copy = .ok 0 ∧
      t.regs = s.regs ∧ s.SameMemory t) ∧
    (∀ blen : Fin 256, ∃ t, exec (.injectBurst m blen) s = .next t ∧
      t.atBoundary = s.atBoundary ++ [.inject (s.laneSel m) (blen.val + 1)] ∧ t.rd F.LN_INJ_BLEN (s.laneSel m) = blen.val ∧
      t.answer m.copy = .ok 0 ∧ s.OnlyAt t (s.laneSel m) [.LN_INJ] ∧ s.SameMemory t)) ∧
  (∀ (l : Fin 128) (s : State),
    (∀ bits inv, 256 ≤ bits → s.checking l.val = true → s.on F.LN_STAT_PAT_LOCK l.val = false →
      ∃ t, exec (.patSync l bits inv) s = .next t ∧ t.on F.LN_STAT_PAT_LOCK l.val = true ∧ t.on F.LN_STAT_PAT_INV l.val = inv ∧
        t.on F.LN_STICKY_PAT_SYNC l.val = true ∧ s.OnlyAt t l.val [.LN_STAT, .LN_STICKY] ∧ s.SameMemory t) ∧
    (∀ bits inv, bits < 256 → exec (.patSync l bits inv) s = .next s) ∧
    (∀ errors, 32 ≤ errors → s.on F.LN_STAT_PAT_LOCK l.val = true →
      ∃ t, exec (.patSyncLoss l errors) s = .next t ∧ t.on F.LN_STAT_PAT_LOCK l.val = false ∧
        t.on F.LN_STICKY_PAT_SYNC_LOSS l.val = true ∧ s.OnlyAt t l.val [.LN_STAT, .LN_STICKY] ∧ s.SameMemory t) ∧
    (∀ errors, errors < 32 → exec (.patSyncLoss l errors) s = .next s))

/-- R154, R168, R176: a condition that holds for a client fails it, with CSF sent from then on; a failed ODU fails alone; 3,125 ticks free of
every condition end the fail. -/
def Obligations.ClientSignalFailComesAndGoes : Prop :=
  ∀ (q : Fin 64) (c : Fin 2) (s : State), s.clientExists q.val c.val = true →
    (∀ cond : ClientCond, s.condHolds q.val c.val cond = true → (∀ u, cond ≠ .odu u) →
      ∃ t, exec (.clientSignalFail q c cond) s = .next t ∧ (t.client (clientNo q.val c.val)).fail = true ∧
        ((s.client (clientNo q.val c.val)).fail = false →
          t.on (slotField F.QY_STAT_CSF_TX c.val) q.val = true ∧ t.on (slotField F.QY_STICKY_CSF c.val) q.val = true) ∧
        (∀ k, k ≠ clientNo q.val c.val → t.client k = s.client k) ∧ s.OnlyAt t q.val [.QY_STAT, .QY_STICKY] ∧ s.SameMemory t) ∧
    (∀ u : Fin 4096, s.condHolds q.val c.val (.odu u) = true →
      ∃ t, exec (.clientSignalFail q c (.odu u)) s = .next t ∧ u.val ∈ (t.client (clientNo q.val c.val)).oduFail ∧
        (t.client (clientNo q.val c.val)).fail = (s.client (clientNo q.val c.val)).fail ∧
        s.OnlyAt t q.val [.QY_STICKY] ∧ s.SameMemory t) ∧
    (∀ ticks, 3125 ≤ ticks → (s.client (clientNo q.val c.val)).fail = true → s.clientLaneDown q.val c.val = false →
      ∃ t, exec (.clientSignalFailClear q c none ticks) s = .next t ∧ (t.client (clientNo q.val c.val)).fail = false ∧
        t.on (slotField F.QY_STAT_CSF_TX c.val) q.val = false ∧ (∀ k, k ≠ clientNo q.val c.val → t.client k = s.client k) ∧
        s.OnlyAt t q.val [.QY_STAT] ∧ s.SameMemory t) ∧
    (∀ (u : Fin 4096) ticks, 3125 ≤ ticks → ∃ t, exec (.clientSignalFailClear q c (some u) ticks) s = .next t ∧
      u.val ∉ (t.client (clientNo q.val c.val)).oduFail ∧ t.regs = s.regs ∧ s.SameMemory t)

/-- R158, R159: a frame enters an IDLE client's FIFO; above 6,144 blocks per gang quay a new frame is dropped whole, and one that would pass
8,192 is cut there, both counted. -/
def Obligations.IdleClientFramesFillTheFifo : Prop :=
  ∀ (q : Fin 64) (c : Fin 2) (blocks : Nat) (s : State), s.clientExists q.val c.val = true → s.clientMap q.val c.val = 2 →
    s.clientReplaces q.val c.val = false →
    ∃ t, exec (.clientFrameIngress q c blocks) s = .next t ∧
      (t.client (clientNo q.val c.val)).fill =
        (if 6144 * s.gangSize q.val < (s.client (clientNo q.val c.val)).fill then (s.client (clientNo q.val c.val)).fill
         else min ((s.client (clientNo q.val c.val)).fill + blocks) (8192 * s.gangSize q.val)) ∧
      (6144 * s.gangSize q.val < (s.client (clientNo q.val c.val)).fill →
        t.ctr ⟨.quay, 4, clientNo q.val c.val⟩ = (s.ctr ⟨.quay, 4, clientNo q.val c.val⟩ + 1) % 2 ^ 48 ∧
          t.on (slotField F.QY_STICKY_DROP c.val) q.val = true) ∧
      (∀ k, k ≠ clientNo q.val c.val → t.client k = s.client k) ∧ s.OnlyAt t q.val [.QY_STICKY] ∧ s.SameMemory t

/-- R170 to R175: in mode 1 an event message leaves with its correction field changed; in modes 2 and 3 one received is extracted, while the
buffer has room, and counted; a frame written to the insertion stream leaves at the next gap, oldest first. -/
def Obligations.PtpMessagesPassTheTimestampUnit : Prop :=
  ∀ (q : Fin 64) (c : Fin 2) (s : State), s.clientExists q.val c.val = true → isEthernet (s.clientType q.val c.val) = true →
    (∀ (egress : Bool) (f : List Byte) (x : Stamp) (p : PtpPlace), s.recognize q.val c.val f = some p → isEvent f p = true →
      s.cfg (slotField F.QY_TS_CTRL_MODE c.val) q.val = 1 →
      ∃ t body, exec (.ptpEventMessage q c egress f x) s = .next t ∧
        t.outbox = s.outbox ++ [.frame (clientNo q.val c.val) egress (withFcs body)] ∧ t.regs = s.regs ∧ t.packets = s.packets ∧
        s.SameMemory t) ∧
    (∀ (f : List Byte) (x : Stamp) (p : PtpPlace), s.recognize q.val c.val f = some p →
      2 ≤ s.cfg (slotField F.QY_TS_CTRL_MODE c.val) q.val → s.cfg (slotField F.QY_TS_CTRL_MODE c.val) q.val ≤ 3 →
      ((s.packetsOf q.val).extracted.map List.length).sum + 4 + (packWords f).length ≤ 1024 →
      ∃ t, exec (.ptpEventMessage q c false f x) s = .next t ∧
        (t.packetsOf q.val).extracted.length = (s.packetsOf q.val).extracted.length + 1 ∧
        t.ctr ⟨.quay, 7, clientNo q.val c.val⟩ = (s.ctr ⟨.quay, 7, clientNo q.val c.val⟩ + 1) % 2 ^ 48 ∧ t.outbox = s.outbox ∧
        t.regs = s.regs ∧ s.SameMemory t) ∧
    (∀ (f : InsFrame) (rest : List InsFrame) (x : Stamp), (s.packetsOf q.val).waiting = f :: rest → f.slot = c.val → f.tsReq = false →
      2 ≤ s.cfg (slotField F.QY_TS_CTRL_MODE c.val) q.val →
      ∃ t body, exec (.ptpFrameInsert q x) s = .next t ∧ (t.packetsOf q.val).waiting = rest ∧
        t.outbox = s.outbox ++ [.frame (clientNo q.val c.val) true (withFcs body)] ∧
        t.ctr ⟨.quay, 9, clientNo q.val c.val⟩ = (s.ctr ⟨.quay, 9, clientNo q.val c.val⟩ + 1) % 2 ^ 48 ∧ t.regs = s.regs ∧
        s.SameMemory t)

/-- R174, R175, R181: a word written to QY_IDATA opens a frame or continues the one being written, which waits once its last word is in;
QY_XDATA gives the next word of the extraction stream and takes it away, 0 while it is empty; QY_TSF0 gives 0 while no timestamp waits, and
otherwise takes the oldest and latches its words into the reading master's own QY_TSF1 to QY_TSF3. -/
def Obligations.PacketInterfaceWordsMove : Prop :=
  ∀ (m : Initiator) (s : State), s.Alone →
    (∀ v : Word, (s.packetsOf (s.quaySel m)).writing = none → 60 ≤ v.toNat % 2 ^ 14 → v.toNat % 2 ^ 14 ≤ 2044 →
      insUsed (s.packetsOf (s.quaySel m)) + 4 + 4 * wordsOf (v.toNat % 2 ^ 14) ≤ 4096 →
      ∃ t, exec (.qyIdataWrite m v) s = .next t ∧
        (t.packetsOf (s.quaySel m)).writing = some (⟨v.toNat / 2 ^ 31, v.getLsbD 30, v.getLsbD 29, v.toNat % 2 ^ 14, []⟩, false) ∧
        t.answer m.copy = .ok 0 ∧ t.regs = s.regs ∧ s.SameMemory t) ∧
    (∀ (v : Word) (f : InsFrame), (s.packetsOf (s.quaySel m)).writing = some (f, false) → wordsOf f.len = f.words.length + 1 →
      ∃ t, exec (.qyIdataWrite m v) s = .next t ∧ (t.packetsOf (s.quaySel m)).writing = none ∧
        (t.packetsOf (s.quaySel m)).waiting = (s.packetsOf (s.quaySel m)).waiting ++ [{ f with words := f.words ++ [v] }] ∧
        t.answer m.copy = .ok 0 ∧ t.regs = s.regs ∧ s.SameMemory t) ∧
    (∃ t, exec (.qyXdataRead m) s = .next t ∧ t.answer m.copy = .ok ((s.packetsOf (s.quaySel m)).next.getD 0) ∧
      t.packetsOf (s.quaySel m) = (s.packetsOf (s.quaySel m)).popWord ∧ t.regs = s.regs ∧ s.SameMemory t) ∧
    ((s.packetsOf (s.quaySel m)).stamps = [] →
      ∃ t, exec (.qyTsf0Read m) s = .next t ∧ t.answer m.copy = .ok 0 ∧ t.regs = s.regs ∧ t.packets = s.packets) ∧
    (∀ e rest, (s.packetsOf (s.quaySel m)).stamps = e :: rest →
      ∃ t, exec (.qyTsf0Read m) s = .next t ∧ (t.packetsOf (s.quaySel m)).stamps = rest ∧
        t.answer m.copy = .ok (BitVec.ofNat 32 (2 ^ 31 + e.slot * 2 ^ 30 + e.msgType * 2 ^ 26 + e.seqId)) ∧
        t.reg .QY_TSF1 m.copy = e.stamp.words.getD 0 0 &&& BitVec.ofNat 32 Reg.QY_TSF1.info.impl ∧
        s.OnlyAt t m.copy [.QY_TSF1, .QY_TSF2, .QY_TSF3] ∧ s.SameMemory t)

/-- R210 to R215, R229: with the runs that the receive unit has seen, OOF, LOF and LOM are raised and cleared, an FNO jump is followed, LOM of an
interop unit follows its multiframe alignment, and a confirmed candidate declares in-frame; a unit that does not exist (R310) is not touched. -/
def Obligations.FrameAlignmentFollowsItsRuns : Prop :=
  ∀ (u : RxUnit) (s : State), s.unitExists u.val = true →
    (s.native u.val = true → (s.lineFrame u.val).inFrame = true → 5 ≤ (s.lineFrame u.val).fasBad →
      ∃ t, exec (.oof u) s = .next t ∧ (t.lineFrame u.val).inFrame = false ∧ t.on F.LF_STAT_OOF u.val = true ∧
        t.on F.LF_STICKY_OOF (unitEngine u.val) = true ∧ s.OnlyRegs t [.LF_ALIGN, .LF_STAT, .LF_STICKY] ∧ s.SameMemory t) ∧
    (s.on F.LF_STAT_LOF u.val = false → 938 ≤ (s.lineFrame u.val).oofTicks →
      ∃ t, exec (.lof u) s = .next t ∧ t.on F.LF_STAT_LOF u.val = true ∧ t.on F.LF_STICKY_LOF (unitEngine u.val) = true ∧
        t.frames = s.frames ∧ s.OnlyRegs t [.LF_ALIGN, .LF_STAT, .LF_STICKY] ∧ s.SameMemory t) ∧
    (s.on F.LF_STAT_LOF u.val = true → 938 ≤ (s.lineFrame u.val).ifTicks →
      ∃ t, exec (.lof u) s = .next t ∧ t.on F.LF_STAT_LOF u.val = false ∧ t.frames = s.frames ∧
        s.OnlyRegs t [.LF_ALIGN, .LF_STAT] ∧ s.SameMemory t) ∧
    (s.interop u.val = false → s.on F.LF_STAT_LOM u.val = true → (s.lineFrame u.val).pairOk = true →
      ∃ t, exec (.lom u) s = .next t ∧ t.on F.LF_STAT_LOM u.val = false ∧ (t.lineFrame u.val).badRun = 0 ∧
        s.OnlyRegs t [.LF_ALIGN, .LF_STAT] ∧ s.SameMemory t) ∧
    (s.interop u.val = true → s.on F.LF_STAT_LOM u.val = true →
      ∃ t, exec (.lom u) s = .next t ∧ t.on F.LF_STAT_LOM u.val = false ∧ t.frames = s.frames ∧
        s.OnlyRegs t [.LF_ALIGN, .LF_STAT] ∧ s.SameMemory t) ∧
    (s.interop u.val = true → s.on F.LF_STAT_LOM u.val = false → (s.lineFrame u.val).inFrame = true →
      ∃ t, exec (.lom u) s = .next t ∧ t.on F.LF_STAT_LOM u.val = true ∧ t.on F.LF_STICKY_LOM (unitEngine u.val) = true ∧
        t.frames = s.frames ∧ s.OnlyRegs t [.LF_ALIGN, .LF_STAT, .LF_STICKY] ∧ s.SameMemory t) ∧
    (s.interop u.val = false → s.on F.LF_STAT_LOM u.val = false → 5 ≤ (s.lineFrame u.val).badRun → (s.lineFrame u.val).pairOff = false →
      ∃ t, exec (.lom u) s = .next t ∧ t.on F.LF_STAT_LOM u.val = true ∧ t.on F.LF_STICKY_LOM (unitEngine u.val) = true ∧
        t.frames = s.frames ∧ s.OnlyRegs t [.LF_ALIGN, .LF_STAT, .LF_STICKY] ∧ s.SameMemory t) ∧
    (∀ last, s.on F.LF_STAT_LOM u.val = false → (s.lineFrame u.val).pairOff = true → (s.lineFrame u.val).last = some last →
      s.lineGroup u.val = none →
      ∃ t, exec (.fnoJump u) s = .next t ∧ (t.lineFrame u.val).expect = last.1 + 1 ∧
        t.on F.LF_STICKY_FNO_JUMP (unitEngine u.val) = true ∧ s.OnlyRegs t [.LF_STICKY] ∧ s.SameMemory t) ∧
    (∀ pos, s.engineOn u.val = true → s.interop u.val = false → s.searches u.val = true → (s.lineFrame u.val).held = false →
      pos ∈ (s.lineFrame u.val).confirmed →
      ∃ t, exec (.inFrame u pos) s = .next t ∧ (t.lineFrame u.val).inFrame = true ∧ (t.lineFrame u.val).pos = pos ∧
        t.on F.LF_STAT_OOF u.val = false ∧ t.on F.LF_STAT_LOM u.val = true ∧ s.SameMemory t)

/-- R193, R197 to R206, R215, R219: a delivered frame is counted and its number expected; BDI, format, MID, LAPS, TAPS and TT content are
accepted after the runs that the rules give, and TT is loaded at tick 128 of a multiframe. -/
def Obligations.OverheadIsAcceptedAfterItsRuns : Prop :=
  ∀ (u : RxUnit) (s : State), s.unitExists u.val = true →
    (∀ (oh : Overhead) (sbip : Fin 17) (ucw : List Nat) (enc : EncArea), s.engineOn u.val = true → s.native u.val = true →
      s.rd F.LE_STAT_RX_STATE (unitEngine u.val) = 5 → (s.lineFrame u.val).held = true → s.lineGroup u.val = none →
      ∃ t, exec (.frameDelivered u oh sbip ucw enc) s = .next t ∧
        (t.lineFrame u.val).expect = (s.lineFrame u.val).expect + 1 ∧
        t.ctr ⟨.lf, 9, s.governor u.val⟩ =
          (s.ctr ⟨.lf, 9, s.governor u.val⟩ + (if ucw.contains 0 then 0 else sbip.val)) % 2 ^ 48 ∧ s.SameMemory t) ∧
    (3 ≤ (s.lineFrame u.val).bdi.count →
      ∃ t, exec (.bdiRx u) s = .next t ∧ t.on F.LF_STAT_BDI_RX u.val = ((s.lineFrame u.val).bdi.value == 1) ∧
        s.OnlyRegs t [.LF_STAT, .LF_STICKY] ∧ s.SameMemory t) ∧
    (3 ≤ (s.lineFrame u.val).fmtBad →
      ∃ t, exec (.fmtMis u) s = .next t ∧ t.on F.LF_STAT_FMT_MIS u.val = true ∧ s.OnlyRegs t [.LF_STAT, .LF_STICKY] ∧
        s.SameMemory t) ∧
    (s.cfg F.LF_MID_EXP_MID (unitEngine u.val) ≠ 0 → s.sectionSsf u.val = false → 16 ≤ (s.lineFrame u.val).midBad →
      ∃ t, exec (.midMis u) s = .next t ∧ t.on F.LF_STAT_MID_MIS u.val = true ∧ s.OnlyRegs t [.LF_STAT, .LF_STICKY] ∧
        s.SameMemory t) ∧
    (3 ≤ (s.lineFrame u.val).laps.count → s.lineGroup u.val = none →
      ∃ t, exec (.lapsAccept u) s = .next t ∧ (t.lineFrame u.val).lapsAcc = (s.lineFrame u.val).laps.value ∧ t.regs = s.regs ∧
        s.SameMemory t) ∧
    (∀ ch : Fin 2048, 3 ≤ (s.tapsRun (2048 * u.val + ch.val)).count → s.groupDefined ch.val = false →
      ∃ t, exec (.tapsAccept u ch) s = .next t ∧
        t.tapsAcc (2048 * u.val + ch.val) = (s.tapsRun (2048 * u.val + ch.val)).value ∧ t.regs = s.regs ∧ s.SameMemory t) ∧
    (3 ≤ (s.lineFrame u.val).ttRun →
      ∃ t, exec (.ttAccept u) s = .next t ∧ (t.lineFrame u.val).ttAcc = (s.lineFrame u.val).ttRx ∧ s.SameMemory t) ∧
    (∀ dep arr, s.tick.toNat % 256 = 128 → s.engineOn u.val = true → s.native u.val = true →
      ∃ t, exec (.ttLoad u dep arr) s = .next t ∧ (t.lineFrame u.val).ttTx.dep = dep ∧
        (t.lineFrame u.val).ttTx.seq = (s.tick - 128).toNat / 256 % 65536 ∧ t.regs = s.regs ∧ s.SameMemory t)

/-- R208, R209: a good GCC frame that fits is stored, and one that does not is dropped with GCC_DROP; a frame written word by word waits for
the transmitter; a read takes the next word, 0 while there is none. -/
def Obligations.GccFramesPassTheBuffers : Prop :=
  ∀ (e : Fin 8) (ch : Fin 2) (s : State),
    (∀ octets, s.sectionSsf (s.gccUnit e.val) = false → s.unitExists (s.gccUnit e.val) = true → s.gccExists e.val ch.val = true →
      octets.length ≤ 2048 → gccRxUsed (s.gcc (2 * e.val + ch.val)) + 4 * (1 + (packWords octets).length) ≤ 16384 →
      ∃ t, exec (.gccFrameReceive e ch octets .good) s = .next t ∧
        (t.gcc (2 * e.val + ch.val)).rx =
          (s.gcc (2 * e.val + ch.val)).rx ++ [BitVec.ofNat 32 octets.length :: packWords octets] ∧ t.regs = s.regs ∧ s.SameMemory t) ∧
    (∀ octets how, s.sectionSsf (s.gccUnit e.val) = false → s.unitExists (s.gccUnit e.val) = true → s.gccExists e.val ch.val = true →
      how ≠ .good →
      ∃ t, exec (.gccFrameReceive e ch octets how) s = .next t ∧ t.gccs = s.gccs ∧
        t.on F.LF_STICKY_GCC_DROP (unitEngine e.val) = true ∧ s.SameMemory t) ∧
    (∀ (m : Initiator) (v : Word) (w : GccWriting), s.Alone → s.engineExists e.val = true → s.engineSel m = e.val →
      (s.gcc (2 * e.val + ch.val)).writing = some w → w.bad = false → wordsOf w.len = w.words.length + 1 →
      ∃ t, exec (.lfGccTxdWrite m ch v) s = .next t ∧ (t.gcc (2 * e.val + ch.val)).writing = none ∧
        (t.gcc (2 * e.val + ch.val)).tx = (s.gcc (2 * e.val + ch.val)).tx ++ [(unpackWords (w.words ++ [v])).take w.len] ∧
        t.answer m.copy = .ok 0 ∧ t.regs = s.regs ∧ s.SameMemory t) ∧
    (∀ m : Initiator, s.Alone → s.engineExists e.val = true → s.engineSel m = e.val →
      ∃ t, exec (.lfGccRxdRead m ch) s = .next t ∧ t.answer m.copy = .ok ((s.gcc (2 * e.val + ch.val)).next.getD 0) ∧
        t.gcc (2 * e.val + ch.val) = (s.gcc (2 * e.val + ch.val)).popWord ∧ t.regs = s.regs ∧ s.SameMemory t)

/-- R221 to R224: a second ends once at each boundary whose TICK_NO is a multiple of 312,500, and at no other; told again at the same
boundary, nothing changes. -/
def Obligations.SecondsEndOnce : Prop :=
  ∀ s : State,
    (s.tick.toNat % 312500 = 0 → s.secondAt ≠ some s.now →
      ∃ t, exec .secondEnd s = .next t ∧ t.secondAt = some s.now ∧ t.tick = s.tick ∧ t.now = s.now ∧ exec .secondEnd t = .next t ∧
        t.regs = s.regs ∧ t.mem = s.mem ∧ (s.pmOn = false → s.SameMemory t)) ∧
    (s.tick.toNat % 312500 ≠ 0 → exec .secondEnd s = .next s)

/-- R290 to R293, R299, R305: the key commands act on the context of the writing master's own SEC_KSEL: a load starts with the master's blob,
whose registers clear; an intact key lands in a phase that is not in use; a change waits for its block boundary; a phase that is not in use
is emptied, and one in use is not; ZEROIZE_ALL empties both phases of every context of a direction. R525: user mode reaches no key command: the error response with cause PRIV, no key and no context changed. -/
def Obligations.KeyCommandsActOnTheSelectedContext : Prop :=
  (∀ (m : Initiator) (s : State), m.isUser = false → s.Alone →
    (∀ phase : Fin 2, s.contextExists m = true → s.ctxDefined (s.contextSel m) = true → s.keyJob m.copy = none →
      ∃ t, exec (.keyLoad m phase) s = .next t ∧ t.keyJob m.copy = some ⟨s.contextSel m, phase.val, s.blobOf m.copy⟩ ∧
        t.rd F.SEC_KRES_BUSY m.copy = 1 ∧ t.rd F.SEC_KRES_RESULT m.copy = 0 ∧ (∀ k, k < 10 → t.reg .SEC_KWRAP (m.copy * 10 + k) = 0) ∧
        t.enc = s.enc ∧ t.answer m.copy = .ok 0 ∧ s.OnlyRegs t [.SEC_KWRAP, .SEC_KRES] ∧ s.SameMemory t) ∧
    (∀ j : KeyJob, s.keyJob m.copy = some j → s.on F.SEC_DK_STAT_DK_VALID 0 = true → s.phaseInUse j.ctx j.phase = false →
      ∃ t, exec (.keyUnwrapDone m true) s = .next t ∧ (t.encCtx j.ctx).key j.phase = some j.blob ∧ t.keyJob m.copy = none ∧
        t.rd F.SEC_KRES_RESULT m.copy = 1 ∧ t.rd F.SEC_KRES_BUSY m.copy = 0 ∧ (∀ k, k ≠ j.ctx → t.encCtx k = s.encCtx k) ∧
        s.OnlyRegs t [.SEC_CTX_STAT, .SEC_KRES] ∧ s.SameMemory t) ∧
    (∀ (target : Fin 4) (b : Tick), b = tickOf (s.rd F.SEC_KAT_LO_AT_LO m.copy) (s.rd F.SEC_KAT_HI_AT_HI m.copy) →
      s.contextExists m = true → s.ctxDefined (s.contextSel m) = true → ctxReceives (s.contextSel m) = false → target.val ≠ 1 →
      b.toNat % 64 = 0 → s.leadMet b 66 = true → (s.encCtx (s.contextSel m)).change = none →
      (∀ p, phaseOf target.val = some p → (s.encCtx (s.contextSel m)).key p ≠ none) →
      target.val ≠ s.rd F.SEC_CTX_STAT_STATE (s.contextSel m) →
      ∃ t, exec (.keyChange m target) s = .next t ∧ (t.encCtx (s.contextSel m)).change = some (target.val, b) ∧
        t.on F.SEC_CTX_STAT_PENDING (s.contextSel m) = true ∧ t.rd F.SEC_KRES_RESULT m.copy = 1 ∧
        s.OnlyRegs t [.SEC_CTX_STAT, .SEC_KRES] ∧ s.SameMemory t) ∧
    (∀ phase : Fin 2, s.contextExists m = true → s.ctxDefined (s.contextSel m) = true →
      (s.phaseInUse (s.contextSel m) phase.val = false →
        ∃ t, exec (.zeroize m phase) s = .next t ∧ (t.encCtx (s.contextSel m)).key phase.val = none ∧
          t.rd F.SEC_KRES_RESULT m.copy = 1 ∧ s.OnlyRegs t [.SEC_CTX_STAT, .SEC_KRES] ∧ s.SameMemory t) ∧
      (s.phaseInUse (s.contextSel m) phase.val = true →
        ∃ t, exec (.zeroize m phase) s = .next t ∧ t.enc = s.enc ∧ t.rd F.SEC_KRES_RESULT m.copy = 5)) ∧
    (s.engineExists (s.rd F.SEC_KSEL_ENGINE m.copy) = true →
      (∃ t, exec (.zeroizeAll m) s = .next t ∧ t.rd F.SEC_KRES_RESULT m.copy = 1 ∧
        (∀ i, i ∈ s.contextsOf (s.rd F.SEC_KSEL_ENGINE m.copy) (s.rd F.SEC_KSEL_DIR m.copy == 1) →
          (t.encCtx i).key0 = none ∧ (t.encCtx i).key1 = none) ∧ s.SameMemory t) ∧
      (∃ t, exec (.clrLatch m) s = .next t ∧ t.atBoundary = s.atBoundary ++ [.clrLatch (s.rd F.SEC_KSEL_ENGINE m.copy)] ∧
        t.regs = s.regs ∧ s.SameMemory t))) ∧
  (∀ (m : Initiator) (phase : Fin 2) (target : Fin 4) (s : State), m.isUser = true →
    (∃ t, exec (.keyLoad m phase) s = .next t ∧ t.answer m.copy = .error .priv ∧ t.enc = s.enc ∧ t.keyJobs = s.keyJobs) ∧
    (∃ t, exec (.keyChange m target) s = .next t ∧ t.answer m.copy = .error .priv ∧ t.enc = s.enc) ∧
    (∃ t, exec (.zeroize m phase) s = .next t ∧ t.answer m.copy = .error .priv ∧ t.enc = s.enc) ∧
    (∃ t, exec (.zeroizeAll m) s = .next t ∧ t.answer m.copy = .error .priv ∧ t.enc = s.enc) ∧
    (∃ t, exec (.clrLatch m) s = .next t ∧ t.answer m.copy = .error .priv ∧ t.atBoundary = s.atBoundary))

/-- R287, R294, R299: a change due at a block boundary applies to its transmit context there, and off a block boundary nothing happens; a
window that has passed ends, unless it is latched. -/
def Obligations.EncryptionActsAtBlockBoundaries : Prop :=
  (∀ (e : Fin 8) (i target : Nat) (s : State), s.engineExists e.val = true → s.native e.val = true → s.tick.toNat % 64 = 0 →
    (s.contextsOf e.val false).Nodup → i ∈ s.contextsOf e.val false → (s.encCtx i).change = some (target, s.tick) →
    ∃ t, exec (.encBlockBoundary e false) s = .next t ∧ t.rd F.SEC_CTX_STAT_STATE i = target % 4 ∧ (t.encCtx i).change = none ∧
      t.on F.SEC_CTX_STAT_PENDING i = false ∧ s.SameMemory t) ∧
  (∀ (e : Fin 8) (s : State), s.tick.toNat % 64 ≠ 0 → exec (.encBlockBoundary e false) s = .next s) ∧
  (∀ (e : Fin 8) (c : Fin 1280) (w : Tick) (s : State), (s.encCtx (ctxIndex e.val true c.val)).window = some w →
    (s.encCtx (ctxIndex e.val true c.val)).latched = false → 0 < ahead (s.lineFrame e.val).expect w →
    ahead (s.lineFrame e.val).expect w ≤ 2 ^ 47 →
    ∃ t, exec (.aisWindowEnd e c) s = .next t ∧ (t.encCtx (ctxIndex e.val true c.val)).window = none ∧
      t.on F.SEC_CTX_STAT_AIS (ctxIndex e.val true c.val) = (s.encCtx (ctxIndex e.val true c.val)).blockAis ∧
      s.OnlyAt t (ctxIndex e.val true c.val) [.SEC_CTX_STAT] ∧ s.SameMemory t)

/-- R245, R247, R251, R252, R257, R267, R268: outside a mate pair the controls of the engine that the writing master's own LE_SEL selects
are taken: the field as written, and nothing else; TX_EN written 1 after 0 ends a driver fault; an acquisition restart waits for the
boundary; SPI GO sends the shift register with LEN rounded into 8 to 64, and while BUSY only reports. -/
def Obligations.EngineControlsAreTaken : Prop :=
  ∀ (m : Initiator) (e : Nat) (s : State), s.Alone → e = s.engineSel m → s.engineExists e = true →
    (∀ p : Fin 4, ∃ t, exec (.lePstateWrite m p) s = .next t ∧ t.rd F.LE_CTRL_PSTATE e = p.val ∧
      t.rd F.LE_CTRL_TX_EN e = s.rd F.LE_CTRL_TX_EN e ∧ t.engines = s.engines ∧ t.answer m.copy = .ok 0 ∧
      s.OnlyAt t e [.LE_CTRL] ∧ s.SameMemory t) ∧
    (∀ on : Bool, ∃ t, exec (.txEnWrite m on) s = .next t ∧ t.on F.LE_CTRL_TX_EN e = on ∧
      t.rd F.LE_CTRL_PSTATE e = s.rd F.LE_CTRL_PSTATE e ∧
      (t.engine e).driverFault = ((s.engine e).driverFault && !(on && (s.engine e).driverAck)) ∧
      ((s.engine e).driverFault = true → on = false → (t.engine e).driverAck = true) ∧
      (∀ i, i ≠ e → t.engine i = s.engine i) ∧ t.answer m.copy = .ok 0 ∧ s.OnlyAt t e [.LE_CTRL] ∧ s.SameMemory t) ∧
    (∀ on : Bool, ∃ t, exec (.laserEnWrite m on) s = .next t ∧ t.on F.LE_CTRL_LASER_EN e = on ∧ t.engines = s.engines ∧
      t.rd F.LE_CTRL_TX_EN e = s.rd F.LE_CTRL_TX_EN e ∧ t.answer m.copy = .ok 0 ∧ s.OnlyAt t e [.LE_CTRL] ∧ s.SameMemory t) ∧
    (∀ v : Word, ∃ t, exec (.leDrvWrite m v) s = .next t ∧ t.rd F.LE_DRV_ATTEN e = F.LE_DRV_ATTEN.get v ∧ t.engines = s.engines ∧
      t.answer m.copy = .ok 0 ∧ s.OnlyAt t e [.LE_DRV] ∧ s.SameMemory t) ∧
    (∃ t, exec (.acqRestart m) s = .next t ∧ t.atBoundary = s.atBoundary ++ [.acqRestart e] ∧ t.regs = s.regs ∧
      t.engines = s.engines ∧ t.answer m.copy = .ok 0 ∧ s.SameMemory t) ∧
    (∀ v : Word, s.on F.LE_SPI_CTRL_BUSY e = false →
      ∃ t, exec (.spiGo m v) s = .next t ∧ t.on F.LE_SPI_CTRL_BUSY e = true ∧
        t.rd F.LE_SPI_CTRL_LEN e = F.LE_SPI_CTRL_LEN.get v ∧
        t.outbox = s.outbox ++ [.optics e (F.LE_SPI_CTRL_CS.get v) (spiLen (F.LE_SPI_CTRL_LEN.get v)) (s.spiData e)] ∧
        t.answer m.copy = .ok 0 ∧ s.OnlyAt t e [.LE_SPI_CTRL] ∧ s.SameMemory t) ∧
    (∀ v : Word, s.on F.LE_SPI_CTRL_BUSY e = true →
      ∃ t, exec (.spiGo m v) s = .next t ∧ t.on F.LE_STICKY_SPI_ERR e = true ∧ s.OnlyAt t e [.LE_STICKY] ∧ s.SameMemory t)

/-- R245, R246, R248, R251, R252, R267: a power state asked for is reached, ON with the transmitter READY and the receiver in LOS; a ramp
that is due ends at its goal; a driver fault turns the drivers and RMP_OUT off and holds; a transmit converter fault is one, a receive
converter fault is LOS; an ended transfer of the optics interface keeps the low bits and takes the received ones. R255 to R258, R264: the receive side moves through LOS, FREQ, CD, EQ and LOCKED under the runs of ticks and times of the tables, and a
pair's deskew is lost and regained by its skew. -/
def Obligations.EnginesChangePowerRampAndAcquire : Prop :=
  (∀ (e : Fin 8) (s : State),
    (s.engineExists e.val = true → s.rd F.LE_STAT_PSTATE e.val < s.powerWanted e.val →
      ∃ t, exec (.powerStateReached e) s = .next t ∧ t.rd F.LE_STAT_PSTATE e.val = s.powerWanted e.val ∧
        (s.powerWanted e.val = 2 → t.txState e.val = 1 ∧ t.rxState e.val = 1 ∧ (t.engine e.val).fresh = true) ∧
        (s.powerWanted e.val = 1 → t.txState e.val = 0 ∧ t.rxState e.val = 0) ∧
        (∀ i, i ≠ e.val → t.engine i = s.engine i) ∧ s.OnlyRegs t [.LE_STAT, .LE_EQ_STAT, .LF_STAT, .LF_ALIGN] ∧
        s.SameMemory t) ∧
    (s.powerWanted e.val ≤ s.rd F.LE_STAT_PSTATE e.val → exec (.powerStateReached e) s = .next s) ∧
    (∀ r : Ramp, (s.engine e.val).ramp = some r → (s.engine e.val).laserRamp = none → (s.engine e.val).swingRamp = none →
      s.rampDue r = true → r.l1 ≤ 4095 →
      ∃ t, exec (.rampDone e) s = .next t ∧ (t.engine e.val).ramp = none ∧ t.txState e.val = (if r.l1 = 4095 then 3 else 1) ∧
        t.rd F.LE_STAT_LEVEL e.val = r.l1 ∧ t.on F.LE_STICKY_RAMP_DONE e.val = true ∧ (∀ i, i ≠ e.val → t.engine i = s.engine i) ∧
        s.OnlyAt t e.val [.LE_STAT, .LE_STICKY] ∧ s.SameMemory t) ∧
    (∀ r : Ramp, (s.engine e.val).ramp = none → (s.engine e.val).laserRamp = some r → (s.engine e.val).swingRamp = none →
      s.rampDue r = true →
      ∃ t, exec (.rampDone e) s = .next t ∧ (t.engine e.val).laserRamp = none ∧ (t.engine e.val).laser = r.l1 ∧
        t.on F.LE_STICKY_RAMP_DONE e.val = true ∧ s.OnlyAt t e.val [.LE_STICKY] ∧ s.SameMemory t) ∧
    (s.engineOn e.val = true →
      ∃ t, exec (.drvFault e) s = .next t ∧ (t.engine e.val).driverFault = true ∧ (t.engine e.val).ramp = none ∧
        t.txState e.val = 1 ∧ t.rmpOut e.val = 0 ∧ t.on F.LE_STICKY_DRV_FAULT e.val = true ∧
        t.on F.LE_STAT_FAULT_HOLD e.val = true ∧ s.OnlyRegs t [.LE_STAT, .LE_STICKY] ∧ s.SameMemory t) ∧
    (s.rd F.LE_STAT_PSTATE e.val ≠ 0 → 2 ≤ s.rxState e.val →
      ∃ t, exec (.convFault e true) s = .next t ∧ t.rxState e.val = 1 ∧ t.on F.LE_STICKY_CONV_FAULT e.val = true ∧
        t.on F.LE_STICKY_LOS e.val = true ∧ s.OnlyRegs t [.LE_STAT, .LE_STICKY, .LE_EQ_STAT, .LF_STAT, .LF_ALIGN] ∧ s.SameMemory t) ∧
    (s.engineOn e.val = true →
      ∃ t, exec (.convFault e false) s = .next t ∧ (t.engine e.val).driverFault = true ∧ t.txState e.val = 1 ∧
        t.on F.LE_STICKY_CONV_FAULT e.val = true ∧ t.on F.LE_STICKY_DRV_FAULT e.val = true ∧
        s.OnlyRegs t [.LE_STAT, .LE_STICKY] ∧ s.SameMemory t) ∧
    (∀ received : BitVec 64, s.on F.LE_SPI_CTRL_BUSY e.val = true →
      ∃ t, exec (.spiDone e received) s = .next t ∧ t.on F.LE_SPI_CTRL_BUSY e.val = false ∧
        t.on F.LE_STICKY_SPI_DONE e.val = true ∧
        (s.rd F.LE_SPI_CTRL_LEN e.val = 64 → t.spiData e.val = received) ∧
        (s.rd F.LE_SPI_CTRL_LEN e.val = 8 → (t.spiData e.val).toNat = received.toNat / 2 ^ 56 * 2 ^ 56 + (s.spiData e.val).toNat % 2 ^ 56) ∧
        s.OnlyAt t e.val [.LE_SPI_D0, .LE_SPI_D1, .LE_SPI_CTRL, .LE_STICKY] ∧ s.SameMemory t)) ∧
  (∀ (e : Fin 8) (s : State),
    (∀ ticks, 8 ≤ ticks → 2 ≤ s.rxState e.val →
      ∃ t, exec (.engineLos e ticks) s = .next t ∧ t.rxState e.val = 1 ∧ t.on F.LE_STICKY_LOS e.val = true ∧
        (t.engine e.val).losAt = s.now ∧ t.on F.LE_EQ_STAT_CLK_LOCK e.val = false ∧
        s.OnlyRegs t [.LE_STAT, .LE_STICKY, .LE_EQ_STAT, .LF_STAT, .LF_ALIGN] ∧ s.SameMemory t) ∧
    (∀ ticks, ticks < 8 → exec (.engineLos e ticks) s = .next s) ∧
    (∀ ticks, 32 ≤ ticks → s.rxState e.val = 1 →
      ∃ t, exec (.engineSigOk e ticks) s = .next t ∧
        t.rxState e.val = (if (s.engine e.val).wasLocked = true ∧ s.now < (s.engine e.val).losAt + 312500 ∧
          s.cfgOn F.LE_CTRL_FAST_DIS e.val = false then 4 else 2) ∧
        t.on F.LE_STICKY_SIG_OK e.val = true ∧ (t.engine e.val).acqSince = s.now ∧
        s.OnlyRegs t [.LE_STAT, .LE_STICKY, .LF_STAT] ∧ s.SameMemory t) ∧
    (∀ fofs : Int, s.rxState e.val = 2 →
      ∃ t, exec (.freqLock e fofs) s = .next t ∧ t.rxState e.val = 3 ∧ t.rd F.LE_FOFS_FOFS e.val = unsigned 16 fofs ∧
        (t.engine e.val).hint = (s.cfgOn F.LE_ACQ_HINT_EN e.val && !(s.engine e.val).fullCd) ∧
        s.OnlyRegs t [.LE_STAT, .LE_FOFS, .LF_STAT] ∧ s.SameMemory t) ∧
    (∀ cd : Int, s.rxState e.val = 3 →
      ∃ t, exec (.cdLock e cd) s = .next t ∧ t.rxState e.val = 4 ∧
        t.rd F.LE_CD_CD e.val = unsigned 32 (clampInt (-160000) 160000 cd) ∧ s.OnlyRegs t [.LE_STAT, .LE_CD, .LF_STAT] ∧
        s.SameMemory t) ∧
    (s.rxState e.val = 3 → (s.engine e.val).hint = true →
      ∃ t, exec (.cdHintMiss e) s = .next t ∧ (t.engine e.val).hint = false ∧ t.rxState e.val = 3 ∧ t.regs = s.regs ∧
        s.SameMemory t) ∧
    (s.rxState e.val = 4 →
      ∃ t, exec (.lock e) s = .next t ∧ t.rxState e.val = 5 ∧ t.on F.LE_EQ_STAT_FAST e.val = (s.engine e.val).fast ∧
        t.rd F.LE_EQ_STAT_ACQ_CNT e.val = (s.rd F.LE_EQ_STAT_ACQ_CNT e.val + 1) % 256 ∧ t.on F.LE_EQ_STAT_CLK_LOCK e.val = true ∧
        t.on F.LE_STICKY_LOCK e.val = true ∧ s.OnlyRegs t [.LE_STAT, .LE_STICKY, .LE_EQ_STAT, .LF_STAT] ∧ s.SameMemory t) ∧
    (2 ≤ s.rxState e.val → s.rxState e.val ≤ 4 → (s.engine e.val).acqSince + 78125 ≤ s.now →
      ∃ t, exec (.acqFail e) s = .next t ∧ t.rxState e.val = 2 ∧ (t.engine e.val).fullCd = true ∧
        t.on F.LE_STICKY_ACQ_FAIL e.val = true ∧ s.OnlyRegs t [.LE_STAT, .LE_STICKY, .LE_EQ_STAT, .LF_STAT] ∧ s.SameMemory t) ∧
    (s.now < (s.engine e.val).acqSince + 78125 → exec (.acqFail e) s = .next s) ∧
    (∀ ticks, 3 ≤ ticks → s.rxState e.val = 5 →
      ∃ t, exec (.engineLol e ticks) s = .next t ∧ t.rxState e.val = (if s.cfgOn F.LE_CTRL_FAST_DIS e.val = true then 2 else 4) ∧
        t.rd F.LE_EQ_STAT_LOL_CNT e.val = (s.rd F.LE_EQ_STAT_LOL_CNT e.val + 1) % 256 ∧ t.on F.LE_STICKY_LOL e.val = true ∧
        s.OnlyRegs t [.LE_STAT, .LE_STICKY, .LE_EQ_STAT, .LF_STAT, .LF_ALIGN] ∧ s.SameMemory t) ∧
    (s.rxState e.val = 4 → (s.engine e.val).fast = true → (s.engine e.val).since + 1562 ≤ s.now →
      ∃ t, exec (.fastReacqTimeout e) s = .next t ∧ t.rxState e.val = 2 ∧ (t.engine e.val).fast = false ∧
        s.OnlyRegs t [.LE_STAT, .LE_EQ_STAT, .LF_STAT] ∧ s.SameMemory t) ∧
    (∀ (d : Fin 4) (skew : Int) (frames : Nat), s.paired (2 * d.val) = true → s.on F.LF_STAT_OOF (2 * d.val) = false →
      s.on F.LF_STAT_OOF (2 * d.val + 1) = false → 3 ≤ frames →
      (20000 < skew.natAbs →
        ∃ t, exec (.deskewLoss d skew frames) s = .next t ∧ t.on F.LE_STAT_DESKEW_OK (2 * d.val) = false ∧
          t.ssf (2 * d.val) = true ∧ t.on F.LE_STICKY_DESKEW_LOSS (2 * d.val) = true ∧
          t.rd F.LE_PAIR_SKEW (2 * d.val) = unsigned 16 skew ∧
          s.OnlyRegs t [.LE_PAIR, .LE_STAT, .LF_STAT, .LE_STICKY] ∧ s.SameMemory t) ∧
      (skew.natAbs ≤ 20000 → exec (.deskewLoss d skew frames) s = .next s) ∧
      (skew.natAbs ≤ 19000 →
        ∃ t, exec (.deskewRegained d skew frames) s = .next t ∧ t.on F.LE_STAT_DESKEW_OK (2 * d.val) = true ∧
          t.rd F.LE_PAIR_SKEW (2 * d.val) = unsigned 16 skew ∧ s.OnlyRegs t [.LE_PAIR, .LE_STAT, .LF_STAT] ∧ s.SameMemory t) ∧
      (19000 < skew.natAbs → exec (.deskewRegained d skew frames) s = .next s)))

/-- R13 to R15, R39, R525: a transfer that arrives ends the run of bad ticks, one that is lost is counted and its berths carry AIS; 16 bad
ticks take a link down with both engines of its die held, 1,024 more retrain it, 312,500 good ones restore it; a freeze is taken from
every master but user mode; a link to a line die that this variant lacks has none of this. R38, R41, R535: an update of a rail comes 1,024 boundaries after the last at the earliest, moves the setpoint by at most 5 mV within the
range of the rail, upward even while frozen, downward not; a failed monitor sets the upper limit and raises AVS_FAIL. -/
def Obligations.LinksFreezesAndVoltageLoopsAct : Prop :=
  (∀ (d : Fin 4) (s : State),
    (s.linkExists d.val = true →
      (∃ t, exec (.d2dTransfer d .correct) s = .next t ∧ (t.link d.val).seen = some true ∧
        (t.link d.val).corrected = (s.link d.val).corrected ∧ (∀ c, c ≠ d.val → t.link c = s.link c) ∧ t.regs = s.regs ∧
        s.SameMemory t) ∧
      (∀ n, ∃ t, exec (.d2dTransfer d (.repeated n)) s = .next t ∧ (t.link d.val).seen = some true ∧
        (t.link d.val).corrected = (s.link d.val).corrected + (if n = 0 then 0 else 1) ∧ t.regs = s.regs ∧ s.SameMemory t) ∧
      (∀ ports cws, ∃ t, exec (.d2dTransfer d (.lost ports cws)) s = .next t ∧
        (t.link d.val).uncorrected = (s.link d.val).uncorrected + 1 ∧ (∀ p, p ∈ ports → (t.store p.val).aisCrate = true) ∧
        t.lostTransfers = s.lostTransfers ++ cws ∧ t.on F.SY_STICKY_D2D_UNCORR 0 = true ∧ s.OnlyAt t 0 [.SY_STICKY] ∧
        s.SameMemory t)) ∧
    (s.linkExists d.val = false → ∀ how, exec (.d2dTransfer d how) s = .next s) ∧
    (s.linkExists d.val = true → (s.link d.val).down = false → 16 ≤ (s.link d.val).badTicks →
      ∃ t, exec (.d2dDown d) s = .next t ∧ (t.link d.val).down = true ∧ (t.engine (2 * d.val)).d2dFault = true ∧
        (t.engine (2 * d.val + 1)).d2dFault = true ∧ t.on F.SY_STICKY_D2D_DOWN 0 = true ∧
        s.OnlyRegs t [.LE_STAT, .LE_STICKY, .SY_STICKY] ∧ s.SameMemory t) ∧
    ((s.link d.val).badTicks < 16 → exec (.d2dDown d) s = .next s) ∧
    ((s.link d.val).down = true → (s.link d.val).retrainedAt + 1024 ≤ s.now →
      ∃ t, exec (.d2dRetrain d) s = .next t ∧ (t.link d.val).retrainedAt = s.now ∧
        (t.link d.val).retrains = (s.link d.val).retrains + 1 ∧ (t.link d.val).down = true ∧ t.regs = s.regs ∧ s.SameMemory t) ∧
    ((s.link d.val).down = true → 312500 ≤ (s.link d.val).goodTicks →
      ∃ t, exec (.d2dRestore d) s = .next t ∧ (t.link d.val).down = false ∧ (t.engine (2 * d.val)).d2dFault = false ∧
        (t.engine (2 * d.val + 1)).d2dFault = false ∧ (s.engineOn (2 * d.val) = true → t.rxState (2 * d.val) = 1) ∧
        s.OnlyRegs t [.LE_STAT, .LE_STICKY, .LE_EQ_STAT, .LF_STAT, .LF_ALIGN] ∧ s.SameMemory t) ∧
    (∀ (m : Initiator) (v : Word),
      (m.isUser = false → ∃ t, exec (.loopFreezeWrite m v) s = .next t ∧
        (t.reg .SY_LOOP_FREEZE 0).toNat = v.toNat % 256 ∧ t.reg .SY_LOOP_STAT 0 = s.reg .SY_LOOP_STAT 0 ∧ t.answer m.copy = .ok 0 ∧
        s.OnlyAt t 0 [.SY_LOOP_FREEZE] ∧ s.SameMemory t) ∧
      (m.isUser = true → ∃ t, exec (.loopFreezeWrite m v) s = .next t ∧ t.reg .SY_LOOP_FREEZE 0 = s.reg .SY_LOOP_FREEZE 0 ∧
        t.answer m.copy = .error .priv))) ∧
  (∀ (r : Rail) (v : AvsReading) (s : State),
    (s.now < (s.avs r).updatedAt + 1024 → exec (.avsUpdate r v) s = .next s) ∧
    ((s.avs r).updatedAt + 1024 ≤ s.now → r.range.1 ≤ (s.avs r).setpoint → (s.avs r).setpoint ≤ r.range.2 →
      ∃ t, exec (.avsUpdate r v) s = .next t ∧ r.range.1 ≤ (t.avs r).setpoint ∧ (t.avs r).setpoint ≤ r.range.2 ∧
        (v.monitorOk = false → (t.avs r).setpoint = r.range.2 ∧ t.on F.SY_STICKY_AVS_FAIL 0 = true) ∧
        (∀ mv, v.monitorOk = true → v.belowLimit = true → v.readback = some mv → mv = min ((s.avs r).setpoint + 5) r.range.2 →
          (t.avs r).setpoint = mv) ∧
        (∀ mv, v.monitorOk = true → v.belowLimit = false → v.slack = true → s.avsFrozen r = false → v.readback = some mv →
          mv = max ((s.avs r).setpoint - 5) r.range.1 → (t.avs r).setpoint = mv) ∧
        (v.monitorOk = true → v.belowLimit = false → s.avsFrozen r = true → (t.avs r).setpoint = (s.avs r).setpoint) ∧
        (t.avs r).updatedAt = s.now ∧ s.OnlyRegs t [.SY_AVS_CORE, .SY_AVS_LE, .SY_LOOP_STAT, .SY_STICKY] ∧ s.SameMemory t))

/-- R272 to R278: base decoding takes the codewords of the engines in use; the pool gives every codeword it holds one result, spends at most
its budget P(f), and leaves no candidate unserved while 16 iterations for each fit in it. R272, R279 to R282: a delivered codeword is counted once, as uncorrectable where it did not converge; the frequency loop decides every 16
ticks, moves by at most one step, lowers at the temperature limit down to FMIN, and on a failed sensor sets 1.2 GHz and reports. -/
def Obligations.PoolServesAndDelivers : Prop :=
  (∀ s : State,
    (∀ cws, ∃ t, exec (.baseDecode cws) s = .next t ∧
      t.pool.based = s.pool.based ++ cws.filter (fun c => s.engineExists c.engine && (s.native c.engine || s.interop c.engine)) ∧
      t.pool.atPool = s.pool.atPool ∧ t.regs = s.regs ∧ s.SameMemory t) ∧
    (∃ t, exec .poolDecode s = .next t ∧ t.pool.atPool = [] ∧
      t.pool.decoded.length = s.pool.decoded.length + s.pool.atPool.length ∧
      t.pool.used ≤ s.pool.used + poolBudget (s.rd F.FP_STAT_FCODE 0) ∧
      (16 * (s.pool.atPool.filter s.isCandidate).length ≤ poolBudget (s.rd F.FP_STAT_FCODE 0) → t.pool.unserved = s.pool.unserved) ∧
      t.pool.deliver = s.pool.deliver ∧ s.OnlyRegs t [.FP_STICKY] ∧ s.SameMemory t)) ∧
  (∀ s : State,
    (∀ d : Decoded, s.pool.deliver = [d] →
      ∃ t, exec .codewordDelivery s = .next t ∧ t.pool.deliver = [] ∧
        t.ctr ⟨.fp, 27, d.engine⟩ = (s.ctr ⟨.fp, 27, d.engine⟩ + 1) % 2 ^ 48 ∧
        t.ctr ⟨.fp, 30, d.engine⟩ = (s.ctr ⟨.fp, 30, d.engine⟩ + d.unserved.toNat) % 2 ^ 48 ∧
        (d.ok = none → t.ctr ⟨.fp, if d.served then 25 else 26, d.engine⟩ =
          (s.ctr ⟨.fp, if d.served then 25 else 26, d.engine⟩ + 1) % 2 ^ 48) ∧
        (∀ n, n < 32 → ∀ e, e ≠ d.engine → t.ctr ⟨.fp, n, e⟩ = s.ctr ⟨.fp, n, e⟩) ∧ t.regs = s.regs ∧ s.SameMemory t) ∧
    (∀ r, s.tick.toNat % 16 ≠ 0 → exec (.poolFreqDecision r) s = .next s) ∧
    (∀ temp power, s.tick.toNat % 16 = 0 →
      ∃ t, exec (.poolFreqDecision ⟨some temp, some power⟩) s = .next t ∧
        t.rd F.FP_STAT_FCODE 0 ≤ s.rd F.FP_STAT_FCODE 0 + 1 ∧ s.rd F.FP_STAT_FCODE 0 ≤ t.rd F.FP_STAT_FCODE 0 + 1 ∧
        ((s.rd F.SY_LOOP_STAT_FROZEN 0).testBit 2 = true → t.rd F.FP_STAT_FCODE 0 = s.rd F.FP_STAT_FCODE 0) ∧
        ((s.rd F.SY_LOOP_STAT_FROZEN 0).testBit 2 = false → s.pool.guarded = false → s.cfg F.FP_FREQ_T_HI 0 ≤ temp →
          min (s.cfg F.FP_FREQ_FMIN 0) 32 < s.rd F.FP_STAT_FCODE 0 → t.rd F.FP_STAT_FCODE 0 + 1 = s.rd F.FP_STAT_FCODE 0) ∧
        t.pool.starved = false ∧ t.pool.busy = false ∧ s.OnlyAt t 0 [.FP_STAT] ∧ s.SameMemory t) ∧
    (∀ power, s.tick.toNat % 16 = 0 → (s.rd F.SY_LOOP_STAT_FROZEN 0).testBit 2 = false →
      ∃ t, exec (.poolFreqDecision ⟨none, power⟩) s = .next t ∧ t.rd F.FP_STAT_FCODE 0 = 0 ∧ t.on F.FP_STICKY_FREQ_FAIL 0 = true ∧
        s.OnlyAt t 0 [.FP_STAT, .FP_STICKY] ∧ s.SameMemory t))

/-- R312, R317, R318, R330, R331, R333: outside a mate pair a write of LIT is taken; a bank asked for serves from the first cycle start at
least LEAD + 8 ticks ahead, and is switched to when its first window is announced; a crate-tick is held, or counted as late or double; a leaf
without a burst in 8 windows is lost; every 256 ticks E moves by one step at most, within 0 to 48, and not at all while frozen. -/
def Obligations.TideSchedulesReassemblesAndAdapts : Prop :=
  (∀ (m : Initiator) (e : Nat) (s : State), s.Alone → e = s.engineSel m → s.engineExists e = true →
    (∀ lit : Fin 65536, ∃ t, exec (.tdDsWrite m lit) s = .next t ∧ t.rd F.TD_DS_LIT e = lit.val ∧ t.answer m.copy = .ok 0 ∧
      t.downstream = s.downstream ∧ s.OnlyAt t e [.TD_DS] ∧ s.SameMemory t) ∧
    (∀ bank : Fin 2, ∃ t first, exec (.tdGsBankWrite m bank) s = .next t ∧ t.rd F.TD_GS_CTRL_BANK e = bank.val ∧
      (t.hub e).bankAt = some (bank.val, first) ∧ first.toNat % 2 ^ (s.bankOf e bank.val).1 = 0 ∧
      s.rd F.TD_CFG_LEAD e + 8 ≤ ahead first s.tick ∧
      ahead first s.tick < s.rd F.TD_CFG_LEAD e + 8 + 2 ^ (s.bankOf e bank.val).1 ∧
      t.rd F.TD_GS_CTRL_ACTIVE e = s.rd F.TD_GS_CTRL_ACTIVE e ∧ t.answer m.copy = .ok 0 ∧ s.OnlyAt t e [.TD_GS_CTRL] ∧
      s.SameMemory t)) ∧
  (∀ (e : Fin 8) (s : State),
    (∀ b first, b < 2 → (s.hub e.val).bankAt = some (b, first) →
      ahead (s.tick + BitVec.ofNat 48 (s.rd F.TD_CFG_LEAD e.val + 7)) first ≤ 2 ^ 47 →
      ∃ t, exec (.grantBankSwitch e) s = .next t ∧ t.rd F.TD_GS_CTRL_ACTIVE e.val = b ∧ (t.hub e.val).bankAt = none ∧
        (t.hub e.val).windows = (s.hub e.val).windows ∧ s.OnlyAt t e.val [.TD_GS_CTRL] ∧ s.SameMemory t) ∧
    ((s.hub e.val).bankAt = none → exec (.grantBankSwitch e) s = .next s) ∧
    (s.tick.toNat % 256 ≠ 0 → exec (.tideThrUpdate e) s = .next s) ∧
    (∀ (i n : Nat), s.tick.toNat % 256 = 0 → i ∈ s.tideScsOf e.val → n = 16 * e.val + i →
      ∃ t, exec (.tideThrUpdate e) s = .next t ∧
        (s.thrFrozen e.val = true → t.rd F.TD_THR_STAT_E n = s.rd F.TD_THR_STAT_E n) ∧
        (s.thrFrozen e.val = false → 2 ≤ (s.tideSc n).falseSync → 0 < s.rd F.TD_THR_STAT_E n →
          t.rd F.TD_THR_STAT_E n + 1 = s.rd F.TD_THR_STAT_E n) ∧
        (s.thrFrozen e.val = false → (s.tideSc n).falseSync < 2 → 2 ≤ (s.tideSc n).syncMiss → s.rd F.TD_THR_STAT_E n < 48 →
          t.rd F.TD_THR_STAT_E n = s.rd F.TD_THR_STAT_E n + 1) ∧
        (s.thrFrozen e.val = false → 2 ≤ (s.tideSc n).falseSync → s.rd F.TD_THR_STAT_E n = 0 →
          t.rd F.TD_THR_STAT_E n = 0 ∧ t.on F.TD_SC_STICKY_THR_LIMIT n = true) ∧
        (s.rd F.TD_THR_STAT_E n ≤ 48 → t.rd F.TD_THR_STAT_E n ≤ 48) ∧ (t.tideSc n).falseSync = 0 ∧ (t.tideSc n).syncMiss = 0 ∧
        s.OnlyRegs t [.TD_THR_STAT, .TD_SC_STICKY] ∧ s.SameMemory t) ∧
    (∀ (leaf : Fin 256) (l : Nat), l = 256 * e.val + leaf.val →
      (s.inHub e.val = true → s.on F.TD_LEAF_CFG_VALID l = true → s.on F.TD_LEAF_STAT_LOST l = false → 8 ≤ (s.tideLeaf l).missRun →
        ∃ t, exec (.leafLost e leaf) s = .next t ∧ t.on F.TD_LEAF_STAT_LOST l = true ∧ t.on F.TD_LEAF_STICKY_LOST l = true ∧
          s.OnlyAt t l [.TD_LEAF_STAT, .TD_LEAF_STICKY] ∧ s.SameMemory t) ∧
      ((s.tideLeaf l).missRun < 8 → exec (.leafLost e leaf) s = .next s) ∧
      (∀ (c : CrateTick) (tk : Tick), s.inHub e.val = true → s.on F.TD_LEAF_CFG_VALID l = true →
        tk = nearestTick c.low (s.tick - BitVec.ofNat 48 (s.rd F.TD_CFG_EQD e.val)) →
        (tickDiff s.tick (tk + BitVec.ofNat 48 (s.rd F.TD_CFG_DT e.val)) ≤ 0 → (∀ h, h ∈ (s.tideLeaf l).held → h.1 ≠ tk) →
          ∃ t, exec (.crateTickArrival e leaf c) s = .next t ∧ (t.tideLeaf l).held = (s.tideLeaf l).held ++ [(tk, c)] ∧
            t.ctr ⟨.td, 17, l⟩ = (s.ctr ⟨.td, 17, l⟩ + 1) % 2 ^ 48 ∧ t.regs = s.regs ∧ s.SameMemory t) ∧
        (0 < tickDiff s.tick (tk + BitVec.ofNat 48 (s.rd F.TD_CFG_DT e.val)) →
          ∃ t, exec (.crateTickArrival e leaf c) s = .next t ∧ t.tideLeaves = s.tideLeaves ∧
            t.ctr ⟨.td, 19, l⟩ = (s.ctr ⟨.td, 19, l⟩ + 1) % 2 ^ 48 ∧ t.on F.TD_LEAF_STICKY_LATE l = true ∧
            s.OnlyAt t l [.TD_LEAF_STICKY] ∧ s.SameMemory t))))

/-- R325 to R329, R333: power at a TIDE subcarrier opens the sync search, an accepted sync word the header; the header is judged against
its window: the payload is received and the leaf heard, or the burst is dropped as misplaced or misdirected; a header that fails its check
and a search that ends are counted and adapt E; a rise of power is a capture or a collision. -/
def Obligations.BurstReceptionFollowsItsStates : Prop :=
  ∀ (e : Fin 8) (sc : Fin 16) (n : Nat) (s : State), n = 16 * e.val + sc.val →
    (∀ power symbols, s.inHub e.val = true → s.scType e.val sc.val = 2 → (s.tideSc n).rx = .idle → 64 ≤ symbols →
      power + s.rd F.TD_THR_STAT_PTHR n < s.rd F.TD_THR_STAT_FLOOR n →
      ∃ t, exec (.burstPowerDetect e sc power symbols) s = .next t ∧ (t.tideSc n).rx = .power ∧
        (∀ k, k ≠ n → t.tideSc k = s.tideSc k) ∧ t.regs = s.regs ∧ s.SameMemory t) ∧
    (∀ sym errors, (s.tideSc n).rx = .power → errors ≤ s.rd F.TD_THR_STAT_E n →
      ∃ t, exec (.syncAccept e sc sym errors) s = .next t ∧ (t.tideSc n).rx = .header s.tick sym ∧ t.regs = s.regs ∧
        s.SameMemory t) ∧
    (∀ sym errors, s.rd F.TD_THR_STAT_E n < errors → exec (.syncAccept e sc sym errors) s = .next s) ∧
    (∀ symbols, (s.tideSc n).rx = .power → 2368 + s.cfg F.TD_THR_TOL e.val ≤ symbols →
      ∃ t, exec (.syncMiss e sc symbols) s = .next t ∧ (t.tideSc n).rx = .idle ∧
        (t.tideSc n).syncMiss = (s.tideSc n).syncMiss + 1 ∧ t.ctr ⟨.td, 3, n⟩ = (s.ctr ⟨.td, 3, n⟩ + 1) % 2 ^ 48 ∧
        t.on F.TD_SC_STICKY_SYNC_MISS n = true ∧ s.OnlyAt t n [.TD_SC_STICKY] ∧ s.SameMemory t) ∧
    (∀ tick sym power, (s.tideSc n).rx = .header tick sym →
      (∃ t, exec (.burstHeader e sc none power) s = .next t ∧ (t.tideSc n).rx = .power ∧
        (t.tideSc n).falseSync = (s.tideSc n).falseSync + 1 ∧ t.ctr ⟨.td, 2, n⟩ = (s.ctr ⟨.td, 2, n⟩ + 1) % 2 ^ 48 ∧
        t.on F.TD_SC_STICKY_FALSE_SYNC n = true ∧ s.OnlyAt t n [.TD_SC_STICKY] ∧ s.SameMemory t) ∧
      (∀ h : BurstHeader, s.judgedWindow e.val sc.val tick sym = none →
        ∃ t, exec (.burstHeader e sc (some h) power) s = .next t ∧
          (t.tideSc n).rx = .skip (s.burstEnd e.val tick sym h.nc) ∧ t.ctr ⟨.td, 7, n⟩ = (s.ctr ⟨.td, 7, n⟩ + 1) % 2 ^ 48 ∧
          t.on F.TD_SC_STICKY_MISPLACED n = true ∧ s.OnlyAt t n [.TD_SC_STICKY] ∧ s.SameMemory t) ∧
      (∀ (h : BurstHeader) (w : Window), s.judgedWindow e.val sc.val tick sym = some w →
        (h.leaf ≠ w.leaf →
          ∃ t, exec (.burstHeader e sc (some h) power) s = .next t ∧
            (t.tideSc n).rx = .skip (s.burstEnd e.val tick sym h.nc) ∧ t.ctr ⟨.td, 6, n⟩ = (s.ctr ⟨.td, 6, n⟩ + 1) % 2 ^ 48 ∧
            t.rd F.TD_SC_LAST_LEAF n = h.leaf % 256 ∧ t.on F.TD_SC_STICKY_MISDIR n = true ∧
            s.OnlyAt t n [.TD_SC_STICKY, .TD_SC_LAST] ∧ s.SameMemory t) ∧
        (h.leaf = w.leaf → h.win = w.start.toNat % 65536 →
          burstSymbols h.nc (s.rd F.TD_FMT_KUP e.val) + (3 * s.symbolsUp e.val + 15) / 16 ≤ w.len * s.symbolsUp e.val →
          ∃ t, exec (.burstHeader e sc (some h) power) s = .next t ∧
            (t.tideSc n).rx = .payload h.leaf (s.burstEnd e.val tick sym h.nc) ∧
            t.ctr ⟨.td, 1, n⟩ = (s.ctr ⟨.td, 1, n⟩ + 1) % 2 ^ 48 ∧
            t.ctr ⟨.td, 16, 256 * e.val + h.leaf⟩ = (s.ctr ⟨.td, 16, 256 * e.val + h.leaf⟩ + 1) % 2 ^ 48 ∧
            t.on F.TD_LEAF_STAT_LOST (256 * e.val + h.leaf) = false ∧ t.on F.TD_LEAF_STAT_LDI (256 * e.val + h.leaf) = h.ldi ∧
            t.rd F.TD_LEAF_STAT_PWR (256 * e.val + h.leaf) = min power 255 ∧ (t.tideLeaf (256 * e.val + h.leaf)).missRun = 0 ∧
            s.OnlyAt t (256 * e.val + h.leaf) [.TD_LEAF_STAT, .TD_LEAF_STICKY] ∧ s.SameMemory t))) ∧
    (∀ tick sym rise span (margin : Int), (s.tideSc n).rx = .header tick sym → 12 ≤ rise → 64 ≤ span →
      (4 * (clampNat 3 12 (s.cfg F.TD_THR_CAP e.val) : Int) ≤ margin →
        ∃ t, exec (.burstPowerRise e sc rise span margin) s = .next t ∧ (t.tideSc n).rx = .power ∧
          t.ctr ⟨.td, 5, n⟩ = (s.ctr ⟨.td, 5, n⟩ + 1) % 2 ^ 48 ∧ t.on F.TD_SC_STICKY_CAPTURE n = true ∧
          s.OnlyAt t n [.TD_SC_STICKY] ∧ s.SameMemory t) ∧
      (margin < 4 * (clampNat 3 12 (s.cfg F.TD_THR_CAP e.val) : Int) →
        ∃ t, exec (.burstPowerRise e sc rise span margin) s = .next t ∧ t.tideScs = s.tideScs ∧
          t.ctr ⟨.td, 4, n⟩ = (s.ctr ⟨.td, 4, n⟩ + 1) % 2 ^ 48 ∧ t.on F.TD_SC_STICKY_COLLISION n = true ∧
          s.OnlyAt t n [.TD_SC_STICKY] ∧ s.SameMemory t)) ∧
    (∀ rise span margin, rise < 12 ∨ span < 64 → exec (.burstPowerRise e sc rise span margin) s = .next s)

/-- R341 to R346, R634: a group aligns on a key that both instances delivered within R ticks; R ticks of waiting with one valid instance end
in SINGLE, with none in DOWN; 64 ticks without a valid instance end in DOWN; 16 ticks without a usable one, and a second of one late or
early, realign; three keys make an instance late, three usable ones clear it; a key is output when its time has come; D that held for 16
keys is taken over. -/
def Obligations.MergeGroupsMoveThroughTheirStates : Prop :=
  ∀ (g : Fin 2048) (s : State), s.groupMerges g.val = true →
    (∀ d e : Delivery, (s.merge g.val).st = .wait → (s.merge g.val).a.keys = [d] → (s.merge g.val).b.keys = [e] → d.key = e.key →
      (s.merge g.val).notYet (s.groupLine g.val) d.key = true → ((e.del : Int) - d.del).natAbs ≤ s.groupRange g.val →
      ∃ t, exec (.mergeAligned g) s = .next t ∧ (t.merge g.val).st = .aligned ∧ (t.merge g.val).timingB = decide (d.del < e.del) ∧
        (t.merge g.val).dHeld = (e.del : Int) - d.del ∧
        (t.merge g.val).first = some (d.key, max (max d.del e.del + 1) s.now) ∧ t.on F.MG_STICKY_ALIGNED g.val = true ∧
        t.rd F.MG_STAT_STATE g.val = 3 ∧ s.OnlyAt t g.val [.MG_STAT, .MG_DHELD, .MG_STICKY] ∧ s.SameMemory t) ∧
    ((s.merge g.val).st = .wait → (∀ d, d ∈ (s.merge g.val).a.keys → ∀ e, e ∈ (s.merge g.val).b.keys → e.key ≠ d.key) →
      exec (.mergeAligned g) s = .next s) ∧
    ((s.merge g.val).st = .wait → (s.merge g.val).waitAt + s.groupRange g.val ≤ s.now →
      ((s.merge g.val).a.validNow s.now ≠ (s.merge g.val).b.validNow s.now →
        ∃ t, exec (.mergeWaitExpiry g) s = .next t ∧ (t.merge g.val).st = .single ∧
          (t.merge g.val).timingB = (s.merge g.val).b.validNow s.now ∧ t.rd F.MG_STAT_STATE g.val = 2 ∧
          s.OnlyAt t g.val [.MG_STAT, .MG_DHELD] ∧ s.SameMemory t) ∧
      ((s.merge g.val).a.validNow s.now = false → (s.merge g.val).b.validNow s.now = false →
        ∃ t, exec (.mergeWaitExpiry g) s = .next t ∧ (t.merge g.val).st = .down ∧ t.on F.MG_STICKY_DOWN g.val = true ∧
          s.OnlyAt t g.val [.MG_STAT, .MG_DHELD, .MG_STICKY] ∧ s.SameMemory t) ∧
      ((s.merge g.val).a.validNow s.now = true → (s.merge g.val).b.validNow s.now = true →
        exec (.mergeWaitExpiry g) s = .next s)) ∧
    (s.now < (s.merge g.val).waitAt + s.groupRange g.val → exec (.mergeWaitExpiry g) s = .next s) ∧
    ((s.merge g.val).st ≠ .down → 64 ≤ (s.merge g.val).noValid →
      ∃ t, exec (.mergeDown g) s = .next t ∧ (t.merge g.val).st = .down ∧ (t.merge g.val).last = none ∧ (t.merge g.val).ssf = true ∧
        t.on F.MG_STICKY_DOWN g.val = true ∧ s.OnlyAt t g.val [.MG_STAT, .MG_DHELD, .MG_STICKY] ∧ s.SameMemory t) ∧
    ((s.merge g.val).noValid < 64 → exec (.mergeDown g) s = .next s) ∧
    ((s.merge g.val).st ≠ .down → 16 ≤ (s.merge g.val).noUsable → (s.merge g.val).a.validNow s.now = true →
      (s.merge g.val).a.late = true →
      ∃ t, exec (.realignNoUsable g) s = .next t ∧ (t.merge g.val).st = .wait ∧ (t.merge g.val).waitAt = s.now ∧
        t.ctr ⟨.mg, 4, g.val⟩ = (s.ctr ⟨.mg, 4, g.val⟩ + 1) % 2 ^ 48 ∧ t.on F.MG_STICKY_REALIGN g.val = true ∧
        s.OnlyAt t g.val [.MG_STAT, .MG_DHELD, .MG_STICKY] ∧ s.SameMemory t) ∧
    ((s.merge g.val).st ≠ .down → s.cfgOn F.MG_CTRL_AUTO g.val = true → 312500 ≤ (s.merge g.val).autoRun →
      ∃ t, exec (.realignAuto g) s = .next t ∧ (t.merge g.val).st = .wait ∧
        t.ctr ⟨.mg, 4, g.val⟩ = (s.ctr ⟨.mg, 4, g.val⟩ + 1) % 2 ^ 48 ∧ t.on F.MG_STICKY_REALIGN g.val = true ∧ s.SameMemory t) ∧
    (s.cfgOn F.MG_CTRL_AUTO g.val = false → exec (.realignAuto g) s = .next s) ∧
    ((s.merge g.val).a.usableRun < 3 → 3 ≤ (s.merge g.val).a.lateRun → (s.merge g.val).a.late = false →
      ∃ t, exec (.mergeLateEarly g) s = .next t ∧ (t.merge g.val).a.late = true ∧ t.on F.MG_STICKY_LATE g.val = true ∧
        t.on F.MG_STAT_A_LATE g.val = true ∧ s.OnlyAt t g.val [.MG_STAT, .MG_DHELD, .MG_STICKY] ∧ s.SameMemory t) ∧
    (3 ≤ (s.merge g.val).a.usableRun → 3 ≤ (s.merge g.val).b.usableRun →
      ∃ t, exec (.mergeLateEarly g) s = .next t ∧ (t.merge g.val).a.late = false ∧ (t.merge g.val).a.early = false ∧
        (t.merge g.val).b.late = false ∧ (t.merge g.val).b.early = false ∧ s.OnlyAt t g.val [.MG_STAT, .MG_DHELD] ∧ s.SameMemory t) ∧
    ((s.merge g.val).st = .aligned → 16 ≤ (s.merge g.val).dRun → (s.merge g.val).timingB = true → 0 ≤ (s.merge g.val).dOther →
      ∃ t, exec (.mergeDheldLoad g) s = .next t ∧ (t.merge g.val).dHeld = (s.merge g.val).dOther ∧
        t.rd F.MG_DHELD_DH g.val = unsigned 21 (s.merge g.val).dOther ∧ s.OnlyAt t g.val [.MG_STAT, .MG_DHELD] ∧ s.SameMemory t) ∧
    ((s.merge g.val).st = .aligned → s.groupLine g.val = false →
      (∀ k at', (s.merge g.val).first = some (k, at') → at' ≤ s.now →
        ∃ t, exec (.mergeKeyDecision g) s = .next t ∧ (t.merge g.val).last = some (k, s.now) ∧ (t.merge g.val).first = none ∧
          (t.merge g.val).shown = some k ∧ s.OnlyAt t g.val [.MG_STAT, .MG_DELAY, .MG_DHELD, .MG_STICKY] ∧ s.SameMemory t) ∧
      (∀ k at', (s.merge g.val).first = some (k, at') → s.now < at' → exec (.mergeKeyDecision g) s = .next s) ∧
      (∀ k0 t0 d, (s.merge g.val).first = none → (s.merge g.val).last = some (k0, t0) → t0 < s.now →
        ((s.merge g.val).inst (s.merge g.val).timingB).has ((k0 + 1) % 2 ^ 20) s.now = some d → d.del ≤ t0 + 1 →
        ∃ t, exec (.mergeKeyDecision g) s = .next t ∧ (t.merge g.val).last = some ((k0 + 1) % 2 ^ 20, s.now) ∧
          (t.merge g.val).timingB = (s.merge g.val).timingB ∧ s.OnlyAt t g.val [.MG_STAT, .MG_DELAY, .MG_DHELD, .MG_STICKY] ∧ s.SameMemory t))

/-- R347, R353, R356 to R358, R363: outside a mate pair commands and realignments of the selected group are taken; conditions that held for
the hold-off time become requests, SF on A selecting B at the next boundary; when the wait to restore is over the group has no request. -/
def Obligations.MergeRequestsSelect : Prop :=
  (∀ (m : Initiator) (g : Nat) (s : State), s.Alone → g = s.groupSel m →
    (∃ t, exec (.mgRealign m) s = .next t ∧ t.atBoundary = s.atBoundary ++ [.mgRealign g] ∧ t.regs = s.regs ∧
      t.answer m.copy = .ok 0 ∧ s.SameMemory t) ∧
    (∃ t, exec (.mgCmdClear m) s = .next t ∧ t.rd F.MG_CTRL_CMD g = 0 ∧ t.merges = s.merges ∧ t.answer m.copy = .ok 0 ∧
      s.OnlyAt t g [.MG_CTRL] ∧ s.SameMemory t) ∧
    (∃ t, exec (.mgCmdLo m) s = .next t ∧ t.rd F.MG_CTRL_CMD g = 1 ∧ t.merges = s.merges ∧ t.answer m.copy = .ok 0 ∧
      s.OnlyAt t g [.MG_CTRL] ∧ s.SameMemory t) ∧
    (∃ t, exec (.mgCmdFs m) s = .next t ∧ t.rd F.MG_CTRL_CMD g = 2 ∧ t.merges = s.merges ∧ t.answer m.copy = .ok 0 ∧
      s.OnlyAt t g [.MG_CTRL] ∧ s.SameMemory t) ∧
    (∃ t, exec (.mgCmdMsA m) s = .next t ∧ t.rd F.MG_CTRL_CMD g = 3 ∧ (s.groupMerges g = true → t.atBoundary = s.atBoundary ++ [.mgUse g false]) ∧
      t.merges = s.merges ∧ s.OnlyAt t g [.MG_CTRL] ∧ s.SameMemory t) ∧
    (∃ t, exec (.mgCmdMsB m) s = .next t ∧ t.rd F.MG_CTRL_CMD g = 4 ∧ (s.groupMerges g = true → t.atBoundary = s.atBoundary ++ [.mgUse g true]) ∧
      t.merges = s.merges ∧ s.OnlyAt t g [.MG_CTRL] ∧ s.SameMemory t)) ∧
  (∀ (g : Fin 2048) (s : State), s.groupDefined g.val = true → s.on F.MG_CFG_APS g.val = false → s.groupCmd g.val = 0 →
    (s.heldOff g.val (s.merge g.val).a.sfSince = true → s.heldOff g.val (s.merge g.val).b.sfSince = false →
      ∃ t, exec (.holdoffExpiry g) s = .next t ∧ (t.merge g.val).a.sf = true ∧ (t.merge g.val).b.sf = false ∧
        t.rd F.MG_STAT_REQ g.val = 11 ∧
        (s.groupMerges g.val = false → (t.merge g.val).cause = 11 ∧ (t.merge g.val).wantB = true) ∧
        (s.groupMerges g.val = false → (s.merge g.val).selB = false → (s.merge g.val).switching = false →
          t.atBoundary = s.atBoundary ++ [.mgSelect g.val]) ∧
        s.OnlyAt t g.val [.MG_STAT, .MG_DHELD, .MG_APS_TX] ∧ s.SameMemory t) ∧
    (s.heldOff g.val (s.merge g.val).b.sfSince = true →
      ∃ t, exec (.holdoffExpiry g) s = .next t ∧ (t.merge g.val).b.sf = true ∧ t.rd F.MG_STAT_REQ g.val = 14 ∧
        s.OnlyAt t g.val [.MG_STAT, .MG_DHELD, .MG_APS_TX] ∧ s.SameMemory t) ∧
    (∀ since, (s.merge g.val).after = .wtr since →
      since + 60 * 312500 * clampNat 1 12 (s.cfg F.MG_CTRL_WTR g.val) ≤ s.now → s.explicitRequest g.val = 0 →
      (s.merge g.val).cause = 0 →
      ∃ t, exec (.wtrExpiry g) s = .next t ∧ (t.merge g.val).after = .none ∧ t.rd F.MG_STAT_REQ g.val = 0 ∧
        (s.groupMerges g.val = false → (s.merge g.val).selB = true → (s.merge g.val).switching = false →
          (t.merge g.val).wantB = false ∧ t.atBoundary = s.atBoundary ++ [.mgSelect g.val]) ∧
        s.OnlyAt t g.val [.MG_STAT, .MG_DHELD, .MG_APS_TX] ∧ s.SameMemory t) ∧
    (∀ since, (s.merge g.val).after = .wtr since →
      s.now < since + 60 * 312500 * clampNat 1 12 (s.cfg F.MG_CTRL_WTR g.val) → exec (.wtrExpiry g) s = .next s))

/-- R367, R372, R376: a running monitor raises LOS and disqualifies, as an offset beyond FMAX does; after WTR seconds without either the
reference is qualified; a DPLL in ACQUIRE locks after 10 s; TICK_IN steers the boundary's phase only while it is selected. -/
def Obligations.ReferencesQualifyAndLoopsLock : Prop :=
  (∀ (r : Fin 9) (s : State), s.refRuns r.val = true →
    (s.on F.TM_REF_STAT_LOS r.val = false →
      ∃ t, exec (.refLos r) s = .next t ∧ t.on F.TM_REF_STAT_LOS r.val = true ∧ t.on F.TM_REF_STAT_QUAL r.val = false ∧
        (t.timeRef r.val).goodSince = none ∧ t.on F.TM_STICKY_REF_LOS 0 = true ∧
        (s.on F.TM_REF_STAT_QUAL r.val = true → t.on F.TM_STICKY_REF_DISQ 0 = true) ∧
        (∀ i, i ≠ r.val → t.reg .TM_REF_STAT i = s.reg .TM_REF_STAT i) ∧ s.OnlyRegs t [.TM_REF_STAT, .TM_STICKY] ∧ s.SameMemory t) ∧
    (s.on F.TM_REF_STAT_LOS r.val = true → exec (.refLos r) s = .next s) ∧
    (∀ offset : Int, offset.natAbs ≤ 20 * s.cfg F.TM_REF_CFG_FMAX r.val →
      ∃ t, exec (.refFreqWindow r offset) s = .next t ∧ t.on F.TM_REF_STAT_LOS r.val = false ∧
        t.rd F.TM_REF_STAT_FOFS r.val = unsigned 16 (clampInt (-32768) 32767 offset) ∧
        t.rd F.TM_REF_STAT_QUAL r.val = s.rd F.TM_REF_STAT_QUAL r.val ∧
        (t.timeRef r.val).goodSince = some ((s.timeRef r.val).goodSince.getD s.now) ∧ s.OnlyAt t r.val [.TM_REF_STAT] ∧
        s.SameMemory t) ∧
    (∀ offset : Int, 20 * s.cfg F.TM_REF_CFG_FMAX r.val < offset.natAbs →
      ∃ t, exec (.refFreqWindow r offset) s = .next t ∧ t.on F.TM_REF_STAT_QUAL r.val = false ∧ (t.timeRef r.val).goodSince = none ∧
        s.OnlyRegs t [.TM_REF_STAT, .TM_STICKY] ∧ s.SameMemory t) ∧
    (∀ since, (s.timeRef r.val).goodSince = some since → s.on F.TM_REF_STAT_LOS r.val = false →
      (since + 312500 * s.cfg F.TM_REF_CFG_WTR r.val ≤ s.now →
        ∃ t, exec (.refQualify r) s = .next t ∧ t.on F.TM_REF_STAT_QUAL r.val = true ∧ s.OnlyAt t r.val [.TM_REF_STAT] ∧
          s.SameMemory t) ∧
      (s.now < since + 312500 * s.cfg F.TM_REF_CFG_WTR r.val → exec (.refQualify r) s = .next s))) ∧
  (∀ (ticks : Nat) (s : State),
    (s.rd F.TM_GD_STAT_STATE 0 = 1 → 3125000 ≤ ticks →
      ∃ t, exec (.dpllLocked false ticks) s = .next t ∧ t.rd F.TM_GD_STAT_STATE 0 = 2 ∧ t.gridPll.everLocked = true ∧
        t.outPll = s.outPll ∧ s.OnlyAt t 0 [.TM_GD_STAT] ∧ s.SameMemory t) ∧
    (s.rd F.TM_OD_STAT_STATE 0 = 1 → 3125000 ≤ ticks →
      ∃ t, exec (.dpllLocked true ticks) s = .next t ∧ t.rd F.TM_OD_STAT_STATE 0 = 2 ∧ t.outPll.everLocked = true ∧
        t.gridPll = s.gridPll ∧ s.OnlyAt t 0 [.TM_OD_STAT] ∧ s.SameMemory t) ∧
    (∀ output, ticks < 3125000 → exec (.dpllLocked output ticks) s = .next s)) ∧
  (∀ (phase : Int) (s : State),
    (s.gridPll.selected = true → s.rd F.TM_GD_STAT_SEL 0 = 8 →
      ∃ t, exec (.tickInEdge phase) s = .next t ∧ t.timePll.tickPhase = phase ∧ t.timePll.tb = s.timePll.tb ∧ t.tick = s.tick ∧
        t.regs = s.regs ∧ s.SameMemory t) ∧
    (s.rd F.TM_GD_STAT_SEL 0 ≠ 8 → exec (.tickInEdge phase) s = .next s))

/-- R374, R378 to R380: at a decision point a forced source that is qualified is selected and its offset removed, by a step only above
STEP_THR while TIME_VALID is 0 or STEP_EN is 1, by a slew otherwise; a forced source that is not qualified leaves the time in holdover, or
in free run where it is not valid; off a decision point nothing happens; 10 s within 50 ns lock the DPLL, and the invariant model learns
from then on, after a holdover from 60 s later (R393). -/
def Obligations.TheTimeLoopFollowsItsSource : Prop :=
  ∀ s : State,
    (∀ offsets rate, s.tick.toNat % 256 ≠ 0 → exec (.timeDecision offsets rate) s = .next s) ∧
    (∀ (i : Fin 13) (v rate theta : Int), s.tick.toNat % 256 = 0 → i.val < 2 ∨ 10 ≤ i.val → s.worker = false → s.followsMate = false →
      s.cfgOn F.TM_TD_CTRL_FORCE 0 = true → s.cfg F.TM_TD_CTRL_FSRC 0 = i.val → s.on F.TM_TS_STAT_QUAL i.val = true →
      theta = v * 2 ^ 24 →
      ∃ t, exec (.timeDecision [(i, v)] rate) s = .next t ∧ t.rd F.TM_TD_STAT_SRC 0 = i.val ∧ t.on F.TM_TS_STAT_SEL i.val = true ∧
        t.rd F.TM_TS_OFS_VAL i.val = unsigned 32 v ∧ t.timePll.selected = true ∧ t.timePll.rate = rate ∧ t.timePll.tb = s.timePll.tb ∧
        (s.timePll.selected = false → t.rd F.TM_TD_STAT_STATE 0 = 1) ∧
        (s.cfg F.TM_TD_CTRL_STEP_THR 0 * 2 ^ 32 < theta.natAbs → s.timeValid = false ∨ s.cfgOn F.TM_TD_CTRL_STEP_EN 0 = true →
          t.timePll.step = some (-theta) ∧ t.on F.TM_STICKY_TIME_STEP 0 = true) ∧
        (theta.natAbs ≤ s.cfg F.TM_TD_CTRL_STEP_THR 0 * 2 ^ 32 → t.timePll.step = s.timePll.step ∧ t.timePll.slew = -theta) ∧
        s.OnlyRegs t [.TM_TS_STAT, .TM_TS_OFS, .TM_TD_STAT, .TM_INV_STAT, .TM_STICKY] ∧ s.SameMemory t) ∧
    (∀ (i : Fin 13) (rate : Int), s.tick.toNat % 256 = 0 → i.val < 2 ∨ 10 ≤ i.val → s.worker = false → s.followsMate = false →
      s.cfgOn F.TM_TD_CTRL_FORCE 0 = true → s.cfg F.TM_TD_CTRL_FSRC 0 = i.val → s.on F.TM_TS_STAT_QUAL i.val = false →
      ∃ t, exec (.timeDecision [] rate) s = .next t ∧ t.timePll.selected = false ∧ t.timePll.slew = 0 ∧ t.timePll.tb = s.timePll.tb ∧
        (s.timeValid = false → t.rd F.TM_TD_STAT_STATE 0 = 0) ∧
        (s.timeValid = true → s.rd F.TM_TD_STAT_STATE 0 = 2 →
          t.rd F.TM_TD_STAT_STATE 0 = 3 ∧ t.on F.TM_STICKY_TIME_HOLDOVER 0 = true ∧ t.rd F.TM_TD_STAT_CLASS 0 = 135) ∧
        s.OnlyRegs t [.TM_TS_STAT, .TM_TD_STAT, .TM_STICKY] ∧ s.SameMemory t) ∧
    (∀ since, s.timePll.goodSince = some since →
      (s.rd F.TM_TD_STAT_STATE 0 = 1 → since + 3125000 ≤ s.now →
        ∃ t, exec .timeLocked s = .next t ∧ t.rd F.TM_TD_STAT_STATE 0 = 2 ∧ t.timePll.lockedAt = (if s.timePll.held then s.now + 18750000 else s.now) ∧
          t.timePll.held = false ∧          s.OnlyAt t 0 [.TM_TD_STAT] ∧ s.SameMemory t) ∧
      (s.now < since + 3125000 → exec .timeLocked s = .next s))

/-- R381, R382, R388, R391, R394, R379: the third edge of a 1PPS input in a row qualifies it, two seconds without one disqualify it; a ToD
message of the right form, time and CRC is accepted, any other reported; the outputs mark each whole second once, with the message 100 ms
later; learning completes after its time and begins again on request; the software source and the software temperature grow stale. -/
def Obligations.TimeInputsAndOutputsAct : Prop :=
  (∀ (i : Fin 2) (s : State),
    (∀ (x : Stamp) (last : Int) (at' : Nat), (s.timeSource i.val).edge = some (last, at') →
      (x.units - last - 1000000000 * 65536).natAbs ≤ 1000 * 65536 →
      ∃ t, exec (.ppsEdge i x) s = .next t ∧ (t.timeSource i.val).goodEdges = (s.timeSource i.val).goodEdges + 1 ∧
        (t.timeSource i.val).edge = some (x.units, s.now) ∧ (t.timeSource i.val).missed = false ∧
        (2 ≤ (s.timeSource i.val).goodEdges → t.on F.TM_TS_STAT_QUAL i.val = true) ∧
        ((s.timeSource i.val).goodEdges < 2 → t.regs = s.regs) ∧ s.OnlyAt t i.val [.TM_TS_STAT] ∧ s.SameMemory t) ∧
    (∀ (last : Int) (at' : Nat), (s.timeSource i.val).edge = some (last, at') → (s.timeSource i.val).missed = false →
      s.cfgOn F.TM_TS_CFG_EN i.val = true →
      (at' + 625000 ≤ s.now →
        ∃ t, exec (.ppsMiss i) s = .next t ∧ t.on F.TM_TS_STAT_QUAL i.val = false ∧ (t.timeSource i.val).goodEdges = 0 ∧
          t.on F.TM_STICKY_PPS_MISS 0 = true ∧ s.OnlyRegs t [.TM_TS_STAT, .TM_STICKY] ∧ s.SameMemory t) ∧
      (s.now < at' + 625000 → exec (.ppsMiss i) s = .next s)) ∧
    (∀ (bytes : List Byte) (last : Int) (at' : Nat), s.cfgOn F.TM_PPS_CFG_TODI_EN 0 = true → s.cfg F.TM_PPS_CFG_TOD_SRC 0 = i.val →
      (s.timeSource i.val).edge = some (last, at') → at' + 15625 ≤ s.now → s.now ≤ at' + 296875 →
      (bytes.length = 18 → bytes.take 4 = [0xC5, 0x3A, 0x01, 12] → crc16 ((bytes.drop 2).take 14) = bigEndian (bytes.drop 16) →
        ∃ t, exec (.todMessage bytes) s = .next t ∧
          (if i.val = 0 then t.timePll.tod0 else t.timePll.tod1) =
            some (bigEndian ((bytes.drop 4).take 6), ((bytes[12]?).getD 0).toNat) ∧ t.regs = s.regs ∧ s.SameMemory t) ∧
      (bytes.length ≠ 18 → ∃ t, exec (.todMessage bytes) s = .next t ∧ t.timePll = s.timePll ∧ t.on F.TM_STICKY_TOD_ERR 0 = true ∧
        s.OnlyAt t 0 [.TM_STICKY] ∧ s.SameMemory t))) ∧
  (∀ s : State,
    (s.timePll.second < s.timePll.tb / secondUnits → s.timeValid = true → s.cfgOn F.TM_PPS_CFG_EN_O0 0 = true →
      s.cfgOn F.TM_PPS_CFG_EN_O1 0 = true →
      ∃ t, exec .ppsOutEdge s = .next t ∧ t.timePll.second = s.timePll.tb / secondUnits ∧ t.timePll.todDue = some s.now ∧
        t.outbox = s.outbox ++
          [.pps 0 (s.timePll.tb / secondUnits) (signed 16 (s.cfg F.TM_PPS_ADJ_OUT_ADJ 0)) (s.cfg F.TM_PPS_CFG_WIDTH 0) (s.cfgOn F.TM_PPS_CFG_POL_O0 0),
           .pps 1 (s.timePll.tb / secondUnits) (signed 16 (s.cfg F.TM_PPS_ADJ_OUT_ADJ 0)) (s.cfg F.TM_PPS_CFG_WIDTH 0) (s.cfgOn F.TM_PPS_CFG_POL_O1 0)] ∧
        t.regs = s.regs ∧
        exec .ppsOutEdge t = .next t ∧ s.SameMemory t) ∧
    (∀ due, s.timePll.todDue = some due → s.cfgOn F.TM_PPS_CFG_TODO_EN 0 = true →
      (due + 31250 ≤ s.now →
        ∃ t, exec .todTxSend s = .next t ∧ t.outbox = s.outbox ++ [.tod (s.todBytes (s.timePll.second + 1))] ∧
          t.timePll.todDue = none ∧ t.regs = s.regs ∧ s.SameMemory t) ∧
      (s.now < due + 31250 → exec .todTxSend s = .next s)) ∧
    (∀ e : Fin 8, 312500000 ≤ (s.timeSource (e.val + 2)).learnTicks →
      ∃ t, exec (.asymLearned e) s = .next t ∧ t.on F.TM_TS_STAT_LEARNED (e.val + 2) = true ∧
        s.OnlyAt t (e.val + 2) [.TM_TS_STAT] ∧ s.SameMemory t) ∧
    (∀ w, (s.timeSource 10).writtenAt = some w →
      (w + 1250000 ≤ s.now → ∃ t, exec .swSourceTimeout s = .next t ∧ t.on F.TM_TS_STAT_QUAL 10 = false ∧
        (t.timeSource 10).writtenAt = none ∧ s.OnlyAt t 10 [.TM_TS_STAT] ∧ s.SameMemory t) ∧
      (s.now < w + 1250000 → exec .swSourceTimeout s = .next s)) ∧
    (27000000000 ≤ s.timePll.learned → ∃ t, exec .invarLearned s = .next t ∧ t.rd F.TM_INV_STAT_LSTATE 0 = 2 ∧
      s.OnlyAt t 0 [.TM_INV_STAT] ∧ s.SameMemory t) ∧
    (s.cfgOn F.TM_INV_CTRL_TSW 0 = true → s.timePll.tempStale = false → s.timePll.tempAt + 625001 ≤ s.now →
      ∃ t, exec .invTempStale s = .next t ∧ t.timePll.tempStale = true ∧ t.on F.TM_STICKY_INV_TEMP_STALE 0 = true ∧
        s.OnlyAt t 0 [.TM_STICKY] ∧ s.SameMemory t) ∧
    (∀ m : Initiator, s.Alone →
      (∃ t, exec (.tsLearn m) s = .next t ∧ t.on F.TM_TS_STAT_LEARNED (s.rd F.TM_TSEL_SRC m.copy) = false ∧
        (t.timeSource (s.rd F.TM_TSEL_SRC m.copy)).learnTicks = 0 ∧ t.answer m.copy = .ok 0 ∧
        s.OnlyAt t (s.rd F.TM_TSEL_SRC m.copy) [.TM_TS_STAT] ∧ s.SameMemory t) ∧
      (∀ v, ∃ t, exec (.swOfsWrite m v) s = .next t ∧ t.atBoundary = s.atBoundary ++ [.swOfs v] ∧ t.regs = s.regs ∧
        t.answer m.copy = .ok 0 ∧ s.SameMemory t) ∧
      (∃ t, exec (.invarResetModel m) s = .next t ∧ t.timePll.learned = 0 ∧ t.rd F.TM_INV_STAT_LSTATE 0 = 0 ∧
        t.rd F.TM_INV_STAT_HOURS 0 = 0 ∧ t.answer m.copy = .ok 0 ∧ s.OnlyAt t 0 [.TM_INV_STAT] ∧ s.SameMemory t)))

/-- R483, R486, R488, R489, R513, R516: a write beat at the scratchpad or the working SRAM replaces the bytes of its word whose strobes are
set, and no other byte of memory; a read beat answers the word and changes nothing; a word that ECC cannot correct is answered with the error
response, counted, and its address kept; the boot ROM takes no write; an address of no target gets the error response of the default target. -/
def Obligations.OnChipBeatsReadAndWriteTheirWord : Prop :=
  ∀ (m : Initiator) (b : Burst) (x : Beat) (c : Instr) (s : State),
    c = .scratchpadAccess m b ∨ c = .workingSramAccess m b ∨ c = .borrowTouch (some m) b → b.beats = [x] → b.fetch = false →
    x.ecc = .clean → x.portB = none → s.march.borrowed = none → 0x40000 ≤ b.addr →
    ((memTarget b.addr = some 1 ∨ memTarget b.addr = some 2) → b.write = true → s.badWords.contains (b.addr / 16) = false →
      ∃ t, exec c s = .next t ∧ t.answer m.copy = .beats [.ok 0] ∧
        (∀ k, k < 16 → Mem.read t.mem (wordAddr b.addr + k) =
          if x.strobes.getLsbD k then x.data.extractLsb' (8 * k) 8 else Mem.read s.mem (wordAddr b.addr + k)) ∧
        (∀ a, a < wordAddr b.addr ∨ wordAddr b.addr + 16 ≤ a → Mem.read t.mem a = Mem.read s.mem a) ∧
        t.badWords = s.badWords ∧ t.anc = s.anc ∧ t.regs = s.regs) ∧
    ((memTarget b.addr = some 1 ∨ memTarget b.addr = some 2) → b.write = false → s.badWords.contains (b.addr / 16) = false →
      ∃ t, exec c s = .next t ∧ t.answer m.copy = .beats [.ok (Mem.readWide s.mem (wordAddr b.addr))] ∧ t.regs = s.regs ∧
        s.SameMemory t) ∧
    ((memTarget b.addr = some 1 ∨ memTarget b.addr = some 2) → b.write = false → s.badWords.contains (b.addr / 16) = true →
      ∃ t, exec c s = .next t ∧ t.answer m.copy = .beats [.error .target] ∧
        t.rd F.MM_ECC_CNT_UNCORR (eccClass b.addr) = (s.rd F.MM_ECC_CNT_UNCORR (eccClass b.addr) + 1) % 2 ^ 16 ∧
        t.rd F.MM_ECC_ADDR_LO_ADDR_LO 0 = wordAddr b.addr ∧ t.on F.MM_STICKY_SRAM_UNCORR 0 = true ∧ t.rd F.BM_ERR_CAUSE 0 = 5 ∧
        t.rd F.BM_ERR_MASTER 0 = m.num.val ∧ t.on F.BM_STICKY_BUS_ERR 0 = true ∧
        s.OnlyRegs t [.MM_ECC_CNT, .MM_ECC_ADDR_LO, .MM_STICKY, .BM_ERR, .BM_ERR_ADDR, .BM_STICKY] ∧ s.SameMemory t) ∧
    (memTarget b.addr = some 0 → b.write = true →
      ∃ t, exec c s = .next t ∧ t.answer m.copy = .beats [.error .target] ∧ t.rd F.BM_ERR_CAUSE 0 = 5 ∧
        s.OnlyRegs t [.BM_ERR, .BM_ERR_ADDR, .BM_STICKY] ∧ s.SameMemory t) ∧
    (memTarget b.addr = none →
      ∃ t, exec c s = .next t ∧ t.answer m.copy = .beats [.error .default] ∧ t.rd F.BM_ERR_CAUSE 0 = 0 ∧
        s.OnlyRegs t [.BM_ERR, .BM_ERR_ADDR, .BM_STICKY] ∧ s.SameMemory t)

/-- R498, R499, R503, R508: through the aperture or BAR2 a whole word written to an installed and unprotected place of the Anchorage marks
its block written, changes no other byte, and is what the next read answers; a protected place is refused with PROT_WR; a place in no
installed hold gets the error response of the default target. -/
def Obligations.AnchorageWordsReadBack : Prop :=
  ∀ (m m2 : Initiator) (a at' : Nat) (x : Beat) (s : State), x.strobes = 0xFFFF → x.ecc = .clean → 0x40000000 ≤ a → a < 0x80000000 →
    at' = s.apertureAddr m a →
    (s.ancExists at' = true → s.ancProtected (wordAddr at') = false → s.ancBad.contains (wordAddr at' / 64) = false →
      s.rd F.MM_APERTURE_PAGE m2.copy = s.rd F.MM_APERTURE_PAGE m.copy →
      ∃ t u, exec (.anchorageAccess m false ⟨true, a, [x], false⟩) s = .next t ∧ t.answer m.copy = .beats [.ok 0] ∧
        t.written.contains (wordAddr at' / 2 ^ 20) = true ∧
        (∀ k, k < wordAddr at' ∨ wordAddr at' + 16 ≤ k → Mem.find t.anc k = Mem.find s.anc k) ∧ t.mem = s.mem ∧ t.regs = s.regs ∧
        exec (.anchorageAccess m2 false ⟨false, a, [{}], false⟩) t = .next u ∧ u.answer m2.copy = .beats [.ok x.data] ∧
        u.anc = t.anc ∧ u.mem = t.mem ∧ u.regs = t.regs) ∧
    (s.ancExists at' = true → s.ancProtected (wordAddr at') = true →
      ∃ t, exec (.anchorageAccess m false ⟨true, a, [x], false⟩) s = .next t ∧ t.answer m.copy = .beats [.error .target] ∧
        t.on F.MM_STICKY_PROT_WR 0 = true ∧ s.OnlyRegs t [.MM_STICKY, .BM_ERR, .BM_ERR_ADDR, .BM_STICKY] ∧ s.SameMemory t) ∧
    (s.ancExists at' = false → ∀ write,
      ∃ t, exec (.anchorageAccess m false ⟨write, a, [x], false⟩) s = .next t ∧ t.answer m.copy = .beats [.error .default] ∧
        s.OnlyRegs t [.BM_ERR, .BM_ERR_ADDR, .BM_STICKY] ∧ s.SameMemory t)

/-- R488 to R497, R525: repair starts only where it can end well and ends with its result; the scrub corrects and counts; the march test
borrows, restores, yields to an access and skips a region at its fourth yield; NO_BORROW ranges are taken except from user mode. -/
def Obligations.MemoriesAreRepairedScrubbedAndMarched : Prop :=
  (∀ (m : Initiator) (v : Word) (s : State), m.trusted = true → s.on F.MM_REP_STAT_BUSY 0 = false →
    s.on F.MM_REP_STAT_VFUSE_OK 0 = true → (macroClass (F.MM_REP_CTRL_MACRO.get v)).isSome = true →
    F.MM_REP_CTRL_COL.get v ≤ Config.macroTop (F.MM_REP_CTRL_MACRO.get v) % 1024 → s.macroLeft (F.MM_REP_CTRL_MACRO.get v) ≠ 0 →
    ∃ t, exec (.repairProgram m v) s = .next t ∧ t.on F.MM_REP_STAT_BUSY 0 = true ∧ t.rd F.MM_REP_STAT_RESULT 0 = 0 ∧
      t.repairColumn = some (F.MM_REP_CTRL_MACRO.get v, F.MM_REP_CTRL_COL.get v) ∧ t.repaired = s.repaired ∧ t.answer m.copy = .ok 0 ∧
      s.OnlyAt t 0 [.MM_REP_CTRL, .MM_REP_STAT] ∧ s.SameMemory t) ∧
  (∀ (m : Initiator) (v : Word) (s : State), m.trusted = false →
    ∃ t, exec (.repairProgram m v) s = .next t ∧ t.answer m.copy = .error .priv ∧ t.repaired = s.repaired ∧
      t.repairColumn = s.repairColumn ∧ s.SameMemory t) ∧
  (∀ (mac col : Nat) (s : State), s.repairColumn = some (mac, col) →
    (s.macroLeft mac = 2 ∨ s.macroLeft mac = 1 →
      ∃ t, exec (.repairDone true true) s = .next t ∧ t.repairOf mac (2 - s.macroLeft mac) = col + 1 ∧ t.rd F.MM_REP_STAT_RESULT 0 = 1 ∧
        t.on F.MM_REP_STAT_BUSY 0 = false ∧ t.repairColumn = none ∧ t.on F.MM_STICKY_REPAIR_DONE 0 = true ∧
        s.OnlyAt t 0 [.MM_REP_STAT, .MM_STICKY] ∧ s.SameMemory t) ∧
    (∀ verified, ∃ t, exec (.repairDone false verified) s = .next t ∧ t.repaired = s.repaired ∧ t.rd F.MM_REP_STAT_RESULT 0 = 2 ∧
      t.on F.MM_REP_STAT_BUSY 0 = false ∧ s.OnlyAt t 0 [.MM_REP_STAT, .MM_STICKY] ∧ s.SameMemory t)) ∧
  (∀ (a cls : Nat) (s : State), s.on F.MM_BT_CFG_SCRUB_EN 0 = true → s.backgroundRuns = true → memTarget a = some cls →
    s.badWords.contains (wordAddr a / 16) = false →
    (∀ again, exec (.scrubRead (.word a) .clean again) s = .next s) ∧
    (∀ again, ∃ t, exec (.scrubRead (.word a) .single again) s = .next t ∧
      t.rd F.MM_ECC_CNT_CORR cls = (s.rd F.MM_ECC_CNT_CORR cls + 1) % 2 ^ 16 ∧ t.on F.MM_STICKY_SRAM_CORR 0 = true ∧
      s.OnlyRegs t [.MM_ECC_CNT, .MM_STICKY] ∧ s.SameMemory t) ∧
    (∃ t, exec (.scrubRead (.word a) .double false) s = .next t ∧ t.badWords = s.badWords ++ [wordAddr a / 16] ∧
      t.rd F.MM_ECC_CNT_UNCORR cls = (s.rd F.MM_ECC_CNT_UNCORR cls + 1) % 2 ^ 16 ∧
      t.rd F.MM_ECC_ADDR_LO_ADDR_LO 0 = wordAddr a ∧ t.on F.MM_STICKY_SRAM_UNCORR 0 = true ∧ t.mem = s.mem ∧
      s.OnlyRegs t [.MM_ECC_CNT, .MM_ECC_ADDR_LO, .MM_STICKY])) ∧
  (∀ (page : Fin 2560) (s : State),
    (s.on F.MM_BT_CFG_MARCH_EN 0 = true → s.backgroundRuns = true → s.march.borrowed = none → s.march.next = page.val →
      s.borrowable page.val = true →
      ∃ t, exec (.marchRegion page .borrow) s = .next t ∧ t.march.borrowed = some page.val ∧ t.march.next = page.val + 1 ∧
        t.on F.MM_BT_STAT_BORROWED 0 = true ∧ s.OnlyAt t 0 [.MM_BT_STAT] ∧ s.SameMemory t) ∧
    (s.march.borrowed = some page.val → ∀ (mac : Fin 4096) (col : Fin 1024),
      ∃ t, exec (.marchRegion page (.finish (some (mac, col)))) s = .next t ∧ t.march.borrowed = none ∧
        t.on F.MM_BT_STAT_BORROWED 0 = false ∧ t.rd F.MM_BT_FAIL_MACRO 0 = mac.val ∧ t.rd F.MM_BT_FAIL_COL 0 = col.val ∧
        t.on F.MM_STICKY_BT_FAIL 0 = true ∧ s.OnlyAt t 0 [.MM_BT_STAT, .MM_BT_FAIL, .MM_STICKY] ∧ s.SameMemory t) ∧
    (∀ (b : Burst), s.march.borrowed = some page.val → 0x40000 ≤ b.addr → marchPage b.addr = some page.val → s.march.yielded = [] →
      ∃ t, exec (.borrowTouch none b) s = .next t ∧ t.march.borrowed = none ∧ t.march.yielded = [(page.val, 1, s.now)] ∧
        t.rd F.MM_BT_STAT_YIELDS 0 = (s.rd F.MM_BT_STAT_YIELDS 0 + 1) % 256 ∧ s.OnlyAt t 0 [.MM_BT_STAT] ∧ s.SameMemory t) ∧
    (∀ (b : Burst) (at' : Nat), s.march.borrowed = some page.val → 0x40000 ≤ b.addr → marchPage b.addr = some page.val →
      s.march.yielded = [(page.val, 3, at')] →
      ∃ t, exec (.borrowTouch none b) s = .next t ∧ t.march.borrowed = none ∧ t.march.yielded = [] ∧
        t.rd F.MM_BT_STAT_SKIPS 0 = (s.rd F.MM_BT_STAT_SKIPS 0 + 1) % 256 ∧ t.on F.MM_STICKY_BT_SKIP 0 = true ∧
        s.OnlyAt t 0 [.MM_BT_STAT, .MM_STICKY] ∧ s.SameMemory t) ∧
    (∀ n at', s.march.yielded = [(page.val, n, at')] → s.on F.MM_BT_CFG_MARCH_EN 0 = true → s.backgroundRuns = true →
      s.march.borrowed = none →
      (at' + 21 ≤ s.now → s.borrowable page.val = true →
        ∃ t, exec (.marchRetry page) s = .next t ∧ t.march.borrowed = some page.val ∧ s.OnlyAt t 0 [.MM_BT_STAT] ∧ s.SameMemory t) ∧
      (s.now < at' + 21 → exec (.marchRetry page) s = .next s))) ∧
  (∀ (m : Initiator) (v : Word) (s : State), m.isUser = false →
    (∃ t, exec (.mmNbWrite m false v) s = .next t ∧
      t.rd F.MM_NB_BASE_BASE (s.rd F.MM_NB_SEL_RANGE m.copy) = F.MM_NB_BASE_BASE.get v ∧ t.answer m.copy = .ok 0 ∧ t.march = s.march ∧
      s.OnlyAt t (s.rd F.MM_NB_SEL_RANGE m.copy) [.MM_NB_BASE] ∧ s.SameMemory t) ∧
    (∃ t, exec (.mmNbWrite m true v) s = .next t ∧
      t.rd F.MM_NB_SIZE_PAGES (s.rd F.MM_NB_SEL_RANGE m.copy) = F.MM_NB_SIZE_PAGES.get v ∧ t.answer m.copy = .ok 0 ∧
      t.march = s.march ∧ s.OnlyAt t (s.rd F.MM_NB_SEL_RANGE m.copy) [.MM_NB_SIZE] ∧ s.SameMemory t))

/-- R403, R405 to R410: an engine arms where its region holds a slot for what it captures and the hold the rate, and is refused otherwise; a
schedule trigger at its boundary opens the post-trigger time; that over, the slot closes with its header in the region, and nothing of the
Anchorage changes outside it and the slot that the engine goes on in, whose content the samples overwrite (R405, R407); the oldest slot is released on request; a polarization transient ends once and is reported. -/
def Obligations.CapturesArmTriggerAndClose : Prop :=
  (∀ (m : Initiator) (e : Nat) (s : State), e = s.engineSel m → s.engineExists e = true →
    ((s.capture e).armed = true → ∃ t, exec (.capArm m) s = .next t ∧ t.captures = s.captures ∧ t.answer m.copy = .ok 0 ∧
      t.regs = s.regs ∧ s.SameMemory t) ∧
    ((s.capture e).armed = false → s.captureRegion e = none →
      ∃ t, exec (.capArm m) s = .next t ∧ t.captures = s.captures ∧ t.rd F.CAP_STAT_RESULT e = 2 ∧ s.OnlyAt t e [.CAP_STAT] ∧
        s.SameMemory t) ∧
    (∀ (r : RegionRec) (slots : Nat), (s.capture e).armed = false → (s.capture e).done = [] → s.captureRegion e = some r →
      slots = s.rd F.CAP_CFG_NSLOT e + 1 →
      captureNeed (s.rd F.CAP_CFG_PRE e + s.postTicks e) (s.captureRate e) ≤ slotSize r.size slots →
      s.captureLoad r.deep e ≤ 16 * (if r.deep then 102400000000 else 2048000000000) →
      ∃ t, exec (.capArm m) s = .next t ∧ (t.capture e).armed = true ∧ (t.capture e).slots = slots ∧
        (t.capture e).next = some (s.rd F.CAP_STAT_NEXT e % slots) ∧ (t.capture e).since = s.now ∧
        t.rd F.CAP_STAT_RESULT e = 1 ∧ t.on F.CAP_STAT_ARMED e = true ∧ (∀ i, i ≠ e → t.capture i = s.capture i) ∧
        (∀ a, a < r.base + s.rd F.CAP_STAT_NEXT e % slots * slotSize r.size slots ∨
          r.base + s.rd F.CAP_STAT_NEXT e % slots * slotSize r.size slots + slotSize r.size slots ≤ a →
          Mem.find t.anc a = Mem.find s.anc a) ∧
        t.mem = s.mem ∧ s.OnlyAt t e [.CAP_STAT]) ∧
    (∃ t, exec (.capDisarm m) s = .next t ∧ t.atBoundary = s.atBoundary ++ [.capDisarm e] ∧ t.captures = s.captures ∧
      t.answer m.copy = .ok 0 ∧ t.regs = s.regs ∧ s.SameMemory t) ∧
    (∃ t, exec (.capTrig m) s = .next t ∧ (t.capture e).soft = (s.capture e).armed ∧ (t.capture e).post = (s.capture e).post ∧
      t.regs = s.regs ∧ s.SameMemory t) ∧
    (∀ i rest slot, (s.capture e).done = i :: rest → (s.capture e).next = some slot →
      ∃ t, exec (.capRelease m) s = .next t ∧ (t.capture e).done = rest ∧ (t.capture e).next = some slot ∧
        t.rd F.CAP_STAT_DONE e = rest.length % 2 ^ F.CAP_STAT_DONE.width ∧ s.OnlyAt t e [.CAP_STAT] ∧ s.SameMemory t) ∧
    ((s.capture e).done = [] → ∃ t, exec (.capRelease m) s = .next t ∧ t.captures = s.captures ∧ t.regs = s.regs ∧ s.SameMemory t)) ∧
  (∀ (e : Fin 8) (s : State),
    (∀ slot, s.cfg F.CAP_TRIG_SCH_EN e.val = 1 → s.tick.toNat % 2 ^ min 30 (s.cfg F.CAP_TRIG_SK e.val) = 0 →
      (s.capture e.val).armed = true → (s.capture e.val).post = none → (s.capture e.val).next = some slot →
      ∃ t p, exec (.capScheduleTrigger e) s = .next t ∧ (t.capture e.val).post = some p ∧ p.trig = s.tick ∧ p.at_ = s.now ∧
        p.src = .schedule ∧ p.post = s.postTicks e.val ∧ p.pre = min (s.rd F.CAP_CFG_PRE e.val) (s.now - (s.capture e.val).since) ∧
        t.on F.CAP_STAT_POSTING e.val = true ∧ s.OnlyAt t e.val [.CAP_STAT] ∧ s.SameMemory t) ∧
    (s.cfg F.CAP_TRIG_SCH_EN e.val ≠ 1 → exec (.capScheduleTrigger e) s = .next s) ∧
    (∀ (samples first : Nat) (p : CapPost) (slot : Nat) (r : RegionRec), (s.capture e.val).post = some p →
      (s.capture e.val).next = some slot → s.captureRegion e.val = some r → s.rd F.CAP_CFG_OVERWRITE e.val = 0 →
      (p.at_ + p.post ≤ s.now →
        ∃ t, exec (.captureClose e samples first) s = .next t ∧ (t.capture e.val).done = (s.capture e.val).done ++ [slot] ∧
          (t.capture e.val).post = none ∧ t.on F.MS_STICKY_CAP_DONE e.val = true ∧
          Mem.find t.anc (r.base + slot * slotSize r.size (s.capture e.val).slots) = some 0x43 ∧
          (∀ a, a < r.base + slot * slotSize r.size (s.capture e.val).slots ∨
            r.base + slot * slotSize r.size (s.capture e.val).slots + max 64 (slotSize r.size (s.capture e.val).slots) ≤ a →
            (∀ j, (t.capture e.val).next = some j → a < r.base + j * slotSize r.size (s.capture e.val).slots ∨
              r.base + j * slotSize r.size (s.capture e.val).slots + slotSize r.size (s.capture e.val).slots ≤ a) →
            Mem.find t.anc a = Mem.find s.anc a) ∧
          t.mem = s.mem ∧ s.OnlyAt t e.val [.CAP_STAT, .MS_STICKY]) ∧
      (s.now < p.at_ + p.post → exec (.captureClose e samples first) s = .next s)) ∧
    (∀ r, (s.measure e.val).sop = some r →
      (s.rxState e.val ≠ 5 ∨ r.last + 1 + max 1 (s.cfg F.MS_SOP_CFG_HOLD e.val) ≤ s.now →
        ∃ t, exec (.sopTransient e) s = .next t ∧ (t.measure e.val).sop = none ∧
          t.on F.MS_SOP_LAST_LOL e.val = decide (s.rxState e.val ≠ 5) ∧
          t.rd F.MS_SOP_LAST_DUR e.val = min 8191 (r.last - r.at_ + 1) ∧ t.rd F.MS_SOP_LAST_PEAK e.val = min r.peak 262143 ∧
          t.rd F.MS_SOP_CNT_CNT e.val = (s.rd F.MS_SOP_CNT_CNT e.val + 1) % 2 ^ F.MS_SOP_CNT_CNT.width ∧
          t.on F.MS_STICKY_SOP_TRANSIENT e.val = true ∧
          s.OnlyAt t e.val [.MS_SOP_LAST, .MS_SOP_START, .MS_SOP_CNT, .MS_STICKY] ∧ s.SameMemory t) ∧
      (s.rxState e.val = 5 → s.now < r.last + 1 + max 1 (s.cfg F.MS_SOP_CFG_HOLD e.val) → exec (.sopTransient e) s = .next s)) ∧
    ((s.measure e.val).sop = none → exec (.sopTransient e) s = .next s))

/-- R412 to R414: at the end of a step of a sweeping receiver in SURVEY mode that still acquires, a record is appended in the survey region, the
next step of the list is taken, round to step 0 with SV_CYCLE after the last, and nothing else of the Anchorage changes; in other modes
nothing happens. -/
def Obligations.SurveyStepsThroughItsList : Prop :=
  ∀ (e : Fin 8) (x : SurveyResult) (s : State),
    (∀ (r : SurveyRec) (g : RegionRec), s.surveyOf e.val = some r → r.role = 2 → s.regionOf 4 e.val = some g →
      2 ≤ s.rxState e.val → s.rxState e.val ≠ 5 → s.on F.LF_STAT_LOM e.val = false → r.nstep < 16 →
      s.rd F.SV_STAT_STEP e.val ≤ r.nstep →
      ∃ t, exec (.surveyStepEnd e x) s = .next t ∧
        t.rd F.SV_STAT_STEP e.val = (if s.rd F.SV_STAT_STEP e.val = r.nstep then 0 else s.rd F.SV_STAT_STEP e.val + 1) ∧
        t.rd F.SV_STAT_REC e.val = (s.rd F.SV_STAT_REC e.val + 1) % 2 ^ F.SV_STAT_REC.width ∧
        t.on F.MS_STICKY_SV_STEP e.val = true ∧
        (s.rd F.SV_STAT_STEP e.val = r.nstep → t.on F.MS_STICKY_SV_CYCLE e.val = true) ∧
        (∀ a, a < g.base + 128 * (s.rd F.SV_STAT_REC e.val % max 1 (g.size / 128)) ∨
          g.base + 128 * (s.rd F.SV_STAT_REC e.val % max 1 (g.size / 128)) + 128 ≤ a → Mem.find t.anc a = Mem.find s.anc a) ∧
        t.mem = s.mem ∧ s.OnlyAt t e.val [.SV_STAT, .MS_STICKY, .LF_CFG, .LE_CFG, .LE_SHAPE]) ∧
    (s.mode ≠ 11 → exec (.surveyStepEnd e x) s = .next s)

/-- R579 to R582: with the logger enabled and room in the ring the oldest queued record is written at the ring's write index, 16 bytes of the
scratchpad, with the next sequence number, and no other byte of the memories changes; the summary of an open slot follows once the queue is
empty; with the logger off nothing is written; a read index past the write index is taken as the write index. -/
def Obligations.LoggerWritesItsRing : Prop :=
  (∀ (r : LogRecord) (rest : List LogRecord) (a : Nat) (s : State), s.logQueue = r :: rest → s.on F.EV_LOG_CFG_EN 0 = true →
    s.ringUsed < 4096 → s.on F.EV_LOG_CFG_ARCH_EN 0 = false → s.march.borrowed = none →
    a = 0x12780000 + 16 * (s.rd F.EV_LOG_WR_IDX 0 % 4096) →
    ∃ t, exec .logRecordWrite s = .next t ∧ t.logQueue = rest ∧ t.logSeq = (s.logSeq + 1) % 65536 ∧
      t.rd F.EV_LOG_WR_IDX 0 = (s.rd F.EV_LOG_WR_IDX 0 + 1) % 8192 ∧
      (Mem.readWord t.mem (a + 4)).toNat = r.tick.toNat % 2 ^ 32 ∧
      (Mem.readWord t.mem (a + 8)).toNat = r.tick.toNat / 2 ^ 32 * 2 ^ 16 + s.logSeq % 2 ^ 16 ∧
      (∀ b, b < a ∨ a + 16 ≤ b → Mem.read t.mem b = Mem.read s.mem b) ∧ t.anc = s.anc ∧ s.OnlyAt t 0 [.EV_LOG_WR]) ∧
  (∀ (src : Nat) (more : List Nat) (a : Nat) (s : State), s.openSlots = src :: more → s.logQueue = [] → s.on F.EV_LOG_CFG_EN 0 = true →
    s.ringUsed < 4096 → s.on F.EV_LOG_CFG_ARCH_EN 0 = false → s.march.borrowed = none →
    a = 0x12780000 + 16 * (s.rd F.EV_LOG_WR_IDX 0 % 4096) →
    ∃ t, exec .logSummaryWrite s = .next t ∧ (t.slot src).count = 0 ∧ t.rd F.EV_COAL_CNT_CNT src = 0 ∧
      t.logSeq = (s.logSeq + 1) % 65536 ∧
      (Mem.readWord t.mem (a + 12)).toNat =
        min (s.slot src).count 65535 * 65536 + min (((s.slot src).last - (s.slot src).first).toNat) 65535 ∧
      (∀ b, b < a ∨ a + 16 ≤ b → Mem.read t.mem b = Mem.read s.mem b) ∧ t.anc = s.anc ∧
      s.OnlyRegs t [.EV_LOG_WR, .EV_COAL_CNT]) ∧
  (∀ s : State, s.logQueue = [] → exec .logRecordWrite s = .next s) ∧
  (∀ s : State, s.on F.EV_LOG_CFG_EN 0 = false → exec .logRecordWrite s = .next s ∧ exec .logSummaryWrite s = .next s) ∧
  (∀ (m : Initiator) (v : Word) (s : State),
    ∃ t, exec (.evLogRdWrite m v) s = .next t ∧ t.ringUsed ≤ 4096 ∧
      ((s.rd F.EV_LOG_WR_IDX 0 + 8192 - v.toNat % 8192) % 8192 ≤ 4096 → t.rd F.EV_LOG_RD_IDX 0 = v.toNat % 8192) ∧
      t.rd F.EV_LOG_WR_IDX 0 = s.rd F.EV_LOG_WR_IDX 0 ∧ t.answer m.copy = .ok 0 ∧ s.OnlyAt t 0 [.EV_LOG_RD] ∧ s.SameMemory t)

/-- R584 to R588, R594, R596: outside user mode an event selection and the PM configuration are taken, and user mode gets the error response
with cause PRIV; a counter of control cycles wraps at 2^48 with its overflow bit, and counts nothing while it selects another event. -/
def Obligations.PerformanceCountersCount : Prop :=
  (∀ (m : Initiator) (v : Word) (s : State), m.isUser = false →
    (∀ i : Fin 64, ∃ t, exec (.pcEvselWrite m i v) s = .next t ∧ t.rd F.PC_EVSEL_EVENT i.val = F.PC_EVSEL_EVENT.get v ∧
      t.rd F.PC_EVSEL_INDEX i.val = F.PC_EVSEL_INDEX.get v ∧ t.ctrs = s.ctrs ∧ t.answer m.copy = .ok 0 ∧
      s.OnlyAt t i.val [.PC_EVSEL] ∧ s.SameMemory t) ∧
    (F.PM_CFG_OFS.get v = s.rd F.PM_CFG_OFS 0 →
      ∃ t, exec (.pmOfsWrite m v) s = .next t ∧ t.rd F.PM_CFG_OFS 0 = F.PM_CFG_OFS.get v ∧ t.rd F.PM_CFG_EN 0 = F.PM_CFG_EN.get v ∧
        t.bins = s.bins ∧ t.rd F.PM_STAT_DEFINED 0 = min s.pmEntities.length 65535 ∧ t.answer m.copy = .ok 0 ∧
        s.OnlyRegs t [.PM_CFG, .PM_STAT, .PC_STICKY] ∧ s.SameMemory t) ∧
    (∃ t, exec (.pmOfsWrite m v) s = .next t ∧ t.rd F.PM_CFG_OFS 0 = F.PM_CFG_OFS.get v ∧ t.mem = s.mem)) ∧
  (∀ (m : Initiator) (v : Word) (i : Fin 64) (s : State), m.isUser = true →
    (∃ t, exec (.pcEvselWrite m i v) s = .next t ∧ t.answer m.copy = .error .priv ∧ t.reg .PC_EVSEL i.val = s.reg .PC_EVSEL i.val) ∧
    (∃ t, exec (.pmOfsWrite m v) s = .next t ∧ t.answer m.copy = .error .priv ∧ t.reg .PM_CFG 0 = s.reg .PM_CFG 0)) ∧
  (∀ (i : Fin 64) (n : Nat) (s : State),
    (1 ≤ s.rd F.PC_EVSEL_EVENT i.val → s.rd F.PC_EVSEL_EVENT i.val ≤ 4 → s.rd F.PC_EVSEL_INDEX i.val < 4 →
      ∃ t, exec (.pcOverflow i n) s = .next t ∧ t.ctr ⟨.pc, i.val, 0⟩ = (s.ctr ⟨.pc, i.val, 0⟩ + n) % 2 ^ 48 ∧
        (s.ctr ⟨.pc, i.val, 0⟩ + n < 2 ^ 48 → t.regs = s.regs) ∧
        (2 ^ 48 ≤ s.ctr ⟨.pc, i.val, 0⟩ + n → i.val < 32 → (t.rd F.PC_OVF_LO_OVF 0).testBit i.val = true) ∧
        (2 ^ 48 ≤ s.ctr ⟨.pc, i.val, 0⟩ + n → 32 ≤ i.val → (t.rd F.PC_OVF_HI_OVF 0).testBit (i.val - 32) = true) ∧
        (2 ^ 48 ≤ s.ctr ⟨.pc, i.val, 0⟩ + n → s.on F.PC_EVSEL_OVF_IE i.val = true → t.on (leafBit .PC_STICKY 0) 0 = true) ∧
        s.OnlyRegs t [.PC_OVF_LO, .PC_OVF_HI, .PC_STICKY] ∧ s.SameMemory t) ∧
    (7 < s.rd F.PC_EVSEL_EVENT i.val ∨ s.rd F.PC_EVSEL_EVENT i.val = 0 → exec (.pcOverflow i n) s = .next s))

/-- R589 to R593, R517, R588: a ring that is due and can be written takes the next sequence number and a snapshot; with the engine still busy
it counts a skip; each boundary is due once; a whole entry advances the write index and touches only its place in the region; STOP disables
every ring; enabling a ring starts its numbers at 0. -/
def Obligations.DumpRingsTakeSnapshots : Prop :=
  (∀ s : State, s.dumpAt = some s.now → exec .dumpRingDue s = .next s) ∧
  (∀ (r : Fin 4) (s : State), s.dumpAt ≠ some s.now → s.on F.PC_DUMP_CFG_EN r.val = true →
    s.tick.toNat % 2 ^ min 20 (s.rd F.PC_DUMP_CFG_K r.val) = 0 →
    (s.dumpJobs = [] → s.dumpFull r.val = false → (s.dumpPlace r.val (s.rd F.PC_DUMP_WR_IDX r.val)).isSome = true →
      ∃ t, exec .dumpRingDue s = .next t ∧ t.dumpSeq r.val = (s.dumpSeq r.val + 1) % 2 ^ 32 ∧
        t.rd F.PC_DUMP_STAT_SEQ r.val = (s.dumpSeq r.val + 1) % 2 ^ 32 % 2 ^ F.PC_DUMP_STAT_SEQ.width ∧
        (∃ j, j ∈ t.dumpJobs ∧ j.ring = r.val) ∧ t.dumpAt = some s.now ∧ s.OnlyRegs t [.PC_DUMP_STAT, .PC_STICKY] ∧ s.SameMemory t) ∧
    (s.dumpJobs ≠ [] →
      ∃ t, exec .dumpRingDue s = .next t ∧ t.dumpJobs = s.dumpJobs ∧ t.on (leafBit .PC_STICKY 2) 0 = true ∧
        t.rd F.PC_DUMP_STAT_SKIPPED r.val = (s.rd F.PC_DUMP_STAT_SKIPPED r.val + 1) % 2 ^ F.PC_DUMP_STAT_SKIPPED.width ∧
        s.OnlyRegs t [.PC_DUMP_STAT, .PC_STICKY] ∧ s.SameMemory t)) ∧
  (∀ (r : Fin 4) (j : DumpJob) (a : Nat) (s : State), s.dumpJobs.find? (·.ring == r.val) = some j →
    s.on F.PC_DUMP_CFG_DEST r.val = false → s.dumpPlace r.val (s.rd F.PC_DUMP_WR_IDX r.val) = some a →
    ∃ t, exec (.dumpEntryWritten r) s = .next t ∧
      t.rd F.PC_DUMP_WR_IDX r.val = (s.rd F.PC_DUMP_WR_IDX r.val + 1) % 2 ^ F.PC_DUMP_WR_IDX.width ∧
      (∀ x, x ∈ t.dumpJobs → x.ring ≠ r.val) ∧ t.on (leafBit .PC_STICKY 1) 0 = true ∧
      (∀ b, b < a ∨ a + j.bytes.length ≤ b → Mem.find t.anc b = Mem.find s.anc b) ∧ t.mem = s.mem ∧
      s.OnlyRegs t [.PC_DUMP_WR, .PC_STICKY]) ∧
  (∀ (r : Fin 4) (s : State), s.dumpJobs = [] → exec (.dumpEntryWritten r) s = .next s) ∧
  (∀ (m : Initiator) (s : State), m.isUser = false →
    (∃ t, exec (.dumpStop m false) s = .next t ∧ t.dumpJobs = [] ∧ (∀ r, r < 4 → t.on F.PC_DUMP_CFG_EN r = false) ∧
      t.answer m.copy = .ok 0 ∧ s.OnlyRegs t [.PC_DUMP_CFG] ∧ s.SameMemory t) ∧
    (∀ (r : Fin 4) (v : Word), F.PC_DUMP_CFG_EN.get v = 1 →
      ∃ t, exec (.dumpRingEnable m r v) s = .next t ∧ t.on F.PC_DUMP_CFG_EN r.val = true ∧
        t.rd F.PC_DUMP_CFG_K r.val = F.PC_DUMP_CFG_K.get v ∧ t.dumpSeq r.val = 0 ∧ t.rd F.PC_DUMP_WR_IDX r.val = 0 ∧
        t.rd F.PC_DUMP_RD_IDX r.val = 0 ∧ t.answer m.copy = .ok 0 ∧
        s.OnlyAt t r.val [.PC_DUMP_CFG, .PC_DUMP_STAT, .PC_DUMP_WR, .PC_DUMP_RD] ∧ s.SameMemory t))

/-- R118, R564, R565, R566, R569: on a device that journals nothing APPLY holds the swap registers, puts a sound image's manifest into the
shadow bank and asks for PREPARE, REVERT does so with the PREVIOUS image; APPLY ends APPLIED once the bank is ready, or with the broken rule;
COMMIT with its lead arms the swap, without it TICK_LATE is set; ABORT discards the applied image and the prepared bank; PERSIST of a sound
slot starts a record, which goes to the copy that does not hold the newest one, with the next sequence number. -/
def Obligations.ImageCommandsAreTaken : Prop :=
  (∀ (m : Initiator) (v : Word) (im : Image) (c : Instr) (s : State), m.isUser = false → s.Alone → s.imgState = 0 → s.swapTaken = false →
    s.imageFault im s.holds = none →
    (c = .imgApply m v im ∧ s.devState ≠ .recovery ∧ s.image.anchorage.any (·.kind == 8) = true) ∨
      (c = .imgRevert m v ∧ s.previous = some im) →
    ∃ t, exec c s = .next t ∧ t.imgState = 3 ∧ t.rd F.SY_IMG_STAT_RESULT 0 = 0 ∧ t.applied = some im ∧ t.image = s.image ∧
      t.swap.holder = .image ∧ t.atBoundary = s.atBoundary ++ [.gridPrepare] ∧ t.liveBank = s.liveBank ∧
      (∀ p, t.manifest s.liveBank p = s.manifest s.liveBank p) ∧
      ((im.manifest.map (·.1)).Nodup → ∀ x, x ∈ im.manifest → t.manifest (1 - s.liveBank) x.1 = x.2) ∧
      t.answer m.copy = .ok 0 ∧ s.OnlyAt t 0 [.SY_IMG_CMD, .SY_IMG_STAT, .SY_IMG_DIGEST_A] ∧ s.SameMemory t) ∧
  (∀ (im : Image) (s : State), s.applied = some im → s.imgState = 3 → s.imageJob.fault = none → s.swapState = .ready →
    ∃ t, exec .applyDone s = .next t ∧ t.imgState = 4 ∧ t.on F.SY_IMG_STAT_CLASS_X 0 = (s.committed && im.restartsFrom s.image) ∧
      t.applied = some im ∧ t.image = s.image ∧ s.OnlyAt t 0 [.SY_IMG_STAT] ∧ s.SameMemory t) ∧
  (∀ (b : Broken) (s : State), s.imgState = 2 → s.imageJob.fault = some b →
    ∃ t, exec .applyDone s = .next t ∧ t.imgState = 0 ∧ t.applied = none ∧ t.image = s.image ∧
      t.rd F.SY_IMG_STAT_RESULT 0 = (if b.2.2 = 551 then 5 else 4) ∧ t.rd F.SY_IMG_RULE_RULE 0 = b.2.2 % 2 ^ F.SY_IMG_RULE_RULE.width ∧
      t.on (leafBit .SY_IMG_STICKY 1) 0 = true ∧ s.OnlyAt t 0 [.SY_IMG_STAT, .SY_IMG_ERR, .SY_IMG_RULE, .SY_IMG_STICKY] ∧ s.SameMemory t) ∧
  (∀ (m : Initiator) (v : Word) (s : State), m.isUser = false → s.Alone → s.imgState = 4 → s.devState ≠ .recovery → s.domain = none →
    s.swapState = .ready → s.on F.GRID_SWAP_STAT_ARMED 0 = false →
    (leadFrom s.tick s.imgAt 8 = true →
      ∃ t, exec (.imgCommit m v) s = .next t ∧ t.imgState = 5 ∧ t.on F.GRID_SWAP_STAT_ARMED 0 = true ∧ t.swap.due = s.imgAt ∧
        t.imageJob.due = s.imgAt ∧ t.imageJob.persist = (F.SY_IMG_CMD_PERSIST_C.get v == 1) ∧ t.image = s.image ∧
        t.applied = s.applied ∧ t.answer m.copy = .ok 0 ∧ s.OnlyAt t 0 [.SY_IMG_CMD, .SY_IMG_STAT, .GRID_SWAP_STAT] ∧ s.SameMemory t) ∧
    (leadFrom s.tick s.imgAt 8 = false →
      ∃ t, exec (.imgCommit m v) s = .next t ∧ t.imgState = 4 ∧ t.rd F.SY_IMG_STAT_RESULT 0 = 3 ∧ t.on F.GRID_STICKY_TICK_LATE 0 = true ∧
        t.on F.GRID_SWAP_STAT_ARMED 0 = false ∧ t.applied = s.applied ∧ s.OnlyAt t 0 [.SY_IMG_CMD, .SY_IMG_STAT, .GRID_STICKY] ∧
        s.SameMemory t)) ∧
  (∀ (m : Initiator) (v : Word) (s : State), m.isUser = false → s.Alone → s.devState ≠ .recovery → s.swapState = .ready →
    s.imgState = 4 ∨ (s.imgState = 5 ∧ leadFrom s.tick s.imageJob.due 2 = true) →
    ∃ t, exec (.imgAbort m v) s = .next t ∧ t.imgState = 0 ∧ t.applied = none ∧ t.image = s.image ∧ t.rd F.SY_IMG_STAT_RESULT 0 = 10 ∧
      t.swapState = .idle ∧ t.on F.GRID_SWAP_STAT_ARMED 0 = false ∧ t.swap.locked = false ∧ t.answer m.copy = .ok 0 ∧
      s.OnlyAt t 0 [.SY_IMG_CMD, .SY_IMG_STAT, .GRID_SWAP_STAT] ∧ s.SameMemory t) ∧
  (∀ (m : Initiator) (v : Word) (im : Image) (s : State), m.isUser = false → s.imgState = 0 → F.SY_IMG_CMD_SRC.get v < 2 →
    s.imageFault im s.holds = none →
    ∃ t, exec (.imgPersist m v im) s = .next t ∧ t.imgState = 6 ∧ t.imageJob.record = (F.SY_IMG_CMD_SRC.get v, im.length, im.digest) ∧
      t.answer m.copy = .ok 0 ∧ s.OnlyAt t 0 [.SY_IMG_CMD, .SY_IMG_STAT] ∧ s.SameMemory t) ∧
  (∀ (a b : CommitRecord) (s : State), s.imgState = 6 →
    (∃ t, exec (.recordWriteDone (some a) (some b) true) s = .next t ∧ t.imgState = 0 ∧ t.rd F.SY_IMG_STAT_RESULT 0 = 1 ∧
      t.outbox = s.outbox ++ [if 1 ≤ (b.seq - a.seq).toNat ∧ (b.seq - a.seq).toNat < 2 ^ 31
        then .record 0 ⟨b.seq + 1, s.imageJob.record.1, s.imageJob.record.2.1, s.imageJob.record.2.2⟩
        else .record 1 ⟨a.seq + 1, s.imageJob.record.1, s.imageJob.record.2.1, s.imageJob.record.2.2⟩] ∧
      s.OnlyAt t 0 [.SY_IMG_STAT] ∧ s.SameMemory t) ∧
    (∃ t, exec (.recordWriteDone (some a) (some b) false) s = .next t ∧ t.imgState = 0 ∧ t.rd F.SY_IMG_STAT_RESULT 0 = 9 ∧
      t.on (leafBit .SY_IMG_STICKY 3) 0 = true ∧ s.OnlyAt t 0 [.SY_IMG_STAT, .SY_IMG_STICKY] ∧ s.SameMemory t))

/-- R566: at boundary N of an armed commit whose swap switched the APPLIED image becomes COMMITTED and the COMMITTED image PREVIOUS, the
service mode is the image's and a record follows where PERSIST_C asks for one; where the swap was missed nothing of the image takes
effect and RESULT reads PLACE; at any other boundary nothing happens.  (An image without REGINIT records; those are register writes.) -/
def Obligations.ImageCommitsAtItsBoundary : Prop :=
  (∀ (im : Image) (s : State), s.imgState = 5 → s.tick = s.imageJob.due → s.on F.GRID_SWAP_STAT_ARMED 0 = false → s.applied = some im →
    (s.swap.switchedAt = some s.now → im.regInit = [] →
      ∃ t, exec .imageCommitBoundary s = .next t ∧ t.image = im ∧ t.committed = true ∧ t.applied = none ∧
        t.previous = (if s.committed = true then some s.image else none) ∧
        t.rd F.SY_MODE_MODE 0 = im.mode % 2 ^ F.SY_MODE_MODE.width ∧
        t.imgState = (if s.imageJob.persist = true ∧ s.imageJob.src ≤ 1 then 6 else 0) ∧
        t.on (leafBit .SY_IMG_STICKY 0) 0 = true ∧ t.mem = s.mem) ∧
    (s.swap.switchedAt ≠ some s.now →
      ∃ t, exec .imageCommitBoundary s = .next t ∧ t.imgState = 0 ∧ t.rd F.SY_IMG_STAT_RESULT 0 = 7 ∧ t.applied = none ∧
        t.image = s.image ∧ t.committed = s.committed ∧ t.previous = s.previous ∧ s.OnlyAt t 0 [.SY_IMG_STAT] ∧ s.SameMemory t)) ∧
  (∀ s : State, s.imgState ≠ 5 ∨ s.tick ≠ s.imageJob.due → exec .imageCommitBoundary s = .next s)

/-- R552 to R554, R572: outside programming, with VFUSE and a target that is not refused, a trusted master starts the programming; its end
takes the value into the cells, clears SEC_FUSE_DATA and leaves the loaded fuses as they are until PORSTn, a lost VFUSE or a verify failure
leaves a single-bit target as it is; UNLOCK of machine mode opens a locked debug module unless it is sealed; a block reset waits for the
boundary and is released at a later one. -/
def Obligations.FusesUnlockAndBlockResets : Prop :=
  (∀ (m : Initiator) (v : Word) (s : State),
    (m.trusted = true → s.on F.SEC_FUSE_STAT_BUSY 0 = false → s.on F.MM_REP_STAT_VFUSE_OK 0 = true →
      s.fuseCells.refuses (s.on F.SEC_DK_STAT_DK_VALID 0) (F.SEC_FUSE_CMD_TARGET.get v) = false →
      ∃ t, exec (.fuseProgram m v) s = .next t ∧ t.fuseTarget = some (F.SEC_FUSE_CMD_TARGET.get v) ∧ t.on F.SEC_FUSE_STAT_BUSY 0 = true ∧
        t.fuseCells = s.fuseCells ∧ t.fuses = s.fuses ∧ t.answer m.copy = .ok 0 ∧
        s.OnlyAt t 0 [.SEC_FUSE_CMD, .SEC_FUSE_STAT] ∧ s.SameMemory t) ∧
    (m.trusted = false →
      ∃ t, exec (.fuseProgram m v) s = .next t ∧ t.answer m.copy = .error .priv ∧ t.fuseTarget = s.fuseTarget ∧
        t.fuseCells = s.fuseCells ∧ s.OnlyRegs t [.BM_ERR, .BM_ERR_ADDR, .BM_STICKY] ∧ s.SameMemory t)) ∧
  (∀ (g : Nat) (s : State), s.fuseTarget = some g →
    (∃ t, exec (.fuseDone .done) s = .next t ∧ t.fuseCells = s.fuseCells.take g (s.fuseValue g) ∧ t.fuses = s.fuses ∧
      t.fuseTarget = none ∧ t.on F.SEC_FUSE_STAT_BUSY 0 = false ∧ t.rd F.SEC_FUSE_STAT_RESULT 0 = 1 ∧
      (∀ k, k < 12 → t.reg .SEC_FUSE_DATA k = 0) ∧ s.OnlyRegs t [.SEC_FUSE_DATA, .SEC_FUSE_STAT] ∧ s.SameMemory t) ∧
    (g ≠ 1 → g ≠ 2 → g ≠ 9 → ∀ how, how ≠ .done →
      ∃ t, exec (.fuseDone how) s = .next t ∧ t.fuseCells = s.fuseCells ∧ t.fuseTarget = none ∧ t.on F.SEC_FUSE_STAT_BUSY 0 = false ∧
        (∀ k, k < 12 → t.reg .SEC_FUSE_DATA k = 0) ∧ s.OnlyRegs t [.SEC_FUSE_DATA, .SEC_FUSE_STAT] ∧ s.SameMemory t)) ∧
  (∀ (m : Initiator) (v : Word) (s : State), v.toNat.testBit 0 = true →
    (2 ≤ m.num.val → m.num.val ≤ 5 → m.user = false →
      (s.fuses.dbgLock = true → s.fuses.dbgSeal = false →
        ∃ t, exec (.debugUnlock m v) s = .next t ∧ t.on F.SEC_DBG_CTRL_UNLOCKED 0 = true ∧ t.answer m.copy = .ok 0 ∧
          s.OnlyAt t 0 [.SEC_DBG_CTRL] ∧ s.SameMemory t) ∧
      (s.fuses.dbgSeal = true → exec (.debugUnlock m v) s = .next (s.reply m (.ok 0)))) ∧
    (m.num.val < 2 ∨ 5 < m.num.val ∨ m.user = true →
      ∃ t, exec (.debugUnlock m v) s = .next t ∧ t.answer m.copy = .error .priv ∧ t.reg .SEC_DBG_CTRL 0 = s.reg .SEC_DBG_CTRL 0)) ∧
  (∀ (m : Initiator) (v : Word) (x : Resource) (s : State), m.isUser = false → F.SY_BLKRST_GO.get v = 1 → s.resourceOf v = some x →
    ∃ t, exec (.blockReset m v) s = .next t ∧ t.atBoundary = s.atBoundary ++ [.blockReset x] ∧ t.answer m.copy = .ok 0 ∧
      s.OnlyAt t 0 [.SY_BLKRST] ∧ s.SameMemory t) ∧
  (∀ (q n : Nat) (s : State), s.blockResets = [(.quay q, n)] →
    (n < s.now → ∃ t, exec .blockResetRelease s = .next t ∧ t.blockResets = [] ∧ t.client (2 * q) = {} ∧ t.client (2 * q + 1) = {} ∧
      s.OnlyRegs t [.QY_STAT, .TR_STAT] ∧ s.SameMemory t) ∧
    (s.now ≤ n → exec .blockResetRelease s = .next s))

/-- R95, R42: PORSTn sets every entry of both manifest banks to 0x8800_0000 and clears SY_LOOP_FREEZE; SRSTn changes neither bank, leaves
SY_LOOP_FREEZE unchanged, and so does its release to the state held before. -/
def Obligations.ResetsOnBanksAndFreezes : Prop :=
  entryAct 0x88000000 = .idle ∧ entrySrc 0x88000000 = 0 ∧ entryTrain 0x88000000 = 0 ∧ entryRole 0x88000000 = 0 ∧
  (∀ (fuse repair : FuseCut) (s : State), ∃ t, exec (.porstnAssert fuse repair) s = .next t ∧ (∀ b p, t.manifest b p = 0x88000000) ∧
    t.reg .SY_LOOP_FREEZE 0 = 0) ∧
  (∀ (burst : List (Fin 10)) (s : State), ∃ t, exec (.srstnAssert burst) s = .next t ∧ (∀ b p, t.manifest b p = s.manifest b p) ∧
    t.reg .SY_LOOP_FREEZE 0 = s.reg .SY_LOOP_FREEZE 0) ∧
  (∀ (f : BootFlash) (s : State), s.boot.before ≠ .boot ∨ s.devState ≠ .boot → ∃ t, exec (.srstnRelease f) s = .next t ∧
    (∀ b p, t.manifest b p = s.manifest b p) ∧ t.reg .SY_LOOP_FREEZE 0 = s.reg .SY_LOOP_FREEZE 0)

/-- R6, R28, R117, R267, R303, R509, R522, R550, R558, R570, R571, R628: PORSTn returns every register to its reset value, empties memories, keys
and images, and cuts a fuse programming as told; its release, or that of a cooled thermal shutdown, samples the straps and starts core 0 in
BOOT; SRSTn stops the cores in BOOT and keeps TICK_NO, images, keys and memories; its release returns to the state held before. -/
def Obligations.ResetsClearAndKeepState : Prop :=
  (∀ (fuse repair : FuseCut) (s : State), ∃ t, exec (.porstnAssert fuse repair) s = .next t ∧ (∀ r i, t.reg r i = r.resetValue i) ∧
    t.tick = 0 ∧ t.mem = [] ∧ t.anc = [] ∧ t.written = [] ∧ t.enc = [] ∧ t.image = {} ∧ t.committed = false ∧ t.cores = [] ∧
    t.boot = { spiCut := s.spiEnded } ∧ t.pending = s.pending ∧ (s.fuseTarget = none → t.fuseCells = s.fuseCells)) ∧
  (∀ (straps : Straps) (xo : Option (Fin 5)) (c : Instr) (n : Nat) (s : State), s.boot.porst = true →
    (c = .porstnRelease straps xo ∧ s.boot.thermal = false ∧ n = 0) ∨
      (c = .thermalResetRelease straps xo ∧ s.thermalCool = true ∧ n = 2) →
    ∃ t, exec c s = .next t ∧ t.boot.porst = false ∧ t.devState = .boot ∧ t.rd F.SY_RST_CAUSE_LAST 0 = n ∧
      t.rd F.SY_STRAP_BOOT_SRC 0 = straps.bootSrc.val ∧ t.rd F.SY_STRAP_HROLE 0 = straps.hrole.val ∧
      t.on F.SY_STRAP_MATE_EN 0 = straps.mateEn ∧ t.on F.SY_STRAP_DEF_HALT 0 = straps.defHalt ∧
      t.on F.SY_STRAP_TEST_EN 0 = straps.testEn ∧ t.rd F.HR_CFG_ROLE 0 = (if straps.hrole.val = 3 then 0 else straps.hrole.val) ∧
      (∀ f, xo = some f → t.rd F.TM_XO_FREQ 0 = f.val) ∧ (xo = none → t.alarmLow t.boot.xoBad = true) ∧
      (t.core 0).running = true ∧ (t.core 0).start = 0 ∧
      s.OnlyRegs t [.SY_STATE, .SY_STRAP, .SY_RST_CAUSE, .HR_CFG, .HR_DSTICKY, .TM_XO] ∧ s.SameMemory t) ∧
  (∀ (straps : Straps) (xo : Option (Fin 5)) (s : State), s.boot.porst = false →
    exec (.porstnRelease straps xo) s = .next s ∧ exec (.thermalResetRelease straps xo) s = .next s) ∧
  (∀ (burst : List (Fin 10)) (s : State), s.boot.porst = false → s.boot.srst = false →
    ∃ t, exec (.srstnAssert burst) s = .next t ∧ t.devState = .boot ∧ t.boot.srst = true ∧ t.boot.before = s.devState ∧ t.cores = [] ∧
      t.tick = s.tick ∧ t.image = s.image ∧ t.enc = s.enc ∧ t.fuses = s.fuses ∧ t.written = s.written ∧
      t.boot.spiCut = s.spiEnded ∧ (∀ e, e < 8 → t.on F.LE_SPI_CTRL_BUSY e = false) ∧
      t.reg .SY_STRAP 0 = s.reg .SY_STRAP 0 ∧ t.reg .MT_STAT 0 = s.reg .MT_STAT 0 ∧ t.reg .MM_ANC_STAT 0 = s.reg .MM_ANC_STAT 0 ∧
      (s.imgState = 4 → t.imgState = 0 ∧ t.rd F.SY_IMG_STAT_RESULT 0 = 8 ∧ t.applied = none) ∧ s.SameMemory t) ∧
  (∀ (f : BootFlash) (s : State), s.boot.srst = true → s.devState = .boot → s.boot.before ≠ .boot →
    ∃ t, exec (.srstnRelease f) s = .next t ∧ t.devState = s.boot.before ∧ t.boot.srst = false ∧ t.rd F.SY_RST_CAUSE_LAST 0 = 1 ∧
      t.rd F.SY_RST_CAUSE_SRST_CNT 0 = (s.rd F.SY_RST_CAUSE_SRST_CNT 0 + 1) % 2 ^ F.SY_RST_CAUSE_SRST_CNT.width ∧
      t.sourceSticky 7 = true ∧ (t.core 0).running = true ∧ t.tick = s.tick ∧ t.image = s.image ∧
      (∀ e, e ∈ s.boot.spiCut → t.on F.LE_STICKY_SPI_ERR e = true) ∧ s.OnlyRegs t [.SY_STATE, .SY_RST_CAUSE, .SY_APPLET, .LE_STICKY] ∧ s.SameMemory t)

/-- R6, R500, R559 to R562: after fuse load TEST_EN leads to TEST, BOOT_SRC 3 to RECOVERY, 2 to START-UP with the default image, 1 waits for
HOST_GO; an accepted host image starts up, a rejected one with DEF_HALT ends in RECOVERY; trained holds end the wait, traffic-ready clients
lead to NORMAL, and an unrecoverable image fault from NORMAL to RECOVERY. -/
def Obligations.StartUpFollowsItsTable : Prop :=
  (∀ (f : BootFlash) (d : Dimms) (r : Option (Fin 7)) (s : State), s.boot.porst = false → s.boot.loaded = false → s.boot.xoBad = false →
    s.boot.srst = false →
    (s.on F.SY_STRAP_TEST_EN 0 = true → ∃ t, exec (.fuseLoadDone f d r) s = .next t ∧ t.devState = .test ∧ t.fuses = s.fuseCells ∧
      t.rd F.SY_BOOT_STAT_SRC 0 = 3 ∧ t.rd F.SY_ID_VARIANT 0 = s.fuseCells.variant % 2 ^ F.SY_ID_VARIANT.width ∧
      s.OnlyRegs t [.SY_STATE, .SY_BOOT_STAT, .SY_ID, .FP_CTRL, .MM_ANC_STAT, .MM_STICKY, .SEC_SB_STAT, .SEC_DK_STAT, .LE_STICKY] ∧
      s.SameMemory t) ∧
    (s.on F.SY_STRAP_TEST_EN 0 = false →
      (s.rd F.SY_STRAP_BOOT_SRC 0 = 3 → ∃ t, exec (.fuseLoadDone f d r) s = .next t ∧ t.devState = .recovery ∧ t.fuses = s.fuseCells) ∧
      (s.rd F.SY_STRAP_BOOT_SRC 0 = 2 → s.on F.SY_STRAP_MATE_EN 0 = false →
        ∃ t, exec (.fuseLoadDone f d r) s = .next t ∧ t.devState = .startUp ∧ t.rd F.SY_BOOT_STAT_SRC 0 = 2) ∧
      (s.rd F.SY_STRAP_BOOT_SRC 0 = 1 → ∃ t, exec (.fuseLoadDone f d r) s = .next t ∧ t.boot.hostWait = true ∧ t.devState = s.devState ∧
        s.SameMemory t))) ∧
  (∀ (m : Initiator) (v : Word) (im : Image) (s : State), m.isUser = false → s.boot.hostWait = true → s.devState = .boot →
    (s.imageReason im s.installed true = 0 → s.on F.SY_STRAP_MATE_EN 0 = false →
      ∃ t, exec (.hostGo m v im) s = .next t ∧ t.devState = .startUp ∧ t.rd F.SY_BOOT_STAT_SRC 0 = 1 ∧ t.answer m.copy = .ok 0) ∧
    (s.imageReason im s.installed true ≠ 0 → s.on F.SY_STRAP_DEF_HALT 0 = true →
      ∃ t, exec (.hostGo m v im) s = .next t ∧ t.devState = .recovery ∧ t.rd F.SY_BOOT_STAT_SRC 0 = 3 ∧
        t.rd F.SY_BOOT_STAT_REASON_B 0 = s.imageReason im s.installed true ∧ t.image = s.image ∧ s.SameMemory t)) ∧
  (∀ (hbm ddr : Bool) (s : State), s.devState = .startUp → s.boot.trained = false →
    s.image.inFailed (!hbm) (!ddr || s.rd F.MM_ANC_STAT_DDR_CH 0 == 0) = false →
    ∃ t, exec (.anchorageTrainingDone hbm ddr) s = .next t ∧ t.boot.trained = true ∧ t.on F.MM_ANC_STAT_HBM_OK 0 = hbm ∧
      t.on F.MM_ANC_STAT_DDR_OK 0 = (ddr && s.rd F.MM_ANC_STAT_DDR_CH 0 != 0) ∧ t.devState = .startUp ∧
      s.OnlyAt t 0 [.MM_ANC_STAT, .MM_STICKY] ∧ s.SameMemory t) ∧
  (∀ s : State, (s.trafficCan = true → ∃ t, exec .trafficReady s = .next t ∧ t.devState = .normal ∧ s.OnlyAt t 0 [.SY_STATE] ∧
      s.SameMemory t) ∧ (s.trafficCan = false → exec .trafficReady s = .next s)) ∧
  (∀ s : State, (s.devState = .normal → ∃ t, exec .unrecoverableImageFault s = .next t ∧ t.devState = .recovery ∧ t.mem = s.mem) ∧
    (s.devState ≠ .normal → exec .unrecoverableImageFault s = .next s))

/-- R626 to R629: a failed sensor raises THERM_ALARM; a reading of 135 °C turns the drivers off and asks for the reset at the next boundary,
16 ticks from 130 °C ask for it after the longest T_DARK, otherwise nothing happens; in TEST the built-in test starts, is stopped and ends
with the memories at zero, and outside TEST GO gets the error response with cause TARGET. -/
def Obligations.ThermalGuardAndBist : Prop :=
  (∀ s : State, ∃ t, exec .sensorFail s = .next t ∧ t.on F.SY_STICKY_THERM_ALARM 0 = true ∧ s.OnlyAt t 0 [.SY_STICKY] ∧ s.SameMemory t) ∧
  (∀ (tj : Int) (s : State), s.thermal.tj = some tj → s.boot.porst = false → s.thermal.resetAt = none →
    (540 ≤ tj → ∃ t, exec .thermalShutdown s = .next t ∧ t.thermal.resetAt = some (s.now + 1) ∧
      (∀ e, s.engineExists e = true → t.txState e ≤ 1 ∧ (t.engine e).thermal = true) ∧
      (s.active = true → t.mate.release = true) ∧ s.OnlyRegs t [.LE_STAT] ∧ s.SameMemory t) ∧
    (tj < 540 → 16 ≤ s.thermal.hot → ∃ t, exec .thermalShutdown s = .next t ∧
      t.thermal.resetAt = some (s.now + 10 * s.longestDark / 32 + 1) ∧
      (∀ e, s.engineExists e = true → (t.engine e).thermal = true) ∧ s.SameMemory t) ∧
    (tj < 540 → s.thermal.hot < 16 → exec .thermalShutdown s = .next s)) ∧
  (∀ (m : Initiator) (v : Word) (s : State), F.TS_BIST_CTRL_GO.get v = 1 → F.TS_BIST_CTRL_ABORT.get v = 0 →
    (s.devState = .test → s.on F.TS_BIST_STAT_BUSY 0 = false →
      ∃ t, exec (.bistGo m v) s = .next t ∧ t.on F.TS_BIST_STAT_BUSY 0 = true ∧ t.on F.TS_BIST_STAT_DONE 0 = false ∧
        t.answer m.copy = .ok 0 ∧ s.OnlyAt t 0 [.TS_BIST_STAT] ∧ s.SameMemory t) ∧
    (s.devState ≠ .test →
      ∃ t, exec (.bistGo m v) s = .next t ∧ t.answer m.copy = .error .target ∧ t.rd F.BM_ERR_CAUSE 0 = BusCause.target.code ∧
        s.OnlyAt t 0 [.BM_ERR, .BM_ERR_ADDR, .BM_STICKY] ∧ s.SameMemory t)) ∧
  (∀ (m : Initiator) (v : Word) (s : State), F.TS_BIST_CTRL_GO.get v = 0 → F.TS_BIST_CTRL_ABORT.get v = 1 →
    s.on F.TS_BIST_STAT_BUSY 0 = true →
    ∃ t, exec (.bistAbort m v) s = .next t ∧ t.on F.TS_BIST_STAT_BUSY 0 = false ∧ t.on F.TS_BIST_STAT_DONE 0 = true ∧
      (∀ a, Mem.read t.mem a = 0) ∧ t.anc = s.anc ∧ t.on F.TS_STICKY_BIST_DONE 0 = true ∧ t.answer m.copy = .ok 0 ∧
      s.OnlyAt t 0 [.TS_BIST_STAT, .TS_STICKY]) ∧
  (∀ (mac : Fin 4096) (col : Fin 1024) (s : State),
    (s.on F.TS_BIST_STAT_BUSY 0 = true → ∃ t, exec (.bistDone (some (mac, col))) s = .next t ∧ t.on F.TS_BIST_STAT_BUSY 0 = false ∧
      t.on F.TS_BIST_STAT_DONE 0 = true ∧ t.on F.TS_BIST_STAT_FAIL 0 = true ∧ t.rd F.TS_BIST_STAT_MACRO 0 = mac.val ∧
      t.rd F.TS_BIST_STAT_COL 0 = col.val ∧ t.on F.TS_STICKY_BIST_DONE 0 = true ∧ (∀ a, Mem.read t.mem a = 0) ∧
      t.anc = s.anc ∧ s.OnlyAt t 0 [.TS_BIST_STAT, .TS_STICKY]) ∧
    (s.on F.TS_BIST_STAT_BUSY 0 = false → exec (.bistDone (some (mac, col))) s = .next s))

/-- R419, R421 to R424, R440, R444 to R446, R449, R420: on an enabled pair the mate link and the bollard line come up and go down after their
runs; a beat goes out at every eighth boundary; a good beat ends the run of misses and shows the mate's state, RELEASE makes an in-step
standby take over after T_DARK, an ACTIVE beat raises DUAL_ACTIVE on an ACTIVE device; the fourth beat missed on both paths raises
MATE_LOST, isolates a standby with a live mate, and else makes it take over or not ready; a fresh intact journal entry waits for its
boundary. -/
def Obligations.MatePathsAndBeats : Prop :=
  (∀ s : State, s.mateEnabled = true → s.mate.linkUp = false →
    (64 ≤ s.mate.linkGood → ∃ t, exec .mateLinkUp s = .next t ∧ t.mate.linkUp = true ∧ s.OnlyAt t 0 [.MT_STAT, .MT_STICKY] ∧ s.SameMemory t) ∧
    (s.mate.linkGood < 64 → exec .mateLinkUp s = .next s)) ∧
  (∀ s : State, s.mate.linkUp = true →
    (4 ≤ s.mate.linkBad → ∃ t, exec .mateLinkDown s = .next t ∧ t.mate.linkUp = false ∧ t.on F.MT_STAT_LINK 0 = false ∧
      t.mateState = s.mateState ∧ s.OnlyAt t 0 [.MT_STAT, .MT_STICKY] ∧ s.SameMemory t) ∧
    (s.mate.linkBad < 4 → exec .mateLinkDown s = .next s)) ∧
  (∀ s : State, s.mateEnabled = true →
    (s.mate.bolUp = false → 4 ≤ s.mate.bollard.intact → ∃ t, exec .bollardLineChange s = .next t ∧ t.mate.bolUp = true ∧
      s.OnlyAt t 0 [.MT_STAT, .MT_STICKY] ∧ s.SameMemory t) ∧
    (s.mate.bolUp = true → 4 ≤ s.mate.bollard.missed → ∃ t, exec .bollardLineChange s = .next t ∧ t.mate.bolUp = false ∧
      t.on F.MT_STAT_BOL 0 = false ∧ t.mateState = s.mateState ∧ s.OnlyAt t 0 [.MT_STAT, .MT_STICKY] ∧ s.SameMemory t)) ∧
  (∀ s : State, s.mateEnabled = true → s.mateState ≠ 0 → s.mateBoot = false →
    (s.tick.toNat % 8 = 0 → s.mate.sentAt ≠ some s.now →
      ∃ t, exec .beatSend s = .next t ∧ t.outbox = s.outbox ++ [.beat s.ownBeat.bytes] ∧ s.ownBeat.bytes.length = 32 ∧
        t.mate.actState = (if s.mateState = 1 then !s.mate.actState else s.mate.actState) ∧ t.regs = s.regs ∧ s.SameMemory t) ∧
    (s.tick.toNat % 8 ≠ 0 → exec .beatSend s = .next s)) ∧
  (∀ (p : MatePath) (b : MateBeat) (s : State), s.mateEnabled = true → s.mateState ≠ 0 → s.mateBoot = false → b.tick.toNat % 8 = 0 →
    ahead s.tick b.tick ≤ 2 →
    (b.state < 8 → b.state ≠ 1 → b.release = false →
      ∃ t, exec (.beatReceive p b true) s = .next t ∧ (t.mate.sight p).missed = 0 ∧ (t.mate.sight p).heard = some b.tick ∧
        t.rd F.MT_STAT_MSTATE 0 = b.state ∧ t.on F.MT_STAT_M_IN_STEP 0 = b.inStep ∧ t.mateState = s.mateState ∧
        s.OnlyAt t 0 [.MT_STAT] ∧ s.SameMemory t) ∧
    (b.state < 8 → b.state ≠ 1 → b.release = true → s.standby = true → s.on F.MT_STAT_IN_STEP 0 = true → s.mate.takeAt = none →
      ∃ t, exec (.beatReceive p b true) s = .next t ∧
        t.mate.takeAt = some (s.now - ahead s.tick b.tick + (10 * s.darkTime + 31) / 32) ∧ s.OnlyAt t 0 [.MT_STAT] ∧ s.SameMemory t) ∧
    (b.state = 1 → b.release = false → s.mateState = 1 → s.yields b = false →
      ∃ t, exec (.beatReceive p b true) s = .next t ∧ t.mateState = 1 ∧ t.on F.MT_STICKY_DUAL_ACTIVE 0 = true ∧
        s.OnlyAt t 0 [.MT_STAT, .MT_STICKY] ∧ s.SameMemory t) ∧
    (∃ t, exec (.beatReceive p b false) s = .next t ∧ (t.mate.sight p).heard = (s.mate.sight p).heard ∧ t.regs = s.regs ∧ s.SameMemory t)) ∧
  (∀ (p q : MatePath) (due : Tick) (s : State), s.mateState ≠ 0 → s.mateBoot = false → 2 ≤ s.tick.toNat % 8 →
    due = s.tick - BitVec.ofNat 48 (s.tick.toNat % 8) → (s.mate.sight p).heard ≠ some due → (s.mate.sight p).missedAt ≠ some due → p ≠ q →
    ((s.mate.sight p).missed < 3 → ∃ t, exec (.beatMiss p) s = .next t ∧ (t.mate.sight p).missed = (s.mate.sight p).missed + 1 ∧
      t.ctr ⟨.mt, if p = .link then 3 else 4, 0⟩ = (s.ctr ⟨.mt, if p = .link then 3 else 4, 0⟩ + 1) % 2 ^ 48 ∧ t.mateState = s.mateState ∧
      t.mate.takeAt = s.mate.takeAt ∧ s.OnlyAt t 0 [.MT_STAT] ∧ s.SameMemory t) ∧
    ((s.mate.sight p).missed = 3 → 4 ≤ (s.mate.sight q).missed →
      (s.mateState = 1 → s.on F.MT_CFG_ARB 0 = false → ∃ t, exec (.beatMiss p) s = .next t ∧ t.mateState = 1 ∧
        t.on F.MT_STICKY_MATE_LOST 0 = true ∧ s.OnlyAt t 0 [.MT_STAT, .MT_STICKY] ∧ s.SameMemory t) ∧
      (s.standby = true → s.presAlive = true → ∃ t, exec (.beatMiss p) s = .next t ∧ t.mateState = 4 ∧
        t.on F.MT_STICKY_ISOLATED 0 = true ∧ s.OnlyAt t 0 [.MT_STAT, .MT_STICKY] ∧ s.SameMemory t) ∧
      (s.standby = true → s.presAlive = false → s.on F.MT_STAT_IN_STEP 0 = true → ∃ t, exec (.beatMiss p) s = .next t ∧
        t.mate.takeAt = some (s.now + 1) ∧ t.mateState = s.mateState ∧ s.OnlyAt t 0 [.MT_STAT, .MT_STICKY] ∧ s.SameMemory t) ∧
      (s.standby = true → s.presAlive = false → s.on F.MT_STAT_IN_STEP 0 = false → ∃ t, exec (.beatMiss p) s = .next t ∧
        t.mateState = 5 ∧ t.on F.MT_STICKY_NOT_READY 0 = true ∧ s.OnlyAt t 0 [.MT_STAT, .MT_STICKY] ∧ s.SameMemory t))) ∧
  (∀ s : State, ∃ t, exec .matePresEdge s = .next t ∧ t.mate.presAt = some s.now ∧ t.on F.MT_STAT_PRES 0 = true ∧
    s.OnlyAt t 0 [.MT_STAT] ∧ s.SameMemory t) ∧
  (∀ s : State, s.presAlive = false → s.on F.MT_STAT_PRES 0 = true →
    (s.mateState = 4 → s.on F.MT_STAT_IN_STEP 0 = true → ∃ t, exec .matePresTimeout s = .next t ∧ t.on F.MT_STAT_PRES 0 = false ∧
      t.mate.takeAt = some (s.now + 1) ∧ s.OnlyAt t 0 [.MT_STAT] ∧ s.SameMemory t) ∧
    (s.mateState ≠ 4 → s.standby = false → ∃ t, exec .matePresTimeout s = .next t ∧ t.on F.MT_STAT_PRES 0 = false ∧
      t.mate.takeAt = s.mate.takeAt ∧ t.mateState = s.mateState ∧ s.OnlyAt t 0 [.MT_STAT] ∧ s.SameMemory t)) ∧
  (∀ s : State, (∃ t, exec (.actGrantChange true) s = .next t ∧ t.mate.grant = true ∧ t.mate.grantLow = 0 ∧ t.regs = s.regs ∧
      s.SameMemory t) ∧
    (s.mate.grant = true → s.mateState = 1 → s.on F.MT_CFG_ARB 0 = true → s.mate.pathUp .link = true →
      ∃ t, exec (.actGrantChange false) s = .next t ∧ t.mate.grant = false ∧ t.mate.grantHigh = 0 ∧ t.mateState = 1 ∧
        t.on F.MT_STICKY_GRANT_CONFLICT 0 = true ∧ s.OnlyAt t 0 [.MT_STICKY] ∧ s.SameMemory t)) ∧
  (∀ (f : MateFrame) (e : JEntry) (s : State), s.mateEnabled = true → s.standby = true → s.mate.markWait = false → f.marker = some s.tick →
    f.entries = [e] →
    (seqAfter e.seq s.mate.received = true → 0 < signed 48 (e.apply - s.tick).toNat →
      ∃ t, exec (.mateFrameReceive f) s = .next t ∧
        t.journal = s.journal ++ [{ e with due := s.now + (signed 48 (e.apply - s.tick).toNat).toNat }] ∧ t.mate.received = e.seq ∧
        t.mate.marker = some (s.tick, s.now) ∧ t.regs = s.regs ∧ s.SameMemory t) ∧
    (seqAfter e.seq s.mate.received = false → ∃ t, exec (.mateFrameReceive f) s = .next t ∧ t.journal = s.journal ∧ t.regs = s.regs ∧
      s.SameMemory t))

/-- R426, R427, R430, R432, R435 to R442, R448: a device in step takes over at its boundary, or on an effective grant, which without IN_STEP
is a hit; RESYNC and GRACE lead to COPY; SWITCHOVER is journaled, and applied by the standby; comparisons count, lead to DIVERGE and, after
1,000 in CONVERGE, to IN_STEP and STANDBY; epochs apply, close and are discarded; a listening device decides after 20 ms. -/
def Obligations.MateRolesAndEpochs : Prop :=
  (∀ (c : Instr) (s : State), s.on F.MT_STAT_IN_STEP 0 = true →
    (c = .takeover ∧ (s.standby = true ∨ s.mateState = 4) ∧ s.mate.quiet = false ∧ ∃ n, s.mate.takeAt = some n ∧ n ≤ s.now) ∨
      (c = .effectiveGrant ∧ s.granted = true ∧ (s.mateState = 4 ∨ s.mateState = 5)) →
    ∃ t, exec c s = .next t ∧ t.mateState = 1 ∧ t.mate.takeAt = none ∧ t.mate.actState = true ∧ t.rd F.MT_STAT_PHASE 0 = 0 ∧
      t.on F.MT_STICKY_TAKEOVER 0 = true ∧ t.ctr ⟨.mt, 9, 0⟩ = (s.ctr ⟨.mt, 9, 0⟩ + 1) % 2 ^ 48 ∧ t.image = s.image ∧ t.journal = s.journal ∧
      s.OnlyRegs t [.MT_STAT, .MT_STICKY, .MT_JSEQ, .LE_STAT, .LE_STICKY] ∧ s.SameMemory t) ∧
  (∀ s : State, s.mate.takeAt = none → exec .takeover s = .next s) ∧
  (∀ s : State, s.granted = false → exec .effectiveGrant s = .next s) ∧
  (∀ (m : Initiator) (v : Word) (s : State), F.MT_CTRL_SW_GRANT.get v = 1 → s.mateState = 5 → s.on F.MT_CFG_ARB 0 = false →
    (s.on F.MT_STAT_IN_STEP 0 = true → ∃ t, exec (.swGrant m v) s = .next t ∧ t.mateState = 1 ∧ t.on F.MT_STICKY_TAKEOVER 0 = true ∧
      t.answer m.copy = .ok 0 ∧ s.OnlyRegs t [.MT_CTRL, .MT_STAT, .MT_STICKY, .MT_JSEQ, .LE_STAT, .LE_STICKY] ∧ s.SameMemory t) ∧
    (s.on F.MT_STAT_IN_STEP 0 = false → ∃ t, exec (.swGrant m v) s = .next t ∧ t.on F.MT_STICKY_TAKEOVER_HIT 0 = true ∧
      t.answer m.copy = .ok 0)) ∧
  (∀ (m : Initiator) (v : Word) (s : State), F.MT_CTRL_RESYNC.get v = 1 → s.mateState = 2 →
    ∃ t, exec (.resync m v) s = .next t ∧ t.on F.MT_STAT_IN_STEP 0 = false ∧ t.rd F.MT_STAT_PHASE 0 = 2 ∧ t.mateState = 2 ∧
      t.answer m.copy = .ok 0 ∧ s.OnlyAt t 0 [.MT_CTRL, .MT_STAT] ∧ s.SameMemory t) ∧
  (∀ (m : Initiator) (v : Word) (s : State), F.MT_CTRL_SWITCHOVER.get v = 1 → s.mateState = 1 →
    (s.mate.pathUp .link = true → s.mate.pathUp .bollard = true → s.rd F.MT_STAT_MSTATE 0 = 2 → s.on F.MT_STAT_M_IN_STEP 0 = true →
      ∃ t, exec (.switchover m v) s = .next t ∧ t.rd F.MT_JSEQ_JSEQ 0 = (s.rd F.MT_JSEQ_JSEQ 0 + 1) % 2 ^ 32 ∧
        t.journal = s.journal ++ [⟨(s.rd F.MT_JSEQ_JSEQ 0 + 1) % 2 ^ 32, s.tick + BitVec.ofNat 48 (s.rd F.MT_CFG_JLEAD 0),
          s.now + s.rd F.MT_CFG_JLEAD 0, .switchover⟩] ∧
        t.mateState = 1 ∧ t.answer m.copy = .ok 0 ∧ s.OnlyAt t 0 [.MT_CTRL, .MT_JSEQ] ∧ s.SameMemory t) ∧
    (s.rd F.MT_STAT_MSTATE 0 ≠ 2 → ∃ t, exec (.switchover m v) s = .next t ∧ t.journal = s.journal ∧ t.mateState = 1 ∧
      s.OnlyAt t 0 [.MT_CTRL] ∧ s.SameMemory t)) ∧
  (∀ (e : JEntry) (s : State), s.mateState = 2 → s.rd F.MT_STAT_PHASE 0 ≠ 1 → s.journal = [e] →
    (e.due ≤ s.now + 1 → e.write = .switchover → e.seq = (s.rd F.MT_JSEQ_JSEQ 0 + 1) % 2 ^ 32 →
      ∃ t, exec (.journalApply none) s = .next t ∧ t.journal = [] ∧ t.rd F.MT_JSEQ_JSEQ 0 = e.seq % 2 ^ 32 ∧
        t.ctr ⟨.mt, 5, 0⟩ = (s.ctr ⟨.mt, 5, 0⟩ + 1) % 2 ^ 48 ∧ t.mate.takeAt = some (s.now + (10 * s.takeTime + 31) / 32 + 2) ∧
        t.mate.quiet = true ∧ s.OnlyAt t 0 [.MT_JSEQ] ∧ s.SameMemory t) ∧
    (s.now + 1 < e.due → exec (.journalApply none) s = .next s)) ∧
  (∀ s : State, s.standby = false → exec (.journalApply none) s = .next s) ∧
  (∀ s : State, s.mateState = 2 ∨ s.mateState = 3 → s.mate.linkUp = true → s.mate.suspended = false →
    s.mate.sums.contains (s.tick - 3) = true →
    (s.mateState = 2 → s.rd F.MT_STAT_PHASE 0 ≠ 3 → ∃ t, exec (.mateCompare [] true) s = .next t ∧
      t.ctr ⟨.mt, 0, 0⟩ = (s.ctr ⟨.mt, 0, 0⟩ + 1) % 2 ^ 48 ∧ t.rd F.MT_STAT_RUN 0 = min (s.rd F.MT_STAT_RUN 0 + 1) 1000 ∧
      t.mateState = 2 ∧ s.OnlyAt t 0 [.MT_STAT] ∧ s.SameMemory t) ∧
    (s.rd F.MT_STAT_PHASE 0 = 3 → 999 ≤ s.rd F.MT_STAT_RUN 0 → ∃ t, exec (.mateCompare [] true) s = .next t ∧
      t.on F.MT_STAT_IN_STEP 0 = true ∧ t.rd F.MT_STAT_PHASE 0 = 0 ∧ t.mateState = 2 ∧ t.on F.MT_STICKY_IN_STEP 0 = true ∧
      s.OnlyAt t 0 [.MT_STAT, .MT_STICKY] ∧ s.SameMemory t) ∧
    (∀ p : Fin 72, s.mate.compared.take 3 = [true, true, true] → s.on F.MT_STAT_IN_STEP 0 = true →
      ∃ t, exec (.mateCompare [(p, false)] true) s = .next t ∧ t.ctr ⟨.mt, 2, 0⟩ = (s.ctr ⟨.mt, 2, 0⟩ + 1) % 2 ^ 48 ∧
        t.ctr ⟨.mt, 8, 0⟩ = (s.ctr ⟨.mt, 8, 0⟩ + 1) % 2 ^ 48 ∧ t.rd F.MT_STAT_RUN 0 = 0 ∧ t.rd F.MT_MISS_PORT_PORT 0 = p.val ∧
        t.rd F.MT_MISS_PORT_NPORTS 0 = 1 ∧ t.rd F.MT_MISS_TICK_TICK 0 = (s.tick - 3).toNat % 2 ^ 32 ∧
        t.on F.MT_STICKY_DIVERGE 0 = true ∧ t.on F.MT_STAT_IN_STEP 0 = false ∧ t.rd F.MT_STAT_PHASE 0 = 2 ∧ t.mateState = s.mateState ∧
        s.OnlyAt t 0 [.MT_STAT, .MT_STICKY, .MT_MISS_PORT, .MT_MISS_TICK] ∧ s.SameMemory t)) ∧
  (∀ s : State, s.on F.MT_STAT_IN_STEP 0 = true → 2 ≤ s.mateState →
    (∀ n, s.mate.linkDownAt = some n ∨ s.mate.pathsDownAt = some n → n + s.rd F.MT_CFG_GRACE 0 * 312500 < s.now →
      ∃ t, exec .graceExpiry s = .next t ∧ t.on F.MT_STAT_IN_STEP 0 = false ∧ t.rd F.MT_STAT_PHASE 0 = 2 ∧ t.mateState = s.mateState ∧
        s.OnlyAt t 0 [.MT_STAT] ∧ s.SameMemory t) ∧
    (s.mate.linkDownAt = none → s.mate.pathsDownAt = none → exec .graceExpiry s = .next s)) ∧
  (∀ (items : List (EpochItem × Bool)) (s : State),
    (s.tick.toNat % s.epochTicks = 0 →
      (s.mateState = 1 → ∀ b, ∃ t, exec (.epochApply b items) s = .next t ∧
        t.rd F.MT_EPOCH_EPOCH 0 = (s.tick.toNat / s.epochTicks + 2 ^ 32 - 1) % 2 ^ 32 ∧
        t.ctr ⟨.mt, 6, 0⟩ = (s.ctr ⟨.mt, 6, 0⟩ + 1) % 2 ^ 48 ∧ s.OnlyAt t 0 [.MT_EPOCH] ∧ s.SameMemory t) ∧
      (s.standby = true → ∃ t, exec (.epochApply false items) s = .next t ∧ t.ctr ⟨.mt, 7, 0⟩ = (s.ctr ⟨.mt, 7, 0⟩ + 1) % 2 ^ 48 ∧
        t.on F.MT_STICKY_EPOCH_DISCARD 0 = true ∧ s.OnlyAt t 0 [.MT_STICKY] ∧ s.SameMemory t) ∧
      (∀ (i j a : Nat) (d : Bool) (o : Snapshot), s.standby = true → s.snapshotBefore = some o →
        o.tick + BitVec.ofNat 48 s.epochTicks = s.tick → s.rd F.MT_STAT_PHASE 0 ≠ 2 → items = [(.counter ⟨.lf, i, j⟩ a, d)] →
        ∃ t, exec (.epochApply true items) s = .next t ∧
          t.ctr ⟨.lf, i, j⟩ = (s.ctr ⟨.lf, i, j⟩ + a + 2 ^ 48 - Tab.get 0 o.ctrs (Ctr.key ⟨.lf, i, j⟩)) % 2 ^ 48 ∧
          t.rd F.MT_EPOCH_EPOCH 0 = (s.tick.toNat / s.epochTicks + 2 ^ 32 - 1) % 2 ^ 32 ∧ t.snapshotBefore = none ∧
          s.OnlyAt t 0 [.MT_EPOCH] ∧ s.SameMemory t)) ∧
    (∀ b, s.tick.toNat % s.epochTicks ≠ 0 → exec (.epochApply b items) s = .next s)) ∧
  (∀ (st : Start) (n : Nat) (s : State), s.boot.chosen = some st → s.mate.listenAt = some n → s.mateBoot = true → s.mate.decided = false →
    (n + 6250 ≤ s.now → s.mate.heard.active = true → s.mateState ≠ 3 →
      ∃ t, exec .mateBootDecision s = .next t ∧ t.mateState = 3 ∧ t.mate.decided = true ∧ t.devState = s.devState ∧
        s.OnlyAt t 0 [.MT_STAT, .MT_STICKY] ∧ s.SameMemory t) ∧
    (n + 6250 ≤ s.now → s.mate.heard = {} → st.image.mate = none → s.presAlive = false →
      ∃ t, exec .mateBootDecision s = .next t ∧ t.devState = .startUp) ∧
    (s.now < n + 6250 → exec .mateBootDecision s = .next s))

/-- R461 to R467, R470, R472 to R474, on mooring ports that are on: a good frame shows its neighbour, counts its violations and ends SSF; a
lane comes back after its run; RETIRE takes one lane at most; a new RMAP value is accepted after 3 frames; a port turns foreign and back after
16 frames; a worker leaves a failed timing port, takes TICK_NO in START-UP and reports a mismatch after 16 frames; HELLO goes out on every
port that is on, routes are learnt and expire; packets are dropped, delivered or forwarded, and software writes and reads user data. -/
def Obligations.MooringPortsWork : Prop :=
  (∀ (m : Fin 4) (f : MooringFrame) (s : State),
    (s.portOn m.val = true → s.isManager = true → f.good = 0x1FF → f.retried = 0 → f.uncorrectable = 0 → f.role ≠ 0 →
      s.rd F.HR_PORT_STAT_LOST m.val = 0 → s.cfg F.HR_PORT_CFG_RETIRE m.val = 0 → s.on F.HR_PORT_STAT_FOREIGN m.val = false →
      ∃ t, exec (.mooringFrameReceive m f) s = .next t ∧ t.on F.HR_PORT_STAT_SSF m.val = false ∧
        t.rd F.HR_PORT_STAT_NBR_ID m.val = f.sender % 16 ∧ t.rd F.HR_PORT_STAT_NBR_HOPS m.val = f.hops % 32 ∧
        (t.moor m.val).tno = f.tno ∧ (t.moor m.val).tnoAt = some s.now ∧ (t.moor m.val).seen = true ∧
        t.ctr ⟨.hr, 10, m.val⟩ = (s.ctr ⟨.hr, 10, m.val⟩ + f.sbip) % 2 ^ 48 ∧ t.rd F.HR_STAT_HOPS 0 = 0 ∧
        s.OnlyRegs t [.HR_PORT_STAT, .HR_STICKY, .HR_DLY, .HR_OFS, .HR_STAT] ∧ s.SameMemory t) ∧
    (s.portOn m.val = false → exec (.mooringFrameReceive m f) s = .next s)) ∧
  (∀ (m : Fin 4) (j : Fin 9) (s : State), s.portOn m.val = true → (s.rd F.HR_PORT_STAT_LOST m.val).testBit j.val = true →
    (s.cfg F.HR_PORT_CFG_RETIRE m.val).testBit j.val = false → 3125 ≤ (s.moor m.val).goodRuns.getD j.val 0 →
    ∃ t, exec (.laneRestored m j) s = .next t ∧
      (∀ k, (t.rd F.HR_PORT_STAT_LOST m.val).testBit k = (decide (k ≠ j.val) && (s.rd F.HR_PORT_STAT_LOST m.val).testBit k)) ∧
      t.on F.HR_STICKY_LANE_RESTORED m.val = true ∧ s.OnlyAt t m.val [.HR_PORT_STAT, .HR_STICKY] ∧ s.SameMemory t) ∧
  (∀ (i : Initiator) (v : Word) (s : State), s.Alone →
    (oneBit (F.HR_PORT_CFG_RETIRE.get v) = true → ∃ t, exec (.hrRetireWrite i v) s = .next t ∧
      t.rd F.HR_PORT_CFG_RETIRE (s.mportSel i) = F.HR_PORT_CFG_RETIRE.get v ∧ t.answer i.copy = .ok 0 ∧
      s.OnlyAt t (s.mportSel i) [.HR_PORT_CFG] ∧ s.SameMemory t) ∧
    (oneBit (F.HR_PORT_CFG_RETIRE.get v) = false → ∃ t, exec (.hrRetireWrite i v) s = .next t ∧
      t.on F.HR_STICKY_RETIRE_REJ (s.mportSel i) = true ∧ t.answer i.copy = .ok 0 ∧ s.OnlyAt t (s.mportSel i) [.HR_STICKY] ∧
      s.SameMemory t)) ∧
  (∀ (m : Fin 4) (s : State),
    (s.portOn m.val = true → 3 ≤ (s.moor m.val).rmap.count → (s.moor m.val).rmap.value ≠ s.rd F.HR_PORT_STAT_FAR_RETIRE m.val →
      ∃ t, exec (.rmapAccept m) s = .next t ∧ t.rd F.HR_PORT_STAT_FAR_RETIRE m.val = (s.moor m.val).rmap.value % 512 ∧
        t.atBoundary = s.atBoundary ++ [.rmapIdle m.val (BitVec.ofNat 9 (s.moor m.val).rmap.value)] ∧
        s.OnlyAt t m.val [.HR_PORT_STAT] ∧ s.SameMemory t) ∧
    ((s.moor m.val).rmap.count < 3 → exec (.rmapAccept m) s = .next s)) ∧
  (∀ (m : Fin 4) (s : State), s.portOn m.val = true →
    (s.on F.HR_PORT_STAT_FOREIGN m.val = false → 16 ≤ (s.moor m.val).foreignRun →
      ∃ t, exec (.domainMis m) s = .next t ∧ t.on F.HR_PORT_STAT_FOREIGN m.val = true ∧ t.on F.HR_PORT_STAT_SSF m.val = true ∧
        t.on F.HR_STICKY_DOMAIN_MIS m.val = true ∧ s.OnlyAt t m.val [.HR_PORT_STAT, .HR_STICKY] ∧ s.SameMemory t) ∧
    (s.on F.HR_PORT_STAT_FOREIGN m.val = true → 16 ≤ (s.moor m.val).matchRun →
      ∃ t, exec (.domainMis m) s = .next t ∧ t.on F.HR_PORT_STAT_FOREIGN m.val = false ∧ s.OnlyAt t m.val [.HR_PORT_STAT] ∧
        s.SameMemory t)) ∧
  (∀ s : State, s.isWorker = true → s.on F.HR_STAT_TVALID 0 = true →
    (∀ p, s.hopCount.2 = some p → p ≠ s.rd F.HR_STAT_TPORT 0 → s.portLinks (s.rd F.HR_STAT_TPORT 0) = false →
      ∃ t, exec .timingPortSwitch s = .next t ∧ t.rd F.HR_STAT_TPORT 0 = p % 4 ∧ t.on F.HR_DSTICKY_TIMING_SWITCH 0 = true ∧
        s.OnlyAt t 0 [.HR_STAT, .HR_DSTICKY] ∧ s.SameMemory t) ∧
    (s.hopCount.2 = none → exec .timingPortSwitch s = .next s) ∧
    (∀ n, (s.moor (s.rd F.HR_STAT_TPORT 0)).tnoAt = some n → s.devState = .startUp → s.boot.tickWait = true →
      ∃ t, exec .workerTickSet s = .next t ∧ t.boot.tickWait = false ∧
        t.boot.tickAt = some ((s.moor (s.rd F.HR_STAT_TPORT 0)).tno +
          roundTicks (s.hopDelay (s.rd F.HR_STAT_TPORT 0) + s.hopOffset (s.rd F.HR_STAT_TPORT 0)) + BitVec.ofNat 48 (s.now - n + 1)) ∧
        t.tick = s.tick ∧ t.regs = s.regs ∧ s.SameMemory t) ∧
    (16 ≤ (s.moor (s.rd F.HR_STAT_TPORT 0)).tickRun →
      ∃ t, exec .workerTickMismatch s = .next t ∧ t.on F.HR_STAT_MISMATCH 0 = true ∧ t.on F.TM_STICKY_TICK_MISMATCH 0 = true ∧
        t.tick = s.tick ∧ s.OnlyAt t 0 [.HR_STAT, .TM_STICKY] ∧ s.SameMemory t) ∧
    ((s.moor (s.rd F.HR_STAT_TPORT 0)).tickRun < 16 → exec .workerTickMismatch s = .next s)) ∧
  (∀ s : State,
    (s.tick.toNat % 256 = 0 → ∃ t, exec .helloSend s = .next t ∧
      (∀ m, m < 4 → (t.moor m).urgent = if s.portOn m = true then (s.moor m).urgent ++ [s.ownPacket 0xFF 2 s.helloBytes]
        else (s.moor m).urgent) ∧
      t.ccUser.seq = (s.ccUser.seq + 1) % 65536 ∧ t.regs = s.regs ∧ s.SameMemory t) ∧
    (s.tick.toNat % 256 ≠ 0 → exec .helloSend s = .next s)) ∧
  (∀ (m : Fin 4) (h : Hello) (s : State), s.portLinks m.val = true →
    (h.src ≠ s.rd F.HR_CFG_ID 0 → ∃ t, exec (.helloReceive m h) s = .next t ∧ (t.moor m.val).routes = h.routes ∧
      (t.moor m.val).helloAt = some s.now ∧ t.rd F.HR_ROUTE_SERIAL h.src = h.serial % 256 ∧ s.OnlyRegs t [.HR_ROUTE] ∧ s.SameMemory t) ∧
    (h.src = s.rd F.HR_CFG_ID 0 → h.serial ≠ s.fuses.serial → ∃ t, exec (.helloReceive m h) s = .next t ∧
      t.on F.HR_DSTICKY_ID_CONFLICT 0 = true ∧ t.moors = s.moors ∧ s.OnlyAt t 0 [.HR_DSTICKY] ∧ s.SameMemory t)) ∧
  (∀ (m : Fin 4) (n : Nat) (s : State), (s.moor m.val).helloAt = some n →
    (n + 1024 ≤ s.now → ∃ t, exec (.routeExpiry m) s = .next t ∧ (t.moor m.val).helloAt = none ∧ (t.moor m.val).routes = [] ∧
      ((∀ k, k < 4 → k ≠ m.val → (s.moor k).helloAt = none) → ∀ i, i < 16 → t.on F.HR_ROUTE_VALID i = false) ∧
      s.OnlyRegs t [.HR_ROUTE] ∧ s.SameMemory t) ∧
    (s.now < n + 1024 → s.portLinks m.val = true → exec (.routeExpiry m) s = .next s)) ∧
  (∀ (m : Fin 4) (p : CcPacket) (s : State), s.portLinks m.val = true →
    (∃ t, exec (.ccPacketReceive m p false) s = .next t ∧ t.ctr ⟨.hr, 11, m.val⟩ = (s.ctr ⟨.hr, 11, m.val⟩ + 1) % 2 ^ 48 ∧
      t.on F.HR_STICKY_CC_DROP m.val = true ∧ t.moors = s.moors ∧ t.ccUser = s.ccUser ∧ s.OnlyAt t m.val [.HR_STICKY] ∧ s.SameMemory t) ∧
    (p.type = 0 → p.payload.length ≤ 250 → p.dst = s.rd F.HR_CFG_ID 0 →
      ccRxUsed s.ccUser + 4 * (1 + (packWords p.payload).length) ≤ 16384 →
      ∃ t, exec (.ccPacketReceive m p true) s = .next t ∧ t.moors = s.moors ∧ t.regs = s.regs ∧ s.SameMemory t ∧
        t.ccUser.rx = s.ccUser.rx ++ [BitVec.ofNat 32 (p.src * 65536 + p.payload.length) :: packWords p.payload]) ∧
    (∀ k, p.type = 0 → p.payload.length ≤ 250 → p.dst ≠ s.rd F.HR_CFG_ID 0 → p.dst ≠ 0xFF → 2 ≤ p.ttl → s.routeTo p.dst = some k →
      ∃ t, exec (.ccPacketReceive m p true) s = .next t ∧ (t.moor k).queued = (s.moor k).queued ++ [{ p with ttl := p.ttl - 1 }] ∧
        t.ccUser = s.ccUser ∧ t.regs = s.regs ∧ s.SameMemory t)) ∧
  (∀ (i : Initiator) (v : Word) (s : State), s.Alone →
    (s.ccUser.writing = none → v.toNat % 65536 ≠ 0 → v.toNat % 65536 ≤ 250 → s.ccTxUsed + 6 + v.toNat % 65536 ≤ 16384 →
      ∃ t, exec (.hrCcTxdWrite i v) s = .next t ∧ t.ccUser.writing = some (v.toNat / 65536 % 256, ⟨v.toNat % 65536, [], false⟩) ∧
        t.moors = s.moors ∧ t.answer i.copy = .ok 0 ∧ t.regs = s.regs ∧ s.SameMemory t) ∧
    (∀ (dst k : Nat) (w : GccWriting), s.ccUser.writing = some (dst, w) → w.bad = false → wordsOf w.len ≤ w.words.length + 1 → dst ≠ 0xFF →
      s.routeTo dst = some k →
      ∃ t, exec (.hrCcTxdWrite i v) s = .next t ∧ t.ccUser.writing = none ∧ t.ccUser.seq = (s.ccUser.seq + 1) % 65536 ∧
        (t.moor k).queued = (s.moor k).queued ++ [s.ownPacket dst 0 ((unpackWords (w.words ++ [v])).take w.len)] ∧
        t.answer i.copy = .ok 0 ∧ t.regs = s.regs ∧ s.SameMemory t)) ∧
  (∀ (i : Initiator) (s : State),
    (∀ w ws rest, s.ccUser.rx = (w :: ws) :: rest →
      ∃ t, exec (.hrCcRxdRead i) s = .next t ∧ t.answer i.copy = .ok w ∧ t.ccUser.rx = (if ws = [] then rest else ws :: rest) ∧
        t.regs = s.regs ∧ s.SameMemory t) ∧
    (s.ccUser.rx = [] → exec (.hrCcRxdRead i) s = .next (s.reply i (.ok 0))))

/-- R475 to R479, on a device that journals nothing: the manager starts a commit with its lead, arms its own part and else answers BUSY,
NOT_MGR or LATE; a worker arms on ARM and refuses a second one; answers are noted; the manager decides GO or ABORT; a worker applies with GO
alone; the commit closes DONE, or with the members that did not apply, which a rollback follows. -/
def Obligations.DomainCommitRunsItsSteps : Prop :=
  (∀ (i : Initiator) (v : Word) (s : State), s.Alone → F.HR_DC_CMD_START.get v = 1 →
    (s.domain = none → s.isManager = true → leadFrom s.tick s.dcAt (65 + 3 * s.xlead) = true → F.HR_DC_CMD_ACTION.get v = 0 →
      (F.HR_DC_CMD_MEMBERS.get v).testBit 0 = true → s.swap.holder = .nobody →
      ∃ t, exec (.dcStart i v) s = .next t ∧ t.rd F.HR_DC_STAT_STATE 0 = 1 ∧ t.rd F.HR_DC_STAT_RESULT 0 = 0 ∧
        t.rd F.HR_DC_ACK_MASK 0 = 0 ∧ t.rd F.HR_DC_SKEW_MASK 0 = 0 ∧ t.swap.holder = .domain ∧
        t.atBoundary = s.atBoundary ++ [.gridArm s.dcAt s.tick] ∧
        t.domain = some ⟨true, F.HR_DC_CMD_CHANGE.get v, false, s.dcAt, F.HR_DC_CMD_MEMBERS.get v, true, some (s.now + 1), false, false,
          none, false, none, false⟩ ∧
        (∀ j k, 1 ≤ j → j < 16 → (F.HR_DC_CMD_MEMBERS.get v).testBit j = true → s.routeTo j = some k →
          ∃ p, p ∈ (t.moor k).urgent ∧ p.dst = j ∧ p.type = 1 ∧
            p.payload = commitBytes 1 false (F.HR_DC_CMD_CHANGE.get v) s.dcAt 0) ∧
        t.answer i.copy = .ok 0 ∧ s.OnlyAt t 0 [.HR_DC_CMD, .HR_DC_STAT, .HR_DC_ACK, .HR_DC_SKEW] ∧ s.SameMemory t) ∧
    (s.domain = none → s.isManager = true → leadFrom s.tick s.dcAt (65 + 3 * s.xlead) = false →
      ∃ t, exec (.dcStart i v) s = .next t ∧ t.rd F.HR_DC_STAT_RESULT 0 = 4 ∧ t.on F.GRID_STICKY_TICK_LATE 0 = true ∧ t.domain = none ∧
        t.moors = s.moors ∧ s.OnlyAt t 0 [.HR_DC_CMD, .HR_DC_STAT, .GRID_STICKY] ∧ s.SameMemory t) ∧
    (s.domain = none → s.isManager = false →
      ∃ t, exec (.dcStart i v) s = .next t ∧ t.rd F.HR_DC_STAT_RESULT 0 = 3 ∧ t.domain = none ∧ t.moors = s.moors ∧
        s.OnlyAt t 0 [.HR_DC_CMD, .HR_DC_STAT] ∧ s.SameMemory t) ∧
    (s.domain ≠ none →
      ∃ t, exec (.dcStart i v) s = .next t ∧ t.rd F.HR_DC_STAT_RESULT 0 = 2 ∧ t.domain = s.domain ∧ t.moors = s.moors ∧
        s.OnlyAt t 0 [.HR_DC_CMD, .HR_DC_STAT] ∧ s.SameMemory t)) ∧
  (∀ (change : Fin 4096) (n : Tick) (s : State), s.isWorker = true → s.Alone →
    (s.domain = none → s.on F.HR_STAT_MISMATCH 0 = false → s.swap.holder = .nobody →
      ∃ t, exec (.dcArmReceive change false n) s = .next t ∧ t.swap.holder = .domain ∧ t.atBoundary = s.atBoundary ++ [.gridArm n s.tick] ∧
        t.domain = some { manager := false, change := change.val, commit := false, n := n, replyAt := some (s.now + 1) } ∧
        t.regs = s.regs ∧ s.SameMemory t) ∧
    (∀ (commit : Bool) (k : Nat), s.domain ≠ none → s.routeTo 0 = some k →
      ∃ t, exec (.dcArmReceive change commit n) s = .next t ∧ t.domain = s.domain ∧
        (t.moor k).urgent = (s.moor k).urgent ++ [s.ownPacket 0 1 (commitBytes 3 commit change.val n 0xF1)] ∧ t.regs = s.regs ∧
        s.SameMemory t)) ∧
  (∀ (mb : Fin 16) (d : DomainCommit) (c : Fin 4096) (s : State), s.domain = some d → d.manager = true → d.change = c.val →
    d.members.testBit mb.val = true →
    (∃ t, exec (.dcReplyReceive mb c d.n .armed) s = .next t ∧
      (∀ k, k < 32 → (t.rd F.HR_DC_ACK_MASK 0).testBit k = (decide (k = 16 + mb.val) || (s.rd F.HR_DC_ACK_MASK 0).testBit k)) ∧
      t.domain = s.domain ∧ s.OnlyAt t 0 [.HR_DC_ACK] ∧ s.SameMemory t) ∧
    (∃ t, exec (.dcReplyReceive mb c d.n .applied) s = .next t ∧
      (∀ k, k < 32 → (t.rd F.HR_DC_ACK_MASK 0).testBit k = (decide (k = mb.val) || (s.rd F.HR_DC_ACK_MASK 0).testBit k)) ∧
      t.domain = s.domain ∧ s.OnlyAt t 0 [.HR_DC_ACK] ∧ s.SameMemory t) ∧
    (∀ r, exec (.dcReplyReceive mb c d.n (.refused r)) s = .next s)) ∧
  (∀ (d : DomainCommit) (s : State), s.domain = some d → s.Alone → d.commit = false → d.manager = true →
    (d.decided = false → s.within d.n (16 + s.xlead) = true →
      (s.rd F.HR_DC_ACK_MASK 0 / 65536 = d.members → ∃ t, exec .dcDecide s = .next t ∧
        t.domain = some { d with decided := true, go := true } ∧ t.rd F.HR_DC_STAT_STATE 0 = 2 ∧ s.OnlyAt t 0 [.HR_DC_STAT] ∧
        s.SameMemory t) ∧
      (s.rd F.HR_DC_ACK_MASK 0 / 65536 ≠ d.members → ∃ t, exec .dcDecide s = .next t ∧ t.domain = none ∧
        t.rd F.HR_DC_STAT_STATE 0 = 3 ∧ t.rd F.HR_DC_STAT_RESULT 0 = 5 ∧ t.on F.HR_DSTICKY_DC_DONE 0 = true ∧
        (d.own = true → s.swap.holder = .domain → t.swap.holder = .nobody ∧ t.atBoundary = s.atBoundary ++ [.gridCancel s.tick]) ∧
        s.OnlyAt t 0 [.HR_DC_STAT, .HR_DSTICKY] ∧ s.SameMemory t)) ∧
    (s.within d.n (16 + s.xlead) = false → exec .dcDecide s = .next s) ∧
    (d.decided = true → d.closed = false → s.past d.n (16 + s.xlead) = true →
      ((∀ j, j < 16 → d.members.testBit j = true → (s.rd F.HR_DC_ACK_MASK 0).testBit j = true) →
        ∃ t, exec .dcClose s = .next t ∧ t.domain = none ∧ t.rd F.HR_DC_STAT_STATE 0 = 4 ∧ t.rd F.HR_DC_STAT_RESULT 0 = 1 ∧
          t.on F.HR_DSTICKY_DC_DONE 0 = true ∧ (s.swap.holder = .domain → t.swap.holder = .nobody) ∧
          s.OnlyAt t 0 [.HR_DC_STAT, .HR_DSTICKY] ∧ s.SameMemory t) ∧
      (d.own = false → (∃ j, j < 16 ∧ d.members.testBit j = true ∧ (s.rd F.HR_DC_ACK_MASK 0).testBit j = false) →
        ∃ t, exec .dcClose s = .next t ∧ t.rd F.HR_DC_STAT_STATE 0 = 5 ∧ t.on F.HR_DSTICKY_MODE_SKEW 0 = true ∧
          (∀ j, j < 16 → (t.rd F.HR_DC_SKEW_MASK 0).testBit j = (d.members.testBit j && !(s.rd F.HR_DC_ACK_MASK 0).testBit j)) ∧
          t.domain = some { d with rollback := some (d.n + BitVec.ofNat 48 (16 + s.xlead + 340 + s.xlead)), closed := true } ∧
          s.OnlyAt t 0 [.HR_DC_STAT, .HR_DC_SKEW, .HR_DSTICKY] ∧ s.SameMemory t)) ∧
    (s.past d.n (16 + s.xlead) = false → exec .dcClose s = .next s)) ∧
  (∀ (d : DomainCommit) (c : Fin 4096) (s : State), s.domain = some d → s.Alone → s.isWorker = true → d.manager = false → d.commit = false →
    d.change = c.val →
    (d.go = false → d.decided = false → ∃ t, exec (.dcGoReceive c d.n) s = .next t ∧ t.domain = some { d with go := true } ∧
      t.regs = s.regs ∧ s.SameMemory t) ∧
    (∃ t, exec (.dcAbortReceive c d.n) s = .next t ∧ t.domain = none ∧ t.atBoundary = s.atBoundary ++ [.gridCancel s.tick] ∧
      t.regs = s.regs ∧ s.SameMemory t) ∧
    (d.go = false → d.decided = false → s.within d.n 8 = true → ∃ t, exec .dcHold s = .next t ∧
      t.domain = some { d with decided := true } ∧ t.atBoundary = s.atBoundary ++ [.gridCancel s.tick] ∧ t.regs = s.regs ∧
      s.SameMemory t) ∧
    (d.go = true → exec .dcHold s = .next s) ∧
    (∀ n2, d.applied = some true → d.rollback = none → ∃ t, exec (.dcRollbackReceive c n2) s = .next t ∧
      t.domain = some { d with rollback := some n2, closed := true } ∧ t.swap.holder = .domain ∧
      t.atBoundary = s.atBoundary ++ [.gridArm n2 s.tick] ∧ t.regs = s.regs ∧ s.SameMemory t) ∧
    (∀ n2, d.applied ≠ some true → exec (.dcRollbackReceive c n2) s = .next s)) ∧
  (∀ (d : DomainCommit) (n2 : Tick) (s : State), s.domain = some d → s.Alone → d.rollback = some n2 →
    (s.past n2 0 = true → d.manager = true → ∃ t, exec .dcRollbackApply s = .next t ∧ t.domain = none ∧ t.rd F.HR_DC_STAT_STATE 0 = 6 ∧
      t.rd F.HR_DC_STAT_RESULT 0 = 6 ∧ t.on F.HR_DSTICKY_DC_DONE 0 = true ∧ s.OnlyAt t 0 [.HR_DC_STAT, .HR_DSTICKY] ∧ s.SameMemory t) ∧
    (s.past n2 0 = true → d.manager = false → ∃ t, exec .dcRollbackApply s = .next t ∧ t.domain = none ∧ t.regs = s.regs ∧
      s.SameMemory t) ∧
    (s.past n2 0 = false → exec .dcRollbackApply s = .next s))

/-- R518, R522, R524 to R526, R532, R534 to R536: BOOTSWAP can be set only; RUN starts a core whose vector is written at the next boundary and
resets one at once; MTIP follows TICK_NO; applets start, stop and fail; block reads of I2C answer the registers, its mailbox takes and gives
bytes; a flash command is sent once none runs and its read lands in the buffer; STATUS_WORD is recorded; the UART's FIFOs take, give and
fill; user mode and untrusted masters get cause PRIV. -/
def Obligations.ControlPlaneUnitsAct : Prop :=
  (∀ (m : Initiator) (v : Word) (s : State),
    (m.isUser = false → F.SY_REMAP_BOOTSWAP.get v = 1 → ∃ t, exec (.bootswap m v) s = .next t ∧ t.on F.SY_REMAP_BOOTSWAP 0 = true ∧
      t.answer m.copy = .ok 0 ∧ s.OnlyAt t 0 [.SY_REMAP] ∧ s.SameMemory t) ∧
    (m.isUser = false → F.SY_REMAP_BOOTSWAP.get v = 0 → exec (.bootswap m v) s = .next (s.reply m (.ok 0))) ∧
    (m.isUser = true → ∃ t, exec (.bootswap m v) s = .next t ∧ t.answer m.copy = .error .priv ∧
      s.OnlyAt t 0 [.BM_ERR, .BM_ERR_ADDR, .BM_STICKY] ∧ s.SameMemory t)) ∧
  (∀ (m : Initiator) (v : Word) (c : Fin 4) (mid : BitVec 4) (s : State),
    (m.trusted = true → v.toNat % 16 = 2 ^ c.val → (∀ k, k < 4 → (s.core k).running = false) → (s.core c.val).vectored = true →
      ∃ t, exec (.coreRunWrite m v mid) s = .next t ∧ t.rd F.SY_PC_CTRL_RUN 0 = 2 ^ c.val ∧
        t.atBoundary = s.atBoundary ++ [.coreStart c] ∧ t.cores = s.cores ∧ t.answer m.copy = .ok 0 ∧ s.OnlyAt t 0 [.SY_PC_CTRL] ∧
        s.SameMemory t) ∧
    (m.trusted = true → v.toNat % 16 = 0 → (∀ k, k < 4 → (s.core k).running = decide (k = c.val)) →
      ∃ t, exec (.coreRunWrite m v mid) s = .next t ∧ (∀ k, k < 4 → (t.core k).running = false) ∧ t.atBoundary = s.atBoundary ∧
        (mid.getLsbD c.val = true → t.on F.BM_STICKY_MRESET 0 = true) ∧ t.answer m.copy = .ok 0 ∧
        s.OnlyAt t 0 [.SY_PC_CTRL, .BM_STICKY] ∧ s.SameMemory t) ∧
    (m.trusted = false → ∃ t, exec (.coreRunWrite m v mid) s = .next t ∧ t.answer m.copy = .error .priv ∧
      (∀ k, (t.core k).running = (s.core k).running) ∧ t.atBoundary = s.atBoundary ∧ s.OnlyAt t 0 [.BM_ERR, .BM_ERR_ADDR, .BM_STICKY] ∧
      s.SameMemory t) ∧
    (∃ t, exec (.coreTimerCompare c) s = .next t ∧ (t.core c.val).mtip = decide (s.timerCompare c.val ≤ s.tick) ∧
      (∀ k, k ≠ c.val → t.core k = s.core k) ∧ t.regs = s.regs ∧ s.SameMemory t)) ∧
  (∀ (m : Initiator) (v : Word) (k : Fin 8) (s : State), m.isUser = false →
    (F.SY_APPLET_CTRL_STOP.get v = 0 → F.SY_APPLET_CTRL_START.get v = 2 ^ k.val →
      s.rd (appletField k.val) 0 = 1 ∨ s.rd (appletField k.val) 0 = 3 →
      ∃ t, exec (.appletStart m v) s = .next t ∧ (∀ j, j < 8 → t.rd (appletField j) 0 = if j = k.val then 2 else s.rd (appletField j) 0) ∧
        t.answer m.copy = .ok 0 ∧ s.OnlyAt t 0 [.SY_APPLET] ∧ s.SameMemory t) ∧
    (F.SY_APPLET_CTRL_STOP.get v = 2 ^ k.val → F.SY_APPLET_CTRL_START.get v = 0 → s.rd (appletField k.val) 0 = 2 →
      ∃ t, exec (.appletStop m v) s = .next t ∧ (∀ j, j < 8 → t.rd (appletField j) 0 = if j = k.val then 1 else s.rd (appletField j) 0) ∧
        t.answer m.copy = .ok 0 ∧ s.OnlyAt t 0 [.SY_APPLET] ∧ s.SameMemory t)) ∧
  (∀ (k : Fin 8) (cause : Fin 32) (pc : Word) (s : State),
    (s.rd (appletField k.val) 0 = 2 → cause.val ≠ 8 → cause.val ≠ 11 → ∃ t, exec (.appletFault k cause pc) s = .next t ∧
      t.rd (appletField k.val) 0 = 3 ∧ t.rd F.SY_APPLET_FLT_SLOT 0 = k.val ∧ t.rd F.SY_APPLET_FLT_MCAUSE 0 = cause.val ∧
      t.rd F.SY_APPLET_FLT_MEPC 0 = pc.toNat / 4 % 2 ^ 24 ∧ t.on F.BM_STICKY_APPLET_FAULT 0 = true ∧
      s.OnlyAt t 0 [.SY_APPLET, .SY_APPLET_FLT, .BM_STICKY] ∧ s.SameMemory t) ∧
    (cause.val = 8 ∨ cause.val = 11 → exec (.appletFault k cause pc) s = .next s)) ∧
  (∀ (c : Instr) (bytes : List Byte) (s : State), s.boot.porst = false →
    (c = .i2cReadId ∧ bytes = wordBytes (s.reg .SY_ID 0).toNat ++ wordBytes (s.reg .SY_STATE 0).toNat) ∨
      (c = .i2cReadMode ∧ bytes = s.i2cMode) ∨ (c = .i2cReadTherm ∧ bytes = wordBytes (s.reg .SY_THERM 0).toNat) ∨
      (c = .i2cReadGroups ∧ bytes = wordBytes s.groupsPending) →
    ∃ t, exec c s = .next t ∧ t.outbox = s.outbox ++ [.i2c bytes] ∧ t.regs = s.regs ∧ s.SameMemory t) ∧
  (∀ (bytes : List Byte) (s : State), s.boot.porst = false →
    (s.on F.SY_MBX_IN_FULL 0 = false → 1 ≤ bytes.length → bytes.length ≤ 64 → ∃ t, exec (.i2cMbxWrite bytes true) s = .next t ∧
      t.mailbox.inbound.take bytes.length = bytes ∧ t.on F.SY_MBX_IN_FULL 0 = true ∧ t.rd F.SY_MBX_IN_LEN 0 = bytes.length ∧
      t.on F.BM_STICKY_MBX_IN 0 = true ∧ t.mailbox.outbound = s.mailbox.outbound ∧ s.OnlyAt t 0 [.SY_MBX, .BM_STICKY] ∧ s.SameMemory t) ∧
    (s.on F.SY_MBX_IN_FULL 0 = true → ∀ pec, ∃ t, exec (.i2cMbxWrite bytes pec) s = .next t ∧ t.outbox = s.outbox ++ [.i2cNak] ∧
      t.mailbox = s.mailbox ∧ t.regs = s.regs ∧ s.SameMemory t) ∧
    (∃ t, exec .i2cMbxRead s = .next t ∧ t.outbox = s.outbox ++ [.i2c (s.mailbox.outbound.take (s.rd F.SY_MBX_OUT_LEN 0))] ∧
      t.on F.SY_MBX_OUT_FULL 0 = false ∧ t.mailbox = s.mailbox ∧ s.OnlyAt t 0 [.SY_MBX] ∧ s.SameMemory t)) ∧
  (∀ (m : Initiator) (v : Word) (s : State),
    (∃ t, exec (.syMbxDataRead m) s = .next t ∧ t.rd F.SY_MBX_PTR 0 = (s.rd F.SY_MBX_PTR 0 + 1) % 64 ∧
      t.answer m.copy = .ok ((s.mailbox.inbound.getD (s.rd F.SY_MBX_PTR 0) 0).setWidth 32) ∧ t.mailbox = s.mailbox ∧
      s.OnlyAt t 0 [.SY_MBX] ∧ s.SameMemory t) ∧
    (m.isUser = false → ∃ t, exec (.syMbxDataWrite m v) s = .next t ∧ t.rd F.SY_MBX_PTR 0 = (s.rd F.SY_MBX_PTR 0 + 1) % 64 ∧
      t.mailbox.outbound = s.mailbox.outbound.set (s.rd F.SY_MBX_PTR 0) (v.setWidth 8) ∧ t.mailbox.inbound = s.mailbox.inbound ∧
      t.answer m.copy = .ok 0 ∧ s.OnlyAt t 0 [.SY_MBX] ∧ s.SameMemory t)) ∧
  (∀ (m : Initiator) (v : Word) (s : State), m.trusted = true →
    (s.on F.SY_QSPI_CMD_BUSY 0 = false → F.SY_QSPI_CMD_WR.get v = 0 → F.SY_QSPI_CMD_ADDR_B.get v = 0 →
      ∃ t, exec (.qspiGo m v) s = .next t ∧ t.on F.SY_QSPI_CMD_BUSY 0 = true ∧
        t.outbox = s.outbox ++ [.flash (v.setWidth 8) (F.SY_QSPI_CMD_QUAD.get v == 1) [] (min (F.SY_QSPI_CMD_LEN.get v) 256) []] ∧
        t.answer m.copy = .ok 0 ∧ s.OnlyAt t 0 [.SY_QSPI_CMD] ∧ s.SameMemory t) ∧
    (s.on F.SY_QSPI_CMD_BUSY 0 = true → ∃ t, exec (.qspiGo m v) s = .next t ∧ t.outbox = s.outbox ∧
      t.on F.SY_STICKY_QSPI_ERR 0 = true ∧ s.OnlyAt t 0 [.SY_STICKY] ∧ s.SameMemory t)) ∧
  (∀ (a b c d : Byte) (s : State), s.on F.SY_QSPI_CMD_BUSY 0 = true →
    (s.on F.SY_QSPI_CMD_WR 0 = false → s.rd F.SY_QSPI_CMD_LEN 0 = 4 →
      ∃ t, exec (.qspiDone [a, b, c, d]) s = .next t ∧ t.on F.SY_QSPI_CMD_BUSY 0 = false ∧ t.reg .SY_QSPI_BUF 0 = a ++ b ++ c ++ d ∧
        (∀ i, 1 ≤ i → i < 64 → t.reg .SY_QSPI_BUF i = s.reg .SY_QSPI_BUF i) ∧ s.OnlyRegs t [.SY_QSPI_CMD, .SY_QSPI_BUF] ∧ s.SameMemory t) ∧
    (s.on F.SY_QSPI_CMD_WR 0 = true → ∃ t, exec (.qspiDone [a, b, c, d]) s = .next t ∧ t.on F.SY_QSPI_CMD_BUSY 0 = false ∧
      s.OnlyAt t 0 [.SY_QSPI_CMD] ∧ s.SameMemory t)) ∧
  (∀ (a b : Byte) (s : State), ∃ t, exec (.pmbusAlert a b) s = .next t ∧ t.rd F.SY_AVS_CORE_STATUS 0 = a.toNat ∧
    t.rd F.SY_AVS_LE_STATUS 0 = b.toNat ∧ s.OnlyAt t 0 [.SY_AVS_CORE, .SY_AVS_LE] ∧ s.SameMemory t) ∧
  (∀ (m : Initiator) (v : Word) (b : Byte) (s : State),
    (m.isUser = false → s.uart.tx.length < 64 → ∃ t, exec (.uartTxWrite m v) s = .next t ∧ t.uart.tx = s.uart.tx ++ [v.setWidth 8] ∧
      t.uart.rx = s.uart.rx ∧ t.answer m.copy = .ok 0 ∧ t.regs = s.regs ∧ s.SameMemory t) ∧
    (m.isUser = false → 64 ≤ s.uart.tx.length → exec (.uartTxWrite m v) s = .next (s.reply m (.ok 0))) ∧
    (∀ rest, s.uart.rx = b :: rest → ∃ t, exec (.uartRxRead m) s = .next t ∧ t.uart.rx = rest ∧ t.uart.tx = s.uart.tx ∧
      t.answer m.copy = .ok (BitVec.ofNat 32 (rest.length * 2 ^ 16 + (64 - s.uart.tx.length) * 2 ^ 9 + 2 ^ 8 + b.toNat)) ∧
      t.regs = s.regs ∧ s.SameMemory t) ∧
    (s.boot.porst = false → s.uart.rx.length < 64 → ∃ t, exec (.uartRxByte b) s = .next t ∧ t.uart.rx = s.uart.rx ++ [b] ∧
      t.uart.tx = s.uart.tx ∧ t.regs = s.regs ∧ s.SameMemory t) ∧
    (64 ≤ s.uart.rx.length → exec (.uartRxByte b) s = .next s))

/-- R512 to R518, R522, R525, R527 to R531, R537, R554: an address of no target gets the error response of the default target, an access
that does not end a TIMEOUT; a request through BAR0 reads a word and completes, one that hits no window is unsupported; resets of the
endpoint clear its table; the link comes up; configuration requests complete; the local bus reads and turns pages, JTAG answers IDCODE,
halts through an open debug module only; a register write reaches its register. -/
def Obligations.HostsReachTheDevice : Prop :=
  (∀ (m : Initiator) (b : Burst) (x : Beat) (s : State), b.beats = [x] → b.fetch = false → memTarget b.addr = none → 0x40000 ≤ b.addr →
    (b.addr < 0x20000000 ∨ 0x30000000 ≤ b.addr) → (b.addr < 0x40000000 ∨ 0x80000000 ≤ b.addr) →
    ∃ t, exec (.defaultTargetAccess m b) s = .next t ∧ t.answer m.copy = .beats [.error .default] ∧ t.rd F.BM_ERR_CAUSE 0 = 0 ∧
      t.rd F.BM_ERR_MASTER 0 = m.num.val ∧ t.on F.BM_STICKY_BUS_ERR 0 = true ∧
      s.OnlyAt t 0 [.BM_ERR, .BM_ERR_ADDR, .BM_STICKY] ∧ s.SameMemory t) ∧
  (∀ (m : Initiator) (w : Bool) (a : Word) (s : State), ∃ t, exec (.busTimeout m w a) s = .next t ∧ t.answer m.copy = .error .timeout ∧
    t.rd F.BM_ERR_CAUSE 0 = 3 ∧ t.rd F.BM_ERR_MASTER 0 = m.num.val ∧ t.on F.BM_ERR_WRITE 0 = w ∧ t.rd F.BM_ERR_ADDR_ADDR 0 = a.toNat ∧
    t.on F.BM_STICKY_TIMEOUT 0 = true ∧ t.on F.BM_STICKY_BUS_ERR 0 = true ∧ s.OnlyAt t 0 [.BM_ERR, .BM_ERR_ADDR, .BM_STICKY] ∧
    s.SameMemory t) ∧
  (∀ (address : BitVec 64) (x : Beat) (aside : Aside) (s : State), s.pcieOn = true → s.linkUp = true →
    (∀ a, s.barHit address.toNat = some (false, a) → memTarget a = some 1 ∨ memTarget a = some 2 → x.ecc = .clean → x.portB = none →
      s.badWords.contains (a / 16) = false → s.march.borrowed = none →
      ∃ t, exec (.pcieRequest false address [x] aside) s = .next t ∧
        t.outbox = s.outbox ++ [.completion .success [Mem.readWide s.mem (wordAddr a)]] ∧ t.regs = s.regs ∧ s.SameMemory t) ∧
    (s.barHit address.toNat = none →
      (∃ t, exec (.pcieRequest false address [x] aside) s = .next t ∧ t.outbox = s.outbox ++ [.completion .unsupported []] ∧
        t.regs = s.regs ∧ s.SameMemory t) ∧
      exec (.pcieRequest true address [x] aside) s = .next s)) ∧
  (∀ (how : PcieReset) (mid : Bool) (s : State), s.boot.porst = false →
    ∃ t, exec (.pcieReset how mid) s = .next t ∧ t.pcie = {} ∧ t.busMaster = false ∧
      t.linkUp = (if how = .flr then s.linkUp else false) ∧
      (∀ v, v < 64 → t.reg .MSIX_ADDR_LO v = Reg.resetValue .MSIX_ADDR_LO v ∧ t.reg .MSIX_ADDR_HI v = Reg.resetValue .MSIX_ADDR_HI v ∧
        t.reg .MSIX_DATA v = Reg.resetValue .MSIX_DATA v ∧ t.reg .MSIX_CTRL v = Reg.resetValue .MSIX_CTRL v) ∧
      (mid = true → t.on F.BM_STICKY_MRESET 0 = true) ∧
      s.OnlyRegs t [.MSIX_ADDR_LO, .MSIX_ADDR_HI, .MSIX_DATA, .MSIX_CTRL, .BM_STICKY] ∧ s.SameMemory t) ∧
  (∀ s : State, s.pcieOn = true → s.linkUp = false → ∃ t, exec .pcieLinkUp s = .next t ∧ t.linkUp = true ∧ t.regs = s.regs ∧
    s.SameMemory t) ∧
  (∀ (en : BitVec 4) (v : Word) (s : State), s.pcieOn = true → s.linkUp = true →
    (∃ t, exec (.pcieConfigurationRequest (.read 0)) s = .next t ∧ t.outbox = s.outbox ++
      [.completion .success [BitVec.ofNat 128 (deviceId s.fuses.variant * 2 ^ 16 + 0x1F6E)]] ∧ t.regs = s.regs ∧ s.SameMemory t) ∧
    (∃ t, exec (.pcieConfigurationRequest (.write 4 0xF v)) s = .next t ∧ t.pcie.bar0 = v &&& 0xC0000000 ∧
      t.outbox = s.outbox ++ [.completion .success []] ∧ t.regs = s.regs ∧ s.SameMemory t) ∧
    (en.getLsbD 0 = true → ∃ t, exec (.pcieConfigurationRequest (.write 1 en v)) s = .next t ∧ t.pcie.memory = v.getLsbD 1 ∧
      t.busMaster = v.getLsbD 2 ∧ t.regs = s.regs ∧ s.SameMemory t) ∧
    (∃ t, exec (.pcieConfigurationRequest .unsupported) s = .next t ∧ t.outbox = s.outbox ++ [.completion .unsupported []] ∧
      t.regs = s.regs ∧ s.SameMemory t)) ∧
  (∀ (a : BitVec 24) (en : BitVec 4) (v : Word) (aside : Aside) (s : State), s.localOn = true →
    (∀ addr, a ≠ 0xFFFFFF → addr = 2 ^ 26 * s.lbPage + 4 * a.toNat → memTarget addr = some 1 ∨ memTarget addr = some 2 →
      s.badWords.contains (addr / 16) = false → s.march.borrowed = none →
      ∃ t, exec (.localBusAccess false a en v .clean none aside) s = .next t ∧ t.regs = s.regs ∧ s.SameMemory t ∧
        t.outbox = s.outbox ++ [.localBus false false (wordIn addr (Mem.readWide s.mem (wordAddr addr)))]) ∧
    (∃ t, exec (.localBusAccess false 0xFFFFFF en v .clean none aside) s = .next t ∧
      t.outbox = s.outbox ++ [.localBus false false (BitVec.ofNat 32 s.lbPage)] ∧ t.regs = s.regs ∧ s.SameMemory t) ∧
    (∃ t, exec (.lbPageWrite v) s = .next t ∧ t.lbPage = v.toNat % 64 ∧ t.regs = s.regs ∧ s.SameMemory t) ∧
    (∀ w, ∃ t, exec (.localBusTimeout w a) s = .next t ∧ t.outbox = s.outbox ++ [.localBus false true 0] ∧
      t.answer localHost.copy = .error .timeout ∧ t.rd F.BM_ERR_CAUSE 0 = 3 ∧ t.rd F.BM_ERR_MASTER 0 = 1 ∧
      t.on F.BM_STICKY_TIMEOUT 0 = true ∧ s.OnlyAt t 0 [.BM_ERR, .BM_ERR_ADDR, .BM_STICKY] ∧ s.SameMemory t)) ∧
  (∀ (c : Fin 4) (aside : Aside) (s : State),
    (∃ t, exec (.jtagAccess .idcode aside) s = .next t ∧ t.outbox = s.outbox ++ [.jtag s.idcode] ∧ t.regs = s.regs ∧ s.SameMemory t) ∧
    (s.devState = .test → s.boot.porst = false →
      ∃ t, exec (.jtagAccess .boundaryScan aside) s = .next t ∧ t.scanning = true ∧ t.regs = s.regs ∧ s.SameMemory t) ∧
    (s.debugOpen = true → ∃ t, exec (.jtagAccess (.halt c) aside) s = .next t ∧ (t.core c.val).halted = true ∧
      (∀ k, k ≠ c.val → t.core k = s.core k) ∧ t.regs = s.regs ∧ s.SameMemory t) ∧
    (∀ b, s.debugOpen = false → exec (.jtagAccess (.halt c) aside) s = .next s ∧ exec (.jtagAccess (.resume c) aside) s = .next s ∧
      exec (.jtagAccess (.bus c b) aside) s = .next s)) ∧
  (∀ (m : Initiator) (v : Word) (aside : Aside) (s : State),
    (s.Alone → s.on F.GRID_SWAP_STAT_ARMED 0 = false → ∃ t, exec (.registerWrite m 0x21000010 v aside) s = .next t ∧
      t.reg .GRID_SWAP_AT_LO 0 = v ∧ t.answer m.copy = .ok 0 ∧ s.OnlyAt t 0 [.GRID_SWAP_AT_LO] ∧ s.SameMemory t) ∧
    (∃ t, exec (.registerWrite m 0x21000400 v aside) s = .next t ∧ t.reg .TR_SEL m.copy = v &&& 0xFFF ∧ t.answer m.copy = .ok 0 ∧
      s.OnlyAt t m.copy [.TR_SEL] ∧ s.SameMemory t) ∧
    (m.isUser = true → ∃ t, exec (.registerWrite m 0x20000110 v aside) s = .next t ∧ t.answer m.copy = .error .priv ∧
      t.reg .SY_LOOP_FREEZE 0 = s.reg .SY_LOOP_FREEZE 0 ∧ s.OnlyAt t 0 [.BM_ERR, .BM_ERR_ADDR, .BM_STICKY] ∧ s.SameMemory t))

/-- R22, R26, R524: outside PORSTn every boundary advances TICK_NO by one, modulo 2^48, whatever the tick has shown, while no thermal reset is
due; in PORSTn time passes and nothing else changes. -/
def Obligations.TickNoAdvancesAtEveryBoundary : Prop :=
  (∀ (obs : List TickObs) (s : State), s.boot.porst = false → s.boot.tickAt = none → s.thermal.resetAt = none →
    ∃ t, exec (.tickBoundary obs) s = .next t ∧ t.tick = s.tick + 1 ∧ t.now = s.now + 1) ∧
  (∀ s : State, s.boot.porst = true → exec (.tickBoundary []) s = .next { s with now := s.now + 1 })

/-- R31: a master that reads SY_TICKNO_LO and then SY_TICKNO_HI obtains one 48-bit value, whatever other masters read in between and however
far TICK_NO has moved. -/
def Obligations.EachMasterLatchesTheTickNumber : Prop :=
  ∀ (m : Initiator) (s : State), ∃ t, exec (.syTicknoLoRead m) s = .next t ∧ t.answer m.copy = .ok (s.tick.setWidth 32) ∧
    ∀ between : List (Initiator × Nat × Tick), (∀ x ∈ between, x.1.copy ≠ m.copy) →
      ((between.foldl (fun u x => { u with tick := x.2.2 }.readReg x.1 x.2.1) t).readReg m 0x20000104).answer m.copy =
        .ok ((s.tick >>> 32).setWidth 32)

/-- R3, R31, R85, R119, R141, R181, R230, R268, R304, R338, R363, R399, R451, R482, R510, R584, R587, R588: a read of a low half answers bits
[31:0] of the selected count and latches its bits [47:32] into the reading master's own copy of the high half; nothing else changes. -/
def Obligations.LowHalfReadsLatchTheHighHalf : Prop :=
  (∀ (m : Initiator) (c : Instr) (hi : Field) (v : Nat) (s : State),
    (c = .syTicknoLoRead m ∧ hi = F.SY_TICKNO_HI_TICK_HI ∧ v = s.tick.toNat) ∨
      (c = .trBipLoRead m ∧ hi = F.TR_BIP_HI_CNT_HI ∧ v = s.ctr ⟨.trBip, 0, s.trainSel m⟩) ∨
      (c = .lnErrLoRead m ∧ hi = F.LN_ERR_HI_ERR_HI ∧ v = s.ctr ⟨.lnErr, 0, s.laneSel m⟩) ∨
      (c = .lnBitsLoRead m ∧ hi = F.LN_BITS_HI_BITS_HI ∧ v = s.ctr ⟨.lnBits, 0, s.laneSel m⟩) ∨
      (c = .qyCntLoRead m ∧ hi = F.QY_CNT_HI_CNT_HI ∧ s.leads (s.quaySel m) = true ∧ s.rd F.QY_CSEL_CNT m.copy < 10 ∧
        v = s.ctr ⟨.quay, s.rd F.QY_CSEL_CNT m.copy, clientNo (s.quaySel m) (s.slotSel m)⟩) ∨
      (c = .qyCntLoRead m ∧ hi = F.QY_CNT_HI_CNT_HI ∧ s.leads (s.quaySel m) = false ∧ v = 0) ∨
      (c = .fpCntLoRead m ∧ hi = F.FP_CNT_HI_CNT_HI ∧ s.engineExists (s.rd F.FP_SEL_ENGINE m.copy) = true ∧
        v = s.ctr ⟨.fp, s.rd F.FP_SEL_CNT m.copy, s.rd F.FP_SEL_ENGINE m.copy⟩) ∨
      (c = .fpCntLoRead m ∧ hi = F.FP_CNT_HI_CNT_HI ∧ s.engineExists (s.rd F.FP_SEL_ENGINE m.copy) = false ∧ v = 0) ∨
      (c = .mgCntLoRead m ∧ hi = F.MG_CNT_HI_CNT_HI ∧ s.rd F.MG_CSEL_CNT m.copy ≤ 8 ∧
        v = s.ctr ⟨.mg, s.rd F.MG_CSEL_CNT m.copy, s.groupSel m⟩) ∨
      (c = .mtCntLoRead m ∧ hi = F.MT_CNT_HI_CNT_HI ∧ s.rd F.MT_CSEL_CNT m.copy ≤ 9 ∧ v = s.ctr ⟨.mt, s.rd F.MT_CSEL_CNT m.copy, 0⟩) ∨
      (c = .hrCntLoRead m ∧ hi = F.HR_CNT_HI_CNT_HI ∧ s.rd F.HR_CSEL_CNT m.copy ≤ 11 ∧
        v = s.ctr ⟨.hr, s.rd F.HR_CSEL_CNT m.copy, s.mportSel m⟩) →
    ∃ t, exec c s = .next t ∧ t.answer m.copy = .ok (BitVec.ofNat 32 v) ∧ t.rd hi m.copy = v / 2 ^ 32 % 2 ^ 16 ∧ t.ctrs = s.ctrs ∧
      s.OnlyAt t m.copy [hi.reg] ∧ s.SameMemory t) ∧
  (∀ (m : Initiator) (c : Instr) (hi : Field) (v : Nat) (s : State),
    (c = .lfFnoLoRead m ∧ hi = F.LF_FNO_HI_FNO_HI ∧ v = (s.lineFrame (s.lfUnit m (s.engineSel m))).expect.toNat) ∨
      (c = .lfPmLoRead m ∧ hi = F.LF_PM_HI_CNT_HI ∧ s.rd F.LF_PM_SEL_CNT m.copy ≤ 12 ∧
        v = s.ctr ⟨.lf, s.rd F.LF_PM_SEL_CNT m.copy, s.lfUnit m (s.engineSel m)⟩) ∨
      (c = .tdCntLoRead m ∧ hi = F.TD_CNT_HI_CNT_HI ∧ s.rd F.TD_CSEL_CNT m.copy ≤ 9 ∧
        v = s.ctr ⟨.td, s.rd F.TD_CSEL_CNT m.copy, s.subcarrierSel m⟩) ∨
      (c = .tdCntLoRead m ∧ hi = F.TD_CNT_HI_CNT_HI ∧ 16 ≤ s.rd F.TD_CSEL_CNT m.copy ∧ s.rd F.TD_CSEL_CNT m.copy ≤ 22 ∧
        v = s.ctr ⟨.td, s.rd F.TD_CSEL_CNT m.copy, s.leafSel m⟩) →
    (s.engineExists (s.engineSel m) = true →
      ∃ t, exec c s = .next t ∧ t.answer m.copy = .ok (BitVec.ofNat 32 v) ∧ t.rd hi m.copy = v / 2 ^ 32 % 2 ^ 16 ∧
        t.ctrs = s.ctrs ∧ s.OnlyAt t m.copy [hi.reg] ∧ s.SameMemory t) ∧
    (s.engineExists (s.engineSel m) = false →
      ∃ t, exec c s = .next t ∧ t.answer m.copy = .error .default ∧ s.OnlyAt t 0 [.BM_ERR, .BM_ERR_ADDR, .BM_STICKY] ∧ s.SameMemory t)) ∧
  (∀ (m : Initiator) (i : Fin 65) (v : Nat) (s : State),
    (s.pcReadRefused m = false → v = (if i = 64 then s.tick.toNat else s.ctr ⟨.pc, i.val, 0⟩) →
      ∃ t, exec (.pcCntLoRead m i) s = .next t ∧ t.answer m.copy = .ok (BitVec.ofNat 32 v) ∧
        t.rd F.PC_CNT_HI_CNT_HI (m.copy * 65 + i.val) = v / 2 ^ 32 % 2 ^ 16 ∧ t.ctrs = s.ctrs ∧
        s.OnlyAt t (m.copy * 65 + i.val) [.PC_CNT_HI] ∧ s.SameMemory t) ∧
    (s.pcReadRefused m = true → ∃ t, exec (.pcCntLoRead m i) s = .next t ∧ t.answer m.copy = .error .priv ∧
      s.OnlyAt t 0 [.BM_ERR, .BM_ERR_ADDR, .BM_STICKY] ∧ s.SameMemory t)) ∧
  (∀ (m : Initiator) (s : State),
    (∃ t, exec (.gridSwapDoneLoRead m) s = .next t ∧ t.answer m.copy = .ok (BitVec.ofNat 32 (s.rd F.GRID_SWAP_DONE_LO_DONE_LO 0)) ∧
      t.rd F.GRID_SWAP_DONE_HI_DONE_HI m.copy = s.swap.doneHi % 2 ^ 16 ∧ s.OnlyAt t m.copy [.GRID_SWAP_DONE_HI] ∧ s.SameMemory t) ∧
    (∃ t, exec (.mmEccAddrLoRead m) s = .next t ∧ t.answer m.copy = .ok (BitVec.ofNat 32 (s.rd F.MM_ECC_ADDR_LO_ADDR_LO 0)) ∧
      t.reg .MM_ECC_ADDR_HI m.copy = BitVec.ofNat 32 s.eccHigh &&& BitVec.ofNat 32 (Reg.info .MM_ECC_ADDR_HI).impl ∧
      s.OnlyAt t m.copy [.MM_ECC_ADDR_HI] ∧ s.SameMemory t) ∧
    (∃ t, exec (.tmTb0Read m) s = .next t ∧ t.answer m.copy = .ok (s.tick.setWidth 32) ∧
      t.rd F.TM_TB1_TB m.copy = s.tick.toNat / 2 ^ 32 * 2 ^ 16 + s.tbStamp.sec / 2 ^ 32 % 2 ^ 16 ∧
      t.rd F.TM_TB2_TB m.copy = s.tbStamp.sec % 2 ^ 32 ∧ t.rd F.TM_TB3_TB m.copy = s.tbStamp.ns % 2 ^ F.TM_TB3_TB.width ∧
      t.rd F.TM_TB4_TB m.copy = s.tbStamp.frac % 2 ^ F.TM_TB4_TB.width ∧ s.OnlyAt t m.copy [.TM_TB1, .TM_TB2, .TM_TB3, .TM_TB4] ∧
      s.SameMemory t))

/-- A step takes the command at the front of the queue and runs it with the rest of the queue left waiting; on an empty queue the block
idles, and no command stops it. -/
def Obligations.StepRunsTheCommandAtTheFront : Prop :=
  (∀ (c : Instr) (s : State), step { s with pending := c :: s.pending } = exec c s) ∧
    (∀ (c : Instr) (rest : List Instr) (s : State), s.pending = c :: rest → step s = exec c { s with pending := rest }) ∧
    (∀ s : State, s.pending = [] → step s = .next s) ∧ ∀ s : State, s.Goes

/-- The invariant of every sound run holds after reset. -/
def Obligations.ResetMeetsTheInvariant : Prop :=
 State.reset.Inv

/-- Whatever command waits at the front, a step from a state that meets the invariant ends in a state that meets it: no reserved bit becomes
1 (R11), the memories keep their canonical form (R483, R508), the logger's queue holds at most 64 records (R580) and the UART's FIFOs
at most 64 bytes (R536). -/
def Obligations.EveryStepKeepsTheInvariant : Prop :=
 ∀ s t : State, s.Inv → step s = .next t → t.Inv

/-- R11: in a state that meets the invariant every reserved bit of every copy of every register is 0, and stays 0 when a host writes any
word to any register address. -/
def Obligations.ReservedBitsStayClear : Prop :=
  ∀ s : State, s.Inv → (∀ (r : Reg) (i : Nat), s.reg r i &&& ~~~ BitVec.ofNat 32 r.info.impl = 0) ∧
    ∀ (m : Initiator) (a : Nat) (v : Word) (x : Aside), ∃ t, exec (.registerWrite m a v x) s = .next t ∧
      ∀ (r : Reg) (i : Nat), t.reg r i &&& ~~~ BitVec.ofNat 32 r.info.impl = 0

/-- R429 to R431: a write that is journaled, made by masters 0 to 5 or 8, is not performed on a standby, which answers with the error
response and sets LOCAL_WR; on the active it becomes the next journal entry, due JLEAD boundaries on, and nothing else changes. -/
def Obligations.MatesJournalWrites : Prop :=
  ∀ (m : Initiator) (c : Instr) (w : Write) (s : State), m.journals = true →
    (c = .prepare m ∧ w = .prepare) ∨ (c = .arm m ∧ w = .arm) ∨ (c = .cancel m ∧ w = .cancel) ∨ (c = .repack m ∧ w = .repack) ∨
      (c = .trainingRestart m ∧ w = .trainRestart (s.laneSel m)) ∨ (c = .loopbackRelease m ∧ w = .loopRelease (s.laneSel m)) ∨
      (c = .patChkClr m ∧ w = .patClr (s.laneSel m)) ∨ (c = .injectSingle m ∧ w = .injectSingle (s.laneSel m)) ∨
      (∃ v, c = .qyIdataWrite m v ∧ w = .idata (s.quaySel m) v) ∨ (∃ v, c = .hrRetireWrite m v ∧ w = .retire (s.mportSel m) v) ∨
      (∃ v, c = .hrCcTxdWrite m v ∧ w = .ccTx v) ∨ (∃ v, c = .dcStart m v ∧ w = .dcStart v) ∨
      (c = .mgRealign m ∧ w = .mgRealign (s.groupSel m)) ∨ (c = .tsLearn m ∧ w = .tsLearn (s.rd F.TM_TSEL_SRC m.copy)) ∨
      (∃ v, c = .swOfsWrite m v ∧ w = .swOfs v) ∨ (c = .invarResetModel m ∧ w = .resetModel) →
    (s.standby = true → ∃ t, exec c s = .next t ∧ t.answer m.copy = .error .target ∧ t.on F.MT_STICKY_LOCAL_WR 0 = true ∧
      t.journal = s.journal ∧ s.OnlyAt t 0 [.BM_ERR, .BM_ERR_ADDR, .BM_STICKY, .MT_STICKY] ∧ s.SameMemory t) ∧
    (s.active = true → ∃ t e, exec c s = .next t ∧ t.answer m.copy = .ok 0 ∧ t.journal = s.journal ++ [e] ∧ e.write = w ∧
      e.apply = s.tick + BitVec.ofNat 48 (s.rd F.MT_CFG_JLEAD 0) ∧ e.due = s.now + s.rd F.MT_CFG_JLEAD 0 ∧
      e.seq = (s.rd F.MT_JSEQ_JSEQ 0 + 1) % 2 ^ 32 ∧ t.rd F.MT_JSEQ_JSEQ 0 = e.seq ∧
      t.ctr ⟨.mt, 5, 0⟩ = (s.ctr ⟨.mt, 5, 0⟩ + 1) % 2 ^ 48 ∧ s.OnlyAt t 0 [.MT_JSEQ] ∧ s.SameMemory t)
end

