-- ==== Sys2Proof/Laws/Memory.lean ====
section
/-! SUPPORT. Laws of the byte-addressed memory: every operation keeps the canonical form, a read after a write, and other bytes. -/

namespace Sys2Proof.Machine

set_option Elab.async false

theorem Mem.risesFrom_mono {m : Mem} {a b : Nat} (hab : a ≤ b) (h : Mem.risesFrom b m = true) : Mem.risesFrom a m = true := by
  cases m with
  | nil => rfl
  | cons x t => simp only [Mem.risesFrom, Bool.and_eq_true, Nat.blt_eq] at h ⊢; exact ⟨by omega, h.2⟩

theorem Mem.rising_of_risesFrom {m : Mem} {a : Nat} (h : Mem.risesFrom a m = true) : Mem.rising m = true := by
  cases m with
  | nil => rfl
  | cons x t => simp only [Mem.risesFrom, Bool.and_eq_true] at h; exact h.2

theorem Mem.drop_risesFrom {m : Mem} {k a : Nat} (h : Mem.risesFrom k m = true) : Mem.risesFrom k (Mem.drop m a) = true := by
  induction m generalizing k with
  | nil => rfl
  | cons x t ih =>
    simp only [Mem.risesFrom, Bool.and_eq_true, Nat.blt_eq] at h
    simp only [Mem.drop]
    split
    · exact Mem.risesFrom_mono (by omega) (ih h.2)
    · simp only [Mem.risesFrom, Bool.and_eq_true, Nat.blt_eq]; exact ⟨h.1, ih h.2⟩

theorem Mem.place_risesFrom {m : Mem} {k a : Nat} {v : Byte} (hk : k < a) (h : Mem.risesFrom k m = true)
    (hn : Mem.find m a = none) : Mem.risesFrom k (Mem.place m a v) = true := by
  induction m generalizing k with
  | nil => simp [Mem.place, Mem.risesFrom, hk]
  | cons x t ih =>
    simp only [Mem.risesFrom, Bool.and_eq_true, Nat.blt_eq] at h
    simp only [Mem.find] at hn
    simp only [Mem.place]
    split at hn
    · cases hn
    · rename_i hne
      split
      · rename_i hlt
        simp only [Nat.blt_eq] at hlt
        simp only [Mem.risesFrom, Bool.and_eq_true, Nat.blt_eq]; exact ⟨hk, hlt, h.2⟩
      · rename_i hge
        simp only [Nat.blt_eq] at hge
        simp only [Nat.beq_eq] at hne
        simp only [Mem.risesFrom, Bool.and_eq_true, Nat.blt_eq]; exact ⟨h.1, ih (by omega) h.2 hn⟩

theorem Mem.find_drop_self (m : Mem) (a : Nat) : Mem.find (Mem.drop m a) a = none := by
  induction m with
  | nil => rfl
  | cons x t ih =>
    simp only [Mem.drop]
    split
    · exact ih
    · rename_i h; simp only [Mem.find]; split
      · rename_i h2; exact absurd h2 h
      · exact ih

theorem Mem.wf_iff {m : Mem} : Mem.wf m = true ↔ Mem.rising m = true ∧ ∀ c ∈ m, c.2 ≠ Mem.blank := by
  cases m with
  | nil => simp [Mem.wf, Mem.rising]
  | cons x t => simp [Mem.wf, Mem.rising, List.all_eq_true, and_assoc]

theorem Mem.rising_cons {x : Host.Cell} {t : Mem} : Mem.rising (x :: t) = true ↔ Mem.risesFrom x.1 t = true := Iff.rfl

theorem Mem.drop_rising {m : Mem} {a : Nat} (h : Mem.rising m = true) : Mem.rising (Mem.drop m a) = true := by
  cases m with
  | nil => rfl
  | cons x t =>
    simp only [Mem.drop]
    split
    · exact Mem.rising_of_risesFrom (Mem.drop_risesFrom h)
    · exact Mem.drop_risesFrom h

theorem Mem.place_rising {m : Mem} {a : Nat} {v : Byte} (h : Mem.rising m = true) (hn : Mem.find m a = none) :
    Mem.rising (Mem.place m a v) = true := by
  cases m with
  | nil => rfl
  | cons x t =>
    simp only [Mem.find] at hn
    simp only [Mem.place]
    split at hn
    · cases hn
    · rename_i hne
      split
      · rename_i hlt
        simp only [Mem.rising, Mem.risesFrom, hlt, Bool.true_and]; exact h
      · rename_i hge
        simp only [Nat.blt_eq] at hge
        simp only [Nat.beq_eq] at hne
        exact Mem.place_risesFrom (by omega) h hn

theorem Mem.mem_drop {m : Mem} {a : Nat} {c : Host.Cell} (h : c ∈ Mem.drop m a) : c ∈ m := by
  induction m with
  | nil => exact h
  | cons x t ih =>
    simp only [Mem.drop] at h
    split at h
    · exact List.mem_cons_of_mem _ (ih h)
    · rcases List.mem_cons.1 h with h | h
      · exact h ▸ List.mem_cons_self
      · exact List.mem_cons_of_mem _ (ih h)

theorem Mem.mem_place {m : Mem} {a : Nat} {v : Byte} {c : Host.Cell} (h : c ∈ Mem.place m a v) : c = (a, v) ∨ c ∈ m := by
  induction m with
  | nil => simpa [Mem.place] using h
  | cons x t ih =>
    simp only [Mem.place] at h
    split at h
    · simpa using h
    · rcases List.mem_cons.1 h with h | h
      · exact .inr (h ▸ List.mem_cons_self)
      · exact (ih h).imp id (List.mem_cons_of_mem _)

theorem Mem.write_wf {m : Mem} {a : Nat} {v : Byte} (h : Mem.wf m = true) : Mem.wf (Mem.write m a v) = true := by
  rw [Mem.wf_iff] at h ⊢
  unfold Mem.write
  split
  · exact ⟨Mem.drop_rising h.1, fun c hc => h.2 c (Mem.mem_drop hc)⟩
  · rename_i hv
    refine ⟨Mem.place_rising (Mem.drop_rising h.1) (Mem.find_drop_self m a), fun c hc => ?_⟩
    rcases Mem.mem_place hc with rfl | hc
    · exact hv
    · exact h.2 c (Mem.mem_drop hc)

theorem Mem.writeBytes_wf {m : Mem} {a : Nat} {l : List Byte} (h : Mem.wf m = true) : Mem.wf (Mem.writeBytes m a l) = true := by
  induction l generalizing m a with
  | nil => exact h
  | cons b t ih => exact ih (Mem.write_wf h)

theorem Mem.keep_rising {m : Mem} {a : Nat} {l : List Byte} (h : Mem.rising m = true) : Mem.rising (Mem.keep m a l) = true := by
  induction l generalizing m a with
  | nil => exact h
  | cons b t ih => exact ih (Mem.place_rising (Mem.drop_rising h) (Mem.find_drop_self m a))

theorem Mem.filter_risesFrom {m : Mem} {k : Nat} {p : Host.Cell → Bool} (h : Mem.risesFrom k m = true) :
    Mem.risesFrom k (m.filter p) = true := by
  induction m generalizing k with
  | nil => rfl
  | cons x t ih =>
    simp only [Mem.risesFrom, Bool.and_eq_true, Nat.blt_eq] at h
    rw [List.filter_cons]
    split
    · simp only [Mem.risesFrom, Bool.and_eq_true, Nat.blt_eq]; exact ⟨h.1, ih h.2⟩
    · exact Mem.risesFrom_mono (by omega) (ih h.2)

theorem Mem.filter_rising {m : Mem} {p : Host.Cell → Bool} (h : Mem.rising m = true) : Mem.rising (m.filter p) = true := by
  cases m with
  | nil => rfl
  | cons x t =>
    rw [List.filter_cons]
    split
    · exact Mem.filter_risesFrom h
    · exact Mem.rising_of_risesFrom (Mem.filter_risesFrom h)

end Sys2Proof.Machine
end

