-- ==== Sys2Proof/Laws/InvOps.lean ====
section
/-! SUPPORT. The invariant `State.Inv` through each function of Access, Ops, Flags, Operands: one lemma per function, named after
it. -/

namespace Sys2Proof.Machine

set_option Elab.async false


theorem State.inv_ite {c : Prop} [Decidable c] {s t : State} (h : s.Inv) (k : t.Inv) : (if c then s else t).Inv := by
  split <;> assumption

theorem State.inv_mk {s : State}
    {a_pending : List Instr} {a_act : Table Word} {a_ctrs : Table Nat} {a_tick : Tick} {a_now : Nat}
    {a_free : Nat} {a_atBoundary : List Keyed} {a_answers : Table Answer} {a_outbox : List Out} {a_reports : List Report}
    {a_slots : Table CoalSlot} {a_logSeq : Nat} {a_links : Table Link} {a_avsCore : AvsLoop} {a_avsLe : AvsLoop} {a_stores :
    Table Store} {a_trains : Table Train} {a_ingress : Table Berth} {a_staged : Table Berth} {a_egress : Table Berth}
    {a_sources : Table Nat} {a_banks : Table Word} {a_swap : Swap} {a_lostTransfers : List Nat} {a_lanes : Table Lane}
    {a_clients : Table Client} {a_packets : Table Packets} {a_frames : Table LineFrame} {a_taps : Table Run} {a_tapsAccepted
    : Table Nat} {a_gccs : Table Gcc} {a_sections : Table Section} {a_engines : Table Engine} {a_pool : Pool} {a_enc : Table
    EncCtx} {a_keyJobs : Table ((Option KeyJob))} {a_hubs : Table TideHub} {a_tideScs : Table TideSc} {a_tideLeaves : Table
    TideLeaf} {a_downstream : Table Subcarrier} {a_merges : Table MergeGroup} {a_refs : Table TimeRef} {a_gridPll : FreqPll}
    {a_outPll : FreqPll} {a_timeSources : Table TimeSource} {a_timePll : TimePll} {a_captures : Table Capture} {a_measures :
    Table Measure} {a_journal : List JEntry} {a_mate : Mate} {a_snapshot : Option Snapshot} {a_snapshotBefore : Option
    Snapshot} {a_moors : Table Moor} {a_ccUser : CcUser} {a_domain : Option DomainCommit} {a_badWords : List Nat} {a_written
    : List Nat} {a_ancBad : List Nat} {a_march : March} {a_eccHigh : Nat} {a_repairColumn : Option (Nat × Nat)} {a_repaired :
    Table Nat} {a_cores : Table Core} {a_pcie : Pcie} {a_lbPage : Nat} {a_mailbox : Mailbox} {a_scanning : Bool} {a_image :
    Image} {a_committed : Bool} {a_applied : Option Image} {a_previous : Option Image} {a_fuses : Fuses} {a_fuseCells :
    Fuses} {a_fuseTarget : Option Nat} {a_boot : Boot} {a_imageJob : ImageJob} {a_blockResets : List (Resource × Nat)}
    {a_tallies : Table Nat} {a_msixWaiting : Table Bool} {a_linkUp : Bool} {a_busMaster : Bool} {a_dumpJobs : List DumpJob}
    {a_dumpSeqs : Table Nat} {a_dumpAt : Option Nat} {a_clientSections : Table Section} {a_pathSections : Table Section}
    {a_bins : Table PmBin} {a_secondAt : Option Nat} {a_thermal : Thermal}
    (h : s.Inv) :
    (State.mk
      a_pending s.regs a_act a_ctrs a_tick a_now a_free a_atBoundary a_answers a_outbox a_reports s.logQueue a_slots a_logSeq
      a_links a_avsCore a_avsLe a_stores a_trains a_ingress a_staged a_egress a_sources a_banks a_swap a_lostTransfers
      a_lanes a_clients a_packets a_frames a_taps a_tapsAccepted a_gccs a_sections a_engines a_pool a_enc a_keyJobs a_hubs
      a_tideScs a_tideLeaves a_downstream a_merges a_refs a_gridPll a_outPll a_timeSources a_timePll a_captures a_measures
      a_journal a_mate a_snapshot a_snapshotBefore a_moors a_ccUser a_domain s.mem a_badWords s.anc a_written a_ancBad
      a_march a_eccHigh a_repairColumn a_repaired a_cores a_pcie a_lbPage s.uart a_mailbox a_scanning a_image a_committed
      a_applied a_previous a_fuses a_fuseCells a_fuseTarget a_boot a_imageJob a_blockResets a_tallies a_msixWaiting a_linkUp
      a_busMaster a_dumpJobs a_dumpSeqs a_dumpAt a_clientSections a_pathSections a_bins a_secondAt a_thermal).Inv := h

theorem State.inv_foldl {α : Type} {f : State → α → State} (hf : ∀ s x, s.Inv → (f s x).Inv) :
    ∀ (l : List α) (s : State), s.Inv → (l.foldl f s).Inv
  | [], _, h => h
  | x :: l, s, h => State.inv_foldl hf l (f s x) (hf s x h)

theorem State.inv_snd {α : Type} {p : α × State} {a : α} {s : State} (h : p.2.Inv) (e : p = (a, s)) : s.Inv := by
  rw [e] at h; exact h

theorem State.inv_fst {α : Type} {p : State × α} {a : α} {s : State} (h : p.1.Inv) (e : p = (s, a)) : s.Inv := by
  rw [e] at h; exact h

theorem State.regs_inv {s : State} {t : Table Word} (h : s.Inv) (ht : reservedClear t) : ({ s with regs := t } : State).Inv :=
  ⟨⟨ht, h.1.2⟩, h.2⟩

theorem Tab.mem_drop {α : Type} {t : Table α} {k : Key} {x : Key × α} (h : x ∈ Tab.drop t k) : x ∈ t := by
  induction t with
  | nil => exact h
  | cons y t ih =>
    simp only [Tab.drop] at h
    split at h
    · exact List.mem_cons_of_mem _ (ih h)
    · rcases List.mem_cons.1 h with h | h
      · exact h ▸ List.mem_cons_self
      · exact List.mem_cons_of_mem _ (ih h)

theorem Tab.mem_place {α : Type} {t : Table α} {k : Key} {v : α} {x : Key × α} (h : x ∈ Tab.place t k v) : x = (k, v) ∨ x ∈ t := by
  induction t with
  | nil => simpa [Tab.place] using h
  | cons y t ih =>
    simp only [Tab.place] at h
    split at h
    · simpa using h
    · rcases List.mem_cons.1 h with h | h
      · exact .inr (h ▸ List.mem_cons_self)
      · exact (ih h).imp id (List.mem_cons_of_mem _)

theorem Tab.mem_put {α : Type} [DecidableEq α] {d : α} {t : Table α} {k : Key} {v : α} {x : Key × α} (h : x ∈ Tab.put d t k v) :
    x = (k, v) ∨ x ∈ t := by
  unfold Tab.put at h
  split at h
  · exact .inr (Tab.mem_drop h)
  · exact (Tab.mem_place h).imp id Tab.mem_drop

theorem Reg.ctorIdx_inj {r q : Reg} (h : r.ctorIdx = q.ctorIdx) : r = q := by
  have := Reg.ofNat_ctorIdx r
  rw [h, Reg.ofNat_ctorIdx] at this
  exact this.symm

theorem reservedClear_put {t : Table Word} {r : Reg} {i : Nat} {v : Word} (h : reservedClear t) : reservedClear (regPut t r i v) := by
  intro x hx q hq
  rcases Tab.mem_put hx with rfl | hx
  · cases Reg.ctorIdx_inj hq
    ext j
    simp
  · exact h x hx q hq

theorem reservedClear_filter {t : Table Word} {p : Key × Word → Bool} (h : reservedClear t) : reservedClear (t.filter p) :=
  fun x hx => h x (List.mem_filter.1 hx).1

theorem State.setAnswer_inv {s1 : State} {x2 : Nat} {x3 : Answer} (h1 : s1.Inv) : (State.setAnswer s1 x2 x3).Inv := by
  unfold State.setAnswer
  with_reducible repeat' first | intro _ | assumption | apply State.inv_ite | split | apply State.inv_mk

theorem State.setSlot_inv {s1 : State} {x2 : Nat} {x3 : CoalSlot} (h1 : s1.Inv) : (State.setSlot s1 x2 x3).Inv := by
  unfold State.setSlot
  with_reducible repeat' first | intro _ | assumption | apply State.inv_ite | split | apply State.inv_mk

theorem State.setLink_inv {s1 : State} {x2 : Nat} {x3 : Link} (h1 : s1.Inv) : (State.setLink s1 x2 x3).Inv := by
  unfold State.setLink
  with_reducible repeat' first | intro _ | assumption | apply State.inv_ite | split | apply State.inv_mk

theorem State.setStore_inv {s1 : State} {x2 : Nat} {x3 : Store} (h1 : s1.Inv) : (State.setStore s1 x2 x3).Inv := by
  unfold State.setStore
  with_reducible repeat' first | intro _ | assumption | apply State.inv_ite | split | apply State.inv_mk

theorem State.setTrain_inv {s1 : State} {x2 : Nat} {x3 : Train} (h1 : s1.Inv) : (State.setTrain s1 x2 x3).Inv := by
  unfold State.setTrain
  with_reducible repeat' first | intro _ | assumption | apply State.inv_ite | split | apply State.inv_mk

theorem State.setIngressBerth_inv {s1 : State} {x2 : Nat} {x3 : Berth} (h1 : s1.Inv) : (State.setIngressBerth s1 x2 x3).Inv := by
  unfold State.setIngressBerth
  with_reducible repeat' first | intro _ | assumption | apply State.inv_ite | split | apply State.inv_mk

theorem State.setStagedBerth_inv {s1 : State} {x2 : Nat} {x3 : Berth} (h1 : s1.Inv) : (State.setStagedBerth s1 x2 x3).Inv := by
  unfold State.setStagedBerth
  with_reducible repeat' first | intro _ | assumption | apply State.inv_ite | split | apply State.inv_mk

theorem State.setEgressBerth_inv {s1 : State} {x2 : Nat} {x3 : Berth} (h1 : s1.Inv) : (State.setEgressBerth s1 x2 x3).Inv := by
  unfold State.setEgressBerth
  with_reducible repeat' first | intro _ | assumption | apply State.inv_ite | split | apply State.inv_mk

theorem State.setSourceOf_inv {s1 : State} {x2 : Nat} {x3 : Nat} (h1 : s1.Inv) : (State.setSourceOf s1 x2 x3).Inv := by
  unfold State.setSourceOf
  with_reducible repeat' first | intro _ | assumption | apply State.inv_ite | split | apply State.inv_mk

theorem State.setManifest_inv {s1 : State} {x2 : Nat} {x3 : Nat} {x4 : Word} (h1 : s1.Inv) : (State.setManifest s1 x2 x3 x4).Inv := by
  unfold State.setManifest
  with_reducible repeat' first | intro _ | assumption | apply State.inv_ite | split | apply State.inv_mk

theorem State.setLane_inv {s1 : State} {x2 : Nat} {x3 : Lane} (h1 : s1.Inv) : (State.setLane s1 x2 x3).Inv := by
  unfold State.setLane
  with_reducible repeat' first | intro _ | assumption | apply State.inv_ite | split | apply State.inv_mk

theorem State.setClient_inv {s1 : State} {x2 : Nat} {x3 : Client} (h1 : s1.Inv) : (State.setClient s1 x2 x3).Inv := by
  unfold State.setClient
  with_reducible repeat' first | intro _ | assumption | apply State.inv_ite | split | apply State.inv_mk

theorem State.setPacketsOf_inv {s1 : State} {x2 : Nat} {x3 : Packets} (h1 : s1.Inv) : (State.setPacketsOf s1 x2 x3).Inv := by
  unfold State.setPacketsOf
  with_reducible repeat' first | intro _ | assumption | apply State.inv_ite | split | apply State.inv_mk

theorem State.setLineFrame_inv {s1 : State} {x2 : Nat} {x3 : LineFrame} (h1 : s1.Inv) : (State.setLineFrame s1 x2 x3).Inv := by
  unfold State.setLineFrame
  with_reducible repeat' first | intro _ | assumption | apply State.inv_ite | split | apply State.inv_mk

theorem State.setTapsRun_inv {s1 : State} {x2 : Nat} {x3 : Run} (h1 : s1.Inv) : (State.setTapsRun s1 x2 x3).Inv := by
  unfold State.setTapsRun
  with_reducible repeat' first | intro _ | assumption | apply State.inv_ite | split | apply State.inv_mk

theorem State.setTapsAcc_inv {s1 : State} {x2 : Nat} {x3 : Nat} (h1 : s1.Inv) : (State.setTapsAcc s1 x2 x3).Inv := by
  unfold State.setTapsAcc
  with_reducible repeat' first | intro _ | assumption | apply State.inv_ite | split | apply State.inv_mk

theorem State.setGcc_inv {s1 : State} {x2 : Nat} {x3 : Gcc} (h1 : s1.Inv) : (State.setGcc s1 x2 x3).Inv := by
  unfold State.setGcc
  with_reducible repeat' first | intro _ | assumption | apply State.inv_ite | split | apply State.inv_mk

theorem State.setPmSection_inv {s1 : State} {x2 : Nat} {x3 : Section} (h1 : s1.Inv) : (State.setPmSection s1 x2 x3).Inv := by
  unfold State.setPmSection
  with_reducible repeat' first | intro _ | assumption | apply State.inv_ite | split | apply State.inv_mk

theorem State.setEngine_inv {s1 : State} {x2 : Nat} {x3 : Engine} (h1 : s1.Inv) : (State.setEngine s1 x2 x3).Inv := by
  unfold State.setEngine
  with_reducible repeat' first | intro _ | assumption | apply State.inv_ite | split | apply State.inv_mk

theorem State.setEncCtx_inv {s1 : State} {x2 : Nat} {x3 : EncCtx} (h1 : s1.Inv) : (State.setEncCtx s1 x2 x3).Inv := by
  unfold State.setEncCtx
  with_reducible repeat' first | intro _ | assumption | apply State.inv_ite | split | apply State.inv_mk

theorem State.setKeyJob_inv {s1 : State} {x2 : Nat} {x3 : (Option KeyJob)} (h1 : s1.Inv) : (State.setKeyJob s1 x2 x3).Inv := by
  unfold State.setKeyJob
  with_reducible repeat' first | intro _ | assumption | apply State.inv_ite | split | apply State.inv_mk

theorem State.setHub_inv {s1 : State} {x2 : Nat} {x3 : TideHub} (h1 : s1.Inv) : (State.setHub s1 x2 x3).Inv := by
  unfold State.setHub
  with_reducible repeat' first | intro _ | assumption | apply State.inv_ite | split | apply State.inv_mk

theorem State.setTideSc_inv {s1 : State} {x2 : Nat} {x3 : TideSc} (h1 : s1.Inv) : (State.setTideSc s1 x2 x3).Inv := by
  unfold State.setTideSc
  with_reducible repeat' first | intro _ | assumption | apply State.inv_ite | split | apply State.inv_mk

theorem State.setTideLeaf_inv {s1 : State} {x2 : Nat} {x3 : TideLeaf} (h1 : s1.Inv) : (State.setTideLeaf s1 x2 x3).Inv := by
  unfold State.setTideLeaf
  with_reducible repeat' first | intro _ | assumption | apply State.inv_ite | split | apply State.inv_mk

theorem State.setDsCarrier_inv {s1 : State} {x2 : Nat} {x3 : Subcarrier} (h1 : s1.Inv) : (State.setDsCarrier s1 x2 x3).Inv := by
  unfold State.setDsCarrier
  with_reducible repeat' first | intro _ | assumption | apply State.inv_ite | split | apply State.inv_mk

theorem State.setMerge_inv {s1 : State} {x2 : Nat} {x3 : MergeGroup} (h1 : s1.Inv) : (State.setMerge s1 x2 x3).Inv := by
  unfold State.setMerge
  with_reducible repeat' first | intro _ | assumption | apply State.inv_ite | split | apply State.inv_mk

theorem State.setTimeRef_inv {s1 : State} {x2 : Nat} {x3 : TimeRef} (h1 : s1.Inv) : (State.setTimeRef s1 x2 x3).Inv := by
  unfold State.setTimeRef
  with_reducible repeat' first | intro _ | assumption | apply State.inv_ite | split | apply State.inv_mk

theorem State.setTimeSource_inv {s1 : State} {x2 : Nat} {x3 : TimeSource} (h1 : s1.Inv) : (State.setTimeSource s1 x2 x3).Inv := by
  unfold State.setTimeSource
  with_reducible repeat' first | intro _ | assumption | apply State.inv_ite | split | apply State.inv_mk

theorem State.setCapture_inv {s1 : State} {x2 : Nat} {x3 : Capture} (h1 : s1.Inv) : (State.setCapture s1 x2 x3).Inv := by
  unfold State.setCapture
  with_reducible repeat' first | intro _ | assumption | apply State.inv_ite | split | apply State.inv_mk

theorem State.setMeasure_inv {s1 : State} {x2 : Nat} {x3 : Measure} (h1 : s1.Inv) : (State.setMeasure s1 x2 x3).Inv := by
  unfold State.setMeasure
  with_reducible repeat' first | intro _ | assumption | apply State.inv_ite | split | apply State.inv_mk

theorem State.setMoor_inv {s1 : State} {x2 : Nat} {x3 : Moor} (h1 : s1.Inv) : (State.setMoor s1 x2 x3).Inv := by
  unfold State.setMoor
  with_reducible repeat' first | intro _ | assumption | apply State.inv_ite | split | apply State.inv_mk

theorem State.setRepairOf_inv {s1 : State} {x2 : Nat} {x3 : Nat} {x4 : Nat} (h1 : s1.Inv) : (State.setRepairOf s1 x2 x3 x4).Inv := by
  unfold State.setRepairOf
  with_reducible repeat' first | intro _ | assumption | apply State.inv_ite | split | apply State.inv_mk

theorem State.setCore_inv {s1 : State} {x2 : Nat} {x3 : Core} (h1 : s1.Inv) : (State.setCore s1 x2 x3).Inv := by
  unfold State.setCore
  with_reducible repeat' first | intro _ | assumption | apply State.inv_ite | split | apply State.inv_mk

theorem State.setTally_inv {s1 : State} {x2 : Nat} {x3 : Nat} {x4 : Nat} (h1 : s1.Inv) : (State.setTally s1 x2 x3 x4).Inv := by
  unfold State.setTally
  with_reducible repeat' first | intro _ | assumption | apply State.inv_ite | split | apply State.inv_mk

theorem State.setMsixWaits_inv {s1 : State} {x2 : Nat} {x3 : Bool} (h1 : s1.Inv) : (State.setMsixWaits s1 x2 x3).Inv := by
  unfold State.setMsixWaits
  with_reducible repeat' first | intro _ | assumption | apply State.inv_ite | split | apply State.inv_mk

theorem State.setDumpSeq_inv {s1 : State} {x2 : Nat} {x3 : Nat} (h1 : s1.Inv) : (State.setDumpSeq s1 x2 x3).Inv := by
  unfold State.setDumpSeq
  with_reducible repeat' first | intro _ | assumption | apply State.inv_ite | split | apply State.inv_mk

theorem State.setClientPm_inv {s1 : State} {x2 : Nat} {x3 : Section} (h1 : s1.Inv) : (State.setClientPm s1 x2 x3).Inv := by
  unfold State.setClientPm
  with_reducible repeat' first | intro _ | assumption | apply State.inv_ite | split | apply State.inv_mk

theorem State.setPathPm_inv {s1 : State} {x2 : Nat} {x3 : Section} (h1 : s1.Inv) : (State.setPathPm s1 x2 x3).Inv := by
  unfold State.setPathPm
  with_reducible repeat' first | intro _ | assumption | apply State.inv_ite | split | apply State.inv_mk

theorem State.setBin_inv {s1 : State} {x2 : Nat} {x3 : Nat} {x4 : PmBin} (h1 : s1.Inv) : (State.setBin s1 x2 x3 x4).Inv := by
  unfold State.setBin
  with_reducible repeat' first | intro _ | assumption | apply State.inv_ite | split | apply State.inv_mk

theorem State.setReg_inv {s : State} {r : Reg} {i : Nat} {v : Word} (h : s.Inv) : (s.setReg r i v).Inv :=
  State.regs_inv h (reservedClear_put h.1.1)

theorem State.keepRegs_inv {s : State} {p : Key × Word → Bool} (h : s.Inv) : (s.keepRegs p).Inv :=
  State.regs_inv h (reservedClear_filter h.1.1)

theorem State.wr_inv {s1 : State} {x2 : Field} {x3 : Nat} {x4 : Nat} (h1 : s1.Inv) : (State.wr s1 x2 x3 x4).Inv := by
  unfold State.wr
  with_reducible repeat' first | intro _ | assumption | apply State.setReg_inv | apply State.inv_ite | split | apply State.inv_mk

theorem State.incWrap_inv {s1 : State} {x2 : Field} {x3 : Nat} {x4 : Nat} (h1 : s1.Inv) : (State.incWrap s1 x2 x3 x4).Inv := by
  unfold State.incWrap
  with_reducible repeat' first | intro _ | assumption | apply State.wr_inv | apply State.inv_ite | split | apply State.inv_mk

theorem State.incSat_inv {s1 : State} {x2 : Field} {x3 : Nat} {x4 : Nat} (h1 : s1.Inv) : (State.incSat s1 x2 x3 x4).Inv := by
  unfold State.incSat
  with_reducible repeat' first | intro _ | assumption | apply State.wr_inv | apply State.inv_ite | split | apply State.inv_mk

theorem State.wrBool_inv {s1 : State} {x2 : Field} {x3 : Nat} {x4 : Bool} (h1 : s1.Inv) : (State.wrBool s1 x2 x3 x4).Inv := by
  unfold State.wrBool
  with_reducible repeat' first | intro _ | assumption | apply State.wr_inv | apply State.inv_ite | split | apply State.inv_mk

theorem State.reply_inv {s1 : State} {x2 : Initiator} {x3 : Answer} (h1 : s1.Inv) : (State.reply s1 x2 x3).Inv := by
  unfold State.reply
  with_reducible repeat' first | intro _ | assumption | apply State.setAnswer_inv | apply State.inv_ite | split | apply State.inv_mk

theorem State.replyWord_inv {s1 : State} {x2 : Initiator} {x3 : Nat} (h1 : s1.Inv) : (State.replyWord s1 x2 x3).Inv := by
  unfold State.replyWord
  with_reducible repeat' first | intro _ | assumption | apply State.reply_inv | apply State.inv_ite | split | apply State.inv_mk

theorem State.readLatched_inv {s1 : State} {x2 : Initiator} {x3 : Field} {x4 : Nat} (h1 : s1.Inv) : (State.readLatched s1 x2 x3 x4).Inv := by
  unfold State.readLatched
  with_reducible repeat' first | intro _ | assumption | apply State.replyWord_inv | apply State.wr_inv | apply State.inv_ite | split | apply State.inv_mk

theorem State.setCtr_inv {s1 : State} {x2 : Ctr} {x3 : Nat} (h1 : s1.Inv) : (State.setCtr s1 x2 x3).Inv := by
  unfold State.setCtr
  with_reducible repeat' first | intro _ | assumption | apply State.inv_ite | split | apply State.inv_mk

theorem State.count_inv {s1 : State} {x2 : Ctr} {x3 : Nat} (h1 : s1.Inv) : (State.count s1 x2 x3).Inv := by
  unfold State.count
  with_reducible repeat' first | intro _ | assumption | apply State.setCtr_inv | apply State.inv_ite | split | apply State.inv_mk

theorem State.addTally_inv {s1 : State} {x2 : Nat} {x3 : Nat} {x4 : Nat} (h1 : s1.Inv) : (State.addTally s1 x2 x3 x4).Inv := by
  unfold State.addTally
  with_reducible repeat' first | intro _ | assumption | apply State.setTally_inv | apply State.inv_ite | split | apply State.inv_mk

theorem State.later_inv {s1 : State} {x2 : Keyed} (h1 : s1.Inv) : (State.later s1 x2).Inv := by
  unfold State.later
  with_reducible repeat' first | intro _ | assumption | apply State.inv_ite | split | apply State.inv_mk

theorem State.sramWord_inv {s : State} {a : Nat} {l : List Byte} (h : s.Inv) : (s.sramWord a l).Inv :=
  ⟨⟨h.1.1, Mem.writeBytes_wf h.1.2⟩, h.2⟩

theorem State.send_inv {s1 : State} {x2 : Out} (h1 : s1.Inv) : (State.send s1 x2).Inv := by
  unfold State.send
  with_reducible repeat' first | intro _ | assumption | apply State.inv_ite | split | apply State.inv_mk

theorem State.draw_inv {s1 : State} (h1 : s1.Inv) : (State.draw s1).Inv := by
  unfold State.draw
  with_reducible repeat' first | intro _ | assumption | apply State.inv_ite | split | apply State.inv_mk

theorem State.setDevState_inv {s1 : State} {x2 : DevState} (h1 : s1.Inv) : (State.setDevState s1 x2).Inv := by
  unfold State.setDevState
  with_reducible repeat' first | intro _ | assumption | apply State.wr_inv | apply State.inv_ite | split | apply State.inv_mk

theorem State.each_inv {α : Type} {s : State} {l : List α} {f : State → α → State} (h : s.Inv)
    (hf : ∀ s x, s.Inv → (f s x).Inv) : (s.each l f).Inv := State.inv_foldl hf l s h

theorem State.msixLeaves_inv {s1 : State} {x2 : Nat} (h1 : s1.Inv) : (State.msixLeaves s1 x2).Inv := by
  unfold State.msixLeaves
  with_reducible repeat' first | intro _ | assumption | apply State.send_inv | apply State.inv_ite | split | apply State.inv_mk

theorem State.sendMsix_inv {s1 : State} {x2 : Nat} (h1 : s1.Inv) : (State.sendMsix s1 x2).Inv := by
  unfold State.sendMsix
  with_reducible repeat' first | intro _ | assumption | apply State.msixLeaves_inv | apply State.setMsixWaits_inv | apply State.inv_ite | split | apply State.inv_mk

theorem State.flushMsix_inv {s1 : State} (h1 : s1.Inv) : (State.flushMsix s1).Inv := by
  unfold State.flushMsix
  with_reducible repeat' first | intro _ | assumption | apply State.each_inv | apply State.msixLeaves_inv | apply State.setMsixWaits_inv | apply State.inv_ite | split | apply State.inv_mk

theorem State.report_inv {s1 : State} {x2 : Nat} {x3 : Nat} {x4 : Nat} {x5 : Nat} (h1 : s1.Inv) : (State.report s1 x2 x3 x4 x5).Inv := by
  unfold State.report
  with_reducible repeat' first | intro _ | assumption | apply State.wr_inv | apply State.incWrap_inv | apply State.addTally_inv | apply State.sendMsix_inv | apply State.inv_ite | split | apply State.inv_mk

theorem State.raise_inv {s1 : State} {x2 : Field} {x3 : Nat} (h1 : s1.Inv) : (State.raise s1 x2 x3).Inv := by
  unfold State.raise
  with_reducible repeat' first | intro _ | assumption | apply State.wr_inv | apply State.report_inv | apply State.inv_ite | split | apply State.inv_mk

theorem State.raiseIf_inv {s1 : State} {x2 : Bool} {x3 : Field} {x4 : Nat} (h1 : s1.Inv) : (State.raiseIf s1 x2 x3 x4).Inv := by
  unfold State.raiseIf
  with_reducible repeat' first | intro _ | assumption | apply State.raise_inv | apply State.inv_ite | split | apply State.inv_mk

theorem State.raiseSource_inv {s1 : State} {x2 : Nat} (h1 : s1.Inv) : (State.raiseSource s1 x2).Inv := by
  unfold State.raiseSource
  with_reducible repeat' first | intro _ | assumption | apply State.report_inv | apply State.inv_ite | split | apply State.inv_mk

theorem State.accessFault_inv {s1 : State} {x2 : Initiator} {x3 : Nat} {x4 : Nat} (h1 : s1.Inv) : (State.accessFault s1 x2 x3 x4).Inv := by
  unfold State.accessFault
  with_reducible repeat' first | intro _ | assumption | apply State.setCore_inv | apply State.inv_ite | split | apply State.inv_mk

theorem State.busError_inv {s1 : State} {x2 : Initiator} {x3 : Bool} {x4 : Nat} {x5 : BusCause} (h1 : s1.Inv) : (State.busError s1 x2 x3 x4 x5).Inv := by
  unfold State.busError
  with_reducible repeat' first | intro _ | assumption | apply State.wr_inv | apply State.wrBool_inv | apply State.incSat_inv | apply State.accessFault_inv | apply State.raise_inv | apply State.reply_inv | apply State.inv_ite | split | apply State.inv_mk

theorem State.busBusy_inv {s1 : State} {x2 : Initiator} {x3 : Bool} {x4 : Nat} (h1 : s1.Inv) : (State.busBusy s1 x2 x3 x4).Inv := by
  unfold State.busBusy
  with_reducible repeat' first | intro _ | assumption | apply State.wr_inv | apply State.wrBool_inv | apply State.accessFault_inv | apply State.reply_inv | apply State.inv_ite | split | apply State.inv_mk

theorem State.refuseLocal_inv {s1 : State} {x2 : Initiator} {x3 : Nat} (h1 : s1.Inv) : (State.refuseLocal s1 x2 x3).Inv := by
  unfold State.refuseLocal
  with_reducible repeat' first | intro _ | assumption | apply State.raise_inv | apply State.busError_inv | apply State.inv_ite | split | apply State.inv_mk

theorem State.journalEntry_inv {s1 : State} {x2 : Write} (h1 : s1.Inv) : (State.journalEntry s1 x2).Inv := by
  unfold State.journalEntry
  with_reducible repeat' first | intro _ | assumption | apply State.count_inv | apply State.wr_inv | apply State.inv_ite | split | apply State.inv_mk

theorem State.write_inv {s1 : State} {x2 : Initiator} {x3 : Nat} {x4 : Write} {f5 : State → State} (h1 : s1.Inv) (h5 : ∀ (y0 : State), y0.Inv → (f5 y0).Inv) : (State.write s1 x2 x3 x4 f5).Inv := by
  unfold State.write
  with_reducible repeat' first | intro _ | assumption | apply h5 | apply State.refuseLocal_inv | apply State.reply_inv | apply State.journalEntry_inv | apply State.inv_ite | split | apply State.inv_mk

end Sys2Proof.Machine
end

