-- ==== Sys2Proof/Laws/Registers.lean ====
section
/-! SUPPORT. Laws of the sparse tables and of the registers: a read after a write, and what a write leaves alone. -/

namespace Sys2Proof.Machine

set_option Elab.async false

/-! ### Sparse tables -/

theorem Key.same_iff {a b : Key} : Key.same a b = true ↔ a = b := by
  obtain ⟨a1, a2⟩ := a
  obtain ⟨b1, b2⟩ := b
  simp [Key.same]

theorem Tab.find_drop {α : Type} (t : Table α) (k j : Key) : Tab.find (Tab.drop t k) j = if k = j then none else Tab.find t j := by
  induction t with
  | nil => simp [Tab.drop, Tab.find]
  | cons x t ih =>
    simp only [Tab.drop, Tab.find, Key.same_iff]
    split
    · subst_vars
      rw [ih]
      split
      · rfl
      · rfl
    · simp only [Tab.find, Key.same_iff]
      split
      · rename_i h1 h2
        rw [if_neg (fun e => h1 (h2.trans e.symm))]
      · exact ih

theorem Tab.find_place {α : Type} {t : Table α} {k : Key} (v : α) (h : Tab.find t k = none) (j : Key) :
    Tab.find (Tab.place t k v) j = if k = j then some v else Tab.find t j := by
  induction t with
  | nil => simp [Tab.place, Tab.find, Key.same_iff]
  | cons x t ih =>
    simp only [Tab.find, Key.same_iff] at h
    split at h
    · cases h
    · rename_i hne
      simp only [Tab.place]
      split
      · simp only [Tab.find, Key.same_iff]
      · simp only [Tab.find, Key.same_iff, ih h]
        split
        · rename_i e
          rw [if_neg (fun e2 => hne (e.trans e2.symm))]
        · rfl

/-- Reading a table after a write. -/
theorem Tab.get_put {α : Type} [DecidableEq α] (d : α) (t : Table α) (k : Key) (v : α) (j : Key) :
    Tab.get d (Tab.put d t k v) j = if k = j then v else Tab.get d t j := by
  unfold Tab.get Tab.put
  split
  · rename_i hv
    rw [Tab.find_drop]
    split
    · simp [hv]
    · rfl
  · rw [Tab.find_place v (by rw [Tab.find_drop]; simp)]
    split
    · rfl
    · rename_i hk
      rw [Tab.find_drop, if_neg hk]

/-! ### Registers -/

theorem Reg.key_inj {r q : Reg} {i j : Nat} (h : r.key i = q.key j) : r = q ∧ i = j :=
  ⟨Reg.ctorIdx_inj (congrArg Prod.fst h), congrArg Prod.snd h⟩

/-- A register after a write: reserved bits stay 0 (R11), and no other copy changes. -/
theorem State.reg_setReg (s : State) (r : Reg) (i : Nat) (v : Word) (q : Reg) (j : Nat) :
    (s.setReg r i v).reg q j = if r = q ∧ i = j then v &&& BitVec.ofNat 32 r.info.impl else s.reg q j := by
  by_cases h : r = q ∧ i = j
  · obtain ⟨rfl, rfl⟩ := h
    simp only [State.reg, State.setReg, regGet, regPut, Tab.get_put, and_self, if_true]
  · rw [if_neg h]
    by_cases hk : r.key i = q.key j
    · exact absurd (Reg.key_inj hk) h
    · have : ∀ t : Table Word, Tab.get (q.resetValue j) (Tab.put (r.resetValue i) t (r.key i) (v &&& BitVec.ofNat 32 r.info.impl)) (q.key j) =
          Tab.get (q.resetValue j) t (q.key j) := by
        intro t
        unfold Tab.get Tab.put
        split
        · rw [Tab.find_drop, if_neg hk]
        · rw [Tab.find_place _ (by rw [Tab.find_drop]; simp), if_neg hk, Tab.find_drop, if_neg hk]
      exact this s.regs

/-- The field lies inside its register: its bits are implemented. -/
def Field.good (f : Field) : Bool := Nat.ble f.lo f.hi && Nat.blt f.hi 32 && (f.mask &&& f.reg.info.impl == f.mask)

theorem Field.get_lt (f : Field) (w : Word) : f.get w < 2 ^ f.width := Nat.mod_lt _ (Nat.two_pow_pos _)

theorem Field.testBit_get (f : Field) (w : Word) (k : Nat) : (f.get w).testBit k = (decide (k < f.width) && w.getLsbD (f.lo + k)) := by
  simp only [Field.get, Nat.testBit_mod_two_pow, Nat.testBit_shiftRight, BitVec.testBit_toNat]

theorem Field.getLsbD_mask {f : Field} (h : f.good = true) (k : Nat) :
    (BitVec.ofNat 32 f.mask).getLsbD k = (decide (f.lo ≤ k) && decide (k ≤ f.hi)) := by
  simp only [Field.good, Bool.and_eq_true, Nat.ble_eq, Nat.blt_eq] at h
  obtain ⟨⟨h1, h2⟩, -⟩ := h
  simp only [BitVec.getLsbD_ofNat, Field.mask, Nat.testBit_shiftLeft, Nat.testBit_two_pow_sub_one, Field.width]
  by_cases h3 : f.lo ≤ k <;> by_cases h4 : k ≤ f.hi <;> simp [h3, h4] <;> omega

theorem Field.impl_getLsbD {f : Field} (h : f.good = true) {k : Nat} (h1 : f.lo ≤ k) (h2 : k ≤ f.hi) :
    (BitVec.ofNat 32 f.reg.info.impl).getLsbD k = true := by
  have hm := Field.getLsbD_mask h k
  simp only [Field.good, Bool.and_eq_true, beq_iff_eq, Nat.blt_eq] at h
  rw [← h.2] at hm
  simp only [BitVec.getLsbD_ofNat, Nat.testBit_and, decide_eq_true h1, decide_eq_true h2, Bool.and_true, Bool.and_eq_true] at hm ⊢
  exact ⟨hm.1, hm.2.2⟩

/-- A field reads as it was set. -/
theorem Field.get_set {f : Field} (h : f.good = true) (w : Word) (v : Nat) :
    f.get (f.set w v &&& BitVec.ofNat 32 f.reg.info.impl) = v % 2 ^ f.width := by
  apply Nat.eq_of_testBit_eq
  intro k
  rw [Field.testBit_get, Nat.testBit_mod_two_pow]
  by_cases hk : k < f.width
  · have hg := h
    simp only [Field.good, Bool.and_eq_true, Nat.ble_eq, Nat.blt_eq] at hg
    have hw : f.width = f.hi - f.lo + 1 := rfl
    have h1 : f.lo ≤ f.lo + k := by omega
    have h2 : f.lo + k ≤ f.hi := by omega
    have h3 : f.lo + k < 32 := by omega
    simp only [Field.set, BitVec.getLsbD_and, BitVec.getLsbD_or, BitVec.getLsbD_not, Field.getLsbD_mask h, Field.impl_getLsbD h h1 h2,
      BitVec.getLsbD_ofNat, Nat.testBit_shiftLeft, Nat.testBit_mod_two_pow, hk, h1, h2, h3, decide_true, Bool.and_true, Bool.true_and,
      Bool.not_true, Bool.and_false, Bool.false_or, Nat.add_sub_cancel_left]
  · simp [hk]

/-- A field keeps its value when a field beside it is set. -/
theorem Field.get_set_ne {f g : Field} (h : f.good = true) (hg : g.good = true) (hr : f.reg = g.reg) (hd : g.hi < f.lo ∨ f.hi < g.lo)
    (w : Word) (v : Nat) : g.get (f.set w v &&& BitVec.ofNat 32 f.reg.info.impl) = g.get w := by
  apply Nat.eq_of_testBit_eq
  intro k
  rw [Field.testBit_get, Field.testBit_get]
  by_cases hk : k < g.width
  · have hg' := hg
    simp only [Field.good, Bool.and_eq_true, Nat.ble_eq, Nat.blt_eq] at hg'
    have hw : g.width = g.hi - g.lo + 1 := rfl
    have h3 : g.lo + k < 32 := by omega
    have hm : (BitVec.ofNat 32 f.mask).getLsbD (g.lo + k) = false := by
      rw [Field.getLsbD_mask h]
      rcases hd with hd | hd <;> simp <;> omega
    have hi : (BitVec.ofNat 32 f.reg.info.impl).getLsbD (g.lo + k) = true := by
      rw [hr]; exact Field.impl_getLsbD hg (by omega) (by omega)
    simp only [Field.set, BitVec.getLsbD_and, BitVec.getLsbD_or, BitVec.getLsbD_not, hm, hi, hk, h3, decide_true, Bool.and_true, Bool.true_and,
      Bool.not_false, Bool.and_false, Bool.or_false]
  · simp [hk]

/-- A field reads as it was written. -/
theorem State.rd_wr {f : Field} (h : f.good = true) (s : State) (i v : Nat) : (s.wr f i v).rd f i = v % 2 ^ f.width := by
  simp only [State.rd, State.wr, State.reg_setReg, and_self, if_true, Field.get_set h]

/-- A write of a field leaves the other registers and copies alone. -/
theorem State.rd_wr_reg {f g : Field} {i j : Nat} (h : f.reg ≠ g.reg ∨ i ≠ j) (s : State) (v : Nat) : (s.wr f i v).rd g j = s.rd g j := by
  simp only [State.rd, State.wr, State.reg_setReg]
  rw [if_neg]
  rintro ⟨h1, h2⟩
  rcases h with h | h
  · exact h h1
  · exact h h2

/-- A write of a field leaves the fields beside it alone. -/
theorem State.rd_wr_field {f g : Field} (h : f.good = true) (hg : g.good = true) (hr : f.reg = g.reg) (hd : g.hi < f.lo ∨ f.hi < g.lo)
    (s : State) (i v : Nat) : (s.wr f i v).rd g i = s.rd g i := by
  simp only [State.rd, State.wr, State.reg_setReg, hr, and_self, if_true]
  rw [← hr, Field.get_set_ne h hg hr hd, hr]

theorem State.rd_lt (s : State) (f : Field) (i : Nat) : s.rd f i < 2 ^ f.width := Field.get_lt _ _

/-- A write of a field leaves every other register as it was. -/
theorem State.reg_wr_ne {f : Field} {q : Reg} {i j : Nat} (h : f.reg ≠ q ∨ i ≠ j) (s : State) (v : Nat) : (s.wr f i v).reg q j = s.reg q j := by
  simp only [State.wr, State.reg_setReg]
  rw [if_neg]
  rintro ⟨h1, h2⟩
  rcases h with h | h
  · exact h h1
  · exact h h2

end Sys2Proof.Machine
end

