-- ==== Sys2Proof/Laws/Access.lean ====
section
/-! SUPPORT. Each table of the state: an entry after an entry is replaced. -/

namespace Sys2Proof.Machine

set_option Elab.async false

@[simp] theorem State.answer_setAnswer (s : State) (i : Nat) (v : Answer) (k : Nat) :
    (s.setAnswer i v).answer k = if i = k then v else s.answer k := by
  simp [State.answer, State.setAnswer, Tab.get_put]

@[simp] theorem State.slot_setSlot (s : State) (i : Nat) (v : CoalSlot) (k : Nat) :
    (s.setSlot i v).slot k = if i = k then v else s.slot k := by
  simp [State.slot, State.setSlot, Tab.get_put]

@[simp] theorem State.link_setLink (s : State) (i : Nat) (v : Link) (k : Nat) :
    (s.setLink i v).link k = if i = k then v else s.link k := by
  simp [State.link, State.setLink, Tab.get_put]

@[simp] theorem State.store_setStore (s : State) (i : Nat) (v : Store) (k : Nat) :
    (s.setStore i v).store k = if i = k then v else s.store k := by
  simp [State.store, State.setStore, Tab.get_put]

@[simp] theorem State.train_setTrain (s : State) (i : Nat) (v : Train) (k : Nat) :
    (s.setTrain i v).train k = if i = k then v else s.train k := by
  simp [State.train, State.setTrain, Tab.get_put]

@[simp] theorem State.ingressBerth_setIngressBerth (s : State) (i : Nat) (v : Berth) (k : Nat) :
    (s.setIngressBerth i v).ingressBerth k = if i = k then v else s.ingressBerth k := by
  simp [State.ingressBerth, State.setIngressBerth, Tab.get_put]

@[simp] theorem State.stagedBerth_setStagedBerth (s : State) (i : Nat) (v : Berth) (k : Nat) :
    (s.setStagedBerth i v).stagedBerth k = if i = k then v else s.stagedBerth k := by
  simp [State.stagedBerth, State.setStagedBerth, Tab.get_put]

@[simp] theorem State.egressBerth_setEgressBerth (s : State) (i : Nat) (v : Berth) (k : Nat) :
    (s.setEgressBerth i v).egressBerth k = if i = k then v else s.egressBerth k := by
  simp [State.egressBerth, State.setEgressBerth, Tab.get_put]

@[simp] theorem State.sourceOf_setSourceOf (s : State) (i : Nat) (v : Nat) (k : Nat) :
    (s.setSourceOf i v).sourceOf k = if i = k then v else s.sourceOf k := by
  simp [State.sourceOf, State.setSourceOf, Tab.get_put]

@[simp] theorem State.manifest_setManifest (s : State) (i j : Nat) (v : Word) (k l : Nat) :
    (s.setManifest i j v).manifest k l = if i = k ∧ j = l then v else s.manifest k l := by
  simp [State.manifest, State.setManifest, Tab.get_put]

@[simp] theorem State.lane_setLane (s : State) (i : Nat) (v : Lane) (k : Nat) :
    (s.setLane i v).lane k = if i = k then v else s.lane k := by
  simp [State.lane, State.setLane, Tab.get_put]

@[simp] theorem State.client_setClient (s : State) (i : Nat) (v : Client) (k : Nat) :
    (s.setClient i v).client k = if i = k then v else s.client k := by
  simp [State.client, State.setClient, Tab.get_put]

@[simp] theorem State.packetsOf_setPacketsOf (s : State) (i : Nat) (v : Packets) (k : Nat) :
    (s.setPacketsOf i v).packetsOf k = if i = k then v else s.packetsOf k := by
  simp [State.packetsOf, State.setPacketsOf, Tab.get_put]

@[simp] theorem State.lineFrame_setLineFrame (s : State) (i : Nat) (v : LineFrame) (k : Nat) :
    (s.setLineFrame i v).lineFrame k = if i = k then v else s.lineFrame k := by
  simp [State.lineFrame, State.setLineFrame, Tab.get_put]

@[simp] theorem State.tapsRun_setTapsRun (s : State) (i : Nat) (v : Run) (k : Nat) :
    (s.setTapsRun i v).tapsRun k = if i = k then v else s.tapsRun k := by
  simp [State.tapsRun, State.setTapsRun, Tab.get_put]

@[simp] theorem State.tapsAcc_setTapsAcc (s : State) (i : Nat) (v : Nat) (k : Nat) :
    (s.setTapsAcc i v).tapsAcc k = if i = k then v else s.tapsAcc k := by
  simp [State.tapsAcc, State.setTapsAcc, Tab.get_put]

@[simp] theorem State.gcc_setGcc (s : State) (i : Nat) (v : Gcc) (k : Nat) :
    (s.setGcc i v).gcc k = if i = k then v else s.gcc k := by
  simp [State.gcc, State.setGcc, Tab.get_put]

@[simp] theorem State.pmSection_setPmSection (s : State) (i : Nat) (v : Section) (k : Nat) :
    (s.setPmSection i v).pmSection k = if i = k then v else s.pmSection k := by
  simp [State.pmSection, State.setPmSection, Tab.get_put]

@[simp] theorem State.engine_setEngine (s : State) (i : Nat) (v : Engine) (k : Nat) :
    (s.setEngine i v).engine k = if i = k then v else s.engine k := by
  simp [State.engine, State.setEngine, Tab.get_put]

@[simp] theorem State.encCtx_setEncCtx (s : State) (i : Nat) (v : EncCtx) (k : Nat) :
    (s.setEncCtx i v).encCtx k = if i = k then v else s.encCtx k := by
  simp [State.encCtx, State.setEncCtx, Tab.get_put]

@[simp] theorem State.keyJob_setKeyJob (s : State) (i : Nat) (v : (Option KeyJob)) (k : Nat) :
    (s.setKeyJob i v).keyJob k = if i = k then v else s.keyJob k := by
  simp [State.keyJob, State.setKeyJob, Tab.get_put]

@[simp] theorem State.hub_setHub (s : State) (i : Nat) (v : TideHub) (k : Nat) :
    (s.setHub i v).hub k = if i = k then v else s.hub k := by
  simp [State.hub, State.setHub, Tab.get_put]

@[simp] theorem State.tideSc_setTideSc (s : State) (i : Nat) (v : TideSc) (k : Nat) :
    (s.setTideSc i v).tideSc k = if i = k then v else s.tideSc k := by
  simp [State.tideSc, State.setTideSc, Tab.get_put]

@[simp] theorem State.tideLeaf_setTideLeaf (s : State) (i : Nat) (v : TideLeaf) (k : Nat) :
    (s.setTideLeaf i v).tideLeaf k = if i = k then v else s.tideLeaf k := by
  simp [State.tideLeaf, State.setTideLeaf, Tab.get_put]

@[simp] theorem State.dsCarrier_setDsCarrier (s : State) (i : Nat) (v : Subcarrier) (k : Nat) :
    (s.setDsCarrier i v).dsCarrier k = if i = k then v else s.dsCarrier k := by
  simp [State.dsCarrier, State.setDsCarrier, Tab.get_put]

@[simp] theorem State.merge_setMerge (s : State) (i : Nat) (v : MergeGroup) (k : Nat) :
    (s.setMerge i v).merge k = if i = k then v else s.merge k := by
  simp [State.merge, State.setMerge, Tab.get_put]

@[simp] theorem State.timeRef_setTimeRef (s : State) (i : Nat) (v : TimeRef) (k : Nat) :
    (s.setTimeRef i v).timeRef k = if i = k then v else s.timeRef k := by
  simp [State.timeRef, State.setTimeRef, Tab.get_put]

@[simp] theorem State.timeSource_setTimeSource (s : State) (i : Nat) (v : TimeSource) (k : Nat) :
    (s.setTimeSource i v).timeSource k = if i = k then v else s.timeSource k := by
  simp [State.timeSource, State.setTimeSource, Tab.get_put]

@[simp] theorem State.capture_setCapture (s : State) (i : Nat) (v : Capture) (k : Nat) :
    (s.setCapture i v).capture k = if i = k then v else s.capture k := by
  simp [State.capture, State.setCapture, Tab.get_put]

@[simp] theorem State.measure_setMeasure (s : State) (i : Nat) (v : Measure) (k : Nat) :
    (s.setMeasure i v).measure k = if i = k then v else s.measure k := by
  simp [State.measure, State.setMeasure, Tab.get_put]

@[simp] theorem State.moor_setMoor (s : State) (i : Nat) (v : Moor) (k : Nat) :
    (s.setMoor i v).moor k = if i = k then v else s.moor k := by
  simp [State.moor, State.setMoor, Tab.get_put]

@[simp] theorem State.repairOf_setRepairOf (s : State) (i j : Nat) (v : Nat) (k l : Nat) :
    (s.setRepairOf i j v).repairOf k l = if i = k ∧ j = l then v else s.repairOf k l := by
  simp [State.repairOf, State.setRepairOf, Tab.get_put]

@[simp] theorem State.core_setCore (s : State) (i : Nat) (v : Core) (k : Nat) :
    (s.setCore i v).core k = if i = k then v else s.core k := by
  simp [State.core, State.setCore, Tab.get_put]

@[simp] theorem State.tally_setTally (s : State) (i j : Nat) (v : Nat) (k l : Nat) :
    (s.setTally i j v).tally k l = if i = k ∧ j = l then v else s.tally k l := by
  simp [State.tally, State.setTally, Tab.get_put]

@[simp] theorem State.msixWaits_setMsixWaits (s : State) (i : Nat) (v : Bool) (k : Nat) :
    (s.setMsixWaits i v).msixWaits k = if i = k then v else s.msixWaits k := by
  simp [State.msixWaits, State.setMsixWaits, Tab.get_put]

@[simp] theorem State.dumpSeq_setDumpSeq (s : State) (i : Nat) (v : Nat) (k : Nat) :
    (s.setDumpSeq i v).dumpSeq k = if i = k then v else s.dumpSeq k := by
  simp [State.dumpSeq, State.setDumpSeq, Tab.get_put]

@[simp] theorem State.clientPm_setClientPm (s : State) (i : Nat) (v : Section) (k : Nat) :
    (s.setClientPm i v).clientPm k = if i = k then v else s.clientPm k := by
  simp [State.clientPm, State.setClientPm, Tab.get_put]

@[simp] theorem State.pathPm_setPathPm (s : State) (i : Nat) (v : Section) (k : Nat) :
    (s.setPathPm i v).pathPm k = if i = k then v else s.pathPm k := by
  simp [State.pathPm, State.setPathPm, Tab.get_put]

@[simp] theorem State.bin_setBin (s : State) (i j : Nat) (v : PmBin) (k l : Nat) :
    (s.setBin i j v).bin k l = if i = k ∧ j = l then v else s.bin k l := by
  simp [State.bin, State.setBin, Tab.get_put]

end Sys2Proof.Machine
end

