-- ==== Sys2Proof/Laws/State.lean ====
section
/-! SUPPORT. What the basic updates of the state leave alone: one lemma for each update and each field it does not write. -/

namespace Sys2Proof.Machine

set_option Elab.async false

@[simp] theorem State.setReg_pending (s : State) (r : Reg) (i : Nat) (v : Word) : (s.setReg r i v).pending = s.pending := rfl
@[simp] theorem State.setReg_act (s : State) (r : Reg) (i : Nat) (v : Word) : (s.setReg r i v).act = s.act := rfl
@[simp] theorem State.setReg_ctrs (s : State) (r : Reg) (i : Nat) (v : Word) : (s.setReg r i v).ctrs = s.ctrs := rfl
@[simp] theorem State.setReg_tick (s : State) (r : Reg) (i : Nat) (v : Word) : (s.setReg r i v).tick = s.tick := rfl
@[simp] theorem State.setReg_now (s : State) (r : Reg) (i : Nat) (v : Word) : (s.setReg r i v).now = s.now := rfl
@[simp] theorem State.setReg_free (s : State) (r : Reg) (i : Nat) (v : Word) : (s.setReg r i v).free = s.free := rfl
@[simp] theorem State.setReg_atBoundary (s : State) (r : Reg) (i : Nat) (v : Word) : (s.setReg r i v).atBoundary = s.atBoundary := rfl
@[simp] theorem State.setReg_answers (s : State) (r : Reg) (i : Nat) (v : Word) : (s.setReg r i v).answers = s.answers := rfl
@[simp] theorem State.setReg_outbox (s : State) (r : Reg) (i : Nat) (v : Word) : (s.setReg r i v).outbox = s.outbox := rfl
@[simp] theorem State.setReg_reports (s : State) (r : Reg) (i : Nat) (v : Word) : (s.setReg r i v).reports = s.reports := rfl
@[simp] theorem State.setReg_logQueue (s : State) (r : Reg) (i : Nat) (v : Word) : (s.setReg r i v).logQueue = s.logQueue := rfl
@[simp] theorem State.setReg_slots (s : State) (r : Reg) (i : Nat) (v : Word) : (s.setReg r i v).slots = s.slots := rfl
@[simp] theorem State.setReg_logSeq (s : State) (r : Reg) (i : Nat) (v : Word) : (s.setReg r i v).logSeq = s.logSeq := rfl
@[simp] theorem State.setReg_links (s : State) (r : Reg) (i : Nat) (v : Word) : (s.setReg r i v).links = s.links := rfl
@[simp] theorem State.setReg_avsCore (s : State) (r : Reg) (i : Nat) (v : Word) : (s.setReg r i v).avsCore = s.avsCore := rfl
@[simp] theorem State.setReg_avsLe (s : State) (r : Reg) (i : Nat) (v : Word) : (s.setReg r i v).avsLe = s.avsLe := rfl
@[simp] theorem State.setReg_stores (s : State) (r : Reg) (i : Nat) (v : Word) : (s.setReg r i v).stores = s.stores := rfl
@[simp] theorem State.setReg_trains (s : State) (r : Reg) (i : Nat) (v : Word) : (s.setReg r i v).trains = s.trains := rfl
@[simp] theorem State.setReg_ingress (s : State) (r : Reg) (i : Nat) (v : Word) : (s.setReg r i v).ingress = s.ingress := rfl
@[simp] theorem State.setReg_staged (s : State) (r : Reg) (i : Nat) (v : Word) : (s.setReg r i v).staged = s.staged := rfl
@[simp] theorem State.setReg_egress (s : State) (r : Reg) (i : Nat) (v : Word) : (s.setReg r i v).egress = s.egress := rfl
@[simp] theorem State.setReg_sources (s : State) (r : Reg) (i : Nat) (v : Word) : (s.setReg r i v).sources = s.sources := rfl
@[simp] theorem State.setReg_banks (s : State) (r : Reg) (i : Nat) (v : Word) : (s.setReg r i v).banks = s.banks := rfl
@[simp] theorem State.setReg_swap (s : State) (r : Reg) (i : Nat) (v : Word) : (s.setReg r i v).swap = s.swap := rfl
@[simp] theorem State.setReg_lostTransfers (s : State) (r : Reg) (i : Nat) (v : Word) : (s.setReg r i v).lostTransfers = s.lostTransfers := rfl
@[simp] theorem State.setReg_lanes (s : State) (r : Reg) (i : Nat) (v : Word) : (s.setReg r i v).lanes = s.lanes := rfl
@[simp] theorem State.setReg_clients (s : State) (r : Reg) (i : Nat) (v : Word) : (s.setReg r i v).clients = s.clients := rfl
@[simp] theorem State.setReg_packets (s : State) (r : Reg) (i : Nat) (v : Word) : (s.setReg r i v).packets = s.packets := rfl
@[simp] theorem State.setReg_frames (s : State) (r : Reg) (i : Nat) (v : Word) : (s.setReg r i v).frames = s.frames := rfl
@[simp] theorem State.setReg_taps (s : State) (r : Reg) (i : Nat) (v : Word) : (s.setReg r i v).taps = s.taps := rfl
@[simp] theorem State.setReg_tapsAccepted (s : State) (r : Reg) (i : Nat) (v : Word) : (s.setReg r i v).tapsAccepted = s.tapsAccepted := rfl
@[simp] theorem State.setReg_gccs (s : State) (r : Reg) (i : Nat) (v : Word) : (s.setReg r i v).gccs = s.gccs := rfl
@[simp] theorem State.setReg_sections (s : State) (r : Reg) (i : Nat) (v : Word) : (s.setReg r i v).sections = s.sections := rfl
@[simp] theorem State.setReg_engines (s : State) (r : Reg) (i : Nat) (v : Word) : (s.setReg r i v).engines = s.engines := rfl
@[simp] theorem State.setReg_pool (s : State) (r : Reg) (i : Nat) (v : Word) : (s.setReg r i v).pool = s.pool := rfl
@[simp] theorem State.setReg_enc (s : State) (r : Reg) (i : Nat) (v : Word) : (s.setReg r i v).enc = s.enc := rfl
@[simp] theorem State.setReg_keyJobs (s : State) (r : Reg) (i : Nat) (v : Word) : (s.setReg r i v).keyJobs = s.keyJobs := rfl
@[simp] theorem State.setReg_hubs (s : State) (r : Reg) (i : Nat) (v : Word) : (s.setReg r i v).hubs = s.hubs := rfl
@[simp] theorem State.setReg_tideScs (s : State) (r : Reg) (i : Nat) (v : Word) : (s.setReg r i v).tideScs = s.tideScs := rfl
@[simp] theorem State.setReg_tideLeaves (s : State) (r : Reg) (i : Nat) (v : Word) : (s.setReg r i v).tideLeaves = s.tideLeaves := rfl
@[simp] theorem State.setReg_downstream (s : State) (r : Reg) (i : Nat) (v : Word) : (s.setReg r i v).downstream = s.downstream := rfl
@[simp] theorem State.setReg_merges (s : State) (r : Reg) (i : Nat) (v : Word) : (s.setReg r i v).merges = s.merges := rfl
@[simp] theorem State.setReg_refs (s : State) (r : Reg) (i : Nat) (v : Word) : (s.setReg r i v).refs = s.refs := rfl
@[simp] theorem State.setReg_gridPll (s : State) (r : Reg) (i : Nat) (v : Word) : (s.setReg r i v).gridPll = s.gridPll := rfl
@[simp] theorem State.setReg_outPll (s : State) (r : Reg) (i : Nat) (v : Word) : (s.setReg r i v).outPll = s.outPll := rfl
@[simp] theorem State.setReg_timeSources (s : State) (r : Reg) (i : Nat) (v : Word) : (s.setReg r i v).timeSources = s.timeSources := rfl
@[simp] theorem State.setReg_timePll (s : State) (r : Reg) (i : Nat) (v : Word) : (s.setReg r i v).timePll = s.timePll := rfl
@[simp] theorem State.setReg_captures (s : State) (r : Reg) (i : Nat) (v : Word) : (s.setReg r i v).captures = s.captures := rfl
@[simp] theorem State.setReg_measures (s : State) (r : Reg) (i : Nat) (v : Word) : (s.setReg r i v).measures = s.measures := rfl
@[simp] theorem State.setReg_journal (s : State) (r : Reg) (i : Nat) (v : Word) : (s.setReg r i v).journal = s.journal := rfl
@[simp] theorem State.setReg_mate (s : State) (r : Reg) (i : Nat) (v : Word) : (s.setReg r i v).mate = s.mate := rfl
@[simp] theorem State.setReg_snapshot (s : State) (r : Reg) (i : Nat) (v : Word) : (s.setReg r i v).snapshot = s.snapshot := rfl
@[simp] theorem State.setReg_snapshotBefore (s : State) (r : Reg) (i : Nat) (v : Word) : (s.setReg r i v).snapshotBefore = s.snapshotBefore := rfl
@[simp] theorem State.setReg_moors (s : State) (r : Reg) (i : Nat) (v : Word) : (s.setReg r i v).moors = s.moors := rfl
@[simp] theorem State.setReg_ccUser (s : State) (r : Reg) (i : Nat) (v : Word) : (s.setReg r i v).ccUser = s.ccUser := rfl
@[simp] theorem State.setReg_domain (s : State) (r : Reg) (i : Nat) (v : Word) : (s.setReg r i v).domain = s.domain := rfl
@[simp] theorem State.setReg_mem (s : State) (r : Reg) (i : Nat) (v : Word) : (s.setReg r i v).mem = s.mem := rfl
@[simp] theorem State.setReg_badWords (s : State) (r : Reg) (i : Nat) (v : Word) : (s.setReg r i v).badWords = s.badWords := rfl
@[simp] theorem State.setReg_anc (s : State) (r : Reg) (i : Nat) (v : Word) : (s.setReg r i v).anc = s.anc := rfl
@[simp] theorem State.setReg_written (s : State) (r : Reg) (i : Nat) (v : Word) : (s.setReg r i v).written = s.written := rfl
@[simp] theorem State.setReg_ancBad (s : State) (r : Reg) (i : Nat) (v : Word) : (s.setReg r i v).ancBad = s.ancBad := rfl
@[simp] theorem State.setReg_march (s : State) (r : Reg) (i : Nat) (v : Word) : (s.setReg r i v).march = s.march := rfl
@[simp] theorem State.setReg_eccHigh (s : State) (r : Reg) (i : Nat) (v : Word) : (s.setReg r i v).eccHigh = s.eccHigh := rfl
@[simp] theorem State.setReg_repairColumn (s : State) (r : Reg) (i : Nat) (v : Word) : (s.setReg r i v).repairColumn = s.repairColumn := rfl
@[simp] theorem State.setReg_repaired (s : State) (r : Reg) (i : Nat) (v : Word) : (s.setReg r i v).repaired = s.repaired := rfl
@[simp] theorem State.setReg_cores (s : State) (r : Reg) (i : Nat) (v : Word) : (s.setReg r i v).cores = s.cores := rfl
@[simp] theorem State.setReg_pcie (s : State) (r : Reg) (i : Nat) (v : Word) : (s.setReg r i v).pcie = s.pcie := rfl
@[simp] theorem State.setReg_lbPage (s : State) (r : Reg) (i : Nat) (v : Word) : (s.setReg r i v).lbPage = s.lbPage := rfl
@[simp] theorem State.setReg_uart (s : State) (r : Reg) (i : Nat) (v : Word) : (s.setReg r i v).uart = s.uart := rfl
@[simp] theorem State.setReg_mailbox (s : State) (r : Reg) (i : Nat) (v : Word) : (s.setReg r i v).mailbox = s.mailbox := rfl
@[simp] theorem State.setReg_scanning (s : State) (r : Reg) (i : Nat) (v : Word) : (s.setReg r i v).scanning = s.scanning := rfl
@[simp] theorem State.setReg_image (s : State) (r : Reg) (i : Nat) (v : Word) : (s.setReg r i v).image = s.image := rfl
@[simp] theorem State.setReg_committed (s : State) (r : Reg) (i : Nat) (v : Word) : (s.setReg r i v).committed = s.committed := rfl
@[simp] theorem State.setReg_applied (s : State) (r : Reg) (i : Nat) (v : Word) : (s.setReg r i v).applied = s.applied := rfl
@[simp] theorem State.setReg_previous (s : State) (r : Reg) (i : Nat) (v : Word) : (s.setReg r i v).previous = s.previous := rfl
@[simp] theorem State.setReg_fuses (s : State) (r : Reg) (i : Nat) (v : Word) : (s.setReg r i v).fuses = s.fuses := rfl
@[simp] theorem State.setReg_fuseCells (s : State) (r : Reg) (i : Nat) (v : Word) : (s.setReg r i v).fuseCells = s.fuseCells := rfl
@[simp] theorem State.setReg_fuseTarget (s : State) (r : Reg) (i : Nat) (v : Word) : (s.setReg r i v).fuseTarget = s.fuseTarget := rfl
@[simp] theorem State.setReg_boot (s : State) (r : Reg) (i : Nat) (v : Word) : (s.setReg r i v).boot = s.boot := rfl
@[simp] theorem State.setReg_imageJob (s : State) (r : Reg) (i : Nat) (v : Word) : (s.setReg r i v).imageJob = s.imageJob := rfl
@[simp] theorem State.setReg_blockResets (s : State) (r : Reg) (i : Nat) (v : Word) : (s.setReg r i v).blockResets = s.blockResets := rfl
@[simp] theorem State.setReg_tallies (s : State) (r : Reg) (i : Nat) (v : Word) : (s.setReg r i v).tallies = s.tallies := rfl
@[simp] theorem State.setReg_msixWaiting (s : State) (r : Reg) (i : Nat) (v : Word) : (s.setReg r i v).msixWaiting = s.msixWaiting := rfl
@[simp] theorem State.setReg_linkUp (s : State) (r : Reg) (i : Nat) (v : Word) : (s.setReg r i v).linkUp = s.linkUp := rfl
@[simp] theorem State.setReg_busMaster (s : State) (r : Reg) (i : Nat) (v : Word) : (s.setReg r i v).busMaster = s.busMaster := rfl
@[simp] theorem State.setReg_dumpJobs (s : State) (r : Reg) (i : Nat) (v : Word) : (s.setReg r i v).dumpJobs = s.dumpJobs := rfl
@[simp] theorem State.setReg_dumpSeqs (s : State) (r : Reg) (i : Nat) (v : Word) : (s.setReg r i v).dumpSeqs = s.dumpSeqs := rfl
@[simp] theorem State.setReg_dumpAt (s : State) (r : Reg) (i : Nat) (v : Word) : (s.setReg r i v).dumpAt = s.dumpAt := rfl
@[simp] theorem State.setReg_clientSections (s : State) (r : Reg) (i : Nat) (v : Word) : (s.setReg r i v).clientSections = s.clientSections := rfl
@[simp] theorem State.setReg_pathSections (s : State) (r : Reg) (i : Nat) (v : Word) : (s.setReg r i v).pathSections = s.pathSections := rfl
@[simp] theorem State.setReg_bins (s : State) (r : Reg) (i : Nat) (v : Word) : (s.setReg r i v).bins = s.bins := rfl
@[simp] theorem State.setReg_secondAt (s : State) (r : Reg) (i : Nat) (v : Word) : (s.setReg r i v).secondAt = s.secondAt := rfl
@[simp] theorem State.setReg_thermal (s : State) (r : Reg) (i : Nat) (v : Word) : (s.setReg r i v).thermal = s.thermal := rfl

@[simp] theorem State.keepRegs_pending (s : State) (p : Key × Word → Bool) : (s.keepRegs p).pending = s.pending := rfl
@[simp] theorem State.keepRegs_act (s : State) (p : Key × Word → Bool) : (s.keepRegs p).act = s.act := rfl
@[simp] theorem State.keepRegs_ctrs (s : State) (p : Key × Word → Bool) : (s.keepRegs p).ctrs = s.ctrs := rfl
@[simp] theorem State.keepRegs_tick (s : State) (p : Key × Word → Bool) : (s.keepRegs p).tick = s.tick := rfl
@[simp] theorem State.keepRegs_now (s : State) (p : Key × Word → Bool) : (s.keepRegs p).now = s.now := rfl
@[simp] theorem State.keepRegs_free (s : State) (p : Key × Word → Bool) : (s.keepRegs p).free = s.free := rfl
@[simp] theorem State.keepRegs_atBoundary (s : State) (p : Key × Word → Bool) : (s.keepRegs p).atBoundary = s.atBoundary := rfl
@[simp] theorem State.keepRegs_answers (s : State) (p : Key × Word → Bool) : (s.keepRegs p).answers = s.answers := rfl
@[simp] theorem State.keepRegs_outbox (s : State) (p : Key × Word → Bool) : (s.keepRegs p).outbox = s.outbox := rfl
@[simp] theorem State.keepRegs_reports (s : State) (p : Key × Word → Bool) : (s.keepRegs p).reports = s.reports := rfl
@[simp] theorem State.keepRegs_logQueue (s : State) (p : Key × Word → Bool) : (s.keepRegs p).logQueue = s.logQueue := rfl
@[simp] theorem State.keepRegs_slots (s : State) (p : Key × Word → Bool) : (s.keepRegs p).slots = s.slots := rfl
@[simp] theorem State.keepRegs_logSeq (s : State) (p : Key × Word → Bool) : (s.keepRegs p).logSeq = s.logSeq := rfl
@[simp] theorem State.keepRegs_links (s : State) (p : Key × Word → Bool) : (s.keepRegs p).links = s.links := rfl
@[simp] theorem State.keepRegs_avsCore (s : State) (p : Key × Word → Bool) : (s.keepRegs p).avsCore = s.avsCore := rfl
@[simp] theorem State.keepRegs_avsLe (s : State) (p : Key × Word → Bool) : (s.keepRegs p).avsLe = s.avsLe := rfl
@[simp] theorem State.keepRegs_stores (s : State) (p : Key × Word → Bool) : (s.keepRegs p).stores = s.stores := rfl
@[simp] theorem State.keepRegs_trains (s : State) (p : Key × Word → Bool) : (s.keepRegs p).trains = s.trains := rfl
@[simp] theorem State.keepRegs_ingress (s : State) (p : Key × Word → Bool) : (s.keepRegs p).ingress = s.ingress := rfl
@[simp] theorem State.keepRegs_staged (s : State) (p : Key × Word → Bool) : (s.keepRegs p).staged = s.staged := rfl
@[simp] theorem State.keepRegs_egress (s : State) (p : Key × Word → Bool) : (s.keepRegs p).egress = s.egress := rfl
@[simp] theorem State.keepRegs_sources (s : State) (p : Key × Word → Bool) : (s.keepRegs p).sources = s.sources := rfl
@[simp] theorem State.keepRegs_banks (s : State) (p : Key × Word → Bool) : (s.keepRegs p).banks = s.banks := rfl
@[simp] theorem State.keepRegs_swap (s : State) (p : Key × Word → Bool) : (s.keepRegs p).swap = s.swap := rfl
@[simp] theorem State.keepRegs_lostTransfers (s : State) (p : Key × Word → Bool) : (s.keepRegs p).lostTransfers = s.lostTransfers := rfl
@[simp] theorem State.keepRegs_lanes (s : State) (p : Key × Word → Bool) : (s.keepRegs p).lanes = s.lanes := rfl
@[simp] theorem State.keepRegs_clients (s : State) (p : Key × Word → Bool) : (s.keepRegs p).clients = s.clients := rfl
@[simp] theorem State.keepRegs_packets (s : State) (p : Key × Word → Bool) : (s.keepRegs p).packets = s.packets := rfl
@[simp] theorem State.keepRegs_frames (s : State) (p : Key × Word → Bool) : (s.keepRegs p).frames = s.frames := rfl
@[simp] theorem State.keepRegs_taps (s : State) (p : Key × Word → Bool) : (s.keepRegs p).taps = s.taps := rfl
@[simp] theorem State.keepRegs_tapsAccepted (s : State) (p : Key × Word → Bool) : (s.keepRegs p).tapsAccepted = s.tapsAccepted := rfl
@[simp] theorem State.keepRegs_gccs (s : State) (p : Key × Word → Bool) : (s.keepRegs p).gccs = s.gccs := rfl
@[simp] theorem State.keepRegs_sections (s : State) (p : Key × Word → Bool) : (s.keepRegs p).sections = s.sections := rfl
@[simp] theorem State.keepRegs_engines (s : State) (p : Key × Word → Bool) : (s.keepRegs p).engines = s.engines := rfl
@[simp] theorem State.keepRegs_pool (s : State) (p : Key × Word → Bool) : (s.keepRegs p).pool = s.pool := rfl
@[simp] theorem State.keepRegs_enc (s : State) (p : Key × Word → Bool) : (s.keepRegs p).enc = s.enc := rfl
@[simp] theorem State.keepRegs_keyJobs (s : State) (p : Key × Word → Bool) : (s.keepRegs p).keyJobs = s.keyJobs := rfl
@[simp] theorem State.keepRegs_hubs (s : State) (p : Key × Word → Bool) : (s.keepRegs p).hubs = s.hubs := rfl
@[simp] theorem State.keepRegs_tideScs (s : State) (p : Key × Word → Bool) : (s.keepRegs p).tideScs = s.tideScs := rfl
@[simp] theorem State.keepRegs_tideLeaves (s : State) (p : Key × Word → Bool) : (s.keepRegs p).tideLeaves = s.tideLeaves := rfl
@[simp] theorem State.keepRegs_downstream (s : State) (p : Key × Word → Bool) : (s.keepRegs p).downstream = s.downstream := rfl
@[simp] theorem State.keepRegs_merges (s : State) (p : Key × Word → Bool) : (s.keepRegs p).merges = s.merges := rfl
@[simp] theorem State.keepRegs_refs (s : State) (p : Key × Word → Bool) : (s.keepRegs p).refs = s.refs := rfl
@[simp] theorem State.keepRegs_gridPll (s : State) (p : Key × Word → Bool) : (s.keepRegs p).gridPll = s.gridPll := rfl
@[simp] theorem State.keepRegs_outPll (s : State) (p : Key × Word → Bool) : (s.keepRegs p).outPll = s.outPll := rfl
@[simp] theorem State.keepRegs_timeSources (s : State) (p : Key × Word → Bool) : (s.keepRegs p).timeSources = s.timeSources := rfl
@[simp] theorem State.keepRegs_timePll (s : State) (p : Key × Word → Bool) : (s.keepRegs p).timePll = s.timePll := rfl
@[simp] theorem State.keepRegs_captures (s : State) (p : Key × Word → Bool) : (s.keepRegs p).captures = s.captures := rfl
@[simp] theorem State.keepRegs_measures (s : State) (p : Key × Word → Bool) : (s.keepRegs p).measures = s.measures := rfl
@[simp] theorem State.keepRegs_journal (s : State) (p : Key × Word → Bool) : (s.keepRegs p).journal = s.journal := rfl
@[simp] theorem State.keepRegs_mate (s : State) (p : Key × Word → Bool) : (s.keepRegs p).mate = s.mate := rfl
@[simp] theorem State.keepRegs_snapshot (s : State) (p : Key × Word → Bool) : (s.keepRegs p).snapshot = s.snapshot := rfl
@[simp] theorem State.keepRegs_snapshotBefore (s : State) (p : Key × Word → Bool) : (s.keepRegs p).snapshotBefore = s.snapshotBefore := rfl
@[simp] theorem State.keepRegs_moors (s : State) (p : Key × Word → Bool) : (s.keepRegs p).moors = s.moors := rfl
@[simp] theorem State.keepRegs_ccUser (s : State) (p : Key × Word → Bool) : (s.keepRegs p).ccUser = s.ccUser := rfl
@[simp] theorem State.keepRegs_domain (s : State) (p : Key × Word → Bool) : (s.keepRegs p).domain = s.domain := rfl
@[simp] theorem State.keepRegs_mem (s : State) (p : Key × Word → Bool) : (s.keepRegs p).mem = s.mem := rfl
@[simp] theorem State.keepRegs_badWords (s : State) (p : Key × Word → Bool) : (s.keepRegs p).badWords = s.badWords := rfl
@[simp] theorem State.keepRegs_anc (s : State) (p : Key × Word → Bool) : (s.keepRegs p).anc = s.anc := rfl
@[simp] theorem State.keepRegs_written (s : State) (p : Key × Word → Bool) : (s.keepRegs p).written = s.written := rfl
@[simp] theorem State.keepRegs_ancBad (s : State) (p : Key × Word → Bool) : (s.keepRegs p).ancBad = s.ancBad := rfl
@[simp] theorem State.keepRegs_march (s : State) (p : Key × Word → Bool) : (s.keepRegs p).march = s.march := rfl
@[simp] theorem State.keepRegs_eccHigh (s : State) (p : Key × Word → Bool) : (s.keepRegs p).eccHigh = s.eccHigh := rfl
@[simp] theorem State.keepRegs_repairColumn (s : State) (p : Key × Word → Bool) : (s.keepRegs p).repairColumn = s.repairColumn := rfl
@[simp] theorem State.keepRegs_repaired (s : State) (p : Key × Word → Bool) : (s.keepRegs p).repaired = s.repaired := rfl
@[simp] theorem State.keepRegs_cores (s : State) (p : Key × Word → Bool) : (s.keepRegs p).cores = s.cores := rfl
@[simp] theorem State.keepRegs_pcie (s : State) (p : Key × Word → Bool) : (s.keepRegs p).pcie = s.pcie := rfl
@[simp] theorem State.keepRegs_lbPage (s : State) (p : Key × Word → Bool) : (s.keepRegs p).lbPage = s.lbPage := rfl
@[simp] theorem State.keepRegs_uart (s : State) (p : Key × Word → Bool) : (s.keepRegs p).uart = s.uart := rfl
@[simp] theorem State.keepRegs_mailbox (s : State) (p : Key × Word → Bool) : (s.keepRegs p).mailbox = s.mailbox := rfl
@[simp] theorem State.keepRegs_scanning (s : State) (p : Key × Word → Bool) : (s.keepRegs p).scanning = s.scanning := rfl
@[simp] theorem State.keepRegs_image (s : State) (p : Key × Word → Bool) : (s.keepRegs p).image = s.image := rfl
@[simp] theorem State.keepRegs_committed (s : State) (p : Key × Word → Bool) : (s.keepRegs p).committed = s.committed := rfl
@[simp] theorem State.keepRegs_applied (s : State) (p : Key × Word → Bool) : (s.keepRegs p).applied = s.applied := rfl
@[simp] theorem State.keepRegs_previous (s : State) (p : Key × Word → Bool) : (s.keepRegs p).previous = s.previous := rfl
@[simp] theorem State.keepRegs_fuses (s : State) (p : Key × Word → Bool) : (s.keepRegs p).fuses = s.fuses := rfl
@[simp] theorem State.keepRegs_fuseCells (s : State) (p : Key × Word → Bool) : (s.keepRegs p).fuseCells = s.fuseCells := rfl
@[simp] theorem State.keepRegs_fuseTarget (s : State) (p : Key × Word → Bool) : (s.keepRegs p).fuseTarget = s.fuseTarget := rfl
@[simp] theorem State.keepRegs_boot (s : State) (p : Key × Word → Bool) : (s.keepRegs p).boot = s.boot := rfl
@[simp] theorem State.keepRegs_imageJob (s : State) (p : Key × Word → Bool) : (s.keepRegs p).imageJob = s.imageJob := rfl
@[simp] theorem State.keepRegs_blockResets (s : State) (p : Key × Word → Bool) : (s.keepRegs p).blockResets = s.blockResets := rfl
@[simp] theorem State.keepRegs_tallies (s : State) (p : Key × Word → Bool) : (s.keepRegs p).tallies = s.tallies := rfl
@[simp] theorem State.keepRegs_msixWaiting (s : State) (p : Key × Word → Bool) : (s.keepRegs p).msixWaiting = s.msixWaiting := rfl
@[simp] theorem State.keepRegs_linkUp (s : State) (p : Key × Word → Bool) : (s.keepRegs p).linkUp = s.linkUp := rfl
@[simp] theorem State.keepRegs_busMaster (s : State) (p : Key × Word → Bool) : (s.keepRegs p).busMaster = s.busMaster := rfl
@[simp] theorem State.keepRegs_dumpJobs (s : State) (p : Key × Word → Bool) : (s.keepRegs p).dumpJobs = s.dumpJobs := rfl
@[simp] theorem State.keepRegs_dumpSeqs (s : State) (p : Key × Word → Bool) : (s.keepRegs p).dumpSeqs = s.dumpSeqs := rfl
@[simp] theorem State.keepRegs_dumpAt (s : State) (p : Key × Word → Bool) : (s.keepRegs p).dumpAt = s.dumpAt := rfl
@[simp] theorem State.keepRegs_clientSections (s : State) (p : Key × Word → Bool) : (s.keepRegs p).clientSections = s.clientSections := rfl
@[simp] theorem State.keepRegs_pathSections (s : State) (p : Key × Word → Bool) : (s.keepRegs p).pathSections = s.pathSections := rfl
@[simp] theorem State.keepRegs_bins (s : State) (p : Key × Word → Bool) : (s.keepRegs p).bins = s.bins := rfl
@[simp] theorem State.keepRegs_secondAt (s : State) (p : Key × Word → Bool) : (s.keepRegs p).secondAt = s.secondAt := rfl
@[simp] theorem State.keepRegs_thermal (s : State) (p : Key × Word → Bool) : (s.keepRegs p).thermal = s.thermal := rfl

@[simp] theorem State.wr_pending (s : State) (f : Field) (i v : Nat) : (s.wr f i v).pending = s.pending := rfl
@[simp] theorem State.wr_act (s : State) (f : Field) (i v : Nat) : (s.wr f i v).act = s.act := rfl
@[simp] theorem State.wr_ctrs (s : State) (f : Field) (i v : Nat) : (s.wr f i v).ctrs = s.ctrs := rfl
@[simp] theorem State.wr_tick (s : State) (f : Field) (i v : Nat) : (s.wr f i v).tick = s.tick := rfl
@[simp] theorem State.wr_now (s : State) (f : Field) (i v : Nat) : (s.wr f i v).now = s.now := rfl
@[simp] theorem State.wr_free (s : State) (f : Field) (i v : Nat) : (s.wr f i v).free = s.free := rfl
@[simp] theorem State.wr_atBoundary (s : State) (f : Field) (i v : Nat) : (s.wr f i v).atBoundary = s.atBoundary := rfl
@[simp] theorem State.wr_answers (s : State) (f : Field) (i v : Nat) : (s.wr f i v).answers = s.answers := rfl
@[simp] theorem State.wr_outbox (s : State) (f : Field) (i v : Nat) : (s.wr f i v).outbox = s.outbox := rfl
@[simp] theorem State.wr_reports (s : State) (f : Field) (i v : Nat) : (s.wr f i v).reports = s.reports := rfl
@[simp] theorem State.wr_logQueue (s : State) (f : Field) (i v : Nat) : (s.wr f i v).logQueue = s.logQueue := rfl
@[simp] theorem State.wr_slots (s : State) (f : Field) (i v : Nat) : (s.wr f i v).slots = s.slots := rfl
@[simp] theorem State.wr_logSeq (s : State) (f : Field) (i v : Nat) : (s.wr f i v).logSeq = s.logSeq := rfl
@[simp] theorem State.wr_links (s : State) (f : Field) (i v : Nat) : (s.wr f i v).links = s.links := rfl
@[simp] theorem State.wr_avsCore (s : State) (f : Field) (i v : Nat) : (s.wr f i v).avsCore = s.avsCore := rfl
@[simp] theorem State.wr_avsLe (s : State) (f : Field) (i v : Nat) : (s.wr f i v).avsLe = s.avsLe := rfl
@[simp] theorem State.wr_stores (s : State) (f : Field) (i v : Nat) : (s.wr f i v).stores = s.stores := rfl
@[simp] theorem State.wr_trains (s : State) (f : Field) (i v : Nat) : (s.wr f i v).trains = s.trains := rfl
@[simp] theorem State.wr_ingress (s : State) (f : Field) (i v : Nat) : (s.wr f i v).ingress = s.ingress := rfl
@[simp] theorem State.wr_staged (s : State) (f : Field) (i v : Nat) : (s.wr f i v).staged = s.staged := rfl
@[simp] theorem State.wr_egress (s : State) (f : Field) (i v : Nat) : (s.wr f i v).egress = s.egress := rfl
@[simp] theorem State.wr_sources (s : State) (f : Field) (i v : Nat) : (s.wr f i v).sources = s.sources := rfl
@[simp] theorem State.wr_banks (s : State) (f : Field) (i v : Nat) : (s.wr f i v).banks = s.banks := rfl
@[simp] theorem State.wr_swap (s : State) (f : Field) (i v : Nat) : (s.wr f i v).swap = s.swap := rfl
@[simp] theorem State.wr_lostTransfers (s : State) (f : Field) (i v : Nat) : (s.wr f i v).lostTransfers = s.lostTransfers := rfl
@[simp] theorem State.wr_lanes (s : State) (f : Field) (i v : Nat) : (s.wr f i v).lanes = s.lanes := rfl
@[simp] theorem State.wr_clients (s : State) (f : Field) (i v : Nat) : (s.wr f i v).clients = s.clients := rfl
@[simp] theorem State.wr_packets (s : State) (f : Field) (i v : Nat) : (s.wr f i v).packets = s.packets := rfl
@[simp] theorem State.wr_frames (s : State) (f : Field) (i v : Nat) : (s.wr f i v).frames = s.frames := rfl
@[simp] theorem State.wr_taps (s : State) (f : Field) (i v : Nat) : (s.wr f i v).taps = s.taps := rfl
@[simp] theorem State.wr_tapsAccepted (s : State) (f : Field) (i v : Nat) : (s.wr f i v).tapsAccepted = s.tapsAccepted := rfl
@[simp] theorem State.wr_gccs (s : State) (f : Field) (i v : Nat) : (s.wr f i v).gccs = s.gccs := rfl
@[simp] theorem State.wr_sections (s : State) (f : Field) (i v : Nat) : (s.wr f i v).sections = s.sections := rfl
@[simp] theorem State.wr_engines (s : State) (f : Field) (i v : Nat) : (s.wr f i v).engines = s.engines := rfl
@[simp] theorem State.wr_pool (s : State) (f : Field) (i v : Nat) : (s.wr f i v).pool = s.pool := rfl
@[simp] theorem State.wr_enc (s : State) (f : Field) (i v : Nat) : (s.wr f i v).enc = s.enc := rfl
@[simp] theorem State.wr_keyJobs (s : State) (f : Field) (i v : Nat) : (s.wr f i v).keyJobs = s.keyJobs := rfl
@[simp] theorem State.wr_hubs (s : State) (f : Field) (i v : Nat) : (s.wr f i v).hubs = s.hubs := rfl
@[simp] theorem State.wr_tideScs (s : State) (f : Field) (i v : Nat) : (s.wr f i v).tideScs = s.tideScs := rfl
@[simp] theorem State.wr_tideLeaves (s : State) (f : Field) (i v : Nat) : (s.wr f i v).tideLeaves = s.tideLeaves := rfl
@[simp] theorem State.wr_downstream (s : State) (f : Field) (i v : Nat) : (s.wr f i v).downstream = s.downstream := rfl
@[simp] theorem State.wr_merges (s : State) (f : Field) (i v : Nat) : (s.wr f i v).merges = s.merges := rfl
@[simp] theorem State.wr_refs (s : State) (f : Field) (i v : Nat) : (s.wr f i v).refs = s.refs := rfl
@[simp] theorem State.wr_gridPll (s : State) (f : Field) (i v : Nat) : (s.wr f i v).gridPll = s.gridPll := rfl
@[simp] theorem State.wr_outPll (s : State) (f : Field) (i v : Nat) : (s.wr f i v).outPll = s.outPll := rfl
@[simp] theorem State.wr_timeSources (s : State) (f : Field) (i v : Nat) : (s.wr f i v).timeSources = s.timeSources := rfl
@[simp] theorem State.wr_timePll (s : State) (f : Field) (i v : Nat) : (s.wr f i v).timePll = s.timePll := rfl
@[simp] theorem State.wr_captures (s : State) (f : Field) (i v : Nat) : (s.wr f i v).captures = s.captures := rfl
@[simp] theorem State.wr_measures (s : State) (f : Field) (i v : Nat) : (s.wr f i v).measures = s.measures := rfl
@[simp] theorem State.wr_journal (s : State) (f : Field) (i v : Nat) : (s.wr f i v).journal = s.journal := rfl
@[simp] theorem State.wr_mate (s : State) (f : Field) (i v : Nat) : (s.wr f i v).mate = s.mate := rfl
@[simp] theorem State.wr_snapshot (s : State) (f : Field) (i v : Nat) : (s.wr f i v).snapshot = s.snapshot := rfl
@[simp] theorem State.wr_snapshotBefore (s : State) (f : Field) (i v : Nat) : (s.wr f i v).snapshotBefore = s.snapshotBefore := rfl
@[simp] theorem State.wr_moors (s : State) (f : Field) (i v : Nat) : (s.wr f i v).moors = s.moors := rfl
@[simp] theorem State.wr_ccUser (s : State) (f : Field) (i v : Nat) : (s.wr f i v).ccUser = s.ccUser := rfl
@[simp] theorem State.wr_domain (s : State) (f : Field) (i v : Nat) : (s.wr f i v).domain = s.domain := rfl
@[simp] theorem State.wr_mem (s : State) (f : Field) (i v : Nat) : (s.wr f i v).mem = s.mem := rfl
@[simp] theorem State.wr_badWords (s : State) (f : Field) (i v : Nat) : (s.wr f i v).badWords = s.badWords := rfl
@[simp] theorem State.wr_anc (s : State) (f : Field) (i v : Nat) : (s.wr f i v).anc = s.anc := rfl
@[simp] theorem State.wr_written (s : State) (f : Field) (i v : Nat) : (s.wr f i v).written = s.written := rfl
@[simp] theorem State.wr_ancBad (s : State) (f : Field) (i v : Nat) : (s.wr f i v).ancBad = s.ancBad := rfl
@[simp] theorem State.wr_march (s : State) (f : Field) (i v : Nat) : (s.wr f i v).march = s.march := rfl
@[simp] theorem State.wr_eccHigh (s : State) (f : Field) (i v : Nat) : (s.wr f i v).eccHigh = s.eccHigh := rfl
@[simp] theorem State.wr_repairColumn (s : State) (f : Field) (i v : Nat) : (s.wr f i v).repairColumn = s.repairColumn := rfl
@[simp] theorem State.wr_repaired (s : State) (f : Field) (i v : Nat) : (s.wr f i v).repaired = s.repaired := rfl
@[simp] theorem State.wr_cores (s : State) (f : Field) (i v : Nat) : (s.wr f i v).cores = s.cores := rfl
@[simp] theorem State.wr_pcie (s : State) (f : Field) (i v : Nat) : (s.wr f i v).pcie = s.pcie := rfl
@[simp] theorem State.wr_lbPage (s : State) (f : Field) (i v : Nat) : (s.wr f i v).lbPage = s.lbPage := rfl
@[simp] theorem State.wr_uart (s : State) (f : Field) (i v : Nat) : (s.wr f i v).uart = s.uart := rfl
@[simp] theorem State.wr_mailbox (s : State) (f : Field) (i v : Nat) : (s.wr f i v).mailbox = s.mailbox := rfl
@[simp] theorem State.wr_scanning (s : State) (f : Field) (i v : Nat) : (s.wr f i v).scanning = s.scanning := rfl
@[simp] theorem State.wr_image (s : State) (f : Field) (i v : Nat) : (s.wr f i v).image = s.image := rfl
@[simp] theorem State.wr_committed (s : State) (f : Field) (i v : Nat) : (s.wr f i v).committed = s.committed := rfl
@[simp] theorem State.wr_applied (s : State) (f : Field) (i v : Nat) : (s.wr f i v).applied = s.applied := rfl
@[simp] theorem State.wr_previous (s : State) (f : Field) (i v : Nat) : (s.wr f i v).previous = s.previous := rfl
@[simp] theorem State.wr_fuses (s : State) (f : Field) (i v : Nat) : (s.wr f i v).fuses = s.fuses := rfl
@[simp] theorem State.wr_fuseCells (s : State) (f : Field) (i v : Nat) : (s.wr f i v).fuseCells = s.fuseCells := rfl
@[simp] theorem State.wr_fuseTarget (s : State) (f : Field) (i v : Nat) : (s.wr f i v).fuseTarget = s.fuseTarget := rfl
@[simp] theorem State.wr_boot (s : State) (f : Field) (i v : Nat) : (s.wr f i v).boot = s.boot := rfl
@[simp] theorem State.wr_imageJob (s : State) (f : Field) (i v : Nat) : (s.wr f i v).imageJob = s.imageJob := rfl
@[simp] theorem State.wr_blockResets (s : State) (f : Field) (i v : Nat) : (s.wr f i v).blockResets = s.blockResets := rfl
@[simp] theorem State.wr_tallies (s : State) (f : Field) (i v : Nat) : (s.wr f i v).tallies = s.tallies := rfl
@[simp] theorem State.wr_msixWaiting (s : State) (f : Field) (i v : Nat) : (s.wr f i v).msixWaiting = s.msixWaiting := rfl
@[simp] theorem State.wr_linkUp (s : State) (f : Field) (i v : Nat) : (s.wr f i v).linkUp = s.linkUp := rfl
@[simp] theorem State.wr_busMaster (s : State) (f : Field) (i v : Nat) : (s.wr f i v).busMaster = s.busMaster := rfl
@[simp] theorem State.wr_dumpJobs (s : State) (f : Field) (i v : Nat) : (s.wr f i v).dumpJobs = s.dumpJobs := rfl
@[simp] theorem State.wr_dumpSeqs (s : State) (f : Field) (i v : Nat) : (s.wr f i v).dumpSeqs = s.dumpSeqs := rfl
@[simp] theorem State.wr_dumpAt (s : State) (f : Field) (i v : Nat) : (s.wr f i v).dumpAt = s.dumpAt := rfl
@[simp] theorem State.wr_clientSections (s : State) (f : Field) (i v : Nat) : (s.wr f i v).clientSections = s.clientSections := rfl
@[simp] theorem State.wr_pathSections (s : State) (f : Field) (i v : Nat) : (s.wr f i v).pathSections = s.pathSections := rfl
@[simp] theorem State.wr_bins (s : State) (f : Field) (i v : Nat) : (s.wr f i v).bins = s.bins := rfl
@[simp] theorem State.wr_secondAt (s : State) (f : Field) (i v : Nat) : (s.wr f i v).secondAt = s.secondAt := rfl
@[simp] theorem State.wr_thermal (s : State) (f : Field) (i v : Nat) : (s.wr f i v).thermal = s.thermal := rfl

@[simp] theorem State.wrBool_pending (s : State) (f : Field) (i : Nat) (b : Bool) : (s.wrBool f i b).pending = s.pending := rfl
@[simp] theorem State.wrBool_act (s : State) (f : Field) (i : Nat) (b : Bool) : (s.wrBool f i b).act = s.act := rfl
@[simp] theorem State.wrBool_ctrs (s : State) (f : Field) (i : Nat) (b : Bool) : (s.wrBool f i b).ctrs = s.ctrs := rfl
@[simp] theorem State.wrBool_tick (s : State) (f : Field) (i : Nat) (b : Bool) : (s.wrBool f i b).tick = s.tick := rfl
@[simp] theorem State.wrBool_now (s : State) (f : Field) (i : Nat) (b : Bool) : (s.wrBool f i b).now = s.now := rfl
@[simp] theorem State.wrBool_free (s : State) (f : Field) (i : Nat) (b : Bool) : (s.wrBool f i b).free = s.free := rfl
@[simp] theorem State.wrBool_atBoundary (s : State) (f : Field) (i : Nat) (b : Bool) : (s.wrBool f i b).atBoundary = s.atBoundary := rfl
@[simp] theorem State.wrBool_answers (s : State) (f : Field) (i : Nat) (b : Bool) : (s.wrBool f i b).answers = s.answers := rfl
@[simp] theorem State.wrBool_outbox (s : State) (f : Field) (i : Nat) (b : Bool) : (s.wrBool f i b).outbox = s.outbox := rfl
@[simp] theorem State.wrBool_reports (s : State) (f : Field) (i : Nat) (b : Bool) : (s.wrBool f i b).reports = s.reports := rfl
@[simp] theorem State.wrBool_logQueue (s : State) (f : Field) (i : Nat) (b : Bool) : (s.wrBool f i b).logQueue = s.logQueue := rfl
@[simp] theorem State.wrBool_slots (s : State) (f : Field) (i : Nat) (b : Bool) : (s.wrBool f i b).slots = s.slots := rfl
@[simp] theorem State.wrBool_logSeq (s : State) (f : Field) (i : Nat) (b : Bool) : (s.wrBool f i b).logSeq = s.logSeq := rfl
@[simp] theorem State.wrBool_links (s : State) (f : Field) (i : Nat) (b : Bool) : (s.wrBool f i b).links = s.links := rfl
@[simp] theorem State.wrBool_avsCore (s : State) (f : Field) (i : Nat) (b : Bool) : (s.wrBool f i b).avsCore = s.avsCore := rfl
@[simp] theorem State.wrBool_avsLe (s : State) (f : Field) (i : Nat) (b : Bool) : (s.wrBool f i b).avsLe = s.avsLe := rfl
@[simp] theorem State.wrBool_stores (s : State) (f : Field) (i : Nat) (b : Bool) : (s.wrBool f i b).stores = s.stores := rfl
@[simp] theorem State.wrBool_trains (s : State) (f : Field) (i : Nat) (b : Bool) : (s.wrBool f i b).trains = s.trains := rfl
@[simp] theorem State.wrBool_ingress (s : State) (f : Field) (i : Nat) (b : Bool) : (s.wrBool f i b).ingress = s.ingress := rfl
@[simp] theorem State.wrBool_staged (s : State) (f : Field) (i : Nat) (b : Bool) : (s.wrBool f i b).staged = s.staged := rfl
@[simp] theorem State.wrBool_egress (s : State) (f : Field) (i : Nat) (b : Bool) : (s.wrBool f i b).egress = s.egress := rfl
@[simp] theorem State.wrBool_sources (s : State) (f : Field) (i : Nat) (b : Bool) : (s.wrBool f i b).sources = s.sources := rfl
@[simp] theorem State.wrBool_banks (s : State) (f : Field) (i : Nat) (b : Bool) : (s.wrBool f i b).banks = s.banks := rfl
@[simp] theorem State.wrBool_swap (s : State) (f : Field) (i : Nat) (b : Bool) : (s.wrBool f i b).swap = s.swap := rfl
@[simp] theorem State.wrBool_lostTransfers (s : State) (f : Field) (i : Nat) (b : Bool) : (s.wrBool f i b).lostTransfers = s.lostTransfers := rfl
@[simp] theorem State.wrBool_lanes (s : State) (f : Field) (i : Nat) (b : Bool) : (s.wrBool f i b).lanes = s.lanes := rfl
@[simp] theorem State.wrBool_clients (s : State) (f : Field) (i : Nat) (b : Bool) : (s.wrBool f i b).clients = s.clients := rfl
@[simp] theorem State.wrBool_packets (s : State) (f : Field) (i : Nat) (b : Bool) : (s.wrBool f i b).packets = s.packets := rfl
@[simp] theorem State.wrBool_frames (s : State) (f : Field) (i : Nat) (b : Bool) : (s.wrBool f i b).frames = s.frames := rfl
@[simp] theorem State.wrBool_taps (s : State) (f : Field) (i : Nat) (b : Bool) : (s.wrBool f i b).taps = s.taps := rfl
@[simp] theorem State.wrBool_tapsAccepted (s : State) (f : Field) (i : Nat) (b : Bool) : (s.wrBool f i b).tapsAccepted = s.tapsAccepted := rfl
@[simp] theorem State.wrBool_gccs (s : State) (f : Field) (i : Nat) (b : Bool) : (s.wrBool f i b).gccs = s.gccs := rfl
@[simp] theorem State.wrBool_sections (s : State) (f : Field) (i : Nat) (b : Bool) : (s.wrBool f i b).sections = s.sections := rfl
@[simp] theorem State.wrBool_engines (s : State) (f : Field) (i : Nat) (b : Bool) : (s.wrBool f i b).engines = s.engines := rfl
@[simp] theorem State.wrBool_pool (s : State) (f : Field) (i : Nat) (b : Bool) : (s.wrBool f i b).pool = s.pool := rfl
@[simp] theorem State.wrBool_enc (s : State) (f : Field) (i : Nat) (b : Bool) : (s.wrBool f i b).enc = s.enc := rfl
@[simp] theorem State.wrBool_keyJobs (s : State) (f : Field) (i : Nat) (b : Bool) : (s.wrBool f i b).keyJobs = s.keyJobs := rfl
@[simp] theorem State.wrBool_hubs (s : State) (f : Field) (i : Nat) (b : Bool) : (s.wrBool f i b).hubs = s.hubs := rfl
@[simp] theorem State.wrBool_tideScs (s : State) (f : Field) (i : Nat) (b : Bool) : (s.wrBool f i b).tideScs = s.tideScs := rfl
@[simp] theorem State.wrBool_tideLeaves (s : State) (f : Field) (i : Nat) (b : Bool) : (s.wrBool f i b).tideLeaves = s.tideLeaves := rfl
@[simp] theorem State.wrBool_downstream (s : State) (f : Field) (i : Nat) (b : Bool) : (s.wrBool f i b).downstream = s.downstream := rfl
@[simp] theorem State.wrBool_merges (s : State) (f : Field) (i : Nat) (b : Bool) : (s.wrBool f i b).merges = s.merges := rfl
@[simp] theorem State.wrBool_refs (s : State) (f : Field) (i : Nat) (b : Bool) : (s.wrBool f i b).refs = s.refs := rfl
@[simp] theorem State.wrBool_gridPll (s : State) (f : Field) (i : Nat) (b : Bool) : (s.wrBool f i b).gridPll = s.gridPll := rfl
@[simp] theorem State.wrBool_outPll (s : State) (f : Field) (i : Nat) (b : Bool) : (s.wrBool f i b).outPll = s.outPll := rfl
@[simp] theorem State.wrBool_timeSources (s : State) (f : Field) (i : Nat) (b : Bool) : (s.wrBool f i b).timeSources = s.timeSources := rfl
@[simp] theorem State.wrBool_timePll (s : State) (f : Field) (i : Nat) (b : Bool) : (s.wrBool f i b).timePll = s.timePll := rfl
@[simp] theorem State.wrBool_captures (s : State) (f : Field) (i : Nat) (b : Bool) : (s.wrBool f i b).captures = s.captures := rfl
@[simp] theorem State.wrBool_measures (s : State) (f : Field) (i : Nat) (b : Bool) : (s.wrBool f i b).measures = s.measures := rfl
@[simp] theorem State.wrBool_journal (s : State) (f : Field) (i : Nat) (b : Bool) : (s.wrBool f i b).journal = s.journal := rfl
@[simp] theorem State.wrBool_mate (s : State) (f : Field) (i : Nat) (b : Bool) : (s.wrBool f i b).mate = s.mate := rfl
@[simp] theorem State.wrBool_snapshot (s : State) (f : Field) (i : Nat) (b : Bool) : (s.wrBool f i b).snapshot = s.snapshot := rfl
@[simp] theorem State.wrBool_snapshotBefore (s : State) (f : Field) (i : Nat) (b : Bool) : (s.wrBool f i b).snapshotBefore = s.snapshotBefore := rfl
@[simp] theorem State.wrBool_moors (s : State) (f : Field) (i : Nat) (b : Bool) : (s.wrBool f i b).moors = s.moors := rfl
@[simp] theorem State.wrBool_ccUser (s : State) (f : Field) (i : Nat) (b : Bool) : (s.wrBool f i b).ccUser = s.ccUser := rfl
@[simp] theorem State.wrBool_domain (s : State) (f : Field) (i : Nat) (b : Bool) : (s.wrBool f i b).domain = s.domain := rfl
@[simp] theorem State.wrBool_mem (s : State) (f : Field) (i : Nat) (b : Bool) : (s.wrBool f i b).mem = s.mem := rfl
@[simp] theorem State.wrBool_badWords (s : State) (f : Field) (i : Nat) (b : Bool) : (s.wrBool f i b).badWords = s.badWords := rfl
@[simp] theorem State.wrBool_anc (s : State) (f : Field) (i : Nat) (b : Bool) : (s.wrBool f i b).anc = s.anc := rfl
@[simp] theorem State.wrBool_written (s : State) (f : Field) (i : Nat) (b : Bool) : (s.wrBool f i b).written = s.written := rfl
@[simp] theorem State.wrBool_ancBad (s : State) (f : Field) (i : Nat) (b : Bool) : (s.wrBool f i b).ancBad = s.ancBad := rfl
@[simp] theorem State.wrBool_march (s : State) (f : Field) (i : Nat) (b : Bool) : (s.wrBool f i b).march = s.march := rfl
@[simp] theorem State.wrBool_eccHigh (s : State) (f : Field) (i : Nat) (b : Bool) : (s.wrBool f i b).eccHigh = s.eccHigh := rfl
@[simp] theorem State.wrBool_repairColumn (s : State) (f : Field) (i : Nat) (b : Bool) : (s.wrBool f i b).repairColumn = s.repairColumn := rfl
@[simp] theorem State.wrBool_repaired (s : State) (f : Field) (i : Nat) (b : Bool) : (s.wrBool f i b).repaired = s.repaired := rfl
@[simp] theorem State.wrBool_cores (s : State) (f : Field) (i : Nat) (b : Bool) : (s.wrBool f i b).cores = s.cores := rfl
@[simp] theorem State.wrBool_pcie (s : State) (f : Field) (i : Nat) (b : Bool) : (s.wrBool f i b).pcie = s.pcie := rfl
@[simp] theorem State.wrBool_lbPage (s : State) (f : Field) (i : Nat) (b : Bool) : (s.wrBool f i b).lbPage = s.lbPage := rfl
@[simp] theorem State.wrBool_uart (s : State) (f : Field) (i : Nat) (b : Bool) : (s.wrBool f i b).uart = s.uart := rfl
@[simp] theorem State.wrBool_mailbox (s : State) (f : Field) (i : Nat) (b : Bool) : (s.wrBool f i b).mailbox = s.mailbox := rfl
@[simp] theorem State.wrBool_scanning (s : State) (f : Field) (i : Nat) (b : Bool) : (s.wrBool f i b).scanning = s.scanning := rfl
@[simp] theorem State.wrBool_image (s : State) (f : Field) (i : Nat) (b : Bool) : (s.wrBool f i b).image = s.image := rfl
@[simp] theorem State.wrBool_committed (s : State) (f : Field) (i : Nat) (b : Bool) : (s.wrBool f i b).committed = s.committed := rfl
@[simp] theorem State.wrBool_applied (s : State) (f : Field) (i : Nat) (b : Bool) : (s.wrBool f i b).applied = s.applied := rfl
@[simp] theorem State.wrBool_previous (s : State) (f : Field) (i : Nat) (b : Bool) : (s.wrBool f i b).previous = s.previous := rfl
@[simp] theorem State.wrBool_fuses (s : State) (f : Field) (i : Nat) (b : Bool) : (s.wrBool f i b).fuses = s.fuses := rfl
@[simp] theorem State.wrBool_fuseCells (s : State) (f : Field) (i : Nat) (b : Bool) : (s.wrBool f i b).fuseCells = s.fuseCells := rfl
@[simp] theorem State.wrBool_fuseTarget (s : State) (f : Field) (i : Nat) (b : Bool) : (s.wrBool f i b).fuseTarget = s.fuseTarget := rfl
@[simp] theorem State.wrBool_boot (s : State) (f : Field) (i : Nat) (b : Bool) : (s.wrBool f i b).boot = s.boot := rfl
@[simp] theorem State.wrBool_imageJob (s : State) (f : Field) (i : Nat) (b : Bool) : (s.wrBool f i b).imageJob = s.imageJob := rfl
@[simp] theorem State.wrBool_blockResets (s : State) (f : Field) (i : Nat) (b : Bool) : (s.wrBool f i b).blockResets = s.blockResets := rfl
@[simp] theorem State.wrBool_tallies (s : State) (f : Field) (i : Nat) (b : Bool) : (s.wrBool f i b).tallies = s.tallies := rfl
@[simp] theorem State.wrBool_msixWaiting (s : State) (f : Field) (i : Nat) (b : Bool) : (s.wrBool f i b).msixWaiting = s.msixWaiting := rfl
@[simp] theorem State.wrBool_linkUp (s : State) (f : Field) (i : Nat) (b : Bool) : (s.wrBool f i b).linkUp = s.linkUp := rfl
@[simp] theorem State.wrBool_busMaster (s : State) (f : Field) (i : Nat) (b : Bool) : (s.wrBool f i b).busMaster = s.busMaster := rfl
@[simp] theorem State.wrBool_dumpJobs (s : State) (f : Field) (i : Nat) (b : Bool) : (s.wrBool f i b).dumpJobs = s.dumpJobs := rfl
@[simp] theorem State.wrBool_dumpSeqs (s : State) (f : Field) (i : Nat) (b : Bool) : (s.wrBool f i b).dumpSeqs = s.dumpSeqs := rfl
@[simp] theorem State.wrBool_dumpAt (s : State) (f : Field) (i : Nat) (b : Bool) : (s.wrBool f i b).dumpAt = s.dumpAt := rfl
@[simp] theorem State.wrBool_clientSections (s : State) (f : Field) (i : Nat) (b : Bool) : (s.wrBool f i b).clientSections = s.clientSections := rfl
@[simp] theorem State.wrBool_pathSections (s : State) (f : Field) (i : Nat) (b : Bool) : (s.wrBool f i b).pathSections = s.pathSections := rfl
@[simp] theorem State.wrBool_bins (s : State) (f : Field) (i : Nat) (b : Bool) : (s.wrBool f i b).bins = s.bins := rfl
@[simp] theorem State.wrBool_secondAt (s : State) (f : Field) (i : Nat) (b : Bool) : (s.wrBool f i b).secondAt = s.secondAt := rfl
@[simp] theorem State.wrBool_thermal (s : State) (f : Field) (i : Nat) (b : Bool) : (s.wrBool f i b).thermal = s.thermal := rfl

@[simp] theorem State.incWrap_pending (s : State) (f : Field) (i n : Nat) : (s.incWrap f i n).pending = s.pending := rfl
@[simp] theorem State.incWrap_act (s : State) (f : Field) (i n : Nat) : (s.incWrap f i n).act = s.act := rfl
@[simp] theorem State.incWrap_ctrs (s : State) (f : Field) (i n : Nat) : (s.incWrap f i n).ctrs = s.ctrs := rfl
@[simp] theorem State.incWrap_tick (s : State) (f : Field) (i n : Nat) : (s.incWrap f i n).tick = s.tick := rfl
@[simp] theorem State.incWrap_now (s : State) (f : Field) (i n : Nat) : (s.incWrap f i n).now = s.now := rfl
@[simp] theorem State.incWrap_free (s : State) (f : Field) (i n : Nat) : (s.incWrap f i n).free = s.free := rfl
@[simp] theorem State.incWrap_atBoundary (s : State) (f : Field) (i n : Nat) : (s.incWrap f i n).atBoundary = s.atBoundary := rfl
@[simp] theorem State.incWrap_answers (s : State) (f : Field) (i n : Nat) : (s.incWrap f i n).answers = s.answers := rfl
@[simp] theorem State.incWrap_outbox (s : State) (f : Field) (i n : Nat) : (s.incWrap f i n).outbox = s.outbox := rfl
@[simp] theorem State.incWrap_reports (s : State) (f : Field) (i n : Nat) : (s.incWrap f i n).reports = s.reports := rfl
@[simp] theorem State.incWrap_logQueue (s : State) (f : Field) (i n : Nat) : (s.incWrap f i n).logQueue = s.logQueue := rfl
@[simp] theorem State.incWrap_slots (s : State) (f : Field) (i n : Nat) : (s.incWrap f i n).slots = s.slots := rfl
@[simp] theorem State.incWrap_logSeq (s : State) (f : Field) (i n : Nat) : (s.incWrap f i n).logSeq = s.logSeq := rfl
@[simp] theorem State.incWrap_links (s : State) (f : Field) (i n : Nat) : (s.incWrap f i n).links = s.links := rfl
@[simp] theorem State.incWrap_avsCore (s : State) (f : Field) (i n : Nat) : (s.incWrap f i n).avsCore = s.avsCore := rfl
@[simp] theorem State.incWrap_avsLe (s : State) (f : Field) (i n : Nat) : (s.incWrap f i n).avsLe = s.avsLe := rfl
@[simp] theorem State.incWrap_stores (s : State) (f : Field) (i n : Nat) : (s.incWrap f i n).stores = s.stores := rfl
@[simp] theorem State.incWrap_trains (s : State) (f : Field) (i n : Nat) : (s.incWrap f i n).trains = s.trains := rfl
@[simp] theorem State.incWrap_ingress (s : State) (f : Field) (i n : Nat) : (s.incWrap f i n).ingress = s.ingress := rfl
@[simp] theorem State.incWrap_staged (s : State) (f : Field) (i n : Nat) : (s.incWrap f i n).staged = s.staged := rfl
@[simp] theorem State.incWrap_egress (s : State) (f : Field) (i n : Nat) : (s.incWrap f i n).egress = s.egress := rfl
@[simp] theorem State.incWrap_sources (s : State) (f : Field) (i n : Nat) : (s.incWrap f i n).sources = s.sources := rfl
@[simp] theorem State.incWrap_banks (s : State) (f : Field) (i n : Nat) : (s.incWrap f i n).banks = s.banks := rfl
@[simp] theorem State.incWrap_swap (s : State) (f : Field) (i n : Nat) : (s.incWrap f i n).swap = s.swap := rfl
@[simp] theorem State.incWrap_lostTransfers (s : State) (f : Field) (i n : Nat) : (s.incWrap f i n).lostTransfers = s.lostTransfers := rfl
@[simp] theorem State.incWrap_lanes (s : State) (f : Field) (i n : Nat) : (s.incWrap f i n).lanes = s.lanes := rfl
@[simp] theorem State.incWrap_clients (s : State) (f : Field) (i n : Nat) : (s.incWrap f i n).clients = s.clients := rfl
@[simp] theorem State.incWrap_packets (s : State) (f : Field) (i n : Nat) : (s.incWrap f i n).packets = s.packets := rfl
@[simp] theorem State.incWrap_frames (s : State) (f : Field) (i n : Nat) : (s.incWrap f i n).frames = s.frames := rfl
@[simp] theorem State.incWrap_taps (s : State) (f : Field) (i n : Nat) : (s.incWrap f i n).taps = s.taps := rfl
@[simp] theorem State.incWrap_tapsAccepted (s : State) (f : Field) (i n : Nat) : (s.incWrap f i n).tapsAccepted = s.tapsAccepted := rfl
@[simp] theorem State.incWrap_gccs (s : State) (f : Field) (i n : Nat) : (s.incWrap f i n).gccs = s.gccs := rfl
@[simp] theorem State.incWrap_sections (s : State) (f : Field) (i n : Nat) : (s.incWrap f i n).sections = s.sections := rfl
@[simp] theorem State.incWrap_engines (s : State) (f : Field) (i n : Nat) : (s.incWrap f i n).engines = s.engines := rfl
@[simp] theorem State.incWrap_pool (s : State) (f : Field) (i n : Nat) : (s.incWrap f i n).pool = s.pool := rfl
@[simp] theorem State.incWrap_enc (s : State) (f : Field) (i n : Nat) : (s.incWrap f i n).enc = s.enc := rfl
@[simp] theorem State.incWrap_keyJobs (s : State) (f : Field) (i n : Nat) : (s.incWrap f i n).keyJobs = s.keyJobs := rfl
@[simp] theorem State.incWrap_hubs (s : State) (f : Field) (i n : Nat) : (s.incWrap f i n).hubs = s.hubs := rfl
@[simp] theorem State.incWrap_tideScs (s : State) (f : Field) (i n : Nat) : (s.incWrap f i n).tideScs = s.tideScs := rfl
@[simp] theorem State.incWrap_tideLeaves (s : State) (f : Field) (i n : Nat) : (s.incWrap f i n).tideLeaves = s.tideLeaves := rfl
@[simp] theorem State.incWrap_downstream (s : State) (f : Field) (i n : Nat) : (s.incWrap f i n).downstream = s.downstream := rfl
@[simp] theorem State.incWrap_merges (s : State) (f : Field) (i n : Nat) : (s.incWrap f i n).merges = s.merges := rfl
@[simp] theorem State.incWrap_refs (s : State) (f : Field) (i n : Nat) : (s.incWrap f i n).refs = s.refs := rfl
@[simp] theorem State.incWrap_gridPll (s : State) (f : Field) (i n : Nat) : (s.incWrap f i n).gridPll = s.gridPll := rfl
@[simp] theorem State.incWrap_outPll (s : State) (f : Field) (i n : Nat) : (s.incWrap f i n).outPll = s.outPll := rfl
@[simp] theorem State.incWrap_timeSources (s : State) (f : Field) (i n : Nat) : (s.incWrap f i n).timeSources = s.timeSources := rfl
@[simp] theorem State.incWrap_timePll (s : State) (f : Field) (i n : Nat) : (s.incWrap f i n).timePll = s.timePll := rfl
@[simp] theorem State.incWrap_captures (s : State) (f : Field) (i n : Nat) : (s.incWrap f i n).captures = s.captures := rfl
@[simp] theorem State.incWrap_measures (s : State) (f : Field) (i n : Nat) : (s.incWrap f i n).measures = s.measures := rfl
@[simp] theorem State.incWrap_journal (s : State) (f : Field) (i n : Nat) : (s.incWrap f i n).journal = s.journal := rfl
@[simp] theorem State.incWrap_mate (s : State) (f : Field) (i n : Nat) : (s.incWrap f i n).mate = s.mate := rfl
@[simp] theorem State.incWrap_snapshot (s : State) (f : Field) (i n : Nat) : (s.incWrap f i n).snapshot = s.snapshot := rfl
@[simp] theorem State.incWrap_snapshotBefore (s : State) (f : Field) (i n : Nat) : (s.incWrap f i n).snapshotBefore = s.snapshotBefore := rfl
@[simp] theorem State.incWrap_moors (s : State) (f : Field) (i n : Nat) : (s.incWrap f i n).moors = s.moors := rfl
@[simp] theorem State.incWrap_ccUser (s : State) (f : Field) (i n : Nat) : (s.incWrap f i n).ccUser = s.ccUser := rfl
@[simp] theorem State.incWrap_domain (s : State) (f : Field) (i n : Nat) : (s.incWrap f i n).domain = s.domain := rfl
@[simp] theorem State.incWrap_mem (s : State) (f : Field) (i n : Nat) : (s.incWrap f i n).mem = s.mem := rfl
@[simp] theorem State.incWrap_badWords (s : State) (f : Field) (i n : Nat) : (s.incWrap f i n).badWords = s.badWords := rfl
@[simp] theorem State.incWrap_anc (s : State) (f : Field) (i n : Nat) : (s.incWrap f i n).anc = s.anc := rfl
@[simp] theorem State.incWrap_written (s : State) (f : Field) (i n : Nat) : (s.incWrap f i n).written = s.written := rfl
@[simp] theorem State.incWrap_ancBad (s : State) (f : Field) (i n : Nat) : (s.incWrap f i n).ancBad = s.ancBad := rfl
@[simp] theorem State.incWrap_march (s : State) (f : Field) (i n : Nat) : (s.incWrap f i n).march = s.march := rfl
@[simp] theorem State.incWrap_eccHigh (s : State) (f : Field) (i n : Nat) : (s.incWrap f i n).eccHigh = s.eccHigh := rfl
@[simp] theorem State.incWrap_repairColumn (s : State) (f : Field) (i n : Nat) : (s.incWrap f i n).repairColumn = s.repairColumn := rfl
@[simp] theorem State.incWrap_repaired (s : State) (f : Field) (i n : Nat) : (s.incWrap f i n).repaired = s.repaired := rfl
@[simp] theorem State.incWrap_cores (s : State) (f : Field) (i n : Nat) : (s.incWrap f i n).cores = s.cores := rfl
@[simp] theorem State.incWrap_pcie (s : State) (f : Field) (i n : Nat) : (s.incWrap f i n).pcie = s.pcie := rfl
@[simp] theorem State.incWrap_lbPage (s : State) (f : Field) (i n : Nat) : (s.incWrap f i n).lbPage = s.lbPage := rfl
@[simp] theorem State.incWrap_uart (s : State) (f : Field) (i n : Nat) : (s.incWrap f i n).uart = s.uart := rfl
@[simp] theorem State.incWrap_mailbox (s : State) (f : Field) (i n : Nat) : (s.incWrap f i n).mailbox = s.mailbox := rfl
@[simp] theorem State.incWrap_scanning (s : State) (f : Field) (i n : Nat) : (s.incWrap f i n).scanning = s.scanning := rfl
@[simp] theorem State.incWrap_image (s : State) (f : Field) (i n : Nat) : (s.incWrap f i n).image = s.image := rfl
@[simp] theorem State.incWrap_committed (s : State) (f : Field) (i n : Nat) : (s.incWrap f i n).committed = s.committed := rfl
@[simp] theorem State.incWrap_applied (s : State) (f : Field) (i n : Nat) : (s.incWrap f i n).applied = s.applied := rfl
@[simp] theorem State.incWrap_previous (s : State) (f : Field) (i n : Nat) : (s.incWrap f i n).previous = s.previous := rfl
@[simp] theorem State.incWrap_fuses (s : State) (f : Field) (i n : Nat) : (s.incWrap f i n).fuses = s.fuses := rfl
@[simp] theorem State.incWrap_fuseCells (s : State) (f : Field) (i n : Nat) : (s.incWrap f i n).fuseCells = s.fuseCells := rfl
@[simp] theorem State.incWrap_fuseTarget (s : State) (f : Field) (i n : Nat) : (s.incWrap f i n).fuseTarget = s.fuseTarget := rfl
@[simp] theorem State.incWrap_boot (s : State) (f : Field) (i n : Nat) : (s.incWrap f i n).boot = s.boot := rfl
@[simp] theorem State.incWrap_imageJob (s : State) (f : Field) (i n : Nat) : (s.incWrap f i n).imageJob = s.imageJob := rfl
@[simp] theorem State.incWrap_blockResets (s : State) (f : Field) (i n : Nat) : (s.incWrap f i n).blockResets = s.blockResets := rfl
@[simp] theorem State.incWrap_tallies (s : State) (f : Field) (i n : Nat) : (s.incWrap f i n).tallies = s.tallies := rfl
@[simp] theorem State.incWrap_msixWaiting (s : State) (f : Field) (i n : Nat) : (s.incWrap f i n).msixWaiting = s.msixWaiting := rfl
@[simp] theorem State.incWrap_linkUp (s : State) (f : Field) (i n : Nat) : (s.incWrap f i n).linkUp = s.linkUp := rfl
@[simp] theorem State.incWrap_busMaster (s : State) (f : Field) (i n : Nat) : (s.incWrap f i n).busMaster = s.busMaster := rfl
@[simp] theorem State.incWrap_dumpJobs (s : State) (f : Field) (i n : Nat) : (s.incWrap f i n).dumpJobs = s.dumpJobs := rfl
@[simp] theorem State.incWrap_dumpSeqs (s : State) (f : Field) (i n : Nat) : (s.incWrap f i n).dumpSeqs = s.dumpSeqs := rfl
@[simp] theorem State.incWrap_dumpAt (s : State) (f : Field) (i n : Nat) : (s.incWrap f i n).dumpAt = s.dumpAt := rfl
@[simp] theorem State.incWrap_clientSections (s : State) (f : Field) (i n : Nat) : (s.incWrap f i n).clientSections = s.clientSections := rfl
@[simp] theorem State.incWrap_pathSections (s : State) (f : Field) (i n : Nat) : (s.incWrap f i n).pathSections = s.pathSections := rfl
@[simp] theorem State.incWrap_bins (s : State) (f : Field) (i n : Nat) : (s.incWrap f i n).bins = s.bins := rfl
@[simp] theorem State.incWrap_secondAt (s : State) (f : Field) (i n : Nat) : (s.incWrap f i n).secondAt = s.secondAt := rfl
@[simp] theorem State.incWrap_thermal (s : State) (f : Field) (i n : Nat) : (s.incWrap f i n).thermal = s.thermal := rfl

@[simp] theorem State.incSat_pending (s : State) (f : Field) (i n : Nat) : (s.incSat f i n).pending = s.pending := rfl
@[simp] theorem State.incSat_act (s : State) (f : Field) (i n : Nat) : (s.incSat f i n).act = s.act := rfl
@[simp] theorem State.incSat_ctrs (s : State) (f : Field) (i n : Nat) : (s.incSat f i n).ctrs = s.ctrs := rfl
@[simp] theorem State.incSat_tick (s : State) (f : Field) (i n : Nat) : (s.incSat f i n).tick = s.tick := rfl
@[simp] theorem State.incSat_now (s : State) (f : Field) (i n : Nat) : (s.incSat f i n).now = s.now := rfl
@[simp] theorem State.incSat_free (s : State) (f : Field) (i n : Nat) : (s.incSat f i n).free = s.free := rfl
@[simp] theorem State.incSat_atBoundary (s : State) (f : Field) (i n : Nat) : (s.incSat f i n).atBoundary = s.atBoundary := rfl
@[simp] theorem State.incSat_answers (s : State) (f : Field) (i n : Nat) : (s.incSat f i n).answers = s.answers := rfl
@[simp] theorem State.incSat_outbox (s : State) (f : Field) (i n : Nat) : (s.incSat f i n).outbox = s.outbox := rfl
@[simp] theorem State.incSat_reports (s : State) (f : Field) (i n : Nat) : (s.incSat f i n).reports = s.reports := rfl
@[simp] theorem State.incSat_logQueue (s : State) (f : Field) (i n : Nat) : (s.incSat f i n).logQueue = s.logQueue := rfl
@[simp] theorem State.incSat_slots (s : State) (f : Field) (i n : Nat) : (s.incSat f i n).slots = s.slots := rfl
@[simp] theorem State.incSat_logSeq (s : State) (f : Field) (i n : Nat) : (s.incSat f i n).logSeq = s.logSeq := rfl
@[simp] theorem State.incSat_links (s : State) (f : Field) (i n : Nat) : (s.incSat f i n).links = s.links := rfl
@[simp] theorem State.incSat_avsCore (s : State) (f : Field) (i n : Nat) : (s.incSat f i n).avsCore = s.avsCore := rfl
@[simp] theorem State.incSat_avsLe (s : State) (f : Field) (i n : Nat) : (s.incSat f i n).avsLe = s.avsLe := rfl
@[simp] theorem State.incSat_stores (s : State) (f : Field) (i n : Nat) : (s.incSat f i n).stores = s.stores := rfl
@[simp] theorem State.incSat_trains (s : State) (f : Field) (i n : Nat) : (s.incSat f i n).trains = s.trains := rfl
@[simp] theorem State.incSat_ingress (s : State) (f : Field) (i n : Nat) : (s.incSat f i n).ingress = s.ingress := rfl
@[simp] theorem State.incSat_staged (s : State) (f : Field) (i n : Nat) : (s.incSat f i n).staged = s.staged := rfl
@[simp] theorem State.incSat_egress (s : State) (f : Field) (i n : Nat) : (s.incSat f i n).egress = s.egress := rfl
@[simp] theorem State.incSat_sources (s : State) (f : Field) (i n : Nat) : (s.incSat f i n).sources = s.sources := rfl
@[simp] theorem State.incSat_banks (s : State) (f : Field) (i n : Nat) : (s.incSat f i n).banks = s.banks := rfl
@[simp] theorem State.incSat_swap (s : State) (f : Field) (i n : Nat) : (s.incSat f i n).swap = s.swap := rfl
@[simp] theorem State.incSat_lostTransfers (s : State) (f : Field) (i n : Nat) : (s.incSat f i n).lostTransfers = s.lostTransfers := rfl
@[simp] theorem State.incSat_lanes (s : State) (f : Field) (i n : Nat) : (s.incSat f i n).lanes = s.lanes := rfl
@[simp] theorem State.incSat_clients (s : State) (f : Field) (i n : Nat) : (s.incSat f i n).clients = s.clients := rfl
@[simp] theorem State.incSat_packets (s : State) (f : Field) (i n : Nat) : (s.incSat f i n).packets = s.packets := rfl
@[simp] theorem State.incSat_frames (s : State) (f : Field) (i n : Nat) : (s.incSat f i n).frames = s.frames := rfl
@[simp] theorem State.incSat_taps (s : State) (f : Field) (i n : Nat) : (s.incSat f i n).taps = s.taps := rfl
@[simp] theorem State.incSat_tapsAccepted (s : State) (f : Field) (i n : Nat) : (s.incSat f i n).tapsAccepted = s.tapsAccepted := rfl
@[simp] theorem State.incSat_gccs (s : State) (f : Field) (i n : Nat) : (s.incSat f i n).gccs = s.gccs := rfl
@[simp] theorem State.incSat_sections (s : State) (f : Field) (i n : Nat) : (s.incSat f i n).sections = s.sections := rfl
@[simp] theorem State.incSat_engines (s : State) (f : Field) (i n : Nat) : (s.incSat f i n).engines = s.engines := rfl
@[simp] theorem State.incSat_pool (s : State) (f : Field) (i n : Nat) : (s.incSat f i n).pool = s.pool := rfl
@[simp] theorem State.incSat_enc (s : State) (f : Field) (i n : Nat) : (s.incSat f i n).enc = s.enc := rfl
@[simp] theorem State.incSat_keyJobs (s : State) (f : Field) (i n : Nat) : (s.incSat f i n).keyJobs = s.keyJobs := rfl
@[simp] theorem State.incSat_hubs (s : State) (f : Field) (i n : Nat) : (s.incSat f i n).hubs = s.hubs := rfl
@[simp] theorem State.incSat_tideScs (s : State) (f : Field) (i n : Nat) : (s.incSat f i n).tideScs = s.tideScs := rfl
@[simp] theorem State.incSat_tideLeaves (s : State) (f : Field) (i n : Nat) : (s.incSat f i n).tideLeaves = s.tideLeaves := rfl
@[simp] theorem State.incSat_downstream (s : State) (f : Field) (i n : Nat) : (s.incSat f i n).downstream = s.downstream := rfl
@[simp] theorem State.incSat_merges (s : State) (f : Field) (i n : Nat) : (s.incSat f i n).merges = s.merges := rfl
@[simp] theorem State.incSat_refs (s : State) (f : Field) (i n : Nat) : (s.incSat f i n).refs = s.refs := rfl
@[simp] theorem State.incSat_gridPll (s : State) (f : Field) (i n : Nat) : (s.incSat f i n).gridPll = s.gridPll := rfl
@[simp] theorem State.incSat_outPll (s : State) (f : Field) (i n : Nat) : (s.incSat f i n).outPll = s.outPll := rfl
@[simp] theorem State.incSat_timeSources (s : State) (f : Field) (i n : Nat) : (s.incSat f i n).timeSources = s.timeSources := rfl
@[simp] theorem State.incSat_timePll (s : State) (f : Field) (i n : Nat) : (s.incSat f i n).timePll = s.timePll := rfl
@[simp] theorem State.incSat_captures (s : State) (f : Field) (i n : Nat) : (s.incSat f i n).captures = s.captures := rfl
@[simp] theorem State.incSat_measures (s : State) (f : Field) (i n : Nat) : (s.incSat f i n).measures = s.measures := rfl
@[simp] theorem State.incSat_journal (s : State) (f : Field) (i n : Nat) : (s.incSat f i n).journal = s.journal := rfl
@[simp] theorem State.incSat_mate (s : State) (f : Field) (i n : Nat) : (s.incSat f i n).mate = s.mate := rfl
@[simp] theorem State.incSat_snapshot (s : State) (f : Field) (i n : Nat) : (s.incSat f i n).snapshot = s.snapshot := rfl
@[simp] theorem State.incSat_snapshotBefore (s : State) (f : Field) (i n : Nat) : (s.incSat f i n).snapshotBefore = s.snapshotBefore := rfl
@[simp] theorem State.incSat_moors (s : State) (f : Field) (i n : Nat) : (s.incSat f i n).moors = s.moors := rfl
@[simp] theorem State.incSat_ccUser (s : State) (f : Field) (i n : Nat) : (s.incSat f i n).ccUser = s.ccUser := rfl
@[simp] theorem State.incSat_domain (s : State) (f : Field) (i n : Nat) : (s.incSat f i n).domain = s.domain := rfl
@[simp] theorem State.incSat_mem (s : State) (f : Field) (i n : Nat) : (s.incSat f i n).mem = s.mem := rfl
@[simp] theorem State.incSat_badWords (s : State) (f : Field) (i n : Nat) : (s.incSat f i n).badWords = s.badWords := rfl
@[simp] theorem State.incSat_anc (s : State) (f : Field) (i n : Nat) : (s.incSat f i n).anc = s.anc := rfl
@[simp] theorem State.incSat_written (s : State) (f : Field) (i n : Nat) : (s.incSat f i n).written = s.written := rfl
@[simp] theorem State.incSat_ancBad (s : State) (f : Field) (i n : Nat) : (s.incSat f i n).ancBad = s.ancBad := rfl
@[simp] theorem State.incSat_march (s : State) (f : Field) (i n : Nat) : (s.incSat f i n).march = s.march := rfl
@[simp] theorem State.incSat_eccHigh (s : State) (f : Field) (i n : Nat) : (s.incSat f i n).eccHigh = s.eccHigh := rfl
@[simp] theorem State.incSat_repairColumn (s : State) (f : Field) (i n : Nat) : (s.incSat f i n).repairColumn = s.repairColumn := rfl
@[simp] theorem State.incSat_repaired (s : State) (f : Field) (i n : Nat) : (s.incSat f i n).repaired = s.repaired := rfl
@[simp] theorem State.incSat_cores (s : State) (f : Field) (i n : Nat) : (s.incSat f i n).cores = s.cores := rfl
@[simp] theorem State.incSat_pcie (s : State) (f : Field) (i n : Nat) : (s.incSat f i n).pcie = s.pcie := rfl
@[simp] theorem State.incSat_lbPage (s : State) (f : Field) (i n : Nat) : (s.incSat f i n).lbPage = s.lbPage := rfl
@[simp] theorem State.incSat_uart (s : State) (f : Field) (i n : Nat) : (s.incSat f i n).uart = s.uart := rfl
@[simp] theorem State.incSat_mailbox (s : State) (f : Field) (i n : Nat) : (s.incSat f i n).mailbox = s.mailbox := rfl
@[simp] theorem State.incSat_scanning (s : State) (f : Field) (i n : Nat) : (s.incSat f i n).scanning = s.scanning := rfl
@[simp] theorem State.incSat_image (s : State) (f : Field) (i n : Nat) : (s.incSat f i n).image = s.image := rfl
@[simp] theorem State.incSat_committed (s : State) (f : Field) (i n : Nat) : (s.incSat f i n).committed = s.committed := rfl
@[simp] theorem State.incSat_applied (s : State) (f : Field) (i n : Nat) : (s.incSat f i n).applied = s.applied := rfl
@[simp] theorem State.incSat_previous (s : State) (f : Field) (i n : Nat) : (s.incSat f i n).previous = s.previous := rfl
@[simp] theorem State.incSat_fuses (s : State) (f : Field) (i n : Nat) : (s.incSat f i n).fuses = s.fuses := rfl
@[simp] theorem State.incSat_fuseCells (s : State) (f : Field) (i n : Nat) : (s.incSat f i n).fuseCells = s.fuseCells := rfl
@[simp] theorem State.incSat_fuseTarget (s : State) (f : Field) (i n : Nat) : (s.incSat f i n).fuseTarget = s.fuseTarget := rfl
@[simp] theorem State.incSat_boot (s : State) (f : Field) (i n : Nat) : (s.incSat f i n).boot = s.boot := rfl
@[simp] theorem State.incSat_imageJob (s : State) (f : Field) (i n : Nat) : (s.incSat f i n).imageJob = s.imageJob := rfl
@[simp] theorem State.incSat_blockResets (s : State) (f : Field) (i n : Nat) : (s.incSat f i n).blockResets = s.blockResets := rfl
@[simp] theorem State.incSat_tallies (s : State) (f : Field) (i n : Nat) : (s.incSat f i n).tallies = s.tallies := rfl
@[simp] theorem State.incSat_msixWaiting (s : State) (f : Field) (i n : Nat) : (s.incSat f i n).msixWaiting = s.msixWaiting := rfl
@[simp] theorem State.incSat_linkUp (s : State) (f : Field) (i n : Nat) : (s.incSat f i n).linkUp = s.linkUp := rfl
@[simp] theorem State.incSat_busMaster (s : State) (f : Field) (i n : Nat) : (s.incSat f i n).busMaster = s.busMaster := rfl
@[simp] theorem State.incSat_dumpJobs (s : State) (f : Field) (i n : Nat) : (s.incSat f i n).dumpJobs = s.dumpJobs := rfl
@[simp] theorem State.incSat_dumpSeqs (s : State) (f : Field) (i n : Nat) : (s.incSat f i n).dumpSeqs = s.dumpSeqs := rfl
@[simp] theorem State.incSat_dumpAt (s : State) (f : Field) (i n : Nat) : (s.incSat f i n).dumpAt = s.dumpAt := rfl
@[simp] theorem State.incSat_clientSections (s : State) (f : Field) (i n : Nat) : (s.incSat f i n).clientSections = s.clientSections := rfl
@[simp] theorem State.incSat_pathSections (s : State) (f : Field) (i n : Nat) : (s.incSat f i n).pathSections = s.pathSections := rfl
@[simp] theorem State.incSat_bins (s : State) (f : Field) (i n : Nat) : (s.incSat f i n).bins = s.bins := rfl
@[simp] theorem State.incSat_secondAt (s : State) (f : Field) (i n : Nat) : (s.incSat f i n).secondAt = s.secondAt := rfl
@[simp] theorem State.incSat_thermal (s : State) (f : Field) (i n : Nat) : (s.incSat f i n).thermal = s.thermal := rfl

@[simp] theorem State.setCtr_pending (s : State) (c : Ctr) (n : Nat) : (s.setCtr c n).pending = s.pending := rfl
@[simp] theorem State.setCtr_regs (s : State) (c : Ctr) (n : Nat) : (s.setCtr c n).regs = s.regs := rfl
@[simp] theorem State.setCtr_act (s : State) (c : Ctr) (n : Nat) : (s.setCtr c n).act = s.act := rfl
@[simp] theorem State.setCtr_tick (s : State) (c : Ctr) (n : Nat) : (s.setCtr c n).tick = s.tick := rfl
@[simp] theorem State.setCtr_now (s : State) (c : Ctr) (n : Nat) : (s.setCtr c n).now = s.now := rfl
@[simp] theorem State.setCtr_free (s : State) (c : Ctr) (n : Nat) : (s.setCtr c n).free = s.free := rfl
@[simp] theorem State.setCtr_atBoundary (s : State) (c : Ctr) (n : Nat) : (s.setCtr c n).atBoundary = s.atBoundary := rfl
@[simp] theorem State.setCtr_answers (s : State) (c : Ctr) (n : Nat) : (s.setCtr c n).answers = s.answers := rfl
@[simp] theorem State.setCtr_outbox (s : State) (c : Ctr) (n : Nat) : (s.setCtr c n).outbox = s.outbox := rfl
@[simp] theorem State.setCtr_reports (s : State) (c : Ctr) (n : Nat) : (s.setCtr c n).reports = s.reports := rfl
@[simp] theorem State.setCtr_logQueue (s : State) (c : Ctr) (n : Nat) : (s.setCtr c n).logQueue = s.logQueue := rfl
@[simp] theorem State.setCtr_slots (s : State) (c : Ctr) (n : Nat) : (s.setCtr c n).slots = s.slots := rfl
@[simp] theorem State.setCtr_logSeq (s : State) (c : Ctr) (n : Nat) : (s.setCtr c n).logSeq = s.logSeq := rfl
@[simp] theorem State.setCtr_links (s : State) (c : Ctr) (n : Nat) : (s.setCtr c n).links = s.links := rfl
@[simp] theorem State.setCtr_avsCore (s : State) (c : Ctr) (n : Nat) : (s.setCtr c n).avsCore = s.avsCore := rfl
@[simp] theorem State.setCtr_avsLe (s : State) (c : Ctr) (n : Nat) : (s.setCtr c n).avsLe = s.avsLe := rfl
@[simp] theorem State.setCtr_stores (s : State) (c : Ctr) (n : Nat) : (s.setCtr c n).stores = s.stores := rfl
@[simp] theorem State.setCtr_trains (s : State) (c : Ctr) (n : Nat) : (s.setCtr c n).trains = s.trains := rfl
@[simp] theorem State.setCtr_ingress (s : State) (c : Ctr) (n : Nat) : (s.setCtr c n).ingress = s.ingress := rfl
@[simp] theorem State.setCtr_staged (s : State) (c : Ctr) (n : Nat) : (s.setCtr c n).staged = s.staged := rfl
@[simp] theorem State.setCtr_egress (s : State) (c : Ctr) (n : Nat) : (s.setCtr c n).egress = s.egress := rfl
@[simp] theorem State.setCtr_sources (s : State) (c : Ctr) (n : Nat) : (s.setCtr c n).sources = s.sources := rfl
@[simp] theorem State.setCtr_banks (s : State) (c : Ctr) (n : Nat) : (s.setCtr c n).banks = s.banks := rfl
@[simp] theorem State.setCtr_swap (s : State) (c : Ctr) (n : Nat) : (s.setCtr c n).swap = s.swap := rfl
@[simp] theorem State.setCtr_lostTransfers (s : State) (c : Ctr) (n : Nat) : (s.setCtr c n).lostTransfers = s.lostTransfers := rfl
@[simp] theorem State.setCtr_lanes (s : State) (c : Ctr) (n : Nat) : (s.setCtr c n).lanes = s.lanes := rfl
@[simp] theorem State.setCtr_clients (s : State) (c : Ctr) (n : Nat) : (s.setCtr c n).clients = s.clients := rfl
@[simp] theorem State.setCtr_packets (s : State) (c : Ctr) (n : Nat) : (s.setCtr c n).packets = s.packets := rfl
@[simp] theorem State.setCtr_frames (s : State) (c : Ctr) (n : Nat) : (s.setCtr c n).frames = s.frames := rfl
@[simp] theorem State.setCtr_taps (s : State) (c : Ctr) (n : Nat) : (s.setCtr c n).taps = s.taps := rfl
@[simp] theorem State.setCtr_tapsAccepted (s : State) (c : Ctr) (n : Nat) : (s.setCtr c n).tapsAccepted = s.tapsAccepted := rfl
@[simp] theorem State.setCtr_gccs (s : State) (c : Ctr) (n : Nat) : (s.setCtr c n).gccs = s.gccs := rfl
@[simp] theorem State.setCtr_sections (s : State) (c : Ctr) (n : Nat) : (s.setCtr c n).sections = s.sections := rfl
@[simp] theorem State.setCtr_engines (s : State) (c : Ctr) (n : Nat) : (s.setCtr c n).engines = s.engines := rfl
@[simp] theorem State.setCtr_pool (s : State) (c : Ctr) (n : Nat) : (s.setCtr c n).pool = s.pool := rfl
@[simp] theorem State.setCtr_enc (s : State) (c : Ctr) (n : Nat) : (s.setCtr c n).enc = s.enc := rfl
@[simp] theorem State.setCtr_keyJobs (s : State) (c : Ctr) (n : Nat) : (s.setCtr c n).keyJobs = s.keyJobs := rfl
@[simp] theorem State.setCtr_hubs (s : State) (c : Ctr) (n : Nat) : (s.setCtr c n).hubs = s.hubs := rfl
@[simp] theorem State.setCtr_tideScs (s : State) (c : Ctr) (n : Nat) : (s.setCtr c n).tideScs = s.tideScs := rfl
@[simp] theorem State.setCtr_tideLeaves (s : State) (c : Ctr) (n : Nat) : (s.setCtr c n).tideLeaves = s.tideLeaves := rfl
@[simp] theorem State.setCtr_downstream (s : State) (c : Ctr) (n : Nat) : (s.setCtr c n).downstream = s.downstream := rfl
@[simp] theorem State.setCtr_merges (s : State) (c : Ctr) (n : Nat) : (s.setCtr c n).merges = s.merges := rfl
@[simp] theorem State.setCtr_refs (s : State) (c : Ctr) (n : Nat) : (s.setCtr c n).refs = s.refs := rfl
@[simp] theorem State.setCtr_gridPll (s : State) (c : Ctr) (n : Nat) : (s.setCtr c n).gridPll = s.gridPll := rfl
@[simp] theorem State.setCtr_outPll (s : State) (c : Ctr) (n : Nat) : (s.setCtr c n).outPll = s.outPll := rfl
@[simp] theorem State.setCtr_timeSources (s : State) (c : Ctr) (n : Nat) : (s.setCtr c n).timeSources = s.timeSources := rfl
@[simp] theorem State.setCtr_timePll (s : State) (c : Ctr) (n : Nat) : (s.setCtr c n).timePll = s.timePll := rfl
@[simp] theorem State.setCtr_captures (s : State) (c : Ctr) (n : Nat) : (s.setCtr c n).captures = s.captures := rfl
@[simp] theorem State.setCtr_measures (s : State) (c : Ctr) (n : Nat) : (s.setCtr c n).measures = s.measures := rfl
@[simp] theorem State.setCtr_journal (s : State) (c : Ctr) (n : Nat) : (s.setCtr c n).journal = s.journal := rfl
@[simp] theorem State.setCtr_mate (s : State) (c : Ctr) (n : Nat) : (s.setCtr c n).mate = s.mate := rfl
@[simp] theorem State.setCtr_snapshot (s : State) (c : Ctr) (n : Nat) : (s.setCtr c n).snapshot = s.snapshot := rfl
@[simp] theorem State.setCtr_snapshotBefore (s : State) (c : Ctr) (n : Nat) : (s.setCtr c n).snapshotBefore = s.snapshotBefore := rfl
@[simp] theorem State.setCtr_moors (s : State) (c : Ctr) (n : Nat) : (s.setCtr c n).moors = s.moors := rfl
@[simp] theorem State.setCtr_ccUser (s : State) (c : Ctr) (n : Nat) : (s.setCtr c n).ccUser = s.ccUser := rfl
@[simp] theorem State.setCtr_domain (s : State) (c : Ctr) (n : Nat) : (s.setCtr c n).domain = s.domain := rfl
@[simp] theorem State.setCtr_mem (s : State) (c : Ctr) (n : Nat) : (s.setCtr c n).mem = s.mem := rfl
@[simp] theorem State.setCtr_badWords (s : State) (c : Ctr) (n : Nat) : (s.setCtr c n).badWords = s.badWords := rfl
@[simp] theorem State.setCtr_anc (s : State) (c : Ctr) (n : Nat) : (s.setCtr c n).anc = s.anc := rfl
@[simp] theorem State.setCtr_written (s : State) (c : Ctr) (n : Nat) : (s.setCtr c n).written = s.written := rfl
@[simp] theorem State.setCtr_ancBad (s : State) (c : Ctr) (n : Nat) : (s.setCtr c n).ancBad = s.ancBad := rfl
@[simp] theorem State.setCtr_march (s : State) (c : Ctr) (n : Nat) : (s.setCtr c n).march = s.march := rfl
@[simp] theorem State.setCtr_eccHigh (s : State) (c : Ctr) (n : Nat) : (s.setCtr c n).eccHigh = s.eccHigh := rfl
@[simp] theorem State.setCtr_repairColumn (s : State) (c : Ctr) (n : Nat) : (s.setCtr c n).repairColumn = s.repairColumn := rfl
@[simp] theorem State.setCtr_repaired (s : State) (c : Ctr) (n : Nat) : (s.setCtr c n).repaired = s.repaired := rfl
@[simp] theorem State.setCtr_cores (s : State) (c : Ctr) (n : Nat) : (s.setCtr c n).cores = s.cores := rfl
@[simp] theorem State.setCtr_pcie (s : State) (c : Ctr) (n : Nat) : (s.setCtr c n).pcie = s.pcie := rfl
@[simp] theorem State.setCtr_lbPage (s : State) (c : Ctr) (n : Nat) : (s.setCtr c n).lbPage = s.lbPage := rfl
@[simp] theorem State.setCtr_uart (s : State) (c : Ctr) (n : Nat) : (s.setCtr c n).uart = s.uart := rfl
@[simp] theorem State.setCtr_mailbox (s : State) (c : Ctr) (n : Nat) : (s.setCtr c n).mailbox = s.mailbox := rfl
@[simp] theorem State.setCtr_scanning (s : State) (c : Ctr) (n : Nat) : (s.setCtr c n).scanning = s.scanning := rfl
@[simp] theorem State.setCtr_image (s : State) (c : Ctr) (n : Nat) : (s.setCtr c n).image = s.image := rfl
@[simp] theorem State.setCtr_committed (s : State) (c : Ctr) (n : Nat) : (s.setCtr c n).committed = s.committed := rfl
@[simp] theorem State.setCtr_applied (s : State) (c : Ctr) (n : Nat) : (s.setCtr c n).applied = s.applied := rfl
@[simp] theorem State.setCtr_previous (s : State) (c : Ctr) (n : Nat) : (s.setCtr c n).previous = s.previous := rfl
@[simp] theorem State.setCtr_fuses (s : State) (c : Ctr) (n : Nat) : (s.setCtr c n).fuses = s.fuses := rfl
@[simp] theorem State.setCtr_fuseCells (s : State) (c : Ctr) (n : Nat) : (s.setCtr c n).fuseCells = s.fuseCells := rfl
@[simp] theorem State.setCtr_fuseTarget (s : State) (c : Ctr) (n : Nat) : (s.setCtr c n).fuseTarget = s.fuseTarget := rfl
@[simp] theorem State.setCtr_boot (s : State) (c : Ctr) (n : Nat) : (s.setCtr c n).boot = s.boot := rfl
@[simp] theorem State.setCtr_imageJob (s : State) (c : Ctr) (n : Nat) : (s.setCtr c n).imageJob = s.imageJob := rfl
@[simp] theorem State.setCtr_blockResets (s : State) (c : Ctr) (n : Nat) : (s.setCtr c n).blockResets = s.blockResets := rfl
@[simp] theorem State.setCtr_tallies (s : State) (c : Ctr) (n : Nat) : (s.setCtr c n).tallies = s.tallies := rfl
@[simp] theorem State.setCtr_msixWaiting (s : State) (c : Ctr) (n : Nat) : (s.setCtr c n).msixWaiting = s.msixWaiting := rfl
@[simp] theorem State.setCtr_linkUp (s : State) (c : Ctr) (n : Nat) : (s.setCtr c n).linkUp = s.linkUp := rfl
@[simp] theorem State.setCtr_busMaster (s : State) (c : Ctr) (n : Nat) : (s.setCtr c n).busMaster = s.busMaster := rfl
@[simp] theorem State.setCtr_dumpJobs (s : State) (c : Ctr) (n : Nat) : (s.setCtr c n).dumpJobs = s.dumpJobs := rfl
@[simp] theorem State.setCtr_dumpSeqs (s : State) (c : Ctr) (n : Nat) : (s.setCtr c n).dumpSeqs = s.dumpSeqs := rfl
@[simp] theorem State.setCtr_dumpAt (s : State) (c : Ctr) (n : Nat) : (s.setCtr c n).dumpAt = s.dumpAt := rfl
@[simp] theorem State.setCtr_clientSections (s : State) (c : Ctr) (n : Nat) : (s.setCtr c n).clientSections = s.clientSections := rfl
@[simp] theorem State.setCtr_pathSections (s : State) (c : Ctr) (n : Nat) : (s.setCtr c n).pathSections = s.pathSections := rfl
@[simp] theorem State.setCtr_bins (s : State) (c : Ctr) (n : Nat) : (s.setCtr c n).bins = s.bins := rfl
@[simp] theorem State.setCtr_secondAt (s : State) (c : Ctr) (n : Nat) : (s.setCtr c n).secondAt = s.secondAt := rfl
@[simp] theorem State.setCtr_thermal (s : State) (c : Ctr) (n : Nat) : (s.setCtr c n).thermal = s.thermal := rfl

@[simp] theorem State.count_pending (s : State) (c : Ctr) (n : Nat) : (s.count c n).pending = s.pending := rfl
@[simp] theorem State.count_regs (s : State) (c : Ctr) (n : Nat) : (s.count c n).regs = s.regs := rfl
@[simp] theorem State.count_act (s : State) (c : Ctr) (n : Nat) : (s.count c n).act = s.act := rfl
@[simp] theorem State.count_tick (s : State) (c : Ctr) (n : Nat) : (s.count c n).tick = s.tick := rfl
@[simp] theorem State.count_now (s : State) (c : Ctr) (n : Nat) : (s.count c n).now = s.now := rfl
@[simp] theorem State.count_free (s : State) (c : Ctr) (n : Nat) : (s.count c n).free = s.free := rfl
@[simp] theorem State.count_atBoundary (s : State) (c : Ctr) (n : Nat) : (s.count c n).atBoundary = s.atBoundary := rfl
@[simp] theorem State.count_answers (s : State) (c : Ctr) (n : Nat) : (s.count c n).answers = s.answers := rfl
@[simp] theorem State.count_outbox (s : State) (c : Ctr) (n : Nat) : (s.count c n).outbox = s.outbox := rfl
@[simp] theorem State.count_reports (s : State) (c : Ctr) (n : Nat) : (s.count c n).reports = s.reports := rfl
@[simp] theorem State.count_logQueue (s : State) (c : Ctr) (n : Nat) : (s.count c n).logQueue = s.logQueue := rfl
@[simp] theorem State.count_slots (s : State) (c : Ctr) (n : Nat) : (s.count c n).slots = s.slots := rfl
@[simp] theorem State.count_logSeq (s : State) (c : Ctr) (n : Nat) : (s.count c n).logSeq = s.logSeq := rfl
@[simp] theorem State.count_links (s : State) (c : Ctr) (n : Nat) : (s.count c n).links = s.links := rfl
@[simp] theorem State.count_avsCore (s : State) (c : Ctr) (n : Nat) : (s.count c n).avsCore = s.avsCore := rfl
@[simp] theorem State.count_avsLe (s : State) (c : Ctr) (n : Nat) : (s.count c n).avsLe = s.avsLe := rfl
@[simp] theorem State.count_stores (s : State) (c : Ctr) (n : Nat) : (s.count c n).stores = s.stores := rfl
@[simp] theorem State.count_trains (s : State) (c : Ctr) (n : Nat) : (s.count c n).trains = s.trains := rfl
@[simp] theorem State.count_ingress (s : State) (c : Ctr) (n : Nat) : (s.count c n).ingress = s.ingress := rfl
@[simp] theorem State.count_staged (s : State) (c : Ctr) (n : Nat) : (s.count c n).staged = s.staged := rfl
@[simp] theorem State.count_egress (s : State) (c : Ctr) (n : Nat) : (s.count c n).egress = s.egress := rfl
@[simp] theorem State.count_sources (s : State) (c : Ctr) (n : Nat) : (s.count c n).sources = s.sources := rfl
@[simp] theorem State.count_banks (s : State) (c : Ctr) (n : Nat) : (s.count c n).banks = s.banks := rfl
@[simp] theorem State.count_swap (s : State) (c : Ctr) (n : Nat) : (s.count c n).swap = s.swap := rfl
@[simp] theorem State.count_lostTransfers (s : State) (c : Ctr) (n : Nat) : (s.count c n).lostTransfers = s.lostTransfers := rfl
@[simp] theorem State.count_lanes (s : State) (c : Ctr) (n : Nat) : (s.count c n).lanes = s.lanes := rfl
@[simp] theorem State.count_clients (s : State) (c : Ctr) (n : Nat) : (s.count c n).clients = s.clients := rfl
@[simp] theorem State.count_packets (s : State) (c : Ctr) (n : Nat) : (s.count c n).packets = s.packets := rfl
@[simp] theorem State.count_frames (s : State) (c : Ctr) (n : Nat) : (s.count c n).frames = s.frames := rfl
@[simp] theorem State.count_taps (s : State) (c : Ctr) (n : Nat) : (s.count c n).taps = s.taps := rfl
@[simp] theorem State.count_tapsAccepted (s : State) (c : Ctr) (n : Nat) : (s.count c n).tapsAccepted = s.tapsAccepted := rfl
@[simp] theorem State.count_gccs (s : State) (c : Ctr) (n : Nat) : (s.count c n).gccs = s.gccs := rfl
@[simp] theorem State.count_sections (s : State) (c : Ctr) (n : Nat) : (s.count c n).sections = s.sections := rfl
@[simp] theorem State.count_engines (s : State) (c : Ctr) (n : Nat) : (s.count c n).engines = s.engines := rfl
@[simp] theorem State.count_pool (s : State) (c : Ctr) (n : Nat) : (s.count c n).pool = s.pool := rfl
@[simp] theorem State.count_enc (s : State) (c : Ctr) (n : Nat) : (s.count c n).enc = s.enc := rfl
@[simp] theorem State.count_keyJobs (s : State) (c : Ctr) (n : Nat) : (s.count c n).keyJobs = s.keyJobs := rfl
@[simp] theorem State.count_hubs (s : State) (c : Ctr) (n : Nat) : (s.count c n).hubs = s.hubs := rfl
@[simp] theorem State.count_tideScs (s : State) (c : Ctr) (n : Nat) : (s.count c n).tideScs = s.tideScs := rfl
@[simp] theorem State.count_tideLeaves (s : State) (c : Ctr) (n : Nat) : (s.count c n).tideLeaves = s.tideLeaves := rfl
@[simp] theorem State.count_downstream (s : State) (c : Ctr) (n : Nat) : (s.count c n).downstream = s.downstream := rfl
@[simp] theorem State.count_merges (s : State) (c : Ctr) (n : Nat) : (s.count c n).merges = s.merges := rfl
@[simp] theorem State.count_refs (s : State) (c : Ctr) (n : Nat) : (s.count c n).refs = s.refs := rfl
@[simp] theorem State.count_gridPll (s : State) (c : Ctr) (n : Nat) : (s.count c n).gridPll = s.gridPll := rfl
@[simp] theorem State.count_outPll (s : State) (c : Ctr) (n : Nat) : (s.count c n).outPll = s.outPll := rfl
@[simp] theorem State.count_timeSources (s : State) (c : Ctr) (n : Nat) : (s.count c n).timeSources = s.timeSources := rfl
@[simp] theorem State.count_timePll (s : State) (c : Ctr) (n : Nat) : (s.count c n).timePll = s.timePll := rfl
@[simp] theorem State.count_captures (s : State) (c : Ctr) (n : Nat) : (s.count c n).captures = s.captures := rfl
@[simp] theorem State.count_measures (s : State) (c : Ctr) (n : Nat) : (s.count c n).measures = s.measures := rfl
@[simp] theorem State.count_journal (s : State) (c : Ctr) (n : Nat) : (s.count c n).journal = s.journal := rfl
@[simp] theorem State.count_mate (s : State) (c : Ctr) (n : Nat) : (s.count c n).mate = s.mate := rfl
@[simp] theorem State.count_snapshot (s : State) (c : Ctr) (n : Nat) : (s.count c n).snapshot = s.snapshot := rfl
@[simp] theorem State.count_snapshotBefore (s : State) (c : Ctr) (n : Nat) : (s.count c n).snapshotBefore = s.snapshotBefore := rfl
@[simp] theorem State.count_moors (s : State) (c : Ctr) (n : Nat) : (s.count c n).moors = s.moors := rfl
@[simp] theorem State.count_ccUser (s : State) (c : Ctr) (n : Nat) : (s.count c n).ccUser = s.ccUser := rfl
@[simp] theorem State.count_domain (s : State) (c : Ctr) (n : Nat) : (s.count c n).domain = s.domain := rfl
@[simp] theorem State.count_mem (s : State) (c : Ctr) (n : Nat) : (s.count c n).mem = s.mem := rfl
@[simp] theorem State.count_badWords (s : State) (c : Ctr) (n : Nat) : (s.count c n).badWords = s.badWords := rfl
@[simp] theorem State.count_anc (s : State) (c : Ctr) (n : Nat) : (s.count c n).anc = s.anc := rfl
@[simp] theorem State.count_written (s : State) (c : Ctr) (n : Nat) : (s.count c n).written = s.written := rfl
@[simp] theorem State.count_ancBad (s : State) (c : Ctr) (n : Nat) : (s.count c n).ancBad = s.ancBad := rfl
@[simp] theorem State.count_march (s : State) (c : Ctr) (n : Nat) : (s.count c n).march = s.march := rfl
@[simp] theorem State.count_eccHigh (s : State) (c : Ctr) (n : Nat) : (s.count c n).eccHigh = s.eccHigh := rfl
@[simp] theorem State.count_repairColumn (s : State) (c : Ctr) (n : Nat) : (s.count c n).repairColumn = s.repairColumn := rfl
@[simp] theorem State.count_repaired (s : State) (c : Ctr) (n : Nat) : (s.count c n).repaired = s.repaired := rfl
@[simp] theorem State.count_cores (s : State) (c : Ctr) (n : Nat) : (s.count c n).cores = s.cores := rfl
@[simp] theorem State.count_pcie (s : State) (c : Ctr) (n : Nat) : (s.count c n).pcie = s.pcie := rfl
@[simp] theorem State.count_lbPage (s : State) (c : Ctr) (n : Nat) : (s.count c n).lbPage = s.lbPage := rfl
@[simp] theorem State.count_uart (s : State) (c : Ctr) (n : Nat) : (s.count c n).uart = s.uart := rfl
@[simp] theorem State.count_mailbox (s : State) (c : Ctr) (n : Nat) : (s.count c n).mailbox = s.mailbox := rfl
@[simp] theorem State.count_scanning (s : State) (c : Ctr) (n : Nat) : (s.count c n).scanning = s.scanning := rfl
@[simp] theorem State.count_image (s : State) (c : Ctr) (n : Nat) : (s.count c n).image = s.image := rfl
@[simp] theorem State.count_committed (s : State) (c : Ctr) (n : Nat) : (s.count c n).committed = s.committed := rfl
@[simp] theorem State.count_applied (s : State) (c : Ctr) (n : Nat) : (s.count c n).applied = s.applied := rfl
@[simp] theorem State.count_previous (s : State) (c : Ctr) (n : Nat) : (s.count c n).previous = s.previous := rfl
@[simp] theorem State.count_fuses (s : State) (c : Ctr) (n : Nat) : (s.count c n).fuses = s.fuses := rfl
@[simp] theorem State.count_fuseCells (s : State) (c : Ctr) (n : Nat) : (s.count c n).fuseCells = s.fuseCells := rfl
@[simp] theorem State.count_fuseTarget (s : State) (c : Ctr) (n : Nat) : (s.count c n).fuseTarget = s.fuseTarget := rfl
@[simp] theorem State.count_boot (s : State) (c : Ctr) (n : Nat) : (s.count c n).boot = s.boot := rfl
@[simp] theorem State.count_imageJob (s : State) (c : Ctr) (n : Nat) : (s.count c n).imageJob = s.imageJob := rfl
@[simp] theorem State.count_blockResets (s : State) (c : Ctr) (n : Nat) : (s.count c n).blockResets = s.blockResets := rfl
@[simp] theorem State.count_tallies (s : State) (c : Ctr) (n : Nat) : (s.count c n).tallies = s.tallies := rfl
@[simp] theorem State.count_msixWaiting (s : State) (c : Ctr) (n : Nat) : (s.count c n).msixWaiting = s.msixWaiting := rfl
@[simp] theorem State.count_linkUp (s : State) (c : Ctr) (n : Nat) : (s.count c n).linkUp = s.linkUp := rfl
@[simp] theorem State.count_busMaster (s : State) (c : Ctr) (n : Nat) : (s.count c n).busMaster = s.busMaster := rfl
@[simp] theorem State.count_dumpJobs (s : State) (c : Ctr) (n : Nat) : (s.count c n).dumpJobs = s.dumpJobs := rfl
@[simp] theorem State.count_dumpSeqs (s : State) (c : Ctr) (n : Nat) : (s.count c n).dumpSeqs = s.dumpSeqs := rfl
@[simp] theorem State.count_dumpAt (s : State) (c : Ctr) (n : Nat) : (s.count c n).dumpAt = s.dumpAt := rfl
@[simp] theorem State.count_clientSections (s : State) (c : Ctr) (n : Nat) : (s.count c n).clientSections = s.clientSections := rfl
@[simp] theorem State.count_pathSections (s : State) (c : Ctr) (n : Nat) : (s.count c n).pathSections = s.pathSections := rfl
@[simp] theorem State.count_bins (s : State) (c : Ctr) (n : Nat) : (s.count c n).bins = s.bins := rfl
@[simp] theorem State.count_secondAt (s : State) (c : Ctr) (n : Nat) : (s.count c n).secondAt = s.secondAt := rfl
@[simp] theorem State.count_thermal (s : State) (c : Ctr) (n : Nat) : (s.count c n).thermal = s.thermal := rfl

@[simp] theorem State.setTally_pending (s : State) (c i n : Nat) : (s.setTally c i n).pending = s.pending := rfl
@[simp] theorem State.setTally_regs (s : State) (c i n : Nat) : (s.setTally c i n).regs = s.regs := rfl
@[simp] theorem State.setTally_act (s : State) (c i n : Nat) : (s.setTally c i n).act = s.act := rfl
@[simp] theorem State.setTally_ctrs (s : State) (c i n : Nat) : (s.setTally c i n).ctrs = s.ctrs := rfl
@[simp] theorem State.setTally_tick (s : State) (c i n : Nat) : (s.setTally c i n).tick = s.tick := rfl
@[simp] theorem State.setTally_now (s : State) (c i n : Nat) : (s.setTally c i n).now = s.now := rfl
@[simp] theorem State.setTally_free (s : State) (c i n : Nat) : (s.setTally c i n).free = s.free := rfl
@[simp] theorem State.setTally_atBoundary (s : State) (c i n : Nat) : (s.setTally c i n).atBoundary = s.atBoundary := rfl
@[simp] theorem State.setTally_answers (s : State) (c i n : Nat) : (s.setTally c i n).answers = s.answers := rfl
@[simp] theorem State.setTally_outbox (s : State) (c i n : Nat) : (s.setTally c i n).outbox = s.outbox := rfl
@[simp] theorem State.setTally_reports (s : State) (c i n : Nat) : (s.setTally c i n).reports = s.reports := rfl
@[simp] theorem State.setTally_logQueue (s : State) (c i n : Nat) : (s.setTally c i n).logQueue = s.logQueue := rfl
@[simp] theorem State.setTally_slots (s : State) (c i n : Nat) : (s.setTally c i n).slots = s.slots := rfl
@[simp] theorem State.setTally_logSeq (s : State) (c i n : Nat) : (s.setTally c i n).logSeq = s.logSeq := rfl
@[simp] theorem State.setTally_links (s : State) (c i n : Nat) : (s.setTally c i n).links = s.links := rfl
@[simp] theorem State.setTally_avsCore (s : State) (c i n : Nat) : (s.setTally c i n).avsCore = s.avsCore := rfl
@[simp] theorem State.setTally_avsLe (s : State) (c i n : Nat) : (s.setTally c i n).avsLe = s.avsLe := rfl
@[simp] theorem State.setTally_stores (s : State) (c i n : Nat) : (s.setTally c i n).stores = s.stores := rfl
@[simp] theorem State.setTally_trains (s : State) (c i n : Nat) : (s.setTally c i n).trains = s.trains := rfl
@[simp] theorem State.setTally_ingress (s : State) (c i n : Nat) : (s.setTally c i n).ingress = s.ingress := rfl
@[simp] theorem State.setTally_staged (s : State) (c i n : Nat) : (s.setTally c i n).staged = s.staged := rfl
@[simp] theorem State.setTally_egress (s : State) (c i n : Nat) : (s.setTally c i n).egress = s.egress := rfl
@[simp] theorem State.setTally_sources (s : State) (c i n : Nat) : (s.setTally c i n).sources = s.sources := rfl
@[simp] theorem State.setTally_banks (s : State) (c i n : Nat) : (s.setTally c i n).banks = s.banks := rfl
@[simp] theorem State.setTally_swap (s : State) (c i n : Nat) : (s.setTally c i n).swap = s.swap := rfl
@[simp] theorem State.setTally_lostTransfers (s : State) (c i n : Nat) : (s.setTally c i n).lostTransfers = s.lostTransfers := rfl
@[simp] theorem State.setTally_lanes (s : State) (c i n : Nat) : (s.setTally c i n).lanes = s.lanes := rfl
@[simp] theorem State.setTally_clients (s : State) (c i n : Nat) : (s.setTally c i n).clients = s.clients := rfl
@[simp] theorem State.setTally_packets (s : State) (c i n : Nat) : (s.setTally c i n).packets = s.packets := rfl
@[simp] theorem State.setTally_frames (s : State) (c i n : Nat) : (s.setTally c i n).frames = s.frames := rfl
@[simp] theorem State.setTally_taps (s : State) (c i n : Nat) : (s.setTally c i n).taps = s.taps := rfl
@[simp] theorem State.setTally_tapsAccepted (s : State) (c i n : Nat) : (s.setTally c i n).tapsAccepted = s.tapsAccepted := rfl
@[simp] theorem State.setTally_gccs (s : State) (c i n : Nat) : (s.setTally c i n).gccs = s.gccs := rfl
@[simp] theorem State.setTally_sections (s : State) (c i n : Nat) : (s.setTally c i n).sections = s.sections := rfl
@[simp] theorem State.setTally_engines (s : State) (c i n : Nat) : (s.setTally c i n).engines = s.engines := rfl
@[simp] theorem State.setTally_pool (s : State) (c i n : Nat) : (s.setTally c i n).pool = s.pool := rfl
@[simp] theorem State.setTally_enc (s : State) (c i n : Nat) : (s.setTally c i n).enc = s.enc := rfl
@[simp] theorem State.setTally_keyJobs (s : State) (c i n : Nat) : (s.setTally c i n).keyJobs = s.keyJobs := rfl
@[simp] theorem State.setTally_hubs (s : State) (c i n : Nat) : (s.setTally c i n).hubs = s.hubs := rfl
@[simp] theorem State.setTally_tideScs (s : State) (c i n : Nat) : (s.setTally c i n).tideScs = s.tideScs := rfl
@[simp] theorem State.setTally_tideLeaves (s : State) (c i n : Nat) : (s.setTally c i n).tideLeaves = s.tideLeaves := rfl
@[simp] theorem State.setTally_downstream (s : State) (c i n : Nat) : (s.setTally c i n).downstream = s.downstream := rfl
@[simp] theorem State.setTally_merges (s : State) (c i n : Nat) : (s.setTally c i n).merges = s.merges := rfl
@[simp] theorem State.setTally_refs (s : State) (c i n : Nat) : (s.setTally c i n).refs = s.refs := rfl
@[simp] theorem State.setTally_gridPll (s : State) (c i n : Nat) : (s.setTally c i n).gridPll = s.gridPll := rfl
@[simp] theorem State.setTally_outPll (s : State) (c i n : Nat) : (s.setTally c i n).outPll = s.outPll := rfl
@[simp] theorem State.setTally_timeSources (s : State) (c i n : Nat) : (s.setTally c i n).timeSources = s.timeSources := rfl
@[simp] theorem State.setTally_timePll (s : State) (c i n : Nat) : (s.setTally c i n).timePll = s.timePll := rfl
@[simp] theorem State.setTally_captures (s : State) (c i n : Nat) : (s.setTally c i n).captures = s.captures := rfl
@[simp] theorem State.setTally_measures (s : State) (c i n : Nat) : (s.setTally c i n).measures = s.measures := rfl
@[simp] theorem State.setTally_journal (s : State) (c i n : Nat) : (s.setTally c i n).journal = s.journal := rfl
@[simp] theorem State.setTally_mate (s : State) (c i n : Nat) : (s.setTally c i n).mate = s.mate := rfl
@[simp] theorem State.setTally_snapshot (s : State) (c i n : Nat) : (s.setTally c i n).snapshot = s.snapshot := rfl
@[simp] theorem State.setTally_snapshotBefore (s : State) (c i n : Nat) : (s.setTally c i n).snapshotBefore = s.snapshotBefore := rfl
@[simp] theorem State.setTally_moors (s : State) (c i n : Nat) : (s.setTally c i n).moors = s.moors := rfl
@[simp] theorem State.setTally_ccUser (s : State) (c i n : Nat) : (s.setTally c i n).ccUser = s.ccUser := rfl
@[simp] theorem State.setTally_domain (s : State) (c i n : Nat) : (s.setTally c i n).domain = s.domain := rfl
@[simp] theorem State.setTally_mem (s : State) (c i n : Nat) : (s.setTally c i n).mem = s.mem := rfl
@[simp] theorem State.setTally_badWords (s : State) (c i n : Nat) : (s.setTally c i n).badWords = s.badWords := rfl
@[simp] theorem State.setTally_anc (s : State) (c i n : Nat) : (s.setTally c i n).anc = s.anc := rfl
@[simp] theorem State.setTally_written (s : State) (c i n : Nat) : (s.setTally c i n).written = s.written := rfl
@[simp] theorem State.setTally_ancBad (s : State) (c i n : Nat) : (s.setTally c i n).ancBad = s.ancBad := rfl
@[simp] theorem State.setTally_march (s : State) (c i n : Nat) : (s.setTally c i n).march = s.march := rfl
@[simp] theorem State.setTally_eccHigh (s : State) (c i n : Nat) : (s.setTally c i n).eccHigh = s.eccHigh := rfl
@[simp] theorem State.setTally_repairColumn (s : State) (c i n : Nat) : (s.setTally c i n).repairColumn = s.repairColumn := rfl
@[simp] theorem State.setTally_repaired (s : State) (c i n : Nat) : (s.setTally c i n).repaired = s.repaired := rfl
@[simp] theorem State.setTally_cores (s : State) (c i n : Nat) : (s.setTally c i n).cores = s.cores := rfl
@[simp] theorem State.setTally_pcie (s : State) (c i n : Nat) : (s.setTally c i n).pcie = s.pcie := rfl
@[simp] theorem State.setTally_lbPage (s : State) (c i n : Nat) : (s.setTally c i n).lbPage = s.lbPage := rfl
@[simp] theorem State.setTally_uart (s : State) (c i n : Nat) : (s.setTally c i n).uart = s.uart := rfl
@[simp] theorem State.setTally_mailbox (s : State) (c i n : Nat) : (s.setTally c i n).mailbox = s.mailbox := rfl
@[simp] theorem State.setTally_scanning (s : State) (c i n : Nat) : (s.setTally c i n).scanning = s.scanning := rfl
@[simp] theorem State.setTally_image (s : State) (c i n : Nat) : (s.setTally c i n).image = s.image := rfl
@[simp] theorem State.setTally_committed (s : State) (c i n : Nat) : (s.setTally c i n).committed = s.committed := rfl
@[simp] theorem State.setTally_applied (s : State) (c i n : Nat) : (s.setTally c i n).applied = s.applied := rfl
@[simp] theorem State.setTally_previous (s : State) (c i n : Nat) : (s.setTally c i n).previous = s.previous := rfl
@[simp] theorem State.setTally_fuses (s : State) (c i n : Nat) : (s.setTally c i n).fuses = s.fuses := rfl
@[simp] theorem State.setTally_fuseCells (s : State) (c i n : Nat) : (s.setTally c i n).fuseCells = s.fuseCells := rfl
@[simp] theorem State.setTally_fuseTarget (s : State) (c i n : Nat) : (s.setTally c i n).fuseTarget = s.fuseTarget := rfl
@[simp] theorem State.setTally_boot (s : State) (c i n : Nat) : (s.setTally c i n).boot = s.boot := rfl
@[simp] theorem State.setTally_imageJob (s : State) (c i n : Nat) : (s.setTally c i n).imageJob = s.imageJob := rfl
@[simp] theorem State.setTally_blockResets (s : State) (c i n : Nat) : (s.setTally c i n).blockResets = s.blockResets := rfl
@[simp] theorem State.setTally_msixWaiting (s : State) (c i n : Nat) : (s.setTally c i n).msixWaiting = s.msixWaiting := rfl
@[simp] theorem State.setTally_linkUp (s : State) (c i n : Nat) : (s.setTally c i n).linkUp = s.linkUp := rfl
@[simp] theorem State.setTally_busMaster (s : State) (c i n : Nat) : (s.setTally c i n).busMaster = s.busMaster := rfl
@[simp] theorem State.setTally_dumpJobs (s : State) (c i n : Nat) : (s.setTally c i n).dumpJobs = s.dumpJobs := rfl
@[simp] theorem State.setTally_dumpSeqs (s : State) (c i n : Nat) : (s.setTally c i n).dumpSeqs = s.dumpSeqs := rfl
@[simp] theorem State.setTally_dumpAt (s : State) (c i n : Nat) : (s.setTally c i n).dumpAt = s.dumpAt := rfl
@[simp] theorem State.setTally_clientSections (s : State) (c i n : Nat) : (s.setTally c i n).clientSections = s.clientSections := rfl
@[simp] theorem State.setTally_pathSections (s : State) (c i n : Nat) : (s.setTally c i n).pathSections = s.pathSections := rfl
@[simp] theorem State.setTally_bins (s : State) (c i n : Nat) : (s.setTally c i n).bins = s.bins := rfl
@[simp] theorem State.setTally_secondAt (s : State) (c i n : Nat) : (s.setTally c i n).secondAt = s.secondAt := rfl
@[simp] theorem State.setTally_thermal (s : State) (c i n : Nat) : (s.setTally c i n).thermal = s.thermal := rfl

@[simp] theorem State.addTally_pending (s : State) (c i n : Nat) : (s.addTally c i n).pending = s.pending := rfl
@[simp] theorem State.addTally_regs (s : State) (c i n : Nat) : (s.addTally c i n).regs = s.regs := rfl
@[simp] theorem State.addTally_act (s : State) (c i n : Nat) : (s.addTally c i n).act = s.act := rfl
@[simp] theorem State.addTally_ctrs (s : State) (c i n : Nat) : (s.addTally c i n).ctrs = s.ctrs := rfl
@[simp] theorem State.addTally_tick (s : State) (c i n : Nat) : (s.addTally c i n).tick = s.tick := rfl
@[simp] theorem State.addTally_now (s : State) (c i n : Nat) : (s.addTally c i n).now = s.now := rfl
@[simp] theorem State.addTally_free (s : State) (c i n : Nat) : (s.addTally c i n).free = s.free := rfl
@[simp] theorem State.addTally_atBoundary (s : State) (c i n : Nat) : (s.addTally c i n).atBoundary = s.atBoundary := rfl
@[simp] theorem State.addTally_answers (s : State) (c i n : Nat) : (s.addTally c i n).answers = s.answers := rfl
@[simp] theorem State.addTally_outbox (s : State) (c i n : Nat) : (s.addTally c i n).outbox = s.outbox := rfl
@[simp] theorem State.addTally_reports (s : State) (c i n : Nat) : (s.addTally c i n).reports = s.reports := rfl
@[simp] theorem State.addTally_logQueue (s : State) (c i n : Nat) : (s.addTally c i n).logQueue = s.logQueue := rfl
@[simp] theorem State.addTally_slots (s : State) (c i n : Nat) : (s.addTally c i n).slots = s.slots := rfl
@[simp] theorem State.addTally_logSeq (s : State) (c i n : Nat) : (s.addTally c i n).logSeq = s.logSeq := rfl
@[simp] theorem State.addTally_links (s : State) (c i n : Nat) : (s.addTally c i n).links = s.links := rfl
@[simp] theorem State.addTally_avsCore (s : State) (c i n : Nat) : (s.addTally c i n).avsCore = s.avsCore := rfl
@[simp] theorem State.addTally_avsLe (s : State) (c i n : Nat) : (s.addTally c i n).avsLe = s.avsLe := rfl
@[simp] theorem State.addTally_stores (s : State) (c i n : Nat) : (s.addTally c i n).stores = s.stores := rfl
@[simp] theorem State.addTally_trains (s : State) (c i n : Nat) : (s.addTally c i n).trains = s.trains := rfl
@[simp] theorem State.addTally_ingress (s : State) (c i n : Nat) : (s.addTally c i n).ingress = s.ingress := rfl
@[simp] theorem State.addTally_staged (s : State) (c i n : Nat) : (s.addTally c i n).staged = s.staged := rfl
@[simp] theorem State.addTally_egress (s : State) (c i n : Nat) : (s.addTally c i n).egress = s.egress := rfl
@[simp] theorem State.addTally_sources (s : State) (c i n : Nat) : (s.addTally c i n).sources = s.sources := rfl
@[simp] theorem State.addTally_banks (s : State) (c i n : Nat) : (s.addTally c i n).banks = s.banks := rfl
@[simp] theorem State.addTally_swap (s : State) (c i n : Nat) : (s.addTally c i n).swap = s.swap := rfl
@[simp] theorem State.addTally_lostTransfers (s : State) (c i n : Nat) : (s.addTally c i n).lostTransfers = s.lostTransfers := rfl
@[simp] theorem State.addTally_lanes (s : State) (c i n : Nat) : (s.addTally c i n).lanes = s.lanes := rfl
@[simp] theorem State.addTally_clients (s : State) (c i n : Nat) : (s.addTally c i n).clients = s.clients := rfl
@[simp] theorem State.addTally_packets (s : State) (c i n : Nat) : (s.addTally c i n).packets = s.packets := rfl
@[simp] theorem State.addTally_frames (s : State) (c i n : Nat) : (s.addTally c i n).frames = s.frames := rfl
@[simp] theorem State.addTally_taps (s : State) (c i n : Nat) : (s.addTally c i n).taps = s.taps := rfl
@[simp] theorem State.addTally_tapsAccepted (s : State) (c i n : Nat) : (s.addTally c i n).tapsAccepted = s.tapsAccepted := rfl
@[simp] theorem State.addTally_gccs (s : State) (c i n : Nat) : (s.addTally c i n).gccs = s.gccs := rfl
@[simp] theorem State.addTally_sections (s : State) (c i n : Nat) : (s.addTally c i n).sections = s.sections := rfl
@[simp] theorem State.addTally_engines (s : State) (c i n : Nat) : (s.addTally c i n).engines = s.engines := rfl
@[simp] theorem State.addTally_pool (s : State) (c i n : Nat) : (s.addTally c i n).pool = s.pool := rfl
@[simp] theorem State.addTally_enc (s : State) (c i n : Nat) : (s.addTally c i n).enc = s.enc := rfl
@[simp] theorem State.addTally_keyJobs (s : State) (c i n : Nat) : (s.addTally c i n).keyJobs = s.keyJobs := rfl
@[simp] theorem State.addTally_hubs (s : State) (c i n : Nat) : (s.addTally c i n).hubs = s.hubs := rfl
@[simp] theorem State.addTally_tideScs (s : State) (c i n : Nat) : (s.addTally c i n).tideScs = s.tideScs := rfl
@[simp] theorem State.addTally_tideLeaves (s : State) (c i n : Nat) : (s.addTally c i n).tideLeaves = s.tideLeaves := rfl
@[simp] theorem State.addTally_downstream (s : State) (c i n : Nat) : (s.addTally c i n).downstream = s.downstream := rfl
@[simp] theorem State.addTally_merges (s : State) (c i n : Nat) : (s.addTally c i n).merges = s.merges := rfl
@[simp] theorem State.addTally_refs (s : State) (c i n : Nat) : (s.addTally c i n).refs = s.refs := rfl
@[simp] theorem State.addTally_gridPll (s : State) (c i n : Nat) : (s.addTally c i n).gridPll = s.gridPll := rfl
@[simp] theorem State.addTally_outPll (s : State) (c i n : Nat) : (s.addTally c i n).outPll = s.outPll := rfl
@[simp] theorem State.addTally_timeSources (s : State) (c i n : Nat) : (s.addTally c i n).timeSources = s.timeSources := rfl
@[simp] theorem State.addTally_timePll (s : State) (c i n : Nat) : (s.addTally c i n).timePll = s.timePll := rfl
@[simp] theorem State.addTally_captures (s : State) (c i n : Nat) : (s.addTally c i n).captures = s.captures := rfl
@[simp] theorem State.addTally_measures (s : State) (c i n : Nat) : (s.addTally c i n).measures = s.measures := rfl
@[simp] theorem State.addTally_journal (s : State) (c i n : Nat) : (s.addTally c i n).journal = s.journal := rfl
@[simp] theorem State.addTally_mate (s : State) (c i n : Nat) : (s.addTally c i n).mate = s.mate := rfl
@[simp] theorem State.addTally_snapshot (s : State) (c i n : Nat) : (s.addTally c i n).snapshot = s.snapshot := rfl
@[simp] theorem State.addTally_snapshotBefore (s : State) (c i n : Nat) : (s.addTally c i n).snapshotBefore = s.snapshotBefore := rfl
@[simp] theorem State.addTally_moors (s : State) (c i n : Nat) : (s.addTally c i n).moors = s.moors := rfl
@[simp] theorem State.addTally_ccUser (s : State) (c i n : Nat) : (s.addTally c i n).ccUser = s.ccUser := rfl
@[simp] theorem State.addTally_domain (s : State) (c i n : Nat) : (s.addTally c i n).domain = s.domain := rfl
@[simp] theorem State.addTally_mem (s : State) (c i n : Nat) : (s.addTally c i n).mem = s.mem := rfl
@[simp] theorem State.addTally_badWords (s : State) (c i n : Nat) : (s.addTally c i n).badWords = s.badWords := rfl
@[simp] theorem State.addTally_anc (s : State) (c i n : Nat) : (s.addTally c i n).anc = s.anc := rfl
@[simp] theorem State.addTally_written (s : State) (c i n : Nat) : (s.addTally c i n).written = s.written := rfl
@[simp] theorem State.addTally_ancBad (s : State) (c i n : Nat) : (s.addTally c i n).ancBad = s.ancBad := rfl
@[simp] theorem State.addTally_march (s : State) (c i n : Nat) : (s.addTally c i n).march = s.march := rfl
@[simp] theorem State.addTally_eccHigh (s : State) (c i n : Nat) : (s.addTally c i n).eccHigh = s.eccHigh := rfl
@[simp] theorem State.addTally_repairColumn (s : State) (c i n : Nat) : (s.addTally c i n).repairColumn = s.repairColumn := rfl
@[simp] theorem State.addTally_repaired (s : State) (c i n : Nat) : (s.addTally c i n).repaired = s.repaired := rfl
@[simp] theorem State.addTally_cores (s : State) (c i n : Nat) : (s.addTally c i n).cores = s.cores := rfl
@[simp] theorem State.addTally_pcie (s : State) (c i n : Nat) : (s.addTally c i n).pcie = s.pcie := rfl
@[simp] theorem State.addTally_lbPage (s : State) (c i n : Nat) : (s.addTally c i n).lbPage = s.lbPage := rfl
@[simp] theorem State.addTally_uart (s : State) (c i n : Nat) : (s.addTally c i n).uart = s.uart := rfl
@[simp] theorem State.addTally_mailbox (s : State) (c i n : Nat) : (s.addTally c i n).mailbox = s.mailbox := rfl
@[simp] theorem State.addTally_scanning (s : State) (c i n : Nat) : (s.addTally c i n).scanning = s.scanning := rfl
@[simp] theorem State.addTally_image (s : State) (c i n : Nat) : (s.addTally c i n).image = s.image := rfl
@[simp] theorem State.addTally_committed (s : State) (c i n : Nat) : (s.addTally c i n).committed = s.committed := rfl
@[simp] theorem State.addTally_applied (s : State) (c i n : Nat) : (s.addTally c i n).applied = s.applied := rfl
@[simp] theorem State.addTally_previous (s : State) (c i n : Nat) : (s.addTally c i n).previous = s.previous := rfl
@[simp] theorem State.addTally_fuses (s : State) (c i n : Nat) : (s.addTally c i n).fuses = s.fuses := rfl
@[simp] theorem State.addTally_fuseCells (s : State) (c i n : Nat) : (s.addTally c i n).fuseCells = s.fuseCells := rfl
@[simp] theorem State.addTally_fuseTarget (s : State) (c i n : Nat) : (s.addTally c i n).fuseTarget = s.fuseTarget := rfl
@[simp] theorem State.addTally_boot (s : State) (c i n : Nat) : (s.addTally c i n).boot = s.boot := rfl
@[simp] theorem State.addTally_imageJob (s : State) (c i n : Nat) : (s.addTally c i n).imageJob = s.imageJob := rfl
@[simp] theorem State.addTally_blockResets (s : State) (c i n : Nat) : (s.addTally c i n).blockResets = s.blockResets := rfl
@[simp] theorem State.addTally_msixWaiting (s : State) (c i n : Nat) : (s.addTally c i n).msixWaiting = s.msixWaiting := rfl
@[simp] theorem State.addTally_linkUp (s : State) (c i n : Nat) : (s.addTally c i n).linkUp = s.linkUp := rfl
@[simp] theorem State.addTally_busMaster (s : State) (c i n : Nat) : (s.addTally c i n).busMaster = s.busMaster := rfl
@[simp] theorem State.addTally_dumpJobs (s : State) (c i n : Nat) : (s.addTally c i n).dumpJobs = s.dumpJobs := rfl
@[simp] theorem State.addTally_dumpSeqs (s : State) (c i n : Nat) : (s.addTally c i n).dumpSeqs = s.dumpSeqs := rfl
@[simp] theorem State.addTally_dumpAt (s : State) (c i n : Nat) : (s.addTally c i n).dumpAt = s.dumpAt := rfl
@[simp] theorem State.addTally_clientSections (s : State) (c i n : Nat) : (s.addTally c i n).clientSections = s.clientSections := rfl
@[simp] theorem State.addTally_pathSections (s : State) (c i n : Nat) : (s.addTally c i n).pathSections = s.pathSections := rfl
@[simp] theorem State.addTally_bins (s : State) (c i n : Nat) : (s.addTally c i n).bins = s.bins := rfl
@[simp] theorem State.addTally_secondAt (s : State) (c i n : Nat) : (s.addTally c i n).secondAt = s.secondAt := rfl
@[simp] theorem State.addTally_thermal (s : State) (c i n : Nat) : (s.addTally c i n).thermal = s.thermal := rfl

@[simp] theorem State.setAnswer_pending (s : State) (i : Nat) (a : Answer) : (s.setAnswer i a).pending = s.pending := rfl
@[simp] theorem State.setAnswer_regs (s : State) (i : Nat) (a : Answer) : (s.setAnswer i a).regs = s.regs := rfl
@[simp] theorem State.setAnswer_act (s : State) (i : Nat) (a : Answer) : (s.setAnswer i a).act = s.act := rfl
@[simp] theorem State.setAnswer_ctrs (s : State) (i : Nat) (a : Answer) : (s.setAnswer i a).ctrs = s.ctrs := rfl
@[simp] theorem State.setAnswer_tick (s : State) (i : Nat) (a : Answer) : (s.setAnswer i a).tick = s.tick := rfl
@[simp] theorem State.setAnswer_now (s : State) (i : Nat) (a : Answer) : (s.setAnswer i a).now = s.now := rfl
@[simp] theorem State.setAnswer_free (s : State) (i : Nat) (a : Answer) : (s.setAnswer i a).free = s.free := rfl
@[simp] theorem State.setAnswer_atBoundary (s : State) (i : Nat) (a : Answer) : (s.setAnswer i a).atBoundary = s.atBoundary := rfl
@[simp] theorem State.setAnswer_outbox (s : State) (i : Nat) (a : Answer) : (s.setAnswer i a).outbox = s.outbox := rfl
@[simp] theorem State.setAnswer_reports (s : State) (i : Nat) (a : Answer) : (s.setAnswer i a).reports = s.reports := rfl
@[simp] theorem State.setAnswer_logQueue (s : State) (i : Nat) (a : Answer) : (s.setAnswer i a).logQueue = s.logQueue := rfl
@[simp] theorem State.setAnswer_slots (s : State) (i : Nat) (a : Answer) : (s.setAnswer i a).slots = s.slots := rfl
@[simp] theorem State.setAnswer_logSeq (s : State) (i : Nat) (a : Answer) : (s.setAnswer i a).logSeq = s.logSeq := rfl
@[simp] theorem State.setAnswer_links (s : State) (i : Nat) (a : Answer) : (s.setAnswer i a).links = s.links := rfl
@[simp] theorem State.setAnswer_avsCore (s : State) (i : Nat) (a : Answer) : (s.setAnswer i a).avsCore = s.avsCore := rfl
@[simp] theorem State.setAnswer_avsLe (s : State) (i : Nat) (a : Answer) : (s.setAnswer i a).avsLe = s.avsLe := rfl
@[simp] theorem State.setAnswer_stores (s : State) (i : Nat) (a : Answer) : (s.setAnswer i a).stores = s.stores := rfl
@[simp] theorem State.setAnswer_trains (s : State) (i : Nat) (a : Answer) : (s.setAnswer i a).trains = s.trains := rfl
@[simp] theorem State.setAnswer_ingress (s : State) (i : Nat) (a : Answer) : (s.setAnswer i a).ingress = s.ingress := rfl
@[simp] theorem State.setAnswer_staged (s : State) (i : Nat) (a : Answer) : (s.setAnswer i a).staged = s.staged := rfl
@[simp] theorem State.setAnswer_egress (s : State) (i : Nat) (a : Answer) : (s.setAnswer i a).egress = s.egress := rfl
@[simp] theorem State.setAnswer_sources (s : State) (i : Nat) (a : Answer) : (s.setAnswer i a).sources = s.sources := rfl
@[simp] theorem State.setAnswer_banks (s : State) (i : Nat) (a : Answer) : (s.setAnswer i a).banks = s.banks := rfl
@[simp] theorem State.setAnswer_swap (s : State) (i : Nat) (a : Answer) : (s.setAnswer i a).swap = s.swap := rfl
@[simp] theorem State.setAnswer_lostTransfers (s : State) (i : Nat) (a : Answer) : (s.setAnswer i a).lostTransfers = s.lostTransfers := rfl
@[simp] theorem State.setAnswer_lanes (s : State) (i : Nat) (a : Answer) : (s.setAnswer i a).lanes = s.lanes := rfl
@[simp] theorem State.setAnswer_clients (s : State) (i : Nat) (a : Answer) : (s.setAnswer i a).clients = s.clients := rfl
@[simp] theorem State.setAnswer_packets (s : State) (i : Nat) (a : Answer) : (s.setAnswer i a).packets = s.packets := rfl
@[simp] theorem State.setAnswer_frames (s : State) (i : Nat) (a : Answer) : (s.setAnswer i a).frames = s.frames := rfl
@[simp] theorem State.setAnswer_taps (s : State) (i : Nat) (a : Answer) : (s.setAnswer i a).taps = s.taps := rfl
@[simp] theorem State.setAnswer_tapsAccepted (s : State) (i : Nat) (a : Answer) : (s.setAnswer i a).tapsAccepted = s.tapsAccepted := rfl
@[simp] theorem State.setAnswer_gccs (s : State) (i : Nat) (a : Answer) : (s.setAnswer i a).gccs = s.gccs := rfl
@[simp] theorem State.setAnswer_sections (s : State) (i : Nat) (a : Answer) : (s.setAnswer i a).sections = s.sections := rfl
@[simp] theorem State.setAnswer_engines (s : State) (i : Nat) (a : Answer) : (s.setAnswer i a).engines = s.engines := rfl
@[simp] theorem State.setAnswer_pool (s : State) (i : Nat) (a : Answer) : (s.setAnswer i a).pool = s.pool := rfl
@[simp] theorem State.setAnswer_enc (s : State) (i : Nat) (a : Answer) : (s.setAnswer i a).enc = s.enc := rfl
@[simp] theorem State.setAnswer_keyJobs (s : State) (i : Nat) (a : Answer) : (s.setAnswer i a).keyJobs = s.keyJobs := rfl
@[simp] theorem State.setAnswer_hubs (s : State) (i : Nat) (a : Answer) : (s.setAnswer i a).hubs = s.hubs := rfl
@[simp] theorem State.setAnswer_tideScs (s : State) (i : Nat) (a : Answer) : (s.setAnswer i a).tideScs = s.tideScs := rfl
@[simp] theorem State.setAnswer_tideLeaves (s : State) (i : Nat) (a : Answer) : (s.setAnswer i a).tideLeaves = s.tideLeaves := rfl
@[simp] theorem State.setAnswer_downstream (s : State) (i : Nat) (a : Answer) : (s.setAnswer i a).downstream = s.downstream := rfl
@[simp] theorem State.setAnswer_merges (s : State) (i : Nat) (a : Answer) : (s.setAnswer i a).merges = s.merges := rfl
@[simp] theorem State.setAnswer_refs (s : State) (i : Nat) (a : Answer) : (s.setAnswer i a).refs = s.refs := rfl
@[simp] theorem State.setAnswer_gridPll (s : State) (i : Nat) (a : Answer) : (s.setAnswer i a).gridPll = s.gridPll := rfl
@[simp] theorem State.setAnswer_outPll (s : State) (i : Nat) (a : Answer) : (s.setAnswer i a).outPll = s.outPll := rfl
@[simp] theorem State.setAnswer_timeSources (s : State) (i : Nat) (a : Answer) : (s.setAnswer i a).timeSources = s.timeSources := rfl
@[simp] theorem State.setAnswer_timePll (s : State) (i : Nat) (a : Answer) : (s.setAnswer i a).timePll = s.timePll := rfl
@[simp] theorem State.setAnswer_captures (s : State) (i : Nat) (a : Answer) : (s.setAnswer i a).captures = s.captures := rfl
@[simp] theorem State.setAnswer_measures (s : State) (i : Nat) (a : Answer) : (s.setAnswer i a).measures = s.measures := rfl
@[simp] theorem State.setAnswer_journal (s : State) (i : Nat) (a : Answer) : (s.setAnswer i a).journal = s.journal := rfl
@[simp] theorem State.setAnswer_mate (s : State) (i : Nat) (a : Answer) : (s.setAnswer i a).mate = s.mate := rfl
@[simp] theorem State.setAnswer_snapshot (s : State) (i : Nat) (a : Answer) : (s.setAnswer i a).snapshot = s.snapshot := rfl
@[simp] theorem State.setAnswer_snapshotBefore (s : State) (i : Nat) (a : Answer) : (s.setAnswer i a).snapshotBefore = s.snapshotBefore := rfl
@[simp] theorem State.setAnswer_moors (s : State) (i : Nat) (a : Answer) : (s.setAnswer i a).moors = s.moors := rfl
@[simp] theorem State.setAnswer_ccUser (s : State) (i : Nat) (a : Answer) : (s.setAnswer i a).ccUser = s.ccUser := rfl
@[simp] theorem State.setAnswer_domain (s : State) (i : Nat) (a : Answer) : (s.setAnswer i a).domain = s.domain := rfl
@[simp] theorem State.setAnswer_mem (s : State) (i : Nat) (a : Answer) : (s.setAnswer i a).mem = s.mem := rfl
@[simp] theorem State.setAnswer_badWords (s : State) (i : Nat) (a : Answer) : (s.setAnswer i a).badWords = s.badWords := rfl
@[simp] theorem State.setAnswer_anc (s : State) (i : Nat) (a : Answer) : (s.setAnswer i a).anc = s.anc := rfl
@[simp] theorem State.setAnswer_written (s : State) (i : Nat) (a : Answer) : (s.setAnswer i a).written = s.written := rfl
@[simp] theorem State.setAnswer_ancBad (s : State) (i : Nat) (a : Answer) : (s.setAnswer i a).ancBad = s.ancBad := rfl
@[simp] theorem State.setAnswer_march (s : State) (i : Nat) (a : Answer) : (s.setAnswer i a).march = s.march := rfl
@[simp] theorem State.setAnswer_eccHigh (s : State) (i : Nat) (a : Answer) : (s.setAnswer i a).eccHigh = s.eccHigh := rfl
@[simp] theorem State.setAnswer_repairColumn (s : State) (i : Nat) (a : Answer) : (s.setAnswer i a).repairColumn = s.repairColumn := rfl
@[simp] theorem State.setAnswer_repaired (s : State) (i : Nat) (a : Answer) : (s.setAnswer i a).repaired = s.repaired := rfl
@[simp] theorem State.setAnswer_cores (s : State) (i : Nat) (a : Answer) : (s.setAnswer i a).cores = s.cores := rfl
@[simp] theorem State.setAnswer_pcie (s : State) (i : Nat) (a : Answer) : (s.setAnswer i a).pcie = s.pcie := rfl
@[simp] theorem State.setAnswer_lbPage (s : State) (i : Nat) (a : Answer) : (s.setAnswer i a).lbPage = s.lbPage := rfl
@[simp] theorem State.setAnswer_uart (s : State) (i : Nat) (a : Answer) : (s.setAnswer i a).uart = s.uart := rfl
@[simp] theorem State.setAnswer_mailbox (s : State) (i : Nat) (a : Answer) : (s.setAnswer i a).mailbox = s.mailbox := rfl
@[simp] theorem State.setAnswer_scanning (s : State) (i : Nat) (a : Answer) : (s.setAnswer i a).scanning = s.scanning := rfl
@[simp] theorem State.setAnswer_image (s : State) (i : Nat) (a : Answer) : (s.setAnswer i a).image = s.image := rfl
@[simp] theorem State.setAnswer_committed (s : State) (i : Nat) (a : Answer) : (s.setAnswer i a).committed = s.committed := rfl
@[simp] theorem State.setAnswer_applied (s : State) (i : Nat) (a : Answer) : (s.setAnswer i a).applied = s.applied := rfl
@[simp] theorem State.setAnswer_previous (s : State) (i : Nat) (a : Answer) : (s.setAnswer i a).previous = s.previous := rfl
@[simp] theorem State.setAnswer_fuses (s : State) (i : Nat) (a : Answer) : (s.setAnswer i a).fuses = s.fuses := rfl
@[simp] theorem State.setAnswer_fuseCells (s : State) (i : Nat) (a : Answer) : (s.setAnswer i a).fuseCells = s.fuseCells := rfl
@[simp] theorem State.setAnswer_fuseTarget (s : State) (i : Nat) (a : Answer) : (s.setAnswer i a).fuseTarget = s.fuseTarget := rfl
@[simp] theorem State.setAnswer_boot (s : State) (i : Nat) (a : Answer) : (s.setAnswer i a).boot = s.boot := rfl
@[simp] theorem State.setAnswer_imageJob (s : State) (i : Nat) (a : Answer) : (s.setAnswer i a).imageJob = s.imageJob := rfl
@[simp] theorem State.setAnswer_blockResets (s : State) (i : Nat) (a : Answer) : (s.setAnswer i a).blockResets = s.blockResets := rfl
@[simp] theorem State.setAnswer_tallies (s : State) (i : Nat) (a : Answer) : (s.setAnswer i a).tallies = s.tallies := rfl
@[simp] theorem State.setAnswer_msixWaiting (s : State) (i : Nat) (a : Answer) : (s.setAnswer i a).msixWaiting = s.msixWaiting := rfl
@[simp] theorem State.setAnswer_linkUp (s : State) (i : Nat) (a : Answer) : (s.setAnswer i a).linkUp = s.linkUp := rfl
@[simp] theorem State.setAnswer_busMaster (s : State) (i : Nat) (a : Answer) : (s.setAnswer i a).busMaster = s.busMaster := rfl
@[simp] theorem State.setAnswer_dumpJobs (s : State) (i : Nat) (a : Answer) : (s.setAnswer i a).dumpJobs = s.dumpJobs := rfl
@[simp] theorem State.setAnswer_dumpSeqs (s : State) (i : Nat) (a : Answer) : (s.setAnswer i a).dumpSeqs = s.dumpSeqs := rfl
@[simp] theorem State.setAnswer_dumpAt (s : State) (i : Nat) (a : Answer) : (s.setAnswer i a).dumpAt = s.dumpAt := rfl
@[simp] theorem State.setAnswer_clientSections (s : State) (i : Nat) (a : Answer) : (s.setAnswer i a).clientSections = s.clientSections := rfl
@[simp] theorem State.setAnswer_pathSections (s : State) (i : Nat) (a : Answer) : (s.setAnswer i a).pathSections = s.pathSections := rfl
@[simp] theorem State.setAnswer_bins (s : State) (i : Nat) (a : Answer) : (s.setAnswer i a).bins = s.bins := rfl
@[simp] theorem State.setAnswer_secondAt (s : State) (i : Nat) (a : Answer) : (s.setAnswer i a).secondAt = s.secondAt := rfl
@[simp] theorem State.setAnswer_thermal (s : State) (i : Nat) (a : Answer) : (s.setAnswer i a).thermal = s.thermal := rfl

@[simp] theorem State.reply_pending (s : State) (m : Initiator) (a : Answer) : (s.reply m a).pending = s.pending := rfl
@[simp] theorem State.reply_regs (s : State) (m : Initiator) (a : Answer) : (s.reply m a).regs = s.regs := rfl
@[simp] theorem State.reply_act (s : State) (m : Initiator) (a : Answer) : (s.reply m a).act = s.act := rfl
@[simp] theorem State.reply_ctrs (s : State) (m : Initiator) (a : Answer) : (s.reply m a).ctrs = s.ctrs := rfl
@[simp] theorem State.reply_tick (s : State) (m : Initiator) (a : Answer) : (s.reply m a).tick = s.tick := rfl
@[simp] theorem State.reply_now (s : State) (m : Initiator) (a : Answer) : (s.reply m a).now = s.now := rfl
@[simp] theorem State.reply_free (s : State) (m : Initiator) (a : Answer) : (s.reply m a).free = s.free := rfl
@[simp] theorem State.reply_atBoundary (s : State) (m : Initiator) (a : Answer) : (s.reply m a).atBoundary = s.atBoundary := rfl
@[simp] theorem State.reply_outbox (s : State) (m : Initiator) (a : Answer) : (s.reply m a).outbox = s.outbox := rfl
@[simp] theorem State.reply_reports (s : State) (m : Initiator) (a : Answer) : (s.reply m a).reports = s.reports := rfl
@[simp] theorem State.reply_logQueue (s : State) (m : Initiator) (a : Answer) : (s.reply m a).logQueue = s.logQueue := rfl
@[simp] theorem State.reply_slots (s : State) (m : Initiator) (a : Answer) : (s.reply m a).slots = s.slots := rfl
@[simp] theorem State.reply_logSeq (s : State) (m : Initiator) (a : Answer) : (s.reply m a).logSeq = s.logSeq := rfl
@[simp] theorem State.reply_links (s : State) (m : Initiator) (a : Answer) : (s.reply m a).links = s.links := rfl
@[simp] theorem State.reply_avsCore (s : State) (m : Initiator) (a : Answer) : (s.reply m a).avsCore = s.avsCore := rfl
@[simp] theorem State.reply_avsLe (s : State) (m : Initiator) (a : Answer) : (s.reply m a).avsLe = s.avsLe := rfl
@[simp] theorem State.reply_stores (s : State) (m : Initiator) (a : Answer) : (s.reply m a).stores = s.stores := rfl
@[simp] theorem State.reply_trains (s : State) (m : Initiator) (a : Answer) : (s.reply m a).trains = s.trains := rfl
@[simp] theorem State.reply_ingress (s : State) (m : Initiator) (a : Answer) : (s.reply m a).ingress = s.ingress := rfl
@[simp] theorem State.reply_staged (s : State) (m : Initiator) (a : Answer) : (s.reply m a).staged = s.staged := rfl
@[simp] theorem State.reply_egress (s : State) (m : Initiator) (a : Answer) : (s.reply m a).egress = s.egress := rfl
@[simp] theorem State.reply_sources (s : State) (m : Initiator) (a : Answer) : (s.reply m a).sources = s.sources := rfl
@[simp] theorem State.reply_banks (s : State) (m : Initiator) (a : Answer) : (s.reply m a).banks = s.banks := rfl
@[simp] theorem State.reply_swap (s : State) (m : Initiator) (a : Answer) : (s.reply m a).swap = s.swap := rfl
@[simp] theorem State.reply_lostTransfers (s : State) (m : Initiator) (a : Answer) : (s.reply m a).lostTransfers = s.lostTransfers := rfl
@[simp] theorem State.reply_lanes (s : State) (m : Initiator) (a : Answer) : (s.reply m a).lanes = s.lanes := rfl
@[simp] theorem State.reply_clients (s : State) (m : Initiator) (a : Answer) : (s.reply m a).clients = s.clients := rfl
@[simp] theorem State.reply_packets (s : State) (m : Initiator) (a : Answer) : (s.reply m a).packets = s.packets := rfl
@[simp] theorem State.reply_frames (s : State) (m : Initiator) (a : Answer) : (s.reply m a).frames = s.frames := rfl
@[simp] theorem State.reply_taps (s : State) (m : Initiator) (a : Answer) : (s.reply m a).taps = s.taps := rfl
@[simp] theorem State.reply_tapsAccepted (s : State) (m : Initiator) (a : Answer) : (s.reply m a).tapsAccepted = s.tapsAccepted := rfl
@[simp] theorem State.reply_gccs (s : State) (m : Initiator) (a : Answer) : (s.reply m a).gccs = s.gccs := rfl
@[simp] theorem State.reply_sections (s : State) (m : Initiator) (a : Answer) : (s.reply m a).sections = s.sections := rfl
@[simp] theorem State.reply_engines (s : State) (m : Initiator) (a : Answer) : (s.reply m a).engines = s.engines := rfl
@[simp] theorem State.reply_pool (s : State) (m : Initiator) (a : Answer) : (s.reply m a).pool = s.pool := rfl
@[simp] theorem State.reply_enc (s : State) (m : Initiator) (a : Answer) : (s.reply m a).enc = s.enc := rfl
@[simp] theorem State.reply_keyJobs (s : State) (m : Initiator) (a : Answer) : (s.reply m a).keyJobs = s.keyJobs := rfl
@[simp] theorem State.reply_hubs (s : State) (m : Initiator) (a : Answer) : (s.reply m a).hubs = s.hubs := rfl
@[simp] theorem State.reply_tideScs (s : State) (m : Initiator) (a : Answer) : (s.reply m a).tideScs = s.tideScs := rfl
@[simp] theorem State.reply_tideLeaves (s : State) (m : Initiator) (a : Answer) : (s.reply m a).tideLeaves = s.tideLeaves := rfl
@[simp] theorem State.reply_downstream (s : State) (m : Initiator) (a : Answer) : (s.reply m a).downstream = s.downstream := rfl
@[simp] theorem State.reply_merges (s : State) (m : Initiator) (a : Answer) : (s.reply m a).merges = s.merges := rfl
@[simp] theorem State.reply_refs (s : State) (m : Initiator) (a : Answer) : (s.reply m a).refs = s.refs := rfl
@[simp] theorem State.reply_gridPll (s : State) (m : Initiator) (a : Answer) : (s.reply m a).gridPll = s.gridPll := rfl
@[simp] theorem State.reply_outPll (s : State) (m : Initiator) (a : Answer) : (s.reply m a).outPll = s.outPll := rfl
@[simp] theorem State.reply_timeSources (s : State) (m : Initiator) (a : Answer) : (s.reply m a).timeSources = s.timeSources := rfl
@[simp] theorem State.reply_timePll (s : State) (m : Initiator) (a : Answer) : (s.reply m a).timePll = s.timePll := rfl
@[simp] theorem State.reply_captures (s : State) (m : Initiator) (a : Answer) : (s.reply m a).captures = s.captures := rfl
@[simp] theorem State.reply_measures (s : State) (m : Initiator) (a : Answer) : (s.reply m a).measures = s.measures := rfl
@[simp] theorem State.reply_journal (s : State) (m : Initiator) (a : Answer) : (s.reply m a).journal = s.journal := rfl
@[simp] theorem State.reply_mate (s : State) (m : Initiator) (a : Answer) : (s.reply m a).mate = s.mate := rfl
@[simp] theorem State.reply_snapshot (s : State) (m : Initiator) (a : Answer) : (s.reply m a).snapshot = s.snapshot := rfl
@[simp] theorem State.reply_snapshotBefore (s : State) (m : Initiator) (a : Answer) : (s.reply m a).snapshotBefore = s.snapshotBefore := rfl
@[simp] theorem State.reply_moors (s : State) (m : Initiator) (a : Answer) : (s.reply m a).moors = s.moors := rfl
@[simp] theorem State.reply_ccUser (s : State) (m : Initiator) (a : Answer) : (s.reply m a).ccUser = s.ccUser := rfl
@[simp] theorem State.reply_domain (s : State) (m : Initiator) (a : Answer) : (s.reply m a).domain = s.domain := rfl
@[simp] theorem State.reply_mem (s : State) (m : Initiator) (a : Answer) : (s.reply m a).mem = s.mem := rfl
@[simp] theorem State.reply_badWords (s : State) (m : Initiator) (a : Answer) : (s.reply m a).badWords = s.badWords := rfl
@[simp] theorem State.reply_anc (s : State) (m : Initiator) (a : Answer) : (s.reply m a).anc = s.anc := rfl
@[simp] theorem State.reply_written (s : State) (m : Initiator) (a : Answer) : (s.reply m a).written = s.written := rfl
@[simp] theorem State.reply_ancBad (s : State) (m : Initiator) (a : Answer) : (s.reply m a).ancBad = s.ancBad := rfl
@[simp] theorem State.reply_march (s : State) (m : Initiator) (a : Answer) : (s.reply m a).march = s.march := rfl
@[simp] theorem State.reply_eccHigh (s : State) (m : Initiator) (a : Answer) : (s.reply m a).eccHigh = s.eccHigh := rfl
@[simp] theorem State.reply_repairColumn (s : State) (m : Initiator) (a : Answer) : (s.reply m a).repairColumn = s.repairColumn := rfl
@[simp] theorem State.reply_repaired (s : State) (m : Initiator) (a : Answer) : (s.reply m a).repaired = s.repaired := rfl
@[simp] theorem State.reply_cores (s : State) (m : Initiator) (a : Answer) : (s.reply m a).cores = s.cores := rfl
@[simp] theorem State.reply_pcie (s : State) (m : Initiator) (a : Answer) : (s.reply m a).pcie = s.pcie := rfl
@[simp] theorem State.reply_lbPage (s : State) (m : Initiator) (a : Answer) : (s.reply m a).lbPage = s.lbPage := rfl
@[simp] theorem State.reply_uart (s : State) (m : Initiator) (a : Answer) : (s.reply m a).uart = s.uart := rfl
@[simp] theorem State.reply_mailbox (s : State) (m : Initiator) (a : Answer) : (s.reply m a).mailbox = s.mailbox := rfl
@[simp] theorem State.reply_scanning (s : State) (m : Initiator) (a : Answer) : (s.reply m a).scanning = s.scanning := rfl
@[simp] theorem State.reply_image (s : State) (m : Initiator) (a : Answer) : (s.reply m a).image = s.image := rfl
@[simp] theorem State.reply_committed (s : State) (m : Initiator) (a : Answer) : (s.reply m a).committed = s.committed := rfl
@[simp] theorem State.reply_applied (s : State) (m : Initiator) (a : Answer) : (s.reply m a).applied = s.applied := rfl
@[simp] theorem State.reply_previous (s : State) (m : Initiator) (a : Answer) : (s.reply m a).previous = s.previous := rfl
@[simp] theorem State.reply_fuses (s : State) (m : Initiator) (a : Answer) : (s.reply m a).fuses = s.fuses := rfl
@[simp] theorem State.reply_fuseCells (s : State) (m : Initiator) (a : Answer) : (s.reply m a).fuseCells = s.fuseCells := rfl
@[simp] theorem State.reply_fuseTarget (s : State) (m : Initiator) (a : Answer) : (s.reply m a).fuseTarget = s.fuseTarget := rfl
@[simp] theorem State.reply_boot (s : State) (m : Initiator) (a : Answer) : (s.reply m a).boot = s.boot := rfl
@[simp] theorem State.reply_imageJob (s : State) (m : Initiator) (a : Answer) : (s.reply m a).imageJob = s.imageJob := rfl
@[simp] theorem State.reply_blockResets (s : State) (m : Initiator) (a : Answer) : (s.reply m a).blockResets = s.blockResets := rfl
@[simp] theorem State.reply_tallies (s : State) (m : Initiator) (a : Answer) : (s.reply m a).tallies = s.tallies := rfl
@[simp] theorem State.reply_msixWaiting (s : State) (m : Initiator) (a : Answer) : (s.reply m a).msixWaiting = s.msixWaiting := rfl
@[simp] theorem State.reply_linkUp (s : State) (m : Initiator) (a : Answer) : (s.reply m a).linkUp = s.linkUp := rfl
@[simp] theorem State.reply_busMaster (s : State) (m : Initiator) (a : Answer) : (s.reply m a).busMaster = s.busMaster := rfl
@[simp] theorem State.reply_dumpJobs (s : State) (m : Initiator) (a : Answer) : (s.reply m a).dumpJobs = s.dumpJobs := rfl
@[simp] theorem State.reply_dumpSeqs (s : State) (m : Initiator) (a : Answer) : (s.reply m a).dumpSeqs = s.dumpSeqs := rfl
@[simp] theorem State.reply_dumpAt (s : State) (m : Initiator) (a : Answer) : (s.reply m a).dumpAt = s.dumpAt := rfl
@[simp] theorem State.reply_clientSections (s : State) (m : Initiator) (a : Answer) : (s.reply m a).clientSections = s.clientSections := rfl
@[simp] theorem State.reply_pathSections (s : State) (m : Initiator) (a : Answer) : (s.reply m a).pathSections = s.pathSections := rfl
@[simp] theorem State.reply_bins (s : State) (m : Initiator) (a : Answer) : (s.reply m a).bins = s.bins := rfl
@[simp] theorem State.reply_secondAt (s : State) (m : Initiator) (a : Answer) : (s.reply m a).secondAt = s.secondAt := rfl
@[simp] theorem State.reply_thermal (s : State) (m : Initiator) (a : Answer) : (s.reply m a).thermal = s.thermal := rfl

@[simp] theorem State.replyWord_pending (s : State) (m : Initiator) (v : Nat) : (s.replyWord m v).pending = s.pending := rfl
@[simp] theorem State.replyWord_regs (s : State) (m : Initiator) (v : Nat) : (s.replyWord m v).regs = s.regs := rfl
@[simp] theorem State.replyWord_act (s : State) (m : Initiator) (v : Nat) : (s.replyWord m v).act = s.act := rfl
@[simp] theorem State.replyWord_ctrs (s : State) (m : Initiator) (v : Nat) : (s.replyWord m v).ctrs = s.ctrs := rfl
@[simp] theorem State.replyWord_tick (s : State) (m : Initiator) (v : Nat) : (s.replyWord m v).tick = s.tick := rfl
@[simp] theorem State.replyWord_now (s : State) (m : Initiator) (v : Nat) : (s.replyWord m v).now = s.now := rfl
@[simp] theorem State.replyWord_free (s : State) (m : Initiator) (v : Nat) : (s.replyWord m v).free = s.free := rfl
@[simp] theorem State.replyWord_atBoundary (s : State) (m : Initiator) (v : Nat) : (s.replyWord m v).atBoundary = s.atBoundary := rfl
@[simp] theorem State.replyWord_outbox (s : State) (m : Initiator) (v : Nat) : (s.replyWord m v).outbox = s.outbox := rfl
@[simp] theorem State.replyWord_reports (s : State) (m : Initiator) (v : Nat) : (s.replyWord m v).reports = s.reports := rfl
@[simp] theorem State.replyWord_logQueue (s : State) (m : Initiator) (v : Nat) : (s.replyWord m v).logQueue = s.logQueue := rfl
@[simp] theorem State.replyWord_slots (s : State) (m : Initiator) (v : Nat) : (s.replyWord m v).slots = s.slots := rfl
@[simp] theorem State.replyWord_logSeq (s : State) (m : Initiator) (v : Nat) : (s.replyWord m v).logSeq = s.logSeq := rfl
@[simp] theorem State.replyWord_links (s : State) (m : Initiator) (v : Nat) : (s.replyWord m v).links = s.links := rfl
@[simp] theorem State.replyWord_avsCore (s : State) (m : Initiator) (v : Nat) : (s.replyWord m v).avsCore = s.avsCore := rfl
@[simp] theorem State.replyWord_avsLe (s : State) (m : Initiator) (v : Nat) : (s.replyWord m v).avsLe = s.avsLe := rfl
@[simp] theorem State.replyWord_stores (s : State) (m : Initiator) (v : Nat) : (s.replyWord m v).stores = s.stores := rfl
@[simp] theorem State.replyWord_trains (s : State) (m : Initiator) (v : Nat) : (s.replyWord m v).trains = s.trains := rfl
@[simp] theorem State.replyWord_ingress (s : State) (m : Initiator) (v : Nat) : (s.replyWord m v).ingress = s.ingress := rfl
@[simp] theorem State.replyWord_staged (s : State) (m : Initiator) (v : Nat) : (s.replyWord m v).staged = s.staged := rfl
@[simp] theorem State.replyWord_egress (s : State) (m : Initiator) (v : Nat) : (s.replyWord m v).egress = s.egress := rfl
@[simp] theorem State.replyWord_sources (s : State) (m : Initiator) (v : Nat) : (s.replyWord m v).sources = s.sources := rfl
@[simp] theorem State.replyWord_banks (s : State) (m : Initiator) (v : Nat) : (s.replyWord m v).banks = s.banks := rfl
@[simp] theorem State.replyWord_swap (s : State) (m : Initiator) (v : Nat) : (s.replyWord m v).swap = s.swap := rfl
@[simp] theorem State.replyWord_lostTransfers (s : State) (m : Initiator) (v : Nat) : (s.replyWord m v).lostTransfers = s.lostTransfers := rfl
@[simp] theorem State.replyWord_lanes (s : State) (m : Initiator) (v : Nat) : (s.replyWord m v).lanes = s.lanes := rfl
@[simp] theorem State.replyWord_clients (s : State) (m : Initiator) (v : Nat) : (s.replyWord m v).clients = s.clients := rfl
@[simp] theorem State.replyWord_packets (s : State) (m : Initiator) (v : Nat) : (s.replyWord m v).packets = s.packets := rfl
@[simp] theorem State.replyWord_frames (s : State) (m : Initiator) (v : Nat) : (s.replyWord m v).frames = s.frames := rfl
@[simp] theorem State.replyWord_taps (s : State) (m : Initiator) (v : Nat) : (s.replyWord m v).taps = s.taps := rfl
@[simp] theorem State.replyWord_tapsAccepted (s : State) (m : Initiator) (v : Nat) : (s.replyWord m v).tapsAccepted = s.tapsAccepted := rfl
@[simp] theorem State.replyWord_gccs (s : State) (m : Initiator) (v : Nat) : (s.replyWord m v).gccs = s.gccs := rfl
@[simp] theorem State.replyWord_sections (s : State) (m : Initiator) (v : Nat) : (s.replyWord m v).sections = s.sections := rfl
@[simp] theorem State.replyWord_engines (s : State) (m : Initiator) (v : Nat) : (s.replyWord m v).engines = s.engines := rfl
@[simp] theorem State.replyWord_pool (s : State) (m : Initiator) (v : Nat) : (s.replyWord m v).pool = s.pool := rfl
@[simp] theorem State.replyWord_enc (s : State) (m : Initiator) (v : Nat) : (s.replyWord m v).enc = s.enc := rfl
@[simp] theorem State.replyWord_keyJobs (s : State) (m : Initiator) (v : Nat) : (s.replyWord m v).keyJobs = s.keyJobs := rfl
@[simp] theorem State.replyWord_hubs (s : State) (m : Initiator) (v : Nat) : (s.replyWord m v).hubs = s.hubs := rfl
@[simp] theorem State.replyWord_tideScs (s : State) (m : Initiator) (v : Nat) : (s.replyWord m v).tideScs = s.tideScs := rfl
@[simp] theorem State.replyWord_tideLeaves (s : State) (m : Initiator) (v : Nat) : (s.replyWord m v).tideLeaves = s.tideLeaves := rfl
@[simp] theorem State.replyWord_downstream (s : State) (m : Initiator) (v : Nat) : (s.replyWord m v).downstream = s.downstream := rfl
@[simp] theorem State.replyWord_merges (s : State) (m : Initiator) (v : Nat) : (s.replyWord m v).merges = s.merges := rfl
@[simp] theorem State.replyWord_refs (s : State) (m : Initiator) (v : Nat) : (s.replyWord m v).refs = s.refs := rfl
@[simp] theorem State.replyWord_gridPll (s : State) (m : Initiator) (v : Nat) : (s.replyWord m v).gridPll = s.gridPll := rfl
@[simp] theorem State.replyWord_outPll (s : State) (m : Initiator) (v : Nat) : (s.replyWord m v).outPll = s.outPll := rfl
@[simp] theorem State.replyWord_timeSources (s : State) (m : Initiator) (v : Nat) : (s.replyWord m v).timeSources = s.timeSources := rfl
@[simp] theorem State.replyWord_timePll (s : State) (m : Initiator) (v : Nat) : (s.replyWord m v).timePll = s.timePll := rfl
@[simp] theorem State.replyWord_captures (s : State) (m : Initiator) (v : Nat) : (s.replyWord m v).captures = s.captures := rfl
@[simp] theorem State.replyWord_measures (s : State) (m : Initiator) (v : Nat) : (s.replyWord m v).measures = s.measures := rfl
@[simp] theorem State.replyWord_journal (s : State) (m : Initiator) (v : Nat) : (s.replyWord m v).journal = s.journal := rfl
@[simp] theorem State.replyWord_mate (s : State) (m : Initiator) (v : Nat) : (s.replyWord m v).mate = s.mate := rfl
@[simp] theorem State.replyWord_snapshot (s : State) (m : Initiator) (v : Nat) : (s.replyWord m v).snapshot = s.snapshot := rfl
@[simp] theorem State.replyWord_snapshotBefore (s : State) (m : Initiator) (v : Nat) : (s.replyWord m v).snapshotBefore = s.snapshotBefore := rfl
@[simp] theorem State.replyWord_moors (s : State) (m : Initiator) (v : Nat) : (s.replyWord m v).moors = s.moors := rfl
@[simp] theorem State.replyWord_ccUser (s : State) (m : Initiator) (v : Nat) : (s.replyWord m v).ccUser = s.ccUser := rfl
@[simp] theorem State.replyWord_domain (s : State) (m : Initiator) (v : Nat) : (s.replyWord m v).domain = s.domain := rfl
@[simp] theorem State.replyWord_mem (s : State) (m : Initiator) (v : Nat) : (s.replyWord m v).mem = s.mem := rfl
@[simp] theorem State.replyWord_badWords (s : State) (m : Initiator) (v : Nat) : (s.replyWord m v).badWords = s.badWords := rfl
@[simp] theorem State.replyWord_anc (s : State) (m : Initiator) (v : Nat) : (s.replyWord m v).anc = s.anc := rfl
@[simp] theorem State.replyWord_written (s : State) (m : Initiator) (v : Nat) : (s.replyWord m v).written = s.written := rfl
@[simp] theorem State.replyWord_ancBad (s : State) (m : Initiator) (v : Nat) : (s.replyWord m v).ancBad = s.ancBad := rfl
@[simp] theorem State.replyWord_march (s : State) (m : Initiator) (v : Nat) : (s.replyWord m v).march = s.march := rfl
@[simp] theorem State.replyWord_eccHigh (s : State) (m : Initiator) (v : Nat) : (s.replyWord m v).eccHigh = s.eccHigh := rfl
@[simp] theorem State.replyWord_repairColumn (s : State) (m : Initiator) (v : Nat) : (s.replyWord m v).repairColumn = s.repairColumn := rfl
@[simp] theorem State.replyWord_repaired (s : State) (m : Initiator) (v : Nat) : (s.replyWord m v).repaired = s.repaired := rfl
@[simp] theorem State.replyWord_cores (s : State) (m : Initiator) (v : Nat) : (s.replyWord m v).cores = s.cores := rfl
@[simp] theorem State.replyWord_pcie (s : State) (m : Initiator) (v : Nat) : (s.replyWord m v).pcie = s.pcie := rfl
@[simp] theorem State.replyWord_lbPage (s : State) (m : Initiator) (v : Nat) : (s.replyWord m v).lbPage = s.lbPage := rfl
@[simp] theorem State.replyWord_uart (s : State) (m : Initiator) (v : Nat) : (s.replyWord m v).uart = s.uart := rfl
@[simp] theorem State.replyWord_mailbox (s : State) (m : Initiator) (v : Nat) : (s.replyWord m v).mailbox = s.mailbox := rfl
@[simp] theorem State.replyWord_scanning (s : State) (m : Initiator) (v : Nat) : (s.replyWord m v).scanning = s.scanning := rfl
@[simp] theorem State.replyWord_image (s : State) (m : Initiator) (v : Nat) : (s.replyWord m v).image = s.image := rfl
@[simp] theorem State.replyWord_committed (s : State) (m : Initiator) (v : Nat) : (s.replyWord m v).committed = s.committed := rfl
@[simp] theorem State.replyWord_applied (s : State) (m : Initiator) (v : Nat) : (s.replyWord m v).applied = s.applied := rfl
@[simp] theorem State.replyWord_previous (s : State) (m : Initiator) (v : Nat) : (s.replyWord m v).previous = s.previous := rfl
@[simp] theorem State.replyWord_fuses (s : State) (m : Initiator) (v : Nat) : (s.replyWord m v).fuses = s.fuses := rfl
@[simp] theorem State.replyWord_fuseCells (s : State) (m : Initiator) (v : Nat) : (s.replyWord m v).fuseCells = s.fuseCells := rfl
@[simp] theorem State.replyWord_fuseTarget (s : State) (m : Initiator) (v : Nat) : (s.replyWord m v).fuseTarget = s.fuseTarget := rfl
@[simp] theorem State.replyWord_boot (s : State) (m : Initiator) (v : Nat) : (s.replyWord m v).boot = s.boot := rfl
@[simp] theorem State.replyWord_imageJob (s : State) (m : Initiator) (v : Nat) : (s.replyWord m v).imageJob = s.imageJob := rfl
@[simp] theorem State.replyWord_blockResets (s : State) (m : Initiator) (v : Nat) : (s.replyWord m v).blockResets = s.blockResets := rfl
@[simp] theorem State.replyWord_tallies (s : State) (m : Initiator) (v : Nat) : (s.replyWord m v).tallies = s.tallies := rfl
@[simp] theorem State.replyWord_msixWaiting (s : State) (m : Initiator) (v : Nat) : (s.replyWord m v).msixWaiting = s.msixWaiting := rfl
@[simp] theorem State.replyWord_linkUp (s : State) (m : Initiator) (v : Nat) : (s.replyWord m v).linkUp = s.linkUp := rfl
@[simp] theorem State.replyWord_busMaster (s : State) (m : Initiator) (v : Nat) : (s.replyWord m v).busMaster = s.busMaster := rfl
@[simp] theorem State.replyWord_dumpJobs (s : State) (m : Initiator) (v : Nat) : (s.replyWord m v).dumpJobs = s.dumpJobs := rfl
@[simp] theorem State.replyWord_dumpSeqs (s : State) (m : Initiator) (v : Nat) : (s.replyWord m v).dumpSeqs = s.dumpSeqs := rfl
@[simp] theorem State.replyWord_dumpAt (s : State) (m : Initiator) (v : Nat) : (s.replyWord m v).dumpAt = s.dumpAt := rfl
@[simp] theorem State.replyWord_clientSections (s : State) (m : Initiator) (v : Nat) : (s.replyWord m v).clientSections = s.clientSections := rfl
@[simp] theorem State.replyWord_pathSections (s : State) (m : Initiator) (v : Nat) : (s.replyWord m v).pathSections = s.pathSections := rfl
@[simp] theorem State.replyWord_bins (s : State) (m : Initiator) (v : Nat) : (s.replyWord m v).bins = s.bins := rfl
@[simp] theorem State.replyWord_secondAt (s : State) (m : Initiator) (v : Nat) : (s.replyWord m v).secondAt = s.secondAt := rfl
@[simp] theorem State.replyWord_thermal (s : State) (m : Initiator) (v : Nat) : (s.replyWord m v).thermal = s.thermal := rfl

@[simp] theorem State.readLatched_pending (s : State) (m : Initiator) (f : Field) (v : Nat) : (s.readLatched m f v).pending = s.pending := rfl
@[simp] theorem State.readLatched_act (s : State) (m : Initiator) (f : Field) (v : Nat) : (s.readLatched m f v).act = s.act := rfl
@[simp] theorem State.readLatched_ctrs (s : State) (m : Initiator) (f : Field) (v : Nat) : (s.readLatched m f v).ctrs = s.ctrs := rfl
@[simp] theorem State.readLatched_tick (s : State) (m : Initiator) (f : Field) (v : Nat) : (s.readLatched m f v).tick = s.tick := rfl
@[simp] theorem State.readLatched_now (s : State) (m : Initiator) (f : Field) (v : Nat) : (s.readLatched m f v).now = s.now := rfl
@[simp] theorem State.readLatched_free (s : State) (m : Initiator) (f : Field) (v : Nat) : (s.readLatched m f v).free = s.free := rfl
@[simp] theorem State.readLatched_atBoundary (s : State) (m : Initiator) (f : Field) (v : Nat) : (s.readLatched m f v).atBoundary = s.atBoundary := rfl
@[simp] theorem State.readLatched_outbox (s : State) (m : Initiator) (f : Field) (v : Nat) : (s.readLatched m f v).outbox = s.outbox := rfl
@[simp] theorem State.readLatched_reports (s : State) (m : Initiator) (f : Field) (v : Nat) : (s.readLatched m f v).reports = s.reports := rfl
@[simp] theorem State.readLatched_logQueue (s : State) (m : Initiator) (f : Field) (v : Nat) : (s.readLatched m f v).logQueue = s.logQueue := rfl
@[simp] theorem State.readLatched_slots (s : State) (m : Initiator) (f : Field) (v : Nat) : (s.readLatched m f v).slots = s.slots := rfl
@[simp] theorem State.readLatched_logSeq (s : State) (m : Initiator) (f : Field) (v : Nat) : (s.readLatched m f v).logSeq = s.logSeq := rfl
@[simp] theorem State.readLatched_links (s : State) (m : Initiator) (f : Field) (v : Nat) : (s.readLatched m f v).links = s.links := rfl
@[simp] theorem State.readLatched_avsCore (s : State) (m : Initiator) (f : Field) (v : Nat) : (s.readLatched m f v).avsCore = s.avsCore := rfl
@[simp] theorem State.readLatched_avsLe (s : State) (m : Initiator) (f : Field) (v : Nat) : (s.readLatched m f v).avsLe = s.avsLe := rfl
@[simp] theorem State.readLatched_stores (s : State) (m : Initiator) (f : Field) (v : Nat) : (s.readLatched m f v).stores = s.stores := rfl
@[simp] theorem State.readLatched_trains (s : State) (m : Initiator) (f : Field) (v : Nat) : (s.readLatched m f v).trains = s.trains := rfl
@[simp] theorem State.readLatched_ingress (s : State) (m : Initiator) (f : Field) (v : Nat) : (s.readLatched m f v).ingress = s.ingress := rfl
@[simp] theorem State.readLatched_staged (s : State) (m : Initiator) (f : Field) (v : Nat) : (s.readLatched m f v).staged = s.staged := rfl
@[simp] theorem State.readLatched_egress (s : State) (m : Initiator) (f : Field) (v : Nat) : (s.readLatched m f v).egress = s.egress := rfl
@[simp] theorem State.readLatched_sources (s : State) (m : Initiator) (f : Field) (v : Nat) : (s.readLatched m f v).sources = s.sources := rfl
@[simp] theorem State.readLatched_banks (s : State) (m : Initiator) (f : Field) (v : Nat) : (s.readLatched m f v).banks = s.banks := rfl
@[simp] theorem State.readLatched_swap (s : State) (m : Initiator) (f : Field) (v : Nat) : (s.readLatched m f v).swap = s.swap := rfl
@[simp] theorem State.readLatched_lostTransfers (s : State) (m : Initiator) (f : Field) (v : Nat) : (s.readLatched m f v).lostTransfers = s.lostTransfers := rfl
@[simp] theorem State.readLatched_lanes (s : State) (m : Initiator) (f : Field) (v : Nat) : (s.readLatched m f v).lanes = s.lanes := rfl
@[simp] theorem State.readLatched_clients (s : State) (m : Initiator) (f : Field) (v : Nat) : (s.readLatched m f v).clients = s.clients := rfl
@[simp] theorem State.readLatched_packets (s : State) (m : Initiator) (f : Field) (v : Nat) : (s.readLatched m f v).packets = s.packets := rfl
@[simp] theorem State.readLatched_frames (s : State) (m : Initiator) (f : Field) (v : Nat) : (s.readLatched m f v).frames = s.frames := rfl
@[simp] theorem State.readLatched_taps (s : State) (m : Initiator) (f : Field) (v : Nat) : (s.readLatched m f v).taps = s.taps := rfl
@[simp] theorem State.readLatched_tapsAccepted (s : State) (m : Initiator) (f : Field) (v : Nat) : (s.readLatched m f v).tapsAccepted = s.tapsAccepted := rfl
@[simp] theorem State.readLatched_gccs (s : State) (m : Initiator) (f : Field) (v : Nat) : (s.readLatched m f v).gccs = s.gccs := rfl
@[simp] theorem State.readLatched_sections (s : State) (m : Initiator) (f : Field) (v : Nat) : (s.readLatched m f v).sections = s.sections := rfl
@[simp] theorem State.readLatched_engines (s : State) (m : Initiator) (f : Field) (v : Nat) : (s.readLatched m f v).engines = s.engines := rfl
@[simp] theorem State.readLatched_pool (s : State) (m : Initiator) (f : Field) (v : Nat) : (s.readLatched m f v).pool = s.pool := rfl
@[simp] theorem State.readLatched_enc (s : State) (m : Initiator) (f : Field) (v : Nat) : (s.readLatched m f v).enc = s.enc := rfl
@[simp] theorem State.readLatched_keyJobs (s : State) (m : Initiator) (f : Field) (v : Nat) : (s.readLatched m f v).keyJobs = s.keyJobs := rfl
@[simp] theorem State.readLatched_hubs (s : State) (m : Initiator) (f : Field) (v : Nat) : (s.readLatched m f v).hubs = s.hubs := rfl
@[simp] theorem State.readLatched_tideScs (s : State) (m : Initiator) (f : Field) (v : Nat) : (s.readLatched m f v).tideScs = s.tideScs := rfl
@[simp] theorem State.readLatched_tideLeaves (s : State) (m : Initiator) (f : Field) (v : Nat) : (s.readLatched m f v).tideLeaves = s.tideLeaves := rfl
@[simp] theorem State.readLatched_downstream (s : State) (m : Initiator) (f : Field) (v : Nat) : (s.readLatched m f v).downstream = s.downstream := rfl
@[simp] theorem State.readLatched_merges (s : State) (m : Initiator) (f : Field) (v : Nat) : (s.readLatched m f v).merges = s.merges := rfl
@[simp] theorem State.readLatched_refs (s : State) (m : Initiator) (f : Field) (v : Nat) : (s.readLatched m f v).refs = s.refs := rfl
@[simp] theorem State.readLatched_gridPll (s : State) (m : Initiator) (f : Field) (v : Nat) : (s.readLatched m f v).gridPll = s.gridPll := rfl
@[simp] theorem State.readLatched_outPll (s : State) (m : Initiator) (f : Field) (v : Nat) : (s.readLatched m f v).outPll = s.outPll := rfl
@[simp] theorem State.readLatched_timeSources (s : State) (m : Initiator) (f : Field) (v : Nat) : (s.readLatched m f v).timeSources = s.timeSources := rfl
@[simp] theorem State.readLatched_timePll (s : State) (m : Initiator) (f : Field) (v : Nat) : (s.readLatched m f v).timePll = s.timePll := rfl
@[simp] theorem State.readLatched_captures (s : State) (m : Initiator) (f : Field) (v : Nat) : (s.readLatched m f v).captures = s.captures := rfl
@[simp] theorem State.readLatched_measures (s : State) (m : Initiator) (f : Field) (v : Nat) : (s.readLatched m f v).measures = s.measures := rfl
@[simp] theorem State.readLatched_journal (s : State) (m : Initiator) (f : Field) (v : Nat) : (s.readLatched m f v).journal = s.journal := rfl
@[simp] theorem State.readLatched_mate (s : State) (m : Initiator) (f : Field) (v : Nat) : (s.readLatched m f v).mate = s.mate := rfl
@[simp] theorem State.readLatched_snapshot (s : State) (m : Initiator) (f : Field) (v : Nat) : (s.readLatched m f v).snapshot = s.snapshot := rfl
@[simp] theorem State.readLatched_snapshotBefore (s : State) (m : Initiator) (f : Field) (v : Nat) : (s.readLatched m f v).snapshotBefore = s.snapshotBefore := rfl
@[simp] theorem State.readLatched_moors (s : State) (m : Initiator) (f : Field) (v : Nat) : (s.readLatched m f v).moors = s.moors := rfl
@[simp] theorem State.readLatched_ccUser (s : State) (m : Initiator) (f : Field) (v : Nat) : (s.readLatched m f v).ccUser = s.ccUser := rfl
@[simp] theorem State.readLatched_domain (s : State) (m : Initiator) (f : Field) (v : Nat) : (s.readLatched m f v).domain = s.domain := rfl
@[simp] theorem State.readLatched_mem (s : State) (m : Initiator) (f : Field) (v : Nat) : (s.readLatched m f v).mem = s.mem := rfl
@[simp] theorem State.readLatched_badWords (s : State) (m : Initiator) (f : Field) (v : Nat) : (s.readLatched m f v).badWords = s.badWords := rfl
@[simp] theorem State.readLatched_anc (s : State) (m : Initiator) (f : Field) (v : Nat) : (s.readLatched m f v).anc = s.anc := rfl
@[simp] theorem State.readLatched_written (s : State) (m : Initiator) (f : Field) (v : Nat) : (s.readLatched m f v).written = s.written := rfl
@[simp] theorem State.readLatched_ancBad (s : State) (m : Initiator) (f : Field) (v : Nat) : (s.readLatched m f v).ancBad = s.ancBad := rfl
@[simp] theorem State.readLatched_march (s : State) (m : Initiator) (f : Field) (v : Nat) : (s.readLatched m f v).march = s.march := rfl
@[simp] theorem State.readLatched_eccHigh (s : State) (m : Initiator) (f : Field) (v : Nat) : (s.readLatched m f v).eccHigh = s.eccHigh := rfl
@[simp] theorem State.readLatched_repairColumn (s : State) (m : Initiator) (f : Field) (v : Nat) : (s.readLatched m f v).repairColumn = s.repairColumn := rfl
@[simp] theorem State.readLatched_repaired (s : State) (m : Initiator) (f : Field) (v : Nat) : (s.readLatched m f v).repaired = s.repaired := rfl
@[simp] theorem State.readLatched_cores (s : State) (m : Initiator) (f : Field) (v : Nat) : (s.readLatched m f v).cores = s.cores := rfl
@[simp] theorem State.readLatched_pcie (s : State) (m : Initiator) (f : Field) (v : Nat) : (s.readLatched m f v).pcie = s.pcie := rfl
@[simp] theorem State.readLatched_lbPage (s : State) (m : Initiator) (f : Field) (v : Nat) : (s.readLatched m f v).lbPage = s.lbPage := rfl
@[simp] theorem State.readLatched_uart (s : State) (m : Initiator) (f : Field) (v : Nat) : (s.readLatched m f v).uart = s.uart := rfl
@[simp] theorem State.readLatched_mailbox (s : State) (m : Initiator) (f : Field) (v : Nat) : (s.readLatched m f v).mailbox = s.mailbox := rfl
@[simp] theorem State.readLatched_scanning (s : State) (m : Initiator) (f : Field) (v : Nat) : (s.readLatched m f v).scanning = s.scanning := rfl
@[simp] theorem State.readLatched_image (s : State) (m : Initiator) (f : Field) (v : Nat) : (s.readLatched m f v).image = s.image := rfl
@[simp] theorem State.readLatched_committed (s : State) (m : Initiator) (f : Field) (v : Nat) : (s.readLatched m f v).committed = s.committed := rfl
@[simp] theorem State.readLatched_applied (s : State) (m : Initiator) (f : Field) (v : Nat) : (s.readLatched m f v).applied = s.applied := rfl
@[simp] theorem State.readLatched_previous (s : State) (m : Initiator) (f : Field) (v : Nat) : (s.readLatched m f v).previous = s.previous := rfl
@[simp] theorem State.readLatched_fuses (s : State) (m : Initiator) (f : Field) (v : Nat) : (s.readLatched m f v).fuses = s.fuses := rfl
@[simp] theorem State.readLatched_fuseCells (s : State) (m : Initiator) (f : Field) (v : Nat) : (s.readLatched m f v).fuseCells = s.fuseCells := rfl
@[simp] theorem State.readLatched_fuseTarget (s : State) (m : Initiator) (f : Field) (v : Nat) : (s.readLatched m f v).fuseTarget = s.fuseTarget := rfl
@[simp] theorem State.readLatched_boot (s : State) (m : Initiator) (f : Field) (v : Nat) : (s.readLatched m f v).boot = s.boot := rfl
@[simp] theorem State.readLatched_imageJob (s : State) (m : Initiator) (f : Field) (v : Nat) : (s.readLatched m f v).imageJob = s.imageJob := rfl
@[simp] theorem State.readLatched_blockResets (s : State) (m : Initiator) (f : Field) (v : Nat) : (s.readLatched m f v).blockResets = s.blockResets := rfl
@[simp] theorem State.readLatched_tallies (s : State) (m : Initiator) (f : Field) (v : Nat) : (s.readLatched m f v).tallies = s.tallies := rfl
@[simp] theorem State.readLatched_msixWaiting (s : State) (m : Initiator) (f : Field) (v : Nat) : (s.readLatched m f v).msixWaiting = s.msixWaiting := rfl
@[simp] theorem State.readLatched_linkUp (s : State) (m : Initiator) (f : Field) (v : Nat) : (s.readLatched m f v).linkUp = s.linkUp := rfl
@[simp] theorem State.readLatched_busMaster (s : State) (m : Initiator) (f : Field) (v : Nat) : (s.readLatched m f v).busMaster = s.busMaster := rfl
@[simp] theorem State.readLatched_dumpJobs (s : State) (m : Initiator) (f : Field) (v : Nat) : (s.readLatched m f v).dumpJobs = s.dumpJobs := rfl
@[simp] theorem State.readLatched_dumpSeqs (s : State) (m : Initiator) (f : Field) (v : Nat) : (s.readLatched m f v).dumpSeqs = s.dumpSeqs := rfl
@[simp] theorem State.readLatched_dumpAt (s : State) (m : Initiator) (f : Field) (v : Nat) : (s.readLatched m f v).dumpAt = s.dumpAt := rfl
@[simp] theorem State.readLatched_clientSections (s : State) (m : Initiator) (f : Field) (v : Nat) : (s.readLatched m f v).clientSections = s.clientSections := rfl
@[simp] theorem State.readLatched_pathSections (s : State) (m : Initiator) (f : Field) (v : Nat) : (s.readLatched m f v).pathSections = s.pathSections := rfl
@[simp] theorem State.readLatched_bins (s : State) (m : Initiator) (f : Field) (v : Nat) : (s.readLatched m f v).bins = s.bins := rfl
@[simp] theorem State.readLatched_secondAt (s : State) (m : Initiator) (f : Field) (v : Nat) : (s.readLatched m f v).secondAt = s.secondAt := rfl
@[simp] theorem State.readLatched_thermal (s : State) (m : Initiator) (f : Field) (v : Nat) : (s.readLatched m f v).thermal = s.thermal := rfl

@[simp] theorem State.send_pending (s : State) (o : Out) : (s.send o).pending = s.pending := rfl
@[simp] theorem State.send_regs (s : State) (o : Out) : (s.send o).regs = s.regs := rfl
@[simp] theorem State.send_act (s : State) (o : Out) : (s.send o).act = s.act := rfl
@[simp] theorem State.send_ctrs (s : State) (o : Out) : (s.send o).ctrs = s.ctrs := rfl
@[simp] theorem State.send_tick (s : State) (o : Out) : (s.send o).tick = s.tick := rfl
@[simp] theorem State.send_now (s : State) (o : Out) : (s.send o).now = s.now := rfl
@[simp] theorem State.send_free (s : State) (o : Out) : (s.send o).free = s.free := rfl
@[simp] theorem State.send_atBoundary (s : State) (o : Out) : (s.send o).atBoundary = s.atBoundary := rfl
@[simp] theorem State.send_answers (s : State) (o : Out) : (s.send o).answers = s.answers := rfl
@[simp] theorem State.send_reports (s : State) (o : Out) : (s.send o).reports = s.reports := rfl
@[simp] theorem State.send_logQueue (s : State) (o : Out) : (s.send o).logQueue = s.logQueue := rfl
@[simp] theorem State.send_slots (s : State) (o : Out) : (s.send o).slots = s.slots := rfl
@[simp] theorem State.send_logSeq (s : State) (o : Out) : (s.send o).logSeq = s.logSeq := rfl
@[simp] theorem State.send_links (s : State) (o : Out) : (s.send o).links = s.links := rfl
@[simp] theorem State.send_avsCore (s : State) (o : Out) : (s.send o).avsCore = s.avsCore := rfl
@[simp] theorem State.send_avsLe (s : State) (o : Out) : (s.send o).avsLe = s.avsLe := rfl
@[simp] theorem State.send_stores (s : State) (o : Out) : (s.send o).stores = s.stores := rfl
@[simp] theorem State.send_trains (s : State) (o : Out) : (s.send o).trains = s.trains := rfl
@[simp] theorem State.send_ingress (s : State) (o : Out) : (s.send o).ingress = s.ingress := rfl
@[simp] theorem State.send_staged (s : State) (o : Out) : (s.send o).staged = s.staged := rfl
@[simp] theorem State.send_egress (s : State) (o : Out) : (s.send o).egress = s.egress := rfl
@[simp] theorem State.send_sources (s : State) (o : Out) : (s.send o).sources = s.sources := rfl
@[simp] theorem State.send_banks (s : State) (o : Out) : (s.send o).banks = s.banks := rfl
@[simp] theorem State.send_swap (s : State) (o : Out) : (s.send o).swap = s.swap := rfl
@[simp] theorem State.send_lostTransfers (s : State) (o : Out) : (s.send o).lostTransfers = s.lostTransfers := rfl
@[simp] theorem State.send_lanes (s : State) (o : Out) : (s.send o).lanes = s.lanes := rfl
@[simp] theorem State.send_clients (s : State) (o : Out) : (s.send o).clients = s.clients := rfl
@[simp] theorem State.send_packets (s : State) (o : Out) : (s.send o).packets = s.packets := rfl
@[simp] theorem State.send_frames (s : State) (o : Out) : (s.send o).frames = s.frames := rfl
@[simp] theorem State.send_taps (s : State) (o : Out) : (s.send o).taps = s.taps := rfl
@[simp] theorem State.send_tapsAccepted (s : State) (o : Out) : (s.send o).tapsAccepted = s.tapsAccepted := rfl
@[simp] theorem State.send_gccs (s : State) (o : Out) : (s.send o).gccs = s.gccs := rfl
@[simp] theorem State.send_sections (s : State) (o : Out) : (s.send o).sections = s.sections := rfl
@[simp] theorem State.send_engines (s : State) (o : Out) : (s.send o).engines = s.engines := rfl
@[simp] theorem State.send_pool (s : State) (o : Out) : (s.send o).pool = s.pool := rfl
@[simp] theorem State.send_enc (s : State) (o : Out) : (s.send o).enc = s.enc := rfl
@[simp] theorem State.send_keyJobs (s : State) (o : Out) : (s.send o).keyJobs = s.keyJobs := rfl
@[simp] theorem State.send_hubs (s : State) (o : Out) : (s.send o).hubs = s.hubs := rfl
@[simp] theorem State.send_tideScs (s : State) (o : Out) : (s.send o).tideScs = s.tideScs := rfl
@[simp] theorem State.send_tideLeaves (s : State) (o : Out) : (s.send o).tideLeaves = s.tideLeaves := rfl
@[simp] theorem State.send_downstream (s : State) (o : Out) : (s.send o).downstream = s.downstream := rfl
@[simp] theorem State.send_merges (s : State) (o : Out) : (s.send o).merges = s.merges := rfl
@[simp] theorem State.send_refs (s : State) (o : Out) : (s.send o).refs = s.refs := rfl
@[simp] theorem State.send_gridPll (s : State) (o : Out) : (s.send o).gridPll = s.gridPll := rfl
@[simp] theorem State.send_outPll (s : State) (o : Out) : (s.send o).outPll = s.outPll := rfl
@[simp] theorem State.send_timeSources (s : State) (o : Out) : (s.send o).timeSources = s.timeSources := rfl
@[simp] theorem State.send_timePll (s : State) (o : Out) : (s.send o).timePll = s.timePll := rfl
@[simp] theorem State.send_captures (s : State) (o : Out) : (s.send o).captures = s.captures := rfl
@[simp] theorem State.send_measures (s : State) (o : Out) : (s.send o).measures = s.measures := rfl
@[simp] theorem State.send_journal (s : State) (o : Out) : (s.send o).journal = s.journal := rfl
@[simp] theorem State.send_mate (s : State) (o : Out) : (s.send o).mate = s.mate := rfl
@[simp] theorem State.send_snapshot (s : State) (o : Out) : (s.send o).snapshot = s.snapshot := rfl
@[simp] theorem State.send_snapshotBefore (s : State) (o : Out) : (s.send o).snapshotBefore = s.snapshotBefore := rfl
@[simp] theorem State.send_moors (s : State) (o : Out) : (s.send o).moors = s.moors := rfl
@[simp] theorem State.send_ccUser (s : State) (o : Out) : (s.send o).ccUser = s.ccUser := rfl
@[simp] theorem State.send_domain (s : State) (o : Out) : (s.send o).domain = s.domain := rfl
@[simp] theorem State.send_mem (s : State) (o : Out) : (s.send o).mem = s.mem := rfl
@[simp] theorem State.send_badWords (s : State) (o : Out) : (s.send o).badWords = s.badWords := rfl
@[simp] theorem State.send_anc (s : State) (o : Out) : (s.send o).anc = s.anc := rfl
@[simp] theorem State.send_written (s : State) (o : Out) : (s.send o).written = s.written := rfl
@[simp] theorem State.send_ancBad (s : State) (o : Out) : (s.send o).ancBad = s.ancBad := rfl
@[simp] theorem State.send_march (s : State) (o : Out) : (s.send o).march = s.march := rfl
@[simp] theorem State.send_eccHigh (s : State) (o : Out) : (s.send o).eccHigh = s.eccHigh := rfl
@[simp] theorem State.send_repairColumn (s : State) (o : Out) : (s.send o).repairColumn = s.repairColumn := rfl
@[simp] theorem State.send_repaired (s : State) (o : Out) : (s.send o).repaired = s.repaired := rfl
@[simp] theorem State.send_cores (s : State) (o : Out) : (s.send o).cores = s.cores := rfl
@[simp] theorem State.send_pcie (s : State) (o : Out) : (s.send o).pcie = s.pcie := rfl
@[simp] theorem State.send_lbPage (s : State) (o : Out) : (s.send o).lbPage = s.lbPage := rfl
@[simp] theorem State.send_uart (s : State) (o : Out) : (s.send o).uart = s.uart := rfl
@[simp] theorem State.send_mailbox (s : State) (o : Out) : (s.send o).mailbox = s.mailbox := rfl
@[simp] theorem State.send_scanning (s : State) (o : Out) : (s.send o).scanning = s.scanning := rfl
@[simp] theorem State.send_image (s : State) (o : Out) : (s.send o).image = s.image := rfl
@[simp] theorem State.send_committed (s : State) (o : Out) : (s.send o).committed = s.committed := rfl
@[simp] theorem State.send_applied (s : State) (o : Out) : (s.send o).applied = s.applied := rfl
@[simp] theorem State.send_previous (s : State) (o : Out) : (s.send o).previous = s.previous := rfl
@[simp] theorem State.send_fuses (s : State) (o : Out) : (s.send o).fuses = s.fuses := rfl
@[simp] theorem State.send_fuseCells (s : State) (o : Out) : (s.send o).fuseCells = s.fuseCells := rfl
@[simp] theorem State.send_fuseTarget (s : State) (o : Out) : (s.send o).fuseTarget = s.fuseTarget := rfl
@[simp] theorem State.send_boot (s : State) (o : Out) : (s.send o).boot = s.boot := rfl
@[simp] theorem State.send_imageJob (s : State) (o : Out) : (s.send o).imageJob = s.imageJob := rfl
@[simp] theorem State.send_blockResets (s : State) (o : Out) : (s.send o).blockResets = s.blockResets := rfl
@[simp] theorem State.send_tallies (s : State) (o : Out) : (s.send o).tallies = s.tallies := rfl
@[simp] theorem State.send_msixWaiting (s : State) (o : Out) : (s.send o).msixWaiting = s.msixWaiting := rfl
@[simp] theorem State.send_linkUp (s : State) (o : Out) : (s.send o).linkUp = s.linkUp := rfl
@[simp] theorem State.send_busMaster (s : State) (o : Out) : (s.send o).busMaster = s.busMaster := rfl
@[simp] theorem State.send_dumpJobs (s : State) (o : Out) : (s.send o).dumpJobs = s.dumpJobs := rfl
@[simp] theorem State.send_dumpSeqs (s : State) (o : Out) : (s.send o).dumpSeqs = s.dumpSeqs := rfl
@[simp] theorem State.send_dumpAt (s : State) (o : Out) : (s.send o).dumpAt = s.dumpAt := rfl
@[simp] theorem State.send_clientSections (s : State) (o : Out) : (s.send o).clientSections = s.clientSections := rfl
@[simp] theorem State.send_pathSections (s : State) (o : Out) : (s.send o).pathSections = s.pathSections := rfl
@[simp] theorem State.send_bins (s : State) (o : Out) : (s.send o).bins = s.bins := rfl
@[simp] theorem State.send_secondAt (s : State) (o : Out) : (s.send o).secondAt = s.secondAt := rfl
@[simp] theorem State.send_thermal (s : State) (o : Out) : (s.send o).thermal = s.thermal := rfl

@[simp] theorem State.later_pending (s : State) (k : Keyed) : (s.later k).pending = s.pending := rfl
@[simp] theorem State.later_regs (s : State) (k : Keyed) : (s.later k).regs = s.regs := rfl
@[simp] theorem State.later_act (s : State) (k : Keyed) : (s.later k).act = s.act := rfl
@[simp] theorem State.later_ctrs (s : State) (k : Keyed) : (s.later k).ctrs = s.ctrs := rfl
@[simp] theorem State.later_tick (s : State) (k : Keyed) : (s.later k).tick = s.tick := rfl
@[simp] theorem State.later_now (s : State) (k : Keyed) : (s.later k).now = s.now := rfl
@[simp] theorem State.later_free (s : State) (k : Keyed) : (s.later k).free = s.free := rfl
@[simp] theorem State.later_answers (s : State) (k : Keyed) : (s.later k).answers = s.answers := rfl
@[simp] theorem State.later_outbox (s : State) (k : Keyed) : (s.later k).outbox = s.outbox := rfl
@[simp] theorem State.later_reports (s : State) (k : Keyed) : (s.later k).reports = s.reports := rfl
@[simp] theorem State.later_logQueue (s : State) (k : Keyed) : (s.later k).logQueue = s.logQueue := rfl
@[simp] theorem State.later_slots (s : State) (k : Keyed) : (s.later k).slots = s.slots := rfl
@[simp] theorem State.later_logSeq (s : State) (k : Keyed) : (s.later k).logSeq = s.logSeq := rfl
@[simp] theorem State.later_links (s : State) (k : Keyed) : (s.later k).links = s.links := rfl
@[simp] theorem State.later_avsCore (s : State) (k : Keyed) : (s.later k).avsCore = s.avsCore := rfl
@[simp] theorem State.later_avsLe (s : State) (k : Keyed) : (s.later k).avsLe = s.avsLe := rfl
@[simp] theorem State.later_stores (s : State) (k : Keyed) : (s.later k).stores = s.stores := rfl
@[simp] theorem State.later_trains (s : State) (k : Keyed) : (s.later k).trains = s.trains := rfl
@[simp] theorem State.later_ingress (s : State) (k : Keyed) : (s.later k).ingress = s.ingress := rfl
@[simp] theorem State.later_staged (s : State) (k : Keyed) : (s.later k).staged = s.staged := rfl
@[simp] theorem State.later_egress (s : State) (k : Keyed) : (s.later k).egress = s.egress := rfl
@[simp] theorem State.later_sources (s : State) (k : Keyed) : (s.later k).sources = s.sources := rfl
@[simp] theorem State.later_banks (s : State) (k : Keyed) : (s.later k).banks = s.banks := rfl
@[simp] theorem State.later_swap (s : State) (k : Keyed) : (s.later k).swap = s.swap := rfl
@[simp] theorem State.later_lostTransfers (s : State) (k : Keyed) : (s.later k).lostTransfers = s.lostTransfers := rfl
@[simp] theorem State.later_lanes (s : State) (k : Keyed) : (s.later k).lanes = s.lanes := rfl
@[simp] theorem State.later_clients (s : State) (k : Keyed) : (s.later k).clients = s.clients := rfl
@[simp] theorem State.later_packets (s : State) (k : Keyed) : (s.later k).packets = s.packets := rfl
@[simp] theorem State.later_frames (s : State) (k : Keyed) : (s.later k).frames = s.frames := rfl
@[simp] theorem State.later_taps (s : State) (k : Keyed) : (s.later k).taps = s.taps := rfl
@[simp] theorem State.later_tapsAccepted (s : State) (k : Keyed) : (s.later k).tapsAccepted = s.tapsAccepted := rfl
@[simp] theorem State.later_gccs (s : State) (k : Keyed) : (s.later k).gccs = s.gccs := rfl
@[simp] theorem State.later_sections (s : State) (k : Keyed) : (s.later k).sections = s.sections := rfl
@[simp] theorem State.later_engines (s : State) (k : Keyed) : (s.later k).engines = s.engines := rfl
@[simp] theorem State.later_pool (s : State) (k : Keyed) : (s.later k).pool = s.pool := rfl
@[simp] theorem State.later_enc (s : State) (k : Keyed) : (s.later k).enc = s.enc := rfl
@[simp] theorem State.later_keyJobs (s : State) (k : Keyed) : (s.later k).keyJobs = s.keyJobs := rfl
@[simp] theorem State.later_hubs (s : State) (k : Keyed) : (s.later k).hubs = s.hubs := rfl
@[simp] theorem State.later_tideScs (s : State) (k : Keyed) : (s.later k).tideScs = s.tideScs := rfl
@[simp] theorem State.later_tideLeaves (s : State) (k : Keyed) : (s.later k).tideLeaves = s.tideLeaves := rfl
@[simp] theorem State.later_downstream (s : State) (k : Keyed) : (s.later k).downstream = s.downstream := rfl
@[simp] theorem State.later_merges (s : State) (k : Keyed) : (s.later k).merges = s.merges := rfl
@[simp] theorem State.later_refs (s : State) (k : Keyed) : (s.later k).refs = s.refs := rfl
@[simp] theorem State.later_gridPll (s : State) (k : Keyed) : (s.later k).gridPll = s.gridPll := rfl
@[simp] theorem State.later_outPll (s : State) (k : Keyed) : (s.later k).outPll = s.outPll := rfl
@[simp] theorem State.later_timeSources (s : State) (k : Keyed) : (s.later k).timeSources = s.timeSources := rfl
@[simp] theorem State.later_timePll (s : State) (k : Keyed) : (s.later k).timePll = s.timePll := rfl
@[simp] theorem State.later_captures (s : State) (k : Keyed) : (s.later k).captures = s.captures := rfl
@[simp] theorem State.later_measures (s : State) (k : Keyed) : (s.later k).measures = s.measures := rfl
@[simp] theorem State.later_journal (s : State) (k : Keyed) : (s.later k).journal = s.journal := rfl
@[simp] theorem State.later_mate (s : State) (k : Keyed) : (s.later k).mate = s.mate := rfl
@[simp] theorem State.later_snapshot (s : State) (k : Keyed) : (s.later k).snapshot = s.snapshot := rfl
@[simp] theorem State.later_snapshotBefore (s : State) (k : Keyed) : (s.later k).snapshotBefore = s.snapshotBefore := rfl
@[simp] theorem State.later_moors (s : State) (k : Keyed) : (s.later k).moors = s.moors := rfl
@[simp] theorem State.later_ccUser (s : State) (k : Keyed) : (s.later k).ccUser = s.ccUser := rfl
@[simp] theorem State.later_domain (s : State) (k : Keyed) : (s.later k).domain = s.domain := rfl
@[simp] theorem State.later_mem (s : State) (k : Keyed) : (s.later k).mem = s.mem := rfl
@[simp] theorem State.later_badWords (s : State) (k : Keyed) : (s.later k).badWords = s.badWords := rfl
@[simp] theorem State.later_anc (s : State) (k : Keyed) : (s.later k).anc = s.anc := rfl
@[simp] theorem State.later_written (s : State) (k : Keyed) : (s.later k).written = s.written := rfl
@[simp] theorem State.later_ancBad (s : State) (k : Keyed) : (s.later k).ancBad = s.ancBad := rfl
@[simp] theorem State.later_march (s : State) (k : Keyed) : (s.later k).march = s.march := rfl
@[simp] theorem State.later_eccHigh (s : State) (k : Keyed) : (s.later k).eccHigh = s.eccHigh := rfl
@[simp] theorem State.later_repairColumn (s : State) (k : Keyed) : (s.later k).repairColumn = s.repairColumn := rfl
@[simp] theorem State.later_repaired (s : State) (k : Keyed) : (s.later k).repaired = s.repaired := rfl
@[simp] theorem State.later_cores (s : State) (k : Keyed) : (s.later k).cores = s.cores := rfl
@[simp] theorem State.later_pcie (s : State) (k : Keyed) : (s.later k).pcie = s.pcie := rfl
@[simp] theorem State.later_lbPage (s : State) (k : Keyed) : (s.later k).lbPage = s.lbPage := rfl
@[simp] theorem State.later_uart (s : State) (k : Keyed) : (s.later k).uart = s.uart := rfl
@[simp] theorem State.later_mailbox (s : State) (k : Keyed) : (s.later k).mailbox = s.mailbox := rfl
@[simp] theorem State.later_scanning (s : State) (k : Keyed) : (s.later k).scanning = s.scanning := rfl
@[simp] theorem State.later_image (s : State) (k : Keyed) : (s.later k).image = s.image := rfl
@[simp] theorem State.later_committed (s : State) (k : Keyed) : (s.later k).committed = s.committed := rfl
@[simp] theorem State.later_applied (s : State) (k : Keyed) : (s.later k).applied = s.applied := rfl
@[simp] theorem State.later_previous (s : State) (k : Keyed) : (s.later k).previous = s.previous := rfl
@[simp] theorem State.later_fuses (s : State) (k : Keyed) : (s.later k).fuses = s.fuses := rfl
@[simp] theorem State.later_fuseCells (s : State) (k : Keyed) : (s.later k).fuseCells = s.fuseCells := rfl
@[simp] theorem State.later_fuseTarget (s : State) (k : Keyed) : (s.later k).fuseTarget = s.fuseTarget := rfl
@[simp] theorem State.later_boot (s : State) (k : Keyed) : (s.later k).boot = s.boot := rfl
@[simp] theorem State.later_imageJob (s : State) (k : Keyed) : (s.later k).imageJob = s.imageJob := rfl
@[simp] theorem State.later_blockResets (s : State) (k : Keyed) : (s.later k).blockResets = s.blockResets := rfl
@[simp] theorem State.later_tallies (s : State) (k : Keyed) : (s.later k).tallies = s.tallies := rfl
@[simp] theorem State.later_msixWaiting (s : State) (k : Keyed) : (s.later k).msixWaiting = s.msixWaiting := rfl
@[simp] theorem State.later_linkUp (s : State) (k : Keyed) : (s.later k).linkUp = s.linkUp := rfl
@[simp] theorem State.later_busMaster (s : State) (k : Keyed) : (s.later k).busMaster = s.busMaster := rfl
@[simp] theorem State.later_dumpJobs (s : State) (k : Keyed) : (s.later k).dumpJobs = s.dumpJobs := rfl
@[simp] theorem State.later_dumpSeqs (s : State) (k : Keyed) : (s.later k).dumpSeqs = s.dumpSeqs := rfl
@[simp] theorem State.later_dumpAt (s : State) (k : Keyed) : (s.later k).dumpAt = s.dumpAt := rfl
@[simp] theorem State.later_clientSections (s : State) (k : Keyed) : (s.later k).clientSections = s.clientSections := rfl
@[simp] theorem State.later_pathSections (s : State) (k : Keyed) : (s.later k).pathSections = s.pathSections := rfl
@[simp] theorem State.later_bins (s : State) (k : Keyed) : (s.later k).bins = s.bins := rfl
@[simp] theorem State.later_secondAt (s : State) (k : Keyed) : (s.later k).secondAt = s.secondAt := rfl
@[simp] theorem State.later_thermal (s : State) (k : Keyed) : (s.later k).thermal = s.thermal := rfl

@[simp] theorem State.draw_pending (s : State) : (s.draw).pending = s.pending := rfl
@[simp] theorem State.draw_regs (s : State) : (s.draw).regs = s.regs := rfl
@[simp] theorem State.draw_act (s : State) : (s.draw).act = s.act := rfl
@[simp] theorem State.draw_ctrs (s : State) : (s.draw).ctrs = s.ctrs := rfl
@[simp] theorem State.draw_tick (s : State) : (s.draw).tick = s.tick := rfl
@[simp] theorem State.draw_now (s : State) : (s.draw).now = s.now := rfl
@[simp] theorem State.draw_atBoundary (s : State) : (s.draw).atBoundary = s.atBoundary := rfl
@[simp] theorem State.draw_answers (s : State) : (s.draw).answers = s.answers := rfl
@[simp] theorem State.draw_outbox (s : State) : (s.draw).outbox = s.outbox := rfl
@[simp] theorem State.draw_reports (s : State) : (s.draw).reports = s.reports := rfl
@[simp] theorem State.draw_logQueue (s : State) : (s.draw).logQueue = s.logQueue := rfl
@[simp] theorem State.draw_slots (s : State) : (s.draw).slots = s.slots := rfl
@[simp] theorem State.draw_logSeq (s : State) : (s.draw).logSeq = s.logSeq := rfl
@[simp] theorem State.draw_links (s : State) : (s.draw).links = s.links := rfl
@[simp] theorem State.draw_avsCore (s : State) : (s.draw).avsCore = s.avsCore := rfl
@[simp] theorem State.draw_avsLe (s : State) : (s.draw).avsLe = s.avsLe := rfl
@[simp] theorem State.draw_stores (s : State) : (s.draw).stores = s.stores := rfl
@[simp] theorem State.draw_trains (s : State) : (s.draw).trains = s.trains := rfl
@[simp] theorem State.draw_ingress (s : State) : (s.draw).ingress = s.ingress := rfl
@[simp] theorem State.draw_staged (s : State) : (s.draw).staged = s.staged := rfl
@[simp] theorem State.draw_egress (s : State) : (s.draw).egress = s.egress := rfl
@[simp] theorem State.draw_sources (s : State) : (s.draw).sources = s.sources := rfl
@[simp] theorem State.draw_banks (s : State) : (s.draw).banks = s.banks := rfl
@[simp] theorem State.draw_swap (s : State) : (s.draw).swap = s.swap := rfl
@[simp] theorem State.draw_lostTransfers (s : State) : (s.draw).lostTransfers = s.lostTransfers := rfl
@[simp] theorem State.draw_lanes (s : State) : (s.draw).lanes = s.lanes := rfl
@[simp] theorem State.draw_clients (s : State) : (s.draw).clients = s.clients := rfl
@[simp] theorem State.draw_packets (s : State) : (s.draw).packets = s.packets := rfl
@[simp] theorem State.draw_frames (s : State) : (s.draw).frames = s.frames := rfl
@[simp] theorem State.draw_taps (s : State) : (s.draw).taps = s.taps := rfl
@[simp] theorem State.draw_tapsAccepted (s : State) : (s.draw).tapsAccepted = s.tapsAccepted := rfl
@[simp] theorem State.draw_gccs (s : State) : (s.draw).gccs = s.gccs := rfl
@[simp] theorem State.draw_sections (s : State) : (s.draw).sections = s.sections := rfl
@[simp] theorem State.draw_engines (s : State) : (s.draw).engines = s.engines := rfl
@[simp] theorem State.draw_pool (s : State) : (s.draw).pool = s.pool := rfl
@[simp] theorem State.draw_enc (s : State) : (s.draw).enc = s.enc := rfl
@[simp] theorem State.draw_keyJobs (s : State) : (s.draw).keyJobs = s.keyJobs := rfl
@[simp] theorem State.draw_hubs (s : State) : (s.draw).hubs = s.hubs := rfl
@[simp] theorem State.draw_tideScs (s : State) : (s.draw).tideScs = s.tideScs := rfl
@[simp] theorem State.draw_tideLeaves (s : State) : (s.draw).tideLeaves = s.tideLeaves := rfl
@[simp] theorem State.draw_downstream (s : State) : (s.draw).downstream = s.downstream := rfl
@[simp] theorem State.draw_merges (s : State) : (s.draw).merges = s.merges := rfl
@[simp] theorem State.draw_refs (s : State) : (s.draw).refs = s.refs := rfl
@[simp] theorem State.draw_gridPll (s : State) : (s.draw).gridPll = s.gridPll := rfl
@[simp] theorem State.draw_outPll (s : State) : (s.draw).outPll = s.outPll := rfl
@[simp] theorem State.draw_timeSources (s : State) : (s.draw).timeSources = s.timeSources := rfl
@[simp] theorem State.draw_timePll (s : State) : (s.draw).timePll = s.timePll := rfl
@[simp] theorem State.draw_captures (s : State) : (s.draw).captures = s.captures := rfl
@[simp] theorem State.draw_measures (s : State) : (s.draw).measures = s.measures := rfl
@[simp] theorem State.draw_journal (s : State) : (s.draw).journal = s.journal := rfl
@[simp] theorem State.draw_mate (s : State) : (s.draw).mate = s.mate := rfl
@[simp] theorem State.draw_snapshot (s : State) : (s.draw).snapshot = s.snapshot := rfl
@[simp] theorem State.draw_snapshotBefore (s : State) : (s.draw).snapshotBefore = s.snapshotBefore := rfl
@[simp] theorem State.draw_moors (s : State) : (s.draw).moors = s.moors := rfl
@[simp] theorem State.draw_ccUser (s : State) : (s.draw).ccUser = s.ccUser := rfl
@[simp] theorem State.draw_domain (s : State) : (s.draw).domain = s.domain := rfl
@[simp] theorem State.draw_mem (s : State) : (s.draw).mem = s.mem := rfl
@[simp] theorem State.draw_badWords (s : State) : (s.draw).badWords = s.badWords := rfl
@[simp] theorem State.draw_anc (s : State) : (s.draw).anc = s.anc := rfl
@[simp] theorem State.draw_written (s : State) : (s.draw).written = s.written := rfl
@[simp] theorem State.draw_ancBad (s : State) : (s.draw).ancBad = s.ancBad := rfl
@[simp] theorem State.draw_march (s : State) : (s.draw).march = s.march := rfl
@[simp] theorem State.draw_eccHigh (s : State) : (s.draw).eccHigh = s.eccHigh := rfl
@[simp] theorem State.draw_repairColumn (s : State) : (s.draw).repairColumn = s.repairColumn := rfl
@[simp] theorem State.draw_repaired (s : State) : (s.draw).repaired = s.repaired := rfl
@[simp] theorem State.draw_cores (s : State) : (s.draw).cores = s.cores := rfl
@[simp] theorem State.draw_pcie (s : State) : (s.draw).pcie = s.pcie := rfl
@[simp] theorem State.draw_lbPage (s : State) : (s.draw).lbPage = s.lbPage := rfl
@[simp] theorem State.draw_uart (s : State) : (s.draw).uart = s.uart := rfl
@[simp] theorem State.draw_mailbox (s : State) : (s.draw).mailbox = s.mailbox := rfl
@[simp] theorem State.draw_scanning (s : State) : (s.draw).scanning = s.scanning := rfl
@[simp] theorem State.draw_image (s : State) : (s.draw).image = s.image := rfl
@[simp] theorem State.draw_committed (s : State) : (s.draw).committed = s.committed := rfl
@[simp] theorem State.draw_applied (s : State) : (s.draw).applied = s.applied := rfl
@[simp] theorem State.draw_previous (s : State) : (s.draw).previous = s.previous := rfl
@[simp] theorem State.draw_fuses (s : State) : (s.draw).fuses = s.fuses := rfl
@[simp] theorem State.draw_fuseCells (s : State) : (s.draw).fuseCells = s.fuseCells := rfl
@[simp] theorem State.draw_fuseTarget (s : State) : (s.draw).fuseTarget = s.fuseTarget := rfl
@[simp] theorem State.draw_boot (s : State) : (s.draw).boot = s.boot := rfl
@[simp] theorem State.draw_imageJob (s : State) : (s.draw).imageJob = s.imageJob := rfl
@[simp] theorem State.draw_blockResets (s : State) : (s.draw).blockResets = s.blockResets := rfl
@[simp] theorem State.draw_tallies (s : State) : (s.draw).tallies = s.tallies := rfl
@[simp] theorem State.draw_msixWaiting (s : State) : (s.draw).msixWaiting = s.msixWaiting := rfl
@[simp] theorem State.draw_linkUp (s : State) : (s.draw).linkUp = s.linkUp := rfl
@[simp] theorem State.draw_busMaster (s : State) : (s.draw).busMaster = s.busMaster := rfl
@[simp] theorem State.draw_dumpJobs (s : State) : (s.draw).dumpJobs = s.dumpJobs := rfl
@[simp] theorem State.draw_dumpSeqs (s : State) : (s.draw).dumpSeqs = s.dumpSeqs := rfl
@[simp] theorem State.draw_dumpAt (s : State) : (s.draw).dumpAt = s.dumpAt := rfl
@[simp] theorem State.draw_clientSections (s : State) : (s.draw).clientSections = s.clientSections := rfl
@[simp] theorem State.draw_pathSections (s : State) : (s.draw).pathSections = s.pathSections := rfl
@[simp] theorem State.draw_bins (s : State) : (s.draw).bins = s.bins := rfl
@[simp] theorem State.draw_secondAt (s : State) : (s.draw).secondAt = s.secondAt := rfl
@[simp] theorem State.draw_thermal (s : State) : (s.draw).thermal = s.thermal := rfl

@[simp] theorem State.sramWord_pending (s : State) (a : Nat) (l : List Byte) : (s.sramWord a l).pending = s.pending := rfl
@[simp] theorem State.sramWord_regs (s : State) (a : Nat) (l : List Byte) : (s.sramWord a l).regs = s.regs := rfl
@[simp] theorem State.sramWord_act (s : State) (a : Nat) (l : List Byte) : (s.sramWord a l).act = s.act := rfl
@[simp] theorem State.sramWord_ctrs (s : State) (a : Nat) (l : List Byte) : (s.sramWord a l).ctrs = s.ctrs := rfl
@[simp] theorem State.sramWord_tick (s : State) (a : Nat) (l : List Byte) : (s.sramWord a l).tick = s.tick := rfl
@[simp] theorem State.sramWord_now (s : State) (a : Nat) (l : List Byte) : (s.sramWord a l).now = s.now := rfl
@[simp] theorem State.sramWord_free (s : State) (a : Nat) (l : List Byte) : (s.sramWord a l).free = s.free := rfl
@[simp] theorem State.sramWord_atBoundary (s : State) (a : Nat) (l : List Byte) : (s.sramWord a l).atBoundary = s.atBoundary := rfl
@[simp] theorem State.sramWord_answers (s : State) (a : Nat) (l : List Byte) : (s.sramWord a l).answers = s.answers := rfl
@[simp] theorem State.sramWord_outbox (s : State) (a : Nat) (l : List Byte) : (s.sramWord a l).outbox = s.outbox := rfl
@[simp] theorem State.sramWord_reports (s : State) (a : Nat) (l : List Byte) : (s.sramWord a l).reports = s.reports := rfl
@[simp] theorem State.sramWord_logQueue (s : State) (a : Nat) (l : List Byte) : (s.sramWord a l).logQueue = s.logQueue := rfl
@[simp] theorem State.sramWord_slots (s : State) (a : Nat) (l : List Byte) : (s.sramWord a l).slots = s.slots := rfl
@[simp] theorem State.sramWord_logSeq (s : State) (a : Nat) (l : List Byte) : (s.sramWord a l).logSeq = s.logSeq := rfl
@[simp] theorem State.sramWord_links (s : State) (a : Nat) (l : List Byte) : (s.sramWord a l).links = s.links := rfl
@[simp] theorem State.sramWord_avsCore (s : State) (a : Nat) (l : List Byte) : (s.sramWord a l).avsCore = s.avsCore := rfl
@[simp] theorem State.sramWord_avsLe (s : State) (a : Nat) (l : List Byte) : (s.sramWord a l).avsLe = s.avsLe := rfl
@[simp] theorem State.sramWord_stores (s : State) (a : Nat) (l : List Byte) : (s.sramWord a l).stores = s.stores := rfl
@[simp] theorem State.sramWord_trains (s : State) (a : Nat) (l : List Byte) : (s.sramWord a l).trains = s.trains := rfl
@[simp] theorem State.sramWord_ingress (s : State) (a : Nat) (l : List Byte) : (s.sramWord a l).ingress = s.ingress := rfl
@[simp] theorem State.sramWord_staged (s : State) (a : Nat) (l : List Byte) : (s.sramWord a l).staged = s.staged := rfl
@[simp] theorem State.sramWord_egress (s : State) (a : Nat) (l : List Byte) : (s.sramWord a l).egress = s.egress := rfl
@[simp] theorem State.sramWord_sources (s : State) (a : Nat) (l : List Byte) : (s.sramWord a l).sources = s.sources := rfl
@[simp] theorem State.sramWord_banks (s : State) (a : Nat) (l : List Byte) : (s.sramWord a l).banks = s.banks := rfl
@[simp] theorem State.sramWord_swap (s : State) (a : Nat) (l : List Byte) : (s.sramWord a l).swap = s.swap := rfl
@[simp] theorem State.sramWord_lostTransfers (s : State) (a : Nat) (l : List Byte) : (s.sramWord a l).lostTransfers = s.lostTransfers := rfl
@[simp] theorem State.sramWord_lanes (s : State) (a : Nat) (l : List Byte) : (s.sramWord a l).lanes = s.lanes := rfl
@[simp] theorem State.sramWord_clients (s : State) (a : Nat) (l : List Byte) : (s.sramWord a l).clients = s.clients := rfl
@[simp] theorem State.sramWord_packets (s : State) (a : Nat) (l : List Byte) : (s.sramWord a l).packets = s.packets := rfl
@[simp] theorem State.sramWord_frames (s : State) (a : Nat) (l : List Byte) : (s.sramWord a l).frames = s.frames := rfl
@[simp] theorem State.sramWord_taps (s : State) (a : Nat) (l : List Byte) : (s.sramWord a l).taps = s.taps := rfl
@[simp] theorem State.sramWord_tapsAccepted (s : State) (a : Nat) (l : List Byte) : (s.sramWord a l).tapsAccepted = s.tapsAccepted := rfl
@[simp] theorem State.sramWord_gccs (s : State) (a : Nat) (l : List Byte) : (s.sramWord a l).gccs = s.gccs := rfl
@[simp] theorem State.sramWord_sections (s : State) (a : Nat) (l : List Byte) : (s.sramWord a l).sections = s.sections := rfl
@[simp] theorem State.sramWord_engines (s : State) (a : Nat) (l : List Byte) : (s.sramWord a l).engines = s.engines := rfl
@[simp] theorem State.sramWord_pool (s : State) (a : Nat) (l : List Byte) : (s.sramWord a l).pool = s.pool := rfl
@[simp] theorem State.sramWord_enc (s : State) (a : Nat) (l : List Byte) : (s.sramWord a l).enc = s.enc := rfl
@[simp] theorem State.sramWord_keyJobs (s : State) (a : Nat) (l : List Byte) : (s.sramWord a l).keyJobs = s.keyJobs := rfl
@[simp] theorem State.sramWord_hubs (s : State) (a : Nat) (l : List Byte) : (s.sramWord a l).hubs = s.hubs := rfl
@[simp] theorem State.sramWord_tideScs (s : State) (a : Nat) (l : List Byte) : (s.sramWord a l).tideScs = s.tideScs := rfl
@[simp] theorem State.sramWord_tideLeaves (s : State) (a : Nat) (l : List Byte) : (s.sramWord a l).tideLeaves = s.tideLeaves := rfl
@[simp] theorem State.sramWord_downstream (s : State) (a : Nat) (l : List Byte) : (s.sramWord a l).downstream = s.downstream := rfl
@[simp] theorem State.sramWord_merges (s : State) (a : Nat) (l : List Byte) : (s.sramWord a l).merges = s.merges := rfl
@[simp] theorem State.sramWord_refs (s : State) (a : Nat) (l : List Byte) : (s.sramWord a l).refs = s.refs := rfl
@[simp] theorem State.sramWord_gridPll (s : State) (a : Nat) (l : List Byte) : (s.sramWord a l).gridPll = s.gridPll := rfl
@[simp] theorem State.sramWord_outPll (s : State) (a : Nat) (l : List Byte) : (s.sramWord a l).outPll = s.outPll := rfl
@[simp] theorem State.sramWord_timeSources (s : State) (a : Nat) (l : List Byte) : (s.sramWord a l).timeSources = s.timeSources := rfl
@[simp] theorem State.sramWord_timePll (s : State) (a : Nat) (l : List Byte) : (s.sramWord a l).timePll = s.timePll := rfl
@[simp] theorem State.sramWord_captures (s : State) (a : Nat) (l : List Byte) : (s.sramWord a l).captures = s.captures := rfl
@[simp] theorem State.sramWord_measures (s : State) (a : Nat) (l : List Byte) : (s.sramWord a l).measures = s.measures := rfl
@[simp] theorem State.sramWord_journal (s : State) (a : Nat) (l : List Byte) : (s.sramWord a l).journal = s.journal := rfl
@[simp] theorem State.sramWord_mate (s : State) (a : Nat) (l : List Byte) : (s.sramWord a l).mate = s.mate := rfl
@[simp] theorem State.sramWord_snapshot (s : State) (a : Nat) (l : List Byte) : (s.sramWord a l).snapshot = s.snapshot := rfl
@[simp] theorem State.sramWord_snapshotBefore (s : State) (a : Nat) (l : List Byte) : (s.sramWord a l).snapshotBefore = s.snapshotBefore := rfl
@[simp] theorem State.sramWord_moors (s : State) (a : Nat) (l : List Byte) : (s.sramWord a l).moors = s.moors := rfl
@[simp] theorem State.sramWord_ccUser (s : State) (a : Nat) (l : List Byte) : (s.sramWord a l).ccUser = s.ccUser := rfl
@[simp] theorem State.sramWord_domain (s : State) (a : Nat) (l : List Byte) : (s.sramWord a l).domain = s.domain := rfl
@[simp] theorem State.sramWord_anc (s : State) (a : Nat) (l : List Byte) : (s.sramWord a l).anc = s.anc := rfl
@[simp] theorem State.sramWord_written (s : State) (a : Nat) (l : List Byte) : (s.sramWord a l).written = s.written := rfl
@[simp] theorem State.sramWord_ancBad (s : State) (a : Nat) (l : List Byte) : (s.sramWord a l).ancBad = s.ancBad := rfl
@[simp] theorem State.sramWord_march (s : State) (a : Nat) (l : List Byte) : (s.sramWord a l).march = s.march := rfl
@[simp] theorem State.sramWord_eccHigh (s : State) (a : Nat) (l : List Byte) : (s.sramWord a l).eccHigh = s.eccHigh := rfl
@[simp] theorem State.sramWord_repairColumn (s : State) (a : Nat) (l : List Byte) : (s.sramWord a l).repairColumn = s.repairColumn := rfl
@[simp] theorem State.sramWord_repaired (s : State) (a : Nat) (l : List Byte) : (s.sramWord a l).repaired = s.repaired := rfl
@[simp] theorem State.sramWord_cores (s : State) (a : Nat) (l : List Byte) : (s.sramWord a l).cores = s.cores := rfl
@[simp] theorem State.sramWord_pcie (s : State) (a : Nat) (l : List Byte) : (s.sramWord a l).pcie = s.pcie := rfl
@[simp] theorem State.sramWord_lbPage (s : State) (a : Nat) (l : List Byte) : (s.sramWord a l).lbPage = s.lbPage := rfl
@[simp] theorem State.sramWord_uart (s : State) (a : Nat) (l : List Byte) : (s.sramWord a l).uart = s.uart := rfl
@[simp] theorem State.sramWord_mailbox (s : State) (a : Nat) (l : List Byte) : (s.sramWord a l).mailbox = s.mailbox := rfl
@[simp] theorem State.sramWord_scanning (s : State) (a : Nat) (l : List Byte) : (s.sramWord a l).scanning = s.scanning := rfl
@[simp] theorem State.sramWord_image (s : State) (a : Nat) (l : List Byte) : (s.sramWord a l).image = s.image := rfl
@[simp] theorem State.sramWord_committed (s : State) (a : Nat) (l : List Byte) : (s.sramWord a l).committed = s.committed := rfl
@[simp] theorem State.sramWord_applied (s : State) (a : Nat) (l : List Byte) : (s.sramWord a l).applied = s.applied := rfl
@[simp] theorem State.sramWord_previous (s : State) (a : Nat) (l : List Byte) : (s.sramWord a l).previous = s.previous := rfl
@[simp] theorem State.sramWord_fuses (s : State) (a : Nat) (l : List Byte) : (s.sramWord a l).fuses = s.fuses := rfl
@[simp] theorem State.sramWord_fuseCells (s : State) (a : Nat) (l : List Byte) : (s.sramWord a l).fuseCells = s.fuseCells := rfl
@[simp] theorem State.sramWord_fuseTarget (s : State) (a : Nat) (l : List Byte) : (s.sramWord a l).fuseTarget = s.fuseTarget := rfl
@[simp] theorem State.sramWord_boot (s : State) (a : Nat) (l : List Byte) : (s.sramWord a l).boot = s.boot := rfl
@[simp] theorem State.sramWord_imageJob (s : State) (a : Nat) (l : List Byte) : (s.sramWord a l).imageJob = s.imageJob := rfl
@[simp] theorem State.sramWord_blockResets (s : State) (a : Nat) (l : List Byte) : (s.sramWord a l).blockResets = s.blockResets := rfl
@[simp] theorem State.sramWord_tallies (s : State) (a : Nat) (l : List Byte) : (s.sramWord a l).tallies = s.tallies := rfl
@[simp] theorem State.sramWord_msixWaiting (s : State) (a : Nat) (l : List Byte) : (s.sramWord a l).msixWaiting = s.msixWaiting := rfl
@[simp] theorem State.sramWord_linkUp (s : State) (a : Nat) (l : List Byte) : (s.sramWord a l).linkUp = s.linkUp := rfl
@[simp] theorem State.sramWord_busMaster (s : State) (a : Nat) (l : List Byte) : (s.sramWord a l).busMaster = s.busMaster := rfl
@[simp] theorem State.sramWord_dumpJobs (s : State) (a : Nat) (l : List Byte) : (s.sramWord a l).dumpJobs = s.dumpJobs := rfl
@[simp] theorem State.sramWord_dumpSeqs (s : State) (a : Nat) (l : List Byte) : (s.sramWord a l).dumpSeqs = s.dumpSeqs := rfl
@[simp] theorem State.sramWord_dumpAt (s : State) (a : Nat) (l : List Byte) : (s.sramWord a l).dumpAt = s.dumpAt := rfl
@[simp] theorem State.sramWord_clientSections (s : State) (a : Nat) (l : List Byte) : (s.sramWord a l).clientSections = s.clientSections := rfl
@[simp] theorem State.sramWord_pathSections (s : State) (a : Nat) (l : List Byte) : (s.sramWord a l).pathSections = s.pathSections := rfl
@[simp] theorem State.sramWord_bins (s : State) (a : Nat) (l : List Byte) : (s.sramWord a l).bins = s.bins := rfl
@[simp] theorem State.sramWord_secondAt (s : State) (a : Nat) (l : List Byte) : (s.sramWord a l).secondAt = s.secondAt := rfl
@[simp] theorem State.sramWord_thermal (s : State) (a : Nat) (l : List Byte) : (s.sramWord a l).thermal = s.thermal := rfl

@[simp] theorem State.send_outbox (s : State) (o : Out) : (s.send o).outbox = s.outbox ++ [o] := rfl

@[simp] theorem State.later_atBoundary (s : State) (k : Keyed) : (s.later k).atBoundary = s.atBoundary ++ [k] := rfl

@[simp] theorem State.draw_free (s : State) : s.draw.free = s.free + 1 := rfl

end Sys2Proof.Machine
end

