-- ==== Sys2Proof/Laws/Events.lean ====
section
/-! SUPPORT. What raising an event, a report and an error response leave alone, and what they do. -/

namespace Sys2Proof.Machine

set_option Elab.async false

@[simp] theorem State.sendMsix_pending (s : State) (v : Nat) : (s.sendMsix v).pending = s.pending := by
  unfold State.sendMsix; split <;> rfl
@[simp] theorem State.sendMsix_regs (s : State) (v : Nat) : (s.sendMsix v).regs = s.regs := by
  unfold State.sendMsix; split <;> rfl
@[simp] theorem State.sendMsix_act (s : State) (v : Nat) : (s.sendMsix v).act = s.act := by
  unfold State.sendMsix; split <;> rfl
@[simp] theorem State.sendMsix_ctrs (s : State) (v : Nat) : (s.sendMsix v).ctrs = s.ctrs := by
  unfold State.sendMsix; split <;> rfl
@[simp] theorem State.sendMsix_tick (s : State) (v : Nat) : (s.sendMsix v).tick = s.tick := by
  unfold State.sendMsix; split <;> rfl
@[simp] theorem State.sendMsix_now (s : State) (v : Nat) : (s.sendMsix v).now = s.now := by
  unfold State.sendMsix; split <;> rfl
@[simp] theorem State.sendMsix_free (s : State) (v : Nat) : (s.sendMsix v).free = s.free := by
  unfold State.sendMsix; split <;> rfl
@[simp] theorem State.sendMsix_atBoundary (s : State) (v : Nat) : (s.sendMsix v).atBoundary = s.atBoundary := by
  unfold State.sendMsix; split <;> rfl
@[simp] theorem State.sendMsix_answers (s : State) (v : Nat) : (s.sendMsix v).answers = s.answers := by
  unfold State.sendMsix; split <;> rfl
@[simp] theorem State.sendMsix_reports (s : State) (v : Nat) : (s.sendMsix v).reports = s.reports := by
  unfold State.sendMsix; split <;> rfl
@[simp] theorem State.sendMsix_logQueue (s : State) (v : Nat) : (s.sendMsix v).logQueue = s.logQueue := by
  unfold State.sendMsix; split <;> rfl
@[simp] theorem State.sendMsix_slots (s : State) (v : Nat) : (s.sendMsix v).slots = s.slots := by
  unfold State.sendMsix; split <;> rfl
@[simp] theorem State.sendMsix_logSeq (s : State) (v : Nat) : (s.sendMsix v).logSeq = s.logSeq := by
  unfold State.sendMsix; split <;> rfl
@[simp] theorem State.sendMsix_links (s : State) (v : Nat) : (s.sendMsix v).links = s.links := by
  unfold State.sendMsix; split <;> rfl
@[simp] theorem State.sendMsix_avsCore (s : State) (v : Nat) : (s.sendMsix v).avsCore = s.avsCore := by
  unfold State.sendMsix; split <;> rfl
@[simp] theorem State.sendMsix_avsLe (s : State) (v : Nat) : (s.sendMsix v).avsLe = s.avsLe := by
  unfold State.sendMsix; split <;> rfl
@[simp] theorem State.sendMsix_stores (s : State) (v : Nat) : (s.sendMsix v).stores = s.stores := by
  unfold State.sendMsix; split <;> rfl
@[simp] theorem State.sendMsix_trains (s : State) (v : Nat) : (s.sendMsix v).trains = s.trains := by
  unfold State.sendMsix; split <;> rfl
@[simp] theorem State.sendMsix_ingress (s : State) (v : Nat) : (s.sendMsix v).ingress = s.ingress := by
  unfold State.sendMsix; split <;> rfl
@[simp] theorem State.sendMsix_staged (s : State) (v : Nat) : (s.sendMsix v).staged = s.staged := by
  unfold State.sendMsix; split <;> rfl
@[simp] theorem State.sendMsix_egress (s : State) (v : Nat) : (s.sendMsix v).egress = s.egress := by
  unfold State.sendMsix; split <;> rfl
@[simp] theorem State.sendMsix_sources (s : State) (v : Nat) : (s.sendMsix v).sources = s.sources := by
  unfold State.sendMsix; split <;> rfl
@[simp] theorem State.sendMsix_banks (s : State) (v : Nat) : (s.sendMsix v).banks = s.banks := by
  unfold State.sendMsix; split <;> rfl
@[simp] theorem State.sendMsix_swap (s : State) (v : Nat) : (s.sendMsix v).swap = s.swap := by
  unfold State.sendMsix; split <;> rfl
@[simp] theorem State.sendMsix_lostTransfers (s : State) (v : Nat) : (s.sendMsix v).lostTransfers = s.lostTransfers := by
  unfold State.sendMsix; split <;> rfl
@[simp] theorem State.sendMsix_lanes (s : State) (v : Nat) : (s.sendMsix v).lanes = s.lanes := by
  unfold State.sendMsix; split <;> rfl
@[simp] theorem State.sendMsix_clients (s : State) (v : Nat) : (s.sendMsix v).clients = s.clients := by
  unfold State.sendMsix; split <;> rfl
@[simp] theorem State.sendMsix_packets (s : State) (v : Nat) : (s.sendMsix v).packets = s.packets := by
  unfold State.sendMsix; split <;> rfl
@[simp] theorem State.sendMsix_frames (s : State) (v : Nat) : (s.sendMsix v).frames = s.frames := by
  unfold State.sendMsix; split <;> rfl
@[simp] theorem State.sendMsix_taps (s : State) (v : Nat) : (s.sendMsix v).taps = s.taps := by
  unfold State.sendMsix; split <;> rfl
@[simp] theorem State.sendMsix_tapsAccepted (s : State) (v : Nat) : (s.sendMsix v).tapsAccepted = s.tapsAccepted := by
  unfold State.sendMsix; split <;> rfl
@[simp] theorem State.sendMsix_gccs (s : State) (v : Nat) : (s.sendMsix v).gccs = s.gccs := by
  unfold State.sendMsix; split <;> rfl
@[simp] theorem State.sendMsix_sections (s : State) (v : Nat) : (s.sendMsix v).sections = s.sections := by
  unfold State.sendMsix; split <;> rfl
@[simp] theorem State.sendMsix_engines (s : State) (v : Nat) : (s.sendMsix v).engines = s.engines := by
  unfold State.sendMsix; split <;> rfl
@[simp] theorem State.sendMsix_pool (s : State) (v : Nat) : (s.sendMsix v).pool = s.pool := by
  unfold State.sendMsix; split <;> rfl
@[simp] theorem State.sendMsix_enc (s : State) (v : Nat) : (s.sendMsix v).enc = s.enc := by
  unfold State.sendMsix; split <;> rfl
@[simp] theorem State.sendMsix_keyJobs (s : State) (v : Nat) : (s.sendMsix v).keyJobs = s.keyJobs := by
  unfold State.sendMsix; split <;> rfl
@[simp] theorem State.sendMsix_hubs (s : State) (v : Nat) : (s.sendMsix v).hubs = s.hubs := by
  unfold State.sendMsix; split <;> rfl
@[simp] theorem State.sendMsix_tideScs (s : State) (v : Nat) : (s.sendMsix v).tideScs = s.tideScs := by
  unfold State.sendMsix; split <;> rfl
@[simp] theorem State.sendMsix_tideLeaves (s : State) (v : Nat) : (s.sendMsix v).tideLeaves = s.tideLeaves := by
  unfold State.sendMsix; split <;> rfl
@[simp] theorem State.sendMsix_downstream (s : State) (v : Nat) : (s.sendMsix v).downstream = s.downstream := by
  unfold State.sendMsix; split <;> rfl
@[simp] theorem State.sendMsix_merges (s : State) (v : Nat) : (s.sendMsix v).merges = s.merges := by
  unfold State.sendMsix; split <;> rfl
@[simp] theorem State.sendMsix_refs (s : State) (v : Nat) : (s.sendMsix v).refs = s.refs := by
  unfold State.sendMsix; split <;> rfl
@[simp] theorem State.sendMsix_gridPll (s : State) (v : Nat) : (s.sendMsix v).gridPll = s.gridPll := by
  unfold State.sendMsix; split <;> rfl
@[simp] theorem State.sendMsix_outPll (s : State) (v : Nat) : (s.sendMsix v).outPll = s.outPll := by
  unfold State.sendMsix; split <;> rfl
@[simp] theorem State.sendMsix_timeSources (s : State) (v : Nat) : (s.sendMsix v).timeSources = s.timeSources := by
  unfold State.sendMsix; split <;> rfl
@[simp] theorem State.sendMsix_timePll (s : State) (v : Nat) : (s.sendMsix v).timePll = s.timePll := by
  unfold State.sendMsix; split <;> rfl
@[simp] theorem State.sendMsix_captures (s : State) (v : Nat) : (s.sendMsix v).captures = s.captures := by
  unfold State.sendMsix; split <;> rfl
@[simp] theorem State.sendMsix_measures (s : State) (v : Nat) : (s.sendMsix v).measures = s.measures := by
  unfold State.sendMsix; split <;> rfl
@[simp] theorem State.sendMsix_journal (s : State) (v : Nat) : (s.sendMsix v).journal = s.journal := by
  unfold State.sendMsix; split <;> rfl
@[simp] theorem State.sendMsix_mate (s : State) (v : Nat) : (s.sendMsix v).mate = s.mate := by
  unfold State.sendMsix; split <;> rfl
@[simp] theorem State.sendMsix_snapshot (s : State) (v : Nat) : (s.sendMsix v).snapshot = s.snapshot := by
  unfold State.sendMsix; split <;> rfl
@[simp] theorem State.sendMsix_snapshotBefore (s : State) (v : Nat) : (s.sendMsix v).snapshotBefore = s.snapshotBefore := by
  unfold State.sendMsix; split <;> rfl
@[simp] theorem State.sendMsix_moors (s : State) (v : Nat) : (s.sendMsix v).moors = s.moors := by
  unfold State.sendMsix; split <;> rfl
@[simp] theorem State.sendMsix_ccUser (s : State) (v : Nat) : (s.sendMsix v).ccUser = s.ccUser := by
  unfold State.sendMsix; split <;> rfl
@[simp] theorem State.sendMsix_domain (s : State) (v : Nat) : (s.sendMsix v).domain = s.domain := by
  unfold State.sendMsix; split <;> rfl
@[simp] theorem State.sendMsix_mem (s : State) (v : Nat) : (s.sendMsix v).mem = s.mem := by
  unfold State.sendMsix; split <;> rfl
@[simp] theorem State.sendMsix_badWords (s : State) (v : Nat) : (s.sendMsix v).badWords = s.badWords := by
  unfold State.sendMsix; split <;> rfl
@[simp] theorem State.sendMsix_anc (s : State) (v : Nat) : (s.sendMsix v).anc = s.anc := by
  unfold State.sendMsix; split <;> rfl
@[simp] theorem State.sendMsix_written (s : State) (v : Nat) : (s.sendMsix v).written = s.written := by
  unfold State.sendMsix; split <;> rfl
@[simp] theorem State.sendMsix_ancBad (s : State) (v : Nat) : (s.sendMsix v).ancBad = s.ancBad := by
  unfold State.sendMsix; split <;> rfl
@[simp] theorem State.sendMsix_march (s : State) (v : Nat) : (s.sendMsix v).march = s.march := by
  unfold State.sendMsix; split <;> rfl
@[simp] theorem State.sendMsix_eccHigh (s : State) (v : Nat) : (s.sendMsix v).eccHigh = s.eccHigh := by
  unfold State.sendMsix; split <;> rfl
@[simp] theorem State.sendMsix_repairColumn (s : State) (v : Nat) : (s.sendMsix v).repairColumn = s.repairColumn := by
  unfold State.sendMsix; split <;> rfl
@[simp] theorem State.sendMsix_repaired (s : State) (v : Nat) : (s.sendMsix v).repaired = s.repaired := by
  unfold State.sendMsix; split <;> rfl
@[simp] theorem State.sendMsix_cores (s : State) (v : Nat) : (s.sendMsix v).cores = s.cores := by
  unfold State.sendMsix; split <;> rfl
@[simp] theorem State.sendMsix_pcie (s : State) (v : Nat) : (s.sendMsix v).pcie = s.pcie := by
  unfold State.sendMsix; split <;> rfl
@[simp] theorem State.sendMsix_lbPage (s : State) (v : Nat) : (s.sendMsix v).lbPage = s.lbPage := by
  unfold State.sendMsix; split <;> rfl
@[simp] theorem State.sendMsix_uart (s : State) (v : Nat) : (s.sendMsix v).uart = s.uart := by
  unfold State.sendMsix; split <;> rfl
@[simp] theorem State.sendMsix_mailbox (s : State) (v : Nat) : (s.sendMsix v).mailbox = s.mailbox := by
  unfold State.sendMsix; split <;> rfl
@[simp] theorem State.sendMsix_scanning (s : State) (v : Nat) : (s.sendMsix v).scanning = s.scanning := by
  unfold State.sendMsix; split <;> rfl
@[simp] theorem State.sendMsix_image (s : State) (v : Nat) : (s.sendMsix v).image = s.image := by
  unfold State.sendMsix; split <;> rfl
@[simp] theorem State.sendMsix_committed (s : State) (v : Nat) : (s.sendMsix v).committed = s.committed := by
  unfold State.sendMsix; split <;> rfl
@[simp] theorem State.sendMsix_applied (s : State) (v : Nat) : (s.sendMsix v).applied = s.applied := by
  unfold State.sendMsix; split <;> rfl
@[simp] theorem State.sendMsix_previous (s : State) (v : Nat) : (s.sendMsix v).previous = s.previous := by
  unfold State.sendMsix; split <;> rfl
@[simp] theorem State.sendMsix_fuses (s : State) (v : Nat) : (s.sendMsix v).fuses = s.fuses := by
  unfold State.sendMsix; split <;> rfl
@[simp] theorem State.sendMsix_fuseCells (s : State) (v : Nat) : (s.sendMsix v).fuseCells = s.fuseCells := by
  unfold State.sendMsix; split <;> rfl
@[simp] theorem State.sendMsix_fuseTarget (s : State) (v : Nat) : (s.sendMsix v).fuseTarget = s.fuseTarget := by
  unfold State.sendMsix; split <;> rfl
@[simp] theorem State.sendMsix_boot (s : State) (v : Nat) : (s.sendMsix v).boot = s.boot := by
  unfold State.sendMsix; split <;> rfl
@[simp] theorem State.sendMsix_imageJob (s : State) (v : Nat) : (s.sendMsix v).imageJob = s.imageJob := by
  unfold State.sendMsix; split <;> rfl
@[simp] theorem State.sendMsix_blockResets (s : State) (v : Nat) : (s.sendMsix v).blockResets = s.blockResets := by
  unfold State.sendMsix; split <;> rfl
@[simp] theorem State.sendMsix_tallies (s : State) (v : Nat) : (s.sendMsix v).tallies = s.tallies := by
  unfold State.sendMsix; split <;> rfl
@[simp] theorem State.sendMsix_linkUp (s : State) (v : Nat) : (s.sendMsix v).linkUp = s.linkUp := by
  unfold State.sendMsix; split <;> rfl
@[simp] theorem State.sendMsix_busMaster (s : State) (v : Nat) : (s.sendMsix v).busMaster = s.busMaster := by
  unfold State.sendMsix; split <;> rfl
@[simp] theorem State.sendMsix_dumpJobs (s : State) (v : Nat) : (s.sendMsix v).dumpJobs = s.dumpJobs := by
  unfold State.sendMsix; split <;> rfl
@[simp] theorem State.sendMsix_dumpSeqs (s : State) (v : Nat) : (s.sendMsix v).dumpSeqs = s.dumpSeqs := by
  unfold State.sendMsix; split <;> rfl
@[simp] theorem State.sendMsix_dumpAt (s : State) (v : Nat) : (s.sendMsix v).dumpAt = s.dumpAt := by
  unfold State.sendMsix; split <;> rfl
@[simp] theorem State.sendMsix_clientSections (s : State) (v : Nat) : (s.sendMsix v).clientSections = s.clientSections := by
  unfold State.sendMsix; split <;> rfl
@[simp] theorem State.sendMsix_pathSections (s : State) (v : Nat) : (s.sendMsix v).pathSections = s.pathSections := by
  unfold State.sendMsix; split <;> rfl
@[simp] theorem State.sendMsix_bins (s : State) (v : Nat) : (s.sendMsix v).bins = s.bins := by
  unfold State.sendMsix; split <;> rfl
@[simp] theorem State.sendMsix_secondAt (s : State) (v : Nat) : (s.sendMsix v).secondAt = s.secondAt := by
  unfold State.sendMsix; split <;> rfl
@[simp] theorem State.sendMsix_thermal (s : State) (v : Nat) : (s.sendMsix v).thermal = s.thermal := by
  unfold State.sendMsix; split <;> rfl

@[simp] theorem State.report_pending (s : State) (a b c d : Nat) : (s.report a b c d).pending = s.pending := by
  unfold State.report; dsimp only; split <;> simp <;> rfl
@[simp] theorem State.report_act (s : State) (a b c d : Nat) : (s.report a b c d).act = s.act := by
  unfold State.report; dsimp only; split <;> simp <;> rfl
@[simp] theorem State.report_ctrs (s : State) (a b c d : Nat) : (s.report a b c d).ctrs = s.ctrs := by
  unfold State.report; dsimp only; split <;> simp <;> rfl
@[simp] theorem State.report_tick (s : State) (a b c d : Nat) : (s.report a b c d).tick = s.tick := by
  unfold State.report; dsimp only; split <;> simp <;> rfl
@[simp] theorem State.report_now (s : State) (a b c d : Nat) : (s.report a b c d).now = s.now := by
  unfold State.report; dsimp only; split <;> simp <;> rfl
@[simp] theorem State.report_free (s : State) (a b c d : Nat) : (s.report a b c d).free = s.free := by
  unfold State.report; dsimp only; split <;> simp <;> rfl
@[simp] theorem State.report_atBoundary (s : State) (a b c d : Nat) : (s.report a b c d).atBoundary = s.atBoundary := by
  unfold State.report; dsimp only; split <;> simp <;> rfl
@[simp] theorem State.report_answers (s : State) (a b c d : Nat) : (s.report a b c d).answers = s.answers := by
  unfold State.report; dsimp only; split <;> simp <;> rfl
@[simp] theorem State.report_logQueue (s : State) (a b c d : Nat) : (s.report a b c d).logQueue = s.logQueue := by
  unfold State.report; dsimp only; split <;> simp <;> rfl
@[simp] theorem State.report_slots (s : State) (a b c d : Nat) : (s.report a b c d).slots = s.slots := by
  unfold State.report; dsimp only; split <;> simp <;> rfl
@[simp] theorem State.report_logSeq (s : State) (a b c d : Nat) : (s.report a b c d).logSeq = s.logSeq := by
  unfold State.report; dsimp only; split <;> simp <;> rfl
@[simp] theorem State.report_links (s : State) (a b c d : Nat) : (s.report a b c d).links = s.links := by
  unfold State.report; dsimp only; split <;> simp <;> rfl
@[simp] theorem State.report_avsCore (s : State) (a b c d : Nat) : (s.report a b c d).avsCore = s.avsCore := by
  unfold State.report; dsimp only; split <;> simp <;> rfl
@[simp] theorem State.report_avsLe (s : State) (a b c d : Nat) : (s.report a b c d).avsLe = s.avsLe := by
  unfold State.report; dsimp only; split <;> simp <;> rfl
@[simp] theorem State.report_stores (s : State) (a b c d : Nat) : (s.report a b c d).stores = s.stores := by
  unfold State.report; dsimp only; split <;> simp <;> rfl
@[simp] theorem State.report_trains (s : State) (a b c d : Nat) : (s.report a b c d).trains = s.trains := by
  unfold State.report; dsimp only; split <;> simp <;> rfl
@[simp] theorem State.report_ingress (s : State) (a b c d : Nat) : (s.report a b c d).ingress = s.ingress := by
  unfold State.report; dsimp only; split <;> simp <;> rfl
@[simp] theorem State.report_staged (s : State) (a b c d : Nat) : (s.report a b c d).staged = s.staged := by
  unfold State.report; dsimp only; split <;> simp <;> rfl
@[simp] theorem State.report_egress (s : State) (a b c d : Nat) : (s.report a b c d).egress = s.egress := by
  unfold State.report; dsimp only; split <;> simp <;> rfl
@[simp] theorem State.report_sources (s : State) (a b c d : Nat) : (s.report a b c d).sources = s.sources := by
  unfold State.report; dsimp only; split <;> simp <;> rfl
@[simp] theorem State.report_banks (s : State) (a b c d : Nat) : (s.report a b c d).banks = s.banks := by
  unfold State.report; dsimp only; split <;> simp <;> rfl
@[simp] theorem State.report_swap (s : State) (a b c d : Nat) : (s.report a b c d).swap = s.swap := by
  unfold State.report; dsimp only; split <;> simp <;> rfl
@[simp] theorem State.report_lostTransfers (s : State) (a b c d : Nat) : (s.report a b c d).lostTransfers = s.lostTransfers := by
  unfold State.report; dsimp only; split <;> simp <;> rfl
@[simp] theorem State.report_lanes (s : State) (a b c d : Nat) : (s.report a b c d).lanes = s.lanes := by
  unfold State.report; dsimp only; split <;> simp <;> rfl
@[simp] theorem State.report_clients (s : State) (a b c d : Nat) : (s.report a b c d).clients = s.clients := by
  unfold State.report; dsimp only; split <;> simp <;> rfl
@[simp] theorem State.report_packets (s : State) (a b c d : Nat) : (s.report a b c d).packets = s.packets := by
  unfold State.report; dsimp only; split <;> simp <;> rfl
@[simp] theorem State.report_frames (s : State) (a b c d : Nat) : (s.report a b c d).frames = s.frames := by
  unfold State.report; dsimp only; split <;> simp <;> rfl
@[simp] theorem State.report_taps (s : State) (a b c d : Nat) : (s.report a b c d).taps = s.taps := by
  unfold State.report; dsimp only; split <;> simp <;> rfl
@[simp] theorem State.report_tapsAccepted (s : State) (a b c d : Nat) : (s.report a b c d).tapsAccepted = s.tapsAccepted := by
  unfold State.report; dsimp only; split <;> simp <;> rfl
@[simp] theorem State.report_gccs (s : State) (a b c d : Nat) : (s.report a b c d).gccs = s.gccs := by
  unfold State.report; dsimp only; split <;> simp <;> rfl
@[simp] theorem State.report_sections (s : State) (a b c d : Nat) : (s.report a b c d).sections = s.sections := by
  unfold State.report; dsimp only; split <;> simp <;> rfl
@[simp] theorem State.report_engines (s : State) (a b c d : Nat) : (s.report a b c d).engines = s.engines := by
  unfold State.report; dsimp only; split <;> simp <;> rfl
@[simp] theorem State.report_pool (s : State) (a b c d : Nat) : (s.report a b c d).pool = s.pool := by
  unfold State.report; dsimp only; split <;> simp <;> rfl
@[simp] theorem State.report_enc (s : State) (a b c d : Nat) : (s.report a b c d).enc = s.enc := by
  unfold State.report; dsimp only; split <;> simp <;> rfl
@[simp] theorem State.report_keyJobs (s : State) (a b c d : Nat) : (s.report a b c d).keyJobs = s.keyJobs := by
  unfold State.report; dsimp only; split <;> simp <;> rfl
@[simp] theorem State.report_hubs (s : State) (a b c d : Nat) : (s.report a b c d).hubs = s.hubs := by
  unfold State.report; dsimp only; split <;> simp <;> rfl
@[simp] theorem State.report_tideScs (s : State) (a b c d : Nat) : (s.report a b c d).tideScs = s.tideScs := by
  unfold State.report; dsimp only; split <;> simp <;> rfl
@[simp] theorem State.report_tideLeaves (s : State) (a b c d : Nat) : (s.report a b c d).tideLeaves = s.tideLeaves := by
  unfold State.report; dsimp only; split <;> simp <;> rfl
@[simp] theorem State.report_downstream (s : State) (a b c d : Nat) : (s.report a b c d).downstream = s.downstream := by
  unfold State.report; dsimp only; split <;> simp <;> rfl
@[simp] theorem State.report_merges (s : State) (a b c d : Nat) : (s.report a b c d).merges = s.merges := by
  unfold State.report; dsimp only; split <;> simp <;> rfl
@[simp] theorem State.report_refs (s : State) (a b c d : Nat) : (s.report a b c d).refs = s.refs := by
  unfold State.report; dsimp only; split <;> simp <;> rfl
@[simp] theorem State.report_gridPll (s : State) (a b c d : Nat) : (s.report a b c d).gridPll = s.gridPll := by
  unfold State.report; dsimp only; split <;> simp <;> rfl
@[simp] theorem State.report_outPll (s : State) (a b c d : Nat) : (s.report a b c d).outPll = s.outPll := by
  unfold State.report; dsimp only; split <;> simp <;> rfl
@[simp] theorem State.report_timeSources (s : State) (a b c d : Nat) : (s.report a b c d).timeSources = s.timeSources := by
  unfold State.report; dsimp only; split <;> simp <;> rfl
@[simp] theorem State.report_timePll (s : State) (a b c d : Nat) : (s.report a b c d).timePll = s.timePll := by
  unfold State.report; dsimp only; split <;> simp <;> rfl
@[simp] theorem State.report_captures (s : State) (a b c d : Nat) : (s.report a b c d).captures = s.captures := by
  unfold State.report; dsimp only; split <;> simp <;> rfl
@[simp] theorem State.report_measures (s : State) (a b c d : Nat) : (s.report a b c d).measures = s.measures := by
  unfold State.report; dsimp only; split <;> simp <;> rfl
@[simp] theorem State.report_journal (s : State) (a b c d : Nat) : (s.report a b c d).journal = s.journal := by
  unfold State.report; dsimp only; split <;> simp <;> rfl
@[simp] theorem State.report_mate (s : State) (a b c d : Nat) : (s.report a b c d).mate = s.mate := by
  unfold State.report; dsimp only; split <;> simp <;> rfl
@[simp] theorem State.report_snapshot (s : State) (a b c d : Nat) : (s.report a b c d).snapshot = s.snapshot := by
  unfold State.report; dsimp only; split <;> simp <;> rfl
@[simp] theorem State.report_snapshotBefore (s : State) (a b c d : Nat) : (s.report a b c d).snapshotBefore = s.snapshotBefore := by
  unfold State.report; dsimp only; split <;> simp <;> rfl
@[simp] theorem State.report_moors (s : State) (a b c d : Nat) : (s.report a b c d).moors = s.moors := by
  unfold State.report; dsimp only; split <;> simp <;> rfl
@[simp] theorem State.report_ccUser (s : State) (a b c d : Nat) : (s.report a b c d).ccUser = s.ccUser := by
  unfold State.report; dsimp only; split <;> simp <;> rfl
@[simp] theorem State.report_domain (s : State) (a b c d : Nat) : (s.report a b c d).domain = s.domain := by
  unfold State.report; dsimp only; split <;> simp <;> rfl
@[simp] theorem State.report_mem (s : State) (a b c d : Nat) : (s.report a b c d).mem = s.mem := by
  unfold State.report; dsimp only; split <;> simp <;> rfl
@[simp] theorem State.report_badWords (s : State) (a b c d : Nat) : (s.report a b c d).badWords = s.badWords := by
  unfold State.report; dsimp only; split <;> simp <;> rfl
@[simp] theorem State.report_anc (s : State) (a b c d : Nat) : (s.report a b c d).anc = s.anc := by
  unfold State.report; dsimp only; split <;> simp <;> rfl
@[simp] theorem State.report_written (s : State) (a b c d : Nat) : (s.report a b c d).written = s.written := by
  unfold State.report; dsimp only; split <;> simp <;> rfl
@[simp] theorem State.report_ancBad (s : State) (a b c d : Nat) : (s.report a b c d).ancBad = s.ancBad := by
  unfold State.report; dsimp only; split <;> simp <;> rfl
@[simp] theorem State.report_march (s : State) (a b c d : Nat) : (s.report a b c d).march = s.march := by
  unfold State.report; dsimp only; split <;> simp <;> rfl
@[simp] theorem State.report_eccHigh (s : State) (a b c d : Nat) : (s.report a b c d).eccHigh = s.eccHigh := by
  unfold State.report; dsimp only; split <;> simp <;> rfl
@[simp] theorem State.report_repairColumn (s : State) (a b c d : Nat) : (s.report a b c d).repairColumn = s.repairColumn := by
  unfold State.report; dsimp only; split <;> simp <;> rfl
@[simp] theorem State.report_repaired (s : State) (a b c d : Nat) : (s.report a b c d).repaired = s.repaired := by
  unfold State.report; dsimp only; split <;> simp <;> rfl
@[simp] theorem State.report_cores (s : State) (a b c d : Nat) : (s.report a b c d).cores = s.cores := by
  unfold State.report; dsimp only; split <;> simp <;> rfl
@[simp] theorem State.report_pcie (s : State) (a b c d : Nat) : (s.report a b c d).pcie = s.pcie := by
  unfold State.report; dsimp only; split <;> simp <;> rfl
@[simp] theorem State.report_lbPage (s : State) (a b c d : Nat) : (s.report a b c d).lbPage = s.lbPage := by
  unfold State.report; dsimp only; split <;> simp <;> rfl
@[simp] theorem State.report_uart (s : State) (a b c d : Nat) : (s.report a b c d).uart = s.uart := by
  unfold State.report; dsimp only; split <;> simp <;> rfl
@[simp] theorem State.report_mailbox (s : State) (a b c d : Nat) : (s.report a b c d).mailbox = s.mailbox := by
  unfold State.report; dsimp only; split <;> simp <;> rfl
@[simp] theorem State.report_scanning (s : State) (a b c d : Nat) : (s.report a b c d).scanning = s.scanning := by
  unfold State.report; dsimp only; split <;> simp <;> rfl
@[simp] theorem State.report_image (s : State) (a b c d : Nat) : (s.report a b c d).image = s.image := by
  unfold State.report; dsimp only; split <;> simp <;> rfl
@[simp] theorem State.report_committed (s : State) (a b c d : Nat) : (s.report a b c d).committed = s.committed := by
  unfold State.report; dsimp only; split <;> simp <;> rfl
@[simp] theorem State.report_applied (s : State) (a b c d : Nat) : (s.report a b c d).applied = s.applied := by
  unfold State.report; dsimp only; split <;> simp <;> rfl
@[simp] theorem State.report_previous (s : State) (a b c d : Nat) : (s.report a b c d).previous = s.previous := by
  unfold State.report; dsimp only; split <;> simp <;> rfl
@[simp] theorem State.report_fuses (s : State) (a b c d : Nat) : (s.report a b c d).fuses = s.fuses := by
  unfold State.report; dsimp only; split <;> simp <;> rfl
@[simp] theorem State.report_fuseCells (s : State) (a b c d : Nat) : (s.report a b c d).fuseCells = s.fuseCells := by
  unfold State.report; dsimp only; split <;> simp <;> rfl
@[simp] theorem State.report_fuseTarget (s : State) (a b c d : Nat) : (s.report a b c d).fuseTarget = s.fuseTarget := by
  unfold State.report; dsimp only; split <;> simp <;> rfl
@[simp] theorem State.report_boot (s : State) (a b c d : Nat) : (s.report a b c d).boot = s.boot := by
  unfold State.report; dsimp only; split <;> simp <;> rfl
@[simp] theorem State.report_imageJob (s : State) (a b c d : Nat) : (s.report a b c d).imageJob = s.imageJob := by
  unfold State.report; dsimp only; split <;> simp <;> rfl
@[simp] theorem State.report_blockResets (s : State) (a b c d : Nat) : (s.report a b c d).blockResets = s.blockResets := by
  unfold State.report; dsimp only; split <;> simp <;> rfl
@[simp] theorem State.report_linkUp (s : State) (a b c d : Nat) : (s.report a b c d).linkUp = s.linkUp := by
  unfold State.report; dsimp only; split <;> simp <;> rfl
@[simp] theorem State.report_busMaster (s : State) (a b c d : Nat) : (s.report a b c d).busMaster = s.busMaster := by
  unfold State.report; dsimp only; split <;> simp <;> rfl
@[simp] theorem State.report_dumpJobs (s : State) (a b c d : Nat) : (s.report a b c d).dumpJobs = s.dumpJobs := by
  unfold State.report; dsimp only; split <;> simp <;> rfl
@[simp] theorem State.report_dumpSeqs (s : State) (a b c d : Nat) : (s.report a b c d).dumpSeqs = s.dumpSeqs := by
  unfold State.report; dsimp only; split <;> simp <;> rfl
@[simp] theorem State.report_dumpAt (s : State) (a b c d : Nat) : (s.report a b c d).dumpAt = s.dumpAt := by
  unfold State.report; dsimp only; split <;> simp <;> rfl
@[simp] theorem State.report_clientSections (s : State) (a b c d : Nat) : (s.report a b c d).clientSections = s.clientSections := by
  unfold State.report; dsimp only; split <;> simp <;> rfl
@[simp] theorem State.report_pathSections (s : State) (a b c d : Nat) : (s.report a b c d).pathSections = s.pathSections := by
  unfold State.report; dsimp only; split <;> simp <;> rfl
@[simp] theorem State.report_bins (s : State) (a b c d : Nat) : (s.report a b c d).bins = s.bins := by
  unfold State.report; dsimp only; split <;> simp <;> rfl
@[simp] theorem State.report_secondAt (s : State) (a b c d : Nat) : (s.report a b c d).secondAt = s.secondAt := by
  unfold State.report; dsimp only; split <;> simp <;> rfl
@[simp] theorem State.report_thermal (s : State) (a b c d : Nat) : (s.report a b c d).thermal = s.thermal := by
  unfold State.report; dsimp only; split <;> simp <;> rfl

/-- What no register write and no report touches, no raised event touches. -/
theorem State.raise_keeps {α : Sort _} (p : State → α) (hw : ∀ (s : State) (f : Field) (i v : Nat), p (s.wr f i v) = p s)
    (hr : ∀ (s : State) (a b c d : Nat), p (s.report a b c d) = p s) (s : State) (f : Field) (i : Nat) : p (s.raise f i) = p s := by
  unfold State.raise
  dsimp only
  split
  · rfl
  · split
    · exact hw s f i 1
    · split <;> split <;> simp only [hw, hr]

@[simp] theorem State.raise_pending (s : State) (f : Field) (i : Nat) : (s.raise f i).pending = s.pending :=
  State.raise_keeps State.pending (fun _ _ _ _ => by simp) (fun _ _ _ _ _ => by simp) s f i
@[simp] theorem State.raise_act (s : State) (f : Field) (i : Nat) : (s.raise f i).act = s.act :=
  State.raise_keeps State.act (fun _ _ _ _ => by simp) (fun _ _ _ _ _ => by simp) s f i
@[simp] theorem State.raise_ctrs (s : State) (f : Field) (i : Nat) : (s.raise f i).ctrs = s.ctrs :=
  State.raise_keeps State.ctrs (fun _ _ _ _ => by simp) (fun _ _ _ _ _ => by simp) s f i
@[simp] theorem State.raise_tick (s : State) (f : Field) (i : Nat) : (s.raise f i).tick = s.tick :=
  State.raise_keeps State.tick (fun _ _ _ _ => by simp) (fun _ _ _ _ _ => by simp) s f i
@[simp] theorem State.raise_now (s : State) (f : Field) (i : Nat) : (s.raise f i).now = s.now :=
  State.raise_keeps State.now (fun _ _ _ _ => by simp) (fun _ _ _ _ _ => by simp) s f i
@[simp] theorem State.raise_free (s : State) (f : Field) (i : Nat) : (s.raise f i).free = s.free :=
  State.raise_keeps State.free (fun _ _ _ _ => by simp) (fun _ _ _ _ _ => by simp) s f i
@[simp] theorem State.raise_atBoundary (s : State) (f : Field) (i : Nat) : (s.raise f i).atBoundary = s.atBoundary :=
  State.raise_keeps State.atBoundary (fun _ _ _ _ => by simp) (fun _ _ _ _ _ => by simp) s f i
@[simp] theorem State.raise_answers (s : State) (f : Field) (i : Nat) : (s.raise f i).answers = s.answers :=
  State.raise_keeps State.answers (fun _ _ _ _ => by simp) (fun _ _ _ _ _ => by simp) s f i
@[simp] theorem State.raise_logQueue (s : State) (f : Field) (i : Nat) : (s.raise f i).logQueue = s.logQueue :=
  State.raise_keeps State.logQueue (fun _ _ _ _ => by simp) (fun _ _ _ _ _ => by simp) s f i
@[simp] theorem State.raise_slots (s : State) (f : Field) (i : Nat) : (s.raise f i).slots = s.slots :=
  State.raise_keeps State.slots (fun _ _ _ _ => by simp) (fun _ _ _ _ _ => by simp) s f i
@[simp] theorem State.raise_logSeq (s : State) (f : Field) (i : Nat) : (s.raise f i).logSeq = s.logSeq :=
  State.raise_keeps State.logSeq (fun _ _ _ _ => by simp) (fun _ _ _ _ _ => by simp) s f i
@[simp] theorem State.raise_links (s : State) (f : Field) (i : Nat) : (s.raise f i).links = s.links :=
  State.raise_keeps State.links (fun _ _ _ _ => by simp) (fun _ _ _ _ _ => by simp) s f i
@[simp] theorem State.raise_avsCore (s : State) (f : Field) (i : Nat) : (s.raise f i).avsCore = s.avsCore :=
  State.raise_keeps State.avsCore (fun _ _ _ _ => by simp) (fun _ _ _ _ _ => by simp) s f i
@[simp] theorem State.raise_avsLe (s : State) (f : Field) (i : Nat) : (s.raise f i).avsLe = s.avsLe :=
  State.raise_keeps State.avsLe (fun _ _ _ _ => by simp) (fun _ _ _ _ _ => by simp) s f i
@[simp] theorem State.raise_stores (s : State) (f : Field) (i : Nat) : (s.raise f i).stores = s.stores :=
  State.raise_keeps State.stores (fun _ _ _ _ => by simp) (fun _ _ _ _ _ => by simp) s f i
@[simp] theorem State.raise_trains (s : State) (f : Field) (i : Nat) : (s.raise f i).trains = s.trains :=
  State.raise_keeps State.trains (fun _ _ _ _ => by simp) (fun _ _ _ _ _ => by simp) s f i
@[simp] theorem State.raise_ingress (s : State) (f : Field) (i : Nat) : (s.raise f i).ingress = s.ingress :=
  State.raise_keeps State.ingress (fun _ _ _ _ => by simp) (fun _ _ _ _ _ => by simp) s f i
@[simp] theorem State.raise_staged (s : State) (f : Field) (i : Nat) : (s.raise f i).staged = s.staged :=
  State.raise_keeps State.staged (fun _ _ _ _ => by simp) (fun _ _ _ _ _ => by simp) s f i
@[simp] theorem State.raise_egress (s : State) (f : Field) (i : Nat) : (s.raise f i).egress = s.egress :=
  State.raise_keeps State.egress (fun _ _ _ _ => by simp) (fun _ _ _ _ _ => by simp) s f i
@[simp] theorem State.raise_sources (s : State) (f : Field) (i : Nat) : (s.raise f i).sources = s.sources :=
  State.raise_keeps State.sources (fun _ _ _ _ => by simp) (fun _ _ _ _ _ => by simp) s f i
@[simp] theorem State.raise_banks (s : State) (f : Field) (i : Nat) : (s.raise f i).banks = s.banks :=
  State.raise_keeps State.banks (fun _ _ _ _ => by simp) (fun _ _ _ _ _ => by simp) s f i
@[simp] theorem State.raise_swap (s : State) (f : Field) (i : Nat) : (s.raise f i).swap = s.swap :=
  State.raise_keeps State.swap (fun _ _ _ _ => by simp) (fun _ _ _ _ _ => by simp) s f i
@[simp] theorem State.raise_lostTransfers (s : State) (f : Field) (i : Nat) : (s.raise f i).lostTransfers = s.lostTransfers :=
  State.raise_keeps State.lostTransfers (fun _ _ _ _ => by simp) (fun _ _ _ _ _ => by simp) s f i
@[simp] theorem State.raise_lanes (s : State) (f : Field) (i : Nat) : (s.raise f i).lanes = s.lanes :=
  State.raise_keeps State.lanes (fun _ _ _ _ => by simp) (fun _ _ _ _ _ => by simp) s f i
@[simp] theorem State.raise_clients (s : State) (f : Field) (i : Nat) : (s.raise f i).clients = s.clients :=
  State.raise_keeps State.clients (fun _ _ _ _ => by simp) (fun _ _ _ _ _ => by simp) s f i
@[simp] theorem State.raise_packets (s : State) (f : Field) (i : Nat) : (s.raise f i).packets = s.packets :=
  State.raise_keeps State.packets (fun _ _ _ _ => by simp) (fun _ _ _ _ _ => by simp) s f i
@[simp] theorem State.raise_frames (s : State) (f : Field) (i : Nat) : (s.raise f i).frames = s.frames :=
  State.raise_keeps State.frames (fun _ _ _ _ => by simp) (fun _ _ _ _ _ => by simp) s f i
@[simp] theorem State.raise_taps (s : State) (f : Field) (i : Nat) : (s.raise f i).taps = s.taps :=
  State.raise_keeps State.taps (fun _ _ _ _ => by simp) (fun _ _ _ _ _ => by simp) s f i
@[simp] theorem State.raise_tapsAccepted (s : State) (f : Field) (i : Nat) : (s.raise f i).tapsAccepted = s.tapsAccepted :=
  State.raise_keeps State.tapsAccepted (fun _ _ _ _ => by simp) (fun _ _ _ _ _ => by simp) s f i
@[simp] theorem State.raise_gccs (s : State) (f : Field) (i : Nat) : (s.raise f i).gccs = s.gccs :=
  State.raise_keeps State.gccs (fun _ _ _ _ => by simp) (fun _ _ _ _ _ => by simp) s f i
@[simp] theorem State.raise_sections (s : State) (f : Field) (i : Nat) : (s.raise f i).sections = s.sections :=
  State.raise_keeps State.sections (fun _ _ _ _ => by simp) (fun _ _ _ _ _ => by simp) s f i
@[simp] theorem State.raise_engines (s : State) (f : Field) (i : Nat) : (s.raise f i).engines = s.engines :=
  State.raise_keeps State.engines (fun _ _ _ _ => by simp) (fun _ _ _ _ _ => by simp) s f i
@[simp] theorem State.raise_pool (s : State) (f : Field) (i : Nat) : (s.raise f i).pool = s.pool :=
  State.raise_keeps State.pool (fun _ _ _ _ => by simp) (fun _ _ _ _ _ => by simp) s f i
@[simp] theorem State.raise_enc (s : State) (f : Field) (i : Nat) : (s.raise f i).enc = s.enc :=
  State.raise_keeps State.enc (fun _ _ _ _ => by simp) (fun _ _ _ _ _ => by simp) s f i
@[simp] theorem State.raise_keyJobs (s : State) (f : Field) (i : Nat) : (s.raise f i).keyJobs = s.keyJobs :=
  State.raise_keeps State.keyJobs (fun _ _ _ _ => by simp) (fun _ _ _ _ _ => by simp) s f i
@[simp] theorem State.raise_hubs (s : State) (f : Field) (i : Nat) : (s.raise f i).hubs = s.hubs :=
  State.raise_keeps State.hubs (fun _ _ _ _ => by simp) (fun _ _ _ _ _ => by simp) s f i
@[simp] theorem State.raise_tideScs (s : State) (f : Field) (i : Nat) : (s.raise f i).tideScs = s.tideScs :=
  State.raise_keeps State.tideScs (fun _ _ _ _ => by simp) (fun _ _ _ _ _ => by simp) s f i
@[simp] theorem State.raise_tideLeaves (s : State) (f : Field) (i : Nat) : (s.raise f i).tideLeaves = s.tideLeaves :=
  State.raise_keeps State.tideLeaves (fun _ _ _ _ => by simp) (fun _ _ _ _ _ => by simp) s f i
@[simp] theorem State.raise_downstream (s : State) (f : Field) (i : Nat) : (s.raise f i).downstream = s.downstream :=
  State.raise_keeps State.downstream (fun _ _ _ _ => by simp) (fun _ _ _ _ _ => by simp) s f i
@[simp] theorem State.raise_merges (s : State) (f : Field) (i : Nat) : (s.raise f i).merges = s.merges :=
  State.raise_keeps State.merges (fun _ _ _ _ => by simp) (fun _ _ _ _ _ => by simp) s f i
@[simp] theorem State.raise_refs (s : State) (f : Field) (i : Nat) : (s.raise f i).refs = s.refs :=
  State.raise_keeps State.refs (fun _ _ _ _ => by simp) (fun _ _ _ _ _ => by simp) s f i
@[simp] theorem State.raise_gridPll (s : State) (f : Field) (i : Nat) : (s.raise f i).gridPll = s.gridPll :=
  State.raise_keeps State.gridPll (fun _ _ _ _ => by simp) (fun _ _ _ _ _ => by simp) s f i
@[simp] theorem State.raise_outPll (s : State) (f : Field) (i : Nat) : (s.raise f i).outPll = s.outPll :=
  State.raise_keeps State.outPll (fun _ _ _ _ => by simp) (fun _ _ _ _ _ => by simp) s f i
@[simp] theorem State.raise_timeSources (s : State) (f : Field) (i : Nat) : (s.raise f i).timeSources = s.timeSources :=
  State.raise_keeps State.timeSources (fun _ _ _ _ => by simp) (fun _ _ _ _ _ => by simp) s f i
@[simp] theorem State.raise_timePll (s : State) (f : Field) (i : Nat) : (s.raise f i).timePll = s.timePll :=
  State.raise_keeps State.timePll (fun _ _ _ _ => by simp) (fun _ _ _ _ _ => by simp) s f i
@[simp] theorem State.raise_captures (s : State) (f : Field) (i : Nat) : (s.raise f i).captures = s.captures :=
  State.raise_keeps State.captures (fun _ _ _ _ => by simp) (fun _ _ _ _ _ => by simp) s f i
@[simp] theorem State.raise_measures (s : State) (f : Field) (i : Nat) : (s.raise f i).measures = s.measures :=
  State.raise_keeps State.measures (fun _ _ _ _ => by simp) (fun _ _ _ _ _ => by simp) s f i
@[simp] theorem State.raise_journal (s : State) (f : Field) (i : Nat) : (s.raise f i).journal = s.journal :=
  State.raise_keeps State.journal (fun _ _ _ _ => by simp) (fun _ _ _ _ _ => by simp) s f i
@[simp] theorem State.raise_mate (s : State) (f : Field) (i : Nat) : (s.raise f i).mate = s.mate :=
  State.raise_keeps State.mate (fun _ _ _ _ => by simp) (fun _ _ _ _ _ => by simp) s f i
@[simp] theorem State.raise_snapshot (s : State) (f : Field) (i : Nat) : (s.raise f i).snapshot = s.snapshot :=
  State.raise_keeps State.snapshot (fun _ _ _ _ => by simp) (fun _ _ _ _ _ => by simp) s f i
@[simp] theorem State.raise_snapshotBefore (s : State) (f : Field) (i : Nat) : (s.raise f i).snapshotBefore = s.snapshotBefore :=
  State.raise_keeps State.snapshotBefore (fun _ _ _ _ => by simp) (fun _ _ _ _ _ => by simp) s f i
@[simp] theorem State.raise_moors (s : State) (f : Field) (i : Nat) : (s.raise f i).moors = s.moors :=
  State.raise_keeps State.moors (fun _ _ _ _ => by simp) (fun _ _ _ _ _ => by simp) s f i
@[simp] theorem State.raise_ccUser (s : State) (f : Field) (i : Nat) : (s.raise f i).ccUser = s.ccUser :=
  State.raise_keeps State.ccUser (fun _ _ _ _ => by simp) (fun _ _ _ _ _ => by simp) s f i
@[simp] theorem State.raise_domain (s : State) (f : Field) (i : Nat) : (s.raise f i).domain = s.domain :=
  State.raise_keeps State.domain (fun _ _ _ _ => by simp) (fun _ _ _ _ _ => by simp) s f i
@[simp] theorem State.raise_mem (s : State) (f : Field) (i : Nat) : (s.raise f i).mem = s.mem :=
  State.raise_keeps State.mem (fun _ _ _ _ => by simp) (fun _ _ _ _ _ => by simp) s f i
@[simp] theorem State.raise_badWords (s : State) (f : Field) (i : Nat) : (s.raise f i).badWords = s.badWords :=
  State.raise_keeps State.badWords (fun _ _ _ _ => by simp) (fun _ _ _ _ _ => by simp) s f i
@[simp] theorem State.raise_anc (s : State) (f : Field) (i : Nat) : (s.raise f i).anc = s.anc :=
  State.raise_keeps State.anc (fun _ _ _ _ => by simp) (fun _ _ _ _ _ => by simp) s f i
@[simp] theorem State.raise_written (s : State) (f : Field) (i : Nat) : (s.raise f i).written = s.written :=
  State.raise_keeps State.written (fun _ _ _ _ => by simp) (fun _ _ _ _ _ => by simp) s f i
@[simp] theorem State.raise_ancBad (s : State) (f : Field) (i : Nat) : (s.raise f i).ancBad = s.ancBad :=
  State.raise_keeps State.ancBad (fun _ _ _ _ => by simp) (fun _ _ _ _ _ => by simp) s f i
@[simp] theorem State.raise_march (s : State) (f : Field) (i : Nat) : (s.raise f i).march = s.march :=
  State.raise_keeps State.march (fun _ _ _ _ => by simp) (fun _ _ _ _ _ => by simp) s f i
@[simp] theorem State.raise_eccHigh (s : State) (f : Field) (i : Nat) : (s.raise f i).eccHigh = s.eccHigh :=
  State.raise_keeps State.eccHigh (fun _ _ _ _ => by simp) (fun _ _ _ _ _ => by simp) s f i
@[simp] theorem State.raise_repairColumn (s : State) (f : Field) (i : Nat) : (s.raise f i).repairColumn = s.repairColumn :=
  State.raise_keeps State.repairColumn (fun _ _ _ _ => by simp) (fun _ _ _ _ _ => by simp) s f i
@[simp] theorem State.raise_repaired (s : State) (f : Field) (i : Nat) : (s.raise f i).repaired = s.repaired :=
  State.raise_keeps State.repaired (fun _ _ _ _ => by simp) (fun _ _ _ _ _ => by simp) s f i
@[simp] theorem State.raise_cores (s : State) (f : Field) (i : Nat) : (s.raise f i).cores = s.cores :=
  State.raise_keeps State.cores (fun _ _ _ _ => by simp) (fun _ _ _ _ _ => by simp) s f i
@[simp] theorem State.raise_pcie (s : State) (f : Field) (i : Nat) : (s.raise f i).pcie = s.pcie :=
  State.raise_keeps State.pcie (fun _ _ _ _ => by simp) (fun _ _ _ _ _ => by simp) s f i
@[simp] theorem State.raise_lbPage (s : State) (f : Field) (i : Nat) : (s.raise f i).lbPage = s.lbPage :=
  State.raise_keeps State.lbPage (fun _ _ _ _ => by simp) (fun _ _ _ _ _ => by simp) s f i
@[simp] theorem State.raise_uart (s : State) (f : Field) (i : Nat) : (s.raise f i).uart = s.uart :=
  State.raise_keeps State.uart (fun _ _ _ _ => by simp) (fun _ _ _ _ _ => by simp) s f i
@[simp] theorem State.raise_mailbox (s : State) (f : Field) (i : Nat) : (s.raise f i).mailbox = s.mailbox :=
  State.raise_keeps State.mailbox (fun _ _ _ _ => by simp) (fun _ _ _ _ _ => by simp) s f i
@[simp] theorem State.raise_scanning (s : State) (f : Field) (i : Nat) : (s.raise f i).scanning = s.scanning :=
  State.raise_keeps State.scanning (fun _ _ _ _ => by simp) (fun _ _ _ _ _ => by simp) s f i
@[simp] theorem State.raise_image (s : State) (f : Field) (i : Nat) : (s.raise f i).image = s.image :=
  State.raise_keeps State.image (fun _ _ _ _ => by simp) (fun _ _ _ _ _ => by simp) s f i
@[simp] theorem State.raise_committed (s : State) (f : Field) (i : Nat) : (s.raise f i).committed = s.committed :=
  State.raise_keeps State.committed (fun _ _ _ _ => by simp) (fun _ _ _ _ _ => by simp) s f i
@[simp] theorem State.raise_applied (s : State) (f : Field) (i : Nat) : (s.raise f i).applied = s.applied :=
  State.raise_keeps State.applied (fun _ _ _ _ => by simp) (fun _ _ _ _ _ => by simp) s f i
@[simp] theorem State.raise_previous (s : State) (f : Field) (i : Nat) : (s.raise f i).previous = s.previous :=
  State.raise_keeps State.previous (fun _ _ _ _ => by simp) (fun _ _ _ _ _ => by simp) s f i
@[simp] theorem State.raise_fuses (s : State) (f : Field) (i : Nat) : (s.raise f i).fuses = s.fuses :=
  State.raise_keeps State.fuses (fun _ _ _ _ => by simp) (fun _ _ _ _ _ => by simp) s f i
@[simp] theorem State.raise_fuseCells (s : State) (f : Field) (i : Nat) : (s.raise f i).fuseCells = s.fuseCells :=
  State.raise_keeps State.fuseCells (fun _ _ _ _ => by simp) (fun _ _ _ _ _ => by simp) s f i
@[simp] theorem State.raise_fuseTarget (s : State) (f : Field) (i : Nat) : (s.raise f i).fuseTarget = s.fuseTarget :=
  State.raise_keeps State.fuseTarget (fun _ _ _ _ => by simp) (fun _ _ _ _ _ => by simp) s f i
@[simp] theorem State.raise_boot (s : State) (f : Field) (i : Nat) : (s.raise f i).boot = s.boot :=
  State.raise_keeps State.boot (fun _ _ _ _ => by simp) (fun _ _ _ _ _ => by simp) s f i
@[simp] theorem State.raise_imageJob (s : State) (f : Field) (i : Nat) : (s.raise f i).imageJob = s.imageJob :=
  State.raise_keeps State.imageJob (fun _ _ _ _ => by simp) (fun _ _ _ _ _ => by simp) s f i
@[simp] theorem State.raise_blockResets (s : State) (f : Field) (i : Nat) : (s.raise f i).blockResets = s.blockResets :=
  State.raise_keeps State.blockResets (fun _ _ _ _ => by simp) (fun _ _ _ _ _ => by simp) s f i
@[simp] theorem State.raise_linkUp (s : State) (f : Field) (i : Nat) : (s.raise f i).linkUp = s.linkUp :=
  State.raise_keeps State.linkUp (fun _ _ _ _ => by simp) (fun _ _ _ _ _ => by simp) s f i
@[simp] theorem State.raise_busMaster (s : State) (f : Field) (i : Nat) : (s.raise f i).busMaster = s.busMaster :=
  State.raise_keeps State.busMaster (fun _ _ _ _ => by simp) (fun _ _ _ _ _ => by simp) s f i
@[simp] theorem State.raise_dumpJobs (s : State) (f : Field) (i : Nat) : (s.raise f i).dumpJobs = s.dumpJobs :=
  State.raise_keeps State.dumpJobs (fun _ _ _ _ => by simp) (fun _ _ _ _ _ => by simp) s f i
@[simp] theorem State.raise_dumpSeqs (s : State) (f : Field) (i : Nat) : (s.raise f i).dumpSeqs = s.dumpSeqs :=
  State.raise_keeps State.dumpSeqs (fun _ _ _ _ => by simp) (fun _ _ _ _ _ => by simp) s f i
@[simp] theorem State.raise_dumpAt (s : State) (f : Field) (i : Nat) : (s.raise f i).dumpAt = s.dumpAt :=
  State.raise_keeps State.dumpAt (fun _ _ _ _ => by simp) (fun _ _ _ _ _ => by simp) s f i
@[simp] theorem State.raise_clientSections (s : State) (f : Field) (i : Nat) : (s.raise f i).clientSections = s.clientSections :=
  State.raise_keeps State.clientSections (fun _ _ _ _ => by simp) (fun _ _ _ _ _ => by simp) s f i
@[simp] theorem State.raise_pathSections (s : State) (f : Field) (i : Nat) : (s.raise f i).pathSections = s.pathSections :=
  State.raise_keeps State.pathSections (fun _ _ _ _ => by simp) (fun _ _ _ _ _ => by simp) s f i
@[simp] theorem State.raise_bins (s : State) (f : Field) (i : Nat) : (s.raise f i).bins = s.bins :=
  State.raise_keeps State.bins (fun _ _ _ _ => by simp) (fun _ _ _ _ _ => by simp) s f i
@[simp] theorem State.raise_secondAt (s : State) (f : Field) (i : Nat) : (s.raise f i).secondAt = s.secondAt :=
  State.raise_keeps State.secondAt (fun _ _ _ _ => by simp) (fun _ _ _ _ _ => by simp) s f i
@[simp] theorem State.raise_thermal (s : State) (f : Field) (i : Nat) : (s.raise f i).thermal = s.thermal :=
  State.raise_keeps State.thermal (fun _ _ _ _ => by simp) (fun _ _ _ _ _ => by simp) s f i

@[simp] theorem State.raiseIf_pending (s : State) (c : Bool) (f : Field) (i : Nat) : (s.raiseIf c f i).pending = s.pending := by
  unfold State.raiseIf; split <;> simp
@[simp] theorem State.raiseIf_act (s : State) (c : Bool) (f : Field) (i : Nat) : (s.raiseIf c f i).act = s.act := by
  unfold State.raiseIf; split <;> simp
@[simp] theorem State.raiseIf_ctrs (s : State) (c : Bool) (f : Field) (i : Nat) : (s.raiseIf c f i).ctrs = s.ctrs := by
  unfold State.raiseIf; split <;> simp
@[simp] theorem State.raiseIf_tick (s : State) (c : Bool) (f : Field) (i : Nat) : (s.raiseIf c f i).tick = s.tick := by
  unfold State.raiseIf; split <;> simp
@[simp] theorem State.raiseIf_now (s : State) (c : Bool) (f : Field) (i : Nat) : (s.raiseIf c f i).now = s.now := by
  unfold State.raiseIf; split <;> simp
@[simp] theorem State.raiseIf_free (s : State) (c : Bool) (f : Field) (i : Nat) : (s.raiseIf c f i).free = s.free := by
  unfold State.raiseIf; split <;> simp
@[simp] theorem State.raiseIf_atBoundary (s : State) (c : Bool) (f : Field) (i : Nat) : (s.raiseIf c f i).atBoundary = s.atBoundary := by
  unfold State.raiseIf; split <;> simp
@[simp] theorem State.raiseIf_answers (s : State) (c : Bool) (f : Field) (i : Nat) : (s.raiseIf c f i).answers = s.answers := by
  unfold State.raiseIf; split <;> simp
@[simp] theorem State.raiseIf_logQueue (s : State) (c : Bool) (f : Field) (i : Nat) : (s.raiseIf c f i).logQueue = s.logQueue := by
  unfold State.raiseIf; split <;> simp
@[simp] theorem State.raiseIf_slots (s : State) (c : Bool) (f : Field) (i : Nat) : (s.raiseIf c f i).slots = s.slots := by
  unfold State.raiseIf; split <;> simp
@[simp] theorem State.raiseIf_logSeq (s : State) (c : Bool) (f : Field) (i : Nat) : (s.raiseIf c f i).logSeq = s.logSeq := by
  unfold State.raiseIf; split <;> simp
@[simp] theorem State.raiseIf_links (s : State) (c : Bool) (f : Field) (i : Nat) : (s.raiseIf c f i).links = s.links := by
  unfold State.raiseIf; split <;> simp
@[simp] theorem State.raiseIf_avsCore (s : State) (c : Bool) (f : Field) (i : Nat) : (s.raiseIf c f i).avsCore = s.avsCore := by
  unfold State.raiseIf; split <;> simp
@[simp] theorem State.raiseIf_avsLe (s : State) (c : Bool) (f : Field) (i : Nat) : (s.raiseIf c f i).avsLe = s.avsLe := by
  unfold State.raiseIf; split <;> simp
@[simp] theorem State.raiseIf_stores (s : State) (c : Bool) (f : Field) (i : Nat) : (s.raiseIf c f i).stores = s.stores := by
  unfold State.raiseIf; split <;> simp
@[simp] theorem State.raiseIf_trains (s : State) (c : Bool) (f : Field) (i : Nat) : (s.raiseIf c f i).trains = s.trains := by
  unfold State.raiseIf; split <;> simp
@[simp] theorem State.raiseIf_ingress (s : State) (c : Bool) (f : Field) (i : Nat) : (s.raiseIf c f i).ingress = s.ingress := by
  unfold State.raiseIf; split <;> simp
@[simp] theorem State.raiseIf_staged (s : State) (c : Bool) (f : Field) (i : Nat) : (s.raiseIf c f i).staged = s.staged := by
  unfold State.raiseIf; split <;> simp
@[simp] theorem State.raiseIf_egress (s : State) (c : Bool) (f : Field) (i : Nat) : (s.raiseIf c f i).egress = s.egress := by
  unfold State.raiseIf; split <;> simp
@[simp] theorem State.raiseIf_sources (s : State) (c : Bool) (f : Field) (i : Nat) : (s.raiseIf c f i).sources = s.sources := by
  unfold State.raiseIf; split <;> simp
@[simp] theorem State.raiseIf_banks (s : State) (c : Bool) (f : Field) (i : Nat) : (s.raiseIf c f i).banks = s.banks := by
  unfold State.raiseIf; split <;> simp
@[simp] theorem State.raiseIf_swap (s : State) (c : Bool) (f : Field) (i : Nat) : (s.raiseIf c f i).swap = s.swap := by
  unfold State.raiseIf; split <;> simp
@[simp] theorem State.raiseIf_lostTransfers (s : State) (c : Bool) (f : Field) (i : Nat) : (s.raiseIf c f i).lostTransfers = s.lostTransfers := by
  unfold State.raiseIf; split <;> simp
@[simp] theorem State.raiseIf_lanes (s : State) (c : Bool) (f : Field) (i : Nat) : (s.raiseIf c f i).lanes = s.lanes := by
  unfold State.raiseIf; split <;> simp
@[simp] theorem State.raiseIf_clients (s : State) (c : Bool) (f : Field) (i : Nat) : (s.raiseIf c f i).clients = s.clients := by
  unfold State.raiseIf; split <;> simp
@[simp] theorem State.raiseIf_packets (s : State) (c : Bool) (f : Field) (i : Nat) : (s.raiseIf c f i).packets = s.packets := by
  unfold State.raiseIf; split <;> simp
@[simp] theorem State.raiseIf_frames (s : State) (c : Bool) (f : Field) (i : Nat) : (s.raiseIf c f i).frames = s.frames := by
  unfold State.raiseIf; split <;> simp
@[simp] theorem State.raiseIf_taps (s : State) (c : Bool) (f : Field) (i : Nat) : (s.raiseIf c f i).taps = s.taps := by
  unfold State.raiseIf; split <;> simp
@[simp] theorem State.raiseIf_tapsAccepted (s : State) (c : Bool) (f : Field) (i : Nat) : (s.raiseIf c f i).tapsAccepted = s.tapsAccepted := by
  unfold State.raiseIf; split <;> simp
@[simp] theorem State.raiseIf_gccs (s : State) (c : Bool) (f : Field) (i : Nat) : (s.raiseIf c f i).gccs = s.gccs := by
  unfold State.raiseIf; split <;> simp
@[simp] theorem State.raiseIf_sections (s : State) (c : Bool) (f : Field) (i : Nat) : (s.raiseIf c f i).sections = s.sections := by
  unfold State.raiseIf; split <;> simp
@[simp] theorem State.raiseIf_engines (s : State) (c : Bool) (f : Field) (i : Nat) : (s.raiseIf c f i).engines = s.engines := by
  unfold State.raiseIf; split <;> simp
@[simp] theorem State.raiseIf_pool (s : State) (c : Bool) (f : Field) (i : Nat) : (s.raiseIf c f i).pool = s.pool := by
  unfold State.raiseIf; split <;> simp
@[simp] theorem State.raiseIf_enc (s : State) (c : Bool) (f : Field) (i : Nat) : (s.raiseIf c f i).enc = s.enc := by
  unfold State.raiseIf; split <;> simp
@[simp] theorem State.raiseIf_keyJobs (s : State) (c : Bool) (f : Field) (i : Nat) : (s.raiseIf c f i).keyJobs = s.keyJobs := by
  unfold State.raiseIf; split <;> simp
@[simp] theorem State.raiseIf_hubs (s : State) (c : Bool) (f : Field) (i : Nat) : (s.raiseIf c f i).hubs = s.hubs := by
  unfold State.raiseIf; split <;> simp
@[simp] theorem State.raiseIf_tideScs (s : State) (c : Bool) (f : Field) (i : Nat) : (s.raiseIf c f i).tideScs = s.tideScs := by
  unfold State.raiseIf; split <;> simp
@[simp] theorem State.raiseIf_tideLeaves (s : State) (c : Bool) (f : Field) (i : Nat) : (s.raiseIf c f i).tideLeaves = s.tideLeaves := by
  unfold State.raiseIf; split <;> simp
@[simp] theorem State.raiseIf_downstream (s : State) (c : Bool) (f : Field) (i : Nat) : (s.raiseIf c f i).downstream = s.downstream := by
  unfold State.raiseIf; split <;> simp
@[simp] theorem State.raiseIf_merges (s : State) (c : Bool) (f : Field) (i : Nat) : (s.raiseIf c f i).merges = s.merges := by
  unfold State.raiseIf; split <;> simp
@[simp] theorem State.raiseIf_refs (s : State) (c : Bool) (f : Field) (i : Nat) : (s.raiseIf c f i).refs = s.refs := by
  unfold State.raiseIf; split <;> simp
@[simp] theorem State.raiseIf_gridPll (s : State) (c : Bool) (f : Field) (i : Nat) : (s.raiseIf c f i).gridPll = s.gridPll := by
  unfold State.raiseIf; split <;> simp
@[simp] theorem State.raiseIf_outPll (s : State) (c : Bool) (f : Field) (i : Nat) : (s.raiseIf c f i).outPll = s.outPll := by
  unfold State.raiseIf; split <;> simp
@[simp] theorem State.raiseIf_timeSources (s : State) (c : Bool) (f : Field) (i : Nat) : (s.raiseIf c f i).timeSources = s.timeSources := by
  unfold State.raiseIf; split <;> simp
@[simp] theorem State.raiseIf_timePll (s : State) (c : Bool) (f : Field) (i : Nat) : (s.raiseIf c f i).timePll = s.timePll := by
  unfold State.raiseIf; split <;> simp
@[simp] theorem State.raiseIf_captures (s : State) (c : Bool) (f : Field) (i : Nat) : (s.raiseIf c f i).captures = s.captures := by
  unfold State.raiseIf; split <;> simp
@[simp] theorem State.raiseIf_measures (s : State) (c : Bool) (f : Field) (i : Nat) : (s.raiseIf c f i).measures = s.measures := by
  unfold State.raiseIf; split <;> simp
@[simp] theorem State.raiseIf_journal (s : State) (c : Bool) (f : Field) (i : Nat) : (s.raiseIf c f i).journal = s.journal := by
  unfold State.raiseIf; split <;> simp
@[simp] theorem State.raiseIf_mate (s : State) (c : Bool) (f : Field) (i : Nat) : (s.raiseIf c f i).mate = s.mate := by
  unfold State.raiseIf; split <;> simp
@[simp] theorem State.raiseIf_snapshot (s : State) (c : Bool) (f : Field) (i : Nat) : (s.raiseIf c f i).snapshot = s.snapshot := by
  unfold State.raiseIf; split <;> simp
@[simp] theorem State.raiseIf_snapshotBefore (s : State) (c : Bool) (f : Field) (i : Nat) : (s.raiseIf c f i).snapshotBefore = s.snapshotBefore := by
  unfold State.raiseIf; split <;> simp
@[simp] theorem State.raiseIf_moors (s : State) (c : Bool) (f : Field) (i : Nat) : (s.raiseIf c f i).moors = s.moors := by
  unfold State.raiseIf; split <;> simp
@[simp] theorem State.raiseIf_ccUser (s : State) (c : Bool) (f : Field) (i : Nat) : (s.raiseIf c f i).ccUser = s.ccUser := by
  unfold State.raiseIf; split <;> simp
@[simp] theorem State.raiseIf_domain (s : State) (c : Bool) (f : Field) (i : Nat) : (s.raiseIf c f i).domain = s.domain := by
  unfold State.raiseIf; split <;> simp
@[simp] theorem State.raiseIf_mem (s : State) (c : Bool) (f : Field) (i : Nat) : (s.raiseIf c f i).mem = s.mem := by
  unfold State.raiseIf; split <;> simp
@[simp] theorem State.raiseIf_badWords (s : State) (c : Bool) (f : Field) (i : Nat) : (s.raiseIf c f i).badWords = s.badWords := by
  unfold State.raiseIf; split <;> simp
@[simp] theorem State.raiseIf_anc (s : State) (c : Bool) (f : Field) (i : Nat) : (s.raiseIf c f i).anc = s.anc := by
  unfold State.raiseIf; split <;> simp
@[simp] theorem State.raiseIf_written (s : State) (c : Bool) (f : Field) (i : Nat) : (s.raiseIf c f i).written = s.written := by
  unfold State.raiseIf; split <;> simp
@[simp] theorem State.raiseIf_ancBad (s : State) (c : Bool) (f : Field) (i : Nat) : (s.raiseIf c f i).ancBad = s.ancBad := by
  unfold State.raiseIf; split <;> simp
@[simp] theorem State.raiseIf_march (s : State) (c : Bool) (f : Field) (i : Nat) : (s.raiseIf c f i).march = s.march := by
  unfold State.raiseIf; split <;> simp
@[simp] theorem State.raiseIf_eccHigh (s : State) (c : Bool) (f : Field) (i : Nat) : (s.raiseIf c f i).eccHigh = s.eccHigh := by
  unfold State.raiseIf; split <;> simp
@[simp] theorem State.raiseIf_repairColumn (s : State) (c : Bool) (f : Field) (i : Nat) : (s.raiseIf c f i).repairColumn = s.repairColumn := by
  unfold State.raiseIf; split <;> simp
@[simp] theorem State.raiseIf_repaired (s : State) (c : Bool) (f : Field) (i : Nat) : (s.raiseIf c f i).repaired = s.repaired := by
  unfold State.raiseIf; split <;> simp
@[simp] theorem State.raiseIf_cores (s : State) (c : Bool) (f : Field) (i : Nat) : (s.raiseIf c f i).cores = s.cores := by
  unfold State.raiseIf; split <;> simp
@[simp] theorem State.raiseIf_pcie (s : State) (c : Bool) (f : Field) (i : Nat) : (s.raiseIf c f i).pcie = s.pcie := by
  unfold State.raiseIf; split <;> simp
@[simp] theorem State.raiseIf_lbPage (s : State) (c : Bool) (f : Field) (i : Nat) : (s.raiseIf c f i).lbPage = s.lbPage := by
  unfold State.raiseIf; split <;> simp
@[simp] theorem State.raiseIf_uart (s : State) (c : Bool) (f : Field) (i : Nat) : (s.raiseIf c f i).uart = s.uart := by
  unfold State.raiseIf; split <;> simp
@[simp] theorem State.raiseIf_mailbox (s : State) (c : Bool) (f : Field) (i : Nat) : (s.raiseIf c f i).mailbox = s.mailbox := by
  unfold State.raiseIf; split <;> simp
@[simp] theorem State.raiseIf_scanning (s : State) (c : Bool) (f : Field) (i : Nat) : (s.raiseIf c f i).scanning = s.scanning := by
  unfold State.raiseIf; split <;> simp
@[simp] theorem State.raiseIf_image (s : State) (c : Bool) (f : Field) (i : Nat) : (s.raiseIf c f i).image = s.image := by
  unfold State.raiseIf; split <;> simp
@[simp] theorem State.raiseIf_committed (s : State) (c : Bool) (f : Field) (i : Nat) : (s.raiseIf c f i).committed = s.committed := by
  unfold State.raiseIf; split <;> simp
@[simp] theorem State.raiseIf_applied (s : State) (c : Bool) (f : Field) (i : Nat) : (s.raiseIf c f i).applied = s.applied := by
  unfold State.raiseIf; split <;> simp
@[simp] theorem State.raiseIf_previous (s : State) (c : Bool) (f : Field) (i : Nat) : (s.raiseIf c f i).previous = s.previous := by
  unfold State.raiseIf; split <;> simp
@[simp] theorem State.raiseIf_fuses (s : State) (c : Bool) (f : Field) (i : Nat) : (s.raiseIf c f i).fuses = s.fuses := by
  unfold State.raiseIf; split <;> simp
@[simp] theorem State.raiseIf_fuseCells (s : State) (c : Bool) (f : Field) (i : Nat) : (s.raiseIf c f i).fuseCells = s.fuseCells := by
  unfold State.raiseIf; split <;> simp
@[simp] theorem State.raiseIf_fuseTarget (s : State) (c : Bool) (f : Field) (i : Nat) : (s.raiseIf c f i).fuseTarget = s.fuseTarget := by
  unfold State.raiseIf; split <;> simp
@[simp] theorem State.raiseIf_boot (s : State) (c : Bool) (f : Field) (i : Nat) : (s.raiseIf c f i).boot = s.boot := by
  unfold State.raiseIf; split <;> simp
@[simp] theorem State.raiseIf_imageJob (s : State) (c : Bool) (f : Field) (i : Nat) : (s.raiseIf c f i).imageJob = s.imageJob := by
  unfold State.raiseIf; split <;> simp
@[simp] theorem State.raiseIf_blockResets (s : State) (c : Bool) (f : Field) (i : Nat) : (s.raiseIf c f i).blockResets = s.blockResets := by
  unfold State.raiseIf; split <;> simp
@[simp] theorem State.raiseIf_linkUp (s : State) (c : Bool) (f : Field) (i : Nat) : (s.raiseIf c f i).linkUp = s.linkUp := by
  unfold State.raiseIf; split <;> simp
@[simp] theorem State.raiseIf_busMaster (s : State) (c : Bool) (f : Field) (i : Nat) : (s.raiseIf c f i).busMaster = s.busMaster := by
  unfold State.raiseIf; split <;> simp
@[simp] theorem State.raiseIf_dumpJobs (s : State) (c : Bool) (f : Field) (i : Nat) : (s.raiseIf c f i).dumpJobs = s.dumpJobs := by
  unfold State.raiseIf; split <;> simp
@[simp] theorem State.raiseIf_dumpSeqs (s : State) (c : Bool) (f : Field) (i : Nat) : (s.raiseIf c f i).dumpSeqs = s.dumpSeqs := by
  unfold State.raiseIf; split <;> simp
@[simp] theorem State.raiseIf_dumpAt (s : State) (c : Bool) (f : Field) (i : Nat) : (s.raiseIf c f i).dumpAt = s.dumpAt := by
  unfold State.raiseIf; split <;> simp
@[simp] theorem State.raiseIf_clientSections (s : State) (c : Bool) (f : Field) (i : Nat) : (s.raiseIf c f i).clientSections = s.clientSections := by
  unfold State.raiseIf; split <;> simp
@[simp] theorem State.raiseIf_pathSections (s : State) (c : Bool) (f : Field) (i : Nat) : (s.raiseIf c f i).pathSections = s.pathSections := by
  unfold State.raiseIf; split <;> simp
@[simp] theorem State.raiseIf_bins (s : State) (c : Bool) (f : Field) (i : Nat) : (s.raiseIf c f i).bins = s.bins := by
  unfold State.raiseIf; split <;> simp
@[simp] theorem State.raiseIf_secondAt (s : State) (c : Bool) (f : Field) (i : Nat) : (s.raiseIf c f i).secondAt = s.secondAt := by
  unfold State.raiseIf; split <;> simp
@[simp] theorem State.raiseIf_thermal (s : State) (c : Bool) (f : Field) (i : Nat) : (s.raiseIf c f i).thermal = s.thermal := by
  unfold State.raiseIf; split <;> simp

@[simp] theorem State.raiseSource_pending (s : State) (a : Nat) : (s.raiseSource a).pending = s.pending := by
  simp [State.raiseSource]
@[simp] theorem State.raiseSource_act (s : State) (a : Nat) : (s.raiseSource a).act = s.act := by
  simp [State.raiseSource]
@[simp] theorem State.raiseSource_ctrs (s : State) (a : Nat) : (s.raiseSource a).ctrs = s.ctrs := by
  simp [State.raiseSource]
@[simp] theorem State.raiseSource_tick (s : State) (a : Nat) : (s.raiseSource a).tick = s.tick := by
  simp [State.raiseSource]
@[simp] theorem State.raiseSource_now (s : State) (a : Nat) : (s.raiseSource a).now = s.now := by
  simp [State.raiseSource]
@[simp] theorem State.raiseSource_free (s : State) (a : Nat) : (s.raiseSource a).free = s.free := by
  simp [State.raiseSource]
@[simp] theorem State.raiseSource_atBoundary (s : State) (a : Nat) : (s.raiseSource a).atBoundary = s.atBoundary := by
  simp [State.raiseSource]
@[simp] theorem State.raiseSource_answers (s : State) (a : Nat) : (s.raiseSource a).answers = s.answers := by
  simp [State.raiseSource]
@[simp] theorem State.raiseSource_logQueue (s : State) (a : Nat) : (s.raiseSource a).logQueue = s.logQueue := by
  simp [State.raiseSource]
@[simp] theorem State.raiseSource_slots (s : State) (a : Nat) : (s.raiseSource a).slots = s.slots := by
  simp [State.raiseSource]
@[simp] theorem State.raiseSource_logSeq (s : State) (a : Nat) : (s.raiseSource a).logSeq = s.logSeq := by
  simp [State.raiseSource]
@[simp] theorem State.raiseSource_links (s : State) (a : Nat) : (s.raiseSource a).links = s.links := by
  simp [State.raiseSource]
@[simp] theorem State.raiseSource_avsCore (s : State) (a : Nat) : (s.raiseSource a).avsCore = s.avsCore := by
  simp [State.raiseSource]
@[simp] theorem State.raiseSource_avsLe (s : State) (a : Nat) : (s.raiseSource a).avsLe = s.avsLe := by
  simp [State.raiseSource]
@[simp] theorem State.raiseSource_stores (s : State) (a : Nat) : (s.raiseSource a).stores = s.stores := by
  simp [State.raiseSource]
@[simp] theorem State.raiseSource_trains (s : State) (a : Nat) : (s.raiseSource a).trains = s.trains := by
  simp [State.raiseSource]
@[simp] theorem State.raiseSource_ingress (s : State) (a : Nat) : (s.raiseSource a).ingress = s.ingress := by
  simp [State.raiseSource]
@[simp] theorem State.raiseSource_staged (s : State) (a : Nat) : (s.raiseSource a).staged = s.staged := by
  simp [State.raiseSource]
@[simp] theorem State.raiseSource_egress (s : State) (a : Nat) : (s.raiseSource a).egress = s.egress := by
  simp [State.raiseSource]
@[simp] theorem State.raiseSource_sources (s : State) (a : Nat) : (s.raiseSource a).sources = s.sources := by
  simp [State.raiseSource]
@[simp] theorem State.raiseSource_banks (s : State) (a : Nat) : (s.raiseSource a).banks = s.banks := by
  simp [State.raiseSource]
@[simp] theorem State.raiseSource_swap (s : State) (a : Nat) : (s.raiseSource a).swap = s.swap := by
  simp [State.raiseSource]
@[simp] theorem State.raiseSource_lostTransfers (s : State) (a : Nat) : (s.raiseSource a).lostTransfers = s.lostTransfers := by
  simp [State.raiseSource]
@[simp] theorem State.raiseSource_lanes (s : State) (a : Nat) : (s.raiseSource a).lanes = s.lanes := by
  simp [State.raiseSource]
@[simp] theorem State.raiseSource_clients (s : State) (a : Nat) : (s.raiseSource a).clients = s.clients := by
  simp [State.raiseSource]
@[simp] theorem State.raiseSource_packets (s : State) (a : Nat) : (s.raiseSource a).packets = s.packets := by
  simp [State.raiseSource]
@[simp] theorem State.raiseSource_frames (s : State) (a : Nat) : (s.raiseSource a).frames = s.frames := by
  simp [State.raiseSource]
@[simp] theorem State.raiseSource_taps (s : State) (a : Nat) : (s.raiseSource a).taps = s.taps := by
  simp [State.raiseSource]
@[simp] theorem State.raiseSource_tapsAccepted (s : State) (a : Nat) : (s.raiseSource a).tapsAccepted = s.tapsAccepted := by
  simp [State.raiseSource]
@[simp] theorem State.raiseSource_gccs (s : State) (a : Nat) : (s.raiseSource a).gccs = s.gccs := by
  simp [State.raiseSource]
@[simp] theorem State.raiseSource_sections (s : State) (a : Nat) : (s.raiseSource a).sections = s.sections := by
  simp [State.raiseSource]
@[simp] theorem State.raiseSource_engines (s : State) (a : Nat) : (s.raiseSource a).engines = s.engines := by
  simp [State.raiseSource]
@[simp] theorem State.raiseSource_pool (s : State) (a : Nat) : (s.raiseSource a).pool = s.pool := by
  simp [State.raiseSource]
@[simp] theorem State.raiseSource_enc (s : State) (a : Nat) : (s.raiseSource a).enc = s.enc := by
  simp [State.raiseSource]
@[simp] theorem State.raiseSource_keyJobs (s : State) (a : Nat) : (s.raiseSource a).keyJobs = s.keyJobs := by
  simp [State.raiseSource]
@[simp] theorem State.raiseSource_hubs (s : State) (a : Nat) : (s.raiseSource a).hubs = s.hubs := by
  simp [State.raiseSource]
@[simp] theorem State.raiseSource_tideScs (s : State) (a : Nat) : (s.raiseSource a).tideScs = s.tideScs := by
  simp [State.raiseSource]
@[simp] theorem State.raiseSource_tideLeaves (s : State) (a : Nat) : (s.raiseSource a).tideLeaves = s.tideLeaves := by
  simp [State.raiseSource]
@[simp] theorem State.raiseSource_downstream (s : State) (a : Nat) : (s.raiseSource a).downstream = s.downstream := by
  simp [State.raiseSource]
@[simp] theorem State.raiseSource_merges (s : State) (a : Nat) : (s.raiseSource a).merges = s.merges := by
  simp [State.raiseSource]
@[simp] theorem State.raiseSource_refs (s : State) (a : Nat) : (s.raiseSource a).refs = s.refs := by
  simp [State.raiseSource]
@[simp] theorem State.raiseSource_gridPll (s : State) (a : Nat) : (s.raiseSource a).gridPll = s.gridPll := by
  simp [State.raiseSource]
@[simp] theorem State.raiseSource_outPll (s : State) (a : Nat) : (s.raiseSource a).outPll = s.outPll := by
  simp [State.raiseSource]
@[simp] theorem State.raiseSource_timeSources (s : State) (a : Nat) : (s.raiseSource a).timeSources = s.timeSources := by
  simp [State.raiseSource]
@[simp] theorem State.raiseSource_timePll (s : State) (a : Nat) : (s.raiseSource a).timePll = s.timePll := by
  simp [State.raiseSource]
@[simp] theorem State.raiseSource_captures (s : State) (a : Nat) : (s.raiseSource a).captures = s.captures := by
  simp [State.raiseSource]
@[simp] theorem State.raiseSource_measures (s : State) (a : Nat) : (s.raiseSource a).measures = s.measures := by
  simp [State.raiseSource]
@[simp] theorem State.raiseSource_journal (s : State) (a : Nat) : (s.raiseSource a).journal = s.journal := by
  simp [State.raiseSource]
@[simp] theorem State.raiseSource_mate (s : State) (a : Nat) : (s.raiseSource a).mate = s.mate := by
  simp [State.raiseSource]
@[simp] theorem State.raiseSource_snapshot (s : State) (a : Nat) : (s.raiseSource a).snapshot = s.snapshot := by
  simp [State.raiseSource]
@[simp] theorem State.raiseSource_snapshotBefore (s : State) (a : Nat) : (s.raiseSource a).snapshotBefore = s.snapshotBefore := by
  simp [State.raiseSource]
@[simp] theorem State.raiseSource_moors (s : State) (a : Nat) : (s.raiseSource a).moors = s.moors := by
  simp [State.raiseSource]
@[simp] theorem State.raiseSource_ccUser (s : State) (a : Nat) : (s.raiseSource a).ccUser = s.ccUser := by
  simp [State.raiseSource]
@[simp] theorem State.raiseSource_domain (s : State) (a : Nat) : (s.raiseSource a).domain = s.domain := by
  simp [State.raiseSource]
@[simp] theorem State.raiseSource_mem (s : State) (a : Nat) : (s.raiseSource a).mem = s.mem := by
  simp [State.raiseSource]
@[simp] theorem State.raiseSource_badWords (s : State) (a : Nat) : (s.raiseSource a).badWords = s.badWords := by
  simp [State.raiseSource]
@[simp] theorem State.raiseSource_anc (s : State) (a : Nat) : (s.raiseSource a).anc = s.anc := by
  simp [State.raiseSource]
@[simp] theorem State.raiseSource_written (s : State) (a : Nat) : (s.raiseSource a).written = s.written := by
  simp [State.raiseSource]
@[simp] theorem State.raiseSource_ancBad (s : State) (a : Nat) : (s.raiseSource a).ancBad = s.ancBad := by
  simp [State.raiseSource]
@[simp] theorem State.raiseSource_march (s : State) (a : Nat) : (s.raiseSource a).march = s.march := by
  simp [State.raiseSource]
@[simp] theorem State.raiseSource_eccHigh (s : State) (a : Nat) : (s.raiseSource a).eccHigh = s.eccHigh := by
  simp [State.raiseSource]
@[simp] theorem State.raiseSource_repairColumn (s : State) (a : Nat) : (s.raiseSource a).repairColumn = s.repairColumn := by
  simp [State.raiseSource]
@[simp] theorem State.raiseSource_repaired (s : State) (a : Nat) : (s.raiseSource a).repaired = s.repaired := by
  simp [State.raiseSource]
@[simp] theorem State.raiseSource_cores (s : State) (a : Nat) : (s.raiseSource a).cores = s.cores := by
  simp [State.raiseSource]
@[simp] theorem State.raiseSource_pcie (s : State) (a : Nat) : (s.raiseSource a).pcie = s.pcie := by
  simp [State.raiseSource]
@[simp] theorem State.raiseSource_lbPage (s : State) (a : Nat) : (s.raiseSource a).lbPage = s.lbPage := by
  simp [State.raiseSource]
@[simp] theorem State.raiseSource_uart (s : State) (a : Nat) : (s.raiseSource a).uart = s.uart := by
  simp [State.raiseSource]
@[simp] theorem State.raiseSource_mailbox (s : State) (a : Nat) : (s.raiseSource a).mailbox = s.mailbox := by
  simp [State.raiseSource]
@[simp] theorem State.raiseSource_scanning (s : State) (a : Nat) : (s.raiseSource a).scanning = s.scanning := by
  simp [State.raiseSource]
@[simp] theorem State.raiseSource_image (s : State) (a : Nat) : (s.raiseSource a).image = s.image := by
  simp [State.raiseSource]
@[simp] theorem State.raiseSource_committed (s : State) (a : Nat) : (s.raiseSource a).committed = s.committed := by
  simp [State.raiseSource]
@[simp] theorem State.raiseSource_applied (s : State) (a : Nat) : (s.raiseSource a).applied = s.applied := by
  simp [State.raiseSource]
@[simp] theorem State.raiseSource_previous (s : State) (a : Nat) : (s.raiseSource a).previous = s.previous := by
  simp [State.raiseSource]
@[simp] theorem State.raiseSource_fuses (s : State) (a : Nat) : (s.raiseSource a).fuses = s.fuses := by
  simp [State.raiseSource]
@[simp] theorem State.raiseSource_fuseCells (s : State) (a : Nat) : (s.raiseSource a).fuseCells = s.fuseCells := by
  simp [State.raiseSource]
@[simp] theorem State.raiseSource_fuseTarget (s : State) (a : Nat) : (s.raiseSource a).fuseTarget = s.fuseTarget := by
  simp [State.raiseSource]
@[simp] theorem State.raiseSource_boot (s : State) (a : Nat) : (s.raiseSource a).boot = s.boot := by
  simp [State.raiseSource]
@[simp] theorem State.raiseSource_imageJob (s : State) (a : Nat) : (s.raiseSource a).imageJob = s.imageJob := by
  simp [State.raiseSource]
@[simp] theorem State.raiseSource_blockResets (s : State) (a : Nat) : (s.raiseSource a).blockResets = s.blockResets := by
  simp [State.raiseSource]
@[simp] theorem State.raiseSource_linkUp (s : State) (a : Nat) : (s.raiseSource a).linkUp = s.linkUp := by
  simp [State.raiseSource]
@[simp] theorem State.raiseSource_busMaster (s : State) (a : Nat) : (s.raiseSource a).busMaster = s.busMaster := by
  simp [State.raiseSource]
@[simp] theorem State.raiseSource_dumpJobs (s : State) (a : Nat) : (s.raiseSource a).dumpJobs = s.dumpJobs := by
  simp [State.raiseSource]
@[simp] theorem State.raiseSource_dumpSeqs (s : State) (a : Nat) : (s.raiseSource a).dumpSeqs = s.dumpSeqs := by
  simp [State.raiseSource]
@[simp] theorem State.raiseSource_dumpAt (s : State) (a : Nat) : (s.raiseSource a).dumpAt = s.dumpAt := by
  simp [State.raiseSource]
@[simp] theorem State.raiseSource_clientSections (s : State) (a : Nat) : (s.raiseSource a).clientSections = s.clientSections := by
  simp [State.raiseSource]
@[simp] theorem State.raiseSource_pathSections (s : State) (a : Nat) : (s.raiseSource a).pathSections = s.pathSections := by
  simp [State.raiseSource]
@[simp] theorem State.raiseSource_bins (s : State) (a : Nat) : (s.raiseSource a).bins = s.bins := by
  simp [State.raiseSource]
@[simp] theorem State.raiseSource_secondAt (s : State) (a : Nat) : (s.raiseSource a).secondAt = s.secondAt := by
  simp [State.raiseSource]
@[simp] theorem State.raiseSource_thermal (s : State) (a : Nat) : (s.raiseSource a).thermal = s.thermal := by
  simp [State.raiseSource]

@[simp] theorem State.accessFault_pending (s : State) (m : Initiator) (a b : Nat) : (s.accessFault m a b).pending = s.pending := by
  unfold State.accessFault; split <;> rfl
@[simp] theorem State.accessFault_regs (s : State) (m : Initiator) (a b : Nat) : (s.accessFault m a b).regs = s.regs := by
  unfold State.accessFault; split <;> rfl
@[simp] theorem State.accessFault_act (s : State) (m : Initiator) (a b : Nat) : (s.accessFault m a b).act = s.act := by
  unfold State.accessFault; split <;> rfl
@[simp] theorem State.accessFault_ctrs (s : State) (m : Initiator) (a b : Nat) : (s.accessFault m a b).ctrs = s.ctrs := by
  unfold State.accessFault; split <;> rfl
@[simp] theorem State.accessFault_tick (s : State) (m : Initiator) (a b : Nat) : (s.accessFault m a b).tick = s.tick := by
  unfold State.accessFault; split <;> rfl
@[simp] theorem State.accessFault_now (s : State) (m : Initiator) (a b : Nat) : (s.accessFault m a b).now = s.now := by
  unfold State.accessFault; split <;> rfl
@[simp] theorem State.accessFault_free (s : State) (m : Initiator) (a b : Nat) : (s.accessFault m a b).free = s.free := by
  unfold State.accessFault; split <;> rfl
@[simp] theorem State.accessFault_atBoundary (s : State) (m : Initiator) (a b : Nat) : (s.accessFault m a b).atBoundary = s.atBoundary := by
  unfold State.accessFault; split <;> rfl
@[simp] theorem State.accessFault_answers (s : State) (m : Initiator) (a b : Nat) : (s.accessFault m a b).answers = s.answers := by
  unfold State.accessFault; split <;> rfl
@[simp] theorem State.accessFault_outbox (s : State) (m : Initiator) (a b : Nat) : (s.accessFault m a b).outbox = s.outbox := by
  unfold State.accessFault; split <;> rfl
@[simp] theorem State.accessFault_reports (s : State) (m : Initiator) (a b : Nat) : (s.accessFault m a b).reports = s.reports := by
  unfold State.accessFault; split <;> rfl
@[simp] theorem State.accessFault_logQueue (s : State) (m : Initiator) (a b : Nat) : (s.accessFault m a b).logQueue = s.logQueue := by
  unfold State.accessFault; split <;> rfl
@[simp] theorem State.accessFault_slots (s : State) (m : Initiator) (a b : Nat) : (s.accessFault m a b).slots = s.slots := by
  unfold State.accessFault; split <;> rfl
@[simp] theorem State.accessFault_logSeq (s : State) (m : Initiator) (a b : Nat) : (s.accessFault m a b).logSeq = s.logSeq := by
  unfold State.accessFault; split <;> rfl
@[simp] theorem State.accessFault_links (s : State) (m : Initiator) (a b : Nat) : (s.accessFault m a b).links = s.links := by
  unfold State.accessFault; split <;> rfl
@[simp] theorem State.accessFault_avsCore (s : State) (m : Initiator) (a b : Nat) : (s.accessFault m a b).avsCore = s.avsCore := by
  unfold State.accessFault; split <;> rfl
@[simp] theorem State.accessFault_avsLe (s : State) (m : Initiator) (a b : Nat) : (s.accessFault m a b).avsLe = s.avsLe := by
  unfold State.accessFault; split <;> rfl
@[simp] theorem State.accessFault_stores (s : State) (m : Initiator) (a b : Nat) : (s.accessFault m a b).stores = s.stores := by
  unfold State.accessFault; split <;> rfl
@[simp] theorem State.accessFault_trains (s : State) (m : Initiator) (a b : Nat) : (s.accessFault m a b).trains = s.trains := by
  unfold State.accessFault; split <;> rfl
@[simp] theorem State.accessFault_ingress (s : State) (m : Initiator) (a b : Nat) : (s.accessFault m a b).ingress = s.ingress := by
  unfold State.accessFault; split <;> rfl
@[simp] theorem State.accessFault_staged (s : State) (m : Initiator) (a b : Nat) : (s.accessFault m a b).staged = s.staged := by
  unfold State.accessFault; split <;> rfl
@[simp] theorem State.accessFault_egress (s : State) (m : Initiator) (a b : Nat) : (s.accessFault m a b).egress = s.egress := by
  unfold State.accessFault; split <;> rfl
@[simp] theorem State.accessFault_sources (s : State) (m : Initiator) (a b : Nat) : (s.accessFault m a b).sources = s.sources := by
  unfold State.accessFault; split <;> rfl
@[simp] theorem State.accessFault_banks (s : State) (m : Initiator) (a b : Nat) : (s.accessFault m a b).banks = s.banks := by
  unfold State.accessFault; split <;> rfl
@[simp] theorem State.accessFault_swap (s : State) (m : Initiator) (a b : Nat) : (s.accessFault m a b).swap = s.swap := by
  unfold State.accessFault; split <;> rfl
@[simp] theorem State.accessFault_lostTransfers (s : State) (m : Initiator) (a b : Nat) : (s.accessFault m a b).lostTransfers = s.lostTransfers := by
  unfold State.accessFault; split <;> rfl
@[simp] theorem State.accessFault_lanes (s : State) (m : Initiator) (a b : Nat) : (s.accessFault m a b).lanes = s.lanes := by
  unfold State.accessFault; split <;> rfl
@[simp] theorem State.accessFault_clients (s : State) (m : Initiator) (a b : Nat) : (s.accessFault m a b).clients = s.clients := by
  unfold State.accessFault; split <;> rfl
@[simp] theorem State.accessFault_packets (s : State) (m : Initiator) (a b : Nat) : (s.accessFault m a b).packets = s.packets := by
  unfold State.accessFault; split <;> rfl
@[simp] theorem State.accessFault_frames (s : State) (m : Initiator) (a b : Nat) : (s.accessFault m a b).frames = s.frames := by
  unfold State.accessFault; split <;> rfl
@[simp] theorem State.accessFault_taps (s : State) (m : Initiator) (a b : Nat) : (s.accessFault m a b).taps = s.taps := by
  unfold State.accessFault; split <;> rfl
@[simp] theorem State.accessFault_tapsAccepted (s : State) (m : Initiator) (a b : Nat) : (s.accessFault m a b).tapsAccepted = s.tapsAccepted := by
  unfold State.accessFault; split <;> rfl
@[simp] theorem State.accessFault_gccs (s : State) (m : Initiator) (a b : Nat) : (s.accessFault m a b).gccs = s.gccs := by
  unfold State.accessFault; split <;> rfl
@[simp] theorem State.accessFault_sections (s : State) (m : Initiator) (a b : Nat) : (s.accessFault m a b).sections = s.sections := by
  unfold State.accessFault; split <;> rfl
@[simp] theorem State.accessFault_engines (s : State) (m : Initiator) (a b : Nat) : (s.accessFault m a b).engines = s.engines := by
  unfold State.accessFault; split <;> rfl
@[simp] theorem State.accessFault_pool (s : State) (m : Initiator) (a b : Nat) : (s.accessFault m a b).pool = s.pool := by
  unfold State.accessFault; split <;> rfl
@[simp] theorem State.accessFault_enc (s : State) (m : Initiator) (a b : Nat) : (s.accessFault m a b).enc = s.enc := by
  unfold State.accessFault; split <;> rfl
@[simp] theorem State.accessFault_keyJobs (s : State) (m : Initiator) (a b : Nat) : (s.accessFault m a b).keyJobs = s.keyJobs := by
  unfold State.accessFault; split <;> rfl
@[simp] theorem State.accessFault_hubs (s : State) (m : Initiator) (a b : Nat) : (s.accessFault m a b).hubs = s.hubs := by
  unfold State.accessFault; split <;> rfl
@[simp] theorem State.accessFault_tideScs (s : State) (m : Initiator) (a b : Nat) : (s.accessFault m a b).tideScs = s.tideScs := by
  unfold State.accessFault; split <;> rfl
@[simp] theorem State.accessFault_tideLeaves (s : State) (m : Initiator) (a b : Nat) : (s.accessFault m a b).tideLeaves = s.tideLeaves := by
  unfold State.accessFault; split <;> rfl
@[simp] theorem State.accessFault_downstream (s : State) (m : Initiator) (a b : Nat) : (s.accessFault m a b).downstream = s.downstream := by
  unfold State.accessFault; split <;> rfl
@[simp] theorem State.accessFault_merges (s : State) (m : Initiator) (a b : Nat) : (s.accessFault m a b).merges = s.merges := by
  unfold State.accessFault; split <;> rfl
@[simp] theorem State.accessFault_refs (s : State) (m : Initiator) (a b : Nat) : (s.accessFault m a b).refs = s.refs := by
  unfold State.accessFault; split <;> rfl
@[simp] theorem State.accessFault_gridPll (s : State) (m : Initiator) (a b : Nat) : (s.accessFault m a b).gridPll = s.gridPll := by
  unfold State.accessFault; split <;> rfl
@[simp] theorem State.accessFault_outPll (s : State) (m : Initiator) (a b : Nat) : (s.accessFault m a b).outPll = s.outPll := by
  unfold State.accessFault; split <;> rfl
@[simp] theorem State.accessFault_timeSources (s : State) (m : Initiator) (a b : Nat) : (s.accessFault m a b).timeSources = s.timeSources := by
  unfold State.accessFault; split <;> rfl
@[simp] theorem State.accessFault_timePll (s : State) (m : Initiator) (a b : Nat) : (s.accessFault m a b).timePll = s.timePll := by
  unfold State.accessFault; split <;> rfl
@[simp] theorem State.accessFault_captures (s : State) (m : Initiator) (a b : Nat) : (s.accessFault m a b).captures = s.captures := by
  unfold State.accessFault; split <;> rfl
@[simp] theorem State.accessFault_measures (s : State) (m : Initiator) (a b : Nat) : (s.accessFault m a b).measures = s.measures := by
  unfold State.accessFault; split <;> rfl
@[simp] theorem State.accessFault_journal (s : State) (m : Initiator) (a b : Nat) : (s.accessFault m a b).journal = s.journal := by
  unfold State.accessFault; split <;> rfl
@[simp] theorem State.accessFault_mate (s : State) (m : Initiator) (a b : Nat) : (s.accessFault m a b).mate = s.mate := by
  unfold State.accessFault; split <;> rfl
@[simp] theorem State.accessFault_snapshot (s : State) (m : Initiator) (a b : Nat) : (s.accessFault m a b).snapshot = s.snapshot := by
  unfold State.accessFault; split <;> rfl
@[simp] theorem State.accessFault_snapshotBefore (s : State) (m : Initiator) (a b : Nat) : (s.accessFault m a b).snapshotBefore = s.snapshotBefore := by
  unfold State.accessFault; split <;> rfl
@[simp] theorem State.accessFault_moors (s : State) (m : Initiator) (a b : Nat) : (s.accessFault m a b).moors = s.moors := by
  unfold State.accessFault; split <;> rfl
@[simp] theorem State.accessFault_ccUser (s : State) (m : Initiator) (a b : Nat) : (s.accessFault m a b).ccUser = s.ccUser := by
  unfold State.accessFault; split <;> rfl
@[simp] theorem State.accessFault_domain (s : State) (m : Initiator) (a b : Nat) : (s.accessFault m a b).domain = s.domain := by
  unfold State.accessFault; split <;> rfl
@[simp] theorem State.accessFault_mem (s : State) (m : Initiator) (a b : Nat) : (s.accessFault m a b).mem = s.mem := by
  unfold State.accessFault; split <;> rfl
@[simp] theorem State.accessFault_badWords (s : State) (m : Initiator) (a b : Nat) : (s.accessFault m a b).badWords = s.badWords := by
  unfold State.accessFault; split <;> rfl
@[simp] theorem State.accessFault_anc (s : State) (m : Initiator) (a b : Nat) : (s.accessFault m a b).anc = s.anc := by
  unfold State.accessFault; split <;> rfl
@[simp] theorem State.accessFault_written (s : State) (m : Initiator) (a b : Nat) : (s.accessFault m a b).written = s.written := by
  unfold State.accessFault; split <;> rfl
@[simp] theorem State.accessFault_ancBad (s : State) (m : Initiator) (a b : Nat) : (s.accessFault m a b).ancBad = s.ancBad := by
  unfold State.accessFault; split <;> rfl
@[simp] theorem State.accessFault_march (s : State) (m : Initiator) (a b : Nat) : (s.accessFault m a b).march = s.march := by
  unfold State.accessFault; split <;> rfl
@[simp] theorem State.accessFault_eccHigh (s : State) (m : Initiator) (a b : Nat) : (s.accessFault m a b).eccHigh = s.eccHigh := by
  unfold State.accessFault; split <;> rfl
@[simp] theorem State.accessFault_repairColumn (s : State) (m : Initiator) (a b : Nat) : (s.accessFault m a b).repairColumn = s.repairColumn := by
  unfold State.accessFault; split <;> rfl
@[simp] theorem State.accessFault_repaired (s : State) (m : Initiator) (a b : Nat) : (s.accessFault m a b).repaired = s.repaired := by
  unfold State.accessFault; split <;> rfl
@[simp] theorem State.accessFault_pcie (s : State) (m : Initiator) (a b : Nat) : (s.accessFault m a b).pcie = s.pcie := by
  unfold State.accessFault; split <;> rfl
@[simp] theorem State.accessFault_lbPage (s : State) (m : Initiator) (a b : Nat) : (s.accessFault m a b).lbPage = s.lbPage := by
  unfold State.accessFault; split <;> rfl
@[simp] theorem State.accessFault_uart (s : State) (m : Initiator) (a b : Nat) : (s.accessFault m a b).uart = s.uart := by
  unfold State.accessFault; split <;> rfl
@[simp] theorem State.accessFault_mailbox (s : State) (m : Initiator) (a b : Nat) : (s.accessFault m a b).mailbox = s.mailbox := by
  unfold State.accessFault; split <;> rfl
@[simp] theorem State.accessFault_scanning (s : State) (m : Initiator) (a b : Nat) : (s.accessFault m a b).scanning = s.scanning := by
  unfold State.accessFault; split <;> rfl
@[simp] theorem State.accessFault_image (s : State) (m : Initiator) (a b : Nat) : (s.accessFault m a b).image = s.image := by
  unfold State.accessFault; split <;> rfl
@[simp] theorem State.accessFault_committed (s : State) (m : Initiator) (a b : Nat) : (s.accessFault m a b).committed = s.committed := by
  unfold State.accessFault; split <;> rfl
@[simp] theorem State.accessFault_applied (s : State) (m : Initiator) (a b : Nat) : (s.accessFault m a b).applied = s.applied := by
  unfold State.accessFault; split <;> rfl
@[simp] theorem State.accessFault_previous (s : State) (m : Initiator) (a b : Nat) : (s.accessFault m a b).previous = s.previous := by
  unfold State.accessFault; split <;> rfl
@[simp] theorem State.accessFault_fuses (s : State) (m : Initiator) (a b : Nat) : (s.accessFault m a b).fuses = s.fuses := by
  unfold State.accessFault; split <;> rfl
@[simp] theorem State.accessFault_fuseCells (s : State) (m : Initiator) (a b : Nat) : (s.accessFault m a b).fuseCells = s.fuseCells := by
  unfold State.accessFault; split <;> rfl
@[simp] theorem State.accessFault_fuseTarget (s : State) (m : Initiator) (a b : Nat) : (s.accessFault m a b).fuseTarget = s.fuseTarget := by
  unfold State.accessFault; split <;> rfl
@[simp] theorem State.accessFault_boot (s : State) (m : Initiator) (a b : Nat) : (s.accessFault m a b).boot = s.boot := by
  unfold State.accessFault; split <;> rfl
@[simp] theorem State.accessFault_imageJob (s : State) (m : Initiator) (a b : Nat) : (s.accessFault m a b).imageJob = s.imageJob := by
  unfold State.accessFault; split <;> rfl
@[simp] theorem State.accessFault_blockResets (s : State) (m : Initiator) (a b : Nat) : (s.accessFault m a b).blockResets = s.blockResets := by
  unfold State.accessFault; split <;> rfl
@[simp] theorem State.accessFault_tallies (s : State) (m : Initiator) (a b : Nat) : (s.accessFault m a b).tallies = s.tallies := by
  unfold State.accessFault; split <;> rfl
@[simp] theorem State.accessFault_msixWaiting (s : State) (m : Initiator) (a b : Nat) : (s.accessFault m a b).msixWaiting = s.msixWaiting := by
  unfold State.accessFault; split <;> rfl
@[simp] theorem State.accessFault_linkUp (s : State) (m : Initiator) (a b : Nat) : (s.accessFault m a b).linkUp = s.linkUp := by
  unfold State.accessFault; split <;> rfl
@[simp] theorem State.accessFault_busMaster (s : State) (m : Initiator) (a b : Nat) : (s.accessFault m a b).busMaster = s.busMaster := by
  unfold State.accessFault; split <;> rfl
@[simp] theorem State.accessFault_dumpJobs (s : State) (m : Initiator) (a b : Nat) : (s.accessFault m a b).dumpJobs = s.dumpJobs := by
  unfold State.accessFault; split <;> rfl
@[simp] theorem State.accessFault_dumpSeqs (s : State) (m : Initiator) (a b : Nat) : (s.accessFault m a b).dumpSeqs = s.dumpSeqs := by
  unfold State.accessFault; split <;> rfl
@[simp] theorem State.accessFault_dumpAt (s : State) (m : Initiator) (a b : Nat) : (s.accessFault m a b).dumpAt = s.dumpAt := by
  unfold State.accessFault; split <;> rfl
@[simp] theorem State.accessFault_clientSections (s : State) (m : Initiator) (a b : Nat) : (s.accessFault m a b).clientSections = s.clientSections := by
  unfold State.accessFault; split <;> rfl
@[simp] theorem State.accessFault_pathSections (s : State) (m : Initiator) (a b : Nat) : (s.accessFault m a b).pathSections = s.pathSections := by
  unfold State.accessFault; split <;> rfl
@[simp] theorem State.accessFault_bins (s : State) (m : Initiator) (a b : Nat) : (s.accessFault m a b).bins = s.bins := by
  unfold State.accessFault; split <;> rfl
@[simp] theorem State.accessFault_secondAt (s : State) (m : Initiator) (a b : Nat) : (s.accessFault m a b).secondAt = s.secondAt := by
  unfold State.accessFault; split <;> rfl
@[simp] theorem State.accessFault_thermal (s : State) (m : Initiator) (a b : Nat) : (s.accessFault m a b).thermal = s.thermal := by
  unfold State.accessFault; split <;> rfl

@[simp] theorem State.busError_pending (s : State) (m : Initiator) (w : Bool) (a : Nat) (c : BusCause) : (s.busError m w a c).pending = s.pending := by
  simp [State.busError]
@[simp] theorem State.busError_act (s : State) (m : Initiator) (w : Bool) (a : Nat) (c : BusCause) : (s.busError m w a c).act = s.act := by
  simp [State.busError]
@[simp] theorem State.busError_ctrs (s : State) (m : Initiator) (w : Bool) (a : Nat) (c : BusCause) : (s.busError m w a c).ctrs = s.ctrs := by
  simp [State.busError]
@[simp] theorem State.busError_tick (s : State) (m : Initiator) (w : Bool) (a : Nat) (c : BusCause) : (s.busError m w a c).tick = s.tick := by
  simp [State.busError]
@[simp] theorem State.busError_now (s : State) (m : Initiator) (w : Bool) (a : Nat) (c : BusCause) : (s.busError m w a c).now = s.now := by
  simp [State.busError]
@[simp] theorem State.busError_free (s : State) (m : Initiator) (w : Bool) (a : Nat) (c : BusCause) : (s.busError m w a c).free = s.free := by
  simp [State.busError]
@[simp] theorem State.busError_atBoundary (s : State) (m : Initiator) (w : Bool) (a : Nat) (c : BusCause) : (s.busError m w a c).atBoundary = s.atBoundary := by
  simp [State.busError]
@[simp] theorem State.busError_logQueue (s : State) (m : Initiator) (w : Bool) (a : Nat) (c : BusCause) : (s.busError m w a c).logQueue = s.logQueue := by
  simp [State.busError]
@[simp] theorem State.busError_slots (s : State) (m : Initiator) (w : Bool) (a : Nat) (c : BusCause) : (s.busError m w a c).slots = s.slots := by
  simp [State.busError]
@[simp] theorem State.busError_logSeq (s : State) (m : Initiator) (w : Bool) (a : Nat) (c : BusCause) : (s.busError m w a c).logSeq = s.logSeq := by
  simp [State.busError]
@[simp] theorem State.busError_links (s : State) (m : Initiator) (w : Bool) (a : Nat) (c : BusCause) : (s.busError m w a c).links = s.links := by
  simp [State.busError]
@[simp] theorem State.busError_avsCore (s : State) (m : Initiator) (w : Bool) (a : Nat) (c : BusCause) : (s.busError m w a c).avsCore = s.avsCore := by
  simp [State.busError]
@[simp] theorem State.busError_avsLe (s : State) (m : Initiator) (w : Bool) (a : Nat) (c : BusCause) : (s.busError m w a c).avsLe = s.avsLe := by
  simp [State.busError]
@[simp] theorem State.busError_stores (s : State) (m : Initiator) (w : Bool) (a : Nat) (c : BusCause) : (s.busError m w a c).stores = s.stores := by
  simp [State.busError]
@[simp] theorem State.busError_trains (s : State) (m : Initiator) (w : Bool) (a : Nat) (c : BusCause) : (s.busError m w a c).trains = s.trains := by
  simp [State.busError]
@[simp] theorem State.busError_ingress (s : State) (m : Initiator) (w : Bool) (a : Nat) (c : BusCause) : (s.busError m w a c).ingress = s.ingress := by
  simp [State.busError]
@[simp] theorem State.busError_staged (s : State) (m : Initiator) (w : Bool) (a : Nat) (c : BusCause) : (s.busError m w a c).staged = s.staged := by
  simp [State.busError]
@[simp] theorem State.busError_egress (s : State) (m : Initiator) (w : Bool) (a : Nat) (c : BusCause) : (s.busError m w a c).egress = s.egress := by
  simp [State.busError]
@[simp] theorem State.busError_sources (s : State) (m : Initiator) (w : Bool) (a : Nat) (c : BusCause) : (s.busError m w a c).sources = s.sources := by
  simp [State.busError]
@[simp] theorem State.busError_banks (s : State) (m : Initiator) (w : Bool) (a : Nat) (c : BusCause) : (s.busError m w a c).banks = s.banks := by
  simp [State.busError]
@[simp] theorem State.busError_swap (s : State) (m : Initiator) (w : Bool) (a : Nat) (c : BusCause) : (s.busError m w a c).swap = s.swap := by
  simp [State.busError]
@[simp] theorem State.busError_lostTransfers (s : State) (m : Initiator) (w : Bool) (a : Nat) (c : BusCause) : (s.busError m w a c).lostTransfers = s.lostTransfers := by
  simp [State.busError]
@[simp] theorem State.busError_lanes (s : State) (m : Initiator) (w : Bool) (a : Nat) (c : BusCause) : (s.busError m w a c).lanes = s.lanes := by
  simp [State.busError]
@[simp] theorem State.busError_clients (s : State) (m : Initiator) (w : Bool) (a : Nat) (c : BusCause) : (s.busError m w a c).clients = s.clients := by
  simp [State.busError]
@[simp] theorem State.busError_packets (s : State) (m : Initiator) (w : Bool) (a : Nat) (c : BusCause) : (s.busError m w a c).packets = s.packets := by
  simp [State.busError]
@[simp] theorem State.busError_frames (s : State) (m : Initiator) (w : Bool) (a : Nat) (c : BusCause) : (s.busError m w a c).frames = s.frames := by
  simp [State.busError]
@[simp] theorem State.busError_taps (s : State) (m : Initiator) (w : Bool) (a : Nat) (c : BusCause) : (s.busError m w a c).taps = s.taps := by
  simp [State.busError]
@[simp] theorem State.busError_tapsAccepted (s : State) (m : Initiator) (w : Bool) (a : Nat) (c : BusCause) : (s.busError m w a c).tapsAccepted = s.tapsAccepted := by
  simp [State.busError]
@[simp] theorem State.busError_gccs (s : State) (m : Initiator) (w : Bool) (a : Nat) (c : BusCause) : (s.busError m w a c).gccs = s.gccs := by
  simp [State.busError]
@[simp] theorem State.busError_sections (s : State) (m : Initiator) (w : Bool) (a : Nat) (c : BusCause) : (s.busError m w a c).sections = s.sections := by
  simp [State.busError]
@[simp] theorem State.busError_engines (s : State) (m : Initiator) (w : Bool) (a : Nat) (c : BusCause) : (s.busError m w a c).engines = s.engines := by
  simp [State.busError]
@[simp] theorem State.busError_pool (s : State) (m : Initiator) (w : Bool) (a : Nat) (c : BusCause) : (s.busError m w a c).pool = s.pool := by
  simp [State.busError]
@[simp] theorem State.busError_enc (s : State) (m : Initiator) (w : Bool) (a : Nat) (c : BusCause) : (s.busError m w a c).enc = s.enc := by
  simp [State.busError]
@[simp] theorem State.busError_keyJobs (s : State) (m : Initiator) (w : Bool) (a : Nat) (c : BusCause) : (s.busError m w a c).keyJobs = s.keyJobs := by
  simp [State.busError]
@[simp] theorem State.busError_hubs (s : State) (m : Initiator) (w : Bool) (a : Nat) (c : BusCause) : (s.busError m w a c).hubs = s.hubs := by
  simp [State.busError]
@[simp] theorem State.busError_tideScs (s : State) (m : Initiator) (w : Bool) (a : Nat) (c : BusCause) : (s.busError m w a c).tideScs = s.tideScs := by
  simp [State.busError]
@[simp] theorem State.busError_tideLeaves (s : State) (m : Initiator) (w : Bool) (a : Nat) (c : BusCause) : (s.busError m w a c).tideLeaves = s.tideLeaves := by
  simp [State.busError]
@[simp] theorem State.busError_downstream (s : State) (m : Initiator) (w : Bool) (a : Nat) (c : BusCause) : (s.busError m w a c).downstream = s.downstream := by
  simp [State.busError]
@[simp] theorem State.busError_merges (s : State) (m : Initiator) (w : Bool) (a : Nat) (c : BusCause) : (s.busError m w a c).merges = s.merges := by
  simp [State.busError]
@[simp] theorem State.busError_refs (s : State) (m : Initiator) (w : Bool) (a : Nat) (c : BusCause) : (s.busError m w a c).refs = s.refs := by
  simp [State.busError]
@[simp] theorem State.busError_gridPll (s : State) (m : Initiator) (w : Bool) (a : Nat) (c : BusCause) : (s.busError m w a c).gridPll = s.gridPll := by
  simp [State.busError]
@[simp] theorem State.busError_outPll (s : State) (m : Initiator) (w : Bool) (a : Nat) (c : BusCause) : (s.busError m w a c).outPll = s.outPll := by
  simp [State.busError]
@[simp] theorem State.busError_timeSources (s : State) (m : Initiator) (w : Bool) (a : Nat) (c : BusCause) : (s.busError m w a c).timeSources = s.timeSources := by
  simp [State.busError]
@[simp] theorem State.busError_timePll (s : State) (m : Initiator) (w : Bool) (a : Nat) (c : BusCause) : (s.busError m w a c).timePll = s.timePll := by
  simp [State.busError]
@[simp] theorem State.busError_captures (s : State) (m : Initiator) (w : Bool) (a : Nat) (c : BusCause) : (s.busError m w a c).captures = s.captures := by
  simp [State.busError]
@[simp] theorem State.busError_measures (s : State) (m : Initiator) (w : Bool) (a : Nat) (c : BusCause) : (s.busError m w a c).measures = s.measures := by
  simp [State.busError]
@[simp] theorem State.busError_journal (s : State) (m : Initiator) (w : Bool) (a : Nat) (c : BusCause) : (s.busError m w a c).journal = s.journal := by
  simp [State.busError]
@[simp] theorem State.busError_mate (s : State) (m : Initiator) (w : Bool) (a : Nat) (c : BusCause) : (s.busError m w a c).mate = s.mate := by
  simp [State.busError]
@[simp] theorem State.busError_snapshot (s : State) (m : Initiator) (w : Bool) (a : Nat) (c : BusCause) : (s.busError m w a c).snapshot = s.snapshot := by
  simp [State.busError]
@[simp] theorem State.busError_snapshotBefore (s : State) (m : Initiator) (w : Bool) (a : Nat) (c : BusCause) : (s.busError m w a c).snapshotBefore = s.snapshotBefore := by
  simp [State.busError]
@[simp] theorem State.busError_moors (s : State) (m : Initiator) (w : Bool) (a : Nat) (c : BusCause) : (s.busError m w a c).moors = s.moors := by
  simp [State.busError]
@[simp] theorem State.busError_ccUser (s : State) (m : Initiator) (w : Bool) (a : Nat) (c : BusCause) : (s.busError m w a c).ccUser = s.ccUser := by
  simp [State.busError]
@[simp] theorem State.busError_domain (s : State) (m : Initiator) (w : Bool) (a : Nat) (c : BusCause) : (s.busError m w a c).domain = s.domain := by
  simp [State.busError]
@[simp] theorem State.busError_mem (s : State) (m : Initiator) (w : Bool) (a : Nat) (c : BusCause) : (s.busError m w a c).mem = s.mem := by
  simp [State.busError]
@[simp] theorem State.busError_badWords (s : State) (m : Initiator) (w : Bool) (a : Nat) (c : BusCause) : (s.busError m w a c).badWords = s.badWords := by
  simp [State.busError]
@[simp] theorem State.busError_anc (s : State) (m : Initiator) (w : Bool) (a : Nat) (c : BusCause) : (s.busError m w a c).anc = s.anc := by
  simp [State.busError]
@[simp] theorem State.busError_written (s : State) (m : Initiator) (w : Bool) (a : Nat) (c : BusCause) : (s.busError m w a c).written = s.written := by
  simp [State.busError]
@[simp] theorem State.busError_ancBad (s : State) (m : Initiator) (w : Bool) (a : Nat) (c : BusCause) : (s.busError m w a c).ancBad = s.ancBad := by
  simp [State.busError]
@[simp] theorem State.busError_march (s : State) (m : Initiator) (w : Bool) (a : Nat) (c : BusCause) : (s.busError m w a c).march = s.march := by
  simp [State.busError]
@[simp] theorem State.busError_eccHigh (s : State) (m : Initiator) (w : Bool) (a : Nat) (c : BusCause) : (s.busError m w a c).eccHigh = s.eccHigh := by
  simp [State.busError]
@[simp] theorem State.busError_repairColumn (s : State) (m : Initiator) (w : Bool) (a : Nat) (c : BusCause) : (s.busError m w a c).repairColumn = s.repairColumn := by
  simp [State.busError]
@[simp] theorem State.busError_repaired (s : State) (m : Initiator) (w : Bool) (a : Nat) (c : BusCause) : (s.busError m w a c).repaired = s.repaired := by
  simp [State.busError]
@[simp] theorem State.busError_pcie (s : State) (m : Initiator) (w : Bool) (a : Nat) (c : BusCause) : (s.busError m w a c).pcie = s.pcie := by
  simp [State.busError]
@[simp] theorem State.busError_lbPage (s : State) (m : Initiator) (w : Bool) (a : Nat) (c : BusCause) : (s.busError m w a c).lbPage = s.lbPage := by
  simp [State.busError]
@[simp] theorem State.busError_uart (s : State) (m : Initiator) (w : Bool) (a : Nat) (c : BusCause) : (s.busError m w a c).uart = s.uart := by
  simp [State.busError]
@[simp] theorem State.busError_mailbox (s : State) (m : Initiator) (w : Bool) (a : Nat) (c : BusCause) : (s.busError m w a c).mailbox = s.mailbox := by
  simp [State.busError]
@[simp] theorem State.busError_scanning (s : State) (m : Initiator) (w : Bool) (a : Nat) (c : BusCause) : (s.busError m w a c).scanning = s.scanning := by
  simp [State.busError]
@[simp] theorem State.busError_image (s : State) (m : Initiator) (w : Bool) (a : Nat) (c : BusCause) : (s.busError m w a c).image = s.image := by
  simp [State.busError]
@[simp] theorem State.busError_committed (s : State) (m : Initiator) (w : Bool) (a : Nat) (c : BusCause) : (s.busError m w a c).committed = s.committed := by
  simp [State.busError]
@[simp] theorem State.busError_applied (s : State) (m : Initiator) (w : Bool) (a : Nat) (c : BusCause) : (s.busError m w a c).applied = s.applied := by
  simp [State.busError]
@[simp] theorem State.busError_previous (s : State) (m : Initiator) (w : Bool) (a : Nat) (c : BusCause) : (s.busError m w a c).previous = s.previous := by
  simp [State.busError]
@[simp] theorem State.busError_fuses (s : State) (m : Initiator) (w : Bool) (a : Nat) (c : BusCause) : (s.busError m w a c).fuses = s.fuses := by
  simp [State.busError]
@[simp] theorem State.busError_fuseCells (s : State) (m : Initiator) (w : Bool) (a : Nat) (c : BusCause) : (s.busError m w a c).fuseCells = s.fuseCells := by
  simp [State.busError]
@[simp] theorem State.busError_fuseTarget (s : State) (m : Initiator) (w : Bool) (a : Nat) (c : BusCause) : (s.busError m w a c).fuseTarget = s.fuseTarget := by
  simp [State.busError]
@[simp] theorem State.busError_boot (s : State) (m : Initiator) (w : Bool) (a : Nat) (c : BusCause) : (s.busError m w a c).boot = s.boot := by
  simp [State.busError]
@[simp] theorem State.busError_imageJob (s : State) (m : Initiator) (w : Bool) (a : Nat) (c : BusCause) : (s.busError m w a c).imageJob = s.imageJob := by
  simp [State.busError]
@[simp] theorem State.busError_blockResets (s : State) (m : Initiator) (w : Bool) (a : Nat) (c : BusCause) : (s.busError m w a c).blockResets = s.blockResets := by
  simp [State.busError]
@[simp] theorem State.busError_linkUp (s : State) (m : Initiator) (w : Bool) (a : Nat) (c : BusCause) : (s.busError m w a c).linkUp = s.linkUp := by
  simp [State.busError]
@[simp] theorem State.busError_busMaster (s : State) (m : Initiator) (w : Bool) (a : Nat) (c : BusCause) : (s.busError m w a c).busMaster = s.busMaster := by
  simp [State.busError]
@[simp] theorem State.busError_dumpJobs (s : State) (m : Initiator) (w : Bool) (a : Nat) (c : BusCause) : (s.busError m w a c).dumpJobs = s.dumpJobs := by
  simp [State.busError]
@[simp] theorem State.busError_dumpSeqs (s : State) (m : Initiator) (w : Bool) (a : Nat) (c : BusCause) : (s.busError m w a c).dumpSeqs = s.dumpSeqs := by
  simp [State.busError]
@[simp] theorem State.busError_dumpAt (s : State) (m : Initiator) (w : Bool) (a : Nat) (c : BusCause) : (s.busError m w a c).dumpAt = s.dumpAt := by
  simp [State.busError]
@[simp] theorem State.busError_clientSections (s : State) (m : Initiator) (w : Bool) (a : Nat) (c : BusCause) : (s.busError m w a c).clientSections = s.clientSections := by
  simp [State.busError]
@[simp] theorem State.busError_pathSections (s : State) (m : Initiator) (w : Bool) (a : Nat) (c : BusCause) : (s.busError m w a c).pathSections = s.pathSections := by
  simp [State.busError]
@[simp] theorem State.busError_bins (s : State) (m : Initiator) (w : Bool) (a : Nat) (c : BusCause) : (s.busError m w a c).bins = s.bins := by
  simp [State.busError]
@[simp] theorem State.busError_secondAt (s : State) (m : Initiator) (w : Bool) (a : Nat) (c : BusCause) : (s.busError m w a c).secondAt = s.secondAt := by
  simp [State.busError]
@[simp] theorem State.busError_thermal (s : State) (m : Initiator) (w : Bool) (a : Nat) (c : BusCause) : (s.busError m w a c).thermal = s.thermal := by
  simp [State.busError]

@[simp] theorem State.refuseLocal_pending (s : State) (m : Initiator) (a : Nat) : (s.refuseLocal m a).pending = s.pending := by
  simp [State.refuseLocal]
@[simp] theorem State.refuseLocal_act (s : State) (m : Initiator) (a : Nat) : (s.refuseLocal m a).act = s.act := by
  simp [State.refuseLocal]
@[simp] theorem State.refuseLocal_ctrs (s : State) (m : Initiator) (a : Nat) : (s.refuseLocal m a).ctrs = s.ctrs := by
  simp [State.refuseLocal]
@[simp] theorem State.refuseLocal_tick (s : State) (m : Initiator) (a : Nat) : (s.refuseLocal m a).tick = s.tick := by
  simp [State.refuseLocal]
@[simp] theorem State.refuseLocal_now (s : State) (m : Initiator) (a : Nat) : (s.refuseLocal m a).now = s.now := by
  simp [State.refuseLocal]
@[simp] theorem State.refuseLocal_free (s : State) (m : Initiator) (a : Nat) : (s.refuseLocal m a).free = s.free := by
  simp [State.refuseLocal]
@[simp] theorem State.refuseLocal_atBoundary (s : State) (m : Initiator) (a : Nat) : (s.refuseLocal m a).atBoundary = s.atBoundary := by
  simp [State.refuseLocal]
@[simp] theorem State.refuseLocal_logQueue (s : State) (m : Initiator) (a : Nat) : (s.refuseLocal m a).logQueue = s.logQueue := by
  simp [State.refuseLocal]
@[simp] theorem State.refuseLocal_slots (s : State) (m : Initiator) (a : Nat) : (s.refuseLocal m a).slots = s.slots := by
  simp [State.refuseLocal]
@[simp] theorem State.refuseLocal_logSeq (s : State) (m : Initiator) (a : Nat) : (s.refuseLocal m a).logSeq = s.logSeq := by
  simp [State.refuseLocal]
@[simp] theorem State.refuseLocal_links (s : State) (m : Initiator) (a : Nat) : (s.refuseLocal m a).links = s.links := by
  simp [State.refuseLocal]
@[simp] theorem State.refuseLocal_avsCore (s : State) (m : Initiator) (a : Nat) : (s.refuseLocal m a).avsCore = s.avsCore := by
  simp [State.refuseLocal]
@[simp] theorem State.refuseLocal_avsLe (s : State) (m : Initiator) (a : Nat) : (s.refuseLocal m a).avsLe = s.avsLe := by
  simp [State.refuseLocal]
@[simp] theorem State.refuseLocal_stores (s : State) (m : Initiator) (a : Nat) : (s.refuseLocal m a).stores = s.stores := by
  simp [State.refuseLocal]
@[simp] theorem State.refuseLocal_trains (s : State) (m : Initiator) (a : Nat) : (s.refuseLocal m a).trains = s.trains := by
  simp [State.refuseLocal]
@[simp] theorem State.refuseLocal_ingress (s : State) (m : Initiator) (a : Nat) : (s.refuseLocal m a).ingress = s.ingress := by
  simp [State.refuseLocal]
@[simp] theorem State.refuseLocal_staged (s : State) (m : Initiator) (a : Nat) : (s.refuseLocal m a).staged = s.staged := by
  simp [State.refuseLocal]
@[simp] theorem State.refuseLocal_egress (s : State) (m : Initiator) (a : Nat) : (s.refuseLocal m a).egress = s.egress := by
  simp [State.refuseLocal]
@[simp] theorem State.refuseLocal_sources (s : State) (m : Initiator) (a : Nat) : (s.refuseLocal m a).sources = s.sources := by
  simp [State.refuseLocal]
@[simp] theorem State.refuseLocal_banks (s : State) (m : Initiator) (a : Nat) : (s.refuseLocal m a).banks = s.banks := by
  simp [State.refuseLocal]
@[simp] theorem State.refuseLocal_swap (s : State) (m : Initiator) (a : Nat) : (s.refuseLocal m a).swap = s.swap := by
  simp [State.refuseLocal]
@[simp] theorem State.refuseLocal_lostTransfers (s : State) (m : Initiator) (a : Nat) : (s.refuseLocal m a).lostTransfers = s.lostTransfers := by
  simp [State.refuseLocal]
@[simp] theorem State.refuseLocal_lanes (s : State) (m : Initiator) (a : Nat) : (s.refuseLocal m a).lanes = s.lanes := by
  simp [State.refuseLocal]
@[simp] theorem State.refuseLocal_clients (s : State) (m : Initiator) (a : Nat) : (s.refuseLocal m a).clients = s.clients := by
  simp [State.refuseLocal]
@[simp] theorem State.refuseLocal_packets (s : State) (m : Initiator) (a : Nat) : (s.refuseLocal m a).packets = s.packets := by
  simp [State.refuseLocal]
@[simp] theorem State.refuseLocal_frames (s : State) (m : Initiator) (a : Nat) : (s.refuseLocal m a).frames = s.frames := by
  simp [State.refuseLocal]
@[simp] theorem State.refuseLocal_taps (s : State) (m : Initiator) (a : Nat) : (s.refuseLocal m a).taps = s.taps := by
  simp [State.refuseLocal]
@[simp] theorem State.refuseLocal_tapsAccepted (s : State) (m : Initiator) (a : Nat) : (s.refuseLocal m a).tapsAccepted = s.tapsAccepted := by
  simp [State.refuseLocal]
@[simp] theorem State.refuseLocal_gccs (s : State) (m : Initiator) (a : Nat) : (s.refuseLocal m a).gccs = s.gccs := by
  simp [State.refuseLocal]
@[simp] theorem State.refuseLocal_sections (s : State) (m : Initiator) (a : Nat) : (s.refuseLocal m a).sections = s.sections := by
  simp [State.refuseLocal]
@[simp] theorem State.refuseLocal_engines (s : State) (m : Initiator) (a : Nat) : (s.refuseLocal m a).engines = s.engines := by
  simp [State.refuseLocal]
@[simp] theorem State.refuseLocal_pool (s : State) (m : Initiator) (a : Nat) : (s.refuseLocal m a).pool = s.pool := by
  simp [State.refuseLocal]
@[simp] theorem State.refuseLocal_enc (s : State) (m : Initiator) (a : Nat) : (s.refuseLocal m a).enc = s.enc := by
  simp [State.refuseLocal]
@[simp] theorem State.refuseLocal_keyJobs (s : State) (m : Initiator) (a : Nat) : (s.refuseLocal m a).keyJobs = s.keyJobs := by
  simp [State.refuseLocal]
@[simp] theorem State.refuseLocal_hubs (s : State) (m : Initiator) (a : Nat) : (s.refuseLocal m a).hubs = s.hubs := by
  simp [State.refuseLocal]
@[simp] theorem State.refuseLocal_tideScs (s : State) (m : Initiator) (a : Nat) : (s.refuseLocal m a).tideScs = s.tideScs := by
  simp [State.refuseLocal]
@[simp] theorem State.refuseLocal_tideLeaves (s : State) (m : Initiator) (a : Nat) : (s.refuseLocal m a).tideLeaves = s.tideLeaves := by
  simp [State.refuseLocal]
@[simp] theorem State.refuseLocal_downstream (s : State) (m : Initiator) (a : Nat) : (s.refuseLocal m a).downstream = s.downstream := by
  simp [State.refuseLocal]
@[simp] theorem State.refuseLocal_merges (s : State) (m : Initiator) (a : Nat) : (s.refuseLocal m a).merges = s.merges := by
  simp [State.refuseLocal]
@[simp] theorem State.refuseLocal_refs (s : State) (m : Initiator) (a : Nat) : (s.refuseLocal m a).refs = s.refs := by
  simp [State.refuseLocal]
@[simp] theorem State.refuseLocal_gridPll (s : State) (m : Initiator) (a : Nat) : (s.refuseLocal m a).gridPll = s.gridPll := by
  simp [State.refuseLocal]
@[simp] theorem State.refuseLocal_outPll (s : State) (m : Initiator) (a : Nat) : (s.refuseLocal m a).outPll = s.outPll := by
  simp [State.refuseLocal]
@[simp] theorem State.refuseLocal_timeSources (s : State) (m : Initiator) (a : Nat) : (s.refuseLocal m a).timeSources = s.timeSources := by
  simp [State.refuseLocal]
@[simp] theorem State.refuseLocal_timePll (s : State) (m : Initiator) (a : Nat) : (s.refuseLocal m a).timePll = s.timePll := by
  simp [State.refuseLocal]
@[simp] theorem State.refuseLocal_captures (s : State) (m : Initiator) (a : Nat) : (s.refuseLocal m a).captures = s.captures := by
  simp [State.refuseLocal]
@[simp] theorem State.refuseLocal_measures (s : State) (m : Initiator) (a : Nat) : (s.refuseLocal m a).measures = s.measures := by
  simp [State.refuseLocal]
@[simp] theorem State.refuseLocal_journal (s : State) (m : Initiator) (a : Nat) : (s.refuseLocal m a).journal = s.journal := by
  simp [State.refuseLocal]
@[simp] theorem State.refuseLocal_mate (s : State) (m : Initiator) (a : Nat) : (s.refuseLocal m a).mate = s.mate := by
  simp [State.refuseLocal]
@[simp] theorem State.refuseLocal_snapshot (s : State) (m : Initiator) (a : Nat) : (s.refuseLocal m a).snapshot = s.snapshot := by
  simp [State.refuseLocal]
@[simp] theorem State.refuseLocal_snapshotBefore (s : State) (m : Initiator) (a : Nat) : (s.refuseLocal m a).snapshotBefore = s.snapshotBefore := by
  simp [State.refuseLocal]
@[simp] theorem State.refuseLocal_moors (s : State) (m : Initiator) (a : Nat) : (s.refuseLocal m a).moors = s.moors := by
  simp [State.refuseLocal]
@[simp] theorem State.refuseLocal_ccUser (s : State) (m : Initiator) (a : Nat) : (s.refuseLocal m a).ccUser = s.ccUser := by
  simp [State.refuseLocal]
@[simp] theorem State.refuseLocal_domain (s : State) (m : Initiator) (a : Nat) : (s.refuseLocal m a).domain = s.domain := by
  simp [State.refuseLocal]
@[simp] theorem State.refuseLocal_mem (s : State) (m : Initiator) (a : Nat) : (s.refuseLocal m a).mem = s.mem := by
  simp [State.refuseLocal]
@[simp] theorem State.refuseLocal_badWords (s : State) (m : Initiator) (a : Nat) : (s.refuseLocal m a).badWords = s.badWords := by
  simp [State.refuseLocal]
@[simp] theorem State.refuseLocal_anc (s : State) (m : Initiator) (a : Nat) : (s.refuseLocal m a).anc = s.anc := by
  simp [State.refuseLocal]
@[simp] theorem State.refuseLocal_written (s : State) (m : Initiator) (a : Nat) : (s.refuseLocal m a).written = s.written := by
  simp [State.refuseLocal]
@[simp] theorem State.refuseLocal_ancBad (s : State) (m : Initiator) (a : Nat) : (s.refuseLocal m a).ancBad = s.ancBad := by
  simp [State.refuseLocal]
@[simp] theorem State.refuseLocal_march (s : State) (m : Initiator) (a : Nat) : (s.refuseLocal m a).march = s.march := by
  simp [State.refuseLocal]
@[simp] theorem State.refuseLocal_eccHigh (s : State) (m : Initiator) (a : Nat) : (s.refuseLocal m a).eccHigh = s.eccHigh := by
  simp [State.refuseLocal]
@[simp] theorem State.refuseLocal_repairColumn (s : State) (m : Initiator) (a : Nat) : (s.refuseLocal m a).repairColumn = s.repairColumn := by
  simp [State.refuseLocal]
@[simp] theorem State.refuseLocal_repaired (s : State) (m : Initiator) (a : Nat) : (s.refuseLocal m a).repaired = s.repaired := by
  simp [State.refuseLocal]
@[simp] theorem State.refuseLocal_pcie (s : State) (m : Initiator) (a : Nat) : (s.refuseLocal m a).pcie = s.pcie := by
  simp [State.refuseLocal]
@[simp] theorem State.refuseLocal_lbPage (s : State) (m : Initiator) (a : Nat) : (s.refuseLocal m a).lbPage = s.lbPage := by
  simp [State.refuseLocal]
@[simp] theorem State.refuseLocal_uart (s : State) (m : Initiator) (a : Nat) : (s.refuseLocal m a).uart = s.uart := by
  simp [State.refuseLocal]
@[simp] theorem State.refuseLocal_mailbox (s : State) (m : Initiator) (a : Nat) : (s.refuseLocal m a).mailbox = s.mailbox := by
  simp [State.refuseLocal]
@[simp] theorem State.refuseLocal_scanning (s : State) (m : Initiator) (a : Nat) : (s.refuseLocal m a).scanning = s.scanning := by
  simp [State.refuseLocal]
@[simp] theorem State.refuseLocal_image (s : State) (m : Initiator) (a : Nat) : (s.refuseLocal m a).image = s.image := by
  simp [State.refuseLocal]
@[simp] theorem State.refuseLocal_committed (s : State) (m : Initiator) (a : Nat) : (s.refuseLocal m a).committed = s.committed := by
  simp [State.refuseLocal]
@[simp] theorem State.refuseLocal_applied (s : State) (m : Initiator) (a : Nat) : (s.refuseLocal m a).applied = s.applied := by
  simp [State.refuseLocal]
@[simp] theorem State.refuseLocal_previous (s : State) (m : Initiator) (a : Nat) : (s.refuseLocal m a).previous = s.previous := by
  simp [State.refuseLocal]
@[simp] theorem State.refuseLocal_fuses (s : State) (m : Initiator) (a : Nat) : (s.refuseLocal m a).fuses = s.fuses := by
  simp [State.refuseLocal]
@[simp] theorem State.refuseLocal_fuseCells (s : State) (m : Initiator) (a : Nat) : (s.refuseLocal m a).fuseCells = s.fuseCells := by
  simp [State.refuseLocal]
@[simp] theorem State.refuseLocal_fuseTarget (s : State) (m : Initiator) (a : Nat) : (s.refuseLocal m a).fuseTarget = s.fuseTarget := by
  simp [State.refuseLocal]
@[simp] theorem State.refuseLocal_boot (s : State) (m : Initiator) (a : Nat) : (s.refuseLocal m a).boot = s.boot := by
  simp [State.refuseLocal]
@[simp] theorem State.refuseLocal_imageJob (s : State) (m : Initiator) (a : Nat) : (s.refuseLocal m a).imageJob = s.imageJob := by
  simp [State.refuseLocal]
@[simp] theorem State.refuseLocal_blockResets (s : State) (m : Initiator) (a : Nat) : (s.refuseLocal m a).blockResets = s.blockResets := by
  simp [State.refuseLocal]
@[simp] theorem State.refuseLocal_linkUp (s : State) (m : Initiator) (a : Nat) : (s.refuseLocal m a).linkUp = s.linkUp := by
  simp [State.refuseLocal]
@[simp] theorem State.refuseLocal_busMaster (s : State) (m : Initiator) (a : Nat) : (s.refuseLocal m a).busMaster = s.busMaster := by
  simp [State.refuseLocal]
@[simp] theorem State.refuseLocal_dumpJobs (s : State) (m : Initiator) (a : Nat) : (s.refuseLocal m a).dumpJobs = s.dumpJobs := by
  simp [State.refuseLocal]
@[simp] theorem State.refuseLocal_dumpSeqs (s : State) (m : Initiator) (a : Nat) : (s.refuseLocal m a).dumpSeqs = s.dumpSeqs := by
  simp [State.refuseLocal]
@[simp] theorem State.refuseLocal_dumpAt (s : State) (m : Initiator) (a : Nat) : (s.refuseLocal m a).dumpAt = s.dumpAt := by
  simp [State.refuseLocal]
@[simp] theorem State.refuseLocal_clientSections (s : State) (m : Initiator) (a : Nat) : (s.refuseLocal m a).clientSections = s.clientSections := by
  simp [State.refuseLocal]
@[simp] theorem State.refuseLocal_pathSections (s : State) (m : Initiator) (a : Nat) : (s.refuseLocal m a).pathSections = s.pathSections := by
  simp [State.refuseLocal]
@[simp] theorem State.refuseLocal_bins (s : State) (m : Initiator) (a : Nat) : (s.refuseLocal m a).bins = s.bins := by
  simp [State.refuseLocal]
@[simp] theorem State.refuseLocal_secondAt (s : State) (m : Initiator) (a : Nat) : (s.refuseLocal m a).secondAt = s.secondAt := by
  simp [State.refuseLocal]
@[simp] theorem State.refuseLocal_thermal (s : State) (m : Initiator) (a : Nat) : (s.refuseLocal m a).thermal = s.thermal := by
  simp [State.refuseLocal]
/-- A report writes no register but EV_STICKY and EV_SRC_CNT. -/
theorem State.report_reg (s : State) (a b c d : Nat) {r : Reg} (h1 : r ≠ .EV_STICKY) (h2 : r ≠ .EV_SRC_CNT) (j : Nat) :
    (s.report a b c d).reg r j = s.reg r j := by
  have key : ∀ t : State, ∀ v, (t.sendMsix v).regs = t.regs := fun t v => State.sendMsix_regs t v
  have : ∀ t u : State, t.regs = u.regs → t.reg r j = u.reg r j := fun t u e => by simp only [State.reg, e]
  have k2 : (((s.incWrap F.EV_SRC_CNT_CNT a 1).wr F.EV_STICKY_SRC (a / 32) (s.rd F.EV_STICKY_SRC (a / 32) ||| 2 ^ (a % 32)))).reg r j = s.reg r j := by
    rw [State.reg_wr_ne (.inl (Ne.symm h1)), State.incWrap, State.reg_wr_ne (.inl (Ne.symm h2))]
  unfold State.report
  dsimp only
  split
  · rw [this _ _ (key _ _)]; exact k2
  · exact k2

/-- A raised event writes no register but its own, EV_STICKY and EV_SRC_CNT. -/
theorem State.raise_reg (s : State) (f : Field) (i : Nat) {r : Reg} (h0 : r ≠ f.reg) (h1 : r ≠ .EV_STICKY) (h2 : r ≠ .EV_SRC_CNT)
    (j : Nat) : (s.raise f i).reg r j = s.reg r j := by
  unfold State.raise
  dsimp only
  split
  · rfl
  · have hw : (s.wr f i 1).reg r j = s.reg r j := State.reg_wr_ne (.inl (Ne.symm h0)) s 1
    split
    · exact hw
    · split <;> split <;> simp only [State.report_reg _ _ _ _ _ h1 h2, hw]

/-- A raised event sets its leaf bit (R575). -/
theorem State.raise_on {f : Field} (s : State) (i : Nat) (hg : f.good = true) (hw : f.hi = f.lo) (h1 : f.reg ≠ .EV_STICKY)
    (h2 : f.reg ≠ .EV_SRC_CNT) : (s.raise f i).rd f i = 1 := by
  have one : (s.wr f i 1).rd f i = 1 := by
    rw [State.rd_wr hg]
    simp [Field.width, hw]
  unfold State.raise
  dsimp only
  split
  · rename_i h
    simpa [State.on] using h
  · split
    · exact one
    · split <;> split <;> simp only [State.rd, State.report_reg _ _ _ _ _ h1 h2] <;> exact one

/-- A raised event leaves the fields of other registers alone. -/
theorem State.raise_rd (s : State) (f : Field) (i : Nat) {g : Field} (h0 : g.reg ≠ f.reg) (h1 : g.reg ≠ .EV_STICKY)
    (h2 : g.reg ≠ .EV_SRC_CNT) (j : Nat) : (s.raise f i).rd g j = s.rd g j := by
  simp only [State.rd, State.raise_reg s f i h0 h1 h2 j]

/-- A raised event that was set already changes nothing. -/
theorem State.raise_of_on {s : State} {f : Field} {i : Nat} (h : s.on f i = true) : s.raise f i = s := by
  unfold State.raise
  rw [if_pos h]

end Sys2Proof.Machine
end

