-- ==== Sys2Proof/Laws/InvFabric.lean ====
section
/-! SUPPORT. The invariant `State.Inv` through each function of Berths, Fabric, Quays: one lemma per function, named after
it. -/

namespace Sys2Proof.Machine

set_option Elab.async false


theorem State.berthPointerWord_inv {s1 : State} {x2 : Nat} {x3 : BitVec 16} {x4 : Nat} {x5 : Nat} {x6 : Int} {x7 : Nat} (h1 : s1.Inv) : (State.berthPointerWord s1 x2 x3 x4 x5 x6 x7).Inv := by
  unfold State.berthPointerWord
  with_reducible repeat' first | intro _ | assumption | apply State.setStore_inv | apply State.raiseIf_inv | apply State.incWrap_inv | apply State.raise_inv | apply State.setTally_inv | apply State.inv_ite | split | apply State.inv_mk

theorem State.missedBerth_inv {s1 : State} {x2 : Nat} (h1 : s1.Inv) : (State.missedBerth s1 x2).Inv := by
  unfold State.missedBerth
  with_reducible repeat' first | intro _ | assumption | apply State.setStore_inv | apply State.raiseIf_inv | apply State.inv_ite | split | apply State.inv_mk

theorem State.publishStore_inv {s1 : State} {x2 : Nat} (h1 : s1.Inv) : (State.publishStore s1 x2).Inv := by
  unfold State.publishStore
  with_reducible repeat' first | intro _ | assumption | apply State.wr_inv | apply State.inv_ite | split | apply State.inv_mk

theorem State.tickStore_inv {s1 : State} {x2 : Nat} (h1 : s1.Inv) : (State.tickStore s1 x2).Inv := by
  unfold State.tickStore
  with_reducible repeat' first | intro _ | assumption | apply State.setStore_inv | apply State.addTally_inv | apply State.raise_inv | apply State.incWrap_inv | apply State.setTally_inv | apply State.publishStore_inv | apply State.inv_ite | split | apply State.inv_mk

theorem State.clientRate_inv {s1 : State} {x2 : Nat} {x3 : Nat} {x4 : Bool} (h1 : s1.Inv) : (State.clientRate s1 x2 x3 x4).Inv := by
  unfold State.clientRate
  with_reducible repeat' first | intro _ | assumption | apply State.setTrain_inv | apply State.raise_inv | apply State.inv_ite | split | apply State.inv_mk

theorem State.fillLimitEnd_inv {s1 : State} {x2 : Nat} (h1 : s1.Inv) : (State.fillLimitEnd s1 x2).Inv := by
  unfold State.fillLimitEnd
  with_reducible repeat' first | intro _ | assumption | apply State.setTrain_inv | apply State.inv_ite | split | apply State.inv_mk

theorem State.setDefect_inv {s1 : State} {x2 : Field} {x3 : Nat} {x4 : Bool} (h1 : s1.Inv) : (State.setDefect s1 x2 x3 x4).Inv := by
  unfold State.setDefect
  with_reducible repeat' first | intro _ | assumption | apply State.raise_inv | apply State.wr_inv | apply State.setTrain_inv | apply State.inv_ite | split | apply State.inv_mk

theorem State.trainSeqLoss_inv {s1 : State} {x2 : Nat} {x3 : SeqSight} (h1 : s1.Inv) : (State.trainSeqLoss s1 x2 x3).Inv := by
  unfold State.trainSeqLoss
  with_reducible repeat' first | intro _ | assumption | apply State.setDefect_inv | apply State.setTrain_inv | apply State.inv_ite | split | apply State.inv_mk

theorem State.trainMis_inv {s1 : State} {x2 : Nat} {x3 : Bool} {x4 : Nat} (h1 : s1.Inv) : (State.trainMis s1 x2 x3 x4).Inv := by
  unfold State.trainMis
  with_reducible repeat' first | intro _ | assumption | apply State.setDefect_inv | apply State.inv_ite | split | apply State.inv_mk

theorem State.trainSkew_inv {s1 : State} {x2 : Nat} {x3 : Nat} {x4 : Nat} (h1 : s1.Inv) : (State.trainSkew s1 x2 x3 x4).Inv := by
  unfold State.trainSkew
  with_reducible repeat' first | intro _ | assumption | apply State.setDefect_inv | apply State.inv_ite | split | apply State.inv_mk

theorem State.trainAis_inv {s1 : State} {x2 : Nat} {x3 : Bool} {x4 : Nat} (h1 : s1.Inv) : (State.trainAis s1 x2 x3 x4).Inv := by
  unfold State.trainAis
  with_reducible repeat' first | intro _ | assumption | apply State.setDefect_inv | apply State.inv_ite | split | apply State.inv_mk

theorem State.trainRdi_inv {s1 : State} {x2 : Nat} {x3 : Bool} {x4 : Nat} (h1 : s1.Inv) : (State.trainRdi s1 x2 x3 x4).Inv := by
  unfold State.trainRdi
  with_reducible repeat' first | intro _ | assumption | apply State.setDefect_inv | apply State.inv_ite | split | apply State.inv_mk

theorem State.trainCsf_inv {s1 : State} {x2 : Nat} {x3 : Bool} {x4 : Nat} {x5 : Nat} (h1 : s1.Inv) : (State.trainCsf s1 x2 x3 x4 x5).Inv := by
  unfold State.trainCsf
  with_reducible repeat' first | intro _ | assumption | apply State.setDefect_inv | apply State.inv_ite | split | apply State.inv_mk

theorem State.crateErrors_inv {s1 : State} {x2 : Nat} {x3 : Nat} {x4 : Nat} (h1 : s1.Inv) : (State.crateErrors s1 x2 x3 x4).Inv := by
  unfold State.crateErrors
  with_reducible repeat' first | intro _ | assumption | apply State.raiseIf_inv | apply State.count_inv | apply State.inv_ite | split | apply State.inv_mk

theorem State.crateFills_inv {s1 : State} {x2 : Nat} {x3 : List (Option Nat)} (h1 : s1.Inv) : (State.crateFills s1 x2 x3).Inv := by
  unfold State.crateFills
  with_reducible repeat' first | intro _ | assumption | apply State.raiseIf_inv | apply State.setTrain_inv | apply State.inv_ite | split | apply State.inv_mk

theorem State.tickTrain_inv {s1 : State} {x2 : Nat} (h1 : s1.Inv) : (State.tickTrain s1 x2).Inv := by
  unfold State.tickTrain
  with_reducible repeat' first | intro _ | assumption | apply State.setTrain_inv | apply State.inv_ite | split | apply State.inv_mk

theorem execBerthPointerWord_inv {x1 : Fin 23040} {x2 : BitVec 16} {x3 : Fin 16} {x4 : Nat} {x5 : Int} {x6 : Fin 1008} {s7 : State} (h7 : s7.Inv) {t : State} (ht : execBerthPointerWord x1 x2 x3 x4 x5 x6 s7 = .next t) : t.Inv := by
  unfold execBerthPointerWord at ht; cases ht
  with_reducible repeat' first | intro _ | assumption | apply State.berthPointerWord_inv | apply State.inv_ite | split | apply State.inv_mk

theorem execFillLimitEnd_inv {x1 : Fin 4096} {s2 : State} (h2 : s2.Inv) {t : State} (ht : execFillLimitEnd x1 s2 = .next t) : t.Inv := by
  unfold execFillLimitEnd at ht; cases ht
  with_reducible repeat' first | intro _ | assumption | apply State.fillLimitEnd_inv | apply State.inv_ite | split | apply State.inv_mk

theorem execTrainSeqLoss_inv {x1 : Fin 4096} {x2 : SeqSight} {s3 : State} (h3 : s3.Inv) {t : State} (ht : execTrainSeqLoss x1 x2 s3 = .next t) : t.Inv := by
  unfold execTrainSeqLoss at ht; cases ht
  with_reducible repeat' first | intro _ | assumption | apply State.trainSeqLoss_inv | apply State.inv_ite | split | apply State.inv_mk

theorem execTrainMis_inv {x1 : Fin 4096} {x2 : Bool} {x3 : Nat} {s4 : State} (h4 : s4.Inv) {t : State} (ht : execTrainMis x1 x2 x3 s4 = .next t) : t.Inv := by
  unfold execTrainMis at ht; cases ht
  with_reducible repeat' first | intro _ | assumption | apply State.trainMis_inv | apply State.inv_ite | split | apply State.inv_mk

theorem execTrainSkew_inv {x1 : Fin 4096} {x2 : Nat} {x3 : Nat} {s4 : State} (h4 : s4.Inv) {t : State} (ht : execTrainSkew x1 x2 x3 s4 = .next t) : t.Inv := by
  unfold execTrainSkew at ht; cases ht
  with_reducible repeat' first | intro _ | assumption | apply State.trainSkew_inv | apply State.inv_ite | split | apply State.inv_mk

theorem execTrainAis_inv {x1 : Fin 4096} {x2 : Bool} {x3 : Nat} {s4 : State} (h4 : s4.Inv) {t : State} (ht : execTrainAis x1 x2 x3 s4 = .next t) : t.Inv := by
  unfold execTrainAis at ht; cases ht
  with_reducible repeat' first | intro _ | assumption | apply State.trainAis_inv | apply State.inv_ite | split | apply State.inv_mk

theorem execTrainRdi_inv {x1 : Fin 4096} {x2 : Bool} {x3 : Nat} {s4 : State} (h4 : s4.Inv) {t : State} (ht : execTrainRdi x1 x2 x3 s4 = .next t) : t.Inv := by
  unfold execTrainRdi at ht; cases ht
  with_reducible repeat' first | intro _ | assumption | apply State.trainRdi_inv | apply State.inv_ite | split | apply State.inv_mk

theorem execTrainCsf_inv {x1 : Fin 4096} {x2 : Bool} {x3 : Nat} {x4 : Nat} {s5 : State} (h5 : s5.Inv) {t : State} (ht : execTrainCsf x1 x2 x3 x4 s5 = .next t) : t.Inv := by
  unfold execTrainCsf at ht; cases ht
  with_reducible repeat' first | intro _ | assumption | apply State.trainCsf_inv | apply State.inv_ite | split | apply State.inv_mk

theorem execTrBipLoRead_inv {x1 : Initiator} {s2 : State} (h2 : s2.Inv) {t : State} (ht : execTrBipLoRead x1 s2 = .next t) : t.Inv := by
  unfold execTrBipLoRead at ht; cases ht
  with_reducible repeat' first | intro _ | assumption | apply State.readLatched_inv | apply State.inv_ite | split | apply State.inv_mk

theorem State.modSwap_inv {s1 : State} {f2 : Swap → Swap} (h1 : s1.Inv) : (State.modSwap s1 f2).Inv := by
  unfold State.modSwap
  with_reducible repeat' first | intro _ | assumption | apply h2 | apply State.inv_ite | split | apply State.inv_mk

theorem State.setSwapState_inv {s1 : State} {x2 : SwapState} (h1 : s1.Inv) : (State.setSwapState s1 x2).Inv := by
  unfold State.setSwapState
  with_reducible repeat' first | intro _ | assumption | apply State.wr_inv | apply State.inv_ite | split | apply State.inv_mk

theorem State.swapResult_inv {s1 : State} {x2 : Nat} (h1 : s1.Inv) : (State.swapResult s1 x2).Inv := by
  unfold State.swapResult
  with_reducible repeat' first | intro _ | assumption | apply State.wr_inv | apply State.inv_ite | split | apply State.inv_mk

theorem State.endSwap_inv {s1 : State} (h1 : s1.Inv) : (State.endSwap s1).Inv := by
  unfold State.endSwap
  with_reducible repeat' first | intro _ | assumption | apply State.wr_inv | apply State.setSwapState_inv | apply State.modSwap_inv | apply State.inv_ite | split | apply State.inv_mk

theorem State.swapInfo_inv {s1 : State} {x2 : Nat} {x3 : Nat} (h1 : s1.Inv) : (State.swapInfo s1 x2 x3).Inv := by
  unfold State.swapInfo
  with_reducible repeat' first | intro _ | assumption | apply State.wr_inv | apply State.inv_ite | split | apply State.inv_mk

theorem State.swapCheck_inv {s1 : State} (h1 : s1.Inv) : (State.swapCheck s1).Inv := by
  unfold State.swapCheck
  with_reducible repeat' first | intro _ | assumption | apply State.modSwap_inv | apply State.wr_inv | apply State.raise_inv | apply State.endSwap_inv | apply State.swapResult_inv | apply State.swapInfo_inv | apply State.setSwapState_inv | apply State.wrBool_inv | apply State.inv_ite | split | apply State.inv_mk

theorem State.abandonRepack_inv {s1 : State} (h1 : s1.Inv) : (State.abandonRepack s1).Inv := by
  unfold State.abandonRepack
  with_reducible repeat' first | intro _ | assumption | apply State.raise_inv | apply State.modSwap_inv | apply State.wr_inv | apply State.inv_ite | split | apply State.inv_mk

theorem State.switchRepack_inv {s1 : State} {x2 : StowResult} (h1 : s1.Inv) : (State.switchRepack s1 x2).Inv := by
  unfold State.switchRepack
  with_reducible repeat' first | intro _ | assumption | apply State.modSwap_inv | apply State.raise_inv | apply State.wr_inv | apply State.inv_ite | split | apply State.inv_mk

theorem State.swapStart_inv {s1 : State} (h1 : s1.Inv) : (State.swapStart s1).Inv := by
  unfold State.swapStart
  with_reducible repeat' first | intro _ | assumption | apply State.modSwap_inv | apply State.switchRepack_inv | apply State.swapCheck_inv | apply State.abandonRepack_inv | apply State.inv_ite | split | apply State.inv_mk

theorem State.gridPrepare_inv {s1 : State} (h1 : s1.Inv) : (State.gridPrepare s1).Inv := by
  unfold State.gridPrepare
  with_reducible repeat' first | intro _ | assumption | apply State.swapResult_inv | apply State.swapStart_inv | apply State.inv_ite | split | apply State.inv_mk

theorem State.tickLate_inv {s1 : State} (h1 : s1.Inv) : (State.tickLate s1).Inv := by
  unfold State.tickLate
  with_reducible repeat' first | intro _ | assumption | apply State.raise_inv | apply State.inv_ite | split | apply State.inv_mk

theorem State.gridArm_inv {s1 : State} {x2 : Tick} {x3 : Tick} (h1 : s1.Inv) : (State.gridArm s1 x2 x3).Inv := by
  unfold State.gridArm
  with_reducible repeat' first | intro _ | assumption | apply State.swapResult_inv | apply State.tickLate_inv | apply State.modSwap_inv | apply State.wr_inv | apply State.swapStart_inv | apply State.inv_ite | split | apply State.inv_mk

theorem State.gridCancel_inv {s1 : State} {x2 : Tick} (h1 : s1.Inv) : (State.gridCancel s1 x2).Inv := by
  unfold State.gridCancel
  with_reducible repeat' first | intro _ | assumption | apply State.swapResult_inv | apply State.endSwap_inv | apply State.inv_ite | split | apply State.inv_mk

theorem State.gridCommand_inv {s1 : State} {x2 : Keyed} (h1 : s1.Inv) : (State.gridCommand s1 x2).Inv := by
  unfold State.gridCommand
  with_reducible repeat' first | intro _ | assumption | apply State.later_inv | apply State.swapResult_inv | apply State.inv_ite | split | apply State.inv_mk

theorem State.gridRepack_inv {s1 : State} (h1 : s1.Inv) : (State.gridRepack s1).Inv := by
  unfold State.gridRepack
  with_reducible repeat' first | intro _ | assumption | apply State.wr_inv | apply State.modSwap_inv | apply State.inv_ite | split | apply State.inv_mk

theorem State.stowDone_inv {s1 : State} {x2 : StowResult} (h1 : s1.Inv) : (State.stowDone s1 x2).Inv := by
  unfold State.stowDone
  with_reducible repeat' first | intro _ | assumption | apply State.wr_inv | apply State.inv_ite | split | apply State.inv_mk

theorem State.placeFail_inv {s1 : State} {x2 : Nat} {x3 : List Nat} (h1 : s1.Inv) : (State.placeFail s1 x2 x3).Inv := by
  unfold State.placeFail
  with_reducible repeat' first | intro _ | assumption | apply State.swapResult_inv | apply State.wr_inv | apply State.swapInfo_inv | apply State.raise_inv | apply State.endSwap_inv | apply State.inv_ite | split | apply State.inv_mk

theorem State.stowageComplete_inv {s1 : State} {x2 : StowResult} (h1 : s1.Inv) : (State.stowageComplete s1 x2).Inv := by
  unfold State.stowageComplete
  with_reducible repeat' first | intro _ | assumption | apply State.stowDone_inv | apply State.wr_inv | apply State.modSwap_inv | apply State.setSwapState_inv | apply State.placeFail_inv | apply State.inv_ite | split | apply State.inv_mk

theorem State.swapSwitch_inv {s1 : State} (h1 : s1.Inv) : (State.swapSwitch s1).Inv := by
  unfold State.swapSwitch
  with_reducible repeat' first | intro _ | assumption | apply State.raise_inv | apply State.swapResult_inv | apply State.endSwap_inv | apply State.placeFail_inv | apply State.modSwap_inv | apply State.wr_inv | apply State.later_inv | apply State.inv_ite | split | apply State.inv_mk

theorem State.midOnSwap_inv {s1 : State} (h1 : s1.Inv) : (State.midOnSwap s1).Inv := by
  unfold State.midOnSwap
  with_reducible repeat' first | intro _ | assumption | apply State.each_inv | apply State.setReg_inv | apply State.inv_ite | split | apply State.inv_mk

theorem State.roleErrors_inv {s1 : State} (h1 : s1.Inv) : (State.roleErrors s1).Inv := by
  unfold State.roleErrors
  with_reducible repeat' first | intro _ | assumption | apply State.each_inv | apply State.raise_inv | apply State.inv_ite | split | apply State.inv_mk

theorem State.swapDone_inv {s1 : State} {x2 : Tick} (h1 : s1.Inv) : (State.swapDone s1 x2).Inv := by
  unfold State.swapDone
  with_reducible repeat' first | intro _ | assumption | apply State.modSwap_inv | apply State.wr_inv | apply State.swapResult_inv | apply State.setSwapState_inv | apply State.midOnSwap_inv | apply State.roleErrors_inv | apply State.raise_inv | apply State.inv_ite | split | apply State.inv_mk

theorem State.swapStagingEnd_inv {s1 : State} (h1 : s1.Inv) : (State.swapStagingEnd s1).Inv := by
  unfold State.swapStagingEnd
  with_reducible repeat' first | intro _ | assumption | apply State.modSwap_inv | apply State.setSwapState_inv | apply State.inv_ite | split | apply State.inv_mk

theorem State.repackSwitch_inv {s1 : State} (h1 : s1.Inv) : (State.repackSwitch s1).Inv := by
  unfold State.repackSwitch
  with_reducible repeat' first | intro _ | assumption | apply State.modSwap_inv | apply State.switchRepack_inv | apply State.inv_ite | split | apply State.inv_mk

theorem State.swapSrst_inv {s1 : State} (h1 : s1.Inv) : (State.swapSrst s1).Inv := by
  unfold State.swapSrst
  with_reducible repeat' first | intro _ | assumption | apply State.modSwap_inv | apply State.wr_inv | apply State.swapResult_inv | apply State.endSwap_inv | apply State.inv_ite | split | apply State.inv_mk

theorem State.manifestWrite_inv {s1 : State} {x2 : Initiator} {x3 : Nat} {x4 : Word} (h1 : s1.Inv) : (State.manifestWrite s1 x2 x3 x4).Inv := by
  unfold State.manifestWrite
  with_reducible repeat' first | intro _ | assumption | apply State.raise_inv | apply State.busError_inv | apply State.modSwap_inv | apply State.setManifest_inv | apply State.inv_ite | split | apply State.inv_mk

theorem State.moveFabric_inv {s1 : State} (h1 : s1.Inv) : (State.moveFabric s1).Inv := by
  unfold State.moveFabric
  with_reducible repeat' first | intro _ | assumption | apply State.each_inv | apply State.setEgressBerth_inv | apply State.setStagedBerth_inv | apply State.setSourceOf_inv | apply State.inv_ite | split | apply State.inv_mk

theorem State.ctlCorrected_inv {s1 : State} (h1 : s1.Inv) : (State.ctlCorrected s1).Inv := by
  unfold State.ctlCorrected
  with_reducible repeat' first | intro _ | assumption | apply State.raise_inv | apply State.incWrap_inv | apply State.inv_ite | split | apply State.inv_mk

theorem State.ctlUncorrectable_inv {s1 : State} {x2 : Nat} {x3 : Nat} (h1 : s1.Inv) : (State.ctlUncorrectable s1 x2 x3).Inv := by
  unfold State.ctlUncorrectable
  with_reducible repeat' first | intro _ | assumption | apply State.setReg_inv | apply State.incWrap_inv | apply State.raise_inv | apply State.modSwap_inv | apply State.inv_ite | split | apply State.inv_mk

theorem State.manifestUncorrectable_inv {s1 : State} {x2 : Nat} {x3 : Nat} (h1 : s1.Inv) : (State.manifestUncorrectable s1 x2 x3).Inv := by
  unfold State.manifestUncorrectable
  with_reducible repeat' first | intro _ | assumption | apply State.setReg_inv | apply State.incWrap_inv | apply State.raise_inv | apply State.modSwap_inv | apply State.inv_ite | split | apply State.inv_mk

theorem State.shadowUncorrectable_inv {s1 : State} {x2 : Nat} (h1 : s1.Inv) : (State.shadowUncorrectable s1 x2).Inv := by
  unfold State.shadowUncorrectable
  with_reducible repeat' first | intro _ | assumption | apply State.modSwap_inv | apply State.inv_ite | split | apply State.inv_mk

theorem execManifestShadowWrite_inv {x1 : Initiator} {x2 : Fin 23040} {x3 : Word} {s4 : State} (h4 : s4.Inv) {t : State} (ht : execManifestShadowWrite x1 x2 x3 s4 = .next t) : t.Inv := by
  unfold execManifestShadowWrite at ht; cases ht
  with_reducible repeat' first | intro _ | assumption | apply State.manifestWrite_inv | apply State.write_inv | apply State.inv_ite | split | apply State.inv_mk

theorem execPrepare_inv {x1 : Initiator} {s2 : State} (h2 : s2.Inv) {t : State} (ht : execPrepare x1 s2 = .next t) : t.Inv := by
  unfold execPrepare at ht; cases ht
  with_reducible repeat' first | intro _ | assumption | apply State.write_inv | apply State.gridCommand_inv | apply State.inv_ite | split | apply State.inv_mk

theorem execArm_inv {x1 : Initiator} {s2 : State} (h2 : s2.Inv) {t : State} (ht : execArm x1 s2 = .next t) : t.Inv := by
  unfold execArm at ht; cases ht
  with_reducible repeat' first | intro _ | assumption | apply State.write_inv | apply State.gridCommand_inv | apply State.inv_ite | split | apply State.inv_mk

theorem execCancel_inv {x1 : Initiator} {s2 : State} (h2 : s2.Inv) {t : State} (ht : execCancel x1 s2 = .next t) : t.Inv := by
  unfold execCancel at ht; cases ht
  with_reducible repeat' first | intro _ | assumption | apply State.write_inv | apply State.gridCommand_inv | apply State.inv_ite | split | apply State.inv_mk

theorem execStowageComplete_inv {x1 : StowResult} {s2 : State} (h2 : s2.Inv) {t : State} (ht : execStowageComplete x1 s2 = .next t) : t.Inv := by
  unfold execStowageComplete at ht; cases ht
  with_reducible repeat' first | intro _ | assumption | apply State.stowageComplete_inv | apply State.inv_ite | split | apply State.inv_mk

theorem execSwapSwitch_inv {s1 : State} (h1 : s1.Inv) {t : State} (ht : execSwapSwitch s1 = .next t) : t.Inv := by
  unfold execSwapSwitch at ht; cases ht
  with_reducible repeat' first | intro _ | assumption | apply State.swapSwitch_inv | apply State.inv_ite | split | apply State.inv_mk

theorem execSwapStagingEnd_inv {s1 : State} (h1 : s1.Inv) {t : State} (ht : execSwapStagingEnd s1 = .next t) : t.Inv := by
  unfold execSwapStagingEnd at ht; cases ht
  with_reducible repeat' first | intro _ | assumption | apply State.swapStagingEnd_inv | apply State.inv_ite | split | apply State.inv_mk

theorem execRepack_inv {x1 : Initiator} {s2 : State} (h2 : s2.Inv) {t : State} (ht : execRepack x1 s2 = .next t) : t.Inv := by
  unfold execRepack at ht; cases ht
  with_reducible repeat' first | intro _ | assumption | apply State.write_inv | apply State.gridRepack_inv | apply State.inv_ite | split | apply State.inv_mk

theorem execRepackSwitch_inv {s1 : State} (h1 : s1.Inv) {t : State} (ht : execRepackSwitch s1 = .next t) : t.Inv := by
  unfold execRepackSwitch at ht; cases ht
  with_reducible repeat' first | intro _ | assumption | apply State.repackSwitch_inv | apply State.inv_ite | split | apply State.inv_mk

theorem execGridSwapDoneLoRead_inv {x1 : Initiator} {s2 : State} (h2 : s2.Inv) {t : State} (ht : execGridSwapDoneLoRead x1 s2 = .next t) : t.Inv := by
  unfold execGridSwapDoneLoRead at ht; cases ht
  with_reducible repeat' first | intro _ | assumption | apply State.replyWord_inv | apply State.wr_inv | apply State.inv_ite | split | apply State.inv_mk

theorem State.modClient_inv {s1 : State} {x2 : Nat} {x3 : Nat} {f4 : Client → Client} (h1 : s1.Inv) : (State.modClient s1 x2 x3 f4).Inv := by
  unfold State.modClient
  with_reducible repeat' first | intro _ | assumption | apply h4 | apply State.setClient_inv | apply State.inv_ite | split | apply State.inv_mk

theorem State.countClient_inv {s1 : State} {x2 : Nat} {x3 : Nat} {x4 : Nat} {x5 : Nat} (h1 : s1.Inv) : (State.countClient s1 x2 x3 x4 x5).Inv := by
  unfold State.countClient
  with_reducible repeat' first | intro _ | assumption | apply State.count_inv | apply State.inv_ite | split | apply State.inv_mk

theorem State.showCond_inv {s1 : State} {x2 : Nat} {x3 : Nat} {x4 : ClientCond} (h1 : s1.Inv) : (State.showCond s1 x2 x3 x4).Inv := by
  unfold State.showCond
  with_reducible repeat' first | intro _ | assumption | apply State.raise_inv | apply State.wr_inv | apply State.inv_ite | split | apply State.inv_mk

theorem State.clientSignalFail_inv {s1 : State} {x2 : Nat} {x3 : Nat} {x4 : ClientCond} (h1 : s1.Inv) : (State.clientSignalFail s1 x2 x3 x4).Inv := by
  unfold State.clientSignalFail
  with_reducible repeat' first | intro _ | assumption | apply State.raise_inv | apply State.modClient_inv | apply State.showCond_inv | apply State.wr_inv | apply State.inv_ite | split | apply State.inv_mk

theorem State.clientSignalFailClear_inv {s1 : State} {x2 : Nat} {x3 : Nat} {x4 : Option (Fin 4096)} {x5 : Nat} (h1 : s1.Inv) : (State.clientSignalFailClear s1 x2 x3 x4 x5).Inv := by
  unfold State.clientSignalFailClear
  with_reducible repeat' first | intro _ | assumption | apply State.modClient_inv | apply State.wr_inv | apply State.inv_ite | split | apply State.inv_mk

theorem State.mapClient_inv {s1 : State} {x2 : Nat} {x3 : Nat} {x4 : Nat} (h1 : s1.Inv) : (State.mapClient s1 x2 x3 x4).Inv := by
  unfold State.mapClient
  with_reducible repeat' first | intro _ | assumption | apply State.setTrain_inv | apply State.modClient_inv | apply State.raise_inv | apply State.inv_ite | split | apply State.inv_mk

theorem State.clientFrameIngress_inv {s1 : State} {x2 : Nat} {x3 : Nat} {x4 : Nat} (h1 : s1.Inv) : (State.clientFrameIngress s1 x2 x3 x4).Inv := by
  unfold State.clientFrameIngress
  with_reducible repeat' first | intro _ | assumption | apply State.raise_inv | apply State.countClient_inv | apply State.modClient_inv | apply State.inv_ite | split | apply State.inv_mk

theorem State.drainIdle_inv {s1 : State} {x2 : Nat} {x3 : Nat} (h1 : s1.Inv) : (State.drainIdle s1 x2 x3).Inv := by
  unfold State.drainIdle
  with_reducible repeat' first | intro _ | assumption | apply State.setTrain_inv | apply State.modClient_inv | apply State.inv_ite | split | apply State.inv_mk

theorem State.egressBuffer_inv {s1 : State} {x2 : Nat} {x3 : Nat} {x4 : Int} {x5 : Nat} (h1 : s1.Inv) : (State.egressBuffer s1 x2 x3 x4 x5).Inv := by
  unfold State.egressBuffer
  with_reducible repeat' first | intro _ | assumption | apply State.modClient_inv | apply State.raise_inv | apply State.countClient_inv | apply State.inv_ite | split | apply State.inv_mk

theorem State.tickEgress_inv {s1 : State} {x2 : Nat} {x3 : Nat} (h1 : s1.Inv) : (State.tickEgress s1 x2 x3).Inv := by
  unfold State.tickEgress
  with_reducible repeat' first | intro _ | assumption | apply State.modClient_inv | apply State.wrBool_inv | apply State.raiseIf_inv | apply State.inv_ite | split | apply State.inv_mk

theorem State.tickClients_inv {s1 : State} {f2 : Nat → Nat → Nat} (h1 : s1.Inv) : (State.tickClients s1 f2).Inv := by
  unfold State.tickClients
  with_reducible repeat' first | intro _ | assumption | apply h2 | apply State.each_inv | apply State.mapClient_inv | apply State.drainIdle_inv | apply State.tickEgress_inv | apply State.inv_ite | split | apply State.inv_mk

theorem State.clientSees_inv {s1 : State} {x2 : Nat} {x3 : Nat} {x4 : Bool} {x5 : Bool} {x6 : Bool} (h1 : s1.Inv) : (State.clientSees s1 x2 x3 x4 x5 x6).Inv := by
  unfold State.clientSees
  with_reducible repeat' first | intro _ | assumption | apply State.wrBool_inv | apply State.modClient_inv | apply State.inv_ite | split | apply State.inv_mk

theorem State.clientErrors_inv {s1 : State} {x2 : Nat} {x3 : Nat} {x4 : Nat} {x5 : Nat} {x6 : Nat} {x7 : Nat} (h1 : s1.Inv) : (State.clientErrors s1 x2 x3 x4 x5 x6 x7).Inv := by
  unfold State.clientErrors
  with_reducible repeat' first | intro _ | assumption | apply State.countClient_inv | apply State.inv_ite | split | apply State.inv_mk

theorem State.modPackets_inv {s1 : State} {x2 : Nat} {f3 : Packets → Packets} (h1 : s1.Inv) : (State.modPackets s1 x2 f3).Inv := by
  unfold State.modPackets
  with_reducible repeat' first | intro _ | assumption | apply h3 | apply State.setPacketsOf_inv | apply State.inv_ite | split | apply State.inv_mk

theorem State.extract_inv {s1 : State} {x2 : Nat} {x3 : Nat} {x4 : List Byte} {x5 : Nat} {x6 : Stamp} {x7 : Bool} (h1 : s1.Inv) : (State.extract s1 x2 x3 x4 x5 x6 x7).Inv := by
  unfold State.extract
  with_reducible repeat' first | intro _ | assumption | apply State.countClient_inv | apply State.modPackets_inv | apply State.raise_inv | apply State.inv_ite | split | apply State.inv_mk

theorem State.ptpMessage_inv {s1 : State} {x2 : Nat} {x3 : Nat} {x4 : Bool} {x5 : List Byte} {x6 : Stamp} (h1 : s1.Inv) : (State.ptpMessage s1 x2 x3 x4 x5 x6).Inv := by
  unfold State.ptpMessage
  with_reducible repeat' first | intro _ | assumption | apply State.send_inv | apply State.extract_inv | apply State.inv_ite | split | apply State.inv_mk

theorem State.idataWrite_inv {s1 : State} {x2 : Nat} {x3 : Word} (h1 : s1.Inv) : (State.idataWrite s1 x2 x3).Inv := by
  unfold State.idataWrite
  with_reducible repeat' first | intro _ | assumption | apply State.modPackets_inv | apply State.raiseIf_inv | apply State.inv_ite | split | apply State.inv_mk

theorem State.frameInsert_inv {s1 : State} {x2 : Nat} {x3 : Stamp} (h1 : s1.Inv) : (State.frameInsert s1 x2 x3).Inv := by
  unfold State.frameInsert
  with_reducible repeat' first | intro _ | assumption | apply State.send_inv | apply State.modPackets_inv | apply State.countClient_inv | apply State.raise_inv | apply State.inv_ite | split | apply State.inv_mk

theorem State.journalRead_inv {s1 : State} {x2 : Initiator} {x3 : Write} (h1 : s1.Inv) : (State.journalRead s1 x2 x3).Inv := by
  unfold State.journalRead
  with_reducible repeat' first | intro _ | assumption | apply State.journalEntry_inv | apply State.inv_ite | split | apply State.inv_mk

theorem State.tsf0Read_inv {s1 : State} {x2 : Initiator} (h1 : s1.Inv) : (State.tsf0Read s1 x2).Inv := by
  unfold State.tsf0Read
  with_reducible repeat' first | intro _ | assumption | apply State.replyWord_inv | apply State.modPackets_inv | apply State.setReg_inv | apply State.inv_ite | split | apply State.inv_mk

theorem execClientSignalFail_inv {x1 : Fin 64} {x2 : Fin 2} {x3 : ClientCond} {s4 : State} (h4 : s4.Inv) {t : State} (ht : execClientSignalFail x1 x2 x3 s4 = .next t) : t.Inv := by
  unfold execClientSignalFail at ht; cases ht
  with_reducible repeat' first | intro _ | assumption | apply State.clientSignalFail_inv | apply State.inv_ite | split | apply State.inv_mk

theorem execClientSignalFailClear_inv {x1 : Fin 64} {x2 : Fin 2} {x3 : Option (Fin 4096)} {x4 : Nat} {s5 : State} (h5 : s5.Inv) {t : State} (ht : execClientSignalFailClear x1 x2 x3 x4 s5 = .next t) : t.Inv := by
  unfold execClientSignalFailClear at ht; cases ht
  with_reducible repeat' first | intro _ | assumption | apply State.clientSignalFailClear_inv | apply State.inv_ite | split | apply State.inv_mk

theorem execClientFrameIngress_inv {x1 : Fin 64} {x2 : Fin 2} {x3 : Nat} {s4 : State} (h4 : s4.Inv) {t : State} (ht : execClientFrameIngress x1 x2 x3 s4 = .next t) : t.Inv := by
  unfold execClientFrameIngress at ht; cases ht
  with_reducible repeat' first | intro _ | assumption | apply State.clientFrameIngress_inv | apply State.inv_ite | split | apply State.inv_mk

theorem execPtpEventMessage_inv {x1 : Fin 64} {x2 : Fin 2} {x3 : Bool} {x4 : List Byte} {x5 : Stamp} {s6 : State} (h6 : s6.Inv) {t : State} (ht : execPtpEventMessage x1 x2 x3 x4 x5 s6 = .next t) : t.Inv := by
  unfold execPtpEventMessage at ht; cases ht
  with_reducible repeat' first | intro _ | assumption | apply State.ptpMessage_inv | apply State.inv_ite | split | apply State.inv_mk

theorem execQyIdataWrite_inv {x1 : Initiator} {x2 : Word} {s3 : State} (h3 : s3.Inv) {t : State} (ht : execQyIdataWrite x1 x2 s3 = .next t) : t.Inv := by
  unfold execQyIdataWrite at ht; cases ht
  with_reducible repeat' first | intro _ | assumption | apply State.write_inv | apply State.idataWrite_inv | apply State.inv_ite | split | apply State.inv_mk

theorem execPtpFrameInsert_inv {x1 : Fin 64} {x2 : Stamp} {s3 : State} (h3 : s3.Inv) {t : State} (ht : execPtpFrameInsert x1 x2 s3 = .next t) : t.Inv := by
  unfold execPtpFrameInsert at ht; cases ht
  with_reducible repeat' first | intro _ | assumption | apply State.frameInsert_inv | apply State.inv_ite | split | apply State.inv_mk

theorem execQyXdataRead_inv {x1 : Initiator} {s2 : State} (h2 : s2.Inv) {t : State} (ht : execQyXdataRead x1 s2 = .next t) : t.Inv := by
  unfold execQyXdataRead at ht; cases ht
  with_reducible repeat' first | intro _ | assumption | apply State.reply_inv | apply State.journalRead_inv | apply State.modPackets_inv | apply State.inv_ite | split | apply State.inv_mk

theorem execQyTsf0Read_inv {x1 : Initiator} {s2 : State} (h2 : s2.Inv) {t : State} (ht : execQyTsf0Read x1 s2 = .next t) : t.Inv := by
  unfold execQyTsf0Read at ht; cases ht
  with_reducible repeat' first | intro _ | assumption | apply State.tsf0Read_inv | apply State.inv_ite | split | apply State.inv_mk

theorem execQyCntLoRead_inv {x1 : Initiator} {s2 : State} (h2 : s2.Inv) {t : State} (ht : execQyCntLoRead x1 s2 = .next t) : t.Inv := by
  unfold execQyCntLoRead at ht; cases ht
  with_reducible repeat' first | intro _ | assumption | apply State.readLatched_inv | apply State.inv_ite | split | apply State.inv_mk

end Sys2Proof.Machine
end

