-- ==== Sys2Proof/Laws/InvLine.lean ====
section
/-! SUPPORT. The invariant `State.Inv` through each function of Frames, Engines, Architecture, Decoding, Encryption: one lemma per function, named after
it. -/

namespace Sys2Proof.Machine

set_option Elab.async false


theorem State.modFrame_inv {s1 : State} {x2 : Nat} {f3 : LineFrame → LineFrame} (h1 : s1.Inv) : (State.modFrame s1 x2 f3).Inv := by
  unfold State.modFrame
  with_reducible repeat' first | intro _ | assumption | apply h3 | apply State.setLineFrame_inv | apply State.inv_ite | split | apply State.inv_mk

theorem State.showSsf_inv {s1 : State} {x2 : Nat} (h1 : s1.Inv) : (State.showSsf s1 x2).Inv := by
  unfold State.showSsf
  with_reducible repeat' first | intro _ | assumption | apply State.each_inv | apply State.wrBool_inv | apply State.inv_ite | split | apply State.inv_mk

theorem State.setOof_inv {s1 : State} {x2 : Nat} {x3 : Bool} (h1 : s1.Inv) : (State.setOof s1 x2 x3).Inv := by
  unfold State.setOof
  with_reducible repeat' first | intro _ | assumption | apply State.showSsf_inv | apply State.wrBool_inv | apply State.inv_ite | split | apply State.inv_mk

theorem State.setLof_inv {s1 : State} {x2 : Nat} {x3 : Bool} (h1 : s1.Inv) : (State.setLof s1 x2 x3).Inv := by
  unfold State.setLof
  with_reducible repeat' first | intro _ | assumption | apply State.showSsf_inv | apply State.wrBool_inv | apply State.inv_ite | split | apply State.inv_mk

theorem State.setLom_inv {s1 : State} {x2 : Nat} {x3 : Bool} (h1 : s1.Inv) : (State.setLom s1 x2 x3).Inv := by
  unfold State.setLom
  with_reducible repeat' first | intro _ | assumption | apply State.showSsf_inv | apply State.wrBool_inv | apply State.inv_ite | split | apply State.inv_mk

theorem State.setLine_inv {s1 : State} {x2 : Field} {x3 : Field} {x4 : Nat} {x5 : Bool} (h1 : s1.Inv) : (State.setLine s1 x2 x3 x4 x5).Inv := by
  unfold State.setLine
  with_reducible repeat' first | intro _ | assumption | apply State.showSsf_inv | apply State.wrBool_inv | apply State.raiseIf_inv | apply State.inv_ite | split | apply State.inv_mk

theorem State.dropUnit_inv {s1 : State} {x2 : Nat} (h1 : s1.Inv) : (State.dropUnit s1 x2).Inv := by
  unfold State.dropUnit
  with_reducible repeat' first | intro _ | assumption | apply State.setOof_inv | apply State.modFrame_inv | apply State.inv_ite | split | apply State.inv_mk

theorem State.dropFrame_inv {s1 : State} {x2 : Nat} (h1 : s1.Inv) : (State.dropFrame s1 x2).Inv := by
  unfold State.dropFrame
  with_reducible repeat' first | intro _ | assumption | apply State.each_inv | apply State.dropUnit_inv | apply State.inv_ite | split | apply State.inv_mk

theorem State.showLos_inv {s1 : State} {x2 : Nat} {x3 : Bool} (h1 : s1.Inv) : (State.showLos s1 x2 x3).Inv := by
  unfold State.showLos
  with_reducible repeat' first | intro _ | assumption | apply State.each_inv | apply State.showSsf_inv | apply State.wrBool_inv | apply State.inv_ite | split | apply State.inv_mk

theorem State.fasFrame_inv {s1 : State} {x2 : Nat} {x3 : Nat} {x4 : List Nat} (h1 : s1.Inv) : (State.fasFrame s1 x2 x3 x4).Inv := by
  unfold State.fasFrame
  with_reducible repeat' first | intro _ | assumption | apply State.wr_inv | apply State.count_inv | apply State.modFrame_inv | apply State.inv_ite | split | apply State.inv_mk

theorem State.inFrame_inv {s1 : State} {x2 : Nat} {x3 : Nat} (h1 : s1.Inv) : (State.inFrame s1 x2 x3).Inv := by
  unfold State.inFrame
  with_reducible repeat' first | intro _ | assumption | apply State.modFrame_inv | apply State.setOof_inv | apply State.wr_inv | apply State.setLom_inv | apply State.raise_inv | apply State.count_inv | apply State.inv_ite | split | apply State.inv_mk

theorem State.outOfFrame_inv {s1 : State} {x2 : Nat} (h1 : s1.Inv) : (State.outOfFrame s1 x2).Inv := by
  unfold State.outOfFrame
  with_reducible repeat' first | intro _ | assumption | apply State.modFrame_inv | apply State.raise_inv | apply State.setOof_inv | apply State.inv_ite | split | apply State.inv_mk

theorem State.lossOfFrame_inv {s1 : State} {x2 : Nat} (h1 : s1.Inv) : (State.lossOfFrame s1 x2).Inv := by
  unfold State.lossOfFrame
  with_reducible repeat' first | intro _ | assumption | apply State.raise_inv | apply State.setLof_inv | apply State.inv_ite | split | apply State.inv_mk

theorem State.lossOfMultiframe_inv {s1 : State} {x2 : Nat} (h1 : s1.Inv) : (State.lossOfMultiframe s1 x2).Inv := by
  unfold State.lossOfMultiframe
  with_reducible repeat' first | intro _ | assumption | apply State.setLom_inv | apply State.modFrame_inv | apply State.raise_inv | apply State.inv_ite | split | apply State.inv_mk

theorem State.flexoMultiframe_inv {s1 : State} {x2 : Nat} (h1 : s1.Inv) : (State.flexoMultiframe s1 x2).Inv := by
  unfold State.flexoMultiframe
  with_reducible repeat' first | intro _ | assumption | apply State.setLom_inv | apply State.inFrame_inv | apply State.raise_inv | apply State.inv_ite | split | apply State.inv_mk

theorem State.fnoJump_inv {s1 : State} {x2 : Nat} (h1 : s1.Inv) : (State.fnoJump s1 x2).Inv := by
  unfold State.fnoJump
  with_reducible repeat' first | intro _ | assumption | apply State.raise_inv | apply State.modFrame_inv | apply State.inv_ite | split | apply State.inv_mk

theorem State.modSection_inv {s1 : State} {x2 : Nat} {f3 : SecondCount → SecondCount} (h1 : s1.Inv) : (State.modSection s1 x2 f3).Inv := by
  unfold State.modSection
  with_reducible repeat' first | intro _ | assumption | apply h3 | apply State.setPmSection_inv | apply State.inv_ite | split | apply State.inv_mk

theorem State.noteTaps_inv {s1 : State} {x2 : Nat} {x3 : Nat} {x4 : List Word} (h1 : s1.Inv) : (State.noteTaps s1 x2 x3 x4).Inv := by
  unfold State.noteTaps
  with_reducible repeat' first | intro _ | assumption | apply State.each_inv | apply State.setTapsRun_inv | apply State.inv_ite | split | apply State.inv_mk

theorem State.aisSlots_inv {s1 : State} {x2 : Nat} {x3 : List Nat} (h1 : s1.Inv) : (State.aisSlots s1 x2 x3).Inv := by
  unfold State.aisSlots
  with_reducible repeat' first | intro _ | assumption | apply State.inv_ite | split | apply State.inv_mk

theorem State.readShared_inv {s1 : State} {x2 : Nat} {x3 : Overhead} {x4 : Nat} (h1 : s1.Inv) : (State.readShared s1 x2 x3 x4).Inv := by
  unfold State.readShared
  with_reducible repeat' first | intro _ | assumption | apply State.setReg_inv | apply State.modFrame_inv | apply State.noteTaps_inv | apply State.inv_ite | split | apply State.inv_mk

theorem State.countBlocks_inv {s1 : State} {x2 : Nat} {x3 : Nat} {x4 : Bool} {x5 : Nat} (h1 : s1.Inv) : (State.countBlocks s1 x2 x3 x4 x5).Inv := by
  unfold State.countBlocks
  with_reducible repeat' first | intro _ | assumption | apply State.modFrame_inv | apply State.count_inv | apply State.modSection_inv | apply State.inv_ite | split | apply State.inv_mk

theorem State.otucFrames_inv {s1 : State} {x2 : Nat} {x3 : Nat} {x4 : Nat} {x5 : Nat} {x6 : Bool} (h1 : s1.Inv) : (State.otucFrames s1 x2 x3 x4 x5 x6).Inv := by
  unfold State.otucFrames
  with_reducible repeat' first | intro _ | assumption | apply State.modFrame_inv | apply State.modSection_inv | apply State.count_inv | apply State.inv_ite | split | apply State.inv_mk

theorem State.deliverFrame_inv {s1 : State} {x2 : Nat} {x3 : Overhead} {x4 : Nat} {x5 : List Nat} {x6 : Bool} (h1 : s1.Inv) : (State.deliverFrame s1 x2 x3 x4 x5 x6).Inv := by
  unfold State.deliverFrame
  with_reducible repeat' first | intro _ | assumption | apply State.modFrame_inv | apply State.readShared_inv | apply State.raiseIf_inv | apply State.count_inv | apply State.countBlocks_inv | apply State.aisSlots_inv | apply State.inv_ite | split | apply State.inv_mk

theorem State.acceptBdi_inv {s1 : State} {x2 : Nat} (h1 : s1.Inv) : (State.acceptBdi s1 x2).Inv := by
  unfold State.acceptBdi
  with_reducible repeat' first | intro _ | assumption | apply State.setLine_inv | apply State.inv_ite | split | apply State.inv_mk

theorem State.formatMismatch_inv {s1 : State} {x2 : Nat} (h1 : s1.Inv) : (State.formatMismatch s1 x2).Inv := by
  unfold State.formatMismatch
  with_reducible repeat' first | intro _ | assumption | apply State.setLine_inv | apply State.inv_ite | split | apply State.inv_mk

theorem State.midMismatch_inv {s1 : State} {x2 : Nat} (h1 : s1.Inv) : (State.midMismatch s1 x2).Inv := by
  unfold State.midMismatch
  with_reducible repeat' first | intro _ | assumption | apply State.setLine_inv | apply State.inv_ite | split | apply State.inv_mk

theorem State.backward_inv {s1 : State} {x2 : Nat} (h1 : s1.Inv) : (State.backward s1 x2).Inv := by
  unfold State.backward
  with_reducible repeat' first | intro _ | assumption | apply State.modFrame_inv | apply State.draw_inv | apply State.inv_ite | split | apply State.inv_mk

theorem State.tickFrame_inv {s1 : State} {x2 : Nat} (h1 : s1.Inv) : (State.tickFrame s1 x2).Inv := by
  unfold State.tickFrame
  with_reducible repeat' first | intro _ | assumption | apply State.modFrame_inv | apply State.modSection_inv | apply State.wr_inv | apply State.inv_ite | split | apply State.inv_mk

theorem State.modGcc_inv {s1 : State} {x2 : Nat} {x3 : Nat} {f4 : Gcc → Gcc} (h1 : s1.Inv) : (State.modGcc s1 x2 x3 f4).Inv := by
  unfold State.modGcc
  with_reducible repeat' first | intro _ | assumption | apply h4 | apply State.setGcc_inv | apply State.inv_ite | split | apply State.inv_mk

theorem State.gccReceive_inv {s1 : State} {x2 : Nat} {x3 : Nat} {x4 : List Byte} {x5 : GccEnd} (h1 : s1.Inv) : (State.gccReceive s1 x2 x3 x4 x5).Inv := by
  unfold State.gccReceive
  with_reducible repeat' first | intro _ | assumption | apply State.raise_inv | apply State.modGcc_inv | apply State.inv_ite | split | apply State.inv_mk

theorem State.gccWrite_inv {s1 : State} {x2 : Nat} {x3 : Nat} {x4 : Word} (h1 : s1.Inv) : (State.gccWrite s1 x2 x3 x4).Inv := by
  unfold State.gccWrite
  with_reducible repeat' first | intro _ | assumption | apply State.modGcc_inv | apply State.raiseIf_inv | apply State.inv_ite | split | apply State.inv_mk

theorem State.gccSend_inv {s1 : State} {x2 : Nat} {x3 : Nat} (h1 : s1.Inv) : (State.gccSend s1 x2 x3).Inv := by
  unfold State.gccSend
  with_reducible repeat' first | intro _ | assumption | apply State.send_inv | apply State.modGcc_inv | apply State.inv_ite | split | apply State.inv_mk

theorem State.inFrameAt_inv {s1 : State} {x2 : Nat} {x3 : Nat} (h1 : s1.Inv) : (State.inFrameAt s1 x2 x3).Inv := by
  unfold State.inFrameAt
  with_reducible repeat' first | intro _ | assumption | apply State.inFrame_inv | apply State.inv_ite | split | apply State.inv_mk

theorem State.atUnit_inv {s1 : State} {x2 : Nat} {f3 : State → State} (h1 : s1.Inv) (h3 : ∀ (y0 : State), y0.Inv → (f3 y0).Inv) : (State.atUnit s1 x2 f3).Inv := by
  unfold State.atUnit
  with_reducible repeat' first | intro _ | assumption | apply h3 | apply State.inv_ite | split | apply State.inv_mk

theorem execOof_inv {x1 : RxUnit} {s2 : State} (h2 : s2.Inv) {t : State} (ht : execOof x1 s2 = .next t) : t.Inv := by
  unfold execOof at ht; cases ht
  with_reducible repeat' first | intro _ | assumption | apply State.atUnit_inv | apply State.outOfFrame_inv | apply State.inv_ite | split | apply State.inv_mk

theorem execLof_inv {x1 : RxUnit} {s2 : State} (h2 : s2.Inv) {t : State} (ht : execLof x1 s2 = .next t) : t.Inv := by
  unfold execLof at ht; cases ht
  with_reducible repeat' first | intro _ | assumption | apply State.atUnit_inv | apply State.lossOfFrame_inv | apply State.inv_ite | split | apply State.inv_mk

theorem execLom_inv {x1 : RxUnit} {s2 : State} (h2 : s2.Inv) {t : State} (ht : execLom x1 s2 = .next t) : t.Inv := by
  unfold execLom at ht; cases ht
  with_reducible repeat' first | intro _ | assumption | apply State.atUnit_inv | apply State.flexoMultiframe_inv | apply State.lossOfMultiframe_inv | apply State.inv_ite | split | apply State.inv_mk

theorem execBdiRx_inv {x1 : RxUnit} {s2 : State} (h2 : s2.Inv) {t : State} (ht : execBdiRx x1 s2 = .next t) : t.Inv := by
  unfold execBdiRx at ht; cases ht
  with_reducible repeat' first | intro _ | assumption | apply State.atUnit_inv | apply State.acceptBdi_inv | apply State.inv_ite | split | apply State.inv_mk

theorem execFmtMis_inv {x1 : RxUnit} {s2 : State} (h2 : s2.Inv) {t : State} (ht : execFmtMis x1 s2 = .next t) : t.Inv := by
  unfold execFmtMis at ht; cases ht
  with_reducible repeat' first | intro _ | assumption | apply State.atUnit_inv | apply State.formatMismatch_inv | apply State.inv_ite | split | apply State.inv_mk

theorem execMidMis_inv {x1 : RxUnit} {s2 : State} (h2 : s2.Inv) {t : State} (ht : execMidMis x1 s2 = .next t) : t.Inv := by
  unfold execMidMis at ht; cases ht
  with_reducible repeat' first | intro _ | assumption | apply State.atUnit_inv | apply State.midMismatch_inv | apply State.inv_ite | split | apply State.inv_mk

theorem execGccFrameReceive_inv {x1 : Fin 8} {x2 : Fin 2} {x3 : List Byte} {x4 : GccEnd} {s5 : State} (h5 : s5.Inv) {t : State} (ht : execGccFrameReceive x1 x2 x3 x4 s5 = .next t) : t.Inv := by
  unfold execGccFrameReceive at ht; cases ht
  with_reducible repeat' first | intro _ | assumption | apply State.gccReceive_inv | apply State.inv_ite | split | apply State.inv_mk

theorem State.atEngine_inv {s1 : State} {x2 : Initiator} {x3 : Bool} {x4 : Nat} {f5 : Nat → State} (h1 : s1.Inv) (h5 : ∀ (y0 : Nat), (f5 y0).Inv) : (State.atEngine s1 x2 x3 x4 f5).Inv := by
  unfold State.atEngine
  with_reducible repeat' first | intro _ | assumption | apply h5 | apply State.busError_inv | apply State.inv_ite | split | apply State.inv_mk

theorem execLfGccTxdWrite_inv {x1 : Initiator} {x2 : Fin 2} {x3 : Word} {s4 : State} (h4 : s4.Inv) {t : State} (ht : execLfGccTxdWrite x1 x2 x3 s4 = .next t) : t.Inv := by
  unfold execLfGccTxdWrite at ht; cases ht
  with_reducible repeat' first | intro _ | assumption | apply State.atEngine_inv | apply State.write_inv | apply State.gccWrite_inv | apply State.inv_ite | split | apply State.inv_mk

theorem execLfGccRxdRead_inv {x1 : Initiator} {x2 : Fin 2} {s3 : State} (h3 : s3.Inv) {t : State} (ht : execLfGccRxdRead x1 x2 s3 = .next t) : t.Inv := by
  unfold execLfGccRxdRead at ht; cases ht
  with_reducible repeat' first | intro _ | assumption | apply State.atEngine_inv | apply State.reply_inv | apply State.journalRead_inv | apply State.modGcc_inv | apply State.inv_ite | split | apply State.inv_mk

theorem execLfFnoLoRead_inv {x1 : Initiator} {s2 : State} (h2 : s2.Inv) {t : State} (ht : execLfFnoLoRead x1 s2 = .next t) : t.Inv := by
  unfold execLfFnoLoRead at ht; cases ht
  with_reducible repeat' first | intro _ | assumption | apply State.atEngine_inv | apply State.readLatched_inv | apply State.inv_ite | split | apply State.inv_mk

theorem execLfPmLoRead_inv {x1 : Initiator} {s2 : State} (h2 : s2.Inv) {t : State} (ht : execLfPmLoRead x1 s2 = .next t) : t.Inv := by
  unfold execLfPmLoRead at ht; cases ht
  with_reducible repeat' first | intro _ | assumption | apply State.atEngine_inv | apply State.readLatched_inv | apply State.inv_ite | split | apply State.inv_mk

theorem State.modEngine_inv {s1 : State} {x2 : Nat} {f3 : Engine → Engine} (h1 : s1.Inv) : (State.modEngine s1 x2 f3).Inv := by
  unfold State.modEngine
  with_reducible repeat' first | intro _ | assumption | apply h3 | apply State.setEngine_inv | apply State.inv_ite | split | apply State.inv_mk

theorem State.light_inv {s1 : State} {x2 : Nat} (h1 : s1.Inv) : (State.light s1 x2).Inv := by
  unfold State.light
  with_reducible repeat' first | intro _ | assumption | apply State.wr_inv | apply State.modEngine_inv | apply State.inv_ite | split | apply State.inv_mk

theorem State.darken_inv {s1 : State} {x2 : Nat} (h1 : s1.Inv) : (State.darken s1 x2).Inv := by
  unfold State.darken
  with_reducible repeat' first | intro _ | assumption | apply State.wr_inv | apply State.modEngine_inv | apply State.inv_ite | split | apply State.inv_mk

theorem State.followRequest_inv {s1 : State} {x2 : Nat} (h1 : s1.Inv) : (State.followRequest s1 x2).Inv := by
  unfold State.followRequest
  with_reducible repeat' first | intro _ | assumption | apply State.light_inv | apply State.raise_inv | apply State.darken_inv | apply State.inv_ite | split | apply State.inv_mk

theorem State.showHolds_inv {s1 : State} {x2 : Nat} (h1 : s1.Inv) : (State.showHolds s1 x2).Inv := by
  unfold State.showHolds
  with_reducible repeat' first | intro _ | assumption | apply State.wrBool_inv | apply State.inv_ite | split | apply State.inv_mk

theorem State.holdChanged_inv {s1 : State} {x2 : Nat} {f3 : Engine → Engine} (h1 : s1.Inv) : (State.holdChanged s1 x2 f3).Inv := by
  unfold State.holdChanged
  with_reducible repeat' first | intro _ | assumption | apply h3 | apply State.each_inv | apply State.modEngine_inv | apply State.showHolds_inv | apply State.followRequest_inv | apply State.inv_ite | split | apply State.inv_mk

theorem State.followLaser_inv {s1 : State} {x2 : Nat} (h1 : s1.Inv) : (State.followLaser s1 x2).Inv := by
  unfold State.followLaser
  with_reducible repeat' first | intro _ | assumption | apply State.modEngine_inv | apply State.inv_ite | split | apply State.inv_mk

theorem State.followSwing_inv {s1 : State} {x2 : Nat} (h1 : s1.Inv) : (State.followSwing s1 x2).Inv := by
  unfold State.followSwing
  with_reducible repeat' first | intro _ | assumption | apply State.modEngine_inv | apply State.inv_ite | split | apply State.inv_mk

theorem State.clearLocks_inv {s1 : State} {x2 : Nat} (h1 : s1.Inv) : (State.clearLocks s1 x2).Inv := by
  unfold State.clearLocks
  with_reducible repeat' first | intro _ | assumption | apply State.wr_inv | apply State.inv_ite | split | apply State.inv_mk

theorem State.enterRx_inv {s1 : State} {x2 : Nat} {x3 : Nat} (h1 : s1.Inv) : (State.enterRx s1 x2 x3).Inv := by
  unfold State.enterRx
  with_reducible repeat' first | intro _ | assumption | apply State.modEngine_inv | apply State.showLos_inv | apply State.wr_inv | apply State.inv_ite | split | apply State.inv_mk

theorem State.startInLos_inv {s1 : State} {x2 : Nat} (h1 : s1.Inv) : (State.startInLos s1 x2).Inv := by
  unfold State.startInLos
  with_reducible repeat' first | intro _ | assumption | apply State.modEngine_inv | apply State.clearLocks_inv | apply State.enterRx_inv | apply State.dropFrame_inv | apply State.inv_ite | split | apply State.inv_mk

theorem State.setPower_inv {s1 : State} {x2 : Nat} {x3 : Nat} (h1 : s1.Inv) : (State.setPower s1 x2 x3).Inv := by
  unfold State.setPower
  with_reducible repeat' first | intro _ | assumption | apply State.wr_inv | apply State.startInLos_inv | apply State.modEngine_inv | apply State.dropFrame_inv | apply State.clearLocks_inv | apply State.enterRx_inv | apply State.inv_ite | split | apply State.inv_mk

theorem State.followPower_inv {s1 : State} {x2 : Nat} (h1 : s1.Inv) : (State.followPower s1 x2).Inv := by
  unfold State.followPower
  with_reducible repeat' first | intro _ | assumption | apply State.setPower_inv | apply State.inv_ite | split | apply State.inv_mk

theorem State.powerReached_inv {s1 : State} {x2 : Nat} (h1 : s1.Inv) : (State.powerReached s1 x2).Inv := by
  unfold State.powerReached
  with_reducible repeat' first | intro _ | assumption | apply State.setPower_inv | apply State.inv_ite | split | apply State.inv_mk

theorem State.driverFault_inv {s1 : State} {x2 : Nat} (h1 : s1.Inv) : (State.driverFault s1 x2).Inv := by
  unfold State.driverFault
  with_reducible repeat' first | intro _ | assumption | apply State.modEngine_inv | apply State.wr_inv | apply State.each_inv | apply State.showHolds_inv | apply State.followRequest_inv | apply State.raise_inv | apply State.inv_ite | split | apply State.inv_mk

theorem State.enterLos_inv {s1 : State} {x2 : Nat} (h1 : s1.Inv) : (State.enterLos s1 x2).Inv := by
  unfold State.enterLos
  with_reducible repeat' first | intro _ | assumption | apply State.modEngine_inv | apply State.clearLocks_inv | apply State.enterRx_inv | apply State.raise_inv | apply State.dropFrame_inv | apply State.inv_ite | split | apply State.inv_mk

theorem State.convFault_inv {s1 : State} {x2 : Nat} {x3 : Bool} (h1 : s1.Inv) : (State.convFault s1 x2 x3).Inv := by
  unfold State.convFault
  with_reducible repeat' first | intro _ | assumption | apply State.raise_inv | apply State.enterLos_inv | apply State.driverFault_inv | apply State.inv_ite | split | apply State.inv_mk

theorem State.rampDone_inv {s1 : State} {x2 : Nat} (h1 : s1.Inv) : (State.rampDone s1 x2).Inv := by
  unfold State.rampDone
  with_reducible repeat' first | intro _ | assumption | apply State.raise_inv | apply State.wr_inv | apply State.modEngine_inv | apply State.inv_ite | split | apply State.inv_mk

theorem State.restartFreq_inv {s1 : State} {x2 : Nat} {x3 : Bool} (h1 : s1.Inv) : (State.restartFreq s1 x2 x3).Inv := by
  unfold State.restartFreq
  with_reducible repeat' first | intro _ | assumption | apply State.enterRx_inv | apply State.clearLocks_inv | apply State.modEngine_inv | apply State.inv_ite | split | apply State.inv_mk

theorem State.engineLos_inv {s1 : State} {x2 : Nat} {x3 : Nat} (h1 : s1.Inv) : (State.engineLos s1 x2 x3).Inv := by
  unfold State.engineLos
  with_reducible repeat' first | intro _ | assumption | apply State.raise_inv | apply State.modEngine_inv | apply State.enterLos_inv | apply State.inv_ite | split | apply State.inv_mk

theorem State.engineSigOk_inv {s1 : State} {x2 : Nat} {x3 : Nat} (h1 : s1.Inv) : (State.engineSigOk s1 x2 x3).Inv := by
  unfold State.engineSigOk
  with_reducible repeat' first | intro _ | assumption | apply State.modEngine_inv | apply State.enterRx_inv | apply State.raise_inv | apply State.inv_ite | split | apply State.inv_mk

theorem State.freqLock_inv {s1 : State} {x2 : Nat} {x3 : Int} (h1 : s1.Inv) : (State.freqLock s1 x2 x3).Inv := by
  unfold State.freqLock
  with_reducible repeat' first | intro _ | assumption | apply State.wr_inv | apply State.enterRx_inv | apply State.modEngine_inv | apply State.inv_ite | split | apply State.inv_mk

theorem State.cdLock_inv {s1 : State} {x2 : Nat} {x3 : Int} (h1 : s1.Inv) : (State.cdLock s1 x2 x3).Inv := by
  unfold State.cdLock
  with_reducible repeat' first | intro _ | assumption | apply State.wr_inv | apply State.enterRx_inv | apply State.inv_ite | split | apply State.inv_mk

theorem State.cdHintMiss_inv {s1 : State} {x2 : Nat} (h1 : s1.Inv) : (State.cdHintMiss s1 x2).Inv := by
  unfold State.cdHintMiss
  with_reducible repeat' first | intro _ | assumption | apply State.modEngine_inv | apply State.inv_ite | split | apply State.inv_mk

theorem State.engineLock_inv {s1 : State} {x2 : Nat} (h1 : s1.Inv) : (State.engineLock s1 x2).Inv := by
  unfold State.engineLock
  with_reducible repeat' first | intro _ | assumption | apply State.incWrap_inv | apply State.wrBool_inv | apply State.wr_inv | apply State.modEngine_inv | apply State.enterRx_inv | apply State.raise_inv | apply State.inv_ite | split | apply State.inv_mk

theorem State.acqFail_inv {s1 : State} {x2 : Nat} (h1 : s1.Inv) : (State.acqFail s1 x2).Inv := by
  unfold State.acqFail
  with_reducible repeat' first | intro _ | assumption | apply State.restartFreq_inv | apply State.modEngine_inv | apply State.raise_inv | apply State.inv_ite | split | apply State.inv_mk

theorem State.acqRestart_inv {s1 : State} {x2 : Nat} (h1 : s1.Inv) : (State.acqRestart s1 x2).Inv := by
  unfold State.acqRestart
  with_reducible repeat' first | intro _ | assumption | apply State.dropFrame_inv | apply State.restartFreq_inv | apply State.inv_ite | split | apply State.inv_mk

theorem State.engineLol_inv {s1 : State} {x2 : Nat} {x3 : Nat} (h1 : s1.Inv) : (State.engineLol s1 x2 x3).Inv := by
  unfold State.engineLol
  with_reducible repeat' first | intro _ | assumption | apply State.incWrap_inv | apply State.restartFreq_inv | apply State.modEngine_inv | apply State.clearLocks_inv | apply State.enterRx_inv | apply State.raise_inv | apply State.dropFrame_inv | apply State.inv_ite | split | apply State.inv_mk

theorem State.fastTimeout_inv {s1 : State} {x2 : Nat} (h1 : s1.Inv) : (State.fastTimeout s1 x2).Inv := by
  unfold State.fastTimeout
  with_reducible repeat' first | intro _ | assumption | apply State.restartFreq_inv | apply State.inv_ite | split | apply State.inv_mk

theorem State.cohPublish_inv {s1 : State} {x2 : Nat} {x3 : Int} {x4 : Int} (h1 : s1.Inv) : (State.cohPublish s1 x2 x3 x4).Inv := by
  unfold State.cohPublish
  with_reducible repeat' first | intro _ | assumption | apply State.wr_inv | apply State.inv_ite | split | apply State.inv_mk

theorem State.showSkew_inv {s1 : State} {x2 : Nat} {x3 : Int} (h1 : s1.Inv) : (State.showSkew s1 x2 x3).Inv := by
  unfold State.showSkew
  with_reducible repeat' first | intro _ | assumption | apply State.wr_inv | apply State.inv_ite | split | apply State.inv_mk

theorem State.deskewLoss_inv {s1 : State} {x2 : Nat} {x3 : Int} {x4 : Nat} (h1 : s1.Inv) : (State.deskewLoss s1 x2 x3 x4).Inv := by
  unfold State.deskewLoss
  with_reducible repeat' first | intro _ | assumption | apply State.wr_inv | apply State.showSkew_inv | apply State.raise_inv | apply State.showSsf_inv | apply State.inv_ite | split | apply State.inv_mk

theorem State.deskewRegained_inv {s1 : State} {x2 : Nat} {x3 : Int} {x4 : Nat} (h1 : s1.Inv) : (State.deskewRegained s1 x2 x3 x4).Inv := by
  unfold State.deskewRegained
  with_reducible repeat' first | intro _ | assumption | apply State.showSsf_inv | apply State.wr_inv | apply State.showSkew_inv | apply State.inv_ite | split | apply State.inv_mk

theorem State.spiGo_inv {s1 : State} {x2 : Nat} {x3 : Word} (h1 : s1.Inv) : (State.spiGo s1 x2 x3).Inv := by
  unfold State.spiGo
  with_reducible repeat' first | intro _ | assumption | apply State.raise_inv | apply State.setReg_inv | apply State.wr_inv | apply State.send_inv | apply State.inv_ite | split | apply State.inv_mk

theorem State.spiDone_inv {s1 : State} {x2 : Nat} {x3 : BitVec 64} (h1 : s1.Inv) : (State.spiDone s1 x2 x3).Inv := by
  unfold State.spiDone
  with_reducible repeat' first | intro _ | assumption | apply State.setReg_inv | apply State.raise_inv | apply State.wr_inv | apply State.inv_ite | split | apply State.inv_mk

theorem State.tickEngine_inv {s1 : State} {x2 : Nat} (h1 : s1.Inv) : (State.tickEngine s1 x2).Inv := by
  unfold State.tickEngine
  with_reducible repeat' first | intro _ | assumption | apply State.modEngine_inv | apply State.followRequest_inv | apply State.followSwing_inv | apply State.showHolds_inv | apply State.followPower_inv | apply State.followLaser_inv | apply State.wr_inv | apply State.wrBool_inv | apply State.inv_ite | split | apply State.inv_mk

theorem State.engineClassT_inv {s1 : State} {x2 : Nat} (h1 : s1.Inv) : (State.engineClassT s1 x2).Inv := by
  unfold State.engineClassT
  with_reducible repeat' first | intro _ | assumption | apply State.startInLos_inv | apply State.holdChanged_inv | apply State.inv_ite | split | apply State.inv_mk

theorem execLePstateWrite_inv {x1 : Initiator} {x2 : Fin 4} {s3 : State} (h3 : s3.Inv) {t : State} (ht : execLePstateWrite x1 x2 s3 = .next t) : t.Inv := by
  unfold execLePstateWrite at ht; cases ht
  with_reducible repeat' first | intro _ | assumption | apply State.atEngine_inv | apply State.write_inv | apply State.wr_inv | apply State.inv_ite | split | apply State.inv_mk

theorem execPowerStateReached_inv {x1 : Fin 8} {s2 : State} (h2 : s2.Inv) {t : State} (ht : execPowerStateReached x1 s2 = .next t) : t.Inv := by
  unfold execPowerStateReached at ht; cases ht
  with_reducible repeat' first | intro _ | assumption | apply State.powerReached_inv | apply State.inv_ite | split | apply State.inv_mk

theorem execConvFault_inv {x1 : Fin 8} {x2 : Bool} {s3 : State} (h3 : s3.Inv) {t : State} (ht : execConvFault x1 x2 s3 = .next t) : t.Inv := by
  unfold execConvFault at ht; cases ht
  with_reducible repeat' first | intro _ | assumption | apply State.convFault_inv | apply State.inv_ite | split | apply State.inv_mk

theorem State.writeTxEn_inv {s1 : State} {x2 : Nat} {x3 : Bool} (h1 : s1.Inv) : (State.writeTxEn s1 x2 x3).Inv := by
  unfold State.writeTxEn
  with_reducible repeat' first | intro _ | assumption | apply State.modEngine_inv | apply State.wrBool_inv | apply State.inv_ite | split | apply State.inv_mk

theorem execTxEnWrite_inv {x1 : Initiator} {x2 : Bool} {s3 : State} (h3 : s3.Inv) {t : State} (ht : execTxEnWrite x1 x2 s3 = .next t) : t.Inv := by
  unfold execTxEnWrite at ht; cases ht
  with_reducible repeat' first | intro _ | assumption | apply State.atEngine_inv | apply State.write_inv | apply State.writeTxEn_inv | apply State.inv_ite | split | apply State.inv_mk

theorem execLaserEnWrite_inv {x1 : Initiator} {x2 : Bool} {s3 : State} (h3 : s3.Inv) {t : State} (ht : execLaserEnWrite x1 x2 s3 = .next t) : t.Inv := by
  unfold execLaserEnWrite at ht; cases ht
  with_reducible repeat' first | intro _ | assumption | apply State.atEngine_inv | apply State.write_inv | apply State.wrBool_inv | apply State.inv_ite | split | apply State.inv_mk

theorem execLeDrvWrite_inv {x1 : Initiator} {x2 : Word} {s3 : State} (h3 : s3.Inv) {t : State} (ht : execLeDrvWrite x1 x2 s3 = .next t) : t.Inv := by
  unfold execLeDrvWrite at ht; cases ht
  with_reducible repeat' first | intro _ | assumption | apply State.atEngine_inv | apply State.write_inv | apply State.setReg_inv | apply State.inv_ite | split | apply State.inv_mk

theorem execRampDone_inv {x1 : Fin 8} {s2 : State} (h2 : s2.Inv) {t : State} (ht : execRampDone x1 s2 = .next t) : t.Inv := by
  unfold execRampDone at ht; cases ht
  with_reducible repeat' first | intro _ | assumption | apply State.rampDone_inv | apply State.inv_ite | split | apply State.inv_mk

theorem execDrvFault_inv {x1 : Fin 8} {s2 : State} (h2 : s2.Inv) {t : State} (ht : execDrvFault x1 s2 = .next t) : t.Inv := by
  unfold execDrvFault at ht; cases ht
  with_reducible repeat' first | intro _ | assumption | apply State.driverFault_inv | apply State.inv_ite | split | apply State.inv_mk

theorem execEngineLos_inv {x1 : Fin 8} {x2 : Nat} {s3 : State} (h3 : s3.Inv) {t : State} (ht : execEngineLos x1 x2 s3 = .next t) : t.Inv := by
  unfold execEngineLos at ht; cases ht
  with_reducible repeat' first | intro _ | assumption | apply State.engineLos_inv | apply State.inv_ite | split | apply State.inv_mk

theorem execEngineSigOk_inv {x1 : Fin 8} {x2 : Nat} {s3 : State} (h3 : s3.Inv) {t : State} (ht : execEngineSigOk x1 x2 s3 = .next t) : t.Inv := by
  unfold execEngineSigOk at ht; cases ht
  with_reducible repeat' first | intro _ | assumption | apply State.engineSigOk_inv | apply State.inv_ite | split | apply State.inv_mk

theorem execFreqLock_inv {x1 : Fin 8} {x2 : Int} {s3 : State} (h3 : s3.Inv) {t : State} (ht : execFreqLock x1 x2 s3 = .next t) : t.Inv := by
  unfold execFreqLock at ht; cases ht
  with_reducible repeat' first | intro _ | assumption | apply State.freqLock_inv | apply State.inv_ite | split | apply State.inv_mk

theorem execCdLock_inv {x1 : Fin 8} {x2 : Int} {s3 : State} (h3 : s3.Inv) {t : State} (ht : execCdLock x1 x2 s3 = .next t) : t.Inv := by
  unfold execCdLock at ht; cases ht
  with_reducible repeat' first | intro _ | assumption | apply State.cdLock_inv | apply State.inv_ite | split | apply State.inv_mk

theorem execCdHintMiss_inv {x1 : Fin 8} {s2 : State} (h2 : s2.Inv) {t : State} (ht : execCdHintMiss x1 s2 = .next t) : t.Inv := by
  unfold execCdHintMiss at ht; cases ht
  with_reducible repeat' first | intro _ | assumption | apply State.cdHintMiss_inv | apply State.inv_ite | split | apply State.inv_mk

theorem execLock_inv {x1 : Fin 8} {s2 : State} (h2 : s2.Inv) {t : State} (ht : execLock x1 s2 = .next t) : t.Inv := by
  unfold execLock at ht; cases ht
  with_reducible repeat' first | intro _ | assumption | apply State.engineLock_inv | apply State.inv_ite | split | apply State.inv_mk

theorem execAcqFail_inv {x1 : Fin 8} {s2 : State} (h2 : s2.Inv) {t : State} (ht : execAcqFail x1 s2 = .next t) : t.Inv := by
  unfold execAcqFail at ht; cases ht
  with_reducible repeat' first | intro _ | assumption | apply State.acqFail_inv | apply State.inv_ite | split | apply State.inv_mk

theorem execAcqRestart_inv {x1 : Initiator} {s2 : State} (h2 : s2.Inv) {t : State} (ht : execAcqRestart x1 s2 = .next t) : t.Inv := by
  unfold execAcqRestart at ht; cases ht
  with_reducible repeat' first | intro _ | assumption | apply State.atEngine_inv | apply State.write_inv | apply State.later_inv | apply State.inv_ite | split | apply State.inv_mk

theorem execEngineLol_inv {x1 : Fin 8} {x2 : Nat} {s3 : State} (h3 : s3.Inv) {t : State} (ht : execEngineLol x1 x2 s3 = .next t) : t.Inv := by
  unfold execEngineLol at ht; cases ht
  with_reducible repeat' first | intro _ | assumption | apply State.engineLol_inv | apply State.inv_ite | split | apply State.inv_mk

theorem execFastReacqTimeout_inv {x1 : Fin 8} {s2 : State} (h2 : s2.Inv) {t : State} (ht : execFastReacqTimeout x1 s2 = .next t) : t.Inv := by
  unfold execFastReacqTimeout at ht; cases ht
  with_reducible repeat' first | intro _ | assumption | apply State.fastTimeout_inv | apply State.inv_ite | split | apply State.inv_mk

theorem execDeskewLoss_inv {x1 : Fin 4} {x2 : Int} {x3 : Nat} {s4 : State} (h4 : s4.Inv) {t : State} (ht : execDeskewLoss x1 x2 x3 s4 = .next t) : t.Inv := by
  unfold execDeskewLoss at ht; cases ht
  with_reducible repeat' first | intro _ | assumption | apply State.deskewLoss_inv | apply State.inv_ite | split | apply State.inv_mk

theorem execDeskewRegained_inv {x1 : Fin 4} {x2 : Int} {x3 : Nat} {s4 : State} (h4 : s4.Inv) {t : State} (ht : execDeskewRegained x1 x2 x3 s4 = .next t) : t.Inv := by
  unfold execDeskewRegained at ht; cases ht
  with_reducible repeat' first | intro _ | assumption | apply State.deskewRegained_inv | apply State.inv_ite | split | apply State.inv_mk

theorem execSpiGo_inv {x1 : Initiator} {x2 : Word} {s3 : State} (h3 : s3.Inv) {t : State} (ht : execSpiGo x1 x2 s3 = .next t) : t.Inv := by
  unfold execSpiGo at ht; cases ht
  with_reducible repeat' first | intro _ | assumption | apply State.atEngine_inv | apply State.write_inv | apply State.spiGo_inv | apply State.inv_ite | split | apply State.inv_mk

theorem execSpiDone_inv {x1 : Fin 8} {x2 : BitVec 64} {s3 : State} (h3 : s3.Inv) {t : State} (ht : execSpiDone x1 x2 s3 = .next t) : t.Inv := by
  unfold execSpiDone at ht; cases ht
  with_reducible repeat' first | intro _ | assumption | apply State.spiDone_inv | apply State.inv_ite | split | apply State.inv_mk

theorem State.modLink_inv {s1 : State} {x2 : Nat} {f3 : Link → Link} (h1 : s1.Inv) : (State.modLink s1 x2 f3).Inv := by
  unfold State.modLink
  with_reducible repeat' first | intro _ | assumption | apply h3 | apply State.setLink_inv | apply State.inv_ite | split | apply State.inv_mk

theorem State.transfer_inv {s1 : State} {x2 : Nat} {x3 : TransferEnd} (h1 : s1.Inv) : (State.transfer s1 x2 x3).Inv := by
  unfold State.transfer
  with_reducible repeat' first | intro _ | assumption | apply State.modLink_inv | apply State.each_inv | apply State.setStore_inv | apply State.raise_inv | apply State.inv_ite | split | apply State.inv_mk

theorem State.tickLink_inv {s1 : State} {x2 : Nat} (h1 : s1.Inv) : (State.tickLink s1 x2).Inv := by
  unfold State.tickLink
  with_reducible repeat' first | intro _ | assumption | apply State.modLink_inv | apply State.inv_ite | split | apply State.inv_mk

theorem State.d2dDown_inv {s1 : State} {x2 : Nat} (h1 : s1.Inv) : (State.d2dDown s1 x2).Inv := by
  unfold State.d2dDown
  with_reducible repeat' first | intro _ | assumption | apply State.modLink_inv | apply State.each_inv | apply State.holdChanged_inv | apply State.raise_inv | apply State.inv_ite | split | apply State.inv_mk

theorem State.d2dRetrain_inv {s1 : State} {x2 : Nat} (h1 : s1.Inv) : (State.d2dRetrain s1 x2).Inv := by
  unfold State.d2dRetrain
  with_reducible repeat' first | intro _ | assumption | apply State.modLink_inv | apply State.inv_ite | split | apply State.inv_mk

theorem State.d2dRestore_inv {s1 : State} {x2 : Nat} (h1 : s1.Inv) : (State.d2dRestore s1 x2).Inv := by
  unfold State.d2dRestore
  with_reducible repeat' first | intro _ | assumption | apply State.modLink_inv | apply State.each_inv | apply State.holdChanged_inv | apply State.startInLos_inv | apply State.inv_ite | split | apply State.inv_mk

theorem State.setAvs_inv {s1 : State} {x2 : Rail} {x3 : AvsLoop} {x4 : Nat} (h1 : s1.Inv) : (State.setAvs s1 x2 x3 x4).Inv := by
  unfold State.setAvs
  with_reducible repeat' first | intro _ | assumption | apply State.wr_inv | apply State.inv_ite | split | apply State.inv_mk

theorem State.avsUpdate_inv {s1 : State} {x2 : Rail} {x3 : AvsReading} (h1 : s1.Inv) : (State.avsUpdate s1 x2 x3).Inv := by
  unfold State.avsUpdate
  with_reducible repeat' first | intro _ | assumption | apply State.raise_inv | apply State.setAvs_inv | apply State.raiseIf_inv | apply State.wrBool_inv | apply State.inv_ite | split | apply State.inv_mk

theorem State.tickFreeze_inv {s1 : State} (h1 : s1.Inv) : (State.tickFreeze s1).Inv := by
  unfold State.tickFreeze
  with_reducible repeat' first | intro _ | assumption | apply State.wr_inv | apply State.abandonRepack_inv | apply State.inv_ite | split | apply State.inv_mk

theorem execD2dTransfer_inv {x1 : Fin 4} {x2 : TransferEnd} {s3 : State} (h3 : s3.Inv) {t : State} (ht : execD2dTransfer x1 x2 s3 = .next t) : t.Inv := by
  unfold execD2dTransfer at ht; cases ht
  with_reducible repeat' first | intro _ | assumption | apply State.transfer_inv | apply State.inv_ite | split | apply State.inv_mk

theorem execD2dDown_inv {x1 : Fin 4} {s2 : State} (h2 : s2.Inv) {t : State} (ht : execD2dDown x1 s2 = .next t) : t.Inv := by
  unfold execD2dDown at ht; cases ht
  with_reducible repeat' first | intro _ | assumption | apply State.d2dDown_inv | apply State.inv_ite | split | apply State.inv_mk

theorem execD2dRetrain_inv {x1 : Fin 4} {s2 : State} (h2 : s2.Inv) {t : State} (ht : execD2dRetrain x1 s2 = .next t) : t.Inv := by
  unfold execD2dRetrain at ht; cases ht
  with_reducible repeat' first | intro _ | assumption | apply State.d2dRetrain_inv | apply State.inv_ite | split | apply State.inv_mk

theorem execD2dRestore_inv {x1 : Fin 4} {s2 : State} (h2 : s2.Inv) {t : State} (ht : execD2dRestore x1 s2 = .next t) : t.Inv := by
  unfold execD2dRestore at ht; cases ht
  with_reducible repeat' first | intro _ | assumption | apply State.d2dRestore_inv | apply State.inv_ite | split | apply State.inv_mk

theorem execLoopFreezeWrite_inv {x1 : Initiator} {x2 : Word} {s3 : State} (h3 : s3.Inv) {t : State} (ht : execLoopFreezeWrite x1 x2 s3 = .next t) : t.Inv := by
  unfold execLoopFreezeWrite at ht; cases ht
  with_reducible repeat' first | intro _ | assumption | apply State.busError_inv | apply State.reply_inv | apply State.setReg_inv | apply State.inv_ite | split | apply State.inv_mk

theorem execAvsUpdate_inv {x1 : Rail} {x2 : AvsReading} {s3 : State} (h3 : s3.Inv) {t : State} (ht : execAvsUpdate x1 x2 s3 = .next t) : t.Inv := by
  unfold execAvsUpdate at ht; cases ht
  with_reducible repeat' first | intro _ | assumption | apply State.avsUpdate_inv | apply State.inv_ite | split | apply State.inv_mk

theorem execSyTicknoLoRead_inv {x1 : Initiator} {s2 : State} (h2 : s2.Inv) {t : State} (ht : execSyTicknoLoRead x1 s2 = .next t) : t.Inv := by
  unfold execSyTicknoLoRead at ht; cases ht
  with_reducible repeat' first | intro _ | assumption | apply State.readLatched_inv | apply State.inv_ite | split | apply State.inv_mk

theorem State.modPool_inv {s1 : State} {f2 : Pool → Pool} (h1 : s1.Inv) : (State.modPool s1 f2).Inv := by
  unfold State.modPool
  with_reducible repeat' first | intro _ | assumption | apply h2 | apply State.inv_ite | split | apply State.inv_mk

theorem State.baseDecode_inv {s1 : State} {x2 : List Codeword} (h1 : s1.Inv) : (State.baseDecode s1 x2).Inv := by
  unfold State.baseDecode
  with_reducible repeat' first | intro _ | assumption | apply State.modPool_inv | apply State.inv_ite | split | apply State.inv_mk

theorem State.poolDecode_inv {s1 : State} (h1 : s1.Inv) : (State.poolDecode s1).Inv := by
  unfold State.poolDecode
  with_reducible repeat' first | intro _ | assumption | apply State.modPool_inv | apply State.each_inv | apply State.addTally_inv | apply State.raiseIf_inv | apply State.inv_ite | split | apply State.inv_mk

theorem State.tickPool_inv {s1 : State} (h1 : s1.Inv) : (State.tickPool s1).Inv := by
  unfold State.tickPool
  with_reducible repeat' first | intro _ | assumption | apply State.wr_inv | apply State.inv_ite | split | apply State.inv_mk

theorem State.deliverCodewords_inv {s1 : State} (h1 : s1.Inv) : (State.deliverCodewords s1).Inv := by
  unfold State.deliverCodewords
  with_reducible repeat' first | intro _ | assumption | apply State.modPool_inv | apply State.each_inv | apply State.count_inv | apply State.addTally_inv | apply State.inv_ite | split | apply State.inv_mk

theorem State.poolFreq_inv {s1 : State} {x2 : PoolReading} (h1 : s1.Inv) : (State.poolFreq s1 x2).Inv := by
  unfold State.poolFreq
  with_reducible repeat' first | intro _ | assumption | apply State.modPool_inv | apply State.wr_inv | apply State.raise_inv | apply State.inv_ite | split | apply State.inv_mk

theorem execPoolFreqDecision_inv {x1 : PoolReading} {s2 : State} (h2 : s2.Inv) {t : State} (ht : execPoolFreqDecision x1 s2 = .next t) : t.Inv := by
  unfold execPoolFreqDecision at ht; cases ht
  with_reducible repeat' first | intro _ | assumption | apply State.poolFreq_inv | apply State.inv_ite | split | apply State.inv_mk

theorem execBaseDecode_inv {x1 : List Codeword} {s2 : State} (h2 : s2.Inv) {t : State} (ht : execBaseDecode x1 s2 = .next t) : t.Inv := by
  unfold execBaseDecode at ht; cases ht
  with_reducible repeat' first | intro _ | assumption | apply State.baseDecode_inv | apply State.inv_ite | split | apply State.inv_mk

theorem execPoolDecode_inv {s1 : State} (h1 : s1.Inv) {t : State} (ht : execPoolDecode s1 = .next t) : t.Inv := by
  unfold execPoolDecode at ht; cases ht
  with_reducible repeat' first | intro _ | assumption | apply State.poolDecode_inv | apply State.inv_ite | split | apply State.inv_mk

theorem execCodewordDelivery_inv {s1 : State} (h1 : s1.Inv) {t : State} (ht : execCodewordDelivery s1 = .next t) : t.Inv := by
  unfold execCodewordDelivery at ht; cases ht
  with_reducible repeat' first | intro _ | assumption | apply State.deliverCodewords_inv | apply State.inv_ite | split | apply State.inv_mk

theorem execFpCntLoRead_inv {x1 : Initiator} {s2 : State} (h2 : s2.Inv) {t : State} (ht : execFpCntLoRead x1 s2 = .next t) : t.Inv := by
  unfold execFpCntLoRead at ht; cases ht
  with_reducible repeat' first | intro _ | assumption | apply State.readLatched_inv | apply State.inv_ite | split | apply State.inv_mk

theorem State.modCtx_inv {s1 : State} {x2 : Nat} {f3 : EncCtx → EncCtx} (h1 : s1.Inv) : (State.modCtx s1 x2 f3).Inv := by
  unfold State.modCtx
  with_reducible repeat' first | intro _ | assumption | apply h3 | apply State.setEncCtx_inv | apply State.inv_ite | split | apply State.inv_mk

theorem State.setKey_inv {s1 : State} {x2 : Nat} {x3 : Nat} {x4 : Option (List Word)} (h1 : s1.Inv) : (State.setKey s1 x2 x3 x4).Inv := by
  unfold State.setKey
  with_reducible repeat' first | intro _ | assumption | apply State.wrBool_inv | apply State.modCtx_inv | apply State.inv_ite | split | apply State.inv_mk

theorem State.setChange_inv {s1 : State} {x2 : Nat} {x3 : Option (Nat × Tick)} (h1 : s1.Inv) : (State.setChange s1 x2 x3).Inv := by
  unfold State.setChange
  with_reducible repeat' first | intro _ | assumption | apply State.wrBool_inv | apply State.modCtx_inv | apply State.inv_ite | split | apply State.inv_mk

theorem State.showAis_inv {s1 : State} {x2 : Nat} (h1 : s1.Inv) : (State.showAis s1 x2).Inv := by
  unfold State.showAis
  with_reducible repeat' first | intro _ | assumption | apply State.wrBool_inv | apply State.inv_ite | split | apply State.inv_mk

theorem State.applyBlock_inv {s1 : State} {x2 : Nat} {x3 : Bool} (h1 : s1.Inv) : (State.applyBlock s1 x2 x3).Inv := by
  unfold State.applyBlock
  with_reducible repeat' first | intro _ | assumption | apply State.modCtx_inv | apply State.raiseIf_inv | apply State.showAis_inv | apply State.inv_ite | split | apply State.inv_mk

theorem State.startCtx_inv {s1 : State} {x2 : Nat} (h1 : s1.Inv) : (State.startCtx s1 x2).Inv := by
  unfold State.startCtx
  with_reducible repeat' first | intro _ | assumption | apply State.modCtx_inv | apply State.applyBlock_inv | apply State.wr_inv | apply State.inv_ite | split | apply State.inv_mk

theorem State.startReceive_inv {s1 : State} {x2 : Nat} (h1 : s1.Inv) : (State.startReceive s1 x2).Inv := by
  unfold State.startReceive
  with_reducible repeat' first | intro _ | assumption | apply State.each_inv | apply State.startCtx_inv | apply State.inv_ite | split | apply State.inv_mk

theorem State.restartContexts_inv {s1 : State} {x2 : Nat} (h1 : s1.Inv) : (State.restartContexts s1 x2).Inv := by
  unfold State.restartContexts
  with_reducible repeat' first | intro _ | assumption | apply State.each_inv | apply State.startReceive_inv | apply State.modCtx_inv | apply State.setChange_inv | apply State.inv_ite | split | apply State.inv_mk

theorem State.emptyKeys_inv {s1 : State} (h1 : s1.Inv) : (State.emptyKeys s1).Inv := by
  unfold State.emptyKeys
  with_reducible repeat' first | intro _ | assumption | apply State.each_inv | apply State.wr_inv | apply State.setChange_inv | apply State.setKey_inv | apply State.inv_ite | split | apply State.inv_mk

theorem State.keyResult_inv {s1 : State} {x2 : Nat} {x3 : Nat} (h1 : s1.Inv) : (State.keyResult s1 x2 x3).Inv := by
  unfold State.keyResult
  with_reducible repeat' first | intro _ | assumption | apply State.wr_inv | apply State.inv_ite | split | apply State.inv_mk

theorem State.clearBlob_inv {s1 : State} {x2 : Nat} (h1 : s1.Inv) : (State.clearBlob s1 x2).Inv := by
  unfold State.clearBlob
  with_reducible repeat' first | intro _ | assumption | apply State.each_inv | apply State.setReg_inv | apply State.inv_ite | split | apply State.inv_mk

theorem State.keyLoad_inv {s1 : State} {x2 : Nat} {x3 : Nat} {x4 : Nat} {x5 : List Word} (h1 : s1.Inv) : (State.keyLoad s1 x2 x3 x4 x5).Inv := by
  unfold State.keyLoad
  with_reducible repeat' first | intro _ | assumption | apply State.clearBlob_inv | apply State.keyResult_inv | apply State.wr_inv | apply State.setKeyJob_inv | apply State.inv_ite | split | apply State.inv_mk

theorem State.unwrapDone_inv {s1 : State} {x2 : Nat} {x3 : Bool} (h1 : s1.Inv) : (State.unwrapDone s1 x2 x3).Inv := by
  unfold State.unwrapDone
  with_reducible repeat' first | intro _ | assumption | apply State.wr_inv | apply State.setKeyJob_inv | apply State.keyResult_inv | apply State.raise_inv | apply State.setKey_inv | apply State.inv_ite | split | apply State.inv_mk

theorem State.zeroize_inv {s1 : State} {x2 : Nat} {x3 : Nat} {x4 : Nat} (h1 : s1.Inv) : (State.zeroize s1 x2 x3 x4).Inv := by
  unfold State.zeroize
  with_reducible repeat' first | intro _ | assumption | apply State.keyResult_inv | apply State.setKey_inv | apply State.inv_ite | split | apply State.inv_mk

theorem State.zeroizeAll_inv {s1 : State} {x2 : Nat} {x3 : Nat} {x4 : Nat} (h1 : s1.Inv) : (State.zeroizeAll s1 x2 x3 x4).Inv := by
  unfold State.zeroizeAll
  with_reducible repeat' first | intro _ | assumption | apply State.keyResult_inv | apply State.each_inv | apply State.setChange_inv | apply State.setKey_inv | apply State.modCtx_inv | apply State.wr_inv | apply State.startCtx_inv | apply State.inv_ite | split | apply State.inv_mk

theorem State.keyChange_inv {s1 : State} {x2 : Nat} {x3 : Nat} {x4 : Nat} {x5 : Tick} (h1 : s1.Inv) : (State.keyChange s1 x2 x3 x4 x5).Inv := by
  unfold State.keyChange
  with_reducible repeat' first | intro _ | assumption | apply State.keyResult_inv | apply State.tickLate_inv | apply State.setChange_inv | apply State.inv_ite | split | apply State.inv_mk

theorem State.txBlock_inv {s1 : State} {x2 : Nat} (h1 : s1.Inv) : (State.txBlock s1 x2).Inv := by
  unfold State.txBlock
  with_reducible repeat' first | intro _ | assumption | apply State.modCtx_inv | apply State.wr_inv | apply State.setChange_inv | apply State.raise_inv | apply State.inv_ite | split | apply State.inv_mk

theorem State.rxBlock_inv {s1 : State} {x2 : Nat} (h1 : s1.Inv) : (State.rxBlock s1 x2).Inv := by
  unfold State.rxBlock
  with_reducible repeat' first | intro _ | assumption | apply State.raiseIf_inv | apply State.modCtx_inv | apply State.wr_inv | apply State.applyBlock_inv | apply State.inv_ite | split | apply State.inv_mk

theorem State.blockBoundary_inv {s1 : State} {x2 : Nat} {x3 : Bool} (h1 : s1.Inv) : (State.blockBoundary s1 x2 x3).Inv := by
  unfold State.blockBoundary
  with_reducible repeat' first | intro _ | assumption | apply State.each_inv | apply State.modFrame_inv | apply State.rxBlock_inv | apply State.txBlock_inv | apply State.inv_ite | split | apply State.inv_mk

theorem State.hideClear_inv {s1 : State} {x2 : Tick} {x3 : Nat} (h1 : s1.Inv) : (State.hideClear s1 x2 x3).Inv := by
  unfold State.hideClear
  with_reducible repeat' first | intro _ | assumption | apply State.each_inv | apply State.setEgressBerth_inv | apply State.inv_ite | split | apply State.inv_mk

theorem State.aisContext_inv {s1 : State} {x2 : Nat} (h1 : s1.Inv) : (State.aisContext s1 x2).Inv := by
  unfold State.aisContext
  with_reducible repeat' first | intro _ | assumption | apply State.inv_ite | split | apply State.inv_mk

theorem State.openWindow_inv {s1 : State} {x2 : Nat} {x3 : Tick} {x4 : Bool} (h1 : s1.Inv) : (State.openWindow s1 x2 x3 x4).Inv := by
  unfold State.openWindow
  with_reducible repeat' first | intro _ | assumption | apply State.showAis_inv | apply State.modCtx_inv | apply State.inv_ite | split | apply State.inv_mk

theorem State.checkTag_inv {s1 : State} {x2 : Nat} {x3 : Tick} {x4 : Bool} {x5 : Bool} {x6 : Option Bool} (h1 : s1.Inv) : (State.checkTag s1 x2 x3 x4 x5 x6).Inv := by
  unfold State.checkTag
  with_reducible repeat' first | intro _ | assumption | apply State.raise_inv | apply State.incWrap_inv | apply State.openWindow_inv | apply State.wr_inv | apply State.inv_ite | split | apply State.inv_mk

theorem State.missContexts_inv {s1 : State} {x2 : Nat} (h1 : s1.Inv) : (State.missContexts s1 x2).Inv := by
  unfold State.missContexts
  with_reducible repeat' first | intro _ | assumption | apply State.each_inv | apply State.modCtx_inv | apply State.inv_ite | split | apply State.inv_mk

theorem State.readEnc_inv {s1 : State} {x2 : Nat} {x3 : Tick} {x4 : List Nat} {x5 : EncArea} (h1 : s1.Inv) : (State.readEnc s1 x2 x3 x4 x5).Inv := by
  unfold State.readEnc
  with_reducible repeat' first | intro _ | assumption | apply State.each_inv | apply State.modCtx_inv | apply State.wr_inv | apply State.aisContext_inv | apply State.checkTag_inv | apply State.inv_ite | split | apply State.inv_mk

theorem State.windowEnd_inv {s1 : State} {x2 : Nat} {x3 : Nat} (h1 : s1.Inv) : (State.windowEnd s1 x2 x3).Inv := by
  unfold State.windowEnd
  with_reducible repeat' first | intro _ | assumption | apply State.showAis_inv | apply State.modCtx_inv | apply State.inv_ite | split | apply State.inv_mk

theorem State.clearLatches_inv {s1 : State} {x2 : Nat} (h1 : s1.Inv) : (State.clearLatches s1 x2).Inv := by
  unfold State.clearLatches
  with_reducible repeat' first | intro _ | assumption | apply State.each_inv | apply State.showAis_inv | apply State.modCtx_inv | apply State.inv_ite | split | apply State.inv_mk

theorem State.keyCommand_inv {s1 : State} {x2 : Initiator} {f3 : Nat → Write} {f4 : State → Nat → State} (h1 : s1.Inv) (h4 : ∀ (y0 : State) (y1 : Nat), y0.Inv → (f4 y0 y1).Inv) : (State.keyCommand s1 x2 f3 f4).Inv := by
  unfold State.keyCommand
  with_reducible repeat' first | intro _ | assumption | apply h3 | apply h4 | apply State.busError_inv | apply State.write_inv | apply State.keyResult_inv | apply State.inv_ite | split | apply State.inv_mk

theorem execKeyLoad_inv {x1 : Initiator} {x2 : Fin 2} {s3 : State} (h3 : s3.Inv) {t : State} (ht : execKeyLoad x1 x2 s3 = .next t) : t.Inv := by
  unfold execKeyLoad at ht; cases ht
  with_reducible repeat' first | intro _ | assumption | apply State.keyCommand_inv | apply State.keyLoad_inv | apply State.inv_ite | split | apply State.inv_mk

theorem execKeyUnwrapDone_inv {x1 : Initiator} {x2 : Bool} {s3 : State} (h3 : s3.Inv) {t : State} (ht : execKeyUnwrapDone x1 x2 s3 = .next t) : t.Inv := by
  unfold execKeyUnwrapDone at ht; cases ht
  with_reducible repeat' first | intro _ | assumption | apply State.unwrapDone_inv | apply State.inv_ite | split | apply State.inv_mk

theorem execKeyChange_inv {x1 : Initiator} {x2 : Fin 4} {s3 : State} (h3 : s3.Inv) {t : State} (ht : execKeyChange x1 x2 s3 = .next t) : t.Inv := by
  unfold execKeyChange at ht; cases ht
  with_reducible repeat' first | intro _ | assumption | apply State.keyCommand_inv | apply State.keyChange_inv | apply State.inv_ite | split | apply State.inv_mk

theorem execZeroize_inv {x1 : Initiator} {x2 : Fin 2} {s3 : State} (h3 : s3.Inv) {t : State} (ht : execZeroize x1 x2 s3 = .next t) : t.Inv := by
  unfold execZeroize at ht; cases ht
  with_reducible repeat' first | intro _ | assumption | apply State.keyCommand_inv | apply State.zeroize_inv | apply State.inv_ite | split | apply State.inv_mk

theorem execZeroizeAll_inv {x1 : Initiator} {s2 : State} (h2 : s2.Inv) {t : State} (ht : execZeroizeAll x1 s2 = .next t) : t.Inv := by
  unfold execZeroizeAll at ht; cases ht
  with_reducible repeat' first | intro _ | assumption | apply State.busError_inv | apply State.write_inv | apply State.zeroizeAll_inv | apply State.inv_ite | split | apply State.inv_mk

theorem execEncBlockBoundary_inv {x1 : Fin 8} {x2 : Bool} {s3 : State} (h3 : s3.Inv) {t : State} (ht : execEncBlockBoundary x1 x2 s3 = .next t) : t.Inv := by
  unfold execEncBlockBoundary at ht; cases ht
  with_reducible repeat' first | intro _ | assumption | apply State.blockBoundary_inv | apply State.inv_ite | split | apply State.inv_mk

theorem execAisWindowEnd_inv {x1 : Fin 8} {x2 : Fin 1280} {s3 : State} (h3 : s3.Inv) {t : State} (ht : execAisWindowEnd x1 x2 s3 = .next t) : t.Inv := by
  unfold execAisWindowEnd at ht; cases ht
  with_reducible repeat' first | intro _ | assumption | apply State.windowEnd_inv | apply State.inv_ite | split | apply State.inv_mk

theorem execClrLatch_inv {x1 : Initiator} {s2 : State} (h2 : s2.Inv) {t : State} (ht : execClrLatch x1 s2 = .next t) : t.Inv := by
  unfold execClrLatch at ht; cases ht
  with_reducible repeat' first | intro _ | assumption | apply State.busError_inv | apply State.reply_inv | apply State.write_inv | apply State.later_inv | apply State.inv_ite | split | apply State.inv_mk

theorem execInFrame_inv {x1 : RxUnit} {x2 : Nat} {s3 : State} (h3 : s3.Inv) {t : State} (ht : execInFrame x1 x2 s3 = .next t) : t.Inv := by
  unfold execInFrame at ht; cases ht
  with_reducible repeat' first | intro _ | assumption | apply State.inFrameAt_inv | apply State.startReceive_inv | apply State.inv_ite | split | apply State.inv_mk

end Sys2Proof.Machine
end

