-- ==== Sys2Proof/Laws/InvTide.lean ====
section
/-! SUPPORT. The invariant `State.Inv` through each function of Tide, Merge: one lemma per function, named after
it. -/

namespace Sys2Proof.Machine

set_option Elab.async false


theorem State.followLit_inv {s1 : State} {x2 : Nat} {x3 : Nat} (h1 : s1.Inv) : (State.followLit s1 x2 x3).Inv := by
  unfold State.followLit
  with_reducible repeat' first | intro _ | assumption | apply State.setDsCarrier_inv | apply State.inv_ite | split | apply State.inv_mk

theorem State.countTide_inv {s1 : State} {x2 : Nat} {x3 : Nat} {x4 : Nat} (h1 : s1.Inv) : (State.countTide s1 x2 x3 x4).Inv := by
  unfold State.countTide
  with_reducible repeat' first | intro _ | assumption | apply State.count_inv | apply State.inv_ite | split | apply State.inv_mk

theorem State.announce_inv {s1 : State} {x2 : Nat} (h1 : s1.Inv) : (State.announce s1 x2).Inv := by
  unfold State.announce
  with_reducible repeat' first | intro _ | assumption | apply State.setHub_inv | apply State.each_inv | apply State.countTide_inv | apply State.raise_inv | apply State.inv_ite | split | apply State.inv_mk

theorem State.requestBank_inv {s1 : State} {x2 : Nat} {x3 : Nat} (h1 : s1.Inv) : (State.requestBank s1 x2 x3).Inv := by
  unfold State.requestBank
  with_reducible repeat' first | intro _ | assumption | apply State.wr_inv | apply State.setHub_inv | apply State.inv_ite | split | apply State.inv_mk

theorem State.switchBank_inv {s1 : State} {x2 : Nat} (h1 : s1.Inv) : (State.switchBank s1 x2).Inv := by
  unfold State.switchBank
  with_reducible repeat' first | intro _ | assumption | apply State.wr_inv | apply State.setHub_inv | apply State.inv_ite | split | apply State.inv_mk

theorem State.modSc_inv {s1 : State} {x2 : Nat} {f3 : TideSc → TideSc} (h1 : s1.Inv) : (State.modSc s1 x2 f3).Inv := by
  unfold State.modSc
  with_reducible repeat' first | intro _ | assumption | apply h3 | apply State.setTideSc_inv | apply State.inv_ite | split | apply State.inv_mk

theorem State.modLeaf_inv {s1 : State} {x2 : Nat} {f3 : TideLeaf → TideLeaf} (h1 : s1.Inv) : (State.modLeaf s1 x2 f3).Inv := by
  unfold State.modLeaf
  with_reducible repeat' first | intro _ | assumption | apply h3 | apply State.setTideLeaf_inv | apply State.inv_ite | split | apply State.inv_mk

theorem State.powerDetect_inv {s1 : State} {x2 : Nat} {x3 : Nat} {x4 : Nat} {x5 : Nat} (h1 : s1.Inv) : (State.powerDetect s1 x2 x3 x4 x5).Inv := by
  unfold State.powerDetect
  with_reducible repeat' first | intro _ | assumption | apply State.modSc_inv | apply State.inv_ite | split | apply State.inv_mk

theorem State.syncAccept_inv {s1 : State} {x2 : Nat} {x3 : Nat} {x4 : Nat} {x5 : Nat} (h1 : s1.Inv) : (State.syncAccept s1 x2 x3 x4 x5).Inv := by
  unfold State.syncAccept
  with_reducible repeat' first | intro _ | assumption | apply State.modSc_inv | apply State.inv_ite | split | apply State.inv_mk

theorem State.dropBurst_inv {s1 : State} {x2 : Nat} {x3 : Nat} {x4 : Nat} {x5 : Field} {x6 : Nat} (h1 : s1.Inv) : (State.dropBurst s1 x2 x3 x4 x5 x6).Inv := by
  unfold State.dropBurst
  with_reducible repeat' first | intro _ | assumption | apply State.raise_inv | apply State.countTide_inv | apply State.modSc_inv | apply State.inv_ite | split | apply State.inv_mk

theorem State.burstHeader_inv {s1 : State} {x2 : Nat} {x3 : Nat} {x4 : Option BurstHeader} {x5 : Nat} (h1 : s1.Inv) : (State.burstHeader s1 x2 x3 x4 x5).Inv := by
  unfold State.burstHeader
  with_reducible repeat' first | intro _ | assumption | apply State.raise_inv | apply State.countTide_inv | apply State.modSc_inv | apply State.dropBurst_inv | apply State.wr_inv | apply State.setHub_inv | apply State.addTally_inv | apply State.wrBool_inv | apply State.modLeaf_inv | apply State.raiseIf_inv | apply State.inv_ite | split | apply State.inv_mk

theorem State.syncMiss_inv {s1 : State} {x2 : Nat} {x3 : Nat} {x4 : Nat} (h1 : s1.Inv) : (State.syncMiss s1 x2 x3 x4).Inv := by
  unfold State.syncMiss
  with_reducible repeat' first | intro _ | assumption | apply State.raise_inv | apply State.countTide_inv | apply State.modSc_inv | apply State.inv_ite | split | apply State.inv_mk

theorem State.powerRise_inv {s1 : State} {x2 : Nat} {x3 : Nat} {x4 : Nat} {x5 : Nat} {x6 : Int} (h1 : s1.Inv) : (State.powerRise s1 x2 x3 x4 x5 x6).Inv := by
  unfold State.powerRise
  with_reducible repeat' first | intro _ | assumption | apply State.raise_inv | apply State.countTide_inv | apply State.modSc_inv | apply State.inv_ite | split | apply State.inv_mk

theorem State.crateTick_inv {s1 : State} {x2 : Nat} {x3 : Nat} {x4 : CrateTick} (h1 : s1.Inv) : (State.crateTick s1 x2 x3 x4).Inv := by
  unfold State.crateTick
  with_reducible repeat' first | intro _ | assumption | apply State.raise_inv | apply State.countTide_inv | apply State.modLeaf_inv | apply State.inv_ite | split | apply State.inv_mk

theorem State.playout_inv {s1 : State} {x2 : Nat} {x3 : Nat} (h1 : s1.Inv) : (State.playout s1 x2 x3).Inv := by
  unfold State.playout
  with_reducible repeat' first | intro _ | assumption | apply State.modLeaf_inv | apply State.each_inv | apply State.setIngressBerth_inv | apply State.berthPointerWord_inv | apply State.countTide_inv | apply State.raise_inv | apply State.inv_ite | split | apply State.inv_mk

theorem State.leafLost_inv {s1 : State} {x2 : Nat} {x3 : Nat} (h1 : s1.Inv) : (State.leafLost s1 x2 x3).Inv := by
  unfold State.leafLost
  with_reducible repeat' first | intro _ | assumption | apply State.raise_inv | apply State.wr_inv | apply State.inv_ite | split | apply State.inv_mk

theorem State.showLimit_inv {s1 : State} {x2 : Nat} (h1 : s1.Inv) : (State.showLimit s1 x2).Inv := by
  unfold State.showLimit
  with_reducible repeat' first | intro _ | assumption | apply State.wrBool_inv | apply State.inv_ite | split | apply State.inv_mk

theorem State.startTol_inv {s1 : State} {x2 : Nat} (h1 : s1.Inv) : (State.startTol s1 x2).Inv := by
  unfold State.startTol
  with_reducible repeat' first | intro _ | assumption | apply State.each_inv | apply State.showLimit_inv | apply State.modSc_inv | apply State.wr_inv | apply State.inv_ite | split | apply State.inv_mk

theorem State.thrUpdate_inv {s1 : State} {x2 : Nat} (h1 : s1.Inv) : (State.thrUpdate s1 x2).Inv := by
  unfold State.thrUpdate
  with_reducible repeat' first | intro _ | assumption | apply State.each_inv | apply State.modSc_inv | apply State.raise_inv | apply State.showLimit_inv | apply State.wr_inv | apply State.inv_ite | split | apply State.inv_mk

theorem State.tideFloor_inv {s1 : State} {x2 : Nat} {x3 : Nat} {x4 : Nat} (h1 : s1.Inv) : (State.tideFloor s1 x2 x3 x4).Inv := by
  unfold State.tideFloor
  with_reducible repeat' first | intro _ | assumption | apply State.wr_inv | apply State.inv_ite | split | apply State.inv_mk

theorem State.setThreshold_inv {s1 : State} {x2 : Nat} {x3 : Nat} (h1 : s1.Inv) : (State.setThreshold s1 x2 x3).Inv := by
  unfold State.setThreshold
  with_reducible repeat' first | intro _ | assumption | apply State.wr_inv | apply State.showLimit_inv | apply State.modSc_inv | apply State.raiseIf_inv | apply State.inv_ite | split | apply State.inv_mk

theorem State.endWindows_inv {s1 : State} {x2 : Nat} (h1 : s1.Inv) : (State.endWindows s1 x2).Inv := by
  unfold State.endWindows
  with_reducible repeat' first | intro _ | assumption | apply State.setHub_inv | apply State.each_inv | apply State.modLeaf_inv | apply State.inv_ite | split | apply State.inv_mk

theorem State.playouts_inv {s1 : State} {x2 : Nat} (h1 : s1.Inv) : (State.playouts s1 x2).Inv := by
  unfold State.playouts
  with_reducible repeat' first | intro _ | assumption | apply State.each_inv | apply State.playout_inv | apply State.inv_ite | split | apply State.inv_mk

theorem State.tickTide_inv {s1 : State} {x2 : Nat} (h1 : s1.Inv) : (State.tickTide s1 x2).Inv := by
  unfold State.tickTide
  with_reducible repeat' first | intro _ | assumption | apply State.each_inv | apply State.followLit_inv | apply State.endWindows_inv | apply State.announce_inv | apply State.modSc_inv | apply State.setThreshold_inv | apply State.inv_ite | split | apply State.inv_mk

theorem execTdDsWrite_inv {x1 : Initiator} {x2 : Fin 65536} {s3 : State} (h3 : s3.Inv) {t : State} (ht : execTdDsWrite x1 x2 s3 = .next t) : t.Inv := by
  unfold execTdDsWrite at ht; cases ht
  with_reducible repeat' first | intro _ | assumption | apply State.atEngine_inv | apply State.write_inv | apply State.wr_inv | apply State.inv_ite | split | apply State.inv_mk

theorem execTdGsBankWrite_inv {x1 : Initiator} {x2 : Fin 2} {s3 : State} (h3 : s3.Inv) {t : State} (ht : execTdGsBankWrite x1 x2 s3 = .next t) : t.Inv := by
  unfold execTdGsBankWrite at ht; cases ht
  with_reducible repeat' first | intro _ | assumption | apply State.atEngine_inv | apply State.write_inv | apply State.requestBank_inv | apply State.inv_ite | split | apply State.inv_mk

theorem execGrantBankSwitch_inv {x1 : Fin 8} {s2 : State} (h2 : s2.Inv) {t : State} (ht : execGrantBankSwitch x1 s2 = .next t) : t.Inv := by
  unfold execGrantBankSwitch at ht; cases ht
  with_reducible repeat' first | intro _ | assumption | apply State.switchBank_inv | apply State.inv_ite | split | apply State.inv_mk

theorem execBurstPowerDetect_inv {x1 : Fin 8} {x2 : Fin 16} {x3 : Nat} {x4 : Nat} {s5 : State} (h5 : s5.Inv) {t : State} (ht : execBurstPowerDetect x1 x2 x3 x4 s5 = .next t) : t.Inv := by
  unfold execBurstPowerDetect at ht; cases ht
  with_reducible repeat' first | intro _ | assumption | apply State.powerDetect_inv | apply State.inv_ite | split | apply State.inv_mk

theorem execSyncAccept_inv {x1 : Fin 8} {x2 : Fin 16} {x3 : Nat} {x4 : Nat} {s5 : State} (h5 : s5.Inv) {t : State} (ht : execSyncAccept x1 x2 x3 x4 s5 = .next t) : t.Inv := by
  unfold execSyncAccept at ht; cases ht
  with_reducible repeat' first | intro _ | assumption | apply State.syncAccept_inv | apply State.inv_ite | split | apply State.inv_mk

theorem execBurstHeader_inv {x1 : Fin 8} {x2 : Fin 16} {x3 : Option BurstHeader} {x4 : Nat} {s5 : State} (h5 : s5.Inv) {t : State} (ht : execBurstHeader x1 x2 x3 x4 s5 = .next t) : t.Inv := by
  unfold execBurstHeader at ht; cases ht
  with_reducible repeat' first | intro _ | assumption | apply State.burstHeader_inv | apply State.inv_ite | split | apply State.inv_mk

theorem execSyncMiss_inv {x1 : Fin 8} {x2 : Fin 16} {x3 : Nat} {s4 : State} (h4 : s4.Inv) {t : State} (ht : execSyncMiss x1 x2 x3 s4 = .next t) : t.Inv := by
  unfold execSyncMiss at ht; cases ht
  with_reducible repeat' first | intro _ | assumption | apply State.syncMiss_inv | apply State.inv_ite | split | apply State.inv_mk

theorem execBurstPowerRise_inv {x1 : Fin 8} {x2 : Fin 16} {x3 : Nat} {x4 : Nat} {x5 : Int} {s6 : State} (h6 : s6.Inv) {t : State} (ht : execBurstPowerRise x1 x2 x3 x4 x5 s6 = .next t) : t.Inv := by
  unfold execBurstPowerRise at ht; cases ht
  with_reducible repeat' first | intro _ | assumption | apply State.powerRise_inv | apply State.inv_ite | split | apply State.inv_mk

theorem execCrateTickArrival_inv {x1 : Fin 8} {x2 : Fin 256} {x3 : CrateTick} {s4 : State} (h4 : s4.Inv) {t : State} (ht : execCrateTickArrival x1 x2 x3 s4 = .next t) : t.Inv := by
  unfold execCrateTickArrival at ht; cases ht
  with_reducible repeat' first | intro _ | assumption | apply State.crateTick_inv | apply State.inv_ite | split | apply State.inv_mk

theorem execLeafLost_inv {x1 : Fin 8} {x2 : Fin 256} {s3 : State} (h3 : s3.Inv) {t : State} (ht : execLeafLost x1 x2 s3 = .next t) : t.Inv := by
  unfold execLeafLost at ht; cases ht
  with_reducible repeat' first | intro _ | assumption | apply State.leafLost_inv | apply State.inv_ite | split | apply State.inv_mk

theorem execTideThrUpdate_inv {x1 : Fin 8} {s2 : State} (h2 : s2.Inv) {t : State} (ht : execTideThrUpdate x1 s2 = .next t) : t.Inv := by
  unfold execTideThrUpdate at ht; cases ht
  with_reducible repeat' first | intro _ | assumption | apply State.thrUpdate_inv | apply State.inv_ite | split | apply State.inv_mk

theorem execTdCntLoRead_inv {x1 : Initiator} {s2 : State} (h2 : s2.Inv) {t : State} (ht : execTdCntLoRead x1 s2 = .next t) : t.Inv := by
  unfold execTdCntLoRead at ht; cases ht
  with_reducible repeat' first | intro _ | assumption | apply State.atEngine_inv | apply State.readLatched_inv | apply State.inv_ite | split | apply State.inv_mk

theorem State.modMerge_inv {s1 : State} {x2 : Nat} {f3 : MergeGroup → MergeGroup} (h1 : s1.Inv) : (State.modMerge s1 x2 f3).Inv := by
  unfold State.modMerge
  with_reducible repeat' first | intro _ | assumption | apply h3 | apply State.setMerge_inv | apply State.inv_ite | split | apply State.inv_mk

theorem State.showGroup_inv {s1 : State} {x2 : Nat} (h1 : s1.Inv) : (State.showGroup s1 x2).Inv := by
  unfold State.showGroup
  with_reducible repeat' first | intro _ | assumption | apply State.wrBool_inv | apply State.wr_inv | apply State.inv_ite | split | apply State.inv_mk

theorem State.enterMerge_inv {s1 : State} {x2 : Nat} {x3 : MergeState} (h1 : s1.Inv) : (State.enterMerge s1 x2 x3).Inv := by
  unfold State.enterMerge
  with_reducible repeat' first | intro _ | assumption | apply State.modMerge_inv | apply State.raiseIf_inv | apply State.showGroup_inv | apply State.inv_ite | split | apply State.inv_mk

theorem State.groupDown_inv {s1 : State} {x2 : Nat} (h1 : s1.Inv) : (State.groupDown s1 x2).Inv := by
  unfold State.groupDown
  with_reducible repeat' first | intro _ | assumption | apply State.modMerge_inv | apply State.enterMerge_inv | apply State.inv_ite | split | apply State.inv_mk

theorem State.realign_inv {s1 : State} {x2 : Nat} (h1 : s1.Inv) : (State.realign s1 x2).Inv := by
  unfold State.realign
  with_reducible repeat' first | intro _ | assumption | apply State.modMerge_inv | apply State.raise_inv | apply State.count_inv | apply State.enterMerge_inv | apply State.inv_ite | split | apply State.inv_mk

theorem State.deliverKey_inv {s1 : State} {x2 : Nat} {x3 : Bool} {x4 : Delivery} (h1 : s1.Inv) : (State.deliverKey s1 x2 x3 x4).Inv := by
  unfold State.deliverKey
  with_reducible repeat' first | intro _ | assumption | apply State.modMerge_inv | apply State.wr_inv | apply State.enterMerge_inv | apply State.inv_ite | split | apply State.inv_mk

theorem State.jumpInst_inv {s1 : State} {x2 : Nat} {x3 : Bool} (h1 : s1.Inv) : (State.jumpInst s1 x2 x3).Inv := by
  unfold State.jumpInst
  with_reducible repeat' first | intro _ | assumption | apply State.modMerge_inv | apply State.inv_ite | split | apply State.inv_mk

theorem State.mergeAligned_inv {s1 : State} {x2 : Nat} (h1 : s1.Inv) : (State.mergeAligned s1 x2).Inv := by
  unfold State.mergeAligned
  with_reducible repeat' first | intro _ | assumption | apply State.modMerge_inv | apply State.enterMerge_inv | apply State.inv_ite | split | apply State.inv_mk

theorem State.waitExpiry_inv {s1 : State} {x2 : Nat} (h1 : s1.Inv) : (State.waitExpiry s1 x2).Inv := by
  unfold State.waitExpiry
  with_reducible repeat' first | intro _ | assumption | apply State.groupDown_inv | apply State.modMerge_inv | apply State.enterMerge_inv | apply State.inv_ite | split | apply State.inv_mk

theorem State.mergeDown_inv {s1 : State} {x2 : Nat} (h1 : s1.Inv) : (State.mergeDown s1 x2).Inv := by
  unfold State.mergeDown
  with_reducible repeat' first | intro _ | assumption | apply State.groupDown_inv | apply State.inv_ite | split | apply State.inv_mk

theorem State.realignNoUsable_inv {s1 : State} {x2 : Nat} (h1 : s1.Inv) : (State.realignNoUsable s1 x2).Inv := by
  unfold State.realignNoUsable
  with_reducible repeat' first | intro _ | assumption | apply State.realign_inv | apply State.inv_ite | split | apply State.inv_mk

theorem State.realignAuto_inv {s1 : State} {x2 : Nat} (h1 : s1.Inv) : (State.realignAuto s1 x2).Inv := by
  unfold State.realignAuto
  with_reducible repeat' first | intro _ | assumption | apply State.realign_inv | apply State.inv_ite | split | apply State.inv_mk

theorem State.mergedSsf_inv {s1 : State} {x2 : Nat} (h1 : s1.Inv) : (State.mergedSsf s1 x2).Inv := by
  unfold State.mergedSsf
  with_reducible repeat' first | intro _ | assumption | apply State.modMerge_inv | apply State.missContexts_inv | apply State.inv_ite | split | apply State.inv_mk

theorem State.missedFrame_inv {s1 : State} {x2 : Nat} (h1 : s1.Inv) : (State.missedFrame s1 x2).Inv := by
  unfold State.missedFrame
  with_reducible repeat' first | intro _ | assumption | apply State.mergedSsf_inv | apply State.inv_ite | split | apply State.inv_mk

theorem State.outputFrame_inv {s1 : State} {x2 : Nat} {x3 : List Nat} {x4 : Option Delivery} (h1 : s1.Inv) : (State.outputFrame s1 x2 x3 x4).Inv := by
  unfold State.outputFrame
  with_reducible repeat' first | intro _ | assumption | apply State.readShared_inv | apply State.aisSlots_inv | apply State.readEnc_inv | apply State.inv_ite | split | apply State.inv_mk

theorem State.countTaken_inv {s1 : State} {x2 : Nat} {x3 : Nat} {x4 : Nat} {x5 : Nat} {x6 : Nat} (h1 : s1.Inv) : (State.countTaken s1 x2 x3 x4 x5 x6).Inv := by
  unfold State.countTaken
  with_reducible repeat' first | intro _ | assumption | apply State.count_inv | apply State.addTally_inv | apply State.raiseIf_inv | apply State.inv_ite | split | apply State.inv_mk

theorem State.outputLine_inv {s1 : State} {x2 : Nat} {x3 : Nat} {x4 : Nat} (h1 : s1.Inv) : (State.outputLine s1 x2 x3 x4).Inv := by
  unfold State.outputLine
  split
  next a b _ =>
  apply State.inv_ite (State.mergedSsf_inv h1)
  split
  next choices useB _ =>
  apply State.outputFrame_inv
  apply State.countTaken_inv
  apply State.modMerge_inv
  assumption

theorem State.outputTrain_inv {s1 : State} {x2 : Nat} {x3 : Nat} {x4 : Nat} (h1 : s1.Inv) : (State.outputTrain s1 x2 x3 x4).Inv := by
  unfold State.outputTrain
  with_reducible repeat' first | intro _ | assumption | apply State.modMerge_inv | apply State.countTaken_inv | apply State.inv_ite | split | apply State.inv_mk

theorem State.outputKey_inv {s1 : State} {x2 : Nat} {x3 : Nat} {x4 : Nat} (h1 : s1.Inv) : (State.outputKey s1 x2 x3 x4).Inv := by
  unfold State.outputKey
  with_reducible repeat' first | intro _ | assumption | apply State.wrBool_inv | apply State.modMerge_inv | apply State.outputLine_inv | apply State.outputTrain_inv | apply State.showGroup_inv | apply State.inv_ite | split | apply State.inv_mk

theorem State.keyDecision_inv {s1 : State} {x2 : Nat} (h1 : s1.Inv) : (State.keyDecision s1 x2).Inv := by
  unfold State.keyDecision
  with_reducible repeat' first | intro _ | assumption | apply State.outputKey_inv | apply State.modMerge_inv | apply State.inv_ite | split | apply State.inv_mk

theorem State.dHeldLoad_inv {s1 : State} {x2 : Nat} (h1 : s1.Inv) : (State.dHeldLoad s1 x2).Inv := by
  unfold State.dHeldLoad
  with_reducible repeat' first | intro _ | assumption | apply State.showGroup_inv | apply State.modMerge_inv | apply State.inv_ite | split | apply State.inv_mk

theorem State.lateEarly_inv {s1 : State} {x2 : Nat} (h1 : s1.Inv) : (State.lateEarly s1 x2).Inv := by
  unfold State.lateEarly
  with_reducible repeat' first | intro _ | assumption | apply State.showGroup_inv | apply State.modMerge_inv | apply State.raiseIf_inv | apply State.inv_ite | split | apply State.inv_mk

theorem State.selectorDecides_inv {s1 : State} {x2 : Nat} (h1 : s1.Inv) : (State.selectorDecides s1 x2).Inv := by
  unfold State.selectorDecides
  with_reducible repeat' first | intro _ | assumption | apply State.modMerge_inv | apply State.wr_inv | apply State.showGroup_inv | apply State.setReg_inv | apply State.later_inv | apply State.inv_ite | split | apply State.inv_mk

theorem State.mgSelect_inv {s1 : State} {x2 : Nat} (h1 : s1.Inv) : (State.mgSelect s1 x2).Inv := by
  unfold State.mgSelect
  with_reducible repeat' first | intro _ | assumption | apply State.modMerge_inv | apply State.count_inv | apply State.raise_inv | apply State.showGroup_inv | apply State.inv_ite | split | apply State.inv_mk

theorem State.applyHoldOff_inv {s1 : State} {x2 : Nat} (h1 : s1.Inv) : (State.applyHoldOff s1 x2).Inv := by
  unfold State.applyHoldOff
  with_reducible repeat' first | intro _ | assumption | apply State.selectorDecides_inv | apply State.modMerge_inv | apply State.inv_ite | split | apply State.inv_mk

theorem State.instantRequests_inv {s1 : State} {x2 : Nat} (h1 : s1.Inv) : (State.instantRequests s1 x2).Inv := by
  unfold State.instantRequests
  with_reducible repeat' first | intro _ | assumption | apply State.modMerge_inv | apply State.selectorDecides_inv | apply State.inv_ite | split | apply State.inv_mk

theorem State.mgUse_inv {s1 : State} {x2 : Nat} {x3 : Bool} (h1 : s1.Inv) : (State.mgUse s1 x2 x3).Inv := by
  unfold State.mgUse
  with_reducible repeat' first | intro _ | assumption | apply State.modMerge_inv | apply State.showGroup_inv | apply State.inv_ite | split | apply State.inv_mk

theorem State.holdOffExpiry_inv {s1 : State} {x2 : Nat} (h1 : s1.Inv) : (State.holdOffExpiry s1 x2).Inv := by
  unfold State.holdOffExpiry
  with_reducible repeat' first | intro _ | assumption | apply State.applyHoldOff_inv | apply State.inv_ite | split | apply State.inv_mk

theorem State.wtrExpiry_inv {s1 : State} {x2 : Nat} (h1 : s1.Inv) : (State.wtrExpiry s1 x2).Inv := by
  unfold State.wtrExpiry
  with_reducible repeat' first | intro _ | assumption | apply State.selectorDecides_inv | apply State.modMerge_inv | apply State.inv_ite | split | apply State.inv_mk

theorem State.instanceTick_inv {s1 : State} {x2 : Nat} {x3 : Bool} {x4 : Option Nat} {x5 : Bool} {x6 : Bool} {x7 : Bool} {x8 : List (Nat × Bool)} (h1 : s1.Inv) : (State.instanceTick s1 x2 x3 x4 x5 x6 x7 x8).Inv := by
  unfold State.instanceTick
  with_reducible repeat' first | intro _ | assumption | apply State.modMerge_inv | apply State.jumpInst_inv | apply State.deliverKey_inv | apply State.inv_ite | split | apply State.inv_mk

theorem State.presentTrain_inv {s1 : State} {x2 : Nat} (h1 : s1.Inv) : (State.presentTrain s1 x2).Inv := by
  unfold State.presentTrain
  with_reducible repeat' first | intro _ | assumption | apply State.each_inv | apply State.setIngressBerth_inv | apply State.modMerge_inv | apply State.inv_ite | split | apply State.inv_mk

theorem State.tickMerge_inv {s1 : State} {x2 : Nat} (h1 : s1.Inv) : (State.tickMerge s1 x2).Inv := by
  unfold State.tickMerge
  with_reducible repeat' first | intro _ | assumption | apply State.modMerge_inv | apply State.instantRequests_inv | apply State.inv_ite | split | apply State.inv_mk

theorem State.mergeSecond_inv {s1 : State} {x2 : Nat} (h1 : s1.Inv) : (State.mergeSecond s1 x2).Inv := by
  unfold State.mergeSecond
  with_reducible repeat' first | intro _ | assumption | apply State.modMerge_inv | apply State.inv_ite | split | apply State.inv_mk

theorem State.frameDelivered_inv {s1 : State} {x2 : Nat} {x3 : Overhead} {x4 : Nat} {x5 : List Nat} {x6 : EncArea} (h1 : s1.Inv) : (State.frameDelivered s1 x2 x3 x4 x5 x6).Inv := by
  unfold State.frameDelivered
  with_reducible repeat' first | intro _ | assumption | apply State.deliverFrame_inv | apply State.deliverKey_inv | apply State.readEnc_inv | apply State.inv_ite | split | apply State.inv_mk

theorem State.apsAccept_inv {s1 : State} {x2 : Nat} {x3 : Nat} (h1 : s1.Inv) : (State.apsAccept s1 x2 x3).Inv := by
  unfold State.apsAccept
  with_reducible repeat' first | intro _ | assumption | apply State.raise_inv | apply State.selectorDecides_inv | apply State.wr_inv | apply State.setReg_inv | apply State.inv_ite | split | apply State.inv_mk

theorem State.acceptTaps_inv {s1 : State} {x2 : Nat} {x3 : Nat} (h1 : s1.Inv) : (State.acceptTaps s1 x2 x3).Inv := by
  unfold State.acceptTaps
  with_reducible repeat' first | intro _ | assumption | apply State.setTapsAcc_inv | apply State.apsAccept_inv | apply State.inv_ite | split | apply State.inv_mk

theorem State.acceptLaps_inv {s1 : State} {x2 : Nat} (h1 : s1.Inv) : (State.acceptLaps s1 x2).Inv := by
  unfold State.acceptLaps
  with_reducible repeat' first | intro _ | assumption | apply State.modFrame_inv | apply State.apsAccept_inv | apply State.inv_ite | split | apply State.inv_mk

theorem execFrameDelivered_inv {x1 : RxUnit} {x2 : Overhead} {x3 : Fin 17} {x4 : List Nat} {x5 : EncArea} {s6 : State} (h6 : s6.Inv) {t : State} (ht : execFrameDelivered x1 x2 x3 x4 x5 s6 = .next t) : t.Inv := by
  unfold execFrameDelivered at ht; cases ht
  with_reducible repeat' first | intro _ | assumption | apply State.atUnit_inv | apply State.frameDelivered_inv | apply State.inv_ite | split | apply State.inv_mk

theorem execFnoJump_inv {x1 : RxUnit} {s2 : State} (h2 : s2.Inv) {t : State} (ht : execFnoJump x1 s2 = .next t) : t.Inv := by
  unfold execFnoJump at ht; cases ht
  with_reducible repeat' first | intro _ | assumption | apply State.atUnit_inv | apply State.fnoJump_inv | apply State.jumpInst_inv | apply State.inv_ite | split | apply State.inv_mk

theorem execTapsAccept_inv {x1 : RxUnit} {x2 : Fin 2048} {s3 : State} (h3 : s3.Inv) {t : State} (ht : execTapsAccept x1 x2 s3 = .next t) : t.Inv := by
  unfold execTapsAccept at ht; cases ht
  with_reducible repeat' first | intro _ | assumption | apply State.atUnit_inv | apply State.acceptTaps_inv | apply State.inv_ite | split | apply State.inv_mk

theorem execLapsAccept_inv {x1 : RxUnit} {s2 : State} (h2 : s2.Inv) {t : State} (ht : execLapsAccept x1 s2 = .next t) : t.Inv := by
  unfold execLapsAccept at ht; cases ht
  with_reducible repeat' first | intro _ | assumption | apply State.atUnit_inv | apply State.acceptLaps_inv | apply State.inv_ite | split | apply State.inv_mk

theorem execMergeKeyDecision_inv {x1 : Fin 2048} {s2 : State} (h2 : s2.Inv) {t : State} (ht : execMergeKeyDecision x1 s2 = .next t) : t.Inv := by
  unfold execMergeKeyDecision at ht; cases ht
  with_reducible repeat' first | intro _ | assumption | apply State.keyDecision_inv | apply State.inv_ite | split | apply State.inv_mk

theorem execMergeDheldLoad_inv {x1 : Fin 2048} {s2 : State} (h2 : s2.Inv) {t : State} (ht : execMergeDheldLoad x1 s2 = .next t) : t.Inv := by
  unfold execMergeDheldLoad at ht; cases ht
  with_reducible repeat' first | intro _ | assumption | apply State.dHeldLoad_inv | apply State.inv_ite | split | apply State.inv_mk

theorem execMergeLateEarly_inv {x1 : Fin 2048} {s2 : State} (h2 : s2.Inv) {t : State} (ht : execMergeLateEarly x1 s2 = .next t) : t.Inv := by
  unfold execMergeLateEarly at ht; cases ht
  with_reducible repeat' first | intro _ | assumption | apply State.lateEarly_inv | apply State.inv_ite | split | apply State.inv_mk

theorem execMergeDown_inv {x1 : Fin 2048} {s2 : State} (h2 : s2.Inv) {t : State} (ht : execMergeDown x1 s2 = .next t) : t.Inv := by
  unfold execMergeDown at ht; cases ht
  with_reducible repeat' first | intro _ | assumption | apply State.mergeDown_inv | apply State.inv_ite | split | apply State.inv_mk

theorem execMergeWaitExpiry_inv {x1 : Fin 2048} {s2 : State} (h2 : s2.Inv) {t : State} (ht : execMergeWaitExpiry x1 s2 = .next t) : t.Inv := by
  unfold execMergeWaitExpiry at ht; cases ht
  with_reducible repeat' first | intro _ | assumption | apply State.waitExpiry_inv | apply State.inv_ite | split | apply State.inv_mk

theorem execMergeAligned_inv {x1 : Fin 2048} {s2 : State} (h2 : s2.Inv) {t : State} (ht : execMergeAligned x1 s2 = .next t) : t.Inv := by
  unfold execMergeAligned at ht; cases ht
  with_reducible repeat' first | intro _ | assumption | apply State.mergeAligned_inv | apply State.inv_ite | split | apply State.inv_mk

theorem execRealignNoUsable_inv {x1 : Fin 2048} {s2 : State} (h2 : s2.Inv) {t : State} (ht : execRealignNoUsable x1 s2 = .next t) : t.Inv := by
  unfold execRealignNoUsable at ht; cases ht
  with_reducible repeat' first | intro _ | assumption | apply State.realignNoUsable_inv | apply State.inv_ite | split | apply State.inv_mk

theorem execRealignAuto_inv {x1 : Fin 2048} {s2 : State} (h2 : s2.Inv) {t : State} (ht : execRealignAuto x1 s2 = .next t) : t.Inv := by
  unfold execRealignAuto at ht; cases ht
  with_reducible repeat' first | intro _ | assumption | apply State.realignAuto_inv | apply State.inv_ite | split | apply State.inv_mk

theorem execHoldoffExpiry_inv {x1 : Fin 2048} {s2 : State} (h2 : s2.Inv) {t : State} (ht : execHoldoffExpiry x1 s2 = .next t) : t.Inv := by
  unfold execHoldoffExpiry at ht; cases ht
  with_reducible repeat' first | intro _ | assumption | apply State.holdOffExpiry_inv | apply State.inv_ite | split | apply State.inv_mk

theorem execWtrExpiry_inv {x1 : Fin 2048} {s2 : State} (h2 : s2.Inv) {t : State} (ht : execWtrExpiry x1 s2 = .next t) : t.Inv := by
  unfold execWtrExpiry at ht; cases ht
  with_reducible repeat' first | intro _ | assumption | apply State.wtrExpiry_inv | apply State.inv_ite | split | apply State.inv_mk

theorem execMgRealign_inv {x1 : Initiator} {s2 : State} (h2 : s2.Inv) {t : State} (ht : execMgRealign x1 s2 = .next t) : t.Inv := by
  unfold execMgRealign at ht; cases ht
  with_reducible repeat' first | intro _ | assumption | apply State.write_inv | apply State.later_inv | apply State.inv_ite | split | apply State.inv_mk

theorem State.mgCmd_inv {s1 : State} {x2 : Nat} {x3 : Nat} (h1 : s1.Inv) : (State.mgCmd s1 x2 x3).Inv := by
  unfold State.mgCmd
  with_reducible repeat' first | intro _ | assumption | apply State.wr_inv | apply State.later_inv | apply State.inv_ite | split | apply State.inv_mk

theorem State.writeCmd_inv {s1 : State} {x2 : Initiator} {x3 : Nat} (h1 : s1.Inv) : (State.writeCmd s1 x2 x3).Inv := by
  unfold State.writeCmd
  with_reducible repeat' first | intro _ | assumption | apply State.write_inv | apply State.mgCmd_inv | apply State.inv_ite | split | apply State.inv_mk

theorem execMgCmdLo_inv {x1 : Initiator} {s2 : State} (h2 : s2.Inv) {t : State} (ht : execMgCmdLo x1 s2 = .next t) : t.Inv := by
  unfold execMgCmdLo at ht; cases ht
  with_reducible repeat' first | intro _ | assumption | apply State.writeCmd_inv | apply State.inv_ite | split | apply State.inv_mk

theorem execMgCmdFs_inv {x1 : Initiator} {s2 : State} (h2 : s2.Inv) {t : State} (ht : execMgCmdFs x1 s2 = .next t) : t.Inv := by
  unfold execMgCmdFs at ht; cases ht
  with_reducible repeat' first | intro _ | assumption | apply State.writeCmd_inv | apply State.inv_ite | split | apply State.inv_mk

theorem execMgCmdMsA_inv {x1 : Initiator} {s2 : State} (h2 : s2.Inv) {t : State} (ht : execMgCmdMsA x1 s2 = .next t) : t.Inv := by
  unfold execMgCmdMsA at ht; cases ht
  with_reducible repeat' first | intro _ | assumption | apply State.writeCmd_inv | apply State.inv_ite | split | apply State.inv_mk

theorem execMgCmdMsB_inv {x1 : Initiator} {s2 : State} (h2 : s2.Inv) {t : State} (ht : execMgCmdMsB x1 s2 = .next t) : t.Inv := by
  unfold execMgCmdMsB at ht; cases ht
  with_reducible repeat' first | intro _ | assumption | apply State.writeCmd_inv | apply State.inv_ite | split | apply State.inv_mk

theorem execMgCmdClear_inv {x1 : Initiator} {s2 : State} (h2 : s2.Inv) {t : State} (ht : execMgCmdClear x1 s2 = .next t) : t.Inv := by
  unfold execMgCmdClear at ht; cases ht
  with_reducible repeat' first | intro _ | assumption | apply State.writeCmd_inv | apply State.inv_ite | split | apply State.inv_mk

theorem execMgCntLoRead_inv {x1 : Initiator} {s2 : State} (h2 : s2.Inv) {t : State} (ht : execMgCntLoRead x1 s2 = .next t) : t.Inv := by
  unfold execMgCntLoRead at ht; cases ht
  with_reducible repeat' first | intro _ | assumption | apply State.readLatched_inv | apply State.inv_ite | split | apply State.inv_mk

end Sys2Proof.Machine
end

