-- ==== Sys2Proof/Laws/InvTiming.lean ====
section
/-! SUPPORT. The invariant `State.Inv` through each function of Timing, Memories: one lemma per function, named after
it. -/

namespace Sys2Proof.Machine

set_option Elab.async false

theorem State.fillFreq_inv {s1 : State} {x2 : Nat} (h1 : s1.Inv) : (State.fillFreq s1 x2).Inv := by
  unfold State.fillFreq
  with_reducible repeat' first | intro _ | assumption | apply State.wr_inv | apply State.inv_ite | split | apply State.inv_mk


theorem State.disqualify_inv {s1 : State} {x2 : Nat} (h1 : s1.Inv) : (State.disqualify s1 x2).Inv := by
  unfold State.disqualify
  with_reducible repeat' first | intro _ | assumption | apply State.raiseIf_inv | apply State.setTimeRef_inv | apply State.wr_inv | apply State.inv_ite | split | apply State.inv_mk

theorem State.refLos_inv {s1 : State} {x2 : Nat} (h1 : s1.Inv) : (State.refLos s1 x2).Inv := by
  unfold State.refLos
  with_reducible repeat' first | intro _ | assumption | apply State.raise_inv | apply State.disqualify_inv | apply State.wr_inv | apply State.inv_ite | split | apply State.inv_mk

theorem State.refWindow_inv {s1 : State} {x2 : Nat} {x3 : Int} (h1 : s1.Inv) : (State.refWindow s1 x2 x3).Inv := by
  unfold State.refWindow
  with_reducible repeat' first | intro _ | assumption | apply State.wr_inv | apply State.disqualify_inv | apply State.setTimeRef_inv | apply State.inv_ite | split | apply State.inv_mk

theorem State.refQualify_inv {s1 : State} {x2 : Nat} (h1 : s1.Inv) : (State.refQualify s1 x2).Inv := by
  unfold State.refQualify
  with_reducible repeat' first | intro _ | assumption | apply State.wr_inv | apply State.inv_ite | split | apply State.inv_mk

theorem State.refreshQl_inv {s1 : State} {x2 : Nat} (h1 : s1.Inv) : (State.refreshQl s1 x2).Inv := by
  unfold State.refreshQl
  with_reducible repeat' first | intro _ | assumption | apply State.wr_inv | apply State.inv_ite | split | apply State.inv_mk

theorem State.dpllSelect_inv {s1 : State} {x2 : Bool} (h1 : s1.Inv) : (State.dpllSelect s1 x2).Inv := by
  unfold State.dpllSelect
  with_reducible repeat' first | intro _ | assumption | apply State.wr_inv | apply State.draw_inv | apply State.raiseIf_inv | apply State.raise_inv | apply State.inv_ite | split | apply State.inv_mk

theorem State.dpllLocked_inv {s1 : State} {x2 : Bool} {x3 : Nat} (h1 : s1.Inv) : (State.dpllLocked s1 x2 x3).Inv := by
  unfold State.dpllLocked
  with_reducible repeat' first | intro _ | assumption | apply State.wr_inv | apply State.inv_ite | split | apply State.inv_mk

theorem State.modTime_inv {s1 : State} {f2 : TimePll → TimePll} (h1 : s1.Inv) : (State.modTime s1 f2).Inv := by
  unfold State.modTime
  with_reducible repeat' first | intro _ | assumption | apply h2 | apply State.inv_ite | split | apply State.inv_mk

theorem State.modSource_inv {s1 : State} {x2 : Nat} {f3 : TimeSource → TimeSource} (h1 : s1.Inv) : (State.modSource s1 x2 f3).Inv := by
  unfold State.modSource
  with_reducible repeat' first | intro _ | assumption | apply h3 | apply State.setTimeSource_inv | apply State.inv_ite | split | apply State.inv_mk

theorem State.announceClass_inv {s1 : State} (h1 : s1.Inv) : (State.announceClass s1).Inv := by
  unfold State.announceClass
  with_reducible repeat' first | intro _ | assumption | apply State.wr_inv | apply State.inv_ite | split | apply State.inv_mk

theorem State.tickTime_inv {s1 : State} (h1 : s1.Inv) : (State.tickTime s1).Inv := by
  unfold State.tickTime
  with_reducible repeat' first | intro _ | assumption | apply State.modTime_inv | apply State.wr_inv | apply State.announceClass_inv | apply State.inv_ite | split | apply State.inv_mk

theorem State.invarTick_inv {s1 : State} {x2 : Nat} {x3 : Int} (h1 : s1.Inv) : (State.invarTick s1 x2 x3).Inv := by
  unfold State.invarTick
  with_reducible repeat' first | intro _ | assumption | apply State.modTime_inv | apply State.wr_inv | apply State.raise_inv | apply State.announceClass_inv | apply State.inv_ite | split | apply State.inv_mk

theorem State.tickOutPulse_inv {s1 : State} (h1 : s1.Inv) : (State.tickOutPulse s1).Inv := by
  unfold State.tickOutPulse
  with_reducible repeat' first | intro _ | assumption | apply State.send_inv | apply State.inv_ite | split | apply State.inv_mk

theorem State.refreshSource_inv {s1 : State} {x2 : Nat} (h1 : s1.Inv) : (State.refreshSource s1 x2).Inv := by
  unfold State.refreshSource
  with_reducible repeat' first | intro _ | assumption | apply State.wr_inv | apply State.wrBool_inv | apply State.inv_ite | split | apply State.inv_mk

theorem State.removeOffset_inv {s1 : State} {x2 : Int} (h1 : s1.Inv) : (State.removeOffset s1 x2).Inv := by
  unfold State.removeOffset
  with_reducible repeat' first | intro _ | assumption | apply State.modTime_inv | apply State.raiseIf_inv | apply State.inv_ite | split | apply State.inv_mk

theorem State.timeDecision_inv {s1 : State} {x2 : List (Nat × Int)} {x3 : Int} (h1 : s1.Inv) : (State.timeDecision s1 x2 x3).Inv := by
  unfold State.timeDecision
  with_reducible repeat' first | intro _ | assumption | apply State.each_inv | apply State.refreshSource_inv | apply State.wr_inv | apply State.wrBool_inv | apply State.modTime_inv | apply State.announceClass_inv | apply State.raise_inv | apply State.raiseIf_inv | apply State.removeOffset_inv | apply State.inv_ite | split | apply State.inv_mk

theorem State.timeLocked_inv {s1 : State} (h1 : s1.Inv) : (State.timeLocked s1).Inv := by
  unfold State.timeLocked
  with_reducible repeat' first | intro _ | assumption | apply State.announceClass_inv | apply State.modTime_inv | apply State.wr_inv | apply State.inv_ite | split | apply State.inv_mk

theorem State.ppsEdge_inv {s1 : State} {x2 : Nat} {x3 : Stamp} (h1 : s1.Inv) : (State.ppsEdge s1 x2 x3).Inv := by
  unfold State.ppsEdge
  with_reducible repeat' first | intro _ | assumption | apply State.modSource_inv | apply State.modTime_inv | apply State.wr_inv | apply State.inv_ite | split | apply State.inv_mk

theorem State.ppsMiss_inv {s1 : State} {x2 : Nat} (h1 : s1.Inv) : (State.ppsMiss s1 x2).Inv := by
  unfold State.ppsMiss
  with_reducible repeat' first | intro _ | assumption | apply State.raise_inv | apply State.wr_inv | apply State.modSource_inv | apply State.inv_ite | split | apply State.inv_mk

theorem State.todMessage_inv {s1 : State} {x2 : List Byte} (h1 : s1.Inv) : (State.todMessage s1 x2).Inv := by
  unfold State.todMessage
  with_reducible repeat' first | intro _ | assumption | apply State.raise_inv | apply State.modTime_inv | apply State.inv_ite | split | apply State.inv_mk

theorem State.ppsOutEdge_inv {s1 : State} (h1 : s1.Inv) : (State.ppsOutEdge s1).Inv := by
  unfold State.ppsOutEdge
  with_reducible repeat' first | intro _ | assumption | apply State.modTime_inv | apply State.send_inv | apply State.inv_ite | split | apply State.inv_mk

theorem State.todSend_inv {s1 : State} (h1 : s1.Inv) : (State.todSend s1).Inv := by
  unfold State.todSend
  with_reducible repeat' first | intro _ | assumption | apply State.send_inv | apply State.modTime_inv | apply State.inv_ite | split | apply State.inv_mk

theorem State.tickInEdge_inv {s1 : State} {x2 : Int} (h1 : s1.Inv) : (State.tickInEdge s1 x2).Inv := by
  unfold State.tickInEdge
  with_reducible repeat' first | intro _ | assumption | apply State.modTime_inv | apply State.inv_ite | split | apply State.inv_mk

theorem State.swMeasure_inv {s1 : State} {x2 : Word} (h1 : s1.Inv) : (State.swMeasure s1 x2).Inv := by
  unfold State.swMeasure
  with_reducible repeat' first | intro _ | assumption | apply State.wr_inv | apply State.modSource_inv | apply State.inv_ite | split | apply State.inv_mk

theorem State.swTimeout_inv {s1 : State} (h1 : s1.Inv) : (State.swTimeout s1).Inv := by
  unfold State.swTimeout
  with_reducible repeat' first | intro _ | assumption | apply State.wr_inv | apply State.modSource_inv | apply State.inv_ite | split | apply State.inv_mk

theorem State.ttLoad_inv {s1 : State} {x2 : Nat} {x3 : Stamp} {x4 : Option (Nat × Stamp)} (h1 : s1.Inv) : (State.ttLoad s1 x2 x3 x4).Inv := by
  unfold State.ttLoad
  with_reducible repeat' first | intro _ | assumption | apply State.modFrame_inv | apply State.modSource_inv | apply State.inv_ite | split | apply State.inv_mk

theorem State.publishLength_inv {s1 : State} {x2 : Nat} {x3 : Int} (h1 : s1.Inv) : (State.publishLength s1 x2 x3).Inv := by
  unfold State.publishLength
  with_reducible repeat' first | intro _ | assumption | apply State.draw_inv | apply State.wr_inv | apply State.inv_ite | split | apply State.inv_mk

theorem State.exchange_inv {s1 : State} {x2 : Nat} {x3 : TtContent} (h1 : s1.Inv) : (State.exchange s1 x2 x3).Inv := by
  unfold State.exchange
  with_reducible repeat' first | intro _ | assumption | apply State.modSource_inv | apply State.wr_inv | apply State.publishLength_inv | apply State.wrBool_inv | apply State.raiseIf_inv | apply State.inv_ite | split | apply State.inv_mk

theorem State.ttAccept_inv {s1 : State} {x2 : Nat} (h1 : s1.Inv) : (State.ttAccept s1 x2).Inv := by
  unfold State.ttAccept
  with_reducible repeat' first | intro _ | assumption | apply State.modFrame_inv | apply State.exchange_inv | apply State.inv_ite | split | apply State.inv_mk

theorem State.asymLearned_inv {s1 : State} {x2 : Nat} (h1 : s1.Inv) : (State.asymLearned s1 x2).Inv := by
  unfold State.asymLearned
  with_reducible repeat' first | intro _ | assumption | apply State.wr_inv | apply State.inv_ite | split | apply State.inv_mk

theorem State.learnAgain_inv {s1 : State} {x2 : Nat} (h1 : s1.Inv) : (State.learnAgain s1 x2).Inv := by
  unfold State.learnAgain
  with_reducible repeat' first | intro _ | assumption | apply State.wr_inv | apply State.modSource_inv | apply State.inv_ite | split | apply State.inv_mk

theorem State.invarLearned_inv {s1 : State} (h1 : s1.Inv) : (State.invarLearned s1).Inv := by
  unfold State.invarLearned
  with_reducible repeat' first | intro _ | assumption | apply State.wr_inv | apply State.inv_ite | split | apply State.inv_mk

theorem State.resetModel_inv {s1 : State} (h1 : s1.Inv) : (State.resetModel s1).Inv := by
  unfold State.resetModel
  with_reducible repeat' first | intro _ | assumption | apply State.wr_inv | apply State.modTime_inv | apply State.inv_ite | split | apply State.inv_mk

theorem State.tempStale_inv {s1 : State} (h1 : s1.Inv) : (State.tempStale s1).Inv := by
  unfold State.tempStale
  with_reducible repeat' first | intro _ | assumption | apply State.raise_inv | apply State.modTime_inv | apply State.inv_ite | split | apply State.inv_mk

theorem execRefLos_inv {x1 : Fin 9} {s2 : State} (h2 : s2.Inv) {t : State} (ht : execRefLos x1 s2 = .next t) : t.Inv := by
  unfold execRefLos at ht; cases ht
  with_reducible repeat' first | intro _ | assumption | apply State.refLos_inv | apply State.inv_ite | split | apply State.inv_mk

theorem execRefFreqWindow_inv {x1 : Fin 9} {x2 : Int} {s3 : State} (h3 : s3.Inv) {t : State} (ht : execRefFreqWindow x1 x2 s3 = .next t) : t.Inv := by
  unfold execRefFreqWindow at ht; cases ht
  with_reducible repeat' first | intro _ | assumption | apply State.refWindow_inv | apply State.inv_ite | split | apply State.inv_mk

theorem execRefQualify_inv {x1 : Fin 9} {s2 : State} (h2 : s2.Inv) {t : State} (ht : execRefQualify x1 s2 = .next t) : t.Inv := by
  unfold execRefQualify at ht; cases ht
  with_reducible repeat' first | intro _ | assumption | apply State.refQualify_inv | apply State.inv_ite | split | apply State.inv_mk

theorem execDpllLocked_inv {x1 : Bool} {x2 : Nat} {s3 : State} (h3 : s3.Inv) {t : State} (ht : execDpllLocked x1 x2 s3 = .next t) : t.Inv := by
  unfold execDpllLocked at ht; cases ht
  with_reducible repeat' first | intro _ | assumption | apply State.dpllLocked_inv | apply State.inv_ite | split | apply State.inv_mk

theorem execTimeDecision_inv {x1 : List (Fin 13 × Int)} {x2 : Int} {s3 : State} (h3 : s3.Inv) {t : State} (ht : execTimeDecision x1 x2 s3 = .next t) : t.Inv := by
  unfold execTimeDecision at ht; cases ht
  with_reducible repeat' first | intro _ | assumption | apply State.timeDecision_inv | apply State.inv_ite | split | apply State.inv_mk

theorem execTimeLocked_inv {s1 : State} (h1 : s1.Inv) {t : State} (ht : execTimeLocked s1 = .next t) : t.Inv := by
  unfold execTimeLocked at ht; cases ht
  with_reducible repeat' first | intro _ | assumption | apply State.timeLocked_inv | apply State.inv_ite | split | apply State.inv_mk

theorem execTickInEdge_inv {x1 : Int} {s2 : State} (h2 : s2.Inv) {t : State} (ht : execTickInEdge x1 s2 = .next t) : t.Inv := by
  unfold execTickInEdge at ht; cases ht
  with_reducible repeat' first | intro _ | assumption | apply State.tickInEdge_inv | apply State.inv_ite | split | apply State.inv_mk

theorem execPpsEdge_inv {x1 : Fin 2} {x2 : Stamp} {s3 : State} (h3 : s3.Inv) {t : State} (ht : execPpsEdge x1 x2 s3 = .next t) : t.Inv := by
  unfold execPpsEdge at ht; cases ht
  with_reducible repeat' first | intro _ | assumption | apply State.ppsEdge_inv | apply State.inv_ite | split | apply State.inv_mk

theorem execPpsMiss_inv {x1 : Fin 2} {s2 : State} (h2 : s2.Inv) {t : State} (ht : execPpsMiss x1 s2 = .next t) : t.Inv := by
  unfold execPpsMiss at ht; cases ht
  with_reducible repeat' first | intro _ | assumption | apply State.ppsMiss_inv | apply State.inv_ite | split | apply State.inv_mk

theorem execTodMessage_inv {x1 : List Byte} {s2 : State} (h2 : s2.Inv) {t : State} (ht : execTodMessage x1 s2 = .next t) : t.Inv := by
  unfold execTodMessage at ht; cases ht
  with_reducible repeat' first | intro _ | assumption | apply State.todMessage_inv | apply State.inv_ite | split | apply State.inv_mk

theorem execTodTxSend_inv {s1 : State} (h1 : s1.Inv) {t : State} (ht : execTodTxSend s1 = .next t) : t.Inv := by
  unfold execTodTxSend at ht; cases ht
  with_reducible repeat' first | intro _ | assumption | apply State.todSend_inv | apply State.inv_ite | split | apply State.inv_mk

theorem execPpsOutEdge_inv {s1 : State} (h1 : s1.Inv) {t : State} (ht : execPpsOutEdge s1 = .next t) : t.Inv := by
  unfold execPpsOutEdge at ht; cases ht
  with_reducible repeat' first | intro _ | assumption | apply State.ppsOutEdge_inv | apply State.inv_ite | split | apply State.inv_mk

theorem execAsymLearned_inv {x1 : Fin 8} {s2 : State} (h2 : s2.Inv) {t : State} (ht : execAsymLearned x1 s2 = .next t) : t.Inv := by
  unfold execAsymLearned at ht; cases ht
  with_reducible repeat' first | intro _ | assumption | apply State.asymLearned_inv | apply State.inv_ite | split | apply State.inv_mk

theorem execTsLearn_inv {x1 : Initiator} {s2 : State} (h2 : s2.Inv) {t : State} (ht : execTsLearn x1 s2 = .next t) : t.Inv := by
  unfold execTsLearn at ht; cases ht
  with_reducible repeat' first | intro _ | assumption | apply State.write_inv | apply State.learnAgain_inv | apply State.inv_ite | split | apply State.inv_mk

theorem execSwOfsWrite_inv {x1 : Initiator} {x2 : Word} {s3 : State} (h3 : s3.Inv) {t : State} (ht : execSwOfsWrite x1 x2 s3 = .next t) : t.Inv := by
  unfold execSwOfsWrite at ht; cases ht
  with_reducible repeat' first | intro _ | assumption | apply State.write_inv | apply State.later_inv | apply State.inv_ite | split | apply State.inv_mk

theorem execSwSourceTimeout_inv {s1 : State} (h1 : s1.Inv) {t : State} (ht : execSwSourceTimeout s1 = .next t) : t.Inv := by
  unfold execSwSourceTimeout at ht; cases ht
  with_reducible repeat' first | intro _ | assumption | apply State.swTimeout_inv | apply State.inv_ite | split | apply State.inv_mk

theorem execInvarLearned_inv {s1 : State} (h1 : s1.Inv) {t : State} (ht : execInvarLearned s1 = .next t) : t.Inv := by
  unfold execInvarLearned at ht; cases ht
  with_reducible repeat' first | intro _ | assumption | apply State.invarLearned_inv | apply State.inv_ite | split | apply State.inv_mk

theorem execInvarResetModel_inv {x1 : Initiator} {s2 : State} (h2 : s2.Inv) {t : State} (ht : execInvarResetModel x1 s2 = .next t) : t.Inv := by
  unfold execInvarResetModel at ht; cases ht
  with_reducible repeat' first | intro _ | assumption | apply State.write_inv | apply State.resetModel_inv | apply State.inv_ite | split | apply State.inv_mk

theorem execInvTempStale_inv {s1 : State} (h1 : s1.Inv) {t : State} (ht : execInvTempStale s1 = .next t) : t.Inv := by
  unfold execInvTempStale at ht; cases ht
  with_reducible repeat' first | intro _ | assumption | apply State.tempStale_inv | apply State.inv_ite | split | apply State.inv_mk

theorem execTtLoad_inv {x1 : RxUnit} {x2 : Stamp} {x3 : Option (Nat × Stamp)} {s4 : State} (h4 : s4.Inv) {t : State} (ht : execTtLoad x1 x2 x3 s4 = .next t) : t.Inv := by
  unfold execTtLoad at ht; cases ht
  with_reducible repeat' first | intro _ | assumption | apply State.atUnit_inv | apply State.ttLoad_inv | apply State.inv_ite | split | apply State.inv_mk

theorem execTtAccept_inv {x1 : RxUnit} {s2 : State} (h2 : s2.Inv) {t : State} (ht : execTtAccept x1 s2 = .next t) : t.Inv := by
  unfold execTtAccept at ht; cases ht
  with_reducible repeat' first | intro _ | assumption | apply State.atUnit_inv | apply State.ttAccept_inv | apply State.inv_ite | split | apply State.inv_mk

theorem execTmTb0Read_inv {x1 : Initiator} {s2 : State} (h2 : s2.Inv) {t : State} (ht : execTmTb0Read x1 s2 = .next t) : t.Inv := by
  unfold execTmTb0Read at ht; cases ht
  with_reducible repeat' first | intro _ | assumption | apply State.wr_inv | apply State.replyWord_inv | apply State.inv_ite | split | apply State.inv_mk

theorem State.eccCorr_inv {s1 : State} {x2 : Nat} (h1 : s1.Inv) : (State.eccCorr s1 x2).Inv := by
  unfold State.eccCorr
  with_reducible repeat' first | intro _ | assumption | apply State.incWrap_inv | apply State.raise_inv | apply State.inv_ite | split | apply State.inv_mk

theorem State.eccUncorr_inv {s1 : State} {x2 : Nat} {x3 : Nat} (h1 : s1.Inv) : (State.eccUncorr s1 x2 x3).Inv := by
  unfold State.eccUncorr
  with_reducible repeat' first | intro _ | assumption | apply State.incWrap_inv | apply State.wr_inv | apply State.raise_inv | apply State.inv_ite | split | apply State.inv_mk

theorem State.drawBits_inv {s1 : State} {x2 : Nat} (h1 : s1.Inv) : (State.drawBits s1 x2).2.Inv := by
  unfold State.drawBits
  with_reducible repeat' first | intro _ | assumption | apply State.draw_inv | apply State.inv_ite | split | apply State.inv_mk

theorem State.modMarch_inv {s1 : State} {f2 : March → March} (h1 : s1.Inv) : (State.modMarch s1 f2).Inv := by
  unfold State.modMarch
  with_reducible repeat' first | intro _ | assumption | apply h2 | apply State.inv_ite | split | apply State.inv_mk

theorem State.release_inv {s1 : State} (h1 : s1.Inv) : (State.release s1).Inv := by
  unfold State.release
  with_reducible repeat' first | intro _ | assumption | apply State.wr_inv | apply State.modMarch_inv | apply State.inv_ite | split | apply State.inv_mk

theorem State.passEnds_inv {s1 : State} (h1 : s1.Inv) : (State.passEnds s1).Inv := by
  unfold State.passEnds
  with_reducible repeat' first | intro _ | assumption | apply State.incWrap_inv | apply State.modMarch_inv | apply State.inv_ite | split | apply State.inv_mk

theorem State.borrow_inv {s1 : State} {x2 : Nat} (h1 : s1.Inv) : (State.borrow s1 x2).Inv := by
  unfold State.borrow
  with_reducible repeat' first | intro _ | assumption | apply State.wr_inv | apply State.modMarch_inv | apply State.inv_ite | split | apply State.inv_mk

theorem State.marchRegion_inv {s1 : State} {x2 : Nat} {x3 : MarchEvent} (h1 : s1.Inv) : (State.marchRegion s1 x2 x3).Inv := by
  unfold State.marchRegion
  with_reducible repeat' first | intro _ | assumption | apply State.modMarch_inv | apply State.borrow_inv | apply State.passEnds_inv | apply State.release_inv | apply State.raise_inv | apply State.wr_inv | apply State.inv_ite | split | apply State.inv_mk

theorem State.touch_inv {s1 : State} {x2 : Nat} (h1 : s1.Inv) : (State.touch s1 x2).Inv := by
  unfold State.touch
  with_reducible repeat' first | intro _ | assumption | apply State.incWrap_inv | apply State.release_inv | apply State.modMarch_inv | apply State.passEnds_inv | apply State.raise_inv | apply State.inv_ite | split | apply State.inv_mk

theorem State.marchRetry_inv {s1 : State} {x2 : Nat} (h1 : s1.Inv) : (State.marchRetry s1 x2).Inv := by
  unfold State.marchRetry
  with_reducible repeat' first | intro _ | assumption | apply State.borrow_inv | apply State.passEnds_inv | apply State.modMarch_inv | apply State.inv_ite | split | apply State.inv_mk

theorem State.marchStop_inv {s1 : State} (h1 : s1.Inv) : (State.marchStop s1).Inv := by
  unfold State.marchStop
  with_reducible repeat' first | intro _ | assumption | apply State.modMarch_inv | apply State.release_inv | apply State.inv_ite | split | apply State.inv_mk

theorem State.sramSeen_inv {s1 : State} {x2 : Bool} {x3 : Nat} {x4 : Ecc} (h1 : s1.Inv) : (State.sramSeen s1 x2 x3 x4).Inv := by
  unfold State.sramSeen
  with_reducible repeat' first | intro _ | assumption | apply State.touch_inv | apply State.eccCorr_inv | apply State.inv_ite | split | apply State.inv_mk

theorem State.sramOld_inv {s : State} {lost : Bool} {w : Nat} (h : s.Inv) : (s.sramOld lost w).2.Inv := by
  unfold State.sramOld
  split
  · exact State.drawBits_inv (x2 := 128) h
  · exact h

theorem State.sramPut_inv {s1 : State} {x2 : Bool} {x3 : Bool} {x4 : Nat} {x5 : BitVec 128} (h1 : s1.Inv) : (State.sramPut s1 x2 x3 x4 x5).Inv := by
  unfold State.sramPut
  with_reducible repeat' first | intro _ | assumption | apply State.incWrap_inv | apply State.sramWord_inv | apply State.inv_ite | split | apply State.inv_mk

theorem State.sramEnd_inv {s : State} {write bad : Bool} {cls w : Nat} {b : Beat} {old : BitVec 128} (h : s.Inv) :
    (s.sramEnd write bad cls w b old).2.Inv := by
  unfold State.sramEnd
  generalize portOutcome write cls b old = c
  have k : (s.sramPut ((write && c.1) || b.portWrites cls) c.2.2 w c.2.1).Inv := State.sramPut_inv h
  dsimp only
  split
  · exact State.incWrap_inv k
  · split
    · exact State.eccUncorr_inv k
    · exact k

theorem State.sramBeat_inv {s : State} {write : Bool} {addr : Nat} {b : Beat} (h : s.Inv) : (s.sramBeat write addr b).2.Inv := by
  unfold State.sramBeat
  have k : (s.sramSeen (!write || (write && b.strobes != 0xFFFF)) addr b.ecc).Inv := State.sramSeen_inv h
  dsimp only
  split
  · split
    · exact k
    · split
      · exact State.eccUncorr_inv k
      · exact k
  · exact State.sramEnd_inv (State.sramOld_inv k)

theorem State.beatEnds_inv {s1 : State} {x2 : Initiator} {x3 : Burst} {x4 : Nat} {x5 : BeatEnd} (h1 : s1.Inv) : (State.beatEnds s1 x2 x3 x4 x5).Inv := by
  unfold State.beatEnds
  with_reducible repeat' first | intro _ | assumption | apply State.busError_inv | apply State.busBusy_inv | apply State.accessFault_inv | apply State.inv_ite | split | apply State.inv_mk

theorem State.foldl_inv_snd {α β : Type} {f : β × State → α → β × State} (hf : ∀ a x, a.2.Inv → (f a x).2.Inv) :
    ∀ (l : List α) (a : β × State), a.2.Inv → (l.foldl f a).2.Inv
  | [], _, h => h
  | x :: l, a, h => State.foldl_inv_snd hf l (f a x) (hf a x h)

theorem State.burst_inv {s : State} {m : Initiator} {b : Burst} {one : State → Nat → Beat → BeatEnd × State} (h : s.Inv)
    (ho : ∀ y a x, y.Inv → (one y a x).2.Inv) : (s.burst m b one).Inv :=
  State.reply_inv (State.foldl_inv_snd (fun a _ ha => State.beatEnds_inv (ho a.2 _ _ ha)) _ _ h)

theorem State.memBeat_inv {s : State} {b : Burst} {a : Nat} {x : Beat} (h : s.Inv) : (s.memBeat b a x).2.Inv := by
  unfold State.memBeat
  dsimp only
  split
  · exact h
  · split
    · exact h
    · exact State.sramBeat_inv h

theorem State.memAccess_inv {s1 : State} {x2 : Initiator} {x3 : Burst} (h1 : s1.Inv) : (State.memAccess s1 x2 x3).Inv := by
  unfold State.memAccess
  with_reducible repeat' first | intro _ | assumption | apply State.burst_inv | apply State.memBeat_inv | refine State.inv_snd ?_ ‹_ = (_, _)› | apply State.inv_ite | split | apply State.inv_mk

theorem State.ancWrite_inv {s : State} {a : Nat} {l : List Byte} (h : s.Inv) : (s.ancWrite a l).Inv :=
  ⟨h.1, Mem.keep_rising h.2.1, h.2.2⟩

theorem State.ancByte_inv {s1 : State} {x2 : Nat} (h1 : s1.Inv) : (State.ancByte s1 x2).2.Inv := by
  unfold State.ancByte
  with_reducible repeat' first | intro _ | assumption | apply State.drawBits_inv | refine State.inv_snd ?_ ‹_ = (_, _)› | apply State.inv_ite | split | apply State.inv_mk

theorem State.ancRead_inv {s : State} {a n : Nat} (h : s.Inv) : (s.ancRead a n).2.Inv := by
  induction n generalizing s a with
  | zero => exact h
  | succ n ih => simp only [State.ancRead]; exact ih (State.ancByte_inv h)

theorem State.ancForget_inv {s : State} {a n : Nat} (h : s.Inv) : (s.ancForget a n).Inv := ⟨h.1, Mem.filter_rising h.2.1, h.2.2⟩

theorem State.ancTouch_inv {s1 : State} {x2 : Nat} {x3 : Nat} (h1 : s1.Inv) : (State.ancTouch s1 x2 x3).Inv := by
  unfold State.ancTouch
  with_reducible repeat' first | intro _ | assumption | apply State.inv_ite | split | apply State.inv_mk

theorem State.ancSeen_inv {s1 : State} {x2 : Bool} {x3 : Nat} {x4 : Nat} {x5 : Ecc} (h1 : s1.Inv) : (State.ancSeen s1 x2 x3 x4 x5).Inv := by
  unfold State.ancSeen
  with_reducible repeat' first | intro _ | assumption | apply State.eccCorr_inv | apply State.inv_ite | split | apply State.inv_mk

theorem State.ancOld_inv {s : State} {whole : Bool} {w : Nat} (h : s.Inv) : (s.ancOld whole w).2.Inv := by
  unfold State.ancOld
  split
  · exact h
  · exact State.ancRead_inv h

theorem State.ancEnd_inv {s : State} {write : Bool} {cls w : Nat} {b : Beat} (h : s.Inv) : (s.ancEnd write cls w b).2.Inv := by
  unfold State.ancEnd
  split
  · exact State.ancWrite_inv (State.ancOld_inv h)
  · split
    · exact State.eccUncorr_inv h
    · with_reducible exact State.ancRead_inv h

theorem State.ancBeat_inv {s : State} {write : Bool} {a : Nat} {b : Beat} (h : s.Inv) : (s.ancBeat write a b).2.Inv := by
  unfold State.ancBeat
  split
  · exact h
  · dsimp only
    split
    · exact State.raise_inv h
    · exact State.ancEnd_inv (State.ancSeen_inv h)

theorem State.ancAccess_inv {s1 : State} {x2 : Initiator} {x3 : Bool} {x4 : Burst} (h1 : s1.Inv) : (State.ancAccess s1 x2 x3 x4).Inv := by
  unfold State.ancAccess
  with_reducible repeat' first | intro _ | assumption | apply State.burst_inv | apply State.ancBeat_inv | refine State.inv_snd ?_ ‹_ = (_, _)› | apply State.inv_ite | split | apply State.inv_mk

theorem State.scrubRead_inv {s1 : State} {x2 : ScrubWord} {x3 : Ecc} {x4 : Bool} (h1 : s1.Inv) : (State.scrubRead s1 x2 x3 x4).Inv := by
  unfold State.scrubRead
  with_reducible repeat' first | intro _ | assumption | apply State.eccUncorr_inv | apply State.eccCorr_inv | apply State.inv_ite | split | apply State.inv_mk

theorem State.repairProgram_inv {s1 : State} {x2 : Word} (h1 : s1.Inv) : (State.repairProgram s1 x2).Inv := by
  unfold State.repairProgram
  with_reducible repeat' first | intro _ | assumption | apply State.wr_inv | apply State.raise_inv | apply State.inv_ite | split | apply State.inv_mk

theorem State.repairDone_inv {s1 : State} {x2 : Bool} {x3 : Bool} (h1 : s1.Inv) : (State.repairDone s1 x2 x3).Inv := by
  unfold State.repairDone
  with_reducible repeat' first | intro _ | assumption | apply State.wr_inv | apply State.setRepairOf_inv | apply State.raise_inv | apply State.inv_ite | split | apply State.inv_mk

theorem execScratchpadAccess_inv {x1 : Initiator} {x2 : Burst} {s3 : State} (h3 : s3.Inv) {t : State} (ht : execScratchpadAccess x1 x2 s3 = .next t) : t.Inv := by
  unfold execScratchpadAccess at ht; cases ht
  with_reducible repeat' first | intro _ | assumption | apply State.memAccess_inv | apply State.inv_ite | split | apply State.inv_mk

theorem execWorkingSramAccess_inv {x1 : Initiator} {x2 : Burst} {s3 : State} (h3 : s3.Inv) {t : State} (ht : execWorkingSramAccess x1 x2 s3 = .next t) : t.Inv := by
  unfold execWorkingSramAccess at ht; cases ht
  with_reducible repeat' first | intro _ | assumption | apply State.memAccess_inv | apply State.inv_ite | split | apply State.inv_mk

theorem execAnchorageAccess_inv {x1 : Initiator} {x2 : Bool} {x3 : Burst} {s4 : State} (h4 : s4.Inv) {t : State} (ht : execAnchorageAccess x1 x2 x3 s4 = .next t) : t.Inv := by
  unfold execAnchorageAccess at ht; cases ht
  with_reducible repeat' first | intro _ | assumption | apply State.ancAccess_inv | apply State.inv_ite | split | apply State.inv_mk

theorem execRepairProgram_inv {x1 : Initiator} {x2 : Word} {s3 : State} (h3 : s3.Inv) {t : State} (ht : execRepairProgram x1 x2 s3 = .next t) : t.Inv := by
  unfold execRepairProgram at ht; cases ht
  with_reducible repeat' first | intro _ | assumption | apply State.reply_inv | apply State.repairProgram_inv | apply State.setReg_inv | apply State.busError_inv | apply State.inv_ite | split | apply State.inv_mk

theorem execRepairDone_inv {x1 : Bool} {x2 : Bool} {s3 : State} (h3 : s3.Inv) {t : State} (ht : execRepairDone x1 x2 s3 = .next t) : t.Inv := by
  unfold execRepairDone at ht; cases ht
  with_reducible repeat' first | intro _ | assumption | apply State.repairDone_inv | apply State.inv_ite | split | apply State.inv_mk

theorem execScrubRead_inv {x1 : ScrubWord} {x2 : Ecc} {x3 : Bool} {s4 : State} (h4 : s4.Inv) {t : State} (ht : execScrubRead x1 x2 x3 s4 = .next t) : t.Inv := by
  unfold execScrubRead at ht; cases ht
  with_reducible repeat' first | intro _ | assumption | apply State.scrubRead_inv | apply State.inv_ite | split | apply State.inv_mk

theorem execMarchRegion_inv {x1 : Fin 2560} {x2 : MarchEvent} {s3 : State} (h3 : s3.Inv) {t : State} (ht : execMarchRegion x1 x2 s3 = .next t) : t.Inv := by
  unfold execMarchRegion at ht; cases ht
  with_reducible repeat' first | intro _ | assumption | apply State.marchRegion_inv | apply State.inv_ite | split | apply State.inv_mk

theorem execBorrowTouch_inv {x1 : Option Initiator} {x2 : Burst} {s3 : State} (h3 : s3.Inv) {t : State} (ht : execBorrowTouch x1 x2 s3 = .next t) : t.Inv := by
  unfold execBorrowTouch at ht; cases ht
  with_reducible repeat' first | intro _ | assumption | apply State.memAccess_inv | apply State.touch_inv | apply State.inv_ite | split | apply State.inv_mk

theorem execMarchRetry_inv {x1 : Fin 2560} {s2 : State} (h2 : s2.Inv) {t : State} (ht : execMarchRetry x1 s2 = .next t) : t.Inv := by
  unfold execMarchRetry at ht; cases ht
  with_reducible repeat' first | intro _ | assumption | apply State.marchRetry_inv | apply State.inv_ite | split | apply State.inv_mk

theorem execMmNbWrite_inv {x1 : Initiator} {x2 : Bool} {x3 : Word} {s4 : State} (h4 : s4.Inv) {t : State} (ht : execMmNbWrite x1 x2 x3 s4 = .next t) : t.Inv := by
  unfold execMmNbWrite at ht; cases ht
  with_reducible repeat' first | intro _ | assumption | apply State.busError_inv | apply State.reply_inv | apply State.setReg_inv | apply State.inv_ite | split | apply State.inv_mk

theorem execMmEccAddrLoRead_inv {x1 : Initiator} {s2 : State} (h2 : s2.Inv) {t : State} (ht : execMmEccAddrLoRead x1 s2 = .next t) : t.Inv := by
  unfold execMmEccAddrLoRead at ht; cases ht
  with_reducible repeat' first | intro _ | assumption | apply State.replyWord_inv | apply State.setReg_inv | apply State.inv_ite | split | apply State.inv_mk

end Sys2Proof.Machine
end

