-- ==== Sys2Proof/Laws/InvEvents.lean ====
section
/-! SUPPORT. The invariant `State.Inv` through each function of Measure, Events, Lanes, Resources, Apply: one lemma per function, named after
it. -/

namespace Sys2Proof.Machine

set_option Elab.async false


theorem State.modMeasure_inv {s1 : State} {x2 : Nat} {f3 : Measure → Measure} (h1 : s1.Inv) : (State.modMeasure s1 x2 f3).Inv := by
  unfold State.modMeasure
  with_reducible repeat' first | intro _ | assumption | apply h3 | apply State.setMeasure_inv | apply State.inv_ite | split | apply State.inv_mk

theorem State.setQuantity_inv {s1 : State} {x2 : Nat} {x3 : Nat} {x4 : Int} (h1 : s1.Inv) : (State.setQuantity s1 x2 x3 x4).Inv := by
  unfold State.setQuantity
  with_reducible repeat' first | intro _ | assumption | apply State.wr_inv | apply State.inv_ite | split | apply State.inv_mk

theorem State.takeQuantity_inv {s1 : State} {x2 : Nat} {x3 : Nat} {x4 : Int} (h1 : s1.Inv) : (State.takeQuantity s1 x2 x3 x4).Inv := by
  unfold State.takeQuantity
  with_reducible repeat' first | intro _ | assumption | apply State.setQuantity_inv | apply State.inv_ite | split | apply State.inv_mk

theorem State.publishQuantities_inv {s1 : State} {x2 : Nat} (h1 : s1.Inv) : (State.publishQuantities s1 x2).Inv := by
  unfold State.publishQuantities
  with_reducible repeat' first | intro _ | assumption | apply State.setQuantity_inv | apply State.each_inv | apply State.wr_inv | apply State.inv_ite | split | apply State.inv_mk

theorem State.followSecond_inv {s1 : State} {x2 : Nat} (h1 : s1.Inv) : (State.followSecond s1 x2).Inv := by
  unfold State.followSecond
  with_reducible repeat' first | intro _ | assumption | apply State.modMeasure_inv | apply State.inv_ite | split | apply State.inv_mk

theorem State.modCapture_inv {s1 : State} {x2 : Nat} {f3 : Capture → Capture} (h1 : s1.Inv) : (State.modCapture s1 x2 f3).Inv := by
  unfold State.modCapture
  with_reducible repeat' first | intro _ | assumption | apply h3 | apply State.setCapture_inv | apply State.inv_ite | split | apply State.inv_mk

theorem State.showCapture_inv {s1 : State} {x2 : Nat} (h1 : s1.Inv) : (State.showCapture s1 x2).Inv := by
  unfold State.showCapture
  with_reducible repeat' first | intro _ | assumption | apply State.wrBool_inv | apply State.wr_inv | apply State.inv_ite | split | apply State.inv_mk

theorem State.nextSlot_inv {s1 : State} {x2 : Nat} {x3 : Nat} (h1 : s1.Inv) : (State.nextSlot s1 x2 x3).Inv := by
  unfold State.nextSlot
  with_reducible repeat' first | intro _ | assumption | apply State.modCapture_inv | apply State.showCapture_inv | apply State.ancForget_inv | apply State.inv_ite | split | apply State.inv_mk

theorem State.capTrigger_inv {s1 : State} {x2 : Nat} {x3 : CapSource} (h1 : s1.Inv) : (State.capTrigger s1 x2 x3).Inv := by
  unfold State.capTrigger
  with_reducible repeat' first | intro _ | assumption | apply State.modCapture_inv | apply State.incWrap_inv | apply State.nextSlot_inv | apply State.raise_inv | apply State.showCapture_inv | apply State.inv_ite | split | apply State.inv_mk

theorem State.closeSlot_inv {s1 : State} {x2 : Nat} {x3 : Bool} {x4 : Nat} {x5 : Nat} (h1 : s1.Inv) : (State.closeSlot s1 x2 x3 x4 x5).Inv := by
  unfold State.closeSlot
  with_reducible repeat' first | intro _ | assumption | apply State.draw_inv | apply State.ancForget_inv | apply State.ancTouch_inv | apply State.ancWrite_inv | apply State.modCapture_inv | apply State.nextSlot_inv | apply State.raise_inv | apply State.inv_ite | split | apply State.inv_mk

theorem State.cutCapture_inv {s1 : State} {x2 : Nat} {x3 : Bool} (h1 : s1.Inv) : (State.cutCapture s1 x2 x3).Inv := by
  unfold State.cutCapture
  with_reducible repeat' first | intro _ | assumption | apply State.draw_inv | apply State.closeSlot_inv | apply State.showCapture_inv | apply State.modCapture_inv | apply State.inv_ite | split | apply State.inv_mk

theorem State.captureClose_inv {s1 : State} {x2 : Nat} {x3 : Nat} {x4 : Nat} (h1 : s1.Inv) : (State.captureClose s1 x2 x3 x4).Inv := by
  unfold State.captureClose
  with_reducible repeat' first | intro _ | assumption | apply State.closeSlot_inv | apply State.inv_ite | split | apply State.inv_mk

theorem State.capArm_inv {s1 : State} {x2 : Nat} (h1 : s1.Inv) : (State.capArm s1 x2).Inv := by
  unfold State.capArm
  with_reducible repeat' first | intro _ | assumption | apply State.wr_inv | apply State.modCapture_inv | apply State.nextSlot_inv | apply State.inv_ite | split | apply State.inv_mk

theorem State.capRelease_inv {s1 : State} {x2 : Nat} (h1 : s1.Inv) : (State.capRelease s1 x2).Inv := by
  unfold State.capRelease
  with_reducible repeat' first | intro _ | assumption | apply State.modCapture_inv | apply State.nextSlot_inv | apply State.showCapture_inv | apply State.inv_ite | split | apply State.inv_mk

theorem State.capSchedule_inv {s1 : State} {x2 : Nat} (h1 : s1.Inv) : (State.capSchedule s1 x2).Inv := by
  unfold State.capSchedule
  with_reducible repeat' first | intro _ | assumption | apply State.capTrigger_inv | apply State.inv_ite | split | apply State.inv_mk

theorem State.capEvents_inv {s1 : State} {x2 : Nat} (h1 : s1.Inv) : (State.capEvents s1 x2).Inv := by
  unfold State.capEvents
  with_reducible repeat' first | intro _ | assumption | apply State.each_inv | apply State.capTrigger_inv | apply State.inv_ite | split | apply State.inv_mk

theorem State.sopRate_inv {s1 : State} {x2 : Nat} {x3 : Nat} (h1 : s1.Inv) : (State.sopRate s1 x2 x3).Inv := by
  unfold State.sopRate
  with_reducible repeat' first | intro _ | assumption | apply State.modMeasure_inv | apply State.raise_inv | apply State.capTrigger_inv | apply State.inv_ite | split | apply State.inv_mk

theorem State.sopEnds_inv {s1 : State} {x2 : Nat} (h1 : s1.Inv) : (State.sopEnds s1 x2).Inv := by
  unfold State.sopEnds
  with_reducible repeat' first | intro _ | assumption | apply State.modMeasure_inv | apply State.wrBool_inv | apply State.wr_inv | apply State.incWrap_inv | apply State.raise_inv | apply State.inv_ite | split | apply State.inv_mk

theorem State.setFormat_inv {s1 : State} {x2 : Nat} {x3 : Nat} {x4 : Nat} (h1 : s1.Inv) : (State.setFormat s1 x2 x3 x4).Inv := by
  unfold State.setFormat
  with_reducible repeat' first | intro _ | assumption | apply State.wr_inv | apply State.wrBool_inv | apply State.inv_ite | split | apply State.inv_mk

theorem State.surveyStep_inv {s1 : State} {x2 : Nat} {x3 : Nat} {x4 : SurveyRec} (h1 : s1.Inv) : (State.surveyStep s1 x2 x3 x4).Inv := by
  unfold State.surveyStep
  with_reducible repeat' first | intro _ | assumption | apply State.setFormat_inv | apply State.wr_inv | apply State.inv_ite | split | apply State.inv_mk

theorem State.tickSurvey_inv {s1 : State} {x2 : Nat} (h1 : s1.Inv) : (State.tickSurvey s1 x2).Inv := by
  unfold State.tickSurvey
  with_reducible repeat' first | intro _ | assumption | apply State.surveyStep_inv | apply State.wr_inv | apply State.inv_ite | split | apply State.inv_mk

theorem State.surveyEnd_inv {s1 : State} {x2 : Nat} {x3 : SurveyResult} (h1 : s1.Inv) : (State.surveyEnd s1 x2 x3).Inv := by
  unfold State.surveyEnd
  with_reducible repeat' first | intro _ | assumption | apply State.ancWrite_inv | apply State.raise_inv | apply State.incWrap_inv | apply State.raiseIf_inv | apply State.wr_inv | apply State.surveyStep_inv | apply State.dropFrame_inv | apply State.modEngine_inv | apply State.clearLocks_inv | apply State.enterRx_inv | apply State.inv_ite | split | apply State.inv_mk

theorem State.tickMeasure_inv {s1 : State} {x2 : Nat} (h1 : s1.Inv) : (State.tickMeasure s1 x2).Inv := by
  unfold State.tickMeasure
  with_reducible repeat' first | intro _ | assumption | apply State.followSecond_inv | apply State.publishQuantities_inv | apply State.tickSurvey_inv | apply State.cutCapture_inv | apply State.capTrigger_inv | apply State.modCapture_inv | apply State.inv_ite | split | apply State.inv_mk

theorem State.atMeasured_inv {s1 : State} {x2 : Initiator} {x3 : Nat} {f4 : State → Nat → State} (h1 : s1.Inv) (h4 : ∀ (y0 : State) (y1 : Nat), y0.Inv → (f4 y0 y1).Inv) : (State.atMeasured s1 x2 x3 f4).Inv := by
  unfold State.atMeasured
  with_reducible repeat' first | intro _ | assumption | apply h4 | apply State.atEngine_inv | apply State.reply_inv | apply State.inv_ite | split | apply State.inv_mk

theorem execSopTransient_inv {x1 : Fin 8} {s2 : State} (h2 : s2.Inv) {t : State} (ht : execSopTransient x1 s2 = .next t) : t.Inv := by
  unfold execSopTransient at ht; cases ht
  with_reducible repeat' first | intro _ | assumption | apply State.sopEnds_inv | apply State.inv_ite | split | apply State.inv_mk

theorem execCapArm_inv {x1 : Initiator} {s2 : State} (h2 : s2.Inv) {t : State} (ht : execCapArm x1 s2 = .next t) : t.Inv := by
  unfold execCapArm at ht; cases ht
  with_reducible repeat' first | intro _ | assumption | apply State.atMeasured_inv | apply State.capArm_inv | apply State.inv_ite | split | apply State.inv_mk

theorem execCapDisarm_inv {x1 : Initiator} {s2 : State} (h2 : s2.Inv) {t : State} (ht : execCapDisarm x1 s2 = .next t) : t.Inv := by
  unfold execCapDisarm at ht; cases ht
  with_reducible repeat' first | intro _ | assumption | apply State.atMeasured_inv | apply State.later_inv | apply State.inv_ite | split | apply State.inv_mk

theorem execCapTrig_inv {x1 : Initiator} {s2 : State} (h2 : s2.Inv) {t : State} (ht : execCapTrig x1 s2 = .next t) : t.Inv := by
  unfold execCapTrig at ht; cases ht
  with_reducible repeat' first | intro _ | assumption | apply State.atMeasured_inv | apply State.modCapture_inv | apply State.inv_ite | split | apply State.inv_mk

theorem execCapRelease_inv {x1 : Initiator} {s2 : State} (h2 : s2.Inv) {t : State} (ht : execCapRelease x1 s2 = .next t) : t.Inv := by
  unfold execCapRelease at ht; cases ht
  with_reducible repeat' first | intro _ | assumption | apply State.atMeasured_inv | apply State.capRelease_inv | apply State.inv_ite | split | apply State.inv_mk

theorem execCapScheduleTrigger_inv {x1 : Fin 8} {s2 : State} (h2 : s2.Inv) {t : State} (ht : execCapScheduleTrigger x1 s2 = .next t) : t.Inv := by
  unfold execCapScheduleTrigger at ht; cases ht
  with_reducible repeat' first | intro _ | assumption | apply State.capSchedule_inv | apply State.inv_ite | split | apply State.inv_mk

theorem execCaptureClose_inv {x1 : Fin 8} {x2 : Nat} {x3 : Nat} {s4 : State} (h4 : s4.Inv) {t : State} (ht : execCaptureClose x1 x2 x3 s4 = .next t) : t.Inv := by
  unfold execCaptureClose at ht; cases ht
  with_reducible repeat' first | intro _ | assumption | apply State.captureClose_inv | apply State.inv_ite | split | apply State.inv_mk

theorem execSurveyStepEnd_inv {x1 : Fin 8} {x2 : SurveyResult} {s3 : State} (h3 : s3.Inv) {t : State} (ht : execSurveyStepEnd x1 x2 s3 = .next t) : t.Inv := by
  unfold execSurveyStepEnd at ht; cases ht
  with_reducible repeat' first | intro _ | assumption | apply State.surveyEnd_inv | apply State.inv_ite | split | apply State.inv_mk

theorem State.coalesce_inv {s1 : State} {x2 : Report} (h1 : s1.Inv) : (State.coalesce s1 x2).Inv := by
  unfold State.coalesce
  with_reducible repeat' first | intro _ | assumption | apply State.wr_inv | apply State.setSlot_inv | apply State.raise_inv | apply State.incWrap_inv | apply State.inv_ite | split | apply State.inv_mk

theorem State.queueReport_inv {s : State} {r : Report} (h : s.Inv) : (s.queueReport r).Inv := by
  unfold State.queueReport
  split
  · exact h
  · dsimp only
    split
    · exact State.coalesce_inv h
    · rename_i hc
      refine ⟨h.1, h.2.1, ?_, h.2.2.2⟩
      simp only [Bool.or_eq_true, not_or, decide_eq_true_eq] at hc
      simp only [List.length_append, List.length_cons, List.length_nil]
      omega

theorem State.queueReports_inv {s1 : State} (h1 : s1.Inv) : (State.queueReports s1).Inv := by
  unfold State.queueReports
  with_reducible repeat' first | intro _ | assumption | apply State.each_inv | apply State.queueReport_inv | apply State.inv_ite | split | apply State.inv_mk

theorem State.writeRecord_inv {s1 : State} {x2 : LogRecord} (h1 : s1.Inv) : (State.writeRecord s1 x2).Inv := by
  unfold State.writeRecord
  with_reducible repeat' first | intro _ | assumption | apply State.incWrap_inv | apply State.touch_inv | apply State.addTally_inv | apply State.sramWord_inv | apply State.ancWrite_inv | apply State.inv_ite | split | apply State.inv_mk

theorem State.logRecord_inv {s : State} (h : s.Inv) : (s.logRecord).Inv := by
  unfold State.logRecord
  split
  · rename_i r rest hq
    split
    · apply State.writeRecord_inv
      refine ⟨h.1, h.2.1, ?_, h.2.2.2⟩
      have := h.2.2.1
      rw [hq] at this
      simp only [List.length_cons] at this
      exact Nat.le_of_succ_le this
    · exact h
  · exact h

theorem State.logSummary_inv {s1 : State} (h1 : s1.Inv) : (State.logSummary s1).Inv := by
  unfold State.logSummary
  with_reducible repeat' first | intro _ | assumption | apply State.wr_inv | apply State.setSlot_inv | apply State.writeRecord_inv | apply State.inv_ite | split | apply State.inv_mk

theorem State.writeLogRd_inv {s1 : State} {x2 : Nat} (h1 : s1.Inv) : (State.writeLogRd s1 x2).Inv := by
  unfold State.writeLogRd
  with_reducible repeat' first | intro _ | assumption | apply State.wr_inv | apply State.inv_ite | split | apply State.inv_mk

theorem State.pcAdd_inv {s1 : State} {x2 : Nat} {x3 : Nat} (h1 : s1.Inv) : (State.pcAdd s1 x2 x3).Inv := by
  unfold State.pcAdd
  with_reducible repeat' first | intro _ | assumption | apply State.setCtr_inv | apply State.wr_inv | apply State.raise_inv | apply State.inv_ite | split | apply State.inv_mk

theorem State.tickCounters_inv {s1 : State} (h1 : s1.Inv) : (State.tickCounters s1).Inv := by
  unfold State.tickCounters
  with_reducible repeat' first | intro _ | assumption | apply State.each_inv | apply State.pcAdd_inv | apply State.inv_ite | split | apply State.inv_mk

theorem State.pcWrite_inv {s1 : State} {x2 : Initiator} {x3 : Nat} {f4 : State → State} (h1 : s1.Inv) (h4 : ∀ (y0 : State), y0.Inv → (f4 y0).Inv) : (State.pcWrite s1 x2 x3 f4).Inv := by
  unfold State.pcWrite
  with_reducible repeat' first | intro _ | assumption | apply h4 | apply State.busError_inv | apply State.reply_inv | apply State.inv_ite | split | apply State.inv_mk

theorem State.readPc_inv {s1 : State} {x2 : Initiator} {x3 : Nat} (h1 : s1.Inv) : (State.readPc s1 x2 x3).Inv := by
  unfold State.readPc
  with_reducible repeat' first | intro _ | assumption | apply State.busError_inv | apply State.replyWord_inv | apply State.wr_inv | apply State.inv_ite | split | apply State.inv_mk

theorem State.dumpDue_inv {s1 : State} (h1 : s1.Inv) : (State.dumpDue s1).Inv := by
  unfold State.dumpDue
  with_reducible repeat' first | intro _ | assumption | apply State.each_inv | apply State.wr_inv | apply State.setDumpSeq_inv | apply State.raise_inv | apply State.incWrap_inv | apply State.raiseIf_inv | apply State.inv_ite | split | apply State.inv_mk

theorem State.dumpWritten_inv {s1 : State} {x2 : Nat} (h1 : s1.Inv) : (State.dumpWritten s1 x2).Inv := by
  unfold State.dumpWritten
  with_reducible repeat' first | intro _ | assumption | apply State.send_inv | apply State.ancWrite_inv | apply State.raise_inv | apply State.incWrap_inv | apply State.inv_ite | split | apply State.inv_mk

theorem State.dumpStop_inv {s1 : State} {x2 : Bool} (h1 : s1.Inv) : (State.dumpStop s1 x2).Inv := by
  unfold State.dumpStop
  with_reducible repeat' first | intro _ | assumption | apply State.raiseIf_inv | apply State.each_inv | apply State.wr_inv | apply State.inv_ite | split | apply State.inv_mk

theorem State.writeDumpCfg_inv {s1 : State} {x2 : Nat} {x3 : Word} (h1 : s1.Inv) : (State.writeDumpCfg s1 x2 x3).Inv := by
  unfold State.writeDumpCfg
  with_reducible repeat' first | intro _ | assumption | apply State.setReg_inv | apply State.wr_inv | apply State.setDumpSeq_inv | apply State.inv_ite | split | apply State.inv_mk

theorem State.closeBin_inv {s1 : State} {x2 : Nat} {x3 : Nat} {x4 : PmEntity} (h1 : s1.Inv) : (State.closeBin s1 x2 x3 x4).Inv := by
  unfold State.closeBin
  with_reducible repeat' first | intro _ | assumption | apply State.setBin_inv | apply State.ancWrite_inv | apply State.inv_ite | split | apply State.inv_mk

theorem State.binSecond_inv {s1 : State} {x2 : Nat} {x3 : PmEntity} {x4 : Nat} {x5 : Commit} (h1 : s1.Inv) : (State.binSecond s1 x2 x3 x4 x5).Inv := by
  unfold State.binSecond
  with_reducible repeat' first | intro _ | assumption | apply State.each_inv | apply State.setBin_inv | apply State.closeBin_inv | apply State.inv_ite | split | apply State.inv_mk

theorem State.closeBins_inv {s1 : State} (h1 : s1.Inv) : (State.closeBins s1).Inv := by
  unfold State.closeBins
  with_reducible repeat' first | intro _ | assumption | apply State.each_inv | apply State.closeBin_inv | apply State.inv_ite | split | apply State.inv_mk

theorem State.showPm_inv {s1 : State} (h1 : s1.Inv) : (State.showPm s1).Inv := by
  unfold State.showPm
  with_reducible repeat' first | intro _ | assumption | apply State.wr_inv | apply State.raiseIf_inv | apply State.inv_ite | split | apply State.inv_mk

theorem State.setPmSectionOf_inv {s1 : State} {x2 : PmEntity} {x3 : Section} (h1 : s1.Inv) : (State.setPmSectionOf s1 x2 x3).Inv := by
  unfold State.setPmSectionOf
  with_reducible repeat' first | intro _ | assumption | apply State.setPmSection_inv | apply State.setMerge_inv | apply State.setClientPm_inv | apply State.setPathPm_inv | apply State.inv_ite | split | apply State.inv_mk

theorem State.countCommit_inv {s1 : State} {x2 : PmEntity} {x3 : Commit} (h1 : s1.Inv) : (State.countCommit s1 x2 x3).Inv := by
  unfold State.countCommit
  with_reducible repeat' first | intro _ | assumption | apply State.each_inv | apply State.count_inv | apply State.inv_ite | split | apply State.inv_mk

theorem State.tickPm_inv {s1 : State} (h1 : s1.Inv) : (State.tickPm s1).Inv := by
  unfold State.tickPm
  with_reducible repeat' first | intro _ | assumption | apply State.each_inv | apply State.setClientPm_inv | apply State.setPathPm_inv | apply State.inv_ite | split | apply State.inv_mk

theorem State.secondEnd_inv {s1 : State} (h1 : s1.Inv) : (State.secondEnd s1).Inv := by
  unfold State.secondEnd
  with_reducible repeat' first | intro _ | assumption | apply State.each_inv | apply State.setPmSectionOf_inv | apply State.binSecond_inv | apply State.countCommit_inv | apply State.mergeSecond_inv | apply State.inv_ite | split | apply State.inv_mk

theorem execLogRecordWrite_inv {s1 : State} (h1 : s1.Inv) {t : State} (ht : execLogRecordWrite s1 = .next t) : t.Inv := by
  unfold execLogRecordWrite at ht; cases ht
  with_reducible repeat' first | intro _ | assumption | apply State.logRecord_inv | apply State.inv_ite | split | apply State.inv_mk

theorem execLogSummaryWrite_inv {s1 : State} (h1 : s1.Inv) {t : State} (ht : execLogSummaryWrite s1 = .next t) : t.Inv := by
  unfold execLogSummaryWrite at ht; cases ht
  with_reducible repeat' first | intro _ | assumption | apply State.logSummary_inv | apply State.inv_ite | split | apply State.inv_mk

theorem execEvLogRdWrite_inv {x1 : Initiator} {x2 : Word} {s3 : State} (h3 : s3.Inv) {t : State} (ht : execEvLogRdWrite x1 x2 s3 = .next t) : t.Inv := by
  unfold execEvLogRdWrite at ht; cases ht
  with_reducible repeat' first | intro _ | assumption | apply State.reply_inv | apply State.writeLogRd_inv | apply State.inv_ite | split | apply State.inv_mk

theorem execPcEvselWrite_inv {x1 : Initiator} {x2 : Fin 64} {x3 : Word} {s4 : State} (h4 : s4.Inv) {t : State} (ht : execPcEvselWrite x1 x2 x3 s4 = .next t) : t.Inv := by
  unfold execPcEvselWrite at ht; cases ht
  with_reducible repeat' first | intro _ | assumption | apply State.pcWrite_inv | apply State.setReg_inv | apply State.inv_ite | split | apply State.inv_mk

theorem execPcOverflow_inv {x1 : Fin 64} {x2 : Nat} {s3 : State} (h3 : s3.Inv) {t : State} (ht : execPcOverflow x1 x2 s3 = .next t) : t.Inv := by
  unfold execPcOverflow at ht; cases ht
  with_reducible repeat' first | intro _ | assumption | apply State.pcAdd_inv | apply State.inv_ite | split | apply State.inv_mk

theorem execDumpRingDue_inv {s1 : State} (h1 : s1.Inv) {t : State} (ht : execDumpRingDue s1 = .next t) : t.Inv := by
  unfold execDumpRingDue at ht; cases ht
  with_reducible repeat' first | intro _ | assumption | apply State.dumpDue_inv | apply State.inv_ite | split | apply State.inv_mk

theorem execDumpEntryWritten_inv {x1 : Fin 4} {s2 : State} (h2 : s2.Inv) {t : State} (ht : execDumpEntryWritten x1 s2 = .next t) : t.Inv := by
  unfold execDumpEntryWritten at ht; cases ht
  with_reducible repeat' first | intro _ | assumption | apply State.dumpWritten_inv | apply State.inv_ite | split | apply State.inv_mk

theorem execDumpStop_inv {x1 : Initiator} {x2 : Bool} {s3 : State} (h3 : s3.Inv) {t : State} (ht : execDumpStop x1 x2 s3 = .next t) : t.Inv := by
  unfold execDumpStop at ht; cases ht
  with_reducible repeat' first | intro _ | assumption | apply State.pcWrite_inv | apply State.dumpStop_inv | apply State.inv_ite | split | apply State.inv_mk

theorem execDumpRingEnable_inv {x1 : Initiator} {x2 : Fin 4} {x3 : Word} {s4 : State} (h4 : s4.Inv) {t : State} (ht : execDumpRingEnable x1 x2 x3 s4 = .next t) : t.Inv := by
  unfold execDumpRingEnable at ht; cases ht
  with_reducible repeat' first | intro _ | assumption | apply State.pcWrite_inv | apply State.writeDumpCfg_inv | apply State.inv_ite | split | apply State.inv_mk

theorem State.writePmCfg_inv {s1 : State} {x2 : Word} (h1 : s1.Inv) : (State.writePmCfg s1 x2).Inv := by
  unfold State.writePmCfg
  with_reducible repeat' first | intro _ | assumption | apply State.closeBins_inv | apply State.showPm_inv | apply State.setReg_inv | apply State.inv_ite | split | apply State.inv_mk

theorem execPmOfsWrite_inv {x1 : Initiator} {x2 : Word} {s3 : State} (h3 : s3.Inv) {t : State} (ht : execPmOfsWrite x1 x2 s3 = .next t) : t.Inv := by
  unfold execPmOfsWrite at ht; cases ht
  with_reducible repeat' first | intro _ | assumption | apply State.pcWrite_inv | apply State.writePmCfg_inv | apply State.inv_ite | split | apply State.inv_mk

theorem execPcCntLoRead_inv {x1 : Initiator} {x2 : Fin 65} {s3 : State} (h3 : s3.Inv) {t : State} (ht : execPcCntLoRead x1 x2 s3 = .next t) : t.Inv := by
  unfold execPcCntLoRead at ht; cases ht
  with_reducible repeat' first | intro _ | assumption | apply State.readPc_inv | apply State.inv_ite | split | apply State.inv_mk

theorem execSecondEnd_inv {s1 : State} (h1 : s1.Inv) {t : State} (ht : execSecondEnd s1 = .next t) : t.Inv := by
  unfold execSecondEnd at ht; cases ht
  with_reducible repeat' first | intro _ | assumption | apply State.secondEnd_inv | apply State.inv_ite | split | apply State.inv_mk

theorem State.modLane_inv {s1 : State} {x2 : Nat} {f3 : Lane → Lane} (h1 : s1.Inv) : (State.modLane s1 x2 f3).Inv := by
  unfold State.modLane
  with_reducible repeat' first | intro _ | assumption | apply h3 | apply State.setLane_inv | apply State.inv_ite | split | apply State.inv_mk

theorem State.stopInjection_inv {s1 : State} {x2 : Nat} (h1 : s1.Inv) : (State.stopInjection s1 x2).Inv := by
  unfold State.stopInjection
  with_reducible repeat' first | intro _ | assumption | apply State.modLane_inv | apply State.inv_ite | split | apply State.inv_mk

theorem State.enterLane_inv {s1 : State} {x2 : Nat} {x3 : LaneState} (h1 : s1.Inv) : (State.enterLane s1 x2 x3).Inv := by
  unfold State.enterLane
  with_reducible repeat' first | intro _ | assumption | apply State.modLane_inv | apply State.wr_inv | apply State.stopInjection_inv | apply State.inv_ite | split | apply State.inv_mk

theorem State.clearTraining_inv {s1 : State} {x2 : Nat} (h1 : s1.Inv) : (State.clearTraining s1 x2).Inv := by
  unfold State.clearTraining
  with_reducible repeat' first | intro _ | assumption | apply State.wr_inv | apply State.modLane_inv | apply State.inv_ite | split | apply State.inv_mk

theorem State.startAttempt_inv {s1 : State} {x2 : Nat} (h1 : s1.Inv) : (State.startAttempt s1 x2).Inv := by
  unfold State.startAttempt
  with_reducible repeat' first | intro _ | assumption | apply State.modLane_inv | apply State.enterLane_inv | apply State.inv_ite | split | apply State.inv_mk

theorem State.enterPreset_inv {s1 : State} {x2 : Nat} (h1 : s1.Inv) : (State.enterPreset s1 x2).Inv := by
  unfold State.enterPreset
  with_reducible repeat' first | intro _ | assumption | apply State.modLane_inv | apply State.enterLane_inv | apply State.inv_ite | split | apply State.inv_mk

theorem State.loopSignalLost_inv {s1 : State} {x2 : Nat} (h1 : s1.Inv) : (State.loopSignalLost s1 x2).Inv := by
  unfold State.loopSignalLost
  with_reducible repeat' first | intro _ | assumption | apply State.later_inv | apply State.inv_ite | split | apply State.inv_mk

theorem State.resumeLoop_inv {s1 : State} {x2 : Nat} (h1 : s1.Inv) : (State.resumeLoop s1 x2).Inv := by
  unfold State.resumeLoop
  with_reducible repeat' first | intro _ | assumption | apply State.modLane_inv | apply State.wr_inv | apply State.inv_ite | split | apply State.inv_mk

theorem State.laneLos_inv {s1 : State} {x2 : Nat} {x3 : Nat} (h1 : s1.Inv) : (State.laneLos s1 x2 x3).Inv := by
  unfold State.laneLos
  with_reducible repeat' first | intro _ | assumption | apply State.modLane_inv | apply State.raise_inv | apply State.wr_inv | apply State.loopSignalLost_inv | apply State.enterLane_inv | apply State.stopInjection_inv | apply State.inv_ite | split | apply State.inv_mk

theorem State.laneSigOk_inv {s1 : State} {x2 : Nat} {x3 : Nat} (h1 : s1.Inv) : (State.laneSigOk s1 x2 x3).Inv := by
  unfold State.laneSigOk
  with_reducible repeat' first | intro _ | assumption | apply State.modLane_inv | apply State.wr_inv | apply State.clearTraining_inv | apply State.startAttempt_inv | apply State.enterLane_inv | apply State.raise_inv | apply State.inv_ite | split | apply State.inv_mk

theorem State.laneAcquired_inv {s1 : State} {x2 : Nat} {x3 : Nat} (h1 : s1.Inv) : (State.laneAcquired s1 x2 x3).Inv := by
  unfold State.laneAcquired
  with_reducible repeat' first | intro _ | assumption | apply State.wr_inv | apply State.enterPreset_inv | apply State.enterLane_inv | apply State.resumeLoop_inv | apply State.modLane_inv | apply State.inv_ite | split | apply State.inv_mk

theorem State.laneAcquireTimeout_inv {s1 : State} {x2 : Nat} (h1 : s1.Inv) : (State.laneAcquireTimeout s1 x2).Inv := by
  unfold State.laneAcquireTimeout
  with_reducible repeat' first | intro _ | assumption | apply State.modLane_inv | apply State.raise_inv | apply State.inv_ite | split | apply State.inv_mk

theorem State.laneCdrLoss_inv {s1 : State} {x2 : Nat} (h1 : s1.Inv) : (State.laneCdrLoss s1 x2).Inv := by
  unfold State.laneCdrLoss
  with_reducible repeat' first | intro _ | assumption | apply State.loopSignalLost_inv | apply State.stopInjection_inv | apply State.wr_inv | apply State.enterLane_inv | apply State.raise_inv | apply State.modLane_inv | apply State.inv_ite | split | apply State.inv_mk

theorem State.laneAdapt_inv {s1 : State} {x2 : Nat} {x3 : RxCoef} (h1 : s1.Inv) : (State.laneAdapt s1 x2 x3).Inv := by
  unfold State.laneAdapt
  with_reducible repeat' first | intro _ | assumption | apply State.raiseIf_inv | apply State.modLane_inv | apply State.inv_ite | split | apply State.inv_mk

theorem State.laneEqReset_inv {s1 : State} {x2 : Nat} {x3 : Nat} (h1 : s1.Inv) : (State.laneEqReset s1 x2 x3).Inv := by
  unfold State.laneEqReset
  with_reducible repeat' first | intro _ | assumption | apply State.modLane_inv | apply State.raise_inv | apply State.incWrap_inv | apply State.inv_ite | split | apply State.inv_mk

theorem State.publishLane_inv {s1 : State} {x2 : Nat} (h1 : s1.Inv) : (State.publishLane s1 x2).Inv := by
  unfold State.publishLane
  with_reducible repeat' first | intro _ | assumption | apply State.modLane_inv | apply State.wr_inv | apply State.setReg_inv | apply State.inv_ite | split | apply State.inv_mk

theorem State.trainDone_inv {s1 : State} {x2 : Nat} {x3 : Word} {x4 : Word} {x5 : Bool} (h1 : s1.Inv) : (State.trainDone s1 x2 x3 x4 x5).Inv := by
  unfold State.trainDone
  with_reducible repeat' first | intro _ | assumption | apply State.wr_inv | apply State.wrBool_inv | apply State.modLane_inv | apply State.later_inv | apply State.raise_inv | apply State.inv_ite | split | apply State.inv_mk

theorem State.laneDataAt_inv {s1 : State} {x2 : Nat} (h1 : s1.Inv) : (State.laneDataAt s1 x2).Inv := by
  unfold State.laneDataAt
  with_reducible repeat' first | intro _ | assumption | apply State.resumeLoop_inv | apply State.wr_inv | apply State.enterLane_inv | apply State.inv_ite | split | apply State.inv_mk

theorem State.trainAttemptEnd_inv {s1 : State} {x2 : Nat} {x3 : Bool} (h1 : s1.Inv) : (State.trainAttemptEnd s1 x2 x3).Inv := by
  unfold State.trainAttemptEnd
  with_reducible repeat' first | intro _ | assumption | apply State.wr_inv | apply State.enterPreset_inv | apply State.modLane_inv | apply State.startAttempt_inv | apply State.raise_inv | apply State.inv_ite | split | apply State.inv_mk

theorem State.backoffRetry_inv {s1 : State} {x2 : Nat} (h1 : s1.Inv) : (State.backoffRetry s1 x2).Inv := by
  unfold State.backoffRetry
  with_reducible repeat' first | intro _ | assumption | apply State.modLane_inv | apply State.startAttempt_inv | apply State.inv_ite | split | apply State.inv_mk

theorem State.restartTraining_inv {s1 : State} {x2 : Nat} (h1 : s1.Inv) : (State.restartTraining s1 x2).Inv := by
  unfold State.restartTraining
  with_reducible repeat' first | intro _ | assumption | apply State.clearTraining_inv | apply State.later_inv | apply State.inv_ite | split | apply State.inv_mk

theorem State.laneTrainAt_inv {s1 : State} {x2 : Nat} (h1 : s1.Inv) : (State.laneTrainAt s1 x2).Inv := by
  unfold State.laneTrainAt
  with_reducible repeat' first | intro _ | assumption | apply State.startAttempt_inv | apply State.inv_ite | split | apply State.inv_mk

theorem State.setBackoffDis_inv {s1 : State} {x2 : Nat} {x3 : Bool} (h1 : s1.Inv) : (State.setBackoffDis s1 x2 x3).Inv := by
  unfold State.setBackoffDis
  with_reducible repeat' first | intro _ | assumption | apply State.wrBool_inv | apply State.modLane_inv | apply State.inv_ite | split | apply State.inv_mk

theorem State.setLoop_inv {s1 : State} {x2 : Nat} {x3 : Nat} {x4 : Bool} (h1 : s1.Inv) : (State.setLoop s1 x2 x3 x4).Inv := by
  unfold State.setLoop
  with_reducible repeat' first | intro _ | assumption | apply State.later_inv | apply State.wrBool_inv | apply State.wr_inv | apply State.inv_ite | split | apply State.inv_mk

theorem State.releaseLoop_inv {s1 : State} {x2 : Nat} (h1 : s1.Inv) : (State.releaseLoop s1 x2).Inv := by
  unfold State.releaseLoop
  with_reducible repeat' first | intro _ | assumption | apply State.later_inv | apply State.wr_inv | apply State.inv_ite | split | apply State.inv_mk

theorem State.loopOffAt_inv {s1 : State} {x2 : Nat} (h1 : s1.Inv) : (State.loopOffAt s1 x2).Inv := by
  unfold State.loopOffAt
  with_reducible repeat' first | intro _ | assumption | apply State.wr_inv | apply State.modLane_inv | apply State.clearTraining_inv | apply State.raiseIf_inv | apply State.startAttempt_inv | apply State.enterLane_inv | apply State.inv_ite | split | apply State.inv_mk

theorem State.loopOnAt_inv {s1 : State} {x2 : Nat} {x3 : Nat} (h1 : s1.Inv) : (State.loopOnAt s1 x2 x3).Inv := by
  unfold State.loopOnAt
  with_reducible repeat' first | intro _ | assumption | apply State.loopOffAt_inv | apply State.modLane_inv | apply State.enterLane_inv | apply State.clearTraining_inv | apply State.raiseIf_inv | apply State.wr_inv | apply State.inv_ite | split | apply State.inv_mk

theorem State.loopLostAt_inv {s1 : State} {x2 : Nat} (h1 : s1.Inv) : (State.loopLostAt s1 x2).Inv := by
  unfold State.loopLostAt
  with_reducible repeat' first | intro _ | assumption | apply State.raise_inv | apply State.modLane_inv | apply State.wr_inv | apply State.inv_ite | split | apply State.inv_mk

theorem State.patSync_inv {s1 : State} {x2 : Nat} {x3 : Nat} {x4 : Bool} (h1 : s1.Inv) : (State.patSync s1 x2 x3 x4).Inv := by
  unfold State.patSync
  with_reducible repeat' first | intro _ | assumption | apply State.raise_inv | apply State.wrBool_inv | apply State.wr_inv | apply State.inv_ite | split | apply State.inv_mk

theorem State.patSyncLoss_inv {s1 : State} {x2 : Nat} {x3 : Nat} (h1 : s1.Inv) : (State.patSyncLoss s1 x2 x3).Inv := by
  unfold State.patSyncLoss
  with_reducible repeat' first | intro _ | assumption | apply State.raise_inv | apply State.wr_inv | apply State.inv_ite | split | apply State.inv_mk

theorem State.patCount_inv {s1 : State} {x2 : Nat} {x3 : Nat} {x4 : Nat} (h1 : s1.Inv) : (State.patCount s1 x2 x3 x4).Inv := by
  unfold State.patCount
  with_reducible repeat' first | intro _ | assumption | apply State.count_inv | apply State.raiseIf_inv | apply State.inv_ite | split | apply State.inv_mk

theorem State.patClearAt_inv {s1 : State} {x2 : Nat} (h1 : s1.Inv) : (State.patClearAt s1 x2).Inv := by
  unfold State.patClearAt
  with_reducible repeat' first | intro _ | assumption | apply State.setCtr_inv | apply State.inv_ite | split | apply State.inv_mk

theorem State.injectAt_inv {s1 : State} {x2 : Nat} {x3 : Nat} (h1 : s1.Inv) : (State.injectAt s1 x2 x3).Inv := by
  unfold State.injectAt
  with_reducible repeat' first | intro _ | assumption | apply State.modLane_inv | apply State.inv_ite | split | apply State.inv_mk

theorem execLaneAdapt_inv {x1 : Fin 128} {x2 : RxCoef} {s3 : State} (h3 : s3.Inv) {t : State} (ht : execLaneAdapt x1 x2 s3 = .next t) : t.Inv := by
  unfold execLaneAdapt at ht; cases ht
  with_reducible repeat' first | intro _ | assumption | apply State.laneAdapt_inv | apply State.inv_ite | split | apply State.inv_mk

theorem execLaneEqReset_inv {x1 : Fin 128} {x2 : Nat} {s3 : State} (h3 : s3.Inv) {t : State} (ht : execLaneEqReset x1 x2 s3 = .next t) : t.Inv := by
  unfold execLaneEqReset at ht; cases ht
  with_reducible repeat' first | intro _ | assumption | apply State.laneEqReset_inv | apply State.inv_ite | split | apply State.inv_mk

theorem execLaneLos_inv {x1 : Fin 128} {x2 : Nat} {s3 : State} (h3 : s3.Inv) {t : State} (ht : execLaneLos x1 x2 s3 = .next t) : t.Inv := by
  unfold execLaneLos at ht; cases ht
  with_reducible repeat' first | intro _ | assumption | apply State.laneLos_inv | apply State.inv_ite | split | apply State.inv_mk

theorem execLaneSigOk_inv {x1 : Fin 128} {x2 : Nat} {s3 : State} (h3 : s3.Inv) {t : State} (ht : execLaneSigOk x1 x2 s3 = .next t) : t.Inv := by
  unfold execLaneSigOk at ht; cases ht
  with_reducible repeat' first | intro _ | assumption | apply State.laneSigOk_inv | apply State.inv_ite | split | apply State.inv_mk

theorem execLaneAcquired_inv {x1 : Fin 128} {x2 : Nat} {s3 : State} (h3 : s3.Inv) {t : State} (ht : execLaneAcquired x1 x2 s3 = .next t) : t.Inv := by
  unfold execLaneAcquired at ht; cases ht
  with_reducible repeat' first | intro _ | assumption | apply State.laneAcquired_inv | apply State.inv_ite | split | apply State.inv_mk

theorem execLaneAcquireTimeout_inv {x1 : Fin 128} {s2 : State} (h2 : s2.Inv) {t : State} (ht : execLaneAcquireTimeout x1 s2 = .next t) : t.Inv := by
  unfold execLaneAcquireTimeout at ht; cases ht
  with_reducible repeat' first | intro _ | assumption | apply State.laneAcquireTimeout_inv | apply State.inv_ite | split | apply State.inv_mk

theorem execLaneCdrLoss_inv {x1 : Fin 128} {s2 : State} (h2 : s2.Inv) {t : State} (ht : execLaneCdrLoss x1 s2 = .next t) : t.Inv := by
  unfold execLaneCdrLoss at ht; cases ht
  with_reducible repeat' first | intro _ | assumption | apply State.laneCdrLoss_inv | apply State.inv_ite | split | apply State.inv_mk

theorem execTrainDone_inv {x1 : Fin 128} {x2 : Word} {x3 : Word} {x4 : Bool} {s5 : State} (h5 : s5.Inv) {t : State} (ht : execTrainDone x1 x2 x3 x4 s5 = .next t) : t.Inv := by
  unfold execTrainDone at ht; cases ht
  with_reducible repeat' first | intro _ | assumption | apply State.trainDone_inv | apply State.inv_ite | split | apply State.inv_mk

theorem execTrainAttemptEnd_inv {x1 : Fin 128} {x2 : Bool} {s3 : State} (h3 : s3.Inv) {t : State} (ht : execTrainAttemptEnd x1 x2 s3 = .next t) : t.Inv := by
  unfold execTrainAttemptEnd at ht; cases ht
  with_reducible repeat' first | intro _ | assumption | apply State.trainAttemptEnd_inv | apply State.inv_ite | split | apply State.inv_mk

theorem execBackoffRetry_inv {x1 : Fin 128} {s2 : State} (h2 : s2.Inv) {t : State} (ht : execBackoffRetry x1 s2 = .next t) : t.Inv := by
  unfold execBackoffRetry at ht; cases ht
  with_reducible repeat' first | intro _ | assumption | apply State.backoffRetry_inv | apply State.inv_ite | split | apply State.inv_mk

theorem execTrainingRestart_inv {x1 : Initiator} {s2 : State} (h2 : s2.Inv) {t : State} (ht : execTrainingRestart x1 s2 = .next t) : t.Inv := by
  unfold execTrainingRestart at ht; cases ht
  with_reducible repeat' first | intro _ | assumption | apply State.write_inv | apply State.restartTraining_inv | apply State.inv_ite | split | apply State.inv_mk

theorem execBackoffDisWrite_inv {x1 : Initiator} {x2 : Bool} {s3 : State} (h3 : s3.Inv) {t : State} (ht : execBackoffDisWrite x1 x2 s3 = .next t) : t.Inv := by
  unfold execBackoffDisWrite at ht; cases ht
  with_reducible repeat' first | intro _ | assumption | apply State.write_inv | apply State.setBackoffDis_inv | apply State.inv_ite | split | apply State.inv_mk

theorem execLoopbackSet_inv {x1 : Initiator} {x2 : Fin 4} {x3 : Bool} {s4 : State} (h4 : s4.Inv) {t : State} (ht : execLoopbackSet x1 x2 x3 s4 = .next t) : t.Inv := by
  unfold execLoopbackSet at ht; cases ht
  with_reducible repeat' first | intro _ | assumption | apply State.write_inv | apply State.setLoop_inv | apply State.inv_ite | split | apply State.inv_mk

theorem execLoopbackRelease_inv {x1 : Initiator} {s2 : State} (h2 : s2.Inv) {t : State} (ht : execLoopbackRelease x1 s2 = .next t) : t.Inv := by
  unfold execLoopbackRelease at ht; cases ht
  with_reducible repeat' first | intro _ | assumption | apply State.write_inv | apply State.releaseLoop_inv | apply State.inv_ite | split | apply State.inv_mk

theorem execPatSync_inv {x1 : Fin 128} {x2 : Nat} {x3 : Bool} {s4 : State} (h4 : s4.Inv) {t : State} (ht : execPatSync x1 x2 x3 s4 = .next t) : t.Inv := by
  unfold execPatSync at ht; cases ht
  with_reducible repeat' first | intro _ | assumption | apply State.patSync_inv | apply State.inv_ite | split | apply State.inv_mk

theorem execPatSyncLoss_inv {x1 : Fin 128} {x2 : Nat} {s3 : State} (h3 : s3.Inv) {t : State} (ht : execPatSyncLoss x1 x2 s3 = .next t) : t.Inv := by
  unfold execPatSyncLoss at ht; cases ht
  with_reducible repeat' first | intro _ | assumption | apply State.patSyncLoss_inv | apply State.inv_ite | split | apply State.inv_mk

theorem execPatChkClr_inv {x1 : Initiator} {s2 : State} (h2 : s2.Inv) {t : State} (ht : execPatChkClr x1 s2 = .next t) : t.Inv := by
  unfold execPatChkClr at ht; cases ht
  with_reducible repeat' first | intro _ | assumption | apply State.write_inv | apply State.later_inv | apply State.inv_ite | split | apply State.inv_mk

theorem execInjectSingle_inv {x1 : Initiator} {s2 : State} (h2 : s2.Inv) {t : State} (ht : execInjectSingle x1 s2 = .next t) : t.Inv := by
  unfold execInjectSingle at ht; cases ht
  with_reducible repeat' first | intro _ | assumption | apply State.write_inv | apply State.later_inv | apply State.inv_ite | split | apply State.inv_mk

theorem State.injectBurst_inv {s1 : State} {x2 : Nat} {x3 : Nat} (h1 : s1.Inv) : (State.injectBurst s1 x2 x3).Inv := by
  unfold State.injectBurst
  with_reducible repeat' first | intro _ | assumption | apply State.later_inv | apply State.wr_inv | apply State.inv_ite | split | apply State.inv_mk

theorem execInjectBurst_inv {x1 : Initiator} {x2 : Fin 256} {s3 : State} (h3 : s3.Inv) {t : State} (ht : execInjectBurst x1 x2 s3 = .next t) : t.Inv := by
  unfold execInjectBurst at ht; cases ht
  with_reducible repeat' first | intro _ | assumption | apply State.write_inv | apply State.injectBurst_inv | apply State.inv_ite | split | apply State.inv_mk

theorem State.txFault_inv {s1 : State} {x2 : Nat} (h1 : s1.Inv) : (State.txFault s1 x2).Inv := by
  unfold State.txFault
  with_reducible repeat' first | intro _ | assumption | apply State.raise_inv | apply State.modLane_inv | apply State.inv_ite | split | apply State.inv_mk

theorem execTxFault_inv {x1 : Fin 128} {s2 : State} (h2 : s2.Inv) {t : State} (ht : execTxFault x1 s2 = .next t) : t.Inv := by
  unfold execTxFault at ht; cases ht
  with_reducible repeat' first | intro _ | assumption | apply State.txFault_inv | apply State.inv_ite | split | apply State.inv_mk

theorem execLnErrLoRead_inv {x1 : Initiator} {s2 : State} (h2 : s2.Inv) {t : State} (ht : execLnErrLoRead x1 s2 = .next t) : t.Inv := by
  unfold execLnErrLoRead at ht; cases ht
  with_reducible repeat' first | intro _ | assumption | apply State.readLatched_inv | apply State.inv_ite | split | apply State.inv_mk

theorem execLnBitsLoRead_inv {x1 : Initiator} {s2 : State} (h2 : s2.Inv) {t : State} (ht : execLnBitsLoRead x1 s2 = .next t) : t.Inv := by
  unfold execLnBitsLoRead at ht; cases ht
  with_reducible repeat' first | intro _ | assumption | apply State.readLatched_inv | apply State.inv_ite | split | apply State.inv_mk

theorem State.startStores_inv {s1 : State} {x2 : Nat} {x3 : Nat} (h1 : s1.Inv) : (State.startStores s1 x2 x3).Inv := by
  unfold State.startStores
  with_reducible repeat' first | intro _ | assumption | apply State.each_inv | apply State.publishStore_inv | apply State.setStore_inv | apply State.inv_ite | split | apply State.inv_mk

theorem State.restartLane_inv {s1 : State} {x2 : Nat} (h1 : s1.Inv) : (State.restartLane s1 x2).Inv := by
  unfold State.restartLane
  with_reducible repeat' first | intro _ | assumption | apply State.setLane_inv | apply State.setReg_inv | apply State.enterLane_inv | apply State.modLane_inv | apply State.later_inv | apply State.inv_ite | split | apply State.inv_mk

theorem State.restartTrains_inv {s1 : State} {x2 : List Nat} (h1 : s1.Inv) : (State.restartTrains s1 x2).Inv := by
  unfold State.restartTrains
  with_reducible repeat' first | intro _ | assumption | apply State.each_inv | apply State.setReg_inv | apply State.setTrain_inv | apply State.inv_ite | split | apply State.inv_mk

theorem State.restartQuay_inv {s1 : State} {x2 : Nat} (h1 : s1.Inv) : (State.restartQuay s1 x2).Inv := by
  unfold State.restartQuay
  with_reducible repeat' first | intro _ | assumption | apply State.setClient_inv | apply State.restartTrains_inv | apply State.setReg_inv | apply State.inv_ite | split | apply State.inv_mk

theorem State.restartEngine_inv {s1 : State} {x2 : Nat} (h1 : s1.Inv) : (State.restartEngine s1 x2).Inv := by
  unfold State.restartEngine
  with_reducible repeat' first | intro _ | assumption | apply State.engineClassT_inv | apply State.each_inv | apply State.modFrame_inv | apply State.setTideSc_inv | apply State.setHub_inv | apply State.setTideLeaf_inv | apply State.cutCapture_inv | apply State.restartContexts_inv | apply State.startTol_inv | apply State.restartTrains_inv | apply State.startStores_inv | apply State.inv_ite | split | apply State.inv_mk

theorem State.restartGroup_inv {s1 : State} {x2 : Nat} (h1 : s1.Inv) : (State.restartGroup s1 x2).Inv := by
  unfold State.restartGroup
  with_reducible repeat' first | intro _ | assumption | apply State.setMerge_inv | apply State.enterMerge_inv | apply State.setReg_inv | apply State.inv_ite | split | apply State.inv_mk

theorem State.restartPort_inv {s1 : State} {x2 : Nat} (h1 : s1.Inv) : (State.restartPort s1 x2).Inv := by
  unfold State.restartPort
  with_reducible repeat' first | intro _ | assumption | apply State.restartTrains_inv | apply State.startStores_inv | apply State.inv_ite | split | apply State.inv_mk

theorem State.restartResource_inv {s1 : State} {x2 : Resource} (h1 : s1.Inv) : (State.restartResource s1 x2).Inv := by
  unfold State.restartResource
  with_reducible repeat' first | intro _ | assumption | apply State.restartLane_inv | apply State.restartQuay_inv | apply State.restartEngine_inv | apply State.restartGroup_inv | apply State.restartPort_inv | apply State.inv_ite | split | apply State.inv_mk

theorem State.restartAll_inv {s1 : State} (h1 : s1.Inv) : (State.restartAll s1).Inv := by
  unfold State.restartAll
  with_reducible repeat' first | intro _ | assumption | apply State.each_inv | apply State.restartResource_inv | apply State.inv_ite | split | apply State.inv_mk

theorem State.setResource_inv {s1 : State} {x2 : Image} {x3 : Resource} (h1 : s1.Inv) : (State.setResource s1 x2 x3).Inv := by
  unfold State.setResource
  with_reducible repeat' first | intro _ | assumption | apply State.setReg_inv | apply State.setFormat_inv | apply State.wr_inv | apply State.each_inv | apply State.inv_ite | split | apply State.inv_mk

theorem State.setShared_inv {s1 : State} {x2 : Image} {x3 : Image} {x4 : Bool} (h1 : s1.Inv) : (State.setShared s1 x2 x3 x4).Inv := by
  unfold State.setShared
  with_reducible repeat' first | intro _ | assumption | apply State.wr_inv | apply State.each_inv | apply State.restartTrains_inv | apply State.setReg_inv | apply State.inv_ite | split | apply State.inv_mk

theorem State.setContexts_inv {s1 : State} {x2 : Image} {x3 : Image} (h1 : s1.Inv) : (State.setContexts s1 x2 x3).Inv := by
  unfold State.setContexts
  with_reducible repeat' first | intro _ | assumption | apply State.each_inv | apply State.setChange_inv | apply State.setKey_inv | apply State.setReg_inv | apply State.setEncCtx_inv | apply State.startCtx_inv | apply State.wr_inv | apply State.modCtx_inv | apply State.inv_ite | split | apply State.inv_mk

theorem State.loadKeys_inv {s1 : State} {x2 : Image} (h1 : s1.Inv) : (State.loadKeys s1 x2).Inv := by
  unfold State.loadKeys
  with_reducible repeat' first | intro _ | assumption | apply State.each_inv | apply State.raise_inv | apply State.setKey_inv | apply State.inv_ite | split | apply State.inv_mk

theorem State.setApplets_inv {s1 : State} {x2 : Image} {x3 : Image} {x4 : Bool} (h1 : s1.Inv) : (State.setApplets s1 x2 x3 x4).Inv := by
  unfold State.setApplets
  with_reducible repeat' first | intro _ | assumption | apply State.each_inv | apply State.wr_inv | apply State.inv_ite | split | apply State.inv_mk

theorem State.loadBank_inv {s1 : State} {x2 : Nat} {x3 : Image} (h1 : s1.Inv) : (State.loadBank s1 x2 x3).Inv := by
  unfold State.loadBank
  with_reducible repeat' first | intro _ | assumption | apply State.each_inv | apply State.setManifest_inv | apply State.inv_ite | split | apply State.inv_mk

theorem State.setImgState_inv {s1 : State} {x2 : Nat} (h1 : s1.Inv) : (State.setImgState s1 x2).Inv := by
  unfold State.setImgState
  with_reducible repeat' first | intro _ | assumption | apply State.wr_inv | apply State.inv_ite | split | apply State.inv_mk

theorem State.imgResult_inv {s1 : State} {x2 : Nat} (h1 : s1.Inv) : (State.imgResult s1 x2).Inv := by
  unfold State.imgResult
  with_reducible repeat' first | intro _ | assumption | apply State.wr_inv | apply State.inv_ite | split | apply State.inv_mk

theorem State.imgEvent_inv {s1 : State} {x2 : Nat} (h1 : s1.Inv) : (State.imgEvent s1 x2).Inv := by
  unfold State.imgEvent
  with_reducible repeat' first | intro _ | assumption | apply State.raise_inv | apply State.inv_ite | split | apply State.inv_mk

theorem State.showBroken_inv {s1 : State} {x2 : Broken} (h1 : s1.Inv) : (State.showBroken s1 x2).Inv := by
  unfold State.showBroken
  with_reducible repeat' first | intro _ | assumption | apply State.wr_inv | apply State.inv_ite | split | apply State.inv_mk

theorem State.dropApply_inv {s1 : State} (h1 : s1.Inv) : (State.dropApply s1).Inv := by
  unfold State.dropApply
  with_reducible repeat' first | intro _ | assumption | apply State.setImgState_inv | apply State.modSwap_inv | apply State.inv_ite | split | apply State.inv_mk

theorem State.loadImage_inv {s1 : State} {x2 : Nat} {x3 : Image} (h1 : s1.Inv) : (State.loadImage s1 x2 x3).Inv := by
  unfold State.loadImage
  with_reducible repeat' first | intro _ | assumption | apply State.wr_inv | apply State.imgResult_inv | apply State.modSwap_inv | apply State.setImgState_inv | apply State.loadBank_inv | apply State.later_inv | apply State.inv_ite | split | apply State.inv_mk

theorem State.imageApply_inv {s1 : State} {x2 : Nat} {x3 : Image} (h1 : s1.Inv) : (State.imageApply s1 x2 x3).Inv := by
  unfold State.imageApply
  with_reducible repeat' first | intro _ | assumption | apply State.imgResult_inv | apply State.loadImage_inv | apply State.inv_ite | split | apply State.inv_mk

theorem State.imageRevert_inv {s1 : State} (h1 : s1.Inv) : (State.imageRevert s1).Inv := by
  unfold State.imageRevert
  with_reducible repeat' first | intro _ | assumption | apply State.imgResult_inv | apply State.loadImage_inv | apply State.inv_ite | split | apply State.inv_mk

theorem State.applyDone_inv {s1 : State} (h1 : s1.Inv) : (State.applyDone s1).Inv := by
  unfold State.applyDone
  with_reducible repeat' first | intro _ | assumption | apply State.imgEvent_inv | apply State.imgResult_inv | apply State.dropApply_inv | apply State.showBroken_inv | apply State.wrBool_inv | apply State.setImgState_inv | apply State.inv_ite | split | apply State.inv_mk

theorem State.imageCommitAt_inv {s1 : State} {x2 : Tick} {x3 : Tick} {x4 : Bool} {x5 : Bool} (h1 : s1.Inv) : (State.imageCommitAt s1 x2 x3 x4 x5).Inv := by
  unfold State.imageCommitAt
  with_reducible repeat' first | intro _ | assumption | apply State.imgResult_inv | apply State.tickLate_inv | apply State.gridArm_inv | apply State.setImgState_inv | apply State.inv_ite | split | apply State.inv_mk

theorem State.imageAbort_inv {s1 : State} {x2 : Tick} (h1 : s1.Inv) : (State.imageAbort s1 x2).Inv := by
  unfold State.imageAbort
  with_reducible repeat' first | intro _ | assumption | apply State.imgResult_inv | apply State.swapResult_inv | apply State.endSwap_inv | apply State.dropApply_inv | apply State.inv_ite | split | apply State.inv_mk

theorem State.startRecord_inv {s1 : State} {x2 : Nat} {x3 : Image} (h1 : s1.Inv) : (State.startRecord s1 x2 x3).Inv := by
  unfold State.startRecord
  with_reducible repeat' first | intro _ | assumption | apply State.setImgState_inv | apply State.inv_ite | split | apply State.inv_mk

theorem State.imagePersist_inv {s1 : State} {x2 : Nat} {x3 : Image} (h1 : s1.Inv) : (State.imagePersist s1 x2 x3).Inv := by
  unfold State.imagePersist
  with_reducible repeat' first | intro _ | assumption | apply State.imgResult_inv | apply State.showBroken_inv | apply State.startRecord_inv | apply State.inv_ite | split | apply State.inv_mk

theorem State.recordDone_inv {s1 : State} {x2 : Option CommitRecord} {x3 : Option CommitRecord} {x4 : Bool} (h1 : s1.Inv) : (State.recordDone s1 x2 x3 x4).Inv := by
  unfold State.recordDone
  with_reducible repeat' first | intro _ | assumption | apply State.send_inv | apply State.imgResult_inv | apply State.setImgState_inv | apply State.imgEvent_inv | apply State.inv_ite | split | apply State.inv_mk

theorem State.showFuses_inv {s1 : State} (h1 : s1.Inv) : (State.showFuses s1).Inv := by
  unfold State.showFuses
  with_reducible repeat' first | intro _ | assumption | apply State.wrBool_inv | apply State.wr_inv | apply State.inv_ite | split | apply State.inv_mk

theorem State.clearFuseData_inv {s1 : State} (h1 : s1.Inv) : (State.clearFuseData s1).Inv := by
  unfold State.clearFuseData
  with_reducible repeat' first | intro _ | assumption | apply State.each_inv | apply State.setReg_inv | apply State.inv_ite | split | apply State.inv_mk

theorem State.fuseResult_inv {s1 : State} {x2 : Nat} (h1 : s1.Inv) : (State.fuseResult s1 x2).Inv := by
  unfold State.fuseResult
  with_reducible repeat' first | intro _ | assumption | apply State.wr_inv | apply State.inv_ite | split | apply State.inv_mk

theorem State.fuseProgram_inv {s1 : State} {x2 : Word} (h1 : s1.Inv) : (State.fuseProgram s1 x2).Inv := by
  unfold State.fuseProgram
  with_reducible repeat' first | intro _ | assumption | apply State.wr_inv | apply State.fuseResult_inv | apply State.inv_ite | split | apply State.inv_mk

theorem State.fuseDone_inv {s1 : State} {x2 : FuseEnd} (h1 : s1.Inv) : (State.fuseDone s1 x2).Inv := by
  unfold State.fuseDone
  with_reducible repeat' first | intro _ | assumption | apply State.wr_inv | apply State.clearFuseData_inv | apply State.raiseSource_inv | apply State.fuseResult_inv | apply State.inv_ite | split | apply State.inv_mk

theorem State.debugUnlock_inv {s1 : State} (h1 : s1.Inv) : (State.debugUnlock s1).Inv := by
  unfold State.debugUnlock
  with_reducible repeat' first | intro _ | assumption | apply State.raiseSource_inv | apply State.wr_inv | apply State.inv_ite | split | apply State.inv_mk

theorem State.keepImgCmd_inv {s1 : State} {x2 : Word} (h1 : s1.Inv) : (State.keepImgCmd s1 x2).Inv := by
  unfold State.keepImgCmd
  with_reducible repeat' first | intro _ | assumption | apply State.wr_inv | apply State.inv_ite | split | apply State.inv_mk

theorem State.imgCommand_inv {s1 : State} {x2 : Initiator} {x3 : Word} {x4 : Write} {f5 : State → State} (h1 : s1.Inv) (h5 : ∀ (y0 : State), y0.Inv → (f5 y0).Inv) : (State.imgCommand s1 x2 x3 x4 f5).Inv := by
  unfold State.imgCommand
  with_reducible repeat' first | intro _ | assumption | apply h5 | apply State.busError_inv | apply State.write_inv | apply State.keepImgCmd_inv | apply State.inv_ite | split | apply State.inv_mk

theorem execImgApply_inv {x1 : Initiator} {x2 : Word} {x3 : Image} {s4 : State} (h4 : s4.Inv) {t : State} (ht : execImgApply x1 x2 x3 s4 = .next t) : t.Inv := by
  unfold execImgApply at ht; cases ht
  with_reducible repeat' first | intro _ | assumption | apply State.imgCommand_inv | apply State.imageApply_inv | apply State.inv_ite | split | apply State.inv_mk

theorem execApplyDone_inv {s1 : State} (h1 : s1.Inv) {t : State} (ht : execApplyDone s1 = .next t) : t.Inv := by
  unfold execApplyDone at ht; cases ht
  with_reducible repeat' first | intro _ | assumption | apply State.applyDone_inv | apply State.inv_ite | split | apply State.inv_mk

theorem execImgCommit_inv {x1 : Initiator} {x2 : Word} {s3 : State} (h3 : s3.Inv) {t : State} (ht : execImgCommit x1 x2 s3 = .next t) : t.Inv := by
  unfold execImgCommit at ht; cases ht
  with_reducible repeat' first | intro _ | assumption | apply State.reply_inv | apply State.imgResult_inv | apply State.keepImgCmd_inv | apply State.imgCommand_inv | apply State.imageCommitAt_inv | apply State.inv_ite | split | apply State.inv_mk

theorem execImgAbort_inv {x1 : Initiator} {x2 : Word} {s3 : State} (h3 : s3.Inv) {t : State} (ht : execImgAbort x1 x2 s3 = .next t) : t.Inv := by
  unfold execImgAbort at ht; cases ht
  with_reducible repeat' first | intro _ | assumption | apply State.imgCommand_inv | apply State.imageAbort_inv | apply State.inv_ite | split | apply State.inv_mk

theorem execImgPersist_inv {x1 : Initiator} {x2 : Word} {x3 : Image} {s4 : State} (h4 : s4.Inv) {t : State} (ht : execImgPersist x1 x2 x3 s4 = .next t) : t.Inv := by
  unfold execImgPersist at ht; cases ht
  with_reducible repeat' first | intro _ | assumption | apply State.busError_inv | apply State.reply_inv | apply State.imagePersist_inv | apply State.keepImgCmd_inv | apply State.inv_ite | split | apply State.inv_mk

theorem execImgRevert_inv {x1 : Initiator} {x2 : Word} {s3 : State} (h3 : s3.Inv) {t : State} (ht : execImgRevert x1 x2 s3 = .next t) : t.Inv := by
  unfold execImgRevert at ht; cases ht
  with_reducible repeat' first | intro _ | assumption | apply State.imgCommand_inv | apply State.imageRevert_inv | apply State.inv_ite | split | apply State.inv_mk

theorem execRecordWriteDone_inv {x1 : Option CommitRecord} {x2 : Option CommitRecord} {x3 : Bool} {s4 : State} (h4 : s4.Inv) {t : State} (ht : execRecordWriteDone x1 x2 x3 s4 = .next t) : t.Inv := by
  unfold execRecordWriteDone at ht; cases ht
  with_reducible repeat' first | intro _ | assumption | apply State.recordDone_inv | apply State.inv_ite | split | apply State.inv_mk

theorem execFuseProgram_inv {x1 : Initiator} {x2 : Word} {s3 : State} (h3 : s3.Inv) {t : State} (ht : execFuseProgram x1 x2 s3 = .next t) : t.Inv := by
  unfold execFuseProgram at ht; cases ht
  with_reducible repeat' first | intro _ | assumption | apply State.reply_inv | apply State.fuseProgram_inv | apply State.busError_inv | apply State.inv_ite | split | apply State.inv_mk

theorem execFuseDone_inv {x1 : FuseEnd} {s2 : State} (h2 : s2.Inv) {t : State} (ht : execFuseDone x1 s2 = .next t) : t.Inv := by
  unfold execFuseDone at ht; cases ht
  with_reducible repeat' first | intro _ | assumption | apply State.fuseDone_inv | apply State.inv_ite | split | apply State.inv_mk

theorem execDebugUnlock_inv {x1 : Initiator} {x2 : Word} {s3 : State} (h3 : s3.Inv) {t : State} (ht : execDebugUnlock x1 x2 s3 = .next t) : t.Inv := by
  unfold execDebugUnlock at ht; cases ht
  with_reducible repeat' first | intro _ | assumption | apply State.reply_inv | apply State.debugUnlock_inv | apply State.busError_inv | apply State.inv_ite | split | apply State.inv_mk

end Sys2Proof.Machine
end

