-- ==== Sys2Proof/Laws/InvMate.lean ====
section
/-! SUPPORT. The invariant `State.Inv` through each function of Mate, Hierarchy: one lemma per function, named after
it. -/

namespace Sys2Proof.Machine

set_option Elab.async false


theorem State.modMate_inv {s1 : State} {f2 : Mate → Mate} (h1 : s1.Inv) : (State.modMate s1 f2).Inv := by
  unfold State.modMate
  with_reducible repeat' first | intro _ | assumption | apply h2 | apply State.inv_ite | split | apply State.inv_mk

theorem State.showMate_inv {s1 : State} (h1 : s1.Inv) : (State.showMate s1).Inv := by
  unfold State.showMate
  with_reducible repeat' first | intro _ | assumption | apply State.wrBool_inv | apply State.modMate_inv | apply State.inv_ite | split | apply State.inv_mk

theorem State.degraded_inv {s1 : State} (h1 : s1.Inv) : (State.degraded s1).Inv := by
  unfold State.degraded
  with_reducible repeat' first | intro _ | assumption | apply State.raiseIf_inv | apply State.inv_ite | split | apply State.inv_mk

theorem State.mateHoldChanged_inv {s1 : State} {x2 : Bool} (h1 : s1.Inv) : (State.mateHoldChanged s1 x2).Inv := by
  unfold State.mateHoldChanged
  with_reducible repeat' first | intro _ | assumption | apply State.each_inv | apply State.modEngine_inv | apply State.showHolds_inv | apply State.followRequest_inv | apply State.inv_ite | split | apply State.inv_mk

theorem State.setMateState_inv {s1 : State} {x2 : Nat} (h1 : s1.Inv) : (State.setMateState s1 x2).Inv := by
  unfold State.setMateState
  with_reducible repeat' first | intro _ | assumption | apply State.raise_inv | apply State.modMate_inv | apply State.wr_inv | apply State.inv_ite | split | apply State.inv_mk

theorem State.enterPhase_inv {s1 : State} {x2 : Nat} (h1 : s1.Inv) : (State.enterPhase s1 x2).Inv := by
  unfold State.enterPhase
  with_reducible repeat' first | intro _ | assumption | apply State.modMate_inv | apply State.wr_inv | apply State.inv_ite | split | apply State.inv_mk

theorem State.becomeActive_inv {s1 : State} {x2 : Bool} (h1 : s1.Inv) : (State.becomeActive s1 x2).Inv := by
  unfold State.becomeActive
  with_reducible repeat' first | intro _ | assumption | apply State.modMate_inv | apply State.setMateState_inv | apply State.wr_inv | apply State.modSwap_inv | apply State.raise_inv | apply State.restartAll_inv | apply State.count_inv | apply State.mateHoldChanged_inv | apply State.inv_ite | split | apply State.inv_mk

theorem State.activeFailed_inv {s1 : State} (h1 : s1.Inv) : (State.activeFailed s1).Inv := by
  unfold State.activeFailed
  with_reducible repeat' first | intro _ | assumption | apply State.modMate_inv | apply State.raise_inv | apply State.setMateState_inv | apply State.inv_ite | split | apply State.inv_mk

theorem State.takeOver_inv {s1 : State} (h1 : s1.Inv) : (State.takeOver s1).Inv := by
  unfold State.takeOver
  with_reducible repeat' first | intro _ | assumption | apply State.becomeActive_inv | apply State.inv_ite | split | apply State.inv_mk

theorem State.grantLost_inv {s1 : State} (h1 : s1.Inv) : (State.grantLost s1).Inv := by
  unfold State.grantLost
  with_reducible repeat' first | intro _ | assumption | apply State.mateHoldChanged_inv | apply State.modMate_inv | apply State.setMateState_inv | apply State.inv_ite | split | apply State.inv_mk

theorem State.isolate_inv {s1 : State} (h1 : s1.Inv) : (State.isolate s1).Inv := by
  unfold State.isolate
  with_reducible repeat' first | intro _ | assumption | apply State.raise_inv | apply State.modMate_inv | apply State.setMateState_inv | apply State.inv_ite | split | apply State.inv_mk

theorem State.isolatedReturn_inv {s1 : State} (h1 : s1.Inv) : (State.isolatedReturn s1).Inv := by
  unfold State.isolatedReturn
  with_reducible repeat' first | intro _ | assumption | apply State.modMate_inv | apply State.setMateState_inv | apply State.inv_ite | split | apply State.inv_mk

theorem State.takeMateTick_inv {s1 : State} (h1 : s1.Inv) : (State.takeMateTick s1).Inv := by
  unfold State.takeMateTick
  with_reducible repeat' first | intro _ | assumption | apply State.modMate_inv | apply State.inv_ite | split | apply State.inv_mk

theorem State.startJoining_inv {s1 : State} (h1 : s1.Inv) : (State.startJoining s1).Inv := by
  unfold State.startJoining
  with_reducible repeat' first | intro _ | assumption | apply State.wr_inv | apply State.setMateState_inv | apply State.emptyKeys_inv | apply State.enterPhase_inv | apply State.takeMateTick_inv | apply State.modMate_inv | apply State.inv_ite | split | apply State.inv_mk

theorem State.joinAgain_inv {s1 : State} (h1 : s1.Inv) : (State.joinAgain s1).Inv := by
  unfold State.joinAgain
  with_reducible repeat' first | intro _ | assumption | apply State.mateHoldChanged_inv | apply State.restartAll_inv | apply State.setDevState_inv | apply State.startJoining_inv | apply State.inv_ite | split | apply State.inv_mk

theorem State.journalLate_inv {s1 : State} (h1 : s1.Inv) : (State.journalLate s1).Inv := by
  unfold State.journalLate
  with_reducible repeat' first | intro _ | assumption | apply State.modMate_inv | apply State.enterPhase_inv | apply State.wr_inv | apply State.raise_inv | apply State.inv_ite | split | apply State.inv_mk

theorem State.checkClaims_inv {s1 : State} (h1 : s1.Inv) : (State.checkClaims s1).Inv := by
  unfold State.checkClaims
  with_reducible repeat' first | intro _ | assumption | apply State.modMate_inv | apply State.journalLate_inv | apply State.inv_ite | split | apply State.inv_mk

theorem State.mateLinkUp_inv {s1 : State} (h1 : s1.Inv) : (State.mateLinkUp s1).Inv := by
  unfold State.mateLinkUp
  with_reducible repeat' first | intro _ | assumption | apply State.showMate_inv | apply State.isolatedReturn_inv | apply State.modMate_inv | apply State.inv_ite | split | apply State.inv_mk

theorem State.mateLinkDown_inv {s1 : State} (h1 : s1.Inv) : (State.mateLinkDown s1).Inv := by
  unfold State.mateLinkDown
  with_reducible repeat' first | intro _ | assumption | apply State.showMate_inv | apply State.degraded_inv | apply State.modMate_inv | apply State.inv_ite | split | apply State.inv_mk

theorem State.bollardChange_inv {s1 : State} (h1 : s1.Inv) : (State.bollardChange s1).Inv := by
  unfold State.bollardChange
  with_reducible repeat' first | intro _ | assumption | apply State.showMate_inv | apply State.degraded_inv | apply State.modMate_inv | apply State.isolatedReturn_inv | apply State.inv_ite | split | apply State.inv_mk

theorem State.beatSend_inv {s1 : State} (h1 : s1.Inv) : (State.beatSend s1).Inv := by
  unfold State.beatSend
  with_reducible repeat' first | intro _ | assumption | apply State.modMate_inv | apply State.send_inv | apply State.inv_ite | split | apply State.inv_mk

theorem State.beatMiss_inv {s1 : State} {x2 : MatePath} (h1 : s1.Inv) : (State.beatMiss s1 x2).Inv := by
  unfold State.beatMiss
  with_reducible repeat' first | intro _ | assumption | apply State.count_inv | apply State.modMate_inv | apply State.degraded_inv | apply State.grantLost_inv | apply State.raise_inv | apply State.isolate_inv | apply State.activeFailed_inv | apply State.showMate_inv | apply State.inv_ite | split | apply State.inv_mk

theorem State.presEdge_inv {s1 : State} (h1 : s1.Inv) : (State.presEdge s1).Inv := by
  unfold State.presEdge
  with_reducible repeat' first | intro _ | assumption | apply State.showMate_inv | apply State.modMate_inv | apply State.inv_ite | split | apply State.inv_mk

theorem State.presTimeout_inv {s1 : State} (h1 : s1.Inv) : (State.presTimeout s1).Inv := by
  unfold State.presTimeout
  with_reducible repeat' first | intro _ | assumption | apply State.showMate_inv | apply State.activeFailed_inv | apply State.inv_ite | split | apply State.inv_mk

theorem State.grantChange_inv {s1 : State} {x2 : Bool} (h1 : s1.Inv) : (State.grantChange s1 x2).Inv := by
  unfold State.grantChange
  with_reducible repeat' first | intro _ | assumption | apply State.modMate_inv | apply State.raiseIf_inv | apply State.inv_ite | split | apply State.inv_mk

theorem State.effectiveGrant_inv {s1 : State} (h1 : s1.Inv) : (State.effectiveGrant s1).Inv := by
  unfold State.effectiveGrant
  with_reducible repeat' first | intro _ | assumption | apply State.becomeActive_inv | apply State.inv_ite | split | apply State.inv_mk

theorem State.keepMateCtrl_inv {s1 : State} {x2 : Word} (h1 : s1.Inv) : (State.keepMateCtrl s1 x2).Inv := by
  unfold State.keepMateCtrl
  with_reducible repeat' first | intro _ | assumption | apply State.wr_inv | apply State.inv_ite | split | apply State.inv_mk

theorem State.swGrant_inv {s1 : State} (h1 : s1.Inv) : (State.swGrant s1).Inv := by
  unfold State.swGrant
  with_reducible repeat' first | intro _ | assumption | apply State.becomeActive_inv | apply State.inv_ite | split | apply State.inv_mk

theorem State.resync_inv {s1 : State} (h1 : s1.Inv) : (State.resync s1).Inv := by
  unfold State.resync
  with_reducible repeat' first | intro _ | assumption | apply State.enterPhase_inv | apply State.wr_inv | apply State.inv_ite | split | apply State.inv_mk

theorem State.switchover_inv {s1 : State} (h1 : s1.Inv) : (State.switchover s1).Inv := by
  unfold State.switchover
  with_reducible repeat' first | intro _ | assumption | apply State.journalEntry_inv | apply State.inv_ite | split | apply State.inv_mk

theorem State.applySwitchover_inv {s1 : State} (h1 : s1.Inv) : (State.applySwitchover s1).Inv := by
  unfold State.applySwitchover
  with_reducible repeat' first | intro _ | assumption | apply State.mateHoldChanged_inv | apply State.wr_inv | apply State.setMateState_inv | apply State.modMate_inv | apply State.inv_ite | split | apply State.inv_mk

theorem State.graceExpiry_inv {s1 : State} (h1 : s1.Inv) : (State.graceExpiry s1).Inv := by
  unfold State.graceExpiry
  with_reducible repeat' first | intro _ | assumption | apply State.enterPhase_inv | apply State.wr_inv | apply State.inv_ite | split | apply State.inv_mk

theorem State.compare_inv {s1 : State} {x2 : List (Nat × Bool)} {x3 : Bool} (h1 : s1.Inv) : (State.compare s1 x2 x3).Inv := by
  unfold State.compare
  with_reducible repeat' first | intro _ | assumption | apply State.modMate_inv | apply State.wr_inv | apply State.count_inv | apply State.raise_inv | apply State.enterPhase_inv | apply State.setMateState_inv | apply State.inv_ite | split | apply State.inv_mk

theorem State.applyItem_inv {s1 : State} {x2 : Snapshot} {x3 : Bool} {x4 : EpochItem} (h1 : s1.Inv) : (State.applyItem s1 x2 x3 x4).Inv := by
  unfold State.applyItem
  with_reducible repeat' first | intro _ | assumption | apply State.setCtr_inv | apply State.wr_inv | apply State.setPmSection_inv | apply State.setClientPm_inv | apply State.setPathPm_inv | apply State.setBin_inv | apply State.setStore_inv | apply State.setClient_inv | apply State.showGroup_inv | apply State.setMerge_inv | apply State.setReg_inv | apply State.setEncCtx_inv | apply State.setTideLeaf_inv | apply State.wrBool_inv | apply State.setTimeRef_inv | apply State.inv_ite | split | apply State.inv_mk

theorem State.epochApply_inv {s1 : State} {x2 : Bool} {x3 : List (EpochItem × Bool)} (h1 : s1.Inv) : (State.epochApply s1 x2 x3).Inv := by
  unfold State.epochApply
  with_reducible repeat' first | intro _ | assumption | apply State.count_inv | apply State.wr_inv | apply State.raise_inv | apply State.each_inv | apply State.applyItem_inv | apply State.enterPhase_inv | apply State.inv_ite | split | apply State.inv_mk

theorem State.tickMate_inv {s1 : State} (h1 : s1.Inv) : (State.tickMate s1).Inv := by
  unfold State.tickMate
  with_reducible repeat' first | intro _ | assumption | apply State.modMate_inv | apply State.wrBool_inv | apply State.showMate_inv | apply State.grantLost_inv | apply State.checkClaims_inv | apply State.inv_ite | split | apply State.inv_mk

theorem State.mateFrameOut_inv {s1 : State} (h1 : s1.Inv) : (State.mateFrameOut s1).Inv := by
  unfold State.mateFrameOut
  with_reducible repeat' first | intro _ | assumption | apply State.send_inv | apply State.inv_ite | split | apply State.inv_mk

theorem execMateLinkUp_inv {s1 : State} (h1 : s1.Inv) {t : State} (ht : execMateLinkUp s1 = .next t) : t.Inv := by
  unfold execMateLinkUp at ht; cases ht
  with_reducible repeat' first | intro _ | assumption | apply State.mateLinkUp_inv | apply State.inv_ite | split | apply State.inv_mk

theorem execMateLinkDown_inv {s1 : State} (h1 : s1.Inv) {t : State} (ht : execMateLinkDown s1 = .next t) : t.Inv := by
  unfold execMateLinkDown at ht; cases ht
  with_reducible repeat' first | intro _ | assumption | apply State.mateLinkDown_inv | apply State.inv_ite | split | apply State.inv_mk

theorem execBollardLineChange_inv {s1 : State} (h1 : s1.Inv) {t : State} (ht : execBollardLineChange s1 = .next t) : t.Inv := by
  unfold execBollardLineChange at ht; cases ht
  with_reducible repeat' first | intro _ | assumption | apply State.bollardChange_inv | apply State.inv_ite | split | apply State.inv_mk

theorem execBeatSend_inv {s1 : State} (h1 : s1.Inv) {t : State} (ht : execBeatSend s1 = .next t) : t.Inv := by
  unfold execBeatSend at ht; cases ht
  with_reducible repeat' first | intro _ | assumption | apply State.beatSend_inv | apply State.inv_ite | split | apply State.inv_mk

theorem execBeatMiss_inv {x1 : MatePath} {s2 : State} (h2 : s2.Inv) {t : State} (ht : execBeatMiss x1 s2 = .next t) : t.Inv := by
  unfold execBeatMiss at ht; cases ht
  with_reducible repeat' first | intro _ | assumption | apply State.beatMiss_inv | apply State.inv_ite | split | apply State.inv_mk

theorem execMatePresEdge_inv {s1 : State} (h1 : s1.Inv) {t : State} (ht : execMatePresEdge s1 = .next t) : t.Inv := by
  unfold execMatePresEdge at ht; cases ht
  with_reducible repeat' first | intro _ | assumption | apply State.presEdge_inv | apply State.inv_ite | split | apply State.inv_mk

theorem execMatePresTimeout_inv {s1 : State} (h1 : s1.Inv) {t : State} (ht : execMatePresTimeout s1 = .next t) : t.Inv := by
  unfold execMatePresTimeout at ht; cases ht
  with_reducible repeat' first | intro _ | assumption | apply State.presTimeout_inv | apply State.inv_ite | split | apply State.inv_mk

theorem execTakeover_inv {s1 : State} (h1 : s1.Inv) {t : State} (ht : execTakeover s1 = .next t) : t.Inv := by
  unfold execTakeover at ht; cases ht
  with_reducible repeat' first | intro _ | assumption | apply State.takeOver_inv | apply State.inv_ite | split | apply State.inv_mk

theorem execActGrantChange_inv {x1 : Bool} {s2 : State} (h2 : s2.Inv) {t : State} (ht : execActGrantChange x1 s2 = .next t) : t.Inv := by
  unfold execActGrantChange at ht; cases ht
  with_reducible repeat' first | intro _ | assumption | apply State.grantChange_inv | apply State.inv_ite | split | apply State.inv_mk

theorem execEffectiveGrant_inv {s1 : State} (h1 : s1.Inv) {t : State} (ht : execEffectiveGrant s1 = .next t) : t.Inv := by
  unfold execEffectiveGrant at ht; cases ht
  with_reducible repeat' first | intro _ | assumption | apply State.effectiveGrant_inv | apply State.inv_ite | split | apply State.inv_mk

theorem execSwGrant_inv {x1 : Initiator} {x2 : Word} {s3 : State} (h3 : s3.Inv) {t : State} (ht : execSwGrant x1 x2 s3 = .next t) : t.Inv := by
  unfold execSwGrant at ht; cases ht
  with_reducible repeat' first | intro _ | assumption | apply State.reply_inv | apply State.swGrant_inv | apply State.keepMateCtrl_inv | apply State.inv_ite | split | apply State.inv_mk

theorem execResync_inv {x1 : Initiator} {x2 : Word} {s3 : State} (h3 : s3.Inv) {t : State} (ht : execResync x1 x2 s3 = .next t) : t.Inv := by
  unfold execResync at ht; cases ht
  with_reducible repeat' first | intro _ | assumption | apply State.reply_inv | apply State.resync_inv | apply State.keepMateCtrl_inv | apply State.inv_ite | split | apply State.inv_mk

theorem execSwitchover_inv {x1 : Initiator} {x2 : Word} {s3 : State} (h3 : s3.Inv) {t : State} (ht : execSwitchover x1 x2 s3 = .next t) : t.Inv := by
  unfold execSwitchover at ht; cases ht
  with_reducible repeat' first | intro _ | assumption | apply State.reply_inv | apply State.switchover_inv | apply State.keepMateCtrl_inv | apply State.inv_ite | split | apply State.inv_mk

theorem execMateCompare_inv {x1 : List (Fin 72 × Bool)} {x2 : Bool} {s3 : State} (h3 : s3.Inv) {t : State} (ht : execMateCompare x1 x2 s3 = .next t) : t.Inv := by
  unfold execMateCompare at ht; cases ht
  with_reducible repeat' first | intro _ | assumption | apply State.compare_inv | apply State.inv_ite | split | apply State.inv_mk

theorem execGraceExpiry_inv {s1 : State} (h1 : s1.Inv) {t : State} (ht : execGraceExpiry s1 = .next t) : t.Inv := by
  unfold execGraceExpiry at ht; cases ht
  with_reducible repeat' first | intro _ | assumption | apply State.graceExpiry_inv | apply State.inv_ite | split | apply State.inv_mk

theorem execEpochApply_inv {x1 : Bool} {x2 : List (EpochItem × Bool)} {s3 : State} (h3 : s3.Inv) {t : State} (ht : execEpochApply x1 x2 s3 = .next t) : t.Inv := by
  unfold execEpochApply at ht; cases ht
  with_reducible repeat' first | intro _ | assumption | apply State.epochApply_inv | apply State.inv_ite | split | apply State.inv_mk

theorem execMtCntLoRead_inv {x1 : Initiator} {s2 : State} (h2 : s2.Inv) {t : State} (ht : execMtCntLoRead x1 s2 = .next t) : t.Inv := by
  unfold execMtCntLoRead at ht; cases ht
  with_reducible repeat' first | intro _ | assumption | apply State.readLatched_inv | apply State.inv_ite | split | apply State.inv_mk

theorem State.modMoor_inv {s1 : State} {x2 : Nat} {f3 : Moor → Moor} (h1 : s1.Inv) : (State.modMoor s1 x2 f3).Inv := by
  unfold State.modMoor
  with_reducible repeat' first | intro _ | assumption | apply h3 | apply State.setMoor_inv | apply State.inv_ite | split | apply State.inv_mk

theorem State.moorLanes_inv {s1 : State} {x2 : Nat} {x3 : BitVec 9} {x4 : BitVec 8} (h1 : s1.Inv) : (State.moorLanes s1 x2 x3 x4).Inv := by
  unfold State.moorLanes
  with_reducible repeat' first | intro _ | assumption | apply State.modMoor_inv | apply State.wr_inv | apply State.raiseIf_inv | apply State.inv_ite | split | apply State.inv_mk

theorem State.setPortSsf_inv {s1 : State} {x2 : Nat} {x3 : Bool} (h1 : s1.Inv) : (State.setPortSsf s1 x2 x3).Inv := by
  unfold State.setPortSsf
  with_reducible repeat' first | intro _ | assumption | apply State.raiseIf_inv | apply State.wrBool_inv | apply State.inv_ite | split | apply State.inv_mk

theorem State.laneRestored_inv {s1 : State} {x2 : Nat} {x3 : Nat} (h1 : s1.Inv) : (State.laneRestored s1 x2 x3).Inv := by
  unfold State.laneRestored
  with_reducible repeat' first | intro _ | assumption | apply State.raise_inv | apply State.wr_inv | apply State.inv_ite | split | apply State.inv_mk

theorem State.retireWrite_inv {s1 : State} {x2 : Nat} {x3 : Word} (h1 : s1.Inv) : (State.retireWrite s1 x2 x3).Inv := by
  unfold State.retireWrite
  with_reducible repeat' first | intro _ | assumption | apply State.setReg_inv | apply State.raise_inv | apply State.inv_ite | split | apply State.inv_mk

theorem State.rmapAccept_inv {s1 : State} {x2 : Nat} (h1 : s1.Inv) : (State.rmapAccept s1 x2).Inv := by
  unfold State.rmapAccept
  with_reducible repeat' first | intro _ | assumption | apply State.later_inv | apply State.wr_inv | apply State.inv_ite | split | apply State.inv_mk

theorem State.domainMis_inv {s1 : State} {x2 : Nat} (h1 : s1.Inv) : (State.domainMis s1 x2).Inv := by
  unfold State.domainMis
  with_reducible repeat' first | intro _ | assumption | apply State.wr_inv | apply State.raise_inv | apply State.setPortSsf_inv | apply State.inv_ite | split | apply State.inv_mk

theorem State.updateHops_inv {s1 : State} (h1 : s1.Inv) : (State.updateHops s1).Inv := by
  unfold State.updateHops
  with_reducible repeat' first | intro _ | assumption | apply State.wr_inv | apply State.raiseIf_inv | apply State.inv_ite | split | apply State.inv_mk

theorem State.trackOffers_inv {s1 : State} (h1 : s1.Inv) : (State.trackOffers s1).Inv := by
  unfold State.trackOffers
  with_reducible repeat' first | intro _ | assumption | apply State.each_inv | apply State.modMoor_inv | apply State.inv_ite | split | apply State.inv_mk

theorem State.timingSwitch_inv {s1 : State} (h1 : s1.Inv) : (State.timingSwitch s1).Inv := by
  unfold State.timingSwitch
  with_reducible repeat' first | intro _ | assumption | apply State.raise_inv | apply State.wr_inv | apply State.inv_ite | split | apply State.inv_mk

theorem State.measureHop_inv {s1 : State} {x2 : Nat} {x3 : MooringFrame} (h1 : s1.Inv) : (State.measureHop s1 x2 x3).Inv := by
  unfold State.measureHop
  with_reducible repeat' first | intro _ | assumption | apply State.wr_inv | apply State.inv_ite | split | apply State.inv_mk

theorem State.compareTick_inv {s1 : State} {x2 : Nat} {x3 : Tick} (h1 : s1.Inv) : (State.compareTick s1 x2 x3).Inv := by
  unfold State.compareTick
  with_reducible repeat' first | intro _ | assumption | apply State.wr_inv | apply State.modMoor_inv | apply State.inv_ite | split | apply State.inv_mk

theorem State.moorTime_inv {s1 : State} {x2 : MooringFrame} (h1 : s1.Inv) : (State.moorTime s1 x2).Inv := by
  unfold State.moorTime
  with_reducible repeat' first | intro _ | assumption | apply State.modSource_inv | apply State.wr_inv | apply State.inv_ite | split | apply State.inv_mk

theorem State.workerTickSet_inv {s1 : State} (h1 : s1.Inv) : (State.workerTickSet s1).Inv := by
  unfold State.workerTickSet
  with_reducible repeat' first | intro _ | assumption | apply State.inv_ite | split | apply State.inv_mk

theorem State.workerMismatch_inv {s1 : State} (h1 : s1.Inv) : (State.workerMismatch s1).Inv := by
  unfold State.workerMismatch
  with_reducible repeat' first | intro _ | assumption | apply State.raise_inv | apply State.wr_inv | apply State.inv_ite | split | apply State.inv_mk

theorem State.mooringFrame_inv {s1 : State} {x2 : Nat} {x3 : MooringFrame} (h1 : s1.Inv) : (State.mooringFrame s1 x2 x3).Inv := by
  unfold State.mooringFrame
  with_reducible repeat' first | intro _ | assumption | apply State.modMoor_inv | apply State.moorLanes_inv | apply State.count_inv | apply State.modSection_inv | apply State.setPortSsf_inv | apply State.wr_inv | apply State.raiseIf_inv | apply State.measureHop_inv | apply State.moorTime_inv | apply State.compareTick_inv | apply State.updateHops_inv | apply State.inv_ite | split | apply State.inv_mk

theorem State.queuePacket_inv {s1 : State} {x2 : Nat} {x3 : CcPacket} (h1 : s1.Inv) : (State.queuePacket s1 x2 x3).Inv := by
  unfold State.queuePacket
  with_reducible repeat' first | intro _ | assumption | apply State.modMoor_inv | apply State.inv_ite | split | apply State.inv_mk

theorem State.shipPacket_inv {s1 : State} {x2 : CcPacket} {x3 : Option Nat} (h1 : s1.Inv) : (State.shipPacket s1 x2 x3).Inv := by
  unfold State.shipPacket
  with_reducible repeat' first | intro _ | assumption | apply State.each_inv | apply State.queuePacket_inv | apply State.inv_ite | split | apply State.inv_mk

theorem State.nextCcSeq_inv {s1 : State} (h1 : s1.Inv) : (State.nextCcSeq s1).Inv := by
  unfold State.nextCcSeq
  with_reducible repeat' first | intro _ | assumption | apply State.inv_ite | split | apply State.inv_mk

theorem State.noteSeen_inv {s1 : State} {x2 : Nat} {x3 : Nat} (h1 : s1.Inv) : (State.noteSeen s1 x2 x3).Inv := by
  unfold State.noteSeen
  with_reducible repeat' first | intro _ | assumption | apply State.inv_ite | split | apply State.inv_mk

theorem State.sendOwn_inv {s1 : State} {x2 : Nat} {x3 : Nat} {x4 : List Byte} (h1 : s1.Inv) : (State.sendOwn s1 x2 x3 x4).Inv := by
  unfold State.sendOwn
  with_reducible repeat' first | intro _ | assumption | apply State.shipPacket_inv | apply State.nextCcSeq_inv | apply State.noteSeen_inv | apply State.inv_ite | split | apply State.inv_mk

theorem State.moorSend_inv {s1 : State} {x2 : Nat} (h1 : s1.Inv) : (State.moorSend s1 x2).Inv := by
  unfold State.moorSend
  with_reducible repeat' first | intro _ | assumption | apply State.each_inv | apply State.setMoor_inv | apply State.send_inv | apply State.inv_ite | split | apply State.inv_mk

theorem State.updateRoutes_inv {s1 : State} (h1 : s1.Inv) : (State.updateRoutes s1).Inv := by
  unfold State.updateRoutes
  with_reducible repeat' first | intro _ | assumption | apply State.each_inv | apply State.wr_inv | apply State.inv_ite | split | apply State.inv_mk

theorem State.helloSend_inv {s1 : State} (h1 : s1.Inv) : (State.helloSend s1).Inv := by
  unfold State.helloSend
  with_reducible repeat' first | intro _ | assumption | apply State.nextCcSeq_inv | apply State.each_inv | apply State.queuePacket_inv | apply State.inv_ite | split | apply State.inv_mk

theorem State.helloReceive_inv {s1 : State} {x2 : Nat} {x3 : Hello} (h1 : s1.Inv) : (State.helloReceive s1 x2 x3).Inv := by
  unfold State.helloReceive
  with_reducible repeat' first | intro _ | assumption | apply State.raiseIf_inv | apply State.wr_inv | apply State.modMoor_inv | apply State.updateRoutes_inv | apply State.inv_ite | split | apply State.inv_mk

theorem State.routeExpiry_inv {s1 : State} {x2 : Nat} (h1 : s1.Inv) : (State.routeExpiry s1 x2).Inv := by
  unfold State.routeExpiry
  with_reducible repeat' first | intro _ | assumption | apply State.updateRoutes_inv | apply State.modMoor_inv | apply State.inv_ite | split | apply State.inv_mk

theorem State.deliverUser_inv {s1 : State} {x2 : CcPacket} (h1 : s1.Inv) : (State.deliverUser s1 x2).Inv := by
  unfold State.deliverUser
  with_reducible repeat' first | intro _ | assumption | apply State.inv_ite | split | apply State.inv_mk

theorem State.ccReceive_inv {s1 : State} {x2 : Nat} {x3 : CcPacket} {x4 : Bool} (h1 : s1.Inv) : (State.ccReceive s1 x2 x3 x4).Inv := by
  unfold State.ccReceive
  with_reducible repeat' first | intro _ | assumption | apply State.count_inv | apply State.raise_inv | apply State.noteSeen_inv | apply State.deliverUser_inv | apply State.shipPacket_inv | apply State.inv_ite | split | apply State.inv_mk

theorem State.ccWrite_inv {s1 : State} {x2 : Word} (h1 : s1.Inv) : (State.ccWrite s1 x2).Inv := by
  unfold State.ccWrite
  with_reducible repeat' first | intro _ | assumption | apply State.sendOwn_inv | apply State.inv_ite | split | apply State.inv_mk

theorem State.tickPort_inv {s1 : State} {x2 : Nat} (h1 : s1.Inv) : (State.tickPort s1 x2).Inv := by
  unfold State.tickPort
  with_reducible repeat' first | intro _ | assumption | apply State.setPortSsf_inv | apply State.moorLanes_inv | apply State.modSection_inv | apply State.modMoor_inv | apply State.moorSend_inv | apply State.inv_ite | split | apply State.inv_mk

theorem State.tellMembers_inv {s1 : State} {x2 : DomainCommit} {x3 : Nat} {x4 : Tick} (h1 : s1.Inv) : (State.tellMembers s1 x2 x3 x4).Inv := by
  unfold State.tellMembers
  with_reducible repeat' first | intro _ | assumption | apply State.each_inv | apply State.sendOwn_inv | apply State.inv_ite | split | apply State.inv_mk

theorem State.applyAgent_inv {s1 : State} {x2 : AgentAct} {x3 : Tick} {x4 : Bool} (h1 : s1.Inv) : (State.applyAgent s1 x2 x3 x4).Inv := by
  unfold State.applyAgent
  with_reducible repeat' first | intro _ | assumption | apply State.modSwap_inv | apply State.gridArm_inv | apply State.later_inv | apply State.gridCancel_inv | apply State.imageCommitAt_inv | apply State.loadImage_inv | apply State.inv_ite | split | apply State.inv_mk

theorem State.agent_inv {s1 : State} {x2 : AgentAct} (h1 : s1.Inv) : (State.agent s1 x2).Inv := by
  unfold State.agent
  with_reducible repeat' first | intro _ | assumption | apply State.journalEntry_inv | apply State.applyAgent_inv | apply State.inv_ite | split | apply State.inv_mk

theorem State.dcStat_inv {s1 : State} {x2 : Nat} {x3 : Nat} (h1 : s1.Inv) : (State.dcStat s1 x2 x3).Inv := by
  unfold State.dcStat
  with_reducible repeat' first | intro _ | assumption | apply State.wr_inv | apply State.inv_ite | split | apply State.inv_mk

theorem State.tryOwn_inv {s1 : State} {x2 : Bool} {x3 : Tick} (h1 : s1.Inv) : (State.tryOwn s1 x2 x3).1.Inv := by
  unfold State.tryOwn
  with_reducible repeat' first | intro _ | assumption | apply State.swapResult_inv | apply State.agent_inv | apply State.inv_ite | split | apply State.inv_mk

theorem State.dcStart_inv {s1 : State} {x2 : Tick} (h1 : s1.Inv) : (State.dcStart s1 x2).Inv := by
  unfold State.dcStart
  with_reducible repeat' first | intro _ | assumption | apply State.wr_inv | apply State.tickLate_inv | apply State.setReg_inv | apply State.dcStat_inv | apply State.tellMembers_inv | apply State.tryOwn_inv | refine State.inv_fst ?_ ‹_ = (_, _)› | apply State.inv_ite | split | apply State.inv_mk

theorem State.dcCommand_inv {s1 : State} {x2 : Word} {x3 : Tick} (h1 : s1.Inv) : (State.dcCommand s1 x2 x3).Inv := by
  unfold State.dcCommand
  with_reducible repeat' first | intro _ | assumption | apply State.setReg_inv | apply State.dcStart_inv | apply State.inv_ite | split | apply State.inv_mk

theorem State.replyManager_inv {s1 : State} {x2 : DomainCommit} {x3 : Nat} {x4 : Nat} (h1 : s1.Inv) : (State.replyManager s1 x2 x3 x4).Inv := by
  unfold State.replyManager
  with_reducible repeat' first | intro _ | assumption | apply State.sendOwn_inv | apply State.inv_ite | split | apply State.inv_mk

theorem State.dcArm_inv {s1 : State} {x2 : Nat} {x3 : Bool} {x4 : Tick} (h1 : s1.Inv) : (State.dcArm s1 x2 x3 x4).Inv := by
  unfold State.dcArm
  with_reducible repeat' first | intro _ | assumption | apply State.replyManager_inv | apply State.tryOwn_inv | refine State.inv_fst ?_ ‹_ = (_, _)› | apply State.inv_ite | split | apply State.inv_mk

theorem State.dcReply_inv {s1 : State} {x2 : Nat} {x3 : Nat} {x4 : Tick} {x5 : DomainReply} (h1 : s1.Inv) : (State.dcReply s1 x2 x3 x4 x5).Inv := by
  unfold State.dcReply
  with_reducible repeat' first | intro _ | assumption | apply State.wr_inv | apply State.inv_ite | split | apply State.inv_mk

theorem State.dcDecide_inv {s1 : State} (h1 : s1.Inv) : (State.dcDecide s1).Inv := by
  unfold State.dcDecide
  with_reducible repeat' first | intro _ | assumption | apply State.wr_inv | apply State.tellMembers_inv | apply State.agent_inv | apply State.dcStat_inv | apply State.raise_inv | apply State.inv_ite | split | apply State.inv_mk

theorem State.dcGo_inv {s1 : State} {x2 : Nat} {x3 : Tick} (h1 : s1.Inv) : (State.dcGo s1 x2 x3).Inv := by
  unfold State.dcGo
  with_reducible repeat' first | intro _ | assumption | apply State.agent_inv | apply State.inv_ite | split | apply State.inv_mk

theorem State.dcAbort_inv {s1 : State} {x2 : Nat} {x3 : Tick} (h1 : s1.Inv) : (State.dcAbort s1 x2 x3).Inv := by
  unfold State.dcAbort
  with_reducible repeat' first | intro _ | assumption | apply State.agent_inv | apply State.inv_ite | split | apply State.inv_mk

theorem State.dcHold_inv {s1 : State} (h1 : s1.Inv) : (State.dcHold s1).Inv := by
  unfold State.dcHold
  with_reducible repeat' first | intro _ | assumption | apply State.agent_inv | apply State.inv_ite | split | apply State.inv_mk

theorem State.startRollback_inv {s1 : State} {x2 : DomainCommit} {x3 : Tick} (h1 : s1.Inv) : (State.startRollback s1 x2 x3).Inv := by
  unfold State.startRollback
  with_reducible repeat' first | intro _ | assumption | apply State.agent_inv | apply State.inv_ite | split | apply State.inv_mk

theorem State.dcClose_inv {s1 : State} (h1 : s1.Inv) : (State.dcClose s1).Inv := by
  unfold State.dcClose
  with_reducible repeat' first | intro _ | assumption | apply State.raise_inv | apply State.dcStat_inv | apply State.agent_inv | apply State.wr_inv | apply State.tellMembers_inv | apply State.startRollback_inv | apply State.inv_ite | split | apply State.inv_mk

theorem State.dcRollback_inv {s1 : State} {x2 : Nat} {x3 : Tick} (h1 : s1.Inv) : (State.dcRollback s1 x2 x3).Inv := by
  unfold State.dcRollback
  with_reducible repeat' first | intro _ | assumption | apply State.startRollback_inv | apply State.inv_ite | split | apply State.inv_mk

theorem State.dcRollbackApply_inv {s1 : State} (h1 : s1.Inv) : (State.dcRollbackApply s1).Inv := by
  unfold State.dcRollbackApply
  with_reducible repeat' first | intro _ | assumption | apply State.agent_inv | apply State.raise_inv | apply State.dcStat_inv | apply State.inv_ite | split | apply State.inv_mk

theorem State.domainReady_inv {s1 : State} {x2 : DomainCommit} {x3 : Nat} (h1 : s1.Inv) : (State.domainReady s1 x2 x3).Inv := by
  unfold State.domainReady
  with_reducible repeat' first | intro _ | assumption | apply State.wr_inv | apply State.replyManager_inv | apply State.agent_inv | apply State.inv_ite | split | apply State.inv_mk

theorem State.domainTook_inv {s1 : State} {x2 : DomainCommit} (h1 : s1.Inv) : (State.domainTook s1 x2).Inv := by
  unfold State.domainTook
  with_reducible repeat' first | intro _ | assumption | apply State.wr_inv | apply State.replyManager_inv | apply State.inv_ite | split | apply State.inv_mk

theorem State.domainEnds_inv {s1 : State} {x2 : DomainCommit} (h1 : s1.Inv) : (State.domainEnds s1 x2).Inv := by
  unfold State.domainEnds
  with_reducible repeat' first | intro _ | assumption | apply State.agent_inv | apply State.inv_ite | split | apply State.inv_mk

theorem State.inDomain_inv {s1 : State} {f2 : State → DomainCommit → State} (h1 : s1.Inv) (h2 : ∀ (y0 : State) (y1 : DomainCommit), y0.Inv → (f2 y0 y1).Inv) : (State.inDomain s1 f2).Inv := by
  unfold State.inDomain
  with_reducible repeat' first | intro _ | assumption | apply h2 | apply State.inv_ite | split | apply State.inv_mk

theorem State.tickDomain_inv {s : State} (h : s.Inv) : (s.tickDomain).Inv := by
  unfold State.tickDomain
  refine State.inDomain_inv (State.inDomain_inv (State.inDomain_inv h ?_) fun y d hy => State.domainTook_inv hy)
    fun y d hy => State.domainEnds_inv hy
  intro y d hy
  split
  · exact State.domainReady_inv hy
  · exact hy

theorem State.tickHierarchy_inv {s1 : State} (h1 : s1.Inv) : (State.tickHierarchy s1).Inv := by
  unfold State.tickHierarchy
  with_reducible repeat' first | intro _ | assumption | apply State.tickDomain_inv | apply State.trackOffers_inv | apply State.updateHops_inv | apply State.each_inv | apply State.tickPort_inv | apply State.inv_ite | split | apply State.inv_mk

theorem execMooringFrameReceive_inv {x1 : Fin 4} {x2 : MooringFrame} {s3 : State} (h3 : s3.Inv) {t : State} (ht : execMooringFrameReceive x1 x2 s3 = .next t) : t.Inv := by
  unfold execMooringFrameReceive at ht; cases ht
  with_reducible repeat' first | intro _ | assumption | apply State.mooringFrame_inv | apply State.inv_ite | split | apply State.inv_mk

theorem execLaneRestored_inv {x1 : Fin 4} {x2 : Fin 9} {s3 : State} (h3 : s3.Inv) {t : State} (ht : execLaneRestored x1 x2 s3 = .next t) : t.Inv := by
  unfold execLaneRestored at ht; cases ht
  with_reducible repeat' first | intro _ | assumption | apply State.laneRestored_inv | apply State.inv_ite | split | apply State.inv_mk

theorem execHrRetireWrite_inv {x1 : Initiator} {x2 : Word} {s3 : State} (h3 : s3.Inv) {t : State} (ht : execHrRetireWrite x1 x2 s3 = .next t) : t.Inv := by
  unfold execHrRetireWrite at ht; cases ht
  with_reducible repeat' first | intro _ | assumption | apply State.write_inv | apply State.retireWrite_inv | apply State.inv_ite | split | apply State.inv_mk

theorem execRmapAccept_inv {x1 : Fin 4} {s2 : State} (h2 : s2.Inv) {t : State} (ht : execRmapAccept x1 s2 = .next t) : t.Inv := by
  unfold execRmapAccept at ht; cases ht
  with_reducible repeat' first | intro _ | assumption | apply State.rmapAccept_inv | apply State.inv_ite | split | apply State.inv_mk

theorem execDomainMis_inv {x1 : Fin 4} {s2 : State} (h2 : s2.Inv) {t : State} (ht : execDomainMis x1 s2 = .next t) : t.Inv := by
  unfold execDomainMis at ht; cases ht
  with_reducible repeat' first | intro _ | assumption | apply State.domainMis_inv | apply State.inv_ite | split | apply State.inv_mk

theorem execTimingPortSwitch_inv {s1 : State} (h1 : s1.Inv) {t : State} (ht : execTimingPortSwitch s1 = .next t) : t.Inv := by
  unfold execTimingPortSwitch at ht; cases ht
  with_reducible repeat' first | intro _ | assumption | apply State.timingSwitch_inv | apply State.inv_ite | split | apply State.inv_mk

theorem execWorkerTickSet_inv {s1 : State} (h1 : s1.Inv) {t : State} (ht : execWorkerTickSet s1 = .next t) : t.Inv := by
  unfold execWorkerTickSet at ht; cases ht
  with_reducible repeat' first | intro _ | assumption | apply State.workerTickSet_inv | apply State.inv_ite | split | apply State.inv_mk

theorem execWorkerTickMismatch_inv {s1 : State} (h1 : s1.Inv) {t : State} (ht : execWorkerTickMismatch s1 = .next t) : t.Inv := by
  unfold execWorkerTickMismatch at ht; cases ht
  with_reducible repeat' first | intro _ | assumption | apply State.workerMismatch_inv | apply State.inv_ite | split | apply State.inv_mk

theorem execHelloSend_inv {s1 : State} (h1 : s1.Inv) {t : State} (ht : execHelloSend s1 = .next t) : t.Inv := by
  unfold execHelloSend at ht; cases ht
  with_reducible repeat' first | intro _ | assumption | apply State.helloSend_inv | apply State.inv_ite | split | apply State.inv_mk

theorem execHelloReceive_inv {x1 : Fin 4} {x2 : Hello} {s3 : State} (h3 : s3.Inv) {t : State} (ht : execHelloReceive x1 x2 s3 = .next t) : t.Inv := by
  unfold execHelloReceive at ht; cases ht
  with_reducible repeat' first | intro _ | assumption | apply State.helloReceive_inv | apply State.inv_ite | split | apply State.inv_mk

theorem execRouteExpiry_inv {x1 : Fin 4} {s2 : State} (h2 : s2.Inv) {t : State} (ht : execRouteExpiry x1 s2 = .next t) : t.Inv := by
  unfold execRouteExpiry at ht; cases ht
  with_reducible repeat' first | intro _ | assumption | apply State.routeExpiry_inv | apply State.inv_ite | split | apply State.inv_mk

theorem execCcPacketReceive_inv {x1 : Fin 4} {x2 : CcPacket} {x3 : Bool} {s4 : State} (h4 : s4.Inv) {t : State} (ht : execCcPacketReceive x1 x2 x3 s4 = .next t) : t.Inv := by
  unfold execCcPacketReceive at ht; cases ht
  with_reducible repeat' first | intro _ | assumption | apply State.ccReceive_inv | apply State.inv_ite | split | apply State.inv_mk

theorem execHrCcTxdWrite_inv {x1 : Initiator} {x2 : Word} {s3 : State} (h3 : s3.Inv) {t : State} (ht : execHrCcTxdWrite x1 x2 s3 = .next t) : t.Inv := by
  unfold execHrCcTxdWrite at ht; cases ht
  with_reducible repeat' first | intro _ | assumption | apply State.write_inv | apply State.ccWrite_inv | apply State.inv_ite | split | apply State.inv_mk

theorem execHrCcRxdRead_inv {x1 : Initiator} {s2 : State} (h2 : s2.Inv) {t : State} (ht : execHrCcRxdRead x1 s2 = .next t) : t.Inv := by
  unfold execHrCcRxdRead at ht; cases ht
  with_reducible repeat' first | intro _ | assumption | apply State.reply_inv | apply State.inv_ite | split | apply State.inv_mk

theorem execDcStart_inv {x1 : Initiator} {x2 : Word} {s3 : State} (h3 : s3.Inv) {t : State} (ht : execDcStart x1 x2 s3 = .next t) : t.Inv := by
  unfold execDcStart at ht; cases ht
  with_reducible repeat' first | intro _ | assumption | apply State.write_inv | apply State.dcCommand_inv | apply State.inv_ite | split | apply State.inv_mk

theorem execDcArmReceive_inv {x1 : Fin 4096} {x2 : Bool} {x3 : Tick} {s4 : State} (h4 : s4.Inv) {t : State} (ht : execDcArmReceive x1 x2 x3 s4 = .next t) : t.Inv := by
  unfold execDcArmReceive at ht; cases ht
  with_reducible repeat' first | intro _ | assumption | apply State.dcArm_inv | apply State.inv_ite | split | apply State.inv_mk

theorem execDcReplyReceive_inv {x1 : Fin 16} {x2 : Fin 4096} {x3 : Tick} {x4 : DomainReply} {s5 : State} (h5 : s5.Inv) {t : State} (ht : execDcReplyReceive x1 x2 x3 x4 s5 = .next t) : t.Inv := by
  unfold execDcReplyReceive at ht; cases ht
  with_reducible repeat' first | intro _ | assumption | apply State.dcReply_inv | apply State.inv_ite | split | apply State.inv_mk

theorem execDcDecide_inv {s1 : State} (h1 : s1.Inv) {t : State} (ht : execDcDecide s1 = .next t) : t.Inv := by
  unfold execDcDecide at ht; cases ht
  with_reducible repeat' first | intro _ | assumption | apply State.dcDecide_inv | apply State.inv_ite | split | apply State.inv_mk

theorem execDcGoReceive_inv {x1 : Fin 4096} {x2 : Tick} {s3 : State} (h3 : s3.Inv) {t : State} (ht : execDcGoReceive x1 x2 s3 = .next t) : t.Inv := by
  unfold execDcGoReceive at ht; cases ht
  with_reducible repeat' first | intro _ | assumption | apply State.dcGo_inv | apply State.inv_ite | split | apply State.inv_mk

theorem execDcAbortReceive_inv {x1 : Fin 4096} {x2 : Tick} {s3 : State} (h3 : s3.Inv) {t : State} (ht : execDcAbortReceive x1 x2 s3 = .next t) : t.Inv := by
  unfold execDcAbortReceive at ht; cases ht
  with_reducible repeat' first | intro _ | assumption | apply State.dcAbort_inv | apply State.inv_ite | split | apply State.inv_mk

theorem execDcHold_inv {s1 : State} (h1 : s1.Inv) {t : State} (ht : execDcHold s1 = .next t) : t.Inv := by
  unfold execDcHold at ht; cases ht
  with_reducible repeat' first | intro _ | assumption | apply State.dcHold_inv | apply State.inv_ite | split | apply State.inv_mk

theorem execDcClose_inv {s1 : State} (h1 : s1.Inv) {t : State} (ht : execDcClose s1 = .next t) : t.Inv := by
  unfold execDcClose at ht; cases ht
  with_reducible repeat' first | intro _ | assumption | apply State.dcClose_inv | apply State.inv_ite | split | apply State.inv_mk

theorem execDcRollbackReceive_inv {x1 : Fin 4096} {x2 : Tick} {s3 : State} (h3 : s3.Inv) {t : State} (ht : execDcRollbackReceive x1 x2 s3 = .next t) : t.Inv := by
  unfold execDcRollbackReceive at ht; cases ht
  with_reducible repeat' first | intro _ | assumption | apply State.dcRollback_inv | apply State.inv_ite | split | apply State.inv_mk

theorem execDcRollbackApply_inv {s1 : State} (h1 : s1.Inv) {t : State} (ht : execDcRollbackApply s1 = .next t) : t.Inv := by
  unfold execDcRollbackApply at ht; cases ht
  with_reducible repeat' first | intro _ | assumption | apply State.dcRollbackApply_inv | apply State.inv_ite | split | apply State.inv_mk

theorem execHrCntLoRead_inv {x1 : Initiator} {s2 : State} (h2 : s2.Inv) {t : State} (ht : execHrCntLoRead x1 s2 = .next t) : t.Inv := by
  unfold execHrCntLoRead at ht; cases ht
  with_reducible repeat' first | intro _ | assumption | apply State.readLatched_inv | apply State.inv_ite | split | apply State.inv_mk

end Sys2Proof.Machine
end

