-- ==== Sys2Proof/Laws/InvControl.lean ====
section
/-! SUPPORT. The invariant `State.Inv` through each function of Control, Test, Registers, Commit: one lemma per function, named after
it. -/

namespace Sys2Proof.Machine

set_option Elab.async false


theorem State.kept_inv {s1 : State} {x2 : Initiator} {x3 : Nat} {f4 : State → State} (h1 : s1.Inv) (h4 : ∀ (y0 : State), y0.Inv → (f4 y0).Inv) : (State.kept s1 x2 x3 f4).Inv := by
  unfold State.kept
  with_reducible repeat' first | intro _ | assumption | apply h4 | apply State.busError_inv | apply State.reply_inv | apply State.inv_ite | split | apply State.inv_mk

theorem State.reserved_inv {s1 : State} {x2 : Initiator} {x3 : Nat} {f4 : State → State} (h1 : s1.Inv) (h4 : ∀ (y0 : State), y0.Inv → (f4 y0).Inv) : (State.reserved s1 x2 x3 f4).Inv := by
  unfold State.reserved
  with_reducible repeat' first | intro _ | assumption | apply h4 | apply State.reply_inv | apply State.busError_inv | apply State.inv_ite | split | apply State.inv_mk

theorem State.mastersReset_inv {s1 : State} {x2 : Bool} (h1 : s1.Inv) : (State.mastersReset s1 x2).Inv := by
  unfold State.mastersReset
  with_reducible repeat' first | intro _ | assumption | apply State.raiseIf_inv | apply State.inv_ite | split | apply State.inv_mk

theorem State.clearCopies_inv {s1 : State} (h1 : s1.Inv) : (State.clearCopies s1).Inv := by
  unfold State.clearCopies
  with_reducible repeat' first | intro _ | assumption | apply State.keepRegs_inv | apply State.inv_ite | split | apply State.inv_mk

theorem State.bootswap_inv {s1 : State} {x2 : Word} (h1 : s1.Inv) : (State.bootswap s1 x2).Inv := by
  unfold State.bootswap
  with_reducible repeat' first | intro _ | assumption | apply State.wr_inv | apply State.inv_ite | split | apply State.inv_mk

theorem State.writeVector_inv {s1 : State} {x2 : Nat} {x3 : Word} (h1 : s1.Inv) : (State.writeVector s1 x2 x3).Inv := by
  unfold State.writeVector
  with_reducible repeat' first | intro _ | assumption | apply State.setCore_inv | apply State.setReg_inv | apply State.inv_ite | split | apply State.inv_mk

theorem State.runCore_inv {s1 : State} {x2 : Fin 4} {x3 : Bool} {x4 : Bool} (h1 : s1.Inv) : (State.runCore s1 x2 x3 x4).Inv := by
  unfold State.runCore
  with_reducible repeat' first | intro _ | assumption | apply State.later_inv | apply State.mastersReset_inv | apply State.setCore_inv | apply State.inv_ite | split | apply State.inv_mk

theorem State.runCores_inv {s1 : State} {x2 : Word} {x3 : BitVec 4} (h1 : s1.Inv) : (State.runCores s1 x2 x3).Inv := by
  unfold State.runCores
  with_reducible repeat' first | intro _ | assumption | apply State.each_inv | apply State.wr_inv | apply State.runCore_inv | apply State.inv_ite | split | apply State.inv_mk

theorem State.coreStarts_inv {s1 : State} {x2 : Fin 4} (h1 : s1.Inv) : (State.coreStarts s1 x2).Inv := by
  unfold State.coreStarts
  with_reducible repeat' first | intro _ | assumption | apply State.setCore_inv | apply State.inv_ite | split | apply State.inv_mk

theorem State.compareTimer_inv {s1 : State} {x2 : Nat} (h1 : s1.Inv) : (State.compareTimer s1 x2).Inv := by
  unfold State.compareTimer
  with_reducible repeat' first | intro _ | assumption | apply State.setCore_inv | apply State.inv_ite | split | apply State.inv_mk

theorem State.appletCommand_inv {s1 : State} {x2 : Nat} {x3 : Nat} {x4 : Nat} (h1 : s1.Inv) : (State.appletCommand s1 x2 x3 x4).Inv := by
  unfold State.appletCommand
  with_reducible repeat' first | intro _ | assumption | apply State.wr_inv | apply State.inv_ite | split | apply State.inv_mk

theorem State.appletCtrl_inv {s1 : State} {x2 : Word} (h1 : s1.Inv) : (State.appletCtrl s1 x2).Inv := by
  unfold State.appletCtrl
  with_reducible repeat' first | intro _ | assumption | apply State.each_inv | apply State.appletCommand_inv | apply State.inv_ite | split | apply State.inv_mk

theorem State.appletFault_inv {s1 : State} {x2 : Nat} {x3 : Nat} {x4 : Nat} (h1 : s1.Inv) : (State.appletFault s1 x2 x3 x4).Inv := by
  unfold State.appletFault
  with_reducible repeat' first | intro _ | assumption | apply State.wr_inv | apply State.raise_inv | apply State.inv_ite | split | apply State.inv_mk

theorem State.i2cAnswer_inv {s1 : State} {x2 : List Byte} (h1 : s1.Inv) : (State.i2cAnswer s1 x2).Inv := by
  unfold State.i2cAnswer
  with_reducible repeat' first | intro _ | assumption | apply State.send_inv | apply State.inv_ite | split | apply State.inv_mk

theorem State.mailIn_inv {s1 : State} {x2 : List Byte} {x3 : Bool} (h1 : s1.Inv) : (State.mailIn s1 x2 x3).Inv := by
  unfold State.mailIn
  with_reducible repeat' first | intro _ | assumption | apply State.send_inv | apply State.raise_inv | apply State.wr_inv | apply State.inv_ite | split | apply State.inv_mk

theorem State.mailOut_inv {s1 : State} (h1 : s1.Inv) : (State.mailOut s1).Inv := by
  unfold State.mailOut
  with_reducible repeat' first | intro _ | assumption | apply State.send_inv | apply State.wr_inv | apply State.inv_ite | split | apply State.inv_mk

theorem State.readMail_inv {s1 : State} {x2 : Initiator} (h1 : s1.Inv) : (State.readMail s1 x2).Inv := by
  unfold State.readMail
  with_reducible repeat' first | intro _ | assumption | apply State.replyWord_inv | apply State.incWrap_inv | apply State.inv_ite | split | apply State.inv_mk

theorem State.writeMail_inv {s1 : State} {x2 : Word} (h1 : s1.Inv) : (State.writeMail s1 x2).Inv := by
  unfold State.writeMail
  with_reducible repeat' first | intro _ | assumption | apply State.incWrap_inv | apply State.inv_ite | split | apply State.inv_mk

theorem State.qspiGo_inv {s1 : State} {x2 : Word} (h1 : s1.Inv) : (State.qspiGo s1 x2).Inv := by
  unfold State.qspiGo
  with_reducible repeat' first | intro _ | assumption | apply State.raise_inv | apply State.setReg_inv | apply State.send_inv | apply State.inv_ite | split | apply State.inv_mk

theorem State.qspiDone_inv {s1 : State} {x2 : List Byte} (h1 : s1.Inv) : (State.qspiDone s1 x2).Inv := by
  unfold State.qspiDone
  with_reducible repeat' first | intro _ | assumption | apply State.wr_inv | apply State.each_inv | apply State.setReg_inv | apply State.inv_ite | split | apply State.inv_mk

theorem State.pmbusAlert_inv {s1 : State} {x2 : Byte} {x3 : Byte} (h1 : s1.Inv) : (State.pmbusAlert s1 x2 x3).Inv := by
  unfold State.pmbusAlert
  with_reducible repeat' first | intro _ | assumption | apply State.wr_inv | apply State.inv_ite | split | apply State.inv_mk

theorem State.uartWrite_inv {s : State} {v : Word} (h : s.Inv) : (s.uartWrite v).Inv := by
  unfold State.uartWrite
  split
  · exact h
  · refine ⟨h.1, h.2.1, h.2.2.1, ?_, h.2.2.2.2⟩
    simp only [List.length_append, List.length_cons, List.length_nil]
    omega

theorem State.uartRead_inv {s : State} {m : Initiator} (h : s.Inv) : (s.uartRead m).Inv := by
  unfold State.uartRead
  dsimp only
  split
  · exact State.replyWord_inv h
  · rename_i b rest hr
    apply State.replyWord_inv
    refine ⟨h.1, h.2.1, h.2.2.1, h.2.2.2.1, ?_⟩
    have := h.2.2.2.2
    rw [hr] at this
    simp only [List.length_cons] at this
    exact Nat.le_of_succ_le this

theorem State.uartByte_inv {s : State} {b : Byte} (h : s.Inv) : (s.uartByte b).Inv := by
  unfold State.uartByte
  split
  · exact h
  · rename_i hc
    refine ⟨h.1, h.2.1, h.2.2.1, h.2.2.2.1, ?_⟩
    simp only [Bool.or_eq_true, not_or, decide_eq_true_eq] at hc
    simp only [List.length_append, List.length_cons, List.length_nil]
    omega

theorem State.tickUart_inv {s : State} (h : s.Inv) : (s.tickUart).Inv := by
  unfold State.tickUart
  split
  · rename_i b rest t hr ht
    split
    · exact h
    · apply State.send_inv
      refine ⟨h.1, h.2.1, h.2.2.1, ?_, h.2.2.2.2⟩
      have := h.2.2.2.1
      rw [hr] at this
      simp only [List.length_cons] at this
      exact Nat.le_of_succ_le this
  · exact h

theorem execBootswap_inv {x1 : Initiator} {x2 : Word} {s3 : State} (h3 : s3.Inv) {t : State} (ht : execBootswap x1 x2 s3 = .next t) : t.Inv := by
  unfold execBootswap at ht; cases ht
  with_reducible repeat' first | intro _ | assumption | apply State.kept_inv | apply State.bootswap_inv | apply State.inv_ite | split | apply State.inv_mk

theorem execCoreRunWrite_inv {x1 : Initiator} {x2 : Word} {x3 : BitVec 4} {s4 : State} (h4 : s4.Inv) {t : State} (ht : execCoreRunWrite x1 x2 x3 s4 = .next t) : t.Inv := by
  unfold execCoreRunWrite at ht; cases ht
  with_reducible repeat' first | intro _ | assumption | apply State.reserved_inv | apply State.runCores_inv | apply State.inv_ite | split | apply State.inv_mk

theorem execCoreTimerCompare_inv {x1 : Fin 4} {s2 : State} (h2 : s2.Inv) {t : State} (ht : execCoreTimerCompare x1 s2 = .next t) : t.Inv := by
  unfold execCoreTimerCompare at ht; cases ht
  with_reducible repeat' first | intro _ | assumption | apply State.compareTimer_inv | apply State.inv_ite | split | apply State.inv_mk

theorem execAppletStart_inv {x1 : Initiator} {x2 : Word} {s3 : State} (h3 : s3.Inv) {t : State} (ht : execAppletStart x1 x2 s3 = .next t) : t.Inv := by
  unfold execAppletStart at ht; cases ht
  with_reducible repeat' first | intro _ | assumption | apply State.kept_inv | apply State.appletCtrl_inv | apply State.inv_ite | split | apply State.inv_mk

theorem execAppletStop_inv {x1 : Initiator} {x2 : Word} {s3 : State} (h3 : s3.Inv) {t : State} (ht : execAppletStop x1 x2 s3 = .next t) : t.Inv := by
  unfold execAppletStop at ht; cases ht
  with_reducible repeat' first | intro _ | assumption | apply State.kept_inv | apply State.appletCtrl_inv | apply State.inv_ite | split | apply State.inv_mk

theorem execAppletFault_inv {x1 : Fin 8} {x2 : Fin 32} {x3 : Word} {s4 : State} (h4 : s4.Inv) {t : State} (ht : execAppletFault x1 x2 x3 s4 = .next t) : t.Inv := by
  unfold execAppletFault at ht; cases ht
  with_reducible repeat' first | intro _ | assumption | apply State.appletFault_inv | apply State.inv_ite | split | apply State.inv_mk

theorem execI2cReadId_inv {s1 : State} (h1 : s1.Inv) {t : State} (ht : execI2cReadId s1 = .next t) : t.Inv := by
  unfold execI2cReadId at ht; cases ht
  with_reducible repeat' first | intro _ | assumption | apply State.i2cAnswer_inv | apply State.inv_ite | split | apply State.inv_mk

theorem execI2cReadMode_inv {s1 : State} (h1 : s1.Inv) {t : State} (ht : execI2cReadMode s1 = .next t) : t.Inv := by
  unfold execI2cReadMode at ht; cases ht
  with_reducible repeat' first | intro _ | assumption | apply State.i2cAnswer_inv | apply State.inv_ite | split | apply State.inv_mk

theorem execI2cReadTherm_inv {s1 : State} (h1 : s1.Inv) {t : State} (ht : execI2cReadTherm s1 = .next t) : t.Inv := by
  unfold execI2cReadTherm at ht; cases ht
  with_reducible repeat' first | intro _ | assumption | apply State.i2cAnswer_inv | apply State.inv_ite | split | apply State.inv_mk

theorem execI2cReadGroups_inv {s1 : State} (h1 : s1.Inv) {t : State} (ht : execI2cReadGroups s1 = .next t) : t.Inv := by
  unfold execI2cReadGroups at ht; cases ht
  with_reducible repeat' first | intro _ | assumption | apply State.i2cAnswer_inv | apply State.inv_ite | split | apply State.inv_mk

theorem execI2cMbxWrite_inv {x1 : List Byte} {x2 : Bool} {s3 : State} (h3 : s3.Inv) {t : State} (ht : execI2cMbxWrite x1 x2 s3 = .next t) : t.Inv := by
  unfold execI2cMbxWrite at ht; cases ht
  with_reducible repeat' first | intro _ | assumption | apply State.mailIn_inv | apply State.inv_ite | split | apply State.inv_mk

theorem execI2cMbxRead_inv {s1 : State} (h1 : s1.Inv) {t : State} (ht : execI2cMbxRead s1 = .next t) : t.Inv := by
  unfold execI2cMbxRead at ht; cases ht
  with_reducible repeat' first | intro _ | assumption | apply State.mailOut_inv | apply State.inv_ite | split | apply State.inv_mk

theorem execSyMbxDataRead_inv {x1 : Initiator} {s2 : State} (h2 : s2.Inv) {t : State} (ht : execSyMbxDataRead x1 s2 = .next t) : t.Inv := by
  unfold execSyMbxDataRead at ht; cases ht
  with_reducible repeat' first | intro _ | assumption | apply State.readMail_inv | apply State.inv_ite | split | apply State.inv_mk

theorem execSyMbxDataWrite_inv {x1 : Initiator} {x2 : Word} {s3 : State} (h3 : s3.Inv) {t : State} (ht : execSyMbxDataWrite x1 x2 s3 = .next t) : t.Inv := by
  unfold execSyMbxDataWrite at ht; cases ht
  with_reducible repeat' first | intro _ | assumption | apply State.kept_inv | apply State.writeMail_inv | apply State.inv_ite | split | apply State.inv_mk

theorem execQspiGo_inv {x1 : Initiator} {x2 : Word} {s3 : State} (h3 : s3.Inv) {t : State} (ht : execQspiGo x1 x2 s3 = .next t) : t.Inv := by
  unfold execQspiGo at ht; cases ht
  with_reducible repeat' first | intro _ | assumption | apply State.reserved_inv | apply State.qspiGo_inv | apply State.inv_ite | split | apply State.inv_mk

theorem execQspiDone_inv {x1 : List Byte} {s2 : State} (h2 : s2.Inv) {t : State} (ht : execQspiDone x1 s2 = .next t) : t.Inv := by
  unfold execQspiDone at ht; cases ht
  with_reducible repeat' first | intro _ | assumption | apply State.qspiDone_inv | apply State.inv_ite | split | apply State.inv_mk

theorem execPmbusAlert_inv {x1 : Byte} {x2 : Byte} {s3 : State} (h3 : s3.Inv) {t : State} (ht : execPmbusAlert x1 x2 s3 = .next t) : t.Inv := by
  unfold execPmbusAlert at ht; cases ht
  with_reducible repeat' first | intro _ | assumption | apply State.pmbusAlert_inv | apply State.inv_ite | split | apply State.inv_mk

theorem execUartTxWrite_inv {x1 : Initiator} {x2 : Word} {s3 : State} (h3 : s3.Inv) {t : State} (ht : execUartTxWrite x1 x2 s3 = .next t) : t.Inv := by
  unfold execUartTxWrite at ht; cases ht
  with_reducible repeat' first | intro _ | assumption | apply State.kept_inv | apply State.uartWrite_inv | apply State.inv_ite | split | apply State.inv_mk

theorem execUartRxRead_inv {x1 : Initiator} {s2 : State} (h2 : s2.Inv) {t : State} (ht : execUartRxRead x1 s2 = .next t) : t.Inv := by
  unfold execUartRxRead at ht; cases ht
  with_reducible repeat' first | intro _ | assumption | apply State.uartRead_inv | apply State.inv_ite | split | apply State.inv_mk

theorem execUartRxByte_inv {x1 : Byte} {s2 : State} (h2 : s2.Inv) {t : State} (ht : execUartRxByte x1 s2 = .next t) : t.Inv := by
  unfold execUartRxByte at ht; cases ht
  with_reducible repeat' first | intro _ | assumption | apply State.uartByte_inv | apply State.inv_ite | split | apply State.inv_mk

theorem State.sensorFail_inv {s1 : State} (h1 : s1.Inv) : (State.sensorFail s1).Inv := by
  unfold State.sensorFail
  with_reducible repeat' first | intro _ | assumption | apply State.raise_inv | apply State.inv_ite | split | apply State.inv_mk

theorem State.sense_inv {s1 : State} {x2 : Int} {x3 : Nat} (h1 : s1.Inv) : (State.sense s1 x2 x3).Inv := by
  unfold State.sense
  with_reducible repeat' first | intro _ | assumption | apply State.inv_ite | split | apply State.inv_mk

theorem State.publishTherm_inv {s1 : State} {x2 : Int} (h1 : s1.Inv) : (State.publishTherm s1 x2).Inv := by
  unfold State.publishTherm
  with_reducible repeat' first | intro _ | assumption | apply State.wr_inv | apply State.raiseIf_inv | apply State.inv_ite | split | apply State.inv_mk

theorem State.guardPool_inv {s1 : State} {x2 : Int} (h1 : s1.Inv) : (State.guardPool s1 x2).Inv := by
  unfold State.guardPool
  with_reducible repeat' first | intro _ | assumption | apply State.wr_inv | apply State.modPool_inv | apply State.raise_inv | apply State.inv_ite | split | apply State.inv_mk

theorem State.tickThermal_inv {s1 : State} (h1 : s1.Inv) : (State.tickThermal s1).Inv := by
  unfold State.tickThermal
  with_reducible repeat' first | intro _ | assumption | apply State.guardPool_inv | apply State.publishTherm_inv | apply State.inv_ite | split | apply State.inv_mk

theorem State.thermalShutdown_inv {s1 : State} (h1 : s1.Inv) : (State.thermalShutdown s1).Inv := by
  unfold State.thermalShutdown
  with_reducible repeat' first | intro _ | assumption | apply State.each_inv | apply State.modEngine_inv | apply State.wr_inv | apply State.followRequest_inv | apply State.modMate_inv | apply State.inv_ite | split | apply State.inv_mk

theorem State.blankMemories_inv {s : State} (h : s.Inv) : (s.blankMemories).Inv := ⟨⟨h.1.1, rfl⟩, h.2⟩

theorem State.bistAbort_inv {s1 : State} (h1 : s1.Inv) : (State.bistAbort s1).Inv := by
  unfold State.bistAbort
  with_reducible repeat' first | intro _ | assumption | apply State.raise_inv | apply State.wr_inv | apply State.blankMemories_inv | apply State.inv_ite | split | apply State.inv_mk

theorem State.bistGo_inv {s1 : State} (h1 : s1.Inv) : (State.bistGo s1).Inv := by
  unfold State.bistGo
  with_reducible repeat' first | intro _ | assumption | apply State.setReg_inv | apply State.inv_ite | split | apply State.inv_mk

theorem State.bistCtrl_inv {s1 : State} {x2 : Initiator} {x3 : Word} (h1 : s1.Inv) : (State.bistCtrl s1 x2 x3).Inv := by
  unfold State.bistCtrl
  with_reducible repeat' first | intro _ | assumption | apply State.busError_inv | apply State.bistAbort_inv | apply State.reply_inv | apply State.bistGo_inv | apply State.inv_ite | split | apply State.inv_mk

theorem State.bistDone_inv {s1 : State} {x2 : Option (Nat × Nat)} (h1 : s1.Inv) : (State.bistDone s1 x2).Inv := by
  unfold State.bistDone
  with_reducible repeat' first | intro _ | assumption | apply State.wr_inv | apply State.blankMemories_inv | apply State.raise_inv | apply State.inv_ite | split | apply State.inv_mk

theorem execSensorFail_inv {s1 : State} (h1 : s1.Inv) {t : State} (ht : execSensorFail s1 = .next t) : t.Inv := by
  unfold execSensorFail at ht; cases ht
  with_reducible repeat' first | intro _ | assumption | apply State.sensorFail_inv | apply State.inv_ite | split | apply State.inv_mk

theorem execThermalShutdown_inv {s1 : State} (h1 : s1.Inv) {t : State} (ht : execThermalShutdown s1 = .next t) : t.Inv := by
  unfold execThermalShutdown at ht; cases ht
  with_reducible repeat' first | intro _ | assumption | apply State.thermalShutdown_inv | apply State.inv_ite | split | apply State.inv_mk

theorem execBistGo_inv {x1 : Initiator} {x2 : Word} {s3 : State} (h3 : s3.Inv) {t : State} (ht : execBistGo x1 x2 s3 = .next t) : t.Inv := by
  unfold execBistGo at ht; cases ht
  with_reducible repeat' first | intro _ | assumption | apply State.bistCtrl_inv | apply State.inv_ite | split | apply State.inv_mk

theorem execBistAbort_inv {x1 : Initiator} {x2 : Word} {s3 : State} (h3 : s3.Inv) {t : State} (ht : execBistAbort x1 x2 s3 = .next t) : t.Inv := by
  unfold execBistAbort at ht; cases ht
  with_reducible repeat' first | intro _ | assumption | apply State.bistCtrl_inv | apply State.inv_ite | split | apply State.inv_mk

theorem execBistDone_inv {x1 : Option (Fin 4096 × Fin 1024)} {s2 : State} (h2 : s2.Inv) {t : State} (ht : execBistDone x1 s2 = .next t) : t.Inv := by
  unfold execBistDone at ht; cases ht
  with_reducible repeat' first | intro _ | assumption | apply State.bistDone_inv | apply State.inv_ite | split | apply State.inv_mk

theorem State.settle_inv {s : State} {o : Host.Outcome State Fault Refusal} (h : s.Inv) (ho : ∀ t, o = .next t → t.Inv) :
    (s.settle o).Inv := by
  unfold State.settle
  split
  · exact ho _ rfl
  · exact h

theorem State.via_inv {s : State} {f : State → Host.Outcome State Fault Refusal} (h : s.Inv)
    (hf : ∀ y t : State, y.Inv → f y = .next t → t.Inv) : (s.via f).Inv := State.settle_inv h fun t => hf s t h

theorem State.reportUncovered_inv {s1 : State} {s2 : State} (h1 : s1.Inv) (h2 : s2.Inv) : (State.reportUncovered s1 s2).Inv := by
  unfold State.reportUncovered
  with_reducible repeat' first | intro _ | assumption | apply State.each_inv | apply State.report_inv | apply State.inv_ite | split | apply State.inv_mk

theorem State.writeSource_inv {s1 : State} {x2 : Nat} {x3 : Word} (h1 : s1.Inv) : (State.writeSource s1 x2 x3).Inv := by
  unfold State.writeSource
  with_reducible repeat' first | intro _ | assumption | apply State.setReg_inv | apply State.sendMsix_inv | apply State.inv_ite | split | apply State.inv_mk

theorem State.putReg_inv {s1 : State} {x2 : Reg} {x3 : Nat} {x4 : Word} (h1 : s1.Inv) : (State.putReg s1 x2 x3 x4).Inv := by
  unfold State.putReg
  with_reducible repeat' first | intro _ | assumption | apply State.wr_inv | apply State.setReg_inv | apply State.modLane_inv | apply State.raise_inv | apply State.swapResult_inv | apply State.later_inv | apply State.writeVector_inv | apply State.compareTimer_inv | apply State.setCtr_inv | apply State.writeSource_inv | apply State.writeLogRd_inv | apply State.writeDumpCfg_inv | apply State.writePmCfg_inv | apply State.flushMsix_inv | apply State.reportUncovered_inv | apply State.inv_ite | split | apply State.inv_mk

theorem State.clearReg_inv {s1 : State} {x2 : Reg} {x3 : Nat} {x4 : Word} (h1 : s1.Inv) : (State.clearReg s1 x2 x3 x4).Inv := by
  unfold State.clearReg
  with_reducible repeat' first | intro _ | assumption | apply State.setReg_inv | apply State.inv_ite | split | apply State.inv_mk

theorem State.applyWrite_inv {s1 : State} {x2 : Write} (h1 : s1.Inv) : (State.applyWrite s1 x2).Inv := by
  unfold State.applyWrite
  with_reducible repeat' first | intro _ | assumption | apply State.restartTraining_inv | apply State.setBackoffDis_inv | apply State.setLoop_inv | apply State.releaseLoop_inv | apply State.later_inv | apply State.injectBurst_inv | apply State.raise_inv | apply State.modSwap_inv | apply State.setManifest_inv | apply State.gridCommand_inv | apply State.gridRepack_inv | apply State.idataWrite_inv | apply State.modPackets_inv | apply State.gccWrite_inv | apply State.modGcc_inv | apply State.writeTxEn_inv | apply State.wrBool_inv | apply State.wr_inv | apply State.setReg_inv | apply State.spiGo_inv | apply State.keyLoad_inv | apply State.keyChange_inv | apply State.zeroize_inv | apply State.zeroizeAll_inv | apply State.requestBank_inv | apply State.mgCmd_inv | apply State.learnAgain_inv | apply State.resetModel_inv | apply State.putReg_inv | apply State.applySwitchover_inv | apply State.retireWrite_inv | apply State.ccWrite_inv | apply State.dcCommand_inv | apply State.applyAgent_inv | apply State.imageApply_inv | apply State.imageCommitAt_inv | apply State.imageAbort_inv | apply State.imageRevert_inv | apply State.inv_ite | split | apply State.inv_mk

theorem State.writeAll_inv {s1 : State} {x2 : Initiator} {x3 : Nat} {x4 : List Write} (h1 : s1.Inv) : (State.writeAll s1 x2 x3 x4).Inv := by
  unfold State.writeAll
  with_reducible repeat' first | intro _ | assumption | apply State.refuseLocal_inv | apply State.reply_inv | apply State.each_inv | apply State.journalEntry_inv | apply State.applyWrite_inv | apply State.inv_ite | split | apply State.inv_mk

theorem State.writeKeyCmd_inv {s1 : State} {x2 : Initiator} {x3 : Word} (h1 : s1.Inv) : (State.writeKeyCmd s1 x2 x3).Inv := by
  unfold State.writeKeyCmd
  with_reducible repeat' first | intro _ | assumption | apply State.putReg_inv | apply State.via_inv | refine execKeyLoad_inv ?_ ‹execKeyLoad _ _ _ = _› | refine execKeyChange_inv ?_ ‹execKeyChange _ _ _ = _› | refine execZeroize_inv ?_ ‹execZeroize _ _ _ = _› | refine execZeroizeAll_inv ?_ ‹execZeroizeAll _ _ = _› | apply State.reply_inv | apply State.inv_ite | split | apply State.inv_mk

theorem State.writeImgCmd_inv {s1 : State} {x2 : Initiator} {x3 : Word} {x4 : Aside} (h1 : s1.Inv) : (State.writeImgCmd s1 x2 x3 x4).Inv := by
  unfold State.writeImgCmd
  with_reducible repeat' first | intro _ | assumption | apply State.via_inv | refine execImgApply_inv ?_ ‹execImgApply _ _ _ _ = _› | refine execImgCommit_inv ?_ ‹execImgCommit _ _ _ = _› | refine execImgAbort_inv ?_ ‹execImgAbort _ _ _ = _› | refine execImgPersist_inv ?_ ‹execImgPersist _ _ _ _ = _› | refine execImgRevert_inv ?_ ‹execImgRevert _ _ _ = _› | apply State.reply_inv | apply State.keepImgCmd_inv | apply State.inv_ite | split | apply State.inv_mk

theorem State.writeBlkRst_inv {s1 : State} {x2 : Word} (h1 : s1.Inv) : (State.writeBlkRst s1 x2).Inv := by
  unfold State.writeBlkRst
  with_reducible repeat' first | intro _ | assumption | apply State.putReg_inv | apply State.later_inv | apply State.inv_ite | split | apply State.inv_mk

theorem State.writeCapCtrl_inv {s1 : State} {x2 : Initiator} {x3 : Word} (h1 : s1.Inv) : (State.writeCapCtrl s1 x2 x3).Inv := by
  unfold State.writeCapCtrl
  with_reducible repeat' first | intro _ | assumption | apply State.via_inv | refine execCapArm_inv ?_ ‹execCapArm _ _ = _› | refine execCapTrig_inv ?_ ‹execCapTrig _ _ = _› | refine execCapDisarm_inv ?_ ‹execCapDisarm _ _ = _› | apply State.reply_inv | refine execCapRelease_inv ?_ ‹execCapRelease _ _ = _› | apply State.inv_ite | split | apply State.inv_mk

theorem State.writeMateCtrl_inv {s1 : State} {x2 : Initiator} {x3 : Word} (h1 : s1.Inv) : (State.writeMateCtrl s1 x2 x3).Inv := by
  unfold State.writeMateCtrl
  with_reducible repeat' first | intro _ | assumption | apply State.via_inv | refine execSwGrant_inv ?_ ‹execSwGrant _ _ _ = _› | refine execResync_inv ?_ ‹execResync _ _ _ = _› | refine execSwitchover_inv ?_ ‹execSwitchover _ _ _ = _› | apply State.inv_ite | split | apply State.inv_mk

theorem State.inv_some_ite {c : Prop} [Decidable c] {s t : State} (h : s.Inv) (ht : (if c then some s else none) = some t) : t.Inv := by
  split at ht
  · exact Option.some.inj ht ▸ h
  · cases ht

theorem State.inv_some {s t : State} (h : s.Inv) (ht : some s = some t) : t.Inv := Option.some.inj ht ▸ h

theorem State.writeRow_inv {s : State} {m : Initiator} {r : Reg} {i : Nat} {v : Word} {x : Aside} (h : s.Inv) {t : State}
    (ht : s.writeRow m r i v x = some t) : t.Inv := by
  unfold State.writeRow at ht
  split at ht
  · exact State.inv_some (State.via_inv h fun _ _ hy e => execLoopFreezeWrite_inv hy e) ht
  · exact State.inv_some (State.via_inv h fun _ _ hy e => execBootswap_inv hy e) ht
  · exact State.inv_some (State.via_inv h fun _ _ hy e => execCoreRunWrite_inv hy e) ht
  · exact State.inv_some (State.via_inv h fun _ _ hy e => execAppletStart_inv hy e) ht
  · exact State.inv_some_ite (State.via_inv h fun _ _ hy e => execQspiGo_inv hy e) ht
  · exact State.inv_some (State.via_inv h fun _ _ hy e => execUartTxWrite_inv hy e) ht
  · exact State.inv_some (State.via_inv h fun _ _ hy e => execSyMbxDataWrite_inv hy e) ht
  · exact State.inv_some (State.writeImgCmd_inv h) ht
  · exact State.inv_some (State.reply_inv (State.writeBlkRst_inv h)) ht
  · exact State.inv_some (State.via_inv h fun _ _ hy e => execDebugUnlock_inv hy e) ht
  · exact State.inv_some_ite (State.via_inv h fun _ _ hy e => execFuseProgram_inv hy e) ht
  · exact State.inv_some (State.writeKeyCmd_inv h) ht
  · exact State.inv_some_ite (State.via_inv h fun _ _ hy e => execRepairProgram_inv hy e) ht
  · exact State.inv_some (State.writeMateCtrl_inv h) ht
  · exact State.inv_some (State.writeCapCtrl_inv h) ht
  · exact State.inv_some_ite (State.via_inv h fun _ _ hy e => execDumpStop_inv hy e) ht
  · exact State.inv_some (State.bistCtrl_inv h) ht
  · exact State.inv_some_ite (State.raise_inv (State.busError_inv h)) ht
  · exact State.inv_some_ite (State.raise_inv (State.busError_inv h)) ht
  · exact State.inv_some_ite (State.reply_inv (State.putReg_inv h)) ht

theorem State.writeCopy_inv {s1 : State} {x2 : Initiator} {x3 : Reg} {x4 : Nat} {x5 : Nat} {x6 : Word} {x7 : Aside} (h1 : s1.Inv) : (State.writeCopy s1 x2 x3 x4 x5 x6 x7).Inv := by
  unfold State.writeCopy
  with_reducible repeat' first | intro _ | assumption | apply State.clearReg_inv | apply State.reply_inv | apply State.writeAll_inv | apply State.each_inv | apply State.applyWrite_inv | refine State.writeRow_inv ?_ ‹_› | apply State.inv_ite | split | apply State.inv_mk

theorem State.writeReg_inv {s1 : State} {x2 : Initiator} {x3 : Nat} {x4 : Word} {x5 : Aside} (h1 : s1.Inv) : (State.writeReg s1 x2 x3 x4 x5).Inv := by
  unfold State.writeReg
  with_reducible repeat' first | intro _ | assumption | apply State.via_inv | refine execManifestShadowWrite_inv ?_ ‹execManifestShadowWrite _ _ _ _ = _› | apply State.reply_inv | apply State.busError_inv | apply State.writeCopy_inv | apply State.inv_ite | split | apply State.inv_mk

theorem State.readRow_inv {s1 : State} {x2 : Initiator} {x3 : Reg} {x4 : Nat} (h1 : s1.Inv) {t : State} (ht : State.readRow s1 x2 x3 x4 = some t) : t.Inv := by
  unfold State.readRow at ht
  split at ht <;> first | cases ht | skip
  with_reducible repeat' first | intro _ | assumption | apply State.via_inv | refine execSyTicknoLoRead_inv ?_ ‹execSyTicknoLoRead _ _ = _› | refine execUartRxRead_inv ?_ ‹execUartRxRead _ _ = _› | refine execSyMbxDataRead_inv ?_ ‹execSyMbxDataRead _ _ = _› | refine execTrBipLoRead_inv ?_ ‹execTrBipLoRead _ _ = _› | refine execGridSwapDoneLoRead_inv ?_ ‹execGridSwapDoneLoRead _ _ = _› | refine execLnErrLoRead_inv ?_ ‹execLnErrLoRead _ _ = _› | refine execLnBitsLoRead_inv ?_ ‹execLnBitsLoRead _ _ = _› | refine execQyCntLoRead_inv ?_ ‹execQyCntLoRead _ _ = _› | refine execQyXdataRead_inv ?_ ‹execQyXdataRead _ _ = _› | refine execQyTsf0Read_inv ?_ ‹execQyTsf0Read _ _ = _› | refine execLfFnoLoRead_inv ?_ ‹execLfFnoLoRead _ _ = _› | refine execLfPmLoRead_inv ?_ ‹execLfPmLoRead _ _ = _› | refine execLfGccRxdRead_inv ?_ ‹execLfGccRxdRead _ _ _ = _› | refine execFpCntLoRead_inv ?_ ‹execFpCntLoRead _ _ = _› | refine execTdCntLoRead_inv ?_ ‹execTdCntLoRead _ _ = _› | refine execMgCntLoRead_inv ?_ ‹execMgCntLoRead _ _ = _› | refine execTmTb0Read_inv ?_ ‹execTmTb0Read _ _ = _› | refine execMtCntLoRead_inv ?_ ‹execMtCntLoRead _ _ = _› | refine execHrCntLoRead_inv ?_ ‹execHrCntLoRead _ _ = _› | refine execHrCcRxdRead_inv ?_ ‹execHrCcRxdRead _ _ = _› | refine execMmEccAddrLoRead_inv ?_ ‹execMmEccAddrLoRead _ _ = _› | refine execPcCntLoRead_inv ?_ ‹execPcCntLoRead _ _ _ = _› | apply State.inv_ite | split | apply State.inv_mk

theorem State.readReg_inv {s1 : State} {x2 : Initiator} {x3 : Nat} (h1 : s1.Inv) : (State.readReg s1 x2 x3).Inv := by
  unfold State.readReg
  with_reducible repeat' first | intro _ | assumption | apply State.reply_inv | apply State.busError_inv | apply State.draw_inv | refine State.readRow_inv ?_ ‹_› | apply State.inv_ite | split | apply State.inv_mk

theorem State.registerRead_inv {s1 : State} {x2 : Initiator} {x3 : Nat} (h1 : s1.Inv) : (State.registerRead s1 x2 x3).Inv := by
  unfold State.registerRead
  with_reducible repeat' first | intro _ | assumption | apply State.reply_inv | apply State.readReg_inv | apply State.inv_ite | split | apply State.inv_mk

theorem State.registerWrite_inv {s1 : State} {x2 : Initiator} {x3 : Nat} {x4 : Word} {x5 : Aside} (h1 : s1.Inv) : (State.registerWrite s1 x2 x3 x4 x5).Inv := by
  unfold State.registerWrite
  with_reducible repeat' first | intro _ | assumption | apply State.busError_inv | apply State.reply_inv | apply State.writeReg_inv | apply State.inv_ite | split | apply State.inv_mk

theorem State.loaderCopies_inv {s1 : State} {x2 : Table Word} (h1 : s1.Inv) : (State.loaderCopies s1 x2).Inv := by
  unfold State.loaderCopies
  with_reducible repeat' first | intro _ | assumption | apply State.each_inv | apply State.setReg_inv | apply State.inv_ite | split | apply State.inv_mk

theorem State.initReg_inv {s1 : State} {f2 : Reg → Nat → Bool} {x3 : Nat} {x4 : Word} (h1 : s1.Inv) : (State.initReg s1 f2 x3 x4).Inv := by
  unfold State.initReg
  with_reducible repeat' first | intro _ | assumption | apply h2 | apply State.each_inv | apply State.clearReg_inv | apply State.applyWrite_inv | refine State.writeRow_inv ?_ ‹_› | apply State.inv_ite | split | apply State.inv_mk

theorem State.regInits_inv {s1 : State} {x2 : Image} {f3 : Reg → Nat → Bool} (h1 : s1.Inv) : (State.regInits s1 x2 f3).Inv := by
  unfold State.regInits
  with_reducible repeat' first | intro _ | assumption | apply h3 | apply State.each_inv | apply State.loaderCopies_inv | apply State.initReg_inv | apply State.inv_ite | split | apply State.inv_mk

theorem State.setModeHolds_inv {s1 : State} {x2 : Image} (h1 : s1.Inv) : (State.setModeHolds s1 x2).Inv := by
  unfold State.setModeHolds
  with_reducible repeat' first | intro _ | assumption | apply State.each_inv | apply State.holdChanged_inv | apply State.inv_ite | split | apply State.inv_mk

theorem State.classX_inv {s : State} {old im : Image} (h : s.Inv) : (s.classX old im).Inv := by
  unfold State.classX
  dsimp only
  apply State.setDevState_inv
  apply State.modMate_inv
  refine ⟨h.1, ?_, h.2.2⟩
  show Mem.rising (if old.anchorage == im.anchorage then s.anc else []) = true
  split
  · exact h.2.1
  · rfl

theorem State.enforce_inv {s1 : State} {x2 : Image} {x3 : Bool} (h1 : s1.Inv) : (State.enforce s1 x2 x3).Inv := by
  unfold State.enforce
  with_reducible repeat' first | intro _ | assumption | apply State.closeBins_inv | apply State.each_inv | apply State.setResource_inv | apply State.setModeHolds_inv | apply State.setShared_inv | apply State.classX_inv | apply State.regInits_inv | apply State.restartResource_inv | apply State.setApplets_inv | apply State.loadKeys_inv | apply State.setContexts_inv | apply State.wr_inv | apply State.showPm_inv | apply State.roleErrors_inv | apply State.inv_ite | split | apply State.inv_mk

theorem State.commitEnds_inv {s1 : State} {x2 : Image} (h1 : s1.Inv) : (State.commitEnds s1 x2).Inv := by
  unfold State.commitEnds
  with_reducible repeat' first | intro _ | assumption | apply State.modSwap_inv | apply State.imgEvent_inv | apply State.imgResult_inv | apply State.startRecord_inv | apply State.setImgState_inv | apply State.inv_ite | split | apply State.inv_mk

theorem State.imageCommit_inv {s1 : State} (h1 : s1.Inv) : (State.imageCommit s1).Inv := by
  unfold State.imageCommit
  with_reducible repeat' first | intro _ | assumption | apply State.commitEnds_inv | apply State.enforce_inv | apply State.imgResult_inv | apply State.dropApply_inv | apply State.inv_ite | split | apply State.inv_mk

theorem State.resetRegs_inv {s1 : State} {x2 : Resource} (h1 : s1.Inv) : (State.resetRegs s1 x2).Inv := by
  unfold State.resetRegs
  with_reducible repeat' first | intro _ | assumption | apply State.keepRegs_inv | apply State.regInits_inv | apply State.setResource_inv | apply State.inv_ite | split | apply State.inv_mk

theorem State.blockReset_inv {s1 : State} {x2 : Resource} (h1 : s1.Inv) : (State.blockReset s1 x2).Inv := by
  unfold State.blockReset
  with_reducible repeat' first | intro _ | assumption | apply State.restartResource_inv | apply State.resetRegs_inv | apply State.inv_ite | split | apply State.inv_mk

theorem State.blockRelease_inv {s1 : State} (h1 : s1.Inv) : (State.blockRelease s1).Inv := by
  unfold State.blockRelease
  with_reducible repeat' first | intro _ | assumption | apply State.each_inv | apply State.restartResource_inv | apply State.inv_ite | split | apply State.inv_mk

theorem execImageCommitBoundary_inv {s1 : State} (h1 : s1.Inv) {t : State} (ht : execImageCommitBoundary s1 = .next t) : t.Inv := by
  unfold execImageCommitBoundary at ht; cases ht
  with_reducible repeat' first | intro _ | assumption | apply State.imageCommit_inv | apply State.inv_ite | split | apply State.inv_mk

theorem execBlockReset_inv {x1 : Initiator} {x2 : Word} {s3 : State} (h3 : s3.Inv) {t : State} (ht : execBlockReset x1 x2 s3 = .next t) : t.Inv := by
  unfold execBlockReset at ht; cases ht
  with_reducible repeat' first | intro _ | assumption | apply State.kept_inv | apply State.writeBlkRst_inv | apply State.inv_ite | split | apply State.inv_mk

theorem execBlockResetRelease_inv {s1 : State} (h1 : s1.Inv) {t : State} (ht : execBlockResetRelease s1 = .next t) : t.Inv := by
  unfold execBlockResetRelease at ht; cases ht
  with_reducible repeat' first | intro _ | assumption | apply State.blockRelease_inv | apply State.inv_ite | split | apply State.inv_mk

end Sys2Proof.Machine
end

