-- ==== Sys2Proof/Laws/InvStep.lean ====
section
/-! SUPPORT. The invariant `State.Inv` through each function of Boot, MateBoot, Bus, Tick, Dispatch, Step: one lemma per function, named after
it. -/

namespace Sys2Proof.Machine

set_option Elab.async false


theorem State.modBoot_inv {s1 : State} {f2 : Boot → Boot} (h1 : s1.Inv) : (State.modBoot s1 f2).Inv := by
  unfold State.modBoot
  with_reducible repeat' first | intro _ | assumption | apply h2 | apply State.inv_ite | split | apply State.inv_mk

theorem State.powerReset_inv {s : State} {a b : FuseCut} (_h : s.Inv) : (s.powerReset a b).Inv := ⟨⟨fun _ hx => (List.not_mem_nil hx).elim, rfl⟩, rfl, Nat.zero_le _, Nat.zero_le _, Nat.zero_le _⟩

theorem State.thermalReset_inv {s1 : State} (h1 : s1.Inv) : (State.thermalReset s1).Inv := by
  unfold State.thermalReset
  with_reducible repeat' first | intro _ | assumption | apply State.powerReset_inv | apply State.inv_ite | split | apply State.inv_mk

theorem State.takeRole_inv {s1 : State} {x2 : Nat} (h1 : s1.Inv) : (State.takeRole s1 x2).Inv := by
  unfold State.takeRole
  with_reducible repeat' first | intro _ | assumption | apply State.raiseIf_inv | apply State.wr_inv | apply State.inv_ite | split | apply State.inv_mk

theorem State.takeStraps_inv {s1 : State} {x2 : Straps} (h1 : s1.Inv) : (State.takeStraps s1 x2).Inv := by
  unfold State.takeStraps
  with_reducible repeat' first | intro _ | assumption | apply State.wrBool_inv | apply State.wr_inv | apply State.inv_ite | split | apply State.inv_mk

theorem State.startCore0_inv {s1 : State} (h1 : s1.Inv) : (State.startCore0 s1).Inv := by
  unfold State.startCore0
  with_reducible repeat' first | intro _ | assumption | apply State.setCore_inv | apply State.inv_ite | split | apply State.inv_mk

theorem State.leaveReset_inv {s1 : State} {x2 : Straps} {x3 : Option (Fin 5)} {x4 : Nat} (h1 : s1.Inv) : (State.leaveReset s1 x2 x3 x4).Inv := by
  unfold State.leaveReset
  with_reducible repeat' first | intro _ | assumption | apply State.setDevState_inv | apply State.modBoot_inv | apply State.wr_inv | apply State.startCore0_inv | apply State.takeRole_inv | apply State.takeStraps_inv | apply State.inv_ite | split | apply State.inv_mk

theorem State.loadFuses_inv {s1 : State} (h1 : s1.Inv) : (State.loadFuses s1).Inv := by
  unfold State.loadFuses
  with_reducible repeat' first | intro _ | assumption | apply State.modBoot_inv | apply State.wr_inv | apply State.showFuses_inv | apply State.inv_ite | split | apply State.inv_mk

theorem State.readDimms_inv {s1 : State} {x2 : Dimms} (h1 : s1.Inv) : (State.readDimms s1 x2).Inv := by
  unfold State.readDimms
  with_reducible repeat' first | intro _ | assumption | apply State.raise_inv | apply State.wr_inv | apply State.inv_ite | split | apply State.inv_mk

theorem State.endBoot_inv {s1 : State} {x2 : DevState} (h1 : s1.Inv) : (State.endBoot s1 x2).Inv := by
  unfold State.endBoot
  with_reducible repeat' first | intro _ | assumption | apply State.each_inv | apply State.modBoot_inv | apply State.setDevState_inv | apply State.raise_inv | apply State.raiseSource_inv | apply State.inv_ite | split | apply State.inv_mk

theorem State.defaultSettings_inv {s1 : State} (h1 : s1.Inv) : (State.defaultSettings s1).Inv := by
  unfold State.defaultSettings
  with_reducible repeat' first | intro _ | assumption | apply State.wr_inv | apply State.each_inv | apply State.inv_ite | split | apply State.inv_mk

theorem State.showStart_inv {s1 : State} {x2 : Start} (h1 : s1.Inv) : (State.showStart s1 x2).Inv := by
  unfold State.showStart
  with_reducible repeat' first | intro _ | assumption | apply State.wrBool_inv | apply State.wr_inv | apply State.inv_ite | split | apply State.inv_mk

theorem State.putStart_inv {s1 : State} {x2 : Start} (h1 : s1.Inv) : (State.putStart s1 x2).Inv := by
  unfold State.putStart
  with_reducible repeat' first | intro _ | assumption | apply State.showStart_inv | apply State.enforce_inv | apply State.loadBank_inv | apply State.defaultSettings_inv | apply State.inv_ite | split | apply State.inv_mk

theorem State.startUp_inv {s1 : State} {x2 : Start} (h1 : s1.Inv) : (State.startUp s1 x2).Inv := by
  unfold State.startUp
  with_reducible repeat' first | intro _ | assumption | apply State.modBoot_inv | apply State.endBoot_inv | apply State.putStart_inv | apply State.inv_ite | split | apply State.inv_mk

theorem State.launch_inv {s1 : State} {x2 : Start} {x3 : List Start} (h1 : s1.Inv) : (State.launch s1 x2 x3).Inv := by
  unfold State.launch
  with_reducible repeat' first | intro _ | assumption | apply State.modBoot_inv | apply State.startUp_inv | apply State.inv_ite | split | apply State.inv_mk

theorem State.noImage_inv {s1 : State} {x2 : DevState} (h1 : s1.Inv) : (State.noImage s1 x2).Inv := by
  unfold State.noImage
  with_reducible repeat' first | intro _ | assumption | apply State.endBoot_inv | apply State.wr_inv | apply State.inv_ite | split | apply State.inv_mk

theorem State.showReason_inv {s1 : State} {x2 : Bool} {x3 : Nat} (h1 : s1.Inv) : (State.showReason s1 x2 x3).Inv := by
  unfold State.showReason
  with_reducible repeat' first | intro _ | assumption | apply State.wr_inv | apply State.inv_ite | split | apply State.inv_mk

theorem State.rejected_inv {s1 : State} {x2 : Image} {x3 : Bool} {x4 : Nat} (h1 : s1.Inv) : (State.rejected s1 x2 x3 x4).Inv := by
  unfold State.rejected
  with_reducible repeat' first | intro _ | assumption | apply State.showReason_inv | apply State.showBroken_inv | apply State.inv_ite | split | apply State.inv_mk

theorem State.lastRow_inv {s1 : State} {x2 : List Image} (h1 : s1.Inv) : (State.lastRow s1 x2).Inv := by
  unfold State.lastRow
  with_reducible repeat' first | intro _ | assumption | apply State.launch_inv | apply State.noImage_inv | apply State.inv_ite | split | apply State.inv_mk

theorem State.selectFlash_inv {s1 : State} {x2 : BootFlash} (h1 : s1.Inv) : (State.selectFlash s1 x2).Inv := by
  unfold State.selectFlash
  with_reducible repeat' first | intro _ | assumption | apply State.lastRow_inv | apply State.showReason_inv | apply State.launch_inv | apply State.rejected_inv | apply State.imgEvent_inv | apply State.wr_inv | apply State.inv_ite | split | apply State.inv_mk

theorem State.select_inv {s1 : State} {x2 : BootFlash} (h1 : s1.Inv) : (State.select s1 x2).Inv := by
  unfold State.select
  with_reducible repeat' first | intro _ | assumption | apply State.noImage_inv | apply State.launch_inv | apply State.modBoot_inv | apply State.selectFlash_inv | apply State.inv_ite | split | apply State.inv_mk

theorem State.fuseLoadDone_inv {s1 : State} {x2 : BootFlash} {x3 : Dimms} {x4 : Option (Fin 7)} (h1 : s1.Inv) : (State.fuseLoadDone s1 x2 x3 x4).Inv := by
  unfold State.fuseLoadDone
  with_reducible repeat' first | intro _ | assumption | apply State.modBoot_inv | apply State.readDimms_inv | apply State.loadFuses_inv | apply State.select_inv | apply State.inv_ite | split | apply State.inv_mk

theorem State.hostGo_inv {s1 : State} {x2 : Image} (h1 : s1.Inv) : (State.hostGo s1 x2).Inv := by
  unfold State.hostGo
  with_reducible repeat' first | intro _ | assumption | apply State.imgResult_inv | apply State.launch_inv | apply State.lastRow_inv | apply State.rejected_inv | apply State.inv_ite | split | apply State.inv_mk

theorem State.returnTo_inv {s1 : State} {x2 : Table Word} (h1 : s1.Inv) : (State.returnTo s1 x2).Inv := by
  unfold State.returnTo
  with_reducible repeat' first | intro _ | assumption | apply State.each_inv | apply State.setReg_inv | apply State.inv_ite | split | apply State.inv_mk

theorem State.restartUp_inv {s1 : State} {x2 : Bool} {x3 : Bool} (h1 : s1.Inv) : (State.restartUp s1 x2 x3).Inv := by
  unfold State.restartUp
  with_reducible repeat' first | intro _ | assumption | apply State.showReason_inv | apply State.returnTo_inv | apply State.putStart_inv | apply State.modBoot_inv | apply State.setDevState_inv | apply State.imgEvent_inv | apply State.wr_inv | apply State.noImage_inv | apply State.restartAll_inv | apply State.inv_ite | split | apply State.inv_mk

theorem State.ancTrained_inv {s1 : State} {x2 : Bool} {x3 : Bool} (h1 : s1.Inv) : (State.ancTrained s1 x2 x3).Inv := by
  unfold State.ancTrained
  with_reducible repeat' first | intro _ | assumption | apply State.wrBool_inv | apply State.raiseIf_inv | apply State.modBoot_inv | apply State.restartUp_inv | apply State.inv_ite | split | apply State.inv_mk

theorem State.trafficReady_inv {s1 : State} (h1 : s1.Inv) : (State.trafficReady s1).Inv := by
  unfold State.trafficReady
  with_reducible repeat' first | intro _ | assumption | apply State.setDevState_inv | apply State.inv_ite | split | apply State.inv_mk

theorem State.datapathOff_inv {s1 : State} (h1 : s1.Inv) : (State.datapathOff s1).Inv := by
  unfold State.datapathOff
  with_reducible repeat' first | intro _ | assumption | apply State.setModeHolds_inv | apply State.wr_inv | apply State.restartAll_inv | apply State.inv_ite | split | apply State.inv_mk

theorem State.imageLost_inv {s1 : State} (h1 : s1.Inv) : (State.imageLost s1).Inv := by
  unfold State.imageLost
  with_reducible repeat' first | intro _ | assumption | apply State.setDevState_inv | apply State.datapathOff_inv | apply State.inv_ite | split | apply State.inv_mk

theorem State.applySrst_inv {s1 : State} (h1 : s1.Inv) : (State.applySrst s1).Inv := by
  unfold State.applySrst
  with_reducible repeat' first | intro _ | assumption | apply State.imgResult_inv | apply State.dropApply_inv | apply State.inv_ite | split | apply State.inv_mk

theorem State.swapsEnd_inv {s1 : State} (h1 : s1.Inv) : (State.swapsEnd s1).Inv := by
  unfold State.swapsEnd
  with_reducible repeat' first | intro _ | assumption | apply State.swapSrst_inv | apply State.inv_ite | split | apply State.inv_mk

theorem State.srstRegs_inv {s1 : State} (h1 : s1.Inv) : (State.srstRegs s1).Inv := by
  unfold State.srstRegs
  with_reducible repeat' first | intro _ | assumption | apply State.clearCopies_inv | apply State.each_inv | apply State.setReg_inv | apply State.inv_ite | split | apply State.inv_mk

theorem State.spiStop_inv {s1 : State} (h1 : s1.Inv) : (State.spiStop s1).Inv := by
  unfold State.spiStop
  with_reducible repeat' first | intro _ | assumption | apply State.modBoot_inv | apply State.each_inv | apply State.wr_inv | apply State.inv_ite | split | apply State.inv_mk

theorem State.srstAssert_inv {s1 : State} {x2 : List (Fin 10)} (h1 : s1.Inv) : (State.srstAssert s1 x2).Inv := by
  unfold State.srstAssert
  with_reducible repeat' first | intro _ | assumption | apply State.spiStop_inv | apply State.srstRegs_inv | apply State.marchStop_inv | apply State.applySrst_inv | apply State.swapsEnd_inv | apply State.wr_inv | apply State.mastersReset_inv | apply State.setDevState_inv | apply State.modBoot_inv | apply State.inv_ite | split | apply State.inv_mk

theorem State.appletsAgain_inv {s1 : State} (h1 : s1.Inv) : (State.appletsAgain s1).Inv := by
  unfold State.appletsAgain
  with_reducible repeat' first | intro _ | assumption | apply State.setApplets_inv | apply State.inv_ite | split | apply State.inv_mk

theorem State.srstRelease_inv {s1 : State} {x2 : BootFlash} (h1 : s1.Inv) : (State.srstRelease s1 x2).Inv := by
  unfold State.srstRelease
  with_reducible repeat' first | intro _ | assumption | apply State.wr_inv | apply State.incWrap_inv | apply State.modBoot_inv | apply State.appletsAgain_inv | apply State.startCore0_inv | apply State.endBoot_inv | apply State.select_inv | apply State.setReg_inv | apply State.inv_ite | split | apply State.inv_mk

theorem execPorstnAssert_inv {x1 : FuseCut} {x2 : FuseCut} {s3 : State} (h3 : s3.Inv) {t : State} (ht : execPorstnAssert x1 x2 s3 = .next t) : t.Inv := by
  unfold execPorstnAssert at ht; cases ht
  with_reducible repeat' first | intro _ | assumption | apply State.powerReset_inv | apply State.inv_ite | split | apply State.inv_mk

theorem execPorstnRelease_inv {x1 : Straps} {x2 : Option (Fin 5)} {s3 : State} (h3 : s3.Inv) {t : State} (ht : execPorstnRelease x1 x2 s3 = .next t) : t.Inv := by
  unfold execPorstnRelease at ht; cases ht
  with_reducible repeat' first | intro _ | assumption | apply State.leaveReset_inv | apply State.inv_ite | split | apply State.inv_mk

theorem execThermalResetRelease_inv {x1 : Straps} {x2 : Option (Fin 5)} {s3 : State} (h3 : s3.Inv) {t : State} (ht : execThermalResetRelease x1 x2 s3 = .next t) : t.Inv := by
  unfold execThermalResetRelease at ht; cases ht
  with_reducible repeat' first | intro _ | assumption | apply State.leaveReset_inv | apply State.inv_ite | split | apply State.inv_mk

theorem execFuseLoadDone_inv {x1 : BootFlash} {x2 : Dimms} {x3 : Option (Fin 7)} {s4 : State} (h4 : s4.Inv) {t : State} (ht : execFuseLoadDone x1 x2 x3 s4 = .next t) : t.Inv := by
  unfold execFuseLoadDone at ht; cases ht
  with_reducible repeat' first | intro _ | assumption | apply State.fuseLoadDone_inv | apply State.inv_ite | split | apply State.inv_mk

theorem execHostGo_inv {x1 : Initiator} {x2 : Word} {x3 : Image} {s4 : State} (h4 : s4.Inv) {t : State} (ht : execHostGo x1 x2 x3 s4 = .next t) : t.Inv := by
  unfold execHostGo at ht; cases ht
  with_reducible repeat' first | intro _ | assumption | apply State.kept_inv | apply State.hostGo_inv | apply State.keepImgCmd_inv | apply State.inv_ite | split | apply State.inv_mk

theorem execAnchorageTrainingDone_inv {x1 : Bool} {x2 : Bool} {s3 : State} (h3 : s3.Inv) {t : State} (ht : execAnchorageTrainingDone x1 x2 s3 = .next t) : t.Inv := by
  unfold execAnchorageTrainingDone at ht; cases ht
  with_reducible repeat' first | intro _ | assumption | apply State.ancTrained_inv | apply State.inv_ite | split | apply State.inv_mk

theorem execTrafficReady_inv {s1 : State} (h1 : s1.Inv) {t : State} (ht : execTrafficReady s1 = .next t) : t.Inv := by
  unfold execTrafficReady at ht; cases ht
  with_reducible repeat' first | intro _ | assumption | apply State.trafficReady_inv | apply State.inv_ite | split | apply State.inv_mk

theorem execSrstnAssert_inv {x1 : List (Fin 10)} {s2 : State} (h2 : s2.Inv) {t : State} (ht : execSrstnAssert x1 s2 = .next t) : t.Inv := by
  unfold execSrstnAssert at ht; cases ht
  with_reducible repeat' first | intro _ | assumption | apply State.srstAssert_inv | apply State.inv_ite | split | apply State.inv_mk

theorem execSrstnRelease_inv {x1 : BootFlash} {s2 : State} (h2 : s2.Inv) {t : State} (ht : execSrstnRelease x1 s2 = .next t) : t.Inv := by
  unfold execSrstnRelease at ht; cases ht
  with_reducible repeat' first | intro _ | assumption | apply State.srstRelease_inv | apply State.inv_ite | split | apply State.inv_mk

theorem execUnrecoverableImageFault_inv {s1 : State} (h1 : s1.Inv) {t : State} (ht : execUnrecoverableImageFault s1 = .next t) : t.Inv := by
  unfold execUnrecoverableImageFault at ht; cases ht
  with_reducible repeat' first | intro _ | assumption | apply State.imageLost_inv | apply State.inv_ite | split | apply State.inv_mk

theorem State.regWrite_inv {s1 : State} {x2 : Initiator} {x3 : Nat} {x4 : Word} {x5 : Aside} (h1 : s1.Inv) : (State.regWrite s1 x2 x3 x4 x5).Inv := by
  unfold State.regWrite
  with_reducible repeat' first | intro _ | assumption | apply State.via_inv | refine execHostGo_inv ?_ ‹execHostGo _ _ _ _ = _› | apply State.registerWrite_inv | apply State.inv_ite | split | apply State.inv_mk

theorem State.record_inv {m : Initiator} {b : Burst} {a : Nat} {r : BeatEnd × State} (h : r.2.Inv) : (State.record m b a r).2.Inv :=
  State.beatEnds_inv h

theorem State.registerBeat_inv {s1 : State} {x2 : Initiator} {x3 : Burst} {x4 : Aside} {x5 : Nat} {x6 : Beat} (h1 : s1.Inv) : (State.registerBeat s1 x2 x3 x4 x5 x6).2.Inv := by
  unfold State.registerBeat
  with_reducible repeat' first | intro _ | assumption | apply State.record_inv | apply State.regWrite_inv | apply State.registerRead_inv | apply State.accessFault_inv | refine State.inv_snd ?_ ‹_ = (_, _)› | apply State.inv_ite | split | apply State.inv_mk

theorem State.oneBeat_inv {s1 : State} {x2 : Initiator} {x3 : Bool} {x4 : Burst} {x5 : Aside} {x6 : Nat} {x7 : Beat} (h1 : s1.Inv) : (State.oneBeat s1 x2 x3 x4 x5 x6 x7).2.Inv := by
  unfold State.oneBeat
  with_reducible repeat' first | intro _ | assumption | apply State.record_inv | apply State.ancBeat_inv | apply State.registerBeat_inv | apply State.memBeat_inv | refine State.inv_snd ?_ ‹_ = (_, _)› | apply State.inv_ite | split | apply State.inv_mk

theorem State.runBeats_inv {m : Initiator} {bar2 : Bool} {b : Burst} {x : Aside} {stop : Bool} {l : List (Nat × Beat)} {s : State}
    (h : s.Inv) : (State.runBeats m bar2 b x stop l s).2.Inv := by
  induction l generalizing s with
  | nil => exact h
  | cons p rest ih =>
    obtain ⟨a, beat⟩ := p
    have k : (s.oneBeat m bar2 b x a beat).2.Inv := State.oneBeat_inv h
    simp only [State.runBeats]
    split
    · exact k
    · exact ih k

theorem State.busAccess_inv {s1 : State} {x2 : Initiator} {x3 : Burst} {x4 : Aside} (h1 : s1.Inv) : (State.busAccess s1 x2 x3 x4).Inv := by
  unfold State.busAccess
  with_reducible repeat' first | intro _ | assumption | apply State.runBeats_inv | apply State.reply_inv | refine State.inv_snd ?_ ‹_ = (_, _)› | apply State.inv_ite | split | apply State.inv_mk

theorem State.busTimeout_inv {s1 : State} {x2 : Initiator} {x3 : Bool} {x4 : Nat} (h1 : s1.Inv) : (State.busTimeout s1 x2 x3 x4).Inv := by
  unfold State.busTimeout
  with_reducible repeat' first | intro _ | assumption | apply State.raise_inv | apply State.busError_inv | apply State.inv_ite | split | apply State.inv_mk

theorem State.registerAccess_inv {s1 : State} {x2 : Initiator} {x3 : Nat} {x4 : Word} {x5 : Aside} (h1 : s1.Inv) : (State.registerAccess s1 x2 x3 x4 x5).Inv := by
  unfold State.registerAccess
  with_reducible repeat' first | intro _ | assumption | apply State.regWrite_inv | apply State.busAccess_inv | apply State.inv_ite | split | apply State.inv_mk

theorem State.postedWrite_inv {bar2 : Bool} {x : Aside} {l : List (Nat × List Beat)} {s : State} (h : s.Inv) :
    (State.postedWrite bar2 x l s).Inv := by
  induction l generalizing s with
  | nil => exact h
  | cons p rest ih =>
    obtain ⟨a, bs⟩ := p
    have k := State.runBeats_inv (m := host) (bar2 := bar2) (b := ⟨true, a, bs, false⟩) (x := x) (stop := true)
      (l := Burst.placed ⟨true, a, bs, false⟩) h
    simp only [State.postedWrite]
    split
    · exact ih k
    · exact k

theorem State.readBursts_inv {bar2 : Bool} {x : Aside} {l : List (Nat × List Beat)} {s : State} (h : s.Inv) :
    (State.readBursts bar2 x l s).2.Inv := by
  induction l generalizing s with
  | nil => exact h
  | cons p rest ih =>
    obtain ⟨a, bs⟩ := p
    simp only [State.readBursts]
    exact ih (State.runBeats_inv h)

theorem State.pcieRequest_inv {s1 : State} {x2 : Bool} {x3 : Nat} {x4 : List Beat} {x5 : Aside} (h1 : s1.Inv) : (State.pcieRequest s1 x2 x3 x4 x5).Inv := by
  unfold State.pcieRequest
  with_reducible repeat' first | intro _ | assumption | apply State.send_inv | apply State.postedWrite_inv | apply State.readBursts_inv | refine State.inv_snd ?_ ‹_ = (_, _)› | apply State.inv_ite | split | apply State.inv_mk

theorem State.clearEndpoint_inv {s1 : State} (h1 : s1.Inv) : (State.clearEndpoint s1).Inv := by
  unfold State.clearEndpoint
  with_reducible repeat' first | intro _ | assumption | apply State.each_inv | apply State.setReg_inv | apply State.inv_ite | split | apply State.inv_mk

theorem State.pcieReset_inv {s1 : State} {x2 : PcieReset} {x3 : Bool} (h1 : s1.Inv) : (State.pcieReset s1 x2 x3).Inv := by
  unfold State.pcieReset
  with_reducible repeat' first | intro _ | assumption | apply State.clearEndpoint_inv | apply State.mastersReset_inv | apply State.inv_ite | split | apply State.inv_mk

theorem State.pcieUp_inv {s1 : State} (h1 : s1.Inv) : (State.pcieUp s1).Inv := by
  unfold State.pcieUp
  with_reducible repeat' first | intro _ | assumption | apply State.flushMsix_inv | apply State.inv_ite | split | apply State.inv_mk

theorem State.configRead_inv {s1 : State} {x2 : Nat} (h1 : s1.Inv) : (State.configRead s1 x2).2.Inv := by
  unfold State.configRead
  with_reducible repeat' first | intro _ | assumption | apply State.draw_inv | apply State.inv_ite | split | apply State.inv_mk

theorem State.configWrite_inv {s1 : State} {x2 : Nat} {x3 : BitVec 4} {x4 : Word} (h1 : s1.Inv) : (State.configWrite s1 x2 x3 x4).Inv := by
  unfold State.configWrite
  with_reducible repeat' first | intro _ | assumption | apply State.flushMsix_inv | apply State.inv_ite | split | apply State.inv_mk

theorem State.pcieConfig_inv {s1 : State} {x2 : ConfigRequest} (h1 : s1.Inv) : (State.pcieConfig s1 x2).Inv := by
  unfold State.pcieConfig
  with_reducible repeat' first | intro _ | assumption | apply State.configRead_inv | apply State.send_inv | apply State.configWrite_inv | apply State.flushMsix_inv | refine State.inv_snd ?_ ‹_ = (_, _)› | apply State.inv_ite | split | apply State.inv_mk

theorem State.localPage_inv {s1 : State} {x2 : Word} (h1 : s1.Inv) : (State.localPage s1 x2).Inv := by
  unfold State.localPage
  with_reducible repeat' first | intro _ | assumption | apply State.send_inv | apply State.inv_ite | split | apply State.inv_mk

theorem State.localAnswer_inv {s : State} {write : Bool} {addr : Nat} {es : List BeatEnd} (h : s.Inv) :
    (s.localAnswer write addr es).Inv := by
  unfold State.localAnswer
  cases es.head? with
  | none => exact State.send_inv h
  | some e => cases e <;> exact State.send_inv h

theorem State.localAccess_inv {s : State} {write : Bool} {a : Nat} {en : BitVec 4} {beat : Beat} {v : Word} {x : Aside} (h : s.Inv) :
    (s.localAccess write a en beat v x).Inv := by
  unfold State.localAccess
  split
  · exact h
  · split
    · repeat' first | with_reducible apply State.localPage_inv h | with_reducible apply State.send_inv h | split
    · exact State.localAnswer_inv (State.reply_inv (State.runBeats_inv h))

theorem State.localTimeout_inv {s1 : State} {x2 : Bool} {x3 : Nat} (h1 : s1.Inv) : (State.localTimeout s1 x2 x3).Inv := by
  unfold State.localTimeout
  with_reducible repeat' first | intro _ | assumption | apply State.send_inv | apply State.busTimeout_inv | apply State.inv_ite | split | apply State.inv_mk

theorem State.jtag_inv {s1 : State} {x2 : JtagOp} {x3 : Aside} (h1 : s1.Inv) : (State.jtag s1 x2 x3).Inv := by
  unfold State.jtag
  with_reducible repeat' first | intro _ | assumption | apply State.send_inv | apply State.setCore_inv | apply State.busAccess_inv | apply State.inv_ite | split | apply State.inv_mk

theorem execDefaultTargetAccess_inv {x1 : Initiator} {x2 : Burst} {s3 : State} (h3 : s3.Inv) {t : State} (ht : execDefaultTargetAccess x1 x2 s3 = .next t) : t.Inv := by
  unfold execDefaultTargetAccess at ht; cases ht
  with_reducible repeat' first | intro _ | assumption | apply State.busAccess_inv | apply State.inv_ite | split | apply State.inv_mk

theorem execBusTimeout_inv {x1 : Initiator} {x2 : Bool} {x3 : Word} {s4 : State} (h4 : s4.Inv) {t : State} (ht : execBusTimeout x1 x2 x3 s4 = .next t) : t.Inv := by
  unfold execBusTimeout at ht; cases ht
  with_reducible repeat' first | intro _ | assumption | apply State.busTimeout_inv | apply State.inv_ite | split | apply State.inv_mk

theorem execPcieRequest_inv {x1 : Bool} {x2 : BitVec 64} {x3 : List Beat} {x4 : Aside} {s5 : State} (h5 : s5.Inv) {t : State} (ht : execPcieRequest x1 x2 x3 x4 s5 = .next t) : t.Inv := by
  unfold execPcieRequest at ht; cases ht
  with_reducible repeat' first | intro _ | assumption | apply State.pcieRequest_inv | apply State.inv_ite | split | apply State.inv_mk

theorem execPcieReset_inv {x1 : PcieReset} {x2 : Bool} {s3 : State} (h3 : s3.Inv) {t : State} (ht : execPcieReset x1 x2 s3 = .next t) : t.Inv := by
  unfold execPcieReset at ht; cases ht
  with_reducible repeat' first | intro _ | assumption | apply State.pcieReset_inv | apply State.inv_ite | split | apply State.inv_mk

theorem execPcieLinkUp_inv {s1 : State} (h1 : s1.Inv) {t : State} (ht : execPcieLinkUp s1 = .next t) : t.Inv := by
  unfold execPcieLinkUp at ht; cases ht
  with_reducible repeat' first | intro _ | assumption | apply State.pcieUp_inv | apply State.inv_ite | split | apply State.inv_mk

theorem execPcieConfigurationRequest_inv {x1 : ConfigRequest} {s2 : State} (h2 : s2.Inv) {t : State} (ht : execPcieConfigurationRequest x1 s2 = .next t) : t.Inv := by
  unfold execPcieConfigurationRequest at ht; cases ht
  with_reducible repeat' first | intro _ | assumption | apply State.pcieConfig_inv | apply State.inv_ite | split | apply State.inv_mk

theorem execLocalBusAccess_inv {x1 : Bool} {x2 : BitVec 24} {x3 : BitVec 4} {x4 : Word} {x5 : Ecc} {x6 : Option PortB} {x7 : Aside} {s8 : State} (h8 : s8.Inv) {t : State} (ht : execLocalBusAccess x1 x2 x3 x4 x5 x6 x7 s8 = .next t) : t.Inv := by
  unfold execLocalBusAccess at ht; cases ht
  with_reducible repeat' first | intro _ | assumption | apply State.localAccess_inv | apply State.inv_ite | split | apply State.inv_mk

theorem execLbPageWrite_inv {x1 : Word} {s2 : State} (h2 : s2.Inv) {t : State} (ht : execLbPageWrite x1 s2 = .next t) : t.Inv := by
  unfold execLbPageWrite at ht; cases ht
  with_reducible repeat' first | intro _ | assumption | apply State.localPage_inv | apply State.inv_ite | split | apply State.inv_mk

theorem execLocalBusTimeout_inv {x1 : Bool} {x2 : BitVec 24} {s3 : State} (h3 : s3.Inv) {t : State} (ht : execLocalBusTimeout x1 x2 s3 = .next t) : t.Inv := by
  unfold execLocalBusTimeout at ht; cases ht
  with_reducible repeat' first | intro _ | assumption | apply State.localTimeout_inv | apply State.inv_ite | split | apply State.inv_mk

theorem execJtagAccess_inv {x1 : JtagOp} {x2 : Aside} {s3 : State} (h3 : s3.Inv) {t : State} (ht : execJtagAccess x1 x2 s3 = .next t) : t.Inv := by
  unfold execJtagAccess at ht; cases ht
  with_reducible repeat' first | intro _ | assumption | apply State.jtag_inv | apply State.inv_ite | split | apply State.inv_mk

theorem execRegisterWrite_inv {x1 : Initiator} {x2 : Word} {x3 : Word} {x4 : Aside} {s5 : State} (h5 : s5.Inv) {t : State} (ht : execRegisterWrite x1 x2 x3 x4 s5 = .next t) : t.Inv := by
  unfold execRegisterWrite at ht; cases ht
  with_reducible repeat' first | intro _ | assumption | apply State.registerAccess_inv | apply State.inv_ite | split | apply State.inv_mk

theorem State.applyEntry_inv {s1 : State} {x2 : JEntry} (h1 : s1.Inv) : (State.applyEntry s1 x2).Inv := by
  unfold State.applyEntry
  with_reducible repeat' first | intro _ | assumption | apply State.applyWrite_inv | apply State.count_inv | apply State.wr_inv | apply State.inv_ite | split | apply State.inv_mk

theorem State.applyJournal_inv {s1 : State} (h1 : s1.Inv) : (State.applyJournal s1).Inv := by
  unfold State.applyJournal
  with_reducible repeat' first | intro _ | assumption | apply State.each_inv | apply State.applyEntry_inv | apply State.journalLate_inv | apply State.inv_ite | split | apply State.inv_mk

theorem State.takeEntry_inv {s1 : State} {x2 : JEntry} (h1 : s1.Inv) : (State.takeEntry s1 x2).Inv := by
  unfold State.takeEntry
  with_reducible repeat' first | intro _ | assumption | apply State.modMate_inv | apply State.journalLate_inv | apply State.applyEntry_inv | apply State.inv_ite | split | apply State.inv_mk

theorem State.takeKeys_inv {s1 : State} {x2 : KeyState} (h1 : s1.Inv) : (State.takeKeys s1 x2).Inv := by
  unfold State.takeKeys
  with_reducible repeat' first | intro _ | assumption | apply State.wr_inv | apply State.setKey_inv | apply State.setChange_inv | apply State.inv_ite | split | apply State.inv_mk

theorem State.takeCapture_inv {s1 : State} {x2 : MateCapture} (h1 : s1.Inv) : (State.takeCapture s1 x2).Inv := by
  unfold State.takeCapture
  with_reducible repeat' first | intro _ | assumption | apply State.enforce_inv | apply State.loadBank_inv | apply State.each_inv | apply State.setReg_inv | apply State.wr_inv | apply State.takeKeys_inv | apply State.modMate_inv | apply State.inv_ite | split | apply State.inv_mk

theorem State.replayEnds_inv {s1 : State} (h1 : s1.Inv) : (State.replayEnds s1).Inv := by
  unfold State.replayEnds
  with_reducible repeat' first | intro _ | assumption | apply State.enterPhase_inv | apply State.inv_ite | split | apply State.inv_mk

theorem State.journalApply_inv {s1 : State} {x2 : Option MateCapture} (h1 : s1.Inv) : (State.journalApply s1 x2).Inv := by
  unfold State.journalApply
  with_reducible repeat' first | intro _ | assumption | apply State.takeCapture_inv | apply State.replayEnds_inv | apply State.applyJournal_inv | apply State.inv_ite | split | apply State.inv_mk

theorem State.takeMarker_inv {s1 : State} {x2 : Tick} (h1 : s1.Inv) : (State.takeMarker s1 x2).Inv := by
  unfold State.takeMarker
  with_reducible repeat' first | intro _ | assumption | apply State.modMate_inv | apply State.takeMateTick_inv | apply State.joinAgain_inv | apply State.raise_inv | apply State.inv_ite | split | apply State.inv_mk

theorem State.mateFrame_inv {s1 : State} {x2 : MateFrame} (h1 : s1.Inv) : (State.mateFrame s1 x2).Inv := by
  unfold State.mateFrame
  with_reducible repeat' first | intro _ | assumption | apply State.takeMarker_inv | apply State.modMate_inv | apply State.each_inv | apply State.takeEntry_inv | apply State.inv_ite | split | apply State.inv_mk

theorem State.hear_inv {s1 : State} {x2 : MateBeat} (h1 : s1.Inv) : (State.hear s1 x2).Inv := by
  unfold State.hear
  with_reducible repeat' first | intro _ | assumption | apply State.modMate_inv | apply State.inv_ite | split | apply State.inv_mk

theorem State.joinBoot_inv {s1 : State} (h1 : s1.Inv) : (State.joinBoot s1).Inv := by
  unfold State.joinBoot
  with_reducible repeat' first | intro _ | assumption | apply State.startJoining_inv | apply State.modBoot_inv | apply State.startUp_inv | apply State.inv_ite | split | apply State.inv_mk

theorem State.released_inv {s1 : State} {x2 : Nat} (h1 : s1.Inv) : (State.released s1 x2).Inv := by
  unfold State.released
  with_reducible repeat' first | intro _ | assumption | apply State.modMate_inv | apply State.inv_ite | split | apply State.inv_mk

theorem State.actOnBeat_inv {s1 : State} {x2 : MateBeat} {x3 : Nat} (h1 : s1.Inv) : (State.actOnBeat s1 x2 x3).Inv := by
  unfold State.actOnBeat
  with_reducible repeat' first | intro _ | assumption | apply State.modMate_inv | apply State.released_inv | apply State.raise_inv | apply State.joinAgain_inv | apply State.isolatedReturn_inv | apply State.inv_ite | split | apply State.inv_mk

theorem State.beatReceive_inv {s1 : State} {x2 : MatePath} {x3 : MateBeat} {x4 : Bool} (h1 : s1.Inv) : (State.beatReceive s1 x2 x3 x4).Inv := by
  unfold State.beatReceive
  with_reducible repeat' first | intro _ | assumption | apply State.modMate_inv | apply State.showMate_inv | apply State.wrBool_inv | apply State.wr_inv | apply State.hear_inv | apply State.joinBoot_inv | apply State.actOnBeat_inv | apply State.inv_ite | split | apply State.inv_mk

theorem State.openTick_inv {s1 : State} (h1 : s1.Inv) : (State.openTick s1).Inv := by
  unfold State.openTick
  with_reducible repeat' first | intro _ | assumption | apply State.draw_inv | apply State.modBoot_inv | apply State.inv_ite | split | apply State.inv_mk

theorem State.mateDecide_inv {s1 : State} (h1 : s1.Inv) : (State.mateDecide s1).Inv := by
  unfold State.mateDecide
  with_reducible repeat' first | intro _ | assumption | apply State.setMateState_inv | apply State.modMate_inv | apply State.startUp_inv | apply State.openTick_inv | apply State.raiseIf_inv | apply State.inv_ite | split | apply State.inv_mk

theorem execMateFrameReceive_inv {x1 : MateFrame} {s2 : State} (h2 : s2.Inv) {t : State} (ht : execMateFrameReceive x1 s2 = .next t) : t.Inv := by
  unfold execMateFrameReceive at ht; cases ht
  with_reducible repeat' first | intro _ | assumption | apply State.mateFrame_inv | apply State.inv_ite | split | apply State.inv_mk

theorem execBeatReceive_inv {x1 : MatePath} {x2 : MateBeat} {x3 : Bool} {s4 : State} (h4 : s4.Inv) {t : State} (ht : execBeatReceive x1 x2 x3 s4 = .next t) : t.Inv := by
  unfold execBeatReceive at ht; cases ht
  with_reducible repeat' first | intro _ | assumption | apply State.beatReceive_inv | apply State.inv_ite | split | apply State.inv_mk

theorem execMateBootDecision_inv {s1 : State} (h1 : s1.Inv) {t : State} (ht : execMateBootDecision s1 = .next t) : t.Inv := by
  unfold execMateBootDecision at ht; cases ht
  with_reducible repeat' first | intro _ | assumption | apply State.mateDecide_inv | apply State.inv_ite | split | apply State.inv_mk

theorem execJournalApply_inv {x1 : Option MateCapture} {s2 : State} (h2 : s2.Inv) {t : State} (ht : execJournalApply x1 s2 = .next t) : t.Inv := by
  unfold execJournalApply at ht; cases ht
  with_reducible repeat' first | intro _ | assumption | apply State.journalApply_inv | apply State.inv_ite | split | apply State.inv_mk

theorem State.presentStores_inv {s1 : State} (h1 : s1.Inv) : (State.presentStores s1).Inv := by
  unfold State.presentStores
  with_reducible repeat' first | intro _ | assumption | apply State.each_inv | apply State.missedBerth_inv | apply State.setIngressBerth_inv | apply State.inv_ite | split | apply State.inv_mk

theorem State.seenAt_inv {s1 : State} {x2 : Nat} {f3 : State → State} (h1 : s1.Inv) (h3 : ∀ (y0 : State), y0.Inv → (f3 y0).Inv) : (State.seenAt s1 x2 f3).Inv := by
  unfold State.seenAt
  with_reducible repeat' first | intro _ | assumption | apply h3 | apply State.inv_ite | split | apply State.inv_mk

theorem State.observe_inv {s1 : State} {x2 : TickObs} (h1 : s1.Inv) : (State.observe s1 x2).Inv := by
  unfold State.observe
  with_reducible repeat' first | intro _ | assumption | apply State.setIngressBerth_inv | apply State.addTally_inv | apply State.crateErrors_inv | apply State.crateFills_inv | apply State.otucFrames_inv | apply State.setTrain_inv | apply State.clientRate_inv | apply State.ctlCorrected_inv | apply State.ctlUncorrectable_inv | apply State.manifestUncorrectable_inv | apply State.shadowUncorrectable_inv | apply State.patCount_inv | apply State.egressBuffer_inv | apply State.clientErrors_inv | apply State.clientSees_inv | apply State.modClient_inv | apply State.atUnit_inv | apply State.fasFrame_inv | apply State.seenAt_inv | apply State.cohPublish_inv | apply State.setReg_inv | apply State.tideFloor_inv | apply State.instanceTick_inv | apply State.invarTick_inv | apply State.wr_inv | apply State.sopRate_inv | apply State.takeQuantity_inv | apply State.modMate_inv | apply State.sense_inv | apply State.wrBool_inv | apply State.inv_ite | split | apply State.inv_mk

theorem State.closeTick_inv {s1 : State} (h1 : s1.Inv) : (State.closeTick s1).Inv := by
  unfold State.closeTick
  with_reducible repeat' first | intro _ | assumption | apply State.queueReports_inv | apply State.tickCounters_inv | apply State.tickPm_inv | apply State.each_inv | apply State.capEvents_inv | apply State.inv_ite | split | apply State.inv_mk

theorem State.moveBerths_inv {s1 : State} (h1 : s1.Inv) : (State.moveBerths s1).Inv := by
  unfold State.moveBerths
  with_reducible repeat' first | intro _ | assumption | apply State.each_inv | apply State.missedFrame_inv | apply State.playouts_inv | apply State.presentStores_inv | apply State.presentTrain_inv | apply State.moveFabric_inv | apply State.hideClear_inv | apply State.inv_ite | split | apply State.inv_mk

theorem State.countTick_inv {s1 : State} (h1 : s1.Inv) : (State.countTick s1).Inv := by
  unfold State.countTick
  with_reducible repeat' first | intro _ | assumption | apply State.inv_ite | split | apply State.inv_mk

theorem State.keyed_inv {s1 : State} {x2 : Keyed} (h1 : s1.Inv) : (State.keyed s1 x2).Inv := by
  unfold State.keyed
  with_reducible repeat' first | intro _ | assumption | apply State.gridPrepare_inv | apply State.gridArm_inv | apply State.gridCancel_inv | apply State.swapDone_inv | apply State.laneDataAt_inv | apply State.laneTrainAt_inv | apply State.loopOnAt_inv | apply State.loopOffAt_inv | apply State.loopLostAt_inv | apply State.patClearAt_inv | apply State.injectAt_inv | apply State.acqRestart_inv | apply State.clearLatches_inv | apply State.realign_inv | apply State.mgSelect_inv | apply State.mgUse_inv | apply State.swMeasure_inv | apply State.cutCapture_inv | apply State.modMoor_inv | apply State.coreStarts_inv | apply State.startTol_inv | apply State.blockReset_inv | apply State.inv_ite | split | apply State.inv_mk

theorem State.keyedWork_inv {s1 : State} (h1 : s1.Inv) : (State.keyedWork s1).Inv := by
  unfold State.keyedWork
  with_reducible repeat' first | intro _ | assumption | apply State.each_inv | apply State.modLane_inv | apply State.keyed_inv | apply State.swapCheck_inv | apply State.inv_ite | split | apply State.inv_mk

theorem State.takeRegisters_inv {s1 : State} (h1 : s1.Inv) : (State.takeRegisters s1).Inv := by
  unfold State.takeRegisters
  with_reducible repeat' first | intro _ | assumption | apply State.reportUncovered_inv | apply State.inv_ite | split | apply State.inv_mk

theorem State.tickClocks_inv {s1 : State} (h1 : s1.Inv) : (State.tickClocks s1).Inv := by
  unfold State.tickClocks
  with_reducible repeat' first | intro _ | assumption | apply State.tickTime_inv | apply State.each_inv | apply State.fillFreq_inv | apply State.refreshQl_inv | apply State.dpllSelect_inv | apply State.tickOutPulse_inv | apply State.inv_ite | split | apply State.inv_mk

theorem State.tickBerths_inv {s1 : State} {f2 : Nat → Nat → Nat} (h1 : s1.Inv) : (State.tickBerths s1 f2).Inv := by
  unfold State.tickBerths
  with_reducible repeat' first | intro _ | assumption | apply h2 | apply State.each_inv | apply State.tickStore_inv | apply State.tickTrain_inv | apply State.tickClients_inv | apply State.inv_ite | split | apply State.inv_mk

theorem State.tickLines_inv {s1 : State} (h1 : s1.Inv) : (State.tickLines s1).Inv := by
  unfold State.tickLines
  with_reducible repeat' first | intro _ | assumption | apply State.each_inv | apply State.backward_inv | apply State.tickFrame_inv | apply State.gccSend_inv | apply State.tickEngine_inv | apply State.tickLink_inv | apply State.tickPool_inv | apply State.tickTide_inv | apply State.tickMeasure_inv | apply State.inv_ite | split | apply State.inv_mk

theorem State.tickDatapath_inv {s1 : State} {f2 : Nat → Nat → Nat} (h1 : s1.Inv) : (State.tickDatapath s1 f2).Inv := by
  unfold State.tickDatapath
  with_reducible repeat' first | intro _ | assumption | apply h2 | apply State.each_inv | apply State.publishLane_inv | apply State.tickHierarchy_inv | apply State.tickLines_inv | apply State.tickBerths_inv | apply State.tickMerge_inv | apply State.inv_ite | split | apply State.inv_mk

theorem State.tickControl_inv {s1 : State} (h1 : s1.Inv) : (State.tickControl s1).Inv := by
  unfold State.tickControl
  with_reducible repeat' first | intro _ | assumption | apply State.thermalReset_inv | apply State.tickUart_inv | apply State.each_inv | apply State.tickThermal_inv | apply State.tickMate_inv | apply State.compareTimer_inv | apply State.inv_ite | split | apply State.inv_mk

theorem State.observeReset_inv {s1 : State} {x2 : TickObs} (h1 : s1.Inv) : (State.observeReset s1 x2).Inv := by
  unfold State.observeReset
  with_reducible repeat' first | intro _ | assumption | apply State.sense_inv | apply State.inv_ite | split | apply State.inv_mk

theorem State.boundary_inv {s1 : State} {x2 : List TickObs} (h1 : s1.Inv) : (State.boundary s1 x2).Inv := by
  unfold State.boundary
  with_reducible repeat' first | intro _ | assumption | apply State.each_inv | apply State.observeReset_inv | apply State.observe_inv | apply State.instantRequests_inv | apply State.closeTick_inv | apply State.moveBerths_inv | apply State.mateFrameOut_inv | apply State.applyJournal_inv | apply State.countTick_inv | apply State.takeRegisters_inv | apply State.keyedWork_inv | apply State.tickFreeze_inv | apply State.tickClocks_inv | apply State.tickDatapath_inv | apply State.tickControl_inv | apply State.inv_ite | split | apply State.inv_mk

theorem execTickBoundary_inv {x1 : List TickObs} {s2 : State} (h2 : s2.Inv) {t : State} (ht : execTickBoundary x1 s2 = .next t) : t.Inv := by
  unfold execTickBoundary at ht; cases ht
  with_reducible repeat' first | intro _ | assumption | apply State.boundary_inv | apply State.inv_ite | split | apply State.inv_mk

theorem exec_inv {i : Instr} {s : State} (h : s.Inv) {t : State} (ht : exec i s = .next t) : t.Inv := by
  cases i with
  | porstnAssert => exact execPorstnAssert_inv h ht
  | porstnRelease => exact execPorstnRelease_inv h ht
  | fuseLoadDone => exact execFuseLoadDone_inv h ht
  | hostGo => exact execHostGo_inv h ht
  | anchorageTrainingDone => exact execAnchorageTrainingDone_inv h ht
  | trafficReady => exact execTrafficReady_inv h ht
  | srstnAssert => exact execSrstnAssert_inv h ht
  | srstnRelease => exact execSrstnRelease_inv h ht
  | tickBoundary => exact execTickBoundary_inv h ht
  | fillLimitEnd => exact execFillLimitEnd_inv h ht
  | d2dTransfer => exact execD2dTransfer_inv h ht
  | d2dDown => exact execD2dDown_inv h ht
  | d2dRetrain => exact execD2dRetrain_inv h ht
  | d2dRestore => exact execD2dRestore_inv h ht
  | loopFreezeWrite => exact execLoopFreezeWrite_inv h ht
  | avsUpdate => exact execAvsUpdate_inv h ht
  | poolFreqDecision => exact execPoolFreqDecision_inv h ht
  | laneAdapt => exact execLaneAdapt_inv h ht
  | laneEqReset => exact execLaneEqReset_inv h ht
  | berthPointerWord => exact execBerthPointerWord_inv h ht
  | trainSeqLoss => exact execTrainSeqLoss_inv h ht
  | trainMis => exact execTrainMis_inv h ht
  | trainSkew => exact execTrainSkew_inv h ht
  | trainAis => exact execTrainAis_inv h ht
  | trainRdi => exact execTrainRdi_inv h ht
  | trainCsf => exact execTrainCsf_inv h ht
  | manifestShadowWrite => exact execManifestShadowWrite_inv h ht
  | prepare => exact execPrepare_inv h ht
  | arm => exact execArm_inv h ht
  | cancel => exact execCancel_inv h ht
  | stowageComplete => exact execStowageComplete_inv h ht
  | swapSwitch => exact execSwapSwitch_inv h ht
  | swapStagingEnd => exact execSwapStagingEnd_inv h ht
  | repack => exact execRepack_inv h ht
  | repackSwitch => exact execRepackSwitch_inv h ht
  | laneLos => exact execLaneLos_inv h ht
  | laneSigOk => exact execLaneSigOk_inv h ht
  | laneAcquired => exact execLaneAcquired_inv h ht
  | laneAcquireTimeout => exact execLaneAcquireTimeout_inv h ht
  | laneCdrLoss => exact execLaneCdrLoss_inv h ht
  | trainDone => exact execTrainDone_inv h ht
  | trainAttemptEnd => exact execTrainAttemptEnd_inv h ht
  | backoffRetry => exact execBackoffRetry_inv h ht
  | trainingRestart => exact execTrainingRestart_inv h ht
  | backoffDisWrite => exact execBackoffDisWrite_inv h ht
  | loopbackSet => exact execLoopbackSet_inv h ht
  | loopbackRelease => exact execLoopbackRelease_inv h ht
  | patSync => exact execPatSync_inv h ht
  | patSyncLoss => exact execPatSyncLoss_inv h ht
  | patChkClr => exact execPatChkClr_inv h ht
  | injectSingle => exact execInjectSingle_inv h ht
  | injectBurst => exact execInjectBurst_inv h ht
  | txFault => exact execTxFault_inv h ht
  | clientSignalFail => exact execClientSignalFail_inv h ht
  | clientSignalFailClear => exact execClientSignalFailClear_inv h ht
  | clientFrameIngress => exact execClientFrameIngress_inv h ht
  | ptpEventMessage => exact execPtpEventMessage_inv h ht
  | qyIdataWrite => exact execQyIdataWrite_inv h ht
  | ptpFrameInsert => exact execPtpFrameInsert_inv h ht
  | qyXdataRead => exact execQyXdataRead_inv h ht
  | qyTsf0Read => exact execQyTsf0Read_inv h ht
  | frameDelivered => exact execFrameDelivered_inv h ht
  | inFrame => exact execInFrame_inv h ht
  | oof => exact execOof_inv h ht
  | lof => exact execLof_inv h ht
  | lom => exact execLom_inv h ht
  | fnoJump => exact execFnoJump_inv h ht
  | bdiRx => exact execBdiRx_inv h ht
  | fmtMis => exact execFmtMis_inv h ht
  | midMis => exact execMidMis_inv h ht
  | lapsAccept => exact execLapsAccept_inv h ht
  | tapsAccept => exact execTapsAccept_inv h ht
  | ttLoad => exact execTtLoad_inv h ht
  | ttAccept => exact execTtAccept_inv h ht
  | gccFrameReceive => exact execGccFrameReceive_inv h ht
  | lfGccTxdWrite => exact execLfGccTxdWrite_inv h ht
  | lfGccRxdRead => exact execLfGccRxdRead_inv h ht
  | secondEnd => exact execSecondEnd_inv h ht
  | lePstateWrite => exact execLePstateWrite_inv h ht
  | powerStateReached => exact execPowerStateReached_inv h ht
  | convFault => exact execConvFault_inv h ht
  | txEnWrite => exact execTxEnWrite_inv h ht
  | laserEnWrite => exact execLaserEnWrite_inv h ht
  | leDrvWrite => exact execLeDrvWrite_inv h ht
  | rampDone => exact execRampDone_inv h ht
  | drvFault => exact execDrvFault_inv h ht
  | engineLos => exact execEngineLos_inv h ht
  | engineSigOk => exact execEngineSigOk_inv h ht
  | freqLock => exact execFreqLock_inv h ht
  | cdLock => exact execCdLock_inv h ht
  | cdHintMiss => exact execCdHintMiss_inv h ht
  | lock => exact execLock_inv h ht
  | acqFail => exact execAcqFail_inv h ht
  | acqRestart => exact execAcqRestart_inv h ht
  | engineLol => exact execEngineLol_inv h ht
  | fastReacqTimeout => exact execFastReacqTimeout_inv h ht
  | deskewLoss => exact execDeskewLoss_inv h ht
  | deskewRegained => exact execDeskewRegained_inv h ht
  | spiGo => exact execSpiGo_inv h ht
  | spiDone => exact execSpiDone_inv h ht
  | baseDecode => exact execBaseDecode_inv h ht
  | poolDecode => exact execPoolDecode_inv h ht
  | codewordDelivery => exact execCodewordDelivery_inv h ht
  | keyLoad => exact execKeyLoad_inv h ht
  | keyUnwrapDone => exact execKeyUnwrapDone_inv h ht
  | keyChange => exact execKeyChange_inv h ht
  | zeroize => exact execZeroize_inv h ht
  | zeroizeAll => exact execZeroizeAll_inv h ht
  | encBlockBoundary => exact execEncBlockBoundary_inv h ht
  | aisWindowEnd => exact execAisWindowEnd_inv h ht
  | clrLatch => exact execClrLatch_inv h ht
  | tdDsWrite => exact execTdDsWrite_inv h ht
  | tdGsBankWrite => exact execTdGsBankWrite_inv h ht
  | grantBankSwitch => exact execGrantBankSwitch_inv h ht
  | burstPowerDetect => exact execBurstPowerDetect_inv h ht
  | syncAccept => exact execSyncAccept_inv h ht
  | burstHeader => exact execBurstHeader_inv h ht
  | syncMiss => exact execSyncMiss_inv h ht
  | burstPowerRise => exact execBurstPowerRise_inv h ht
  | crateTickArrival => exact execCrateTickArrival_inv h ht
  | leafLost => exact execLeafLost_inv h ht
  | tideThrUpdate => exact execTideThrUpdate_inv h ht
  | mergeKeyDecision => exact execMergeKeyDecision_inv h ht
  | mergeDheldLoad => exact execMergeDheldLoad_inv h ht
  | mergeLateEarly => exact execMergeLateEarly_inv h ht
  | mergeDown => exact execMergeDown_inv h ht
  | mergeWaitExpiry => exact execMergeWaitExpiry_inv h ht
  | mergeAligned => exact execMergeAligned_inv h ht
  | mgRealign => exact execMgRealign_inv h ht
  | realignNoUsable => exact execRealignNoUsable_inv h ht
  | realignAuto => exact execRealignAuto_inv h ht
  | holdoffExpiry => exact execHoldoffExpiry_inv h ht
  | wtrExpiry => exact execWtrExpiry_inv h ht
  | mgCmdLo => exact execMgCmdLo_inv h ht
  | mgCmdFs => exact execMgCmdFs_inv h ht
  | mgCmdMsA => exact execMgCmdMsA_inv h ht
  | mgCmdMsB => exact execMgCmdMsB_inv h ht
  | mgCmdClear => exact execMgCmdClear_inv h ht
  | refLos => exact execRefLos_inv h ht
  | refFreqWindow => exact execRefFreqWindow_inv h ht
  | refQualify => exact execRefQualify_inv h ht
  | dpllLocked => exact execDpllLocked_inv h ht
  | timeDecision => exact execTimeDecision_inv h ht
  | timeLocked => exact execTimeLocked_inv h ht
  | tickInEdge => exact execTickInEdge_inv h ht
  | ppsEdge => exact execPpsEdge_inv h ht
  | ppsMiss => exact execPpsMiss_inv h ht
  | todMessage => exact execTodMessage_inv h ht
  | todTxSend => exact execTodTxSend_inv h ht
  | ppsOutEdge => exact execPpsOutEdge_inv h ht
  | asymLearned => exact execAsymLearned_inv h ht
  | tsLearn => exact execTsLearn_inv h ht
  | swOfsWrite => exact execSwOfsWrite_inv h ht
  | swSourceTimeout => exact execSwSourceTimeout_inv h ht
  | invarLearned => exact execInvarLearned_inv h ht
  | invarResetModel => exact execInvarResetModel_inv h ht
  | invTempStale => exact execInvTempStale_inv h ht
  | sopTransient => exact execSopTransient_inv h ht
  | capArm => exact execCapArm_inv h ht
  | capDisarm => exact execCapDisarm_inv h ht
  | capTrig => exact execCapTrig_inv h ht
  | capRelease => exact execCapRelease_inv h ht
  | capScheduleTrigger => exact execCapScheduleTrigger_inv h ht
  | captureClose => exact execCaptureClose_inv h ht
  | surveyStepEnd => exact execSurveyStepEnd_inv h ht
  | mateFrameReceive => exact execMateFrameReceive_inv h ht
  | mateLinkUp => exact execMateLinkUp_inv h ht
  | mateLinkDown => exact execMateLinkDown_inv h ht
  | bollardLineChange => exact execBollardLineChange_inv h ht
  | beatSend => exact execBeatSend_inv h ht
  | beatReceive => exact execBeatReceive_inv h ht
  | beatMiss => exact execBeatMiss_inv h ht
  | matePresEdge => exact execMatePresEdge_inv h ht
  | matePresTimeout => exact execMatePresTimeout_inv h ht
  | mateBootDecision => exact execMateBootDecision_inv h ht
  | takeover => exact execTakeover_inv h ht
  | actGrantChange => exact execActGrantChange_inv h ht
  | effectiveGrant => exact execEffectiveGrant_inv h ht
  | swGrant => exact execSwGrant_inv h ht
  | resync => exact execResync_inv h ht
  | switchover => exact execSwitchover_inv h ht
  | journalApply => exact execJournalApply_inv h ht
  | mateCompare => exact execMateCompare_inv h ht
  | graceExpiry => exact execGraceExpiry_inv h ht
  | epochApply => exact execEpochApply_inv h ht
  | mooringFrameReceive => exact execMooringFrameReceive_inv h ht
  | laneRestored => exact execLaneRestored_inv h ht
  | hrRetireWrite => exact execHrRetireWrite_inv h ht
  | rmapAccept => exact execRmapAccept_inv h ht
  | domainMis => exact execDomainMis_inv h ht
  | timingPortSwitch => exact execTimingPortSwitch_inv h ht
  | workerTickSet => exact execWorkerTickSet_inv h ht
  | workerTickMismatch => exact execWorkerTickMismatch_inv h ht
  | helloSend => exact execHelloSend_inv h ht
  | helloReceive => exact execHelloReceive_inv h ht
  | routeExpiry => exact execRouteExpiry_inv h ht
  | ccPacketReceive => exact execCcPacketReceive_inv h ht
  | hrCcTxdWrite => exact execHrCcTxdWrite_inv h ht
  | hrCcRxdRead => exact execHrCcRxdRead_inv h ht
  | dcStart => exact execDcStart_inv h ht
  | dcArmReceive => exact execDcArmReceive_inv h ht
  | dcReplyReceive => exact execDcReplyReceive_inv h ht
  | dcDecide => exact execDcDecide_inv h ht
  | dcGoReceive => exact execDcGoReceive_inv h ht
  | dcAbortReceive => exact execDcAbortReceive_inv h ht
  | dcHold => exact execDcHold_inv h ht
  | dcClose => exact execDcClose_inv h ht
  | dcRollbackReceive => exact execDcRollbackReceive_inv h ht
  | dcRollbackApply => exact execDcRollbackApply_inv h ht
  | scratchpadAccess => exact execScratchpadAccess_inv h ht
  | anchorageAccess => exact execAnchorageAccess_inv h ht
  | repairProgram => exact execRepairProgram_inv h ht
  | repairDone => exact execRepairDone_inv h ht
  | scrubRead => exact execScrubRead_inv h ht
  | marchRegion => exact execMarchRegion_inv h ht
  | borrowTouch => exact execBorrowTouch_inv h ht
  | marchRetry => exact execMarchRetry_inv h ht
  | mmNbWrite => exact execMmNbWrite_inv h ht
  | defaultTargetAccess => exact execDefaultTargetAccess_inv h ht
  | busTimeout => exact execBusTimeout_inv h ht
  | bootswap => exact execBootswap_inv h ht
  | coreRunWrite => exact execCoreRunWrite_inv h ht
  | coreTimerCompare => exact execCoreTimerCompare_inv h ht
  | appletStart => exact execAppletStart_inv h ht
  | appletStop => exact execAppletStop_inv h ht
  | appletFault => exact execAppletFault_inv h ht
  | pcieRequest => exact execPcieRequest_inv h ht
  | pcieReset => exact execPcieReset_inv h ht
  | localBusAccess => exact execLocalBusAccess_inv h ht
  | lbPageWrite => exact execLbPageWrite_inv h ht
  | localBusTimeout => exact execLocalBusTimeout_inv h ht
  | i2cReadId => exact execI2cReadId_inv h ht
  | i2cReadMode => exact execI2cReadMode_inv h ht
  | i2cReadTherm => exact execI2cReadTherm_inv h ht
  | i2cReadGroups => exact execI2cReadGroups_inv h ht
  | i2cMbxWrite => exact execI2cMbxWrite_inv h ht
  | i2cMbxRead => exact execI2cMbxRead_inv h ht
  | syMbxDataRead => exact execSyMbxDataRead_inv h ht
  | syMbxDataWrite => exact execSyMbxDataWrite_inv h ht
  | qspiGo => exact execQspiGo_inv h ht
  | qspiDone => exact execQspiDone_inv h ht
  | pmbusAlert => exact execPmbusAlert_inv h ht
  | uartTxWrite => exact execUartTxWrite_inv h ht
  | uartRxRead => exact execUartRxRead_inv h ht
  | uartRxByte => exact execUartRxByte_inv h ht
  | debugUnlock => exact execDebugUnlock_inv h ht
  | imgApply => exact execImgApply_inv h ht
  | applyDone => exact execApplyDone_inv h ht
  | imgCommit => exact execImgCommit_inv h ht
  | imageCommitBoundary => exact execImageCommitBoundary_inv h ht
  | imgAbort => exact execImgAbort_inv h ht
  | imgPersist => exact execImgPersist_inv h ht
  | imgRevert => exact execImgRevert_inv h ht
  | recordWriteDone => exact execRecordWriteDone_inv h ht
  | fuseProgram => exact execFuseProgram_inv h ht
  | fuseDone => exact execFuseDone_inv h ht
  | blockReset => exact execBlockReset_inv h ht
  | blockResetRelease => exact execBlockResetRelease_inv h ht
  | sensorFail => exact execSensorFail_inv h ht
  | thermalShutdown => exact execThermalShutdown_inv h ht
  | thermalResetRelease => exact execThermalResetRelease_inv h ht
  | bistGo => exact execBistGo_inv h ht
  | bistAbort => exact execBistAbort_inv h ht
  | bistDone => exact execBistDone_inv h ht
  | logRecordWrite => exact execLogRecordWrite_inv h ht
  | logSummaryWrite => exact execLogSummaryWrite_inv h ht
  | evLogRdWrite => exact execEvLogRdWrite_inv h ht
  | pcEvselWrite => exact execPcEvselWrite_inv h ht
  | pcOverflow => exact execPcOverflow_inv h ht
  | dumpRingDue => exact execDumpRingDue_inv h ht
  | dumpEntryWritten => exact execDumpEntryWritten_inv h ht
  | dumpStop => exact execDumpStop_inv h ht
  | dumpRingEnable => exact execDumpRingEnable_inv h ht
  | pmOfsWrite => exact execPmOfsWrite_inv h ht
  | syTicknoLoRead => exact execSyTicknoLoRead_inv h ht
  | trBipLoRead => exact execTrBipLoRead_inv h ht
  | lnErrLoRead => exact execLnErrLoRead_inv h ht
  | lnBitsLoRead => exact execLnBitsLoRead_inv h ht
  | qyCntLoRead => exact execQyCntLoRead_inv h ht
  | lfFnoLoRead => exact execLfFnoLoRead_inv h ht
  | lfPmLoRead => exact execLfPmLoRead_inv h ht
  | fpCntLoRead => exact execFpCntLoRead_inv h ht
  | tdCntLoRead => exact execTdCntLoRead_inv h ht
  | mgCntLoRead => exact execMgCntLoRead_inv h ht
  | mtCntLoRead => exact execMtCntLoRead_inv h ht
  | hrCntLoRead => exact execHrCntLoRead_inv h ht
  | gridSwapDoneLoRead => exact execGridSwapDoneLoRead_inv h ht
  | mmEccAddrLoRead => exact execMmEccAddrLoRead_inv h ht
  | tmTb0Read => exact execTmTb0Read_inv h ht
  | pcCntLoRead => exact execPcCntLoRead_inv h ht
  | registerWrite => exact execRegisterWrite_inv h ht
  | unrecoverableImageFault => exact execUnrecoverableImageFault_inv h ht
  | pcieLinkUp => exact execPcieLinkUp_inv h ht
  | pcieConfigurationRequest => exact execPcieConfigurationRequest_inv h ht
  | jtagAccess => exact execJtagAccess_inv h ht
  | workingSramAccess => exact execWorkingSramAccess_inv h ht

theorem State.withFetchWord_inv {s1 : State} {x2 : Nat} {x3 : Nat} (h1 : s1.Inv) : (State.withFetchWord s1 x2 x3).Inv := by
  unfold State.withFetchWord
  with_reducible repeat' first | intro _ | assumption | apply State.inv_ite | split | apply State.inv_mk

end Sys2Proof.Machine
end

