-- ==== Sys2Proof/WellFormed.lean ====
section
/-! DEFINITION. Well-formed commands: operands within the ranges the specification gives them.  A meaning is total and asks for none of
this; statements that need it name it. -/

namespace Sys2Proof

open Sys2Proof.Machine

namespace Machine

/-- A master in user mode is a Pilot core (R515, R525). -/
def Initiator.ok (m : Initiator) : Bool := !m.user || (decide (2 ≤ m.num.val) && decide (m.num.val ≤ 5))

/-- A burst of 1 to 16 beats in one 256-byte span (R516). -/
def Burst.ok (b : Burst) : Bool :=
  decide (1 ≤ b.beats.length) && decide (b.beats.length ≤ 16) && decide (b.addr < 2 ^ 42) &&
    decide (b.addr % 256 / 16 + b.beats.length ≤ 16)

/-- A time of day: nanoseconds below a second, and 16 bits of fraction. -/
def Stamp.ok (x : Stamp) : Bool := decide (x.sec < 2 ^ 48) && decide (x.ns < 1000000000) && decide (x.frac < 65536)

/-- The fields of line overhead fit their widths (R196 to R206). -/
def Overhead.ok (x : Overhead) : Bool :=
  decide (x.bei < 256) && decide (x.taps.length ≤ 8) && x.tt.dep.ok && x.tt.arr.ok && decide (x.tt.flags < 256) &&
    decide (x.tt.cls < 256) && decide (x.tt.steps < 256)

/-- An encryption area names contexts that a direction of an engine has (R283). -/
def EncArea.ok (x : EncArea) : Bool :=
  (x.kst.all fun k => decide (k.1 < 1280) && decide (k.2 < 4)) && x.tags.all fun t => decide (t.1 < 1280)

/-- The records of an image name resources that the device has (R544). -/
def Image.ok (x : Image) : Bool :=
  decide (x.mode < 8) && (x.lanes.all fun r => decide (r.1 < 128)) && (x.quays.all fun r => decide (r.1 < 64)) &&
    (x.engines.all fun r => decide (r.1 < 8)) && (x.trains.all fun r => decide (r.id < 4096)) &&
    (x.manifest.all fun r => decide (r.1 < 23040)) && (x.merge.all fun r => decide (r.group < 2048)) &&
    x.regInit.all fun r => decide (r.1 < 2 ^ 32)

/-- The two commit records and slot images of the flash. -/
def CommitRecord.ok (x : CommitRecord) : Bool := decide (x.slot < 2)

/-- The flash as BOOT reads it. -/
def BootFlash.ok (x : BootFlash) : Bool := x.copy0.all CommitRecord.ok && x.copy1.all CommitRecord.ok && x.slotA.ok && x.slotB.ok

/-- At most 8 DIMMs answer (R500). -/
def Dimms.ok (x : Dimms) : Bool := decide (x.sizes.length ≤ 8)

/-- A plan of the stowage engine names berth ports. -/
def StowResult.ok (r : StowResult) : Bool := r.unplaced.all fun p => decide (p < 23040)

/-- A survey record has 11 quantities and 64 bins (R414). -/
def SurveyResult.ok (r : SurveyResult) : Bool := decide (r.quantities.length = 11) && decide (r.spec.length = 64)

/-- Decisions of the active name berth ports and trains (R433). -/
def MateFrame.ok (f : MateFrame) : Bool :=
  (f.stores.all fun d => decide (d.1 < 23040) && decide (d.2 < 4)) && f.cns.all fun d => decide (d.1 < 4096)

/-- A beat carries a state of R422. -/
def MateBeat.ok (b : MateBeat) : Bool := decide (b.state < 7)

/-- A capture names encryption contexts (R283, R439). -/
def MateCapture.ok (c : MateCapture) : Bool := c.image.all Image.ok && c.keys.all fun k => decide (k.ctx < 32768) && decide (k.state < 4)

/-- The fields of a mooring frame fit their widths (R459). -/
def MooringFrame.ok (f : MooringFrame) : Bool :=
  decide (f.sender < 16) && decide (f.role < 4) && decide (f.hops < 32) && f.tb.ok && decide (f.bei < 4096) && decide (f.flags < 256)

/-- A packet of R472 with at most 256 octets, header included. -/
def CcPacket.ok (p : CcPacket) : Bool :=
  decide (p.dst < 256) && decide (p.src < 16) && decide (p.ttl < 16) && decide (p.seq < 65536) && decide (p.payload.length ≤ 250)

/-- A HELLO of R473: 16 hop counts. -/
def Hello.ok (h : Hello) : Bool := decide (h.src < 16) && decide (h.routes.length = 16) && h.routes.all fun r => decide (r < 256)

/-- A crate tick is the k crates of the leaf's train (R323): at most the 80 berths of a subcarrier. -/
def CrateTick.ok (c : CrateTick) : Bool := decide (c.crates.length ≤ 80)

/-- A burst of the debug module is one of the bus. -/
def JtagOp.ok : JtagOp → Bool
  | .bus _ b => b.ok
  | _ => true

/-- A word that the scrubber reads. -/
def ScrubWord.ok : ScrubWord → Bool
  | .word a => decide (a < 2 ^ 32)
  | .datapath _ => true
  | .line a => decide (a < 2 ^ 42)

/-- A codeword of an engine and a frame (R192). -/
def Codeword.ok (c : Codeword) : Bool := decide (c.engine < 8) && decide (c.index < 256)

/-- The header of a burst (R322). -/
def BurstHeader.ok (h : BurstHeader) : Bool := decide (h.leaf < 256) && decide (h.nc < 4096) && decide (h.nt < 4096)

/-- An item of epoch data names a copy that exists (R438). -/
def EpochItem.ok : EpochItem → Bool
  | .store p _ _ => decide (p < 23040)
  | .group g _ => decide (g < 2048)
  | .context i _ _ => decide (i < 32768)
  | _ => true

/-- An observation of a tick: no more bits in error than compared, codes 1 to 7 of R584. -/
def TickObs.ok : TickObs → Bool
  | .laneBits _ compared errors => decide (errors ≤ compared)
  | .coreCount code index _ => decide (1 ≤ code) && decide (code ≤ 7) && decide (index < 256)
  | .fas _ differ _ => decide (differ ≤ 256)
  | .otuc _ frames violated _ _ => decide (violated ≤ frames)
  | _ => true

end Machine

/-- The operands of a command lie in the ranges that the specification gives them. -/
def Instr.wf : Instr → Bool
  | .porstnAssert _ _ => true
  | .porstnRelease _ _ => true
  | .fuseLoadDone flash dimms _ => flash.ok && dimms.ok
  | .hostGo m _ image => m.ok && image.ok
  | .anchorageTrainingDone _ _ => true
  | .trafficReady => true
  | .srstnAssert midBurst => decide midBurst.Nodup
  | .srstnRelease flash => flash.ok
  | .tickBoundary obs => obs.all TickObs.ok
  | .fillLimitEnd _ => true
  | .d2dTransfer _ _ => true
  | .d2dDown _ => true
  | .d2dRetrain _ => true
  | .d2dRestore _ => true
  | .loopFreezeWrite m _ => m.ok
  | .avsUpdate _ _ => true
  | .poolFreqDecision _ => true
  | .laneAdapt _ _ => true
  | .laneEqReset _ _ => true
  | .berthPointerWord _ _ _ _ _ _ => true
  | .trainSeqLoss _ _ => true
  | .trainMis _ _ _ => true
  | .trainSkew _ _ _ => true
  | .trainAis _ _ _ => true
  | .trainRdi _ _ _ => true
  | .trainCsf _ _ _ _ => true
  | .manifestShadowWrite m _ _ => m.ok
  | .prepare m => m.ok
  | .arm m => m.ok
  | .cancel m => m.ok
  | .stowageComplete r => r.ok
  | .swapSwitch => true
  | .swapStagingEnd => true
  | .repack m => m.ok
  | .repackSwitch => true
  | .laneLos _ _ => true
  | .laneSigOk _ _ => true
  | .laneAcquired _ _ => true
  | .laneAcquireTimeout _ => true
  | .laneCdrLoss _ => true
  | .trainDone _ _ _ _ => true
  | .trainAttemptEnd _ _ => true
  | .backoffRetry _ => true
  | .trainingRestart m => m.ok
  | .backoffDisWrite m _ => m.ok
  | .loopbackSet m _ _ => m.ok
  | .loopbackRelease m => m.ok
  | .patSync _ _ _ => true
  | .patSyncLoss _ errors => decide (errors ≤ 256)
  | .patChkClr m => m.ok
  | .injectSingle m => m.ok
  | .injectBurst m _ => m.ok
  | .txFault _ => true
  | .clientSignalFail _ _ _ => true
  | .clientSignalFailClear _ _ _ _ => true
  | .clientFrameIngress _ _ _ => true
  | .ptpEventMessage _ _ _ frame crossing => crossing.ok && decide (frame.length ≤ 2 ^ 16)
  | .qyIdataWrite m _ => m.ok
  | .ptpFrameInsert _ crossing => crossing.ok
  | .qyXdataRead m => m.ok
  | .qyTsf0Read m => m.ok
  | .frameDelivered _ oh _ ucw enc => (oh.ok) && (enc.ok) && (ucw.all (decide <| · < 256))
  | .inFrame _ _ => true
  | .oof _ => true
  | .lof _ => true
  | .lom _ => true
  | .fnoJump _ => true
  | .bdiRx _ => true
  | .fmtMis _ => true
  | .midMis _ => true
  | .lapsAccept _ => true
  | .tapsAccept _ _ => true
  | .ttLoad _ dep arrival => (dep.ok) && (arrival.all fun x => decide (x.1 < 16) && x.2.ok)
  | .ttAccept _ => true
  | .gccFrameReceive _ _ octets _ => decide (octets.length ≤ 2 ^ 16)
  | .lfGccTxdWrite m _ _ => m.ok
  | .lfGccRxdRead m _ => m.ok
  | .secondEnd => true
  | .lePstateWrite m _ => m.ok
  | .powerStateReached _ => true
  | .convFault _ _ => true
  | .txEnWrite m _ => m.ok
  | .laserEnWrite m _ => m.ok
  | .leDrvWrite m _ => m.ok
  | .rampDone _ => true
  | .drvFault _ => true
  | .engineLos _ _ => true
  | .engineSigOk _ _ => true
  | .freqLock _ _ => true
  | .cdLock _ _ => true
  | .cdHintMiss _ => true
  | .lock _ => true
  | .acqFail _ => true
  | .acqRestart m => m.ok
  | .engineLol _ _ => true
  | .fastReacqTimeout _ => true
  | .deskewLoss _ _ _ => true
  | .deskewRegained _ _ _ => true
  | .spiGo m _ => m.ok
  | .spiDone _ _ => true
  | .baseDecode cws => cws.all Codeword.ok
  | .poolDecode => true
  | .codewordDelivery => true
  | .keyLoad m _ => m.ok
  | .keyUnwrapDone m _ => m.ok
  | .keyChange m _ => m.ok
  | .zeroize m _ => m.ok
  | .zeroizeAll m => m.ok
  | .encBlockBoundary _ _ => true
  | .aisWindowEnd _ _ => true
  | .clrLatch m => m.ok
  | .tdDsWrite m _ => m.ok
  | .tdGsBankWrite m _ => m.ok
  | .grantBankSwitch _ => true
  | .burstPowerDetect _ _ _ _ => true
  | .syncAccept _ _ _ errors => decide (errors ≤ 256)
  | .burstHeader _ _ header _ => header.all BurstHeader.ok
  | .syncMiss _ _ _ => true
  | .burstPowerRise _ _ _ _ _ => true
  | .crateTickArrival _ _ ct => ct.ok
  | .leafLost _ _ => true
  | .tideThrUpdate _ => true
  | .mergeKeyDecision _ => true
  | .mergeDheldLoad _ => true
  | .mergeLateEarly _ => true
  | .mergeDown _ => true
  | .mergeWaitExpiry _ => true
  | .mergeAligned _ => true
  | .mgRealign m => m.ok
  | .realignNoUsable _ => true
  | .realignAuto _ => true
  | .holdoffExpiry _ => true
  | .wtrExpiry _ => true
  | .mgCmdLo m => m.ok
  | .mgCmdFs m => m.ok
  | .mgCmdMsA m => m.ok
  | .mgCmdMsB m => m.ok
  | .mgCmdClear m => m.ok
  | .refLos _ => true
  | .refFreqWindow _ _ => true
  | .refQualify _ => true
  | .dpllLocked _ _ => true
  | .timeDecision _ _ => true
  | .timeLocked => true
  | .tickInEdge _ => true
  | .ppsEdge _ stamp => stamp.ok
  | .ppsMiss _ => true
  | .todMessage bytes => decide (bytes.length ≤ 2 ^ 16)
  | .todTxSend => true
  | .ppsOutEdge => true
  | .asymLearned _ => true
  | .tsLearn m => m.ok
  | .swOfsWrite m _ => m.ok
  | .swSourceTimeout => true
  | .invarLearned => true
  | .invarResetModel m => m.ok
  | .invTempStale => true
  | .sopTransient _ => true
  | .capArm m => m.ok
  | .capDisarm m => m.ok
  | .capTrig m => m.ok
  | .capRelease m => m.ok
  | .capScheduleTrigger _ => true
  | .captureClose _ _ _ => true
  | .surveyStepEnd _ r => r.ok
  | .mateFrameReceive f => f.ok
  | .mateLinkUp => true
  | .mateLinkDown => true
  | .bollardLineChange => true
  | .beatSend => true
  | .beatReceive _ beat _ => beat.ok
  | .beatMiss _ => true
  | .matePresEdge => true
  | .matePresTimeout => true
  | .mateBootDecision => true
  | .takeover => true
  | .actGrantChange _ => true
  | .effectiveGrant => true
  | .swGrant m _ => m.ok
  | .resync m _ => m.ok
  | .switchover m _ => m.ok
  | .journalApply capture => capture.all MateCapture.ok
  | .mateCompare _ _ => true
  | .graceExpiry => true
  | .epochApply _ items => items.all fun x => x.1.ok
  | .mooringFrameReceive _ f => f.ok
  | .laneRestored _ _ => true
  | .hrRetireWrite m _ => m.ok
  | .rmapAccept _ => true
  | .domainMis _ => true
  | .timingPortSwitch => true
  | .workerTickSet => true
  | .workerTickMismatch => true
  | .helloSend => true
  | .helloReceive _ hello => hello.ok
  | .routeExpiry _ => true
  | .ccPacketReceive _ packet _ => packet.ok
  | .hrCcTxdWrite m _ => m.ok
  | .hrCcRxdRead m => m.ok
  | .dcStart m _ => m.ok
  | .dcArmReceive _ _ _ => true
  | .dcReplyReceive _ _ _ _ => true
  | .dcDecide => true
  | .dcGoReceive _ _ => true
  | .dcAbortReceive _ _ => true
  | .dcHold => true
  | .dcClose => true
  | .dcRollbackReceive _ _ => true
  | .dcRollbackApply => true
  | .scratchpadAccess m b => m.ok && b.ok
  | .anchorageAccess m _ b => m.ok && b.ok
  | .repairProgram m _ => m.ok
  | .repairDone _ _ => true
  | .scrubRead w _ _ => w.ok
  | .marchRegion _ _ => true
  | .borrowTouch user b => user.all Initiator.ok && b.ok
  | .marchRetry _ => true
  | .mmNbWrite m _ _ => m.ok
  | .defaultTargetAccess m b => m.ok && b.ok
  | .busTimeout m _ _ => m.ok
  | .bootswap m _ => m.ok
  | .coreRunWrite m _ _ => m.ok
  | .coreTimerCompare _ => true
  | .appletStart m _ => m.ok
  | .appletStop m _ => m.ok
  | .appletFault _ _ _ => true
  | .pcieRequest _ _ beats x => x.image.ok && decide (1 ≤ beats.length)
  | .pcieReset _ _ => true
  | .localBusAccess _ _ _ _ _ _ x => x.image.ok
  | .lbPageWrite _ => true
  | .localBusTimeout _ _ => true
  | .i2cReadId => true
  | .i2cReadMode => true
  | .i2cReadTherm => true
  | .i2cReadGroups => true
  | .i2cMbxWrite bytes _ => decide (bytes.length ≤ 2 ^ 16)
  | .i2cMbxRead => true
  | .syMbxDataRead m => m.ok
  | .syMbxDataWrite m _ => m.ok
  | .qspiGo m _ => m.ok
  | .qspiDone data => decide (data.length ≤ 256)
  | .pmbusAlert _ _ => true
  | .uartTxWrite m _ => m.ok
  | .uartRxRead m => m.ok
  | .uartRxByte _ => true
  | .debugUnlock m _ => m.ok
  | .imgApply m _ image => m.ok && image.ok
  | .applyDone => true
  | .imgCommit m _ => m.ok
  | .imageCommitBoundary => true
  | .imgAbort m _ => m.ok
  | .imgPersist m _ image => m.ok && image.ok
  | .imgRevert m _ => m.ok
  | .recordWriteDone copy0 copy1 _ => copy0.all CommitRecord.ok && copy1.all CommitRecord.ok
  | .fuseProgram m _ => m.ok
  | .fuseDone _ => true
  | .blockReset m _ => m.ok
  | .blockResetRelease => true
  | .sensorFail => true
  | .thermalShutdown => true
  | .thermalResetRelease _ _ => true
  | .bistGo m _ => m.ok
  | .bistAbort m _ => m.ok
  | .bistDone _ => true
  | .logRecordWrite => true
  | .logSummaryWrite => true
  | .evLogRdWrite m _ => m.ok
  | .pcEvselWrite m _ _ => m.ok
  | .pcOverflow _ _ => true
  | .dumpRingDue => true
  | .dumpEntryWritten _ => true
  | .dumpStop m _ => m.ok
  | .dumpRingEnable m _ _ => m.ok
  | .pmOfsWrite m _ => m.ok
  | .syTicknoLoRead m => m.ok
  | .trBipLoRead m => m.ok
  | .lnErrLoRead m => m.ok
  | .lnBitsLoRead m => m.ok
  | .qyCntLoRead m => m.ok
  | .lfFnoLoRead m => m.ok
  | .lfPmLoRead m => m.ok
  | .fpCntLoRead m => m.ok
  | .tdCntLoRead m => m.ok
  | .mgCntLoRead m => m.ok
  | .mtCntLoRead m => m.ok
  | .hrCntLoRead m => m.ok
  | .gridSwapDoneLoRead m => m.ok
  | .mmEccAddrLoRead m => m.ok
  | .tmTb0Read m => m.ok
  | .pcCntLoRead m _ => m.ok
  | .registerWrite m _ _ x => m.ok && x.image.ok
  | .unrecoverableImageFault => true
  | .pcieLinkUp => true
  | .pcieConfigurationRequest _ => true
  | .jtagAccess op x => op.ok && x.image.ok
  | .workingSramAccess m b => m.ok && b.ok

/-- The bus master that a command's access comes from, where it names one. -/
def Instr.master : Instr → Option Initiator
  | .porstnAssert _ _ => none
  | .porstnRelease _ _ => none
  | .fuseLoadDone _ _ _ => none
  | .hostGo m _ _ => some m
  | .anchorageTrainingDone _ _ => none
  | .trafficReady => none
  | .srstnAssert _ => none
  | .srstnRelease _ => none
  | .tickBoundary _ => none
  | .fillLimitEnd _ => none
  | .d2dTransfer _ _ => none
  | .d2dDown _ => none
  | .d2dRetrain _ => none
  | .d2dRestore _ => none
  | .loopFreezeWrite m _ => some m
  | .avsUpdate _ _ => none
  | .poolFreqDecision _ => none
  | .laneAdapt _ _ => none
  | .laneEqReset _ _ => none
  | .berthPointerWord _ _ _ _ _ _ => none
  | .trainSeqLoss _ _ => none
  | .trainMis _ _ _ => none
  | .trainSkew _ _ _ => none
  | .trainAis _ _ _ => none
  | .trainRdi _ _ _ => none
  | .trainCsf _ _ _ _ => none
  | .manifestShadowWrite m _ _ => some m
  | .prepare m => some m
  | .arm m => some m
  | .cancel m => some m
  | .stowageComplete _ => none
  | .swapSwitch => none
  | .swapStagingEnd => none
  | .repack m => some m
  | .repackSwitch => none
  | .laneLos _ _ => none
  | .laneSigOk _ _ => none
  | .laneAcquired _ _ => none
  | .laneAcquireTimeout _ => none
  | .laneCdrLoss _ => none
  | .trainDone _ _ _ _ => none
  | .trainAttemptEnd _ _ => none
  | .backoffRetry _ => none
  | .trainingRestart m => some m
  | .backoffDisWrite m _ => some m
  | .loopbackSet m _ _ => some m
  | .loopbackRelease m => some m
  | .patSync _ _ _ => none
  | .patSyncLoss _ _ => none
  | .patChkClr m => some m
  | .injectSingle m => some m
  | .injectBurst m _ => some m
  | .txFault _ => none
  | .clientSignalFail _ _ _ => none
  | .clientSignalFailClear _ _ _ _ => none
  | .clientFrameIngress _ _ _ => none
  | .ptpEventMessage _ _ _ _ _ => none
  | .qyIdataWrite m _ => some m
  | .ptpFrameInsert _ _ => none
  | .qyXdataRead m => some m
  | .qyTsf0Read m => some m
  | .frameDelivered _ _ _ _ _ => none
  | .inFrame _ _ => none
  | .oof _ => none
  | .lof _ => none
  | .lom _ => none
  | .fnoJump _ => none
  | .bdiRx _ => none
  | .fmtMis _ => none
  | .midMis _ => none
  | .lapsAccept _ => none
  | .tapsAccept _ _ => none
  | .ttLoad _ _ _ => none
  | .ttAccept _ => none
  | .gccFrameReceive _ _ _ _ => none
  | .lfGccTxdWrite m _ _ => some m
  | .lfGccRxdRead m _ => some m
  | .secondEnd => none
  | .lePstateWrite m _ => some m
  | .powerStateReached _ => none
  | .convFault _ _ => none
  | .txEnWrite m _ => some m
  | .laserEnWrite m _ => some m
  | .leDrvWrite m _ => some m
  | .rampDone _ => none
  | .drvFault _ => none
  | .engineLos _ _ => none
  | .engineSigOk _ _ => none
  | .freqLock _ _ => none
  | .cdLock _ _ => none
  | .cdHintMiss _ => none
  | .lock _ => none
  | .acqFail _ => none
  | .acqRestart m => some m
  | .engineLol _ _ => none
  | .fastReacqTimeout _ => none
  | .deskewLoss _ _ _ => none
  | .deskewRegained _ _ _ => none
  | .spiGo m _ => some m
  | .spiDone _ _ => none
  | .baseDecode _ => none
  | .poolDecode => none
  | .codewordDelivery => none
  | .keyLoad m _ => some m
  | .keyUnwrapDone m _ => some m
  | .keyChange m _ => some m
  | .zeroize m _ => some m
  | .zeroizeAll m => some m
  | .encBlockBoundary _ _ => none
  | .aisWindowEnd _ _ => none
  | .clrLatch m => some m
  | .tdDsWrite m _ => some m
  | .tdGsBankWrite m _ => some m
  | .grantBankSwitch _ => none
  | .burstPowerDetect _ _ _ _ => none
  | .syncAccept _ _ _ _ => none
  | .burstHeader _ _ _ _ => none
  | .syncMiss _ _ _ => none
  | .burstPowerRise _ _ _ _ _ => none
  | .crateTickArrival _ _ _ => none
  | .leafLost _ _ => none
  | .tideThrUpdate _ => none
  | .mergeKeyDecision _ => none
  | .mergeDheldLoad _ => none
  | .mergeLateEarly _ => none
  | .mergeDown _ => none
  | .mergeWaitExpiry _ => none
  | .mergeAligned _ => none
  | .mgRealign m => some m
  | .realignNoUsable _ => none
  | .realignAuto _ => none
  | .holdoffExpiry _ => none
  | .wtrExpiry _ => none
  | .mgCmdLo m => some m
  | .mgCmdFs m => some m
  | .mgCmdMsA m => some m
  | .mgCmdMsB m => some m
  | .mgCmdClear m => some m
  | .refLos _ => none
  | .refFreqWindow _ _ => none
  | .refQualify _ => none
  | .dpllLocked _ _ => none
  | .timeDecision _ _ => none
  | .timeLocked => none
  | .tickInEdge _ => none
  | .ppsEdge _ _ => none
  | .ppsMiss _ => none
  | .todMessage _ => none
  | .todTxSend => none
  | .ppsOutEdge => none
  | .asymLearned _ => none
  | .tsLearn m => some m
  | .swOfsWrite m _ => some m
  | .swSourceTimeout => none
  | .invarLearned => none
  | .invarResetModel m => some m
  | .invTempStale => none
  | .sopTransient _ => none
  | .capArm m => some m
  | .capDisarm m => some m
  | .capTrig m => some m
  | .capRelease m => some m
  | .capScheduleTrigger _ => none
  | .captureClose _ _ _ => none
  | .surveyStepEnd _ _ => none
  | .mateFrameReceive _ => none
  | .mateLinkUp => none
  | .mateLinkDown => none
  | .bollardLineChange => none
  | .beatSend => none
  | .beatReceive _ _ _ => none
  | .beatMiss _ => none
  | .matePresEdge => none
  | .matePresTimeout => none
  | .mateBootDecision => none
  | .takeover => none
  | .actGrantChange _ => none
  | .effectiveGrant => none
  | .swGrant m _ => some m
  | .resync m _ => some m
  | .switchover m _ => some m
  | .journalApply _ => none
  | .mateCompare _ _ => none
  | .graceExpiry => none
  | .epochApply _ _ => none
  | .mooringFrameReceive _ _ => none
  | .laneRestored _ _ => none
  | .hrRetireWrite m _ => some m
  | .rmapAccept _ => none
  | .domainMis _ => none
  | .timingPortSwitch => none
  | .workerTickSet => none
  | .workerTickMismatch => none
  | .helloSend => none
  | .helloReceive _ _ => none
  | .routeExpiry _ => none
  | .ccPacketReceive _ _ _ => none
  | .hrCcTxdWrite m _ => some m
  | .hrCcRxdRead m => some m
  | .dcStart m _ => some m
  | .dcArmReceive _ _ _ => none
  | .dcReplyReceive _ _ _ _ => none
  | .dcDecide => none
  | .dcGoReceive _ _ => none
  | .dcAbortReceive _ _ => none
  | .dcHold => none
  | .dcClose => none
  | .dcRollbackReceive _ _ => none
  | .dcRollbackApply => none
  | .scratchpadAccess m _ => some m
  | .anchorageAccess m _ _ => some m
  | .repairProgram m _ => some m
  | .repairDone _ _ => none
  | .scrubRead _ _ _ => none
  | .marchRegion _ _ => none
  | .borrowTouch _ _ => none
  | .marchRetry _ => none
  | .mmNbWrite m _ _ => some m
  | .defaultTargetAccess m _ => some m
  | .busTimeout m _ _ => some m
  | .bootswap m _ => some m
  | .coreRunWrite m _ _ => some m
  | .coreTimerCompare _ => none
  | .appletStart m _ => some m
  | .appletStop m _ => some m
  | .appletFault _ _ _ => none
  | .pcieRequest _ _ _ _ => none
  | .pcieReset _ _ => none
  | .localBusAccess _ _ _ _ _ _ _ => none
  | .lbPageWrite _ => none
  | .localBusTimeout _ _ => none
  | .i2cReadId => none
  | .i2cReadMode => none
  | .i2cReadTherm => none
  | .i2cReadGroups => none
  | .i2cMbxWrite _ _ => none
  | .i2cMbxRead => none
  | .syMbxDataRead m => some m
  | .syMbxDataWrite m _ => some m
  | .qspiGo m _ => some m
  | .qspiDone _ => none
  | .pmbusAlert _ _ => none
  | .uartTxWrite m _ => some m
  | .uartRxRead m => some m
  | .uartRxByte _ => none
  | .debugUnlock m _ => some m
  | .imgApply m _ _ => some m
  | .applyDone => none
  | .imgCommit m _ => some m
  | .imageCommitBoundary => none
  | .imgAbort m _ => some m
  | .imgPersist m _ _ => some m
  | .imgRevert m _ => some m
  | .recordWriteDone _ _ _ => none
  | .fuseProgram m _ => some m
  | .fuseDone _ => none
  | .blockReset m _ => some m
  | .blockResetRelease => none
  | .sensorFail => none
  | .thermalShutdown => none
  | .thermalResetRelease _ _ => none
  | .bistGo m _ => some m
  | .bistAbort m _ => some m
  | .bistDone _ => none
  | .logRecordWrite => none
  | .logSummaryWrite => none
  | .evLogRdWrite m _ => some m
  | .pcEvselWrite m _ _ => some m
  | .pcOverflow _ _ => none
  | .dumpRingDue => none
  | .dumpEntryWritten _ => none
  | .dumpStop m _ => some m
  | .dumpRingEnable m _ _ => some m
  | .pmOfsWrite m _ => some m
  | .syTicknoLoRead m => some m
  | .trBipLoRead m => some m
  | .lnErrLoRead m => some m
  | .lnBitsLoRead m => some m
  | .qyCntLoRead m => some m
  | .lfFnoLoRead m => some m
  | .lfPmLoRead m => some m
  | .fpCntLoRead m => some m
  | .tdCntLoRead m => some m
  | .mgCntLoRead m => some m
  | .mtCntLoRead m => some m
  | .hrCntLoRead m => some m
  | .gridSwapDoneLoRead m => some m
  | .mmEccAddrLoRead m => some m
  | .tmTb0Read m => some m
  | .pcCntLoRead m _ => some m
  | .registerWrite m _ _ _ => some m
  | .unrecoverableImageFault => none
  | .pcieLinkUp => none
  | .pcieConfigurationRequest _ => none
  | .jtagAccess _ _ => none
  | .workingSramAccess m _ => some m

end Sys2Proof
end

