-- ==== Sys2Proof/Laws/PerInstr.lean ====
section
/-! SUPPORT. One fact per command, for statements made over all of them: a well-formed command names only a bus master that exists. -/

namespace Sys2Proof.Laws.WellFormedOf

open Sys2Proof Sys2Proof.Machine

set_option Elab.async false

/-- In a well-formed command the master, where it names one, is in user mode only if it is a Pilot core (R515, R525). -/
def Statement (i : Instr) : Prop := i.wf = true → ∀ m, i.master = some m → m.ok = true

/-- The commands that name a master check it first. -/
theorem master_ok (i : Instr) : Statement i := by
  intro h m e
  cases i <;> cases e <;> (first | exact h | exact (Bool.and_eq_true_iff.mp h).1 | exact (Bool.and_eq_true_iff.mp (Bool.and_eq_true_iff.mp h).1).1)

theorem porstnAssert (fuse : FuseCut) (repair : FuseCut) : Statement (.porstnAssert fuse repair) := master_ok _

theorem porstnRelease (straps : Straps) (xo : Option (Fin 5)) : Statement (.porstnRelease straps xo) := master_ok _

theorem fuseLoadDone (flash : BootFlash) (dimms : Dimms) (refIn0 : Option (Fin 7)) : Statement (.fuseLoadDone flash dimms refIn0) := master_ok _

theorem hostGo (m : Initiator) (v : Word) (image : Image) : Statement (.hostGo m v image) := master_ok _

theorem anchorageTrainingDone (hbm ddr : Bool) : Statement (.anchorageTrainingDone hbm ddr) := master_ok _

theorem trafficReady : Statement (.trafficReady) := master_ok _

theorem srstnAssert (midBurst : List (Fin 10)) : Statement (.srstnAssert midBurst) := master_ok _

theorem srstnRelease (flash : BootFlash) : Statement (.srstnRelease flash) := master_ok _

theorem tickBoundary (obs : List TickObs) : Statement (.tickBoundary obs) := master_ok _

theorem fillLimitEnd (t : Fin 4096) : Statement (.fillLimitEnd t) := master_ok _

theorem d2dTransfer (d : Fin 4) (how : TransferEnd) : Statement (.d2dTransfer d how) := master_ok _

theorem d2dDown (d : Fin 4) : Statement (.d2dDown d) := master_ok _

theorem d2dRetrain (d : Fin 4) : Statement (.d2dRetrain d) := master_ok _

theorem d2dRestore (d : Fin 4) : Statement (.d2dRestore d) := master_ok _

theorem loopFreezeWrite (m : Initiator) (v : Word) : Statement (.loopFreezeWrite m v) := master_ok _

theorem avsUpdate (rail : Rail) (r : AvsReading) : Statement (.avsUpdate rail r) := master_ok _

theorem poolFreqDecision (r : PoolReading) : Statement (.poolFreqDecision r) := master_ok _

theorem laneAdapt (l : Fin 128) (eq : RxCoef) : Statement (.laneAdapt l eq) := master_ok _

theorem laneEqReset (l : Fin 128) (ticks : Nat) : Statement (.laneEqReset l ticks) := master_ok _

theorem berthPointerWord (p : Fin 23040) (word : BitVec 16) (label : Fin 16) (bbip : Nat) (drift : Int) (centre : Fin 1008) : Statement (.berthPointerWord p word label bbip drift centre) := master_ok _

theorem trainSeqLoss (t : Fin 4096) (seen : SeqSight) : Statement (.trainSeqLoss t seen) := master_ok _

theorem trainMis (t : Fin 4096) (matching : Bool) (blocks : Nat) : Statement (.trainMis t matching blocks) := master_ok _

theorem trainSkew (t : Fin 4096) (spread ticks : Nat) : Statement (.trainSkew t spread ticks) := master_ok _

theorem trainAis (t : Fin 4096) (present : Bool) (ticks : Nat) : Statement (.trainAis t present ticks) := master_ok _

theorem trainRdi (t : Fin 4096) (present : Bool) (ticks : Nat) : Statement (.trainRdi t present ticks) := master_ok _

theorem trainCsf (t : Fin 4096) (present : Bool) (validBlocks ticks : Nat) : Statement (.trainCsf t present validBlocks ticks) := master_ok _

theorem manifestShadowWrite (m : Initiator) (p : Fin 23040) (v : Word) : Statement (.manifestShadowWrite m p v) := master_ok _

theorem prepare (m : Initiator) : Statement (.prepare m) := master_ok _

theorem arm (m : Initiator) : Statement (.arm m) := master_ok _

theorem cancel (m : Initiator) : Statement (.cancel m) := master_ok _

theorem stowageComplete (r : StowResult) : Statement (.stowageComplete r) := master_ok _

theorem swapSwitch : Statement (.swapSwitch) := master_ok _

theorem swapStagingEnd : Statement (.swapStagingEnd) := master_ok _

theorem repack (m : Initiator) : Statement (.repack m) := master_ok _

theorem repackSwitch : Statement (.repackSwitch) := master_ok _

theorem laneLos (l : Fin 128) (ticks : Nat) : Statement (.laneLos l ticks) := master_ok _

theorem laneSigOk (l : Fin 128) (ticks : Nat) : Statement (.laneSigOk l ticks) := master_ok _

theorem laneAcquired (l : Fin 128) (ticks : Nat) : Statement (.laneAcquired l ticks) := master_ok _

theorem laneAcquireTimeout (l : Fin 128) : Statement (.laneAcquireTimeout l) := master_ok _

theorem laneCdrLoss (l : Fin 128) : Statement (.laneCdrLoss l) := master_ok _

theorem trainDone (l : Fin 128) (ffe0 ffe1 : Word) (txPrecode : Bool) : Statement (.trainDone l ffe0 ffe1 txPrecode) := master_ok _

theorem trainAttemptEnd (l : Fin 128) (frames : Bool) : Statement (.trainAttemptEnd l frames) := master_ok _

theorem backoffRetry (l : Fin 128) : Statement (.backoffRetry l) := master_ok _

theorem trainingRestart (m : Initiator) : Statement (.trainingRestart m) := master_ok _

theorem backoffDisWrite (m : Initiator) (on : Bool) : Statement (.backoffDisWrite m on) := master_ok _

theorem loopbackSet (m : Initiator) (mode : Fin 4) (squelch : Bool) : Statement (.loopbackSet m mode squelch) := master_ok _

theorem loopbackRelease (m : Initiator) : Statement (.loopbackRelease m) := master_ok _

theorem patSync (l : Fin 128) (bits : Nat) (inverted : Bool) : Statement (.patSync l bits inverted) := master_ok _

theorem patSyncLoss (l : Fin 128) (errors : Nat) : Statement (.patSyncLoss l errors) := master_ok _

theorem patChkClr (m : Initiator) : Statement (.patChkClr m) := master_ok _

theorem injectSingle (m : Initiator) : Statement (.injectSingle m) := master_ok _

theorem injectBurst (m : Initiator) (blen : Fin 256) : Statement (.injectBurst m blen) := master_ok _

theorem txFault (l : Fin 128) : Statement (.txFault l) := master_ok _

theorem clientSignalFail (q : Fin 64) (slot : Fin 2) (cond : ClientCond) : Statement (.clientSignalFail q slot cond) := master_ok _

theorem clientSignalFailClear (q : Fin 64) (slot : Fin 2) (odu : Option (Fin 4096)) (ticks : Nat) : Statement (.clientSignalFailClear q slot odu ticks) := master_ok _

theorem clientFrameIngress (q : Fin 64) (slot : Fin 2) (blocks : Nat) : Statement (.clientFrameIngress q slot blocks) := master_ok _

theorem ptpEventMessage (q : Fin 64) (slot : Fin 2) (egress : Bool) (frame : List Byte) (crossing : Stamp) : Statement (.ptpEventMessage q slot egress frame crossing) := master_ok _

theorem qyIdataWrite (m : Initiator) (v : Word) : Statement (.qyIdataWrite m v) := master_ok _

theorem ptpFrameInsert (q : Fin 64) (crossing : Stamp) : Statement (.ptpFrameInsert q crossing) := master_ok _

theorem qyXdataRead (m : Initiator) : Statement (.qyXdataRead m) := master_ok _

theorem qyTsf0Read (m : Initiator) : Statement (.qyTsf0Read m) := master_ok _

theorem frameDelivered (u : RxUnit) (oh : Overhead) (sbip : Fin 17) (ucw : List Nat) (enc : EncArea) : Statement (.frameDelivered u oh sbip ucw enc) := master_ok _

theorem inFrame (u : RxUnit) (pos : Nat) : Statement (.inFrame u pos) := master_ok _

theorem oof (u : RxUnit) : Statement (.oof u) := master_ok _

theorem lof (u : RxUnit) : Statement (.lof u) := master_ok _

theorem lom (u : RxUnit) : Statement (.lom u) := master_ok _

theorem fnoJump (u : RxUnit) : Statement (.fnoJump u) := master_ok _

theorem bdiRx (u : RxUnit) : Statement (.bdiRx u) := master_ok _

theorem fmtMis (u : RxUnit) : Statement (.fmtMis u) := master_ok _

theorem midMis (u : RxUnit) : Statement (.midMis u) := master_ok _

theorem lapsAccept (u : RxUnit) : Statement (.lapsAccept u) := master_ok _

theorem tapsAccept (u : RxUnit) (ch : Fin 2048) : Statement (.tapsAccept u ch) := master_ok _

theorem ttLoad (u : RxUnit) (dep : Stamp) (arrival : Option (Nat × Stamp)) : Statement (.ttLoad u dep arrival) := master_ok _

theorem ttAccept (u : RxUnit) : Statement (.ttAccept u) := master_ok _

theorem gccFrameReceive (e : Fin 8) (ch : Fin 2) (octets : List Byte) (how : GccEnd) : Statement (.gccFrameReceive e ch octets how) := master_ok _

theorem lfGccTxdWrite (m : Initiator) (ch : Fin 2) (v : Word) : Statement (.lfGccTxdWrite m ch v) := master_ok _

theorem lfGccRxdRead (m : Initiator) (ch : Fin 2) : Statement (.lfGccRxdRead m ch) := master_ok _

theorem secondEnd : Statement (.secondEnd) := master_ok _

theorem lePstateWrite (m : Initiator) (p : Fin 4) : Statement (.lePstateWrite m p) := master_ok _

theorem powerStateReached (e : Fin 8) : Statement (.powerStateReached e) := master_ok _

theorem convFault (e : Fin 8) (receive : Bool) : Statement (.convFault e receive) := master_ok _

theorem txEnWrite (m : Initiator) (on : Bool) : Statement (.txEnWrite m on) := master_ok _

theorem laserEnWrite (m : Initiator) (on : Bool) : Statement (.laserEnWrite m on) := master_ok _

theorem leDrvWrite (m : Initiator) (v : Word) : Statement (.leDrvWrite m v) := master_ok _

theorem rampDone (e : Fin 8) : Statement (.rampDone e) := master_ok _

theorem drvFault (e : Fin 8) : Statement (.drvFault e) := master_ok _

theorem engineLos (e : Fin 8) (ticks : Nat) : Statement (.engineLos e ticks) := master_ok _

theorem engineSigOk (e : Fin 8) (ticks : Nat) : Statement (.engineSigOk e ticks) := master_ok _

theorem freqLock (e : Fin 8) (fofs : Int) : Statement (.freqLock e fofs) := master_ok _

theorem cdLock (e : Fin 8) (cd : Int) : Statement (.cdLock e cd) := master_ok _

theorem cdHintMiss (e : Fin 8) : Statement (.cdHintMiss e) := master_ok _

theorem lock (e : Fin 8) : Statement (.lock e) := master_ok _

theorem acqFail (e : Fin 8) : Statement (.acqFail e) := master_ok _

theorem acqRestart (m : Initiator) : Statement (.acqRestart m) := master_ok _

theorem engineLol (e : Fin 8) (ticks : Nat) : Statement (.engineLol e ticks) := master_ok _

theorem fastReacqTimeout (e : Fin 8) : Statement (.fastReacqTimeout e) := master_ok _

theorem deskewLoss (d : Fin 4) (skew : Int) (frames : Nat) : Statement (.deskewLoss d skew frames) := master_ok _

theorem deskewRegained (d : Fin 4) (skew : Int) (frames : Nat) : Statement (.deskewRegained d skew frames) := master_ok _

theorem spiGo (m : Initiator) (v : Word) : Statement (.spiGo m v) := master_ok _

theorem spiDone (e : Fin 8) (received : BitVec 64) : Statement (.spiDone e received) := master_ok _

theorem baseDecode (cws : List Codeword) : Statement (.baseDecode cws) := master_ok _

theorem poolDecode : Statement (.poolDecode) := master_ok _

theorem codewordDelivery : Statement (.codewordDelivery) := master_ok _

theorem keyLoad (m : Initiator) (phase : Fin 2) : Statement (.keyLoad m phase) := master_ok _

theorem keyUnwrapDone (m : Initiator) (intact : Bool) : Statement (.keyUnwrapDone m intact) := master_ok _

theorem keyChange (m : Initiator) (target : Fin 4) : Statement (.keyChange m target) := master_ok _

theorem zeroize (m : Initiator) (phase : Fin 2) : Statement (.zeroize m phase) := master_ok _

theorem zeroizeAll (m : Initiator) : Statement (.zeroizeAll m) := master_ok _

theorem encBlockBoundary (e : Fin 8) (receive : Bool) : Statement (.encBlockBoundary e receive) := master_ok _

theorem aisWindowEnd (e : Fin 8) (ctx : Fin 1280) : Statement (.aisWindowEnd e ctx) := master_ok _

theorem clrLatch (m : Initiator) : Statement (.clrLatch m) := master_ok _

theorem tdDsWrite (m : Initiator) (lit : Fin 65536) : Statement (.tdDsWrite m lit) := master_ok _

theorem tdGsBankWrite (m : Initiator) (bank : Fin 2) : Statement (.tdGsBankWrite m bank) := master_ok _

theorem grantBankSwitch (e : Fin 8) : Statement (.grantBankSwitch e) := master_ok _

theorem burstPowerDetect (e : Fin 8) (sc : Fin 16) (power symbols : Nat) : Statement (.burstPowerDetect e sc power symbols) := master_ok _

theorem syncAccept (e : Fin 8) (sc : Fin 16) (sym errors : Nat) : Statement (.syncAccept e sc sym errors) := master_ok _

theorem burstHeader (e : Fin 8) (sc : Fin 16) (header : Option BurstHeader) (power : Nat) : Statement (.burstHeader e sc header power) := master_ok _

theorem syncMiss (e : Fin 8) (sc : Fin 16) (symbols : Nat) : Statement (.syncMiss e sc symbols) := master_ok _

theorem burstPowerRise (e : Fin 8) (sc : Fin 16) (rise span : Nat) (margin : Int) : Statement (.burstPowerRise e sc rise span margin) := master_ok _

theorem crateTickArrival (e : Fin 8) (leaf : Fin 256) (ct : CrateTick) : Statement (.crateTickArrival e leaf ct) := master_ok _

theorem leafLost (e : Fin 8) (leaf : Fin 256) : Statement (.leafLost e leaf) := master_ok _

theorem tideThrUpdate (e : Fin 8) : Statement (.tideThrUpdate e) := master_ok _

theorem mergeKeyDecision (g : Fin 2048) : Statement (.mergeKeyDecision g) := master_ok _

theorem mergeDheldLoad (g : Fin 2048) : Statement (.mergeDheldLoad g) := master_ok _

theorem mergeLateEarly (g : Fin 2048) : Statement (.mergeLateEarly g) := master_ok _

theorem mergeDown (g : Fin 2048) : Statement (.mergeDown g) := master_ok _

theorem mergeWaitExpiry (g : Fin 2048) : Statement (.mergeWaitExpiry g) := master_ok _

theorem mergeAligned (g : Fin 2048) : Statement (.mergeAligned g) := master_ok _

theorem mgRealign (m : Initiator) : Statement (.mgRealign m) := master_ok _

theorem realignNoUsable (g : Fin 2048) : Statement (.realignNoUsable g) := master_ok _

theorem realignAuto (g : Fin 2048) : Statement (.realignAuto g) := master_ok _

theorem holdoffExpiry (g : Fin 2048) : Statement (.holdoffExpiry g) := master_ok _

theorem wtrExpiry (g : Fin 2048) : Statement (.wtrExpiry g) := master_ok _

theorem mgCmdLo (m : Initiator) : Statement (.mgCmdLo m) := master_ok _

theorem mgCmdFs (m : Initiator) : Statement (.mgCmdFs m) := master_ok _

theorem mgCmdMsA (m : Initiator) : Statement (.mgCmdMsA m) := master_ok _

theorem mgCmdMsB (m : Initiator) : Statement (.mgCmdMsB m) := master_ok _

theorem mgCmdClear (m : Initiator) : Statement (.mgCmdClear m) := master_ok _

theorem refLos (r : Fin 9) : Statement (.refLos r) := master_ok _

theorem refFreqWindow (r : Fin 9) (offset : Int) : Statement (.refFreqWindow r offset) := master_ok _

theorem refQualify (r : Fin 9) : Statement (.refQualify r) := master_ok _

theorem dpllLocked (output : Bool) (ticks : Nat) : Statement (.dpllLocked output ticks) := master_ok _

theorem timeDecision (offsets : List (Fin 13 × Int)) (rate : Int) : Statement (.timeDecision offsets rate) := master_ok _

theorem timeLocked : Statement (.timeLocked) := master_ok _

theorem tickInEdge (phase : Int) : Statement (.tickInEdge phase) := master_ok _

theorem ppsEdge (i : Fin 2) (stamp : Stamp) : Statement (.ppsEdge i stamp) := master_ok _

theorem ppsMiss (i : Fin 2) : Statement (.ppsMiss i) := master_ok _

theorem todMessage (bytes : List Byte) : Statement (.todMessage bytes) := master_ok _

theorem todTxSend : Statement (.todTxSend) := master_ok _

theorem ppsOutEdge : Statement (.ppsOutEdge) := master_ok _

theorem asymLearned (e : Fin 8) : Statement (.asymLearned e) := master_ok _

theorem tsLearn (m : Initiator) : Statement (.tsLearn m) := master_ok _

theorem swOfsWrite (m : Initiator) (v : Word) : Statement (.swOfsWrite m v) := master_ok _

theorem swSourceTimeout : Statement (.swSourceTimeout) := master_ok _

theorem invarLearned : Statement (.invarLearned) := master_ok _

theorem invarResetModel (m : Initiator) : Statement (.invarResetModel m) := master_ok _

theorem invTempStale : Statement (.invTempStale) := master_ok _

theorem sopTransient (e : Fin 8) : Statement (.sopTransient e) := master_ok _

theorem capArm (m : Initiator) : Statement (.capArm m) := master_ok _

theorem capDisarm (m : Initiator) : Statement (.capDisarm m) := master_ok _

theorem capTrig (m : Initiator) : Statement (.capTrig m) := master_ok _

theorem capRelease (m : Initiator) : Statement (.capRelease m) := master_ok _

theorem capScheduleTrigger (e : Fin 8) : Statement (.capScheduleTrigger e) := master_ok _

theorem captureClose (e : Fin 8) (samples first : Nat) : Statement (.captureClose e samples first) := master_ok _

theorem surveyStepEnd (e : Fin 8) (r : SurveyResult) : Statement (.surveyStepEnd e r) := master_ok _

theorem mateFrameReceive (f : MateFrame) : Statement (.mateFrameReceive f) := master_ok _

theorem mateLinkUp : Statement (.mateLinkUp) := master_ok _

theorem mateLinkDown : Statement (.mateLinkDown) := master_ok _

theorem bollardLineChange : Statement (.bollardLineChange) := master_ok _

theorem beatSend : Statement (.beatSend) := master_ok _

theorem beatReceive (path : MatePath) (beat : MateBeat) (intact : Bool) : Statement (.beatReceive path beat intact) := master_ok _

theorem beatMiss (path : MatePath) : Statement (.beatMiss path) := master_ok _

theorem matePresEdge : Statement (.matePresEdge) := master_ok _

theorem matePresTimeout : Statement (.matePresTimeout) := master_ok _

theorem mateBootDecision : Statement (.mateBootDecision) := master_ok _

theorem takeover : Statement (.takeover) := master_ok _

theorem actGrantChange (high : Bool) : Statement (.actGrantChange high) := master_ok _

theorem effectiveGrant : Statement (.effectiveGrant) := master_ok _

theorem swGrant (m : Initiator) (v : Word) : Statement (.swGrant m v) := master_ok _

theorem resync (m : Initiator) (v : Word) : Statement (.resync m v) := master_ok _

theorem switchover (m : Initiator) (v : Word) : Statement (.switchover m v) := master_ok _

theorem journalApply (capture : Option MateCapture) : Statement (.journalApply capture) := master_ok _

theorem mateCompare (differ : List (Fin 72 × Bool)) (mateNormal : Bool) : Statement (.mateCompare differ mateNormal) := master_ok _

theorem graceExpiry : Statement (.graceExpiry) := master_ok _

theorem epochApply (complete : Bool) (items : List (EpochItem × Bool)) : Statement (.epochApply complete items) := master_ok _

theorem mooringFrameReceive (port : Fin 4) (f : MooringFrame) : Statement (.mooringFrameReceive port f) := master_ok _

theorem laneRestored (port : Fin 4) (lane : Fin 9) : Statement (.laneRestored port lane) := master_ok _

theorem hrRetireWrite (m : Initiator) (v : Word) : Statement (.hrRetireWrite m v) := master_ok _

theorem rmapAccept (port : Fin 4) : Statement (.rmapAccept port) := master_ok _

theorem domainMis (port : Fin 4) : Statement (.domainMis port) := master_ok _

theorem timingPortSwitch : Statement (.timingPortSwitch) := master_ok _

theorem workerTickSet : Statement (.workerTickSet) := master_ok _

theorem workerTickMismatch : Statement (.workerTickMismatch) := master_ok _

theorem helloSend : Statement (.helloSend) := master_ok _

theorem helloReceive (port : Fin 4) (hello : Hello) : Statement (.helloReceive port hello) := master_ok _

theorem routeExpiry (port : Fin 4) : Statement (.routeExpiry port) := master_ok _

theorem ccPacketReceive (port : Fin 4) (packet : CcPacket) (fcsOk : Bool) : Statement (.ccPacketReceive port packet fcsOk) := master_ok _

theorem hrCcTxdWrite (m : Initiator) (v : Word) : Statement (.hrCcTxdWrite m v) := master_ok _

theorem hrCcRxdRead (m : Initiator) : Statement (.hrCcRxdRead m) := master_ok _

theorem dcStart (m : Initiator) (v : Word) : Statement (.dcStart m v) := master_ok _

theorem dcArmReceive (change : Fin 4096) (commit : Bool) (n : Tick) : Statement (.dcArmReceive change commit n) := master_ok _

theorem dcReplyReceive (member : Fin 16) (change : Fin 4096) (n : Tick) (reply : DomainReply) : Statement (.dcReplyReceive member change n reply) := master_ok _

theorem dcDecide : Statement (.dcDecide) := master_ok _

theorem dcGoReceive (change : Fin 4096) (n : Tick) : Statement (.dcGoReceive change n) := master_ok _

theorem dcAbortReceive (change : Fin 4096) (n : Tick) : Statement (.dcAbortReceive change n) := master_ok _

theorem dcHold : Statement (.dcHold) := master_ok _

theorem dcClose : Statement (.dcClose) := master_ok _

theorem dcRollbackReceive (change : Fin 4096) (n2 : Tick) : Statement (.dcRollbackReceive change n2) := master_ok _

theorem dcRollbackApply : Statement (.dcRollbackApply) := master_ok _

theorem scratchpadAccess (m : Initiator) (b : Burst) : Statement (.scratchpadAccess m b) := master_ok _

theorem anchorageAccess (m : Initiator) (bar2 : Bool) (b : Burst) : Statement (.anchorageAccess m bar2 b) := master_ok _

theorem repairProgram (m : Initiator) (v : Word) : Statement (.repairProgram m v) := master_ok _

theorem repairDone (vfuse verified : Bool) : Statement (.repairDone vfuse verified) := master_ok _

theorem scrubRead (w : ScrubWord) (ecc : Ecc) (overwritten : Bool) : Statement (.scrubRead w ecc overwritten) := master_ok _

theorem marchRegion (page : Fin 2560) (ev : MarchEvent) : Statement (.marchRegion page ev) := master_ok _

theorem borrowTouch (user : Option Initiator) (b : Burst) : Statement (.borrowTouch user b) := master_ok _

theorem marchRetry (page : Fin 2560) : Statement (.marchRetry page) := master_ok _

theorem mmNbWrite (m : Initiator) (size : Bool) (v : Word) : Statement (.mmNbWrite m size v) := master_ok _

theorem defaultTargetAccess (m : Initiator) (b : Burst) : Statement (.defaultTargetAccess m b) := master_ok _

theorem busTimeout (m : Initiator) (write : Bool) (addr : Word) : Statement (.busTimeout m write addr) := master_ok _

theorem bootswap (m : Initiator) (v : Word) : Statement (.bootswap m v) := master_ok _

theorem coreRunWrite (m : Initiator) (v : Word) (midBurst : BitVec 4) : Statement (.coreRunWrite m v midBurst) := master_ok _

theorem coreTimerCompare (c : Fin 4) : Statement (.coreTimerCompare c) := master_ok _

theorem appletStart (m : Initiator) (v : Word) : Statement (.appletStart m v) := master_ok _

theorem appletStop (m : Initiator) (v : Word) : Statement (.appletStop m v) := master_ok _

theorem appletFault (slot : Fin 8) (mcause : Fin 32) (mepc : Word) : Statement (.appletFault slot mcause mepc) := master_ok _

theorem pcieRequest (write : Bool) (address : BitVec 64) (beats : List Beat) (x : Aside) : Statement (.pcieRequest write address beats x) := master_ok _

theorem pcieReset (how : PcieReset) (midBurst : Bool) : Statement (.pcieReset how midBurst) := master_ok _

theorem localBusAccess (write : Bool) (a : BitVec 24) (enables : BitVec 4) (data : Word) (ecc : Ecc) (portB : Option PortB) (x : Aside) : Statement (.localBusAccess write a enables data ecc portB x) := master_ok _

theorem lbPageWrite (v : Word) : Statement (.lbPageWrite v) := master_ok _

theorem localBusTimeout (write : Bool) (a : BitVec 24) : Statement (.localBusTimeout write a) := master_ok _

theorem i2cReadId : Statement (.i2cReadId) := master_ok _

theorem i2cReadMode : Statement (.i2cReadMode) := master_ok _

theorem i2cReadTherm : Statement (.i2cReadTherm) := master_ok _

theorem i2cReadGroups : Statement (.i2cReadGroups) := master_ok _

theorem i2cMbxWrite (bytes : List Byte) (pecOk : Bool) : Statement (.i2cMbxWrite bytes pecOk) := master_ok _

theorem i2cMbxRead : Statement (.i2cMbxRead) := master_ok _

theorem syMbxDataRead (m : Initiator) : Statement (.syMbxDataRead m) := master_ok _

theorem syMbxDataWrite (m : Initiator) (v : Word) : Statement (.syMbxDataWrite m v) := master_ok _

theorem qspiGo (m : Initiator) (v : Word) : Statement (.qspiGo m v) := master_ok _

theorem qspiDone (data : List Byte) : Statement (.qspiDone data) := master_ok _

theorem pmbusAlert (core le : Byte) : Statement (.pmbusAlert core le) := master_ok _

theorem uartTxWrite (m : Initiator) (v : Word) : Statement (.uartTxWrite m v) := master_ok _

theorem uartRxRead (m : Initiator) : Statement (.uartRxRead m) := master_ok _

theorem uartRxByte (b : Byte) : Statement (.uartRxByte b) := master_ok _

theorem debugUnlock (m : Initiator) (v : Word) : Statement (.debugUnlock m v) := master_ok _

theorem imgApply (m : Initiator) (v : Word) (image : Image) : Statement (.imgApply m v image) := master_ok _

theorem applyDone : Statement (.applyDone) := master_ok _

theorem imgCommit (m : Initiator) (v : Word) : Statement (.imgCommit m v) := master_ok _

theorem imageCommitBoundary : Statement (.imageCommitBoundary) := master_ok _

theorem imgAbort (m : Initiator) (v : Word) : Statement (.imgAbort m v) := master_ok _

theorem imgPersist (m : Initiator) (v : Word) (image : Image) : Statement (.imgPersist m v image) := master_ok _

theorem imgRevert (m : Initiator) (v : Word) : Statement (.imgRevert m v) := master_ok _

theorem recordWriteDone (copy0 copy1 : Option CommitRecord) (verified : Bool) : Statement (.recordWriteDone copy0 copy1 verified) := master_ok _

theorem fuseProgram (m : Initiator) (v : Word) : Statement (.fuseProgram m v) := master_ok _

theorem fuseDone (how : FuseEnd) : Statement (.fuseDone how) := master_ok _

theorem blockReset (m : Initiator) (v : Word) : Statement (.blockReset m v) := master_ok _

theorem blockResetRelease : Statement (.blockResetRelease) := master_ok _

theorem sensorFail : Statement (.sensorFail) := master_ok _

theorem thermalShutdown : Statement (.thermalShutdown) := master_ok _

theorem thermalResetRelease (straps : Straps) (xo : Option (Fin 5)) : Statement (.thermalResetRelease straps xo) := master_ok _

theorem bistGo (m : Initiator) (v : Word) : Statement (.bistGo m v) := master_ok _

theorem bistAbort (m : Initiator) (v : Word) : Statement (.bistAbort m v) := master_ok _

theorem bistDone (fail : Option (Fin 4096 × Fin 1024)) : Statement (.bistDone fail) := master_ok _

theorem logRecordWrite : Statement (.logRecordWrite) := master_ok _

theorem logSummaryWrite : Statement (.logSummaryWrite) := master_ok _

theorem evLogRdWrite (m : Initiator) (v : Word) : Statement (.evLogRdWrite m v) := master_ok _

theorem pcEvselWrite (m : Initiator) (i : Fin 64) (v : Word) : Statement (.pcEvselWrite m i v) := master_ok _

theorem pcOverflow (i : Fin 64) (n : Nat) : Statement (.pcOverflow i n) := master_ok _

theorem dumpRingDue : Statement (.dumpRingDue) := master_ok _

theorem dumpEntryWritten (r : Fin 4) : Statement (.dumpEntryWritten r) := master_ok _

theorem dumpStop (m : Initiator) (midBurst : Bool) : Statement (.dumpStop m midBurst) := master_ok _

theorem dumpRingEnable (m : Initiator) (r : Fin 4) (v : Word) : Statement (.dumpRingEnable m r v) := master_ok _

theorem pmOfsWrite (m : Initiator) (v : Word) : Statement (.pmOfsWrite m v) := master_ok _

theorem syTicknoLoRead (m : Initiator) : Statement (.syTicknoLoRead m) := master_ok _

theorem trBipLoRead (m : Initiator) : Statement (.trBipLoRead m) := master_ok _

theorem lnErrLoRead (m : Initiator) : Statement (.lnErrLoRead m) := master_ok _

theorem lnBitsLoRead (m : Initiator) : Statement (.lnBitsLoRead m) := master_ok _

theorem qyCntLoRead (m : Initiator) : Statement (.qyCntLoRead m) := master_ok _

theorem lfFnoLoRead (m : Initiator) : Statement (.lfFnoLoRead m) := master_ok _

theorem lfPmLoRead (m : Initiator) : Statement (.lfPmLoRead m) := master_ok _

theorem fpCntLoRead (m : Initiator) : Statement (.fpCntLoRead m) := master_ok _

theorem tdCntLoRead (m : Initiator) : Statement (.tdCntLoRead m) := master_ok _

theorem mgCntLoRead (m : Initiator) : Statement (.mgCntLoRead m) := master_ok _

theorem mtCntLoRead (m : Initiator) : Statement (.mtCntLoRead m) := master_ok _

theorem hrCntLoRead (m : Initiator) : Statement (.hrCntLoRead m) := master_ok _

theorem gridSwapDoneLoRead (m : Initiator) : Statement (.gridSwapDoneLoRead m) := master_ok _

theorem mmEccAddrLoRead (m : Initiator) : Statement (.mmEccAddrLoRead m) := master_ok _

theorem tmTb0Read (m : Initiator) : Statement (.tmTb0Read m) := master_ok _

theorem pcCntLoRead (m : Initiator) (i : Fin 65) : Statement (.pcCntLoRead m i) := master_ok _

theorem registerWrite (m : Initiator) (addr : Word) (v : Word) (x : Aside) : Statement (.registerWrite m addr v x) := master_ok _

theorem unrecoverableImageFault : Statement (.unrecoverableImageFault) := master_ok _

theorem pcieLinkUp : Statement (.pcieLinkUp) := master_ok _

theorem pcieConfigurationRequest (r : ConfigRequest) : Statement (.pcieConfigurationRequest r) := master_ok _

theorem jtagAccess (op : JtagOp) (x : Aside) : Statement (.jtagAccess op x) := master_ok _

theorem workingSramAccess (m : Initiator) (b : Burst) : Statement (.workingSramAccess m b) := master_ok _

end Sys2Proof.Laws.WellFormedOf
end

