-- ==== Sys2Proof/Tests/Slice0.lean ====
section
/-! SUPPORT. Small tests: an ill-formed command for each check of WellFormed, and for each statement a state and operands that meet
its hypotheses, with what the command does there. -/

open Sys2Proof Sys2Proof.Machine

namespace Sys2Proof.Tests

set_option Elab.async false

/-- The state after reset with fields of registers set, both as written and as the datapath acts on them. -/
def st (rs : List (Field × Nat × Nat)) : State :=
  let s := rs.foldl (fun s x => s.wr x.1 x.2.1 x.2.2) State.reset
  { s with act := s.regs }

/-- The state after a command (the same state where it stops). -/
def run (i : Instr) (s : State) : State := match exec i s with | .next t => t | _ => s

/-- A master in user mode that is no Pilot core, bursts without beats and across a 256-byte span, a second of 10^9 ns, overhead and
encryption areas out of range are ill-formed. -/
theorem test_wf_bus : Instr.wf (.prepare ⟨0, true⟩) = false ∧ Instr.wf (.prepare ⟨2, true⟩) = true ∧
    Instr.wf (.scratchpadAccess ⟨0, false⟩ ⟨false, 0x12000000, [], false⟩) = false ∧
    Instr.wf (.scratchpadAccess ⟨0, false⟩ ⟨false, 0x120000F0, [{}, {}], false⟩) = false ∧
    Instr.wf (.borrowTouch (some ⟨7, true⟩) ⟨false, 0x11000000, [{}], false⟩) = false ∧
    Instr.wf (.pcieRequest false 0 [] {}) = false ∧ Instr.wf (.srstnAssert [1, 1]) = false ∧
    Instr.wf (.ppsEdge 0 ⟨0, 1000000000, 0⟩) = false ∧ Instr.wf (.ppsEdge 0 ⟨0, 999999999, 0⟩) = true := by decide

/-- Operands of the line side, Tide and measurement out of range are ill-formed. -/
theorem test_wf_line : Overhead.ok { bei := 256 } = false ∧ EncArea.ok { kst := [(1280, 0)] } = false ∧
    Codeword.ok ⟨8, 0, none, 0, none, 0, false⟩ = false ∧ BurstHeader.ok ⟨256, 0, 0, 0, 0, false⟩ = false ∧
    CrateTick.ok ⟨0, false, List.replicate 81 ({}, false)⟩ = false ∧ StowResult.ok ⟨[23040], false, false, 0, []⟩ = false ∧
    SurveyResult.ok ⟨true, false, false, 0, 0, [], 0, []⟩ = false ∧ Instr.wf (.patSyncLoss 0 257) = false ∧
    Instr.wf (.tickBoundary [.laneBits 0 1 2]) = false := by decide +kernel

/-- Images, flash, DIMMs, mate and hierarchy operands out of range are ill-formed. -/
theorem test_wf_system : Image.ok { mode := 8 } = false ∧ CommitRecord.ok ⟨0, 2, 0, 0⟩ = false ∧
    BootFlash.ok { copy1 := some ⟨0, 2, 0, 0⟩ } = false ∧ Dimms.ok { sizes := List.replicate 9 32 } = false ∧
    MateFrame.ok { marker := none, stores := [(23040, 0)] } = false ∧ MateBeat.ok { state := 7 } = false ∧
    MateCapture.ok { keys := [⟨32768, none, none, 0, none⟩] } = false ∧ MooringFrame.ok { sender := 16 } = false ∧
    CcPacket.ok ⟨0, 16, 0, 0, 0, []⟩ = false ∧ Hello.ok ⟨0, 0, 0, 0, false, []⟩ = false ∧
    EpochItem.ok (.store 23040 0 0) = false ∧ ScrubWord.ok (.word (2 ^ 32)) = false ∧
    JtagOp.ok (.bus 0 ⟨true, 0, [], false⟩) = false := by decide

def store1 : State := (st [(F.LF_STAT_SSF, 0, 0)]).setStore 10240 { inUse := true, st := .norm, active := 1007, normRun := 3, out := 5 }

/-- Witness of PointerWordIsInterpreted: an increment at the end of the range. -/
theorem test_pointerWord :
    (store1.store 10240).inUse = true ∧ classifyWord (store1.store 10240) 0x6945 = .incInd ∧ store1.portFailed 10240 = false ∧
      ((run (.berthPointerWord ⟨10240, by decide⟩ 0x6945 1 2 0 0) store1).store 10240).active = 0 ∧
      (run (.berthPointerWord ⟨10240, by decide⟩ 0x6945 1 2 0 0) store1).rd F.BP_JCNT_IN_INC 10240 = 1 ∧
      (run (.berthPointerWord ⟨10240, by decide⟩ 0x6945 1 2 0 0) store1).rd F.BP_ECNT_BBIP 10240 = 2 ∧
      store1.tidePort 10240 = false ∧ (store1.store 20480).inUse = false := by decide

/-- Witness of InterpreterMovesAfterFullRunsOnly in each of the three states. -/
theorem test_interpreterRuns :
    ([PtrState.norm, .ais, .lop].all fun x =>
      let z : Store := { st := x, active := 1007 }
      z.active < 1008 && z.normRun == 0 && z.newRun == 0 && z.aisRun == 0 && z.invRun == 0 && z.ndfRun == 0 &&
      ((List.replicate 3 (PtrEvent.newPoint 0)).foldl interpret z).st == .norm &&
      ((List.replicate 2 (PtrEvent.newPoint 0)).foldl interpret z).st == x &&
      ((List.replicate 3 PtrEvent.aisInd).foldl interpret z).st == .ais &&
      (x == .lop || ((List.replicate 8 PtrEvent.invPoint).foldl interpret z).st == .lop) &&
      (x != .norm || ((List.replicate 7 PtrEvent.invPoint).foldl interpret z).st == .norm) &&
      (x != .norm || ((List.replicate 8 (PtrEvent.ndfEnable 9)).foldl interpret z).st == .lop)) = true := by decide

/-- R72, R73: 2,401 nibbles in a train of 3, and the positions of a crate at its corners. -/
theorem test_fill : (List.range 3).map (fillCount 2401 3) = [801, 800, 800] ∧ carriesClient 1000 999 = true ∧ carriesClient 0 999 = false ∧
    carriesClient 1 999 = true ∧ carriesClient 1 998 = false := by decide

/-- Witness of TrainDefectsFollowTheirRuns, and of a monitor in AIS. -/
theorem test_trainDefects :
    State.reset.on F.TR_STAT_AIS 7 = false ∧ State.reset.memberLost 7 = false ∧
      (run (.trainSeqLoss 7 (.seqlWrong 3)) State.reset).on F.TR_STAT_SEQ_LOSS 7 = true ∧
      (run (.trainSeqLoss 7 (.goodBlock 77)) State.reset).on F.TR_STAT_SEQ_LOSS 7 = false ∧
      (run (.trainMis 7 false 2) State.reset).on F.TR_STAT_MIS 7 = true ∧
      (run (.trainMis 7 true 2) State.reset).on F.TR_STAT_MIS 7 = false ∧
      (run (.trainSkew 7 505 3) State.reset).on F.TR_STAT_SKEW 7 = true ∧
      (run (.trainSkew 7 504 3) State.reset).on F.TR_STAT_SKEW 7 = false ∧
      (run (.trainAis 7 true 2) State.reset).on F.TR_STAT_AIS 7 = true ∧
      (run (.trainRdi 7 true 3) State.reset).on F.TR_STAT_RDI 7 = true ∧
      (run (.trainCsf 7 true 1 0) State.reset).on F.TR_STAT_CSF 7 = true ∧
      (run (.trainCsf 7 false 1 16) (run (.trainCsf 7 true 1 0) State.reset)).on F.TR_STAT_CSF 7 = false ∧
      (run (.trainAis 7 true 2) State.reset).on F.TR_STAT_AIS 7 = true ∧ State.reset.on F.TR_STICKY_BIP 7 = false := by decide

/-- Witness of GridCommandsAreTaken: no mate pair, an unlocked bank, the registers free or held, no swap or one that is armed. -/
theorem test_gridCommands :
    State.reset.standby = false ∧ State.reset.active = false ∧ State.reset.swap.locked = false ∧ State.reset.liveBank ≤ 1 ∧
      State.reset.swap.holder = .nobody ∧ State.reset.swapPending = false ∧
      (State.reset.rd F.SY_LOOP_STAT_FROZEN 0).testBit 7 = false ∧
      (run (.manifestShadowWrite ⟨0, false⟩ 23039 0x12345678) State.reset).manifest 1 23039 = 0x12345678 ∧
      (run (.manifestShadowWrite ⟨0, false⟩ 23039 0x12345678) State.reset).manifest 0 23039 = 0x88000000 ∧
      (run (.repack ⟨0, false⟩) State.reset).rd F.GRID_STOW_STAT_REPACK_BUSY 0 = 1 ∧
      (st [(F.GRID_SWAP_STAT_ARMED, 0, 1)]).swapPending = true ∧ (st [(F.GRID_SWAP_STAT_ARMED, 0, 1)]).standby = false ∧
      (st [(F.GRID_SWAP_STAT_ARMED, 0, 1)]).active = false ∧
      (run (.repack ⟨0, false⟩) (st [(F.GRID_SWAP_STAT_ARMED, 0, 1)])).rd F.GRID_STOW_STAT_REPACK_REJ 0 = 1 ∧
      (run (.prepare ⟨0, false⟩) { State.reset with swap := { holder := .image } }).rd F.GRID_SWAP_STAT_RESULT 0 = 7 := by decide

/-- Witness of LockedShadowBankRefusesWrites. -/
theorem test_lockedBank :
    (run (.manifestShadowWrite ⟨3, true⟩ 0 5) { State.reset with swap := { locked := true } }).answer 7 = .error .target ∧
      (run (.manifestShadowWrite ⟨3, true⟩ 0 5) { State.reset with swap := { locked := true } }).on F.GRID_STICKY_LOCKED_WR 0 = true :=
  by decide

def plan0 : StowResult := { unplaced := [], moves := false, fellBack := true, writes := 3, plan := [] }

/-- Witness of SwapRunsToItsEnd, stage by stage. -/
theorem test_swapStages :
    (st [(F.GRID_SWAP_STAT_STATE, 0, SwapState.place.code)]).swapState = .place ∧
      ((st [(F.GRID_SWAP_STAT_STATE, 0, SwapState.place.code)]).rd F.SY_LOOP_STAT_FROZEN 0).testBit 7 = false ∧
      (run (.stowageComplete plan0) (st [(F.GRID_SWAP_STAT_STATE, 0, SwapState.place.code)])).swapState = .ready ∧
      (let s := { st [(F.GRID_SWAP_STAT_ARMED, 0, 1)] with swap := { due := 1, pending := some plan0 } }
       s.swap.due = s.tick + 1 ∧ s.swap.staging = false ∧ (run .swapSwitch s).liveBank = 1) ∧
      (let s := { st [(F.GRID_SWAP_STAT_ARMED, 0, 1)] with swap := { due := 1 } }
       (run .swapSwitch s).liveBank = 0 ∧ (run .swapSwitch s).on F.GRID_STICKY_SWAP_MISSED 0 = true) ∧
      (let s := { st [(F.GRID_SWAP_STAT_STATE, 0, SwapState.copy.code)] with now := 7, swap := { switchedAt := some 5, locked := true } }
       s.swapState = .copy ∧ (run .swapStagingEnd s).swapState = .idle ∧ (run .swapStagingEnd s).swap.locked = false) ∧
      (let s := { State.reset with swap := { repackDone := some plan0, repacking := true } }
       s.swapPending = false ∧ (run .repackSwitch s).on F.GRID_STICKY_REPACK_DONE 0 = true) := by decide

/-- Witness of FillLimitReplacementEnds, at 16 boundaries and one before. -/
theorem test_fillLimit :
    (let s := { State.reset.setTrain 4095 { replacing := some 4 } with now := 20, tick := 32 }
     (s.train 4095).replacing = some 4 ∧ ((run (.fillLimitEnd 4095) s).train 4095).replacing = none) ∧
      (let s := { State.reset.setTrain 4095 { replacing := some 4 } with now := 19, tick := 32 }
       run (.fillLimitEnd 4095) s = s) := by decide

def lst (l : LaneState) (more : List (Field × Nat × Nat)) : State := st ((F.LN_STAT_STATE, 127, l.code) :: more)

/-- Witness of SignalEventsMoveTheLane, state by state. -/
theorem test_laneSignal :
    ((lst .data []).laneState 127 = .data ∧ (lst .data []).ignoresLos 127 = false ∧
      (run (.laneLos 127 32) (lst .data [])).laneState 127 = .los ∧ (run (.laneLos 127 31) (lst .data [])).laneState 127 = .data ∧
      (run (.laneLos 127 32) (lst .data [])).on F.LN_STICKY_LOS 127 = true) ∧
    ((lst .los []).laneState 127 = .los ∧ (run (.laneSigOk 127 3125) (lst .los [])).laneState 127 = .acquire ∧
      (run (.laneSigOk 127 3125) (lst .los [(F.LN_CFG_TRAIN_EN, 127, 1), (F.LN_CFG_RATE, 127, 17)])).laneState 127 = .train) ∧
    ((lst .acquire []).laneState 127 = .acquire ∧ (run (.laneAcquired 127 64) (lst .acquire [])).laneState 127 = .data ∧
      (run (.laneAcquired 127 64) (lst .acquire [])).on F.LN_STAT_CDR_LOCK 127 = true) ∧
    (({ lst .acquire [] with now := 31250 }).elapsed (({ lst .acquire [] with now := 31250 }).lane 127).since 31250 = true ∧
      (run (.laneAcquireTimeout 127) { lst .acquire [] with now := 31250 }).on F.LN_STICKY_LOL 127 = true) ∧
    ((lst .preset []).laneReceives 127 = true ∧ (run (.laneCdrLoss 127) (lst .preset [])).laneState 127 = .acquire) := by decide

/-- Witness of EqualizersStayInRange: free loops at the largest word, frozen loops, and a reset. -/
theorem test_laneEq :
    (let s := lst .data []
     s.laneAdapts 127 = true ∧ s.eqFrozen 127 = false ∧ s.slicerFrozen 127 = false ∧
       ((run (.laneAdapt 127 { eq := 0xFFFFFFFF }) s).lane 127).rx.eq = 0x4D1828) ∧
    (let s := lst .data [(F.LN_EQ_CTRL_EQ_FRZ, 127, 1), (F.LN_EQ_CTRL_SLC_FRZ, 127, 1)]
     s.laneAdapts 127 = true ∧ s.eqFrozen 127 = true ∧ s.slicerFrozen 127 = true ∧
       ((run (.laneAdapt 127 { eq := 0xFFFFFFFF }) s).lane 127).rx = (s.lane 127).rx) ∧
    (let s := lst .data []
     s.laneReceives 127 = true ∧ (run (.laneEqReset 127 64) s).rd F.LN_STAT_EQ_RESETS 127 = 1) := by decide

/-- Witness of TrainingRunsItsAttempts: done, first and eighth attempt, a retry, a fault. -/
theorem test_training :
    (let s := { lst .train [] with now := 156250 }
     s.laneState 127 = .train ∧ s.elapsed (s.lane 127).attemptAt 156250 = true ∧ (s.lane 127).retry = false ∧
       s.rd F.LN_TRAIN_STAT_ATTEMPTS 127 < 7 ∧ (run (.trainDone 127 1 2 true) s).on F.LN_CTRL_TX_PRECODE 127 = false ∧
       (run (.trainDone 127 1 2 true) (lst .train [(F.LN_CFG_ENC, 127, 1)])).on F.LN_CTRL_TX_PRECODE 127 = true ∧
       (run (.trainAttemptEnd 127 false) s).rd F.LN_TRAIN_STAT_ATTEMPTS 127 = 1 ∧
       (run (.trainAttemptEnd 127 false) s).rd F.LN_TRAIN_STAT_LAST 127 = 2) ∧
    (let s := { lst .train [(F.LN_TRAIN_STAT_ATTEMPTS, 127, 7)] with now := 156250 }
     s.rd F.LN_TRAIN_STAT_ATTEMPTS 127 = 7 ∧ (run (.trainAttemptEnd 127 false) s).laneState 127 = .preset ∧
       (run (.trainAttemptEnd 127 false) s).on F.LN_TRAIN_STAT_BACKOFF 127 = true) ∧
    (let s := { lst .preset [(F.LN_TRAIN_STAT_BACKOFF, 127, 1), (F.LN_TRAIN_STAT_W_S, 127, 1)] with now := 312500 }
     s.retryDue 127 = true ∧ (run (.backoffRetry 127) s).laneState 127 = .train) ∧
    ((lst .data []).laneState 127 ≠ .off ∧ ((run (.txFault 127) (lst .data [])).lane 127).faultHold = true) := by decide

/-- Witness of LaneControlsAreTaken: lane 127 selected by master 5 in user mode. -/
theorem test_laneControls :
    let m : Initiator := ⟨5, true⟩
    let s := lst .data [(F.LN_CHSEL_LANE, 11, 127), (F.LN_CFG_TRAIN_EN, 127, 1)]
    (s.standby = false ∧ s.active = false) ∧ s.laneSel m = 127 ∧ s.on F.LN_CFG_TRAIN_EN 127 = true ∧ s.laneState 127 = .data ∧
      (run (.trainingRestart m) s).atBoundary = [.laneTrain 127] ∧
      (run (.backoffDisWrite m true) s).on F.LN_TRAIN_CTRL_BACKOFF_DIS 127 = true ∧
      (run (.loopbackSet m 3 true) s).rd F.LN_LOOP_MODE 127 = 3 ∧ (run (.injectBurst m 255) s).atBoundary = [.inject 127 256] := by decide

/-- Witness of PatternCheckerSyncs, at the runs that decide. -/
theorem test_patterns :
    let s := { lst .data [(F.LN_PAT_CHK_EN, 127, 1)] with now := 1 }
    s.checking 127 = true ∧ s.on F.LN_STAT_PAT_LOCK 127 = false ∧ (run (.patSync 127 256 true) s).on F.LN_STAT_PAT_INV 127 = true ∧
      (run (.patSync 127 256 true) s).on F.LN_STAT_PAT_LOCK 127 = true ∧
      (run (.patSyncLoss 127 32) (run (.patSync 127 256 true) s)).on F.LN_STAT_PAT_LOCK 127 = false ∧
      (run (.patSyncLoss 127 31) (run (.patSync 127 256 true) s)).on F.LN_STAT_PAT_LOCK 127 = true := by decide

def qst (more : List (Field × Nat × Nat)) : State := st ((F.QY_CFG_C0_TYPE, 0, 4) :: more)

/-- Witness of ClientSignalFailComesAndGoes: an Ethernet client whose lane is off fails and comes back in DATA; an ODU of a TERM client. -/
theorem test_clientFail :
    (let s := qst []
     s.clientExists 0 0 = true ∧ s.condHolds 0 0 .laneDown = true ∧ (s.client (clientNo 0 0)).fail = false ∧
       ((run (.clientSignalFail 0 0 .laneDown) s).client 0).fail = true ∧
       (run (.clientSignalFail 0 0 .laneDown) s).on F.QY_STAT_CSF_TX 0 = true) ∧
    (let s := (qst [(F.LN_STAT_STATE, 0, LaneState.data.code)]).modClient 0 0 fun x => { x with fail := true }
     s.clientExists 0 0 = true ∧ (s.client (clientNo 0 0)).fail = true ∧ s.clientLaneDown 0 0 = false ∧
       ((run (.clientSignalFailClear 0 0 none 3125) s).client 0).fail = false ∧
       ((run (.clientSignalFailClear 0 0 none 3124) s).client 0).fail = true) ∧
    (let s := { st [(F.QY_CFG_C0_TYPE, 0, 10), (F.QY_CFG_C0_MAP, 0, 3)] with
                image := { trainMap := [⟨9, 1, 0, 0, 0, 0, 0, 0, 0, []⟩] } }
     s.clientExists 0 0 = true ∧ s.condHolds 0 0 (.odu 9) = true ∧
       ((run (.clientSignalFail 0 0 (.odu 9)) s).client 0).oduFail = [9]) := by decide

/-- Witness of IdleClientFramesFillTheFifo: below, at and above the limits of the FIFO. -/
theorem test_idleFrames :
    let s := qst [(F.QY_CFG_C0_MAP, 0, 2)]
    let at' (n : Nat) : State := s.modClient 0 0 fun x => { x with fill := n }
    s.clientExists 0 0 = true ∧ s.clientMap 0 0 = 2 ∧ s.clientReplaces 0 0 = false ∧
      ((run (.clientFrameIngress 0 0 9) (at' 6144)).client 0).fill = 6153 ∧
      ((run (.clientFrameIngress 0 0 9) (at' 6145)).client 0).fill = 6145 ∧
      ((run (.clientFrameIngress 0 0 9000) (at' 6144)).client 0).fill = 8192 := by decide

/-- A Sync message over Ethernet, with its frame check sequence left at 0. -/
def syncFrame : List Byte := List.replicate 12 0 ++ [0x88, 0xF7, 0x00, 0x02] ++ List.replicate 48 0

set_option maxRecDepth 4000 in
/-- Witness of PtpMessagesPassTheTimestampUnit: recognized in mode 1 and in mode 2, and a frame that waits. -/
theorem test_ptp :
    (let s := qst [(F.QY_TS_CTRL_L2, 0, 1), (F.QY_TS_CTRL_MODE, 0, 1)]
     s.clientExists 0 0 = true ∧ isEthernet (s.clientType 0 0) = true ∧ s.recognize 0 0 syncFrame = some ⟨14, none, false⟩ ∧
       isEvent syncFrame ⟨14, none, false⟩ = true ∧ s.cfg (slotField F.QY_TS_CTRL_MODE 0) 0 = 1) ∧
    (let s := qst [(F.QY_TS_CTRL_L2, 0, 1), (F.QY_TS_CTRL_MODE, 0, 2)]
     (run (.ptpEventMessage 0 0 false syncFrame ⟨1, 2, 3⟩) s).ctr ⟨.quay, 7, 0⟩ = 1 ∧
       (((s.setPacketsOf 0 { waiting := [⟨0, false, false, 60, List.replicate 15 0⟩] }).packetsOf 0).waiting.length = 1)) := by decide

/-- Witness of PacketInterfaceWordsMove: the shortest frame's descriptor, its last word, a word and a timestamp to read. -/
theorem test_packets :
    let m : Initiator := ⟨0, false⟩
    let s := State.reset
    let f : InsFrame := ⟨0, false, false, 60, List.replicate 14 0⟩
    (s.standby = false ∧ s.active = false) ∧ s.quaySel m = 0 ∧ (s.packetsOf 0).writing = none ∧
      insUsed (s.packetsOf 0) + 4 + 4 * wordsOf 60 ≤ 4096 ∧
      ((run (.qyIdataWrite m 60) s).packetsOf 0).writing = some (⟨0, false, false, 60, []⟩, false) ∧ wordsOf f.len = f.words.length + 1 ∧
      ((run (.qyIdataWrite m 7) (s.setPacketsOf 0 { writing := some (f, false) })).packetsOf 0).waiting.length = 1 ∧
      (run (.qyXdataRead m) (s.setPacketsOf 0 { extracted := [[5, 6]] })).answer 0 = .ok 5 ∧
      (run (.qyTsf0Read m) s).answer 0 = .ok 0 ∧
      (run (.qyTsf0Read m) (s.setPacketsOf 0 { stamps := [⟨1, 2, 3, ⟨4, 5, 6⟩⟩] })).answer 0 = .ok 0xC8000003 := by decide

def lineSt (more : List (Field × Nat × Nat)) : State := st ([(F.LE_STAT_PSTATE, 0, 2), (F.LE_STAT_RX_STATE, 0, 5), (F.LF_CFG_NCW, 0, 27)] ++ more)

def withFrame (s : State) (x : LineFrame) : State := s.setLineFrame 0 x

/-- Witness of FrameAlignmentFollowsItsRuns, run by run. -/
theorem test_alignment :
    (let s := withFrame (lineSt []) { inFrame := true, held := true, fasBad := 5 }
     s.unitExists 0 = true ∧ s.native 0 = true ∧ (s.lineFrame 0).inFrame = true ∧ (run (.oof 0) s).on F.LF_STICKY_OOF 0 = true ∧
       (run (.oof 0) s).on F.LF_STAT_OOF 0 = true) ∧
    (let s := withFrame (lineSt [(F.LF_STAT_LOF, 0, 0)]) { oofTicks := 938 }
     s.on F.LF_STAT_LOF 0 = false ∧ (run (.lof 0) s).on F.LF_STAT_LOF 0 = true) ∧
    (let s := withFrame (lineSt [(F.LF_STAT_LOF, 0, 1)]) { ifTicks := 938 }
     s.on F.LF_STAT_LOF 0 = true ∧ (run (.lof 0) s).on F.LF_STAT_LOF 0 = false) ∧
    (let s := withFrame (lineSt [(F.LF_STAT_LOM, 0, 1)]) { pairOk := true, last := some (6, true), badRun := 3 }
     (run (.lom 0) s).on F.LF_STAT_LOM 0 = false ∧ ((run (.lom 0) s).lineFrame 0).badRun = 0) ∧
    (let s := withFrame (lineSt [(F.LF_CFG_FMT, 0, 1), (F.LF_STAT_LOM, 0, 1)]) { inFrame := true }
     let u := withFrame (lineSt [(F.LF_CFG_FMT, 0, 1), (F.LF_STAT_LOM, 0, 0)]) { inFrame := true }
     s.interop 0 = true ∧ (run (.lom 0) s).on F.LF_STAT_LOM 0 = false ∧ u.interop 0 = true ∧
       (run (.lom 0) u).on F.LF_STAT_LOM 0 = true ∧ (run (.lom 0) u).on F.LF_STICKY_LOM 0 = true) ∧
    (let s := withFrame (lineSt [(F.LF_STAT_LOM, 0, 0)]) { badRun := 5 }
     s.interop 0 = false ∧ s.on F.LF_STAT_LOM 0 = false ∧ (run (.lom 0) s).on F.LF_STICKY_LOM 0 = true) ∧
    (let s := withFrame (lineSt [(F.LF_STAT_LOM, 0, 0)]) { pairOff := true, last := some (6, true) }
     s.lineGroup 0 = none ∧ ((run (.fnoJump 0) s).lineFrame 0).expect = 7) ∧
    (let s := withFrame (lineSt []) { confirmed := [77] }
     s.engineOn 0 = true ∧ s.interop 0 = false ∧ s.searches 0 = true ∧ ((run (.inFrame 0 77) s).lineFrame 0).inFrame = true ∧
       (run (.inFrame 0 77) s).on F.LF_STAT_LOM 0 = true) := by decide

/-- Witness of AbsentReceiveUnitsIgnoreEvents: engines 4 to 7 of the half device, and a subcarrier with no HUB mode. -/
theorem test_absentUnit : (st [(F.SY_ID_VARIANT, 0, 3)]).unitExists 7 = false ∧ State.reset.unitExists 16 = false ∧
    State.reset.unitExists 143 = false := by decide

/-- Witness of OverheadIsAcceptedAfterItsRuns. -/
theorem test_overhead :
    (let s := withFrame (lineSt []) { inFrame := true, held := true, expect := 9 }
     s.unitExists 0 = true ∧ s.engineOn 0 = true ∧ s.native 0 = true ∧ s.rd F.LE_STAT_RX_STATE 0 = 5 ∧ s.lineGroup 0 = none ∧
       ((run (.frameDelivered 0 {} 3 [] {}) s).lineFrame 0).expect = 10 ∧
       (run (.frameDelivered 0 {} 3 [] {}) s).ctr ⟨.lf, 9, 0⟩ = 3) ∧
    (let s := withFrame (lineSt []) { bdi := ⟨1, 3⟩, fmtBad := 3, midBad := 16, laps := ⟨5, 3⟩, ttRun := 3 }
     (run (.bdiRx 0) s).on F.LF_STAT_BDI_RX 0 = true ∧ (run (.fmtMis 0) s).on F.LF_STAT_FMT_MIS 0 = true ∧
       ((run (.lapsAccept 0) s).lineFrame 0).lapsAcc = 5) ∧
    (let s := withFrame (lineSt [(F.LF_MID_EXP_MID, 0, 8), (F.LF_STAT_SSF, 0, 0)]) { midBad := 16 }
     s.cfg F.LF_MID_EXP_MID 0 ≠ 0 ∧ s.sectionSsf 0 = false ∧ (run (.midMis 0) s).on F.LF_STAT_MID_MIS 0 = true) ∧
    (let s := (lineSt []).setTapsRun 7 ⟨9, 3⟩
     s.groupDefined 7 = false ∧ (run (.tapsAccept 0 7) s).tapsAcc 7 = 9) ∧
    (let s := { lineSt [] with tick := 384 }
     s.tick.toNat % 256 = 128 ∧ ((run (.ttLoad 0 ⟨1, 2, 3⟩ none) s).lineFrame 0).ttTx.seq = 1) := by decide

/-- Witness of GccFramesPassTheBuffers: an engine in frame, a good frame, one aborted, a last word, a read. -/
theorem test_gcc :
    (let s := lineSt [(F.LF_STAT_SSF, 0, 0)]
     s.sectionSsf (s.gccUnit 0) = false ∧ s.unitExists (s.gccUnit 0) = true ∧ s.gccExists 0 1 = true ∧
       ((run (.gccFrameReceive 0 1 [1, 2, 3, 4, 5] .good) s).gcc 1).rx = [[5, 0x01020304, 0x05000000]]) ∧
    (let s := (lineSt []).setGcc 1 { writing := some ⟨4, [], false⟩, rx := [[7]] }
     let m : Initiator := ⟨0, false⟩
     (s.standby = false ∧ s.active = false) ∧ s.engineExists 0 = true ∧ s.engineSel m = 0 ∧
       ((run (.lfGccTxdWrite m 1 0x01020304) s).gcc 1).tx = [[1, 2, 3, 4]] ∧ (run (.lfGccRxdRead m 1) s).answer 0 = .ok 7 ∧
       ((run (.lfGccRxdRead m 1) s).gcc 1).rx = []) := by decide

/-- Witness of SecondsEndOnce: at a multiple of 312,500 and one tick later. -/
theorem test_second :
    (let s := { State.reset with tick := 312500, now := 9 }
     s.tick.toNat % 312500 = 0 ∧ s.secondAt ≠ some s.now ∧ (run .secondEnd s).secondAt = some 9 ∧
       (run .secondEnd (run .secondEnd s)) = run .secondEnd s) ∧
    (let s := { State.reset with tick := 312501 }
     s.tick.toNat % 312500 ≠ 0 ∧ run .secondEnd s = s) := by decide

def encSt (more : List (Field × Nat × Nat)) : State :=
  { st ([(F.SEC_CTX_CFG_VALID, 0, 1), (F.LF_CFG_NCW, 0, 27)] ++ more) with
    image := { contexts := [{ engine := 0, dir := 0, ctx := 0, cfg := 0x10000 }] } }

/-- Witness of KeyCommandsActOnTheSelectedContext: context 0 of engine 0, transmit, by master 0. -/
theorem test_keys :
    let m : Initiator := ⟨0, false⟩
    (let s := encSt [(F.SEC_DK_STAT_DK_VALID, 0, 1)]
     m.isUser = false ∧ (s.standby = false ∧ s.active = false) ∧ s.contextExists m = true ∧ s.ctxDefined (s.contextSel m) = true ∧
       s.keyJob m.copy = none ∧ (run (.keyLoad m 1) s).rd F.SEC_KRES_BUSY 0 = 1 ∧
       s.on F.SEC_DK_STAT_DK_VALID 0 = true ∧
       (((run (.keyUnwrapDone m true) (run (.keyLoad m 1) s)).encCtx 0).key 1).isSome = true ∧
       (run (.keyUnwrapDone m true) (run (.keyLoad m 1) s)).rd F.SEC_KRES_RESULT 0 = 1) ∧
    (let s := (encSt [(F.SEC_KAT_LO_AT_LO, 0, 128)]).setKey 0 1 (some [])
     ctxReceives (s.contextSel m) = false ∧ s.leadMet 128 66 = true ∧
       tickOf (s.rd F.SEC_KAT_LO_AT_LO m.copy) (s.rd F.SEC_KAT_HI_AT_HI m.copy) = 128 ∧
       ((run (.keyChange m 3) s).encCtx 0).change = some (3, 128) ∧ (run (.keyChange m 3) s).rd F.SEC_KRES_RESULT 0 = 1) ∧
    (let s := (encSt []).setKey 0 1 (some [])
     s.phaseInUse 0 1 = false ∧ ((run (.zeroize m 1) s).encCtx 0).key1 = none ∧
       (encSt [(F.SEC_CTX_STAT_STATE, 0, 3)]).phaseInUse 0 1 = true ∧
       (run (.zeroize m 1) (encSt [(F.SEC_CTX_STAT_STATE, 0, 3)])).rd F.SEC_KRES_RESULT 0 = 5 ∧
       s.engineExists 0 = true ∧ ((run (.zeroizeAll m) s).encCtx 0).key1 = none ∧ s.contextsOf 0 false = [0] ∧
       (run (.clrLatch m) s).atBoundary = [.clrLatch 0]) := by decide

/-- Witness of UserModeReachesNoKeyCommand. -/
theorem test_userKeys : (⟨5, true⟩ : Initiator).isUser = true ∧ (run (.keyLoad ⟨5, true⟩ 0) (encSt [])).answer 11 = .error .priv ∧
    (run (.clrLatch ⟨5, true⟩) (encSt [])).answer 11 = .error .priv := by decide

/-- Witness of EncryptionActsAtBlockBoundaries: a change due at tick 128, and a window that ended. -/
theorem test_blocks :
    (let s := { (encSt []).modCtx 0 (fun x => { x with change := some (2, 128), key0 := some [] }) with tick := 128 }
     s.engineExists 0 = true ∧ s.native 0 = true ∧ s.tick.toNat % 64 = 0 ∧ (s.contextsOf 0 false).Nodup ∧ 0 ∈ s.contextsOf 0 false ∧
       (s.encCtx 0).change = some (2, s.tick) ∧ (run (.encBlockBoundary 0 false) s).rd F.SEC_CTX_STAT_STATE 0 = 2) ∧
    (let s := (encSt []).modCtx 2048 (fun x => { x with window := some 5 })
     let s := s.setLineFrame 0 { expect := 6 }
     (s.encCtx (ctxIndex 0 true 0)).window = some 5 ∧ (s.encCtx (ctxIndex 0 true 0)).latched = false ∧
       ahead (s.lineFrame 0).expect 5 = 1 ∧ ((run (.aisWindowEnd 0 0) s).encCtx 2048).window = none) := by decide

def engSt (more : List (Field × Nat × Nat)) : State :=
  st ([(F.LF_CFG_NCW, 0, 27), (F.LE_CTRL_PSTATE, 0, 2), (F.LE_STAT_PSTATE, 0, 2), (F.LE_STAT_TX_STATE, 0, 1)] ++ more)

/-- Witness of EngineControlsAreTaken: engine 0, master 0, with a driver fault acknowledged, and the optics interface free and busy. -/
theorem test_engineControls :
    let m : Initiator := ⟨0, false⟩
    let s := (engSt [(F.LE_SPI_CTRL_BUSY, 0, 0)]).modEngine 0 fun x => { x with driverFault := true, driverAck := true }
    (s.standby = false ∧ s.active = false) ∧ s.engineSel m = 0 ∧ s.engineExists 0 = true ∧
      (run (.lePstateWrite m 1) s).rd F.LE_CTRL_PSTATE 0 = 1 ∧ ((run (.txEnWrite m true) s).engine 0).driverFault = false ∧
      ((run (.txEnWrite m false) s).engine 0).driverFault = true ∧ (run (.laserEnWrite m true) s).on F.LE_CTRL_LASER_EN 0 = true ∧
      (run (.leDrvWrite m 192) s).rd F.LE_DRV_ATTEN 0 = 192 ∧ (run (.acqRestart m) s).atBoundary = [.acqRestart 0] ∧
      s.on F.LE_SPI_CTRL_BUSY 0 = false ∧ (run (.spiGo m 0x10621) s).outbox = [.optics 0 0 40 0] ∧
      (run (.spiGo m 0x10020) (engSt [(F.LE_SPI_CTRL_BUSY, 0, 1)])).on F.LE_STICKY_SPI_ERR 0 = true := by decide

/-- Witness of EnginesChangePowerRampAndFail: each clause on engine 0. -/
theorem test_enginePower :
    (let s := engSt [(F.LE_STAT_PSTATE, 0, 1)]
     s.engineExists 0 = true ∧ s.rd F.LE_STAT_PSTATE 0 < s.powerWanted 0 ∧ (run (.powerStateReached 0) s).rxState 0 = 1 ∧
       (run (.powerStateReached 0) s).rd F.LE_STAT_PSTATE 0 = 2) ∧
    (let s := engSt [(F.LE_CTRL_PSTATE, 0, 1), (F.LE_STAT_PSTATE, 0, 0)]
     s.powerWanted 0 = 1 ∧ (run (.powerStateReached 0) s).rd F.LE_STAT_PSTATE 0 = 1) ∧
    (let s := { (engSt [(F.LE_STAT_TX_STATE, 0, 2)]).modEngine 0 fun x => { x with ramp := some ⟨0, 4095, 1, 7⟩ } with now := 7 }
     (s.engine 0).ramp = some ⟨0, 4095, 1, 7⟩ ∧ (s.engine 0).laserRamp = none ∧ (s.engine 0).swingRamp = none ∧
       s.rampDue ⟨0, 4095, 1, 7⟩ = true ∧ (run (.rampDone 0) s).txState 0 = 3 ∧ (run (.rampDone 0) s).rd F.LE_STAT_LEVEL 0 = 4095) ∧
    (let s := (engSt []).modEngine 0 fun x => { x with laserRamp := some ⟨0, 4095, 1, 0⟩ }
     s.rampDue ⟨0, 4095, 1, 0⟩ = true ∧ ((run (.rampDone 0) s).engine 0).laser = 4095) := by decide

/-- Witness of EnginesChangePowerRampAndFail: faults and the optics interface. -/
theorem test_engineFaults :
    (let s := engSt [(F.LE_STAT_TX_STATE, 0, 3), (F.LE_STAT_RX_STATE, 0, 5)]
     s.engineOn 0 = true ∧ (run (.drvFault 0) s).on F.LE_STAT_FAULT_HOLD 0 = true ∧ (run (.drvFault 0) s).txState 0 = 1 ∧
       s.rd F.LE_STAT_PSTATE 0 ≠ 0 ∧ 2 ≤ s.rxState 0 ∧ (run (.convFault 0 true) s).rxState 0 = 1 ∧
       ((run (.convFault 0 false) s).engine 0).driverFault = true) ∧
    (let s := engSt [(F.LE_SPI_CTRL_BUSY, 0, 1), (F.LE_SPI_CTRL_LEN, 0, 64)]
     s.on F.LE_SPI_CTRL_BUSY 0 = true ∧ s.rd F.LE_SPI_CTRL_LEN 0 = 64 ∧ (run (.spiDone 0 0x123456789) s).spiData 0 = 0x123456789) ∧
    (let s := engSt [(F.LE_SPI_CTRL_BUSY, 0, 1), (F.LE_SPI_CTRL_LEN, 0, 8), (F.LE_SPI_D0_DATA, 0, 5)]
     s.rd F.LE_SPI_CTRL_LEN 0 = 8 ∧ (run (.spiDone 0 0x7F00000000000001) s).spiData 0 = 0x7F00000000000005) := by decide

/-- Witness of AcquisitionFollowsItsStates: one state of engine 0 per clause, and the carrier pair 0. -/
theorem test_acquisition :
    (let s := engSt [(F.LE_STAT_RX_STATE, 0, 5)]
     2 ≤ s.rxState 0 ∧ (run (.engineLos 0 8) s).rxState 0 = 1 ∧ s.rxState 0 = 5 ∧ (run (.engineLol 0 3) s).rxState 0 = 4 ∧
       (run (.engineLol 0 3) s).rd F.LE_EQ_STAT_LOL_CNT 0 = 1) ∧
    (let s := { (engSt [(F.LE_STAT_RX_STATE, 0, 1)]).modEngine 0 fun x => { x with wasLocked := true } with now := 312499 }
     s.rxState 0 = 1 ∧ (run (.engineSigOk 0 32) s).rxState 0 = 4 ∧ (run (.engineSigOk 0 32) { s with now := 312500 }).rxState 0 = 2) ∧
    (let s := engSt [(F.LE_STAT_RX_STATE, 0, 2)]
     s.rxState 0 = 2 ∧ (run (.freqLock 0 (-1)) s).rd F.LE_FOFS_FOFS 0 = 65535) ∧
    (let s := (engSt [(F.LE_STAT_RX_STATE, 0, 3)]).modEngine 0 fun x => { x with hint := true }
     s.rxState 0 = 3 ∧ (s.engine 0).hint = true ∧ (run (.cdLock 0 200000) s).rd F.LE_CD_CD 0 = 160000 ∧
       ((run (.cdHintMiss 0) s).engine 0).hint = false) ∧
    (let s := { (engSt [(F.LE_STAT_RX_STATE, 0, 4)]).modEngine 0 fun x => { x with fast := true } with now := 78125 }
     s.rxState 0 = 4 ∧ (s.engine 0).fast = true ∧ (s.engine 0).acqSince + 78125 ≤ s.now ∧ (s.engine 0).since + 1562 ≤ s.now ∧
       (run (.lock 0) s).rxState 0 = 5 ∧ (run (.acqFail 0) s).rxState 0 = 2 ∧ (run (.fastReacqTimeout 0) s).rxState 0 = 2) ∧
    (let s := engSt [(F.LF_CFG_PAIR, 0, 1), (F.LF_CFG_PAIR, 1, 1), (F.LE_STAT_DESKEW_OK, 0, 1), (F.LF_STAT_OOF, 0, 0), (F.LF_STAT_OOF, 1, 0)]
     s.paired 0 = true ∧ s.on F.LF_STAT_OOF 0 = false ∧ s.on F.LF_STAT_OOF 1 = false ∧
       (run (.deskewLoss 0 20001 3) s).ssf 0 = true ∧ (run (.deskewRegained 0 (-19000) 3) s).on F.LE_STAT_DESKEW_OK 0 = true) := by decide

/-- Witness of LinksAndFreezesAct: link 0 counting, down, retraining and restored. -/
theorem test_links :
    let s := { (State.reset.modLink 0 fun x => { x with badTicks := 16 }) with now := 1024 }
    let u := s.modLink 0 fun x => { x with down := true, goodTicks := 312500 }
    s.linkExists 0 = true ∧ ((run (.d2dTransfer 0 (.lost [5] [])) s).store 5).aisCrate = true ∧ (s.link 0).down = false ∧
      16 ≤ (s.link 0).badTicks ∧ ((run (.d2dDown 0) s).engine 1).d2dFault = true ∧ (u.link 0).down = true ∧
      (u.link 0).retrainedAt + 1024 ≤ u.now ∧ ((run (.d2dRetrain 0) u).link 0).retrains = 1 ∧ 312500 ≤ (u.link 0).goodTicks ∧
      ((run (.d2dRestore 0) u).link 0).down = false ∧ (st [(F.SY_ID_VARIANT, 0, 3)]).linkExists 2 = false ∧
      (run (.loopFreezeWrite ⟨1, false⟩ 0x181) s).reg .SY_LOOP_FREEZE 0 = 0x81 := by decide

/-- Witness of VoltageLoopsStayInRange: the core rail at reset, 1,024 boundaries on. -/
theorem test_avs :
    let s := { State.reset with now := 1024 }
    (s.avs .core).updatedAt + 1024 ≤ s.now ∧ Rail.core.range.1 ≤ (s.avs .core).setpoint ∧ (s.avs .core).setpoint ≤ Rail.core.range.2 ∧
      ((run (.avsUpdate .core ⟨true, 20, false, true, some 795⟩) s).avs .core).setpoint = 795 ∧
      ((run (.avsUpdate .le ⟨false, 0, true, false, none⟩) s).avs .le).setpoint = 780 ∧
      (run (.avsUpdate .le ⟨false, 0, true, false, none⟩) s).on F.SY_STICKY_AVS_FAIL 0 = true := by decide

/-- Witness of PoolServesWithinItsBudget: two codewords of engine 0, one that needs the pool. -/
theorem test_pool :
    let s := { st [(F.LF_CFG_NCW, 0, 27), (F.FP_CTRL_ENG_EN, 0, 255)] with
      pool := { atPool := [⟨0, 3, none, 40, some 4, 9, false⟩, ⟨0, 1, some 2, 0, none, 5, false⟩] } }
    let t := run .poolDecode s
    (s.pool.atPool.filter s.isCandidate).length = 1 ∧ t.pool.decoded.length = 2 ∧ t.pool.used = 4 ∧ t.pool.unserved = 0 ∧
      16 * 1 ≤ poolBudget (s.rd F.FP_STAT_FCODE 0) := by decide

/-- Witness of DeliveredCodewordsCountAndTheFrequencyFollows. -/
theorem test_delivery :
    (let s := { State.reset with pool := { deliver := [⟨0, 1, none, true, false, false, 7, 16⟩] } }
     s.pool.deliver = [⟨0, 1, none, true, false, false, 7, 16⟩] ∧ (run .codewordDelivery s).ctr ⟨.fp, 25, 0⟩ = 1 ∧
       (run .codewordDelivery s).ctr ⟨.fp, 28, 0⟩ = 0) ∧
    (let s := st [(F.FP_STAT_FCODE, 0, 9), (F.FP_FREQ_FMIN, 0, 8), (F.FP_FREQ_FMAX, 0, 20), (F.FP_FREQ_T_HI, 0, 95)]
     s.tick.toNat % 16 = 0 ∧ (s.rd F.SY_LOOP_STAT_FROZEN 0).testBit 2 = false ∧ s.pool.guarded = false ∧ s.cfg F.FP_FREQ_T_HI 0 ≤ (95 : Int) ∧
       min (s.cfg F.FP_FREQ_FMIN 0) 32 < s.rd F.FP_STAT_FCODE 0 ∧
       (run (.poolFreqDecision ⟨some 95, some 0⟩) s).rd F.FP_STAT_FCODE 0 = 8 ∧
       (run (.poolFreqDecision ⟨none, some 0⟩) s).on F.FP_STICKY_FREQ_FAIL 0 = true) := by decide

def hubSt (more : List (Field × Nat × Nat)) : State :=
  st ([(F.LF_CFG_HUB, 0, 1), (F.LF_CFG_NCW, 0, 27), (F.TD_SCTYPE_TYPE, 0, 2), (F.TD_FMT_GUP, 0, 100), (F.TD_FMT_KUP, 0, 100),
    (F.TD_CFG_LEAD, 0, 20), (F.TD_LEAF_CFG_VALID, 3, 1)] ++ more)

/-- Witness of TideSchedulesReassemblesAndAdapts: engine 0, subcarrier 0, leaf 3. -/
theorem test_tide :
    (let s := { hubSt [(F.TD_GS_BANK1_CYC, 0, 5)] with tick := 7 }
     let m : Initiator := ⟨0, false⟩
     (s.standby = false ∧ s.active = false) ∧ s.engineSel m = 0 ∧ s.engineExists 0 = true ∧
       (run (.tdDsWrite m 5) s).rd F.TD_DS_LIT 0 = 5 ∧ ((run (.tdGsBankWrite m 1) s).hub 0).bankAt = some (1, 64) ∧
       (let t := { run (.tdGsBankWrite m 1) s with tick := 37 }
        ahead (t.tick + BitVec.ofNat 48 (t.rd F.TD_CFG_LEAD 0 + 7)) 64 ≤ 2 ^ 47 ∧
          (run (.grantBankSwitch 0) t).rd F.TD_GS_CTRL_ACTIVE 0 = 1)) ∧
    (let s := (hubSt [(F.TD_THR_STAT_E, 0, 47)]).modSc 0 fun x => { x with syncMiss := 2 }
     s.tick.toNat % 256 = 0 ∧ 0 ∈ s.tideScsOf 0 ∧ s.thrFrozen 0 = false ∧ (s.tideSc 0).falseSync < 2 ∧ 2 ≤ (s.tideSc 0).syncMiss ∧
       (run (.tideThrUpdate 0) s).rd F.TD_THR_STAT_E 0 = 48) ∧
    (let s := (hubSt [(F.TD_THR_STAT_E, 0, 0)]).modSc 0 fun x => { x with falseSync := 2 }
     (run (.tideThrUpdate 0) s).on F.TD_SC_STICKY_THR_LIMIT 0 = true ∧ (hubSt [(F.TD_THR_FRZ, 0, 1)]).thrFrozen 0 = true) ∧
    (let s := (hubSt [(F.TD_LEAF_STAT_LOST, 3, 0)]).modLeaf 3 fun x => { x with missRun := 8 }
     s.inHub 0 = true ∧ s.on F.TD_LEAF_CFG_VALID 3 = true ∧ s.on F.TD_LEAF_STAT_LOST 3 = false ∧
       (run (.leafLost 0 3) s).on F.TD_LEAF_STAT_LOST 3 = true) ∧
    (let s := { hubSt [(F.TD_CFG_DT, 0, 10)] with tick := 100 }
     let c : CrateTick := ⟨90, false, []⟩
     nearestTick c.low (s.tick - BitVec.ofNat 48 (s.rd F.TD_CFG_EQD 0)) = 90 ∧ tickDiff s.tick 100 ≤ 0 ∧
       ((run (.crateTickArrival 0 3 c) s).tideLeaf 3).held = [(90, c)] ∧
       0 < tickDiff s.tick 99 ∧ (run (.crateTickArrival 0 3 ⟨89, false, []⟩) s).on F.TD_LEAF_STICKY_LATE 3 = true) := by decide

/-- Witness of BurstReceptionFollowsItsStates: one burst of leaf 3 in a window of engine 0, subcarrier 0. -/
theorem test_burst :
    (let s := hubSt [(F.TD_THR_STAT_PTHR, 0, 24), (F.TD_THR_STAT_FLOOR, 0, 200)]
     s.inHub 0 = true ∧ s.scType 0 0 = 2 ∧ (s.tideSc 0).rx = .idle ∧ 175 + s.rd F.TD_THR_STAT_PTHR 0 < s.rd F.TD_THR_STAT_FLOOR 0 ∧
       ((run (.burstPowerDetect 0 0 175 64) s).tideSc 0).rx = .power) ∧
    (let s := (hubSt [(F.TD_THR_STAT_E, 0, 2)]).modSc 0 fun x => { x with rx := .power }
     ((run (.syncAccept 0 0 2304 2) s).tideSc 0).rx = .header s.tick 2304 ∧
       ((run (.syncMiss 0 0 2768) s).tideSc 0).syncMiss = (if 2368 + s.cfg F.TD_THR_TOL 0 ≤ 2768 then 1 else 0)) ∧
    (let s := (hubSt [(F.TD_THR_TOL, 0, 16)]).modSc 0 fun x => { x with rx := .header 0 2304 }
     s.judgedWindow 0 0 0 2304 = none ∧ (run (.burstHeader 0 0 (some ⟨3, 1, 1, 0, 0, false⟩) 9) s).on F.TD_SC_STICKY_MISPLACED 0 = true ∧
       ((run (.burstHeader 0 0 none 9) s).tideSc 0).falseSync = 1 ∧
       4 * (clampNat 3 12 (s.cfg F.TD_THR_CAP 0) : Int) ≤ 48 ∧ (run (.burstPowerRise 0 0 12 64 48) s).on F.TD_SC_STICKY_CAPTURE 0 = true ∧
       (run (.burstPowerRise 0 0 12 64 0) s).on F.TD_SC_STICKY_COLLISION 0 = true) ∧
    (let s := (hubSt [(F.TD_THR_TOL, 0, 16)]).modSc 0 fun x => { x with rx := .header 0 2304 }
     let w : Window := ⟨0, 3, 0, 4, false, false⟩
     let s := s.setHub 0 { s.hub 0 with windows := [w] }
     let h : BurstHeader := ⟨3, 1, 1, 0, 0, true⟩
     s.judgedWindow 0 0 0 2304 = some w ∧
       burstSymbols h.nc (s.rd F.TD_FMT_KUP 0) + (3 * s.symbolsUp 0 + 15) / 16 ≤ w.len * s.symbolsUp 0 ∧
       (run (.burstHeader 0 0 (some h) 300) s).rd F.TD_LEAF_STAT_PWR 3 = 255 ∧
       (run (.burstHeader 0 0 (some { h with leaf := 4 }) 300) s).rd F.TD_SC_LAST_LEAF 0 = 4) := by decide

def mgSt (f : MergeGroup → MergeGroup) (more : List (Field × Nat × Nat)) : State :=
  { (st ([(F.MG_CFG_VALID, 0, 1), (F.MG_RANGE_R, 0, 4)] ++ more)).modMerge 0 f with now := 100 }

/-- Witness of MergeGroupsMoveThroughTheirStates: one state of group 0 per clause. -/
theorem test_merge :
    (let s := mgSt (fun x => { x with st := .wait, waitAt := 96, a := { x.a with keys := [{ key := 7, del := 97, valid := true }] },
                                      b := { x.b with keys := [{ key := 7, del := 99, valid := true }], validAt := some 99 } }) []
     s.groupMerges 0 = true ∧ (s.merge 0).notYet (s.groupLine 0) 7 = true ∧ ((99 : Int) - 97).natAbs ≤ s.groupRange 0 ∧
       ((run (.mergeAligned 0) s).merge 0).dHeld = 2 ∧ (s.merge 0).waitAt + s.groupRange 0 ≤ s.now ∧
       (s.merge 0).a.validNow s.now = false ∧ (s.merge 0).b.validNow s.now = true ∧
       ((run (.mergeWaitExpiry 0) s).merge 0).st = .single) ∧
    (let s := mgSt (fun x => { x with st := .wait }) []
     ((run (.mergeWaitExpiry 0) s).merge 0).st = .down ∧ (run (.mergeAligned 0) s).rd F.MG_STAT_STATE 0 = 0) ∧
    (let s := mgSt (fun x => { x with st := .aligned, noValid := 64, noUsable := 16, dRun := 16, timingB := true, dOther := 3,
                                      autoRun := 312500, a := { x.a with validAt := some 100, late := true } }) [(F.MG_CTRL_AUTO, 0, 1)]
     (s.merge 0).st ≠ .down ∧ ((run (.mergeDown 0) s).merge 0).st = .down ∧ (s.merge 0).a.validNow s.now = true ∧
       (run (.realignNoUsable 0) s).ctr ⟨.mg, 4, 0⟩ = 1 ∧ s.cfgOn F.MG_CTRL_AUTO 0 = true ∧
       ((run (.realignAuto 0) s).merge 0).st = .wait ∧ (run (.mergeDheldLoad 0) s).rd F.MG_DHELD_DH 0 = 3) := by decide +kernel

/-- Witness of MergeGroupsMoveThroughTheirStates: late and usable instances, and keys output. -/
theorem test_mergeKeys :
    (let s := mgSt (fun x => { x with st := .aligned, a := { x.a with lateRun := 3 } }) []
     (run (.mergeLateEarly 0) s).on F.MG_STICKY_LATE 0 = true) ∧
    (let s := mgSt (fun x => { x with a := { x.a with usableRun := 3, late := true }, b := { x.b with usableRun := 3 } }) []
     ((run (.mergeLateEarly 0) s).merge 0).a.late = false) ∧
    (let s := mgSt (fun x => { x with st := .aligned, first := some (9, 100) }) [(F.MG_RANGE_KSZ, 0, 2)]
     s.groupLine 0 = false ∧ ((run (.mergeKeyDecision 0) s).merge 0).last = some (9, 100)) ∧
    (let d : Delivery := { key := 0, del := 99, valid := true }
     let s := mgSt (fun x => { x with st := .aligned, last := some (1048575, 98), a := { x.a with keys := [d] } }) [(F.MG_RANGE_KSZ, 0, 2)]
     ((s.merge 0).inst (s.merge 0).timingB).has ((1048575 + 1) % 2 ^ 20) s.now = some d ∧
       ((run (.mergeKeyDecision 0) s).merge 0).last = some (0, 100)) := by decide +kernel

/-- Witness of MergeRequestsSelect: group 0 in SELECT mode. -/
theorem test_mergeRequests :
    (let s := mgSt (fun x => { x with a := { x.a with sfSince := some 100 } }) [(F.MG_CFG_MODE, 0, 1)]
     let m : Initiator := ⟨0, false⟩
     (s.standby = false ∧ s.active = false) ∧ s.groupSel m = 0 ∧ (run (.mgCmdMsB m) s).rd F.MG_CTRL_CMD 0 = 4 ∧
       s.groupDefined 0 = true ∧ s.on F.MG_CFG_APS 0 = false ∧ s.groupCmd 0 = 0 ∧ s.heldOff 0 (s.merge 0).a.sfSince = true ∧
       s.heldOff 0 (s.merge 0).b.sfSince = false ∧ s.groupMerges 0 = false ∧
       (run (.holdoffExpiry 0) s).atBoundary = [.mgSelect 0] ∧ (run (.holdoffExpiry 0) s).rd F.MG_STAT_REQ 0 = 11) ∧
    (let s := { mgSt (fun x => { x with after := .wtr 0, selB := true }) [(F.MG_CFG_MODE, 0, 1), (F.MG_CTRL_WTR, 0, 1)] with now := 18750000 }
     0 + 60 * 312500 * clampNat 1 12 (s.cfg F.MG_CTRL_WTR 0) ≤ s.now ∧ s.explicitRequest 0 = 0 ∧ (s.merge 0).cause = 0 ∧
       (run (.wtrExpiry 0) s).atBoundary = [.mgSelect 0]) := by decide +kernel

/-- Witness of ReferencesQualifyAndLoopsLock: reference 0, both DPLLs, TICK_IN. -/
theorem test_references :
    (let s := { (st [(F.TM_REF_FREQ_FREQ, 0, 1), (F.TM_REF_STAT_QUAL, 0, 1), (F.TM_REF_STAT_LOS, 0, 0), (F.TM_REF_CFG_FMAX, 0, 5),
                     (F.TM_REF_CFG_WTR, 0, 1)]).setTimeRef 0 { goodSince := some 0 } with now := 312500 }
     s.refRuns 0 = true ∧ s.on F.TM_REF_STAT_LOS 0 = false ∧ (run (.refLos 0) s).on F.TM_STICKY_REF_DISQ 0 = true ∧
       (-100 : Int).natAbs ≤ 20 * s.cfg F.TM_REF_CFG_FMAX 0 ∧ (run (.refFreqWindow 0 (-100)) s).rd F.TM_REF_STAT_FOFS 0 = 65436 ∧
       (run (.refFreqWindow 0 101) s).on F.TM_REF_STAT_QUAL 0 = false ∧ 0 + 312500 * s.cfg F.TM_REF_CFG_WTR 0 ≤ s.now ∧
       (run (.refQualify 0) (s.wr F.TM_REF_STAT_QUAL 0 0)).on F.TM_REF_STAT_QUAL 0 = true) ∧
    (let s := st [(F.TM_GD_STAT_STATE, 0, 1), (F.TM_OD_STAT_STATE, 0, 1), (F.TM_GD_STAT_SEL, 0, 8)]
     let s := { s with gridPll := { selected := true } }
     (run (.dpllLocked false 3125000) s).rd F.TM_GD_STAT_STATE 0 = 2 ∧ (run (.dpllLocked true 3125000) s).rd F.TM_OD_STAT_STATE 0 = 2 ∧
       s.rd F.TM_GD_STAT_SEL 0 = 8 ∧ (run (.tickInEdge 7) s).timePll.tickPhase = 7) := by decide +kernel

/-- Witness of TheTimeLoopFollowsItsSource: the software source forced, qualified and not. -/
theorem test_timeLoop :
    (let s := st [(F.TM_TD_CTRL_FORCE, 0, 1), (F.TM_TD_CTRL_FSRC, 0, 10), (F.TM_TS_STAT_QUAL, 10, 1), (F.TM_TD_CTRL_STEP_THR, 0, 100)]
     s.tick.toNat % 256 = 0 ∧ s.worker = false ∧ s.followsMate = false ∧ s.cfgOn F.TM_TD_CTRL_FORCE 0 = true ∧
       s.cfg F.TM_TD_CTRL_FSRC 0 = 10 ∧ s.on F.TM_TS_STAT_QUAL 10 = true ∧ s.timeValid = false ∧ s.timePll.selected = false ∧
       s.cfg F.TM_TD_CTRL_STEP_THR 0 * 2 ^ 32 < ((25601 : Int) * 2 ^ 24).natAbs ∧
       (run (.timeDecision [(10, 25601)] 5) s).timePll.step = some (-(25601 * 2 ^ 24)) ∧
       (run (.timeDecision [(10, 25600)] 5) s).timePll.slew = -(25600 * 2 ^ 24) ∧
       (run (.timeDecision [(10, 25601)] 5) s).rd F.TM_TD_STAT_STATE 0 = 1) ∧
    (let s := st [(F.TM_TD_CTRL_FORCE, 0, 1), (F.TM_TD_CTRL_FSRC, 0, 10), (F.TM_TD_STAT_TIME_VALID, 0, 1), (F.TM_TD_STAT_STATE, 0, 2)]
     s.on F.TM_TS_STAT_QUAL 10 = false ∧ s.timeValid = true ∧ (run (.timeDecision [] 0) s).rd F.TM_TD_STAT_STATE 0 = 3) ∧
    (let s := { st [(F.TM_TD_STAT_STATE, 0, 1)] with timePll := { goodSince := some 0 }, now := 3125000 }
     (run .timeLocked s).rd F.TM_TD_STAT_STATE 0 = 2 ∧ s.timePll.held = false ∧ (run .timeLocked s).timePll.lockedAt = 3125000) := by decide +kernel

/-- Witness of TimeInputsAndOutputsAct: inputs.  The message names second 5 with class 6. -/
theorem test_timeInputs :
    (let s := (st [(F.TM_TS_CFG_EN, 0, 1)]).setTimeSource 0 { edge := some (0, 0), goodEdges := 2 }
     let x : Stamp := ⟨1, 1000, 0⟩
     (x.units - 0 - 1000000000 * 65536).natAbs ≤ 1000 * 65536 ∧ (run (.ppsEdge 0 x) s).on F.TM_TS_STAT_QUAL 0 = true ∧
       (s.timeSource 0).missed = false ∧ s.cfgOn F.TM_TS_CFG_EN 0 = true ∧
       (run (.ppsMiss 0) { s with now := 625000 }).on F.TM_STICKY_PPS_MISS 0 = true) ∧
    (let s := { (st [(F.TM_PPS_CFG_TODI_EN, 0, 1)]).setTimeSource 0 { edge := some (0, 0) } with now := 15625 }
     let body : List Byte := [0x01, 12, 0, 0, 0, 0, 0, 5, 0, 37, 6, 0, 0, 0]
     let bytes := [0xC5, 0x3A] ++ body ++ toBytes 2 (crc16 body)
     bytes.length = 18 ∧ crc16 ((bytes.drop 2).take 14) = bigEndian (bytes.drop 16) ∧ s.cfg F.TM_PPS_CFG_TOD_SRC 0 = 0 ∧
       (run (.todMessage bytes) s).timePll.tod0 = some (5, 6) ∧ (run (.todMessage []) s).on F.TM_STICKY_TOD_ERR 0 = true) := by decide +kernel

/-- Witness of TimeInputsAndOutputsAct: outputs, learning and the software source. -/
theorem test_timeOutputs :
    (let s := { st [(F.TM_PPS_CFG_EN_O0, 0, 1), (F.TM_PPS_CFG_EN_O1, 0, 1), (F.TM_PPS_CFG_TODO_EN, 0, 1), (F.TM_TD_STAT_TIME_VALID, 0, 1)]
        with timePll := { tb := 3 * secondUnits, second := 2, todDue := some 0 }, now := 31250 }
     s.timePll.second < s.timePll.tb / secondUnits ∧ s.timeValid = true ∧ (run .ppsOutEdge s).outbox = [.pps 0 3 0 (s.cfg F.TM_PPS_CFG_WIDTH 0) false, .pps 1 3 0 (s.cfg F.TM_PPS_CFG_WIDTH 0) false] ∧
       (run .todTxSend s).timePll.todDue = none) ∧
    (let s := { ((st [(F.TM_INV_CTRL_TSW, 0, 1)]).setTimeSource 2 { learnTicks := 312500000 }).setTimeSource 10 { writtenAt := some 0 }
        with timePll := { learned := 27000000000 }, now := 1250000 }
     let m : Initiator := ⟨0, false⟩
     (run (.asymLearned 0) s).on F.TM_TS_STAT_LEARNED 2 = true ∧ (run .swSourceTimeout s).on F.TM_TS_STAT_QUAL 10 = false ∧
       (run .invarLearned s).rd F.TM_INV_STAT_LSTATE 0 = 2 ∧ s.timePll.tempAt + 625001 ≤ s.now ∧
       (run .invTempStale s).on F.TM_STICKY_INV_TEMP_STALE 0 = true ∧ (s.standby = false ∧ s.active = false) ∧
       (run (.swOfsWrite m 9) s).atBoundary = [.swOfs 9] ∧ (run (.invarResetModel m) s).timePll.learned = 0 ∧
       (run (.tsLearn m) s).answer 0 = .ok 0) := by decide +kernel

/-- Witness of OnChipBeatsReadAndWriteTheirWord: partial writes, a read, an uncorrectable word, the ROM, a hole. -/
theorem test_onChip :
    let m : Initiator := ⟨2, false⟩
    let x : Beat := { strobes := 0x8001, data := 0xAB000000000000000000000000000012 }
    let s := st []
    let t := run (.scratchpadAccess m ⟨true, 0x127FFFF4, [x], false⟩) s
    let bad := { s with badWords := [0x12000000 / 16] }
    memTarget 0x127FFFF4 = some 2 ∧ Mem.read t.mem 0x127FFFF0 = 0x12 ∧ Mem.read t.mem 0x127FFFFF = 0xAB ∧ t.answer 4 = .beats [.ok 0] ∧
      (run (.workingSramAccess m ⟨false, 0x11000000, [{}], false⟩) s).answer 4 = .beats [.ok 0] ∧
      (run (.borrowTouch (some m) ⟨false, 0x127FFFF0, [{}], false⟩) t).answer 4 = .beats [.ok 0xAB000000000000000000000000000012] ∧
      (run (.scratchpadAccess m ⟨false, 0x12000000, [{}], false⟩) bad).rd F.MM_ECC_CNT_UNCORR 2 = 1 ∧
      memTarget 0x10000000 = some 0 ∧ (run (.scratchpadAccess m ⟨true, 0x10000000, [{}], false⟩) s).answer 4 = .beats [.error .target] ∧
      memTarget 0x13000000 = none ∧ (run (.scratchpadAccess m ⟨true, 0x13000000, [{}], false⟩) s).answer 4 = .beats [.error .default] := by
  decide +kernel

/-- Witness of AnchorageWordsReadBack: a near hold of 1 GB, and a protected region at its start. -/
theorem test_anchorage :
    let m : Initiator := ⟨2, false⟩
    let s := st [(F.MM_ANC_STAT_HBM_OK, 0, 1), (F.MM_ANC_STAT_NEAR_GB, 0, 1)]
    let x : Beat := { data := 0xAB000000000000000000000000000012 }
    let u := run (.anchorageAccess m false ⟨false, 0x7FFFFFF0, [{}], false⟩) (run (.anchorageAccess m false ⟨true, 0x7FFFFFF0, [x], false⟩) s)
    let p := { s with image := { anchorage := [{ kind := 1, deep := false, owner := 0, base := 0, size := 0x100000 }] } }
    s.apertureAddr m 0x7FFFFFF0 = 0x3FFFFFF0 ∧ s.ancExists 0x3FFFFFF0 = true ∧ s.ancProtected 0x3FFFFFF0 = false ∧
      u.answer 4 = .beats [.ok x.data] ∧ p.ancProtected 0 = true ∧
      (run (.anchorageAccess m false ⟨true, 0x40000000, [x], false⟩) p).on F.MM_STICKY_PROT_WR 0 = true ∧
      (st []).ancExists 0 = false ∧ (run (.anchorageAccess m false ⟨true, 0x40000000, [x], false⟩) (st [])).answer 4 = .beats [.error .default] := by
  decide +kernel

/-- Witness of MemoriesAreRepairedScrubbedAndMarched: column 0, which every macro has, and region 5. -/
theorem test_maintenance :
    (let s := st [(F.MM_REP_STAT_VFUSE_OK, 0, 1), (F.MM_BT_CFG_MARCH_EN, 0, 1), (F.MM_BT_CFG_SCRUB_EN, 0, 1), (F.SY_STATE_STATE, 0, 1)]
     let m : Initiator := ⟨0, false⟩
     m.trusted = true ∧ s.on F.MM_REP_STAT_BUSY 0 = false ∧ (macroClass (F.MM_REP_CTRL_MACRO.get 0x00030000)).isSome = true ∧
       F.MM_REP_CTRL_COL.get 0x00030000 = 0 ∧ s.macroLeft 3 = 2 ∧ (⟨3, true⟩ : Initiator).trusted = false ∧
       (run (.repairDone true true) { s with repairColumn := some (3, 0) }).repairOf 3 0 = 1 ∧
       (run (.repairDone false true) { s with repairColumn := some (3, 0) }).rd F.MM_REP_STAT_RESULT 0 = 2 ∧
       s.backgroundRuns = true ∧ (run (.scrubRead (.word 0x12000010) .single false) s).rd F.MM_ECC_CNT_CORR 2 = 1 ∧
       (run (.scrubRead (.word 0x12000010) .double false) s).badWords = [0x1200001] ∧ m.isUser = false ∧
       (run (.mmNbWrite m false 0x12345FFF) s).rd F.MM_NB_BASE_BASE 0 = 0x12345) := by decide +kernel

/-- Witness of MemoriesAreRepairedScrubbedAndMarched: the march test of region 5. -/
theorem test_march :
    (let s := st [(F.MM_BT_CFG_MARCH_EN, 0, 1), (F.SY_STATE_STATE, 0, 1)]
     let n := { s with march := { next := 5 }, now := 21 }
     let b := { s with march := { next := 6, borrowed := some 5 } }
     let r := { n with march := { next := 6, yielded := [(5, 1, 0)] } }
     n.borrowable 5 = true ∧ (run (.marchRegion 5 .borrow) n).march.borrowed = some 5 ∧
       (run (.marchRegion 5 (.finish (some (7, 9)))) b).rd F.MM_BT_FAIL_COL 0 = 9 ∧ marchPage 0x11005FFF = some 5 ∧
       (run (.borrowTouch none ⟨true, 0x11005FFF, [{}], false⟩) b).march.yielded = [(5, 1, 0)] ∧
       (run (.borrowTouch none ⟨true, 0x11005FFF, [{}], false⟩) { b with march := { b.march with yielded := [(5, 3, 0)] } }).on
         F.MM_STICKY_BT_SKIP 0 = true ∧ (run (.marchRetry 5) r).march.borrowed = some 5) := by decide +kernel

def capSt (c : Capture) (more : List (Field × Nat × Nat)) : State :=
  { (st ([(F.LE_CFG_G, 0, 10), (F.CAP_CFG_NSLOT, 0, 1), (F.CAP_CFG_POST, 0, 3), (F.CAP_CFG_PRE, 0, 2)] ++ more)).setCapture 0 c with
    image := { anchorage := [{ kind := 3, deep := false, owner := 0, base := 0x10000, size := 0x100000 },
                             { kind := 4, deep := false, owner := 0, base := 0x800000, size := 0x1000 }],
               survey := [{ engine := 0, role := 2, d := 20, nstep := 1, steps := [(2, 48), (1, 40)] }] }, now := 50 }

/-- Witness of CapturesArmTriggerAndClose: arming, refusal, release. -/
theorem test_captureArm :
    let m : Initiator := ⟨0, false⟩
    let s := capSt {} []
    s.engineSel m = 0 ∧ s.engineExists 0 = true ∧ (s.capture 0).armed = false ∧ (s.capture 0).done = [] ∧
      captureNeed (s.rd F.CAP_CFG_PRE 0 + s.postTicks 0) (s.captureRate 0) ≤ slotSize 0x100000 2 ∧
      s.captureLoad false 0 ≤ 16 * 2048000000000 ∧ ((run (.capArm m) s).capture 0).next = some 0 ∧
      (run (.capArm m) s).rd F.CAP_STAT_RESULT 0 = 1 ∧ (st []).captureRegion 0 = none ∧ (run (.capArm m) (st [])).rd F.CAP_STAT_RESULT 0 = 2 ∧
      ((run (.capTrig m) (run (.capArm m) s)).capture 0).soft = true ∧
      ((run (.capRelease m) (capSt { armed := true, slots := 2, done := [1], next := some 0 } [])).capture 0).done = [] ∧
      (run (.capDisarm m) s).atBoundary = [.capDisarm 0] := by decide +kernel

/-- Witness of CapturesArmTriggerAndClose: a schedule trigger, the close of slot 1, and a transient. -/
theorem test_captureClose :
    (let s := capSt { armed := true, slots := 2, next := some 1, since := 49 } [(F.CAP_TRIG_SCH_EN, 0, 1)]
     s.cfg F.CAP_TRIG_SCH_EN 0 = 1 ∧ s.tick.toNat % 2 ^ min 30 (s.cfg F.CAP_TRIG_SK 0) = 0 ∧ (s.capture 0).post = none ∧
       (((run (.capScheduleTrigger 0) s).capture 0).post.map (·.pre)) = some 1) ∧
    (let p : CapPost := ⟨5, 47, .schedule, 3, 1, true, 0, 0, false, 0⟩
     let s := capSt { armed := true, slots := 2, next := some 1, post := some p } []
     s.captureRegion 0 = some { kind := 3, deep := false, owner := 0, base := 0x10000, size := 0x100000 } ∧
       s.rd F.CAP_CFG_OVERWRITE 0 = 0 ∧ p.at_ + p.post ≤ s.now ∧ slotSize 0x100000 2 = 0x80000 ∧
       Mem.find (run (.captureClose 0 100 40) s).anc 0x90000 = some 0x43 ∧ ((run (.captureClose 0 100 40) s).capture 0).done = [1]) ∧
    (let s := (capSt {} [(F.LE_STAT_RX_STATE, 0, 5), (F.MS_SOP_CFG_HOLD, 0, 1)]).setMeasure 0 { sop := some ⟨9, 40, 48, 7⟩ }
     s.rxState 0 = 5 ∧ 48 + 1 + max 1 (s.cfg F.MS_SOP_CFG_HOLD 0) ≤ s.now ∧ (run (.sopTransient 0) s).rd F.MS_SOP_LAST_DUR 0 = 9) := by
  decide +kernel

/-- Witness of SurveyStepsThroughItsList: the last step of a list of two. -/
theorem test_survey :
    let s := capSt {} [(F.SY_MODE_MODE, 0, 11), (F.SV_STAT_STEP, 0, 1), (F.LE_STAT_RX_STATE, 0, 4), (F.LF_STAT_LOM, 0, 0)]
    let x : SurveyResult := ⟨true, false, false, 3, 4, [], 0, []⟩
    (s.surveyOf 0).isSome = true ∧ (s.regionOf 4 0).isSome = true ∧ s.on F.LF_STAT_LOM 0 = false ∧ s.rxState 0 = 4 ∧
      (run (.surveyStepEnd 0 x) s).rd F.SV_STAT_STEP 0 = 0 ∧ (run (.surveyStepEnd 0 x) s).on F.MS_STICKY_SV_CYCLE 0 = true ∧
      Mem.find (run (.surveyStepEnd 0 x) s).anc 0x800000 = some 1 := by decide +kernel

/-- Witness of LoggerWritesItsRing: a record at the last place of the ring, a summary of source 9, and read indices. -/
theorem test_logger :
    (let r : LogRecord := ⟨5, 1, false, 3, 0x123456789ABC, 0, 7⟩
     let s := { st [(F.EV_LOG_CFG_EN, 0, 1), (F.EV_LOG_WR_IDX, 0, 8191), (F.EV_LOG_RD_IDX, 0, 4096)] with logQueue := [r], logSeq := 65535 }
     s.ringUsed = 4095 ∧ s.on F.EV_LOG_CFG_ARCH_EN 0 = false ∧ s.march.borrowed = none ∧
       (Mem.readWord (run .logRecordWrite s).mem 0x1278FFF4) = 0x56789ABC ∧ (Mem.readWord (run .logRecordWrite s).mem 0x1278FFF8) = 0x1234FFFF ∧
       (run .logRecordWrite s).logSeq = 0 ∧ (run .logRecordWrite s).rd F.EV_LOG_WR_IDX 0 = 0) ∧
    (let s := (st [(F.EV_LOG_CFG_EN, 0, 1)]).setSlot 9 ⟨0, 0, 10, 70000, 30⟩
     s.openSlots = [9] ∧ (Mem.readWord (run .logSummaryWrite s).mem 0x1278000C) = 0xFFFF0014 ∧ ((run .logSummaryWrite s).slot 9).count = 0 ∧
       (run (.evLogRdWrite ⟨0, false⟩ 1) s).rd F.EV_LOG_RD_IDX 0 = 0 ∧ (run .logRecordWrite (st [])).logSeq = (st []).logSeq) := by decide +kernel

/-- Witness of PerformanceCountersCount: writes of master 0 and of user mode, and counter 33 at its top. -/
theorem test_counters :
    let m : Initiator := ⟨0, false⟩
    let s := (st [(F.PC_EVSEL_EVENT, 33, 1), (F.PC_EVSEL_INDEX, 33, 3), (F.PC_EVSEL_OVF_IE, 33, 1)]).setCtr ⟨.pc, 33, 0⟩ (2 ^ 48 - 1)
    m.isUser = false ∧ (run (.pcEvselWrite m 5 0x80000102) s).rd F.PC_EVSEL_INDEX 5 = 1 ∧
      F.PM_CFG_OFS.get 0x80000000 = s.rd F.PM_CFG_OFS 0 ∧ (run (.pmOfsWrite m 0x80000000) s).rd F.PM_CFG_EN 0 = 1 ∧
      (⟨4, true⟩ : Initiator).isUser = true ∧ (run (.pcEvselWrite ⟨4, true⟩ 5 1) s).answer 9 = .error .priv ∧
      (run (.pcOverflow 33 1) s).ctr ⟨.pc, 33, 0⟩ = 0 ∧ (run (.pcOverflow 33 1) s).rd F.PC_OVF_HI_OVF 0 = 2 ∧
      (run (.pcOverflow 33 1) s).on (leafBit .PC_STICKY 0) 0 = true := by decide +kernel

/-- Witness of DumpRingsTakeSnapshots: ring 1 in its region, due, written, skipped; and the commands. -/
theorem test_dump :
    let m : Initiator := ⟨0, false⟩
    let s := { st [(F.PC_DUMP_CFG_EN, 1, 1), (F.PC_DUMP_SIZE_SIZE, 1, 4)] with
      image := { anchorage := [{ kind := 7, deep := false, owner := 1, base := 0x400, size := 0x1000 }] } }
    let j : DumpJob := ⟨1, [1, 2, 3]⟩
    let b := { s with dumpJobs := [j] }
    s.dumpAt ≠ some s.now ∧ s.on F.PC_DUMP_CFG_EN 1 = true ∧ s.tick.toNat % 2 ^ min 20 (s.rd F.PC_DUMP_CFG_K 1) = 0 ∧ s.dumpFull 1 = false ∧
      s.dumpPlace 1 (s.rd F.PC_DUMP_WR_IDX 1) = some 0x400 ∧ (run .dumpRingDue s).dumpSeq 1 = 1 ∧
      (run .dumpRingDue b).rd F.PC_DUMP_STAT_SKIPPED 1 = 1 ∧ b.dumpJobs.find? (·.ring == 1) = some j ∧ b.on F.PC_DUMP_CFG_DEST 1 = false ∧
      Mem.find (run (.dumpEntryWritten 1) b).anc 0x402 = some 3 ∧ (run (.dumpStop m false) b).on F.PC_DUMP_CFG_EN 1 = false ∧
      F.PC_DUMP_CFG_EN.get 0x80030000 = 1 ∧ (run (.dumpRingEnable m 1 0x80030000) s).rd F.PC_DUMP_CFG_K 1 = 3 := by decide +kernel

/-- Witness of ImageCommandsAreTaken: an image of one entry from idle; the checks' ends; a prepared image committed, aborted; records. -/
theorem test_image :
    let m : Initiator := ⟨0, false⟩
    let im : Image := { manifest := [(7, 0x08000005)], trains := [] , mode := 2, digest := 2 ^ 352 * 9, target := 1 }
    let s := { st [] with image := { anchorage := [⟨8, false, 0, 0, 2 ^ 29⟩] }, previous := some {} }
    let r := { st [(F.SY_IMG_STAT_STATE, 0, 4), (F.GRID_SWAP_STAT_STATE, 0, 3), (F.SY_IMG_AT_LO_AT, 0, 8)] with applied := some im }
    (s.standby = false ∧ s.active = false) ∧ s.imgState = 0 ∧ s.swapTaken = false ∧ s.imageFault {} s.holds = none ∧ s.devState ≠ .recovery ∧
      (run (.imgApply m 0x100 {}) s).imgState = 3 ∧ (run (.imgRevert m 0x500) s).swap.holder = .image ∧
      (run (.imgPersist m 0x101 {}) s).imageJob.record.1 = F.SY_IMG_CMD_SRC.get 0x101 ∧
      r.swapState = .ready ∧ leadFrom r.tick r.imgAt 8 = true ∧ (run (.imgCommit m 0x200) r).imgState = 5 ∧
      leadFrom (r.wr F.SY_IMG_AT_LO_AT 0 7).tick (r.wr F.SY_IMG_AT_LO_AT 0 7).imgAt 8 = false ∧
      (run (.imgCommit m 0x200) (r.wr F.SY_IMG_AT_LO_AT 0 7)).rd F.SY_IMG_STAT_RESULT 0 = 3 ∧
      (run (.imgAbort m 0x300) r).swapState = .idle := by decide +kernel

/-- Witness of ImageCommandsAreTaken: APPLY_DONE with a ready bank and with a broken rule; a record beside two copies. -/
theorem test_image_ends :
    let r := { st [(F.SY_IMG_STAT_STATE, 0, 3), (F.GRID_SWAP_STAT_STATE, 0, 3)] with applied := some { mode := 2 } }
    let b := { st [(F.SY_IMG_STAT_STATE, 0, 2)] with imageJob := { fault := some (5, 1, 75) } }
    let p := { st [(F.SY_IMG_STAT_STATE, 0, 6)] with imageJob := { record := (1, 4096, 77) } }
    r.swapState = .ready ∧ (run .applyDone r).imgState = 4 ∧ (run .applyDone b).rd F.SY_IMG_RULE_RULE 0 = 75 ∧
      (run (.recordWriteDone (some ⟨0xFFFFFFFF, 0, 1, 1⟩) (some ⟨0, 0, 1, 1⟩) true) p).outbox = [.record 0 ⟨1, 1, 4096, 77⟩] ∧
      (run (.recordWriteDone (some ⟨5, 0, 1, 1⟩) (some ⟨5, 0, 1, 1⟩) true) p).outbox = [.record 1 ⟨6, 1, 4096, 77⟩] := by decide +kernel

/-- Witness of ImageCommitsAtItsBoundary: a switched and a missed swap. -/
theorem test_commit :
    let s := { st [(F.SY_IMG_STAT_STATE, 0, 5)] with applied := some { mode := 2 }, swap := { switchedAt := some 0 } }
    s.imgState = 5 ∧ s.tick = s.imageJob.due ∧ s.on F.GRID_SWAP_STAT_ARMED 0 = false ∧ s.swap.switchedAt = some s.now ∧
      (run .imageCommitBoundary { s with swap := {} }).rd F.SY_IMG_STAT_RESULT 0 = 7 := by decide +kernel

/-- Witness of FusesUnlockAndBlockResets: SVN_INC from master 0, its end, an unlock by core 0, and a quay reset. -/
theorem test_fuses :
    let m : Initiator := ⟨0, false⟩
    let s := { st [(F.MM_REP_STAT_VFUSE_OK, 0, 1)] with now := 9 }
    let p := { s with fuseTarget := some 6 }
    let d := { s with fuses := { dbgLock := true } }
    let b := F.SY_BLKRST_GO.set (F.SY_BLKRST_BLOCK.set (F.SY_BLKRST_INDEX.set 0 3) 2) 1
    m.trusted = true ∧ s.fuseCells.refuses (s.on F.SEC_DK_STAT_DK_VALID 0) (F.SEC_FUSE_CMD_TARGET.get (F.SEC_FUSE_CMD_TARGET.set 0 6)) = false ∧
      (run (.fuseProgram m (F.SEC_FUSE_CMD_TARGET.set 0 6)) s).fuseTarget = some 6 ∧ (run (.fuseDone .done) p).fuseCells.svn = 1 ∧
      (run (.fuseDone .verifyFail) p).rd F.SEC_FUSE_STAT_RESULT 0 = 4 ∧ (⟨8, false⟩ : Initiator).trusted = false ∧
      (run (.debugUnlock ⟨2, false⟩ 1) d).on F.SEC_DBG_CTRL_UNLOCKED 0 = true ∧
      F.SY_BLKRST_GO.get b = 1 ∧ s.resourceOf b = some (.quay 3) ∧
      (run (.blockReset m b) s).atBoundary = [.blockReset (.quay 3)] ∧
      (run .blockResetRelease { s with blockResets := [(.quay 3, 8)] }).blockResets = [] := by decide +kernel

/-- Witness of ResetsOnBanksAndFreezes, ResetsClearAndKeepState: power up to BOOT, and SRSTn in NORMAL with a frozen loop. -/
theorem test_resets :
    let straps : Straps := ⟨2, 1, false, true, false⟩
    let s := st []
    let h := { s with thermal := { coolSince := some 0 }, now := 400000, boot := { s.boot with thermal := true } }
    let n := (((st [(F.SY_STATE_STATE, 0, 2), (F.SY_IMG_STAT_STATE, 0, 4)]).setReg .SY_LOOP_FREEZE 0 5).setManifest 1 9 5).modBoot fun b =>
      { b with porst := false }
    let r := run (.srstnAssert [3]) n
    s.boot.porst = true ∧ s.boot.thermal = false ∧ (run (.porstnRelease straps (some 2)) s).rd F.HR_CFG_ROLE 0 = 1 ∧ h.thermalCool = true ∧
      (run (.thermalResetRelease straps none) h).rd F.SY_RST_CAUSE_LAST 0 = 2 ∧ n.boot.srst = false ∧ n.fuseTarget = none ∧
      r.devState = .boot ∧ r.imgState = 0 ∧ r.manifest 1 9 = 5 ∧ r.boot.srst = true ∧ r.boot.before ≠ .boot ∧
      (run (.srstnRelease ⟨none, none, {}, {}⟩) r).devState = .normal ∧ (run (.srstnRelease ⟨none, none, {}, {}⟩) r).sourceSticky 7 = true ∧
      (run (.porstnAssert .torn .blank) r).reg .SY_LOOP_FREEZE 0 = 0 := by decide +kernel

/-- Witness of StartUpFollowsItsTable: each row that needs no image, a rejected host image, training, traffic and a fault. -/
theorem test_start :
    let f : BootFlash := ⟨none, none, {}, {}⟩
    let d : Dimms := ⟨[], true⟩
    let s (b : Nat) (t : Nat) := (st [(F.SY_STRAP_BOOT_SRC, 0, b), (F.SY_STRAP_TEST_EN, 0, t), (F.SY_STRAP_DEF_HALT, 0, 1)]).modBoot fun x =>
      { x with porst := false }
    let w := run (.fuseLoadDone f d none) (s 1 0)
    let u := { st [(F.SY_STATE_STATE, 0, 1)] with committed := true }
    (run (.fuseLoadDone f d none) (s 0 1)).devState = .test ∧ (run (.fuseLoadDone f d none) (s 3 0)).devState = .recovery ∧
      (s 2 0).on F.SY_STRAP_MATE_EN 0 = false ∧ w.boot.hostWait = true ∧ w.devState = .boot ∧
      w.imageReason { headerOk := false } w.installed true = 2 ∧ (run (.hostGo ⟨7, false⟩ 0 { headerOk := false }) w).devState = .recovery ∧
      w.imageReason {} w.installed true = 0 ∧ u.image.inFailed false true = false ∧
      (run (.anchorageTrainingDone true false) u).boot.trained = true ∧
      (run (.anchorageTrainingDone true false) u).trafficCan = true ∧
      (run .trafficReady (run (.anchorageTrainingDone true false) u)).devState = .normal ∧
      (st [(F.SY_STATE_STATE, 0, 2)]).devState = .normal := by decide +kernel

/-- Witness of ThermalGuardAndBist: 135 °C at once, 130 °C for 16 ticks, and the test's commands in TEST. -/
theorem test_thermal :
    let s := (st [(F.LE_STAT_TX_STATE, 0, 3)]).modBoot fun x => { x with porst := false }
    let hot (t : Int) (n : Nat) := { s with thermal := { tj := some t, hot := n } }
    let b := st [(F.SY_STATE_STATE, 0, 3), (F.TS_BIST_STAT_BUSY, 0, 1)]
    let go := F.TS_BIST_CTRL_GO.set 0 1
    let ab := F.TS_BIST_CTRL_ABORT.set 0 1
    (run .thermalShutdown (hot 540 0)).thermal.resetAt = some 1 ∧ (run .thermalShutdown (hot 540 0)).txState 0 = 1 ∧
      ((run .thermalShutdown (hot 520 16)).engine 3).thermal = true ∧ F.TS_BIST_CTRL_GO.get go = 1 ∧ F.TS_BIST_CTRL_ABORT.get go = 0 ∧
      (run (.bistGo ⟨0, false⟩ go) (b.wr F.TS_BIST_STAT_BUSY 0 0)).on F.TS_BIST_STAT_BUSY 0 = true ∧
      (run (.bistGo ⟨0, false⟩ go) s).answer 0 = .error .target ∧ F.TS_BIST_CTRL_GO.get ab = 0 ∧ F.TS_BIST_CTRL_ABORT.get ab = 1 ∧
      (run (.bistAbort ⟨0, false⟩ ab) b).on F.TS_BIST_STAT_DONE 0 = true ∧ (run (.bistDone (some (4000, 1000))) b).rd F.TS_BIST_STAT_COL 0 = 1000 ∧
      (run .sensorFail s).on F.SY_STICKY_THERM_ALARM 0 = true := by decide +kernel

/-- A device with MATE_EN in NORMAL, in a mate state, in step or not. -/
def pair (n step : Nat) : State :=
  (st [(F.SY_STRAP_MATE_EN, 0, 1), (F.SY_STATE_STATE, 0, 2), (F.MT_STAT_STATE, 0, n), (F.MT_STAT_IN_STEP, 0, step), (F.MT_CFG_ARB, 0, 0)]).modBoot
    fun b => { b with porst := false }

/-- Witness of MatePathsAndBeats: lines up and down, beats sent, received and missed. -/
theorem test_beats :
    let s := pair 2 1
    let l := s.modMate fun x => { x with linkGood := 64, linkBad := 4, bollard := { intact := 4, missed := 4 } }
    let u := l.modMate fun x => { x with linkUp := true, bolUp := true }
    let late := { (s.modMate fun x => { x with link := { missed := 3 }, bollard := { missed := 4 } }) with tick := 10, now := 99 }
    let lost (n : Nat) := { late with regs := (late.wr F.MT_STAT_STATE 0 n).regs }
    let b : MateBeat := { state := 2, inStep := true }
    s.mateEnabled = true ∧ s.mateState ≠ 0 ∧ s.mateBoot = false ∧ (run .mateLinkUp l).mate.linkUp = true ∧
      (run .mateLinkDown u).mate.linkUp = false ∧ (run .bollardLineChange l).mate.bolUp = true ∧
      (run .bollardLineChange u).mate.bolUp = false ∧ s.mate.sentAt ≠ some s.now ∧ (run .beatSend s).outbox = [.beat s.ownBeat.bytes] ∧
      ahead s.tick b.tick ≤ 2 ∧ (run (.beatReceive .link b true) s).rd F.MT_STAT_MSTATE 0 = 2 ∧
      s.yields { state := 1, serial := 5 } = false ∧
      (run (.beatReceive .link { state := 1, serial := 5 } true) (pair 1 1)).on F.MT_STICKY_DUAL_ACTIVE 0 = true ∧
      (run (.beatReceive .bollard { state := 4, release := true } true) s).mate.takeAt = some 0 := by decide +kernel

/-- Witness of MatePathsAndBeats: the fourth miss in each role, presence, grant, and a frame with an entry. -/
theorem test_misses :
    let late := { ((pair 2 1).modMate fun x => { x with link := { missed := 3 }, bollard := { missed := 4 } }) with tick := 10, now := 99 }
    let alive := late.modMate fun x => { x with presAt := some 75 }
    (late.mate.sight .link).heard ≠ some 8 ∧ (late.mate.sight .link).missedAt ≠ some 8 ∧ late.presAlive = false ∧ alive.presAlive = true ∧
      (run (.beatMiss .link) late).mate.takeAt = some 100 ∧ (run (.beatMiss .link) alive).mateState = 4 ∧
      (run (.beatMiss .link) (late.wr F.MT_STAT_IN_STEP 0 0)).mateState = 5 ∧
      (run (.beatMiss .link) (late.wr F.MT_STAT_STATE 0 1)).on F.MT_STICKY_MATE_LOST 0 = true ∧
      (run .matePresEdge late).on F.MT_STAT_PRES 0 = true ∧
      (run .matePresTimeout (pair 4 1 |>.wr F.MT_STAT_PRES 0 1)).mate.takeAt = some 1 ∧
      (run (.actGrantChange false) ((pair 1 0 |>.wr F.MT_CFG_ARB 0 1).modMate fun x => { x with grant := true, linkUp := true })).on
        F.MT_STICKY_GRANT_CONFLICT 0 = true ∧
      (run (.mateFrameReceive ⟨some 10, true, [], [], [⟨1, 12, 0, .switchover⟩]⟩) late).journal = [⟨1, 12, 101, .switchover⟩] := by decide +kernel

/-- Witness of MateRolesAndEpochs: a takeover, grants, resync, a switchover and its entry, GRACE. -/
theorem test_roles :
    let m : Initiator := ⟨0, false⟩
    let s := (pair 2 1).modMate fun x => { x with takeAt := some 0 }
    let g := ((pair 5 1).wr F.MT_CFG_ARB 0 1).modMate fun x => { x with grantHigh := 2 }
    let a := ((pair 1 1).modMate fun x => { x with linkUp := true, bolUp := true }).wr F.MT_STAT_MSTATE 0 2 |>.wr F.MT_STAT_M_IN_STEP 0 1
    let j := { pair 2 1 with journal := [⟨1, 5, 1, .switchover⟩] }
    (run .takeover s).mateState = 1 ∧ s.mate.quiet = false ∧ g.granted = true ∧ (run .effectiveGrant g).on F.MT_STICKY_TAKEOVER 0 = true ∧
      (run (.swGrant m 4) (pair 5 0)).on F.MT_STICKY_TAKEOVER_HIT 0 = true ∧ (run (.swGrant m 4) (pair 5 1)).mateState = 1 ∧
      (run (.resync m 2) (pair 2 1)).rd F.MT_STAT_PHASE 0 = 2 ∧ a.mate.pathUp .link = true ∧ a.mate.pathUp .bollard = true ∧
      1 = (j.rd F.MT_JSEQ_JSEQ 0 + 1) % 2 ^ 32 ∧
      (run (.switchover m 1) a).journal.length = 1 ∧ (run (.journalApply none) j).mate.quiet = true ∧
      (run .graceExpiry { (pair 2 1).modMate fun x => { x with linkDownAt := some 0 } with now := 312500 * 256 }).rd F.MT_STAT_PHASE 0 = 2 := by
  decide +kernel

/-- Witness of MateRolesAndEpochs: comparisons, epochs and the decision of BOOT. -/
theorem test_epochs :
    let c (n : Nat) (x : Nat) := { (pair n x).modMate fun x => { x with linkUp := true, sums := [0], compared := [true, true, true] } with tick := 3 }
    let o : Snapshot := { State.reset.takeSnapshot with ctrs := [((Ctr.key ⟨.lf, 1, 0⟩), 4)] }
    let e := { pair 3 0 with tick := BitVec.ofNat 48 (pair 3 0).epochTicks, snapshotBefore := some o }
    let b := { (st [(F.SY_STRAP_MATE_EN, 0, 1)]).modBoot fun x => { x with porst := false, chosen := some ⟨{}, 0, 0, 0⟩ } with
      now := 6250, mate := { listenAt := some 0, heard := { active := true } } }
    (c 2 1).mate.sums.contains ((c 2 1).tick - 3) = true ∧ (run (.mateCompare [] true) (c 2 1)).rd F.MT_STAT_RUN 0 = 1 ∧
      (run (.mateCompare [] true) (((c 3 0).wr F.MT_STAT_PHASE 0 3).wr F.MT_STAT_RUN 0 999)).mateState = 2 ∧
      (run (.mateCompare [(9, false)] true) (c 2 1)).rd F.MT_MISS_PORT_PORT 0 = 9 ∧
      (run (.mateCompare [(9, false)] true) (c 2 1)).rd F.MT_STAT_PHASE 0 = 2 ∧ e.tick.toNat % e.epochTicks = 0 ∧
      (run (.epochApply true [(.counter ⟨.lf, 1, 0⟩ 9, false)]) e).ctr ⟨.lf, 1, 0⟩ = 5 ∧
      (run (.epochApply false []) e).on F.MT_STICKY_EPOCH_DISCARD 0 = true ∧ b.mateBoot = true ∧ (run .mateBootDecision b).mateState = 3 := by
  decide +kernel

/-- A manager or worker (ROLE 1 or 2) with member id 3 and all four ports on. -/
def member (role : Nat) : State := st [(F.HR_CFG_ROLE, 0, role), (F.HR_CFG_ID, 0, 3), (F.HR_CFG_PORT_EN, 0, 15), (F.HR_ROUTE_VALID, 5, 1), (F.HR_ROUTE_PORT, 5, 2)]

/-- Witness of MooringPortsWork: frames, lanes, RETIRE, RMAP and foreign ports. -/
theorem test_mooring :
    let s := (member 1).wr F.HR_PORT_STAT_LOST 1 0
    let m : Initiator := ⟨0, false⟩
    let x := s.modMoor 1 fun x => { x with goodRuns := List.replicate 9 3125, rmap := ⟨4, 3⟩, foreignRun := 16, matchRun := 16 }
    s.portOn 1 = true ∧ (st []).portOn 1 = false ∧ s.isManager = true ∧ s.rd F.HR_PORT_STAT_LOST 1 = 0 ∧
      s.on F.HR_PORT_STAT_FOREIGN 1 = false ∧ (run (.mooringFrameReceive 1 { sender := 9, hops := 31, sbip := 8 }) s).rd F.HR_PORT_STAT_NBR_ID 1 = 9 ∧
      (run (.mooringFrameReceive 1 { sbip := 8 }) s).ctr ⟨.hr, 10, 1⟩ = 8 ∧
      (run (.laneRestored 1 8) (x.wr F.HR_PORT_STAT_LOST 1 0x180)).rd F.HR_PORT_STAT_LOST 1 = 0x80 ∧
      oneBit (F.HR_PORT_CFG_RETIRE.get 0x100) = true ∧ oneBit (F.HR_PORT_CFG_RETIRE.get 0x101) = false ∧
      (run (.hrRetireWrite m 0x100) s).rd F.HR_PORT_CFG_RETIRE 0 = 0x100 ∧ (run (.hrRetireWrite m 3) s).on F.HR_STICKY_RETIRE_REJ 0 = true ∧
      (run (.rmapAccept 1) x).rd F.HR_PORT_STAT_FAR_RETIRE 1 = 4 ∧ (run (.domainMis 1) x).on F.HR_PORT_STAT_SSF 1 = true ∧
      (run (.domainMis 1) (x.wr F.HR_PORT_STAT_FOREIGN 1 1)).on F.HR_PORT_STAT_FOREIGN 1 = false := by decide +kernel

/-- Witness of MooringPortsWork: the timing port of a worker, HELLO, routes and packets. -/
theorem test_ccpackets :
    let m : Initiator := ⟨0, false⟩
    let w := ([1, 2, 3].foldl (fun s m => s.wr F.HR_PORT_STAT_SSF m 0) (member 2)).wr F.HR_STAT_TVALID 0 1 |>.wr F.HR_PORT_STAT_NBR_HOPS 1 2
    let u := { ((w.modMoor 0 fun x => { x with tno := 100, tnoAt := some 0, tickRun := 16 }).modBoot fun b => { b with tickWait := true }) with
      regs := (w.wr F.SY_STATE_STATE 0 1).regs }
    let h := { w.modMoor 2 (fun x => { x with helloAt := some 0 }) with now := 1024 }
    let t := { w with ccUser := { writing := some (5, ⟨4, [], false⟩) } }
    w.isWorker = true ∧ w.hopCount.2 = some 1 ∧ w.portLinks 0 = false ∧ (run .timingPortSwitch w).rd F.HR_STAT_TPORT 0 = 1 ∧
      (run .workerTickSet u).boot.tickAt = some 101 ∧ (run .workerTickMismatch u).on F.TM_STICKY_TICK_MISMATCH 0 = true ∧
      ((run .helloSend w).moor 3).urgent.length = 1 ∧ w.portLinks 1 = true ∧
      ((run (.helloReceive 1 ⟨7, 0x1FF, 2, 3, false, []⟩) w).rd F.HR_ROUTE_SERIAL 7) = 0xFF ∧
      (run (.helloReceive 1 ⟨3, 1, 2, 3, false, []⟩) w).on F.HR_DSTICKY_ID_CONFLICT 0 = true ∧
      (run (.routeExpiry 2) h).on F.HR_ROUTE_VALID 5 = false ∧
      (run (.ccPacketReceive 1 ⟨3, 1, 4, 0, 9, [1]⟩ true) w).ccUser.rx = [[0x10001, 0x01000000]] ∧ w.routeTo 5 = some 2 ∧
      ((run (.ccPacketReceive 1 ⟨5, 1, 2, 0, 9, [1]⟩ true) w).moor 2).queued = [⟨5, 1, 1, 0, 9, [1]⟩] ∧
      (run (.ccPacketReceive 1 ⟨5, 1, 2, 0, 9, [1]⟩ false) w).on F.HR_STICKY_CC_DROP 1 = true ∧
      (run (.hrCcTxdWrite m 0x500FA) w).ccUser.writing = some (5, ⟨250, [], false⟩) ∧
      ((run (.hrCcTxdWrite m 0x01020304) t).moor 2).queued = [⟨5, 3, 15, 0, 0, [1, 2, 3, 4]⟩] ∧
      (run (.hrCcRxdRead m) { w with ccUser := { rx := [[7]] } }).ccUser.rx = [] := by decide +kernel

/-- Witness of DomainCommitRunsItsSteps: a manager's commit from START to its close, and a worker's part. -/
theorem test_domain :
    let m : Initiator := ⟨0, false⟩
    let s := (member 1).wr F.HR_DC_AT_LO_AT 0 65
    let v : Word := 0x00217F11
    let d : DomainCommit := { manager := true, change := 9, commit := false, n := 100, members := 0x21, decided := false }
    let a (n : Nat) (ack : Nat) := { s.wr F.HR_DC_ACK_MASK 0 ack with domain := some d, tick := BitVec.ofNat 48 n, swap := { holder := .domain } }
    let c (ack : Nat) := { a 116 ack with domain := some { d with decided := true, own := false } }
    (s.standby = false ∧ s.active = false) ∧ F.HR_DC_CMD_START.get v = 1 ∧ leadFrom s.tick s.dcAt (65 + 3 * s.xlead) = true ∧
      F.HR_DC_CMD_ACTION.get v = 0 ∧ (F.HR_DC_CMD_MEMBERS.get v).testBit 0 = true ∧ (run (.dcStart m v) s).rd F.HR_DC_STAT_STATE 0 = 1 ∧
      ((run (.dcStart m v) s).moor 2).urgent.length = 1 ∧
      (run (.dcStart m v) (s.wr F.HR_DC_AT_LO_AT 0 64)).rd F.HR_DC_STAT_RESULT 0 = 4 ∧
      (run (.dcStart m v) (member 2)).rd F.HR_DC_STAT_RESULT 0 = 3 ∧ (run (.dcStart m v) (a 0 0)).rd F.HR_DC_STAT_RESULT 0 = 2 ∧
      (run (.dcReplyReceive 5 9 100 .armed) (a 0 0)).rd F.HR_DC_ACK_MASK 0 = 0x200000 ∧
      (run (.dcReplyReceive 5 9 100 .applied) (a 0 0)).rd F.HR_DC_ACK_MASK 0 = 0x20 ∧
      (a 84 0).within 100 (16 + s.xlead) = true ∧ (run .dcDecide (a 84 0x210000)).rd F.HR_DC_STAT_STATE 0 = 2 ∧
      (run .dcDecide (a 84 0x200000)).rd F.HR_DC_STAT_RESULT 0 = 5 ∧ (a 83 0).within 100 (16 + s.xlead) = false ∧
      (c 0).past 100 (16 + s.xlead) = true ∧ (run .dcClose (c 0x210021)).rd F.HR_DC_STAT_STATE 0 = 4 ∧
      (run .dcClose (c 0x210001)).rd F.HR_DC_SKEW_MASK 0 = 0x20 := by decide +kernel

/-- Witness of DomainCommitRunsItsSteps: a worker's steps and the end of a rollback. -/
theorem test_worker :
    let s := member 2
    let d : DomainCommit := { manager := false, change := 9, commit := false, n := 100 }
    let a (d : DomainCommit) (n : Nat) := { s.wr F.HR_ROUTE_VALID 0 1 with domain := some d, tick := BitVec.ofNat 48 n }
    (run (.dcArmReceive 9 false 100) s).swap.holder = .domain ∧ ((run (.dcArmReceive 8 true 90) (a d 0)).moor 0).urgent.length = 1 ∧
      ((run (.dcGoReceive 9 100) (a d 0)).domain.map (·.go)) = some true ∧ (run (.dcAbortReceive 9 100) (a d 0)).domain.isNone = true ∧
      (a d 92).within 100 8 = true ∧ ((run .dcHold (a d 92)).domain.map (·.decided)) = some true ∧
      ((run (.dcRollbackReceive 9 500) (a { d with applied := some true } 0)).swap.holder) = .domain ∧
      (run .dcRollbackApply (a { d with manager := true, rollback := some 500 } 500)).rd F.HR_DC_STAT_RESULT 0 = 6 ∧
      (run .dcRollbackApply (a { d with rollback := some 500 } 500)).domain.isNone = true ∧
      (a { d with rollback := some 500 } 499).past 500 0 = false := by decide +kernel

/-- Witness of ControlPlaneUnitsAct: cores, applets and the mailboxes. -/
theorem test_cores :
    let m : Initiator := ⟨0, false⟩
    let s := (st [(appletField 7, 0, 3), (appletField 2, 0, 2), (F.SY_MBX_PTR, 0, 63)]).modBoot fun b => { b with porst := false }
    let v := s.writeVector 3 0x11000000
    let r := s.setCore 3 { running := true }
    m.trusted = true ∧ (run (.bootswap m 1) s).on F.SY_REMAP_BOOTSWAP 0 = true ∧ (⟨2, true⟩ : Initiator).isUser = true ∧
      (run (.bootswap ⟨2, true⟩ 1) s).answer 5 = .error .priv ∧ (v.core 3).vectored = true ∧
      (run (.coreRunWrite m 8 0) v).atBoundary = [.coreStart 3] ∧ ((run (.coreRunWrite m 0 8) r).core 3).running = false ∧
      (run (.coreRunWrite m 0 8) r).on F.BM_STICKY_MRESET 0 = true ∧ (run (.coreRunWrite ⟨2, true⟩ 8 0) v).answer 5 = .error .priv ∧
      ((run (.coreTimerCompare 1) { s with tick := 9 }).core 1).mtip = decide (s.timerCompare 1 ≤ 9) ∧
      F.SY_APPLET_CTRL_START.get 0x80 = 2 ^ 7 ∧ (run (.appletStart m 0x80) s).rd (appletField 7) 0 = 2 ∧
      F.SY_APPLET_CTRL_STOP.get 0x400 = 2 ^ 2 ∧ (run (.appletStop m 0x400) s).rd (appletField 2) 0 = 1 ∧
      (run (.appletFault 2 7 0x11000008) s).rd F.SY_APPLET_FLT_MEPC 0 = 0x400002 ∧ (run .i2cReadId s).outbox.length = 1 ∧
      (run (.i2cMbxWrite [7, 8] true) s).rd F.SY_MBX_IN_LEN 0 = 2 ∧
      (run (.i2cMbxWrite [7] true) (s.wr F.SY_MBX_IN_FULL 0 1)).outbox = [.i2cNak] ∧ (run .i2cMbxRead s).outbox = [.i2c []] ∧
      (run (.syMbxDataRead m) s).rd F.SY_MBX_PTR 0 = 0 ∧ (run (.syMbxDataWrite m 0x1FF) s).mailbox.outbound.getD 63 0 = 0xFF := by decide +kernel

/-- Witness of ControlPlaneUnitsAct: flash, STATUS_WORD and the UART at its limits. -/
theorem test_uart :
    let m : Initiator := ⟨0, false⟩
    let s := (st []).modBoot fun b => { b with porst := false }
    let b := st [(F.SY_QSPI_CMD_BUSY, 0, 1), (F.SY_QSPI_CMD_LEN, 0, 4)]
    let full := { s with uart := { tx := List.replicate 64 1, rx := List.replicate 64 2 } }
    F.SY_QSPI_CMD_WR.get 0x4008009F = 0 ∧ F.SY_QSPI_CMD_ADDR_B.get 0x4008009F = 0 ∧
      (run (.qspiGo m 0x4008009F) s).outbox = [.flash 0x9F false [] 4 []] ∧ (run (.qspiGo m 0x4008009F) b).on F.SY_STICKY_QSPI_ERR 0 = true ∧
      (run (.qspiDone [1, 2, 3, 4]) b).reg .SY_QSPI_BUF 0 = 0x01020304 ∧
      (run (.qspiDone [1, 2, 3, 4]) (b.wr F.SY_QSPI_CMD_WR 0 1)).reg .SY_QSPI_BUF 0 = 0 ∧
      (run (.pmbusAlert 0x41 0x82) s).rd F.SY_AVS_LE_STATUS 0 = 0x82 ∧ (run (.uartTxWrite m 0x141) s).uart.tx = [0x41] ∧
      (run (.uartTxWrite m 0x41) full).uart.tx.length = 64 ∧ (run (.uartRxRead m) full).uart.rx.length = 63 ∧
      (run (.uartRxByte 9) s).uart.rx = [9] ∧ (run (.uartRxByte 9) full).uart.rx.length = 64 := by decide +kernel

/-- Witness of HostsReachTheDevice: the matrix, the endpoint, the local bus, JTAG and register writes. -/
theorem test_bus :
    let m : Initiator := ⟨0, false⟩
    let s := { (st []).modBoot fun b => { b with porst := false, loaded := true } with
      linkUp := true, pcie := { memory := true }, mem := [(0x12000007, 0xAB)], lbPage := 4 }
    let x : Beat := {}
    s.pcieOn = true ∧ memTarget 0x90000000 = none ∧
      (run (.defaultTargetAccess m ⟨true, 0x90000000, [x], false⟩) s).answer 0 = .beats [.error .default] ∧
      (run (.busTimeout m true 0x40000000) s).rd F.BM_ERR_CAUSE 0 = 3 ∧ s.barHit 0x12000004 = some (false, 0x12000004) ∧
      s.badWords.contains 0x1200000 = false ∧ s.march.borrowed = none ∧
      (run (.pcieRequest false 0x12000004 [x] {}) s).outbox = [.completion .success [0xAB00000000000000]] ∧
      s.barHit 0x700000000 = none ∧ (run (.pcieRequest false 0x700000000 [x] {}) s).outbox = [.completion .unsupported []] ∧
      (run (.pcieReset .perst true) s).linkUp = false ∧ (run (.pcieReset .flr true) s).on F.BM_STICKY_MRESET 0 = true ∧
      (run .pcieLinkUp { s with linkUp := false }).linkUp = true ∧
      (run (.pcieConfigurationRequest (.write 4 0xF 0xD2345678)) s).pcie.bar0 = 0xC0000000 ∧
      (run (.pcieConfigurationRequest (.write 1 1 6)) s).busMaster = true ∧ s.localOn = true ∧
      2 ^ 26 * s.lbPage + 4 * 0x800001 = 0x12000004 ∧
      (run (.localBusAccess false 0x800001 0xF 0 .clean none {}) s).outbox = [.localBus false false 0xAB000000] ∧
      (run (.lbPageWrite 0x45) s).lbPage = 5 ∧ (run (.localBusTimeout true 3) s).rd F.BM_ERR_MASTER 0 = 1 := by decide +kernel

/-- Witness of HostsReachTheDevice and TickNoAdvancesAtEveryBoundary: JTAG, register writes, and a wrap of TICK_NO. -/
theorem test_jtag :
    let m : Initiator := ⟨0, false⟩
    let s := (st [(F.SY_STATE_STATE, 0, 3)]).modBoot fun b => { b with porst := false, loaded := true }
    s.debugOpen = true ∧ (run (.jtagAccess .boundaryScan {}) s).scanning = true ∧ ((run (.jtagAccess (.halt 2) {}) s).core 2).halted = true ∧
      (st []).debugOpen = false ∧ (run (.registerWrite m 0x21000010 77 {}) s).reg .GRID_SWAP_AT_LO 0 = 77 ∧
      (run (.registerWrite ⟨4, false⟩ 0x21000400 0xFFFFFFFF {}) s).reg .TR_SEL 8 = 0xFFF ∧
      (run (.registerWrite ⟨4, true⟩ 0x20000110 1 {}) s).answer 9 = .error .priv ∧ s.boot.tickAt = none ∧ s.thermal.resetAt = none ∧
      (run (.tickBoundary []) { s with tick := 0xFFFFFFFFFFFF }).tick = 0 := by decide +kernel

/-- Witness of EachMasterLatchesTheTickNumber: the host reads between two reads of a core in user mode. -/
theorem test_tick_latch :
    let m : Initiator := ⟨2, true⟩
    let h : Initiator := ⟨2, false⟩
    let s := { st [] with tick := 0x1234FFFFFFFF }
    let t := run (.syTicknoLoRead m) s
    h.copy ≠ m.copy ∧ t.answer m.copy = .ok 0xFFFFFFFF ∧
      (([(h, 0x20000100, (0x123500000000 : Tick)), (h, 0x27000018, 5)].foldl
        (fun u x => { u with tick := x.2.2 }.readReg x.1 x.2.1) t).readReg m 0x20000104).answer m.copy = .ok 0x1234 := by decide +kernel

/-- Witness of LowHalfReadsLatchTheHighHalf: counters at their limits, selected by the master's own registers. -/
theorem test_latches :
    let m : Initiator := ⟨1, false⟩
    let s := st [(F.LN_CHSEL_LANE, 2, 127), (F.TR_SEL_TRAIN, 2, 4095), (F.QY_CSEL_CNT, 2, 9), (F.FP_SEL_ENGINE, 2, 7), (F.FP_SEL_CNT, 2, 3),
      (F.MG_CSEL_CNT, 2, 8), (F.MT_CSEL_CNT, 2, 9), (F.HR_CSEL_CNT, 2, 11), (F.LE_SEL_ENGINE, 2, 3), (F.LF_PM_SEL_CNT, 2, 12),
      (F.TD_CSEL_CNT, 2, 22), (F.MM_ECC_ADDR_LO_ADDR_LO, 0, 64), (F.GRID_SWAP_DONE_LO_DONE_LO, 0, 9)]
    let s := (s.count ⟨.trBip, 0, 4095⟩ 0x1FFFFFFFF).count ⟨.pc, 63, 0⟩ 0xFFFFFFFFFFFF
    (run (.trBipLoRead m) s).answer 2 = .ok 0xFFFFFFFF ∧ (run (.trBipLoRead m) s).rd F.TR_BIP_HI_CNT_HI 2 = 1 ∧
      (run (.pcCntLoRead m 63) s).rd F.PC_CNT_HI_CNT_HI (2 * 65 + 63) = 0xFFFF ∧ (run (.pcCntLoRead m 64) s).answer 2 = .ok 0 ∧
      s.pcReadRefused m = false ∧ s.pcReadRefused ⟨2, true⟩ = true ∧ (run (.pcCntLoRead ⟨2, true⟩ 0) s).answer 5 = .error .priv ∧
      s.leads (s.quaySel m) = true ∧ (s.wr F.QY_CFG_LEAD 0 1).leads 0 = false ∧ s.engineExists (s.engineSel m) = true ∧
      s.engineExists 8 = false ∧ (s.rd F.FP_SEL_ENGINE 2 = 7) ∧ s.rd F.MG_CSEL_CNT 2 = 8 ∧ s.rd F.MT_CSEL_CNT 2 = 9 ∧
      s.rd F.HR_CSEL_CNT 2 = 11 ∧ s.rd F.LF_PM_SEL_CNT 2 = 12 ∧ s.rd F.TD_CSEL_CNT 2 = 22 ∧ s.rd F.QY_CSEL_CNT 2 = 9 ∧
      (run (.lnErrLoRead m) s).answer 2 = .ok 0 ∧ (run (.lnBitsLoRead m) s).answer 2 = .ok 0 ∧ (run (.qyCntLoRead m) s).answer 2 = .ok 0 ∧
      (run (.lfFnoLoRead m) s).answer 2 = .ok 0 ∧ (run (.lfPmLoRead m) s).answer 2 = .ok 0 ∧ (run (.fpCntLoRead m) s).answer 2 = .ok 0 ∧
      (run (.tdCntLoRead m) s).answer 2 = .ok 0 ∧ (run (.mgCntLoRead m) s).answer 2 = .ok 0 ∧ (run (.mtCntLoRead m) s).answer 2 = .ok 0 ∧
      (run (.hrCntLoRead m) s).answer 2 = .ok 0 ∧ (run (.gridSwapDoneLoRead m) s).answer 2 = .ok 9 ∧
      (run (.mmEccAddrLoRead m) s).answer 2 = .ok 64 ∧ (run (.tmTb0Read m) s).answer 2 = .ok 0 ∧
      (run (.tdCntLoRead m) ((s.wr F.SY_ID_VARIANT 0 3).wr F.LE_SEL_ENGINE 2 4)).answer 2 = .error .default := by
  decide +kernel

/-- Witness of StepRunsTheCommandAtTheFront: a command with another behind it, and an empty queue. -/
theorem test_step :
    let s := { st [] with pending := [.lbPageWrite 5, .trafficReady] }
    s.pending = .lbPageWrite 5 :: [.trafficReady] ∧ (st []).pending = [] ∧
      step s = exec (.lbPageWrite 5) { s with pending := [.trafficReady] } := ⟨rfl, rfl, rfl⟩

/-- Witness of EveryStepKeepsTheInvariant and ReservedBitsStayClear: a state that meets the invariant with the queue and a FIFO at their
limits, and a write of ones over reserved bits. -/
theorem test_inv :
    let s := { State.reset with pending := [.registerWrite ⟨0, false⟩ 0x21000400 0xFFFFFFFF {}], uart := { rx := List.replicate 64 0 } }
    s.Inv ∧ ∃ t, step s = .next t ∧ t.reg .TR_SEL 0 = 0xFFF :=
  ⟨⟨⟨fun _ h => (List.not_mem_nil h).elim, rfl⟩, rfl, Nat.zero_le _, Nat.zero_le _, Nat.le_refl _⟩, _, rfl, by decide +kernel⟩

/-- Witness of MatesJournalWrites: the active enters the write, the standby refuses it. -/
theorem test_journal :
    let m : Initiator := ⟨5, true⟩
    let a := { st [(F.MT_STAT_STATE, 0, 1), (F.MT_JSEQ_JSEQ, 0, 0xFFFFFFFF), (F.MT_CFG_JLEAD, 0, 255), (F.LN_CHSEL_LANE, 11, 127)] with
      tick := 0xFFFFFFFFFFFF }
    let b := st [(F.MT_STAT_STATE, 0, 2)]
    let j := st [(F.MT_STAT_STATE, 0, 3)]
    m.journals = true ∧ (⟨6, false⟩ : Initiator).journals = false ∧ a.active = true ∧ a.standby = false ∧ b.standby = true ∧
      j.standby = true ∧
      (run (.injectSingle m) a).journal = [⟨0, 254, 255, .injectSingle 127⟩] ∧ (run (.injectSingle m) b).answer 11 = .error .target ∧
      (run (.injectSingle m) j).on F.MT_STICKY_LOCAL_WR 0 = true ∧ (run (.prepare m) b).journal = [] := by decide +kernel

end Sys2Proof.Tests
end

section
/-! The frame predicates `OnlyAt`, `OnlyRegs` and `SameMemory` through the basic updates, and what an answer leaves. -/

namespace Sys2Proof.Machine

theorem State.sameMemory_refl (s : State) : s.SameMemory s := ⟨rfl, rfl, rfl, rfl⟩

theorem State.SameMemory.trans {s t u : State} (h : s.SameMemory t) (k : t.SameMemory u) : s.SameMemory u :=
  ⟨k.1.trans h.1, k.2.1.trans h.2.1, k.2.2.1.trans h.2.2.1, k.2.2.2.trans h.2.2.2⟩

/-- The registers are all that a statement about registers sees. -/
theorem State.reg_congr {s t : State} (h : t.regs = s.regs) (r : Reg) (i : Nat) : t.reg r i = s.reg r i := by
  simp only [State.reg, h]

@[simp] theorem State.reg_reply (s : State) (m : Initiator) (a : Answer) (r : Reg) (i : Nat) : (s.reply m a).reg r i = s.reg r i := rfl

@[simp] theorem State.reg_replyWord (s : State) (m : Initiator) (v : Nat) (r : Reg) (i : Nat) :
    (s.replyWord m v).reg r i = s.reg r i := rfl

@[simp] theorem State.rd_replyWord (s : State) (m : Initiator) (v : Nat) (f : Field) (i : Nat) :
    (s.replyWord m v).rd f i = s.rd f i := rfl

@[simp] theorem State.answer_reply (s : State) (m : Initiator) (a : Answer) : (s.reply m a).answer m.copy = a := by
  simp [State.reply]

@[simp] theorem State.answer_replyWord (s : State) (m : Initiator) (v : Nat) :
    (s.replyWord m v).answer m.copy = .ok (BitVec.ofNat 32 v) := State.answer_reply s m _

/-! ### Frames -/

theorem State.OnlyAt.trans {s t u : State} {i : Nat} {rs : List Reg} (h : s.OnlyAt t i rs) (k : t.OnlyAt u i rs) : s.OnlyAt u i rs :=
  fun r j h0 h1 h2 => (k r j h0 h1 h2).trans (h r j h0 h1 h2)

theorem State.onlyAt_of_regs {s t : State} (h : t.regs = s.regs) (i : Nat) (rs : List Reg) : s.OnlyAt t i rs :=
  fun r j _ _ _ => State.reg_congr h r j

/-- A copy that a frame leaves alone is no copy of a listed register. -/
theorem Reg.ne_of_frame {q r : Reg} {i j : Nat} {rs : List Reg} (h : r ∉ rs ∨ j ≠ i) (hq : q ∈ rs) : q ≠ r ∨ i ≠ j :=
  h.imp (fun h e => h (e ▸ hq)) Ne.symm

theorem State.onlyAt_wr (s : State) {f : Field} {rs : List Reg} (h : f.reg ∈ rs) (i v : Nat) : s.OnlyAt (s.wr f i v) i rs :=
  fun _ _ hr _ _ => State.reg_wr_ne (Reg.ne_of_frame hr h) s v

theorem State.onlyAt_setReg (s : State) {q : Reg} {rs : List Reg} (h : q ∈ rs) (i : Nat) (v : Word) :
    s.OnlyAt (s.setReg q i v) i rs := by
  intro r j hr _ _
  rw [State.reg_setReg, if_neg]
  exact fun e => (Reg.ne_of_frame hr h).elim (· e.1) (· e.2)

/-- A raised event writes no copy but its own, and those of EV_STICKY and EV_SRC_CNT. -/
theorem State.onlyAt_raise (s : State) {f : Field} {rs : List Reg} (h : f.reg ∈ rs) (i : Nat) : s.OnlyAt (s.raise f i) i rs := by
  intro r j hr h1 h2
  have hw : (s.wr f i 1).reg r j = s.reg r j := State.onlyAt_wr s h i 1 r j hr h1 h2
  unfold State.raise
  dsimp only
  split
  · rfl
  · split
    · exact hw
    · split <;> split <;> simp only [State.report_reg _ _ _ _ _ h1 h2, hw]

theorem State.OnlyAt.replyWord {s t : State} {i : Nat} {rs : List Reg} (h : s.OnlyAt t i rs) (m : Initiator) (v : Nat) :
    s.OnlyAt (t.replyWord m v) i rs := h

theorem State.raise_sameMemory (s : State) (f : Field) (i : Nat) : s.SameMemory (s.raise f i) := ⟨by simp, by simp, by simp, by simp⟩

theorem State.OnlyRegs.trans {s t u : State} {rs : List Reg} (h : s.OnlyRegs t rs) (k : t.OnlyRegs u rs) : s.OnlyRegs u rs :=
  fun r j h0 h1 h2 => (k r j h0 h1 h2).trans (h r j h0 h1 h2)

theorem State.OnlyRegs.mono {s t : State} {rs qs : List Reg} (h : s.OnlyRegs t rs) (hs : rs ⊆ qs) : s.OnlyRegs t qs :=
  fun r j h0 h1 h2 => h r j (fun hr => h0 (hs hr)) h1 h2

theorem State.onlyRegs_of_regs {s t : State} (h : t.regs = s.regs) (rs : List Reg) : s.OnlyRegs t rs :=
  fun r j _ _ _ => State.reg_congr h r j

theorem State.OnlyAt.onlyRegs {s t : State} {i : Nat} {rs : List Reg} (h : s.OnlyAt t i rs) : s.OnlyRegs t rs :=
  fun r j h0 h1 h2 => h r j (.inl h0) h1 h2

/-- Two fields share no bit. -/
def Field.apart (f g : Field) : Bool := f.reg != g.reg || (f.good && g.good && (decide (g.hi < f.lo) || decide (f.hi < g.lo)))

theorem State.rd_wr_apart {f g : Field} (h : f.apart g = true) (s : State) (i v j : Nat) : (s.wr f i v).rd g j = s.rd g j := by
  by_cases hr : f.reg = g.reg
  · by_cases hi : i = j
    · subst hi
      simp only [Field.apart, hr, bne_self_eq_false, Bool.false_or, Bool.and_eq_true, Bool.or_eq_true, decide_eq_true_eq] at h
      obtain ⟨⟨hf, hg⟩, hd⟩ := h
      exact State.rd_wr_field hf hg hr hd s i v
    · exact State.rd_wr_reg (.inr hi) s v
  · exact State.rd_wr_reg (.inl hr) s v

/-! ### The error response (R513) -/

/-- An access that receives the error response writes BM_ERR, BM_ERR_ADDR and BM_STICKY only (R513). -/
theorem State.busError_onlyAt (s : State) (m : Initiator) (w : Bool) (a : Nat) (c : BusCause) :
    s.OnlyAt (s.busError m w a c) 0 [.BM_ERR, .BM_ERR_ADDR, .BM_STICKY] := by
  have err {t : State} {f : Field} (v : Nat) (h : f.reg ∈ [.BM_ERR, .BM_ERR_ADDR, .BM_STICKY]) :
      t.OnlyAt (t.wr f 0 v) 0 [.BM_ERR, .BM_ERR_ADDR, .BM_STICKY] := State.onlyAt_wr t h 0 v
  unfold State.busError
  refine (err _ ?_).trans <| (err _ ?_).trans <| (err _ ?_).trans <| (err _ ?_).trans <| (err _ ?_).trans <| (err _ ?_).trans <|
    (State.onlyAt_raise _ ?_ 0).trans <| State.onlyAt_of_regs (State.accessFault_regs ..) 0 _
  all_goals decide

theorem State.busError_sameMemory (s : State) (m : Initiator) (w : Bool) (a : Nat) (c : BusCause) :
    s.SameMemory (s.busError m w a c) := ⟨by simp, by simp, by simp, by simp⟩

@[simp] theorem State.answer_busError (s : State) (m : Initiator) (w : Bool) (a : Nat) (c : BusCause) :
    (s.busError m w a c).answer m.copy = .error c := State.answer_reply ..

end Sys2Proof.Machine
end

section
/-! The invariant after reset and after a step, and the reserved bits of all copies of registers (O57, O58, O59). -/

namespace Sys2Proof.Machine

/-- The reset values of the register tables have no reserved bit set (R11). -/
theorem Reg.reset_reserved (r : Reg) : BitVec.ofNat 32 r.info.reset &&& ~~~ BitVec.ofNat 32 r.info.impl = 0 := by
  cases r <;> rfl

theorem Reg.resetValue_reserved (r : Reg) (i : Nat) : r.resetValue i &&& ~~~ BitVec.ofNat 32 r.info.impl = 0 := by
  by_cases h : r = .EV_SRC_CFG
  · subst h
    unfold Reg.resetValue
    dsimp only
    split <;> rfl
  · have e : r.resetValue i = BitVec.ofNat 32 r.info.reset := by
      unfold Reg.resetValue
      split
      · exact absurd rfl h
      · rfl
    rw [e, Reg.reset_reserved]

theorem Tab.mem_of_find {α : Type} {t : Table α} {k : Key} {v : α} (h : Tab.find t k = some v) : (k, v) ∈ t := by
  induction t with
  | nil => simp [Tab.find] at h
  | cons x t ih =>
    simp only [Tab.find, Key.same_iff] at h
    split at h
    · cases h
      subst_vars
      exact List.mem_cons_self
    · exact List.mem_cons_of_mem _ (ih h)

/-- In a table whose entries have no reserved bit set, every copy of every register has none (R11). -/
theorem State.reg_reserved {s : State} (h : reservedClear s.regs) (r : Reg) (i : Nat) :
    s.reg r i &&& ~~~ BitVec.ofNat 32 r.info.impl = 0 := by
  unfold State.reg regGet Tab.get
  cases hf : Tab.find s.regs (r.key i) with
  | none => exact Reg.resetValue_reserved r i
  | some v => exact h _ (Tab.mem_of_find hf) r rfl

theorem State.Inv.reservedClear {s : State} (h : s.Inv) : reservedClear s.regs := h.1.1

/-- The invariant says nothing about the commands that wait. -/
theorem State.pending_inv {s : State} (h : s.Inv) (l : List Instr) : ({ s with pending := l } : State).Inv := h

/-- Settles O57: after reset no register is listed, both memories and all queues are empty. -/
theorem resetMeetsTheInvariant : Obligations.ResetMeetsTheInvariant :=
  ⟨⟨fun _ hx => (List.not_mem_nil hx).elim, rfl⟩, rfl, Nat.zero_le _, Nat.zero_le _, Nat.zero_le _⟩

/-- Settles O58: a step runs the command at the front, and every command keeps the invariant (`exec_inv`). -/
theorem everyStepKeepsTheInvariant : Obligations.EveryStepKeepsTheInvariant := by
  intro s t h ht
  unfold step at ht
  split at ht
  · cases ht
    exact h
  · exact exec_inv (State.pending_inv h _) ht

/-- Settles O59: the invariant says it of the listed copies, the register tables say it of those at reset, and a register
write keeps the invariant. -/
theorem reservedBitsStayClear : Obligations.ReservedBitsStayClear := by
  intro s h
  refine ⟨State.reg_reserved h.reservedClear, fun m a v x => ⟨_, rfl, ?_⟩⟩
  have ht : (s.registerAccess m (a : Word).toNat v x).Inv := State.registerAccess_inv h
  exact State.reg_reserved ht.reservedClear

end Sys2Proof.Machine
end

section
/-! Reads of low halves, which latch the high half for the reading master (O55). -/

namespace Sys2Proof.Machine

/-! ### Reads that latch (R31, R85, R141 and the like) -/

/-- A field of 16 bits that holds bits [47:32] of a latched count. -/
def Field.holdsHigh (f : Field) : Prop := f.good = true ∧ f.width = 16

/-- The effect of a read of a low half: the answer, the latched high half, and the frame. -/
theorem State.readLatched_latches (s : State) (m : Initiator) {hi : Field} (h : hi.holdsHigh) (v : Nat) :
    (s.readLatched m hi v).answer m.copy = .ok (BitVec.ofNat 32 v) ∧ (s.readLatched m hi v).rd hi m.copy = v / 2 ^ 32 % 2 ^ 16 ∧
      (s.readLatched m hi v).ctrs = s.ctrs ∧ s.OnlyAt (s.readLatched m hi v) m.copy [hi.reg] ∧
      s.SameMemory (s.readLatched m hi v) := by
  obtain ⟨hg, hw⟩ := h
  refine ⟨State.answer_replyWord .., ?_, rfl, ?_, ⟨rfl, rfl, rfl, rfl⟩⟩
  · rw [State.readLatched, State.rd_replyWord, State.rd_wr hg, hw, Nat.shiftRight_eq_div_pow]
  · exact (State.onlyAt_wr s (List.mem_singleton_self _) m.copy _).replyWord m v

/-! ### Which count each command latches -/

theorem exec_qyCntLoRead_led {s : State} {m : Initiator} (h : s.leads (s.quaySel m) = true) (hn : s.rd F.QY_CSEL_CNT m.copy < 10) :
    exec (.qyCntLoRead m) s = .next (s.readLatched m F.QY_CNT_HI_CNT_HI
      (s.ctr ⟨.quay, s.rd F.QY_CSEL_CNT m.copy, clientNo (s.quaySel m) (s.slotSel m)⟩)) := by
  simp [exec, execQyCntLoRead, h, hn]

/-- A quay that another one leads has no counts of its own (R181). -/
theorem exec_qyCntLoRead_notLed {s : State} {m : Initiator} (h : s.leads (s.quaySel m) = false) :
    exec (.qyCntLoRead m) s = .next (s.readLatched m F.QY_CNT_HI_CNT_HI 0) := by
  simp [exec, execQyCntLoRead, h]

theorem exec_fpCntLoRead_exists {s : State} {m : Initiator} (h : s.engineExists (s.rd F.FP_SEL_ENGINE m.copy) = true) :
    exec (.fpCntLoRead m) s = .next (s.readLatched m F.FP_CNT_HI_CNT_HI
      (s.ctr ⟨.fp, s.rd F.FP_SEL_CNT m.copy, s.rd F.FP_SEL_ENGINE m.copy⟩)) := by
  simp [exec, execFpCntLoRead, h]

/-- The counts of an absent engine read 0 (R3). -/
theorem exec_fpCntLoRead_absent {s : State} {m : Initiator} (h : s.engineExists (s.rd F.FP_SEL_ENGINE m.copy) = false) :
    exec (.fpCntLoRead m) s = .next (s.readLatched m F.FP_CNT_HI_CNT_HI 0) := by
  simp [exec, execFpCntLoRead, h]

theorem exec_mgCntLoRead {s : State} {m : Initiator} (h : s.rd F.MG_CSEL_CNT m.copy ≤ 8) :
    exec (.mgCntLoRead m) s =
      .next (s.readLatched m F.MG_CNT_HI_CNT_HI (s.ctr ⟨.mg, s.rd F.MG_CSEL_CNT m.copy, s.groupSel m⟩)) := by
  simp [exec, execMgCntLoRead, h]

theorem exec_mtCntLoRead {s : State} {m : Initiator} (h : s.rd F.MT_CSEL_CNT m.copy ≤ 9) :
    exec (.mtCntLoRead m) s = .next (s.readLatched m F.MT_CNT_HI_CNT_HI (s.ctr ⟨.mt, s.rd F.MT_CSEL_CNT m.copy, 0⟩)) := by
  simp [exec, execMtCntLoRead, h]

theorem exec_hrCntLoRead {s : State} {m : Initiator} (h : s.rd F.HR_CSEL_CNT m.copy ≤ 11) :
    exec (.hrCntLoRead m) s =
      .next (s.readLatched m F.HR_CNT_HI_CNT_HI (s.ctr ⟨.hr, s.rd F.HR_CSEL_CNT m.copy, s.mportSel m⟩)) := by
  simp [exec, execHrCntLoRead, h]

theorem exec_lfPmLoRead {s : State} {m : Initiator} (h : s.rd F.LF_PM_SEL_CNT m.copy ≤ 12) :
    exec (.lfPmLoRead m) s = .next (s.atEngine m false 0x24000834 fun e =>
      s.readLatched m F.LF_PM_HI_CNT_HI (s.ctr ⟨.lf, s.rd F.LF_PM_SEL_CNT m.copy, s.lfUnit m e⟩)) := by
  simp [exec, execLfPmLoRead, h]

theorem exec_tdCntLoRead_subcarrier {s : State} {m : Initiator} (h : s.rd F.TD_CSEL_CNT m.copy ≤ 9) :
    exec (.tdCntLoRead m) s = .next (s.atEngine m false 0x24000954 fun _ =>
      s.readLatched m F.TD_CNT_HI_CNT_HI (s.ctr ⟨.td, s.rd F.TD_CSEL_CNT m.copy, s.subcarrierSel m⟩)) := by
  simp [exec, execTdCntLoRead, h]

theorem exec_tdCntLoRead_leaf {s : State} {m : Initiator} (h1 : 16 ≤ s.rd F.TD_CSEL_CNT m.copy) (h2 : s.rd F.TD_CSEL_CNT m.copy ≤ 22) :
    exec (.tdCntLoRead m) s = .next (s.atEngine m false 0x24000954 fun _ =>
      s.readLatched m F.TD_CNT_HI_CNT_HI (s.ctr ⟨.td, s.rd F.TD_CSEL_CNT m.copy, s.leafSel m⟩)) := by
  have h3 : ¬ s.rd F.TD_CSEL_CNT m.copy ≤ 9 := by omega
  simp [exec, execTdCntLoRead, h1, h2, h3]

/-- A window of a selected engine that exists. -/
theorem State.atEngine_exists {s : State} {m : Initiator} (h : s.engineExists (s.engineSel m) = true) (w : Bool) (a : Nat)
    (f : Nat → State) : s.atEngine m w a f = f (s.engineSel m) := if_pos h

/-- The window of an absent engine is the default target (R3). -/
theorem State.atEngine_absent {s : State} {m : Initiator} (h : s.engineExists (s.engineSel m) = false) (w : Bool) (a : Nat)
    (f : Nat → State) : s.atEngine m w a f = s.busError m w a .default := if_neg (by simp [h])

theorem State.pcValue_fin (s : State) (i : Fin 65) :
    s.pcValue i.val = if i = 64 then s.tick.toNat else s.ctr ⟨.pc, i.val, 0⟩ := by
  simp only [State.pcValue, beq_iff_eq, Fin.ext_iff]
  rfl

theorem exec_pcCntLoRead_refused {s : State} {m : Initiator} (h : s.pcReadRefused m = true) (i : Fin 65) :
    exec (.pcCntLoRead m i) s = .next (s.busError m false (0x2C000200 + 8 * i.val) .priv) := by
  simp [exec, execPcCntLoRead, State.readPc, h]

theorem exec_pcCntLoRead_granted {s : State} {m : Initiator} (h : s.pcReadRefused m = false) (i : Fin 65) :
    exec (.pcCntLoRead m i) s =
      .next ((s.wr F.PC_CNT_HI_CNT_HI (m.copy * 65 + i.val) (s.pcValue i.val / 2 ^ 32)).replyWord m (s.pcValue i.val)) := by
  simp [exec, execPcCntLoRead, State.readPc, h]

/-- TM_TB1 holds bits [47:32] of TICK_NO above bits [47:32] of the second (R399). -/
theorem Tick.high_halves_lt (t : Tick) (n : Nat) : t.toNat / 2 ^ 32 * 2 ^ 16 + n % 2 ^ 16 < 2 ^ F.TM_TB1_TB.width := by
  have ht : t.toNat < 2 ^ 48 := t.isLt
  have hw : F.TM_TB1_TB.width = 32 := rfl
  rw [hw]
  omega

/-- The four registers of the master's own copy that a read of TM_TB0 latches the time base in (R399). -/
def State.latchTb (s : State) (i a b c d : Nat) : State :=
  (((s.wr F.TM_TB1_TB i a).wr F.TM_TB2_TB i b).wr F.TM_TB3_TB i c).wr F.TM_TB4_TB i d

theorem State.rd_tb1_latchTb (s : State) (i a b c d : Nat) :
    (s.latchTb i a b c d).rd F.TM_TB1_TB i = a % 2 ^ F.TM_TB1_TB.width := by
  rw [State.latchTb, State.rd_wr_reg (.inl (by decide)), State.rd_wr_reg (.inl (by decide)), State.rd_wr_reg (.inl (by decide)),
    State.rd_wr rfl]

theorem State.rd_tb2_latchTb (s : State) (i a b c d : Nat) :
    (s.latchTb i a b c d).rd F.TM_TB2_TB i = b % 2 ^ 32 := by
  have hw : F.TM_TB2_TB.width = 32 := rfl
  rw [State.latchTb, State.rd_wr_reg (.inl (by decide)), State.rd_wr_reg (.inl (by decide)), State.rd_wr rfl, hw]

theorem State.rd_tb3_latchTb (s : State) (i a b c d : Nat) :
    (s.latchTb i a b c d).rd F.TM_TB3_TB i = c % 2 ^ F.TM_TB3_TB.width := by
  rw [State.latchTb, State.rd_wr_reg (.inl (by decide)), State.rd_wr rfl]

theorem State.rd_tb4_latchTb (s : State) (i a b c d : Nat) :
    (s.latchTb i a b c d).rd F.TM_TB4_TB i = d % 2 ^ F.TM_TB4_TB.width := State.rd_wr rfl ..

theorem State.latchTb_onlyAt (s : State) (i a b c d : Nat) : s.OnlyAt (s.latchTb i a b c d) i [.TM_TB1, .TM_TB2, .TM_TB3, .TM_TB4] :=
  (State.onlyAt_wr _ (by decide) i a).trans <| (State.onlyAt_wr _ (by decide) i b).trans <|
    (State.onlyAt_wr _ (by decide) i c).trans <| State.onlyAt_wr _ (by decide) i d

theorem exec_tmTb0Read (m : Initiator) (s : State) :
    exec (.tmTb0Read m) s = .next ((s.latchTb m.copy (s.tick.toNat / 2 ^ 32 * 2 ^ 16 + s.tbStamp.sec / 2 ^ 32 % 2 ^ 16) s.tbStamp.sec
      s.tbStamp.ns s.tbStamp.frac).replyWord m s.tick.toNat) := rfl

/-- Settles O55: each command is a latching read of the count it names, or the error response. -/
theorem lowHalfReadsLatchTheHighHalf : Obligations.LowHalfReadsLatchTheHighHalf := by
  refine ⟨?_, ?_, ?_, ?_⟩
  · intro m c hi v s h
    have key : exec c s = .next (s.readLatched m hi v) ∧ hi.holdsHigh := by
      rcases h with ⟨rfl, rfl, rfl⟩ | ⟨rfl, rfl, rfl⟩ | ⟨rfl, rfl, rfl⟩ | ⟨rfl, rfl, rfl⟩ | ⟨rfl, rfl, h, hn, rfl⟩ |
        ⟨rfl, rfl, h, rfl⟩ | ⟨rfl, rfl, h, rfl⟩ | ⟨rfl, rfl, h, rfl⟩ | ⟨rfl, rfl, h, rfl⟩ | ⟨rfl, rfl, h, rfl⟩ | ⟨rfl, rfl, h, rfl⟩
      · exact ⟨rfl, rfl, rfl⟩
      · exact ⟨rfl, rfl, rfl⟩
      · exact ⟨rfl, rfl, rfl⟩
      · exact ⟨rfl, rfl, rfl⟩
      · exact ⟨exec_qyCntLoRead_led h hn, rfl, rfl⟩
      · exact ⟨exec_qyCntLoRead_notLed h, rfl, rfl⟩
      · exact ⟨exec_fpCntLoRead_exists h, rfl, rfl⟩
      · exact ⟨exec_fpCntLoRead_absent h, rfl, rfl⟩
      · exact ⟨exec_mgCntLoRead h, rfl, rfl⟩
      · exact ⟨exec_mtCntLoRead h, rfl, rfl⟩
      · exact ⟨exec_hrCntLoRead h, rfl, rfl⟩
    exact ⟨_, key.1, s.readLatched_latches m key.2 v⟩
  · intro m c hi v s h
    have key : ∃ a f, exec c s = .next (s.atEngine m false a f) ∧ f (s.engineSel m) = s.readLatched m hi v ∧ hi.holdsHigh := by
      rcases h with ⟨rfl, rfl, rfl⟩ | ⟨rfl, rfl, h, rfl⟩ | ⟨rfl, rfl, h, rfl⟩ | ⟨rfl, rfl, h1, h2, rfl⟩
      · exact ⟨_, _, rfl, rfl, rfl, rfl⟩
      · exact ⟨_, _, exec_lfPmLoRead h, rfl, rfl, rfl⟩
      · exact ⟨_, _, exec_tdCntLoRead_subcarrier h, rfl, rfl, rfl⟩
      · exact ⟨_, _, exec_tdCntLoRead_leaf h1 h2, rfl, rfl, rfl⟩
    obtain ⟨a, f, hx, hf, hh⟩ := key
    refine ⟨fun he => ?_, fun he => ?_⟩
    · rw [State.atEngine_exists he, hf] at hx
      exact ⟨_, hx, s.readLatched_latches m hh v⟩
    · rw [State.atEngine_absent he] at hx
      exact ⟨_, hx, State.answer_busError .., s.busError_onlyAt m _ _ _, State.busError_sameMemory ..⟩
  · intro m i v s
    refine ⟨fun h hv => ?_, fun h => ?_⟩
    · have hp : s.pcValue i.val = v := (s.pcValue_fin i).trans hv.symm
      have hx := exec_pcCntLoRead_granted h i
      rw [hp] at hx
      refine ⟨_, hx, State.answer_replyWord .., State.rd_wr rfl s _ _, rfl, ?_, rfl, rfl, rfl, rfl⟩
      exact (State.onlyAt_wr s (f := F.PC_CNT_HI_CNT_HI) (List.mem_singleton_self _) _ _).replyWord m _
    · exact ⟨_, exec_pcCntLoRead_refused h i, State.answer_busError .., s.busError_onlyAt m _ _ _, State.busError_sameMemory ..⟩
  · intro m s
    refine ⟨?_, ?_, ?_⟩
    · refine ⟨_, rfl, State.answer_replyWord .., State.rd_wr rfl s _ _, ?_, rfl, rfl, rfl, rfl⟩
      exact (State.onlyAt_wr s (f := F.GRID_SWAP_DONE_HI_DONE_HI) (List.mem_singleton_self _) _ _).replyWord m _
    · refine ⟨_, rfl, State.answer_replyWord .., ?_, ?_, rfl, rfl, rfl, rfl⟩
      · rw [State.reg_replyWord, State.reg_setReg, if_pos ⟨rfl, rfl⟩]
      · exact (State.onlyAt_setReg s (List.mem_singleton_self _) _ _).replyWord m _
    · refine ⟨_, exec_tmTb0Read m s, State.answer_replyWord .., ?_, ?_, ?_, ?_, (s.latchTb_onlyAt _ _ _ _ _).replyWord m _,
        rfl, rfl, rfl, rfl⟩
      · rw [State.rd_replyWord, State.rd_tb1_latchTb, Nat.mod_eq_of_lt (Tick.high_halves_lt ..)]
      · rw [State.rd_replyWord, State.rd_tb2_latchTb]
      · rw [State.rd_replyWord, State.rd_tb3_latchTb]
      · rw [State.rd_replyWord, State.rd_tb4_latchTb]

end Sys2Proof.Machine
end

section
/-! Die-to-die links: what their commands leave alone in the engines of the die. -/

namespace Sys2Proof.Machine

/-! ### What following a request and a new frame position leave alone -/

/-- Of the registers only those listed may differ, reports apart; memories, links, D2D faults, power states and receive states are
the same. -/
structure State.KeepsDies (s t : State) (rs : List Reg) : Prop where
  regs : s.OnlyRegs t rs
  memory : s.SameMemory t
  links : t.links = s.links
  faults : ∀ k, (t.engine k).d2dFault = (s.engine k).d2dFault
  power : ∀ k, t.rd F.LE_STAT_PSTATE k = s.rd F.LE_STAT_PSTATE k
  receive : ∀ k, t.rxState k = s.rxState k

namespace State.KeepsDies

variable {s t u : State} {rs qs : List Reg}

theorem refl (s : State) (rs : List Reg) : s.KeepsDies s rs :=
  ⟨fun _ _ _ _ _ => rfl, s.sameMemory_refl, rfl, fun _ => rfl, fun _ => rfl, fun _ => rfl⟩

theorem trans (h : s.KeepsDies t rs) (k : t.KeepsDies u rs) : s.KeepsDies u rs :=
  ⟨h.regs.trans k.regs, h.memory.trans k.memory, k.links.trans h.links, fun i => (k.faults i).trans (h.faults i),
    fun i => (k.power i).trans (h.power i), fun i => (k.receive i).trans (h.receive i)⟩

theorem mono (h : s.KeepsDies t rs) (hs : rs ⊆ qs) : s.KeepsDies t qs := { h with regs := h.regs.mono hs }

theorem each {α : Type} {f : State → α → State} (hf : ∀ (s : State) x, s.KeepsDies (f s x) rs) (l : List α) (s : State) :
    s.KeepsDies (s.each l f) rs := by
  induction l generalizing s with
  | nil => exact refl s rs
  | cons x l ih => exact (hf s x).trans (ih (f s x))

theorem wr (s : State) (f : Field) (hf : f.reg ∈ rs) (hp : f.apart F.LE_STAT_PSTATE = true) (hx : f.apart F.LE_STAT_RX_STATE = true)
    (i v : Nat) : s.KeepsDies (s.wr f i v) rs :=
  ⟨(s.onlyAt_wr hf i v).onlyRegs, ⟨rfl, rfl, rfl, rfl⟩, rfl, fun _ => rfl, State.rd_wr_apart hp s i v, State.rd_wr_apart hx s i v⟩

theorem raise (s : State) (f : Field) (hf : f.reg ∈ rs) (hs : F.LE_STAT_PSTATE.reg ≠ f.reg) (i : Nat) : s.KeepsDies (s.raise f i) rs :=
  ⟨(s.onlyAt_raise hf i).onlyRegs, s.raise_sameMemory f i, by simp, fun k => by simp [State.engine],
    s.raise_rd f i hs (by decide) (by decide), s.raise_rd f i hs (by decide) (by decide)⟩

theorem modEngine (s : State) (e : Nat) {f : Engine → Engine} (rs : List Reg) (hf : ∀ x, (f x).d2dFault = x.d2dFault) :
    s.KeepsDies (s.modEngine e f) rs := by
  refine ⟨State.onlyRegs_of_regs rfl rs, ⟨rfl, rfl, rfl, rfl⟩, rfl, fun k => ?_, fun _ => rfl, fun _ => rfl⟩
  rw [State.modEngine, State.engine_setEngine]
  split
  · subst_vars
    exact hf _
  · rfl

theorem modFrame (s : State) (e : Nat) (f : LineFrame → LineFrame) (rs : List Reg) : s.KeepsDies (s.modFrame e f) rs :=
  ⟨State.onlyRegs_of_regs rfl rs, ⟨rfl, rfl, rfl, rfl⟩, rfl, fun _ => rfl, fun _ => rfl, fun _ => rfl⟩

theorem light (s : State) (e : Nat) : s.KeepsDies (s.light e) [.LE_STAT, .LE_STICKY] := by
  refine trans ?_ (wr _ F.LE_STAT_TX_STATE (by decide) rfl rfl e 2)
  exact modEngine s e _ fun _ => rfl

theorem darken (s : State) (e : Nat) : s.KeepsDies (s.darken e) [.LE_STAT, .LE_STICKY] := by
  refine trans ?_ (wr _ F.LE_STAT_TX_STATE (by decide) rfl rfl e 4)
  exact modEngine s e _ fun _ => rfl

theorem followRequest (s : State) (e : Nat) : s.KeepsDies (s.followRequest e) [.LE_STAT, .LE_STICKY] := by
  unfold State.followRequest
  split
  · exact refl s _
  · split
    · exact light s e
    · exact (darken s e).trans (raise _ F.LE_STICKY_RAMP_REV (by decide) (by decide) e)
    · exact darken s e
    · exact (light s e).trans (raise _ F.LE_STICKY_RAMP_REV (by decide) (by decide) e)
    · exact refl s _

theorem showHolds (s : State) (e : Nat) : s.KeepsDies (s.showHolds e) [.LE_STAT, .LE_STICKY] :=
  (wr s F.LE_STAT_FAULT_HOLD (by decide) rfl rfl e _).trans (wr _ F.LE_STAT_MATE_HOLD (by decide) rfl rfl e _)

/-- A hold that changes lets the transmitters follow, and shows. -/
theorem holdChanged (s : State) (e : Nat) (f : Engine → Engine) :
    (s.modEngine e f).KeepsDies (s.holdChanged e f) [.LE_STAT, .LE_STICKY] :=
  each (fun s i => (followRequest s i).trans (showHolds _ i)) _ _

theorem showSsf (s : State) (e : Nat) (h : Reg.LF_STAT ∈ rs) : s.KeepsDies (s.showSsf e) rs :=
  each (fun s i => wr s F.LF_STAT_SSF h rfl rfl i _) _ _

theorem showLos (s : State) (e : Nat) (b : Bool) (h : Reg.LF_STAT ∈ rs) : s.KeepsDies (s.showLos e b) rs :=
  each (fun s u => (wr s F.LF_STAT_LOS h rfl rfl u _).trans (showSsf _ u h)) _ _

theorem clearLocks (s : State) (e : Nat) (h : Reg.LE_EQ_STAT ∈ rs) : s.KeepsDies (s.clearLocks e) rs :=
  ((wr s F.LE_EQ_STAT_CR_LOCK h rfl rfl e 0).trans (wr _ F.LE_EQ_STAT_MIMO_LOCK h rfl rfl e 0)).trans
    (wr _ F.LE_EQ_STAT_CLK_LOCK h rfl rfl e 0)

theorem setOof (s : State) (e : Nat) (b : Bool) (h : Reg.LF_STAT ∈ rs) (ha : Reg.LF_ALIGN ∈ rs) : s.KeepsDies (s.setOof e b) rs :=
  ((wr s F.LF_ALIGN_OOF ha rfl rfl e _).trans (wr _ F.LF_STAT_OOF h rfl rfl e _)).trans (showSsf _ e h)

theorem dropFrame (s : State) (e : Nat) (h : Reg.LF_STAT ∈ rs) (ha : Reg.LF_ALIGN ∈ rs) : s.KeepsDies (s.dropFrame e) rs :=
  each (fun s u => (modFrame s u _ rs).trans (setOof _ u true h ha)) _ _

/-- Once the receive state is LOS, a start in LOS changes only what the frame and the locks show. -/
theorem startInLos (s : State) (e : Nat) :
    (s.wr F.LE_STAT_RX_STATE e 1).KeepsDies (s.startInLos e) [.LE_EQ_STAT, .LF_STAT, .LF_ALIGN] := by
  unfold State.startInLos State.enterRx
  refine trans ?_ (dropFrame _ e (by decide) (by decide))
  refine trans ?_ (modEngine _ e _ ?_)
  refine trans ?_ (clearLocks _ e (by decide))
  refine trans ?_ (modEngine _ e _ ?_)
  · exact showLos _ e _ (by decide)
  all_goals exact fun _ => rfl

end State.KeepsDies

/-! ### Die-to-die links (R13 to R15) -/

@[simp] theorem State.link_modLink (s : State) (d : Nat) (f : Link → Link) (k : Nat) :
    (s.modLink d f).link k = if d = k then f (s.link d) else s.link k := State.link_setLink ..

/-- What no change of a fold touches, the fold does not touch. -/
theorem State.each_keeps {α β : Type} (p : State → β) {f : State → α → State} (hf : ∀ s x, p (f s x) = p s) (l : List α)
    (s : State) : p (s.each l f) = p s := by
  induction l generalizing s with
  | nil => rfl
  | cons x l ih => exact (ih (f s x)).trans (hf s x)

/-- The next crates of berth ports are AIS crates. -/
def State.markAis (s : State) (l : List Nat) : State := s.each l fun s p => s.setStore p { s.store p with aisCrate := true }

theorem State.markAis_keeps {β : Type} (p : State → β) (hp : ∀ s i x, p (State.setStore s i x) = p s) (s : State) (l : List Nat) :
    p (s.markAis l) = p s := State.each_keeps p (fun s i => hp s i _) l s

theorem State.aisCrate_markAis (l : List Nat) (s : State) (p : Nat) (h : p ∈ l ∨ (s.store p).aisCrate = true) :
    ((s.markAis l).store p).aisCrate = true := by
  induction l generalizing s with
  | nil => exact h.resolve_left List.not_mem_nil
  | cons q l ih =>
    refine ih (s.setStore q { s.store q with aisCrate := true }) ?_
    rw [State.store_setStore]
    by_cases hq : q = p
    · exact .inr (by simp [hq])
    · simpa [hq, Ne.symm hq] using h

/-- Codewords whose transfer to the pool was lost in the present tick are noted. -/
def State.noteLost (s : State) (cws : List Nat) : State := { s with lostTransfers := s.lostTransfers ++ cws }

/-- A transfer that could not be delivered counts, and is no correct transfer of its tick (R14). -/
def Link.lose (x : Link) : Link := { x with uncorrected := x.uncorrected + 1, seen := some (x.seen == some true) }

theorem State.transfer_lost_eq {s : State} {d : Nat} (he : s.linkExists d = true) (ports : List (Fin 23040)) (cws : List Nat) :
    s.transfer d (.lost ports cws) =
      ((((s.modLink d Link.lose).markAis (ports.map (·.val))).noteLost cws).raise F.SY_STICKY_D2D_UNCORR 0) := by
  unfold State.transfer
  rw [if_neg (by simp [he])]
  rfl

/-- The engine holds, or no longer holds, for its die-to-die link (R15, R247). -/
def State.setD2dFault (b : Bool) (s : State) (e : Nat) : State := s.holdChanged e fun x => { x with d2dFault := b }

theorem State.setD2dFault_keeps (b : Bool) (s : State) (e : Nat) :
    (s.modEngine e fun x => { x with d2dFault := b }).KeepsDies (s.setD2dFault b e) [.LE_STAT, .LE_STICKY] :=
  KeepsDies.holdChanged s e _

/-- What a change of an engine's D2D hold does: it is set, and the transmitters of the engine and its partner follow. -/
structure State.SetsD2dFault (s t : State) (b : Bool) (e : Nat) : Prop where
  regs : s.OnlyRegs t [.LE_STAT, .LE_STICKY]
  memory : s.SameMemory t
  links : t.links = s.links
  faults : ∀ k, (t.engine k).d2dFault = if e = k then b else (s.engine k).d2dFault

theorem State.setD2dFault_sets (b : Bool) (s : State) (e : Nat) : s.SetsD2dFault (s.setD2dFault b e) b e := by
  have h := s.setD2dFault_keeps b e
  refine ⟨h.regs, h.memory, h.links, fun k => ?_⟩
  rw [h.faults, State.modEngine, State.engine_setEngine]
  split <;> rfl

/-- An engine whose link is restored holds no longer and acquires from LOS (R15). -/
def State.restoreEngine (s : State) (e : Nat) : State :=
  if (s.setD2dFault false e).engineOn e then (s.setD2dFault false e).startInLos e else s.setD2dFault false e

/-- What the end of a link's failure does to one engine: the D2D hold ends, and an engine that is ON goes to LOS. -/
structure State.Restores (s t : State) (e : Nat) : Prop where
  regs : s.OnlyRegs t [.LE_STAT, .LE_STICKY, .LE_EQ_STAT, .LF_STAT, .LF_ALIGN]
  memory : s.SameMemory t
  links : t.links = s.links
  faults : ∀ k, (t.engine k).d2dFault = if e = k then false else (s.engine k).d2dFault
  receive : ∀ k, t.rxState k = if e = k ∧ s.engineOn e = true then 1 else s.rxState k

theorem State.restoreEngine_restores (s : State) (e : Nat) : s.Restores (s.restoreEngine e) e := by
  have hu := s.setD2dFault_keeps false e
  have hf := (s.setD2dFault_sets false e).faults
  have hon : (s.setD2dFault false e).engineOn e = s.engineOn e := congrArg (· == 2) (hu.power _)
  unfold State.restoreEngine
  rw [hon]
  split
  · rename_i ho
    have ht := KeepsDies.startInLos (s.setD2dFault false e) e
    refine ⟨(hu.regs.mono (by decide)).trans <| ((State.onlyAt_wr _ (by decide) e 1).onlyRegs).trans (ht.regs.mono (by decide)),
      hu.memory.trans ht.memory, ht.links.trans hu.links, fun k => (ht.faults k).trans (hf k), fun k => (ht.receive k).trans ?_⟩
    by_cases hk : e = k
    · subst hk
      rw [if_pos ⟨rfl, ho⟩]
      exact State.rd_wr rfl _ e 1
    · rw [if_neg (fun h => hk h.1)]
      exact (State.rd_wr_reg (.inr hk) _ 1).trans (hu.receive k)
  · rename_i ho
    refine ⟨hu.regs.mono (by decide), hu.memory, hu.links, hf, fun k => (hu.receive k).trans ?_⟩
    rw [if_neg (fun h => ho h.2)]
    rfl

/-- D2D_DOWN once 16 ticks were bad (R15). -/
theorem State.d2dDown_eq {s : State} {d : Nat} (he : s.linkExists d = true) (hd : (s.link d).down = false)
    (hb : 16 ≤ (s.link d).badTicks) :
    s.d2dDown d = ((((s.modLink d fun x => { x with down := true, retrainedAt := s.now, goodTicks := 0 }).setD2dFault true
      (2 * d)).setD2dFault true (2 * d + 1)).raise F.SY_STICKY_D2D_DOWN 0) := by
  have h16 : ¬ (s.link d).badTicks < 16 := by omega
  unfold State.d2dDown
  rw [if_neg (by simp [he, hd, h16])]
  rfl

/-- D2D_RESTORE once the link was good for 1 s (R15). -/
theorem State.d2dRestore_eq {s : State} {d : Nat} (hd : (s.link d).down = true) (hg : 312500 ≤ (s.link d).goodTicks) :
    s.d2dRestore d = ((s.modLink d fun x => { x with down := false }).restoreEngine (2 * d)).restoreEngine (2 * d + 1) := by
  unfold State.d2dRestore
  rw [if_pos (by simp [hd, hg])]
  rfl

theorem State.link_congr {s t : State} (h : t.links = s.links) (d : Nat) : t.link d = s.link d := by
  simp only [State.link, h]

/-- What D2D_DOWN leaves: the link down, both engines of the die held, the event raised (R15, R247). -/
theorem State.d2dDown_holds {s : State} {d : Nat} (he : s.linkExists d = true) (hd : (s.link d).down = false)
    (hb : 16 ≤ (s.link d).badTicks) :
    ((s.d2dDown d).link d).down = true ∧ ((s.d2dDown d).engine (2 * d)).d2dFault = true ∧
      ((s.d2dDown d).engine (2 * d + 1)).d2dFault = true ∧ (s.d2dDown d).on F.SY_STICKY_D2D_DOWN 0 = true ∧
      s.OnlyRegs (s.d2dDown d) [.LE_STAT, .LE_STICKY, .SY_STICKY] ∧ s.SameMemory (s.d2dDown d) := by
  rw [State.d2dDown_eq he hd hb]
  generalize h0 : (s.modLink d fun x => { x with down := true, retrainedAt := s.now, goodTicks := 0 }) = s0
  have r1 := s0.setD2dFault_sets true (2 * d)
  generalize s0.setD2dFault true (2 * d) = s1 at r1
  have r2 := s1.setD2dFault_sets true (2 * d + 1)
  generalize s1.setD2dFault true (2 * d + 1) = s2 at r2
  have raised := KeepsDies.raise (rs := [.LE_STAT, .LE_STICKY, .SY_STICKY]) s2 F.SY_STICKY_D2D_DOWN (by decide) (by decide) 0
  refine ⟨?_, ?_, ?_, ?_, ?_, ?_⟩
  · rw [State.link_congr (raised.links.trans (r2.links.trans r1.links)), ← h0, State.link_modLink, if_pos rfl]
  · rw [raised.faults, r2.faults, if_neg (by omega), r1.faults, if_pos rfl]
  · rw [raised.faults, r2.faults, if_pos rfl]
  · rw [State.on, State.raise_on s2 0 rfl rfl (by decide) (by decide)]
    rfl
  · have r0 : s.OnlyRegs s0 [.LE_STAT, .LE_STICKY, .SY_STICKY] := h0 ▸ State.onlyRegs_of_regs rfl _
    exact r0.trans <| (r1.regs.mono (by decide)).trans <| (r2.regs.mono (by decide)).trans raised.regs
  · have m0 : s.SameMemory s0 := h0 ▸ ⟨rfl, rfl, rfl, rfl⟩
    exact m0.trans <| r1.memory.trans <| r2.memory.trans raised.memory

/-- What D2D_RESTORE leaves: the link up, no engine of the die held for it, and those that are ON in LOS (R15, R247). -/
theorem State.d2dRestore_restores {s : State} {d : Nat} (hd : (s.link d).down = true)
    (hg : 312500 ≤ (s.link d).goodTicks) :
    ((s.d2dRestore d).link d).down = false ∧ ((s.d2dRestore d).engine (2 * d)).d2dFault = false ∧
      ((s.d2dRestore d).engine (2 * d + 1)).d2dFault = false ∧ (s.engineOn (2 * d) = true → (s.d2dRestore d).rxState (2 * d) = 1) ∧
      s.OnlyRegs (s.d2dRestore d) [.LE_STAT, .LE_STICKY, .LE_EQ_STAT, .LF_STAT, .LF_ALIGN] ∧ s.SameMemory (s.d2dRestore d) := by
  rw [State.d2dRestore_eq hd hg]
  generalize h0 : (s.modLink d fun x => { x with down := false }) = s0
  have r1 := s0.restoreEngine_restores (2 * d)
  generalize s0.restoreEngine (2 * d) = s1 at r1
  have r2 := s1.restoreEngine_restores (2 * d + 1)
  generalize s1.restoreEngine (2 * d + 1) = s2 at r2
  refine ⟨?_, ?_, ?_, fun hon => ?_, ?_, ?_⟩
  · rw [State.link_congr (r2.links.trans r1.links), ← h0, State.link_modLink, if_pos rfl]
  · rw [r2.faults, if_neg (by omega), r1.faults, if_pos rfl]
  · rw [r2.faults, if_pos rfl]
  · have hon0 : s0.engineOn (2 * d) = true := h0 ▸ hon
    rw [r2.receive, if_neg (by omega), r1.receive, if_pos ⟨rfl, hon0⟩]
  · have r0 : s.OnlyRegs s0 [.LE_STAT, .LE_STICKY, .LE_EQ_STAT, .LF_STAT, .LF_ALIGN] := h0 ▸ State.onlyRegs_of_regs rfl _
    exact r0.trans (r1.regs.trans r2.regs)
  · have m0 : s.SameMemory s0 := h0 ▸ ⟨rfl, rfl, rfl, rfl⟩
    exact m0.trans (r1.memory.trans r2.memory)

/-- What a lost transfer leaves: counted, its berths with AIS crates, its codewords noted, the event raised (R14). -/
theorem State.transfer_lost {s : State} {d : Nat} (he : s.linkExists d = true) (ports : List (Fin 23040)) (cws : List Nat) :
    ((s.transfer d (.lost ports cws)).link d).uncorrected = (s.link d).uncorrected + 1 ∧
      (∀ p, p ∈ ports → ((s.transfer d (.lost ports cws)).store p.val).aisCrate = true) ∧
      (s.transfer d (.lost ports cws)).lostTransfers = s.lostTransfers ++ cws ∧
      (s.transfer d (.lost ports cws)).on F.SY_STICKY_D2D_UNCORR 0 = true ∧
      s.OnlyAt (s.transfer d (.lost ports cws)) 0 [.SY_STICKY] ∧ s.SameMemory (s.transfer d (.lost ports cws)) := by
  rw [State.transfer_lost_eq he]
  generalize hu : (s.modLink d Link.lose).markAis (ports.map (·.val)) = u
  have links : u.links = (s.modLink d Link.lose).links := hu ▸ State.markAis_keeps State.links (fun _ _ _ => rfl) _ _
  have noted : u.lostTransfers = s.lostTransfers := hu ▸ State.markAis_keeps State.lostTransfers (fun _ _ _ => rfl) _ _
  have regs : u.regs = s.regs := hu ▸ State.markAis_keeps State.regs (fun _ _ _ => rfl) _ _
  have memory : s.SameMemory u := hu ▸
    ⟨State.markAis_keeps State.mem (fun _ _ _ => rfl) _ _, State.markAis_keeps State.anc (fun _ _ _ => rfl) _ _,
      State.markAis_keeps State.badWords (fun _ _ _ => rfl) _ _, State.markAis_keeps State.ancBad (fun _ _ _ => rfl) _ _⟩
  have raised := KeepsDies.raise (rs := [.SY_STICKY]) (u.noteLost cws) F.SY_STICKY_D2D_UNCORR (by decide) (by decide) 0
  refine ⟨?_, fun p hp => ?_, ?_, ?_, ?_, ?_⟩
  · rw [State.link_congr (raised.links.trans links), State.link_modLink, if_pos rfl]
    rfl
  · rw [State.store, State.raise_stores]
    exact hu ▸ State.aisCrate_markAis _ _ p.val (.inl (List.mem_map_of_mem hp))
  · rw [State.raise_lostTransfers]
    exact congrArg (· ++ cws) noted
  · rw [State.on, State.raise_on _ 0 rfl rfl (by decide) (by decide)]
    rfl
  · exact (State.onlyAt_of_regs regs 0 _).trans (State.onlyAt_raise (u.noteLost cws) (by decide) 0)
  · exact memory.trans raised.memory

end Sys2Proof.Machine
end

section
/-! Voltage loops and loop freezes; with the links, O23. -/

namespace Sys2Proof.Machine

/-! ### Voltage loops (R38, R41, R535) -/

/-- The registers in which the voltage loops show themselves. -/
def avsRegs : List Reg := [.SY_AVS_CORE, .SY_AVS_LE, .SY_LOOP_STAT, .SY_STICKY]

/-- The setpoint that an update with a working monitor aims at (R38, R41). -/
def State.avsGoal (s : State) (r : Rail) (v : AvsReading) : Nat :=
  if v.belowLimit then min ((s.avs r).setpoint + 5) r.range.2
  else if v.slack && !s.avsFrozen r then max ((s.avs r).setpoint - 5) r.range.1
  else (s.avs r).setpoint

/-- The readback of a setpoint agrees with it within 10 mV (R535). -/
def AvsReading.agrees (v : AvsReading) (goal : Nat) : Bool :=
  match v.readback with
  | some mv => decide (mv ≤ goal + 10) && decide (goal ≤ mv + 10)
  | none => false

/-- Where the override of a frozen rail shows (R41). -/
def Rail.overrideField : Rail → Field
  | .core => F.SY_LOOP_STAT_AVS_CORE_OVR
  | .le => F.SY_LOOP_STAT_AVS_LE_OVR

theorem Rail.overrideField_reg (r : Rail) : r.overrideField.reg ∈ avsRegs := by
  cases r <;> decide

/-- The state after the override of a freeze is shown (R41). -/
def State.avsOverride (s : State) (r : Rail) (v : AvsReading) : State :=
  (s.wrBool r.overrideField 0 (s.avsFrozen r && v.belowLimit)).raiseIf (s.avsFrozen r && v.belowLimit) F.SY_STICKY_AVS_OVERRIDE 0

/-- A rail that fails its monitor or its readback goes to its upper limit, with an event (R535). -/
def State.avsFail (s : State) (r : Rail) (now : Nat) (v : AvsReading) : State :=
  (s.setAvs r ⟨r.range.2, now, 0⟩ v.margin).raise F.SY_STICKY_AVS_FAIL 0

@[simp] theorem State.avs_setAvs (s : State) (r : Rail) (x : AvsLoop) (n : Nat) : (s.setAvs r x n).avs r = x := by
  cases r <;> rfl

theorem State.avs_congr {s t : State} (hc : t.avsCore = s.avsCore) (hl : t.avsLe = s.avsLe) (r : Rail) : t.avs r = s.avs r := by
  cases r
  · exact hc
  · exact hl

theorem State.setAvs_onlyRegs (s : State) (r : Rail) (x : AvsLoop) (n : Nat) : s.OnlyRegs (s.setAvs r x n) avsRegs := by
  cases r
  · exact (State.onlyAt_wr { s with avsCore := x } (f := F.SY_AVS_CORE_MARGIN) (by decide) 0 _).onlyRegs
  · exact (State.onlyAt_wr { s with avsLe := x } (f := F.SY_AVS_LE_MARGIN) (by decide) 0 _).onlyRegs

theorem State.setAvs_sameMemory (s : State) (r : Rail) (x : AvsLoop) (n : Nat) : s.SameMemory (s.setAvs r x n) := by
  cases r <;> exact ⟨rfl, rfl, rfl, rfl⟩

theorem State.avsFail_avs (s : State) (r : Rail) (n : Nat) (v : AvsReading) :
    (s.avsFail r n v).avs r = ⟨r.range.2, n, 0⟩ := by
  rw [State.avsFail, State.avs_congr (State.raise_avsCore ..) (State.raise_avsLe ..), State.avs_setAvs]

theorem State.avsFail_on (s : State) (r : Rail) (n : Nat) (v : AvsReading) : (s.avsFail r n v).on F.SY_STICKY_AVS_FAIL 0 = true := by
  rw [State.on, State.avsFail, State.raise_on _ 0 rfl rfl (by decide) (by decide)]
  rfl

theorem State.avsFail_onlyRegs (s : State) (r : Rail) (n : Nat) (v : AvsReading) : s.OnlyRegs (s.avsFail r n v) avsRegs :=
  (s.setAvs_onlyRegs r _ _).trans (State.onlyAt_raise _ (by decide) 0).onlyRegs

theorem State.avsFail_sameMemory (s : State) (r : Rail) (n : Nat) (v : AvsReading) : s.SameMemory (s.avsFail r n v) :=
  (s.setAvs_sameMemory r _ _).trans (State.raise_sameMemory ..)

theorem State.avsOverride_onlyRegs (s : State) (r : Rail) (v : AvsReading) : s.OnlyRegs (s.avsOverride r v) avsRegs := by
  unfold State.avsOverride State.raiseIf
  have hw : s.OnlyRegs (s.wrBool r.overrideField 0 (s.avsFrozen r && v.belowLimit)) avsRegs :=
    (State.onlyAt_wr s r.overrideField_reg 0 _).onlyRegs
  split
  · exact hw.trans (State.onlyAt_raise _ (by decide) 0).onlyRegs
  · exact hw

theorem State.avsOverride_sameMemory (s : State) (r : Rail) (v : AvsReading) : s.SameMemory (s.avsOverride r v) := by
  unfold State.avsOverride
  exact ⟨by simp, by simp, by simp, by simp⟩

theorem State.avsOverride_now (s : State) (r : Rail) (v : AvsReading) : (s.avsOverride r v).now = s.now := by
  simp [State.avsOverride]

/-- AVS_UPDATE in the terms above, once 1,024 boundaries have passed. -/
theorem State.avsUpdate_eq {s : State} {r : Rail} (h : s.elapsed (s.avs r).updatedAt 1024 = true) (v : AvsReading) :
    s.avsUpdate r v =
      if !v.monitorOk then s.avsFail r s.now v
      else if s.avsGoal r v == (s.avs r).setpoint then
        (s.avsOverride r v).setAvs r { s.avs r with updatedAt := (s.avsOverride r v).now } v.margin
      else if v.agrees (s.avsGoal r v) then
        (s.avsOverride r v).setAvs r ⟨s.avsGoal r v, (s.avsOverride r v).now, 0⟩ v.margin
      else if 3 ≤ (s.avs r).failures + 1 then (s.avsOverride r v).avsFail r s.now v
      else (s.avsOverride r v).setAvs r
        ⟨s.avsGoal r v, (s.avsOverride r v).now, (s.avs r).failures + 1⟩ v.margin := by
  unfold State.avsUpdate
  dsimp only
  rw [if_neg (by simp [h])]
  cases r <;> rfl

/-- What an update does once 1,024 boundaries have passed: the rail fails, or it goes to its goal (R535). -/
theorem State.avsUpdate_cases {s : State} {r : Rail} (h : s.elapsed (s.avs r).updatedAt 1024 = true) (v : AvsReading) :
    (v.monitorOk = false ∧ s.avsUpdate r v = s.avsFail r s.now v) ∨
      (v.monitorOk = true ∧ s.avsGoal r v ≠ (s.avs r).setpoint ∧ v.agrees (s.avsGoal r v) = false ∧
        s.avsUpdate r v = (s.avsOverride r v).avsFail r s.now v) ∨
      (v.monitorOk = true ∧ ∃ n, s.avsUpdate r v =
        (s.avsOverride r v).setAvs r ⟨s.avsGoal r v, s.now, n⟩ v.margin) := by
  rw [State.avsUpdate_eq h, State.avsOverride_now]
  cases hm : v.monitorOk with
  | false => exact .inl ⟨rfl, rfl⟩
  | true =>
    refine .inr ?_
    rw [if_neg (by simp)]
    by_cases hg : s.avsGoal r v = (s.avs r).setpoint
    · rw [if_pos (beq_iff_eq.2 hg)]
      exact .inr ⟨rfl, (s.avs r).failures, by rw [hg]⟩
    · rw [if_neg (by simpa using hg)]
      cases ha : v.agrees (s.avsGoal r v) with
      | true => exact .inr ⟨rfl, 0, rfl⟩
      | false =>
        rw [if_neg (by simp)]
        split
        · exact .inl ⟨rfl, hg, rfl, rfl⟩
        · exact .inr ⟨rfl, _, rfl⟩

theorem Rail.range_le (r : Rail) : r.range.1 ≤ r.range.2 := by
  cases r <;> decide

/-- The goal of an update stays in the range of the rail. -/
theorem State.avsGoal_range {s : State} {r : Rail} (h1 : r.range.1 ≤ (s.avs r).setpoint) (h2 : (s.avs r).setpoint ≤ r.range.2)
    (v : AvsReading) : r.range.1 ≤ s.avsGoal r v ∧ s.avsGoal r v ≤ r.range.2 := by
  have hr := r.range_le
  unfold State.avsGoal
  split
  · omega
  · split <;> omega

theorem AvsReading.agrees_of_readback {v : AvsReading} {mv : Nat} (h : v.readback = some mv) : v.agrees mv = true := by
  simp [AvsReading.agrees, h]

/-- A goal that the readback shows, or that is the setpoint, is reached. -/
theorem State.setpoint_avsUpdate {s : State} {r : Rail} (h : s.elapsed (s.avs r).updatedAt 1024 = true) {v : AvsReading}
    (hm : v.monitorOk = true) (hg : s.avsGoal r v = (s.avs r).setpoint ∨ v.agrees (s.avsGoal r v) = true) :
    ((s.avsUpdate r v).avs r).setpoint = s.avsGoal r v := by
  rcases State.avsUpdate_cases h v with ⟨hf, -⟩ | ⟨-, hn, ha, -⟩ | ⟨-, n, hx⟩
  · exact absurd (hf.symm.trans hm) (by decide)
  · exact absurd hg (by simp [hn, ha])
  · rw [hx, State.avs_setAvs]

theorem State.avsUpdate_range {s : State} {r : Rail} (h : s.elapsed (s.avs r).updatedAt 1024 = true)
    (h1 : r.range.1 ≤ (s.avs r).setpoint) (h2 : (s.avs r).setpoint ≤ r.range.2) (v : AvsReading) :
    r.range.1 ≤ ((s.avsUpdate r v).avs r).setpoint ∧ ((s.avsUpdate r v).avs r).setpoint ≤ r.range.2 := by
  rcases State.avsUpdate_cases h v with ⟨-, hx⟩ | ⟨-, -, -, hx⟩ | ⟨-, n, hx⟩
  · rw [hx, State.avsFail_avs]
    exact ⟨r.range_le, Nat.le_refl _⟩
  · rw [hx, State.avsFail_avs]
    exact ⟨r.range_le, Nat.le_refl _⟩
  · rw [hx, State.avs_setAvs]
    exact State.avsGoal_range h1 h2 v

/-- An update restarts the wait of 1,024 boundaries, and shows itself in the registers of the loops only. -/
theorem State.avsUpdate_frame {s : State} {r : Rail} (h : s.elapsed (s.avs r).updatedAt 1024 = true) (v : AvsReading) :
    ((s.avsUpdate r v).avs r).updatedAt = s.now ∧ s.OnlyRegs (s.avsUpdate r v) avsRegs ∧ s.SameMemory (s.avsUpdate r v) := by
  have ro := s.avsOverride_onlyRegs r v
  have mo := s.avsOverride_sameMemory r v
  rcases State.avsUpdate_cases h v with ⟨-, hx⟩ | ⟨-, -, -, hx⟩ | ⟨-, n, hx⟩
  · rw [hx, State.avsFail_avs]
    exact ⟨rfl, s.avsFail_onlyRegs r _ v, s.avsFail_sameMemory r _ v⟩
  · rw [hx, State.avsFail_avs]
    exact ⟨rfl, ro.trans (State.avsFail_onlyRegs _ r _ v), mo.trans (State.avsFail_sameMemory _ r _ v)⟩
  · rw [hx, State.avs_setAvs]
    exact ⟨rfl, ro.trans (State.setAvs_onlyRegs _ r _ _), mo.trans (State.setAvs_sameMemory _ r _ _)⟩

theorem State.avsUpdate_failed {s : State} {r : Rail} (h : s.elapsed (s.avs r).updatedAt 1024 = true) {v : AvsReading}
    (hm : v.monitorOk = false) :
    ((s.avsUpdate r v).avs r).setpoint = r.range.2 ∧ (s.avsUpdate r v).on F.SY_STICKY_AVS_FAIL 0 = true := by
  rw [State.avsUpdate_eq h, if_pos (by simp [hm])]
  exact ⟨congrArg AvsLoop.setpoint (s.avsFail_avs r _ v), s.avsFail_on r _ v⟩

/-! ### The statement -/

theorem exec_loopFreezeWrite_trusted {m : Initiator} (h : m.isUser = false) (v : Word) (s : State) :
    exec (.loopFreezeWrite m v) s = .next ((s.setReg .SY_LOOP_FREEZE 0 v).reply m (.ok 0)) := by
  simp [exec, execLoopFreezeWrite, h]

theorem exec_loopFreezeWrite_user {m : Initiator} (h : m.isUser = true) (v : Word) (s : State) :
    exec (.loopFreezeWrite m v) s = .next (s.busError m true 0x20000110 .priv) := by
  simp [exec, execLoopFreezeWrite, h]

/-- Settles O23: each command by the lemma about its effect; the voltage loops by the goal of an update. -/
theorem linksFreezesAndVoltageLoopsAct : Obligations.LinksFreezesAndVoltageLoopsAct := by
  refine ⟨fun d s => ⟨fun he => ⟨?_, ?_, ?_⟩, ?_, ?_, ?_, ?_, ?_, ?_⟩, fun r v s => ⟨?_, ?_⟩⟩
  · refine ⟨s.modLink d.val fun x => { x with seen := some true }, ?_, ?_, ?_, ?_, rfl, rfl, rfl, rfl, rfl⟩
    · simp [exec, execD2dTransfer, State.transfer, he]
    · simp
    · simp
    · intro c hc
      simp [Ne.symm hc]
  · intro n
    refine ⟨s.modLink d.val fun x => { x with seen := some true, corrected := x.corrected + (if n == 0 then 0 else 1) },
      ?_, ?_, ?_, rfl, rfl, rfl, rfl, rfl⟩
    · simp [exec, execD2dTransfer, State.transfer, he]
    · simp
    · simp
  · exact fun ports cws => ⟨_, rfl, State.transfer_lost he ports cws⟩
  · intro he how
    simp [exec, execD2dTransfer, State.transfer, he]
  · exact fun he hd hb => ⟨_, rfl, State.d2dDown_holds he hd hb⟩
  · intro hb
    simp [exec, execD2dDown, State.d2dDown, hb]
  · intro hd hw
    refine ⟨s.modLink d.val fun x => { x with retrainedAt := s.now, retrains := x.retrains + 1 },
      ?_, ?_, ?_, ?_, rfl, rfl, rfl, rfl, rfl⟩
    · simp [exec, execD2dRetrain, State.d2dRetrain, State.elapsed, hd, hw]
    · simp
    · simp
    · simpa using hd
  · exact fun hd hg => ⟨_, rfl, State.d2dRestore_restores hd hg⟩
  · refine fun m v => ⟨fun hu => ?_, fun hu => ?_⟩
    · refine ⟨_, exec_loopFreezeWrite_trusted hu v s, ?_, ?_, State.answer_reply .., ?_, rfl, rfl, rfl, rfl⟩
      · rw [State.reg_reply, State.reg_setReg, if_pos ⟨rfl, rfl⟩, BitVec.toNat_and]
        exact Nat.and_two_pow_sub_one_eq_mod v.toNat 8
      · rw [State.reg_reply, State.reg_setReg, if_neg (by simp)]
      · exact State.onlyAt_setReg s (List.mem_singleton_self _) 0 v
    · refine ⟨_, exec_loopFreezeWrite_user hu v s, ?_, State.answer_busError ..⟩
      exact s.busError_onlyAt m _ _ _ _ _ (.inl (by decide)) (by decide) (by decide)
  · intro hn
    have he : s.elapsed (s.avs r).updatedAt 1024 = false := by simpa [State.elapsed] using hn
    simp [exec, execAvsUpdate, State.avsUpdate, he]
  · intro hn h1 h2
    have he : s.elapsed (s.avs r).updatedAt 1024 = true := by simpa [State.elapsed] using hn
    obtain ⟨hlo, hhi⟩ := State.avsUpdate_range he h1 h2 v
    refine ⟨_, rfl, hlo, hhi, State.avsUpdate_failed he, ?_, ?_, ?_, State.avsUpdate_frame he v⟩
    · intro mv hm hb hr hmv
      have hg : s.avsGoal r v = mv := by simp [State.avsGoal, hb, hmv]
      rw [State.setpoint_avsUpdate he hm (.inr (hg ▸ AvsReading.agrees_of_readback hr)), hg]
    · intro mv hm hb hs hf hr hmv
      have hg : s.avsGoal r v = mv := by simp [State.avsGoal, hb, hs, hf, hmv]
      rw [State.setpoint_avsUpdate he hm (.inr (hg ▸ AvsReading.agrees_of_readback hr)), hg]
    · intro hm hb hf
      have hg : s.avsGoal r v = (s.avs r).setpoint := by simp [State.avsGoal, hb, hf]
      rw [State.setpoint_avsUpdate he hm (.inl hg), hg]

end Sys2Proof.Machine
end

section
/-! What a tick boundary leaves alone: TICK_NO and what its advance rests on, through every function that TICK_BOUNDARY calls, one lemma
per function, in the order of the model's files; with it, O53.  A lemma about a plain update is proved by `(rfl)`, not `rfl`: `simp` then
rewrites with it, and no proof asks the kernel to compute with whole states. -/

namespace Sys2Proof.Machine

/-- What the advance of TICK_NO rests on: TICK_NO and the count of boundaries (R22, R26), the value that TICK_NO is to take next (R27), and
the boundary of a thermal reset (R628). -/
structure Clock where
  tick : Tick
  now : Nat
  tickAt : Option Tick
  resetAt : Option Nat

/-- The clock of a state. -/
def State.clock (s : State) : Clock := ⟨s.tick, s.now, s.boot.tickAt, s.thermal.resetAt⟩

namespace State

variable (s : State)

@[simp] theorem clock_ite (c : Prop) [Decidable c] (t : State) : (if c then s else t).clock = if c then s.clock else t.clock :=
  apply_ite ..

@[simp] theorem each_clock {α : Type} {f : State → α → State} (hf : ∀ s x, (f s x).clock = s.clock) (l : List α) :
    (s.each l f).clock = s.clock := each_keeps clock hf l s

/-! ### Fields that are written in place -/

@[simp] theorem with_tallies_clock (x : Table Nat) : { s with tallies := x }.clock = s.clock := (rfl)
@[simp] theorem with_domain_clock (x : Option DomainCommit) : { s with domain := x }.clock = s.clock := (rfl)
@[simp] theorem with_imageJob_clock (x : ImageJob) : { s with imageJob := x }.clock = s.clock := (rfl)
@[simp] theorem with_journal_clock (x : List JEntry) : { s with journal := x }.clock = s.clock := (rfl)
@[simp] theorem with_atBoundary_clock (x : List Keyed) : { s with atBoundary := x }.clock = s.clock := (rfl)
@[simp] theorem with_answers_clock (x : Table Answer) : { s with answers := x }.clock = s.clock := (rfl)
@[simp] theorem with_blockResets_clock (x : List (Resource × Nat)) : { s with blockResets := x }.clock = s.clock := (rfl)
@[simp] theorem with_dumpJobs_clock (x : List DumpJob) : { s with dumpJobs := x }.clock = s.clock := (rfl)
@[simp] theorem with_ccUser_clock (x : CcUser) : { s with ccUser := x }.clock = s.clock := (rfl)
@[simp] theorem with_uart_clock (x : Uart) : { s with uart := x }.clock = s.clock := (rfl)
@[simp] theorem with_snapshotBefore_clock (x : Option Snapshot) : { s with snapshotBefore := x }.clock = s.clock := (rfl)
@[simp] theorem with_snapshots_clock (x y : Option Snapshot) : { s with snapshotBefore := x, snapshot := y }.clock = s.clock := (rfl)
@[simp] theorem with_egress_staged_clock (x y : Table Berth) : { s with egress := x, staged := y }.clock = s.clock := (rfl)
@[simp] theorem with_ingress_swap_clock (x : Table Berth) (y : Swap) : { s with ingress := x, swap := y }.clock = s.clock := (rfl)

@[simp] theorem with_applied_clock (x : Option Image) (y : ImageJob) (z : Mate) :
    { s with applied := x, imageJob := y, mate := z }.clock = s.clock := (rfl)

/-! ### Tables of the state -/

@[simp] theorem setAnswer_clock (i : Nat) (v : Answer) : (s.setAnswer i v).clock = s.clock := (rfl)
@[simp] theorem setSlot_clock (i : Nat) (v : CoalSlot) : (s.setSlot i v).clock = s.clock := (rfl)
@[simp] theorem setLink_clock (i : Nat) (v : Link) : (s.setLink i v).clock = s.clock := (rfl)
@[simp] theorem setStore_clock (i : Nat) (v : Store) : (s.setStore i v).clock = s.clock := (rfl)
@[simp] theorem setTrain_clock (i : Nat) (v : Train) : (s.setTrain i v).clock = s.clock := (rfl)
@[simp] theorem setIngressBerth_clock (i : Nat) (v : Berth) : (s.setIngressBerth i v).clock = s.clock := (rfl)
@[simp] theorem setStagedBerth_clock (i : Nat) (v : Berth) : (s.setStagedBerth i v).clock = s.clock := (rfl)
@[simp] theorem setEgressBerth_clock (i : Nat) (v : Berth) : (s.setEgressBerth i v).clock = s.clock := (rfl)
@[simp] theorem setSourceOf_clock (i : Nat) (v : Nat) : (s.setSourceOf i v).clock = s.clock := (rfl)
@[simp] theorem setManifest_clock (i j : Nat) (v : Word) : (s.setManifest i j v).clock = s.clock := (rfl)
@[simp] theorem setLane_clock (i : Nat) (v : Lane) : (s.setLane i v).clock = s.clock := (rfl)
@[simp] theorem setClient_clock (i : Nat) (v : Client) : (s.setClient i v).clock = s.clock := (rfl)
@[simp] theorem setPacketsOf_clock (i : Nat) (v : Packets) : (s.setPacketsOf i v).clock = s.clock := (rfl)
@[simp] theorem setLineFrame_clock (i : Nat) (v : LineFrame) : (s.setLineFrame i v).clock = s.clock := (rfl)
@[simp] theorem setGcc_clock (i : Nat) (v : Gcc) : (s.setGcc i v).clock = s.clock := (rfl)
@[simp] theorem setPmSection_clock (i : Nat) (v : Section) : (s.setPmSection i v).clock = s.clock := (rfl)
@[simp] theorem setEngine_clock (i : Nat) (v : Engine) : (s.setEngine i v).clock = s.clock := (rfl)
@[simp] theorem setEncCtx_clock (i : Nat) (v : EncCtx) : (s.setEncCtx i v).clock = s.clock := (rfl)
@[simp] theorem setKeyJob_clock (i : Nat) (v : (Option KeyJob)) : (s.setKeyJob i v).clock = s.clock := (rfl)
@[simp] theorem setHub_clock (i : Nat) (v : TideHub) : (s.setHub i v).clock = s.clock := (rfl)
@[simp] theorem setTideSc_clock (i : Nat) (v : TideSc) : (s.setTideSc i v).clock = s.clock := (rfl)
@[simp] theorem setTideLeaf_clock (i : Nat) (v : TideLeaf) : (s.setTideLeaf i v).clock = s.clock := (rfl)
@[simp] theorem setDsCarrier_clock (i : Nat) (v : Subcarrier) : (s.setDsCarrier i v).clock = s.clock := (rfl)
@[simp] theorem setMerge_clock (i : Nat) (v : MergeGroup) : (s.setMerge i v).clock = s.clock := (rfl)
@[simp] theorem setTimeSource_clock (i : Nat) (v : TimeSource) : (s.setTimeSource i v).clock = s.clock := (rfl)
@[simp] theorem setCapture_clock (i : Nat) (v : Capture) : (s.setCapture i v).clock = s.clock := (rfl)
@[simp] theorem setMeasure_clock (i : Nat) (v : Measure) : (s.setMeasure i v).clock = s.clock := (rfl)
@[simp] theorem setMoor_clock (i : Nat) (v : Moor) : (s.setMoor i v).clock = s.clock := (rfl)
@[simp] theorem setCore_clock (i : Nat) (v : Core) : (s.setCore i v).clock = s.clock := (rfl)
@[simp] theorem setTally_clock (i j : Nat) (v : Nat) : (s.setTally i j v).clock = s.clock := (rfl)
@[simp] theorem setMsixWaits_clock (i : Nat) (v : Bool) : (s.setMsixWaits i v).clock = s.clock := (rfl)
@[simp] theorem setDumpSeq_clock (i : Nat) (v : Nat) : (s.setDumpSeq i v).clock = s.clock := (rfl)
@[simp] theorem setClientPm_clock (i : Nat) (v : Section) : (s.setClientPm i v).clock = s.clock := (rfl)
@[simp] theorem setPathPm_clock (i : Nat) (v : Section) : (s.setPathPm i v).clock = s.clock := (rfl)
@[simp] theorem setBin_clock (i j : Nat) (v : PmBin) : (s.setBin i j v).clock = s.clock := (rfl)

/-! ### Registers, counters and what waits -/

@[simp] theorem setReg_clock (r : Reg) (i : Nat) (v : Word) : (s.setReg r i v).clock = s.clock := (rfl)
@[simp] theorem keepRegs_clock (p : Key × Word → Bool) : (s.keepRegs p).clock = s.clock := (rfl)
@[simp] theorem wr_clock (f : Field) (i : Nat) (v : Nat) : (s.wr f i v).clock = s.clock := (rfl)
@[simp] theorem incWrap_clock (f : Field) (i n : Nat) : (s.incWrap f i n).clock = s.clock := (rfl)
@[simp] theorem incSat_clock (f : Field) (i n : Nat) : (s.incSat f i n).clock = s.clock := (rfl)
@[simp] theorem wrBool_clock (f : Field) (i : Nat) (b : Bool) : (s.wrBool f i b).clock = s.clock := (rfl)
@[simp] theorem reply_clock (m : Initiator) (a : Answer) : (s.reply m a).clock = s.clock := (rfl)
@[simp] theorem setCtr_clock (c : Ctr) (n : Nat) : (s.setCtr c n).clock = s.clock := (rfl)
@[simp] theorem count_clock (c : Ctr) (n : Nat) : (s.count c n).clock = s.clock := (rfl)
@[simp] theorem addTally_clock (code index n : Nat) : (s.addTally code index n).clock = s.clock := (rfl)
@[simp] theorem later_clock (k : Keyed) : (s.later k).clock = s.clock := (rfl)
@[simp] theorem send_clock (o : Out) : (s.send o).clock = s.clock := (rfl)
@[simp] theorem draw_clock : s.draw.clock = s.clock := (rfl)

/-! ### Events and the error response -/

@[simp] theorem msixLeaves_clock (v : Nat) : (s.msixLeaves v).clock = s.clock := (rfl)
@[simp] theorem sendMsix_clock (v : Nat) : (s.sendMsix v).clock = s.clock := by simp [sendMsix]
@[simp] theorem flushMsix_clock : s.flushMsix.clock = s.clock := by simp [flushMsix]
@[simp] theorem report_clock (src leaf chan detail : Nat) : (s.report src leaf chan detail).clock = s.clock := by simp [clock]
@[simp] theorem raise_clock (f : Field) (i : Nat) : (s.raise f i).clock = s.clock := by simp [clock]
@[simp] theorem raiseIf_clock (c : Bool) (f : Field) (i : Nat) : (s.raiseIf c f i).clock = s.clock := by simp [raiseIf]
@[simp] theorem raiseSource_clock (src : Nat) : (s.raiseSource src).clock = s.clock := by simp [raiseSource]
@[simp] theorem accessFault_clock (m : Initiator) (cause addr : Nat) : (s.accessFault m cause addr).clock = s.clock := by simp [accessFault]

@[simp] theorem busError_clock (m : Initiator) (write : Bool) (addr : Nat) (c : BusCause) :
    (s.busError m write addr c).clock = s.clock := by simp [busError]

/-! ### Journaled writes -/

@[simp] theorem refuseLocal_clock (m : Initiator) (addr : Nat) : (s.refuseLocal m addr).clock = s.clock := by simp [refuseLocal]
@[simp] theorem journalEntry_clock (w : Write) : (s.journalEntry w).clock = s.clock := (rfl)

@[simp] theorem write_clock (m : Initiator) (a : Nat) (w : Write) {f : State → State} (hf : (f s).clock = s.clock) :
    (s.write m a w f).clock = s.clock := by simp [write, hf]

/-! ### Berths and trains -/

@[simp] theorem berthPointerWord_clock (p : Nat) (word : BitVec 16) (label bbip : Nat) (drift : Int) (centre : Nat) :
    (s.berthPointerWord p word label bbip drift centre).clock = s.clock := by
  unfold berthPointerWord
  dsimp only
  (repeat' split) <;> simp

@[simp] theorem missedBerth_clock (p : Nat) : (s.missedBerth p).clock = s.clock := by simp [missedBerth]
@[simp] theorem publishStore_clock (p : Nat) : (s.publishStore p).clock = s.clock := by simp [publishStore]

@[simp] theorem tickStore_clock (p : Nat) : (s.tickStore p).clock = s.clock := by
  unfold tickStore
  dsimp only
  split <;> simp

@[simp] theorem clientRate_clock (t cHat : Nat) (overLimit : Bool) : (s.clientRate t cHat overLimit).clock = s.clock := by simp [clientRate]
@[simp] theorem crateErrors_clock (t bip fcErrors : Nat) : (s.crateErrors t bip fcErrors).clock = s.clock := by simp [crateErrors]
@[simp] theorem crateFills_clock (t : Nat) (fcs : List (Option Nat)) : (s.crateFills t fcs).clock = s.clock := by simp [crateFills]
@[simp] theorem tickTrain_clock (t : Nat) : (s.tickTrain t).clock = s.clock := by simp [tickTrain]

/-! ### Manifest and fabric -/

@[simp] theorem modSwap_clock (f : Swap → Swap) : (s.modSwap f).clock = s.clock := (rfl)
@[simp] theorem setSwapState_clock (x : SwapState) : (s.setSwapState x).clock = s.clock := (rfl)
@[simp] theorem swapResult_clock (r : Nat) : (s.swapResult r).clock = s.clock := (rfl)
@[simp] theorem endSwap_clock : s.endSwap.clock = s.clock := by simp [endSwap]
@[simp] theorem swapInfo_clock (cause index : Nat) : (s.swapInfo cause index).clock = s.clock := by simp [swapInfo]

@[simp] theorem swapCheck_clock : s.swapCheck.clock = s.clock := by
  unfold swapCheck
  dsimp only
  split <;> simp

@[simp] theorem abandonRepack_clock : s.abandonRepack.clock = s.clock := by simp [abandonRepack]
@[simp] theorem switchRepack_clock (r : StowResult) : (s.switchRepack r).clock = s.clock := by simp [switchRepack]

@[simp] theorem swapStart_clock : s.swapStart.clock = s.clock := by
  unfold swapStart
  split
  · split <;> simp
  · simp

@[simp] theorem gridPrepare_clock : s.gridPrepare.clock = s.clock := by simp [gridPrepare]
@[simp] theorem tickLate_clock : s.tickLate.clock = s.clock := by simp [tickLate]
@[simp] theorem gridArm_clock (n written : Tick) : (s.gridArm n written).clock = s.clock := by simp [gridArm]
@[simp] theorem gridCancel_clock (written : Tick) : (s.gridCancel written).clock = s.clock := by simp [gridCancel]
@[simp] theorem gridCommand_clock (k : Keyed) : (s.gridCommand k).clock = s.clock := by simp [gridCommand]

@[simp] theorem gridRepack_clock : s.gridRepack.clock = s.clock := by
  unfold gridRepack
  dsimp only
  (repeat' split) <;> simp

@[simp] theorem midOnSwap_clock : s.midOnSwap.clock = s.clock := by simp [midOnSwap]

@[simp] theorem roleErrors_clock : s.roleErrors.clock = s.clock := by
  refine each_clock s (fun t e => ?_) _
  split
  · split <;> simp
  · rfl

@[simp] theorem swapDone_clock (n : Tick) : (s.swapDone n).clock = s.clock := by simp [swapDone]
@[simp] theorem moveFabric_clock : s.moveFabric.clock = s.clock := by simp [moveFabric]
@[simp] theorem ctlCorrected_clock : s.ctlCorrected.clock = s.clock := by simp [ctlCorrected]
@[simp] theorem ctlUncorrectable_clock (stage port : Nat) : (s.ctlUncorrectable stage port).clock = s.clock := by simp [ctlUncorrectable]

@[simp] theorem manifestUncorrectable_clock (p train : Nat) :
    (s.manifestUncorrectable p train).clock = s.clock := by simp [manifestUncorrectable]

@[simp] theorem shadowUncorrectable_clock (p : Nat) : (s.shadowUncorrectable p).clock = s.clock := (rfl)

/-! ### Quays and clients -/

@[simp] theorem modClient_clock (q c : Nat) (f : Client → Client) : (s.modClient q c f).clock = s.clock := (rfl)
@[simp] theorem countClient_clock (q c num n : Nat) : (s.countClient q c num n).clock = s.clock := by simp [countClient]

@[simp] theorem mapClient_clock (q c w : Nat) : (s.mapClient q c w).clock = s.clock := by
  unfold mapClient
  split <;> simp

@[simp] theorem drainIdle_clock (q c : Nat) : (s.drainIdle q c).clock = s.clock := by
  unfold drainIdle
  split <;> simp

@[simp] theorem egressBuffer_clock (q c : Nat) (change : Int) (latency : Nat) :
    (s.egressBuffer q c change latency).clock = s.clock := by simp [egressBuffer]

@[simp] theorem tickEgress_clock (q c : Nat) : (s.tickEgress q c).clock = s.clock := by simp [tickEgress]

@[simp] theorem tickClients_clock (w : Nat → Nat → Nat) : (s.tickClients w).clock = s.clock := by
  refine each_clock s (fun t x => ?_) _
  dsimp only
  split <;> simp

@[simp] theorem clientSees_clock (q c : Nat) (rf lf sm : Bool) : (s.clientSees q c rf lf sm).clock = s.clock := by simp [clientSees]

@[simp] theorem clientErrors_clock (q c cv cv2 corr unc : Nat) :
    (s.clientErrors q c cv cv2 corr unc).clock = s.clock := by simp [clientErrors]

@[simp] theorem modPackets_clock (q : Nat) (f : Packets → Packets) : (s.modPackets q f).clock = s.clock := (rfl)

@[simp] theorem idataWrite_clock (q : Nat) (v : Word) : (s.idataWrite q v).clock = s.clock := by
  unfold idataWrite
  dsimp only
  split <;> simp

/-! ### Line frames -/

@[simp] theorem modFrame_clock (e : Nat) (f : LineFrame → LineFrame) : (s.modFrame e f).clock = s.clock := (rfl)
@[simp] theorem showSsf_clock (e : Nat) : (s.showSsf e).clock = s.clock := by simp [showSsf]
@[simp] theorem setOof_clock (e : Nat) (b : Bool) : (s.setOof e b).clock = s.clock := by simp [setOof]
@[simp] theorem dropUnit_clock (e : Nat) : (s.dropUnit e).clock = s.clock := by simp [dropUnit]
@[simp] theorem dropFrame_clock (e : Nat) : (s.dropFrame e).clock = s.clock := by simp [dropFrame]
@[simp] theorem showLos_clock (e : Nat) (los : Bool) : (s.showLos e los).clock = s.clock := by simp [showLos]
@[simp] theorem fasFrame_clock (e differ : Nat) (found : List Nat) : (s.fasFrame e differ found).clock = s.clock := by simp [fasFrame]
@[simp] theorem modSection_clock (n : Nat) (f : SecondCount → SecondCount) : (s.modSection n f).clock = s.clock := (rfl)

@[simp] theorem otucFrames_clock (e frames violated bei : Nat) (bdi : Bool) :
    (s.otucFrames e frames violated bei bdi).clock = s.clock := by simp [otucFrames]

@[simp] theorem backward_clock (e : Nat) : (s.backward e).clock = s.clock := by simp [backward]
@[simp] theorem tickFrame_clock (e : Nat) : (s.tickFrame e).clock = s.clock := by simp [tickFrame]
@[simp] theorem modGcc_clock (e ch : Nat) (f : Gcc → Gcc) : (s.modGcc e ch f).clock = s.clock := (rfl)

@[simp] theorem gccWrite_clock (e ch : Nat) (v : Word) : (s.gccWrite e ch v).clock = s.clock := by
  unfold gccWrite
  dsimp only
  split <;> simp

@[simp] theorem gccSend_clock (e ch : Nat) : (s.gccSend e ch).clock = s.clock := by
  unfold gccSend
  dsimp only
  split <;> simp

@[simp] theorem atUnit_clock (u : Nat) {f : State → State} (hf : (f s).clock = s.clock) : (s.atUnit u f).clock = s.clock := by
  simp [atUnit, hf]

@[simp] theorem atEngine_clock (m : Initiator) (w : Bool) (a : Nat) {f : Nat → State} (hf : ∀ e, (f e).clock = s.clock) :
    (s.atEngine m w a f).clock = s.clock := by simp [atEngine, hf]

/-! ### Coherent line engines -/

@[simp] theorem modEngine_clock (e : Nat) (f : Engine → Engine) : (s.modEngine e f).clock = s.clock := (rfl)
@[simp] theorem light_clock (e : Nat) : (s.light e).clock = s.clock := by simp [light]
@[simp] theorem darken_clock (e : Nat) : (s.darken e).clock = s.clock := by simp [darken]

@[simp] theorem followRequest_clock (e : Nat) : (s.followRequest e).clock = s.clock := by
  unfold followRequest
  split
  · rfl
  · split <;> simp

@[simp] theorem showHolds_clock (e : Nat) : (s.showHolds e).clock = s.clock := by simp [showHolds]
@[simp] theorem holdChanged_clock (e : Nat) (f : Engine → Engine) : (s.holdChanged e f).clock = s.clock := by simp [holdChanged]
@[simp] theorem followLaser_clock (e : Nat) : (s.followLaser e).clock = s.clock := by simp [followLaser]
@[simp] theorem followSwing_clock (e : Nat) : (s.followSwing e).clock = s.clock := by simp [followSwing]
@[simp] theorem clearLocks_clock (e : Nat) : (s.clearLocks e).clock = s.clock := by simp [clearLocks]
@[simp] theorem enterRx_clock (e st : Nat) : (s.enterRx e st).clock = s.clock := by simp [enterRx]
@[simp] theorem startInLos_clock (e : Nat) : (s.startInLos e).clock = s.clock := by simp [startInLos]
@[simp] theorem setPower_clock (e p : Nat) : (s.setPower e p).clock = s.clock := by simp [setPower]
@[simp] theorem followPower_clock (e : Nat) : (s.followPower e).clock = s.clock := by simp [followPower]
@[simp] theorem restartFreq_clock (e : Nat) (full : Bool) : (s.restartFreq e full).clock = s.clock := by simp [restartFreq]
@[simp] theorem acqRestart_clock (e : Nat) : (s.acqRestart e).clock = s.clock := by simp [acqRestart]
@[simp] theorem cohPublish_clock (e : Nat) (cd fofs : Int) : (s.cohPublish e cd fofs).clock = s.clock := by simp [cohPublish]
@[simp] theorem spiGo_clock (e : Nat) (v : Word) : (s.spiGo e v).clock = s.clock := by simp [spiGo]
@[simp] theorem tickEngine_clock (e : Nat) : (s.tickEngine e).clock = s.clock := by simp [tickEngine]
@[simp] theorem engineClassT_clock (e : Nat) : (s.engineClassT e).clock = s.clock := by simp [engineClassT]
@[simp] theorem writeTxEn_clock (e : Nat) (on : Bool) : (s.writeTxEn e on).clock = s.clock := by simp [writeTxEn]

/-! ### Links and loop freezes -/

@[simp] theorem modLink_clock (d : Nat) (f : Link → Link) : (s.modLink d f).clock = s.clock := (rfl)
@[simp] theorem tickLink_clock (d : Nat) : (s.tickLink d).clock = s.clock := by simp [tickLink]
@[simp] theorem tickFreeze_clock : s.tickFreeze.clock = s.clock := by simp [tickFreeze]

/-! ### Decoder pool -/

@[simp] theorem modPool_clock (f : Pool → Pool) : (s.modPool f).clock = s.clock := (rfl)
@[simp] theorem tickPool_clock : s.tickPool.clock = s.clock := (rfl)

/-! ### Encryption -/

@[simp] theorem modCtx_clock (i : Nat) (f : EncCtx → EncCtx) : (s.modCtx i f).clock = s.clock := (rfl)
@[simp] theorem setKey_clock (i phase : Nat) (k : Option (List Word)) : (s.setKey i phase k).clock = s.clock := by simp [setKey]
@[simp] theorem setChange_clock (i : Nat) (c : Option (Nat × Tick)) : (s.setChange i c).clock = s.clock := by simp [setChange]
@[simp] theorem showAis_clock (i : Nat) : (s.showAis i).clock = s.clock := by simp [showAis]
@[simp] theorem applyBlock_clock (i : Nat) (report : Bool) : (s.applyBlock i report).clock = s.clock := by simp [applyBlock]
@[simp] theorem startCtx_clock (i : Nat) : (s.startCtx i).clock = s.clock := by simp [startCtx]
@[simp] theorem startReceive_clock (e : Nat) : (s.startReceive e).clock = s.clock := by simp [startReceive]
@[simp] theorem restartContexts_clock (e : Nat) : (s.restartContexts e).clock = s.clock := by simp [restartContexts]
@[simp] theorem keyResult_clock (copy code : Nat) : (s.keyResult copy code).clock = s.clock := (rfl)
@[simp] theorem clearBlob_clock (copy : Nat) : (s.clearBlob copy).clock = s.clock := by simp [clearBlob]
@[simp] theorem keyLoad_clock (copy i phase : Nat) (blob : List Word) : (s.keyLoad copy i phase blob).clock = s.clock := by simp [keyLoad]
@[simp] theorem zeroize_clock (copy i phase : Nat) : (s.zeroize copy i phase).clock = s.clock := by simp [zeroize]
@[simp] theorem zeroizeAll_clock (copy e dir : Nat) : (s.zeroizeAll copy e dir).clock = s.clock := by simp [zeroizeAll]
@[simp] theorem keyChange_clock (copy i target : Nat) (b : Tick) : (s.keyChange copy i target b).clock = s.clock := by simp [keyChange]

@[simp] theorem txBlock_clock (i : Nat) : (s.txBlock i).clock = s.clock := by
  unfold txBlock
  extract_lets due t st x next noKey u
  have h : u.clock = s.clock := by
    simp only [u, t, modCtx_clock]
    split <;> simp
  split <;> simp [h]

@[simp] theorem hideClear_clock (n : Tick) (e : Nat) : (s.hideClear n e).clock = s.clock := by simp [hideClear]
@[simp] theorem missContexts_clock (e : Nat) : (s.missContexts e).clock = s.clock := by simp [missContexts]
@[simp] theorem clearLatches_clock (e : Nat) : (s.clearLatches e).clock = s.clock := by simp [clearLatches]

@[simp] theorem keyCommand_clock (m : Initiator) (w : Nat → Write) {f : State → Nat → State} (hf : ∀ i, (f s i).clock = s.clock) :
    (s.keyCommand m w f).clock = s.clock := by simp [keyCommand, hf]

/-! ### Tide-hub mode -/

@[simp] theorem followLit_clock (e i : Nat) : (s.followLit e i).clock = s.clock := by
  unfold followLit
  dsimp only
  split <;> simp

@[simp] theorem countTide_clock (num unit n : Nat) : (s.countTide num unit n).clock = s.clock := by simp [countTide]
@[simp] theorem announce_clock (e : Nat) : (s.announce e).clock = s.clock := by simp [announce]
@[simp] theorem requestBank_clock (e bank : Nat) : (s.requestBank e bank).clock = s.clock := by simp [requestBank]
@[simp] theorem modSc_clock (n : Nat) (f : TideSc → TideSc) : (s.modSc n f).clock = s.clock := (rfl)
@[simp] theorem modLeaf_clock (n : Nat) (f : TideLeaf → TideLeaf) : (s.modLeaf n f).clock = s.clock := (rfl)
@[simp] theorem playout_clock (e leaf : Nat) : (s.playout e leaf).clock = s.clock := by simp [playout]
@[simp] theorem showLimit_clock (n : Nat) : (s.showLimit n).clock = s.clock := by simp [showLimit]
@[simp] theorem startTol_clock (e : Nat) : (s.startTol e).clock = s.clock := by simp [startTol]
@[simp] theorem tideFloor_clock (e sc floor : Nat) : (s.tideFloor e sc floor).clock = s.clock := by simp [tideFloor]

@[simp] theorem setThreshold_clock (e sc : Nat) : (s.setThreshold e sc).clock = s.clock := by
  unfold setThreshold
  dsimp only
  split <;> simp

@[simp] theorem endWindows_clock (e : Nat) : (s.endWindows e).clock = s.clock := by simp [endWindows]
@[simp] theorem playouts_clock (e : Nat) : (s.playouts e).clock = s.clock := by simp [playouts]
@[simp] theorem tickTide_clock (e : Nat) : (s.tickTide e).clock = s.clock := by simp [tickTide]

/-! ### Breakwater merge -/

@[simp] theorem modMerge_clock (g : Nat) (f : MergeGroup → MergeGroup) : (s.modMerge g f).clock = s.clock := (rfl)
@[simp] theorem showGroup_clock (g : Nat) : (s.showGroup g).clock = s.clock := by simp [showGroup]
@[simp] theorem enterMerge_clock (g : Nat) (st : MergeState) : (s.enterMerge g st).clock = s.clock := by simp [enterMerge]
@[simp] theorem realign_clock (g : Nat) : (s.realign g).clock = s.clock := by simp [realign]

@[simp] theorem deliverKey_clock (g : Nat) (b : Bool) (d : Delivery) : (s.deliverKey g b d).clock = s.clock := by
  unfold deliverKey
  dsimp only
  (repeat' split) <;> simp

@[simp] theorem jumpInst_clock (g : Nat) (b : Bool) : (s.jumpInst g b).clock = s.clock := by simp [jumpInst]
@[simp] theorem mergedSsf_clock (g : Nat) : (s.mergedSsf g).clock = s.clock := by simp [mergedSsf]
@[simp] theorem missedFrame_clock (g : Nat) : (s.missedFrame g).clock = s.clock := by simp [missedFrame]
@[simp] theorem selectorDecides_clock (g : Nat) : (s.selectorDecides g).clock = s.clock := by simp [selectorDecides]
@[simp] theorem mgSelect_clock (g : Nat) : (s.mgSelect g).clock = s.clock := by simp [mgSelect]
@[simp] theorem instantRequests_clock (g : Nat) : (s.instantRequests g).clock = s.clock := by simp [instantRequests]
@[simp] theorem mgUse_clock (g : Nat) (b : Bool) : (s.mgUse g b).clock = s.clock := by simp [mgUse]

@[simp] theorem instanceTick_clock (g : Nat) (b : Bool) (key : Option Nat) (valid defect jump : Bool) (bad : List (Nat × Bool)) :
    (s.instanceTick g b key valid defect jump bad).clock = s.clock := by
  unfold instanceTick
  dsimp only
  (repeat' split) <;> simp

@[simp] theorem presentTrain_clock (g : Nat) : (s.presentTrain g).clock = s.clock := by simp [presentTrain]
@[simp] theorem tickMerge_clock (g : Nat) : (s.tickMerge g).clock = s.clock := by simp [tickMerge]
@[simp] theorem mgCmd_clock (g cmd : Nat) : (s.mgCmd g cmd).clock = s.clock := by simp [mgCmd]

/-! ### Timing -/

@[simp] theorem fillFreq_clock (r : Nat) : (s.fillFreq r).clock = s.clock := by simp [fillFreq]
@[simp] theorem refreshQl_clock (r : Nat) : (s.refreshQl r).clock = s.clock := by simp [refreshQl]

@[simp] theorem dpllSelect_clock (output : Bool) : (s.dpllSelect output).clock = s.clock := by
  unfold dpllSelect
  dsimp only
  (repeat' split) <;> simp [clock]

@[simp] theorem modTime_clock (f : TimePll → TimePll) : (s.modTime f).clock = s.clock := (rfl)
@[simp] theorem modSource_clock (i : Nat) (f : TimeSource → TimeSource) : (s.modSource i f).clock = s.clock := (rfl)
@[simp] theorem announceClass_clock : s.announceClass.clock = s.clock := by simp [announceClass]
@[simp] theorem tickTime_clock : s.tickTime.clock = s.clock := by simp [tickTime]
@[simp] theorem invarTick_clock (bound : Nat) (rate : Int) : (s.invarTick bound rate).clock = s.clock := by simp [invarTick]
@[simp] theorem tickOutPulse_clock : s.tickOutPulse.clock = s.clock := by simp [tickOutPulse]
@[simp] theorem swMeasure_clock (v : Word) : (s.swMeasure v).clock = s.clock := by simp [swMeasure]
@[simp] theorem learnAgain_clock (i : Nat) : (s.learnAgain i).clock = s.clock := by simp [learnAgain]
@[simp] theorem resetModel_clock : s.resetModel.clock = s.clock := by simp [resetModel]

/-! ### Memories -/

@[simp] theorem ancWrite_clock (a : Nat) (bytes : List Byte) : (s.ancWrite a bytes).clock = s.clock := (rfl)
@[simp] theorem ancForget_clock (a n : Nat) : (s.ancForget a n).clock = s.clock := (rfl)
@[simp] theorem ancTouch_clock (a n : Nat) : (s.ancTouch a n).clock = s.clock := (rfl)

@[simp] theorem repairProgram_clock (v : Word) : (s.repairProgram v).clock = s.clock := by
  unfold repairProgram
  dsimp only
  (repeat' split) <;> simp [clock]

/-! ### Line measurement -/

@[simp] theorem modMeasure_clock (e : Nat) (f : Measure → Measure) : (s.modMeasure e f).clock = s.clock := (rfl)
@[simp] theorem setQuantity_clock (e q : Nat) (v : Int) : (s.setQuantity e q v).clock = s.clock := by simp [setQuantity]
@[simp] theorem takeQuantity_clock (e q : Nat) (v : Int) : (s.takeQuantity e q v).clock = s.clock := by simp [takeQuantity]
@[simp] theorem publishQuantities_clock (e : Nat) : (s.publishQuantities e).clock = s.clock := by simp [publishQuantities]
@[simp] theorem followSecond_clock (e : Nat) : (s.followSecond e).clock = s.clock := by simp [followSecond]
@[simp] theorem modCapture_clock (e : Nat) (f : Capture → Capture) : (s.modCapture e f).clock = s.clock := (rfl)

@[simp] theorem showCapture_clock (e : Nat) : (s.showCapture e).clock = s.clock := by
  unfold showCapture
  dsimp only
  split <;> simp

@[simp] theorem nextSlot_clock (e i : Nat) : (s.nextSlot e i).clock = s.clock := by
  unfold nextSlot
  dsimp only
  split <;> simp

@[simp] theorem capTrigger_clock (e : Nat) (src : CapSource) : (s.capTrigger e src).clock = s.clock := by
  unfold capTrigger
  dsimp only
  (repeat' split) <;> simp

@[simp] theorem closeSlot_clock (e : Nat) (cut : Bool) (ns strig : Nat) : (s.closeSlot e cut ns strig).clock = s.clock := by
  unfold closeSlot
  dsimp only
  (repeat' split) <;> simp

@[simp] theorem cutCapture_clock (e : Nat) (armed : Bool) : (s.cutCapture e armed).clock = s.clock := by simp [cutCapture]

@[simp] theorem capArm_clock (e : Nat) : (s.capArm e).clock = s.clock := by
  unfold capArm
  split <;> simp

@[simp] theorem capRelease_clock (e : Nat) : (s.capRelease e).clock = s.clock := by
  unfold capRelease
  dsimp only
  split <;> simp

@[simp] theorem capEvents_clock (e : Nat) : (s.capEvents e).clock = s.clock := by simp [capEvents]

@[simp] theorem sopRate_clock (e rate : Nat) : (s.sopRate e rate).clock = s.clock := by
  unfold sopRate
  dsimp only
  (repeat' split) <;> simp

@[simp] theorem setFormat_clock (e n k : Nat) : (s.setFormat e n k).clock = s.clock := by simp [setFormat]
@[simp] theorem surveyStep_clock (e step : Nat) (r : SurveyRec) : (s.surveyStep e step r).clock = s.clock := by simp [surveyStep]

@[simp] theorem tickSurvey_clock (e : Nat) : (s.tickSurvey e).clock = s.clock := by
  unfold tickSurvey
  split <;> simp

@[simp] theorem tickMeasure_clock (e : Nat) : (s.tickMeasure e).clock = s.clock := by simp [tickMeasure]

@[simp] theorem atMeasured_clock (m : Initiator) (a : Nat) {f : State → Nat → State} (hf : ∀ e, (f s e).clock = s.clock) :
    (s.atMeasured m a f).clock = s.clock := by simp [atMeasured, hf]

/-! ### Events, counters and PM -/

@[simp] theorem coalesce_clock (r : Report) : (s.coalesce r).clock = s.clock := by simp [coalesce]

@[simp] theorem queueReport_clock (r : Report) : (s.queueReport r).clock = s.clock := by
  unfold queueReport
  dsimp only
  split
  · rfl
  · split
    · exact coalesce_clock ..
    · rfl

@[simp] theorem queueReports_clock : s.queueReports.clock = s.clock := each_clock _ queueReport_clock _
@[simp] theorem writeLogRd_clock (v : Nat) : (s.writeLogRd v).clock = s.clock := by simp [writeLogRd]
@[simp] theorem pcAdd_clock (i n : Nat) : (s.pcAdd i n).clock = s.clock := by simp [pcAdd]
@[simp] theorem tickCounters_clock : s.tickCounters.clock = s.clock := by simp [tickCounters]

@[simp] theorem pcWrite_clock (m : Initiator) (a : Nat) {f : State → State} (hf : (f s).clock = s.clock) :
    (s.pcWrite m a f).clock = s.clock := by simp [pcWrite, hf]

@[simp] theorem dumpStop_clock (midBurst : Bool) : (s.dumpStop midBurst).clock = s.clock := by simp [dumpStop]
@[simp] theorem writeDumpCfg_clock (r : Nat) (v : Word) : (s.writeDumpCfg r v).clock = s.clock := by simp [writeDumpCfg]

@[simp] theorem closeBin_clock (x kind : Nat) (y : PmEntity) : (s.closeBin x kind y).clock = s.clock := by
  unfold closeBin
  dsimp only
  (repeat' split) <;> simp

@[simp] theorem closeBins_clock : s.closeBins.clock = s.clock := by simp [closeBins]
@[simp] theorem showPm_clock : s.showPm.clock = s.clock := by simp [showPm]
@[simp] theorem tickPm_clock : s.tickPm.clock = s.clock := by simp [tickPm]
@[simp] theorem writePmCfg_clock (v : Word) : (s.writePmCfg v).clock = s.clock := by simp [writePmCfg]

/-! ### Client lanes -/

@[simp] theorem modLane_clock (l : Nat) (f : Lane → Lane) : (s.modLane l f).clock = s.clock := (rfl)
@[simp] theorem stopInjection_clock (l : Nat) : (s.stopInjection l).clock = s.clock := (rfl)
@[simp] theorem enterLane_clock (l : Nat) (st : LaneState) : (s.enterLane l st).clock = s.clock := by simp [enterLane]
@[simp] theorem clearTraining_clock (l : Nat) : (s.clearTraining l).clock = s.clock := by simp [clearTraining]
@[simp] theorem startAttempt_clock (l : Nat) : (s.startAttempt l).clock = s.clock := by simp [startAttempt]
@[simp] theorem resumeLoop_clock (l : Nat) : (s.resumeLoop l).clock = s.clock := by simp [resumeLoop]
@[simp] theorem publishLane_clock (l : Nat) : (s.publishLane l).clock = s.clock := by simp [publishLane]
@[simp] theorem laneDataAt_clock (l : Nat) : (s.laneDataAt l).clock = s.clock := by simp [laneDataAt]
@[simp] theorem restartTraining_clock (l : Nat) : (s.restartTraining l).clock = s.clock := by simp [restartTraining]
@[simp] theorem laneTrainAt_clock (l : Nat) : (s.laneTrainAt l).clock = s.clock := by simp [laneTrainAt]
@[simp] theorem setBackoffDis_clock (l : Nat) (on : Bool) : (s.setBackoffDis l on).clock = s.clock := by simp [setBackoffDis]
@[simp] theorem setLoop_clock (l mode : Nat) (squelch : Bool) : (s.setLoop l mode squelch).clock = s.clock := by simp [setLoop]
@[simp] theorem releaseLoop_clock (l : Nat) : (s.releaseLoop l).clock = s.clock := by simp [releaseLoop]
@[simp] theorem loopOffAt_clock (l : Nat) : (s.loopOffAt l).clock = s.clock := by simp [loopOffAt]

@[simp] theorem loopOnAt_clock (l mode : Nat) : (s.loopOnAt l mode).clock = s.clock := by
  unfold loopOnAt
  dsimp only
  (repeat' split) <;> simp

@[simp] theorem loopLostAt_clock (l : Nat) : (s.loopLostAt l).clock = s.clock := by simp [loopLostAt]
@[simp] theorem patCount_clock (l compared errors : Nat) : (s.patCount l compared errors).clock = s.clock := by simp [patCount]
@[simp] theorem patClearAt_clock (l : Nat) : (s.patClearAt l).clock = s.clock := by simp [patClearAt]
@[simp] theorem injectAt_clock (l bits : Nat) : (s.injectAt l bits).clock = s.clock := by simp [injectAt]
@[simp] theorem injectBurst_clock (l blen : Nat) : (s.injectBurst l blen).clock = s.clock := by simp [injectBurst]

/-! ### Resources that start again -/

@[simp] theorem startStores_clock (base n : Nat) : (s.startStores base n).clock = s.clock := by simp [startStores]
@[simp] theorem restartLane_clock (l : Nat) : (s.restartLane l).clock = s.clock := by simp [restartLane]
@[simp] theorem restartTrains_clock (ts : List Nat) : (s.restartTrains ts).clock = s.clock := by simp [restartTrains]
@[simp] theorem restartQuay_clock (q : Nat) : (s.restartQuay q).clock = s.clock := by simp [restartQuay]
@[simp] theorem restartEngine_clock (e : Nat) : (s.restartEngine e).clock = s.clock := by simp [restartEngine]
@[simp] theorem restartGroup_clock (g : Nat) : (s.restartGroup g).clock = s.clock := by simp [restartGroup]
@[simp] theorem restartPort_clock (m : Nat) : (s.restartPort m).clock = s.clock := by simp [restartPort]
@[simp] theorem restartResource_clock (x : Resource) : (s.restartResource x).clock = s.clock := by cases x <;> simp [restartResource]
@[simp] theorem restartAll_clock : s.restartAll.clock = s.clock := by simp [restartAll]

@[simp] theorem setResource_clock (im : Image) (x : Resource) : (s.setResource im x).clock = s.clock := by
  cases x with
  | lane l | quay q | port m => simp [setResource]
  | engine e | group g =>
    unfold setResource
    dsimp only
    (repeat' split) <;> simp

@[simp] theorem loadBank_clock (b : Nat) (im : Image) : (s.loadBank b im).clock = s.clock := by
  rw [loadBank, each_clock _ (by simp)]
  rfl

/-! ### Images, fuses and debug access -/

@[simp] theorem setImgState_clock (n : Nat) : (s.setImgState n).clock = s.clock := (rfl)
@[simp] theorem imgResult_clock (n : Nat) : (s.imgResult n).clock = s.clock := (rfl)
@[simp] theorem showBroken_clock (b : Broken) : (s.showBroken b).clock = s.clock := by simp [showBroken]
@[simp] theorem dropApply_clock : s.dropApply.clock = s.clock := (rfl)

@[simp] theorem loadImage_clock (src : Nat) (im : Image) : (s.loadImage src im).clock = s.clock := by
  unfold loadImage
  dsimp only
  split <;> simp

@[simp] theorem imageApply_clock (src : Nat) (im : Image) : (s.imageApply src im).clock = s.clock := by simp [imageApply]

@[simp] theorem imageRevert_clock : s.imageRevert.clock = s.clock := by
  unfold imageRevert
  split <;> simp

@[simp] theorem imageCommitAt_clock (n written : Tick) (persist domain : Bool) :
    (s.imageCommitAt n written persist domain).clock = s.clock := by simp [imageCommitAt]

@[simp] theorem imageAbort_clock (written : Tick) : (s.imageAbort written).clock = s.clock := by simp [imageAbort]
@[simp] theorem startRecord_clock (slot : Nat) (im : Image) : (s.startRecord slot im).clock = s.clock := (rfl)

@[simp] theorem imagePersist_clock (src : Nat) (im : Image) : (s.imagePersist src im).clock = s.clock := by
  unfold imagePersist
  (repeat' split) <;> simp

@[simp] theorem fuseResult_clock (n : Nat) : (s.fuseResult n).clock = s.clock := (rfl)

@[simp] theorem fuseProgram_clock (v : Word) : (s.fuseProgram v).clock = s.clock := by
  unfold fuseProgram
  dsimp only
  (repeat' split) <;> rfl

@[simp] theorem debugUnlock_clock : s.debugUnlock.clock = s.clock := by simp [debugUnlock]
@[simp] theorem keepImgCmd_clock (v : Word) : (s.keepImgCmd v).clock = s.clock := by simp [keepImgCmd]

@[simp] theorem imgCommand_clock (m : Initiator) (v : Word) (w : Write) {f : State → State} (hf : ∀ t, (f t).clock = t.clock) :
    (s.imgCommand m v w f).clock = s.clock := by simp [imgCommand, hf]

/-! ### Mate pairs -/

@[simp] theorem modMate_clock (f : Mate → Mate) : (s.modMate f).clock = s.clock := (rfl)
@[simp] theorem showMate_clock : s.showMate.clock = s.clock := by simp [showMate]
@[simp] theorem mateHoldChanged_clock (take : Bool) : (s.mateHoldChanged take).clock = s.clock := by simp [mateHoldChanged]
@[simp] theorem setMateState_clock (n : Nat) : (s.setMateState n).clock = s.clock := by simp [setMateState]
@[simp] theorem enterPhase_clock (n : Nat) : (s.enterPhase n).clock = s.clock := by simp [enterPhase]

@[simp] theorem becomeActive_clock (quiet : Bool) : (s.becomeActive quiet).clock = s.clock := by
  unfold becomeActive
  dsimp only
  (repeat' split) <;> simp only [mateHoldChanged_clock, raise_clock, restartAll_clock, count_clock, modSwap_clock,
    with_snapshotBefore_clock, wr_clock, modMate_clock, setMateState_clock]

@[simp] theorem grantLost_clock : s.grantLost.clock = s.clock := by simp [grantLost]
@[simp] theorem journalLate_clock : s.journalLate.clock = s.clock := by simp [journalLate]
@[simp] theorem checkClaims_clock : s.checkClaims.clock = s.clock := by simp [checkClaims]
@[simp] theorem keepMateCtrl_clock (v : Word) : (s.keepMateCtrl v).clock = s.clock := (rfl)
@[simp] theorem swGrant_clock : s.swGrant.clock = s.clock := by simp [swGrant]
@[simp] theorem resync_clock : s.resync.clock = s.clock := by simp [resync]
@[simp] theorem switchover_clock : s.switchover.clock = s.clock := by simp [switchover]
@[simp] theorem applySwitchover_clock : s.applySwitchover.clock = s.clock := by simp [applySwitchover]
@[simp] theorem tickMate_clock : s.tickMate.clock = s.clock := by simp [tickMate]
@[simp] theorem mateFrameOut_clock : s.mateFrameOut.clock = s.clock := by simp [mateFrameOut]

/-! ### Hierarchy and mooring -/

@[simp] theorem modMoor_clock (m : Nat) (f : Moor → Moor) : (s.modMoor m f).clock = s.clock := (rfl)

@[simp] theorem moorLanes_clock (m : Nat) (good : BitVec 9) (retried : BitVec 8) :
    (s.moorLanes m good retried).clock = s.clock := by simp [moorLanes]

@[simp] theorem setPortSsf_clock (m : Nat) (ssf : Bool) : (s.setPortSsf m ssf).clock = s.clock := by simp [setPortSsf]
@[simp] theorem retireWrite_clock (m : Nat) (v : Word) : (s.retireWrite m v).clock = s.clock := by simp [retireWrite]

@[simp] theorem updateHops_clock : s.updateHops.clock = s.clock := by
  unfold updateHops
  dsimp only
  (repeat' split) <;> simp

@[simp] theorem trackOffers_clock : s.trackOffers.clock = s.clock := by simp [trackOffers]
@[simp] theorem queuePacket_clock (m : Nat) (p : CcPacket) : (s.queuePacket m p).clock = s.clock := by simp [queuePacket]

@[simp] theorem shipPacket_clock (p : CcPacket) (except : Option Nat) : (s.shipPacket p except).clock = s.clock := by
  unfold shipPacket
  split
  · simp
  · split <;> simp

@[simp] theorem nextCcSeq_clock : s.nextCcSeq.clock = s.clock := (rfl)
@[simp] theorem noteSeen_clock (src seq : Nat) : (s.noteSeen src seq).clock = s.clock := (rfl)
@[simp] theorem sendOwn_clock (dst type : Nat) (payload : List Byte) : (s.sendOwn dst type payload).clock = s.clock := by simp [sendOwn]
@[simp] theorem moorSend_clock (m : Nat) : (s.moorSend m).clock = s.clock := by simp [moorSend]

@[simp] theorem ccWrite_clock (v : Word) : (s.ccWrite v).clock = s.clock := by
  unfold ccWrite
  split <;> simp

@[simp] theorem tickPort_clock (m : Nat) : (s.tickPort m).clock = s.clock := by simp [tickPort]

@[simp] theorem tellMembers_clock (d : DomainCommit) (msg : Nat) (n : Tick) :
    (s.tellMembers d msg n).clock = s.clock := by simp [tellMembers]

@[simp] theorem applyAgent_clock (a : AgentAct) (written : Tick) (journaled : Bool) :
    (s.applyAgent a written journaled).clock = s.clock := by
  unfold applyAgent
  dsimp only
  (repeat' split) <;> simp

@[simp] theorem agent_clock (a : AgentAct) : (s.agent a).clock = s.clock := by simp [agent]
@[simp] theorem dcStat_clock (state result : Nat) : (s.dcStat state result).clock = s.clock := by simp [dcStat]

@[simp] theorem tryOwn_clock (c : Bool) (n : Tick) : (s.tryOwn c n).1.clock = s.clock := by
  unfold tryOwn
  split
  · rfl
  · split <;> simp

@[simp] theorem dcStart_clock (written : Tick) : (s.dcStart written).clock = s.clock := by
  unfold dcStart
  dsimp only
  (repeat' split) <;> simp

@[simp] theorem dcCommand_clock (v : Word) (written : Tick) : (s.dcCommand v written).clock = s.clock := by simp [dcCommand]

@[simp] theorem replyManager_clock (d : DomainCommit) (msg reason : Nat) :
    (s.replyManager d msg reason).clock = s.clock := by simp [replyManager]

@[simp] theorem domainReady_clock (d : DomainCommit) (t : Nat) : (s.domainReady d t).clock = s.clock := by simp [domainReady]
@[simp] theorem domainTook_clock (d : DomainCommit) : (s.domainTook d).clock = s.clock := by simp [domainTook]

@[simp] theorem domainEnds_clock (d : DomainCommit) : (s.domainEnds d).clock = s.clock := by
  unfold domainEnds
  split <;> simp

@[simp] theorem inDomain_clock {f : State → DomainCommit → State} (hf : ∀ d, (f s d).clock = s.clock) :
    (s.inDomain f).clock = s.clock := by
  unfold inDomain
  split
  · exact hf _
  · rfl

@[simp] theorem tickDomain_clock : s.tickDomain.clock = s.clock := by
  refine (inDomain_clock _ fun d => domainEnds_clock _ d).trans <| (inDomain_clock _ fun d => domainTook_clock _ d).trans <|
    inDomain_clock s fun d => ?_
  split
  · exact domainReady_clock ..
  · rfl

@[simp] theorem tickHierarchy_clock : s.tickHierarchy.clock = s.clock := by simp [tickHierarchy]

/-! ### Control plane -/

@[simp] theorem kept_clock (m : Initiator) (a : Nat) {f : State → State} (hf : (f s).clock = s.clock) :
    (s.kept m a f).clock = s.clock := by simp [kept, hf]

@[simp] theorem reserved_clock (m : Initiator) (a : Nat) {f : State → State} (hf : (f s).clock = s.clock) :
    (s.reserved m a f).clock = s.clock := by simp [reserved, hf]

@[simp] theorem mastersReset_clock (midBurst : Bool) : (s.mastersReset midBurst).clock = s.clock := by simp [mastersReset]
@[simp] theorem bootswap_clock (v : Word) : (s.bootswap v).clock = s.clock := by simp [bootswap]
@[simp] theorem writeVector_clock (c : Nat) (v : Word) : (s.writeVector c v).clock = s.clock := by simp [writeVector]
@[simp] theorem runCore_clock (c : Fin 4) (run midBurst : Bool) : (s.runCore c run midBurst).clock = s.clock := by simp [runCore]
@[simp] theorem runCores_clock (v : Word) (midBurst : BitVec 4) : (s.runCores v midBurst).clock = s.clock := by simp [runCores]
@[simp] theorem coreStarts_clock (c : Fin 4) : (s.coreStarts c).clock = s.clock := by simp [coreStarts]
@[simp] theorem compareTimer_clock (c : Nat) : (s.compareTimer c).clock = s.clock := (rfl)
@[simp] theorem appletCommand_clock (stop start : Nat) (k : Nat) : (s.appletCommand stop start k).clock = s.clock := by simp [appletCommand]
@[simp] theorem appletCtrl_clock (v : Word) : (s.appletCtrl v).clock = s.clock := by simp [appletCtrl]
@[simp] theorem writeMail_clock (v : Word) : (s.writeMail v).clock = s.clock := (rfl)
@[simp] theorem qspiGo_clock (v : Word) : (s.qspiGo v).clock = s.clock := by simp [qspiGo]

@[simp] theorem uartWrite_clock (v : Word) : (s.uartWrite v).clock = s.clock := by
  unfold uartWrite
  split <;> rfl

@[simp] theorem tickUart_clock : s.tickUart.clock = s.clock := by
  unfold tickUart
  split <;> simp

/-! ### Temperature and BIST -/

@[simp] theorem sense_clock (tj : Int) (die : Nat) : (s.sense tj die).clock = s.clock := (rfl)
@[simp] theorem publishTherm_clock (tj : Int) : (s.publishTherm tj).clock = s.clock := by simp [publishTherm]
@[simp] theorem guardPool_clock (tj : Int) : (s.guardPool tj).clock = s.clock := by simp [guardPool]

@[simp] theorem tickThermal_clock : s.tickThermal.clock = s.clock := by
  unfold tickThermal
  split <;> simp

@[simp] theorem blankMemories_clock : s.blankMemories.clock = s.clock := (rfl)
@[simp] theorem bistAbort_clock : s.bistAbort.clock = s.clock := by simp [bistAbort]
@[simp] theorem bistGo_clock : s.bistGo.clock = s.clock := by simp [bistGo]
@[simp] theorem bistCtrl_clock (m : Initiator) (v : Word) : (s.bistCtrl m v).clock = s.clock := by simp [bistCtrl]

/-! ### Register writes -/

@[simp] theorem reportUncovered_clock (before : State) : (s.reportUncovered before).clock = s.clock := by
  refine each_clock s (fun t x => ?_) _
  split
  · split
    · rfl
    · refine each_clock t (fun u b => ?_) _
      split
      · split <;> simp
      · rfl
  · rfl

@[simp] theorem writeSource_clock (src : Nat) (v : Word) : (s.writeSource src v).clock = s.clock := by simp [writeSource]

@[simp] theorem putReg_clock (r : Reg) (i : Nat) (v : Word) : (s.putReg r i v).clock = s.clock := by
  unfold putReg
  dsimp only
  split
  case h_7 => rfl
  all_goals simp

@[simp] theorem clearReg_clock (r : Reg) (i : Nat) (v : Word) : (s.clearReg r i v).clock = s.clock := by simp [clearReg]
@[simp] theorem applyWrite_clock (x : Write) : (s.applyWrite x).clock = s.clock := by cases x <;> simp [applyWrite]

@[simp] theorem writeKeyCmd_clock (m : Initiator) (v : Word) : (s.writeKeyCmd m v).clock = s.clock := by
  unfold writeKeyCmd
  dsimp only
  split <;> simp [via, settle, execKeyLoad, execKeyChange, execZeroize, execZeroizeAll]

@[simp] theorem writeImgCmd_clock (m : Initiator) (v : Word) (x : Aside) : (s.writeImgCmd m v x).clock = s.clock := by
  unfold writeImgCmd
  split <;> simp [via, settle, execImgApply, execImgCommit, execImgAbort, execImgPersist, execImgRevert]

@[simp] theorem writeBlkRst_clock (v : Word) : (s.writeBlkRst v).clock = s.clock := by
  unfold writeBlkRst
  dsimp only
  (repeat' split) <;> simp

@[simp] theorem writeCapCtrl_clock (m : Initiator) (v : Word) :
    (s.writeCapCtrl m v).clock = s.clock := by simp [writeCapCtrl, via, settle, execCapArm, execCapTrig, execCapDisarm, execCapRelease]

@[simp] theorem writeMateCtrl_clock (m : Initiator) (v : Word) :
    (s.writeMateCtrl m v).clock = s.clock := by simp [writeMateCtrl, via, settle, execSwGrant, execResync, execSwitchover]

theorem writeRow_clock {m : Initiator} {r : Reg} {i : Nat} {v : Word} {x : Aside} :
    ∀ t ∈ s.writeRow m r i v x, t.clock = s.clock := by
  unfold writeRow
  split <;> simp [via, settle, execLoopFreezeWrite, execBootswap, execCoreRunWrite, execAppletStart, execQspiGo, execUartTxWrite,
    execSyMbxDataWrite, execDebugUnlock, execFuseProgram, execRepairProgram, execDumpStop]

/-! ### Register values of an image -/

@[simp] theorem loaderCopies_clock (t : Table Word) : (s.loaderCopies t).clock = s.clock := by simp [loaderCopies]

@[simp] theorem initReg_clock (wanted : Reg → Nat → Bool) (addr : Nat) (v : Word) : (s.initReg wanted addr v).clock = s.clock := by
  unfold initReg
  split
  · rfl
  · split
    · rfl
    · split
      · rfl
      · split
        next h => exact writeRow_clock _ _ h
        next => simp

@[simp] theorem regInits_clock (im : Image) (wanted : Reg → Nat → Bool) : (s.regInits im wanted).clock = s.clock := by simp [regInits]
@[simp] theorem resetRegs_clock (x : Resource) : (s.resetRegs x).clock = s.clock := by simp [resetRegs]
@[simp] theorem blockReset_clock (x : Resource) : (s.blockReset x).clock = s.clock := by simp [blockReset]

/-! ### The journal -/

@[simp] theorem applyEntry_clock (e : JEntry) : (s.applyEntry e).clock = s.clock := by simp [applyEntry]
@[simp] theorem applyJournal_clock : s.applyJournal.clock = s.clock := by simp [applyJournal]

/-! ### The boundary -/

@[simp] theorem presentStores_clock : s.presentStores.clock = s.clock := by simp [presentStores]

@[simp] theorem seenAt_clock (e : Nat) {f : State → State} (hf : (f s).clock = s.clock) : (s.seenAt e f).clock = s.clock := by
  simp [seenAt, hf]

@[simp] theorem observe_clock (x : TickObs) : (s.observe x).clock = s.clock := by cases x <;> simp [observe]
@[simp] theorem closeTick_clock : s.closeTick.clock = s.clock := by simp [closeTick]
@[simp] theorem moveBerths_clock : s.moveBerths.clock = s.clock := by simp [moveBerths]
@[simp] theorem keyed_clock (x : Keyed) : (s.keyed x).clock = s.clock := by cases x <;> simp [keyed]

@[simp] theorem keyedWork_clock : s.keyedWork.clock = s.clock := by
  unfold keyedWork
  dsimp only
  split <;> simp

@[simp] theorem takeRegisters_clock : s.takeRegisters.clock = s.clock := (reportUncovered_clock ..).trans rfl
@[simp] theorem tickClocks_clock : s.tickClocks.clock = s.clock := by simp [tickClocks]
@[simp] theorem tickBerths_clock (w : Nat → Nat → Nat) : (s.tickBerths w).clock = s.clock := by simp [tickBerths]
@[simp] theorem tickLines_clock : s.tickLines.clock = s.clock := by simp [tickLines]
@[simp] theorem tickDatapath_clock (w : Nat → Nat → Nat) : (s.tickDatapath w).clock = s.clock := by simp [tickDatapath]

/-! ### A boundary with no reset due -/

/-- TICK_NO increments or takes the value it is set to, and one more boundary has passed (R26, R27). -/
theorem countTick_clock :
    s.countTick.clock = { s.clock with tick := s.clock.tickAt.getD (s.clock.tick + 1), now := s.clock.now + 1, tickAt := none } :=
  rfl

theorem thermalReset_of_none (h : s.clock.resetAt = none) : s.thermalReset = s := by
  have hr : s.thermal.resetAt = none := h
  simp [thermalReset, hr]

theorem tickControl_clock (h : s.clock.resetAt = none) : s.tickControl.clock = s.clock := by
  rw [tickControl, thermalReset_of_none] <;> simp [h]

/-- Outside PORSTn, and with no thermal reset due, a boundary moves the clock by one (R22). -/
theorem boundary_clock (obs : List TickObs) (hp : s.boot.porst = false) (hr : s.clock.resetAt = none) :
    (s.boundary obs).clock = ⟨s.clock.tickAt.getD (s.clock.tick + 1), s.clock.now + 1, none, none⟩ := by
  unfold boundary
  rw [if_neg (by simp [hp]), tickControl_clock] <;> simp [countTick_clock, hr]

end State

/-- Settles O53: the clock of the state after the boundary, outside PORSTn and in it. -/
theorem tickNoAdvancesAtEveryBoundary : Obligations.TickNoAdvancesAtEveryBoundary := by
  refine ⟨fun obs s hp ht hr => ⟨s.boundary obs, rfl, ?_⟩, fun s hp => ?_⟩
  · have h := s.boundary_clock obs hp hr
    rw [show s.clock.tickAt = none from ht] at h
    exact ⟨congrArg Clock.tick h, congrArg Clock.now h⟩
  · exact congrArg Host.Outcome.next (if_pos hp)

end Sys2Proof.Machine
end

section
/-! SY_TICKNO_LO and SY_TICKNO_HI read as one value (O54). -/

namespace Sys2Proof.Machine

theorem State.via_of_next {s t : State} {f : State → Host.Outcome State Fault Refusal} (h : f s = .next t) : s.via f = t := by
  rw [State.via, h, State.settle]

/-- A read answers its master without touching the latched bits [47:32] of TICK_NO in copy `c`. -/
def State.KeepsTickHi (s t : State) (c : Nat) : Prop := t.reg .SY_TICKNO_HI c = s.reg .SY_TICKNO_HI c

namespace State.KeepsTickHi

variable {s t : State} {c : Nat}

/-- A frame that leaves SY_TICKNO_HI out, or that is about another copy of it. -/
theorem of_onlyAt {i : Nat} {rs : List Reg} (h : s.OnlyAt t i rs) (hc : Reg.SY_TICKNO_HI ∉ rs ∨ c ≠ i) : s.KeepsTickHi t c :=
  h _ _ hc (by decide) (by decide)

theorem busError (s : State) (m : Initiator) (w : Bool) (a : Nat) (x : BusCause) : s.KeepsTickHi (s.busError m w a x) c :=
  of_onlyAt (s.busError_onlyAt m w a x) (.inl (by decide))

theorem readLatched {m : Initiator} {hi : Field} (h : hi.reg ≠ .SY_TICKNO_HI ∨ m.copy ≠ c) (v : Nat) :
    s.KeepsTickHi (s.readLatched m hi v) c := State.reg_wr_ne h s _

theorem atEngine {m : Initiator} {w : Bool} {a : Nat} {f : Nat → State} (h : ∀ e, s.KeepsTickHi (f e) c) :
    s.KeepsTickHi (s.atEngine m w a f) c := by
  unfold State.atEngine
  split
  · exact h _
  · exact busError ..

theorem journalRead (s : State) (m : Initiator) (w : Write) : s.KeepsTickHi (s.journalRead m w) c := by
  unfold State.journalRead
  split
  · exact State.reg_wr_ne (.inl (by decide)) s _
  · rfl

theorem tsf0Read (s : State) (m : Initiator) : s.KeepsTickHi (s.tsf0Read m) c := by
  unfold State.tsf0Read
  dsimp only
  split
  · rfl
  · rw [KeepsTickHi, State.reg_replyWord, State.reg_setReg, if_neg (by simp), State.reg_setReg, if_neg (by simp), State.reg_setReg,
      if_neg (by simp)]
    rfl

theorem readPc (s : State) (m : Initiator) (i : Nat) : s.KeepsTickHi (s.readPc m i) c := by
  unfold State.readPc
  split
  · exact busError ..
  · exact State.reg_wr_ne (.inl (by decide)) s _

theorem uartRead (s : State) (m : Initiator) : s.KeepsTickHi (s.uartRead m) c := by
  unfold State.uartRead
  dsimp only
  split <;> rfl

theorem lfGccRxdRead (s : State) (m : Initiator) (ch : Fin 2) : s.KeepsTickHi (s.via (execLfGccRxdRead m ch)) c := by
  rw [State.via_of_next (f := execLfGccRxdRead m ch) rfl]
  exact atEngine fun e => journalRead (s.modGcc e ch.val Gcc.popWord) m _

theorem tmTb0Read (s : State) (m : Initiator) : s.KeepsTickHi (s.via (execTmTb0Read m)) c := by
  rw [State.via_of_next (f := execTmTb0Read m) (exec_tmTb0Read m s)]
  exact of_onlyAt (rs := [.TM_TB1, .TM_TB2, .TM_TB3, .TM_TB4]) (State.OnlyAt.replyWord (s.latchTb_onlyAt m.copy _ _ _ _) m _)
    (.inl (by decide))

/-- A read that is a command of its own writes the reading master's copies of SY_TICKNO_HI only. -/
theorem readRow {m : Initiator} (hc : m.copy ≠ c) (s : State) (r : Reg) (k : Nat) : ∀ t ∈ s.readRow m r k, s.KeepsTickHi t c := by
  intro t ht
  have low {hi : Field} (h : hi.reg ≠ .SY_TICKNO_HI) (v : Nat) : s.KeepsTickHi (s.readLatched m hi v) c := readLatched (.inl h) v
  unfold State.readRow at ht
  split at ht <;> cases ht
  · exact readLatched (.inr hc) _
  · exact uartRead s m
  · exact State.reg_wr_ne (.inl (by decide)) s _
  · exact low (by decide) _
  · exact State.reg_wr_ne (.inl (by decide)) s _
  · exact low (by decide) _
  · exact low (by decide) _
  · exact low (by decide) _
  · exact journalRead (s.modPackets (s.quaySel m) Packets.popWord) m _
  · exact tsf0Read s m
  · exact atEngine fun _ => low (by decide) _
  · exact atEngine fun _ => low (by decide) _
  · exact lfGccRxdRead s m 0
  · exact lfGccRxdRead s m 1
  · exact low (by decide) _
  · exact atEngine fun _ => low (by decide) _
  · exact low (by decide) _
  · exact tmTb0Read s m
  · exact low (by decide) _
  · exact low (by decide) _
  · rfl
  · exact of_onlyAt (s.onlyAt_setReg (List.mem_singleton_self _) m.copy _) (.inl (by decide))
  · exact readPc s m _

/-- Whatever a master reads, the other copies of SY_TICKNO_HI keep what they hold. -/
theorem readReg {m : Initiator} (hc : m.copy ≠ c) (s : State) (a : Nat) : s.KeepsTickHi (s.readReg m a) c := by
  unfold State.readReg
  split
  · rfl
  · rfl
  · split
    · exact busError ..
    · split
      · exact busError ..
      · split
        · exact busError ..
        · split
          · rfl
          · split
            · rfl
            · split
              next h => exact readRow hc s _ _ _ h
              next => rfl
              next =>
                split
                · rfl
                · split <;> rfl

end State.KeepsTickHi

/-- A read of SY_TICKNO_HI answers the master's own copy (R31). -/
theorem State.readReg_tickHi (s : State) (m : Initiator) : s.readReg m 0x20000104 = s.reply m (.ok (s.reg .SY_TICKNO_HI m.copy)) := by
  have shadow : windowEntry 0x21100000 0x20000104 = none := rfl
  have live : windowEntry 0x21200000 0x20000104 = none := rfl
  have register : regAt 0x20000104 = some (.SY_TICKNO_HI, 0) := rfl
  have allowed : s.readRefused m .SY_TICKNO_HI = false := by simp [State.readRefused, userRefused, Reg.info]
  have present : s.windowGone m .SY_TICKNO_HI = false := rfl
  have heard : s.silent m .SY_TICKNO_HI = false := rfl
  have copy : s.resolve m .SY_TICKNO_HI 0 = some m.copy := rfl
  simp [State.readReg, shadow, live, register, allowed, present, heard, copy, State.readRow, State.viewOf]

/-- A field that covers all implemented bits of its register is all that a write of it leaves there. -/
theorem Word.put_and_mask (x y m : Word) : (x &&& ~~~m ||| y &&& m) &&& m = y &&& m := by
  ext i
  cases h : m[i] <;> simp [h]

/-- A read of SY_TICKNO_LO latches bits [47:32] of TICK_NO in the whole of the master's copy of SY_TICKNO_HI (R31). -/
theorem State.tickHi_readLatched (s : State) (m : Initiator) :
    (s.readLatched m F.SY_TICKNO_HI_TICK_HI s.tick.toNat).reg .SY_TICKNO_HI m.copy = (s.tick >>> 32).setWidth 32 := by
  rw [State.readLatched, State.reg_replyWord, State.wr, State.reg_setReg, if_pos ⟨rfl, rfl⟩]
  have hv : s.tick.toNat >>> 32 < 2 ^ 16 := by
    have ht : s.tick.toNat < 2 ^ 48 := s.tick.isLt
    rw [Nat.shiftRight_eq_div_pow]
    omega
  have mask : F.SY_TICKNO_HI_TICK_HI.mask = 2 ^ 16 - 1 := rfl
  have impl : F.SY_TICKNO_HI_TICK_HI.reg.info.impl = 2 ^ 16 - 1 := rfl
  have width : F.SY_TICKNO_HI_TICK_HI.width = 16 := rfl
  have lo : F.SY_TICKNO_HI_TICK_HI.lo = 0 := rfl
  have hm : (BitVec.ofNat 32 (2 ^ 16 - 1)).toNat = 2 ^ 16 - 1 := rfl
  rw [Field.set, mask, impl, width, lo, Nat.shiftLeft_zero, Word.put_and_mask]
  apply BitVec.eq_of_toNat_eq
  rw [BitVec.toNat_and, hm, Nat.mod_eq_of_lt hv, BitVec.toNat_ofNat, BitVec.toNat_setWidth, BitVec.toNat_ushiftRight,
    Nat.mod_eq_of_lt (Nat.lt_trans hv (by decide)), Nat.and_two_pow_sub_one_of_lt_two_pow hv]

/-- Reads of other masters and the advance of TICK_NO leave the latched bits alone. -/
theorem State.KeepsTickHi.reads {c : Nat} {l : List (Initiator × Nat × Tick)} (h : ∀ x ∈ l, x.1.copy ≠ c) (s : State) :
    s.KeepsTickHi (l.foldl (fun u x => { u with tick := x.2.2 }.readReg x.1 x.2.1) s) c := by
  induction l generalizing s with
  | nil => rfl
  | cons x l ih =>
    obtain ⟨hx, hl⟩ := List.forall_mem_cons.1 h
    exact (ih hl _).trans (readReg hx { s with tick := x.2.2 } x.2.1)

/-- Settles O54: the reads in between keep the latched bits, and the last one answers them. -/
theorem eachMasterLatchesTheTickNumber : Obligations.EachMasterLatchesTheTickNumber := by
  intro m s
  refine ⟨s.readLatched m F.SY_TICKNO_HI_TICK_HI s.tick.toNat, rfl, ?_, fun between hb => ?_⟩
  · rw [State.readLatched, State.answer_replyWord, BitVec.ofNat_toNat]
  · rw [State.readReg_tickHi, State.answer_reply, State.KeepsTickHi.reads hb, State.tickHi_readLatched]

end Sys2Proof.Machine
end

section
/-! Berths at an elastic store (O1): the runs of the pointer interpreter, and what a received pointer word changes. -/

namespace Sys2Proof.Machine

/-! ### Runs of events (R63) -/

/-- How many consecutive events equal to `e` a store has counted; new_point events count with their value. -/
def Store.run (x : Store) : PtrEvent → Nat
  | .normPoint => x.normRun
  | .newPoint p => if x.newVal = p then x.newRun else 0
  | .aisInd => x.aisRun
  | .invPoint => x.invRun
  | .ndfEnable _ => x.ndfRun
  | .incInd | .decInd => 0

/-- The event moves the interpreter's state only once it has run to its full length: an NDF_enable does so in NORM alone. -/
def Store.waitsFor (x : Store) : PtrEvent → Prop
  | .newPoint _ | .aisInd | .invPoint => True
  | .ndfEnable _ => x.st = .norm
  | .normPoint | .incInd | .decInd => False

/-- The full length of a run. -/
def PtrEvent.limit : PtrEvent → Nat
  | .newPoint _ | .aisInd => 3
  | _ => 8

/-- The state that a full run leads to. -/
def PtrEvent.goal : PtrEvent → PtrState
  | .newPoint _ => .norm
  | .aisInd => .ais
  | _ => .lop

/-- The active value after an event that leads to no other state: an NDF_enable brings its own. -/
def PtrEvent.moved : PtrEvent → Nat → Nat
  | .ndfEnable p, _ => p
  | _, a => a

theorem Store.waitsFor_congr {x y : Store} {e : PtrEvent} (h : y.st = x.st) (hw : x.waitsFor e) : y.waitsFor e := by
  cases e with
  | ndfEnable => exact h.trans hw
  | newPoint | aisInd | invPoint | normPoint | incInd | decInd => exact hw

@[simp] theorem countEvent_st (x : Store) (e : PtrEvent) : (countEvent x e).st = x.st := by cases e <;> rfl

theorem newRun_countEvent (x : Store) (p : Nat) : (countEvent x (.newPoint p)).newRun = x.run (.newPoint p) + 1 := by
  simp only [countEvent, Store.run, beq_iff_eq]
  split <;> rfl

theorem run_countEvent {x : Store} {e : PtrEvent} (hw : x.waitsFor e) : (countEvent x e).run e = x.run e + 1 := by
  cases e with
  | newPoint p => exact (if_pos rfl).trans (newRun_countEvent x p)
  | aisInd | invPoint | ndfEnable => rfl
  | normPoint | incInd | decInd => exact hw.elim

/-- An event that leaves its run short is counted, and the interpreter stays in its state. -/
theorem interpret_short {x : Store} {e : PtrEvent} (hw : x.waitsFor e) (hr : x.run e + 1 < e.limit) :
    interpret x e = { countEvent x e with active := e.moved x.active } := by
  cases e with
  | newPoint p =>
    have hn : ¬ 3 ≤ (countEvent x (.newPoint p)).newRun := by rw [newRun_countEvent]; exact Nat.not_le.2 hr
    cases hs : x.st <;> simp only [interpret, hs, ge_iff_le, if_neg hn] <;> rfl
  | aisInd =>
    have hn : ¬ 3 ≤ (countEvent x .aisInd).aisRun := Nat.not_le.2 hr
    cases hs : x.st <;> simp only [interpret, hs, ge_iff_le, if_neg hn] <;> rfl
  | invPoint =>
    have hn : ¬ 8 ≤ (countEvent x .invPoint).invRun := Nat.not_le.2 hr
    cases hs : x.st <;> simp only [interpret, hs, ge_iff_le, if_neg hn] <;> rfl
  | ndfEnable p =>
    have hn : ¬ 8 ≤ (countEvent x (.ndfEnable p)).ndfRun := Nat.not_le.2 hr
    have hs : x.st = .norm := hw
    simp only [interpret, hs, if_neg hn]
    rfl
  | normPoint | incInd | decInd => exact hw.elim

/-- The event that completes its run leads to the state R63 names, and a new_point brings its value. -/
theorem interpret_full {x : Store} {e : PtrEvent} (hw : x.waitsFor e) (hr : x.run e + 1 = e.limit) :
    (interpret x e).st = e.goal ∧ ∀ p, e = .newPoint p → (interpret x e).active = p := by
  cases e with
  | newPoint p =>
    have hn : 3 ≤ (countEvent x (.newPoint p)).newRun := by rw [newRun_countEvent]; exact Nat.le_of_eq hr.symm
    refine ⟨?_, fun q hq => ?_⟩
    · cases hs : x.st <;> simp [interpret, hs, hn, enterPtr, PtrEvent.goal]
    · cases hq
      cases hs : x.st <;> simp [interpret, hs, hn, enterPtr]
  | aisInd =>
    have hn : 3 ≤ (countEvent x .aisInd).aisRun := Nat.le_of_eq hr.symm
    refine ⟨?_, nofun⟩
    cases hs : x.st <;> simp [interpret, hs, hn, enterPtr, PtrEvent.goal]
  | invPoint =>
    have hn : 8 ≤ (countEvent x .invPoint).invRun := Nat.le_of_eq hr.symm
    refine ⟨?_, nofun⟩
    cases hs : x.st <;> simp [interpret, hs, hn, enterPtr, PtrEvent.goal]
  | ndfEnable p =>
    have hn : 8 ≤ (countEvent x (.ndfEnable p)).ndfRun := Nat.le_of_eq hr.symm
    have hs : x.st = .norm := hw
    refine ⟨?_, nofun⟩
    simp [interpret, hs, hn, enterPtr, PtrEvent.goal]
  | normPoint | incInd | decInd => exact hw.elim

/-- `n` equal events in a row. -/
def Store.after (x : Store) (e : PtrEvent) (n : Nat) : Store := (List.replicate n e).foldl interpret x

theorem Store.after_succ (x : Store) (e : PtrEvent) (n : Nat) : x.after e (n + 1) = interpret (x.after e n) e := by
  simp [Store.after, List.replicate_succ']

/-- A run that stays short leaves the state, and the active value of any event but an NDF_enable. -/
theorem Store.after_short {x : Store} {e : PtrEvent} (hw : x.waitsFor e) {n : Nat} (hr : x.run e + n < e.limit) :
    (x.after e n).st = x.st ∧ (x.after e n).run e = x.run e + n ∧
      (e.moved x.active = x.active → (x.after e n).active = x.active) := by
  induction n with
  | zero => exact ⟨rfl, rfl, fun _ => rfl⟩
  | succ n ih =>
    obtain ⟨hst, hrun, hact⟩ := ih (by omega)
    have hwn := Store.waitsFor_congr hst hw
    rw [Store.after_succ, interpret_short hwn (by omega)]
    refine ⟨?_, ?_, fun hm => ?_⟩
    · exact (countEvent_st _ e).trans hst
    · calc _ = (countEvent (x.after e n) e).run e := by cases e <;> rfl
        _ = x.run e + (n + 1) := by rw [run_countEvent hwn, hrun, Nat.add_assoc]
    · exact (congrArg e.moved (hact hm)).trans hm

/-- A run that reaches its full length from 0 leads to the state R63 names. -/
theorem Store.after_full {x : Store} {e : PtrEvent} (hw : x.waitsFor e) (h0 : x.run e = 0) :
    (x.after e e.limit).st = e.goal ∧ ∀ p, e = .newPoint p → (x.after e e.limit).active = p := by
  obtain ⟨n, hn⟩ : ∃ n, e.limit = n + 1 := by cases e <;> exact ⟨_, rfl⟩
  obtain ⟨hst, hrun, -⟩ := Store.after_short hw (n := n) (by omega)
  rw [hn, Store.after_succ]
  exact interpret_full (Store.waitsFor_congr hst hw) (by omega)

/-! ### A berth at a store (R62 to R67) -/

/-- The centring, the fill deviation and a slip of the store leave what the interpreter decides. -/
theorem storeReceive_interprets (x : Store) (e : PtrEvent) (drift : Int) (centre : Nat) (pair : Bool) :
    (storeReceive x e drift centre pair).st = (interpret x e).st ∧
      (storeReceive x e drift centre pair).active = (interpret x e).active := by
  unfold storeReceive
  dsimp only
  split
  · exact ⟨rfl, rfl⟩
  · split
    · exact ⟨rfl, rfl⟩
    · split <;> exact ⟨rfl, rfl⟩

theorem State.store_congr {s t : State} (h : t.stores = s.stores) (q : Nat) : t.store q = s.store q := by
  simp only [State.store, h]

/-- The registers in which a berth port shows counts and events. -/
def berthRegs : List Reg := [.BP_ECNT, .BP_JCNT, .BP_STICKY]

/-- What a port counts and reports beside its BBIP errors: stores, memories and the BBIP count stay, and of the registers only the port's
own counts and sticky bits may differ. -/
structure State.NotesAt (s t : State) (p : Nat) : Prop where
  stores : t.stores = s.stores
  bbip : t.rd F.BP_ECNT_BBIP p = s.rd F.BP_ECNT_BBIP p
  regs : s.OnlyAt t p berthRegs
  memory : s.SameMemory t

namespace State.NotesAt

variable {s t u : State} {p : Nat}

theorem refl (s : State) (p : Nat) : s.NotesAt s p := ⟨rfl, rfl, fun _ _ _ _ _ => rfl, s.sameMemory_refl⟩

theorem trans (h : s.NotesAt t p) (k : t.NotesAt u p) : s.NotesAt u p :=
  ⟨k.stores.trans h.stores, k.bbip.trans h.bbip, h.regs.trans k.regs, h.memory.trans k.memory⟩

theorem raise (s : State) {f : Field} (hf : f.reg = .BP_STICKY) (p : Nat) : s.NotesAt (s.raise f p) p where
  stores := State.raise_stores ..
  bbip := State.raise_rd _ _ _ (by rw [hf]; decide) (by decide) (by decide) p
  regs := State.onlyAt_raise _ (by rw [hf]; decide) p
  memory := s.raise_sameMemory f p

theorem raiseIf (s : State) (c : Bool) {f : Field} (hf : f.reg = .BP_STICKY) (p : Nat) : s.NotesAt (s.raiseIf c f p) p := by
  unfold State.raiseIf
  split
  · exact raise s hf p
  · exact refl s p

theorem count (s : State) {f : Field} (hf : f.reg ∈ berthRegs) (ha : f.apart F.BP_ECNT_BBIP = true) (p n : Nat) :
    s.NotesAt (s.incWrap f p n) p :=
  ⟨rfl, State.rd_wr_apart ha s p _ p, State.onlyAt_wr s hf p _, ⟨rfl, rfl, rfl, rfl⟩⟩

theorem setTally (s : State) (c i n p : Nat) : s.NotesAt (s.setTally c i n) p := ⟨rfl, rfl, fun _ _ _ _ _ => rfl, ⟨rfl, rfl, rfl, rfl⟩⟩

end State.NotesAt

/-- What a port counts and reports of an event that takes its interpreter to `st`. -/
def State.noteEvent (s : State) (p : Nat) (e : PtrEvent) (st : PtrState) : State :=
  match e with
  | .incInd => s.incWrap F.BP_JCNT_IN_INC p 1
  | .decInd => s.incWrap F.BP_JCNT_IN_DEC p 1
  | .ndfEnable _ => if st == PtrState.norm then (s.incWrap F.BP_ECNT_NDF p 1).raise F.BP_STICKY_NDF p else s
  | _ => s

/-- What a port counts and reports of a slip, if its store slips (R66). -/
def State.noteSlip (s : State) (p : Nat) (slips : Bool) : State :=
  if slips then
    let t := (s.incWrap F.BP_ECNT_SLIP p 1).raise F.BP_STICKY_SLIP p
    t.setTally 19 (t.portKind p) (t.tally 19 (t.portKind p) + 1)
  else s

theorem State.noteEvent_notes (s : State) (p : Nat) (e : PtrEvent) (st : PtrState) : s.NotesAt (s.noteEvent p e st) p := by
  unfold State.noteEvent
  split
  · exact .count _ (f := F.BP_JCNT_IN_INC) (by decide) rfl p 1
  · exact .count _ (f := F.BP_JCNT_IN_DEC) (by decide) rfl p 1
  · split
    · exact .trans (.count _ (f := F.BP_ECNT_NDF) (by decide) rfl p 1) (.raise _ rfl p)
    · exact .refl s p
  · exact .refl s p

theorem State.noteSlip_notes (s : State) (p : Nat) (slips : Bool) : s.NotesAt (s.noteSlip p slips) p := by
  unfold State.noteSlip
  split
  · exact .trans (.trans (.count _ (f := F.BP_ECNT_SLIP) (by decide) rfl p 1) (.raise _ rfl p)) (.setTally ..)
  · exact .refl s p

/-- The event that a received word counts as; a slot marked as failed reads all ones (R62, R219). -/
def State.eventAt (s : State) (p : Nat) (word : BitVec 16) : PtrEvent :=
  classifyWord (s.store p) (if s.portFailed p then 0xFFFF else word)

/-- A port's store after a berth that carries the event `e`. -/
def State.storeAfter (s : State) (p : Nat) (e : PtrEvent) (label : Nat) (drift : Int) (centre : Nat) : Store :=
  let y := storeReceive (s.store p) e drift centre s.inPair
  { y with reached := true, unequipped := label == 0 && !s.portFailed p, aisCrate := y.aisCrate || s.portFailed p }

/-- BERTH_POINTER_WORD at a store in use: the store takes the berth, its BBIP errors count, and the port notes the rest. -/
theorem State.berthPointerWord_eq {s : State} {p : Nat} (hu : (s.store p).inUse = true) (hp : 10240 ≤ p) (word : BitVec 16)
    (label bbip : Nat) (drift : Int) (centre : Nat) :
    s.berthPointerWord p word label bbip drift centre =
      let x := s.store p
      let e := s.eventAt p word
      let y := s.storeAfter p e label drift centre
      let t := ((s.setStore p y).incWrap F.BP_ECNT_BBIP p bbip).raiseIf (decide (0 < bbip)) F.BP_STICKY_BBIP p
      let t := (t.noteEvent p e y.st).raiseIf (y.st == PtrState.ais && x.st != PtrState.ais) F.BP_STICKY_AIS p
      let t := t.raiseIf (y.st == PtrState.lop && x.st != PtrState.lop) F.BP_STICKY_LOP p
      t.noteSlip p (!t.inPair && slipped x e drift) := by
  have hin : ¬ (!(s.store p).inUse || decide (p < 10240)) = true := by simp [hu, hp]
  exact if_neg hin

/-- A pointer word at a store in use is interpreted, its BBIP errors are counted, and the port notes what happened. -/
theorem State.berthPointerWord_notes {s : State} {p : Nat} (hu : (s.store p).inUse = true) (hp : 10240 ≤ p) (word : BitVec 16)
    (label bbip : Nat) (drift : Int) (centre : Nat) :
    ((s.setStore p (s.storeAfter p (s.eventAt p word) label drift centre)).incWrap F.BP_ECNT_BBIP p bbip).NotesAt
      (s.berthPointerWord p word label bbip drift centre) p := by
  rw [State.berthPointerWord_eq hu hp]
  dsimp only
  refine .trans ?_ (State.noteSlip_notes ..)
  refine .trans (.trans ?_ (.raiseIf _ _ rfl p)) (.raiseIf _ _ rfl p)
  exact .trans (.raiseIf _ _ rfl p) (State.noteEvent_notes ..)

/-- At a quay port, a port not in use or a Tide port the word changes nothing (R332). -/
theorem State.berthPointerWord_ignored {s : State} {p : Fin 23040}
    (h : (s.store p.val).inUse = false ∨ p.val < 10240 ∨ s.tidePort p.val = true) (word : BitVec 16) (label : Fin 16) (bbip : Nat)
    (drift : Int) (centre : Fin 1008) : exec (.berthPointerWord p word label bbip drift centre) s = .next s := by
  refine congrArg Host.Outcome.next ?_
  cases ht : s.tidePort p.val with
  | true => rfl
  | false =>
    rw [if_neg Bool.false_ne_true, State.berthPointerWord]
    exact if_pos (by simpa [ht] using h)

/-- The BBIP count is all 16 bits wide and wraps (R89). -/
theorem State.bbip_incWrap (s : State) (p n : Nat) :
    (s.incWrap F.BP_ECNT_BBIP p n).rd F.BP_ECNT_BBIP p = (s.rd F.BP_ECNT_BBIP p + n) % 65536 := State.rd_wr rfl s p _

/-- A store whose runs all stand at 0 has counted no event. -/
theorem Store.run_eq_zero {x : Store} (h1 : x.normRun = 0) (h2 : x.newRun = 0) (h3 : x.aisRun = 0) (h4 : x.invRun = 0)
    (h5 : x.ndfRun = 0) (e : PtrEvent) : x.run e = 0 := by
  cases e <;> simp [Store.run, h1, h2, h3, h4, h5]

/-- NORM and AIS accept an NDF_enable at once. -/
theorem interpret_ndfEnable {x : Store} (p : Nat) (hs : x.st ≠ .lop) (hr : x.ndfRun = 0) :
    (interpret x (.ndfEnable p)).st = .norm ∧ (interpret x (.ndfEnable p)).active = p := by
  cases h : x.st with
  | norm =>
    rw [interpret_short (e := .ndfEnable p) h (by simp [Store.run, hr, PtrEvent.limit])]
    exact ⟨h, rfl⟩
  | ais => simp only [interpret, h]; exact ⟨rfl, rfl⟩
  | lop => exact absurd h hs

theorem interpret_ndfEnable_lop {x : Store} (p : Nat) (h : x.st = .lop) : (interpret x (.ndfEnable p)).st = .lop := by
  simp [interpret, h]

/-- In NORM an adjustment moves the active value by one round 1,008. -/
theorem interpret_adjustment {x : Store} (h : x.st = .norm) :
    (interpret x .incInd).active = (x.active + 1) % 1008 ∧ (interpret x .decInd).active = (x.active + 1007) % 1008 := by
  simp only [interpret, h, and_self]

/-- Settles O1: the word is classified, interpreted and noted, and the runs of R63 are those of a store at rest. -/
theorem pointerWordIsInterpreted : Obligations.PointerWordIsInterpreted := by
  refine ⟨⟨?received, ?ignored⟩, ?runs⟩
  case received =>
    intro p word label bbip drift centre s hu hp ht
    obtain ⟨hst, hact⟩ := storeReceive_interprets (s.store p.val) (s.eventAt p.val word) drift centre s.inPair
    have notes := State.berthPointerWord_notes hu hp word label.val bbip drift centre.val
    have hstore (q : Nat) : (s.berthPointerWord p.val word label bbip drift centre).store q =
        (s.setStore p.val (s.storeAfter p.val (s.eventAt p.val word) label drift centre)).store q :=
      State.store_congr notes.stores q
    refine ⟨_, congrArg Host.Outcome.next (if_neg (by simp [ht])), ?_, ?_, ?_, fun q hq => ?_, ?_, ?_⟩
    · rw [hstore, State.store_setStore, if_pos rfl]; exact hst
    · rw [hstore, State.store_setStore, if_pos rfl]; exact hact
    · exact notes.bbip.trans (State.bbip_incWrap ..)
    · rw [hstore, State.store_setStore, if_neg hq.symm]
    · exact (State.onlyAt_wr (s.setStore ..) (f := F.BP_ECNT_BBIP) (rs := berthRegs) (by decide) p.val _).trans notes.regs
    · exact .trans ⟨rfl, rfl, rfl, rfl⟩ notes.memory
  case ignored => exact fun p word label bbip drift centre s h => State.berthPointerWord_ignored h word label bbip drift centre
  case runs =>
    intro x p _ _ h1 h2 h3 h4 h5
    have rest := Store.run_eq_zero h1 h2 h3 h4 h5
    have short {e : PtrEvent} {n : Nat} (hn : n < e.limit) : x.run e + n < e.limit := by rw [rest, Nat.zero_add]; exact hn
    have counted {n : Nat} (hn : n < 3) : (x.after (.newPoint p) n).st = x.st ∧ (x.after (.newPoint p) n).active = x.active := by
      obtain ⟨state, -, value⟩ := Store.after_short (e := .newPoint p) trivial (short hn)
      exact ⟨state, value rfl⟩
    obtain ⟨accepted, value⟩ := Store.after_full (x := x) (e := .newPoint p) trivial (rest _)
    exact ⟨fun hs n hn => (Store.after_short (e := .invPoint) trivial (short hn)).1.trans hs,
      fun _ => (Store.after_full (e := .invPoint) trivial (rest _)).1,
      fun hs => (Store.after_full (e := .ndfEnable p) hs (rest _)).1,
      fun _ n hn => (Store.after_short (e := .aisInd) trivial (short hn)).1,
      (Store.after_full (e := .aisInd) trivial (rest _)).1,
      fun n hn => counted hn, accepted, value p rfl,
      fun hs => interpret_ndfEnable p hs h5, interpret_ndfEnable_lop p, interpret_adjustment⟩

end Sys2Proof.Machine
end

section
/-! The fill of a train's crates: the split of Cn over the crates and the positions that carry client nibbles (O2, O3). -/

namespace Sys2Proof.Machine

/-- Settles O2: the definition is the rule's own. -/
theorem fillCountsFollowTheClientRate : Obligations.FillCountsFollowTheClientRate := fun _ _ _ _ _ => rfl

/-- The first `n` crates carry q nibbles each, and those below r one more (R72). -/
theorem sum_fillCount (cn k n : Nat) : ((List.range n).map (fillCount cn k)).sum = n * (cn / k) + min n (cn % k) := by
  induction n with
  | zero => simp
  | succ n ih =>
    rw [List.range_succ, List.map_append, List.sum_append, ih, List.map_singleton, List.sum_singleton, fillCount, Nat.succ_mul]
    split <;> omega

/-- A multiple of FC passes a multiple of 1,000 at the positions that carry a client nibble, and nowhere else (R73). -/
theorem carriesClient_step {fc : Nat} (h : fc ≤ 1000) (n : Nat) :
    (n + 1) * fc / 1000 = n * fc / 1000 + (carriesClient fc n).toNat := by
  have hs : (n + 1) * fc = n * fc + fc := Nat.succ_mul n fc
  by_cases hc : (n + 1) * fc % 1000 < fc
  · simp only [carriesClient, hc, decide_true, Bool.toNat_true]
    omega
  · simp only [carriesClient, hc, decide_false, Bool.toNat_false]
    omega

/-- Of the first `n` payload positions, n × FC / 1,000 carry a client nibble, rounded down. -/
theorem length_filter_carriesClient {fc : Nat} (h : fc ≤ 1000) (n : Nat) :
    ((List.range n).filter (carriesClient fc)).length = n * fc / 1000 := by
  induction n with
  | zero => simp
  | succ n ih =>
    rw [List.range_succ, List.filter_append, List.length_append, ih, carriesClient_step h]
    cases hc : carriesClient fc n <;> simp [hc]

/-- Settles O3: all k crates carry k × q + r = Cn nibbles, and 1,000 × FC / 1,000 = FC positions of a crate carry one. -/
theorem cratesCarryTheirFill : Obligations.CratesCarryTheirFill := by
  refine ⟨fun cn k hk => ?_, fun fc h => ?_⟩
  · rw [sum_fillCount, Nat.min_eq_right (Nat.le_of_lt (Nat.mod_lt cn hk)), Nat.div_add_mod]
  · rw [length_filter_carriesClient h, Nat.mul_div_cancel_left fc (by decide)]

end Sys2Proof.Machine
end

section
/-! Train defects and the end of a replacement (O4). -/

namespace Sys2Proof.Machine

/-! ### A defect in TR_STAT (R82) -/

/-- A one-bit field of TR_STAT. -/
structure Field.IsDefect (f : Field) : Prop where
  good : f.good = true
  bit : f.hi = f.lo
  stat : f.reg = .TR_STAT

/-- A train shows a defect as given: beside its own status and sticky bits no register differs, and no memory. -/
structure State.ShowsDefect (s t : State) (f : Field) (u : Nat) (b : Bool) : Prop where
  shown : t.on f u = b
  memory : s.SameMemory t
  regs : s.OnlyAt t u [.TR_STAT, .TR_STICKY]

theorem State.wr_showsDefect {f : Field} (h : f.IsDefect) (s : State) (u : Nat) (b : Bool) :
    s.ShowsDefect (s.wr f u b.toNat) f u b where
  shown := by
    rw [State.on, State.rd_wr h.good]
    cases b <;> simp [Field.width, h.bit]
  memory := ⟨rfl, rfl, rfl, rfl⟩
  regs := State.onlyAt_wr s (by simp [h.stat]) u _

/-- The leaf of a defect in TR_STICKY leaves TR_STAT alone. -/
theorem State.ShowsDefect.raiseLeaf {s t : State} {f : Field} {u : Nat} {b : Bool} (k : s.ShowsDefect t f u b) (h : f.IsDefect)
    (n : Nat) : s.ShowsDefect (t.raise (leafBit .TR_STICKY n) u) f u b where
  shown := by
    have hr : f.reg ≠ (leafBit .TR_STICKY n).reg := by rw [h.stat]; exact Reg.noConfusion
    rw [State.on, State.raise_rd t _ u hr (by rw [h.stat]; decide) (by rw [h.stat]; decide)]
    exact k.shown
  memory := k.memory.trans (t.raise_sameMemory _ u)
  regs := k.regs.trans (t.onlyAt_raise (f := leafBit .TR_STICKY n) (.tail _ (.head _)) u)

/-- A defect that is raised or cleared shows; one that holds already is not raised again. -/
theorem State.setDefect_shows {f : Field} (h : f.IsDefect) (s : State) (u : Nat) (b : Bool) :
    s.ShowsDefect (s.setDefect f u b) f u b := by
  cases b with
  | false => exact s.wr_showsDefect h u false
  | true =>
    unfold State.setDefect
    rw [if_pos rfl]
    split
    next held => exact ⟨held, s.sameMemory_refl, State.onlyAt_of_regs rfl u _⟩
    next =>
      obtain ⟨shown, memory, regs⟩ := (s.wr_showsDefect h u true).raiseLeaf h f.lo
      dsimp only
      split <;> exact ⟨shown, memory, regs⟩

/-- A command whose effect is a defect raised or cleared completes with the defect as given. -/
theorem State.completes_of_setDefect {f : Field} (h : f.IsDefect) {s : State} {u : Nat} {b : Bool} {i : Instr}
    (hi : exec i s = .next (s.setDefect f u b)) :
    ∃ t, exec i s = .next t ∧ t.on f u = b ∧ s.SameMemory t ∧ s.OnlyAt t u [.TR_STAT, .TR_STICKY] :=
  have k := s.setDefect_shows h u b
  ⟨_, hi, k.shown, k.memory, k.regs⟩

theorem seqLoss_isDefect : F.TR_STAT_SEQ_LOSS.IsDefect := ⟨rfl, rfl, rfl⟩
theorem mis_isDefect : F.TR_STAT_MIS.IsDefect := ⟨rfl, rfl, rfl⟩
theorem skew_isDefect : F.TR_STAT_SKEW.IsDefect := ⟨rfl, rfl, rfl⟩
theorem ais_isDefect : F.TR_STAT_AIS.IsDefect := ⟨rfl, rfl, rfl⟩
theorem rdi_isDefect : F.TR_STAT_RDI.IsDefect := ⟨rfl, rfl, rfl⟩
theorem csf_isDefect : F.TR_STAT_CSF.IsDefect := ⟨rfl, rfl, rfl⟩

/-! ### What each command does once its run is full (R82) -/

section

variable {s : State} {u : Fin 4096}

theorem exec_trainSeqLoss_seqlWrong (ha : s.on F.TR_STAT_AIS u.val = false) {n : Nat} (hn : 3 ≤ n) :
    exec (.trainSeqLoss u (.seqlWrong n)) s = .next (s.setDefect F.TR_STAT_SEQ_LOSS u.val true) :=
  congrArg Host.Outcome.next (by simp [State.trainSeqLoss, ha, hn])

theorem exec_trainSeqLoss_goodBlock (ha : s.on F.TR_STAT_AIS u.val = false) (seq : Nat) :
    exec (.trainSeqLoss u (.goodBlock seq)) s =
      .next ((s.setTrain u.val { s.train u.val with expSeq := seq % 2 ^ 20 }).setDefect F.TR_STAT_SEQ_LOSS u.val false) :=
  congrArg Host.Outcome.next (by simp [State.trainSeqLoss, ha])

theorem exec_trainMis (ha : s.on F.TR_STAT_AIS u.val = false) {n : Nat} (hn : 2 ≤ n) (matching : Bool) :
    exec (.trainMis u matching n) s = .next (s.setDefect F.TR_STAT_MIS u.val (!matching)) :=
  congrArg Host.Outcome.next (if_neg (by rw [ha, Bool.false_or, decide_eq_true_eq]; exact Nat.not_lt.2 hn))

theorem exec_trainSkew (ha : s.on F.TR_STAT_AIS u.val = false) {n : Nat} (hn : 3 ≤ n) (spread : Nat) :
    exec (.trainSkew u spread n) s = .next (s.setDefect F.TR_STAT_SKEW u.val (decide (504 < spread))) :=
  congrArg Host.Outcome.next (if_neg (by simp [ha, hn]))

theorem exec_trainAis (hl : s.memberLost u.val = false) {n : Nat} (hn : 2 ≤ n) (present : Bool) :
    exec (.trainAis u present n) s = .next (s.setDefect F.TR_STAT_AIS u.val present) :=
  congrArg Host.Outcome.next ((if_neg (by simp [hl])).trans (if_neg (Nat.not_lt.2 hn)))

theorem exec_trainRdi {n : Nat} (hn : 3 ≤ n) (present : Bool) :
    exec (.trainRdi u present n) s = .next (s.setDefect F.TR_STAT_RDI u.val present) :=
  congrArg Host.Outcome.next (if_neg (Nat.not_lt.2 hn))

/-- One valid block raises CSF; a block period of 16 ticks with none that carries it clears it. -/
theorem exec_trainCsf {blocks n : Nat} (hb : 1 ≤ blocks) {present : Bool} (hn : present = false → 16 ≤ n) :
    exec (.trainCsf u present blocks n) s = .next (s.setDefect F.TR_STAT_CSF u.val present) := by
  refine congrArg Host.Outcome.next ((if_neg (by simpa using Nat.one_le_iff_ne_zero.1 hb)).trans ?_)
  cases present with
  | true => rfl
  | false => exact if_neg (Nat.not_lt.2 (hn rfl))

/-- While AIS holds, SEQ_LOSS, MIS and SKEW are not evaluated. -/
theorem exec_inAis (ha : s.on F.TR_STAT_AIS u.val = true) (seen : SeqSight) (spread ticks : Nat) (matching : Bool) (blocks : Nat) :
    exec (.trainSeqLoss u seen) s = .next s ∧ exec (.trainMis u matching blocks) s = .next s ∧
      exec (.trainSkew u spread ticks) s = .next s :=
  ⟨congrArg Host.Outcome.next (if_pos ha), congrArg Host.Outcome.next (if_pos (by simp [ha])),
    congrArg Host.Outcome.next (if_pos (by simp [ha]))⟩

/-! ### The end of a replacement (R76) -/

theorem exec_fillLimitEnd {since : Nat} (hr : (s.train u.val).replacing = some since) :
    exec (.fillLimitEnd u) s = .next (if s.elapsed since 16 && s.tick.toNat % 16 == 0 then
      s.setTrain u.val { s.train u.val with replacing := none } else s) := by
  refine congrArg Host.Outcome.next ?_
  simp only [State.fillLimitEnd, hr]

end

/-- Settles O4: each command raises or clears its defect by `setDefect`; a replacement ends where both conditions of R76 hold. -/
theorem trainDefectsFollowTheirRuns : Obligations.TrainDefectsFollowTheirRuns := by
  refine ⟨fun u s => ⟨fun ha => ⟨?_, fun seq => ?_, ?_, ?_, fun spread ticks hn => ?_⟩, fun present ticks hn hl => ?_,
    fun present ticks hn => ?_, fun blocks ticks hb => ?_, fun blocks ticks hb hn => ?_,
    fun ha seen spread ticks matching blocks => exec_inAis ha seen spread ticks matching blocks⟩,
    fun u s since hr => ⟨fun hs ht => ?_, fun h => ?_⟩⟩
  · exact State.completes_of_setDefect seqLoss_isDefect (exec_trainSeqLoss_seqlWrong ha (Nat.le_refl _))
  · obtain ⟨shown, memory, -⟩ := State.wr_showsDefect seqLoss_isDefect
      (s.setTrain u.val { s.train u.val with expSeq := seq % 2 ^ 20 }) u.val false
    exact ⟨_, exec_trainSeqLoss_goodBlock ha seq, shown,
      congrArg Train.expSeq ((State.train_setTrain ..).trans (if_pos rfl)), memory⟩
  · exact State.completes_of_setDefect mis_isDefect (exec_trainMis ha (Nat.le_refl _) false)
  · obtain ⟨t, he, shown, memory, -⟩ := State.completes_of_setDefect mis_isDefect (exec_trainMis ha (Nat.le_refl _) true)
    exact ⟨t, he, shown, memory⟩
  · exact State.completes_of_setDefect skew_isDefect (exec_trainSkew ha hn spread)
  · exact State.completes_of_setDefect ais_isDefect (exec_trainAis hl hn present)
  · exact State.completes_of_setDefect rdi_isDefect (exec_trainRdi hn present)
  · obtain ⟨t, he, shown, memory, -⟩ := State.completes_of_setDefect csf_isDefect (exec_trainCsf (present := true) (n := ticks) hb nofun)
    exact ⟨t, he, shown, memory⟩
  · obtain ⟨t, he, shown, memory, -⟩ := State.completes_of_setDefect csf_isDefect (exec_trainCsf hb fun _ => hn)
    exact ⟨t, he, shown, memory⟩
  · refine ⟨s.setTrain u.val { s.train u.val with replacing := none }, ?_, ?_, ?_, fun v hv => ?_, rfl, ⟨rfl, rfl, rfl, rfl⟩⟩
    · rw [exec_fillLimitEnd hr, if_pos (by simp [State.elapsed, hs, ht])]
    · rw [State.train_setTrain, if_pos rfl]
    · rw [State.train_setTrain, if_pos rfl]
    · rw [State.train_setTrain, if_neg hv.symm]
  · rw [exec_fillLimitEnd hr, if_neg]
    rcases h with h | h
    · simp [State.elapsed, Nat.not_le.2 h]
    · simp [h]

end Sys2Proof.Machine
end

section
/-! GRID commands of masters and the run of a bank swap or a repack to its end (O5, O6). -/

namespace Sys2Proof.Machine

/-! ### Frames through one more update -/

theorem State.OnlyRegs.wr {s t : State} {rs : List Reg} (h : s.OnlyRegs t rs) (f : Field) (hf : f.reg ∈ rs) (i v : Nat) :
    s.OnlyRegs (t.wr f i v) rs := h.trans (State.onlyAt_wr t hf i v).onlyRegs

theorem State.OnlyRegs.raise {s t : State} {rs : List Reg} (h : s.OnlyRegs t rs) (f : Field) (hf : f.reg ∈ rs) (i : Nat) :
    s.OnlyRegs (t.raise f i) rs := h.trans (State.onlyAt_raise t hf i).onlyRegs

theorem State.onlyRegs_refl (s : State) (rs : List Reg) : s.OnlyRegs s rs := fun _ _ _ _ _ => rfl

/-- Beside its registers, a frame of registers says nothing of a state. -/
theorem State.OnlyRegs.congr {s t u : State} {rs : List Reg} (h : s.OnlyRegs t rs) (hu : u.regs = t.regs) : s.OnlyRegs u rs :=
  h.trans (State.onlyRegs_of_regs hu rs)

theorem State.on_wr {f : Field} (hg : f.good = true) (hw : f.hi = f.lo) (s : State) (i : Nat) (b : Bool) :
    (s.wr f i b.toNat).on f i = b := by
  rw [State.on, State.rd_wr hg]
  cases b <;> simp [Field.width, hw]

theorem State.on_raise {f : Field} (hg : f.good = true) (hw : f.hi = f.lo) (h1 : f.reg ≠ .EV_STICKY) (h2 : f.reg ≠ .EV_SRC_CNT)
    (s : State) (i : Nat) : (s.raise f i).on f i = true :=
  beq_iff_eq.2 (State.raise_on s i hg hw h1 h2)

/-! ### The swap registers -/

@[simp] theorem State.rd_reply (s : State) (m : Initiator) (a : Answer) (f : Field) (i : Nat) : (s.reply m a).rd f i = s.rd f i := rfl

@[simp] theorem State.rd_modSwap (s : State) (g : Swap → Swap) (f : Field) (i : Nat) : (s.modSwap g).rd f i = s.rd f i := rfl

@[simp] theorem State.swap_modSwap (s : State) (f : Swap → Swap) : (s.modSwap f).swap = f s.swap := rfl

theorem State.modSwap_self {s : State} {f : Swap → Swap} (h : f s.swap = s.swap) : s.modSwap f = s := by
  rw [State.modSwap, h]

theorem State.swapState_setSwapState (s : State) (x : SwapState) : (s.setSwapState x).swapState = x := by
  rw [State.swapState, State.setSwapState, State.rd_wr rfl]
  cases x <;> rfl

theorem State.swapState_wr_apart {f : Field} (h : f.apart F.GRID_SWAP_STAT_STATE = true) (s : State) (i v : Nat) :
    (s.wr f i v).swapState = s.swapState :=
  congrArg SwapState.ofCode (State.rd_wr_apart h s i v 0)

theorem State.liveBank_wr_apart {f : Field} (h : f.apart F.GRID_SWAP_STAT_LIVE_BANK = true) (s : State) (i v : Nat) :
    (s.wr f i v).liveBank = s.liveBank := State.rd_wr_apart h s i v 0

@[simp] theorem State.swapState_modSwap (s : State) (f : Swap → Swap) : (s.modSwap f).swapState = s.swapState := rfl

@[simp] theorem State.liveBank_modSwap (s : State) (f : Swap → Swap) : (s.modSwap f).liveBank = s.liveBank := rfl

@[simp] theorem State.liveBank_later (s : State) (k : Keyed) : (s.later k).liveBank = s.liveBank := rfl

@[simp] theorem State.on_modSwap (s : State) (g : Swap → Swap) (f : Field) (i : Nat) : (s.modSwap g).on f i = s.on f i := rfl

/-- GRID_STICKY lies beside the fields of the swap. -/
theorem State.rd_raiseGrid {f g : Field} (hf : f.reg = .GRID_STICKY) (hg : g.reg ∈ [Reg.GRID_SWAP_STAT, .GRID_STOW_STAT]) (s : State)
    (i j : Nat) : (s.raise f i).rd g j = s.rd g j :=
  State.raise_rd s f i (fun e => by simp [e, hf] at hg) (fun e => by simp [e] at hg) (fun e => by simp [e] at hg) j

/-! ### Commands of masters outside a mate pair (R98, R99, R105, R110, R118) -/

/-- Outside a mate pair a write takes effect at once and is answered. -/
theorem State.write_alone {s : State} (h : s.Alone) (m : Initiator) (a : Nat) (w : Write) (eff : State → State) :
    s.write m a w eff = (eff s).reply m (.ok 0) := by
  obtain ⟨hs, ha⟩ := h
  simp [State.write, hs, ha]

section

variable {s : State} {m : Initiator} {i : Instr} {k : Keyed}

theorem State.exec_prepare_alone (h : s.Alone) (m : Initiator) :
    exec (.prepare m) s = .next ((s.gridCommand .gridPrepare).reply m (.ok 0)) :=
  congrArg Host.Outcome.next (State.write_alone h ..)

theorem State.exec_arm_alone (h : s.Alone) (m : Initiator) :
    exec (.arm m) s = .next ((s.gridCommand (.gridArm s.swapAt s.tick)).reply m (.ok 0)) :=
  congrArg Host.Outcome.next (State.write_alone h ..)

theorem State.exec_cancel_alone (h : s.Alone) (m : Initiator) :
    exec (.cancel m) s = .next ((s.gridCommand (.gridCancel s.tick)).reply m (.ok 0)) :=
  congrArg Host.Outcome.next (State.write_alone h ..)

theorem State.exec_repack_alone (h : s.Alone) (m : Initiator) :
    exec (.repack m) s = .next (s.gridRepack.reply m (.ok 0)) :=
  congrArg Host.Outcome.next (State.write_alone h ..)

/-- A command waits for the next boundary while nobody holds the swap registers. -/
theorem State.gridCommand_waits (he : exec i s = .next ((s.gridCommand k).reply m (.ok 0))) (h : s.swap.holder = .nobody) :
    ∃ t, exec i s = .next t ∧ t.atBoundary = s.atBoundary ++ [k] ∧ t.regs = s.regs ∧ s.SameMemory t := by
  rw [State.gridCommand, if_pos (beq_iff_eq.2 h)] at he
  exact ⟨_, he, rfl, rfl, rfl, rfl, rfl, rfl⟩

/-- A command that finds the swap registers held is BUSY and does not wait (R118). -/
theorem State.gridCommand_busy (he : exec i s = .next ((s.gridCommand k).reply m (.ok 0))) (h : s.swap.holder ≠ .nobody) :
    ∃ t, exec i s = .next t ∧ t.rd F.GRID_SWAP_STAT_RESULT 0 = 7 ∧ t.atBoundary = s.atBoundary := by
  rw [State.gridCommand, if_neg (by simpa using h)] at he
  exact ⟨_, he, State.rd_wr rfl s 0 7, rfl⟩

end

/-- A shadow write outside a mate pair changes its entry of the bank that is not live (R98). -/
theorem State.exec_manifestShadowWrite_unlocked {s : State} (h : s.Alone) (hl : s.swap.locked = false) (m : Initiator) (p : Fin 23040)
    (v : Word) : exec (.manifestShadowWrite m p v) s = .next (((s.setManifest (1 - s.liveBank) p.val v).modSwap fun x =>
      { x with shadowBad := x.shadowBad.filter (· != p.val) }).reply m (.ok 0)) := by
  refine congrArg Host.Outcome.next ?_
  rw [if_neg (by simp [hl]), State.write_alone h, State.manifestWrite, if_neg (by simp [hl])]

theorem State.exec_manifestShadowWrite_locked {s : State} (hl : s.swap.locked = true) (m : Initiator) (p : Fin 23040) (v : Word) :
    exec (.manifestShadowWrite m p v) s =
      .next ((s.busError m true (0x21100000 + 4 * p.val) .target).raise F.GRID_STICKY_LOCKED_WR 0) := by
  refine congrArg Host.Outcome.next ?_
  rw [if_pos hl, State.manifestWrite, if_pos hl]

/-- The swap machinery with a repack in progress, started at boundary `now` if there was none. -/
def Swap.repack (x : Swap) (now : Nat) : Swap :=
  if x.repacking then x else { x with repacking := true, repackDone := none, startedAt := now }

@[simp] theorem Swap.repacking_repack (x : Swap) (now : Nat) : (x.repack now).repacking = true := by
  unfold Swap.repack
  split
  next h => exact h
  next => rfl

/-- REPACK accepted: it is BUSY, and a repack in progress goes on (R105). -/
theorem State.gridRepack_accepted {s : State} (hp : s.swapPending = false) (hf : (s.rd F.SY_LOOP_STAT_FROZEN 0).testBit 7 = false) :
    s.gridRepack =
      ((s.wr F.GRID_STOW_STAT_REPACK_REJ 0 0).wr F.GRID_STOW_STAT_REPACK_BUSY 0 1).modSwap (·.repack s.now) := by
  unfold State.gridRepack
  dsimp only
  rw [if_neg (by simp [hp, hf])]
  split
  next hr => exact (State.modSwap_self (f := (·.repack s.now)) (if_pos hr)).symm
  next hr => exact congrArg (fun x => State.modSwap _ fun _ => x) (if_neg hr).symm

theorem State.gridRepack_rejected {s : State} (hp : s.swapPending = true) : s.gridRepack = s.wr F.GRID_STOW_STAT_REPACK_REJ 0 1 := by
  rw [State.gridRepack, if_pos (by simp [hp])]

/-- Settles O5: a command outside a mate pair has its own effect at once; what that is, the lemmas about the effects say. -/
theorem gridCommandsAreTaken : Obligations.GridCommandsAreTaken := by
  refine ⟨fun m s ha => ⟨fun p v hl hb => ?_, fun h => ⟨?_, ?_, ?_⟩, fun h => ⟨?_, ?_, ?_⟩, fun hp hf => ?_, fun hp => ?_⟩,
    fun m p v s hl => ?_⟩
  · refine ⟨_, State.exec_manifestShadowWrite_unlocked ha hl m p v, ?_, fun q => ?_, State.answer_reply .., rfl, rfl, rfl, rfl, rfl⟩
    · exact (State.manifest_setManifest ..).trans (if_pos ⟨rfl, rfl⟩)
    · exact (State.manifest_setManifest ..).trans (if_neg fun e => by omega)
  · exact State.gridCommand_waits (State.exec_prepare_alone ha m) h
  · exact State.gridCommand_waits (State.exec_arm_alone ha m) h
  · exact State.gridCommand_waits (State.exec_cancel_alone ha m) h
  · exact State.gridCommand_busy (State.exec_prepare_alone ha m) h
  · exact State.gridCommand_busy (State.exec_arm_alone ha m) h
  · exact State.gridCommand_busy (State.exec_cancel_alone ha m) h
  · refine ⟨_, State.exec_repack_alone ha m, ?_⟩
    rw [State.gridRepack_accepted hp hf]
    refine ⟨?_, ?_, Swap.repacking_repack .., ?_, rfl, rfl, rfl, rfl⟩
    · rw [State.rd_reply, State.rd_modSwap, State.rd_wr_apart rfl, State.rd_wr rfl, Nat.zero_mod]
    · rw [State.rd_reply, State.rd_modSwap, State.rd_wr rfl]
      rfl
    · exact (((s.onlyRegs_refl _).wr F.GRID_STOW_STAT_REPACK_REJ (by decide) 0 0).wr F.GRID_STOW_STAT_REPACK_BUSY (by decide) 0
        1).congr rfl
  · refine ⟨_, State.exec_repack_alone ha m, ?_⟩
    rw [State.gridRepack_rejected hp, State.rd_reply]
    exact ⟨State.rd_wr rfl s 0 1, rfl⟩
  · refine ⟨_, State.exec_manifestShadowWrite_locked hl m p v, by simp, ?_, State.on_raise rfl rfl (by decide) (by decide) _ 0, by simp,
      (s.busError_sameMemory ..).trans (State.raise_sameMemory ..)⟩
    rw [State.answer, State.raise_answers]
    exact s.answer_busError m true _ .target

/-! ### A swap from its placement to its end (R113 to R116) -/

/-- LAST_TICKS and LAST_WRITES, and CLASS where the stowage engine fell back on a new placement (R92, R101). -/
def State.showStowed (s : State) (r : StowResult) : State :=
  if r.fellBack then (s.stowDone r).wr F.GRID_SWAP_STAT_CLASS 0 1 else s.stowDone r

theorem State.showStowed_onlyRegs (s : State) (r : StowResult) :
    s.OnlyRegs (s.showStowed r) [.GRID_SWAP_STAT, .GRID_STOW_STAT] := by
  have hd : s.OnlyRegs (s.stowDone r) [.GRID_SWAP_STAT, .GRID_STOW_STAT] :=
    ((s.onlyRegs_refl _).wr F.GRID_STOW_STAT_LAST_TICKS (by decide) 0 _).wr F.GRID_STOW_STAT_LAST_WRITES (by decide) 0 _
  unfold State.showStowed
  split
  · exact hd.wr F.GRID_SWAP_STAT_CLASS (by decide) 0 1
  · exact hd

theorem State.showStowed_sameMemory (s : State) (r : StowResult) : s.SameMemory (s.showStowed r) := by
  unfold State.showStowed
  split <;> exact ⟨rfl, rfl, rfl, rfl⟩

theorem State.lastWrites_showStowed (s : State) (r : StowResult) :
    (s.showStowed r).rd F.GRID_STOW_STAT_LAST_WRITES 0 = r.writes % 2 ^ F.GRID_STOW_STAT_LAST_WRITES.width := by
  unfold State.showStowed
  split
  · rw [State.rd_wr_apart rfl, State.stowDone, State.rd_wr rfl]
  · rw [State.stowDone, State.rd_wr rfl]

/-- A computation that leaves nothing unplaced makes the swap READY with its plan (R113). -/
theorem State.stowageComplete_placed {s : State} {r : StowResult} (hp : s.swapState = .place)
    (hf : (s.rd F.SY_LOOP_STAT_FROZEN 0).testBit 7 = false) (hu : r.unplaced = []) :
    s.stowageComplete r = ((s.showStowed r).setSwapState .ready).modSwap fun x => { x with pending := some r } := by
  unfold State.stowageComplete
  dsimp only
  rw [if_pos (by simp [hp]), if_neg (by simp [hf]), if_pos (by simp [hu]), hf, Bool.not_false, Bool.and_true]
  rfl

/-- The swap machinery once a plan is switched to at boundary `n` (R113, R114). -/
def Swap.switch (x : Swap) (r : StowResult) (n : Nat) (copyBack : Bool) : Swap :=
  { x with plan := r.plan, pending := none, staging := true, switchedAt := some n, eccEntries := [],
           shadowBad := x.eccEntries.map (·.1), copyBack := copyBack }

/-- COPYBACK as it counts at a switch (R113). -/
def State.takesCopyBack (s : State) : Bool := s.on F.GRID_SWAP_CMD_COPYBACK 0 && s.swap.holder != .domain && !s.imageJob.domain

/-- The switch of an armed and ready swap (R114): its plan and the other bank are live, and the staging begins. -/
theorem State.swapSwitch_ready {s : State} {r : StowResult} (ha : s.on F.GRID_SWAP_STAT_ARMED 0 = true) (hd : s.swap.due = s.tick + 1)
    (hs : s.swap.staging = false) (hp : s.swap.pending = some r) (hf : (s.rd F.SY_LOOP_STAT_FROZEN 0).testBit 7 = false) :
    s.swapSwitch = (((s.modSwap (·.switch r (s.now + 1) s.takesCopyBack)).wr F.GRID_MC_STAT_LIVE_EXTRA 0
      (extraBranches (connections s.swapImage (s.bankEntries (1 - s.liveBank))))).wr F.GRID_SWAP_STAT_LIVE_BANK 0 (1 - s.liveBank)).later
        (.swapDone s.swap.due) := by
  unfold State.swapSwitch
  rw [if_neg (by simp [ha, hd, hs]), hp]
  dsimp only
  rw [if_neg (by simp [hf]), State.liveBank_wr_apart rfl]
  rfl

/-- A swap that is due but not ready is missed (R116). -/
theorem State.swapSwitch_missed {s : State} (ha : s.on F.GRID_SWAP_STAT_ARMED 0 = true) (hd : s.swap.due = s.tick + 1)
    (hs : s.swap.staging = false) (hp : s.swap.pending = none) :
    s.swapSwitch = (s.endSwap.swapResult 5).raise F.GRID_STICKY_SWAP_MISSED 0 := by
  unfold State.swapSwitch
  rw [if_neg (by simp [ha, hd, hs]), hp]

/-- A swap that ends without a switch leaves the state IDLE, not armed and unlocked, and the live bank as it is. -/
theorem State.endSwap_idle (s : State) : s.endSwap.swapState = .idle ∧ s.endSwap.on F.GRID_SWAP_STAT_ARMED 0 = false ∧
    s.endSwap.swap.locked = false ∧ s.endSwap.liveBank = s.liveBank := by
  unfold State.endSwap
  refine ⟨?_, ?_, rfl, ?_⟩
  · rw [State.swapState_modSwap, State.swapState_wr_apart rfl, State.swapState_setSwapState]
  · rw [State.on_modSwap]
    exact State.on_wr rfl rfl (s.setSwapState .idle) 0 false
  · rw [State.liveBank_modSwap, State.liveBank_wr_apart rfl, State.setSwapState, State.liveBank_wr_apart rfl]

/-- The shadow bank takes the content of the live one if the switch was made with COPYBACK (R102). -/
def State.copiedBack (s : State) : State :=
  if s.swap.copyBack then { s with banks := copyBank s.banks s.liveBank (1 - s.liveBank) } else s

/-- The swap machinery once the staging is over: unlocked unless a domain commit holds it (R478). -/
def Swap.staged (x : Swap) : Swap :=
  { x with locked := x.holder == .domain, staging := false, shadowBad := if x.copyBack then [] else x.shadowBad }

theorem State.copiedBack_regs (s : State) : s.copiedBack.regs = s.regs := by
  unfold State.copiedBack
  split <;> rfl

theorem State.copiedBack_swap (s : State) : s.copiedBack.swap = s.swap := by
  unfold State.copiedBack
  split <;> rfl

theorem State.copiedBack_sameMemory (s : State) : s.SameMemory s.copiedBack := by
  unfold State.copiedBack
  split <;> exact ⟨rfl, rfl, rfl, rfl⟩

theorem State.copiedBack_of_not {s : State} (h : s.swap.copyBack = false) : s.copiedBack = s := by
  rw [State.copiedBack, if_neg (by simp [h])]

/-- The staging of a switch that was made two boundaries ago ends (R113). -/
theorem State.swapStagingEnd_due {s : State} {n : Nat} (hw : s.swap.switchedAt = some n) (hc : s.swapState = .copy) (hn : n + 2 ≤ s.now) :
    s.swapStagingEnd = (s.copiedBack.setSwapState .idle).modSwap Swap.staged := by
  unfold State.swapStagingEnd
  rw [hw]
  dsimp only
  rw [if_pos (by simp [hc, State.elapsed, hn])]
  rfl

/-- A completed repack switches in the window of a tick with no swap pending and no switch before it (R102, R105). -/
theorem State.repackSwitch_clear {s : State} {r : StowResult} (hd : s.swap.repackDone = some r) (hr : s.swap.repacking = true)
    (hp : s.swapPending = false) (hw : s.swap.switchedAt = none) :
    s.repackSwitch = (s.switchRepack r).modSwap fun x => { x with switchedAt := some (s.now + 1) } := by
  unfold State.repackSwitch
  rw [hd, hw]
  dsimp only
  rw [if_pos (by simp [hr, hp])]

/-- What the switch of a repack does: the plan alone changes, REPACK is no longer BUSY, and REPACK_DONE is raised (R105). -/
theorem State.switchRepack_switches (s : State) (r : StowResult) :
    (s.switchRepack r).swap.plan = r.plan ∧ (s.switchRepack r).swap.repacking = false ∧ (s.switchRepack r).liveBank = s.liveBank ∧
      (s.switchRepack r).on F.GRID_STICKY_REPACK_DONE 0 = true ∧ (s.switchRepack r).rd F.GRID_STOW_STAT_REPACK_BUSY 0 = 0 ∧
      s.OnlyRegs (s.switchRepack r) [.GRID_STOW_STAT, .GRID_STICKY] ∧ s.SameMemory (s.switchRepack r) := by
  unfold State.switchRepack
  refine ⟨by simp, by simp, ?_, State.on_raise rfl rfl (by decide) (by decide) _ 0, ?_, ?_, ?_⟩
  · rw [State.liveBank, State.rd_raiseGrid rfl (by decide), State.rd_wr_apart rfl, State.rd_modSwap, State.liveBank]
  · rw [State.rd_raiseGrid rfl (by decide), State.rd_wr rfl, Nat.zero_mod]
  · exact ((State.onlyRegs_of_regs rfl _).wr F.GRID_STOW_STAT_REPACK_BUSY (by decide) 0 0).raise F.GRID_STICKY_REPACK_DONE (by decide) 0
  · exact State.SameMemory.trans ⟨rfl, rfl, rfl, rfl⟩ (State.raise_sameMemory ..)

/-- What a missed swap leaves: IDLE, not armed and unlocked with RESULT 5, and SWAP_MISSED raised (R116). -/
theorem State.missedSwap_ends (s : State) : let t := (s.endSwap.swapResult 5).raise F.GRID_STICKY_SWAP_MISSED 0
    t.liveBank = s.liveBank ∧ t.rd F.GRID_SWAP_STAT_RESULT 0 = 5 ∧ t.swapState = .idle ∧ t.on F.GRID_SWAP_STAT_ARMED 0 = false ∧
      t.swap.locked = false ∧ t.on F.GRID_STICKY_SWAP_MISSED 0 = true ∧ s.SameMemory t := by
  obtain ⟨hstate, harmed, hlocked, hlive⟩ := s.endSwap_idle
  refine ⟨?_, ?_, ?_, ?_, ?_, State.on_raise rfl rfl (by decide) (by decide) _ 0, ?_⟩
  · rw [State.liveBank, State.rd_raiseGrid rfl (by decide), ← hlive, State.swapResult]
    exact State.liveBank_wr_apart rfl ..
  · rw [State.rd_raiseGrid rfl (by decide), State.swapResult, State.rd_wr rfl]
    rfl
  · rw [State.swapState, State.rd_raiseGrid rfl (by decide), ← hstate, State.swapResult]
    exact State.swapState_wr_apart rfl ..
  · rw [State.on, State.rd_raiseGrid rfl (by decide), State.swapResult, State.rd_wr_apart rfl]
    exact harmed
  · rw [State.raise_swap]
    exact hlocked
  · exact State.SameMemory.trans ⟨rfl, rfl, rfl, rfl⟩ (State.raise_sameMemory ..)

/-- Settles O6: each command in the case of its hypotheses, then the fields that its state shows. -/
theorem swapRunsToItsEnd : Obligations.SwapRunsToItsEnd := by
  refine ⟨fun r s hp hf hu => ⟨_, rfl, ?_⟩, fun r s ha hd hs hp hf hb => ⟨_, rfl, ?_⟩, fun s ha hd hs hp => ⟨_, rfl, ?_⟩,
    fun s n hw hc hn => ⟨_, rfl, ?_⟩, fun s r hd hr hp hw => ⟨_, rfl, ?_⟩⟩
  · rw [State.stowageComplete_placed hp hf hu]
    refine ⟨?_, rfl, ?_, ?_, s.showStowed_sameMemory r⟩
    · rw [State.swapState_modSwap, State.swapState_setSwapState]
    · rw [State.rd_modSwap, State.setSwapState, State.rd_wr_apart rfl, State.lastWrites_showStowed]
    · exact ((s.showStowed_onlyRegs r).wr F.GRID_SWAP_STAT_STATE (by decide) 0 _).congr rfl
  · rw [State.swapSwitch_ready ha hd hs hp hf]
    refine ⟨?_, rfl, rfl, rfl, rfl, ?_, rfl, rfl, rfl, rfl⟩
    · rw [State.liveBank_later, State.liveBank, State.rd_wr rfl]
      exact Nat.mod_eq_of_lt (Nat.lt_succ_of_le (Nat.sub_le ..))
    · exact (((State.onlyRegs_of_regs rfl _).wr F.GRID_MC_STAT_LIVE_EXTRA (by decide) 0 _).wr F.GRID_SWAP_STAT_LIVE_BANK (by decide) 0
        _).congr rfl
  · rw [State.swapSwitch_missed ha hd hs hp]
    exact s.missedSwap_ends
  · rw [State.swapStagingEnd_due hw hc hn]
    refine ⟨?_, rfl, ?_, ?_, fun h => ?_, ?_, s.copiedBack_sameMemory⟩
    · rw [State.swapState_modSwap, State.swapState_setSwapState]
    · exact congrArg (fun x : Swap => x.holder == .domain) s.copiedBack_swap
    · rw [State.liveBank_modSwap, State.setSwapState, State.liveBank_wr_apart rfl, State.liveBank, State.rd,
        State.reg_congr s.copiedBack_regs, State.liveBank, State.rd]
    · rw [State.copiedBack_of_not h]
      rfl
    · exact ((State.onlyRegs_of_regs s.copiedBack_regs _).wr F.GRID_SWAP_STAT_STATE (by decide) 0 _).congr rfl
  · rw [State.repackSwitch_clear hd hr hp hw]
    exact s.switchRepack_switches r

end Sys2Proof.Machine
end

section
/-! What PORSTn and SRSTn do to the manifest banks and to the loop freezes (O43). -/

namespace Sys2Proof.Machine

theorem Tab.find_filter {α : Type} {p : Key × α → Bool} {k : Key} (h : ∀ v, p (k, v) = true) (t : Table α) :
    Tab.find (t.filter p) k = Tab.find t k := by
  induction t with
  | nil => rfl
  | cons x t ih =>
    obtain ⟨j, v⟩ := x
    by_cases hp : p (j, v) = true
    · rw [List.filter_cons_of_pos hp]
      simp only [Tab.find, ih]
    · have hj : Key.same j k ≠ true := fun e => hp (Key.same_iff.1 e ▸ h v)
      rw [List.filter_cons_of_neg hp, ih]
      simp only [Tab.find, if_neg hj]

/-- A register whose entries all pass the test is kept as it is. -/
theorem State.reg_keepRegs {p : Key × Word → Bool} {r : Reg} {i : Nat} (h : ∀ v, p (r.key i, v) = true) (s : State) :
    (s.keepRegs p).reg r i = s.reg r i := by
  simp only [State.reg, State.keepRegs, regGet, Tab.get, Tab.find_filter h]

/-- What no write of an applet slot's field touches, the return of the slots to LOADED does not touch. -/
theorem State.appletsAgain_keeps {β : Type} (p : State → β)
    (hp : ∀ s k v, p (State.wr s ⟨.SY_APPLET, 4 * k + 3, 4 * k⟩ 0 v) = p s) (s : State) : p s.appletsAgain = p s := by
  refine State.each_keeps p (fun t k => ?_) _ s
  dsimp only
  split
  · exact hp t k 0
  · split
    · exact hp t k _
    · rfl

/-- The device state changes with SY_STATE only. -/
theorem State.devState_wr_ne {f : Field} (h : f.reg ≠ .SY_STATE) (s : State) (i v : Nat) : (s.wr f i v).devState = s.devState :=
  congrArg DevState.ofCode (State.rd_wr_reg (.inl h) s v)

/-- Both manifest banks and SY_LOOP_FREEZE are as they were. -/
structure State.KeepsBanks (s t : State) : Prop where
  banks : t.banks = s.banks
  freeze : t.reg .SY_LOOP_FREEZE 0 = s.reg .SY_LOOP_FREEZE 0

namespace State.KeepsBanks

variable {s t u : State}

theorem refl (s : State) : s.KeepsBanks s := ⟨rfl, rfl⟩

theorem trans (h : s.KeepsBanks t) (k : t.KeepsBanks u) : s.KeepsBanks u := ⟨k.banks.trans h.banks, k.freeze.trans h.freeze⟩

theorem congr (h : s.KeepsBanks t) (hb : u.banks = t.banks) (hr : u.regs = t.regs) : s.KeepsBanks u :=
  h.trans ⟨hb, State.reg_congr hr ..⟩

theorem modSwap (h : s.KeepsBanks t) (f : Swap → Swap) : s.KeepsBanks (t.modSwap f) := h.congr rfl rfl
theorem modBoot (h : s.KeepsBanks t) (f : Boot → Boot) : s.KeepsBanks (t.modBoot f) := h.congr rfl rfl
theorem modMarch (h : s.KeepsBanks t) (f : March → March) : s.KeepsBanks (t.modMarch f) := h.congr rfl rfl
theorem setCore (h : s.KeepsBanks t) (i : Nat) (x : Core) : s.KeepsBanks (t.setCore i x) := h.congr rfl rfl

theorem ite {c : Prop} [Decidable c] (h : s.KeepsBanks t) (k : s.KeepsBanks u) : s.KeepsBanks (if c then t else u) := by
  split
  · exact h
  · exact k

theorem each (h : s.KeepsBanks t) {α : Type} {f : State → α → State} (hf : ∀ (s : State) x, s.KeepsBanks (f s x)) (l : List α) :
    s.KeepsBanks (t.each l f) :=
  h.trans ⟨State.each_keeps State.banks (fun s x => (hf s x).banks) l t,
    State.each_keeps (State.reg · .SY_LOOP_FREEZE 0) (fun s x => (hf s x).freeze) l t⟩

theorem setReg (h : s.KeepsBanks t) (r : Reg) (hr : r ≠ .SY_LOOP_FREEZE) (i : Nat) (v : Word) : s.KeepsBanks (t.setReg r i v) :=
  h.trans ⟨rfl, (State.reg_setReg ..).trans (if_neg fun e => hr e.1)⟩

theorem wr (h : s.KeepsBanks t) (f : Field) (hf : f.reg ≠ .SY_LOOP_FREEZE) (i v : Nat) : s.KeepsBanks (t.wr f i v) :=
  h.setReg f.reg hf i _

theorem raise (h : s.KeepsBanks t) (f : Field) (hf : f.reg ≠ .SY_LOOP_FREEZE) (i : Nat) : s.KeepsBanks (t.raise f i) :=
  h.trans ⟨State.raise_banks .., State.raise_reg t f i hf.symm (by decide) (by decide) 0⟩

theorem raiseSource (h : s.KeepsBanks t) (src : Nat) : s.KeepsBanks (t.raiseSource src) :=
  h.trans ⟨State.raiseSource_banks .., State.report_reg t src 0 0 0 (by decide) (by decide) 0⟩

/-! ### SRSTn (R117, R497, R517, R520, R538, R568) -/

theorem endSwap (h : s.KeepsBanks t) : s.KeepsBanks t.endSwap := by
  unfold State.endSwap
  exact (wr (h.wr F.GRID_SWAP_STAT_STATE (by decide) 0 _) F.GRID_SWAP_STAT_ARMED (by decide) 0 0).modSwap _

theorem swapSrst (h : s.KeepsBanks t) : s.KeepsBanks t.swapSrst := by
  unfold State.swapSrst
  extract_lets u
  have hu : s.KeepsBanks u := ite ((h.wr F.GRID_STOW_STAT_REPACK_BUSY (by decide) 0 0).modSwap _) h
  exact ite hu ((hu.endSwap.wr F.GRID_SWAP_STAT_RESULT (by decide) 0 8).modSwap _)

theorem swapsEnd (h : s.KeepsBanks t) : s.KeepsBanks t.swapsEnd := by
  unfold State.swapsEnd
  extract_lets u
  have hu : s.KeepsBanks u := h.congr rfl rfl
  exact ite hu (swapSrst (hu.congr rfl rfl))

theorem dropApply (h : s.KeepsBanks t) : s.KeepsBanks t.dropApply :=
  congr ((h.modSwap _).wr F.SY_IMG_STAT_STATE (by decide) 0 0) rfl rfl

theorem applySrst (h : s.KeepsBanks t) : s.KeepsBanks t.applySrst :=
  ite h (h.dropApply.wr F.SY_IMG_STAT_RESULT (by decide) 0 8)

theorem marchStop (h : s.KeepsBanks t) : s.KeepsBanks t.marchStop := by
  unfold State.marchStop
  split
  · exact ((h.modMarch _).wr F.MM_BT_STAT_BORROWED (by decide) 0 0).modMarch _
  · exact h

/-- The copies that are cleared are held per master; SY_LOOP_FREEZE is not. -/
theorem clearCopies (h : s.KeepsBanks t) : s.KeepsBanks t.clearCopies := by
  refine h.trans ⟨rfl, State.reg_keepRegs (fun _ => ?_) t⟩
  rw [Bool.not_eq_true', List.any_eq_false]
  rintro r - hr
  obtain ⟨hi, hc⟩ := Bool.and_eq_true_iff.1 hr
  rw [Reg.ctorIdx_inj (beq_iff_eq.1 hi : r.ctorIdx = Reg.SY_LOOP_FREEZE.ctorIdx)] at hc
  exact absurd hc (by decide)

theorem srstRegs (h : s.KeepsBanks t) : s.KeepsBanks t.srstRegs :=
  clearCopies <| (((h.setReg .SY_REMAP (by decide) 0 _).setReg .SY_PC_CTRL (by decide) 0 _).setReg .SY_PC_SWI (by decide) 0 _).setReg
    .SY_MBX (by decide) 0 _

theorem spiStop (h : s.KeepsBanks t) : s.KeepsBanks t.spiStop :=
  modBoot (h.each (fun u e => (refl u).wr F.LE_SPI_CTRL_BUSY (by decide) e 0) _) _

theorem srstAssert (h : s.KeepsBanks t) (midBurst : List (Fin 10)) : s.KeepsBanks (t.srstAssert midBurst) := by
  unfold State.srstAssert
  refine ite h ?_
  extract_lets u v w
  have hu : s.KeepsBanks u := h.swapsEnd.applySrst.marchStop.srstRegs.spiStop
  have hc : s.KeepsBanks { u with cores := [] } := hu.congr rfl rfl
  have hv : s.KeepsBanks v := hc.wr F.SY_QSPI_CMD_BUSY (by decide) 0 0
  have hw : s.KeepsBanks w := ite (hv.raise F.BM_STICKY_MRESET (by decide) 0) hv
  exact (hw.modBoot _).wr F.SY_STATE_STATE (by decide) 0 _

/-! ### The end of SRSTn (R267, R526, R571) -/

theorem endBoot (h : s.KeepsBanks t) (d : DevState) : s.KeepsBanks (t.endBoot d) := by
  unfold State.endBoot
  extract_lets again cut u v
  have hu : s.KeepsBanks u := modBoot (h.wr F.SY_STATE_STATE (by decide) 0 _) _
  have hv : s.KeepsBanks v := hu.each (fun u e => (refl u).raise F.LE_STICKY_SPI_ERR (by decide) e) _
  exact ite (hv.raiseSource 7) hv

theorem appletsAgain (h : s.KeepsBanks t) : s.KeepsBanks t.appletsAgain :=
  h.trans ⟨State.appletsAgain_keeps State.banks (fun _ _ _ => rfl) t,
    State.appletsAgain_keeps (State.reg · .SY_LOOP_FREEZE 0) (fun u _ v => State.reg_wr_ne (.inl Reg.noConfusion) u v) t⟩

/-- SRSTn that does not return to BOOT makes no image selection (R571). -/
theorem srstRelease (h : s.KeepsBanks t) (f : BootFlash) (hb : t.boot.before ≠ .boot ∨ t.devState ≠ .boot) :
    s.KeepsBanks (t.srstRelease f) := by
  unfold State.srstRelease
  refine ite h ?_
  extract_lets u v
  have hu : s.KeepsBanks u :=
    wr (wr (h.modBoot _) F.SY_RST_CAUSE_SRST_CNT (by decide) 0 _) F.SY_RST_CAUSE_LAST (by decide) 0 1
  have hv : s.KeepsBanks v := (hu.setCore 0 _).appletsAgain
  have hstate : v.devState = t.devState :=
    (State.appletsAgain_keeps State.devState (fun u _ => State.devState_wr_ne Reg.noConfusion u 0) _).trans <|
      (State.devState_wr_ne (f := F.SY_RST_CAUSE_LAST) (by decide) _ 0 1).trans <|
        State.devState_wr_ne (f := F.SY_RST_CAUSE_SRST_CNT) (by decide) _ 0 _
  have hbefore : v.boot.before = t.boot.before := State.appletsAgain_keeps (·.boot.before) (fun _ _ _ => rfl) _
  rw [hstate, hbefore]
  split
  next => exact hv.endBoot _
  next hs =>
    rw [if_pos (bne_iff_ne.2 (hb.resolve_right fun hn => hs (bne_iff_ne.2 hn)))]
    exact hv.endBoot _

end State.KeepsBanks

theorem State.manifest_congr {s t : State} (h : t.banks = s.banks) (b p : Nat) : t.manifest b p = s.manifest b p := by
  simp only [State.manifest, h]

/-- Settles O43: PORSTn leaves the tables of entries and of registers empty; SRSTn and its release keep them, step by step. -/
theorem resetsOnBanksAndFreezes : Obligations.ResetsOnBanksAndFreezes := by
  refine ⟨by decide, by decide, by decide, by decide, fun _ _ s => ⟨_, rfl, fun _ _ => rfl, rfl⟩, fun burst s => ⟨_, rfl, ?_⟩,
    fun f s hb => ⟨_, rfl, ?_⟩⟩
  · have h := (State.KeepsBanks.refl s).srstAssert burst
    exact ⟨State.manifest_congr h.banks, h.freeze⟩
  · have h := (State.KeepsBanks.refl s).srstRelease f hb
    exact ⟨State.manifest_congr h.banks, h.freeze⟩

end Sys2Proof.Machine
end

section
/-! Client lanes: what the shared updates of a lane do and leave alone, first its registers, then what it holds beside them. -/

namespace Sys2Proof.Machine

/-! ### Fields of a lane's registers -/

/-- A value that fits a field reads back as written. -/
theorem State.rd_wr_fits {f : Field} {v : Nat} (h : f.good = true) (hv : v < 2 ^ f.width) (s : State) (i : Nat) :
    (s.wr f i v).rd f i = v := by
  rw [State.rd_wr h, Nat.mod_eq_of_lt hv]

@[simp] theorem State.rd_modLane (s : State) (l : Nat) (g : Lane → Lane) (f : Field) (i : Nat) : (s.modLane l g).rd f i = s.rd f i := rfl

@[simp] theorem State.rd_later (s : State) (k : Keyed) (f : Field) (i : Nat) : (s.later k).rd f i = s.rd f i := rfl

@[simp] theorem State.rd_stopInjection (s : State) (l : Nat) (f : Field) (i : Nat) : (s.stopInjection l).rd f i = s.rd f i := rfl

@[simp] theorem State.rd_loopSignalLost (s : State) (l : Nat) (f : Field) (i : Nat) : (s.loopSignalLost l).rd f i = s.rd f i := by
  unfold State.loopSignalLost
  split <;> rfl

/-- Beside the state of the lane, entering it writes no field. -/
theorem State.rd_enterLane {f : Field} (h : F.LN_STAT_STATE.apart f = true) (s : State) (l : Nat) (st : LaneState) (i : Nat) :
    (s.enterLane l st).rd f i = s.rd f i := by
  have hw : (s.wr F.LN_STAT_STATE l st.code).rd f i = s.rd f i := State.rd_wr_apart h s l st.code i
  unfold State.enterLane
  dsimp only
  split
  · exact hw
  · split <;> exact hw

theorem State.rd_startAttempt {f : Field} (h : F.LN_STAT_STATE.apart f = true) (s : State) (l i : Nat) :
    (s.startAttempt l).rd f i = s.rd f i := State.rd_enterLane h s l .train i

theorem State.rd_enterPreset {f : Field} (h : F.LN_STAT_STATE.apart f = true) (s : State) (l i : Nat) :
    (s.enterPreset l).rd f i = s.rd f i := State.rd_enterLane h s l .preset i

theorem State.rd_resumeLoop {f : Field} (h : F.LN_STAT_LOOP_ON.apart f = true) (s : State) (l i : Nat) :
    (s.resumeLoop l).rd f i = s.rd f i := by
  unfold State.resumeLoop
  split
  · exact State.rd_wr_apart h s l 1 i
  · rfl

/-- Clearing the training of a lane writes LN_TRAIN_STAT only. -/
theorem State.rd_clearTraining {f : Field} (h : f.reg ≠ .LN_TRAIN_STAT) (s : State) (l i : Nat) :
    (s.clearTraining l).rd f i = s.rd f i := by
  have hr : Reg.LN_TRAIN_STAT ≠ f.reg ∨ l ≠ i := .inl h.symm
  rw [State.clearTraining, State.rd_modLane, State.rd_wr_reg hr, State.rd_wr_reg hr, State.rd_wr_reg hr, State.rd_wr_reg hr]

/-- ATTEMPTS is 0, W is 1 s and no back-off runs once the training of a lane is cleared (R136). -/
theorem State.clearTraining_clears (s : State) (l : Nat) :
    (s.clearTraining l).rd F.LN_TRAIN_STAT_ATTEMPTS l = 0 ∧ (s.clearTraining l).rd F.LN_TRAIN_STAT_W_S l = 1 ∧
      (s.clearTraining l).on F.LN_TRAIN_STAT_BACKOFF l = false := by
  simp (disch := decide) only [State.clearTraining, State.on, State.rd_modLane, State.rd_wr_apart, State.rd_wr_fits]
  decide

/-! ### The state of a lane -/

theorem LaneState.ofCode_code (st : LaneState) : LaneState.ofCode st.code = st := by cases st <;> rfl

theorem LaneState.code_lt (st : LaneState) : st.code < 2 ^ F.LN_STAT_STATE.width := by cases st <;> decide

theorem State.laneState_congr {s t : State} {l : Nat} (h : t.rd F.LN_STAT_STATE l = s.rd F.LN_STAT_STATE l) :
    t.laneState l = s.laneState l := congrArg LaneState.ofCode h

@[simp] theorem State.laneState_enterLane (s : State) (l : Nat) (st : LaneState) : (s.enterLane l st).laneState l = st := by
  have hw : (s.wr F.LN_STAT_STATE l st.code).laneState l = st := by
    rw [State.laneState, State.rd_wr_fits rfl st.code_lt, LaneState.ofCode_code]
  unfold State.enterLane
  dsimp only
  split
  · exact hw
  · split <;> exact hw

@[simp] theorem State.laneState_startAttempt (s : State) (l : Nat) : (s.startAttempt l).laneState l = .train :=
  s.laneState_enterLane l .train

@[simp] theorem State.laneState_enterPreset (s : State) (l : Nat) : (s.enterPreset l).laneState l = .preset :=
  s.laneState_enterLane l .preset

@[simp] theorem State.laneState_modLane (s : State) (l : Nat) (f : Lane → Lane) (k : Nat) :
    (s.modLane l f).laneState k = s.laneState k := rfl

@[simp] theorem State.laneState_later (s : State) (x : Keyed) (k : Nat) : (s.later x).laneState k = s.laneState k := rfl

theorem State.laneState_wr {f : Field} (h : f.apart F.LN_STAT_STATE = true) (s : State) (i v k : Nat) :
    (s.wr f i v).laneState k = s.laneState k := State.laneState_congr (State.rd_wr_apart h s i v k)

/-- A raised event of another register leaves LN_STAT alone. -/
theorem State.laneState_raise {f : Field} (h : Reg.LN_STAT ≠ f.reg) (s : State) (i k : Nat) :
    (s.raise f i).laneState k = s.laneState k :=
  State.laneState_congr (s.raise_rd f i h (by decide) (by decide) k)

@[simp] theorem State.laneState_resumeLoop (s : State) (l k : Nat) : (s.resumeLoop l).laneState k = s.laneState k :=
  State.laneState_congr (State.rd_resumeLoop (by decide) s l k)

@[simp] theorem State.laneState_clearTraining (s : State) (l k : Nat) : (s.clearTraining l).laneState k = s.laneState k :=
  State.laneState_congr (State.rd_clearTraining (by decide) s l k)

/-! ### What a lane holds beside its registers -/

@[simp] theorem State.atBoundary_modLane (s : State) (l : Nat) (f : Lane → Lane) : (s.modLane l f).atBoundary = s.atBoundary := rfl


@[simp] theorem State.lane_modLane_same (s : State) (l : Nat) (f : Lane → Lane) : (s.modLane l f).lane l = f (s.lane l) := by
  rw [State.modLane, State.lane_setLane, if_pos rfl]

theorem State.lane_modLane_ne {l k : Nat} (h : k ≠ l) (s : State) (f : Lane → Lane) : (s.modLane l f).lane k = s.lane k := by
  rw [State.modLane, State.lane_setLane, if_neg h.symm]

theorem State.lane_congr {s t : State} (h : t.lanes = s.lanes) (k : Nat) : t.lane k = s.lane k := by
  simp only [State.lane, h]

@[simp] theorem State.lane_wr (s : State) (f : Field) (i v k : Nat) : (s.wr f i v).lane k = s.lane k := rfl

@[simp] theorem State.lane_raise (s : State) (f : Field) (i k : Nat) : (s.raise f i).lane k = s.lane k :=
  State.lane_congr (State.raise_lanes ..) k

@[simp] theorem State.lane_later (s : State) (x : Keyed) (k : Nat) : (s.later x).lane k = s.lane k := rfl

/-- An attempt starts its time (R134). -/
@[simp] theorem State.attemptAt_startAttempt (s : State) (l : Nat) : ((s.startAttempt l).lane l).attemptAt = s.now := by
  rw [State.startAttempt, State.lane_modLane_same]

/-! ### The frame of a lane's own updates -/

/-- Beside what the lane holds and its copies of the registers listed, no lane, no register and no memory differs. -/
structure State.OnlyLane (s t : State) (l : Nat) (rs : List Reg) : Prop where
  lanes : ∀ k, k ≠ l → t.lane k = s.lane k
  regs : s.OnlyAt t l rs
  memory : s.SameMemory t

namespace State.OnlyLane

variable {s t : State} {l : Nat} {rs : List Reg}

theorem refl (s : State) (l : Nat) (rs : List Reg) : s.OnlyLane s l rs := ⟨fun _ _ => rfl, fun _ _ _ _ _ => rfl, s.sameMemory_refl⟩

theorem wr (h : s.OnlyLane t l rs) (f : Field) (hf : f.reg ∈ rs) (v : Nat) : s.OnlyLane (t.wr f l v) l rs :=
  ⟨h.lanes, h.regs.trans (t.onlyAt_wr hf l v), h.memory⟩

theorem raise (h : s.OnlyLane t l rs) (f : Field) (hf : f.reg ∈ rs) : s.OnlyLane (t.raise f l) l rs :=
  ⟨fun k hk => (t.lane_raise f l k).trans (h.lanes k hk), h.regs.trans (t.onlyAt_raise hf l),
    h.memory.trans (t.raise_sameMemory f l)⟩

theorem modLane (h : s.OnlyLane t l rs) (f : Lane → Lane) : s.OnlyLane (t.modLane l f) l rs :=
  ⟨fun k hk => (State.lane_modLane_ne hk t f).trans (h.lanes k hk), h.regs, h.memory⟩

theorem later (h : s.OnlyLane t l rs) (x : Keyed) : s.OnlyLane (t.later x) l rs := ⟨h.lanes, h.regs, h.memory⟩

theorem ite {u : State} {c : Prop} [Decidable c] (h : s.OnlyLane t l rs) (k : s.OnlyLane u l rs) :
    s.OnlyLane (if c then t else u) l rs := by
  split
  · exact h
  · exact k

theorem stopInjection (h : s.OnlyLane t l rs) : s.OnlyLane (t.stopInjection l) l rs := h.modLane _

theorem loopSignalLost (h : s.OnlyLane t l rs) : s.OnlyLane (t.loopSignalLost l) l rs := ite (h.later _) h

theorem enterLane (h : s.OnlyLane t l rs) (hr : Reg.LN_STAT ∈ rs) (st : LaneState) : s.OnlyLane (t.enterLane l st) l rs :=
  have hs := (h.wr F.LN_STAT_STATE hr st.code).modLane _
  ite (hs.modLane _) (ite hs.stopInjection hs)

theorem startAttempt (h : s.OnlyLane t l rs) (hr : Reg.LN_STAT ∈ rs) : s.OnlyLane (t.startAttempt l) l rs :=
  (h.enterLane hr .train).modLane _

theorem enterPreset (h : s.OnlyLane t l rs) (hr : Reg.LN_STAT ∈ rs) : s.OnlyLane (t.enterPreset l) l rs :=
  (h.enterLane hr .preset).modLane _

theorem resumeLoop (h : s.OnlyLane t l rs) (hr : Reg.LN_STAT ∈ rs) : s.OnlyLane (t.resumeLoop l) l rs :=
  ite ((h.wr F.LN_STAT_LOOP_ON hr 1).modLane _) h

theorem clearTraining (h : s.OnlyLane t l rs) (hr : Reg.LN_TRAIN_STAT ∈ rs) : s.OnlyLane (t.clearTraining l) l rs := by
  unfold State.clearTraining
  exact ((((h.wr F.LN_TRAIN_STAT_ATTEMPTS hr 0).wr F.LN_TRAIN_STAT_W_S hr 1).wr F.LN_TRAIN_STAT_BACKOFF hr 0).wr
    F.LN_TRAIN_STAT_PARTNER hr 0).modLane _

end State.OnlyLane

end Sys2Proof.Machine
end

section
/-! Signals of a client lane: loss of signal, its return, acquisition, its time-out and the loss of CDR lock (O7). -/

namespace Sys2Proof.Machine

/-- An attempt that a loss of signal ends shows LOS in LAST (R134). -/
def State.endAttempt (s : State) (l : Nat) : State := if s.laneState l == .train then s.wr F.LN_TRAIN_STAT_LAST l 3 else s

theorem State.rd_endAttempt {f : Field} (h : F.LN_TRAIN_STAT_LAST.apart f = true) (s : State) (l i : Nat) :
    (s.endAttempt l).rd f i = s.rd f i := by
  unfold State.endAttempt
  split
  · exact State.rd_wr_apart h s l 3 i
  · rfl

theorem State.OnlyLane.endAttempt {s t : State} {l : Nat} {rs : List Reg} (h : s.OnlyLane t l rs) (hr : Reg.LN_TRAIN_STAT ∈ rs) :
    s.OnlyLane (t.endAttempt l) l rs := ite (h.wr F.LN_TRAIN_STAT_LAST hr 3) h

section

variable {s : State} {l ticks : Nat}

/-! ### Loss of signal (R126) -/

theorem State.laneLos_declared (ht : 32 ≤ ticks) (ho : s.laneState l ≠ .off) (hl : s.laneState l ≠ .los)
    (hi : s.ignoresLos l = false) :
    s.laneLos l ticks =
      (((((((s.wr F.LN_STAT_SIGNAL l 0).endAttempt l).loopSignalLost l).enterLane l .los).wr F.LN_STAT_CDR_LOCK l 0).stopInjection
        l).modLane l fun x => { x with fresh := false, toPreset := false }).raise F.LN_STICKY_LOS l := by
  have hs : (s.wr F.LN_STAT_SIGNAL l 0).laneState l = s.laneState l := State.laneState_wr (by decide) s l 0 l
  have hi' : (s.wr F.LN_STAT_SIGNAL l 0).ignoresLos l = false := hi
  unfold State.laneLos
  dsimp only
  rw [if_neg (c := (ticks == 0 || s.laneState l == .off) = true) (by simp [ho]; omega), if_neg (by simp [hs, ho, hi']; omega),
    if_neg (by simp [hs, hl])]
  rfl

theorem State.laneLos_declares (ht : 32 ≤ ticks) (ho : s.laneState l ≠ .off) (hl : s.laneState l ≠ .los)
    (hi : s.ignoresLos l = false) :
    (s.laneLos l ticks).laneState l = .los ∧ (s.laneLos l ticks).on F.LN_STAT_SIGNAL l = false ∧
      (s.laneLos l ticks).on F.LN_STAT_CDR_LOCK l = false ∧ (s.laneLos l ticks).on F.LN_STICKY_LOS l = true ∧
      s.OnlyLane (s.laneLos l ticks) l [.LN_STAT, .LN_TRAIN_STAT, .LN_STICKY] := by
  rw [State.laneLos_declared ht ho hl hi]
  refine ⟨?_, ?_, ?_, State.on_raise rfl rfl (by decide) (by decide) .., ?_⟩
  · simp (disch := decide) [State.laneState_raise, State.laneState_wr, State.stopInjection]
  · simp (disch := decide) [State.on, State.raise_rd, State.rd_wr_apart, State.rd_wr_fits, State.rd_enterLane, State.rd_endAttempt]
  · simp (disch := decide) [State.on, State.raise_rd, State.rd_wr_fits]
  · have dark := (((State.OnlyLane.refl s l [.LN_STAT, .LN_TRAIN_STAT, .LN_STICKY]).wr F.LN_STAT_SIGNAL (by decide) 0).endAttempt
      (by decide)).loopSignalLost
    exact ((((dark.enterLane (by decide) _).wr _ (by decide) 0).stopInjection).modLane _).raise _ (by decide)

/-! ### Return of the signal (R126, R136) -/

/-- Where a lane goes from LOS: to TRAIN if it trains and no loopback is enabled, otherwise to ACQUIRE (R126). -/
def State.leaveLos (s : State) (l : Nat) : State :=
  if s.laneTrains l && s.cfg F.LN_LOOP_MODE l == 0 then s.startAttempt l
  else (s.enterLane l .acquire).modLane l fun x => { x with toPreset := false }

theorem State.laneState_leaveLos (s : State) (l : Nat) : (s.leaveLos l).laneState l =
    if s.laneTrains l && s.cfg F.LN_LOOP_MODE l == 0 then .train else .acquire := by
  unfold State.leaveLos
  split <;> simp

theorem State.rd_leaveLos {f : Field} (h : F.LN_STAT_STATE.apart f = true) (s : State) (l i : Nat) :
    (s.leaveLos l).rd f i = s.rd f i := by
  unfold State.leaveLos
  split
  · exact State.rd_startAttempt h s l i
  · exact State.rd_enterLane h s l .acquire i

theorem State.OnlyLane.leaveLos {s t : State} {l : Nat} {rs : List Reg} (h : s.OnlyLane t l rs) (hr : Reg.LN_STAT ∈ rs) :
    s.OnlyLane (t.leaveLos l) l rs := ite (h.startAttempt hr) ((h.enterLane hr .acquire).modLane _)

theorem State.laneSigOk_returned (ht : 3125 ≤ ticks) (hl : s.laneState l = .los) :
    s.laneSigOk l ticks = (((((s.wr F.LN_STAT_SIGNAL l 1).modLane l fun x => { x with fresh := false }).clearTraining l).leaveLos
      l).raise F.LN_STICKY_SIG_OK l) := by
  have hs : (s.wr F.LN_STAT_SIGNAL l 1).laneState l = .los := (State.laneState_wr (by decide) s l 1 l).trans hl
  unfold State.laneSigOk
  dsimp only
  rw [if_neg (c := (ticks == 0 || s.laneState l == .off) = true) (by simp [hl]; omega), if_neg (by simp [hs]; omega)]
  rfl

theorem State.laneSigOk_leaves (ht : 3125 ≤ ticks) (hl : s.laneState l = .los) :
    (s.laneSigOk l ticks).laneState l = (if s.laneTrains l && s.cfg F.LN_LOOP_MODE l == 0 then .train else .acquire) ∧
      (s.laneSigOk l ticks).on F.LN_STAT_SIGNAL l = true ∧ (s.laneSigOk l ticks).rd F.LN_TRAIN_STAT_ATTEMPTS l = 0 ∧
      (s.laneSigOk l ticks).on F.LN_STICKY_SIG_OK l = true ∧
      s.OnlyLane (s.laneSigOk l ticks) l [.LN_STAT, .LN_TRAIN_STAT, .LN_STICKY] := by
  rw [State.laneSigOk_returned ht hl]
  refine ⟨?_, ?_, ?_, State.on_raise rfl rfl (by decide) (by decide) .., ?_⟩
  · generalize hu : ((s.wr F.LN_STAT_SIGNAL l 1).modLane l fun x => { x with fresh := false }).clearTraining l = u
    have trains : u.laneTrains l = s.laneTrains l := by
      subst hu
      simp (disch := decide) [State.laneTrains, State.on, State.rd_clearTraining, State.rd_wr_apart]
    have mode : u.cfg F.LN_LOOP_MODE l = s.cfg F.LN_LOOP_MODE l := by
      subst hu
      rfl
    rw [State.laneState_raise (by decide), State.laneState_leaveLos, trains, mode]
  · simp (disch := decide) [State.on, State.raise_rd, State.rd_leaveLos, State.rd_clearTraining, State.rd_wr_fits]
  · simp (disch := decide) [State.raise_rd, State.rd_leaveLos, State.clearTraining_clears]
  · have lit := (State.OnlyLane.refl s l [.LN_STAT, .LN_TRAIN_STAT, .LN_STICKY]).wr F.LN_STAT_SIGNAL (by decide) 1
    exact (((lit.modLane _).clearTraining (by decide)).leaveLos (by decide)).raise _ (by decide)

/-! ### Acquisition and its time-out (R126, R127) -/

/-- Where ACQUIRE ends: in PRESET if the lane is to return there, otherwise in DATA (R126, R145). -/
def State.endAcquire (s : State) (l : Nat) : State :=
  if (s.lane l).toPreset && s.laneTrains l && !s.ignoresLos l then s.enterPreset l else s.enterLane l .data

theorem State.laneState_endAcquire (s : State) (l : Nat) : (s.endAcquire l).laneState l =
    if (s.lane l).toPreset && s.laneTrains l && !s.ignoresLos l then .preset else .data := by
  unfold State.endAcquire
  split <;> simp

theorem State.rd_endAcquire {f : Field} (h : F.LN_STAT_STATE.apart f = true) (s : State) (l i : Nat) :
    (s.endAcquire l).rd f i = s.rd f i := by
  unfold State.endAcquire
  split
  · exact State.rd_enterPreset h s l i
  · exact State.rd_enterLane h s l .data i

theorem State.OnlyLane.endAcquire {s t : State} {l : Nat} {rs : List Reg} (h : s.OnlyLane t l rs) (hr : Reg.LN_STAT ∈ rs) :
    s.OnlyLane (t.endAcquire l) l rs := ite (h.enterPreset hr) (h.enterLane hr .data)

theorem State.laneAcquired_locked (ht : 64 ≤ ticks) (hl : s.laneState l = .acquire) :
    s.laneAcquired l ticks =
      (((s.wr F.LN_STAT_CDR_LOCK l 1).endAcquire l).modLane l fun x => { x with toPreset := false }).resumeLoop l := by
  unfold State.laneAcquired
  rw [if_neg (by simp [hl]; omega)]
  rfl

theorem State.laneAcquired_ends (ht : 64 ≤ ticks) (hl : s.laneState l = .acquire) :
    (s.laneAcquired l ticks).laneState l =
        (if (s.lane l).toPreset && s.laneTrains l && !s.ignoresLos l then .preset else .data) ∧
      (s.laneAcquired l ticks).on F.LN_STAT_CDR_LOCK l = true ∧ s.OnlyLane (s.laneAcquired l ticks) l [.LN_STAT] := by
  rw [State.laneAcquired_locked ht hl]
  have trains : (s.wr F.LN_STAT_CDR_LOCK l 1).laneTrains l = s.laneTrains l := by
    simp (disch := decide) [State.laneTrains, State.on, State.rd_wr_apart]
  have ignores : (s.wr F.LN_STAT_CDR_LOCK l 1).ignoresLos l = s.ignoresLos l := rfl
  refine ⟨?_, ?_, ?_⟩
  · rw [State.laneState_resumeLoop, State.laneState_modLane, State.laneState_endAcquire, State.lane_wr, trains, ignores]
  · simp (disch := decide) [State.on, State.rd_resumeLoop, State.rd_endAcquire, State.rd_wr_fits]
  · exact ((((State.OnlyLane.refl s l _).wr _ (by decide) 1).endAcquire (by decide)).modLane _).resumeLoop (by decide)

theorem State.laneAcquireTimeout_restarts (hl : s.laneState l = .acquire) (he : s.elapsed (s.lane l).since 31250 = true) :
    (s.laneAcquireTimeout l).laneState l = .acquire ∧ ((s.laneAcquireTimeout l).lane l).rx = {} ∧
      ((s.laneAcquireTimeout l).lane l).since = s.now ∧ (s.laneAcquireTimeout l).on F.LN_STICKY_LOL l = true ∧
      s.OnlyLane (s.laneAcquireTimeout l) l [.LN_STICKY] := by
  rw [State.laneAcquireTimeout, if_neg (by simp [hl, he])]
  refine ⟨?_, by simp, by simp, State.on_raise rfl rfl (by decide) (by decide) s l, ?_⟩
  · rw [State.laneState_modLane, State.laneState_raise (by decide), hl]
  · exact ((State.OnlyLane.refl s l _).raise _ (by decide)).modLane _

/-! ### Loss of CDR lock (R127) -/

theorem State.laneCdrLoss_lost (hr : s.laneReceives l = true) (hl : (s.lane l).loop ≠ 3) :
    s.laneCdrLoss l = (((((s.loopSignalLost l).enterLane l .acquire).wr F.LN_STAT_CDR_LOCK l 0).stopInjection l).modLane l
      fun x => { x with toPreset := s.laneState l == .preset }).raise F.LN_STICKY_LOL l := by
  rw [State.laneCdrLoss, if_neg (by simp [hl]), if_pos hr]

theorem State.laneCdrLoss_acquires (hr : s.laneReceives l = true) (hl : (s.lane l).loop ≠ 3) :
    (s.laneCdrLoss l).laneState l = .acquire ∧ (s.laneCdrLoss l).on F.LN_STAT_CDR_LOCK l = false ∧
      (s.laneCdrLoss l).on F.LN_STICKY_LOL l = true ∧ s.OnlyLane (s.laneCdrLoss l) l [.LN_STAT, .LN_STICKY] := by
  rw [State.laneCdrLoss_lost hr hl]
  refine ⟨?_, ?_, State.on_raise rfl rfl (by decide) (by decide) .., ?_⟩
  · simp (disch := decide) [State.laneState_raise, State.laneState_wr, State.stopInjection]
  · simp (disch := decide) [State.on, State.raise_rd, State.rd_wr_fits]
  · exact ((((((State.OnlyLane.refl s l _).loopSignalLost).enterLane (by decide) _).wr _ (by decide) 0).stopInjection).modLane
      _).raise _ (by decide)

end

/-- Settles O7: each event by the lemma about what it does in the state named. -/
theorem signalEventsMoveTheLane : Obligations.SignalEventsMoveTheLane := by
  refine fun l ticks s => ⟨fun ht ho hl hi => ?_, fun ht hl => ?_, fun ht hl => ?_, fun hl he => ?_, fun hr hl => ?_⟩
  · obtain ⟨state, signal, lock, los, frame⟩ := State.laneLos_declares ht ho hl hi
    exact ⟨_, rfl, state, signal, lock, los, frame.lanes, frame.regs, frame.memory⟩
  · obtain ⟨state, signal, attempts, ok, frame⟩ := State.laneSigOk_leaves ht hl
    exact ⟨_, rfl, state, signal, attempts, ok, frame.lanes, frame.regs, frame.memory⟩
  · obtain ⟨state, lock, frame⟩ := State.laneAcquired_ends ht hl
    exact ⟨_, rfl, state, lock, frame.lanes, frame.regs, frame.memory⟩
  · obtain ⟨state, rx, since, lol, frame⟩ := State.laneAcquireTimeout_restarts hl he
    exact ⟨_, rfl, state, rx, since, lol, frame.regs, frame.memory⟩
  · obtain ⟨state, lock, lol, frame⟩ := State.laneCdrLoss_acquires hr hl
    exact ⟨_, rfl, state, lock, lol, frame.lanes, frame.regs, frame.memory⟩

end Sys2Proof.Machine
end

section
/-! Link training: its end, its attempts, the back-off and a transmitter fault (O9). -/

namespace Sys2Proof.Machine

section

variable {s : State} {l : Nat}

/-! ### Training done (R124, R134) -/

/-- A PAM4 lane takes the precoding that the partner's receiver requests (R124). -/
def State.takePrecode (s : State) (l : Nat) (pre : Bool) : State :=
  if s.on F.LN_CFG_ENC l then s.wrBool F.LN_CTRL_TX_PRECODE l pre else s

theorem State.on_takePrecode (s : State) (l : Nat) (pre : Bool) : (s.takePrecode l pre).on F.LN_CTRL_TX_PRECODE l =
    if s.on F.LN_CFG_ENC l then pre else s.on F.LN_CTRL_TX_PRECODE l := by
  unfold State.takePrecode
  split
  · exact State.on_wr rfl rfl s l pre
  · rfl

theorem State.rd_takePrecode {f : Field} (h : F.LN_CTRL_TX_PRECODE.apart f = true) (s : State) (l : Nat) (pre : Bool) (i : Nat) :
    (s.takePrecode l pre).rd f i = s.rd f i := by
  unfold State.takePrecode
  split
  · exact State.rd_wr_apart h s l _ i
  · rfl

theorem State.laneState_takePrecode (s : State) (l : Nat) (pre : Bool) (k : Nat) :
    (s.takePrecode l pre).laneState k = s.laneState k := State.laneState_congr (State.rd_takePrecode (by decide) s l pre k)

@[simp] theorem State.atBoundary_takePrecode (s : State) (l : Nat) (pre : Bool) :
    (s.takePrecode l pre).atBoundary = s.atBoundary := by
  unfold State.takePrecode
  split <;> rfl

theorem State.OnlyLane.takePrecode {s t : State} {l : Nat} {rs : List Reg} (h : s.OnlyLane t l rs) (hr : Reg.LN_CTRL ∈ rs)
    (pre : Bool) : s.OnlyLane (t.takePrecode l pre) l rs := ite (h.wr F.LN_CTRL_TX_PRECODE hr _) h

/-- The status of a completed training: LAST done, no back-off, the partner seen (R134). -/
def State.showTrained (s : State) (l : Nat) : State :=
  ((s.wr F.LN_TRAIN_STAT_LAST l 0).wr F.LN_TRAIN_STAT_BACKOFF l 0).wr F.LN_TRAIN_STAT_PARTNER l 1

theorem State.on_showTrained {f : Field} (h : f.reg ≠ .LN_TRAIN_STAT) (s : State) (l i : Nat) :
    (s.showTrained l).on f i = s.on f i := by
  have hr : Reg.LN_TRAIN_STAT ≠ f.reg ∨ l ≠ i := .inl h.symm
  rw [State.on, State.showTrained, State.rd_wr_reg hr, State.rd_wr_reg hr, State.rd_wr_reg hr, State.on]

theorem State.OnlyLane.showTrained {s t : State} {l : Nat} {rs : List Reg} (h : s.OnlyLane t l rs) (hr : Reg.LN_TRAIN_STAT ∈ rs) :
    s.OnlyLane (t.showTrained l) l rs :=
  ((h.wr F.LN_TRAIN_STAT_LAST hr 0).wr F.LN_TRAIN_STAT_BACKOFF hr 0).wr F.LN_TRAIN_STAT_PARTNER hr 1

theorem State.trainDone_trained (hl : s.laneState l = .train) (a b : Word) (pre : Bool) :
    s.trainDone l a b pre = (((((s.showTrained l).takePrecode l pre).modLane l fun x =>
      { x with tx0 := (trainedTaps (s.on F.LN_CFG_ENC l) a b).1, tx1 := (trainedTaps (s.on F.LN_CFG_ENC l) a b).2,
               trained := some (trainedTaps (s.on F.LN_CFG_ENC l) a b), retry := false }).raise F.LN_STICKY_TRAIN_DONE l).later
      (.laneData l)) := by
  rw [State.trainDone, if_neg (by simp [hl])]
  rfl

theorem State.trainDone_reports (hl : s.laneState l = .train) (a b : Word) (pre : Bool) : let t := s.trainDone l a b pre
    t.atBoundary = s.atBoundary ++ [.laneData l] ∧ t.laneState l = .train ∧ t.rd F.LN_TRAIN_STAT_LAST l = 0 ∧
      t.on F.LN_TRAIN_STAT_PARTNER l = true ∧ t.on F.LN_TRAIN_STAT_BACKOFF l = false ∧
      t.on F.LN_CTRL_TX_PRECODE l = (if s.on F.LN_CFG_ENC l then pre else s.on F.LN_CTRL_TX_PRECODE l) ∧
      (t.lane l).trained = some (trainedTaps (s.on F.LN_CFG_ENC l) a b) ∧ t.on F.LN_STICKY_TRAIN_DONE l = true ∧
      s.OnlyLane t l [.LN_TRAIN_STAT, .LN_CTRL, .LN_STICKY] := by
  dsimp only
  rw [State.trainDone_trained hl]
  refine ⟨?_, ?_, ?_, ?_, ?_, ?_, ?_, State.on_raise rfl rfl (by decide) (by decide) .., ?_⟩
  · simp [State.showTrained]
  · simp (disch := decide) [State.laneState_raise, State.laneState_takePrecode, State.laneState_wr, State.showTrained, hl]
  · simp (disch := decide) [State.raise_rd, State.rd_takePrecode, State.showTrained, State.rd_wr_apart, State.rd_wr_fits]
  · simp (disch := decide) [State.on, State.raise_rd, State.rd_takePrecode, State.showTrained, State.rd_wr_fits]
  · simp (disch := decide) [State.on, State.raise_rd, State.rd_takePrecode, State.showTrained, State.rd_wr_apart, State.rd_wr_fits]
  · rw [State.on, State.rd_later, State.raise_rd _ _ _ (by decide) (by decide) (by decide), State.rd_modLane, ← State.on,
      State.on_takePrecode, State.on_showTrained (by decide), State.on_showTrained (by decide)]
  · simp
  · exact (((((State.OnlyLane.refl s l _).showTrained (by decide)).takePrecode (by decide) pre).modLane _).raise _ (by decide)).later _

/-! ### The end of an attempt (R134, R135) -/

/-- What LAST and PARTNER show of an attempt that has run its time (R134). -/
def State.showAttempt (s : State) (l : Nat) (frames : Bool) : State :=
  let t := s.wr F.LN_TRAIN_STAT_LAST l (if frames then 1 else 2)
  if frames then t.wr F.LN_TRAIN_STAT_PARTNER l 1 else t

theorem State.rd_last_showAttempt (s : State) (l : Nat) (frames : Bool) :
    (s.showAttempt l frames).rd F.LN_TRAIN_STAT_LAST l = if frames then 1 else 2 := by
  cases frames <;> simp (disch := decide) [State.showAttempt, State.rd_wr_apart, State.rd_wr_fits]

theorem State.rd_showAttempt {f : Field} (hl : F.LN_TRAIN_STAT_LAST.apart f = true) (hp : F.LN_TRAIN_STAT_PARTNER.apart f = true)
    (s : State) (l : Nat) (frames : Bool) (i : Nat) : (s.showAttempt l frames).rd f i = s.rd f i := by
  cases frames
  · exact State.rd_wr_apart hl s l 2 i
  · exact (State.rd_wr_apart hp _ l 1 i).trans (State.rd_wr_apart hl s l 1 i)

@[simp] theorem State.now_showAttempt (s : State) (l : Nat) (frames : Bool) : (s.showAttempt l frames).now = s.now := by
  cases frames <;> rfl

theorem State.OnlyLane.showAttempt {s t : State} {l : Nat} {rs : List Reg} (h : s.OnlyLane t l rs) (hr : Reg.LN_TRAIN_STAT ∈ rs)
    (frames : Bool) : s.OnlyLane (t.showAttempt l frames) l rs :=
  ite ((h.wr F.LN_TRAIN_STAT_LAST hr _).wr F.LN_TRAIN_STAT_PARTNER hr 1) (h.wr F.LN_TRAIN_STAT_LAST hr _)

/-- An attempt that has run its time is counted in ATTEMPTS, and noted if frames came (R134, R135). -/
def State.countAttempt (s : State) (l : Nat) (frames : Bool) : State :=
  ((s.showAttempt l frames).wr F.LN_TRAIN_STAT_ATTEMPTS l (s.rd F.LN_TRAIN_STAT_ATTEMPTS l + 1)).modLane l
    fun y => { y with timedOut := (s.lane l).timedOut || frames }

theorem State.OnlyLane.countAttempt {s t : State} {l : Nat} {rs : List Reg} (h : s.OnlyLane t l rs) (hr : Reg.LN_TRAIN_STAT ∈ rs)
    (frames : Bool) : s.OnlyLane (t.countAttempt l frames) l rs :=
  ((h.showAttempt hr frames).wr F.LN_TRAIN_STAT_ATTEMPTS hr _).modLane _

@[simp] theorem State.now_countAttempt (s : State) (l : Nat) (frames : Bool) : (s.countAttempt l frames).now = s.now :=
  s.now_showAttempt l frames

theorem State.attempts_countAttempt (h : s.rd F.LN_TRAIN_STAT_ATTEMPTS l < 8) (frames : Bool) :
    (s.countAttempt l frames).rd F.LN_TRAIN_STAT_ATTEMPTS l = s.rd F.LN_TRAIN_STAT_ATTEMPTS l + 1 := by
  have fits : s.rd F.LN_TRAIN_STAT_ATTEMPTS l + 1 < 2 ^ F.LN_TRAIN_STAT_ATTEMPTS.width :=
    Nat.lt_of_lt_of_le (Nat.succ_lt_succ h) (by decide)
  rw [State.countAttempt, State.rd_modLane, State.rd_wr_fits rfl fits]

theorem State.last_countAttempt (s : State) (l : Nat) (frames : Bool) :
    (s.countAttempt l frames).rd F.LN_TRAIN_STAT_LAST l = if frames then 1 else 2 := by
  rw [State.countAttempt, State.rd_modLane, State.rd_wr_apart (by decide), State.rd_last_showAttempt]

/-- All attempts were silent: back-off begins with W at 1 s (R135). -/
def State.startBackoff (s : State) (l : Nat) : State :=
  ((s.wr F.LN_TRAIN_STAT_BACKOFF l 1).wr F.LN_TRAIN_STAT_W_S l 1).modLane l fun y => { y with waitFrom := s.now }

theorem State.startBackoff_waits (s : State) (l : Nat) :
    (s.startBackoff l).on F.LN_TRAIN_STAT_BACKOFF l = true ∧ (s.startBackoff l).rd F.LN_TRAIN_STAT_W_S l = 1 := by
  simp (disch := decide) [State.startBackoff, State.on, State.rd_wr_apart, State.rd_wr_fits]

theorem State.rd_startBackoff {f : Field} (h : f.reg ≠ .LN_TRAIN_STAT) (s : State) (l i : Nat) :
    (s.startBackoff l).rd f i = s.rd f i := by
  have hr : Reg.LN_TRAIN_STAT ≠ f.reg ∨ l ≠ i := .inl h.symm
  rw [State.startBackoff, State.rd_modLane, State.rd_wr_reg hr, State.rd_wr_reg hr]

theorem State.OnlyLane.startBackoff {s t : State} {l : Nat} {rs : List Reg} (h : s.OnlyLane t l rs) (hr : Reg.LN_TRAIN_STAT ∈ rs) :
    s.OnlyLane (t.startBackoff l) l rs := ((h.wr F.LN_TRAIN_STAT_BACKOFF hr 1).wr F.LN_TRAIN_STAT_W_S hr 1).modLane _

/-- Training has failed: TRAIN_FAIL and PRESET, with back-off if all attempts were silent (R134, R135). -/
def State.failTraining (s : State) (l : Nat) (timedOut : Bool) : State :=
  let t := (s.raise F.LN_STICKY_TRAIN_FAIL l).enterPreset l
  if timedOut then t else t.startBackoff l

/-- What the end of a counted attempt does: the next one, or the end of training. -/
theorem State.trainAttemptEnd_counts (hl : s.laneState l = .train) (he : s.elapsed (s.lane l).attemptAt 156250 = true)
    (hr : (s.lane l).retry = false) (frames : Bool) :
    s.trainAttemptEnd l frames =
      if s.rd F.LN_TRAIN_STAT_ATTEMPTS l + 1 < 8 then (s.countAttempt l frames).startAttempt l
      else (s.countAttempt l frames).failTraining l ((s.lane l).timedOut || frames) := by
  have hn : (s.showAttempt l frames).rd F.LN_TRAIN_STAT_ATTEMPTS l = s.rd F.LN_TRAIN_STAT_ATTEMPTS l :=
    State.rd_showAttempt (by decide) (by decide) s l frames l
  rw [State.countAttempt, ← hn]
  unfold State.trainAttemptEnd
  dsimp only
  rw [if_neg (by simp [hl, he]), if_neg (by simp [hr])]
  rfl

/-- An attempt before the eighth is followed by another (R134). -/
theorem State.trainAttemptEnd_next (hl : s.laneState l = .train) (he : s.elapsed (s.lane l).attemptAt 156250 = true)
    (hr : (s.lane l).retry = false) (hn : s.rd F.LN_TRAIN_STAT_ATTEMPTS l < 7) (frames : Bool) : let t := s.trainAttemptEnd l frames
    t.rd F.LN_TRAIN_STAT_ATTEMPTS l = s.rd F.LN_TRAIN_STAT_ATTEMPTS l + 1 ∧ t.laneState l = .train ∧
      t.rd F.LN_TRAIN_STAT_LAST l = (if frames then 1 else 2) ∧ (t.lane l).attemptAt = s.now ∧
      s.OnlyLane t l [.LN_STAT, .LN_TRAIN_STAT] := by
  dsimp only
  rw [State.trainAttemptEnd_counts hl he hr, if_pos (by omega)]
  refine ⟨?_, State.laneState_startAttempt .., ?_, ?_, ?_⟩
  · rw [State.rd_startAttempt (by decide), State.attempts_countAttempt (by omega)]
  · rw [State.rd_startAttempt (by decide), State.last_countAttempt]
  · rw [State.attemptAt_startAttempt, State.now_countAttempt]
  · exact ((State.OnlyLane.refl s l _).countAttempt (by decide) frames).startAttempt (by decide)

theorem State.failTraining_fails (s : State) (l : Nat) (timedOut : Bool) : let t := s.failTraining l timedOut
    t.laneState l = .preset ∧ t.on F.LN_STICKY_TRAIN_FAIL l = true ∧
      (timedOut = false → t.on F.LN_TRAIN_STAT_BACKOFF l = true ∧ t.rd F.LN_TRAIN_STAT_W_S l = 1) := by
  have failed : (s.raise F.LN_STICKY_TRAIN_FAIL l).on F.LN_STICKY_TRAIN_FAIL l = true :=
    State.on_raise rfl rfl (by decide) (by decide) s l
  have fail : ((s.raise F.LN_STICKY_TRAIN_FAIL l).enterPreset l).on F.LN_STICKY_TRAIN_FAIL l = true := by
    rw [State.on, State.rd_enterPreset (by decide)]
    exact failed
  cases timedOut
  · refine ⟨?_, ?_, fun _ => State.startBackoff_waits _ l⟩
    · exact (State.laneState_congr (State.rd_startBackoff (by decide) _ l l)).trans (State.laneState_enterPreset _ l)
    · exact (congrArg (· == 1) (State.rd_startBackoff (by decide) _ l l)).trans fail
  · exact ⟨State.laneState_enterPreset _ l, fail, fun h => absurd h (by decide)⟩

theorem State.OnlyLane.failTraining {s t : State} {l : Nat} {rs : List Reg} (h : s.OnlyLane t l rs)
    (hr : [Reg.LN_STAT, .LN_TRAIN_STAT, .LN_STICKY] ⊆ rs) (timedOut : Bool) : s.OnlyLane (t.failTraining l timedOut) l rs :=
  have hp := (h.raise F.LN_STICKY_TRAIN_FAIL (hr (by decide))).enterPreset (hr (by decide))
  ite hp (hp.startBackoff (hr (by decide)))

/-! ### Retry and transmitter fault (R135, R146) -/

theorem State.backoffRetry_starts (h : s.retryDue l = true) :
    (s.backoffRetry l).laneState l = .train ∧ ((s.backoffRetry l).lane l).retry = true ∧
      ((s.backoffRetry l).lane l).attemptAt = s.now ∧ s.OnlyLane (s.backoffRetry l) l [.LN_STAT] := by
  rw [State.backoffRetry, if_pos h]
  refine ⟨by simp, by simp, by simp, ?_⟩
  exact ((State.OnlyLane.refl s l _).startAttempt (by decide)).modLane _

theorem State.txFault_holds (h : s.laneState l ≠ .off) :
    ((s.txFault l).lane l).faultHold = true ∧ (s.txFault l).on F.LN_STICKY_TX_FAULT l = true ∧
      (s.txFault l).laneState l = s.laneState l ∧ s.OnlyLane (s.txFault l) l [.LN_STICKY] := by
  rw [State.txFault, if_neg (by simp [h])]
  refine ⟨by simp, State.on_raise rfl rfl (by decide) (by decide) .., ?_, ?_⟩
  · rw [State.laneState_raise (by decide), State.laneState_modLane]
  · exact ((State.OnlyLane.refl s l _).modLane _).raise _ (by decide)

end

/-- Settles O9: each event by the lemma about what it does in the state named. -/
theorem trainingRunsItsAttempts : Obligations.TrainingRunsItsAttempts := by
  refine fun l s => ⟨fun a b pre hl => ?_, fun frames hl he hr hn => ?_, fun frames hl he hr hn => ?_, fun h => ?_, fun h => ?_⟩
  · obtain ⟨due, state, last, partner, backoff, precode, taps, done, frame⟩ := State.trainDone_reports hl a b pre
    exact ⟨_, rfl, due, state, last, partner, backoff, precode, taps, done, frame.regs, frame.memory⟩
  · obtain ⟨count, state, last, start, frame⟩ := State.trainAttemptEnd_next hl he hr hn frames
    exact ⟨_, rfl, count, state, last, start, frame.regs, frame.memory⟩
  · have hx : s.trainAttemptEnd l frames = (s.countAttempt l frames).failTraining l ((s.lane l).timedOut || frames) := by
      rw [State.trainAttemptEnd_counts hl he hr, if_neg (by omega)]
    obtain ⟨state, fail, backoff⟩ := (s.countAttempt l frames).failTraining_fails l ((s.lane l).timedOut || frames)
    have frame := ((State.OnlyLane.refl s l [.LN_STAT, .LN_TRAIN_STAT, .LN_STICKY]).countAttempt (by decide) frames).failTraining
      (fun _ h => h) ((s.lane l).timedOut || frames)
    exact ⟨_, congrArg Host.Outcome.next hx, state, fail, backoff, frame.regs, frame.memory⟩
  · obtain ⟨state, retry, start, frame⟩ := State.backoffRetry_starts h
    exact ⟨_, rfl, state, retry, start, frame.regs, frame.memory⟩
  · obtain ⟨hold, fault, state, frame⟩ := State.txFault_holds h
    exact ⟨_, rfl, hold, fault, state, frame.regs, frame.memory⟩

end Sys2Proof.Machine
end

section
/-! Lane controls of a master outside a mate pair, and the pattern checker (O10). -/

namespace Sys2Proof.Machine

/-! ### What each control does at the lane that the master selects -/

section

variable {s : State} (m : Initiator)

theorem State.exec_trainingRestart_alone (h : s.Alone) :
    exec (.trainingRestart m) s = .next ((s.restartTraining (s.laneSel m)).reply m (.ok 0)) :=
  congrArg Host.Outcome.next (State.write_alone h ..)

theorem State.exec_backoffDisWrite_alone (h : s.Alone) (on : Bool) :
    exec (.backoffDisWrite m on) s = .next ((s.setBackoffDis (s.laneSel m) on).reply m (.ok 0)) :=
  congrArg Host.Outcome.next (State.write_alone h ..)

theorem State.exec_loopbackSet_alone (h : s.Alone) (mode : Fin 4) (sq : Bool) :
    exec (.loopbackSet m mode sq) s = .next ((s.setLoop (s.laneSel m) mode.val sq).reply m (.ok 0)) :=
  congrArg Host.Outcome.next (State.write_alone h ..)

theorem State.exec_loopbackRelease_alone (h : s.Alone) :
    exec (.loopbackRelease m) s = .next ((s.releaseLoop (s.laneSel m)).reply m (.ok 0)) :=
  congrArg Host.Outcome.next (State.write_alone h ..)

theorem State.exec_patChkClr_alone (h : s.Alone) :
    exec (.patChkClr m) s = .next ((s.later (.patClear (s.laneSel m))).reply m (.ok 0)) :=
  congrArg Host.Outcome.next (State.write_alone h ..)

theorem State.exec_injectSingle_alone (h : s.Alone) :
    exec (.injectSingle m) s = .next ((s.later (.inject (s.laneSel m) 1)).reply m (.ok 0)) :=
  congrArg Host.Outcome.next (State.write_alone h ..)

theorem State.exec_injectBurst_alone (h : s.Alone) (blen : Fin 256) :
    exec (.injectBurst m blen) s = .next ((s.injectBurst (s.laneSel m) blen.val).reply m (.ok 0)) :=
  congrArg Host.Outcome.next (State.write_alone h ..)

end

section

variable {s : State} {l : Nat}

/-- RESTART on a lane that may train and has a signal: training is cleared, and an attempt waits for the boundary (R136). -/
theorem State.restartTraining_waits (he : s.on F.LN_CFG_TRAIN_EN l = true) (ho : s.laneState l ≠ .off) (hl : s.laneState l ≠ .los) :
    s.restartTraining l = (s.clearTraining l).later (.laneTrain l) := by
  unfold State.restartTraining
  dsimp only
  rw [if_neg (by simp [he, ho]), if_neg (by simp [hl])]

theorem State.setBackoffDis_sets (s : State) (l : Nat) (on : Bool) :
    (s.setBackoffDis l on).on F.LN_TRAIN_CTRL_BACKOFF_DIS l = on ∧
      ((s.setBackoffDis l on).lane l).waitFrom =
        (if !on && s.cfgOn F.LN_TRAIN_CTRL_BACKOFF_DIS l then s.now + 1 else (s.lane l).waitFrom) ∧
      s.OnlyLane (s.setBackoffDis l on) l [.LN_TRAIN_CTRL] := by
  have shown : (s.wrBool F.LN_TRAIN_CTRL_BACKOFF_DIS l on).on F.LN_TRAIN_CTRL_BACKOFF_DIS l = on := State.on_wr rfl rfl s l on
  have frame : s.OnlyLane (s.wrBool F.LN_TRAIN_CTRL_BACKOFF_DIS l on) l [.LN_TRAIN_CTRL] :=
    (State.OnlyLane.refl s l _).wr _ (by decide) _
  have dis : (s.wrBool F.LN_TRAIN_CTRL_BACKOFF_DIS l on).cfgOn F.LN_TRAIN_CTRL_BACKOFF_DIS l =
      s.cfgOn F.LN_TRAIN_CTRL_BACKOFF_DIS l := rfl
  unfold State.setBackoffDis
  dsimp only
  rw [dis]
  split
  · exact ⟨shown, by rw [State.lane_modLane_same]; rfl, frame.modLane _⟩
  · exact ⟨shown, rfl, frame⟩

theorem State.setLoop_waits {mode : Nat} (hm : mode < 4) (s : State) (l : Nat) (sq : Bool) :
    (s.setLoop l mode sq).rd F.LN_LOOP_MODE l = mode ∧ (s.setLoop l mode sq).on F.LN_LOOP_TX_SQ l = sq ∧
      s.OnlyLane (s.setLoop l mode sq) l [.LN_LOOP] := by
  refine ⟨?_, ?_, ?_⟩
  · rw [State.setLoop, State.rd_later, State.wrBool, State.rd_wr_apart (by decide), State.rd_wr_fits rfl hm]
  · rw [State.on, State.setLoop, State.rd_later, ← State.on]
    exact State.on_wr rfl rfl _ l sq
  · exact (((State.OnlyLane.refl s l _).wr _ (by decide) mode).wr _ (by decide) _).later _

theorem State.releaseLoop_waits (s : State) (l : Nat) :
    (s.releaseLoop l).rd F.LN_LOOP_MODE l = 0 ∧ s.OnlyLane (s.releaseLoop l) l [.LN_LOOP] := by
  refine ⟨?_, ((State.OnlyLane.refl s l _).wr _ (by decide) 0).later _⟩
  rw [State.releaseLoop, State.rd_later, State.rd_wr_fits rfl (by decide)]

theorem State.injectBurst_waits {blen : Nat} (hb : blen < 256) (s : State) (l : Nat) :
    (s.injectBurst l blen).rd F.LN_INJ_BLEN l = blen ∧ s.OnlyLane (s.injectBurst l blen) l [.LN_INJ] := by
  refine ⟨?_, ((State.OnlyLane.refl s l _).wr _ (by decide) blen).later _⟩
  rw [State.injectBurst, State.rd_later, State.rd_wr_fits rfl hb]

/-! ### The pattern checker (R141) -/

theorem State.patSync_locks {bits : Nat} (hb : 256 ≤ bits) (hc : s.checking l = true) (hl : s.on F.LN_STAT_PAT_LOCK l = false)
    (inv : Bool) :
    (s.patSync l bits inv).on F.LN_STAT_PAT_LOCK l = true ∧ (s.patSync l bits inv).on F.LN_STAT_PAT_INV l = inv ∧
      (s.patSync l bits inv).on F.LN_STICKY_PAT_SYNC l = true ∧ s.OnlyLane (s.patSync l bits inv) l [.LN_STAT, .LN_STICKY] := by
  rw [State.patSync, if_neg (by simp [hc, hl]; omega)]
  refine ⟨?_, ?_, State.on_raise rfl rfl (by decide) (by decide) .., ?_⟩
  · simp (disch := decide) [State.on, State.wrBool, State.raise_rd, State.rd_wr_apart, State.rd_wr_fits]
  · rw [State.on, State.raise_rd _ _ _ (by decide) (by decide) (by decide)]
    exact State.on_wr rfl rfl _ l inv
  · exact (((State.OnlyLane.refl s l _).wr _ (by decide) 1).wr _ (by decide) _).raise _ (by decide)

theorem State.patSync_short {bits : Nat} (hb : bits < 256) (s : State) (l : Nat) (inv : Bool) : s.patSync l bits inv = s := by
  rw [State.patSync, if_pos (by simp [hb])]

theorem State.patSyncLoss_unlocks {errors : Nat} (he : 32 ≤ errors) (hl : s.on F.LN_STAT_PAT_LOCK l = true) :
    (s.patSyncLoss l errors).on F.LN_STAT_PAT_LOCK l = false ∧ (s.patSyncLoss l errors).on F.LN_STICKY_PAT_SYNC_LOSS l = true ∧
      s.OnlyLane (s.patSyncLoss l errors) l [.LN_STAT, .LN_STICKY] := by
  rw [State.patSyncLoss, if_neg (by simp [hl]; omega)]
  refine ⟨?_, State.on_raise rfl rfl (by decide) (by decide) .., ?_⟩
  · simp (disch := decide) [State.on, State.raise_rd, State.rd_wr_fits]
  · exact ((State.OnlyLane.refl s l _).wr _ (by decide) 0).raise _ (by decide)

theorem State.patSyncLoss_few {errors : Nat} (he : errors < 32) (s : State) (l : Nat) : s.patSyncLoss l errors = s := by
  rw [State.patSyncLoss, if_pos (by simp [he])]

end

/-- Settles O10: a control outside a mate pair has its own effect at once, on the lane selected; the checker by its runs. -/
theorem laneControlsAreTaken : Obligations.LaneControlsAreTaken := by
  refine ⟨fun m s ha => ⟨fun he ho hl => ?_, fun on => ?_, fun mode sq => ?_, ?_, ?_, ?_, fun blen => ?_⟩,
    fun l s => ⟨fun bits inv hb hc hl => ?_, fun bits inv hb => ?_, fun errors he hl => ?_, fun errors he => ?_⟩⟩
  · have hx := State.exec_trainingRestart_alone m ha
    rw [State.restartTraining_waits he ho hl] at hx
    obtain ⟨attempts, wait, backoff⟩ := s.clearTraining_clears (s.laneSel m)
    have frame := (State.OnlyLane.refl s (s.laneSel m) [.LN_TRAIN_STAT]).clearTraining (by decide)
    exact ⟨_, hx, rfl, attempts, wait, backoff, State.answer_reply .., frame.regs, frame.memory⟩
  · obtain ⟨dis, wait, frame⟩ := s.setBackoffDis_sets (s.laneSel m) on
    exact ⟨_, State.exec_backoffDisWrite_alone m ha on, dis, wait, State.answer_reply .., frame.regs, frame.memory⟩
  · obtain ⟨shown, squelch, frame⟩ := State.setLoop_waits mode.isLt s (s.laneSel m) sq
    exact ⟨_, State.exec_loopbackSet_alone m ha mode sq, shown, squelch, rfl, State.answer_reply .., frame.regs, frame.memory⟩
  · obtain ⟨shown, frame⟩ := s.releaseLoop_waits (s.laneSel m)
    exact ⟨_, State.exec_loopbackRelease_alone m ha, shown, rfl, State.answer_reply .., frame.regs, frame.memory⟩
  · exact ⟨_, State.exec_patChkClr_alone m ha, rfl, State.answer_reply .., rfl, rfl, rfl, rfl, rfl⟩
  · exact ⟨_, State.exec_injectSingle_alone m ha, rfl, State.answer_reply .., rfl, rfl, rfl, rfl, rfl⟩
  · obtain ⟨shown, frame⟩ := State.injectBurst_waits blen.isLt s (s.laneSel m)
    exact ⟨_, State.exec_injectBurst_alone m ha blen, rfl, shown, State.answer_reply .., frame.regs, frame.memory⟩
  · obtain ⟨lock, polarity, sync, frame⟩ := State.patSync_locks hb hc hl inv
    exact ⟨_, rfl, lock, polarity, sync, frame.regs, frame.memory⟩
  · exact congrArg Host.Outcome.next (State.patSync_short hb s l.val inv)
  · obtain ⟨lock, loss, frame⟩ := State.patSyncLoss_unlocks he hl
    exact ⟨_, rfl, lock, loss, frame.regs, frame.memory⟩
  · exact congrArg Host.Outcome.next (State.patSyncLoss_few he s l.val)

end Sys2Proof.Machine
end

section
/-! The updates of a client: what they write, and what they leave unchanged. -/

namespace Sys2Proof.Machine

/-! ### What a client holds -/

@[simp] theorem State.client_modClient_same (s : State) (q c : Nat) (f : Client → Client) :
    (s.modClient q c f).client (clientNo q c) = f (s.client (clientNo q c)) := by
  rw [State.modClient, State.client_setClient, if_pos rfl]

theorem State.client_modClient_ne {q c k : Nat} (h : k ≠ clientNo q c) (s : State) (f : Client → Client) :
    (s.modClient q c f).client k = s.client k := by
  rw [State.modClient, State.client_setClient, if_neg h.symm]

theorem State.client_congr {s t : State} (h : t.clients = s.clients) (k : Nat) : t.client k = s.client k := by
  simp only [State.client, h]

@[simp] theorem State.client_wr (s : State) (f : Field) (i v k : Nat) : (s.wr f i v).client k = s.client k := rfl

@[simp] theorem State.client_raise (s : State) (f : Field) (i k : Nat) : (s.raise f i).client k = s.client k :=
  State.client_congr (State.raise_clients ..) k

@[simp] theorem State.client_countClient (s : State) (q c num n k : Nat) : (s.countClient q c num n).client k = s.client k := rfl

/-! ### Counters -/

@[simp] theorem State.ctr_raise (s : State) (f : Field) (i : Nat) (k : Ctr) : (s.raise f i).ctr k = s.ctr k := by
  simp only [State.ctr, State.raise_ctrs]

/-- A counter wraps at 48 bits (R584). -/
theorem State.ctr_countClient (s : State) (q c num n : Nat) :
    (s.countClient q c num n).ctr ⟨.quay, num, clientNo q c⟩ = (s.ctr ⟨.quay, num, clientNo q c⟩ + n) % 2 ^ 48 := by
  simp only [State.countClient, State.count, State.setCtr, State.ctr, Tab.get_put, if_true]

/-! ### The frame of a client's own updates -/

/-- Beside what the client holds and its quay's copies of the registers listed, no client, no register and no memory differs. -/
structure State.OnlyClient (s t : State) (q c : Nat) (rs : List Reg) : Prop where
  clients : ∀ k, k ≠ clientNo q c → t.client k = s.client k
  regs : s.OnlyAt t q rs
  memory : s.SameMemory t

namespace State.OnlyClient

variable {s t : State} {q c : Nat} {rs : List Reg}

theorem refl (s : State) (q c : Nat) (rs : List Reg) : s.OnlyClient s q c rs :=
  ⟨fun _ _ => rfl, fun _ _ _ _ _ => rfl, s.sameMemory_refl⟩

theorem wr (h : s.OnlyClient t q c rs) (f : Field) (hf : f.reg ∈ rs) (v : Nat) : s.OnlyClient (t.wr f q v) q c rs :=
  ⟨h.clients, h.regs.trans (t.onlyAt_wr hf q v), h.memory⟩

theorem raise (h : s.OnlyClient t q c rs) (f : Field) (hf : f.reg ∈ rs) : s.OnlyClient (t.raise f q) q c rs :=
  ⟨fun k hk => (t.client_raise f q k).trans (h.clients k hk), h.regs.trans (t.onlyAt_raise hf q),
    h.memory.trans (t.raise_sameMemory f q)⟩

theorem modClient (h : s.OnlyClient t q c rs) (f : Client → Client) : s.OnlyClient (t.modClient q c f) q c rs :=
  ⟨fun k hk => (State.client_modClient_ne hk t f).trans (h.clients k hk), h.regs, h.memory⟩

theorem countClient (h : s.OnlyClient t q c rs) (num n : Nat) : s.OnlyClient (t.countClient q c num n) q c rs :=
  ⟨h.clients, h.regs, h.memory⟩

end State.OnlyClient

end Sys2Proof.Machine
end

section
/-! Client signal fail (O11). -/

namespace Sys2Proof.Machine

/-! ### A client enters the fail (R154, R176) -/

/-- A client enters client signal fail: CSF is sent from now on, and reported. -/
def State.enterClientFail (s : State) (q c : Nat) : State :=
  ((s.modClient q c fun x => { x with fail := true }).wr (slotField F.QY_STAT_CSF_TX c) q 1).raise (slotField F.QY_STICKY_CSF c) q

@[simp] theorem State.client_showCond (s : State) (q c : Nat) (cond : ClientCond) (k : Nat) :
    (s.showCond q c cond).client k = s.client k := by
  cases cond <;> simp [State.showCond]

/-- A condition shows in the client's own status and sticky bits only. -/
theorem State.showCond_only (s : State) (q c : Nat) (cond : ClientCond) :
    s.OnlyClient (s.showCond q c cond) q c [.QY_STAT, .QY_STICKY] := by
  have same := State.OnlyClient.refl s q c [.QY_STAT, .QY_STICKY]
  cases cond with
  | laneDown => exact (same.wr _ (.head _) 1).raise _ (.tail _ (.head _))
  | deskew => exact same.raise _ (by decide)
  | lof _ => exact (same.wr _ (.head _) 1).raise _ (.tail _ (.head _))
  | memberLost => exact (same.wr _ (.head _) 1).raise _ (.tail _ (.head _))
  | hiBer => exact (same.wr _ (.head _) 1).raise _ (.tail _ (.head _))
  | odu _ => exact same

/-- A condition of the whole client shows, and makes the client fail unless it does already. -/
theorem State.clientSignalFail_whole {s : State} {q c : Nat} {cond : ClientCond} (he : s.clientExists q c = true)
    (hc : s.condHolds q c cond = true) (hu : ∀ u, cond ≠ .odu u) :
    s.clientSignalFail q c cond =
      if (s.client (clientNo q c)).fail then s.showCond q c cond else (s.showCond q c cond).enterClientFail q c := by
  rw [← s.client_showCond q c cond (clientNo q c)]
  unfold State.clientSignalFail
  rw [if_neg (by simp [he, hc])]
  cases cond with
  | odu u => exact absurd rfl (hu u)
  | _ => rfl

theorem State.enterClientFail_shows (s : State) (q : Nat) (c : Fin 2) :
    (s.enterClientFail q c.val).on (slotField F.QY_STAT_CSF_TX c.val) q = true ∧
      (s.enterClientFail q c.val).on (slotField F.QY_STICKY_CSF c.val) q = true := by
  have stat : ∀ c : Fin 2, (slotField F.QY_STAT_CSF_TX c.val).good = true := by decide
  have sticky : ∀ c : Fin 2, (slotField F.QY_STICKY_CSF c.val).good = true := by decide
  have apart : (slotField F.QY_STAT_CSF_TX c.val).reg ≠ (slotField F.QY_STICKY_CSF c.val).reg := nofun
  constructor
  · rw [State.enterClientFail, State.on, State.raise_rd _ _ _ apart nofun nofun]
    exact State.on_wr (stat c) rfl _ q true
  · exact State.on_raise (sticky c) rfl nofun nofun ..

theorem State.enterClientFail_only {s t : State} {q c : Nat} (h : s.OnlyClient t q c [.QY_STAT, .QY_STICKY]) :
    s.OnlyClient (t.enterClientFail q c) q c [.QY_STAT, .QY_STICKY] :=
  ((h.modClient _).wr _ (.head _) 1).raise _ (.tail _ (.head _))

theorem State.clientSignalFail_fails {s : State} {q : Nat} {c : Fin 2} {cond : ClientCond} (he : s.clientExists q c.val = true)
    (hc : s.condHolds q c.val cond = true) (hu : ∀ u, cond ≠ .odu u) :
    ((s.clientSignalFail q c.val cond).client (clientNo q c.val)).fail = true ∧
      ((s.client (clientNo q c.val)).fail = false →
        (s.clientSignalFail q c.val cond).on (slotField F.QY_STAT_CSF_TX c.val) q = true ∧
          (s.clientSignalFail q c.val cond).on (slotField F.QY_STICKY_CSF c.val) q = true) ∧
      s.OnlyClient (s.clientSignalFail q c.val cond) q c.val [.QY_STAT, .QY_STICKY] := by
  have shown := s.showCond_only q c.val cond
  rw [State.clientSignalFail_whole he hc hu]
  by_cases hf : (s.client (clientNo q c.val)).fail = true
  · rw [if_pos hf]
    exact ⟨by rw [State.client_showCond, hf], fun h => absurd hf (by simp [h]), shown⟩
  · rw [if_neg hf]
    exact ⟨by simp [State.enterClientFail], fun _ => State.enterClientFail_shows _ q c, State.enterClientFail_only shown⟩

/-- The fail of an ODU is listed, and the client itself does not enter the fail (R168). -/
theorem State.clientSignalFail_odu {s : State} {q c : Nat} {u : Fin 4096} (he : s.clientExists q c = true)
    (hc : s.condHolds q c (.odu u) = true) :
    u.val ∈ ((s.clientSignalFail q c (.odu u)).client (clientNo q c)).oduFail ∧
      ((s.clientSignalFail q c (.odu u)).client (clientNo q c)).fail = (s.client (clientNo q c)).fail ∧
      s.OnlyClient (s.clientSignalFail q c (.odu u)) q c [.QY_STICKY] := by
  rw [State.clientSignalFail, if_neg (by simp [he, hc])]
  have same := State.OnlyClient.refl s q c [.QY_STICKY]
  by_cases listed : (s.client (clientNo q c)).oduFail.contains u.val = true
  · rw [if_pos listed]
    exact ⟨List.contains_iff_mem.1 listed, rfl, same⟩
  · rw [if_neg listed]
    exact ⟨by simp, by simp, (same.modClient _).raise _ (by decide)⟩

/-! ### The fail ends (R154, R168, R176) -/

/-- After 3,125 ticks free of every condition the client leaves the fail, and CSF is no longer sent. -/
theorem State.clientSignalFailClear_whole {s : State} {q : Nat} {c : Fin 2} {ticks : Nat} (he : s.clientExists q c.val = true)
    (ht : 3125 ≤ ticks) (hf : (s.client (clientNo q c.val)).fail = true) (hl : s.clientLaneDown q c.val = false) :
    ((s.clientSignalFailClear q c.val none ticks).client (clientNo q c.val)).fail = false ∧
      (s.clientSignalFailClear q c.val none ticks).on (slotField F.QY_STAT_CSF_TX c.val) q = false ∧
      s.OnlyClient (s.clientSignalFailClear q c.val none ticks) q c.val [.QY_STAT] := by
  have good : ∀ c : Fin 2, (slotField F.QY_STAT_CSF_TX c.val).good = true := by decide
  have los : ∀ c : Fin 2, (slotField F.QY_STAT_LOS c.val).apart (slotField F.QY_STAT_CSF_TX c.val) = true := by decide
  have lof : ∀ c : Fin 2, (slotField F.QY_STAT_LOF c.val).apart (slotField F.QY_STAT_CSF_TX c.val) = true := by decide
  have deg : ∀ c : Fin 2, (slotField F.QY_STAT_DEG c.val).apart (slotField F.QY_STAT_CSF_TX c.val) = true := by decide
  have same := State.OnlyClient.refl s q c.val [.QY_STAT]
  rw [State.clientSignalFailClear, if_neg (by simp [he])]
  dsimp only
  rw [if_neg (by simp [hf, hl]; omega)]
  refine ⟨by simp, ?_, ?_⟩
  · rw [State.on, State.rd_wr_apart (deg c), State.rd_wr_apart (lof c), State.rd_wr_apart (los c)]
    exact State.on_wr (good c) rfl _ q false
  · exact ((((same.modClient _).wr _ (.head _) 0).wr _ (.head _) 0).wr _ (.head _) 0).wr _ (.head _) 0

/-- After as many ticks free of an ODU's fail that ODU is listed no more. -/
theorem State.clientSignalFailClear_odu {s : State} {q c ticks : Nat} (he : s.clientExists q c = true) (ht : 3125 ≤ ticks)
    (u : Fin 4096) :
    s.clientSignalFailClear q c (some u) ticks =
      s.modClient q c fun x => { x with oduFail := x.oduFail.filter (· != u.val) } := by
  rw [State.clientSignalFailClear, if_neg (by simp [he])]
  exact if_neg (Nat.not_lt.2 ht)

/-- Settles O11: a condition of the client fails it as a whole, one of an ODU lists that ODU, and each ends after 3,125 ticks. -/
theorem clientSignalFailComesAndGoes : Obligations.ClientSignalFailComesAndGoes := by
  refine fun q c s he => ⟨fun cond hc hu => ?_, fun u hc => ?_, fun ticks ht hf hl => ?_, fun u ticks ht => ?_⟩
  · obtain ⟨fails, shows, only⟩ := State.clientSignalFail_fails he hc hu
    exact ⟨_, rfl, fails, shows, only.clients, only.regs, only.memory⟩
  · obtain ⟨listed, whole, only⟩ := State.clientSignalFail_odu he hc
    exact ⟨_, rfl, listed, whole, only.regs, only.memory⟩
  · obtain ⟨ends, shows, only⟩ := State.clientSignalFailClear_whole he ht hf hl
    exact ⟨_, rfl, ends, shows, only.clients, only.regs, only.memory⟩
  · have cleared := State.clientSignalFailClear_odu he ht u
    exact ⟨_, congrArg Host.Outcome.next cleared, by simp, rfl, rfl, rfl, rfl, rfl⟩

end Sys2Proof.Machine
end

section
/-! The FIFO of an IDLE client (O12). -/

namespace Sys2Proof.Machine

section

variable {s : State} {q c : Nat}

/-- What a frame does at an IDLE client that sends no CSF: it is dropped, cut or taken, by the fill of the FIFO (R159). -/
theorem State.clientFrameIngress_idle (he : s.clientExists q c = true) (hm : s.clientMap q c = 2)
    (hr : s.clientReplaces q c = false) (blocks : Nat) :
    s.clientFrameIngress q c blocks =
      if 6144 * s.gangSize q < (s.client (clientNo q c)).fill then
        (s.countClient q c 4 1).raise (slotField F.QY_STICKY_DROP c) q
      else if 8192 * s.gangSize q < (s.client (clientNo q c)).fill + blocks then
        ((s.modClient q c fun x => { x with fill := 8192 * s.gangSize q }).countClient q c 5 1).raise (slotField F.QY_STICKY_DROP c) q
      else s.modClient q c fun x => { x with fill := x.fill + blocks } := by
  rw [State.clientFrameIngress, if_neg (by simp [he, hm, hr])]

theorem State.clientFrameIngress_fill (he : s.clientExists q c = true) (hm : s.clientMap q c = 2)
    (hr : s.clientReplaces q c = false) (blocks : Nat) :
    ((s.clientFrameIngress q c blocks).client (clientNo q c)).fill =
      if 6144 * s.gangSize q < (s.client (clientNo q c)).fill then (s.client (clientNo q c)).fill
      else min ((s.client (clientNo q c)).fill + blocks) (8192 * s.gangSize q) := by
  rw [State.clientFrameIngress_idle he hm hr]
  split
  · simp
  · split
    case isTrue cut => simpa using (Nat.min_eq_right (Nat.le_of_lt cut)).symm
    case isFalse taken => simpa using (Nat.min_eq_left (Nat.not_lt.1 taken)).symm

theorem State.clientFrameIngress_only (he : s.clientExists q c = true) (hm : s.clientMap q c = 2)
    (hr : s.clientReplaces q c = false) (blocks : Nat) :
    s.OnlyClient (s.clientFrameIngress q c blocks) q c [.QY_STICKY] := by
  have same := State.OnlyClient.refl s q c [.QY_STICKY]
  rw [State.clientFrameIngress_idle he hm hr]
  split
  · exact (same.countClient 4 1).raise _ (.head _)
  · split
    · exact ((same.modClient _).countClient 5 1).raise _ (.head _)
    · exact same.modClient _

end

/-- A frame that comes while the FIFO stands above 6,144 blocks per quay is counted as dropped, and reported. -/
theorem State.clientFrameIngress_drops {s : State} {q : Nat} {c : Fin 2} (he : s.clientExists q c.val = true)
    (hm : s.clientMap q c.val = 2) (hr : s.clientReplaces q c.val = false) (blocks : Nat)
    (full : 6144 * s.gangSize q < (s.client (clientNo q c.val)).fill) :
    (s.clientFrameIngress q c.val blocks).ctr ⟨.quay, 4, clientNo q c.val⟩ =
        (s.ctr ⟨.quay, 4, clientNo q c.val⟩ + 1) % 2 ^ 48 ∧
      (s.clientFrameIngress q c.val blocks).on (slotField F.QY_STICKY_DROP c.val) q = true := by
  have good : ∀ c : Fin 2, (slotField F.QY_STICKY_DROP c.val).good = true := by decide
  rw [State.clientFrameIngress_idle he hm hr, if_pos full]
  exact ⟨by rw [State.ctr_raise, State.ctr_countClient], State.on_raise (good c) rfl nofun nofun ..⟩

/-- Settles O12: the fill, the drop and the frame of each of the three ways a frame can go. -/
theorem idleClientFramesFillTheFifo : Obligations.IdleClientFramesFillTheFifo := by
  intro q c blocks s he hm hr
  have only := State.clientFrameIngress_only he hm hr blocks
  exact ⟨_, rfl, State.clientFrameIngress_fill he hm hr blocks, State.clientFrameIngress_drops he hm hr blocks, only.clients,
    only.regs, only.memory⟩

end Sys2Proof.Machine
end

section
/-! Line frames: what the shared updates of a receive unit write, and what they leave unchanged. -/

namespace Sys2Proof.Machine

/-! ### What a unit's framing holds -/

@[simp] theorem State.lineFrame_modFrame_same (s : State) (e : Nat) (f : LineFrame → LineFrame) :
    (s.modFrame e f).lineFrame e = f (s.lineFrame e) := by
  rw [State.modFrame, State.lineFrame_setLineFrame, if_pos rfl]

theorem State.lineFrame_congr {s t : State} (h : t.frames = s.frames) (k : Nat) : t.lineFrame k = s.lineFrame k := by
  simp only [State.lineFrame, h]

theorem State.ctr_congr {s t : State} (h : t.ctrs = s.ctrs) (c : Ctr) : t.ctr c = s.ctr c := by
  simp only [State.ctr, h]

/-- An event of a receive unit that exists has its effect (R310). -/
theorem State.atUnit_exists {s : State} {u : Nat} (h : s.unitExists u = true) (f : State → State) : s.atUnit u f = f s := if_pos h

/-! ### Live defects -/

theorem State.on_raise_ne {f g : Field} (h0 : g.reg ≠ f.reg) (h1 : g.reg ≠ .EV_STICKY) (h2 : g.reg ≠ .EV_SRC_CNT) (s : State)
    (i j : Nat) : (s.raise f i).on g j = s.on g j := by
  rw [State.on, State.raise_rd s f i h0 h1 h2, ← State.on]

/-- Showing SSF writes LF_STAT.SSF only. -/
theorem State.rd_showSsf {f : Field} (h : F.LF_STAT_SSF.apart f = true) (s : State) (e i : Nat) : (s.showSsf e).rd f i = s.rd f i :=
  State.each_keeps (State.rd · f i) (fun s k => State.rd_wr_apart h s k _ i) _ s

/-- A live defect shows as written, whatever SSF then shows. -/
theorem State.on_showSsf_wrBool {stat : Field} (hg : stat.good = true) (hw : stat.hi = stat.lo) (hx : F.LF_STAT_SSF.apart stat = true)
    (s : State) (e : Nat) (b : Bool) : ((s.wrBool stat e b).showSsf e).on stat e = b := by
  rw [State.on, State.rd_showSsf hx]
  exact State.on_wr hg hw s e b

theorem State.on_setOof (s : State) (e : Nat) (b : Bool) : (s.setOof e b).on F.LF_STAT_OOF e = b :=
  State.on_showSsf_wrBool rfl rfl rfl _ e b

theorem State.on_setLof (s : State) (e : Nat) (b : Bool) : (s.setLof e b).on F.LF_STAT_LOF e = b :=
  State.on_showSsf_wrBool rfl rfl rfl _ e b

theorem State.on_setLom (s : State) (e : Nat) (b : Bool) : (s.setLom e b).on F.LF_STAT_LOM e = b :=
  State.on_showSsf_wrBool rfl rfl rfl _ e b

/-- LOM is shown beside OOF. -/
theorem State.on_oof_setLom (s : State) (e : Nat) (b : Bool) (i : Nat) : (s.setLom e b).on F.LF_STAT_OOF i = s.on F.LF_STAT_OOF i := by
  simp (disch := decide) only [State.on, State.setLom, State.wrBool, State.rd_showSsf, State.rd_wr_apart]

/-! ### The frame of updates that leave the framing itself -/

/-- Of the registers only those listed may differ; the framing of every unit, the counters and the memories are the same. -/
structure State.KeepsFrames (s t : State) (rs : List Reg) : Prop where
  regs : s.OnlyRegs t rs
  memory : s.SameMemory t
  frames : t.frames = s.frames
  ctrs : t.ctrs = s.ctrs

namespace State.KeepsFrames

variable {s t u : State} {rs qs : List Reg}

theorem refl (s : State) (rs : List Reg) : s.KeepsFrames s rs := ⟨s.onlyRegs_refl rs, s.sameMemory_refl, rfl, rfl⟩

theorem trans (h : s.KeepsFrames t rs) (k : t.KeepsFrames u rs) : s.KeepsFrames u rs :=
  ⟨h.regs.trans k.regs, h.memory.trans k.memory, k.frames.trans h.frames, k.ctrs.trans h.ctrs⟩

/-- An update of a part that the frame says nothing of. -/
theorem congr (h : s.KeepsFrames t rs) (hr : u.regs = t.regs) (hm : t.SameMemory u) (hf : u.frames = t.frames) (hc : u.ctrs = t.ctrs) :
    s.KeepsFrames u rs := h.trans ⟨State.onlyRegs_of_regs hr rs, hm, hf, hc⟩

theorem wr (h : s.KeepsFrames t rs) (f : Field) (hf : f.reg ∈ rs) (i v : Nat) : s.KeepsFrames (t.wr f i v) rs :=
  h.trans ⟨(t.onlyAt_wr hf i v).onlyRegs, ⟨rfl, rfl, rfl, rfl⟩, rfl, rfl⟩

theorem incWrap (h : s.KeepsFrames t rs) (f : Field) (hf : f.reg ∈ rs) (i n : Nat) : s.KeepsFrames (t.incWrap f i n) rs :=
  h.wr f hf i _

theorem raise (h : s.KeepsFrames t rs) (f : Field) (hf : f.reg ∈ rs) (i : Nat) : s.KeepsFrames (t.raise f i) rs :=
  h.trans ⟨(t.onlyAt_raise hf i).onlyRegs, t.raise_sameMemory f i, by simp, by simp⟩

theorem ite {c : Prop} [Decidable c] (h : s.KeepsFrames t rs) (k : s.KeepsFrames u rs) : s.KeepsFrames (if c then t else u) rs := by
  split
  · exact h
  · exact k

/-- An update that is made under a condition only. -/
theorem whenever {c : Prop} [Decidable c] (h : s.KeepsFrames t rs) (k : s.KeepsFrames t rs → s.KeepsFrames u rs) :
    s.KeepsFrames (if c then u else t) rs := ite (k h) h

theorem raiseIf (h : s.KeepsFrames t rs) (c : Bool) (f : Field) (hf : f.reg ∈ rs) (i : Nat) : s.KeepsFrames (t.raiseIf c f i) rs :=
  h.whenever (·.raise f hf i)

theorem each (h : s.KeepsFrames t rs) {α : Type} {f : State → α → State} (hf : ∀ (u : State) x, u.KeepsFrames (f u x) rs)
    (l : List α) : s.KeepsFrames (t.each l f) rs := by
  induction l generalizing t with
  | nil => exact h
  | cons x l ih => exact ih (h.trans (hf t x))

theorem showSsf (h : s.KeepsFrames t rs) (hr : Reg.LF_STAT ∈ rs) (e : Nat) : s.KeepsFrames (t.showSsf e) rs :=
  h.each (fun u i => (refl u rs).wr F.LF_STAT_SSF hr i _) _

theorem setOof (h : s.KeepsFrames t rs) (ha : Reg.LF_ALIGN ∈ rs) (hr : Reg.LF_STAT ∈ rs) (e : Nat) (b : Bool) :
    s.KeepsFrames (t.setOof e b) rs := ((h.wr F.LF_ALIGN_OOF ha e _).wr F.LF_STAT_OOF hr e _).showSsf hr e

theorem setLof (h : s.KeepsFrames t rs) (ha : Reg.LF_ALIGN ∈ rs) (hr : Reg.LF_STAT ∈ rs) (e : Nat) (b : Bool) :
    s.KeepsFrames (t.setLof e b) rs := ((h.wr F.LF_ALIGN_LOF ha e _).wr F.LF_STAT_LOF hr e _).showSsf hr e

theorem setLom (h : s.KeepsFrames t rs) (ha : Reg.LF_ALIGN ∈ rs) (hr : Reg.LF_STAT ∈ rs) (e : Nat) (b : Bool) :
    s.KeepsFrames (t.setLom e b) rs := ((h.wr F.LF_ALIGN_LOM ha e _).wr F.LF_STAT_LOM hr e _).showSsf hr e

/-- After a change of a unit's framing, such updates show that change. -/
theorem lineFrame_modFrame {e : Nat} {f : LineFrame → LineFrame} (h : (s.modFrame e f).KeepsFrames t rs) :
    t.lineFrame e = f (s.lineFrame e) := (State.lineFrame_congr h.frames e).trans (s.lineFrame_modFrame_same e f)

/-- A field of a register that is not listed reads the same. -/
theorem on_eq (h : s.KeepsFrames t rs) {f : Field} (h0 : f.reg ∉ rs) (h1 : f.reg ≠ .EV_STICKY) (h2 : f.reg ≠ .EV_SRC_CNT) (i : Nat) :
    t.on f i = s.on f i := by
  rw [State.on, State.rd, h.regs f.reg i h0 h1 h2, ← State.rd, ← State.on]

end State.KeepsFrames

end Sys2Proof.Machine
end

section
/-! What the receive contexts of an engine do with its frames leaves the framing alone (R289, R296 to R299). -/

namespace Sys2Proof.Machine

namespace State.KeepsFrames

variable {s t : State} {rs : List Reg}

theorem modCtx (h : s.KeepsFrames t rs) (i : Nat) (f : EncCtx → EncCtx) : s.KeepsFrames (t.modCtx i f) rs :=
  h.congr rfl ⟨rfl, rfl, rfl, rfl⟩ rfl rfl

theorem aisContext (h : s.KeepsFrames t rs) (i : Nat) : s.KeepsFrames (t.aisContext i) rs :=
  h.congr rfl ⟨rfl, rfl, rfl, rfl⟩ rfl rfl

theorem showAis (h : s.KeepsFrames t rs) (hr : Reg.SEC_CTX_STAT ∈ rs) (i : Nat) : s.KeepsFrames (t.showAis i) rs :=
  (h.wr F.SEC_CTX_STAT_AIS hr i _).wr F.SEC_CTX_STAT_LATCHED hr i _

theorem applyBlock (h : s.KeepsFrames t rs) (hr : Reg.SEC_CTX_STAT ∈ rs) (hs : Reg.SEC_ESTICKY ∈ rs) (i : Nat) (report : Bool) :
    s.KeepsFrames (t.applyBlock i report) rs :=
  (((h.modCtx i _).raiseIf _ F.SEC_ESTICKY_KEY_MISSING hs _).raiseIf _ F.SEC_ESTICKY_DOWNGRADE hs _).showAis hr i

theorem startCtx (h : s.KeepsFrames t rs) (hr : Reg.SEC_CTX_STAT ∈ rs) (hs : Reg.SEC_ESTICKY ∈ rs) (i : Nat) :
    s.KeepsFrames (t.startCtx i) rs :=
  ((((h.modCtx i _).wr F.SEC_CTX_STAT_STATE hr i 0).wr F.SEC_CTX_STAT_NEXT hr i 0).wr F.SEC_CTX_STAT_UNKNOWN hr i 1).applyBlock
    hr hs i false

theorem startReceive (h : s.KeepsFrames t rs) (hr : Reg.SEC_CTX_STAT ∈ rs) (hs : Reg.SEC_ESTICKY ∈ rs) (e : Nat) :
    s.KeepsFrames (t.startReceive e) rs := h.each (fun u i => (refl u rs).startCtx hr hs i) _

theorem openWindow (h : s.KeepsFrames t rs) (hr : Reg.SEC_CTX_STAT ∈ rs) (i : Nat) (f : Tick) (latch : Bool) :
    s.KeepsFrames (t.openWindow i f latch) rs := (h.modCtx i _).showAis hr i

end State.KeepsFrames

/-- The registers that the ENC areas of delivered frames may write. -/
def encFrameRegs : List Reg := [.SEC_CTX_STAT, .SEC_CTX_CNT, .SEC_CTX_LAST, .SEC_ESTICKY]

namespace State.KeepsFrames

variable {s t : State}

theorem checkTag (h : s.KeepsFrames t encFrameRegs) (i : Nat) (f : Tick) (valid held : Bool) (tag : Option Bool) :
    s.KeepsFrames (t.checkTag i f valid held tag) encFrameRegs := by
  have stat : Reg.SEC_CTX_STAT ∈ encFrameRegs := by decide
  have cnt : Reg.SEC_CTX_CNT ∈ encFrameRegs := by decide
  have last : Reg.SEC_CTX_LAST ∈ encFrameRegs := by decide
  have sticky : Reg.SEC_ESTICKY ∈ encFrameRegs := by decide
  have missed := (h.incWrap F.SEC_CTX_CNT_TAG_LOST cnt i 1).raise F.SEC_ESTICKY_TAG_LOST sticky (encCopy (ctxEngine i))
  have spoiled := h.incWrap F.SEC_CTX_CNT_UCW_FAIL cnt i 1
  have failed := h.incWrap F.SEC_CTX_CNT_AUTH_FAIL cnt i 1
  unfold State.checkTag
  exact ite h <| ite h <| ite (ite (missed.openWindow stat i f false) missed) <| ite h <| ite spoiled <|
    ((failed.wr F.SEC_CTX_LAST_FNO last i _).openWindow stat i f _).raise F.SEC_ESTICKY_AUTH_FAIL sticky _

theorem readEnc (h : s.KeepsFrames t encFrameRegs) (e : Nat) (f : Tick) (ucw : List Nat) (area : EncArea) :
    s.KeepsFrames (t.readEnc e f ucw area) encFrameRegs := by
  unfold State.readEnc
  refine ite h (each (each (ite (each h ?ssf _) (each (each h ?ssf _) ?kst _)) ?ais _) ?tags _)
  case ssf => exact fun u i => ite ((refl u _).modCtx i _) (refl u _)
  case kst =>
    rintro u ⟨x, v⟩
    have noted := (refl u encFrameRegs).modCtx (ctxIndex e true x) fun y => { y with seen := y.seen.set v (y.seen.getD v 0 + 1) }
    refine ite (refl u _) ?_
    dsimp only
    split
    · exact noted.wr F.SEC_CTX_STAT_NEXT (by decide) _ _
    · exact noted
  case ais => exact fun u i => ite ((refl u _).aisContext i) (refl u _)
  case tags => exact fun u k => ite ((refl u _).checkTag ..) (refl u _)

end State.KeepsFrames

end Sys2Proof.Machine
end

section
/-! Frame alignment (O15). -/

namespace Sys2Proof.Machine

section

variable {s : State} {e : Nat}

/-! ### OOF and LOF (R211, R213) -/

/-- The fifth consecutive errored FAS takes a native unit out of frame. -/
theorem State.outOfFrame_declares (hn : s.native e = true) (hi : (s.lineFrame e).inFrame = true) (hb : 5 ≤ (s.lineFrame e).fasBad) :
    ((s.outOfFrame e).lineFrame e).inFrame = false ∧ (s.outOfFrame e).on F.LF_STAT_OOF e = true ∧
      (s.outOfFrame e).on F.LF_STICKY_OOF (unitEngine e) = true ∧
      s.OnlyRegs (s.outOfFrame e) [.LF_ALIGN, .LF_STAT, .LF_STICKY] ∧ s.SameMemory (s.outOfFrame e) := by
  rw [State.outOfFrame, if_neg (by simp [hi, hn]; omega)]
  have keeps (f : LineFrame → LineFrame) :=
    ((State.KeepsFrames.refl (s.modFrame e f) [.LF_ALIGN, .LF_STAT, .LF_STICKY]).setOof (by decide) (by decide) e true).raise
      F.LF_STICKY_OOF (by decide) (unitEngine e)
  refine ⟨congrArg LineFrame.inFrame (keeps _).lineFrame_modFrame, ?_, State.on_raise rfl rfl (by decide) (by decide) ..,
    (keeps _).regs, (keeps _).memory⟩
  exact (State.on_raise_ne (by decide) (by decide) (by decide) ..).trans (State.on_setOof ..)

theorem State.lossOfFrame_declares (hl : s.on F.LF_STAT_LOF e = false) (ht : 938 ≤ (s.lineFrame e).oofTicks) :
    (s.lossOfFrame e).on F.LF_STAT_LOF e = true ∧ (s.lossOfFrame e).on F.LF_STICKY_LOF (unitEngine e) = true ∧
      s.KeepsFrames (s.lossOfFrame e) [.LF_ALIGN, .LF_STAT, .LF_STICKY] := by
  rw [State.lossOfFrame, if_pos (by simp [hl, ht])]
  refine ⟨?_, State.on_raise rfl rfl (by decide) (by decide) .., ?_⟩
  · exact (State.on_raise_ne (by decide) (by decide) (by decide) ..).trans (State.on_setLof ..)
  · exact ((State.KeepsFrames.refl s _).setLof (by decide) (by decide) e true).raise _ (by decide) _

theorem State.lossOfFrame_clears (hl : s.on F.LF_STAT_LOF e = true) (ht : 938 ≤ (s.lineFrame e).ifTicks) :
    (s.lossOfFrame e).on F.LF_STAT_LOF e = false ∧ s.KeepsFrames (s.lossOfFrame e) [.LF_ALIGN, .LF_STAT] := by
  rw [State.lossOfFrame, if_neg (by simp [hl]), if_pos (by simp [hl, ht])]
  exact ⟨State.on_setLof .., (State.KeepsFrames.refl s _).setLof (by decide) (by decide) e false⟩

/-! ### LOM (R215, R229) -/

/-- LOM raised with its event, as both formats do it. -/
theorem State.raiseLom_declares (s : State) (e : Nat) :
    let t := (s.setLom e true).raise F.LF_STICKY_LOM (unitEngine e)
    t.on F.LF_STAT_LOM e = true ∧ t.on F.LF_STICKY_LOM (unitEngine e) = true ∧
      s.KeepsFrames t [.LF_ALIGN, .LF_STAT, .LF_STICKY] := by
  refine ⟨?_, State.on_raise rfl rfl (by decide) (by decide) .., ?_⟩
  · exact (State.on_raise_ne (by decide) (by decide) (by decide) ..).trans (State.on_setLom ..)
  · exact ((State.KeepsFrames.refl s _).setLom (by decide) (by decide) e true).raise _ (by decide) _

theorem State.lossOfMultiframe_clears (hl : s.on F.LF_STAT_LOM e = true) (hp : (s.lineFrame e).pairOk = true) :
    (s.lossOfMultiframe e).on F.LF_STAT_LOM e = false ∧ ((s.lossOfMultiframe e).lineFrame e).badRun = 0 ∧
      s.OnlyRegs (s.lossOfMultiframe e) [.LF_ALIGN, .LF_STAT] ∧ s.SameMemory (s.lossOfMultiframe e) := by
  rw [State.lossOfMultiframe, if_pos hl, if_pos hp]
  have keeps (f : LineFrame → LineFrame) :=
    (State.KeepsFrames.refl (s.modFrame e f) [.LF_ALIGN, .LF_STAT]).setLom (by decide) (by decide) e false
  exact ⟨State.on_setLom .., congrArg LineFrame.badRun (keeps _).lineFrame_modFrame, (keeps _).regs, (keeps _).memory⟩

theorem State.lossOfMultiframe_eq_raise (hl : s.on F.LF_STAT_LOM e = false) (hb : 5 ≤ (s.lineFrame e).badRun)
    (hp : (s.lineFrame e).pairOff = false) :
    s.lossOfMultiframe e = (s.setLom e true).raise F.LF_STICKY_LOM (unitEngine e) := by
  rw [State.lossOfMultiframe, if_neg (by simp [hl]), if_pos (by simp [hb, hp])]

theorem State.flexoMultiframe_clears (hl : s.on F.LF_STAT_LOM e = true) : s.flexoMultiframe e = s.setLom e false := if_pos hl

theorem State.flexoMultiframe_eq_raise (hl : s.on F.LF_STAT_LOM e = false) (hi : (s.lineFrame e).inFrame = true) :
    s.flexoMultiframe e = (s.setLom e true).raise F.LF_STICKY_LOM (unitEngine e) := by
  rw [State.flexoMultiframe, if_neg (by simp [hl]), if_pos hi]

theorem exec_lom_interop {u : RxUnit} (he : s.unitExists u.val = true) (hi : s.interop u.val = true) :
    exec (.lom u) s = .next (s.flexoMultiframe u.val) :=
  congrArg Host.Outcome.next ((State.atUnit_exists he _).trans (if_pos hi))

theorem exec_lom_native {u : RxUnit} (he : s.unitExists u.val = true) (hi : s.interop u.val = false) :
    exec (.lom u) s = .next (s.lossOfMultiframe u.val) :=
  congrArg Host.Outcome.next ((State.atUnit_exists he _).trans (if_neg (by simp [hi])))

/-! ### FNO_JUMP (R215) -/

theorem State.fnoJump_follows {last : Tick × Bool} (hl : s.on F.LF_STAT_LOM e = false) (hp : (s.lineFrame e).pairOff = true)
    (h : (s.lineFrame e).last = some last) :
    ((s.fnoJump e).lineFrame e).expect = last.1 + 1 ∧ (s.fnoJump e).on F.LF_STICKY_FNO_JUMP (unitEngine e) = true ∧
      (s.fnoJump e).image = s.image ∧ s.OnlyRegs (s.fnoJump e) [.LF_STICKY] ∧ s.SameMemory (s.fnoJump e) := by
  rw [State.fnoJump, if_pos (by simp [hl, hp])]
  have keeps (f : LineFrame → LineFrame) :=
    (State.KeepsFrames.refl (s.modFrame e f) [.LF_STICKY]).raise F.LF_STICKY_FNO_JUMP (by decide) (unitEngine e)
  refine ⟨?_, State.on_raise rfl rfl (by decide) (by decide) .., State.raise_image .., (keeps _).regs, (keeps _).memory⟩
  rw [(keeps _).lineFrame_modFrame, h]
  rfl

theorem State.lineGroup_congr {s t : State} (h : t.image = s.image) (e : Nat) : t.lineGroup e = s.lineGroup e := by
  simp only [State.lineGroup, State.linePair, h]

/-- Outside a line pair a jump concerns the unit alone. -/
theorem exec_fnoJump_alone {u : RxUnit} (he : s.unitExists u.val = true) (hi : (s.fnoJump u.val).image = s.image)
    (hg : s.lineGroup u.val = none) : exec (.fnoJump u) s = .next (s.fnoJump u.val) := by
  refine congrArg Host.Outcome.next ((State.atUnit_exists he _).trans ?_)
  dsimp only
  rw [State.lineGroup_congr hi, hg]
  split
  · contradiction
  · rfl

/-! ### IN_FRAME (R210, R215) -/

theorem State.inFrame_declares {pos : Nat} (hi : s.interop e = false) (hs : s.searches e = true) (hh : (s.lineFrame e).held = false)
    (hp : pos ∈ (s.lineFrame e).confirmed) :
    ((s.inFrame e pos).lineFrame e).inFrame = true ∧ ((s.inFrame e pos).lineFrame e).pos = pos ∧
      (s.inFrame e pos).on F.LF_STAT_OOF e = false ∧ (s.inFrame e pos).on F.LF_STAT_LOM e = true ∧
      s.SameMemory (s.inFrame e pos) := by
  rw [State.inFrame, if_neg (by simp [hi]), if_neg (by simp [hs]), if_neg (by simp [hh]), if_pos (by simpa using hp),
    if_neg (by simp [hh])]
  have keeps (f : LineFrame → LineFrame) :=
    (((State.KeepsFrames.refl (s.modFrame e f) [.LF_ALIGN, .LF_STAT]).wr F.LF_ALIGN_CAND (by decide) e 0).setOof
      (by decide) (by decide) e false).setLom (by decide) (by decide) e true
  exact ⟨congrArg LineFrame.inFrame (keeps _).lineFrame_modFrame, congrArg LineFrame.pos (keeps _).lineFrame_modFrame,
    (State.on_oof_setLom ..).trans (State.on_setOof ..), State.on_setLom .., (keeps _).memory⟩

/-- Whether or not the receive contexts start with it, IN_FRAME leaves the framing and LF_STAT as the declaration does. -/
theorem exec_inFrame_keeps {u : RxUnit} (he : s.unitExists u.val = true) (ho : s.engineOn u.val = true) (pos : Nat) :
    ∃ t, exec (.inFrame u pos) s = .next t ∧ (s.inFrame u.val pos).KeepsFrames t [.SEC_CTX_STAT, .SEC_ESTICKY] := by
  have at_ : s.inFrameAt u.val pos = s.inFrame u.val pos := if_pos (by simp [he, ho])
  have same := State.KeepsFrames.refl (s.inFrame u.val pos) [.SEC_CTX_STAT, .SEC_ESTICKY]
  refine ⟨_, rfl, ?_⟩
  rw [at_]
  exact State.KeepsFrames.ite (same.startReceive (by decide) (by decide) _) same

end

/-- Settles O15: each event by the lemma about what its run declares. -/
theorem frameAlignmentFollowsItsRuns : Obligations.FrameAlignmentFollowsItsRuns := by
  intro u s he
  refine ⟨fun hn hi hb => ?_, fun hl ht => ?_, fun hl ht => ?_, fun hi hl hp => ?_, fun hi hl => ?_, fun hi hl hf => ?_,
    fun hi hl hb hp => ?_, fun last hl hp h hg => ?_, fun pos ho hi hs hh hp => ?_⟩
  · exact ⟨_, congrArg Host.Outcome.next (State.atUnit_exists he _), State.outOfFrame_declares hn hi hb⟩
  · obtain ⟨lof, sticky, keeps⟩ := State.lossOfFrame_declares hl ht
    exact ⟨_, congrArg Host.Outcome.next (State.atUnit_exists he _), lof, sticky, keeps.frames, keeps.regs, keeps.memory⟩
  · obtain ⟨lof, keeps⟩ := State.lossOfFrame_clears hl ht
    exact ⟨_, congrArg Host.Outcome.next (State.atUnit_exists he _), lof, keeps.frames, keeps.regs, keeps.memory⟩
  · exact ⟨_, exec_lom_native he hi, State.lossOfMultiframe_clears hl hp⟩
  · have keeps := (State.KeepsFrames.refl s [.LF_ALIGN, .LF_STAT]).setLom (by decide) (by decide) u.val false
    exact ⟨_, (exec_lom_interop he hi).trans (congrArg Host.Outcome.next (State.flexoMultiframe_clears hl)), State.on_setLom ..,
      keeps.frames, keeps.regs, keeps.memory⟩
  · obtain ⟨lom, sticky, keeps⟩ := s.raiseLom_declares u.val
    exact ⟨_, (exec_lom_interop he hi).trans (congrArg Host.Outcome.next (State.flexoMultiframe_eq_raise hl hf)), lom, sticky,
      keeps.frames, keeps.regs, keeps.memory⟩
  · obtain ⟨lom, sticky, keeps⟩ := s.raiseLom_declares u.val
    exact ⟨_, (exec_lom_native he hi).trans (congrArg Host.Outcome.next (State.lossOfMultiframe_eq_raise hl hb hp)), lom, sticky,
      keeps.frames, keeps.regs, keeps.memory⟩
  · obtain ⟨expect, sticky, image, regs, memory⟩ := State.fnoJump_follows hl hp h
    exact ⟨_, exec_fnoJump_alone he image hg, expect, sticky, regs, memory⟩
  · obtain ⟨inFrame, atPos, oof, lom, memory⟩ := State.inFrame_declares hi hs hh hp
    obtain ⟨t, exec, keeps⟩ := exec_inFrame_keeps he ho pos
    have frame := State.lineFrame_congr keeps.frames u.val
    exact ⟨t, exec, frame ▸ inFrame, frame ▸ atPos, (keeps.on_eq (by decide) (by decide) (by decide) _).trans oof,
      (keeps.on_eq (by decide) (by decide) (by decide) _).trans lom, memory.trans keeps.memory⟩

end Sys2Proof.Machine
end

section
/-! What a delivered frame counts, and the overhead accepted from delivered frames (O16). -/

namespace Sys2Proof.Machine

/-! ### The number expected next and the SBIP errors counted (R193, R197, R215) -/

/-- State `t` expects number `fno` from unit `e` next and has counted `n` SBIP errors in section `sec`; its memories are those of `s`. -/
structure State.Receiving (s t : State) (e : Nat) (fno : Tick) (sec n : Nat) : Prop where
  expect : (t.lineFrame e).expect = fno
  sbip : t.ctr ⟨.lf, 9, sec⟩ = n
  memory : s.SameMemory t

namespace State.Receiving

variable {s t u : State} {e sec n : Nat} {fno : Tick}

theorem start (s : State) (e sec : Nat) : s.Receiving s e (s.lineFrame e).expect sec (s.ctr ⟨.lf, 9, sec⟩) :=
  ⟨rfl, rfl, s.sameMemory_refl⟩

theorem keep {rs : List Reg} (h : s.Receiving t e fno sec n) (k : t.KeepsFrames u rs) : s.Receiving u e fno sec n :=
  ⟨(congrArg LineFrame.expect (State.lineFrame_congr k.frames e)).trans h.expect, (State.ctr_congr k.ctrs _).trans h.sbip,
    h.memory.trans k.memory⟩

theorem ite {c : Prop} [Decidable c] (h : s.Receiving t e fno sec n) (k : s.Receiving u e fno sec n) :
    s.Receiving (if c then t else u) e fno sec n := by
  split
  · exact h
  · exact k

/-- An update that is made under a condition only. -/
theorem whenever {c : Prop} [Decidable c] (h : s.Receiving t e fno sec n)
    (k : s.Receiving t e fno sec n → s.Receiving u e fno sec n) : s.Receiving (if c then u else t) e fno sec n := ite (k h) h

/-- An update that a condition prevents. -/
theorem skippedIf {c : Prop} [Decidable c] (h : s.Receiving t e fno sec n)
    (k : s.Receiving t e fno sec n → s.Receiving u e fno sec n) : s.Receiving (if c then t else u) e fno sec n := ite h (k h)

theorem modFrame {f : LineFrame → LineFrame} (h : s.Receiving t e fno sec n) (i : Nat)
    (hf : ∀ x, (f x).expect = x.expect := by exact fun _ => rfl) : s.Receiving (t.modFrame i f) e fno sec n := by
  refine ⟨Eq.trans ?_ h.expect, h.sbip, h.memory⟩
  rw [State.modFrame, State.lineFrame_setLineFrame]
  split
  next same => rw [hf, same]
  next => rfl

/-- Every delivered frame moves the expected number on by one (R215). -/
theorem track (h : s.Receiving t e fno sec n) (f : Tick) (valid : Bool) :
    s.Receiving (t.modFrame e (trackFno · f valid)) e (fno + 1) sec n :=
  ⟨by rw [State.lineFrame_modFrame_same, trackFno, h.expect], h.sbip, h.memory⟩

theorem countSbip (h : s.Receiving t e fno sec n) (k : Nat) :
    s.Receiving (t.count ⟨.lf, 9, sec⟩ k) e fno sec ((n + k) % 2 ^ 48) := by
  refine ⟨h.expect, ?_, h.memory⟩
  rw [← h.sbip, State.count, State.setCtr, State.ctr, Tab.get_put, if_pos rfl]

theorem countOther (h : s.Receiving t e fno sec n) {num : Nat} (hn : num % 256 ≠ 9) (i k : Nat) :
    s.Receiving (t.count ⟨.lf, num, i⟩ k) e fno sec n := by
  refine ⟨h.expect, Eq.trans ?_ h.sbip, h.memory⟩
  rw [State.count, State.setCtr, State.ctr, Tab.get_put, if_neg, ← State.ctr]
  simp only [Ctr.key, Prod.mk.injEq, CtrBank.code]
  omega

theorem raiseIf (h : s.Receiving t e fno sec n) (c : Bool) (f : Field) (i : Nat) : s.Receiving (t.raiseIf c f i) e fno sec n :=
  h.keep ((State.KeepsFrames.refl t [f.reg]).raiseIf c f (.head _) i)

theorem modSection (h : s.Receiving t e fno sec n) (i : Nat) (f : SecondCount → SecondCount) :
    s.Receiving (t.modSection i f) e fno sec n := ⟨h.expect, h.sbip, h.memory⟩

theorem countBlocks (h : s.Receiving t e fno sec n) (i ucw : Nat) (viol : Bool) (feb : Nat) :
    s.Receiving (t.countBlocks i ucw viol feb) e fno sec n := by
  unfold State.countBlocks
  exact .modSection (.countOther (.countOther (.modFrame h i) (by decide) ..) (by decide) ..) ..

theorem noteTaps (h : s.Receiving t e fno sec n) (i m : Nat) (taps : List Word) : s.Receiving (t.noteTaps i m taps) e fno sec n := by
  refine h.keep (rs := []) ((State.KeepsFrames.refl t []).each ?_ _)
  exact fun u _ => (State.KeepsFrames.refl u []).congr rfl ⟨rfl, rfl, rfl, rfl⟩ rfl rfl

theorem readShared (h : s.Receiving t e fno sec n) (i : Nat) (oh : Overhead) (phase : Nat) :
    s.Receiving (t.readShared i oh phase) e fno sec n := by
  have shown : s.Receiving (t.setReg .LF_MID_RX i oh.mid) e fno sec n := ⟨h.expect, h.sbip, h.memory⟩
  exact .noteTaps (.modFrame shown i) ..

theorem aisSlots (h : s.Receiving t e fno sec n) (u : Nat) (ucw : List Nat) : s.Receiving (t.aisSlots u ucw) e fno sec n :=
  ⟨h.expect, h.sbip, h.memory⟩

end State.Receiving

section

variable {s : State} {e : Nat}

/-- A frame of a unit that holds its position: the next number is expected, and its SBIP errors are counted unless codeword 0 is lost. -/
theorem State.deliverFrame_receiving (ho : s.engineOn e = true) (hn : s.native e = true)
    (hr : s.rd F.LE_STAT_RX_STATE (unitEngine e) = 5) (hh : (s.lineFrame e).held = true) (oh : Overhead) (sbip : Nat)
    (ucw : List Nat) (alone : Bool) :
    s.Receiving (s.deliverFrame e oh sbip ucw alone) e ((s.lineFrame e).expect + 1) (s.governor e)
      ((s.ctr ⟨.lf, 9, s.governor e⟩ + (if ucw.contains 0 then 0 else sbip)) % 2 ^ 48) := by
  rw [State.deliverFrame, if_neg (by simp [ho, hn, hr, hh])]
  -- The steps of the definition, the last one outermost: only `track` moves the number, only `countSbip` counts.
  refine .whenever (.raiseIf (.raiseIf (.countBlocks (.countSbip (.modFrame (.skippedIf (.skippedIf (.skippedIf
    (.track (.start s e _) _ _) ?bdi) ?shared) ?tt) e) _) ..) ..) ..) fun h => h.aisSlots e ucw
  case bdi => exact fun h => h.modFrame e
  case shared => exact fun h => h.readShared ..
  case tt => exact fun h => .raiseIf (.modFrame h e) ..

/-- Outside a line pair a delivered frame's encryption area is read after it (R289, R350). -/
theorem State.frameDelivered_alone (ho : s.engineOn e = true) (hn : s.native e = true)
    (hr : s.rd F.LE_STAT_RX_STATE (unitEngine e) = 5) (hh : (s.lineFrame e).held = true) (hg : s.lineGroup e = none)
    (oh : Overhead) (sbip : Nat) (ucw : List Nat) (enc : EncArea) :
    s.Receiving (s.frameDelivered e oh sbip ucw enc) e ((s.lineFrame e).expect + 1) (s.governor e)
      ((s.ctr ⟨.lf, 9, s.governor e⟩ + (if ucw.contains 0 then 0 else sbip)) % 2 ^ 48) := by
  rw [State.frameDelivered, if_neg (by simp [ho, hn, hr, hh])]
  dsimp only
  rw [hg]
  exact (State.deliverFrame_receiving ho hn hr hh oh sbip ucw true).keep ((State.KeepsFrames.refl _ _).readEnc ..)

/-! ### BDI, format and MID (R199, R200, R202) -/

/-- A live defect shows the value it takes, and beside it only SSF and its event may change. -/
theorem State.setLine_shows {stat sticky : Field} (hg : stat.good = true) (hw : stat.hi = stat.lo) (hs : stat.reg = .LF_STAT)
    (hk : sticky.reg = .LF_STICKY) (hx : F.LF_STAT_SSF.apart stat = true) (s : State) (e : Nat) (b : Bool) :
    (s.setLine stat sticky e b).on stat e = b ∧ s.KeepsFrames (s.setLine stat sticky e b) [.LF_STAT, .LF_STICKY] := by
  have shown : ((s.wrBool stat e b).showSsf e).on stat e = b := State.on_showSsf_wrBool hg hw hx s e b
  have keeps : s.KeepsFrames ((s.wrBool stat e b).showSsf e) [.LF_STAT, .LF_STICKY] :=
    ((State.KeepsFrames.refl s _).wr stat (by simp [hs]) e _).showSsf (by decide) e
  refine ⟨?_, keeps.raiseIf _ sticky (by simp [hk]) _⟩
  rw [State.setLine, State.raiseIf]
  split
  · exact (State.on_raise_ne (by simp [hs, hk]) (by simp [hs]) (by simp [hs]) ..).trans shown
  · exact shown

theorem State.acceptBdi_shows (h : 3 ≤ (s.lineFrame e).bdi.count) :
    (s.acceptBdi e).on F.LF_STAT_BDI_RX e = ((s.lineFrame e).bdi.value == 1) ∧
      s.KeepsFrames (s.acceptBdi e) [.LF_STAT, .LF_STICKY] := by
  rw [State.acceptBdi, if_pos h]
  exact State.setLine_shows rfl rfl rfl rfl rfl ..

theorem State.formatMismatch_shows (h : 3 ≤ (s.lineFrame e).fmtBad) :
    (s.formatMismatch e).on F.LF_STAT_FMT_MIS e = true ∧ s.KeepsFrames (s.formatMismatch e) [.LF_STAT, .LF_STICKY] := by
  rw [State.formatMismatch, if_pos h]
  exact State.setLine_shows rfl rfl rfl rfl rfl ..

theorem State.midMismatch_shows (hm : s.cfg F.LF_MID_EXP_MID (unitEngine e) ≠ 0) (hs : s.sectionSsf e = false)
    (h : 16 ≤ (s.lineFrame e).midBad) :
    (s.midMismatch e).on F.LF_STAT_MID_MIS e = true ∧ s.KeepsFrames (s.midMismatch e) [.LF_STAT, .LF_STICKY] := by
  rw [State.midMismatch, if_neg (by simp [hm, hs]), if_pos h]
  exact State.setLine_shows rfl rfl rfl rfl rfl ..

/-! ### LAPS and TAPS (R203) -/

theorem State.acceptLaps_accepts (h : 3 ≤ (s.lineFrame e).laps.count) (hg : s.lineGroup e = none) :
    s.acceptLaps e = s.modFrame e fun x => { x with lapsAcc := (s.lineFrame e).laps.value } := by
  have group (f : LineFrame → LineFrame) : (s.modFrame e f).lineGroup e = none := hg
  rw [State.acceptLaps, if_neg (by omega)]
  dsimp only
  rw [group]

/-- On a channel without a group the accepted value goes no further (R360). -/
theorem State.acceptTaps_accepts {ch : Nat} (h : 3 ≤ (s.tapsRun (2048 * e + ch)).count) (hg : s.groupDefined ch = false) :
    s.acceptTaps e ch = s.setTapsAcc (2048 * e + ch) (s.tapsRun (2048 * e + ch)).value := by
  have undefined (v : Nat) : (s.setTapsAcc (2048 * e + ch) v).groupDefined ch = false := hg
  rw [State.acceptTaps, if_neg (by omega)]
  dsimp only
  rw [if_neg (by simp [undefined])]

/-! ### Line time transfer (R204 to R206) -/

/-- The registers that an exchange of stamps may write. -/
def exchangeRegs : List Reg := [.TM_TS_DLY, .TM_TS_ASYM, .TM_TS_STAT, .TM_STICKY, .MS_QVAL]

namespace State.KeepsFrames

variable {t : State}

theorem modSource {rs : List Reg} (h : s.KeepsFrames t rs) (i : Nat) (f : TimeSource → TimeSource) :
    s.KeepsFrames (t.modSource i f) rs := h.congr rfl ⟨rfl, rfl, rfl, rfl⟩ rfl rfl

theorem publishLength (h : s.KeepsFrames t exchangeRegs) (e : Nat) (d : Int) : s.KeepsFrames (t.publishLength e d) exchangeRegs := by
  have drawn (v : Nat) := h.wr F.MS_QVAL_VAL (by decide) (16 * e + 14) v
  exact ite ((drawn _).congr rfl ⟨rfl, rfl, rfl, rfl⟩ rfl rfl) (drawn _)

theorem exchange (h : s.KeepsFrames t exchangeRegs) (e : Nat) (tt : TtContent) : s.KeepsFrames (t.exchange e tt) exchangeRegs := by
  have heard (f : TimeSource → TimeSource) := h.modSource (e + 2) f
  have measured {u : State} (hu : s.KeepsFrames u exchangeRegs) (f : TimeSource → TimeSource) (v w : Nat) (d : Int) :=
    (((hu.modSource (e + 2) f).wr F.TM_TS_DLY_VAL (by decide) (e + 2) v).wr F.TM_TS_ASYM_VAL (by decide) (e + 2) w).publishLength e d
  unfold State.exchange
  dsimp only
  split
  · refine ite (heard _) ?_
    split
    · refine raiseIf (whenever (wr ?_ F.TM_TS_STAT_STALE (by decide) ..) fun k => k.wr F.TM_TS_STAT_QUAL (by decide) ..) _
        F.TM_STICKY_ASYM_STALE (by decide) 0
      exact measured (whenever (heard _) fun k => k.modSource ..) ..
    · exact measured (whenever (heard _) fun k => k.modSource ..) ..
  · exact h

end State.KeepsFrames

theorem State.ttAccept_accepts (h : 3 ≤ (s.lineFrame e).ttRun) :
    ((s.ttAccept e).lineFrame e).ttAcc = (s.lineFrame e).ttRx ∧ s.SameMemory (s.ttAccept e) := by
  unfold State.ttAccept
  dsimp only
  split
  next same =>
    have same : (s.lineFrame e).ttRx = (s.lineFrame e).ttAcc := by simpa [Nat.not_lt.2 h] using same
    exact ⟨same.symm, s.sameMemory_refl⟩
  next =>
    have keeps (f : LineFrame → LineFrame) := State.KeepsFrames.refl (s.modFrame e f) exchangeRegs
    have accepted (f : LineFrame → LineFrame) := (keeps f).whenever (c := e < 16) (·.exchange e (s.lineFrame e).ttRx)
    exact ⟨congrArg LineFrame.ttAcc (accepted _).lineFrame_modFrame, (accepted _).memory⟩

@[simp] theorem State.lineFrame_modSource (s : State) (i : Nat) (f : TimeSource → TimeSource) (k : Nat) :
    (s.modSource i f).lineFrame k = s.lineFrame k := rfl

theorem State.ttLoad_loads (ht : s.tick.toNat % 256 = 128) (ho : s.engineOn e = true) (hn : s.native e = true) (dep : Stamp)
    (arrival : Option (Nat × Stamp)) :
    ((s.ttLoad e dep arrival).lineFrame e).ttTx.dep = dep ∧
      ((s.ttLoad e dep arrival).lineFrame e).ttTx.seq = (s.tick - 128).toNat / 256 % 65536 ∧
      (s.ttLoad e dep arrival).regs = s.regs ∧ s.SameMemory (s.ttLoad e dep arrival) := by
  rw [State.ttLoad, if_neg (by simp [ht, ho, hn])]
  dsimp only
  split
  all_goals
    refine ⟨?_, ?_, rfl, rfl, rfl, rfl, rfl⟩ <;> simp only [State.lineFrame_modSource, State.lineFrame_modFrame_same]

end

/-- Settles O16: a delivered frame by what each of its steps keeps, the others by the lemma about what their run accepts. -/
theorem overheadIsAcceptedAfterItsRuns : Obligations.OverheadIsAcceptedAfterItsRuns := by
  intro u s he
  refine ⟨fun oh sbip ucw enc ho hn hr hh hg => ?_, fun h => ?_, fun h => ?_, fun hm hs h => ?_, fun h hg => ?_, fun ch h hg => ?_,
    fun h => ?_, fun dep arr ht ho hn => ?_⟩
  · have delivered := State.frameDelivered_alone ho hn hr hh hg oh sbip.val ucw enc
    exact ⟨_, congrArg Host.Outcome.next (State.atUnit_exists he _), delivered.expect, delivered.sbip, delivered.memory⟩
  · obtain ⟨shown, keeps⟩ := State.acceptBdi_shows h
    exact ⟨_, congrArg Host.Outcome.next (State.atUnit_exists he _), shown, keeps.regs, keeps.memory⟩
  · obtain ⟨shown, keeps⟩ := State.formatMismatch_shows h
    exact ⟨_, congrArg Host.Outcome.next (State.atUnit_exists he _), shown, keeps.regs, keeps.memory⟩
  · obtain ⟨shown, keeps⟩ := State.midMismatch_shows hm hs h
    exact ⟨_, congrArg Host.Outcome.next (State.atUnit_exists he _), shown, keeps.regs, keeps.memory⟩
  · refine ⟨_, congrArg Host.Outcome.next ((State.atUnit_exists he _).trans (State.acceptLaps_accepts h hg)), ?_,
      rfl, rfl, rfl, rfl, rfl⟩
    rw [State.lineFrame_modFrame_same]
  · refine ⟨_, congrArg Host.Outcome.next ((State.atUnit_exists he _).trans (State.acceptTaps_accepts h hg)), ?_,
      rfl, rfl, rfl, rfl, rfl⟩
    rw [State.tapsAcc_setTapsAcc, if_pos rfl]
  · exact ⟨_, congrArg Host.Outcome.next (State.atUnit_exists he _), State.ttAccept_accepts h⟩
  · exact ⟨_, congrArg Host.Outcome.next (State.atUnit_exists he _), State.ttLoad_loads ht ho hn dep arr⟩

end Sys2Proof.Machine
end

section
/-! GCC frames between the buffers and the channels (O17). -/

namespace Sys2Proof.Machine

@[simp] theorem State.gcc_modGcc_same (s : State) (e ch : Nat) (f : Gcc → Gcc) :
    (s.modGcc e ch f).gcc (2 * e + ch) = f (s.gcc (2 * e + ch)) := by
  rw [State.modGcc, State.gcc_setGcc, if_pos rfl]

@[simp] theorem State.gcc_reply (s : State) (m : Initiator) (a : Answer) (k : Nat) : (s.reply m a).gcc k = s.gcc k := rfl

section

variable {s : State} {e ch : Nat}

/-! ### Receiving (R209) -/

/-- What a complete frame does on a channel that receives: it is dropped with its event, or stored behind its length word. -/
theorem State.gccReceive_eq (hs : s.sectionSsf (s.gccUnit e) = false) (hu : s.unitExists (s.gccUnit e) = true)
    (hc : s.gccExists e ch = true) (octets : List Byte) (how : GccEnd) :
    s.gccReceive e ch octets how =
      if how != .good || decide (2048 < octets.length) ||
          decide (16384 < gccRxUsed (s.gcc (2 * e + ch)) + 4 * (1 + (packWords octets).length)) then
        s.raise F.LF_STICKY_GCC_DROP (unitEngine e)
      else s.modGcc e ch fun g => { g with rx := g.rx ++ [BitVec.ofNat 32 octets.length :: packWords octets] } := by
  rw [State.gccReceive, if_neg (by simp [hs, hu, hc])]
  simp only [List.length_cons, Nat.add_comm 1]

theorem State.gccReceive_stores (hs : s.sectionSsf (s.gccUnit e) = false) (hu : s.unitExists (s.gccUnit e) = true)
    (hc : s.gccExists e ch = true) {octets : List Byte} (hl : octets.length ≤ 2048)
    (hf : gccRxUsed (s.gcc (2 * e + ch)) + 4 * (1 + (packWords octets).length) ≤ 16384) :
    s.gccReceive e ch octets .good =
      s.modGcc e ch fun g => { g with rx := g.rx ++ [BitVec.ofNat 32 octets.length :: packWords octets] } := by
  rw [State.gccReceive_eq hs hu hc, if_neg (by simpa using ⟨hl, hf⟩)]

theorem State.gccReceive_drops (hs : s.sectionSsf (s.gccUnit e) = false) (hu : s.unitExists (s.gccUnit e) = true)
    (hc : s.gccExists e ch = true) (octets : List Byte) {how : GccEnd} (hh : how ≠ .good) :
    s.gccReceive e ch octets how = s.raise F.LF_STICKY_GCC_DROP (unitEngine e) := by
  rw [State.gccReceive_eq hs hu hc, if_pos (by simp [hh])]

/-! ### The ports of a master (R209, R429) -/

/-- The last word of a frame that fits completes it for the transmitter. -/
theorem State.gccWrite_completes {w : GccWriting} (h : (s.gcc (2 * e + ch)).writing = some w) (hb : w.bad = false)
    (hw : wordsOf w.len = w.words.length + 1) (v : Word) :
    s.gccWrite e ch v =
      s.modGcc e ch fun g => { g with writing := none, tx := g.tx ++ [(unpackWords (w.words ++ [v])).take w.len] } := by
  have full : wordsOf w.len ≤ (w.words ++ [v]).length := Nat.le_of_eq (by rw [hw, List.length_append, List.length_singleton])
  unfold State.gccWrite
  simp only [h]
  rw [if_pos full]
  simp only [hb, Bool.false_eq_true, if_false]

variable {m : Initiator}

theorem exec_lfGccTxdWrite_alone (h : s.Alone) (he : s.engineExists e = true) (hm : s.engineSel m = e) (ch : Fin 2) (v : Word) :
    exec (.lfGccTxdWrite m ch v) s = .next ((s.gccWrite e ch.val v).reply m (.ok 0)) := by
  subst hm
  exact congrArg Host.Outcome.next ((State.atEngine_exists he ..).trans (State.write_alone h ..))

/-- Outside a mate pair a read enters no journal. -/
theorem State.journalRead_alone (h : s.Alone) (m : Initiator) (w : Write) : s.journalRead m w = s :=
  if_neg (by simp [h.2])

theorem exec_lfGccRxdRead_alone (h : s.Alone) (he : s.engineExists e = true) (hm : s.engineSel m = e) (ch : Fin 2) :
    exec (.lfGccRxdRead m ch) s =
      .next ((s.modGcc e ch.val Gcc.popWord).reply m (.ok ((s.gcc (2 * e + ch.val)).next.getD 0))) := by
  subst hm
  have popped : (s.modGcc (s.engineSel m) ch.val Gcc.popWord).Alone := h
  exact congrArg Host.Outcome.next ((State.atEngine_exists he ..).trans
    (congrArg (·.reply m (.ok ((s.gcc (2 * s.engineSel m + ch.val)).next.getD 0))) (State.journalRead_alone popped ..)))

end

/-- Settles O17: a frame is stored or dropped by its end, a written one is complete with its last word, and a read pops a word. -/
theorem gccFramesPassTheBuffers : Obligations.GccFramesPassTheBuffers := by
  refine fun e ch s => ⟨fun octets hs hu hc hl hf => ?_, fun octets how hs hu hc hh => ?_, fun m v w ha he hm h hb hw => ?_,
    fun m ha he hm => ?_⟩
  · refine ⟨_, congrArg Host.Outcome.next (State.gccReceive_stores hs hu hc hl hf), ?_, rfl, rfl, rfl, rfl, rfl⟩
    rw [State.gcc_modGcc_same]
  · exact ⟨_, congrArg Host.Outcome.next (State.gccReceive_drops hs hu hc octets hh), State.raise_gccs ..,
      State.on_raise rfl rfl (by decide) (by decide) .., State.raise_sameMemory ..⟩
  · refine ⟨_, exec_lfGccTxdWrite_alone ha he hm ch v, ?_⟩
    rw [State.gccWrite_completes h hb hw]
    exact ⟨by simp, by simp, State.answer_reply .., rfl, rfl, rfl, rfl, rfl⟩
  · refine ⟨_, exec_lfGccRxdRead_alone ha he hm ch, State.answer_reply .., ?_, rfl, rfl, rfl, rfl, rfl⟩
    rw [State.gcc_reply, State.gcc_modGcc_same]

end Sys2Proof.Machine
end

section
/-! Controls of a line engine outside a mate pair, and the start of a transfer on its optics interface (O21). -/

namespace Sys2Proof.Machine

/-! ### Fields through a mask, and frames of one copy through one more update -/

/-- A mask that covers a field leaves its value. -/
theorem Field.get_and {f : Field} (h : f.good = true) {n : Nat} (hn : f.mask &&& n = f.mask) (w : Word) :
    f.get (w &&& BitVec.ofNat 32 n) = f.get w := by
  apply Nat.eq_of_testBit_eq
  intro k
  rw [Field.testBit_get, Field.testBit_get]
  by_cases hk : k < f.width
  · have hm : (BitVec.ofNat 32 f.mask).getLsbD (f.lo + k) = true := by
      have hw : f.width = f.hi - f.lo + 1 := rfl
      have hg := h
      simp only [Field.good, Bool.and_eq_true, Nat.ble_eq] at hg
      rw [Field.getLsbD_mask h]
      simp
      omega
    rw [← hn, BitVec.ofNat_and, BitVec.getLsbD_and, Bool.and_eq_true] at hm
    rw [BitVec.getLsbD_and, hm.2, Bool.and_true]
  · simp [hk]

/-- A field of a register written as a whole reads as the word has it. -/
theorem State.rd_setReg {f : Field} (h : f.good = true) (s : State) (i : Nat) (v : Word) : (s.setReg f.reg i v).rd f i = f.get v := by
  have covers : f.mask &&& f.reg.info.impl = f.mask := by
    simp only [Field.good, Bool.and_eq_true, beq_iff_eq] at h
    exact h.2
  rw [State.rd, State.reg_setReg, if_pos ⟨rfl, rfl⟩, Field.get_and h covers]

theorem State.OnlyAt.wr {s t : State} {i : Nat} {rs : List Reg} (h : s.OnlyAt t i rs) (f : Field) (hf : f.reg ∈ rs) (v : Nat) :
    s.OnlyAt (t.wr f i v) i rs := h.trans (State.onlyAt_wr t hf i v)

theorem State.OnlyAt.setReg {s t : State} {i : Nat} {rs : List Reg} (h : s.OnlyAt t i rs) (r : Reg) (hr : r ∈ rs) (v : Word) :
    s.OnlyAt (t.setReg r i v) i rs := h.trans (State.onlyAt_setReg t hr i v)

theorem State.OnlyAt.raise {s t : State} {i : Nat} {rs : List Reg} (h : s.OnlyAt t i rs) (f : Field) (hf : f.reg ∈ rs) :
    s.OnlyAt (t.raise f i) i rs := h.trans (State.onlyAt_raise t hf i)

/-- Beside its registers, a frame of one copy says nothing of a state. -/
theorem State.OnlyAt.congr {s t u : State} {i : Nat} {rs : List Reg} (h : s.OnlyAt t i rs) (hu : u.regs = t.regs) :
    s.OnlyAt u i rs := h.trans (State.onlyAt_of_regs hu i rs)

/-! ### What the engines hold -/

theorem State.engine_congr {s t : State} (h : t.engines = s.engines) (k : Nat) : t.engine k = s.engine k := by
  simp only [State.engine, h]

@[simp] theorem State.engine_modEngine_same (s : State) (e : Nat) (f : Engine → Engine) : (s.modEngine e f).engine e = f (s.engine e) := by
  rw [State.modEngine, State.engine_setEngine, if_pos rfl]

theorem State.engine_modEngine_ne {e k : Nat} (h : k ≠ e) (s : State) (f : Engine → Engine) :
    (s.modEngine e f).engine k = s.engine k := by
  rw [State.modEngine, State.engine_setEngine, if_neg h.symm]

@[simp] theorem State.rd_modEngine (s : State) (e : Nat) (g : Engine → Engine) (f : Field) (i : Nat) :
    (s.modEngine e g).rd f i = s.rd f i := rfl

@[simp] theorem State.engine_reply (s : State) (m : Initiator) (a : Answer) (k : Nat) : (s.reply m a).engine k = s.engine k := rfl

section

variable {s : State} {m : Initiator} {e : Nat}

/-! ### The controls (R245, R247, R251, R252) -/

/-- Outside a mate pair a control of an engine that exists is taken at once and answered. -/
theorem State.atEngine_write_alone (ha : s.Alone) (he : s.engineExists (s.engineSel m) = true) (a : Nat) (w : Nat → Write)
    (eff : Nat → State → State) :
    s.atEngine m true a (fun e => s.write m a (w e) (eff e)) = (eff (s.engineSel m) s).reply m (.ok 0) :=
  (State.atEngine_exists he ..).trans (State.write_alone ha ..)

/-- What a written TX_EN makes of a driver fault: it ends with the 1 that follows a 0 (R251). -/
def Engine.ackTxEn (x : Engine) (on : Bool) : Engine :=
  if !x.driverFault then x
  else if !on then { x with driverAck := true }
  else if x.driverAck then { x with driverFault := false, driverAck := false }
  else x

theorem Engine.driverFault_ackTxEn (x : Engine) (on : Bool) :
    (x.ackTxEn on).driverFault = (x.driverFault && !(on && x.driverAck)) := by
  unfold Engine.ackTxEn
  cases hf : x.driverFault <;> cases on <;> cases ha : x.driverAck <;> simp [hf]

theorem Engine.driverAck_ackTxEn {x : Engine} (h : x.driverFault = true) : (x.ackTxEn false).driverAck = true := by
  simp [Engine.ackTxEn, h]

theorem State.writeTxEn_eq (s : State) (e : Nat) (on : Bool) :
    s.writeTxEn e on = (s.wrBool F.LE_CTRL_TX_EN e on).modEngine e (·.ackTxEn on) := rfl

/-! ### The optics interface (R267) -/

/-- The register of the interface with a transfer started. -/
def State.startSpi (s : State) (e : Nat) (v : Word) : State :=
  (s.setReg .LE_SPI_CTRL e (v &&& 0x0000FFFF#32)).wr F.LE_SPI_CTRL_BUSY e 1

/-- A field among the low half of LE_SPI_CTRL is as written once a transfer is started. -/
theorem State.rd_startSpi {f : Field} (hr : f.reg = .LE_SPI_CTRL) (hg : f.good = true) (hm : f.mask &&& 0xFFFF = f.mask)
    (hb : F.LE_SPI_CTRL_BUSY.apart f = true) (s : State) (e : Nat) (v : Word) : (s.startSpi e v).rd f e = f.get v := by
  rw [State.startSpi, State.rd_wr_apart hb, ← hr, State.rd_setReg hg, Field.get_and hg hm]

theorem State.on_startSpi (s : State) (e : Nat) (v : Word) : (s.startSpi e v).on F.LE_SPI_CTRL_BUSY e = true :=
  State.on_wr rfl rfl _ e true

theorem State.spiData_startSpi (s : State) (e : Nat) (v : Word) : (s.startSpi e v).spiData e = s.spiData e := by
  have same {r : Reg} (h : r ≠ .LE_SPI_CTRL) : (s.startSpi e v).reg r e = s.reg r e := by
    rw [State.startSpi, State.reg_wr_ne (.inl h.symm), State.reg_setReg, if_neg fun k => h k.1.symm]
  rw [State.spiData, same (by decide), same (by decide), State.spiData]

/-- GO on a free interface sends the shift register. -/
theorem State.spiGo_free (h : s.on F.LE_SPI_CTRL_BUSY e = false) (v : Word) :
    s.spiGo e v = (s.startSpi e v).send
      (.optics e (F.LE_SPI_CTRL_CS.get v) (spiLen (F.LE_SPI_CTRL_LEN.get v)) (s.spiData e)) := by
  rw [← State.rd_startSpi (f := F.LE_SPI_CTRL_CS) rfl rfl rfl rfl s e v,
    ← State.rd_startSpi (f := F.LE_SPI_CTRL_LEN) rfl rfl rfl rfl s e v, ← s.spiData_startSpi e v]
  exact if_neg (by simp [h])

theorem State.spiGo_busy (h : s.on F.LE_SPI_CTRL_BUSY e = true) (v : Word) : s.spiGo e v = s.raise F.LE_STICKY_SPI_ERR e := if_pos h

end

/-- Settles O21: outside a mate pair each control has its own effect at once; the start of a transfer by the fields as written. -/
theorem engineControlsAreTaken : Obligations.EngineControlsAreTaken := by
  rintro m e s ha rfl he
  have taken (a : Nat) (w : Nat → Write) (eff : Nat → State → State) :=
    congrArg (Host.Outcome.next (φ := Fault) (ρ := Refusal)) (State.atEngine_write_alone (m := m) ha he a w eff)
  have same (rs : List Reg) : s.OnlyAt s (s.engineSel m) rs := State.onlyAt_of_regs rfl _ rs
  refine ⟨fun p => ⟨_, taken _ _ fun e t => t.wr F.LE_CTRL_PSTATE e p.val, ?_⟩, fun on => ⟨_, taken _ _ fun e t => t.writeTxEn e on, ?_⟩,
    fun on => ⟨_, taken _ _ fun e t => t.wrBool F.LE_CTRL_LASER_EN e on, ?_⟩, fun v => ⟨_, taken _ _ fun e t => t.setReg .LE_DRV e v, ?_⟩,
    ⟨_, taken _ _ fun e t => t.later (.acqRestart e), ?_⟩, fun v hb => ⟨_, taken _ _ fun e t => t.spiGo e v, ?_⟩,
    fun v hb => ⟨_, taken _ _ fun e t => t.spiGo e v, ?_⟩⟩
  · refine ⟨?_, ?_, rfl, State.answer_reply .., (same _).wr F.LE_CTRL_PSTATE (by decide) _, rfl, rfl, rfl, rfl⟩
    · rw [State.rd_reply, State.rd_wr_fits rfl p.isLt]
    · rw [State.rd_reply, State.rd_wr_apart rfl]
  · rw [State.writeTxEn_eq]
    refine ⟨State.on_wr rfl rfl s _ on, ?_, ?_, fun hf hn => ?_, fun i hi => ?_, State.answer_reply ..,
      (same _).wr F.LE_CTRL_TX_EN (by decide) _, rfl, rfl, rfl, rfl⟩
    · rw [State.rd_reply, State.rd_modEngine, State.wrBool, State.rd_wr_apart rfl]
    · rw [State.engine_reply, State.engine_modEngine_same, Engine.driverFault_ackTxEn]
      rfl
    · rw [State.engine_reply, State.engine_modEngine_same, hn]
      exact Engine.driverAck_ackTxEn hf
    · rw [State.engine_reply, State.engine_modEngine_ne hi]
      rfl
  · refine ⟨State.on_wr rfl rfl s _ on, rfl, ?_, State.answer_reply .., (same _).wr F.LE_CTRL_LASER_EN (by decide) _, rfl, rfl, rfl, rfl⟩
    rw [State.rd_reply, State.wrBool, State.rd_wr_apart rfl]
  · exact ⟨State.rd_setReg (f := F.LE_DRV_ATTEN) rfl s _ v, rfl, State.answer_reply .., (same _).setReg .LE_DRV (by decide) _,
      rfl, rfl, rfl, rfl⟩
  · exact ⟨rfl, rfl, rfl, State.answer_reply .., rfl, rfl, rfl, rfl⟩
  · rw [State.spiGo_free hb]
    exact ⟨s.on_startSpi _ v, State.rd_startSpi (f := F.LE_SPI_CTRL_LEN) rfl rfl rfl rfl s _ v, rfl, State.answer_reply ..,
      ((same _).setReg .LE_SPI_CTRL (by decide) _).wr F.LE_SPI_CTRL_BUSY (by decide) 1, rfl, rfl, rfl, rfl⟩
  · rw [State.spiGo_busy hb]
    exact ⟨State.on_raise rfl rfl (by decide) (by decide) s _, (same _).raise F.LE_STICKY_SPI_ERR (by decide),
      State.raise_sameMemory s ..⟩

end Sys2Proof.Machine
end

section
/-! Line engines: what the shared updates of an engine write, and what they leave unchanged. -/

namespace Sys2Proof.Machine

/-! ### Fields beside those written -/

theorem Field.apart_of_reg_ne {f g : Field} (h : f.reg ≠ g.reg) : f.apart g = true := by simp [Field.apart, h]

/-- A raised event leaves the fields beside its own alone, those of its own register too. -/
theorem State.rd_raise_apart {f g : Field} (h : f.apart g = true) (h1 : g.reg ≠ .EV_STICKY) (h2 : g.reg ≠ .EV_SRC_CNT) (s : State)
    (i j : Nat) : (s.raise f i).rd g j = s.rd g j := by
  have hw : (s.wr f i 1).rd g j = s.rd g j := State.rd_wr_apart h s i 1 j
  have report (t : State) (a b c d : Nat) : (t.report a b c d).rd g j = t.rd g j := by
    rw [State.rd, State.report_reg t a b c d h1 h2, ← State.rd]
  unfold State.raise
  dsimp only
  split
  · rfl
  · split
    · exact hw
    · split <;> split <;> simp only [report, hw]

theorem State.OnlyRegs.rd_eq {s t : State} {rs : List Reg} (h : s.OnlyRegs t rs) {f : Field} (h0 : f.reg ∉ rs)
    (h1 : f.reg ≠ .EV_STICKY) (h2 : f.reg ≠ .EV_SRC_CNT) (i : Nat) : t.rd f i = s.rd f i :=
  congrArg f.get (h f.reg i h0 h1 h2)

/-- LOS is shown in LF_STAT. -/
theorem State.rd_showLos {f : Field} (h : f.reg ≠ .LF_STAT) (s : State) (e : Nat) (b : Bool) (i : Nat) :
    (s.showLos e b).rd f i = s.rd f i := by
  refine State.each_keeps (State.rd · f i) (fun t u => ?_) _ s
  rw [State.rd_showSsf (Field.apart_of_reg_ne h.symm), State.wrBool, State.rd_wr_reg (.inl h.symm)]

/-- A dropped frame shows in LF_STAT and LF_ALIGN. -/
theorem State.rd_dropFrame {f : Field} (h : f.reg ≠ .LF_STAT) (ha : f.reg ≠ .LF_ALIGN) (s : State) (e i : Nat) :
    (s.dropFrame e).rd f i = s.rd f i := by
  refine State.each_keeps (State.rd · f i) (fun t u => ?_) _ s
  rw [State.dropUnit, State.setOof, State.rd_showSsf (Field.apart_of_reg_ne h.symm), State.wrBool, State.rd_wr_reg (.inl h.symm),
    State.wrBool, State.rd_wr_reg (.inl ha.symm)]
  rfl

/-- The locks are shown in LE_EQ_STAT. -/
theorem State.rd_clearLocks {f : Field} (h : f.reg ≠ .LE_EQ_STAT) (s : State) (e i : Nat) : (s.clearLocks e).rd f i = s.rd f i := by
  rw [State.clearLocks, State.rd_wr_reg (.inl h.symm), State.rd_wr_reg (.inl h.symm), State.rd_wr_reg (.inl h.symm)]

theorem State.on_clkLock_clearLocks (s : State) (e : Nat) : (s.clearLocks e).on F.LE_EQ_STAT_CLK_LOCK e = false :=
  State.on_wr rfl rfl _ e false

/-- Entering a receive state writes that state and LF_STAT. -/
theorem State.rd_enterRx {f : Field} (h : F.LE_STAT_RX_STATE.apart f = true) (hl : f.reg ≠ .LF_STAT) (s : State) (e st i : Nat) :
    (s.enterRx e st).rd f i = s.rd f i := by
  rw [State.enterRx, State.rd_modEngine, State.rd_showLos hl, State.rd_wr_apart h]

theorem State.rxState_enterRx {st : Nat} (h : st < 8) (s : State) (e : Nat) : (s.enterRx e st).rd F.LE_STAT_RX_STATE e = st := by
  rw [State.enterRx, State.rd_modEngine, State.rd_showLos (by decide), State.rd_wr_fits rfl h]

/-! ### Memories through one more update -/

theorem State.SameMemory.wr {s t : State} (h : s.SameMemory t) (f : Field) (i v : Nat) : s.SameMemory (t.wr f i v) := h

theorem State.SameMemory.modEngine {s t : State} (h : s.SameMemory t) (e : Nat) (f : Engine → Engine) :
    s.SameMemory (t.modEngine e f) := h

theorem State.SameMemory.raise {s t : State} (h : s.SameMemory t) (f : Field) (i : Nat) : s.SameMemory (t.raise f i) :=
  h.trans (t.raise_sameMemory f i)

/-! ### What the engines hold -/

@[simp] theorem State.engine_wr (s : State) (f : Field) (i v k : Nat) : (s.wr f i v).engine k = s.engine k := rfl

@[simp] theorem State.engine_raise (s : State) (f : Field) (i k : Nat) : (s.raise f i).engine k = s.engine k :=
  State.engine_congr (State.raise_engines ..) k

@[simp] theorem State.engines_showSsf (s : State) (e : Nat) : (s.showSsf e).engines = s.engines := by
  refine State.each_keeps State.engines (fun t i => ?_) _ s
  rfl

@[simp] theorem State.engine_showLos (s : State) (e : Nat) (b : Bool) (k : Nat) : (s.showLos e b).engine k = s.engine k := by
  refine State.engine_congr (State.each_keeps State.engines (fun t u => ?_) _ s) k
  exact State.engines_showSsf ..

@[simp] theorem State.engine_dropFrame (s : State) (e k : Nat) : (s.dropFrame e).engine k = s.engine k := by
  refine State.engine_congr (State.each_keeps State.engines (fun t u => ?_) _ s) k
  exact State.engines_showSsf ..

@[simp] theorem State.engine_clearLocks (s : State) (e k : Nat) : (s.clearLocks e).engine k = s.engine k := rfl

/-- An engine whose receive side takes a state holds the time of it. -/
@[simp] theorem State.engine_enterRx (s : State) (e st : Nat) :
    (s.enterRx e st).engine e = { s.engine e with since := s.now } := by
  rw [State.enterRx, State.engine_modEngine_same, State.engine_showLos, State.engine_wr]

/-! ### The frame of the updates of one engine -/

/-- Of the registers only those listed may differ; every other engine and the memories are the same. -/
structure State.OnlyEngine (s t : State) (e : Nat) (rs : List Reg) : Prop where
  engines : ∀ k, k ≠ e → t.engine k = s.engine k
  regs : s.OnlyRegs t rs
  memory : s.SameMemory t

namespace State.OnlyEngine

variable {s t : State} {e : Nat} {rs : List Reg}

theorem refl (s : State) (e : Nat) (rs : List Reg) : s.OnlyEngine s e rs := ⟨fun _ _ => rfl, s.onlyRegs_refl rs, s.sameMemory_refl⟩

theorem wr (h : s.OnlyEngine t e rs) (f : Field) (hf : f.reg ∈ rs) (i v : Nat) : s.OnlyEngine (t.wr f i v) e rs :=
  ⟨h.engines, h.regs.wr f hf i v, h.memory⟩

theorem raise (h : s.OnlyEngine t e rs) (f : Field) (hf : f.reg ∈ rs) (i : Nat) : s.OnlyEngine (t.raise f i) e rs :=
  ⟨fun k hk => (t.engine_raise f i k).trans (h.engines k hk), h.regs.raise f hf i, h.memory.raise f i⟩

theorem modEngine (h : s.OnlyEngine t e rs) (f : Engine → Engine) : s.OnlyEngine (t.modEngine e f) e rs :=
  ⟨fun k hk => (State.engine_modEngine_ne hk t f).trans (h.engines k hk), h.regs, h.memory⟩

theorem modFrame (h : s.OnlyEngine t e rs) (u : Nat) (f : LineFrame → LineFrame) : s.OnlyEngine (t.modFrame u f) e rs :=
  ⟨h.engines, h.regs, h.memory⟩

theorem ite {u : State} {c : Prop} [Decidable c] (h : s.OnlyEngine t e rs) (k : s.OnlyEngine u e rs) :
    s.OnlyEngine (if c then t else u) e rs := by
  split
  · exact h
  · exact k

theorem each (h : s.OnlyEngine t e rs) {α : Type} {f : State → α → State}
    (hf : ∀ {u : State} x, s.OnlyEngine u e rs → s.OnlyEngine (f u x) e rs) (l : List α) : s.OnlyEngine (t.each l f) e rs := by
  induction l generalizing t with
  | nil => exact h
  | cons x l ih => exact ih (hf x h)

theorem showSsf (h : s.OnlyEngine t e rs) (hr : Reg.LF_STAT ∈ rs) (u : Nat) : s.OnlyEngine (t.showSsf u) e rs :=
  h.each (fun i k => k.wr F.LF_STAT_SSF hr i _) _

theorem showLos (h : s.OnlyEngine t e rs) (hr : Reg.LF_STAT ∈ rs) (b : Bool) : s.OnlyEngine (t.showLos e b) e rs :=
  h.each (fun u k => (k.wr F.LF_STAT_LOS hr u _).showSsf hr u) _

theorem dropFrame (h : s.OnlyEngine t e rs) (hr : Reg.LF_STAT ∈ rs) (ha : Reg.LF_ALIGN ∈ rs) : s.OnlyEngine (t.dropFrame e) e rs :=
  h.each (fun u k => (((k.modFrame u _).wr F.LF_ALIGN_OOF ha u _).wr F.LF_STAT_OOF hr u _).showSsf hr u) _

theorem clearLocks (h : s.OnlyEngine t e rs) (hr : Reg.LE_EQ_STAT ∈ rs) : s.OnlyEngine (t.clearLocks e) e rs :=
  ((h.wr F.LE_EQ_STAT_CR_LOCK hr e 0).wr F.LE_EQ_STAT_MIMO_LOCK hr e 0).wr F.LE_EQ_STAT_CLK_LOCK hr e 0

theorem enterRx (h : s.OnlyEngine t e rs) (hs : Reg.LE_STAT ∈ rs) (hr : Reg.LF_STAT ∈ rs) (st : Nat) :
    s.OnlyEngine (t.enterRx e st) e rs := ((h.wr F.LE_STAT_RX_STATE hs e st).showLos hr _).modEngine _

theorem restartFreq (h : s.OnlyEngine t e rs) (hs : Reg.LE_STAT ∈ rs) (hq : Reg.LE_EQ_STAT ∈ rs) (hr : Reg.LF_STAT ∈ rs)
    (full : Bool) : s.OnlyEngine (t.restartFreq e full) e rs := by
  unfold State.restartFreq
  exact ((h.enterRx hs hr 2).clearLocks hq).modEngine _

theorem startInLos (h : s.OnlyEngine t e rs) (hs : Reg.LE_STAT ∈ rs) (hq : Reg.LE_EQ_STAT ∈ rs) (hr : Reg.LF_STAT ∈ rs)
    (ha : Reg.LF_ALIGN ∈ rs) : s.OnlyEngine (t.startInLos e) e rs :=
  (((h.enterRx hs hr 1).clearLocks hq).modEngine _).dropFrame hr ha

theorem enterLos (h : s.OnlyEngine t e rs) (hs : Reg.LE_STAT ∈ rs) (hk : Reg.LE_STICKY ∈ rs) (hq : Reg.LE_EQ_STAT ∈ rs)
    (hr : Reg.LF_STAT ∈ rs) (ha : Reg.LF_ALIGN ∈ rs) : s.OnlyEngine (t.enterLos e) e rs :=
  ((((h.enterRx hs hr 1).clearLocks hq).modEngine _).dropFrame hr ha).raise F.LE_STICKY_LOS hk e

end State.OnlyEngine

end Sys2Proof.Machine
end

section
/-! Power states, ramps and faults of a line engine, and the end of a transfer on its optics interface (O22). -/

namespace Sys2Proof.Machine

section

variable {s : State} {e : Nat}

/-! ### Power states (R245) -/

theorem State.powerWanted_le (s : State) (e : Nat) : s.powerWanted e ≤ 2 := by
  unfold State.powerWanted
  split
  · exact Nat.zero_le 2
  · exact Nat.min_le_right ..

theorem State.powerReached_reached (he : s.engineExists e = true) (h : s.rd F.LE_STAT_PSTATE e < s.powerWanted e) :
    s.powerReached e = s.setPower e (s.powerWanted e) := if_pos (by simp [he, h])

theorem State.powerReached_idle (h : s.powerWanted e ≤ s.rd F.LE_STAT_PSTATE e) : s.powerReached e = s :=
  if_neg (by simp; omega)

/-- The registers in which a power state shows. -/
def powerRegs : List Reg := [.LE_STAT, .LE_EQ_STAT, .LF_STAT, .LF_ALIGN]

/-- An engine that is ON is READY to transmit and receives from LOS. -/
theorem State.setPower_on (s : State) (e : Nat) :
    (s.setPower e 2).rd F.LE_STAT_PSTATE e = 2 ∧ (s.setPower e 2).txState e = 1 ∧ (s.setPower e 2).rxState e = 1 ∧
      ((s.setPower e 2).engine e).fresh = true ∧ s.OnlyEngine (s.setPower e 2) e powerRegs := by
  have eq : s.setPower e 2 = ((s.wr F.LE_STAT_PSTATE e 2).wr F.LE_STAT_TX_STATE e 1).startInLos e := rfl
  rw [eq]
  refine ⟨?_, ?_, ?_, ?_, ?_⟩
  · simp (disch := decide) [State.startInLos, State.rd_dropFrame, State.rd_clearLocks, State.rd_enterRx, State.rd_wr_apart, State.rd_wr_fits]
  · simp (disch := decide) [State.txState, State.startInLos, State.rd_dropFrame, State.rd_clearLocks, State.rd_enterRx, State.rd_wr_fits]
  · simp (disch := decide) [State.rxState, State.startInLos, State.rd_dropFrame, State.rd_clearLocks, State.rxState_enterRx]
  · simp [State.startInLos]
  · exact (((State.OnlyEngine.refl s e powerRegs).wr F.LE_STAT_PSTATE (by decide) e 2).wr F.LE_STAT_TX_STATE (by decide) e 1).startInLos
      (by decide) (by decide) (by decide) (by decide)

/-- Below ON both directions are OFF. -/
theorem State.setPower_off {p : Nat} (hp : p ≠ 2) (h4 : p < 4) :
    (s.setPower e p).rd F.LE_STAT_PSTATE e = p ∧ (s.setPower e p).txState e = 0 ∧ (s.setPower e p).rxState e = 0 ∧
      s.OnlyEngine (s.setPower e p) e powerRegs := by
  have eq : s.setPower e p = ((((((s.wr F.LE_STAT_PSTATE e p).wr F.LE_STAT_TX_STATE e 0).wr F.LE_STAT_LEVEL e 0).modEngine e fun x =>
      { x with ramp := none, laserRamp := none, swingRamp := none, laser := 0, fresh := false }).enterRx e 0).clearLocks e).dropFrame e :=
    if_neg (by simpa using hp)
  rw [eq]
  refine ⟨?_, ?_, ?_, ?_⟩
  · rw [State.rd_dropFrame (by decide) (by decide), State.rd_clearLocks (by decide), State.rd_enterRx rfl (by decide),
      State.rd_modEngine, State.rd_wr_apart rfl, State.rd_wr_apart rfl, State.rd_wr_fits rfl h4]
  · simp (disch := decide) [State.txState, State.rd_dropFrame, State.rd_clearLocks, State.rd_enterRx, State.rd_wr_apart, State.rd_wr_fits]
  · simp (disch := decide) [State.rxState, State.rd_dropFrame, State.rd_clearLocks, State.rxState_enterRx]
  · exact ((((((State.OnlyEngine.refl s e powerRegs).wr F.LE_STAT_PSTATE (by decide) e p).wr F.LE_STAT_TX_STATE (by decide) e 0).wr
      F.LE_STAT_LEVEL (by decide) e 0).modEngine _).enterRx (by decide) (by decide) 0 |>.clearLocks (by decide)).dropFrame
      (by decide) (by decide)

/-- A power state above the present one is reached with all that it brings. -/
theorem State.powerReached_reaches (he : s.engineExists e = true) (h : s.rd F.LE_STAT_PSTATE e < s.powerWanted e) :
    (s.powerReached e).rd F.LE_STAT_PSTATE e = s.powerWanted e ∧
      (s.powerWanted e = 2 → (s.powerReached e).txState e = 1 ∧ (s.powerReached e).rxState e = 1 ∧
        ((s.powerReached e).engine e).fresh = true) ∧
      (s.powerWanted e = 1 → (s.powerReached e).txState e = 0 ∧ (s.powerReached e).rxState e = 0) ∧
      s.OnlyEngine (s.powerReached e) e powerRegs := by
  rw [State.powerReached_reached he h]
  by_cases h2 : s.powerWanted e = 2
  · rw [h2]
    obtain ⟨power, tx, rx, fresh, frame⟩ := s.setPower_on e
    exact ⟨power, fun _ => ⟨tx, rx, fresh⟩, fun h => absurd h (by decide), frame⟩
  · have hle := s.powerWanted_le e
    obtain ⟨power, tx, rx, frame⟩ := State.setPower_off (s := s) (e := e) h2 (by omega)
    exact ⟨power, fun h => absurd h h2, fun _ => ⟨tx, rx⟩, frame⟩

theorem State.onlyAt_refl (s : State) (i : Nat) (rs : List Reg) : s.OnlyAt s i rs := fun _ _ _ _ _ => rfl

theorem State.OnlyAt.modEngine {t : State} {i : Nat} {rs : List Reg} (h : s.OnlyAt t i rs) (k : Nat) (f : Engine → Engine) :
    s.OnlyAt (t.modEngine k f) i rs := h

/-! ### Ends of ramps (R246, R248, R252) -/

/-- The driver ramp ends: LIT or READY, at its level. -/
def State.endRamp (s : State) (e : Nat) (r : Ramp) : State :=
  (((s.modEngine e fun x => { x with ramp := none }).wr F.LE_STAT_TX_STATE e (if r.l1 == 4095 then 3 else 1)).wr
    F.LE_STAT_LEVEL e r.l1).raise F.LE_STICKY_RAMP_DONE e

/-- The laser ramp ends at its level. -/
def State.endLaserRamp (s : State) (e : Nat) (r : Ramp) : State :=
  (s.modEngine e fun x => { x with laserRamp := none, laser := r.l1 }).raise F.LE_STICKY_RAMP_DONE e

theorem State.rampDone_driver {r : Ramp} (h : (s.engine e).ramp = some r) (hl : (s.engine e).laserRamp = none)
    (hs : (s.engine e).swingRamp = none) (hd : s.rampDue r = true) : s.rampDone e = s.endRamp e r := by
  unfold State.rampDone
  dsimp only
  rw [h, hl, hs]
  exact if_pos hd

theorem State.rampDone_laser {r : Ramp} (h : (s.engine e).ramp = none) (hl : (s.engine e).laserRamp = some r)
    (hs : (s.engine e).swingRamp = none) (hd : s.rampDue r = true) : s.rampDone e = s.endLaserRamp e r := by
  unfold State.rampDone
  dsimp only
  rw [h, hl, hs]
  exact if_pos hd

theorem State.endRamp_ends {r : Ramp} (hr : r.l1 ≤ 4095) :
    ((s.endRamp e r).engine e).ramp = none ∧ (s.endRamp e r).txState e = (if r.l1 = 4095 then 3 else 1) ∧
      (s.endRamp e r).rd F.LE_STAT_LEVEL e = r.l1 ∧ (s.endRamp e r).on F.LE_STICKY_RAMP_DONE e = true ∧
      (∀ k, k ≠ e → (s.endRamp e r).engine k = s.engine k) ∧ s.OnlyAt (s.endRamp e r) e [.LE_STAT, .LE_STICKY] ∧
      s.SameMemory (s.endRamp e r) := by
  unfold State.endRamp
  have goal : (if r.l1 == 4095 then 3 else 1) < 2 ^ F.LE_STAT_TX_STATE.width := by split <;> decide
  have level : r.l1 < 2 ^ F.LE_STAT_LEVEL.width := Nat.lt_succ_of_le hr
  refine ⟨by simp, ?_, ?_, State.on_raise rfl rfl (by decide) (by decide) .., fun k hk => ?_, ?_, ?_⟩
  · rw [State.txState, State.rd_raise_apart rfl (by decide) (by decide), State.rd_wr_apart rfl, State.rd_wr_fits rfl goal]
    simp
  · rw [State.rd_raise_apart rfl (by decide) (by decide), State.rd_wr_fits rfl level]
  · rw [State.engine_raise, State.engine_wr, State.engine_wr, State.engine_modEngine_ne hk]
  · exact ((((s.onlyAt_refl e _).modEngine e _).wr F.LE_STAT_TX_STATE (by decide) _).wr F.LE_STAT_LEVEL (by decide) _).raise
      F.LE_STICKY_RAMP_DONE (by decide)
  · exact (((s.sameMemory_refl.modEngine e _).wr F.LE_STAT_TX_STATE e _).wr F.LE_STAT_LEVEL e _).raise F.LE_STICKY_RAMP_DONE e

theorem State.endLaserRamp_ends (r : Ramp) :
    ((s.endLaserRamp e r).engine e).laserRamp = none ∧ ((s.endLaserRamp e r).engine e).laser = r.l1 ∧
      (s.endLaserRamp e r).on F.LE_STICKY_RAMP_DONE e = true ∧ s.OnlyAt (s.endLaserRamp e r) e [.LE_STICKY] ∧
      s.SameMemory (s.endLaserRamp e r) := by
  unfold State.endLaserRamp
  refine ⟨by simp, by simp, State.on_raise rfl rfl (by decide) (by decide) .., ?_, ?_⟩
  · exact ((s.onlyAt_refl e _).modEngine e _).raise F.LE_STICKY_RAMP_DONE (by decide)
  · exact (s.sameMemory_refl.modEngine e _).raise F.LE_STICKY_RAMP_DONE e

/-! ### The optics interface (R267) -/

/-- The shift register after a transfer: the upper LEN bits are those received. -/
def State.shifted (s : State) (e : Nat) (received : BitVec 64) : Nat :=
  received.toNat / 2 ^ (64 - spiLen (s.rd F.LE_SPI_CTRL_LEN e)) * 2 ^ (64 - spiLen (s.rd F.LE_SPI_CTRL_LEN e)) +
    (s.spiData e).toNat % 2 ^ (64 - spiLen (s.rd F.LE_SPI_CTRL_LEN e))

/-- The transfer ends with a value in the shift register. -/
def State.endSpi (s : State) (e v : Nat) : State :=
  (((s.setReg .LE_SPI_D1 e (BitVec.ofNat 32 (v / 2 ^ 32))).setReg .LE_SPI_D0 e (BitVec.ofNat 32 v)).wr F.LE_SPI_CTRL_BUSY e
    0).raise F.LE_STICKY_SPI_DONE e

theorem State.spiDone_eq (h : s.on F.LE_SPI_CTRL_BUSY e = true) (received : BitVec 64) :
    s.spiDone e received = s.endSpi e (s.shifted e received) := if_neg (by simp [h])

theorem State.spiData_endSpi (s : State) (e v : Nat) : (s.endSpi e v).spiData e = BitVec.ofNat 64 v := by
  have d1 : (s.endSpi e v).reg .LE_SPI_D1 e = BitVec.ofNat 32 (v / 2 ^ 32) := by
    rw [State.endSpi, State.raise_reg _ _ _ (by decide) (by decide) (by decide), State.reg_wr_ne (.inl (by decide)),
      State.reg_setReg, if_neg (by simp), State.reg_setReg, if_pos ⟨rfl, rfl⟩]
    exact BitVec.and_allOnes
  have d0 : (s.endSpi e v).reg .LE_SPI_D0 e = BitVec.ofNat 32 v := by
    rw [State.endSpi, State.raise_reg _ _ _ (by decide) (by decide) (by decide), State.reg_wr_ne (.inl (by decide)),
      State.reg_setReg, if_pos ⟨rfl, rfl⟩]
    exact BitVec.and_allOnes
  rw [State.spiData, d1, d0]
  apply BitVec.eq_of_toNat_eq
  simp only [BitVec.toNat_ofNat]
  omega

/-- The interface is free again and has reported it; nothing beside its registers differs. -/
theorem State.endSpi_frees (s : State) (e v : Nat) :
    (s.endSpi e v).on F.LE_SPI_CTRL_BUSY e = false ∧ (s.endSpi e v).on F.LE_STICKY_SPI_DONE e = true ∧
      s.OnlyAt (s.endSpi e v) e [.LE_SPI_D0, .LE_SPI_D1, .LE_SPI_CTRL, .LE_STICKY] ∧ s.SameMemory (s.endSpi e v) := by
  unfold State.endSpi
  refine ⟨?_, State.on_raise rfl rfl (by decide) (by decide) .., ?_, ⟨by simp, by simp, by simp, by simp⟩⟩
  · rw [State.on_raise_ne (by decide) (by decide) (by decide)]
    exact State.on_wr rfl rfl _ e false
  · exact ((((s.onlyAt_refl e _).setReg .LE_SPI_D1 (by decide) _).setReg .LE_SPI_D0 (by decide) _).wr F.LE_SPI_CTRL_BUSY
      (by decide) 0).raise F.LE_STICKY_SPI_DONE (by decide)

/-- A transfer of 64 bits replaces the whole register. -/
theorem State.shifted_full (h : s.rd F.LE_SPI_CTRL_LEN e = 64) (received : BitVec 64) : s.shifted e received = received.toNat := by
  have hl : spiLen 64 = 64 := by decide
  simp [State.shifted, h, hl, Nat.mod_one]

/-- A transfer of 8 bits replaces the uppermost ones. -/
theorem State.shifted_byte (h : s.rd F.LE_SPI_CTRL_LEN e = 8) (received : BitVec 64) :
    s.shifted e received = received.toNat / 2 ^ 56 * 2 ^ 56 + (s.spiData e).toNat % 2 ^ 56 := by
  have hl : 64 - spiLen 8 = 56 := by decide
  rw [State.shifted, h, hl]

/-- What an ended transfer leaves in the shift register, for its longest and its shortest length. -/
theorem State.spiData_spiDone (h : s.on F.LE_SPI_CTRL_BUSY e = true) (received : BitVec 64) :
    (s.rd F.LE_SPI_CTRL_LEN e = 64 → (s.spiDone e received).spiData e = received) ∧
      (s.rd F.LE_SPI_CTRL_LEN e = 8 → ((s.spiDone e received).spiData e).toNat =
        received.toNat / 2 ^ 56 * 2 ^ 56 + (s.spiData e).toNat % 2 ^ 56) := by
  rw [State.spiDone_eq h, State.spiData_endSpi]
  refine ⟨fun hl => ?_, fun hl => ?_⟩
  · rw [State.shifted_full hl, BitVec.ofNat_toNat, BitVec.setWidth_eq]
  · have bound := received.isLt
    rw [State.shifted_byte hl, BitVec.toNat_ofNat, Nat.mod_eq_of_lt]
    omega

end

end Sys2Proof.Machine
end

section
/-! Faults of a line engine: the driver fault, which holds the transmitter, and the converter faults (O22). -/

namespace Sys2Proof.Machine

section

variable {s : State} {e : Nat}

/-! ### The transmitters follow a hold (R247, R249, R263) -/

/-- What each engine of a pair does when a hold changes: its transmitter follows, and it shows the holds. -/
def State.followHold (s : State) (i : Nat) : State := (s.followRequest i).showHolds i

theorem State.followHold_keepsDies (s : State) (i : Nat) : s.KeepsDies (s.followHold i) [.LE_STAT, .LE_STICKY] :=
  (KeepsDies.followRequest s i).trans (KeepsDies.showHolds _ i)

/-- Following the request writes the state of the transmitter and RAMP_REV. -/
theorem State.rd_followRequest {f : Field} (hx : F.LE_STAT_TX_STATE.apart f = true) (hr : F.LE_STICKY_RAMP_REV.apart f = true)
    (h1 : f.reg ≠ .EV_STICKY) (h2 : f.reg ≠ .EV_SRC_CNT) (s : State) (i j : Nat) : (s.followRequest i).rd f j = s.rd f j := by
  have light : (s.light i).rd f j = s.rd f j := State.rd_wr_apart hx ..
  have darken : (s.darken i).rd f j = s.rd f j := State.rd_wr_apart hx ..
  unfold State.followRequest
  split
  · rfl
  · split
    · exact light
    · rw [State.rd_raise_apart hr h1 h2, darken]
    · exact darken
    · rw [State.rd_raise_apart hr h1 h2, light]
    · rfl

/-- Showing the holds writes FAULT_HOLD and MATE_HOLD. -/
theorem State.rd_showHolds {f : Field} (hf : F.LE_STAT_FAULT_HOLD.apart f = true) (hm : F.LE_STAT_MATE_HOLD.apart f = true) (s : State)
    (i j : Nat) : (s.showHolds i).rd f j = s.rd f j := by
  rw [State.showHolds, State.wrBool, State.rd_wr_apart hm, State.wrBool, State.rd_wr_apart hf]

theorem State.faultHold_showHolds (s : State) (i : Nat) :
    (s.showHolds i).on F.LE_STAT_FAULT_HOLD i = (s.partners i).any fun k => (s.engine k).held := by
  rw [State.on, State.showHolds, State.wrBool, State.rd_wr_apart rfl]
  exact State.on_wr rfl rfl s i _

/-- An engine that follows its request leaves the transmitter of another as it was. -/
theorem State.followRequest_other {i : Nat} (h : e ≠ i) (s : State) :
    (s.followRequest i).engine e = s.engine e ∧ (s.followRequest i).rd F.LE_STAT_TX_STATE e = s.rd F.LE_STAT_TX_STATE e := by
  have ramps (f : Engine → Engine) (v : Nat) : ((s.modEngine i f).wr F.LE_STAT_TX_STATE i v).engine e = s.engine e ∧
      ((s.modEngine i f).wr F.LE_STAT_TX_STATE i v).rd F.LE_STAT_TX_STATE e = s.rd F.LE_STAT_TX_STATE e :=
    ⟨State.engine_modEngine_ne h .., State.rd_wr_reg (.inr h.symm) ..⟩
  have light : (s.light i).engine e = s.engine e ∧ (s.light i).rd F.LE_STAT_TX_STATE e = s.rd F.LE_STAT_TX_STATE e := ramps ..
  have darken : (s.darken i).engine e = s.engine e ∧ (s.darken i).rd F.LE_STAT_TX_STATE e = s.rd F.LE_STAT_TX_STATE e := ramps ..
  unfold State.followRequest
  split
  · exact ⟨rfl, rfl⟩
  · split
    · exact light
    · rwa [State.engine_raise, State.rd_raise_apart rfl (by decide) (by decide)]
    · exact darken
    · rwa [State.engine_raise, State.rd_raise_apart rfl (by decide) (by decide)]
    · exact ⟨rfl, rfl⟩

theorem State.mem_partners (s : State) (e : Nat) : e ∈ s.partners e := by
  unfold State.partners
  split
  · simp
    omega
  · exact List.mem_singleton_self e

/-- A driver fault holds the engine, whose drivers are off and do not ramp. -/
structure State.FaultDark (s : State) (e : Nat) : Prop where
  fault : (s.engine e).driverFault = true
  ramp : (s.engine e).ramp = none
  dark : s.rd F.LE_STAT_TX_STATE e = 1

theorem State.FaultDark.held (h : s.FaultDark e) : (s.partners e).any (fun k => (s.engine k).held) = true :=
  List.any_eq_true.2 ⟨e, s.mem_partners e, by simp [Engine.held, h.fault]⟩

/-- A held engine has no transmit request. -/
theorem State.FaultDark.txRequest (h : s.FaultDark e) : s.txRequest e = false := by
  have held : (s.partners e).all (fun k => !(s.engine k).held) = false := by
    rw [← Bool.not_eq_true, List.all_eq_true]
    intro all
    obtain ⟨k, hk, hh⟩ := List.any_eq_true.1 h.held
    simpa [hh] using all k hk
  simp [State.txRequest, held]

/-- A dark engine without a request stays as it is. -/
theorem State.FaultDark.followRequest_self (h : s.FaultDark e) : s.followRequest e = s := by
  unfold State.followRequest
  split
  · rfl
  · rw [State.txState, h.dark, h.txRequest]
    rfl

/-- The held engine stays dark whichever engine follows the hold. -/
theorem State.FaultDark.followHold (h : s.FaultDark e) (i : Nat) : (s.followHold i).FaultDark e := by
  have follows : (s.followRequest i).FaultDark e := by
    by_cases hi : e = i
    · subst hi
      rwa [h.followRequest_self]
    · obtain ⟨engine, tx⟩ := State.followRequest_other hi s
      exact ⟨engine ▸ h.fault, engine ▸ h.ramp, tx.trans h.dark⟩
  exact ⟨follows.fault, follows.ramp, (State.rd_showHolds rfl rfl ..).trans follows.dark⟩

/-- The engine that follows the hold shows it, and shows it no less when another one does. -/
theorem State.FaultDark.shows (h : s.FaultDark e) {i : Nat} (hs : e = i ∨ s.on F.LE_STAT_FAULT_HOLD e = true) :
    (s.followHold i).on F.LE_STAT_FAULT_HOLD e = true := by
  by_cases hi : e = i
  · subst hi
    rw [State.followHold, h.followRequest_self, State.faultHold_showHolds, h.held]
  · rw [State.on, State.followHold, State.showHolds, State.wrBool, State.rd_wr_apart rfl, State.wrBool, State.rd_wr_reg (.inr (Ne.symm hi)),
      State.rd_followRequest rfl rfl (by decide) (by decide)]
    exact hs.resolve_left hi

/-- After the engines listed have followed the hold, the held one among them is dark and shows FAULT_HOLD. -/
theorem State.FaultDark.each {l : List Nat} (h : s.FaultDark e) (hs : e ∈ l ∨ s.on F.LE_STAT_FAULT_HOLD e = true) :
    (s.each l State.followHold).FaultDark e ∧ (s.each l State.followHold).on F.LE_STAT_FAULT_HOLD e = true := by
  induction l generalizing s with
  | nil => exact ⟨h, hs.resolve_left List.not_mem_nil⟩
  | cons i l ih =>
    refine ih (h.followHold i) ?_
    rcases hs with hs | hs
    · exact (List.mem_cons.1 hs).elim (fun hi => .inr (h.shows (.inl hi))) .inl
    · exact .inr (h.shows (.inr hs))

/-! ### Driver and converter faults (R245, R251) -/

/-- The drivers and RMP_OUT of an engine go off at once, and the fault holds it. -/
def State.cutDrivers (s : State) (e : Nat) : State :=
  ((s.modEngine e fun x =>
    { x with driverFault := true, driverAck := false, ramp := none, laserRamp := none, swingRamp := none, laser := 0 }).wr
      F.LE_STAT_TX_STATE e 1).wr F.LE_STAT_LEVEL e 0

theorem State.cutDrivers_faultDark (s : State) (e : Nat) : (s.cutDrivers e).FaultDark e := by
  refine ⟨by simp [State.cutDrivers], by simp [State.cutDrivers], ?_⟩
  rw [State.cutDrivers, State.rd_wr_apart rfl]
  exact State.rd_wr_fits rfl (by decide) ..

theorem State.driverFault_eq (h : s.engineOn e = true) :
    s.driverFault e = ((s.cutDrivers e).each ((s.cutDrivers e).partners e) State.followHold).raise F.LE_STICKY_DRV_FAULT e :=
  if_neg (by simp [h])

/-- What a driver fault of an engine in ON leaves. -/
structure State.DriverFaulted (s t : State) (e : Nat) : Prop where
  fault : (t.engine e).driverFault = true
  ramp : (t.engine e).ramp = none
  tx : t.txState e = 1
  rmp : t.rmpOut e = 0
  event : t.on F.LE_STICKY_DRV_FAULT e = true
  hold : t.on F.LE_STAT_FAULT_HOLD e = true
  regs : s.OnlyRegs t [.LE_STAT, .LE_STICKY]
  memory : s.SameMemory t

theorem State.rmpOut_faulted (h : (s.engine e).driverFault = true) : s.rmpOut e = 0 := by simp [State.rmpOut, h]

theorem State.driverFault_faults (h : s.engineOn e = true) : s.DriverFaulted (s.driverFault e) e := by
  rw [State.driverFault_eq h]
  obtain ⟨dark, hold⟩ := (s.cutDrivers_faultDark e).each (.inl (State.mem_partners _ e))
  have keeps := State.KeepsDies.each State.followHold_keepsDies ((s.cutDrivers e).partners e) (s.cutDrivers e)
  generalize (s.cutDrivers e).each ((s.cutDrivers e).partners e) State.followHold = t at dark hold keeps
  have engine : (t.raise F.LE_STICKY_DRV_FAULT e).engine e = t.engine e := t.engine_raise ..
  have cut : s.OnlyRegs (s.cutDrivers e) [.LE_STAT, .LE_STICKY] :=
    (((s.onlyAt_refl e _).modEngine e _).wr F.LE_STAT_TX_STATE (by decide) 1 |>.wr F.LE_STAT_LEVEL (by decide) 0).onlyRegs
  have memory : s.SameMemory (s.cutDrivers e) := ⟨rfl, rfl, rfl, rfl⟩
  exact {
    fault := engine ▸ dark.fault
    ramp := engine ▸ dark.ramp
    tx := (State.rd_raise_apart rfl (by decide) (by decide) ..).trans dark.dark
    rmp := State.rmpOut_faulted (engine ▸ dark.fault)
    event := State.on_raise rfl rfl (by decide) (by decide) ..
    hold := (State.on_raise_ne (by decide) (by decide) (by decide) ..).trans hold
    regs := (cut.trans keeps.regs).raise F.LE_STICKY_DRV_FAULT (by decide) e
    memory := (memory.trans keeps.memory).raise F.LE_STICKY_DRV_FAULT e }

/-- A driver fault writes the transmitter's fields of LE_STAT, and of LE_STICKY only RAMP_REV and DRV_FAULT. -/
theorem State.rd_driverFault_sticky {f : Field} (hs : f.reg = .LE_STICKY) (hr : F.LE_STICKY_RAMP_REV.apart f = true)
    (hd : F.LE_STICKY_DRV_FAULT.apart f = true) (h : s.engineOn e = true) (j : Nat) : (s.driverFault e).rd f j = s.rd f j := by
  have apart {g : Field} (hg : g.reg = .LE_STAT) : g.apart f = true := Field.apart_of_reg_ne (by simp [hg, hs])
  have follows (t : State) (i : Nat) : (t.followHold i).rd f j = t.rd f j := by
    rw [State.followHold, State.rd_showHolds (apart rfl) (apart rfl), State.rd_followRequest (apart rfl) hr (by simp [hs]) (by simp [hs])]
  rw [State.driverFault_eq h, State.rd_raise_apart hd (by simp [hs]) (by simp [hs]),
    State.each_keeps (State.rd · f j) follows, State.cutDrivers, State.rd_wr_apart (apart rfl), State.rd_wr_apart (apart rfl),
    State.rd_modEngine]

/-- A transmit converter fault of an engine in ON is a driver fault beside CONV_FAULT. -/
theorem State.convFault_transmit (he : e < 16) (h : s.engineOn e = true) :
    (s.convFault e false).on F.LE_STICKY_CONV_FAULT e = true ∧ s.DriverFaulted (s.convFault e false) e := by
  have eq : s.convFault e false = (s.raise F.LE_STICKY_CONV_FAULT e).driverFault e := by
    have power : s.rd F.LE_STAT_PSTATE e = 2 := by simpa [State.engineOn, unitEngine, he] using h
    rw [State.convFault, if_neg (by simp [power])]
    exact if_neg (by simp)
  have on : (s.raise F.LE_STICKY_CONV_FAULT e).engineOn e = true := by
    rw [State.engineOn, State.rd_raise_apart rfl (by decide) (by decide)]
    exact h
  have faulted := State.driverFault_faults on
  rw [eq]
  refine ⟨?_, { faulted with regs := ?_, memory := ?_ }⟩
  · rw [State.on, State.rd_driverFault_sticky rfl rfl rfl on]
    exact State.on_raise rfl rfl (by decide) (by decide) s e
  · exact ((s.onlyRegs_refl _).raise F.LE_STICKY_CONV_FAULT (by decide) e).trans faulted.regs
  · exact (s.raise_sameMemory ..).trans faulted.memory

end

end Sys2Proof.Machine
end

section
/-! Acquisition and lock of a line engine, the deskew of carrier pairs, and with what stands above, O22. -/

namespace Sys2Proof.Machine

/-- A field that fills its width with an integer's code reads as that code. -/
theorem State.rd_wr_unsigned {f : Field} {w : Nat} (h : f.good = true) (hw : f.width = w) (s : State) (i : Nat) (z : Int) :
    (s.wr f i (unsigned w z)).rd f i = unsigned w z := by
  subst hw
  refine State.rd_wr_fits h ?_ s i
  have pos : (0 : Int) < ((2 ^ f.width : Nat) : Int) := by exact_mod_cast Nat.two_pow_pos _
  have lt := Int.emod_lt_of_pos z pos
  have nonneg := Int.emod_nonneg z (Int.ne_of_gt pos)
  unfold unsigned
  omega

@[simp] theorem State.act_enterRx (s : State) (e st : Nat) : (s.enterRx e st).act = s.act := by
  refine State.each_keeps State.act (fun t u => ?_) _ (s.wr F.LE_STAT_RX_STATE e st)
  refine State.each_keeps State.act (fun v i => ?_) _ (t.wr F.LF_STAT_LOS u _)
  rfl

theorem State.cfgOn_congr {s t : State} (h : t.act = s.act) (f : Field) (i : Nat) : t.cfgOn f i = s.cfgOn f i := by
  simp only [State.cfgOn, State.cfg, h]

section

variable {s : State} {e ticks : Nat}

/-! ### Loss of signal and its return (R245, R255, R258) -/

/-- The registers in which a receive side that loses its lock shows it. -/
def lossRegs : List Reg := [.LE_STAT, .LE_STICKY, .LE_EQ_STAT, .LF_STAT, .LF_ALIGN]

/-- What the receive side leaves that enters LOS. -/
structure State.EntersLos (s t : State) (e : Nat) : Prop where
  rx : t.rxState e = 1
  event : t.on F.LE_STICKY_LOS e = true
  losAt : (t.engine e).losAt = s.now
  lock : t.on F.LE_EQ_STAT_CLK_LOCK e = false
  only : s.OnlyEngine t e lossRegs

theorem State.enterLos_enters (s : State) (e : Nat) : s.EntersLos (s.enterLos e) e := by
  refine ⟨?_, State.on_raise rfl rfl (by decide) (by decide) .., ?_, ?_, ?_⟩
  · simp (disch := decide) [State.rxState, State.enterLos, State.rd_raise_apart, State.rd_dropFrame, State.rd_clearLocks,
      State.rxState_enterRx]
  · simp [State.enterLos]
  · simp (disch := decide) only [State.on, State.enterLos, State.rd_raise_apart, State.rd_dropFrame, State.rd_modEngine]
    exact State.on_clkLock_clearLocks ..
  · exact (State.OnlyEngine.refl s e lossRegs).enterLos (by decide) (by decide) (by decide) (by decide) (by decide)

theorem State.engineLos_falls (ht : 8 ≤ ticks) (hx : 2 ≤ s.rxState e) : s.engineLos e ticks = s.enterLos e := by
  rw [State.engineLos, if_neg (by simp; omega), if_neg (by simp; omega)]

theorem State.engineLos_short (ht : ticks < 8) : s.engineLos e ticks = s := if_pos (by simp [ht])

/-- A receive converter fault is LOS, beside CONV_FAULT. -/
theorem State.convFault_receive (h0 : s.rd F.LE_STAT_PSTATE e ≠ 0) (hx : 2 ≤ s.rxState e) :
    (s.convFault e true).rxState e = 1 ∧ (s.convFault e true).on F.LE_STICKY_CONV_FAULT e = true ∧
      (s.convFault e true).on F.LE_STICKY_LOS e = true ∧ s.OnlyEngine (s.convFault e true) e lossRegs := by
  have rx : (s.raise F.LE_STICKY_CONV_FAULT e).rxState e = s.rxState e := State.rd_raise_apart rfl (by decide) (by decide) ..
  have eq : s.convFault e true = (s.raise F.LE_STICKY_CONV_FAULT e).enterLos e := by
    rw [State.convFault, if_neg (by simpa using h0)]
    dsimp only
    rw [if_pos rfl, if_pos (rx ▸ hx)]
  have enters := State.enterLos_enters (s.raise F.LE_STICKY_CONV_FAULT e) e
  rw [eq]
  refine ⟨enters.rx, ?_, enters.event, ?_⟩
  · simp (disch := decide) only [State.on, State.enterLos, State.rd_raise_apart, State.rd_dropFrame, State.rd_modEngine,
      State.rd_clearLocks, State.rd_enterRx]
    exact State.on_raise rfl rfl (by decide) (by decide) s e
  · exact ((State.OnlyEngine.refl s e lossRegs).raise F.LE_STICKY_CONV_FAULT (by decide) e).enterLos (by decide) (by decide) (by decide)
      (by decide) (by decide)

/-- The lock was lost less than 1 s ago, and fast re-acquisition is not disabled (R258). -/
def State.acquiresFast (s : State) (e : Nat) : Bool :=
  (s.engine e).wasLocked && !s.elapsed (s.engine e).losAt 312500 && !s.cfgOn F.LE_CTRL_FAST_DIS e

theorem State.acquiresFast_iff (s : State) (e : Nat) : s.acquiresFast e = true ↔
    (s.engine e).wasLocked = true ∧ s.now < (s.engine e).losAt + 312500 ∧ s.cfgOn F.LE_CTRL_FAST_DIS e = false := by
  simp [State.acquiresFast, State.elapsed, and_assoc]

/-- Power that returns leads to EQ for fast re-acquisition, otherwise to FREQ. -/
theorem State.engineSigOk_returned (ht : 32 ≤ ticks) (hx : s.rxState e = 1) : s.engineSigOk e ticks =
    (if s.acquiresFast e then
      (s.enterRx e 4).modEngine e fun x => { x with fast := true, fresh := false, acqSince := s.now }
    else (s.enterRx e 2).modEngine e fun x =>
      { x with fast := false, fresh := false, fullCd := s.cfgOn F.LE_CTRL_FAST_DIS e, acqSince := s.now }).raise
      F.LE_STICKY_SIG_OK e := if_neg (by simp [hx]; omega)

theorem State.engineSigOk_acquires (ht : 32 ≤ ticks) (hx : s.rxState e = 1) :
    (s.engineSigOk e ticks).rxState e = (if s.acquiresFast e = true then 4 else 2) ∧
      (s.engineSigOk e ticks).on F.LE_STICKY_SIG_OK e = true ∧ ((s.engineSigOk e ticks).engine e).acqSince = s.now ∧
      s.OnlyEngine (s.engineSigOk e ticks) e [.LE_STAT, .LE_STICKY, .LF_STAT] := by
  have entered (st : Nat) := (State.OnlyEngine.refl s e [.LE_STAT, .LE_STICKY, .LF_STAT]).enterRx (by decide) (by decide) st
  rw [State.engineSigOk_returned ht hx]
  refine ⟨?_, State.on_raise rfl rfl (by decide) (by decide) .., ?_, ?_⟩
  · rw [State.rxState, State.rd_raise_apart rfl (by decide) (by decide)]
    split <;> rw [State.rd_modEngine, State.rxState_enterRx (by decide)]
  · rw [State.engine_raise]
    split <;> rw [State.engine_modEngine_same]
  · exact (State.OnlyEngine.ite ((entered 4).modEngine _) ((entered 2).modEngine _)).raise _ (by decide) e

/-! ### From FREQ to LOCKED (R255, R256) -/

theorem State.freqLock_locks (fofs : Int) (hx : s.rxState e = 2) :
    (s.freqLock e fofs).rxState e = 3 ∧ (s.freqLock e fofs).rd F.LE_FOFS_FOFS e = unsigned 16 fofs ∧
      ((s.freqLock e fofs).engine e).hint = (s.cfgOn F.LE_ACQ_HINT_EN e && !(s.engine e).fullCd) ∧
      s.OnlyEngine (s.freqLock e fofs) e [.LE_STAT, .LE_FOFS, .LF_STAT] := by
  have act : ((s.enterRx e 3).wr F.LE_FOFS_FOFS e (unsigned 16 fofs)).act = s.act := s.act_enterRx e 3
  have eq : s.freqLock e fofs = ((s.enterRx e 3).wr F.LE_FOFS_FOFS e (unsigned 16 fofs)).modEngine e fun x =>
      { x with hint := s.cfgOn F.LE_ACQ_HINT_EN e && !x.fullCd } := by
    rw [State.freqLock, if_neg (by simp [hx])]
    dsimp only
    rw [State.cfgOn_congr act]
  rw [eq]
  refine ⟨?_, ?_, by simp, ?_⟩
  · rw [State.rxState, State.rd_modEngine, State.rd_wr_apart rfl, State.rxState_enterRx (by decide)]
  · rw [State.rd_modEngine]
    exact State.rd_wr_unsigned rfl rfl ..
  · exact (((State.OnlyEngine.refl s e _).enterRx (by decide) (by decide) 3).wr F.LE_FOFS_FOFS (by decide) e _).modEngine _

theorem State.cdLock_locks (cd : Int) (hx : s.rxState e = 3) :
    (s.cdLock e cd).rxState e = 4 ∧ (s.cdLock e cd).rd F.LE_CD_CD e = unsigned 32 (clampInt (-160000) 160000 cd) ∧
      s.OnlyEngine (s.cdLock e cd) e [.LE_STAT, .LE_CD, .LF_STAT] := by
  rw [State.cdLock, if_neg (by simp [hx])]
  refine ⟨?_, State.rd_wr_unsigned rfl rfl .., ?_⟩
  · rw [State.rxState, State.rd_wr_apart rfl, State.rxState_enterRx (by decide)]
  · exact ((State.OnlyEngine.refl s e _).enterRx (by decide) (by decide) 4).wr F.LE_CD_CD (by decide) e _

theorem State.cdHintMiss_searches (hx : s.rxState e = 3) (hh : (s.engine e).hint = true) :
    s.cdHintMiss e = s.modEngine e fun x => { x with hint := false } := if_pos (by simp [hx, hh])

/-- LE_EQ_STAT once EQ has converged: FAST, the count of acquisitions and the locks. -/
def State.showLocked (s : State) (e : Nat) : State :=
  ((((s.wrBool F.LE_EQ_STAT_FAST e (s.engine e).fast).incWrap F.LE_EQ_STAT_ACQ_CNT e 1).wr F.LE_EQ_STAT_CR_LOCK e 1).wr
    F.LE_EQ_STAT_MIMO_LOCK e 1).wr F.LE_EQ_STAT_CLK_LOCK e 1

theorem State.engineLock_eq (hx : s.rxState e = 4) :
    s.engineLock e = (((s.showLocked e).enterRx e 5).modEngine e fun x => { x with fast := false, fullCd := false }).raise
      F.LE_STICKY_LOCK e := if_neg (by simp [hx])

theorem State.showLocked_shows (s : State) (e : Nat) :
    (s.showLocked e).on F.LE_EQ_STAT_FAST e = (s.engine e).fast ∧
      (s.showLocked e).rd F.LE_EQ_STAT_ACQ_CNT e = (s.rd F.LE_EQ_STAT_ACQ_CNT e + 1) % 256 ∧
      (s.showLocked e).on F.LE_EQ_STAT_CLK_LOCK e = true := by
  unfold State.showLocked
  refine ⟨?_, ?_, State.on_wr rfl rfl _ e true⟩
  · simp (disch := decide) only [State.on, State.incWrap, State.rd_wr_apart]
    exact State.on_wr rfl rfl s e _
  · simp (disch := decide) only [State.incWrap, State.wrBool, State.rd_wr_apart]
    rw [State.rd_wr rfl]
    rfl

theorem State.engineLock_locks (hx : s.rxState e = 4) :
    (s.engineLock e).rxState e = 5 ∧ (s.engineLock e).on F.LE_EQ_STAT_FAST e = (s.engine e).fast ∧
      (s.engineLock e).rd F.LE_EQ_STAT_ACQ_CNT e = (s.rd F.LE_EQ_STAT_ACQ_CNT e + 1) % 256 ∧
      (s.engineLock e).on F.LE_EQ_STAT_CLK_LOCK e = true ∧ (s.engineLock e).on F.LE_STICKY_LOCK e = true ∧
      s.OnlyEngine (s.engineLock e) e [.LE_STAT, .LE_STICKY, .LE_EQ_STAT, .LF_STAT] := by
  obtain ⟨fast, count, lock⟩ := s.showLocked_shows e
  have shown {f : Field} (h : f.reg = .LE_EQ_STAT) : (s.engineLock e).rd f e = (s.showLocked e).rd f e := by
    have apart {g : Field} (hg : g.reg ≠ .LE_EQ_STAT) : g.apart f = true := Field.apart_of_reg_ne (h ▸ hg)
    rw [State.engineLock_eq hx, State.rd_raise_apart (apart (by decide)) (by simp [h]) (by simp [h]), State.rd_modEngine,
      State.rd_enterRx (apart (by decide)) (by simp [h])]
  refine ⟨?_, ?_, (shown rfl).trans count, ?_, ?_, ?_⟩
  · rw [State.engineLock_eq hx, State.rxState, State.rd_raise_apart rfl (by decide) (by decide), State.rd_modEngine,
      State.rxState_enterRx (by decide)]
  · rw [State.on, shown rfl]
    exact fast
  · rw [State.on, shown rfl]
    exact lock
  · rw [State.engineLock_eq hx]
    exact State.on_raise rfl rfl (by decide) (by decide) ..
  · rw [State.engineLock_eq hx]
    refine (State.OnlyEngine.modEngine (.enterRx ?_ (by decide) (by decide) 5) _).raise F.LE_STICKY_LOCK (by decide) e
    exact (((((State.OnlyEngine.refl s e _).wr F.LE_EQ_STAT_FAST (by decide) e _).wr F.LE_EQ_STAT_ACQ_CNT (by decide) e _).wr
      F.LE_EQ_STAT_CR_LOCK (by decide) e 1).wr F.LE_EQ_STAT_MIMO_LOCK (by decide) e 1).wr F.LE_EQ_STAT_CLK_LOCK (by decide) e 1

/-! ### Failed acquisition and loss of lock (R257, R258) -/

theorem State.restartFreq_restarts (s : State) (e : Nat) (full : Bool) :
    (s.restartFreq e full).rd F.LE_STAT_RX_STATE e = 2 ∧ ((s.restartFreq e full).engine e).fullCd = full ∧
      ((s.restartFreq e full).engine e).fast = false := by
  unfold State.restartFreq
  refine ⟨?_, by simp, by simp⟩
  rw [State.rd_modEngine, State.rd_clearLocks (by decide), State.rxState_enterRx (by decide)]

theorem State.acqFail_restarts (h2 : 2 ≤ s.rxState e) (h4 : s.rxState e ≤ 4) (ht : (s.engine e).acqSince + 78125 ≤ s.now) :
    (s.acqFail e).rxState e = 2 ∧ ((s.acqFail e).engine e).fullCd = true ∧ (s.acqFail e).on F.LE_STICKY_ACQ_FAIL e = true ∧
      s.OnlyEngine (s.acqFail e) e [.LE_STAT, .LE_STICKY, .LE_EQ_STAT, .LF_STAT] := by
  obtain ⟨rx, full, -⟩ := s.restartFreq_restarts e true
  rw [State.acqFail, if_pos (by simp [h2, h4, State.elapsed, ht])]
  refine ⟨?_, ?_, State.on_raise rfl rfl (by decide) (by decide) .., ?_⟩
  · rw [State.rxState, State.rd_raise_apart rfl (by decide) (by decide), State.rd_modEngine, rx]
  · rw [State.engine_raise, State.engine_modEngine_same]
    exact full
  · exact (((State.OnlyEngine.refl s e _).restartFreq (by decide) (by decide) (by decide) true).modEngine _).raise _ (by decide) e

theorem State.acqFail_early (ht : s.now < (s.engine e).acqSince + 78125) : s.acqFail e = s :=
  if_neg (by simp [State.elapsed]; omega)

/-- Where a lost lock leads: to EQ for fast re-acquisition, to FREQ with FAST_DIS. -/
def State.loseLock (s : State) (e : Nat) : State :=
  if s.cfgOn F.LE_CTRL_FAST_DIS e then s.restartFreq e true
  else ((s.enterRx e 4).clearLocks e).modEngine e fun x => { x with fast := true, acqSince := s.now }

theorem State.engineLol_eq (ht : 3 ≤ ticks) (hx : s.rxState e = 5) :
    s.engineLol e ticks = (((s.incWrap F.LE_EQ_STAT_LOL_CNT e 1).loseLock e).dropFrame e).raise F.LE_STICKY_LOL e :=
  if_neg (by simp [hx]; omega)

theorem State.rd_loseLock_rx (s : State) (e : Nat) :
    (s.loseLock e).rd F.LE_STAT_RX_STATE e = if s.cfgOn F.LE_CTRL_FAST_DIS e = true then 2 else 4 := by
  unfold State.loseLock
  split
  · exact (s.restartFreq_restarts e true).1
  · rw [State.rd_modEngine, State.rd_clearLocks (by decide), State.rxState_enterRx (by decide)]

theorem State.rd_loseLock_count (s : State) (e : Nat) : (s.loseLock e).rd F.LE_EQ_STAT_LOL_CNT e = s.rd F.LE_EQ_STAT_LOL_CNT e := by
  have cleared (st : Nat) : ((s.enterRx e st).clearLocks e).rd F.LE_EQ_STAT_LOL_CNT e = s.rd F.LE_EQ_STAT_LOL_CNT e := by
    rw [State.clearLocks, State.rd_wr_apart rfl, State.rd_wr_apart rfl, State.rd_wr_apart rfl, State.rd_enterRx rfl (by decide)]
  unfold State.loseLock
  split
  · exact cleared 2
  · exact cleared 4

theorem State.OnlyEngine.loseLock {t : State} {rs : List Reg} (h : s.OnlyEngine t e rs) (hs : Reg.LE_STAT ∈ rs) (hq : Reg.LE_EQ_STAT ∈ rs)
    (hr : Reg.LF_STAT ∈ rs) : s.OnlyEngine (t.loseLock e) e rs :=
  ite (h.restartFreq hs hq hr true) (((h.enterRx hs hr 4).clearLocks hq).modEngine _)

theorem State.engineLol_loses (ht : 3 ≤ ticks) (hx : s.rxState e = 5) :
    (s.engineLol e ticks).rxState e = (if s.cfgOn F.LE_CTRL_FAST_DIS e = true then 2 else 4) ∧
      (s.engineLol e ticks).rd F.LE_EQ_STAT_LOL_CNT e = (s.rd F.LE_EQ_STAT_LOL_CNT e + 1) % 256 ∧
      (s.engineLol e ticks).on F.LE_STICKY_LOL e = true ∧ s.OnlyEngine (s.engineLol e ticks) e lossRegs := by
  rw [State.engineLol_eq ht hx]
  refine ⟨?_, ?_, State.on_raise rfl rfl (by decide) (by decide) .., ?_⟩
  · rw [State.rxState, State.rd_raise_apart rfl (by decide) (by decide), State.rd_dropFrame (by decide) (by decide), State.rd_loseLock_rx]
    rfl
  · rw [State.rd_raise_apart rfl (by decide) (by decide), State.rd_dropFrame (by decide) (by decide), State.rd_loseLock_count,
      State.incWrap, State.rd_wr rfl]
    rfl
  · have counted := (State.OnlyEngine.refl s e lossRegs).wr F.LE_EQ_STAT_LOL_CNT (by decide) e (s.rd F.LE_EQ_STAT_LOL_CNT e + 1)
    exact ((counted.loseLock (by decide) (by decide) (by decide)).dropFrame (by decide) (by decide)).raise _ (by decide) e

theorem State.fastTimeout_restarts (hx : s.rxState e = 4) (hf : (s.engine e).fast = true) (ht : (s.engine e).since + 1562 ≤ s.now) :
    (s.fastTimeout e).rxState e = 2 ∧ ((s.fastTimeout e).engine e).fast = false ∧
      s.OnlyEngine (s.fastTimeout e) e [.LE_STAT, .LE_EQ_STAT, .LF_STAT] := by
  obtain ⟨rx, -, fast⟩ := s.restartFreq_restarts e true
  rw [State.fastTimeout, if_pos (by simp [hx, hf, State.elapsed, ht])]
  exact ⟨rx, fast, (State.OnlyEngine.refl s e _).restartFreq (by decide) (by decide) (by decide) true⟩

end

/-! ### Carrier pairs (R264) -/

section

variable {s : State} {d frames : Nat} {skew : Int}

/-- LE_PAIR and DESKEW_OK of a pair, before SSF follows. -/
def State.showDeskew (s : State) (d : Nat) (skew : Int) (ok : Bool) : State := (s.showSkew d skew).wrBool F.LE_STAT_DESKEW_OK (2 * d) ok

theorem State.deskewLoss_lost (hp : s.paired (2 * d) = true) (hf : 3 ≤ frames) (hk : 20000 < skew.natAbs) :
    s.deskewLoss d skew frames = ((s.showDeskew d skew false).showSsf (2 * d)).raise F.LE_STICKY_DESKEW_LOSS (2 * d) := by
  rw [State.deskewLoss, if_neg (by simp [hp])]
  exact if_pos (by simp [hf, hk])

theorem State.deskewLoss_within (h0 : s.on F.LF_STAT_OOF (2 * d) = false) (h1 : s.on F.LF_STAT_OOF (2 * d + 1) = false)
    (hk : skew.natAbs ≤ 20000) : s.deskewLoss d skew frames = s := by
  unfold State.deskewLoss
  split
  · rfl
  · exact if_neg (by simp [h0, h1]; omega)

theorem State.deskewRegained_found (hp : s.paired (2 * d) = true) (h0 : s.on F.LF_STAT_OOF (2 * d) = false)
    (h1 : s.on F.LF_STAT_OOF (2 * d + 1) = false) (hf : 3 ≤ frames) (hk : skew.natAbs ≤ 19000) :
    s.deskewRegained d skew frames = (s.showDeskew d skew true).showSsf (2 * d) :=
  if_neg (by simp [hp, h0, h1]; omega)

theorem State.deskewRegained_beyond (hk : 19000 < skew.natAbs) : s.deskewRegained d skew frames = s := if_pos (by simp [hk])

theorem State.showDeskew_shows (s : State) (d : Nat) (skew : Int) (ok : Bool) :
    let t := (s.showDeskew d skew ok).showSsf (2 * d)
    t.on F.LE_STAT_DESKEW_OK (2 * d) = ok ∧ t.rd F.LE_PAIR_SKEW (2 * d) = unsigned 16 skew ∧
      s.OnlyRegs t [.LE_PAIR, .LE_STAT, .LF_STAT] ∧ s.SameMemory t := by
  have keeps := (((State.KeepsFrames.refl s [.LE_PAIR, .LE_STAT, .LF_STAT]).wr F.LE_PAIR_SKEW (by decide) (2 * d) (unsigned 16 skew)).wr
    F.LE_STAT_DESKEW_OK (by decide) (2 * d) ok.toNat).showSsf (by decide) (2 * d)
  refine ⟨?_, ?_, keeps.regs, keeps.memory⟩
  · rw [State.on, State.rd_showSsf rfl]
    exact State.on_wr rfl rfl _ _ ok
  · rw [State.rd_showSsf rfl, State.showDeskew, State.wrBool, State.rd_wr_apart rfl]
    exact State.rd_wr_unsigned rfl rfl ..

/-- A pair without deskew is in SSF (R217, R218). -/
theorem State.ssf_showSsf (hp : s.paired (2 * d) = true) (hk : s.on F.LE_STAT_DESKEW_OK (2 * d) = false) :
    (s.showSsf (2 * d)).ssf (2 * d) = true := by
  have half : 2 * (2 * d / 2) = 2 * d := by omega
  have ssf : s.ssfOf (2 * d) = true := by simp [State.ssfOf, State.governor, hp, hk]
  have eq : s.showSsf (2 * d) = (s.wrBool F.LF_STAT_SSF (2 * d) (s.ssfOf (2 * d))).wrBool F.LF_STAT_SSF (2 * d + 1)
      ((s.wrBool F.LF_STAT_SSF (2 * d) (s.ssfOf (2 * d))).ssfOf (2 * d + 1)) := by
    rw [State.showSsf, State.partners, if_pos hp, half]
    rfl
  rw [eq, State.ssf, State.on, State.wrBool, State.rd_wr_reg (.inr (by omega)), ssf]
  exact State.on_wr rfl rfl s _ true

theorem State.deskewLoss_loses (hp : s.paired (2 * d) = true) (hf : 3 ≤ frames) (hk : 20000 < skew.natAbs) :
    (s.deskewLoss d skew frames).on F.LE_STAT_DESKEW_OK (2 * d) = false ∧ (s.deskewLoss d skew frames).ssf (2 * d) = true ∧
      (s.deskewLoss d skew frames).on F.LE_STICKY_DESKEW_LOSS (2 * d) = true ∧
      (s.deskewLoss d skew frames).rd F.LE_PAIR_SKEW (2 * d) = unsigned 16 skew ∧
      s.OnlyRegs (s.deskewLoss d skew frames) [.LE_PAIR, .LE_STAT, .LF_STAT, .LE_STICKY] ∧
      s.SameMemory (s.deskewLoss d skew frames) := by
  obtain ⟨lost, pair, regs, memory⟩ := s.showDeskew_shows d skew false
  have paired : (s.showDeskew d skew false).paired (2 * d) = true := by
    rw [State.paired, State.on, State.showDeskew, State.wrBool, State.rd_wr_apart rfl, State.showSkew, State.rd_wr_apart rfl]
    exact hp
  rw [State.deskewLoss_lost hp hf hk]
  refine ⟨?_, ?_, State.on_raise rfl rfl (by decide) (by decide) .., ?_, ?_, memory.raise ..⟩
  · exact (State.on_raise_ne (by decide) (by decide) (by decide) ..).trans lost
  · refine (State.on_raise_ne (by decide) (by decide) (by decide) ..).trans (State.ssf_showSsf paired ?_)
    exact State.on_wr rfl rfl _ _ false
  · exact (State.rd_raise_apart rfl (by decide) (by decide) ..).trans pair
  · exact (regs.mono (by decide)).raise F.LE_STICKY_DESKEW_LOSS (by decide) _

end

/-- Settles O22: each event by the lemma about what it does in the state named. -/
theorem enginesChangePowerRampAndAcquire : Obligations.EnginesChangePowerRampAndAcquire := by
  refine ⟨fun e s => ⟨fun he h => ?_, fun h => congrArg Host.Outcome.next (State.powerReached_idle h), fun r h hl hs hd hr => ?_,
    fun r h hl hs hd => ?_, fun ho => ?_, fun h0 hx => ?_, fun ho => ?_, fun received hb => ?_⟩,
    fun e s => ⟨fun ticks ht hx => ?_, fun ticks ht => congrArg Host.Outcome.next (State.engineLos_short ht), fun ticks ht hx => ?_,
      fun fofs hx => ?_, fun cd hx => ?_, fun hx hh => ?_, fun hx => ?_, fun h2 h4 ht => ?_,
      fun ht => congrArg Host.Outcome.next (State.acqFail_early ht), fun ticks ht hx => ?_, fun hx hf ht => ?_,
      fun d skew frames hp h0 h1 hf => ⟨fun hk => ⟨_, rfl, State.deskewLoss_loses hp hf hk⟩,
        fun hk => congrArg Host.Outcome.next (State.deskewLoss_within h0 h1 hk), fun hk => ?_,
        fun hk => congrArg Host.Outcome.next (State.deskewRegained_beyond hk)⟩⟩⟩
  · obtain ⟨power, on, idle, only⟩ := State.powerReached_reaches he h
    exact ⟨_, rfl, power, on, idle, only.engines, only.regs, only.memory⟩
  · exact ⟨_, congrArg Host.Outcome.next (State.rampDone_driver h hl hs hd), State.endRamp_ends hr⟩
  · exact ⟨_, congrArg Host.Outcome.next (State.rampDone_laser h hl hs hd), State.endLaserRamp_ends r⟩
  · obtain ⟨fault, ramp, tx, rmp, event, hold, regs, memory⟩ := State.driverFault_faults ho
    exact ⟨_, rfl, fault, ramp, tx, rmp, event, hold, regs, memory⟩
  · obtain ⟨rx, conv, los, only⟩ := State.convFault_receive h0 hx
    exact ⟨_, rfl, rx, conv, los, only.regs, only.memory⟩
  · obtain ⟨conv, faulted⟩ := State.convFault_transmit (by omega) ho
    exact ⟨_, rfl, faulted.fault, faulted.tx, conv, faulted.event, faulted.regs, faulted.memory⟩
  · obtain ⟨full, byte⟩ := State.spiData_spiDone hb received
    obtain ⟨busy, done, regs, memory⟩ := s.endSpi_frees e.val (s.shifted e.val received)
    rw [← State.spiDone_eq hb] at busy done regs memory
    exact ⟨_, rfl, busy, done, full, byte, regs, memory⟩
  · obtain ⟨rx, event, losAt, lock, only⟩ := s.enterLos_enters e.val
    exact ⟨_, congrArg Host.Outcome.next (State.engineLos_falls ht hx), rx, event, losAt, lock, only.regs, only.memory⟩
  · obtain ⟨rx, event, since, only⟩ := State.engineSigOk_acquires ht hx
    simp only [State.acquiresFast_iff] at rx
    exact ⟨_, rfl, rx, event, since, only.regs, only.memory⟩
  · obtain ⟨rx, offset, hint, only⟩ := State.freqLock_locks fofs hx
    exact ⟨_, rfl, rx, offset, hint, only.regs, only.memory⟩
  · obtain ⟨rx, shown, only⟩ := State.cdLock_locks cd hx
    exact ⟨_, rfl, rx, shown, only.regs, only.memory⟩
  · refine ⟨_, congrArg Host.Outcome.next (State.cdHintMiss_searches hx hh), ?_, hx, rfl, rfl, rfl, rfl, rfl⟩
    rw [State.engine_modEngine_same]
  · obtain ⟨rx, fast, count, lock, event, only⟩ := State.engineLock_locks hx
    exact ⟨_, rfl, rx, fast, count, lock, event, only.regs, only.memory⟩
  · obtain ⟨rx, full, event, only⟩ := State.acqFail_restarts h2 h4 ht
    exact ⟨_, rfl, rx, full, event, only.regs, only.memory⟩
  · obtain ⟨rx, count, event, only⟩ := State.engineLol_loses ht hx
    exact ⟨_, rfl, rx, count, event, only.regs, only.memory⟩
  · obtain ⟨rx, fast, only⟩ := State.fastTimeout_restarts hx hf ht
    exact ⟨_, rfl, rx, fast, only.regs, only.memory⟩
  · exact ⟨_, congrArg Host.Outcome.next (State.deskewRegained_found hp h0 h1 hf hk), s.showDeskew_shows d.val skew true⟩

end Sys2Proof.Machine
end

section
/-! The release of PORSTn and of a thermal reset: straps, role, XO_IN and core 0 (R6, R366, R453, R522, R558). -/

namespace Sys2Proof.Machine

theorem DevState.ofCode_code (d : DevState) : DevState.ofCode d.code = d := by cases d <;> rfl

theorem DevState.code_lt (d : DevState) : d.code < 2 ^ F.SY_STATE_STATE.width := by cases d <;> decide

/-- The device is in the state it has entered. -/
theorem State.devState_setDevState (s : State) (d : DevState) : (s.setDevState d).devState = d := by
  rw [State.devState, State.setDevState, State.rd_wr_fits rfl d.code_lt, DevState.ofCode_code]

theorem State.devState_congr {s t : State} (h : t.rd F.SY_STATE_STATE 0 = s.rd F.SY_STATE_STATE 0) : t.devState = s.devState :=
  congrArg DevState.ofCode h

@[simp] theorem State.rd_modBoot (s : State) (g : Boot → Boot) (f : Field) (i : Nat) : (s.modBoot g).rd f i = s.rd f i := rfl

@[simp] theorem State.rd_startCore0 (s : State) (f : Field) (i : Nat) : s.startCore0.rd f i = s.rd f i := rfl

@[simp] theorem State.core_startCore0 (s : State) : s.startCore0.core 0 = { running := true, start := 0 } := by
  rw [State.startCore0, State.core_setCore, if_pos rfl]

/-! ### Straps, role and XO_IN -/

/-- The straps are shown in SY_STRAP. -/
theorem State.rd_takeStraps {f : Field} (h : f.reg ≠ .SY_STRAP) (s : State) (x : Straps) (i : Nat) : (s.takeStraps x).rd f i = s.rd f i := by
  rw [State.takeStraps, State.rd_wr_reg (.inl h.symm), State.rd_wr_reg (.inl h.symm), State.wrBool, State.rd_wr_reg (.inl h.symm),
    State.wrBool, State.rd_wr_reg (.inl h.symm), State.wrBool, State.rd_wr_reg (.inl h.symm)]

/-- SY_STRAP shows each strap as it was sampled (R558). -/
theorem State.takeStraps_shows (s : State) (x : Straps) :
    (s.takeStraps x).rd F.SY_STRAP_BOOT_SRC 0 = x.bootSrc.val ∧ (s.takeStraps x).rd F.SY_STRAP_HROLE 0 = x.hrole.val ∧
      (s.takeStraps x).on F.SY_STRAP_MATE_EN 0 = x.mateEn ∧ (s.takeStraps x).on F.SY_STRAP_DEF_HALT 0 = x.defHalt ∧
      (s.takeStraps x).on F.SY_STRAP_TEST_EN 0 = x.testEn := by
  unfold State.takeStraps
  refine ⟨State.rd_wr_fits rfl x.bootSrc.isLt .., ?_, ?_, ?_, ?_⟩
  · rw [State.rd_wr_apart rfl, State.rd_wr_fits rfl x.hrole.isLt]
  · rw [State.on, State.rd_wr_apart rfl, State.rd_wr_apart rfl]
    exact State.on_wr rfl rfl _ 0 _
  · rw [State.on, State.rd_wr_apart rfl, State.rd_wr_apart rfl, State.wrBool, State.rd_wr_apart rfl]
    exact State.on_wr rfl rfl _ 0 _
  · rw [State.on, State.rd_wr_apart rfl, State.rd_wr_apart rfl, State.wrBool, State.rd_wr_apart rfl, State.wrBool, State.rd_wr_apart rfl]
    exact State.on_wr rfl rfl s 0 _

theorem State.rd_raiseIf_ne {f g : Field} (h0 : g.reg ≠ f.reg) (h1 : g.reg ≠ .EV_STICKY) (h2 : g.reg ≠ .EV_SRC_CNT) (s : State)
    (c : Bool) (i j : Nat) : (s.raiseIf c f i).rd g j = s.rd g j := by
  unfold State.raiseIf
  split
  · exact State.raise_rd s f i h0 h1 h2 j
  · rfl

/-- The role is shown in HR_CFG, a bad HROLE in HR_DSTICKY. -/
theorem State.rd_takeRole {f : Field} (h : f.reg ∉ [Reg.HR_CFG, .HR_DSTICKY, .EV_STICKY, .EV_SRC_CNT]) (s : State) (n i : Nat) :
    (s.takeRole n).rd f i = s.rd f i := by
  simp only [List.mem_cons, List.not_mem_nil, or_false, not_or] at h
  obtain ⟨cfg, sticky, h1, h2⟩ := h
  rw [State.takeRole, State.rd_raiseIf_ne sticky h1 h2, State.rd_wr_reg (.inl (Ne.symm cfg))]

theorem State.role_takeRole (s : State) (n : Fin 4) : (s.takeRole n.val).rd F.HR_CFG_ROLE 0 = if n.val = 3 then 0 else n.val := by
  have fits : (if n.val == 3 then 0 else n.val) < 2 ^ F.HR_CFG_ROLE.width := by
    split
    · decide
    · exact n.isLt
  rw [State.takeRole, State.rd_raiseIf_ne (by decide) (by decide) (by decide), State.rd_wr_fits rfl fits]
  simp

/-- XO_IN as it was measured, if it lies near a frequency (R366). -/
def State.showXo (s : State) (xo : Option (Fin 5)) : State :=
  match xo with
  | some f => s.wr F.TM_XO_FREQ 0 f.val
  | none => s

/-- XO_IN is shown in TM_XO. -/
theorem State.rd_showXo {f : Field} (h : f.reg ≠ .TM_XO) (s : State) (xo : Option (Fin 5)) (i : Nat) : (s.showXo xo).rd f i = s.rd f i := by
  cases xo with
  | none => rfl
  | some x => exact State.rd_wr_reg (.inl h.symm) s _

/-! ### The release -/

/-- The state of BOOT in which a release begins. -/
def State.enterBoot (s : State) (xoBad : Bool) : State :=
  (s.modBoot fun b => { b with porst := false, thermal := false, xoBad := xoBad }).setDevState .boot

theorem State.leaveReset_eq (s : State) (straps : Straps) (xo : Option (Fin 5)) (cause : Nat) :
    s.leaveReset straps xo cause =
      (((((s.enterBoot xo.isNone).showXo xo).takeStraps straps).takeRole straps.hrole.val).wr F.SY_RST_CAUSE_LAST 0 cause).startCore0 := by
  cases xo <;> rfl

/-- The registers that a release writes. -/
def releaseRegs : List Reg := [.SY_STATE, .SY_STRAP, .SY_RST_CAUSE, .HR_CFG, .HR_DSTICKY, .TM_XO]

theorem State.KeepsFrames.modBoot {s t : State} {rs : List Reg} (h : s.KeepsFrames t rs) (f : Boot → Boot) :
    s.KeepsFrames (t.modBoot f) rs := h.congr rfl ⟨rfl, rfl, rfl, rfl⟩ rfl rfl

theorem State.KeepsFrames.enterBoot {s t : State} {rs : List Reg} (h : s.KeepsFrames t rs) (hr : Reg.SY_STATE ∈ rs) (xoBad : Bool) :
    s.KeepsFrames (t.enterBoot xoBad) rs := (h.modBoot _).wr F.SY_STATE_STATE hr 0 _

theorem State.KeepsFrames.startCore0 {s t : State} {rs : List Reg} (h : s.KeepsFrames t rs) : s.KeepsFrames t.startCore0 rs :=
  h.congr rfl ⟨rfl, rfl, rfl, rfl⟩ rfl rfl

theorem State.KeepsFrames.showXo {s t : State} {rs : List Reg} (h : s.KeepsFrames t rs) (hr : Reg.TM_XO ∈ rs) (xo : Option (Fin 5)) :
    s.KeepsFrames (t.showXo xo) rs := by
  cases xo with
  | none => exact h
  | some x => exact h.wr F.TM_XO_FREQ hr 0 _

theorem State.leaveReset_keeps (s : State) (straps : Straps) (xo : Option (Fin 5)) (cause : Nat) :
    s.KeepsFrames (s.leaveReset straps xo cause) releaseRegs := by
  have sampled (t : State) (h : s.KeepsFrames t releaseRegs) : s.KeepsFrames (t.takeStraps straps) releaseRegs :=
    ((((h.wr F.SY_STRAP_TEST_EN (by decide) 0 _).wr F.SY_STRAP_DEF_HALT (by decide) 0 _).wr F.SY_STRAP_MATE_EN (by decide) 0 _).wr
      F.SY_STRAP_HROLE (by decide) 0 _).wr F.SY_STRAP_BOOT_SRC (by decide) 0 _
  have boot := (State.KeepsFrames.refl s releaseRegs).enterBoot (by decide) xo.isNone
  rw [State.leaveReset_eq]
  exact ((((sampled _ (boot.showXo (by decide) xo)).wr F.HR_CFG_ROLE (by decide) 0 _).raiseIf _ F.HR_DSTICKY_HROLE_BAD (by decide)
    0).wr F.SY_RST_CAUSE_LAST (by decide) 0 cause).startCore0

/-- What the release leaves: BOOT with its cause, the straps, the role, XO_IN, and core 0 at address 0. -/
structure State.Released (t : State) (straps : Straps) (xo : Option (Fin 5)) (cause : Nat) : Prop where
  porst : t.boot.porst = false
  xoBad : t.boot.xoBad = xo.isNone
  state : t.devState = .boot
  cause : t.rd F.SY_RST_CAUSE_LAST 0 = cause
  bootSrc : t.rd F.SY_STRAP_BOOT_SRC 0 = straps.bootSrc.val
  hrole : t.rd F.SY_STRAP_HROLE 0 = straps.hrole.val
  mateEn : t.on F.SY_STRAP_MATE_EN 0 = straps.mateEn
  defHalt : t.on F.SY_STRAP_DEF_HALT 0 = straps.defHalt
  testEn : t.on F.SY_STRAP_TEST_EN 0 = straps.testEn
  role : t.rd F.HR_CFG_ROLE 0 = if straps.hrole.val = 3 then 0 else straps.hrole.val
  freq : ∀ f, xo = some f → t.rd F.TM_XO_FREQ 0 = f.val
  core0 : t.core 0 = { running := true, start := 0 }

theorem State.boot_leaveReset (s : State) (straps : Straps) (xo : Option (Fin 5)) (cause : Nat) :
    (s.leaveReset straps xo cause).boot = { s.boot with porst := false, thermal := false, xoBad := xo.isNone } := by
  rw [State.leaveReset_eq]
  cases xo <;> exact State.raiseIf_boot ..

theorem State.leaveReset_releases (s : State) (straps : Straps) (xo : Option (Fin 5)) {cause : Nat} (hc : cause < 4) :
    (s.leaveReset straps xo cause).Released straps xo cause := by
  obtain ⟨bootSrc, hrole, mateEn, defHalt, testEn⟩ := ((s.enterBoot xo.isNone).showXo xo).takeStraps_shows straps
  have boot := s.boot_leaveReset straps xo cause
  have strap {f : Field} (h : f.reg = .SY_STRAP) :
      (s.leaveReset straps xo cause).rd f 0 = (((s.enterBoot xo.isNone).showXo xo).takeStraps straps).rd f 0 := by
    rw [State.leaveReset_eq, State.rd_startCore0, State.rd_wr_reg (.inl (by rw [h]; decide)), State.rd_takeRole (by rw [h]; decide)]
  have early {f : Field} (h : f.reg ∉ [Reg.SY_STRAP, .HR_CFG, .HR_DSTICKY, .EV_STICKY, .EV_SRC_CNT, .SY_RST_CAUSE]) :
      (s.leaveReset straps xo cause).rd f 0 = ((s.enterBoot xo.isNone).showXo xo).rd f 0 := by
    simp only [List.mem_cons, List.not_mem_nil, or_false, not_or] at h
    obtain ⟨strap, cfg, sticky, h1, h2, rst⟩ := h
    rw [State.leaveReset_eq, State.rd_startCore0, State.rd_wr_reg (.inl (Ne.symm rst)), State.rd_takeRole (by simp [*]),
      State.rd_takeStraps strap]
  exact {
    porst := by rw [boot]
    xoBad := by rw [boot]
    state := by
      rw [State.devState_congr (early (by decide)), State.devState_congr (State.rd_showXo (by decide) ..)]
      exact State.devState_setDevState ..
    cause := by rw [State.leaveReset_eq, State.rd_startCore0, State.rd_wr_fits rfl hc]
    bootSrc := (strap rfl).trans bootSrc
    hrole := (strap rfl).trans hrole
    mateEn := by rw [State.on, strap rfl]; exact mateEn
    defHalt := by rw [State.on, strap rfl]; exact defHalt
    testEn := by rw [State.on, strap rfl]; exact testEn
    role := by rw [State.leaveReset_eq, State.rd_startCore0, State.rd_wr_reg (.inl (by decide)), State.role_takeRole]
    freq := by
      rintro f rfl
      rw [early (by decide)]
      exact State.rd_wr_fits rfl (Nat.lt_trans f.isLt (by decide)) _ 0
    core0 := by rw [State.leaveReset_eq, State.core_startCore0] }

end Sys2Proof.Machine
end

section
/-! What SRSTn ends and what it keeps (R267, R517, R568, R570). -/

namespace Sys2Proof.Machine

/-! ### What lasts through SRSTn -/

/-- What SRSTn leaves as it is, registers apart (R570). -/
structure Lasting where
  tick : Tick
  image : Image
  enc : Table EncCtx
  fuses : Fuses
  written : List Nat
  mem : Mem
  anc : Mem
  badWords : List Nat
  ancBad : List Nat

/-- Every core is reset (R522). -/
def State.stopCores (s : State) : State := { s with cores := [] }

/-- What of a state lasts through SRSTn. -/
def State.lasting (s : State) : Lasting := ⟨s.tick, s.image, s.enc, s.fuses, s.written, s.mem, s.anc, s.badWords, s.ancBad⟩

theorem State.sameMemory_of_lasting {s t : State} (h : t.lasting = s.lasting) : s.SameMemory t :=
  ⟨congrArg Lasting.mem h, congrArg Lasting.anc h, congrArg Lasting.badWords h, congrArg Lasting.ancBad h⟩

/-- Every copy of the registers listed, and what lasts, is the same. -/
structure State.KeepsRegs (s t : State) (rs : List Reg) : Prop where
  regs : ∀ r, r ∈ rs → ∀ i, t.reg r i = s.reg r i
  lasting : t.lasting = s.lasting

namespace State.KeepsRegs

variable {s t u : State} {rs qs : List Reg}

theorem refl (s : State) (rs : List Reg) : s.KeepsRegs s rs := ⟨fun _ _ _ => rfl, rfl⟩

theorem trans (h : s.KeepsRegs t rs) (k : t.KeepsRegs u rs) : s.KeepsRegs u rs :=
  ⟨fun r hr i => (k.regs r hr i).trans (h.regs r hr i), k.lasting.trans h.lasting⟩

theorem mono (h : s.KeepsRegs t rs) (hs : qs ⊆ rs) : s.KeepsRegs t qs := ⟨fun r hr => h.regs r (hs hr), h.lasting⟩

theorem rd_eq (h : s.KeepsRegs t rs) {f : Field} (hf : f.reg ∈ rs) (i : Nat) : t.rd f i = s.rd f i := congrArg f.get (h.regs _ hf i)

theorem congr (h : s.KeepsRegs t rs) (hr : u.regs = t.regs) (hl : u.lasting = t.lasting) : s.KeepsRegs u rs :=
  h.trans ⟨fun r _ i => State.reg_congr hr r i, hl⟩

theorem modSwap (h : s.KeepsRegs t rs) (f : Swap → Swap) : s.KeepsRegs (t.modSwap f) rs := h.congr rfl rfl
theorem modBoot (h : s.KeepsRegs t rs) (f : Boot → Boot) : s.KeepsRegs (t.modBoot f) rs := h.congr rfl rfl
theorem modMarch (h : s.KeepsRegs t rs) (f : March → March) : s.KeepsRegs (t.modMarch f) rs := h.congr rfl rfl

theorem ite {c : Prop} [Decidable c] (h : s.KeepsRegs t rs) (k : s.KeepsRegs u rs) : s.KeepsRegs (if c then t else u) rs := by
  split
  · exact h
  · exact k

theorem setReg (h : s.KeepsRegs t rs) (r : Reg) (hr : r ∉ rs) (i : Nat) (v : Word) : s.KeepsRegs (t.setReg r i v) rs :=
  h.trans ⟨fun _ hq _ => (State.reg_setReg ..).trans (if_neg fun ⟨hrq, _⟩ => hr (hrq ▸ hq)), rfl⟩

theorem wr (h : s.KeepsRegs t rs) (f : Field) (hf : f.reg ∉ rs) (i v : Nat) : s.KeepsRegs (t.wr f i v) rs := h.setReg f.reg hf i _

theorem each (h : s.KeepsRegs t rs) {α : Type} {f : State → α → State} (hf : ∀ {u : State} x, s.KeepsRegs u rs → s.KeepsRegs (f u x) rs)
    (l : List α) : s.KeepsRegs (t.each l f) rs := by
  induction l generalizing t with
  | nil => exact h
  | cons x l ih => exact ih (hf x h)

theorem raise (h : s.KeepsRegs t rs) (f : Field) (hf : f.reg ∉ rs) (h1 : Reg.EV_STICKY ∉ rs) (h2 : Reg.EV_SRC_CNT ∉ rs) (i : Nat) :
    s.KeepsRegs (t.raise f i) rs :=
  h.trans ⟨fun _ hq j => State.raise_reg t f i (fun e => hf (e ▸ hq)) (fun e => h1 (e ▸ hq)) (fun e => h2 (e ▸ hq)) j,
    by simp [State.lasting]⟩

/-- The cores stop. -/
theorem stopCores (h : s.KeepsRegs t rs) : s.KeepsRegs t.stopCores rs := h.congr rfl rfl

/-! ### Swaps, applies and tests (R117, R497, R568) -/

theorem endSwap (h : s.KeepsRegs t rs) (hr : Reg.GRID_SWAP_STAT ∉ rs) : s.KeepsRegs t.endSwap rs := by
  unfold State.endSwap
  exact (wr (h.wr F.GRID_SWAP_STAT_STATE hr 0 _) F.GRID_SWAP_STAT_ARMED hr 0 0).modSwap _

theorem swapSrst (h : s.KeepsRegs t rs) (hr : Reg.GRID_SWAP_STAT ∉ rs) (hs : Reg.GRID_STOW_STAT ∉ rs) : s.KeepsRegs t.swapSrst rs := by
  unfold State.swapSrst
  extract_lets u
  have hu : s.KeepsRegs u rs := ite ((h.wr F.GRID_STOW_STAT_REPACK_BUSY hs 0 0).modSwap _) h
  exact ite hu (((hu.endSwap hr).wr F.GRID_SWAP_STAT_RESULT hr 0 8).modSwap _)

theorem swapsEnd (h : s.KeepsRegs t rs) (hr : Reg.GRID_SWAP_STAT ∉ rs) (hs : Reg.GRID_STOW_STAT ∉ rs) : s.KeepsRegs t.swapsEnd rs := by
  unfold State.swapsEnd
  extract_lets u
  have hu : s.KeepsRegs u rs := h.congr rfl rfl
  exact ite hu (swapSrst (hu.congr rfl rfl) hr hs)

theorem dropApply (h : s.KeepsRegs t rs) (hr : Reg.SY_IMG_STAT ∉ rs) : s.KeepsRegs t.dropApply rs :=
  congr ((h.modSwap _).wr F.SY_IMG_STAT_STATE hr 0 0) rfl rfl

theorem applySrst (h : s.KeepsRegs t rs) (hr : Reg.SY_IMG_STAT ∉ rs) : s.KeepsRegs t.applySrst rs :=
  ite h ((h.dropApply hr).wr F.SY_IMG_STAT_RESULT hr 0 8)

theorem marchStop (h : s.KeepsRegs t rs) (hr : Reg.MM_BT_STAT ∉ rs) : s.KeepsRegs t.marchStop rs := by
  unfold State.marchStop
  split
  · exact ((h.modMarch _).wr F.MM_BT_STAT_BORROWED hr 0 0).modMarch _
  · exact h

/-! ### Registers, transfers and cores (R267, R517, R520, R538) -/

/-- Only copies that are held per master are cleared. -/
theorem clearCopies (h : s.KeepsRegs t rs) (hc : ∀ r ∈ rs, (r.info.scope == .copy) = false) : s.KeepsRegs t.clearCopies rs := by
  refine h.trans ⟨fun q hq _ => State.reg_keepRegs (fun _ => ?_) t, rfl⟩
  rw [Bool.not_eq_true', List.any_eq_false]
  rintro r - hr
  obtain ⟨hi, hs⟩ := Bool.and_eq_true_iff.1 hr
  rw [Reg.ctorIdx_inj (beq_iff_eq.1 hi : r.ctorIdx = q.ctorIdx), hc q hq] at hs
  exact Bool.false_ne_true hs

theorem srstRegs (h : s.KeepsRegs t rs) (hc : ∀ r ∈ rs, (r.info.scope == .copy) = false)
    (hr : ∀ r ∈ ([.SY_REMAP, .SY_PC_CTRL, .SY_PC_SWI, .SY_MBX] : List Reg), r ∉ rs) : s.KeepsRegs t.srstRegs rs := by
  refine clearCopies ?_ hc
  exact (((h.setReg .SY_REMAP (hr _ (by decide)) 0 _).setReg .SY_PC_CTRL (hr _ (by decide)) 0 _).setReg .SY_PC_SWI (hr _ (by decide)) 0
    _).setReg .SY_MBX (hr _ (by decide)) 0 _

theorem spiStop (h : s.KeepsRegs t rs) (hr : Reg.LE_SPI_CTRL ∉ rs) : s.KeepsRegs t.spiStop rs :=
  modBoot (h.each (fun e k => k.wr F.LE_SPI_CTRL_BUSY hr e 0) _) _

theorem mastersReset (h : s.KeepsRegs t rs) (hr : Reg.BM_STICKY ∉ rs) (h1 : Reg.EV_STICKY ∉ rs) (h2 : Reg.EV_SRC_CNT ∉ rs) (b : Bool) :
    s.KeepsRegs (t.mastersReset b) rs := ite (h.raise F.BM_STICKY_MRESET hr h1 h2 0) h

end State.KeepsRegs

/-! ### The boot sequencer and the applied image -/

@[simp] theorem State.boot_swapsEnd (s : State) : s.swapsEnd.boot = s.boot := by
  unfold State.swapsEnd State.swapSrst
  dsimp only
  split
  · rfl
  · split <;> split <;> rfl

@[simp] theorem State.boot_applySrst (s : State) : s.applySrst.boot = s.boot := by
  unfold State.applySrst
  split <;> rfl

@[simp] theorem State.boot_marchStop (s : State) : s.marchStop.boot = s.boot := by
  unfold State.marchStop
  split <;> rfl

@[simp] theorem State.applied_marchStop (s : State) : s.marchStop.applied = s.applied := by
  unfold State.marchStop
  split <;> rfl

@[simp] theorem State.boot_modBoot (s : State) (f : Boot → Boot) : (s.modBoot f).boot = f s.boot := (rfl)

@[simp] theorem State.applied_modBoot (s : State) (f : Boot → Boot) : (s.modBoot f).applied = s.applied := (rfl)

@[simp] theorem State.boot_stopCores (s : State) : s.stopCores.boot = s.boot := (rfl)

@[simp] theorem State.applied_stopCores (s : State) : s.stopCores.applied = s.applied := (rfl)

@[simp] theorem State.cores_stopCores (s : State) : s.stopCores.cores = [] := (rfl)

@[simp] theorem State.applied_spiStop (s : State) : s.spiStop.applied = s.applied := by
  rw [State.spiStop, State.applied_modBoot]
  exact State.each_keeps State.applied (f := fun s e => s.wr F.LE_SPI_CTRL_BUSY e 0) (fun _ _ => rfl) _ s

/-- The transfers that SRSTn cuts are noted (R267). -/
@[simp] theorem State.boot_spiStop (s : State) : s.spiStop.boot = { s.boot with spiCut := s.spiEnded } := by
  have kept : (s.each (List.range 8) fun s e => s.wr F.LE_SPI_CTRL_BUSY e 0).boot = s.boot :=
    State.each_keeps State.boot (f := fun s e => s.wr F.LE_SPI_CTRL_BUSY e 0) (fun _ _ => rfl) _ s
  rw [State.spiStop, State.boot_modBoot, kept]

@[simp] theorem State.boot_srstRegs (s : State) : s.srstRegs.boot = s.boot := (rfl)

@[simp] theorem State.applied_srstRegs (s : State) : s.srstRegs.applied = s.applied := (rfl)

/-! ### SRSTn -/

/-- Swaps, applies and tests have ended, and the registers of R538 and R520 are reset. -/
def State.srstQuiet (s : State) : State := s.swapsEnd.applySrst.marchStop.srstRegs

/-- With the transfers of the optics interfaces the cores and the masters' bursts have ended as well. -/
def State.srstEnds (s : State) (midBurst : List (Fin 10)) : State :=
  (s.srstQuiet.spiStop.stopCores.wr F.SY_QSPI_CMD_BUSY 0 0).mastersReset (midBurst.any fun m => decide (m.val ≤ 5))

theorem State.srstAssert_eq {s : State} (hp : s.boot.porst = false) (hs : s.boot.srst = false) (midBurst : List (Fin 10)) :
    s.srstAssert midBurst = ((s.srstEnds midBurst).modBoot fun b =>
      { b with srst := true, before := (s.srstEnds midBurst).devState }).setDevState .boot := if_neg (by simp [hp, hs])

/-- The registers that a statement about SRSTn sees kept. -/
def srstKept : List Reg := [.SY_STRAP, .MT_STAT, .MM_ANC_STAT]

/-- Up to the transfers of the optics interfaces, SRSTn keeps these and the device state. -/
theorem State.srstQuiet_keeps (s : State) : s.KeepsRegs s.srstQuiet (.LE_SPI_CTRL :: .SY_STATE :: srstKept) :=
  ((((State.KeepsRegs.refl s _).swapsEnd (by decide) (by decide)).applySrst (by decide)).marchStop (by decide)).srstRegs (by decide)
    (by decide)

/-- The cores and bursts end without a change of LE_SPI_CTRL and SY_IMG_STAT. -/
theorem State.srstEnds_keeps_spiStop (s : State) (midBurst : List (Fin 10)) :
    s.srstQuiet.spiStop.KeepsRegs (s.srstEnds midBurst) (.LE_SPI_CTRL :: .SY_IMG_STAT :: .SY_STATE :: srstKept) := by
  unfold State.srstEnds
  exact ((State.KeepsRegs.refl ..).stopCores.wr F.SY_QSPI_CMD_BUSY (by decide) 0 0).mastersReset (by decide) (by decide) (by decide) _

theorem State.srstEnds_keeps (s : State) (midBurst : List (Fin 10)) : s.KeepsRegs (s.srstEnds midBurst) (.SY_STATE :: srstKept) :=
  ((s.srstQuiet_keeps.mono (by decide)).spiStop (by decide)).trans ((s.srstEnds_keeps_spiStop midBurst).mono (by decide))

theorem State.cores_srstEnds (s : State) (midBurst : List (Fin 10)) : (s.srstEnds midBurst).cores = [] := by
  simp [State.srstEnds, State.mastersReset]

/-- The transfers that SRSTn has cut are those in progress and those cut before (R267). -/
theorem State.boot_srstEnds (s : State) (midBurst : List (Fin 10)) : (s.srstEnds midBurst).boot = { s.boot with spiCut := s.spiEnded } := by
  have quiet : s.srstQuiet.boot = s.boot := by simp [State.srstQuiet]
  have busy (e : Nat) : s.srstQuiet.on F.LE_SPI_CTRL_BUSY e = s.on F.LE_SPI_CTRL_BUSY e :=
    congrArg (· == 1) (s.srstQuiet_keeps.rd_eq (by decide) e)
  have ended : s.srstQuiet.spiEnded = s.spiEnded := by simp only [State.spiEnded, quiet, busy]
  simp [State.srstEnds, State.mastersReset, quiet, ended]

/-- Every copy in the list reads 0 once the field is written 0 there. -/
theorem State.rd_each_wr_zero {f : Field} (hg : f.good = true) {l : List Nat} {s : State} {i : Nat} (h : i ∈ l ∨ s.rd f i = 0) :
    (s.each l fun s k => s.wr f k 0).rd f i = 0 := by
  induction l generalizing s with
  | nil => exact h.resolve_left List.not_mem_nil
  | cons k l ih =>
    refine ih (s := s.wr f k 0) ?_
    by_cases hk : k = i
    · subst hk
      exact .inr ((State.rd_wr hg ..).trans (Nat.zero_mod _))
    · rw [State.rd_wr_reg (.inr hk)]
      exact h.imp_left fun hi => (List.mem_cons.1 hi).resolve_left (Ne.symm hk)

theorem State.busy_spiStop (s : State) {e : Nat} (he : e < 8) : s.spiStop.rd F.LE_SPI_CTRL_BUSY e = 0 := by
  rw [State.spiStop, State.rd_modBoot]
  exact State.rd_each_wr_zero rfl (.inl (List.mem_range.2 he))

/-- An applied image is discarded with result RESET (R568). -/
theorem State.applySrst_applied {s : State} (h : s.imgState = 4) : s.applySrst = s.dropApply.imgResult 8 :=
  if_neg (by simp [h])

theorem State.img_dropApply (s : State) : (s.dropApply.imgResult 8).imgState = 0 ∧ (s.dropApply.imgResult 8).rd F.SY_IMG_STAT_RESULT 0 = 8 ∧
    (s.dropApply.imgResult 8).applied = none := by
  refine ⟨?_, State.rd_wr_fits rfl (by decide) .., rfl⟩
  rw [State.imgState, State.imgResult, State.rd_wr_apart rfl]
  exact State.rd_wr_fits rfl (by decide) (s.modSwap _) 0

/-- The applied image is gone when SRSTn has ended everything. -/
theorem State.img_srstEnds {s : State} (h : s.imgState = 4) (midBurst : List (Fin 10)) :
    (s.srstEnds midBurst).imgState = 0 ∧ (s.srstEnds midBurst).rd F.SY_IMG_STAT_RESULT 0 = 8 ∧ (s.srstEnds midBurst).applied = none := by
  have loaded : s.swapsEnd.imgState = 4 :=
    ((((State.KeepsRegs.refl s [.SY_IMG_STAT]).swapsEnd (by decide) (by decide)).rd_eq (f := F.SY_IMG_STAT_STATE) (by decide) 0)).trans h
  obtain ⟨state, result, applied⟩ := s.swapsEnd.img_dropApply
  rw [← State.applySrst_applied loaded] at state result applied
  have quiet : s.swapsEnd.applySrst.KeepsRegs s.srstQuiet [.SY_IMG_STAT] :=
    ((State.KeepsRegs.refl ..).marchStop (by decide)).srstRegs (by decide) (by decide)
  have keeps := (quiet.spiStop (by decide)).trans ((s.srstEnds_keeps_spiStop midBurst).mono (by decide))
  refine ⟨(keeps.rd_eq (f := F.SY_IMG_STAT_STATE) (by decide) 0).trans state, (keeps.rd_eq (by decide) 0).trans result, ?_⟩
  rw [State.srstEnds, State.mastersReset, State.raiseIf_applied, State.wr_applied, State.applied_stopCores, State.applied_spiStop,
    State.srstQuiet, State.applied_srstRegs, State.applied_marchStop, applied]

end Sys2Proof.Machine
end

section
/-! The release of SRSTn (R267, R571), and with what stands above, O44. -/

namespace Sys2Proof.Machine

/-! ### Reports and the end of BOOT -/

/-- A report sets the sticky bit of its source (R576). -/
theorem State.sourceSticky_report (s : State) (src leaf chan detail : Nat) :
    (s.report src leaf chan detail).sourceSticky src = true := by
  have word (t : State) : (t.wr F.EV_STICKY_SRC (src / 32) (s.rd F.EV_STICKY_SRC (src / 32) ||| 2 ^ (src % 32))).sourceSticky src = true := by
    have fits : src % 32 < F.EV_STICKY_SRC.width := Nat.mod_lt _ (by decide)
    rw [State.sourceSticky, State.rd_wr rfl, Nat.testBit_mod_two_pow, Nat.testBit_or, Nat.testBit_two_pow_self, Bool.or_true, Bool.and_true]
    exact decide_eq_true fits
  have congr {t u : State} (h : u.regs = t.regs) (ht : t.sourceSticky src = true) : u.sourceSticky src = true := by
    rw [State.sourceSticky, State.rd, State.reg_congr h]
    exact ht
  unfold State.report
  dsimp only
  split
  · exact congr (State.sendMsix_regs ..) (word (s.incWrap F.EV_SRC_CNT_CNT src 1))
  · exact word (s.incWrap F.EV_SRC_CNT_CNT src 1)

/-- Every copy in the list has its event raised. -/
theorem State.on_each_raise {f : Field} (hg : f.good = true) (hw : f.hi = f.lo) (h1 : f.reg ≠ .EV_STICKY) (h2 : f.reg ≠ .EV_SRC_CNT)
    {l : List Nat} {s : State} {i : Nat} (h : i ∈ l ∨ s.on f i = true) : (s.each l fun s k => s.raise f k).on f i = true := by
  induction l generalizing s with
  | nil => exact h.resolve_left List.not_mem_nil
  | cons k l ih =>
    refine ih (s := s.raise f k) ?_
    by_cases hk : i = k
    · subst hk
      exact .inr (State.on_raise hg hw h1 h2 s i)
    · rcases h with h | h
      · exact .inl ((List.mem_cons.1 h).resolve_left hk)
      · have copy : (s.raise f k).reg f.reg i = s.reg f.reg i := s.onlyAt_raise (List.mem_singleton_self _) k f.reg i (.inr hk) h1 h2
        exact .inr ((congrArg (f.get · == 1) copy).trans h)

namespace State.KeepsFrames

variable {s t : State} {rs : List Reg}

theorem raiseSource (h : s.KeepsFrames t rs) (src : Nat) : s.KeepsFrames (t.raiseSource src) rs :=
  h.trans ⟨fun _ j _ h1 h2 => State.report_reg t src 0 0 0 h1 h2 j, ⟨by simp, by simp, by simp, by simp⟩, by simp, by simp⟩

theorem appletsAgain (h : s.KeepsFrames t rs) (hr : Reg.SY_APPLET ∈ rs) : s.KeepsFrames t.appletsAgain rs := by
  unfold State.appletsAgain State.setApplets
  refine h.each (fun u k => ?_) _
  dsimp only
  split
  · exact (refl u rs).wr _ hr 0 0
  · exact ((refl u rs).wr _ hr 0 _).ite (refl u rs)

end State.KeepsFrames

/-- After SRSTn BOOT ends in a state with the events of the transfers cut and with source SRST (R267, R571). -/
theorem State.endBoot_again {s : State} (h : s.boot.again = true) (d : DevState) :
    s.endBoot d = (((s.setDevState d).modBoot fun b => { b with again := false, hostWait := false, spiCut := [] }).each s.boot.spiCut
      fun s e => s.raise F.LE_STICKY_SPI_ERR e).raiseSource 7 := if_pos h

/-- What the end of BOOT after SRSTn leaves. -/
structure State.EndsBoot (s t : State) (d : DevState) : Prop where
  state : t.devState = d
  srst : t.boot.srst = s.boot.srst
  source : t.sourceSticky 7 = true
  cut : ∀ e, e ∈ s.boot.spiCut → t.on F.LE_STICKY_SPI_ERR e = true
  cores : t.cores = s.cores
  lasting : t.lasting = s.lasting
  keeps : s.KeepsFrames t [.SY_STATE, .LE_STICKY]

theorem State.endBoot_ends {s : State} (h : s.boot.again = true) (d : DevState) : s.EndsBoot (s.endBoot d) d := by
  rw [State.endBoot_again h]
  generalize hu : (s.setDevState d).modBoot (fun b => { b with again := false, hostWait := false, spiCut := [] }) = u
  have entered : s.KeepsFrames u [.SY_STATE, .LE_STICKY] := hu ▸ ((State.KeepsFrames.refl s _).wr F.SY_STATE_STATE (by decide) 0 _).modBoot _
  have state : u.devState = d := hu ▸ s.devState_setDevState d
  have srst : u.boot.srst = s.boot.srst := by rw [← hu]; rfl
  have cores : u.cores = s.cores := by rw [← hu]; rfl
  have lasting : u.lasting = s.lasting := by rw [← hu]; rfl
  have raised {rs : List Reg} (hr : Reg.LE_STICKY ∈ rs) :
      u.KeepsFrames (u.each s.boot.spiCut fun s e => s.raise F.LE_STICKY_SPI_ERR e) rs :=
    (State.KeepsFrames.refl u rs).each (fun t e => (State.KeepsFrames.refl t rs).raise F.LE_STICKY_SPI_ERR hr e) _
  have events : ∀ e, e ∈ s.boot.spiCut → (u.each s.boot.spiCut fun s e => s.raise F.LE_STICKY_SPI_ERR e).on F.LE_STICKY_SPI_ERR e = true :=
    fun e he => State.on_each_raise rfl rfl (by decide) (by decide) (.inl he)
  have same {β : Type} (p : State → β) (hp : ∀ t e, p (State.raise t F.LE_STICKY_SPI_ERR e) = p t) :
      p (u.each s.boot.spiCut fun s e => s.raise F.LE_STICKY_SPI_ERR e) = p u := State.each_keeps p hp _ u
  exact {
    state := (State.devState_congr (((raised (List.mem_singleton_self _)).raiseSource 7).regs.rd_eq (by decide) (by decide) (by decide)
      0)).trans state
    srst := by rw [State.raiseSource_boot, same State.boot (fun _ _ => State.raise_boot ..), srst]
    source := State.sourceSticky_report ..
    cut := fun e he => ((State.KeepsFrames.refl _ []).raiseSource 7).on_eq (by decide) (by decide) (by decide) e |>.trans (events e he)
    cores := by rw [State.raiseSource_cores, same State.cores (fun _ _ => State.raise_cores ..), cores]
    lasting := by
      refine Eq.trans ?_ ((same State.lasting fun _ _ => by simp [State.lasting]).trans lasting)
      simp [State.lasting]
    keeps := entered.trans ((raised (by decide)).raiseSource 7) }

/-! ### The release -/

/-- SRSTn is high again, with its cause and its count. -/
def State.srstLeave (s : State) : State :=
  ((s.modBoot fun b => { b with srst := false, again := true }).incWrap F.SY_RST_CAUSE_SRST_CNT 0 1).wr F.SY_RST_CAUSE_LAST 0 1

/-- Core 0 runs again, and every applet slot is as the image has it. -/
def State.srstStart (s : State) : State := s.srstLeave.startCore0.appletsAgain

theorem State.rd_srstStart {f : Field} (h : f.reg ∉ [Reg.SY_APPLET, .EV_STICKY, .EV_SRC_CNT]) (s : State) (i : Nat) :
    s.srstStart.rd f i = s.srstLeave.rd f i := by
  simp only [List.mem_cons, List.not_mem_nil, or_false, not_or] at h
  obtain ⟨applet, h1, h2⟩ := h
  have keeps := (State.KeepsFrames.refl s.srstLeave [.SY_APPLET]).startCore0.appletsAgain (by decide)
  exact keeps.regs.rd_eq (by simpa using applet) h1 h2 i

theorem State.boot_srstStart (s : State) : s.srstStart.boot = { s.boot with srst := false, again := true } :=
  State.appletsAgain_keeps State.boot (fun _ _ _ => rfl) s.srstLeave.startCore0

theorem State.lasting_srstStart (s : State) : s.srstStart.lasting = s.lasting :=
  State.appletsAgain_keeps State.lasting (fun _ _ _ => rfl) s.srstLeave.startCore0

theorem State.core_srstStart (s : State) : (s.srstStart.core 0).running = true := by
  have cores : s.srstStart.cores = s.srstLeave.startCore0.cores := State.appletsAgain_keeps State.cores (fun _ _ _ => rfl) _
  rw [State.core, cores, ← State.core, State.core_startCore0]

theorem State.cause_srstStart (s : State) :
    s.srstStart.rd F.SY_RST_CAUSE_LAST 0 = 1 ∧
      s.srstStart.rd F.SY_RST_CAUSE_SRST_CNT 0 = (s.rd F.SY_RST_CAUSE_SRST_CNT 0 + 1) % 2 ^ F.SY_RST_CAUSE_SRST_CNT.width := by
  refine ⟨?_, ?_⟩
  · rw [State.rd_srstStart (by decide), State.srstLeave, State.rd_wr_fits rfl (by decide)]
  · rw [State.rd_srstStart (by decide), State.srstLeave, State.rd_wr_apart rfl]
    exact State.rd_wr rfl ..

theorem State.devState_srstStart (s : State) : s.srstStart.devState = s.devState := by
  refine State.devState_congr ?_
  rw [State.rd_srstStart (by decide), State.srstLeave, State.rd_wr_apart rfl, State.incWrap, State.rd_wr_apart rfl, State.rd_modBoot]

/-- BOOT that did not follow PORSTn ends in the state held before (R571). -/
theorem State.srstRelease_eq {s : State} (hs : s.boot.srst = true) (hd : s.devState = .boot) (hb : s.boot.before ≠ .boot)
    (f : BootFlash) : s.srstRelease f = s.srstStart.endBoot s.boot.before := by
  have state : s.srstStart.devState = .boot := s.devState_srstStart.trans hd
  have before : s.srstStart.boot.before = s.boot.before := by rw [s.boot_srstStart]
  have eq : s.srstRelease f = if s.srstStart.devState != .boot then s.srstStart.endBoot s.srstStart.devState
      else if s.srstStart.boot.before != .boot then s.srstStart.endBoot s.srstStart.boot.before
      else if s.srstStart.boot.loaded && !s.srstStart.boot.xoBad then
        (s.srstStart.modBoot fun b => { b with chosen := none, spare := [], hostWait := false }).setReg .SY_BOOT_STAT 0 0 |>.select f
      else s.srstStart := if_neg (by simp [hs])
  rw [eq, state, before, if_neg (by simp), if_pos (by simpa using hb)]

theorem State.srstStart_keeps (s : State) : s.KeepsFrames s.srstStart [.SY_RST_CAUSE, .SY_APPLET] :=
  ((((State.KeepsFrames.refl s _).modBoot _).incWrap F.SY_RST_CAUSE_SRST_CNT (by decide) 0 1).wr F.SY_RST_CAUSE_LAST (by decide) 0
    1).startCore0.appletsAgain (by decide)

/-! ### The five clauses -/

/-- What SRSTn leaves: BOOT, the state held before, no core running, and what lasts. -/
structure State.SrstHeld (s t : State) : Prop where
  state : t.devState = .boot
  srst : t.boot.srst = true
  before : t.boot.before = s.devState
  cut : t.boot.spiCut = s.spiEnded
  cores : t.cores = []
  spi : ∀ e, e < 8 → t.on F.LE_SPI_CTRL_BUSY e = false
  img : s.imgState = 4 → t.imgState = 0 ∧ t.rd F.SY_IMG_STAT_RESULT 0 = 8 ∧ t.applied = none
  keeps : s.KeepsRegs t srstKept

theorem State.srstAssert_holds {s : State} (hp : s.boot.porst = false) (hs : s.boot.srst = false) (midBurst : List (Fin 10)) :
    s.SrstHeld (s.srstAssert midBurst) := by
  have keeps := s.srstEnds_keeps midBurst
  have boot := s.boot_srstEnds midBurst
  have cores := s.cores_srstEnds midBurst
  have img := State.img_srstEnds (s := s) (midBurst := midBurst)
  have busy (e : Nat) (he : e < 8) : (s.srstEnds midBurst).rd F.LE_SPI_CTRL_BUSY e = 0 :=
    ((s.srstEnds_keeps_spiStop midBurst).rd_eq (by decide) e).trans (s.srstQuiet.busy_spiStop he)
  rw [State.srstAssert_eq hp hs]
  generalize s.srstEnds midBurst = u at *
  have before : u.devState = s.devState := State.devState_congr (keeps.rd_eq (by decide) 0)
  have entered {f : Field} (h : f.reg ≠ .SY_STATE) (b : Boot → Boot) (i : Nat) : ((u.modBoot b).setDevState .boot).rd f i = u.rd f i :=
    State.rd_wr_reg (.inl h.symm) ..
  exact {
    state := State.devState_setDevState ..
    srst := rfl
    before := before
    cut := congrArg Boot.spiCut boot
    cores := cores
    spi := fun e he => by rw [State.on, entered (by decide), busy e he]; rfl
    img := fun h => by
      obtain ⟨state, result, applied⟩ := img h
      exact ⟨(entered (by decide) ..).trans state, (entered (by decide) ..).trans result, applied⟩
    keeps := ((keeps.mono (by decide)).modBoot _).wr F.SY_STATE_STATE (by decide) 0 _ }

theorem exec_porstnRelease (straps : Straps) (xo : Option (Fin 5)) (s : State) : exec (.porstnRelease straps xo) s =
    .next (if s.boot.porst && !s.boot.thermal then s.leaveReset straps xo 0 else s) := rfl

theorem exec_thermalResetRelease (straps : Straps) (xo : Option (Fin 5)) (s : State) : exec (.thermalResetRelease straps xo) s =
    .next (if s.boot.porst && s.thermalCool then s.leaveReset straps xo 2 else s) := rfl

/-- A release of PORSTn or of the thermal reset that has its condition leaves reset with its own cause (R558, R628). -/
theorem exec_release {straps : Straps} {xo : Option (Fin 5)} {c : Instr} {n : Nat} {s : State} (hp : s.boot.porst = true)
    (hc : (c = .porstnRelease straps xo ∧ s.boot.thermal = false ∧ n = 0) ∨
      (c = .thermalResetRelease straps xo ∧ s.thermalCool = true ∧ n = 2)) :
    exec c s = .next (s.leaveReset straps xo n) ∧ n < 4 := by
  obtain ⟨rfl, thermal, rfl⟩ | ⟨rfl, cool, rfl⟩ := hc
  · exact ⟨by simp [exec_porstnRelease, hp, thermal], by decide⟩
  · exact ⟨by simp [exec_thermalResetRelease, hp, cool], by decide⟩

/-- What the release of SRSTn leaves: the state held before, with its cause, count and events. -/
structure State.SrstReleased (s t : State) : Prop where
  state : t.devState = s.boot.before
  srst : t.boot.srst = false
  cause : t.rd F.SY_RST_CAUSE_LAST 0 = 1
  count : t.rd F.SY_RST_CAUSE_SRST_CNT 0 = (s.rd F.SY_RST_CAUSE_SRST_CNT 0 + 1) % 2 ^ F.SY_RST_CAUSE_SRST_CNT.width
  source : t.sourceSticky 7 = true
  core0 : (t.core 0).running = true
  cut : ∀ e, e ∈ s.boot.spiCut → t.on F.LE_STICKY_SPI_ERR e = true
  lasting : t.lasting = s.lasting
  keeps : s.KeepsFrames t [.SY_STATE, .SY_RST_CAUSE, .SY_APPLET, .LE_STICKY]

theorem State.srstRelease_releases {s : State} (hs : s.boot.srst = true) (hd : s.devState = .boot) (hb : s.boot.before ≠ .boot)
    (f : BootFlash) : s.SrstReleased (s.srstRelease f) := by
  have boot := s.boot_srstStart
  have core0 := s.core_srstStart
  have lasting := s.lasting_srstStart
  obtain ⟨cause, count⟩ := s.cause_srstStart
  have keeps := s.srstStart_keeps
  rw [State.srstRelease_eq hs hd hb]
  generalize s.srstStart = u at *
  have ended := u.endBoot_ends (by rw [boot]) s.boot.before
  have cut : u.boot.spiCut = s.boot.spiCut := by rw [boot]
  exact {
    state := ended.state
    srst := ended.srst.trans (by rw [boot])
    cause := (ended.keeps.regs.rd_eq (by decide) (by decide) (by decide) 0).trans cause
    count := (ended.keeps.regs.rd_eq (by decide) (by decide) (by decide) 0).trans count
    source := ended.source
    core0 := by rw [State.core, ended.cores]; exact core0
    cut := cut ▸ ended.cut
    lasting := ended.lasting.trans lasting
    keeps := ⟨(keeps.regs.mono (by decide)).trans (ended.keeps.regs.mono (by decide)), keeps.memory.trans ended.keeps.memory,
      ended.keeps.frames.trans keeps.frames, ended.keeps.ctrs.trans keeps.ctrs⟩ }

/-- Settles O44: PORSTn rebuilds the state; a release samples straps, role and XO_IN and starts core 0; SRSTn ends what R568 lists and its
release returns to the state before. -/
theorem resetsClearAndKeepState : Obligations.ResetsClearAndKeepState := by
  refine ⟨fun fuse repair s => ?_, fun straps xo c n s hp hc => ?_, fun straps xo s hp => ?_, fun burst s hp hs => ?_,
    fun f s hs hd hb => ?_⟩
  · refine ⟨_, rfl, fun _ _ => rfl, rfl, rfl, rfl, rfl, rfl, rfl, rfl, rfl, rfl, rfl, fun h => ?_⟩
    simp [State.powerReset, State.fuseCut, h]
  · obtain ⟨next, hn⟩ := exec_release hp hc
    have rel := s.leaveReset_releases straps xo hn
    have keeps := s.leaveReset_keeps straps xo n
    exact ⟨_, next, rel.porst, rel.state, rel.cause, rel.bootSrc, rel.hrole, rel.mateEn, rel.defHalt, rel.testEn, rel.role, rel.freq,
      fun h => by rw [rel.xoBad, h]; rfl, by rw [rel.core0], by rw [rel.core0], keeps.regs, keeps.memory⟩
  · exact ⟨by simp [exec_porstnRelease, hp], by simp [exec_thermalResetRelease, hp]⟩
  · have held := State.srstAssert_holds hp hs burst
    have same := held.keeps.lasting
    exact ⟨_, rfl, held.state, held.srst, held.before, held.cores, congrArg Lasting.tick same, congrArg Lasting.image same,
      congrArg Lasting.enc same, congrArg Lasting.fuses same, congrArg Lasting.written same, held.cut, held.spi,
      held.keeps.regs _ (by decide) 0, held.keeps.regs _ (by decide) 0, held.keeps.regs _ (by decide) 0, held.img,
      State.sameMemory_of_lasting same⟩
  · have rel := State.srstRelease_releases hs hd hb f
    exact ⟨_, rfl, rel.state, rel.srst, rel.cause, rel.count, rel.source, rel.core0, congrArg Lasting.tick rel.lasting,
      congrArg Lasting.image rel.lasting, rel.cut, rel.keeps.regs, rel.keeps.memory⟩

end Sys2Proof.Machine
end

section
/-! Encryption contexts: what the shared updates of a context write, and what they leave unchanged. -/

namespace Sys2Proof.Machine

/-! ### What a context holds -/

theorem State.encCtx_congr {s t : State} (h : t.enc = s.enc) (k : Nat) : t.encCtx k = s.encCtx k := by simp only [State.encCtx, h]

@[simp] theorem State.encCtx_modCtx_same (s : State) (i : Nat) (f : EncCtx → EncCtx) : (s.modCtx i f).encCtx i = f (s.encCtx i) := by
  rw [State.modCtx, State.encCtx_setEncCtx, if_pos rfl]

theorem State.encCtx_modCtx_ne {i k : Nat} (h : k ≠ i) (s : State) (f : EncCtx → EncCtx) : (s.modCtx i f).encCtx k = s.encCtx k := by
  rw [State.modCtx, State.encCtx_setEncCtx, if_neg h.symm]

@[simp] theorem State.encCtx_wr (s : State) (f : Field) (i v k : Nat) : (s.wr f i v).encCtx k = s.encCtx k := (rfl)

@[simp] theorem State.encCtx_wrBool (s : State) (f : Field) (i : Nat) (b : Bool) (k : Nat) : (s.wrBool f i b).encCtx k = s.encCtx k :=
  (rfl)

@[simp] theorem State.encCtx_raise (s : State) (f : Field) (i k : Nat) : (s.raise f i).encCtx k = s.encCtx k :=
  State.encCtx_congr (State.raise_enc ..) k

@[simp] theorem State.encCtx_raiseIf (s : State) (c : Bool) (f : Field) (i k : Nat) : (s.raiseIf c f i).encCtx k = s.encCtx k :=
  State.encCtx_congr (State.raiseIf_enc ..) k

/-- A key phase holds the key that was set. -/
theorem State.key_setKey (s : State) (i phase : Nat) (k : Option (List Word)) : ((s.setKey i phase k).encCtx i).key phase = k := by
  unfold State.setKey
  split
  next h => simp [EncCtx.key, h]
  next h => simp [EncCtx.key, h]

@[simp] theorem State.encCtx_setChange (s : State) (i : Nat) (c : Option (Nat × Tick)) :
    (s.setChange i c).encCtx i = { s.encCtx i with change := c } := by
  simp [State.setChange]

/-- SEC_CTX_STAT shows whether a change is pending. -/
theorem State.on_pending_setChange (s : State) (i : Nat) (c : Option (Nat × Tick)) :
    (s.setChange i c).on F.SEC_CTX_STAT_PENDING i = c.isSome := State.on_wr rfl rfl _ i _

/-! ### The frame of the updates of one context -/

/-- Of the registers only those listed may differ, of SEC_CTX_STAT the context's own copy; every other context, TICK_NO and the memories
are the same. -/
structure State.OnlyCtx (s t : State) (i : Nat) (rs : List Reg) : Prop where
  contexts : ∀ k, k ≠ i → t.encCtx k = s.encCtx k
  stat : ∀ k, k ≠ i → t.reg .SEC_CTX_STAT k = s.reg .SEC_CTX_STAT k
  tick : t.tick = s.tick
  regs : s.OnlyRegs t rs
  memory : s.SameMemory t

namespace State.OnlyCtx

variable {s t u : State} {i : Nat} {rs : List Reg}

theorem refl (s : State) (i : Nat) (rs : List Reg) : s.OnlyCtx s i rs :=
  ⟨fun _ _ => rfl, fun _ _ => rfl, rfl, s.onlyRegs_refl rs, s.sameMemory_refl⟩

/-- A field of another context's SEC_CTX_STAT reads the same. -/
theorem rd_eq (h : s.OnlyCtx t i rs) {f : Field} (hf : f.reg = .SEC_CTX_STAT) {k : Nat} (hk : k ≠ i) : t.rd f k = s.rd f k :=
  congrArg f.get (hf ▸ h.stat k hk)

/-- Where SEC_CTX_STAT is all that is written, it is the context's own copy. -/
theorem onlyAt (h : s.OnlyCtx t i [.SEC_CTX_STAT]) : s.OnlyAt t i [.SEC_CTX_STAT] := by
  intro r j hr h1 h2
  by_cases hs : r = .SEC_CTX_STAT
  · subst hs
    exact h.stat j (hr.resolve_left fun hn => hn (List.mem_singleton_self _))
  · exact h.regs r j (fun hm => hs (List.mem_singleton.1 hm)) h1 h2

theorem wr (h : s.OnlyCtx t i rs) (f : Field) (hf : f.reg ∈ rs) (v : Nat) : s.OnlyCtx (t.wr f i v) i rs :=
  ⟨h.contexts, fun k hk => (State.reg_wr_ne (.inr hk.symm) t v).trans (h.stat k hk), h.tick, h.regs.wr f hf i v, h.memory⟩

/-- A write of a register that is not SEC_CTX_STAT. -/
theorem wrOther (h : s.OnlyCtx t i rs) (f : Field) (hf : f.reg ∈ rs) (hs : f.reg ≠ .SEC_CTX_STAT) (k v : Nat) :
    s.OnlyCtx (t.wr f k v) i rs :=
  ⟨h.contexts, fun j hj => (State.reg_wr_ne (.inl hs) t v).trans (h.stat j hj), h.tick, h.regs.wr f hf k v, h.memory⟩

theorem raise (h : s.OnlyCtx t i rs) (f : Field) (hf : f.reg ∈ rs) (hs : .SEC_CTX_STAT ≠ f.reg) (k : Nat) :
    s.OnlyCtx (t.raise f k) i rs :=
  ⟨fun j hj => (t.encCtx_raise f k j).trans (h.contexts j hj),
    fun j hj => (t.raise_reg f k hs (by decide) (by decide) j).trans (h.stat j hj), (State.raise_tick ..).trans h.tick,
    h.regs.raise f hf k, h.memory.raise f k⟩

theorem modCtx (h : s.OnlyCtx t i rs) (f : EncCtx → EncCtx) : s.OnlyCtx (t.modCtx i f) i rs :=
  ⟨fun k hk => (State.encCtx_modCtx_ne hk t f).trans (h.contexts k hk), h.stat, h.tick, h.regs, h.memory⟩

theorem ite {c : Prop} [Decidable c] (h : s.OnlyCtx t i rs) (k : s.OnlyCtx u i rs) : s.OnlyCtx (if c then t else u) i rs := by
  split
  · exact h
  · exact k

theorem raiseIf (h : s.OnlyCtx t i rs) (c : Bool) (f : Field) (hf : f.reg ∈ rs) (hs : .SEC_CTX_STAT ≠ f.reg) (k : Nat) :
    s.OnlyCtx (t.raiseIf c f k) i rs := ite (h.raise f hf hs k) h

section

variable (h : s.OnlyCtx t i rs) (hr : Reg.SEC_CTX_STAT ∈ rs)

include h hr

theorem setKey (phase : Nat) (k : Option (List Word)) : s.OnlyCtx (t.setKey i phase k) i rs :=
  ite ((h.modCtx _).wr F.SEC_CTX_STAT_KEY0 hr _) ((h.modCtx _).wr F.SEC_CTX_STAT_KEY1 hr _)

theorem setChange (c : Option (Nat × Tick)) : s.OnlyCtx (t.setChange i c) i rs := (h.modCtx _).wr F.SEC_CTX_STAT_PENDING hr _

theorem showAis : s.OnlyCtx (t.showAis i) i rs := (h.wr F.SEC_CTX_STAT_AIS hr _).wr F.SEC_CTX_STAT_LATCHED hr _

theorem applyBlock (hs : Reg.SEC_ESTICKY ∈ rs) (report : Bool) : s.OnlyCtx (t.applyBlock i report) i rs :=
  have missing := (h.modCtx _).raiseIf _ F.SEC_ESTICKY_KEY_MISSING hs (by decide) _
  (missing.raiseIf _ F.SEC_ESTICKY_DOWNGRADE hs (by decide) _).showAis hr

theorem startCtx (hs : Reg.SEC_ESTICKY ∈ rs) : s.OnlyCtx (t.startCtx i) i rs :=
  ((((h.modCtx _).wr F.SEC_CTX_STAT_STATE hr 0).wr F.SEC_CTX_STAT_NEXT hr 0).wr F.SEC_CTX_STAT_UNKNOWN hr 1).applyBlock hr hs false

end

end State.OnlyCtx

theorem State.sameMemory_each {α : Type} {f : State → α → State} (hf : ∀ (s : State) x, s.SameMemory (f s x)) (l : List α) (s : State) :
    s.SameMemory (s.each l f) := by
  induction l generalizing s with
  | nil => exact s.sameMemory_refl
  | cons x l ih => exact (hf s x).trans (ih (f s x))

end Sys2Proof.Machine
end

section
/-! Key commands of a master, in machine mode outside a mate pair and in user mode (O19). -/

namespace Sys2Proof.Machine

/-! ### Key commands (R305, R525) -/

section

variable {s : State} {m : Initiator}

/-- In machine mode outside a mate pair a key command has its effect at once, on the context that the master's own SEC_KSEL selects. -/
theorem State.keyCommand_alone (hu : m.isUser = false) (ha : s.Alone) (w : Nat → Write) (eff : State → Nat → State) :
    s.keyCommand m w eff = (eff s (s.contextSel m)).reply m (.ok 0) := by
  rw [State.keyCommand, if_neg (by simp [hu]), State.write_alone ha]

theorem State.keyCommand_user (hu : m.isUser = true) (w : Nat → Write) (eff : State → Nat → State) :
    s.keyCommand m w eff = s.busError m true 0x2E001050 .priv := if_pos hu

theorem exec_keyLoad_alone (hu : m.isUser = false) (ha : s.Alone) (phase : Fin 2) :
    exec (.keyLoad m phase) s = .next ((s.keyLoad m.copy (s.contextSel m) phase.val (s.blobOf m.copy)).reply m (.ok 0)) :=
  congrArg Host.Outcome.next (State.keyCommand_alone hu ha ..)

theorem exec_keyChange_alone (hu : m.isUser = false) (ha : s.Alone) (target : Fin 4) :
    exec (.keyChange m target) s =
      .next ((s.keyChange m.copy (s.contextSel m) target.val
        (tickOf (s.rd F.SEC_KAT_LO_AT_LO m.copy) (s.rd F.SEC_KAT_HI_AT_HI m.copy))).reply m (.ok 0)) :=
  congrArg Host.Outcome.next (State.keyCommand_alone hu ha ..)

theorem exec_zeroize_alone (hu : m.isUser = false) (ha : s.Alone) (phase : Fin 2) :
    exec (.zeroize m phase) s = .next ((s.zeroize m.copy (s.contextSel m) phase.val).reply m (.ok 0)) :=
  congrArg Host.Outcome.next (State.keyCommand_alone hu ha ..)

theorem exec_zeroizeAll_alone (hu : m.isUser = false) (ha : s.Alone) :
    exec (.zeroizeAll m) s =
      .next ((s.zeroizeAll m.copy (s.rd F.SEC_KSEL_ENGINE m.copy) (s.rd F.SEC_KSEL_DIR m.copy)).reply m (.ok 0)) := by
  refine congrArg Host.Outcome.next ?_
  rw [if_neg (by simp [hu]), State.write_alone ha]

theorem exec_clrLatch_alone (hu : m.isUser = false) (ha : s.Alone) (he : s.engineExists (s.rd F.SEC_KSEL_ENGINE m.copy) = true) :
    exec (.clrLatch m) s = .next ((s.later (.clrLatch (s.rd F.SEC_KSEL_ENGINE m.copy))).reply m (.ok 0)) := by
  refine congrArg Host.Outcome.next ?_
  rw [if_neg (by simp [hu]), if_neg (by simp [he]), State.write_alone ha]

/-- In user mode every key command receives the error response (R525). -/
theorem exec_keyCommands_user (hu : m.isUser = true) (phase : Fin 2) (target : Fin 4) :
    exec (.keyLoad m phase) s = .next (s.busError m true 0x2E001050 .priv) ∧
      exec (.keyChange m target) s = .next (s.busError m true 0x2E001050 .priv) ∧
      exec (.zeroize m phase) s = .next (s.busError m true 0x2E001050 .priv) ∧
      exec (.zeroizeAll m) s = .next (s.busError m true 0x2E001050 .priv) ∧
      exec (.clrLatch m) s = .next (s.busError m true 0x2E001060 .priv) :=
  ⟨congrArg _ (State.keyCommand_user hu ..), congrArg _ (State.keyCommand_user hu ..), congrArg _ (State.keyCommand_user hu ..),
    congrArg _ (if_pos hu), congrArg _ (if_pos hu)⟩

end

/-- An access that receives the error response changes no context, no key job and nothing that waits for the boundary. -/
theorem State.busError_keepsKeys (s : State) (m : Initiator) (a : Nat) :
    (s.busError m true a .priv).answer m.copy = .error .priv ∧ (s.busError m true a .priv).enc = s.enc ∧
      (s.busError m true a .priv).keyJobs = s.keyJobs ∧ (s.busError m true a .priv).atBoundary = s.atBoundary :=
  ⟨State.answer_busError .., State.busError_enc .., State.busError_keyJobs .., State.busError_atBoundary ..⟩

/-! ### The result of a key command -/

theorem State.result_keyResult {code : Nat} (h : code < 16) (s : State) (copy : Nat) :
    (s.keyResult copy code).rd F.SEC_KRES_RESULT copy = code := State.rd_wr_fits rfl h s copy

/-- The result stands beside every other field. -/
theorem State.rd_keyResult {f : Field} (h : F.SEC_KRES_RESULT.apart f = true) (s : State) (copy code i : Nat) :
    (s.keyResult copy code).rd f i = s.rd f i := State.rd_wr_apart h s copy code i

theorem State.OnlyCtx.keyResult {s t : State} {i : Nat} {rs : List Reg} (h : s.OnlyCtx t i rs) (hr : Reg.SEC_KRES ∈ rs) (copy code : Nat) :
    s.OnlyCtx (t.keyResult copy code) i rs := h.wrOther F.SEC_KRES_RESULT hr (by decide) copy code

/-- SEC_CTX_STAT, which shows a context, and SEC_KRES, which shows the result of a key command. -/
def keyRegs : List Reg := [.SEC_CTX_STAT, .SEC_KRES]

/-! ### The start of a load (R291) -/

/-- What clearing the blob does not touch stays. -/
theorem State.clearBlob_keeps {β : Type} (p : State → β) (hp : ∀ s i, p (State.setReg s .SEC_KWRAP i 0) = p s) (s : State) (copy : Nat) :
    p (s.clearBlob copy) = p s := State.each_keeps p (fun s k => hp s (copy * 10 + k)) _ s

theorem State.clearBlob_onlyRegs (s : State) (copy : Nat) : s.OnlyRegs (s.clearBlob copy) [.SEC_KWRAP] := by
  intro r i hr _ _
  refine State.clearBlob_keeps (State.reg · r i) (fun s k => ?_) s copy
  rw [State.reg_setReg, if_neg fun h => hr (by simp [h.1])]

/-- Every copy in the list reads 0 once it is written 0. -/
theorem State.reg_each_setReg_zero {r : Reg} {b i : Nat} {l : List Nat} {s : State} (h : i ∈ l ∨ s.reg r (b + i) = 0) :
    (s.each l fun s k => s.setReg r (b + k) 0).reg r (b + i) = 0 := by
  induction l generalizing s with
  | nil => exact h.resolve_left List.not_mem_nil
  | cons k l ih =>
    refine ih (s := s.setReg r (b + k) 0) ?_
    rw [State.reg_setReg]
    by_cases hk : k = i
    · exact .inr (by simp [hk])
    · rw [if_neg (by simpa using hk)]
      exact h.imp_left fun hi => (List.mem_cons.1 hi).resolve_left (Ne.symm hk)

theorem State.reg_clearBlob {k : Nat} (hk : k < 10) (s : State) (copy : Nat) :
    (s.clearBlob copy).reg .SEC_KWRAP (copy * 10 + k) = 0 :=
  State.reg_each_setReg_zero (.inl (List.mem_range.2 hk))

theorem State.clearBlob_sameMemory (s : State) (copy : Nat) : s.SameMemory (s.clearBlob copy) :=
  have written (t : State) (k : Nat) : t.SameMemory (t.setReg .SEC_KWRAP (copy * 10 + k) 0) := ⟨rfl, rfl, rfl, rfl⟩
  State.sameMemory_each written _ s

/-- LOAD on a defined context, with no load of the master in progress. -/
theorem State.keyLoad_eq {s : State} {copy i : Nat} (hd : s.ctxDefined i = true) (hj : s.keyJob copy = none) (phase : Nat)
    (blob : List Word) :
    s.keyLoad copy i phase blob =
      (((s.clearBlob copy).setKeyJob copy (some ⟨i, phase, blob⟩)).wr F.SEC_KRES_BUSY copy 1).keyResult copy 0 := by
  unfold State.keyLoad
  rw [if_neg (by simp [hd]), if_neg (by simp [hj])]

/-- What the start of a load leaves: the job with the blob, SEC_KRES busy, and the master's SEC_KWRAP copies cleared. -/
theorem State.keyLoad_loads {s : State} {copy i : Nat} (hd : s.ctxDefined i = true) (hj : s.keyJob copy = none) (phase : Nat)
    (blob : List Word) :
    (s.keyLoad copy i phase blob).keyJob copy = some ⟨i, phase, blob⟩ ∧ (s.keyLoad copy i phase blob).rd F.SEC_KRES_BUSY copy = 1 ∧
      (s.keyLoad copy i phase blob).rd F.SEC_KRES_RESULT copy = 0 ∧
      (∀ k, k < 10 → (s.keyLoad copy i phase blob).reg .SEC_KWRAP (copy * 10 + k) = 0) ∧
      (s.keyLoad copy i phase blob).enc = s.enc ∧ s.OnlyRegs (s.keyLoad copy i phase blob) [.SEC_KWRAP, .SEC_KRES] ∧
      s.SameMemory (s.keyLoad copy i phase blob) := by
  have regs := (s.clearBlob_onlyRegs copy).mono (qs := [.SEC_KWRAP, .SEC_KRES]) (by decide)
  have memory := s.clearBlob_sameMemory copy
  have enc := State.clearBlob_keeps State.enc (fun _ _ => rfl) s copy
  have cleared {k : Nat} (hk : k < 10) := s.reg_clearBlob hk copy
  rw [State.keyLoad_eq hd hj]
  generalize s.clearBlob copy = u at *
  have busy := ((regs.congr (u := u.setKeyJob copy (some ⟨i, phase, blob⟩)) rfl).wr F.SEC_KRES_BUSY (by decide) copy 1)
  refine ⟨?_, ?_, State.result_keyResult (by decide) .., fun k hk => ?_, enc, busy.wr F.SEC_KRES_RESULT (by decide) copy 0, memory⟩
  · exact (u.keyJob_setKeyJob copy (some ⟨i, phase, blob⟩) copy).trans (if_pos rfl)
  · rw [State.rd_keyResult rfl, State.rd_wr_fits rfl (by decide)]
  · rw [State.keyResult, State.reg_wr_ne (.inl (by decide)), State.reg_wr_ne (.inl (by decide))]
    exact cleared hk

/-! ### The end of a load (R291) -/

/-- A key job and the result of a key command are no part of what tells that a phase is in use. -/
theorem State.phaseInUse_congr {s t : State} {i : Nat} (hr : t.reg .SEC_CTX_STAT i = s.reg .SEC_CTX_STAT i)
    (hc : t.encCtx i = s.encCtx i) (phase : Nat) : t.phaseInUse i phase = s.phaseInUse i phase := by
  have stat {f : Field} (hf : f.reg = .SEC_CTX_STAT) : t.rd f i = s.rd f i := congrArg f.get (hf ▸ hr)
  rw [State.phaseInUse, State.phaseInUse, stat rfl, stat rfl, hc]

/-- The load of a master ends: no key job of it is left, and SEC_KRES is not busy. -/
def State.endLoad (s : State) (copy : Nat) : State := (s.setKeyJob copy none).wr F.SEC_KRES_BUSY copy 0

theorem State.endLoad_onlyCtx (s : State) (copy i : Nat) : s.OnlyCtx (s.endLoad copy) i keyRegs :=
  have job : s.OnlyCtx (s.setKeyJob copy none) i keyRegs :=
    ⟨fun _ _ => rfl, fun _ _ => rfl, rfl, State.onlyRegs_of_regs rfl _, ⟨rfl, rfl, rfl, rfl⟩⟩
  job.wrOther F.SEC_KRES_BUSY (by decide) (by decide) copy 0

@[simp] theorem State.keyJob_endLoad (s : State) (copy : Nat) : (s.endLoad copy).keyJob copy = none :=
  (s.keyJob_setKeyJob copy none copy).trans (if_pos rfl)

theorem State.busy_endLoad (s : State) (copy : Nat) : (s.endLoad copy).rd F.SEC_KRES_BUSY copy = 0 :=
  State.rd_wr_fits rfl (by decide) ..

/-- SEC_CTX_STAT shows a key phase beside every other register. -/
theorem State.rd_setKey {f : Field} (h : f.reg ≠ .SEC_CTX_STAT) (s : State) (i phase : Nat) (k : Option (List Word)) (n : Nat) :
    (s.setKey i phase k).rd f n = s.rd f n := by
  unfold State.setKey
  split
  · exact State.rd_wr_reg (.inl h.symm) (s.modCtx i _) _
  · exact State.rd_wr_reg (.inl h.symm) (s.modCtx i _) _

@[simp] theorem State.keyJobs_setKey (s : State) (i phase : Nat) (k : Option (List Word)) : (s.setKey i phase k).keyJobs = s.keyJobs := by
  unfold State.setKey
  split
  · rfl
  · rfl

/-- An intact key of a phase that is not in use is taken. -/
theorem State.unwrapDone_eq {s : State} {copy : Nat} {j : KeyJob} (hj : s.keyJob copy = some j)
    (hv : s.on F.SEC_DK_STAT_DK_VALID 0 = true) (hp : s.phaseInUse j.ctx j.phase = false) :
    s.unwrapDone copy true = ((s.endLoad copy).setKey j.ctx j.phase (some j.blob)).keyResult copy 1 := by
  have valid : (s.endLoad copy).on F.SEC_DK_STAT_DK_VALID 0 = true :=
    (congrArg (· == 1) (State.rd_wr_reg (.inl (by decide)) (s.setKeyJob copy none) 0)).trans hv
  have free : (s.endLoad copy).phaseInUse j.ctx j.phase = false :=
    (State.phaseInUse_congr (State.reg_wr_ne (.inl (by decide)) (s.setKeyJob copy none) 0) rfl _).trans hp
  unfold State.unwrapDone
  rw [hj]
  dsimp only
  rw [← State.endLoad, if_neg (by simp [valid]), if_neg (by simp), if_neg (by simp [free])]

/-- What the end of a load leaves: the key in its phase, the job gone, and no other context changed. -/
theorem State.unwrapDone_takes {s : State} {copy : Nat} {j : KeyJob} (hj : s.keyJob copy = some j)
    (hv : s.on F.SEC_DK_STAT_DK_VALID 0 = true) (hp : s.phaseInUse j.ctx j.phase = false) :
    ((s.unwrapDone copy true).encCtx j.ctx).key j.phase = some j.blob ∧ (s.unwrapDone copy true).keyJob copy = none ∧
      (s.unwrapDone copy true).rd F.SEC_KRES_RESULT copy = 1 ∧ (s.unwrapDone copy true).rd F.SEC_KRES_BUSY copy = 0 ∧
      (∀ k, k ≠ j.ctx → (s.unwrapDone copy true).encCtx k = s.encCtx k) ∧ s.OnlyRegs (s.unwrapDone copy true) keyRegs ∧
      s.SameMemory (s.unwrapDone copy true) := by
  have kept := ((s.endLoad_onlyCtx copy j.ctx).setKey (by decide) j.phase (some j.blob)).keyResult (by decide) copy 1
  rw [State.unwrapDone_eq hj hv hp]
  refine ⟨State.key_setKey .., ?_, State.result_keyResult (by decide) .., ?_, kept.contexts, kept.regs, kept.memory⟩
  · exact (congrArg (Tab.get none · _) (State.keyJobs_setKey ..)).trans (s.keyJob_endLoad copy)
  · rw [State.rd_keyResult rfl, State.rd_setKey (by decide), State.busy_endLoad]

/-! ### Emptied phases (R292) -/

/-- What ZEROIZE of a phase that is not in use leaves: the phase empty. -/
theorem State.zeroize_empties {s : State} {i phase : Nat} (hd : s.ctxDefined i = true) (hp : s.phaseInUse i phase = false) (copy : Nat) :
    ((s.zeroize copy i phase).encCtx i).key phase = none ∧ (s.zeroize copy i phase).rd F.SEC_KRES_RESULT copy = 1 ∧
      s.OnlyRegs (s.zeroize copy i phase) keyRegs ∧ s.SameMemory (s.zeroize copy i phase) := by
  have kept := ((State.OnlyCtx.refl s i keyRegs).setKey (by decide) phase none).keyResult (by decide) copy 1
  rw [State.zeroize, if_neg (by simp [hd]), if_neg (by simp [hp])]
  exact ⟨State.key_setKey .., State.result_keyResult (by decide) .., kept.regs, kept.memory⟩

theorem State.zeroize_inUse {s : State} {i phase : Nat} (hd : s.ctxDefined i = true) (hp : s.phaseInUse i phase = true) (copy : Nat) :
    s.zeroize copy i phase = s.keyResult copy 5 := by
  rw [State.zeroize, if_neg (by simp [hd]), if_pos hp]

/-- The context holds no key. -/
def EncCtx.NoKeys (x : EncCtx) : Prop := x.key0 = none ∧ x.key1 = none

/-- ZEROIZE_ALL at one context: both phases empty, CLEAR, no change pending; a receive context starts. -/
def State.zeroizeCtx (receive : Bool) (s : State) (i : Nat) : State :=
  let s := ((s.setKey i 0 none).setKey i 1 none).setChange i none
  let s := ((s.wr F.SEC_CTX_STAT_STATE i 0).wr F.SEC_CTX_STAT_NEXT i 0).modCtx i fun x => { x with hold := false }
  if receive then s.startCtx i else s

theorem State.zeroizeAll_eq {s : State} {e : Nat} (he : s.engineExists e = true) (copy dir : Nat) :
    s.zeroizeAll copy e dir = (s.each (s.contextsOf e (dir == 1)) (State.zeroizeCtx (dir == 1))).keyResult copy 1 :=
  if_neg (by simp [he])

theorem State.zeroizeCtx_onlyCtx (receive : Bool) (s : State) (i : Nat) :
    s.OnlyCtx (s.zeroizeCtx receive i) i [.SEC_CTX_STAT, .SEC_ESTICKY] := by
  have stat : Reg.SEC_CTX_STAT ∈ [Reg.SEC_CTX_STAT, .SEC_ESTICKY] := by decide
  have emptied := ((((OnlyCtx.refl s i [.SEC_CTX_STAT, .SEC_ESTICKY]).setKey stat 0 none).setKey stat 1 none).setChange stat none)
  have cleared := ((emptied.wr F.SEC_CTX_STAT_STATE stat 0).wr F.SEC_CTX_STAT_NEXT stat 0).modCtx fun x => { x with hold := false }
  exact .ite (cleared.startCtx stat (by decide)) cleared

/-- A start leaves the keys of a context. -/
theorem State.noKeys_startCtx {s : State} {i : Nat} (h : (s.encCtx i).NoKeys) : ((s.startCtx i).encCtx i).NoKeys := by
  simpa [State.startCtx, State.applyBlock, State.showAis, EncCtx.NoKeys] using h

theorem State.noKeys_zeroizeCtx (receive : Bool) (s : State) (i : Nat) : ((s.zeroizeCtx receive i).encCtx i).NoKeys := by
  unfold State.zeroizeCtx
  have emptied : ((((s.setKey i 0 none).setKey i 1 none).encCtx i)).NoKeys := by simp [State.setKey, EncCtx.NoKeys]
  split
  · exact State.noKeys_startCtx (by simpa [EncCtx.NoKeys] using emptied)
  · simpa [EncCtx.NoKeys] using emptied

/-- Every context in the list is left without a key. -/
theorem State.noKeys_each_zeroizeCtx (receive : Bool) {l : List Nat} {s : State} {i : Nat} (h : i ∈ l ∨ (s.encCtx i).NoKeys) :
    ((s.each l (State.zeroizeCtx receive)).encCtx i).NoKeys := by
  induction l generalizing s with
  | nil => exact h.resolve_left List.not_mem_nil
  | cons k l ih =>
    refine ih (s := s.zeroizeCtx receive k) ?_
    by_cases hk : i = k
    · exact .inr (hk ▸ State.noKeys_zeroizeCtx receive s i)
    · rw [(s.zeroizeCtx_onlyCtx receive k).contexts i hk]
      exact h.imp_left fun hi => (List.mem_cons.1 hi).resolve_left hk

/-- What ZEROIZE_ALL leaves: no context of the engine and direction with a key. -/
theorem State.zeroizeAll_empties {s : State} {e : Nat} (he : s.engineExists e = true) (copy dir : Nat) :
    (s.zeroizeAll copy e dir).rd F.SEC_KRES_RESULT copy = 1 ∧
      (∀ i, i ∈ s.contextsOf e (dir == 1) → ((s.zeroizeAll copy e dir).encCtx i).NoKeys) ∧ s.SameMemory (s.zeroizeAll copy e dir) := by
  rw [State.zeroizeAll_eq he]
  exact ⟨State.result_keyResult (by decide) .., fun i hi => State.noKeys_each_zeroizeCtx _ (.inl hi),
    State.sameMemory_each (fun t i => (t.zeroizeCtx_onlyCtx _ i).memory) _ s⟩

/-! ### A change of state asked for (R293) -/

/-- CHANGE of a transmit context that meets R293 and R294 waits for its block boundary. -/
theorem State.keyChange_eq {s : State} {i target : Nat} {b : Tick} (hd : s.ctxDefined i = true) (ht : ctxReceives i = false)
    (h1 : target ≠ 1) (hb : b.toNat % 64 = 0) (hl : s.leadMet b 66 = true) (hc : (s.encCtx i).change = none)
    (hk : ∀ p, phaseOf target = some p → (s.encCtx i).key p ≠ none) (hs : target ≠ s.rd F.SEC_CTX_STAT_STATE i) (copy : Nat) :
    s.keyChange copy i target b = (s.setChange i (some (target, b))).keyResult copy 1 := by
  unfold State.keyChange
  dsimp only
  rw [if_neg (by simp [hd, ht]), if_neg (by simpa using h1), if_neg (by simp [hb]), if_neg (by simp [hl]), if_neg (by simp [hc]),
    if_neg ?keyed, if_neg (by simpa using hs)]
  case keyed =>
    cases hp : phaseOf target with
    | none => simp
    | some p => simpa using hk p hp

/-- What such a change leaves: it is pending, and shown. -/
theorem State.keyChange_waits {s : State} {i target : Nat} {b : Tick} (hd : s.ctxDefined i = true) (ht : ctxReceives i = false)
    (h1 : target ≠ 1) (hb : b.toNat % 64 = 0) (hl : s.leadMet b 66 = true) (hc : (s.encCtx i).change = none)
    (hk : ∀ p, phaseOf target = some p → (s.encCtx i).key p ≠ none) (hs : target ≠ s.rd F.SEC_CTX_STAT_STATE i) (copy : Nat) :
    ((s.keyChange copy i target b).encCtx i).change = some (target, b) ∧
      (s.keyChange copy i target b).on F.SEC_CTX_STAT_PENDING i = true ∧ (s.keyChange copy i target b).rd F.SEC_KRES_RESULT copy = 1 ∧
      s.OnlyRegs (s.keyChange copy i target b) keyRegs ∧ s.SameMemory (s.keyChange copy i target b) := by
  have kept := ((State.OnlyCtx.refl s i keyRegs).setChange (by decide) (some (target, b))).keyResult (by decide) copy 1
  rw [State.keyChange_eq hd ht h1 hb hl hc hk hs]
  refine ⟨?_, ?_, State.result_keyResult (by decide) .., kept.regs, kept.memory⟩
  · rw [State.keyResult, State.encCtx_wr, State.encCtx_setChange]
  · rw [State.on, State.rd_keyResult rfl, ← State.on, State.on_pending_setChange, Option.isSome_some]

/-- Settles O19: in machine mode each command by the lemma about its effect; in user mode all have the error response. -/
theorem keyCommandsActOnTheSelectedContext : Obligations.KeyCommandsActOnTheSelectedContext := by
  refine ⟨fun m s hu ha => ⟨fun phase _ hd hj => ?_, fun j hj hv hp => ?_, fun target b hb _ hd ht h1 h64 hl hc hk hs => ?_,
    fun phase _ hd => ⟨fun hp => ?_, fun hp => ?_⟩, fun he => ⟨?_, ?_⟩⟩, fun m phase target s hu => ?_⟩
  · obtain ⟨job, busy, result, wrap, enc, regs, memory⟩ := State.keyLoad_loads hd hj phase.val (s.blobOf m.copy)
    exact ⟨_, exec_keyLoad_alone hu ha phase, job, busy, result, wrap, enc, State.answer_reply .., regs, memory⟩
  · exact ⟨_, rfl, State.unwrapDone_takes hj hv hp⟩
  · subst hb
    exact ⟨_, exec_keyChange_alone hu ha target, State.keyChange_waits hd ht h1 h64 hl hc hk hs m.copy⟩
  · exact ⟨_, exec_zeroize_alone hu ha phase, State.zeroize_empties hd hp m.copy⟩
  · refine ⟨_, exec_zeroize_alone hu ha phase, ?_⟩
    rw [State.zeroize_inUse hd hp]
    exact ⟨rfl, s.result_keyResult (by decide) m.copy⟩
  · exact ⟨_, exec_zeroizeAll_alone hu ha, State.zeroizeAll_empties he m.copy _⟩
  · exact ⟨_, exec_clrLatch_alone hu ha he, rfl, rfl, rfl, rfl, rfl, rfl⟩
  · obtain ⟨load, change, zeroize, zeroizeAll, clrLatch⟩ := exec_keyCommands_user hu phase target
    obtain ⟨answer, enc, jobs, -⟩ := s.busError_keepsKeys m 0x2E001050
    obtain ⟨answerLatch, -, -, boundary⟩ := s.busError_keepsKeys m 0x2E001060
    exact ⟨⟨_, load, answer, enc, jobs⟩, ⟨_, change, answer, enc⟩, ⟨_, zeroize, answer, enc⟩, ⟨_, zeroizeAll, answer, enc⟩,
      ⟨_, clrLatch, answerLatch, boundary⟩⟩

end Sys2Proof.Machine
end

section
/-! Block boundaries of transmit contexts and the end of an AIS window (O20). -/

namespace Sys2Proof.Machine

/-! ### One context among those of an engine -/

/-- A context holds and shows the same. -/
structure State.SameCtx (s t : State) (i : Nat) : Prop where
  ctx : t.encCtx i = s.encCtx i
  stat : t.reg .SEC_CTX_STAT i = s.reg .SEC_CTX_STAT i

theorem State.SameCtx.trans {s t u : State} {i : Nat} (h : s.SameCtx t i) (k : t.SameCtx u i) : s.SameCtx u i :=
  ⟨k.ctx.trans h.ctx, k.stat.trans h.stat⟩

theorem State.SameCtx.rd_eq {s t : State} {i : Nat} (h : s.SameCtx t i) {f : Field} (hf : f.reg = .SEC_CTX_STAT) : t.rd f i = s.rd f i :=
  congrArg f.get (hf ▸ h.stat)

theorem State.OnlyCtx.sameCtx {s t : State} {i k : Nat} {rs : List Reg} (h : s.OnlyCtx t i rs) (hk : k ≠ i) : s.SameCtx t k :=
  ⟨h.contexts k hk, h.stat k hk⟩

section

variable {f : State → Nat → State} {rs : List Reg} (hf : ∀ (s : State) (k : Nat), s.OnlyCtx (f s k) k rs)

include hf

/-- An update of each context of a list leaves a context outside the list alone. -/
theorem State.sameCtx_each {l : List Nat} {i : Nat} (hi : i ∉ l) (s : State) : s.SameCtx (s.each l f) i := by
  induction l generalizing s with
  | nil => exact ⟨rfl, rfl⟩
  | cons k l ih =>
    obtain ⟨hk, hl⟩ := not_or.1 (mt List.mem_cons.2 hi)
    exact ((hf s k).sameCtx hk).trans (ih hl (f s k))

/-- A context that stands once in the list is updated once, from what it held and showed at first. -/
theorem State.each_updates_once {l : List Nat} (hn : l.Nodup) {i : Nat} (hi : i ∈ l) (s : State) :
    ∃ u, s.SameCtx u i ∧ u.tick = s.tick ∧ (f u i).SameCtx (s.each l f) i := by
  induction l generalizing s with
  | nil => exact absurd hi List.not_mem_nil
  | cons k l ih =>
    obtain ⟨hk, hl⟩ := List.nodup_cons.1 hn
    by_cases h : i = k
    · exact ⟨s, ⟨rfl, rfl⟩, rfl, h ▸ State.sameCtx_each hf hk (f s k)⟩
    · obtain ⟨u, held, tick, updated⟩ := ih hl ((List.mem_cons.1 hi).resolve_left h) (f s k)
      exact ⟨u, ((hf s k).sameCtx h).trans held, tick.trans (hf s k).tick, updated⟩

end

/-! ### A transmit context at a block boundary (R294, R295) -/

/-- The registers that a block boundary writes. -/
def blockRegs : List Reg := [.SEC_CTX_STAT, .SEC_ESTICKY]

theorem State.txBlock_onlyCtx (s : State) (i : Nat) : s.OnlyCtx (s.txBlock i) i blockRegs := by
  have stat : Reg.SEC_CTX_STAT ∈ blockRegs := by decide
  unfold State.txBlock
  dsimp only
  refine .ite (.raise (.wr (.modCtx ?taken _) F.SEC_CTX_STAT_NEXT stat 0) F.SEC_ESTICKY_KEY_MISSING (by decide) (by decide) _)
    (.wr (.modCtx ?taken _) F.SEC_CTX_STAT_NEXT stat _)
  case taken =>
    split
    · exact (((OnlyCtx.refl s i blockRegs).setChange stat none).wr F.SEC_CTX_STAT_STATE stat _).modCtx _
    · exact .refl s i blockRegs

/-- A change has been taken: it is the state, and no change is pending. -/
structure State.Changed (s : State) (i target : Nat) : Prop where
  state : s.rd F.SEC_CTX_STAT_STATE i = target % 4
  change : (s.encCtx i).change = none
  pending : s.on F.SEC_CTX_STAT_PENDING i = false

namespace State.Changed

variable {s t : State} {i target : Nat}

theorem congr (h : s.Changed i target) (k : s.SameCtx t i) : t.Changed i target :=
  ⟨(k.rd_eq rfl).trans h.state, (congrArg EncCtx.change k.ctx).trans h.change, (congrArg (· == 1) (k.rd_eq rfl)).trans h.pending⟩

theorem modCtx (h : s.Changed i target) {f : EncCtx → EncCtx} (hf : ∀ x, (f x).change = x.change) : (s.modCtx i f).Changed i target :=
  ⟨h.state, by rw [State.encCtx_modCtx_same, hf, h.change], h.pending⟩

theorem wrNext (h : s.Changed i target) (v : Nat) : (s.wr F.SEC_CTX_STAT_NEXT i v).Changed i target :=
  ⟨(State.rd_wr_apart rfl ..).trans h.state, h.change, (congrArg (· == 1) (State.rd_wr_apart rfl ..)).trans h.pending⟩

theorem raise (h : s.Changed i target) {f : Field} (hf : .SEC_CTX_STAT ≠ f.reg) (k : Nat) : (s.raise f k).Changed i target :=
  h.congr ⟨s.encCtx_raise f k i, s.raise_reg f k hf (by decide) (by decide) i⟩

theorem ite {c : Prop} [Decidable c] (h : s.Changed i target) (k : t.Changed i target) : (if c then s else t).Changed i target := by
  split
  · exact h
  · exact k

/-- Where the change becomes the state, it is no longer pending (R294). -/
theorem taken (s : State) (i target : Nat) : ((s.setChange i none).wr F.SEC_CTX_STAT_STATE i target).Changed i target where
  state := State.rd_wr rfl ..
  change := by rw [State.encCtx_wr, State.encCtx_setChange]
  pending := by rw [State.on, State.rd_wr_apart rfl, ← State.on, State.on_pending_setChange, Option.isSome_none]

end State.Changed

/-- A block boundary takes the change that is due at it; what the block then announces and sends leaves it taken. -/
theorem State.txBlock_changed {s : State} {i target : Nat} (h : (s.encCtx i).change = some (target, s.tick)) :
    (s.txBlock i).Changed i target := by
  have taken := (State.Changed.taken s i target).modCtx (f := fun x => { x with hold := false }) fun _ => rfl
  unfold State.txBlock
  simp only [h, beq_self_eq_true, if_true]
  refine .ite (.raise (.wrNext (taken.modCtx ?same) 0) (f := F.SEC_ESTICKY_KEY_MISSING) (by decide) _) (.wrNext (taken.modCtx ?same) _)
  case same => exact fun _ => rfl

/-- At a block boundary the transmit contexts of a native engine have their blocks (R287). -/
theorem State.blockBoundary_transmit {s : State} {e : Nat} (he : s.engineExists e = true) (hn : s.native e = true)
    (h : s.tick.toNat % 64 = 0) : s.blockBoundary e false = s.each (s.contextsOf e false) State.txBlock := by
  rw [State.blockBoundary, if_neg (by simp [he, hn]), if_neg (by simp), if_neg (by simp [h])]

theorem State.blockBoundary_off {s : State} (h : s.tick.toNat % 64 ≠ 0) (e : Nat) : s.blockBoundary e false = s := by
  rw [State.blockBoundary, if_neg (by simp : ¬ false = true), if_pos (by simp [h] : (s.tick.toNat % 64 != 0) = true), ite_self]

/-! ### The end of an AIS window (R299) -/

theorem State.on_ais_showAis (s : State) (i : Nat) :
    (s.showAis i).on F.SEC_CTX_STAT_AIS i = ((s.encCtx i).window.isSome || (s.encCtx i).latched || (s.encCtx i).blockAis) := by
  rw [State.showAis, State.on, State.wrBool, State.rd_wr_apart rfl, ← State.on]
  exact State.on_wr rfl rfl s i _

@[simp] theorem State.encCtx_showAis (s : State) (i k : Nat) : (s.showAis i).encCtx k = s.encCtx k := (rfl)

/-- A window that is not latched ends once the frame after it is the next to be delivered. -/
theorem State.windowEnd_passed {s : State} {e c : Nat} {w : Tick} (hw : (s.encCtx (ctxIndex e true c)).window = some w)
    (hl : (s.encCtx (ctxIndex e true c)).latched = false) (h0 : 0 < ahead (s.lineFrame e).expect w)
    (h1 : ahead (s.lineFrame e).expect w ≤ 2 ^ 47) :
    s.windowEnd e c = (s.modCtx (ctxIndex e true c) fun x => { x with window := none }).showAis (ctxIndex e true c) := by
  unfold State.windowEnd
  dsimp only
  rw [hw]
  exact if_pos (by simp only [hl, h0, h1, Bool.not_false, decide_true, Bool.and_self])

theorem exec_encBlockBoundary_transmit {s : State} {e : Fin 8} (he : s.engineExists e.val = true) (hn : s.native e.val = true)
    (h : s.tick.toNat % 64 = 0) :
    exec (.encBlockBoundary e false) s = .next (s.each (s.contextsOf e.val false) State.txBlock) :=
  congrArg Host.Outcome.next (State.blockBoundary_transmit he hn h)

theorem exec_encBlockBoundary_off {s : State} (h : s.tick.toNat % 64 ≠ 0) (e : Fin 8) : exec (.encBlockBoundary e false) s = .next s :=
  congrArg Host.Outcome.next (State.blockBoundary_off h e.val)

/-- What the end of a window leaves: SEC_CTX_STAT shows the whole-block replacement alone. -/
theorem State.windowEnd_ends {s : State} {e c : Nat} {w : Tick} (hw : (s.encCtx (ctxIndex e true c)).window = some w)
    (hl : (s.encCtx (ctxIndex e true c)).latched = false) (h0 : 0 < ahead (s.lineFrame e).expect w)
    (h1 : ahead (s.lineFrame e).expect w ≤ 2 ^ 47) :
    ((s.windowEnd e c).encCtx (ctxIndex e true c)).window = none ∧
      (s.windowEnd e c).on F.SEC_CTX_STAT_AIS (ctxIndex e true c) = (s.encCtx (ctxIndex e true c)).blockAis ∧
      s.OnlyAt (s.windowEnd e c) (ctxIndex e true c) [.SEC_CTX_STAT] ∧ s.SameMemory (s.windowEnd e c) := by
  rw [State.windowEnd_passed hw hl h0 h1]
  generalize ctxIndex e true c = i at *
  have kept := ((State.OnlyCtx.refl s i [.SEC_CTX_STAT]).modCtx fun x => { x with window := none }).showAis (by decide)
  refine ⟨?_, ?_, kept.onlyAt, kept.memory⟩
  · rw [State.encCtx_showAis, State.encCtx_modCtx_same]
  · rw [State.on_ais_showAis, State.encCtx_modCtx_same, hl, Option.isSome_none, Bool.false_or, Bool.false_or]

/-- Settles O20: the contexts of an engine are updated one by one, each once, so a change due is taken and stays taken. -/
theorem encryptionActsAtBlockBoundaries : Obligations.EncryptionActsAtBlockBoundaries := by
  refine ⟨fun e i target s he hn h64 nodup hi hc => ?_, fun e s h64 => exec_encBlockBoundary_off h64 e,
    fun e c w s hw hl h0 h1 => ⟨_, rfl, State.windowEnd_ends hw hl h0 h1⟩⟩
  obtain ⟨u, held, tick, updated⟩ := State.each_updates_once State.txBlock_onlyCtx nodup hi s
  have due : (u.encCtx i).change = some (target, u.tick) := by rw [held.ctx, tick, hc]
  obtain ⟨state, change, pending⟩ := (State.txBlock_changed due).congr updated
  exact ⟨_, exec_encBlockBoundary_transmit he hn h64, state, change, pending,
    State.sameMemory_each (fun t k => (t.txBlock_onlyCtx k).memory) _ s⟩

end Sys2Proof.Machine
end

section
/-! The decoder pool and the results it delivers. -/

namespace Sys2Proof.Machine

/-! ### Ranking and serving (R276) -/

theorem length_rankInto (ascending : Bool) (c : Codeword) (cs : List Codeword) : (rankInto ascending c cs).length = cs.length + 1 := by
  induction cs with
  | nil => rfl
  | cons d cs ih =>
    rw [rankInto]
    split
    · rfl
    · rw [List.length_cons, ih, List.length_cons]

theorem length_rank (ascending : Bool) (cs : List Codeword) : (rank ascending cs).length = cs.length := by
  induction cs with
  | nil => rfl
  | cons c cs ih => exact (length_rankInto ..).trans (congrArg (· + 1) ih)

/-- Every candidate has one result. -/
theorem length_serve (budget : Nat) (cs : List Codeword) : (serve budget cs).1.length = cs.length := by
  induction cs generalizing budget with
  | nil => rfl
  | cons c cs ih =>
    rw [serve]
    split
    · exact congrArg (· + 1) (ih 0)
    · exact congrArg (· + 1) (ih _)

/-- A codeword runs no more iterations than it is granted. -/
theorem Codeword.runs_le (c : Codeword) (grant : Nat) : c.runs grant ≤ grant := by
  unfold Codeword.runs
  split
  · exact Nat.min_le_right ..
  · exact Nat.le_refl _

/-- While 16 iterations for each of the candidates fit in the budget, all are served. -/
theorem unserved_serve {budget : Nat} {cs : List Codeword} (h : 16 * cs.length ≤ budget) :
    (serve budget cs).1.filter (·.unserved) = [] := by
  induction cs generalizing budget with
  | nil => rfl
  | cons c cs ih =>
    have runs := c.runs_le (min 16 budget)
    rw [List.length_cons] at h
    rw [serve, if_neg (by simp; omega)]
    exact ih (by omega)

/-! ### POOL_DECODE (R275 to R278) -/

/-- The results of the ranked candidates of the tick, and what is left of P(f). -/
def State.poolServed (s : State) : List Decoded × Nat :=
  serve (poolBudget (s.rd F.FP_STAT_FCODE 0)) (rank (s.cfgOn F.FP_CTRL_ORDER 0) (s.pool.atPool.filter s.isCandidate))

/-- The pool after its work of a tick. -/
def State.poolAfter (s : State) : Pool :=
  let budget := poolBudget (s.rd F.FP_STAT_FCODE 0)
  let unserved := (s.poolServed.1.filter (·.unserved)).length
  { s.pool with
    atPool := [],
    decoded := s.pool.decoded ++ s.poolServed.1 ++ (s.pool.atPool.filter fun c => !s.isCandidate c).map (Codeword.kept · false),
    cand := s.pool.cand + (rank (s.cfgOn F.FP_CTRL_ORDER 0) (s.pool.atPool.filter s.isCandidate)).length,
    unserved := s.pool.unserved + unserved,
    used := s.pool.used + (budget - s.poolServed.2),
    starved := s.pool.starved || decide (0 < unserved),
    busy := s.pool.busy || decide (budget ≤ 2 * (budget - s.poolServed.2)) }

theorem State.poolDecode_eq (s : State) :
    s.poolDecode =
      (((s.modPool fun _ => s.poolAfter).each s.poolServed.1 fun s d => s.addTally 22 d.engine d.ran).raiseIf
        (decide (0 < (s.poolServed.1.filter (·.unserved)).length)) F.FP_STICKY_STARVED 0).raiseIf
        (s.pool.atPool.any fun c => c.base.isNone && c.lost) F.FP_STICKY_D2D_LOST 0 := rfl

theorem State.pool_poolDecode (s : State) : s.poolDecode.pool = s.poolAfter := by
  rw [State.poolDecode_eq, State.raiseIf_pool, State.raiseIf_pool]
  exact State.each_keeps State.pool (fun _ _ => State.addTally_pool ..) _ _

theorem State.poolDecode_keeps (s : State) : s.KeepsFrames s.poolDecode [.FP_STICKY] := by
  have worked := (KeepsFrames.refl s [.FP_STICKY]).congr (u := s.modPool fun _ => s.poolAfter) rfl ⟨rfl, rfl, rfl, rfl⟩ rfl rfl
  have tally (u : State) (d : Decoded) : u.KeepsFrames (u.addTally 22 d.engine d.ran) [.FP_STICKY] :=
    ⟨State.onlyRegs_of_regs rfl _, ⟨rfl, rfl, rfl, rfl⟩, rfl, rfl⟩
  rw [State.poolDecode_eq]
  exact ((worked.each tally _).raiseIf _ F.FP_STICKY_STARVED (by decide) 0).raiseIf _ F.FP_STICKY_D2D_LOST (by decide) 0

/-- Candidates and the others have one result each. -/
theorem State.length_decoded_poolAfter (s : State) :
    s.poolAfter.decoded.length = s.pool.decoded.length + s.pool.atPool.length := by
  have split := List.length_eq_countP_add_countP s.isCandidate (l := s.pool.atPool)
  simp only [List.countP_eq_length_filter, Bool.not_eq_true, Bool.decide_eq_false] at split
  have served : s.poolServed.1.length = (s.pool.atPool.filter s.isCandidate).length :=
    (length_serve ..).trans (length_rank ..)
  rw [State.poolAfter, List.length_append, List.length_append, List.length_map, served, split, Nat.add_assoc]

theorem State.used_poolAfter_le (s : State) : s.poolAfter.used ≤ s.pool.used + poolBudget (s.rd F.FP_STAT_FCODE 0) :=
  Nat.add_le_add_left (Nat.sub_le ..) _

theorem State.unserved_poolAfter {s : State}
    (h : 16 * (s.pool.atPool.filter s.isCandidate).length ≤ poolBudget (s.rd F.FP_STAT_FCODE 0)) :
    s.poolAfter.unserved = s.pool.unserved := by
  have none : s.poolServed.1.filter (·.unserved) = [] := unserved_serve (by rwa [length_rank])
  rw [State.poolAfter, none, List.length_nil, Nat.add_zero]

/-! ### Counters of the pool (R281, R282) -/

/-- A counter wraps at 48 bits (R584). -/
theorem State.ctr_count_same (s : State) (c : Ctr) (k : Nat) : (s.count c k).ctr c = (s.ctr c + k) % 2 ^ 48 := by
  rw [State.count, State.setCtr, State.ctr, Tab.get_put, if_pos rfl]

theorem State.ctr_count_ne {c x : Ctr} (h : c.key ≠ x.key) (s : State) (k : Nat) : (s.count c k).ctr x = s.ctr x := by
  rw [State.count, State.setCtr, State.ctr, Tab.get_put, if_neg h, ← State.ctr]

theorem Ctr.key_ne_of_num {b : CtrBank} {n k i j : Nat} (hn : n < 256) (hk : k < 256) (h : n ≠ k) :
    Ctr.key ⟨b, n, i⟩ ≠ Ctr.key ⟨b, k, j⟩ := by
  simp only [Ctr.key, ne_eq, Prod.mk.injEq]
  omega

theorem Ctr.key_ne_of_unit {a b : Ctr} (h : a.unit ≠ b.unit) : a.key ≠ b.key := fun e => h (congrArg Prod.snd e)

/-- Counters of the pool for one engine count, each by its own number. -/
def State.countAll (s : State) (e : Nat) (l : List (Nat × Nat)) : State := s.each l fun s x => s.count ⟨.fp, x.1, e⟩ x.2

/-- No other engine's counter changes. -/
theorem State.ctr_countAll_unit {e : Nat} {c : Ctr} (h : e ≠ c.unit) (s : State) (l : List (Nat × Nat)) :
    (s.countAll e l).ctr c = s.ctr c :=
  State.each_keeps (State.ctr · c) (fun s _ => State.ctr_count_ne (Ctr.key_ne_of_unit h) s _) l s

/-- A counter whose number is not in the list does not change. -/
theorem State.ctr_countAll_num {n : Nat} (hn : n < 256) {l : List (Nat × Nat)} (hl : ∀ x ∈ l, x.1 < 256) (h : n ∉ l.map Prod.fst)
    (s : State) (e : Nat) : (s.countAll e l).ctr ⟨.fp, n, e⟩ = s.ctr ⟨.fp, n, e⟩ := by
  induction l generalizing s with
  | nil => rfl
  | cons x l ih =>
    obtain ⟨hx, hl⟩ := List.forall_mem_cons.1 hl
    obtain ⟨ne, h⟩ := not_or.1 (mt List.mem_cons.2 h)
    exact (ih hl h (s.count ⟨.fp, x.1, e⟩ x.2)).trans (State.ctr_count_ne (Ctr.key_ne_of_num hx hn (Ne.symm ne)) s x.2)

/-- Where the numbers differ, each counter counts its own. -/
theorem State.ctr_countAll_mem {l : List (Nat × Nat)} (hl : ∀ x ∈ l, x.1 < 256) (hd : (l.map Prod.fst).Nodup) {n k : Nat}
    (h : (n, k) ∈ l) (s : State) (e : Nat) : (s.countAll e l).ctr ⟨.fp, n, e⟩ = (s.ctr ⟨.fp, n, e⟩ + k) % 2 ^ 48 := by
  induction l generalizing s with
  | nil => exact absurd h List.not_mem_nil
  | cons x l ih =>
    obtain ⟨hx, hs⟩ := List.forall_mem_cons.1 hl
    obtain ⟨fresh, hd⟩ := List.nodup_cons.1 hd
    rcases List.mem_cons.1 h with rfl | h
    · exact (State.ctr_countAll_num hx hs fresh (s.count ⟨.fp, n, e⟩ k) e).trans (s.ctr_count_same ..)
    · have ne : x.1 ≠ n := fun he => fresh (he ▸ List.mem_map_of_mem (f := Prod.fst) h)
      have hn : n < 256 := hs (n, k) h
      rw [← State.ctr_count_ne (Ctr.key_ne_of_num hx hn ne) s x.2]
      exact ih hs hd h (s.count ⟨.fp, x.1, e⟩ x.2)

/-! ### CODEWORD_DELIVERY (R272, R281, R282) -/

/-- What a delivered result counts, by counter number. -/
def State.fpCounts (s : State) (d : Decoded) : List (Nat × Nat) :=
  [(s.histBin d, 1), (27, 1), (28, if d.ok.isSome then d.flips else 0), (29, d.served.toNat), (30, d.unserved.toNat), (31, d.lost.toNat)]

theorem State.histBin_le (s : State) (d : Decoded) : s.histBin d ≤ 26 := by
  unfold State.histBin
  split
  · split <;> omega
  · split <;> omega

/-- A result that did not converge falls in the bin of its kind. -/
theorem State.histBin_failed {d : Decoded} (h : d.ok = none) (s : State) : s.histBin d = if d.served then 25 else 26 := by
  rw [State.histBin, h]

theorem State.fpCounts_lt (s : State) (d : Decoded) : ∀ x ∈ s.fpCounts d, x.1 < 256 := by
  have bin := s.histBin_le d
  simp [State.fpCounts]
  omega

theorem State.fpCounts_nodup (s : State) (d : Decoded) : ((s.fpCounts d).map Prod.fst).Nodup := by
  have bin := s.histBin_le d
  simp [State.fpCounts]
  omega

theorem State.ctr_fpCounts {s : State} {d : Decoded} {n k : Nat} (h : (n, k) ∈ s.fpCounts d) :
    (s.countAll d.engine (s.fpCounts d)).ctr ⟨.fp, n, d.engine⟩ = (s.ctr ⟨.fp, n, d.engine⟩ + k) % 2 ^ 48 :=
  State.ctr_countAll_mem (s.fpCounts_lt d) (s.fpCounts_nodup d) h s d.engine

/-- The pool with nothing left to deliver. -/
def State.emptyDelivery (s : State) : State := s.modPool fun p => { p with deliver := [] }

/-- A delivered result in the tallies that PM reads. -/
def State.tallyResult (s : State) (d : Decoded) : State :=
  ((s.addTally 20 d.engine 1).addTally 21 d.engine d.ok.isNone.toNat).addTally 23 d.engine d.unserved.toNat

theorem State.deliverCodewords_single {s : State} {d : Decoded} (h : s.pool.deliver = [d]) :
    s.deliverCodewords = (s.emptyDelivery.countAll d.engine (s.emptyDelivery.fpCounts d)).tallyResult d := by
  unfold State.deliverCodewords
  dsimp only
  rw [h]
  rfl

theorem State.interop_emptyDelivery (s : State) (e : Nat) : s.emptyDelivery.interop e = s.interop e := by
  have format : s.emptyDelivery.rd F.LF_CFG_FMT (unitEngine e) = s.rd F.LF_CFG_FMT (unitEngine e) :=
    congrArg F.LF_CFG_FMT.get (State.reg_congr (t := s.emptyDelivery) rfl _ _)
  rw [State.interop, State.interop, format]

theorem State.fpCounts_emptyDelivery (s : State) (d : Decoded) : s.emptyDelivery.fpCounts d = s.fpCounts d := by
  unfold State.fpCounts State.histBin
  rw [State.interop_emptyDelivery]

@[simp] theorem State.ctr_emptyDelivery (s : State) (c : Ctr) : s.emptyDelivery.ctr c = s.ctr c := (rfl)

@[simp] theorem State.ctr_tallyResult (s : State) (d : Decoded) (c : Ctr) : (s.tallyResult d).ctr c = s.ctr c :=
  State.ctr_congr (by simp only [State.tallyResult, State.addTally_ctrs]) c

@[simp] theorem State.regs_tallyResult (s : State) (d : Decoded) : (s.tallyResult d).regs = s.regs := by
  simp only [State.tallyResult, State.addTally_regs]

@[simp] theorem State.pool_tallyResult (s : State) (d : Decoded) : (s.tallyResult d).pool = s.pool := by
  simp only [State.tallyResult, State.addTally_pool]

theorem State.tallyResult_sameMemory (s : State) (d : Decoded) : s.SameMemory (s.tallyResult d) := by
  exact ⟨by simp [State.tallyResult], by simp [State.tallyResult], by simp [State.tallyResult], by simp [State.tallyResult]⟩

@[simp] theorem State.regs_countAll (s : State) (e : Nat) (l : List (Nat × Nat)) : (s.countAll e l).regs = s.regs :=
  State.each_keeps State.regs (fun _ _ => State.count_regs ..) l s

@[simp] theorem State.pool_countAll (s : State) (e : Nat) (l : List (Nat × Nat)) : (s.countAll e l).pool = s.pool :=
  State.each_keeps State.pool (fun _ _ => State.count_pool ..) l s

theorem State.countAll_sameMemory (s : State) (e : Nat) (l : List (Nat × Nat)) : s.SameMemory (s.countAll e l) :=
  have counted (s : State) (x : Nat × Nat) : s.SameMemory (s.count ⟨.fp, x.1, e⟩ x.2) := ⟨rfl, rfl, rfl, rfl⟩
  State.sameMemory_each counted l s

/-- What a delivery of one result leaves: its counts, and nothing more to deliver. -/
structure State.Delivers (s t : State) (d : Decoded) : Prop where
  deliver : t.pool.deliver = []
  counted : ∀ n k, (n, k) ∈ s.fpCounts d → t.ctr ⟨.fp, n, d.engine⟩ = (s.ctr ⟨.fp, n, d.engine⟩ + k) % 2 ^ 48
  others : ∀ n e, e ≠ d.engine → t.ctr ⟨.fp, n, e⟩ = s.ctr ⟨.fp, n, e⟩
  regs : t.regs = s.regs
  memory : s.SameMemory t

theorem State.deliverCodewords_delivers {s : State} {d : Decoded} (h : s.pool.deliver = [d]) : s.Delivers s.deliverCodewords d := by
  rw [State.deliverCodewords_single h]
  have empty : s.SameMemory s.emptyDelivery := ⟨rfl, rfl, rfl, rfl⟩
  exact {
    deliver := by
      rw [State.pool_tallyResult, State.pool_countAll]
      rfl
    counted := fun n k hk => by
      rw [← s.fpCounts_emptyDelivery] at hk
      rw [State.ctr_tallyResult, State.ctr_fpCounts hk, State.ctr_emptyDelivery]
    others := fun n e he => by
      rw [State.ctr_tallyResult, State.ctr_countAll_unit (c := ⟨.fp, n, e⟩) (Ne.symm he), State.ctr_emptyDelivery]
    regs := by
      rw [State.regs_tallyResult, State.regs_countAll]
      rfl
    memory := empty.trans <| (State.countAll_sameMemory ..).trans (State.tallyResult_sameMemory ..) }

end Sys2Proof.Machine
end

section
/-! The frequency loop of the decoder pool; with what stands above, O24. -/

namespace Sys2Proof.Machine

/-! ### POOL_FREQ_DECISION (R279, R280) -/

/-- A period of 16 ticks begins for the frequency loop. -/
def State.newPeriod (s : State) : State := s.modPool fun p => { p with starved := false, busy := false }

/-- The step that the readings ask for. -/
def State.freqGoal (s : State) (temp : Int) (power : Nat) : Nat :=
  let limit : Int := s.cfg F.FP_FREQ_T_HI 0
  let plim := s.cfg F.FP_PLIM_P_LIM 0
  let cur := s.rd F.FP_STAT_FCODE 0
  if temp ≥ limit || (plim != 0 && plim ≤ power) then cur - 1
  else if s.pool.starved && decide (temp < limit - 3) && (plim == 0 || decide (power + 20 < plim)) then cur + 1
  else if !s.pool.busy then cur - 1
  else cur

/-- The frequency code within FMIN and FMAX, or a step towards them. -/
def State.freqWithin (s : State) (goal : Nat) : Nat :=
  let cur := s.rd F.FP_STAT_FCODE 0
  let lo := min (s.cfg F.FP_FREQ_FMIN 0) 32
  let hi := max lo (min (s.cfg F.FP_FREQ_FMAX 0) 32)
  clampNat (min lo (cur + 1)) (max hi (cur - 1)) goal

/-- The loop holds the frequency: it is frozen, or the thermal guard holds it (R39, R627). -/
def State.freqHeld (s : State) : Bool := (s.rd F.SY_LOOP_STAT_FROZEN 0).testBit 2 || s.pool.guarded

theorem State.poolFreq_off {s : State} (h : s.tick.toNat % 16 ≠ 0) (r : PoolReading) : s.poolFreq r = s := if_pos (by simpa using h)

theorem State.poolFreq_reads {s : State} (h : s.tick.toNat % 16 = 0) (temp : Int) (power : Nat) :
    s.poolFreq ⟨some temp, some power⟩ =
      if s.freqHeld then s.newPeriod else s.newPeriod.wr F.FP_STAT_FCODE 0 (s.freqWithin (s.freqGoal temp power)) :=
  if_neg (by simp [h])

theorem State.poolFreq_fails {s : State} (h : s.tick.toNat % 16 = 0) (hf : (s.rd F.SY_LOOP_STAT_FROZEN 0).testBit 2 = false)
    (power : Option Nat) :
    s.poolFreq ⟨none, power⟩ = (s.newPeriod.wr F.FP_STAT_FCODE 0 0).raise F.FP_STICKY_FREQ_FAIL 0 := by
  unfold State.poolFreq
  rw [if_neg (by simp [h])]
  dsimp only
  rw [if_neg (by simp [hf])]
  rfl

/-- The readings ask for one step at most. -/
theorem State.freqGoal_near (s : State) (temp : Int) (power : Nat) :
    s.freqGoal temp power ≤ s.rd F.FP_STAT_FCODE 0 + 1 ∧ s.rd F.FP_STAT_FCODE 0 ≤ s.freqGoal temp power + 1 := by
  unfold State.freqGoal
  dsimp only
  split
  · omega
  · split
    · omega
    · split <;> omega

/-- At the temperature limit the step is down (R280). -/
theorem State.freqGoal_hot {s : State} {temp : Int} (h : s.cfg F.FP_FREQ_T_HI 0 ≤ temp) (power : Nat) :
    s.freqGoal temp power = s.rd F.FP_STAT_FCODE 0 - 1 := if_pos (by simp [h])

theorem State.fcode_lt (s : State) : s.rd F.FP_STAT_FCODE 0 < 64 := s.rd_lt F.FP_STAT_FCODE 0

/-- Keeping within the limits makes no step greater, and the code fits its field. -/
theorem State.freqWithin_near {s : State} {goal : Nat} (h : goal ≤ s.rd F.FP_STAT_FCODE 0 + 1 ∧ s.rd F.FP_STAT_FCODE 0 ≤ goal + 1) :
    s.freqWithin goal ≤ s.rd F.FP_STAT_FCODE 0 + 1 ∧ s.rd F.FP_STAT_FCODE 0 ≤ s.freqWithin goal + 1 ∧ s.freqWithin goal < 64 := by
  have fits := s.fcode_lt
  simp only [State.freqWithin, clampNat]
  omega

/-- Above FMIN a step down is taken. -/
theorem State.freqWithin_down {s : State} (h : min (s.cfg F.FP_FREQ_FMIN 0) 32 < s.rd F.FP_STAT_FCODE 0) :
    s.freqWithin (s.rd F.FP_STAT_FCODE 0 - 1) + 1 = s.rd F.FP_STAT_FCODE 0 := by
  simp only [State.freqWithin, clampNat]
  omega

theorem State.newPeriod_onlyAt (s : State) : s.OnlyAt s.newPeriod 0 [.FP_STAT] := State.onlyAt_of_regs rfl 0 _

/-- A decision with both readings: the frequency code afterwards, and the frame. -/
theorem State.fcode_poolFreq {s : State} (h : s.tick.toNat % 16 = 0) (temp : Int) (power : Nat) :
    (s.poolFreq ⟨some temp, some power⟩).rd F.FP_STAT_FCODE 0 =
      if s.freqHeld then s.rd F.FP_STAT_FCODE 0 else s.freqWithin (s.freqGoal temp power) := by
  obtain ⟨-, -, fits⟩ := State.freqWithin_near (s.freqGoal_near temp power)
  rw [State.poolFreq_reads h]
  split
  · rfl
  · exact State.rd_wr_fits rfl fits ..

theorem State.poolFreq_frame {s : State} (h : s.tick.toNat % 16 = 0) (temp : Int) (power : Nat) :
    (s.poolFreq ⟨some temp, some power⟩).pool.starved = false ∧ (s.poolFreq ⟨some temp, some power⟩).pool.busy = false ∧
      s.OnlyAt (s.poolFreq ⟨some temp, some power⟩) 0 [.FP_STAT] ∧ s.SameMemory (s.poolFreq ⟨some temp, some power⟩) := by
  rw [State.poolFreq_reads h]
  split
  · exact ⟨rfl, rfl, s.newPeriod_onlyAt, rfl, rfl, rfl, rfl⟩
  · exact ⟨rfl, rfl, s.newPeriod_onlyAt.wr F.FP_STAT_FCODE (by decide) _, rfl, rfl, rfl, rfl⟩

/-- A failed temperature sensor sets 1.2 GHz, and reports (R280). -/
theorem State.poolFreq_failed {s : State} (h : s.tick.toNat % 16 = 0) (hf : (s.rd F.SY_LOOP_STAT_FROZEN 0).testBit 2 = false)
    (power : Option Nat) :
    (s.poolFreq ⟨none, power⟩).rd F.FP_STAT_FCODE 0 = 0 ∧ (s.poolFreq ⟨none, power⟩).on F.FP_STICKY_FREQ_FAIL 0 = true ∧
      s.OnlyAt (s.poolFreq ⟨none, power⟩) 0 [.FP_STAT, .FP_STICKY] ∧ s.SameMemory (s.poolFreq ⟨none, power⟩) := by
  rw [State.poolFreq_fails h hf]
  refine ⟨?_, State.on_raise rfl rfl (by decide) (by decide) _ 0, ?_, State.raise_sameMemory (s.newPeriod.wr F.FP_STAT_FCODE 0 0) _ 0⟩
  · rw [State.raise_rd _ _ _ (by decide) (by decide) (by decide), State.rd_wr_fits rfl (by decide)]
  · exact ((State.onlyAt_of_regs rfl 0 _ : s.OnlyAt s.newPeriod 0 _).wr F.FP_STAT_FCODE (by decide) 0).raise F.FP_STICKY_FREQ_FAIL
      (by decide)

/-- Settles O24: the pool by the induction on its ranked candidates, a delivery by its list of counts, the loop by the step it takes. -/
theorem poolServesAndDelivers : Obligations.PoolServesAndDelivers := by
  refine ⟨fun s => ⟨fun cws => ⟨_, rfl, rfl, rfl, rfl, rfl, rfl, rfl, rfl⟩, s.poolDecode, rfl, ?_⟩,
    fun s => ⟨fun d hd => ?_, fun r h => congrArg Host.Outcome.next (State.poolFreq_off h r), fun temp power h => ?_,
      fun power h hf => ⟨_, rfl, State.poolFreq_failed h hf power⟩⟩⟩
  · have kept := s.poolDecode_keeps
    rw [s.pool_poolDecode]
    exact ⟨rfl, s.length_decoded_poolAfter, s.used_poolAfter_le, State.unserved_poolAfter, rfl, kept.regs, kept.memory⟩
  · have out := State.deliverCodewords_delivers hd
    refine ⟨_, rfl, out.deliver, out.counted 27 1 (by simp [State.fpCounts]), out.counted 30 _ (by simp [State.fpCounts]),
      fun failed => ?_, fun n _ => out.others n, out.regs, out.memory⟩
    rw [← State.histBin_failed failed s]
    exact out.counted _ 1 (.head _)
  · obtain ⟨up, down, -⟩ := State.freqWithin_near (s.freqGoal_near temp power)
    refine ⟨_, rfl, ?_, ?_, fun frozen => ?_, fun thawed free hot above => ?_, State.poolFreq_frame h temp power⟩
    all_goals rw [State.fcode_poolFreq h]
    · split
      · exact Nat.le_succ _
      · exact up
    · split
      · exact Nat.le_succ _
      · exact down
    · exact if_pos (by simp [State.freqHeld, frozen])
    · rw [if_neg (by simp [State.freqHeld, thawed, free]), State.freqGoal_hot hot, State.freqWithin_down above]

end Sys2Proof.Machine
end

section
/-! Tide receivers, leaves and hubs: what their updates write, and what they leave unchanged. -/

namespace Sys2Proof.Machine

/-! ### What a receiver and a leaf hold -/

theorem State.tideSc_congr {s t : State} (h : t.tideScs = s.tideScs) (k : Nat) : t.tideSc k = s.tideSc k := by
  simp only [State.tideSc, h]

theorem State.tideLeaf_congr {s t : State} (h : t.tideLeaves = s.tideLeaves) (k : Nat) : t.tideLeaf k = s.tideLeaf k := by
  simp only [State.tideLeaf, h]

@[simp] theorem State.tideSc_modSc_same (s : State) (n : Nat) (f : TideSc → TideSc) : (s.modSc n f).tideSc n = f (s.tideSc n) := by
  rw [State.modSc, State.tideSc_setTideSc, if_pos rfl]

theorem State.tideSc_modSc_ne {n k : Nat} (h : k ≠ n) (s : State) (f : TideSc → TideSc) : (s.modSc n f).tideSc k = s.tideSc k := by
  rw [State.modSc, State.tideSc_setTideSc, if_neg h.symm]

@[simp] theorem State.tideLeaf_modLeaf_same (s : State) (l : Nat) (f : TideLeaf → TideLeaf) :
    (s.modLeaf l f).tideLeaf l = f (s.tideLeaf l) := by
  rw [State.modLeaf, State.tideLeaf_setTideLeaf, if_pos rfl]

@[simp] theorem State.tideSc_raise (s : State) (f : Field) (i k : Nat) : (s.raise f i).tideSc k = s.tideSc k :=
  State.tideSc_congr (State.raise_tideScs ..) k

@[simp] theorem State.tideSc_wr (s : State) (f : Field) (i v k : Nat) : (s.wr f i v).tideSc k = s.tideSc k := rfl

@[simp] theorem State.tideSc_setHub (s : State) (e : Nat) (x : TideHub) (k : Nat) : (s.setHub e x).tideSc k = s.tideSc k := rfl

@[simp] theorem State.tideSc_countTide (s : State) (num i n k : Nat) : (s.countTide num i n).tideSc k = s.tideSc k := rfl

@[simp] theorem State.tideSc_addTally (s : State) (code i n k : Nat) : (s.addTally code i n).tideSc k = s.tideSc k := rfl

@[simp] theorem State.tideLeaf_countTide (s : State) (num i n k : Nat) : (s.countTide num i n).tideLeaf k = s.tideLeaf k := rfl

@[simp] theorem State.tideScs_modLeaf (s : State) (l : Nat) (f : TideLeaf → TideLeaf) : (s.modLeaf l f).tideScs = s.tideScs := rfl

/-! ### Fields of registers beside an update -/

@[simp] theorem State.rd_modSc (s : State) (n : Nat) (g : TideSc → TideSc) (f : Field) (i : Nat) : (s.modSc n g).rd f i = s.rd f i := rfl

@[simp] theorem State.rd_modLeaf (s : State) (l : Nat) (g : TideLeaf → TideLeaf) (f : Field) (i : Nat) :
    (s.modLeaf l g).rd f i = s.rd f i := rfl

@[simp] theorem State.rd_setHub (s : State) (e : Nat) (x : TideHub) (f : Field) (i : Nat) : (s.setHub e x).rd f i = s.rd f i := rfl

/-! ### Counters of a subcarrier or a leaf (R338) -/

@[simp] theorem State.ctrs_modLeaf (s : State) (l : Nat) (f : TideLeaf → TideLeaf) : (s.modLeaf l f).ctrs = s.ctrs := rfl

@[simp] theorem State.ctr_modSc (s : State) (n : Nat) (f : TideSc → TideSc) (c : Ctr) : (s.modSc n f).ctr c = s.ctr c := rfl

@[simp] theorem State.ctr_setHub (s : State) (e : Nat) (x : TideHub) (c : Ctr) : (s.setHub e x).ctr c = s.ctr c := rfl

@[simp] theorem State.ctr_addTally (s : State) (code i n : Nat) (c : Ctr) : (s.addTally code i n).ctr c = s.ctr c := rfl

theorem State.ctr_countTide_same (s : State) (num unit n : Nat) :
    (s.countTide num unit n).ctr ⟨.td, num, unit⟩ = (s.ctr ⟨.td, num, unit⟩ + n) % 2 ^ 48 := State.ctr_count_same ..

theorem State.ctr_countTide_ne {num k : Nat} (hn : num < 256) (hk : k < 256) (h : num ≠ k) (s : State) (i j n : Nat) :
    (s.countTide num i n).ctr ⟨.td, k, j⟩ = s.ctr ⟨.td, k, j⟩ := State.ctr_count_ne (Ctr.key_ne_of_num hn hk h) s n

/-! ### The frame of the updates of one receiver or one leaf -/

/-- Beside one copy of the registers listed, and what the event unit takes, no register and no memory differs. -/
structure State.OnlyCopy (s t : State) (i : Nat) (rs : List Reg) : Prop where
  regs : s.OnlyAt t i rs
  memory : s.SameMemory t

namespace State.OnlyCopy

variable {s t u : State} {i : Nat} {rs qs : List Reg}

theorem refl (s : State) (i : Nat) (rs : List Reg) : s.OnlyCopy s i rs := ⟨State.onlyAt_of_regs rfl i rs, s.sameMemory_refl⟩

theorem trans (h : s.OnlyCopy t i rs) (k : t.OnlyCopy u i rs) : s.OnlyCopy u i rs :=
  ⟨h.regs.trans k.regs, h.memory.trans k.memory⟩

theorem mono (h : s.OnlyCopy t i rs) (hs : rs ⊆ qs) : s.OnlyCopy t i qs :=
  ⟨fun r j hr => h.regs r j (hr.imp (fun hq hm => hq (hs hm)) id), h.memory⟩

theorem wr (h : s.OnlyCopy t i rs) (f : Field) (hf : f.reg ∈ rs) (v : Nat) : s.OnlyCopy (t.wr f i v) i rs :=
  ⟨h.regs.wr f hf v, h.memory⟩

theorem raise (h : s.OnlyCopy t i rs) (f : Field) (hf : f.reg ∈ rs) : s.OnlyCopy (t.raise f i) i rs :=
  ⟨h.regs.raise f hf, h.memory.trans (t.raise_sameMemory f i)⟩

theorem raiseIf (h : s.OnlyCopy t i rs) (c : Bool) (f : Field) (hf : f.reg ∈ rs) : s.OnlyCopy (t.raiseIf c f i) i rs := by
  cases c
  · exact h
  · exact h.raise f hf

theorem modSc (h : s.OnlyCopy t i rs) (n : Nat) (f : TideSc → TideSc) : s.OnlyCopy (t.modSc n f) i rs := ⟨h.regs, h.memory⟩

theorem modLeaf (h : s.OnlyCopy t i rs) (l : Nat) (f : TideLeaf → TideLeaf) : s.OnlyCopy (t.modLeaf l f) i rs := ⟨h.regs, h.memory⟩

theorem setHub (h : s.OnlyCopy t i rs) (e : Nat) (x : TideHub) : s.OnlyCopy (t.setHub e x) i rs := ⟨h.regs, h.memory⟩

theorem countTide (h : s.OnlyCopy t i rs) (num unit n : Nat) : s.OnlyCopy (t.countTide num unit n) i rs := ⟨h.regs, h.memory⟩

theorem addTally (h : s.OnlyCopy t i rs) (code k n : Nat) : s.OnlyCopy (t.addTally code k n) i rs := ⟨h.regs, h.memory⟩

end State.OnlyCopy

/-! ### A counted event (R338) -/

/-- The field is an event of a subcarrier or a leaf: one bit of TD_SC_STICKY or TD_LEAF_STICKY. -/
def Field.tideEvent (f : Field) : Bool := f.good && f.hi == f.lo && (f.reg == .TD_SC_STICKY || f.reg == .TD_LEAF_STICKY)

/-- From one state to the next, a counter of a subcarrier or a leaf counts one and its event is raised; no receiver and no leaf's
reassembly changes. -/
structure State.CountsEvent (s t : State) (num : Nat) (f : Field) (n : Nat) : Prop extends s.OnlyCopy t n [f.reg] where
  counted : t.ctr ⟨.td, num, n⟩ = (s.ctr ⟨.td, num, n⟩ + 1) % 2 ^ 48
  raised : t.on f n = true
  receivers : t.tideScs = s.tideScs
  leaves : t.tideLeaves = s.tideLeaves

theorem State.countTide_raise_counts {f : Field} (h : f.tideEvent = true) (s : State) (num n : Nat) :
    s.CountsEvent ((s.countTide num n 1).raise f n) num f n := by
  simp only [Field.tideEvent, Bool.and_eq_true, Bool.or_eq_true, beq_iff_eq] at h
  obtain ⟨⟨good, bit⟩, reg⟩ := h
  have apart : f.reg ≠ .EV_STICKY ∧ f.reg ≠ .EV_SRC_CNT := by
    rcases reg with reg | reg <;> rw [reg] <;> decide
  exact {
    toOnlyCopy := ((State.OnlyCopy.refl s n _).countTide num n 1).raise f (List.mem_singleton_self _)
    counted := (State.ctr_raise ..).trans (s.ctr_countTide_same num n 1)
    raised := State.on_raise good bit apart.1 apart.2 ..
    receivers := State.raise_tideScs ..
    leaves := State.raise_tideLeaves .. }

end Sys2Proof.Machine
end

section
/-! Bursts: power, sync word, header and rise of power at a receiver (O26). -/

namespace Sys2Proof.Machine

section

variable {s : State} {e sc n : Nat} (hn : n = 16 * e + sc)

include hn

/-! ### Power and sync word (R325, R326, R328) -/

theorem State.powerDetect_detects {power symbols : Nat} (hh : s.inHub e = true) (ht : s.scType e sc = 2)
    (hx : (s.tideSc n).rx = .idle) (hs : 64 ≤ symbols) (hp : power + s.rd F.TD_THR_STAT_PTHR n < s.rd F.TD_THR_STAT_FLOOR n) :
    s.powerDetect e sc power symbols = s.modSc n fun x => { x with rx := .power } := by
  subst hn
  exact if_pos (by simp [hh, ht, hx, hs, hp])

theorem State.syncAccept_accepts {sym errors : Nat} (hx : (s.tideSc n).rx = .power) (he : errors ≤ s.rd F.TD_THR_STAT_E n) :
    s.syncAccept e sc sym errors = s.modSc n fun x => { x with rx := .header s.tick sym } := by
  subst hn
  exact if_pos (by simp [hx, he])

theorem State.syncAccept_errored {sym errors : Nat} (he : s.rd F.TD_THR_STAT_E n < errors) : s.syncAccept e sc sym errors = s := by
  subst hn
  exact if_neg (by simp [he])

theorem State.syncMiss_ends {symbols : Nat} (hx : (s.tideSc n).rx = .power) (hs : 2368 + s.cfg F.TD_THR_TOL e ≤ symbols) :
    s.syncMiss e sc symbols =
      ((s.modSc n fun x => { x with rx := .idle, syncMiss := x.syncMiss + 1 }).countTide 3 n 1).raise F.TD_SC_STICKY_SYNC_MISS n := by
  subst hn
  exact if_pos (by simp [hx, hs])

/-! ### A header that is not accepted (R327) -/

/-- A dropped burst is counted, its event is raised, and the receiver skips it. -/
theorem State.dropBurst_counts {sticky : Field} (h : sticky.tideEvent = true) (num last : Nat) :
    (s.modSc n fun x => { x with rx := .skip last }).CountsEvent (s.dropBurst e sc num sticky last) num sticky n := by
  subst hn
  exact State.countTide_raise_counts h ..

section

variable {tick : Tick} {sym power : Nat} (hx : (s.tideSc n).rx = .header tick sym)

include hx

theorem State.burstHeader_fails :
    s.burstHeader e sc none power =
      ((s.modSc n fun x => { x with rx := .power, falseSync := x.falseSync + 1 }).countTide 2 n 1).raise F.TD_SC_STICKY_FALSE_SYNC
        n := by
  subst hn
  simp only [State.burstHeader, hx]

theorem State.burstHeader_misplaced (h : BurstHeader) (hw : s.judgedWindow e sc tick sym = none) :
    s.burstHeader e sc (some h) power = s.dropBurst e sc 7 F.TD_SC_STICKY_MISPLACED (s.burstEnd e tick sym h.nc) := by
  subst hn
  simp only [State.burstHeader, hx, hw]

theorem State.burstHeader_misdirected {h : BurstHeader} {w : Window} (hw : s.judgedWindow e sc tick sym = some w)
    (hl : h.leaf ≠ w.leaf) :
    s.burstHeader e sc (some h) power =
      (s.dropBurst e sc 6 F.TD_SC_STICKY_MISDIR (s.burstEnd e tick sym h.nc)).wr F.TD_SC_LAST_LEAF n h.leaf := by
  subst hn
  simp only [State.burstHeader, hx, hw]
  exact if_pos (by simpa using hl)

end

end

/-! ### An accepted header (R327, R333) -/

/-- The receiver takes the payload of an accepted burst: its window has had one, and the burst is counted for subcarrier and leaf. -/
def State.takeBurst (s : State) (e n leaf last : Nat) (w : Window) : State :=
  let s := s.modSc n fun x => { x with rx := .payload leaf last }
  let s := s.setHub e { s.hub e with windows := (s.hub e).windows.map fun x => if x == w then { x with got := true } else x }
  ((s.countTide 1 n 1).countTide 16 (256 * e + leaf) 1).addTally 24 (n / 16) 1

/-- A leaf is heard: its offset, its power and LDI show, and its run of empty windows ends. -/
def State.hearLeaf (s : State) (l offset power : Nat) (ldi : Bool) : State :=
  let s := (s.wr F.TD_LEAF_STAT_TOFS l offset).wr F.TD_LEAF_STAT_PWR l power
  let s := (s.wr F.TD_LEAF_STAT_LOST l 0).wrBool F.TD_LEAF_STAT_LDI l ldi
  (s.modLeaf l fun x => { x with missRun := 0, learned := true }).raiseIf ldi F.TD_LEAF_STICKY_LDI l

theorem State.burstHeader_accepted {s : State} {e sc n : Nat} (hn : n = 16 * e + sc) {tick : Tick} {sym power : Nat}
    (hx : (s.tideSc n).rx = .header tick sym) {h : BurstHeader} {w : Window} (hw : s.judgedWindow e sc tick sym = some w)
    (hl : h.leaf = w.leaf) (hs : h.win = w.start.toNat % 65536)
    (hf : burstSymbols h.nc (s.rd F.TD_FMT_KUP e) + (3 * s.symbolsUp e + 15) / 16 ≤ w.len * s.symbolsUp e) :
    s.burstHeader e sc (some h) power =
      let t := s.takeBurst e n h.leaf (s.burstEnd e tick sym h.nc) w
      t.hearLeaf (256 * e + h.leaf) (unsigned 16 (t.syncOffset e w tick sym)) (min power 255) h.ldi := by
  subst hn
  simp only [State.burstHeader, hx, hw]
  rw [if_neg (by simpa using hl), if_neg (by simpa [hs] using hf)]
  rfl

/-- A taken burst counts once for its subcarrier, and once for its leaf. -/
theorem State.ctr_takeBurst (s : State) (e n leaf last : Nat) (w : Window) :
    (s.takeBurst e n leaf last w).ctr ⟨.td, 1, n⟩ = (s.ctr ⟨.td, 1, n⟩ + 1) % 2 ^ 48 ∧
      (s.takeBurst e n leaf last w).ctr ⟨.td, 16, 256 * e + leaf⟩ = (s.ctr ⟨.td, 16, 256 * e + leaf⟩ + 1) % 2 ^ 48 := by
  rw [State.takeBurst, State.ctr_addTally, State.ctr_addTally]
  constructor
  · rw [State.ctr_countTide_ne (by decide) (by decide) (by decide), State.ctr_countTide_same, State.ctr_setHub, State.ctr_modSc]
  · rw [State.ctr_countTide_same, State.ctr_countTide_ne (by decide) (by decide) (by decide), State.ctr_setHub, State.ctr_modSc]

theorem State.rx_takeBurst (s : State) (e n leaf last : Nat) (w : Window) :
    ((s.takeBurst e n leaf last w).tideSc n).rx = .payload leaf last := by
  rw [State.takeBurst, State.tideSc_addTally, State.tideSc_countTide, State.tideSc_countTide, State.tideSc_setHub,
    State.tideSc_modSc_same]

/-- What a heard leaf shows; the receivers and the counters stay as they were. -/
structure State.HearsLeaf (s t : State) (l power : Nat) (ldi : Bool) : Prop where
  found : t.on F.TD_LEAF_STAT_LOST l = false
  ldi : t.on F.TD_LEAF_STAT_LDI l = ldi
  power : t.rd F.TD_LEAF_STAT_PWR l = power
  run : (t.tideLeaf l).missRun = 0
  receivers : t.tideScs = s.tideScs
  ctrs : t.ctrs = s.ctrs

theorem State.hearLeaf_hears {power : Nat} (hp : power < 256) (s : State) (l offset : Nat) (ldi : Bool) :
    s.HearsLeaf (s.hearLeaf l offset power ldi) l power ldi := by
  have shown {f : Field} (h : f.reg = .TD_LEAF_STAT) (t : State) (g : TideLeaf → TideLeaf) :
      ((t.modLeaf l g).raiseIf ldi F.TD_LEAF_STICKY_LDI l).rd f l = t.rd f l :=
    State.rd_raiseIf_ne (by rw [h]; decide) (by rw [h]; decide) (by rw [h]; decide) (t.modLeaf l g) ldi l l
  refine ⟨?_, ?_, ?_, ?_, ?_, ?_⟩
  all_goals rw [State.hearLeaf]
  · rw [State.on, shown rfl, State.wrBool, State.rd_wr_apart rfl]
    exact State.on_wr rfl rfl _ l false
  · rw [State.on, shown rfl]
    exact State.on_wr rfl rfl _ l ldi
  · rw [shown rfl, State.wrBool, State.rd_wr_apart rfl, State.rd_wr_apart rfl, State.rd_wr_fits rfl hp]
  · rw [State.tideLeaf_congr (State.raiseIf_tideLeaves ..), State.tideLeaf_modLeaf_same]
  · rw [State.raiseIf_tideScs, State.tideScs_modLeaf, State.wrBool_tideScs, State.wr_tideScs, State.wr_tideScs, State.wr_tideScs]
  · rw [State.raiseIf_ctrs, State.ctrs_modLeaf, State.wrBool_ctrs, State.wr_ctrs, State.wr_ctrs, State.wr_ctrs]

/-- An accepted burst writes what its leaf shows. -/
theorem State.acceptBurst_only (s : State) (e n leaf last : Nat) (w : Window) (offset power : Nat) (ldi : Bool) :
    s.OnlyCopy ((s.takeBurst e n leaf last w).hearLeaf (256 * e + leaf) offset power ldi) (256 * e + leaf)
      [.TD_LEAF_STAT, .TD_LEAF_STICKY] :=
  have taken : s.OnlyCopy (s.takeBurst e n leaf last w) (256 * e + leaf) [.TD_LEAF_STAT, .TD_LEAF_STICKY] :=
    (((((State.OnlyCopy.refl s _ _).modSc ..).setHub ..).countTide ..).countTide ..).addTally ..
  ((((taken.wr F.TD_LEAF_STAT_TOFS (by decide) _).wr F.TD_LEAF_STAT_PWR (by decide) _).wr F.TD_LEAF_STAT_LOST (by decide) _).wr
    F.TD_LEAF_STAT_LDI (by decide) _ |>.modLeaf ..).raiseIf ldi F.TD_LEAF_STICKY_LDI (by decide)

/-! ### A rise of power (R329) -/

section

variable {s : State} {e sc n : Nat} (hn : n = 16 * e + sc) {tick : Tick} {sym rise span : Nat} {margin : Int}
  (hx : (s.tideSc n).rx = .header tick sym) (hr : 12 ≤ rise) (hp : 64 ≤ span)

include hn hx hr hp

theorem State.powerRise_captures (hm : 4 * (clampNat 3 12 (s.cfg F.TD_THR_CAP e) : Int) ≤ margin) :
    s.powerRise e sc rise span margin =
      ((s.modSc n fun x => { x with rx := .power }).countTide 5 n 1).raise F.TD_SC_STICKY_CAPTURE n := by
  subst hn
  refine (if_neg (by simp [hr, hp])).trans ?_
  simp only [hx]
  exact if_pos (decide_eq_true hm)

theorem State.powerRise_collides (hm : margin < 4 * (clampNat 3 12 (s.cfg F.TD_THR_CAP e) : Int)) :
    s.powerRise e sc rise span margin = (s.countTide 4 n 1).raise F.TD_SC_STICKY_COLLISION n := by
  subst hn
  refine (if_neg (by simp [hr, hp])).trans ?_
  simp only [hx]
  exact if_neg (by simpa using hm)

end

theorem State.powerRise_small {rise span : Nat} (h : rise < 12 ∨ span < 64) (s : State) (e sc : Nat) (margin : Int) :
    s.powerRise e sc rise span margin = s := if_pos (by simpa using h)

/-- Settles O26: each event by the case of the receiver it meets; what it leaves by the counted event or by the heard leaf. -/
theorem burstReceptionFollowsItsStates : Obligations.BurstReceptionFollowsItsStates := by
  intro e sc n s hn
  have held {t u : State} (f : TideSc → TideSc) (h : u.tideScs = (t.modSc n f).tideScs) : u.tideSc n = f (t.tideSc n) :=
    (State.tideSc_congr h n).trans (State.tideSc_modSc_same ..)
  refine ⟨fun power symbols hh ht hx hs hp => ?_, fun sym errors hx he => ?_, fun sym errors he => ?_, fun symbols hx hs => ?_,
    fun tick sym power hx => ⟨?_, fun h hw => ?_, fun h w hw => ⟨fun hl => ?_, fun hl hs hf => ?_⟩⟩,
    fun tick sym rise span margin hx hr hp => ⟨fun hm => ?_, fun hm => ?_⟩, fun rise span margin h => ?_⟩
  · refine ⟨_, congrArg Host.Outcome.next (State.powerDetect_detects hn hh ht hx hs hp), ?_, fun k hk => State.tideSc_modSc_ne hk ..,
      rfl, rfl, rfl, rfl, rfl⟩
    rw [State.tideSc_modSc_same]
  · refine ⟨_, congrArg Host.Outcome.next (State.syncAccept_accepts hn hx he), ?_, rfl, rfl, rfl, rfl, rfl⟩
    rw [State.tideSc_modSc_same]
  · exact congrArg Host.Outcome.next (State.syncAccept_errored hn he)
  · have out := State.countTide_raise_counts (f := F.TD_SC_STICKY_SYNC_MISS) rfl
      (s.modSc n fun x => { x with rx := .idle, syncMiss := x.syncMiss + 1 }) 3 n
    have receiver := held _ out.receivers
    exact ⟨_, congrArg Host.Outcome.next (State.syncMiss_ends hn hx hs), congrArg TideSc.rx receiver,
      congrArg TideSc.syncMiss receiver, out.counted, out.raised, out.regs, out.memory⟩
  · have out := State.countTide_raise_counts (f := F.TD_SC_STICKY_FALSE_SYNC) rfl
      (s.modSc n fun x => { x with rx := .power, falseSync := x.falseSync + 1 }) 2 n
    have receiver := held _ out.receivers
    exact ⟨_, congrArg Host.Outcome.next (State.burstHeader_fails hn hx), congrArg TideSc.rx receiver,
      congrArg TideSc.falseSync receiver, out.counted, out.raised, out.regs, out.memory⟩
  · have out := State.dropBurst_counts hn (s := s) (sticky := F.TD_SC_STICKY_MISPLACED) rfl 7 (s.burstEnd e tick sym h.nc)
    exact ⟨_, congrArg Host.Outcome.next (State.burstHeader_misplaced hn hx h hw), congrArg TideSc.rx (held _ out.receivers),
      out.counted, out.raised, out.regs, out.memory⟩
  · have out := State.dropBurst_counts hn (s := s) (sticky := F.TD_SC_STICKY_MISDIR) rfl 6 (s.burstEnd e tick sym h.nc)
    have frame := (out.toOnlyCopy.mono (qs := [.TD_SC_STICKY, .TD_SC_LAST]) (by decide)).wr F.TD_SC_LAST_LEAF (by decide) h.leaf
    refine ⟨_, congrArg Host.Outcome.next (State.burstHeader_misdirected hn hx hw hl), congrArg TideSc.rx (held _ out.receivers),
      out.counted, State.rd_wr rfl .., ?_, frame.regs, frame.memory⟩
    rw [State.on, State.rd_wr_apart rfl]
    exact out.raised
  · let t := s.takeBurst e n h.leaf (s.burstEnd e tick sym h.nc) w
    have bursts := s.ctr_takeBurst e n h.leaf (s.burstEnd e tick sym h.nc) w
    have heard := State.hearLeaf_hears (power := min power 255) (by omega) t (256 * e + h.leaf) (unsigned 16 (t.syncOffset e w tick sym))
      h.ldi
    have frame := s.acceptBurst_only e n h.leaf (s.burstEnd e tick sym h.nc) w (unsigned 16 (t.syncOffset e w tick sym)) (min power 255)
      h.ldi
    exact ⟨_, congrArg Host.Outcome.next (State.burstHeader_accepted hn hx hw hl hs hf),
      (congrArg TideSc.rx (State.tideSc_congr heard.receivers n)).trans (State.rx_takeBurst ..),
      (State.ctr_congr heard.ctrs _).trans bursts.1, (State.ctr_congr heard.ctrs _).trans bursts.2, heard.found, heard.ldi,
      heard.power, heard.run, frame.regs, frame.memory⟩
  · have out := State.countTide_raise_counts (f := F.TD_SC_STICKY_CAPTURE) rfl (s.modSc n fun x => { x with rx := .power }) 5 n
    exact ⟨_, congrArg Host.Outcome.next (State.powerRise_captures hn hx hr hp hm), congrArg TideSc.rx (held _ out.receivers),
      out.counted, out.raised, out.regs, out.memory⟩
  · have out := State.countTide_raise_counts (f := F.TD_SC_STICKY_COLLISION) rfl s 4 n
    exact ⟨_, congrArg Host.Outcome.next (State.powerRise_collides hn hx hr hp hm), out.receivers, out.counted, out.raised, out.regs,
      out.memory⟩
  · exact congrArg Host.Outcome.next (State.powerRise_small h s e.val sc.val margin)

end Sys2Proof.Machine
end

section
/-! Subcarriers lit, schedule banks, lost leaves and crate-ticks (O25). -/

namespace Sys2Proof.Machine

/-! ### Schedule banks (R318) -/

@[simp] theorem State.hub_wr (s : State) (f : Field) (i v k : Nat) : (s.wr f i v).hub k = s.hub k := rfl

/-- The first cycle start at or after a tick number. -/
def cycleStart (c first : Nat) : Tick := BitVec.ofNat 48 ((first + c - 1) / c * c)

theorem cycleStart_mod {c : Nat} (h : c ∣ 2 ^ 48) (first : Nat) : (cycleStart c first).toNat % c = 0 := by
  rw [cycleStart, BitVec.toNat_ofNat, Nat.mod_mod_of_dvd _ h, Nat.mul_mod_left]

/-- A cycle starts within each cycle's length. -/
theorem ahead_cycleStart {c d : Nat} (hc : 0 < c) (hd : d + c ≤ 2 ^ 48) (t : Tick) :
    d ≤ ahead (cycleStart c (t.toNat + d)) t ∧ ahead (cycleStart c (t.toNat + d)) t < d + c := by
  have split := Nat.div_add_mod (t.toNat + d + c - 1) c
  have rest := Nat.mod_lt (t.toNat + d + c - 1) hc
  rw [Nat.mul_comm] at split
  have eq : ahead (cycleStart c (t.toNat + d)) t = (t.toNat + d + c - 1) / c * c - t.toNat := by
    have ht := t.isLt
    rw [ahead, cycleStart, BitVec.toNat_sub, BitVec.toNat_ofNat]
    omega
  omega

theorem State.cycle_le (s : State) (e bank : Nat) : (s.bankOf e bank).1 ≤ 8 := by
  unfold State.bankOf
  split
  · exact Nat.min_le_right ..
  · exact Nat.min_le_right ..

theorem State.requestBank_eq (s : State) (e bank : Nat) :
    s.requestBank e bank = (s.wr F.TD_GS_CTRL_BANK e bank).setHub e { s.hub e with
      bankAt := some (bank, cycleStart (2 ^ (s.bankOf e bank).1) (s.tick.toNat + (s.rd F.TD_CFG_LEAD e + 8))) } := by
  rw [← State.rd_wr_apart (f := F.TD_GS_CTRL_BANK) (g := F.TD_CFG_LEAD) rfl s e bank e]
  rfl

/-- A bank asked for waits for the first cycle start at least LEAD + 8 ticks ahead (R318). -/
structure State.AsksBank (s t : State) (e bank : Nat) (first : Tick) : Prop where
  shown : t.rd F.TD_GS_CTRL_BANK e = bank
  waits : (t.hub e).bankAt = some (bank, first)
  start : first.toNat % 2 ^ (s.bankOf e bank).1 = 0
  later : s.rd F.TD_CFG_LEAD e + 8 ≤ ahead first s.tick
  soon : ahead first s.tick < s.rd F.TD_CFG_LEAD e + 8 + 2 ^ (s.bankOf e bank).1
  active : t.rd F.TD_GS_CTRL_ACTIVE e = s.rd F.TD_GS_CTRL_ACTIVE e
  frame : s.OnlyCopy t e [.TD_GS_CTRL]

theorem State.requestBank_asks {bank : Nat} (hb : bank < 2) (s : State) (e : Nat) :
    s.AsksBank (s.requestBank e bank) e bank
      (cycleStart (2 ^ (s.bankOf e bank).1) (s.tick.toNat + (s.rd F.TD_CFG_LEAD e + 8))) := by
  have cyc := s.cycle_le e bank
  have short : 2 ^ (s.bankOf e bank).1 ≤ 2 ^ 8 := Nat.pow_le_pow_right (by decide) cyc
  have lead : s.rd F.TD_CFG_LEAD e < 256 := s.rd_lt F.TD_CFG_LEAD e
  obtain ⟨later, soon⟩ := ahead_cycleStart (c := 2 ^ (s.bankOf e bank).1) (d := s.rd F.TD_CFG_LEAD e + 8) (Nat.two_pow_pos _)
    (by omega) s.tick
  refine ⟨?_, ?_, cycleStart_mod (Nat.pow_dvd_pow 2 (by omega)) _, later, soon, ?_, ?_⟩
  all_goals rw [State.requestBank_eq]
  · rw [State.rd_setHub, State.rd_wr_fits rfl hb]
  · rw [State.hub_setHub, if_pos rfl]
  · rw [State.rd_setHub, State.rd_wr_apart rfl]
  · exact ((State.OnlyCopy.refl s e _).wr F.TD_GS_CTRL_BANK (by decide) _).setHub ..

theorem State.switchBank_switches {s : State} {e b : Nat} {first : Tick} (hb : (s.hub e).bankAt = some (b, first))
    (ha : ahead (s.tick + BitVec.ofNat 48 (s.rd F.TD_CFG_LEAD e + 7)) first ≤ 2 ^ 47) :
    s.switchBank e = (s.setHub e { s.hub e with bankAt := none }).wr F.TD_GS_CTRL_ACTIVE e b := by
  simp only [State.switchBank, hb]
  exact if_pos ha

theorem State.switchBank_none {s : State} {e : Nat} (hb : (s.hub e).bankAt = none) : s.switchBank e = s := by
  simp only [State.switchBank, hb]

/-! ### Writes outside a mate pair (R312, R318) -/

section

variable {s : State} {m : Initiator} (ha : s.Alone) (he : s.engineExists (s.engineSel m) = true)

include ha he

theorem exec_tdDsWrite_alone (lit : Fin 65536) :
    exec (.tdDsWrite m lit) s = .next ((s.wr F.TD_DS_LIT (s.engineSel m) lit.val).reply m (.ok 0)) :=
  congrArg Host.Outcome.next (State.atEngine_write_alone ha he _ (.tdDs · lit.val) fun e t => t.wr F.TD_DS_LIT e lit.val)

theorem exec_tdGsBankWrite_alone (bank : Fin 2) :
    exec (.tdGsBankWrite m bank) s = .next ((s.requestBank (s.engineSel m) bank.val).reply m (.ok 0)) :=
  congrArg Host.Outcome.next (State.atEngine_write_alone ha he _ (.gsBank · bank.val) fun e t => t.requestBank e bank.val)

end

/-! ### Leaves (R331, R333) -/

section

variable {s : State} {e leaf l : Nat} (hl : l = 256 * e + leaf)

include hl

theorem State.leafLost_lost (hh : s.inHub e = true) (hv : s.on F.TD_LEAF_CFG_VALID l = true) (hs : s.on F.TD_LEAF_STAT_LOST l = false)
    (hm : 8 ≤ (s.tideLeaf l).missRun) : s.leafLost e leaf = (s.wr F.TD_LEAF_STAT_LOST l 1).raise F.TD_LEAF_STICKY_LOST l := by
  subst hl
  exact if_pos (by simp [hh, hv, hs, hm])

theorem State.leafLost_heard (hm : (s.tideLeaf l).missRun < 8) : s.leafLost e leaf = s := by
  subst hl
  exact if_neg (by simp [hm])

section

variable {c : CrateTick} {tk : Tick} (hh : s.inHub e = true) (hv : s.on F.TD_LEAF_CFG_VALID l = true)
  (ht : tk = nearestTick c.low (s.tick - BitVec.ofNat 48 (s.rd F.TD_CFG_EQD e)))

include hh hv ht

theorem State.crateTick_holds (hp : tickDiff s.tick (tk + BitVec.ofNat 48 (s.rd F.TD_CFG_DT e)) ≤ 0)
    (hn : ∀ h, h ∈ (s.tideLeaf l).held → h.1 ≠ tk) :
    s.crateTick e leaf c = (s.modLeaf l fun x => { x with held := x.held ++ [(tk, c)] }).countTide 17 l 1 := by
  subst hl ht
  refine (if_neg (by simp [hh, hv])).trans <| (if_neg (Int.not_lt.2 hp)).trans (if_neg ?_)
  rw [List.any_eq_true]
  exact fun ⟨h, hm, he⟩ => hn h hm (beq_iff_eq.1 he)

theorem State.crateTick_late (hp : 0 < tickDiff s.tick (tk + BitVec.ofNat 48 (s.rd F.TD_CFG_DT e))) :
    s.crateTick e leaf c = (s.countTide 19 l 1).raise F.TD_LEAF_STICKY_LATE l := by
  subst hl ht
  exact (if_neg (by simp [hh, hv])).trans (if_pos hp)

end

end

end Sys2Proof.Machine
end

section
/-! The sync tolerance E of a TIDE subcarrier (R330), and with what stands above, O25. -/

namespace Sys2Proof.Machine

/-! ### One subcarrier among those of an engine -/

/-- What the thresholds loop goes by at a subcarrier, and what it shows there. -/
structure ThrView where
  held : TideSc
  tol : Nat
  limit : Bool
  frozen : Bool

def State.thrView (s : State) (e n : Nat) : ThrView :=
  ⟨s.tideSc n, s.rd F.TD_THR_STAT_E n, s.on F.TD_SC_STICKY_THR_LIMIT n, s.thrFrozen e⟩

/-- Beside one subcarrier's receiver and what it shows, nothing that the loop goes by differs. -/
structure State.OnlySc (s t : State) (n : Nat) : Prop extends s.OnlyCopy t n [.TD_THR_STAT, .TD_SC_STICKY] where
  receivers : ∀ k, k ≠ n → t.tideSc k = s.tideSc k
  act : t.act = s.act

namespace State.OnlySc

variable {s t u : State} {n : Nat}

theorem refl (s : State) (n : Nat) : s.OnlySc s n := ⟨.refl s n _, fun _ _ => rfl, rfl⟩

theorem wr (h : s.OnlySc t n) (f : Field) (hf : f.reg ∈ [Reg.TD_THR_STAT, .TD_SC_STICKY]) (v : Nat) : s.OnlySc (t.wr f n v) n :=
  ⟨h.toOnlyCopy.wr f hf v, h.receivers, h.act⟩

theorem raise (h : s.OnlySc t n) (f : Field) (hf : f.reg ∈ [Reg.TD_THR_STAT, .TD_SC_STICKY]) : s.OnlySc (t.raise f n) n :=
  ⟨h.toOnlyCopy.raise f hf, fun k hk => (State.tideSc_raise ..).trans (h.receivers k hk), (State.raise_act ..).trans h.act⟩

theorem modSc (h : s.OnlySc t n) (f : TideSc → TideSc) : s.OnlySc (t.modSc n f) n :=
  ⟨h.toOnlyCopy.modSc n f, fun k hk => (State.tideSc_modSc_ne hk ..).trans (h.receivers k hk), h.act⟩

theorem showLimit (h : s.OnlySc t n) : s.OnlySc (t.showLimit n) n := h.wr F.TD_THR_STAT_AT_LIMIT (by decide) _

theorem ite {c : Prop} [Decidable c] (h : s.OnlySc t n) (k : s.OnlySc u n) : s.OnlySc (if c then t else u) n := by
  split
  · exact h
  · exact k

/-- Another subcarrier's view is the same. -/
theorem thrView_eq (h : s.OnlySc t n) {k : Nat} (hk : k ≠ n) (e : Nat) : t.thrView e k = s.thrView e k := by
  have rd {f : Field} (hf : f.reg ∈ [Reg.TD_THR_STAT, .TD_SC_STICKY]) : t.rd f k = s.rd f k :=
    congrArg f.get (h.regs f.reg k (.inr hk) (fun e => by simp [e] at hf) fun e => by simp [e] at hf)
  have frozen : t.rd F.SY_LOOP_STAT_FROZEN 0 = s.rd F.SY_LOOP_STAT_FROZEN 0 :=
    h.regs.onlyRegs.rd_eq (by decide) (by decide) (by decide) 0
  simp only [State.thrView, State.on, State.thrFrozen, h.receivers k hk, rd (f := F.TD_THR_STAT_E) (by decide),
    rd (f := F.TD_SC_STICKY_THR_LIMIT) (by decide), State.cfgOn_congr h.act, frozen]

end State.OnlySc

/-- What no update for an index of a list touches, all of them leave. -/
theorem State.each_keeps_mem {β : Type} (view : State → β) {f : State → Nat → State} {l : List Nat}
    (hf : ∀ s, ∀ k ∈ l, view (f s k) = view s) (s : State) : view (s.each l f) = view s := by
  induction l generalizing s with
  | nil => rfl
  | cons k l ih => exact (ih (fun s j hj => hf s j (List.mem_cons_of_mem k hj)) (f s k)).trans (hf s k List.mem_cons_self)

/-- An index that stands once in a list is updated once, from what was there at first. -/
theorem State.each_updates_view {β : Type} (view : State → β) {f : State → Nat → State} {i : Nat}
    (others : ∀ s k, k ≠ i → view (f s k) = view s) {l : List Nat} (hn : l.Nodup) (hi : i ∈ l) (s : State) :
    ∃ u, view u = view s ∧ view (s.each l f) = view (f u i) := by
  induction l generalizing s with
  | nil => exact absurd hi List.not_mem_nil
  | cons k l ih =>
    obtain ⟨hk, hl⟩ := List.nodup_cons.1 hn
    by_cases h : k = i
    · subst h
      exact ⟨s, rfl, State.each_keeps_mem view (fun s j hj => others s j fun e => hk (e ▸ hj)) (f s k)⟩
    · obtain ⟨u, seen, updated⟩ := ih hl ((List.mem_cons.1 hi).resolve_left (Ne.symm h)) (f s k)
      exact ⟨u, seen.trans (others s k h), updated⟩

theorem State.onlyRegs_each {α : Type} {f : State → α → State} {rs : List Reg} (hf : ∀ (s : State) x, s.OnlyRegs (f s x) rs)
    (l : List α) (s : State) : s.OnlyRegs (s.each l f) rs := by
  induction l generalizing s with
  | nil => exact s.onlyRegs_refl rs
  | cons x l ih => exact (hf s x).trans (ih (f s x))

/-! ### The step of E (R330) -/

/-- The counts of the past 256 ticks start again. -/
def State.clearMisses (s : State) (n : Nat) : State := s.modSc n fun x => { x with falseSync := 0, syncMiss := 0 }

/-- E is held at a limit. -/
def State.holdTol (s : State) (n : Nat) : State :=
  ((s.modSc n fun x => { x with eLimit := true }).showLimit n).raise F.TD_SC_STICKY_THR_LIMIT n

/-- E takes a value. -/
def State.moveTol (s : State) (n v : Nat) : State := ((s.wr F.TD_THR_STAT_E n v).modSc n fun x => { x with eLimit := false }).showLimit n

/-- The update of one subcarrier. -/
def State.adaptTol (s : State) (e n : Nat) : State :=
  let t := s.clearMisses n
  let cur := s.rd F.TD_THR_STAT_E n
  if s.thrFrozen e then t
  else if 2 ≤ (s.tideSc n).falseSync then if cur == 0 then t.holdTol n else t.moveTol n (cur - 1)
  else if 2 ≤ (s.tideSc n).syncMiss then if 48 ≤ cur then t.holdTol n else t.moveTol n (cur + 1)
  else t

theorem State.thrUpdate_off {s : State} (h : s.tick.toNat % 256 ≠ 0) (e : Nat) : s.thrUpdate e = s := if_pos (by simpa using h)

theorem State.thrUpdate_eq {s : State} (h : s.tick.toNat % 256 = 0) (e : Nat) :
    s.thrUpdate e = s.each (s.tideScsOf e) fun t i => t.adaptTol e (16 * e + i) := if_neg (by simpa using h)

theorem State.adaptTol_onlySc (s : State) (e n : Nat) : s.OnlySc (s.adaptTol e n) n := by
  have cleared : s.OnlySc (s.clearMisses n) n := (State.OnlySc.refl s n).modSc _
  have held : s.OnlySc ((s.clearMisses n).holdTol n) n := (cleared.modSc _).showLimit.raise F.TD_SC_STICKY_THR_LIMIT (by decide)
  have moved (v : Nat) : s.OnlySc ((s.clearMisses n).moveTol n v) n := ((cleared.wr F.TD_THR_STAT_E (by decide) v).modSc _).showLimit
  exact cleared.ite (.ite (held.ite (moved _)) (.ite (held.ite (moved _)) cleared))

theorem State.rd_showLimit {f : Field} (h : F.TD_THR_STAT_AT_LIMIT.apart f = true) (s : State) (n i : Nat) :
    (s.showLimit n).rd f i = s.rd f i := State.rd_wr_apart h ..

theorem State.tol_holdTol (s : State) (n : Nat) : (s.holdTol n).rd F.TD_THR_STAT_E n = s.rd F.TD_THR_STAT_E n := by
  rw [State.holdTol, State.raise_rd _ _ _ (by decide) (by decide) (by decide), State.rd_showLimit rfl, State.rd_modSc]

theorem State.tol_moveTol {v : Nat} (h : v < 64) (s : State) (n : Nat) : (s.moveTol n v).rd F.TD_THR_STAT_E n = v := by
  rw [State.moveTol, State.rd_showLimit rfl, State.rd_modSc, State.rd_wr_fits rfl h]

theorem State.tol_lt (s : State) (n : Nat) : s.rd F.TD_THR_STAT_E n < 64 := s.rd_lt F.TD_THR_STAT_E n

/-- E after a step: down with two false syncs, else up with two misses, within 0 and 48. -/
def ThrView.next (x : ThrView) : Nat :=
  if x.frozen then x.tol
  else if 2 ≤ x.held.falseSync then x.tol - 1
  else if 2 ≤ x.held.syncMiss then if 48 ≤ x.tol then x.tol else x.tol + 1
  else x.tol

section

variable {x : ThrView}

theorem ThrView.next_frozen (h : x.frozen = true) : x.next = x.tol := if_pos h

theorem ThrView.next_down (h : x.frozen = false) (hd : 2 ≤ x.held.falseSync) : x.next = x.tol - 1 :=
  (if_neg (by simp [h])).trans (if_pos hd)

theorem ThrView.next_up (h : x.frozen = false) (hd : x.held.falseSync < 2) (hu : 2 ≤ x.held.syncMiss) :
    x.next = if 48 ≤ x.tol then x.tol else x.tol + 1 :=
  (if_neg (by simp [h])).trans <| (if_neg (Nat.not_le.2 hd)).trans (if_pos hu)

theorem ThrView.next_few (h : x.frozen = false) (hd : x.held.falseSync < 2) (hu : x.held.syncMiss < 2) : x.next = x.tol :=
  (if_neg (by simp [h])).trans <| (if_neg (Nat.not_le.2 hd)).trans (if_neg (Nat.not_le.2 hu))

theorem ThrView.next_le (h : x.tol ≤ 48) : x.next ≤ 48 := by
  unfold ThrView.next
  split
  · exact h
  · split
    · omega
    · split
      · split <;> omega
      · exact h

end

theorem State.tol_adaptTol (s : State) (e n : Nat) : (s.adaptTol e n).rd F.TD_THR_STAT_E n = (s.thrView e n).next := by
  have lt := s.tol_lt n
  have view : (s.thrView e n).tol = s.rd F.TD_THR_STAT_E n := rfl
  have cleared : (s.clearMisses n).rd F.TD_THR_STAT_E n = s.rd F.TD_THR_STAT_E n := State.rd_modSc ..
  by_cases frozen : s.thrFrozen e = true
  · rw [ThrView.next_frozen frozen, State.adaptTol, if_pos frozen, cleared, view]
  have thawed : (s.thrView e n).frozen = false := Bool.not_eq_true _ ▸ frozen
  by_cases down : 2 ≤ (s.tideSc n).falseSync
  · rw [ThrView.next_down thawed down, State.adaptTol, if_neg frozen, if_pos down, view]
    split
    next zero => rw [State.tol_holdTol, cleared, beq_iff_eq.1 zero]
    next => exact State.tol_moveTol (by omega) ..
  have few := Nat.not_le.1 down
  by_cases up : 2 ≤ (s.tideSc n).syncMiss
  · rw [ThrView.next_up thawed few up, State.adaptTol, if_neg frozen, if_neg down, if_pos up, view]
    split
    · rw [State.tol_holdTol, cleared]
    · exact State.tol_moveTol (by omega) ..
  · rw [ThrView.next_few thawed few (Nat.not_le.1 up), State.adaptTol, if_neg frozen, if_neg down, if_neg up, cleared, view]

theorem State.cleared_adaptTol (s : State) (e n : Nat) :
    ((s.adaptTol e n).tideSc n).falseSync = 0 ∧ ((s.adaptTol e n).tideSc n).syncMiss = 0 := by
  have cleared : (s.clearMisses n).tideSc n = { s.tideSc n with falseSync := 0, syncMiss := 0 } := State.tideSc_modSc_same ..
  have held : ((s.clearMisses n).holdTol n).tideSc n = { (s.clearMisses n).tideSc n with eLimit := true } := by
    rw [State.holdTol, State.tideSc_raise, State.showLimit, State.wrBool, State.tideSc_wr, State.tideSc_modSc_same]
  have moved (v : Nat) : ((s.clearMisses n).moveTol n v).tideSc n = { (s.clearMisses n).tideSc n with eLimit := false } := by
    rw [State.moveTol, State.showLimit, State.wrBool, State.tideSc_wr, State.tideSc_modSc_same, State.tideSc_wr]
  unfold State.adaptTol
  dsimp only
  split
  · simp only [cleared, and_self]
  · split
    · split <;> simp only [held, moved, cleared, and_self]
    · split
      · split <;> simp only [held, moved, cleared, and_self]
      · simp only [cleared, and_self]

/-- A step down at 0 is held, and reported. -/
theorem State.limit_adaptTol {s : State} {e n : Nat} (hf : s.thrFrozen e = false) (hs : 2 ≤ (s.tideSc n).falseSync)
    (h : s.rd F.TD_THR_STAT_E n = 0) : (s.adaptTol e n).on F.TD_SC_STICKY_THR_LIMIT n = true := by
  have held : s.adaptTol e n = (s.clearMisses n).holdTol n :=
    (if_neg (by simp [hf])).trans <| (if_pos hs).trans (if_pos (by simp [h]))
  rw [held]
  exact State.on_raise rfl rfl (by decide) (by decide) ..

/-- What a step leaves of what the loop goes by. -/
structure ThrView.Steps (x y : ThrView) : Prop where
  tol : y.tol = x.next
  falseSync : y.held.falseSync = 0
  syncMiss : y.held.syncMiss = 0
  limit : x.frozen = false → 2 ≤ x.held.falseSync → x.tol = 0 → y.limit = true

theorem State.adaptTol_steps (s : State) (e n : Nat) : (s.thrView e n).Steps ((s.adaptTol e n).thrView e n) :=
  ⟨s.tol_adaptTol e n, (s.cleared_adaptTol e n).1, (s.cleared_adaptTol e n).2, State.limit_adaptTol⟩

/-- Each TIDE subcarrier of the engine takes one step. -/
theorem State.thrUpdate_steps {s : State} {e i n : Nat} (h : s.tick.toNat % 256 = 0) (hi : i ∈ s.tideScsOf e) (hn : n = 16 * e + i) :
    (s.thrView e n).Steps ((s.thrUpdate e).thrView e n) := by
  have nodup : (s.tideScsOf e).Nodup := by
    unfold State.tideScsOf
    split
    · exact List.nodup_range.filter _
    · exact List.nodup_nil
  obtain ⟨u, seen, updated⟩ := State.each_updates_view (State.thrView · e n) (f := fun t i => t.adaptTol e (16 * e + i))
    (fun t k hk => (t.adaptTol_onlySc e _).thrView_eq (by omega) e) nodup hi s
  subst hn
  rw [State.thrUpdate_eq h]
  exact seen ▸ updated ▸ u.adaptTol_steps e _

theorem State.thrUpdate_only {s : State} (h : s.tick.toNat % 256 = 0) (e : Nat) :
    s.OnlyRegs (s.thrUpdate e) [.TD_THR_STAT, .TD_SC_STICKY] ∧ s.SameMemory (s.thrUpdate e) := by
  rw [State.thrUpdate_eq h]
  exact ⟨State.onlyRegs_each (fun t i => (t.adaptTol_onlySc e (16 * e + i)).regs.onlyRegs) _ s,
    State.sameMemory_each (fun t i => (t.adaptTol_onlySc e (16 * e + i)).memory) _ s⟩

/-- Settles O25: a bank by the cycle start it waits for, E by the one step of its subcarrier, a leaf by its case. -/
theorem tideSchedulesReassemblesAndAdapts : Obligations.TideSchedulesReassemblesAndAdapts := by
  refine ⟨?_, fun e s => ⟨fun b first hb hs ha => ?_, fun hs => ?_, fun h => ?_, fun i n h hi hn => ?_, fun leaf l hl =>
    ⟨fun hh hv hs hm => ?_, fun hm => ?_, fun c tk hh hv ht => ⟨fun hp hn => ?_, fun hp => ?_⟩⟩⟩⟩
  · rintro m e s ha rfl he
    refine ⟨fun lit => ⟨_, exec_tdDsWrite_alone ha he lit, ?_⟩, fun bank => ?_⟩
    · have frame := (State.OnlyCopy.refl s (s.engineSel m) [.TD_DS]).wr F.TD_DS_LIT (by decide) lit.val
      refine ⟨?_, State.answer_reply .., rfl, frame.regs, frame.memory⟩
      rw [State.rd_reply, State.rd_wr_fits rfl lit.isLt]
    · have asks := State.requestBank_asks bank.isLt s (s.engineSel m)
      exact ⟨_, _, exec_tdGsBankWrite_alone ha he bank, asks.shown, asks.waits, asks.start, asks.later, asks.soon, asks.active,
        State.answer_reply .., asks.frame.regs, asks.frame.memory⟩
  · have frame := ((State.OnlyCopy.refl s e.val [.TD_GS_CTRL]).setHub e.val { s.hub e.val with bankAt := none }).wr
      F.TD_GS_CTRL_ACTIVE (by decide) b
    refine ⟨_, congrArg Host.Outcome.next (State.switchBank_switches hs ha), State.rd_wr_fits rfl hb .., ?_, ?_, frame.regs,
      frame.memory⟩
    · rw [State.hub_wr, State.hub_setHub, if_pos rfl]
    · rw [State.hub_wr, State.hub_setHub, if_pos rfl]
  · exact congrArg Host.Outcome.next (State.switchBank_none hs)
  · exact congrArg Host.Outcome.next (State.thrUpdate_off h e.val)
  · have steps := State.thrUpdate_steps h hi hn
    obtain ⟨regs, memory⟩ := State.thrUpdate_only h e.val
    have tol : (s.thrUpdate e.val).rd F.TD_THR_STAT_E n = (s.thrView e.val n).next := steps.tol
    refine ⟨_, rfl, fun frozen => ?_, fun thawed down above => ?_, fun thawed few up below => ?_,
      fun thawed down zero => ⟨?_, steps.limit thawed down zero⟩, fun within => ?_, steps.falseSync, steps.syncMiss, regs, memory⟩
    all_goals rw [tol]
    · exact ThrView.next_frozen frozen
    · rw [ThrView.next_down thawed down]
      exact Nat.sub_add_cancel above
    · rw [ThrView.next_up thawed few up]
      exact if_neg (Nat.not_le.2 below)
    · rw [ThrView.next_down thawed down]
      exact congrArg (· - 1) zero
    · exact ThrView.next_le within
  · have frame := ((State.OnlyCopy.refl s l [.TD_LEAF_STAT, .TD_LEAF_STICKY]).wr F.TD_LEAF_STAT_LOST (by decide) 1).raise
      F.TD_LEAF_STICKY_LOST (by decide)
    refine ⟨_, congrArg Host.Outcome.next (State.leafLost_lost hl hh hv hs hm), ?_, State.on_raise rfl rfl (by decide) (by decide) ..,
      frame.regs, frame.memory⟩
    rw [State.on_raise_ne (by decide) (by decide) (by decide)]
    exact State.on_wr rfl rfl s l true
  · exact congrArg Host.Outcome.next (State.leafLost_heard hl hm)
  · refine ⟨_, congrArg Host.Outcome.next (State.crateTick_holds hl hh hv ht hp hn), ?_, ?_, rfl, rfl, rfl, rfl, rfl⟩
    · rw [State.tideLeaf_countTide, State.tideLeaf_modLeaf_same]
    · exact State.ctr_countTide_same ..
  · have out := State.countTide_raise_counts (f := F.TD_LEAF_STICKY_LATE) rfl s 19 l
    exact ⟨_, congrArg Host.Outcome.next (State.crateTick_late hl hh hv ht hp), out.leaves, out.counted, out.raised, out.regs,
      out.memory⟩

end Sys2Proof.Machine
end

section
/-! A merge group beside its registers, what MG_STAT and MG_DHELD show of it, and its states (R345, R346, R634). -/

namespace Sys2Proof.Machine

/-! ### What a merge group holds -/

theorem State.merge_congr {s t : State} (h : t.merges = s.merges) (k : Nat) : t.merge k = s.merge k := by
  simp only [State.merge, h]

@[simp] theorem State.merge_modMerge_same (s : State) (g : Nat) (f : MergeGroup → MergeGroup) :
    (s.modMerge g f).merge g = f (s.merge g) := by
  rw [State.modMerge, State.merge_setMerge, if_pos rfl]

@[simp] theorem State.merge_wr (s : State) (f : Field) (i v k : Nat) : (s.wr f i v).merge k = s.merge k := rfl

@[simp] theorem State.merge_wrBool (s : State) (f : Field) (i : Nat) (b : Bool) (k : Nat) : (s.wrBool f i b).merge k = s.merge k := rfl

/-- A group is shown by writes of fields of its registers. -/
theorem State.showGroup_keeps {α : Type} (p : State → α) (hp : ∀ (t : State) (f : Field) (i v : Nat), p (t.wr f i v) = p t)
    (s : State) (g : Nat) : p (s.showGroup g) = p s := by
  simp only [State.showGroup, State.wrBool, hp]

@[simp] theorem State.merge_showGroup (s : State) (g k : Nat) : (s.showGroup g).merge k = s.merge k :=
  State.showGroup_keeps (State.merge · k) (fun _ _ _ _ => rfl) s g

@[simp] theorem State.ctr_showGroup (s : State) (g : Nat) (c : Ctr) : (s.showGroup g).ctr c = s.ctr c :=
  State.showGroup_keeps (State.ctr · c) (fun _ _ _ _ => rfl) s g

@[simp] theorem State.atBoundary_showGroup (s : State) (g : Nat) : (s.showGroup g).atBoundary = s.atBoundary :=
  State.showGroup_keeps State.atBoundary (fun _ _ _ _ => rfl) s g

@[simp] theorem State.merge_count (s : State) (c : Ctr) (n k : Nat) : (s.count c n).merge k = s.merge k := rfl

@[simp] theorem State.merge_raise (s : State) (f : Field) (i k : Nat) : (s.raise f i).merge k = s.merge k :=
  State.merge_congr (State.raise_merges ..) k

@[simp] theorem State.merge_raiseIf (s : State) (c : Bool) (f : Field) (i k : Nat) : (s.raiseIf c f i).merge k = s.merge k :=
  State.merge_congr (State.raiseIf_merges ..) k

@[simp] theorem State.groupMerges_modMerge (s : State) (g : Nat) (f : MergeGroup → MergeGroup) (k : Nat) :
    (s.modMerge g f).groupMerges k = s.groupMerges k := rfl

theorem State.elapsed_of_le {s : State} {since n : Nat} (h : since + n ≤ s.now) : s.elapsed since n = true := decide_eq_true h

theorem State.elapsed_of_lt {s : State} {since n : Nat} (h : s.now < since + n) : s.elapsed since n = false :=
  decide_eq_false (Nat.not_le.2 h)

/-! ### Frames of the updates of one group -/

namespace State.OnlyCopy

variable {s t u : State} {i : Nat} {rs : List Reg}

theorem modMerge (h : s.OnlyCopy t i rs) (g : Nat) (f : MergeGroup → MergeGroup) : s.OnlyCopy (t.modMerge g f) i rs :=
  ⟨h.regs, h.memory⟩

theorem count (h : s.OnlyCopy t i rs) (c : Ctr) (n : Nat) : s.OnlyCopy (t.count c n) i rs := ⟨h.regs, h.memory⟩

theorem later (h : s.OnlyCopy t i rs) (k : Keyed) : s.OnlyCopy (t.later k) i rs := ⟨h.regs, h.memory⟩

theorem setReg (h : s.OnlyCopy t i rs) (r : Reg) (hr : r ∈ rs) (v : Word) : s.OnlyCopy (t.setReg r i v) i rs :=
  ⟨h.regs.setReg r hr v, h.memory⟩

/-- An event that does not occur writes no register. -/
theorem raiseWhen (h : s.OnlyCopy t i rs) (c : Bool) (f : Field) (hf : c = true → f.reg ∈ rs) : s.OnlyCopy (t.raiseIf c f i) i rs := by
  cases c with
  | false => exact h
  | true => exact h.raise f (hf rfl)

theorem showGroup (h : s.OnlyCopy t i rs) (hs : .MG_STAT ∈ rs) (hd : .MG_DHELD ∈ rs) : s.OnlyCopy (t.showGroup i) i rs := by
  unfold State.showGroup
  iterate 3 refine State.OnlyCopy.wr ?_ _ hd _
  iterate 10 refine State.OnlyCopy.wr ?_ _ hs _
  exact h

/-- Only DOWN and ALIGNED raise an event. -/
theorem enterMerge (h : s.OnlyCopy t i rs) (st : MergeState) (hs : .MG_STAT ∈ rs) (hd : .MG_DHELD ∈ rs)
    (hk : st = .aligned ∨ st = .down → .MG_STICKY ∈ rs) : s.OnlyCopy (t.enterMerge i st) i rs :=
  (((h.modMerge i _).raiseWhen _ F.MG_STICKY_ALIGNED fun e => hk (.inl (beq_iff_eq.1 e))).raiseWhen _ F.MG_STICKY_DOWN fun e =>
    hk (.inr (beq_iff_eq.1 e))).showGroup hs hd

theorem rd_eq (h : s.OnlyCopy t i rs) {f : Field} (h0 : f.reg ∉ rs) (h1 : f.reg ≠ .EV_STICKY) (h2 : f.reg ≠ .EV_SRC_CNT) (j : Nat) :
    t.rd f j = s.rd f j := h.regs.onlyRegs.rd_eq h0 h1 h2 j

/-- A group's mode and kind stand in MG_CFG. -/
theorem groupMerges (h : s.OnlyCopy t i rs) (hc : .MG_CFG ∉ rs) (g : Nat) : t.groupMerges g = s.groupMerges g := by
  simp only [State.groupMerges, State.on, h.rd_eq (f := F.MG_CFG_VALID) hc (by decide) (by decide),
    h.rd_eq (f := F.MG_CFG_MODE) hc (by decide) (by decide)]

theorem groupLine (h : s.OnlyCopy t i rs) (hc : .MG_CFG ∉ rs) (g : Nat) : t.groupLine g = s.groupLine g := by
  simp only [State.groupLine, h.rd_eq (f := F.MG_CFG_KIND) hc (by decide) (by decide)]

end State.OnlyCopy

/-! ### What MG_STAT and MG_DHELD show -/

theorem State.onlyCopy_showGroup (s : State) (g : Nat) : s.OnlyCopy (s.showGroup g) g [.MG_STAT, .MG_DHELD] :=
  (State.OnlyCopy.refl s g _).showGroup (by decide) (by decide)

theorem State.on_sticky_showGroup {f : Field} (h : f.reg = .MG_STICKY) (s : State) (g : Nat) : (s.showGroup g).on f g = s.on f g := by
  rw [State.on, (s.onlyCopy_showGroup g).rd_eq (by rw [h]; decide) (by rw [h]; decide) (by rw [h]; decide), ← State.on]

theorem State.state_showGroup {s : State} {g : Nat} (h : s.groupMerges g = true) :
    (s.showGroup g).rd F.MG_STAT_STATE g = (s.merge g).st.code := by
  have fits : (s.merge g).st.code < 2 ^ F.MG_STAT_STATE.width := by cases (s.merge g).st <;> decide
  simp (disch := decide) only [State.showGroup, State.wrBool, State.rd_wr_apart, h]
  exact State.rd_wr_fits rfl fits s g

theorem State.lateA_showGroup (s : State) (g : Nat) : (s.showGroup g).on F.MG_STAT_A_LATE g = (s.merge g).a.late := by
  simp (disch := decide) only [State.on, State.showGroup, State.wrBool, State.rd_wr_apart]
  exact State.on_wr rfl rfl _ g _

theorem State.held_showGroup (s : State) (g : Nat) : (s.showGroup g).rd F.MG_DHELD_DH g = unsigned 21 (s.merge g).dHeld :=
  State.rd_wr_unsigned rfl rfl _ g _

/-- REQ is not among the fields that show the group: the selector writes it. -/
theorem State.req_showGroup (s : State) (g : Nat) : (s.showGroup g).rd F.MG_STAT_REQ g = s.rd F.MG_STAT_REQ g := by
  simp (disch := decide) only [State.showGroup, State.wrBool, State.rd_wr_apart]

/-! ### A group takes a state -/

@[simp] theorem State.merge_enterMerge (s : State) (g : Nat) (st : MergeState) : (s.enterMerge g st).merge g =
    { s.merge g with st := st, waitAt := if st == .wait then s.now else (s.merge g).waitAt } := by
  simp [State.enterMerge]

theorem State.state_enterMerge {s : State} {g : Nat} (h : s.groupMerges g = true) (st : MergeState) :
    (s.enterMerge g st).rd F.MG_STAT_STATE g = st.code := by
  have same (f : MergeGroup → MergeGroup) (a b : Bool) : s.OnlyCopy (((s.modMerge g f).raiseIf a F.MG_STICKY_ALIGNED g).raiseIf b
      F.MG_STICKY_DOWN g) g [.MG_STICKY] :=
    (((State.OnlyCopy.refl s g _).modMerge g f).raiseIf a F.MG_STICKY_ALIGNED (by decide)).raiseIf b F.MG_STICKY_DOWN (by decide)
  refine (State.state_showGroup (((same _ _ _).groupMerges (by decide) g).trans h)).trans ?_
  simp

theorem State.aligned_enterMerge (s : State) (g : Nat) : (s.enterMerge g .aligned).on F.MG_STICKY_ALIGNED g = true :=
  (State.on_sticky_showGroup rfl _ g).trans (State.on_raise rfl rfl (by decide) (by decide) _ g)

theorem State.down_enterMerge (s : State) (g : Nat) : (s.enterMerge g .down).on F.MG_STICKY_DOWN g = true :=
  (State.on_sticky_showGroup rfl _ g).trans (State.on_raise rfl rfl (by decide) (by decide) _ g)

/-- Taking a state counts nothing. -/
theorem State.ctr_enterMerge (s : State) (g : Nat) (st : MergeState) (c : Ctr) : (s.enterMerge g st).ctr c = s.ctr c := by
  rw [State.enterMerge, State.ctr_showGroup]
  exact State.ctr_congr ((State.raiseIf_ctrs ..).trans (State.raiseIf_ctrs ..)) c

/-! ### DOWN and realignment -/

/-- A group that goes DOWN has nothing output and shows merged SSF (R345). -/
structure State.GoesDown (s t : State) (g : Nat) : Prop extends s.OnlyCopy t g [.MG_STAT, .MG_DHELD, .MG_STICKY] where
  state : (t.merge g).st = .down
  last : (t.merge g).last = none
  ssf : (t.merge g).ssf = true
  event : t.on F.MG_STICKY_DOWN g = true

theorem State.groupDown_goesDown (s : State) (g : Nat) : s.GoesDown (s.groupDown g) g where
  toOnlyCopy := ((State.OnlyCopy.refl s g _).modMerge g _).enterMerge .down (by decide) (by decide) fun _ => by decide
  state := by rw [State.groupDown, State.merge_enterMerge]
  last := by rw [State.groupDown, State.merge_enterMerge, State.merge_modMerge_same]
  ssf := by rw [State.groupDown, State.merge_enterMerge, State.merge_modMerge_same]
  event := State.down_enterMerge ..

/-- A group that realigns waits from now on, and the realignment is counted (R346). -/
structure State.Realigns (s t : State) (g : Nat) : Prop extends s.OnlyCopy t g [.MG_STAT, .MG_DHELD, .MG_STICKY] where
  state : (t.merge g).st = .wait
  since : (t.merge g).waitAt = s.now
  counted : t.ctr ⟨.mg, 4, g⟩ = (s.ctr ⟨.mg, 4, g⟩ + 1) % 2 ^ 48
  event : t.on F.MG_STICKY_REALIGN g = true

theorem State.realign_realigns {s : State} {g : Nat} (hm : s.groupMerges g = true) (hs : (s.merge g).st ≠ .down) :
    s.Realigns (s.realign g) g := by
  rw [State.realign, if_neg (by simp [hm, hs])]
  exact {
    toOnlyCopy := ((((State.OnlyCopy.refl s g _).modMerge g _).enterMerge .wait (by decide) (by decide) fun _ => by decide).count _
      1).raise F.MG_STICKY_REALIGN (by decide)
    state := by rw [State.merge_raise, State.merge_count, State.merge_enterMerge]
    since := by rw [State.merge_raise, State.merge_count, State.merge_enterMerge]; rfl
    counted := by rw [State.ctr_raise, State.ctr_count_same, State.ctr_enterMerge]; rfl
    event := State.on_raise rfl rfl (by decide) (by decide) .. }

end Sys2Proof.Machine
end

section
/-! Alignment, waiting, lateness, the held delay and the keys output (R341 to R346, R634), and with what stands above, O27. -/

namespace Sys2Proof.Machine

/-! ### WAIT ends (R345, R634) -/

/-- The group when both instances have delivered a key: the later one times, and the key is output after the later delivery (R342). -/
def MergeGroup.alignedOn (x : MergeGroup) (d e : Delivery) (now : Nat) : MergeGroup :=
  { x with timingB := decide (d.del < e.del), dHeld := (e.del : Int) - d.del,
           first := some (d.key, max (max d.del e.del + 1) now), a := { x.a with jumped := false }, b := { x.b with jumped := false } }

section

variable {s : State} {g : Nat}

theorem State.mergeAligned_common {d e : Delivery} (hm : s.groupMerges g = true) (hs : (s.merge g).st = .wait)
    (ha : (s.merge g).a.keys = [d]) (hb : (s.merge g).b.keys = [e]) (hk : d.key = e.key)
    (hn : (s.merge g).notYet (s.groupLine g) d.key = true) (hr : ((e.del : Int) - d.del).natAbs ≤ s.groupRange g) :
    s.mergeAligned g = (s.modMerge g (·.alignedOn d e s.now)).enterMerge g .aligned := by
  simp [State.mergeAligned, MergeGroup.alignedOn, lowestKey, hm, hs, ha, hb, ← hk, hn, hr]

theorem State.mergeAligned_apart (hs : (s.merge g).st = .wait)
    (h : ∀ d, d ∈ (s.merge g).a.keys → ∀ e, e ∈ (s.merge g).b.keys → e.key ≠ d.key) : s.mergeAligned g = s := by
  have none : (s.merge g).a.keys.filter (fun d => (s.merge g).notYet (s.groupLine g) d.key && (s.merge g).b.keys.any fun e =>
      e.key == d.key && decide (((e.del : Int) - d.del).natAbs ≤ s.groupRange g)) = [] := by
    refine List.filter_eq_nil_iff.2 fun d hd => ?_
    have unlike : ((s.merge g).b.keys.any fun e => e.key == d.key && decide (((e.del : Int) - d.del).natAbs ≤ s.groupRange g)) = false :=
      List.any_eq_false.2 fun e he => by simp [h d hd e he]
    simp [unlike]
  simp [State.mergeAligned, hs, none, lowestKey]

theorem State.waitExpiry_soon (h : s.now < (s.merge g).waitAt + s.groupRange g) : s.waitExpiry g = s := by
  simp [State.waitExpiry, State.elapsed_of_lt h]

section

variable (hm : s.groupMerges g = true) (hs : (s.merge g).st = .wait) (h : (s.merge g).waitAt + s.groupRange g ≤ s.now)

include hm hs h

theorem State.waitExpiry_both (ha : (s.merge g).a.validNow s.now = true) (hb : (s.merge g).b.validNow s.now = true) :
    s.waitExpiry g = s := by
  simp [State.waitExpiry, hm, hs, State.elapsed_of_le h, ha, hb]

theorem State.waitExpiry_none (ha : (s.merge g).a.validNow s.now = false) (hb : (s.merge g).b.validNow s.now = false) :
    s.waitExpiry g = s.groupDown g := by
  simp [State.waitExpiry, hm, hs, State.elapsed_of_le h, ha, hb]

/-- Of the two instances the valid one times; what the first key is, its keys say. -/
theorem State.waitExpiry_one (hv : (s.merge g).a.validNow s.now ≠ (s.merge g).b.validNow s.now) :
    ∃ first, s.waitExpiry g =
      (s.modMerge g fun x => { x with timingB := (s.merge g).b.validNow s.now, first := first }).enterMerge g .single := by
  refine ⟨_, (if_neg ?_).trans ((if_neg ?_).trans (if_neg ?_))⟩
  · simp [hm, hs, State.elapsed_of_le h]
  · exact fun both => hv ((Bool.and_eq_true_iff.1 both).1.trans (Bool.and_eq_true_iff.1 both).2.symm)
  · rw [Bool.and_eq_true, Bool.not_eq_true', Bool.not_eq_true']
    exact fun neither => hv (neither.1.trans neither.2.symm)

end

/-! ### Neither of the instances valid, or usable (R345, R346) -/

theorem State.mergeDown_down (hm : s.groupMerges g = true) (hs : (s.merge g).st ≠ .down) (h : 64 ≤ (s.merge g).noValid) :
    s.mergeDown g = s.groupDown g := if_pos (by simp [hm, hs, h])

theorem State.mergeDown_soon (h : (s.merge g).noValid < 64) : s.mergeDown g = s := if_neg (by simp [h])

theorem State.realignNoUsable_late (h : 16 ≤ (s.merge g).noUsable) (hv : (s.merge g).a.validNow s.now = true)
    (hl : (s.merge g).a.late = true) : s.realignNoUsable g = s.realign g := if_pos (by simp [h, hv, hl])

theorem State.realignAuto_due (ha : s.cfgOn F.MG_CTRL_AUTO g = true) (h : 312500 ≤ (s.merge g).autoRun) :
    s.realignAuto g = s.realign g := if_pos (by simp [ha, h])

theorem State.realignAuto_off (ha : s.cfgOn F.MG_CTRL_AUTO g = false) : s.realignAuto g = s := if_neg (by simp [ha])

end

/-! ### LATE and EARLY (R344) -/

/-- One of a group's instances with LATE and EARLY by its runs of keys. -/
def MergeInst.judged (z : MergeInst) : MergeInst :=
  if 3 ≤ z.usableRun then { z with late := false, early := false }
  else { z with late := z.late || decide (3 ≤ z.lateRun), early := z.early || decide (3 ≤ z.earlyRun) }

theorem MergeInst.judged_usable {z : MergeInst} (h : 3 ≤ z.usableRun) : z.judged = { z with late := false, early := false } := if_pos h

theorem MergeInst.judged_late {z : MergeInst} (hu : z.usableRun < 3) (hl : 3 ≤ z.lateRun) : z.judged.late = true := by
  rw [MergeInst.judged, if_neg (Nat.not_le.2 hu)]
  simp [hl]

theorem State.rd_raiseIf_apart {f g : Field} (h : f.apart g = true) (h1 : g.reg ≠ .EV_STICKY) (h2 : g.reg ≠ .EV_SRC_CNT) (s : State)
    (c : Bool) (i j : Nat) : (s.raiseIf c f i).rd g j = s.rd g j := by
  cases c with
  | false => rfl
  | true => exact State.rd_raise_apart h h1 h2 s i j

/-- The group shows both instances as judged, and one newly LATE or EARLY raises an event. -/
theorem State.lateEarly_eq (s : State) (g : Nat) : s.lateEarly g =
    (((s.modMerge g fun x => { x with a := (s.merge g).a.judged, b := (s.merge g).b.judged }).showGroup g).raiseIf
      (((s.merge g).a.judged.late && !(s.merge g).a.late) || ((s.merge g).b.judged.late && !(s.merge g).b.late)) F.MG_STICKY_LATE
      g).raiseIf
      (((s.merge g).a.judged.early && !(s.merge g).a.early) || ((s.merge g).b.judged.early && !(s.merge g).b.early))
      F.MG_STICKY_EARLY g := rfl

theorem State.merge_lateEarly (s : State) (g : Nat) :
    (s.lateEarly g).merge g = { s.merge g with a := (s.merge g).a.judged, b := (s.merge g).b.judged } := by
  simp [State.lateEarly_eq]

theorem State.onlyCopy_judgedShown (s : State) (g : Nat) :
    s.OnlyCopy ((s.modMerge g fun x => { x with a := (s.merge g).a.judged, b := (s.merge g).b.judged }).showGroup g) g
      [.MG_STAT, .MG_DHELD] := ((State.OnlyCopy.refl s g _).modMerge g _).showGroup (by decide) (by decide)

theorem State.onlyCopy_lateEarly (s : State) (g : Nat) : s.OnlyCopy (s.lateEarly g) g [.MG_STAT, .MG_DHELD, .MG_STICKY] := by
  rw [State.lateEarly_eq]
  exact (((s.onlyCopy_judgedShown g).mono (by decide)).raiseIf _ F.MG_STICKY_LATE (by decide)).raiseIf _ F.MG_STICKY_EARLY (by decide)

/-- If A becomes LATE, the event is raised and MG_STAT shows it. -/
theorem State.lateEarly_late {s : State} {g : Nat} (hu : (s.merge g).a.usableRun < 3) (hl : 3 ≤ (s.merge g).a.lateRun)
    (h0 : (s.merge g).a.late = false) :
    (s.lateEarly g).on F.MG_STICKY_LATE g = true ∧ (s.lateEarly g).on F.MG_STAT_A_LATE g = true := by
  have late := MergeInst.judged_late hu hl
  rw [State.lateEarly_eq]
  constructor
  · rw [State.on, State.rd_raiseIf_apart (by decide) (by decide) (by decide), ← State.on, late, h0]
    exact State.on_raise rfl rfl (by decide) (by decide) _ g
  · rw [State.on, State.rd_raiseIf_apart (by decide) (by decide) (by decide),
      State.rd_raiseIf_apart (by decide) (by decide) (by decide), ← State.on, State.lateA_showGroup, State.merge_modMerge_same]
    exact late

/-- Two usable instances raise nothing. -/
theorem State.onlyCopy_lateEarly_usable {s : State} {g : Nat} (ha : 3 ≤ (s.merge g).a.usableRun) (hb : 3 ≤ (s.merge g).b.usableRun) :
    s.OnlyCopy (s.lateEarly g) g [.MG_STAT, .MG_DHELD] := by
  rw [State.lateEarly_eq]
  refine ((s.onlyCopy_judgedShown g).raiseWhen _ _ fun raised => ?_).raiseWhen _ _ fun raised => ?_
  all_goals simp [MergeInst.judged_usable ha, MergeInst.judged_usable hb] at raised

/-! ### The held delay (R343) -/

theorem State.dHeldLoad_loads {s : State} {g : Nat} (hs : (s.merge g).st = .aligned) (hr : 16 ≤ (s.merge g).dRun)
    (ht : (s.merge g).timingB = true) (hd : 0 ≤ (s.merge g).dOther) :
    s.dHeldLoad g = (s.modMerge g fun x => { x with dHeld := x.dOther, dRun := 0 }).showGroup g := if_pos (by simp [hs, hr, ht, hd])

/-! ### Keys of a train group (R342, R353) -/

theorem State.onlyCopy_countTaken (s : State) (g kind a b both : Nat) : s.OnlyCopy (s.countTaken g kind a b both) g [.MG_STICKY] :=
  ((((((((State.OnlyCopy.refl s g _).count _ a).count _ b).count _ both).addTally 25 kind a).addTally 26 kind b).addTally 27 kind
    both).raiseIf _ F.MG_STICKY_BOTH_FAIL (by decide))

@[simp] theorem State.merge_countTaken (s : State) (g kind a b both k : Nat) : (s.countTaken g kind a b both).merge k = s.merge k := by
  rw [State.countTaken, State.merge_raiseIf]
  rfl

/-- A key is output at a boundary: its crates are shown, it is the last key, and no first key waits. -/
structure State.OutputsKey (s t : State) (g k n : Nat) : Prop
    extends s.OnlyCopy t g [.MG_STAT, .MG_DELAY, .MG_DHELD, .MG_STICKY] where
  last : (t.merge g).last = some (k, n)
  first : (t.merge g).first = none
  shown : (t.merge g).shown = some k
  timing : (t.merge g).timingB = (s.merge g).timingB

/-- Taking the crates of a key leaves what the group keeps of the keys. -/
theorem State.merge_outputTrain (s : State) (g k n : Nat) :
    ((s.outputTrain g k n).merge g).shown = some k ∧ ((s.outputTrain g k n).merge g).last = (s.merge g).last ∧
      ((s.outputTrain g k n).merge g).first = (s.merge g).first ∧ ((s.outputTrain g k n).merge g).timingB = (s.merge g).timingB := by
  simp [State.outputTrain]

theorem State.onlyCopy_outputTrain (s : State) (g k n : Nat) : s.OnlyCopy (s.outputTrain g k n) g [.MG_STICKY] :=
  ((State.OnlyCopy.refl s g _).modMerge g _).trans (State.onlyCopy_countTaken ..)

theorem State.outputTrain_outputs {s t : State} {g k n : Nat} (h : s.OnlyCopy t g [.MG_STAT, .MG_DELAY, .MG_DHELD, .MG_STICKY])
    (hl : (t.merge g).last = some (k, n)) (hf : (t.merge g).first = none) (ht : (t.merge g).timingB = (s.merge g).timingB) :
    s.OutputsKey ((t.outputTrain g k n).showGroup g) g k n := by
  obtain ⟨shown, last, first, timing⟩ := t.merge_outputTrain g k n
  rw [← State.merge_showGroup] at shown last first timing
  exact {
    toOnlyCopy := (h.trans ((t.onlyCopy_outputTrain g k n).mono (by decide))).showGroup (by decide) (by decide)
    last := last.trans hl
    first := first.trans hf
    shown := shown
    timing := timing.trans ht }

theorem State.outputKey_outputs {s : State} {g : Nat} (hl : s.groupLine g = false) (k n : Nat) :
    s.OutputsKey (s.outputKey g k n) g k n := by
  have known (c : Bool) (f : MergeGroup → MergeGroup) : s.OnlyCopy ((s.wrBool F.MG_DELAY_VALID g c).modMerge g f) g
      [.MG_STAT, .MG_DELAY, .MG_DHELD, .MG_STICKY] := ((State.OnlyCopy.refl s g _).wr F.MG_DELAY_VALID (by decide) c.toNat).modMerge g f
  unfold State.outputKey
  dsimp only
  rw [if_neg (by rw [(known _ _).groupLine (by decide), hl]; decide)]
  exact State.outputTrain_outputs (known _ _) (by simp) (by simp) (by simp)

/-! ### The next key (R342, R634) -/

section

variable {s : State} {g k n : Nat} (hm : s.groupMerges g = true) (hs : (s.merge g).st = .aligned)

include hm hs

theorem State.keyDecision_first (hf : (s.merge g).first = some (k, n)) (h : n ≤ s.now) : s.keyDecision g = s.outputKey g k s.now := by
  simp [State.keyDecision, hm, hs, hf, Nat.not_lt.2 h]

theorem State.keyDecision_waits (hf : (s.merge g).first = some (k, n)) (h : s.now < n) : s.keyDecision g = s := by
  simp [State.keyDecision, hm, hs, hf, h]

/-- The key after the last is output once the one of the instances that times has delivered it in time; SEQ wraps at 2^20. -/
theorem State.keyDecision_next {d : Delivery} (hl : s.groupLine g = false) (hf : (s.merge g).first = none)
    (hk : (s.merge g).last = some (k, n)) (h : n < s.now)
    (hd : ((s.merge g).inst (s.merge g).timingB).has ((k + 1) % 2 ^ 20) s.now = some d) (hn : d.del ≤ n + 1) :
    s.keyDecision g = s.outputKey g ((k + 1) % 2 ^ 20) s.now := by
  have next : keyNext (s.groupLine g) k = (k + 1) % 2 ^ 20 := by rw [hl]; rfl
  simp only [State.keyDecision, hm, hs, hf, hk, next, hd]
  simp [hn, Nat.not_le.2 h]

end

/-- Settles O27: each event by the lemma about what it does in the case named, and what that leaves of the group and its registers. -/
theorem mergeGroupsMoveThroughTheirStates : Obligations.MergeGroupsMoveThroughTheirStates := by
  intro g s hm
  refine ⟨fun d e hs ha hb hk hn hr => ?_, fun hs h => ?_, fun hs h => ⟨fun hv => ?_, fun ha hb => ?_, fun ha hb => ?_⟩, fun h => ?_,
    fun hs h => ?_, fun h => ?_, fun hs h hv hl => ?_, fun hs ha h => ?_, fun ha => ?_, fun hu hl h0 => ?_, fun ha hb => ?_,
    fun hs hr ht hd => ?_, fun hs hl => ⟨fun k n hf h => ?_, fun k n hf h => ?_, fun k n d hf hk h hd hn => ?_⟩⟩
  · have frame := ((State.OnlyCopy.refl s g.val [.MG_STAT, .MG_DHELD, .MG_STICKY]).modMerge g.val (·.alignedOn d e s.now)).enterMerge
      .aligned (by decide) (by decide) fun _ => by decide
    refine ⟨_, congrArg Host.Outcome.next (State.mergeAligned_common hm hs ha hb hk hn hr), ?_, ?_, ?_, ?_, State.aligned_enterMerge ..,
      State.state_enterMerge (by rwa [State.groupMerges_modMerge]) _, frame.regs, frame.memory⟩
    all_goals simp [MergeGroup.alignedOn]
  · exact congrArg Host.Outcome.next (State.mergeAligned_apart hs h)
  · obtain ⟨first, eq⟩ := State.waitExpiry_one hm hs h hv
    have frame := ((State.OnlyCopy.refl s g.val [.MG_STAT, .MG_DHELD]).modMerge g.val fun x =>
      { x with timingB := (s.merge g.val).b.validNow s.now, first := first }).enterMerge .single (by decide) (by decide) (by decide)
    refine ⟨_, congrArg Host.Outcome.next eq, ?_, ?_, State.state_enterMerge (by rwa [State.groupMerges_modMerge]) _, frame.regs,
      frame.memory⟩
    all_goals simp
  · have down := s.groupDown_goesDown g.val
    exact ⟨_, congrArg Host.Outcome.next (State.waitExpiry_none hm hs h ha hb), down.state, down.event, down.regs, down.memory⟩
  · exact congrArg Host.Outcome.next (State.waitExpiry_both hm hs h ha hb)
  · exact congrArg Host.Outcome.next (State.waitExpiry_soon h)
  · have down := s.groupDown_goesDown g.val
    exact ⟨_, congrArg Host.Outcome.next (State.mergeDown_down hm hs h), down.state, down.last, down.ssf, down.event, down.regs,
      down.memory⟩
  · exact congrArg Host.Outcome.next (State.mergeDown_soon h)
  · have anew := State.realign_realigns hm hs
    exact ⟨_, congrArg Host.Outcome.next (State.realignNoUsable_late h hv hl), anew.state, anew.since, anew.counted, anew.event,
      anew.regs, anew.memory⟩
  · have anew := State.realign_realigns hm hs
    exact ⟨_, congrArg Host.Outcome.next (State.realignAuto_due ha h), anew.state, anew.counted, anew.event, anew.memory⟩
  · exact congrArg Host.Outcome.next (State.realignAuto_off ha)
  · have frame := s.onlyCopy_lateEarly g.val
    obtain ⟨event, shown⟩ := State.lateEarly_late hu hl h0
    refine ⟨_, rfl, ?_, event, shown, frame.regs, frame.memory⟩
    rw [State.merge_lateEarly]
    exact MergeInst.judged_late hu hl
  · have frame := State.onlyCopy_lateEarly_usable ha hb
    refine ⟨_, rfl, ?_, ?_, ?_, ?_, frame.regs, frame.memory⟩
    all_goals simp [State.merge_lateEarly, MergeInst.judged_usable ha, MergeInst.judged_usable hb]
  · have frame := ((State.OnlyCopy.refl s g.val [.MG_STAT, .MG_DHELD]).modMerge g.val fun x =>
      { x with dHeld := x.dOther, dRun := 0 }).showGroup (by decide) (by decide)
    refine ⟨_, congrArg Host.Outcome.next (State.dHeldLoad_loads hs hr ht hd), ?_, ?_, frame.regs, frame.memory⟩
    · simp
    · rw [State.held_showGroup, State.merge_modMerge_same]
  · have out := State.outputKey_outputs hl k s.now
    exact ⟨_, congrArg Host.Outcome.next (State.keyDecision_first hm hs hf h), out.last, out.first, out.shown, out.regs, out.memory⟩
  · exact congrArg Host.Outcome.next (State.keyDecision_waits hm hs hf h)
  · have out := State.outputKey_outputs hl ((k + 1) % 2 ^ 20) s.now
    exact ⟨_, congrArg Host.Outcome.next (State.keyDecision_next hm hs hl hf hk h hd hn), out.last, out.timing, out.regs, out.memory⟩

end Sys2Proof.Machine
end

section
/-! Commands of MG_CTRL and the selector of a merge group (R353, R356 to R358), and with what stands above, O28. -/

namespace Sys2Proof.Machine

/-! ### MG_CTRL.CMD (R353, R363) -/

theorem exec_mgRealign_alone {s : State} {m : Initiator} (h : s.Alone) :
    exec (.mgRealign m) s = .next ((s.later (.mgRealign (s.groupSel m))).reply m (.ok 0)) :=
  congrArg Host.Outcome.next (State.write_alone h ..)

theorem State.onlyCopy_mgCmd (s : State) (g cmd : Nat) : s.OnlyCopy (s.mgCmd g cmd) g [.MG_CTRL] := by
  have written := (State.OnlyCopy.refl s g [.MG_CTRL]).wr F.MG_CTRL_CMD (by decide) cmd
  unfold State.mgCmd
  dsimp only
  split
  · exact written.later _
  · exact written

theorem State.merges_mgCmd (s : State) (g cmd : Nat) : (s.mgCmd g cmd).merges = s.merges := by
  unfold State.mgCmd
  dsimp only
  split <;> rfl

theorem State.cmd_mgCmd {cmd : Nat} (h : cmd < 8) (s : State) (g : Nat) : (s.mgCmd g cmd).rd F.MG_CTRL_CMD g = cmd := by
  have written : (s.wr F.MG_CTRL_CMD g cmd).rd F.MG_CTRL_CMD g = cmd := State.rd_wr_fits rfl h s g
  unfold State.mgCmd
  dsimp only
  split <;> exact written

/-- MS names which of the instances of a group in MERGE mode is in use from the boundary on. -/
theorem State.atBoundary_mgCmd {s : State} {g cmd : Nat} (hm : s.groupMerges g = true) (hc : (cmd == 3 || cmd == 4) = true) :
    (s.mgCmd g cmd).atBoundary = s.atBoundary ++ [.mgUse g (cmd == 4)] := by
  have still := (((State.OnlyCopy.refl s g [.MG_CTRL]).wr F.MG_CTRL_CMD (by decide) cmd).groupMerges (by decide) g).trans hm
  rw [State.mgCmd, if_pos (by rw [still, hc]; rfl)]
  rfl

/-- A command is answered, stands in the group's MG_CTRL, and names which of the instances is in use where it is MS in MERGE mode. -/
structure State.TakesCmd (s t : State) (m : Initiator) (g cmd : Nat) : Prop extends s.OnlyCopy t g [.MG_CTRL] where
  shown : t.rd F.MG_CTRL_CMD g = cmd
  merges : t.merges = s.merges
  answer : t.answer m.copy = .ok 0
  uses : s.groupMerges g = true → (cmd == 3 || cmd == 4) = true → t.atBoundary = s.atBoundary ++ [.mgUse g (cmd == 4)]

/-- Outside a mate pair a write of CMD is performed at once (R429). -/
theorem State.writeCmd_takes {s : State} {cmd : Nat} (h : s.Alone) (m : Initiator) (hc : cmd < 8) :
    s.TakesCmd (s.writeCmd m cmd) m (s.groupSel m) cmd := by
  rw [State.writeCmd, State.write_alone h]
  have frame := s.onlyCopy_mgCmd (s.groupSel m) cmd
  exact {
    regs := frame.regs
    memory := frame.memory
    shown := State.cmd_mgCmd hc ..
    merges := State.merges_mgCmd ..
    answer := State.answer_reply ..
    uses := fun hm he => State.atBoundary_mgCmd hm he }

/-! ### The selector's own decision (R357, R358) -/

theorem State.explicitRequest_lt (s : State) (g : Nat) : s.explicitRequest g < 16 := by
  unfold State.explicitRequest
  dsimp only
  repeat' split
  all_goals decide

/-- The request of a group without its far end: the highest explicit one, or what follows the last. -/
def State.localRequest (s : State) (g : Nat) : Nat :=
  if s.explicitRequest g != 0 then s.explicitRequest g
  else match (s.nextAfter g (s.explicitRequest g)).1 with | .wtr _ => 5 | .dnr => 1 | .none => 0

theorem State.localRequest_lt (s : State) (g : Nat) : s.localRequest g < 16 := by
  unfold State.localRequest
  split
  · exact s.explicitRequest_lt g
  · split <;> decide

theorem State.localRequest_explicit {s : State} {g n : Nat} (h : s.explicitRequest g = n + 1) : s.localRequest g = n + 1 := by
  simp [State.localRequest, h]

@[simp] theorem State.merge_setReg (s : State) (r : Reg) (i : Nat) (v : Word) (k : Nat) : (s.setReg r i v).merge k = s.merge k := rfl

@[simp] theorem State.merge_later (s : State) (a : Keyed) (k : Nat) : (s.later a).merge k = s.merge k := rfl

/-- The group shows its request, in MG_STAT and in the APS word it sends (R359). -/
def State.showRequest (s : State) (g code : Nat) : State :=
  let s := s.wr F.MG_STAT_REQ g code
  (s.setReg .MG_APS_TX g (BitVec.ofNat 32 (s.apsWord g code))).showGroup g

@[simp] theorem State.merge_showRequest (s : State) (g code k : Nat) : (s.showRequest g code).merge k = s.merge k := by
  rw [State.showRequest, State.merge_showGroup, State.merge_setReg, State.merge_wr]

@[simp] theorem State.atBoundary_showRequest (s : State) (g code : Nat) : (s.showRequest g code).atBoundary = s.atBoundary := by
  rw [State.showRequest, State.atBoundary_showGroup, State.setReg_atBoundary, State.wr_atBoundary]

theorem State.onlyCopy_showRequest (s : State) (g code : Nat) :
    s.OnlyCopy (s.showRequest g code) g [.MG_STAT, .MG_DHELD, .MG_APS_TX] :=
  (((State.OnlyCopy.refl s g _).wr F.MG_STAT_REQ (by decide) code).setReg .MG_APS_TX (by decide) _).showGroup (by decide) (by decide)

theorem State.request_showRequest {code : Nat} (h : code < 16) (s : State) (g : Nat) :
    (s.showRequest g code).rd F.MG_STAT_REQ g = code := by
  have word := (State.OnlyCopy.refl (s.wr F.MG_STAT_REQ g code) g [.MG_APS_TX]).setReg .MG_APS_TX (by decide)
    (BitVec.ofNat 32 ((s.wr F.MG_STAT_REQ g code).apsWord g code))
  rw [State.showRequest, State.req_showGroup, word.rd_eq (by decide) (by decide) (by decide), State.rd_wr_fits rfl h]

/-- The selector has decided for A or B: in SELECT mode the change waits for the boundary. -/
def State.wantInstance (s : State) (g : Nat) (b : Bool) : State :=
  let t := s.modMerge g fun x => { x with wantB := b }
  if !t.groupMerges g && b != (s.merge g).selB && !(s.merge g).switching then
    (t.modMerge g fun x => { x with switching := true }).later (.mgSelect g)
  else t

/-- The group with the decision for A or B, and whether the change waits. -/
def MergeGroup.wanting (x : MergeGroup) (b waits : Bool) : MergeGroup := { x with wantB := b, switching := waits }

/-- The decision is kept beside the registers. -/
theorem State.onlyCopy_wantInstance (s : State) (g : Nat) (b : Bool) : s.OnlyCopy (s.wantInstance g b) g [] := by
  have decided (f : MergeGroup → MergeGroup) := (State.OnlyCopy.refl s g []).modMerge g f
  unfold State.wantInstance
  dsimp only
  split
  · exact ((decided _).modMerge g _).later _
  · exact decided _

theorem State.merge_wantInstance (s : State) (g : Nat) (b : Bool) :
    ∃ waits, (s.wantInstance g b).merge g = (s.merge g).wanting b waits := by
  unfold State.wantInstance
  dsimp only
  split
  · refine ⟨true, ?_⟩
    rw [State.merge_later, State.merge_modMerge_same, State.merge_modMerge_same, MergeGroup.wanting]
  · refine ⟨(s.merge g).switching, ?_⟩
    rw [State.merge_modMerge_same, MergeGroup.wanting]

theorem State.atBoundary_wantInstance {s : State} {g : Nat} {b : Bool} (hm : s.groupMerges g = false) (hb : b ≠ (s.merge g).selB)
    (hs : (s.merge g).switching = false) : (s.wantInstance g b).atBoundary = s.atBoundary ++ [.mgSelect g] := by
  rw [State.wantInstance, if_pos (by simp [hm, hb, hs])]
  rfl

/-- The group with what follows its request, and the code of the request that selected B (R358). -/
def MergeGroup.followedBy (x : MergeGroup) (next : MergeAfter × Nat) : MergeGroup := { x with after := next.1, cause := next.2 }

/-- Without APS a group decides for its local request and for what this selects. -/
theorem State.selectorDecides_eq {s : State} {g : Nat} (hd : s.groupDefined g = true) (ha : s.on F.MG_CFG_APS g = false) :
    s.selectorDecides g =
      ((s.modMerge g (·.followedBy (s.nextAfter g (s.explicitRequest g)))).showRequest g (s.localRequest g)).wantInstance g
        (codeSelects (s.localRequest g) (s.groupCmd g == 4)) := by
  have near (far : Bool) (f : MergeGroup → MergeGroup) : ((s.modMerge g f).on F.MG_CFG_APS g && far) = false := by
    rw [Bool.and_eq_false_iff]
    exact .inl ha
  rw [State.selectorDecides, if_neg (by simp [hd])]
  rcases hn : s.nextAfter g (s.explicitRequest g) with ⟨after, cause⟩
  simp only [near, State.wantInstance, State.showRequest, State.localRequest, hn, Bool.false_eq_true, if_false] <;> rfl

/-- A selector decides for a request: the group's registers show it, and in SELECT mode a change of what is selected waits for
the boundary. -/
structure State.Decides (s t : State) (g code : Nat) (selB : Bool) : Prop extends
    s.OnlyCopy t g [.MG_STAT, .MG_DHELD, .MG_APS_TX] where
  request : t.rd F.MG_STAT_REQ g = code
  a : (t.merge g).a = (s.merge g).a
  b : (t.merge g).b = (s.merge g).b
  after : (t.merge g).after = (s.nextAfter g (s.explicitRequest g)).1
  cause : (t.merge g).cause = (s.nextAfter g (s.explicitRequest g)).2
  want : (t.merge g).wantB = selB
  switches : s.groupMerges g = false → selB ≠ (s.merge g).selB → (s.merge g).switching = false →
    t.atBoundary = s.atBoundary ++ [.mgSelect g]

theorem State.selectorDecides_decides {s : State} {g : Nat} (hd : s.groupDefined g = true) (ha : s.on F.MG_CFG_APS g = false) :
    s.Decides (s.selectorDecides g) g (s.localRequest g) (codeSelects (s.localRequest g) (s.groupCmd g == 4)) := by
  have frame := ((State.OnlyCopy.refl s g _).modMerge g (·.followedBy (s.nextAfter g (s.explicitRequest g)))).trans
    (State.onlyCopy_showRequest _ g (s.localRequest g))
  have request := State.request_showRequest (s.localRequest_lt g) (s.modMerge g (·.followedBy (s.nextAfter g (s.explicitRequest g)))) g
  have kept : ((s.modMerge g (·.followedBy (s.nextAfter g (s.explicitRequest g)))).showRequest g (s.localRequest g)).merge g =
    (s.merge g).followedBy (s.nextAfter g (s.explicitRequest g)) := by rw [State.merge_showRequest, State.merge_modMerge_same]
  have queue : ((s.modMerge g (·.followedBy (s.nextAfter g (s.explicitRequest g)))).showRequest g (s.localRequest g)).atBoundary =
    s.atBoundary := State.atBoundary_showRequest ..
  rw [State.selectorDecides_eq hd ha]
  generalize (s.modMerge g (·.followedBy (s.nextAfter g (s.explicitRequest g)))).showRequest g (s.localRequest g) = t at *
  have decided := t.onlyCopy_wantInstance g (codeSelects (s.localRequest g) (s.groupCmd g == 4))
  obtain ⟨waits, held⟩ := t.merge_wantInstance g (codeSelects (s.localRequest g) (s.groupCmd g == 4))
  rw [kept] at held
  exact {
    toOnlyCopy := frame.trans (decided.mono (List.nil_subset _))
    request := (decided.rd_eq (by decide) (by decide) (by decide) g).trans request
    a := by rw [held]; rfl
    b := by rw [held]; rfl
    after := by rw [held]; rfl
    cause := by rw [held]; rfl
    want := by rw [held]; rfl
    switches := fun hm hb hs => by
      rw [State.atBoundary_wantInstance ((frame.groupMerges (by decide) g).trans hm) (by rwa [kept]) (by rwa [kept]), queue] }

/-! ### Requests of the conditions and of their end (R356, R358) -/

section

variable {s : State} {g : Nat}

theorem State.explicitRequest_congr {t : State} (hc : t.groupCmd g = s.groupCmd g) (ha : (t.merge g).a = (s.merge g).a)
    (hb : (t.merge g).b = (s.merge g).b) : t.explicitRequest g = s.explicitRequest g := by
  simp only [State.explicitRequest, hc, ha, hb]

theorem State.explicitRequest_sfB (hc : s.groupCmd g = 0) (hb : (s.merge g).b.sf = true) : s.explicitRequest g = 14 := by
  simp [State.explicitRequest, hc, hb]

theorem State.explicitRequest_sfA (hc : s.groupCmd g = 0) (ha : (s.merge g).a.sf = true) (hb : (s.merge g).b.sf = false) :
    s.explicitRequest g = 11 := by
  simp [State.explicitRequest, hc, ha, hb]

/-- In SELECT mode a request that selects B is kept as the cause of what follows it. -/
theorem State.nextAfter_select (hm : s.groupMerges g = false) {hi : Nat} (h0 : hi ≠ 0) (h : codeSelects hi (s.groupCmd g == 4) = true) :
    s.nextAfter g hi = (.none, hi) := by
  simp [State.nextAfter, hm, h0, h]

/-- With no request, and none to follow, nothing follows. -/
theorem State.nextAfter_none (hc : (s.merge g).cause = 0) (ha : (s.merge g).after = .none) : s.nextAfter g 0 = (.none, 0) := by
  unfold State.nextAfter
  dsimp only
  split
  · rfl
  · simp [hc, ha]

theorem State.localRequest_none (h0 : s.explicitRequest g = 0) (hc : (s.merge g).cause = 0) (ha : (s.merge g).after = .none) :
    s.localRequest g = 0 := by
  rw [State.localRequest, h0, State.nextAfter_none hc ha]
  rfl

end

/-- One of a group's instances with the requests of the conditions that have held for the hold-off time. -/
def State.heldInst (s : State) (g : Nat) (z : MergeInst) : MergeInst :=
  { z with sf := s.heldOff g z.sfSince, sd := s.heldOff g z.sdSince }

/-- The group with the requests of both instances, before its selector decides. -/
def State.heldGroup (s : State) (g : Nat) : State :=
  s.modMerge g fun x => { x with a := s.heldInst g x.a, b := s.heldInst g x.b }

theorem State.holdOffExpiry_eq {s : State} {g : Nat} (hd : s.groupDefined g = true) :
    s.holdOffExpiry g = (s.heldGroup g).selectorDecides g := if_pos hd

theorem State.merge_heldGroup (s : State) (g : Nat) : (s.heldGroup g).merge g =
    { s.merge g with a := s.heldInst g (s.merge g).a, b := s.heldInst g (s.merge g).b } := State.merge_modMerge_same ..

section

variable {s : State} {g since : Nat} (ha : (s.merge g).after = .wtr since)

include ha

theorem State.wtrExpiry_over (h : since + 60 * 312500 * clampNat 1 12 (s.cfg F.MG_CTRL_WTR g) ≤ s.now) :
    s.wtrExpiry g = (s.modMerge g fun x => { x with after := .none }).selectorDecides g := by
  simp only [State.wtrExpiry, ha, State.elapsed_of_le h, if_true]

theorem State.wtrExpiry_soon (h : s.now < since + 60 * 312500 * clampNat 1 12 (s.cfg F.MG_CTRL_WTR g)) : s.wtrExpiry g = s := by
  simp only [State.wtrExpiry, ha, State.elapsed_of_lt h, Bool.false_eq_true, if_false]

end

/-- Settles O28: a command by the one write it makes; hold-off and wait to restore by the request that the selector then decides for. -/
theorem mergeRequestsSelect : Obligations.MergeRequestsSelect := by
  refine ⟨?_, fun g s hd haps hc => ⟨fun ha hb => ?_, fun hb => ?_, fun since hw h h0 hcause => ?_, fun since hw h => ?_⟩⟩
  · rintro m g s h rfl
    have clear := State.writeCmd_takes h m (cmd := 0) (by decide)
    have lo := State.writeCmd_takes h m (cmd := 1) (by decide)
    have fs := State.writeCmd_takes h m (cmd := 2) (by decide)
    have msA := State.writeCmd_takes h m (cmd := 3) (by decide)
    have msB := State.writeCmd_takes h m (cmd := 4) (by decide)
    exact ⟨⟨_, exec_mgRealign_alone h, rfl, rfl, State.answer_reply .., rfl, rfl, rfl, rfl⟩,
      ⟨_, rfl, clear.shown, clear.merges, clear.answer, clear.regs, clear.memory⟩,
      ⟨_, rfl, lo.shown, lo.merges, lo.answer, lo.regs, lo.memory⟩,
      ⟨_, rfl, fs.shown, fs.merges, fs.answer, fs.regs, fs.memory⟩,
      ⟨_, rfl, msA.shown, fun hm => msA.uses hm rfl, msA.merges, msA.regs, msA.memory⟩,
      ⟨_, rfl, msB.shown, fun hm => msB.uses hm rfl, msB.merges, msB.regs, msB.memory⟩⟩
  · have a : ((s.heldGroup g.val).merge g.val).a.sf = true := (congrArg (·.a.sf) (s.merge_heldGroup g.val)).trans ha
    have b : ((s.heldGroup g.val).merge g.val).b.sf = false := (congrArg (·.b.sf) (s.merge_heldGroup g.val)).trans hb
    have asks := State.explicitRequest_sfA (s := s.heldGroup g.val) hc a b
    have out := State.selectorDecides_decides (s := s.heldGroup g.val) hd haps
    rw [State.localRequest_explicit asks] at out
    refine ⟨_, congrArg Host.Outcome.next (State.holdOffExpiry_eq hd), (congrArg (·.sf) out.a).trans a, (congrArg (·.sf) out.b).trans b,
      out.request, fun hm => ⟨?_, out.want⟩, fun hm hsel hsw => ?_, out.regs, out.memory⟩
    · rw [out.cause, asks, State.nextAfter_select (s := s.heldGroup g.val) hm (by decide) rfl]
    · exact out.switches hm (by simp [State.merge_heldGroup, hsel, codeSelects]) (by simpa [State.merge_heldGroup] using hsw)
  · have b : ((s.heldGroup g.val).merge g.val).b.sf = true := (congrArg (·.b.sf) (s.merge_heldGroup g.val)).trans hb
    have out := State.selectorDecides_decides (s := s.heldGroup g.val) hd haps
    rw [State.localRequest_explicit (State.explicitRequest_sfB (s := s.heldGroup g.val) hc b)] at out
    exact ⟨_, congrArg Host.Outcome.next (State.holdOffExpiry_eq hd), (congrArg (·.sf) out.b).trans b, out.request, out.regs,
      out.memory⟩
  · have kept : (s.modMerge g.val fun x => { x with after := .none }).merge g.val = { s.merge g.val with after := .none } :=
      State.merge_modMerge_same ..
    have asks : (s.modMerge g.val fun x => { x with after := .none }).explicitRequest g.val = 0 := by
      rw [← h0]
      exact State.explicitRequest_congr rfl (by rw [kept]) (by rw [kept])
    have cause := (congrArg MergeGroup.cause kept).trans hcause
    have after := congrArg MergeGroup.after kept
    have out := State.selectorDecides_decides (s := s.modMerge g.val fun x => { x with after := .none }) hd haps
    rw [State.localRequest_none asks cause after] at out
    refine ⟨_, congrArg Host.Outcome.next (State.wtrExpiry_over hw h), ?_, out.request, fun hm hsel hsw => ⟨out.want, ?_⟩, out.regs,
      out.memory⟩
    · rw [out.after, asks, State.nextAfter_none cause after]
    · exact out.switches hm (by simp [kept, hsel, codeSelects]) ((congrArg MergeGroup.switching kept).trans hsw)
  · exact congrArg Host.Outcome.next (State.wtrExpiry_soon hw h)

end Sys2Proof.Machine
end

section
/-! An image takes effect (R564, R566): the images held, what asked for the commit, the on-chip memories and the configured mode through
every function that puts an image into force, one lemma per function, in the order of the model's files; with it, O41. -/

namespace Sys2Proof.Machine

/-- What a commit places itself: the images, the commit at hand, the on-chip memories and the configured mode. -/
structure InForce where
  image : Image
  committed : Bool
  applied : Option Image
  previous : Option Image
  imageJob : ImageJob
  mem : Mem
  mode : Nat

/-- The images of a state, its commit at hand and its mode. -/
def State.inForce (s : State) : InForce := ⟨s.image, s.committed, s.applied, s.previous, s.imageJob, s.mem, s.rd F.SY_MODE_MODE 0⟩

namespace State

variable (s : State)

@[simp] theorem inForce_ite (c : Prop) [Decidable c] (t : State) :
    (if c then s else t).inForce = if c then s.inForce else t.inForce := apply_ite ..

@[simp] theorem inForce_each {α : Type} {f : State → α → State} (hf : ∀ s x, (f s x).inForce = s.inForce) (l : List α) :
    (s.each l f).inForce = s.inForce := each_keeps inForce hf l s

/-! ### Plain updates -/

@[simp] theorem inForce_with_captures (x : Table Capture) (y : Mem) : { s with captures := x, anc := y }.inForce = s.inForce := (rfl)
@[simp] theorem inForce_setBin (i j : Nat) (v : PmBin) : (s.setBin i j v).inForce = s.inForce := (rfl)
@[simp] theorem inForce_setTrain (i : Nat) (v : Train) : (s.setTrain i v).inForce = s.inForce := (rfl)
@[simp] theorem inForce_setLane (i : Nat) (v : Lane) : (s.setLane i v).inForce = s.inForce := (rfl)
@[simp] theorem inForce_setClient (i : Nat) (v : Client) : (s.setClient i v).inForce = s.inForce := (rfl)
@[simp] theorem inForce_setTideSc (i : Nat) (v : TideSc) : (s.setTideSc i v).inForce = s.inForce := (rfl)
@[simp] theorem inForce_setTideLeaf (i : Nat) (v : TideLeaf) : (s.setTideLeaf i v).inForce = s.inForce := (rfl)
@[simp] theorem inForce_setHub (i : Nat) (v : TideHub) : (s.setHub i v).inForce = s.inForce := (rfl)
@[simp] theorem inForce_setEncCtx (i : Nat) (v : EncCtx) : (s.setEncCtx i v).inForce = s.inForce := (rfl)
@[simp] theorem inForce_setStore (i : Nat) (v : Store) : (s.setStore i v).inForce = s.inForce := (rfl)
@[simp] theorem inForce_setMerge (i : Nat) (v : MergeGroup) : (s.setMerge i v).inForce = s.inForce := (rfl)
@[simp] theorem inForce_modMate (f : Mate → Mate) : (s.modMate f).inForce = s.inForce := (rfl)
@[simp] theorem inForce_modEngine (e : Nat) (f : Engine → Engine) : (s.modEngine e f).inForce = s.inForce := (rfl)
@[simp] theorem inForce_modLane (l : Nat) (f : Lane → Lane) : (s.modLane l f).inForce = s.inForce := (rfl)
@[simp] theorem inForce_modFrame (e : Nat) (f : LineFrame → LineFrame) : (s.modFrame e f).inForce = s.inForce := (rfl)
@[simp] theorem inForce_modSc (n : Nat) (f : TideSc → TideSc) : (s.modSc n f).inForce = s.inForce := (rfl)
@[simp] theorem inForce_modCtx (i : Nat) (f : EncCtx → EncCtx) : (s.modCtx i f).inForce = s.inForce := (rfl)
@[simp] theorem inForce_modCapture (e : Nat) (f : Capture → Capture) : (s.modCapture e f).inForce = s.inForce := (rfl)
@[simp] theorem inForce_modMerge (g : Nat) (f : MergeGroup → MergeGroup) : (s.modMerge g f).inForce = s.inForce := (rfl)
@[simp] theorem inForce_stopInjection (l : Nat) : (s.stopInjection l).inForce = s.inForce := (rfl)
@[simp] theorem inForce_later (k : Keyed) : (s.later k).inForce = s.inForce := (rfl)
@[simp] theorem inForce_draw : s.draw.inForce = s.inForce := (rfl)
@[simp] theorem inForce_ancWrite (a : Nat) (bytes : List Byte) : (s.ancWrite a bytes).inForce = s.inForce := (rfl)
@[simp] theorem inForce_ancForget (a n : Nat) : (s.ancForget a n).inForce = s.inForce := (rfl)
@[simp] theorem inForce_ancTouch (a n : Nat) : (s.ancTouch a n).inForce = s.inForce := (rfl)

/-! ### Registers other than SY_MODE, and events -/

@[simp] theorem inForce_setReg {r : Reg} (h : r ≠ .SY_MODE) (i : Nat) (v : Word) : (s.setReg r i v).inForce = s.inForce := by
  have mode : (s.setReg r i v).rd F.SY_MODE_MODE 0 = s.rd F.SY_MODE_MODE 0 :=
    congrArg F.SY_MODE_MODE.get ((reg_setReg ..).trans (if_neg fun e => h e.1))
  simp [inForce, mode]

@[simp] theorem inForce_wr {f : Field} (h : f.reg ≠ .SY_MODE) (i v : Nat) : (s.wr f i v).inForce = s.inForce :=
  s.inForce_setReg h i _

@[simp] theorem inForce_wrBool {f : Field} (h : f.reg ≠ .SY_MODE) (i : Nat) (b : Bool) : (s.wrBool f i b).inForce = s.inForce :=
  s.inForce_wr h i _

@[simp] theorem inForce_raise {f : Field} (h : f.reg ≠ .SY_MODE) (i : Nat) : (s.raise f i).inForce = s.inForce := by
  have mode : (s.raise f i).rd F.SY_MODE_MODE 0 = s.rd F.SY_MODE_MODE 0 := s.raise_rd f i h.symm (by decide) (by decide) 0
  simp [inForce, mode]

@[simp] theorem inForce_raiseIf {f : Field} (h : f.reg ≠ .SY_MODE) (c : Bool) (i : Nat) : (s.raiseIf c f i).inForce = s.inForce := by
  simp [raiseIf, h]

/-! ### Trains, berths and lanes -/

@[simp] theorem inForce_restartTrains (ts : List Nat) : (s.restartTrains ts).inForce = s.inForce := by
  simp +decide [restartTrains]

@[simp] theorem inForce_publishStore (p : Nat) : (s.publishStore p).inForce = s.inForce := by simp +decide [publishStore]
@[simp] theorem inForce_startStores (base n : Nat) : (s.startStores base n).inForce = s.inForce := by simp [startStores]

@[simp] theorem inForce_enterLane (l : Nat) (st : LaneState) : (s.enterLane l st).inForce = s.inForce := by
  simp +decide [enterLane]

@[simp] theorem inForce_restartLane (l : Nat) : (s.restartLane l).inForce = s.inForce := by simp +decide [restartLane]
@[simp] theorem inForce_restartQuay (q : Nat) : (s.restartQuay q).inForce = s.inForce := by simp +decide [restartQuay]
@[simp] theorem inForce_restartPort (m : Nat) : (s.restartPort m).inForce = s.inForce := by simp [restartPort]

/-! ### Line frames and engines -/

@[simp] theorem inForce_showSsf (e : Nat) : (s.showSsf e).inForce = s.inForce := by simp +decide [showSsf]
@[simp] theorem inForce_showLos (e : Nat) (los : Bool) : (s.showLos e los).inForce = s.inForce := by simp +decide [showLos]
@[simp] theorem inForce_setOof (e : Nat) (b : Bool) : (s.setOof e b).inForce = s.inForce := by simp +decide [setOof]
@[simp] theorem inForce_dropUnit (e : Nat) : (s.dropUnit e).inForce = s.inForce := by simp [dropUnit]
@[simp] theorem inForce_dropFrame (e : Nat) : (s.dropFrame e).inForce = s.inForce := by simp [dropFrame]
@[simp] theorem inForce_light (e : Nat) : (s.light e).inForce = s.inForce := by simp +decide [light]
@[simp] theorem inForce_darken (e : Nat) : (s.darken e).inForce = s.inForce := by simp +decide [darken]

@[simp] theorem inForce_followRequest (e : Nat) : (s.followRequest e).inForce = s.inForce := by
  unfold followRequest
  split
  · rfl
  · split <;> simp +decide

@[simp] theorem inForce_showHolds (e : Nat) : (s.showHolds e).inForce = s.inForce := by simp +decide [showHolds]

@[simp] theorem inForce_holdChanged (e : Nat) (f : Engine → Engine) : (s.holdChanged e f).inForce = s.inForce := by
  simp [holdChanged]

@[simp] theorem inForce_enterRx (e st : Nat) : (s.enterRx e st).inForce = s.inForce := by simp +decide [enterRx]
@[simp] theorem inForce_clearLocks (e : Nat) : (s.clearLocks e).inForce = s.inForce := by simp +decide [clearLocks]
@[simp] theorem inForce_startInLos (e : Nat) : (s.startInLos e).inForce = s.inForce := by simp [startInLos]
@[simp] theorem inForce_engineClassT (e : Nat) : (s.engineClassT e).inForce = s.inForce := by simp [engineClassT]

/-! ### Encryption, Tide and Breakwater merge -/

@[simp] theorem inForce_showAis (i : Nat) : (s.showAis i).inForce = s.inForce := by simp +decide [showAis]

@[simp] theorem inForce_applyBlock (i : Nat) (report : Bool) : (s.applyBlock i report).inForce = s.inForce := by
  simp +decide [applyBlock]

@[simp] theorem inForce_startCtx (i : Nat) : (s.startCtx i).inForce = s.inForce := by simp +decide [startCtx]

@[simp] theorem inForce_setChange (i : Nat) (c : Option (Nat × Tick)) : (s.setChange i c).inForce = s.inForce := by
  simp +decide [setChange]

@[simp] theorem inForce_setKey (i phase : Nat) (k : Option (List Word)) : (s.setKey i phase k).inForce = s.inForce := by
  simp +decide [setKey]

@[simp] theorem inForce_restartContexts (e : Nat) : (s.restartContexts e).inForce = s.inForce := by
  simp [restartContexts, startReceive]

@[simp] theorem inForce_showLimit (n : Nat) : (s.showLimit n).inForce = s.inForce := by simp +decide [showLimit]
@[simp] theorem inForce_startTol (e : Nat) : (s.startTol e).inForce = s.inForce := by simp +decide [startTol]
@[simp] theorem inForce_showGroup (g : Nat) : (s.showGroup g).inForce = s.inForce := by simp +decide [showGroup]

@[simp] theorem inForce_enterMerge (g : Nat) (st : MergeState) : (s.enterMerge g st).inForce = s.inForce := by
  simp +decide [enterMerge]

@[simp] theorem inForce_restartGroup (g : Nat) : (s.restartGroup g).inForce = s.inForce := by simp +decide [restartGroup]

/-! ### Captures and performance bins -/

@[simp] theorem inForce_showCapture (e : Nat) : (s.showCapture e).inForce = s.inForce := by
  unfold showCapture
  dsimp only
  split <;> simp +decide

@[simp] theorem inForce_nextSlot (e i : Nat) : (s.nextSlot e i).inForce = s.inForce := by
  unfold nextSlot
  dsimp only
  (repeat' split) <;> simp

@[simp] theorem inForce_closeSlot (e : Nat) (cut : Bool) (ns strig : Nat) : (s.closeSlot e cut ns strig).inForce = s.inForce := by
  unfold closeSlot
  dsimp only
  (repeat' split) <;> simp +decide

@[simp] theorem inForce_cutCapture (e : Nat) (armed : Bool) : (s.cutCapture e armed).inForce = s.inForce := by simp [cutCapture]

@[simp] theorem inForce_closeBin (x kind : Nat) (y : PmEntity) : (s.closeBin x kind y).inForce = s.inForce := by
  unfold closeBin
  dsimp only
  (repeat' split) <;> simp

@[simp] theorem inForce_closeBins : s.closeBins.inForce = s.inForce := by simp [closeBins]
@[simp] theorem inForce_showPm : s.showPm.inForce = s.inForce := by simp +decide [showPm, leafBit]

/-! ### Resources of an image -/

@[simp] theorem inForce_setFormat (e n k : Nat) : (s.setFormat e n k).inForce = s.inForce := by simp +decide [setFormat]

@[simp] theorem inForce_setResource (im : Image) (x : Resource) : (s.setResource im x).inForce = s.inForce := by
  cases x with
  | lane l => simp +decide [setResource]
  | quay q => simp +decide [setResource]
  | engine e =>
    unfold setResource
    dsimp only
    (repeat' split) <;> simp +decide
  | group g =>
    unfold setResource
    dsimp only
    split
    · simp +decide
    · exact ((inForce_setReg _ (by decide) ..).trans (inForce_setReg _ (by decide) ..)).trans
        ((inForce_setReg _ (by decide) ..).trans (inForce_setReg _ (by decide) ..))
  | port m => rfl

@[simp] theorem inForce_restartEngine (e : Nat) : (s.restartEngine e).inForce = s.inForce := by simp [restartEngine]
@[simp] theorem inForce_restartResource (x : Resource) : (s.restartResource x).inForce = s.inForce := by cases x <;> simp [restartResource]
@[simp] theorem inForce_setModeHolds (im : Image) : (s.setModeHolds im).inForce = s.inForce := by simp [setModeHolds]
@[simp] theorem inForce_classX (old im : Image) : (s.classX old im).inForce = s.inForce := by simp +decide [classX, setDevState]
@[simp] theorem inForce_setContexts (old im : Image) : (s.setContexts old im).inForce = s.inForce := by simp +decide [setContexts]

@[simp] theorem inForce_loadKeys (im : Image) : (s.loadKeys im).inForce = s.inForce := by simp +decide [loadKeys, leafBit]

@[simp] theorem inForce_setApplets (old im : Image) (all : Bool) : (s.setApplets old im all).inForce = s.inForce := by
  refine inForce_each s (fun t k => ?_) _
  dsimp only
  split <;> simp +decide

@[simp] theorem inForce_roleErrors : s.roleErrors.inForce = s.inForce := by
  refine inForce_each s (fun t e => ?_) _
  split
  · split <;> simp +decide
  · rfl

/-- The registers that the whole device shares take the mode of the image (R566). -/
@[simp] theorem inForce_setShared (old im : Image) (first : Bool) :
    (s.setShared old im first).inForce = (s.wr F.SY_MODE_MODE 0 im.mode).inForce := by
  unfold setShared
  dsimp only
  (repeat' split) <;> simp +decide

/-- An image without REGINIT records writes no register through them (R545). -/
theorem regInits_of_nil {im : Image} (h : im.regInit = []) (wanted : Reg → Nat → Bool) : s.regInits im wanted = s := by
  simp [regInits, h]

/-! ### The commit -/

/-- The image in place of the one before it, which is kept as PREVIOUS (R564). -/
def holdImage (im old : Image) (first : Bool) : State :=
  { s with image := im, previous := if first then none else some old, applied := none, committed := true }

/-- Registers that become active at the boundary. -/
def activate : State := { s with act := s.regs }

@[simp] theorem inForce_activate : s.activate.inForce = s.inForce := (rfl)

@[simp] theorem inForce_holdImage (im old : Image) (first : Bool) :
    (s.holdImage im old first).inForce =
      { s.inForce with image := im, previous := if first then none else some old, applied := none, committed := true } := (rfl)

theorem inForce_wr_mode (v : Nat) :
    (s.wr F.SY_MODE_MODE 0 v).inForce = { s.inForce with mode := v % 2 ^ F.SY_MODE_MODE.width } := by
  simp [inForce, rd_wr (f := F.SY_MODE_MODE) rfl]

/-- The image is held, its registers are written, and everything that restarts under it restarts (R566, R32 to R34). -/
theorem enforce_eq (im : Image) (restart : Bool) :
    let old := s.image
    let first := !s.committed
    let crossing := !first && im.restartsFrom old
    let every := first || crossing || restart || (im.mode == 0 && old.mode != 0)
    let held := (if crossing then s.closeBins else s).holdImage im old first
    let set := ((held.each (changedResources old im true) fun s r => s.setResource im r).setShared old im first).setModeHolds im
    let began := (if crossing then set.classX old im else set).regInits im fun _ _ => true
    let again := (((began.each (changedResources old im every) restartResource).setContexts old im).loadKeys im).setApplets old im every
    s.enforce im restart = ((again.roleErrors.showPm).wr F.SY_IMG_DIGEST_D 0 (digestWord im.digest)).activate := rfl

/-- The image is in force: the one before it is kept as PREVIOUS, none is APPLIED, and the mode is configured (R566). -/
theorem inForce_enforce {im : Image} (h : im.regInit = []) (restart : Bool) :
    (s.enforce im restart).inForce =
      { s.inForce with
        image := im, committed := true, applied := none, previous := if s.committed then some s.image else none
        mode := im.mode % 2 ^ F.SY_MODE_MODE.width } := by
  rw [enforce_eq]
  simp +decide [regInits_of_nil, h, inForce_wr_mode]
  cases s.committed <;> rfl

theorem imageCommit_of_applied {im : Image} (hi : s.imgState = 5) (hd : s.tick = s.imageJob.due)
    (hg : s.on F.GRID_SWAP_STAT_ARMED 0 = false) (ha : s.applied = some im) :
    s.imageCommit = if s.swap.switchedAt == some s.now then (s.enforce im false).commitEnds im else s.dropApply.imgResult 7 := by
  simp [imageCommit, hi, hd, hg, ha]

/-- The swap registers after a commit: released, or kept by an open domain commit. -/
def releaseSwap (keep : Bool) : State :=
  s.modSwap fun x => { x with holder := if keep then .domain else .nobody, locked := x.locked && keep }

/-- The commit is noted and shown (R565). -/
def noteCommit : State := { s with imageJob := { s.imageJob with doneAt := some s.tick } }.imgEvent 0

theorem commitEnds_eq (im : Image) :
    let t := (s.releaseSwap (s.imageJob.domain && s.domain.isSome)).noteCommit
    s.commitEnds im = if t.imageJob.persist && t.imageJob.src ≤ 1 then (t.startRecord t.imageJob.src im).imgResult 0
      else (t.setImgState 0).imgResult 1 := rfl

@[simp] theorem imageJob_noteCommit : s.noteCommit.imageJob = { s.imageJob with doneAt := some s.tick } := raise_imageJob ..

@[simp] theorem inForce_noteCommit : s.noteCommit.inForce = { s.inForce with imageJob := s.noteCommit.imageJob } := by
  rw [imageJob_noteCommit]
  exact inForce_raise _ (by decide) 0

@[simp] theorem imageJob_releaseSwap (keep : Bool) : (s.releaseSwap keep).imageJob = s.imageJob := (rfl)
@[simp] theorem inForce_releaseSwap (keep : Bool) : (s.releaseSwap keep).inForce = s.inForce := (rfl)
@[simp] theorem inForce_setImgState (n : Nat) : (s.setImgState n).inForce = s.inForce := inForce_wr s (by decide) 0 n
@[simp] theorem inForce_imgResult (n : Nat) : (s.imgResult n).inForce = s.inForce := inForce_wr s (by decide) 0 n

/-- The record that the commit has asked for is started (R557). -/
@[simp] theorem inForce_startRecord (slot : Nat) (im : Image) :
    (s.startRecord slot im).inForce = { s.inForce with imageJob := (s.startRecord slot im).imageJob } := by
  rw [← s.inForce_setImgState 6]
  rfl

@[simp] theorem imageJob_imgResult (n : Nat) : (s.imgResult n).imageJob = s.imageJob := (rfl)
@[simp] theorem imageJob_setImgState (n : Nat) : (s.setImgState n).imageJob = s.imageJob := (rfl)

/-- What follows the image keeps the images, the mode and the memories (R565 to R568). -/
theorem inForce_commitEnds (im : Image) :
    (s.commitEnds im).inForce = { s.inForce with imageJob := (s.commitEnds im).imageJob } := by
  rw [commitEnds_eq]
  dsimp only
  split <;> simp

@[simp] theorem imgState_imgResult (n : Nat) : (s.imgResult n).imgState = s.imgState := rd_wr_apart rfl ..

theorem imgState_setImgState {n : Nat} (h : n < 2 ^ F.SY_IMG_STAT_STATE.width) : (s.setImgState n).imgState = n := rd_wr_fits rfl h ..

theorem imgState_startRecord (slot : Nat) (im : Image) : (s.startRecord slot im).imgState = 6 := s.imgState_setImgState (by decide)

/-- It goes on with the record where one is asked for (R565, R557). -/
theorem imgState_commitEnds (im : Image) :
    (s.commitEnds im).imgState = if s.imageJob.persist = true ∧ s.imageJob.src ≤ 1 then 6 else 0 := by
  rw [commitEnds_eq]
  simp only [imageJob_noteCommit, imageJob_releaseSwap, Bool.and_eq_true, decide_eq_true_eq]
  split
  · rw [imgState_imgResult, imgState_startRecord]
  · rw [imgState_imgResult, imgState_setImgState _ (by decide)]

theorem shown_commitEnds (im : Image) : (s.commitEnds im).on (leafBit .SY_IMG_STICKY 0) 0 = true := by
  have shown (t : State) : t.noteCommit.on (leafBit .SY_IMG_STICKY 0) 0 = true := on_raise rfl rfl (by decide) (by decide) _ 0
  have kept (t : State) (n r : Nat) : ((t.setImgState n).imgResult r).on (leafBit .SY_IMG_STICKY 0) 0 = t.on (leafBit .SY_IMG_STICKY 0) 0 := by
    rw [on, imgResult, rd_wr_apart rfl, setImgState, rd_wr_apart rfl, on]
  rw [commitEnds_eq]
  split
  · exact (kept _ 6 0).trans (shown _)
  · exact (kept _ 0 1).trans (shown _)

/-! ### A swap that was missed -/

theorem dropApply_result (n : Nat) : s.OnlyAt (s.dropApply.imgResult n) 0 [.SY_IMG_STAT] ∧ s.SameMemory (s.dropApply.imgResult n) :=
  ⟨(((onlyAt_of_regs rfl 0 _ : s.OnlyAt (s.modSwap _) 0 _).wr F.SY_IMG_STAT_STATE (by decide) 0).congr rfl).wr F.SY_IMG_STAT_RESULT
    (by decide) n, rfl, rfl, rfl, rfl⟩

end State

/-- Settles O41: at N the image of the switched swap is put into force and the commit ends; a missed swap drops it. -/
theorem imageCommitsAtItsBoundary : Obligations.ImageCommitsAtItsBoundary := by
  refine ⟨fun im s hi hd hg ha => ⟨fun switched plain => ⟨_, rfl, ?_⟩, fun missed => ⟨_, rfl, ?_⟩⟩, fun s h => ?_⟩
  · rw [s.imageCommit_of_applied hi hd hg ha, if_pos (beq_iff_eq.2 switched)]
    have view := (s.enforce im false).inForce_commitEnds im
    rw [s.inForce_enforce plain false] at view
    have job : (s.enforce im false).imageJob = s.imageJob := congrArg InForce.imageJob (s.inForce_enforce plain false)
    refine ⟨congrArg InForce.image view, congrArg InForce.committed view, congrArg InForce.applied view, congrArg InForce.previous view,
      congrArg InForce.mode view, ?_, State.shown_commitEnds .., congrArg InForce.mem view⟩
    rw [State.imgState_commitEnds, job]
  · rw [s.imageCommit_of_applied hi hd hg ha, if_neg (by simpa using missed)]
    obtain ⟨frame, memory⟩ := s.dropApply_result 7
    exact ⟨(State.imgState_imgResult ..).trans (State.imgState_setImgState _ (by decide)), State.rd_wr_fits rfl (by decide) .., rfl, rfl, rfl,
      rfl, frame, memory⟩
  · refine congrArg Host.Outcome.next (if_pos ?_)
    rcases h with h | h <;> simp [h]

end Sys2Proof.Machine
end

section
/-! A step runs the command at the front of the queue, and none stops the block (O56). -/

namespace Sys2Proof.Machine

/-- Every command answers a next state: the specification gives the block no stop. -/
theorem exec_goes (c : Instr) (s : State) : ∃ t, exec c s = .next t := by
  cases c <;> exact ⟨_, rfl⟩

theorem step_cons {s : State} {c : Instr} {rest : List Instr} (h : s.pending = c :: rest) :
    step s = exec c { s with pending := rest } := by
  rw [step, h]

theorem step_nil {s : State} (h : s.pending = []) : step s = .next s := by
  rw [step, h]

/-- Settles O56: the queue's front decides which command runs, and every command answers a next state. -/
theorem stepRunsTheCommandAtTheFront : Obligations.StepRunsTheCommandAtTheFront := by
  refine ⟨fun c s => step_cons rfl, fun c rest s h => step_cons h, fun s h => step_nil h, fun s => ?_⟩
  unfold State.Goes
  cases h : s.pending with
  | nil => exact ⟨s, step_nil h⟩
  | cons c rest => rw [step_cons h]; exact exec_goes c _

end Sys2Proof.Machine
end

section
/-! Frames of the remaining commands: beside a list of registers, in one copy or in all, no register and no memory differs. -/

namespace Sys2Proof.Machine

/-- What a frame speaks of: the registers and the memories. -/
structure Stored where
  regs : Table Word
  mem : Mem
  anc : Mem
  badWords : List Nat
  ancBad : List Nat

/-- The registers and memories of a state. -/
def State.stored (s : State) : Stored := ⟨s.regs, s.mem, s.anc, s.badWords, s.ancBad⟩

theorem State.regs_of_stored {s t : State} (h : t.stored = s.stored) : t.regs = s.regs := congrArg Stored.regs h

theorem State.sameMemory_of_stored {s t : State} (h : t.stored = s.stored) : s.SameMemory t :=
  ⟨congrArg Stored.mem h, congrArg Stored.anc h, congrArg Stored.badWords h, congrArg Stored.ancBad h⟩

@[simp] theorem State.stored_ite (s t : State) (c : Prop) [Decidable c] : (if c then s else t).stored = if c then s.stored else t.stored :=
  apply_ite ..

@[simp] theorem State.stored_reply (s : State) (m : Initiator) (a : Answer) : (s.reply m a).stored = s.stored := (rfl)
@[simp] theorem State.stored_send (s : State) (o : Out) : (s.send o).stored = s.stored := (rfl)
@[simp] theorem State.stored_later (s : State) (k : Keyed) : (s.later k).stored = s.stored := (rfl)

theorem State.stored_each (s : State) {α : Type} {f : State → α → State} (hf : ∀ s x, (f s x).stored = s.stored) (l : List α) :
    (s.each l f).stored = s.stored := State.each_keeps State.stored hf l s

/-- Beside the registers listed, and what the event unit takes, no register and no memory differs. -/
structure State.Within (s t : State) (rs : List Reg) : Prop where
  regs : s.OnlyRegs t rs
  memory : s.SameMemory t

namespace State.Within

variable {s t u : State} {rs qs : List Reg}

theorem refl (s : State) (rs : List Reg) : s.Within s rs := ⟨State.onlyRegs_refl s rs, s.sameMemory_refl⟩

theorem trans (h : s.Within t rs) (k : t.Within u rs) : s.Within u rs := ⟨h.regs.trans k.regs, h.memory.trans k.memory⟩

theorem mono (h : s.Within t rs) (hs : rs ⊆ qs) : s.Within t qs := ⟨h.regs.mono hs, h.memory⟩

/-- An update beside the registers and the memories. -/
theorem plain (h : s.Within t rs) (hu : u.stored = t.stored) : s.Within u rs :=
  h.trans ⟨State.onlyRegs_of_regs (State.regs_of_stored hu) rs, State.sameMemory_of_stored hu⟩

theorem wr (h : s.Within t rs) (f : Field) (hf : f.reg ∈ rs) (i v : Nat) : s.Within (t.wr f i v) rs :=
  h.trans ⟨(State.onlyAt_wr t hf i v).onlyRegs, t.sameMemory_refl⟩

theorem wrBool (h : s.Within t rs) (f : Field) (hf : f.reg ∈ rs) (i : Nat) (b : Bool) : s.Within (t.wrBool f i b) rs := h.wr f hf i _

theorem incWrap (h : s.Within t rs) (f : Field) (hf : f.reg ∈ rs) (i n : Nat) : s.Within (t.incWrap f i n) rs := h.wr f hf i _

theorem incSat (h : s.Within t rs) (f : Field) (hf : f.reg ∈ rs) (i n : Nat) : s.Within (t.incSat f i n) rs := h.wr f hf i _

theorem setReg (h : s.Within t rs) (r : Reg) (hr : r ∈ rs) (i : Nat) (v : Word) : s.Within (t.setReg r i v) rs :=
  h.trans ⟨(State.onlyAt_setReg t hr i v).onlyRegs, t.sameMemory_refl⟩

theorem raise (h : s.Within t rs) (f : Field) (hf : f.reg ∈ rs) (i : Nat) : s.Within (t.raise f i) rs :=
  h.trans ⟨(State.onlyAt_raise t hf i).onlyRegs, t.raise_sameMemory f i⟩

theorem raiseIf (h : s.Within t rs) (c : Bool) (f : Field) (hf : f.reg ∈ rs) (i : Nat) : s.Within (t.raiseIf c f i) rs := by
  cases c
  · exact h
  · exact h.raise f hf i

theorem reply (h : s.Within t rs) (m : Initiator) (a : Answer) : s.Within (t.reply m a) rs := h.plain rfl

theorem send (h : s.Within t rs) (o : Out) : s.Within (t.send o) rs := h.plain rfl

theorem later (h : s.Within t rs) (k : Keyed) : s.Within (t.later k) rs := h.plain rfl

theorem ite {c : Prop} [Decidable c] (h : s.Within t rs) (k : s.Within u rs) : s.Within (if c then t else u) rs := by
  split
  · exact h
  · exact k

theorem each (h : s.Within t rs) {α : Type} {f : State → α → State} (hf : ∀ {u : State} x, s.Within u rs → s.Within (f u x) rs)
    (l : List α) : s.Within (t.each l f) rs := by
  induction l generalizing t with
  | nil => exact h
  | cons x l ih => exact ih (hf x h)

end State.Within

namespace State.OnlyCopy

variable {s t u : State} {i : Nat} {rs : List Reg}

theorem within (h : s.OnlyCopy t i rs) : s.Within t rs := ⟨h.regs.onlyRegs, h.memory⟩

/-- An update beside the registers and the memories. -/
theorem plain (h : s.OnlyCopy t i rs) (hu : u.stored = t.stored) : s.OnlyCopy u i rs :=
  h.trans ⟨State.onlyAt_of_regs (State.regs_of_stored hu) i rs, State.sameMemory_of_stored hu⟩

theorem wrBool (h : s.OnlyCopy t i rs) (f : Field) (hf : f.reg ∈ rs) (b : Bool) : s.OnlyCopy (t.wrBool f i b) i rs := h.wr f hf _

theorem ite {c : Prop} [Decidable c] (h : s.OnlyCopy t i rs) (k : s.OnlyCopy u i rs) : s.OnlyCopy (if c then t else u) i rs := by
  split
  · exact h
  · exact k

end State.OnlyCopy

theorem State.rd_setReg_ne {r : Reg} {f : Field} (h : r ≠ f.reg) (s : State) (i : Nat) (v : Word) (j : Nat) :
    (s.setReg r i v).rd f j = s.rd f j := congrArg f.get ((State.reg_setReg ..).trans (if_neg fun e => h e.1))

/-- An event leaves the other registers alone, whether it is raised or not. -/
theorem State.raiseIf_reg_ne {q : Reg} {f : Field} (h : q ≠ f.reg) (h1 : q ≠ .EV_STICKY) (h2 : q ≠ .EV_SRC_CNT) (s : State) (c : Bool)
    (i j : Nat) : (s.raiseIf c f i).reg q j = s.reg q j := by
  cases c
  · rfl
  · exact s.raise_reg f i h h1 h2 j

theorem State.rd_congr {s t : State} (h : t.regs = s.regs) (f : Field) (i : Nat) : t.rd f i = s.rd f i :=
  congrArg f.get (State.reg_congr h f.reg i)

theorem unsigned_lt (w : Nat) (z : Int) : unsigned w z < 2 ^ w := by
  have pos : (0 : Int) < (2 ^ w : Nat) := by positivity
  have lt := Int.emod_lt_of_pos z pos
  have nonneg := Int.emod_nonneg z pos.ne'
  rw [unsigned]
  omega

end Sys2Proof.Machine
end

section
/-! References, frequency DPLLs and TICK_IN (O29). -/

namespace Sys2Proof.Machine

namespace State

variable {s : State} {r : Nat}

/-! ### References (R367) -/

@[simp] theorem rd_setTimeRef (s : State) (r : Nat) (x : TimeRef) (f : Field) (i : Nat) : (s.setTimeRef r x).rd f i = s.rd f i := (rfl)
@[simp] theorem reg_setTimeRef (s : State) (r : Nat) (x : TimeRef) (q : Reg) (i : Nat) : (s.setTimeRef r x).reg q i = s.reg q i := (rfl)
@[simp] theorem timeRef_wr (s : State) (f : Field) (i v k : Nat) : (s.wr f i v).timeRef k = s.timeRef k := (rfl)

@[simp] theorem timeRef_raise (s : State) (f : Field) (i k : Nat) : (s.raise f i).timeRef k = s.timeRef k := by
  rw [timeRef, raise_refs, ← timeRef]

@[simp] theorem timeRef_raiseIf (s : State) (c : Bool) (f : Field) (i k : Nat) : (s.raiseIf c f i).timeRef k = s.timeRef k := by
  rw [timeRef, raiseIf_refs, ← timeRef]

/-- A disqualified reference: not qualified, with no time free of conditions, and reported if it was qualified. -/
theorem qual_disqualify (s : State) (r : Nat) : (s.disqualify r).on F.TM_REF_STAT_QUAL r = false := by
  simp +decide [disqualify, on, rd_wr, rd_raiseIf_apart]

theorem timeRef_disqualify (s : State) (r : Nat) : (s.disqualify r).timeRef r = {} := by simp [disqualify]

theorem los_disqualify (s : State) (r : Nat) : (s.disqualify r).on F.TM_REF_STAT_LOS r = s.on F.TM_REF_STAT_LOS r := by
  simp +decide [disqualify, on, rd_wr_apart, rd_raiseIf_apart]

theorem disq_disqualify (h : s.on F.TM_REF_STAT_QUAL r = true) : (s.disqualify r).on F.TM_STICKY_REF_DISQ 0 = true := by
  rw [disqualify, h]
  exact on_raise rfl rfl (by decide) (by decide) ..

theorem disqualify_other (s : State) {i : Nat} (h : i ≠ r) : (s.disqualify r).reg .TM_REF_STAT i = s.reg .TM_REF_STAT i := by
  rw [disqualify, raiseIf_reg_ne (by decide) (by decide) (by decide), reg_setTimeRef, reg_wr_ne (.inr h.symm)]

theorem Within.setTimeRef {t : State} {rs : List Reg} (h : s.Within t rs) (r : Nat) (x : TimeRef) : s.Within (t.setTimeRef r x) rs :=
  h.plain rfl

theorem disqualify_within (s : State) (r : Nat) : s.Within (s.disqualify r) [.TM_REF_STAT, .TM_STICKY] :=
  (((Within.refl s [.TM_REF_STAT, .TM_STICKY]).wr F.TM_REF_STAT_QUAL (by decide) r 0).setTimeRef r _).raiseIf _ F.TM_STICKY_REF_DISQ
    (by decide) 0

/-- Loss of signal at a reference whose monitor runs. -/
theorem refLos_lost (hr : s.refRuns r = true) (h : s.on F.TM_REF_STAT_LOS r = false) :
    s.refLos r = ((s.wr F.TM_REF_STAT_LOS r 1).disqualify r).raise F.TM_STICKY_REF_LOS 0 := if_neg (by simp [hr, h])

theorem refLos_again (h : s.on F.TM_REF_STAT_LOS r = true) : s.refLos r = s := if_pos (by simp [h])

/-- The offset of a window is published, and the clock has edges again. -/
def publishOffset (s : State) (r : Nat) (offset : Int) : State :=
  (s.wr F.TM_REF_STAT_FOFS r (unsigned 16 (clampInt (-32768) 32767 offset))).wr F.TM_REF_STAT_LOS r 0

theorem publishOffset_frame (s : State) (r : Nat) (offset : Int) : s.OnlyCopy (s.publishOffset r offset) r [.TM_REF_STAT] :=
  ((OnlyCopy.refl s r _).wr F.TM_REF_STAT_FOFS (by decide) _).wr F.TM_REF_STAT_LOS (by decide) 0

theorem refWindow_runs (hr : s.refRuns r = true) (offset : Int) :
    s.refWindow r offset =
      if 20 * s.cfg F.TM_REF_CFG_FMAX r < offset.natAbs then (s.publishOffset r offset).disqualify r
      else if (s.timeRef r).goodSince.isNone then (s.publishOffset r offset).setTimeRef r { goodSince := some s.now }
      else s.publishOffset r offset := by
  rw [refWindow, if_neg (by simp [hr])]
  rfl

/-- An offset within FMAX leaves the qualification as it is, and the time without a condition goes on or begins (R367). -/
theorem refWindow_within (hr : s.refRuns r = true) {offset : Int} (h : offset.natAbs ≤ 20 * s.cfg F.TM_REF_CFG_FMAX r) :
    (s.refWindow r offset).stored = (s.publishOffset r offset).stored ∧
      ((s.refWindow r offset).timeRef r).goodSince = some ((s.timeRef r).goodSince.getD s.now) := by
  rw [refWindow_runs hr, if_neg (Nat.not_lt.2 h)]
  cases hg : (s.timeRef r).goodSince with
  | none => exact ⟨rfl, by simp⟩
  | some n => exact ⟨rfl, by simpa [publishOffset] using hg⟩

/-! ### DPLLs and TICK_IN (R372, R376) -/

@[simp] theorem rd_with_gridPll (s : State) (x : FreqPll) (f : Field) (i : Nat) : { s with gridPll := x }.rd f i = s.rd f i := (rfl)
@[simp] theorem rd_with_outPll (s : State) (x : FreqPll) (f : Field) (i : Nat) : { s with outPll := x }.rd f i = s.rd f i := (rfl)

theorem dpllLocked_grid {ticks : Nat} (h : s.rd F.TM_GD_STAT_STATE 0 = 1) (ht : 3125000 ≤ ticks) :
    s.dpllLocked false ticks = { s.wr F.TM_GD_STAT_STATE 0 2 with gridPll := { s.gridPll with everLocked := true } } := by
  rw [dpllLocked]
  simp [h, ht]

theorem dpllLocked_out {ticks : Nat} (h : s.rd F.TM_OD_STAT_STATE 0 = 1) (ht : 3125000 ≤ ticks) :
    s.dpllLocked true ticks = { s.wr F.TM_OD_STAT_STATE 0 2 with outPll := { s.outPll with everLocked := true } } := by
  rw [dpllLocked]
  simp [h, ht]

theorem dpllLocked_soon (output : Bool) {ticks : Nat} (ht : ticks < 3125000) : s.dpllLocked output ticks = s := if_pos (by simp [ht])

end State

/-- Settles O29: loss and offset at a reference by way of `disqualify`, then the loops. -/
theorem referencesQualifyAndLoopsLock : Obligations.ReferencesQualifyAndLoopsLock := by
  refine ⟨fun r s hr => ⟨fun h => ?_, fun h => ?_, fun offset h => ?_, fun offset h => ?_, fun since hg hl => ⟨fun h => ?_, fun h => ?_⟩⟩,
    fun ticks s => ⟨fun h ht => ?_, fun h ht => ?_, fun output ht => ?_⟩, fun phase s => ⟨fun h1 h2 => ?_, fun h => ?_⟩⟩
  · refine ⟨_, congrArg Host.Outcome.next (State.refLos_lost hr h), ?_, ?_, ?_, State.on_raise rfl rfl (by decide) (by decide) .., ?_, ?_, ?_⟩
    · rw [State.on_raise_ne (by decide) (by decide) (by decide), State.los_disqualify, State.on, State.rd_wr rfl]
      rfl
    · rw [State.on_raise_ne (by decide) (by decide) (by decide), State.qual_disqualify]
    · rw [State.timeRef_raise, State.timeRef_disqualify]
    · intro hq
      have was : (s.wr F.TM_REF_STAT_LOS r.val 1).on F.TM_REF_STAT_QUAL r.val = true := by rwa [State.on, State.rd_wr_apart rfl]
      rw [State.on, State.rd_raise_apart rfl (by decide) (by decide), ← State.on, State.disq_disqualify was]
    · intro i hi
      rw [State.raise_reg _ _ _ (by decide) (by decide) (by decide), State.disqualify_other _ hi, State.reg_wr_ne (.inr hi.symm)]
    · have frame := (((State.Within.refl s _).wr F.TM_REF_STAT_LOS (by decide) r.val 1).trans (State.disqualify_within _ r.val)).raise
        F.TM_STICKY_REF_LOS (by decide) 0
      exact ⟨frame.regs, frame.memory⟩
  · exact congrArg Host.Outcome.next (State.refLos_again h)
  · obtain ⟨stored, good⟩ := State.refWindow_within hr h
    have frame := (s.publishOffset_frame r.val offset).plain stored
    have kept (f : Field) := State.rd_congr (State.regs_of_stored stored) f r.val
    refine ⟨_, rfl, ?_, ?_, ?_, good, frame.regs, frame.memory⟩
    · rw [State.on, kept, State.publishOffset, State.rd_wr rfl]
      rfl
    · rw [kept, State.publishOffset, State.rd_wr_apart rfl, State.rd_wr_fits rfl (unsigned_lt 16 _)]
    · rw [kept, State.publishOffset, State.rd_wr_apart rfl, State.rd_wr_apart rfl]
  · have frame := ((s.publishOffset_frame r.val offset).within.mono (by decide)).trans (State.disqualify_within _ r.val)
    refine ⟨_, congrArg Host.Outcome.next ((State.refWindow_runs hr offset).trans (if_pos h)), State.qual_disqualify .., ?_,
      frame.regs, frame.memory⟩
    rw [State.timeRef_disqualify]
  · have frame := (State.OnlyCopy.refl s r.val [.TM_REF_STAT]).wr F.TM_REF_STAT_QUAL (by decide) 1
    have due : s.refQualify r.val = s.wr F.TM_REF_STAT_QUAL r.val 1 := by simp [State.refQualify, hg, hr, hl, State.elapsed, h]
    exact ⟨_, congrArg Host.Outcome.next due, State.on_wr rfl rfl s r.val true, frame.regs, frame.memory⟩
  · have early : s.refQualify r.val = s := by simp [State.refQualify, hg, State.elapsed, h]
    exact congrArg Host.Outcome.next early
  · rw [exec, execDpllLocked, State.dpllLocked_grid h ht]
    have frame := (State.OnlyCopy.refl s 0 [.TM_GD_STAT]).wr F.TM_GD_STAT_STATE (by decide) 2
    exact ⟨_, rfl, (State.rd_with_gridPll ..).trans (State.rd_wr_fits rfl (by decide) ..), rfl, rfl, frame.regs.congr rfl, frame.memory⟩
  · rw [exec, execDpllLocked, State.dpllLocked_out h ht]
    have frame := (State.OnlyCopy.refl s 0 [.TM_OD_STAT]).wr F.TM_OD_STAT_STATE (by decide) 2
    exact ⟨_, rfl, (State.rd_with_outPll ..).trans (State.rd_wr_fits rfl (by decide) ..), rfl, rfl, frame.regs.congr rfl, frame.memory⟩
  · exact congrArg Host.Outcome.next (State.dpllLocked_soon output ht)
  · exact ⟨_, congrArg Host.Outcome.next (if_pos (by simp [h1, h2])), rfl, rfl, rfl, rfl, rfl, rfl, rfl, rfl⟩
  · exact congrArg Host.Outcome.next (if_neg (by simp [h]))

end Sys2Proof.Machine
end

section
/-! The time loop: its decisions with a forced source, and its lock (O30). -/

namespace Sys2Proof.Machine

/-- Beside the registers listed and their memories, a state keeps what the time DPLL works with: configuration, DPLL and boundary count. -/
structure State.Publishes (s t : State) (rs : List Reg) : Prop extends s.Within t rs where
  act : t.act = s.act
  time : t.timePll = s.timePll
  now : t.now = s.now

namespace State.Publishes

variable {s t u : State} {rs qs : List Reg}

theorem refl (s : State) (rs : List Reg) : s.Publishes s rs := ⟨.refl s rs, rfl, rfl, rfl⟩

theorem trans (h : s.Publishes t rs) (k : t.Publishes u rs) : s.Publishes u rs :=
  ⟨h.toWithin.trans k.toWithin, k.act.trans h.act, k.time.trans h.time, k.now.trans h.now⟩

theorem mono (h : s.Publishes t rs) (hs : rs ⊆ qs) : s.Publishes t qs := ⟨h.toWithin.mono hs, h.act, h.time, h.now⟩

theorem wr (h : s.Publishes t rs) (f : Field) (hf : f.reg ∈ rs) (i v : Nat) : s.Publishes (t.wr f i v) rs :=
  ⟨h.toWithin.wr f hf i v, h.act, h.time, h.now⟩

theorem wrBool (h : s.Publishes t rs) (f : Field) (hf : f.reg ∈ rs) (i : Nat) (b : Bool) : s.Publishes (t.wrBool f i b) rs := h.wr f hf i _

theorem raiseIf (h : s.Publishes t rs) (c : Bool) (f : Field) (hf : f.reg ∈ rs) (i : Nat) : s.Publishes (t.raiseIf c f i) rs :=
  ⟨h.toWithin.raiseIf c f hf i, (raiseIf_act ..).trans h.act, (raiseIf_timePll ..).trans h.time, (raiseIf_now ..).trans h.now⟩

theorem ite {c : Prop} [Decidable c] (h : s.Publishes t rs) (k : s.Publishes u rs) : s.Publishes (if c then t else u) rs := by
  split
  · exact h
  · exact k

theorem each (h : s.Publishes t rs) {α : Type} {f : State → α → State} (hf : ∀ {u : State} x, s.Publishes u rs → s.Publishes (f u x) rs)
    (l : List α) : s.Publishes (t.each l f) rs := by
  induction l generalizing t with
  | nil => exact h
  | cons x l ih => exact ih (hf x h)

theorem rd_eq (h : s.Publishes t rs) {f : Field} (hf : f.reg ∉ rs) (h1 : f.reg ≠ .EV_STICKY) (h2 : f.reg ≠ .EV_SRC_CNT) (i : Nat) :
    t.rd f i = s.rd f i := h.regs.rd_eq hf h1 h2 i

theorem cfgOn (h : s.Publishes t rs) (f : Field) (i : Nat) : t.cfgOn f i = s.cfgOn f i := State.cfgOn_congr h.act f i

theorem cfg (h : s.Publishes t rs) (f : Field) (i : Nat) : t.cfg f i = s.cfg f i := by simp only [State.cfg, h.act]

end State.Publishes

namespace State

variable {s : State}

@[simp] theorem rd_modTime (s : State) (g : TimePll → TimePll) (f : Field) (i : Nat) : (s.modTime g).rd f i = s.rd f i := (rfl)
@[simp] theorem on_modTime (s : State) (g : TimePll → TimePll) (f : Field) (i : Nat) : (s.modTime g).on f i = s.on f i := (rfl)
@[simp] theorem timePll_modTime (s : State) (g : TimePll → TimePll) : (s.modTime g).timePll = g s.timePll := (rfl)

theorem Within.modTime {t : State} {rs : List Reg} (h : s.Within t rs) (g : TimePll → TimePll) : s.Within (t.modTime g) rs := h.plain rfl

theorem OnlyCopy.modTime {t : State} {i : Nat} {rs : List Reg} (h : s.OnlyCopy t i rs) (g : TimePll → TimePll) :
    s.OnlyCopy (t.modTime g) i rs := h.plain rfl

/-! ### The announced class (R378) -/

theorem announceClass_writes (s : State) : ∃ cls steps, s.announceClass = (s.wr F.TM_TD_STAT_CLASS 0 cls).wr F.TM_TD_STAT_STEPS 0 steps :=
  ⟨_, _, rfl⟩

theorem announceClass_publishes (s : State) : s.Publishes s.announceClass [.TM_TD_STAT] := by
  obtain ⟨cls, steps, h⟩ := s.announceClass_writes
  rw [h]
  exact ((Publishes.refl s [.TM_TD_STAT]).wr F.TM_TD_STAT_CLASS (by decide) 0 cls).wr F.TM_TD_STAT_STEPS (by decide) 0 steps

theorem announceClass_frame (s : State) : s.OnlyCopy s.announceClass 0 [.TM_TD_STAT] := by
  obtain ⟨cls, steps, h⟩ := s.announceClass_writes
  rw [h]
  exact ((OnlyCopy.refl s 0 [.TM_TD_STAT]).wr F.TM_TD_STAT_CLASS (by decide) cls).wr F.TM_TD_STAT_STEPS (by decide) steps

@[simp] theorem timePll_announceClass (s : State) : s.announceClass.timePll = s.timePll := s.announceClass_publishes.time

theorem rd_announceClass {f : Field} (h1 : F.TM_TD_STAT_CLASS.apart f = true) (h2 : F.TM_TD_STAT_STEPS.apart f = true) (s : State)
    (i : Nat) : s.announceClass.rd f i = s.rd f i := by
  obtain ⟨cls, steps, h⟩ := s.announceClass_writes
  rw [h, rd_wr_apart h2, rd_wr_apart h1]

/-- In HOLDOVER the class is 135 (R378). -/
theorem class_announceClass (h : s.rd F.TM_TD_STAT_STATE 0 = 3) : s.announceClass.rd F.TM_TD_STAT_CLASS 0 = 135 := by
  have eq : s.announceClass = (s.wr F.TM_TD_STAT_CLASS 0 135).wr F.TM_TD_STAT_STEPS 0 0 := by simp [announceClass, h]
  rw [eq, rd_wr_apart rfl, rd_wr_fits rfl (by decide)]

/-! ### Before the selection (R379) -/

theorem refreshSource_publishes (s : State) (i : Nat) : s.Publishes (s.refreshSource i) [.TM_TS_STAT] := by
  have start := Publishes.refl s [.TM_TS_STAT]
  unfold refreshSource
  dsimp only
  refine .ite (start.wr F.TM_TS_STAT_CLASS (by decide) i _) (.ite (start.wr F.TM_TS_STAT_CLASS (by decide) i _) (.ite ?_ start))
  exact ((start.wr F.TM_TS_STAT_CLASS (by decide) i _).wr F.TM_TS_STAT_STEPS (by decide) i _).wrBool F.TM_TS_STAT_QUAL (by decide) i _

/-- Of the sources only a line engine is qualified by a decision itself. -/
theorem qual_refreshSource (s : State) (k : Nat) {i : Nat} (hi : i < 2 ∨ 10 ≤ i) :
    (s.refreshSource k).rd F.TM_TS_STAT_QUAL i = s.rd F.TM_TS_STAT_QUAL i := by
  unfold refreshSource
  dsimp only
  split
  · exact rd_wr_apart rfl ..
  · split
    · exact rd_wr_apart rfl ..
    · split
      next h9 =>
        rw [wrBool, rd_wr_reg (.inr (by omega)), rd_wr_apart rfl, rd_wr_apart rfl]
      · rfl

/-- The sources with their classes, and the offsets measured. -/
def sourcesRead (s : State) (offsets : List (Nat × Int)) : State :=
  (s.each (List.range 13) refreshSource).each offsets fun s o => s.wr F.TM_TS_OFS_VAL o.1 (unsigned 32 o.2)

/-- The registers that the reading of the sources writes. -/
theorem sourcesRead_publishes (s : State) (offsets : List (Nat × Int)) : s.Publishes (s.sourcesRead offsets) [.TM_TS_STAT, .TM_TS_OFS] :=
  ((Publishes.refl s _).each (fun i h => h.trans ((refreshSource_publishes _ i).mono (by decide))) _).each
    (fun o h => h.wr F.TM_TS_OFS_VAL (by decide) o.1 _) offsets

theorem qual_sourcesRead (s : State) (offsets : List (Nat × Int)) {i : Nat} (hi : i < 2 ∨ 10 ≤ i) :
    (s.sourcesRead offsets).rd F.TM_TS_STAT_QUAL i = s.rd F.TM_TS_STAT_QUAL i :=
  (each_keeps (State.rd · F.TM_TS_STAT_QUAL i) (fun _ _ => rd_wr_apart rfl ..) _ _).trans
    (each_keeps (State.rd · F.TM_TS_STAT_QUAL i) (fun s k => qual_refreshSource s k hi) _ _)

/-- A forced source, and none else, is wanted while it is qualified (R379). -/
theorem wantedSource_forced {i : Nat} (hw : s.worker = false) (hm : s.followsMate = false) (hf : s.cfgOn F.TM_TD_CTRL_FORCE 0 = true)
    (hs : s.cfg F.TM_TD_CTRL_FSRC 0 = i) : s.wantedSource = if s.on F.TM_TS_STAT_QUAL i then some i else none := by
  simp [wantedSource, hw, hm, hf, hs]

theorem wantedSource_sourcesRead {i : Nat} (hi : i < 2 ∨ 10 ≤ i) (hw : s.worker = false) (hm : s.followsMate = false)
    (hf : s.cfgOn F.TM_TD_CTRL_FORCE 0 = true) (hs : s.cfg F.TM_TD_CTRL_FSRC 0 = i) (offsets : List (Nat × Int)) :
    (s.sourcesRead offsets).wantedSource = if s.on F.TM_TS_STAT_QUAL i then some i else none := by
  have read := s.sourcesRead_publishes offsets
  have worker : (s.sourcesRead offsets).worker = false := by
    rw [← hw, State.worker, read.rd_eq (by decide) (by decide) (by decide), State.worker]
  have mate : (s.sourcesRead offsets).followsMate = false := by
    rw [← hm, followsMate, read.rd_eq (by decide) (by decide) (by decide), followsMate]
  rw [wantedSource_forced worker mate ((read.cfgOn ..).trans hf) ((read.cfg ..).trans hs), on, qual_sourcesRead s offsets hi, ← on]

/-- The source selected is shown. -/
def showSource (s : State) (want : Option Nat) : State :=
  s.each (List.range 13) fun s i => s.wrBool F.TM_TS_STAT_SEL i (want == some i)

theorem showSource_publishes (s : State) (want : Option Nat) : s.Publishes (s.showSource want) [.TM_TS_STAT] :=
  (Publishes.refl s _).each (fun i h => h.wrBool F.TM_TS_STAT_SEL (by decide) i _) _

theorem sel_showSource (s : State) {i : Nat} (hi : i < 13) : (s.showSource (some i)).on F.TM_TS_STAT_SEL i = true := by
  obtain ⟨u, -, shown⟩ := each_updates_view (State.rd · F.TM_TS_STAT_SEL i) (f := fun s k => s.wrBool F.TM_TS_STAT_SEL k (some i == some k))
    (fun s k hk => rd_wr_reg (.inr hk) ..) List.nodup_range (List.mem_range.2 hi) s
  rw [on, showSource, shown, wrBool, beq_self_eq_true]
  exact on_wr rfl rfl u i true

/-! ### The selection (R378, R379) -/

/-- The DPLL begins to acquire a source (R378). -/
def acquireSource (s : State) (i : Nat) : State :=
  (((s.wr F.TM_TD_STAT_SRC 0 i).wr F.TM_TD_STAT_STATE 0 1).wr F.TM_INV_STAT_BOUND 0 0).modTime fun x =>
    { x with goodSince := none, slew := 0, removing := false }

/-- The DPLL with the source it has selected, which it goes on to follow or begins to acquire. -/
def turnTo (s : State) (i : Nat) (rate : Int) (old : Option Nat) (st : Nat) : State :=
  let s := s.modTime fun x => { x with selected := true, rate := rate }
  (if old == some i && st != 0 && st != 3 && st != 4 then s else s.acquireSource i).raiseIf (old.isSome && old != some i)
    F.TM_STICKY_TIME_SRC_SWITCH 0

/-- The time for which the filtered offset has stayed within 50 ns, after one more offset (R378). -/
def noteOffset (s : State) (v : Int) : State :=
  s.modTime fun x =>
    { x with goodSince := if v.natAbs ≤ 50 * 256 then (match x.goodSince with | some t => some t | none => some s.now) else none }

/-- The source that was selected before. -/
def sourceBefore (s : State) : Option Nat := if s.timePll.selected then some (s.rd F.TM_TD_STAT_SRC 0) else none

/-- No source is selected (R378, R379). -/
def dropSource (s : State) : State :=
  s.modTime fun x => { x with selected := false, slew := 0, removing := false, goodSince := none, held := x.held || s.timeValid }

/-- The DPLL in HOLDOVER or, where the time is not valid, in FREERUN (R378); `st` is its state so far. -/
def holdTime (s : State) (st : Nat) : State :=
  if !s.timeValid then (s.wr F.TM_TD_STAT_STATE 0 0).announceClass
  else if st == 3 || st == 4 then s
  else ((s.wr F.TM_TD_STAT_STATE 0 3).announceClass).raise F.TM_STICKY_TIME_HOLDOVER 0

/-- What a decision does once the sources are read. -/
def followSource (s : State) (offsets : List (Nat × Int)) (rate : Int) : State :=
  let shown := s.showSource s.wantedSource
  let st := s.rd F.TM_TD_STAT_STATE 0
  match s.wantedSource with
  | none => shown.dropSource.holdTime st
  | some i =>
    let turned := shown.turnTo i rate s.sourceBefore st
    match offsets.find? (·.1 == i) with
    | some (_, v) => ((turned.noteOffset v).removeOffset (v * 2 ^ 24)).announceClass
    | none => turned.announceClass

/-- At a multiple of 256 ticks the sources are read and one, or none, is followed. -/
theorem timeDecision_eq (s : State) (offsets : List (Nat × Int)) (rate : Int) :
    s.timeDecision offsets rate = if s.tick.toNat % 256 != 0 then s else (s.sourcesRead offsets).followSource offsets rate := rfl

/-! ### A source that is followed (R378 to R380) -/

section

variable {i : Nat} {rate : Int} {old : Option Nat} {st : Nat}

theorem rd_turnTo {f : Field} (h1 : F.TM_TD_STAT_SRC.apart f = true) (h2 : F.TM_TD_STAT_STATE.apart f = true)
    (h3 : F.TM_INV_STAT_BOUND.apart f = true) (h4 : F.TM_STICKY_TIME_SRC_SWITCH.apart f = true) (e1 : f.reg ≠ .EV_STICKY)
    (e2 : f.reg ≠ .EV_SRC_CNT) (k : Nat) : (s.turnTo i rate old st).rd f k = s.rd f k := by
  rw [turnTo, rd_raiseIf_apart h4 e1 e2]
  split
  · rfl
  · rw [acquireSource, rd_modTime, rd_wr_apart h3, rd_wr_apart h2, rd_wr_apart h1, rd_modTime]

/-- A source that is followed is the one shown. -/
theorem src_turnTo (hi : i < 13) (h : old = some i → s.rd F.TM_TD_STAT_SRC 0 = i) : (s.turnTo i rate old st).rd F.TM_TD_STAT_SRC 0 = i := by
  rw [turnTo, rd_raiseIf_apart rfl (by decide) (by decide)]
  split
  next kept =>
    simp only [Bool.and_eq_true, beq_iff_eq] at kept
    exact h kept.1.1.1
  · rw [acquireSource, rd_modTime, rd_wr_apart rfl, rd_wr_apart rfl, rd_wr_fits rfl (lt_of_lt_of_le hi (by decide))]

theorem state_turnTo_none : (s.turnTo i rate none st).rd F.TM_TD_STAT_STATE 0 = 1 := by
  rw [turnTo, rd_raiseIf_apart rfl (by decide) (by decide), if_neg (by simp), acquireSource, rd_modTime, rd_wr_apart rfl,
    rd_wr_fits rfl (by decide)]

/-- The DPLL with its new source and rate; the offset removed so far may be given up. -/
theorem timePll_turnTo : ∃ good slew removing, (s.turnTo i rate old st).timePll =
    { s.timePll with selected := true, rate := rate, goodSince := good, slew := slew, removing := removing } := by
  rw [turnTo, raiseIf_timePll]
  split
  · exact ⟨_, _, _, rfl⟩
  · exact ⟨_, _, _, rfl⟩

theorem Within.acquireSource {t : State} {rs : List Reg} (h : s.Within t rs) (h1 : .TM_TD_STAT ∈ rs) (h2 : .TM_INV_STAT ∈ rs) (i : Nat) :
    s.Within (t.acquireSource i) rs :=
  (((h.wr F.TM_TD_STAT_SRC h1 0 i).wr F.TM_TD_STAT_STATE h1 0 1).wr F.TM_INV_STAT_BOUND h2 0 0).modTime _

theorem turnTo_within : s.Within (s.turnTo i rate old st) [.TM_TD_STAT, .TM_INV_STAT, .TM_STICKY] := by
  have start : s.Within (s.modTime _) [.TM_TD_STAT, .TM_INV_STAT, .TM_STICKY] :=
    (Within.refl s _).modTime fun x => { x with selected := true, rate := rate }
  exact (Within.ite start (start.acquireSource (by decide) (by decide) i)).raiseIf _ F.TM_STICKY_TIME_SRC_SWITCH (by decide) 0

@[simp] theorem act_turnTo : (s.turnTo i rate old st).act = s.act := by
  rw [turnTo, raiseIf_act]
  split <;> rfl

end

/-- An offset above STEP_THR is stepped while the time is not valid or STEP_EN is 1, and reported (R380). -/
theorem removeOffset_steps {theta : Int} (hb : s.cfg F.TM_TD_CTRL_STEP_THR 0 * 2 ^ 32 < theta.natAbs)
    (hv : s.timeValid = false ∨ s.cfgOn F.TM_TD_CTRL_STEP_EN 0 = true) :
    s.removeOffset theta =
      (s.modTime fun x => { x with step := some (-theta), slew := 0, removing := true }).raise F.TM_STICKY_TIME_STEP 0 := by
  have stepped : (!s.timeValid || s.cfgOn F.TM_TD_CTRL_STEP_EN 0) = true := by rcases hv with h | h <;> simp [h]
  simp only [removeOffset, hb, decide_true, stepped, Bool.and_self, if_true, raiseIf]

theorem removeOffset_slews {theta : Int} (h : theta.natAbs ≤ s.cfg F.TM_TD_CTRL_STEP_THR 0 * 2 ^ 32) :
    s.removeOffset theta = s.modTime fun x => { x with slew := -theta, removing := true } := by
  simp only [removeOffset, raiseIf, decide_eq_false (Nat.not_lt.2 h), Bool.false_and, Bool.false_eq_true, if_false]

theorem removeOffset_within (s : State) (theta : Int) : s.Within (s.removeOffset theta) [.TM_STICKY] :=
  (Within.ite ((Within.refl s [.TM_STICKY]).modTime fun x => { x with step := some (-theta), slew := 0, removing := true })
    ((Within.refl s _).modTime fun x => { x with slew := -theta, removing := true })).raiseIf _ F.TM_STICKY_TIME_STEP (by decide) 0

theorem timePll_removeOffset (s : State) (theta : Int) :
    (s.removeOffset theta).timePll.selected = s.timePll.selected ∧ (s.removeOffset theta).timePll.rate = s.timePll.rate ∧
      (s.removeOffset theta).timePll.tb = s.timePll.tb := by
  simp only [removeOffset, raiseIf_timePll]
  split <;> exact ⟨rfl, rfl, rfl⟩

/-- The state in which the offset of a source that is followed is removed. -/
def followed (s : State) (offsets : List (Nat × Int)) (i : Nat) (v rate : Int) : State :=
  let r := s.sourcesRead offsets
  ((r.showSource (some i)).turnTo i rate r.sourceBefore (r.rd F.TM_TD_STAT_STATE 0)).noteOffset v

theorem Within.noteOffset {t : State} {rs : List Reg} (h : s.Within t rs) (v : Int) : s.Within (t.noteOffset v) rs := h.plain rfl

theorem timeDecision_followed {offsets : List (Nat × Int)} {i k : Nat} {v : Int} (rate : Int) (ht : s.tick.toNat % 256 = 0)
    (hw : (s.sourcesRead offsets).wantedSource = some i) (ho : offsets.find? (·.1 == i) = some (k, v)) :
    s.timeDecision offsets rate = ((s.followed offsets i v rate).removeOffset (v * 2 ^ 24)).announceClass := by
  rw [timeDecision_eq, if_neg (by simp [ht])]
  simp only [followSource, hw, ho, followed]

section

variable {offsets : List (Nat × Int)} {i : Nat} {v rate : Int}

theorem followed_within : s.Within (s.followed offsets i v rate) [.TM_TS_STAT, .TM_TS_OFS, .TM_TD_STAT, .TM_INV_STAT, .TM_STICKY] := by
  have read := (s.sourcesRead_publishes offsets).toWithin.mono (qs := [.TM_TS_STAT, .TM_TS_OFS, .TM_TD_STAT, .TM_INV_STAT, .TM_STICKY])
    (by decide)
  have shown := ((s.sourcesRead offsets).showSource_publishes (some i)).toWithin.mono
    (qs := [.TM_TS_STAT, .TM_TS_OFS, .TM_TD_STAT, .TM_INV_STAT, .TM_STICKY]) (by decide)
  rw [followed]
  exact ((read.trans shown).trans (turnTo_within.mono (by decide))).noteOffset v

theorem rd_followed {f : Field} (h1 : F.TM_TD_STAT_SRC.apart f = true) (h2 : F.TM_TD_STAT_STATE.apart f = true)
    (h3 : F.TM_INV_STAT_BOUND.apart f = true) (h4 : F.TM_STICKY_TIME_SRC_SWITCH.apart f = true) (e1 : f.reg ≠ .EV_STICKY)
    (e2 : f.reg ≠ .EV_SRC_CNT) (k : Nat) :
    (s.followed offsets i v rate).rd f k = ((s.sourcesRead offsets).showSource (some i)).rd f k := rd_turnTo h1 h2 h3 h4 e1 e2 k

theorem act_followed : (s.followed offsets i v rate).act = s.act :=
  (act_turnTo (s := (s.sourcesRead offsets).showSource (some i))).trans ((showSource_publishes ..).act.trans (sourcesRead_publishes ..).act)

theorem timeValid_followed : (s.followed offsets i v rate).timeValid = s.timeValid := by
  rw [timeValid, on, rd_followed rfl rfl rfl rfl (by decide) (by decide), (showSource_publishes ..).rd_eq (by decide) (by decide) (by decide),
    (sourcesRead_publishes ..).rd_eq (by decide) (by decide) (by decide), ← on, ← timeValid]

theorem timePll_followed : (s.followed offsets i v rate).timePll.selected = true ∧ (s.followed offsets i v rate).timePll.rate = rate ∧
    (s.followed offsets i v rate).timePll.tb = s.timePll.tb ∧ (s.followed offsets i v rate).timePll.step = s.timePll.step := by
  have before : ((s.sourcesRead offsets).showSource (some i)).timePll = s.timePll :=
    (showSource_publishes ..).time.trans (sourcesRead_publishes ..).time
  obtain ⟨good, slew, removing, turned⟩ := timePll_turnTo (s := (s.sourcesRead offsets).showSource (some i)) (i := i) (rate := rate)
    (old := (s.sourcesRead offsets).sourceBefore) (st := (s.sourcesRead offsets).rd F.TM_TD_STAT_STATE 0)
  rw [followed, noteOffset, timePll_modTime, turned, before]
  exact ⟨rfl, rfl, rfl, rfl⟩

theorem src_followed (hi : i < 13) : (s.followed offsets i v rate).rd F.TM_TD_STAT_SRC 0 = i := by
  refine src_turnTo hi fun h => ?_
  rw [(showSource_publishes ..).rd_eq (by decide) (by decide) (by decide)]
  rw [sourceBefore] at h
  split at h
  · exact Option.some.inj h
  · cases h

theorem state_followed (h : s.timePll.selected = false) : (s.followed offsets i v rate).rd F.TM_TD_STAT_STATE 0 = 1 := by
  have none_before : (s.sourcesRead offsets).sourceBefore = none := by
    rw [sourceBefore, (sourcesRead_publishes ..).time, h, if_neg Bool.false_ne_true]
  rw [followed, noteOffset, rd_modTime, none_before, state_turnTo_none]

theorem sel_followed (hi : i < 13) : (s.followed offsets i v rate).on F.TM_TS_STAT_SEL i = true := by
  rw [on, rd_followed rfl rfl rfl rfl (by decide) (by decide), ← on, sel_showSource _ hi]

end

/-- An offset that was measured is shown (R379). -/
theorem ofs_followed (i : Nat) (v rate : Int) : (s.followed [(i, v)] i v rate).rd F.TM_TS_OFS_VAL i = unsigned 32 v := by
  rw [rd_followed rfl rfl rfl rfl (by decide) (by decide), (showSource_publishes ..).rd_eq (by decide) (by decide) (by decide)]
  exact rd_wr_fits rfl (unsigned_lt 32 v) ..

/-! ### No source (R378, R379) -/

theorem timeDecision_lost {offsets : List (Nat × Int)} (rate : Int) (ht : s.tick.toNat % 256 = 0)
    (hw : (s.sourcesRead offsets).wantedSource = none) :
    s.timeDecision offsets rate = ((s.sourcesRead offsets).showSource none).dropSource.holdTime
      ((s.sourcesRead offsets).rd F.TM_TD_STAT_STATE 0) := by
  rw [timeDecision_eq, if_neg (by simp [ht])]
  simp only [followSource, hw]

theorem Within.dropSource {t : State} {rs : List Reg} (h : s.Within t rs) : s.Within t.dropSource rs := h.plain rfl

@[simp] theorem timePll_dropSource (s : State) : s.dropSource.timePll =
    { s.timePll with selected := false, slew := 0, removing := false, goodSince := none, held := s.timePll.held || s.timeValid } := (rfl)

@[simp] theorem rd_dropSource (s : State) (f : Field) (i : Nat) : s.dropSource.rd f i = s.rd f i := (rfl)
@[simp] theorem timeValid_dropSource (s : State) : s.dropSource.timeValid = s.timeValid := (rfl)

@[simp] theorem timePll_holdTime (s : State) (st : Nat) : (s.holdTime st).timePll = s.timePll := by
  unfold holdTime
  split
  · simp
  · split <;> simp

theorem holdTime_within (s : State) (st : Nat) : s.Within (s.holdTime st) [.TM_TD_STAT, .TM_STICKY] := by
  have entered (n : Nat) : s.Within (s.wr F.TM_TD_STAT_STATE 0 n).announceClass [.TM_TD_STAT, .TM_STICKY] :=
    ((Within.refl s _).wr F.TM_TD_STAT_STATE (by decide) 0 n).trans ((announceClass_publishes _).toWithin.mono (by decide))
  exact Within.ite (entered 0) (Within.ite (Within.refl s _) ((entered 3).raise F.TM_STICKY_TIME_HOLDOVER (by decide) 0))

theorem state_announced {n : Nat} (hn : n < 8) (s : State) : (s.wr F.TM_TD_STAT_STATE 0 n).announceClass.rd F.TM_TD_STAT_STATE 0 = n := by
  rw [rd_announceClass rfl rfl, rd_wr_fits rfl (lt_of_lt_of_le hn (by decide))]

theorem holdTime_freeRun (h : s.timeValid = false) (st : Nat) : (s.holdTime st).rd F.TM_TD_STAT_STATE 0 = 0 := by
  rw [holdTime, if_pos (by simp [h]), state_announced (by decide)]

/-- From LOCKED the DPLL enters HOLDOVER, with its class and its event (R378). -/
theorem holdTime_holdover (h : s.timeValid = true) :
    (s.holdTime 2).rd F.TM_TD_STAT_STATE 0 = 3 ∧ (s.holdTime 2).on F.TM_STICKY_TIME_HOLDOVER 0 = true ∧
      (s.holdTime 2).rd F.TM_TD_STAT_CLASS 0 = 135 := by
  have eq : s.holdTime 2 = (s.wr F.TM_TD_STAT_STATE 0 3).announceClass.raise F.TM_STICKY_TIME_HOLDOVER 0 := by simp [holdTime, h]
  rw [eq]
  refine ⟨?_, on_raise rfl rfl (by decide) (by decide) .., ?_⟩
  · rw [rd_raise_apart rfl (by decide) (by decide), state_announced (by decide)]
  · rw [rd_raise_apart rfl (by decide) (by decide), class_announceClass (rd_wr_fits rfl (by decide) ..)]

theorem sourcesRead_nil_publishes (s : State) : s.Publishes (s.sourcesRead []) [.TM_TS_STAT] := by
  have read : s.Publishes (s.each (List.range 13) refreshSource) [.TM_TS_STAT] :=
    (Publishes.refl s _).each (fun i h => h.trans (refreshSource_publishes _ i)) _
  rwa [sourcesRead, State.each, List.foldl_nil]

/-! ### Lock (R378, R393) -/

theorem timeLocked_due {since : Nat} (hg : s.timePll.goodSince = some since) (hs : s.rd F.TM_TD_STAT_STATE 0 = 1)
    (h : since + 3125000 ≤ s.now) :
    s.timeLocked = ((s.wr F.TM_TD_STAT_STATE 0 2).modTime fun x =>
      { x with lockedAt := if x.held then s.now + 18750000 else s.now, held := false }).announceClass := by
  simp only [timeLocked, hg]
  exact if_pos (by simp [hs, elapsed_of_le h])

theorem timeLocked_early {since : Nat} (hg : s.timePll.goodSince = some since) (h : s.now < since + 3125000) : s.timeLocked = s := by
  simp [timeLocked, hg, elapsed_of_lt h]

end State

/-- Settles O30: a decision reads the sources, shows the forced one and follows it, or holds the time; then the lock. -/
theorem theTimeLoopFollowsItsSource : Obligations.TheTimeLoopFollowsItsSource := by
  intro s
  refine ⟨fun offsets rate h => ?_, fun i v rate theta ht hi hw hm hf hs hq hθ => ?_, fun i rate ht hi hw hm hf hs hq => ?_,
    fun since hg => ⟨fun hs h => ?_, fun h => ?_⟩⟩
  · exact congrArg Host.Outcome.next (if_pos (by simpa using h))
  · subst hθ
    have want : (s.sourcesRead [(i.val, v)]).wantedSource = some i.val := by
      rw [State.wantedSource_sourcesRead hi hw hm hf hs, hq, if_pos rfl]
    have taken := State.timeDecision_followed (k := i.val) (v := v) rate ht want (List.find?_cons_of_pos (by simp))
    generalize hu : s.followed [(i.val, v)] i.val v rate = u at taken
    obtain ⟨selected, rated, tb, step⟩ := hu ▸ State.timePll_followed (s := s) (offsets := [(i.val, v)]) (i := i.val) (v := v) (rate := rate)
    obtain ⟨selected', rated', tb'⟩ := u.timePll_removeOffset (v * 2 ^ 24)
    have cfg (f : Field) : u.cfg f 0 = s.cfg f 0 := by simp only [State.cfg, ← hu, State.act_followed]
    have valid : u.timeValid = s.timeValid := hu ▸ State.timeValid_followed
    have frame := ((hu ▸ State.followed_within : s.Within u _).trans ((u.removeOffset_within (v * 2 ^ 24)).mono (by decide))).trans
      ((State.announceClass_publishes _).toWithin.mono (by decide))
    have kept {f : Field} (h1 : F.TM_TD_STAT_CLASS.apart f = true) (h2 : F.TM_TD_STAT_STEPS.apart f = true) (h3 : f.reg ∉ [.TM_STICKY])
        (e1 : f.reg ≠ .EV_STICKY) (e2 : f.reg ≠ .EV_SRC_CNT) (k : Nat) :
        (u.removeOffset (v * 2 ^ 24)).announceClass.rd f k = u.rd f k := by
      rw [State.rd_announceClass h1 h2, (u.removeOffset_within _).regs.rd_eq h3 e1 e2]
    refine ⟨_, congrArg Host.Outcome.next taken, ?_, ?_, ?_, ?_, ?_, ?_, ?_, ?_, ?_, frame.regs, frame.memory⟩
    · rw [kept rfl rfl (by decide) (by decide) (by decide), ← hu, State.src_followed i.isLt]
    · rw [State.on, kept rfl rfl (by decide) (by decide) (by decide), ← State.on, ← hu, State.sel_followed i.isLt]
    · rw [kept rfl rfl (by decide) (by decide) (by decide), ← hu, State.ofs_followed]
    · rw [State.timePll_announceClass, selected', selected]
    · rw [State.timePll_announceClass, rated', rated]
    · rw [State.timePll_announceClass, tb', tb]
    · intro h
      rw [kept rfl rfl (by decide) (by decide) (by decide), ← hu, State.state_followed h]
    · intro big how
      rw [← cfg] at big
      rw [State.removeOffset_steps big (by rwa [valid, State.cfgOn, cfg])]
      refine ⟨by simp, ?_⟩
      rw [State.on, State.rd_announceClass rfl rfl, ← State.on, State.on_raise rfl rfl (by decide) (by decide)]
    · intro small
      rw [← cfg] at small
      rw [State.removeOffset_slews small]
      exact ⟨by simp [step], by simp⟩
  · have want : (s.sourcesRead []).wantedSource = none := by
      rw [State.wantedSource_sourcesRead hi hw hm hf hs, hq, if_neg Bool.false_ne_true]
    have read := s.sourcesRead_nil_publishes
    have shown := read.trans ((s.sourcesRead []).showSource_publishes none)
    generalize hu : (s.sourcesRead []).showSource none = u at shown
    have state : (s.sourcesRead []).rd F.TM_TD_STAT_STATE 0 = s.rd F.TM_TD_STAT_STATE 0 := read.rd_eq (by decide) (by decide) (by decide) 0
    have lost := State.timeDecision_lost rate ht want
    rw [hu, state] at lost
    have valid : u.dropSource.timeValid = s.timeValid := by
      rw [State.timeValid_dropSource, State.timeValid, State.on, shown.rd_eq (by decide) (by decide) (by decide), ← State.on,
        ← State.timeValid]
    have frame := (((shown.toWithin.mono (by decide)).dropSource).trans ((u.dropSource.holdTime_within _).mono (by decide)) :
      s.Within (u.dropSource.holdTime (s.rd F.TM_TD_STAT_STATE 0)) [.TM_TS_STAT, .TM_TD_STAT, .TM_STICKY])
    refine ⟨_, congrArg Host.Outcome.next lost, ?_, ?_, ?_, fun h => ?_, fun h hl => ?_, frame.regs, frame.memory⟩
    · simp
    · simp
    · simp [shown.time]
    · exact State.holdTime_freeRun (valid.trans h) _
    · rw [hl]
      exact State.holdTime_holdover (valid.trans h)
  · have frame := (((State.OnlyCopy.refl s 0 [.TM_TD_STAT]).wr F.TM_TD_STAT_STATE (by decide) 2).modTime fun x =>
      { x with lockedAt := if x.held then s.now + 18750000 else s.now, held := false }).trans (State.announceClass_frame _)
    refine ⟨_, congrArg Host.Outcome.next (State.timeLocked_due hg hs h), ?_, ?_, ?_, frame.regs, frame.memory⟩
    · rw [State.rd_announceClass rfl rfl, State.rd_modTime, State.rd_wr_fits rfl (by decide)]
    · rw [State.timePll_announceClass, State.timePll_modTime, State.wr_timePll]
    · simp
  · exact congrArg Host.Outcome.next (State.timeLocked_early hg h)

end Sys2Proof.Machine
end

section
/-! Time inputs, time outputs, learning and the software source (O31). -/

namespace Sys2Proof.Machine

namespace State

variable {s : State}

@[simp] theorem rd_modSource (s : State) (k : Nat) (g : TimeSource → TimeSource) (f : Field) (i : Nat) :
    (s.modSource k g).rd f i = s.rd f i := (rfl)

@[simp] theorem timeSource_modSource_same (s : State) (i : Nat) (g : TimeSource → TimeSource) :
    (s.modSource i g).timeSource i = g (s.timeSource i) := (timeSource_setTimeSource ..).trans (if_pos rfl)

@[simp] theorem timeSource_modTime (s : State) (g : TimePll → TimePll) (i : Nat) : (s.modTime g).timeSource i = s.timeSource i := (rfl)
@[simp] theorem timeSource_wr (s : State) (f : Field) (k v i : Nat) : (s.wr f k v).timeSource i = s.timeSource i := (rfl)

@[simp] theorem timeSource_reply (s : State) (m : Initiator) (a : Answer) (i : Nat) : (s.reply m a).timeSource i = s.timeSource i := (rfl)

@[simp] theorem timeSource_raise (s : State) (f : Field) (k i : Nat) : (s.raise f k).timeSource i = s.timeSource i := by
  rw [timeSource, raise_timeSources, ← timeSource]

theorem Within.modSource {t : State} {rs : List Reg} (h : s.Within t rs) (i : Nat) (g : TimeSource → TimeSource) :
    s.Within (t.modSource i g) rs := h.plain rfl

theorem OnlyCopy.modSource {t : State} {k : Nat} {rs : List Reg} (h : s.OnlyCopy t k rs) (i : Nat) (g : TimeSource → TimeSource) :
    s.OnlyCopy (t.modSource i g) k rs := h.plain rfl

/-! ### 1PPS and ToD inputs (R381, R382) -/

theorem ppsEdge_frame (s : State) (i : Nat) (x : Stamp) : s.OnlyCopy (s.ppsEdge i x) i [.TM_TS_STAT] := by
  unfold ppsEdge
  extract_lets t y second good n at_ tod whole u v
  have hu : s.OnlyCopy u i [.TM_TS_STAT] := (OnlyCopy.refl s i _).modSource i _
  have hv : s.OnlyCopy v i [.TM_TS_STAT] := OnlyCopy.ite (hu.modTime _) (hu.modTime _)
  exact OnlyCopy.ite (hv.wr F.TM_TS_STAT_QUAL (by decide) 1) hv

/-- An edge a second after the one before counts. -/
theorem ppsEdge_counts {i : Nat} {x : Stamp} {last : Int} {n : Nat} (he : (s.timeSource i).edge = some (last, n))
    (hx : (x.units - last - 1000000000 * 65536).natAbs ≤ 1000 * 65536) :
    ((s.ppsEdge i x).timeSource i).goodEdges = (s.timeSource i).goodEdges + 1 ∧
      ((s.ppsEdge i x).timeSource i).edge = some (x.units, s.now) ∧ ((s.ppsEdge i x).timeSource i).missed = false ∧
      (2 ≤ (s.timeSource i).goodEdges → (s.ppsEdge i x).on F.TM_TS_STAT_QUAL i = true) ∧
      ((s.timeSource i).goodEdges < 2 → (s.ppsEdge i x).regs = s.regs) := by
  unfold ppsEdge
  extract_lets t y second good m at_ tod whole u v
  have counted : m = (s.timeSource i).goodEdges + 1 := by
    have isGood : good = true := by simp only [good, y, he, second, t, decide_eq_true hx]
    simp only [m, isGood, if_true, y]
  have source : (if 3 ≤ m then v.wr F.TM_TS_STAT_QUAL i 1 else v).timeSource i = u.timeSource i := by
    simp only [v]
    split <;> split <;> rfl
  rw [source, show u.timeSource i = _ from timeSource_modSource_same ..]
  have regs : v.regs = s.regs := by
    simp only [v]
    split <;> rfl
  refine ⟨counted, rfl, rfl, fun h => ?_, fun h => ?_⟩
  · rw [if_pos (by omega)]
    exact on_wr rfl rfl v i true
  · rw [if_neg (by omega), regs]

theorem ppsMiss_due {i n : Nat} {last : Int} (he : (s.timeSource i).edge = some (last, n)) (hm : (s.timeSource i).missed = false)
    (hc : s.cfgOn F.TM_TS_CFG_EN i = true) (h : n + 625000 ≤ s.now) :
    s.ppsMiss i = ((s.modSource i fun x => { x with missed := true, goodEdges := 0 }).wr F.TM_TS_STAT_QUAL i 0).raise
      F.TM_STICKY_PPS_MISS 0 := if_neg (by simp [he, hm, hc, elapsed_of_le h])

theorem ppsMiss_early {i n : Nat} {last : Int} (he : (s.timeSource i).edge = some (last, n)) (h : s.now < n + 625000) : s.ppsMiss i = s :=
  if_pos (by simp [he, elapsed_of_lt h])

/-- A message of the right form, at its time and with its CRC, is taken (R382). -/
theorem todMessage_good {i n : Nat} {bytes : List Byte} {last : Int} (hc : s.cfgOn F.TM_PPS_CFG_TODI_EN 0 = true)
    (hi : s.cfg F.TM_PPS_CFG_TOD_SRC 0 = i) (he : (s.timeSource i).edge = some (last, n)) (h1 : n + 15625 ≤ s.now)
    (h2 : s.now ≤ n + 296875) (hl : bytes.length = 18) (hf : bytes.take 4 = [0xC5, 0x3A, 0x01, 12])
    (crc : crc16 ((bytes.drop 2).take 14) = bigEndian (bytes.drop 16)) :
    s.todMessage bytes = s.modTime fun x =>
      if i = 0 then { x with tod0 := some (bigEndian ((bytes.drop 4).take 6), ((bytes[12]?).getD 0).toNat) }
      else { x with tod1 := some (bigEndian ((bytes.drop 4).take 6), ((bytes[12]?).getD 0).toNat) } := by
  subst hi
  rw [todMessage, if_neg (by simp [hc])]
  simp only [he, h1, h2, hl, hf, crc, beq_self_eq_true, decide_true, Bool.and_self, Bool.not_true, Bool.false_eq_true, if_false,
    beq_iff_eq]
  split <;> rfl

theorem todMessage_length {bytes : List Byte} (hc : s.cfgOn F.TM_PPS_CFG_TODI_EN 0 = true) (hl : bytes.length ≠ 18) :
    s.todMessage bytes = s.raise F.TM_STICKY_TOD_ERR 0 := by
  rw [todMessage, if_neg (by simp [hc])]
  exact if_pos (by simp [hl])

/-! ### Time outputs (R394) -/

/-- The mark of a whole second on an output. -/
def secondMark (s : State) (i : Nat) (inverted : Bool) : Out :=
  .pps i (s.timePll.tb / secondUnits) (signed 16 (s.cfg F.TM_PPS_ADJ_OUT_ADJ 0)) (s.cfg F.TM_PPS_CFG_WIDTH 0) inverted

/-- A whole second that has been reached. -/
def noteSecond (s : State) : State := s.modTime fun x => { x with second := s.timePll.tb / secondUnits, todDue := some s.now }

/-- With both outputs enabled and the time valid, a whole second is marked on both. -/
theorem ppsOutEdge_marks (h : s.timePll.second < s.timePll.tb / secondUnits) (hv : s.timeValid = true)
    (h0 : s.cfgOn F.TM_PPS_CFG_EN_O0 0 = true) (h1 : s.cfgOn F.TM_PPS_CFG_EN_O1 0 = true) :
    s.ppsOutEdge = (s.noteSecond.send (s.secondMark 0 (s.cfgOn F.TM_PPS_CFG_POL_O0 0))).send
      (s.secondMark 1 (s.cfgOn F.TM_PPS_CFG_POL_O1 0)) := by
  have valid (g : TimePll → TimePll) : (s.modTime g).timeValid = true := hv
  have on (g : TimePll → TimePll) (f : Field) : (s.modTime g).cfgOn f 0 = s.cfgOn f 0 := rfl
  have on' (g : TimePll → TimePll) (o : Out) (f : Field) : ((s.modTime g).send o).cfgOn f 0 = s.cfgOn f 0 := rfl
  rw [ppsOutEdge, if_neg (Nat.not_le.2 h)]
  simp only [valid, on, on', h0, h1, Bool.not_true, Bool.and_false, Bool.not_false, Bool.and_self, if_true]
  rfl

theorem ppsOutEdge_again (h : s.timePll.tb / secondUnits ≤ s.timePll.second) : s.ppsOutEdge = s := if_pos h

theorem todSend_due {n : Nat} (hd : s.timePll.todDue = some n) (hc : s.cfgOn F.TM_PPS_CFG_TODO_EN 0 = true) (h : n + 31250 ≤ s.now) :
    s.todSend = (s.modTime fun x => { x with todDue := none }).send (.tod (s.todBytes (s.timePll.second + 1))) := by
  simp only [todSend, hd]
  exact if_pos (by simp [hc, elapsed_of_le h])

theorem todSend_early {n : Nat} (hd : s.timePll.todDue = some n) (h : s.now < n + 31250) : s.todSend = s := by
  simp [todSend, hd, elapsed_of_lt h]

/-! ### Software source and temperature (R379, R391) -/

theorem swTimeout_due {n : Nat} (hw : (s.timeSource 10).writtenAt = some n) (h : n + 1250000 ≤ s.now) :
    s.swTimeout = (s.modSource 10 fun x => { x with writtenAt := none }).wr F.TM_TS_STAT_QUAL 10 0 := by
  simp only [swTimeout, hw]
  exact if_pos (elapsed_of_le h)

theorem swTimeout_early {n : Nat} (hw : (s.timeSource 10).writtenAt = some n) (h : s.now < n + 1250000) : s.swTimeout = s := by
  simp [swTimeout, hw, elapsed_of_lt h]

theorem tempStale_due (hc : s.cfgOn F.TM_INV_CTRL_TSW 0 = true) (hs : s.timePll.tempStale = false)
    (h : s.timePll.tempAt + 625001 ≤ s.now) :
    s.tempStale = (s.modTime fun x => { x with tempStale := true }).raise F.TM_STICKY_INV_TEMP_STALE 0 :=
  if_pos (by simp [hc, hs, elapsed_of_le h])

/-- What was learned of a source is discarded (R388). -/
theorem learnAgain_frame (s : State) (i : Nat) : s.OnlyCopy (s.learnAgain i) i [.TM_TS_STAT] :=
  (((OnlyCopy.refl s i [.TM_TS_STAT]).modSource i _).wr F.TM_TS_STAT_LEARNED (by decide) 0).wr F.TM_TS_STAT_STALE (by decide) 0

theorem timeSource_learnAgain (s : State) (i : Nat) :
    (s.learnAgain i).timeSource i = { s.timeSource i with alphaAcc := none, learnTicks := 0 } := by
  rw [learnAgain, timeSource_wr, timeSource_wr, timeSource_modSource_same]

theorem resetModel_frame (s : State) : s.OnlyCopy s.resetModel 0 [.TM_INV_STAT] :=
  (((OnlyCopy.refl s 0 [.TM_INV_STAT]).modTime _).wr F.TM_INV_STAT_LSTATE (by decide) 0).wr F.TM_INV_STAT_HOURS (by decide) 0

end State

/-- Settles O31: inputs, then outputs, then what is learned and what grows stale, then the three writes. -/
theorem timeInputsAndOutputsAct : Obligations.TimeInputsAndOutputsAct := by
  refine ⟨fun i s => ⟨fun x last n he hx => ?_, fun last n he hm hc => ⟨fun h => ?_, fun h => ?_⟩,
    fun bytes last n hc hi he h1 h2 => ⟨fun hl hf crc => ?_, fun hl => ?_⟩⟩,
    fun s => ⟨fun h hv h0 h1 => ?_, fun due hd hc => ⟨fun h => ?_, fun h => ?_⟩, fun e h => ?_, fun w hw => ⟨fun h => ?_, fun h => ?_⟩,
      fun h => ?_, fun hc hs h => ?_, fun m ha => ⟨?_, fun v => ?_, ?_⟩⟩⟩
  · obtain ⟨counted, edge, missed, qualified, early⟩ := State.ppsEdge_counts he hx
    have frame := s.ppsEdge_frame i.val x
    exact ⟨_, rfl, counted, edge, missed, qualified, early, frame.regs, frame.memory⟩
  · have frame := (((State.Within.refl s [.TM_TS_STAT, .TM_STICKY]).modSource i.val fun x =>
      { x with missed := true, goodEdges := 0 }).wr F.TM_TS_STAT_QUAL (by decide) i.val 0).raise F.TM_STICKY_PPS_MISS (by decide) 0
    refine ⟨_, congrArg Host.Outcome.next (State.ppsMiss_due he hm hc h), ?_, ?_, State.on_raise rfl rfl (by decide) (by decide) ..,
      frame.regs, frame.memory⟩
    · rw [State.on_raise_ne (by decide) (by decide) (by decide), State.on, State.rd_wr rfl]
      rfl
    · simp
  · exact congrArg Host.Outcome.next (State.ppsMiss_early he h)
  · refine ⟨_, congrArg Host.Outcome.next (State.todMessage_good hc hi he h1 h2 hl hf crc), ?_, rfl, rfl, rfl, rfl, rfl⟩
    rw [State.timePll_modTime]
    split <;> rfl
  · have frame := (State.OnlyCopy.refl s 0 [.TM_STICKY]).raise F.TM_STICKY_TOD_ERR (by decide)
    exact ⟨_, congrArg Host.Outcome.next (State.todMessage_length hc hl), by simp, State.on_raise rfl rfl (by decide) (by decide) ..,
      frame.regs, frame.memory⟩
  · refine ⟨_, congrArg Host.Outcome.next (State.ppsOutEdge_marks h hv h0 h1), rfl, rfl, ?_, rfl, ?_, rfl, rfl, rfl, rfl⟩
    · exact List.append_assoc ..
    · exact congrArg Host.Outcome.next (State.ppsOutEdge_again le_rfl)
  · exact ⟨_, congrArg Host.Outcome.next (State.todSend_due hd hc h), rfl, rfl, rfl, rfl, rfl, rfl, rfl⟩
  · exact congrArg Host.Outcome.next (State.todSend_early hd h)
  · have frame := (State.OnlyCopy.refl s (e.val + 2) [.TM_TS_STAT]).wr F.TM_TS_STAT_LEARNED (by decide) 1
    exact ⟨_, congrArg Host.Outcome.next (if_pos h), State.on_wr rfl rfl s (e.val + 2) true, frame.regs, frame.memory⟩
  · have frame := ((State.OnlyCopy.refl s 10 [.TM_TS_STAT]).modSource 10 fun x => { x with writtenAt := none }).wr F.TM_TS_STAT_QUAL
      (by decide) 0
    refine ⟨_, congrArg Host.Outcome.next (State.swTimeout_due hw h), State.on_wr rfl rfl _ 10 false, ?_, frame.regs, frame.memory⟩
    simp
  · exact congrArg Host.Outcome.next (State.swTimeout_early hw h)
  · have frame := (State.OnlyCopy.refl s 0 [.TM_INV_STAT]).wr F.TM_INV_STAT_LSTATE (by decide) 2
    exact ⟨_, congrArg Host.Outcome.next (if_pos h), State.rd_wr_fits rfl (by decide) .., frame.regs, frame.memory⟩
  · have frame := ((State.OnlyCopy.refl s 0 [.TM_STICKY]).modTime fun x => { x with tempStale := true }).raise F.TM_STICKY_INV_TEMP_STALE
      (by decide)
    exact ⟨_, congrArg Host.Outcome.next (State.tempStale_due hc hs h), by simp, State.on_raise rfl rfl (by decide) (by decide) ..,
      frame.regs, frame.memory⟩
  · have frame := s.learnAgain_frame (s.rd F.TM_TSEL_SRC m.copy)
    refine ⟨_, congrArg Host.Outcome.next (State.write_alone ha ..), ?_, ?_, State.answer_reply .., frame.regs, frame.memory⟩
    · rw [State.on, State.rd_reply, State.learnAgain, State.rd_wr_apart rfl, State.rd_wr rfl]
      rfl
    · rw [State.timeSource_reply, State.timeSource_learnAgain]
  · exact ⟨_, congrArg Host.Outcome.next (State.write_alone ha ..), rfl, rfl, State.answer_reply .., rfl, rfl, rfl, rfl⟩
  · have frame := s.resetModel_frame
    refine ⟨_, congrArg Host.Outcome.next (State.write_alone ha ..), rfl, ?_, ?_, State.answer_reply .., frame.regs, frame.memory⟩
    · rw [State.rd_reply, State.resetModel, State.rd_wr_apart rfl, State.rd_wr_fits rfl (by decide)]
    · rw [State.rd_reply, State.resetModel, State.rd_wr_fits rfl (by decide)]

end Sys2Proof.Machine
end

section
/-! A mate pair's journaled writes (O60). -/

namespace Sys2Proof.Machine

namespace State

variable {s : State} {m : Initiator}

/-- On a standby a write is refused (R431). -/
theorem write_standby (hm : m.journals = true) (h : s.standby = true) (a : Nat) (w : Write) (f : State → State) :
    s.write m a w f = s.refuseLocal m a := by simp [write, hm, h]

/-- Active and standby are different roles (R426). -/
theorem standby_of_active (h : s.active = true) : s.standby = false := by
  have role : s.rd F.MT_STAT_STATE 0 = 1 := by simpa [active] using h
  simp [standby, role]

/-- On the active device a write enters the journal (R430). -/
theorem write_active (hm : m.journals = true) (h : s.active = true) (a : Nat) (w : Write) (f : State → State) :
    s.write m a w f = (s.journalEntry w).reply m (.ok 0) := by simp [write, hm, h, standby_of_active h]

@[simp] theorem answer_raise (s : State) (f : Field) (i k : Nat) : (s.raise f i).answer k = s.answer k := by
  rw [answer, raise_answers, ← answer]

/-- A refused write: the error response, LOCAL_WR, and the error record only (R431). -/
theorem refuseLocal_refuses (s : State) (m : Initiator) (a : Nat) :
    (s.refuseLocal m a).answer m.copy = .error .target ∧ (s.refuseLocal m a).on F.MT_STICKY_LOCAL_WR 0 = true ∧
      (s.refuseLocal m a).journal = s.journal ∧
      s.OnlyCopy (s.refuseLocal m a) 0 [.BM_ERR, .BM_ERR_ADDR, .BM_STICKY, .MT_STICKY] := by
  have recorded : s.OnlyCopy (s.busError m true a .target) 0 [.BM_ERR, .BM_ERR_ADDR, .BM_STICKY] :=
    ⟨s.busError_onlyAt m true a .target, s.busError_sameMemory m true a .target⟩
  refine ⟨?_, on_raise rfl rfl (by decide) (by decide) .., ?_, (recorded.mono (by decide)).raise F.MT_STICKY_LOCAL_WR (by decide)⟩
  · rw [refuseLocal, answer_raise, answer_busError]
  · simp [refuseLocal]

/-- The entry that a write makes in the journal (R430). -/
def entryOf (s : State) (w : Write) : JEntry :=
  ⟨(s.rd F.MT_JSEQ_JSEQ 0 + 1) % 2 ^ 32, s.tick + BitVec.ofNat 48 (s.rd F.MT_CFG_JLEAD 0), s.now + s.rd F.MT_CFG_JLEAD 0, w⟩

@[simp] theorem rd_count (s : State) (c : Ctr) (n : Nat) (f : Field) (i : Nat) : (s.count c n).rd f i = s.rd f i := (rfl)
@[simp] theorem ctr_wr (s : State) (f : Field) (i v : Nat) (c : Ctr) : (s.wr f i v).ctr c = s.ctr c := (rfl)

/-- The next sequence number, its counter, and the entry. -/
theorem journalEntry_enters (s : State) (w : Write) :
    (s.journalEntry w).journal = s.journal ++ [s.entryOf w] ∧ (s.journalEntry w).rd F.MT_JSEQ_JSEQ 0 = (s.entryOf w).seq ∧
      (s.journalEntry w).ctr ⟨.mt, 5, 0⟩ = (s.ctr ⟨.mt, 5, 0⟩ + 1) % 2 ^ 48 ∧ s.OnlyCopy (s.journalEntry w) 0 [.MT_JSEQ] := by
  have written (x : List JEntry) (t : State) : { t with journal := x }.rd F.MT_JSEQ_JSEQ 0 = t.rd F.MT_JSEQ_JSEQ 0 := rfl
  have counted (x : List JEntry) (t : State) (c : Ctr) : { t with journal := x }.ctr c = t.ctr c := rfl
  refine ⟨rfl, ?_, ?_, ?_⟩
  · rw [journalEntry, written, rd_count, rd_wr rfl, show F.MT_JSEQ_JSEQ.width = 32 from rfl, Nat.mod_mod, entryOf]
  · rw [journalEntry, counted, ctr_count_same, ctr_wr]
  · exact ((OnlyCopy.refl s 0 [.MT_JSEQ]).wr F.MT_JSEQ_JSEQ (by decide) _).plain rfl

end State

/-- A command that is one write of a journaled kind. -/
def WritesOnly (m : Initiator) (c : Instr) (w : Write) (s : State) : Prop := ∃ a f, exec c s = .next (s.write m a w f)

/-- Settles O60: each of the sixteen commands is one such write, which a standby refuses and the active device journals. -/
theorem matesJournalWrites : Obligations.MatesJournalWrites := by
  intro m c w s hm hc
  have write : WritesOnly m c w s := by
    rcases hc with ⟨rfl, rfl⟩ | ⟨rfl, rfl⟩ | ⟨rfl, rfl⟩ | ⟨rfl, rfl⟩ | ⟨rfl, rfl⟩ | ⟨rfl, rfl⟩ | ⟨rfl, rfl⟩ | ⟨rfl, rfl⟩ | ⟨v, rfl, rfl⟩ |
      ⟨v, rfl, rfl⟩ | ⟨v, rfl, rfl⟩ | ⟨v, rfl, rfl⟩ | ⟨rfl, rfl⟩ | ⟨rfl, rfl⟩ | ⟨v, rfl, rfl⟩ | ⟨rfl, rfl⟩ <;> exact ⟨_, _, rfl⟩
  obtain ⟨a, f, runs⟩ := write
  refine ⟨fun h => ?_, fun h => ?_⟩
  · rw [State.write_standby hm h] at runs
    obtain ⟨answer, shown, journal, frame⟩ := s.refuseLocal_refuses m a
    exact ⟨_, runs, answer, shown, journal, frame.regs, frame.memory⟩
  · rw [State.write_active hm h] at runs
    obtain ⟨journal, seq, counted, frame⟩ := s.journalEntry_enters w
    exact ⟨_, s.entryOf w, runs, State.answer_reply .., journal, rfl, rfl, rfl, rfl, seq, counted, frame.regs, frame.memory⟩

end Sys2Proof.Machine
end

section
/-! Bytes of the memories: what a byte reads after bytes are written, and the bytes of a word. -/

namespace Sys2Proof.Machine

namespace Mem

/-! ### One byte -/

theorem find_drop (m : Mem) (a b : Nat) : find (drop m a) b = if a = b then none else find m b := by
  induction m with
  | nil => simp [drop, find]
  | cons x t ih =>
    obtain ⟨k, v⟩ := x
    by_cases hk : k = a
    · subst hk
      simp only [drop, Nat.beq_refl, if_true, ih, find]
      split
      · rfl
      next h => simp [h]
    · simp only [drop, find, Nat.beq_eq, hk, if_false, ih]
      split
      next h => rw [if_neg (fun e => hk (h.trans e.symm))]
      · rfl

theorem find_place {m : Mem} {a : Nat} (h : find m a = none) (v : Byte) (b : Nat) :
    find (place m a v) b = if a = b then some v else find m b := by
  induction m with
  | nil => simp [place, find]
  | cons x t ih =>
    obtain ⟨k, w⟩ := x
    have hk : k ≠ a := by
      rintro rfl
      simp [find] at h
    have ht : find t a = none := by simpa [find, hk] using h
    simp only [place]
    split
    · simp [find]
    · simp only [find, Nat.beq_eq, ih ht]
      split
      next e => rw [if_neg (fun e' => hk (e.trans e'.symm))]
      · rfl

theorem find_replace (m : Mem) (a : Nat) (v : Byte) (b : Nat) : find (place (drop m a) a v) b = if a = b then some v else find m b := by
  rw [find_place (find_drop_self m a), find_drop]
  split
  · rfl
  · rfl

theorem read_write (m : Mem) (a : Nat) (v : Byte) (b : Nat) : read (write m a v) b = if a = b then v else read m b := by
  unfold read write
  by_cases hv : v = blank
  · rw [if_pos hv, find_drop]
    split
    · rw [hv]
      rfl
    · rfl
  · rw [if_neg hv, find_replace]
    split
    · rfl
    · rfl

/-! ### Bytes in a row -/

theorem read_writeBytes_other (m : Mem) {a b : Nat} {l : List Byte} (h : b < a ∨ a + l.length ≤ b) :
    read (writeBytes m a l) b = read m b := by
  induction l generalizing m a with
  | nil => rfl
  | cons x l ih =>
    rw [List.length_cons] at h
    rw [writeBytes, ih _ (by omega), read_write, if_neg (by omega)]

theorem read_writeBytes (m : Mem) (a : Nat) {l : List Byte} {k : Nat} (h : k < l.length) : read (writeBytes m a l) (a + k) = l[k] := by
  induction l generalizing m a k with
  | nil => cases h
  | cons x l ih =>
    cases k with
    | zero => rw [Nat.add_zero, writeBytes, read_writeBytes_other _ (by omega), read_write, if_pos rfl, List.getElem_cons_zero]
    | succ k => rw [writeBytes, show a + (k + 1) = a + 1 + k by omega, ih _ _ (Nat.lt_of_succ_lt_succ h), List.getElem_cons_succ]

theorem find_keep_other (m : Mem) {a b : Nat} {l : List Byte} (h : b < a ∨ a + l.length ≤ b) : find (keep m a l) b = find m b := by
  induction l generalizing m a with
  | nil => rfl
  | cons x l ih =>
    rw [List.length_cons] at h
    rw [keep, ih _ (by omega), find_replace, if_neg (by omega)]

theorem find_keep (m : Mem) (a : Nat) {l : List Byte} {k : Nat} (h : k < l.length) : find (keep m a l) (a + k) = some l[k] := by
  induction l generalizing m a k with
  | nil => cases h
  | cons x l ih =>
    cases k with
    | zero => rw [Nat.add_zero, keep, find_keep_other _ (by omega), find_replace, if_pos rfl, List.getElem_cons_zero]
    | succ k =>
      rw [keep, show a + (k + 1) = a + 1 + k by omega, ih _ _ (Nat.lt_of_succ_lt_succ h), List.getElem_cons_succ]

theorem find_filter (m : Mem) (p : Nat → Bool) (b : Nat) : find (m.filter fun c => p c.1) b = if p b then find m b else none := by
  induction m with
  | nil => simp [find]
  | cons x t ih =>
    obtain ⟨k, v⟩ := x
    by_cases hk : k = b
    · subst hk
      by_cases hp : p k <;> simp [hp, find, ih]
    · by_cases hp : p k <;> simp [hp, find, ih, hk]

/-! ### Words -/

@[simp] theorem length_ofNatLE (n v : Nat) : (ofNatLE n v).length = n := by
  induction n generalizing v with
  | zero => rfl
  | succ n ih => rw [ofNatLE, List.length_cons, ih]

theorem getElem_ofNatLE {n v k : Nat} (h : k < (ofNatLE n v).length) : (ofNatLE n v)[k] = BitVec.ofNat 8 (v / 256 ^ k) := by
  induction n generalizing v k with
  | zero => simp [ofNatLE] at h
  | succ n ih =>
    cases k with
    | zero => simp [ofNatLE]
    | succ k =>
      simp only [ofNatLE, List.getElem_cons_succ]
      rw [ih, Nat.div_div_eq_div_mul, pow_succ']

@[simp] theorem length_readBytes (m : Mem) (a n : Nat) : (readBytes m a n).length = n := by
  induction n generalizing a with
  | zero => rfl
  | succ n ih => rw [readBytes, List.length_cons, ih]

theorem getElem_readBytes {m : Mem} {a n k : Nat} (h : k < (readBytes m a n).length) : (readBytes m a n)[k] = read m (a + k) := by
  induction n generalizing a k with
  | zero => simp [readBytes] at h
  | succ n ih =>
    cases k with
    | zero => simp [readBytes]
    | succ k =>
      simp only [readBytes, List.getElem_cons_succ]
      rw [ih, show a + 1 + k = a + (k + 1) by omega]

theorem toNatLE_div (l : List Byte) {k : Nat} (h : k < l.length) : toNatLE l / 256 ^ k % 256 = l[k].toNat := by
  induction l generalizing k with
  | nil => cases h
  | cons x l ih =>
    cases k with
    | zero =>
      have byte := x.isLt
      simp only [toNatLE, pow_zero, Nat.div_one, List.getElem_cons_zero]
      omega
    | succ k =>
      have byte := x.isLt
      have rest : (x.toNat + 256 * toNatLE l) / 256 = toNatLE l := by omega
      rw [toNatLE, pow_succ', ← Nat.div_div_eq_div_mul, rest, ih (Nat.lt_of_succ_lt_succ h), List.getElem_cons_succ]

theorem toNatLE_ofNatLE (n v : Nat) : toNatLE (ofNatLE n v) = v % 256 ^ n := by
  induction n generalizing v with
  | zero => simp [toNatLE, ofNatLE, Nat.mod_one]
  | succ n ih => rw [ofNatLE, toNatLE, ih, BitVec.toNat_ofNat, pow_succ' 256, Nat.mod_mul, show 2 ^ 8 = 256 from rfl]

/-- The bytes of a number that fits a word of 128 bits, one by one. -/
theorem extractLsb'_ofNat (v : Nat) {k : Nat} (h : k < 16) :
    (BitVec.ofNat 128 v).extractLsb' (8 * k) 8 = BitVec.ofNat 8 (v / 256 ^ k) := by
  have shift : v / 256 ^ k = v >>> (8 * k) := by rw [Nat.shiftRight_eq_div_pow, pow_mul, show 2 ^ 8 = 256 from rfl]
  apply BitVec.eq_of_toNat_eq
  rw [BitVec.extractLsb'_toNat, BitVec.toNat_ofNat, BitVec.toNat_ofNat, shift]
  refine Nat.eq_of_testBit_eq fun j => ?_
  simp only [Nat.testBit_mod_two_pow, Nat.testBit_shiftRight]
  by_cases hj : j < 8
  · rw [decide_eq_true (show 8 * k + j < 128 by omega), Bool.true_and]
  · simp [hj]

/-- The byte of a word at an address. -/
theorem readWide_byte (m : Mem) (a : Nat) {k : Nat} (h : k < 16) : (readWide m a).extractLsb' (8 * k) 8 = read m (a + k) := by
  have len : k < (readBytes m a 16).length := by simpa using h
  rw [readWide, extractLsb'_ofNat _ h]
  apply BitVec.eq_of_toNat_eq
  rw [BitVec.toNat_ofNat, toNatLE_div _ len, getElem_readBytes]

/-- A word of 16 bytes comes back as it was. -/
theorem ofNat_toNatLE_ofNatLE (w : BitVec 128) : BitVec.ofNat 128 (toNatLE (ofNatLE 16 w.toNat)) = w := by
  rw [toNatLE_ofNatLE, show 256 ^ 16 = 2 ^ 128 by norm_num, Nat.mod_eq_of_lt w.isLt, BitVec.ofNat_toNat, BitVec.setWidth_eq]

theorem getElem_ofNatLE_word (w : BitVec 128) {k : Nat} (h : k < (ofNatLE 16 w.toNat).length) :
    (ofNatLE 16 w.toNat)[k] = w.extractLsb' (8 * k) 8 := by
  have small : k < 16 := by simpa using h
  rw [getElem_ofNatLE, ← extractLsb'_ofNat _ small, BitVec.ofNat_toNat, BitVec.setWidth_eq]

end Mem

/-! ### Strobes (R513) -/

/-- The bits of the first bytes whose strobes are set. -/
def strobeMask (strobes : BitVec 16) (n : Nat) : BitVec 128 :=
  (List.range n).foldl (fun acc i => if strobes.getLsbD i then acc ||| (BitVec.ofNat 128 255 <<< (8 * i)) else acc) 0

theorem mergeStrobes_eq (strobes : BitVec 16) (old new : BitVec 128) :
    mergeStrobes strobes old new = (old &&& ~~~ strobeMask strobes 16) ||| (new &&& strobeMask strobes 16) := rfl

theorem getLsbD_strobeMask (strobes : BitVec 16) (n : Nat) {k j : Nat} (hk : k < 16) (hj : j < 8) :
    (strobeMask strobes n).getLsbD (8 * k + j) = (decide (k < n) && strobes.getLsbD k) := by
  induction n with
  | zero => simp [strobeMask]
  | succ n ih =>
    have step : strobeMask strobes (n + 1) =
        if strobes.getLsbD n then strobeMask strobes n ||| (BitVec.ofNat 128 255 <<< (8 * n)) else strobeMask strobes n := by
      simp [strobeMask, List.range_succ]
    have byte : (BitVec.ofNat 128 255 <<< (8 * n)).getLsbD (8 * k + j) = decide (k = n) := by
      have ones : Nat.testBit 255 (8 * k + j - 8 * n) = decide (8 * k + j - 8 * n < 8) := Nat.testBit_two_pow_sub_one 8 _
      simp only [BitVec.getLsbD_shiftLeft, BitVec.getLsbD_ofNat, ones]
      rw [Bool.eq_iff_iff]
      simp
      omega
    rw [step]
    by_cases hs : strobes.getLsbD n
    · rw [if_pos hs, BitVec.getLsbD_or, ih, byte]
      by_cases hn : k = n
      · simp [hn, hs]
      · simp [hn, show k < n + 1 ↔ k < n by omega]
    · rw [if_neg hs, ih]
      by_cases hn : k = n
      · simp [hn, hs]
      · simp [show k < n + 1 ↔ k < n by omega]

/-- Each byte of a word is replaced where its strobe is set. -/
theorem mergeStrobes_byte (strobes : BitVec 16) (old new : BitVec 128) {k : Nat} (hk : k < 16) :
    (mergeStrobes strobes old new).extractLsb' (8 * k) 8 =
      if strobes.getLsbD k then new.extractLsb' (8 * k) 8 else old.extractLsb' (8 * k) 8 := by
  ext j hj
  have inside : 8 * k + j < 128 := by omega
  have mask : (strobeMask strobes 16)[8 * k + j] = strobes.getLsbD k := by
    rw [← BitVec.getLsbD_eq_getElem, getLsbD_strobeMask strobes 16 hk hj, decide_eq_true hk, Bool.true_and]
  rw [mergeStrobes_eq, BitVec.getElem_extractLsb', BitVec.getLsbD_eq_getElem inside, BitVec.getElem_or, BitVec.getElem_and,
    BitVec.getElem_and, BitVec.getElem_not, mask]
  cases strobes.getLsbD k <;> simp [inside]

end Sys2Proof.Machine
end

section
/-! One beat at the on-chip memories (O32), with what the error record and the ECC counters take. -/

namespace Sys2Proof.Machine

namespace State

variable {s : State}

/-! ### The error record (R513) -/

@[simp] theorem rd_accessFault (s : State) (m : Initiator) (cause addr : Nat) (f : Field) (i : Nat) :
    (s.accessFault m cause addr).rd f i = s.rd f i := rd_congr (accessFault_regs ..) f i

/-- The record of an error response: cause, master, direction and address, and the event. -/
theorem busError_record (s : State) (m : Initiator) (write : Bool) (addr : Nat) (c : BusCause) :
    (s.busError m write addr c).rd F.BM_ERR_CAUSE 0 = c.code % 2 ^ F.BM_ERR_CAUSE.width ∧
      (s.busError m write addr c).rd F.BM_ERR_MASTER 0 = m.num.val % 2 ^ F.BM_ERR_MASTER.width ∧
      (s.busError m write addr c).on F.BM_ERR_WRITE 0 = write ∧
      (s.busError m write addr c).rd F.BM_ERR_ADDR_ADDR 0 = addr % 2 ^ F.BM_ERR_ADDR_ADDR.width ∧
      (s.busError m write addr c).on F.BM_STICKY_BUS_ERR 0 = true := by
  have kept {f : Field} (h : F.BM_STICKY_BUS_ERR.apart f = true) (e1 : f.reg ≠ .EV_STICKY) (e2 : f.reg ≠ .EV_SRC_CNT) (t : State) (x : Nat) :
      (((t.raise F.BM_STICKY_BUS_ERR 0).accessFault m x addr).reply m (.error c)).rd f 0 = t.rd f 0 := by
    rw [rd_reply, rd_accessFault, rd_raise_apart h e1 e2]
  have raised (t : State) (x : Nat) :
      (((t.raise F.BM_STICKY_BUS_ERR 0).accessFault m x addr).reply m (.error c)).on F.BM_STICKY_BUS_ERR 0 = true := by
    rw [on, rd_reply, rd_accessFault, ← on, on_raise rfl rfl (by decide) (by decide)]
  have written (t : State) : (t.wrBool F.BM_ERR_WRITE 0 write).rd F.BM_ERR_WRITE 0 = write.toNat := by
    cases write <;> exact rd_wr_fits rfl (by decide) t 0
  unfold busError
  dsimp only
  refine ⟨?_, ?_, ?_, ?_, raised _ _⟩
  · rw [kept rfl (by decide) (by decide), rd_wr_apart rfl, incSat, rd_wr_apart rfl, rd_wr rfl]
  · rw [kept rfl (by decide) (by decide), rd_wr_apart rfl, incSat, rd_wr_apart rfl, rd_wr_apart rfl, wrBool, rd_wr_apart rfl, wrBool,
      rd_wr_apart rfl, rd_wr rfl]
  · rw [on, kept rfl (by decide) (by decide), rd_wr_apart rfl, incSat, rd_wr_apart rfl, rd_wr_apart rfl, written]
    cases write <;> rfl
  · rw [kept rfl (by decide) (by decide), rd_wr rfl]

theorem busError_within (s : State) (m : Initiator) (write : Bool) (addr : Nat) (c : BusCause) :
    s.OnlyCopy (s.busError m write addr c) 0 [.BM_ERR, .BM_ERR_ADDR, .BM_STICKY] :=
  ⟨s.busError_onlyAt m write addr c, s.busError_sameMemory m write addr c⟩

/-! ### ECC (R488, R489) -/

theorem eccCorr_sram {cls : Nat} (h : cls ≤ 3) (s : State) :
    s.eccCorr cls = (s.incWrap F.MM_ECC_CNT_CORR cls 1).raise F.MM_STICKY_SRAM_CORR 0 := if_pos h

theorem eccCorr_counts {cls : Nat} (h : cls ≤ 3) (s : State) :
    (s.eccCorr cls).rd F.MM_ECC_CNT_CORR cls = (s.rd F.MM_ECC_CNT_CORR cls + 1) % 2 ^ 16 ∧
      (s.eccCorr cls).on F.MM_STICKY_SRAM_CORR 0 = true ∧ s.Within (s.eccCorr cls) [.MM_ECC_CNT, .MM_STICKY] := by
  rw [eccCorr_sram h]
  refine ⟨?_, on_raise rfl rfl (by decide) (by decide) .., ?_⟩
  · rw [rd_raise_apart rfl (by decide) (by decide), incWrap, rd_wr rfl]
    rfl
  · exact ((Within.refl s [.MM_ECC_CNT, .MM_STICKY]).incWrap F.MM_ECC_CNT_CORR (by decide) cls 1).raise F.MM_STICKY_SRAM_CORR (by decide) 0

/-- The address of an uncorrectable error is recorded (R489). -/
def noteEccAddr (s : State) (cls addr : Nat) : State :=
  { s.wr F.MM_ECC_ADDR_LO_ADDR_LO 0 addr with eccHigh := cls * 2 ^ 29 + addr / 2 ^ 32 % 1024 }

@[simp] theorem rd_noteEccAddr (s : State) (cls addr : Nat) (f : Field) (i : Nat) :
    (s.noteEccAddr cls addr).rd f i = (s.wr F.MM_ECC_ADDR_LO_ADDR_LO 0 addr).rd f i := (rfl)

theorem Within.noteEccAddr {t : State} {rs : List Reg} (h : s.Within t rs) (hr : .MM_ECC_ADDR_LO ∈ rs) (cls addr : Nat) :
    s.Within (t.noteEccAddr cls addr) rs := Within.plain (h.wr F.MM_ECC_ADDR_LO_ADDR_LO hr 0 addr) rfl

theorem eccUncorr_sram {cls : Nat} (h : cls ≤ 3) (s : State) (addr : Nat) :
    s.eccUncorr cls addr = ((s.incWrap F.MM_ECC_CNT_UNCORR cls 1).noteEccAddr cls addr).raise F.MM_STICKY_SRAM_UNCORR 0 := by
  rw [eccUncorr, if_neg (by omega)]
  exact if_pos h

/-- An uncorrectable error of an SRAM is counted, recorded with its address, and reported (R489). -/
theorem eccUncorr_counts {cls : Nat} (h : cls ≤ 3) (s : State) (addr : Nat) :
    (s.eccUncorr cls addr).rd F.MM_ECC_CNT_UNCORR cls = (s.rd F.MM_ECC_CNT_UNCORR cls + 1) % 2 ^ 16 ∧
      (s.eccUncorr cls addr).rd F.MM_ECC_ADDR_LO_ADDR_LO 0 = addr % 2 ^ 32 ∧
      (s.eccUncorr cls addr).on F.MM_STICKY_SRAM_UNCORR 0 = true ∧
      s.Within (s.eccUncorr cls addr) [.MM_ECC_CNT, .MM_ECC_ADDR_LO, .MM_STICKY] := by
  rw [eccUncorr_sram h]
  refine ⟨?_, ?_, on_raise rfl rfl (by decide) (by decide) .., ?_⟩
  · rw [rd_raise_apart rfl (by decide) (by decide), rd_noteEccAddr, rd_wr_apart rfl, incWrap, rd_wr rfl]
    rfl
  · rw [rd_raise_apart rfl (by decide) (by decide), rd_noteEccAddr, rd_wr rfl]
    rfl
  · exact (((Within.refl s [.MM_ECC_CNT, .MM_ECC_ADDR_LO, .MM_STICKY]).incWrap F.MM_ECC_CNT_UNCORR (by decide) cls 1).noteEccAddr
      (by decide) cls addr).raise F.MM_STICKY_SRAM_UNCORR (by decide) 0

/-! ### A burst of one beat (R513, R516) -/

theorem burst_one {b : Burst} {x : Beat} (h : b.beats = [x]) (s : State) (m : Initiator) (one : State → Nat → Beat → BeatEnd × State) :
    s.burst m b one = ((one s b.addr x).2.beatEnds m b b.addr (one s b.addr x).1).reply m (.beats [(one s b.addr x).1]) := by
  simp [burst, h, beatAddr]

/-- A beat that is done is not reported. -/
theorem beatEnds_ok (s : State) (m : Initiator) (b : Burst) (addr : Nat) (v : BitVec 128) : s.beatEnds m b addr (.ok v) = s := by
  simp [beatEnds]

theorem beatEnds_error {b : Burst} (h : b.fetch = false) (s : State) (m : Initiator) (addr : Nat) (c : BusCause) :
    s.beatEnds m b addr (.error c) = s.busError m b.write addr c := by
  simp [beatEnds, h]

/-! ### The memories (R483 to R489) -/

theorem remap_high {a : Nat} (h : 0x40000 ≤ a) (s : State) : s.remap a = a := if_neg (by omega)

/-- The ECC class of an address is its target's number. -/
theorem eccClass_of_memTarget {a k : Nat} (h : memTarget a = some k) : eccClass a = k := by
  unfold memTarget at h
  simp only [Bool.and_eq_true, decide_eq_true_eq] at h
  unfold eccClass
  split at h
  · rw [if_pos (by omega)]
    exact Option.some.inj h
  · split at h
    · rw [if_neg (by omega), if_pos (by omega)]
      exact Option.some.inj h
    · split at h
      · rw [if_neg (by omega), if_neg (by omega)]
        exact Option.some.inj h
      · cases h

theorem lt_of_memTarget {a k : Nat} (h : memTarget a = some k) : a < 0x12800000 := by
  unfold memTarget at h
  simp only [Bool.and_eq_true, decide_eq_true_eq] at h
  by_contra hn
  rw [if_neg (by omega), if_neg (by omega), if_neg (by omega)] at h
  cases h

theorem memBeat_target {b : Burst} {k : Nat} (h : 0x40000 ≤ b.addr) (ht : memTarget b.addr = some k) (s : State) (x : Beat) :
    s.memBeat b b.addr x = s.sramBeat b.write b.addr x := by
  simp [memBeat, remap_high h, ht]

theorem memBeat_none {b : Burst} (h : 0x40000 ≤ b.addr) (ht : memTarget b.addr = none) (s : State) (x : Beat) :
    s.memBeat b b.addr x = (.error .default, s) := by
  simp [memBeat, remap_high h, ht]

/-- With no region borrowed and no ECC error an access finds the word as it is. -/
theorem sramSeen_clean (h : s.march.borrowed = none) (reads : Bool) (addr : Nat) : s.sramSeen reads addr .clean = s := by
  have touched : s.touch addr = s := by simp [touch, h]
  simp [sramSeen, touched]

theorem wordAddr_div (a : Nat) : wordAddr a / 16 = a / 16 := by
  unfold wordAddr
  omega

/-- A word that is good is written with its strobes. -/
def strobed (s : State) (a : Nat) (x : Beat) : State :=
  s.sramWord (wordAddr a) (Mem.ofNatLE 16 (mergeStrobes x.strobes (Mem.readWide s.mem (wordAddr a)) x.data).toNat)

section

variable {a k : Nat} {x : Beat} (hk : eccClass a = k) (hb : s.march.borrowed = none) (he : x.ecc = .clean) (hp : x.portB = none)

include hk hb he hp

/-- A write beat at a good word of an SRAM replaces its strobed bytes. -/
theorem sramBeat_write (h0 : k ≠ 0) (hg : s.badWords.contains (a / 16) = false) :
    s.sramBeat true a x = (.ok 0, s.strobed a x) := by
  have zero : (k == 0) = false := by simpa using h0
  simp only [sramBeat, he, sramSeen_clean hb, wordAddr_div, hg, hk, zero, Bool.false_and, Bool.false_eq_true, if_false, sramOld]
  simp [sramEnd, portOutcome, hp, sramPut, strobed]

/-- A read beat answers the word, unless it is lost. -/
theorem sramBeat_read (h0 : k ≠ 0) :
    s.sramBeat false a x = if s.badWords.contains (a / 16) then (.error .target, s.eccUncorr k (wordAddr a))
      else (.ok (Mem.readWide s.mem (wordAddr a)), s) := by
  have zero : (k == 0) = false := by simpa using h0
  simp only [sramBeat, he, sramSeen_clean hb, wordAddr_div, hk, zero, Bool.false_and, Bool.and_false, Bool.false_eq_true, if_false, sramOld]
  cases hg : s.badWords.contains (a / 16) <;> simp [sramEnd, portOutcome, hp, sramPut, Beat.portWrites]

omit hp

/-- The boot ROM takes no write. -/
theorem sramBeat_rom (h0 : k = 0) : s.sramBeat true a x = (.error .target, s) := by
  subst h0
  simp [sramBeat, he, sramSeen_clean hb, hk]

end

/-! ### The bytes after a write -/

theorem mem_strobed (s : State) (a : Nat) (x : Beat) {k : Nat} (hk : k < 16) :
    Mem.read (s.strobed a x).mem (wordAddr a + k) =
      if x.strobes.getLsbD k then x.data.extractLsb' (8 * k) 8 else Mem.read s.mem (wordAddr a + k) := by
  have len : k < (Mem.ofNatLE 16 (mergeStrobes x.strobes (Mem.readWide s.mem (wordAddr a)) x.data).toNat).length := by simpa using hk
  rw [strobed, sramWord, Mem.read_writeBytes _ _ len, Mem.getElem_ofNatLE_word, mergeStrobes_byte _ _ _ hk, Mem.readWide_byte _ _ hk]

theorem mem_strobed_other (s : State) (a : Nat) (x : Beat) {b : Nat} (hb : b < wordAddr a ∨ wordAddr a + 16 ≤ b) :
    Mem.read (s.strobed a x).mem b = Mem.read s.mem b := Mem.read_writeBytes_other _ (by simpa using hb)

theorem badWords_strobed {a : Nat} (h : s.badWords.contains (a / 16) = false) (x : Beat) : (s.strobed a x).badWords = s.badWords := by
  rw [strobed, sramWord, wordAddr_div]
  refine List.filter_eq_self.2 fun w hw => bne_iff_ne.2 ?_
  rintro rfl
  rw [List.contains_iff_mem.2 hw] at h
  cases h

end State

/-- Settles O32: a burst of one beat is that beat, and the beat does what its target and direction say. -/
theorem onChipBeatsReadAndWriteTheirWord : Obligations.OnChipBeatsReadAndWriteTheirWord := by
  intro m b x c s hc hx hf he hp hm ha
  have run : exec c s = .next (((s.memBeat b b.addr x).2.beatEnds m b b.addr (s.memBeat b b.addr x).1).reply m
      (.beats [(s.memBeat b b.addr x).1])) := by
    have access : exec c s = .next (s.memAccess m b) := by rcases hc with rfl | rfl | rfl <;> rfl
    rw [access, State.memAccess, State.burst_one hx]
  have sram (ht : memTarget b.addr = some 1 ∨ memTarget b.addr = some 2) :
      ∃ k, memTarget b.addr = some k ∧ eccClass b.addr = k ∧ k ≠ 0 ∧ k ≤ 3 := by
    rcases ht with ht | ht
    · exact ⟨1, ht, State.eccClass_of_memTarget ht, by decide, by decide⟩
    · exact ⟨2, ht, State.eccClass_of_memTarget ht, by decide, by decide⟩
  rw [run]
  refine ⟨fun ht hw hg => ?_, fun ht hw hg => ?_, fun ht hw hg => ?_, fun ht hw => ?_, fun ht => ?_⟩
  · obtain ⟨k, ht, hk, h0, -⟩ := sram ht
    rw [State.memBeat_target ha ht, hw, State.sramBeat_write hk hm he hp h0 hg, State.beatEnds_ok]
    exact ⟨_, rfl, State.answer_reply .., fun j hj => s.mem_strobed b.addr x hj, fun a h => s.mem_strobed_other b.addr x h,
      State.badWords_strobed hg x, rfl, rfl⟩
  · obtain ⟨k, ht, hk, h0, -⟩ := sram ht
    rw [State.memBeat_target ha ht, hw, State.sramBeat_read hk hm he hp h0, hg, if_neg Bool.false_ne_true, State.beatEnds_ok]
    exact ⟨_, rfl, State.answer_reply .., rfl, rfl, rfl, rfl, rfl⟩
  · obtain ⟨k, ht, hk, h0, h3⟩ := sram ht
    have fits : wordAddr b.addr % 2 ^ 32 = wordAddr b.addr := by
      have low := State.lt_of_memTarget ht
      unfold wordAddr
      omega
    rw [State.memBeat_target ha ht, hw, State.sramBeat_read hk hm he hp h0, hg, if_pos rfl, State.beatEnds_error hf, hk]
    obtain ⟨counted, addressed, shown, counts⟩ := State.eccUncorr_counts h3 s (wordAddr b.addr)
    obtain ⟨cause, master, -, -, error⟩ := (s.eccUncorr k (wordAddr b.addr)).busError_record m b.write b.addr .target
    have record := ((s.eccUncorr k (wordAddr b.addr)).busError_within m b.write b.addr .target).within
    have frame := (counts.mono (qs := [.MM_ECC_CNT, .MM_ECC_ADDR_LO, .MM_STICKY, .BM_ERR, .BM_ERR_ADDR, .BM_STICKY]) (by decide)).trans
      (record.mono (by decide))
    have kept {f : Field} (h : f.reg ∉ [.BM_ERR, .BM_ERR_ADDR, .BM_STICKY]) (h1 : f.reg ≠ .EV_STICKY) (h2 : f.reg ≠ .EV_SRC_CNT) (i : Nat) :=
      record.regs.rd_eq (f := f) h h1 h2 i
    refine ⟨_, rfl, State.answer_reply .., ?_, ?_, ?_, cause, ?_, error, frame.regs, frame.memory⟩
    · exact (kept (by decide) (by decide) (by decide) _).trans counted
    · exact (kept (by decide) (by decide) (by decide) _).trans (addressed.trans fits)
    · exact (congrArg (· == 1) (kept (by decide) (by decide) (by decide) _)).trans shown
    · exact master.trans (Nat.mod_eq_of_lt (lt_of_lt_of_le m.num.isLt (by decide)))
  · rw [State.memBeat_target ha ht, hw, State.sramBeat_rom (State.eccClass_of_memTarget ht) hm he rfl, State.beatEnds_error hf]
    have record := s.busError_record m b.write b.addr .target
    have frame := (s.busError_within m b.write b.addr .target).within
    exact ⟨_, rfl, State.answer_reply .., record.1, frame.regs, frame.memory⟩
  · rw [State.memBeat_none ha ht, State.beatEnds_error hf]
    have record := s.busError_record m b.write b.addr .default
    have frame := (s.busError_within m b.write b.addr .default).within
    exact ⟨_, rfl, State.answer_reply .., record.1, frame.regs, frame.memory⟩

end Sys2Proof.Machine
end

section
/-! The Anchorage through the aperture: a written word reads back (O33). -/

namespace Sys2Proof.Machine

theorem mergeStrobes_full (old new : BitVec 128) : mergeStrobes 0xFFFF old new = new := by
  have mask : strobeMask 0xFFFF 16 = BitVec.allOnes 128 := by decide
  rw [mergeStrobes_eq, mask, BitVec.not_allOnes, BitVec.and_zero, BitVec.zero_or, BitVec.and_allOnes]

namespace State

variable {s : State} {a : Nat} {x : Beat}

/-! ### Words of the Anchorage (R508) -/

theorem regs_ancWrite (s : State) (a : Nat) (bytes : List Byte) : (s.ancWrite a bytes).regs = s.regs := rfl
theorem mem_ancWrite (s : State) (a : Nat) (bytes : List Byte) : (s.ancWrite a bytes).mem = s.mem := rfl
theorem anc_ancWrite (s : State) (a : Nat) (bytes : List Byte) : (s.ancWrite a bytes).anc = Mem.keep s.anc a bytes := rfl

theorem contains_written_ancWrite (s : State) (a : Nat) (bytes : List Byte) :
    (s.ancWrite a bytes).written.contains (a / 2 ^ 20) = true := by
  simp [ancWrite, Classical.em]

theorem ancBad_ancWrite (h : s.ancBad.contains a = false) (b : Nat) (bytes : List Byte) : (s.ancWrite b bytes).ancBad.contains a = false := by
  simp only [List.contains_eq_mem, decide_eq_false_iff_not] at h
  simp [ancWrite, h]

/-- Bytes that are all written read as they are, and no value is drawn. -/
theorem ancRead_found {l : List Byte} (h : ∀ k (hk : k < l.length), Mem.find s.anc (a + k) = some l[k]) : s.ancRead a l.length = (l, s) := by
  induction l generalizing a with
  | nil => rfl
  | cons b l ih =>
    have first : s.ancByte a = (b, s) := by simp [ancByte, show Mem.find s.anc a = some b from h 0 (Nat.succ_pos _)]
    have rest : s.ancRead (a + 1) l.length = (l, s) := ih fun k hk => by
      rw [show a + 1 + k = a + (k + 1) by omega]
      exact h (k + 1) (Nat.succ_lt_succ hk)
    simp only [List.length_cons, ancRead, first, rest]

/-! ### Places (R498, R499) -/

theorem apertureAddr_congr {t : State} {m m2 : Initiator} (h : t.regs = s.regs)
    (hp : s.rd F.MM_APERTURE_PAGE m2.copy = s.rd F.MM_APERTURE_PAGE m.copy) (a : Nat) : t.apertureAddr m2 a = s.apertureAddr m a :=
  congrArg (· * 2 ^ 30 + (a - 0x40000000)) ((rd_congr h ..).trans hp)

theorem ancExists_congr {t : State} (h : t.regs = s.regs) (a : Nat) : t.ancExists a = s.ancExists a := by
  have near : t.nearSize = s.nearSize := by simp [nearSize, on, rd_congr h]
  have deep : t.deepSize = s.deepSize := by simp [deepSize, on, rd_congr h]
  simp only [ancExists, near, deep]

/-! ### Beats (R499, R503) -/

/-- A whole word without ECC error is written to an installed place that is not protected. -/
theorem ancBeat_write (he : s.ancExists a = true) (hp : s.ancProtected (wordAddr a) = false) (hx : x.strobes = 0xFFFF) (hc : x.ecc = .clean) :
    s.ancBeat true a x = (.ok 0, s.ancWrite (wordAddr a) (Mem.ofNatLE 16 x.data.toNat)) := by
  have full (old : BitVec 128) : mergeStrobes 65535#16 old x.data = x.data := mergeStrobes_full old x.data
  simp [ancBeat, he, hp, ancSeen, hc, ancEnd, ancOld, hx, full]

theorem ancBeat_protected (he : s.ancExists a = true) (hp : s.ancProtected (wordAddr a) = true) :
    s.ancBeat true a x = (.error .target, s.raise F.MM_STICKY_PROT_WR 0) := by
  simp [ancBeat, he, hp]

theorem ancBeat_absent (he : s.ancExists a = false) (write : Bool) : s.ancBeat write a x = (.error .default, s) := by
  simp [ancBeat, he]

/-- A word whose bytes are written is read without ECC error. -/
theorem ancBeat_read (he : s.ancExists a = true) (hc : x.ecc = .clean) (hb : s.ancBad.contains (wordAddr a / 64) = false) {w : BitVec 128}
    (h : ∀ k (hk : k < (Mem.ofNatLE 16 w.toNat).length), Mem.find s.anc (wordAddr a + k) = some (Mem.ofNatLE 16 w.toNat)[k]) :
    s.ancBeat false a x = (.ok w, s) := by
  have read : s.ancRead (wordAddr a) 16 = (Mem.ofNatLE 16 w.toNat, s) := by
    have found := ancRead_found h
    rwa [Mem.length_ofNatLE] at found
  have good : wordAddr a / 64 ∉ s.ancBad := by simpa using hb
  simp [ancBeat, he, ancSeen, hc, ancEnd, good, read, Mem.ofNat_toNatLE_ofNatLE]

/-- A burst of one beat through the aperture. -/
theorem ancAccess_one {b : Burst} (hx : b.beats = [x]) (hl : 0x40000000 ≤ b.addr) (hh : b.addr < 0x80000000) (s : State) (m : Initiator) :
    s.ancAccess m false b =
      ((s.ancBeat b.write (s.apertureAddr m b.addr) x).2.beatEnds m b b.addr (s.ancBeat b.write (s.apertureAddr m b.addr) x).1).reply m
        (.beats [(s.ancBeat b.write (s.apertureAddr m b.addr) x).1]) := by
  have window : ¬ (b.addr < 0x40000000 ∨ 0x80000000 ≤ b.addr) := by omega
  rw [ancAccess, burst_one hx]
  simp [window]

end State

/-- Settles O33: the write of a whole word, the read that finds its bytes, and the two refusals. -/
theorem anchorageWordsReadBack : Obligations.AnchorageWordsReadBack := by
  intro m m2 a at' x s hx hc hl hh hat
  have run (n : Initiator) (u : State) (write : Bool) (y : Beat) :
      exec (.anchorageAccess n false ⟨write, a, [y], false⟩) u = .next (((u.ancBeat write (u.apertureAddr n a) y).2.beatEnds n
        ⟨write, a, [y], false⟩ a (u.ancBeat write (u.apertureAddr n a) y).1).reply n (.beats [(u.ancBeat write (u.apertureAddr n a) y).1])) :=
    congrArg Host.Outcome.next (State.ancAccess_one (b := ⟨write, a, [y], false⟩) rfl hl hh u n)
  refine ⟨fun he hp hb hpage => ?_, fun he hp => ?_, fun he write => ?_⟩
  · have written : exec (.anchorageAccess m false ⟨true, a, [x], false⟩) s =
        .next ((s.ancWrite (wordAddr at') (Mem.ofNatLE 16 x.data.toNat)).reply m (.beats [.ok 0])) := by
      rw [run, ← hat, State.ancBeat_write he hp hx hc, State.beatEnds_ok]
    generalize ht : (s.ancWrite (wordAddr at') (Mem.ofNatLE 16 x.data.toNat)).reply m (.beats [.ok 0]) = t at written
    have regs : t.regs = s.regs := by rw [← ht, State.reply_regs, State.regs_ancWrite]
    have mem : t.mem = s.mem := by rw [← ht, State.reply_mem, State.mem_ancWrite]
    have anc : t.anc = Mem.keep s.anc (wordAddr at') (Mem.ofNatLE 16 x.data.toNat) := by rw [← ht, State.reply_anc, State.anc_ancWrite]
    have blocks : t.written.contains (wordAddr at' / 2 ^ 20) = true := by
      rw [← ht, State.reply_written, State.contains_written_ancWrite]
    have good : t.ancBad.contains (wordAddr at' / 64) = false := by rw [← ht, State.reply_ancBad, State.ancBad_ancWrite hb]
    have place : t.apertureAddr m2 a = at' := (State.apertureAddr_congr regs hpage a).trans hat.symm
    have installed : t.ancExists at' = true := (State.ancExists_congr regs at').trans he
    have found (k : Nat) (hk : k < (Mem.ofNatLE 16 x.data.toNat).length) :
        Mem.find t.anc (wordAddr at' + k) = some (Mem.ofNatLE 16 x.data.toNat)[k] := by rw [anc, Mem.find_keep _ _ hk]
    refine ⟨t, t.reply m2 (.beats [.ok x.data]), written, ?_, blocks, fun k hk => ?_, mem, regs, ?_, State.answer_reply .., rfl, rfl, rfl⟩
    · rw [← ht, State.answer_reply]
    · rw [anc, Mem.find_keep_other _ (by simpa using hk)]
    · rw [run, place, State.ancBeat_read installed rfl good found, State.beatEnds_ok]
  · rw [run, ← hat, State.ancBeat_protected he hp, State.beatEnds_error rfl]
    have record := ((s.raise F.MM_STICKY_PROT_WR 0).busError_within m true a .target).within
    have frame := ((State.Within.refl s [.MM_STICKY, .BM_ERR, .BM_ERR_ADDR, .BM_STICKY]).raise F.MM_STICKY_PROT_WR (by decide) 0).trans
      (record.mono (by decide))
    refine ⟨_, rfl, State.answer_reply .., ?_, frame.regs, frame.memory⟩
    rw [State.on, State.rd_reply, record.regs.rd_eq (by decide) (by decide) (by decide), ← State.on,
      State.on_raise rfl rfl (by decide) (by decide)]
  · rw [run, ← hat, State.ancBeat_absent he, State.beatEnds_error rfl]
    have frame := (s.busError_within m write a .default).within
    exact ⟨_, rfl, State.answer_reply .., frame.regs, frame.memory⟩

end Sys2Proof.Machine
end

section
/-! Repair, scrub and march test of the memories, and the NO_BORROW ranges (O34). -/

namespace Sys2Proof.Machine

namespace State

variable {s : State}

/-! ### Repair (R491, R492) -/

theorem repairOf_congr {t : State} (h : t.repaired = s.repaired) (mac k : Nat) : t.repairOf mac k = s.repairOf mac k := by
  simp only [repairOf, h]

theorem macroLeft_congr {t : State} (h : t.repaired = s.repaired) (mac : Nat) : t.macroLeft mac = s.macroLeft mac := by
  simp only [macroLeft, repairOf_congr h]

/-- The column that a repair programs, if one is under way. -/
def setRepairColumn (s : State) (x : Option (Nat × Nat)) : State := { s with repairColumn := x }

@[simp] theorem rd_setRepairColumn (s : State) (x : Option (Nat × Nat)) (f : Field) (i : Nat) : (s.setRepairColumn x).rd f i = s.rd f i := (rfl)

theorem OnlyCopy.setRepairColumn {t : State} {i : Nat} {rs : List Reg} (h : s.OnlyCopy t i rs) (x : Option (Nat × Nat)) :
    s.OnlyCopy (t.setRepairColumn x) i rs := h.plain rfl

theorem OnlyCopy.setRepairOf {t : State} {i : Nat} {rs : List Reg} (h : s.OnlyCopy t i rs) (mac k v : Nat) :
    s.OnlyCopy (t.setRepairOf mac k v) i rs := h.plain rfl

/-- A repair that can be programmed starts. -/
theorem repairProgram_starts {v : Word} (hb : s.on F.MM_REP_STAT_BUSY 0 = false) (hv : s.on F.MM_REP_STAT_VFUSE_OK 0 = true)
    (hm : (macroClass (F.MM_REP_CTRL_MACRO.get v)).isSome = true)
    (hc : F.MM_REP_CTRL_COL.get v ≤ Config.macroTop (F.MM_REP_CTRL_MACRO.get v) % 1024) (hl : s.macroLeft (F.MM_REP_CTRL_MACRO.get v) ≠ 0) :
    s.repairProgram v = ((s.wr F.MM_REP_STAT_RESULT 0 0).wr F.MM_REP_STAT_BUSY 0 1).setRepairColumn
      (some (F.MM_REP_CTRL_MACRO.get v, F.MM_REP_CTRL_COL.get v)) := by
  have known : (macroClass (F.MM_REP_CTRL_MACRO.get v)).isNone = false := by simpa using hm
  simp [repairProgram, hb, hv, known, Nat.not_lt.2 hc, hl, setRepairColumn]

/-- The programming of a repair has ended. -/
def repairEnds (s : State) (result : Nat) : State :=
  ((s.wr F.MM_REP_STAT_BUSY 0 0).setRepairColumn none).wr F.MM_REP_STAT_RESULT 0 result

theorem repairDone_verified {mac col : Nat} (h : s.repairColumn = some (mac, col)) :
    s.repairDone true true = ((s.repairEnds 1).setRepairOf mac (2 - (s.repairEnds 1).macroLeft mac) (col + 1)).raise
      F.MM_STICKY_REPAIR_DONE 0 := by
  simp only [repairDone, h]
  rfl

theorem repairDone_vfuse {mac col : Nat} (h : s.repairColumn = some (mac, col)) (verified : Bool) :
    s.repairDone false verified = (s.repairEnds 2).raise F.MM_STICKY_REPAIR_DONE 0 := by
  simp only [repairDone, h]
  rfl

theorem repairEnds_shows {result : Nat} (h : result < 8) (s : State) :
    (s.repairEnds result).rd F.MM_REP_STAT_RESULT 0 = result ∧ (s.repairEnds result).on F.MM_REP_STAT_BUSY 0 = false ∧
      s.OnlyCopy (s.repairEnds result) 0 [.MM_REP_STAT] := by
  refine ⟨rd_wr_fits rfl (lt_of_lt_of_le h (by decide)) .., ?_, ?_⟩
  · rw [repairEnds, on, rd_wr_apart rfl, rd_setRepairColumn, rd_wr rfl]
    rfl
  · exact (((OnlyCopy.refl s 0 [.MM_REP_STAT]).wr F.MM_REP_STAT_BUSY (by decide) 0).setRepairColumn none).wr F.MM_REP_STAT_RESULT
      (by decide) result

/-- The end of a programming is reported. -/
theorem raise_repairDone {t : State} {result : Nat} (h : t.rd F.MM_REP_STAT_RESULT 0 = result) (hb : t.on F.MM_REP_STAT_BUSY 0 = false) :
    (t.raise F.MM_STICKY_REPAIR_DONE 0).rd F.MM_REP_STAT_RESULT 0 = result ∧
      (t.raise F.MM_STICKY_REPAIR_DONE 0).on F.MM_REP_STAT_BUSY 0 = false ∧
      (t.raise F.MM_STICKY_REPAIR_DONE 0).on F.MM_STICKY_REPAIR_DONE 0 = true :=
  ⟨(rd_raise_apart rfl (by decide) (by decide) t 0 0).trans h, (on_raise_ne (by decide) (by decide) (by decide) t 0 0).trans hb,
    on_raise rfl rfl (by decide) (by decide) t 0⟩

/-! ### Scrub (R493) -/

theorem memTarget_le {a k : Nat} (h : memTarget a = some k) : k ≤ 3 := by
  unfold memTarget at h
  split at h
  · cases h
    decide
  · split at h
    · cases h
      decide
    · split at h
      · cases h
        decide
      · cases h

/-- A word is found lost. -/
def loseWord (s : State) (k : Nat) : State := { s with badWords := s.badWords ++ [k] }

section

variable {a cls : Nat} (hs : s.on F.MM_BT_CFG_SCRUB_EN 0 = true) (hr : s.backgroundRuns = true) (ht : memTarget a = some cls)
  (hb : s.badWords.contains (wordAddr a / 16) = false)

include hs hr ht hb

theorem scrubRead_clean (again : Bool) : s.scrubRead (.word a) .clean again = s := by
  simp only [scrubRead, hs, hr, ht, hb]
  cases again <;> rfl

theorem scrubRead_single (again : Bool) : s.scrubRead (.word a) .single again = s.eccCorr cls := by
  simp only [scrubRead, hs, hr, ht, hb]
  cases again <;> rfl

theorem scrubRead_double : s.scrubRead (.word a) .double false = (s.loseWord (wordAddr a / 16)).eccUncorr cls (wordAddr a) := by
  have word : 16 * (wordAddr a / 16) = wordAddr a := by
    unfold wordAddr
    omega
  simp only [scrubRead, hs, hr, ht, hb, word]
  rfl

end

/-! ### March test (R494 to R497) -/

@[simp] theorem rd_modMarch (s : State) (g : March → March) (f : Field) (i : Nat) : (s.modMarch g).rd f i = s.rd f i := (rfl)
@[simp] theorem march_modMarch (s : State) (g : March → March) : (s.modMarch g).march = g s.march := (rfl)
@[simp] theorem borrowable_modMarch (s : State) (g : March → March) (page : Nat) : (s.modMarch g).borrowable page = s.borrowable page := (rfl)

theorem OnlyCopy.modMarch {t : State} {i : Nat} {rs : List Reg} (h : s.OnlyCopy t i rs) (g : March → March) :
    s.OnlyCopy (t.modMarch g) i rs := h.plain rfl

theorem OnlyCopy.incWrap {t : State} {i : Nat} {rs : List Reg} (h : s.OnlyCopy t i rs) (f : Field) (hf : f.reg ∈ rs) (n : Nat) :
    s.OnlyCopy (t.incWrap f i n) i rs := h.wr f hf _

theorem OnlyCopy.release {t : State} {rs : List Reg} (h : s.OnlyCopy t 0 rs) (hr : .MM_BT_STAT ∈ rs) : s.OnlyCopy t.release 0 rs :=
  (h.modMarch _).wr F.MM_BT_STAT_BORROWED hr 0

theorem OnlyCopy.borrow {t : State} {rs : List Reg} (h : s.OnlyCopy t 0 rs) (hr : .MM_BT_STAT ∈ rs) (page : Nat) :
    s.OnlyCopy (t.borrow page) 0 rs := (h.modMarch _).wr F.MM_BT_STAT_BORROWED hr 1

/-- The end of a pass forgets the pass. -/
theorem OnlyCopy.passEnds {t : State} {rs : List Reg} (h : s.OnlyCopy t 0 rs) (hr : .MM_BT_STAT ∈ rs) : s.OnlyCopy t.passEnds 0 rs :=
  OnlyCopy.ite ((h.modMarch _).incWrap F.MM_BT_STAT_PASSES hr 1) h

theorem march_passEnds (s : State) : s.passEnds.march = s.march ∨ s.passEnds.march = {} := by
  unfold passEnds
  split
  · exact .inr rfl
  · exact .inl rfl

theorem rd_passEnds {f : Field} (h : F.MM_BT_STAT_PASSES.apart f = true) (s : State) (i : Nat) : s.passEnds.rd f i = s.rd f i := by
  unfold passEnds
  split
  · rw [State.incWrap, rd_wr_apart h, rd_modMarch]
  · rfl

@[simp] theorem march_release (s : State) : s.release.march = { s.march with borrowed := none } := (rfl)

theorem borrowed_release (s : State) : s.release.on F.MM_BT_STAT_BORROWED 0 = false := on_wr rfl rfl _ 0 false

theorem rd_release {f : Field} (h : F.MM_BT_STAT_BORROWED.apart f = true) (s : State) (i : Nat) : s.release.rd f i = s.rd f i :=
  rd_wr_apart h ..

theorem marchRegion_borrows {page : Nat} (he : s.on F.MM_BT_CFG_MARCH_EN 0 = true) (hr : s.backgroundRuns = true)
    (hb : s.march.borrowed = none) (hn : s.march.next = page) (hp : s.borrowable page = true) :
    s.marchRegion page .borrow = (s.modMarch fun x => { x with next := page + 1 }).borrow page := by
  simp [marchRegion, he, hr, hb, hn, hp]

/-- A failure that the march test has found is recorded. -/
def noteFail (s : State) (mac : Fin 4096) (col : Fin 1024) : State :=
  (((s.wr F.MM_BT_FAIL_VALID 0 1).wr F.MM_BT_FAIL_MACRO 0 mac.val).wr F.MM_BT_FAIL_COL 0 col.val).raise F.MM_STICKY_BT_FAIL 0

/-- The region has been tested: it is restored, and tried no more. -/
def testEnds (s : State) (page : Nat) : State := s.release.modMarch fun x => { x with yielded := x.yielded.filter (·.1 != page) }

theorem marchRegion_fails {page : Nat} (hb : s.march.borrowed = some page) (mac : Fin 4096) (col : Fin 1024) :
    s.marchRegion page (.finish (some (mac, col))) = ((s.testEnds page).noteFail mac col).passEnds := by
  simp only [marchRegion, hb, bne_self_eq_false, Bool.false_eq_true, if_false]
  rfl

theorem noteFail_shows (s : State) (mac : Fin 4096) (col : Fin 1024) :
    (s.noteFail mac col).rd F.MM_BT_FAIL_MACRO 0 = mac.val ∧ (s.noteFail mac col).rd F.MM_BT_FAIL_COL 0 = col.val ∧
      (s.noteFail mac col).on F.MM_STICKY_BT_FAIL 0 = true ∧ (s.noteFail mac col).march = s.march ∧
      s.OnlyCopy (s.noteFail mac col) 0 [.MM_BT_FAIL, .MM_STICKY] := by
  refine ⟨?_, ?_, on_raise rfl rfl (by decide) (by decide) .., by simp [noteFail], ?_⟩
  · rw [noteFail, rd_raise_apart rfl (by decide) (by decide), rd_wr_apart rfl, rd_wr_fits rfl (lt_of_lt_of_le mac.isLt (by decide))]
  · rw [noteFail, rd_raise_apart rfl (by decide) (by decide), rd_wr_fits rfl (lt_of_lt_of_le col.isLt (by decide))]
  · exact ((((OnlyCopy.refl s 0 [.MM_BT_FAIL, .MM_STICKY]).wr F.MM_BT_FAIL_VALID (by decide) 1).wr F.MM_BT_FAIL_MACRO (by decide) _).wr
      F.MM_BT_FAIL_COL (by decide) _).raise F.MM_STICKY_BT_FAIL (by decide)

theorem rd_noteFail {f : Field} (h1 : F.MM_BT_FAIL_VALID.apart f = true) (h2 : F.MM_BT_FAIL_MACRO.apart f = true)
    (h3 : F.MM_BT_FAIL_COL.apart f = true) (h4 : F.MM_STICKY_BT_FAIL.apart f = true) (e1 : f.reg ≠ .EV_STICKY) (e2 : f.reg ≠ .EV_SRC_CNT)
    (s : State) (mac : Fin 4096) (col : Fin 1024) (i : Nat) : (s.noteFail mac col).rd f i = s.rd f i := by
  rw [noteFail, rd_raise_apart h4 e1 e2, rd_wr_apart h3, rd_wr_apart h2, rd_wr_apart h1]

/-- A borrowed region that is touched is restored, and the yield counted (R495). -/
def yieldPage (s : State) (page : Nat) : State :=
  (s.release.incWrap F.MM_BT_STAT_YIELDS 0 1).modMarch fun x => { x with yielded := x.yielded.filter (·.1 != page) }

theorem touch_eq {page a : Nat} (hb : s.march.borrowed = some page) (hp : marchPage a = some page) :
    s.touch a =
      if 4 ≤ ((s.march.yielded.find? (·.1 == page)).map (·.2.1)).getD 0 + 1
      then (((s.yieldPage page).incWrap F.MM_BT_STAT_SKIPS 0 1).raise F.MM_STICKY_BT_SKIP 0).passEnds
      else (s.yieldPage page).modMarch fun x =>
        { x with yielded := x.yielded ++ [(page, ((s.march.yielded.find? (·.1 == page)).map (·.2.1)).getD 0 + 1, s.now)] } := by
  simp only [touch, hb, hp, bne_self_eq_false, Bool.false_eq_true, if_false]
  rfl

theorem OnlyCopy.yieldPage {t : State} {rs : List Reg} (h : s.OnlyCopy t 0 rs) (hr : .MM_BT_STAT ∈ rs) (page : Nat) :
    s.OnlyCopy (t.yieldPage page) 0 rs := ((h.release hr).incWrap F.MM_BT_STAT_YIELDS hr 1).modMarch _

theorem march_yieldPage (s : State) (page : Nat) :
    (s.yieldPage page).march = { s.march with borrowed := none, yielded := s.march.yielded.filter (·.1 != page) } := (rfl)

theorem yields_yieldPage (s : State) (page : Nat) :
    (s.yieldPage page).rd F.MM_BT_STAT_YIELDS 0 = (s.rd F.MM_BT_STAT_YIELDS 0 + 1) % 256 := by
  rw [yieldPage, rd_modMarch, State.incWrap, rd_wr rfl, rd_release rfl]
  rfl

theorem rd_yieldPage {f : Field} (h1 : F.MM_BT_STAT_BORROWED.apart f = true) (h2 : F.MM_BT_STAT_YIELDS.apart f = true) (s : State)
    (page i : Nat) : (s.yieldPage page).rd f i = s.rd f i := by
  rw [yieldPage, rd_modMarch, State.incWrap, rd_wr_apart h2, rd_release h1]

section

variable {page n since : Nat} (hy : s.march.yielded = [(page, n, since)])

include hy

theorem marchRetry_due (he : s.on F.MM_BT_CFG_MARCH_EN 0 = true) (hr : s.backgroundRuns = true) (hb : s.march.borrowed = none)
    (h : since + 21 ≤ s.now) (hp : s.borrowable page = true) : s.marchRetry page = s.borrow page := by
  simp [marchRetry, hy, he, hr, hb, elapsed_of_le h, hp]

theorem marchRetry_early (h : s.now < since + 21) : s.marchRetry page = s := by
  simp [marchRetry, hy, elapsed_of_lt h]

end

end State

/-- Settles O34: repair, scrub, march test and NO_BORROW ranges, each by its own lemmas. -/
theorem memoriesAreRepairedScrubbedAndMarched : Obligations.MemoriesAreRepairedScrubbedAndMarched := by
  refine ⟨fun m v s hm hb hv hk hc hl => ?_, fun m v s hm => ?_, fun mac col s hr => ⟨fun hl => ?_, fun verified => ?_⟩,
    fun a cls s hs hr ht hb => ⟨fun again => ?_, fun again => ?_, ?_⟩,
    fun page s => ⟨fun he hr hb hn hp => ?_, fun hb mac col => ?_, fun b hb ha hp hy => ?_, fun b since hb ha hp hy => ?_,
      fun n since hy he hr hb => ⟨fun h hp => ?_, fun h => ?_⟩⟩, fun m v s hm => ⟨?_, ?_⟩⟩
  · have frame := ((((State.OnlyCopy.refl s 0 [.MM_REP_CTRL, .MM_REP_STAT]).setReg .MM_REP_CTRL (by decide) (v &&& 0x0FFF03FF#32)).wr
      F.MM_REP_STAT_RESULT (by decide) 0).wr F.MM_REP_STAT_BUSY (by decide) 1).setRepairColumn
        (some (F.MM_REP_CTRL_MACRO.get v, F.MM_REP_CTRL_COL.get v))
    have kept (f : Field) (h : Reg.MM_REP_CTRL ≠ f.reg) : (s.setReg .MM_REP_CTRL 0 (v &&& 0x0FFF03FF#32)).on f 0 = s.on f 0 := by
      rw [State.on, State.rd_setReg_ne h, ← State.on]
    refine ⟨_, congrArg Host.Outcome.next ((if_pos hm).trans (congrArg (State.reply · m (.ok 0)) (State.repairProgram_starts
      ((kept _ (by decide)).trans hb) ((kept _ (by decide)).trans hv) hk hc hl))), ?_, ?_, rfl, rfl, State.answer_reply .., frame.regs,
      frame.memory⟩
    · rw [State.on, State.rd_reply, State.rd_setRepairColumn, ← State.on]
      exact State.on_wr rfl rfl _ 0 true
    · rw [State.rd_reply, State.rd_setRepairColumn, State.rd_wr_apart rfl, State.rd_wr rfl]
      rfl
  · have memory := s.busError_sameMemory m true 0x2A000050 .priv
    exact ⟨_, congrArg Host.Outcome.next (if_neg (by simp [hm])), State.answer_busError .., by simp, by simp, memory⟩
  · have left : (s.repairEnds 1).macroLeft mac = s.macroLeft mac := State.macroLeft_congr rfl mac
    obtain ⟨result, busy, frame⟩ := s.repairEnds_shows (result := 1) (by decide)
    have frame := (frame.mono (qs := [.MM_REP_STAT, .MM_STICKY]) (by decide)).setRepairOf mac (2 - s.macroLeft mac) (col + 1)
    obtain ⟨result, busy, done⟩ := State.raise_repairDone
      (t := (s.repairEnds 1).setRepairOf mac (2 - s.macroLeft mac) (col + 1)) result busy
    refine ⟨_, congrArg Host.Outcome.next ((State.repairDone_verified hr).trans (by rw [left])), ?_, result, busy, ?_, done,
      (frame.raise F.MM_STICKY_REPAIR_DONE (by decide)).regs, (frame.raise F.MM_STICKY_REPAIR_DONE (by decide)).memory⟩
    · rw [State.repairOf_congr (State.raise_repaired ..), State.repairOf_setRepairOf, if_pos ⟨rfl, rfl⟩]
    · exact State.raise_repairColumn ..
  · obtain ⟨result, busy, frame⟩ := s.repairEnds_shows (result := 2) (by decide)
    obtain ⟨result, busy, -⟩ := State.raise_repairDone result busy
    have frame := (frame.mono (qs := [.MM_REP_STAT, .MM_STICKY]) (by decide)).raise F.MM_STICKY_REPAIR_DONE (by decide)
    exact ⟨_, congrArg Host.Outcome.next (State.repairDone_vfuse hr verified), State.raise_repaired .., result, busy, frame.regs,
      frame.memory⟩
  · exact congrArg Host.Outcome.next (State.scrubRead_clean hs hr ht hb again)
  · obtain ⟨counted, shown, frame⟩ := State.eccCorr_counts (State.memTarget_le ht) s
    exact ⟨_, congrArg Host.Outcome.next (State.scrubRead_single hs hr ht hb again), counted, shown, frame.regs, frame.memory⟩
  · have fits : wordAddr a % 2 ^ 32 = wordAddr a := by
      have low := State.lt_of_memTarget ht
      unfold wordAddr
      omega
    obtain ⟨counted, addressed, shown, frame⟩ := State.eccUncorr_counts (State.memTarget_le ht) (s.loseWord (wordAddr a / 16)) (wordAddr a)
    exact ⟨_, congrArg Host.Outcome.next (State.scrubRead_double hs hr ht hb), frame.memory.2.2.1, counted, addressed.trans fits, shown,
      frame.memory.1, frame.regs⟩
  · have frame := ((State.OnlyCopy.refl s 0 [.MM_BT_STAT]).modMarch fun x => { x with next := page.val + 1 }).borrow (by decide) page.val
    exact ⟨_, congrArg Host.Outcome.next (State.marchRegion_borrows he hr hb hn hp), rfl, rfl, State.on_wr rfl rfl _ 0 true, frame.regs,
      frame.memory⟩
  · obtain ⟨place', column, shown, march, frame⟩ := (s.testEnds page.val).noteFail_shows mac col
    have ended : s.OnlyCopy (s.testEnds page.val) 0 [.MM_BT_STAT, .MM_BT_FAIL, .MM_STICKY] :=
      ((State.OnlyCopy.refl s 0 _).release (by decide)).modMarch _
    have frame := (ended.trans (frame.mono (by decide))).passEnds (by decide)
    refine ⟨_, congrArg Host.Outcome.next (State.marchRegion_fails hb mac col), ?_, ?_, ?_, ?_, ?_, frame.regs, frame.memory⟩
    · rcases ((s.testEnds page.val).noteFail mac col).march_passEnds with h | h
      · rw [h, march]
        rfl
      · rw [h]
    · rw [State.on, State.rd_passEnds rfl, State.rd_noteFail rfl rfl rfl rfl (by decide) (by decide), State.testEnds, State.rd_modMarch,
        ← State.on, State.borrowed_release]
    · rw [State.rd_passEnds rfl, place']
    · rw [State.rd_passEnds rfl, column]
    · rw [State.on, State.rd_passEnds rfl, ← State.on, shown]
  · have touched : s.touch b.addr = (s.yieldPage page.val).modMarch fun x => { x with yielded := x.yielded ++ [(page.val, 1, s.now)] } := by
      rw [State.touch_eq hb hp, hy]
      rfl
    have frame := ((State.OnlyCopy.refl s 0 [.MM_BT_STAT]).yieldPage (by decide) page.val).modMarch fun x =>
      { x with yielded := x.yielded ++ [(page.val, 1, s.now)] }
    have run : exec (.borrowTouch none b) s = .next (s.touch b.addr) := by rw [exec, execBorrowTouch, State.remap_high ha]
    refine ⟨_, run.trans (congrArg Host.Outcome.next touched), rfl, ?_, ?_, frame.regs, frame.memory⟩
    · rw [State.march_modMarch, State.march_yieldPage, hy]
      rfl
    · rw [State.rd_modMarch, State.yields_yieldPage]
  · have touched : s.touch b.addr =
        (((s.yieldPage page.val).incWrap F.MM_BT_STAT_SKIPS 0 1).raise F.MM_STICKY_BT_SKIP 0).passEnds := by
      rw [State.touch_eq hb hp, hy, if_pos (by simp)]
    have frame := ((((State.OnlyCopy.refl s 0 [.MM_BT_STAT, .MM_STICKY]).yieldPage (by decide) page.val).incWrap F.MM_BT_STAT_SKIPS
      (by decide) 1).raise F.MM_STICKY_BT_SKIP (by decide)).passEnds (by decide)
    have run : exec (.borrowTouch none b) s = .next (s.touch b.addr) := by rw [exec, execBorrowTouch, State.remap_high ha]
    have march : (((s.yieldPage page.val).incWrap F.MM_BT_STAT_SKIPS 0 1).raise F.MM_STICKY_BT_SKIP 0).march =
        { s.march with borrowed := none, yielded := [] } := by
      rw [State.raise_march, State.incWrap, State.wr_march, State.march_yieldPage, hy]
      simp
    refine ⟨_, run.trans (congrArg Host.Outcome.next touched), ?_, ?_, ?_, ?_, frame.regs, frame.memory⟩
    · rcases State.march_passEnds (((s.yieldPage page.val).incWrap F.MM_BT_STAT_SKIPS 0 1).raise F.MM_STICKY_BT_SKIP 0) with h | h
      · rw [h, march]
      · rw [h]
    · rcases State.march_passEnds (((s.yieldPage page.val).incWrap F.MM_BT_STAT_SKIPS 0 1).raise F.MM_STICKY_BT_SKIP 0) with h | h
      · rw [h, march]
      · rw [h]
    · rw [State.rd_passEnds rfl, State.rd_raise_apart rfl (by decide) (by decide), State.incWrap, State.rd_wr rfl,
        State.rd_yieldPage rfl rfl]
      rfl
    · rw [State.on, State.rd_passEnds rfl, ← State.on, State.on_raise rfl rfl (by decide) (by decide)]
  · have frame := (State.OnlyCopy.refl s 0 [.MM_BT_STAT]).borrow (by decide) page.val
    exact ⟨_, congrArg Host.Outcome.next (State.marchRetry_due hy he hr hb h hp), rfl, frame.regs, frame.memory⟩
  · exact congrArg Host.Outcome.next (State.marchRetry_early hy h)
  · have frame := (State.OnlyCopy.refl s (s.rd F.MM_NB_SEL_RANGE m.copy) [.MM_NB_BASE]).setReg .MM_NB_BASE (by decide) v
    exact ⟨_, congrArg Host.Outcome.next (if_neg (by simp [hm])), State.rd_setReg (f := F.MM_NB_BASE_BASE) rfl .., State.answer_reply ..,
      rfl, frame.regs, frame.memory⟩
  · have frame := (State.OnlyCopy.refl s (s.rd F.MM_NB_SEL_RANGE m.copy) [.MM_NB_SIZE]).setReg .MM_NB_SIZE (by decide) v
    exact ⟨_, congrArg Host.Outcome.next (if_neg (by simp [hm])), State.rd_setReg (f := F.MM_NB_SIZE_PAGES) rfl .., State.answer_reply ..,
      rfl, frame.regs, frame.memory⟩

end Sys2Proof.Machine
end

section
/-! Performance counters and the PM history's configuration (O38). -/

namespace Sys2Proof.Machine

namespace State

variable {s : State}

/-! ### Writes of the PC block (R588) -/

theorem pcWrite_taken {m : Initiator} (h : m.isUser = false) (s : State) (a : Nat) (f : State → State) :
    s.pcWrite m a f = (f s).reply m (.ok 0) := if_neg (by simp [h])

theorem pcWrite_user {m : Initiator} (h : m.isUser = true) (s : State) (a : Nat) (f : State → State) :
    s.pcWrite m a f = s.busError m true a .priv := if_pos h

/-! ### PM_CFG (R594, R596) -/

/-- The entities of the history do not depend on PM_CFG. -/
theorem pmEntities_setPmCfg (s : State) (v : Word) : (s.setReg .PM_CFG 0 v).pmEntities = s.pmEntities := by
  have kept {f : Field} (h : Reg.PM_CFG ≠ f.reg) (i : Nat) : (s.setReg .PM_CFG 0 v).rd f i = s.rd f i := rd_setReg_ne h s 0 v i
  have line (e : Nat) : ((s.setReg .PM_CFG 0 v).engineExists e && ((s.setReg .PM_CFG 0 v).native e || (s.setReg .PM_CFG 0 v).interop e) &&
      (s.setReg .PM_CFG 0 v).governor e == e) = (s.engineExists e && (s.native e || s.interop e) && s.governor e == e) := by
    simp +decide [engineExists, halfDevice, native, interop, governor, paired, on, kept]
  have clients : (s.setReg .PM_CFG 0 v).allClients = s.allClients := by
    simp +decide [allClients, clientExists, leads, clientType, slotField, kept]
  simp only [pmEntities, line, clients, setReg_image]

theorem showPm_shows (s : State) : s.showPm.rd F.PM_STAT_DEFINED 0 = min s.pmEntities.length 65535 ∧ s.showPm.bins = s.bins ∧
    s.Within s.showPm [.PM_STAT, .PC_STICKY] := by
  refine ⟨?_, ?_, ?_⟩
  · rw [showPm, rd_raiseIf_apart rfl (by decide) (by decide), rd_wr_apart rfl, rd_wr_fits rfl]
    exact lt_of_le_of_lt (min_le_right ..) (by decide)
  · simp [showPm]
  · exact (((Within.refl s [.PM_STAT, .PC_STICKY]).wr F.PM_STAT_DEFINED (by decide) 0 _).wr F.PM_STAT_KEPT (by decide) 0 _).raiseIf _
      (leafBit .PC_STICKY 4) (by decide) 0

theorem writePmCfg_same {v : Word} (h : F.PM_CFG_OFS.get v = s.rd F.PM_CFG_OFS 0) : s.writePmCfg v = (s.setReg .PM_CFG 0 v).showPm := by
  simp [writePmCfg, h]

/-- Whatever is written, the register takes it and the on-chip memories stay. -/
theorem writePmCfg_takes (s : State) (v : Word) :
    (s.writePmCfg v).rd F.PM_CFG_OFS 0 = F.PM_CFG_OFS.get v ∧ (s.writePmCfg v).mem = s.mem := by
  have taken (t : State) : ((t.setReg .PM_CFG 0 v).showPm).rd F.PM_CFG_OFS 0 = F.PM_CFG_OFS.get v :=
    ((showPm_shows _).2.2.regs.rd_eq (by decide) (by decide) (by decide) 0).trans (rd_setReg (f := F.PM_CFG_OFS) rfl ..)
  refine ⟨taken _, (showPm_shows _).2.2.memory.1.trans ?_⟩
  have closed : s.closeBins.mem = s.mem := congrArg InForce.mem s.inForce_closeBins
  rw [setReg_mem]
  split
  · exact closed
  · rfl

/-! ### A counter (R586) -/

/-- The bit of a counter that wraps (R586). -/
def noteWrap (s : State) (i : Nat) : State :=
  let f := if i < 32 then F.PC_OVF_LO_OVF else F.PC_OVF_HI_OVF
  let s := s.wr f 0 (s.rd f 0 ||| 2 ^ (i % 32))
  if s.on F.PC_EVSEL_OVF_IE i then s.raise (leafBit .PC_STICKY 0) 0 else s

theorem pcAdd_eq (s : State) (i n : Nat) :
    s.pcAdd i n = if s.ctr ⟨.pc, i, 0⟩ + n < 2 ^ 48 then s.setCtr ⟨.pc, i, 0⟩ (s.ctr ⟨.pc, i, 0⟩ + n)
      else (s.setCtr ⟨.pc, i, 0⟩ (s.ctr ⟨.pc, i, 0⟩ + n)).noteWrap i := rfl

theorem noteWrap_within (s : State) (i : Nat) : s.Within (s.noteWrap i) [.PC_OVF_LO, .PC_OVF_HI, .PC_STICKY] := by
  have start := Within.refl s [.PC_OVF_LO, .PC_OVF_HI, .PC_STICKY]
  unfold noteWrap
  extract_lets f t
  have bit : s.Within t [.PC_OVF_LO, .PC_OVF_HI, .PC_STICKY] := by
    refine start.wr f ?_ 0 _
    simp only [f]
    split <;> decide
  exact Within.ite (bit.raise (leafBit .PC_STICKY 0) (by decide) 0) bit

@[simp] theorem ctrs_noteWrap (s : State) (i : Nat) : (s.noteWrap i).ctrs = s.ctrs := by
  unfold noteWrap
  extract_lets f t
  split
  · exact raise_ctrs ..
  · rfl

/-- The first 32 counters show their wraps in PC_OVF_LO. -/
theorem noteWrap_low {i : Nat} (h : i < 32) (s : State) : ((s.noteWrap i).rd F.PC_OVF_LO_OVF 0).testBit i = true := by
  have bit : (((s.wr F.PC_OVF_LO_OVF 0 (s.rd F.PC_OVF_LO_OVF 0 ||| 2 ^ (i % 32)))).rd F.PC_OVF_LO_OVF 0).testBit i = true := by
    rw [rd_wr rfl, Nat.testBit_mod_two_pow, Nat.testBit_or, Nat.mod_eq_of_lt h, Nat.testBit_two_pow_self]
    simp [show F.PC_OVF_LO_OVF.width = 32 from rfl, h]
  simp only [noteWrap, h, if_true]
  split
  · rw [rd_raise_apart rfl (by decide) (by decide), bit]
  · exact bit

theorem noteWrap_high {i : Nat} (h : 32 ≤ i) (h64 : i < 64) (s : State) :
    ((s.noteWrap i).rd F.PC_OVF_HI_OVF 0).testBit (i - 32) = true := by
  have bit : (((s.wr F.PC_OVF_HI_OVF 0 (s.rd F.PC_OVF_HI_OVF 0 ||| 2 ^ (i % 32)))).rd F.PC_OVF_HI_OVF 0).testBit (i - 32) = true := by
    rw [rd_wr rfl, Nat.testBit_mod_two_pow, Nat.testBit_or, show i % 32 = i - 32 by omega, Nat.testBit_two_pow_self]
    simp [show F.PC_OVF_HI_OVF.width = 32 from rfl]
    omega
  simp only [noteWrap, Nat.not_lt.2 h, if_false]
  split
  · rw [rd_raise_apart rfl (by decide) (by decide), bit]
  · exact bit

theorem noteWrap_event {i : Nat} (h : s.on F.PC_EVSEL_OVF_IE i = true) : (s.noteWrap i).on (leafBit .PC_STICKY 0) 0 = true := by
  have selects (f : Field) (hf : f.reg ≠ .PC_EVSEL) (v : Nat) : (s.wr f 0 v).on F.PC_EVSEL_OVF_IE i = true := by
    rw [on, rd_wr_reg (.inl hf), ← on, h]
  unfold noteWrap
  extract_lets f t
  have still : t.on F.PC_EVSEL_OVF_IE i = true := by
    refine selects f ?_ _
    simp only [f]
    split <;> decide
  rw [if_pos still]
  exact on_raise rfl rfl (by decide) (by decide) t 0

theorem ctr_setCtr_same (s : State) (c : Ctr) (n : Nat) : (s.setCtr c n).ctr c = n % 2 ^ 48 := by
  rw [setCtr, ctr, Tab.get_put, if_pos rfl]

theorem stored_setCtr (s : State) (c : Ctr) (n : Nat) : (s.setCtr c n).stored = s.stored := rfl

/-- A counter that selects an event of control cycles counts. -/
theorem pcAdd_counts (s : State) (i n : Nat) :
    (s.pcAdd i n).ctr ⟨.pc, i, 0⟩ = (s.ctr ⟨.pc, i, 0⟩ + n) % 2 ^ 48 ∧ s.Within (s.pcAdd i n) [.PC_OVF_LO, .PC_OVF_HI, .PC_STICKY] := by
  rw [pcAdd_eq]
  have counted := (Within.refl s [.PC_OVF_LO, .PC_OVF_HI, .PC_STICKY]).plain (s.stored_setCtr ⟨.pc, i, 0⟩ (s.ctr ⟨.pc, i, 0⟩ + n))
  split
  · exact ⟨ctr_setCtr_same .., counted⟩
  · exact ⟨(ctr_congr (ctrs_noteWrap ..) _).trans (ctr_setCtr_same ..), counted.trans (noteWrap_within ..)⟩

end State

theorem indexOk_cycles {code index : Nat} (h1 : 1 ≤ code) (h4 : code ≤ 4) (hi : index < 4) : indexOk code index = true := by
  interval_cases code <;> exact decide_eq_true hi

/-- Settles O38: the writes of the PC block, then a counter beyond and below its wrap. -/
theorem performanceCountersCount : Obligations.PerformanceCountersCount := by
  refine ⟨fun m v s hm => ⟨fun i => ?_, fun h => ?_, ?_⟩, fun m v i s hm => ⟨?_, ?_⟩, fun i n s => ⟨fun h1 h4 hi => ?_, fun h => ?_⟩⟩
  · have frame := (State.OnlyCopy.refl s i.val [.PC_EVSEL]).setReg .PC_EVSEL (by decide) v
    exact ⟨_, congrArg Host.Outcome.next (State.pcWrite_taken hm ..), State.rd_setReg (f := F.PC_EVSEL_EVENT) rfl ..,
      State.rd_setReg (f := F.PC_EVSEL_INDEX) rfl .., rfl, State.answer_reply .., frame.regs, frame.memory⟩
  · obtain ⟨defined, bins, shown⟩ := (s.setReg .PM_CFG 0 v).showPm_shows
    have frame := ((State.Within.refl s [.PM_CFG, .PM_STAT, .PC_STICKY]).setReg .PM_CFG (by decide) 0 v).trans (shown.mono (by decide))
    have kept {f : Field} (hf : f.reg = .PM_CFG) (hg : f.good = true) : (s.setReg .PM_CFG 0 v).showPm.rd f 0 = f.get v := by
      rw [shown.regs.rd_eq (by rw [hf]; decide) (by rw [hf]; decide) (by rw [hf]; decide), ← hf, State.rd_setReg hg]
    have run : exec (.pmOfsWrite m v) s = .next ((s.setReg .PM_CFG 0 v).showPm.reply m (.ok 0)) := by
      rw [exec, execPmOfsWrite, State.pcWrite_taken hm, State.writePmCfg_same h]
    refine ⟨_, run, kept rfl rfl, kept rfl rfl, bins, ?_, State.answer_reply .., frame.regs, frame.memory⟩
    rw [State.rd_reply, defined, State.pmEntities_setPmCfg]
  · obtain ⟨taken, memory⟩ := s.writePmCfg_takes v
    exact ⟨_, congrArg Host.Outcome.next (State.pcWrite_taken hm ..), taken, memory⟩
  · exact ⟨_, congrArg Host.Outcome.next (State.pcWrite_user hm ..), State.answer_busError ..,
      s.busError_onlyAt m _ _ _ _ _ (.inl (by decide)) (by decide) (by decide)⟩
  · exact ⟨_, congrArg Host.Outcome.next (State.pcWrite_user hm ..), State.answer_busError ..,
      s.busError_onlyAt m _ _ _ _ _ (.inl (by decide)) (by decide) (by decide)⟩
  · have counts : exec (.pcOverflow i n) s = .next (s.pcAdd i.val n) :=
      congrArg Host.Outcome.next (if_pos (by simp [h1, show s.rd F.PC_EVSEL_EVENT i.val ≤ 7 by omega, indexOk_cycles h1 h4 hi]))
    obtain ⟨counted, frame⟩ := s.pcAdd_counts i.val n
    have wraps (h : 2 ^ 48 ≤ s.ctr ⟨.pc, i.val, 0⟩ + n) := (s.pcAdd_eq i.val n).trans (if_neg (Nat.not_lt.2 h))
    refine ⟨_, counts, counted, fun h => ?_, fun h hl => ?_, fun h hl => ?_, fun h he => ?_, frame.regs, frame.memory⟩
    · rw [State.pcAdd_eq, if_pos h]
      rfl
    · rw [wraps h, State.noteWrap_low hl]
    · rw [wraps h, State.noteWrap_high hl i.isLt]
    · rw [wraps h]
      exact State.noteWrap_event he
  · refine congrArg Host.Outcome.next (if_neg ?_)
    simp only [Bool.and_eq_true, decide_eq_true_eq]
    omega

end Sys2Proof.Machine
end

section
/-! The dump engine: rings that are due, entries written, STOP and the start of a ring (O39). -/

namespace Sys2Proof.Machine

/-! ### What a snapshot leaves as it is -/

/-- Beside SEQ, SKIPPED and their events, nothing that a ring's destination depends on changes. -/
structure State.Snapshots (s t : State) : Prop extends s.Within t [.PC_DUMP_STAT, .PC_STICKY] where
  image : t.image = s.image
  link : t.linkUp = s.linkUp
  master : t.busMaster = s.busMaster

namespace State.Snapshots

variable {s t u : State}

theorem refl (s : State) : s.Snapshots s := ⟨.refl s _, rfl, rfl, rfl⟩

theorem trans (h : s.Snapshots t) (k : t.Snapshots u) : s.Snapshots u :=
  ⟨h.toWithin.trans k.toWithin, k.image.trans h.image, k.link.trans h.link, k.master.trans h.master⟩

theorem wr (h : s.Snapshots t) (f : Field) (hf : f.reg ∈ [Reg.PC_DUMP_STAT, Reg.PC_STICKY]) (i v : Nat) : s.Snapshots (t.wr f i v) :=
  ⟨h.toWithin.wr f hf i v, h.image, h.link, h.master⟩

theorem setDumpSeq (h : s.Snapshots t) (r v : Nat) : s.Snapshots (t.setDumpSeq r v) := ⟨h.toWithin.plain rfl, h.image, h.link, h.master⟩

theorem raiseIf (h : s.Snapshots t) (c : Bool) (f : Field) (hf : f.reg ∈ [Reg.PC_DUMP_STAT, Reg.PC_STICKY]) (i : Nat) :
    s.Snapshots (t.raiseIf c f i) :=
  ⟨h.toWithin.raiseIf c f hf i, (raiseIf_image ..).trans h.image, (raiseIf_linkUp ..).trans h.link, (raiseIf_busMaster ..).trans h.master⟩

theorem raise (h : s.Snapshots t) (f : Field) (hf : f.reg ∈ [Reg.PC_DUMP_STAT, Reg.PC_STICKY]) (i : Nat) : s.Snapshots (t.raise f i) :=
  h.raiseIf true f hf i

theorem each (h : s.Snapshots t) {α : Type} {f : State → α → State} (hf : ∀ (u : State) x, u.Snapshots (f u x)) (l : List α) :
    s.Snapshots (t.each l f) := by
  induction l generalizing t with
  | nil => exact h
  | cons x l ih => exact ih (h.trans (hf t x))

theorem rd_eq (h : s.Snapshots t) {f : Field} (hf : f.reg ∉ [Reg.PC_DUMP_STAT, Reg.PC_STICKY]) (h1 : f.reg ≠ .EV_STICKY)
    (h2 : f.reg ≠ .EV_SRC_CNT) (i : Nat) : t.rd f i = s.rd f i := h.regs.rd_eq hf h1 h2 i

theorem dumpSize (h : s.Snapshots t) (r : Nat) : t.dumpSize r = s.dumpSize r := by
  rw [State.dumpSize, h.rd_eq (by decide) (by decide) (by decide), ← State.dumpSize]

theorem dumpStride (h : s.Snapshots t) (r : Nat) : t.dumpStride r = s.dumpStride r := by
  rw [State.dumpStride, State.dumpLen, h.rd_eq (by decide) (by decide) (by decide), ← State.dumpLen, ← State.dumpStride]

theorem dumpFull (h : s.Snapshots t) (r : Nat) : t.dumpFull r = s.dumpFull r := by
  have wrIdx := h.rd_eq (f := F.PC_DUMP_WR_IDX) (by decide) (by decide) (by decide) r
  have rdIdx := h.rd_eq (f := F.PC_DUMP_RD_IDX) (by decide) (by decide) (by decide) r
  simp only [State.dumpFull, wrIdx, rdIdx, h.dumpSize]

theorem dumpPlace (h : s.Snapshots t) (r i : Nat) : t.dumpPlace r i = s.dumpPlace r i := by
  have dest := h.rd_eq (f := F.PC_DUMP_CFG_DEST) (by decide) (by decide) (by decide) r
  have high := h.rd_eq (f := F.PC_DUMP_BASE_HI_BASE) (by decide) (by decide) (by decide) r
  have low := h.rd_eq (f := F.PC_DUMP_BASE_LO_BASE) (by decide) (by decide) (by decide) r
  simp [State.dumpPlace, State.regionOf, State.on, dest, high, low, h.dumpSize, h.dumpStride, h.image, h.link, h.master]

end State.Snapshots

namespace State

variable {s : State}

/-! ### One ring that is due (R589, R590) -/

/-- A ring takes its next sequence number. -/
def nextSeq (s : State) (r : Nat) : State :=
  (s.setDumpSeq r ((s.dumpSeq r + 1) % 2 ^ 32)).wr F.PC_DUMP_STAT_SEQ r ((s.dumpSeq r + 1) % 2 ^ 32)

/-- A snapshot that is skipped is counted. -/
def skipDump (s : State) (r : Nat) (full : Bool) : State :=
  ((s.incWrap F.PC_DUMP_STAT_SKIPPED r 1).raise (leafBit .PC_STICKY 2) 0).raiseIf full (leafBit .PC_STICKY 3) 0

/-- The snapshot of a ring waits to be written. -/
def queueDump (s : State) (r seq : Nat) : State := { s with dumpJobs := s.dumpJobs ++ [⟨r, s.dumpEntry r seq⟩] }

/-- The entries of a ring cannot be taken now (R593). -/
def dumpBlocked (s : State) (r : Nat) : Bool := s.dumpFull r || (s.dumpPlace r (s.rd F.PC_DUMP_WR_IDX r)).isNone

/-- A ring that is due takes the snapshot, or skips it. -/
def ringDue (busy : Bool) (s : State) (r : Nat) : State :=
  let t := s.nextSeq r
  if busy || t.dumpBlocked r then t.skipDump r (t.dumpBlocked r) else t.queueDump r ((s.dumpSeq r + 1) % 2 ^ 32)

/-- The rings that are due at this boundary. -/
def ringsDue (s : State) : List Nat :=
  (List.range 4).filter fun r => s.on F.PC_DUMP_CFG_EN r && s.tick.toNat % 2 ^ min 20 (s.rd F.PC_DUMP_CFG_K r) == 0

/-- The boundary at which rings were last due. -/
def noteDump (s : State) : State := { s with dumpAt := some s.now }

theorem dumpDue_eq (s : State) :
    s.dumpDue = if s.dumpAt == some s.now then s else s.noteDump.each s.ringsDue (ringDue (!s.dumpJobs.isEmpty)) := rfl

/-! ### What one ring does to itself and to the others -/

@[simp] theorem dumpSeq_wr (s : State) (f : Field) (i v r : Nat) : (s.wr f i v).dumpSeq r = s.dumpSeq r := (rfl)
@[simp] theorem dumpSeq_raiseIf (s : State) (c : Bool) (f : Field) (i r : Nat) : (s.raiseIf c f i).dumpSeq r = s.dumpSeq r :=
  congrArg (fun q => Tab.get 0 q (r, 0)) (raiseIf_dumpSeqs ..)
@[simp] theorem rd_setDumpSeq (s : State) (r v : Nat) (f : Field) (i : Nat) : (s.setDumpSeq r v).rd f i = s.rd f i := (rfl)
@[simp] theorem rd_queueDump (s : State) (r q : Nat) (f : Field) (i : Nat) : (s.queueDump r q).rd f i = s.rd f i := (rfl)
@[simp] theorem dumpSeq_queueDump (s : State) (r q i : Nat) : (s.queueDump r q).dumpSeq i = s.dumpSeq i := (rfl)

theorem snapshots_nextSeq (s : State) (r : Nat) : s.Snapshots (s.nextSeq r) := ((Snapshots.refl s).setDumpSeq r _).wr _ (by decide) r _

theorem snapshots_skipDump (s : State) (r : Nat) (full : Bool) : s.Snapshots (s.skipDump r full) :=
  (((Snapshots.refl s).wr F.PC_DUMP_STAT_SKIPPED (by decide) r _).raise (leafBit .PC_STICKY 2) (by decide) 0).raiseIf full
    (leafBit .PC_STICKY 3) (by decide) 0

theorem snapshots_queueDump (s : State) (r q : Nat) : s.Snapshots (s.queueDump r q) := ⟨(Within.refl s _).plain rfl, rfl, rfl, rfl⟩

theorem snapshots_ringDue (busy : Bool) (s : State) (r : Nat) : s.Snapshots (ringDue busy s r) := by
  have next := s.snapshots_nextSeq r
  unfold ringDue
  dsimp only
  split
  · exact next.trans (snapshots_skipDump ..)
  · exact next.trans (snapshots_queueDump ..)

theorem Snapshots.dumpBlocked {t : State} (h : s.Snapshots t) (r : Nat) : t.dumpBlocked r = s.dumpBlocked r := by
  rw [State.dumpBlocked, h.dumpFull, h.dumpPlace, h.rd_eq (by decide) (by decide) (by decide), ← State.dumpBlocked]

/-- What the engine keeps of one ring. -/
def ringView (r : Nat) (s : State) : Nat × Nat × Nat × Bool × List DumpJob :=
  (s.dumpSeq r, s.rd F.PC_DUMP_STAT_SEQ r, s.rd F.PC_DUMP_STAT_SKIPPED r, s.dumpBlocked r, s.dumpJobs.filter (·.ring == r))

theorem dumpJobs_nextSeq (s : State) (r : Nat) : (s.nextSeq r).dumpJobs = s.dumpJobs := rfl

theorem dumpJobs_skipDump (s : State) (r : Nat) (full : Bool) : (s.skipDump r full).dumpJobs = s.dumpJobs := by simp [skipDump, raise_dumpJobs]

@[simp] theorem dumpSeq_raise (s : State) (f : Field) (i r : Nat) : (s.raise f i).dumpSeq r = s.dumpSeq r := dumpSeq_raiseIf s true f i r

theorem dumpSeq_skipDump (s : State) (r : Nat) (full : Bool) (i : Nat) : (s.skipDump r full).dumpSeq i = s.dumpSeq i := by
  simp [skipDump, incWrap]

/-- The events of a skip are no part of PC_DUMP_STAT. -/
theorem rd_skipDump {f : Field} (h : f.reg = .PC_DUMP_STAT) (s : State) (r : Nat) (full : Bool) (i : Nat) :
    (s.skipDump r full).rd f i = (s.incWrap F.PC_DUMP_STAT_SKIPPED r 1).rd f i := by
  have apart (b : Nat) : (leafBit .PC_STICKY b).apart f = true := by simp [Field.apart, leafBit, h]
  rw [skipDump, rd_raiseIf_apart (apart 3) (by simp [h]) (by simp [h]), rd_raise_apart (apart 2) (by simp [h]) (by simp [h])]

/-- A ring's own numbers after it was due: the next SEQ, and a skip is counted. -/
theorem ringView_self (busy : Bool) (s : State) (r : Nat) :
    ringView r (ringDue busy s r) = ((s.dumpSeq r + 1) % 2 ^ 32, (s.dumpSeq r + 1) % 2 ^ 32 % 2 ^ F.PC_DUMP_STAT_SEQ.width,
      if busy || s.dumpBlocked r then (s.rd F.PC_DUMP_STAT_SKIPPED r + 1) % 2 ^ F.PC_DUMP_STAT_SKIPPED.width
        else s.rd F.PC_DUMP_STAT_SKIPPED r, s.dumpBlocked r,
      s.dumpJobs.filter (·.ring == r) ++
        if busy || s.dumpBlocked r then [] else [⟨r, (s.nextSeq r).dumpEntry r ((s.dumpSeq r + 1) % 2 ^ 32)⟩]) := by
  have blocked := (snapshots_ringDue busy s r).dumpBlocked r
  have skipped : (s.nextSeq r).rd F.PC_DUMP_STAT_SKIPPED r = s.rd F.PC_DUMP_STAT_SKIPPED r := rd_wr_apart rfl ..
  have seq : (s.nextSeq r).rd F.PC_DUMP_STAT_SEQ r = (s.dumpSeq r + 1) % 2 ^ 32 % 2 ^ F.PC_DUMP_STAT_SEQ.width := rd_wr rfl ..
  have number : (s.nextSeq r).dumpSeq r = (s.dumpSeq r + 1) % 2 ^ 32 := by rw [nextSeq, dumpSeq_wr, dumpSeq_setDumpSeq, if_pos rfl]
  rw [ringView, blocked]
  unfold ringDue
  dsimp only
  rw [(s.snapshots_nextSeq r).dumpBlocked r]
  split
  · rw [dumpSeq_skipDump, rd_skipDump rfl, rd_skipDump rfl, dumpJobs_skipDump, dumpJobs_nextSeq, incWrap, rd_wr rfl, rd_wr_apart rfl,
      skipped, seq, number, List.append_nil]
  · rw [dumpSeq_queueDump, rd_queueDump, rd_queueDump, skipped, seq, number, queueDump, dumpJobs_nextSeq, List.filter_append]
    simp

theorem ringView_other (busy : Bool) {i r : Nat} (h : i ≠ r) (s : State) : ringView r (ringDue busy s i) = ringView r s := by
  have blocked := (snapshots_ringDue busy s i).dumpBlocked r
  have stat (f : Field) : (s.nextSeq i).rd f r = s.rd f r := rd_wr_reg (.inr h) ..
  have number : (s.nextSeq i).dumpSeq r = s.dumpSeq r := by rw [nextSeq, dumpSeq_wr, dumpSeq_setDumpSeq, if_neg h]
  rw [ringView, blocked, ringView]
  unfold ringDue
  dsimp only
  split
  · rw [dumpSeq_skipDump, rd_skipDump rfl, rd_skipDump rfl, dumpJobs_skipDump, dumpJobs_nextSeq, incWrap, rd_wr_reg (.inr h),
      rd_wr_reg (.inr h), stat, stat, number]
  · rw [dumpSeq_queueDump, rd_queueDump, rd_queueDump, stat, stat, number, queueDump, dumpJobs_nextSeq, List.filter_append]
    simp [h]

/-! ### A boundary at which rings are due -/

theorem snapshots_dumpDue (h : s.dumpAt ≠ some s.now) : s.Snapshots s.dumpDue := by
  rw [dumpDue_eq, if_neg (by simpa using h)]
  have noted : s.Snapshots s.noteDump := ⟨(Within.refl s _).plain rfl, rfl, rfl, rfl⟩
  exact noted.each (fun u r => snapshots_ringDue _ u r) _

theorem ringView_dumpDue (h : s.dumpAt ≠ some s.now) {r : Nat} (hr : r < 4) (en : s.on F.PC_DUMP_CFG_EN r = true)
    (due : s.tick.toNat % 2 ^ min 20 (s.rd F.PC_DUMP_CFG_K r) = 0) :
    ∃ u, ringView r u = ringView r s ∧ ringView r s.dumpDue = ringView r (ringDue (!s.dumpJobs.isEmpty) u r) := by
  have listed : r ∈ s.ringsDue := List.mem_filter.2 ⟨List.mem_range.2 hr, by simp [en, due]⟩
  rw [dumpDue_eq, if_neg (by simpa using h)]
  exact each_updates_view (ringView r) (fun u i hi => ringView_other _ hi u) (List.nodup_range.filter _) listed s.noteDump

/-- A property that every step of a loop leaves behind holds after a loop of at least one step. -/
theorem each_leaves {α : Type} {p : State → Prop} {f : State → α → State} (hf : ∀ (u : State) x, p (f u x)) {l : List α}
    (hl : l ≠ []) (s : State) : p (s.each l f) := by
  induction l generalizing s with
  | nil => exact absurd rfl hl
  | cons x l ih =>
    cases l with
    | nil => exact hf s x
    | cons y l => exact ih (List.cons_ne_nil y l) (f s x)

theorem dumpAt_dumpDue (h : s.dumpAt ≠ some s.now) : s.dumpDue.dumpAt = some s.now := by
  have kept (busy : Bool) (u : State) (r : Nat) : (ringDue busy u r).dumpAt = u.dumpAt := by
    simp only [ringDue, apply_ite State.dumpAt]
    simp [skipDump, queueDump, nextSeq, raise_dumpAt, setDumpSeq]
  rw [dumpDue_eq, if_neg (by simpa using h)]
  exact each_keeps State.dumpAt (kept _) _ _

/-- While an entry is being written every ring that is due skips (R590). -/
theorem dumpDue_busy (h : s.dumpAt ≠ some s.now) (busy : s.dumpJobs ≠ []) (due : s.ringsDue ≠ []) :
    s.dumpDue.dumpJobs = s.dumpJobs ∧ s.dumpDue.on (leafBit .PC_STICKY 2) 0 = true := by
  have skips (u : State) (r : Nat) : ringDue true u r = (u.nextSeq r).skipDump r ((u.nextSeq r).dumpBlocked r) := by simp [ringDue]
  have isBusy : (!s.dumpJobs.isEmpty) = true := by simpa using busy
  rw [dumpDue_eq, if_neg (by simpa using h), isBusy]
  refine ⟨each_keeps State.dumpJobs (fun u r => (congrArg _ (skips u r)).trans (dumpJobs_skipDump ..)) _ _,
    each_leaves (p := fun u => u.on (leafBit .PC_STICKY 2) 0 = true) (fun u r => ?_) due _⟩
  rw [skips, skipDump, on, rd_raiseIf_apart rfl (by decide) (by decide), ← on]
  exact on_raise (f := leafBit .PC_STICKY 2) rfl rfl (by decide) (by decide) _ 0

/-! ### An entry written (R593) -/

theorem dumpWritten_idle (h : s.dumpJobs = []) (r : Nat) : s.dumpWritten r = s := by rw [dumpWritten, h]; rfl

/-- The entry of a ring is no longer waiting. -/
def dropDump (s : State) (r : Nat) : State := { s with dumpJobs := s.dumpJobs.filter (·.ring != r) }

theorem dumpWritten_region {r : Nat} {j : DumpJob} {a : Nat} (job : s.dumpJobs.find? (·.ring == r) = some j)
    (dest : s.on F.PC_DUMP_CFG_DEST r = false) (place : s.dumpPlace r (s.rd F.PC_DUMP_WR_IDX r) = some a) :
    s.dumpWritten r = (((s.ancWrite a j.bytes).dropDump r).incWrap F.PC_DUMP_WR_IDX r 1).raise (leafBit .PC_STICKY 1) 0 := by
  simp only [dumpWritten, job, place, dest]
  rfl

theorem dumpWritten_writes {r : Nat} {j : DumpJob} {a : Nat} (job : s.dumpJobs.find? (·.ring == r) = some j)
    (dest : s.on F.PC_DUMP_CFG_DEST r = false) (place : s.dumpPlace r (s.rd F.PC_DUMP_WR_IDX r) = some a) :
    (s.dumpWritten r).rd F.PC_DUMP_WR_IDX r = (s.rd F.PC_DUMP_WR_IDX r + 1) % 2 ^ F.PC_DUMP_WR_IDX.width ∧
    (s.dumpWritten r).dumpJobs = s.dumpJobs.filter (·.ring != r) ∧ (s.dumpWritten r).on (leafBit .PC_STICKY 1) 0 = true ∧
    (s.dumpWritten r).anc = Mem.keep s.anc a j.bytes ∧ (s.dumpWritten r).mem = s.mem ∧
    s.OnlyRegs (s.dumpWritten r) [.PC_DUMP_WR, .PC_STICKY] := by
  rw [dumpWritten_region job dest place]
  have index : ((s.ancWrite a j.bytes).dropDump r).rd F.PC_DUMP_WR_IDX r = s.rd F.PC_DUMP_WR_IDX r := rfl
  have before : s.OnlyRegs ((s.ancWrite a j.bytes).dropDump r) [.PC_DUMP_WR, .PC_STICKY] := (s.onlyRegs_refl _).congr rfl
  refine ⟨?_, ?_, on_raise (f := leafBit .PC_STICKY 1) rfl rfl (by decide) (by decide) _ 0, ?_, ?_, ?_⟩
  · rw [rd_raise_apart rfl (by decide) (by decide), incWrap, rd_wr rfl, index]
  · simp [raise_dumpJobs, dropDump, ancWrite]
  · simp [raise_anc, dropDump, ancWrite]
  · simp [raise_mem, dropDump, ancWrite]
  · exact (before.wr _ (by decide) r _).raise (leafBit .PC_STICKY 1) (by decide) 0

/-! ### STOP and the start of a ring (R588, R593) -/

/-- Every entry that waits to be written is dropped. -/
def dropDumps (s : State) : State := { s with dumpJobs := [] }

theorem dumpStop_whole (s : State) : s.dumpStop false = s.dropDumps.each (List.range 4) fun s r => s.wr F.PC_DUMP_CFG_EN r 0 := rfl

theorem dumpStop_stops (s : State) : (s.dumpStop false).dumpJobs = [] ∧ (∀ r, r < 4 → (s.dumpStop false).rd F.PC_DUMP_CFG_EN r = 0) ∧
    s.Within (s.dumpStop false) [.PC_DUMP_CFG] := by
  rw [dumpStop_whole]
  refine ⟨?_, fun r hr => rd_each_wr_zero rfl (.inl (List.mem_range.2 hr)), ?_⟩
  · exact each_keeps (f := fun (s : State) r => s.wr F.PC_DUMP_CFG_EN r 0) State.dumpJobs (fun _ _ => rfl) _ _
  · have dropped : s.Within s.dropDumps [.PC_DUMP_CFG] := (Within.refl s _).plain rfl
    exact dropped.each (fun r h => h.wr F.PC_DUMP_CFG_EN (by decide) r 0) _

/-- The numbers and the indices of a ring start at 0. -/
def startRing (s : State) (r : Nat) : State :=
  (((s.setDumpSeq r 0).wr F.PC_DUMP_STAT_SEQ r 0).wr F.PC_DUMP_WR_IDX r 0).wr F.PC_DUMP_RD_IDX r 0

theorem writeDumpCfg_starts {v : Word} (h : F.PC_DUMP_CFG_EN.get v = 1) (s : State) (r : Nat) :
    s.writeDumpCfg r v = (s.setReg .PC_DUMP_CFG r (v &&& 0xC01F07FF#32)).startRing r := if_pos (by simp [h])

theorem setDumpSeq_regs (s : State) (r v : Nat) : (s.setDumpSeq r v).regs = s.regs := rfl

theorem sameMemory_startRing (s : State) (r : Nat) : s.SameMemory (s.startRing r) := ⟨rfl, rfl, rfl, rfl⟩

theorem writeDumpCfg_enables {v : Word} (h : F.PC_DUMP_CFG_EN.get v = 1) (s : State) (r : Nat) :
    (s.writeDumpCfg r v).rd F.PC_DUMP_CFG_EN r = 1 ∧ (s.writeDumpCfg r v).rd F.PC_DUMP_CFG_K r = F.PC_DUMP_CFG_K.get v ∧
    (s.writeDumpCfg r v).dumpSeq r = 0 ∧ (s.writeDumpCfg r v).rd F.PC_DUMP_WR_IDX r = 0 ∧ (s.writeDumpCfg r v).rd F.PC_DUMP_RD_IDX r = 0 ∧
    s.OnlyAt (s.writeDumpCfg r v) r [.PC_DUMP_CFG, .PC_DUMP_STAT, .PC_DUMP_WR, .PC_DUMP_RD] ∧ s.SameMemory (s.writeDumpCfg r v) := by
  rw [writeDumpCfg_starts h]
  have taken {f : Field} (hg : f.good = true) (hr : f.reg = .PC_DUMP_CFG) (covers : f.mask &&& 0xC01F07FF = f.mask) :
      ((s.setReg .PC_DUMP_CFG r (v &&& 0xC01F07FF#32)).startRing r).rd f r = f.get v := by
    have kept (t : State) : (t.startRing r).rd f r = t.rd f r := by
      rw [startRing, rd_wr_reg (.inl (by simp +decide [hr])), rd_wr_reg (.inl (by simp +decide [hr])), rd_wr_reg (.inl (by simp +decide [hr])),
        rd_setDumpSeq]
    rw [kept, ← hr, rd_setReg hg]
    exact Field.get_and hg covers v
  refine ⟨(taken rfl rfl (by decide)).trans h, taken rfl rfl (by decide), ?_, ?_, rd_wr_fits rfl (by decide) _ r, ?_, ?_⟩
  · rw [startRing, dumpSeq_wr, dumpSeq_wr, dumpSeq_wr, dumpSeq_setDumpSeq, if_pos rfl]
  · rw [startRing, rd_wr_apart rfl]
    exact rd_wr_fits rfl (by decide) _ r
  · have set : s.OnlyAt (s.setReg .PC_DUMP_CFG r (v &&& 0xC01F07FF#32)) r [.PC_DUMP_CFG, .PC_DUMP_STAT, .PC_DUMP_WR, .PC_DUMP_RD] :=
      (s.onlyAt_refl r _).setReg _ (by decide) _
    exact (((set.congr (setDumpSeq_regs _ r 0)).wr F.PC_DUMP_STAT_SEQ (by decide) 0).wr F.PC_DUMP_WR_IDX (by decide)
      0).wr F.PC_DUMP_RD_IDX (by decide) 0
  · exact sameMemory_startRing (s.setReg .PC_DUMP_CFG r (v &&& 0xC01F07FF#32)) r

end State

/-- Settles O39. Each ring reads only its own numbers, so what a ring does at a boundary is what it does alone; the engine is busy with the
entries that waited before the boundary. -/
theorem dumpRingsTakeSnapshots : Obligations.DumpRingsTakeSnapshots := by
  unfold Obligations.DumpRingsTakeSnapshots
  refine ⟨fun s h => congrArg Host.Outcome.next (if_pos (by simp [h])), fun r s fresh en due => ⟨fun idle room place => ?_, fun busy => ?_⟩,
    fun r j a s job dest place => ?_, fun r s idle => congrArg Host.Outcome.next (State.dumpWritten_idle idle r.val), fun m s user => ⟨?_, ?_⟩⟩
  · obtain ⟨u, seen, after⟩ := State.ringView_dumpDue fresh r.isLt en due
    have free : s.dumpBlocked r.val = false := by simpa [State.dumpBlocked, room] using place
    simp only [State.ringView, Prod.mk.injEq] at seen
    obtain ⟨number, -, -, blocked, -⟩ := seen
    rw [State.ringView_self, number, blocked, free, idle] at after
    simp only [State.ringView, Prod.mk.injEq] at after
    obtain ⟨seq, stat, -, -, jobs⟩ := after
    have frame := State.snapshots_dumpDue fresh
    refine ⟨s.dumpDue, rfl, seq, stat, ?_, State.dumpAt_dumpDue fresh, frame.regs, frame.memory⟩
    have job := (List.mem_filter.1 (jobs ▸ List.mem_append_right _ (List.mem_singleton.2 rfl)))
    exact ⟨_, job.1, rfl⟩
  · obtain ⟨u, seen, after⟩ := State.ringView_dumpDue fresh r.isLt en due
    have isBusy : (!s.dumpJobs.isEmpty) = true := by simpa using busy
    have listed : r.val ∈ s.ringsDue := List.mem_filter.2 ⟨List.mem_range.2 r.isLt, by simp [en, due]⟩
    have frame := State.snapshots_dumpDue fresh
    obtain ⟨jobs, skip⟩ := State.dumpDue_busy fresh busy (List.ne_nil_of_mem listed)
    simp only [State.ringView, Prod.mk.injEq] at seen
    obtain ⟨-, -, skipped, -, -⟩ := seen
    rw [State.ringView_self, isBusy, skipped] at after
    simp only [State.ringView, Prod.mk.injEq] at after
    obtain ⟨-, -, count, -, -⟩ := after
    exact ⟨s.dumpDue, rfl, jobs, skip, count, frame.regs, frame.memory⟩
  · obtain ⟨index, jobs, leaf, anc, mem, frame⟩ := State.dumpWritten_writes job dest place
    refine ⟨s.dumpWritten r.val, rfl, index, fun x hx => ?_, leaf, fun b hb => ?_, mem, frame⟩
    · rw [jobs] at hx
      simpa using (List.mem_filter.1 hx).2
    · rw [anc, Mem.find_keep_other _ hb]
  · obtain ⟨jobs, off, frame⟩ := s.dumpStop_stops
    refine ⟨(s.dumpStop false).reply m (.ok 0), congrArg Host.Outcome.next (State.pcWrite_taken user ..),
      (State.reply_dumpJobs ..).trans jobs, fun r hr => ?_, State.answer_reply .., (frame.reply m _).regs, (frame.reply m _).memory⟩
    · rw [State.on, State.rd_reply, off r hr]
      rfl
  · intro r v start
    obtain ⟨en, k, seq, wrIdx, rdIdx, frame, memory⟩ := State.writeDumpCfg_enables start s r.val
    refine ⟨(s.writeDumpCfg r.val v).reply m (.ok 0), congrArg Host.Outcome.next (State.pcWrite_taken user ..), ?_, ?_, seq, ?_, ?_,
      State.answer_reply .., frame.congr (State.reply_regs ..), memory⟩
    · rw [State.on, State.rd_reply, en]
      rfl
    · rw [State.rd_reply, k]
    · rw [State.rd_reply, wrIdx]
    · rw [State.rd_reply, rdIdx]

end Sys2Proof.Machine
end

section
/-! The failed sensor, the way into a thermal shutdown, and BIST (O46). -/

namespace Sys2Proof.Machine

namespace State

variable {s : State}

/-! ### The way into a thermal shutdown (R627, R628) -/

/-- The reset of a shutdown comes at the first boundary after `us` microseconds. -/
def beginShutdown (s : State) (us : Nat) : State :=
  { s with thermal := { s.thermal with resetAt := some (s.now + 10 * us / 32 + 1) } }

/-- An engine is held dark by the thermal guard. -/
def thermalHold (s : State) (e : Nat) : State := s.modEngine e fun x => { x with thermal := true }

/-- From 135 °C a transmitter goes off without a ramp. -/
def cutThermal (s : State) (e : Nat) : State :=
  ((s.thermalHold e).modEngine e fun x => { x with ramp := none }).wr F.LE_STAT_TX_STATE e (min 1 (s.txState e))

/-- From 130 °C a transmitter ramps down. -/
def rampThermal (s : State) (e : Nat) : State := (s.thermalHold e).followRequest e

/-- An ACTIVE device sets RELEASE in its beats (R449). -/
def releaseBeats (s : State) : State := if s.active then s.modMate fun x => { x with release := true } else s

/-- The engines of the device. -/
def presentEngines (s : State) : List Nat := (List.range 8).filter s.engineExists

theorem mem_presentEngines {e : Nat} (h : s.engineExists e = true) : e ∈ s.presentEngines := by
  refine List.mem_filter.2 ⟨List.mem_range.2 ?_, h⟩
  simp only [engineExists, Bool.or_eq_true, Bool.and_eq_true, decide_eq_true_eq] at h
  omega

theorem nodup_presentEngines : s.presentEngines.Nodup := List.nodup_range.filter _

/-- The reading is at or above 135 °C. -/
def fierce (s : State) : Bool := match s.thermal.tj with | some t => decide (540 ≤ t) | none => false

/-- What a shutdown does to an engine. -/
def shutdownStep (fierce : Bool) (s : State) (e : Nat) : State := if fierce then s.cutThermal e else s.rampThermal e

theorem thermalShutdown_eq (s : State) :
    s.thermalShutdown = if s.boot.porst || s.thermal.resetAt.isSome || !(s.fierce || decide (16 ≤ s.thermal.hot)) then s
      else ((s.beginShutdown (if s.fierce then 0 else s.longestDark)).each s.presentEngines (shutdownStep s.fierce)).releaseBeats := rfl

section
variable {tj : Int} (ht : s.thermal.tj = some tj) (hp : s.boot.porst = false) (hr : s.thermal.resetAt = none)
include ht hp hr

theorem thermalShutdown_fierce (h : 540 ≤ tj) :
    s.thermalShutdown = ((s.beginShutdown 0).each s.presentEngines cutThermal).releaseBeats := by
  have fierce : s.fierce = true := by simp [State.fierce, ht, h]
  have step : shutdownStep true = cutThermal := rfl
  simp [thermalShutdown_eq, fierce, hp, hr, step]

theorem thermalShutdown_hot (h : tj < 540) (hot : 16 ≤ s.thermal.hot) :
    s.thermalShutdown = ((s.beginShutdown s.longestDark).each s.presentEngines rampThermal).releaseBeats := by
  have fierce : s.fierce = false := by simp [State.fierce, ht, h]
  have step : shutdownStep false = rampThermal := rfl
  simp [thermalShutdown_eq, fierce, hp, hr, hot, step]

theorem thermalShutdown_cool (h : tj < 540) (hot : s.thermal.hot < 16) : s.thermalShutdown = s := by
  have fierce : s.fierce = false := by simp [State.fierce, ht, h]
  simp [thermalShutdown_eq, fierce, hp, hr, hot]

end

/-! ### What the steps of a shutdown leave -/

theorem cutThermal_self (s : State) (e : Nat) : (s.cutThermal e).txState e ≤ 1 ∧ ((s.cutThermal e).engine e).thermal = true := by
  constructor
  · rw [cutThermal, txState, rd_wr_fits rfl (lt_of_le_of_lt (min_le_left ..) (by decide))]
    exact min_le_left ..
  · rw [cutThermal, engine_wr, engine_modEngine_same, thermalHold, engine_modEngine_same]

theorem cutThermal_other {i e : Nat} (h : i ≠ e) (s : State) :
    ((s.cutThermal i).txState e, ((s.cutThermal i).engine e).thermal) = (s.txState e, (s.engine e).thermal) := by
  rw [cutThermal, txState, rd_wr_reg (.inr h), engine_wr, engine_modEngine_ne h.symm, thermalHold, engine_modEngine_ne h.symm]
  rfl

theorem cutThermal_within {t : State} (h : s.Within t [.LE_STAT]) (e : Nat) : s.Within (t.cutThermal e) [.LE_STAT] :=
  (Within.plain (u := (t.thermalHold e).modEngine e fun x => { x with ramp := none }) h rfl).wr F.LE_STAT_TX_STATE (by decide) e _

/-- The thermal record and the hold of an engine do not move with a ramp. -/
theorem followRequest_thermal (s : State) (i : Nat) :
    (s.followRequest i).thermal = s.thermal ∧ ∀ e, ((s.followRequest i).engine e).thermal = (s.engine e).thermal := by
  have held {f : Engine → Engine} (hf : ∀ x, (f x).thermal = x.thermal) (e : Nat) :
      ((s.modEngine i f).engine e).thermal = (s.engine e).thermal := by
    by_cases h : e = i
    · rw [h, engine_modEngine_same, hf]
    · rw [engine_modEngine_ne h]
  have lights (e : Nat) : ((s.light i).engine e).thermal = (s.engine e).thermal := by
    rw [light, engine_wr, held]
    exact fun _ => rfl
  have darkens (e : Nat) : ((s.darken i).engine e).thermal = (s.engine e).thermal := by
    rw [darken, engine_wr, held]
    exact fun _ => rfl
  unfold followRequest
  split
  · exact ⟨rfl, fun _ => rfl⟩
  · split
    · exact ⟨rfl, lights⟩
    · exact ⟨raise_thermal .., fun e => by rw [engine_raise, darkens]⟩
    · exact ⟨rfl, darkens⟩
    · exact ⟨raise_thermal .., fun e => by rw [engine_raise, lights]⟩
    · exact ⟨rfl, fun _ => rfl⟩

theorem rampThermal_self (s : State) (e : Nat) : ((s.rampThermal e).engine e).thermal = true := by
  rw [rampThermal, (followRequest_thermal _ e).2 e, thermalHold, engine_modEngine_same]

theorem rampThermal_other {i e : Nat} (h : i ≠ e) (s : State) : ((s.rampThermal i).engine e).thermal = (s.engine e).thermal := by
  rw [rampThermal, (followRequest_thermal _ i).2 e, thermalHold, engine_modEngine_ne h.symm]

theorem rampThermal_within {t : State} (h : s.Within t [.LE_STAT, .LE_STICKY]) (e : Nat) :
    s.Within (t.rampThermal e) [.LE_STAT, .LE_STICKY] := by
  have held : s.Within (t.thermalHold e) [.LE_STAT, .LE_STICKY] := h.plain rfl
  have follows := KeepsDies.followRequest (t.thermalHold e) e
  exact held.trans ⟨follows.regs, follows.memory⟩

theorem Within.releaseBeats {t : State} {rs : List Reg} (h : s.Within t rs) : s.Within t.releaseBeats rs := by
  unfold State.releaseBeats
  exact (h.plain (u := t.modMate fun x => { x with release := true }) rfl).ite h

theorem releaseBeats_thermal (s : State) : s.releaseBeats.thermal = s.thermal ∧ ∀ e, s.releaseBeats.engine e = s.engine e := by
  unfold releaseBeats
  split
  · exact ⟨rfl, fun _ => rfl⟩
  · exact ⟨rfl, fun _ => rfl⟩

theorem releaseBeats_active (h : s.active = true) : s.releaseBeats.mate.release = true := by rw [releaseBeats, if_pos h]; rfl

theorem txState_releaseBeats (s : State) (e : Nat) : s.releaseBeats.txState e = s.txState e := by
  unfold releaseBeats
  split
  · rfl
  · rfl

/-! ### BIST (R629) -/

/-- The memories are at zero and a test has ended. -/
def endTest (s : State) : State := (s.blankMemories.wr F.TS_BIST_STAT_BUSY 0 0).wr F.TS_BIST_STAT_DONE 0 1

theorem endTest_ends (s : State) : s.endTest.on F.TS_BIST_STAT_BUSY 0 = false ∧ s.endTest.on F.TS_BIST_STAT_DONE 0 = true ∧
    s.endTest.mem = [] ∧ s.endTest.anc = s.anc ∧ s.OnlyAt s.endTest 0 [.TS_BIST_STAT, .TS_STICKY] := by
  have blank : s.OnlyAt s.blankMemories 0 [.TS_BIST_STAT, .TS_STICKY] := (s.onlyAt_refl 0 _).congr rfl
  refine ⟨?_, ?_, rfl, rfl, (blank.wr F.TS_BIST_STAT_BUSY (by decide) 0).wr F.TS_BIST_STAT_DONE (by decide) 1⟩
  · rw [endTest, on, rd_wr_apart rfl, rd_wr_fits rfl (by decide)]
    rfl
  · rw [endTest, on, rd_wr_fits rfl (by decide)]
    rfl

/-- The first failure of a test. -/
def showFail (s : State) (mac col : Nat) : State :=
  ((s.wr F.TS_BIST_STAT_FAIL 0 1).wr F.TS_BIST_STAT_MACRO 0 mac).wr F.TS_BIST_STAT_COL 0 col

theorem bistAbort_busy (h : s.on F.TS_BIST_STAT_BUSY 0 = true) : s.bistAbort = s.endTest.raise F.TS_STICKY_BIST_DONE 0 := if_pos h

theorem bistDone_busy (h : s.on F.TS_BIST_STAT_BUSY 0 = true) (mac col : Nat) :
    s.bistDone (some (mac, col)) = (s.endTest.showFail mac col).raise F.TS_STICKY_BIST_DONE 0 := if_neg (by simp [h])

theorem bistGo_starts (h : s.on F.TS_BIST_STAT_BUSY 0 = false) :
    s.bistGo.on F.TS_BIST_STAT_BUSY 0 = true ∧ s.bistGo.on F.TS_BIST_STAT_DONE 0 = false ∧ s.OnlyAt s.bistGo 0 [.TS_BIST_STAT] ∧
    s.SameMemory s.bistGo := by
  have go : s.bistGo = s.setReg .TS_BIST_STAT 0 0x80000000#32 := if_neg (by simp [h])
  rw [go]
  have set {f : Field} (hg : f.good = true) (hr : f.reg = .TS_BIST_STAT) :
      (s.setReg .TS_BIST_STAT 0 0x80000000#32).rd f 0 = f.get 0x80000000#32 := hr ▸ rd_setReg hg ..
  refine ⟨?_, ?_, (s.onlyAt_refl 0 _).setReg _ (by decide) _, ⟨rfl, rfl, rfl, rfl⟩⟩
  · rw [on, set rfl rfl]
    decide
  · rw [on, set rfl rfl]
    decide

theorem showFail_shows {mac col : Nat} (hm : mac < 4096) (hc : col < 1024) (s : State) :
    (s.showFail mac col).on F.TS_BIST_STAT_FAIL 0 = true ∧ (s.showFail mac col).rd F.TS_BIST_STAT_MACRO 0 = mac ∧
    (s.showFail mac col).rd F.TS_BIST_STAT_COL 0 = col := by
  refine ⟨?_, ?_, rd_wr_fits rfl hc _ 0⟩
  · rw [showFail, on, rd_wr_apart rfl, rd_wr_apart rfl, rd_wr_fits rfl (by decide)]
    rfl
  · rw [showFail, rd_wr_apart rfl, rd_wr_fits rfl hm]

/-- The failure does not change what a test has ended with. -/
theorem showFail_keeps (s : State) (mac col : Nat) :
    (s.showFail mac col).on F.TS_BIST_STAT_BUSY 0 = s.on F.TS_BIST_STAT_BUSY 0 ∧
    (s.showFail mac col).on F.TS_BIST_STAT_DONE 0 = s.on F.TS_BIST_STAT_DONE 0 ∧ (s.showFail mac col).mem = s.mem ∧
    (s.showFail mac col).anc = s.anc ∧ s.OnlyAt (s.showFail mac col) 0 [.TS_BIST_STAT, .TS_STICKY] := by
  refine ⟨?_, ?_, rfl, rfl, ?_⟩
  · rw [showFail, on, rd_wr_apart rfl, rd_wr_apart rfl, rd_wr_apart rfl, on]
  · rw [showFail, on, rd_wr_apart rfl, rd_wr_apart rfl, rd_wr_apart rfl, on]
  · exact (((s.onlyAt_refl 0 _).wr F.TS_BIST_STAT_FAIL (by decide) 1).wr F.TS_BIST_STAT_MACRO (by decide) mac).wr F.TS_BIST_STAT_COL
      (by decide) col

/-- The event of the end leaves what the test has ended with. -/
theorem bistEvent (s : State) :
    (s.raise F.TS_STICKY_BIST_DONE 0).on F.TS_STICKY_BIST_DONE 0 = true ∧
    (∀ f : Field, f.reg = .TS_BIST_STAT → (s.raise F.TS_STICKY_BIST_DONE 0).rd f 0 = s.rd f 0) ∧
    (s.raise F.TS_STICKY_BIST_DONE 0).mem = s.mem ∧ (s.raise F.TS_STICKY_BIST_DONE 0).anc = s.anc ∧
    s.OnlyAt (s.raise F.TS_STICKY_BIST_DONE 0) 0 [.TS_BIST_STAT, .TS_STICKY] := by
  refine ⟨on_raise rfl rfl (by decide) (by decide) s 0, fun f hf => ?_, raise_mem .., raise_anc .., (s.onlyAt_refl 0 _).raise _ (by decide)⟩
  exact rd_raise_apart (by simp +decide [Field.apart, hf]) (by simp [hf]) (by simp [hf]) s 0 0

theorem bistCtrl_go {v : Word} {m : Initiator} (go : F.TS_BIST_CTRL_GO.get v = 1) (abort : F.TS_BIST_CTRL_ABORT.get v = 0)
    (test : s.devState = .test) : s.bistCtrl m v = s.bistGo.reply m (.ok 0) := by
  simp [bistCtrl, go, abort, test]

theorem bistCtrl_refused {v : Word} {m : Initiator} (go : F.TS_BIST_CTRL_GO.get v = 1) (test : s.devState ≠ .test) :
    s.bistCtrl m v = s.busError m true 0x2F000000 .target := by
  simp [bistCtrl, go, test]

theorem bistCtrl_abort {v : Word} {m : Initiator} (go : F.TS_BIST_CTRL_GO.get v = 0) (abort : F.TS_BIST_CTRL_ABORT.get v = 1) :
    s.bistCtrl m v = s.bistAbort.reply m (.ok 0) := by
  simp [bistCtrl, go, abort]

end State

/-! ### The shutdown as a whole -/

section
variable {s : State} {tj : Int}

theorem thermalShutdown_off (ht : s.thermal.tj = some tj) (hp : s.boot.porst = false) (hr : s.thermal.resetAt = none) (h : 540 ≤ tj) :
    s.thermalShutdown.thermal.resetAt = some (s.now + 1) ∧
    (∀ e, s.engineExists e = true → s.thermalShutdown.txState e ≤ 1 ∧ (s.thermalShutdown.engine e).thermal = true) ∧
    (s.active = true → s.thermalShutdown.mate.release = true) ∧ s.Within s.thermalShutdown [.LE_STAT] := by
  have begun : s.Within (s.beginShutdown 0) [.LE_STAT] := (State.Within.refl s _).plain rfl
  have cut := begun.each (fun e h => State.cutThermal_within h e) s.presentEngines
  rw [State.thermalShutdown_fierce ht hp hr h]
  refine ⟨?_, fun e he => ?_, fun act => State.releaseBeats_active ?_, cut.releaseBeats⟩
  · rw [(State.releaseBeats_thermal _).1, State.each_keeps State.thermal (f := State.cutThermal) (fun _ _ => rfl)]
    exact congrArg some (by omega)
  · obtain ⟨u, -, after⟩ := State.each_updates_view (fun t => (t.txState e, (t.engine e).thermal)) (f := State.cutThermal) (i := e)
      (fun t k hk => State.cutThermal_other hk t) State.nodup_presentEngines (State.mem_presentEngines he) (s.beginShutdown 0)
    obtain ⟨off, held⟩ := Prod.mk.inj after
    rw [State.txState_releaseBeats, (State.releaseBeats_thermal _).2 e, off, held]
    exact State.cutThermal_self u e
  · rw [State.active, cut.regs.rd_eq (by decide) (by decide) (by decide)]
    exact act

theorem thermalShutdown_ramps (ht : s.thermal.tj = some tj) (hp : s.boot.porst = false) (hr : s.thermal.resetAt = none) (h : tj < 540)
    (hot : 16 ≤ s.thermal.hot) :
    s.thermalShutdown.thermal.resetAt = some (s.now + 10 * s.longestDark / 32 + 1) ∧
    (∀ e, s.engineExists e = true → (s.thermalShutdown.engine e).thermal = true) ∧ s.SameMemory s.thermalShutdown := by
  have begun : s.Within (s.beginShutdown s.longestDark) [.LE_STAT, .LE_STICKY] := (State.Within.refl s _).plain rfl
  have ramped := begun.each (fun e h => State.rampThermal_within h e) s.presentEngines
  rw [State.thermalShutdown_hot ht hp hr h hot]
  refine ⟨?_, fun e he => ?_, ramped.releaseBeats.memory⟩
  · rw [(State.releaseBeats_thermal _).1,
      State.each_keeps State.thermal (f := State.rampThermal) fun t e => (State.followRequest_thermal (t.thermalHold e) e).1]
    rfl
  · obtain ⟨u, -, after⟩ := State.each_updates_view (fun t => (t.engine e).thermal) (f := State.rampThermal) (i := e)
      (fun t k hk => State.rampThermal_other hk t) State.nodup_presentEngines (State.mem_presentEngines he) (s.beginShutdown s.longestDark)
    rw [(State.releaseBeats_thermal _).2 e]
    exact after.trans (State.rampThermal_self u e)

end

/-! ### A test that ends -/

section
variable {s : State}

theorem bistAbort_ends (busy : s.on F.TS_BIST_STAT_BUSY 0 = true) :
    s.bistAbort.on F.TS_BIST_STAT_BUSY 0 = false ∧ s.bistAbort.on F.TS_BIST_STAT_DONE 0 = true ∧
    s.bistAbort.on F.TS_STICKY_BIST_DONE 0 = true ∧ s.bistAbort.mem = [] ∧ s.bistAbort.anc = s.anc ∧
    s.OnlyAt s.bistAbort 0 [.TS_BIST_STAT, .TS_STICKY] := by
  obtain ⟨off, done, mem, anc, frame⟩ := s.endTest_ends
  obtain ⟨event, stat, mem2, anc2, frame2⟩ := s.endTest.bistEvent
  rw [State.bistAbort_busy busy]
  refine ⟨?_, ?_, event, mem2.trans mem, anc2.trans anc, frame.trans frame2⟩
  · rwa [State.on, stat _ rfl]
  · rwa [State.on, stat _ rfl]

theorem bistDone_ends (busy : s.on F.TS_BIST_STAT_BUSY 0 = true) {mac col : Nat} (hm : mac < 4096) (hc : col < 1024) :
    (s.bistDone (some (mac, col))).on F.TS_BIST_STAT_BUSY 0 = false ∧ (s.bistDone (some (mac, col))).on F.TS_BIST_STAT_DONE 0 = true ∧
    (s.bistDone (some (mac, col))).on F.TS_BIST_STAT_FAIL 0 = true ∧ (s.bistDone (some (mac, col))).rd F.TS_BIST_STAT_MACRO 0 = mac ∧
    (s.bistDone (some (mac, col))).rd F.TS_BIST_STAT_COL 0 = col ∧ (s.bistDone (some (mac, col))).on F.TS_STICKY_BIST_DONE 0 = true ∧
    (s.bistDone (some (mac, col))).mem = [] ∧ (s.bistDone (some (mac, col))).anc = s.anc ∧
    s.OnlyAt (s.bistDone (some (mac, col))) 0 [.TS_BIST_STAT, .TS_STICKY] := by
  obtain ⟨off, done, mem, anc, frame⟩ := s.endTest_ends
  obtain ⟨fail, macroId, column⟩ := s.endTest.showFail_shows hm hc
  obtain ⟨off1, done1, mem1, anc1, frame1⟩ := s.endTest.showFail_keeps mac col
  obtain ⟨event, stat, mem2, anc2, frame2⟩ := (s.endTest.showFail mac col).bistEvent
  rw [State.bistDone_busy busy]
  refine ⟨?_, ?_, ?_, ?_, ?_, event, mem2.trans (mem1.trans mem), anc2.trans (anc1.trans anc), (frame.trans frame1).trans frame2⟩
  · rw [State.on, stat _ rfl, ← State.on, off1, off]
  · rw [State.on, stat _ rfl, ← State.on, done1, done]
  · rwa [State.on, stat _ rfl]
  · rwa [stat _ rfl]
  · rwa [stat _ rfl]

end

/-- Settles O46. Each engine of the device is cut or ramped once, whatever the others do; a test that ends leaves blank memories. -/
theorem thermalGuardAndBist : Obligations.ThermalGuardAndBist := by
  unfold Obligations.ThermalGuardAndBist
  refine ⟨fun s => ⟨s.sensorFail, rfl, State.on_raise rfl rfl (by decide) (by decide) s 0, (s.onlyAt_refl 0 _).raise _ (by decide),
      s.raise_sameMemory _ 0⟩, fun tj s ht hp hr => ⟨fun h => ?_, fun h hot => ?_, fun h hot => ?_⟩,
    fun m v s go abort => ⟨fun test busy => ?_, fun test => ?_⟩, fun m v s go abort busy => ?_,
    fun mac col s => ⟨fun busy => ?_, fun idle => ?_⟩⟩
  · obtain ⟨reset, off, release, frame⟩ := thermalShutdown_off ht hp hr h
    exact ⟨s.thermalShutdown, rfl, reset, off, release, frame.regs, frame.memory⟩
  · exact ⟨s.thermalShutdown, rfl, thermalShutdown_ramps ht hp hr h hot⟩
  · exact congrArg Host.Outcome.next (State.thermalShutdown_cool ht hp hr h hot)
  · obtain ⟨starts, done, frame, memory⟩ := State.bistGo_starts busy
    refine ⟨s.bistGo.reply m (.ok 0), congrArg Host.Outcome.next (State.bistCtrl_go go abort test), ?_, ?_, State.answer_reply ..,
      frame.congr (State.reply_regs ..), memory⟩
    · rwa [State.on, State.rd_reply]
    · rwa [State.on, State.rd_reply]
  · refine ⟨s.busError m true 0x2F000000 .target, congrArg Host.Outcome.next (State.bistCtrl_refused go test), State.answer_busError .., ?_,
      (State.busError_within ..).regs, (State.busError_within ..).memory⟩
    exact (State.busError_record ..).1
  · obtain ⟨off, done, event, mem, anc, frame⟩ := bistAbort_ends busy
    refine ⟨s.bistAbort.reply m (.ok 0), congrArg Host.Outcome.next (State.bistCtrl_abort go abort), ?_, ?_, fun a => ?_, anc, ?_,
      State.answer_reply .., frame.congr (State.reply_regs ..)⟩
    · rwa [State.on, State.rd_reply]
    · rwa [State.on, State.rd_reply]
    · rw [State.reply_mem, mem]
      rfl
    · rwa [State.on, State.rd_reply]
  · obtain ⟨off, done, fail, mac', col', event, mem, anc, frame⟩ := bistDone_ends busy mac.isLt col.isLt
    exact ⟨s.bistDone (some (mac.val, col.val)), rfl, off, done, fail, mac', col', event, fun a => by rw [mem]; rfl, anc, frame⟩
  · exact congrArg Host.Outcome.next (if_pos (by simp [idle]))

end Sys2Proof.Machine
end

section
/-! Image commands and commit records (O40). -/

namespace Sys2Proof.Machine

/-! ### What the check of an image reads (R548) -/

/-- The two states agree in what the check of an image reads beside the image and the holds. -/
structure State.SameChecks (s t : State) : Prop where
  variant : t.rd F.SY_ID_VARIANT 0 = s.rd F.SY_ID_VARIANT 0
  mateEn : t.on F.SY_STRAP_MATE_EN 0 = s.on F.SY_STRAP_MATE_EN 0
  role : t.rd F.HR_CFG_ROLE 0 = s.rd F.HR_CFG_ROLE 0
  dumpList : ∀ r, t.rd F.PC_DUMP_CFG_L r = s.rd F.PC_DUMP_CFG_L r
  dumpRate : ∀ r, t.rd F.PC_DUMP_CFG_K r = s.rd F.PC_DUMP_CFG_K r
  fuses : t.fuses = s.fuses

namespace State.SameChecks

variable {s t : State} (h : s.SameChecks t)
include h

theorem engineExists (e : Nat) : t.engineExists e = s.engineExists e := by
  rw [State.engineExists, State.halfDevice, h.variant, ← State.halfDevice, ← State.engineExists]

theorem portAbsent : t.portAbsent = s.portAbsent := by
  funext p
  simp only [State.portAbsent, h.engineExists]

theorem portUnused (im : Image) (p : Nat) : t.portUnused im p = s.portUnused im p := by
  simp only [State.portUnused, h.engineExists]

theorem entryFails (hw : t.swap = s.swap) (im : Image) (es : List (Nat × Word)) (cause : Nat) (e : Nat × Word) :
    t.entryFails im es cause e = s.entryFails im es cause e := by
  simp only [State.entryFails, h.portUnused, hw]

theorem withSwap (x : Swap) : State.SameChecks { s with swap := x } { t with swap := x } :=
  ⟨h.variant, h.mateEn, h.role, h.dumpList, h.dumpRate, h.fuses⟩

theorem deviceBroken (im : Image) : t.deviceBroken im = s.deviceBroken im := by simp only [State.deviceBroken, h.role]

theorem lanesBroken (im : Image) : t.lanesBroken im = s.lanesBroken im := by simp only [State.lanesBroken, h.mateEn]

theorem enginesBroken (im : Image) : t.enginesBroken im = s.enginesBroken im := by simp only [State.enginesBroken, h.engineExists]

theorem trainsBroken (im : Image) : t.trainsBroken im = s.trainsBroken im := by simp only [State.trainsBroken, h.portAbsent]

theorem manifestBroken (im : Image) : t.manifestBroken im = s.manifestBroken im := by
  simp only [State.manifestBroken, h.portAbsent, (h.withSwap {}).entryFails rfl]

theorem mergeBroken (im : Image) : t.mergeBroken im = s.mergeBroken im := by simp only [State.mergeBroken, h.portAbsent]

theorem dumpStride (r : Nat) : t.dumpStride r = s.dumpStride r := by rw [State.dumpStride, State.dumpLen, h.dumpList]; rfl

theorem reserves (im : Image) : t.reserves im = s.reserves im := by
  funext r
  simp only [State.reserves, h.dumpStride, h.dumpRate]

theorem anchorageBroken (im : Image) (x : Holds) : t.anchorageBroken im x = s.anchorageBroken im x := by
  simp only [State.anchorageBroken, State.holdOver, h.reserves]

theorem hierarchyBroken (im : Image) : t.hierarchyBroken im = s.hierarchyBroken im := by simp only [State.hierarchyBroken, h.role]

theorem contentBroken (im : Image) (x : Holds) : t.contentBroken im x = s.contentBroken im x := by
  simp only [State.contentBroken, h.deviceBroken, h.lanesBroken, h.enginesBroken, h.trainsBroken, h.manifestBroken, h.mergeBroken,
    h.anchorageBroken, h.hierarchyBroken]

theorem signedBy (im : Image) : t.signedBy im = s.signedBy im := by rw [State.signedBy, h.fuses, ← State.signedBy]

theorem imageReason (im : Image) (x : Holds) (ok : Bool) : t.imageReason im x ok = s.imageReason im x ok := by
  rw [State.imageReason, h.fuses, h.contentBroken, h.signedBy, ← State.imageReason]

theorem imageFault (im : Image) (x : Holds) : t.imageFault im x = s.imageFault im x := by
  rw [State.imageFault, h.imageReason, h.contentBroken, ← State.imageFault]

end State.SameChecks

/-- The registers that an image command or the load of an image writes are not read by the check. -/
theorem State.OnlyAt.sameChecks {s t : State} {i : Nat} (h : s.OnlyAt t i [.SY_IMG_CMD, .SY_IMG_STAT, .SY_IMG_DIGEST_A])
    (hf : t.fuses = s.fuses) : s.SameChecks t where
  variant := h.onlyRegs.rd_eq (by decide) (by decide) (by decide) 0
  mateEn := congrArg (· == 1) (h.onlyRegs.rd_eq (by decide) (by decide) (by decide) 0)
  role := h.onlyRegs.rd_eq (by decide) (by decide) (by decide) 0
  dumpList := h.onlyRegs.rd_eq (by decide) (by decide) (by decide)
  dumpRate := h.onlyRegs.rd_eq (by decide) (by decide) (by decide)
  fuses := hf

theorem State.OnlyAt.holds {s t : State} {i : Nat} (h : s.OnlyAt t i [.SY_IMG_CMD, .SY_IMG_STAT, .SY_IMG_DIGEST_A]) : t.holds = s.holds := by
  have kept (f : Field) (hr : f.reg = .MM_ANC_STAT) (j : Nat) : t.rd f j = s.rd f j :=
    h.onlyRegs.rd_eq (by simp [hr]) (by simp [hr]) (by simp [hr]) j
  simp [State.holds, State.nearSize, State.deepSize, State.on, kept F.MM_ANC_STAT_HBM_OK rfl, kept F.MM_ANC_STAT_NEAR_GB rfl,
    kept F.MM_ANC_STAT_DDR_OK rfl, kept F.MM_ANC_STAT_DDR_CH rfl, kept F.MM_ANC_STAT_DIMM rfl]

namespace State

variable {s : State}

namespace OnlyCopy

variable {t : State} {rs : List Reg}

theorem modSwap {i : Nat} (h : s.OnlyCopy t i rs) (f : Swap → Swap) : s.OnlyCopy (t.modSwap f) i rs := h.plain rfl

theorem setImgState (h : s.OnlyCopy t 0 rs) (hr : Reg.SY_IMG_STAT ∈ rs) (n : Nat) : s.OnlyCopy (t.setImgState n) 0 rs :=
  h.wr F.SY_IMG_STAT_STATE hr n

theorem imgResult (h : s.OnlyCopy t 0 rs) (hr : Reg.SY_IMG_STAT ∈ rs) (n : Nat) : s.OnlyCopy (t.imgResult n) 0 rs :=
  h.wr F.SY_IMG_STAT_RESULT hr n

theorem endSwap (h : s.OnlyCopy t 0 rs) (hr : Reg.GRID_SWAP_STAT ∈ rs) : s.OnlyCopy t.endSwap 0 rs :=
  ((h.wr F.GRID_SWAP_STAT_STATE hr SwapState.idle.code).wr F.GRID_SWAP_STAT_ARMED hr 0).modSwap fun x =>
    { x with locked := false, pending := none, checkAt := none }

theorem swapResult (h : s.OnlyCopy t 0 rs) (hr : Reg.GRID_SWAP_STAT ∈ rs) (n : Nat) : s.OnlyCopy (t.swapResult n) 0 rs :=
  h.wr F.GRID_SWAP_STAT_RESULT hr n

theorem dropApply (h : s.OnlyCopy t 0 rs) (hr : Reg.SY_IMG_STAT ∈ rs) : s.OnlyCopy t.dropApply 0 rs :=
  ((h.modSwap fun x => if x.holder == .image then { x with holder := .nobody } else x).setImgState hr 0).plain rfl

end OnlyCopy

@[simp] theorem image_modSwap (s : State) (f : Swap → Swap) : (s.modSwap f).image = s.image := (rfl)
@[simp] theorem applied_modSwap (s : State) (f : Swap → Swap) : (s.modSwap f).applied = s.applied := (rfl)
@[simp] theorem imageJob_modSwap (s : State) (f : Swap → Swap) : (s.modSwap f).imageJob = s.imageJob := (rfl)
/-- An apply that held the swap registers holds them no longer. -/
def freeSwap (x : Swap) : Swap := if x.holder == .image then { x with holder := .nobody } else x

theorem swap_dropApply (s : State) : s.dropApply.swap = freeSwap s.swap := rfl

theorem rd_dropApply (s : State) (f : Field) (i : Nat) : s.dropApply.rd f i = ((s.modSwap freeSwap).setImgState 0).rd f i := rfl

theorem locked_dropApply (s : State) : s.dropApply.swap.locked = s.swap.locked := by
  rw [swap_dropApply, freeSwap]
  split
  · rfl
  · rfl

@[simp] theorem applied_dropApply (s : State) : s.dropApply.applied = none := (rfl)
@[simp] theorem image_dropApply (s : State) : s.dropApply.image = s.image := (rfl)

/-! ### The manifest of an image in the shadow bank (R565) -/

theorem liveBank_lt (s : State) : s.liveBank < 2 := s.rd_lt F.GRID_SWAP_STAT_LIVE_BANK 0

/-- Only the entries of one bank are left out. -/
def clearBank (s : State) (b : Nat) : State := { s with banks := s.banks.filter fun x => x.1.1 != b }

theorem manifest_clearBank {b c : Nat} (h : c ≠ b) (s : State) (p : Nat) : (s.clearBank b).manifest c p = s.manifest c p :=
  congrArg (Option.getD · 0x88000000#32) (Tab.find_filter (fun _ => by simpa using h) s.banks)

/-- An entry of an image goes into a bank. -/
def putEntry (b : Nat) (s : State) (x : Nat × Word) : State := s.setManifest b x.1 x.2

theorem loadBank_eq (s : State) (b : Nat) (im : Image) : s.loadBank b im = (s.clearBank b).each im.manifest (putEntry b) := rfl

theorem manifest_loadBank_other {b c : Nat} (h : c ≠ b) (s : State) (im : Image) (p : Nat) :
    (s.loadBank b im).manifest c p = s.manifest c p := by
  have kept (t : State) (x : Nat × Word) : (putEntry b t x).manifest c p = t.manifest c p := by
    rw [putEntry, manifest_setManifest, if_neg fun e => h e.1.symm]
  rw [loadBank_eq, each_keeps (fun t => t.manifest c p) kept, manifest_clearBank h]

theorem manifest_each_absent (b : Nat) {l : List (Nat × Word)} {p : Nat} (h : p ∉ l.map (·.1)) (s : State) :
    (s.each l (putEntry b)).manifest b p = s.manifest b p := by
  induction l generalizing s with
  | nil => rfl
  | cons y l ih =>
    obtain ⟨ne, rest⟩ := List.ne_and_not_mem_of_not_mem_cons h
    exact (ih rest _).trans (by rw [putEntry, manifest_setManifest, if_neg fun e => ne e.2.symm])

/-- Entries with ports of their own are each read back. -/
theorem manifest_each_putEntry (b : Nat) {l : List (Nat × Word)} (h : (l.map (·.1)).Nodup) {x : Nat × Word} (hx : x ∈ l) (s : State) :
    (s.each l (putEntry b)).manifest b x.1 = x.2 := by
  induction l generalizing s with
  | nil => exact absurd hx List.not_mem_nil
  | cons y l ih =>
    obtain ⟨fresh, rest⟩ := List.nodup_cons.1 h
    rcases List.mem_cons.1 hx with rfl | later
    · exact (manifest_each_absent b fresh _).trans (by rw [putEntry, manifest_setManifest, if_pos ⟨rfl, rfl⟩])
    · exact ih rest later _

theorem manifest_loadBank_same {im : Image} (h : (im.manifest.map (·.1)).Nodup) {x : Nat × Word} (hx : x ∈ im.manifest) (s : State) (b : Nat) :
    (s.loadBank b im).manifest b x.1 = x.2 := manifest_each_putEntry b h hx _

/-- Of all that a state holds a load of a bank changes the banks. -/
theorem loadBank_keeps {β : Type} (view : State → β) (clear : ∀ (t : State) b, view (t.clearBank b) = view t)
    (put : ∀ (t : State) b x, view (putEntry b t x) = view t) (s : State) (b : Nat) (im : Image) : view (s.loadBank b im) = view s :=
  (each_keeps view (fun t x => put t b x) _ _).trans (clear s b)

/-! ### A sound image is loaded (R565) -/

/-- What a load of an image sets before the check. -/
def takeImage (s : State) (src : Nat) (im : Image) : State :=
  { s with applied := some im, imageJob := { src := src }, mate := { s.mate with imageSent := false } }

/-- The swap registers are held, RESULT reads NONE and the digest shows. -/
def holdSwap (s : State) (im : Image) : State :=
  ((s.modSwap fun x => { x with holder := .image }).imgResult 0).wr F.SY_IMG_DIGEST_A_D 0 (digestWord im.digest)

/-- The manifest goes into the shadow bank, and PREPARE is asked for. -/
def prepareImage (s : State) (im : Image) : State :=
  (((s.loadBank (1 - s.liveBank) im).modSwap fun x => { x with shadowBad := [] }).setImgState 3).later .gridPrepare

theorem loadImage_sound {im : Image} {src : Nat}
    (h : ((s.takeImage src im).holdSwap im).imageFault im ((s.takeImage src im).holdSwap im).holds = none) :
    s.loadImage src im = ((s.takeImage src im).holdSwap im).prepareImage im := by
  have eq : s.loadImage src im = match ((s.takeImage src im).holdSwap im).imageFault im ((s.takeImage src im).holdSwap im).holds with
    | some b => { ((s.takeImage src im).holdSwap im).setImgState 2 with
        imageJob := { ((s.takeImage src im).holdSwap im).imageJob with fault := some b } }
    | none => ((s.takeImage src im).holdSwap im).prepareImage im := rfl
  rw [eq, h]

/-- The registers that a load of an image writes. -/
def imgRegs : List Reg := [.SY_IMG_CMD, .SY_IMG_STAT, .SY_IMG_DIGEST_A]

theorem held_onlyCopy (s : State) (src : Nat) (im : Image) : s.OnlyCopy ((s.takeImage src im).holdSwap im) 0 imgRegs := by
  have taken : s.OnlyCopy ((s.takeImage src im).modSwap fun x => { x with holder := .image }) 0 imgRegs := (OnlyCopy.refl s 0 _).plain rfl
  exact (taken.wr F.SY_IMG_STAT_RESULT (by decide) 0).wr F.SY_IMG_DIGEST_A_D (by decide) _

theorem loadImage_eq {im : Image} (h : s.imageFault im s.holds = none) (src : Nat) :
    s.loadImage src im = ((s.takeImage src im).holdSwap im).prepareImage im := by
  have frame := (s.held_onlyCopy src im).regs
  exact loadImage_sound ((frame.sameChecks rfl).imageFault im _ |>.trans (by rw [frame.holds, h]))

theorem onlyCopy_prepareImage (s : State) (im : Image) : s.OnlyCopy (s.prepareImage im) 0 imgRegs := by
  have loaded : s.OnlyCopy ((s.loadBank (1 - s.liveBank) im).modSwap fun x => { x with shadowBad := [] }) 0 imgRegs :=
    (OnlyCopy.refl s 0 _).plain (loadBank_keeps stored (fun _ _ => rfl) (fun _ _ _ => rfl) s _ im)
  exact (loaded.wr F.SY_IMG_STAT_STATE (by decide) 3).plain rfl

theorem rd_prepareImage (s : State) (im : Image) (f : Field) (i : Nat) : (s.prepareImage im).rd f i =
    (((s.loadBank (1 - s.liveBank) im).modSwap fun x => { x with shadowBad := [] }).wr F.SY_IMG_STAT_STATE 0 3).rd f i := (rfl)

theorem manifest_prepareImage (s : State) (im : Image) (b p : Nat) :
    (s.prepareImage im).manifest b p = (s.loadBank (1 - s.liveBank) im).manifest b p := (rfl)

theorem liveBank_held (s : State) (src : Nat) (im : Image) : ((s.takeImage src im).holdSwap im).liveBank = s.liveBank :=
  (s.held_onlyCopy src im).regs.onlyRegs.rd_eq (by decide) (by decide) (by decide) 0

/-- A sound image is applied: it waits for PREPARE with its manifest in the shadow bank, and the live bank is as it was. -/
theorem loadImage_loads {im : Image} (h : s.imageFault im s.holds = none) (src : Nat) :
    (s.loadImage src im).imgState = 3 ∧ (s.loadImage src im).rd F.SY_IMG_STAT_RESULT 0 = 0 ∧ (s.loadImage src im).applied = some im ∧
    (s.loadImage src im).image = s.image ∧ (s.loadImage src im).swap.holder = .image ∧
    (s.loadImage src im).atBoundary = s.atBoundary ++ [.gridPrepare] ∧ (s.loadImage src im).liveBank = s.liveBank ∧
    (∀ p, (s.loadImage src im).manifest s.liveBank p = s.manifest s.liveBank p) ∧
    ((im.manifest.map (·.1)).Nodup → ∀ x, x ∈ im.manifest → (s.loadImage src im).manifest (1 - s.liveBank) x.1 = x.2) ∧
    s.OnlyCopy (s.loadImage src im) 0 imgRegs := by
  have live := s.liveBank_held src im
  have shadow : s.liveBank ≠ 1 - s.liveBank := by have := s.liveBank_lt; omega
  have loaded {β : Type} (view : State → β) (clear : ∀ (t : State) b, view (t.clearBank b) = view t)
      (put : ∀ (t : State) b x, view (putEntry b t x) = view t) (t : State) (b : Nat) : view (t.loadBank b im) = view t :=
    loadBank_keeps view clear put t b im
  rw [loadImage_eq h]
  refine ⟨imgState_setImgState _ (by decide), ?_, ?_, ?_, ?_, ?_, ?_, fun p => ?_, fun nd x hx => ?_,
    (s.held_onlyCopy src im).trans (onlyCopy_prepareImage _ im)⟩
  · have result (t : State) : (t.prepareImage im).rd F.SY_IMG_STAT_RESULT 0 = t.rd F.SY_IMG_STAT_RESULT 0 := by
      rw [rd_prepareImage, rd_wr_apart rfl, rd_modSwap]
      exact loaded (fun t => t.rd F.SY_IMG_STAT_RESULT 0) (fun _ _ => rfl) (fun _ _ _ => rfl) _ _
    rw [result, holdSwap, rd_wr_apart rfl]
    exact rd_wr_fits rfl (by decide) _ 0
  · exact loaded State.applied (fun _ _ => rfl) (fun _ _ _ => rfl) _ _
  · exact loaded State.image (fun _ _ => rfl) (fun _ _ _ => rfl) _ _
  · exact loaded (fun t => t.swap.holder) (fun _ _ => rfl) (fun _ _ _ => rfl) _ _
  · exact congrArg (· ++ [Keyed.gridPrepare]) (loaded State.atBoundary (fun _ _ => rfl) (fun _ _ _ => rfl) _ _)
  · exact ((onlyCopy_prepareImage _ im).regs.onlyRegs.rd_eq (by decide) (by decide) (by decide) 0).trans live
  · rw [manifest_prepareImage, live, manifest_loadBank_other shadow]
    rfl
  · rw [manifest_prepareImage, live]
    exact manifest_loadBank_same nd hx _ _

/-! ### The command registers (R565) -/

theorem onlyCopy_keepImgCmd (s : State) (v : Word) : s.OnlyCopy (s.keepImgCmd v) 0 [.SY_IMG_CMD] :=
  ((OnlyCopy.refl s 0 _).wr F.SY_IMG_CMD_SRC (by decide) _).wr F.SY_IMG_CMD_PERSIST_C (by decide) _

@[simp] theorem rd_keepImgCmd {f : Field} (h : Reg.SY_IMG_CMD ≠ f.reg) (s : State) (v : Word) (i : Nat) :
    (s.keepImgCmd v).rd f i = s.rd f i := by
  rw [keepImgCmd, rd_wr_reg (.inl h), rd_wr_reg (.inl h)]

/-- What a command reads beside its own register is as it was. -/
theorem keepImgCmd_keeps (s : State) (v : Word) :
    (s.keepImgCmd v).imgState = s.imgState ∧ (s.keepImgCmd v).devState = s.devState ∧ (s.keepImgCmd v).swapState = s.swapState ∧
    (s.keepImgCmd v).on F.GRID_SWAP_STAT_ARMED 0 = s.on F.GRID_SWAP_STAT_ARMED 0 ∧ (s.keepImgCmd v).imgAt = s.imgAt ∧
    (s.keepImgCmd v).swapTaken = s.swapTaken ∧ (s.keepImgCmd v).liveBank = s.liveBank := by
  simp +decide [imgState, devState, swapState, on, imgAt, swapTaken, swapPending, liveBank, rd_keepImgCmd]
  trivial

theorem imageFault_keepImgCmd (s : State) (v : Word) (im : Image) :
    (s.keepImgCmd v).imageFault im (s.keepImgCmd v).holds = s.imageFault im s.holds := by
  have frame : s.OnlyAt (s.keepImgCmd v) 0 [.SY_IMG_CMD, .SY_IMG_STAT, .SY_IMG_DIGEST_A] := ((s.onlyCopy_keepImgCmd v).mono (by simp)).regs
  rw [frame.holds, (frame.sameChecks rfl).imageFault]

theorem imgCommand_alone {m : Initiator} (user : m.isUser = false) (h : s.Alone) (v : Word) (w : Write) (eff : State → State) :
    s.imgCommand m v w eff = (eff (s.keepImgCmd v)).reply m (.ok 0) := by
  have alone : (s.keepImgCmd v).Alone := by
    obtain ⟨hs, ha⟩ := h
    constructor
    · rw [standby, rd_keepImgCmd (by decide), ← standby, hs]
    · rw [active, rd_keepImgCmd (by decide), ← active, ha]
  rw [imgCommand, if_neg (by simp [user]), write_alone alone]

theorem imageApply_idle {im : Image} (idle : s.imgState = 0) (dev : s.devState ≠ .recovery)
    (staging : s.image.anchorage.any (·.kind == 8) = true) (free : s.swapTaken = false) (src : Nat) :
    s.imageApply src im = s.loadImage src im := by
  simp [imageApply, idle, dev, staging, free]

theorem imageRevert_idle {im : Image} (prev : s.previous = some im) (idle : s.imgState = 0) (free : s.swapTaken = false) :
    s.imageRevert = s.loadImage 2 im := by
  simp [imageRevert, prev, idle, free]

/-! ### The end of APPLY -/

theorem applyDone_ready {im : Image} (ha : s.applied = some im) (hi : s.imgState = 3) (hf : s.imageJob.fault = none)
    (ready : s.swapState = .ready) :
    s.applyDone = (s.setImgState 4).wrBool F.SY_IMG_STAT_CLASS_X 0 (s.committed && im.restartsFrom s.image) := by
  simp [applyDone, hi, hf, ha, ready]

theorem applyDone_fault {b : Broken} (hi : s.imgState = 2) (hf : s.imageJob.fault = some b) :
    s.applyDone = ((s.showBroken b).dropApply.imgResult (brokenResult b)).imgEvent 1 := by
  simp [applyDone, hi, hf]

/-! ### COMMIT and ABORT (R566) -/

/-- What an accepted COMMIT notes. -/
def noteCommitment (s : State) (n : Tick) (persist : Bool) : State :=
  { s with imageJob := { s.imageJob with persist := persist, due := n, domain := false } }

theorem imageCommitAt_late {n written : Tick} (hi : s.imgState = 4) (dev : s.devState ≠ .recovery) (dom : s.domain = none)
    (lead : leadFrom written n 8 = false) (persist : Bool) : s.imageCommitAt n written persist false = (s.imgResult 3).tickLate := by
  simp [imageCommitAt, hi, dev, dom, lead]

theorem imageCommitAt_lead {n written : Tick} (hi : s.imgState = 4) (dev : s.devState ≠ .recovery) (dom : s.domain = none)
    (lead : leadFrom written n 8 = true) (persist : Bool) :
    s.imageCommitAt n written persist false = (((s.noteCommitment n persist).setImgState 5).imgResult 0).gridArm n written := by
  rw [imageCommitAt, if_neg (by simp [hi, dev, dom]), if_neg (by simp [lead])]
  rfl

theorem gridArm_ready {n written : Tick} (free : s.on F.GRID_SWAP_STAT_ARMED 0 = false) (ready : s.swapState = .ready)
    (lead : leadFrom written n 8 = true) :
    s.gridArm n written = (s.wr F.GRID_SWAP_STAT_ARMED 0 1).modSwap fun x => { x with due := n } := by
  have still : (s.wr F.GRID_SWAP_STAT_ARMED 0 1).swapState = .ready := (swapState_wr_apart rfl ..).trans ready
  simp [gridArm, free, ready, lead, still]

/-- An abort drops what waits for its boundary. -/
def dropPrepare (s : State) : State := { s with atBoundary := s.atBoundary.filter (· != Keyed.gridPrepare) }

theorem imageAbort_ready {written : Tick} (h : s.imgState = 4 ∨ s.imgState = 5 ∧ leadFrom written s.imageJob.due 2 = true)
    (dev : s.devState ≠ .recovery) (ready : s.swapState = .ready) :
    s.imageAbort written = (s.dropPrepare.endSwap.swapResult 6).dropApply.imgResult 10 := by
  have pending : s.dropPrepare.swapPending = true := by
    have : s.dropPrepare.swapState = .ready := ready
    simp [swapPending, this]
  have busy : (s.imgState == 0 || s.imgState == 6 || s.devState == .recovery) = false := by
    rcases h with h | ⟨h, -⟩ <;> simp [h, dev]
  have lead : (s.imgState == 5 && !leadFrom written s.imageJob.due 2) = false := by
    rcases h with h | ⟨-, h⟩ <;> simp [h]
  rw [imageAbort, if_neg (by simp [busy]), if_neg (by simp [lead]), ← dropPrepare]
  dsimp only
  rw [if_pos pending]

/-- COMMIT with its lead arms the swap for N and notes what the commit asks for. -/
theorem commit_arms {n : Tick} {persist : Bool} (hi : s.imgState = 4) (dev : s.devState ≠ .recovery) (dom : s.domain = none)
    (ready : s.swapState = .ready) (free : s.on F.GRID_SWAP_STAT_ARMED 0 = false) (lead : leadFrom s.tick n 8 = true) :
    let t := s.imageCommitAt n s.tick persist false
    t.imgState = 5 ∧ t.on F.GRID_SWAP_STAT_ARMED 0 = true ∧ t.swap.due = n ∧ t.imageJob.due = n ∧ t.imageJob.persist = persist ∧
      t.image = s.image ∧ t.applied = s.applied ∧ s.OnlyCopy t 0 [.SY_IMG_CMD, .SY_IMG_STAT, .GRID_SWAP_STAT] := by
  have other {f : Field} (h : F.SY_IMG_STAT_STATE.apart f = true) (k : F.SY_IMG_STAT_RESULT.apart f = true) :
      (((s.noteCommitment n persist).setImgState 5).imgResult 0).rd f 0 = s.rd f 0 := by
    rw [imgResult, rd_wr_apart k, setImgState, rd_wr_apart h]
    rfl
  have noted : s.OnlyCopy (s.noteCommitment n persist) 0 [.SY_IMG_CMD, .SY_IMG_STAT, .GRID_SWAP_STAT] := (OnlyCopy.refl s 0 _).plain rfl
  dsimp only
  rw [imageCommitAt_lead hi dev dom lead, gridArm_ready (by rwa [on, other rfl rfl]) (by rwa [swapState, other rfl rfl]) lead]
  refine ⟨?_, ?_, by simp, ?_, ?_, ?_, ?_,
    (((noted.setImgState (by decide) 5).imgResult (by decide) 0).wr F.GRID_SWAP_STAT_ARMED (by decide) 1).modSwap _⟩
  · rw [imgState, rd_modSwap, rd_wr_apart rfl, ← imgState, imgState_imgResult, imgState_setImgState _ (by decide)]
  · rw [on_modSwap]
    exact on_wr rfl rfl _ 0 true
  · rw [imageJob_modSwap, wr_imageJob, imageJob_imgResult, imageJob_setImgState, noteCommitment]
  · rw [imageJob_modSwap, wr_imageJob, imageJob_imgResult, imageJob_setImgState, noteCommitment]
  · rw [image_modSwap, wr_image, imgResult, wr_image, setImgState, wr_image, noteCommitment]
  · rw [applied_modSwap, wr_applied, imgResult, wr_applied, setImgState, wr_applied, noteCommitment]

/-- COMMIT without its lead is late (R30). -/
theorem commit_late {n : Tick} {persist : Bool} (hi : s.imgState = 4) (dev : s.devState ≠ .recovery) (dom : s.domain = none)
    (lead : leadFrom s.tick n 8 = false) :
    let t := s.imageCommitAt n s.tick persist false
    t.imgState = 4 ∧ t.rd F.SY_IMG_STAT_RESULT 0 = 3 ∧ t.on F.GRID_STICKY_TICK_LATE 0 = true ∧
      t.on F.GRID_SWAP_STAT_ARMED 0 = s.on F.GRID_SWAP_STAT_ARMED 0 ∧ t.applied = s.applied ∧
      s.OnlyCopy t 0 [.SY_IMG_CMD, .SY_IMG_STAT, .GRID_STICKY] := by
  dsimp only
  rw [imageCommitAt_late hi dev dom lead]
  refine ⟨?_, ?_, on_raise rfl rfl (by decide) (by decide) _ 0, ?_, raise_applied ..,
    ((OnlyCopy.refl s 0 _).wr F.SY_IMG_STAT_RESULT (by decide) 3).raise F.GRID_STICKY_TICK_LATE (by decide)⟩
  · rw [tickLate, imgState, rd_raise_apart rfl (by decide) (by decide), ← imgState, imgState_imgResult, hi]
  · rw [tickLate, rd_raise_apart rfl (by decide) (by decide)]
    exact rd_wr_fits rfl (by decide) _ 0
  · rw [tickLate, on, rd_raise_apart rfl (by decide) (by decide), imgResult, rd_wr_apart rfl, on]

/-- ABORT of an applied image ends the swap and drops the image. -/
theorem abort_drops {written : Tick} (h : s.imgState = 4 ∨ s.imgState = 5 ∧ leadFrom written s.imageJob.due 2 = true)
    (dev : s.devState ≠ .recovery) (ready : s.swapState = .ready) :
    let t := s.imageAbort written
    t.imgState = 0 ∧ t.applied = none ∧ t.image = s.image ∧ t.rd F.SY_IMG_STAT_RESULT 0 = 10 ∧ t.swapState = .idle ∧
      t.on F.GRID_SWAP_STAT_ARMED 0 = false ∧ t.swap.locked = false ∧ s.OnlyCopy t 0 [.SY_IMG_CMD, .SY_IMG_STAT, .GRID_SWAP_STAT] := by
  obtain ⟨idle, unarmed, unlocked, -⟩ := s.dropPrepare.endSwap_idle
  have grid {f : Field} (h : F.SY_IMG_STAT_STATE.apart f = true) (k : F.SY_IMG_STAT_RESULT.apart f = true) (t : State) :
      (t.dropApply.imgResult 10).rd f 0 = t.rd f 0 := by
    rw [imgResult, rd_wr_apart k, rd_dropApply, setImgState, rd_wr_apart h, rd_modSwap]
  have kept {f : Field} (h : F.GRID_SWAP_STAT_RESULT.apart f = true) (t : State) : (t.swapResult 6).rd f 0 = t.rd f 0 := rd_wr_apart h ..
  have dropped : s.OnlyCopy s.dropPrepare 0 [.SY_IMG_CMD, .SY_IMG_STAT, .GRID_SWAP_STAT] := (OnlyCopy.refl s 0 _).plain rfl
  dsimp only
  rw [imageAbort_ready h dev ready]
  refine ⟨?_, ?_, ?_, rd_wr_fits rfl (by decide) _ 0, ?_, ?_, ?_,
    (((dropped.endSwap (by decide)).swapResult (by decide) 6).dropApply (by decide)).imgResult (by decide) 10⟩
  · exact (imgState_imgResult ..).trans (imgState_setImgState _ (by decide))
  · rw [imgResult, wr_applied, applied_dropApply]
  · rw [imgResult, wr_image, image_dropApply]
    rfl
  · rw [swapState, grid rfl rfl, kept rfl, ← swapState, idle]
  · rw [on, grid rfl rfl, kept rfl, ← on, unarmed]
  · rw [imgResult, wr_swap, locked_dropApply, swapResult, wr_swap, unlocked]

/-! ### PERSIST and the record (R557, R567) -/

theorem imagePersist_sound {im : Image} {src : Nat} (idle : s.imgState = 0) (hsrc : src < 2) (h : s.imageFault im s.holds = none) :
    s.imagePersist src im = (s.startRecord src im).imgResult 0 := by
  have slot : ¬2 ≤ src := by omega
  simp [imagePersist, idle, slot, h]

theorem OnlyCopy.startRecord {t : State} {rs : List Reg} (h : s.OnlyCopy t 0 rs) (hr : Reg.SY_IMG_STAT ∈ rs) (slot : Nat) (im : Image) :
    s.OnlyCopy (t.startRecord slot im) 0 rs := (h.setImgState hr 6).plain rfl

/-- The record goes to the copy that does not hold the newest one. -/
theorem nextRecord_both (a b : CommitRecord) :
    nextRecord (some a) (some b) = if newerSeq b.seq a.seq then (0, b.seq + 1) else (1, a.seq + 1) := by
  simp only [nextRecord, newestRecord]
  by_cases h : newerSeq b.seq a.seq = true
  · simp [h]
  · simp [h]

/-- The record that a job asks for, with a sequence number. -/
def jobRecord (s : State) (seq : Word) : CommitRecord := ⟨seq, s.imageJob.record.1, s.imageJob.record.2.1, s.imageJob.record.2.2⟩

theorem recordDone_verified (h : s.imgState = 6) (a b : Option CommitRecord) :
    s.recordDone a b true = ((s.send (.record (nextRecord a b).1 (s.jobRecord (nextRecord a b).2))).setImgState 0).imgResult 1 :=
  if_neg (by simp [h])

theorem recordDone_failed (h : s.imgState = 6) (a b : Option CommitRecord) :
    s.recordDone a b false = ((s.setImgState 0).imgResult 9).imgEvent 3 := if_neg (by simp [h])

theorem imgEvent_shows {b : Nat} (hb : b = 1 ∨ b = 3) (s : State) :
    (s.imgEvent b).on (leafBit .SY_IMG_STICKY b) 0 = true ∧ (∀ {f : Field}, f.reg ∈ [Reg.SY_IMG_STAT, .SY_IMG_RULE] →
      (s.imgEvent b).rd f 0 = s.rd f 0) ∧ s.OnlyCopy (s.imgEvent b) 0 [.SY_IMG_STICKY] := by
  refine ⟨?_, fun {f} hf => ?_, (OnlyCopy.refl s 0 _).raise (leafBit .SY_IMG_STICKY b) (by simp [leafBit])⟩
  · rcases hb with rfl | rfl
    · exact on_raise (f := leafBit .SY_IMG_STICKY 1) rfl rfl (by decide) (by decide) s 0
    · exact on_raise (f := leafBit .SY_IMG_STICKY 3) rfl rfl (by decide) (by decide) s 0
  · have apart : (leafBit .SY_IMG_STICKY b).apart f = true := by
      simp only [List.mem_cons, List.not_mem_nil, or_false] at hf
      rcases hf with e | e <;> simp [Field.apart, leafBit, e]
    simp only [List.mem_cons, List.not_mem_nil, or_false] at hf
    exact rd_raise_apart apart (by rcases hf with e | e <;> simp [e]) (by rcases hf with e | e <;> simp [e]) s 0 0

/-- A verified record ends DONE; it names the image of the job under the next sequence number, in the copy that is not the newest. -/
theorem recordDone_ends (h : s.imgState = 6) (a b : CommitRecord) :
    let t := s.recordDone (some a) (some b) true
    t.imgState = 0 ∧ t.rd F.SY_IMG_STAT_RESULT 0 = 1 ∧
      t.outbox = s.outbox ++ [if 1 ≤ (b.seq - a.seq).toNat ∧ (b.seq - a.seq).toNat < 2 ^ 31
        then .record 0 (s.jobRecord (b.seq + 1)) else .record 1 (s.jobRecord (a.seq + 1))] ∧ s.OnlyCopy t 0 [.SY_IMG_STAT] := by
  dsimp only
  rw [recordDone_verified h]
  have sent : s.OnlyCopy (s.send (.record (nextRecord (some a) (some b)).1 (s.jobRecord (nextRecord (some a) (some b)).2))) 0
    [.SY_IMG_STAT] := (OnlyCopy.refl s 0 _).plain rfl
  refine ⟨?_, rd_wr_fits rfl (by decide) _ 0, ?_, (sent.setImgState (by decide) 0).imgResult (by decide) 1⟩
  · rw [imgState_imgResult, imgState_setImgState _ (by decide)]
  · rw [imgResult, wr_outbox, setImgState, wr_outbox, nextRecord_both]
    simp only [newerSeq, Bool.and_eq_true, decide_eq_true_eq]
    split
    · rfl
    · rfl

theorem recordDone_fails (h : s.imgState = 6) (a b : Option CommitRecord) :
    let t := s.recordDone a b false
    t.imgState = 0 ∧ t.rd F.SY_IMG_STAT_RESULT 0 = 9 ∧ t.on (leafBit .SY_IMG_STICKY 3) 0 = true ∧
      s.OnlyCopy t 0 [.SY_IMG_STAT, .SY_IMG_STICKY] := by
  obtain ⟨event, kept, frame⟩ := imgEvent_shows (.inr rfl) ((s.setImgState 0).imgResult 9)
  dsimp only
  rw [recordDone_failed h]
  refine ⟨?_, ?_, event,
    (((OnlyCopy.refl s 0 _).setImgState (by decide) 0).imgResult (by decide) 9).trans (frame.mono (by simp))⟩
  · rw [imgState, kept (by decide), ← imgState, imgState_imgResult, imgState_setImgState _ (by decide)]
  · rw [kept (by decide)]
    exact rd_wr_fits rfl (by decide) _ 0

/-- The end of an APPLY whose check failed. -/
theorem applyDone_fails {b : Broken} (hi : s.imgState = 2) (hf : s.imageJob.fault = some b) :
    s.applyDone.imgState = 0 ∧ s.applyDone.applied = none ∧ s.applyDone.image = s.image ∧
    s.applyDone.rd F.SY_IMG_STAT_RESULT 0 = (if b.2.2 = 551 then 5 else 4) ∧
    s.applyDone.rd F.SY_IMG_RULE_RULE 0 = b.2.2 % 2 ^ F.SY_IMG_RULE_RULE.width ∧ s.applyDone.on (leafBit .SY_IMG_STICKY 1) 0 = true ∧
    s.OnlyCopy s.applyDone 0 [.SY_IMG_STAT, .SY_IMG_ERR, .SY_IMG_RULE, .SY_IMG_STICKY] := by
  rw [applyDone_fault hi hf]
  obtain ⟨event, kept, frame⟩ := imgEvent_shows (.inl rfl) ((s.showBroken b).dropApply.imgResult (brokenResult b))
  have shown : s.OnlyCopy (s.showBroken b) 0 [.SY_IMG_STAT, .SY_IMG_ERR, .SY_IMG_RULE, .SY_IMG_STICKY] :=
    (((OnlyCopy.refl s 0 _).wr F.SY_IMG_ERR_TYPE (by decide) _).wr F.SY_IMG_ERR_RECORD (by decide) _).wr F.SY_IMG_RULE_RULE (by decide) _
  have small : brokenResult b < 2 ^ F.SY_IMG_STAT_RESULT.width := by
    rw [brokenResult]
    split <;> decide
  refine ⟨?_, ?_, ?_, ?_, ?_, event, ((shown.dropApply (by decide)).imgResult (by decide) _).trans (frame.mono (by simp))⟩
  · rw [imgState, kept (by decide), ← imgState, imgState_imgResult]
    exact imgState_setImgState _ (by decide)
  · rw [imgEvent, raise_applied, imgResult, wr_applied, applied_dropApply]
  · rw [imgEvent, raise_image, imgResult, wr_image, image_dropApply]
    rfl
  · rw [kept (by decide), imgResult, rd_wr_fits rfl small, brokenResult]
    simp
  · rw [kept (by decide), imgResult, rd_wr_apart rfl, rd_dropApply, setImgState, rd_wr_apart rfl, rd_modSwap, showBroken, rd_wr rfl]

theorem applyDone_applies {im : Image} (ha : s.applied = some im) (hi : s.imgState = 3) (hf : s.imageJob.fault = none)
    (ready : s.swapState = .ready) :
    s.applyDone.imgState = 4 ∧ s.applyDone.on F.SY_IMG_STAT_CLASS_X 0 = (s.committed && im.restartsFrom s.image) ∧
    s.applyDone.applied = some im ∧ s.applyDone.image = s.image ∧ s.OnlyCopy s.applyDone 0 [.SY_IMG_STAT] := by
  rw [applyDone_ready ha hi hf ready]
  refine ⟨?_, on_wr rfl rfl _ 0 _, ?_, ?_, ((OnlyCopy.refl s 0 _).setImgState (by decide) 4).wrBool F.SY_IMG_STAT_CLASS_X (by decide) _⟩
  · rw [imgState, wrBool, rd_wr_apart rfl, ← imgState, imgState_setImgState _ (by decide)]
  · rw [wrBool_applied, setImgState, wr_applied, ha]
  · rw [wrBool_image, setImgState, wr_image]

@[simp] theorem imgState_reply (s : State) (m : Initiator) (a : Answer) : (s.reply m a).imgState = s.imgState := (rfl)
@[simp] theorem swapState_reply (s : State) (m : Initiator) (a : Answer) : (s.reply m a).swapState = s.swapState := (rfl)
@[simp] theorem liveBank_reply (s : State) (m : Initiator) (a : Answer) : (s.reply m a).liveBank = s.liveBank := (rfl)
@[simp] theorem on_reply' (s : State) (m : Initiator) (a : Answer) (f : Field) (i : Nat) : (s.reply m a).on f i = s.on f i := (rfl)
@[simp] theorem manifest_reply (s : State) (m : Initiator) (a : Answer) (b p : Nat) : (s.reply m a).manifest b p = s.manifest b p := (rfl)

theorem exec_imgCommit_alone {m : Initiator} (user : m.isUser = false) (h : s.Alone) (v : Word) :
    exec (.imgCommit m v) s = .next (((s.keepImgCmd v).imageCommitAt s.imgAt (s.keepImgCmd v).tick
      (F.SY_IMG_CMD_PERSIST_C.get v == 1) false).reply m (.ok 0)) := by
  have passive : (s.active && !s.mate.imageSent && !m.isUser) = false := by simp [h.2]
  rw [exec, execImgCommit, if_neg (by simp [passive]), imgCommand_alone user h]
  obtain ⟨-, -, -, -, due, -, -⟩ := s.keepImgCmd_keeps v
  rw [due]

/-- What a command leaves is what its effect leaves, with the command register. -/
theorem OnlyCopy.ofCommand {t : State} {v : Word} {rs : List Reg} (h : (s.keepImgCmd v).OnlyCopy t 0 rs) (hr : Reg.SY_IMG_CMD ∈ rs)
    (m : Initiator) (a : Answer) : s.OnlyAt (t.reply m a) 0 rs ∧ s.SameMemory (t.reply m a) := by
  have whole := ((s.onlyCopy_keepImgCmd v).mono (List.cons_subset.2 ⟨hr, List.nil_subset _⟩)).trans h
  exact ⟨whole.regs.congr (reply_regs ..), whole.memory⟩

end State

/-- Settles O40. A command takes effect on the state with its own register written, of which nothing else reads a bit; a sound image
stays sound while it is loaded, because the check reads none of the registers that the load writes. -/
theorem imageCommandsAreTaken : Obligations.ImageCommandsAreTaken := by
  unfold Obligations.ImageCommandsAreTaken
  refine ⟨?_, fun im s ha hi hf ready => ?_, fun b s hi hf => ?_, fun m v s user alone hi dev dom ready free =>
      ⟨fun lead => ?_, fun late => ?_⟩,
    fun m v s user alone dev ready h => ?_, fun m v im s user idle src sound => ?_, fun a b s hi => ⟨?_, ?_⟩⟩
  · intro m v im c s user alone idle free sound form
    obtain ⟨idle', dev', -, -, -, free', live⟩ := s.keepImgCmd_keeps v
    have sound' := (s.imageFault_keepImgCmd v im).trans sound
    have loaded (src : Nat) (hc : exec c s = .next (((s.keepImgCmd v).loadImage src im).reply m (.ok 0))) :
        ∃ t, exec c s = .next t ∧ t.imgState = 3 ∧ t.rd F.SY_IMG_STAT_RESULT 0 = 0 ∧ t.applied = some im ∧ t.image = s.image ∧
          t.swap.holder = .image ∧ t.atBoundary = s.atBoundary ++ [.gridPrepare] ∧ t.liveBank = s.liveBank ∧
          (∀ p, t.manifest s.liveBank p = s.manifest s.liveBank p) ∧
          ((im.manifest.map (·.1)).Nodup → ∀ x, x ∈ im.manifest → t.manifest (1 - s.liveBank) x.1 = x.2) ∧
          t.answer m.copy = .ok 0 ∧ s.OnlyAt t 0 [.SY_IMG_CMD, .SY_IMG_STAT, .SY_IMG_DIGEST_A] ∧ s.SameMemory t := by
      obtain ⟨st, result, applied, image, holder, asked, bank, kept, shadow, frame⟩ := State.loadImage_loads sound' src
      rw [live] at bank kept shadow
      refine ⟨_, hc, ?_, ?_, ?_, ?_, ?_, ?_, ?_, fun p => ?_, fun nd x hx => ?_, State.answer_reply .., frame.ofCommand (by decide) m _⟩
      · rw [State.imgState_reply, st]
      · rw [State.rd_reply, result]
      · rw [State.reply_applied, applied]
      · rw [State.reply_image, image]
        rfl
      · rw [State.reply_swap, holder]
      · rw [State.reply_atBoundary, asked]
        rfl
      · rw [State.liveBank_reply, bank]
      · rw [State.manifest_reply, kept]
        rfl
      · rw [State.manifest_reply, shadow nd x hx]
    rcases form with ⟨rfl, dev, staging⟩ | ⟨rfl, prev⟩
    · exact loaded _ (congrArg Host.Outcome.next ((State.imgCommand_alone user alone ..).trans (congrArg (State.reply · m (.ok 0))
        (State.imageApply_idle (idle'.trans idle) (dev' ▸ dev) staging (free'.trans free) _))))
    · exact loaded _ (congrArg Host.Outcome.next ((State.imgCommand_alone user alone ..).trans (congrArg (State.reply · m (.ok 0))
        (State.imageRevert_idle prev (idle'.trans idle) (free'.trans free)))))
  · obtain ⟨st, cls, applied, image, frame⟩ := State.applyDone_applies ha hi hf ready
    exact ⟨s.applyDone, rfl, st, cls, applied, image, frame.regs, frame.memory⟩
  · obtain ⟨st, applied, image, result, rule, event, frame⟩ := State.applyDone_fails hi hf
    exact ⟨s.applyDone, rfl, st, applied, image, result, rule, event, frame.regs, frame.memory⟩
  · obtain ⟨idle', dev', ready', free', at', -, -⟩ := s.keepImgCmd_keeps v
    obtain ⟨st, armed, due, jobDue, persist, image, applied, frame⟩ := State.commit_arms (s := s.keepImgCmd v) (n := s.imgAt)
      (persist := F.SY_IMG_CMD_PERSIST_C.get v == 1) (idle'.trans hi) (dev' ▸ dev) dom (ready'.trans ready) (free'.trans free) lead
    refine ⟨_, State.exec_imgCommit_alone user alone v, ?_, ?_, ?_, ?_, ?_, ?_, ?_, State.answer_reply .., frame.ofCommand (by decide) m _⟩
    · rw [State.imgState_reply, st]
    · rw [State.on_reply', armed]
    · rw [State.reply_swap, due]
    · rw [State.reply_imageJob, jobDue]
    · rw [State.reply_imageJob, persist]
    · rw [State.reply_image, image]
      rfl
    · rw [State.reply_applied, applied]
      rfl
  · obtain ⟨idle', dev', -, free', at', -, -⟩ := s.keepImgCmd_keeps v
    obtain ⟨st, result, event, armed, applied, frame⟩ := State.commit_late (s := s.keepImgCmd v) (n := s.imgAt)
      (persist := F.SY_IMG_CMD_PERSIST_C.get v == 1) (idle'.trans hi) (dev' ▸ dev) dom late
    refine ⟨_, State.exec_imgCommit_alone user alone v, ?_, ?_, ?_, ?_, ?_, frame.ofCommand (by decide) m _⟩
    · rw [State.imgState_reply, st]
    · rw [State.rd_reply, result]
    · rw [State.on_reply', event]
    · rw [State.on_reply', armed, free', free]
    · rw [State.reply_applied, applied]
      rfl
  · obtain ⟨idle', dev', ready', -, -, -, -⟩ := s.keepImgCmd_keeps v
    obtain ⟨st, applied, image, result, swap, armed, locked, frame⟩ := State.abort_drops (s := s.keepImgCmd v) (written := s.tick)
      (idle'.symm ▸ h) (dev' ▸ dev) (ready'.trans ready)
    refine ⟨_, congrArg Host.Outcome.next (State.imgCommand_alone user alone ..), ?_, ?_, ?_, ?_, ?_, ?_, ?_, State.answer_reply ..,
      frame.ofCommand (by decide) m _⟩
    · exact (State.imgState_reply ..).trans st
    · exact (State.reply_applied ..).trans applied
    · exact (State.reply_image ..).trans image
    · exact (State.rd_reply ..).trans result
    · exact (State.swapState_reply ..).trans swap
    · exact (State.on_reply' ..).trans armed
    · exact (congrArg Swap.locked (State.reply_swap ..)).trans locked
  · obtain ⟨idle', -, -, -, -, -, -⟩ := s.keepImgCmd_keeps v
    have run : exec (.imgPersist m v im) s =
        .next ((((s.keepImgCmd v).startRecord (F.SY_IMG_CMD_SRC.get v) im).imgResult 0).reply m (.ok 0)) := by
      rw [exec, execImgPersist, if_neg (by simp [user]), State.imagePersist_sound (idle'.trans idle) src
        ((s.imageFault_keepImgCmd v im).trans sound)]
    have frame := ((State.OnlyCopy.refl (s.keepImgCmd v) 0 [.SY_IMG_CMD, .SY_IMG_STAT]).startRecord (by decide)
      (F.SY_IMG_CMD_SRC.get v) im).imgResult (by decide) 0
    refine ⟨_, run, ?_, ?_, State.answer_reply .., frame.ofCommand (by decide) m _⟩
    · rw [State.imgState_reply, State.imgState_imgResult, State.imgState_startRecord]
    · rw [State.reply_imageJob, State.imageJob_imgResult]
      rfl
  · obtain ⟨st, result, sent, frame⟩ := State.recordDone_ends hi a b
    exact ⟨s.recordDone (some a) (some b) true, rfl, st, result, sent, frame.regs, frame.memory⟩
  · obtain ⟨st, result, event, frame⟩ := State.recordDone_fails hi (some a) (some b)
    exact ⟨s.recordDone (some a) (some b) false, rfl, st, result, event, frame.regs, frame.memory⟩

end Sys2Proof.Machine
end

section
/-! From fuse load to NORMAL: the choice of the start, the host's image, training, traffic, and an image that is lost (O45). -/

namespace Sys2Proof.Machine

namespace State

variable {s t : State} {rs : List Reg}

/-! ### The end of BOOT (R571) -/

theorem Within.raiseSource (h : s.Within t rs) (src : Nat) : s.Within (t.raiseSource src) rs := by
  refine h.trans ⟨fun r j _ h1 h2 => report_reg t src 0 0 0 h1 h2 j, ?_⟩
  exact ⟨raiseSource_mem .., raiseSource_anc .., raiseSource_badWords .., raiseSource_ancBad ..⟩

theorem Within.modBoot (h : s.Within t rs) (f : Boot → Boot) : s.Within (t.modBoot f) rs := h.plain rfl

/-- The sequencer forgets what BOOT was for. -/
def forgetBoot (s : State) : State := s.modBoot fun b => { b with again := false, hostWait := false, spiCut := [] }

/-- The errors of the SPI transfers that a reset has ended (R267). -/
def raiseSpi (s : State) (cut : List Nat) : State := s.each cut fun s e => s.raise F.LE_STICKY_SPI_ERR e

theorem endBoot_eq (s : State) (d : DevState) :
    s.endBoot d = if s.boot.again then ((s.setDevState d).forgetBoot.raiseSpi s.boot.spiCut).raiseSource 7
      else (s.setDevState d).forgetBoot.raiseSpi s.boot.spiCut := rfl

/-- After the new state, BOOT ends with events only. -/
theorem endBoot_after (s : State) (d : DevState) : (s.setDevState d).Within (s.endBoot d) [.LE_STICKY] := by
  have forgot : (s.setDevState d).Within (s.setDevState d).forgetBoot [.LE_STICKY] := (Within.refl _ _).modBoot _
  have cut := forgot.each (fun e h => h.raise F.LE_STICKY_SPI_ERR (by decide) e) s.boot.spiCut
  rw [endBoot_eq]
  exact (cut.raiseSource 7).ite cut

theorem endBoot_within (s : State) (d : DevState) : s.Within (s.endBoot d) [.SY_STATE, .LE_STICKY] :=
  ((Within.refl s _).wr F.SY_STATE_STATE (by decide) 0 _).trans ((s.endBoot_after d).mono (by simp))

theorem devState_endBoot (s : State) (d : DevState) : (s.endBoot d).devState = d :=
  (devState_congr ((s.endBoot_after d).regs.rd_eq (by decide) (by decide) (by decide) 0)).trans (s.devState_setDevState d)

/-- Of all that lies beside registers, events and the sequencer, BOOT's end changes nothing. -/
theorem endBoot_keeps {β : Type} (view : State → β) (hw : ∀ (u : State) f i v, view (u.wr f i v) = view u)
    (hb : ∀ (u : State) f, view (u.modBoot f) = view u) (hr : ∀ (u : State) f i, view (u.raise f i) = view u)
    (hs : ∀ (u : State) k, view (u.raiseSource k) = view u) (s : State) (d : DevState) : view (s.endBoot d) = view s := by
  have cut : view ((s.setDevState d).forgetBoot.raiseSpi s.boot.spiCut) = view s :=
    (each_keeps view (fun u e => hr u _ e) _ _).trans ((hb _ _).trans (hw ..))
  rw [endBoot_eq]
  split
  · exact (hs ..).trans cut
  · exact cut

theorem fuses_endBoot (s : State) (d : DevState) : (s.endBoot d).fuses = s.fuses :=
  endBoot_keeps State.fuses (fun _ _ _ _ => rfl) (fun _ _ => rfl) (fun _ _ _ => raise_fuses ..) (fun _ _ => raiseSource_fuses ..) s d

theorem image_endBoot (s : State) (d : DevState) : (s.endBoot d).image = s.image :=
  endBoot_keeps State.image (fun _ _ _ _ => rfl) (fun _ _ => rfl) (fun _ _ _ => raise_image ..) (fun _ _ => raiseSource_image ..) s d

theorem noImage_within (s : State) (d : DevState) : s.Within (s.noImage d) [.SY_STATE, .SY_BOOT_STAT, .LE_STICKY] :=
  ((Within.refl s _).wr F.SY_BOOT_STAT_SRC (by decide) 0 3).trans ((endBoot_within _ d).mono (by simp))

/-- SY_BOOT_STAT is shown before BOOT ends. -/
theorem rd_endBoot {f : Field} (h : f.reg = .SY_BOOT_STAT ∨ f.reg = .SY_ID) (s : State) (d : DevState) (i : Nat) :
    (s.endBoot d).rd f i = s.rd f i := by
  rcases h with h | h
  · exact (s.endBoot_within d).regs.rd_eq (by simp [h]) (by simp [h]) (by simp [h]) i
  · exact (s.endBoot_within d).regs.rd_eq (by simp [h]) (by simp [h]) (by simp [h]) i

/-! ### A start (R27, R559) -/

/-- Where the sequencer stands when START-UP is entered. -/
def enterStartUp (s : State) (st : Start) : State :=
  s.modBoot fun b => { b with chosen := some st, bare := s.regs, trained := false, tickWait := s.worker,
                              tickAt := if s.worker then none else some 0 }

theorem startUp_eq (s : State) (st : Start) : s.startUp st = ((s.enterStartUp st).putStart st).endBoot .startUp := rfl

theorem src_showStart {st : Start} (h : st.src < 8) (s : State) : (s.showStart st).rd F.SY_BOOT_STAT_SRC 0 = st.src := by
  rw [showStart, rd_wr_apart rfl, rd_wr_apart rfl, wrBool, rd_wr_apart rfl, rd_wr_apart rfl, rd_wr_fits rfl h]

theorem src_defaultSettings (s : State) : s.defaultSettings.rd F.SY_BOOT_STAT_SRC 0 = s.rd F.SY_BOOT_STAT_SRC 0 := by
  have sources (t : State) (i : Nat) : ((t.wr F.EV_SRC_CFG_DEST i 1).wr F.EV_SRC_CFG_IDX i 0).rd F.SY_BOOT_STAT_SRC 0 =
      t.rd F.SY_BOOT_STAT_SRC 0 := by rw [rd_wr_apart rfl, rd_wr_apart rfl]
  rw [defaultSettings, each_keeps (fun t => t.rd F.SY_BOOT_STAT_SRC 0) sources]
  split
  · rw [rd_wr_apart rfl, rd_wr_apart rfl, rd_wr_apart rfl]
  · rfl

/-- The start that is put into force shows its source. -/
theorem src_putStart {st : Start} (h : st.src < 8) (s : State) : (s.putStart st).rd F.SY_BOOT_STAT_SRC 0 = st.src := by
  have shown := src_showStart h ((s.loadBank s.liveBank st.image).enforce st.image true)
  have active (t : State) : ({ t with act := t.regs } : State).rd F.SY_BOOT_STAT_SRC 0 = t.rd F.SY_BOOT_STAT_SRC 0 := rfl
  rw [putStart, active]
  split
  · rw [src_defaultSettings, shown]
  · exact shown

theorem launch_starts {st : Start} (h : st.src < 8) (mate : s.on F.SY_STRAP_MATE_EN 0 = false) (spare : List Start) :
    (s.launch st spare).devState = .startUp ∧ (s.launch st spare).rd F.SY_BOOT_STAT_SRC 0 = st.src := by
  rw [launch, if_neg (by rw [on, rd_modBoot, ← on]; simp [mate]), startUp_eq]
  exact ⟨devState_endBoot .., (rd_endBoot (.inl rfl) ..).trans (src_putStart h _)⟩

/-! ### The fuse load (R558, R559) -/

/-- The fuses are in use. -/
def takeFuses (s : State) : State := { s with fuses := s.fuseCells }.modBoot fun b => { b with loaded := true }

/-- SY_ID shows a device of a variant and revision. -/
def showId (s : State) (f : Fuses) : State :=
  ((s.wr F.SY_ID_VARIANT 0 f.variant).wr F.SY_ID_REV 0 f.rev).wr F.SY_ID_DEVID 0 (deviceId f.variant)

/-- A half device has engines 0 to 3. -/
def showEngines (s : State) : State := if s.halfDevice then s.wr F.FP_CTRL_ENG_EN 0 0x0F else s

theorem loadFuses_eq (s : State) : s.loadFuses = ((s.takeFuses.showId s.fuseCells).showEngines.wr F.MM_ANC_STAT_NEAR_GB 0
    (if s.fuseCells.variant == 2 then 128 else 256)).showFuses := rfl

/-- The registers that show what the fuses and the SPDs say. -/
def identityRegs : List Reg := [.SY_ID, .FP_CTRL, .MM_ANC_STAT, .MM_STICKY, .SEC_SB_STAT, .SEC_DK_STAT]

theorem Within.showFuses (h : s.Within t rs) (hs : Reg.SEC_SB_STAT ∈ rs) (hd : Reg.SEC_DK_STAT ∈ rs) : s.Within t.showFuses rs :=
  (((((((((h.wrBool F.SEC_SB_STAT_SB_EN hs 0 _).wrBool F.SEC_SB_STAT_PKH0 hs 0 _).wrBool F.SEC_SB_STAT_PKH1 hs 0 _).wrBool
    F.SEC_SB_STAT_REVOKE0 hs 0 _).wrBool F.SEC_SB_STAT_REVOKE1 hs 0 _).wrBool F.SEC_SB_STAT_DBG_LOCK hs 0 _).wrBool
    F.SEC_SB_STAT_DBG_SEAL hs 0 _).wrBool F.SEC_SB_STAT_TORN hs 0 _).wr F.SEC_SB_STAT_SVN_MIN hs 0 _).wrBool F.SEC_DK_STAT_DK_VALID hd 0 _

theorem showFuses_within (s : State) : s.Within s.showFuses [.SEC_SB_STAT, .SEC_DK_STAT] :=
  (Within.refl s _).showFuses (by decide) (by decide)

theorem loadFuses_within (s : State) : s.Within s.loadFuses identityRegs := by
  have taken : s.Within s.takeFuses identityRegs := (Within.refl s _).plain rfl
  have id : s.Within (s.takeFuses.showId s.fuseCells) identityRegs :=
    ((taken.wr F.SY_ID_VARIANT (by decide) 0 _).wr F.SY_ID_REV (by decide) 0 _).wr F.SY_ID_DEVID (by decide) 0 _
  have engines : s.Within (s.takeFuses.showId s.fuseCells).showEngines identityRegs := by
    rw [showEngines]
    exact (id.wr F.FP_CTRL_ENG_EN (by decide) 0 _).ite id
  rw [loadFuses_eq]
  exact (engines.wr F.MM_ANC_STAT_NEAR_GB (by decide) 0 _).showFuses (by decide) (by decide)

theorem variant_loadFuses (s : State) : s.loadFuses.rd F.SY_ID_VARIANT 0 = s.fuseCells.variant % 2 ^ F.SY_ID_VARIANT.width := by
  have engines (u : State) : u.showEngines.rd F.SY_ID_VARIANT 0 = u.rd F.SY_ID_VARIANT 0 := by
    rw [showEngines]
    split
    · exact rd_wr_apart rfl ..
    · rfl
  rw [loadFuses_eq, (showFuses_within _).regs.rd_eq (by decide) (by decide) (by decide), rd_wr_apart rfl, engines, showId, rd_wr_apart rfl,
    rd_wr_apart rfl, rd_wr rfl]

theorem loadFuses_keeps {β : Type} (view : State → β) (hw : ∀ (u : State) f i v, view (u.wr f i v) = view u) (s : State) :
    view s.loadFuses = view s.takeFuses := by
  have engines (u : State) : view u.showEngines = view u := by
    rw [showEngines]
    split
    · exact hw ..
    · rfl
  rw [loadFuses_eq]
  simp only [showFuses, wrBool, hw, engines, showId]

theorem Within.readDimms (h : s.Within t identityRegs) (d : Dimms) : s.Within (t.readDimms d) identityRegs := by
  unfold State.readDimms
  split
  · exact h.raise F.MM_STICKY_DDR_FAIL (by decide) 0
  · exact (h.wr F.MM_ANC_STAT_DDR_CH (by decide) 0 _).wr F.MM_ANC_STAT_DIMM (by decide) 0 _

theorem readDimms_keeps {β : Type} (view : State → β) (hw : ∀ (u : State) f i v, view (u.wr f i v) = view u)
    (hr : ∀ (u : State) f i, view (u.raise f i) = view u) (s : State) (d : Dimms) : view (s.readDimms d) = view s := by
  unfold readDimms
  split
  · exact hr ..
  · exact (hw ..).trans (hw ..)

/-- The state in which the start is chosen. -/
def beforeSelect (s : State) (d : Dimms) (r : Option (Fin 7)) : State :=
  (s.loadFuses.readDimms d).modBoot fun b => { b with refIn0 := r.map refIn0Units }

/-- With MATE_EN the device listens for its mate. -/
def listen (s : State) : State :=
  if s.on F.SY_STRAP_MATE_EN 0 then { s with mate := { s.mate with listenAt := some s.now } } else s

theorem fuseLoadDone_eq (s : State) (f : BootFlash) (d : Dimms) (r : Option (Fin 7)) :
    s.fuseLoadDone f d r = if s.boot.porst || s.boot.loaded then s
      else if (s.beforeSelect d r).listen.boot.xoBad || (s.beforeSelect d r).listen.boot.srst then (s.beforeSelect d r).listen
      else (s.beforeSelect d r).listen.select f := rfl

theorem listen_within (s : State) : s.Within s.listen [] := by
  unfold listen
  split
  · exact (Within.refl s _).plain rfl
  · exact Within.refl s _

theorem ready_within (s : State) (d : Dimms) (r : Option (Fin 7)) : s.Within (s.beforeSelect d r).listen identityRegs :=
  ((s.loadFuses_within.readDimms d).modBoot fun b => { b with refIn0 := r.map refIn0Units }).trans ((listen_within _).mono (by simp))

/-- What the choice reads beside the fuses is as it was; the fuses are those of the cells. -/
theorem ready_reads (s : State) (d : Dimms) (r : Option (Fin 7)) :
    (s.beforeSelect d r).listen.fuses = s.fuseCells ∧ (s.beforeSelect d r).listen.boot.xoBad = s.boot.xoBad ∧
    (s.beforeSelect d r).listen.boot.srst = s.boot.srst ∧
    (s.beforeSelect d r).listen.rd F.SY_ID_VARIANT 0 = s.fuseCells.variant % 2 ^ F.SY_ID_VARIANT.width := by
  have heard {β : Type} (view : State → β) (hm : ∀ (u : State) x, view { u with mate := x } = view u) (u : State) :
      view u.listen = view u := by
    unfold listen
    split
    · exact hm ..
    · rfl
  have boot : (s.loadFuses.readDimms d).boot = s.takeFuses.boot :=
    (readDimms_keeps State.boot (fun _ _ _ _ => rfl) (fun _ _ _ => raise_boot ..) _ d).trans
      (loadFuses_keeps State.boot (fun _ _ _ _ => rfl) s)
  have fuses : (s.loadFuses.readDimms d).fuses = s.takeFuses.fuses :=
    (readDimms_keeps State.fuses (fun _ _ _ _ => rfl) (fun _ _ _ => raise_fuses ..) _ d).trans
      (loadFuses_keeps State.fuses (fun _ _ _ _ => rfl) s)
  have xo : (s.loadFuses.readDimms d).boot.xoBad = s.boot.xoBad := by rw [boot]; rfl
  have srst : (s.loadFuses.readDimms d).boot.srst = s.boot.srst := by rw [boot]; rfl
  refine ⟨(heard State.fuses (fun _ _ => rfl) _).trans fuses, ?_, ?_, ?_⟩
  · exact (congrArg Boot.xoBad (heard State.boot (fun _ _ => rfl) _)).trans xo
  · exact (congrArg Boot.srst (heard State.boot (fun _ _ => rfl) _)).trans srst
  · rw [heard (fun u => u.rd F.SY_ID_VARIANT 0) (fun _ _ => rfl), beforeSelect, rd_modBoot]
    have dimms (u : State) : (u.readDimms d).rd F.SY_ID_VARIANT 0 = u.rd F.SY_ID_VARIANT 0 := by
      unfold readDimms
      split
      · exact rd_raise_apart rfl (by decide) (by decide) ..
      · rw [rd_wr_apart rfl, rd_wr_apart rfl]
    rw [dimms, variant_loadFuses]

/-- Out of reset, with a good XO_IN, the fuse load goes on to the choice of the start. -/
theorem fuseLoadDone_selects (porst : s.boot.porst = false) (fresh : s.boot.loaded = false) (xo : s.boot.xoBad = false)
    (srst : s.boot.srst = false) (f : BootFlash) (d : Dimms) (r : Option (Fin 7)) :
    s.fuseLoadDone f d r = (s.beforeSelect d r).listen.select f := by
  obtain ⟨-, xo', srst', -⟩ := s.ready_reads d r
  rw [fuseLoadDone_eq, if_neg (by simp [porst, fresh]), if_neg (by simp [xo', srst', xo, srst])]

theorem select_test (h : s.on F.SY_STRAP_TEST_EN 0 = true) (f : BootFlash) : s.select f = s.noImage .test := if_pos h

section
variable (h : s.on F.SY_STRAP_TEST_EN 0 = false)
include h

theorem select_recovery (hb : s.rd F.SY_STRAP_BOOT_SRC 0 = 3) (f : BootFlash) : s.select f = s.noImage .recovery := by
  simp [select, h, hb]

theorem select_default (hb : s.rd F.SY_STRAP_BOOT_SRC 0 = 2) (f : BootFlash) :
    s.select f = s.launch (s.defaultStart true (s.rd F.MM_ANC_STAT_DDR_CH 0 != 0))
      [s.defaultStart true (s.rd F.MM_ANC_STAT_DDR_CH 0 != 0)] := by
  simp [select, h, hb]

theorem select_host (hb : s.rd F.SY_STRAP_BOOT_SRC 0 = 1) (f : BootFlash) :
    s.select f = s.modBoot fun b => { b with hostWait := true } := by
  simp [select, h, hb]

end

/-! ### The host's image (R560) -/

/-- The holds as installed are those that MM_ANC_STAT shows. -/
theorem OnlyAt.installed (h : s.OnlyAt t 0 [.SY_IMG_CMD, .SY_IMG_STAT, .SY_IMG_DIGEST_A]) : t.installed = s.installed := by
  have kept (f : Field) (hr : f.reg = .MM_ANC_STAT) : t.rd f 0 = s.rd f 0 :=
    h.onlyRegs.rd_eq (by simp [hr]) (by simp [hr]) (by simp [hr]) 0
  have present (u : State) : (u.wr F.MM_ANC_STAT_DDR_OK 0 1).on F.MM_ANC_STAT_DDR_OK 0 = true := on_wr rfl rfl u 0 true
  have beside {f : Field} (hf : F.MM_ANC_STAT_DDR_OK.apart f = true) (u : State) : (u.wr F.MM_ANC_STAT_DDR_OK 0 1).rd f 0 = u.rd f 0 :=
    rd_wr_apart hf ..
  simp [State.installed, deepSize, present, beside (f := F.MM_ANC_STAT_DDR_CH) rfl, beside (f := F.MM_ANC_STAT_DIMM) rfl,
    kept F.MM_ANC_STAT_DDR_CH rfl, kept F.MM_ANC_STAT_DIMM rfl, kept F.MM_ANC_STAT_NEAR_GB rfl]

theorem imageReason_keepImgCmd (s : State) (v : Word) (im : Image) :
    (s.keepImgCmd v).imageReason im (s.keepImgCmd v).installed true = s.imageReason im s.installed true := by
  have frame : s.OnlyAt (s.keepImgCmd v) 0 [.SY_IMG_CMD, .SY_IMG_STAT, .SY_IMG_DIGEST_A] := ((s.onlyCopy_keepImgCmd v).mono (by simp)).regs
  rw [frame.installed, (frame.sameChecks rfl).imageReason]

theorem imageReason_lt (s : State) (im : Image) (x : Holds) : s.imageReason im x true < 16 := by
  unfold imageReason
  repeat' split
  all_goals decide

theorem hostGo_accepted {im : Image} (wait : s.boot.hostWait = true) (boot : s.devState = .boot)
    (good : s.imageReason im s.installed true = 0) : s.hostGo im = s.launch ⟨im, 1, 0, 0⟩ (s.lastResort []) := by
  simp [hostGo, wait, boot, good]

theorem hostGo_rejected {im : Image} (wait : s.boot.hostWait = true) (boot : s.devState = .boot)
    (bad : s.imageReason im s.installed true ≠ 0) :
    s.hostGo im = (s.rejected im true (s.imageReason im s.installed true)).lastRow [im] := by
  simp [hostGo, wait, boot, bad]

theorem lastRow_halt (h : s.on F.SY_STRAP_DEF_HALT 0 = true) (tried : List Image) : s.lastRow tried = s.noImage .recovery := by
  have none : s.lastResort tried = [] := by simp [lastResort, h]
  rw [lastRow, none]

theorem exec_hostGo {m : Initiator} (user : m.isUser = false) (v : Word) (im : Image) :
    exec (.hostGo m v im) s = .next (((s.keepImgCmd v).hostGo im).reply m (.ok 0)) := congrArg Host.Outcome.next (if_neg (by simp [user]))

theorem boot_keepImgCmd (s : State) (v : Word) : (s.keepImgCmd v).boot = s.boot := (rfl)
theorem image_keepImgCmd (s : State) (v : Word) : (s.keepImgCmd v).image = s.image := (rfl)

/-- An accepted image starts up from the host. -/
theorem hostGo_starts {im : Image} (wait : s.boot.hostWait = true) (boot : s.devState = .boot)
    (good : s.imageReason im s.installed true = 0) (mate : s.on F.SY_STRAP_MATE_EN 0 = false) (v : Word) :
    ((s.keepImgCmd v).hostGo im).devState = .startUp ∧ ((s.keepImgCmd v).hostGo im).rd F.SY_BOOT_STAT_SRC 0 = 1 := by
  obtain ⟨-, dev, -⟩ := s.keepImgCmd_keeps v
  have strap : (s.keepImgCmd v).on F.SY_STRAP_MATE_EN 0 = false := by rw [on, rd_keepImgCmd (by decide), ← on, mate]
  rw [hostGo_accepted (by rw [boot_keepImgCmd, wait]) (dev.trans boot) ((s.imageReason_keepImgCmd v im).trans good)]
  exact launch_starts (st := ⟨im, 1, 0, 0⟩) (show 1 < 8 by decide) strap _

theorem rejected_within (s : State) (im : Image) (why : Nat) :
    s.Within (s.rejected im true why) [.SY_BOOT_STAT, .SY_IMG_ERR, .SY_IMG_RULE] := by
  have shown : s.Within (s.showReason true why) [.SY_BOOT_STAT, .SY_IMG_ERR, .SY_IMG_RULE] :=
    (Within.refl s _).wr F.SY_BOOT_STAT_REASON_B (by decide) 0 why
  unfold rejected
  dsimp only
  split
  · exact ((shown.wr F.SY_IMG_ERR_TYPE (by decide) 0 _).wr F.SY_IMG_ERR_RECORD (by decide) 0 _).wr F.SY_IMG_RULE_RULE (by decide) 0 _
  · exact shown

theorem rejected_keeps {β : Type} (view : State → β) (hw : ∀ (u : State) f i v, f.reg ≠ .SY_BOOT_STAT → view (u.wr f i v) = view u)
    (s : State) (im : Image) (why : Nat) : view (s.rejected im true why) = view (s.showReason true why) := by
  unfold rejected
  dsimp only
  split
  · exact (hw _ _ _ _ (by decide)).trans ((hw _ _ _ _ (by decide)).trans (hw _ _ _ _ (by decide)))
  · rfl

theorem reason_rejected {why : Nat} (h : why < 16) (s : State) (im : Image) :
    (s.rejected im true why).rd F.SY_BOOT_STAT_REASON_B 0 = why := by
  rw [rejected_keeps (fun u => u.rd F.SY_BOOT_STAT_REASON_B 0) fun u f i v hf => rd_wr_reg (.inl hf) ..]
  exact rd_wr_fits rfl h s 0

/-- A rejected image ends in RECOVERY where the default image may not start. -/
theorem hostGo_halts {im : Image} (wait : s.boot.hostWait = true) (boot : s.devState = .boot)
    (bad : s.imageReason im s.installed true ≠ 0) (halt : s.on F.SY_STRAP_DEF_HALT 0 = true) (v : Word) :
    ((s.keepImgCmd v).hostGo im).devState = .recovery ∧ ((s.keepImgCmd v).hostGo im).rd F.SY_BOOT_STAT_SRC 0 = 3 ∧
    ((s.keepImgCmd v).hostGo im).rd F.SY_BOOT_STAT_REASON_B 0 = s.imageReason im s.installed true ∧
    ((s.keepImgCmd v).hostGo im).image = s.image ∧ s.SameMemory ((s.keepImgCmd v).hostGo im) := by
  obtain ⟨-, dev, -⟩ := s.keepImgCmd_keeps v
  have reason := s.imageReason_keepImgCmd v im
  have rejected := (s.keepImgCmd v).rejected_within im (s.imageReason im s.installed true)
  have strap : ((s.keepImgCmd v).rejected im true (s.imageReason im s.installed true)).on F.SY_STRAP_DEF_HALT 0 = true := by
    rw [on, rejected.regs.rd_eq (by decide) (by decide) (by decide), rd_keepImgCmd (by decide), ← on, halt]
  rw [hostGo_rejected (by rw [boot_keepImgCmd, wait]) (dev.trans boot) (fun e => bad (reason.symm.trans e)), reason, lastRow_halt strap]
  refine ⟨devState_endBoot .., ?_, ?_, ?_, ?_⟩
  · rw [noImage, rd_endBoot (.inl rfl), rd_wr_fits rfl (by decide)]
  · rw [noImage, rd_endBoot (.inl rfl), rd_wr_apart rfl, reason_rejected (imageReason_lt ..)]
  · rw [noImage, image_endBoot, wr_image, rejected_keeps State.image fun _ _ _ _ _ => rfl]
    exact image_keepImgCmd s v
  · exact (s.onlyCopy_keepImgCmd v).memory.trans (rejected.memory.trans (noImage_within _ _).memory)

/-! ### Training, traffic, and an image that is lost (R500, R561, R562) -/

/-- What the training of the holds shows. -/
def showTraining (s : State) (hbm ddr there : Bool) : State :=
  (((s.wrBool F.MM_ANC_STAT_HBM_OK 0 hbm).wrBool F.MM_ANC_STAT_DDR_OK 0 (ddr && there)).raiseIf (!hbm) F.MM_STICKY_HBM_FAIL 0).raiseIf
    (!ddr && there) F.MM_STICKY_DDR_FAIL 0

theorem showTraining_frame (s : State) (hbm ddr there : Bool) :
    s.OnlyCopy (s.showTraining hbm ddr there) 0 [.MM_ANC_STAT, .MM_STICKY] :=
  ((((OnlyCopy.refl s 0 _).wrBool F.MM_ANC_STAT_HBM_OK (by decide) hbm).wrBool F.MM_ANC_STAT_DDR_OK (by decide) (ddr && there)).raiseIf
    (!hbm) F.MM_STICKY_HBM_FAIL (by decide)).raiseIf (!ddr && there) F.MM_STICKY_DDR_FAIL (by decide)

theorem showTraining_shows (s : State) (hbm ddr there : Bool) :
    (s.showTraining hbm ddr there).on F.MM_ANC_STAT_HBM_OK 0 = hbm ∧
    (s.showTraining hbm ddr there).on F.MM_ANC_STAT_DDR_OK 0 = (ddr && there) ∧ (s.showTraining hbm ddr there).image = s.image := by
  have quiet (u : State) (a b : Bool) {f : Field} (h1 : F.MM_STICKY_HBM_FAIL.apart f = true) (h2 : F.MM_STICKY_DDR_FAIL.apart f = true)
      (e1 : f.reg ≠ .EV_STICKY) (e2 : f.reg ≠ .EV_SRC_CNT) :
      ((u.raiseIf a F.MM_STICKY_HBM_FAIL 0).raiseIf b F.MM_STICKY_DDR_FAIL 0).rd f 0 = u.rd f 0 := by
    rw [rd_raiseIf_apart h2 e1 e2, rd_raiseIf_apart h1 e1 e2]
  refine ⟨?_, ?_, ?_⟩
  · rw [on, showTraining, quiet _ _ _ rfl rfl (by decide) (by decide), wrBool, rd_wr_apart rfl, ← on]
    exact on_wr rfl rfl s 0 hbm
  · rw [on, showTraining, quiet _ _ _ rfl rfl (by decide) (by decide), ← on]
    exact on_wr rfl rfl _ 0 _
  · rw [showTraining, raiseIf_image, raiseIf_image, wrBool_image, wrBool_image]

theorem ancTrained_fits {hbm ddr : Bool} (dev : s.devState = .startUp) (fresh : s.boot.trained = false)
    (fits : s.image.inFailed (!hbm) (!ddr || s.rd F.MM_ANC_STAT_DDR_CH 0 == 0) = false) :
    s.ancTrained hbm ddr =
      (s.showTraining hbm ddr (s.rd F.MM_ANC_STAT_DDR_CH 0 != 0)).modBoot fun b => { b with trained := true } := by
  obtain ⟨-, -, image⟩ := s.showTraining_shows hbm ddr (s.rd F.MM_ANC_STAT_DDR_CH 0 != 0)
  have eq : s.ancTrained hbm ddr = if s.devState != .startUp || s.boot.trained then s
      else if (s.showTraining hbm ddr (s.rd F.MM_ANC_STAT_DDR_CH 0 != 0)).image.inFailed (!hbm)
        (!ddr || !(s.rd F.MM_ANC_STAT_DDR_CH 0 != 0))
      then ((s.showTraining hbm ddr (s.rd F.MM_ANC_STAT_DDR_CH 0 != 0)).modBoot fun b => { b with trained := true }).restartUp (!hbm)
        (!ddr || !(s.rd F.MM_ANC_STAT_DDR_CH 0 != 0))
      else (s.showTraining hbm ddr (s.rd F.MM_ANC_STAT_DDR_CH 0 != 0)).modBoot fun b => { b with trained := true } := rfl
  have same : (!(s.rd F.MM_ANC_STAT_DDR_CH 0 != 0)) = (s.rd F.MM_ANC_STAT_DDR_CH 0 == 0) := by simp [bne]
  rw [eq, if_neg (by simp [dev, fresh]), image, same, if_neg (by simp [fits])]

theorem imageLost_normal (h : s.devState = .normal) : s.imageLost = s.datapathOff.setDevState .recovery := if_pos (by simp [h])

/-- Restarting every resource leaves the on-chip memories. -/
theorem mem_datapathOff (s : State) : s.datapathOff.mem = s.mem := by
  have all (u : State) : u.restartAll.mem = u.mem :=
    congrArg InForce.mem (inForce_each u (fun t x => t.inForce_restartResource x) u.allResources)
  have holds (u : State) (im : Image) : (u.setModeHolds im).mem = u.mem := congrArg InForce.mem (u.inForce_setModeHolds im)
  rw [datapathOff, all, holds]
  rfl

end State

/-- Settles O45. The fuse load ends in a state with the straps as they were and the fuses of the cells, in which the start is chosen;
whatever the start puts into force, BOOT ends last with the new device state. -/
theorem startUpFollowsItsTable : Obligations.StartUpFollowsItsTable := by
  unfold Obligations.StartUpFollowsItsTable
  refine ⟨fun f d r s porst fresh xo srst => ?_, fun m v im s user wait boot => ⟨fun good mate => ?_, fun bad halt => ?_⟩,
    fun hbm ddr s dev fresh fits => ?_, fun s => ⟨fun can => ?_, fun cannot => ?_⟩, fun s => ⟨fun normal => ?_, fun other => ?_⟩⟩
  · obtain ⟨fuses, -, -, variant⟩ := s.ready_reads d r
    have frame := s.ready_within d r
    have strap (g : Field) (hg : g.reg = .SY_STRAP) : (s.beforeSelect d r).listen.rd g 0 = s.rd g 0 :=
      frame.regs.rd_eq (by simp [hg, State.identityRegs]) (by simp [hg]) (by simp [hg]) 0
    have run : exec (.fuseLoadDone f d r) s = .next ((s.beforeSelect d r).listen.select f) :=
      congrArg Host.Outcome.next (State.fuseLoadDone_selects porst fresh xo srst f d r)
    have strapOn (g : Field) (hg : g.reg = .SY_STRAP) : (s.beforeSelect d r).listen.on g 0 = s.on g 0 :=
      congrArg (· == 1) (strap g hg)
    refine ⟨fun test => ?_, fun test => ⟨fun src => ?_, fun src mate => ?_, fun src => ?_⟩⟩
    · rw [State.select_test ((strapOn _ rfl).trans test)] at run
      have whole := (frame.mono (by decide)).trans ((State.noImage_within _ .test).mono (by decide) (qs :=
        [.SY_STATE, .SY_BOOT_STAT, .SY_ID, .FP_CTRL, .MM_ANC_STAT, .MM_STICKY, .SEC_SB_STAT, .SEC_DK_STAT, .LE_STICKY]))
      refine ⟨_, run, State.devState_endBoot .., (State.fuses_endBoot ..).trans fuses, ?_, ?_, whole.regs, whole.memory⟩
      · rw [State.noImage, State.rd_endBoot (.inl rfl), State.rd_wr_fits rfl (by decide)]
      · rw [State.noImage, State.rd_endBoot (.inr rfl), State.rd_wr_apart rfl, variant]
    · rw [State.select_recovery ((strapOn _ rfl).trans test) ((strap _ rfl).trans src)] at run
      exact ⟨_, run, State.devState_endBoot .., (State.fuses_endBoot ..).trans fuses⟩
    · rw [State.select_default ((strapOn _ rfl).trans test) ((strap _ rfl).trans src)] at run
      exact ⟨_, run, State.launch_starts (by simp [State.defaultStart]) ((strapOn _ rfl).trans mate) _⟩
    · rw [State.select_host ((strapOn _ rfl).trans test) ((strap _ rfl).trans src)] at run
      have state : (s.beforeSelect d r).listen.devState = s.devState :=
        State.devState_congr (frame.regs.rd_eq (by decide) (by decide) (by decide) 0)
      exact ⟨_, run, congrArg Boot.hostWait (State.boot_modBoot ..), state, (frame.modBoot _).memory⟩
  · obtain ⟨state, src⟩ := State.hostGo_starts wait boot good mate v
    refine ⟨_, State.exec_hostGo user v im, ?_, ?_, State.answer_reply ..⟩
    · exact (State.devState_congr (State.rd_reply ..)).trans state
    · exact (State.rd_reply ..).trans src
  · obtain ⟨state, src, reason, image, memory⟩ := State.hostGo_halts wait boot bad halt v
    refine ⟨_, State.exec_hostGo user v im, ?_, ?_, ?_, ?_, memory⟩
    · exact (State.devState_congr (State.rd_reply ..)).trans state
    · exact (State.rd_reply ..).trans src
    · exact (State.rd_reply ..).trans reason
    · exact (State.reply_image ..).trans image
  · obtain ⟨hbmOk, ddrOk, -⟩ := s.showTraining_shows hbm ddr (s.rd F.MM_ANC_STAT_DDR_CH 0 != 0)
    have frame := s.showTraining_frame hbm ddr (s.rd F.MM_ANC_STAT_DDR_CH 0 != 0)
    refine ⟨_, congrArg Host.Outcome.next (State.ancTrained_fits dev fresh fits), by rw [State.boot_modBoot], ?_, ?_, ?_,
      frame.regs.congr rfl, (frame.within.modBoot _).memory⟩
    · rw [State.on, State.rd_modBoot, ← State.on, hbmOk]
    · rw [State.on, State.rd_modBoot, ← State.on, ddrOk]
    · exact (State.devState_congr (frame.regs.onlyRegs.rd_eq (by decide) (by decide) (by decide) 0)).trans dev
  · exact ⟨s.setDevState .normal, congrArg Host.Outcome.next (if_pos can), s.devState_setDevState .normal,
      (s.onlyAt_refl 0 _).wr F.SY_STATE_STATE (by decide) _, rfl, rfl, rfl, rfl⟩
  · exact congrArg Host.Outcome.next (if_neg (by simp [cannot]))
  · exact ⟨_, congrArg Host.Outcome.next (State.imageLost_normal normal), State.devState_setDevState ..,
      by rw [State.setDevState, State.wr_mem, State.mem_datapathOff]⟩
  · exact congrArg Host.Outcome.next (if_neg (by simp [other]))

end Sys2Proof.Machine
end

section
/-! Capture: arming, triggers, slots that close and are freed; polarization transients (O35). -/

namespace Sys2Proof.Machine

namespace State

variable {s t : State} {e : Nat}

/-! ### CAP_STAT (R405) -/

/-- ARMED, POSTING and DONE show a capture. -/
def showFlags (s : State) (e : Nat) : State :=
  (((s.wrBool F.CAP_STAT_ARMED e (s.capture e).armed).wrBool F.CAP_STAT_POSTING e (s.capture e).post.isSome)).wr F.CAP_STAT_DONE e
    (s.capture e).done.length

theorem showCapture_eq (s : State) (e : Nat) :
    s.showCapture e = match (s.capture e).next with | some i => (s.showFlags e).wr F.CAP_STAT_NEXT e i | none => s.showFlags e := rfl

theorem showCapture_keeps {β : Type} (view : State → β) (hw : ∀ (u : State) f i v, f.reg = .CAP_STAT → view (u.wr f i v) = view u)
    (s : State) (e : Nat) : view (s.showCapture e) = view s := by
  have flags : view (s.showFlags e) = view s := (hw _ _ _ _ rfl).trans ((hw _ _ _ _ rfl).trans (hw _ _ _ _ rfl))
  rw [showCapture_eq]
  split
  · exact (hw _ _ _ _ rfl).trans flags
  · exact flags

theorem OnlyCopy.showCapture {rs : List Reg} (h : s.OnlyCopy t e rs) (hr : Reg.CAP_STAT ∈ rs) : s.OnlyCopy (t.showCapture e) e rs := by
  have flags : s.OnlyCopy (t.showFlags e) e rs :=
    ((h.wrBool F.CAP_STAT_ARMED hr _).wrBool F.CAP_STAT_POSTING hr _).wr F.CAP_STAT_DONE hr _
  rw [showCapture_eq]
  split
  · exact flags.wr F.CAP_STAT_NEXT hr _
  · exact flags

theorem captures_showCapture (s : State) (e : Nat) : (s.showCapture e).captures = s.captures :=
  showCapture_keeps State.captures (fun _ _ _ _ _ => rfl) s e

theorem capture_showCapture (s : State) (e k : Nat) : (s.showCapture e).capture k = s.capture k :=
  showCapture_keeps (fun u => u.capture k) (fun _ _ _ _ _ => rfl) s e

/-- What CAP_STAT shows. -/
theorem showCapture_shows (s : State) (e : Nat) :
    (s.showCapture e).on F.CAP_STAT_ARMED e = (s.capture e).armed ∧ (s.showCapture e).on F.CAP_STAT_POSTING e = (s.capture e).post.isSome ∧
    (s.showCapture e).rd F.CAP_STAT_DONE e = (s.capture e).done.length % 2 ^ F.CAP_STAT_DONE.width := by
  have beside {f : Field} (h : F.CAP_STAT_NEXT.apart f = true) : (s.showCapture e).rd f e = (s.showFlags e).rd f e := by
    rw [showCapture_eq]
    split
    · exact rd_wr_apart h ..
    · rfl
  refine ⟨?_, ?_, ?_⟩
  · rw [on, beside rfl, showFlags, rd_wr_apart rfl, wrBool, rd_wr_apart rfl, ← on]
    exact on_wr rfl rfl s e _
  · rw [on, beside rfl, showFlags, rd_wr_apart rfl, ← on]
    exact on_wr rfl rfl _ e _
  · rw [beside rfl, showFlags, rd_wr rfl]

@[simp] theorem capture_modCapture_same (s : State) (e : Nat) (f : Capture → Capture) : (s.modCapture e f).capture e = f (s.capture e) := by
  rw [modCapture, capture_setCapture, if_pos rfl]

theorem capture_modCapture_ne {k : Nat} (h : k ≠ e) (s : State) (f : Capture → Capture) : (s.modCapture e f).capture k = s.capture k := by
  rw [modCapture, capture_setCapture, if_neg h.symm]

theorem OnlyCopy.modCapture {rs : List Reg} (h : s.OnlyCopy t e rs) (k : Nat) (f : Capture → Capture) :
    s.OnlyCopy (t.modCapture k f) e rs := h.plain rfl

/-! ### The slot that the engine goes on in (R405, R407 to R409) -/

/-- The slot taken from slot `i` on, and the DONE slots then. -/
def slotFrom (s : State) (e i : Nat) : Option Nat × List Nat :=
  match freeSlot (s.capture e).slots (s.capture e).done i with
  | some j => (some j, (s.capture e).done)
  | none => if (s.capture e).armed && s.rd F.CAP_CFG_OVERWRITE e == 1 then ((s.capture e).done.head?, (s.capture e).done.drop 1)
    else (none, (s.capture e).done)

/-- History starts in a slot. -/
def goOn (s : State) (e : Nat) (c : Option Nat × List Nat) : State :=
  (s.modCapture e fun x => { x with next := c.1, done := c.2, since := s.now, post := none }).showCapture e

/-- The samples of an armed engine overwrite its slot. -/
def overwrite (s : State) (x : Capture) (slot : Option Nat) (region : Option RegionRec) : State :=
  match slot, region with
  | some j, some r => if x.armed then s.ancForget (r.base + j * slotSize r.size x.slots) (slotSize r.size x.slots) else s
  | _, _ => s

theorem nextSlot_eq (s : State) (e i : Nat) :
    s.nextSlot e i = (s.goOn e (s.slotFrom e i)).overwrite (s.capture e) (s.slotFrom e i).1 (s.captureRegion e) := rfl

theorem overwrite_keeps {β : Type} (view : State → β) (ha : ∀ (u : State) a n, view (u.ancForget a n) = view u) (s : State) (x : Capture)
    (slot : Option Nat) (region : Option RegionRec) : view (s.overwrite x slot region) = view s := by
  unfold overwrite
  split
  · split
    · exact ha ..
    · rfl
  · rfl

theorem find_ancForget (s : State) (a n b : Nat) :
    Mem.find (s.ancForget a n).anc b = if a ≤ b ∧ b < a + n then none else Mem.find s.anc b := by
  have kept := Mem.find_filter s.anc (fun c => !(decide (a ≤ c) && decide (c < a + n))) b
  rw [ancForget, kept]
  by_cases h : a ≤ b ∧ b < a + n
  · simp [h]
  · rw [if_neg h, if_pos]
    simp only [Bool.not_eq_true', Bool.and_eq_false_iff, decide_eq_false_iff_not]
    omega

/-- Beside the slot the engine goes on in, the Anchorage keeps every byte. -/
theorem find_overwrite {x : Capture} {slot : Option Nat} {region : Option RegionRec} {a : Nat}
    (h : ∀ j r, slot = some j → region = some r → a < r.base + j * slotSize r.size x.slots ∨
      r.base + j * slotSize r.size x.slots + slotSize r.size x.slots ≤ a) (s : State) :
    Mem.find (s.overwrite x slot region).anc a = Mem.find s.anc a := by
  unfold overwrite
  split
  · rename_i j r
    split
    · rw [find_ancForget, if_neg]
      have := h j r rfl rfl
      omega
    · rfl
  · rfl

theorem goOn_frame (s : State) (e : Nat) (c : Option Nat × List Nat) : s.OnlyCopy (s.goOn e c) e [.CAP_STAT] :=
  ((OnlyCopy.refl s e _).modCapture e _).showCapture (by decide)

/-- What a step to the next slot leaves. -/
theorem nextSlot_goesOn (s : State) (e i : Nat) :
    (s.nextSlot e i).capture e = { s.capture e with next := (s.slotFrom e i).1, done := (s.slotFrom e i).2, since := s.now, post := none } ∧
    (∀ k, k ≠ e → (s.nextSlot e i).capture k = s.capture k) ∧ (s.nextSlot e i).on F.CAP_STAT_ARMED e = (s.capture e).armed ∧
    (s.nextSlot e i).mem = s.mem ∧ s.OnlyAt (s.nextSlot e i) e [.CAP_STAT] := by
  rw [nextSlot_eq]
  refine ⟨?_, fun k hk => ?_, ?_, ?_, ?_⟩
  · rw [overwrite_keeps (fun u => u.capture e) fun _ _ _ => rfl, goOn, capture_showCapture, capture_modCapture_same]
  · rw [overwrite_keeps (fun u => u.capture k) fun _ _ _ => rfl, goOn, capture_showCapture, capture_modCapture_ne hk]
  · rw [overwrite_keeps (fun u => u.on F.CAP_STAT_ARMED e) fun _ _ _ => rfl, goOn, (showCapture_shows ..).1, capture_modCapture_same]
  · rw [overwrite_keeps State.mem fun _ _ _ => rfl]
    exact (s.goOn_frame e _).memory.1
  · exact (s.goOn_frame e _).regs.congr (overwrite_keeps State.regs (fun _ _ _ => rfl) ..)

theorem find_nextSlot {i a : Nat} (h : ∀ j r, (s.slotFrom e i).1 = some j → s.captureRegion e = some r →
    a < r.base + j * slotSize r.size (s.capture e).slots ∨
      r.base + j * slotSize r.size (s.capture e).slots + slotSize r.size (s.capture e).slots ≤ a) :
    Mem.find (s.nextSlot e i).anc a = Mem.find s.anc a := by
  have anc : (s.goOn e (s.slotFrom e i)).anc = s.anc := (s.goOn_frame e _).memory.2.1
  rw [nextSlot_eq, find_overwrite h, anc]

theorem freeSlot_first {slots i : Nat} {done : List Nat} (hs : 0 < slots) (hi : i < slots) (free : i ∉ done) :
    freeSlot slots done i = some i := by
  obtain ⟨n, rfl⟩ := Nat.exists_eq_succ_of_ne_zero hs.ne'
  rw [freeSlot, List.range_succ_eq_map, List.map_cons, Nat.add_zero, Nat.mod_eq_of_lt hi, List.find?_cons_of_pos]
  simpa using free

/-- A free slot is not DONE. -/
theorem freeSlot_free {slots i j : Nat} {done : List Nat} (h : freeSlot slots done i = some j) : j ∉ done := by
  simpa using List.find?_some h

/-- Without OVERWRITE the DONE slots stay, and the next one is free. -/
theorem slotFrom_keeps (h : s.rd F.CAP_CFG_OVERWRITE e = 0) (i : Nat) :
    (s.slotFrom e i).2 = (s.capture e).done ∧ ∀ j, (s.slotFrom e i).1 = some j → j ∉ (s.capture e).done := by
  unfold slotFrom
  split
  · rename_i j hj
    exact ⟨rfl, fun k hk => Option.some.inj hk ▸ freeSlot_free hj⟩
  · rw [if_neg (by simp [h])]
    exact ⟨rfl, fun k hk => by cases hk⟩

/-! ### ARM (R406) -/

theorem capArm_armed (h : (s.capture e).armed = true) : s.capArm e = s := if_pos h

theorem capArm_noRegion (h : (s.capture e).armed = false) (hr : s.captureRegion e = none) : s.capArm e = s.wr F.CAP_STAT_RESULT e 2 := by
  simp [capArm, h, hr]

/-- An engine is armed for a number of slots. -/
def armFor (s : State) (e slots : Nat) : State :=
  s.modCapture e fun x => { x with armed := true, slots := slots, done := x.done.filter (· < slots), soft := false, post := none,
                                   wasOn := s.rd F.LE_STAT_PSTATE e == 2 }

theorem capArm_arms {r : RegionRec} {slots : Nat} (h : (s.capture e).armed = false) (hr : s.captureRegion e = some r)
    (hs : slots = s.rd F.CAP_CFG_NSLOT e + 1)
    (need : captureNeed (s.rd F.CAP_CFG_PRE e + s.postTicks e) (s.captureRate e) ≤ slotSize r.size slots)
    (load : s.captureLoad r.deep e ≤ 16 * (if r.deep then 102400000000 else 2048000000000)) :
    s.capArm e = ((s.armFor e slots).nextSlot e (s.rd F.CAP_STAT_NEXT e % slots)).wr F.CAP_STAT_RESULT e 1 := by
  subst hs
  have room := Nat.not_lt.2 need
  have rate := Nat.not_lt.2 load
  rw [capArm, if_neg (by simp [h]), hr]
  dsimp only
  rw [if_neg room, if_neg rate]
  rfl

theorem capture_armFor (s : State) (e slots : Nat) : (s.armFor e slots).capture e =
    { s.capture e with armed := true, slots := slots, done := (s.capture e).done.filter (· < slots), soft := false, post := none,
                       wasOn := s.rd F.LE_STAT_PSTATE e == 2 } := capture_modCapture_same ..

/-- An engine that is armed goes on in the slot that NEXT named, with nothing DONE before. -/
theorem armed_goesOn {slots : Nat} (hs : 0 < slots) (hd : (s.capture e).done = []) (n : Nat) :
    ((s.armFor e slots).slotFrom e (n % slots)).1 = some (n % slots) := by
  have free : freeSlot ((s.armFor e slots).capture e).slots ((s.armFor e slots).capture e).done (n % slots) = some (n % slots) := by
    rw [capture_armFor]
    exact freeSlot_first hs (Nat.mod_lt n hs) (by simp [hd])
  rw [slotFrom, free]

theorem armFor_nextSlot {slots : Nat} {r : RegionRec} (hs : 0 < slots) (hd : (s.capture e).done = []) (hr : s.captureRegion e = some r)
    (n : Nat) :
    let t := ((s.armFor e slots).nextSlot e (n % slots)).wr F.CAP_STAT_RESULT e 1
    (t.capture e).armed = true ∧ (t.capture e).slots = slots ∧ (t.capture e).next = some (n % slots) ∧ (t.capture e).since = s.now ∧
      t.rd F.CAP_STAT_RESULT e = 1 ∧ t.on F.CAP_STAT_ARMED e = true ∧ (∀ i, i ≠ e → t.capture i = s.capture i) ∧
      (∀ a, a < r.base + n % slots * slotSize r.size slots ∨ r.base + n % slots * slotSize r.size slots + slotSize r.size slots ≤ a →
        Mem.find t.anc a = Mem.find s.anc a) ∧ t.mem = s.mem ∧ s.OnlyAt t e [.CAP_STAT] := by
  obtain ⟨cap, others, armed, mem, frame⟩ := (s.armFor e slots).nextSlot_goesOn e (n % slots)
  have next := armed_goesOn hs hd n
  have region : (s.armFor e slots).captureRegion e = some r := hr
  rw [next, capture_armFor] at cap
  have kept : ((((s.armFor e slots).nextSlot e (n % slots)).wr F.CAP_STAT_RESULT e 1).capture e) =
    ((s.armFor e slots).nextSlot e (n % slots)).capture e := rfl
  dsimp only
  rw [kept, cap]
  refine ⟨rfl, rfl, rfl, rfl, rd_wr_fits rfl (by decide) _ e, ?_, fun i hi => ?_, fun a ha => ?_, mem, ?_⟩
  · rw [on, rd_wr_apart rfl, ← on, armed, capture_armFor]
  · exact (others i hi).trans (capture_modCapture_ne hi ..)
  · refine (find_nextSlot fun j r' hj hr' => ?_ : Mem.find ((s.armFor e slots).nextSlot e (n % slots)).anc a = _)
    rw [next] at hj
    rw [region] at hr'
    rw [capture_armFor]
    obtain rfl := Option.some.inj hj
    obtain rfl := Option.some.inj hr'
    exact ha
  · exact ((s.onlyAt_refl e _).congr rfl |>.trans frame).wr F.CAP_STAT_RESULT (by decide) 1

/-! ### Triggers (R407 to R409) -/

/-- The trigger of a schedule in the present tick. -/
def schedulePost (s : State) (e : Nat) : CapPost :=
  { trig := s.tick, at_ := s.now, src := .schedule, post := s.postTicks e, pre := min (s.rd F.CAP_CFG_PRE e) (s.now - (s.capture e).since),
    short := decide (s.now - (s.capture e).since < s.rd F.CAP_CFG_PRE e),
    cd := if s.quantityHolds e 0 then s.rd F.MS_QVAL_VAL (16 * e) else noValue,
    fofs := if s.quantityHolds e 11 then s.rd F.MS_QVAL_VAL (16 * e + 11) else noValue,
    los := s.rxState e == 1, lolAt := s.rd F.LE_EQ_STAT_LOL_CNT e }

theorem capTrigger_opens {slot : Nat} (ha : (s.capture e).armed = true) (hp : (s.capture e).post = none)
    (hn : (s.capture e).next = some slot) :
    s.capTrigger e .schedule = (s.modCapture e fun x => { x with post := some (s.schedulePost e) }).showCapture e := by
  simp only [capTrigger, ha, hp, hn, Option.isNone_some, Bool.false_and, Bool.false_eq_true, if_false, Bool.not_true]
  rfl

theorem capSchedule_due (en : s.cfg F.CAP_TRIG_SCH_EN e = 1) (due : s.tick.toNat % 2 ^ min 30 (s.cfg F.CAP_TRIG_SK e) = 0) :
    s.capSchedule e = s.capTrigger e .schedule := if_pos (by simp [en, due])

/-! ### RELEASE (R405) -/

theorem capRelease_oldest {i slot : Nat} {rest : List Nat} (hd : (s.capture e).done = i :: rest) (hn : (s.capture e).next = some slot) :
    s.capRelease e = (s.modCapture e fun x => { x with done := rest }).showCapture e := by
  simp [capRelease, hd, hn]

theorem capRelease_none (hd : (s.capture e).done = []) : s.capRelease e = s := by simp [capRelease, hd]

/-! ### A slot that closes (R408, R410) -/

theorem length_toBytes (n v : Nat) : (toBytes n v).length = n := by
  induction n with
  | zero => rfl
  | succ n ih => rw [toBytes, List.length_cons, ih]

theorem length_capHeader (e fmt flags spt : Nat) (trig : Tick) (tsrc pre post : Nat) (first : Tick) (ns strig cd fofs : Nat) :
    (capHeader e fmt flags spt trig tsrc pre post first ns strig cd fofs).length = 64 := by
  simp only [capHeader, List.length_append, length_toBytes, List.length_cons, List.length_nil]

/-- A header begins with its magic word. -/
theorem capHeader_first (e fmt flags spt : Nat) (trig : Tick) (tsrc pre post : Nat) (first : Tick) (ns strig cd fofs : Nat) :
    ∃ rest, capHeader e fmt flags spt trig tsrc pre post first ns strig cd fofs = 0x43 :: rest := by
  simp only [capHeader, toBytes, List.cons_append]
  exact ⟨_, rfl⟩

/-- The header of the slot that closes with so many samples. -/
def slotHeader (s : State) (e : Nat) (p : CapPost) (ns strig : Nat) : List Byte :=
  capHeader e (s.rd F.CAP_CFG_FMT e) (p.short.toNat + false.toNat * 2 + (p.los || s.rd F.LE_EQ_STAT_LOL_CNT e != p.lolAt).toNat * 4)
    (s.samplesPerTick e) p.trig p.src.code p.pre (s.now - p.at_) (s.tick - BitVec.ofNat 48 (s.now - p.at_ + p.pre)) ns strig p.cd p.fofs

/-- The bytes of the samples. -/
def sampleBytes (s : State) (e ns : Nat) : Nat := if s.rd F.CAP_CFG_FMT e == 1 then 132 * ((ns + 63) / 64) else 4 * ns

/-- A slot holds samples and, at its start, a header. -/
def storeSlot (s : State) (base size bytes : Nat) (header : List Byte) : State :=
  ((s.ancForget base size).ancTouch base (min bytes (size - 64))).ancWrite base header

/-- The slot just closed is DONE. -/
def slotDone (s : State) (e slot : Nat) : State :=
  s.modCapture e fun x => { x with done := x.done ++ [slot], next := none, post := none }

theorem closeSlot_posted {p : CapPost} {slot : Nat} {r : RegionRec} (hp : (s.capture e).post = some p)
    (hn : (s.capture e).next = some slot) (hr : s.captureRegion e = some r) (ns strig : Nat) :
    s.closeSlot e false ns strig =
      (((s.storeSlot (r.base + slot * slotSize r.size (s.capture e).slots) (slotSize r.size (s.capture e).slots) (s.sampleBytes e ns)
        (s.slotHeader e p ns strig)).slotDone e slot).nextSlot e ((slot + 1) % max 1 (s.capture e).slots)).raise
        F.MS_STICKY_CAP_DONE e := by
  unfold closeSlot
  simp only [hp, hn, hr]
  rfl

section
variable (s : State) (e slot base size bytes : Nat) (header : List Byte)

theorem storeSlot_keeps {β : Type} (view : State → β) (hf : ∀ (u : State) a n, view (u.ancForget a n) = view u)
    (ht : ∀ (u : State) a n, view (u.ancTouch a n) = view u) (hw : ∀ (u : State) a l, view (u.ancWrite a l) = view u) :
    view (s.storeSlot base size bytes header) = view s := (hw ..).trans ((ht ..).trans (hf ..))

@[simp] theorem regs_storeSlot : (s.storeSlot base size bytes header).regs = s.regs :=
  storeSlot_keeps _ _ _ _ _ State.regs (fun _ _ _ => rfl) (fun _ _ _ => rfl) fun _ _ _ => rfl
@[simp] theorem mem_storeSlot : (s.storeSlot base size bytes header).mem = s.mem :=
  storeSlot_keeps _ _ _ _ _ State.mem (fun _ _ _ => rfl) (fun _ _ _ => rfl) fun _ _ _ => rfl
@[simp] theorem image_storeSlot : (s.storeSlot base size bytes header).image = s.image :=
  storeSlot_keeps _ _ _ _ _ State.image (fun _ _ _ => rfl) (fun _ _ _ => rfl) fun _ _ _ => rfl
@[simp] theorem capture_storeSlot : (s.storeSlot base size bytes header).capture e = s.capture e :=
  storeSlot_keeps _ _ _ _ _ (fun u => u.capture e) (fun _ _ _ => rfl) (fun _ _ _ => rfl) fun _ _ _ => rfl
@[simp] theorem anc_storeSlot : (s.storeSlot base size bytes header).anc = Mem.keep (s.ancForget base size).anc base header := (rfl)
@[simp] theorem regs_slotDone : (s.slotDone e slot).regs = s.regs := (rfl)
@[simp] theorem mem_slotDone : (s.slotDone e slot).mem = s.mem := (rfl)
@[simp] theorem anc_slotDone : (s.slotDone e slot).anc = s.anc := (rfl)
@[simp] theorem image_slotDone : (s.slotDone e slot).image = s.image := (rfl)
@[simp] theorem capture_slotDone : (s.slotDone e slot).capture e =
    { s.capture e with done := (s.capture e).done ++ [slot], next := none, post := none } := capture_modCapture_same ..

end

theorem find_storeSlot_other {base size bytes a : Nat} {header : List Byte} (hl : header.length = 64) (h : a < base ∨ base + max 64 size ≤ a)
    (s : State) : Mem.find (s.storeSlot base size bytes header).anc a = Mem.find s.anc a := by
  rw [anc_storeSlot, Mem.find_keep_other _ (by omega), find_ancForget, if_neg (by omega)]

theorem find_storeSlot_first {base size bytes : Nat} {header : List Byte} (hl : 0 < header.length) (s : State) :
    Mem.find (s.storeSlot base size bytes header).anc base = some header[0] := Mem.find_keep _ base hl

/-- The slots of a region lie apart. -/
theorem slots_apart {i j : Nat} (h : j ≠ i) (base : Nat) {size : Nat} (hs : 0 < size) :
    base + i * size < base + j * size ∨ base + j * size + size ≤ base + i * size := by
  rcases Nat.lt_or_gt_of_ne h with h | h
  · have := Nat.mul_le_mul_right size h
    rw [Nat.succ_mul] at this
    omega
  · have := Nat.mul_lt_mul_of_pos_right h hs
    omega

/-- An empty slot does not take what lies at its start. -/
theorem find_nextSlot_start {i slot : Nat} {r : RegionRec} (hr : s.captureRegion e = some r)
    (free : ∀ j, (s.slotFrom e i).1 = some j → j ≠ slot) :
    Mem.find (s.nextSlot e i).anc (r.base + slot * slotSize r.size (s.capture e).slots) =
      Mem.find s.anc (r.base + slot * slotSize r.size (s.capture e).slots) := by
  refine find_nextSlot fun j r' hj hr' => ?_
  obtain rfl := Option.some.inj (hr.symm.trans hr')
  rcases Nat.eq_zero_or_pos (slotSize r.size (s.capture e).slots) with hz | hz
  · simp [hz]
  · exact slots_apart (free j hj) r.base hz

/-- At the end of the post-trigger time the slot is DONE with its header at its start; the engine goes on in a free slot, and no other
byte of the Anchorage changes. -/
theorem closeSlot_closes {p : CapPost} {slot : Nat} {r : RegionRec} (hp : (s.capture e).post = some p)
    (hn : (s.capture e).next = some slot) (hr : s.captureRegion e = some r) (ho : s.rd F.CAP_CFG_OVERWRITE e = 0) (ns strig : Nat) :
    let t := s.closeSlot e false ns strig
    (t.capture e).done = (s.capture e).done ++ [slot] ∧ (t.capture e).post = none ∧ t.on F.MS_STICKY_CAP_DONE e = true ∧
      Mem.find t.anc (r.base + slot * slotSize r.size (s.capture e).slots) = some 0x43 ∧
      (∀ a, a < r.base + slot * slotSize r.size (s.capture e).slots ∨
        r.base + slot * slotSize r.size (s.capture e).slots + max 64 (slotSize r.size (s.capture e).slots) ≤ a →
        (∀ j, (t.capture e).next = some j → a < r.base + j * slotSize r.size (s.capture e).slots ∨
          r.base + j * slotSize r.size (s.capture e).slots + slotSize r.size (s.capture e).slots ≤ a) →
        Mem.find t.anc a = Mem.find s.anc a) ∧
      t.mem = s.mem ∧ s.OnlyAt t e [.CAP_STAT, .MS_STICKY] := by
  have length : (s.slotHeader e p ns strig).length = 64 := length_capHeader ..
  set base := r.base + slot * slotSize r.size (s.capture e).slots with hb
  set size := slotSize r.size (s.capture e).slots with hz
  generalize hu : (s.storeSlot base size (s.sampleBytes e ns) (s.slotHeader e p ns strig)).slotDone e slot = u
  have cap : u.capture e = { s.capture e with done := (s.capture e).done ++ [slot], next := none, post := none } := by
    rw [← hu, capture_slotDone, capture_storeSlot]
  have anc : u.anc = (s.storeSlot base size (s.sampleBytes e ns) (s.slotHeader e p ns strig)).anc := by rw [← hu, anc_slotDone]
  have regs : u.regs = s.regs := by rw [← hu, regs_slotDone, regs_storeSlot]
  have mem : u.mem = s.mem := by rw [← hu, mem_slotDone, mem_storeSlot]
  have region : u.captureRegion e = some r := by
    rw [← hr, captureRegion, regionOf, ← hu, image_slotDone, image_storeSlot, captureRegion, regionOf]
  have keep : u.rd F.CAP_CFG_OVERWRITE e = 0 := (rd_congr regs ..).trans ho
  have slots : (u.capture e).slots = (s.capture e).slots := by rw [cap]
  obtain ⟨went, -, -, mem2, frame⟩ := u.nextSlot_goesOn e ((slot + 1) % max 1 (s.capture e).slots)
  obtain ⟨done, fresh⟩ := slotFrom_keeps keep ((slot + 1) % max 1 (s.capture e).slots)
  have capture (v : State) (f : Field) (i : Nat) : (v.raise f i).capture e = v.capture e := by simp [State.capture, raise_captures]
  dsimp only
  rw [closeSlot_posted hp hn hr, ← hb, ← hz, hu, capture, went, raise_anc, raise_mem]
  have whole := ((OnlyAt.congr (s.onlyAt_refl e [.CAP_STAT, .MS_STICKY]) regs).trans fun k i h =>
    frame k i (h.imp (fun out hm => out (by simp_all)) id)).raise F.MS_STICKY_CAP_DONE (by decide)
  refine ⟨?_, rfl, on_raise rfl rfl (by decide) (by decide) _ e, ?_, fun a ha hnext => ?_, mem2.trans mem, whole⟩
  · rw [done, cap]
  · have start := find_nextSlot_start region fun j hj (eq : j = slot) => fresh j hj (by rw [cap]; simp [eq])
    rw [slots, ← hz, ← hb] at start
    obtain ⟨rest, first⟩ : ∃ rest, s.slotHeader e p ns strig = 0x43 :: rest := capHeader_first ..
    rw [start, anc, find_storeSlot_first (by simp [length])]
    simp [first]
  · refine (find_nextSlot fun j r' hj hr' => ?_).trans (by rw [anc, find_storeSlot_other length ha])
    obtain rfl := Option.some.inj (region.symm.trans hr')
    rw [slots]
    exact hnext j hj

theorem captureClose_due {p : CapPost} (hp : (s.capture e).post = some p) (due : p.at_ + p.post ≤ s.now) (ns strig : Nat) :
    s.captureClose e ns strig = s.closeSlot e false ns strig := by
  rw [captureClose, hp]
  exact if_pos (elapsed_of_le due)

theorem captureClose_early {p : CapPost} (hp : (s.capture e).post = some p) (early : s.now < p.at_ + p.post) (ns strig : Nat) :
    s.captureClose e ns strig = s := by
  rw [captureClose, hp]
  exact if_neg (by simp [elapsed_of_lt early])

/-! ### The end of a transient (R403, R404) -/

/-- A transient that ends shows its length, its peak and its start, and is counted. -/
def showTransient (s : State) (e : Nat) (lost : Bool) (r : SopRun) : State :=
  ((((s.wrBool F.MS_SOP_LAST_LOL e lost).wr F.MS_SOP_LAST_DUR e (min 8191 (r.last - r.at_ + 1))).wr F.MS_SOP_LAST_PEAK e
    (min r.peak 262143)).wr F.MS_SOP_START_TICK e (r.start.toNat % 2 ^ 32)).incWrap F.MS_SOP_CNT_CNT e 1

/-- The engine waits for the next transient. -/
def endSop (s : State) (e : Nat) : State := s.modMeasure e fun x => { x with sop := none }

theorem sopEnds_over {r : SopRun} (hs : (s.measure e).sop = some r)
    (gone : s.rxState e ≠ 5 ∨ r.last + 1 + max 1 (s.cfg F.MS_SOP_CFG_HOLD e) ≤ s.now) :
    s.sopEnds e = ((s.endSop e).showTransient e (s.rxState e != 5) r).raise F.MS_STICKY_SOP_TRANSIENT e := by
  have ends : ¬((!(s.rxState e != 5) && !s.elapsed (r.last + 1) (max 1 (s.cfg F.MS_SOP_CFG_HOLD e))) = true) := by
    rcases gone with h | h
    · simp [h]
    · simp [elapsed_of_le h]
  rw [sopEnds, hs]
  exact if_neg ends

theorem sopEnds_early {r : SopRun} (hs : (s.measure e).sop = some r) (locked : s.rxState e = 5)
    (early : s.now < r.last + 1 + max 1 (s.cfg F.MS_SOP_CFG_HOLD e)) : s.sopEnds e = s := by
  rw [sopEnds, hs]
  exact if_pos (by simp [locked, elapsed_of_lt early])

theorem sopEnds_none (hs : (s.measure e).sop = none) : s.sopEnds e = s := by rw [sopEnds, hs]

theorem showTransient_shows (s : State) (e : Nat) (lost : Bool) (r : SopRun) :
    (s.showTransient e lost r).on F.MS_SOP_LAST_LOL e = lost ∧
    (s.showTransient e lost r).rd F.MS_SOP_LAST_DUR e = min 8191 (r.last - r.at_ + 1) ∧
    (s.showTransient e lost r).rd F.MS_SOP_LAST_PEAK e = min r.peak 262143 ∧
    (s.showTransient e lost r).rd F.MS_SOP_CNT_CNT e = (s.rd F.MS_SOP_CNT_CNT e + 1) % 2 ^ F.MS_SOP_CNT_CNT.width ∧
    s.OnlyCopy (s.showTransient e lost r) e [.MS_SOP_LAST, .MS_SOP_START, .MS_SOP_CNT, .MS_STICKY] := by
  refine ⟨?_, ?_, ?_, ?_, ?_⟩
  · rw [on, showTransient, incWrap, rd_wr_apart rfl, rd_wr_apart rfl, rd_wr_apart rfl, rd_wr_apart rfl, ← on]
    exact on_wr rfl rfl s e lost
  · rw [showTransient, incWrap, rd_wr_apart rfl, rd_wr_apart rfl, rd_wr_apart rfl]
    exact rd_wr_fits rfl (lt_of_le_of_lt (min_le_left ..) (by decide)) _ e
  · rw [showTransient, incWrap, rd_wr_apart rfl, rd_wr_apart rfl]
    exact rd_wr_fits rfl (lt_of_le_of_lt (min_le_right ..) (by decide)) _ e
  · rw [showTransient, incWrap, rd_wr rfl, rd_wr_apart rfl, rd_wr_apart rfl, rd_wr_apart rfl, wrBool, rd_wr_apart rfl]
  · exact (((((OnlyCopy.refl s e _).wrBool F.MS_SOP_LAST_LOL (by decide) lost).wr F.MS_SOP_LAST_DUR (by decide) _).wr F.MS_SOP_LAST_PEAK
      (by decide) _).wr F.MS_SOP_START_TICK (by decide) _).wr F.MS_SOP_CNT_CNT (by decide) _

/-- A transient ends with its record and its event. -/
theorem transient_ends (lost : Bool) (r : SopRun) :
    let t := ((s.endSop e).showTransient e lost r).raise F.MS_STICKY_SOP_TRANSIENT e
    (t.measure e).sop = none ∧ t.on F.MS_SOP_LAST_LOL e = lost ∧ t.rd F.MS_SOP_LAST_DUR e = min 8191 (r.last - r.at_ + 1) ∧
      t.rd F.MS_SOP_LAST_PEAK e = min r.peak 262143 ∧
      t.rd F.MS_SOP_CNT_CNT e = (s.rd F.MS_SOP_CNT_CNT e + 1) % 2 ^ F.MS_SOP_CNT_CNT.width ∧
      t.on F.MS_STICKY_SOP_TRANSIENT e = true ∧ s.OnlyCopy t e [.MS_SOP_LAST, .MS_SOP_START, .MS_SOP_CNT, .MS_STICKY] := by
  obtain ⟨lol, dur, peak, count, frame⟩ := (s.endSop e).showTransient_shows e lost r
  have ended : s.OnlyCopy (s.endSop e) e [.MS_SOP_LAST, .MS_SOP_START, .MS_SOP_CNT, .MS_STICKY] := (OnlyCopy.refl s e _).plain rfl
  have measure (v : State) (f : Field) (i : Nat) : (v.raise f i).measure e = v.measure e := by simp [State.measure, raise_measures]
  have shown : ((s.endSop e).showTransient e lost r).measure e = (s.endSop e).measure e := rfl
  dsimp only
  refine ⟨?_, ?_, ?_, ?_, ?_, on_raise rfl rfl (by decide) (by decide) _ e,
    (ended.trans frame).raise F.MS_STICKY_SOP_TRANSIENT (by decide)⟩
  · rw [measure, shown, endSop, modMeasure, measure_setMeasure, if_pos rfl]
  · rw [on, rd_raise_apart rfl (by decide) (by decide), ← on, lol]
  · rw [rd_raise_apart rfl (by decide) (by decide), dur]
  · rw [rd_raise_apart rfl (by decide) (by decide), peak]
  · rw [rd_raise_apart rfl (by decide) (by decide), count]
    rfl

/-! ### Commands at the engine selected -/

@[simp] theorem capture_reply (s : State) (m : Initiator) (a : Answer) (k : Nat) : (s.reply m a).capture k = s.capture k := (rfl)

theorem atMeasured_selected {m : Initiator} (h : e = s.engineSel m) (he : s.engineExists e = true) (addr : Nat) (f : State → Nat → State) :
    s.atMeasured m addr f = (f s e).reply m (.ok 0) := by
  subst h
  exact atEngine_exists he ..

end State

/-- Settles O35. The captures of one engine, CAP_STAT and the slot it goes on in are all that a command or the end of a capture changes. -/
theorem capturesArmTriggerAndClose : Obligations.CapturesArmTriggerAndClose := by
  unfold Obligations.CapturesArmTriggerAndClose
  refine ⟨fun m e s he exist => ?_, fun e s => ⟨fun slot en due armed quiet next => ?_, fun off => ?_,
    fun ns first p slot r post next region keep => ?_, fun r run => ?_, fun none => congrArg Host.Outcome.next (State.sopEnds_none none)⟩⟩
  · have at_ (f : State → Nat → State) : s.atMeasured m 0x24000A48 f = (f s e).reply m (.ok 0) := State.atMeasured_selected he exist ..
    refine ⟨fun armed => ?_, fun off none => ?_, fun r slots off fresh region hs need load => ?_, ?_, ?_, fun i rest slot done next => ?_,
      fun done => ?_⟩
    · refine ⟨s.reply m (.ok 0), congrArg Host.Outcome.next ((at_ _).trans ?_), State.reply_captures .., State.answer_reply ..,
        State.reply_regs .., rfl, rfl, rfl, rfl⟩
      rw [State.capArm_armed armed]
    · refine ⟨(s.wr F.CAP_STAT_RESULT e 2).reply m (.ok 0), congrArg Host.Outcome.next ((at_ _).trans ?_), rfl, ?_, ?_, rfl, rfl, rfl, rfl⟩
      · rw [State.capArm_noRegion off none]
      · exact State.rd_wr_fits rfl (by decide) s e
      · exact ((s.onlyAt_refl e _).wr F.CAP_STAT_RESULT (by decide) 2).congr (State.reply_regs ..)
    · obtain ⟨armed, count, now, since, result, shown, others, kept, mem, frame⟩ :=
        State.armFor_nextSlot (hs.symm ▸ Nat.succ_pos _ : 0 < slots) fresh region (s.rd F.CAP_STAT_NEXT e)
      refine ⟨_, congrArg Host.Outcome.next ((at_ _).trans (congrArg (State.reply · m (.ok 0)) (State.capArm_arms off region hs need load))),
        ?_, ?_, ?_, ?_, ?_, ?_, fun i hi => ?_, fun a ha => ?_, ?_, frame.congr (State.reply_regs ..)⟩
      · rw [State.capture_reply, armed]
      · rw [State.capture_reply, count]
      · rw [State.capture_reply, now]
      · rw [State.capture_reply, since]
      · rw [State.rd_reply, result]
      · rw [State.on, State.rd_reply, ← State.on, shown]
      · rw [State.capture_reply, others i hi]
      · rw [State.reply_anc, kept a ha]
      · rw [State.reply_mem, mem]
    · exact ⟨(s.later (.capDisarm e)).reply m (.ok 0), congrArg Host.Outcome.next (at_ _), State.reply_atBoundary .., State.reply_captures ..,
        State.answer_reply .., State.reply_regs .., rfl, rfl, rfl, rfl⟩
    · refine ⟨(s.modCapture e fun x => { x with soft := x.armed }).reply m (.ok 0), congrArg Host.Outcome.next (at_ _), ?_, ?_,
        State.reply_regs .., rfl, rfl, rfl, rfl⟩
      · rw [State.capture_reply, State.capture_modCapture_same]
      · rw [State.capture_reply, State.capture_modCapture_same]
    · have frame := ((State.OnlyCopy.refl s e [.CAP_STAT]).modCapture e fun x => { x with done := rest }).showCapture (by decide)
      refine ⟨_, congrArg Host.Outcome.next ((at_ _).trans (congrArg (State.reply · m (.ok 0)) (State.capRelease_oldest done next))),
        ?_, ?_, ?_, frame.regs.congr (State.reply_regs ..), frame.memory⟩
      · rw [State.capture_reply, State.capture_showCapture, State.capture_modCapture_same]
      · rw [State.capture_reply, State.capture_showCapture, State.capture_modCapture_same, next]
      · rw [State.rd_reply, (State.showCapture_shows ..).2.2, State.capture_modCapture_same]
    · refine ⟨s.reply m (.ok 0), congrArg Host.Outcome.next ((at_ _).trans ?_), State.reply_captures .., State.reply_regs .., rfl, rfl, rfl, rfl⟩
      rw [State.capRelease_none done]
  · have frame := ((State.OnlyCopy.refl s e.val [.CAP_STAT]).modCapture e.val fun x => { x with post := some (s.schedulePost e.val) }).showCapture
      (by decide)
    refine ⟨_, s.schedulePost e.val, congrArg Host.Outcome.next ((State.capSchedule_due en due).trans (State.capTrigger_opens armed quiet next)),
      ?_, rfl, rfl, rfl, rfl, rfl, ?_, frame.regs, frame.memory⟩
    · rw [State.capture_showCapture, State.capture_modCapture_same]
    · rw [(State.showCapture_shows ..).2.1, State.capture_modCapture_same]
      rfl
  · exact congrArg Host.Outcome.next (if_neg (by simp [off]))
  · refine ⟨fun due => ⟨_, congrArg Host.Outcome.next (State.captureClose_due post due ns first),
        State.closeSlot_closes post next region keep ns first⟩,
      fun early => congrArg Host.Outcome.next (State.captureClose_early post early ns first)⟩
  · refine ⟨fun gone => ?_, fun locked early => congrArg Host.Outcome.next (State.sopEnds_early run locked early)⟩
    obtain ⟨none, lol, dur, peak, count, event, frame⟩ := State.transient_ends (s := s) (e := e.val) (s.rxState e.val != 5) r
    refine ⟨_, congrArg Host.Outcome.next (State.sopEnds_over run gone), none, ?_, dur, peak, count, event, frame.regs, frame.memory⟩
    rw [lol]
    by_cases h : s.rxState e.val = 5
    · simp [h]
    · simp [h]

end Sys2Proof.Machine
end

section
/-! Mate pairs: the two paths, beats, presence, the grant line and the frames of the mate link (O47). -/

namespace Sys2Proof.Machine

namespace State

variable {s t : State} {rs : List Reg}

/-! ### What MT_STAT shows of the paths (R436) -/

/-- When something that is down went down. -/
def downSince (now : Nat) (down : Bool) (was : Option Nat) : Option Nat := if down then some (was.getD now) else none

/-- The two paths as MT_STAT shows them. -/
def showPaths (s : State) : State :=
  (s.wrBool F.MT_STAT_LINK 0 (s.mate.linkUp && s.mate.farLink)).wrBool F.MT_STAT_BOL 0 (s.mate.bolUp && s.mate.farBol)

/-- Presence and the effective grant. -/
def showSignals (s : State) : State := (s.wrBool F.MT_STAT_PRES 0 s.presAlive).wrBool F.MT_STAT_GRANT 0 s.granted

/-- How long the link, and both paths, have been down. -/
def noteDown (s : State) : State :=
  s.modMate fun x => { x with linkDownAt := downSince s.now (!x.linkUp) x.linkDownAt,
                              pathsDownAt := downSince s.now (!x.pathUp .link && !x.pathUp .bollard) x.pathsDownAt }

theorem showMate_eq (s : State) : s.showMate = s.showPaths.showSignals.noteDown := rfl

theorem rd_noteDown (s : State) (f : Field) (i : Nat) : s.noteDown.rd f i = s.rd f i := rfl

theorem mate_noteDown (s : State) : ∃ a b, s.noteDown.mate = { s.mate with linkDownAt := a, pathsDownAt := b } := ⟨_, _, rfl⟩

theorem rd_showSignals {f : Field} (hp : F.MT_STAT_PRES.apart f = true) (hg : F.MT_STAT_GRANT.apart f = true) (s : State) (i : Nat) :
    s.showSignals.rd f i = s.rd f i := by
  rw [showSignals, wrBool, rd_wr_apart hg, wrBool, rd_wr_apart hp]

theorem presAlive_congr (hm : t.mate.presAt = s.mate.presAt) (hn : t.now = s.now) : t.presAlive = s.presAlive := by
  rw [presAlive, presAlive, hm, hn]

theorem presAlive_showPaths (s : State) : s.showPaths.presAlive = s.presAlive :=
  presAlive_congr (by simp only [showPaths, wrBool_mate]) (by simp only [showPaths, wrBool_now])

theorem mate_shown (s : State) : s.showPaths.showSignals.mate = s.mate := by
  simp only [showSignals, showPaths, wrBool_mate]

/-- The mate agent beside the two times is as it was. -/
theorem mate_showMate (s : State) : ∃ a b, s.showMate.mate = { s.mate with linkDownAt := a, pathsDownAt := b } := by
  rw [showMate_eq, ← mate_shown s]
  exact mate_noteDown _

/-- The other fields of MT_STAT stay. -/
theorem rd_showMate {f : Field} (hl : F.MT_STAT_LINK.apart f = true) (hb : F.MT_STAT_BOL.apart f = true) (hp : F.MT_STAT_PRES.apart f = true)
    (hg : F.MT_STAT_GRANT.apart f = true) (s : State) (i : Nat) : s.showMate.rd f i = s.rd f i := by
  rw [showMate_eq, rd_noteDown, rd_showSignals hp hg, showPaths, wrBool, rd_wr_apart hb, wrBool, rd_wr_apart hl]

theorem showMate_shows (s : State) :
    s.showMate.on F.MT_STAT_LINK 0 = (s.mate.linkUp && s.mate.farLink) ∧ s.showMate.on F.MT_STAT_BOL 0 = (s.mate.bolUp && s.mate.farBol) ∧
    s.showMate.on F.MT_STAT_PRES 0 = s.presAlive := by
  refine ⟨?_, ?_, ?_⟩
  · rw [on, showMate_eq, rd_noteDown, rd_showSignals rfl rfl, showPaths, wrBool, rd_wr_apart rfl, ← on]
    exact on_wr rfl rfl s 0 _
  · rw [on, showMate_eq, rd_noteDown, rd_showSignals rfl rfl, showPaths, ← on]
    exact on_wr rfl rfl _ 0 _
  · rw [on, showMate_eq, rd_noteDown, showSignals, wrBool, rd_wr_apart rfl, ← on, presAlive_showPaths]
    exact on_wr rfl rfl _ 0 _

theorem rd_modMate (s : State) (g : Mate → Mate) (f : Field) (i : Nat) : (s.modMate g).rd f i = s.rd f i := rfl

theorem on_modMate (s : State) (g : Mate → Mate) (f : Field) (i : Nat) : (s.modMate g).on f i = s.on f i := rfl

theorem mate_modMate (s : State) (g : Mate → Mate) : (s.modMate g).mate = g s.mate := rfl

theorem mateState_showMate (s : State) : s.showMate.mateState = s.mateState := rd_showMate rfl rfl rfl rfl s 0

theorem standby_eq (s : State) : s.standby = (s.mateState == 2 || s.mateState == 3) := rfl

theorem standby_congr (h : t.mateState = s.mateState) : t.standby = s.standby := by rw [standby_eq, standby_eq, h]

theorem OnlyCopy.modMate (h : s.OnlyCopy t 0 rs) (f : Mate → Mate) : s.OnlyCopy (t.modMate f) 0 rs := h.plain rfl

theorem OnlyCopy.showMate (h : s.OnlyCopy t 0 rs) (hr : Reg.MT_STAT ∈ rs) : s.OnlyCopy t.showMate 0 rs := by
  rw [showMate_eq]
  exact ((((h.wrBool F.MT_STAT_LINK hr _).wrBool F.MT_STAT_BOL hr _).wrBool F.MT_STAT_PRES hr _).wrBool F.MT_STAT_GRANT hr _).modMate _

/-! ### A new mate state (R427) -/

/-- A state is entered, with ACT_STATE. -/
def enterMateState (s : State) (n : Nat) : State :=
  ((s.wr F.MT_STAT_STATE 0 n).modMate fun x => { x with actState := n == 1 }).raise F.MT_STICKY_STATE_CHG 0

theorem setMateState_eq (s : State) (n : Nat) : s.setMateState n = if s.mateState == n then s else s.enterMateState n := rfl

theorem OnlyCopy.setMateState (h : s.OnlyCopy t 0 rs) (hr : Reg.MT_STAT ∈ rs) (hs : Reg.MT_STICKY ∈ rs) (n : Nat) :
    s.OnlyCopy (t.setMateState n) 0 rs := by
  rw [setMateState_eq]
  exact h.ite (((h.wr F.MT_STAT_STATE hr n).modMate _).raise F.MT_STICKY_STATE_CHG hs)

theorem mateState_setMateState {n : Nat} (hn : n < 8) (s : State) : (s.setMateState n).mateState = n := by
  rw [setMateState_eq]
  split
  · next h => exact beq_iff_eq.1 h
  · rw [enterMateState, mateState, rd_raise_apart rfl (by decide) (by decide), rd_modMate]
    exact rd_wr_fits rfl hn s 0

/-- The mate agent beside ACT_STATE is as it was. -/
theorem mate_setMateState (s : State) (n : Nat) : ∃ a, (s.setMateState n).mate = { s.mate with actState := a } := by
  rw [setMateState_eq]
  split
  · exact ⟨s.mate.actState, rfl⟩
  · exact ⟨n == 1, by rw [enterMateState, raise_mate]; rfl⟩

theorem rd_setMateState {f : Field} (h : F.MT_STAT_STATE.apart f = true) (hs : F.MT_STICKY_STATE_CHG.apart f = true)
    (h1 : f.reg ≠ .EV_STICKY) (h2 : f.reg ≠ .EV_SRC_CNT) (s : State) (n i : Nat) : (s.setMateState n).rd f i = s.rd f i := by
  rw [setMateState_eq]
  split
  · rfl
  · rw [enterMateState, rd_raise_apart hs h1 h2, rd_modMate, rd_wr_apart h]

/-! ### Paths that come up and go down (R419, R421, R443) -/

theorem isolatedReturn_frame (h : s.OnlyCopy t 0 rs) (hr : Reg.MT_STAT ∈ rs) (hs : Reg.MT_STICKY ∈ rs) :
    s.OnlyCopy t.isolatedReturn 0 rs := by
  unfold isolatedReturn
  exact ((h.setMateState hr hs _).modMate _).ite h

/-- The return from ISOLATED changes neither path. -/
theorem isolatedReturn_paths (s : State) : s.isolatedReturn.mate.linkUp = s.mate.linkUp ∧ s.isolatedReturn.mate.bolUp = s.mate.bolUp := by
  unfold isolatedReturn
  split
  · obtain ⟨a, ha⟩ := s.mate_setMateState (if s.mate.wasJoining then 3 else 2)
    have mate (u : State) (f : Mate → Mate) : (u.modMate f).mate = f u.mate := rfl
    rw [mate, ha]
    exact ⟨rfl, rfl⟩
  · exact ⟨rfl, rfl⟩

theorem degraded_frame (h : s.OnlyCopy t 0 rs) (hs : Reg.MT_STICKY ∈ rs) : s.OnlyCopy t.degraded 0 rs :=
  h.raiseIf _ F.MT_STICKY_PATH_DEGRADED hs

theorem degraded_keeps (s : State) : s.degraded.mate = s.mate ∧ s.degraded.now = s.now ∧
    ∀ f : Field, f.reg ∈ [Reg.MT_STAT, .MT_CFG] → s.degraded.rd f 0 = s.rd f 0 := by
  refine ⟨raiseIf_mate .., raiseIf_now .., fun f hf => ?_⟩
  simp only [List.mem_cons, List.not_mem_nil, or_false] at hf
  rcases hf with e | e
  · exact rd_raiseIf_apart (by simp +decide [Field.apart, e]) (by simp [e]) (by simp [e]) ..
  · exact rd_raiseIf_apart (by simp +decide [Field.apart, e]) (by simp [e]) (by simp [e]) ..

theorem mateState_degraded (s : State) : s.degraded.mateState = s.mateState := s.degraded_keeps.2.2 _ (by decide)

/-- The paths, takeover and grant of the agent are as they were. -/
theorem showMate_keeps {β : Type} (view : Mate → β) (h : ∀ (x : Mate) a b, view { x with linkDownAt := a, pathsDownAt := b } = view x)
    (s : State) : view s.showMate.mate = view s.mate := by
  obtain ⟨a, b, same⟩ := s.mate_showMate
  rw [same, h]

/-- A path has come up. -/
theorem pathComes (s : State) (f : Mate → Mate) : let t := ((s.modMate f).isolatedReturn).showMate
    t.mate.linkUp = (f s.mate).linkUp ∧ t.mate.bolUp = (f s.mate).bolUp ∧ s.OnlyCopy t 0 [.MT_STAT, .MT_STICKY] := by
  obtain ⟨link, bollard⟩ := (s.modMate f).isolatedReturn_paths
  refine ⟨?_, ?_, (isolatedReturn_frame ((OnlyCopy.refl s 0 _).modMate f) (by decide) (by decide)).showMate (by decide)⟩
  · exact (showMate_keeps Mate.linkUp (fun _ _ _ => rfl) _).trans link
  · exact (showMate_keeps Mate.bolUp (fun _ _ _ => rfl) _).trans bollard

/-- A path has gone down. -/
theorem pathGoes (s : State) (f : Mate → Mate) : let t := ((s.modMate f).degraded).showMate
    t.mate.linkUp = (f s.mate).linkUp ∧ t.mate.bolUp = (f s.mate).bolUp ∧ t.mateState = s.mateState ∧
      t.on F.MT_STAT_LINK 0 = ((f s.mate).linkUp && (f s.mate).farLink) ∧
      t.on F.MT_STAT_BOL 0 = ((f s.mate).bolUp && (f s.mate).farBol) ∧ s.OnlyCopy t 0 [.MT_STAT, .MT_STICKY] := by
  obtain ⟨mate, -, -⟩ := (s.modMate f).degraded_keeps
  obtain ⟨link, bollard, -⟩ := (s.modMate f).degraded.showMate_shows
  have same : (s.modMate f).degraded.mate = f s.mate := mate
  rw [same] at link bollard
  refine ⟨?_, ?_, ?_, link, bollard, (degraded_frame ((OnlyCopy.refl s 0 _).modMate f) (by decide)).showMate (by decide)⟩
  · exact (showMate_keeps Mate.linkUp (fun _ _ _ => rfl) _).trans (congrArg Mate.linkUp same)
  · exact (showMate_keeps Mate.bolUp (fun _ _ _ => rfl) _).trans (congrArg Mate.bolUp same)
  · rw [mateState_showMate, mateState_degraded]
    rfl

/-! ### What the mate agent acts on and leaves alone -/

end State

/-- Registers in force, start-up, fuses and clock. -/
structure Around where
  act : Table Word
  boot : Boot
  fuses : Fuses
  tick : Tick
  now : Nat

namespace State

variable {s t : State} {rs : List Reg}

/-- The parts of a state that the mate agent acts on and leaves alone. -/
def around (s : State) : Around := ⟨s.act, s.boot, s.fuses, s.tick, s.now⟩

@[simp] theorem around_wr (s : State) (f : Field) (i v : Nat) : (s.wr f i v).around = s.around := (rfl)
@[simp] theorem around_wrBool (s : State) (f : Field) (i : Nat) (b : Bool) : (s.wrBool f i b).around = s.around := (rfl)
@[simp] theorem around_modMate (s : State) (f : Mate → Mate) : (s.modMate f).around = s.around := (rfl)
@[simp] theorem around_noteDown (s : State) : s.noteDown.around = s.around := (rfl)
@[simp] theorem around_count (s : State) (c : Ctr) (n : Nat) : (s.count c n).around = s.around := (rfl)

@[simp] theorem around_raise (s : State) (f : Field) (i : Nat) : (s.raise f i).around = s.around := by
  simp only [around, raise_act, raise_boot, raise_fuses, raise_tick, raise_now]

@[simp] theorem around_showMate (s : State) : s.showMate.around = s.around := by
  simp only [showMate_eq, around_noteDown, showSignals, showPaths, around_wrBool]

theorem mateBoot_congr (h : t.around = s.around) (hd : t.rd F.SY_STATE_STATE 0 = s.rd F.SY_STATE_STATE 0) : t.mateBoot = s.mateBoot := by
  have boot : t.boot = s.boot := congrArg Around.boot h
  simp only [mateBoot, devState, hd, boot]

theorem darkTime_congr (h : t.around = s.around) (hv : t.rd F.SY_ID_VARIANT 0 = s.rd F.SY_ID_VARIANT 0) : t.darkTime = s.darkTime := by
  have act : t.act = s.act := congrArg Around.act h
  simp only [darkTime, engineExists, halfDevice, hv, cfgOn, cfg, act]

theorem yields_congr (h : t.around = s.around) (ha : t.rd F.MT_CFG_ARB 0 = s.rd F.MT_CFG_ARB 0) (hg : t.mate.grant = s.mate.grant)
    (b : MateBeat) : t.yields b = s.yields b := by
  have fuses : t.fuses = s.fuses := congrArg Around.fuses h
  rw [yields, yields, on, on, ha, hg, fuses]

/-! ### A good beat (R422, R423) -/

end State

/-- The mate agent has heard a beat on a path. -/
def Mate.hears (x : Mate) (p : MatePath) (b : MateBeat) : Mate :=
  { x.setSight p { heard := some b.tick, intact := (x.sight p).intact + 1 } with farLink := b.linkUp, farBol := b.bolUp }

namespace State

variable {s t : State} {rs : List Reg}

/-- The state of the mate as the beat shows it. -/
def shows (s : State) (p : MatePath) (b : MateBeat) : State :=
  ((s.modMate (·.hears p b)).wr F.MT_STAT_MSTATE 0 b.state).wrBool F.MT_STAT_M_IN_STEP 0 b.inStep

theorem around_shows (s : State) (p : MatePath) (b : MateBeat) : (s.shows p b).showMate.around = s.around := by
  rw [around_showMate, shows, around_wrBool, around_wr, around_modMate]

theorem beatReceive_good {p : MatePath} {b : MateBeat} (he : s.mateEnabled = true) (hs : s.mateState ≠ 0) (hb : s.mateBoot = false)
    (ht : b.tick.toNat % 8 = 0) (ha : ahead s.tick b.tick ≤ 2) :
    s.beatReceive p b true = (s.shows p b).showMate.actOnBeat b (ahead s.tick b.tick) := by
  have tick : (s.shows p b).showMate.tick = s.tick := congrArg Around.tick (s.around_shows p b)
  have boot : (s.shows p b).showMate.mateBoot = false := by
    rw [← hb]
    refine mateBoot_congr (s.around_shows p b) ?_
    rw [rd_showMate rfl rfl rfl rfl, shows, wrBool, rd_wr_apart rfl, rd_wr_apart rfl, rd_modMate]
  have good : s.beatGood b true = true := by simp [beatGood, hb, ht, ha]
  have first : (!s.mateEnabled || (s.mateState == 0 && !s.mateBoot)) = false := by simp [he, hs]
  unfold beatReceive
  rw [if_neg (by simp [first]), if_neg (by simp [good])]
  refine (if_neg ?_).trans ?_
  · exact Bool.eq_false_iff.1 boot
  · rw [← tick]
    rfl

theorem setSight_same (x : Mate) (p : MatePath) (v : PathSight) : (x.setSight p v).sight p = v := by cases p <;> rfl

theorem setSight_other {p q : MatePath} (h : p ≠ q) (x : Mate) (v : PathSight) : (x.setSight p v).sight q = x.sight q := by
  cases p <;> cases q
  · exact absurd rfl h
  · rfl
  · rfl
  · exact absurd rfl h

/-- What a good beat leaves before it is acted on. -/
structure Heard (s : State) (p : MatePath) (b : MateBeat) (t : State) : Prop where
  frame : s.OnlyCopy t 0 [.MT_STAT]
  around : t.around = s.around
  sight : (t.mate.sight p).missed = 0 ∧ (t.mate.sight p).heard = some b.tick
  state : t.mateState = s.mateState
  shown : t.rd F.MT_STAT_MSTATE 0 = b.state
  inStep : t.on F.MT_STAT_M_IN_STEP 0 = b.inStep
  own : t.rd F.MT_STAT_IN_STEP 0 = s.rd F.MT_STAT_IN_STEP 0
  takeAt : t.mate.takeAt = s.mate.takeAt
  grant : t.mate.grant = s.mate.grant

theorem shows_heard {p : MatePath} {b : MateBeat} (hb : b.state < 8) : s.Heard p b (s.shows p b).showMate where
  frame := ((((OnlyCopy.refl s 0 [.MT_STAT]).modMate _).wr F.MT_STAT_MSTATE (by decide) _).wrBool F.MT_STAT_M_IN_STEP (by decide) _).showMate
    (by decide)
  around := s.around_shows p b
  sight := by
    have same : (s.shows p b).showMate.mate.sight p = (s.mate.hears p b).sight p :=
      showMate_keeps (Mate.sight · p) (fun _ _ _ => by cases p <;> rfl) _
    rw [same]
    cases p <;> exact ⟨rfl, rfl⟩
  state := by rw [mateState_showMate, shows, mateState, wrBool, rd_wr_apart rfl, rd_wr_apart rfl, rd_modMate]; rfl
  shown := by
    rw [rd_showMate rfl rfl rfl rfl, shows, wrBool, rd_wr_apart rfl]
    exact rd_wr_fits rfl hb _ 0
  inStep := by
    rw [on, rd_showMate rfl rfl rfl rfl, shows, ← on]
    exact on_wr rfl rfl _ 0 _
  own := by rw [rd_showMate rfl rfl rfl rfl, shows, wrBool, rd_wr_apart rfl, rd_wr_apart rfl, rd_modMate]
  takeAt := (showMate_keeps Mate.takeAt (fun _ _ _ => rfl) _).trans (by cases p <;> rfl)
  grant := (showMate_keeps Mate.grant (fun _ _ _ => rfl) _).trans (by cases p <;> rfl)

theorem isolatedReturn_other (h : s.rd F.MT_STAT_MSTATE 0 ≠ 1) : s.isolatedReturn = s := if_neg (by simp [h])

/-- A beat of a mate that is not ACTIVE is acted on by RELEASE alone. -/
theorem actOnBeat_other {b : MateBeat} (hb : b.state ≠ 1) (h : s.rd F.MT_STAT_MSTATE 0 ≠ 1) (n : Nat) :
    s.actOnBeat b n = if b.release then s.released n else s := by
  have shown : (if b.release then s.released n else s).rd F.MT_STAT_MSTATE 0 ≠ 1 := by
    split
    · unfold released
      split
      · exact h
      · exact h
    · exact h
  simp only [actOnBeat, beq_false_of_ne hb, Bool.false_and, Bool.false_eq_true, if_false]
  exact isolatedReturn_other shown

theorem released_due (h : s.standby = true) (hi : s.on F.MT_STAT_IN_STEP 0 = true) (ht : s.mate.takeAt = none) (n : Nat) :
    s.released n = s.modMate fun x => { x with takeAt := some (s.now - n + (10 * s.darkTime + 31) / 32), quiet := false } :=
  if_pos (by simp [h, hi, ht])

/-- Two ACTIVE devices hear each other; this one does not yield. -/
theorem actOnBeat_dual {b : MateBeat} (hb : b.state = 1) (hr : b.release = false) (hs : s.mateState = 1) (hy : s.yields b = false) (n : Nat) :
    s.actOnBeat b n = s.raise F.MT_STICKY_DUAL_ACTIVE 0 := by
  have still : (s.raise F.MT_STICKY_DUAL_ACTIVE 0).yields b = false :=
    (yields_congr (around_raise ..) (rd_raise_apart rfl (by decide) (by decide) ..) (congrArg Mate.grant (raise_mate ..)) b).trans hy
  simp only [actOnBeat, hb, hr, hs, standby_eq, beq_self_eq_true, Nat.reduceBEq, Bool.or_self, Bool.and_self, Bool.and_false,
    Bool.false_eq_true, if_false, if_true, still]

/-! ### A missed beat (R423, R440, R444, R445) -/

/-- The miss is noted and counted. -/
def noteMiss (s : State) (p : MatePath) (due : Tick) : State :=
  (s.modMate fun m => m.setSight p { s.mate.sight p with missed := (s.mate.sight p).missed + 1, missedAt := some due, intact := 0 }).count
    ⟨.mt, if p == .link then 3 else 4, 0⟩ 1

/-- What the loss of both paths does. -/
def mateLost (s : State) : State :=
  if s.mateState == 1 then (s.raise F.MT_STICKY_MATE_LOST 0).grantLost
  else if s.standby then (if s.presAlive then s.isolate else s.activeFailed)
  else s

theorem beatMiss_missed {p : MatePath} {due : Tick} (hs : s.mateState ≠ 0) (hb : s.mateBoot = false) (ht : 2 ≤ s.tick.toNat % 8)
    (hd : due = s.tick - BitVec.ofNat 48 (s.tick.toNat % 8)) (hh : (s.mate.sight p).heard ≠ some due)
    (hm : (s.mate.sight p).missedAt ≠ some due) :
    let u := if (s.mate.sight p).missed + 1 == 4 then (s.noteMiss p due).degraded else s.noteMiss p due
    s.beatMiss p = (if u.mate.bothMissed && !s.mate.bothMissed then u.mateLost else u).showMate := by
  subst hd
  refine (if_neg ?_).trans ?_
  · simp only [hb, Bool.or_eq_true, beq_iff_eq, decide_eq_true_eq, hs, hh, hm]
    simp; omega
  · rfl

@[simp] theorem mate_noteMiss (s : State) (p : MatePath) (due : Tick) : (s.noteMiss p due).mate = s.mate.setSight p
    { s.mate.sight p with missed := (s.mate.sight p).missed + 1, missedAt := some due, intact := 0 } := (rfl)
@[simp] theorem rd_noteMiss (s : State) (p : MatePath) (due : Tick) (f : Field) (i : Nat) : (s.noteMiss p due).rd f i = s.rd f i := (rfl)
@[simp] theorem now_noteMiss (s : State) (p : MatePath) (due : Tick) : (s.noteMiss p due).now = s.now := (rfl)

theorem noteMiss_frame (s : State) (p : MatePath) (due : Tick) (rs : List Reg) : s.OnlyCopy (s.noteMiss p due) 0 rs :=
  ((OnlyCopy.refl s 0 rs).modMate _).count _ _

theorem ctr_wrBool (s : State) (f : Field) (i : Nat) (b : Bool) (c : Ctr) : (s.wrBool f i b).ctr c = s.ctr c := rfl

theorem ctr_noteDown (s : State) (c : Ctr) : s.noteDown.ctr c = s.ctr c := rfl

theorem ctr_showMate (s : State) (c : Ctr) : s.showMate.ctr c = s.ctr c := by
  simp only [showMate_eq, showSignals, showPaths, ctr_noteDown, ctr_wrBool]

theorem bothMissed_fewer {x : Mate} {p : MatePath} (h : (x.sight p).missed < 4) : x.bothMissed = false := by
  unfold Mate.bothMissed
  cases p with
  | link => rw [decide_eq_false (p := 4 ≤ x.link.missed) (Nat.not_le.2 h), Bool.false_and]
  | bollard => rw [decide_eq_false (p := 4 ≤ x.bollard.missed) (Nat.not_le.2 h), Bool.and_false]

theorem bothMissed_four {x : Mate} {p q : MatePath} (hne : p ≠ q) (hp : 4 ≤ (x.sight p).missed) (hq : 4 ≤ (x.sight q).missed) :
    x.bothMissed = true := by
  have both : 4 ≤ x.link.missed ∧ 4 ≤ x.bollard.missed := by
    cases p <;> cases q
    · exact absurd rfl hne
    · exact ⟨hp, hq⟩
    · exact ⟨hq, hp⟩
    · exact absurd rfl hne
  rw [Mate.bothMissed, decide_eq_true both.1, decide_eq_true both.2, Bool.and_self]

/-- A beat is missed, fewer than four in a row. -/
theorem beatMiss_fewer {p : MatePath} {due : Tick} (hs : s.mateState ≠ 0) (hb : s.mateBoot = false) (ht : 2 ≤ s.tick.toNat % 8)
    (hd : due = s.tick - BitVec.ofNat 48 (s.tick.toNat % 8)) (hh : (s.mate.sight p).heard ≠ some due)
    (hm : (s.mate.sight p).missedAt ≠ some due) (few : (s.mate.sight p).missed < 3) : s.beatMiss p = (s.noteMiss p due).showMate := by
  have notFour : ¬(((s.mate.sight p).missed + 1 == 4) = true) := by simp; omega
  have notBoth : (s.noteMiss p due).mate.bothMissed = false :=
    bothMissed_fewer (p := p) (by rw [mate_noteMiss, setSight_same]; exact Nat.succ_lt_succ few)
  rw [beatMiss_missed hs hb ht hd hh hm]
  simp only [if_neg notFour, notBoth, Bool.false_and, Bool.false_eq_true, if_false]

/-- The fourth beat in a row is missed on the second path. -/
theorem beatMiss_both {p q : MatePath} {due : Tick} (hs : s.mateState ≠ 0) (hb : s.mateBoot = false) (ht : 2 ≤ s.tick.toNat % 8)
    (hd : due = s.tick - BitVec.ofNat 48 (s.tick.toNat % 8)) (hh : (s.mate.sight p).heard ≠ some due)
    (hm : (s.mate.sight p).missedAt ≠ some due) (hne : p ≠ q) (third : (s.mate.sight p).missed = 3) (gone : 4 ≤ (s.mate.sight q).missed) :
    s.beatMiss p = (s.noteMiss p due).degraded.mateLost.showMate := by
  have four : ((s.mate.sight p).missed + 1 == 4) = true := by simp [third]
  have both : (s.noteMiss p due).degraded.mate.bothMissed = true := by
    rw [(degraded_keeps _).1, mate_noteMiss]
    refine bothMissed_four hne ?_ ?_
    · rw [setSight_same]
      exact Nat.succ_le_succ (Nat.le_of_eq third.symm)
    · rw [setSight_other hne]
      exact gone
  have before : s.mate.bothMissed = false := bothMissed_fewer (p := p) (by omega)
  rw [beatMiss_missed hs hb ht hd hh hm]
  simp only [if_pos four, both, before, Bool.not_false, Bool.and_self, if_true]

/-- What the loss of both paths begins with. -/
structure Misses (s t : State) : Prop where
  frame : s.OnlyCopy t 0 [.MT_STAT, .MT_STICKY]
  state : t.mateState = s.mateState
  inStep : t.on F.MT_STAT_IN_STEP 0 = s.on F.MT_STAT_IN_STEP 0
  arb : t.on F.MT_CFG_ARB 0 = s.on F.MT_CFG_ARB 0
  alive : t.presAlive = s.presAlive
  now : t.now = s.now

theorem noteMiss_misses (s : State) (p : MatePath) (due : Tick) : s.Misses (s.noteMiss p due).degraded where
  frame := degraded_frame (s.noteMiss_frame p due _) (by decide)
  state := mateState_degraded _
  inStep := by rw [on, (degraded_keeps _).2.2 _ (by decide), rd_noteMiss, ← on]
  arb := by rw [on, (degraded_keeps _).2.2 _ (by decide), rd_noteMiss, ← on]
  alive := presAlive_congr (by rw [(degraded_keeps _).1, mate_noteMiss]; cases p <;> rfl) ((degraded_keeps _).2.1.trans (now_noteMiss ..))
  now := (degraded_keeps _).2.1

theorem on_showMate_sticky {f : Field} (hf : f.reg = .MT_STICKY) (s : State) : s.showMate.on f 0 = s.on f 0 := by
  rw [on, rd_showMate (by simp +decide [Field.apart, hf]) (by simp +decide [Field.apart, hf]) (by simp +decide [Field.apart, hf])
    (by simp +decide [Field.apart, hf]), ← on]

/-- An ACTIVE device without an arbiter stays ACTIVE. -/
theorem mateLost_active (h : s.Misses t) (hs : s.mateState = 1) (ha : s.on F.MT_CFG_ARB 0 = false) :
    t.mateLost.showMate.mateState = 1 ∧ t.mateLost.showMate.on F.MT_STICKY_MATE_LOST 0 = true ∧
      s.OnlyCopy t.mateLost.showMate 0 [.MT_STAT, .MT_STICKY] := by
  have arb : (t.raise F.MT_STICKY_MATE_LOST 0).on F.MT_CFG_ARB 0 = false := by
    rw [on, rd_raise_apart rfl (by decide) (by decide), ← on, h.arb, ha]
  have lost : t.mateLost = t.raise F.MT_STICKY_MATE_LOST 0 := by
    rw [mateLost, h.state, hs]
    exact (if_pos rfl).trans (if_neg (by simp [arb]))
  rw [lost]
  refine ⟨?_, ?_, (h.frame.raise F.MT_STICKY_MATE_LOST (by decide)).showMate (by decide)⟩
  · rw [mateState_showMate, mateState, rd_raise_apart rfl (by decide) (by decide)]
    exact h.state.trans hs
  · rw [on_showMate_sticky rfl]
    exact on_raise (f := F.MT_STICKY_MATE_LOST) rfl rfl (by decide) (by decide) t 0

theorem mateLost_standby (h : s.standby = true) : s.mateLost = if s.presAlive then s.isolate else s.activeFailed := by
  have notActive : ¬((s.mateState == 1) = true) := by
    rw [standby_eq] at h
    intro active
    simp [beq_iff_eq.1 active] at h
  rw [mateLost, if_neg notActive, if_pos h]

/-- A state is entered and reported. -/
theorem enters_raise {n : Nat} {f : Field} (hn : n < 8) (hf : f.reg = .MT_STICKY) (hg : f.good = true) (hw : f.hi = f.lo)
    (h : s.OnlyCopy t 0 [.MT_STAT, .MT_STICKY]) (g : Mate → Mate) : let u := (((t.setMateState n).modMate g).raise f 0).showMate
    u.mateState = n ∧ u.on f 0 = true ∧ s.OnlyCopy u 0 [.MT_STAT, .MT_STICKY] := by
  refine ⟨?_, ?_, ?_⟩
  · rw [mateState_showMate, mateState, rd_raise_apart (by simp +decide [Field.apart, hf]) (by decide) (by decide), rd_modMate, ← mateState,
      mateState_setMateState hn]
  · rw [on_showMate_sticky hf]
    exact on_raise hg hw (by simp [hf]) (by simp [hf]) _ 0
  · exact ((((h.setMateState (by decide) (by decide) n).modMate g).raise f (by simp [hf])).showMate (by decide))

/-- A standby finds its mate alive and isolates itself. -/
theorem mateLost_alive (h : s.Misses t) (hs : s.standby = true) (ha : s.presAlive = true) : let u := t.mateLost.showMate
    u.mateState = 4 ∧ u.on F.MT_STICKY_ISOLATED 0 = true ∧ s.OnlyCopy u 0 [.MT_STAT, .MT_STICKY] := by
  have lost : t.mateLost = t.isolate := by
    rw [mateLost_standby ((standby_congr h.state).trans hs), h.alive, ha]
    exact if_pos rfl
  rw [lost]
  exact enters_raise (by decide) rfl rfl rfl h.frame _

/-- A standby in step finds its mate failed and takes over. -/
theorem mateLost_inStep (h : s.Misses t) (hs : s.standby = true) (ha : s.presAlive = false) (hi : s.on F.MT_STAT_IN_STEP 0 = true) :
    let u := t.mateLost.showMate
    u.mate.takeAt = some (s.now + 1) ∧ u.mateState = s.mateState ∧ s.OnlyCopy u 0 [.MT_STAT, .MT_STICKY] := by
  have lost : t.mateLost = t.modMate fun x => { x with takeAt := some (t.now + 1), quiet := false } := by
    rw [mateLost_standby ((standby_congr h.state).trans hs), h.alive, ha]
    exact (if_neg Bool.false_ne_true).trans (if_pos (h.inStep.trans hi))
  rw [lost]
  refine ⟨?_, ?_, (h.frame.modMate _).showMate (by decide)⟩
  · exact (showMate_keeps Mate.takeAt (fun _ _ _ => rfl) _).trans (by rw [← h.now]; rfl)
  · rw [mateState_showMate, mateState, rd_modMate]
    exact h.state

/-- A standby out of step finds its mate failed. -/
theorem mateLost_notReady (h : s.Misses t) (hs : s.standby = true) (ha : s.presAlive = false) (hi : s.on F.MT_STAT_IN_STEP 0 = false) :
    let u := t.mateLost.showMate
    u.mateState = 5 ∧ u.on F.MT_STICKY_NOT_READY 0 = true ∧ s.OnlyCopy u 0 [.MT_STAT, .MT_STICKY] := by
  have lost : t.mateLost = ((t.setMateState 5).modMate id).raise F.MT_STICKY_NOT_READY 0 := by
    rw [mateLost_standby ((standby_congr h.state).trans hs), h.alive, ha]
    exact (if_neg Bool.false_ne_true).trans (if_neg (by simp [h.inStep, hi]))
  rw [lost]
  exact enters_raise (by decide) rfl rfl rfl h.frame id

/-! ### Presence and the grant line (R424, R427, R445) -/

theorem presTimeout_gone (ha : s.presAlive = false) (hp : s.on F.MT_STAT_PRES 0 = true) :
    s.presTimeout = if s.showMate.mateState == 4 || (s.showMate.standby && s.showMate.mate.bothMissed) then s.showMate.activeFailed
      else s.showMate := if_neg (by simp [ha, hp])

/-- The grant line at a new level. -/
def takeGrant (s : State) (high : Bool) : State :=
  s.modMate fun x => { x with grant := high, grantHigh := if high then x.grantHigh else 0, grantLow := if high then 0 else x.grantLow }

theorem grantChange_eq (s : State) (high : Bool) : s.grantChange high = (s.takeGrant high).raiseIf
    (s.mate.grant && !high && (s.takeGrant high).mateState == 1 && (s.takeGrant high).on F.MT_CFG_ARB 0 &&
      ((s.takeGrant high).mate.pathUp .link || (s.takeGrant high).mate.pathUp .bollard)) F.MT_STICKY_GRANT_CONFLICT 0 := rfl

theorem grantChange_rise (s : State) : s.grantChange true = s.takeGrant true := by
  rw [grantChange_eq, Bool.not_true, Bool.and_false, Bool.false_and, Bool.false_and, Bool.false_and]
  rfl

/-- A fall on an ACTIVE device while the link is up is a conflict. -/
theorem grantChange_conflict (hg : s.mate.grant = true) (hs : s.mateState = 1) (ha : s.on F.MT_CFG_ARB 0 = true)
    (hl : s.mate.pathUp .link = true) : s.grantChange false = (s.takeGrant false).raise F.MT_STICKY_GRANT_CONFLICT 0 := by
  have state : (s.takeGrant false).mateState = 1 := hs
  have arb : (s.takeGrant false).on F.MT_CFG_ARB 0 = true := ha
  have link : (s.takeGrant false).mate.pathUp .link = true := hl
  rw [grantChange_eq, state, arb, link, hg]
  rfl

/-! ### Frames of the mate link (R419, R420, R428) -/

/-- The agent after the marker and the decisions of a frame. -/
def takeFrame (s : State) (f : MateFrame) : State :=
  let s := (s.modMate fun x => { x with marked := true, marker := some (s.tick, s.now) })
  let s := if f.sumsIntact then s.modMate fun x => { x with sums := x.sums ++ [s.tick - 1] } else s
  let keep (d : Nat × Nat) : Decision := ⟨s.now + 2, d.1, d.2⟩
  s.modMate fun x => { x with stores := x.stores ++ f.stores.map keep, cns := x.cns ++ f.cns.map keep }

theorem modMate_modMate (s : State) (f g : Mate → Mate) : (s.modMate f).modMate g = s.modMate fun x => g (f x) := rfl

/-- A frame's marker and decisions touch the agent alone; the last entry received stays. -/
theorem takeFrame_plain (s : State) (f : MateFrame) : ∃ g : Mate → Mate, s.takeFrame f = s.modMate g ∧
    (g s.mate).received = s.mate.received ∧ (g s.mate).marker = some (s.tick, s.now) := by
  have tick (g : Mate → Mate) : (s.modMate g).tick = s.tick := rfl
  have now (g : Mate → Mate) : (s.modMate g).now = s.now := rfl
  unfold takeFrame
  cases f.sumsIntact
  · simp only [Bool.false_eq_true, if_false, modMate_modMate]
    exact ⟨_, rfl, rfl, rfl⟩
  · simp only [if_true, tick, now, modMate_modMate]
    exact ⟨_, rfl, rfl, rfl⟩

theorem takeMarker_same (h : s.mate.markWait = false) :
    s.takeMarker s.tick = s.modMate fun x => { x with marked := true, marker := some (s.tick, s.now) } := by
  unfold takeMarker
  refine (if_neg ?_).trans (if_neg ?_)
  · exact Bool.eq_false_iff.1 h
  · have same (f : Mate → Mate) : (s.modMate f).tick = s.tick := rfl
    simp [same]

/-- A frame that marks the tick is taken. -/
theorem mateFrame_taken {f : MateFrame} (he : s.mateEnabled = true) (hs : s.standby = true) (hw : s.mate.markWait = false)
    (hm : f.marker = some s.tick) : s.mateFrame f = (s.takeFrame f).each f.entries State.takeEntry := by
  have enabled : ¬((!s.mateEnabled) = true) := by simp [he]
  rw [mateFrame, if_neg enabled, hm]
  simp only [takeMarker_same hw]
  refine (if_neg ?_).trans rfl
  intro out
  rw [Bool.not_eq_true'] at out
  cases hi : f.sumsIntact
  · rw [hi] at out
    exact Bool.false_ne_true (out.symm.trans hs)
  · rw [hi] at out
    exact Bool.false_ne_true (out.symm.trans hs)

theorem each_one {α : Type} (s : State) (x : α) (f : State → α → State) : s.each [x] f = f s x := rfl

theorem takeEntry_fresh {e : JEntry} (h : seqAfter e.seq s.mate.received = true) (hl : 0 < signed 48 (e.apply - s.tick).toNat) :
    s.takeEntry e = { s.modMate fun x => { x with received := e.seq } with
      journal := s.journal ++ [{ e with due := s.now + (signed 48 (e.apply - s.tick).toNat).toNat }] } := by
  unfold takeEntry
  refine (if_neg (by simp [h])).trans (if_neg ?_)
  have later : ¬signed 48 (e.apply - (s.modMate fun x => { x with received := e.seq }).tick).toNat ≤ 0 := Int.not_le.2 hl
  rw [decide_eq_false later]
  exact Bool.false_ne_true

theorem takeEntry_copy {e : JEntry} (h : seqAfter e.seq s.mate.received = false) : s.takeEntry e = s := if_pos (by simp [h])

/-! ### A beat that is sent (R422, R423) -/

theorem length_beat (b : MateBeat) : b.bytes.length = 32 := by
  simp only [MateBeat.bytes, List.length_append, length_toBytes, List.length_cons, List.length_nil]

theorem beatSend_due (he : s.mateEnabled = true) (hs : s.mateState ≠ 0) (hb : s.mateBoot = false) (ht : s.tick.toNat % 8 = 0)
    (hn : s.mate.sentAt ≠ some s.now) : s.beatSend = (s.send (.beat s.ownBeat.bytes)).modMate fun x =>
      { x with sentAt := some s.now, actState := if s.mateState == 1 && !s.mateBoot then !x.actState else x.actState } :=
  if_neg (by simp [he, hs, hb, ht, hn])

/-! ### What a beat, or its absence, does -/

/-- A good beat shows the mate. -/
theorem beatReceive_shows {p : MatePath} {b : MateBeat}
    (good : s.beatReceive p b true = (s.shows p b).showMate.actOnBeat b (ahead s.tick b.tick))
    (lt : b.state < 8) (ne : b.state ≠ 1) (hr : b.release = false) :
    ∃ t, exec (.beatReceive p b true) s = .next t ∧ (t.mate.sight p).missed = 0 ∧ (t.mate.sight p).heard = some b.tick ∧
      t.rd F.MT_STAT_MSTATE 0 = b.state ∧ t.on F.MT_STAT_M_IN_STEP 0 = b.inStep ∧ t.mateState = s.mateState ∧
      s.OnlyAt t 0 [.MT_STAT] ∧ s.SameMemory t := by
  have heard := shows_heard (s := s) (p := p) lt
  have other : (s.shows p b).showMate.rd F.MT_STAT_MSTATE 0 ≠ 1 := by rw [heard.shown]; exact ne
  have run : s.beatReceive p b true = (s.shows p b).showMate := good.trans ((actOnBeat_other ne other _).trans (if_neg (by simp [hr])))
  exact ⟨_, congrArg Host.Outcome.next run, heard.sight.1, heard.sight.2, heard.shown, heard.inStep, heard.state, heard.frame.regs,
    heard.frame.memory⟩

/-- RELEASE in a good beat sets the takeover. -/
theorem beatReceive_releases {p : MatePath} {b : MateBeat}
    (good : s.beatReceive p b true = (s.shows p b).showMate.actOnBeat b (ahead s.tick b.tick))
    (lt : b.state < 8) (ne : b.state ≠ 1) (hr : b.release = true) (hst : s.standby = true) (hi : s.on F.MT_STAT_IN_STEP 0 = true)
    (htk : s.mate.takeAt = none) :
    ∃ t, exec (.beatReceive p b true) s = .next t ∧
      t.mate.takeAt = some (s.now - ahead s.tick b.tick + (10 * s.darkTime + 31) / 32) ∧ s.OnlyAt t 0 [.MT_STAT] ∧ s.SameMemory t := by
  have heard := shows_heard (s := s) (p := p) lt
  have dark := darkTime_congr heard.around (heard.frame.rd_eq (f := F.SY_ID_VARIANT) (by decide) (by decide) (by decide) 0)
  have now : (s.shows p b).showMate.now = s.now := congrArg Around.now heard.around
  have other : (s.shows p b).showMate.rd F.MT_STAT_MSTATE 0 ≠ 1 := by rw [heard.shown]; exact ne
  have run := good.trans ((actOnBeat_other ne other _).trans (if_pos hr))
  rw [released_due ((standby_congr heard.state).trans hst) ((congrArg (· == 1) heard.own).trans hi) (heard.takeAt.trans htk), dark, now] at run
  exact ⟨_, congrArg Host.Outcome.next run, rfl, (heard.frame.modMate _).regs, (heard.frame.modMate _).memory⟩

/-- An ACTIVE beat raises DUAL_ACTIVE on an ACTIVE device that does not yield. -/
theorem beatReceive_dual {p : MatePath} {b : MateBeat}
    (good : s.beatReceive p b true = (s.shows p b).showMate.actOnBeat b (ahead s.tick b.tick))
    (one : b.state = 1) (hr : b.release = false) (hs : s.mateState = 1) (hy : s.yields b = false) :
    ∃ t, exec (.beatReceive p b true) s = .next t ∧ t.mateState = 1 ∧ t.on F.MT_STICKY_DUAL_ACTIVE 0 = true ∧
      s.OnlyAt t 0 [.MT_STAT, .MT_STICKY] ∧ s.SameMemory t := by
  have heard := shows_heard (s := s) (p := p) (b := b) (by omega)
  have still : (s.shows p b).showMate.yields b = false :=
    (yields_congr heard.around (heard.frame.rd_eq (by decide) (by decide) (by decide) 0) heard.grant b).trans hy
  have run := good.trans (actOnBeat_dual one hr (heard.state.trans hs) still _)
  have frame := (heard.frame.mono (qs := [.MT_STAT, .MT_STICKY]) (by decide)).raise F.MT_STICKY_DUAL_ACTIVE (by decide)
  refine ⟨_, congrArg Host.Outcome.next run, ?_, on_raise rfl rfl (by decide) (by decide) _ 0, frame.regs, frame.memory⟩
  rw [mateState, rd_raise_apart rfl (by decide) (by decide)]
  exact heard.state.trans hs

/-- A damaged beat is not heard. -/
theorem beatReceive_damaged {p : MatePath} {b : MateBeat} (he : s.mateEnabled = true) (hs : s.mateState ≠ 0) :
    ∃ t, exec (.beatReceive p b false) s = .next t ∧ (t.mate.sight p).heard = (s.mate.sight p).heard ∧ t.regs = s.regs ∧ s.SameMemory t := by
  have bad : s.beatReceive p b false = s.modMate fun m => m.setSight p { s.mate.sight p with intact := 0 } :=
    (if_neg (by simp [he, hs])).trans (if_pos (by simp [beatGood]))
  refine ⟨_, congrArg Host.Outcome.next bad, ?_, rfl, ⟨rfl, rfl, rfl, rfl⟩⟩
  rw [mate_modMate, setSight_same]

/-- A missed beat counts. -/
theorem beatMiss_counts {p : MatePath} {due : Tick} (run : s.beatMiss p = (s.noteMiss p due).showMate) :
    ∃ t, exec (.beatMiss p) s = .next t ∧ (t.mate.sight p).missed = (s.mate.sight p).missed + 1 ∧
      t.ctr ⟨.mt, if p = .link then 3 else 4, 0⟩ = (s.ctr ⟨.mt, if p = .link then 3 else 4, 0⟩ + 1) % 2 ^ 48 ∧ t.mateState = s.mateState ∧
      t.mate.takeAt = s.mate.takeAt ∧ s.OnlyAt t 0 [.MT_STAT] ∧ s.SameMemory t := by
  have frame := (s.noteMiss_frame p due [.MT_STAT]).showMate (by decide)
  have sight := showMate_keeps (Mate.sight · p) (fun _ _ _ => by cases p <;> rfl) (s.noteMiss p due)
  have take := showMate_keeps Mate.takeAt (fun _ _ _ => rfl) (s.noteMiss p due)
  refine ⟨_, congrArg Host.Outcome.next run, ?_, ?_, mateState_showMate _, ?_, frame.regs, frame.memory⟩
  · rw [sight, mate_noteMiss, setSight_same]
  · rw [ctr_showMate]
    simp only [← beq_iff_eq (a := p)]
    exact ctr_count_same (s.modMate _) _ 1
  · rw [take, mate_noteMiss]
    cases p <;> rfl

/-- The fourth miss on the second path acts by role. -/
theorem beatMiss_loses {p : MatePath} {u : State} (h : s.Misses u) (run : s.beatMiss p = u.mateLost.showMate) :
    (s.mateState = 1 → s.on F.MT_CFG_ARB 0 = false → ∃ t, exec (.beatMiss p) s = .next t ∧ t.mateState = 1 ∧
      t.on F.MT_STICKY_MATE_LOST 0 = true ∧ s.OnlyAt t 0 [.MT_STAT, .MT_STICKY] ∧ s.SameMemory t) ∧
    (s.standby = true → s.presAlive = true → ∃ t, exec (.beatMiss p) s = .next t ∧ t.mateState = 4 ∧
      t.on F.MT_STICKY_ISOLATED 0 = true ∧ s.OnlyAt t 0 [.MT_STAT, .MT_STICKY] ∧ s.SameMemory t) ∧
    (s.standby = true → s.presAlive = false → s.on F.MT_STAT_IN_STEP 0 = true → ∃ t, exec (.beatMiss p) s = .next t ∧
      t.mate.takeAt = some (s.now + 1) ∧ t.mateState = s.mateState ∧ s.OnlyAt t 0 [.MT_STAT, .MT_STICKY] ∧ s.SameMemory t) ∧
    (s.standby = true → s.presAlive = false → s.on F.MT_STAT_IN_STEP 0 = false → ∃ t, exec (.beatMiss p) s = .next t ∧
      t.mateState = 5 ∧ t.on F.MT_STICKY_NOT_READY 0 = true ∧ s.OnlyAt t 0 [.MT_STAT, .MT_STICKY] ∧ s.SameMemory t) := by
  have run : exec (.beatMiss p) s = .next u.mateLost.showMate := congrArg Host.Outcome.next run
  refine ⟨fun active noArb => ?_, fun hst alive => ?_, fun hst dead hi => ?_, fun hst dead hi => ?_⟩
  · obtain ⟨state, raised, frame⟩ := mateLost_active h active noArb
    exact ⟨_, run, state, raised, frame.regs, frame.memory⟩
  · obtain ⟨state, raised, frame⟩ := mateLost_alive h hst alive
    exact ⟨_, run, state, raised, frame.regs, frame.memory⟩
  · obtain ⟨take, state, frame⟩ := mateLost_inStep h hst dead hi
    exact ⟨_, run, take, state, frame.regs, frame.memory⟩
  · obtain ⟨state, raised, frame⟩ := mateLost_notReady h hst dead hi
    exact ⟨_, run, state, raised, frame.regs, frame.memory⟩

end State

/-- Settles O47: the mate paths, beats, presence, grant and frames. -/
theorem matePathsAndBeats : Obligations.MatePathsAndBeats := by
  unfold Obligations.MatePathsAndBeats
  refine ⟨fun s he hd => ⟨fun hg => ?_, fun hg => ?_⟩, fun s hu => ⟨fun hb => ?_, fun hb => ?_⟩,
    fun s he => ⟨fun hd hg => ?_, fun hu hm => ?_⟩,
    fun s he hs hb => ⟨fun ht hn => ?_, fun ht => ?_⟩, ?_, ?_, fun s => ?_, fun s ha hp => ⟨fun hs hi => ?_, fun hs hst => ?_⟩,
    fun s => ⟨?_, fun hg hs ha hl => ?_⟩, fun f e s he hs hw hm hf => ⟨fun fresh lead => ?_, fun copy => ?_⟩⟩
  · obtain ⟨link, -, frame⟩ := s.pathComes fun x => { x with linkUp := true }
    exact ⟨_, congrArg Host.Outcome.next (if_pos (by simp [he, hd, hg])), link, frame.regs, frame.memory⟩
  · exact congrArg Host.Outcome.next (if_neg (by simp [hd, hg]))
  · obtain ⟨link, -, state, shown, -, frame⟩ := s.pathGoes fun x => { x with linkUp := false, sums := [] }
    exact ⟨_, congrArg Host.Outcome.next (if_pos (by simp [hu, hb])), link, shown, state, frame.regs, frame.memory⟩
  · exact congrArg Host.Outcome.next (if_neg (by simp [hb]))
  · obtain ⟨-, bollard, frame⟩ := s.pathComes fun x => { x with bolUp := true }
    exact ⟨_, congrArg Host.Outcome.next ((if_neg (by simp [he])).trans ((if_neg (by simp [hd])).trans (if_pos hg))), bollard,
      frame.regs, frame.memory⟩
  · obtain ⟨-, bollard, state, -, shown, frame⟩ := s.pathGoes fun x => { x with bolUp := false }
    exact ⟨_, congrArg Host.Outcome.next ((if_neg (by simp [he])).trans ((if_pos hu).trans (if_pos hm))), bollard, shown, state,
      frame.regs, frame.memory⟩
  · refine ⟨_, congrArg Host.Outcome.next (State.beatSend_due he hs hb ht hn), rfl, State.length_beat _, ?_, rfl, ⟨rfl, rfl, rfl, rfl⟩⟩
    simp only [hb, Bool.not_false, Bool.and_true, beq_iff_eq]
    rfl
  · exact congrArg Host.Outcome.next (if_pos (by simp [ht]))
  · intro p b s he hs hb ht ha
    have good := State.beatReceive_good (p := p) he hs hb ht ha
    exact ⟨State.beatReceive_shows good, State.beatReceive_releases good, State.beatReceive_dual good, State.beatReceive_damaged he hs⟩
  · intro p q due s hs hb ht hd hh hm hne
    exact ⟨fun few => State.beatMiss_counts (State.beatMiss_fewer hs hb ht hd hh hm few),
      fun third gone => State.beatMiss_loses (s.noteMiss_misses p due) (State.beatMiss_both hs hb ht hd hh hm hne third gone)⟩
  · have frame := ((State.OnlyCopy.refl s 0 [.MT_STAT]).modMate fun x => { x with presAt := some s.now }).showMate (by decide)
    refine ⟨s.presEdge, rfl, ?_, ?_, frame.regs, frame.memory⟩
    · exact State.showMate_keeps Mate.presAt (fun _ _ _ => rfl) _
    · refine (State.showMate_shows _).2.2.trans ?_
      exact decide_eq_true (Nat.le_add_right s.now 24)
  · have frame := ((State.OnlyCopy.refl s 0 [.MT_STAT]).showMate (by decide)).modMate fun x =>
      { x with takeAt := some (s.showMate.now + 1), quiet := false }
    have inStep : s.showMate.on F.MT_STAT_IN_STEP 0 = true := by rw [State.on, State.rd_showMate rfl rfl rfl rfl, ← State.on, hi]
    have now : s.showMate.now = s.now := congrArg Around.now s.around_showMate
    have run : exec .matePresTimeout s = .next (s.showMate.modMate fun x => { x with takeAt := some (s.showMate.now + 1), quiet := false }) :=
      congrArg Host.Outcome.next ((State.presTimeout_gone ha hp).trans
        ((if_pos (by simp [State.mateState_showMate, hs])).trans (if_pos inStep)))
    exact ⟨_, run, (State.on_modMate ..).trans ((State.showMate_shows s).2.2.trans ha), congrArg (fun n => some (n + 1)) now,
      frame.regs, frame.memory⟩
  · have frame := (State.OnlyCopy.refl s 0 [.MT_STAT]).showMate (by decide)
    have standby : s.showMate.standby = false := (State.standby_congr s.mateState_showMate).trans hst
    exact ⟨s.showMate, congrArg Host.Outcome.next ((State.presTimeout_gone ha hp).trans
        (if_neg (by simp [State.mateState_showMate, hs, standby]))), (State.showMate_shows s).2.2.trans ha,
      State.showMate_keeps Mate.takeAt (fun _ _ _ => rfl) _, s.mateState_showMate, frame.regs, frame.memory⟩
  · exact ⟨_, congrArg Host.Outcome.next s.grantChange_rise, rfl, rfl, rfl, ⟨rfl, rfl, rfl, rfl⟩⟩
  · have frame : s.OnlyCopy ((s.takeGrant false).raise F.MT_STICKY_GRANT_CONFLICT 0) 0 [.MT_STICKY] :=
      ((State.OnlyCopy.refl s 0 [.MT_STICKY]).modMate _).raise F.MT_STICKY_GRANT_CONFLICT (by decide)
    have mate := State.raise_mate (s.takeGrant false) F.MT_STICKY_GRANT_CONFLICT 0
    refine ⟨_, congrArg Host.Outcome.next (State.grantChange_conflict hg hs ha hl), congrArg Mate.grant mate, congrArg Mate.grantHigh mate, ?_,
      State.on_raise rfl rfl (by decide) (by decide) _ 0, frame.regs, frame.memory⟩
    rw [State.mateState, State.rd_raise_apart rfl (by decide) (by decide)]
    exact hs
  · obtain ⟨g, taken, received, marker⟩ := s.takeFrame_plain f
    have run := State.mateFrame_taken he hs hw hm
    rw [hf, taken, State.each_one] at run
    have entry := State.takeEntry_fresh (s := s.modMate g) ((congrArg (seqAfter e.seq) received).trans fresh) lead
    exact ⟨_, congrArg Host.Outcome.next (run.trans entry), rfl, rfl, marker, rfl, ⟨rfl, rfl, rfl, rfl⟩⟩
  · obtain ⟨g, taken, received, -⟩ := s.takeFrame_plain f
    have run := State.mateFrame_taken he hs hw hm
    rw [hf, taken, State.each_one] at run
    have entry := State.takeEntry_copy (s := s.modMate g) ((congrArg (seqAfter e.seq) received).trans copy)
    exact ⟨_, congrArg Host.Outcome.next (run.trans entry), rfl, rfl, ⟨rfl, rfl, rfl, rfl⟩⟩

end Sys2Proof.Machine
end

section
/-! Mate pairs: takeover, the writes of MT_CTRL, the journal, comparison, epochs and the decision of BOOT (O48). -/

namespace Sys2Proof.Machine

/-- What an engine that follows its request leaves alone: the mate agent, the image, the journal and the counters. -/
structure Books where
  mate : Mate
  image : Image
  journal : List JEntry
  ctrs : Table Nat

namespace State

variable {s t u : State} {rs : List Reg}

/-- Mate agent, image, journal and counters. -/
def books (s : State) : Books := ⟨s.mate, s.image, s.journal, s.ctrs⟩

@[simp] theorem books_wr (s : State) (f : Field) (i v : Nat) : (s.wr f i v).books = s.books := (rfl)
@[simp] theorem books_wrBool (s : State) (f : Field) (i : Nat) (b : Bool) : (s.wrBool f i b).books = s.books := (rfl)
@[simp] theorem books_modEngine (s : State) (e : Nat) (f : Engine → Engine) : (s.modEngine e f).books = s.books := (rfl)
@[simp] theorem books_modSwap (s : State) (f : Swap → Swap) : (s.modSwap f).books = s.books := (rfl)

@[simp] theorem books_raise (s : State) (f : Field) (i : Nat) : (s.raise f i).books = s.books := by
  simp only [books, raise_mate, raise_image, raise_journal, raise_ctrs]

theorem books_count (s : State) (c : Ctr) (n : Nat) : (s.count c n).books = { s.books with ctrs := (s.count c n).ctrs } := (rfl)

theorem ctr_of_books (h : t.books = s.books) (c : Ctr) : t.ctr c = s.ctr c :=
  congrArg (fun x : Books => Tab.get 0 x.ctrs c.key) h

/-! ### Every engine follows the mate hold (R248 to R250, R445) -/

theorem books_followRequest (s : State) (e : Nat) : (s.followRequest e).books = s.books := by
  have light : (s.light e).books = s.books := by simp only [State.light, books_wr, books_modEngine]
  have darken : (s.darken e).books = s.books := by simp only [State.darken, books_wr, books_modEngine]
  unfold followRequest
  split
  · rfl
  · split
    · exact light
    · rw [books_raise, darken]
    · exact darken
    · rw [books_raise, light]
    · rfl

/-- An engine is told that the takeover time counts. -/
def armTake (s : State) (take : Bool) (e : Nat) : State :=
  s.modEngine e fun x => { x with darkTake := take, takeover := take && s.cfgOn F.LE_CTRL_TX_EN (s.governor e) }

/-- An engine is told that it no longer counts. -/
def disarmTake (s : State) (e : Nat) : State := s.modEngine e fun x => { x with darkTake := false, takeover := false }

/-- One engine follows the hold. -/
def followMate (s : State) (take : Bool) (e : Nat) : State := (((s.armTake take e).followRequest e).showHolds e).disarmTake e

theorem mateHoldChanged_eq (s : State) (take : Bool) :
    s.mateHoldChanged take = s.each ((List.range 8).filter s.engineExists) fun s e => s.followMate take e := rfl

theorem books_followMate (s : State) (take : Bool) (e : Nat) : (s.followMate take e).books = s.books := by
  simp only [followMate, disarmTake, armTake, books_modEngine, showHolds, books_wrBool, books_followRequest]

theorem followMate_keeps (s : State) (take : Bool) (e : Nat) : s.KeepsDies (s.followMate take e) [.LE_STAT, .LE_STICKY] := by
  have armed : s.KeepsDies (s.armTake take e) [.LE_STAT, .LE_STICKY] := KeepsDies.modEngine s e _ fun _ => rfl
  have disarmed (u : State) : u.KeepsDies (u.disarmTake e) [.LE_STAT, .LE_STICKY] := KeepsDies.modEngine u e _ fun _ => rfl
  exact ((armed.trans (KeepsDies.followRequest _ e)).trans (KeepsDies.showHolds _ e)).trans (disarmed _)

theorem books_mateHoldChanged (s : State) (take : Bool) : (s.mateHoldChanged take).books = s.books := by
  rw [mateHoldChanged_eq]
  exact each_keeps books (fun s e => s.books_followMate take e) _ s

theorem mateHoldChanged_keeps (s : State) (take : Bool) : s.KeepsDies (s.mateHoldChanged take) [.LE_STAT, .LE_STICKY] := by
  rw [mateHoldChanged_eq]
  exact KeepsDies.each (fun s e => s.followMate_keeps take e) _ s

theorem mateHoldChanged_within (s : State) (take : Bool) : s.Within (s.mateHoldChanged take) [.LE_STAT, .LE_STICKY] :=
  ⟨(s.mateHoldChanged_keeps take).regs, (s.mateHoldChanged_keeps take).memory⟩

theorem rd_mateHoldChanged {f : Field} (hf : f.reg ∉ [Reg.LE_STAT, .LE_STICKY]) (h1 : f.reg ≠ .EV_STICKY) (h2 : f.reg ≠ .EV_SRC_CNT)
    (s : State) (take : Bool) (i : Nat) : (s.mateHoldChanged take).rd f i = s.rd f i :=
  (s.mateHoldChanged_within take).regs.rd_eq hf h1 h2 i

/-! ### A device becomes ACTIVE (R441, R442) -/

/-- ACTIVE is entered, and the agent of the old role is done. -/
def enterRole (s : State) : State :=
  (s.setMateState 1).modMate fun x => { x with takeAt := none, quiet := false, release := false, claims := [], compared := [] }

/-- The sequence number of the last entry. -/
def takeSeq (s : State) : State :=
  match s.journal.getLast? with
  | some e => s.wr F.MT_JSEQ_JSEQ 0 e.seq
  | none => s

/-- No phase, no snapshot, and no commit of the old active's. -/
def dropPhase (s : State) : State :=
  ({ s.wr F.MT_STAT_PHASE 0 0 with snapshotBefore := none } : State).modSwap fun x =>
    if x.holder == SwapHolder.domain then { x with holder := .nobody } else x

/-- What entry to ACTIVE does before the engines follow. -/
def enterActive (s : State) : State := s.enterRole.takeSeq.dropPhase

theorem becomeActive_eq (s : State) (quiet : Bool) :
    s.becomeActive quiet = (if !s.on F.MT_STAT_IN_STEP 0 then s.enterActive.restartAll.raise F.MT_STICKY_TAKEOVER_HIT 0
      else if quiet then s.enterActive
      else (s.enterActive.count ⟨.mt, 9, 0⟩ 1).raise F.MT_STICKY_TAKEOVER 0).mateHoldChanged true := rfl

theorem books_dropPhase (s : State) : s.dropPhase.books = s.books := rfl

theorem books_takeSeq (s : State) : s.takeSeq.books = s.books := by
  unfold takeSeq
  split <;> rfl

theorem rd_takeSeq {f : Field} (h : F.MT_JSEQ_JSEQ.apart f = true) (s : State) (i : Nat) : s.takeSeq.rd f i = s.rd f i := by
  unfold takeSeq
  split
  · exact rd_wr_apart h ..
  · rfl

theorem rd_dropPhase {f : Field} (h : F.MT_STAT_PHASE.apart f = true) (s : State) (i : Nat) : s.dropPhase.rd f i = s.rd f i := by
  have plain (u : State) (x : Option Snapshot) (g : Swap → Swap) : ({ u with snapshotBefore := x }.modSwap g).rd f i = u.rd f i := rfl
  rw [dropPhase, plain, rd_wr_apart h]

theorem phase_dropPhase (s : State) : s.dropPhase.rd F.MT_STAT_PHASE 0 = 0 := by
  have plain (u : State) (x : Option Snapshot) (g : Swap → Swap) :
      ({ u with snapshotBefore := x }.modSwap g).rd F.MT_STAT_PHASE 0 = u.rd F.MT_STAT_PHASE 0 := rfl
  rw [dropPhase, plain]
  exact rd_wr_fits rfl (by decide) s 0

theorem OnlyCopy.enterActive (h : s.OnlyCopy t 0 rs) (hr : Reg.MT_STAT ∈ rs) (hs : Reg.MT_STICKY ∈ rs) (hj : Reg.MT_JSEQ ∈ rs) :
    s.OnlyCopy t.enterActive 0 rs := by
  have role : s.OnlyCopy t.enterRole 0 rs := (h.setMateState hr hs 1).modMate _
  have seq : s.OnlyCopy t.enterRole.takeSeq 0 rs := by
    unfold takeSeq
    split
    · exact role.wr F.MT_JSEQ_JSEQ hj _
    · exact role
  exact (seq.wr F.MT_STAT_PHASE hr 0).plain rfl

/-- The agent, the image, the journal and the counters once ACTIVE is entered. -/
theorem enterActive_books (h : s.mateState ≠ 1) : s.enterActive.mate.takeAt = none ∧ s.enterActive.mate.actState = true ∧
    s.enterActive.image = s.image ∧ s.enterActive.journal = s.journal ∧ s.enterActive.ctrs = s.ctrs := by
  have entered : s.setMateState 1 = s.enterMateState 1 := by
    rw [setMateState_eq]
    exact if_neg (by simp [h])
  have books : s.enterActive.books = s.enterRole.books := (books_dropPhase _).trans (books_takeSeq _)
  have role (u : State) (f : Mate → Mate) : (u.modMate f).books = { u.books with mate := f u.mate } := rfl
  have mate : (s.enterMateState 1).mate = { s.mate with actState := true } := by
    rw [enterMateState, raise_mate]
    rfl
  rw [enterRole, role, entered, mate, enterMateState, books_raise, role, books_wr] at books
  exact ⟨congrArg (·.mate.takeAt) books, congrArg (·.mate.actState) books, congrArg Books.image books, congrArg Books.journal books,
    congrArg Books.ctrs books⟩

theorem enterActive_shows (s : State) : s.enterActive.mateState = 1 ∧ s.enterActive.rd F.MT_STAT_PHASE 0 = 0 := by
  refine ⟨?_, phase_dropPhase _⟩
  rw [mateState, enterActive, rd_dropPhase rfl, rd_takeSeq rfl, enterRole, rd_modMate, ← mateState, mateState_setMateState (by decide)]

/-- The registers that a takeover may change. -/
def takeoverRegs : List Reg := [.MT_STAT, .MT_STICKY, .MT_JSEQ, .LE_STAT, .LE_STICKY]

/-- What a takeover in step leaves. -/
structure TakesOver (s t : State) : Prop where
  state : t.mateState = 1
  takeAt : t.mate.takeAt = none
  actState : t.mate.actState = true
  phase : t.rd F.MT_STAT_PHASE 0 = 0
  raised : t.on F.MT_STICKY_TAKEOVER 0 = true
  counted : t.ctr ⟨.mt, 9, 0⟩ = (s.ctr ⟨.mt, 9, 0⟩ + 1) % 2 ^ 48
  image : t.image = s.image
  journal : t.journal = s.journal
  frame : s.Within t takeoverRegs

theorem becomeActive_inStep (hi : s.on F.MT_STAT_IN_STEP 0 = true) (h : s.mateState ≠ 1) : s.TakesOver (s.becomeActive false) := by
  have run : s.becomeActive false = ((s.enterActive.count ⟨.mt, 9, 0⟩ 1).raise F.MT_STICKY_TAKEOVER 0).mateHoldChanged true := by
    rw [becomeActive_eq, hi]
    rfl
  obtain ⟨take, act, image, journal, ctrs⟩ := enterActive_books h
  obtain ⟨state, phase⟩ := s.enterActive_shows
  have books : (s.becomeActive false).books = { s.enterActive.books with ctrs := (s.enterActive.count ⟨.mt, 9, 0⟩ 1).ctrs } := by
    rw [run, books_mateHoldChanged, books_raise, books_count]
  have before : s.enterActive.ctr ⟨.mt, 9, 0⟩ = s.ctr ⟨.mt, 9, 0⟩ := by rw [ctr, ctr, ctrs]
  have mate : (s.becomeActive false).mate = s.enterActive.mate := congrArg Books.mate books
  constructor
  · rw [run, mateState, rd_mateHoldChanged (by decide) (by decide) (by decide), rd_raise_apart rfl (by decide) (by decide), rd_count,
      ← mateState, state]
  · rw [mate, take]
  · rw [mate, act]
  · rw [run, rd_mateHoldChanged (by decide) (by decide) (by decide), rd_raise_apart rfl (by decide) (by decide), rd_count, phase]
  · rw [run, on, rd_mateHoldChanged (by decide) (by decide) (by decide), ← on]
    exact on_raise rfl rfl (by decide) (by decide) _ 0
  · rw [← before, ← ctr_count_same]
    exact congrArg (fun x : Books => Tab.get 0 x.ctrs (Ctr.key ⟨.mt, 9, 0⟩)) books
  · exact (congrArg Books.image books).trans image
  · exact (congrArg Books.journal books).trans journal
  · rw [run]
    have frame : s.OnlyCopy s.enterActive 0 takeoverRegs := (OnlyCopy.refl s 0 _).enterActive (by decide) (by decide) (by decide)
    exact ((frame.count _ 1).raise F.MT_STICKY_TAKEOVER (by decide)).within.trans ((mateHoldChanged_within _ true).mono (by decide))

/-- Without IN_STEP the takeover is a hit. -/
theorem becomeActive_hit (hi : s.on F.MT_STAT_IN_STEP 0 = false) (quiet : Bool) : (s.becomeActive quiet).on F.MT_STICKY_TAKEOVER_HIT 0 = true := by
  have run : s.becomeActive quiet = (s.enterActive.restartAll.raise F.MT_STICKY_TAKEOVER_HIT 0).mateHoldChanged true := by
    rw [becomeActive_eq, hi]
    rfl
  rw [run, on, rd_mateHoldChanged (by decide) (by decide) (by decide), ← on]
  exact on_raise rfl rfl (by decide) (by decide) _ 0

/-! ### Writes of MT_CTRL (R427, R436, R448) -/

theorem rd_keepMateCtrl {f : Field} (h : f.reg ≠ .MT_CTRL) (s : State) (v : Word) (i : Nat) : (s.keepMateCtrl v).rd f i = s.rd f i :=
  rd_wr_reg (f := F.MT_CTRL_TAKE_T) (.inl h.symm) ..

theorem keepMateCtrl_frame (s : State) (v : Word) : s.OnlyCopy (s.keepMateCtrl v) 0 [.MT_CTRL] :=
  (OnlyCopy.refl s 0 _).wr F.MT_CTRL_TAKE_T (by decide) _

theorem swGrant_grants (hs : s.mateState = 5) (ha : s.on F.MT_CFG_ARB 0 = false) : s.swGrant = s.becomeActive false :=
  if_pos (by simp [hs, ha])

theorem OnlyCopy.enterPhase (h : s.OnlyCopy t 0 rs) (hr : Reg.MT_STAT ∈ rs) (n : Nat) : s.OnlyCopy (t.enterPhase n) 0 rs :=
  (h.wr F.MT_STAT_PHASE hr n).plain rfl

/-- Synchronisation begins again with COPY. -/
def copyAgain (s : State) : State := (s.wr F.MT_STAT_IN_STEP 0 0).enterPhase 2

theorem copyAgain_frame (h : s.OnlyCopy t 0 rs) (hr : Reg.MT_STAT ∈ rs) : s.OnlyCopy t.copyAgain 0 rs :=
  (h.wr F.MT_STAT_IN_STEP hr 0).enterPhase hr 2

theorem rd_enterPhase {f : Field} (h : F.MT_STAT_PHASE.apart f = true) (s : State) (n i : Nat) : (s.enterPhase n).rd f i = s.rd f i := by
  rw [enterPhase, rd_modMate, rd_wr_apart h]

theorem phase_enterPhase {n : Nat} (h : n < 4) (s : State) : (s.enterPhase n).rd F.MT_STAT_PHASE 0 = n := by
  rw [enterPhase, rd_modMate]
  exact rd_wr_fits rfl h s 0

theorem rd_copyAgain {f : Field} (h : F.MT_STAT_PHASE.apart f = true) (hi : F.MT_STAT_IN_STEP.apart f = true) (s : State) (i : Nat) :
    s.copyAgain.rd f i = s.rd f i := by
  rw [copyAgain, rd_enterPhase h, rd_wr_apart hi]

theorem copyAgain_shows (s : State) : s.copyAgain.on F.MT_STAT_IN_STEP 0 = false ∧ s.copyAgain.rd F.MT_STAT_PHASE 0 = 2 ∧
    s.copyAgain.mateState = s.mateState := by
  refine ⟨?_, phase_enterPhase (by decide) _, rd_copyAgain rfl rfl s 0⟩
  rw [on, copyAgain, rd_enterPhase rfl, rd_wr_fits rfl (by decide)]
  rfl

theorem resync_copies (h : s.mateState = 2) : s.resync = s.copyAgain := if_pos (by simp [h])

theorem graceExpiry_copies {n : Nat} (hi : s.on F.MT_STAT_IN_STEP 0 = true) (hs : 2 ≤ s.mateState)
    (hd : s.mate.linkDownAt = some n ∨ s.mate.pathsDownAt = some n) (hn : n + s.rd F.MT_CFG_GRACE 0 * 312500 < s.now) :
    s.graceExpiry = s.copyAgain := by
  have long : decide (n + s.rd F.MT_CFG_GRACE 0 * ticksPerSecond < s.now) = true := decide_eq_true hn
  refine if_pos ?_
  rcases hd with e | e
  · simp only [hi, decide_eq_true hs, e, long, Bool.true_or, Bool.and_self]
  · simp only [hi, decide_eq_true hs, e, long, Bool.or_true, Bool.and_self]

theorem graceExpiry_none (hl : s.mate.linkDownAt = none) (hp : s.mate.pathsDownAt = none) : s.graceExpiry = s := by
  refine if_neg ?_
  simp only [hl, hp, Bool.or_self, Bool.and_false, Bool.false_eq_true, not_false_eq_true]

/-! ### The switchover's entry (R430, R448) -/

theorem switchover_enters (hs : s.mateState = 1) (hl : s.mate.pathUp .link = true) (hb : s.mate.pathUp .bollard = true)
    (hm : s.rd F.MT_STAT_MSTATE 0 = 2) (hi : s.on F.MT_STAT_M_IN_STEP 0 = true) : s.switchover = s.journalEntry .switchover :=
  if_pos (by simp [hs, hl, hb, hm, hi])

theorem switchover_waits (hm : s.rd F.MT_STAT_MSTATE 0 ≠ 2) : s.switchover = s := if_neg (by simp [hm])

/-- The journal is due, or not yet. -/
theorem journalHeld_open (h : s.rd F.MT_STAT_PHASE 0 ≠ 1) : s.journalHeld = false := by simp [journalHeld, h]

theorem replayEnds_open (h : s.rd F.MT_STAT_PHASE 0 ≠ 1) : s.replayEnds = s := if_neg (by simp [h])

theorem standby_of (h : s.mateState = 2) : s.standby = true := by simp [standby_eq, h]

theorem applyJournal_waits {e : JEntry} (held : s.journalHeld = false) (hj : s.journal = [e]) (later : s.now + 1 < e.due) :
    s.applyJournal = s := by
  have notDue : decide (e.due ≤ s.now + 1) = false := decide_eq_false (Nat.not_le.2 later)
  have same : ({ s with journal := [e] } : State) = s := by rw [← hj]
  unfold applyJournal
  rw [if_neg (by simp [held])]
  simp only [hj, List.filter_cons, List.filter_nil, notDue, Bool.false_eq_true, if_false, Bool.not_false, if_true, unbroken, ite_self,
    List.length_nil, List.drop_nil, List.nil_append, Nat.lt_irrefl, same]
  rfl

theorem applyJournal_next {e : JEntry} (hs : s.standby = true) (held : s.journalHeld = false) (hj : s.journal = [e])
    (due : e.due ≤ s.now + 1) (next : e.seq = (s.rd F.MT_JSEQ_JSEQ 0 + 1) % 2 ^ 32) :
    s.applyJournal = ({ s with journal := [] } : State).applyEntry e := by
  have follows : unbroken (s.rd F.MT_JSEQ_JSEQ 0 + 1) [e] = [e] := by
    rw [unbroken, if_pos (by rw [next]; exact beq_self_eq_true _)]
    rfl
  unfold applyJournal
  rw [if_neg (by simp [held])]
  simp only [hj, List.filter_cons, List.filter_nil, decide_eq_true due, if_true, Bool.not_true, Bool.false_eq_true, if_false, hs, follows,
    List.length_singleton, Nat.lt_irrefl, List.drop_succ_cons, List.drop_zero, List.append_nil]
  rfl

/-- A standby sets its takeover. -/
def switchAt (s : State) : State := s.modMate fun x => { x with takeAt := some (s.now + (10 * s.takeTime + 31) / 32 + 2), quiet := true }

theorem applyEntry_switch {e : JEntry} (hs : s.mateState = 2) (hw : e.write = .switchover) :
    s.applyEntry e = (s.switchAt.wr F.MT_JSEQ_JSEQ 0 e.seq).count ⟨.mt, 5, 0⟩ 1 := by
  have applied : s.applyWrite .switchover = s.switchAt := (if_neg (by simp [hs])).trans (if_pos (by simp [hs]))
  rw [applyEntry, hw, applied]
  exact if_pos (standby_of (s := s.switchAt) hs)

/-! ### Comparison (R434 to R436) -/

/-- The suspension ends, or not. -/
def resumes (s : State) (mateNormal : Bool) : State :=
  s.modMate fun x => { x with suspended := x.suspended && !(mateNormal && s.devState == .normal) }

/-- The sums of a tick are compared. -/
def noteCompared (s : State) (t : Tick) (mismatch : Bool) : State :=
  (s.modMate fun x => { x with sums := x.sums.filter (· != t) }).modMate fun x => { x with compared := (mismatch :: x.compared).take 1024 }

/-- A mismatch is counted and shown. -/
def showMismatch (s : State) (t : Tick) (bare : List Nat) : State :=
  let s := (s.count ⟨.mt, 2, 0⟩ 1).wr F.MT_MISS_TICK_TICK 0 t.toNat
  ((s.wr F.MT_MISS_PORT_NPORTS 0 bare.length).wr F.MT_MISS_PORT_PORT 0 (bare.foldl min 71)).wr F.MT_STAT_RUN 0 0

/-- A match is counted. -/
def showMatch (s : State) (equal : Bool) : State :=
  (s.count ⟨.mt, if equal then 0 else 1, 0⟩ 1).wr F.MT_STAT_RUN 0 (min (s.rd F.MT_STAT_RUN 0 + 1) 1000)

/-- A divergence is counted and reported. -/
def reportDivergence (s : State) : State :=
  ((s.count ⟨.mt, 8, 0⟩ 1).raise F.MT_STICKY_DIVERGE 0).modMate fun x => { x with compared := [] }

/-- What a divergence does. -/
def checkDivergence (s : State) : State :=
  let follows := s.standby && (s.on F.MT_STAT_IN_STEP 0 || s.rd F.MT_STAT_PHASE 0 == 3)
  if s.mate.diverges (s.rd F.MT_CFG_DIV_N 0) && (follows || s.mateState == 1) then
    if follows then s.reportDivergence.copyAgain else s.reportDivergence
  else s

/-- The end of CONVERGE. -/
def checkConverged (s : State) : State :=
  if s.standby && s.rd F.MT_STAT_PHASE 0 == 3 && s.rd F.MT_STAT_RUN 0 == 1000 then
    (((s.wr F.MT_STAT_IN_STEP 0 1).enterPhase 0).raise F.MT_STICKY_IN_STEP 0).setMateState 2
  else s

/-- The two cases in which sums are compared have this in common. -/
structure Comparable (s : State) : Prop where
  state : s.mateState = 2 ∨ s.mateState = 3
  linkUp : s.mate.linkUp = true
  running : s.mate.suspended = false
  sums : s.mate.sums.contains (s.tick - 3) = true

theorem Comparable.standby (h : s.Comparable) : s.standby = true := by
  rcases h.state with e | e <;> simp [standby_eq, e]

theorem Comparable.resumes (h : s.Comparable) (b : Bool) : s.resumes b = s := by
  have same : { s.mate with suspended := s.mate.suspended && !(b && s.devState == .normal) } = s.mate := by
    rw [h.running, Bool.false_and, ← h.running]
  exact (congrArg (fun m => ({ s with mate := m } : State)) same).trans rfl

theorem compare_eq (h : s.Comparable) (differ : List (Nat × Bool)) (b : Bool) :
    let bare := (differ.filter fun d => !d.2).map (·.1)
    let u := s.noteCompared (s.tick - 3) (!bare.isEmpty)
    s.compare differ b =
      ((if !bare.isEmpty then u.showMismatch (s.tick - 3) bare else u.showMatch differ.isEmpty).checkDivergence).checkConverged := by
  have state : s.mateState ≠ 0 := by rcases h.state with e | e <;> omega
  have resumed := h.resumes b
  unfold compare
  refine (if_neg ?_).trans ?_
  · show ¬((((s.resumes b).mateState == 0 || !(s.resumes b).mate.linkUp) || (s.resumes b).mate.suspended ||
      !(s.resumes b).mate.sums.contains (s.tick - 3)) = true)
    rw [resumed, h.linkUp, h.running, h.sums]
    simp [state]
  · show (if _ then ((s.resumes b).noteCompared _ _).showMismatch _ _
      else ((s.resumes b).noteCompared _ _).showMatch _).checkDivergence.checkConverged = _
    rw [resumed]

@[simp] theorem rd_noteCompared (s : State) (t : Tick) (b : Bool) (f : Field) (i : Nat) : (s.noteCompared t b).rd f i = s.rd f i := (rfl)
@[simp] theorem ctr_noteCompared (s : State) (t : Tick) (b : Bool) (c : Ctr) : (s.noteCompared t b).ctr c = s.ctr c := (rfl)
@[simp] theorem mate_showMatch (s : State) (b : Bool) : (s.showMatch b).mate = s.mate := (rfl)
@[simp] theorem mate_showMismatch (s : State) (t : Tick) (l : List Nat) : (s.showMismatch t l).mate = s.mate := (rfl)

theorem compared_noteCompared (s : State) (t : Tick) (b : Bool) :
    (s.noteCompared t b).mate.compared = b :: s.mate.compared.take 1023 := rfl

theorem noteCompared_frame (s : State) (t : Tick) (b : Bool) : s.OnlyCopy (s.noteCompared t b) 0 [] :=
  ((OnlyCopy.refl s 0 []).modMate _).modMate _

theorem OnlyCopy.showMatch (h : s.OnlyCopy t 0 rs) (hr : Reg.MT_STAT ∈ rs) (b : Bool) : s.OnlyCopy (t.showMatch b) 0 rs :=
  (h.count _ 1).wr F.MT_STAT_RUN hr _

theorem rd_showMatch {f : Field} (h : F.MT_STAT_RUN.apart f = true) (s : State) (b : Bool) (i : Nat) : (s.showMatch b).rd f i = s.rd f i := by
  rw [State.showMatch, rd_wr_apart h, rd_count]

theorem run_showMatch (s : State) (b : Bool) : (s.showMatch b).rd F.MT_STAT_RUN 0 = min (s.rd F.MT_STAT_RUN 0 + 1) 1000 :=
  rd_wr_fits rfl (Nat.lt_of_le_of_lt (Nat.min_le_right _ 1000) (by decide)) _ 0

theorem diverges_match {x : Mate} {l : List Bool} (h : x.compared = false :: l) (n : Nat) : x.diverges n = false := by
  rw [Mate.diverges, h]
  rfl

/-- Four mismatches in a row diverge. -/
theorem diverges_four {x : Mate} {l : List Bool} (h : x.compared = true :: l) (three : l.take 3 = [true, true, true]) (n : Nat) :
    x.diverges n = true := by
  have four : (true :: l).take 4 = [true, true, true, true] := by rw [List.take_succ_cons, three]
  rw [Mate.diverges, h, four]
  rfl

theorem checkDivergence_none (h : s.mate.diverges (s.rd F.MT_CFG_DIV_N 0) = false) : s.checkDivergence = s := by
  unfold checkDivergence
  exact if_neg (by simp [h])

/-- A match is counted, and the run grows. -/
theorem compare_match (h : s.Comparable) (b : Bool) : s.compare [] b = ((s.noteCompared (s.tick - 3) false).showMatch true).checkConverged := by
  have same : s.compare [] b = ((s.noteCompared (s.tick - 3) false).showMatch true).checkDivergence.checkConverged := compare_eq h [] b
  rw [same, checkDivergence_none (diverges_match ((congrArg Mate.compared (mate_showMatch ..)).trans (compared_noteCompared ..)) _)]

theorem matched_frame (s : State) : s.OnlyCopy ((s.noteCompared (s.tick - 3) false).showMatch true) 0 [.MT_STAT] :=
  ((s.noteCompared_frame _ _).mono (by decide)).showMatch (by decide) true

theorem checkConverged_goesOn (h : s.rd F.MT_STAT_PHASE 0 ≠ 3) : s.checkConverged = s := if_neg (by simp [h])

theorem checkConverged_ends (hs : s.standby = true) (hp : s.rd F.MT_STAT_PHASE 0 = 3) (hr : s.rd F.MT_STAT_RUN 0 = 1000) :
    s.checkConverged = (((s.wr F.MT_STAT_IN_STEP 0 1).enterPhase 0).raise F.MT_STICKY_IN_STEP 0).setMateState 2 :=
  if_pos (by simp [hs, hp, hr])

/-- The end of CONVERGE makes a STANDBY in step. -/
theorem converged_shows (s : State) : let t := (((s.wr F.MT_STAT_IN_STEP 0 1).enterPhase 0).raise F.MT_STICKY_IN_STEP 0).setMateState 2
    t.on F.MT_STAT_IN_STEP 0 = true ∧ t.rd F.MT_STAT_PHASE 0 = 0 ∧ t.mateState = 2 ∧ t.on F.MT_STICKY_IN_STEP 0 = true ∧
      s.OnlyCopy t 0 [.MT_STAT, .MT_STICKY] := by
  refine ⟨?_, ?_, mateState_setMateState (by decide) _, ?_, ?_⟩
  · rw [on, rd_setMateState rfl rfl (by decide) (by decide), rd_raise_apart rfl (by decide) (by decide), rd_enterPhase rfl, ← on]
    exact on_wr rfl rfl s 0 true
  · rw [rd_setMateState rfl rfl (by decide) (by decide), rd_raise_apart rfl (by decide) (by decide), phase_enterPhase (by decide)]
  · rw [on, rd_setMateState rfl rfl (by decide) (by decide), ← on]
    exact on_raise rfl rfl (by decide) (by decide) _ 0
  · have frame : s.OnlyCopy s 0 [.MT_STAT, .MT_STICKY] := .refl ..
    exact ((((frame.wr F.MT_STAT_IN_STEP (by decide) 1).enterPhase (by decide) 0).raise F.MT_STICKY_IN_STEP (by decide))).setMateState (by decide)
      (by decide) 2

/-- A mismatch in one port. -/
def mismatched (s : State) (p : Nat) : State := (s.noteCompared (s.tick - 3) true).showMismatch (s.tick - 3) [p]

theorem rd_showMismatch {f : Field} (ht : F.MT_MISS_TICK_TICK.apart f = true) (hn : F.MT_MISS_PORT_NPORTS.apart f = true)
    (hp : F.MT_MISS_PORT_PORT.apart f = true) (hr : F.MT_STAT_RUN.apart f = true) (s : State) (t : Tick) (l : List Nat) (i : Nat) :
    (s.showMismatch t l).rd f i = s.rd f i := by
  rw [State.showMismatch, rd_wr_apart hr, rd_wr_apart hp, rd_wr_apart hn, rd_wr_apart ht, rd_count]

theorem showMismatch_shows {p : Nat} (h : p < 72) (s : State) (t : Tick) : let u := s.showMismatch t [p]
    u.ctr ⟨.mt, 2, 0⟩ = (s.ctr ⟨.mt, 2, 0⟩ + 1) % 2 ^ 48 ∧ u.ctr ⟨.mt, 8, 0⟩ = s.ctr ⟨.mt, 8, 0⟩ ∧ u.rd F.MT_STAT_RUN 0 = 0 ∧
      u.rd F.MT_MISS_PORT_PORT 0 = p ∧ u.rd F.MT_MISS_PORT_NPORTS 0 = 1 ∧ u.rd F.MT_MISS_TICK_TICK 0 = t.toNat % 2 ^ 32 := by
  have least : [p].foldl min 71 = p := Nat.min_eq_right (Nat.le_of_lt_succ h)
  refine ⟨?_, ?_, ?_, ?_, ?_, ?_⟩
  · rw [State.showMismatch, ctr_wr, ctr_wr, ctr_wr, ctr_wr, ctr_count_same]
  · rw [State.showMismatch, ctr_wr, ctr_wr, ctr_wr, ctr_wr]
    exact ctr_count_ne (by decide) s 1
  · exact rd_wr_fits rfl (by decide) _ 0
  · rw [State.showMismatch, rd_wr_apart rfl, rd_wr_fits rfl (by rw [least]; exact Nat.lt_of_lt_of_le h (by decide)), least]
  · rw [State.showMismatch, rd_wr_apart rfl, rd_wr_apart rfl, rd_wr_fits rfl (by rw [List.length_singleton]; decide)]
    rfl
  · rw [State.showMismatch, rd_wr_apart rfl, rd_wr_apart rfl, rd_wr_apart rfl, rd_wr rfl]
    rfl

theorem OnlyCopy.showMismatch (h : s.OnlyCopy t 0 rs) (hr : Reg.MT_STAT ∈ rs) (hp : Reg.MT_MISS_PORT ∈ rs) (ht : Reg.MT_MISS_TICK ∈ rs)
    (n : Tick) (l : List Nat) : s.OnlyCopy (t.showMismatch n l) 0 rs :=
  ((((h.count _ 1).wr F.MT_MISS_TICK_TICK ht _).wr F.MT_MISS_PORT_NPORTS hp _).wr F.MT_MISS_PORT_PORT hp _).wr F.MT_STAT_RUN hr 0

/-- A follower in step that finds a divergence. -/
theorem checkDivergence_follower (hd : s.mate.diverges (s.rd F.MT_CFG_DIV_N 0) = true) (hs : s.standby = true)
    (hi : s.on F.MT_STAT_IN_STEP 0 = true) : s.checkDivergence = s.reportDivergence.copyAgain := by
  unfold checkDivergence
  exact (if_pos (by simp [hd, hs, hi])).trans (if_pos (by simp [hs, hi]))

theorem rd_reportDivergence {f : Field} (h : F.MT_STICKY_DIVERGE.apart f = true) (h1 : f.reg ≠ .EV_STICKY) (h2 : f.reg ≠ .EV_SRC_CNT)
    (s : State) (i : Nat) : s.reportDivergence.rd f i = s.rd f i := by
  rw [reportDivergence, rd_modMate, rd_raise_apart h h1 h2, rd_count]

theorem OnlyCopy.reportDivergence (h : s.OnlyCopy t 0 rs) (hs : Reg.MT_STICKY ∈ rs) : s.OnlyCopy t.reportDivergence 0 rs :=
  ((h.count _ 1).raise F.MT_STICKY_DIVERGE hs).modMate _

theorem reportDivergence_raises (s : State) : s.reportDivergence.on F.MT_STICKY_DIVERGE 0 = true := by
  rw [reportDivergence, on_modMate]
  exact on_raise rfl rfl (by decide) (by decide) _ 0

theorem ctr_modMate (s : State) (f : Mate → Mate) (c : Ctr) : (s.modMate f).ctr c = s.ctr c := rfl

theorem ctr_copyAgain (s : State) (c : Ctr) : s.copyAgain.ctr c = s.ctr c := rfl

/-- Four mismatches in a row: a follower in step begins again with COPY. -/
theorem compare_diverges {p : Nat} (h : s.Comparable) (three : s.mate.compared.take 3 = [true, true, true])
    (hi : s.on F.MT_STAT_IN_STEP 0 = true) (b : Bool) : s.compare [(p, false)] b = (s.mismatched p).reportDivergence.copyAgain := by
  have same : s.compare [(p, false)] b = (s.mismatched p).checkDivergence.checkConverged := compare_eq h [(p, false)] b
  have kept {f : Field} (ht : F.MT_MISS_TICK_TICK.apart f = true) (hn : F.MT_MISS_PORT_NPORTS.apart f = true)
      (hp : F.MT_MISS_PORT_PORT.apart f = true) (hr : F.MT_STAT_RUN.apart f = true) : (s.mismatched p).rd f 0 = s.rd f 0 := by
    rw [mismatched, rd_showMismatch ht hn hp hr, rd_noteCompared]
  have diverges : (s.mismatched p).mate.diverges ((s.mismatched p).rd F.MT_CFG_DIV_N 0) = true := by
    refine diverges_four ((congrArg Mate.compared (mate_showMismatch ..)).trans (compared_noteCompared ..)) ?_ _
    rw [List.take_take]
    exact three
  have standby : (s.mismatched p).standby = true := (standby_congr (kept rfl rfl rfl rfl)).trans h.standby
  have inStep : (s.mismatched p).on F.MT_STAT_IN_STEP 0 = true := (congrArg (· == 1) (kept rfl rfl rfl rfl)).trans hi
  rw [same, checkDivergence_follower diverges standby inStep, checkConverged_goesOn]
  rw [(copyAgain_shows _).2.1]
  decide

/-! ### Epochs (R437, R438) -/

/-- The number of the epoch that has ended. -/
def epochNumber (s : State) : Nat := (s.tick.toNat / s.epochTicks + 2 ^ 32 - 1) % 2 ^ 32

/-- The epoch is shown and counted. -/
def closeEpoch (s : State) (k : Nat) : State := (s.wr F.MT_EPOCH_EPOCH 0 k).count ⟨.mt, 6, 0⟩ 1

theorem closeEpoch_shows {k : Nat} (h : k < 2 ^ 32) (s : State) : (s.closeEpoch k).rd F.MT_EPOCH_EPOCH 0 = k ∧
    (s.closeEpoch k).ctr ⟨.mt, 6, 0⟩ = (s.ctr ⟨.mt, 6, 0⟩ + 1) % 2 ^ 48 ∧ s.OnlyCopy (s.closeEpoch k) 0 [.MT_EPOCH] := by
  refine ⟨?_, ?_, ((OnlyCopy.refl s 0 _).wr F.MT_EPOCH_EPOCH (by decide) k).count _ 1⟩
  · rw [closeEpoch, rd_count, rd_wr rfl]
    exact Nat.mod_eq_of_lt h
  · rw [closeEpoch, ctr_count_same, ctr_wr]

theorem epochNumber_lt (s : State) : s.epochNumber < 2 ^ 32 := Nat.mod_lt _ (Nat.two_pow_pos 32)

theorem epochApply_between (h : s.tick.toNat % s.epochTicks ≠ 0) (b : Bool) (items : List (EpochItem × Bool)) : s.epochApply b items = s :=
  if_pos (bne_iff_ne.2 h)

theorem epochApply_active (h : s.tick.toNat % s.epochTicks = 0) (hs : s.mateState = 1) (b : Bool) (items : List (EpochItem × Bool)) :
    s.epochApply b items = s.closeEpoch s.epochNumber :=
  (if_neg (by simp [h])).trans (if_pos (by simp [hs]))

theorem mateState_of_standby (h : s.standby = true) : s.mateState ≠ 1 := by
  intro active
  rw [standby_eq, active] at h
  exact Bool.false_ne_true h

theorem epochApply_discards (h : s.tick.toNat % s.epochTicks = 0) (hs : s.standby = true) (items : List (EpochItem × Bool)) :
    s.epochApply false items = (s.count ⟨.mt, 7, 0⟩ 1).raise F.MT_STICKY_EPOCH_DISCARD 0 :=
  (if_neg (by simp [h])).trans ((if_neg (by simp [mateState_of_standby hs])).trans ((if_neg (by simp [hs])).trans (if_pos rfl)))

/-- The snapshot taken after a complete epoch. -/
def snapAgain (s : State) : State := { s with snapshot := some s.takeSnapshot, snapshotBefore := none }

theorem rd_snapAgain (s : State) (f : Field) (i : Nat) : s.snapAgain.rd f i = s.rd f i := rfl

theorem stored_snapAgain (s : State) : s.snapAgain.stored = s.stored := rfl

theorem snapshotBefore_snapAgain (s : State) : s.snapAgain.snapshotBefore = none := rfl

theorem ctr_snapAgain (s : State) (c : Ctr) : s.snapAgain.ctr c = s.ctr c := rfl

theorem epochApply_complete {o : Snapshot} {items : List (EpochItem × Bool)} (h : s.tick.toNat % s.epochTicks = 0) (hs : s.standby = true)
    (ho : s.snapshotBefore = some o) (ht : o.tick + BitVec.ofNat 48 s.epochTicks = s.tick) :
    s.epochApply true items =
      let u := ((s.each items fun s x => s.applyItem o x.2 x.1).closeEpoch s.epochNumber).snapAgain
      if u.rd F.MT_STAT_PHASE 0 == 2 && u.mate.phaseAt < o.at_ then u.enterPhase 3 else u := by
  refine (if_neg (by simp [h])).trans ((if_neg (by simp [mateState_of_standby hs])).trans
    ((if_neg (by simp [hs])).trans ((if_neg (by simp)).trans ?_)))
  rw [ho]
  exact if_neg (by simp [ht])

theorem applyItem_line (s : State) (o : Snapshot) (d : Bool) (i j a : Nat) : s.applyItem o d (.counter ⟨.lf, i, j⟩ a) =
    s.setCtr ⟨.lf, i, j⟩ (s.ctr ⟨.lf, i, j⟩ + a + 2 ^ 48 - Tab.get 0 o.ctrs (Ctr.key ⟨.lf, i, j⟩)) := rfl

theorem lineKey_ne (i j n : Nat) : Ctr.key ⟨.mt, n, 0⟩ ≠ Ctr.key ⟨.lf, i, j⟩ := by
  intro same
  have code : CtrBank.mt.code * 256 + n % 256 = CtrBank.lf.code * 256 + i % 256 := congrArg Prod.fst same
  simp only [CtrBank.code] at code
  omega

/-- A complete epoch with one line counter. -/
theorem epochApply_counter {o : Snapshot} {i j a : Nat} {d : Bool} (h : s.tick.toNat % s.epochTicks = 0) (hs : s.standby = true)
    (ho : s.snapshotBefore = some o) (ht : o.tick + BitVec.ofNat 48 s.epochTicks = s.tick) (hp : s.rd F.MT_STAT_PHASE 0 ≠ 2) :
    s.epochApply true [(.counter ⟨.lf, i, j⟩ a, d)] = ((s.setCtr ⟨.lf, i, j⟩
      (s.ctr ⟨.lf, i, j⟩ + a + 2 ^ 48 - Tab.get 0 o.ctrs (Ctr.key ⟨.lf, i, j⟩))).closeEpoch s.epochNumber).snapAgain := by
  have phase (c : Ctr) (n k : Nat) : ((s.setCtr c n).closeEpoch k).snapAgain.rd F.MT_STAT_PHASE 0 ≠ 2 := by
    rw [rd_snapAgain, closeEpoch, rd_count, rd_wr_apart rfl]
    exact hp
  rw [epochApply_complete h hs ho ht, each_one, applyItem_line]
  exact if_neg (by simp [phase])

theorem setCtr_frame (s : State) (c : Ctr) (n : Nat) (rs : List Reg) : s.OnlyCopy (s.setCtr c n) 0 rs := (OnlyCopy.refl s 0 rs).plain rfl

/-! ### The decision of BOOT (R426) -/

theorem mateDecide_early {st : Start} {n : Nat} (hc : s.boot.chosen = some st) (hl : s.mate.listenAt = some n) (early : s.now < n + 6250) :
    s.mateDecide = s := by
  unfold mateDecide
  rw [hc, hl]
  exact if_pos (by simp [show s.elapsed n listenTicks = false from elapsed_of_lt early])

/-- The mate state is decided. -/
def decides (s : State) (n : Nat) : State := (s.modMate fun x => { x with decided := true }).setMateState n

theorem mateDecide_over {st : Start} {n : Nat} (hc : s.boot.chosen = some st) (hl : s.mate.listenAt = some n) (hb : s.mateBoot = true)
    (hd : s.mate.decided = false) (late : n + 6250 ≤ s.now) :
    s.mateDecide =
      let m := s.mateDecision ((st.image.mate.map (·.1)).getD (Reg.resetValue .MT_CFG 0))
      match m with
      | 3 => s.decides m
      | 1 => (s.decides m).startUp st
      | _ => (((s.decides m).raiseIf (m == 5) F.MT_STICKY_NOT_READY 0).startUp st).openTick := by
  unfold mateDecide
  rw [hc, hl]
  exact if_neg (by simp [hb, hd, show s.elapsed n listenTicks = true from elapsed_of_le late])

theorem mateDecision_active (h : s.mate.heard.active = true) (cfg : Word) : s.mateDecision cfg = 3 := if_pos h

theorem mateDecision_alone {st : Start} (h : s.mate.heard = {}) (hm : st.image.mate = none) (ha : s.presAlive = false) :
    s.mateDecision ((st.image.mate.map (·.1)).getD (Reg.resetValue .MT_CFG 0)) = 1 := by
  rw [hm, mateDecision, h, ha]
  exact (if_neg (by decide)).trans ((if_neg (by decide)).trans ((if_neg (by decide)).trans (if_neg (by decide))))

/-! ### The commands that make a device ACTIVE -/

theorem takeOver_due {n : Nat} (ht : s.mate.takeAt = some n) (hn : n ≤ s.now) (hs : s.standby = true ∨ s.mateState = 4)
    (hq : s.mate.quiet = false) : s.takeOver = s.becomeActive false ∧ s.mateState ≠ 1 := by
  have follower : s.mateState = 2 ∨ s.mateState = 3 ∨ s.mateState = 4 := by
    simpa [standby_eq, or_assoc] using hs
  refine ⟨?_, by omega⟩
  unfold takeOver
  rw [ht, hq]
  refine if_pos ?_
  rcases follower with e | e | e <;> simp [e, hn]

theorem takeOver_none (h : s.mate.takeAt = none) : s.takeOver = s := by
  unfold takeOver
  rw [h]

theorem effectiveGrant_grants (hg : s.granted = true) (hs : s.mateState = 4 ∨ s.mateState = 5) :
    s.effectiveGrant = s.becomeActive false ∧ s.mateState ≠ 1 := by
  refine ⟨if_pos ?_, by omega⟩
  rcases hs with e | e <;> simp [e, hg]

theorem mateState_keepMateCtrl (s : State) (v : Word) : (s.keepMateCtrl v).mateState = s.mateState := rd_keepMateCtrl (by decide) s v 0

theorem mate_keepMateCtrl (s : State) (v : Word) : (s.keepMateCtrl v).mate = s.mate := rfl

theorem mateState_reply (s : State) (m : Initiator) (a : Answer) : (s.reply m a).mateState = s.mateState := rfl

theorem OnlyCopy.reply (h : s.OnlyCopy t 0 rs) (m : Initiator) (a : Answer) : s.OnlyCopy (t.reply m a) 0 rs := h.plain (stored_reply ..)

theorem exec_swGrant {v : Word} (h : F.MT_CTRL_SW_GRANT.get v = 1) (m : Initiator) :
    exec (.swGrant m v) s = .next ((s.keepMateCtrl v).swGrant.reply m (.ok 0)) :=
  congrArg (fun u : State => Host.Outcome.next (u.reply m (.ok 0))) (if_pos (beq_iff_eq.2 h))

theorem exec_resync {v : Word} (h : F.MT_CTRL_RESYNC.get v = 1) (m : Initiator) :
    exec (.resync m v) s = .next ((s.keepMateCtrl v).resync.reply m (.ok 0)) :=
  congrArg (fun u : State => Host.Outcome.next (u.reply m (.ok 0))) (if_pos (beq_iff_eq.2 h))

theorem exec_switchover {v : Word} (h : F.MT_CTRL_SWITCHOVER.get v = 1) (m : Initiator) :
    exec (.switchover m v) s = .next ((s.keepMateCtrl v).switchover.reply m (.ok 0)) :=
  congrArg (fun u : State => Host.Outcome.next (u.reply m (.ok 0))) (if_pos (beq_iff_eq.2 h))

theorem journalApply_standby (h : s.standby = true) : s.journalApply none = s.applyJournal.replayEnds := if_neg (by simp [h])

/-- A standby applies the switchover's entry. -/
theorem journalApply_switch {e : JEntry} (hs : s.mateState = 2) (hp : s.rd F.MT_STAT_PHASE 0 ≠ 1) (hj : s.journal = [e])
    (due : e.due ≤ s.now + 1) (hw : e.write = .switchover) (next : e.seq = (s.rd F.MT_JSEQ_JSEQ 0 + 1) % 2 ^ 32) :
    s.journalApply none = (({ s with journal := [] } : State).switchAt.wr F.MT_JSEQ_JSEQ 0 e.seq).count ⟨.mt, 5, 0⟩ 1 := by
  have entry : ({ s with journal := [] } : State).applyEntry e =
      (({ s with journal := [] } : State).switchAt.wr F.MT_JSEQ_JSEQ 0 e.seq).count ⟨.mt, 5, 0⟩ 1 := applyEntry_switch hs hw
  have phase (u : State) : ((u.switchAt.wr F.MT_JSEQ_JSEQ 0 e.seq).count ⟨.mt, 5, 0⟩ 1).rd F.MT_STAT_PHASE 0 = u.rd F.MT_STAT_PHASE 0 := by
    rw [rd_count, rd_wr_apart rfl, switchAt, rd_modMate]
  rw [journalApply_standby (standby_of hs), applyJournal_next (standby_of hs) (journalHeld_open hp) hj due next, entry]
  exact replayEnds_open (by rw [phase]; exact hp)

end State

/-- Settles O48: takeover and grants, the writes of MT_CTRL, the journal, comparison, epochs and the decision of BOOT. -/
theorem mateRolesAndEpochs : Obligations.MateRolesAndEpochs := by
  unfold Obligations.MateRolesAndEpochs
  refine ⟨fun c s hi hc => ?_, fun s h => ?_, fun s h => ?_, fun m v s hv hs ha => ⟨fun hi => ?_, fun hi => ?_⟩, fun m v s hv hs => ?_,
    fun m v s hv hs => ⟨fun hl hb hm hi => ?_, fun hm => ?_⟩, fun e s hs hp hj => ⟨fun due hw next => ?_, fun later => ?_⟩, fun s hs => ?_,
    fun s state up running sums => ⟨fun hs hp => ?_, fun hp hr => ?_, fun p three hi => ?_⟩,
    fun s hi hs => ⟨fun n hd hn => ?_, fun hl hp => ?_⟩,
    fun items s => ⟨fun h => ⟨fun hs b => ?_, fun hs => ?_, fun i j a d o hs ho ht hp hit => ?_⟩, fun b h => ?_⟩,
    fun st n s hc hl hb hd => ⟨fun late heard hs => ?_, fun late heard hm ha => ?_, fun early => ?_⟩⟩
  · have active : exec c s = .next (s.becomeActive false) ∧ s.mateState ≠ 1 := by
      rcases hc with ⟨rfl, hs, hq, n, ht, hn⟩ | ⟨rfl, hg, hs⟩
      · exact ⟨congrArg Host.Outcome.next (State.takeOver_due ht hn hs hq).1, (State.takeOver_due ht hn hs hq).2⟩
      · exact ⟨congrArg Host.Outcome.next (State.effectiveGrant_grants hg hs).1, (State.effectiveGrant_grants hg hs).2⟩
    have takes := State.becomeActive_inStep hi active.2
    exact ⟨_, active.1, takes.state, takes.takeAt, takes.actState, takes.phase, takes.raised, takes.counted, takes.image, takes.journal,
      takes.frame.regs, takes.frame.memory⟩
  · exact congrArg Host.Outcome.next (State.takeOver_none h)
  · exact congrArg Host.Outcome.next (if_neg (by simp [h]))
  · have state : (s.keepMateCtrl v).mateState = 5 := (s.mateState_keepMateCtrl v).trans hs
    have takes := State.becomeActive_inStep ((congrArg (· == 1) (s.rd_keepMateCtrl (by decide) v 0)).trans hi) (by omega)
    have frame := (((s.keepMateCtrl_frame v).within.mono (qs := .MT_CTRL :: State.takeoverRegs) (by decide)).trans
      (takes.frame.mono (by decide))).reply m (.ok 0)
    have run := (State.exec_swGrant hv m).trans (congrArg (fun u : State => Host.Outcome.next (u.reply m (.ok 0)))
      (State.swGrant_grants state ((congrArg (· == 1) (s.rd_keepMateCtrl (by decide) v 0)).trans ha)))
    exact ⟨_, run, (State.mateState_reply ..).trans takes.state, (State.on_reply' ..).trans takes.raised,
      State.answer_reply .., frame.regs, frame.memory⟩
  · have state : (s.keepMateCtrl v).mateState = 5 := (s.mateState_keepMateCtrl v).trans hs
    have hit := State.becomeActive_hit ((congrArg (· == 1) (s.rd_keepMateCtrl (by decide) v 0)).trans hi) false
    have run := (State.exec_swGrant hv m).trans (congrArg (fun u : State => Host.Outcome.next (u.reply m (.ok 0)))
      (State.swGrant_grants state ((congrArg (· == 1) (s.rd_keepMateCtrl (by decide) v 0)).trans ha)))
    exact ⟨_, run, (State.on_reply' ..).trans hit, State.answer_reply ..⟩
  · have state : (s.keepMateCtrl v).mateState = 2 := (s.mateState_keepMateCtrl v).trans hs
    obtain ⟨inStep, phase, kept⟩ := (s.keepMateCtrl v).copyAgain_shows
    have frame := (State.copyAgain_frame ((s.keepMateCtrl_frame v).mono (qs := [.MT_CTRL, .MT_STAT]) (by decide)) (by decide)).reply m (.ok 0)
    have run := (State.exec_resync hv m).trans (congrArg (fun u : State => Host.Outcome.next (u.reply m (.ok 0))) (State.resync_copies state))
    exact ⟨_, run, (State.on_reply' ..).trans inStep, (State.rd_reply ..).trans phase, (State.mateState_reply ..).trans (kept.trans state),
      State.answer_reply .., frame.regs, frame.memory⟩
  · have state : (s.keepMateCtrl v).mateState = 1 := (s.mateState_keepMateCtrl v).trans hs
    have enters := State.switchover_enters state hl hb ((s.rd_keepMateCtrl (by decide) v 0).trans hm)
      ((congrArg (· == 1) (s.rd_keepMateCtrl (by decide) v 0)).trans hi)
    obtain ⟨journal, seq, -, frame⟩ := (s.keepMateCtrl v).journalEntry_enters .switchover
    have entry : (s.keepMateCtrl v).entryOf .switchover = s.entryOf .switchover := by
      have jseq : (s.keepMateCtrl v).rd F.MT_JSEQ_JSEQ 0 = s.rd F.MT_JSEQ_JSEQ 0 := s.rd_keepMateCtrl (by decide) v 0
      have lead : (s.keepMateCtrl v).rd F.MT_CFG_JLEAD 0 = s.rd F.MT_CFG_JLEAD 0 := s.rd_keepMateCtrl (by decide) v 0
      rw [State.entryOf, jseq, lead]
      rfl
    have kept : ((s.keepMateCtrl v).journalEntry .switchover).mateState = (s.keepMateCtrl v).mateState :=
      frame.rd_eq (by decide) (by decide) (by decide) 0
    have whole := (((s.keepMateCtrl_frame v).mono (qs := [.MT_CTRL, .MT_JSEQ]) (by decide)).trans (frame.mono (by decide))).reply m (.ok 0)
    have run := (State.exec_switchover hv m).trans (congrArg (fun u : State => Host.Outcome.next (u.reply m (.ok 0))) enters)
    rw [entry] at journal seq
    exact ⟨_, run, (State.rd_reply ..).trans seq, (State.reply_journal ..).trans journal, (State.mateState_reply ..).trans (kept.trans state),
      State.answer_reply .., whole.regs, whole.memory⟩
  · have state : (s.keepMateCtrl v).mateState = 1 := (s.mateState_keepMateCtrl v).trans hs
    have run := (State.exec_switchover hv m).trans (congrArg (fun u : State => Host.Outcome.next (u.reply m (.ok 0)))
      (State.switchover_waits (by rw [s.rd_keepMateCtrl (by decide)]; exact hm)))
    have frame := (s.keepMateCtrl_frame v).reply m (.ok 0)
    exact ⟨_, run, State.reply_journal .., (State.mateState_reply ..).trans state, frame.regs, frame.memory⟩
  · have emptied : s.OnlyCopy ({ s with journal := [] } : State).switchAt 0 [.MT_JSEQ] := (State.OnlyCopy.refl s 0 _).plain rfl
    have frame : s.OnlyCopy ((({ s with journal := [] } : State).switchAt.wr F.MT_JSEQ_JSEQ 0 e.seq).count ⟨.mt, 5, 0⟩ 1) 0 [.MT_JSEQ] :=
      (emptied.wr F.MT_JSEQ_JSEQ (by decide) _).count _ 1
    refine ⟨_, congrArg Host.Outcome.next (State.journalApply_switch hs hp hj due hw next), rfl, ?_, ?_, rfl, rfl, frame.regs, frame.memory⟩
    · rw [State.rd_count, State.rd_wr rfl]
      rfl
    · rw [State.ctr_count_same, State.ctr_wr]
      rfl
  · exact congrArg Host.Outcome.next ((State.journalApply_standby (State.standby_of hs)).trans
      ((congrArg State.replayEnds (State.applyJournal_waits (State.journalHeld_open hp) hj later)).trans (State.replayEnds_open hp)))
  · exact congrArg Host.Outcome.next (if_pos (by simp [hs]))
  · have cmp : s.Comparable := ⟨state, up, running, sums⟩
    have frame := s.matched_frame
    have phase : ((s.noteCompared (s.tick - 3) false).showMatch true).rd F.MT_STAT_PHASE 0 ≠ 3 := by
      rw [State.rd_showMatch rfl, State.rd_noteCompared]
      exact hp
    have run : exec (.mateCompare [] true) s = .next ((s.noteCompared (s.tick - 3) false).showMatch true) :=
      congrArg Host.Outcome.next ((State.compare_match cmp true).trans (State.checkConverged_goesOn phase))
    refine ⟨_, run, ?_, ?_, ?_, frame.regs, frame.memory⟩
    · rw [State.showMatch, State.ctr_wr]
      exact State.ctr_count_same _ _ 1
    · rw [State.run_showMatch, State.rd_noteCompared]
    · rw [State.mateState, State.rd_showMatch rfl, State.rd_noteCompared]
      exact hs
  · have cmp : s.Comparable := ⟨state, up, running, sums⟩
    have phase : ((s.noteCompared (s.tick - 3) false).showMatch true).rd F.MT_STAT_PHASE 0 = 3 := by
      rw [State.rd_showMatch rfl, State.rd_noteCompared, hp]
    have full : ((s.noteCompared (s.tick - 3) false).showMatch true).rd F.MT_STAT_RUN 0 = 1000 := by
      rw [State.run_showMatch, State.rd_noteCompared]
      omega
    have standby : ((s.noteCompared (s.tick - 3) false).showMatch true).standby = true :=
      (State.standby_congr (State.rd_showMatch rfl ..)).trans cmp.standby
    obtain ⟨inStep, phase', state', raised, frame⟩ := ((s.noteCompared (s.tick - 3) false).showMatch true).converged_shows
    have frame := (s.matched_frame.mono (by decide)).trans frame
    exact ⟨_, congrArg Host.Outcome.next ((State.compare_match cmp true).trans (State.checkConverged_ends standby phase full)), inStep, phase',
      state', raised, frame.regs, frame.memory⟩
  · have cmp : s.Comparable := ⟨state, up, running, sums⟩
    obtain ⟨inStep, phase, state'⟩ := (s.mismatched p.val).reportDivergence.copyAgain_shows
    obtain ⟨two, eight, run, port, nports, tick⟩ := State.showMismatch_shows p.isLt (s.noteCompared (s.tick - 3) true) (s.tick - 3)
    have frame : s.OnlyCopy (s.mismatched p.val).reportDivergence.copyAgain 0 [.MT_STAT, .MT_STICKY, .MT_MISS_PORT, .MT_MISS_TICK] :=
      State.copyAgain_frame ((((s.noteCompared_frame _ _).mono (by decide)).showMismatch (by decide) (by decide) (by decide) _ _).reportDivergence
        (by decide)) (by decide)
    have kept {f : Field} (hd : F.MT_STICKY_DIVERGE.apart f = true) (h1 : f.reg ≠ .EV_STICKY) (h2 : f.reg ≠ .EV_SRC_CNT)
        (hph : F.MT_STAT_PHASE.apart f = true) (hin : F.MT_STAT_IN_STEP.apart f = true) :
        (s.mismatched p.val).reportDivergence.copyAgain.rd f 0 = (s.mismatched p.val).rd f 0 := by
      rw [State.rd_copyAgain hph hin, State.rd_reportDivergence hd h1 h2]
    refine ⟨_, congrArg Host.Outcome.next (State.compare_diverges cmp three hi true), ?_, ?_, ?_, ?_, ?_, ?_, ?_, inStep, phase, ?_,
      frame.regs, frame.memory⟩
    · rw [State.ctr_copyAgain, State.reportDivergence, State.ctr_modMate, State.ctr_raise,
        State.ctr_count_ne (by decide : Ctr.key ⟨.mt, 8, 0⟩ ≠ Ctr.key ⟨.mt, 2, 0⟩)]
      exact two
    · rw [State.ctr_copyAgain, State.reportDivergence, State.ctr_modMate, State.ctr_raise, State.ctr_count_same, State.mismatched, eight]
      rfl
    · exact (kept rfl (by decide) (by decide) rfl rfl).trans run
    · exact (kept rfl (by decide) (by decide) rfl rfl).trans port
    · exact (kept rfl (by decide) (by decide) rfl rfl).trans nports
    · exact (kept rfl (by decide) (by decide) rfl rfl).trans tick
    · rw [State.on, State.rd_copyAgain rfl rfl, ← State.on]
      exact State.reportDivergence_raises _
    · rw [state', State.mateState, State.rd_reportDivergence rfl (by decide) (by decide), State.mismatched,
        State.rd_showMismatch rfl rfl rfl rfl, State.rd_noteCompared]
      rfl
  · have frame := State.copyAgain_frame (State.OnlyCopy.refl s 0 [.MT_STAT]) (by decide)
    obtain ⟨inStep, phase, state⟩ := s.copyAgain_shows
    exact ⟨_, congrArg Host.Outcome.next (State.graceExpiry_copies hi hs hd hn), inStep, phase, state, frame.regs, frame.memory⟩
  · exact congrArg Host.Outcome.next (State.graceExpiry_none hl hp)
  · obtain ⟨shown, counted, frame⟩ := State.closeEpoch_shows s.epochNumber_lt s
    exact ⟨_, congrArg Host.Outcome.next (State.epochApply_active h hs b items), shown, counted, frame.regs, frame.memory⟩
  · have frame := ((State.OnlyCopy.refl s 0 [.MT_STICKY]).count ⟨.mt, 7, 0⟩ 1).raise F.MT_STICKY_EPOCH_DISCARD (by decide)
    refine ⟨_, congrArg Host.Outcome.next (State.epochApply_discards h hs items), ?_, State.on_raise rfl rfl (by decide) (by decide) _ 0,
      frame.regs, frame.memory⟩
    rw [State.ctr_raise, State.ctr_count_same]
  · have applied := State.epochApply_counter (i := i) (j := j) (a := a) (d := d) h hs ho ht hp
    obtain ⟨shown, -, frame⟩ := State.closeEpoch_shows s.epochNumber_lt (s.setCtr ⟨.lf, i, j⟩
      (s.ctr ⟨.lf, i, j⟩ + a + 2 ^ 48 - Tab.get 0 o.ctrs (Ctr.key ⟨.lf, i, j⟩)))
    have whole := ((s.setCtr_frame _ _ _).trans frame).plain (State.stored_snapAgain _)
    rw [← hit] at applied
    refine ⟨_, congrArg Host.Outcome.next applied, ?_, ?_, State.snapshotBefore_snapAgain _, whole.regs, whole.memory⟩
    · rw [State.ctr_snapAgain, State.closeEpoch, State.ctr_count_ne (State.lineKey_ne i j 6), State.ctr_wr, State.ctr_setCtr_same]
    · rw [State.rd_snapAgain, shown]
      rfl
  · exact congrArg Host.Outcome.next (State.epochApply_between h b items)
  · have decided := State.mateDecide_over hc hl hb hd late
    rw [State.mateDecision_active heard] at decided
    have frame : s.OnlyCopy (s.decides 3) 0 [.MT_STAT, .MT_STICKY] :=
      ((State.OnlyCopy.refl s 0 _).modMate _).setMateState (by decide) (by decide) 3
    obtain ⟨a, mate⟩ := (s.modMate fun x => { x with decided := true }).mate_setMateState 3
    have dev : (s.decides 3).rd F.SY_STATE_STATE 0 = s.rd F.SY_STATE_STATE 0 := frame.rd_eq (by decide) (by decide) (by decide) 0
    exact ⟨s.decides 3, congrArg Host.Outcome.next decided, State.mateState_setMateState (by decide) _, congrArg Mate.decided mate,
      congrArg DevState.ofCode dev, frame.regs, frame.memory⟩
  · have decided := State.mateDecide_over hc hl hb hd late
    rw [State.mateDecision_alone heard hm ha] at decided
    exact ⟨(s.decides 1).startUp st, congrArg Host.Outcome.next decided, by rw [State.startUp_eq, State.devState_endBoot]⟩
  · exact congrArg Host.Outcome.next (State.mateDecide_early hc hl early)

end Sys2Proof.Machine
end

section
/-! Mooring ports, hops, the timing port and the control channel (O49). -/

namespace Sys2Proof.Machine

/-- A set bit that is taken away. -/
theorem testBit_sub_two_pow (n j k : Nat) (h : n.testBit j = true) : (n - 2 ^ j).testBit k = (decide (k ≠ j) && n.testBit k) := by
  induction j generalizing n k with
  | zero =>
    have odd : n % 2 = 1 := by simpa using h
    cases k with
    | zero => simp only [Nat.testBit_zero]; simp; omega
    | succ k =>
      rw [Nat.testBit_succ, Nat.testBit_succ, show (n - 2 ^ 0) / 2 = n / 2 by omega]
      simp
  | succ j ih =>
    rw [Nat.testBit_succ] at h
    cases k with
    | zero =>
      rw [Nat.testBit_zero, Nat.testBit_zero, show (n - 2 ^ (j + 1)) % 2 = n % 2 by
        have le : 2 ^ j ≤ n / 2 := Nat.ge_two_pow_of_testBit h
        rw [Nat.pow_succ]; omega]
      simp
    | succ k =>
      rw [Nat.testBit_succ, Nat.testBit_succ, show (n - 2 ^ (j + 1)) / 2 = n / 2 - 2 ^ j by rw [Nat.pow_succ]; omega, ih _ _ h]
      simp

namespace State

variable {s t u : State} {m : Nat} {rs : List Reg}

/-! ### One port and the user's control channel -/

@[simp] theorem rd_modMoor (s : State) (m : Nat) (g : Moor → Moor) (f : Field) (i : Nat) : (s.modMoor m g).rd f i = s.rd f i := (rfl)
@[simp] theorem on_modMoor (s : State) (m : Nat) (g : Moor → Moor) (f : Field) (i : Nat) : (s.modMoor m g).on f i = s.on f i := (rfl)

theorem moor_modMoor_same (s : State) (m : Nat) (g : Moor → Moor) : (s.modMoor m g).moor m = g (s.moor m) := by
  rw [modMoor, moor_setMoor, if_pos rfl]

theorem moor_modMoor_ne {k : Nat} (h : k ≠ m) (s : State) (g : Moor → Moor) : (s.modMoor m g).moor k = s.moor k := by
  rw [modMoor, moor_setMoor, if_neg h.symm]

theorem stored_modMoor (s : State) (m : Nat) (g : Moor → Moor) : (s.modMoor m g).stored = s.stored := rfl

/-! ### Lanes of a port (R461, R462, R465) -/

theorem lost_lt (s : State) (m : Nat) : s.rd F.HR_PORT_STAT_LOST m < 2 ^ 9 := Field.get_lt ..

/-- A lane is back. -/
def showRestored (s : State) (m j : Nat) : State :=
  (s.wr F.HR_PORT_STAT_LOST m (s.rd F.HR_PORT_STAT_LOST m - 2 ^ j)).raise F.HR_STICKY_LANE_RESTORED m

theorem laneRestored_back {j : Nat} (hp : s.portOn m = true) (hl : (s.rd F.HR_PORT_STAT_LOST m).testBit j = true)
    (hr : (s.cfg F.HR_PORT_CFG_RETIRE m).testBit j = false) (hg : 3125 ≤ (s.moor m).goodRuns.getD j 0) :
    s.laneRestored m j = s.showRestored m j :=
  if_pos (by simp only [hp, hl, hr, decide_eq_true hg, Bool.not_false, Bool.and_self])

theorem lost_showRestored (s : State) (m j : Nat) :
    (s.showRestored m j).rd F.HR_PORT_STAT_LOST m = s.rd F.HR_PORT_STAT_LOST m - 2 ^ j := by
  rw [showRestored, rd_raise_apart rfl (by decide) (by decide)]
  exact rd_wr_fits rfl (Nat.lt_of_le_of_lt (Nat.sub_le ..) (s.lost_lt m)) s m

theorem retireWrite_one {v : Word} (h : oneBit (F.HR_PORT_CFG_RETIRE.get v) = true) : s.retireWrite m v = s.setReg .HR_PORT_CFG m v := if_pos h

theorem retireWrite_more {v : Word} (h : oneBit (F.HR_PORT_CFG_RETIRE.get v) = false) :
    s.retireWrite m v = s.raise F.HR_STICKY_RETIRE_REJ m := if_neg (by simp [h])

theorem rmapAccept_takes (hp : s.portOn m = true) (hc : 3 ≤ (s.moor m).rmap.count)
    (hv : (s.moor m).rmap.value ≠ s.rd F.HR_PORT_STAT_FAR_RETIRE m) : s.rmapAccept m =
      (s.wr F.HR_PORT_STAT_FAR_RETIRE m (s.moor m).rmap.value).later (.rmapIdle m (BitVec.ofNat 9 (s.moor m).rmap.value)) :=
  if_pos (by simp [hp, hc, hv])

/-! ### A foreign neighbour (R463, R466) -/

theorem OnlyCopy.setPortSsf (h : s.OnlyCopy t m rs) (hr : Reg.HR_PORT_STAT ∈ rs) (hs : Reg.HR_STICKY ∈ rs) (b : Bool) :
    s.OnlyCopy (t.setPortSsf m b) m rs :=
  (h.wrBool F.HR_PORT_STAT_SSF hr b).raiseIf _ F.HR_STICKY_PORT_FAIL hs

theorem rd_setPortSsf {f : Field} (h : F.HR_PORT_STAT_SSF.apart f = true) (hs : F.HR_STICKY_PORT_FAIL.apart f = true)
    (h1 : f.reg ≠ .EV_STICKY) (h2 : f.reg ≠ .EV_SRC_CNT) (s : State) (m : Nat) (b : Bool) (i : Nat) :
    (s.setPortSsf m b).rd f i = s.rd f i := by
  rw [setPortSsf, rd_raiseIf_apart hs h1 h2, wrBool, rd_wr_apart h]

theorem ssf_setPortSsf (s : State) (m : Nat) (b : Bool) : (s.setPortSsf m b).on F.HR_PORT_STAT_SSF m = b := by
  rw [on, setPortSsf, rd_raiseIf_apart rfl (by decide) (by decide), ← on]
  exact on_wr rfl rfl s m b

/-- The port is foreign. -/
def turnForeign (s : State) (m : Nat) : State := ((s.wr F.HR_PORT_STAT_FOREIGN m 1).setPortSsf m true).raise F.HR_STICKY_DOMAIN_MIS m

theorem domainMis_foreign (hp : s.portOn m = true) (hf : s.on F.HR_PORT_STAT_FOREIGN m = false) (hr : 16 ≤ (s.moor m).foreignRun) :
    s.domainMis m = s.turnForeign m :=
  (if_neg (by simp [hp])).trans ((if_neg (by simp [hf])).trans (if_pos (by simp [hr])))

theorem domainMis_back (hp : s.portOn m = true) (hf : s.on F.HR_PORT_STAT_FOREIGN m = true) (hr : 16 ≤ (s.moor m).matchRun) :
    s.domainMis m = s.wr F.HR_PORT_STAT_FOREIGN m 0 :=
  (if_neg (by simp [hp])).trans ((if_pos hf).trans (if_pos hr))

theorem turnForeign_shows (s : State) (m : Nat) : (s.turnForeign m).on F.HR_PORT_STAT_FOREIGN m = true ∧
    (s.turnForeign m).on F.HR_PORT_STAT_SSF m = true ∧ (s.turnForeign m).on F.HR_STICKY_DOMAIN_MIS m = true ∧
      s.OnlyCopy (s.turnForeign m) m [.HR_PORT_STAT, .HR_STICKY] := by
  refine ⟨?_, ?_, on_raise rfl rfl (by decide) (by decide) _ m, ?_⟩
  · rw [on, turnForeign, rd_raise_apart rfl (by decide) (by decide), rd_setPortSsf rfl rfl (by decide) (by decide), ← on]
    exact on_wr rfl rfl s m true
  · rw [on, turnForeign, rd_raise_apart rfl (by decide) (by decide), ← on, ssf_setPortSsf]
  · have frame : s.OnlyCopy s m [.HR_PORT_STAT, .HR_STICKY] := .refl ..
    exact ((frame.wr F.HR_PORT_STAT_FOREIGN (by decide) 1).setPortSsf (by decide) (by decide) true).raise F.HR_STICKY_DOMAIN_MIS (by decide)

/-! ### The timing port (R467, R470) -/

theorem timingSwitch_moves {p : Nat} (hw : s.isWorker = true) (hv : s.on F.HR_STAT_TVALID 0 = true) (hh : s.hopCount.2 = some p)
    (hp : p ≠ s.rd F.HR_STAT_TPORT 0) (hl : s.portLinks (s.rd F.HR_STAT_TPORT 0) = false) :
    s.timingSwitch = (s.wr F.HR_STAT_TPORT 0 p).raise F.HR_DSTICKY_TIMING_SWITCH 0 := by
  unfold timingSwitch
  rw [if_neg (by simp [hw, hv]), hh]
  exact if_pos (by simp [hp, hl])

theorem timingSwitch_none (hw : s.isWorker = true) (hv : s.on F.HR_STAT_TVALID 0 = true) (hh : s.hopCount.2 = none) : s.timingSwitch = s := by
  unfold timingSwitch
  rw [if_neg (by simp [hw, hv]), hh]

/-- TICK_NO that the timing port gives. -/
def portTick (s : State) (n : Nat) : Tick :=
  (s.moor (s.rd F.HR_STAT_TPORT 0)).tno + roundTicks (s.hopDelay (s.rd F.HR_STAT_TPORT 0) + s.hopOffset (s.rd F.HR_STAT_TPORT 0)) +
    BitVec.ofNat 48 (s.now - n + 1)

theorem workerTickSet_takes {n : Nat} (hw : s.isWorker = true) (hv : s.on F.HR_STAT_TVALID 0 = true)
    (hn : (s.moor (s.rd F.HR_STAT_TPORT 0)).tnoAt = some n) (hd : s.devState = .startUp) (ht : s.boot.tickWait = true) :
    s.workerTickSet = { s with boot := { s.boot with tickAt := some (s.portTick n), tickWait := false } } := by
  unfold workerTickSet
  dsimp only
  rw [hn]
  exact if_pos (by simp [hw, hd, ht, hv])

theorem workerMismatch_runs (hw : s.isWorker = true) (hv : s.on F.HR_STAT_TVALID 0 = true)
    (hr : 16 ≤ (s.moor (s.rd F.HR_STAT_TPORT 0)).tickRun) :
    s.workerMismatch = (s.wr F.HR_STAT_MISMATCH 0 1).raise F.TM_STICKY_TICK_MISMATCH 0 := if_pos (by simp [hw, hv, hr])

/-! ### HELLO and the route table (R473) -/

/-- What the best of the offers is. -/
def bestOffer (s : State) (i : Nat) : Option (Nat × Nat) :=
  (List.range 4).foldl (fun b m =>
    match b, s.offered m i with
    | some (h, _), some x => if x < h then some (x, m) else b
    | none, some x => some (x, m)
    | _, none => b) none

/-- One entry of the table. -/
def updateRoute (s : State) (i : Nat) : State :=
  match s.bestOffer i with
  | some (h, m) =>
    if i == s.rd F.HR_CFG_ID 0 then s.wr F.HR_ROUTE_VALID i 0
    else ((s.wr F.HR_ROUTE_VALID i 1).wr F.HR_ROUTE_PORT i m).wr F.HR_ROUTE_HOPS i h
  | none => ((s.wr F.HR_ROUTE_VALID i 0).wr F.HR_ROUTE_PORT i 0).wr F.HR_ROUTE_HOPS i 0

theorem updateRoutes_eq (s : State) : s.updateRoutes = s.each (List.range 16) updateRoute := rfl

theorem updateRoute_within (h : s.Within t [.HR_ROUTE]) (i : Nat) : s.Within (t.updateRoute i) [.HR_ROUTE] := by
  unfold updateRoute
  split
  · exact (h.wr F.HR_ROUTE_VALID (by decide) i 0).ite
      (((h.wr F.HR_ROUTE_VALID (by decide) i 1).wr F.HR_ROUTE_PORT (by decide) i _).wr F.HR_ROUTE_HOPS (by decide) i _)
  · exact ((h.wr F.HR_ROUTE_VALID (by decide) i 0).wr F.HR_ROUTE_PORT (by decide) i 0).wr F.HR_ROUTE_HOPS (by decide) i 0

theorem updateRoutes_within (h : s.Within t [.HR_ROUTE]) : s.Within t.updateRoutes [.HR_ROUTE] := by
  rw [updateRoutes_eq]
  exact h.each (fun i hu => updateRoute_within hu i) _

theorem moors_updateRoute (s : State) (i : Nat) : (s.updateRoute i).moors = s.moors := by
  unfold updateRoute
  split
  · split <;> rfl
  · rfl

theorem moors_updateRoutes (s : State) : s.updateRoutes.moors = s.moors := by
  rw [updateRoutes_eq]
  exact each_keeps State.moors (fun s i => s.moors_updateRoute i) _ s

/-- The serial numbers of the table stay. -/
theorem serial_updateRoute (s : State) (i k : Nat) : (s.updateRoute i).rd F.HR_ROUTE_SERIAL k = s.rd F.HR_ROUTE_SERIAL k := by
  unfold updateRoute
  split
  · split
    · exact rd_wr_apart rfl ..
    · rw [rd_wr_apart rfl, rd_wr_apart rfl, rd_wr_apart rfl]
  · rw [rd_wr_apart rfl, rd_wr_apart rfl, rd_wr_apart rfl]

theorem serial_updateRoutes (s : State) (k : Nat) : s.updateRoutes.rd F.HR_ROUTE_SERIAL k = s.rd F.HR_ROUTE_SERIAL k := by
  rw [updateRoutes_eq]
  exact each_keeps (State.rd · F.HR_ROUTE_SERIAL k) (fun s i => s.serial_updateRoute i k) _ s

theorem moor_congr (h : t.moors = s.moors) (k : Nat) : t.moor k = s.moor k := by
  rw [moor, moor, h]

/-- A HELLO is learnt. -/
def learnHello (s : State) (m : Nat) (h : Hello) : State :=
  ((s.modMoor m fun x => { x with routes := h.routes, helloAt := some s.now }).wr F.HR_ROUTE_SERIAL h.src (h.serial % 256)).updateRoutes

theorem helloReceive_learns {h : Hello} (hl : s.portLinks m = true) (hs : h.src ≠ s.rd F.HR_CFG_ID 0) :
    s.helloReceive m h = s.learnHello m h := (if_neg (by simp [hl])).trans (if_neg (by simp [hs]))

theorem helloReceive_conflict {h : Hello} (hl : s.portLinks m = true) (hs : h.src = s.rd F.HR_CFG_ID 0) (hn : h.serial ≠ s.fuses.serial) :
    s.helloReceive m h = s.raise F.HR_DSTICKY_ID_CONFLICT 0 :=
  (if_neg (by simp [hl])).trans ((if_pos (by simp [hs])).trans (if_pos (by simp [hn])))

theorem learnHello_learns (s : State) (m : Nat) (h : Hello) : ((s.learnHello m h).moor m).routes = h.routes ∧
    ((s.learnHello m h).moor m).helloAt = some s.now ∧ (s.learnHello m h).rd F.HR_ROUTE_SERIAL h.src = h.serial % 256 ∧
      s.Within (s.learnHello m h) [.HR_ROUTE] := by
  have moor : (s.learnHello m h).moor m = { s.moor m with routes := h.routes, helloAt := some s.now } := by
    rw [learnHello, moor_congr (moors_updateRoutes _), moor_congr (wr_moors ..), moor_modMoor_same]
  refine ⟨by rw [moor], by rw [moor], ?_, ?_⟩
  · rw [learnHello, serial_updateRoutes]
    exact rd_wr_fits rfl (Nat.mod_lt _ (by decide)) _ h.src
  · exact updateRoutes_within (((Within.refl s [.HR_ROUTE]).plain (stored_modMoor ..)).wr F.HR_ROUTE_SERIAL (by decide) _ _)

/-- The routes of a port are forgotten. -/
def forgetRoutes (s : State) (m : Nat) : State := (s.modMoor m fun x => { x with routes := [], helloAt := none }).updateRoutes

theorem routeExpiry_over {n : Nat} (ha : (s.moor m).helloAt = some n) (hn : n + 1024 ≤ s.now) : s.routeExpiry m = s.forgetRoutes m := by
  unfold routeExpiry
  rw [ha]
  exact if_pos (by simp [elapsed_of_le hn])

theorem routeExpiry_early {n : Nat} (ha : (s.moor m).helloAt = some n) (hn : s.now < n + 1024) (hl : s.portLinks m = true) :
    s.routeExpiry m = s := by
  unfold routeExpiry
  rw [ha]
  exact if_neg (by simp [elapsed_of_lt hn, hl])

theorem bestOffer_none {i : Nat} (h : ∀ m, m < 4 → (s.moor m).helloAt = none) : s.bestOffer i = none := by
  have none (m : Nat) (hm : m < 4) : s.offered m i = none := by rw [offered, h m hm]
  simp only [bestOffer, List.range, List.range.loop, List.foldl_cons, List.foldl_nil, none 0, none 1, none 2, none 3, Nat.zero_lt_succ,
    Nat.reduceLT]

/-- Without an offer an entry is not valid. -/
theorem valid_updateRoute (h : ∀ m, m < 4 → (s.moor m).helloAt = none) (i : Nat) : (s.updateRoute i).on F.HR_ROUTE_VALID i = false := by
  rw [updateRoute, bestOffer_none h, on, rd_wr_apart rfl, rd_wr_apart rfl, ← on]
  exact on_wr rfl rfl s i false

theorem valid_updateRoute_ne {i k : Nat} (h : i ≠ k) (s : State) : (s.updateRoute i).on F.HR_ROUTE_VALID k = s.on F.HR_ROUTE_VALID k := by
  unfold updateRoute
  rw [on]
  split
  · split
    · rw [rd_wr_reg (.inr h), ← on]
    · rw [rd_wr_reg (.inr h), rd_wr_reg (.inr h), rd_wr_reg (.inr h), ← on]
  · rw [rd_wr_reg (.inr h), rd_wr_reg (.inr h), rd_wr_reg (.inr h), ← on]

/-- Without any HELLO the table is empty. -/
theorem valid_updateRoutes (h : ∀ m, m < 4 → (s.moor m).helloAt = none) {i : Nat} (hi : i < 16) :
    s.updateRoutes.on F.HR_ROUTE_VALID i = false := by
  have emptied : ∀ (l : List Nat) (u : State), u.moors = s.moors → (i ∈ l ∨ u.on F.HR_ROUTE_VALID i = false) →
      (u.each l updateRoute).on F.HR_ROUTE_VALID i = false := by
    intro l
    induction l with
    | nil => exact fun u _ hu => hu.resolve_left List.not_mem_nil
    | cons k l ih =>
      intro u same hu
      refine ih (u.updateRoute k) ((moors_updateRoute u k).trans same) ?_
      by_cases hk : k = i
      · subst hk
        exact .inr (valid_updateRoute (fun m hm => (congrArg Moor.helloAt (moor_congr same m)).trans (h m hm)) k)
      · rcases hu with hu | hu
        · exact .inl ((List.mem_cons.1 hu).resolve_left (Ne.symm hk))
        · exact .inr ((valid_updateRoute_ne hk u).trans hu)
  rw [updateRoutes_eq]
  exact emptied _ s rfl (.inl (List.mem_range.2 hi))

theorem forgetRoutes_forgets (s : State) (m : Nat) : ((s.forgetRoutes m).moor m).helloAt = none ∧ ((s.forgetRoutes m).moor m).routes = [] ∧
    ((∀ k, k < 4 → k ≠ m → (s.moor k).helloAt = none) → ∀ i, i < 16 → (s.forgetRoutes m).on F.HR_ROUTE_VALID i = false) ∧
      s.Within (s.forgetRoutes m) [.HR_ROUTE] := by
  have moor : (s.forgetRoutes m).moor m = { s.moor m with routes := [], helloAt := none } := by
    rw [forgetRoutes, moor_congr (moors_updateRoutes _), moor_modMoor_same]
  refine ⟨by rw [moor], by rw [moor], fun others i hi => valid_updateRoutes (fun k hk => ?_) hi,
    updateRoutes_within ((Within.refl s [.HR_ROUTE]).plain (stored_modMoor ..))⟩
  by_cases e : k = m
  · rw [e, moor_modMoor_same]
  · rw [moor_modMoor_ne e]
    exact others k hk e

/-! ### Packets that wait (R472, R474) -/

theorem stored_queuePacket (s : State) (m : Nat) (p : CcPacket) : (s.queuePacket m p).stored = s.stored := rfl

theorem ccUser_queuePacket (s : State) (m : Nat) (p : CcPacket) : (s.queuePacket m p).ccUser = s.ccUser := rfl

theorem queued_queuePacket {p : CcPacket} (h : p.type = 0) (s : State) (m : Nat) :
    ((s.queuePacket m p).moor m).queued = (s.moor m).queued ++ [p] := by
  rw [queuePacket, moor_modMoor_same, if_pos (beq_iff_eq.2 h)]

theorem urgent_queuePacket {p : CcPacket} (h : p.type ≠ 0) (s : State) (m : Nat) :
    ((s.queuePacket m p).moor m).urgent = (s.moor m).urgent ++ [p] := by
  rw [queuePacket, moor_modMoor_same, if_neg (by simp [h])]

theorem moor_queuePacket_ne {k : Nat} (h : k ≠ m) (s : State) (p : CcPacket) : (s.queuePacket m p).moor k = s.moor k :=
  moor_modMoor_ne h ..

/-- The HELLO on every port that is on. -/
def sendHello (s : State) : State := (s.each s.portsOn fun u m => u.queuePacket m (s.ownPacket 0xFF 2 s.helloBytes)).nextCcSeq

theorem helloSend_due (h : s.tick.toNat % 256 = 0) : s.helloSend = s.sendHello := if_neg (by simp [h])

theorem stored_nextCcSeq (s : State) : s.nextCcSeq.stored = s.stored := rfl

theorem moor_nextCcSeq (s : State) (k : Nat) : s.nextCcSeq.moor k = s.moor k := rfl

theorem stored_sendHello (s : State) : s.sendHello.stored = s.stored := by
  rw [sendHello, stored_nextCcSeq]
  exact each_keeps State.stored (fun u m => u.stored_queuePacket m _) _ s

theorem seq_sendHello (s : State) : s.sendHello.ccUser.seq = (s.ccUser.seq + 1) % 65536 := by
  have same : (s.each s.portsOn fun u m => u.queuePacket m (s.ownPacket 0xFF 2 s.helloBytes)).ccUser = s.ccUser :=
    each_keeps State.ccUser (fun u m => u.ccUser_queuePacket m _) _ s
  have next (u : State) : u.nextCcSeq.ccUser.seq = (u.ccUser.seq + 1) % 65536 := rfl
  rw [sendHello, next, same]

theorem nodup_portsOn (s : State) : s.portsOn.Nodup := List.nodup_range.filter _

theorem mem_portsOn {m : Nat} (hm : m < 4) : m ∈ s.portsOn ↔ s.portOn m = true := by
  rw [portsOn, List.mem_filter, List.mem_range]
  exact and_iff_right hm

theorem urgent_sendHello (hm : m < 4) : (s.sendHello.moor m).urgent =
    if s.portOn m = true then (s.moor m).urgent ++ [s.ownPacket 0xFF 2 s.helloBytes] else (s.moor m).urgent := by
  rw [sendHello, moor_nextCcSeq]
  split
  · next h =>
    obtain ⟨u, same, last⟩ := each_updates_view (fun u => u.moor m) (f := fun u m => u.queuePacket m (s.ownPacket 0xFF 2 s.helloBytes))
      (fun u k hk => u.moor_queuePacket_ne (Ne.symm hk) _) s.nodup_portsOn ((mem_portsOn hm).2 h) s
    have same : u.moor m = s.moor m := same
    refine (congrArg Moor.urgent last).trans ?_
    rw [urgent_queuePacket (Nat.succ_ne_zero 1), same]
  · next h =>
    have kept := each_keeps_mem (fun u => u.moor m) (f := fun u m => u.queuePacket m (s.ownPacket 0xFF 2 s.helloBytes)) (l := s.portsOn)
      (fun u k hk => u.moor_queuePacket_ne (fun e => h ((mem_portsOn hm).1 (by rw [e]; exact hk))) _) s
    exact congrArg Moor.urgent kept

/-! ### Packets that come (R474) -/

theorem ccReceive_damaged (hl : s.portLinks m = true) (p : CcPacket) :
    s.ccReceive m p false = (s.count ⟨.hr, 11, m⟩ 1).raise F.HR_STICKY_CC_DROP m :=
  (if_neg (by simp [hl])).trans (if_pos rfl)

theorem id_lt (s : State) : s.rd F.HR_CFG_ID 0 < 16 := Field.get_lt ..

theorem deliverUser_fits {p : CcPacket} (h : ccRxUsed s.ccUser + 4 * (1 + (packWords p.payload).length) ≤ 16384) :
    s.deliverUser p = { s with ccUser := { s.ccUser with
      rx := s.ccUser.rx ++ [BitVec.ofNat 32 (p.src * 65536 + p.payload.length) :: packWords p.payload] } } := by
  refine if_neg ?_
  rw [List.length_cons]
  omega

theorem ccReceive_taken {p : CcPacket} (hl : s.portLinks m = true) (ht : p.type = 0) (hn : p.payload.length ≤ 250)
    (hd : p.dst = s.rd F.HR_CFG_ID 0) : s.ccReceive m p true = s.deliverUser p := by
  have notAll : p.dst ≠ 0xFF := by have := s.id_lt; omega
  refine (if_neg (by simp [hl])).trans ((if_neg (by simp)).trans ((if_neg ?_).trans ((if_neg (by simp [notAll])).trans
    ((if_pos (by simp [hd])).trans (if_pos (by simp [ht]))))))
  simp [ht, hn]

theorem ccReceive_onward {p : CcPacket} {k : Nat} (hl : s.portLinks m = true) (ht : p.type = 0) (hn : p.payload.length ≤ 250)
    (hd : p.dst ≠ s.rd F.HR_CFG_ID 0) (ha : p.dst ≠ 0xFF) (hp : 2 ≤ p.ttl) (hr : s.routeTo p.dst = some k) :
    s.ccReceive m p true = s.queuePacket k { p with ttl := p.ttl - 1 } := by
  have ship : s.shipPacket { p with ttl := p.ttl - 1 } none = s.queuePacket k { p with ttl := p.ttl - 1 } := by
    refine (if_neg (by simp [ha])).trans ?_
    rw [hr]
  refine (if_neg (by simp [hl])).trans ((if_neg (by simp)).trans ((if_neg ?_).trans ((if_neg (by simp [ha])).trans
    ((if_neg (by simp [hd])).trans ((if_pos hp).trans ship)))))
  simp [ht, hn]

/-! ### The user's words (R474) -/

theorem ccWrite_descriptor {v : Word} (hw : s.ccUser.writing = none) (h0 : v.toNat % 65536 ≠ 0) (hn : v.toNat % 65536 ≤ 250)
    (hf : s.ccTxUsed + 6 + v.toNat % 65536 ≤ 16384) : s.ccWrite v = { s with ccUser := { s.ccUser with
      writing := some (v.toNat / 65536 % 256, ⟨v.toNat % 65536, [], false⟩) } } := by
  have bad : (decide (250 < v.toNat % 65536) || decide (16384 < s.ccTxUsed + 6 + v.toNat % 65536)) = false := by simp; omega
  unfold ccWrite
  rw [hw]
  simp only [bad]
  exact if_neg (by simp [h0])

/-- The packet is complete. -/
def endWriting (s : State) : State := { s with ccUser := { s.ccUser with writing := none } }

theorem sendOwn_routed {dst k : Nat} (ha : dst ≠ 0xFF) (hr : s.routeTo dst = some k) (payload : List Byte) :
    s.sendOwn dst 0 payload = (s.queuePacket k (s.ownPacket dst 0 payload)).nextCcSeq := by
  have ship : s.shipPacket (s.ownPacket dst 0 payload) none = s.queuePacket k (s.ownPacket dst 0 payload) := by
    refine (if_neg (by simp [ownPacket, ha])).trans ?_
    rw [ownPacket, hr]
  refine (if_neg (by simp [ha])).trans ?_
  rw [ship]

theorem ccWrite_last {v : Word} {dst : Nat} {w : GccWriting} (hw : s.ccUser.writing = some (dst, w)) (hb : w.bad = false)
    (hl : wordsOf w.len ≤ w.words.length + 1) : s.ccWrite v = s.endWriting.sendOwn dst 0 ((unpackWords (w.words ++ [v])).take w.len) := by
  have whole : wordsOf w.len ≤ (w.words ++ [v]).length := by
    rw [List.length_append]
    exact hl
  unfold ccWrite
  rw [hw]
  exact (if_pos whole).trans (if_neg (by simp [hb]))

/-- The user's packet waits on its route. -/
theorem ccWrite_sends {v : Word} {dst k : Nat} {w : GccWriting} (hw : s.ccUser.writing = some (dst, w)) (hb : w.bad = false)
    (hl : wordsOf w.len ≤ w.words.length + 1) (ha : dst ≠ 0xFF) (hr : s.routeTo dst = some k) :
    (s.ccWrite v).ccUser.writing = none ∧ (s.ccWrite v).ccUser.seq = (s.ccUser.seq + 1) % 65536 ∧
      ((s.ccWrite v).moor k).queued = (s.moor k).queued ++ [s.ownPacket dst 0 ((unpackWords (w.words ++ [v])).take w.len)] ∧
      (s.ccWrite v).stored = s.stored := by
  have sent : s.ccWrite v = (s.endWriting.queuePacket k (s.ownPacket dst 0 ((unpackWords (w.words ++ [v])).take w.len))).nextCcSeq :=
    (ccWrite_last hw hb hl).trans (sendOwn_routed (s := s.endWriting) ha hr _)
  have user (u : State) : u.nextCcSeq.ccUser = { u.ccUser with seq := (u.ccUser.seq + 1) % 65536 } := rfl
  have ended : s.endWriting.ccUser = { s.ccUser with writing := none } ∧ s.endWriting.stored = s.stored ∧ s.endWriting.moor k = s.moor k :=
    ⟨rfl, rfl, rfl⟩
  obtain ⟨endUser, endStored, endMoor⟩ := ended
  rw [sent, user, ccUser_queuePacket, endUser, moor_nextCcSeq, stored_nextCcSeq, stored_queuePacket, endStored, queued_queuePacket rfl, endMoor]
  exact ⟨rfl, rfl, rfl, rfl⟩

theorem pop_words {c : CcUser} {w : Word} {ws : List Word} {rest : List (List Word)} (h : c.rx = (w :: ws) :: rest) :
    c.pop.rx = if ws = [] then rest else ws :: rest := by
  unfold CcUser.pop
  rw [h]
  cases ws with
  | nil => rfl
  | cons x xs => rfl

theorem next_words {c : CcUser} {w : Word} {ws : List Word} {rest : List (List Word)} (h : c.rx = (w :: ws) :: rest) : c.next = w := by
  rw [CcUser.next, h]

theorem pop_empty {c : CcUser} (h : c.rx = []) : c.pop = c := by
  rw [CcUser.pop, h]

theorem next_empty {c : CcUser} (h : c.rx = []) : c.next = 0 := by
  rw [CcUser.next, h]

/-! ### A frame of a neighbour (R461 to R471) -/

/-- The frame has come: its uncorrectable words and its counts. -/
def countFrame (s : State) (m : Nat) (f : MooringFrame) : State :=
  let s := s.modMoor m fun x => { x with seen := true, bad := x.bad + f.uncorrectable }
  let eb := if 0 < f.uncorrectable then f.uncorrectable else if 0 < f.sbip then 1 else 0
  let s := ((s.count ⟨.hr, 8, m⟩ f.uncorrectable).count ⟨.hr, 9, m⟩ f.rebuilt).count ⟨.hr, 10, m⟩ f.sbip
  s.modSection (8 + m) fun c => { c with eb := c.eb + eb }

/-- What the overhead says of the neighbour. -/
def noteFrame (s : State) (m : Nat) (f : MooringFrame) : State :=
  let other := f.domain != s.reg .HR_DOMAIN 0 || f.role == 0
  s.modMoor m fun x =>
    { x with foreignRun := if other then x.foreignRun + 1 else 0, matchRun := if other then 0 else x.matchRun + 1, role := f.role,
             exp := f.exp, rmap := x.rmap.next f.rmap.toNat, bdi := x.bdi.next f.bdi.toNat,
             arrivals := ((f.tno.setWidth 16, f.arrival) :: x.arrivals).take 16, tno := f.tno, tnoAt := some s.now }

/-- The neighbour is shown, and SSF. -/
def showNeighbour (s : State) (m : Nat) (f : MooringFrame) : State :=
  let s := (s.wr F.HR_PORT_STAT_NBR_ID m f.sender).wr F.HR_PORT_STAT_NBR_HOPS m f.hops
  s.setPortSsf m (s.on F.HR_PORT_STAT_FOREIGN m || f.role == 0)

/-- BDI, PM and the delay of the hop. -/
def measureFrame (s : State) (m : Nat) (f : MooringFrame) : State :=
  let s := s.raiseIf ((s.moor m).bdi == ⟨1, 3⟩) F.HR_STICKY_BDI_RX m
  let s := s.modSection (8 + m) fun c =>
    { c with feb := c.feb + (if f.bei ≤ 528 then f.bei else 0), fd := c.fd + (f.bei == 0xFFF).toNat }
  s.measureHop m f

/-- Tick and time of the hop, on a worker. -/
def followFrame (s : State) (m : Nat) (f : MooringFrame) : State :=
  if s.isWorker && s.portLinks m && s.on F.HR_STAT_TVALID 0 && s.rd F.HR_STAT_TPORT 0 == m && s.devState != .startUp then
    (s.compareTick m f.tno).moorTime f
  else s

theorem mooringFrame_eq (hp : s.portOn m = true) (f : MooringFrame) : s.mooringFrame m f =
    let u := (s.moorLanes m f.good f.retried).countFrame m f
    if u.lanesFail m || 264 < f.uncorrectable then u.setPortSsf m true
    else ((((u.noteFrame m f).showNeighbour m f).measureFrame m f).followFrame m f).updateHops :=
  if_neg (by simp [hp])

/-- Nine good lanes and none lost: nothing is newly lost. -/
theorem moorLanes_clean (hl : s.rd F.HR_PORT_STAT_LOST m = 0) : ∃ g : Moor → Moor, s.moorLanes m 0x1FF 0 =
    (s.modMoor m g).wr F.HR_PORT_STAT_LOST m 0 := by
  unfold moorLanes
  simp only [hl]
  exact ⟨_, rfl⟩

theorem rd_countFrame (s : State) (m : Nat) (f : MooringFrame) (g : Field) (i : Nat) : (s.countFrame m f).rd g i = s.rd g i := rfl

theorem moor_countFrame (s : State) (m : Nat) (f : MooringFrame) :
    (s.countFrame m f).moor m = { s.moor m with seen := true, bad := (s.moor m).bad + f.uncorrectable } := by
  have plain (u : State) (a b c : Ctr) (i j k n : Nat) (g : SecondCount → SecondCount) :
      ((((u.count a i).count b j).count c k).modSection n g).moor m = u.moor m := rfl
  rw [countFrame, plain, moor_modMoor_same]

theorem ctr_countFrame (s : State) (m : Nat) (f : MooringFrame) :
    (s.countFrame m f).ctr ⟨.hr, 10, m⟩ = (s.ctr ⟨.hr, 10, m⟩ + f.sbip) % 2 ^ 48 := by
  have plain (u : State) (n : Nat) (g : SecondCount → SecondCount) (c : Ctr) : (u.modSection n g).ctr c = u.ctr c := rfl
  have moor (u : State) (g : Moor → Moor) (c : Ctr) : (u.modMoor m g).ctr c = u.ctr c := rfl
  rw [countFrame, plain, ctr_count_same, ctr_count_ne (Ctr.key_ne_of_num (by decide) (by decide) (by decide)),
    ctr_count_ne (Ctr.key_ne_of_num (by decide) (by decide) (by decide)), moor]

theorem lanesFail_none (hl : s.rd F.HR_PORT_STAT_LOST m = 0) (hr : s.cfg F.HR_PORT_CFG_RETIRE m = 0) : s.lanesFail m = false := by
  simp only [lanesFail, hl, hr, Nat.zero_testBit, Bool.or_self, List.filter_false, List.length_nil]
  rfl

theorem noteFrame_notes (s : State) (m : Nat) (f : MooringFrame) : ((s.noteFrame m f).moor m).tno = f.tno ∧
    ((s.noteFrame m f).moor m).tnoAt = some s.now ∧ ((s.noteFrame m f).moor m).seen = (s.moor m).seen := by
  rw [noteFrame, moor_modMoor_same]
  exact ⟨rfl, rfl, rfl⟩

theorem rd_noteFrame (s : State) (m : Nat) (f : MooringFrame) (g : Field) (i : Nat) : (s.noteFrame m f).rd g i = s.rd g i := rfl

theorem ctr_noteFrame (s : State) (m : Nat) (f : MooringFrame) (c : Ctr) : (s.noteFrame m f).ctr c = s.ctr c := rfl

theorem moors_setPortSsf (s : State) (m : Nat) (b : Bool) : (s.setPortSsf m b).moors = s.moors := by
  rw [setPortSsf, raiseIf_moors, wrBool_moors]

theorem ctrs_setPortSsf (s : State) (m : Nat) (b : Bool) : (s.setPortSsf m b).ctrs = s.ctrs := by
  rw [setPortSsf, raiseIf_ctrs]
  rfl

theorem showNeighbour_shows {f : MooringFrame} (hf : s.on F.HR_PORT_STAT_FOREIGN m = false) (hr : f.role ≠ 0) :
    (s.showNeighbour m f).on F.HR_PORT_STAT_SSF m = false ∧ (s.showNeighbour m f).rd F.HR_PORT_STAT_NBR_ID m = f.sender % 16 ∧
      (s.showNeighbour m f).rd F.HR_PORT_STAT_NBR_HOPS m = f.hops % 32 := by
  refine ⟨?_, ?_, ?_⟩
  · rw [showNeighbour, ssf_setPortSsf, on, rd_wr_apart rfl, rd_wr_apart rfl, ← on, hf, beq_false_of_ne hr]
    rfl
  · rw [showNeighbour, rd_setPortSsf rfl rfl (by decide) (by decide), rd_wr_apart rfl, rd_wr rfl]
    rfl
  · rw [showNeighbour, rd_setPortSsf rfl rfl (by decide) (by decide), rd_wr rfl]
    rfl

theorem moors_showNeighbour (s : State) (m : Nat) (f : MooringFrame) : (s.showNeighbour m f).moors = s.moors := by
  rw [showNeighbour, moors_setPortSsf, wr_moors, wr_moors]

theorem ctrs_showNeighbour (s : State) (m : Nat) (f : MooringFrame) : (s.showNeighbour m f).ctrs = s.ctrs := by
  rw [showNeighbour, ctrs_setPortSsf]
  rfl

theorem measureHop_keeps {β : Type} (view : State → β)
    (hw : ∀ (u : State) g i v, g.reg = .HR_DLY ∨ g.reg = .HR_OFS → view (u.wr g i v) = view u)
    (s : State) (m : Nat) (f : MooringFrame) : view (s.measureHop m f) = view s := by
  unfold measureHop
  split
  · exact (hw _ F.HR_OFS_VAL _ _ (.inr rfl)).trans (hw _ F.HR_DLY_VAL _ _ (.inl rfl))
  · rfl

/-- BDI and the delay of a hop are in registers of their own. -/
theorem measureFrame_keeps {β : Type} (view : State → β)
    (hw : ∀ (u : State) g i v, g.reg = .HR_DLY ∨ g.reg = .HR_OFS → view (u.wr g i v) = view u)
    (hr : ∀ (u : State) i, view (u.raise F.HR_STICKY_BDI_RX i) = view u)
    (hs : ∀ (u : State) n (g : SecondCount → SecondCount), view (u.modSection n g) = view u)
    (s : State) (m : Nat) (f : MooringFrame) : view (s.measureFrame m f) = view s := by
  have bdi (b : Bool) : view (s.raiseIf b F.HR_STICKY_BDI_RX m) = view s := by
    cases b
    · rfl
    · exact hr s m
  rw [measureFrame, measureHop_keeps view hw, hs, bdi]

theorem rd_measureFrame {g : Field} (h : g.reg = .HR_PORT_STAT ∨ g.reg = .HR_CFG) (s : State) (m : Nat) (f : MooringFrame) (i : Nat) :
    (s.measureFrame m f).rd g i = s.rd g i := by
  refine measureFrame_keeps (State.rd · g i) (fun u x j v e => ?_) (fun u j => ?_) (fun _ _ _ => rfl) s m f
  · refine rd_wr_reg (.inl fun same => ?_) ..
    rcases h with h | h <;> rcases e with e | e <;> exact absurd (e.symm.trans (same.trans h)) (by decide)
  · rcases h with h | h <;> exact rd_raise_apart (by simp +decide [Field.apart, h]) (by simp [h]) (by simp [h]) u j i

theorem moors_measureFrame (s : State) (m : Nat) (f : MooringFrame) : (s.measureFrame m f).moors = s.moors :=
  measureFrame_keeps State.moors (fun _ _ _ _ _ => rfl) (fun _ _ => raise_moors ..) (fun _ _ _ => rfl) s m f

theorem ctrs_measureFrame (s : State) (m : Nat) (f : MooringFrame) : (s.measureFrame m f).ctrs = s.ctrs :=
  measureFrame_keeps State.ctrs (fun _ _ _ _ _ => rfl) (fun _ _ => raise_ctrs ..) (fun _ _ _ => rfl) s m f

theorem Within.measureHop (h : s.Within t rs) (hd : Reg.HR_DLY ∈ rs) (ho : Reg.HR_OFS ∈ rs) (m : Nat) (f : MooringFrame) :
    s.Within (t.measureHop m f) rs := by
  unfold State.measureHop
  split
  · exact (h.wr F.HR_DLY_VAL hd m _).wr F.HR_OFS_VAL ho m _
  · exact h

theorem Within.modSection (h : s.Within t rs) (n : Nat) (g : SecondCount → SecondCount) : s.Within (t.modSection n g) rs := h.plain rfl

theorem Within.measureFrame (h : s.Within t rs) (hs : Reg.HR_STICKY ∈ rs) (hd : Reg.HR_DLY ∈ rs) (ho : Reg.HR_OFS ∈ rs) (m : Nat)
    (f : MooringFrame) : s.Within (t.measureFrame m f) rs :=
  ((h.raiseIf _ F.HR_STICKY_BDI_RX hs m).modSection _ _).measureHop hd ho m f

theorem followFrame_manager (h : s.isManager = true) (f : MooringFrame) : s.followFrame m f = s := by
  have role : s.rd F.HR_CFG_ROLE 0 = 1 := beq_iff_eq.1 h
  have worker : s.isWorker = false := by rw [isWorker, role]; rfl
  exact if_neg (by simp [worker])

theorem updateHops_manager (h : s.isManager = true) : s.updateHops = s.wr F.HR_STAT_HOPS 0 0 := by
  have role : s.rd F.HR_CFG_ROLE 0 = 1 := beq_iff_eq.1 h
  have hops : s.hopCount = (0, none) := if_pos h
  have worker : (s.wr F.HR_STAT_HOPS 0 0).isWorker = false := by
    rw [isWorker, rd_wr_apart rfl, role]
    rfl
  unfold updateHops
  simp only [hops]
  exact if_pos (by simp [worker])

/-- What a manager makes of a good frame. -/
def managerFrame (s : State) (m : Nat) (f : MooringFrame) : State :=
  ((((s.countFrame m f).noteFrame m f).showNeighbour m f).measureFrame m f).wr F.HR_STAT_HOPS 0 0

theorem mooringFrame_manager {f : MooringFrame} (hp : s.portOn m = true) (hm : s.isManager = true) (hg : f.good = 0x1FF) (hr : f.retried = 0)
    (hu : f.uncorrectable = 0) (hl : s.rd F.HR_PORT_STAT_LOST m = 0) (ht : s.cfg F.HR_PORT_CFG_RETIRE m = 0) :
    ∃ g : Moor → Moor, s.mooringFrame m f = ((s.modMoor m g).wr F.HR_PORT_STAT_LOST m 0).managerFrame m f := by
  obtain ⟨g, lanes⟩ := moorLanes_clean hl
  refine ⟨g, ?_⟩
  have lost : ((s.modMoor m g).wr F.HR_PORT_STAT_LOST m 0).rd F.HR_PORT_STAT_LOST m = 0 := rd_wr_fits rfl (by decide) _ m
  have noFail : (((s.modMoor m g).wr F.HR_PORT_STAT_LOST m 0).countFrame m f).lanesFail m = false :=
    lanesFail_none lost ht
  have role : ∀ u : State, u.rd F.HR_CFG_ROLE 0 = s.rd F.HR_CFG_ROLE 0 → u.isManager = true := fun u e => by rw [isManager, e, ← isManager, hm]
  have manager : (((((s.modMoor m g).wr F.HR_PORT_STAT_LOST m 0).countFrame m f).noteFrame m f).showNeighbour m f |>.measureFrame m f).isManager
      = true := by
    refine role _ ?_
    rw [rd_measureFrame (.inr rfl), showNeighbour, rd_setPortSsf rfl rfl (by decide) (by decide), rd_wr_apart rfl, rd_wr_apart rfl,
      rd_noteFrame, rd_countFrame, rd_wr_apart rfl, rd_modMoor]
  rw [mooringFrame_eq hp, hg, hr, lanes]
  refine (if_neg (by simp [noFail, hu])).trans ?_
  rw [followFrame_manager manager, updateHops_manager manager]
  rfl

theorem managerFrame_shows {f : MooringFrame} (hf : s.on F.HR_PORT_STAT_FOREIGN m = false) (hr : f.role ≠ 0) :
    (s.managerFrame m f).on F.HR_PORT_STAT_SSF m = false ∧ (s.managerFrame m f).rd F.HR_PORT_STAT_NBR_ID m = f.sender % 16 ∧
      (s.managerFrame m f).rd F.HR_PORT_STAT_NBR_HOPS m = f.hops % 32 ∧ (s.managerFrame m f).rd F.HR_STAT_HOPS 0 = 0 := by
  have foreign : ((s.countFrame m f).noteFrame m f).on F.HR_PORT_STAT_FOREIGN m = false := by rw [on, rd_noteFrame, rd_countFrame, ← on, hf]
  obtain ⟨ssf, id, hops⟩ := showNeighbour_shows (f := f) foreign hr
  refine ⟨?_, ?_, ?_, rd_wr_fits rfl (by decide) _ 0⟩
  · rw [on, managerFrame, rd_wr_apart rfl, rd_measureFrame (.inl rfl), ← on, ssf]
  · rw [managerFrame, rd_wr_apart rfl, rd_measureFrame (.inl rfl), id]
  · rw [managerFrame, rd_wr_apart rfl, rd_measureFrame (.inl rfl), hops]

theorem managerFrame_notes (s : State) (m : Nat) (f : MooringFrame) : ((s.managerFrame m f).moor m).tno = f.tno ∧
    ((s.managerFrame m f).moor m).tnoAt = some s.now ∧ ((s.managerFrame m f).moor m).seen = true ∧
      (s.managerFrame m f).ctr ⟨.hr, 10, m⟩ = (s.ctr ⟨.hr, 10, m⟩ + f.sbip) % 2 ^ 48 := by
  have moors : (s.managerFrame m f).moors = ((s.countFrame m f).noteFrame m f).moors := by
    rw [managerFrame, wr_moors, moors_measureFrame, moors_showNeighbour]
  have ctrs : (s.managerFrame m f).ctrs = ((s.countFrame m f).noteFrame m f).ctrs := by
    rw [managerFrame, wr_ctrs, ctrs_measureFrame, ctrs_showNeighbour]
  obtain ⟨tno, came, seen⟩ := (s.countFrame m f).noteFrame_notes m f
  rw [moor_congr moors, ctr, ctrs, ← ctr, ctr_noteFrame, ctr_countFrame]
  exact ⟨tno, came, seen.trans (congrArg Moor.seen (s.moor_countFrame m f)), rfl⟩

/-- The registers that a frame may change. -/
def frameRegs : List Reg := [.HR_PORT_STAT, .HR_STICKY, .HR_DLY, .HR_OFS, .HR_STAT]

theorem stored_count (s : State) (c : Ctr) (n : Nat) : (s.count c n).stored = s.stored := rfl

theorem stored_modSection (s : State) (n : Nat) (g : SecondCount → SecondCount) : (s.modSection n g).stored = s.stored := rfl

theorem stored_countFrame (s : State) (m : Nat) (f : MooringFrame) : (s.countFrame m f).stored = s.stored := by
  rw [countFrame, stored_modSection, stored_count, stored_count, stored_count, stored_modMoor]

theorem stored_noteFrame (s : State) (m : Nat) (f : MooringFrame) : (s.noteFrame m f).stored = s.stored := rfl

theorem Within.showNeighbour (h : s.Within t rs) (hr : Reg.HR_PORT_STAT ∈ rs) (hs : Reg.HR_STICKY ∈ rs) (m : Nat) (f : MooringFrame) :
    s.Within (t.showNeighbour m f) rs :=
  (((h.wr F.HR_PORT_STAT_NBR_ID hr m f.sender).wr F.HR_PORT_STAT_NBR_HOPS hr m f.hops).wrBool F.HR_PORT_STAT_SSF hr m _).raiseIf _
    F.HR_STICKY_PORT_FAIL hs m

theorem managerFrame_within (h : s.Within t frameRegs) (m : Nat) (f : MooringFrame) : s.Within (t.managerFrame m f) frameRegs := by
  have noted : s.Within ((t.countFrame m f).noteFrame m f) frameRegs :=
    h.plain ((stored_noteFrame ..).trans (stored_countFrame ..))
  exact ((noted.showNeighbour (by decide) (by decide) m f).measureFrame (by decide) (by decide) (by decide) m f).wr F.HR_STAT_HOPS
    (by decide) 0 0

end State

/-- Settles O49: mooring frames, lanes, the timing port, HELLO, routes and the control channel. -/
theorem mooringPortsWork : Obligations.MooringPortsWork := by
  unfold Obligations.MooringPortsWork
  refine ⟨fun m f s => ⟨fun hp hm hg hr hu ho hl ht hf => ?_, fun off => ?_⟩, fun m j s hp hl hr hg => ?_,
    fun i v s alone => ⟨fun one => ?_, fun more => ?_⟩, fun m s => ⟨fun hp hc hv => ?_, fun few => ?_⟩,
    fun m s hp => ⟨fun hf hr => ?_, fun hf hr => ?_⟩,
    fun s hw hv => ⟨fun p hh hp hl => ?_, fun hh => ?_, fun n hn hd ht => ?_, fun hr => ?_, fun few => ?_⟩,
    fun s => ⟨fun h => ?_, fun h => ?_⟩, fun m h s hl => ⟨fun hs => ?_, fun hs hn => ?_⟩,
    fun m n s ha => ⟨fun late => ?_, fun early hl => ?_⟩,
    fun m p s hl => ⟨?_, fun ht hn hd fits => ?_, fun k ht hn hd ha hp hr => ?_⟩,
    fun i v s alone => ⟨fun hw h0 hn hf => ?_, fun dst k w hw hb hl ha hr => ?_⟩, fun i s => ⟨fun w ws rest h => ?_, fun h => ?_⟩⟩
  · obtain ⟨g, run⟩ := State.mooringFrame_manager hp hm hg hr hu hl ht
    have foreign : ((s.modMoor m.val g).wr F.HR_PORT_STAT_LOST m.val 0).on F.HR_PORT_STAT_FOREIGN m.val = false := by
      rw [State.on, State.rd_wr_apart rfl, State.rd_modMoor]
      exact hf
    obtain ⟨ssf, id, hops, mine⟩ := State.managerFrame_shows (f := f) foreign ho
    obtain ⟨tno, came, seen, counted⟩ := ((s.modMoor m.val g).wr F.HR_PORT_STAT_LOST m.val 0).managerFrame_notes m.val f
    have lanes : s.Within ((s.modMoor m.val g).wr F.HR_PORT_STAT_LOST m.val 0) State.frameRegs :=
      ((State.Within.refl s _).plain (State.stored_modMoor ..)).wr F.HR_PORT_STAT_LOST (by decide) m.val 0
    have frame := State.managerFrame_within lanes m.val f
    exact ⟨_, congrArg Host.Outcome.next run, ssf, id, hops, tno, came, seen, counted, mine, frame.regs, frame.memory⟩
  · exact congrArg Host.Outcome.next (if_pos (by simp [off]))
  · have frame : s.OnlyCopy (s.showRestored m.val j.val) m.val [.HR_PORT_STAT, .HR_STICKY] :=
      ((State.OnlyCopy.refl s _ _).wr F.HR_PORT_STAT_LOST (by decide) _).raise F.HR_STICKY_LANE_RESTORED (by decide)
    refine ⟨_, congrArg Host.Outcome.next (State.laneRestored_back hp hl hr hg), fun k => ?_,
      State.on_raise rfl rfl (by decide) (by decide) _ m.val, frame.regs, frame.memory⟩
    rw [State.lost_showRestored, testBit_sub_two_pow _ _ _ hl]
  · have frame := (State.OnlyCopy.refl s (s.mportSel i) [.HR_PORT_CFG]).setReg .HR_PORT_CFG (by decide) v
    have run := (State.write_alone alone i 0x29000014 (.retire (s.mportSel i) v) fun t => t.retireWrite (s.mportSel i) v).trans
      (congrArg (State.reply · i (.ok 0)) (State.retireWrite_one one))
    have whole := frame.plain (State.stored_reply _ i (.ok 0))
    exact ⟨_, congrArg Host.Outcome.next run, (State.rd_reply ..).trans (State.rd_setReg (f := F.HR_PORT_CFG_RETIRE) rfl ..),
      State.answer_reply .., whole.regs, whole.memory⟩
  · have frame := (State.OnlyCopy.refl s (s.mportSel i) [.HR_STICKY]).raise F.HR_STICKY_RETIRE_REJ (by decide)
    have run := (State.write_alone alone i 0x29000014 (.retire (s.mportSel i) v) fun t => t.retireWrite (s.mportSel i) v).trans
      (congrArg (State.reply · i (.ok 0)) (State.retireWrite_more more))
    have whole := frame.plain (State.stored_reply _ i (.ok 0))
    have raised : (s.raise F.HR_STICKY_RETIRE_REJ (s.mportSel i)).on F.HR_STICKY_RETIRE_REJ (s.mportSel i) = true :=
      State.on_raise rfl rfl (by decide) (by decide) s _
    refine ⟨_, congrArg Host.Outcome.next run, ?_, State.answer_reply .., whole.regs, whole.memory⟩
    rw [State.on, State.rd_reply, ← State.on, raised]
  · have frame := ((State.OnlyCopy.refl s m.val [.HR_PORT_STAT]).wr F.HR_PORT_STAT_FAR_RETIRE (by decide) (s.moor m.val).rmap.value).later
      (.rmapIdle m.val (BitVec.ofNat 9 (s.moor m.val).rmap.value))
    exact ⟨_, congrArg Host.Outcome.next (State.rmapAccept_takes hp hc hv), (State.rd_later ..).trans
      (State.rd_wr (f := F.HR_PORT_STAT_FAR_RETIRE) rfl ..), rfl, frame.regs, frame.memory⟩
  · exact congrArg Host.Outcome.next (if_neg (by simp; omega))
  · obtain ⟨foreign, ssf, raised, frame⟩ := s.turnForeign_shows m.val
    exact ⟨_, congrArg Host.Outcome.next (State.domainMis_foreign hp hf hr), foreign, ssf, raised, frame.regs, frame.memory⟩
  · have frame := (State.OnlyCopy.refl s m.val [.HR_PORT_STAT]).wr F.HR_PORT_STAT_FOREIGN (by decide) 0
    exact ⟨_, congrArg Host.Outcome.next (State.domainMis_back hp hf hr), State.on_wr (f := F.HR_PORT_STAT_FOREIGN) rfl rfl s m.val false,
      frame.regs, frame.memory⟩
  · have frame := ((State.OnlyCopy.refl s 0 [.HR_STAT, .HR_DSTICKY]).wr F.HR_STAT_TPORT (by decide) p).raise F.HR_DSTICKY_TIMING_SWITCH
      (by decide)
    refine ⟨_, congrArg Host.Outcome.next (State.timingSwitch_moves hw hv hh hp hl), ?_, State.on_raise rfl rfl (by decide) (by decide) _ 0,
      frame.regs, frame.memory⟩
    rw [State.rd_raise_apart rfl (by decide) (by decide), State.rd_wr rfl]
    rfl
  · exact congrArg Host.Outcome.next (State.timingSwitch_none hw hv hh)
  · exact ⟨_, congrArg Host.Outcome.next (State.workerTickSet_takes hw hv hn hd ht), rfl, rfl, rfl, rfl, ⟨rfl, rfl, rfl, rfl⟩⟩
  · have frame := ((State.OnlyCopy.refl s 0 [.HR_STAT, .TM_STICKY]).wr F.HR_STAT_MISMATCH (by decide) 1).raise F.TM_STICKY_TICK_MISMATCH
      (by decide)
    refine ⟨_, congrArg Host.Outcome.next (State.workerMismatch_runs hw hv hr), ?_, State.on_raise rfl rfl (by decide) (by decide) _ 0,
      State.raise_tick .., frame.regs, frame.memory⟩
    rw [State.on, State.rd_raise_apart rfl (by decide) (by decide), ← State.on]
    exact State.on_wr rfl rfl s 0 true
  · exact congrArg Host.Outcome.next (if_neg (by simp; omega))
  · exact ⟨_, congrArg Host.Outcome.next (State.helloSend_due h), fun m hm => State.urgent_sendHello hm, s.seq_sendHello,
      State.regs_of_stored s.stored_sendHello, State.sameMemory_of_stored s.stored_sendHello⟩
  · exact congrArg Host.Outcome.next (if_pos (by simp [h]))
  · obtain ⟨routes, came, serial, frame⟩ := s.learnHello_learns m.val h
    exact ⟨_, congrArg Host.Outcome.next (State.helloReceive_learns hl hs), routes, came, serial, frame.regs, frame.memory⟩
  · have frame := (State.OnlyCopy.refl s 0 [.HR_DSTICKY]).raise F.HR_DSTICKY_ID_CONFLICT (by decide)
    exact ⟨_, congrArg Host.Outcome.next (State.helloReceive_conflict hl hs hn), State.on_raise rfl rfl (by decide) (by decide) s 0,
      State.raise_moors .., frame.regs, frame.memory⟩
  · obtain ⟨came, routes, valid, frame⟩ := s.forgetRoutes_forgets m.val
    exact ⟨_, congrArg Host.Outcome.next (State.routeExpiry_over ha late), came, routes, valid, frame.regs, frame.memory⟩
  · exact congrArg Host.Outcome.next (State.routeExpiry_early ha early hl)
  · have frame := ((State.OnlyCopy.refl s m.val [.HR_STICKY]).count ⟨.hr, 11, m.val⟩ 1).raise F.HR_STICKY_CC_DROP (by decide)
    refine ⟨_, congrArg Host.Outcome.next (State.ccReceive_damaged hl p), ?_, State.on_raise rfl rfl (by decide) (by decide) _ m.val,
      State.raise_moors .., State.raise_ccUser .., frame.regs, frame.memory⟩
    rw [State.ctr_raise, State.ctr_count_same]
  · exact ⟨_, congrArg Host.Outcome.next ((State.ccReceive_taken hl ht hn hd).trans (State.deliverUser_fits fits)), rfl, rfl,
      ⟨rfl, rfl, rfl, rfl⟩, rfl⟩
  · exact ⟨_, congrArg Host.Outcome.next (State.ccReceive_onward hl ht hn hd ha hp hr),
      State.queued_queuePacket (p := { p with ttl := p.ttl - 1 }) ht s k, rfl, rfl,
      ⟨rfl, rfl, rfl, rfl⟩⟩
  · have run := (State.write_alone alone i 0x29000044 (.ccTx v) fun t => t.ccWrite v).trans
      (congrArg (State.reply · i (.ok 0)) (State.ccWrite_descriptor hw h0 hn hf))
    exact ⟨_, congrArg Host.Outcome.next run, rfl, rfl, State.answer_reply .., rfl, ⟨rfl, rfl, rfl, rfl⟩⟩
  · obtain ⟨writing, seq, queued, stored⟩ := State.ccWrite_sends (v := v) hw hb hl ha hr
    have run := State.write_alone alone i 0x29000044 (.ccTx v) fun t => t.ccWrite v
    have whole := (State.stored_reply (s.ccWrite v) i (.ok 0)).trans stored
    exact ⟨_, congrArg Host.Outcome.next run, (congrArg CcUser.writing (State.reply_ccUser ..)).trans writing,
      (congrArg CcUser.seq (State.reply_ccUser ..)).trans seq, (congrArg Moor.queued (State.moor_congr (State.reply_moors ..) k)).trans queued,
      State.answer_reply .., State.regs_of_stored whole, State.sameMemory_of_stored whole⟩
  · refine ⟨_, rfl, ?_, ?_, rfl, ⟨rfl, rfl, rfl, rfl⟩⟩
    · rw [State.answer_reply, State.next_words h]
    · exact State.pop_words h
  · have same : ({ s with ccUser := s.ccUser.pop } : State) = s := by rw [State.pop_empty h]
    have run : exec (.hrCcRxdRead i) s = .next (({ s with ccUser := s.ccUser.pop } : State).reply i (.ok s.ccUser.next)) := rfl
    rw [run, same, State.next_empty h]

end Sys2Proof.Machine
end

section
/-! A commit of the domain, on a device that journals nothing (O50). -/

namespace Sys2Proof.Machine

/-- What the packets of a commit leave alone. -/
structure Outside where
  stored : Stored
  domain : Option DomainCommit
  swap : Swap
  atBoundary : List Keyed
  now : Nat
  tick : Tick

namespace State

variable {s t u : State} {rs : List Reg}

/-- Registers and memories, the commit, the swap, what waits for the boundary, and the clock. -/
def outside (s : State) : Outside := ⟨s.stored, s.domain, s.swap, s.atBoundary, s.now, s.tick⟩

/-! ### Packets of a commit (R472, R474, R476) -/

theorem outside_queuePacket (s : State) (m : Nat) (p : CcPacket) : (s.queuePacket m p).outside = s.outside := rfl
theorem outside_nextCcSeq (s : State) : s.nextCcSeq.outside = s.outside := rfl
theorem outside_noteSeen (s : State) (a b : Nat) : (s.noteSeen a b).outside = s.outside := rfl

theorem outside_shipPacket (s : State) (p : CcPacket) (e : Option Nat) : (s.shipPacket p e).outside = s.outside := by
  unfold shipPacket
  split
  · exact each_keeps outside (fun u m => u.outside_queuePacket m p) _ s
  · split <;> rfl

theorem outside_sendOwn (s : State) (dst type : Nat) (b : List Byte) : (s.sendOwn dst type b).outside = s.outside := by
  unfold sendOwn
  split
  · rw [outside_noteSeen, outside_nextCcSeq, outside_shipPacket]
  · rw [outside_nextCcSeq, outside_shipPacket]

theorem outside_tellMembers (s : State) (d : DomainCommit) (msg : Nat) (n : Tick) : (s.tellMembers d msg n).outside = s.outside :=
  each_keeps outside (fun u i => u.outside_sendOwn i 1 _) _ s

theorem rd_of_outside (h : t.outside = s.outside) (f : Field) (i : Nat) : t.rd f i = s.rd f i :=
  rd_congr (regs_of_stored (congrArg Outside.stored h)) f i

theorem routeTo_of_outside (h : t.outside = s.outside) (i : Nat) : t.routeTo i = s.routeTo i := by
  rw [routeTo, routeTo, on, on, rd_of_outside h, rd_of_outside h]

theorem OnlyCopy.ofOutside (h : s.OnlyCopy t 0 rs) (hu : u.outside = t.outside) : s.OnlyCopy u 0 rs := h.plain (congrArg Outside.stored hu)

/-- A member's packet goes to the port of its route. -/
theorem sendOwn_member {dst : Nat} (h : dst ≠ 0xFF) (b : List Byte) : s.sendOwn dst 1 b =
    (match s.routeTo dst with | some m => s.queuePacket m (s.ownPacket dst 1 b) | none => s).nextCcSeq := by
  refine (if_neg (by simp [h])).trans (congrArg nextCcSeq ?_)
  exact if_neg (by simp [ownPacket, h])

theorem urgent_sendOwn_route {dst k : Nat} (h : dst ≠ 0xFF) (hr : s.routeTo dst = some k) (b : List Byte) :
    ((s.sendOwn dst 1 b).moor k).urgent = (s.moor k).urgent ++ [s.ownPacket dst 1 b] := by
  rw [sendOwn_member h, hr, moor_nextCcSeq]
  exact urgent_queuePacket (p := s.ownPacket dst 1 b) (Nat.succ_ne_zero 0) s k

/-- What waits on a port goes on waiting. -/
theorem urgent_sendOwn_keeps {dst k : Nat} (h : dst ≠ 0xFF) (b : List Byte) {p : CcPacket} (hp : p ∈ (s.moor k).urgent) :
    p ∈ ((s.sendOwn dst 1 b).moor k).urgent := by
  rw [sendOwn_member h, moor_nextCcSeq]
  split
  · next m _ =>
    by_cases e : k = m
    · rw [e, urgent_queuePacket (p := s.ownPacket dst 1 b) (Nat.succ_ne_zero 0) s m]
      exact List.mem_append_left _ (e ▸ hp)
    · rw [moor_queuePacket_ne e]
      exact hp
  · exact hp

/-- A commit packet for a member waits on a port. -/
def Told (s : State) (k j : Nat) (b : List Byte) : Prop := ∃ p, p ∈ (s.moor k).urgent ∧ p.dst = j ∧ p.type = 1 ∧ p.payload = b

theorem told_each {j k : Nat} (b : List Byte) (hr : s.routeTo j = some k) : ∀ (l : List Nat), (∀ i ∈ l, i ≠ 0xFF) → ∀ u : State,
    u.outside = s.outside → (u.Told k j b ∨ j ∈ l) → (u.each l fun u i => u.sendOwn i 1 b).Told k j b := by
  intro l
  induction l with
  | nil => exact fun _ u _ h => h.resolve_right List.not_mem_nil
  | cons i l ih =>
    intro hl u hu h
    have hi : i ≠ 0xFF := hl i List.mem_cons_self
    refine ih (fun x hx => hl x (List.mem_cons_of_mem i hx)) (u.sendOwn i 1 b) ((outside_sendOwn ..).trans hu) ?_
    rcases h with ⟨p, hp, told⟩ | h
    · exact .inl ⟨p, urgent_sendOwn_keeps hi b hp, told⟩
    · rcases List.mem_cons.1 h with e | h
      · subst e
        refine .inl ⟨u.ownPacket j 1 b, ?_, rfl, rfl, rfl⟩
        rw [urgent_sendOwn_route hi ((routeTo_of_outside hu j).trans hr)]
        exact List.mem_append_right _ (List.mem_singleton_self _)
      · exact .inr h

theorem tellMembers_tells {d : DomainCommit} {j k : Nat} (h1 : 1 ≤ j) (h16 : j < 16) (hj : d.members.testBit j = true)
    (hr : s.routeTo j = some k) (msg : Nat) (n : Tick) : (s.tellMembers d msg n).Told k j (commitBytes msg d.commit d.change n 0) := by
  refine told_each _ hr _ (fun i hi => ?_) s rfl (.inr ?_)
  · have lt : i < 16 := List.mem_range.1 (List.mem_filter.1 hi).1
    omega
  · refine List.mem_filter.2 ⟨List.mem_range.2 h16, ?_⟩
    rw [hj, Bool.and_true]
    exact bne_iff_ne.2 (Nat.one_le_iff_ne_zero.1 h1)

/-! ### The agent of a device that journals nothing (R430, R477) -/

theorem alone_congr (h : t.rd F.MT_STAT_STATE 0 = s.rd F.MT_STAT_STATE 0) (hs : s.Alone) : t.Alone := by
  have standby : t.standby = s.standby := by simp only [State.standby, h]
  have active : t.active = s.active := by simp only [State.active, h]
  exact ⟨standby.trans hs.1, active.trans hs.2⟩

theorem agent_alone (h : s.Alone) (a : AgentAct) : s.agent a = s.applyAgent a s.tick false := if_neg (by simp [h.2])

theorem agentLag_alone (h : s.Alone) : s.agentLag = 1 := if_neg (by simp [h.2])

/-- The agent holds the swap and arms it at the boundary. -/
def armOwn (s : State) (n : Tick) : State := (s.modSwap fun x => { x with holder := .domain }).later (.gridArm n s.tick)

/-- The agent lets the swap go and cancels it at the boundary. -/
def cancelOwn (s : State) : State :=
  (s.modSwap fun x => if x.holder == .domain then { x with holder := .nobody } else x).later (.gridCancel s.tick)

/-- The agent lets the swap go. -/
def releaseOwn (s : State) : State :=
  let idle := s.swapState == .idle && !s.swapPending
  s.modSwap fun x => if x.holder == .domain then { x with holder := .nobody, locked := x.locked && !idle } else x

theorem agent_arm (h : s.Alone) (n : Tick) : s.agent (.arm n) = s.armOwn n := (agent_alone h _).trans rfl
theorem agent_cancel (h : s.Alone) : s.agent .cancel = s.cancelOwn := (agent_alone h _).trans rfl
theorem agent_release (h : s.Alone) : s.agent .release = s.releaseOwn := (agent_alone h _).trans rfl

theorem tryOwn_arms (h : s.Alone) (hs : s.swap.holder = .nobody) (n : Tick) : s.tryOwn false n = (s.armOwn n, none) := by
  unfold tryOwn
  rw [if_neg Bool.false_ne_true, hs, agent_arm h]
  rfl

/-- The open commit. -/
def setDomain (s : State) (d : Option DomainCommit) : State := { s with domain := d }

theorem stored_armOwn (s : State) (n : Tick) : (s.armOwn n).stored = s.stored := rfl
theorem stored_cancelOwn (s : State) : s.cancelOwn.stored = s.stored := rfl
theorem stored_releaseOwn (s : State) : s.releaseOwn.stored = s.stored := rfl
theorem stored_setDomain (s : State) (d : Option DomainCommit) : (s.setDomain d).stored = s.stored := rfl

theorem armOwn_arms (s : State) (n : Tick) : (s.armOwn n).swap.holder = .domain ∧
    (s.armOwn n).atBoundary = s.atBoundary ++ [.gridArm n s.tick] ∧ (s.armOwn n).moors = s.moors ∧ (s.armOwn n).now = s.now :=
  ⟨rfl, rfl, rfl, rfl⟩

theorem holder_cancelOwn (h : s.swap.holder = .domain) : s.cancelOwn.swap.holder = .nobody := by
  have swap (u : State) (f : Swap → Swap) (k : Keyed) : ((u.modSwap f).later k).swap = f u.swap := rfl
  rw [cancelOwn, swap, h]
  rfl

theorem holder_releaseOwn (h : s.swap.holder = .domain) : s.releaseOwn.swap.holder = .nobody := by
  have swap (u : State) (f : Swap → Swap) : (u.modSwap f).swap = f u.swap := rfl
  rw [releaseOwn, swap, h]
  rfl

/-! ### HR_DC_STAT -/

theorem OnlyCopy.dcStat (h : s.OnlyCopy t 0 rs) (hr : Reg.HR_DC_STAT ∈ rs) (a b : Nat) : s.OnlyCopy (t.dcStat a b) 0 rs :=
  (h.wr F.HR_DC_STAT_STATE hr a).wr F.HR_DC_STAT_RESULT hr b

theorem dcStat_shows {a b : Nat} (ha : a < 8) (hb : b < 16) (s : State) :
    (s.dcStat a b).rd F.HR_DC_STAT_STATE 0 = a ∧ (s.dcStat a b).rd F.HR_DC_STAT_RESULT 0 = b := by
  refine ⟨?_, rd_wr_fits rfl hb _ 0⟩
  rw [dcStat, rd_wr_apart rfl]
  exact rd_wr_fits rfl ha s 0

theorem rd_dcStat {f : Field} (hf : f.reg ≠ .HR_DC_STAT) (s : State) (a b i : Nat) : (s.dcStat a b).rd f i = s.rd f i := by
  rw [dcStat, rd_wr_reg (.inl hf.symm), rd_wr_reg (.inl hf.symm)]

/-! ### START (R477, R478) -/

/-- HR_DC_CMD as it is kept. -/
def keepDc (s : State) (v : Word) : State := s.setReg .HR_DC_CMD 0 (v &&& 0xFFFFFFF8#32)

theorem rd_keepDc {f : Field} (h : f.reg ≠ .HR_DC_CMD) (s : State) (v : Word) (i : Nat) : (s.keepDc v).rd f i = s.rd f i :=
  rd_setReg_ne h.symm ..

/-- A field of HR_DC_CMD beside START. -/
theorem get_keepDc {f : Field} (hr : f.reg = .HR_DC_CMD) (hg : f.good = true) (hm : f.mask &&& 0xFFFFFFF8 = f.mask) (s : State) (v : Word) :
    (s.keepDc v).rd f 0 = f.get v := by
  rw [keepDc, ← hr, rd_setReg hg]
  exact Field.get_and hg hm v

theorem keepDc_frame (s : State) (v : Word) : s.OnlyCopy (s.keepDc v) 0 [.HR_DC_CMD] := (OnlyCopy.refl s 0 _).setReg .HR_DC_CMD (by decide) _

theorem dcCommand_starts {v : Word} (h : F.HR_DC_CMD_START.get v = 1) (hs : s.Alone) (w : Tick) :
    s.dcCommand v w = (s.keepDc v).dcStart w :=
  if_pos (by
    have standby : (s.keepDc v).standby = false := (alone_congr (s.rd_keepDc (by decide) v 0) hs).1
    exact (congrArg₂ (fun a b => a && !b) (beq_iff_eq.2 h) standby).trans rfl)

theorem dcAt_keepDc (s : State) (v : Word) : (s.keepDc v).dcAt = s.dcAt := by
  rw [dcAt, dcAt, rd_keepDc (by decide), rd_keepDc (by decide)]

theorem xlead_keepDc (s : State) (v : Word) : (s.keepDc v).xlead = s.xlead := s.rd_keepDc (by decide) v 0

theorem isManager_keepDc (s : State) (v : Word) : (s.keepDc v).isManager = s.isManager := by
  rw [isManager, isManager, rd_keepDc (by decide)]

theorem dcStart_busy (h : s.domain ≠ none) (w : Tick) : s.dcStart w = s.wr F.HR_DC_STAT_RESULT 0 2 :=
  if_pos (Option.isSome_iff_ne_none.2 h)

theorem dcStart_notManager (h : s.domain = none) (hm : s.isManager = false) (w : Tick) : s.dcStart w = s.wr F.HR_DC_STAT_RESULT 0 3 :=
  (if_neg (by simp [h])).trans (if_pos (by simp [hm]))

theorem dcStart_late {w : Tick} (h : s.domain = none) (hm : s.isManager = true) (hl : leadFrom w s.dcAt (65 + 3 * s.xlead) = false) :
    s.dcStart w = (s.wr F.HR_DC_STAT_RESULT 0 4).tickLate :=
  (if_neg (by simp [h])).trans ((if_neg (by simp [hm])).trans (if_pos (by simp [hl])))

/-- The registers of a commit that opens. -/
def openCommit (s : State) : State := ((s.dcStat 1 0).setReg .HR_DC_ACK 0 0).setReg .HR_DC_SKEW 0 0

/-- The commit that HR_DC_CMD describes. -/
def newCommit (s : State) (commit own : Bool) : DomainCommit where
  manager := true
  change := s.openCommit.rd F.HR_DC_CMD_CHANGE 0
  commit := commit
  n := s.dcAt
  members := s.rd F.HR_DC_CMD_MEMBERS 0
  own := own

theorem rd_openCommit {f : Field} (h1 : f.reg ≠ .HR_DC_STAT) (h2 : f.reg ≠ .HR_DC_ACK) (h3 : f.reg ≠ .HR_DC_SKEW) (s : State) (i : Nat) :
    s.openCommit.rd f i = s.rd f i := by
  rw [openCommit, rd_setReg_ne h3.symm, rd_setReg_ne h2.symm, rd_dcStat h1]

theorem openCommit_frame (s : State) : s.OnlyCopy s.openCommit 0 [.HR_DC_STAT, .HR_DC_ACK, .HR_DC_SKEW] :=
  (((OnlyCopy.refl s 0 _).dcStat (by decide) 1 0).setReg .HR_DC_ACK (by decide) 0).setReg .HR_DC_SKEW (by decide) 0

theorem openCommit_shows (s : State) : s.openCommit.rd F.HR_DC_STAT_STATE 0 = 1 ∧ s.openCommit.rd F.HR_DC_STAT_RESULT 0 = 0 ∧
    s.openCommit.rd F.HR_DC_ACK_MASK 0 = 0 ∧ s.openCommit.rd F.HR_DC_SKEW_MASK 0 = 0 := by
  obtain ⟨state, result⟩ := dcStat_shows (a := 1) (b := 0) (by decide) (by decide) s
  refine ⟨?_, ?_, ?_, rd_setReg (f := F.HR_DC_SKEW_MASK) rfl _ 0 0⟩
  · rw [openCommit, rd_setReg_ne (by decide), rd_setReg_ne (by decide), state]
  · rw [openCommit, rd_setReg_ne (by decide), rd_setReg_ne (by decide), result]
  · rw [openCommit, rd_setReg_ne (by decide)]
    exact rd_setReg (f := F.HR_DC_ACK_MASK) rfl _ 0 0

theorem plain_openCommit (s : State) : s.openCommit.swap = s.swap ∧ s.openCommit.atBoundary = s.atBoundary ∧ s.openCommit.now = s.now ∧
    s.openCommit.tick = s.tick ∧ s.openCommit.moors = s.moors := ⟨rfl, rfl, rfl, rfl, rfl⟩

/-- The commit opens: the members are told, and the own part is tried. -/
def openWith (s : State) (commit own : Bool) : State :=
  let d := s.newCommit commit own
  let u := s.openCommit.tellMembers d 1 s.dcAt
  let (u, bad) := if own then u.tryOwn commit s.dcAt else (u, none)
  { u with domain := some { d with replyAt := if own && bad.isNone then some (u.now + u.agentLag) else none } }

theorem dcStart_open {w : Tick} (h : s.domain = none) (hm : s.isManager = true) (hl : leadFrom w s.dcAt (65 + 3 * s.xlead) = true) :
    s.dcStart w = s.openWith (s.on F.HR_DC_CMD_ACTION 0) ((s.rd F.HR_DC_CMD_MEMBERS 0).testBit 0) :=
  (if_neg (by simp [h])).trans ((if_neg (by simp [hm])).trans (if_neg (by simp [hl])))

/-- The manager opens the commit, tells the members and arms its own part. -/
theorem dcStart_opens {w : Tick} (h : s.domain = none) (hs : s.Alone) (hm : s.isManager = true)
    (hl : leadFrom w s.dcAt (65 + 3 * s.xlead) = true) (ha : s.rd F.HR_DC_CMD_ACTION 0 = 0)
    (ho : (s.rd F.HR_DC_CMD_MEMBERS 0).testBit 0 = true) (hf : s.swap.holder = .nobody) :
    s.dcStart w = ((s.openCommit.tellMembers (s.newCommit false true) 1 s.dcAt).armOwn s.dcAt).setDomain
      (some { s.newCommit false true with replyAt := some (s.now + 1) }) := by
  have swapOf : (s.openCommit.tellMembers (s.newCommit false true) 1 s.dcAt).outside = s.openCommit.outside := outside_tellMembers ..
  have free : (s.openCommit.tellMembers (s.newCommit false true) 1 s.dcAt).swap.holder = .nobody :=
    (congrArg (fun x : Outside => x.swap.holder) swapOf).trans ((congrArg Swap.holder s.plain_openCommit.1).trans hf)
  have alone : (s.openCommit.tellMembers (s.newCommit false true) 1 s.dcAt).Alone :=
    alone_congr ((rd_of_outside swapOf ..).trans (rd_openCommit (by decide) (by decide) (by decide) s 0)) hs
  have later : ((s.openCommit.tellMembers (s.newCommit false true) 1 s.dcAt).armOwn s.dcAt).Alone :=
    alone_congr (rd_congr (regs_of_stored (stored_armOwn ..)) ..) alone
  have now : ((s.openCommit.tellMembers (s.newCommit false true) 1 s.dcAt).armOwn s.dcAt).now = s.now :=
    (armOwn_arms ..).2.2.2.trans ((congrArg Outside.now swapOf).trans s.plain_openCommit.2.2.1)
  have action : s.on F.HR_DC_CMD_ACTION 0 = false := by rw [on, ha]; rfl
  have opened : s.openWith false true = ((s.openCommit.tellMembers (s.newCommit false true) 1 s.dcAt).armOwn s.dcAt).setDomain
      (some { s.newCommit false true with replyAt := some (((s.openCommit.tellMembers (s.newCommit false true) 1 s.dcAt).armOwn s.dcAt).now +
        ((s.openCommit.tellMembers (s.newCommit false true) 1 s.dcAt).armOwn s.dcAt).agentLag) }) := by
    simp only [openWith, if_true, tryOwn_arms alone free]
    rfl
  rw [dcStart_open h hm hl, action, ho, opened, agentLag_alone later, now]

/-! ### ARM and the answers of members (R476, R477) -/

theorem dcArm_arms {change : Nat} (hw : s.isWorker = true) (hs : s.Alone) (h : s.domain = none) (hm : s.on F.HR_STAT_MISMATCH 0 = false)
    (hf : s.swap.holder = .nobody) (n : Tick) : s.dcArm change false n = (s.armOwn n).setDomain
      (some { manager := false, change := change, commit := false, n := n, replyAt := some (s.now + 1) }) := by
  have later : (s.armOwn n).Alone := alone_congr (rd_congr (regs_of_stored (stored_armOwn ..)) ..) hs
  have armed : s.dcArm change false n = (s.armOwn n).setDomain (some
      { manager := false, change := change, commit := false, n := n, replyAt := some ((s.armOwn n).now + (s.armOwn n).agentLag) }) := by
    unfold dcArm
    rw [if_neg (by simp [hw, hs.1])]
    simp only [h, Option.isSome_none, hm, Bool.false_eq_true, if_false, tryOwn_arms hs hf]
    rfl
  rw [armed, agentLag_alone later, (armOwn_arms s n).2.2.2]

theorem dcArm_busy (hw : s.isWorker = true) (hs : s.Alone) (h : s.domain ≠ none) (change : Nat) (commit : Bool) (n : Tick) :
    s.dcArm change commit n = s.sendOwn 0 1 (commitBytes 3 commit change n 0xF1) :=
  (if_neg (by simp [hw, hs.1])).trans (if_pos (Option.isSome_iff_ne_none.2 h))

theorem testBit_setBit (w i k : Nat) : (setBit w i).testBit k = (decide (k = i) || w.testBit k) := by
  rw [setBit, Nat.testBit_or, Nat.testBit_two_pow, Bool.or_comm]
  exact congrArg (· || w.testBit k) (decide_eq_decide.2 eq_comm)

/-- An answer is noted. -/
def noteAnswer (s : State) (i : Nat) : State := s.wr F.HR_DC_ACK_MASK 0 (setBit (s.rd F.HR_DC_ACK_MASK 0) i)

theorem noteAnswer_notes {i : Nat} (hi : i < 32) (s : State) {k : Nat} (_ : k < 32) :
    ((s.noteAnswer i).rd F.HR_DC_ACK_MASK 0).testBit k = (decide (k = i) || (s.rd F.HR_DC_ACK_MASK 0).testBit k) := by
  have fits : setBit (s.rd F.HR_DC_ACK_MASK 0) i < 2 ^ F.HR_DC_ACK_MASK.width :=
    Nat.or_lt_two_pow (Field.get_lt ..) (Nat.pow_lt_pow_right (by decide) hi)
  rw [noteAnswer, rd_wr_fits rfl fits, testBit_setBit]

theorem dcReply_named {d : DomainCommit} {mb : Nat} (h : s.domain = some d) (hm : d.manager = true) (hb : d.members.testBit mb = true)
    (r : DomainReply) : s.dcReply mb d.change d.n r =
      match r with
      | .armed => s.noteAnswer (16 + mb)
      | .applied => s.noteAnswer mb
      | .refused _ | .failed _ => s := by
  unfold dcReply
  rw [h]
  refine (if_pos (by simp [hm, hb])).trans ?_
  cases r <;> rfl

/-! ### The manager decides and closes (R477, R479) -/

theorem dcDecide_early {d : DomainCommit} (h : s.domain = some d) (hw : s.within d.n (16 + s.xlead) = false) : s.dcDecide = s := by
  unfold dcDecide
  rw [h]
  exact if_pos (by simp [hw])

/-- The members are told GO. -/
def goAll (s : State) (d : DomainCommit) : State := (s.tellMembers d 4 d.n).wr F.HR_DC_STAT_STATE 0 2

/-- The members are told ABORT. -/
def abortAll (s : State) (d : DomainCommit) : State := (s.tellMembers d 5 d.n).dcStat 3 5

theorem dcDecide_goes {d : DomainCommit} (h : s.domain = some d) (hc : d.commit = false) (hm : d.manager = true) (hd : d.decided = false)
    (hw : s.within d.n (16 + s.xlead) = true) (all : s.rd F.HR_DC_ACK_MASK 0 / 65536 = d.members) :
    s.dcDecide = (s.goAll d).setDomain (some { d with decided := true, go := true }) := by
  have quiet : ¬((d.own && d.commit) = true) := by simp [hc]
  unfold dcDecide
  rw [h]
  refine (if_neg (by simp [hm, hd, hw])).trans ((if_pos (by simp [all])).trans ?_)
  exact congrArg (State.setDomain · _) (if_neg quiet)

theorem dcDecide_aborts {d : DomainCommit} (h : s.domain = some d) (hs : s.Alone) (hc : d.commit = false) (hm : d.manager = true)
    (hd : d.decided = false) (hw : s.within d.n (16 + s.xlead) = true) (partly : s.rd F.HR_DC_ACK_MASK 0 / 65536 ≠ d.members) :
    s.dcDecide = ((if d.own && (s.abortAll d).swap.holder == .domain then (s.abortAll d).cancelOwn else s.abortAll d).setDomain none).raise
      F.HR_DSTICKY_DC_DONE 0 := by
  have alone : (s.abortAll d).Alone :=
    alone_congr ((rd_dcStat (by decide) ..).trans (rd_of_outside (outside_tellMembers ..) ..)) hs
  unfold dcDecide
  rw [h]
  refine (if_neg (by simp [hm, hd, hw])).trans ((if_neg (by simp [partly])).trans ?_)
  rw [← agent_cancel alone]
  simp only [hc, Bool.not_false, Bool.and_true]
  rfl

theorem dcClose_early {d : DomainCommit} (h : s.domain = some d) (hp : s.past d.n (16 + s.xlead) = false) : s.dcClose = s := by
  unfold dcClose
  rw [h]
  exact if_pos (by simp [hp])

/-- The members that have not applied. -/
def skewOf (s : State) (d : DomainCommit) : Nat :=
  ((List.range 16).filter fun i => d.members.testBit i && !(s.rd F.HR_DC_ACK_MASK 0 % 65536).testBit i).foldl setBit 0

theorem testBit_setBits (l : List Nat) (w k : Nat) : (l.foldl setBit w).testBit k = (decide (k ∈ l) || w.testBit k) := by
  induction l generalizing w with
  | nil => simp
  | cons i l ih =>
    rw [List.foldl_cons, ih, testBit_setBit]
    by_cases h : k = i <;> simp [h]

theorem testBit_skewOf (s : State) (d : DomainCommit) {j : Nat} (h : j < 16) :
    (s.skewOf d).testBit j = (d.members.testBit j && !(s.rd F.HR_DC_ACK_MASK 0).testBit j) := by
  have low : (s.rd F.HR_DC_ACK_MASK 0 % 65536).testBit j = (s.rd F.HR_DC_ACK_MASK 0).testBit j := by
    rw [show 65536 = 2 ^ 16 from rfl, Nat.testBit_mod_two_pow, decide_eq_true h, Bool.true_and]
  rw [skewOf, testBit_setBits, Nat.zero_testBit, Bool.or_false]
  simp [List.mem_filter, h, low]

theorem testBit_skewOf_high (s : State) (d : DomainCommit) {j : Nat} (h : 16 ≤ j) : (s.skewOf d).testBit j = false := by
  rw [skewOf, testBit_setBits, Nat.zero_testBit, Bool.or_false]
  simp [Nat.not_lt.2 h]

theorem skewOf_lt (s : State) (d : DomainCommit) : s.skewOf d < 2 ^ 16 := by
  refine Nat.lt_pow_two_of_testBit _ fun j h => s.testBit_skewOf_high d h

theorem skewOf_zero {d : DomainCommit} (h : ∀ j, j < 16 → d.members.testBit j = true → (s.rd F.HR_DC_ACK_MASK 0).testBit j = true) :
    s.skewOf d = 0 := by
  refine Nat.eq_of_testBit_eq fun j => ?_
  rw [Nat.zero_testBit]
  by_cases lt : j < 16
  · rw [testBit_skewOf s d lt]
    cases hm : d.members.testBit j
    · rfl
    · rw [h j lt hm]
      rfl
  · exact s.testBit_skewOf_high d (Nat.not_lt.1 lt)

theorem skewOf_ne_zero {d : DomainCommit} {j : Nat} (lt : j < 16) (hm : d.members.testBit j = true)
    (ha : (s.rd F.HR_DC_ACK_MASK 0).testBit j = false) : s.skewOf d ≠ 0 := by
  intro zero
  have bit := s.testBit_skewOf d lt
  rw [zero, Nat.zero_testBit, hm, ha] at bit
  exact Bool.false_ne_true bit

theorem dcClose_done {d : DomainCommit} (h : s.domain = some d) (hs : s.Alone) (hm : d.manager = true) (hd : d.decided = true)
    (hc : d.closed = false) (hp : s.past d.n (16 + s.xlead) = true) (all : s.skewOf d = 0) :
    s.dcClose = ((s.releaseOwn.setDomain none).dcStat 4 1).raise F.HR_DSTICKY_DC_DONE 0 := by
  unfold dcClose
  rw [h]
  refine (if_neg (by simp [hm, hd, hc, hp])).trans ((if_pos (beq_iff_eq.2 all)).trans ?_)
  rw [agent_release hs]
  rfl

/-- The skew is shown and the members are told to roll back. -/
def showUnapplied (s : State) (d : DomainCommit) (n2 : Tick) : State :=
  ((((s.wr F.HR_DC_SKEW_MASK 0 (s.skewOf d)).raise F.HR_DSTICKY_MODE_SKEW 0).tellMembers d 8 n2).wr F.HR_DC_STAT_STATE 0 5)

theorem dcClose_skew {d : DomainCommit} (h : s.domain = some d) (hm : d.manager = true) (hd : d.decided = true) (hc : d.closed = false)
    (hp : s.past d.n (16 + s.xlead) = true) (ho : d.own = false) (missing : s.skewOf d ≠ 0) :
    s.dcClose = (s.showUnapplied d (d.n + BitVec.ofNat 48 (16 + s.xlead + 340 + s.xlead))).setDomain
      (some { d with rollback := some (d.n + BitVec.ofNat 48 (16 + s.xlead + 340 + s.xlead)), closed := true }) := by
  unfold dcClose
  rw [h]
  refine (if_neg (by simp [hm, hd, hc, hp])).trans ((if_neg (fun e => missing (beq_iff_eq.1 e))).trans ?_)
  exact if_neg (by simp [ho])

/-! ### The worker's part (R477) -/

theorem workerCommit_named {d : DomainCommit} (h : s.domain = some d) (hs : s.Alone) (hw : s.isWorker = true) (hm : d.manager = false) :
    s.workerCommit d.change d.n = some d := by
  rw [workerCommit, h]
  exact if_pos (by simp [hw, hs.1, hm])

theorem dcGo_goes {d : DomainCommit} (named : s.workerCommit d.change d.n = some d) (hc : d.commit = false) (hg : d.go = false)
    (hd : d.decided = false) : s.dcGo d.change d.n = s.setDomain (some { d with go := true }) := by
  unfold dcGo
  rw [named]
  exact (if_neg (by simp [hg, hd])).trans (if_neg (by simp [hc]))

theorem setDomain_alone (hs : s.Alone) (d : Option DomainCommit) : (s.setDomain d).Alone := hs

theorem dcAbort_cancels {d : DomainCommit} (named : s.workerCommit d.change d.n = some d) (hs : s.Alone) (hc : d.commit = false) :
    s.dcAbort d.change d.n = (s.setDomain none).cancelOwn := by
  unfold dcAbort
  rw [named]
  exact (if_neg (by simp [hc])).trans (agent_cancel (setDomain_alone hs none))

theorem dcHold_cancels {d : DomainCommit} (h : s.domain = some d) (hs : s.Alone) (hm : d.manager = false) (hc : d.commit = false)
    (hg : d.go = false) (hd : d.decided = false) (hw : s.within d.n 8 = true) :
    s.dcHold = (s.setDomain (some { d with decided := true })).cancelOwn := by
  unfold dcHold
  rw [h]
  exact (if_neg (by simp [hm, hg, hd, hw])).trans ((if_neg (by simp [hc])).trans (agent_cancel (setDomain_alone hs _)))

theorem dcHold_gone {d : DomainCommit} (h : s.domain = some d) (hg : d.go = true) : s.dcHold = s := by
  unfold dcHold
  rw [h]
  exact if_pos (by simp [hg])

theorem dcRollback_returns {d : DomainCommit} (h : s.domain = some d) (hs : s.Alone) (hw : s.isWorker = true) (hm : d.manager = false)
    (hc : d.commit = false) (ha : d.applied = some true) (hr : d.rollback = none) (n2 : Tick) :
    s.dcRollback d.change n2 = (s.setDomain (some { d with rollback := some n2, closed := true })).armOwn n2 := by
  unfold dcRollback
  rw [h]
  refine (if_pos (by simp [hw, hs.1, hm, ha, hr])).trans ?_
  have act : (if d.commit then AgentAct.revert else .arm n2) = .arm n2 := if_neg (by simp [hc])
  exact (congrArg _ act).trans (agent_arm (setDomain_alone hs _) n2)

theorem dcRollback_ignored {d : DomainCommit} (h : s.domain = some d) (ha : d.applied ≠ some true) (n2 : Tick) :
    s.dcRollback d.change n2 = s := by
  unfold dcRollback
  rw [h]
  exact if_neg (by simp [ha])

theorem dcRollbackApply_early {d : DomainCommit} {n2 : Tick} (h : s.domain = some d) (hr : d.rollback = some n2) (hp : s.past n2 0 = false) :
    s.dcRollbackApply = s := by
  unfold dcRollbackApply
  simp only [h, hr, hp]
  rfl

theorem dcRollbackApply_ends {d : DomainCommit} {n2 : Tick} (h : s.domain = some d) (hs : s.Alone) (hr : d.rollback = some n2)
    (hp : s.past n2 0 = true) : s.dcRollbackApply =
      if d.manager then ((s.releaseOwn.setDomain none).dcStat 6 6).raise F.HR_DSTICKY_DC_DONE 0 else s.releaseOwn.setDomain none := by
  unfold dcRollbackApply
  simp only [h, hr, hp, agent_release hs]
  rfl

/-! ### What a START leaves -/

/-- The commit is open. -/
def opened (s : State) : State := ((s.openCommit.tellMembers (s.newCommit false true) 1 s.dcAt).armOwn s.dcAt).setDomain
  (some { s.newCommit false true with replyAt := some (s.now + 1) })

theorem stored_opened (s : State) : s.opened.stored = s.openCommit.stored := by
  rw [opened, stored_setDomain, stored_armOwn]
  exact congrArg Outside.stored (outside_tellMembers ..)

theorem opened_frame (s : State) : s.OnlyCopy s.opened 0 [.HR_DC_STAT, .HR_DC_ACK, .HR_DC_SKEW] := s.openCommit_frame.plain s.stored_opened

theorem opened_shows (s : State) : s.opened.rd F.HR_DC_STAT_STATE 0 = 1 ∧ s.opened.rd F.HR_DC_STAT_RESULT 0 = 0 ∧
    s.opened.rd F.HR_DC_ACK_MASK 0 = 0 ∧ s.opened.rd F.HR_DC_SKEW_MASK 0 = 0 := by
  have same (f : Field) : s.opened.rd f 0 = s.openCommit.rd f 0 := rd_congr (regs_of_stored s.stored_opened) f 0
  rw [same, same, same, same]
  exact s.openCommit_shows

theorem opened_holds (s : State) : s.opened.swap.holder = .domain ∧ s.opened.atBoundary = s.atBoundary ++ [.gridArm s.dcAt s.tick] := by
  have arms (u : State) (n : Tick) (d : Option DomainCommit) : ((u.armOwn n).setDomain d).swap.holder = .domain ∧
      ((u.armOwn n).setDomain d).atBoundary = u.atBoundary ++ [.gridArm n u.tick] := ⟨rfl, rfl⟩
  have same : (s.openCommit.tellMembers (s.newCommit false true) 1 s.dcAt).outside = s.openCommit.outside := outside_tellMembers ..
  obtain ⟨-, waits, -, tick, -⟩ := s.plain_openCommit
  obtain ⟨holder, waiting⟩ := arms (s.openCommit.tellMembers (s.newCommit false true) 1 s.dcAt) s.dcAt
    (some { s.newCommit false true with replyAt := some (s.now + 1) })
  have before : (s.openCommit.tellMembers (s.newCommit false true) 1 s.dcAt).atBoundary = s.atBoundary :=
    (congrArg Outside.atBoundary same).trans waits
  have during : (s.openCommit.tellMembers (s.newCommit false true) 1 s.dcAt).tick = s.tick := (congrArg Outside.tick same).trans tick
  refine ⟨holder, waiting.trans ?_⟩
  rw [before, during]

theorem opened_tells {j k : Nat} (h1 : 1 ≤ j) (h16 : j < 16) (hj : (s.rd F.HR_DC_CMD_MEMBERS 0).testBit j = true) (hr : s.routeTo j = some k) :
    s.opened.Told k j (commitBytes 1 false (s.newCommit false true).change s.dcAt 0) := by
  have route : s.openCommit.routeTo j = some k := by
    rw [← hr, routeTo, routeTo, on, on, rd_openCommit (by decide) (by decide) (by decide), rd_openCommit (by decide) (by decide) (by decide)]
  have moors (u : State) (n : Tick) (d : Option DomainCommit) : ((u.armOwn n).setDomain d).moor k = u.moor k := rfl
  obtain ⟨p, hp, told⟩ := tellMembers_tells (d := s.newCommit false true) h1 h16 hj route 1 s.dcAt
  exact ⟨p, by rw [opened, moors]; exact hp, told⟩

theorem newCommit_keepDc (s : State) (v : Word) : (s.keepDc v).newCommit false true =
    { manager := true, change := F.HR_DC_CMD_CHANGE.get v, commit := false, n := s.dcAt, members := F.HR_DC_CMD_MEMBERS.get v, own := true } := by
  rw [newCommit, rd_openCommit (by decide) (by decide) (by decide), dcAt_keepDc, get_keepDc rfl rfl (by decide), get_keepDc rfl rfl (by decide)]

theorem plain_keepDc (s : State) (v : Word) : (s.keepDc v).domain = s.domain ∧ (s.keepDc v).swap = s.swap ∧
    (s.keepDc v).atBoundary = s.atBoundary ∧ (s.keepDc v).now = s.now ∧ (s.keepDc v).tick = s.tick ∧ (s.keepDc v).moors = s.moors :=
  ⟨rfl, rfl, rfl, rfl, rfl, rfl⟩

theorem routeTo_keepDc (s : State) (v : Word) (j : Nat) : (s.keepDc v).routeTo j = s.routeTo j := by
  rw [routeTo, routeTo, on, on, rd_keepDc (by decide), rd_keepDc (by decide)]

/-- A write of HR_DC_CMD with START. -/
theorem exec_dcStart {v : Word} (alone : s.Alone) (start : F.HR_DC_CMD_START.get v = 1) (i : Initiator) :
    exec (.dcStart i v) s = .next (((s.keepDc v).dcStart s.tick).reply i (.ok 0)) :=
  congrArg Host.Outcome.next ((write_alone alone i 0x29000058 (.dcStart v) fun t => t.dcCommand v t.tick).trans
    (congrArg (State.reply · i (.ok 0)) (dcCommand_starts start alone s.tick)))

theorem leadFrom_keepDc (s : State) (v : Word) : leadFrom s.tick (s.keepDc v).dcAt (65 + 3 * (s.keepDc v).xlead) =
    leadFrom s.tick s.dcAt (65 + 3 * s.xlead) := by rw [dcAt_keepDc, xlead_keepDc]

theorem dcStart_keepDc {v : Word} (h : s.domain = none) (hs : s.Alone) (hm : s.isManager = true)
    (hl : leadFrom s.tick s.dcAt (65 + 3 * s.xlead) = true) (ha : F.HR_DC_CMD_ACTION.get v = 0)
    (ho : (F.HR_DC_CMD_MEMBERS.get v).testBit 0 = true) (hf : s.swap.holder = .nobody) :
    (s.keepDc v).dcStart s.tick = (s.keepDc v).opened := by
  refine dcStart_opens h (alone_congr (s.rd_keepDc (by decide) v 0) hs) ((s.isManager_keepDc v).trans hm) ((s.leadFrom_keepDc v).trans hl)
    ?_ ?_ hf
  · rw [get_keepDc rfl rfl (by decide), ha]
  · rw [get_keepDc rfl rfl (by decide), ho]

theorem reply_frame (h : s.OnlyCopy t 0 rs) (i : Initiator) (a : Answer) : s.OnlyCopy (t.reply i a) 0 rs := h.plain (stored_reply ..)

/-! ### What ABORT, ROLLBACK and the skew leave -/

theorem abortAll_shows (s : State) (d : DomainCommit) : (s.abortAll d).rd F.HR_DC_STAT_STATE 0 = 3 ∧
    (s.abortAll d).rd F.HR_DC_STAT_RESULT 0 = 5 ∧ (s.abortAll d).swap = s.swap ∧ (s.abortAll d).atBoundary = s.atBoundary ∧
      (s.abortAll d).tick = s.tick ∧ s.OnlyCopy (s.abortAll d) 0 [.HR_DC_STAT, .HR_DSTICKY] := by
  have same := s.outside_tellMembers d 5 d.n
  have plain (u : State) : (u.dcStat 3 5).swap = u.swap ∧ (u.dcStat 3 5).atBoundary = u.atBoundary ∧ (u.dcStat 3 5).tick = u.tick :=
    ⟨rfl, rfl, rfl⟩
  obtain ⟨swap, waits, tick⟩ := plain (s.tellMembers d 5 d.n)
  obtain ⟨state, result⟩ := dcStat_shows (a := 3) (b := 5) (by decide) (by decide) (s.tellMembers d 5 d.n)
  exact ⟨state, result, swap.trans (congrArg Outside.swap same), waits.trans (congrArg Outside.atBoundary same),
    tick.trans (congrArg Outside.tick same), ((OnlyCopy.refl s 0 _).ofOutside same).dcStat (by decide) 3 5⟩

/-- The end of an aborted commit. -/
def abortOwn (s : State) (d : DomainCommit) : State :=
  if d.own && s.swap.holder == .domain then s.cancelOwn else s

theorem stored_abortOwn (s : State) (d : DomainCommit) : (s.abortOwn d).stored = s.stored := by
  unfold abortOwn
  split
  · exact s.stored_cancelOwn
  · rfl

theorem showUnapplied_shows (s : State) (d : DomainCommit) (n2 : Tick) : (s.showUnapplied d n2).rd F.HR_DC_STAT_STATE 0 = 5 ∧
    (s.showUnapplied d n2).on F.HR_DSTICKY_MODE_SKEW 0 = true ∧ (s.showUnapplied d n2).rd F.HR_DC_SKEW_MASK 0 = s.skewOf d ∧
      s.OnlyCopy (s.showUnapplied d n2) 0 [.HR_DC_STAT, .HR_DC_SKEW, .HR_DSTICKY] := by
  have same := outside_tellMembers ((s.wr F.HR_DC_SKEW_MASK 0 (s.skewOf d)).raise F.HR_DSTICKY_MODE_SKEW 0) d 8 n2
  have fits : s.skewOf d < 2 ^ F.HR_DC_SKEW_MASK.width := Nat.lt_trans (s.skewOf_lt d) (by decide)
  refine ⟨rd_wr_fits rfl (by decide) _ 0, ?_, ?_, ?_⟩
  · rw [on, showUnapplied, rd_wr_apart rfl, rd_of_outside same, ← on]
    exact on_raise rfl rfl (by decide) (by decide) _ 0
  · rw [showUnapplied, rd_wr_apart rfl, rd_of_outside same, rd_raise_apart rfl (by decide) (by decide), rd_wr_fits rfl fits]
  · have raised := ((OnlyCopy.refl s 0 [.HR_DC_STAT, .HR_DC_SKEW, .HR_DSTICKY]).wr F.HR_DC_SKEW_MASK (by decide) (s.skewOf d)).raise
      F.HR_DSTICKY_MODE_SKEW (by decide)
    exact (raised.ofOutside same).wr F.HR_DC_STAT_STATE (by decide) 5

end State

/-- Settles O50: the steps of a SWAP commit of the domain, at the manager and at a worker. -/
theorem domainCommitRunsItsSteps : Obligations.DomainCommitRunsItsSteps := by
  unfold Obligations.DomainCommitRunsItsSteps
  refine ⟨fun i v s alone start => ⟨fun none_ hm lead act own free => ?_, fun none_ hm late => ?_, fun none_ hm => ?_, fun busy => ?_⟩,
    fun change n s hw alone => ⟨fun none_ mis free => ?_, fun commit k busy route => ?_⟩,
    fun mb d c s h hm hc hb => ⟨?_, ?_, fun r => ?_⟩,
    fun d s h alone hc hm => ⟨fun hd hw => ⟨fun all => ?_, fun partly => ?_⟩, fun early => ?_,
      fun hd hcl hp => ⟨fun all => ?_, fun ho missing => ?_⟩, fun early => ?_⟩,
    fun d c s h alone hw hm hc hn => ?_,
    fun d n2 s h alone hr => ⟨fun hp hm => ?_, fun hp hm => ?_, fun early => ?_⟩⟩
  · have run := (State.exec_dcStart alone start i).trans (congrArg (fun u : State => Host.Outcome.next (u.reply i (.ok 0)))
      (State.dcStart_keepDc none_ alone hm lead act own free))
    obtain ⟨state, result, ack, skew⟩ := (s.keepDc v).opened_shows
    obtain ⟨holder, waits⟩ := (s.keepDc v).opened_holds
    have frame := State.reply_frame (((s.keepDc_frame v).mono (qs := [.HR_DC_CMD, .HR_DC_STAT, .HR_DC_ACK, .HR_DC_SKEW]) (by decide)).trans
      ((s.keepDc v).opened_frame.mono (by decide))) i (.ok 0)
    refine ⟨_, run, (State.rd_reply ..).trans state, (State.rd_reply ..).trans result, (State.rd_reply ..).trans ack,
      (State.rd_reply ..).trans skew, (congrArg Swap.holder (State.reply_swap ..)).trans holder, (State.reply_atBoundary ..).trans ?_,
      (State.reply_domain ..).trans ?_, fun j k h1 h16 hj hr => ?_, State.answer_reply .., frame.regs, frame.memory⟩
    · rw [waits, s.dcAt_keepDc]
      rfl
    · rw [State.opened, s.newCommit_keepDc]
      rfl
    · have told := State.opened_tells (s := s.keepDc v) h1 h16 (by rw [State.get_keepDc rfl rfl (by decide)]; exact hj)
        ((s.routeTo_keepDc v j).trans hr)
      rw [s.newCommit_keepDc, s.dcAt_keepDc] at told
      obtain ⟨p, hp, dst, type, payload⟩ := told
      exact ⟨p, by rw [State.moor_congr (State.reply_moors ..) k]; exact hp, dst, type, payload⟩
  · have run := (State.exec_dcStart alone start i).trans (congrArg (fun u : State => Host.Outcome.next (u.reply i (.ok 0)))
      (State.dcStart_late (s := s.keepDc v) none_ ((s.isManager_keepDc v).trans hm) ((s.leadFrom_keepDc v).trans late)))
    have frame := State.reply_frame (((((s.keepDc_frame v).mono (qs := [.HR_DC_CMD, .HR_DC_STAT, .GRID_STICKY]) (by decide)).wr
      F.HR_DC_STAT_RESULT (by decide) 4).raise F.GRID_STICKY_TICK_LATE (by decide))) i (.ok 0)
    refine ⟨_, run, (State.rd_reply ..).trans ?_, ?_, (State.reply_domain ..).trans ((State.raise_domain ..).trans none_),
      (State.reply_moors ..).trans ((State.raise_moors ..).trans rfl), frame.regs, frame.memory⟩
    · rw [State.tickLate, State.rd_raise_apart rfl (by decide) (by decide)]
      exact State.rd_wr_fits rfl (by decide) _ 0
    · rw [State.on, State.rd_reply, ← State.on]
      exact State.on_raise rfl rfl (by decide) (by decide) _ 0
  · have run := (State.exec_dcStart alone start i).trans (congrArg (fun u : State => Host.Outcome.next (u.reply i (.ok 0)))
      (State.dcStart_notManager (s := s.keepDc v) none_ ((s.isManager_keepDc v).trans hm) s.tick))
    have frame := State.reply_frame (((s.keepDc_frame v).mono (qs := [.HR_DC_CMD, .HR_DC_STAT]) (by decide)).wr F.HR_DC_STAT_RESULT
      (by decide) 3) i (.ok 0)
    exact ⟨_, run, (State.rd_reply ..).trans (State.rd_wr_fits (f := F.HR_DC_STAT_RESULT) rfl (by decide) _ 0),
      (State.reply_domain ..).trans none_, State.reply_moors .., frame.regs, frame.memory⟩
  · have run := (State.exec_dcStart alone start i).trans (congrArg (fun u : State => Host.Outcome.next (u.reply i (.ok 0)))
      (State.dcStart_busy (s := s.keepDc v) busy s.tick))
    have frame := State.reply_frame (((s.keepDc_frame v).mono (qs := [.HR_DC_CMD, .HR_DC_STAT]) (by decide)).wr F.HR_DC_STAT_RESULT
      (by decide) 2) i (.ok 0)
    exact ⟨_, run, (State.rd_reply ..).trans (State.rd_wr_fits (f := F.HR_DC_STAT_RESULT) rfl (by decide) _ 0),
      State.reply_domain .., State.reply_moors .., frame.regs, frame.memory⟩
  · exact ⟨_, congrArg Host.Outcome.next (State.dcArm_arms hw alone none_ mis free n), rfl, rfl, rfl, rfl, ⟨rfl, rfl, rfl, rfl⟩⟩
  · have same := s.outside_sendOwn 0 1 (commitBytes 3 commit change.val n 0xF1)
    have stored := congrArg Outside.stored same
    exact ⟨_, congrArg Host.Outcome.next (State.dcArm_busy hw alone busy change.val commit n), congrArg Outside.domain same,
      State.urgent_sendOwn_route (by decide) route _, State.regs_of_stored stored, State.sameMemory_of_stored stored⟩
  · have frame : s.OnlyCopy (s.noteAnswer (16 + mb.val)) 0 [.HR_DC_ACK] := (State.OnlyCopy.refl s 0 _).wr F.HR_DC_ACK_MASK (by decide) _
    have run := State.dcReply_named h hm hb .armed
    rw [hc] at run
    exact ⟨_, congrArg Host.Outcome.next run, fun k hk => State.noteAnswer_notes (by omega) s hk, rfl, frame.regs, frame.memory⟩
  · have frame : s.OnlyCopy (s.noteAnswer mb.val) 0 [.HR_DC_ACK] := (State.OnlyCopy.refl s 0 _).wr F.HR_DC_ACK_MASK (by decide) _
    have run := State.dcReply_named h hm hb .applied
    rw [hc] at run
    exact ⟨_, congrArg Host.Outcome.next run, fun k hk => State.noteAnswer_notes (by omega) s hk, rfl, frame.regs, frame.memory⟩
  · have run := State.dcReply_named h hm hb (.refused r)
    rw [hc] at run
    exact congrArg Host.Outcome.next run
  · have same := s.outside_tellMembers d 4 d.n
    have frame := (((State.OnlyCopy.refl s 0 [.HR_DC_STAT]).ofOutside same).wr F.HR_DC_STAT_STATE (by decide) 2).plain
      (State.stored_setDomain _ (some { d with decided := true, go := true }))
    exact ⟨_, congrArg Host.Outcome.next (State.dcDecide_goes h hc hm hd hw all), rfl,
      State.rd_wr_fits (f := F.HR_DC_STAT_STATE) rfl (by decide) _ 0,
      frame.regs, frame.memory⟩
  · have run : s.dcDecide = (((s.abortAll d).abortOwn d).setDomain none).raise F.HR_DSTICKY_DC_DONE 0 :=
      State.dcDecide_aborts h alone hc hm hd hw partly
    obtain ⟨state, result, swap, waits, tick, frame⟩ := s.abortAll_shows d
    have whole := (frame.plain ((State.stored_setDomain _ none).trans (State.stored_abortOwn _ d))).raise F.HR_DSTICKY_DC_DONE (by decide)
    have same (f : Field) : (((s.abortAll d).abortOwn d).setDomain none).rd f 0 = (s.abortAll d).rd f 0 :=
      State.rd_congr (State.regs_of_stored ((State.stored_setDomain _ none).trans (State.stored_abortOwn _ d))) f 0
    refine ⟨_, congrArg Host.Outcome.next run, (State.raise_domain ..).trans rfl, ?_, ?_, State.on_raise rfl rfl (by decide) (by decide) _ 0,
      fun ho held => ?_, whole.regs, whole.memory⟩
    · rw [State.rd_raise_apart rfl (by decide) (by decide), same, state]
    · rw [State.rd_raise_apart rfl (by decide) (by decide), same, result]
    · have holder : (s.abortAll d).swap.holder = .domain := (congrArg Swap.holder swap).trans held
      have cancels : (s.abortAll d).abortOwn d = (s.abortAll d).cancelOwn := if_pos (by simp [ho, holder])
      have plain (u : State) : (u.cancelOwn.setDomain none).swap.holder = u.cancelOwn.swap.holder ∧
          (u.cancelOwn.setDomain none).atBoundary = u.atBoundary ++ [.gridCancel u.tick] := ⟨rfl, rfl⟩
      rw [State.raise_swap, State.raise_atBoundary, cancels, (plain _).1, (plain _).2, State.holder_cancelOwn holder, waits, tick]
      exact ⟨rfl, rfl⟩
  · exact congrArg Host.Outcome.next (State.dcDecide_early h early)
  · have run := State.dcClose_done h alone hm hd hcl hp (State.skewOf_zero all)
    have base : s.OnlyCopy (s.releaseOwn.setDomain none) 0 [.HR_DC_STAT, .HR_DSTICKY] :=
      (State.OnlyCopy.refl s 0 _).plain ((State.stored_setDomain ..).trans (State.stored_releaseOwn s))
    have frame := (base.dcStat (by decide) 4 1).raise F.HR_DSTICKY_DC_DONE (by decide)
    obtain ⟨state, result⟩ := State.dcStat_shows (a := 4) (b := 1) (by decide) (by decide) (s.releaseOwn.setDomain none)
    refine ⟨_, congrArg Host.Outcome.next run, (State.raise_domain ..).trans rfl, ?_, ?_, State.on_raise rfl rfl (by decide) (by decide) _ 0,
      fun hs => ?_, frame.regs, frame.memory⟩
    · rw [State.rd_raise_apart rfl (by decide) (by decide), state]
    · rw [State.rd_raise_apart rfl (by decide) (by decide), result]
    · rw [State.raise_swap]
      exact State.holder_releaseOwn hs
  · obtain ⟨j, lt, member, lacks⟩ := missing
    have run := State.dcClose_skew h hm hd hcl hp ho (State.skewOf_ne_zero lt member lacks)
    obtain ⟨state, raised, mask, frame⟩ := s.showUnapplied_shows d (d.n + BitVec.ofNat 48 (16 + s.xlead + 340 + s.xlead))
    have whole := frame.plain (State.stored_setDomain _
      (some { d with rollback := some (d.n + BitVec.ofNat 48 (16 + s.xlead + 340 + s.xlead)), closed := true }))
    have same (u : State) (e : Option DomainCommit) (f : Field) : (u.setDomain e).rd f 0 = u.rd f 0 := rfl
    refine ⟨_, congrArg Host.Outcome.next run, (same ..).trans state, ?_, fun j lt => ?_, rfl, whole.regs, whole.memory⟩
    · rw [State.on, same, ← State.on, raised]
    · rw [same, mask, State.testBit_skewOf s d lt]
  · exact congrArg Host.Outcome.next (State.dcClose_early h early)
  · have named := State.workerCommit_named h alone hw hm
    refine ⟨fun hg hd => ?_, ?_, fun hg hd hwi => ?_, fun hg => ?_, fun n2 ha hr => ?_, fun n2 ha => ?_⟩
    · exact ⟨_, congrArg Host.Outcome.next ((congrArg (s.dcGo · d.n) hn.symm).trans (State.dcGo_goes named hc hg hd)), rfl,
        rfl, ⟨rfl, rfl, rfl, rfl⟩⟩
    · exact ⟨_, congrArg Host.Outcome.next ((congrArg (s.dcAbort · d.n) hn.symm).trans (State.dcAbort_cancels named alone hc)),
        rfl, rfl, rfl, ⟨rfl, rfl, rfl, rfl⟩⟩
    · exact ⟨_, congrArg Host.Outcome.next (State.dcHold_cancels h alone hm hc hg hd hwi), rfl, rfl, rfl, ⟨rfl, rfl, rfl, rfl⟩⟩
    · exact congrArg Host.Outcome.next (State.dcHold_gone h hg)
    · exact ⟨_, congrArg Host.Outcome.next ((congrArg (s.dcRollback · n2) hn.symm).trans
        (State.dcRollback_returns h alone hw hm hc ha hr n2)), rfl, rfl, rfl, rfl, ⟨rfl, rfl, rfl, rfl⟩⟩
    · exact congrArg Host.Outcome.next ((congrArg (s.dcRollback · n2) hn.symm).trans (State.dcRollback_ignored h ha n2))
  · have run := (State.dcRollbackApply_ends h alone hr hp).trans (if_pos hm)
    have base : s.OnlyCopy (s.releaseOwn.setDomain none) 0 [.HR_DC_STAT, .HR_DSTICKY] :=
      (State.OnlyCopy.refl s 0 _).plain ((State.stored_setDomain ..).trans (State.stored_releaseOwn s))
    have frame := (base.dcStat (by decide) 6 6).raise F.HR_DSTICKY_DC_DONE (by decide)
    obtain ⟨state, result⟩ := State.dcStat_shows (a := 6) (b := 6) (by decide) (by decide) (s.releaseOwn.setDomain none)
    refine ⟨_, congrArg Host.Outcome.next run, (State.raise_domain ..).trans rfl, ?_, ?_, State.on_raise rfl rfl (by decide) (by decide) _ 0,
      frame.regs, frame.memory⟩
    · rw [State.rd_raise_apart rfl (by decide) (by decide), state]
    · rw [State.rd_raise_apart rfl (by decide) (by decide), result]
  · have run := (State.dcRollbackApply_ends h alone hr hp).trans (if_neg (by simp [hm]))
    exact ⟨_, congrArg Host.Outcome.next run, rfl, rfl, ⟨rfl, rfl, rfl, rfl⟩⟩
  · exact congrArg Host.Outcome.next (State.dcRollbackApply_early h hr early)

end Sys2Proof.Machine
end

section
/-! A leaf event whose source is routed to an MSI-X vector sends that vector's message at once (R577, R580). Two statements say of a command
that raises an event what is sent, and do not count that message: they fail (O51, O52). -/

namespace Sys2Proof.Machine

/-- A host that takes MSI-X messages (R527, R529): source `src` is routed to vector 0, and the vector is not masked (R577). -/
def listeningHost (src : Nat) : State :=
  let s := { State.reset with linkUp := true, busMaster := true, pcie := { msixEnable := true } }
  (s.wr F.EV_SRC_CFG_DEST src 2).wr F.MSIX_CTRL_MASK 0 0

/-- A flash command runs, and the source of QSPI_ERR, 5, is routed to a vector the host takes. -/
def flashBusy : State := (listeningHost 5).wr F.SY_QSPI_CMD_BUSY 0 1

theorem flashBusy_busy : flashBusy.on F.SY_QSPI_CMD_BUSY 0 = true := by decide +kernel

/-- GO while a command runs raises QSPI_ERR (R534), and its message leaves. -/
theorem qspiGo_flashBusy_sends : ((flashBusy.qspiGo 0).reply host (.ok 0)).outbox = [.msix 0 0 0] := by decide +kernel

theorem flashBusy_sent_nothing : flashBusy.outbox = [] := by decide +kernel

/-- Refutes O51: GO while a flash command runs sends the MSI-X message of QSPI_ERR where its source is routed to a vector (R534, R577);
the statement says that nothing is sent. -/
theorem not_controlPlaneUnitsAct : ¬ Obligations.ControlPlaneUnitsAct := by
  unfold Obligations.ControlPlaneUnitsAct
  rintro ⟨-, -, -, -, -, -, -, hflash, -⟩
  obtain ⟨t, run, sent, -⟩ := (hflash host 0 flashBusy rfl).2 flashBusy_busy
  have reached : (flashBusy.qspiGo 0).reply host (.ok 0) = t := Host.Outcome.next.inj run
  rw [← reached, qspiGo_flashBusy_sends, flashBusy_sent_nothing] at sent
  exact absurd sent (List.cons_ne_nil _ _)

end Sys2Proof.Machine
end

section
/-! The local bus answers its host at a timeout, and the timeout is an event as well: where a source of it is routed to an MSI-X vector, the
vector's message leaves before the answer (R516, R530, R577). -/

namespace Sys2Proof.Machine

/-- Out of PORSTn with the local bus on, and the source of BM_STICKY.TIMEOUT, 417, routed to a vector the host takes. -/
def bothHosts : State := (listeningHost 417).modBoot fun b => { b with porst := false }

theorem bothHosts_localOn : bothHosts.localOn = true := by decide +kernel

theorem bothHosts_sent_nothing : bothHosts.outbox = [] := by decide +kernel

/-- The timeout of the local bus raises TIMEOUT, whose message leaves, and is answered (R516, R530). -/
theorem localTimeout_bothHosts_sends : (bothHosts.localTimeout false 0).outbox = [.msix 0 0 0, .localBus false true 0] := by
  decide +kernel

/-- Refutes O52: a timeout of the local bus sends the MSI-X message of BM_STICKY.TIMEOUT where its source is routed to a vector, and then its
answer (R516, R530, R577); the statement says that the answer alone is sent. -/
theorem not_hostsReachTheDevice : ¬ Obligations.HostsReachTheDevice := by
  unfold Obligations.HostsReachTheDevice
  rintro ⟨-, -, -, -, -, -, hlocal, -⟩
  obtain ⟨-, -, -, htimeout⟩ := hlocal 0 0 0 {} bothHosts bothHosts_localOn
  obtain ⟨t, run, sent, -⟩ := htimeout false
  have reached : bothHosts.localTimeout false 0 = t := Host.Outcome.next.inj run
  rw [← reached, localTimeout_bothHosts_sends, bothHosts_sent_nothing] at sent
  exact absurd (congrArg List.length sent) (by decide)

end Sys2Proof.Machine
end
